-- ==== Sys2Proof/Word.lean ====
section
/-! DEFINITION. The word types of the Ranlas 2618 model and their plainest arithmetic. Registers are
32 bits (R5), road counts 48 bits (R167), line counts 40 bits (R189). -/

namespace Sys2Proof

/-- One byte of a message, a bank or DRAM. -/
abbrev Byte := BitVec 8

/-- A register word: 32 bits (R5). -/
abbrev Word := BitVec 32

/-- A datagram, frame or memory slice, first byte first. -/
abbrev Bytes := List Byte

/-- Head port, 0 to 63 (R3, vocabulary of 00_scope). -/
abbrev Port := Fin 64

/-- Row segment (also stripe and strand), 0 to 511 (R4). -/
abbrev Seg := Fin 512

/-- Encoder channel ENC0 to ENC3. -/
abbrev Enc := Fin 4

/-- Milestone unit, 0 to 31. -/
abbrev Ms := Fin 32

/-- Camera context, 0 to 7. -/
abbrev Ctx := Fin 8

/-- Stepper axis AX0 to AX3. -/
abbrev Axis := Fin 4

/-- Drop gate GATE0 or GATE1. -/
abbrev Gate := Fin 2

/-- Network port NET0 or NET1. -/
abbrev NetPort := Fin 2

/-- PTP domain 0 or 1. -/
abbrev Dom := Fin 2

/-- DRAM channel, 0 to 7. -/
abbrev Chan := Fin 8

/-- On-chip bank, numbered as R330 numbers them: 0 STRAND, 1 STAGGER, 2 NOZZLE, 3 COUNT, 4 VIEW,
5 CAPTURE, 6 PLACE. -/
abbrev Bank := Fin 7

end Sys2Proof
end

