-- ==== Sys2Proof/Syntax.lean ====
section
/-! DEFINITION. The commands of the block: one constructor of `Instr` per row of spec/opcode_table.json.
The table gives the rows no operands, so the operands are the model's (log 1): what the row's event
carries from outside (the bytes of a datagram, the value of a register write, a physical reading). -/

namespace Sys2Proof

/-- The masters of the register space (19_address_map; R510, R513). -/
inductive Master where
  | image
  | rmp
  | waypost
deriving DecidableEq, Repr

/-- One access to an indexed data register: a read, or a write of a value. -/
inductive Access where
  | read
  | write (v : Word)
deriving DecidableEq, Repr

/-- A session: source IP address (IPv4 in the low 32 bits when `v6` is false), source UDP port (R66). -/
structure Session where
  v6 : Bool
  ip : BitVec 128
  port : BitVec 16
deriving DecidableEq, Repr

/-- The three rails that on-chip monitors watch (R453). -/
inductive Rail where
  | core
  | sram
  | io18
deriving DecidableEq, Repr

/-- The pairs of an encoder channel (R163); log arguments number them 0, 1, 2. -/
inductive EncPair where
  | a
  | b
  | z
deriving DecidableEq, Repr

/-- The causes of ENC_LOST: a disagree of pair A or B lasting 1 µs (R163), or three discarded SSI frames (R170). -/
inductive LostCause where
  | pairA
  | pairB
  | ssi
deriving DecidableEq, Repr

/-- The pulse outputs of R183. -/
inductive PulseOut where
  | msOut (m : Fin 4)
  | camTrig (m : Fin 4)
deriving DecidableEq, Repr

/-- Why the MAC discards a received frame (R375). -/
inductive NetDrop where
  | fcs
  | long
  | addr
  | vlan
  | pause
  | proto
deriving DecidableEq, Repr

/-- The EtherTypes that R375 tells apart. -/
inductive Ether where
  | ipv4
  | ipv6
  | arp
  | ptp
  | other
deriving DecidableEq, Repr

/-- A received Ethernet frame as the MAC judges it (R375, R376): `len` counts its bytes from the destination address to the check
sequence, `vids` its IEEE 802.1Q tags, `ip` is the destination address of an IP packet and `udp` its destination port if it is a
UDP datagram; `control` marks a MAC control frame, `sums` that IP and UDP checksums hold. -/
structure Frame where
  len : Nat
  fcs : Bool
  control : Bool
  dst : BitVec 48
  src : BitVec 48
  vids : List (BitVec 12)
  ether : Ether
  ip : BitVec 128
  fragment : Bool
  sums : Bool
  udp : Option (BitVec 16)
deriving DecidableEq, Repr

/-- A frame and the network port on which it arrives. -/
structure Arrival where
  port : NetPort
  frame : Frame
deriving DecidableEq, Repr

/-- What a camera port receives beside the packets of its contexts (R277): a packet of a virtual channel (with its VCX bits above) and data
type, a header with an uncorrectable error, a header whose single-bit error was corrected (its packet follows), an escape-mode
command, or a change of its lanes to or from high-speed reception and ULPS (R298). -/
inductive CamIgnored where
  | packet (vc : BitVec 4) (dt : BitVec 6)
  | badHeader
  | correctedHeader
  | escape
  | lanes (hs ulps : Bool)
deriving DecidableEq, Repr

/-- Bits of one 8-byte word that a read finds different from what was written (R302, R321): the place of the word among those that the
access touches, its data and check bits, and, in DRAM, the address bits of the word that answered in its place. They are the memory's
physical answer, so they come with the command. -/
structure Flip where
  word : Nat
  data : BitVec 64
  check : BitVec 8
  addr : BitVec 29
deriving DecidableEq, Repr

/-- An ARP request or a neighbour solicitation, or with `reply` an ARP reply or a neighbour advertisement (R379),
addresses as 128-bit numbers (IPv4 in the low 32). -/
structure NeighMsg where
  v6 : Bool
  reply : Bool
  senderIp : BitVec 128
  senderMac : BitVec 48
  targetIp : BitVec 128
deriving DecidableEq, Repr

/-- PTP transports (R385). -/
inductive PtpTransport where
  | l2
  | ipv4
  | ipv6
deriving DecidableEq, Repr

/-- The counter a read of a SECLO register captures (R382): domain n, or device time. -/
inductive TimeSel where
  | dom (d : Dom)
  | device
deriving DecidableEq, Repr

/-- The log entry whose word 0 is read (R505): the latch of a class, or a ring slot. -/
inductive LogSel where
  | latch (c : Fin 4)
  | slot (n : Fin 256)
deriving DecidableEq, Repr

/-- A lane that trains, and its receiver: a head port's or one of the tether's (R244, R248, R422). -/
inductive RxLane where
  | head (p : Port)
  | tether (l : Fin 2)
deriving DecidableEq, Repr

/-- A TS1, or with `two` a TS2, as received (R243). -/
structure TrainSet where
  two : Bool
  link : BitVec 8
  rate : BitVec 8
  tflags : BitVec 8
  version : BitVec 8
deriving DecidableEq, Repr

/-- What a receiver has in POLL (R248, R250): the polarity of the first valid comma, and the latest training sets received in a row, each
with valid symbols. -/
structure PollSeen where
  inverted : Bool
  sets : List TrainSet
deriving DecidableEq, Repr

/-- What a receiver has in LOCK (R250): TS2 received in a row without an error, TS2 sent since the first TS2 was received, whether its
clock recovery is locked and its adaptation converged; for the tether the skew of its lanes in symbols (R423). -/
structure LockSeen where
  ts2 : Nat
  sent : Nat
  cdr : Bool
  adapted : Bool
  skew : Int
deriving DecidableEq, Repr

/-- What was seen of a received frame beside its bytes (R268): code and disparity errors inside, a K symbol other than EOF, a realignment
within it (R244), and whether its EOF is missing. -/
structure RxFlaws where
  errs : Nat
  badK : Bool
  realigned : Bool
  noEof : Bool
deriving DecidableEq, Repr

/-- The symbol that ends a receiver's freeze (R247). -/
inductive ResumeSym where
  | align
  | ts1
  | ts2
  | sof
deriving DecidableEq, Repr

/-- What start-up verification of a DRAM channel reads back (R305): for each trial offset in order, the bytes of lane 0 and lane 1 in each
verify row. -/
abbrev VerifyReads := List (List (List (BitVec 8) × List (BitVec 8)))

/-- What the measurement unit times on a generator (R443), in ps: the delay of each of its 20 delay elements, and the mean error of its edge
with no element and FTRIM 0. -/
structure FegTimes where
  elems : List Nat
  base : Int
deriving DecidableEq, Repr

/-- A calibrated value whose slew step is due (R442). -/
inductive CalTarget where
  | ftrim (gen : Fin 68)
  | swing (lane : Fin 66)
  | deemph (lane : Fin 66)
  | sampler (lane : Fin 66)
  | comparator (c : Fin 10)
  | dram (ch : Chan) (field : Fin 10)
deriving DecidableEq, Repr

/-- The commands of the block, one constructor per row of spec/opcode_table.json, in its order. -/
inductive Instr where
  /-- REGISTER_WRITE (R511): a register write of `v` at byte address `addr`. -/
  | registerWrite (m : Master) (addr v : Word)
  /-- SUPPLY_LOW (R453): the rail falls below its range. -/
  | supplyLow (r : Rail)
  /-- RESET_ASSERT (R454): RESET_N is taken. -/
  | resetAssert
  /-- RESET_RELEASE (R455, R458): RESET_N is released, with the straps as sampled. -/
  | resetRelease (bootSel : BitVec 2) (pairRole : Bool)
  /-- KEEP_RESET (R456). -/
  | keepReset
  /-- KEEP_RESET_RELEASE (R161). -/
  | keepResetRelease
  /-- IMAGE_HEADER_READ (R470): the 64 header bytes of slot A and slot B as read. -/
  | imageHeaderRead (a b : Bytes)
  /-- IMAGE_PASS1_DONE (R471): the bytes of the candidate as pass 1 read them. -/
  | imagePass1Done (img : Bytes)
  /-- IMAGE_RECORD_APPLY (R472): one record's bytes as pass 2 read them. -/
  | imageRecordApply (rec : Bytes)
  /-- IMAGE_PASS2_DONE (R472): pass 2 ends; `boot` is what the entropy source gives (R397). -/
  | imagePass2Done (boot : BitVec 64)
  /-- READY_CRITERIA_MET (R474). -/
  | readyCriteriaMet
  /-- LANEWAIT_EXPIRE (R474). -/
  | lanewaitExpire
  /-- BOOT_TIMEOUT (R475). -/
  | bootTimeout
  /-- DRAM_VERIFY_DONE (R306): per channel, the outcome of lane 0 and lane 1. -/
  | dramVerifyDone (res : List VerifyReads)
  /-- FIRE_LOCK (R195). -/
  | fireLock
  /-- FIRE_UNLOCK (R195). -/
  | fireUnlock
  /-- OTP_UNLOCK (R478): a write to CFG_OTP_UNLOCK. -/
  | otpUnlock (m : Master) (v : Word)
  /-- OTP_PROGRAM (R478): a PROGRAM written to CFG_OTP_CMD. -/
  | otpProgram (m : Master) (slot : Fin 8)
  /-- OTP_REVOKE (R478). -/
  | otpRevoke (m : Master) (slot : Fin 8)
  /-- OTP_PIN (R478). -/
  | otpPin (m : Master)
  /-- OTP_DONE (R478). -/
  | otpDone
  /-- PACE_MEASURE (R19): the time, in 125 ps, that the replica of each of the 32 monitors took per line. -/
  | paceMeasure (measured : List Nat)
  /-- PACE_CLR (R19): a write to SYS_PACE_CLR. -/
  | paceClr (m : Master) (v : Word)
  /-- KNOT_IMMEDIATE (R26). -/
  | knotImmediate (m : Master)
  /-- KNOT_MILESTONE (R26). -/
  | knotMilestone (m : Master) (ms : Ms)
  /-- KNOT_ROAD_COUNT (R518). -/
  | knotRoadCount (m : Master)
  /-- KNOT_CANCEL (R29). -/
  | knotCancel (m : Master)
  /-- KNOT_TAKE (R26). -/
  | knotTake
  /-- STRAND_MIGRATE (R158). -/
  | strandMigrate (n : Seg)
  /-- GEO_CHECK (R60): a write to FIR_GEO_CHECK. -/
  | geoCheck (m : Master) (v : Word)
  /-- GEO_CHECK_DONE (R60). -/
  | geoCheckDone
  /-- RES_DATA_ACCESS (R57). -/
  | resDataAccess (m : Master) (acc : Access)
  /-- ENCODER_EDGE (R165): the accepted levels of A and B after one accepted sample; `fast` when the
  count follows the channel's previous count by less than 25 ns (R166); `more` when another event of
  the same 5 ns sample changes this road count (R179). -/
  | encoderEdge (ch : Enc) (a b fast more : Bool)
  /-- WIRE_DISAGREE (R163). -/
  | wireDisagree (ch : Enc) (pair : EncPair)
  /-- WIRE_AGREE (R163). -/
  | wireAgree (ch : Enc) (pair : EncPair)
  /-- ENC_LOST (R163, R170). -/
  | encLost (cause : LostCause)
  /-- INDEX (R171): an accepted rising edge of Z; `more` as in ENCODER_EDGE. -/
  | index (ch : Enc) (more : Bool)
  /-- INDEX_ARM (R171): a write to POS_CHn_IDX with ARM set. -/
  | indexArm (m : Master) (ch : Enc) (v : Word)
  /-- SSI_FRAME_START (R168): a frame is due; the level of the data line. -/
  | ssiFrameStart (ch : Enc) (dataHigh : Bool)
  /-- SSI_WORD (R170): the data bits as clocked in, first bit most significant, and the parity bit. -/
  | ssiWord (ch : Enc) (w : Word) (parity : Bool)
  /-- SSI_RELEASE_TIMEOUT (R169). -/
  | ssiReleaseTimeout (ch : Enc)
  /-- OBSERVER_UPDATE (R173). -/
  | observerUpdate (ch : Enc)
  /-- PT_SYNTH_STEP (R178). -/
  | ptSynthStep (ch : Enc)
  /-- POS_CHANNEL_CONFIG (R185): a write to POS_CHn_CTL. -/
  | posChannelConfig (m : Master) (ch : Enc) (v : Word)
  /-- POS_SNAPSHOT (R186): a read of POS_CHn_CNTLO. -/
  | posSnapshot (m : Master) (ch : Enc)
  /-- MILESTONE_ARM (R180): a write to MIL_MSn_CTL with ARM set. -/
  | milestoneArm (m : Master) (ms : Ms) (v : Word)
  /-- MILESTONE_DISARM (R187): a write to MIL_MSn_CTL with ARM clear. -/
  | milestoneDisarm (m : Master) (ms : Ms) (v : Word)
  /-- MILESTONE_CMP_COMMIT (R187): a write to MIL_MSn_CMPHI. -/
  | milestoneCmpCommit (m : Master) (ms : Ms) (v : Word)
  /-- MILESTONE_CMP_READ (R187): a read of MIL_MSn_CMPLO. -/
  | milestoneCmpRead (m : Master) (ms : Ms)
  /-- MILESTONE_HIT_READ (R187): a read of MIL_MSn_HITLO. -/
  | milestoneHitRead (m : Master) (ms : Ms)
  /-- MILESTONE_FIRE (R179). -/
  | milestoneFire (ms : Ms)
  /-- MS_OUT_PULSE_END (R183). -/
  | msOutPulseEnd (out : PulseOut)
  /-- EXT_SYNC_CAPTURE (R184): an accepted edge of EXT_SYNC n. -/
  | extSyncCapture (n : Fin 2) (rising : Bool)
  /-- SYNC_CAPTURE_READ (R187): a read of MIL_SYNCn_CAPLO. -/
  | syncCaptureRead (m : Master) (n : Fin 2)
  /-- POSITION_SAMPLE (R189): a sample of the print channel reaches FIRE at instant `t`, in 125 ps. -/
  | positionSample (t : Nat)
  /-- STRIKE (R196): the port's frozen instant comes; `cmpPs` is the edge difference the measurement
  unit sees when the port's generator is in MATCH or RETURN (R445). -/
  | strike (p : Port) (cmpPs : Int)
  /-- SPOOL_DECODE_LINE (R145). -/
  | spoolDecodeLine (spool : Fin 64)
  /-- STRAND_FETCH_ISSUE (R143). -/
  | strandFetchIssue (n : Seg)
  /-- STRAND_FETCH_DONE (R142). -/
  | strandFetchDone (n : Seg)
  /-- SPD_ADV_FRAME (R154). -/
  | spdAdvFrame
  /-- NOZZLE_MAP_LINE (R214): stage 5 takes the oldest released row-segment line. -/
  | nozzleMapLine
  /-- DETOUR_LANE_FREE (R233): the lane of the pair source, target. -/
  | detourLaneFree (src tgt : BitVec 18)
  /-- STAGGER_LINE (R199): stage 6 takes the segment's oldest mapped line. -/
  | staggerLine (n : Seg)
  /-- FRAME_BUILD (R202). -/
  | frameBuild (p : Port)
  /-- LINE_FRAME_SEND (R204): `late` when the last symbol leaves the lane later than 200 ns before the strike. -/
  | lineFrameSend (p : Port) (late : Bool)
  /-- TOW_DROP (R68). -/
  | towDrop (rx : Arrival) (ss : Session) (d : Bytes)
  /-- TOWLINE_RESERVED_TYPE (R68). -/
  | towlineReservedType (rx : Arrival) (ss : Session) (d : Bytes)
  /-- LAYER_ANNOUNCE (R73). -/
  | layerAnnounce (rx : Arrival) (ss : Session) (d : Bytes)
  /-- BLOCK_DATA (R78). -/
  | blockData (rx : Arrival) (ss : Session) (d : Bytes)
  /-- LAYER_CLOSE (R91). -/
  | layerClose (rx : Arrival) (ss : Session) (d : Bytes)
  /-- LAYER_RESTART (R93). -/
  | layerRestart (rx : Arrival) (ss : Session) (d : Bytes)
  /-- LAYER_RELEASE (R94). -/
  | layerRelease (rx : Arrival) (ss : Session) (d : Bytes)
  /-- STATUS_REQ (R96). -/
  | statusReq (rx : Arrival) (ss : Session) (d : Bytes)
  /-- ACK_TIMER (R86): for one layer. -/
  | ackTimer (layer : Word)
  /-- FRAGMENT_WRITTEN (R85): the oldest fragment not yet written. -/
  | fragmentWritten
  /-- COMPRESSOR_START (R131). -/
  | compressorStart
  /-- CHAIN_DRAIN (R128). -/
  | chainDrain (c : Fin 2)
  /-- COMPRESS_ABANDON (R129). -/
  | compressAbandon (c : Fin 2)
  /-- COMPRESSION_COMPLETE (R130). -/
  | compressionComplete (c : Fin 2)
  /-- NOZZLE_REQUEST (R220): a write to NZL_REQ_GO. -/
  | nozzleRequest (m : Master) (v : Word)
  /-- NOZZLE_SWAP (R217): the updater applies its next due change. -/
  | nozzleSwap
  /-- JOURNAL_READ_LO (R237). -/
  | journalReadLo (m : Master)
  /-- JOURNAL_READ_HI (R237). -/
  | journalReadHi (m : Master)
  /-- GATE_START (R225): a write of START to GAT_n_CMD. -/
  | gateStart (m : Master) (g : Gate)
  /-- GATE_ABORT_CMD (R226): a write of ABORT to GAT_n_CMD. -/
  | gateAbortCmd (m : Master) (g : Gate)
  /-- GATE_SWEEP_BEGIN (R227). -/
  | gateSweepBegin (g : Gate)
  /-- GATE_TEST_STRIKE (R227). -/
  | gateTestStrike (g : Gate)
  /-- GATE_EDGE (R227): a filtered edge to the active level, `at` in 100 ns after the slot's first strike. -/
  | gateEdge (g : Gate) (at100 : Nat)
  /-- GATE_SLOT_RESULT (R228): `noise` when the comparator was active at the opening of a window. -/
  | gateSlotResult (g : Gate) (noise : Bool)
  /-- LINK_ATTEMPT (R249, R422). -/
  | linkAttempt (lane : RxLane)
  /-- LINK_SIGNAL_DETECT (R249, R422). -/
  | linkSignalDetect (lane : RxLane)
  /-- LINK_POLL_DONE (R248, R422): `seen` is what was received (R250). -/
  | linkPollDone (lane : RxLane) (seen : PollSeen)
  /-- LINK_LOCK_DONE (R250, R422): `seen` is what was received. -/
  | linkLockDone (lane : RxLane) (seen : LockSeen)
  /-- LINK_TIMEOUT (R248, R422). -/
  | linkTimeout (lane : RxLane)
  /-- LINK_IDLE_DETECT (R249, R255, R422). -/
  | linkIdleDetect (lane : RxLane)
  /-- GULIST_ACK (R264): the bytes between SOF and EOF. -/
  | gulistAck (p : Port) (f : Bytes)
  /-- GULIST_STATUS_RX (R266). -/
  | gulistStatusRx (p : Port) (f : Bytes)
  /-- STATUS_TIMEOUT (R255). -/
  | statusTimeout (p : Port)
  /-- GULIST_SENSE (R267). -/
  | gulistSense (p : Port) (f : Bytes)
  /-- GULIST_FRAME_DISCARD (R268): the bytes received after SOF, with what was seen beside them. -/
  | gulistFrameDiscard (p : Port) (flaws : RxFlaws) (f : Bytes)
  /-- CFG_TIMEOUT (R264). -/
  | cfgTimeout (p : Port)
  /-- STATUS_SEND (R266): on every ACTIVE port. -/
  | statusSend
  /-- ALIGN_SEND (R246, R424). -/
  | alignSend (lane : RxLane)
  /-- ALIGN_MISSING (R246). -/
  | alignMissing (p : Port)
  /-- ADAPT_FREEZE (R247, R424). -/
  | adaptFreeze (lane : RxLane)
  /-- GUL_RETRAIN (R255): a write to GUL_PORTn_CLR with RETRAIN set. -/
  | gulRetrain (m : Master) (p : Port) (v : Word)
  /-- GUL_PORT_CLR (R276): a write to GUL_PORTn_CLR with RETRAIN clear. -/
  | gulPortClr (m : Master) (p : Port) (v : Word)
  /-- HOST_CFG_ACCESS (R274): a write to GUL_HCFG_GO. -/
  | hostCfgAccess (m : Master) (v : Word)
  /-- EYE_SCAN_START (R273): a write to GUL_EYE_GO. -/
  | eyeScanStart (m : Master) (v : Word)
  /-- EYE_SCAN_DONE (R273): the mismatches the samplers found. -/
  | eyeScanDone (mismatches : Nat)
  /-- CAM_FRAME_START (R280): FS with its CSI-2 frame number. -/
  | camFrameStart (c : Ctx) (csifn : BitVec 16)
  /-- CAM_FRAME_END (R280). -/
  | camFrameEnd (c : Ctx)
  /-- CAM_LINE_RX (R278, R279): the data type and payload of a long packet, and the CRC-16 that follows them. -/
  | camLineRx (c : Ctx) (pkt : BitVec 6 × Bytes) (crc : BitVec 16)
  /-- CAM_PACKET_IGNORED (R277). -/
  | camPacketIgnored (port : Fin 4) (why : CamIgnored)
  /-- STRIPE_PROCESS (R286): the pipeline takes the next stripe of the context that holds the grant. -/
  | stripeProcess
  /-- RECORD_WRITE (R291). -/
  | recordWrite (c : Ctx)
  /-- STREAK_DETECT (R293). -/
  | streakDetect (c : Ctx)
  /-- RECORD_RELEASE (R291): a write to INS_CTXn_REL. -/
  | recordRelease (m : Master) (c : Ctx) (v : Word)
  /-- DRAM_ISSUE (R308). -/
  | dramIssue (ch : Chan) (cmdBad : Bool)
  /-- DRAM_READ_RETURN (R302). -/
  | dramReadReturn (ch : Chan) (e : List Flip)
  /-- REFRESH_DUE (R312). -/
  | refreshDue (ch : Chan)
  /-- MEM_VERIFY_CMD (R307): a write to MEM_VERIFY. -/
  | memVerifyCmd (m : Master) (v : Word)
  /-- VERIFY_SLICE (R307): whether lane 0 and lane 1 read back what was written. -/
  | verifySlice (ch : Chan) (got0 got1 : Bytes)
  /-- BANK_READ (R319): by requester `r` of the bank. -/
  | bankRead (b : Bank) (r : Fin 4) (off len : Nat) (e : List Flip)
  /-- BANK_WRITE (R319). -/
  | bankWrite (b : Bank) (r : Fin 4) (off : Nat) (data : Bytes) (e : List Flip)
  /-- BANK_ADD (R319). -/
  | bankAdd (b : Bank) (r : Fin 4) (off : Nat) (v : Word) (e : List Flip)
  /-- BANK_ADD_SAT (R319). -/
  | bankAddSat (b : Bank) (r : Fin 4) (off : Nat) (v : Word) (e : List Flip)
  /-- BANK_SWAP (R319). -/
  | bankSwap (b : Bank) (r : Fin 4) (off : Nat) (v : BitVec 64) (e : List Flip)
  /-- ARB_ROUND (R324): at a bank instance (4 to 10), `reqs` are the requesters that request; elsewhere they
  follow from what waits. -/
  | arbRound (inst : Fin 12) (reqs : BitVec 4)
  /-- AXIS_PROFILE_UPDATE (R339). -/
  | axisProfileUpdate (a : Axis)
  /-- MICROSTEP (R339). -/
  | microstep (a : Axis)
  /-- CHOPPER_PHASE (R336): the ON or OFF period of phase B (`phB`) or A ends after `dur` samples of 5 ns
  with the sense at `sense`, in DAC codes; `mid` is the sense at the sample of a probe in it (R338). -/
  | chopperPhase (a : Axis) (phB : Bool) (dur sense mid : Nat)
  /-- OVERCURRENT (R349). -/
  | overcurrent (a : Axis)
  /-- HARD_LIMIT (R347): LIMHI (`hi`) or LIMLO becomes active. -/
  | hardLimit (a : Axis) (hi : Bool)
  /-- AXIS_HOLD_CURRENT (R352). -/
  | axisHoldCurrent (a : Axis)
  /-- AXIS_STANDSTILL (R352). -/
  | axisStandstill (a : Axis)
  /-- AXIS_TARGET_WRITE (R340). -/
  | axisTargetWrite (m : Master) (a : Axis) (v : Word)
  /-- AXIS_VTARGET_WRITE (R340). -/
  | axisVtargetWrite (m : Master) (a : Axis) (v : Word)
  /-- AXIS_MODE_WRITE (R344). -/
  | axisModeWrite (m : Master) (a : Axis) (v : Word)
  /-- AXIS_SETPOS (R351). -/
  | axisSetpos (m : Master) (a : Axis) (v : Word)
  /-- AXIS_GEAR_SCHEDULE (R345): a write to AXS_AXn_GATHI. -/
  | axisGearSchedule (m : Master) (a : Axis) (v : Word)
  /-- AXIS_TABLE_ACCESS (R335). -/
  | axisTableAccess (m : Master) (acc : Access)
  /-- SCAN_FRAME_START (R359). -/
  | scanFrameStart
  /-- LAMP_SWAP_REQUEST (R360): a write to LMP_CMD. -/
  | lampSwapRequest (m : Master) (v : Word)
  /-- LBUS_FRAME_ECHO (R369): what the chain returned for the frame sent: the clocks after the frame's first bit at which the window
  begins, and the bytes in it; none when no window begins. -/
  | lbusFrameEcho (chain : Fin 2) (ret : Option (Nat × Bytes))
  /-- LBUS_CFG_WRITE (R370): a write to LMP_LBn_GO. -/
  | lbusCfgWrite (m : Master) (chain : Fin 2) (v : Word)
  /-- LAMP_ZONE_ACCESS (R355). -/
  | lampZoneAccess (m : Master) (acc : Access)
  /-- LAMP_UTBL_ACCESS (R362). -/
  | lampUtblAccess (m : Master) (acc : Access)
  /-- NET_LINK_UP (R374). -/
  | netLinkUp (np : NetPort)
  /-- NET_LINK_DOWN (R374). -/
  | netLinkDown (np : NetPort)
  /-- NET_FRAME_DISCARD (R375). -/
  | netFrameDiscard (np : NetPort) (fr : Frame)
  /-- ARP_REQUEST (R379). -/
  | arpRequest (rx : Arrival) (q : NeighMsg)
  /-- ARP_RETRY (R379). -/
  | arpRetry (np : NetPort)
  /-- ARP_EXPIRE (R379). -/
  | arpExpire (np : NetPort) (ip : BitVec 128)
  /-- ICMP_ECHO (R380): source of the request and its echo body. -/
  | icmpEcho (rx : Arrival) (v6 : Bool) (srcIp : BitVec 128) (srcMac : BitVec 48) (body : Bytes)
  /-- PTP_ANNOUNCE (R386): the PTP message bytes, as every PTP row. -/
  | ptpAnnounce (rx : Arrival) (tr : PtpTransport) (d : Bytes)
  /-- PTP_SYNC (R391). -/
  | ptpSync (rx : Arrival) (tr : PtpTransport) (d : Bytes)
  /-- PTP_FOLLOW_UP (R387). -/
  | ptpFollowUp (rx : Arrival) (tr : PtpTransport) (d : Bytes)
  /-- PTP_DELAY_RESP (R388). -/
  | ptpDelayResp (rx : Arrival) (tr : PtpTransport) (d : Bytes)
  /-- PTP_PDELAY_REQ (R384). -/
  | ptpPdelayReq (rx : Arrival) (tr : PtpTransport) (d : Bytes)
  /-- PTP_PDELAY_RESP (R388). -/
  | ptpPdelayResp (rx : Arrival) (tr : PtpTransport) (d : Bytes)
  /-- PTP_PDELAY_RESP_FOLLOW_UP (R385). -/
  | ptpPdelayRespFollowUp (rx : Arrival) (tr : PtpTransport) (d : Bytes)
  /-- PTP_IGNORED (R385). -/
  | ptpIgnored (rx : Arrival) (tr : PtpTransport) (d : Bytes)
  /-- PTP_DELAY_REQ_SEND (R388). -/
  | ptpDelayReqSend (dm : Dom)
  /-- PTP_PDELAY_REQ_SEND (R388). -/
  | ptpPdelayReqSend (dm : Dom)
  /-- PTP_MASTER_TIMEOUT (R386): entry `n` of the foreign master table. -/
  | ptpMasterTimeout (dm : Dom) (n : Fin 4)
  /-- PTP_FOLLOWUP_TIMEOUT (R387). -/
  | ptpFollowupTimeout (dm : Dom)
  /-- PTP_SYNC_TIMEOUT (R390). -/
  | ptpSyncTimeout (dm : Dom)
  /-- PTP_HOLDMAX (R390). -/
  | ptpHoldmax (dm : Dom)
  /-- DOMAIN_SELECT (R392): a write to PTP_SEL. -/
  | domainSelect (m : Master) (v : Word)
  /-- FIRE_DISCIPLINE (R393): the FIRE cycles measured over one second of DT. -/
  | fireDiscipline (cycles : Nat)
  /-- PTP_SNAPSHOT (R382). -/
  | ptpSnapshot (m : Master) (sel : TimeSel)
  /-- MGMT_TICK (R394): the eight sensor readings in 1/16 °C and the eight refresh-rate codes read (R313). -/
  | mgmtTick (temps : List Int) (refCodes : List (BitVec 3))
  /-- RMP_DISCARD (R397). -/
  | rmpDiscard (rx : Arrival) (ss : Session) (d : Bytes)
  /-- RMP_UNKNOWN_TYPE (R399). -/
  | rmpUnknownType (rx : Arrival) (ss : Session) (d : Bytes)
  /-- RMP_HELLO (R399). -/
  | rmpHello (rx : Arrival) (ss : Session) (d : Bytes)
  /-- RMP_READ (R400). -/
  | rmpRead (rx : Arrival) (ss : Session) (d : Bytes)
  /-- RMP_WRITE (R400). -/
  | rmpWrite (rx : Arrival) (ss : Session) (d : Bytes)
  /-- RMP_SWAP (R400). -/
  | rmpSwap (rx : Arrival) (ss : Session) (d : Bytes)
  /-- RMP_STATUS (R399). -/
  | rmpStatus (rx : Arrival) (ss : Session) (d : Bytes)
  /-- RMP_SUBSCRIBE (R403). -/
  | rmpSubscribe (rx : Arrival) (ss : Session) (d : Bytes)
  /-- SUBSCRIPTION_EXPIRE (R403). -/
  | subscriptionExpire (slot : Fin 4)
  /-- RMP_HOLD (R401). -/
  | rmpHold (rx : Arrival) (ss : Session) (d : Bytes)
  /-- RMP_RESUME (R401). -/
  | rmpResume (rx : Arrival) (ss : Session) (d : Bytes)
  /-- RMP_STOP (R401). -/
  | rmpStop (rx : Arrival) (ss : Session) (d : Bytes)
  /-- RMP_ACKNOWLEDGE (R401). -/
  | rmpAcknowledge (rx : Arrival) (ss : Session) (d : Bytes)
  /-- RMP_RESET (R401). -/
  | rmpReset (rx : Arrival) (ss : Session) (d : Bytes)
  /-- RESET_EXECUTE (R457). -/
  | resetExecute
  /-- RMP_YIELD (R431). -/
  | rmpYield (rx : Arrival) (ss : Session) (d : Bytes)
  /-- RMP_COMMAND_INVALID (R401). -/
  | rmpCommandInvalid (rx : Arrival) (ss : Session) (d : Bytes)
  /-- TETHER_HEARTBEAT_SEND (R427). -/
  | tetherHeartbeatSend
  /-- TETHER_HEARTBEAT_RX (R427): the frame bytes of R424, header to CRC. -/
  | tetherHeartbeatRx (f : Bytes)
  /-- NET_HEARTBEAT_RX (R428). -/
  | netHeartbeatRx (rx : Arrival) (d : Bytes)
  /-- TETHER_PATH_MISS (R429). -/
  | tetherPathMiss
  /-- NET_PATH_MISS (R429). -/
  | netPathMiss
  /-- TETHER_NZL_CHANGE (R420). -/
  | tetherNzlChange (f : Bytes)
  /-- TETHER_KNOT_REQ (R417). -/
  | tetherKnotReq (f : Bytes)
  /-- TETHER_KNOT_DONE (R418). -/
  | tetherKnotDone (f : Bytes)
  /-- TETHER_STATE (R419). -/
  | tetherState (f : Bytes)
  /-- TETHER_YIELD (R430). -/
  | tetherYield (f : Bytes)
  /-- TETHER_BULK (R435). -/
  | tetherBulk (f : Bytes)
  /-- TETHER_RESEND (R426). -/
  | tetherResend
  /-- TETHER_RESYNC (R423). -/
  | tetherResync
  /-- HITCH_IN_ASSERT (R412). -/
  | hitchInAssert
  /-- HITCH_IN_RELEASE (R430). -/
  | hitchInRelease
  /-- SPLICE (R431): the pending splice trigger takes effect. -/
  | splice
  /-- REJOIN_COPY_START (R435). -/
  | rejoinCopyStart
  /-- CORE_WATCH_EXPIRE (R436). -/
  | coreWatchExpire
  /-- KEEP_FEED_LOSS (R436): feed B (`feedB`) or A leaves its range. -/
  | keepFeedLoss (feedB : Bool)
  /-- KEEP_BROWNOUT (R436). -/
  | keepBrownout
  /-- FEG_ROTATION_START (R445): in group g. -/
  | fegRotationStart (g : Fin 4)
  /-- FEG_MEASURE_DONE (R443): the measurement of a generator ends. -/
  | fegMeasureDone (gen : Fin 68) (times : FegTimes)
  /-- CAL_FORCE (R445): a write to CAL_FORCE. -/
  | calForce (m : Master) (v : Word)
  /-- CMP_MEASURE (R450). -/
  | cmpMeasure (c : Fin 10)
  /-- CMP_MEASURE_DONE (R449, R450): the offset measured on each of the four input stages, in DAC codes. -/
  | cmpMeasureDone (c : Fin 10) (offs : List Int)
  /-- CAL_SLEW_STEP (R442). -/
  | calSlewStep (t : CalTarget)
  /-- FAULT_ACK (R485): a write to ERR_ACK. -/
  | faultAck (m : Master) (v : Word)
  /-- FAULT_ACK_ALL (R485): a write to ERR_ACK_ALL. -/
  | faultAckAll (m : Master) (v : Word)
  /-- LATCH_CLEAR (R487): a write to ERR_LATCH_CLR. -/
  | latchClear (m : Master) (v : Word)
  /-- ERR_CLR (R504): a write to ERR_CLR. -/
  | errClr (m : Master) (v : Word)
  /-- LOG_ENTRY_READ (R505): a read of word 0 of an entry. -/
  | logEntryRead (m : Master) (sel : LogSel)
  /-- KNOT_EPOCH_READ (R518). -/
  | knotEpochRead (m : Master)
  /-- FIRE_LC_SNAPSHOT (R212). -/
  | fireLcSnapshot (m : Master) (p : Port)
  /-- CAPTURE_START (R490): a write of GO to CAP_CMD with its MASK. -/
  | captureStart (m : Master) (mask : BitVec 16)
  /-- CAPTURE_CLEAR (R490): a write of CLEAR to CAP_CMD. -/
  | captureClear (m : Master)
  /-- CAPTURE_DONE (R490). -/
  | captureDone
  /-- TAP_RESET (R495). -/
  | tapReset
  /-- TAP_INSTRUCTION (R496): the 6-bit code loaded. -/
  | tapInstruction (code : BitVec 6)
  /-- WP_NOP (R497). -/
  | wpNop
  /-- WP_READ32 (R498); `e` is the ECC outcome when SPACE names a memory. -/
  | wpRead32 (space : Fin 16) (addr : Word) (e : List Flip)
  /-- WP_WRITE32 (R498). -/
  | wpWrite32 (space : Fin 16) (addr data : Word) (e : List Flip)
  /-- WP_HALT (R499). -/
  | wpHalt
  /-- WP_RESUME (R501). -/
  | wpResume
  /-- WP_STEP (R500). -/
  | wpStep (data : Word)
  /-- WP_CAPTURE (R497). -/
  | wpCapture (mask : Word)
  /-- WP_RESERVED_OP (R497). -/
  | wpReservedOp (op : BitVec 4)
  /-- TOW_CNT_CLR (R111). -/
  | towCntClr (m : Master) (v : Word)
  /-- CMP_CNT_CLR (R132). -/
  | cmpCntClr (m : Master) (v : Word)
  /-- STR_CNT_CLR (R159). -/
  | strCntClr (m : Master) (v : Word)
  /-- FIR_CNT_CLR (R211). -/
  | firCntClr (m : Master) (v : Word)
  /-- NZL_CNT_CLR (R238). -/
  | nzlCntClr (m : Master) (v : Word)
  /-- CAM_PORT_CLR (R298). -/
  | camPortClr (m : Master) (port : Fin 4) (v : Word)
  /-- INS_CTX_CLR (R298). -/
  | insCtxClr (m : Master) (c : Ctx) (v : Word)
  /-- MEM_CNT_CLR (R329). -/
  | memCntClr (m : Master) (v : Word)
  /-- BNK_CLR (R330). -/
  | bnkClr (m : Master) (b : Bank) (v : Word)
  /-- ARB_CLR (R331). -/
  | arbClr (m : Master) (v : Word)
  /-- NET_PORT_CLR (R404). -/
  | netPortClr (m : Master) (np : NetPort) (v : Word)
  /-- PTP_DOM_CLR (R405). -/
  | ptpDomClr (m : Master) (dm : Dom) (v : Word)
  /-- MGT_CNT_CLR (R406). -/
  | mgtCntClr (m : Master) (v : Word)
  /-- PAR_CNT_CLR (R438). -/
  | parCntClr (m : Master) (v : Word)
  /-- KEEP_FEED_RETURN (R485): feed B (`feedB`) or A is back in range. -/
  | keepFeedReturn (feedB : Bool)
  /-- SYMBOL_REALIGN (R244): the lane, and whether a frame was in progress. -/
  | symbolRealign (at_ : RxLane × Bool)
  /-- TRAINING_SET_IN_ACTIVE (R255). -/
  | trainingSetInActive (p : Port)
  /-- CODE_ERROR_BURST (R255): the port, and the code and disparity errors outside discarded frames within its latest 4 096 symbols. -/
  | codeErrorBurst (errs : Port × Nat)
  /-- ADAPTATION_RESUME (R247). -/
  | adaptationResume (lane : RxLane) (sym : ResumeSym)
  /-- LIMIT_INPUT_INACTIVE (R347): LIMHI (`hi`) or LIMLO becomes inactive. -/
  | limitInputInactive (a : Axis) (hi : Bool)
  /-- FEG_TEST_EDGE (R445): a test edge in group g, with the difference seen in ps. -/
  | fegTestEdge (g : Fin 4) (cmpPs : Int)
deriving DecidableEq, Repr

end Sys2Proof
end

