-- ==== Sys2Proof/Decode.lean ====
section
/-! DEFINITION. What a table word spells. The block decodes no instruction words: no row of
spec/opcode_table.json gives bits, so no word spells a command. -/

namespace Sys2Proof

/-- The command that a word of `nbits` bits spells by the bits the table gives its rows: none gives any. -/
def decodeTableWord (_nbits _w : Nat) : Option Instr := none

end Sys2Proof
end

