-- ==== Sys2Proof/Machine/Bits.lean ====
section
/-! DEFINITION. Bit fields, narrowing, rounding, byte order, and sparse maps: the helpers every block uses. -/

namespace Sys2Proof.Machine

/-- The signed value of an integer taken modulo `2 ^ n`. -/
def sgn (n : Nat) (x : Int) : Int := Int.bmod x (2 ^ n)

/-- Limit `x` to `lo` to `hi`. -/
def clampInt (lo hi x : Int) : Int := max lo (min hi x)

/-- Division rounding to the nearest integer, halves away from zero. -/
def divRound (a b : Int) : Int :=
  if b = 0 then 0
  else
    let q := (2 * a.natAbs + b.natAbs) / (2 * b.natAbs)
    if (a < 0) = (b < 0) then (q : Int) else -(q : Int)

/-- Bits `hi` down to `lo` of a word, as a number. -/
def bits (w : Word) (hi lo : Nat) : Nat := (w.toNat >>> lo) % 2 ^ (hi + 1 - lo)

/-- Bit `i` of a word. -/
def bit (w : Word) (i : Nat) : Bool := w.getLsbD i

/-- Bits `hi` down to `lo` as a signed number. -/
def sbits (w : Word) (hi lo : Nat) : Int := sgn (hi + 1 - lo) (bits w hi lo)

/-- A word from a number, modulo 2^32. -/
def w32 (n : Nat) : Word := BitVec.ofNat 32 n

/-- A word from an integer, modulo 2^32. -/
def i32 (x : Int) : Word := BitVec.ofInt 32 x

/-- One bit at place `i`. -/
def b2n (b : Bool) (i : Nat) : Nat := if b then 2 ^ i else 0

/-- Counter increment saturating at `2 ^ n - 1`. -/
def satAdd (n x k : Nat) : Nat := min (x + k) (2 ^ n - 1)

/-- An integer saturated to `n` signed bits. -/
def satInt (n : Nat) (x : Int) : Int := clampInt (-(2 ^ (n - 1))) (2 ^ (n - 1) - 1) x

/-- An unsigned mask of ones from bit `hi` down to bit `lo`. -/
def fmask (hi lo : Nat) : Word := w32 ((2 ^ (hi + 1 - lo) - 1) <<< lo)

/-- Ceiling division. -/
def cdiv (a b : Nat) : Nat := (a + b - 1) / b

/-- The value at key `k` of a sparse map, `d` where it lists none. -/
def spGet {α : Type} (d : α) : List (Nat × α) → Nat → α
  | [], _ => d
  | (a, v) :: r, k => if a = k then v else if k < a then d else spGet d r k

/-- Set key `k` of a sparse map whose unlisted value at `k` is `d`: keys stay rising, and the value `d` is not listed. -/
def spSet {α : Type} [DecidableEq α] (d : α) : List (Nat × α) → Nat → α → List (Nat × α)
  | [], k, v => if v = d then [] else [(k, v)]
  | (a, x) :: r, k, v =>
    if k < a then (if v = d then (a, x) :: r else (k, v) :: (a, x) :: r)
    else if k = a then (if v = d then r else (k, v) :: r)
    else (a, x) :: spSet d r k v

/-- Element `i` of a vector, `d` beyond its end. -/
def vget {α : Type} {n : Nat} (v : Vector α n) (i : Nat) (d : α) : α := v.toArray.getD i d

/-- Replace element `i` of a vector by its image; nothing beyond the end. -/
def vmod {α : Type} {n : Nat} (v : Vector α n) (i : Nat) (f : α → α) : Vector α n :=
  if h : i < n then v.set i (f v[i]) h else v

/-- Element `i` of a list, `d` beyond its end. -/
def nth {α : Type} (l : List α) (i : Nat) (d : α) : α := l.getD i d

/-- Little-endian number of a list of bytes. -/
def leNat : Bytes → Nat
  | [] => 0
  | b :: r => b.toNat + 256 * leNat r

/-- Big-endian number of a list of bytes. -/
def beNat (l : Bytes) : Nat := leNat l.reverse

/-- `n` little-endian bytes of a number. -/
def leBytes : Nat → Nat → Bytes
  | 0, _ => []
  | n + 1, x => BitVec.ofNat 8 x :: leBytes n (x / 256)

/-- `n` big-endian bytes of a number. -/
def beBytes (n x : Nat) : Bytes := (leBytes n x).reverse

/-- The little-endian number of `n` bytes of `l` from offset `o`; bytes beyond the end read 0. -/
def leAt (l : Bytes) (o n : Nat) : Nat := leNat ((l.drop o).take n)

/-- The big-endian number of `n` bytes of `l` from offset `o`. -/
def beAt (l : Bytes) (o n : Nat) : Nat := beNat ((l.drop o).take n)

/-- The byte at offset `o`, 0 beyond the end. -/
def byteAt (l : Bytes) (o : Nat) : Nat := (l.getD o 0).toNat

/-- The first `some` of a list under a function. -/
def firstSome {α β : Type} (f : α → Option β) : List α → Option β
  | [] => none
  | a :: r => match f a with
    | some b => some b
    | none => firstSome f r

/-- Insertion of `a` into a list sorted by `le`, before its equals. -/
def insertBy {α : Type} (le : α → α → Bool) (a : α) : List α → List α
  | [] => [a]
  | b :: r => if le a b then a :: b :: r else b :: insertBy le a r

/-- A stable insertion sort. -/
def sortBy {α : Type} (le : α → α → Bool) : List α → List α
  | [] => []
  | a :: r => insertBy le a (sortBy le r)

/-- Apply `f` for each element of a list, in order. -/
def each {α β : Type} (f : α → β → β) : List α → β → β
  | [], b => b
  | a :: r, b => each f r (f a b)

/-- Replace the first element that satisfies `p` by its image. -/
def modFirst {α : Type} (p : α → Bool) (f : α → α) : List α → List α
  | [] => []
  | a :: r => if p a then f a :: r else a :: modFirst p f r

/-- The sum of a list of numbers. -/
def sumN : List Nat → Nat
  | [] => 0
  | a :: r => a + sumN r

/-- Iterate `f` at most `n` times, stopping when it answers none. -/
def iterate {α : Type} (f : α → Option α) : Nat → α → α
  | 0, a => a
  | n + 1, a => match f a with
    | none => a
    | some b => iterate f n b

end Sys2Proof.Machine
end

