-- ==== Sys2Proof/Machine/Crypto.lean ====
section
/-! DEFINITION. The checks the spec names by their standards: CRC-32C (R67, R258),
SHA-256 and HMAC-SHA-256 (R395, R459), as plain structurally recursive functions. -/

namespace Sys2Proof.Machine

/-- One byte of a reflected CRC-32C with polynomial 0x82F63B78. -/
def crc32cBit (c : Word) : Word :=
  if c.getLsbD 0 then (c >>> 1) ^^^ 0x82F63B78#32 else c >>> 1

/-- The CRC-32C register after one byte. -/
def crc32cByte (c : Word) (b : Byte) : Word :=
  let x := c ^^^ b.setWidth 32
  crc32cBit (crc32cBit (crc32cBit (crc32cBit (crc32cBit (crc32cBit (crc32cBit (crc32cBit x)))))))

/-- The CRC-32C register after some bytes. -/
def crc32cRun (c : Word) : Bytes → Word
  | [] => c
  | b :: r => crc32cRun (crc32cByte c b) r

/-- CRC-32C: initial value and final exclusive or of ones. -/
def crc32c (l : Bytes) : Word := crc32cRun 0xFFFFFFFF#32 l ^^^ 0xFFFFFFFF#32

/-- The largest root `r + e` with `(r + e) ^ k ≤ x`, the bits of `e` below `2 ^ n` tried downwards. -/
def rootUp (k x : Nat) : Nat → Nat → Nat
  | 0, r => r
  | n + 1, r => rootUp k x n (if (r + 2 ^ n) ^ k ≤ x then r + 2 ^ n else r)

/-- The primes below 312: the first 64. -/
def shaPrimes : List Nat :=
  (List.range 312).filter (fun p => decide (1 < p) && [2, 3, 5, 7, 11, 13, 17].all (fun q => p == q || p % q != 0))

/-- The first 32 fractional bits of the `k`-th root of `p`, from which SHA-256 takes its constants. -/
def rootFrac (k p : Nat) : Word := w32 (rootUp k (p * 2 ^ (32 * k)) 36 0)

/-- The constant of each of the 64 rounds, from the cube roots of the primes. -/
def roundConst : List Word := shaPrimes.map (rootFrac 3)

/-- The hash value before the first block, from the square roots of the first eight primes. -/
def shaStart : List Word := (shaPrimes.take 8).map (rootFrac 2)

/-- `x` rotated right by each of three amounts, combined by exclusive or. -/
def spin (x : Word) (i j k : Nat) : Word := x.rotateRight i ^^^ (x.rotateRight j ^^^ x.rotateRight k)

/-- `x` rotated right by two amounts and shifted right by a third, combined by exclusive or. -/
def slide (x : Word) (i j k : Nat) : Word := x >>> k ^^^ (x.rotateRight i ^^^ x.rotateRight j)

/-- The words of a block, in order: `n` of them, four bytes each, the first the most significant. -/
def blockWords (n : Nat) (blk : Bytes) : List Word := (List.range n).map (fun i => w32 (beAt blk (4 * i) 4))

/-- The message schedule continued by `n` words; the newest word stands first. -/
def scheduleOn (n : Nat) (w : List Word) : List Word :=
  (List.range n).foldl (fun l _ =>
    (slide (nth l 14 0) 7 18 3 + slide (nth l 1 0) 17 19 10 + nth l 6 0 + nth l 15 0) :: l) w

/-- One round on the eight working words, with the sum of the round's constant and schedule word. -/
def shaRound (v : List Word) (kw : Word) : List Word :=
  match v with
  | [a, b, c, d, e, f, g, h] =>
    let t := spin e 6 11 25 + (g ^^^ (e &&& (f ^^^ g))) + h + kw
    [t + spin a 2 13 22 + ((a &&& (b ||| c)) ||| (b &&& c)), a, b, c, d + t, e, f, g]
  | _ => v

/-- The hash value after one block. -/
def shaBlock (h : List Word) (blk : Bytes) : List Word :=
  let sched := (scheduleOn 48 (blockWords 16 blk).reverse).reverse
  List.zipWith (· + ·) h ((List.zipWith (· + ·) roundConst sched).foldl shaRound h)

/-- The hash value after `n` blocks. -/
def shaBlocks : Nat → List Word → Bytes → List Word
  | 0, h, _ => h
  | n + 1, h, l => shaBlocks n (shaBlock h (l.take 64)) (l.drop 64)

/-- SHA-256 (FIPS 180-4) of a message. -/
def sha256 (m : Bytes) : Bytes :=
  let z := (119 - m.length % 64) % 64
  let p := m ++ (0x80 :: List.replicate z 0) ++ beBytes 8 (8 * m.length)
  (shaBlocks (p.length / 64) shaStart p).flatMap (fun w => beBytes 4 w.toNat)

/-- HMAC-SHA-256 (RFC 2104) of a message under a key. -/
def hmac (key m : Bytes) : Bytes :=
  let k := if key.length > 64 then sha256 key else key
  let k := k ++ List.replicate (64 - k.length) 0
  sha256 (k.map (· ^^^ 0x5C) ++ sha256 (k.map (· ^^^ 0x36) ++ m))

end Sys2Proof.Machine
end

