-- ==== Sys2Proof/Machine/TypesCore.lean ====
section
/-! DEFINITION. The state types that every block shares: device states, error classes and the error
log, register maps, what the block has sent out, capture and the Waypost port (01_architecture,
18_faults_debug, 19_address_map). -/

namespace Sys2Proof.Machine

/-- The device states with the codes of R517. -/
inductive DevState where
  | cold | loading | verifying | ready | printing | held | stopped | faulted
deriving DecidableEq, Repr

/-- The four error classes of R11. -/
inductive ErrClass where
  | notice | fault | stop | fatal
deriving DecidableEq, Repr

/-- A sparse map from addresses or indices to words, keys strictly rising (log 4). -/
abbrev WMap := List (Nat × Word)

/-- A byte memory: strictly rising addresses, no entry equal to what an unlisted address reads as (log 4). -/
abbrev Memory := List Host.Cell

/-- One entry of the error log (R481); `lc` none stands for the all-ones LC before any grid. -/
structure LogEntry where
  code : Nat
  cls : ErrClass
  secondary : Bool
  standby : Bool
  seq : Nat
  dtSec : Nat
  dtNs : Nat
  lc : Option Nat
  args : List Nat
deriving DecidableEq, Repr

/-- An error detected in the command under way and not yet logged (R483): its class, code and arguments. -/
structure ErrEv where
  cls : ErrClass
  code : Nat
  args : List Nat
deriving DecidableEq, Repr

/-- A Fault being handled (R485): its SEQ, code and first argument. -/
structure FaultHeld where
  seq : Nat
  code : Nat
  args : List Nat
deriving DecidableEq, Repr

/-- The error logger (R483 to R489). `stopBlk` and `fatalBlk` are the blocks whose Stop or Fatal errors are being handled
(R516); `limits` holds when each rate-limited error was last logged (R484); `found`
are the errors of the command under way, in the order of detection, empty between commands. -/
structure ErrState where
  found : List ErrEv
  head : Nat
  ring : List LogEntry
  faults : List FaultHeld
  fovf : Bool
  stopHeld : Bool
  fatalHeld : Bool
  stopBlk : Word
  fatalBlk : Word
  latches : Vector (Option LogEntry) 4
  nest : Nat
  sec : Nat
  supp : Vector Nat 29
  snaps : List (Nat × LogEntry)
  limits : List ((Nat × Nat) × Nat)
deriving DecidableEq, Repr

/-- A pending knot request (R26, R518). -/
inductive KnotReq where
  | immediate
  | milestone (ms : Nat)
  | roadCount (rc : Int)
deriving DecidableEq, Repr

/-- The SYS block: state, knots, pace monitors (R19, R20, R33, R516, R518). `pendingPos` is the resolved position of a
pending request in 1/65 536 count, `knotDue` that position once it has been reached, `knotPos` the latest knot's road
count. -/
structure SysState where
  st : DevState
  prev : DevState
  pendingKnot : Option KnotReq
  pendingPos : Option Int
  knotDue : Option Int
  epoch : Word
  knotPos : Int
  posSnap : Int
  paceStat : Word
  paceNow : Vector (BitVec 16) 32
  paceMin : Vector (BitVec 16) 32
  paceLowLogged : BitVec 32
  paceFeedLogged : BitVec 32
deriving DecidableEq, Repr

/-- The result of an access: OK, REFUSED, ERROR (Waypost) or BAD_PARAM (RMP) (R509 to R511). -/
inductive AccRes where
  | ok | refused | error | badParam
deriving DecidableEq, Repr

/-- The capture engine (R490 to R493, R506): what the accepted start recorded. -/
structure CapState where
  busy : Bool
  done : Bool
  trunc : Bool
  refused : Bool
  dlen : Nat
  mask : BitVec 16
  origin : Nat
  dstate : Nat
  trigSeq : Nat
  dtSec : Nat
  dtNs : Nat
deriving DecidableEq, Repr

/-- The Waypost port (R495 to R502): halt, stages, step credits, breakpoints' hit counts, the tokens that a breakpoint
holds at a handshake (`atBp`: stage and the token's identity), the TAP instruction in effect, and the latest access; `accTag` is
the tag of its DRAM unit while it is BUSY. -/
structure DbgState where
  halted : Bool
  stages : BitVec 8
  steps : Vector Nat 8
  irref : Bool
  bpValid : Bool
  bp : Nat
  hits : Vector Word 16
  atBp : List (Nat × List Nat)
  ir : BitVec 6
  accStatus : Nat
  accAddr : Word
  accData : Word
  accTag : Option Nat
deriving DecidableEq, Repr

end Sys2Proof.Machine
end

