-- ==== Sys2Proof/Machine/TypesPrint.lean ====
section
/-! DEFINITION. The state types of the print path and of what drives it: layers and blocks
(03_layers_and_towline), compressors (04_dot_codec), strands (05_strands_and_spools), position and
milestones (06_position), firing (07_firing), geometry (02_bar_geometry) and nozzle health
(08_nozzle_health). -/

namespace Sys2Proof.Machine

/-- Layer states with the codes of R97. -/
inductive LState where
  | none | announced | loading | ready | printing | done | released
deriving DecidableEq, Repr

/-- How far a block has come: fragments arriving, passed R80 with writes outstanding (R310), waiting for a compressor, in
one, present (R80, R101). -/
inductive BState where
  | partly | checked | waiting | compressing (c : Nat) | present
deriving DecidableEq, Repr

/-- A block of which at least one fragment is held: `sidx` is its place in the stripe list (R104), `total` the TOTAL of its
fragments (R77), `len` the length of the object in its frame, which compression shortens (R101). -/
structure Block where
  sidx : Nat
  b : Nat
  total : Nat
  len : Nat
  frags : List Nat
  st : BState
deriving DecidableEq, Repr

/-- A layer (R71, R97): its parameters, what has been received, its close, and its print. `joined` is
the m of R100 once the layer is on the grid; `dir` are the directory entries that it has reserved, in the order of R104's frames
(R107). -/
structure Layer where
  id : Nat
  sess : Session
  dir : List Nat
  params : Bytes
  lines : Nat
  depth : Nat
  hlog2 : Nat
  undStop : Bool
  ovsStop : Bool
  codecStop : Bool
  compress : Bool
  stream : Bool
  autoRel : Bool
  startMs : Nat
  fragSize : Nat
  optional : BitVec 64
  stripes : List (Nat × Nat)
  st : LState
  cause : Nat
  cum : Nat
  beyond : List Nat
  blocks : List Block
  closeReq : Option Nat
  closeDone : Bool
  unacked : Nat
  ackArmed : Bool
  lastCredit : Nat
  ackCum : Nat
  incNaked : Bool
  gapAckAt : Option Nat
  k0 : Nat
  restarted : Bool
  suspended : Bool
  joined : Nat
  lastLine : Option Nat
  overlapLogged : Bool
  revLogged : Bool
  lateLogged : BitVec 64
  missLogged : BitVec 64
  shortLogged : List Nat
deriving DecidableEq, Repr

/-- A fragment received and not yet written to DRAM: its layer, logical storage address and bytes, and how many of
its DRAM units are still to be issued once stage 2 has taken it (`queued`) (R85, R106, R310). -/
structure Unwritten where
  layer : Nat
  sidx : Nat
  b : Nat
  lsa : Nat
  data : Bytes
  queued : Bool
  tag : Nat
  left : Nat
deriving DecidableEq, Repr

/-- Ingress (R68, R83 to R111). `queue` is the print queue of R99, layer ids in order. -/
structure TowState where
  layers : List Layer
  queue : List Nat
  unwritten : List Unwritten
  cntRx : Word
  cntDup : Word
  cntNak : Word
  cntDrop : Word
deriving DecidableEq, Repr

/-- Placement (R105, R107, R111): channels not Offline and slots, fixed at the start-up knot (R108). -/
structure PlcState where
  mask : BitVec 8
  slots : Nat
deriving DecidableEq, Repr

/-- One compressor (R101, R128): the block in work, whether its chain drains to the frame, the raw bytes it reads, and
its DRAM units still under way; raw bytes read so far, and whether the header write has been queued (R130). -/
structure Compressor where
  job : Option (Nat × Nat × Nat)
  draining : Bool
  raw : Bytes
  tag : Nat
  left : Nat
  read : Nat
  hdr : Bool
deriving DecidableEq, Repr

/-- A free compressor. -/
def idleComp : Compressor := ⟨none, false, [], 0, 0, 0, false⟩

/-- The latest print-time decoder error (R132, R133). -/
structure DecLast where
  code : Nat
  stripe : Nat
  block : Nat
  policy : Bool
  line : Nat
  off : Nat
  layer : Nat
  time : Nat
deriving DecidableEq, Repr

/-- The CMP block (R131 to R133). `lastValid` is VALID of `last`, `wait` the queue of blocks (layer, stripe index, block). -/
structure CmpState where
  comps : Vector Compressor 2
  wait : List (Nat × Nat × Nat)
  cntBlk : Word
  cntRaw : Word
  inBytes : Nat
  outBytes : Nat
  decCnt : Vector Word 8
  last : Option DecLast
  lastValid : Bool
deriving DecidableEq, Repr

/-- The strand states of R136. -/
inductive StrandSt where
  | idle | seek | run | wait
deriving DecidableEq, Repr

/-- A token suspended at a line boundary (R136): kind, remaining length, distance (0 kind: none). -/
structure TokenCtx where
  kind : Nat
  rem : Nat
  dist : Nat
deriving DecidableEq, Repr

/-- A decoded line that waits for its release point (R146). -/
structure OutLine where
  layer : Nat
  line : Nat
  codes : List Nat
deriving DecidableEq, Repr

/-- A strand fetch request under way (R143): layer, block, first byte and length within the block object,
its panic, its tag in memory, the units still to return, and the units returned (first byte's ca, bytes). -/
structure FetchReq where
  layer : Nat
  block : Nat
  off : Nat
  len : Nat
  ca : Nat
  panic : Bool
  tag : Nat
  left : Nat
  got : List (Nat × Bytes)
deriving DecidableEq, Repr

/-- A strand's context (R136). `ring` is what the ring holds, `hist` the output of the block decoded so
far, newest byte first, `line` bytes of the line in progress, `hdr` the header of the block being
decoded, `badFrom` the error line E of a decoder error met in it, `skip` the bytes of the stream still to be dropped
after such an error, `wpos` the ring's write position, `stopAt` the layer and stripe line of a codec stop (R122),
and `decNext` holds while the decoder has passed on to NEXTLAYER's first block (R141, R147). -/
structure Strand where
  st : StrandSt
  layer : Option Nat
  nextLine : Nat
  block : Nat
  discard : Nat
  token : TokenCtx
  outPos : Nat
  inPos : Nat
  crcAcc : BitVec 32
  hdr : Option Bytes
  hist : Bytes
  badFrom : Option Nat
  fetchLayer : Option Nat
  fetchBlock : Nat
  fetchByte : Nat
  ring : Bytes
  reqs : List FetchReq
  nextLayer : Option Nat
  out : List OutLine
  margin : Nat
  level : Nat
  panic : Bool
  migrating : Bool
  spool : Nat
  target : Nat
  recent : Nat
  skip : Nat
  wpos : Nat
  stopAt : Option (Nat × Nat)
  decNext : Bool
deriving DecidableEq, Repr

/-- The STR block (R150 to R159). -/
structure StrState where
  strands : Vector Strand 512
  level : Nat
  speed : Nat
  src : Nat
  advSeq : Nat
  advWord : Word
  cntUnder : Word
  cntPanic : Word
  cntMigr : Word
  cntDisc : Word
  lineHist : List (List (Nat × Nat))
  presentNow : List (Nat × Nat)
deriving DecidableEq, Repr

/-- An encoder channel (R163 to R178): accepted levels, disagree per pair, count, observer
(x, v, a of R173), direction, SSI (`ssiX` is x at the latest latching edge, `ssiMeas` the error of a word not yet taken
by the observer), errors, snapshot of R186, pass-through. -/
structure EncChan where
  lvA : Bool
  lvB : Bool
  disagree : BitVec 3
  lostLogged : BitVec 3
  rc : Int
  x : Int
  v : Int
  a : Int
  started : Bool
  rev : Bool
  turn : Int
  armed : Bool
  slip : Int
  stat : BitVec 10
  errCnt : Vector Nat 4
  ssiPrev : Option Nat
  ssiBusy : Bool
  ssiBad : Nat
  ssiMeas : Option Int
  ssiX : Int
  snapRc : Int
  snapHwm : Int
  snapV : Int
  snapA : Int
  ptOut : Int
  ptPhase : Nat
  ptZ : Bool
deriving DecidableEq, Repr

/-- The POS block (R161 to R186): the channels, the print channel's high-water mark (R176) and whether
the KEEP island runs; the RWL settings of POS and MIL in effect, and those written that wait for the next position sample
(R185). -/
structure PosState where
  ch : Vector EncChan 4
  hwm : Int
  keepReset : Bool
  live : List (Nat × Word)
  waiting : List (Nat × Nat)
deriving DecidableEq, Repr

/-- An arming or disarming event of a milestone: a write of ARM, a commit of CMP, a capture that sets CMP (R180, R184, R187). -/
inductive MsOp where
  | arm
  | disarm
  | load (cmp : Int)
  | capture (cmp : Int)
deriving DecidableEq, Repr

/-- A milestone unit (R179 to R187). `later` are the events of the sample in which it fires (R181). `dPrev` is D at the end of the previous sample, `due` a firing that
the sample's end has found with its event road count. -/
structure Milestone where
  armed : Bool
  stale : Bool
  cmp : Int
  cmpLo : Word
  cmpHiLatch : Word
  hit : Int
  hitHiLatch : Word
  missed : Nat
  cnt : BitVec 16
  dPrev : Int
  due : Option (Int × Bool)
  later : List MsOp
deriving DecidableEq, Repr

/-- An EXT_SYNC capture (R184, R187). -/
structure SyncCap where
  cap : Int
  hiLatch : Word
  unread : Bool
deriving DecidableEq, Repr

/-- The MIL block (R179 to R187). -/
structure MilState where
  ms : Vector Milestone 32
  stat : Word
  outOn : BitVec 4
  camOn : BitVec 4
  sync : Vector SyncCap 2
deriving DecidableEq, Repr

/-- A segment enabled in a geometry (R42, R46, R50): fields of its map and the derived offsets. -/
structure SegGeo where
  seg : Nat
  first : Nat
  width : Nat
  revy : Bool
  stride : Nat
  plane : Nat
  col0 : Nat
  coarse : Nat
  phase : Nat
deriving DecidableEq, Repr

/-- A geometry that a knot made active, with what R50 derives from it and the knotted values that govern a
line from its release (R28): minimum periods and strobes per port, fire-counter mode, nozzle policy, residuals. -/
structure Geo where
  rev : Bool
  enc : Nat
  cpl : Nat
  segs : List SegGeo
  frac : List (Nat × Nat)
  minp : List Nat
  stb : List Word
  sat : Bool
  conf : Word
  dremap : Word
  res : WMap
deriving DecidableEq, Repr

/-- The trigger grid (R188, R189): S in 1/65 536 count, the line-count base fixed at opening and the
layers on it, oldest first. -/
structure Grid where
  s : Int
  base : Int
  layers : List Nat
deriving DecidableEq, Repr

/-- The marks of R206. -/
inductive Mark where
  | line | null | skip
deriving DecidableEq, Repr

/-- A source's targets A and B as last evaluated (R230, R233): none when not eligible, some true when the offer is resolved
within one release, some false when it travels in a lane. -/
structure DetourSrc where
  noz : Nat
  a : Option Bool
  b : Option Bool
deriving DecidableEq, Repr

/-- A row segment's line of a released trigger: what the strand delivered and what stages 5 and 6 made of
it. `gs` are the stagger delays that govern the trigger (R199); `ents` the entries that later swaps have replaced, which
still govern this line (R217), and `srcs` the segment's detour sources at its release (R230). -/
structure SegLine where
  seg : Nat
  first : Nat
  layer : Nat
  sline : Int
  depth : Nat
  raw : List Nat
  gs : List Nat
  ents : List (Nat × Nat)
  srcs : List DetourSrc
  mapped : Option (List Nat)
  staged : Option (List Nat)
deriving DecidableEq, Repr

/-- A LINE frame as stage 7 builds it (R201) with its CLAIM and test marking (R261). -/
structure LineFrame where
  lc : Nat
  layer : Nat
  null : Bool
  depth : Nat
  rowen : BitVec 8
  phase : List Nat
  nw : Nat
  codes : List Nat
  shadow : Bool
  test : Bool
  claim : Nat
  tper : Nat
  ssn : Nat
deriving DecidableEq, Repr

/-- A released trigger of a port (R188 to R206), kept until it is struck and its frame is sent.
`tr` is its trigger road count, `minp` the minimum period that governs it (R208), `absent` the ports treated as Masked at its
release (R215), `frozen` its strike instant and lag once placed (R192, R208), `lagging` whether that instant lies after the predicted one,
`overlap` the arguments of a LAYER_OVERLAP that it shows (R100). -/
structure Trig where
  k : Nat
  lc : Nat
  tr : Int
  dir : Int
  cpl : Nat
  mark : Mark
  layer : Nat
  minp : Nat
  stb : Word
  sat : Bool
  conf : Word
  dremap : Word
  rowen : BitVec 8
  phase : List Nat
  depth : Nat
  nw : Nat
  tper : Nat
  absent : BitVec 64
  lines : List SegLine
  overlap : List Nat
  built : Bool
  frame : Option LineFrame
  sent : Bool
  frozen : Option (Nat × Nat)
  lagging : Bool
  struck : Bool
deriving DecidableEq, Repr

/-- A port of the FIR block (R188 to R212). `hist` are the coarse offsets by segment at the latest triggers (R201). -/
structure FirPort where
  isOpen : Bool
  kr : Nat
  ks : Nat
  first : Option Nat
  trigs : List Trig
  tlast : Nat
  skipPending : Bool
  lagNow : Nat
  lagging : Bool
  lagMax : Nat
  lastLc : Nat
  lastTf : Nat
  snapLc : Nat
  snapTf : Nat
  hist : List (Nat × List (Nat × Nat))
deriving DecidableEq, Repr

/-- The FIR block (R60, R188 to R212). `stop` is the earliest stop point, a release road count in
1/65 536 count, `stopDue` whether the device enters Stopped when it is reached (R61, R122); `oldGeos` the geometries that
still govern lines released before a knot, with the knot's position in 1/65 536 count (R28); `missed` the samples whose sequence
numbers lie between the latest two that FIRE has used (R18); `knotTail` while lines before the knot position at which the device
entered Stopped still print (R61). -/
structure FirState where
  geo : Geo
  oldGeos : List (Int × Geo)
  grid : Option Grid
  ports : Vector FirPort 64
  s5 : List (Nat × Nat × Nat)
  lock : Bool
  ovs : Bool
  stop : Option Int
  stopDue : Bool
  knotTail : Bool
  ovsStopped : Bool
  everGrid : Bool
  lastSample : Option Nat
  missed : Nat
  chkBusy : Option (List (Nat × Word))
  chkReason : Nat
  chkSeg : Nat
  cntSkip : Word
  cntNull : Word
  cntLate : Word
  cntLLate : Word
deriving DecidableEq, Repr

/-- The STG block (R56, R198): residual shadow and active tables, the index register's value lives with the registers. -/
structure StgState where
  resShadow : WMap
  resActive : WMap
deriving DecidableEq, Repr

/-- Where a change to a nozzle entry comes from (R217, R494). -/
inductive Origin where
  | inspection | gate | host | tether
deriving DecidableEq, Repr

/-- What a queued change does to the entry: a suspect report, a gate result, a masked host request, or the
whole entry that the active chip sent (R217, R220, R221, R223). -/
inductive NzlKind where
  | suspect
  | gate (code : Nat)
  | host (req mask : BitVec 64)
  | entry (e : BitVec 64)
deriving DecidableEq, Repr

/-- A queued change (R217). `lcEff` none: it found no grid open and applies at once; `waited`: the device was Held when its
trigger was released (R218). -/
structure NzlChange where
  noz : Nat
  kind : NzlKind
  lcEff : Option Nat
  waited : Bool
deriving DecidableEq, Repr

/-- An offer carried by a lane (R232, R233). -/
structure Offer where
  layer : Nat
  line : Int
  code : Nat
deriving DecidableEq, Repr

/-- A line of a source that had no eligible target when it was mapped, with its trigger's line count (R233). -/
structure Orphan where
  src : Nat
  layer : Nat
  line : Int
  lc : Nat
deriving DecidableEq, Repr

/-- A detour lane (R233). `freeing` is the line count at which it frees, once its source is no longer a source, `since` the line count of
the source's next trigger when it was allocated. -/
structure Lane where
  src : Nat
  tgt : Nat
  diff : Nat
  offers : List Offer
  freeing : Option Nat
  since : Option Nat
deriving DecidableEq, Repr

/-- The NZL block (R213 to R238). `absentPending` are ports whose bit is set at a trigger of the open grid; `held` are the
gate and inspection results held by a full queue (R219); `orphans` the lines of the last 256 triggers that a source could offer nowhere (R233). -/
structure NzlState where
  queue : List NzlChange
  held : List NzlChange
  hostPrev : Option (Nat × Nat)
  absent : BitVec 64
  absentPending : List (Nat × Nat)
  lanes : List Lane
  sources : List DetourSrc
  orphans : List Orphan
  shufValid : Bool
  shufActive : Int
  shufPos : Int
  journal : List (BitVec 64)
  jrnOvf : Nat
  cntDetour : Word
  cntLost : Word
  cntLate : Word
deriving DecidableEq, Repr

/-- What one window of a slot has seen (R227). -/
structure GateSlot where
  noz : Nat
  tested : Bool
  strikes : Nat
  arrivals : List (Option Nat)
deriving DecidableEq, Repr

/-- A drop gate (R224 to R229, R239). -/
structure GateState where
  queue : List Nat
  busy : Bool
  waitGrid : Bool
  abort : Bool
  todo : List Nat
  slotNo : Nat
  slot : Option GateSlot
  cnt : Word
  drops : Word
  result : Nat
  resNoz : Nat
deriving DecidableEq, Repr

end Sys2Proof.Machine
end

