-- ==== Sys2Proof/Machine/TypesLink.lean ====
section
/-! DEFINITION. The state types of the head links (09_gulist_link), inspection (10_inspection), memory,
banks and arbiters (11_memory), axes (12_axes) and lamps (13_lamps). -/

namespace Sys2Proof.Machine

/-- Link states with the codes of R248. -/
inductive LinkState where
  | disabled | detect | poll | lock | exchange | active
deriving DecidableEq, Repr

/-- The CFG frame outstanding on a port (R264): its control sequence, direction, first word, count, data,
repeats sent, and whether the host asked for it (R274). -/
structure CfgReq where
  seq : Nat
  write : Bool
  addr : Nat
  count : Nat
  data : List Word
  tries : Nat
  host : Bool
deriving DecidableEq, Repr

/-- A symbol of the 8b/10b code (R242): a D symbol of a byte, or the K symbol Kx.y with 32 y + x. -/
inductive Sym where
  | d (b : Byte)
  | k (b : Byte)
deriving DecidableEq, Repr

/-- A head port's link (R243 to R276). `waiting`: the port waits for its next grid point in DETECT; `scr`: its ALIGN scrambler (R243);
`statDue`, `cfgDue`: a STATUS and the outstanding CFG frame still wait for the LINE frames before them (R271). -/
structure GulPort where
  st : LinkState
  waiting : Bool
  fails : Nat
  reason : Nat
  absent : Bool
  frozen : Bool
  rxInv : Bool
  caps : List Word
  capGeom : Word
  capMinp : Word
  serLo : Word
  serHi : Word
  step : Nat
  recheck : Bool
  cfg : Option CfgReq
  txSeq : Nat
  rxSeq : Nat
  recent : List (Nat × Nat)
  nextSsn : Nat
  struckSsn : Nat
  lastMiss : Option Nat
  lastDiscM : Option Nat
  hstat : Word
  sense0 : Word
  sense1 : Word
  codeErr : Word
  rxCrc : Nat
  rxOther : Nat
  headMiss : Nat
  headDisc : Nat
  losses : Nat
  slips : Nat
  disc : Word
  lastDisc : Nat
  alignLogged : Bool
  scr : BitVec 16
  statDue : Bool
  cfgDue : Bool
deriving DecidableEq, Repr

/-- The GUL block (R273, R274, R276). -/
structure GulState where
  ports : Vector GulPort 64
  hcfgBusy : Bool
  hcfgOvr : Bool
  hcfgAck : Nat
  hcfgResult : Nat
  eyePort : Option Nat
  eyeAborted : Bool
  eyeDwell : Nat
  eyeErrs : Nat
  eyeBits : Nat
deriving DecidableEq, Repr

/-- A stripe in a camera port's buffer (R283): context, frame by its key, input line, first pixel, bytes, pixels. -/
structure CamStripe where
  ctx : Nat
  key : Nat
  line : Nat
  x0 : Nat
  npix : Nat
  data : Bytes
deriving DecidableEq, Repr

/-- A camera port (R277, R298); `hs`, `ulps`: high-speed reception, ULPS. -/
structure CamPort where
  buf : List CamStripe
  hdrCorr : Nat
  hdrUnc : Nat
  crcErr : Nat
  lenErr : Nat
  ign : Word
  bufMax : Nat
  lost : Word
  hs : Bool
  ulps : Bool
deriving DecidableEq, Repr

/-- A frame of a context with the values that govern it (R280 to R289): `regs` are the ISP and INS words
taken at its FS; histogram, zones and profile as sums and counts; `half` the samples of a Bayer pair's first line, by
line and first pixel. `key` tells the frames of a context apart, also where EN has set FNUM back. -/
structure CamFrame where
  key : Nat
  fnum : Nat
  csifn : Nat
  isOpen : Bool
  regs : List Word
  epoch : Word
  shuf : Int
  tag : Option Nat
  mapInv : Bool
  badLine : Bool
  short : Bool
  long : Bool
  incomplete : Bool
  pos : Nat
  used : List Nat
  pixels : Nat
  lost : Nat
  hist : List (Nat × Nat)
  zones : List (Nat × Nat)
  zoneCnt : List (Nat × Nat)
  prof : List (Nat × Nat)
  profCnt : List (Nat × Nat)
  half : List (Nat × List Nat)
  streakDone : Bool
  reports : Nat
deriving DecidableEq, Repr

/-- A camera context (R278 to R298); `opened`: the key of its next frame; `cut`: suspect reports beyond SMAX (R296). -/
structure CamCtx where
  frames : List CamFrame
  fnum : Nat
  trigs : List (Option Nat)
  next : Nat
  held : Nat
  dropped : Nat
  reports : BitVec 16
  last : Nat
  mapLogged : Option Nat
  opened : Nat
  cut : Nat
deriving DecidableEq, Repr

/-- CAM, ISP and INS (R277 to R298). -/
structure InspState where
  ports : Vector CamPort 4
  ctxs : Vector CamCtx 8
deriving DecidableEq, Repr

/-- A 64-byte DRAM unit (R308, R323): requester, channel, ca of its first byte, the bytes to write at their
offsets (none for a read), panic, how often it has been passed over, and the tag of its owner. -/
structure MemUnit where
  req : Nat
  ch : Nat
  ca : Nat
  wr : Option (List (Nat × Byte))
  panic : Bool
  passed : Nat
  tag : Nat
deriving DecidableEq, Repr

/-- What the ECC finds in an access (R302, R321): nothing, so many words corrected, or the first uncorrectable word with its syndrome. -/
inductive Ecc where
  | clean
  | single (words : Nat)
  | uncorrectable (word : Nat) (syndrome : BitVec 8)
deriving DecidableEq, Repr

/-- A read that the DRAM is answering; `wr` are the bytes of a write of less than a unit, whose unit is being read
first (R301). -/
structure Inflight where
  req : Nat
  ca : Nat
  data : Bytes
  tag : Nat
  panic : Bool
  wr : Option (List (Nat × Byte))
deriving DecidableEq, Repr

/-- A delay set of a channel (R303): TEMP and the ten delay and reference fields, in the order of R303. -/
structure DelaySet where
  temp : Int
  f : List Nat
deriving DecidableEq, Repr

/-- A re-verification in progress (R305, R307): the trial's place in the order of offsets, the bank of the
next slice, whether each lane has passed every slice of this trial, and the offsets found. -/
structure Verify where
  trial : Nat
  bank : Nat
  ok0 : Bool
  ok1 : Bool
  found0 : Option Int
  found1 : Option Int
deriving DecidableEq, Repr

/-- A DRAM channel (R299 to R316): CSTATE code, bracket, offsets, delay goals and values in service (R304,
R442), refresh counts in per-bank commands (a sixteenth of tREFI each), queue, open rows with the instant of their last
access, corrected words to write back, scrub address and when its next read falls due, the 256 check bytes accessed last, re-verification. -/
structure MemChan where
  cstate : Nat
  lo : Nat
  hi : Nat
  vofs0 : Int
  vofs1 : Int
  goal : List Int
  serv : List Int
  temp : Int
  refCode : Nat
  hotLogged : Bool
  postponed : Nat
  pulled : Nat
  refDue : Nat
  refBank : Nat
  forced : Bool
  ce : Word
  queue : List MemUnit
  inflight : List Inflight
  open_ : List (Nat × Nat × Nat)
  wback : List Nat
  scrub : Nat
  scrubAt : Nat
  chk : Option Nat
  verLo : Nat
  verHi : Nat
  diffTicks : Nat
  verWant : Bool
  ver : Option Verify
  stepAt : List Nat
  data : Memory
deriving DecidableEq, Repr

/-- An arbiter's view of a requester (R324, R325, R331). -/
structure ArbReq where
  age : Nat
  urgent : Bool
  urgSeq : Nat
  grants : Word
  urg : Word
deriving DecidableEq, Repr

/-- An arbiter instance (R323 to R327): holder, units left of its grant, requesters, round counter, and,
at the banks, the requesters known to wait. -/
structure Arb where
  holder : Option Nat
  left : Nat
  rounds : Nat
  waiting : BitVec 8
  reqs : Vector ArbReq 8
deriving DecidableEq, Repr

/-- An on-chip bank (R318 to R330). -/
structure BankSt where
  data : Memory
  conf : Vector Word 4
  ce : Word
  align : Word
  ue : Option Nat
deriving DecidableEq, Repr

/-- MEM, BNK and ARB. `sets`, `timing` and `modeRegs` are what the DRAMSET records gave each channel (R466); `pend` are the units that
wait at the channel-pair arbiters, oldest first (R323). -/
structure MemState where
  chans : Vector MemChan 8
  sets : List (Nat × List DelaySet)
  timing : List (Nat × List Nat)
  modeRegs : List (Nat × List (Nat × Nat))
  pend : List MemUnit
  nextTag : Nat
  frozen : Bool
  err0 : Word
  err1 : Word
  cntCe : Word
  cntUe2 : Nat
  cntHaz : Word
  cntPanic : Word
  banks : Vector BankSt 7
  arbs : Vector Arb 12
deriving DecidableEq, Repr

/-- One phase of an axis's chopper (R333 to R338). Drive codes: 0 OFF, 1 DRIVE+, 2 DRIVE−, 3 SLOW, 4 FAST; `lastPos` the
direction of the last drive, `lastT`, `cur` (I) and `lastOn` of the latest cycle that drove, `cycles` since the latest probe cycle,
`probeDue` a deferred probe, `probing` a probe cycle in progress. -/
structure ChopPhase where
  drive : Nat
  lastPos : Bool
  ofs : Int
  shorts : Nat
  cycles : Nat
  lastT : Nat
  lastOn : Nat
  probeDue : Bool
  probing : Bool
  cur : Nat
deriving DecidableEq, Repr

/-- A stepper axis (R332 to R354): p, v and a with 16 fractional bits (R339); `goal` the position computed for the next
update, towards which the sequencer moves `pos`; `rwl` and `rwk` the axis's registers as the latest update took them (R25,
R32), `tbl` the table likewise. `hardStop` is 1 in a hard-limit stop, 2 in one that has disengaged gearing; `limStop` holds
the verge and the deceleration of a limit stop in progress; `vHold` the side of the verge held after one (R346). -/
structure AxisState where
  p : Int
  v : Int
  a : Int
  pos : Int
  goal : Int
  iofs : Int
  rwl : WMap
  rwk : WMap
  mode : Nat
  src : Nat
  ramp : Bool
  en : Bool
  posValid : Bool
  standstill : Bool
  holdCur : Bool
  limLo : Bool
  limHi : Bool
  hardStop : Nat
  limStop : Option (Int × Int)
  vHold : Int
  fstop : Bool
  dheld : Option Int
  stat : BitVec 8
  gbase : Int
  mbase : Int
  ratio : Int
  gat : Int
  gatArmed : Bool
  sigma : Int
  lag : Int
  knotPend : Bool
  dmaxLow : Bool
  ont : Nat
  onSum : Nat
  onCnt : Nat
  lowSteps : Nat
  stallPend : Bool
  phA : ChopPhase
  phB : ChopPhase
  tblShadow : WMap
  tblActive : WMap
  tbl : WMap
deriving DecidableEq, Repr

/-- A lamp-bus chain (R366 to R370): whether an update is under way, the frames still to be answered, whether the first of
them has been sent, whether this update has logged LBUS_ECHO, and the ECHO bit. -/
structure LampChain where
  busy : Bool
  toSend : List Bytes
  sent : Bool
  echoed : Bool
  echo : Bool
deriving DecidableEq, Repr

/-- The LMP block (R355 to R372): zone buffers A and B, front, values and user points in force since the latest swap,
cure-follows-print values by zone, `dark` while they show 0 (R371), drop rings of R364 (per port: latest LC built with its NW,
counts by LC mod 1 024). `frames` counts scan frames from EN, `sinceSwap` those from the latest swap on. -/
structure LampState where
  bufA : WMap
  bufB : WMap
  frontB : Bool
  swapPend : Bool
  swaps : BitVec 16
  frames : Nat
  sinceSwap : Nat
  inForce : WMap
  utblShadow : WMap
  utblActive : WMap
  utblForce : WMap
  cfp : List (Nat × Nat)
  dark : Bool
  drops : Vector (WMap) 64
  dropLast : Vector (Option (Nat × Nat)) 64
  ovr : Nat
  skip : Nat
  chains : Vector LampChain 2
deriving DecidableEq, Repr

end Sys2Proof.Machine
end

