-- ==== Sys2Proof/Machine/TypesNet.lean ====
section
/-! DEFINITION. The state types of network, time and management (14_network_time), pairing and the KEEP
island (15_pairing), calibration (16_calibration), start-up (17_start_up), and what the block has sent. -/

namespace Sys2Proof.Machine

/-- A neighbour of the cache of R379: address, MAC, and when it was last refreshed. -/
structure Neighbour where
  v6 : Bool
  ip : BitVec 128
  mac : BitVec 48
  at_ : Nat
deriving DecidableEq, Repr

/-- A resolution under way (R379): address asked for, requests sent, and the latest datagram held for it. -/
structure Resolving where
  v6 : Bool
  ip : BitVec 128
  sent : Nat
  dst : Session
  udp : BitVec 16
  pcp : Nat
  held : Bytes
deriving DecidableEq, Repr

/-- Where a frame leaves: the port, and the MAC address that it goes to (R378). -/
structure Via where
  np : Nat
  mac : BitVec 48
deriving DecidableEq, Repr

/-- The header of a frame that is sent (R377): port, destination, VID and PCP (0 and 0 when untagged), and of an IP packet the DSCP and
the TTL or hop limit. -/
structure Wire where
  np : Nat
  mac : BitVec 48
  vid : Nat
  pcp : Nat
  dscp : Nat
  hops : Nat
deriving DecidableEq, Repr

/-- A network port (R373 to R380, R404). The drop counts are FCS, LONG, VLAN and PAUSE, PROTO. -/
structure NetPortState where
  up : Bool
  lock : Bool
  anDone : Bool
  cache : List Neighbour
  resolving : List Resolving
  rxCnt : Word
  txCnt : Word
  drop : Vector Nat 4
  fecCorr : Nat
  fecUnc : Nat
  unres : Nat
  echoOver : Nat
  echoTimes : List Nat
deriving DecidableEq, Repr

/-- A port's section of the NETID record (R464). -/
structure NetIdPort where
  mac : BitVec 48
  vid : Nat
  dscp : Nat
  pfx4 : Nat
  pfxLl : Nat
  pfxG : Nat
  ipv4 : BitVec 32
  gw4 : BitVec 32
  ll6 : BitVec 128
  g6 : BitVec 128
  gw6 : BitVec 128
  peer4 : BitVec 32
  peer6 : BitVec 128
deriving DecidableEq, Repr

/-- What the image's NETID, KEYS, DRAMSET and CALSET records gave (R464 to R467). A key is its id, role and 32 bytes. -/
structure NetId where
  group4 : BitVec 32
  group6 : BitVec 128
  ports : Vector NetIdPort 2
deriving DecidableEq, Repr

/-- A key of the KEYS record (R465). -/
structure Key where
  id : Nat
  role : Nat
  key : Bytes
deriving DecidableEq, Repr

/-- A foreign master (R386): its port identity, receiving port, the Announces counted, the data set compared,
the announce interval and when the latest came. -/
structure Foreign where
  ident : Nat
  port : Nat
  count : Nat
  times : List Nat
  prio1 : Nat
  cls : Nat
  acc : Nat
  var : Nat
  prio2 : Nat
  gm : Nat
  steps : Nat
  logIntv : Int
  at_ : Nat
deriving DecidableEq, Repr

/-- A Sync that waits for its Follow_Up (R387): sequence, receive stamp, correction, interval, port. -/
structure PendSync where
  seq : Nat
  t2 : Int
  corr : Int
  logIntv : Int
  port : Nat
deriving DecidableEq, Repr

/-- A delay request under way (R388): sequence, transmit stamp; for peer delay the response's parts. -/
structure PendDelay where
  seq : Nat
  t3 : Int
  port : Nat
  t4 : Int
  rcpt : Int
  corr : Int
  waitFup : Bool
deriving DecidableEq, Repr

/-- The servo states of R390. -/
inductive Servo where
  | disabled | listen | acquire | track | holdover
deriving DecidableEq, Repr

/-- A PTP domain (R381 to R391): T in 2^-32 ns, increment in 2^-32 ns per cycle, servo, masters, `sync` the latest
Sync's t2 less t1 less its corrections, mean path delay per R388 (E2E in `d`, per-port peer delay in `pd`; `dFirst` and
`pdFirst` while no sample came since ACQUIRE), stamps in 2^-16 ns. -/
structure PtpDom where
  t : Nat
  inc : Nat
  adj : Int
  i : Int
  servo : Servo
  locked : Nat
  foreign : List Foreign
  master : Option (Nat × Nat)
  pendSync : Option PendSync
  sync : Option Int
  d : Int
  dFirst : Bool
  pd : Vector Int 2
  pdFirst : Vector Bool 2
  drqL : Option Int
  pendReq : Option PendDelay
  pendPeer : Vector (Option PendDelay) 2
  reqSeq : Nat
  peerSeq : Nat
  reqAt : Option Nat
  ofs : Int
  cntSync : Word
  cntIgn : Word
  cntStep : Word
  snap : Nat
deriving DecidableEq, Repr

/-- The PTP block (R382, R392, R393, R405): K in 2^-16 ns, the selected domain, device-time snapshot,
ticks for which the automatic switch has held, FIRE divider correction in 1/16 ppb. -/
structure PtpState where
  doms : Vector PtpDom 2
  sel : Nat
  k : Int
  kAcc : Nat
  snap : Nat
  swTicks : Nat
  fireCorr : Int
  fireLimit : Bool
deriving DecidableEq, Repr

/-- A key's replay window and reply store (R398) and transmit sequence (R397). -/
structure KeyWin where
  h : Nat
  map : List Nat
  replies : List (Nat × Bytes)
  txSeq : Nat
deriving DecidableEq, Repr

/-- A subscription slot (R403). -/
structure Sub where
  sess : Session
  key : Nat
  mask : Nat
  until_ : Nat
  queue : List Bytes
  lost : Nat
  evSeq : Nat
deriving DecidableEq, Repr

/-- The MGT block (R394 to R406); `ticks` counts the management ticks, `tickAt` is the instant of the latest and its device time in ms. -/
structure MgtState where
  keys : List Key
  boot : BitVec 64
  wins : Vector KeyWin 8
  subs : Vector (Option Sub) 4
  cntFormat : Nat
  cntAuth : Nat
  cntReplay : Nat
  cntStale : Nat
  cntReq : Word
  resetDue : Bool
  ticks : Nat
  tickAt : Option (Nat × Nat)
deriving DecidableEq, Repr

/-- A tether lane (R422): state; `waiting` and `scr` as for a head port. -/
structure TethLane where
  st : LinkState
  waiting : Bool
  frozen : Bool
  rxInv : Bool
  scr : BitVec 16
deriving DecidableEq, Repr

/-- What the standby has been told to do at a line count (R419): code and line. -/
structure StateAt where
  code : Nat
  lc : Nat
deriving DecidableEq, Repr

/-- The PAR block (R407 to R438). `clear` holds READY clear until the next matching layer start: a diverged knot or line,
a late knot, an own Stop, or a rejoin; `updLate` holds it for 256 triggers of a port. `hitchAt` is when HITCH_IN_N last
changed, `hbAt` when a valid heartbeat last came, `slow` and `hold` tell whether SLOW_N and HOLD_N are asserted (R155, R437), `heldNzl` the changes of words that a rejoiner has not yet copied. -/
structure ParState where
  strapB : Bool
  role : Nat
  hitchOut : Bool
  hitchIn : Bool
  hitchAt : Option Nat
  slow : Bool
  hold : Bool
  yieldSent : Bool
  joined : Bool
  clear : Bool
  updLate : List (Nat × Nat)
  splices : Word
  lastCode : Nat
  lastLc : Nat
  lanes : Vector TethLane 2
  tethUp : Bool
  skew : Int
  txSeq : Nat
  rxSeq : Nat
  unacked : List (Nat × Nat × Bytes)
  portLcs : List (Nat × List (Nat × Bytes))
  dlc : Option Nat
  peerDlc : Option Nat
  peerHold : Bool
  peerReady : Bool
  peerHalted : Bool
  peerState : Nat
  peerRole : Nat
  tMiss : Bool
  nMiss : Bool
  hbBoot : Option (BitVec 64)
  hbSeq : Nat
  hbTx : Nat
  hbAt : Option Nat
  pendSplice : Option Nat
  spliceWait : List Nat
  pendYield : Option Nat
  knotDone : Option (Word × Int × BitVec 32)
  lastKnot : Option (Word × Int × BitVec 32)
  pendStates : List StateAt
  copying : Bool
  copyPos : Nat
  heldNzl : List (Nat × BitVec 64 × Nat)
  cntResend : Word
  cntCrc : Word
  cntResync : Word
  cntTMiss : Nat
  cntNMiss : Nat
deriving DecidableEq, Repr

/-- The KEEP island's own state (R436, R457, R489). -/
structure KeepState where
  feedA : Bool
  feedB : Bool
  feedLoss : Bool
  coreWatch : Bool
  coreLost : Bool
  resetCause : BitVec 3
deriving DecidableEq, Repr

/-- A CALSET entry (R440, R467). -/
structure CalSet where
  target : Nat
  sensor : Nat
  pts : List (Int × Int)
deriving DecidableEq, Repr

/-- A calibrated value (R439, R442): goal and value in service, LIMIT, the temperature and value of its
last measurement (R446), and 1 + the count of ticks at its last step, 0 for none. -/
structure CalVal where
  goal : Int
  serv : Int
  limit : Bool
  measAt : Option (Int × Int)
  tick : Nat
deriving DecidableEq, Repr

/-- A fire-edge generator (R443 to R447). STATE codes of CAL_FEGg; `stepped` since the latest strike of the port it serves, `stepAt` the
instant of its latest step (R442). -/
structure Feg where
  ftrim : CalVal
  state : Nat
  tapMap : List Nat
  errPs : Int
  measured : Bool
  stepped : Bool
  stepAt : Option Nat
deriving DecidableEq, Repr

/-- A rotation group (R445): phase of CAL_SPAREg, port covered, next in turn, matches in a row, forced queue. -/
structure FegGroup where
  phase : Nat
  port : Nat
  next : Nat
  matches_ : Nat
  forced : List Nat
  stopped : Bool
deriving DecidableEq, Repr

/-- A comparator (R449, R450). -/
structure CmpCal where
  ofs : CalVal
  stage : Nat
  failed : Bool
  valid : Bool
  measuring : Bool
deriving DecidableEq, Repr

/-- A lane's trims (R439). -/
structure LaneCal where
  swing : CalVal
  deemph : CalVal
  sampler : CalVal
deriving DecidableEq, Repr

/-- The CAL block (R439 to R451). `temps` is the latest reading of each sensor, `prev` that of the previous tick. -/
structure CalState where
  sets : List CalSet
  fegs : Vector Feg 68
  groups : Vector FegGroup 4
  lanes : Vector LaneCal 66
  cmps : Vector CmpCal 10
  temps : Vector Int 8
  tempValid : BitVec 8
  tempPrev : Vector (Option Int) 8
  cntRot : Word
  cntFail : Word
deriving DecidableEq, Repr

/-- Why a slot was not accepted (R539) and DETAIL. -/
structure SlotResult where
  reason : Nat
  detail : Nat
  gen : Word
  read : Bool
deriving DecidableEq, Repr

/-- The CFG block (R453 to R478). `cands` are the candidates still to try, the first being read, with the headers of the slots in
`hdrs`; `pass` 0 headers, 1, 2; `recs` the records of pass 1 still to be applied, `recIdx` the index of the first of them;
`digest` and `fmode` are the candidate's. `supplyHold` while Cold is due to a supply monitor (R453, R491), `dramSeen` the populated channels
that a DRAMSET record has named (R466), `relAt` the instant of the release (R455). -/
structure CfgState where
  supplyHold : Bool
  bootSel : BitVec 2
  roleStrap : Bool
  slots : Vector SlotResult 2
  cands : List Nat
  pass : Nat
  recIdx : Nat
  recs : List Bytes
  hdrs : List (Nat × Bytes)
  digest : Bytes
  fmode : Nat
  accepted : Option Nat
  dramSeen : BitVec 8
  relAt : Nat
  tVerify : Nat
  tReady : Nat
  laneWait : Bool
  dramDone : Bool
  otpProg : BitVec 8
  otpRev : BitVec 8
  otpPin : Bool
  otpDigests : List (Nat × Bytes)
  otpBusy : Bool
  otpOpen : Bool
deriving DecidableEq, Repr

/-- What the block has sent, in order (log 3). -/
inductive Output where
  /-- A UDP datagram to a session, with its source UDP port. -/
  | udp (w : Wire) (dst : Session) (src : Nat) (d : Bytes)
  /-- A neighbour message: ARP or neighbour discovery (R379): kind, and the address asked for or announced. -/
  | neigh (w : Wire) (kind : String) (v6 : Bool) (ip : BitVec 128)
  /-- An ICMP echo reply (R380). -/
  | echo (w : Wire) (v6 : Bool) (ip : BitVec 128) (body : Bytes)
  /-- A PTP message sent over a transport (R384, R385, R388). -/
  | ptp (w : Wire) (tr : PtpTransport) (dom : Nat) (d : Bytes)
  /-- The answer of a register access to its master. -/
  | access (m : Master) (res : AccRes) (v : Word)
  /-- A Waypost access ended (R497). -/
  | waypost (status : Nat) (addr data : Word)
  /-- Symbols sent on a lane: 0 to 63 a head port's, 64 and 65 the tether's; RATE code and transmit polarity (R241, R250). An ordered set that
  is sent again until the next output of its lane stands once (log 133). -/
  | lane (l rate : Nat) (inv : Bool) (syms : List Sym)
  /-- A lane's transmitter enters electrical idle (R245). -/
  | idle (l : Nat)
  /-- Symbols sent on the tether's two lanes in the same slots (R424). -/
  | tether (l0 l1 : List Sym)
  /-- A strike: port, coarse and fine part of tf, pulse width, and the active level to which the FIRE pair goes for that width before it
  returns to the other one; a port that is not ACTIVE holds its pair inactive (R194, R196). -/
  | strike (p coarse fine width : Nat) (pol active : Bool)
  /-- A test strike of a gate sweep, likewise (R196, R227). -/
  | testStrike (p width : Nat) (pol active : Bool)
  /-- A pin or pin group that changed level. -/
  | pin (name : String) (i : Nat) (level : Bool)
  /-- A SPD_ADV frame: the bits in the order sent (R154). -/
  | spdAdv (bits : List Bool)
  /-- A lamp-bus frame, most significant bit of each byte first, on a clock of 100 MHz ÷ (`div` + 1) (R366). -/
  | lbus (chain div : Nat) (d : Bytes)
  /-- A scan frame of the lamps (R357, R358): its slots in order, each with its row select (none without the matrix) and the duties of its
  columns, on a PWM clock of 200 MHz ÷ (`div` + 1), in periods of 2^`pbits` clocks, each followed in the matrix by a guard of so many 5 ns. -/
  | scan (slots : List (Option Nat × List Nat)) (pbits div guard : Nat)
  /-- A pass-through step of a channel (R178). -/
  | ptStep (ch : Nat) (a b z : Bool)
  /-- The gates of a bridge of an axis, so many times 5 ns after the output before (R332, R333). -/
  | bridge (axis phase : Nat) (gates : BitVec 4) (after : Nat)
  /-- A bank operation's answer to its requester: the bytes read or swapped out, none on an error response. -/
  | bank (b r : Nat) (d : Option Bytes)
  /-- A DRAM command issued to a channel. -/
  | dram (ch : Nat) (what : String) (ca : Nat)
deriving DecidableEq, Repr

end Sys2Proof.Machine
end

