-- ==== Sys2Proof/Machine/State.lean ====
section
/-! DEFINITION. The state of the block, the ways a step can stop, and the state right after reset. -/

namespace Sys2Proof.Machine

/-- The ways a step faults. -/
inductive Fault where
  /-- Raised by a command that stands for an event inside the device when the present state does not allow
  that event (log 2). Safe: the model stops where the hardware shows nothing. -/
  | cannotOccur (event : String)
deriving DecidableEq, Repr

/-- The ways a command is refused by the model. -/
inductive Refusal where
  /-- Raised by the dispatch for a command without a meaning. Safe. -/
  | notModelled (mnemonic : String)
  /-- Raised by a command whose operands do not spell its row (log 1): WellFormed is false of it. Safe. -/
  | illFormed (event : String)
deriving DecidableEq, Repr

/-- Everything the spec gives the block, and the model's own fields: `pending` (the queue of commands), `now`
(log 5), `outbox` (log 3) and `free`, the counter of the free values (log 6). `regs` holds the value last
written to each register, `act` the active copy where a register has one (R7), both sparse over the reset
values. -/
structure State where
  pending : List Instr
  now : Nat
  free : Nat
  outbox : List Output
  regs : WMap
  act : WMap
  sys : SysState
  err : ErrState
  cap : CapState
  dbg : DbgState
  cfg : CfgState
  keep : KeepState
  net : Vector NetPortState 2
  netId : NetId
  ptp : PtpState
  mgt : MgtState
  tow : TowState
  plc : PlcState
  cmp : CmpState
  str : StrState
  pos : PosState
  mil : MilState
  fir : FirState
  stg : StgState
  nzl : NzlState
  gat : Vector GateState 2
  gul : GulState
  insp : InspState
  mem : MemState
  axs : Vector AxisState 4
  lmp : LampState
  par : ParState
  cal : CalState
deriving DecidableEq, Repr

/-- The error logger after RESET_N (R483). -/
def ErrState.init : ErrState where
  found := []
  head := 0
  ring := []
  faults := []
  fovf := false
  stopHeld := false
  fatalHeld := false
  stopBlk := 0
  fatalBlk := 0
  latches := Vector.replicate 4 none
  nest := 0
  sec := 0
  supp := Vector.replicate 29 0
  snaps := []
  limits := []

/-- The SYS block after reset (R516). -/
def SysState.init : SysState where
  st := .cold
  prev := .cold
  pendingKnot := none
  pendingPos := none
  knotDue := none
  epoch := 0
  knotPos := 0
  posSnap := 0
  paceStat := 0
  paceNow := Vector.replicate 32 0xFFFF
  paceMin := Vector.replicate 32 0xFFFF
  paceLowLogged := 0
  paceFeedLogged := 0

/-- The capture engine after reset (R506). -/
def CapState.init : CapState where
  busy := false
  done := false
  trunc := false
  refused := false
  dlen := 0
  mask := 0
  origin := 0
  dstate := 0
  trigSeq := 0
  dtSec := 0
  dtNs := 0

/-- The Waypost port after a TAP reset (R495, R507). -/
def DbgState.init : DbgState where
  halted := false
  stages := 0
  steps := Vector.replicate 8 0
  irref := false
  bpValid := false
  bp := 0
  hits := Vector.replicate 16 0
  atBp := []
  ir := 2
  accStatus := 0
  accAddr := 0
  accData := 0
  accTag := none

/-- The CFG block while RESET_N is taken (R454, R477). The fuses are as shipped: none blown (log 7). -/
def CfgState.init : CfgState where
  supplyHold := true
  bootSel := 0
  roleStrap := false
  slots := Vector.replicate 2 ⟨0, 0, 0, false⟩
  cands := []
  pass := 0
  recIdx := 0
  recs := []
  hdrs := []
  digest := []
  fmode := 0
  accepted := none
  dramSeen := 0
  relAt := 0
  tVerify := 0
  tReady := 0
  laneWait := false
  dramDone := false
  otpProg := 0
  otpRev := 0
  otpPin := false
  otpDigests := []
  otpBusy := false
  otpOpen := false

/-- The KEEP island before a feed is in range (R438, R477). -/
def KeepState.init : KeepState where
  feedA := false
  feedB := false
  feedLoss := false
  coreWatch := false
  coreLost := false
  resetCause := 0

/-- A network port after reset (R404). -/
def NetPortState.init : NetPortState where
  up := false
  lock := false
  anDone := false
  cache := []
  resolving := []
  rxCnt := 0
  txCnt := 0
  drop := Vector.replicate 4 0
  fecCorr := 0
  fecUnc := 0
  unres := 0
  echoOver := 0
  echoTimes := []

/-- No NETID record read yet (R464). -/
def NetId.init : NetId where
  group4 := 0
  group6 := 0
  ports := Vector.replicate 2 ⟨0, 0, 0, 0, 0, 0, 0, 0, 0, 0, 0, 0, 0⟩

/-- The nominal increment at reset: 6 ns and 0x6666_6666 in 2^-32 ns (R381). -/
def nomReset : Nat := 6 * 2 ^ 32 + 0x66666666

/-- A PTP domain after reset (R405). -/
def PtpDom.init : PtpDom where
  t := 0
  inc := nomReset
  adj := 0
  i := 0
  servo := .disabled
  locked := 0
  foreign := []
  master := none
  pendSync := none
  sync := none
  d := 0
  dFirst := true
  pd := Vector.replicate 2 0
  pdFirst := Vector.replicate 2 true
  drqL := none
  pendReq := none
  pendPeer := Vector.replicate 2 none
  reqSeq := 0
  peerSeq := 0
  reqAt := none
  ofs := 0
  cntSync := 0
  cntIgn := 0
  cntStep := 0
  snap := 0

/-- The PTP block after reset (R405). -/
def PtpState.init : PtpState where
  doms := Vector.replicate 2 PtpDom.init
  sel := 0
  k := 0
  kAcc := 0
  snap := 0
  swTicks := 0
  fireCorr := 0
  fireLimit := false

/-- A key's window after reset (R398). -/
def KeyWin.init : KeyWin := ⟨0, [], [], 0⟩

/-- The MGT block after reset (R406). -/
def MgtState.init : MgtState where
  keys := []
  boot := 0
  wins := Vector.replicate 8 KeyWin.init
  subs := Vector.replicate 4 none
  cntFormat := 0
  cntAuth := 0
  cntReplay := 0
  cntStale := 0
  cntReq := 0
  resetDue := false
  ticks := 0
  tickAt := none

/-- Ingress after reset (R111). -/
def TowState.init : TowState := ⟨[], [], [], 0, 0, 0, 0⟩

/-- The CMP block after reset (R132). -/
def CmpState.init : CmpState where
  comps := Vector.replicate 2 idleComp
  wait := []
  cntBlk := 0
  cntRaw := 0
  inBytes := 0
  outBytes := 0
  decCnt := Vector.replicate 8 0
  last := none
  lastValid := false

/-- An Idle strand (R135, R159). -/
def Strand.init : Strand where
  st := .idle
  layer := none
  nextLine := 0
  block := 0
  discard := 0
  token := ⟨0, 0, 0⟩
  outPos := 0
  inPos := 0
  crcAcc := 0
  hdr := none
  hist := []
  badFrom := none
  fetchLayer := none
  fetchBlock := 0
  fetchByte := 0
  ring := []
  reqs := []
  nextLayer := none
  out := []
  margin := 0
  level := 0
  panic := false
  migrating := false
  spool := 0
  target := 0
  recent := 0
  skip := 0
  wpos := 0
  stopAt := none
  decNext := false

/-- The STR block after reset (R159). -/
def StrState.init : StrState where
  strands := Vector.replicate 512 Strand.init
  level := 0
  speed := 0xFFFFFF
  src := 0
  advSeq := 0
  advWord := 0
  cntUnder := 0
  cntPanic := 0
  cntMigr := 0
  cntDisc := 0
  lineHist := []
  presentNow := []

/-- A channel while KEEP_RESET_N is asserted (R162). -/
def EncChan.init : EncChan where
  lvA := false
  lvB := false
  disagree := 0
  lostLogged := 0
  rc := 0
  x := 0
  v := 0
  a := 0
  started := false
  rev := false
  turn := 0
  armed := false
  slip := 0
  stat := 0
  errCnt := Vector.replicate 4 0
  ssiPrev := none
  ssiBusy := false
  ssiBad := 0
  ssiMeas := none
  ssiX := 0
  snapRc := 0
  snapHwm := 0
  snapV := 0
  snapA := 0
  ptOut := 0
  ptPhase := 0
  ptZ := false

/-- The POS block while KEEP_RESET_N is asserted (R162). -/
def PosState.init : PosState := ⟨Vector.replicate 4 EncChan.init, 0, true, [], []⟩

/-- A milestone at its reset values (R187). -/
def Milestone.init : Milestone where
  armed := false
  stale := false
  cmp := 0
  cmpLo := 0
  cmpHiLatch := 0
  hit := 0
  hitHiLatch := 0
  missed := 0
  cnt := 0
  dPrev := 0
  due := none
  later := []

/-- The MIL block at its reset values (R187). -/
def MilState.init : MilState where
  ms := Vector.replicate 32 Milestone.init
  stat := 0
  outOn := 0
  camOn := 0
  sync := Vector.replicate 2 ⟨0, 0, false⟩

/-- The active geometry before the first knot: no segment enabled, every knotted value at reset (R63, R211, R238). -/
def Geo.init : Geo where
  rev := false
  enc := 0
  cpl := 0x10000
  segs := []
  frac := []
  minp := List.replicate 64 0x7D0
  stb := List.replicate 64 0x40000014
  sat := false
  conf := 0x33280000
  dremap := 0x00FAC688
  res := []

/-- A port of the FIR block after reset (R211). -/
def FirPort.init : FirPort where
  isOpen := false
  kr := 0
  ks := 0
  first := none
  trigs := []
  tlast := 0
  skipPending := false
  lagNow := 0
  lagging := false
  lagMax := 0
  lastLc := 0
  lastTf := 0
  snapLc := 0
  snapTf := 0
  hist := []

/-- The FIR block after reset (R63, R211). -/
def FirState.init : FirState where
  geo := Geo.init
  oldGeos := []
  grid := none
  ports := Vector.replicate 64 FirPort.init
  s5 := []
  lock := false
  ovs := false
  stop := none
  stopDue := false
  knotTail := false
  ovsStopped := false
  everGrid := false
  lastSample := none
  missed := 0
  chkBusy := none
  chkReason := 0
  chkSeg := 0
  cntSkip := 0
  cntNull := 0
  cntLate := 0
  cntLLate := 0

/-- The NZL block after reset (R238). -/
def NzlState.init : NzlState where
  queue := []
  held := []
  hostPrev := none
  absent := 0
  absentPending := []
  lanes := []
  sources := []
  orphans := []
  shufValid := false
  shufActive := 0
  shufPos := 0
  journal := []
  jrnOvf := 0
  cntDetour := 0
  cntLost := 0
  cntLate := 0

/-- A gate after reset (R239). -/
def GateState.init : GateState := ⟨[], false, false, false, [], 0, none, 0, 0, 0, 0⟩

/-- A head port after reset (R276). -/
def GulPort.init : GulPort where
  st := .disabled
  waiting := false
  fails := 0
  reason := 0
  absent := true
  frozen := false
  rxInv := false
  caps := []
  capGeom := 0
  capMinp := 0
  serLo := 0
  serHi := 0
  step := 0
  recheck := false
  cfg := none
  txSeq := 0
  rxSeq := 0
  recent := []
  nextSsn := 0
  struckSsn := 0
  lastMiss := none
  lastDiscM := none
  hstat := 0
  sense0 := 0
  sense1 := 0
  codeErr := 0
  rxCrc := 0
  rxOther := 0
  headMiss := 0
  headDisc := 0
  losses := 0
  slips := 0
  disc := 0
  lastDisc := 0
  alignLogged := false
  scr := 0xFFFF
  statDue := false
  cfgDue := false

/-- The GUL block after reset (R276). -/
def GulState.init : GulState where
  ports := Vector.replicate 64 GulPort.init
  hcfgBusy := false
  hcfgOvr := false
  hcfgAck := 0
  hcfgResult := 0
  eyePort := none
  eyeAborted := false
  eyeDwell := 0
  eyeErrs := 0
  eyeBits := 0

/-- A camera port after reset (R298). -/
def CamPort.init : CamPort := ⟨[], 0, 0, 0, 0, 0, 0, 0, false, false⟩

/-- A camera context after reset (R298). -/
def CamCtx.init : CamCtx := ⟨[], 0, [], 0, 0, 0, 0, 0, none, 0, 0⟩

/-- CAM, ISP and INS after reset (R298). -/
def InspState.init : InspState := ⟨Vector.replicate 4 CamPort.init, Vector.replicate 8 CamCtx.init⟩

/-- A DRAM channel after reset: CSTATE Verifying (R329). -/
def MemChan.init : MemChan where
  cstate := 1
  lo := 0
  hi := 0
  vofs0 := 0
  vofs1 := 0
  goal := List.replicate 10 0
  serv := List.replicate 10 0
  temp := 0
  refCode := 0
  hotLogged := false
  postponed := 0
  pulled := 0
  refDue := 0
  refBank := 0
  forced := false
  ce := 0
  queue := []
  inflight := []
  open_ := []
  wback := []
  scrub := 0
  scrubAt := 0
  chk := none
  verLo := 0
  verHi := 0
  diffTicks := 0
  verWant := false
  ver := none
  stepAt := List.replicate 10 0
  data := []

/-- MEM, BNK and ARB after reset (R329 to R331); every bank reads 0 (R454). -/
def MemState.init : MemState where
  chans := Vector.replicate 8 MemChan.init
  sets := []
  timing := []
  modeRegs := []
  pend := []
  nextTag := 0
  frozen := false
  err0 := 0
  err1 := 0
  cntCe := 0
  cntUe2 := 0
  cntHaz := 0
  cntPanic := 0
  banks := Vector.replicate 7 ⟨[], Vector.replicate 4 0, 0, 0, none⟩
  arbs := Vector.replicate 12 ⟨none, 0, 0, 0, Vector.replicate 8 ⟨0, false, 0, 0, 0⟩⟩

/-- A chopper phase after reset: bridge OFF, OFS 0 (R333, R338). -/
def ChopPhase.init : ChopPhase := ⟨0, true, 0, 0, 0, 0, 0, false, false, 0⟩

/-- An axis after reset (R354). -/
def AxisState.init : AxisState where
  p := 0
  v := 0
  a := 0
  pos := 0
  goal := 0
  iofs := 0
  rwl := []
  rwk := []
  mode := 0
  src := 0
  ramp := false
  en := false
  posValid := false
  standstill := false
  holdCur := false
  limLo := false
  limHi := false
  hardStop := 0
  limStop := none
  vHold := 0
  fstop := false
  dheld := none
  stat := 0
  gbase := 0
  mbase := 0
  ratio := 0x10000
  gat := 0
  gatArmed := false
  sigma := 0
  lag := 0
  knotPend := false
  dmaxLow := false
  ont := 0
  onSum := 0
  onCnt := 0
  lowSteps := 0
  stallPend := false
  phA := ChopPhase.init
  phB := ChopPhase.init
  tblShadow := []
  tblActive := []
  tbl := []

/-- The LMP block after reset (R355, R372). -/
def LampState.init : LampState where
  bufA := []
  bufB := []
  frontB := false
  swapPend := false
  swaps := 0
  frames := 0
  sinceSwap := 0
  inForce := []
  utblShadow := []
  utblActive := []
  utblForce := []
  cfp := []
  dark := false
  drops := Vector.replicate 64 []
  dropLast := Vector.replicate 64 none
  ovr := 0
  skip := 0
  chains := Vector.replicate 2 ⟨false, [], false, false, false⟩

/-- The PAR block after reset (R438). -/
def ParState.init : ParState where
  strapB := false
  role := 0
  hitchOut := false
  hitchIn := false
  hitchAt := none
  slow := false
  hold := false
  yieldSent := false
  joined := false
  clear := false
  updLate := []
  splices := 0
  lastCode := 0
  lastLc := 0
  lanes := Vector.replicate 2 ⟨.disabled, false, false, false, 0xFFFF⟩
  tethUp := false
  skew := 0
  txSeq := 0
  rxSeq := 0
  unacked := []
  portLcs := []
  dlc := none
  peerDlc := none
  peerHold := false
  peerReady := false
  peerHalted := false
  peerState := 0
  peerRole := 0
  tMiss := true
  nMiss := true
  hbBoot := none
  hbSeq := 0
  hbTx := 0
  hbAt := none
  pendSplice := none
  spliceWait := []
  pendYield := none
  knotDone := none
  lastKnot := none
  pendStates := []
  copying := false
  copyPos := 0
  heldNzl := []
  cntResend := 0
  cntCrc := 0
  cntResync := 0
  cntTMiss := 0
  cntNMiss := 0

/-- A calibrated value at `v`, nothing measured (R439). -/
def CalVal.init (v : Int) : CalVal := ⟨v, v, false, none, 0⟩

/-- The CAL block after reset (R439, R451). -/
def CalState.init : CalState where
  sets := []
  fegs := Vector.replicate 68 ⟨CalVal.init 32, 0, List.range 16, 0, false, false, none⟩
  groups := Vector.replicate 4 ⟨0, 0, 0, 0, [], false⟩
  lanes := Vector.replicate 66 ⟨CalVal.init 16, CalVal.init 0, CalVal.init 0⟩
  cmps := Vector.replicate 10 ⟨CalVal.init 0, 0, false, false, false⟩
  temps := Vector.replicate 8 0
  tempValid := 0
  tempPrev := Vector.replicate 8 none
  cntRot := 0
  cntFail := 0

/-- The block right after reset: Cold, RESET_N taken, KEEP_RESET_N asserted, every register at the value its
table gives (R33, R162, R454). -/
def State.reset : State where
  pending := []
  now := 0
  free := 0
  outbox := []
  regs := []
  act := []
  sys := SysState.init
  err := ErrState.init
  cap := CapState.init
  dbg := DbgState.init
  cfg := CfgState.init
  keep := KeepState.init
  net := Vector.replicate 2 NetPortState.init
  netId := NetId.init
  ptp := PtpState.init
  mgt := MgtState.init
  tow := TowState.init
  plc := ⟨0, 0⟩
  cmp := CmpState.init
  str := StrState.init
  pos := PosState.init
  mil := MilState.init
  fir := FirState.init
  stg := ⟨[], []⟩
  nzl := NzlState.init
  gat := Vector.replicate 2 GateState.init
  gul := GulState.init
  insp := InspState.init
  mem := MemState.init
  axs := Vector.replicate 4 AxisState.init
  lmp := LampState.init
  par := ParState.init
  cal := CalState.init

end Sys2Proof.Machine
end

