-- ==== Sys2Proof/Machine/Operands.lean ====
section
/-! DEFINITION. Operand forms: which datagrams, frames and records spell which command (R68, R384, R397, R399, R424,
R462). A command whose bytes spell another row is refused as ill-formed (log 1). -/

namespace Sys2Proof.Machine

/-- The bytes of a Towline message with CHECK set to 0 (R67). -/
def towUnchecked (d : Bytes) : Bytes := d.take 12 ++ [0, 0, 0, 0] ++ d.drop 16

/-- The case of R68 in which a Towline message is discarded: 3 shorter than 16 bytes, 1 CHECK, 2 LENGTH, 4 a type that
only the device sends; 0 for none (log 11). -/
def towDropCase (d : Bytes) : Nat :=
  if d.length < 16 then 3
  else if (crc32c (towUnchecked d)).toNat ≠ beAt d 12 4 then 1
  else if beAt d 4 2 ≠ d.length then 2
  else if 0x81 ≤ byteAt d 3 ∧ byteAt d 3 ≤ 0x83 then 4
  else 0

/-- A Towline message of TYPE `ty` that is not discarded. -/
def towIs (ty : Nat) (d : Bytes) : Bool := towDropCase d == 0 && byteAt d 3 == ty

/-- A Towline message of a reserved TYPE (R68). -/
def towReserved (d : Bytes) : Bool := towDropCase d == 0 && (byteAt d 3 == 0 || decide (7 ≤ byteAt d 3))

/-- The frame carries a UDP datagram of the session's address family (R66, R395). -/
def rxUdp (rx : Arrival) (v6 : Bool) : Bool :=
  rx.frame.udp.isSome && decide (rx.frame.ether = if v6 then .ipv6 else .ipv4)

/-- The frame carries a PTP message over a transport (R385). -/
def rxPtp (rx : Arrival) (tr : PtpTransport) : Bool :=
  match tr with
  | .l2 => decide (rx.frame.ether = .ptp)
  | .ipv4 => rxUdp rx false
  | .ipv6 => rxUdp rx true

/-- The frame carries a neighbour message: ARP, or ICMPv6 (R379). -/
def rxNeigh (rx : Arrival) (v6 : Bool) : Bool := rx.frame.udp.isNone && decide (rx.frame.ether = if v6 then .ipv6 else .arp)

/-- The frame carries an ICMP message from a MAC address (R380). -/
def rxIcmp (rx : Arrival) (v6 : Bool) (mac : BitVec 48) : Bool :=
  rx.frame.udp.isNone && decide (rx.frame.ether = if v6 then .ipv6 else .ipv4) && decide (rx.frame.src = mac)

end Sys2Proof.Machine
end

