-- ==== Sys2Proof/Config.lean ====
section
/-! DEFINITION. What the spec leaves free: values with no body. Nothing in Lean can evaluate one. -/

namespace Sys2Proof

/-- The stepping code of SYS_ID [31:28] and IDCODE [31:28], per stepping (R495, R516; log 6). -/
opaque Config.stepping : BitVec 4

/-- The compressor's output: a fixed function of EFFORT, DEPTH, WIDTH, LINES and the raw bytes that the spec does not
give (R127; log 6). -/
opaque Config.compress : Nat → Nat → Nat → Nat → List (BitVec 8) → List (BitVec 8)

/-- CAUSE of the STATE record of a change that came over the tether, which carries no cause (R237, R425; log 6). -/
opaque Config.tetherCause : Nat → BitVec 4

/-- The acceleration, in 1/65 536 microstep/s², that R341 gives an axis which stands exactly on its TARGET at a speed above
one update's AMAX: the formula divides by 0 there (R341; log 28). Its argument is v in 1/65 536 microstep/s. -/
opaque Config.rampAtTarget : Int → Int

/-- The margin of a pace monitor while no port has an enabled segment, so that R19 gives its stage no allowed time (R19; log 122). Its
arguments are the monitor and the measured time. -/
opaque Config.paceIdle : Nat → Nat → BitVec 16

/-- PCP of a tagged frame that is none of PTP, heartbeat, RMP and Towline: R377 gives those four alone (R377; log 123). -/
opaque Config.otherPcp : BitVec 3

/-- Dot codes of the lines that a block ended by an early END leaves without output, by free count and nozzle (R122; log 129). -/
opaque Config.undecoded : Nat → Nat → BitVec 3

/-- The 8 bytes of an entry of the block directory, whose layout the spec does not give: reserved for a block of a layer (id, stripe,
block), recording it as present, or free again (R107; log 127). -/
opaque Config.dirEntry : Option (Nat × Nat × Nat × Bool) → BitVec 64

/-- The s64 in which R389 holds an offset that does not fit it: the spec states neither a wrap nor a limit (log 6). -/
opaque Config.wideOffset : Int → BitVec 64

/-- ROLE of the heartbeats sent before the first role is taken: R427 gives 1 to 3 and forbids 0 (log 6). -/
opaque Config.earlyRole : BitVec 2

/-- DLC and DIG of heartbeats sent before any line was struck on every port (R427; log 6). -/
opaque Config.noDlc : BitVec 40 × Word

/-- LC of a log entry made while the reference port of an open or past grid has struck no line: R481 names the line latest struck,
and all ones only when no grid has opened (R481; log 6). -/
opaque Config.noStrikeLc : BitVec 40

/-- DETAIL of a rejection that no one record causes: a record type that is missing, or a check at the end of pass 2 (R472; log 6). -/
opaque Config.noRecord : BitVec 16

/-- The data field of a Waypost result whose access read nothing (R497; log 6). -/
opaque Config.wpNoData : Nat → Word

/-- A word of a spare row that nothing ever writes, as a raw read delivers it (R300, R316; log 6). -/
opaque Config.rawWord : Nat → Word

/-- The check byte of a data word at ca[31:3]: R302 names a SECDED (72, 64) code over both and gives no matrix (R302; log 6). -/
opaque Config.checkByte : BitVec 64 → BitVec 29 → BitVec 8

/-- The syndrome of an uncorrectable word with these data, check and address bits wrong, in the code of R302 (log 6). -/
opaque Config.syndrome : BitVec 64 → BitVec 8 → BitVec 29 → BitVec 8

/-- SLINE and LC of a dump entry of a token or change that has none (R494; log 6). -/
opaque Config.noLine : BitVec 24 × BitVec 40

end Sys2Proof
end

