-- ==== Sys2Proof/Machine/Errors.lean ====
section
/-! DEFINITION. The block ids of R479 and the error codes of R480: block id in bits 15 to 10, code in bits
9 to 0. Where a name serves two blocks (POS_RANGE, NZL_RANGE, ISP_RANGE, GEO_RANGE) each block has its own. -/

namespace Sys2Proof.Machine.Err

/-- PACE_LOW of block SYS (R480). -/
def paceLow : Nat := 0 * 1024 + 2
/-- PACE_SHORT of block SYS (R480). -/
def paceShort : Nat := 0 * 1024 + 3
/-- KNOT_BUSY of block SYS (R480). -/
def knotBusy : Nat := 0 * 1024 + 4
/-- KNOT_STALE of block SYS (R480). -/
def knotStale : Nat := 0 * 1024 + 5
/-- KNOT_NONE of block SYS (R480). -/
def knotNone : Nat := 0 * 1024 + 6
/-- HELD_SKIP of block SYS (R480). -/
def heldSkip : Nat := 0 * 1024 + 7
/-- PACE_FEED of block SYS (R480). -/
def paceFeed : Nat := 0 * 1024 + 8
/-- BOOT_IMAGE of block CFG (R480). -/
def bootImage : Nat := 1 * 1024 + 2
/-- BOOT_NOIMAGE of block CFG (R480). -/
def bootNoimage : Nat := 1 * 1024 + 3
/-- BOOT_KNOT of block CFG (R480). -/
def bootKnot : Nat := 1 * 1024 + 4
/-- BOOT_LANEWAIT of block CFG (R480). -/
def bootLanewait : Nat := 1 * 1024 + 5
/-- BOOT_TIMEOUT of block CFG (R480). -/
def bootTimeout : Nat := 1 * 1024 + 6
/-- KEEP_RESET of block CFG (R480). -/
def keepReset : Nat := 1 * 1024 + 7
/-- CFG_RANGE of block CFG (R480). -/
def cfgRange : Nat := 1 * 1024 + 8
/-- NET_LINK of block NET (R480). -/
def netLink : Nat := 2 * 1024 + 2
/-- NET_DOWN of block NET (R480). -/
def netDown : Nat := 2 * 1024 + 3
/-- NET_RANGE of block NET (R480). -/
def netRange : Nat := 2 * 1024 + 4
/-- PTP_MASTER of block PTP (R480). -/
def ptpMaster : Nat := 3 * 1024 + 2
/-- PTP_STATE of block PTP (R480). -/
def ptpState : Nat := 3 * 1024 + 3
/-- PTP_STEP of block PTP (R480). -/
def ptpStep : Nat := 3 * 1024 + 4
/-- PTP_SWITCH of block PTP (R480). -/
def ptpSwitch : Nat := 3 * 1024 + 5
/-- PTP_HOLDOVER of block PTP (R480). -/
def ptpHoldover : Nat := 3 * 1024 + 6
/-- FIRE_PULL of block PTP (R480). -/
def firePull : Nat := 3 * 1024 + 7
/-- PTP_RANGE of block PTP (R480). -/
def ptpRange : Nat := 3 * 1024 + 8
/-- RMP_AUTH of block MGT (R480). -/
def rmpAuth : Nat := 4 * 1024 + 2
/-- LAYER_LATE of block TOW (R480). -/
def layerLate : Nat := 5 * 1024 + 2
/-- LAYER_OVERLAP of block TOW (R480). -/
def layerOverlap : Nat := 5 * 1024 + 3
/-- LAYER_CROWD of block TOW (R480). -/
def layerCrowd : Nat := 5 * 1024 + 4
/-- LAYER_LOST of block TOW (R480). -/
def layerLost : Nat := 5 * 1024 + 5
/-- PLC_RANGE of block PLC (R480). -/
def plcRange : Nat := 6 * 1024 + 2
/-- MEM_CE of block MEM (R480). -/
def memCe : Nat := 7 * 1024 + 2
/-- MEM_OFFLINE of block MEM (R480). -/
def memOffline : Nat := 7 * 1024 + 3
/-- MEM_CAPACITY of block MEM (R480). -/
def memCapacity : Nat := 7 * 1024 + 4
/-- MEM_VOFS of block MEM (R480). -/
def memVofs : Nat := 7 * 1024 + 5
/-- MEM_HOT of block MEM (R480). -/
def memHot : Nat := 7 * 1024 + 6
/-- MEM_UE of block MEM (R480). -/
def memUe : Nat := 7 * 1024 + 7
/-- MEM_CMDCHK of block MEM (R480). -/
def memCmdchk : Nat := 7 * 1024 + 8
/-- MEM_RANGE of block MEM (R480). -/
def memRange : Nat := 7 * 1024 + 9
/-- BNK_ALIGN of block BNK (R480). -/
def bnkAlign : Nat := 8 * 1024 + 2
/-- BNK_CE of block BNK (R480). -/
def bnkCe : Nat := 8 * 1024 + 3
/-- BNK_UE of block BNK (R480). -/
def bnkUe : Nat := 8 * 1024 + 4
/-- ARB_RANGE of block ARB (R480). -/
def arbRange : Nat := 9 * 1024 + 2
/-- UNDERRUN of block STR (R480). -/
def underrun : Nat := 10 * 1024 + 2
/-- SCHED_INVALID of block STR (R480). -/
def schedInvalid : Nat := 10 * 1024 + 3
/-- STR_RANGE of block STR (R480). -/
def strRange : Nat := 10 * 1024 + 4
/-- ENC_WIRE of block POS (R480). -/
def encWire : Nat := 12 * 1024 + 2
/-- ENC_LOST of block POS (R480). -/
def encLost : Nat := 12 * 1024 + 3
/-- QUAD_ERR of block POS (R480). -/
def quadErr : Nat := 12 * 1024 + 4
/-- ENC_RATE of block POS (R480). -/
def encRate : Nat := 12 * 1024 + 5
/-- POS_WRAP of block POS (R480). -/
def posWrap : Nat := 12 * 1024 + 6
/-- SSI_ERR of block POS (R480). -/
def ssiErr : Nat := 12 * 1024 + 7
/-- SSI_JUMP of block POS (R480). -/
def ssiJump : Nat := 12 * 1024 + 8
/-- IDX_SLIP of block POS (R480). -/
def idxSlip : Nat := 12 * 1024 + 9
/-- IDX_FAULT of block POS (R480). -/
def idxFault : Nat := 12 * 1024 + 10
/-- OBS_TRACK of block POS (R480). -/
def obsTrack : Nat := 12 * 1024 + 11
/-- POS_REVERSE of block POS (R480). -/
def posReverse : Nat := 12 * 1024 + 12
/-- PT_LAG of block POS (R480). -/
def ptLag : Nat := 12 * 1024 + 13
/-- POS_RANGE of block POS (R480). -/
def posRange : Nat := 12 * 1024 + 14
/-- MS_STALE of block MIL (R480). -/
def msStale : Nat := 13 * 1024 + 2
/-- MS_SKIP of block MIL (R480). -/
def msSkip : Nat := 13 * 1024 + 3
/-- MS_SRC of block MIL (R480). -/
def msSrc : Nat := 13 * 1024 + 4
/-- SYNC_OVR of block MIL (R480). -/
def syncOvr : Nat := 13 * 1024 + 5
/-- MIL_RANGE of block MIL (R480). -/
def milRange : Nat := 13 * 1024 + 6
/-- STRIKE_LATE of block FIR (R480). -/
def strikeLate : Nat := 14 * 1024 + 2
/-- FIRE_UNLOCK of block FIR (R480). -/
def fireUnlock : Nat := 14 * 1024 + 3
/-- LINE_LATE of block FIR (R480). -/
def lineLate : Nat := 14 * 1024 + 4
/-- OVS_PREDICT of block FIR (R480). -/
def ovsPredict : Nat := 14 * 1024 + 5
/-- OVS_SKIP of block FIR (R480). -/
def ovsSkip : Nat := 14 * 1024 + 6
/-- OVERSPEED of block FIR (R480). -/
def overspeed : Nat := 14 * 1024 + 7
/-- FIR_RANGE of block FIR (R480). -/
def firRange : Nat := 14 * 1024 + 8
/-- FIR_GEO_RANGE of block FIR (R480). -/
def firGeoRange : Nat := 14 * 1024 + 9
/-- GEO_INVALID of block FIR (R480). -/
def geoInvalid : Nat := 14 * 1024 + 10
/-- GEO_MIDLAYER of block FIR (R480). -/
def geoMidlayer : Nat := 14 * 1024 + 11
/-- NZL_DIRECT of block NZL (R480). -/
def nzlDirect : Nat := 16 * 1024 + 2
/-- UPD_LATE of block NZL (R480). -/
def updLate : Nat := 16 * 1024 + 3
/-- NZL_BUSY of block NZL (R480). -/
def nzlBusy : Nat := 16 * 1024 + 4
/-- NZL_RANGE of block NZL (R480). -/
def nzlRange : Nat := 16 * 1024 + 5
/-- NZL_DEAD of block NZL (R480). -/
def nzlDead : Nat := 16 * 1024 + 6
/-- DETOUR_INVALID of block NZL (R480). -/
def detourInvalid : Nat := 16 * 1024 + 7
/-- DETOUR_SHORT of block NZL (R480). -/
def detourShort : Nat := 16 * 1024 + 8
/-- DETOUR_FULL of block NZL (R480). -/
def detourFull : Nat := 16 * 1024 + 9
/-- SHUFFLE_MISMATCH of block NZL (R480). -/
def shuffleMismatch : Nat := 16 * 1024 + 10
/-- SHUFFLE_MOVED of block NZL (R480). -/
def shuffleMoved : Nat := 16 * 1024 + 11
/-- NZL_GEO_RANGE of block NZL (R480). -/
def nzlGeoRange : Nat := 16 * 1024 + 12
/-- GATE_GIVEUP of block GAT (R480). -/
def gateGiveup : Nat := 17 * 1024 + 2
/-- GATE_QFULL of block GAT (R480). -/
def gateQfull : Nat := 17 * 1024 + 3
/-- GATE_SETUP of block GAT (R480). -/
def gateSetup : Nat := 17 * 1024 + 4
/-- GATE_ABORT of block GAT (R480). -/
def gateAbort : Nat := 17 * 1024 + 5
/-- GAT_RANGE of block GAT (R480). -/
def gatRange : Nat := 17 * 1024 + 6
/-- ALIGN_MISSING of block GUL (R480). -/
def alignMissing : Nat := 18 * 1024 + 2
/-- CAP_MISMATCH of block GUL (R480). -/
def capMismatch : Nat := 18 * 1024 + 3
/-- PORT_ABSENT of block GUL (R480). -/
def portAbsent : Nat := 18 * 1024 + 4
/-- LINK_LOST of block GUL (R480). -/
def linkLost : Nat := 18 * 1024 + 5
/-- PORT_OPTIONAL of block GUL (R480). -/
def portOptional : Nat := 18 * 1024 + 6
/-- PORT_DOWN of block GUL (R480). -/
def portDown : Nat := 18 * 1024 + 7
/-- HEAD_EVENT of block GUL (R480). -/
def headEvent : Nat := 18 * 1024 + 8
/-- HEAD_DESYNC of block GUL (R480). -/
def headDesync : Nat := 18 * 1024 + 9
/-- HEAD_MISS of block GUL (R480). -/
def headMiss : Nat := 18 * 1024 + 10
/-- HEAD_DISC of block GUL (R480). -/
def headDisc : Nat := 18 * 1024 + 11
/-- GUL_RANGE of block GUL (R480). -/
def gulRange : Nat := 18 * 1024 + 12
/-- CAM_ECC of block CAM (R480). -/
def camEcc : Nat := 19 * 1024 + 2
/-- CAM_LINE of block CAM (R480). -/
def camLine : Nat := 19 * 1024 + 3
/-- CAM_SYNC of block CAM (R480). -/
def camSync : Nat := 19 * 1024 + 4
/-- FRAME_SHORT of block CAM (R480). -/
def frameShort : Nat := 19 * 1024 + 5
/-- FRAME_LONG of block CAM (R480). -/
def frameLong : Nat := 19 * 1024 + 6
/-- CAM_TRIGOVR of block CAM (R480). -/
def camTrigovr : Nat := 19 * 1024 + 7
/-- CAM_NOTRIG of block CAM (R480). -/
def camNotrig : Nat := 19 * 1024 + 8
/-- CAM_OVERFLOW of block CAM (R480). -/
def camOverflow : Nat := 19 * 1024 + 9
/-- CAM_RANGE of block CAM (R480). -/
def camRange : Nat := 19 * 1024 + 10
/-- ISP_TBL of block ISP (R480). -/
def ispTbl : Nat := 20 * 1024 + 2
/-- ISP_MAPINV of block ISP (R480). -/
def ispMapinv : Nat := 20 * 1024 + 3
/-- ISP_RANGE of block ISP (R480). -/
def ispRange : Nat := 20 * 1024 + 4
/-- REC_DROP of block INS (R480). -/
def recDrop : Nat := 21 * 1024 + 2
/-- STREAK_WIDE of block INS (R480). -/
def streakWide : Nat := 21 * 1024 + 3
/-- STREAK_LIMIT of block INS (R480). -/
def streakLimit : Nat := 21 * 1024 + 4
/-- INS_RANGE of block INS (R480). -/
def insRange : Nat := 21 * 1024 + 5
/-- ACCEL_HELD of block AXS (R480). -/
def accelHeld : Nat := 22 * 1024 + 2
/-- AX_GEAR_LAG of block AXS (R480). -/
def axGearLag : Nat := 22 * 1024 + 3
/-- AX_VERGE of block AXS (R480). -/
def axVerge : Nat := 22 * 1024 + 4
/-- AX_VERGE_SLAM of block AXS (R480). -/
def axVergeSlam : Nat := 22 * 1024 + 5
/-- AX_GEAR_STOP of block AXS (R480). -/
def axGearStop : Nat := 22 * 1024 + 6
/-- AX_HARDLIM of block AXS (R480). -/
def axHardlim : Nat := 22 * 1024 + 7
/-- AX_STALL of block AXS (R480). -/
def axStall : Nat := 22 * 1024 + 8
/-- AX_OVERCURRENT of block AXS (R480). -/
def axOvercurrent : Nat := 22 * 1024 + 9
/-- AXS_RANGE of block AXS (R480). -/
def axsRange : Nat := 22 * 1024 + 10
/-- SWAP_OVR of block LMP (R480). -/
def swapOvr : Nat := 23 * 1024 + 2
/-- LBUS_SKIP of block LMP (R480). -/
def lbusSkip : Nat := 23 * 1024 + 3
/-- LBUS_ECHO of block LMP (R480). -/
def lbusEcho : Nat := 23 * 1024 + 4
/-- LMP_RANGE of block LMP (R480). -/
def lmpRange : Nat := 23 * 1024 + 5
/-- HITCH_TAKEN of block PAR (R480). -/
def hitchTaken : Nat := 24 * 1024 + 2
/-- PAR_KNOT of block PAR (R480). -/
def parKnot : Nat := 24 * 1024 + 3
/-- PAR_KNOT_LATE of block PAR (R480). -/
def parKnotLate : Nat := 24 * 1024 + 4
/-- PAR_DIVERGE of block PAR (R480). -/
def parDiverge : Nat := 24 * 1024 + 5
/-- PAR_UPD_LATE of block PAR (R480). -/
def parUpdLate : Nat := 24 * 1024 + 6
/-- TETHER_RESYNC of block PAR (R480). -/
def tetherResync : Nat := 24 * 1024 + 7
/-- PATH_MISS of block PAR (R480). -/
def pathMiss : Nat := 24 * 1024 + 8
/-- SPLICE of block PAR (R480). -/
def splice : Nat := 24 * 1024 + 9
/-- SPLICE_UNREADY of block PAR (R480). -/
def spliceUnready : Nat := 24 * 1024 + 10
/-- SPLICE_REFUSED of block PAR (R480). -/
def spliceRefused : Nat := 24 * 1024 + 11
/-- SPLICE_LINES of block PAR (R480). -/
def spliceLines : Nat := 24 * 1024 + 12
/-- KEEP_FEED of block PAR (R480). -/
def keepFeed : Nat := 24 * 1024 + 13
/-- CORE_LOST of block PAR (R480). -/
def coreLost : Nat := 24 * 1024 + 14
/-- PAR_RANGE of block PAR (R480). -/
def parRange : Nat := 24 * 1024 + 15
/-- YIELDED of block PAR (R480). -/
def yielded : Nat := 24 * 1024 + 16
/-- CAL_LIMIT of block CAL (R480). -/
def calLimit : Nat := 25 * 1024 + 2
/-- CAL_SENSOR of block CAL (R480). -/
def calSensor : Nat := 25 * 1024 + 3
/-- CAL_FEG_FAIL of block CAL (R480). -/
def calFegFail : Nat := 25 * 1024 + 4
/-- CAL_NO_SPARE of block CAL (R480). -/
def calNoSpare : Nat := 25 * 1024 + 5
/-- CAL_CMP_FAIL of block CAL (R480). -/
def calCmpFail : Nat := 25 * 1024 + 6
/-- CAL_RANGE of block CAL (R480). -/
def calRange : Nat := 25 * 1024 + 7
/-- ERR_RANGE of block ERR (R480). -/
def errRange : Nat := 26 * 1024 + 2
/-- CAP_REFUSED of block CAP (R480). -/
def capRefused : Nat := 27 * 1024 + 2
/-- DBG_HALT of block DBG (R480). -/
def dbgHalt : Nat := 28 * 1024 + 2
/-- DBG_BKPT of block DBG (R480). -/
def dbgBkpt : Nat := 28 * 1024 + 3
/-- DBG_REFUSED of block DBG (R480). -/
def dbgRefused : Nat := 28 * 1024 + 4

/-- IDLE_WRITE of a block (R7, R480). -/
def idleWrite (block : Nat) : Nat := block * 1024 + 1

/-- A sender error answered with a NAK (R480). -/
def nak (reason : Nat) : Nat := 5 * 1024 + 0x100 + reason

/-- TOW_DROP (R480). -/
def towDrop : Nat := 5 * 1024 + 0x120

/-- A print-time decoder error (R480). -/
def decoder (code : Nat) : Nat := 10 * 1024 + 0x10 + code

end Sys2Proof.Machine.Err
end

