-- ==== Sys2Proof/Machine/RegMap.lean ====
section
/-! DEFINITION. The registers that store what is written to them: for each its reset value, the bits of each
access code (R7), the block's range code and the values in range, block by block from the register tables of
the chapters. Registers that only report or only act are in RegRead and RegWrite. -/

namespace Sys2Proof.Machine

/-- A stored register: reset value, the bits of each access code, the range code of its block, and the values
its chapter accepts. -/
structure RegDesc where
  reset : Word
  rw : Word
  rwl : Word
  rwk : Word
  rwi : Word
  err : Nat
  ok : Word → Bool

/-- Whether offset `o` is one of `n` offsets from `lo` at distance `step`. -/
def inRow (o lo n step : Nat) : Bool := decide (lo ≤ o) && decide ((o - lo) % step = 0) && decide ((o - lo) / step < n)

/-- A register of access code RW. -/
def RegDesc.mkRw (mask reset : Word) (err : Nat) (ok : Word → Bool) : RegDesc := ⟨reset, mask, 0, 0, 0, err, ok⟩

/-- A register of access code RWL. -/
def RegDesc.mkRwl (mask reset : Word) (err : Nat) (ok : Word → Bool) : RegDesc := ⟨reset, 0, mask, 0, 0, err, ok⟩

/-- A register of access code RWK. -/
def RegDesc.mkRwk (mask reset : Word) (err : Nat) (ok : Word → Bool) : RegDesc := ⟨reset, 0, 0, mask, 0, err, ok⟩

/-- A register of access code RWI. -/
def RegDesc.mkRwi (mask reset : Word) (err : Nat) (ok : Word → Bool) : RegDesc := ⟨reset, 0, 0, 0, mask, err, ok⟩

/-- Every value is in range. -/
def anyWord (_ : Word) : Bool := true

/-- The requesters of an arbiter instance (R318, R323); instance 11 takes its values from ISP. -/
def arbReqs (inst : Nat) : Nat :=
  if inst ≤ 3 then 6 else if inst = 6 then 4 else if inst = 7 || inst = 8 || inst = 9 then 3
  else if inst ≤ 10 then 2 else if inst = 11 then 8 else 0

/-- The reset word of ARB_n_REQm_CFG (R328, R331): burst less one in bits 15 to 8, base in bits 3 to 0. -/
def arbReset (inst m : Nat) : Nat :=
  if inst ≤ 3 then
    (if m = 0 then 0x070C else if m = 1 then 0x1F08 else if m = 2 || m = 3 then 0x0F06 else if m = 4 then 0x0702 else 0x0300)
  else if m = 0 then 0xFF0F
  else if inst = 6 then (if m = 1 then 0x000C else if m = 2 then 0x0304 else 0x0300)
  else if arbReqs inst = 3 && m = 1 then 0x0304
  else 0x0300

/-- The stored registers of the ARB block (R331). -/
def descArb (o : Nat) : Option RegDesc :=
  let inst := (o - 0x1000) / 0x100
  let m := (o % 0x100) / 0x10
  if 0x1000 ≤ o && o % 0x10 = 0 && inst ≤ 10 && m < arbReqs inst then
    some (RegDesc.mkRwk 0xFF0F (w32 (arbReset inst m)) Err.arbRange anyWord)
  else none

/-- The stored registers of the SYS block. -/
def descSys (o : Nat) : Option RegDesc :=
  -- SYS_SCRATCH (R516)
  if o = 0xC then some (RegDesc.mkRw 0xFFFFFFFF 0x0 0 anyWord)
  -- SYS_KNOT_RCLO (R516)
  else if o = 0x104 then some (RegDesc.mkRw 0xFFFFFFFF 0x0 0 anyWord)
  -- SYS_KNOT_RCHI (R516)
  else if o = 0x108 then some (RegDesc.mkRw 0xFFFF 0x0 0 anyWord)
  -- SYS_PACE_LIMIT (R20)
  else if o = 0x400 then some (RegDesc.mkRw 0xFFFF 0x180 0 anyWord)
  else none

/-- The stored registers of the CFG block. -/
def descCfg (o : Nat) : Option RegDesc :=
  -- CFG_LANEWAIT (R477)
  if o = 0x18 then some (RegDesc.mkRwi 0x7FF 0x190 Err.cfgRange (fun v => 100 ≤ bits v 10 0 && bits v 10 0 ≤ 1000))
  -- CFG_OTP_DATAn (R477)
  else if inRow o 0xA0 8 0x4 then some (RegDesc.mkRw 0xFFFFFFFF 0x0 0 anyWord)
  else none

/-- The stored registers of the NET block. -/
def descNet (o : Nat) : Option RegDesc :=
  -- NET_PORTn_CTL (R373, R404)
  if inRow o 0x100 2 0x80 then some (RegDesc.mkRwi 0xC0000003 0x3 Err.netRange (fun v => (!bit v 30 || bits v 1 0 = 3) && (!bit v 31 || bits v 1 0 = 1)))
  -- NET_PORTn_TSADJ (R404)
  else if inRow o 0x108 2 0x80 then some (RegDesc.mkRwl 0xFFFFFFFF 0x0 Err.netRange anyWord)
  else none

/-- The stored registers of the PTP block. -/
def descPtp (o : Nat) : Option RegDesc :=
  -- PTP_SEL (R405)
  if o = 0x0 then some (RegDesc.mkRw 0xFFFF0003 0x3E80002 Err.ptpRange anyWord)
  -- PTP_FIRE (R405)
  else if o = 0x30 then some (RegDesc.mkRw 0x1 0x0 Err.ptpRange anyWord)
  -- PTP_DOMn_CTL (R405)
  else if inRow o 0x100 2 0x80 then some (RegDesc.mkRwi 0xFCFFF000 0x3000 Err.ptpRange (fun v => bits v 29 28 ≠ 3 && 2 ≤ bits v 15 12 && bits v 15 12 ≤ 10))
  -- PTP_DOMn_SERVO (R405)
  else if inRow o 0x104 2 0x80 then some (RegDesc.mkRwl 0xFFFFFFFF 0x26330D40 Err.ptpRange (fun v => bits v 23 20 ≤ 8 && 1 ≤ bits v 19 0 && bits v 19 0 ≤ 500000))
  -- PTP_DOMn_STEP (R405)
  else if inRow o 0x108 2 0x80 then some (RegDesc.mkRwl 0x3FFFFFFF 0xF4240 Err.ptpRange (fun v => 1 ≤ bits v 29 0 && bits v 29 0 ≤ 1000000000))
  -- PTP_DOMn_LOCK (R405)
  else if inRow o 0x10C 2 0x80 then some (RegDesc.mkRwl 0xFFFF 0x64 Err.ptpRange (fun v => 1 ≤ bits v 15 0))
  -- PTP_DOMn_HOLDMAX (R405)
  else if inRow o 0x110 2 0x80 then some (RegDesc.mkRwl 0xFFFF 0x12C Err.ptpRange (fun v => 1 ≤ bits v 15 0))
  -- PTP_DOMn_INTV (R405)
  else if inRow o 0x114 2 0x80 then some (RegDesc.mkRwl 0xFFFF 0xFC Err.ptpRange (fun v => -7 ≤ sbits v 15 8 && sbits v 15 8 ≤ 4 && -7 ≤ sbits v 7 0 && sbits v 7 0 ≤ 4))
  -- PTP_DOMn_NOM (R405)
  else if inRow o 0x118 2 0x80 then some (RegDesc.mkRwi 0xFF 0x6 Err.ptpRange (fun v => 1 ≤ bits v 7 0))
  -- PTP_DOMn_NOMFR (R405)
  else if inRow o 0x11C 2 0x80 then some (RegDesc.mkRwi 0xFFFFFFFF 0x66666666 Err.ptpRange anyWord)
  else none

/-- The stored registers of the MGT block. -/
def descMgt (o : Nat) : Option RegDesc :=
  -- MGT_CTL (R406)
  if o = 0x0 then some (RegDesc.mkRwi 0xFFFF 0xB09B 0 anyWord)
  else none

/-- The stored registers of the TOW block. -/
def descTow (o : Nat) : Option RegDesc :=
  -- TOW_CTL (R111)
  if o = 0x0 then some (RegDesc.mkRwi 0xFFFF 0xB09A 0 anyWord)
  else none

/-- The stored registers of the PLC block. -/
def descPlc (o : Nat) : Option RegDesc :=
  -- PLC_SLOT_SIZE (R111)
  if o = 0x0 then some (RegDesc.mkRwi 0xFFFF 0x500 Err.plcRange (fun v => 1 ≤ bits v 15 0 && bits v 15 0 ≤ 32768))
  else none

/-- The stored registers of the MEM block. -/
def descMem (o : Nat) : Option RegDesc :=
  -- MEM_CTL (R299, R329)
  if o = 0x0 then some (RegDesc.mkRwi 0xF8000FF 0xB8000FF Err.memRange (fun v => bits v 25 24 = 0 || bit v 23))
  -- MEM_MINCAP (R329)
  else if o = 0x4 then some (RegDesc.mkRwi 0xFFFFFF 0x0 Err.memRange anyWord)
  -- MEM_SCRUB (R329)
  else if o = 0x10 then some (RegDesc.mkRw 0xFF 0x18 Err.memRange anyWord)
  -- MEM_CHn_CFG (R329)
  else if inRow o 0x100 8 0x20 then some (RegDesc.mkRwi 0x7 0x0 Err.memRange anyWord)
  else none

/-- The stored registers of the STR block. -/
def descStr (o : Nat) : Option RegDesc :=
  -- STR_CTL (R159)
  if o = 0x0 then some (RegDesc.mkRwk 0x1 0x0 Err.strRange anyWord)
  -- STR_PANIC (R159)
  else if o = 0x4 then some (RegDesc.mkRwk 0x3FFF 0x800 Err.strRange (fun v => 512 ≤ bits v 13 0 && bits v 13 0 ≤ 6144 && bits v 7 0 = 0))
  -- STR_VMAX (R159)
  else if o = 0x8 then some (RegDesc.mkRwk 0xFFFFFF 0xFFFFFF Err.strRange (fun v => 1 ≤ bits v 23 0))
  -- STR_ADV_CTL (R159)
  else if o = 0xC then some (RegDesc.mkRw 0x1FF03 0xA02 Err.strRange (fun v => 4 ≤ bits v 15 8 && bits v 1 0 ≠ 3))
  -- STR_SCHEDn (R159)
  else if inRow o 0x100 128 0x4 then some (RegDesc.mkRwk 0x3F3F3F3F 0x0 Err.strRange anyWord)
  else none

/-- The stored registers of the CMP block. -/
def descCmp (o : Nat) : Option RegDesc :=
  -- CMP_CTL (R132)
  if o = 0x0 then some (RegDesc.mkRwi 0x3 0x1 0 anyWord)
  else none

/-- The stored registers of the POS block. -/
def descPos (o : Nat) : Option RegDesc :=
  -- POS_CHn_CTL (R185)
  if inRow o 0x100 4 0x80 then some (RegDesc.mkRwi 0xE7000000 0x2000000 Err.posRange anyWord)
  -- POS_CHn_SSI (R185)
  else if inRow o 0x104 4 0x80 then some (RegDesc.mkRwi 0xFFFF0FFF 0x8000000A Err.posRange (fun v => 13 ≤ bits v 31 26 && bits v 31 26 ≤ 32 && 1 ≤ bits v 7 0))
  -- POS_CHn_IDX (R171, R185)
  else if inRow o 0x108 4 0x80 then some (RegDesc.mkRwl 0xCC00FFFF 0x2 Err.posRange (fun v => bits v 31 30 ≠ 3))
  -- POS_CHn_IDXPOS (R185)
  else if inRow o 0x10C 4 0x80 then some (RegDesc.mkRwl 0xFFFFFFFF 0x0 Err.posRange anyWord)
  -- POS_CHn_IDXPER (R185)
  else if inRow o 0x110 4 0x80 then some (RegDesc.mkRwl 0xFFFFFFFF 0x0 Err.posRange anyWord)
  -- POS_CHn_OBS (R174, R185)
  else if inRow o 0x114 4 0x80 then some (RegDesc.mkRwk 0xFF007FFF 0x40003E8 Err.posRange (fun v => 1 ≤ bits v 31 24 && 100 ≤ bits v 14 0 && bits v 14 0 ≤ 20000))
  -- POS_CHn_MOVE (R185)
  else if inRow o 0x118 4 0x80 then some (RegDesc.mkRwl 0xFFFFFF 0x10 Err.posRange anyWord)
  -- POS_CHn_PT (R178, R185)
  else if inRow o 0x11C 4 0x80 then some (RegDesc.mkRwi 0xF0FFFFFF 0x0 Err.posRange (fun v => bits v 31 30 ≠ 3))
  -- POS_CHn_PTRATIO (R185)
  else if inRow o 0x120 4 0x80 then some (RegDesc.mkRwi 0xFFFFFFFF 0x10000 Err.posRange anyWord)
  else none

/-- The stored registers of the MIL block. -/
def descMil (o : Nat) : Option RegDesc :=
  -- MIL_OUTm (R183, R187)
  if inRow o 0x10 4 0x4 then some (RegDesc.mkRwl 0xDF00FFFF 0x64 Err.milRange (fun v => 1 ≤ bits v 15 0))
  -- MIL_CAMm (R183, R187)
  else if inRow o 0x20 4 0x4 then some (RegDesc.mkRwl 0xDF00FFFF 0x64 Err.milRange (fun v => 1 ≤ bits v 15 0))
  -- MIL_SYNCn_CTL (R187)
  else if inRow o 0x40 2 0x10 then some (RegDesc.mkRwl 0xFFC00000 0x0 Err.milRange anyWord)
  -- MIL_SYNCn_OFS (R187)
  else if inRow o 0x44 2 0x10 then some (RegDesc.mkRwl 0xFFFFFFFF 0x0 Err.milRange anyWord)
  -- MIL_MSn_CTL (R179, R187)
  else if inRow o 0x100 32 0x20 then some (RegDesc.mkRwl 0x3E000000 0x0 Err.milRange (fun v => bits v 28 27 ≠ 3))
  -- MIL_MSn_PERIOD (R187)
  else if inRow o 0x10C 32 0x20 then some (RegDesc.mkRwl 0xFFFFFFFF 0x0 Err.milRange anyWord)
  else none

/-- The stored registers of the FIR block. -/
def descFir (o : Nat) : Option RegDesc :=
  -- FIR_CNT_CTL (R211)
  if o = 0x4 then some (RegDesc.mkRwk 0x1 0x0 Err.firRange anyWord)
  -- FIR_GEO_CTL (R63)
  else if o = 0x100 then some (RegDesc.mkRwk 0x80000003 0x0 Err.firGeoRange anyWord)
  -- FIR_CPL (R54)
  else if o = 0x104 then some (RegDesc.mkRwk 0xFFFFFFFF 0x10000 Err.firGeoRange (fun v => 0x10000 ≤ v.toNat))
  -- FIR_PORTn_MINP (R211)
  else if inRow o 0x1000 64 0x20 then some (RegDesc.mkRwk 0xFFFFF 0x7D0 Err.firRange (fun v => 2000 ≤ bits v 19 0 && bits v 19 0 ≤ 1000000))
  -- FIR_PORTn_STB (R211)
  else if inRow o 0x1004 64 0x20 then some (RegDesc.mkRwk 0x400003FF 0x40000014 Err.firRange (fun v => 5 ≤ bits v 9 0 && bits v 9 0 ≤ 500))
  -- FIR_SEG_OFFn (R63)
  else if inRow o 0x2000 512 0x4 then some (RegDesc.mkRwk 0xFFFFFFFF 0x0 Err.firGeoRange anyWord)
  else none

/-- The stored registers of the STG block. -/
def descStg (o : Nat) : Option RegDesc :=
  -- STG_RES_INDEX (R65)
  if o = 0x100 then some (RegDesc.mkRw 0x80007FFF 0x0 0 anyWord)
  else none

/-- The stored registers of the NZL block. -/
def descNzl (o : Nat) : Option RegDesc :=
  -- NZL_CONF (R238)
  if o = 0x0 then some (RegDesc.mkRwk 0xFFF80000 0x33280000 Err.nzlRange (fun v => 1 ≤ bits v 31 28 && 1 ≤ bits v 27 24))
  -- NZL_DREMAP (R238)
  else if o = 0x4 then some (RegDesc.mkRwk 0xFFFFFF 0xFAC688 Err.nzlRange anyWord)
  -- NZL_UPD_LEAD (R238)
  else if o = 0x8 then some (RegDesc.mkRwk 0x7FF 0x40 Err.nzlRange (fun v => 16 ≤ bits v 10 0 && bits v 10 0 ≤ 1024))
  -- NZL_SHUF_CTL (R238)
  else if o = 0x20 then some (RegDesc.mkRwk 0xE000FFFF 0x10 Err.nzlRange anyWord)
  -- NZL_SHUF_SCALE (R238)
  else if o = 0x24 then some (RegDesc.mkRwk 0xFFFFFFFF 0x10000 Err.nzlRange (fun v => v ≠ 0))
  -- NZL_SHUF_ORIGIN (R238)
  else if o = 0x28 then some (RegDesc.mkRwk 0xFFFFFFFF 0x0 Err.nzlRange anyWord)
  -- NZL_SHUF_EXPECT (R238)
  else if o = 0x2C then some (RegDesc.mkRwk 0xFFFF 0x0 Err.nzlRange anyWord)
  -- NZL_REQ_NOZ (R238)
  else if o = 0x40 then some (RegDesc.mkRw 0x3FFFF 0x0 Err.nzlRange anyWord)
  -- NZL_REQ_LO to MASKHI (R238)
  else if inRow o 0x44 4 0x4 then some (RegDesc.mkRw 0xFFFFFFFF 0x0 Err.nzlRange anyWord)
  -- NZL_COL_PITCH (R64)
  else if o = 0x100 then some (RegDesc.mkRwk 0xFFFFFFFF 0x142FA4B Err.nzlGeoRange (fun v => 1000000 ≤ v.toNat && v.toNat ≤ 1000000000))
  -- NZL_SEGn_MAP (R64)
  else if inRow o 0x1000 512 0x4 then some (RegDesc.mkRwk 0xC0FFFFFF 0x0 Err.nzlGeoRange anyWord)
  -- NZL_SEGn_COL (R46, R64)
  else if inRow o 0x1800 512 0x4 then some (RegDesc.mkRwk 0xFFFFFFFF 0x1000000 Err.nzlGeoRange (fun v => 1 ≤ bits v 31 24))
  else none

/-- The stored registers of the GAT block. -/
def descGat (o : Nat) : Option RegDesc :=
  -- GAT_n_CTL (R239)
  if inRow o 0x100 2 0x40 then some (RegDesc.mkRwi 0xC00000FF 0x40000004 Err.gatRange anyWord)
  -- GAT_n_PORTS_LO (R239)
  else if inRow o 0x104 2 0x40 then some (RegDesc.mkRwi 0xFFFFFFFF 0x0 Err.gatRange anyWord)
  -- GAT_n_PORTS_HI (R239)
  else if inRow o 0x108 2 0x40 then some (RegDesc.mkRwi 0xFFFFFFFF 0x0 Err.gatRange anyWord)
  -- GAT_n_TEST (R239)
  else if inRow o 0x10C 2 0x40 then some (RegDesc.mkRwi 0xFE00FFFF 0x34000064 Err.gatRange (fun v => 1 ≤ bits v 31 28 && bits v 31 28 ≤ 8 && 1 ≤ bits v 27 25))
  -- GAT_n_WIN (R239)
  else if inRow o 0x110 2 0x40 then some (RegDesc.mkRwi 0xFFFFFFFF 0x3E8044C Err.gatRange anyWord)
  -- GAT_n_SLOT (R239)
  else if inRow o 0x114 2 0x40 then some (RegDesc.mkRwi 0xFFFF 0x32 Err.gatRange (fun v => 50 ≤ bits v 15 0 && bits v 15 0 ≤ 10000))
  -- GAT_n_NOM (R239)
  else if inRow o 0x118 2 0x40 then some (RegDesc.mkRwi 0xFFFFFFFF 0x41A001E Err.gatRange anyWord)
  -- GAT_n_SWEEP (R239)
  else if inRow o 0x11C 2 0x40 then some (RegDesc.mkRwi 0xFFF80000 0x0 Err.gatRange anyWord)
  -- GAT_n_RFIRST (R239)
  else if inRow o 0x120 2 0x40 then some (RegDesc.mkRwi 0x3FFFF 0x0 Err.gatRange anyWord)
  -- GAT_n_RLAST (R239)
  else if inRow o 0x124 2 0x40 then some (RegDesc.mkRwi 0x3FFFF 0x0 Err.gatRange anyWord)
  else none

/-- The stored registers of the GUL block. -/
def descGul (o : Nat) : Option RegDesc :=
  -- GUL_STATUS_INT (R276)
  if o = 0x0 then some (RegDesc.mkRwi 0x1FF 0x64 Err.gulRange (fun v => 10 ≤ bits v 8 0 && bits v 8 0 ≤ 500))
  -- GUL_HCFG_ADDR (R276)
  else if o = 0x10 then some (RegDesc.mkRw 0x3F803FFF 0x0 Err.gulRange anyWord)
  -- GUL_HCFG_DATA (R276)
  else if o = 0x14 then some (RegDesc.mkRw 0xFFFFFFFF 0x0 Err.gulRange anyWord)
  -- GUL_EYE_CTL (R276)
  else if o = 0x40 then some (RegDesc.mkRw 0x3F7F3F1F 0x14 Err.gulRange (fun v => 10 ≤ bits v 4 0 && bits v 22 16 ≠ 64))
  -- GUL_PORTn_CTL (R276)
  else if inRow o 0x1000 64 0x40 then some (RegDesc.mkRwi 0xE0000003 0x3 Err.gulRange anyWord)
  else none

/-- The stored registers of the CAM block. -/
def descCam (o : Nat) : Option RegDesc :=
  -- CAM_PORTn_CTL (R298)
  if inRow o 0x100 4 0x40 then some (RegDesc.mkRwi 0xE0000FFF 0x400009C4 Err.camRange (fun v => bits v 30 29 ≠ 3 && 80 ≤ bits v 11 0 && bits v 11 0 ≤ 2500))
  else none

/-- The stored registers of the ISP block. -/
def descIsp (o : Nat) : Option RegDesc :=
  -- ISP_CTXn_CTL (R298)
  if inRow o 0x1000 8 0x40 then some (RegDesc.mkRwk 0xFFF80000 0x180000 Err.ispRange (fun v => bits v 30 29 ≤ 1 && bits v 27 24 ≤ 3))
  -- ISP_CTXn_SIZE (R298)
  else if inRow o 0x1004 8 0x40 then some (RegDesc.mkRwk 0xFFFF3FFF 0x4001000 Err.ispRange (fun v => 2 ≤ bits v 31 16 && !bit v 16 && 16 ≤ bits v 13 0 && bits v 13 0 ≤ 8192 && bits v 1 0 = 0))
  -- ISP_CTXn_ROI_X (R298)
  else if inRow o 0x1008 8 0x40 then some (RegDesc.mkRwk 0x3FFF3FFF 0x1FFF Err.ispRange (fun v => bits v 29 16 ≤ bits v 13 0))
  -- ISP_CTXn_ROI_Y (R298)
  else if inRow o 0x100C 8 0x40 then some (RegDesc.mkRwk 0xFFFFFFFF 0xFFFF Err.ispRange (fun v => bits v 31 16 ≤ bits v 15 0))
  -- ISP_CTXn_BLK_RG (R298)
  else if inRow o 0x1010 8 0x40 then some (RegDesc.mkRwk 0xFFF0FFF 0x0 Err.ispRange anyWord)
  -- ISP_CTXn_BLK_B (R298)
  else if inRow o 0x1014 8 0x40 then some (RegDesc.mkRwk 0xFFF 0x0 Err.ispRange anyWord)
  -- ISP_CTXn_CM0 (R298)
  else if inRow o 0x1018 8 0x40 then some (RegDesc.mkRwk 0xFFFFFFFF 0x1000 Err.ispRange anyWord)
  -- ISP_CTXn_CM1 (R298)
  else if inRow o 0x101C 8 0x40 then some (RegDesc.mkRwk 0xFFFFFFFF 0x0 Err.ispRange anyWord)
  -- ISP_CTXn_CM2 (R298)
  else if inRow o 0x1020 8 0x40 then some (RegDesc.mkRwk 0xFFFFFFFF 0x1000 Err.ispRange anyWord)
  -- ISP_CTXn_CM3 (R298)
  else if inRow o 0x1024 8 0x40 then some (RegDesc.mkRwk 0xFFFFFFFF 0x0 Err.ispRange anyWord)
  -- ISP_CTXn_CM4 (R298)
  else if inRow o 0x1028 8 0x40 then some (RegDesc.mkRwk 0xFFFF 0x1000 Err.ispRange anyWord)
  -- ISP_CTXn_WB_RG (R298)
  else if inRow o 0x102C 8 0x40 then some (RegDesc.mkRwk 0xFFFFFFFF 0x10001000 Err.ispRange anyWord)
  -- ISP_CTXn_WB_B (R298)
  else if inRow o 0x1030 8 0x40 then some (RegDesc.mkRwk 0xFFFF 0x1000 Err.ispRange anyWord)
  -- ISP_CTXn_TRIG (R298)
  else if inRow o 0x1034 8 0x40 then some (RegDesc.mkRwk 0x9F000000 0x0 Err.ispRange anyWord)
  -- ISP_CTXn_ARB (R298)
  else if inRow o 0x1038 8 0x40 then some (RegDesc.mkRwk 0xFF0F 0xF08 Err.ispRange anyWord)
  else none

/-- The stored registers of the INS block. -/
def descIns (o : Nat) : Option RegDesc :=
  -- INS_CTXn_STREAK (R298)
  if inRow o 0x1000 8 0x40 then some (RegDesc.mkRwk 0xFFFF0FFF 0x3400096 Err.insRange (fun v => 1 ≤ bits v 31 24 && 1 ≤ bits v 23 20 && 1 ≤ bits v 11 0))
  -- INS_CTXn_SLIM (R298)
  else if inRow o 0x1004 8 0x40 then some (RegDesc.mkRwk 0xFFF00FF 0xC80010 Err.insRange (fun v => 1 ≤ bits v 7 0))
  -- INS_CTXn_RDELAY (R298)
  else if inRow o 0x1008 8 0x40 then some (RegDesc.mkRwk 0xFFFF 0x400 Err.insRange anyWord)
  else none

/-- The stored registers of the AXS block. -/
def descAxs (o : Nat) : Option RegDesc :=
  -- AXS_TBL_INDEX (R354)
  if o = 0x0 then some (RegDesc.mkRw 0x800033FF 0x0 Err.axsRange anyWord)
  -- AXS_AXn_CTL (R354)
  else if inRow o 0x100 4 0x80 then some (RegDesc.mkRwi 0xFCFFFF00 0x20142800 Err.axsRange (fun v => 2 ≤ bits v 23 16 && 4 ≤ bits v 15 8))
  -- AXS_AXn_CUR (R354)
  else if inRow o 0x104 4 0x80 then some (RegDesc.mkRwl 0xF3FFFFFF 0x50002800 Err.axsRange (fun v => 1 ≤ bits v 31 28))
  -- AXS_AXn_CHOP (R354)
  else if inRow o 0x108 4 0x80 then some (RegDesc.mkRwl 0xFFFF00 0x103200 Err.axsRange (fun v => 2 ≤ bits v 23 16 && 1 ≤ bits v 15 8))
  -- AXS_AXn_PROBE (R354)
  else if inRow o 0x10C 4 0x80 then some (RegDesc.mkRwl 0xFFFF 0x1020 Err.axsRange (fun v => 1 ≤ bits v 15 8))
  -- AXS_AXn_VMAX (R354)
  else if inRow o 0x110 4 0x80 then some (RegDesc.mkRwk 0xFFFFF 0x30D40 Err.axsRange (fun v => 1 ≤ bits v 19 0 && bits v 19 0 ≤ 1000000))
  -- AXS_AXn_AMAX (R354)
  else if inRow o 0x114 4 0x80 then some (RegDesc.mkRwk 0xFFFFFF 0x3D0900 Err.axsRange (fun v => 1 ≤ bits v 23 0))
  -- AXS_AXn_DMAX (R354)
  else if inRow o 0x118 4 0x80 then some (RegDesc.mkRwk 0xFFFFFF 0x3D0900 Err.axsRange (fun v => 1 ≤ bits v 23 0))
  -- AXS_AXn_EDEC (R354)
  else if inRow o 0x11C 4 0x80 then some (RegDesc.mkRwk 0xFFFFFF 0x7A1200 Err.axsRange (fun v => 1 ≤ bits v 23 0))
  -- AXS_AXn_JMAX (R354)
  else if inRow o 0x120 4 0x80 then some (RegDesc.mkRwk 0xFFFFFFFF 0x0 Err.axsRange anyWord)
  -- AXS_AXn_TARGET (R354)
  else if inRow o 0x124 4 0x80 then some (RegDesc.mkRwl 0xFFFFFFFF 0x0 Err.axsRange anyWord)
  -- AXS_AXn_VTARGET (R354)
  else if inRow o 0x128 4 0x80 then some (RegDesc.mkRwl 0xFFFFFFFF 0x0 Err.axsRange anyWord)
  -- AXS_AXn_MODE (R340, R354)
  else if inRow o 0x12C 4 0x80 then some (RegDesc.mkRwl 0x33 0x0 Err.axsRange (fun v => bits v 1 0 ≠ 3))
  -- AXS_AXn_VERGELO (R354)
  else if inRow o 0x130 4 0x80 then some (RegDesc.mkRwk 0xFFFFFFFF 0x80000000 Err.axsRange anyWord)
  -- AXS_AXn_VERGEHI (R354)
  else if inRow o 0x134 4 0x80 then some (RegDesc.mkRwk 0xFFFFFFFF 0x7FFFFFFF Err.axsRange anyWord)
  -- AXS_AXn_RATIO (R354)
  else if inRow o 0x138 4 0x80 then some (RegDesc.mkRwk 0xFFFFFFFF 0x10000 Err.axsRange anyWord)
  -- AXS_AXn_GNEXT (R354)
  else if inRow o 0x13C 4 0x80 then some (RegDesc.mkRwl 0xFFFFFFFF 0x10000 Err.axsRange anyWord)
  -- AXS_AXn_GATLO (R354)
  else if inRow o 0x140 4 0x80 then some (RegDesc.mkRwl 0xFFFFFFFF 0x0 Err.axsRange anyWord)
  -- AXS_AXn_GATHI (R354)
  else if inRow o 0x144 4 0x80 then some (RegDesc.mkRwl 0xFFFF 0x0 Err.axsRange anyWord)
  -- AXS_AXn_GLAG (R354)
  else if inRow o 0x148 4 0x80 then some (RegDesc.mkRwl 0xFFFFFF 0x400 Err.axsRange anyWord)
  -- AXS_AXn_STALL (R354)
  else if inRow o 0x14C 4 0x80 then some (RegDesc.mkRwl 0xFFFFFFF0 0x1E40 Err.axsRange (fun v => 1 ≤ bits v 15 8 && bits v 15 8 ≤ 99 && 1 ≤ bits v 7 4))
  -- AXS_AXn_SVMIN (R354)
  else if inRow o 0x150 4 0x80 then some (RegDesc.mkRwl 0xFFFFF 0x2710 Err.axsRange anyWord)
  -- AXS_AXn_SETPOS (R351, R354)
  else if inRow o 0x154 4 0x80 then some (RegDesc.mkRwi 0xFFFFFFFF 0x0 Err.axsRange anyWord)
  else none

/-- The stored registers of the LMP block. -/
def descLmp (o : Nat) : Option RegDesc :=
  -- LMP_CTL (R372)
  if o = 0x0 then some (RegDesc.mkRwk 0xFF8FFFFF 0x200C8 Err.lmpRange (fun v => bits v 29 28 ≠ 3 && bits v 19 16 ≤ 8))
  -- LMP_SYNCPER (R372)
  else if o = 0x4 then some (RegDesc.mkRwk 0xFFFF 0x1 Err.lmpRange (fun v => 1 ≤ bits v 15 0))
  -- LMP_ZONE_INDEX (R372)
  else if o = 0x10 then some (RegDesc.mkRw 0x800003FF 0x0 Err.lmpRange anyWord)
  -- LMP_COLCURVEm (R372)
  else if inRow o 0x20 4 0x4 then some (RegDesc.mkRwk 0xFFFFFFFF 0x0 Err.lmpRange anyWord)
  -- LMP_CURVEk_CTL (R362, R372)
  else if inRow o 0x40 4 0x10 then some (RegDesc.mkRwk 0xC000FFFF 0x0 Err.lmpRange (fun v => (bits v 31 30 ≠ 1 || (256 ≤ bits v 15 0 && bits v 15 0 ≤ 4096)) && (bits v 31 30 ≠ 2 || (64 ≤ bits v 15 0 && bits v 15 0 ≤ 1024))))
  -- LMP_CFP_ROWS (R372)
  else if o = 0x80 then some (RegDesc.mkRwk 0xFFFF 0x0 Err.lmpRange anyWord)
  -- LMP_CFP_WIN (R365, R372)
  else if o = 0x84 then some (RegDesc.mkRwk 0x3FF03FF 0x3F Err.lmpRange (fun v => bits v 25 16 + bits v 9 0 + 1 ≤ 1024))
  -- LMP_CFP_GAIN (R372)
  else if o = 0x88 then some (RegDesc.mkRwk 0xFFFFFFFF 0x1000 Err.lmpRange anyWord)
  -- LMP_CFP_PER (R372)
  else if o = 0x8C then some (RegDesc.mkRwk 0xFF 0x8 Err.lmpRange (fun v => 1 ≤ bits v 7 0))
  -- LMP_UTBL_INDEX (R372)
  else if o = 0x100 then some (RegDesc.mkRw 0x800007FF 0x0 Err.lmpRange (fun v => bits v 8 0 ≤ 256))
  -- LMP_LBn_CTL (R366, R372)
  else if inRow o 0x200 2 0x20 then some (RegDesc.mkRwk 0xB01F00FF 0x1F0003 Err.lmpRange (fun v => 3 ≤ bits v 7 0 && bits v 7 0 ≤ 99))
  -- LMP_LBn_CFGA (R372)
  else if inRow o 0x208 2 0x20 then some (RegDesc.mkRw 0x3F00FF 0x0 Err.lmpRange anyWord)
  -- LMP_LBn_CFGD (R372)
  else if inRow o 0x20C 2 0x20 then some (RegDesc.mkRw 0xFFFF 0x0 Err.lmpRange anyWord)
  else none

/-- The stored registers of the PAR block. -/
def descPar (o : Nat) : Option RegDesc :=
  -- PAR_CTL (R438)
  if o = 0x0 then some (RegDesc.mkRwi 0x87000000 0x0 Err.parRange anyWord)
  -- PAR_HALT_TAKEOVER (R438)
  else if o = 0x4 then some (RegDesc.mkRwl 0x1 0x0 Err.parRange anyWord)
  -- PAR_KNOT_LEAD (R438)
  else if o = 0x8 then some (RegDesc.mkRwi 0x7FF 0x10 Err.parRange (fun v => 16 ≤ bits v 10 0 && bits v 10 0 ≤ 1024))
  -- PAR_HB_PORT (R438)
  else if o = 0xC then some (RegDesc.mkRwi 0xFFFF 0xB09C Err.parRange anyWord)
  else none

/-- The stored registers of the CAL block. -/
def descCal (o : Nat) : Option RegDesc :=
  -- CAL_CTL (R451)
  if o = 0x0 then some (RegDesc.mkRwi 0x8000FFFF 0x800003E8 Err.calRange (fun v => 100 ≤ bits v 15 0 && bits v 15 0 ≤ 60000))
  else none

/-- The stored registers of the ERR block. -/
def descErr (o : Nat) : Option RegDesc :=
  -- ERR_ATTN (R504)
  if o = 0xC then some (RegDesc.mkRw 0x7 0xE Err.errRange anyWord)
  else none

/-- The stored registers of the DBG block. -/
def descDbg (o : Nat) : Option RegDesc :=
  -- DBG_HALT_MASK (R507)
  if o = 0x4 then some (RegDesc.mkRw 0xFF 0xFF Err.dbgRefused anyWord)
  -- DBG_BPn_CTL (R502, R507)
  else if inRow o 0x100 16 0x20 then some (RegDesc.mkRw 0xFFC00000 0x0 Err.dbgRefused (fun v => bits v 30 29 ≠ 3))
  -- DBG_BPn_LAYER (R507)
  else if inRow o 0x104 16 0x20 then some (RegDesc.mkRw 0xFFFFFFFF 0x0 Err.dbgRefused anyWord)
  -- DBG_BPn_ID (R507)
  else if inRow o 0x108 16 0x20 then some (RegDesc.mkRw 0x1FF01FF 0x0 Err.dbgRefused anyWord)
  -- DBG_BPn_LCLO (R507)
  else if inRow o 0x10C 16 0x20 then some (RegDesc.mkRw 0xFFFFFFFF 0x0 Err.dbgRefused anyWord)
  -- DBG_BPn_LCHI (R507)
  else if inRow o 0x110 16 0x20 then some (RegDesc.mkRw 0xFF 0x0 Err.dbgRefused anyWord)
  else none

/-- The stored register at byte address `a` (R508). -/
def regDesc (a : Nat) : Option RegDesc :=
  let o := a % 0x10000
  match a / 0x10000 with
  | 0 => descSys o
  | 1 => descCfg o
  | 2 => descNet o
  | 3 => descPtp o
  | 4 => descMgt o
  | 5 => descTow o
  | 6 => descPlc o
  | 7 => descMem o
  | 9 => descArb o
  | 10 => descStr o
  | 11 => descCmp o
  | 12 => descPos o
  | 13 => descMil o
  | 14 => descFir o
  | 15 => descStg o
  | 16 => descNzl o
  | 17 => descGat o
  | 18 => descGul o
  | 19 => descCam o
  | 20 => descIsp o
  | 21 => descIns o
  | 22 => descAxs o
  | 23 => descLmp o
  | 24 => descPar o
  | 25 => descCal o
  | 26 => descErr o
  | 28 => descDbg o
  | _ => none

end Sys2Proof.Machine
end

