-- ==== Sys2Proof/Machine/Ops.lean ====
section
/-! DEFINITION. The named operations over the state: one updater per part, register storage (R7, R511), errors
detected (R483, R484), time (R381, R392), and the reference port (R27). -/

namespace Sys2Proof.Machine

/-- Update the error logger. -/
def mErr (f : ErrState → ErrState) (s : State) : State := { s with err := f s.err }
/-- Update the SYS block. -/
def mSys (f : SysState → SysState) (s : State) : State := { s with sys := f s.sys }
/-- Update the Waypost port. -/
def mDbg (f : DbgState → DbgState) (s : State) : State := { s with dbg := f s.dbg }
/-- Update the CFG block. -/
def mCfg (f : CfgState → CfgState) (s : State) : State := { s with cfg := f s.cfg }
/-- Update the KEEP island. -/
def mKeep (f : KeepState → KeepState) (s : State) : State := { s with keep := f s.keep }
/-- Update network port `i`. -/
def mNet (i : Nat) (f : NetPortState → NetPortState) (s : State) : State := { s with net := vmod s.net i f }
/-- Update the PTP block. -/
def mPtp (f : PtpState → PtpState) (s : State) : State := { s with ptp := f s.ptp }
/-- Update PTP domain `d`. -/
def mDom (d : Nat) (f : PtpDom → PtpDom) (s : State) : State := mPtp (fun p => { p with doms := vmod p.doms d f }) s
/-- Update the MGT block. -/
def mMgt (f : MgtState → MgtState) (s : State) : State := { s with mgt := f s.mgt }
/-- Update ingress. -/
def mTow (f : TowState → TowState) (s : State) : State := { s with tow := f s.tow }
/-- Update the CMP block. -/
def mCmp (f : CmpState → CmpState) (s : State) : State := { s with cmp := f s.cmp }
/-- Update the STR block. -/
def mStr (f : StrState → StrState) (s : State) : State := { s with str := f s.str }
/-- Update strand `n`. -/
def mStrand (n : Nat) (f : Strand → Strand) (s : State) : State := mStr (fun t => { t with strands := vmod t.strands n f }) s
/-- Update the POS block. -/
def mPos (f : PosState → PosState) (s : State) : State := { s with pos := f s.pos }
/-- Update encoder channel `c`. -/
def mEnc (c : Nat) (f : EncChan → EncChan) (s : State) : State := mPos (fun t => { t with ch := vmod t.ch c f }) s
/-- Update the MIL block. -/
def mMil (f : MilState → MilState) (s : State) : State := { s with mil := f s.mil }
/-- Update milestone `i`. -/
def mMs (i : Nat) (f : Milestone → Milestone) (s : State) : State := mMil (fun t => { t with ms := vmod t.ms i f }) s
/-- Update the FIR block. -/
def mFir (f : FirState → FirState) (s : State) : State := { s with fir := f s.fir }
/-- Update FIR port `p`. -/
def mPort (p : Nat) (f : FirPort → FirPort) (s : State) : State := mFir (fun t => { t with ports := vmod t.ports p f }) s
/-- Update the stagger stage. -/
def mStg (f : StgState → StgState) (s : State) : State := { s with stg := f s.stg }
/-- Update the NZL block. -/
def mNzl (f : NzlState → NzlState) (s : State) : State := { s with nzl := f s.nzl }
/-- Update drop gate `g`. -/
def mGat (g : Nat) (f : GateState → GateState) (s : State) : State := { s with gat := vmod s.gat g f }
/-- Update the GUL block. -/
def mGul (f : GulState → GulState) (s : State) : State := { s with gul := f s.gul }
/-- Update head port `p`. -/
def mHead (p : Nat) (f : GulPort → GulPort) (s : State) : State := mGul (fun t => { t with ports := vmod t.ports p f }) s
/-- Update camera context `c`. -/
def mCtx (c : Nat) (f : CamCtx → CamCtx) (s : State) : State :=
  { s with insp := { s.insp with ctxs := vmod s.insp.ctxs c f } }
/-- Update camera port `p`. -/
def mCam (p : Nat) (f : CamPort → CamPort) (s : State) : State :=
  { s with insp := { s.insp with ports := vmod s.insp.ports p f } }
/-- Update memory. -/
def mMem (f : MemState → MemState) (s : State) : State := { s with mem := f s.mem }
/-- Update DRAM channel `c`. -/
def mChan (c : Nat) (f : MemChan → MemChan) (s : State) : State := mMem (fun t => { t with chans := vmod t.chans c f }) s
/-- Update bank `b`. -/
def mBank (b : Nat) (f : BankSt → BankSt) (s : State) : State := mMem (fun t => { t with banks := vmod t.banks b f }) s
/-- Update arbiter instance `i`. -/
def mArb (i : Nat) (f : Arb → Arb) (s : State) : State := mMem (fun t => { t with arbs := vmod t.arbs i f }) s
/-- Update axis `a`. -/
def mAxs (a : Nat) (f : AxisState → AxisState) (s : State) : State := { s with axs := vmod s.axs a f }
/-- Update the LMP block. -/
def mLmp (f : LampState → LampState) (s : State) : State := { s with lmp := f s.lmp }
/-- Update the PAR block. -/
def mPar (f : ParState → ParState) (s : State) : State := { s with par := f s.par }
/-- Update the CAL block. -/
def mCal (f : CalState → CalState) (s : State) : State := { s with cal := f s.cal }
/-- Update the capture engine. -/
def mCap (f : CapState → CapState) (s : State) : State := { s with cap := f s.cap }

/-- FIR port `p`. -/
def firPort (s : State) (p : Nat) : FirPort := vget s.fir.ports p FirPort.init
/-- Head port `p`. -/
def headPort (s : State) (p : Nat) : GulPort := vget s.gul.ports p GulPort.init
/-- Strand `n`. -/
def strand (s : State) (n : Nat) : Strand := vget s.str.strands n Strand.init
/-- Encoder channel `c`. -/
def enc (s : State) (c : Nat) : EncChan := vget s.pos.ch c EncChan.init
/-- Milestone `i`. -/
def milestone (s : State) (i : Nat) : Milestone := vget s.mil.ms i Milestone.init
/-- Drop gate `g`. -/
def gate (s : State) (g : Nat) : GateState := vget s.gat g GateState.init
/-- PTP domain `d`. -/
def dom (s : State) (d : Nat) : PtpDom := vget s.ptp.doms d PtpDom.init
/-- Network port `i`. -/
def netPort (s : State) (i : Nat) : NetPortState := vget s.net i NetPortState.init
/-- DRAM channel `c`. -/
def chan (s : State) (c : Nat) : MemChan := vget s.mem.chans c MemChan.init
/-- An empty bank. -/
def bankInit : BankSt := ⟨[], Vector.replicate 4 0, 0, 0, none⟩
/-- Bank `b`. -/
def bank (s : State) (b : Nat) : BankSt := vget s.mem.banks b bankInit
/-- An idle arbiter. -/
def arbInit : Arb := ⟨none, 0, 0, 0, Vector.replicate 8 ⟨0, false, 0, 0, 0⟩⟩
/-- Arbiter instance `i`. -/
def arb (s : State) (i : Nat) : Arb := vget s.mem.arbs i arbInit
/-- A requester of a channel-pair arbiter whose last unit is withdrawn stops waiting: age 0 and not Urgent (R325). -/
def arbDropped (s : State) : State :=
  each (fun i s => each (fun m s =>
    if s.mem.pend.any (fun u => u.ch / 2 == i && u.req == m) then s
    else mArb i (fun a => { a with reqs := vmod a.reqs m (fun r => { r with age := 0, urgent := false }) }) s) (List.range 8) s) (List.range 4) s

/-- Axis `a`. -/
def axis (s : State) (a : Nat) : AxisState := vget s.axs a AxisState.init
/-- Camera context `c`. -/
def camCtx (s : State) (c : Nat) : CamCtx := vget s.insp.ctxs c CamCtx.init
/-- Camera port `p`. -/
def camPort (s : State) (p : Nat) : CamPort := vget s.insp.ports p CamPort.init

/-- Append an output (log 3). -/
def emit (o : Output) (s : State) : State := { s with outbox := s.outbox ++ [o] }

/-- Do `f` when `b` holds. -/
def doIf (b : Bool) (f : State → State) (s : State) : State := if b then f s else s

/-- Block bases (R508). -/
def base (block : Nat) : Nat := block * 0x10000

/-- The reset value of a stored register, 0 where the address holds none. -/
def regReset (a : Nat) : Word := match regDesc a with | some d => d.reset | none => 0

/-- The value last written to a stored register: read-back and shadow copy (R7). -/
def regVal (s : State) (a : Nat) : Word := spGet (regReset a) s.regs a

/-- The instance and the offset within it of an offset among `n` instances from `lo`, `step` apart. -/
def instOf (o lo n step : Nat) : Option (Nat × Nat) :=
  if lo ≤ o ∧ (o - lo) / step < n then some ((o - lo) / step, (o - lo) % step) else none

/-- The active copy of a knotted register (R7, R26). -/
def actVal (s : State) (a : Nat) : Word := spGet (regReset a) s.act a

/-- Store a register's value. -/
def setReg (a : Nat) (v : Word) (s : State) : State := { s with regs := spSet (regReset a) s.regs a v }

/-- Make a register's value its active copy. -/
def setAct (a : Nat) (v : Word) (s : State) : State := { s with act := spSet (regReset a) s.act a v }

/-- Microseconds in the unit of `now`, 0.1 ns (log 5). -/
def us (n : Nat) : Nat := n * 10000

/-- Milliseconds in the unit of `now`. -/
def ms (n : Nat) : Nat := n * 10000000

/-- The period of a PTP counter: 2^48 seconds in 2^-32 ns (R381). -/
def timeMod : Nat := 2 ^ 48 * (1000000000 * 2 ^ 32)

/-- Device time in 2^-32 ns: T of the selected domain plus K (R392). -/
def devTime (s : State) : Nat := (((dom s s.ptp.sel).t : Int) + s.ptp.k * 65536).toNat % timeMod

/-- Whole seconds of a time in 2^-32 ns. -/
def secOf (t : Nat) : Nat := t / 2 ^ 32 / 1000000000

/-- Nanoseconds of a time in 2^-32 ns. -/
def nsOf (t : Nat) : Nat := t / 2 ^ 32 % 1000000000

/-- The port of a row segment (R4). -/
def segPort (n : Nat) : Nat := n / 8

/-- The segment of the active geometry with number `n`, if enabled. -/
def segGeo (g : Geo) (n : Nat) : Option SegGeo := g.segs.find? (fun x => x.seg == n)

/-- Ports with an enabled segment in a geometry, ascending. -/
def geoPorts (g : Geo) : List Nat := (List.range 64).filter (fun p => g.segs.any (fun x => segPort x.seg == p))

/-- The reference port of R27: the lowest port with an enabled segment; port 0 when there is none. -/
def refPort (s : State) : Nat := match geoPorts s.fir.geo with | p :: _ => p | [] => 0

/-- The print channel: the active FIR_GEO_CTL.ENC (R63). -/
def printCh (s : State) : Nat := s.fir.geo.enc

/-- The road of port 0: the print channel's road count (R27). -/
def road (s : State) : Int := (enc s (printCh s)).rc

/-- Pairing is enabled (R407). -/
def paired (s : State) : Bool := bit (regVal s (base 24)) 31

/-- The chip is the standby of a pair, or is joining as one (R409, R435; log 39). -/
def isStandby (s : State) : Bool := paired s && (s.par.role == 2 || s.par.role == 3)

/-- The chip is the active chip of a pair. -/
def isActive (s : State) : Bool := paired s && s.par.role == 1

/-- The code of a device state (R517). -/
def devCode : DevState → Nat
  | .cold => 0 | .loading => 1 | .verifying => 2 | .ready => 3 | .printing => 4 | .held => 5 | .stopped => 6 | .faulted => 7

/-- The code of a class (R481). -/
def clsCode : ErrClass → Nat
  | .notice => 0 | .fault => 1 | .stop => 2 | .fatal => 3

/-- Whether the print path and its blocks run: from Verifying onwards and not Faulted. -/
def running (s : State) : Bool :=
  match s.sys.st with | .verifying | .ready | .printing | .held | .stopped => true | _ => false

/-- From Verifying onwards, Faulted included (R395, R515). -/
def awake (s : State) : Bool := match s.sys.st with | .cold | .loading => false | _ => true

/-- Ready, Printing, Held or Stopped. -/
def operational (s : State) : Bool :=
  match s.sys.st with | .ready | .printing | .held | .stopped => true | _ => false

/-- The data plane is not halted: the device is not Faulted (R11, R36). -/
def dataRuns (s : State) : Bool := decide (s.sys.st ≠ .faulted)

/-- Printing or Held (R216, R503). -/
def inPrint (s : State) : Bool := match s.sys.st with | .printing | .held => true | _ => false

/-- Detect an error: it is logged at the end of the CFG cycle (R483). A fifth argument is not recorded in the entry: it
tells apart the Faults that end by themselves (R485). -/
def raise (cls : ErrClass) (code : Nat) (args : List Nat) (s : State) : State :=
  mErr (fun e => { e with found := e.found ++ [⟨cls, code, args.take 5⟩] }) s

/-- Detect a Notice. -/
def notice (code : Nat) (args : List Nat) (s : State) : State := raise .notice code args s

/-- Detect a Fault. -/
def faultErr (code : Nat) (args : List Nat) (s : State) : State := raise .fault code args s

/-- Count an occurrence that is not logged (R484). -/
def suppress (code : Nat) (s : State) : State :=
  mErr (fun e => { e with supp := vmod e.supp (code / 1024) (fun n => satAdd 32 n 1) }) s

/-- When the limited error (code, key) was last logged. -/
def lastLogged (s : State) (code key : Nat) : Option Nat :=
  (s.err.limits.find? (fun x => x.1 == (code, key))).map (·.2)

/-- Whether the limited error (code, key) may be logged, at most once per `per` (R484). -/
def mayLog (s : State) (code key per : Nat) : Bool :=
  match lastLogged s code key with | some t => decide (t + per ≤ s.now) | none => true

/-- Record that a limited error is logged now. -/
def markLogged (code key : Nat) (s : State) : State :=
  mErr (fun e => { e with limits := ((code, key), s.now) :: e.limits.filter (fun x => x.1 != (code, key)) }) s

/-- Detect a Notice or Fault that is logged at most once per `per` for its key; beyond that it is counted (R484). -/
def raiseLim (cls : ErrClass) (code key per : Nat) (args : List Nat) (s : State) : State :=
  if mayLog s code key per then raise cls code args (markLogged code key s) else suppress code s

/-- A 48-bit road count as the two argument words of R482. -/
def arg48 (x : Int) : List Nat := let u := (x % 2 ^ 48).toNat; [u % 2 ^ 32, u / 2 ^ 32]

/-- A field wider than 32 bits as two argument words, low word first (R482). -/
def arg64 (x : Nat) : List Nat := [x % 2 ^ 32, x / 2 ^ 32 % 2 ^ 32]

/-- A number of the argument form of R482 for a signed field of 32 bits. -/
def argI (x : Int) : Nat := (x % 2 ^ 32).toNat

/-- Take the next free value's index (log 6). -/
def tickFree (s : State) : State := { s with free := s.free + 1 }

/-- A byte of a bank. -/
def bankByte (s : State) (b o : Nat) : Byte := spGet 0 (bank s b).data o

/-- `n` bytes of a bank. -/
def bankBytes (s : State) (b o n : Nat) : Bytes := (List.range n).map (fun i => bankByte s b (o + i))

/-- The little-endian word of `n` bytes of a bank. -/
def bankWord (s : State) (b o n : Nat) : Nat := leNat (bankBytes s b o n)

/-- Write bytes of a bank. -/
def bankPut (b o : Nat) (d : Bytes) (s : State) : State :=
  mBank b (fun k => { k with data := each (fun i m => spSet 0 m (o + i) (d.getD i 0)) (List.range d.length) k.data }) s

end Sys2Proof.Machine
end

