-- ==== Sys2Proof/Machine/Geometry.lean ====
section
/-! DEFINITION. The bar geometry: segments (R42, R46), what a knot derives (R50), the check (R43, R60, R61),
residuals and stagger delays (R55, R56), and a port's last trigger (R53). Every function takes the register values
as a function of the address, so that one definition serves the shadow and the active copies. -/

namespace Sys2Proof.Machine

/-- Segment `n` of a set of register values, if enabled; coarse and phase not yet derived (R42, R46). -/
def segRaw (f : Nat → Word) (n : Nat) : Option SegGeo :=
  let m := f (base 16 + 0x1000 + 4 * n)
  let c := f (base 16 + 0x1800 + 4 * n)
  if bit m 31 then some ⟨n, bits m 11 0, bits m 23 12 + 1, bit m 30, bits c 31 24, bits c 23 20, bits c 19 0, 0, 0⟩ else none

/-- The enabled segments, ascending. -/
def segsRaw (f : Nat → Word) : List SegGeo := (List.range 512).filterMap (segRaw f)

/-- FIR_GEO_CTL.REV. -/
def geoRev (f : Nat → Word) : Bool := bit (f (base 14 + 0x100)) 31

/-- FIR_CPL. -/
def geoCpl (f : Nat → Word) : Nat := (f (base 14 + 0x104)).toNat

/-- p[s] of R50. -/
def segPos (f : Nat → Word) (n : Nat) : Int :=
  let p := (f (base 14 + 0x2000 + 4 * n)).toInt * 256
  if geoRev f then -(p + 15 * geoCpl f) else p

/-- The least of a list of integers, 0 of none. -/
def minInt : List Int → Int
  | [] => 0
  | a :: r => r.foldl min a

/-- The greatest of a list of numbers, 0 of none. -/
def maxNat (l : List Nat) : Nat := l.foldl max 0

/-- e[s] for each enabled segment (R50). -/
def segE (f : Nat → Word) (segs : List SegGeo) : List (Nat × Nat) :=
  let ps := segs.map (fun x => (x.seg, segPos f x.seg))
  let pmin := minInt (ps.map (·.2))
  ps.map (fun x => (x.1, (x.2 - pmin).toNat))

/-- e of the reference segment of port `q`: the smallest e (R50). -/
def refE (es : List (Nat × Nat)) (q : Nat) : Nat :=
  (minInt ((es.filter (fun x => segPort x.1 == q)).map (fun x => (x.2 : Int)))).toNat

/-- Coarse offset and row phase of a segment (R50). -/
def deriveSeg (cpl : Nat) (es : List (Nat × Nat)) (x : SegGeo) : SegGeo :=
  let e := match es.find? (fun y => y.1 == x.seg) with | some y => y.2 | none => 0
  let r := refE es (segPort x.seg)
  let t := ((e - r) * 64 + cpl / 2) / cpl
  { x with coarse := r / cpl + t / 64, phase := t % 64 }

/-- The geometry that a set of register values gives, with what R50 derives (R28, R50). -/
def deriveGeo (f : Nat → Word) : Geo :=
  let segs := segsRaw f
  let es := segE f segs
  let cpl := geoCpl f
  let g : Geo :=
    { rev := geoRev f, enc := bits (f (base 14 + 0x100)) 1 0, cpl := cpl,
      segs := segs.map (deriveSeg cpl es), frac := [],
      minp := (List.range 64).map (fun p => bits (f (base 14 + 0x1000 + 0x20 * p)) 19 0),
      stb := (List.range 64).map (fun p => f (base 14 + 0x1004 + 0x20 * p)),
      sat := bit (f (base 14 + 4)) 0, conf := f (base 16), dremap := f (base 16 + 4), res := [] }
  { g with frac := (geoPorts g).map (fun q => (q, refE es q % cpl)) }

/-- frac[q] of a geometry. -/
def geoFrac (g : Geo) (q : Nat) : Nat := match g.frac.find? (fun x => x.1 == q) with | some x => x.2 | none => 0

/-- dir: +1 forward, -1 reverse (R51). -/
def geoDir (g : Geo) : Int := if g.rev then -1 else 1

/-- The column of nozzle `j` of a segment (R46). -/
def segCol (x : SegGeo) (j : Nat) : Int := if x.revy then (x.col0 : Int) - j * x.stride else x.col0 + j * x.stride

/-- Some column of the segment lies outside 0 to 1 048 575. -/
def colBad (x : SegGeo) : Bool :=
  let a := segCol x (x.width - 1)
  decide (a < 0) || decide (1048575 < a) || decide (1048575 < x.col0)

/-- Two segments of one port share a nozzle index (R43). -/
def segOverlap (a b : SegGeo) : Bool :=
  segPort a.seg == segPort b.seg && decide (a.first < b.first + b.width) && decide (b.first < a.first + a.width)

/-- The check of a geometry: reason code and segment of R61. -/
def geoCheckVals (f : Nat → Word) : Nat × Nat :=
  let g := deriveGeo f
  let named := fun (r : Nat) (p : SegGeo → Bool) => (g.segs.find? p).map (fun x => (r, x.seg))
  let clash := fun (x : SegGeo) => g.segs.any (fun y => decide (y.seg < x.seg) && segOverlap x y)
  match firstSome (fun o => o)
    [named 1 (fun x => decide (4095 < x.first + (x.width - 1))), named 2 clash, named 3 colBad,
     named 4 (fun x => decide (65535 < x.coarse))] with
  | some r => r
  | none => if g.segs.isEmpty then (5, 0) else (0, 0)

/-- The residual of a nozzle in a table (R56). -/
def residual (t : WMap) (n : Nat) : Nat := ((spGet 0 t (n / 8)).toNat >>> (4 * (n % 8))) % 16

/-- The stagger delay of a nozzle (R55). -/
def stagger (rev : Bool) (t : WMap) (n : Nat) : Nat := if rev then 15 - residual t n else residual t n

/-- Global number of nozzle `j` of a segment (R4, R42). -/
def nozOf (x : SegGeo) (j : Nat) : Nat := segPort x.seg * 4096 + x.first + j

/-- The segment of a geometry that owns a global nozzle, with its index j. -/
def ownerOf (g : Geo) (n : Nat) : Option (SegGeo × Nat) :=
  (g.segs.find? (fun x => segPort x.seg == n / 4096 && decide (x.first ≤ n % 4096) && decide (n % 4096 < x.first + x.width))).map
    (fun x => (x, n % 4096 - x.first))

/-- Stagger delays of a segment's nozzles, in order of j. -/
def segStagger (g : Geo) (x : SegGeo) : List Nat :=
  (List.range x.width).map (fun j => stagger g.rev g.res (nozOf x j))

/-- The largest coarse[s] + g[n] on a port (R53). -/
def portReach (g : Geo) (q : Nat) : Nat :=
  maxNat ((g.segs.filter (fun x => segPort x.seg == q)).map (fun x => x.coarse + maxNat (segStagger g x)))

end Sys2Proof.Machine
end

