-- ==== Sys2Proof/Machine/Report.lean ====
section
/-! DEFINITION. The error logger (R481 to R489), subscription records (R403), device-state changes (R34), the
hitch output (R412), entry to Stopped and to Faulted (R11, R36), and the frame of every command: `event` and
`always` run a command's effect, log the errors found, and append its outputs. -/

namespace Sys2Proof.Machine

/-- The 48 bytes of a log entry (R481). -/
def entryBytes (e : LogEntry) : Bytes :=
  let b := leBytes 2 e.code ++ leBytes 1 (clsCode e.cls) ++ leBytes 1 (b2n e.secondary 0 + b2n e.standby 1)
    ++ leBytes 4 e.seq ++ leBytes 6 e.dtSec ++ leBytes 2 0 ++ leBytes 4 e.dtNs
    ++ leBytes 8 (match e.lc with | some l => l % 2 ^ 40 | none => 2 ^ 40 - 1)
    ++ leBytes 4 (nth e.args 0 0) ++ leBytes 4 (nth e.args 1 0) ++ leBytes 4 (nth e.args 2 0) ++ leBytes 4 (nth e.args 3 0)
  b ++ leBytes 4 (crc32c b).toNat

/-- Word `i` of a log entry. -/
def entryWord (e : LogEntry) (i : Nat) : Word := w32 (leAt (entryBytes e) (4 * i) 4)

/-- The slot of a sequence number (R483). -/
def slotOf (seq : Nat) : Nat := seq % 256

/-- The entry in a ring slot. -/
def ringSlot (e : ErrState) (n : Nat) : Option LogEntry := e.ring.find? (fun x => slotOf x.seq == n)

/-- Queue a record of a kind for every subscriber that selects it (R403); a full queue counts it as lost. -/
def subRecord (kind : Nat) (data : Bytes) (s : State) : State :=
  let t := devTime s
  let r := beBytes 1 kind ++ beBytes 1 0 ++ beBytes 2 data.length ++ beBytes 6 (secOf t) ++ beBytes 4 (nsOf t)
    ++ beBytes 2 0 ++ data
  mMgt (fun m => { m with subs := m.subs.map (fun o => o.map (fun b =>
    if b.mask.testBit (kind - 1) then
      (if b.queue.length < 256 then { b with queue := b.queue ++ [r] } else { b with lost := satAdd 16 b.lost 1 })
    else b)) }) s

/-- The device passes to a state: SYS_STATE, PREV and a STATE record (R34, R403, R516). -/
def setDev (n : DevState) (s : State) : State :=
  if s.sys.st = n then s
  else subRecord 1 (beBytes 1 (devCode s.sys.st) ++ beBytes 1 (devCode n)) (mSys (fun y => { y with st := n, prev := y.st }) s)

/-- Release HITCH_OUT_N (R412). -/
def hitchRelease (s : State) : State :=
  if s.par.hitchOut then emit (.pin "HITCH_OUT_N" 0 false) (mPar (fun p => { p with hitchOut := false }) s) else s

/-- Assert HITCH_OUT_N (R412). -/
def hitchAssert (s : State) : State :=
  if s.par.hitchOut then s else emit (.pin "HITCH_OUT_N" 0 true) (mPar (fun p => { p with hitchOut := true, yieldSent := false }) s)

/-- A frame of the lamp bus (R366): address, command and body with their CRC-32C, big-endian. -/
def lbusFrame (addr cmd : Nat) (body : Bytes) : Bytes :=
  let b := beBytes 1 addr ++ beBytes 1 cmd ++ body
  b ++ beBytes 4 (crc32c b).toNat

/-- A broadcast WRITE_PWM of 32 zero levels and a LATCH, the last frames of a chain in Faulted (R371). -/
def lbusDark : List Bytes := [lbusFrame 32 1 (beBytes 1 0 ++ beBytes 1 32 ++ beBytes 64 0), lbusFrame 32 2 []]

/-- The value of a lamp register in force since the latest swap (R32, R360). -/
def lampForce (s : State) (off : Nat) : Word := spGet (regReset (base 23 + off)) s.lmp.inForce (base 23 + off)

/-- Every lamp output off on entry to Faulted (R36, R371). -/
def lampsOff (s : State) : State :=
  each (fun n t => if bit (lampForce t (0x200 + 0x20 * n)) 31
      then each (fun f u => emit (.lbus n (bits (lampForce u (0x200 + 0x20 * n)) 7 0) f) u) lbusDark
        (mLmp (fun l => { l with chains := vmod l.chains n (fun c => ⟨false, [], false, false, c.echo⟩) }) t)
      else t)
    [0, 1] (if s.sys.st = .ready ∨ s.sys.st = .printing ∨ s.sys.st = .held ∨ s.sys.st = .stopped then emit (.scan [] 0 0 0) s else s)

/-- A gate sweep ends at once, its results discarded (R226). -/
def gateKill (g : GateState) : GateState :=
  { g with busy := false, waitGrid := false, abort := false, todo := [], slot := none }

/-- A rotation ends on entry to Faulted: a spare on a pin stays there (R448). -/
def groupStop (g : FegGroup) : FegGroup := { g with forced := [], matches_ := 0, phase := if g.phase = 1 then 0 else g.phase }

/-- SLOW_N and HOLD_N are released (R155). -/
def adviceOff (s : State) : State :=
  let s := doIf s.par.slow (emit (.pin "SLOW_N" 0 false)) s
  mPar (fun t => { t with slow := false, hold := false }) (doIf s.par.hold (emit (.pin "HOLD_N" 0 false)) s)

/-- Entry to Faulted (R11, R34, R36, R226, R353, R371, R407, R412, R448). -/
def enterFaulted (s : State) : State :=
  if s.sys.st = .cold ∨ s.sys.st = .faulted then s
  else
    let s := adviceOff (lampsOff s)
    let s := hitchRelease (setDev .faulted s)
    { s with
      gat := s.gat.map gateKill
      axs := s.axs.map (fun a => { a with fstop := true })
      cal := { s.cal with groups := s.cal.groups.map groupStop }
      par := { s.par with pendSplice := none, pendYield := none } }

/-- A Stop-class error takes effect (R11, R34); a paired standby only stops its own lines and clears READY (R419).
A stop point that the error sets is in place before. -/
def enterStopped (s : State) : State :=
  if isStandby s then
    mPar (fun p => { p with clear := true })
      (mFir (fun f => { f with stop := match f.stop with | some x => some x | none => some (s.pos.hwm * 65536) }) s)
  else match s.sys.st with
    | .ready | .printing | .held => setDev .stopped s
    | _ => s

/-- The sequence number after `n` (R483). -/
def nextSeq (n : Nat) : Nat := if n = 0xFFFFFFFF then 1 else n + 1

/-- Whether some error is being handled (R485). -/
def anyHandled (e : ErrState) : Bool := !e.faults.isEmpty || e.stopHeld || e.fatalHeld

/-- LC of a log entry (R481): the reference port's latest strike, all ones (`none`) when no grid has opened; with a grid and no strike
the spec gives none (log 6). -/
def entryLc (s : State) : Option Nat :=
  let f := firPort s (refPort s)
  if !s.fir.everGrid then none else if f.lastTf = 0 then some Config.noStrikeLc.toNat else some f.lastLc

/-- The log entry of an error (R481). -/
def mkEntry (s : State) (x : ErrEv) : LogEntry :=
  let t := devTime s
  { code := x.code, cls := x.cls, secondary := anyHandled s.err, standby := isStandby s, seq := nextSeq s.err.head,
    dtSec := secOf t, dtNs := nsOf t,
    lc := entryLc s, args := x.args }

/-- Enter an entry into the ring, its latch and its handling (R483, R485, R487, R488). -/
def enterLog (x : LogEntry) (e : ErrState) : ErrState :=
  { e with
    head := x.seq
    ring := x :: e.ring.filter (fun y => slotOf y.seq != slotOf x.seq)
    latches := vmod e.latches (clsCode x.cls) (fun o => match o with | some y => some y | none => some x)
    sec := if x.secondary then satAdd 16 e.sec 1 else e.sec
    faults := if x.cls = .fault ∧ e.faults.length < 255 then e.faults ++ [⟨x.seq, x.code, x.args⟩] else e.faults
    fovf := e.fovf || decide (x.cls = .fault ∧ 255 ≤ e.faults.length)
    stopHeld := e.stopHeld || decide (x.cls = .stop)
    fatalHeld := e.fatalHeld || decide (x.cls = .fatal)
    stopBlk := if x.cls = .stop then e.stopBlk ||| w32 (2 ^ (x.code / 1024)) else e.stopBlk
    fatalBlk := if x.cls = .fatal then e.fatalBlk ||| w32 (2 ^ (x.code / 1024)) else e.fatalBlk }

/-- Stop-class errors whose entry to Stopped waits for their stop point: decoder errors (R122). -/
def stopWaits (code : Nat) : Bool := decide (Err.decoder 0 ≤ code) && decide (code < 11 * 1024)

/-- Log one error and give it its class effect; during Fatal handling only the nesting count rises (R486). -/
def logOne (x : ErrEv) (s : State) : State :=
  if s.err.fatalHeld then mErr (fun e => { e with nest := satAdd 16 e.nest 1 }) s
  else
    let en := mkEntry s x
    let s := subRecord 2 (entryBytes en) (mErr (enterLog en) s)
    match x.cls with
    | .stop => if stopWaits x.code then s else enterStopped s
    | .fatal => enterFaulted s
    | _ => s

/-- The order in which errors of one CFG cycle are logged (R483): class descending, code ascending (block id in its
top bits), first argument ascending. -/
def errLe (a b : ErrEv) : Bool :=
  if clsCode a.cls ≠ clsCode b.cls then decide (clsCode b.cls < clsCode a.cls)
  else if a.code ≠ b.code then decide (a.code < b.code)
  else decide (nth a.args 0 0 ≤ nth b.args 0 0)

/-- Log the errors found, which are those of one CFG cycle (R483); nothing is logged while RESET_N holds the log at reset. -/
def flush (s : State) : State :=
  if s.sys.st = .cold then mErr (fun e => { e with found := [], supp := Vector.replicate 29 0, limits := [] }) s
  else each logOne (sortBy errLe s.err.found) (mErr (fun e => { e with found := [] }) s)

/-- A Fault ends by itself (R485): those of a code whose first argument satisfies `p`. -/
def endFault (code : Nat) (p : List Nat → Bool) (s : State) : State :=
  mErr (fun e => { e with faults := e.faults.filter (fun f => !(f.code == code && p f.args)) }) s

/-- ATTN_N is asserted (R489). -/
def attn (s : State) : Bool :=
  let m := regVal s (base 26 + 0xC)
  s.keep.coreWatch || (s.sys.st ≠ .cold &&
    (decide (s.sys.st = .faulted) || (bit m 1 && !s.err.faults.isEmpty) || (bit m 2 && s.err.stopHeld) || s.err.fatalHeld))

/-- The end of a command: the errors found are logged, the queue of commands is untouched, fuses only ever
blow (R478), and what the command sent follows what was sent before (log 3). -/
def closeCmd (s t : State) : State :=
  let t := flush t
  { t with
    pending := s.pending
    outbox := s.outbox ++ t.outbox
    cfg := { t.cfg with
      otpProg := t.cfg.otpProg ||| s.cfg.otpProg
      otpRev := t.cfg.otpRev ||| s.cfg.otpRev
      otpPin := t.cfg.otpPin || s.cfg.otpPin } }

/-- Run a command's effect. -/
def always (f : State → State) (s : State) : Host.Outcome State Fault Refusal :=
  .next (closeCmd s (f { s with outbox := [] }))

/-- Run the effect of an internal event that the state allows when `en` holds (log 2). -/
def event (en : Bool) (name : String) (f : State → State) (s : State) : Host.Outcome State Fault Refusal :=
  if en then always f s else .fault (.cannotOccur name)

/-- The outcome of a command whose operands spell its row when `ok` holds (log 1). -/
def formed (ok : Bool) (name : String) (o : Host.Outcome State Fault Refusal) : Host.Outcome State Fault Refusal :=
  if ok then o else .refused (.illFormed name)

/-- Run a command whose operands spell its row when `ok` holds (log 1). -/
def spelled (ok : Bool) (name : String) (f : State → State) (s : State) : Host.Outcome State Fault Refusal :=
  formed ok name (always f s)

end Sys2Proof.Machine
end

