-- ==== Sys2Proof/Machine/Send.lean ====
section
/-! DEFINITION. Sending datagrams: replies on the port of the request, unprompted traffic by the image's addresses
with neighbour resolution (R377 to R379), and what the MAC takes of what arrives (R375, R376). -/

namespace Sys2Proof.Machine

/-- The NETID section of a port. -/
def netIdPort (s : State) (np : Nat) : NetIdPort := vget s.netId.ports np ⟨0, 0, 0, 0, 0, 0, 0, 0, 0, 0, 0, 0, 0⟩

/-- Count a frame sent (R404). -/
def countTx (np : Nat) (s : State) : State := mNet np (fun p => { p with txCnt := p.txCnt + 1 }) s

/-- MODE of a port (R373, R404). -/
def netMode (s : State) (np : Nat) : Nat := bits (regVal s (base 2 + 0x100 + 0x80 * np)) 1 0

/-- The Towline UDP port (R111). -/
def towPort (s : State) : Nat := bits (regVal s (base 5)) 15 0

/-- The RMP UDP port (R406). -/
def rmpPort (s : State) : Nat := bits (regVal s (base 4)) 15 0

/-- PAR_HB_PORT (R438). -/
def hbPort (s : State) : Nat := bits (regVal s (base 24 + 0xC)) 15 0

/-- The MAC address of an IPv4 multicast group. -/
def groupMac4 (ip : Nat) : BitVec 48 := BitVec.ofNat 48 (0x01005E000000 + ip % 2 ^ 23)

/-- The MAC address of an IPv6 multicast group. -/
def groupMac6 (ip : Nat) : BitVec 48 := BitVec.ofNat 48 (0x333300000000 + ip % 2 ^ 32)

/-- The MAC address of the solicited-node group of an IPv6 address. -/
def solicitedMac (ip : BitVec 128) : BitVec 48 := BitVec.ofNat 48 (0x3333FF000000 + ip.toNat % 2 ^ 24)

/-- 224.0.1.129, the PTP group of R385; 224.0.0.107 for peer delay. -/
def ptpGroup4 (peer : Bool) : Nat := if peer then 0xE000006B else 0xE0000181

/-- FF0E::181, the PTP group of R385; FF02::6B for peer delay. -/
def ptpGroup6 (peer : Bool) : Nat := if peer then 0xFF02 * 2 ^ 112 + 0x6B else 0xFF0E * 2 ^ 112 + 0x181

/-- The MAC groups of PTP over Ethernet: 01-1B-19-00-00-00; 01-80-C2-00-00-0E for peer delay (R376). -/
def ptpMac (peer : Bool) : BitVec 48 := if peer then 0x0180C200000E else 0x011B19000000

/-- The receive filter of R376. -/
def addrTaken (s : State) (np : Nat) (f : Frame) : Bool :=
  let q := netIdPort s np
  let n := s.netId
  f.dst == q.mac || (f.dst == 0xFFFFFFFFFFFF && decide (f.ether = .arp)) || f.dst == ptpMac false || f.dst == ptpMac true
    || f.dst == groupMac4 (ptpGroup4 false) || f.dst == groupMac4 (ptpGroup4 true)
    || f.dst == groupMac6 (ptpGroup6 false) || f.dst == groupMac6 (ptpGroup6 true)
    || (n.group4 != 0 && f.dst == groupMac4 n.group4.toNat) || (n.group6 != 0 && f.dst == groupMac6 n.group6.toNat)
    || f.dst == groupMac6 (0xFF02 * 2 ^ 112 + 1) || (q.ll6 != 0 && f.dst == solicitedMac q.ll6) || (q.g6 != 0 && f.dst == solicitedMac q.g6)

/-- A frame's tags do not fit the port's VID (R375). -/
def vidBad (vid : Nat) (vids : List (BitVec 12)) : Bool :=
  match vids with
  | [] => decide (vid ≠ 0)
  | [v] => decide (vid = 0) || decide (v.toNat ≠ vid)
  | _ => true

/-- The UDP ports that the device serves: Towline, RMP, heartbeats, PTP (R66, R385, R395, R428). -/
def udpServed (s : State) (u : BitVec 16) : Bool := [towPort s, rmpPort s, hbPort s, 319, 320].contains u.toNat

/-- Why the MAC discards a frame, none for a frame that it takes (R375, R376); the first reason stands (log 124). -/
def frameBad (s : State) (np : Nat) (f : Frame) : Option NetDrop :=
  let ip := decide (f.ether = .ipv4) || decide (f.ether = .ipv6)
  if !f.fcs || decide (f.len < 64) then some .fcs
  else if (if f.vids.length = 1 then 9022 else 9018) < f.len then some .long
  else if f.control then some .pause
  else if !addrTaken s np f then some .addr
  else if vidBad (netIdPort s np).vid f.vids then some .vlan
  else if decide (f.ether = .other) || (ip && (f.fragment || !f.sums || (match f.udp with | some u => !udpServed s u | none => false)))
    then some .proto
  else none

/-- The counter of a discard reason in NET_PORTn_DROP; ADDR is not counted (R375, R404). -/
def dropIndex : NetDrop → Option Nat
  | .fcs => some 0
  | .long => some 1
  | .vlan | .pause => some 2
  | .proto => some 3
  | .addr => none

/-- The MAC discards a frame for a reason (R375). -/
def frameDrop (np : Nat) (why : NetDrop) (s : State) : State :=
  match dropIndex why with
  | some i => mNet np (fun p => { p with drop := vmod p.drop i (fun n => satAdd 8 n 1) }) s
  | none => s

/-- A frame arrives: one that the MAC takes is counted and acted on, another is discarded (R375, R376, R404); nothing is received
before Verifying or on a port that is off (R373, R473). -/
def rxFrame (rx : Arrival) (f : State → State) (s : State) : State :=
  if !awake s || decide (netMode s rx.port = 0) then s
  else match frameBad s rx.port rx.frame with
    | some why => frameDrop rx.port why s
    | none => f (mNet rx.port (fun p => { p with rxCnt := p.rxCnt + 1 }) s)

/-- Where the reply to a frame goes: the port on which it arrived, its source MAC address (R378). -/
def backTo (rx : Arrival) : Via := ⟨rx.port, rx.frame.src⟩

/-- The address is one of the port's own (R376, R379). -/
def ownAddr (q : NetIdPort) (v6 : Bool) (ip : BitVec 128) : Bool :=
  ip != 0 && (if v6 then ip == q.ll6 || ip == q.g6 else ip == q.ipv4.setWidth 128)

/-- The address is that of the pair multicast group (R66). -/
def pairGroup (s : State) (v6 : Bool) (ip : BitVec 128) : Bool :=
  ip != 0 && (if v6 then ip == s.netId.group6 else ip == s.netId.group4.setWidth 128)

/-- A datagram to UDP port `port` at an address of the device: its own unicast or the pair group's (R66, R395; log 125). -/
def datagramFor (s : State) (rx : Arrival) (v6 : Bool) (port : Nat) : Bool :=
  (match rx.frame.udp with | some u => decide (u.toNat = port) | none => false)
    && (ownAddr (netIdPort s rx.port) v6 rx.frame.ip || pairGroup s v6 rx.frame.ip)

/-- The header of a frame that leaves, of an IP packet when `ip` (R377). -/
def wireOf (s : State) (v : Via) (pcp : Nat) (ip : Bool) : Wire :=
  let q := netIdPort s v.np
  ⟨v.np, v.mac, q.vid, if q.vid = 0 then 0 else pcp, if ip then q.dscp else 0, if ip then 64 else 0⟩

/-- Send a UDP datagram (R377): `pcp` is the priority of its class. -/
def sendOn (v : Via) (pcp : Nat) (dst : Session) (src : Nat) (d : Bytes) (s : State) : State :=
  emit (.udp (wireOf s v pcp true) dst src d) (countTx v.np s)

/-- Whether two addresses of `w` bits agree in their first `n` bits. -/
def samePrefix (w n : Nat) (a b : BitVec 128) : Bool := a.toNat >>> (w - n) == b.toNat >>> (w - n)

/-- Whether an address lies on a port's prefix (R377). -/
def onLink (q : NetIdPort) (v6 : Bool) (ip : BitVec 128) : Bool :=
  if v6 then samePrefix 128 q.pfxLl q.ll6 ip || samePrefix 128 q.pfxG q.g6 ip
  else samePrefix 32 q.pfx4 (q.ipv4.setWidth 128) ip

/-- The next hop to an address: itself on the prefix, else the gateway (R378). -/
def nextHop (q : NetIdPort) (v6 : Bool) (ip : BitVec 128) : BitVec 128 :=
  if onLink q v6 ip then ip else if v6 then q.gw6 else q.gw4.setWidth 128

/-- The port of unprompted traffic to an address: the lowest port on whose prefix it lies, else the lowest port
that is up (log 8). -/
def routeOf (s : State) (v6 : Bool) (ip : BitVec 128) : Nat :=
  if onLink (netIdPort s 0) v6 ip then 0
  else if onLink (netIdPort s 1) v6 ip then 1
  else if (netPort s 0).up then 0 else 1

/-- Send an ARP request or a neighbour solicitation (R379). -/
def sendSolicit (np : Nat) (v6 : Bool) (ip : BitVec 128) (s : State) : State :=
  emit (.neigh (wireOf s ⟨np, if v6 then solicitedMac ip else 0xFFFFFFFFFFFF⟩ Config.otherPcp.toNat v6) "request" v6 ip) (countTx np s)

/-- Send an unprompted datagram on a port: at once to a cached neighbour; otherwise it is held, the latest one per
neighbour, while the neighbour is resolved (R379). -/
def sendVia (np pcp : Nat) (dst : Session) (src : Nat) (d : Bytes) (s : State) : State :=
  let hop := nextHop (netIdPort s np) dst.v6 dst.ip
  let p := netPort s np
  match p.cache.find? (fun n => n.v6 == dst.v6 && n.ip == hop) with
  | some n => sendOn ⟨np, n.mac⟩ pcp dst src d s
  | none => if p.resolving.any (fun r => r.v6 == dst.v6 && r.ip == hop) then
    let upd (r : Resolving) : Resolving := { r with dst := dst, udp := BitVec.ofNat 16 src, pcp := pcp, held := d }
    mNet np (fun p => { p with resolving := modFirst (fun r => r.v6 == dst.v6 && r.ip == hop) upd p.resolving }) s
  else
    sendSolicit np dst.v6 hop
      (mNet np (fun p => { p with resolving := p.resolving ++ [⟨dst.v6, hop, 1, dst, BitVec.ofNat 16 src, pcp, d⟩] }) s)

/-- Send unprompted unicast traffic (R378). -/
def sendUnprompted (pcp : Nat) (dst : Session) (src : Nat) (d : Bytes) (s : State) : State :=
  sendVia (routeOf s dst.v6 dst.ip) pcp dst src d s

/-- A number that tells sessions apart, the key of a rate limit (R110). -/
def sessKey (ss : Session) : Nat := ss.ip.toNat * 2 ^ 17 + ss.port.toNat * 2 + b2n ss.v6 0

end Sys2Proof.Machine
end

