-- ==== Sys2Proof/Machine/LayerOps.lean ====
section
/-! DEFINITION. Layers and where their blocks lie: block and frame sizes (R72, R104), slots (R105), channel
addresses (R106), the directory (R107), credit (R85), and the messages ACK, NAK and STATUS (R83, R95, R96). -/

namespace Sys2Proof.Machine

/-- The layer with an id, Released ones included. -/
def layerOf (s : State) (id : Nat) : Option Layer := s.tow.layers.find? (fun l => l.id == id)

/-- Update the layer with an id. -/
def mLayer (id : Nat) (f : Layer → Layer) (s : State) : State :=
  mTow (fun t => { t with layers := modFirst (fun l => l.id == id) f t.layers }) s

/-- A layer is resident: it holds its slot and its directory entries (R107). -/
def resident (l : Layer) : Bool := match l.st with | .none | .released => false | _ => true

/-- LSTATE codes (R97). -/
def lsCode : LState → Nat
  | .none => 0 | .announced => 1 | .loading => 2 | .ready => 3 | .printing => 4 | .done => 5 | .released => 6

/-- The block height 2^HLOG2 (R71). -/
def bHeight (l : Layer) : Nat := 2 ^ l.hlog2

/-- Blocks per stripe (R72). -/
def nBlocks (l : Layer) : Nat := cdiv l.lines (bHeight l)

/-- Lines of block `b` (R72). -/
def blockLines (l : Layer) (b : Nat) : Nat := min (bHeight l) (l.lines - bHeight l * b)

/-- Line length in bytes of stripe `i` of the list (R114). -/
def lineBytes (l : Layer) (i : Nat) : Nat := cdiv ((nth l.stripes i (0, 0)).2 * l.depth) 8

/-- Raw length of a block (R104). -/
def rawLen (l : Layer) (i b : Nat) : Nat := blockLines l b * lineBytes l i

/-- Frame size of a block (R104). -/
def frameSize (l : Layer) (i b : Nat) : Nat :=
  let r := rawLen l i b
  cdiv (32 + r + cdiv r 64 + 1) 256 * 256

/-- The frames of block `b` of the first `n` stripes. -/
def frameSum (l : Layer) (b n : Nat) : Nat := sumN ((List.range n).map (fun i => frameSize l i b))

/-- off(s, b) of R104: every block before the last has the size of block 0. -/
def frameOff (l : Layer) (i b : Nat) : Nat :=
  b * frameSum l 0 l.stripes.length + frameSum l b i

/-- The footprint of a layer (R104). -/
def footprint (l : Layer) : Nat := frameOff l l.stripes.length (nBlocks l - 1)

/-- Blocks of the whole layer. -/
def layerBlocks (l : Layer) : Nat := nBlocks l * l.stripes.length

/-- The slot size Z in bytes (R105). -/
def slotSize (s : State) : Nat := bits (regVal s (base 6)) 15 0 * 1048576

/-- The slot of a layer id (R105). -/
def slotFor (s : State) (id : Nat) : Nat := id % s.plc.slots

/-- The resident layer in a slot. -/
def slotHolder (s : State) (slot : Nat) : Option Layer :=
  s.tow.layers.find? (fun l => resident l && slotFor s l.id == slot)

/-- Directory entries not reserved by a resident layer (R107). -/
def dirFree (s : State) : Nat := 65536 - sumN ((s.tow.layers.filter resident).map layerBlocks)

/-- The `n` lowest numbers from `e` on that a rising list does not hold. -/
def lowestFree : Nat → Nat → List Nat → Nat → List Nat
  | _, _, _, 0 => []
  | 0, _, _, _ => []
  | fuel + 1, e, [], n + 1 => e :: lowestFree fuel (e + 1) [] n
  | fuel + 1, e, u :: r, n + 1 => if u ≤ e then lowestFree fuel (e + (if u = e then 1 else 0)) r (n + 1)
    else e :: lowestFree fuel (e + 1) (u :: r) n

/-- The entries that an announce of `n` blocks reserves: the lowest free ones (R107; log 127). -/
def dirTake (s : State) (n : Nat) : List Nat :=
  let used := sortBy (fun a b => decide (a ≤ b)) ((s.tow.layers.filter resident).flatMap (·.dir))
  lowestFree (used.length + n) 0 used n

/-- The directory entry of a block (R107). -/
def dirEntry (l : Layer) (sidx b : Nat) : Nat := nth l.dir (b * l.stripes.length + sidx) 0

/-- Write a directory entry: 8 bytes of the PLACE bank, whose layout the spec does not give (R107, R318; log 127). -/
def dirPut (e : Nat) (what : Option (Nat × Nat × Nat × Bool)) (s : State) : State :=
  bankPut 6 (8 * e) (leBytes 8 (Config.dirEntry what).toNat) s

/-- Write the entries of a layer: reserved, and with `free` freed (R94, R107). -/
def dirLayer (l : Layer) (free : Bool) (s : State) : State :=
  each (fun (x : Nat × Nat) s =>
    dirPut x.1 (if free then none else some (l.id, (nth l.stripes (x.2 % l.stripes.length) (0, 0)).1, x.2 / l.stripes.length, false)) s)
    l.dir.zipIdx s

/-- Free slots. -/
def freeSlots (s : State) : Nat := s.plc.slots - (s.tow.layers.filter resident).length

/-- The logical storage address of byte `i` of a block object (R106). -/
def lsaOf (s : State) (l : Layer) (sidx b i : Nat) : Nat := slotFor s l.id * slotSize s + frameOff l sidx b + i

/-- Channels not Offline, ascending (R105). -/
def onlineChans (m : BitVec 8) : List Nat := (List.range 8).filter (fun c => m.getLsbD c)

/-- Channel and channel address of a logical storage address (R106). -/
def locate (s : State) (lsa : Nat) : Nat × Nat :=
  let cs := onlineChans s.plc.mask
  let nc := cs.length
  let unit := lsa >>> 11
  let ci := unit % nc
  let chunk := unit / nc
  let bank := (chunk ^^^ (chunk >>> 4)) % 16
  (nth cs ci 0, (chunk >>> 4) * 32768 + bank * 2048 + lsa % 2048)

/-- The byte that DRAM holds at a logical storage address. -/
def dramByte (s : State) (lsa : Nat) : Byte :=
  let (c, ca) := locate s lsa
  spGet 0 (chan s c).data ca

/-- Write a byte of DRAM. -/
def dramPut (c ca : Nat) (b : Byte) (s : State) : State := mChan c (fun t => { t with data := spSet 0 t.data ca b }) s

/-- A byte of a block object: a fragment not yet written to DRAM answers before DRAM (R80, R106). -/
def objByte (s : State) (l : Layer) (lsa : Nat) : Byte :=
  match s.tow.unwritten.find? (fun u => u.layer == l.id && decide (u.lsa ≤ lsa) && decide (lsa < u.lsa + u.data.length)) with
  | some u => u.data.getD (lsa - u.lsa) 0
  | none => dramByte s lsa

/-- Bytes `o` to `o + n - 1` of a block object. -/
def objBytes (s : State) (l : Layer) (sidx b o n : Nat) : Bytes :=
  let a := lsaOf s l sidx b o
  (List.range n).map (fun i => objByte s l (a + i))

/-- The directory's record of a block. -/
def blockOf (l : Layer) (sidx b : Nat) : Option Block := l.blocks.find? (fun k => k.sidx == sidx && k.b == b)

/-- A block is marked present (R81, R101). -/
def isPresent (l : Layer) (sidx b : Nat) : Bool :=
  match blockOf l sidx b with | some k => decide (k.st = .present) | none => false

/-- Blocks present. -/
def presentCount (l : Layer) : Nat := (l.blocks.filter (fun k => decide (k.st = .present))).length

/-- The place of a stripe in the layer's list. -/
def stripeIdx (l : Layer) (n : Nat) : Option Nat := l.stripes.findIdx? (fun x => x.1 == n)

/-- The layer accepts fragments (R85); a stopped layer counts as not Printing (R98). -/
def accepting (l : Layer) : Bool :=
  match l.st with
  | .announced | .loading => true
  | .ready => l.stream && !l.closeDone
  | .printing => l.stream && !l.closeDone && !l.suspended
  | _ => false

/-- The credit of a layer (R85); none while stage 1 is halted (R499). -/
def creditOf (s : State) (l : Layer) : Nat :=
  let n := (s.tow.layers.filter (fun x => accepting x && x.id != l.id)).length + 1
  if !accepting l || bit (s.dbg.stages.setWidth 32) 0 then 0 else (256 - s.tow.unwritten.length) / n

/-- The FSEQs received: those below `cum` and those listed beyond. -/
def gotFseq (l : Layer) (q : Nat) : Bool := decide (q < l.cum) || l.beyond.contains q

/-- Mark an FSEQ received: CUM moves over those already received (R83). -/
def markFseq (q : Nat) (l : Layer) : Layer :=
  if gotFseq l q then l
  else
    let b := insertBy (fun a c => decide (a ≤ c)) q l.beyond
    let run := iterate (fun (x : Nat × List Nat) => match x.2 with
      | h :: t => if h = x.1 then some (x.1 + 1, t) else none
      | [] => none) b.length (l.cum, b)
    { l with cum := run.1, beyond := run.2 }

/-- ROLE of Towline, RMP and heartbeats (R83, R407). -/
def roleCode (s : State) : Nat := if paired s then s.par.role else 0

/-- A Towline message with its header and CHECK (R67). -/
def towMsg (ty layer : Nat) (body : Bytes) : Bytes :=
  let h := beBytes 2 0x5457 ++ beBytes 1 1 ++ beBytes 1 ty ++ beBytes 2 (16 + body.length) ++ beBytes 2 0 ++ beBytes 4 layer
  h ++ beBytes 4 (crc32c (h ++ beBytes 4 0 ++ body)).toNat ++ body

/-- The 32 bytes of BITMAP: bit i for FSEQ CUM + 1 + i (R83). -/
def ackBitmap (l : Layer) : Bytes :=
  (List.range 32).map (fun i => BitVec.ofNat 8 (sumN ((List.range 8).map (fun j => b2n (gotFseq l (l.cum + 1 + 8 * i + j)) j))))

/-- An ACK (R83). -/
def ackMsg (s : State) (l : Layer) (credit : Nat) : Bytes :=
  towMsg 0x81 l.id (beBytes 4 l.cum ++ beBytes 2 credit ++ beBytes 1 (lsCode l.st) ++ beBytes 1 (roleCode s) ++ ackBitmap l)

/-- Where a Towline reply goes: the port of the request and its session, or by route (R66, R378). -/
def sendTow (np : Option Via) (ss : Session) (d : Bytes) (s : State) : State :=
  match np with
  | some v => sendOn v 4 ss (towPort s) d s
  | none => sendUnprompted 4 ss (towPort s) d s

/-- Send an ACK for a layer (R86); one that goes to its owner covers every fragment received (log 75). -/
def sendAck (np : Option Via) (ss : Session) (id : Nat) (s : State) : State :=
  match layerOf s id with
  | none => s
  | some l =>
    let c := creditOf s l
    let upd (l : Layer) : Layer := { l with unacked := 0, ackArmed := false, lastCredit := c, ackCum := l.cum }
    mLayer id (fun l => if l.sess = ss then upd l else l) (sendTow np ss (ackMsg s l c) s)

/-- An ACK when CREDIT has risen to 32 or more after an ACK that carried 0 (R86). -/
def creditWatch (s : State) : State :=
  each (fun (l : Layer) s =>
    if accepting l && decide (l.lastCredit = 0) && decide (32 ≤ creditOf s l) then sendAck none l.sess l.id s else s)
    s.tow.layers s

/-- What a NAK names (R95). -/
structure NakArgs where
  reason : Nat
  stripe : Nat := 0xFFFF
  block : Nat := 0xFFFF
  fseq : Nat := 0xFFFFFFFF
  detail : Nat := 0

/-- Answer with a NAK and log it, a given code from a given session at most once per 1 ms (R95, R110, R482). -/
def sendNak (np : Option Via) (ss : Session) (layer : Nat) (a : NakArgs) (s : State) : State :=
  let d := towMsg 0x82 layer (beBytes 1 a.reason ++ beBytes 1 (roleCode s) ++ beBytes 2 a.stripe ++ beBytes 2 a.block
    ++ beBytes 2 0 ++ beBytes 4 a.fseq ++ beBytes 4 a.detail)
  let s := mTow (fun t => { t with cntNak := t.cntNak + 1 }) (sendTow np ss d s)
  raiseLim .notice (Err.nak a.reason) (sessKey ss) (ms 1) [layer, a.detail, a.stripe * 65536 + a.block, a.fseq] s

/-- A STATUS for a layer, or with its layer fields 0 (R96). -/
def statusMsg (s : State) (id : Nat) (l : Option Layer) : Bytes :=
  match l with
  | some l =>
    towMsg 0x83 id (beBytes 1 (devCode s.sys.st) ++ beBytes 1 (lsCode l.st) ++ beBytes 1 (roleCode s) ++ beBytes 1 l.cause
      ++ beBytes 4 l.cum ++ beBytes 4 (presentCount l) ++ beBytes 4 (layerBlocks l)
      ++ beBytes 4 (match l.lastLine with | some k => k | none => 0xFFFFFFFF)
      ++ beBytes 2 (freeSlots s) ++ beBytes 2 (creditOf s l) ++ beBytes 4 (dirFree s))
  | none =>
    towMsg 0x83 id (beBytes 1 (devCode s.sys.st) ++ beBytes 1 0 ++ beBytes 1 (roleCode s) ++ beBytes 1 0
      ++ beBytes 4 0 ++ beBytes 4 0 ++ beBytes 4 0 ++ beBytes 4 0
      ++ beBytes 2 (freeSlots s) ++ beBytes 2 0 ++ beBytes 4 (dirFree s))

/-- A layer changes state: a LAYER record, and at Ready, Printing, Done and Released a STATUS to its session
(R96, R97, R403). -/
def setLayerSt (id : Nat) (n : LState) (cause : Nat) (s : State) : State :=
  match layerOf s id with
  | none => s
  | some l =>
    if l.st = n then s
    else
      let s := mLayer id (fun l => { l with st := n, cause := cause }) s
      let s := subRecord 3 (beBytes 4 id ++ beBytes 1 (lsCode l.st) ++ beBytes 1 (lsCode n) ++ beBytes 1 cause ++ beBytes 1 0) s
      match n with
      | .ready | .printing | .done | .released => sendTow none l.sess (statusMsg s id (layerOf s id)) s
      | _ => s

/-- Release a layer: slot and directory entries are freed, its blocks in or waiting for compression abandoned
(R94, R109, R131). -/
def releaseLayer (id cause : Nat) (s : State) : State :=
  let s := match layerOf s id with
    | some l => mLayer id (fun l => { l with dir := [] }) (dirLayer l true s)
    | none => s
  let s := setLayerSt id .released cause (mLayer id (fun l => { l with blocks := [], closeReq := none, ackArmed := false }) s)
  let gone := fun (m : MemUnit) => s.tow.unwritten.any (fun u => u.layer == id && u.tag == m.tag && decide (0 < u.left))
    || s.cmp.comps.toList.any (fun c => match c.job with
      | some j => j.1 == id && c.tag == m.tag && decide (0 < c.left)
      | none => false)
  let s := arbDropped (mMem (fun m => { m with pend := m.pend.filter (fun u => !gone u) }) s)
  let s := mTow (fun t => { t with queue := t.queue.filter (· != id), unwritten := t.unwritten.filter (fun u => u.layer != id) }) s
  let s := mFir (fun f => { f with grid := f.grid.map (fun g => { g with layers := g.layers.filter (· != id) }) }) s
  mCmp (fun c => { c with
    wait := c.wait.filter (fun x => x.1 != id)
    comps := c.comps.map (fun k => match k.job with
      | some j => if j.1 == id then idleComp else k
      | none => k) }) s

/-- The layers that Printing counts: a stopped layer does not count once the device is no longer Stopped (R98).
`suspended` marks it from the acknowledgement on. -/
def printingLayers (s : State) : List Layer := s.tow.layers.filter (fun l => decide (l.st = .printing) && !l.suspended)

/-- Printing passes to Ready when no layer remains in Printing (R34). -/
def checkReady (s : State) : State :=
  if s.sys.st = .printing ∧ (printingLayers s).isEmpty then setDev .ready s else s

/-- The layer at the head of the print queue (R99). -/
def headLayer (s : State) : Option Layer := match s.tow.queue with | id :: _ => layerOf s id | [] => none

end Sys2Proof.Machine
end

