-- ==== Sys2Proof/Machine/StrandOps.lean ====
section
/-! DEFINITION. Strands: activity and seeks (R135 to R141), the fetch stream (R142 to R144), the block decoder
(R113 to R126), data margin and levels (R150, R151), and the speed advisory with its pins (R152, R153). -/

namespace Sys2Proof.Machine

/-- The head layer serves the strands before it starts: Ready, or Loading with STREAM (R135). -/
def headServes (s : State) : Option Layer :=
  match headLayer s with
  | some l => if decide (l.st = .ready) || (decide (l.st = .loading) && l.stream) then some l else none
  | none => none

/-- Layers that count as Printing, oldest on the grid first (R98, R135). -/
def stPrinting (s : State) : List Nat := (printingLayers s).map (·.id)

/-- Some layer makes the strands active (R135). -/
def layerActive (s : State) : Bool := !(stPrinting s).isEmpty || (headServes s).isSome

/-- Strand `n` is active (R135); one that a knot disables stays so for the lines that the old values govern (R139). -/
def strandActive (s : State) (n : Nat) : Bool :=
  layerActive s && ((segGeo s.fir.geo n).isSome || s.fir.oldGeos.any (fun x => (segGeo x.2 n).isSome))

/-- An Idle strand holds no decode state (R135); its spool and counters of service stay. -/
def idleStrand (t : Strand) : Strand := { Strand.init with spool := t.spool, target := t.target, migrating := t.migrating }

/-- The codes of STATE (R159). -/
def strandCode : StrandSt → Nat
  | .idle => 0 | .seek => 1 | .run => 2 | .wait => 3

/-- Seek strand `n` to stripe line `lt` of a layer (R138). DESIGN CHOICE (log 145): the lines dropped from OUT are not counted in STR_CNT_DISC. -/
def seekStrand (n id lt : Nat) (s : State) : State :=
  match layerOf s id with
  | none => s
  | some l =>
    let b := lt >>> l.hlog2
    let d := lt - b * bHeight l
    mStrand n (fun t =>
      let keep := t.layer == some id && !t.decNext && t.block == b && t.inPos == 0 && t.hdr.isNone
        && t.skip == 0 && decide (t.st ≠ .idle)
      let t0 : Strand := { t with
        layer := some id, nextLine := lt, block := b, discard := d, token := ⟨0, 0, 0⟩, outPos := 0, inPos := 0,
        crcAcc := 0xFFFFFFFF, hdr := none, hist := [], badFrom := none, nextLayer := none, decNext := false, skip := 0,
        stopAt := none, out := [], st := if d = 0 then .run else .seek }
      let off := l.lines ≤ lt || (stripeIdx l n).isNone
      if keep && !off then { t0 with nextLayer := t.nextLayer }
      else { t0 with
        ring := [], reqs := [], fetchLayer := if off then none else some id, fetchBlock := b, fetchByte := 0
        st := if off then .run else t0.st }) s

/-- The stripe line at which strand `n` enters a layer: 0, or k0 − coarse after a restart (R138). -/
def startLine (s : State) (id n : Nat) : Nat :=
  match layerOf s id with
  | some l => l.k0 - (match segGeo s.fir.geo n with | some x => x.coarse | none => 0)
  | none => 0

/-- Seek strand `n` to where it enters a layer. -/
def enterStrand (n id : Nat) (s : State) : State := seekStrand n id (startLine s id n) s

/-- The layer after `id` in the print queue, or its head when `id` has started (R140). -/
def nextInQueue (s : State) (id : Nat) : Option Nat :=
  match s.tow.queue.dropWhile (· != id) with
  | _ :: x :: _ => some x
  | [_] => none
  | [] => s.tow.queue.head?

/-- The layer that was started after `id`, if it is on the grid (R100, R141). -/
def nextOnGrid (s : State) (id : Nat) : Option Nat :=
  match s.fir.grid with
  | some g => (match g.layers.dropWhile (· != id) with | _ :: x :: _ => some x | _ => none)
  | none => none

/-- The next request of strand `n`'s fetch stream: layer, block, first byte, length (R142, R143). -/
def nextFetch (s : State) (n : Nat) : Option (Layer × Nat × Nat × Nat × Nat) :=
  let t := strand s n
  match t.fetchLayer with
  | none => none
  | some id => match layerOf s id with
    | none => none
    | some l => match stripeIdx l n with
      | none => none
      | some i => match blockOf l i t.fetchBlock with
        | none => none
        | some k =>
          if k.st = .present ∧ t.fetchByte < k.len then
            let a := lsaOf s l i t.fetchBlock t.fetchByte
            some (l, i, t.fetchBlock, t.fetchByte, min (2048 - a % 2048) (k.len - t.fetchByte))
          else none

/-- Bytes of outstanding requests (R143). -/
def reqBytes (t : Strand) : Nat := sumN (t.reqs.map (·.len))

/-- The strand issues a request as soon as the ring has room for the whole of it, at most 4 at once (R143). -/
def fetchReady (s : State) (n : Nat) : Bool :=
  strandActive s n && decide ((strand s n).reqs.length < 4) && (match nextFetch s n with
    | some (_, _, _, _, len) => decide ((strand s n).ring.length + reqBytes (strand s n) + len ≤ 8192)
    | none => false)

/-- NEXTLAYER: the layer that follows on the grid, or else in the print queue; its block 0 is fetched next if it lists the
stripe (R140). -/
def takeNext (s : State) (n id : Nat) (t : Strand) : Strand :=
  let nx := match nextOnGrid s id with | some x => some x | none => nextInQueue s id
  let lists := match nx with
    | some x => (match layerOf s x with | some y => (stripeIdx y n).isSome | none => false)
    | none => false
  { t with nextLayer := nx, fetchLayer := if lists then nx else none, fetchBlock := 0, fetchByte := 0 }

/-- The fetch pointer after a request: the next block; after the last block of the strand's own layer the next layer's block 0, and after
that of NEXTLAYER nothing (R140). -/
def advanceFetch (s : State) (n : Nat) (l : Layer) (total len : Nat) (t : Strand) : Strand :=
  if t.fetchByte + len < total then { t with fetchByte := t.fetchByte + len }
  else if t.fetchBlock + 1 < nBlocks l then { t with fetchBlock := t.fetchBlock + 1, fetchByte := 0 }
  else
    if t.layer = some l.id then takeNext s n l.id t else { t with fetchLayer := none, fetchBlock := 0, fetchByte := 0 }

/-- Panic of the units that belong to a strand's outstanding requests, wherever they wait (R144). -/
def panicUnits (reqs : List FetchReq) (on : Bool) (s : State) : State :=
  let mark (u : MemUnit) : MemUnit := if reqs.any (fun r => r.tag == u.tag && decide (0 < r.left)) then { u with panic := on } else u
  mMem (fun m => { m with pend := m.pend.map mark, chans := m.chans.map (fun c => { c with queue := c.queue.map mark }) }) s

/-- Panic of a strand (R144): raised below STR_PANIC, held to STR_PANIC + 2 048 or until the last byte present has
been fetched. A rise counts. -/
def panicUpdate (n : Nat) (s : State) : State :=
  let t := strand s n
  let lim := bits (actVal s (base 10 + 4)) 13 0
  let fill := t.ring.length
  let dry := (nextFetch s n).isNone && t.reqs.isEmpty
  let on := strandActive s n && !dry && (decide (fill < lim) || (t.panic && decide (fill < lim + 2048)))
  if on = t.panic then s
  else
    mStr (fun x => { x with cntPanic := if on then x.cntPanic + 1 else x.cntPanic })
      (panicUnits t.reqs on (mStrand n (fun t => { t with panic := on, reqs := t.reqs.map (fun r => { r with panic := on }) }) s))

/-- The layer, stripe place and block that the decoder of strand `n` works on. -/
def decAt (s : State) (n : Nat) : Option (Layer × Nat) :=
  let t := strand s n
  match (if t.decNext then t.nextLayer else t.layer) with
  | none => none
  | some id => match layerOf s id with
    | none => none
    | some l => (stripeIdx l n).map (fun i => (l, i))

/-- The header check of R113: the offset of the first failing check. `rd` is the read of little-endian fields. -/
def headerFault (h : Bytes) (l : Layer) (sidx b : Nat) (segWidth : Option Nat) : Option Nat :=
  let st := nth l.stripes sidx (0, 0)
  let fmt := byteAt h 3
  let width := leAt h 14 2
  let rlen := leAt h 16 4
  let plen := leAt h 20 4
  let raw := fmt.testBit 7
  if leAt h 0 2 ≠ 0x4B4E then some 0
  else if byteAt h 2 ≠ 1 then some 2
  else if leAt h 28 4 ≠ (crc32c (h.take 28)).toNat then some 28
  else if fmt % 4 = 0 ∨ fmt / 4 % 32 ≠ 0 ∨ fmt % 4 ≠ l.depth then some 3
  else if leAt h 4 4 ≠ l.id then some 4
  else if leAt h 8 2 ≠ st.1 then some 8
  else if leAt h 10 2 ≠ b then some 10
  else if leAt h 12 2 ≠ blockLines l b then some 12
  else if width ≠ st.2 ∨ segWidth.any (fun w => w ≠ width) = true then some 14
  else if rlen ≠ leAt h 12 2 * cdiv (width * l.depth) 8 then some 16
  else if (raw ∧ plen ≠ rlen) ∨ (¬ raw ∧ (plen < 1 ∨ rlen + cdiv rlen 64 + 1 < plen)) then some 20
  else none

/-- The decoder's registers within a block (R119): output newest byte first, token in progress, payload position,
running CRC, and the ring. -/
structure DecRegs where
  hist : Bytes
  p : Nat
  q : Nat
  tok : TokenCtx
  crc : Word
  ring : Bytes

/-- How one run of the decoder ends: more data is needed, the line is complete, or an error code with the payload
offset and the output position of the failing token. -/
inductive DecEnd where
  | wait
  | line
  | error (code off p : Nat)

/-- What the token at the head of the ring is, with `have` bytes of it in the ring: kind (1 LIT, 2 ZERO, 3 VREP,
4 COPY, 5 END), length, distance and bytes taken (R117); none while bytes are missing. -/
def parseToken (r : Bytes) : Option (Nat × Nat × Nat × Nat) :=
  match r with
  | [] => none
  | t :: _ =>
    let v := t.toNat
    let need := if v = 0xFE then 5 else if v = 0x7F ∨ v = 0xBF ∨ (0xC0 ≤ v ∧ v ≤ 0xFD) then 3 else 1
    if r.length < need then none
    else if v ≤ 0x3F then some (1, v + 1, 0, 1)
    else if v ≤ 0x7E then some (2, v - 0x3F, 0, 1)
    else if v = 0x7F then some (2, leAt r 1 2 + 64, 0, 3)
    else if v ≤ 0xBE then some (3, v - 0x7F, 0, 1)
    else if v = 0xBF then some (3, leAt r 1 2 + 64, 0, 3)
    else if v ≤ 0xFD then some (4, v - 0xBD, leAt r 1 2, 3)
    else if v = 0xFE then some (4, leAt r 1 2 + 65, leAt r 3 2, 5)
    else some (5, 0, 0, 1)

/-- Bytes that a token byte and its operands take (R117). -/
def tokenNeed (v : Nat) : Nat :=
  if v = 0xFE then 5 else if v = 0x7F ∨ v = 0xBF ∨ (0xC0 ≤ v ∧ v ≤ 0xFD) then 3 else 1

/-- Put out one byte. -/
def decPut (d : DecRegs) (b : Byte) : DecRegs := { d with hist := b :: d.hist, p := d.p + 1, crc := crc32cByte d.crc b }

/-- Run the decoder of a compressed block (R119) until `target` output bytes exist (and, at RAWLEN, END and RAWCRC
have passed), the ring is empty, or an error is met. DESIGN CHOICE (log 144): a line whose bytes are all there enters OUT although the token
that produced its last byte goes on into the next line. -/
def decRun (b rlen plen rawcrc target : Nat) : Nat → DecRegs → DecRegs × DecEnd
  | 0, d => (d, .wait)
  | fuel + 1, d =>
    if d.p = target ∧ target < rlen then (d, .line)
    else if 0 < d.tok.rem then
      let t := { d.tok with rem := d.tok.rem - 1 }
      match d.tok.kind with
      | 1 => (match d.ring with
        | [] => (d, .wait)
        | x :: r => decRun b rlen plen rawcrc target fuel { decPut d x with tok := t, ring := r, q := d.q + 1 })
      | 2 => decRun b rlen plen rawcrc target fuel { decPut d 0 with tok := t }
      | 3 => decRun b rlen plen rawcrc target fuel { decPut d (d.hist.getD (b - 1) 0) with tok := t }
      | _ => decRun b rlen plen rawcrc target fuel { decPut d (d.hist.getD (d.tok.dist - 1) 0) with tok := t }
    else if plen ≤ d.q then (d, .error 6 d.q d.p)
    else match d.ring with
      | [] => (d, .wait)
      | v :: _ =>
        if plen < d.q + tokenNeed v.toNat then (d, .error 6 d.q d.p)
        else match parseToken d.ring with
          | none => (d, .wait)
          | some (kind, len, dist, took) =>
            let q := d.q + took
            if kind = 5 then
              (if q ≠ plen then (d, .error 2 plen rlen)
               else if d.p ≠ rlen then (d, .error 5 d.q d.p)
               else if (d.crc ^^^ 0xFFFFFFFF#32).toNat ≠ rawcrc then ({ d with q := q, ring := d.ring.drop took }, .error 7 plen rlen)
               else ({ d with q := q, ring := d.ring.drop took }, .line))
            else if kind = 1 ∧ plen < q + len then (d, .error 6 d.q d.p)
            else if kind = 4 ∧ dist = 0 then (d, .error 2 d.q d.p)
            else if kind = 4 ∧ d.p < dist then (d, .error 3 d.q d.p)
            else if kind = 3 ∧ d.p < b then (d, .error 3 d.q d.p)
            else if rlen < d.p + len then (d, .error 4 d.q d.p)
            else decRun b rlen plen rawcrc target fuel { d with q := q, ring := d.ring.drop took, tok := ⟨kind, len, dist⟩ }

/-- Run through a raw block (R120). -/
def rawRun (rlen rawcrc target : Nat) : Nat → DecRegs → DecRegs × DecEnd
  | 0, d => (d, .wait)
  | fuel + 1, d =>
    if d.p = target then
      (if target < rlen then (d, .line)
       else if (d.crc ^^^ 0xFFFFFFFF#32).toNat ≠ rawcrc then (d, .error 7 rlen rlen) else (d, .line))
    else match d.ring with
      | [] => (d, .wait)
      | x :: r => rawRun rlen rawcrc target fuel { decPut d x with ring := r, q := d.q + 1 }

/-- The dot codes of a line (R114). -/
def lineCodes (depth width : Nat) (line : Bytes) : List Nat :=
  let v := leNat line
  (List.range width).map (fun j => (v >>> (j * depth)) % 2 ^ depth)

/-- The line within its block that the decoder of a strand produces next; after an error `outPos` holds it. The last line stays open until
END and RAWCRC have passed (R538). -/
def blockLine (l : Layer) (t : Strand) (lb : Nat) : Nat :=
  match t.badFrom with
  | some _ => t.outPos
  | none => if lb = 0 then 0 else min (t.hist.length / lb) (blockLines l t.block - 1)

/-- The line that the decoder of a strand produces next, counted in its layer. -/
def decLine (l : Layer) (t : Strand) (lb : Nat) : Nat := t.block * bHeight l + blockLine l t lb

/-- Bytes of the ring that the decoder needs for its next step: none for a token under way that reads no payload, or where an error is
known without them; 32 for a header; a token byte with its operands (R117, R119, R142). -/
def decNeed (t : Strand) : Nat :=
  if t.badFrom.isSome then 0
  else match t.hdr with
    | none => 32
    | some h =>
      let plen := leAt h 20 4
      if (byteAt h 3).testBit 7 ∨ (0 < t.token.rem ∧ t.token.kind = 1) then 1
      else if 0 < t.token.rem ∨ plen ≤ t.inPos then 0
      else match t.ring with
        | [] => 1
        | v :: _ => if plen < t.inPos + tokenNeed v.toNat then 1 else tokenNeed v.toNat

/-- What the decoder needs next stands in the ring. -/
def decHas (t : Strand) : Bool := decide (decNeed t ≤ t.ring.length)

/-- STATE of a strand: WAIT while it has a line to decode and the next byte that the decoder needs is not in the ring (R142). -/
def stateOf (s : State) (n : Nat) : StrandSt :=
  let t := strand s n
  if t.st = .idle then .idle
  else match decAt s n with
    | some (l, _) => if decide (t.block < nBlocks l) && !decHas t then .wait else t.st
    | none => t.st

/-- The end of a block: the next block, the next layer's block 0, or no more data (R140, R122). -/
def nextBlock (s : State) (n : Nat) (l : Layer) (left : Nat) (t : Strand) : Strand :=
  let drop := min left t.ring.length
  let t : Strand := { t with
    ring := t.ring.drop drop, skip := left - drop, block := t.block + 1, hdr := none, hist := [], outPos := 0, inPos := 0,
    token := ⟨0, 0, 0⟩, crcAcc := 0xFFFFFFFF, badFrom := none }
  if t.block < nBlocks l then t
  else
    let go := !t.decNext && (match t.nextLayer with
      | some x => (match layerOf s x with | some y => (stripeIdx y n).isSome | none => false)
      | none => false)
    if go then { t with decNext := true, block := 0 } else t

/-- The line of layer `x` with which a strand leaves layer `l` (R141): k' − coarse at the first trigger at which its line of `l`
would be at or beyond N; 0 while `x` is not on the grid after `l`. -/
def switchLine (s : State) (l x : Layer) : Nat :=
  if nextOnGrid s l.id = some x.id then l.lines + l.joined - x.joined else 0

/-- Seek ahead to line `lt` of NEXTLAYER, whose lines before it are the older layer's (R138, R141; log 115). -/
def seekAhead (n : Nat) (x : Layer) (lt : Nat) (s : State) : State :=
  let t := strand s n
  match stripeIdx x n with
  | none => s
  | some i =>
    let cur := decLine x t (lineBytes x i)
    let b := lt >>> x.hlog2
    let keep := t.block == b && t.inPos == 0 && t.hdr.isNone && t.skip == 0
    if lt ≤ cur + t.discard then s
    else
      let stale := fun (o : OutLine) => o.layer == x.id && decide (o.line < lt)
      let t0 : Strand := { t with
        block := b, discard := lt - b * bHeight x, token := ⟨0, 0, 0⟩, outPos := 0, inPos := 0, crcAcc := 0xFFFFFFFF, hdr := none,
        hist := [], badFrom := none, out := t.out.filter (fun o => !stale o), skip := 0, st := .seek }
      let t1 : Strand := if keep then t0 else { t0 with
        ring := [], reqs := [], fetchLayer := if x.lines ≤ lt then none else some x.id, fetchBlock := b, fetchByte := 0 }
      mStr (fun q => { q with cntDisc := q.cntDisc + w32 (t.out.filter stale).length }) (mStrand n (fun _ => t1) s)

/-- A strand that has fetched all of its layer looks ahead (R140, R141): NEXTLAYER as soon as there is one, the decoder passes to it
once it has finished its own layer, and seeks when the newer layer does not begin there with line 0. -/
def strandAhead (n : Nat) (s : State) : State :=
  let t := strand s n
  match t.layer with
  | none => s
  | some id => match layerOf s id with
    | none => s
    | some l =>
      let s := if t.fetchLayer.isNone && t.nextLayer.isNone && decide (t.st ≠ .idle) then
          mStrand n (fun t =>
            let u := takeNext s n id t
            if u.fetchLayer.isSome && t.ring.isEmpty && t.reqs.isEmpty && t.hdr.isNone && t.badFrom.isNone && t.discard == 0 then
              { u with decNext := true, block := 0 } else u) s
        else s
      let t := strand s n
      if !t.decNext then s
      else match t.nextLayer with
        | some y => (match layerOf s y with
          | some x => seekAhead n x (switchLine s l x) s
          | none => s)
        | none => s

/-- Give every active Idle strand its layer, and make every strand Idle that no layer keeps active (R135, R138). -/
def strandSync (s : State) : State :=
  each (fun n s =>
    let t := strand s n
    let live : Bool := match t.layer with
      | some id => (match layerOf s id with
        | some l => (decide (l.st = .printing) && !l.suspended) || (match headServes s with | some h => h.id == id | none => false)
          || (decide (l.st = .ready) && s.tow.queue.contains id) || (decide (l.st = .loading) && l.stream && s.tow.queue.contains id)
        | none => false)
      | none => false
    if !strandActive s n then mStrand n idleStrand s
    else if live then strandAhead n s
    else match stPrinting s, headServes s with
      | id :: _, _ => enterStrand n id s
      | [], some l => enterStrand n l.id s
      | [], none => mStrand n idleStrand s) (List.range 512) s

/-- The next byte that the strand decodes is byte 0 of a block object (R158). -/
def atBlockStart (t : Strand) : Bool := t.st == .idle || (t.hdr.isNone && t.inPos == 0 && t.badFrom.isNone)

/-- A strand has a line to decode: a free place in OUT or lines to discard, the bytes that it needs in the ring, and no codec stop at or
before the line (R122, R145). One that leaves its spool decodes no further block there (R158). -/
def decodable (s : State) (n : Nat) : Bool :=
  let t := strand s n
  strandActive s n && decide (t.st ≠ .idle) && (match decAt s n with
    | none => false
    | some (l, i) =>
      let ln := decLine l t (lineBytes l i)
      decide (t.block < nBlocks l) && (decide (t.out.length < 2) || decide (0 < t.discard) || decide (ln < t.nextLine && !t.decNext))
      && (match t.stopAt with | some (x, e) => !(x == l.id && decide (e ≤ ln)) | none => true)
      && decHas t && !(t.migrating && atBlockStart t))

/-- The class of a codec policy (R122). -/
def codecCls (l : Layer) : ErrClass := if l.codecStop then .stop else .fault

/-- Log a print-time decoder error and record it; of errors at one instant the lower-numbered stripe's record remains (R122, R123, R132,
R133). -/
def logDecode (l : Layer) (sidx b code e off : Nat) (s : State) : State :=
  let n := (nth l.stripes sidx (0, 0)).1
  let s := raise (codecCls l) (Err.decoder code) [code, l.id, n, b, e, off] s
  let late := fun (d : DecLast) => d.time == s.now && decide (d.stripe < n)
  mCmp (fun c => { c with
    decCnt := vmod c.decCnt code (· + 1)
    last := if c.lastValid && c.last.any late then c.last else some ⟨code, n, b, l.codecStop, e, off, l.id, s.now⟩
    lastValid := true }) s

/-- Deliver one produced line: discard it for a seek or when its release point has passed, or put it in OUT (R138,
R146). `codes` none stands for a line of code 0. -/
def putLine (n : Nat) (l : Layer) (width line : Nat) (codes : List Nat) (s : State) : State :=
  let t := strand s n
  let late := !t.decNext && decide (line < t.nextLine)
  if 0 < t.discard then
    mStr (fun x => { x with cntDisc := x.cntDisc + 1 })
      (mStrand n (fun t => { t with discard := t.discard - 1, st := if t.discard ≤ 1 then .run else .seek }) s)
  else if late then mStr (fun x => { x with cntDisc := x.cntDisc + 1 }) s
  else mStrand n (fun t => { t with out := t.out ++ [⟨l.id, line, codes.take width⟩], st := .run }) s

/-- The codec stop of an error at line `e` of a block: the block's first affected line that has not passed, if there is one (R122, R125,
R538). -/
def codecStopAt (l : Layer) (b e : Nat) (t : Strand) : Option (Nat × Nat) :=
  let ln := b * bHeight l + e
  let x := if t.layer = some l.id && !t.decNext then max ln t.nextLine else ln
  if l.codecStop && decide (x < b * bHeight l + blockLines l b) && !t.stopAt.any (fun y => y.1 == l.id && decide (y.2 ≤ x)) then some (l.id, x)
  else t.stopAt

/-- Meet a decoder error at error line `e` of the block, with line `k` the next to deliver (R122): the lines from `e` on are affected. -/
def decodeError (n : Nat) (l : Layer) (sidx code k e off : Nat) (s : State) : State :=
  let t := strand s n
  let s := logDecode l sidx t.block code e off s
  mStrand n (fun t => { t with badFrom := some e, outPos := k, stopAt := codecStopAt l t.block e t }) s

/-- Line `k` of a block whose affected lines begin at `e`: code 0; a line before `e` that an early END left without output holds codes that
the spec does not give (R122; log 129). -/
def badCodes (e k depth width : Nat) (s : State) : List Nat :=
  if e ≤ k then List.replicate width 0 else (List.range width).map (fun j => (Config.undecoded s.free j).toNat % 2 ^ depth)

/-- One turn of a spool on strand `n` (R145): one line is decoded, or the strand waits for data (R142). -/
def decodeTurn (n : Nat) (s : State) : State :=
  let t := strand s n
  match decAt s n with
  | none => s
  | some (l, i) =>
    let lb := lineBytes l i
    let width := (nth l.stripes i (0, 0)).2
    let total := match blockOf l i t.block with | some k => k.len | none => 0
    let lines := blockLines l t.block
    match t.badFrom with
    | some e =>
      let k := t.outPos
      let s := doIf (decide (k < e)) tickFree (putLine n l width (t.block * bHeight l + k) (badCodes e k l.depth width s) s)
      let s := mStrand n (fun t => { t with outPos := k + 1 }) s
      if lines ≤ k + 1 then
        let used := (if t.hdr.isSome then 32 else 0) + t.inPos
        mStrand n (nextBlock s n l (total - used)) s
      else s
    | none =>
      match t.hdr with
      | none =>
        if t.ring.length < 32 then s
        else
          let h := t.ring.take 32
          let s := mStrand n (fun t => { t with ring := t.ring.drop 32, hdr := some h, st := if 0 < t.discard then .seek else .run }) s
          match headerFault h l i t.block (if l.st = .printing then (segGeo s.fir.geo n).map (·.width) else none) with
          | some off => decodeError n l i 1 0 0 off s
          | none => s
      | some h =>
        let rlen := leAt h 16 4
        let plen := leAt h 20 4
        let rawcrc := leAt h 24 4
        let k := blockLine l t lb
        let target := min rlen ((k + 1) * lb)
        let d : DecRegs := ⟨t.hist, t.hist.length, t.inPos, t.token, t.crcAcc, t.ring⟩
        let fuel := target + t.ring.length + 8
        let r := if (byteAt h 3).testBit 7 then rawRun rlen rawcrc target fuel d else decRun lb rlen plen rawcrc target fuel d
        let d := r.1
        let s := mStrand n (fun t => { t with
          hist := d.hist, outPos := d.p, inPos := d.q, token := d.tok, crcAcc := d.crc, ring := d.ring }) s
        match r.2 with
        | .wait => s
        | .line =>
          let s := putLine n l width (t.block * bHeight l + k) (lineCodes l.depth width (d.hist.take lb).reverse) s
          if lines ≤ k + 1 then mStrand n (nextBlock s n l (total - 32 - d.q)) s else s
        | .error code off p => decodeError n l i code k (min (if lb = 0 then 0 else p / lb) (lines - 1)) off s

/-- The width check of R45 on what strand `n` had read of layer `l` before the layer started: the open block and the lines in OUT. -/
def widthCheck (l : Layer) (n : Nat) (s : State) : State :=
  match stripeIdx l n, segGeo s.fir.geo n with
  | some i, some x =>
    let t := strand s n
    let mine := fun (o : OutLine) => o.layer == l.id
    let here := decide ((if t.decNext then t.nextLayer else t.layer) = some l.id)
    let opened := here && t.hdr.isSome && t.badFrom.isNone
    let first := ((t.out.filter mine).map (fun o => o.line >>> l.hlog2)).head?
    if x.width = (nth l.stripes i (0, 0)).2 then s
    else
      let s := match first with
        | some b =>
          if opened && b == t.block then s
          else mStrand n (fun t => { t with stopAt := codecStopAt l b 0 t }) (logDecode l i b 1 0 14 s)
        | none => s
      let s := doIf opened (decodeError n l i 1 (blockLine l t (lineBytes l i)) 0 14) s
      mStrand n (fun t => { t with
        out := if l.codecStop then t.out.filter (fun o => !mine o)
          else t.out.map (fun o => if mine o then { o with codes := o.codes.map (fun _ => 0) } else o) }) s
  | _, _ => s

/-- Open the block first when its header stands in the ring, then decode one line (R145). -/
def spoolTurn (n : Nat) (s : State) : State :=
  if (strand s n).hdr.isNone && (strand s n).badFrom.isNone then decodeTurn n (decodeTurn n s) else decodeTurn n s

/-- Lines in present blocks from `ln` on, counting blocks `b`, `b + 1`, ... (R150). -/
def presentRun (l : Layer) (i : Nat) : Nat → Nat → Nat → Nat
  | 0, _, acc => acc
  | fuel + 1, b, acc => if b < nBlocks l ∧ isPresent l i b then presentRun l i fuel (b + 1) (acc + blockLines l b) else acc

/-- The data margin of strand `n` (R150). -/
def marginOf (s : State) (n : Nat) : Nat :=
  let t := strand s n
  match t.layer with
  | none => 0
  | some id => match layerOf s id with
    | none => 0
    | some l => match stripeIdx l n with
      | none => 65535
      | some i =>
        let b := t.nextLine / bHeight l
        let run := presentRun l i (nBlocks l) b 0
        if l.lines ≤ t.nextLine then 65535
        else if run = 0 then 0
        else
          let m := run - t.nextLine % bHeight l
          if l.lines ≤ t.nextLine + m then 65535 else min 65535 m

/-- Entry value of a level for block height `h` (R151). -/
def levelIn (h lev : Nat) : Nat := if lev = 1 then 2 * h else if lev = 2 then h else if lev = 3 then 64 else 0

/-- Exit value of a level (R151). -/
def levelOut (h lev : Nat) : Nat := levelIn h lev + h / 4

/-- The level of a strand after its margin has become `m` (R151). -/
def nextLevel (h cur m : Nat) : Nat :=
  match [3, 2, 1].find? (fun v => decide (cur < v) && decide (m < levelIn h v)) with
  | some v => v
  | none =>
    if cur = 0 ∨ m < levelOut h cur then cur
    else match [2, 1].find? (fun v => decide (v < cur) && decide (m < levelOut h v)) with
      | some v => v
      | none => 0

/-- A pace monitor on stages 5 to 8 reads below 256 (R20): the lowest such reading. -/
def paceShort (s : State) : Option Nat :=
  let l := ((s.sys.paceNow.toList.drop 16).map (·.toNat)).filter (· < 256)
  match l with
  | [] => none
  | a :: r => some (r.foldl min a)

/-- MINP of the ports with an enabled segment. -/
def enabledMinp (s : State) : List Nat := (geoPorts s.fir.geo).map (fun p => nth s.fir.geo.minp p 2000)

/-- Lines of a stripe that became present in the 8 ms before the latest tick (R153). -/
def recentLines (s : State) (n : Nat) : Nat :=
  sumN ((s.str.lineHist.take 8).map (fun t => sumN ((t.filter (fun x => x.1 == n)).map (·.2))))

/-- The sources of the advised speed that apply, with their codes (R153). -/
def speedSources (s : State) : List (Nat × Nat) :=
  let cpl := s.fir.geo.cpl
  let minps := enabledMinp s
  let act := (List.range 512).filter (fun n => strandActive s n && decide (1 ≤ (strand s n).level))
  let data := match act with
    | [] => []
    | a :: r => [(1, (r.map (fun n => recentLines s n * cpl / 32768)).foldl min (recentLines s a * cpl / 32768))]
  let pace := match paceShort s, minps with
    | some now, a :: r => [(2, cpl * 15625 * now / (128 * 256 * r.foldl min a))]
    | _, _ => []
  let fire := match minps with
    | a :: r => [(3, cpl * 15625 / (128 * r.foldl max a))]
    | [] => []
  (0, bits (actVal s (base 10 + 8)) 23 0) :: (data ++ pace ++ fire)

/-- Compute SPEED and SRC: the minimum, the lowest code on a tie (R153). -/
def speedAdvise (s : State) : State :=
  let b := (speedSources s).foldl (fun (m : Nat × Nat) x => if x.2 < m.2 then x else m) (0, 0xFFFFFFFFFFFF)
  mStr (fun t => { t with src := b.1, speed := min b.2 0xFFFFFF }) s

/-- The chip drives the advice outputs: unpaired, or the holder of the pair (R437). -/
def drivesAdvice (s : State) : Bool := !paired s || s.par.hitchOut

/-- SLOW_N and HOLD_N follow their conditions (R152, R155, R437). -/
def advicePins (s : State) : State :=
  let on := operational s && drivesAdvice s
  let slow := on && (decide (2 ≤ s.str.level) || (paceShort s).isSome || s.fir.ovs)
  let hold := on && decide (s.str.level = 3)
  let s' := if s.par.slow = slow then s else emit (.pin "SLOW_N" 0 slow) s
  let s' := if s.par.hold = hold then s' else emit (.pin "HOLD_N" 0 hold) s'
  mPar (fun t => { t with slow := slow, hold := hold }) s'

/-- Recompute margins and levels, the device level, and what follows from a change of it (R150 to R153). -/
def updateMargins (s : State) : State :=
  let s := each (fun n s =>
    let t := strand s n
    if strandActive s n && decide (t.st ≠ .idle) then
      let m := marginOf s n
      let h := match t.layer with
        | some id => (match layerOf s id with | some l => bHeight l | none => 64)
        | none => 64
      mStrand n (fun t => { t with margin := m, level := nextLevel h t.level m }) s
    else if t.margin = 0 ∧ t.level = 0 then s
    else mStrand n (fun t => { t with margin := 0, level := 0 }) s) (List.range 512) s
  let lev := maxNat (((List.range 512).filter (strandActive s)).map (fun n => (strand s n).level))
  let changed := decide (lev ≠ s.str.level)
  let s := mStr (fun t => { t with level := lev }) s
  advicePins (doIf changed speedAdvise s)

end Sys2Proof.Machine
end

