-- ==== Sys2Proof/Machine/Compress.lean ====
section
/-! DEFINITION. The two block compressors (R101 to R103, R127 to R131): the payload that a compressor puts out, and how far its chain
comes. -/

namespace Sys2Proof.Machine

/-- Compressor `c`. -/
def comp (s : State) (c : Nat) : Compressor := vget s.cmp.comps c idleComp

/-- Update compressor `c`. -/
def mComp (c : Nat) (f : Compressor → Compressor) (s : State) : State := mCmp (fun m => { m with comps := vmod m.comps c f }) s

/-- A payload decodes by R119 to the raw bytes `raw` of a block with `lb` bytes per line, and keeps the growth bound (R127). A COPY
reaches back at most 65 535 bytes by its encoding, so every distance lies in the history window. -/
def codecFits (lb : Nat) (raw p : Bytes) : Bool :=
  let n := raw.length
  let r := decRun lb n p.length (crc32c raw).toNat n (n + p.length + 8) ⟨[], 0, 0, ⟨0, 0, 0⟩, 0xFFFFFFFF, p⟩
  decide (p.length ≤ n + cdiv n 64 + 1) && decide (r.1.hist.reverse = raw) && (match r.2 with | .line => true | _ => false)

/-- LIT tokens of up to 64 bytes, and END (R117). -/
def literals : Nat → Bytes → Bytes
  | 0, _ => [0xFF]
  | _, [] => [0xFF]
  | fuel + 1, r => BitVec.ofNat 8 (min 64 r.length - 1) :: r.take 64 ++ literals fuel (r.drop 64)

/-- The output for a block: the fixed function of R127, held to what R127 says of every output. -/
def compCode (effort depth width lines lb : Nat) (raw : Bytes) : Bytes :=
  let p := Config.compress effort depth width lines raw
  if codecFits lb raw p then p else literals raw.length raw

/-- The payload that compressor `c` emits for its block (R127). -/
def compOut (s : State) (c : Nat) : Bytes :=
  match (comp s c).job with
  | none => []
  | some j => match layerOf s j.1 with
    | none => []
    | some l => compCode (bits (regVal s (base 11)) 1 0) l.depth (nth l.stripes j.2.1 (0, 0)).2 (blockLines l j.2.2)
        (lineBytes l j.2.1) (comp s c).raw

/-- How a compression goes: a saving becomes certain, the chain fills up, or END comes first (R128, R129). -/
inductive ChainEnd where
  | drain
  | full
  | raw
deriving DecidableEq, Repr

/-- Follow the emitted tokens: `i` raw bytes covered, `o` bytes put out; the end, with the raw bytes covered by then (R128, R129). Both
conditions are judged when a token has been put out whole, and the saving goes before the full chain (log 128). -/
def chainRun (rlen : Nat) : Nat → Bytes → Nat → Nat → ChainEnd × Nat
  | 0, _, i, _ => (.raw, i)
  | fuel + 1, p, i, o =>
    if cdiv (rlen - i) 64 + 1 + o < i then (.drain, i)
    else if 65536 ≤ o then (.full, i)
    else match parseToken p with
      | none => (if o < rlen then .drain else .raw, i)
      | some (kind, len, _, took) =>
        if kind = 5 then (if o + took < rlen then .drain else .raw, i)
        else
          let k := if kind = 1 then took + len else took
          chainRun rlen fuel (p.drop k) (i + len) (o + k)

/-- The end of compressor `c`'s work. -/
def chainEnd (s : State) (c : Nat) : ChainEnd × Nat :=
  let p := compOut s c
  chainRun (comp s c).raw.length (p.length + 1) p 0 0

/-- Compressor `c` comes to the end `e`, and has read the raw bytes that its tokens cover by then. -/
def chainAt (s : State) (c : Nat) (e : ChainEnd) : Bool := decide ((chainEnd s c).1 = e) && decide ((chainEnd s c).2 ≤ (comp s c).read)

/-- The header of a block that compressor `c` has compressed: RAW clear, the new PAYLEN and HDRCRC (R101, R130). -/
def compHeader (s : State) (c : Nat) : Bytes :=
  match (comp s c).job with
  | none => []
  | some j => match layerOf s j.1 with
    | none => []
    | some l =>
      let h := objBytes s l j.2.1 j.2.2 0 32
      let h := h.take 3 ++ [BitVec.ofNat 8 (byteAt h 3 % 128)] ++ (h.drop 4).take 16 ++ leBytes 4 (compOut s c).length ++ (h.drop 24).take 4
      h ++ leBytes 4 (crc32c h).toNat

end Sys2Proof.Machine
end

