-- ==== Sys2Proof/Machine/StageOps.lean ====
section
/-! DEFINITION. The input handshakes of the print path's stages under Waypost: halts, step credits and breakpoints
(R499 to R502). -/

namespace Sys2Proof.Machine

/-- Stage `k`, 1 to 8, is halted (R499). -/
def stageHalted (s : State) (k : Nat) : Bool := s.dbg.stages.getLsbD (k - 1)

/-- Stage `k` can take a token: it runs, or it is stepped (R499, R500). -/
def stageOpen (s : State) (k : Nat) : Bool := !stageHalted s k || decide (0 < vget s.dbg.steps (k - 1) 0)

/-- HALT of the stages of a mask (R499); in Faulted it sets HALTED only. -/
def opHalt (m : BitVec 8) (s : State) : State :=
  if s.sys.st = .faulted then mDbg (fun d => { d with halted := true }) s
  else
    let s := notice Err.dbgHalt [] (mDbg (fun d => { d with halted := true, stages := d.stages ||| m }) s)
    if s.sys.st = .printing then setDev .held s else s

/-- RESUME clears every halt (R501); the change to Printing is the caller's. -/
def opUnhalt (s : State) : State :=
  mDbg (fun d => { d with halted := false, stages := 0, steps := Vector.replicate 8 0, bpValid := false }) s

/-- Field `o` of breakpoint `n`. -/
def bpReg (s : State) (n o : Nat) : Word := regVal s (base 28 + 0x100 + 0x20 * n + o)

/-- Breakpoint `n` matches a token at stage `k` (R502). -/
def bpMatch (s : State) (n k layer id : Nat) (lc : Option Nat) : Bool :=
  let c := bpReg s n 0
  let i := bpReg s n 8
  bit c 31 && (bit c 25 || bits c 28 26 + 1 == k)
    && (!bit c 24 || (bpReg s n 4).toNat == layer)
    && (!bit c 23 || (decide (bits i 8 0 ≤ id) && decide (id ≤ bits i 24 16)))
    && (!bit c 22 || lc == some ((bpReg s n 0xC).toNat + 2 ^ 32 * bits (bpReg s n 0x10) 7 0))

/-- A token that a breakpoint does not hold, or no longer holds, is taken; a step credit is used (R500). -/
def takeToken (k : Nat) (f : State → State) (s : State) : State :=
  f (mDbg (fun d => { d with steps := if d.stages.getLsbD (k - 1) then vmod d.steps (k - 1) (· - 1) else d.steps }) s)

/-- A token reaches the input handshake of stage `k`: every matching breakpoint counts, and those of ACTION 0 and 1 halt, so
that the token stays unacknowledged until a resume or a step; otherwise `f` is what the stage does with it (R502). -/
def stageTake (k : Nat) (tok : List Nat) (layer id : Nat) (lc : Option Nat) (f : State → State) (s : State) : State :=
  if s.dbg.atBp.contains (k, tok) then takeToken k f (mDbg (fun d => { d with atBp := d.atBp.erase (k, tok) }) s)
  else
    let hit := (List.range 16).filter (fun n => bpMatch s n k layer id lc)
    let s := mDbg (fun d => { d with hits := each (fun n v => vmod v n (· + 1)) hit d.hits }) s
    let stops := hit.filter (fun n => decide (bits (bpReg s n 0) 30 29 ≤ 1))
    match stops with
    | [] => takeToken k f s
    | b :: _ =>
      let s := each (fun n s =>
        let s := notice Err.dbgBkpt [n, k, layer, id] s
        if bits (bpReg s n 0) 30 29 = 0 then opHalt ((regVal s (base 28 + 4)).setWidth 8) s
        else
          let s := mDbg (fun d => { d with halted := true, stages := d.stages ||| BitVec.ofNat 8 (2 ^ (k - 1)) }) s
          if s.sys.st = .printing then setDev .held s else s) stops s
      mDbg (fun d => { d with bpValid := true, bp := b, atBp := (k, tok) :: d.atBp }) s

end Sys2Proof.Machine
end

