-- ==== Sys2Proof/Machine/MemOps.lean ====
section
/-! DEFINITION. DRAM, banks and arbiters (11_memory): units and their owners (R323), rounds (R324, R325), the order
in which a channel issues (R308, R309), refresh (R312), ECC (R302), delay goals (R304), and the five bank operations
(R319 to R321). -/

namespace Sys2Proof.Machine

/-- Bytes of one channel (R299). -/
def chanBytes (s : State) : Nat := 536870912 * 2 ^ bits (regVal s (base 7)) 27 26

/-- Data bytes of one channel: rows 0 to 7 × Nr ÷ 8 − 1 (R300). -/
def chanData (s : State) : Nat := chanBytes s / 8 * 7

/-- Bank of a channel address (R300). -/
def caBank (ca : Nat) : Nat := ca / 2048 % 16

/-- Row of a channel address (R300). -/
def caRow (ca : Nat) : Nat := ca / 32768

/-- The 64-byte units that cover `n` bytes from a logical storage address: first byte of each part, its length. -/
def unitParts : Nat → Nat → Nat → List (Nat × Nat)
  | 0, _, _ => []
  | _, _, 0 => []
  | fuel + 1, a, n => let k := min (64 - a % 64) n; (a, k) :: unitParts fuel (a + k) (n - k)

/-- Queue a unit at its channel-pair arbiter (R308, R323). -/
def memEnq (u : MemUnit) (s : State) : State := mMem (fun m => { m with pend := m.pend ++ [u] }) s

/-- Read `n` bytes from a logical storage address. -/
def memRead (req tag : Nat) (panic : Bool) (a n : Nat) (s : State) : State :=
  each (fun p s => let (c, ca) := locate s p.1; memEnq ⟨req, c, ca, none, panic, 0, tag⟩ s) (unitParts (n + 1) a n) s

/-- Write bytes at a logical storage address. -/
def memWrite (req tag a : Nat) (d : Bytes) (s : State) : State :=
  each (fun p s =>
    let (c, ca) := locate s p.1
    let data := (d.drop (p.1 - a)).take p.2
    memEnq ⟨req, c, ca, some ((List.range data.length).map (fun i => (ca % 64 + i, data.getD i 0))), false, 0, tag⟩ s)
    (unitParts (d.length + 1) a d.length) s

/-- How many units `n` bytes from `a` take. -/
def unitCount (a n : Nat) : Nat := (unitParts (n + 1) a n).length

/-- Take a new owner's tag. -/
def takeTag (s : State) : State := mMem (fun m => { m with nextTag := m.nextTag + 1 }) s

/-- The Waypost access in progress ends (R497). -/
def wpEnd (status : Nat) (data : Word) (s : State) : State :=
  emit (.waypost status s.dbg.accAddr data) (mDbg (fun d => { d with accStatus := status, accData := data, accTag := none }) s)

/-- The data field of the result of an access that read nothing (R497; log 6). -/
def wpNoData (s : State) : Word := Config.wpNoData s.free

/-- The Waypost access in progress ends without its data, when its unit lies at a place `p` selects (R307, R316; log 55). -/
def wpLost (p : Nat → Bool) (s : State) : State :=
  match s.dbg.accTag with
  | some t => if p t then tickFree (wpEnd 2 (wpNoData s) s) else s
  | none => s

/-- `n` bytes of compressor `c` are read or written (R132). -/
def compMoved (c n : Nat) (rd : Bool) (s : State) : State :=
  let k := comp s c
  let m := if rd then min n (k.raw.length - k.read) else if k.hdr then 0 else n
  mCmp (fun x => { x with inBytes := if rd then x.inBytes + m else x.inBytes, outBytes := if rd then x.outBytes else x.outBytes + m })
    (mComp c (fun k => { k with left := k.left - 1, read := if rd then k.read + m else k.read }) s)

/-- The header follows the last payload byte (R130). -/
def headerQueue (c : Nat) (s : State) : State :=
  let k := comp s c
  match k.job with
  | none => s
  | some j => match layerOf s j.1 with
    | none => s
    | some l =>
      if k.draining && decide (k.left = 0) && !k.hdr then
        let a := lsaOf s l j.2.1 j.2.2 0
        memWrite (2 + c) k.tag a (compHeader s c) (mComp c (fun k => { k with hdr := true, left := unitCount a 32 }) s)
      else s

/-- A unit of compressor `c` is served, if `tag` is its own. -/
def compServed (tag n : Nat) (rd : Bool) (s : State) : State :=
  each (fun c s => if (comp s c).job.isSome && (comp s c).tag == tag then headerQueue c (compMoved c n rd s) else s) [0, 1] s

/-- A unit of an owner is served over `n` bytes: a strand's fetch, a fragment's write, a compressor's access, or Waypost's. -/
def tagServed (tag n : Nat) (got : Option (Nat × Bytes)) (s : State) : State :=
  let fetch (r : FetchReq) : FetchReq :=
    if r.tag == tag && decide (0 < r.left) then
      { r with left := r.left - 1, got := r.got ++ (match got with | some x => [x] | none => []) }
    else r
  let s := mStr (fun t => { t with strands := t.strands.map (fun x =>
    if x.reqs.any (fun r => r.tag == tag) then { x with reqs := x.reqs.map fetch } else x) }) s
  let s := mTow (fun t => { t with unwritten := t.unwritten.map (fun u =>
    if u.tag == tag then { u with left := u.left - 1 } else u) }) s
  let s := compServed tag n got.isSome s
  if s.dbg.accTag = some tag then
    match got with
    | some x => wpEnd 0 (w32 (leAt x.2 0 4)) s
    | none => tickFree (wpEnd 0 (wpNoData s) s)
  else s

/-- The configuration word of requester `m` of an instance (R327). -/
def arbCfg (s : State) (inst m : Nat) : Word :=
  if inst = 11 then actVal s (base 20 + 0x1038 + 0x40 * m) else actVal s (base 9 + 0x1000 + 0x100 * inst + 0x10 * m)

/-- BURST of a requester (R326). -/
def arbBurst (s : State) (inst m : Nat) : Nat := bits (arbCfg s inst m) 15 8 + 1

/-- A requester of an arbiter. -/
def arbReq (a : Arb) (m : Nat) : ArbReq := vget a.reqs m ⟨0, false, 0, 0, 0⟩

/-- The better of two candidates: the Urgent one that became so first, else by effective priority, age, number (R324). -/
def arbBetter (a : Arb) (eff : Nat → Nat) (m k : Nat) : Bool :=
  let x := arbReq a m
  let y := arbReq a k
  if x.urgent ≠ y.urgent then x.urgent
  else if x.urgent then (if x.urgSeq ≠ y.urgSeq then decide (x.urgSeq < y.urgSeq) else decide (m < k))
  else if eff m ≠ eff k then decide (eff k < eff m)
  else if x.age ≠ y.age then decide (y.age < x.age)
  else decide (m < k)

/-- The winner of a round (R324). -/
def arbWinner (a : Arb) (eff : Nat → Nat) (req : Nat → Bool) : Option Nat :=
  match (List.range 8).filter req with
  | [] => none
  | m :: r => some (r.foldl (fun b k => if arbBetter a eff k b then k else b) m)

/-- Ages after a round won by `w` (R325). -/
def arbAge (w : Nat) (req waits : Nat → Bool) (a : Arb) : Arb :=
  let win (r : ArbReq) : ArbReq :=
    { r with age := 0, urgent := false, grants := r.grants + 1, urg := if r.urgent then r.urg + 1 else r.urg }
  let a := { a with rounds := a.rounds + 1, reqs := vmod a.reqs w win }
  each (fun m (a : Arb) =>
    if m = w then a
    else
      let full := decide (4 ≤ (a.reqs.toList.filter (·.urgent)).length)
      let lose (r : ArbReq) : ArbReq :=
        if req m then
          (if r.urgent then r
           else if 15 ≤ r.age + 1 then (if full then { r with age := 14 } else { r with age := 15, urgent := true, urgSeq := a.rounds })
           else { r with age := r.age + 1 })
        else if waits m then r
        else { r with age := 0, urgent := false }
      { a with reqs := vmod a.reqs m lose }) (List.range 8) a

/-- A channel carries traffic: Online. -/
def chanOnline (s : State) (c : Nat) : Bool := decide ((chan s c).cstate = 0)

/-- The oldest unit of requester `m` at a channel-pair arbiter. -/
def nextUnit (s : State) (inst m : Nat) : Option MemUnit := s.mem.pend.find? (fun u => u.ch / 2 == inst && u.req == m)

/-- Requester `m` can take a grant: the channel of its next unit has a free entry (R323); in Faulted the print path is halted (R36). -/
def dramRequests (s : State) (inst m : Nat) : Bool :=
  match nextUnit s inst m with
  | some u => (dataRuns s || decide (4 ≤ m)) && decide ((chan s u.ch).queue.length < 32)
  | none => false

/-- Two units match (R309). -/
def unitMatch (u v : MemUnit) : Bool := u.ch == v.ch && u.ca / 64 == v.ca / 64

/-- A unit must wait behind an older one (R309). -/
def unitBlocks (old u : MemUnit) : Bool := unitMatch old u && (old.wr.isSome || u.wr.isSome)

/-- Move the next unit of a requester into its channel's queue; a read behind a matching write counts (R309). -/
def admitUnit (inst m : Nat) (s : State) : State :=
  match nextUnit s inst m with
  | none => s
  | some u =>
    let haz := u.wr.isNone && ((chan s u.ch).queue.any (fun o => o.wr.isSome && unitMatch o u)
      || (chan s u.ch).inflight.any (fun o => o.wr.isSome && o.ca / 64 == u.ca / 64))
    let s := mMem (fun t => { t with
      pend := t.pend.erase u
      cntHaz := if haz then t.cntHaz + 1 else t.cntHaz }) s
    mChan u.ch (fun c => { c with queue := c.queue ++ [u] }) s

/-- A grant at a channel-pair arbiter: up to `n` units for as long as the winner requests (R326). -/
def grantUnits (inst m : Nat) : Nat → State → State
  | 0, s => s
  | n + 1, s => if dramRequests s inst m then grantUnits inst m n (admitUnit inst m s) else s

/-- The effective priority at a channel-pair arbiter: 16 for a STRAND fetch whose next unit carries panic (R324). -/
def dramEff (s : State) (inst m : Nat) : Nat :=
  if m = 0 ∧ (match nextUnit s inst 0 with | some u => u.panic | none => false) = true then 16
  else bits (arbCfg s inst m) 3 0

/-- A round at a channel-pair arbiter, with its grant. -/
def dramRound (inst : Nat) (s : State) : State :=
  match arbWinner (arb s inst) (dramEff s inst) (dramRequests s inst) with
  | none => s
  | some w =>
    let waits := fun m => (nextUnit s inst m).isSome
    grantUnits inst w (arbBurst s inst w) (mArb inst (arbAge w (dramRequests s inst) waits) s)

/-- A round at an instance whose requesters are given: bank arbiters and the inspection pipeline. -/
def lineRound (inst : Nat) (req : Nat → Bool) (s : State) : State :=
  match arbWinner (arb s inst) (fun m => bits (arbCfg s inst m) 3 0) req with
  | none => s
  | some w =>
    let wait := BitVec.ofNat 8 (sumN ((List.range 8).map (fun m => b2n (req m) m)))
    let s := mArb inst (fun a => { arbAge w req req a with holder := some w, left := arbBurst s inst w, waiting := wait }) s
    if inst = 11 then s
    else mBank (inst - 4) (fun b => { b with conf := each (fun m v =>
      if req m && m ≠ w then vmod v m (· + 1) else v) (List.range 4) b.conf }) s

/-- Units of a queue with what stands before each of them. -/
def withOlder : List MemUnit → List MemUnit → List (MemUnit × List MemUnit)
  | _, [] => []
  | old, u :: r => (u, old) :: withOlder (old ++ [u]) r

/-- The row open in a bank of a channel; it closes 200 ns after its last access (R308). -/
def openRow (s : State) (c : MemChan) (bk : Nat) : Option Nat :=
  (c.open_.find? (fun x => x.1 == bk && decide (s.now ≤ x.2.2 + 2000))).map (fun x => x.2.1)

/-- The queue unit that a channel issues next (R308 steps 2 to 4, R309); in Faulted the print path's units stay queued (R36). -/
def pickUnit (s : State) (c : MemChan) : Option MemUnit :=
  let busy := c.inflight.filterMap (fun f => if f.wr.isSome then some (f.ca / 64) else none)
  let free := ((withOlder [] c.queue).filter (fun x =>
    (dataRuns s || decide (4 ≤ x.1.req)) && !(x.2.any (fun o => unitBlocks o x.1)) && !(busy.contains (x.1.ca / 64)))).map (·.1)
  match free.find? (fun u => u.panic && u.wr.isNone) with
  | some u => some u
  | none =>
    match free.find? (fun u => decide (16 ≤ u.passed)) with
    | some u => some u
    | none =>
      match free.find? (fun u => openRow s c (caBank u.ca) == some (caRow u.ca)) with
      | some u => some u
      | none => free.head?

/-- What a channel can do next (R308). -/
inductive ChanAct where
  | refresh (ahead : Bool)
  | unit (u : MemUnit)
  | scrub
  | writeBack
  | idle

/-- A read with panic stands in the channel's queue (R312, R314). -/
def panicQueued (c : MemChan) : Bool := c.queue.any (fun u => u.panic && u.wr.isNone)

/-- A scrub read is due: the pass over all data takes PERIOD hours, evenly spread (R314; log 9). -/
def scrubDue (s : State) (c : MemChan) : Bool :=
  decide (0 < bits (regVal s (base 7 + 0x10)) 7 0) && decide (s.sys.st ≠ .faulted) && decide (c.scrubAt ≤ s.now) && !panicQueued c

/-- The order of R308. -/
def chanNext (s : State) (ch : Nat) : ChanAct :=
  let c := chan s ch
  if s.mem.frozen || !chanOnline s ch then .idle
  else if c.forced && decide (0 < c.postponed) then .refresh false
  else match (if stageOpen s 3 then pickUnit s c else none) with
    | some u => .unit u
    | none =>
      if 0 < c.refDue then .refresh false
      else if scrubDue s c then .scrub
      else if !c.wback.isEmpty then .writeBack
      else if c.queue.isEmpty && decide (c.postponed = 0) && decide (c.pulled < 128) then .refresh true
      else .idle

/-- Issue a per-bank refresh (R312): the bank's row closes. -/
def issueRefresh (ch : Nat) (s : State) : State :=
  let c := chan s ch
  emit (.dram ch "REFpb" c.refBank) (mChan ch (fun c => { c with
    refBank := (c.refBank + 1) % 16, open_ := c.open_.filter (fun x => x.1 != c.refBank) }) s)

/-- A bank's row is open from now on. -/
def touchRow (now bk row : Nat) (c : MemChan) : MemChan :=
  { c with open_ := (bk, row, now) :: c.open_.filter (fun x => x.1 != bk) }

/-- The 64 bytes of a unit. -/
def unitBytes (c : MemChan) (ca : Nat) : Bytes := (List.range 64).map (fun i => spGet 0 c.data (ca / 64 * 64 + i))

/-- The check byte's place of the data word at `ca` (R301). -/
def checkCa (s : State) (ca : Nat) : Nat :=
  let w := caRow ca
  (chanData s / 32768 + w / 8) * 32768 + caBank ca * 2048 + w % 8 * 256 + ca % 2048 / 8

/-- The check bytes of a unit are accessed; reads of the same 256 check bytes one after the other are one access (R301). -/
def checkAccess (ch ca : Nat) (wr : Bool) (s : State) : State :=
  let k := checkCa s (ca / 64 * 64)
  if !wr && (chan s ch).chk == some (k / 256) then s
  else emit (.dram ch (if wr then "WRC" else "RDC") k) (mChan ch (fun c => { c with chk := some (k / 256) }) s)

/-- The aligned 8-byte data word that holds `ca`. -/
def dataWord (s : State) (ch ca : Nat) : BitVec 64 :=
  BitVec.ofNat 64 (leNat ((List.range 8).map (fun i => spGet 0 (chan s ch).data (ca / 8 * 8 + i))))

/-- The check byte that the check rows hold at `a`: it covers one data word, with which it is always written (R301, R302). -/
def checkAt (s : State) (ch a : Nat) : Byte :=
  let w := (caRow a - chanData s / 32768) * 8 + a % 2048 / 256
  let ca := w * 32768 + caBank a * 2048 + a % 256 * 8
  Config.checkByte (dataWord s ch ca) (BitVec.ofNat 29 (ca / 8))

/-- Bits set in a number below 2^64. -/
def popCount (n : Nat) : Nat := ((List.range 64).filter (fun i => n.testBit i)).length

/-- The bits of word `w` that an access finds wrong. -/
def flipAt (fl : List Flip) (w : Nat) : Flip :=
  match fl.find? (fun f => f.word == w) with | some f => f | none => ⟨w, 0, 0, 0⟩

/-- Wrong bits of a word: data and check bits, and address bits. -/
def flipBits (f : Flip) : Nat × Nat := (popCount f.data.toNat + popCount f.check.toNat, popCount f.addr.toNat)

/-- The code corrects the word: one data or check bit is wrong (R302). -/
def flipSingle (f : Flip) : Bool := flipBits f == (1, 0)

/-- The code finds the word uncorrectable: an address bit, or two or more bits (R302). -/
def flipBad (f : Flip) : Bool := decide (0 < (flipBits f).2) || decide (2 ≤ (flipBits f).1)

/-- What the ECC finds in an access that touches `n` words (R302, R321). -/
def eccOf (n : Nat) (fl : List Flip) : Ecc :=
  match (List.range n).find? (fun w => flipBad (flipAt fl w)) with
  | some w => let f := flipAt fl w; .uncorrectable w (Config.syndrome f.data f.check f.addr)
  | none => match ((List.range n).filter (fun w => flipSingle (flipAt fl w))).length with
    | 0 => .clean
    | k => .single k

/-- Bytes written into a unit of a channel. -/
def writeUnit (ch ca : Nat) (w : List (Nat × Byte)) (s : State) : State :=
  mChan ch (fun c => { c with data := each (fun x d => spSet 0 d (ca / 64 * 64 + x.1) x.2) w c.data }) s

/-- Issue a queue unit: a whole-unit write is complete, a read is under way, and a write of less than a unit reads
its unit first (R301, R310, R311). -/
def issueUnit (ch : Nat) (u : MemUnit) (s : State) : State :=
  let pass (q : List MemUnit) : List MemUnit :=
    (q.takeWhile (· != u)).map (fun x => { x with passed := x.passed + 1 }) ++ (q.dropWhile (· != u)).drop 1
  let s := mChan ch (fun c => touchRow s.now (caBank u.ca) (caRow u.ca) { c with queue := pass c.queue }) s
  let s := mMem (fun m => { m with cntPanic := if u.panic then m.cntPanic + 1 else m.cntPanic }) s
  match u.wr with
  | some w =>
    if 64 ≤ w.length then tagServed u.tag 64 none (checkAccess ch u.ca true (emit (.dram ch "WR" u.ca) (writeUnit ch u.ca w s)))
    else mChan ch (fun c => { c with inflight := c.inflight ++ [⟨u.req, u.ca, unitBytes c u.ca, u.tag, u.panic, some w⟩] })
      (checkAccess ch u.ca false (emit (.dram ch "RD" u.ca) s))
  | none =>
    mChan ch (fun c => { c with inflight := c.inflight ++ [⟨u.req, u.ca, unitBytes c u.ca, u.tag, u.panic, none⟩] })
      (checkAccess ch u.ca false (emit (.dram ch "RD" u.ca) s))

/-- Interval between scrub reads of a channel, in the unit of `now` (R314; log 9). -/
def scrubStep (s : State) : Nat := bits (regVal s (base 7 + 0x10)) 7 0 * 36000000000000 / (chanData s / 64 + 1) + 1

/-- Freeze the controller (R315). -/
def memFreeze (cause ch req syn ca : Nat) (s : State) : State :=
  if s.mem.frozen then s
  else wpLost (fun _ => true) <| mMem (fun m => { m with
    frozen := true
    err0 := w32 (2 ^ 31 + cause * 2 ^ 29 + ch * 2 ^ 26 + req * 2 ^ 23 + syn * 256)
    err1 := w32 ca }) s

/-- The channel issues what comes next; `cmdBad` is the checker's verdict (R308, R315). -/
def dramIssue (ch : Nat) (cmdBad : Bool) (s : State) : State :=
  let act := chanNext s ch
  let t := match act with
    | .refresh ahead =>
      let s := issueRefresh ch s
      mChan ch (fun c =>
        if ahead then { c with pulled := c.pulled + 1 }
        else if c.forced then { c with postponed := c.postponed - 1, forced := decide (1 < c.postponed) }
        else { c with refDue := c.refDue - 1 }) s
    | .unit u => issueUnit ch u s
    | .scrub =>
      let ca := (chan s ch).scrub
      let s := checkAccess ch ca false (emit (.dram ch "SCRUB" ca) s)
      mChan ch (fun c => { touchRow s.now (caBank ca) (caRow ca) c with
        inflight := c.inflight ++ [⟨7, ca, unitBytes c ca, 0, false, none⟩]
        scrub := if ca + 64 < chanData s then ca + 64 else 0
        scrubAt := c.scrubAt + scrubStep s }) s
    | .writeBack =>
      let ca := match (chan s ch).wback with | a :: _ => a | [] => 0
      checkAccess ch ca true <| emit (.dram ch "WB" ca) (mChan ch (fun c => { touchRow s.now (caBank ca) (caRow ca) c with wback := c.wback.drop 1 }) s)
    | .idle => s
  if cmdBad then
    let (req, ca) := match act with | .unit u => (u.req, u.ca) | .scrub => (7, (chan s ch).scrub) | _ => (0, 0)
    raise .fatal Err.memCmdchk [ch, req, 0, ca] (memFreeze 2 ch req 0 ca t)
  else t

/-- The layer and stripe whose access a unit is, 0 for the host's and the debug port's. -/
def tagOwner (s : State) (tag : Nat) : Nat × Nat :=
  match s.tow.unwritten.find? (fun u => u.queued && u.tag == tag) with
  | some u => (u.layer, match layerOf s u.layer with | some l => (nth l.stripes u.sidx (0, 0)).1 | none => 0)
  | none => match s.cmp.comps.toList.find? (fun k => k.job.isSome && k.tag == tag) with
    | some k => (match k.job with
      | some j => (j.1, match layerOf s j.1 with | some l => (nth l.stripes j.2.1 (0, 0)).1 | none => 0)
      | none => (0, 0))
    | none => match (List.range 512).find? (fun n => (strand s n).reqs.any (fun r => r.tag == tag)) with
      | some n => (match (strand s n).reqs.find? (fun r => r.tag == tag) with | some r => (r.layer, n) | none => (0, n))
      | none => (0, 0)

/-- Whether `dramIssue` has something to issue. -/
def dramCan (s : State) (ch : Nat) : Bool := match chanNext s ch with | .idle => false | _ => true

/-- The words of a unit at `ca` that the code corrects: counted, to be written back, and told (R302). -/
def wordsFixed (ch ca : Nat) (fl : List Flip) (s : State) : State :=
  let fixed := ((List.range 8).filter (fun w => flipSingle (flipAt fl w))).map (fun w => ca / 64 * 64 + 8 * w)
  if fixed.isEmpty then s
  else raiseLim .notice Err.memCe ch (ms 1) [] (mMem (fun m => { m with cntCe := m.cntCe + w32 fixed.length })
    (mChan ch (fun c => { c with ce := c.ce + w32 fixed.length, wback := c.wback ++ fixed }) s))

/-- The oldest read under way on a channel returns (R302). A write of less than a unit whose read returns in a freeze stays
queued, since no command issues (R316). -/
def dramReturn (ch : Nat) (fl : List Flip) (s : State) : State :=
  match (chan s ch).inflight with
  | [] => s
  | f :: _ =>
    let s := wordsFixed ch f.ca fl (mChan ch (fun c => { c with inflight := c.inflight.drop 1 }) s)
    match eccOf 8 fl with
    | .uncorrectable w syn =>
      let ca := f.ca / 64 * 64 + 8 * w
      raise .fatal Err.memUe [ch, f.req, syn.toNat, ca] (memFreeze 1 ch f.req syn.toNat ca s)
    | _ =>
      match f.wr with
      | some w =>
        if s.mem.frozen then mChan ch (fun c => { c with queue := ⟨f.req, ch, f.ca, some w, f.panic, 0, f.tag⟩ :: c.queue }) s
        else tagServed f.tag w.length none (checkAccess ch f.ca true (emit (.dram ch "WR" f.ca) (writeUnit ch f.ca w s)))
      | none => if f.req = 7 then s else tagServed f.tag (64 - f.ca % 64) (some (f.ca, f.data.drop (f.ca % 64))) s

/-- A per-bank refresh falls due: issued, postponed behind a panic read, or skipped against one pulled in (R312, R316). -/
def refreshFalls (ch : Nat) (s : State) : State :=
  let c := chan s ch
  if s.mem.frozen then issueRefresh ch s
  else if 0 < c.pulled then mChan ch (fun c => { c with pulled := c.pulled - 1 }) s
  else if panicQueued c && !c.forced && decide (c.postponed < 128) then
    mChan ch (fun c => { c with postponed := c.postponed + 1, forced := decide (127 ≤ c.postponed) }) s
  else if c.queue.isEmpty && decide (c.refDue = 0) then issueRefresh ch s
  else mChan ch (fun c => { c with refDue := c.refDue + 1 }) s

/-- Delay sets of a channel (R303). -/
def chanSets (s : State) (ch : Nat) : List DelaySet :=
  match s.mem.sets.find? (fun x => x.1 == ch) with | some x => x.2 | none => []

/-- The bracket at temperature `t` (R304). -/
def bracketOf (sets : List DelaySet) (t : Int) : Nat × Nat :=
  let n := sets.length
  if n ≤ 1 ∨ t ≤ (nth sets 0 ⟨0, []⟩).temp then (0, 0)
  else if (nth sets (n - 1) ⟨0, []⟩).temp ≤ t then (n - 1, n - 1)
  else
    let lo := (List.range n).foldl (fun b i => if (nth sets i ⟨0, []⟩).temp ≤ t then i else b) 0
    (lo, lo + 1)

/-- Field `i` of a set; fields 2 to 5 are the delays that take a verify offset (R303). -/
def setField (d : DelaySet) (i : Nat) : Int := ((nth d.f i 0 : Nat) : Int)

/-- The delay goals of a channel at temperature `t` (R304). -/
def delayGoals (sets : List DelaySet) (t vofs0 vofs1 : Int) : List Int :=
  let (lo, hi) := bracketOf sets t
  let a := nth sets lo ⟨0, []⟩
  let b := nth sets hi ⟨0, []⟩
  (List.range 10).map (fun i =>
    let v := if lo = hi then setField a i
      else setField a i + divRound ((setField b i - setField a i) * (t - a.temp)) (b.temp - a.temp)
    if i = 2 ∨ i = 4 then clampInt 0 255 (v + vofs0) else if i = 3 ∨ i = 5 then clampInt 0 255 (v + vofs1) else v)

/-- Recompute a channel's bracket and goals (R304). -/
def delayUpdate (ch : Nat) (s : State) : State :=
  let c := chan s ch
  let sets := chanSets s ch
  let (lo, hi) := bracketOf sets c.temp
  mChan ch (fun c => { c with lo := lo, hi := hi, goal := delayGoals sets c.temp c.vofs0 c.vofs1 }) s

/-- Channels not Offline as a mask. -/
def onlineMask (s : State) : BitVec 8 :=
  BitVec.ofNat 8 (sumN ((List.range 8).map (fun c => b2n (decide ((chan s c).cstate ≤ 1)) c)))

/-- U of R105 in bytes over the channels of a mask. -/
def usable (s : State) (m : BitVec 8) : Nat := (onlineChans m).length * chanData s

/-- Recompute placement from the channels not Offline (R105, R108, R109). -/
def placeUpdate (s : State) : State :=
  let m := onlineMask s
  { s with plc := ⟨m, if slotSize s = 0 then 0 else min 64 (usable s m / slotSize s)⟩ }

/-- Capacity falls short (R306, R307). -/
def capacityShort (s : State) : Bool :=
  let m := onlineMask s
  decide (usable s m < bits (regVal s (base 7 + 4)) 23 0 * 1048576) || (onlineChans m).isEmpty

/-- A channel goes Offline: its requests are discarded (R307). -/
def chanOffline (ch : Nat) (s : State) : State :=
  let mine := fun (t : Nat) => s.mem.pend.any (fun u => u.ch == ch && u.tag == t) || (chan s ch).queue.any (fun u => u.tag == t)
    || (chan s ch).inflight.any (fun f => f.tag == t)
  let s := wpLost mine s
  arbDropped <| mMem (fun m => { m with pend := m.pend.filter (fun u => u.ch != ch) })
    (mChan ch (fun c => { c with cstate := 2, queue := [], inflight := [], wback := [], ver := none, verWant := false }) s)

/-- One step of the LFSR x^31 + x^28 + 1 (R305; log 132). -/
def lfsrStep (x : Nat) : Nat := (2 * x + (x / 2 ^ 30 + x / 2 ^ 27) % 2) % 2 ^ 31

/-- Bytes of the LFSR: the low 8 bits, then 8 steps on (R305; log 132). -/
def lfsrBytes : Nat → Nat → Bytes
  | 0, _ => []
  | n + 1, x => BitVec.ofNat 8 (x % 256) :: lfsrBytes n ((List.range 8).foldl (fun x _ => lfsrStep x) x)

/-- The pattern of a channel's verify rows (R305). -/
def verifyRow (ch : Nat) : Bytes := lfsrBytes 2048 (ch + 1)

/-- A lane's bytes of the pattern: each lane is one byte of the 16-bit channel (R303, R305). -/
def verifyLane (ch k : Nat) : Bytes :=
  let r := verifyRow ch
  (List.range 1024).map (fun i => r.getD (2 * i + k) 0)

/-- The trial offsets in their order (R305). -/
def trialOffset (i : Nat) : Int := nth [0, 1, -1, 2, -2, 3, -3, 4, -4] i 0

/-- Size of a bank in bytes (R318). -/
def bankSize (b : Nat) : Nat := nth [4194304, 1572864, 2097152, 1048576, 2097152, 1048576, 524288] b 0

/-- Requesters of a bank (R318). -/
def bankReqs (b : Nat) : Nat := arbReqs (b + 4)

/-- A bank access is refused: counted and logged (R320). -/
def bankRefuse (b : Nat) (s : State) : State :=
  raiseLim .notice Err.bnkAlign b (ms 1) [] (mBank b (fun k => { k with align := k.align + 1 }) s)

/-- What a bank access does with the outcome of its check bits; `f` is the access itself (R321). An uncorrectable word is
not delivered. -/
def bankEcc (b o : Nat) (e : Ecc) (f : State → State) (s : State) : State :=
  match e with
  | .clean => f s
  | .single k => f (raiseLim .notice Err.bnkCe b (ms 1) [] (mBank b (fun x => { x with ce := x.ce + w32 k }) s))
  | .uncorrectable w _ =>
    let at_ := (o / 8 + w) * 8
    raise .fatal Err.bnkUe [b, at_] (mBank b (fun k => { k with ue := match k.ue with | some x => some x | none => some at_ }) s)

/-- The words that `n` bytes at `o` touch. -/
def wordsOf (o n : Nat) : Nat := cdiv (o % 8 + n) 8

/-- The access of requester `r` takes one unit of a grant: of the one it holds, else of a round that it wins against those that wait. An
access in order by `r` says that a holder has no unit ready, and that a requester which would win has withdrawn (R323 to R326; log 10). -/
def bankGrant (b r : Nat) (s : State) : State :=
  let a := arb s (b + 4)
  let served := fun (w : BitVec 8) => w &&& ~~~ BitVec.ofNat 8 (2 ^ r)
  if a.holder = some r then
    mArb (b + 4) (fun a => { a with left := a.left - 1, holder := if a.left ≤ 1 then none else a.holder, waiting := served a.waiting }) s
  else
    let base := fun m => bits (arbCfg s (b + 4) m) 3 0
    let others := fun m => a.waiting.getLsbD m && decide (a.holder ≠ some m) && !arbBetter a base m r
    mArb (b + 4) (fun a => { a with holder := none, left := 0, waiting := served a.waiting })
      (lineRound (b + 4) (fun m => m == r || others m) s)

/-- Answer a bank access. -/
def bankAnswer (b r : Nat) (d : Option Bytes) (s : State) : State := emit (.bank b r d) s

/-- A bank operation at `o` over `n` bytes with alignment `al` by requester `r`: granted, checked, done (R319 to R321). -/
def bankOp (b r o n al : Nat) (fl : List Flip) (f : State → State) (s : State) : State :=
  let s := bankGrant b r s
  let e := eccOf (wordsOf o n) fl
  if o % al ≠ 0 ∨ bankSize b < o + n then bankAnswer b r none (bankRefuse b s)
  else match e with
    | .uncorrectable _ _ => bankAnswer b r none (bankEcc b o e f s)
    | _ => bankEcc b o e f s

/-- The word that an add leaves at a bank offset, saturating or wrapping (R319). -/
def bankSum (s : State) (b o : Nat) (sat : Bool) (v : Nat) : Bytes :=
  let x := bankWord s b o 4 + v
  leBytes 4 (if sat then min x 0xFFFFFFFF else x % 2 ^ 32)

/-- 32-bit add at a bank word (R319). -/
def bankAddAt (b o : Nat) (sat : Bool) (v : Nat) (s : State) : State := bankPut b o (bankSum s b o sat v) s

end Sys2Proof.Machine
end

