-- ==== Sys2Proof/Machine/Lanes.lean ====
section
/-! DEFINITION. What the transmitters of the head lanes and the tether send: symbols, ordered sets, frames between SOF and EOF
(R241 to R245, R250, R257, R424). -/

namespace Sys2Proof.Machine

/-- K28.5, the comma that begins every ordered set (R242). -/
def comma : Sym := .k 0xBC

/-- GUL_PORTn_CTL. -/
def gulCtl (s : State) (p : Nat) : Word := regVal s (base 18 + 0x1000 + 0x40 * p)

/-- RATE code of a lane: that of its port (R241); the tether runs at 6.25 Gbaud (R422). -/
def laneRate (s : State) (l : Nat) : Nat := if l < 64 then bits (gulCtl s l) 1 0 else 3

/-- Symbols on a lane, at its rate and with the transmit polarity of TXINV (R250). -/
def laneOut (s : State) (l : Nat) (syms : List Sym) : Output := .lane l (laneRate s l) (decide (l < 64) && bit (gulCtl s l) 29) syms

/-- Send symbols on a lane. -/
def laneSend (l : Nat) (syms : List Sym) (s : State) : State := emit (laneOut s l syms) s

/-- TS1, or with `two` TS2, of a lane (R243): LINK is the port number, 0xFE on the tether (R422). -/
def trainSet (s : State) (l : Nat) (two : Bool) : List Sym :=
  let d : Sym := .d (if two then 0x45 else 0x4A)
  [comma, d, .d (if l < 64 then BitVec.ofNat 8 l else 0xFE), .d (BitVec.ofNat 8 (laneRate s l)), .d 0, .d 1, d, d]

/-- The fast-exit burst: four TS1 (R245). -/
def fastExit (s : State) (l : Nat) : List Sym := trainSet s l false ++ trainSet s l false ++ trainSet s l false ++ trainSet s l false

/-- IDLE (R243). -/
def idleSet : List Sym := [comma, .k 0x1C, .d 0, .d 0, .d 0, .d 0, .d 0, .d 0]

/-- A frame on a lane: SOF, its bytes, EOF, and the ordered set that follows (R242, R244, R257). -/
def frameSyms (f : Bytes) : List Sym := .k 0xFB :: f.map .d ++ .k 0xFD :: idleSet

/-- Send a frame on a head lane. -/
def gulOut (p : Nat) (f : Bytes) (s : State) : State := laneSend p (frameSyms f) s

/-- One shift of the ALIGN scrambler x^16 + x^5 + x^4 + x^3 + 1 (R243; log 133). -/
def scrStep (x : BitVec 16) : BitVec 16 := (x <<< 1) ^^^ (if x.getLsbD 15 then 0x39 else 0)

/-- `n` bytes of the scrambler, bit 0 of each first, and its state after them. -/
def scrBytes : Nat → BitVec 16 → Bytes × BitVec 16
  | 0, x => ([], x)
  | n + 1, x =>
    let st := (List.range 8).map (fun i => iterate (fun y => some (scrStep y)) i x)
    let r := scrBytes n (iterate (fun y => some (scrStep y)) 8 x)
    (BitVec.ofNat 8 (sumN (st.zipIdx.map (fun y => b2n (y.1.getLsbD 15) y.2))) :: r.1, r.2)

/-- ALIGN of a scrambler state (R243). -/
def alignSet (x : BitVec 16) : List Sym := comma :: .k 0x3C :: (scrBytes 6 x).1.map .d

/-- Every other byte from the first. -/
def evens : Bytes → Bytes
  | [] => []
  | [a] => [a]
  | a :: _ :: r => a :: evens r

/-- A tether frame striped over the two lanes (R424). -/
def tethOut (f : Bytes) : Output :=
  .tether (frameSyms (evens f)) (frameSyms (evens (f.drop 1) ++ (if f.length % 2 = 1 then [0] else [])))

/-- A head lane's transmitter is out of electrical idle: its port is enabled and, unless blind, between no two attempts (R245, R254). -/
def portSends (s : State) (p : Nat) : Bool :=
  let h := headPort s p
  match h.st with
  | .disabled => false
  | .detect => !h.waiting || bit (gulCtl s p) 30
  | _ => true

/-- Every transmitter enters electrical idle (R245). -/
def lanesIdle (s : State) : State :=
  let s := each (fun p s => if portSends s p then emit (.idle p) s else s) (List.range 64) s
  each (fun (l : Nat) s =>
    let t := vget s.par.lanes l ⟨.disabled, false, false, false, 0xFFFF⟩
    if t.st = .disabled ∨ (t.st = .detect ∧ t.waiting = true) then s else emit (.idle (64 + l)) s) [0, 1] s

end Sys2Proof.Machine
end

