-- ==== Sys2Proof/Machine/PairOps.lean ====
section
/-! DEFINITION. Operations of a pair that the print path needs (15_pairing): tether messages (R424 to R426), claim words
and shadow marking (R272, R415, R431), READY (R421). -/

namespace Sys2Proof.Machine

/-- A tether frame: header, body and CRC-32C (R258, R424). -/
def tethFrame (ty seq : Nat) (body : Bytes) : Bytes :=
  let h := leBytes 1 ty ++ leBytes 1 0 ++ leBytes 2 seq ++ leBytes 2 body.length ++ body
  h ++ leBytes 4 (crc32c h).toNat

/-- The TSEQ after `n` (R426). -/
def nextTseq (n : Nat) : Nat := if n = 65535 then 1 else n + 1

/-- Send a message over the tether (R426). One that finds the tether down for a resynchronisation waits unacknowledged; one
that finds it never up is not sent (log 14). -/
def tetherSend (ty : Nat) (body : Bytes) (s : State) : State :=
  if !paired s || (!s.par.tethUp && decide (s.par.txSeq = 0)) then s
  else
    let q := nextTseq s.par.txSeq
    let s := mPar (fun p => { p with txSeq := q, unacked := p.unacked ++ [(q, s.now, leBytes 1 ty ++ body)] }) s
    if s.par.tethUp then emit (tethOut (tethFrame ty q body)) s else s

/-- Sign-extended 48-bit road count in eight bytes. -/
def leRoad (x : Int) : Bytes := leBytes 8 (x % 2 ^ 64).toNat

/-- The active forwards a nozzle change (R221, R420); a change without LC_eff carries 0. -/
def sendNzlChange (noz e : Nat) (lc : Option Nat) (s : State) : State :=
  if isActive s then
    tetherSend 2 (leBytes 4 noz ++ leBytes 8 e ++ leBytes 5 (match lc with | some l => l | none => 0) ++ leBytes 3 0) s
  else s

/-- The active forwards a knot request (R417). -/
def sendKnotReq (kind msn : Nat) (rc : Int) (s : State) : State :=
  if isActive s then tetherSend 3 (leBytes 1 kind ++ leBytes 1 msn ++ leBytes 2 0 ++ leRoad rc) s else s

/-- The active forwards HOLD, RESUME, STOP or ACKNOWLEDGE (R419). -/
def sendState (code lc : Nat) (s : State) : State :=
  if isActive s then tetherSend 5 (leBytes 1 code ++ leBytes 3 0 ++ leBytes 8 lc) s else s

/-- The standby is READY (R421, R434). -/
def parReady (s : State) : Bool :=
  isStandby s && s.par.joined && s.par.tethUp && !s.par.clear && !s.dbg.halted && s.par.updLate.isEmpty

/-- The chip counts as the holder on port `p` (R431). -/
def holdsPort (s : State) (p : Nat) : Bool := s.par.hitchOut && !s.par.spliceWait.contains p

/-- The claim word of port `p` (R415, R431). -/
def claimWord (s : State) (p : Nat) : Nat :=
  let spl := s.par.splices.toNat + 2 ^ 32 - b2n (s.par.spliceWait.contains p) 0
  let h := b2n (holdsPort s p) 0
  h * 2 ^ 31 + (2 * spl + h) % 2 ^ 24

/-- SHADOW of port `p` (R272, R431). -/
def shadowOf (s : State) (p : Nat) : Bool := isStandby s || s.par.spliceWait.contains p

/-- The latest knot matches what the active reported of it (R418). -/
def knotMatch (s : State) : Bool := s.par.lastKnot.isSome && s.par.lastKnot == s.par.knotDone

/-- A layer starts: a diverged standby whose knot matches is READY again (R421). -/
def parLayerStart (s : State) : State :=
  if isStandby s && knotMatch s then mPar (fun p => { p with clear := false }) s else s

end Sys2Proof.Machine
end

