-- ==== Sys2Proof/Machine/NozzleOps.lean ====
section
/-! DEFINITION. The nozzle table and its updater (08_nozzle_health): entries (R213), effective states (R215), changes
(R217 to R223), eligibility and lanes (R230 to R233), the journal (R237). -/

namespace Sys2Proof.Machine

/-- Bits `lo` to `lo + w - 1` of an entry. -/
def nzBits (e lo w : Nat) : Nat := e / 2 ^ lo % 2 ^ w

/-- Replace bits `lo` to `lo + w - 1` of an entry. -/
def nzPut (lo w v e : Nat) : Nat := e / 2 ^ (lo + w) * 2 ^ (lo + w) + v % 2 ^ w * 2 ^ lo + e % 2 ^ lo

/-- STATE of an entry (R213). -/
def nzState (e : Nat) : Nat := nzBits e 61 3

/-- LOCK of an entry. -/
def nzLock (e : Nat) : Bool := nzBits e 60 1 == 1

/-- WOFS of an entry. -/
def nzWofs (e : Nat) : Int := sgn 3 (nzBits e 57 3)

/-- DMODE of an entry, the reserved 3 as 0. -/
def nzDmode (e : Nat) : Nat := nzBits e 55 2 % 3

/-- TGT_A of an entry. -/
def nzTgtA (e : Nat) : Nat := nzBits e 37 18

/-- TGT_B of an entry. -/
def nzTgtB (e : Nat) : Nat := nzBits e 19 18

/-- SCNT of an entry. -/
def nzScnt (e : Nat) : Nat := nzBits e 15 4

/-- TRIES of an entry. -/
def nzTries (e : Nat) : Nat := nzBits e 8 4

/-- The entry of global nozzle `n` (R213). -/
def nozEntry (s : State) (n : Nat) : Nat := bankWord s 2 (8 * n) 8

/-- The port of a global nozzle. -/
def nozPort (n : Nat) : Nat := n / 4096

/-- The state that governs a nozzle: Masked on a port treated as Masked, 5 to 7 as Masked (R213, R215). -/
def effState (absent : BitVec 64) (n e : Nat) : Nat := if absent.getLsbD (nozPort n) then 4 else min (nzState e) 4

/-- SDET of a NZL_CONF word. -/
def confSdet (c : Word) : Bool := bit c 23

/-- A nozzle in this state fires nothing: a detour source where its code is not 0 (R214). -/
def silent (c : Word) (st : Nat) : Bool := decide (3 ≤ st) || (decide (st = 2) && confSdet c)

/-- The active NZL_CONF. -/
def nzlConf (s : State) : Word := actVal s (base 16)

/-- The nozzle is a source by its state (R230). -/
def isSource (s : State) (n e : Nat) : Bool := silent (nzlConf s) (effState s.nzl.absent n e)

/-- LC of trigger `k` on a grid (R189). -/
def lcOf (g : Grid) (k : Nat) : Nat := ((g.base + k) % 2 ^ 40).toNat

/-- `a` less `b` as line counts, modulo 2^40. -/
def lcDiff (a b : Nat) : Int := sgn 40 ((a : Int) - b)

/-- The line count of the next trigger to be released on a port, none while no grid is open there. -/
def nextLc (s : State) (p : Nat) : Option Nat :=
  match s.fir.grid with
  | some g => if (firPort s p).isOpen then some (lcOf g (firPort s p).kr) else none
  | none => none

/-- NZL_UPD_LEAD. -/
def updLead (s : State) : Nat := bits (actVal s (base 16 + 8)) 10 0

/-- The line count `n` lines on. -/
def lcAdd (lc n : Nat) : Nat := (lc + n) % 2 ^ 40

/-- Write a record to the journal (R237). -/
def journal (ty noz old new cause : Nat) (lc : Option Nat) (s : State) : State :=
  let r := BitVec.ofNat 64 (ty * 2 ^ 60 + noz * 2 ^ 42 + old * 2 ^ 39 + new * 2 ^ 36 + cause * 2 ^ 32
    + (match lc with | some l => l % 2 ^ 32 | none => 0))
  mNzl (fun z => if z.journal.length < 1024 then { z with journal := z.journal ++ [r] } else { z with jrnOvf := satAdd 16 z.jrnOvf 1 }) s

/-- Register `o` of gate `g` (R239). -/
def gatReg (s : State) (g o : Nat) : Word := regVal s (base 17 + 0x100 + 0x40 * g + o)

/-- Gate `g` serves port `p` (R224). -/
def gateServes (s : State) (g p : Nat) : Bool := if p < 32 then bit (gatReg s g 4) p else bit (gatReg s g 8) (p - 32)

/-- A nozzle that enters Suspect joins its gate's queue (R224). -/
def gateQueue (n : Nat) (s : State) : State :=
  match [0, 1].find? (fun g => gateServes s g (nozPort n)) with
  | none => s
  | some g =>
    if (gate s g).queue.length < 1024 then mGat g (fun k => { k with queue := k.queue ++ [n] }) s
    else notice Err.gateQfull [] s

/-- The column and plane of a nozzle in a geometry: segment, column (R46). -/
def nozPlace (g : Geo) (n : Nat) : Option (SegGeo × Int) := (ownerOf g n).map (fun x => (x.1, segCol x.1 x.2))

/-- Target `t` of source `n`: none when it is not eligible, else whether both lie on one port with equal coarse (R230,
R233). -/
def eligible (s : State) (n t : Nat) : Option Bool :=
  let g := s.fir.geo
  match nozPlace g n, nozPlace g t with
  | some (a, ca), some (b, cb) =>
    let dc := (b.coarse : Int) - a.coarse
    let pa := segPort a.seg
    let pb := segPort b.seg
    let d := dc * g.cpl + geoFrac g pb - geoFrac g pa
    if decide (t ≠ n) && !s.nzl.absent.getLsbD (nozPort t) && a.plane == b.plane && decide ((ca - cb).natAbs ≤ 1)
        && decide (0 ≤ d) && (decide (d ≠ 0) || pa == pb) && decide (dc ≤ 255) then
      some (decide (pa = pb) && decide (dc = 0))
    else none
  | _, _ => none

/-- The coarse difference of a pair. -/
def pairDiff (s : State) (n t : Nat) : Nat :=
  match nozPlace s.fir.geo n, nozPlace s.fir.geo t with
  | some (a, _), some (b, _) => b.coarse - a.coarse
  | _, _ => 0

/-- Nozzles whose entry is not 0, ascending. -/
def nozListed (s : State) : List Nat :=
  (s.mem.banks.toList.getD 2 bankInit).data.foldr (fun x l => if l.head? == some (x.1 / 8) then l else x.1 / 8 :: l) []

/-- Lose an offer: counted, and the first of a source in a layer is logged (R540). -/
def offerLost (src layer : Nat) (line : Int) (reason : Nat) (s : State) : State :=
  let s := mNzl (fun z => { z with cntLost := z.cntLost + 1 }) s
  match layerOf s layer with
  | none => s
  | some l =>
    if l.shortLogged.contains src then s
    else faultErr Err.detourShort [src, argI line, reason] (mLayer layer (fun l => { l with shortLogged := src :: l.shortLogged }) s)

/-- The evaluation of one source (R230): its record, with a Notice when `log` holds and a target is not eligible. -/
def evalOne (log : Bool) (n : Nat) (s : State) : State :=
  let e := nozEntry s n
  let s := mNzl (fun z => { z with sources := z.sources.filter (fun x => x.noz != n) }) s
  if !isSource s n e || nzDmode e == 0 then s
  else
    let a := eligible s n (nzTgtA e)
    let b := eligible s n (nzTgtB e)
    let s := if log && (a.isNone || b.isNone) then notice Err.detourInvalid [n, b2n a.isNone 0 + b2n b.isNone 1] s else s
    if (ownerOf s.fir.geo n).isNone then s
    else mNzl (fun z => { z with sources := insertBy (fun x y => decide (x.noz ≤ y.noz)) ⟨n, a, b⟩ z.sources }) s

/-- The pairs of a source that need a lane: source, target, whether the target is A, coarse difference. -/
def laneNeeds (s : State) (x : DetourSrc) : List (Nat × Nat × Bool × Nat) :=
  let e := nozEntry s x.noz
  let one := fun (k : Option Bool) (t : Nat) (isA : Bool) =>
    if k = some false then [(x.noz, t, isA, pairDiff s x.noz t)] else []
  one x.a (nzTgtA e) true ++ one x.b (nzTgtB e) false

/-- A new lane starts empty: the source's lines that were released before it existed, and whose targets are still to come, are lost (R233,
R540). -/
def laneNew (src tgt diff : Nat) (s : State) : State :=
  let late := fun (o : Orphan) => o.src == src && (match nextLc s (nozPort tgt) with
    | some lc => decide (0 ≤ lcDiff (lcAdd o.lc diff) lc)
    | none => false)
  let lost := s.nzl.orphans.filter late
  let s := mNzl (fun z => { z with
    orphans := z.orphans.filter (fun o => !late o)
    lanes := z.lanes ++ [⟨src, tgt, diff, [], none, nextLc s (nozPort src)⟩] }) s
  each (fun (o : Orphan) s => offerLost src o.layer o.line 4 s) lost s

/-- Settle the lanes of the sources that `p` selects: kept, freed later, or lost with their offers; then new lanes in
ascending source number, A before B, and DETOUR_FULL where none is free (R233). -/
def settleLanes (p : Nat → Bool) (s : State) : State :=
  let needs := (s.nzl.sources.filter (fun x => p x.noz)).flatMap (laneNeeds s)
  let has := fun (l : Lane) => needs.any (fun n => n.1 == l.src && n.2.1 == l.tgt && n.2.2.2 == l.diff)
  let moved := fun (l : Lane) => !has l && needs.any (fun n => n.1 == l.src && n.2.1 == l.tgt)
  let s := each (fun (l : Lane) s =>
    if p l.src && moved l then each (fun (o : Offer) s => offerLost l.src o.layer o.line 4 s) l.offers s else s) s.nzl.lanes s
  let keep (l : Lane) : Option Lane :=
    if !p l.src then some l
    else if has l then some { l with freeing := none }
    else if moved l then none
    else match l.freeing, nextLc s (nozPort l.src) with
      | some x, _ => some { l with freeing := some x }
      | none, some lc => some { l with freeing := some ((lc + 256) % 2 ^ 40) }
      | none, none => none
  let s := mNzl (fun z => { z with lanes := z.lanes.filterMap keep }) s
  each (fun (n : Nat × Nat × Bool × Nat) s =>
    if s.nzl.lanes.any (fun l => l.src == n.1 && l.tgt == n.2.1 && l.diff == n.2.2.2) then s
    else if s.nzl.lanes.length < 1024 then laneNew n.1 n.2.1 n.2.2.2 s
    else
      let cut (x : DetourSrc) : DetourSrc := if n.2.2.1 then { x with a := none } else { x with b := none }
      faultErr Err.detourFull [n.1] (mNzl (fun z => { z with sources := z.sources.map (fun x => if x.noz = n.1 then cut x else x) }) s))
    needs s

/-- Evaluate every nozzle: at each knot and each change of NZL_PORT_ABSENT (R230, R233). -/
def evalDetours (s : State) : State :=
  let s := mNzl (fun z => { z with sources := [] }) s
  settleLanes (fun _ => true) (each (evalOne true) (nozListed s) s)

/-- Evaluate one nozzle after a swap of its entry (R230, R233). -/
def evalAfterSwap (n : Nat) (was : Bool) (s : State) : State :=
  settleLanes (fun x => x == n) (evalOne (!was && isSource s n (nozEntry s n)) n s)

/-- Save the entry that a swap replaces for the lines already released (R217). -/
def keepOldEntry (n e : Nat) (s : State) : State :=
  let upd (l : SegLine) : SegLine :=
    if decide (l.first ≤ n % 4096) && decide (n % 4096 < l.first + l.raw.length)
      && !(l.ents.any (fun x => x.1 == n)) then { l with ents := (n, e) :: l.ents } else l
  mPort (nozPort n) (fun f => { f with trigs := f.trigs.map (fun t => { t with lines := t.lines.map upd }) }) s

/-- Swap an entry (R217): the journal, NZL_DEAD, the gate's queue on entry to Suspect, and the evaluation of R230. -/
def nozSwap (n new cause : Nat) (lc : Option Nat) (s : State) : State :=
  let old := nozEntry s n
  let was := isSource s n old
  let s := bankPut 2 (8 * n) (leBytes 8 new) (keepOldEntry n old s)
  let s := if nzState old ≠ nzState new then journal 1 n (nzState old) (nzState new) cause lc s else s
  let s := if nzState new = 3 ∧ nzState old ≠ 3 then notice Err.nzlDead [] s else s
  let s := if nzState new = 2 ∧ nzState old ≠ 2 then gateQueue n s else s
  evalAfterSwap n was s

/-- Bytes of the NOZZLE bank written by RMP: each entry touched is swapped, with CAUSE 2 and LC 0 (R216). -/
def nozWrite (o : Nat) (d : Bytes) (s : State) : State :=
  let put := fun (n : Nat) (s : State) =>
    let new := leNat ((List.range 8).map (fun i => if o ≤ 8 * n + i ∧ 8 * n + i < o + d.length then d.getD (8 * n + i - o) 0 else bankByte s 2 (8 * n + i)))
    nozSwap n new 2 none s
  each put ((List.range 5).map (o / 8 + ·) |>.filter (fun n => decide (8 * n < o + d.length))) s

/-- The entry after a suspect report (R223). -/
def suspectNext (conf : Word) (e : Nat) : Nat :=
  if nzLock e ∨ 2 ≤ nzState e then e
  else
    let c := min 15 (nzScnt e + 1)
    let e := nzPut 15 4 c e
    if bits conf 31 28 ≤ c then nzPut 61 3 2 (nzPut 8 4 0 e) else e

/-- The entry after a gate result (R223). -/
def gateNext (conf : Word) (r e : Nat) : Nat :=
  let st := nzState e
  let e := nzPut 12 3 r e
  let tried := nzPut 8 4 (min 15 (nzTries e + 1)) e
  let weak := nzPut 61 3 1 (nzPut 15 4 0 (nzPut 57 3 ((min 3 (nzWofs e + bits conf 20 19)) % 8).toNat e))
  if nzLock e ∨ 4 ≤ st then e
  else match r with
    | 1 => if st ≤ 2 ∨ bit conf 22 then nzPut 61 3 0 (nzPut 15 4 0 (nzPut 8 4 0 e)) else e
    | 2 => if st = 0 ∨ st = 2 ∨ (st = 3 ∧ bit conf 22) then weak else e
    | 4 => if st ≤ 2 then nzPut 61 3 3 tried else e
    | 3 => if st ≤ 1 then tried else if st = 2 then (if nzTries tried < bits conf 27 24 then tried else nzPut 61 3 1 tried) else e
    | 5 => if st ≤ 2 then tried else e
    | _ => e

/-- A suspect that keeps its state after PARTIAL or NOISE is queued again, or given up (R223). -/
def gateAgain (conf : Word) (r n old new : Nat) (s : State) : State :=
  if nzLock old ∨ nzState old ≠ 2 ∨ nzState new ≠ 2 ∨ (r ≠ 3 ∧ r ≠ 5) then s
  else if nzTries new < bits conf 27 24 then gateQueue n s
  else notice Err.gateGiveup [] s

/-- Requested bits under a mask. -/
def maskIn (e req mask : Nat) : Nat := (BitVec.ofNat 64 e &&& ~~~ BitVec.ofNat 64 mask ||| BitVec.ofNat 64 req &&& BitVec.ofNat 64 mask).toNat

/-- The entry that a change makes of an entry; none when the swap is not made (R220). -/
def nzNext (s : State) (k : NzlKind) (e : Nat) : Option Nat :=
  match k with
  | .suspect => some (suspectNext (nzlConf s) e)
  | .gate r => some (gateNext (nzlConf s) r e)
  | .host req mask =>
    let m := maskIn e req.toNat mask.toNat
    if 5 ≤ nzState m ∨ nzBits m 55 2 = 3 then none else some m
  | .entry x => some x.toNat

/-- CAUSE of a change (R237). A change from the active chip carries none: a free value (log 6). -/
def nzCause (s : State) (k : NzlKind) : Nat :=
  match k with
  | .suspect => 0
  | .gate _ => 1
  | .host _ _ => 2
  | .entry _ => (Config.tetherCause s.free).toNat % 3

/-- Apply a change now (R217, R220, R223); `lc` is the line count that it governs first. -/
def nzApply (c : NzlChange) (lc : Option Nat) (s : State) : State :=
  let old := nozEntry s c.noz
  match nzNext s c.kind old with
  | none => notice Err.nzlRange [c.noz] s
  | some new =>
    let s' := nozSwap c.noz new (nzCause s c.kind) lc (bankGrant 2 1 s)
    match c.kind with
    | .gate r => gateAgain (nzlConf s) r c.noz old new s'
    | .entry _ => tickFree s'
    | _ => s'

/-- LC_eff of a gate result or host request that is queued now (R217). -/
def lcEffNow (s : State) (n : Nat) : Option Nat := (nextLc s (nozPort n)).map (fun l => lcAdd l (updLead s))

/-- A result that a full queue held takes its reference when it is queued (R217, R219). -/
def nzQueued (s : State) (c : NzlChange) : NzlChange :=
  match c.kind with
  | .gate _ => { c with lcEff := lcEffNow s c.noz }
  | _ => c

/-- Results held by a full queue enter it as space frees (R219). -/
def nzRefill (s : State) : State :=
  mNzl (fun z =>
    let k := 64 - z.queue.length
    { z with queue := z.queue ++ (z.held.take k).map (nzQueued s), held := z.held.drop k }) s

/-- Take a change from the queue and apply it. -/
def nzTake (c : NzlChange) (lc : Option Nat) (s : State) : State :=
  nzApply c lc (nzRefill (mNzl (fun z => { z with queue := z.queue.erase c }) s))

/-- Apply a change whose LC_eff has been released: late, unless it waited in Held (R218). -/
def nzLate (c : NzlChange) (lc : Nat) (s : State) : State :=
  match c.lcEff with
  | some l =>
    if lcDiff l lc < 0 ∧ c.waited = false then notice Err.updLate [] (mNzl (fun z => { z with cntLate := z.cntLate + 1 }) s) else s
  | none => s

/-- The first queued change that is due (R217, R218). -/
def nzDue (s : State) : Option NzlChange :=
  if s.sys.st = .faulted then none
  else s.nzl.queue.find? (fun c => match c.lcEff, nextLc s (nozPort c.noz) with
    | some l, some lc => decide (s.sys.st ≠ .held) && decide (lcDiff l lc ≤ 0)
    | _, _ => true)

/-- Changes that became due while the device was Held have waited there (R218). -/
def nzResume (s : State) : State :=
  let due := fun (c : NzlChange) => match c.lcEff, nextLc s (nozPort c.noz) with
    | some l, some lc => decide (lcDiff l lc ≤ 0)
    | _, _ => true
  mNzl (fun z => { z with queue := z.queue.map (fun c => if due c then { c with waited := true } else c) }) s

/-- Apply one due change. -/
def nzSwapDue (c : NzlChange) (s : State) : State :=
  match nextLc s (nozPort c.noz) with
  | some lc => nzTake c (some lc) (nzLate c lc s)
  | none => nzTake c none s

/-- Immediately before the release of a trigger of port `p` with line count `lc`: the changes due there (R217, R218). -/
def nzBefore (p lc : Nat) (s : State) : State :=
  let due := fun (c : NzlChange) => nozPort c.noz == p && (match c.lcEff with | some l => decide (lcDiff l lc ≤ 0) | none => true)
  if s.sys.st = .faulted then s
  else if s.sys.st = .held then mNzl (fun z => { z with queue := z.queue.map (fun c => if due c then { c with waited := true } else c) }) s
  else each (fun c s => nzTake c (some lc) (nzLate c lc s)) (s.nzl.queue.filter due) s

/-- The grid has closed on ports that `p` selects: their changes apply at once, and no lane carries an offer (R218). -/
def nzGridClosed (p : Nat → Bool) (s : State) : State :=
  let s := if s.sys.st = .faulted then s
    else each (fun c s => nzTake c none s) (s.nzl.queue.filter (fun c => p (nozPort c.noz))) s
  mNzl (fun z => { z with lanes := z.lanes.map (fun l => if p (nozPort l.src) then { l with offers := [] } else l) }) s

/-- The entry of a nozzle after the changes already queued for it and this one (log 15). -/
def nzProject (s : State) (n : Nat) (k : NzlKind) : Nat :=
  let step := fun e (k : NzlKind) => match nzNext s k e with | some x => x | none => e
  step (((s.nzl.queue ++ s.nzl.held).filter (fun c => c.noz == n)).foldl (fun e c => step e c.kind) (nozEntry s n)) k

/-- Enter a change (R217 to R219, R221): forwarded by the active, applied at once when no grid is open on the port. -/
def nzSubmit (c : NzlChange) (s : State) : State :=
  let open_ := (nextLc s (nozPort c.noz)).isSome
  let c := if open_ then c else { c with lcEff := none }
  let s := sendNzlChange c.noz (nzProject s c.noz c.kind) c.lcEff s
  if !open_ && decide (s.sys.st ≠ .faulted) then nzApply c none s
  else mNzl (fun z => if z.queue.length < 64 then { z with queue := z.queue ++ [c] } else { z with held := z.held ++ [c] }) s

/-- A suspect report with its line count (R217, R221, R223). -/
def nzSuspect (n lc : Nat) (s : State) : State :=
  if isStandby s || (ownerOf s.fir.geo n).isNone then s
  else nzSubmit ⟨n, .suspect, some (lcAdd lc (updLead s)), false⟩ s

/-- A gate result (R217, R221, R228). -/
def nzGate (n r : Nat) (s : State) : State :=
  if isStandby s then s
  else nzSubmit ⟨n, .gate r, lcEffNow s n, false⟩ s

/-- A bit of NZL_PORT_ABSENT changes (R215). -/
def portMask (p : Nat) (on : Bool) (s : State) : State :=
  if s.nzl.absent.getLsbD p = on then s
  else
    let m := BitVec.ofNat 64 (2 ^ p)
    let s := mNzl (fun z => { z with
      absent := if on then z.absent ||| m else z.absent &&& ~~~ m
      absentPending := z.absentPending.filter (fun x => x.1 != p) }) s
    evalDetours (journal 2 (p * 4096) 0 0 (if on then 3 else 4) (nextLc s p) s)

end Sys2Proof.Machine
end

