-- ==== Sys2Proof/Machine/Grid.lean ====
section
/-! DEFINITION. The trigger grid (07_firing): opening, joining and closing (R51, R99, R100, R188), the geometry that governs
a trigger (R28), what a strand delivers at a trigger (R137, R141, R146, R147), stop points, and layers finished (R53, R96). -/

namespace Sys2Proof.Machine

/-- The inactive level at which a geometry rests the FIRE pair of port `p` (R196). -/
def fireRest (g : Geo) (p : Nat) : Bool := !bit (nth g.stb p 0x40000014) 30

/-- A FIRE pair whose inactive level changes goes to the new one (R196). -/
def fireRests (old g : Geo) (s : State) : State :=
  each (fun p s => if fireRest g p = fireRest old p then s else emit (.pin "FIRE" p (fireRest g p)) s) (List.range 64) s

/-- tr(k) of port `p` under a geometry (R188). -/
def trOf (g : Geo) (gr : Grid) (p k : Nat) : Int := sgn 64 (gr.s + geoDir g * (k * g.cpl + geoFrac g p))

/-- rel(k) of port `p` under a geometry (R188). -/
def relOf (g : Geo) (gr : Grid) (p k : Nat) : Int := sgn 64 (trOf g gr p k - geoDir g * 2 * g.cpl)

/-- `a` lies at or beyond `b` in the direction of a geometry, as 64-bit road counts in 1/65 536. -/
def atOrBeyond (g : Geo) (a b : Int) : Bool := decide (0 ≤ geoDir g * sgn 64 (a - b))

/-- The geometry that governs trigger `k` of port `p`: that of the earliest knot its release precedes (R28). DESIGN CHOICE (log 138):
where the knot itself changes cpl or frac, the release point compared with its position is that of the old geometry. -/
def geoAt (s : State) (gr : Grid) (p k : Nat) : Geo :=
  match s.fir.oldGeos.find? (fun x => (geoPorts x.2).contains p && !atOrBeyond x.2 (relOf x.2 gr p k) x.1) with
  | some x => x.2
  | none => s.fir.geo

/-- Layers of a grid, oldest first. -/
def gridLayers (s : State) (gr : Grid) : List Layer := gr.layers.filterMap (layerOf s)

/-- The last trigger of port `p` for a layer on the grid (R53). -/
def layerLast (g : Geo) (p : Nat) (l : Layer) : Nat := l.joined + l.lines - 1 + portReach g p

/-- The last trigger of port `p` on the grid (R188). -/
def gridLast (s : State) (gr : Grid) (g : Geo) (p : Nat) : Nat := maxNat ((gridLayers s gr).map (layerLast g p))

/-- The lowest trigger of a port that is not finished: neither struck nor skipped (R96). -/
def portFin (f : FirPort) : Nat :=
  match f.trigs.find? (fun t => !t.struck && t.mark != .skip) with | some t => t.k | none => f.kr

/-- Set a stop point; the earliest stands (R61, R149, R210, R486). -/
def stopAt (rel : Int) (s : State) : State :=
  mFir (fun f => { f with stop := match f.stop with
    | some x => if atOrBeyond s.fir.geo rel x then some x else some rel
    | none => some rel }) s

/-- A release road count lies at or beyond the stop point. -/
def beyondStop (s : State) (rel : Int) : Bool :=
  match s.fir.stop with | some x => atOrBeyond s.fir.geo rel x | none => false

/-- The predictor's state changes, and the advice outputs with it (R152, R209). -/
def setOvs (on : Bool) (s : State) : State := if s.fir.ovs = on then s else advicePins (mFir (fun f => { f with ovs := on }) s)

/-- The grid closes (R188, R209, R218). -/
def closeGrid (s : State) : State :=
  let upd (p : FirPort) : FirPort := { p with isOpen := false, skipPending := false }
  let s := mFir (fun f => { f with
    grid := none, stop := none, stopDue := false, knotTail := false, ovsStopped := false, oldGeos := [], ports := f.ports.map upd }) s
  nzGridClosed (fun _ => true) (mNzl (fun z => { z with absentPending := [] }) (setOvs false s))

/-- LASTLINE of a layer on the grid (R96). -/
def lastLineOf (s : State) (l : Layer) : Option Nat :=
  let g := s.fir.geo
  let per := (geoPorts g).map (fun q =>
    let fin := portFin (firPort s q)
    if fin ≤ l.joined then none else some (min (fin - 1 - l.joined) (layerLast g q l - l.joined)))
  if per.any (·.isNone) then none
  else match per.filterMap (fun x => x) with
    | a :: r => some (r.foldl min a)
    | [] => none

/-- The lowest, over the ports, of their last triggers of a layer (R96). -/
def lastOfDone (s : State) (l : Layer) : Option Nat :=
  match (geoPorts s.fir.geo).map (fun q => layerLast s.fir.geo q l - l.joined) with
  | a :: r => some (r.foldl min a)
  | [] => none

/-- A layer has been finished by every port (R53, R94, R98, R207): Done, and Released under AUTO_RELEASE; in Stopped and
Faulted it only leaves the grid. -/
def layerFinished (id : Nat) (s : State) : State :=
  let s := mFir (fun f => { f with grid := f.grid.map (fun g => { g with layers := g.layers.filter (· != id) }) }) s
  match layerOf s id with
  | none => s
  | some l =>
    if s.sys.st = .stopped ∨ s.sys.st = .faulted then s
    else
      let s := setLayerSt id .done 0 (mLayer id (fun l => { l with lastLine := lastOfDone s l }) s)
      creditWatch (if l.autoRel then releaseLayer id 2 s else s)

/-- Layers finished, the grid's closing, and what follows (R34, R53, R188). -/
def finishLayers (s : State) : State :=
  match s.fir.grid with
  | none => s
  | some gr =>
    let g := s.fir.geo
    let s := each (fun (l : Layer) s =>
      let done := (geoPorts g).all (fun q => decide (layerLast g q l < portFin (firPort s q)))
      let s := mLayer l.id (fun x => { x with lastLine := match lastLineOf s l with | some k => some k | none => x.lastLine }) s
      if done then layerFinished l.id s else s) (gridLayers s gr) s
    let empty := match s.fir.grid with | some g => g.layers.isEmpty | none => false
    if empty then updateMargins (strandSync (checkReady (closeGrid s)))
    else if (match s.fir.grid with | some g => decide (g.layers.length < gr.layers.length) | none => false) then updateMargins (strandSync s)
    else s

/-- A grid opens on the ports of the active geometry (R188, R226): a running sweep that serves one ends after its slot. -/
def gatesMeetGrid (ports : List Nat) (s : State) : State :=
  each (fun g s =>
    let k := gate s g
    if k.busy && !k.waitGrid && !k.abort && ports.any (gateServes s g) then
      notice Err.gateAbort [] (mGat g (fun k => if k.slot.isSome then { k with abort := true } else gateKill k) s)
    else s) [0, 1] s

/-- A port begins on the grid at trigger `k`. -/
def openPort (k : Nat) (f : FirPort) : FirPort :=
  { f with isOpen := true, kr := k, ks := k, first := none, trigs := [], skipPending := false, hist := [] }

/-- Open a grid at S (R188, R189). -/
def openGrid (sx : Int) (id : Nat) (s : State) : State :=
  let g := s.fir.geo
  let base := Int.fdiv (geoDir g * sx) g.cpl
  let s := mFir (fun f => { f with
    grid := some ⟨sx, base, [id]⟩, stop := none, stopDue := false, knotTail := false, ovsStopped := false, everGrid := true, s5 := [], oldGeos := [] }) s
  gatesMeetGrid (geoPorts g) (each (fun p s => mPort p (openPort 0) s) (geoPorts g) s)

/-- Ports that a layer lists, ascending. -/
def layerPorts (l : Layer) : List Nat := (List.range 64).filter (fun p => l.stripes.any (fun x => segPort x.1 == p))

/-- Ports that a starting layer lists and that are not in ACTIVE (R75, R215, R256). -/
def maskMissing (l : Layer) (joining : Bool) (s : State) : State :=
  each (fun p s =>
    if (headPort s p).st = .active then s
    else
      let s := if l.optional.getLsbD p then raiseLim .notice Err.portOptional p (ms 1) [] s
        else raiseLim .fault Err.portDown p (ms 1) [0, 0, 0, 0, p] s
      if joining && !s.nzl.absent.getLsbD p then mNzl (fun z => { z with absentPending := z.absentPending ++ [(p, l.joined)] }) s
      else portMask p true s) (layerPorts l) s

/-- POS_REVERSE of a layer that starts while the direction state opposes the pass (R177). -/
def reverseAtStart (s : State) : State :=
  let c := printCh s
  if (enc s c).rev = s.fir.geo.rev then s
  else each (fun (l : Layer) (s : State) =>
    if l.revLogged then s
    else notice Err.posReverse [c, l.id] (mLayer l.id (fun l => { l with revLogged := true }) s)) (printingLayers s) s

/-- The head layer starts at a milestone's event road count (R51, R99, R100). -/
def layerStart (id : Nat) (event : Int) (s : State) : State :=
  let g := s.fir.geo
  let want := event * 65536 + geoDir g * 2 * g.cpl
  let joining := match s.fir.grid with | some gr => !gr.layers.isEmpty && !(printingLayers s).isEmpty | none => false
  let m : Nat := match s.fir.grid with
    | some gr => if joining then (-(Int.fdiv (-(geoDir g * sgn 64 (want - gr.s))) g.cpl)).toNat else 0
    | none => 0
  let s := mTow (fun t => { t with queue := t.queue.filter (· != id) }) s
  let s := if (printingLayers s).isEmpty then mPos (fun p => { p with hwm := event }) s else s
  let s := mLayer id (fun l => { l with
    joined := m, suspended := false, lastLine := none, overlapLogged := false, revLogged := false, lateLogged := 0, missLogged := 0, shortLogged := [] }) s
  let s := setLayerSt id .printing 0 s
  let s : State := if joining then mFir (fun f => { f with grid := f.grid.map (fun x => { x with layers := x.layers ++ [id] }) }) s
    else if (geoPorts g).isEmpty then s
    else openGrid want id s
  let s : State := if s.sys.st = .ready then setDev .printing s else s
  let s : State := match layerOf s id with | some l => maskMissing l joining s | none => s
  let s := strandSync (reverseAtStart (parLayerStart s))
  updateMargins (match layerOf s id with | some l => each (widthCheck l) (l.stripes.map (·.1)) s | none => s)

/-- A milestone of the print channel fires: the print queue (R99, R100). -/
def queueFire (i : Nat) (event : Int) (s : State) : State :=
  if s.sys.st ≠ .ready ∧ s.sys.st ≠ .printing ∧ s.sys.st ≠ .held then s
  else match headLayer s with
    | none => s
    | some l =>
      if l.startMs ≠ i then s
      else match l.st with
        | .ready => if 2 ≤ (printingLayers s).length then raise .stop Err.layerCrowd [] s else layerStart l.id event s
        | .announced | .loading => raise .stop Err.layerLate [] s
        | _ => s

/-- The layer whose line a segment prints at trigger `k`: the oldest whose lines are not past, else the newest (R100,
R141). -/
def layerFor (ls : List Layer) (coarse k : Nat) : Option Layer :=
  match ls.find? (fun l => decide ((k : Int) - l.joined - coarse < l.lines)) with
  | some l => some l
  | none => ls.getLast?

/-- What a segment prints at a trigger: layer, stripe line, and whether its strand must hold data for it (R93, R137). -/
def lineFor (s : State) (gr : Grid) (x : SegGeo) (k : Nat) : Option (Layer × Int × Bool) :=
  (layerFor (gridLayers s gr) x.coarse k).map (fun l =>
    let ln : Int := (k : Int) - l.joined - x.coarse
    (l, ln, decide (0 ≤ ln) && decide (ln < l.lines) && decide (l.k0 + l.joined ≤ k) && (stripeIdx l x.seg).isSome))

/-- The decoder has produced line `ln` of its next layer, or comes to it as it goes on. -/
def comesTo (s : State) (n id : Nat) (ln : Int) : Bool :=
  let t := strand s n
  t.out.any (fun o => o.layer == id && (o.line : Int) == ln) || (match layerOf s id with
    | some x => (match stripeIdx x n with
      | some i => decide ((decLine x t (lineBytes x i) : Int) ≤ max ln 0)
      | none => false)
    | none => false)

/-- The strand passes to layer `id` when its line comes from there (R141). -/
def strandSwitch (n id : Nat) (ln : Int) (s : State) : State :=
  let t := strand s n
  if t.layer = some id ∧ t.st ≠ .idle then s
  else if t.decNext ∧ t.nextLayer = some id ∧ (ln ≤ 0 ∨ comesTo s n id ln = true) then
    strandAhead n (mStrand n (fun t => { t with layer := some id, nextLayer := none, decNext := false, nextLine := ln.toNat }) s)
  else seekStrand n id (max ln.toNat (startLine s id n)) s

/-- Lines that wait in OUT although their release point has passed: those of the strand's layer before line `ln`, and
those of layers that the strand has left (R146). -/
def staleOut (s : State) (gr : Grid) (id : Nat) (ln : Int) (o : OutLine) : Bool :=
  if o.layer = id then decide ((o.line : Int) < ln)
  else !(((gr.layers.dropWhile (· != id)).drop 1 ++ s.tow.queue).contains o.layer)

/-- What the strand of segment `x` delivers at trigger `k`: the state after it, its codes (none when it is missing), layer
and line. With `discard` the line is decoded and thrown away (R146). -/
def deliver (gr : Grid) (x : SegGeo) (k : Nat) (discard : Bool) (s : State) : State × Option (List Nat) × Nat × Int × Nat :=
  let zeros := List.replicate x.width 0
  match lineFor s gr x k with
  | none => (s, some zeros, 0, 0, 1)
  | some (l, ln, need) =>
    let n := x.seg
    let s := if strandActive s n then strandSwitch n l.id ln s else s
    let old := ((strand s n).out.filter (staleOut s gr l.id ln)).length
    let s := mStr (fun t => { t with cntDisc := t.cntDisc + w32 old })
      (mStrand n (fun t => { t with out := t.out.filter (fun o => !staleOut s gr l.id ln o) }) s)
    let have_ := (strand s n).out.find? (fun o => o.layer == l.id && (o.line : Int) == ln)
    let step (t : Strand) : Strand := { t with
      out := t.out.filter (fun o => !(o.layer == l.id && (o.line : Int) == ln))
      nextLine := if 0 ≤ ln then max t.nextLine (ln.toNat + 1) else t.nextLine }
    let s := mStrand n step s
    let s := if discard && have_.isSome then mStr (fun t => { t with cntDisc := t.cntDisc + 1 }) s else s
    let codes := if !need then some zeros else have_.map (fun o => (o.codes ++ zeros).take x.width)
    (s, codes, l.id, ln, l.depth)

/-- Every pair of layers on the grid of which both have a line in range at trigger `k` on some nozzle of port `p`, with
the trigger number of the newer: arguments of LAYER_OVERLAP (R100). -/
def overlapArgs (s : State) (gr : Grid) (g : Geo) (p k : Nat) : List Nat :=
  let inRange := fun (l : Layer) (co gn : Nat) =>
    let ln : Int := (k : Int) - l.joined - co - gn
    decide (0 ≤ ln) && decide (ln < l.lines)
  let both := fun (a b : Layer) => (g.segs.filter (fun x => segPort x.seg == p)).any (fun x =>
    let gs := segStagger g x
    ((List.range 16).filter gs.contains).any (fun gn => inRange a x.coarse gn && inRange b x.coarse gn))
  match gridLayers s gr with
  | a :: b :: _ => if !b.overlapLogged && both a b then [b.id, a.id, k - b.joined] else []
  | _ => []

/-- The LAYER of a frame (R201). `hist` gives the coarse offsets that governed the latest triggers. -/
def frameLayer (s : State) (gr : Grid) (g : Geo) (p k : Nat) : Nat :=
  let segs := g.segs.filter (fun x => segPort x.seg == p)
  let hist := (firPort s p).hist
  let coarse := fun (x : SegGeo) (gn : Nat) => match hist.find? (fun h => h.1 + gn == k) with
    | some h => (match h.2.find? (fun c => c.1 == x.seg) with | some c => c.2 | none => x.coarse)
    | none => x.coarse
  let inRange := fun (l : Layer) => segs.any (fun x =>
    let gs := segStagger g x
    ((List.range 16).filter gs.contains).any (fun gn =>
      let ln : Int := (k : Int) - l.joined - coarse x gn - gn
      decide (0 ≤ ln) && decide (ln < l.lines)))
  match (gridLayers s gr).find? inRange with
  | some l => l.id
  | none => match gr.layers with | a :: _ => a | [] => 0

/-- NW of a port: 1 + the highest nozzle index of its enabled segments (R201). -/
def portNw (g : Geo) (p : Nat) : Nat :=
  min 4096 (maxNat ((g.segs.filter (fun x => segPort x.seg == p)).map (fun x => x.first + x.width)))

/-- ROWEN of a port (R201). -/
def portRowen (g : Geo) (p : Nat) : BitVec 8 :=
  BitVec.ofNat 8 (sumN ((List.range 8).map (fun r => b2n (g.segs.any (fun x => x.seg == 8 * p + r)) r)))

/-- PHASE of a port, row by row (R201). -/
def portPhase (g : Geo) (p : Nat) : List Nat :=
  (List.range 8).map (fun r => match segGeo g (8 * p + r) with | some x => x.phase | none => 0)

/-- The seek that a knot causes on port `p`, for segments that it enables or whose coarse it changes from those of
geometry `o`: to the port's first trigger governed by the knot (R138). -/
def geoSeek (o : Geo) (p k1 : Nat) (s : State) : State :=
  match s.fir.grid with
  | none => s
  | some gr =>
    each (fun (x : SegGeo) s =>
      if segPort x.seg ≠ p ∨ (segGeo o x.seg).map (·.coarse) = some x.coarse then s
      else match lineFor s gr x k1 with
        | some (l, ln, _) => if strandActive s x.seg then seekStrand x.seg l.id ln.toNat s else s
        | none => s) s.fir.geo.segs s

/-- The grid positions from which a knot's geometry takes over on port `p` have been reached: its next trigger to release is
governed by the active geometry (R28). -/
def portTurned (s : State) (gr : Grid) (p : Nat) : Bool :=
  s.fir.oldGeos.all (fun x => atOrBeyond x.2 (relOf x.2 gr p (firPort s p).kr) x.1 || !(geoPorts x.2).contains p)

end Sys2Proof.Machine
end

