-- ==== Sys2Proof/Machine/Control.lean ====
section
/-! DEFINITION. HOLD, RESUME, STOP and ACKNOWLEDGE (R34, R35, R98, R401, R419), and a standby's splice triggers (R430). -/

namespace Sys2Proof.Machine

/-- A grid that is open when a Stop is acknowledged ends: its layers count as not printing (R98). -/
def stopEnds (s : State) : State :=
  let s := mTow (fun t => { t with layers := t.layers.map (fun l => if l.st = .printing then { l with suspended := true } else l) }) s
  if s.fir.grid.isNone then s
  else
    let upd (p : FirPort) : FirPort := { p with trigs := p.trigs.filter (fun t => t.frozen.isSome) }
    closeGrid (mFir (fun f => { f with ports := f.ports.map upd, s5 := [] }) s)

/-- A command of R401 is an event of R34 for the present state; RESUME waits for Waypost (R501). -/
def ctlLegal (s : State) (c : Nat) : Bool :=
  match c, s.sys.st with
  | 1, .printing => true
  | 2, .held => !s.dbg.halted
  | 3, .ready => true
  | 3, .printing => true
  | 3, .held => true
  | 4, .stopped => true
  | _, _ => false

/-- Held passes to Printing, and on to Ready when no layer is Printing (R34, R35). -/
def opResume (s : State) : State := checkReady (setDev .printing (nzResume s))

/-- The Stop is acknowledged (R34, R98, R485). -/
def opAck (s : State) : State := strandSync (stopEnds (setDev .ready (mErr (fun e => { e with stopHeld := false, stopBlk := 0 }) s)))

/-- The effect of a command of R401 with codes 1 to 4. -/
def ctlApply (c : Nat) (s : State) : State :=
  if !ctlLegal s c then s
  else match c with
    | 1 => setDev .held s
    | 2 => opResume s
    | 3 => setDev .stopped s
    | _ => opAck s

/-- PAR_KNOT_LEAD (R438). -/
def knotLead (s : State) : Nat := bits (regVal s (base 24 + 8)) 10 0

/-- The line count of the reference port's trigger PAR_KNOT_LEAD beyond its next one to release (R417, R419). -/
def leadLc (s : State) : Option Nat := (nextLc s (refPort s)).map (fun l => lcAdd l (knotLead s))

/-- Enter a state change: at once when no grid is open, else when its line count is released (R419). -/
def ctlAt (c lc : Nat) (s : State) : State :=
  if (nextLc s (refPort s)).isNone then ctlApply c s
  else mPar (fun p => { p with pendStates := p.pendStates ++ [⟨c, lc⟩] }) s

/-- A legal command of R401 with codes 1 to 4 (R401, R419): the active forwards it. -/
def ctlCommand (c : Nat) (s : State) : State :=
  if isActive s then
    match leadLc s with
    | some lc => ctlAt c lc (sendState c lc s)
    | none => ctlApply c (sendState c 0 s)
  else ctlApply c s

/-- State changes that the release of line count `lc` of the reference port reaches (R419). -/
def ctlDue (lc : Nat) (s : State) : State :=
  let due := s.par.pendStates.filter (fun x => decide (lcDiff x.lc lc ≤ 0))
  each (fun (x : StateAt) s => ctlApply x.code s) due
    (mPar (fun p => { p with pendStates := p.pendStates.filter (fun x => !decide (lcDiff x.lc lc ≤ 0)) }) s)

/-- State changes left when no grid is open take effect at once. -/
def ctlLeft (s : State) : State :=
  if s.fir.grid.isSome ∨ s.par.pendStates.isEmpty then s
  else each (fun (x : StateAt) s => ctlApply x.code s) s.par.pendStates (mPar (fun p => { p with pendStates := [] }) s)

/-- A splice trigger of R430 on a standby: the first whose condition holds makes the splice pending. -/
def spliceTry (code : Nat) (s : State) : State :=
  if !isStandby s || !operational s || s.par.pendSplice.isSome then s
  else if code = 1 then
    mPar (fun p => { p with pendSplice := some 1 }) (if parReady s then s else faultErr Err.spliceUnready [] s)
  else if parReady s then mPar (fun p => { p with pendSplice := some code }) s
  else faultErr Err.spliceRefused [] s

/-- A YIELD message's line count is released on the reference port (R430). -/
def yieldDue (lc : Nat) (s : State) : State :=
  match s.par.pendYield with
  | some y => if lcDiff y lc ≤ 0 then spliceTry 2 (mPar (fun p => { p with pendYield := none }) s) else s
  | none => s

/-- READY stays clear for 256 triggers of a port after a late change (R420): each release there counts one down. -/
def updLateCount (p : Nat) (s : State) : State :=
  if s.par.updLate.isEmpty then s
  else mPar (fun r => { r with updLate := (r.updLate.map (fun x => if x.1 = p then (x.1, x.2 - 1) else x)).filter (fun x => x.2 ≠ 0) }) s

end Sys2Proof.Machine
end

