-- ==== Sys2Proof/Machine/Position.lean ====
section
/-! DEFINITION. Encoders, observers and milestones' watch (06_position): counting (R165 to R167), direction and the
high-water mark (R175 to R177), index (R171, R172), SSI (R168 to R170), the observer (R173, R174), pass-through (R178),
arming (R180) and the end of a 5 ns sample (R179). -/

namespace Sys2Proof.Machine

/-- The KEEP island runs (R161). -/
def keepRuns (s : State) : Bool := !s.pos.keepReset && (s.keep.feedA || s.keep.feedB)

/-- Address of register `o` of channel `c` (R185). -/
def posAddr (c o : Nat) : Nat := base 12 + 0x100 + 0x80 * c + o

/-- An RWL register of POS or MIL as it is in effect (R185): a write takes effect at the next position sample. -/
def liveVal (s : State) (a : Nat) : Word := spGet (regReset a) s.pos.live a

/-- A write to an RWL register of POS or MIL waits for the next position sample (R185; log 113). -/
def postLive (a v : Nat) (s : State) : State := mPos (fun p => { p with waiting := p.waiting ++ [(a, v)] }) s

/-- Register `o` of channel `c`, as last written. -/
def posReg (s : State) (c o : Nat) : Word := regVal s (posAddr c o)

/-- Register `o` of channel `c`, as in effect. -/
def posLive (s : State) (c o : Nat) : Word := liveVal s (posAddr c o)

/-- The channel is enabled. -/
def encEn (s : State) (c : Nat) : Bool := bit (posReg s c 0) 31

/-- The channel reads SSI (MODE 1). -/
def encSsi (s : State) (c : Nat) : Bool := bit (posReg s c 0) 30

/-- INV of the channel. -/
def encInv (s : State) (c : Nat) : Bool := bit (posReg s c 0) 29

/-- The active POS_CHn_OBS (R174, R175). -/
def obsReg (s : State) (c : Nat) : Word := actVal s (posAddr c 0x14)

/-- The difference of two road counts, as a signed 48-bit value (R167). -/
def rcDiff (a b : Int) : Int := sgn 48 (a - b)

/-- Set a bit of POS_CHn_STAT. -/
def posStat (c i : Nat) (s : State) : State := mEnc c (fun e => { e with stat := e.stat ||| BitVec.ofNat 10 (2 ^ i) }) s

/-- Count an error of a channel, saturating (R185). -/
def posErr (c i : Nat) (s : State) : State := mEnc c (fun e => { e with errCnt := vmod e.errCnt i (fun n => satAdd 8 n 1) }) s

/-- The mark moves on in the direction of the active pass (R176). -/
def hwmFollow (c : Nat) (s : State) : State :=
  if c ≠ printCh s then s
  else
    let rc := (enc s c).rc
    let d := rcDiff rc s.pos.hwm
    if (if s.fir.geo.rev then decide (d < 0) else decide (0 < d)) then mPos (fun p => { p with hwm := rc }) s else s

/-- The direction state after the road count has become `rc` (R175). -/
def dirFollow (hyst : Nat) (e : EncChan) : EncChan :=
  let d := rcDiff e.rc e.turn
  if e.rev then
    (if d < 0 then { e with turn := e.rc } else if (hyst : Int) < d then { e with rev := false, turn := e.rc } else e)
  else
    (if 0 < d then { e with turn := e.rc } else if d < -(hyst : Int) then { e with rev := true, turn := e.rc } else e)

/-- The road count of a channel changes by `d` (R165, R167, R175, R176). -/
def countBy (c : Nat) (d : Int) (s : State) : State :=
  let rc := (enc s c).rc
  let rc' := sgn 48 (rc + d)
  let s := if rc' ≠ rc + d then notice Err.posWrap [] s else s
  hwmFollow c (mEnc c (fun e => dirFollow (bits (obsReg s c) 31 24) { e with rc := rc' }) s)

/-- One quadrature step: +1, −1, or none for no change or an illegal one (R165, R166). -/
def quadStep (a b a' b' : Bool) : Int :=
  let g : Bool → Bool → Int := fun x y => match x, y with
    | false, false => 0 | true, false => 1 | true, true => 2 | false, true => 3
  let d := (g a' b' - g a b) % 4
  if d = 1 then 1 else if d = 3 then -1 else 0

/-- Counting starts at `rc`: observer, direction state and turning point start with it (R173, R175). -/
def encStart (c : Nat) (rc : Int) (s : State) : State :=
  mEnc c (fun e => { e with
    rc := rc, x := sgn 64 (rc * 65536), v := 0, a := 0, rev := false, turn := rc, started := true, ssiMeas := none }) s

/-- Milestone register `o` of unit `i`, as in effect. -/
def msReg (s : State) (i o : Nat) : Word := liveVal s (base 13 + 0x100 + 0x20 * i + o)

/-- SRC of a milestone. -/
def msSrc (s : State) (i : Nat) : Nat := bits (msReg s i 0) 26 25

/-- The direction in which a milestone qualifies at this moment: true for reverse (R179). -/
def msRev (s : State) (i : Nat) : Bool :=
  let q := bits (msReg s i 0) 28 27
  if q = 2 then (enc s (msSrc s i)).rev else q == 1

/-- D of a milestone (R179). -/
def msD (s : State) (i : Nat) : Int := rcDiff (enc s (msSrc s i)).rc (milestone s i).cmp

/-- D is at or past 0 in a direction. -/
def pastZero (rev : Bool) (d : Int) : Bool := if rev then decide (d ≤ 0) else decide (0 ≤ d)

/-- The channel is moving in a direction: its state is that direction and |v| is at least POS_CHn_MOVE (R179). -/
def moving (s : State) (c : Nat) (rev : Bool) : Bool :=
  let e := enc s c
  e.rev == rev && decide (bits (posLive s c 0x18) 23 0 * 2 ^ 40 ≤ e.v.natAbs * 160000)

/-- Withdraw the pending knot request (R30, R182). -/
def knotWithdraw (s : State) : State := mSys (fun y => { y with pendingKnot := none, pendingPos := none, knotDue := none }) s

/-- A milestone turns out STALE: a knot that waits for it is withdrawn (R30, R180). -/
def msStale (i : Nat) (s : State) : State :=
  let s := notice Err.msStale [] (mMs i (fun m => { m with armed := false, stale := true }) s)
  if s.sys.pendingKnot = some (.milestone i) then notice Err.knotStale [] (knotWithdraw s) else s

/-- Arm a milestone, with its stale check (R180). -/
def msArm (i : Nat) (s : State) : State :=
  let s := mMs i (fun m => { m with armed := true, stale := false }) s
  let d := msD s i
  let rev := msRev s i
  let s := mMs i (fun m => { m with dPrev := d }) s
  if pastZero rev d && moving s (msSrc s i) rev then
    (if bit (msReg s i 0) 29 then mMs i (fun m => { m with armed := false, due := some ((enc s (msSrc s i)).rc, rev) }) s
     else msStale i s)
  else s

/-- CMP is set, which re-checks an armed milestone (R180, R187). -/
def msLoad (i : Nat) (v : Int) (s : State) : State :=
  let s := mMs i (fun m => { m with cmp := v }) s
  if (milestone s i).armed then msArm i s else s

/-- Disarm a milestone (R187). -/
def msDisarm (i : Nat) (s : State) : State := mMs i (fun m => { m with armed := false }) s

/-- What a write or a capture does to a milestone (R180, R184, R187). -/
def msOp (i : Nat) (o : MsOp) (s : State) : State :=
  match o with
  | .arm => msArm i s
  | .disarm => msDisarm i s
  | .load v => msLoad i v s
  | .capture v => msArm i (mMs i (fun m => { m with cmp := v }) s)

/-- In the sample in which a milestone fires, such an event takes effect from the next sample (R181; log 131). -/
def msDo (i : Nat) (o : MsOp) (s : State) : State :=
  if (milestone s i).due.isSome then mMs i (fun m => { m with later := m.later ++ [o] }) s else msOp i o s

/-- The events that waited for a firing take effect (R181). -/
def msLater (i : Nat) (s : State) : State := each (msDo i) (milestone s i).later (mMs i (fun m => { m with later := [] }) s)

/-- The evaluation of a milestone at the end of a sample (R179). -/
def msEval (i : Nat) (s : State) : State :=
  let m := milestone s i
  let d := msD s i
  let q := bits (msReg s i 0) 28 27
  let fwd := decide (m.dPrev < 0) && decide (0 ≤ d)
  let bwd := decide (0 < m.dPrev) && decide (d ≤ 0)
  let rev := msRev s i
  let hit := m.armed && (if q = 0 then fwd else if q = 1 then bwd else if rev then bwd else fwd)
  mMs i (fun m => { m with
    dPrev := d
    armed := m.armed && !hit
    due := if hit then some (m.cmp, rev) else m.due }) s

/-- A pending knot whose position the road has reached becomes due (R26). -/
def knotReach (s : State) : State :=
  match s.sys.pendingPos with
  | none => s
  | some p =>
    let d := sgn 64 (road s * 65536 - p)
    if s.sys.knotDue.isNone && (if s.fir.geo.rev then decide (d ≤ 0) else decide (0 ≤ d)) then
      mSys (fun y => { y with knotDue := some p }) s
    else s

/-- POS_REVERSE at the first instant at which the direction state opposes the pass, once per layer (R177). -/
def reverseCheck (s : State) : State :=
  let c := printCh s
  if (enc s c).rev = s.fir.geo.rev then s
  else each (fun (l : Layer) s =>
    if l.revLogged then s
    else notice Err.posReverse [c, l.id] (mLayer l.id (fun l => { l with revLogged := true }) s)) (printingLayers s) s

/-- The end of a 5 ns sample in which channel `c` changed (R177, R179, R182). -/
def sampleEnd (c : Nat) (s : State) : State :=
  let s := if c = printCh s then reverseCheck (knotReach s) else s
  each (fun i s => if msSrc s i = c then msEval i s else s) (List.range 32) s

/-- A pair of the channel is in detected disagree. -/
def disagrees (s : State) (c i : Nat) : Bool := (enc s c).disagree.getLsbD i

/-- The number of a pair in flags and arguments (log 12). -/
def pairNo : EncPair → Nat
  | .a => 0 | .b => 1 | .z => 2

/-- The outputs of COPY: the receivers' levels, as far as commands give them (R178; log 130). -/
def ptCopy (c : Nat) (z : Bool) (s : State) : State :=
  if bits (posReg s c 0x1C) 31 30 = 1 ∧ encSsi s c = false then emit (.ptStep c (enc s c).lvA (enc s c).lvB z) s else s

/-- Accepted levels of A and B (R164 to R166). -/
def encEdge (c : Nat) (a b fast more : Bool) (s : State) : State :=
  if !keepRuns s then s
  else
    let e := enc s c
    let s := ptCopy c false (mEnc c (fun e => { e with lvA := a, lvB := b }) s)
    if !encEn s c || encSsi s c || disagrees s c 0 || disagrees s c 1 then s
    else
      let s :=
        if e.lvA ≠ a ∧ e.lvB ≠ b then raiseLim .fault Err.quadErr c (ms 1) [] (posErr c 0 (posStat c 3 s))
        else
          let d := quadStep e.lvA e.lvB a b
          let s := countBy c (if encInv s c then -d else d) s
          if fast && d ≠ 0 then raiseLim .fault Err.encRate c (ms 1) [] (posErr c 1 (posStat c 4 s)) else s
      if more then s else sampleEnd c s

/-- A disagree is detected (R163). -/
def wireBad (c : Nat) (p : EncPair) (s : State) : State :=
  let i := pairNo p
  faultErr Err.encWire [c, i] (posErr c 3 (posStat c i (mEnc c (fun e => { e with disagree := e.disagree ||| BitVec.ofNat 3 (2 ^ i) }) s)))

/-- A disagree ends (R163, R485). -/
def wireGood (c : Nat) (p : EncPair) (s : State) : State :=
  let i := pairNo p
  endFault Err.encWire (fun a => a.take 2 == [c, i]) (mEnc c (fun e => { e with
    disagree := e.disagree &&& ~~~ BitVec.ofNat 3 (2 ^ i)
    lostLogged := if i < 2 then e.lostLogged &&& ~~~ BitVec.ofNat 3 (2 ^ i) else e.lostLogged }) s)

/-- The bit of a cause of ENC_LOST in `lostLogged`. -/
def lostBit : LostCause → Nat
  | .pairA => 0 | .pairB => 1 | .ssi => 2

/-- The condition of ENC_LOST that the state shows (R163, R170). -/
def lostCan (s : State) (k : LostCause) : Bool :=
  let c := printCh s
  inPrint s && !(enc s c).lostLogged.getLsbD (lostBit k) && (match k with
    | .pairA => disagrees s c 0
    | .pairB => disagrees s c 1
    | .ssi => encSsi s c && decide (3 ≤ (enc s c).ssiBad))

/-- The qualifier of an index (R171). -/
def indexQual (s : State) (c : Nat) : Bool :=
  let e := enc s c
  match bits (posLive s c 8) 27 26 with
  | 0 => true
  | 1 => e.lvA
  | 2 => e.lvB
  | _ => e.lvA && e.lvB

/-- The expected count nearest to `rc`, the lower on a tie (R171). -/
def indexExpect (s : State) (c : Nat) (rc : Int) : Int :=
  let p := (posLive s c 0xC).toInt
  let per := (posLive s c 0x10).toNat
  if per = 0 then p
  else
    let d := rcDiff rc p
    let r := d % (per : Int)
    p + (d - r) + (if (per : Int) < 2 * r then (per : Int) else 0)

/-- An index is taken (R171, R172). -/
def indexTake (c : Nat) (s : State) : State :=
  let e := enc s c
  let mode := bits (posLive s c 8) 31 30
  let win := bits (posLive s c 8) 15 0
  let slip := rcDiff e.rc (indexExpect s c e.rc)
  let s := mEnc c (fun e => { e with slip := slip }) s
  if win = 65535 ∨ slip.natAbs ≤ win then
    let s := mEnc c (fun e => { e with
      rc := sgn 48 (e.rc - slip), x := sgn 64 (e.x - slip * 65536), turn := sgn 48 (e.turn - slip)
      armed := if mode = 2 then false else e.armed }) s
    let s := if c = printCh s then mPos (fun p => { p with hwm := sgn 48 (p.hwm - slip) }) s else s
    let s := doIf (decide (sgn 48 (e.rc - slip) ≠ e.rc - slip)) (notice Err.posWrap []) s
    if slip ≠ 0 then notice Err.idxSlip [argI slip] (posStat c 6 s) else s
  else faultErr Err.idxFault [] (posStat c 7 s)

/-- A rising edge of Z (R171). -/
def zEdge (c : Nat) (more : Bool) (s : State) : State :=
  let mode := bits (posLive s c 8) 31 30
  let take := keepRuns s && encEn s c && !encSsi s c && !disagrees s c 2 && indexQual s c
    && (mode == 1 || (mode == 2 && (enc s c).armed))
  let s := doIf (keepRuns s) (ptCopy c true) s
  let s := if take then indexTake c s else s
  if more || !take then s else sampleEnd c s

/-- A discarded SSI frame (R169, R170). -/
def ssiDiscard (c : Nat) (s : State) : State :=
  faultErr Err.ssiErr [] (posErr c 2 (posStat c 5 (mEnc c (fun e => { e with ssiBad := e.ssiBad + 1 }) s)))

/-- Gray code to binary: bit i is the parity of bits i and above (R168). -/
def fromGray (w : Nat) : Nat := (List.range 32).foldl (fun x i => x ^^^ (w >>> (i + 1))) w

/-- A valid SSI word (R170). -/
def ssiValid (c w : Nat) (s : State) : State :=
  let width := bits (posReg s c 4) 31 26
  let inv := encInv s c
  let e := enc s c
  let s := mEnc c (fun e => { e with ssiBad := 0, lostLogged := e.lostLogged &&& 3 }) s
  match e.ssiPrev with
  | none => sampleEnd c (hwmFollow c (encStart c (if inv then -(w : Int) else w) (mEnc c (fun e => { e with ssiPrev := some w }) s)))
  | some p =>
    let d := sgn width ((w : Int) - p)
    if d.natAbs ≤ min (2 ^ (width - 2)) 65535 then
      let s := countBy c (if inv then -d else d) (mEnc c (fun e => { e with ssiPrev := some w }) s)
      sampleEnd c (mEnc c (fun e => { e with ssiMeas := some (sgn 64 (e.rc * 65536 - e.ssiX)) }) s)
    else faultErr Err.ssiJump [] (posErr c 2 (mEnc c (fun k => { k with ssiBad := e.ssiBad + 1, lostLogged := e.lostLogged }) s))

/-- An SSI frame is complete: its word and parity have been clocked in and the data line has returned high (R168 to R170; log 79). -/
def ssiDone (c : Nat) (w : Word) (par : Bool) (s : State) : State :=
  let width := bits (posReg s c 4) 31 26
  let w := w.toNat % 2 ^ width
  let odd := ((List.range 32).filter (fun i => w.testBit i)).length % 2 == 1
  let s := mEnc c (fun e => { e with ssiBusy := false }) s
  if bit (posReg s c 4) 24 && par != odd then ssiDiscard c s
  else ssiValid c (if bit (posReg s c 4) 25 then fromGray w else w) s

/-- π to 36 digits over 10^35, from which the gains are formed (R173). -/
def piNum : Nat := 314159265358979323846264338327950288

/-- Gain i of R173 as `round (k_i × 2^56)`: k1 = 3w, k2 = 3w², k3 = w³ with w = ωT = 2π × BW × 10^-7. -/
def obsGain (i bw : Nat) : Int :=
  let num := 2 * piNum * bw
  let den := 10 ^ 42
  let (n, d) := match i with
    | 1 => (3 * num, den)
    | 2 => (3 * num * num, den * den)
    | _ => (num * num * num, den * den * den)
  ((2 * n * 2 ^ 56 + d) / (2 * d) : Nat)

/-- One observer update (R173). -/
def obsUpdate (c : Nat) (s : State) : State :=
  let ch := enc s c
  let bw := bits (obsReg s c) 14 0
  let xp := ch.x + (ch.v >>> 24) + (ch.a >>> 41)
  let vp := ch.v + (ch.a >>> 16)
  let blind := disagrees s c 0 || disagrees s c 1
  let e : Int := if blind then 0
    else if encSsi s c then (match ch.ssiMeas with | some m => m | none => 0)
    else sgn 64 (ch.rc * 65536 - xp)
  let s := mEnc c (fun k => { k with
    x := sgn 64 (xp + ((obsGain 1 bw * e) >>> 56)), v := sgn 64 (vp + ((obsGain 2 bw * e) >>> 32)),
    a := sgn 64 (ch.a + ((obsGain 3 bw * e) >>> 16)), ssiMeas := none }) s
  if 8 * 65536 < e.natAbs then raiseLim .fault Err.obsTrack c (ms 1) [] (posStat c 8 s) else s

/-- The target count of a SYNTH output (R178). -/
def ptTarget (s : State) (c : Nat) : Int :=
  (enc s (bits (posReg s c 0x1C) 29 28)).rc * (posReg s c 0x20).toInt / 65536

/-- One step of a SYNTH output towards its target (R178). -/
def ptStep (c : Nat) (s : State) : State :=
  let o := ptTarget s c
  let e := enc s c
  let lag := (o - e.ptOut).natAbs
  let up := decide (e.ptOut < o)
  let out := if up then e.ptOut + 1 else e.ptOut - 1
  let ph := if up then (e.ptPhase + 1) % 4 else (e.ptPhase + 3) % 4
  let zper := bits (posReg s c 0x1C) 23 0
  let z := zper ≠ 0 && out % (zper : Int) == 0
  let s := emit (.ptStep c (ph == 1 || ph == 2) (ph == 2 || ph == 3) z)
    (mEnc c (fun e => { e with ptOut := out, ptPhase := ph, ptZ := z }) s)
  if 16 < lag then raiseLim .fault Err.ptLag c (ms 1) [] (posStat c 9 s) else s

/-- v in 1/16 count per ms (R174; log 13). -/
def velOf (e : EncChan) : Int := e.v * 160000 / 2 ^ 40

/-- a in counts/s² (R174; log 13). -/
def accOf (e : EncChan) : Int := e.a * 10 ^ 14 / 2 ^ 56

/-- Capture the snapshot of R186. -/
def opPosSnap (c : Nat) (s : State) : State :=
  let h := if c = printCh s then s.pos.hwm else 0
  mEnc c (fun e => { e with snapRc := e.rc, snapHwm := h, snapV := velOf e, snapA := accOf e }) s

/-- An axis in GEAR follows the channel (R185, R344). -/
def gearedTo (s : State) (c : Nat) : Bool := s.axs.toList.any (fun a => a.mode == 2 && a.src == c)

/-- The channel is running for RWI (R185). -/
def encRunning (s : State) (c : Nat) : Bool :=
  (c == printCh s && inPrint s) || (List.range 32).any (fun i => (milestone s i).armed && msSrc s i == c) || gearedTo s c

/-- Effect of a write to POS_CHn_CTL whose bits have been stored: a change of MODE or EN from 0 to 1 restarts counting
(R185); `old` is the value before. -/
def opPosCtl (c : Nat) (old new : Word) (s : State) : State :=
  if bit old 30 ≠ bit new 30 ∨ (bit old 31 = false ∧ bit new 31 = true) then
    let s := mEnc c (fun e => { e with ssiPrev := none, ssiBusy := false, ssiBad := 0 }) s
    if bit new 30 then mEnc c (fun e => { e with started := false }) (encStart c (enc s c).rc s) else encStart c 0 s
  else s

/-- A write to POS_CHn_PT has been stored (R178): OFF drives the outputs low, COPY passes the inputs on, SYNTH starts from low. -/
def opPosPt (c : Nat) (old : Word) (s : State) : State :=
  if bits old 31 30 = bits (posReg s c 0x1C) 31 30 then s
  else if bits (posReg s c 0x1C) 31 30 = 1 then ptCopy c false s
  else emit (.ptStep c false false false) (mEnc c (fun e => { e with ptPhase := 0, ptZ := false }) s)

/-- ARM of POS_CHn_IDX (R171). -/
def opIdxArm (c : Nat) (s : State) : State := mEnc c (fun e => { e with armed := true }) s

/-- ARM of a write to MIL_MSn_CTL arms or disarms the milestone (R180, R187). -/
def opMsCtl (i : Nat) (v : Word) (s : State) : State := msDo i (if bit v 31 then .arm else .disarm) s

/-- The value that a write to MIL_MSn_CMPHI commits, with the CMPLO last written (R187). -/
def msStaged (i : Nat) (v : Word) (s : State) : Nat := bits v 15 0 * 2 ^ 32 + (milestone s i).cmpLo.toNat

/-- CMP is committed, which re-checks an armed milestone (R180, R187). -/
def opMsCommit (i v : Nat) (s : State) : State := msDo i (.load (sgn 48 v)) s

/-- An EXT_SYNC edge (R184). -/
def syncEdge (n : Nat) (rising : Bool) (s : State) : State :=
  let c := liveVal s (base 13 + 0x40 + 0x10 * n)
  let e := bits c 31 30
  if !keepRuns s || !(e == 3 || (e == 1 && rising) || (e == 2 && !rising)) then s
  else
    let cap := (enc s (bits c 29 28)).rc
    let old := vget s.mil.sync n ⟨0, 0, false⟩
    let s := mMil (fun m => { m with sync := vmod m.sync n (fun x => { x with cap := cap, unread := true }) }) s
    let s := if old.unread then notice Err.syncOvr [] s else s
    if bit c 27 then
      let i := bits c 26 22
      let ofs : Int := (liveVal s (base 13 + 0x44 + 0x10 * n)).toNat
      let cmp := sgn 48 (cap + (if msRev s i then -ofs else ofs))
      msDo i (.capture cmp) s
    else s

/-- The pin of a pulse output and the register that governs it (R183). -/
def pulsePin : PulseOut → String × Nat × Nat
  | .msOut m => ("MS_OUT", m.val, base 13 + 0x10 + 4 * m.val)
  | .camTrig m => ("CAM_TRIG", m.val, base 13 + 0x20 + 4 * m.val)

/-- A pulse output is at its active level. -/
def pulseOn (s : State) : PulseOut → Bool
  | .msOut m => s.mil.outOn.getLsbD m
  | .camTrig m => s.mil.camOn.getLsbD m

/-- Drive a pulse output to its active level or back (R183). -/
def pulseSet (o : PulseOut) (on : Bool) (s : State) : State :=
  let (name, i, r) := pulsePin o
  let upd (w : BitVec 4) : BitVec 4 := if on then w ||| BitVec.ofNat 4 (2 ^ i) else w &&& ~~~ BitVec.ofNat 4 (2 ^ i)
  let s' := match o with
    | .msOut _ => mMil (fun m => { m with outOn := upd m.outOn }) s
    | .camTrig _ => mMil (fun m => { m with camOn := upd m.camOn }) s
  if pulseOn s o = on then s' else emit (.pin name i (bit (liveVal s r) 30 == on)) s'

/-- A new POL of an MS_OUT or CAM_TRIG takes its pin to the level that it now gives it (R183; log 113). -/
def pulseRepol (o : PulseOut) (old : Word) (s : State) : State :=
  let (name, i, r) := pulsePin o
  let pol := bit (liveVal s r) 30
  if pol = bit old 30 then s else emit (.pin name i (pol == pulseOn s o)) s

/-- The pulse output that a register of MIL governs (R187). -/
def pulseOf (o : Nat) : Option PulseOut :=
  firstSome (fun (m : Fin 4) => if o = 0x10 + 4 * m.val then some (.msOut m) else if o = 0x20 + 4 * m.val then some (.camTrig m) else none)
    [0, 1, 2, 3]

/-- One waiting write takes effect (R180, R183, R185, R187). -/
def liveOne (w : Nat × Nat) (s : State) : State :=
  let (a, v) := w
  let old := liveVal s a
  let put (s : State) : State := mPos (fun p => { p with live := spSet (regReset a) p.live a (w32 v) }) s
  if a / 0x10000 ≠ 13 then put s
  else
    let o := a % 0x10000
    match instOf o 0x100 32 0x20 with
    | some (i, 0) => opMsCtl i (w32 v) (put s)
    | some (i, 8) => opMsCommit i v s
    | _ => match pulseOf o with
      | some p => pulseRepol p old (put s)
      | none => put s

/-- The writes that wait for this position sample take effect, in the order in which they were made (R185). -/
def takeLive (s : State) : State := each liveOne s.pos.waiting (mPos (fun p => { p with waiting := [] }) s)

/-- ENCODER_EDGE (R164 to R167, R175 to R177, R179). -/
def execEncoderEdge (ch : Enc) (a b fast more : Bool) (s : State) : Host.Outcome State Fault Refusal :=
  always (encEdge ch a b fast more) s

/-- WIRE_DISAGREE (R163). -/
def execWireDisagree (ch : Enc) (pair : EncPair) (s : State) : Host.Outcome State Fault Refusal :=
  always (fun s => if keepRuns s && !disagrees s ch (pairNo pair) then wireBad ch pair s else s) s

/-- WIRE_AGREE (R163, R485). -/
def execWireAgree (ch : Enc) (pair : EncPair) (s : State) : Host.Outcome State Fault Refusal :=
  always (fun s => if disagrees s ch (pairNo pair) then wireGood ch pair s else s) s

/-- ENC_LOST (R163, R170). -/
def execEncLost (cause : LostCause) (s : State) : Host.Outcome State Fault Refusal :=
  event (lostCan s cause) "ENC_LOST" (fun s => raise .stop Err.encLost []
    (mEnc (printCh s) (fun e => { e with lostLogged := e.lostLogged ||| BitVec.ofNat 3 (2 ^ lostBit cause) }) s)) s

/-- INDEX (R171, R172). -/
def execIndex (ch : Enc) (more : Bool) (s : State) : Host.Outcome State Fault Refusal := always (zEdge ch more) s

/-- SSI_FRAME_START (R168, R169). -/
def execSsiFrameStart (ch : Enc) (dataHigh : Bool) (s : State) : Host.Outcome State Fault Refusal :=
  event (keepRuns s && encEn s ch && encSsi s ch && !(enc s ch).ssiBusy) "SSI_FRAME_START" (fun s =>
    if dataHigh then mEnc ch (fun e => { e with ssiBusy := true, ssiX := e.x }) s else ssiDiscard ch s) s

/-- SSI_WORD (R168, R170). -/
def execSsiWord (ch : Enc) (w : Word) (parity : Bool) (s : State) : Host.Outcome State Fault Refusal :=
  event (keepRuns s && encEn s ch && encSsi s ch && (enc s ch).ssiBusy) "SSI_WORD" (ssiDone ch w parity) s

/-- SSI_RELEASE_TIMEOUT (R169). -/
def execSsiReleaseTimeout (ch : Enc) (s : State) : Host.Outcome State Fault Refusal :=
  event (keepRuns s && encEn s ch && encSsi s ch && (enc s ch).ssiBusy) "SSI_RELEASE_TIMEOUT"
    (fun s => ssiDiscard ch (mEnc ch (fun e => { e with ssiBusy := false }) s)) s

/-- OBSERVER_UPDATE (R173, R174, R185): a position sample of the channel, whose observer runs while it is enabled and counts. -/
def execObserverUpdate (ch : Enc) (s : State) : Host.Outcome State Fault Refusal :=
  event (keepRuns s) "OBSERVER_UPDATE"
    (fun s => let s := takeLive s; if encEn s ch && (enc s ch).started then obsUpdate ch s else s) s

/-- PT_SYNTH_STEP (R178). -/
def execPtSynthStep (ch : Enc) (s : State) : Host.Outcome State Fault Refusal :=
  event (keepRuns s && decide (bits (posReg s ch 0x1C) 31 30 = 2) && decide (ptTarget s ch ≠ (enc s ch).ptOut)) "PT_SYNTH_STEP" (ptStep ch) s

/-- EXT_SYNC_CAPTURE (R180, R184). -/
def execExtSyncCapture (n : Fin 2) (rising : Bool) (s : State) : Host.Outcome State Fault Refusal := always (syncEdge n rising) s

/-- MS_OUT_PULSE_END (R183). -/
def execMsOutPulseEnd (out : PulseOut) (s : State) : Host.Outcome State Fault Refusal :=
  event (pulseOn s out) "MS_OUT_PULSE_END" (pulseSet out false) s

end Sys2Proof.Machine
end

