-- ==== Sys2Proof/Machine/Release.lean ====
section
/-! DEFINITION. Position samples of the print channel (07_firing): release and its marks (R190, R206), underruns (R147 to
R149), the predicted strike instant (R192, R193), the minimum period and lag (R208 to R210), and stop points. -/

namespace Sys2Proof.Machine

/-- The remaining time of R192 in 125 ps; division of a signed value rounds towards zero (log 16). -/
def predict (dir tr x v a : Int) : Option Nat :=
  let gap := sgn 64 (dir * (tr - x))
  let w := dir * v
  if gap ≤ 0 then some 0
  else if w ≤ 0 then none
  else
    let t0 : Int := (gap * 2 ^ 40).tdiv w
    if 64 * 65536 ≤ t0 then none
    else
      let c : Int := ((dir * a * t0 * t0) >>> 33).tdiv w
      let t1 : Int := max (t0 - c) 0
      some (((t1 * 800 + 32768) >>> 16) % 2 ^ 32).toNat

/-- The speed towards the triggers, w of R209. -/
def speedW (s : State) : Int := geoDir s.fir.geo * (enc s (printCh s)).v

/-- TPER of a trigger (R261). -/
def tperOf (w : Int) (cpl : Nat) : Nat := if w ≤ 0 then 0xFFFFFF else min 0xFFFFFF (cpl * 2 ^ 24 * 50 / w.toNat)

/-- The overspeed predictor (R209). -/
def ovsCheck (s : State) : State :=
  let g := s.fir.geo
  let w := speedW s
  if s.fir.grid.isNone ∨ w ≤ 0 then setOvs false s
  else
    let ad := geoDir g * (enc s (printCh s)).a
    let tl : Int := (64 * g.cpl * 2 ^ 24 : Int) / w
    let wp := w + ((max ad 0 * tl) >>> 16)
    let pmax := maxNat ((geoPorts g).map (fun p => nth g.minp p 2000))
    let wl : Int := (g.cpl * 2 ^ 24 * 50 / pmax : Nat)
    let m := max w wp
    if s.fir.ovs then (if m ≤ wl - wl / 32 then setOvs false s else s)
    else if wl < m then setOvs true (notice Err.ovsPredict [] s) else s

/-- Stop points that decoder errors under the STOP policy have named (R122, R125): the release point of the first affected
line on its segment. -/
def decoderStops (s : State) : State :=
  match s.fir.grid with
  | none => s
  | some gr =>
    if s.sys.st = .stopped ∨ s.sys.st = .faulted then s
    else each (fun (x : SegGeo) s =>
      match (strand s x.seg).stopAt with
      | none => s
      | some (id, ln) =>
        if !gr.layers.contains id then s
        else match layerOf s id with
          | none => s
          | some l =>
            let k := l.joined + ln + x.coarse
            mFir (fun f => { f with stopDue := true }) (stopAt (relOf (geoAt s gr (segPort x.seg) k) gr (segPort x.seg) k) s))
      s.fir.geo.segs s

/-- The device enters Stopped once `rel` has come to the stop point (R61, R122, R235). -/
def stopReached (rel : Int) (s : State) : State :=
  if s.fir.stopDue && beyondStop s rel then enterStopped (mFir (fun f => { f with stopDue := false }) s) else s

/-- The triggers of port `p` that a sample releases, from `k` on (R190). -/
def dueFrom (s : State) (gr : Grid) (p : Nat) : Nat → Nat → List (Nat × Nat × Int)
  | 0, _ => []
  | n + 1, k =>
    let g := geoAt s gr p k
    let r := relOf g gr p k
    if (geoPorts g).contains p ∧ k ≤ gridLast s gr g p ∧ atOrBeyond g (s.pos.hwm * 65536) r = true then (p, k, r) :: dueFrom s gr p n (k + 1) else []

/-- All triggers that a sample releases, in order of their release road counts in the direction of travel, then of their
ports (R190). -/
def dueAll (s : State) (gr : Grid) : List (Nat × Nat × Int) :=
  let g := s.fir.geo
  let one := fun p =>
    let f := firPort s p
    if f.isOpen then dueFrom s gr p (gridLast s gr g p + 1 - f.kr) f.kr else []
  sortBy (fun a b => decide (geoDir g * sgn 64 (a.2.2 - b.2.2) < 0) || (decide (a.2.2 = b.2.2) && decide (a.1 ≤ b.1)))
    ((List.range 64).flatMap one)

/-- The lines of a trigger that carry nothing: code 0, already mapped (R200). -/
def zeroLine (g : Geo) (x : SegGeo) (mapped : Bool) (layer : Nat) (ln : Int) (d : Nat) (raw : List Nat) (srcs : List DetourSrc) : SegLine where
  seg := x.seg
  first := x.first
  layer := layer
  sline := ln
  depth := d
  raw := raw
  gs := segStagger g x
  ents := []
  srcs := srcs
  mapped := if mapped then some raw else none
  staged := none

/-- What the strands of a port deliver at a trigger, in ascending segments. -/
def deliverAll (gr : Grid) (g : Geo) (p k : Nat) (discard : Bool) (s : State) :
    State × List (SegGeo × Option (List Nat) × Nat × Int × Nat) :=
  (g.segs.filter (fun x => segPort x.seg == p)).foldl (fun acc x =>
    let d := deliver gr x k discard acc.1
    (d.1, acc.2 ++ [(x, d.2)])) (s, [])

/-- Before a release: port masks that begin there (R215), nozzle changes (R217), and, on the reference port, what a pair
has agreed for its line count (R419, R430). -/
def beforeRelease (p k lc : Nat) (s : State) : State :=
  let due := s.nzl.absentPending.filter (fun x => decide (x.2 ≤ k))
  let s := each (fun (x : Nat × Nat) s => portMask x.1 true s) due
    (mNzl (fun z => { z with absentPending := z.absentPending.filter (fun x => !decide (x.2 ≤ k)) }) s)
  let s := if p = refPort s then yieldDue lc (ctlDue lc s) else s
  updLateCount p (nzBefore p lc s)

/-- Enter a released trigger on its port. -/
def pushTrig (p : Nat) (g : Geo) (t : Trig) (s : State) : State :=
  let co := (g.segs.filter (fun x => segPort x.seg == p)).map (fun x => (x.seg, x.coarse))
  let toks := (t.lines.filter (fun l => l.mapped.isNone)).map (fun l => (p, t.k, l.seg))
  mFir (fun f => { f with s5 := f.s5 ++ toks })
    (mPort p (fun f => { f with
      kr := t.k + 1, first := (match f.first with | some x => some x | none => some t.k), trigs := f.trigs ++ [t],
      skipPending := false, hist := ((t.k, co) :: f.hist).take 16 }) s)

/-- An underrun (R147 to R149): BLANK makes a NULL line of the trigger, STOP a stop point. -/
def underrun (p k layer strand : Nat) (rel : Int) (s : State) : State :=
  let s := mStr (fun t => { t with cntUnder := t.cntUnder + 1 }) s
  let stop := match layerOf s layer with | some l => l.undStop | none => false
  if stop then stopAt rel (raise .stop Err.underrun [p, k, layer, strand] s) else faultErr Err.underrun [p, k, layer, strand] s

/-- Ports of one release point, given by their triggers, of which one underruns under the policy STOP: the stop point comes before the
release of any of them (R149). -/
def stopUnder (gr : Grid) (group : List (Nat × Nat × Int)) (s : State) : State :=
  let bad := fun (x : Nat × Nat × Int) =>
    if (firPort s x.1).skipPending then none
    else ((deliverAll gr (geoAt s gr x.1 x.2.1) x.1 x.2.1 false s).2.find? (fun d => d.2.1.isNone)).bind (fun d =>
      match layerOf s d.2.2.1 with
      | some l => if l.undStop then some (x, d.2.2.1, d.1.seg) else none
      | none => none)
  match group with
  | [] => s
  | x :: _ =>
    if s.sys.st = .faulted ∨ s.sys.st = .stopped ∨ s.sys.st = .held ∨ beyondStop s x.2.2 then s
    else match group.findSome? bad with
      | some (y, layer, seg) => underrun y.1 y.2.1 layer seg y.2.2 s
      | none => s

/-- Release trigger `k` of port `p` (R190, R206). -/
def releaseTrig (p k : Nat) (rel : Int) (s : State) : State :=
  match s.fir.grid with
  | none => s
  | some gr =>
    let g := geoAt s gr p k
    let lc := lcOf gr k
    let s := beforeRelease p k lc (stopReached rel s)
    if s.fir.grid.isNone then s else
    let lay := frameLayer s gr g p k
    let hold := (firPort s p).skipPending
    let t0 : Trig :=
      { k := k, lc := lc, tr := trOf g gr p k, dir := geoDir g, cpl := g.cpl, mark := .null, layer := lay,
        minp := 16 * nth g.minp p 2000, stb := nth g.stb p 0x40000014, sat := g.sat, conf := g.conf, dremap := g.dremap,
        rowen := portRowen g p, phase := portPhase g p, depth := maxNat ((gridLayers s gr).map (·.depth)), nw := portNw g p,
        tper := tperOf (speedW s) g.cpl, absent := s.nzl.absent, lines := [], overlap := [], built := false, frame := none,
        sent := false, frozen := none, lagging := false, struck := false }
    if s.sys.st = .faulted then pushTrig p g t0 s
    else if (s.sys.st = .stopped ∧ s.fir.knotTail = false) ∨ beyondStop s rel = true ∨ s.sys.st = .held then
      let d := deliverAll gr g p k true s
      let s := d.1
      let held := decide (s.sys.st = .held) && !beyondStop s rel
      let s := if held then faultErr Err.heldSkip [p, lc % 2 ^ 32, lc / 2 ^ 32, lay] s else s
      pushTrig p g { t0 with lines := d.2.map (fun x => zeroLine g x.1 true x.2.2.1 x.2.2.2.1 x.2.2.2.2 (List.replicate x.1.width 0) []) } s
    else
      let d := deliverAll gr g p k false s
      let s := d.1
      let line := fun (x : SegGeo × Option (List Nat) × Nat × Int × Nat) =>
        let own := s.nzl.sources.filter (fun y => nozPort y.noz == p && decide (x.1.first ≤ y.noz % 4096)
          && decide (y.noz % 4096 < x.1.first + x.1.width))
        zeroLine g x.1 false x.2.2.1 x.2.2.2.1 x.2.2.2.2 (match x.2.1 with | some c => c | none => List.replicate x.1.width 0)
          (if x.2.1.isSome then own else [])
      let lines := d.2.map line
      let miss := d.2.find? (fun x => x.2.1.isNone)
      if hold then
        let s := faultErr Err.ovsSkip [p, lc % 2 ^ 32, lc / 2 ^ 32, lay] (mFir (fun f => { f with cntSkip := f.cntSkip + 1 }) s)
        pushTrig p g { t0 with mark := .skip, lines := lines } s
      else match miss with
        | some x => pushTrig p g { t0 with lines := lines } (underrun p k x.2.2.1 x.1.seg rel s)
        | none => pushTrig p g { t0 with mark := .line, lines := lines, overlap := overlapArgs s gr g p k } s

/-- A trigger that needs nothing more: a skipped one with no trigger left to strike before it, or one struck whose frame is gone. -/
def trigDone (f : FirPort) (t : Trig) : Bool :=
  t.lines.all (fun l => l.staged.isSome)
    && (if t.mark = .skip then decide (t.k < f.ks) && f.trigs.all (fun u => u.struck || decide (u.mark = .skip) || decide (t.k < u.k))
        else t.struck && t.sent)

/-- Drop the triggers of a port that need nothing more. -/
def pruneTrigs (p : Nat) (s : State) : State :=
  mPort p (fun f => { f with trigs := f.trigs.filter (fun t => !trigDone f t) }) s

/-- An ordinary line is struck with a lag beyond 64/256 line (R210; log 114). -/
def lagPolicy (p : Nat) (x : Trig) (s : State) : State :=
  let f := firPort s p
  let stop := match layerOf s x.layer with | some l => l.ovsStop | none => false
  if !stop then
    (if f.skipPending || f.trigs.any (fun t => decide (t.mark = .skip) && decide (x.k < t.k)) then s
     else mPort p (fun f => { f with skipPending := true }) s)
  else if s.fir.ovsStopped then s
  else match s.fir.grid with
    | none => s
    | some gr =>
      let lc := lcOf gr f.kr
      stopAt (relOf (geoAt s gr p f.kr) gr p f.kr)
        (raise .stop Err.overspeed [p, lc % 2 ^ 32, lc / 2 ^ 32, x.layer] (mFir (fun f => { f with ovsStopped := true }) s))

/-- Freeze the strike of the port's next trigger when its predicted instant is near (R192, R193, R208). -/
def freezePort (t p : Nat) (s : State) : State :=
  let f := firPort s p
  match f.trigs.find? (fun x => x.frozen.isNone && decide (x.mark ≠ .skip)) with
  | none => mPort p (fun f => { f with ks := f.kr }) s
  | some x =>
    let s := mPort p (fun f => { f with ks := x.k }) s
    let e := enc s (printCh s)
    match predict x.dir x.tr e.x e.v e.a with
    | none => s
    | some tau =>
      if 3200 ≤ tau then s
      else
        let tp := t + tau
        let tf := max tp (max (t + 2400) (if f.tlast = 0 then 0 else f.tlast + x.minp))
        let s := if tau < 2400 then
            faultErr Err.strikeLate [p, x.lc % 2 ^ 32, x.lc / 2 ^ 32] (mFir (fun f => { f with cntLate := f.cntLate + 1 }) s)
          else s
        let lagl : Int := (((tf - tp : Nat) : Int) * (x.dir * e.v)) / 2 ^ 24 * 256 / (800 * x.cpl)
        let fz (y : Trig) : Trig := { y with frozen := some (tf, (max lagl 0).toNat), lagging := decide (tp < tf) }
        mPort p (fun f => { f with tlast := tf, ks := x.k + 1, trigs := modFirst (fun y => y.k == x.k) fz f.trigs }) s

/-- Ports whose next trigger a knot's geometry governs from this sample on seek as it asks (R138). -/
def knotSeeks (before : List Nat) (s : State) : State :=
  match s.fir.grid, s.fir.oldGeos.getLast? with
  | some gr, some o =>
    each (fun p s => if portTurned s gr p then geoSeek o.2 p (firPort s p).kr s else s)
      (before.filter (fun p => portTurned s gr p)) s
  | _, _ => s

/-- Once every knot's geometry governs alone, a port without an enabled segment leaves the grid; what it has released is
still struck (R62, R139). -/
def portsGone (s : State) : State :=
  if !s.fir.oldGeos.isEmpty then s
  else
    let gone := (List.range 64).filter (fun p => (firPort s p).isOpen && !(geoPorts s.fir.geo).contains p)
    if gone.isEmpty then s
    else nzGridClosed gone.contains (each (fun p s => mPort p (fun f => { f with isOpen := false, skipPending := false }) s) gone s)

/-- The sequence number of the position sample at instant `t`, in 125 ps: one sample leaves KEEP every 100 ns (R18). -/
def sampleSeq (t : Nat) : Nat := t / 800

/-- The sample at `t` is the latest that FIRE has used; those it missed are the gap in the sequence numbers (R18). -/
def sampleUsed (t : Nat) (s : State) : State :=
  mFir (fun f => { f with
    lastSample := some t, missed := match f.lastSample with | some x => sampleSeq t - sampleSeq x - 1 | none => 0 }) s

/-- Release what a sample has due, group after group of one release point (R149, R190). -/
def releaseDue : List (Nat × Nat × Int) → State → State
  | [], s => s
  | x :: r, s =>
    let s := match s.fir.grid with
      | some gr => stopUnder gr (x :: r.takeWhile (fun y => decide (y.2.2 = x.2.2))) s
      | none => s
    releaseDue r (releaseTrig x.1 x.2.1 x.2.2 s)

/-- A position sample of the print channel at instant `t`, in 125 ps (R188 to R193, R206 to R210). -/
def posSample (t : Nat) (s : State) : State :=
  let s := sampleUsed t s
  match s.fir.grid with
  | none => ctlLeft (setOvs false s)
  | some gr =>
    let before := (geoPorts s.fir.geo).filter (fun p => !portTurned s gr p)
    let s := decoderStops s
    let s := releaseDue (dueAll s gr) s
    let s := stopReached (s.pos.hwm * 65536) s
    let s := knotSeeks before (mFir (fun f => { f with knotTail := false }) s)
    let old := s.fir.oldGeos.length
    let s := mFir (fun f => { f with oldGeos := f.oldGeos.filter (fun x => !atOrBeyond x.2 (s.pos.hwm * 65536) x.1) }) s
    let s := doIf (decide (s.fir.oldGeos.length < old)) strandSync s
    let s := portsGone s
    let s := each (fun p s => pruneTrigs p (freezePort t p s)) ((List.range 64).filter (fun p => !(firPort s p).trigs.isEmpty)) s
    ctlLeft (updateMargins (finishLayers (ovsCheck s)))

/-- POSITION_SAMPLE (R189 to R193, R206 to R210): a knot that is due is taken first (R28). -/
def execPositionSample (t : Nat) (s : State) : Host.Outcome State Fault Refusal :=
  event (decide (s.sys.st ≠ .cold) && decide (s.sys.st ≠ .loading) && s.sys.knotDue.isNone
    && (match s.fir.lastSample with | some x => decide (x < t) | none => true)) "POSITION_SAMPLE"
    (fun s => posSample t (if keepRuns s then takeLive s else s)) s

end Sys2Proof.Machine
end

