-- ==== Sys2Proof/Machine/Frames.lean ====
section
/-! DEFINITION. Stages 5 to 8: the nozzle map and detours (08_nozzle_health), the stagger buffer, fire framing and the LINE
frame on the lane (07_firing, 09_gulist_link). -/

namespace Sys2Proof.Machine

/-- Trigger `k` of port `p`, while it is kept. -/
def trigAt (s : State) (p k : Nat) : Option Trig := (firPort s p).trigs.find? (fun t => t.k == k)

/-- Update trigger `k` of port `p`. -/
def mTrig (p k : Nat) (f : Trig → Trig) (s : State) : State :=
  mPort p (fun x => { x with trigs := modFirst (fun t => t.k == k) f x.trigs }) s

/-- Update a segment's line of a trigger. -/
def mLine (p k seg : Nat) (f : SegLine → SegLine) (s : State) : State :=
  mTrig p k (fun t => { t with lines := modFirst (fun l => l.seg == seg) f t.lines }) s

/-- The entry that governs a nozzle's line (R217). -/
def lineEntry (s : State) (l : SegLine) (n : Nat) : Nat :=
  match l.ents.find? (fun x => x.1 == n) with | some x => x.2 | none => nozEntry s n

/-- The code of nozzle index `i` on a line before mapping. -/
def lineRaw (l : SegLine) (i : Nat) : Nat := nth l.raw (i - l.first) 0

/-- The offer of a source on its line: the target, whether it is resolved within the release, and the code (R231, R232). -/
def offerOf (s : State) (t : Trig) (l : SegLine) (x : DetourSrc) : Option (Nat × Bool × Nat) :=
  let e := lineEntry s l x.noz
  let c := lineRaw l (x.noz % 4096)
  let code := min (t.dremap.toNat / 8 ^ c % 8) (2 ^ l.depth - 1)
  let pick : Option (Nat × Bool) :=
    match x.a, x.b with
    | none, none => none
    | some d, none => some (nzTgtA e, d)
    | none, some d => some (nzTgtB e, d)
    | some d, some d' => if nzDmode e = 2 ∨ l.sline % 2 = 0 then some (nzTgtA e, d) else some (nzTgtB e, d')
  if c = 0 ∨ code = 0 ∨ nzDmode e = 0 ∨ silent t.conf (effState t.absent x.noz e) = false then none
  else pick.map (fun q => (q.1, q.2, code))

/-- Carry an offer of the line with count `lc` in its pair's lane, the latest 256 (R233); without a lane that existed at the line's release
it is lost. -/
def laneOffer (src tgt lc : Nat) (o : Offer) (s : State) : State :=
  if s.nzl.lanes.any (fun l => l.src == src && l.tgt == tgt && !l.since.any (fun x => decide (lcDiff lc x < 0))) then
    let upd (l : Lane) : Lane := { l with offers := (l.offers ++ [o]).drop ((l.offers.length + 1) - 256) }
    mNzl (fun z => { z with lanes := modFirst (fun l => l.src == src && l.tgt == tgt) upd z.lanes }) s
  else offerLost src o.layer o.line 4 s

/-- A line that a source fires nowhere, because no target is eligible, is kept for 256 triggers (R233). -/
def orphanLine (t : Trig) (l : SegLine) (x : DetourSrc) (s : State) : State :=
  if x.a.isNone && x.b.isNone && (offerOf s t l { x with a := some true, b := some true }).isSome then
    let young := fun (o : Orphan) => nozPort o.src != nozPort x.noz || decide (lcDiff t.lc o.lc < 256)
    mNzl (fun z => { z with orphans := z.orphans.filter young ++ [⟨x.noz, l.layer, l.sline, t.lc⟩] }) s
  else s

/-- The offers for target `n` on a line, in ascending source number: source and code (R232). -/
def offersFor (s : State) (t : Trig) (l : SegLine) (n : Nat) : List (Nat × Nat) :=
  let lane := s.nzl.lanes.filterMap (fun x =>
    if x.tgt == n then (x.offers.find? (fun o => o.layer == l.layer && o.line == l.sline)).map (fun o => (x.src, o.code)) else none)
  let direct := (t.lines.filter (fun y => y.layer == l.layer && y.sline == l.sline)).flatMap (fun y =>
    y.srcs.filterMap (fun x => match offerOf s t y x with
      | some (tg, true, c) => if tg = n then some (x.noz, c) else none
      | _ => none))
  sortBy (fun a b => decide (a.1 ≤ b.1)) (lane ++ direct)

/-- Resolve offers at a target with its own mapped code `own` (R232): the code it fires. -/
def resolveOffers (ok merge : Bool) (own layer : Nat) (line : Int) : List (Nat × Nat) → Bool → Nat → State → Nat × State
  | [], _, cur, s => (cur, s)
  | (src, c) :: r, acc, cur, s =>
    if !ok then resolveOffers ok merge own layer line r acc cur (offerLost src layer line 1 s)
    else if acc then resolveOffers ok merge own layer line r acc cur (offerLost src layer line 2 s)
    else if own ≠ 0 ∧ merge = false then resolveOffers ok merge own layer line r true cur (offerLost src layer line 3 s)
    else resolveOffers ok merge own layer line r true (max own c) (mNzl (fun z => { z with cntDetour := z.cntDetour + 1 }) s)

/-- The mapped code of nozzle `n` (R214). -/
def mapCode (conf : Word) (st e c d : Nat) : Nat :=
  if silent conf st ∨ c = 0 then 0 else (clampInt 1 (2 ^ d - 1) (c + nzWofs e)).toNat

/-- The mapping of one nozzle of a line, offers included. -/
def mapNozzle (t : Trig) (l : SegLine) (n : Nat) (s : State) : Nat × State :=
  let e := lineEntry s l n
  let st := effState t.absent n e
  let own := mapCode t.conf st e (lineRaw l (n % 4096)) l.depth
  match offersFor s t l n with
  | [] => (own, s)
  | os => resolveOffers (!silent t.conf st) (bit t.conf 21) own l.layer l.sline os false own s

/-- Stage 5 maps a row-segment line (R214, R231 to R233). -/
def mapLine (p k seg : Nat) (s : State) : State :=
  match trigAt s p k with
  | none => s
  | some t => match t.lines.find? (fun l => l.seg == seg) with
    | none => s
    | some l =>
      let s := each (fun x s => match offerOf s t l x with
        | some (tg, false, c) => laneOffer x.noz tg t.lc ⟨l.layer, l.sline, c⟩ s
        | some (_, true, _) => s
        | none => orphanLine t l x s) l.srcs s
      let r := (List.range l.raw.length).foldl (fun (acc : List Nat × State) j =>
        let q := mapNozzle t l (4096 * p + l.first + j) acc.2
        (acc.1 ++ [q.1], q.2)) ([], s)
      let here := fun n => decide (4096 * p + l.first ≤ n) && decide (n < 4096 * p + l.first + l.raw.length)
      let s := mNzl (fun z => { z with lanes := z.lanes.map (fun x =>
        if here x.tgt then { x with offers := x.offers.filter (fun o => !(o.layer == l.layer && o.line == l.sline)) } else x) }) r.2
      mLine p k seg (fun l => { l with mapped := some r.1 }) s

/-- The oldest row-segment line that waits for stage 5, with its layer and line count. -/
def s5Head (s : State) : Option (Nat × Nat × Nat) := s.fir.s5.head?

/-- Stage 5 takes its next token (R502). -/
def mapNext (s : State) : State :=
  match s.fir.s5 with
  | [] => s
  | (p, k, seg) :: rest =>
    match trigAt s p k with
    | none => mFir (fun f => { f with s5 := rest }) s
    | some t =>
      let lay := match t.lines.find? (fun l => l.seg == seg) with | some l => l.layer | none => t.layer
      stageTake 5 [p, k, seg] lay seg (some t.lc) (fun s => mapLine p k seg (mFir (fun f => { f with s5 := rest }) s)) s

/-- A lane whose 256 triggers have passed (R233). -/
def laneFreeable (s : State) (src tgt : Nat) : Bool :=
  s.nzl.lanes.any (fun l => l.src == src && l.tgt == tgt && (match l.freeing, nextLc s (nozPort src) with
    | some f, some lc => decide (0 ≤ lcDiff lc f)
    | some _, none => true
    | none, _ => false))

/-- A 3-bit slot of a nozzle in the STAGGER bank (R198). -/
def slotGet (s : State) (n i : Nat) : Nat := bankWord s 1 (6 * n) 6 / 8 ^ i % 8

/-- Write a 3-bit slot of a nozzle. -/
def slotPut (n i c : Nat) (s : State) : State := bankPut 1 (6 * n) (leBytes 6 (nzPut (3 * i) 3 c (bankWord s 1 (6 * n) 6))) s

/-- Nozzles of port `p` that the STAGGER bank lists and that no line of a trigger covers: their slot is written 0 (R199). -/
def staggerRest (p : Nat) (t : Trig) (s : State) : State :=
  let keys := ((bank s 1).data.map (fun x => x.1 / 6)).filter (fun n => n / 4096 == p)
  let out := keys.filter (fun n => !t.lines.any (fun l => decide (l.first ≤ n % 4096) && decide (n % 4096 < l.first + l.raw.length)))
  each (fun n s => slotPut n (t.lc % 16) 0 s) out s

/-- The oldest trigger of a segment's port whose line has not passed stage 6. -/
def staggerNext (s : State) (n : Nat) : Option (Trig × SegLine) :=
  firstSome (fun (t : Trig) => (t.lines.find? (fun l => l.seg == n && l.staged.isNone)).map (fun l => (t, l))) (firPort s (segPort n)).trigs

/-- Stage 6 writes a line into the stagger buffer and reads what each nozzle fires (R199, R200). -/
def staggerLine (n : Nat) (t : Trig) (l : SegLine) (s : State) : State :=
  let p := segPort n
  let s := if t.lines.all (fun y => y.staged.isNone) then staggerRest p t s else s
  let codes := match l.mapped with | some c => c | none => []
  let js := List.range l.raw.length
  let noz := fun j => 4096 * p + l.first + j
  let s := each (fun j s => slotPut (noz j) (t.lc % 16) (nth codes j 0) s) js s
  let f0 := match (firPort s p).first with | some k => k | none => t.k
  let read := fun j =>
    let g := nth l.gs j 0
    if t.k < f0 + g then 0 else slotGet s (noz j) ((t.lc + 2 ^ 40 - g) % 16)
  pruneTrigs p (mLine p t.k n (fun y => { y with staged := some (js.map read) }) s)

/-- The next trigger of a port whose frame is not built (R201, R206). -/
def buildNext (s : State) (p : Nat) : Option Trig := (firPort s p).trigs.find? (fun t => !t.built && decide (t.mark ≠ .skip))

/-- The codes of a frame by nozzle index (R201). -/
def frameCodes (t : Trig) : List Nat :=
  (List.range t.nw).map (fun i =>
    match t.lines.find? (fun l => decide (l.first ≤ i) && decide (i < l.first + l.raw.length)) with
    | some l => (match l.staged with | some c => nth c (i - l.first) 0 | none => 0)
    | none => 0)

/-- A frame's payload, bytes 0 to 18 + C of its body (R260). -/
def framePayload (f : LineFrame) : Bytes :=
  leBytes 5 f.lc ++ leBytes 4 f.layer ++ leBytes 1 (b2n f.null 0 + 2 * f.depth) ++ leBytes 1 f.rowen.toNat
    ++ leBytes 6 (sumN (f.phase.zipIdx.map (fun x => x.1 * 2 ^ (6 * x.2)))) ++ leBytes 2 f.nw
    ++ leBytes (cdiv (f.nw * f.depth) 8) (f.codes.foldr (fun c acc => c + acc * 2 ^ f.depth) 0)

/-- A frame on a head lane, header to CRC (R257, R258). -/
def gulFrame (ty flags seq : Nat) (body : Bytes) : Bytes :=
  let h := leBytes 1 ty ++ leBytes 1 flags ++ leBytes 2 seq ++ leBytes 2 body.length ++ body
  h ++ leBytes 4 (crc32c h).toNat

/-- The bytes of a LINE frame (R257, R260). -/
def lineBytesOf (f : LineFrame) : Bytes :=
  gulFrame 1 (b2n f.shadow 0 + b2n f.test 1) f.ssn (framePayload f ++ leBytes 4 f.tper ++ leBytes 4 f.claim)

/-- The strike number that port `p`'s next frame carries (R261). -/
def takeSsn (p : Nat) (s : State) : State := mHead p (fun h => { h with nextSsn := (h.nextSsn + 1) % 65536 }) s

/-- The LINE frame of a trigger; `null` for a NULL line (R201, R205, R261, R415). -/
def mkFrame (s : State) (p : Nat) (t : Trig) (null : Bool) : LineFrame where
  lc := t.lc
  layer := t.layer
  null := null
  depth := if null then 0 else t.depth
  rowen := t.rowen
  phase := t.phase
  nw := if null then 0 else t.nw
  codes := if null then [] else frameCodes t
  shadow := shadowOf s p
  test := false
  claim := claimWord s p
  tper := t.tper
  ssn := (headPort s p).nextSsn

/-- Drops counted for the lamps by line count; line counts without a frame count as 0 (R364). -/
def dropRing (p lc nw n : Nat) (s : State) : State :=
  let gap := match vget s.lmp.dropLast p none with | some x => lcDiff lc x.1 | none => 1024
  let none_ (m : WMap) : WMap := if gap ≤ 0 ∨ 1024 ≤ gap then [] else each (fun i m => spSet 0 m ((lc - 1 - i) % 1024) 0) (List.range (gap.toNat - 1)) m
  mLmp (fun l => { l with
    drops := vmod l.drops p (fun m => spSet 0 (none_ m) (lc % 1024) (w32 n))
    dropLast := vmod l.dropLast p (fun _ => some (lc, nw)) }) s

/-- Keep a frame's payload for the line digest (R421), the latest 64 line counts. -/
def keepPayload (p : Nat) (f : LineFrame) (s : State) : State :=
  if !paired s then s
  else
    let old := match s.par.portLcs.find? (fun x => x.1 == f.lc) with | some x => x.2 | none => []
    mPar (fun r => { r with portLcs := ((f.lc, insertBy (fun a b => decide (a.1 ≤ b.1)) (p, framePayload f) (old.filter (fun x => x.1 != p)))
      :: r.portLcs.filter (fun x => x.1 != f.lc)).take 64 }) s

/-- Add `v` to the counter of every nozzle that a frame fires (R202). -/
def countDrops (p : Nat) (codes : List Nat) (add : Nat → State → State) (s : State) : State :=
  each (fun (x : Nat × Nat) s => if x.1 = 0 then s else add (4 * (4096 * p + x.2)) s) codes.zipIdx s

/-- LAYER_OVERLAP, once for the newer layer (R100). -/
def overlapLog (a : List Nat) (s : State) : State :=
  match a with
  | b :: _ => (match layerOf s b with
    | some l => if l.overlapLogged then s else notice Err.layerOverlap a (mLayer b (fun l => { l with overlapLogged := true }) s)
    | none => s)
  | [] => s

/-- Stage 7 builds a trigger's frame (R201, R202); a port that is not ACTIVE builds none (R256). DESIGN CHOICE
(log 143): a shared trigger draws LAYER_OVERLAP where its ordinary line is built on an ACTIVE port, and not as a NULL line. -/
def frameBuild (p : Nat) (t : Trig) (s : State) : State :=
  if (headPort s p).st ≠ .active then mTrig p t.k (fun t => { t with built := true, sent := true }) s
  else
    let null := decide (t.mark = .null)
    let f := mkFrame s p t null
    let s := takeSsn p s
    let s := countDrops p f.codes (fun o => bankAddAt 3 o t.sat 1) s
    let s := overlapLog t.overlap s
    let s := keepPayload p f (dropRing p t.lc f.nw (f.codes.filter (· ≠ 0)).length s)
    mTrig p t.k (fun t => { t with built := true, frame := some f }) s

/-- The next trigger of a port whose frame is to be sent (R204). -/
def sendNext (s : State) (p : Nat) : Option (Trig × LineFrame) :=
  firstSome (fun (t : Trig) => if t.sent then none else t.frame.map (fun f => (t, f))) (firPort s p).trigs

/-- LINE_LATE, once per port per layer (R204). -/
def lineLate (p layer : Nat) (s : State) : State :=
  let s := mFir (fun f => { f with cntLLate := f.cntLLate + 1 }) s
  match layerOf s layer with
  | some l => if l.lateLogged.getLsbD p then s
    else faultErr Err.lineLate [] (mLayer layer (fun l => { l with lateLogged := l.lateLogged ||| BitVec.ofNat 64 (2 ^ p) }) s)
  | none => s

/-- A LINE frame waits on port `p` that may leave: in Faulted only NULL lines (R36, R271). -/
def lineWaits (s : State) (p : Nat) : Bool := match sendNext s p with | some (_, f) => f.null || dataRuns s | none => false

/-- Send a non-LINE frame on a port under its next control sequence number (R257). -/
def gulSend (p ty : Nat) (body : Bytes) (s : State) : State :=
  gulOut p (gulFrame ty 0 (headPort s p).txSeq body) (mHead p (fun h => { h with txSeq := (h.txSeq + 1) % 65536 }) s)

/-- Send a CFG frame, which becomes the outstanding one (R264). -/
def cfgSend (p : Nat) (c : CfgReq) (s : State) : State :=
  let q := (headPort s p).txSeq
  let body := leBytes 2 c.addr ++ leBytes 1 c.count ++ leBytes 1 0 ++ (if c.write then c.data.flatMap (fun w => leBytes 4 w.toNat) else [])
  gulSend p (if c.write then 2 else 3) body (mHead p (fun h => { h with cfg := some { c with seq := q }, cfgDue := false }) s)

/-- The device's STATUS on a port (R266, R414). -/
def statusFrame (p : Nat) (s : State) : State :=
  let h := headPort s p
  gulSend p 4 (leBytes 1 (devCode s.sys.st) ++ leBytes 1 (b2n s.dbg.halted 0 + b2n (shadowOf s p) 1) ++ leBytes 2 h.struckSsn
    ++ leBytes 4 h.disc.toNat ++ leBytes 1 h.lastDisc ++ leBytes 3 0) (mHead p (fun h => { h with statDue := false }) s)

/-- What waits behind a port's LINE frames goes out once none waits: a STATUS, then a CFG frame (R271). -/
def gulDrain (p : Nat) (s : State) : State :=
  if lineWaits s p then s
  else
    let s := if (headPort s p).statDue then statusFrame p s else s
    match (headPort s p).cfg with
    | some c => if (headPort s p).cfgDue then cfgSend p c s else s
    | none => s

/-- Stage 8 sends a frame (R204). -/
def frameSend (p : Nat) (late : Bool) (t : Trig) (f : LineFrame) (s : State) : State :=
  let s := gulOut p (lineBytesOf f) (mTrig p t.k (fun t => { t with sent := true }) s)
  pruneTrigs p (gulDrain p (doIf (late || t.struck) (lineLate p t.layer) s))

/-- The request that the NZL_REQ registers hold: nozzle, entry and mask (R220). -/
def nzlReq (s : State) : Nat × BitVec 64 × BitVec 64 :=
  let r := fun o => regVal s (base 16 + o)
  (bits (r 0x40) 17 0, BitVec.ofNat 64 ((r 0x44).toNat + 2 ^ 32 * (r 0x48).toNat), BitVec.ofNat 64 ((r 0x4C).toNat + 2 ^ 32 * (r 0x50).toNat))

/-- The Notice with which a host request is refused (R219, R220). -/
def nzlReqBad (v : Word) (s : State) : Option Nat :=
  let (n, req, mask) := nzlReq s
  let e := maskIn (nozEntry s n) req.toNat mask.toNat
  if !bit v 0 then none
  else if 5 ≤ nzState e ∨ nzBits e 55 2 = 3 ∨ (req &&& mask).toNat % 256 ≠ 0 then some Err.nzlRange
  else if 64 ≤ s.nzl.queue.length then some Err.nzlBusy
  else none

/-- A write to NZL_REQ_GO that is accepted (R219 to R221). -/
def opNzlReq (v : Word) (s : State) : State :=
  let (n, req, mask) := nzlReq s
  if !bit v 0 || isStandby s then s
  else
    let p := nozPort n
    let new := lcEffNow s n
    let lc := if bit v 1 then (match s.nzl.hostPrev with | some x => if x.1 = p then some x.2 else new | none => new) else new
    let s := mNzl (fun z => { z with hostPrev := lc.map (fun l => (p, l)) }) s
    nzSubmit ⟨n, .host req mask, lc, false⟩ s

/-- NOZZLE_MAP_LINE (R214, R230 to R233). -/
def execNozzleMapLine (s : State) : Host.Outcome State Fault Refusal :=
  event (stageOpen s 5 && decide (s.sys.st ≠ .faulted) && !s.fir.s5.isEmpty) "NOZZLE_MAP_LINE" mapNext s

/-- DETOUR_LANE_FREE (R233). -/
def execDetourLaneFree (src tgt : BitVec 18) (s : State) : Host.Outcome State Fault Refusal :=
  event (dataRuns s && laneFreeable s src.toNat tgt.toNat) "DETOUR_LANE_FREE"
    (mNzl (fun z => { z with lanes := z.lanes.filter (fun l => !(l.src == src.toNat && l.tgt == tgt.toNat && l.freeing.isSome)) })) s

/-- STAGGER_LINE (R198 to R200). -/
def execStaggerLine (n : Seg) (s : State) : Host.Outcome State Fault Refusal :=
  event (stageOpen s 6 && decide (s.sys.st ≠ .faulted)
    && (match staggerNext s n with | some (_, l) => l.mapped.isSome | none => false)) "STAGGER_LINE" (fun s =>
      match staggerNext s n with
      | some (t, l) => stageTake 6 [t.k, n] l.layer n (some t.lc) (staggerLine n t l) s
      | none => s) s

/-- FRAME_BUILD (R201, R202); a NULL line comes from its trigger alone, also while the device is Faulted (R206). -/
def execFrameBuild (p : Port) (s : State) : Host.Outcome State Fault Refusal :=
  event (match buildNext s p with
      | some t => decide (t.mark = .null) || (decide (s.sys.st ≠ .faulted) && t.lines.all (fun l => l.staged.isSome) && stageOpen s 7)
      | none => false) "FRAME_BUILD" (fun s =>
    match buildNext s p with
    | some t => if t.mark = .null then frameBuild p t s else stageTake 7 [t.k, p] t.layer p (some t.lc) (frameBuild p t) s
    | none => s) s

/-- A sweep runs on port `p` and keeps other LINE frames from it (R225). -/
def gateHolds (s : State) (p : Nat) : Bool :=
  [0, 1].any (fun g => (gate s g).busy && !(gate s g).waitGrid && (gate s g).slot.isSome && gateServes s g p)

/-- LINE_FRAME_SEND (R204); in Faulted only NULL lines leave (R36), during a sweep no frame but its own (R225). -/
def execLineFrameSend (p : Port) (late : Bool) (s : State) : Host.Outcome State Fault Refusal :=
  event (!gateHolds s p && (match sendNext s p with | some (_, f) => f.null || (dataRuns s && stageOpen s 8) | none => false)) "LINE_FRAME_SEND" (fun s =>
    match sendNext s p with
    | some (t, f) => if f.null then frameSend p late t f s else stageTake 8 [t.k, p] t.layer p (some t.lc) (frameSend p late t f) s
    | none => s) s

/-- NOZZLE_SWAP (R217, R218). -/
def execNozzleSwap (s : State) : Host.Outcome State Fault Refusal :=
  event (dataRuns s && (nzDue s).isSome) "NOZZLE_SWAP" (fun s => match nzDue s with | some c => nzSwapDue c s | none => s) s

end Sys2Proof.Machine
end

