-- ==== Sys2Proof/Machine/Gates.lean ====
section
/-! DEFINITION. Drop gates and their sweeps (08_nozzle_health, R224 to R229). -/

namespace Sys2Proof.Machine

/-- SPACING of gate `g`, raised to the minimum period of port `p`, in 2 ns (R227). -/
def gateSpacing (s : State) (g p : Nat) : Nat := max (50 * bits (gatReg s g 0xC) 15 0) (nth s.fir.geo.minp p 2000)

/-- DROPS of gate `g`. -/
def gateDrops (s : State) (g : Nat) : Nat := bits (gatReg s g 0xC) 31 28

/-- OPEN of gate `g`. -/
def gateOpen (s : State) (g : Nat) : Nat := bits (gatReg s g 0x10) 31 16

/-- CLOSE of gate `g`. -/
def gateClose (s : State) (g : Nat) : Nat := bits (gatReg s g 0x10) 15 0

/-- KIND of gate `g`'s sweeps. -/
def gateKind (s : State) (g : Nat) : Nat := bits (gatReg s g 0x1C) 31 30

/-- The conditions of R227 on a sweep's settings. -/
def gateSettings (s : State) (g : Nat) : Bool :=
  let sp := bits (gatReg s g 0xC) 15 0
  decide (gateOpen s g < gateClose s g) && decide (gateClose s g - gateOpen s g ≤ sp)
    && decide ((gateDrops s g - 1) * sp + gateClose s g ≤ 10 * bits (gatReg s g 0x14) 15 0 + gateOpen s g)
    && (List.range 64).all (fun p => !(gateServes s 0 p && gateServes s 1 p))

/-- A start is accepted (R225, R227, R449); a gate whose EN is 0 accepts none (log 17). -/
def gateAccepts (s : State) (g : Nat) : Bool :=
  operational s && !(gate s g).busy && bit (gatReg s g 0) 31 && decide (gateKind s g ≠ 3) && gateSettings s g
    && !(vget s.cal.cmps (8 + g) ⟨CalVal.init 0, 0, false, false, false⟩).failed

/-- START of a sweep (R225); a measurement of its comparator is abandoned (R450). -/
def opGateStart (g : Nat) (s : State) : State :=
  if gateAccepts s g then
    mCal (fun c => { c with cmps := vmod c.cmps (8 + g) (fun k => { k with measuring := false }) })
      (mGat g (fun k => { k with busy := true, waitGrid := true, abort := false, todo := [], slotNo := 0, slot := none }) s)
  else notice Err.gateSetup [] s

/-- ABORT of a sweep: it ends after the slot in progress (R226). -/
def opGateAbort (g : Nat) (s : State) : State :=
  let k := gate s g
  if !k.busy then s else if k.slot.isSome then mGat g (fun k => { k with abort := true }) s else mGat g gateKill s

/-- A write to GAT_n_CMD is refused when it asks for a start that is not accepted (R225, R227, R511). -/
def gateCmdBad (g : Nat) (v : Word) (s : State) : Bool := bit v 0 && !gateAccepts s g

/-- A write to GAT_n_CMD that is accepted (R239). -/
def opGateCmd (g : Nat) (v : Word) (s : State) : State := doIf (bit v 1) (opGateAbort g) (doIf (bit v 0) (opGateStart g) s)

/-- Milestone `i` starts the sweeps that name it (R182, R225). -/
def gatesMilestone (i : Nat) (s : State) : State :=
  each (fun g s => if bit (gatReg s g 0x1C) 29 && bits (gatReg s g 0x1C) 28 24 == i then opGateStart g s else s) [0, 1] s

/-- Nozzles of enabled segments on the ports that gate `g` serves, ascending. -/
def gateNozzles (s : State) (g : Nat) : List Nat :=
  let segs := s.fir.geo.segs.filter (fun x => gateServes s g (segPort x.seg))
  sortBy (fun a b => decide (a ≤ b)) (segs.flatMap (fun x => (List.range x.width).map (nozOf x)))

/-- The nozzles that a RANGE or STATE sweep tests (R225). -/
def gateTodo (s : State) (g : Nat) : List Nat :=
  let st := fun n => effState s.nzl.absent n (nozEntry s n)
  match gateKind s g with
  | 1 => (gateNozzles s g).filter (fun n => decide (bits (gatReg s g 0x20) 17 0 ≤ n) && decide (n ≤ bits (gatReg s g 0x24) 17 0) && decide (st n ≠ 4))
  | 2 => (gateNozzles s g).filter (fun n => bit (gatReg s g 0x1C) (19 + st n))
  | _ => []

/-- The next slot of a sweep, or its end (R225 to R228). -/
def gateNextSlot (g : Nat) (s : State) : State :=
  let k := gate s g
  let start := fun (n : Nat) (k : GateState) =>
    let ok := !(headPort s (nozPort n)).absent && (ownerOf s.fir.geo n).isSome
    { k with slot := some ⟨n, ok, 0, List.replicate (gateDrops s g) none⟩ }
  if k.abort then mGat g gateKill s
  else if gateKind s g = 0 then
    match k.queue with
    | n :: r => mGat g (fun k => { start n k with queue := r }) s
    | [] => mGat g gateKill s
  else match k.todo with
    | n :: r => mGat g (fun k => { start n k with todo := r }) s
    | [] => mGat g gateKill s

/-- A grid is open on a port that the gate serves. -/
def gateGridOpen (s : State) (g : Nat) : Bool := (List.range 64).any (fun p => gateServes s g p && (nextLc s p).isSome)

/-- The sweep leaves WAITGRID (R227). -/
def gateBegin (g : Nat) (s : State) : State := gateNextSlot g (mGat g (fun k => { k with waitGrid := false, todo := gateTodo s g }) s)

/-- The test frame of a slot (R227, R261). -/
def testFrame (s : State) (g n : Nat) : LineFrame :=
  let p := nozPort n
  let nw := portNw s.fir.geo p
  let row := match ownerOf s.fir.geo n with | some (x, _) => x.seg % 8 | none => 0
  { lc := 2 ^ 40 - 1, layer := 0xFFFFFFFF, null := false, depth := 3, rowen := BitVec.ofNat 8 (2 ^ row),
    phase := List.replicate 8 0, nw := nw,
    codes := (List.range nw).map (fun i => if i = n % 4096 then bits (gatReg s g 0xC) 27 25 else 0),
    shadow := shadowOf s p, test := true, claim := claimWord s p, tper := min 0xFFFFFF (gateSpacing s g p), ssn := (headPort s p).nextSsn }

/-- Strike `n` of a port has been made with line count `lc` (R262, R269): the latest 64 are kept. -/
def headStruck (p n lc : Nat) (s : State) : State :=
  mHead p (fun h => { h with recent := ((n, lc) :: h.recent).take 64, struckSsn := (n + 1) % 65536 }) s

/-- A test strike with its frame (R227, R229); a port that is not ACTIVE sends nothing (R256). -/
def gateStrike (g : Nat) (s : State) : State :=
  match (gate s g).slot with
  | none => s
  | some k =>
    let p := nozPort k.noz
    let s' := mGat g (fun x => { x with slot := some { k with strikes := k.strikes + 1 } }) s
    if (headPort s p).st ≠ .active then emit (.testStrike p (bits (nth s.fir.geo.stb p 0) 9 0) (bit (nth s.fir.geo.stb p 0) 30) false) s'
    else
      let f := testFrame s g k.noz
      let s' := headStruck p f.ssn f.lc (takeSsn p (gulOut p (lineBytesOf f) s'))
      emit (.testStrike p (bits (nth s.fir.geo.stb p 0) 9 0) (bit (nth s.fir.geo.stb p 0) 30) true) (mGat g (fun x => { x with drops := x.drops + 1 }) s')

/-- An edge `t`, in 125 ps, after the slot's first strike falls in the window of a drop (R227; log 19). -/
def gateSeen (s : State) (g t : Nat) : State :=
  match (gate s g).slot with
  | none => s
  | some k =>
    let sp := 16 * gateSpacing s g (nozPort k.noz)
    let see := fun (x : Option Nat × Nat) =>
      if x.1.isNone && decide (x.2 < k.strikes) && decide (x.2 * sp + 800 * gateOpen s g ≤ t) && decide (t < x.2 * sp + 800 * gateClose s g)
      then some (t - x.2 * sp) else x.1
    mGat g (fun x => { x with slot := some { k with arrivals := k.arrivals.zipIdx.map see } }) s

/-- The result of a slot (R228); the mean arrival is truncated to 100 ns. -/
def gateResult (s : State) (g : Nat) (k : GateSlot) (noise : Bool) : Nat :=
  let hits := k.arrivals.filterMap (fun x => x)
  let mean := sumN hits / (800 * gateDrops s g)
  let nom := bits (gatReg s g 0x18) 31 16
  let tol := bits (gatReg s g 0x18) 15 0
  if !k.tested then 6
  else if noise then 5
  else if hits.isEmpty then 4
  else if hits.length < gateDrops s g then 3
  else if mean + tol < nom ∨ nom + tol < mean then 2
  else 1

/-- A slot ends: its result is journalled and enters the updater, and the sweep goes on (R228). -/
def gateSlotEnd (g : Nat) (noise : Bool) (s : State) : State :=
  match (gate s g).slot with
  | none => s
  | some k =>
    let r := gateResult s g k noise
    let s := mGat g (fun x => { x with
      slot := none, slotNo := x.slotNo + 1, cnt := if k.tested then x.cnt + 1 else x.cnt, result := r, resNoz := k.noz }) s
    let s := journal 3 k.noz (nzState (nozEntry s k.noz)) r 1 (lcEffNow s k.noz) s
    gateNextSlot g (nzGate k.noz r s)

/-- GATE_SWEEP_BEGIN (R227). -/
def execGateSweepBegin (g : Gate) (s : State) : Host.Outcome State Fault Refusal :=
  event ((gate s g).busy && (gate s g).waitGrid && !gateGridOpen s g) "GATE_SWEEP_BEGIN" (gateBegin g) s

/-- GATE_TEST_STRIKE (R227, R229). -/
def execGateTestStrike (g : Gate) (s : State) : Host.Outcome State Fault Refusal :=
  event (match (gate s g).slot with | some k => k.tested && decide (k.strikes < gateDrops s g) | none => false) "GATE_TEST_STRIKE"
    (gateStrike g) s

/-- GATE_EDGE (R227). -/
def execGateEdge (g : Gate) (t : Nat) (s : State) : Host.Outcome State Fault Refusal := always (fun s => gateSeen s g t) s

/-- GATE_SLOT_RESULT (R228). -/
def execGateSlotResult (g : Gate) (noise : Bool) (s : State) : Host.Outcome State Fault Refusal :=
  event (match (gate s g).slot with | some k => !k.tested || decide (k.strikes = gateDrops s g) | none => false) "GATE_SLOT_RESULT"
    (gateSlotEnd g noise) s

end Sys2Proof.Machine
end

