-- ==== Sys2Proof/Machine/Gulist.lean ====
section
/-! DEFINITION. The head links (09_gulist_link): bring-up, loss, the frames of modules, host access and the eye scan. -/

namespace Sys2Proof.Machine

/-- The geometry in force for the capability check: the shadow before the first knot (R252). -/
def capGeo (s : State) : Geo := if s.sys.epoch = 0 then deriveGeo (regVal s) else s.fir.geo

/-- Capability word `i` that a module reported. -/
def capWord (h : GulPort) (i : Nat) : Word := nth h.caps i 0

/-- The module's capabilities fit the port (R252). -/
def capFits (s : State) (p : Nat) : Bool :=
  let h := headPort s p
  let g := capGeo s
  let rows := (g.segs.filter (fun x => segPort x.seg == p)).map (fun x => x.seg % 8 + 1)
  let gen := bits (capWord h 0) 15 8
  decide (bits (capWord h 0) 7 0 = 1) && (gen == 1 || gen == 2) && bit (capWord h 5) (bits (gulCtl s p) 1 0)
    && decide (bits (capWord h 4) 15 8 ≤ 200) && decide (3 ≤ bits (capWord h 4) 7 0)
    && decide (portNw g p ≤ bits (capWord h 1) 12 0) && decide (maxNat rows ≤ bits (capWord h 1) 19 16)
    && decide (bits (capWord h 2) 19 0 ≤ nth g.minp p 2000)

/-- A host request ends (R274). -/
def hcfgEnd (result : Nat) (s : State) : State := mGul (fun g => { g with hcfgBusy := false, hcfgResult := result }) s

/-- The frames of a port not yet struck are abandoned and their adds withdrawn (R202, R256). -/
def abandonFrames (p : Nat) (s : State) : State :=
  let drop := fun (t : Trig) (s : State) =>
    match t.frame with
    | some f => if t.struck then s else countDrops p f.codes (fun o s =>
        if t.sat && bankWord s 3 o 4 == 0xFFFFFFFF then s else bankAddAt 3 o false 0xFFFFFFFF s) s
    | none => s
  let cut (t : Trig) : Trig := if t.frame.isSome && !t.struck then { t with frame := none, sent := true } else t
  mPort p (fun f => { f with trigs := f.trigs.map cut }) (each drop (firPort s p).trigs s)

/-- A port leaves EXCHANGE or ACTIVE: its outstanding frame, a host request and an eye scan end (R256, R273, R274). -/
def portLeaves (p : Nat) (s : State) : State :=
  let h := headPort s p
  let s := match h.cfg with | some c => if c.host then hcfgEnd 3 s else s | none => s
  let s := if s.gul.eyePort = some p then mGul (fun g => { g with eyePort := none, eyeAborted := true }) s else s
  abandonFrames p (mHead p (fun h => { h with cfg := none, statDue := false, cfgDue := false }) s)

/-- A port's transmitter between attempts: TS1 without pause on a blind port (R254), else electrical idle (R245). -/
def portRests (p : Nat) (s : State) : State :=
  if bit (gulCtl s p) 30 then laneSend p (trainSet s p false) s else emit (.idle p) s

/-- An enabled port's transmitter when the link leaves DISABLED or the device Loading: a blind port leaves electrical idle (R245, R254). -/
def portWakes (p : Nat) (s : State) : State := if bit (gulCtl s p) 30 then laneSend p (fastExit s p) s else s

/-- An attempt fails (R248, R253). -/
def linkFail (p reason : Nat) (s : State) : State :=
  let s := portLeaves p s
  let s := mHead p (fun h => { h with st := .detect, waiting := true, fails := satAdd 8 h.fails 1, reason := reason }) s
  let s := portRests p s
  if 16 ≤ (headPort s p).fails ∧ (headPort s p).absent = false then
    raiseLim .notice Err.portAbsent p (ms 1) [] (mHead p (fun h => { h with absent := true }) s)
  else s

/-- A layer that lists a stripe of port `p` is Printing. -/
def portPrints (s : State) (p : Nat) : Bool := (printingLayers s).any (fun l => l.stripes.any (fun x => segPort x.1 == p))

/-- An ACTIVE port is lost (R255, R256). -/
def portLoss (p reason : Nat) (s : State) : State :=
  if (headPort s p).st ≠ .active then s
  else
    let s := raiseLim (if inPrint s then .fault else .notice) Err.linkLost p (ms 1) [p, reason] s
    let s := portLeaves p s
    let s := mHead p (fun h => { h with
      st := .detect, waiting := true, reason := reason, fails := if reason = 8 then h.fails else 1, losses := satAdd 16 h.losses 1 }) s
    let s := portRests p s
    if portPrints s p then portMask p true s else s

/-- A port reaches ACTIVE (R251, R253, R256, R485). -/
def portActive (p : Nat) (s : State) : State :=
  let s := mHead p (fun h => { h with
    st := .active, fails := 0, absent := false, alignLogged := false, lastMiss := none, lastDiscM := none, struckSsn := h.nextSsn }) s
  let s := mNzl (fun z => { z with absentPending := z.absentPending.filter (fun x => x.1 != p) }) s
  let s := endFault Err.linkLost (fun a => nth a 0 0 == p) (endFault Err.portDown (fun a => nth a 4 0 == p) s)
  portMask p false s

/-- Every enabled port begins its attempts when the device leaves Loading (R249). -/
def linksStart (s : State) : State :=
  each (fun p s => if bit (gulCtl s p) 31 then portWakes p (mHead p (fun h => { h with st := .detect, waiting := true, absent := false }) s) else s) (List.range 64) s

/-- A write to GUL_PORTn_CTL whose bits have been stored (R245, R248, R253, R254, R256). A port that is disabled goes to electrical idle, one
that becomes blind between attempts leaves it, and one that stops being blind there enters it. -/
def opGulCtl (p : Nat) (old new : Word) (s : State) : State :=
  if !awake s then s
  else if bit old 31 = bit new 31 then
    if bit old 30 ≠ bit new 30 ∧ (headPort s p).st = .detect ∧ (headPort s p).waiting = true then
      (if bit new 30 then portWakes p s else emit (.idle p) s)
    else s
  else if bit new 31 then portWakes p (mHead p (fun h => { h with st := .detect, waiting := true, absent := false, fails := 0 }) s)
  else
    let was := decide ((headPort s p).st = .active)
    let s := emit (.idle p) (mHead p (fun h => { h with st := .disabled, waiting := false, absent := true }) (portLeaves p s))
    if was && portPrints s p then portMask p true s else s

/-- At a knot every ACTIVE port's module must fit the values made active; one in EXCHANGE is checked again (R252). -/
def capKnot (s : State) : State :=
  each (fun p s =>
    match (headPort s p).st with
    | .active => if capFits s p then s else portLoss p 7 (raiseLim .fault Err.capMismatch p (ms 1) [] s)
    | .exchange => mHead p (fun h => { h with recheck := true }) s
    | _ => s) (List.range 64) s

/-- The receiver takes frames. -/
def linkUp (s : State) (p : Nat) : Bool := match (headPort s p).st with | .exchange => true | .active => true | _ => false

/-- A frame in which nothing was amiss. -/
def noFlaws : RxFlaws := ⟨0, false, false, false⟩

/-- The reason for which a frame is discarded whatever the state (R268): CODE for one cut by a realignment (R244), else the first in the
order of the codes (log 20). -/
def discStatic (w : RxFlaws) (f : Bytes) : Nat :=
  let n := f.length
  let ty := byteAt f 0
  let len := leAt f 4 2
  let r0 := byteAt f 1 ≠ 0
  if w.realigned then 2
  else if !w.noEof && decide (4 ≤ n ∧ leAt f (n - 4) 4 ≠ (crc32c (f.take (n - 4))).toNat) then 1
  else if 0 < w.errs ∨ w.badK = true then 2
  else if w.noEof = true ∨ n < 10 ∨ len ≠ n - 10 then 3
  else if ty ≠ 4 ∧ ty ≠ 5 ∧ ty ≠ 6 then 4
  else if (ty = 4 ∧ len ≠ 24) ∨ (ty = 5 ∧ len ≠ 12) ∨ (ty = 6 ∧ (len < 4 ∨ len ≠ 4 + 4 * byteAt f 9)) then 3
  else if r0 then 5
  else if ty = 4 ∧ (4 ≤ byteAt f 7 ∨ leAt f 15 3 ≠ 0 ∨ leAt f 27 3 ≠ 0) then 5
  else if ty = 5 ∧ (byteAt f 6 = 0 ∨ (4 ≤ byteAt f 6 ∧ byteAt f 6 ≤ 127) ∨ leAt f 8 2 ≠ 0 ∨ (byteAt f 6 = 3 ∧ leAt f 12 2 ≠ 0)) then 5
  else if ty = 6 ∧ 64 < byteAt f 9 then 5
  else 0

/-- A frame is a good one of type `ty`. -/
def gulIs (ty : Nat) (f : Bytes) : Bool := discStatic noFlaws f == 0 && byteAt f 0 == ty

/-- A good ACK answers no outstanding frame. -/
def ackStray (s : State) (p : Nat) (f : Bytes) : Bool :=
  match (headPort s p).cfg with | some c => (headPort s p).cfgDue || decide (c.seq ≠ leAt f 6 2) | none => true

/-- Count a discard for a reason (R268). -/
def gulDiscard (p reason : Nat) (s : State) : State :=
  mHead p (fun h => { h with
    disc := h.disc + 1, lastDisc := reason, rxCrc := if reason = 1 then satAdd 16 h.rxCrc 1 else h.rxCrc,
    rxOther := if reason = 1 then h.rxOther else satAdd 16 h.rxOther 1 }) s

/-- Count code and disparity errors (R276). -/
def gulErrs (p n : Nat) (s : State) : State := mHead p (fun h => { h with codeErr := h.codeErr + BitVec.ofNat 32 n }) s

/-- Take a frame's control sequence number; a gap is counted (R268). -/
def gulSeq (p : Nat) (f : Bytes) (s : State) : State :=
  let q := leAt f 2 2
  mHead p (fun h => { h with rxSeq := (q + 1) % 65536, rxOther := if q = h.rxSeq then h.rxOther else satAdd 16 h.rxOther 1 }) s

/-- An ACK in EXCHANGE (R251). -/
def exchangeAck (p : Nat) (f : Bytes) (s : State) : State :=
  let s := mHead p (fun h => { h with cfg := none }) s
  if byteAt f 8 ≠ 0 then linkFail p 4 s
  else if (headPort s p).step = 1 then
    let w := (List.range (byteAt f 9)).map (fun i => w32 (leAt f (10 + 4 * i) 4))
    let s := mHead p (fun h => { h with
      caps := w, capGeom := nth w 1 0, capMinp := nth w 2 0, serLo := nth w 6 0, serHi := nth w 7 0, step := 2, recheck := false }) s
    if capFits s p then
      cfgSend p ⟨0, true, 0x10, 4, [w32 p, w32 (headPort s p).nextSsn, 1, regVal s (base 18)], 0, false⟩ s
    else linkFail p 5 s
  else mHead p (fun h => { h with step := 3 }) s

/-- An ACK of a host request (R274); RESULT 4 to 255 count as BUSY (R264). -/
def hostAck (p : Nat) (f : Bytes) (c : CfgReq) (s : State) : State :=
  let r := if byteAt f 8 ≤ 3 then byteAt f 8 else 3
  let s := mGul (fun g => { g with hcfgAck := r }) (mHead p (fun h => { h with cfg := none }) s)
  if r ≠ 0 then hcfgEnd 1 s
  else if c.write then hcfgEnd 0 s
  else hcfgEnd 0 (setReg (base 18 + 0x14) (w32 (leAt f 10 4)) s)

/-- A good ACK (R264). -/
def gulAck (p : Nat) (f : Bytes) (s : State) : State :=
  if !linkUp s p then s
  else if ackStray s p f then gulDiscard p 6 s
  else
    let s := gulSeq p f s
    match (headPort s p).cfg with
    | some c => if c.host then hostAck p f c s else exchangeAck p f s
    | none => s

/-- HEAD_MISS, once per port per layer (R269). -/
def missLog (p : Nat) (s : State) : State :=
  match printingLayers s with
  | l :: _ => if l.missLogged.getLsbD p then s
    else raiseLim .fault Err.headMiss p (ms 1) [] (mLayer l.id (fun l => { l with missLogged := l.missLogged ||| BitVec.ofNat 64 (2 ^ p) }) s)
  | [] => s

/-- A module STATUS on an ACTIVE port (R255, R269). -/
def activeStatus (p : Nat) (f : Bytes) (s : State) : State :=
  let h := headPort s p
  let ssn := leAt f 8 2
  let lc := leAt f 10 5
  let miss := leAt f 18 4
  let disc := leAt f 22 4
  if byteAt f 6 ≠ 2 then portLoss p 7 s
  else
    let rise := fun (o : Option Nat) (n : Nat) => match o with | some x => decide (0 < sgn 32 ((n : Int) - x)) | none => false
    let s := mHead p (fun h => { h with
      lastMiss := some miss, lastDiscM := some disc,
      headMiss := if rise h.lastMiss miss then satAdd 16 h.headMiss 1 else h.headMiss,
      headDisc := if rise h.lastDiscM disc then satAdd 16 h.headDisc 1 else h.headDisc }) s
    let s := if rise h.lastMiss miss then missLog p s else s
    let s := if rise h.lastDiscM disc then raiseLim .notice Err.headDisc p (ms 1) [] s else s
    match h.recent.find? (fun x => x.1 == ssn) with
    | some x => if lc ≠ 2 ^ 40 - 1 ∧ lc ≠ x.2 then portLoss p 7 (raiseLim .fault Err.headDesync p (ms 1) [] s) else s
    | none => s

/-- A module STATUS (R251, R266, R269). -/
def gulStatus (p : Nat) (f : Bytes) (s : State) : State :=
  if !linkUp s p then s
  else
    let s := mHead p (fun h => { h with hstat := w32 (byteAt f 6 * 2 ^ 24 + byteAt f 7 * 2 ^ 16 + leAt f 8 2) }) (gulSeq p f s)
    let h := headPort s p
    if h.st = .active then activeStatus p f s
    else if byteAt f 6 ≠ 2 then linkFail p 4 s
    else if h.step ≠ 3 then s
    else if h.recheck && !capFits s p then linkFail p 5 s
    else portActive p s

/-- A SENSE (R267). -/
def gulSense (p : Nat) (f : Bytes) (s : State) : State :=
  if !linkUp s p then s
  else
    let s := mHead p (fun h => { h with sense0 := w32 (byteAt f 6 * 256 + byteAt f 7), sense1 := w32 (leAt f 10 4) }) (gulSeq p f s)
    if byteAt f 6 = 3 then raiseLim .fault Err.headEvent p (ms 1) [p, byteAt f 7, leAt f 10 2] s else s

/-- A host request goes out behind the LINE frames and the STATUS that wait (R271, R274). -/
def cfgQueue (p : Nat) (c : CfgReq) (s : State) : State := gulDrain p (mHead p (fun h => { h with cfg := some c, cfgDue := true }) s)

/-- The outstanding CFG frame is not acknowledged in time (R264, R274). -/
def cfgExpire (p : Nat) (s : State) : State :=
  match (headPort s p).cfg with
  | none => s
  | some c =>
    if c.tries < 3 then cfgQueue p { c with tries := c.tries + 1 } s
    else
      let s := mHead p (fun h => { h with cfg := none }) s
      if c.host then hcfgEnd 2 s else s

/-- A GO refused while BUSY sets OVR (R274, R276). -/
def hcfgRefuse (s : State) : State := raiseLim .notice Err.gulRange (bits (regVal s (base 18 + 0x10)) 29 24) (ms 1) [] (mGul (fun g => { g with hcfgOvr := true }) s)

/-- A write to GUL_HCFG_GO while BUSY is 0 (R274). -/
def opHcfgGo (v : Word) (s : State) : State :=
  if !bit v 0 then s
  else
    let a := regVal s (base 18 + 0x10)
    let p := bits a 29 24
    let s := mGul (fun g => { g with hcfgOvr := false }) s
    if (headPort s p).st ≠ .active then hcfgEnd 3 s
    else if bits a 13 0 ≤ 0x3F then hcfgEnd 4 s
    else cfgQueue p ⟨0, bit a 23, bits a 13 0, 1, [regVal s (base 18 + 0x14)], 0, true⟩ (mGul (fun g => { g with hcfgBusy := true }) s)

/-- A GUL_EYE_GO refused while a scan runs (R270, R273). -/
def eyeRefuse (s : State) : State := raiseLim .notice Err.gulRange (bits (regVal s (base 18 + 0x40)) 29 24) (ms 1) [] s

/-- A write to GUL_EYE_GO while no scan runs (R273). -/
def opEyeGo (v : Word) (s : State) : State :=
  if !bit v 0 then s
  else
    let c := regVal s (base 18 + 0x40)
    let p := bits c 29 24
    if (headPort s p).st = .active then
      mGul (fun g => { g with eyePort := some p, eyeAborted := false, eyeDwell := bits c 4 0, eyeErrs := 0, eyeBits := 0 }) s
    else mGul (fun g => { g with eyeAborted := true }) s

/-- A write to GUL_PORTn_CLR (R255, R276). -/
def opGulClr (p : Nat) (v : Word) (s : State) : State :=
  let s := if bit v 0 then
      mHead p (fun h => { h with codeErr := 0, rxCrc := 0, rxOther := 0, headMiss := 0, headDisc := 0, losses := 0, slips := 0 }) s
    else s
  doIf (bit v 1) (portLoss p 8) s

/-- Update tether lane `l`. -/
def mTeth (l : Nat) (f : TethLane → TethLane) (s : State) : State := mPar (fun p => { p with lanes := vmod p.lanes l f }) s

/-- Tether lane `l`. -/
def teth (s : State) (l : Nat) : TethLane := vget s.par.lanes l ⟨.disabled, false, false, false, 0xFFFF⟩

/-- A tether frame is discarded (R424 to R426; log 41). -/
def tethDrop (s : State) : State := mPar (fun p => { p with cntCrc := p.cntCrc + 1 }) s

/-- TS1, or with `two` TS2, on a tether lane. -/
def tethTrain (l : Nat) (two : Bool) (s : State) : State := laneSend (64 + l) (trainSet s (64 + l) two) s

/-- The tether's lanes begin their attempts (R422, R473). -/
def tethStart (s : State) : State :=
  if paired s then each (fun l s => mTeth l (fun t => { t with st := .detect, waiting := true }) s) [0, 1] s else s

/-- An attempt of a tether lane fails (R248, R422). -/
def tethFail (l : Nat) (s : State) : State :=
  emit (.idle (64 + l)) (mTeth l (fun t => { t with st := .detect, waiting := true }) s)

/-- A tether lane has left LOCK; with both trained and a skew of at most 32 symbols the tether is up, and what was not
acknowledged goes out again (R422, R423, R426; log 14). -/
def tethTrained (l : Nat) (skew : Int) (s : State) : State :=
  let s := mTeth l (fun t => { t with st := .active, frozen := false }) s
  if (teth s 0).st ≠ .active ∨ (teth s 1).st ≠ .active ∨ 32 < skew.natAbs then s
  else
    let s := mPar (fun p => { p with tethUp := true, skew := skew, cntResend := p.cntResend + BitVec.ofNat 32 p.unacked.length }) s
    each (fun m s => emit (tethOut (tethFrame (byteAt m.2.2 0) m.1 (m.2.2.drop 1))) s) s.par.unacked s

/-- A lane waits for its next attempt. -/
def laneWaits (s : State) : RxLane → Bool
  | .head p => decide ((headPort s p).st = .detect) && (headPort s p).waiting
  | .tether l => decide ((teth s l).st = .detect) && (teth s l).waiting

/-- The state of a lane. -/
def laneState (s : State) : RxLane → LinkState
  | .head p => (headPort s p).st
  | .tether l => (teth s l).st

/-- A lane is in DETECT with an attempt under way. -/
def laneListens (s : State) (l : RxLane) : Bool := decide (laneState s l = .detect) && !laneWaits s l

/-- LINK_ATTEMPT (R249, R254, R422). -/
def execLinkAttempt (lane : RxLane) (s : State) : Host.Outcome State Fault Refusal :=
  event (awake s && laneWaits s lane) "LINK_ATTEMPT" (fun s => match lane with
    | .head p =>
      let blind := bit (gulCtl s p) 30
      laneSend p (if blind then trainSet s p false else fastExit s p)
        (mHead p (fun h => { h with waiting := false, st := if blind then .poll else .detect }) s)
    | .tether l => laneSend (64 + l) (fastExit s (64 + l)) (mTeth l (fun t => { t with waiting := false }) s)) s

/-- LINK_SIGNAL_DETECT (R249, R422). -/
def execLinkSignalDetect (lane : RxLane) (s : State) : Host.Outcome State Fault Refusal :=
  event (laneListens s lane) "LINK_SIGNAL_DETECT" (fun s => match lane with
    | .head p => laneSend p (trainSet s p false) (mHead p (fun h => { h with st := .poll }) s)
    | .tether l => tethTrain l false (mTeth l (fun t => { t with st := .poll }) s)) s

/-- The lane's number: 0 to 63 a head port's, 64 and 65 the tether's. -/
def laneNum : RxLane → Nat
  | .head p => p
  | .tether l => 64 + l

/-- POLL is done: 8 training sets in a row, each with the lane's own RATE (R248). -/
def pollMet (s : State) (lane : RxLane) (seen : PollSeen) : Bool :=
  decide (seen.sets.length = 8) && seen.sets.all (fun t => decide (t.rate.toNat = laneRate s (laneNum lane)))

/-- LOCK is done (R250). -/
def lockMet (seen : LockSeen) : Bool := decide (8 ≤ seen.ts2) && decide (16 ≤ seen.sent) && seen.cdr && seen.adapted

/-- LINK_POLL_DONE (R243, R248, R250, R422): LOCK seeds the ALIGN scrambler. -/
def execLinkPollDone (lane : RxLane) (seen : PollSeen) (s : State) : Host.Outcome State Fault Refusal :=
  event (decide (laneState s lane = .poll) && pollMet s lane seen) "LINK_POLL_DONE" (fun s => match lane with
    | .head p => laneSend p (trainSet s p true) (mHead p (fun h => { h with st := .lock, rxInv := seen.inverted, scr := 0xFFFF }) s)
    | .tether l => tethTrain l true (mTeth l (fun t => { t with st := .lock, rxInv := seen.inverted, scr := 0xFFFF }) s)) s

/-- LINK_LOCK_DONE (R250, R251, R422): the tether skips EXCHANGE. -/
def execLinkLockDone (lane : RxLane) (seen : LockSeen) (s : State) : Host.Outcome State Fault Refusal :=
  event (decide (laneState s lane = .lock) && lockMet seen) "LINK_LOCK_DONE" (fun s => match lane with
    | .head p => cfgSend p ⟨0, false, 0, 16, [], 0, false⟩
        (mHead p (fun h => { h with st := .exchange, step := 1, txSeq := 0, rxSeq := 0, recheck := false, frozen := false }) s)
    | .tether l => tethTrained l seen.skew s) s

/-- The reason of a timeout in a state (R248). -/
def timeoutReason (st : LinkState) : Nat :=
  match st with | .detect => 1 | .poll => 2 | .lock => 3 | _ => 4

/-- LINK_TIMEOUT (R248, R253, R422). -/
def execLinkTimeout (lane : RxLane) (s : State) : Host.Outcome State Fault Refusal :=
  event (match laneState s lane with
    | .detect => !laneWaits s lane
    | .poll => true
    | .lock => true
    | .exchange => true
    | _ => false) "LINK_TIMEOUT" (fun s => match lane with
    | .head p => linkFail p (timeoutReason (headPort s p).st) s
    | .tether l => tethFail l s) s

/-- LINK_IDLE_DETECT (R249, R255, R422). -/
def execLinkIdleDetect (lane : RxLane) (s : State) : Host.Outcome State Fault Refusal :=
  always (fun s => match lane, laneState s lane with
    | .head p, .active => portLoss p 7 s
    | .head p, .poll => linkFail p 6 s
    | .head p, .lock => linkFail p 6 s
    | .head p, .exchange => linkFail p 6 s
    | .tether l, .poll => tethFail l s
    | .tether l, .lock => tethFail l s
    | _, _ => s) s

/-- GULIST_ACK (R251, R264, R274). -/
def execGulistAck (p : Port) (f : Bytes) (s : State) : Host.Outcome State Fault Refusal :=
  spelled (gulIs 6 f) "GULIST_ACK" (gulAck p f) s

/-- GULIST_STATUS_RX (R251, R255, R266, R269). -/
def execGulistStatusRx (p : Port) (f : Bytes) (s : State) : Host.Outcome State Fault Refusal :=
  spelled (gulIs 4 f) "GULIST_STATUS_RX" (gulStatus p f) s

/-- STATUS_TIMEOUT (R255). -/
def execStatusTimeout (p : Port) (s : State) : Host.Outcome State Fault Refusal :=
  event (decide ((headPort s p).st = .active)) "STATUS_TIMEOUT" (portLoss p 7) s

/-- GULIST_SENSE (R267). -/
def execGulistSense (p : Port) (f : Bytes) (s : State) : Host.Outcome State Fault Refusal :=
  spelled (gulIs 5 f) "GULIST_SENSE" (gulSense p f) s

/-- GULIST_FRAME_DISCARD (R268): a frame that R268 discards, or a good ACK that answers nothing. -/
def execGulistFrameDiscard (p : Port) (flaws : RxFlaws) (f : Bytes) (s : State) : Host.Outcome State Fault Refusal :=
  spelled (decide (discStatic flaws f ≠ 0) || byteAt f 0 == 6) "GULIST_FRAME_DISCARD" (fun s =>
    let r := discStatic flaws f
    let s := gulErrs p flaws.errs s
    if !linkUp s p then s else if r ≠ 0 then gulDiscard p r s else gulAck p f s) s

/-- CFG_TIMEOUT (R264). -/
def execCfgTimeout (p : Port) (s : State) : Host.Outcome State Fault Refusal :=
  event ((headPort s p).cfg.isSome && !(headPort s p).cfgDue) "CFG_TIMEOUT" (cfgExpire p) s

/-- STATUS_SEND (R266, R271). -/
def execStatusSend (s : State) : Host.Outcome State Fault Refusal :=
  always (fun s => each (fun p s =>
    if (headPort s p).st = .active then gulDrain p (mHead p (fun h => { h with statDue := true }) s) else s) (List.range 64) s) s

/-- A lane carries IDLE, ALIGN and frames. -/
def laneUp (s : State) : RxLane → Bool
  | .head p => linkUp s p
  | .tether l => decide ((teth s l).st = .active)

/-- ALIGN_SEND (R246, R424). -/
def execAlignSend (lane : RxLane) (s : State) : Host.Outcome State Fault Refusal :=
  event (laneUp s lane) "ALIGN_SEND" (fun s => match lane with
    | .head p => laneSend p (alignSet (headPort s p).scr) (mHead p (fun h => { h with scr := (scrBytes 6 h.scr).2 }) s)
    | .tether l => laneSend (64 + l) (alignSet (teth s l).scr) (mTeth l (fun t => { t with scr := (scrBytes 6 t.scr).2 }) s)) s

/-- ALIGN_MISSING (R246). -/
def execAlignMissing (p : Port) (s : State) : Host.Outcome State Fault Refusal :=
  event (decide ((headPort s p).st = .active)) "ALIGN_MISSING" (fun s =>
    if (headPort s p).alignLogged then s
    else raiseLim .notice Err.alignMissing p (ms 1) [] (mHead p (fun h => { h with alignLogged := true }) s)) s

/-- ADAPT_FREEZE (R247, R424). -/
def execAdaptFreeze (lane : RxLane) (s : State) : Host.Outcome State Fault Refusal :=
  event (laneUp s lane) "ADAPT_FREEZE" (fun s => match lane with
    | .head p => mHead p (fun h => { h with frozen := true }) s
    | .tether l => mTeth l (fun t => { t with frozen := true }) s) s

/-- EYE_SCAN_DONE (R273). -/
def execEyeScanDone (mismatches : Nat) (s : State) : Host.Outcome State Fault Refusal :=
  event s.gul.eyePort.isSome "EYE_SCAN_DONE"
    (mGul (fun g => { g with eyePort := none, eyeErrs := min mismatches 0xFFFFFFFF, eyeBits := 2 ^ g.eyeDwell / 1024 })) s

/-- SYMBOL_REALIGN (R244): in ACTIVE a slip is counted; a frame in progress is discarded with reason CODE, on the tether counted in
PAR_CNT_CRC (log 20). -/
def execSymbolRealign (at_ : RxLane × Bool) (s : State) : Host.Outcome State Fault Refusal :=
  always (fun s => match at_.1 with
    | .head p =>
      let s' := if (headPort s p).st = .active then mHead p (fun h => { h with slips := satAdd 16 h.slips 1 }) s else s
      if at_.2 && linkUp s p then gulDiscard p 2 s' else s'
    | .tether _ => if at_.2 && s.par.tethUp then tethDrop s else s) s

/-- TRAINING_SET_IN_ACTIVE (R255). -/
def execTrainingSetInActive (p : Port) (s : State) : Host.Outcome State Fault Refusal := always (portLoss p 7) s

/-- CODE_ERROR_BURST (R255, R276): the errors are counted, and from 32 on an ACTIVE port is lost (log 21). -/
def execCodeErrorBurst (errs : Port × Nat) (s : State) : Host.Outcome State Fault Refusal :=
  always (fun s => doIf (decide (32 ≤ errs.2)) (portLoss errs.1 7) (gulErrs errs.1 errs.2 s)) s

/-- ADAPTATION_RESUME (R247). -/
def execAdaptationResume (lane : RxLane) (_sym : ResumeSym) (s : State) : Host.Outcome State Fault Refusal :=
  always (fun s => match lane with
    | .head p => mHead p (fun h => { h with frozen := false }) s
    | .tether l => mTeth l (fun t => { t with frozen := false }) s) s

end Sys2Proof.Machine
end

