-- ==== Sys2Proof/Machine/Calibration.lean ====
section
/-! DEFINITION. Calibration (16_calibration): temperature sets, slew steps, fire-edge generators and their rotation,
comparators. -/

namespace Sys2Proof.Machine

/-- Fire-edge generator `g`. -/
def feg (s : State) (g : Nat) : Feg := vget s.cal.fegs g ⟨CalVal.init 32, 0, [], 0, false, false, none⟩

/-- Update generator `g`. -/
def mFeg (g : Nat) (f : Feg → Feg) (s : State) : State := mCal (fun c => { c with fegs := vmod c.fegs g f }) s

/-- Rotation group `g`. -/
def fegGroup (s : State) (g : Nat) : FegGroup := vget s.cal.groups g ⟨0, 0, 0, 0, [], false⟩

/-- Update rotation group `g`. -/
def mGroup (g : Nat) (f : FegGroup → FegGroup) (s : State) : State := mCal (fun c => { c with groups := vmod c.groups g f }) s

/-- Comparator `c`. -/
def cmpCal (s : State) (c : Nat) : CmpCal := vget s.cal.cmps c ⟨CalVal.init 0, 0, false, false, false⟩

/-- Update comparator `c`. -/
def mCmpCal (c : Nat) (f : CmpCal → CmpCal) (s : State) : State := mCal (fun k => { k with cmps := vmod k.cmps c f }) s

/-- The procedure of R304 on the points of a CALSET entry (R440). -/
def calInterp (pts : List (Int × Int)) (t : Int) : Int :=
  let sets := pts.map (fun p => (⟨p.1, []⟩ : DelaySet))
  let (lo, hi) := bracketOf sets t
  let a := nth pts lo (0, 0)
  let b := nth pts hi (0, 0)
  if lo = hi then a.2 else a.2 + divRound ((b.2 - a.2) * (t - a.1)) (b.1 - a.1)

/-- The latest reading of sensor `n`. -/
def calTemp (s : State) (n : Nat) : Int := vget s.cal.temps n 0

/-- The CALSET entry of a target, if the image has one. -/
def calSetOf (s : State) (target : Nat) : Option CalSet := s.cal.sets.find? (fun e => e.target == target)

/-- A value as measured now, with the temperature of its sensor (R446, R450). -/
def calMeasured (s : State) (target : Nat) (v : Int) : Option (Int × Int) :=
  match calSetOf s target with | some e => some (calTemp s e.sensor, v) | none => some (0, v)

/-- The goal of a value after a tick (R440, R446): the set's value, or the measured value changed as the set changes. -/
def calRaw (e : CalSet) (t : Int) (c : CalVal) : Int :=
  match c.measAt with
  | some (tm, vm) => vm + calInterp e.pts t - calInterp e.pts tm
  | none => calInterp e.pts t

/-- Give a value its goal, clamped to its range (R440). -/
def calAim (lo hi raw : Int) (c : CalVal) : CalVal := { c with goal := clampInt lo hi raw, limit := decide (raw < lo) || decide (hi < raw) }

/-- CAL_LIMIT at the start of an excursion (R440). -/
def calLimitLog (was now_ : Bool) (s : State) : State := if now_ && !was then notice Err.calLimit [] s else s

/-- A generator off the pin takes its whole difference at once (R442). -/
def fegSettle (f : Feg) : Feg := if f.state = 0 then f else { f with ftrim := { f.ftrim with serv := f.ftrim.goal } }

/-- A spare that walks towards another generator does not follow its set. -/
def fegWalks (s : State) (g : Nat) : Bool :=
  decide (64 ≤ g) && (let k := fegGroup s (g - 64); decide (k.phase = 1) || decide (k.phase = 4))

/-- Update lane `l`. -/
def mLane (l : Nat) (f : LaneCal → LaneCal) (s : State) : State := mCal (fun c => { c with lanes := vmod c.lanes l f }) s

/-- Lane `l`. -/
def laneCal (s : State) (l : Nat) : LaneCal := vget s.cal.lanes l ⟨CalVal.init 16, CalVal.init 0, CalVal.init 0⟩

/-- One CALSET entry at a tick (R440, R441, R446, R450). -/
def calEntry (e : CalSet) (s : State) : State :=
  if !s.cal.tempValid.getLsbD e.sensor then s
  else
    let t := calTemp s e.sensor
    let i := e.target % 4096
    match e.target / 4096 with
    | 1 =>
      if fegWalks s i then s
      else
        let c := calAim 0 63 (calRaw e t (feg s i).ftrim) (feg s i).ftrim
        calLimitLog (feg s i).ftrim.limit c.limit (mFeg i (fun f => fegSettle { f with ftrim := c }) s)
    | 2 =>
      let c := calAim 0 31 (calRaw e t (laneCal s i).swing) (laneCal s i).swing
      calLimitLog (laneCal s i).swing.limit c.limit (mLane i (fun l => { l with swing := c }) s)
    | 3 =>
      let c := calAim 0 15 (calRaw e t (laneCal s i).deemph) (laneCal s i).deemph
      calLimitLog (laneCal s i).deemph.limit c.limit (mLane i (fun l => { l with deemph := c }) s)
    | 4 =>
      let c := calAim (-31) 31 (calRaw e t (laneCal s i).sampler) (laneCal s i).sampler
      calLimitLog (laneCal s i).sampler.limit c.limit (mLane i (fun l => { l with sampler := c }) s)
    | 5 =>
      let c := calAim (-31) 31 (calRaw e t (cmpCal s i).ofs) (cmpCal s i).ofs
      calLimitLog (cmpCal s i).ofs.limit c.limit (mCmpCal i (fun k => { k with ofs := c }) s)
    | _ => s

/-- The sensor readings of a tick (R441). -/
def sensorTick (temps : List Int) (s : State) : State :=
  each (fun n s =>
    let t := nth temps n 0
    let near := match vget s.cal.tempPrev n none with | some p => decide ((t - p).natAbs ≤ 128) | none => true
    let ok := decide (-640 ≤ t) && decide (t ≤ 2400) && near
    let m := BitVec.ofNat 8 (2 ^ n)
    let s := mCal (fun c => { c with
      tempPrev := vmod c.tempPrev n (fun _ => some t)
      tempValid := if ok then c.tempValid ||| m else c.tempValid &&& ~~~ m
      temps := vmod c.temps n (fun _ => t) }) s
    if ok then endFault Err.calSensor (fun a => nth a 4 0 == n) s
    else raiseLim .fault Err.calSensor n (ms 1000) [0, 0, 0, 0, n] s) (List.range 8) s

/-- Every CALSET entry at a tick; nothing moves in Faulted (R442). -/
def calTick (s : State) : State := if s.sys.st = .faulted then s else each calEntry s.cal.sets s

/-- What a measurement finds (R443): tap map, FTRIM and mean edge error in ps. -/
structure FegResult where
  tapMap : List Nat
  ftrim : Nat
  errPs : Int
deriving DecidableEq, Repr

/-- The choices of `n` elements of a list, in order. -/
def choices : Nat → List Nat → List (List Nat)
  | 0, _ => [[]]
  | _ + 1, [] => []
  | n + 1, a :: r => (choices n r).map (a :: ·) ++ choices (n + 1) r

/-- The cumulative tap delays of a tap map less the multiples of 125 ps, from tap `i` with `acc` before it (R443). -/
def tapErrs (el : List Nat) : Nat → Nat → List Nat → List Int
  | _, _, [] => []
  | i, acc, m :: r => ((acc + nth el m 0 : Nat) - (125 * i : Nat) : Int) :: tapErrs el (i + 1) (acc + nth el m 0) r

/-- How far a tap map lies from the multiples of 125 ps: the sum of its taps' distances (log 136). -/
def tapFar (el m : List Nat) : Nat := sumN ((tapErrs el 1 0 m).map Int.natAbs)

/-- The tap maps of a generator: 16 of its 20 elements, in order (R443). -/
def tapMaps : List (List Nat) := choices 16 (List.range 20)

/-- The tap map whose cumulative delays lie closest to multiples of 125 ps (R443). -/
def tapBest (el : List Nat) : List Nat :=
  match tapMaps with
  | [] => []
  | a :: r => (r.foldl (fun b m => if tapFar el m < b.2 then (m, tapFar el m) else b) (a, tapFar el a)).1

/-- The edge errors of the taps at FTRIM `f`, in 1/16 ps: FTRIM counts in 7.812 5 ps (R439). -/
def edgeErrs (base : Int) (es : List Int) (f : Nat) : List Int := es.map (fun e => 16 * (base + e) + 125 * f)

/-- The sum of some integers. -/
def sumI (l : List Int) : Int := l.foldl (· + ·) 0

/-- FTRIM that brings the mean edge error over all taps nearest 0 (R443). -/
def trimBest (base : Int) (es : List Int) : Nat :=
  (List.range 64).foldl (fun b f => if (sumI (edgeErrs base es f)).natAbs < (sumI (edgeErrs base es b)).natAbs then f else b) 0

/-- Some FTRIM brings every tap within 100 ps (R443). -/
def trimFits (base : Int) (es : List Int) : Bool := (List.range 64).any (fun f => (edgeErrs base es f).all (fun x => decide (x.natAbs ≤ 1600)))

/-- The result of a measurement, none for one that fails: no tap map and FTRIM bring every tap within 100 ps (R443; log 136). -/
def fegResult (t : FegTimes) : Option FegResult :=
  if tapMaps.any (fun m => trimFits t.base (tapErrs t.elems 1 0 m)) then
    let es := tapErrs t.elems 1 0 (tapBest t.elems)
    let f := trimBest t.base es
    some ⟨tapBest t.elems, f, divRound (sumI (edgeErrs t.base es f)) 256⟩
  else none

/-- CAL_FEG_FAIL, and CAL_NO_SPARE when a port is left without a calibrated generator (R447). -/
def fegFailed (g : Nat) (s : State) : State :=
  let s := mCal (fun c => { c with cntFail := c.cntFail + 1 }) (mFeg g (fun f => { f with state := 3, measured := true }) s)
  if 64 ≤ g then
    let k := fegGroup s (g - 64)
    let s := faultErr Err.calFegFail [] (mGroup (g - 64) (fun k => { k with stopped := true, phase := if k.phase = 5 then 5 else 0 }) s)
    if k.phase = 5 then raise .fatal Err.calNoSpare [] s else s
  else
    let q := g / 16
    let k := fegGroup s q
    if k.phase = 5 ∨ (feg s (64 + q)).state = 3 then raise .fatal Err.calNoSpare [] s
    else
      faultErr Err.calFegFail [] (mFeg (64 + q) (fun f => { f with state := 0 })
        (mGroup q (fun k => { k with phase := 5, port := g, stopped := true, matches_ := 0 }) s))

/-- A measurement ends well (R443 to R446). -/
def fegGood (g : Nat) (r : FegResult) (s : State) : State :=
  let v := clampInt 0 63 r.ftrim
  let m := calMeasured s (4096 + g) v
  let s := mFeg g (fun f => { f with
    ftrim := ⟨v, v, false, m, 0⟩, tapMap := r.tapMap, errPs := clampInt (-128) 127 r.errPs, measured := true }) s
  if s.sys.st = .verifying then mFeg g (fun f => { f with state := if g < 64 then 0 else if f.state = 0 ∧ (fegGroup s (g - 64)).phase = 5 then 0 else 2 }) s
  else if 64 ≤ g then mGroup (g - 64) (fun k => { k with phase := 1, matches_ := 0 }) s
  else mGroup (g / 16) (fun k => { k with phase := 4, matches_ := 0 }) s

/-- A rotation begins: the next generator in turn, or one queued by CAL_FORCE, and the spare is measured first (R445). -/
def fegRotate (g : Nat) (s : State) : State :=
  let k := fegGroup s g
  let s := mFeg (64 + g) (fun f => { f with measured := false }) s
  match k.forced with
  | p :: r => mGroup g (fun k => { k with port := p, forced := r }) s
  | [] => mGroup g (fun k => { k with port := 16 * g + k.next, next := (k.next + 1) % 16 }) s

/-- The spare's FTRIM walks one unit towards the working generator's edge: `d` is the spare's edge less that one (R442,
R445). -/
def fegWalk (sp : Nat) (d : Int) (s : State) : State :=
  let v := clampInt 0 63 ((feg s sp).ftrim.serv + (if 0 < d then -1 else 1))
  mFeg sp (fun f => { f with ftrim := ⟨v, v, false, calMeasured s (4096 + sp) v, 0⟩, stepped := true }) s

/-- One comparison in MATCH or RETURN: after 16 in a row within 6 ps the generators change places (R445). -/
def fegCompare (g : Nat) (d : Int) (s : State) : State :=
  let k := fegGroup s g
  let sp := 64 + g
  if k.phase ≠ 1 ∧ k.phase ≠ 4 then s
  else if 6 < d.natAbs then fegWalk sp d (mGroup g (fun k => { k with matches_ := 0 }) s)
  else if k.matches_ + 1 < 16 then mGroup g (fun k => { k with matches_ := k.matches_ + 1 }) s
  else if k.phase = 1 then
    mFeg sp (fun f => { f with state := 0 }) (mFeg k.port (fun f => { f with state := 1, measured := false })
      (mGroup g (fun k => { k with phase := 3, matches_ := 0 }) s))
  else
    mCal (fun c => { c with cntRot := c.cntRot + 1 })
      (mFeg sp (fun f => { f with state := 2 }) (mFeg k.port (fun f => { f with state := 0 })
        (mGroup g (fun k => { k with phase := 0, matches_ := 0 }) s)))

/-- A strike of port `p`: its generators may step again (R442), and it is compared when its group is in MATCH or RETURN on it (R445). -/
def fegStrike (p : Nat) (d : Int) (s : State) : State :=
  let s := mFeg p (fun f => { f with stepped := false }) (mFeg (64 + p / 16) (fun f => { f with stepped := false }) s)
  if s.sys.st ≠ .faulted ∧ (fegGroup s (p / 16)).port = p then fegCompare (p / 16) d s else s

/-- A write to CAL_FORCE (R445, R451). -/
def opCalForce (v : Word) (s : State) : State :=
  if bit v 31 then mGroup (bits v 5 0 / 16) (fun k => { k with forced := k.forced ++ [bits v 5 0] }) s else s

/-- The owner of comparator `c` is idle (R450). -/
def cmpIdle (s : State) (c : Nat) : Bool := if c < 8 then !(axis s (c / 2)).en else !(gate s (c - 8)).busy

/-- Abandon the measurement of a comparator whose owner starts (R450). -/
def cmpAbandon (c : Nat) (s : State) : State := mCmpCal c (fun k => { k with measuring := false }) s

/-- The input stage with the smallest offset, the lowest of equals (R449). -/
def stageBest (offs : List Int) : Nat :=
  (List.range 4).foldl (fun b i => if (nth offs i 0).natAbs < (nth offs b 0).natAbs then i else b) 0

/-- A comparator's goal after a measurement (R450). -/
def cmpAim (c stage : Nat) (v : Int) (s : State) : State :=
  let w := clampInt (-31) 31 v
  let m := calMeasured s (5 * 4096 + c) w
  mCmpCal c (fun k => { k with
    measuring := false, failed := false, stage := stage, valid := true, ofs := { k.ofs with goal := w, limit := false, measAt := m } }) s

/-- A comparator's measurement ends (R449, R450): one that has a stage keeps it; for another the stage with the smallest offset is selected,
or none when no stage can be trimmed within 31 codes. -/
def cmpDone (c : Nat) (offs : List Int) (s : State) : State :=
  let k := cmpCal s c
  if k.valid then cmpAim c k.stage (nth offs k.stage 0) s
  else if 31 < (nth offs (stageBest offs) 0).natAbs then
    faultErr Err.calCmpFail [] (mCmpCal c (fun k => { k with measuring := false, failed := true, valid := false }) s)
  else cmpAim c (stageBest offs) (nth offs (stageBest offs) 0) s

/-- The value in service and the goal of a target. -/
def calPair (s : State) (t : CalTarget) : Int × Int :=
  let two := fun (c : CalVal) => (c.serv, c.goal)
  match t with
  | .ftrim g => two (feg s g).ftrim
  | .swing l => two (laneCal s l).swing
  | .deemph l => two (laneCal s l).deemph
  | .sampler l => two (laneCal s l).sampler
  | .comparator c => two (cmpCal s c).ofs
  | .dram ch f => (nth (chan s ch).serv f 0, nth (chan s ch).goal f 0)

/-- The port whose strikes pace a generator's steps (R442). -/
def fegPort (s : State) (g : Nat) : Nat := if 64 ≤ g then (fegGroup s (g - 64)).port else g

/-- A generator's FTRIM may step (R442): on its pin once per strike of its port, once per 1 µs while no grid is open there. -/
def fegSteps (s : State) (g : Nat) : Bool :=
  let f := feg s g
  decide (f.state ≠ 0)
    || (if (nextLc s (fegPort s g)).isSome then !f.stepped else match f.stepAt with | some t => decide (t + us 1 ≤ s.now) | none => true)

/-- A value that steps once per management tick may step (R442). -/
def tickSteps (s : State) (n : Nat) : Bool := decide (n ≠ s.mgt.ticks + 1)

/-- A comparator's offset is applied: on an axis outside an ON phase, on a gate outside a sweep's slot (R442). -/
def cmpSteps (s : State) (c : Nat) : Bool :=
  if c < 8 then
    let k := axis s (c / 2)
    let p := if c % 2 = 0 then k.phA else k.phB
    decide (p.drive ≠ 1) && decide (p.drive ≠ 2)
  else (gate s (c - 8)).slot.isNone

/-- A slew step may be applied: the target's conditions of R442 that the state shows, and no freeze (R316). -/
def slewOpen (s : State) (t : CalTarget) : Bool :=
  let p := calPair s t
  decide (p.1 ≠ p.2) && decide (s.sys.st ≠ .faulted) && (match t with
    | .ftrim g => fegSteps s g
    | .swing l => tickSteps s (laneCal s l).swing.tick
    | .deemph l => tickSteps s (laneCal s l).deemph.tick
    | .sampler l => tickSteps s (laneCal s l).sampler.tick
    | .comparator c => cmpSteps s c && tickSteps s (cmpCal s c).ofs.tick
    | .dram ch f =>
      let n := nth (chan s ch).stepAt f 0
      !s.mem.frozen && (chan s ch).inflight.isEmpty
        && (if f.val < 6 then decide (n = 0) || decide (n - 1 + us 1 ≤ s.now) else tickSteps s n))

/-- One unit towards the goal, at management tick `n`. -/
def slewUnit (n : Nat) (c : CalVal) : CalVal :=
  { c with serv := if c.serv < c.goal then c.serv + 1 else if c.goal < c.serv then c.serv - 1 else c.serv, tick := n + 1 }

/-- A slew step of a target (R442); a write reference is applied by mode register write (R303). -/
def slewStep (t : CalTarget) (s : State) : State :=
  let n := s.mgt.ticks
  match t with
  | .ftrim g => mFeg g (fun f => fegSettle { f with ftrim := slewUnit n f.ftrim, stepped := true, stepAt := some s.now }) s
  | .swing l => mLane l (fun x => { x with swing := slewUnit n x.swing }) s
  | .deemph l => mLane l (fun x => { x with deemph := slewUnit n x.deemph }) s
  | .sampler l => mLane l (fun x => { x with sampler := slewUnit n x.sampler }) s
  | .comparator c => mCmpCal c (fun k => { k with ofs := slewUnit n k.ofs }) s
  | .dram ch f =>
    let p := calPair s t
    let v := if p.1 < p.2 then p.1 + 1 else p.1 - 1
    let s := mChan ch (fun c => { c with serv := c.serv.set f v, stepAt := c.stepAt.set f (if f.val < 6 then s.now + 1 else n + 1) }) s
    if f.val = 8 then emit (.dram ch "WVREF0" v.toNat) s else if f.val = 9 then emit (.dram ch "WVREF1" v.toNat) s else s

/-- FEG_ROTATION_START (R445). -/
def execFegRotationStart (g : Fin 4) (s : State) : Host.Outcome State Fault Refusal :=
  event (bit (regVal s (base 25)) 31 && operational s && decide ((fegGroup s g).phase = 0) && !(fegGroup s g).stopped
    && (feg s (64 + g)).measured) "FEG_ROTATION_START" (fegRotate g) s

/-- A generator is under measurement: in Verifying, a spare that begins a rotation, or a working one in MEASURE. -/
def fegMeasuring (s : State) (g : Nat) : Bool :=
  !(feg s g).measured && (decide (s.sys.st = .verifying)
    || (operational s && (if 64 ≤ g then decide ((fegGroup s (g - 64)).phase = 0)
        else decide ((fegGroup s (g / 16)).phase = 3) && decide ((fegGroup s (g / 16)).port = g))))

/-- FEG_MEASURE_DONE (R443 to R447). -/
def execFegMeasureDone (gen : Fin 68) (times : FegTimes) (s : State) : Host.Outcome State Fault Refusal :=
  formed (decide (times.elems.length = 20)) "FEG_MEASURE_DONE" (event (fegMeasuring s gen) "FEG_MEASURE_DONE"
    (fun s => match fegResult times with | some r => fegGood gen r s | none => fegFailed gen s) s)

/-- FEG_TEST_EDGE (R445). -/
def execFegTestEdge (g : Fin 4) (cmpPs : Int) (s : State) : Host.Outcome State Fault Refusal :=
  event (operational s && (nextLc s (fegGroup s g).port).isNone && (decide ((fegGroup s g).phase = 1) || decide ((fegGroup s g).phase = 4)))
    "FEG_TEST_EDGE" (fegCompare g cmpPs) s

/-- CMP_MEASURE (R449, R450). -/
def execCmpMeasure (c : Fin 10) (s : State) : Host.Outcome State Fault Refusal :=
  event (running s && cmpIdle s c && !(cmpCal s c).measuring) "CMP_MEASURE" (mCmpCal c (fun k => { k with measuring := true })) s

/-- CMP_MEASURE_DONE (R449, R450). -/
def execCmpMeasureDone (c : Fin 10) (offs : List Int) (s : State) : Host.Outcome State Fault Refusal :=
  formed (decide (offs.length = 4)) "CMP_MEASURE_DONE" (event ((cmpCal s c).measuring && running s) "CMP_MEASURE_DONE" (cmpDone c offs) s)

/-- CAL_SLEW_STEP (R442). -/
def execCalSlewStep (t : CalTarget) (s : State) : Host.Outcome State Fault Refusal :=
  event (slewOpen s t) "CAL_SLEW_STEP" (slewStep t) s

end Sys2Proof.Machine
end

