-- ==== Sys2Proof/Machine/Axes.lean ====
section
/-! DEFINITION. Stepper axes (12_axes): the microstep table (R334, R335), bridges and chopper (R333, R336 to R338), profiles
(R339 to R343), gearing (R344, R345), limits (R346, R347), stall (R348), overcurrent (R349), standstill and holding current
(R351, R352), Faulted (R353), and the shuffle watch (R236). -/

namespace Sys2Proof.Machine

/-- Address of register `o` of axis `a` (R354). -/
def axsAddr (a o : Nat) : Nat := base 22 + 0x100 + 0x80 * a + o

/-- Register `o` of axis `a` as last written. -/
def axReg (s : State) (a o : Nat) : Word := regVal s (axsAddr a o)

/-- An RWL register of an axis in force (R25). -/
def axL (s : State) (a o : Nat) : Word := spGet (regReset (axsAddr a o)) (axis s a).rwl (axsAddr a o)

/-- An RWK register of an axis in force (R32). -/
def axK (s : State) (a o : Nat) : Word := spGet (regReset (axsAddr a o)) (axis s a).rwk (axsAddr a o)

/-- The registers of axis `a` in a register map. -/
def axsSlice (a : Nat) (m : WMap) : WMap := m.filter (fun x => decide (axsAddr a 0 ≤ x.1) && decide (x.1 < axsAddr (a + 1) 0))

/-- Store a register of an axis and put it into force: the device writes it (R346 to R348). -/
def axSet (a o : Nat) (v : Word) (s : State) : State :=
  let s := setReg (axsAddr a o) v s
  mAxs a (fun k => { k with rwl := spSet (regReset (axsAddr a o)) k.rwl (axsAddr a o) v }) s

/-- TARGET in force. -/
def axTarget (s : State) (a : Nat) : Int := (axL s a 0x24).toInt

/-- Set a bit of AXS_AXn_STAT. -/
def axStat (a i : Nat) (s : State) : State := mAxs a (fun k => { k with stat := k.stat ||| BitVec.ofNat 8 (2 ^ i) }) s

/-- round(511 × cos(2π i ÷ 1024)) for i from 0 to 256 (R334). -/
def cosQuarter : List Nat :=
   [511, 511, 511, 511, 511, 511, 511, 511, 510, 510, 510, 510, 510, 509, 509, 509, 509, 508, 508, 508, 507, 507, 506, 506, 505, 505, 505, 504, 503, 503, 502, 502, 501, 501, 500, 499, 499, 498, 497, 496, 496, 495, 494] ++
   [493, 492, 492, 491, 490, 489, 488, 487, 486, 485, 484, 483, 482, 481, 480, 479, 478, 477, 476, 474, 473, 472, 471, 470, 468, 467, 466, 465, 463, 462, 461, 459, 458, 456, 455, 454, 452, 451, 449, 448, 446, 445, 443] ++
   [441, 440, 438, 437, 435, 433, 432, 430, 428, 427, 425, 423, 421, 420, 418, 416, 414, 412, 410, 409, 407, 405, 403, 401, 399, 397, 395, 393, 391, 389, 387, 385, 383, 381, 379, 377, 374, 372, 370, 368, 366, 364, 361] ++
   [359, 357, 355, 352, 350, 348, 345, 343, 341, 338, 336, 334, 331, 329, 327, 324, 322, 319, 317, 314, 312, 309, 307, 304, 302, 299, 297, 294, 292, 289, 286, 284, 281, 279, 276, 273, 271, 268, 265, 263, 260, 257, 255] ++
   [252, 249, 246, 244, 241, 238, 235, 233, 230, 227, 224, 221, 218, 216, 213, 210, 207, 204, 201, 198, 196, 193, 190, 187, 184, 181, 178, 175, 172, 169, 166, 163, 160, 157, 154, 151, 148, 145, 142, 139, 136, 133, 130] ++
   [127, 124, 121, 118, 115, 112, 109, 106, 103, 100, 97, 94, 90, 87, 84, 81, 78, 75, 72, 69, 66, 63, 59, 56, 53, 50, 47, 44, 41, 38, 34, 31, 28, 25, 22, 19, 16, 13, 9, 6, 3, 0]

/-- round(511 × cos(2π i ÷ 1024)) (R334). -/
def cosEntry (i : Nat) : Int :=
  let i := i % 1024
  if i ≤ 256 then (nth cosQuarter i 0 : Nat)
  else if i ≤ 512 then -((nth cosQuarter (512 - i) 0 : Nat) : Int)
  else if i ≤ 768 then -((nth cosQuarter (i - 512) 0 : Nat) : Int)
  else (nth cosQuarter (1024 - i) 0 : Nat)

/-- The sine table's entry `i` (R334). -/
def sineWord (i : Nat) : Word := w32 ((cosEntry (i + 768) % 1024).toNat * 65536 + (cosEntry i % 1024).toNat)

/-- Entry `i` of a microstep table. -/
def tblEntry (t : WMap) (i : Nat) : Word := spGet (sineWord i) t i

/-- e of a phase: B when `b`, else A (R334). -/
def axE (k : AxisState) (b : Bool) : Int :=
  let w := tblEntry k.tbl ((k.pos + k.iofs) % 1024).toNat
  if b then sbits w 25 16 else sbits w 9 0

/-- The current scale I (R352). -/
def axI (s : State) (a : Nat) : Nat := if (axis s a).holdCur then bits (axL s a 4) 9 0 else bits (axL s a 4) 25 16

/-- T of a phase whose cycle starts now (R336). -/
def axT (s : State) (a : Nat) (b : Bool) : Nat := (axE (axis s a) b).natAbs * axI s a / 511

/-- A phase of an axis. -/
def phaseOf (k : AxisState) (b : Bool) : ChopPhase := if b then k.phB else k.phA

/-- T of a phase in the present chopper cycle, which keeps the I it started with (R336, R352). -/
def phT (s : State) (a : Nat) (b : Bool) : Nat := (axE (axis s a) b).natAbs * (phaseOf (axis s a) b).cur / 511

/-- HYST ÷ 2 (R336). -/
def axHyst (s : State) (a : Nat) : Int := (bits (axL s a 8) 23 16 / 2 : Nat)

/-- The upper threshold of a phase (R336). -/
def chopHi (s : State) (a : Nat) (b : Bool) : Int := clampInt 0 1023 (phT s a b + (phaseOf (axis s a) b).ofs + axHyst s a)

/-- The lower threshold of a phase (R336). -/
def chopLo (s : State) (a : Nat) (b : Bool) : Int := clampInt 0 1023 (phT s a b + (phaseOf (axis s a) b).ofs - axHyst s a)

/-- BLANK of an axis, in 5 ns. -/
def axBlank (s : State) (a : Nat) : Nat := bits (axReg s a 0) 15 8

/-- TOFFMAX of an axis, in 5 ns. -/
def axToff (s : State) (a : Nat) : Nat := 200 * bits (axL s a 8) 15 8

/-- Update a phase of an axis. -/
def mPhase (a : Nat) (b : Bool) (f : ChopPhase → ChopPhase) (s : State) : State :=
  mAxs a (fun k => if b then { k with phB := f k.phB } else { k with phA := f k.phA }) s

/-- The gates that are on in a drive state, 0 OFF, 1 DRIVE+, 2 DRIVE−, 3 SLOW, 4 FAST: bit 0 H1, 1 L1, 2 H2, 3 L2. FAST turns on the diagonal
opposite to the last drive, DRIVE+ when `pos` (R332, R333). -/
def gatesOn (d : Nat) (pos : Bool) : BitVec 4 :=
  match d with
  | 0 => 0
  | 1 => 9
  | 2 => 6
  | 3 => 10
  | _ => if pos then 6 else 9

/-- The other gates of the half-bridges of some gates. -/
def gateMates (g : BitVec 4) : BitVec 4 := ((g &&& 5) <<< 1) ||| ((g &&& 10) >>> 1)

/-- A bridge takes a drive state: gates turn off at once, and those that turn on follow DEAD × 5 ns after the other gate of their
half-bridge has turned off (R333). -/
def bridgeTo (a : Nat) (b : Bool) (d : Nat) (s : State) : State :=
  let p := phaseOf (axis s a) b
  let last := if d = 1 then true else if d = 2 then false else p.lastPos
  let old := gatesOn p.drive p.lastPos
  let new := gatesOn d last
  let dead := if old &&& gateMates new = 0 then 0 else bits (axReg s a 0) 23 16
  let s := emit (.bridge a (b2n b 0) (old &&& new) 0) (mPhase a b (fun p => { p with drive := d, lastPos := last }) s)
  if new = old &&& new then s else emit (.bridge a (b2n b 0) new dead) s

/-- The bridges of an axis may drive (R333, R353). -/
def axDrives (s : State) (a : Nat) : Bool := (axis s a).en && (operational s || decide (s.sys.st = .faulted))

/-- ON starts (R336), and a probe cycle with it when one is due and its T qualifies (R338). -/
def chopOn (a : Nat) (b : Bool) (s : State) : State :=
  let t := axT s a b
  let e := axE (axis s a) b
  if t = 0 ∨ axDrives s a = false then bridgeTo a b 0 s
  else
    let p := phaseOf (axis s a) b
    let due := p.probeDue || decide (bits (axL s a 0xC) 15 8 ≤ p.cycles + 1)
    let probe := due && bit (axReg s a 0) 29 && decide (bits (axL s a 0xC) 7 0 ≤ t) && decide (t = p.lastT)
    let s := mPhase a b (fun p => { p with
      lastT := t, cur := axI s a, cycles := if probe then 0 else p.cycles + 1, probeDue := due && !probe, probing := probe }) s
    bridgeTo a b (if 0 < e then 1 else 2) s

/-- A phase follows a change of the table index, of the table, of EN or of the device state (R333, R336). -/
def chopFollow (a : Nat) (b : Bool) (s : State) : State :=
  let p := phaseOf (axis s a) b
  let e := axE (axis s a) b
  if axDrives s a = false ∨ (if p.drive = 0 then axT s a b else phT s a b) = 0 then (if p.drive = 0 then s else bridgeTo a b 0 s)
  else if p.drive = 0 then chopOn a b s
  else if decide (0 < e) = p.lastPos ∨ p.drive = 4 then s
  else bridgeTo a b 4 (mPhase a b (fun p => { p with probing := false }) s)

/-- Both phases of an axis follow. -/
def axFollow (a : Nat) (s : State) : State := chopFollow a true (chopFollow a false s)

/-- Every axis follows a change of the device state (R36). -/
def axesFollow (s : State) : State := each axFollow [0, 1, 2, 3] s

/-- The probe of a cycle whose ON lasted `dur` (R338; log 29). -/
def chopProbe (blank dur : Nat) (short atT : Bool) (p : ChopPhase) : ChopPhase :=
  if p.probing && !short && decide (blank < p.lastOn / 2) && decide (p.lastOn / 2 + 10 ≤ dur) then
    { p with ofs := clampInt (-63) 63 (if atT then p.ofs - 1 else p.ofs + 1), probing := false }
  else { p with probing := false }

/-- The present period of a phase can end after `dur` × 5 ns with the sense at `sense`: ON at a sample after blanking that finds it at or
above hi; OFF at one that finds it below lo, or after TOFFMAX (R336). -/
def chopCan (s : State) (a : Nat) (b : Bool) (dur sense : Nat) : Bool :=
  let d := (phaseOf (axis s a) b).drive
  if d = 1 ∨ d = 2 then decide (axBlank s a ≤ dur) && decide (chopHi s a b ≤ sense)
  else decide (dur = axToff s a) || (decide (axBlank s a ≤ dur) && decide (dur < axToff s a) && decide ((sense : Int) < chopLo s a b))

/-- A phase's ON or OFF period ends (R336 to R338). An ON that ends with its blanking is short (R337). -/
def chopEnd (a : Nat) (b : Bool) (dur mid : Nat) (s : State) : State :=
  let p := phaseOf (axis s a) b
  if p.drive = 1 ∨ p.drive = 2 then
    let short := decide (dur = axBlank s a)
    let atT := decide (phT s a b ≤ mid)
    let s := mPhase a b (fun p =>
      let p := chopProbe (axBlank s a) dur short atT p
      { p with lastOn := dur, shorts := if short then p.shorts + 1 else 0 }) s
    bridgeTo a b (if bit (axReg s a 0) 30 then 3 else 4) s
  else
    chopOn a b (mAxs a (fun k => { k with onSum := k.onSum + p.lastOn, onCnt := k.onCnt + 1 }) s)

/-- The shuffle axis has moved beyond TOL while a layer is Printing (R236). -/
def shuffleWatch (a : Nat) (s : State) : State :=
  let c := actVal s (base 16 + 0x20)
  let tol := bits c 15 0
  if bit c 31 && bits c 30 29 == a && inPrint s && !(printingLayers s).isEmpty && decide ((tol : Int) < ((axis s a).pos - s.nzl.shufPos).natAbs) then
    raise .stop Err.shuffleMoved [] s
  else s

/-- ONT of a full step: judged against SREF (R348). A step in which no cycle has been completed is not judged. -/
def fullStep (a : Nat) (s : State) : State :=
  let k := axis s a
  let r := axL s a 0x4C
  let sref := bits r 31 16
  let s := mAxs a (fun k => { k with onSum := 0, onCnt := 0 }) s
  if sref = 0 ∨ k.v.natAbs < bits (axL s a 0x50) 19 0 * 65536 ∨ k.onCnt = 0 then s
  else
    let ont := k.onSum / k.onCnt
    let low := if ont < sref * (100 - bits r 15 8) / 100 then k.lowSteps + 1 else 0
    mAxs a (fun k => { k with ont := min ont 0xFFFF, lowSteps := low, stallPend := k.stallPend || decide (bits r 7 4 ≤ low) }) s

/-- POS moves one microstep (R339). -/
def microStep (a : Nat) (s : State) : State :=
  let k := axis s a
  let q := if k.pos < k.goal then k.pos + 1 else k.pos - 1
  let s := mAxs a (fun k => { k with pos := q }) s
  let s := if Int.fdiv q 256 ≠ Int.fdiv k.pos 256 then fullStep a s else s
  shuffleWatch a (axFollow a s)

/-- The verges in force, with 16 fractional bits; the ends of POS always are (R339, R346). -/
def verges (s : State) (a : Nat) : Int × Int :=
  if bit (axReg s a 0) 26 then ((axK s a 0x30).toInt * 65536, (axK s a 0x34).toInt * 65536)
  else (-(2 ^ 31) * 65536, (2 ^ 31 - 1) * 65536)

/-- DMAX in force. -/
def axDmax (s : State) (a : Nat) : Int := (bits (axK s a 0x18) 23 0 : Nat)

/-- EDEC in force. -/
def axEdec (s : State) (a : Nat) : Int := (bits (axK s a 0x1C) 23 0 : Nat)

/-- Sign of an integer. -/
def sg (x : Int) : Int := if 0 < x then 1 else if x < 0 then -1 else 0

/-- Half the square of a speed over a distance, as a deceleration in 1/65 536 (R341, R346). -/
def stopDec (v r : Int) : Int := v * v / (2 * (r.natAbs : Int))

/-- dn: the deceleration that stops the axis at its target, in 1/65 536 (R341). -/
def rampDec (dmax jmax v r : Int) : Int :=
  stopDec v r + (if jmax = 0 then 0 else (v.natAbs : Int) * dmax * 65536 / (2 * jmax * (r.natAbs : Int)))

/-- A limit stop begins when the stopping position lies beyond a verge (R346). -/
def limitCheck (a : Nat) (s : State) : State :=
  let k := axis s a
  let (lo, hi) := verges s a
  let stop := k.p + (k.v * (k.v.natAbs : Int)).tdiv (65536 * 2 * axDmax s a)
  let begin_ := fun (g : Int) (s : State) =>
    let edec := axEdec s a * 65536
    let slam := decide (g = k.p) || decide (edec < stopDec k.v (g - k.p))
    let d := if slam then edec else max (stopDec k.v (g - k.p)) (axDmax s a * 65536)
    let s := notice Err.axVerge [] (axStat a 4 (mAxs a (fun k => { k with limStop := some (g, d) }) s))
    doIf slam (faultErr Err.axVergeSlam []) s
  if k.limStop.isSome ∨ k.hardStop ≠ 0 then s
  else if 0 < k.v ∧ hi < stop then begin_ hi s
  else if k.v < 0 ∧ stop < lo then begin_ lo s
  else s

/-- The present command of a geared axis, with 16 fractional bits (R344). -/
def gearCmd (s : State) (a : Nat) : Int :=
  let k := axis s a
  k.gbase + ((rcDiff (enc s k.src).rc k.mbase * k.ratio) >>> 16) * 65536

/-- Values that a knot has given the axis come into force (R32, R335, R343, R345). -/
def axKnot (a : Nat) (s : State) : State :=
  if !(axis s a).knotPend then s
  else
    let dn := rampDec (axDmax s a) (axK s a 0x20).toNat (axis s a).v (axTarget s a * 65536 - (axis s a).p)
    let s := mAxs a (fun k => { k with knotPend := false, tbl := k.tblActive, rwk := axsSlice a s.act }) s
    let k := axis s a
    let ratio := (axK s a 0x38).toInt
    let s := if ratio = k.ratio then s
      else mAxs a (fun k => { k with gbase := gearCmd s a, mbase := (enc s k.src).rc, ratio := ratio }) s
    let held := k.dmaxLow && k.ramp && decide (axDmax s a * 65536 < dn)
    let s := mAxs a (fun k => { k with dmaxLow := false, dheld := if held then some dn else k.dheld }) s
    axFollow a (doIf held (fun s => notice Err.accelHeld [] (axStat a 3 s)) s)

/-- The scheduled ratio change takes effect (R345). -/
def gearSwitch (a : Nat) (s : State) : State :=
  axStat a 1 (mAxs a (fun k => { k with
    gbase := k.gbase + ((rcDiff k.gat k.mbase * k.ratio) >>> 16) * 65536, mbase := k.gat, ratio := (axReg s a 0x3C).toInt, gatArmed := false }) s)

/-- A scheduled ratio change whose position the master has passed (R345). -/
def gearDue (a : Nat) (s : State) : State :=
  let k := axis s a
  let d := sg (rcDiff (enc s k.src).rc k.gat)
  if k.gatArmed && (decide (k.sigma = 0) || decide (d ≠ k.sigma)) then gearSwitch a s else s

/-- MODE as stored, with its mode set to POSITION. -/
def modePos (w : Word) : Word := w &&& 0x30

/-- The device sets MODE to POSITION (R346 to R348, R353). -/
def toPosition (a : Nat) (s : State) : State := mAxs a (fun k => { k with mode := 0 }) (axSet a 0x2C (modePos (axReg s a 0x2C)) s)

/-- The device sets TARGET. -/
def toTarget (a : Nat) (x : Int) (s : State) : State := axSet a 0x24 (i32 x) s

/-- A stall (R348). -/
def stallTake (a : Nat) (s : State) : State :=
  if !(axis s a).stallPend then s
  else
    let s := mAxs a (fun k => { k with v := 0, a := 0, ramp := false, posValid := false, stallPend := false, lowSteps := 0, limStop := none, hardStop := 0 }) s
    faultErr Err.axStall [] (axStat a 6 (toTarget a ((axis s a).p.tdiv 65536) (toPosition a s)))

/-- RWL values come into force (R25), with a change of MODE (R341, R344). -/
def axRwl (a : Nat) (s : State) : State :=
  let s := mAxs a (fun k => { k with rwl := axsSlice a s.regs }) s
  let w := axL s a 0x2C
  let m := bits w 1 0
  let src := bits w 5 4
  let k := axis s a
  if m = k.mode ∧ src = k.src then s
  else
    let s := mAxs a (fun k => { k with mode := m, src := src, ramp := if m = k.mode then k.ramp else false }) s
    if m = 2 then mAxs a (fun k => { k with mbase := (enc s src).rc, gbase := k.p, vHold := 0 }) s else s

/-- v moved towards 0 by a deceleration `d` in 1/65 536 over one update. -/
def braked (v d : Int) : Int := if v.natAbs ≤ (d.tdiv 100000).natAbs then 0 else v - sg v * d.tdiv 100000

/-- p moved by `v` over one update; it does not pass a verge that it has not passed (R339, R346). -/
def moved (lo hi p v : Int) : Int :=
  let q := p + v.tdiv 100000
  if p ≤ hi ∧ hi < q then hi else if lo ≤ p ∧ q < lo then lo else q

/-- A limit stop goes on, and ends (R346). -/
def limitStep (a : Nat) (g d : Int) (s : State) : State :=
  let k := axis s a
  let dir := sg k.v
  let before := decide (0 ≤ dir * (g - k.p))
  let v := braked k.v d
  let q := k.p + v.tdiv 100000
  let at_ := before && (decide (v = 0) || decide (dir * (g - q) ≤ 0))
  if at_ ∨ v = 0 then
    let p := if at_ then g else q
    let s := mAxs a (fun k => { k with p := p, v := 0, a := 0, ramp := false, limStop := none }) s
    match (axis s a).mode with
    | 0 => if dir * (axTarget s a * 65536 - g) ≤ 0 then s else mAxs a (fun k => { k with vHold := dir }) s
    | 1 => mAxs a (fun k => { k with vHold := dir }) s
    | _ => faultErr Err.axGearStop [] (toTarget a (g.tdiv 65536) (toPosition a s))
  else mAxs a (fun k => { k with p := q, v := v, a := -(dir * d) }) s

/-- A stop at a hard limit goes on, and ends (R347; log 30). -/
def hardStep (a : Nat) (lo hi : Int) (s : State) : State :=
  let d := axEdec s a * 65536
  let k := axis s a
  let v := braked k.v d
  let p := moved lo hi k.p v
  let s := mAxs a (fun k => { k with p := p, v := v, a := if v = 0 then 0 else -(sg v * d) }) s
  if v ≠ 0 then s
  else
    let s := mAxs a (fun k => { k with hardStop := 0, ramp := false }) s
    if k.hardStop = 2 then toTarget a (p.tdiv 65536) s else s

/-- In Faulted an axis brakes to zero at DMAX and holds at IHOLD (R353). -/
def faultStep (a : Nat) (lo hi : Int) (s : State) : State :=
  let d := axDmax s a * 65536
  let k := axis s a
  let s := if k.mode = 2 then toPosition a s else s
  let v := braked k.v d
  mAxs a (fun k => { k with p := moved lo hi k.p v, v := v, a := if v = 0 then 0 else -(sg v * d), ramp := false, holdCur := k.holdCur || decide (v = 0) }) s

/-- `x` moved towards `y` by at most `step`. -/
def approach (x y step : Int) : Int := if y < x - step then x - step else if x + step < y then x + step else y

/-- One update of POSITION mode towards `tgt` (R341, R343). -/
def posStep (amax dmax vmax jmax tgt lo hi : Int) (k : AxisState) : AxisState :=
  let r := tgt - k.p
  let sr := sg r
  let ra : Int := r.natAbs
  let va : Int := k.v.natAbs
  if ra ≤ 65536 ∧ va ≤ (amax * 65536).tdiv 100000 then { k with p := tgt, v := 0, a := 0, ramp := false }
  else
    let step := fun (ad : Int) (ramp : Bool) =>
      let a := if jmax = 0 then ad else approach k.a ad ((jmax * 65536).tdiv 100000)
      let v := k.v + a.tdiv 100000
      { k with a := a, v := v, p := moved lo hi k.p v, ramp := ramp && decide (v ≠ 0) }
    if k.v * sr < 0 then step (-(sg k.v) * dmax * 65536) false
    else if ra = 0 then step (Config.rampAtTarget k.v) true
    else
      let dn := rampDec dmax jmax k.v r
      if k.ramp ∨ dmax * 65536 ≤ dn then step (-(sr * dn)) true
      else if vmax * 65536 < va then step (-(sr * dmax * 65536)) false
      else step (sr * min (amax * 65536) ((vmax * 65536 - va) * 100000)) false

/-- One update of VELOCITY mode towards `vt` (R340). -/
def velStep (amax dmax vt lo hi : Int) (k : AxisState) : AxisState :=
  let grow := decide (k.v.natAbs < vt.natAbs) && decide (0 ≤ k.v * vt)
  let rate := if grow then amax else dmax
  let v := approach k.v vt ((rate * 65536).tdiv 100000)
  { k with v := v, a := sg (v - k.v) * rate * 65536, p := moved lo hi k.p v, ramp := false }

/-- One update of GEAR mode towards the command `c` (R344). -/
def gearStep (amax vmax c lo hi : Int) (k : AxisState) : AxisState :=
  let v := approach k.v (clampInt (-(vmax * 65536)) (vmax * 65536) ((c - k.p) * 100000)) ((amax * 65536).tdiv 100000)
  let p := moved lo hi k.p v
  { k with v := v, a := (v - k.v) * 100000, p := p, ramp := false, lag := satInt 32 ((c - p).tdiv 65536) }

/-- A hard limit is active towards `d` (R347). -/
def limitOn (s : State) (a : Nat) (d : Int) : Bool :=
  bit (axReg s a 0) 27 && ((decide (0 < d) && (axis s a).limHi) || (decide (d < 0) && (axis s a).limLo))

/-- The profile step in the axis's mode (R340, R341, R344, R346, R347). -/
def profileStep (a : Nat) (lo hi : Int) (s : State) : State :=
  let k := axis s a
  let vmax : Int := (bits (axK s a 0x10) 19 0 : Nat)
  let amax : Int := (bits (axK s a 0x14) 23 0 : Nat)
  let dmax := axDmax s a
  let jmax : Int := (axK s a 0x20).toNat
  match k.mode with
  | 0 =>
    let t := axTarget s a * 65536
    let r := sg (t - k.p)
    let out := decide (hi < t) || decide (t < lo)
    if k.vHold ≠ 0 ∧ k.vHold = r ∧ out then s
    else if k.v = 0 ∧ limitOn s a r = true then s
    else mAxs a (fun k => posStep amax dmax vmax jmax t lo hi { k with vHold := 0 }) s
  | 1 =>
    let t := clampInt (-vmax) vmax (axL s a 0x28).toInt * 65536
    let vt := if k.vHold ≠ 0 ∨ limitOn s a (sg t) = true then 0 else t
    mAxs a (velStep amax dmax vt lo hi) s
  | _ =>
    let c := gearCmd s a
    let s := mAxs a (gearStep amax vmax c lo hi) s
    if bits (axL s a 0x48) 23 0 < ((axis s a).lag).natAbs then raiseLim .fault Err.axGearLag a (ms 1) [] (axStat a 2 s) else s

/-- One profile update (R339, R350). -/
def profileUpdate (a : Nat) (s : State) : State :=
  let s := limitCheck a (stallTake a (axRwl a s))
  let s := gearDue a (axKnot a s)
  let (lo, hi) := verges s a
  let k := axis s a
  let s := match k.limStop with
    | some (g, d) => limitStep a g d s
    | none =>
      if k.hardStop ≠ 0 then hardStep a lo hi s
      else if k.fstop then faultStep a lo hi s
      else profileStep a lo hi s
  let s := mAxs a (fun k =>
    { k with
      goal := k.p.tdiv 65536
      dheld := if k.v = 0 then none else k.dheld
      standstill := k.standstill && decide (k.v = 0) && k.posValid && decide (k.mode ≠ 2)
      holdCur := k.holdCur && decide (k.v = 0) }) s
  shuffleWatch a (axFollow a s)

/-- Eight consecutive short ON phases (R349). -/
def overcurrentTake (a : Nat) (s : State) : State :=
  let s := bridgeTo a true 0 (bridgeTo a false 0 s)
  let s := mPhase a true (fun p => { p with shorts := 0 }) (mPhase a false (fun p => { p with shorts := 0 }) s)
  let s := setReg (axsAddr a 0) (axReg s a 0 &&& 0x7FFFFFFF) s
  let s := mAxs a (fun k => { k with en := false, posValid := false, standstill := false }) s
  faultErr Err.axOvercurrent [] (axStat a 7 s)

/-- A hard limit input becomes active (R347). -/
def hardLimitTake (a : Nat) (hi : Bool) (s : State) : State :=
  let s := mAxs a (fun k => if hi then { k with limHi := true } else { k with limLo := true }) s
  let k := axis s a
  let toward := if hi then decide (0 < k.v) else decide (k.v < 0)
  if !(bit (axReg s a 0) 27 && toward) then s
  else
    let s := faultErr Err.axHardlim [] (axStat a 5 s)
    let gear := decide (k.mode = 2)
    let s := mAxs a (fun k => { k with hardStop := if gear then 2 else 1, limStop := none }) s
    doIf gear (fun s => faultErr Err.axGearStop [] (toPosition a s)) s

/-- An axis is idle (R352). -/
def axIdle (s : State) (a : Nat) : Bool :=
  let k := axis s a
  decide (k.v = 0) && decide (k.mode ≠ 2) && k.limStop.isNone

/-- A write to AXS_AXn_CTL whose bits have been stored: LIMPOL, with the levels at the limit inputs as they are (R347), and EN (R333, R349,
R450). -/
def opAxsCtl (a : Nat) (old new : Word) (s : State) : State :=
  let s := if bit old 28 = bit new 28 then s else mAxs a (fun k => { k with limLo := !k.limLo, limHi := !k.limHi }) s
  if bit old 31 = bit new 31 then s
  else if bit new 31 then
    axFollow a (cmpAbandon (2 * a + 1) (cmpAbandon (2 * a) (mAxs a (fun k => { k with en := true, holdCur := false }) s)))
  else axFollow a (mAxs a (fun k => { k with en := false }) s)

/-- A TARGET that is refused (R340, R347, R353). -/
def targetBad (s : State) (a : Nat) (v : Word) : Bool :=
  decide (s.sys.st = .faulted)
    || (bit (axReg s a 0) 26 && (decide (v.toInt < (axK s a 0x30).toInt) || decide ((axK s a 0x34).toInt < v.toInt)))
    || limitOn s a (sg (v.toInt * 65536 - (axis s a).p))

/-- A write of TARGET that is accepted (R341). -/
def opAxsTarget (a : Nat) (s : State) : State := mAxs a (fun k => { k with ramp := false }) s

/-- A write of VTARGET that is accepted: one that points away from the verge ends the hold there (R346). -/
def opAxsVtarget (a : Nat) (v : Word) (s : State) : State :=
  mAxs a (fun k => { k with vHold := if k.vHold * v.toInt < 0 then 0 else k.vHold }) s

/-- A write of SETPOS that is accepted (R351). -/
def opAxsSetpos (a : Nat) (v : Word) (s : State) : State :=
  let s := axSet a 0x24 v s
  mAxs a (fun k => { k with
    p := v.toInt * 65536, a := 0, ramp := false, posValid := true, pos := v.toInt, goal := v.toInt, iofs := (k.pos + k.iofs - v.toInt) % 1024 }) s

/-- A write of AXS_AXn_GATHI (R345). -/
def opAxsGat (a : Nat) (v : Word) (s : State) : State :=
  let g := sgn 48 ((axReg s a 0x40).toNat + 2 ^ 32 * bits v 15 0)
  let s := mAxs a (fun k => { k with gat := g, gatArmed := true, sigma := sg (rcDiff (enc s k.src).rc g) }) s
  if (axis s a).sigma = 0 then gearSwitch a s else s

/-- The table index moves on under AUTOINC (R335). -/
def axTblStep (s : State) : State :=
  let r := regVal s (base 22)
  if bit r 31 then setReg (base 22) (r &&& 0xFFFFFC00 ||| w32 ((bits r 9 0 + 1) % 1024)) s else s

/-- The shadow entry that the index selects. -/
def axTblWord (s : State) : Word := tblEntry (axis s (bits (regVal s (base 22)) 13 12)).tblShadow (bits (regVal s (base 22)) 9 0)

/-- An entry that holds −512 is refused (R334). -/
def axTblBad (v : Word) : Bool := decide (bits v 25 16 = 512) || decide (bits v 9 0 = 512)

/-- An access to AXS_TBL_DATA, a write being one that is accepted (R335). -/
def opAxsTbl (acc : Access) (s : State) : State :=
  match acc with
  | .read => axTblStep s
  | .write v =>
    let i := bits (regVal s (base 22)) 9 0
    axTblStep (mAxs (bits (regVal s (base 22)) 13 12) (fun k => { k with tblShadow := spSet (sineWord i) k.tblShadow i (v &&& 0x03FF03FF) }) s)

/-- The generators run (R36, R353). -/
def axesRun (s : State) : Bool := operational s || decide (s.sys.st = .faulted)

/-- AXIS_PROFILE_UPDATE (R339 to R353). -/
def execAxisProfileUpdate (a : Axis) (s : State) : Host.Outcome State Fault Refusal :=
  event (axesRun s) "AXIS_PROFILE_UPDATE" (profileUpdate a) s

/-- MICROSTEP (R339, R348). -/
def execMicrostep (a : Axis) (s : State) : Host.Outcome State Fault Refusal :=
  event (axesRun s && decide ((axis s a).pos ≠ (axis s a).goal)) "MICROSTEP" (microStep a) s

/-- CHOPPER_PHASE (R336 to R338). -/
def execChopperPhase (a : Axis) (phB : Bool) (dur sense mid : Nat) (s : State) : Host.Outcome State Fault Refusal :=
  event (axDrives s a && decide ((phaseOf (axis s a) phB).drive ≠ 0) && chopCan s a phB dur sense) "CHOPPER_PHASE" (chopEnd a phB dur mid) s

/-- OVERCURRENT (R349). -/
def execOvercurrent (a : Axis) (s : State) : Host.Outcome State Fault Refusal :=
  event (decide (8 ≤ (axis s a).phA.shorts) || decide (8 ≤ (axis s a).phB.shorts)) "OVERCURRENT" (overcurrentTake a) s

/-- HARD_LIMIT (R347). -/
def execHardLimit (a : Axis) (hi : Bool) (s : State) : Host.Outcome State Fault Refusal := always (hardLimitTake a hi) s

/-- LIMIT_INPUT_INACTIVE (R347). -/
def execLimitInputInactive (a : Axis) (hi : Bool) (s : State) : Host.Outcome State Fault Refusal :=
  always (mAxs a (fun k => if hi then { k with limHi := false } else { k with limLo := false })) s

/-- AXIS_HOLD_CURRENT (R352). -/
def execAxisHoldCurrent (a : Axis) (s : State) : Host.Outcome State Fault Refusal :=
  event (decide ((axis s a).v = 0) && !(axis s a).holdCur) "AXIS_HOLD_CURRENT" (mAxs a (fun k => { k with holdCur := true })) s

/-- AXIS_STANDSTILL (R352). -/
def execAxisStandstill (a : Axis) (s : State) : Host.Outcome State Fault Refusal :=
  event (decide ((axis s a).v = 0) && (axis s a).posValid && decide ((axis s a).mode ≠ 2) && !(axis s a).standstill) "AXIS_STANDSTILL"
    (mAxs a (fun k => { k with standstill := true })) s

end Sys2Proof.Machine
end

