-- ==== Sys2Proof/Machine/Firing.lean ====
section
/-! DEFINITION. Strikes (07_firing, R194 to R196, R205, R208, R499), the lock of the FIRE timebase (R195), the geometry check
(R60) and the residual window (R57), with the registers that go with them. -/

namespace Sys2Proof.Machine

/-- The port's next trigger to strike. -/
def strikeNext (s : State) (p : Nat) : Option (Trig × Nat × Nat) :=
  firstSome (fun (t : Trig) => if t.struck then none else t.frozen.map (fun z => (t, z))) (firPort s p).trigs

/-- The earlier of two line counts (R3). -/
def lcMin (a b : Nat) : Nat := if lcDiff a b ≤ 0 then a else b

/-- The latest line count struck on every port with an enabled segment (R427). -/
def dlcUpdate (s : State) : State :=
  let ps := (geoPorts s.fir.geo).map (firPort s)
  match ps with
  | [] => s
  | f :: r => if ps.all (fun f => decide (f.lastTf ≠ 0)) then
      mPar (fun q => { q with dlc := some ((r.map (·.lastLc)).foldl lcMin f.lastLc) }) s
    else s

/-- A line whose frame has not left stage 8 at its strike while the device is halted or Faulted is struck as a NULL line
(R206, R499). -/
def strikeNull (p : Nat) (t : Trig) (s : State) : State :=
  if t.sent || decide (t.mark = .null) || !(s.dbg.halted || decide (s.sys.st = .faulted)) then s
  else
    let f0 := mkFrame s p t true
    let f := match t.frame with | some g => { f0 with ssn := g.ssn } | none => f0
    let s := if t.frame.isNone && decide ((headPort s p).st = .active) then takeSsn p s else s
    let s := doIf (decide ((headPort s p).st = .active)) (gulOut p (lineBytesOf f)) s
    let s := if s.sys.st = .faulted then s
      else faultErr Err.heldSkip [p, t.lc % 2 ^ 32, t.lc / 2 ^ 32, t.layer] s
    mTrig p t.k (fun t => { t with mark := .null, built := true, frame := some f, sent := true }) s

/-- The strike number of a trigger: that of its frame, or the one its frame will take. -/
def strikeSsn (s : State) (p : Nat) (t : Trig) : Nat :=
  match t.frame with
  | some f => f.ssn
  | none =>
    let before := (firPort s p).trigs.filter (fun u => decide (u.k < t.k) && !u.built && decide (u.mark ≠ .skip))
    ((headPort s p).nextSsn + before.length) % 65536

/-- The strike of a trigger of port `p` frozen at `tf` with lag `lag` (R194, R196, R205, R208). A trigger whose frame was abandoned, or
for which none was built while the port was down, takes no strike number and leaves its pair inactive; one that passes so before its
frame is built gets none any more (R256, R261). -/
def strikeTrig (p k tf lag : Nat) (s : State) : State :=
  match trigAt s p k with
  | none => s
  | some t =>
    let act := decide ((headPort s p).st = .active) && (t.frame.isSome || !t.built)
    let s := doIf act (headStruck p (strikeSsn s p t) t.lc) s
    let s := emit (.strike p (tf / 16) (tf % 16) (bits t.stb 9 0) (bit t.stb 30) act) s
    let s := if t.mark = .null then mFir (fun f => { f with cntNull := f.cntNull + 1 }) s else s
    let g := min lag 0xFFFF
    mTrig p k (fun t => { t with struck := true, built := t.built || !act, sent := t.sent || !act })
      (mPort p (fun f => { f with lastLc := t.lc, lastTf := tf, lagNow := g, lagging := t.lagging, lagMax := max f.lagMax g }) s)

/-- The overspeed policy at the strike of trigger `k` (R210); a NULL line starts none. -/
def lagJudge (p k lag : Nat) (s : State) : State :=
  match trigAt s p k with
  | some t => if t.mark = .line ∧ 64 < lag then lagPolicy p t s else s
  | none => s

/-- STRIKE of port `p` (R196, R210, R262, R431, R445). -/
def strike (p : Nat) (cmpPs : Int) (s : State) : State :=
  match strikeNext s p with
  | none => s
  | some (t, tf, lag) =>
    let s := mPar (fun q => { q with spliceWait := q.spliceWait.filter (· != p) }) s
    let s := lagJudge p t.k lag (strikeTrig p t.k tf lag (strikeNull p t s))
    ctlLeft (finishLayers (pruneTrigs p (fegStrike p cmpPs (dlcUpdate s))))

/-- A write to FIR_CNT_CLR (R211). -/
def opFirCntClr (v : Word) (s : State) : State :=
  if bit v 0 then
    let upd (p : FirPort) : FirPort := { p with lagMax := 0 }
    mFir (fun f => { f with cntSkip := 0, cntNull := 0, cntLate := 0, cntLLate := 0, ports := f.ports.map upd }) s
  else s

/-- A read of FIR_PORTn_LCLO captures the snapshot (R212). -/
def opFirSnap (p : Nat) (s : State) : State := mPort p (fun f => { f with snapLc := f.lastLc, snapTf := f.lastTf }) s

/-- The shadow copies of the geometry registers (R60). -/
def geoShadow (s : State) : List (Nat × Word) :=
  s.regs.filter (fun x => decide (base 14 ≤ x.1) && decide (x.1 < base 15) || decide (base 16 ≤ x.1) && decide (x.1 < base 17))

/-- A write to FIR_GEO_CHECK (R60): the check runs on the shadow copies as they stand. -/
def opGeoCheck (v : Word) (s : State) : State := if bit v 0 then mFir (fun f => { f with chkBusy := some (geoShadow s) }) s else s

/-- The check ends (R60, R61). -/
def geoCheckEnd (s : State) : State :=
  match s.fir.chkBusy with
  | none => s
  | some m =>
    let r := geoCheckVals (fun a => spGet (regReset a) m a)
    mFir (fun f => { f with chkBusy := none, chkReason := r.1, chkSeg := r.2 }) s

/-- Address of STG_RES_INDEX (R57). -/
def resIndexAddr : Nat := base 15 + 0x100

/-- The residual word that the index names (R57). -/
def resWord (s : State) : Word := spGet 0 s.stg.resShadow (bits (regVal s resIndexAddr) 14 0)

/-- An access to STG_RES_DATA moves the index on under AUTOINC (R57). -/
def resStep (s : State) : State :=
  let r := regVal s resIndexAddr
  if bit r 31 then setReg resIndexAddr (w32 (2 ^ 31 + (bits r 14 0 + 1) % 32768)) s else s

/-- An access to STG_RES_DATA (R57). -/
def opResData (acc : Access) (s : State) : State :=
  match acc with
  | .read => resStep s
  | .write v =>
    let i := bits (regVal s resIndexAddr) 14 0
    resStep (mStg (fun t => { t with resShadow := spSet 0 t.resShadow i v }) s)

/-- STRIKE (R196). -/
def execStrike (p : Port) (cmpPs : Int) (s : State) : Host.Outcome State Fault Refusal :=
  event (strikeNext s p).isSome "STRIKE" (strike p cmpPs) s

/-- FIRE_LOCK (R195). -/
def execFireLock (s : State) : Host.Outcome State Fault Refusal :=
  event (decide (s.sys.st = .verifying) && !s.fir.lock) "FIRE_LOCK" (mFir (fun f => { f with lock := true })) s

/-- FIRE_UNLOCK (R195). -/
def execFireUnlock (s : State) : Host.Outcome State Fault Refusal :=
  event s.fir.lock "FIRE_UNLOCK" (fun s =>
    doIf (operational s || decide (s.sys.st = .faulted)) (raise .fatal Err.fireUnlock []) (mFir (fun f => { f with lock := false }) s)) s

/-- GEO_CHECK_DONE (R60). -/
def execGeoCheckDone (s : State) : Host.Outcome State Fault Refusal := event s.fir.chkBusy.isSome "GEO_CHECK_DONE" geoCheckEnd s

end Sys2Proof.Machine
end

