-- ==== Sys2Proof/Machine/Inspection.lean ====
section
/-! DEFINITION. In-line inspection (10_inspection): camera packets and frames (R277 to R282), stripes and their buffer
(R283 to R285), the pipeline and its statistics (R286 to R288), records (R291, R292), streaks (R293 to R296). -/

namespace Sys2Proof.Machine

/-- Inspection runs (R36). -/
def camRuns (s : State) : Bool := operational s

/-- The registers that govern a frame from its FS: ISP words 0 to 14, then INS words 0 to 2 (R289, R298). -/
def ctxRegs (s : State) (c : Nat) : List Word :=
  (List.range 15).map (fun i => actVal s (base 20 + 0x1000 + 0x40 * c + 4 * i))
    ++ (List.range 3).map (fun i => actVal s (base 21 + 0x1000 + 0x40 * c + 4 * i))

/-- Register word `i` of a frame. -/
def frReg (f : CamFrame) (i : Nat) : Word := nth f.regs i 0

/-- ISP_CTXn_CTL.EN of the active copy. -/
def ctxEn (s : State) (c : Nat) : Bool := bit (actVal s (base 20 + 0x1000 + 0x40 * c)) 31

/-- WIDTH of a frame's input lines. -/
def frWidth (f : CamFrame) : Nat := bits (frReg f 1) 13 0

/-- HEIGHT of a frame. -/
def frHeight (f : CamFrame) : Nat := bits (frReg f 1) 31 16

/-- FMT of a frame. -/
def frFmt (f : CamFrame) : Nat := bits (frReg f 0) 27 24

/-- The frame is a Bayer mosaic (R286, R298). -/
def frBayer (f : CamFrame) : Bool := bit (frReg f 0) 23 && decide (frFmt f ≠ 3)

/-- Output columns of a frame (R286). -/
def frCols (f : CamFrame) : Nat := if frBayer f then frWidth f / 2 else frWidth f

/-- Output lines of a frame as configured. -/
def frRows (f : CamFrame) : Nat := if frBayer f then frHeight f / 2 else frHeight f

/-- First and last column of the region, clipped to the frame (R286; log 26). -/
def frX (f : CamFrame) : Nat × Nat := (bits (frReg f 2) 29 16, min (bits (frReg f 2) 13 0) (frCols f - 1))

/-- First and last output line of the region, clipped to the frame. -/
def frY (f : CamFrame) : Nat × Nat := (bits (frReg f 3) 31 16, min (bits (frReg f 3) 15 0) (frRows f - 1))

/-- Bytes of `n` pixels of a format (R279). -/
def pixBytes (fmt n : Nat) : Nat :=
  match fmt with
  | 0 => n | 1 => n * 5 / 4 | 2 => n * 3 / 2 | _ => 3 * n

/-- PROFILE of a frame (R288). -/
def frProfile (f : CamFrame) : Bool := decide (bits (frReg f 0) 30 29 = 0) && !f.incomplete

/-- FLAGS of a frame's record (R292). -/
def frFlags (f : CamFrame) : Nat :=
  b2n f.short 0 + b2n f.long 1 + b2n f.incomplete 2 + b2n f.tag.isNone 3 + b2n f.badLine 4 + b2n (frProfile f) 5 + b2n f.mapInv 6

/-- The open frame of a context. -/
def openFrame (s : State) (c : Nat) : Option CamFrame := (camCtx s c).frames.find? (·.isOpen)

/-- Update the frame of a context with key `n`. -/
def mFrame (c n : Nat) (u : CamFrame → CamFrame) (s : State) : State :=
  mCtx c (fun k => { k with frames := modFirst (fun f => f.key == n) u k.frames }) s

/-- A Notice of this chapter, at most once per context per 1 ms (R297). -/
def camNotice (code c : Nat) (s : State) : State := raiseLim .notice code c (ms 1) [] s

/-- The open frame closes (R280). -/
def frameClose (c : Nat) (s : State) : State :=
  match openFrame s c with
  | none => s
  | some f =>
    let short := decide (f.pos < frHeight f)
    let f' := { f with isOpen := false, short := short }
    let s := mCtx c (fun k => { k with last := frFlags f' }) (mFrame c f.key (fun _ => f') s)
    doIf short (camNotice Err.frameShort c) s

/-- The trigger event of milestone `i` at event road count `ev` enters the queues that name it; the tag is taken now (R281,
R282). -/
def camTrigger (i : Nat) (ev : Int) (onPrint : Bool) (s : State) : State :=
  each (fun c s =>
    let r := actVal s (base 20 + 0x1034 + 0x40 * c)
    if !(bit r 31 && bits r 28 24 == i) then s
    else if 4 ≤ (camCtx s c).trigs.length then camNotice Err.camTrigovr c s
    else
      let g := s.fir.geo
      let tag := if onPrint && s.fir.grid.isSome then some (Int.fdiv (geoDir g * ev * 65536) g.cpl % 2 ^ 40).toNat else none
      mCtx c (fun k => { k with trigs := k.trigs ++ [tag] }) s) (List.range 8) s

/-- Table set `t` of context `c` in the VIEW bank. -/
def tblBase (c t : Nat) : Nat := 0xA000 * c + 0x5000 * t

/-- TSET of a frame. -/
def frTset (f : CamFrame) : Nat := bits (frReg f 0) 28 28

/-- The knots of a camera map (R294). -/
def camMap (s : State) (c t : Nat) : List Int :=
  (List.range 17).map (fun i => sgn 32 (bankWord s 4 (tblBase c t + 0x4800 + 4 * i) 4))

/-- A map is valid (R294). -/
def mapValid (m : List Int) : Bool :=
  let pairs := m.zip (m.drop 1)
  (pairs.all (fun x => decide (x.1 < x.2)) || pairs.all (fun x => decide (x.2 < x.1)))
    && m.all (fun x => decide (0 ≤ x) && decide (x ≤ 1048575 * 256))

/-- An FS opens a frame (R280 to R282, R289, R294). -/
def frameOpen (c : Nat) (csifn : Nat) (s : State) : State :=
  let s := frameClose c s
  let rs := ctxRegs s c
  let k := camCtx s c
  let s := if k.trigs.isEmpty then camNotice Err.camNotrig c s else s
  let tag := match k.trigs with | t :: _ => t | [] => none
  let tset := bits (nth rs 0 0) 28 28
  let inv := !mapValid (camMap s c tset)
  let s := if inv && k.mapLogged ≠ some tset then camNotice Err.ispMapinv c s else s
  let f : CamFrame :=
    { key := k.opened, fnum := k.fnum, csifn := csifn, isOpen := true, regs := rs, epoch := s.sys.epoch, shuf := s.nzl.shufActive, tag := tag,
      mapInv := inv, badLine := false, short := false, long := false, incomplete := false, pos := 0, used := [], pixels := 0,
      lost := 0, hist := [], zones := [], zoneCnt := [], prof := [], profCnt := [], half := [], streakDone := false, reports := 0 }
  mCtx c (fun k => { k with
    frames := k.frames ++ [f], fnum := (k.fnum + 1) % 2 ^ 32, trigs := k.trigs.drop 1, opened := k.opened + 1
    mapLogged := if inv then some tset else if k.mapLogged = some tset then some tset else none }) s

/-- Bytes held in a port's buffer. -/
def bufUse (p : CamPort) : Nat := sumN (p.buf.map (fun x => x.data.length))

/-- The port is enabled. -/
def camPortEn (s : State) (p : Nat) : Bool := bit (regVal s (base 19 + 0x100 + 0x40 * p)) 31

/-- Context `c` no longer waits: its age returns to 0 (R325). -/
def ctxRest (c : Nat) (s : State) : State :=
  if s.insp.ports.toList.any (fun p => p.buf.any (fun x => x.ctx == c)) then s
  else mArb 11 (fun a => { a with reqs := vmod a.reqs c (fun r => { r with age := 0, urgent := false }) }) s

/-- A stripe of a frame is lost (R285). -/
def stripeLost (p c key : Nat) (s : State) : State :=
  let s := mCam p (fun k => { k with lost := k.lost + 1 }) s
  let s := match (camCtx s c).frames.find? (fun f => f.key == key) with
    | some f => if f.incomplete then s else raiseLim .fault Err.camOverflow c (ms 1) [c, f.fnum] s
    | none => s
  mFrame c key (fun f => { f with incomplete := true, lost := f.lost + 1 }) s

/-- The victim context of a port (R285). -/
def camVictim (s : State) (p : Nat) : Nat :=
  let b := fun c => bits (actVal s (base 20 + 0x1038 + 0x40 * c)) 3 0
  if b (2 * p) < b (2 * p + 1) then 2 * p else 2 * p + 1

/-- The latest stripe of context `c` in a buffer that may be discarded; the oldest of a context that holds the grant may
not (R284, R285). -/
def victimStripe (s : State) (p c : Nat) : Option CamStripe :=
  let own := ((camPort s p).buf.filter (fun x => x.ctx == c))
  let own := if (arb s 11).holder = some c then own.drop 1 else own
  own.getLast?

/-- Discard the victim's stripes until `n` bytes fit (R285). -/
def makeRoom (p v n : Nat) : Nat → State → State
  | 0, s => s
  | k + 1, s =>
    if bufUse (camPort s p) + n ≤ 65536 then s
    else match victimStripe s p v with
      | none => s
      | some x =>
        let s := mCam p (fun q => { q with buf := q.buf.erase x }) s
        makeRoom p v n k (ctxRest v (stripeLost p v x.key s))

/-- A stripe begins to arrive (R283, R285). -/
def stripeAdmit (x : CamStripe) (s : State) : State :=
  let p := x.ctx / 2
  let n := x.data.length
  let put := mCam p (fun q =>
    let q := { q with buf := q.buf ++ [x] }
    { q with bufMax := max q.bufMax (cdiv (bufUse q) 64) })
  if bufUse (camPort s p) + n ≤ 65536 then put s
  else if camVictim s p = x.ctx then stripeLost p x.ctx x.key s
  else
    let s := makeRoom p (camVictim s p) n (camPort s p).buf.length s
    if bufUse (camPort s p) + n ≤ 65536 then put s else stripeLost p x.ctx x.key s

/-- The stripes of a line (R283). -/
def lineStripes (c : Nat) (f : CamFrame) (line : Nat) (d : Bytes) : List CamStripe :=
  (List.range (cdiv (frWidth f) 256)).map (fun i =>
    let n := min 256 (frWidth f - 256 * i)
    { ctx := c, key := f.key, line := line, x0 := 256 * i, npix := n,
      data := (d.drop (pixBytes (frFmt f) (256 * i))).take (pixBytes (frFmt f) n) })

/-- One bit of the CRC-16 of CSI-2, reflected polynomial 0x8408 (log 135). -/
def crc16Bit (c : BitVec 16) : BitVec 16 := if c.getLsbD 0 then (c >>> 1) ^^^ 0x8408 else c >>> 1

/-- The CRC-16 register after some bytes. -/
def crc16Run (c : BitVec 16) : Bytes → BitVec 16
  | [] => c
  | b :: r => crc16Run (iterate (fun x => some (crc16Bit x)) 8 (c ^^^ b.setWidth 16)) r

/-- The payload checksum of a long packet (R277). -/
def crc16 (d : Bytes) : BitVec 16 := crc16Run 0xFFFF d

/-- The data type of a FMT (R277, R298). -/
def fmtType (fmt : Nat) : Nat := match fmt with | 0 => 0x2A | 1 => 0x2B | 2 => 0x2C | _ => 0x24

/-- The data types of line data (R277). -/
def lineType (dt : Nat) : Bool := dt == 0x2A || dt == 0x2B || dt == 0x2C || dt == 0x24

/-- A packet of the port's two contexts that they may take: virtual channel 0 or 1 with VCX 0, frame start, frame end or line data (R277). -/
def camTaken (vc : BitVec 4) (dt : BitVec 6) : Bool := decide (vc.toNat ≤ 1) && (decide (dt.toNat ≤ 1) || lineType dt.toNat)

/-- A packet is ignored and counted (R277). -/
def camIgnore (p : Nat) (s : State) : State := mCam p (fun q => { q with ign := q.ign + 1 }) s

/-- A long packet of a context (R278 to R280): one of another data type than the context's FMT is ignored. -/
def camLine (c : Nat) (dt : Nat) (d : Bytes) (crcOk : Bool) (s : State) : State :=
  let p := c / 2
  match openFrame s c with
  | none => if dt = fmtType (bits (actVal s (base 20 + 0x1000 + 0x40 * c)) 27 24) then s else camIgnore p s
  | some f =>
    if dt ≠ fmtType (frFmt f) then camIgnore p s
    else
    let badLen := decide (d.length ≠ pixBytes (frFmt f) (frWidth f))
    let s := doIf (!crcOk) (mCam p (fun q => { q with crcErr := satAdd 16 q.crcErr 1 })) s
    let s := doIf badLen (mCam p (fun q => { q with lenErr := satAdd 16 q.lenErr 1 })) s
    if frHeight f ≤ f.pos then
      (if f.long then s else camNotice Err.frameLong c (mFrame c f.key (fun f => { f with long := true }) s))
    else
      let s := mFrame c f.key (fun f => { f with pos := f.pos + 1 }) s
      if !crcOk || badLen then camNotice Err.camLine c (mFrame c f.key (fun f => { f with badLine := true }) s)
      else each stripeAdmit (lineStripes c f f.pos d) s

/-- Raw samples of a stripe, one to three channels a pixel, as 12-bit values (R286 step 1; the packing of CSI-2, log 27). -/
def unpack (fmt n : Nat) (d : Bytes) : List (Nat × Nat × Nat) :=
  (List.range n).map (fun i =>
    let one := fun v : Nat => (v, v, v)
    match fmt with
    | 0 => one (byteAt d i * 16)
    | 1 =>
      let g := 5 * (i / 4)
      one ((byteAt d (g + i % 4) * 4 + byteAt d (g + 4) / 4 ^ (i % 4) % 4) * 4)
    | 2 =>
      let g := 3 * (i / 2)
      one (byteAt d (g + i % 2) * 16 + byteAt d (g + 2) / 16 ^ (i % 2) % 16)
    | _ => (byteAt d (3 * i + 2) * 16, byteAt d (3 * i + 1) * 16, byteAt d (3 * i) * 16))

/-- One pixel of a 2 × 2 cell, in reading order, for a Bayer pattern (R286 step 1). -/
def bayerCell (pat a b c d : Nat) : Nat × Nat × Nat :=
  match pat with
  | 0 => (a, (b + c) / 2, d)
  | 1 => (b, (a + d) / 2, c)
  | 2 => (c, (a + d) / 2, b)
  | _ => (d, (b + c) / 2, a)

/-- The pixels of two lines of a mosaic. -/
def bayerPix (pat : Nat) (top bot : List Nat) : List (Nat × Nat × Nat) :=
  (List.range (min top.length bot.length / 2)).map (fun i =>
    bayerCell pat (nth top (2 * i) 0) (nth top (2 * i + 1) 0) (nth bot (2 * i) 0) (nth bot (2 * i + 1) 0))

/-- Whether the density of `x` is at least `n` in 1/1 024: 4095^2048 ≥ 10^(2n−1) × x^2048 (R286 step 7). -/
def densAtLeast (x n : Nat) : Bool := n == 0 || decide (10 ^ (2 * n - 1) * x ^ 2048 ≤ 4095 ^ 2048)

/-- The largest density not below `lo` that `densAtLeast` allows, by halving `k` times. -/
def densFind (x : Nat) : Nat → Nat → Nat
  | 0, lo => lo
  | k + 1, lo => if densAtLeast x (lo + 2 ^ k) then densFind x k (lo + 2 ^ k) else densFind x k lo

/-- D of a value (R286 step 7). -/
def density (v : Nat) : Nat := min 4095 (densFind (max v 1) 12 0)

/-- A signed 16-bit matrix coefficient. -/
def frCoef (f : CamFrame) (i : Nat) : Int := sbits (frReg f (6 + i / 2)) (16 * (i % 2) + 15) (16 * (i % 2))

/-- The tone curve at `c` (R286 step 6). -/
def toneAt (s : State) (tb c : Nat) : Nat :=
  let t := fun i => bankWord s 4 (tb + 0x4000 + 2 * i) 2 % 4096
  let i := c / 4
  (t i * (4 - c % 4) + t (min (i + 1) 1023) * (c % 4) + 2) / 4

/-- Steps 2 to 7 for one pixel at output column `x` (R286). -/
def pixDensity (s : State) (c : Nat) (f : CamFrame) (x : Nat) (v : Nat × Nat × Nat) : Nat :=
  let tb := tblBase c (frTset f)
  let flat := bankWord s 4 (tb + 2 * x) 2
  let blk := [bits (frReg f 4) 27 16, bits (frReg f 4) 11 0, bits (frReg f 5) 11 0]
  let wb := [bits (frReg f 11) 31 16, bits (frReg f 11) 15 0, bits (frReg f 12) 15 0]
  let c3 := ([v.1, v.2.1, v.2.2].zip blk).map (fun y => min (((y.1 - y.2) * flat + 8192) / 16384) 4095)
  let c4 := (List.range 3).map (fun i =>
    let acc : Int := frCoef f (3 * i) * nth c3 0 0 + frCoef f (3 * i + 1) * nth c3 1 0 + frCoef f (3 * i + 2) * nth c3 2 0
    (clampInt 0 4095 ((acc + 2048) / 4096)).toNat)
  let c6 := (c4.zip wb).map (fun y => toneAt s tb (min ((y.1 * y.2 + 2048) / 4096) 4095))
  let r := nth c6 0 0
  let g := nth c6 1 0
  let b := nth c6 2 0
  density (match bits (frReg f 0) 20 19 with | 0 => r | 1 => g | 2 => b | _ => (r + 2 * g + b) / 4)

/-- Add `v` at key `k` of a sparse map of numbers. -/
def spAdd (m : List (Nat × Nat)) (k v : Nat) : List (Nat × Nat) := spSet 0 m k (spGet 0 m k + v)

/-- One density of output column `x`, line `y` enters the statistics (R287). -/
def statPix (x y d : Nat) (f : CamFrame) : CamFrame :=
  let (x0, x1) := frX f
  let (y0, y1) := frY f
  if y < y0 ∨ y1 < y then f
  else
    let f := { f with prof := spAdd f.prof x d, profCnt := spAdd f.profCnt x 1 }
    if x < x0 ∨ x1 < x then f
    else
      let z := (y - y0) * 8 / (bits (frReg f 3) 15 0 - y0 + 1) * 16 + (x - x0) * 16 / (bits (frReg f 2) 13 0 - x0 + 1)
      { f with
        hist := spSet 0 f.hist (d / 16) (satAdd 32 (spGet 0 f.hist (d / 16)) 1)
        zones := spAdd f.zones z d, zoneCnt := spAdd f.zoneCnt z 1, pixels := f.pixels + 1 }

/-- The pixels of a stripe, at output column `x0` of output line `y`, enter their frame's statistics. -/
def statRow (c : Nat) (f : CamFrame) (x0 y : Nat) (px : List (Nat × Nat × Nat)) (s : State) : State :=
  let ds := px.zipIdx.map (fun v => (x0 + v.2, pixDensity s c f (x0 + v.2) v.1))
  mFrame c f.key (fun f => each (fun v f => statPix v.1 y v.2 f) ds
    { f with used := if f.used.contains y then f.used else y :: f.used }) s

/-- The pipeline processes a stripe (R286, R287). -/
def stripeRun (x : CamStripe) (s : State) : State :=
  match (camCtx s x.ctx).frames.find? (fun f => f.key == x.key) with
  | none => s
  | some f =>
    let px := unpack (frFmt f) x.npix x.data
    if !frBayer f then statRow x.ctx f x.x0 x.line px s
    else
      let raw := px.map (·.1)
      if x.line % 2 = 0 then mFrame x.ctx f.key (fun f => { f with half := (x.line * 16384 + x.x0, raw) :: f.half }) s
      else
        let key := (x.line - 1) * 16384 + x.x0
        match f.half.find? (fun h => h.1 == key) with
        | none => s
        | some h =>
          let s := mFrame x.ctx f.key (fun f => { f with half := f.half.filter (fun h => h.1 != key) }) s
          statRow x.ctx f (x.x0 / 2) (x.line / 2) (bayerPix (bits (frReg f 0) 22 21) h.2 raw) s

/-- The granted stripe (R284). -/
def stripeNext (s : State) : Option CamStripe :=
  match (arb s 11).holder with
  | none => none
  | some c => (camPort s (c / 2)).buf.find? (fun x => x.ctx == c)

/-- STRIPE_PROCESS: the stripe leaves the buffer; the grant goes on for up to BURST stripes (R284, R326). -/
def stripeTake (x : CamStripe) (s : State) : State :=
  let s := mCam (x.ctx / 2) (fun q => { q with buf := q.buf.erase x }) (stripeRun x s)
  let more := (camPort s (x.ctx / 2)).buf.any (fun y => y.ctx == x.ctx)
  ctxRest x.ctx (mArb 11 (fun a => { a with left := a.left - 1, holder := if a.left ≤ 1 ∨ more = false then none else a.holder }) s)

/-- A mean in 16 bits, 0xFFFF of none. -/
def mean16 (sum cnt : Nat) : Nat := if cnt = 0 then 0xFFFF else sum / cnt

/-- The column profile at `x` (R287). -/
def profAt (f : CamFrame) (x : Nat) : Nat := mean16 (spGet 0 f.prof x) (spGet 0 f.profCnt x)

/-- The oldest frame of a context that is closed and whose stripes are all processed. -/
def frameReady (s : State) (c : Nat) : Option CamFrame :=
  match (camCtx s c).frames with
  | f :: _ =>
    if !f.isOpen && !(camPort s (c / 2)).buf.any (fun x => x.ctx == c && x.key == f.key) then some f else none
  | [] => none

/-- The streak detector runs on the frame (R293). -/
def streakRuns (f : CamFrame) : Bool := frProfile f && !f.short && f.tag.isSome && !f.mapInv && !f.badLine

/-- The bytes of a record from offset 64 (R292). -/
def recordData (f : CamFrame) : Bytes :=
  (List.range 256).flatMap (fun i => leBytes 4 (spGet 0 f.hist i))
    ++ (List.range 128).flatMap (fun i => leBytes 2 (mean16 (spGet 0 f.zones i) (spGet 0 f.zoneCnt i)))
    ++ (if frProfile f then (List.range (frCols f)).flatMap (fun x => leBytes 2 (profAt f x)) else [])

/-- The header of a record (R292). -/
def recordHeader (c : Nat) (f : CamFrame) (d : Bytes) : Bytes :=
  let h := leBytes 2 0x5349 ++ leBytes 1 1 ++ leBytes 1 c ++ leBytes 4 f.fnum ++ leBytes 2 f.csifn ++ leBytes 2 (frFlags f)
    ++ leBytes 2 (frCols f) ++ leBytes 2 f.used.length ++ leBytes 8 (match f.tag with | some t => t | none => 2 ^ 40 - 1)
    ++ leBytes 4 f.epoch.toNat ++ leBytes 4 f.pixels ++ leBytes 4 f.lost ++ leBytes 2 (f.shuf % 65536).toNat
    ++ leBytes 2 f.reports ++ leBytes 4 (64 + d.length) ++ leBytes 12 0 ++ leBytes 4 (crc32c d).toNat
  h ++ leBytes 4 (crc32c h).toNat

/-- The frame's record is written into the next slot, or dropped when all are held (R291). -/
def recordPut (c : Nat) (f : CamFrame) (s : State) : State :=
  let k := camCtx s c
  let s := mCtx c (fun k =>
    let rest := k.frames.drop 1
    { k with frames := rest, last := if rest.any (fun g => !g.isOpen) then k.last else frFlags f }) s
  if 8 ≤ k.held then camNotice Err.recDrop c (mCtx c (fun k => { k with dropped := satAdd 16 k.dropped 1 }) s)
  else
    let d := recordData f
    let s := bankPut 4 (0x50000 + 0x28000 * c + 0x5000 * k.next) (recordHeader c f d ++ d) s
    mCtx c (fun k => { k with next := (k.next + 1) % 8, held := k.held + 1 }) s

/-- `WIDTH × m(u)` in 1/256 column: the position of pixel edge `u` (R294). -/
def mapEdge (m : List Int) (w u : Nat) : Int :=
  let i := min (16 * u / w) 15
  let a := nth m i 0
  let b := nth m (i + 1) 0
  a * w + (b - a) * ((16 * u : Nat) - (i * w : Nat) : Int)

/-- The medium columns that a reported column names: the first and the last (R295). -/
def mediumCols (m : List Int) (w x : Nat) : Int × Int :=
  let a := mapEdge m w x
  let b := mapEdge m w (x + 1)
  (Int.fdiv (min a b) (256 * w), Int.fdiv (max a b - w) (256 * w))

/-- Nozzles of a plane on a bar column, in enabled segments (R295). -/
def nozzlesAt (s : State) (plane : Nat) (col : Int) : List Nat :=
  s.fir.geo.segs.flatMap (fun x =>
    if x.plane ≠ plane then []
    else ((List.range x.width).filter (fun j => decide (segCol x j = col))).map (nozOf x))

/-- One suspect report, or one beyond SMAX, dropped and counted (R296; log 104). -/
def streakReport (c key smax lc n : Nat) (s : State) : State :=
  match (camCtx s c).frames.find? (fun f => f.key == key) with
  | none => s
  | some f =>
    if smax ≤ f.reports then
      let s := if f.reports = smax then camNotice Err.streakLimit c s else suppress Err.streakLimit s
      mCtx c (fun k => { k with cut := k.cut + 1 }) (mFrame c key (fun f => { f with reports := f.reports + 1 }) s)
    else
      nzSuspect n lc (mCtx c (fun k => { k with reports := k.reports + 1 }) (mFrame c key (fun f => { f with reports := f.reports + 1 }) s))

/-- Column `x` is reported (R295, R296). -/
def streakColumn (c : Nat) (f : CamFrame) (x : Nat) (s : State) : State :=
  let (lo, hi) := mediumCols (camMap s c (frTset f)) (frCols f) x
  if 4 < hi - lo + 1 then camNotice Err.streakWide c s
  else
    let cols := (List.range (hi - lo + 1).toNat).map (fun (i : Nat) => lo + (i : Int) - f.shuf)
    let noz := sortBy (fun a b => decide (a ≤ b)) (cols.flatMap (nozzlesAt s (bits (frReg f 15) 19 16)))
    let lc := lcAdd (match f.tag with | some t => t | none => 0) (bits (frReg f 17) 15 0)
    each (streakReport c f.key (bits (frReg f 16) 7 0) lc) noz s

/-- The reference of column `x`: the W-th smallest of its 2W neighbours (R293). -/
def streakRef (f : CamFrame) (w x : Nat) : Nat :=
  let ns := (List.range w).flatMap (fun i => [profAt f (x - 1 - i), profAt f (x + 1 + i)])
  nth (sortBy (fun a b => decide (a ≤ b)) ns) (w - 1) 0

/-- Address of a streak counter in the VIEW bank. -/
def streakAddr (c x : Nat) : Nat := 0x190000 + 0x2000 * c + x

/-- One column is judged (R293). -/
def streakJudge (c : Nat) (f : CamFrame) (x : Nat) (s : State) : State :=
  let w := bits (frReg f 15) 23 20
  let ref := streakRef f w x
  let p := profAt f x
  let a := streakAddr c x
  if ref < bits (frReg f 16) 27 16 then s
  else if bits (frReg f 15) 11 0 ≤ ref - p then
    let n := (bankByte s 4 a).toNat + 1
    if bits (frReg f 15) 31 24 ≤ n then streakColumn c f x (bankPut 4 a [0] s) else bankPut 4 a (leBytes 1 n) s
  else bankPut 4 a [0] s

/-- The streak detector runs (R293). -/
def streakRun (c : Nat) (f : CamFrame) (s : State) : State :=
  let w := bits (frReg f 15) 23 20
  let (x0, x1) := frX f
  let s := each (fun i s => streakJudge c f (x0 + w + i) s) (List.range (x1 + 1 - w - (x0 + w))) s
  mFrame c f.key (fun g => { g with streakDone := true, reports := min g.reports (bits (frReg f 16) 7 0) }) s

/-- Clear the streak counters of a context (R293). -/
def streakClear (c : Nat) (s : State) : State :=
  mBank 4 (fun b => { b with data := b.data.filter (fun x => !(decide (streakAddr c 0 ≤ x.1) && decide (x.1 < streakAddr (c + 1) 0))) }) s

/-- What a knot does to a context, `old` its registers before and `k` the shuffle offset before (R280, R289, R293). -/
def camKnot (c : Nat) (old : List Word) (k : Int) (s : State) : State :=
  let new := ctxRegs s c
  let rise := !bit (nth old 0 0) 31 && bit (nth new 0 0) 31
  let w := fun (l : List Word) => (nth l 2 0, bits (nth l 15 0) 23 20, bits (nth l 0 0) 28 28)
  let s := doIf rise (mCtx c (fun k => { k with fnum := 0 })) s
  doIf (rise || decide (w old ≠ w new) || decide (k ≠ s.nzl.shufActive)) (streakClear c) s

/-- A write to INS_CTXn_REL (R291, R298). -/
def opInsRel (c : Nat) (v : Word) (s : State) : State :=
  if bit v 0 then mCtx c (fun k => { k with held := k.held - 1 }) s else s

/-- A write to INS_CTXn_CLR (R298). -/
def opInsClr (c : Nat) (v : Word) (s : State) : State :=
  if bit v 0 then mCtx c (fun k => { k with dropped := 0, reports := 0 }) s else s

/-- A write to CAM_PORTn_CLR (R298). -/
def opCamClr (p : Nat) (v : Word) (s : State) : State :=
  if bit v 0 then mCam p (fun q => { q with hdrCorr := 0, hdrUnc := 0, crcErr := 0, lenErr := 0, ign := 0, bufMax := 0, lost := 0 }) s else s

/-- A packet of context `c` arrives at an enabled port; `f` is what a context that takes it does (R278, R289). -/
def camPacket (c : Nat) (f : State → State) (s : State) : State :=
  if !camRuns s || !camPortEn s (c / 2) then s
  else if ctxEn s c || (openFrame s c).isSome then f s
  else camIgnore (c / 2) s

/-- CAM_FRAME_START (R280 to R282, R289, R294). -/
def execCamFrameStart (c : Ctx) (csifn : BitVec 16) (s : State) : Host.Outcome State Fault Refusal :=
  event s.sys.knotDue.isNone "CAM_FRAME_START" (camPacket c (fun s => if ctxEn s c then frameOpen c csifn.toNat s else camIgnore (c.val / 2) s)) s

/-- CAM_FRAME_END (R280). -/
def execCamFrameEnd (c : Ctx) (s : State) : Host.Outcome State Fault Refusal :=
  always (camPacket c (fun s => if (openFrame s c).isSome then frameClose c s else camNotice Err.camSync c s)) s

/-- CAM_LINE_RX (R277 to R280, R283, R285): a long packet of a type of line data. -/
def execCamLineRx (c : Ctx) (pkt : BitVec 6 × Bytes) (crc : BitVec 16) (s : State) : Host.Outcome State Fault Refusal :=
  spelled (lineType pkt.1.toNat) "CAM_LINE_RX" (camPacket c (camLine c pkt.1.toNat pkt.2 (crc16 pkt.2 == crc))) s

/-- The packet is one that no context takes, or no packet. -/
def camIgnorable (why : CamIgnored) : Bool := match why with | .packet vc dt => !camTaken vc dt | _ => true

/-- What a port receives beside the packets of its contexts (R277, R298). -/
def camOther (p : Nat) (why : CamIgnored) (s : State) : State :=
  match why with
  | .packet _ _ => camIgnore p s
  | .badHeader => raiseLim .notice Err.camEcc p (ms 1) [] (mCam p (fun q => { q with hdrUnc := satAdd 16 q.hdrUnc 1 }) s)
  | .correctedHeader => mCam p (fun q => { q with hdrCorr := satAdd 16 q.hdrCorr 1 }) s
  | .escape => s
  | .lanes hs ulps => mCam p (fun q => { q with hs := hs, ulps := ulps }) s

/-- CAM_PACKET_IGNORED (R277, R298). -/
def execCamPacketIgnored (port : Fin 4) (why : CamIgnored) (s : State) : Host.Outcome State Fault Refusal :=
  spelled (camIgnorable why) "CAM_PACKET_IGNORED" (fun s => if !camRuns s || !camPortEn s port then s else camOther port why s) s

/-- STRIPE_PROCESS (R284, R286, R287). -/
def execStripeProcess (s : State) : Host.Outcome State Fault Refusal :=
  event (camRuns s && (stripeNext s).isSome) "STRIPE_PROCESS" (fun s => match stripeNext s with | some x => stripeTake x s | none => s) s

/-- STREAK_DETECT (R293, R295, R296). -/
def execStreakDetect (c : Ctx) (s : State) : Host.Outcome State Fault Refusal :=
  event (camRuns s && (match frameReady s c with | some f => streakRuns f && !f.streakDone | none => false)) "STREAK_DETECT"
    (fun s => match frameReady s c with | some f => streakRun c f s | none => s) s

/-- RECORD_WRITE (R291, R292). -/
def execRecordWrite (c : Ctx) (s : State) : Host.Outcome State Fault Refusal :=
  event (camRuns s && (match frameReady s c with | some f => !streakRuns f || f.streakDone | none => false)) "RECORD_WRITE"
    (fun s => match frameReady s c with | some f => recordPut c f s | none => s) s

end Sys2Proof.Machine
end

