-- ==== Sys2Proof/Machine/Lamps.lean ====
section
/-! DEFINITION. Curing and illumination lamps (13_lamps): zones (R355, R356), curves (R362, R363), swaps (R360, R361), scan
frames (R357 to R359), cure-follows-print (R364, R365), the lamp bus (R366 to R370), device states (R371). -/

namespace Sys2Proof.Machine

/-- A swap is requested (R360, R361). -/
def swapRequest (s : State) : State :=
  if s.lmp.swapPend then raiseLim .notice Err.swapOvr 0 (ms 1) [] (mLmp (fun l => { l with ovr := satAdd 16 l.ovr 1 }) s)
  else mLmp (fun l => { l with swapPend := true }) s

/-- A milestone requests a swap when SYNC is 1 and MS names it (R360). -/
def lampMilestone (i : Nat) (s : State) : State :=
  let c := lampForce s 0
  if bits c 29 28 = 1 ∧ bits c 27 23 = i then swapRequest s else s

/-- The user table of the knot (R362). -/
def lampKnot (s : State) : State := mLmp (fun l => { l with utblActive := l.utblShadow }) s

/-- The integer square root of `x` to at most 2^n, by bits. -/
def isqrt (x : Nat) : Nat → Nat → Nat
  | 0, r => r
  | n + 1, r => isqrt x n (if (r + 2 ^ n) * (r + 2 ^ n) ≤ x then r + 2 ^ n else r)

/-- 2^(n ÷ 65 536) for n below 65 536, as a multiple of 2^-128: bit 15 of n stands for a square root of 2, and so on (R362). -/
def pow2Frac (n : Nat) : Nat → Nat → Nat → Nat
  | 0, _, acc => acc
  | j + 1, root, acc =>
    let root := isqrt (root * 2 ^ 128) 130 0
    pow2Frac n j root (if n.testBit j then acc * root / 2 ^ 128 else acc)

/-- 2^(n ÷ 65 536) as a multiple of 2^-128 (R362; log 31). -/
def pow2Fix (n : Nat) : Nat := 2 ^ (n / 65536) * pow2Frac (n % 65536) 16 (2 ^ 129) (2 ^ 128)

/-- Point `i` of a LOG curve (R362). -/
def logPoint (param i : Nat) : Nat :=
  let num := 65535 * (pow2Fix (param * i) - 2 ^ 128)
  let den := pow2Fix (param * 256) - 2 ^ 128
  (2 * num + den) / (2 * den)

/-- The largest number not below `lo` whose half-step lies at or below 65 535 × (i ÷ 256)^(g ÷ 256) (R362). -/
def gammaFind (g i : Nat) : Nat → Nat → Nat
  | 0, lo => lo
  | k + 1, lo =>
    let n := lo + 2 ^ k
    gammaFind g i k (if (2 * n - 1) ^ 256 * 256 ^ g ≤ 131070 ^ 256 * i ^ g then n else lo)

/-- Point `i` of curve set `k` in force (R362). -/
def curvePoint (s : State) (k i : Nat) : Nat :=
  let c := lampForce s (0x40 + 0x10 * k)
  match bits c 31 30 with
  | 0 => min (i * 256) 65535
  | 1 => logPoint (bits c 15 0) i
  | 2 => gammaFind (bits c 15 0) i 16 0
  | _ => (spGet 0 s.lmp.utblForce (512 * k + i)).toNat

/-- The level of a zone value under curve set `k` (R363). -/
def curveLevel (s : State) (k z : Nat) : Nat :=
  let p := fun i => (curvePoint s k i : Int)
  let i := z / 256
  (p i + (((p (i + 1) - p i) * (z % 256 : Nat) + 128) >>> 8)).toNat % 65536

/-- A cure-follows-print row (R365). -/
def cfpRow (s : State) (r : Nat) : Bool := bit (lampForce s 0x80) r

/-- A zone's value (R356, R365). -/
def zoneValue (s : State) (z : Nat) : Nat :=
  if cfpRow s (z / 64) then spGet 0 s.lmp.cfp z
  else (spGet 0 (if s.lmp.frontB then s.lmp.bufB else s.lmp.bufA) z).toNat

/-- The level that a zone shows under curve set `k`; dark in Stopped for cure-follows-print zones (R371). -/
def zoneLevel (s : State) (k z : Nat) : Nat := if s.lmp.dark && cfpRow s (z / 64) then 0 else curveLevel s k (zoneValue s z)

/-- The duty of a zone (R356). -/
def zoneDuty (s : State) (z : Nat) : Nat :=
  let c := z % 64
  zoneLevel s (bits (lampForce s (0x20 + 4 * (c / 16))) (2 * (c % 16) + 1) (2 * (c % 16))) z / 2 ^ (8 - bits (lampForce s 0) 19 16)

/-- The duties of the columns of row `r`. -/
def rowDuties (s : State) (r : Nat) : List Nat := (List.range 64).map (fun c => zoneDuty s (64 * r + c))

/-- The slots of a scan frame: row 0 without a row select, or the 16 rows of the matrix (R358); none while EN is 0. -/
def scanSlots (s : State) : List (Option Nat × List Nat) :=
  if !bit (lampForce s 0) 31 then []
  else if bit (lampForce s 0) 30 then (List.range 16).map (fun r => (some r, rowDuties s r))
  else [(none, rowDuties s 0)]

/-- A scan frame (R357, R358). -/
def scanOut (s : State) : Output :=
  let c := lampForce s 0
  .scan (scanSlots s) (8 + bits c 19 16) (bits c 15 8) (bits c 7 0)

/-- LMP_LBn_CTL in force. -/
def lbCtl (s : State) (n : Nat) : Word := lampForce s (0x200 + 0x20 * n)

/-- Drivers of a chain. -/
def lbDrv (s : State) (n : Nat) : Nat := bits (lbCtl s n) 20 16 + 1

/-- An idle chain. -/
def chainInit : LampChain := ⟨false, [], false, false, false⟩

/-- Chain `n` of the lamp bus. -/
def lbChain (s : State) (n : Nat) : LampChain := vget s.lmp.chains n chainInit

/-- Update chain `n`. -/
def mChain (n : Nat) (f : LampChain → LampChain) (s : State) : State := mLmp (fun l => { l with chains := vmod l.chains n f }) s

/-- A LATCH frame. -/
def isLatch (f : Bytes) : Bool := byteAt f 1 == 2

/-- Send the next frame of chain `n`; the two chains begin their LATCH frames together (R368). -/
def lbusPump (n : Nat) (s : State) : State :=
  let c := lbChain s n
  let o := lbChain s (1 - n)
  match c.toSend with
  | [] => s
  | f :: _ =>
    let waits := isLatch f && o.toSend.any isLatch && !(match o.toSend with | g :: _ => isLatch g | [] => false)
    if c.sent || waits then s else emit (.lbus n (bits (lbCtl s n) 7 0) f) (mChain n (fun c => { c with sent := true }) s)

/-- Send what both chains can send. -/
def lbusGo (s : State) : State := lbusPump 1 (lbusPump 0 s)

/-- The frames of an update (R366 to R368). -/
def lbusUpdate (s : State) (n : Nat) : List Bytes :=
  let k := bits (lbCtl s n) 29 28
  (List.range (lbDrv s n)).map (fun d =>
    lbusFrame d 1 (beBytes 1 0 ++ beBytes 1 32 ++ (List.range 32).flatMap (fun ch => beBytes 2 (zoneLevel s k (32 * d + ch)))))
    ++ [lbusFrame 32 2 []]

/-- An update of chain `n` falls due (R368). -/
def lbusDue (n : Nat) (s : State) : State :=
  if !bit (lbCtl s n) 31 then s
  else if (lbChain s n).busy then
    raiseLim .notice Err.lbusSkip 0 (ms 1) [] (mLmp (fun l => { l with skip := satAdd 16 l.skip 1 }) s)
  else mChain n (fun c => { c with busy := true, echoed := false, toSend := c.toSend ++ lbusUpdate s n }) s

/-- Drops of port `c` over the window of R365. -/
def cfpSum (s : State) (c lc : Nat) : Nat :=
  let w := lampForce s 0x84
  sumN ((List.range (bits w 9 0 + 1)).map (fun i => (spGet 0 (vget s.lmp.drops c []) ((lc + 2048 - bits w 25 16 - i) % 1024)).toNat))

/-- The value of the zones of a cure-follows-print row on port `c` (R365). -/
def cfpValue (s : State) (c : Nat) : Nat :=
  match nextLc s c, vget s.lmp.dropLast c none with
  | none, _ => 0
  | some _, last =>
    let g := lampForce s 0x88
    let win := bits (lampForce s 0x84) 9 0 + 1
    let dens := match last with
      | some (lc, nw) => if nw = 0 then 0 else min 65535 (cfpSum s c lc * 65536 / (nw * win))
      | none => 0
    min 65535 (bits g 31 16 + bits g 15 0 * dens / 4096)

/-- Recompute every cure-follows-print zone (R365). -/
def cfpRecompute (s : State) : State :=
  let vals := (List.range 64).map (cfpValue s)
  let put (m : List (Nat × Nat)) : List (Nat × Nat) :=
    each (fun r m => each (fun c m => spSet 0 m (64 * r + c) (if cfpRow s r then nth vals c 0 else 0)) (List.range 64) m) (List.range 16) m
  mLmp (fun l => { l with cfp := put l.cfp }) s

/-- A swap is taken (R360). -/
def lampSwap (s : State) : State :=
  mLmp (fun l => { l with
    frontB := !l.frontB, swapPend := false, swaps := l.swaps + 1, utblForce := l.utblActive
    inForce := s.act.filter (fun x => decide (base 23 ≤ x.1) && decide (x.1 < base 24)) }) s

/-- A chain carries a cure-follows-print zone whose shown value differs between two states. -/
def carriesChange (s t : State) (n : Nat) : Bool :=
  (List.range (32 * lbDrv t n)).any (fun z => cfpRow t (z / 64)
    && (decide (spGet 0 s.lmp.cfp z ≠ spGet 0 t.lmp.cfp z) || s.lmp.dark != t.lmp.dark))

/-- A scan frame starts (R359 to R361, R365, R368, R371). -/
def scanStart (s : State) : State :=
  let held := decide (s.sys.st = .held)
  let swap := s.lmp.swapPend && !held
  let was := bit (lampForce s 0) 31
  let s := doIf swap lampSwap s
  let on_ := bit (lampForce s 0) 31
  let upd (l : LampState) : LampState := { l with
    sinceSwap := if swap then 1 else l.sinceSwap + 1, frames := if on_ && was then l.frames + 1 else 0, dark := decide (s.sys.st = .stopped) }
  let t := mLmp upd s
  let t := doIf (on_ && !held && decide (t.lmp.frames % bits (lampForce t 0x8C) 7 0 = 0)) cfpRecompute t
  let t := doIf (swap || carriesChange s t 0) (lbusDue 0) t
  let t := doIf (swap || carriesChange s t 1) (lbusDue 1) t
  let c := lampForce t 0
  let t := doIf (decide (bits c 29 28 = 2) && decide (t.lmp.sinceSwap % bits (lampForce t 4) 15 0 = 0)) swapRequest t
  emit (scanOut t) (lbusGo t)

/-- The chain's answer to the frame sent (R369): the clocks after the frame's first bit at which the returned window begins, and its bytes;
none when no window begins. -/
def lbusEcho (n : Nat) (ret : Option (Nat × Bytes)) (s : State) : State :=
  match (lbChain s n).toSend with
  | [] => s
  | f :: r =>
    let bad := match ret with | some r => decide (lbDrv s n + 2 < r.1) || decide (r.2 ≠ f) | none => true
    let log := bad && !(lbChain s n).echoed
    let s := mChain n (fun c => { c with
      toSend := r, sent := false, echo := c.echo || bad, echoed := c.echoed || bad, busy := c.busy && !isLatch f }) s
    lbusGo (doIf log (faultErr Err.lbusEcho []) s)

/-- A write to LMP_CMD (R360). -/
def opLmpCmd (v : Word) (s : State) : State := doIf (bit v 0) swapRequest s

/-- A write to LMP_LBn_GO (R370). -/
def opLbusGo (n : Nat) (v : Word) (s : State) : State :=
  if !(bit v 0 && operational s && bit (lbCtl s n) 31) then s
  else
    let a := regVal s (base 23 + 0x208 + 0x20 * n)
    let d := regVal s (base 23 + 0x20C + 0x20 * n)
    let f := lbusFrame (bits a 21 16) 3 (beBytes 1 (bits a 7 0) ++ beBytes 2 (bits d 15 0))
    lbusGo (mChain n (fun c => { c with toSend := c.toSend ++ [f] }) s)

/-- Address of LMP_ZONE_INDEX. -/
def zoneIndexAddr : Nat := base 23 + 0x10

/-- The back-buffer value that the index names (R355). -/
def zoneWord (s : State) : Word :=
  spGet 0 (if s.lmp.frontB then s.lmp.bufA else s.lmp.bufB) (bits (regVal s zoneIndexAddr) 9 0)

/-- The zone index moves on under AUTOINC. -/
def zoneStep (s : State) : State :=
  let r := regVal s zoneIndexAddr
  if bit r 31 then setReg zoneIndexAddr (w32 (2 ^ 31 + (bits r 9 0 + 1) % 1024)) s else s

/-- An access to LMP_ZONE_DATA (R355, R360). -/
def opLampZone (acc : Access) (s : State) : State :=
  match acc with
  | .read => zoneStep s
  | .write v =>
    let i := bits (regVal s zoneIndexAddr) 9 0
    let x := w32 (bits v 15 0)
    zoneStep (mLmp (fun l => if l.frontB then { l with bufA := spSet 0 l.bufA i x } else { l with bufB := spSet 0 l.bufB i x }) s)

/-- Address of LMP_UTBL_INDEX. -/
def utblIndexAddr : Nat := base 23 + 0x100

/-- Place of the indexed point in a user-point map: set and point. -/
def utblKey (s : State) : Nat := bits (regVal s utblIndexAddr) 10 0

/-- The shadow point that the index names (R362). -/
def utblWord (s : State) : Word := spGet 0 s.lmp.utblShadow (utblKey s)

/-- The point index moves on under AUTOINC, within its set (log 32). -/
def utblStep (s : State) : State :=
  let r := regVal s utblIndexAddr
  if bit r 31 then setReg utblIndexAddr (w32 (2 ^ 31 + 512 * bits r 10 9 + (bits r 8 0 + 1) % 257)) s else s

/-- An access to LMP_UTBL_DATA (R362). -/
def opLampUtbl (acc : Access) (s : State) : State :=
  match acc with
  | .read => utblStep s
  | .write v => utblStep (mLmp (fun l => { l with utblShadow := spSet 0 l.utblShadow (utblKey s) (w32 (bits v 15 0)) }) s)

/-- SCAN_FRAME_START (R357 to R360, R365, R371). -/
def execScanFrameStart (s : State) : Host.Outcome State Fault Refusal := event (operational s) "SCAN_FRAME_START" scanStart s

/-- LBUS_FRAME_ECHO (R369). -/
def execLbusFrameEcho (chain : Fin 2) (ret : Option (Nat × Bytes)) (s : State) : Host.Outcome State Fault Refusal :=
  event ((lbChain s chain).sent && operational s) "LBUS_FRAME_ECHO" (lbusEcho chain ret) s

end Sys2Proof.Machine
end

