-- ==== Sys2Proof/Machine/Strands.lean ====
section
/-! DEFINITION. The strand and spool commands (05_strands_and_spools): fetches, the spools' choice, migration, the
schedule table (R156, R157) and the SPD_ADV frame (R154). -/

namespace Sys2Proof.Machine

/-- Issue the strand's next fetch request (R143, R144). -/
def fetchIssue (n : Nat) (s : State) : State :=
  match nextFetch s n with
  | none => s
  | some (l, i, b, off, len) =>
    let t := s.mem.nextTag
    let a := lsaOf s l i b off
    let pn := (strand s n).panic
    let total := match blockOf l i b with | some k => k.len | none => 0
    let r : FetchReq := ⟨l.id, b, off, len, (locate s a).2, pn, t, unitCount a len, []⟩
    let s' := memRead 0 t pn a len (takeTag (mStrand n (fun x => { advanceFetch s n l total len x with reqs := x.reqs ++ [r] }) s))
    panicUpdate n s'

/-- The bytes of a request, in stream order (R143). -/
def reqData (r : FetchReq) : Bytes :=
  ((sortBy (fun a b => decide (a.1 ≤ b.1)) r.got).flatMap (·.2)).take r.len

/-- The strand's oldest request is answered: its bytes enter the ring, and those of a block that a decoder error has
ended are dropped (R122, R142). -/
def fetchDone (n : Nat) (s : State) : State :=
  match (strand s n).reqs with
  | [] => s
  | r :: rest =>
    let d := reqData r
    let t := strand s n
    let s := each (fun i s => bankPut 0 (n * 8192 + (t.wpos + i) % 8192) [d.getD i 0] s) (List.range d.length) s
    let cut := min t.skip d.length
    let upd (t : Strand) : Strand := { t with
      reqs := rest, ring := t.ring ++ d.drop cut, skip := t.skip - cut, wpos := (t.wpos + d.length) % 8192 }
    panicUpdate n (mStrand n upd s)

/-- The place of strand `n`'s next line to produce in the direction of travel (R145): triggers of layers on the grid by
road count from its start, those of layers not yet started after them. -/
def produceKey (s : State) (n : Nat) : Nat :=
  match decAt s n with
  | none => 0
  | some (l, i) =>
    let g := s.fir.geo
    let x := segGeo g n
    let coarse := match x with | some x => x.coarse | none => 0
    let k := decLine l (strand s n) (lineBytes l i) + coarse
    let on := match s.fir.grid with | some g => g.layers.contains l.id | none => false
    (if on then (l.joined + k) else 2 ^ 40 + k) * g.cpl + geoFrac g (segPort n)

/-- The strand that a spool serves next: the earliest release point, the lowest number on a tie (R145). -/
def spoolPick (s : State) (p : Nat) : Option Nat :=
  match (List.range 512).filter (fun n => (strand s n).spool == p && decodable s n) with
  | [] => none
  | a :: r => some (r.foldl (fun b n => if produceKey s n < produceKey s b then n else b) a)

/-- The spool decodes one line of the strand that it picks (R145). -/
def spoolServe (p : Nat) (s : State) : State :=
  match spoolPick s p with
  | none => s
  | some n => panicUpdate n (strandAhead n (spoolTurn n s))

/-- A migrating strand moves to its new spool (R158). -/
def migrate (n : Nat) (s : State) : State :=
  mStr (fun t => { t with cntMigr := t.cntMigr + 1 }) (mStrand n (fun t => { t with spool := t.target, migrating := false }) s)

/-- Strand `n` may move: it stands at a block boundary, and its new spool serves fewer than 16 strands; an Idle one is not served (R158). -/
def mayMove (n : Nat) (s : State) : Bool :=
  let t := strand s n
  atBlockStart t && (decide (t.st = .idle) ||
    decide (((List.range 512).filter (fun m => (strand s m).spool == t.target && decide ((strand s m).st ≠ .idle))).length < 16))

/-- The spool with fewer than 8 strands and the smallest load, the lowest on a tie (R156). -/
def lightSpool (load cnt : List Nat) : Nat :=
  (List.range 64).foldl (fun b p =>
    if nth cnt p 0 < 8 ∧ (8 ≤ nth cnt b 0 ∨ nth load p 0 < nth load b 0) then p else b) 0

/-- The computed schedule table (R156): spool by strand. -/
def computeSched (g : Geo) : List Nat :=
  let order := sortBy (fun (a b : SegGeo) => decide (b.width ≤ a.width)) g.segs
  let r := order.foldl (fun (acc : List Nat × List Nat × List (Nat × Nat)) x =>
    let (load, cnt, out) := acc
    let p := lightSpool load cnt
    (load.modify p (· + x.width), cnt.modify p (· + 1), (x.seg, p) :: out)) (List.replicate 64 0, List.replicate 64 0, [])
  (List.range 512).map (fun n => match r.2.2.find? (fun y => y.1 == n) with | some y => y.2 | none => n / 8)

/-- STR_SCHED of strand `n` in a set of register values (R159). -/
def schedOf (f : Nat → Word) (n : Nat) : Nat := bits (f (base 10 + 0x100 + 4 * (n / 4))) (8 * (n % 4) + 5) (8 * (n % 4))

/-- The table that a knot takes, and the lowest spool that a manual table overfills (R156, R157). -/
def knotSched (f : Nat → Word) (g : Geo) : List Nat × Option Nat :=
  if bit (f (base 10)) 0 then
    let t := (List.range 512).map (schedOf f)
    match (List.range 64).find? (fun p => decide (8 < (g.segs.filter (fun x => nth t x.seg 0 == p)).length)) with
    | some p => (computeSched g, some p)
    | none => (t, none)
  else (computeSched g, none)

/-- The knot puts a table into force: strands move at once or begin to migrate (R158). -/
def applySched (t : List Nat) (s : State) : State :=
  each (fun n s =>
    let x := strand s n
    let p := nth t n (n / 8)
    if x.spool = p then mStrand n (fun x => { x with target := p, migrating := false }) s
    else
      let s := mStrand n (fun x => { x with target := p, migrating := true }) s
      doIf (mayMove n s) (migrate n) s) (List.range 512) s

/-- The data word of a SPD_ADV frame (R154). -/
def advWord (s : State) : Word :=
  w32 (s.str.level * 2 ^ 30 + s.str.src * 2 ^ 28 + b2n s.fir.ovs 27 + b2n (paceShort s).isSome 26 + s.str.advSeq % 4 * 2 ^ 24
    + s.str.speed % 2 ^ 24)

/-- Even parity over the data bits (R154). -/
def parity (w : Word) : Bool := ((List.range 32).filter (bit w)).length % 2 == 1

/-- The bits of a SPD_ADV frame in the order sent: a start bit 0, the 32 data bits from bit 0 up, even parity, a stop bit 1; the line
then stays high (R154). -/
def advBits (w : Word) : List Bool := false :: (List.range 32).map (bit w) ++ [parity w, true]

/-- Clear the four strand counters (R159). -/
def opStrClr (v : Word) (s : State) : State :=
  if bit v 0 then mStr (fun t => { t with cntUnder := 0, cntPanic := 0, cntMigr := 0, cntDisc := 0 }) s else s

/-- SPOOL_DECODE_LINE (R119 to R126, R145, R146). -/
def execSpoolDecodeLine (spool : Fin 64) (s : State) : Host.Outcome State Fault Refusal :=
  event (decide (s.sys.st ≠ .faulted) && (spoolPick s spool).isSome) "SPOOL_DECODE_LINE" (spoolServe spool) s

/-- STRAND_FETCH_ISSUE (R142 to R144). -/
def execStrandFetchIssue (n : Seg) (s : State) : Host.Outcome State Fault Refusal :=
  event (dataRuns s && fetchReady s n) "STRAND_FETCH_ISSUE" (fetchIssue n) s

/-- STRAND_FETCH_DONE (R142 to R144): the data is stage 4's token. -/
def execStrandFetchDone (n : Seg) (s : State) : Host.Outcome State Fault Refusal :=
  event (dataRuns s && stageOpen s 4 && (match (strand s n).reqs with | r :: _ => decide (r.left = 0) | [] => false)) "STRAND_FETCH_DONE"
    (fun s => match (strand s n).reqs with
      | r :: _ => stageTake 4 [r.tag] r.layer n none (fetchDone n) s
      | [] => s) s

/-- STRAND_MIGRATE (R158). -/
def execStrandMigrate (n : Seg) (s : State) : Host.Outcome State Fault Refusal :=
  event (dataRuns s && (strand s n).migrating && mayMove n s) "STRAND_MIGRATE" (migrate n) s

/-- SPD_ADV_FRAME (R154, R155, R437). -/
def execSpdAdvFrame (s : State) : Host.Outcome State Fault Refusal :=
  event (operational s && bit (regVal s (base 10 + 0xC)) 16 && drivesAdvice s) "SPD_ADV_FRAME" (fun s =>
    let w := advWord s
    emit (.spdAdv (advBits w)) (mStr (fun t => { t with advWord := w, advSeq := (t.advSeq + 1) % 4 }) s)) s

end Sys2Proof.Machine
end

