-- ==== Sys2Proof/Machine/Knot.lean ====
section
/-! DEFINITION. Knots (01_architecture, R25 to R32; R61, R62, R235, R417, R418, R518) and milestone firings with their
consumers (06_position, R179 to R183). -/

namespace Sys2Proof.Machine

/-- A register with a knotted field (R7). -/
def isRwk (a : Nat) : Bool := match regDesc a with | some d => decide (d.rwk ≠ 0) | none => false

/-- The road count of a knot position: the whole count that the position lies on or past, on the side from which a pass in
direction `dir` comes (R26; log 33). -/
def knotRoad (dir pos : Int) : Int := sgn 48 (dir * Int.fdiv (dir * pos) 65536)

/-- Trigger road count, in 1/65 536 count, of the reference port's lowest trigger beyond the high-water mark (R26). -/
def immediatePos (s : State) (gr : Grid) : Int :=
  let g := s.fir.geo
  let p := refPort s
  let k := Int.fdiv (geoDir g * sgn 64 (s.pos.hwm * 65536 - gr.s) - geoFrac g p) g.cpl + 1
  trOf g gr p k.toNat

/-- Whether a segment is affected by a change of geometry from `a` to `b` (R62). -/
def segAffected (a b : Geo) (all : Bool) (n : Nat) : Bool :=
  match segGeo a n, segGeo b n with
  | none, none => false
  | some x, some y =>
    all || decide (x.coarse ≠ y.coarse) || decide (x.phase ≠ y.phase) || decide (geoFrac a (segPort n) ≠ geoFrac b (segPort n))
      || (List.range y.width).any (fun j => residual a.res (nozOf y j) != residual b.res (nozOf y j))
  | _, _ => true

/-- The lowest segment affected by a knot (R62). -/
def geoAffected (a b : Geo) : Option Nat :=
  (List.range 512).find? (segAffected a b (decide (a.cpl ≠ b.cpl) || decide (a.rev ≠ b.rev) || decide (a.enc ≠ b.enc)))

/-- A Stop-class error of a knot (R61, R235): its stop point is the knot position, and the device enters Stopped there; the
lines before it that the coming sample still releases print. -/
def knotStop (code : Nat) (args : List Nat) (pos : Int) (s : State) : State :=
  let s := if s.fir.grid.isSome then
      stopAt pos (if s.sys.st = .stopped then s else mFir (fun f => { f with knotTail := true }) s)
    else s
  enterStopped (raise .stop code args s)

/-- The first trigger of port `p` whose release lies at or beyond a position (R28). -/
def firstFrom (g : Geo) (gr : Grid) (p : Nat) (pos : Int) : Nat :=
  (-(Int.fdiv (-(geoDir g * sgn 64 (pos - gr.s) + 2 * g.cpl - geoFrac g p)) g.cpl)).toNat

/-- The geometry that a knot makes active, on an open grid or without one (R28, R50, R61, R62, R138). -/
def knotGeo (pos : Int) (s : State) : State :=
  let old := s.fir.geo
  let g := { deriveGeo (actVal s) with res := s.stg.resActive }
  let s := mFir (fun f => { f with geo := g, oldGeos := if f.grid.isSome then f.oldGeos ++ [(pos, old)] else [] }) s
  let s := if g.rev ≠ old.rev ∨ g.enc ≠ old.enc then mPos (fun p => { p with hwm := road s }) s else s
  let s := match geoAffected old g with
    | some n => if (printingLayers s).isEmpty then s else notice Err.geoMidlayer [n] s
    | none => s
  let chk := geoCheckVals (actVal s)
  let s := if chk.1 = 0 then s else knotStop Err.geoInvalid [chk.1, chk.2] pos s
  let s := fireRests old g s
  let s := doIf (decide (g.rev ≠ old.rev) || decide (g.enc ≠ old.enc)) reverseCheck s
  match s.fir.grid with
  | none => s
  | some gr =>
    let new := (geoPorts g).filter (fun p => !(firPort s p).isOpen)
    let s := gatesMeetGrid new (each (fun p s => mPort p (openPort (firstFrom g gr p pos)) s) new s)
    each (fun p s => if portTurned s gr p then geoSeek old p (firPort s p).kr s else s) (geoPorts g) s

/-- The shuffle offset is read at a knot (R235). -/
def knotShuffle (pos : Int) (s : State) : State :=
  let r := fun o => actVal s (base 16 + o)
  let c := r 0x20
  if !bit c 31 then s
  else
    let ax := axis s (bits c 30 29)
    let num : Int := (ax.pos - (r 0x28).toInt) * 65536
    let scale : Int := ((r 0x24).toNat : Int)
    let k := divRound num scale
    let ok := ax.standstill && decide ((num - k * scale).natAbs ≤ bits c 15 0 * 65536) && decide (k = sbits (r 0x2C) 15 0)
    let s := mNzl (fun z => { z with shufPos := ax.pos }) s
    if ok then mNzl (fun z => { z with shufActive := k, shufValid := true }) s
    else knotStop Err.shuffleMismatch [argI ax.pos, argI k, argI (sbits (r 0x2C) 15 0)] pos s

/-- The spool schedule of a knot (R156 to R158). -/
def knotSpools (s : State) : State :=
  let (t, bad) := knotSched (actVal s) s.fir.geo
  applySched t (match bad with | some p => notice Err.schedInvalid [p] s | none => s)

/-- Axes take note of a knot (R32, R335, R343). -/
def knotAxes (oldAct : WMap) (s : State) : State :=
  each (fun a s =>
    let d := fun (m : WMap) => bits (spGet (regReset (axsAddr a 0x18)) m (axsAddr a 0x18)) 23 0
    mAxs a (fun k => { k with
      knotPend := true, tblActive := k.tblShadow, dmaxLow := (k.knotPend && k.dmaxLow) || decide (d s.act < d oldAct) }) s) [0, 1, 2, 3] s

/-- Words as little-endian bytes (log 34). -/
def wordBytes (l : List Word) : Bytes := l.flatMap (fun w => leBytes 4 w.toNat)

/-- The addresses of registers with a knotted field, ascending, without STR_SCHED. -/
def rwkAddrs : List Nat :=
  ((List.range 29).flatMap (fun b => (List.range 0x1000).map (fun i => base b + 4 * i))).filter
    (fun a => isRwk a && !(decide (base 10 + 0x100 ≤ a) && decide (a < base 10 + 0x300)))

/-- The shadow digest (R418). -/
def shadowDigest (s : State) : BitVec 32 :=
  crc32c (wordBytes (rwkAddrs.map (regVal s)) ++ wordBytes ((List.range 32768).map (spGet 0 s.stg.resShadow))
    ++ wordBytes ((List.range 128).map (fun i => regVal s (base 10 + 0x100 + 4 * i)))
    ++ wordBytes ([0, 1, 2, 3].flatMap (fun a => (List.range 1024).map (tblEntry (axis s a).tblShadow)))
    ++ wordBytes ([0, 1, 2, 3].flatMap (fun k => (List.range 257).map (fun i => spGet 0 s.lmp.utblShadow (512 * k + i)))))

/-- PAR_DIVERGE: READY clears until the next layer start whose knot matches (R418, R421). -/
def parDiverge (s : State) : State := mPar (fun p => { p with clear := true }) (faultErr Err.parDiverge [] s)

/-- A pair's record of a knot taken: the active sends KNOT_DONE, the standby compares (R418). -/
def knotPair (s : State) : State :=
  if !paired s then s
  else
    let d := shadowDigest s
    let s := mPar (fun p => { p with lastKnot := some (s.sys.epoch, s.sys.knotPos, d) }) s
    if isActive s then tetherSend 4 (leBytes 4 s.sys.epoch.toNat ++ leRoad s.sys.knotPos ++ leBytes 4 d.toNat) s
    else match s.par.knotDone with
      | some k => if k.1 = s.sys.epoch ∧ s.par.knotDone ≠ s.par.lastKnot then parDiverge s else s
      | none => s

/-- A knot is taken at a position in 1/65 536 count (R26 to R32). -/
def takeKnot (pos : Int) (s : State) : State :=
  let oldAct := s.act
  let oldCtx := (List.range 8).map (ctxRegs s)
  let oldShuf := s.nzl.shufActive
  let dir := geoDir s.fir.geo
  let s := { s with act := s.regs.filter (fun x => isRwk x.1), stg := { s.stg with resActive := s.stg.resShadow } }
  let s := mSys (fun y => { y with
    pendingKnot := none, pendingPos := none, knotDue := none, epoch := y.epoch + 1, knotPos := knotRoad dir pos }) s
  let s := knotShuffle pos (knotGeo pos s)
  let s := evalDetours (knotSpools s)
  let s := lampKnot (knotAxes oldAct (capKnot s))
  let s := each (fun (x : List Word × Nat) s => camKnot x.2 x.1 oldShuf s) oldCtx.zipIdx s
  updateMargins (strandSync (knotPair s))

/-- Enter a road-count request (R26, R30): one already behind is withdrawn, one reached is due. -/
def knotAwait (rc : Int) (s : State) : State :=
  let d := geoDir s.fir.geo * rcDiff (road s) rc
  if 0 < d then notice Err.knotStale [] s
  else knotReach (mSys (fun y => { y with pendingKnot := some (.roadCount rc), pendingPos := some (rc * 65536) }) s)

/-- An immediate request (R26, R31, R417). -/
def knotNow (s : State) : State :=
  match s.fir.grid, nextLc s (refPort s) with
  | some gr, some _ =>
    if isActive s then
      let k := (firPort s (refPort s)).kr + knotLead s
      let rc := knotRoad (geoDir s.fir.geo) (trOf s.fir.geo gr (refPort s) k)
      knotAwait rc (sendKnotReq 2 0 rc s)
    else knotReach (mSys (fun y => { y with pendingKnot := some .immediate, pendingPos := some (immediatePos s gr) }) s)
  | _, _ =>
    let s := sendKnotReq 2 0 (enc s (bits (regVal s (base 14 + 0x100)) 1 0)).rc s
    mSys (fun y => { y with pendingKnot := some .immediate, pendingPos := none }) s

/-- A milestone request (R26, R30). -/
def knotMs (i : Nat) (s : State) : State :=
  let m := milestone s i
  if m.stale && !bit (msReg s i 0) 29 then notice Err.knotStale [] s
  else
    let s := mSys (fun y => { y with pendingKnot := some (.milestone i), pendingPos := none }) (sendKnotReq 1 i 0 s)
    if m.stale then mSys (fun y => { y with knotDue := some (road s * 65536) }) s else s

/-- A write to SYS_KNOT (R26, R29, R30, R417, R518), with whether it is answered OK. -/
def opKnot (v : Word) (s : State) : State × Bool :=
  let kind := bits v 31 30
  let rc := sgn 48 ((regVal s 0x104).toNat + 2 ^ 32 * bits (regVal s 0x108) 15 0)
  if s.sys.st = .loading ∨ s.sys.st = .verifying then (notice Err.bootKnot [] s, false)
  else if isStandby s then (notice Err.parKnot [] s, false)
  else if kind = 3 then
    match s.sys.pendingKnot with
    | none => (notice Err.knotNone [] s, true)
    | some .immediate => (notice Err.knotBusy [] s, false)
    | some _ => (knotWithdraw (sendKnotReq 3 0 0 s), true)
  else if s.sys.pendingKnot.isSome then (notice Err.knotBusy [] s, false)
  else match kind with
    | 0 => (knotNow s, true)
    | 1 => (knotMs (bits v 4 0) s, true)
    | _ => (knotAwait rc (if 0 < geoDir s.fir.geo * rcDiff (road s) rc then s else sendKnotReq 2 0 rc s), true)

/-- The position at which KNOT_TAKE takes a knot: the one reached, or the present road count of the channel that the shadow
geometry names (R31). -/
def knotPlace (s : State) : Option Int :=
  match s.sys.knotDue with
  | some p => some p
  | none => if s.sys.pendingKnot = some .immediate ∧ s.sys.pendingPos = none then
      some ((enc s (bits (regVal s (base 14 + 0x100)) 1 0)).rc * 65536) else none

/-- CMP after a firing at road count `rc` in direction `rev` (R181): the new value and the values passed over. -/
def cmpNext (cmp per rc : Int) (rev : Bool) : Int × Nat :=
  let dir : Int := if rev then -1 else 1
  let ahead := dir * rcDiff rc cmp
  let m := if ahead < per then 1 else (ahead / per + 1).toNat
  (sgn 48 (cmp + dir * m * per), m - 1)

/-- A periodic milestone re-arms (R181). -/
def msRearm (i : Nat) (rev : Bool) (s : State) : State :=
  let per := (msReg s i 0xC).toNat
  if per = 0 then s
  else
    let (c, missed) := cmpNext (milestone s i).cmp per (enc s (msSrc s i)).rc rev
    let s := mMs i (fun m => { m with cmp := c, armed := true, stale := false, missed := satAdd 16 m.missed missed }) s
    let s := mMs i (fun m => { m with dPrev := msD s i }) s
    if missed = 0 then s else notice Err.msSkip [] s

/-- The pulse outputs of a firing (R183). -/
def msPulses (i : Nat) (s : State) : State :=
  let go := fun (o : PulseOut) (s : State) =>
    let r := liveVal s (pulsePin o).2.2
    if bit r 31 && bits r 28 24 == i then pulseSet o true s else s
  each (fun (m : Fin 4) s => go (.camTrig m) (go (.msOut m) s)) [0, 1, 2, 3] s

/-- A milestone named by a pending knot or by the head layer fires on another channel than the print channel (R182). -/
def msForeign (i : Nat) (s : State) : State :=
  let knot := decide (s.sys.pendingKnot = some (.milestone i))
  let layer := match headLayer s with | some l => decide (l.startMs = i) | none => false
  doIf knot knotWithdraw (doIf (knot || layer) (notice Err.msSrc [i]) s)

/-- A firing of milestone `i` with its event road count, direction, and consumers (R179 to R183). -/
def msFire (i : Nat) (ev : Int) (rev : Bool) (s : State) : State :=
  let s := mMil (fun t => { t with stat := t.stat ||| w32 (2 ^ i) })
    (mMs i (fun m => { m with due := none, hit := ev, cnt := m.cnt + 1 }) s)
  let s := msRearm i rev s
  let onPrint := decide (msSrc s i = printCh s)
  let s := if onPrint then (if s.sys.pendingKnot = some (.milestone i) then takeKnot (ev * 65536) s else s) else msForeign i s
  let s := camTrigger i ev (decide (msSrc s i = printCh s)) s
  let s := doIf onPrint (queueFire i ev) s
  msLater i (msPulses i (gatesMilestone i (lampMilestone i s)))

/-- The milestone whose firing is next: the lowest that is due (R182). -/
def msNext (s : State) : Option (Nat × Int × Bool) :=
  firstSome (fun i => (milestone s i).due.map (fun d => (i, d))) (List.range 32)

/-- KNOT_TAKE (R26 to R32). -/
def execKnotTake (s : State) : Host.Outcome State Fault Refusal :=
  event (decide (s.sys.st ≠ .cold) && decide (s.sys.st ≠ .loading) && (knotPlace s).isSome) "KNOT_TAKE"
    (fun s => match knotPlace s with | some p => takeKnot p s | none => s) s

/-- MILESTONE_FIRE (R179 to R183): a knot that is due is taken first. -/
def execMilestoneFire (ms : Ms) (s : State) : Host.Outcome State Fault Refusal :=
  event (s.sys.knotDue.isNone && (match msNext s with | some x => x.1 == ms.val | none => false)) "MILESTONE_FIRE"
    (fun s => match msNext s with | some x => msFire x.1 x.2.1 x.2.2 s | none => s) s

end Sys2Proof.Machine
end

