-- ==== Sys2Proof/Machine/Memory.lean ====
section
/-! DEFINITION. The memory commands (11_memory): DRAM, refresh, re-verification, banks and arbitration rounds. -/

namespace Sys2Proof.Machine

/-- Every resident layer is Released when a channel goes Offline (R109). -/
def releaseAll (s : State) : State :=
  let lost := !(printingLayers s).isEmpty
  let s := each (fun (l : Layer) s => releaseLayer l.id 3 s) (s.tow.layers.filter resident) s
  strandSync (if lost then raise .stop Err.layerLost [] s else s)

/-- What follows when a channel fails re-verification (R109, R307). -/
def verifyFailed (ch : Nat) (s : State) : State :=
  let s := faultErr Err.memOffline [ch] (chanOffline ch s)
  let s := placeUpdate (releaseAll s)
  if capacityShort s then raise .fatal Err.memCapacity [] s else s

/-- The outcome of a re-verification whose lanes passed (R307). -/
def verifyPassed (ch : Nat) (a b : Int) (s : State) : State :=
  let c := chan s ch
  let moved := decide (a ≠ c.vofs0) || decide (b ≠ c.vofs1)
  let s := mChan ch (fun c => { c with vofs0 := a, vofs1 := b, ver := none, verWant := false, verLo := c.lo, verHi := c.hi, diffTicks := 0 }) s
  if moved then notice Err.memVofs [] (delayUpdate ch s) else s

/-- One slice: a bank's verify row is written and read with one trial offset, and the bytes of each lane are compared (R305, R307). -/
def verifyStep (ch : Nat) (got0 got1 : Bytes) (s : State) : State :=
  let p0 := decide (got0 = verifyLane ch 0)
  let p1 := decide (got1 = verifyLane ch 1)
  let v := match (chan s ch).ver with | some v => v | none => ⟨0, 0, true, true, none, none⟩
  let v := { v with ok0 := v.ok0 && p0, ok1 := v.ok1 && p1 }
  if v.bank < 15 then mChan ch (fun c => { c with ver := some { v with bank := v.bank + 1 } }) s
  else
    let take (f : Option Int) (ok : Bool) : Option Int := match f with | some x => some x | none => if ok then some (trialOffset v.trial) else none
    let f0 := take v.found0 v.ok0
    let f1 := take v.found1 v.ok1
    match f0, f1 with
    | some a, some b => verifyPassed ch a b s
    | _, _ =>
      if v.trial < 8 then mChan ch (fun c => { c with ver := some ⟨v.trial + 1, 0, true, true, f0, f1⟩ }) s
      else verifyFailed ch s

/-- Request re-verification of the channels of a mask (R307). -/
def opMemVerify (v : Word) (s : State) : State :=
  each (fun c s => if bit v c && chanOnline s c then mChan c (fun k => { k with verWant := true }) s else s) (List.range 8) s

/-- Context `c` has a stripe in a camera buffer (R284, R323). -/
def ctxWaits (s : State) (c : Nat) : Bool := s.insp.ports.toList.any (fun p => p.buf.any (fun x => x.ctx == c))

/-- DRAM_ISSUE (R308, R309, R311, R315): a unit is stage 3's token (R499). -/
def execDramIssue (ch : Chan) (cmdBad : Bool) (s : State) : Host.Outcome State Fault Refusal :=
  event (dramCan s ch) "DRAM_ISSUE" (fun s => match chanNext s ch with
    | .unit u =>
      let o := tagOwner s u.tag
      stageTake 3 [ch.val, u.ca, u.tag] o.1 o.2 none (dramIssue ch cmdBad) s
    | _ => dramIssue ch cmdBad s) s

/-- DRAM_READ_RETURN (R302, R315). -/
def execDramReadReturn (ch : Chan) (e : List Flip) (s : State) : Host.Outcome State Fault Refusal :=
  event (!(chan s ch).inflight.isEmpty) "DRAM_READ_RETURN" (dramReturn ch e) s

/-- REFRESH_DUE (R312, R316). -/
def execRefreshDue (ch : Chan) (s : State) : Host.Outcome State Fault Refusal :=
  event (chanOnline s ch) "REFRESH_DUE" (refreshFalls ch) s

/-- VERIFY_SLICE (R307): one channel at a time. -/
def execVerifySlice (ch : Chan) (got0 got1 : Bytes) (s : State) : Host.Outcome State Fault Refusal :=
  event (chanOnline s ch && !s.mem.frozen && ((chan s ch).ver.isSome ||
      ((chan s ch).verWant && s.mem.chans.toList.all (fun c => c.ver.isNone)))) "VERIFY_SLICE" (verifyStep ch got0 got1) s

/-- A requester of a bank writes: the NOZZLE bank belongs to the health updater in Printing and Held, and a write of RMP there is a swap of
its entries (R216). -/
def bankStore (b r o : Nat) (d : Bytes) (old : Bytes) (s : State) : State :=
  if b = 2 ∧ r ≠ 1 ∧ inPrint s = true then bankAnswer b r none (notice Err.nzlDirect [] s)
  else bankAnswer b r (some old) (if b = 2 ∧ r = 2 then nozWrite o d s else bankPut b o d s)

/-- BANK_READ (R319 to R321). -/
def execBankRead (b : Bank) (r : Fin 4) (off len : Nat) (e : List Flip) (s : State) : Host.Outcome State Fault Refusal :=
  spelled (decide (r.val < bankReqs b) && decide (1 ≤ len) && decide (len ≤ 32)) "BANK_READ"
    (bankOp b r off len 1 e (fun s => bankAnswer b r (some (bankBytes s b off len)) s)) s

/-- BANK_WRITE (R319 to R321). -/
def execBankWrite (b : Bank) (r : Fin 4) (off : Nat) (data : Bytes) (e : List Flip) (s : State) : Host.Outcome State Fault Refusal :=
  spelled (decide (r.val < bankReqs b) && decide (1 ≤ data.length) && decide (data.length ≤ 32)) "BANK_WRITE"
    (bankOp b r off data.length 1 e (bankStore b r off data [])) s

/-- BANK_ADD (R319 to R321). -/
def execBankAdd (b : Bank) (r : Fin 4) (off : Nat) (v : Word) (e : List Flip) (s : State) : Host.Outcome State Fault Refusal :=
  spelled (decide (r.val < bankReqs b)) "BANK_ADD"
    (bankOp b r off 4 4 e (fun s => bankStore b r off (bankSum s b off false v.toNat) [] s)) s

/-- BANK_ADD_SAT (R319 to R321). -/
def execBankAddSat (b : Bank) (r : Fin 4) (off : Nat) (v : Word) (e : List Flip) (s : State) : Host.Outcome State Fault Refusal :=
  spelled (decide (r.val < bankReqs b)) "BANK_ADD_SAT"
    (bankOp b r off 4 4 e (fun s => bankStore b r off (bankSum s b off true v.toNat) [] s)) s

/-- BANK_SWAP (R319 to R321): the old value is returned. -/
def execBankSwap (b : Bank) (r : Fin 4) (off : Nat) (v : BitVec 64) (e : List Flip) (s : State) : Host.Outcome State Fault Refusal :=
  spelled (decide (r.val < bankReqs b)) "BANK_SWAP"
    (bankOp b r off 8 8 e (fun s => bankStore b r off (leBytes 8 v.toNat) (bankBytes s b off 8) s)) s

/-- Some requester of an instance requests (R323, R324). -/
def roundReqs (s : State) (inst : Nat) (reqs : BitVec 4) (m : Nat) : Bool :=
  if inst < 4 then dramRequests s inst m else if inst = 11 then ctxWaits s m else reqs.getLsbD m && decide (m < arbReqs inst)

/-- A round can be held (R324, R326): DRAM queues are held in a freeze (R316), and no round is held while a holder has a unit ready. -/
def roundOpen (s : State) (inst : Nat) (reqs : BitVec 4) : Bool :=
  if inst < 4 then !s.mem.frozen
  else match (arb s inst).holder with
    | none => true
    | some h => decide (inst < 11) && !roundReqs s inst reqs h

/-- ARB_ROUND (R322 to R326). At a bank, a holder that does not request has no unit ready, which ends its grant (log 10). -/
def execArbRound (inst : Fin 12) (reqs : BitVec 4) (s : State) : Host.Outcome State Fault Refusal :=
  event ((List.range 8).any (roundReqs s inst reqs) && roundOpen s inst reqs) "ARB_ROUND"
    (fun s => if inst.val < 4 then dramRound inst s else lineRound inst (roundReqs s inst reqs) s) s

end Sys2Proof.Machine
end

