-- ==== Sys2Proof/Machine/Pairing.lean ====
section
/-! DEFINITION. The pairing commands (15_pairing): heartbeats, paths, tether messages, hitch, splice, rejoin, KEEP island. -/

namespace Sys2Proof.Machine

/-- FLAGS of a heartbeat (R427). -/
def hbFlags (s : State) : Nat :=
  b2n s.par.hitchOut 0 + b2n (parReady s) 1 + b2n s.dbg.halted 2 + b2n (decide (s.sys.st = .faulted)) 3

/-- ROLE of a heartbeat (R427). -/
def hbRole (s : State) : Nat := if s.par.role = 0 then Config.earlyRole.toNat else s.par.role

/-- The line digest of a line count, when the chip holds its frames (R421). -/
def lineDigest (s : State) (lc : Nat) : Option Word :=
  (s.par.portLcs.find? (fun x => x.1 == lc)).map (fun x => crc32c (x.2.flatMap (·.2)))

/-- DLC and DIG of a heartbeat (R427). -/
def hbLine (s : State) : Nat × Word :=
  match s.par.dlc with
  | some l => (l, match lineDigest s l with | some d => d | none => Config.noDlc.2)
  | none => (Config.noDlc.1.toNat, Config.noDlc.2)

/-- The body of a tether heartbeat (R427). -/
def hbBody (s : State) : Bytes :=
  leBytes 1 (hbFlags s) ++ leBytes 1 (hbRole s) ++ leBytes 1 (devCode s.sys.st) ++ leBytes 1 0 ++ leBytes 4 s.par.splices.toNat
    ++ leBytes 4 s.sys.epoch.toNat ++ leBytes 2 s.par.rxSeq ++ leBytes 2 0 ++ leBytes 5 (hbLine s).1 ++ leBytes 3 0
    ++ leBytes 4 (hbLine s).2.toNat

/-- The bytes of the NOZZLE and COUNT banks that the copy at position `n` of 3 MiB names: bank, offset (R435). -/
def copyAt (n : Nat) : Nat × Nat := if n < 2097152 then (2, n) else (3, n - 2097152)

/-- The active sends the next BULK of a copy; it goes on at the rate of the heartbeats (R435; log 40). -/
def copyNext (s : State) : State :=
  if !s.par.copying || decide (3145728 ≤ s.par.copyPos) then s
  else
    let (b, o) := copyAt s.par.copyPos
    tetherSend 7 (leBytes 1 b ++ leBytes 3 0 ++ leBytes 4 o ++ bankBytes s b o 1024)
      (mPar (fun p => { p with copyPos := p.copyPos + 1024 }) s)

/-- What a heartbeat interval does to the copy that an active sends: a grid that opens ends it, and it is over once the partner has
joined. A rejoiner's own position in the copy is not touched. -/
def copyPump (s : State) : State :=
  if !s.par.copying then s
  else if s.fir.grid.isSome ∨ s.par.peerRole ≠ 3 ∨ !isActive s then mPar (fun p => { p with copying := false }) s
  else each (fun _ s => copyNext s) (List.range 12) s

/-- A tether heartbeat (R427). -/
def hbSend (s : State) : State := copyPump (emit (tethOut (tethFrame 1 0 (hbBody s))) s)

/-- The network heartbeat under key `k` (R428). -/
def netHb (s : State) (k : Bytes) : Bytes :=
  let b := beBytes 2 0x5048 ++ beBytes 1 1 ++ beBytes 1 (hbFlags s) ++ beBytes 1 (hbRole s) ++ beBytes 1 (devCode s.sys.st)
    ++ beBytes 2 0 ++ beBytes 4 s.par.splices.toNat ++ beBytes 4 s.sys.epoch.toNat ++ beBytes 8 (hbLine s).1
    ++ beBytes 8 s.mgt.boot.toNat ++ beBytes 8 s.par.hbTx
  b ++ (hmac k b).take 16

/-- A key of the KEYS record with a role (R396). -/
def rmpKey (s : State) (id : Nat) : Option Key := s.mgt.keys.find? (fun k => k.id == id && decide (k.role ≠ 0))

/-- The key of the heartbeats (R428). -/
def hbKey (s : State) : Option Key := rmpKey s (bits (regVal s (base 24)) 26 24)

/-- The partner's address from a port (R464). -/
def peerAddr (s : State) (np : Nat) : Option Session :=
  let q := netIdPort s np
  let port := BitVec.ofNat 16 (hbPort s)
  if q.peer4 ≠ 0 then some ⟨false, q.peer4.setWidth 128, port⟩
  else if q.peer6 ≠ 0 then some ⟨true, q.peer6, port⟩
  else none

/-- The network heartbeats of a tick (R428). -/
def netHbSend (s : State) : State :=
  if !paired s || !awake s then s
  else each (fun np s =>
    match peerAddr s np, hbKey s with
    | some a, some k =>
      if (netPort s np).up then
        let s := mPar (fun p => { p with hbTx := p.hbTx + 1 }) s
        sendVia np 6 a (hbPort s) (netHb s k.key) s
      else s
    | _, _ => s) [0, 1] s

/-- What both kinds of heartbeat tell (R427 to R430, R434): the higher SPLICES is adopted. -/
def hbTake (flags role st spl : Nat) (s : State) : State :=
  let s := mPar (fun p => { p with
    hbAt := some s.now, peerHold := flags.testBit 0, peerReady := flags.testBit 1, peerHalted := flags.testBit 2,
    peerRole := role, peerState := st, splices := if 0 < sgn 32 ((spl : Int) - p.splices.toNat) then w32 spl else p.splices }) s
  if flags.testBit 2 && flags.testBit 0 && bit (regVal s (base 24 + 4)) 0 then spliceTry 4 s else s

/-- PATH_MISS of the tether (0) or the network (1) ends (R429, R485). -/
def pathBack (k : Nat) (s : State) : State := endFault Err.pathMiss (fun a => nth a 4 0 == k) s

/-- The partner's ACKSEQ: messages up to it are acknowledged (R426). -/
def tethAcked (q : Nat) (s : State) : State :=
  if s.par.unacked.any (fun m => m.1 == q) then
    mPar (fun p => { p with unacked := (p.unacked.dropWhile (fun m => m.1 != q)).drop 1 }) s
  else s

/-- A standby compares a line digest with its own (R421). -/
def lineCompare (lc : Nat) (dig : Word) (s : State) : State :=
  match lineDigest s lc with
  | some d => if isStandby s && d != dig then parDiverge s else s
  | none => s

/-- A frame passes R424 with a body of `len` bytes. -/
def tethGood (len : Nat) (f : Bytes) : Bool :=
  decide (f.length = len + 10) && decide (leAt f 4 2 = len) && decide (leAt f (len + 6) 4 = (crc32c (f.take (len + 6))).toNat)

/-- A valid tether heartbeat (R427, R429). -/
def tethHb (b : Bytes) (s : State) : State :=
  let s := pathBack 0 (mPar (fun p => { p with tMiss := false, peerDlc := some (leAt b 16 5) }) s)
  let s := tethAcked (leAt b 12 2) (hbTake (byteAt b 0) (byteAt b 1) (byteAt b 2) (leAt b 4 4) s)
  lineCompare (leAt b 16 5) (w32 (leAt b 24 4)) s

/-- A message arrives over the tether: in order it is taken, otherwise discarded (R424, R426). -/
def tethRx (len : Nat) (f : Bytes) (eff : Bytes → State → State) (s : State) : State :=
  if !paired s || !s.par.tethUp then s
  else if !tethGood len f || leAt f 2 2 != nextTseq s.par.rxSeq then tethDrop s
  else eff ((f.drop 6).take len) (mPar (fun p => { p with rxSeq := leAt f 2 2 }) s)

/-- A heartbeat arrives over the tether; one with an undefined DSTATE is malformed (R427, R517). -/
def tethHbRx (f : Bytes) (s : State) : State :=
  if !paired s || !s.par.tethUp then s
  else if !tethGood 28 f || leAt f 2 2 != 0 || decide (7 < byteAt f 8) then tethDrop s
  else tethHb ((f.drop 6).take 28) s

/-- A network heartbeat is valid (R428, R517). -/
def netHbValid (s : State) (d : Bytes) : Bool :=
  match hbKey s with
  | none => false
  | some k =>
    decide (d.length = 56) && decide (beAt d 0 2 = 0x5048) && decide (byteAt d 2 = 1) && decide (byteAt d 5 ≤ 7)
      && (d.drop 40 == (hmac k.key (d.take 40)).take 16)
      && (s.par.hbBoot != some (BitVec.ofNat 64 (beAt d 24 8)) || decide (s.par.hbSeq < beAt d 32 8))

/-- A network heartbeat arrives (R428, R429). -/
def netHbRx (d : Bytes) (s : State) : State :=
  if !paired s then s
  else if !netHbValid s d then mPar (fun p => { p with cntNMiss := satAdd 16 p.cntNMiss 1 }) s
  else
    let s := pathBack 1 (mPar (fun p => { p with nMiss := false, hbBoot := some (BitVec.ofNat 64 (beAt d 24 8)), hbSeq := beAt d 32 8 }) s)
    hbTake (byteAt d 3) (byteAt d 4) (byteAt d 5) (beAt d 8 4) s

/-- A path misses (R429, R430). -/
def pathMissed (k : Nat) (otherMissed : Bool) (s : State) : State :=
  if !otherMissed then faultErr Err.pathMiss [0, 0, 0, 0, k] s
  else if s.par.hitchIn then spliceTry 3 s
  else s

/-- The standby enters a nozzle change of the active (R420). -/
def tethNozzle (noz : Nat) (e : BitVec 64) (lc : Nat) (s : State) : State :=
  if 262144 ≤ noz then s
  else match nextLc s (nozPort noz) with
    | some n =>
      if lcDiff lc n < 0 then
        let p := nozPort noz
        let s := faultErr Err.parUpdLate [] (mPar (fun r => { r with updLate := (p, 256) :: r.updLate.filter (fun x => x.1 != p) }) s)
        nzSubmit ⟨noz, .entry e, some n, false⟩ s
      else nzSubmit ⟨noz, .entry e, some lc, false⟩ s
    | none => nzSubmit ⟨noz, .entry e, none, false⟩ s

/-- NZL_CHANGE (R420, R425, R435): a rejoiner holds a change of a word not yet copied. -/
def tethNzlBody (b : Bytes) (s : State) : State :=
  let noz := leAt b 0 4
  let e := BitVec.ofNat 64 (leAt b 4 8)
  let lc := leAt b 12 5
  if !isStandby s then s
  else if s.par.role = 3 ∧ s.par.copyPos ≤ 8 * noz then mPar (fun p => { p with heldNzl := p.heldNzl ++ [(noz, e, lc)] }) s
  else tethNozzle noz e lc s

/-- The trigger of some port at or beyond `pos`, in 1/65 536 count, has been released. -/
def releasedBeyond (s : State) (pos : Int) : Bool :=
  match s.fir.grid with
  | none => false
  | some gr => (geoPorts s.fir.geo).any (fun p => (firPort s p).first.isSome && (firPort s p).isOpen
      && atOrBeyond s.fir.geo (trOf s.fir.geo gr p ((firPort s p).kr - 1)) pos)

/-- A forwarded road-count request; one already behind is taken at once (R417). -/
def tethRoad (rc : Int) (s : State) : State :=
  let s := mSys (fun y => { y with pendingKnot := some (.roadCount rc), pendingPos := some (rc * 65536), knotDue := none }) s
  if 0 < geoDir s.fir.geo * rcDiff (road s) rc then
    let s := mSys (fun y => { y with knotDue := some (rc * 65536) }) s
    if releasedBeyond s (rc * 65536) then mPar (fun p => { p with clear := true }) (faultErr Err.parKnotLate [] s) else s
  else knotReach s

/-- KNOT_REQ (R417, R425). -/
def tethKnotBody (b : Bytes) (s : State) : State :=
  if !isStandby s then s
  else match byteAt b 0 with
    | 1 => if byteAt b 1 < 32 then knotMs (byteAt b 1) s else tethDrop s
    | 2 => tethRoad (sgn 48 (leAt b 4 8)) s
    | 3 => knotWithdraw s
    | _ => tethDrop s

/-- KNOT_DONE (R418). -/
def tethDoneBody (b : Bytes) (s : State) : State :=
  if !isStandby s then s
  else
    let k : Word × Int × BitVec 32 := (w32 (leAt b 0 4), sgn 48 (leAt b 4 8), BitVec.ofNat 32 (leAt b 12 4))
    let s := mPar (fun p => { p with knotDone := some k }) s
    if k.1 = s.sys.epoch + 1 then s
    else if s.par.lastKnot = some k then s
    else parDiverge s

/-- STATE (R419). -/
def tethStateBody (b : Bytes) (s : State) : State :=
  if !isStandby s then s
  else if 1 ≤ byteAt b 0 ∧ byteAt b 0 ≤ 4 then ctlAt (byteAt b 0) (leAt b 4 5) s
  else tethDrop s

/-- YIELD (R430). -/
def tethYieldBody (b : Bytes) (s : State) : State :=
  if !isStandby s then s
  else if leAt b 0 5 = 0 then spliceTry 2 s
  else mPar (fun p => { p with pendYield := some (leAt b 0 5) }) s

/-- BULK: the rejoiner copies a block; with the last one it becomes standby (R435). -/
def tethBulkBody (b : Bytes) (s : State) : State :=
  let bk := byteAt b 0
  let o := leAt b 4 4
  if s.par.role ≠ 3 ∨ s.fir.grid.isSome then mPar (fun p => { p with copyPos := 0, heldNzl := [] }) s
  else if (bk ≠ 2 ∧ bk ≠ 3) ∨ bankSize bk < o + 1024 then tethDrop s
  else
    let n := (if bk = 2 then o else 2097152 + o) + 1024
    let s := mPar (fun p => { p with copyPos := n }) (bankPut bk o (b.drop 8) s)
    let ready := s.par.heldNzl.filter (fun x => decide (8 * x.1 < n))
    let s := mPar (fun p => { p with heldNzl := p.heldNzl.filter (fun x => !decide (8 * x.1 < n)) }) s
    let s := each (fun (x : Nat × BitVec 64 × Nat) s => tethNozzle x.1 x.2.1 x.2.2 s) ready s
    if n = 3145728 then evalDetours (mPar (fun p => { p with role := 2, joined := true, clear := true }) s) else s

/-- Everything unacknowledged goes out again in order (R426). -/
def tethResend (s : State) : State :=
  let s := mPar (fun p => { p with
    cntResend := p.cntResend + BitVec.ofNat 32 p.unacked.length, unacked := p.unacked.map (fun m => (m.1, s.now, m.2.2)) }) s
  each (fun m s => emit (tethOut (tethFrame (byteAt m.2.2 0) m.1 (m.2.2.drop 1))) s) s.par.unacked s

/-- A resynchronisation: both lanes return to POLL (R423). -/
def tethResync (s : State) : State :=
  let s := notice Err.tetherResync [] (mPar (fun p => { p with
    tethUp := false, skew := 0, cntResync := p.cntResync + 1, lanes := p.lanes.map (fun t => { t with st := .poll, waiting := false }) }) s)
  each (fun l s => tethTrain l false s) [0, 1] s

/-- HITCH_IN_N is accepted as asserted: a holder releases and becomes standby (R407, R411, R412). -/
def hitchInOn (s : State) : State :=
  let held := s.par.hitchOut
  let quiet := s.par.yieldSent || s.dbg.halted
  let s := mPar (fun p => { p with hitchIn := true, hitchAt := some s.now }) s
  if !paired s || !held then s
  else
    let s := mPar (fun p => { p with role := 2, joined := true, spliceWait := [], pendSplice := none }) (hitchRelease s)
    advicePins (if quiet then notice Err.yielded [] s else faultErr Err.hitchTaken [] s)

/-- HITCH_IN_N is accepted as released (R407, R430). -/
def hitchInOff (s : State) : State := spliceTry 1 (mPar (fun p => { p with hitchIn := false, hitchAt := some s.now }) s)

/-- The affected lines of a port: struck after the DLC of the last heartbeat and before the first strike as holder (R433;
log 25). -/
def spliceRange (s : State) (p : Nat) : Option (Nat × Nat) :=
  if !s.fir.everGrid then none
  else
    let last := (firPort s p).lastLc
    match s.par.peerDlc with
    | some d => if 0 < lcDiff last d then some ((d + 1) % 2 ^ 40, last) else none
    | none => some (last, last)

/-- The splice (R431, R433, R437). -/
def spliceNow (code : Nat) (s : State) : State :=
  let lc := (firPort s (refPort s)).lastLc
  let s := hitchAssert s
  let s := mPar (fun p => { p with
    splices := p.splices + 1, role := 1, pendSplice := none, pendYield := none, lastCode := code, lastLc := lc,
    spliceWait := geoPorts s.fir.geo }) s
  let s := notice Err.splice [code, lc % 2 ^ 32, lc / 2 ^ 32] (advicePins s)
  each (fun p s => match spliceRange s p with
    | some (a, b) => raise (if code = 2 then .notice else .fault) Err.spliceLines ([p] ++ arg64 a ++ arg64 b) s
    | none => s) (geoPorts s.fir.geo) s

/-- No valid heartbeat or HITCH_IN_N change within the last 10 ms. -/
def olderThan10 (s : State) (t : Option Nat) : Bool := match t with | some x => decide (x + ms 10 ≤ s.now) | none => true

/-- A valid heartbeat has arrived within the last 10 ms (R409). -/
def hbRecent (s : State) : Bool := !olderThan10 s s.par.hbAt

/-- The first role, at entry to Ready (R407, R409, R410, R435). -/
def parEnter (s : State) : State :=
  if !paired s then advicePins (hitchAssert s)
  else
    let free := !s.par.hitchIn && olderThan10 s s.par.hitchAt
    let takes := fun (s : State) => advicePins (hitchAssert (mPar (fun p => { p with role := 1 }) s))
    let joins := fun (s : State) => mPar (fun p => { p with role := 3, joined := false, copyPos := 0, heldNzl := [] }) s
    if !s.par.strapB then (if free && !(hbRecent s && s.par.peerHold) then takes s else joins s)
    else if hbRecent s then
      (if s.par.peerState = 2 then mPar (fun p => { p with role := 2, joined := true }) s else joins s)
    else if free then notice Err.splice [5, 0] (takes (mPar (fun p => { p with lastCode := 5, lastLc := 0 }) s))
    else joins s

/-- The first line count from `b` on, modulo 2^40, with the low 32 bits `a` (R431). -/
def yieldLine (b a : Nat) : Nat := (b + (a + 2 ^ 40 - b) % 2 ^ 32) % 2 ^ 40

/-- RMP COMMAND YIELD (R431): RESULT code and effect. -/
def opYield (arg : Nat) (s : State) : Nat × State :=
  let go := fun (lc : Nat) => (0, mPar (fun p => { p with yieldSent := true }) (tetherSend 6 (leBytes 8 lc) s))
  let legal := match s.sys.st with | .ready => true | .printing => true | .held => true | _ => false
  if !(isActive s && s.par.peerReady && legal) then (5, s)
  else if arg = 0 then go 0
  else match leadLc s with
    | none => (5, s)
    | some b =>
      let l := yieldLine b arg
      if 2 ^ 31 < (l + 2 ^ 40 - b) % 2 ^ 40 then (2, s) else go l

/-- A write to PAR_CNT_CLR (R438). -/
def opParClr (v : Word) (s : State) : State :=
  if bit v 0 then mPar (fun p => { p with cntResend := 0, cntCrc := 0, cntResync := 0, cntTMiss := 0, cntNMiss := 0 }) s else s

/-- A KEEP feed leaves its range (R436). -/
def feedLost (b : Bool) (s : State) : State :=
  let s := mKeep (fun k => { k with feedA := k.feedA && b, feedB := k.feedB && !b, feedLoss := true }) s
  if s.sys.st = .cold then s else faultErr Err.keepFeed [0, 0, 0, 0, b2n b 0] s

/-- A KEEP feed is back in range (R485). -/
def feedBack (b : Bool) (s : State) : State :=
  endFault Err.keepFeed (fun a => nth a 4 0 == b2n b 0)
    (mKeep (fun k => { k with feedA := k.feedA || !b, feedB := k.feedB || b }) s)

/-- A frame spells a tether message of type `ty`. -/
def tethIs (ty : Nat) (f : Bytes) : Bool := decide (10 ≤ f.length) && byteAt f 0 == ty

/-- TETHER_HEARTBEAT_SEND (R427). -/
def execTetherHeartbeatSend (s : State) : Host.Outcome State Fault Refusal :=
  event (paired s && s.par.tethUp) "TETHER_HEARTBEAT_SEND" hbSend s

/-- TETHER_HEARTBEAT_RX (R421, R426, R427, R429, R430). -/
def execTetherHeartbeatRx (f : Bytes) (s : State) : Host.Outcome State Fault Refusal :=
  spelled (tethIs 1 f) "TETHER_HEARTBEAT_RX" (tethHbRx f) s

/-- NET_HEARTBEAT_RX (R428 to R430). -/
def execNetHeartbeatRx (rx : Arrival) (d : Bytes) (s : State) : Host.Outcome State Fault Refusal :=
  spelled (rxUdp rx (decide (rx.frame.ether = .ipv6))) "NET_HEARTBEAT_RX"
    (rxFrame rx (fun s => doIf (datagramFor s rx (decide (rx.frame.ether = .ipv6)) (hbPort s)) (netHbRx d) s)) s

/-- TETHER_PATH_MISS (R429, R430). -/
def execTetherPathMiss (s : State) : Host.Outcome State Fault Refusal :=
  event (paired s && !s.par.tMiss) "TETHER_PATH_MISS"
    (fun s => pathMissed 0 s.par.nMiss (mPar (fun p => { p with tMiss := true, cntTMiss := satAdd 16 p.cntTMiss 1 }) s)) s

/-- NET_PATH_MISS (R429, R430). -/
def execNetPathMiss (s : State) : Host.Outcome State Fault Refusal :=
  event (paired s && !s.par.nMiss) "NET_PATH_MISS"
    (fun s => pathMissed 1 s.par.tMiss (mPar (fun p => { p with nMiss := true, cntNMiss := satAdd 16 p.cntNMiss 1 }) s)) s

/-- TETHER_NZL_CHANGE (R420). -/
def execTetherNzlChange (f : Bytes) (s : State) : Host.Outcome State Fault Refusal :=
  spelled (tethIs 2 f) "TETHER_NZL_CHANGE" (tethRx 20 f tethNzlBody) s

/-- TETHER_KNOT_REQ (R417). -/
def execTetherKnotReq (f : Bytes) (s : State) : Host.Outcome State Fault Refusal :=
  spelled (tethIs 3 f) "TETHER_KNOT_REQ" (tethRx 12 f tethKnotBody) s

/-- TETHER_KNOT_DONE (R418). -/
def execTetherKnotDone (f : Bytes) (s : State) : Host.Outcome State Fault Refusal :=
  spelled (tethIs 4 f) "TETHER_KNOT_DONE" (tethRx 16 f tethDoneBody) s

/-- TETHER_STATE (R419). -/
def execTetherState (f : Bytes) (s : State) : Host.Outcome State Fault Refusal :=
  spelled (tethIs 5 f) "TETHER_STATE" (tethRx 12 f tethStateBody) s

/-- TETHER_YIELD (R430). -/
def execTetherYield (f : Bytes) (s : State) : Host.Outcome State Fault Refusal :=
  spelled (tethIs 6 f) "TETHER_YIELD" (tethRx 8 f tethYieldBody) s

/-- TETHER_BULK (R435). -/
def execTetherBulk (f : Bytes) (s : State) : Host.Outcome State Fault Refusal :=
  spelled (tethIs 7 f) "TETHER_BULK" (tethRx 1032 f tethBulkBody) s

/-- A message has been unacknowledged for 30 µs; it is the first of those unacknowledged, which stand in the order of sending (R426). -/
def tethOverdue (s : State) : Bool := s.par.unacked.any (fun m => decide (m.2.1 + us 30 ≤ s.now))

/-- TETHER_RESEND (R426). -/
def execTetherResend (s : State) : Host.Outcome State Fault Refusal :=
  event (s.par.tethUp && tethOverdue s) "TETHER_RESEND" tethResend s

/-- TETHER_RESYNC (R423). -/
def execTetherResync (s : State) : Host.Outcome State Fault Refusal := event s.par.tethUp "TETHER_RESYNC" tethResync s

/-- HITCH_IN_ASSERT (R411, R412). -/
def execHitchInAssert (s : State) : Host.Outcome State Fault Refusal := always hitchInOn s

/-- HITCH_IN_RELEASE (R411, R430). -/
def execHitchInRelease (s : State) : Host.Outcome State Fault Refusal := always hitchInOff s

/-- SPLICE (R431, R433): a trigger's condition has held. -/
def execSplice (s : State) : Host.Outcome State Fault Refusal :=
  event (isStandby s && s.par.pendSplice.isSome) "SPLICE"
    (fun s => match s.par.pendSplice with | some c => spliceNow c s | none => s) s

/-- REJOIN_COPY_START (R435). -/
def execRejoinCopyStart (s : State) : Host.Outcome State Fault Refusal :=
  event (isActive s && decide (s.sys.st = .ready) && s.fir.grid.isNone && s.par.tethUp && decide (s.par.peerRole = 3) && !s.par.copying)
    "REJOIN_COPY_START" (fun s => copyNext (mPar (fun p => { p with copying := true, copyPos := 0 }) s)) s

/-- CORE_WATCH_EXPIRE (R436): outside a Waypost halt. -/
def execCoreWatchExpire (s : State) : Host.Outcome State Fault Refusal :=
  event (decide (s.sys.st ≠ .cold) && !s.dbg.halted) "CORE_WATCH_EXPIRE"
    (fun s => hitchRelease (mKeep (fun k => { k with coreWatch := true, coreLost := true }) s)) s

/-- KEEP_FEED_LOSS (R436). -/
def execKeepFeedLoss (feedB : Bool) (s : State) : Host.Outcome State Fault Refusal := always (feedLost feedB) s

/-- KEEP_BROWNOUT (R436). -/
def execKeepBrownout (s : State) : Host.Outcome State Fault Refusal := always hitchRelease s

/-- KEEP_FEED_RETURN (R436, R485). -/
def execKeepFeedReturn (feedB : Bool) (s : State) : Host.Outcome State Fault Refusal := always (feedBack feedB) s

end Sys2Proof.Machine
end

