-- ==== Sys2Proof/Machine/Ptp.lean ====
section
/-! DEFINITION. The PTP commands (14_network_time R381 to R393): stamps, foreign masters, path delay, the servo, device
time and FIRE discipline. Message layouts are those of IEEE 1588-2019 (log 35). -/

namespace Sys2Proof.Machine

/-- A register of domain `d` (R405). -/
def ptpReg (s : State) (d off : Nat) : Word := regVal s (base 3 + 0x100 + 0x80 * d + off)

/-- A domain is enabled. -/
def ptpEn (s : State) (d : Nat) : Bool := bit (ptpReg s d 0) 31

/-- A domain measures peer delay. -/
def ptpP2p (s : State) (d : Nat) : Bool := bit (ptpReg s d 0) 30

/-- A domain takes PTP traffic on a port. -/
def ptpOnPort (s : State) (d np : Nat) : Bool := bit (ptpReg s d 0) (26 + np)

/-- The TRANSPORT code of a transport (R405). -/
def transCode : PtpTransport → Nat
  | .l2 => 0
  | .ipv4 => 1
  | .ipv6 => 2

/-- The transport of a domain (R385, R405). -/
def transOf (s : State) (d : Nat) : PtpTransport :=
  match bits (ptpReg s d 0) 29 28 with | 1 => .ipv4 | 2 => .ipv6 | _ => .l2

/-- An interval of 2^l s in the unit of `now`. -/
def intvTime (l : Int) : Nat := if 0 ≤ l then ms 1000 * 2 ^ l.toNat else ms 1000 / 2 ^ (-l).toNat

/-- The receive latency of a port's mode in 10 ps (R383). -/
def rxLatency (s : State) (np : Nat) : Int :=
  match netMode s np with
  | 1 => 21200
  | 2 => 9220
  | _ => if bit (regVal s (base 2 + 0x100 + 0x80 * np)) 30 then 11872 else 3680

/-- The transmit latency of a port's mode in 10 ps (R383). -/
def txLatency (s : State) (np : Nat) : Int :=
  match netMode s np with
  | 1 => 18400
  | 2 => 7860
  | _ => if bit (regVal s (base 2 + 0x100 + 0x80 * np)) 30 then 3940 else 3140

/-- NET_PORTn_TSADJ (R404). -/
def tsAdj (s : State) (np : Nat) : Word := regVal s (base 2 + 0x108 + 0x80 * np)

/-- A counter value moved by some 10 ps, in 2^-16 ns, truncated downwards (log 36). -/
def stampAt (t : Nat) (moved : Int) : Int := ((t : Int) * 100 + moved * 2 ^ 32) / 6553600

/-- The receive stamp of a frame that arrives now, referred to the balls (R383). -/
def rxStamp (s : State) (d np : Nat) : Int := stampAt (dom s d).t (-(rxLatency s np + sbits (tsAdj s np) 15 0))

/-- The transmit stamp of a frame sent now, referred to the balls (R383). -/
def txStamp (s : State) (d np : Nat) : Int := stampAt (dom s d).t (txLatency s np + sbits (tsAdj s np) 31 16)

/-- The port identity of the device on a port: EUI-64 of its MAC and the port number (R387). -/
def portIdentity (s : State) (np : Nat) : Nat :=
  let m := (netIdPort s np).mac.toNat
  ((m / 2 ^ 24 * 2 ^ 16 + 0xFFFE) * 2 ^ 24 + m % 2 ^ 24) * 65536 + (np + 1)

/-- messageType. -/
def ptpType (d : Bytes) : Nat := byteAt d 0 % 16
/-- domainNumber. -/
def ptpDomain (d : Bytes) : Nat := byteAt d 4
/-- twoStepFlag. -/
def ptpTwoStep (d : Bytes) : Bool := byteAt d 6 / 2 % 2 == 1
/-- correctionField in 2^-16 ns. -/
def ptpCorr (d : Bytes) : Int := sgn 64 (beAt d 8 8)
/-- sourcePortIdentity. -/
def ptpSource (d : Bytes) : Nat := beAt d 20 10
/-- sequenceId. -/
def ptpSeq (d : Bytes) : Nat := beAt d 30 2
/-- logMessageInterval. -/
def ptpLog (d : Bytes) : Int := sgn 8 (byteAt d 33)
/-- The timestamp of a message's body in 2^-16 ns. -/
def ptpTime (d : Bytes) : Int := ((beAt d 34 6 * 1000000000 + beAt d 40 4 : Nat) : Int) * 65536
/-- requestingPortIdentity of a response. -/
def ptpRequester (d : Bytes) : Nat := beAt d 44 10

/-- The least length of a message of a type. -/
def ptpMinLen (ty : Nat) : Nat :=
  if ty = 0 ∨ ty = 1 ∨ ty = 8 then 44 else if ty = 11 then 64 else if ty = 2 ∨ ty = 3 ∨ ty = 9 ∨ ty = 10 then 54 else 34

/-- A message of type `ty` that is long enough. -/
def ptpIs (ty : Nat) (d : Bytes) : Bool := decide (ptpMinLen ty ≤ d.length) && ptpType d == ty

/-- Over UDP, event messages (types 0 to 3) come to port 319 and general messages to port 320 (R385). -/
def ptpPortOk (rx : Arrival) (tr : PtpTransport) (d : Bytes) : Bool :=
  decide (tr = .l2) || decide (rx.frame.udp = some (if ptpType d < 4 then 319 else 320))

/-- A frame carries a message of type `ty` over a transport (R385). -/
def ptpArrival (rx : Arrival) (tr : PtpTransport) (ty : Nat) (d : Bytes) : Bool := rxPtp rx tr && ptpPortOk rx tr d && ptpIs ty d

/-- The enabled domains that a message is for (R385). -/
def ptpDomains (s : State) (np : Nat) (tr : PtpTransport) (d : Bytes) : List Nat :=
  if byteAt d 1 % 16 ≠ 2 ∨ d.length < ptpMinLen (ptpType d) then []
  else [0, 1].filter (fun n => ptpEn s n && ptpOnPort s n np && decide (bits (ptpReg s n 0) 23 16 = ptpDomain d)
    && decide (bits (ptpReg s n 0) 29 28 = transCode tr))

/-- A message is ignored and counted (R385, R387). -/
def ptpIgnore (d : Nat) (s : State) : State := mDom d (fun m => { m with cntIgn := m.cntIgn + 1 }) s

/-- The code of a servo state (R390). -/
def servoCode : Servo → Nat
  | .disabled => 0 | .listen => 1 | .acquire => 2 | .track => 3 | .holdover => 4

/-- Nom of a domain in 2^-32 ns. -/
def ptpNom (s : State) (d : Nat) : Nat := bits (ptpReg s d 0x18) 7 0 * 2 ^ 32 + (ptpReg s d 0x1C).toNat

/-- MAXADJ in 2^-16 ppb. -/
def ptpMaxAdj (s : State) (d : Nat) : Int := ((bits (ptpReg s d 4) 19 0 * 65536 : Nat) : Int)

/-- Put a correction into force: the increment is truncated towards zero (R391). -/
def servoAdj (d : Nat) (adj : Int) (s : State) : State :=
  let nom := ptpNom s d
  mDom d (fun m => { m with adj := adj, inc := ((nom : Int) + Int.tdiv ((nom : Int) * adj) 65536000000000).toNat }) s

/-- The servo changes state (R390): the record of R403, what ACQUIRE and HOLDOVER start, PTP_HOLDOVER's end in TRACK. -/
def setServo (d : Nat) (v : Servo) (s : State) : State :=
  let old := (dom s d).servo
  if old = v then s
  else
    let s := notice Err.ptpState [] (mDom d (fun m => { m with servo := v, locked := 0 }) s)
    let s := subRecord 4 (beBytes 1 d ++ beBytes 1 (servoCode old) ++ beBytes 1 (servoCode v) ++ beBytes 1 0) s
    match v with
    | .acquire => mDom d (fun m => { m with dFirst := true, pdFirst := Vector.replicate 2 true }) s
    | .holdover => faultErr Err.ptpHoldover [0, 0, 0, 0, d] (servoAdj d (-(dom s d).i) s)
    | .track => endFault Err.ptpHoldover (fun a => nth a 4 0 == d) s
    | _ => s

/-- Whether foreign master `a` is better than `b` (R386: the data set comparison of IEEE 1588-2019). -/
def betterMaster (a b : Foreign) : Bool :=
  let lt (x y : List Nat) : Bool := (List.zip x y).foldr (fun p r => decide (p.1 < p.2) || (p.1 == p.2 && r)) false
  if a.gm = b.gm then lt [a.steps, a.ident, a.port] [b.steps, b.ident, b.port]
  else lt [a.prio1, a.cls, a.acc, a.var, a.prio2, a.gm] [b.prio1, b.cls, b.acc, b.var, b.prio2, b.gm]

/-- A master is qualified: 2 Announces within 4 intervals came (R386). -/
def qualified (f : Foreign) : Bool := decide (2 ≤ f.count)

/-- The best of the qualified masters. -/
def bestMaster (l : List Foreign) : Option Foreign :=
  match l.filter qualified with
  | [] => none
  | a :: r => some (r.foldl (fun b f => if betterMaster f b then f else b) a)

/-- The selected master, while it is in the table (R386). -/
def selectedMaster (m : PtpDom) : Option (Nat × Nat) :=
  match m.master with
  | some x => if m.foreign.any (fun f => f.ident == x.1 && f.port == x.2) then some x else none
  | none => none

/-- Select among the qualified masters (R386, R390). -/
def selectMaster (d : Nat) (s : State) : State :=
  match bestMaster (dom s d).foreign with
  | none => s
  | some f =>
    if (dom s d).master = some (f.ident, f.port) then s
    else
      setServo d .acquire (notice Err.ptpMaster [] (mDom d (fun m =>
        { m with master := some (f.ident, f.port), pendSync := none, sync := none, pendReq := none, drqL := none }) s))

/-- The table with its stalest entry removed when it is full (R386). -/
def foreignRoom (l : List Foreign) : List Foreign :=
  if l.length < 4 then l
  else match l with
    | [] => []
    | a :: r =>
      let old := r.foldl (fun b f => if f.at_ < b.at_ then f else b) a
      l.filter (fun f => !(f.ident == old.ident && f.port == old.port))

/-- An Announce (R386). -/
def announceRx (dm np : Nat) (d : Bytes) (s : State) : State :=
  let id := ptpSource d
  let l := ptpLog d
  let was := (dom s dm).foreign.find? (fun f => f.ident == id && f.port == np)
  let recent := match was with
    | some f => s.now :: f.times.filter (fun t => decide (s.now ≤ t + 4 * intvTime l))
    | none => [s.now]
  let cnt := match was with | some f => if 2 ≤ f.count then 2 else recent.length | none => 1
  let f : Foreign :=
    { ident := id, port := np, count := cnt, times := recent.take 4, prio1 := byteAt d 47, cls := byteAt d 48,
      acc := byteAt d 49, var := beAt d 50 2, prio2 := byteAt d 52, gm := beAt d 53 8, steps := beAt d 61 2, logIntv := l,
      at_ := s.now }
  selectMaster dm (mDom dm (fun m =>
    { m with foreign := (match was with
        | some _ => modFirst (fun x => x.ident == id && x.port == np) (fun _ => f) m.foreign
        | none => foreignRoom m.foreign ++ [f]) }) s)

/-- Whether a message comes from the selected master on its port (R387). -/
def fromMaster (s : State) (dm np : Nat) (d : Bytes) : Bool := selectedMaster (dom s dm) == some (ptpSource d, np)

/-- A path-delay sample is filtered, below 0 discarded and counted (R388; log 37). -/
def delaySample (dm : Nat) (np : Option Nat) (p : Int) (s : State) : State :=
  if p < 0 then ptpIgnore dm s
  else
    let flt (first : Bool) (d : Int) : Int := if first then p else d + (p - d) >>> bits (ptpReg s dm 4) 23 20
    match np with
    | none => mDom dm (fun m => { m with d := flt m.dFirst m.d, dFirst := false }) s
    | some n => mDom dm (fun m =>
        { m with pd := vmod m.pd n (flt (vget m.pdFirst n true)), pdFirst := vmod m.pdFirst n (fun _ => false) }) s

/-- The offset of a Sync held as s64; one that does not fit is a free value (R389; log 6). -/
def heldOffset (o : Int) : Int :=
  if -(2 ^ 63) ≤ o ∧ o < 2 ^ 63 then o else (Config.wideOffset o).toInt

/-- The correction of R391 without a step. -/
def servoCorrect (dm : Nat) (o l : Int) (s : State) : State :=
  let v := ptpReg s dm 4
  let m := ptpMaxAdj s dm
  let r : Int := if l < 0 then o * 2 ^ (-l).toNat else o >>> l.toNat
  let i := clampInt (-m) m ((dom s dm).i + r >>> bits v 27 24)
  servoAdj dm (clampInt (-m) m (-(r >>> bits v 31 28 + i))) (mDom dm (fun x => { x with i := i }) s)

/-- STEP in 2^-16 ns. -/
def ptpStepLimit (s : State) (dm : Nat) : Int := ((bits (ptpReg s dm 8) 29 0 * 65536 : Nat) : Int)

/-- LOCKTHR in 2^-16 ns. -/
def ptpLockThr (s : State) (dm : Nat) : Int := ((bits (ptpReg s dm 0xC) 15 0 * 65536 : Nat) : Int)

/-- An update in ACQUIRE counts towards TRACK (R390). -/
def lockCount (dm : Nat) (o : Int) (s : State) : State :=
  if (dom s dm).servo ≠ .acquire then s
  else
    let n := if (o.natAbs : Int) ≤ ptpLockThr s dm then (dom s dm).locked + 1 else 0
    let s := mDom dm (fun m => { m with locked := n }) s
    if 8 ≤ n then setServo dm .track s else s

/-- A usable Sync: offset, servo, and the count towards TRACK (R389 to R391; log 38 on the delay that a step leaves). -/
def syncUse (dm np : Nat) (t1 t2 c l : Int) (s : State) : State :=
  let m := dom s dm
  let dly := if ptpP2p s dm then vget m.pd np 0 else m.d
  let o := heldOffset (t2 - t1 - dly - c)
  let s := mDom dm (fun x => { x with ofs := o, cntSync := x.cntSync + 1, sync := some (t2 - t1 - c), pendSync := none }) s
  let s := if m.servo = .holdover then setServo dm .track s else s
  if (dom s dm).servo = .acquire ∧ ptpStepLimit s dm < (o.natAbs : Int) then
    notice Err.ptpStep [] (mDom dm (fun x =>
      { x with t := (((x.t : Int) - o * 65536) % (timeMod : Int)).toNat, locked := 0, cntStep := x.cntStep + 1, sync := none,
               pendReq := none, pendPeer := Vector.replicate 2 none }) s)
  else
    let s := servoCorrect dm o l s
    if (dom s dm).servo = .track ∧ ptpStepLimit s dm < (o.natAbs : Int) then setServo dm .acquire s
    else lockCount dm o s

/-- A Sync (R387, R389). -/
def syncRx (dm np : Nat) (d : Bytes) (s : State) : State :=
  if !fromMaster s dm np d then ptpIgnore dm s
  else if ptpTwoStep d then
    mDom dm (fun m => { m with pendSync := some ⟨ptpSeq d, rxStamp s dm np, ptpCorr d, ptpLog d, np⟩ }) s
  else syncUse dm np (ptpTime d) (rxStamp s dm np) (ptpCorr d) (ptpLog d) s

/-- A Follow_Up (R387, R389). -/
def followUpRx (dm np : Nat) (d : Bytes) (s : State) : State :=
  match (dom s dm).pendSync with
  | some p =>
    if fromMaster s dm np d && p.seq == ptpSeq d && p.port == np then
      syncUse dm np (ptpTime d) p.t2 (p.corr + ptpCorr d) p.logIntv s
    else ptpIgnore dm s
  | none => ptpIgnore dm s

/-- A Delay_Resp (R387, R388). -/
def delayRespRx (dm np : Nat) (d : Bytes) (s : State) : State :=
  if !fromMaster s dm np d then ptpIgnore dm s
  else if ptpRequester d ≠ portIdentity s np then s
  else match (dom s dm).pendReq with
    | some q =>
      if q.seq = ptpSeq d then
        let s := mDom dm (fun m => { m with pendReq := none, drqL := some (ptpLog d) }) s
        match (dom s dm).sync with
        | some ms => delaySample dm none ((ms + (ptpTime d - q.t3) - ptpCorr d) / 2) s
        | none => s
      else ptpIgnore dm s
    | none => ptpIgnore dm s

/-- The 10 bytes of a timestamp (R384). -/
def ptpStampBytes (t : Int) : Bytes :=
  let ns := (t / 65536).toNat
  beBytes 6 (ns / 1000000000) ++ beBytes 4 (ns % 1000000000)

/-- A PTP message of the device (R384, R385). -/
def ptpFrame (s : State) (dm np ty len seq : Nat) (corr : Int) (ctl : Nat) (body : Bytes) : Bytes :=
  beBytes 1 ty ++ beBytes 1 2 ++ beBytes 2 len ++ beBytes 1 (bits (ptpReg s dm 0) 23 16) ++ beBytes 1 0 ++ beBytes 2 0
    ++ beBytes 8 (corr % 2 ^ 64).toNat ++ beBytes 4 0 ++ beBytes 10 (portIdentity s np) ++ beBytes 2 seq ++ beBytes 1 ctl
    ++ beBytes 1 0x7F ++ body

/-- The sum of the 16-bit words of some bytes, as the UDP checksum adds them. -/
def sum16 : Bytes → Nat
  | [] => 0
  | [a] => a.toNat * 256
  | a :: b :: r => a.toNat * 256 + b.toNat + sum16 r

/-- The two bytes that a stamped message carries after it under IPv6: they take the stamp out of the checksum again, which stays that of the
message before the stamp, `d0` (R384; log 137). -/
def ptpTail (tr : PtpTransport) (d0 d : Bytes) : Bytes :=
  match tr with
  | .ipv6 => beBytes 2 ((sum16 d0 + (65535 - sum16 d % 65535)) % 65535)
  | _ => []

/-- Send a PTP message, in which the stamp replaces what stood in `d0` (R384, R404). -/
def ptpSend (np dm : Nat) (back : Option Via) (d0 d : Bytes) (s : State) : State :=
  let tr := transOf s dm
  let peer := decide (ptpType d = 2 ∨ ptpType d = 3 ∨ ptpType d = 10)
  let group := match tr with
    | .l2 => ptpMac peer
    | .ipv4 => groupMac4 (ptpGroup4 peer)
    | .ipv6 => groupMac6 (ptpGroup6 peer)
  let v : Via := match back with | some v => v | none => ⟨np, group⟩
  emit (.ptp (wireOf s v 7 (decide (tr ≠ .l2))) tr dm (d ++ ptpTail tr d0 d)) (countTx np s)

/-- A neighbour's Pdelay_Req is answered in one step (R384). -/
def pdelayReqRx (dm : Nat) (v : Via) (d : Bytes) (s : State) : State :=
  if !ptpP2p s dm then ptpIgnore dm s
  else
    let np := v.np
    let resp := fun corr => ptpFrame s dm np 3 54 (ptpSeq d) corr 5 (beBytes 10 0 ++ beBytes 10 (ptpSource d))
    ptpSend np dm (some v) (resp (ptpCorr d)) (resp (ptpCorr d + (txStamp s dm np - rxStamp s dm np))) s

/-- A Pdelay_Resp, one-step or to be completed by its Follow_Up (R388). -/
def pdelayRespRx (dm np : Nat) (d : Bytes) (s : State) : State :=
  match vget (dom s dm).pendPeer np none with
  | some q =>
    if q.seq = ptpSeq d ∧ ptpRequester d = portIdentity s np ∧ !q.waitFup then
      let t4 := rxStamp s dm np
      if ptpTwoStep d then
        mDom dm (fun m => { m with pendPeer := vmod m.pendPeer np (fun _ =>
          some { q with t4 := t4, rcpt := ptpTime d, corr := ptpCorr d, waitFup := true }) }) s
      else
        delaySample dm (some np) ((t4 - q.t3 - ptpCorr d) / 2)
          (mDom dm (fun m => { m with pendPeer := vmod m.pendPeer np (fun _ => none) }) s)
    else ptpIgnore dm s
  | none => ptpIgnore dm s

/-- A Pdelay_Resp_Follow_Up (R385, R388). -/
def pdelayFupRx (dm np : Nat) (d : Bytes) (s : State) : State :=
  match vget (dom s dm).pendPeer np none with
  | some q =>
    if q.seq = ptpSeq d ∧ ptpRequester d = portIdentity s np ∧ q.waitFup then
      delaySample dm (some np) ((q.t4 - q.t3 - (ptpTime d - q.rcpt) - q.corr - ptpCorr d) / 2)
        (mDom dm (fun m => { m with pendPeer := vmod m.pendPeer np (fun _ => none) }) s)
    else ptpIgnore dm s
  | none => ptpIgnore dm s

/-- A message in a domain it is for (R385). -/
def ptpMsg (dm : Nat) (v : Via) (d : Bytes) (s : State) : State :=
  match ptpType d with
  | 0 => syncRx dm v.np d s
  | 2 => pdelayReqRx dm v d s
  | 3 => pdelayRespRx dm v.np d s
  | 8 => followUpRx dm v.np d s
  | 9 => delayRespRx dm v.np d s
  | 10 => pdelayFupRx dm v.np d s
  | 11 => announceRx dm v.np d s
  | _ => ptpIgnore dm s

/-- A PTP message arrives (R385). -/
def ptpRx (rx : Arrival) (tr : PtpTransport) (d : Bytes) : State → State :=
  rxFrame rx (fun s => match ptpDomains s rx.port tr d with
    | [] => ptpIgnore 0 s
    | l => each (fun dm s => ptpMsg dm (backTo rx) d s) l s)

/-- A message is counted as ignored (R385, R387). -/
def ptpIgnored (rx : Arrival) (tr : PtpTransport) (d : Bytes) (s : State) : Bool :=
  let t := ptpRx rx tr d s
  decide ((dom t 0).cntIgn ≠ (dom s 0).cntIgn) || decide ((dom t 1).cntIgn ≠ (dom s 1).cntIgn)

/-- A master is lost (R386, R390). -/
def masterLost (dm : Nat) (f : Foreign) (s : State) : State :=
  let sel := selectedMaster (dom s dm) == some (f.ident, f.port)
  let s := mDom dm (fun m => { m with foreign := m.foreign.filter (fun x => !(x.ident == f.ident && x.port == f.port)) }) s
  if !sel then s
  else match (dom s dm).servo with
    | .track => setServo dm .holdover s
    | .acquire => setServo dm .listen (mDom dm (fun m => { m with master := none }) s)
    | _ => s

/-- Device time follows another domain without a step (R392). -/
def domSwitch (n : Nat) (s : State) : State :=
  if n = s.ptp.sel ∨ (!ptpEn s 0 && !ptpEn s 1) then s
  else
    let k : Int := ((devTime s : Int) - ((dom s n).t : Int)) / 65536
    notice Err.ptpSwitch [] (mPtp (fun p => { p with sel := n, k := k, kAcc := 0, swTicks := 0 }) s)

/-- A domain's EN or nominal increment as a write leaves it (R390). The first domain enabled makes the choice of PTP_SEL
take effect, which was 0 before (R392; log 44). -/
def opPtpDom (dm : Nat) (s : State) : State :=
  if !ptpEn s dm then (if (dom s dm).servo = .disabled then mDom dm (fun m => { m with inc := ptpNom s dm }) s else s)
  else if (dom s dm).servo = .disabled then
    doIf (!ptpEn s (1 - dm)) (domSwitch (bits (regVal s (base 3)) 0 0)) (setServo dm .listen s)
  else s

/-- A write to PTP_SEL (R392). -/
def opPtpSel (v : Word) (s : State) : State := domSwitch (bits v 0 0) (mPtp (fun p => { p with swTicks := 0 }) s)

/-- The automatic choice of domain at a tick: after 1 000 ticks (R392). -/
def autoSwitch (s : State) : State :=
  let other := 1 - s.ptp.sel
  if bit (regVal s (base 3)) 1 && decide ((dom s s.ptp.sel).servo ≠ .track) && decide ((dom s other).servo = .track) then
    (if 999 ≤ s.ptp.swTicks then domSwitch other s else mPtp (fun p => { p with swTicks := p.swTicks + 1 }) s)
  else mPtp (fun p => { p with swTicks := 0 }) s

/-- K moves towards 0 by at most SLEW ns per second, spread over the ticks (R392). -/
def slewK (s : State) : State :=
  if s.ptp.k = 0 then mPtp (fun p => { p with kAcc := 0 }) s
  else
    let acc := s.ptp.kAcc + bits (regVal s (base 3)) 31 16 * 65536
    let stp : Int := ((acc / 1000 : Nat) : Int)
    let k := s.ptp.k
    mPtp (fun p => { p with k := if 0 < k then max 0 (k - stp) else min 0 (k + stp), kAcc := acc % 1000 }) s

/-- FIRE discipline is on and the selected domain is in TRACK (R393). -/
def fireFollows (s : State) : Bool :=
  bit (regVal s (base 3 + 0x30)) 0 && decide ((dom s s.ptp.sel).servo = .track)

/-- The correction of FIRE_DISCIPLINE: `cycles` FIRE cycles fitted one second of device time (R393), in 1/16 ppb. -/
def fireAdjust (cycles : Nat) (s : State) : State :=
  if !fireFollows s then s
  else
    let want := s.ptp.fireCorr + clampInt (-160) 160 (-32 * ((cycles : Int) - 500000000))
    let at_ := decide (1600000 < want.natAbs)
    let s := if at_ && !s.ptp.fireLimit then faultErr Err.firePull [] s else s
    mPtp (fun p => { p with fireCorr := clampInt (-1600000) 1600000 want, fireLimit := at_ }) s

/-- The interval of a domain's delay requests, as the logarithm of seconds (R388): in E2E the larger of DRQMIN and logMessageInterval of the latest
Delay_Resp, in P2P PDLOG. -/
def reqLog (s : State) (d : Nat) : Int :=
  let v := ptpReg s d 0x14
  if ptpP2p s d then sbits v 15 8
  else match (dom s d).drqL with | some l => max l (sbits v 7 0) | none => sbits v 7 0

/-- The interval since a domain's latest delay request has passed (R388). -/
def reqDue (s : State) (d : Nat) : Bool :=
  match (dom s d).reqAt with | some t => decide (t + intvTime (reqLog s d) ≤ s.now) | none => true

/-- A Delay_Req is due (R384, R388). -/
def delayReqSend (dm : Nat) (s : State) : State :=
  match selectedMaster (dom s dm) with
  | none => s
  | some (_, np) =>
    let q := (dom s dm).reqSeq
    let t3 := txStamp s dm np
    let req := fun t => ptpFrame s dm np 1 44 q 0 1 (ptpStampBytes t)
    ptpSend np dm none (req 0) (req t3)
      (mDom dm (fun m => { m with reqSeq := (q + 1) % 65536, reqAt := some s.now, pendReq := some ⟨q, t3, np, 0, 0, 0, false⟩ }) s)

/-- A Pdelay_Req is due on each port of PORTS (R384, R388). -/
def pdelayReqSend (dm : Nat) (s : State) : State :=
  let q := (dom s dm).peerSeq
  each (fun np s =>
    if ptpOnPort s dm np then
      let t3 := txStamp s dm np
      let req := fun t => ptpFrame s dm np 2 54 q 0 5 (ptpStampBytes t ++ beBytes 10 0)
      ptpSend np dm none (req 0) (req t3)
        (mDom dm (fun m => { m with pendPeer := vmod m.pendPeer np (fun _ => some ⟨q, t3, np, 0, 0, 0, false⟩) }) s)
    else s) [0, 1] (mDom dm (fun m => { m with peerSeq := (q + 1) % 65536, reqAt := some s.now }) s)

/-- A read of a SECLO register captures its counter (R382). -/
def opPtpSnap (sel : TimeSel) (s : State) : State :=
  match sel with
  | .dom d => mDom d (fun m => { m with snap := m.t }) s
  | .device => mPtp (fun p => { p with snap := devTime s }) s

/-- A write to PTP_DOMn_CLR (R405). -/
def opPtpClr (dm : Nat) (v : Word) (s : State) : State :=
  if bit v 0 then mDom dm (fun m => { m with cntSync := 0, cntIgn := 0, cntStep := 0 }) s else s

/-- PTP_ANNOUNCE (R386). -/
def execPtpAnnounce (rx : Arrival) (tr : PtpTransport) (d : Bytes) (s : State) : Host.Outcome State Fault Refusal :=
  spelled (ptpArrival rx tr 11 d) "PTP_ANNOUNCE" (ptpRx rx tr d) s

/-- PTP_SYNC (R387, R389 to R391). -/
def execPtpSync (rx : Arrival) (tr : PtpTransport) (d : Bytes) (s : State) : Host.Outcome State Fault Refusal :=
  spelled (ptpArrival rx tr 0 d) "PTP_SYNC" (ptpRx rx tr d) s

/-- PTP_FOLLOW_UP (R387, R389 to R391). -/
def execPtpFollowUp (rx : Arrival) (tr : PtpTransport) (d : Bytes) (s : State) : Host.Outcome State Fault Refusal :=
  spelled (ptpArrival rx tr 8 d) "PTP_FOLLOW_UP" (ptpRx rx tr d) s

/-- PTP_DELAY_RESP (R387, R388). -/
def execPtpDelayResp (rx : Arrival) (tr : PtpTransport) (d : Bytes) (s : State) : Host.Outcome State Fault Refusal :=
  spelled (ptpArrival rx tr 9 d) "PTP_DELAY_RESP" (ptpRx rx tr d) s

/-- PTP_PDELAY_REQ (R384). -/
def execPtpPdelayReq (rx : Arrival) (tr : PtpTransport) (d : Bytes) (s : State) : Host.Outcome State Fault Refusal :=
  spelled (ptpArrival rx tr 2 d) "PTP_PDELAY_REQ" (ptpRx rx tr d) s

/-- PTP_PDELAY_RESP (R388). -/
def execPtpPdelayResp (rx : Arrival) (tr : PtpTransport) (d : Bytes) (s : State) : Host.Outcome State Fault Refusal :=
  spelled (ptpArrival rx tr 3 d) "PTP_PDELAY_RESP" (ptpRx rx tr d) s

/-- PTP_PDELAY_RESP_FOLLOW_UP (R385, R388). -/
def execPtpPdelayRespFollowUp (rx : Arrival) (tr : PtpTransport) (d : Bytes) (s : State) : Host.Outcome State Fault Refusal :=
  spelled (ptpArrival rx tr 10 d) "PTP_PDELAY_RESP_FOLLOW_UP" (ptpRx rx tr d) s

/-- PTP_IGNORED (R385, R387). -/
def execPtpIgnored (rx : Arrival) (tr : PtpTransport) (d : Bytes) (s : State) : Host.Outcome State Fault Refusal :=
  formed (rxPtp rx tr && ptpPortOk rx tr d) "PTP_IGNORED" (event (ptpIgnored rx tr d s) "PTP_IGNORED" (ptpRx rx tr d) s)

/-- PTP_DELAY_REQ_SEND (R384, R388). -/
def execPtpDelayReqSend (dm : Dom) (s : State) : Host.Outcome State Fault Refusal :=
  event (ptpEn s dm && !ptpP2p s dm && (selectedMaster (dom s dm)).isSome && reqDue s dm) "PTP_DELAY_REQ_SEND" (delayReqSend dm) s

/-- PTP_PDELAY_REQ_SEND (R384, R388). -/
def execPtpPdelayReqSend (dm : Dom) (s : State) : Host.Outcome State Fault Refusal :=
  event (ptpEn s dm && ptpP2p s dm && reqDue s dm) "PTP_PDELAY_REQ_SEND" (pdelayReqSend dm) s

/-- PTP_MASTER_TIMEOUT (R386). -/
def execPtpMasterTimeout (dm : Dom) (i : Fin 4) (s : State) : Host.Outcome State Fault Refusal :=
  event (decide (i.val < (dom s dm).foreign.length)) "PTP_MASTER_TIMEOUT"
    (fun s => match (dom s dm).foreign[i.val]? with | some f => masterLost dm f s | none => s) s

/-- PTP_FOLLOWUP_TIMEOUT (R387). -/
def execPtpFollowupTimeout (dm : Dom) (s : State) : Host.Outcome State Fault Refusal :=
  event (dom s dm).pendSync.isSome "PTP_FOLLOWUP_TIMEOUT" (mDom dm (fun m => { m with pendSync := none })) s

/-- PTP_SYNC_TIMEOUT (R390). -/
def execPtpSyncTimeout (dm : Dom) (s : State) : Host.Outcome State Fault Refusal :=
  event (decide ((dom s dm).servo = .track)) "PTP_SYNC_TIMEOUT" (setServo dm .holdover) s

/-- PTP_HOLDMAX (R390). -/
def execPtpHoldmax (dm : Dom) (s : State) : Host.Outcome State Fault Refusal :=
  event (decide ((dom s dm).servo = .holdover)) "PTP_HOLDMAX"
    (fun s => faultErr Err.ptpHoldover [0, 0, 0, 0, dm.val] (setServo dm .listen (mDom dm (fun m => { m with master := none }) s))) s

/-- FIRE_DISCIPLINE (R393). -/
def execFireDiscipline (cycles : Nat) (s : State) : Host.Outcome State Fault Refusal :=
  event (bit (regVal s (base 3 + 0x30)) 0) "FIRE_DISCIPLINE" (fireAdjust cycles) s

end Sys2Proof.Machine
end

