-- ==== Sys2Proof/Machine/Manage.lean ====
section
/-! DEFINITION. The management tick (R394), RMP messages as the device sends them (R395, R397), and subscriptions (R403). -/

namespace Sys2Proof.Machine

/-- Window and transmit sequence of a key (R397, R398). -/
def keyWin (s : State) (id : Nat) : KeyWin := vget s.mgt.wins id KeyWin.init

/-- Update them. -/
def mWin (id : Nat) (f : KeyWin → KeyWin) (s : State) : State := mMgt (fun m => { m with wins := vmod m.wins id f }) s

/-- An RMP message of the device with its TAG (R395). -/
def rmpSeal (s : State) (k : Key) (ty seq ref : Nat) (body : Bytes) : Bytes :=
  let h := beBytes 2 0x524D ++ beBytes 1 1 ++ beBytes 1 ty ++ beBytes 2 (48 + body.length) ++ beBytes 1 k.id ++ beBytes 1 0
    ++ beBytes 8 s.mgt.boot.toNat ++ beBytes 8 seq ++ beBytes 8 ref
  h ++ (hmac k.key (h ++ List.replicate 16 0 ++ body)).take 16 ++ body

/-- The whole records that fit in `room` bytes, at most `n` (R403). -/
def fitting : Nat → Nat → List Bytes → List Bytes
  | 0, _, _ => []
  | _ + 1, _, [] => []
  | n + 1, room, r :: l => if r.length ≤ room then r :: fitting n (room - r.length) l else []

/-- Send a subscription slot's EVENT (R403). -/
def eventSend (slot : Nat) (s : State) : State :=
  match vget s.mgt.subs slot none with
  | none => s
  | some b =>
    match rmpKey s b.key with
    | none => s
    | some k =>
      if b.queue.isEmpty then s
      else
        let recs := fitting 255 (1472 - 56) b.queue
        let q := (keyWin s b.key).txSeq + 1
        let body := beBytes 4 (b.evSeq + 1) ++ beBytes 2 b.lost ++ beBytes 1 recs.length ++ beBytes 1 0 ++ recs.flatten
        let upd (b : Sub) : Sub := { b with queue := b.queue.drop recs.length, lost := 0, evSeq := b.evSeq + 1 }
        let s := mWin b.key (fun w => { w with txSeq := q }) (mMgt (fun m => { m with subs := vmod m.subs slot (fun o => o.map upd) }) s)
        sendUnprompted 5 b.sess (rmpPort s) (rmpSeal s k 0x90 q 0 body) s

/-- A session's slot (R403). -/
def subSlot (s : State) (ss : Session) (key : Nat) : Option Nat :=
  (List.range 4).find? (fun i => match vget s.mgt.subs i none with | some b => b.sess == ss && b.key == key | none => false)

/-- SUBSCRIBE (R403): RESULT code, SLOT and effect. -/
def opSubscribe (ss : Session) (key mask lease : Nat) (s : State) : Nat × Nat × State :=
  let own := subSlot s ss key
  let put := fun (i : Nat) (o : Option Sub) => mMgt (fun m => { m with subs := vmod m.subs i (fun _ => o) }) s
  if lease = 0 then match own with
    | some i => (0, i, put i none)
    | none => (0, 0, s)
  else
    let until_ := s.now + ms 1000 * lease
    match own with
    | some i =>
      (0, i, mMgt (fun m => { m with subs := vmod m.subs i (fun o => o.map (fun b =>
        { b with mask := mask, until_ := until_ })) }) s)
    | none => match (List.range 4).find? (fun i => (vget s.mgt.subs i none).isNone) with
      | some i => (0, i, put i (some ⟨ss, key, mask, until_, [], 0, 0⟩))
      | none => (7, 0, s)

/-- A channel's refresh-rate code is read, and the multiplier of a new code is applied to the refresh rate (R313): code 7 reports the device
above its operating range (log 42). No command is issued to a frozen channel (R316), none to one that is Offline. -/
def refCodeRead (ch code : Nat) (s : State) : State :=
  if 2 ≤ (chan s ch).cstate ∨ s.mem.frozen = true then s
  else
    let hot := decide (code = 7)
    let was := (chan s ch).hotLogged
    let s := doIf (decide ((chan s ch).refCode ≠ code)) (emit (.dram ch "REFRATE" code)) s
    let s := mChan ch (fun c => { c with refCode := code, hotLogged := hot }) s
    if hot && !was then faultErr Err.memHot [0, 0, 0, 0, ch] s
    else if hot then s
    else endFault Err.memHot (fun a => nth a 4 0 == ch) s

/-- A channel's temperature, bracket and goals at a tick; a bracket that differs for 100 ms asks for re-verification (R304,
R307, R441). -/
def chanTick (ch : Nat) (s : State) : State :=
  let c := chan s ch
  let sens := bits (regVal s (base 7 + 0x100 + 0x20 * ch)) 2 0
  if c.cstate = 2 ∨ (chanSets s ch).isEmpty ∨ !s.cal.tempValid.getLsbD sens then s
  else
    let s := delayUpdate ch (mChan ch (fun c => { c with temp := calTemp s sens }) s)
    let c := chan s ch
    let n := if c.lo = c.verLo ∧ c.hi = c.verHi then 0 else c.diffTicks + 1
    mChan ch (fun c => { c with diffTicks := n, verWant := c.verWant || (decide (n = 100) && decide (c.cstate = 0)) }) s

/-- The blocks that became present since the latest tick enter the history of R153. -/
def presentTick (s : State) : State :=
  mStr (fun t => { t with lineHist := (t.presentNow :: t.lineHist).take 8, presentNow := [] }) s

/-- Device time in whole milliseconds (R394). -/
def devMs (s : State) : Nat := devTime s / (1000000 * 2 ^ 32)

/-- A management tick falls due (R394): device time has passed a whole millisecond and 0.5 ms have gone since the latest tick, or 1.5 ms. -/
def tickDue (s : State) : Bool :=
  match s.mgt.tickAt with
  | none => true
  | some (t, d) => (decide (t + us 500 ≤ s.now) && decide (d ≠ devMs s)) || decide (t + us 1500 ≤ s.now)

/-- The management tick (R394): sensors, refresh codes, delays, calibration sets, speed advice, choice of domain, events,
heartbeats. -/
def mgmtTick (temps : List Int) (codes : List (BitVec 3)) (s : State) : State :=
  let s := mMgt (fun m => { m with ticks := m.ticks + 1, tickAt := some (s.now, devMs s) }) s
  let s := sensorTick temps s
  let s := each (fun ch s => chanTick ch (refCodeRead ch (nth codes ch 0).toNat s)) (List.range 8) s
  let s := advicePins (speedAdvise (presentTick (calTick s)))
  let s := slewK (autoSwitch s)
  netHbSend (each eventSend (List.range 4) s)

/-- MGMT_TICK (R394). -/
def execMgmtTick (temps : List Int) (refCodes : List (BitVec 3)) (s : State) : Host.Outcome State Fault Refusal :=
  formed (decide (temps.length = 8) && decide (refCodes.length = 8)) "MGMT_TICK" (event (awake s && tickDue s) "MGMT_TICK" (mgmtTick temps refCodes) s)

/-- SUBSCRIPTION_EXPIRE (R403). -/
def execSubscriptionExpire (slot : Fin 4) (s : State) : Host.Outcome State Fault Refusal :=
  event (vget s.mgt.subs slot none).isSome "SUBSCRIPTION_EXPIRE" (mMgt (fun m => { m with subs := vmod m.subs slot (fun _ => none) })) s

end Sys2Proof.Machine
end

