-- ==== Sys2Proof/Machine/Network.lean ====
section
/-! DEFINITION. The network port commands (14_network_time R373 to R380, R404): links, discarded frames, neighbours, echo. -/

namespace Sys2Proof.Machine

/-- A port is enabled: MODE is not 0 (R373). -/
def netEnabled (s : State) (np : Nat) : Bool := decide (netMode s np ≠ 0)

/-- Send a neighbour message to a MAC address (R378, R379). -/
def sendNeigh (v : Via) (kind : String) (v6 : Bool) (ip : BitVec 128) (s : State) : State :=
  emit (.neigh (wireOf s v Config.otherPcp.toNat v6) kind v6 ip) (countTx v.np s)

/-- A port comes up: gratuitous ARP, unsolicited advertisement; NET_DOWN ends (R374, R379, R485). -/
def portUp (np : Nat) (s : State) : State :=
  let q := netIdPort s np
  let an := bit (regVal s (base 2 + 0x100 + 0x80 * np)) 31
  let s := mNet np (fun p => { p with up := true, lock := true, anDone := an }) s
  let s := sendNeigh ⟨np, 0xFFFFFFFFFFFF⟩ "gratuitous" false (q.ipv4.setWidth 128) s
  let s := sendNeigh ⟨np, 0x333300000001⟩ "unsolicited" true q.ll6 s
  endFault Err.netDown (fun _ => true) (notice Err.netLink [] s)

/-- A port goes down; NET_DOWN when no enabled port is up while Printing (R374). -/
def portDown (np : Nat) (s : State) : State :=
  let s := notice Err.netLink [] (mNet np (fun p => { p with up := false, lock := false, anDone := false }) s)
  if s.sys.st = .printing ∧ ([0, 1].any (fun n => netEnabled s n && (netPort s n).up)) = false then faultErr Err.netDown [] s else s

/-- The oldest neighbour leaves a full cache of 32 (R379). -/
def cacheRoom (c : List Neighbour) : List Neighbour :=
  if c.length < 32 then c
  else match c with
    | [] => []
    | a :: r =>
      let old := r.foldl (fun b n => if n.at_ < b.at_ then n else b) a
      c.filter (fun n => !(n.v6 == old.v6 && n.ip == old.ip))

/-- Learn or refresh a neighbour, and send the datagram that waited for it (R379). -/
def learn (np : Nat) (v6 : Bool) (ip : BitVec 128) (mac : BitVec 48) (s : State) : State :=
  let waiting := (netPort s np).resolving.filter (fun r => r.v6 == v6 && r.ip == ip)
  let s := mNet np (fun p =>
    let c := p.cache.filter (fun n => !(n.v6 == v6 && n.ip == ip))
    { p with
      cache := ⟨v6, ip, mac, s.now⟩ :: cacheRoom c
      resolving := p.resolving.filter (fun r => !(r.v6 == v6 && r.ip == ip)) }) s
  each (fun r s => sendOn ⟨np, mac⟩ r.pcp r.dst r.udp.toNat r.held s) waiting s

/-- A neighbour message arrives: one that names the device is learnt, and a request is answered (R378, R379). -/
def neighMsg (v : Via) (q : NeighMsg) (s : State) : State :=
  if ownAddr (netIdPort s v.np) q.v6 q.targetIp then
    let s := learn v.np q.v6 q.senderIp q.senderMac s
    if q.reply then s else sendNeigh v "reply" q.v6 q.targetIp s
  else s

/-- The oldest resolution's interval ends: it is repeated twice, then given up (R379). -/
def neighRetry (np : Nat) (s : State) : State :=
  match (netPort s np).resolving with
  | [] => s
  | r :: rest =>
    if r.sent < 3 then
      sendSolicit np r.v6 r.ip (mNet np (fun p => { p with resolving := rest ++ [{ r with sent := r.sent + 1 }] }) s)
    else mNet np (fun p => { p with resolving := rest, unres := satAdd 16 p.unres 1 }) s

/-- An echo request: at most 100 replies per second and port (R380). -/
def echoReply (v : Via) (v6 : Bool) (ip : BitVec 128) (body : Bytes) (s : State) : State :=
  let np := v.np
  let recent := (netPort s np).echoTimes.filter (fun t => decide (s.now < t + ms 1000))
  if recent.length < 100 then
    emit (.echo (wireOf s v Config.otherPcp.toNat true) v6 ip body) (countTx np (mNet np (fun p => { p with echoTimes := s.now :: recent }) s))
  else mNet np (fun p => { p with echoTimes := recent, echoOver := satAdd 16 p.echoOver 1 }) s

/-- A write to NET_PORTn_CLR (R404). -/
def opNetClr (np : Nat) (v : Word) (s : State) : State :=
  if bit v 0 then
    mNet np (fun p => { p with rxCnt := 0, txCnt := 0, drop := Vector.replicate 4 0, fecCorr := 0, fecUnc := 0, unres := 0, echoOver := 0 }) s
  else s

/-- NET_LINK_UP (R374). -/
def execNetLinkUp (np : NetPort) (s : State) : Host.Outcome State Fault Refusal :=
  event (awake s && netEnabled s np && !(netPort s np).up) "NET_LINK_UP" (portUp np) s

/-- NET_LINK_DOWN (R374). -/
def execNetLinkDown (np : NetPort) (s : State) : Host.Outcome State Fault Refusal :=
  event (netPort s np).up "NET_LINK_DOWN" (portDown np) s

/-- NET_FRAME_DISCARD (R375, R376). -/
def execNetFrameDiscard (np : NetPort) (fr : Frame) (s : State) : Host.Outcome State Fault Refusal :=
  event (frameBad s np fr).isSome "NET_FRAME_DISCARD" (rxFrame ⟨np, fr⟩ id) s

/-- ARP_REQUEST (R379). -/
def execArpRequest (rx : Arrival) (q : NeighMsg) (s : State) : Host.Outcome State Fault Refusal :=
  spelled (rxNeigh rx q.v6) "ARP_REQUEST" (rxFrame rx (neighMsg (backTo rx) q)) s

/-- ARP_RETRY (R379). -/
def execArpRetry (np : NetPort) (s : State) : Host.Outcome State Fault Refusal :=
  event (!(netPort s np).resolving.isEmpty) "ARP_RETRY" (neighRetry np) s

/-- ARP_EXPIRE (R379). -/
def execArpExpire (np : NetPort) (ip : BitVec 128) (s : State) : Host.Outcome State Fault Refusal :=
  event ((netPort s np).cache.any (fun n => n.ip == ip)) "ARP_EXPIRE"
    (mNet np (fun p => { p with cache := p.cache.filter (fun n => n.ip != ip) })) s

/-- ICMP_ECHO (R378, R380). -/
def execIcmpEcho (rx : Arrival) (v6 : Bool) (srcIp : BitVec 128) (srcMac : BitVec 48) (body : Bytes) (s : State) :
    Host.Outcome State Fault Refusal :=
  spelled (rxIcmp rx v6 srcMac) "ICMP_ECHO" (rxFrame rx (fun s =>
    doIf (ownAddr (netIdPort s rx.port) v6 rx.frame.ip) (echoReply (backTo rx) v6 srcIp body) s)) s

end Sys2Proof.Machine
end

