-- ==== Sys2Proof/Machine/RegRead.lean ====
section
/-! DEFINITION. Reads of registers (R7, R510, R514): what each register shows, block by block from the register tables of
the chapters. `none` is an offset that the block does not list, or a register that is write-only. What a read changes is in
`readEffect`. -/

namespace Sys2Proof.Machine

/-- The stored register at offset `o` of a block (R7). -/
def readStored (b o : Nat) (s : State) : Option Word := (regDesc (base b + o)).map (fun _ => regVal s (base b + o))

/-- Bits 31 to 0 of a signed number. -/
def loWord (x : Int) : Word := i32 x

/-- Bits 47 to 32 of a signed number. -/
def hiWord (x : Int) : Word := w32 ((x % 2 ^ 48).toNat / 2 ^ 32)

/-- A signed number saturated to a word. -/
def satWord (x : Int) : Word := i32 (satInt 32 x)

/-- SYS_ID (R516). -/
def sysId : Word := w32 (Config.stepping.toNat * 2 ^ 28 + 0x2618 * 4096 + 1)

/-- SYS_STATE (R516). -/
def sysStateWord (s : State) : Word :=
  w32 (b2n (s.mem.chans.toList.any (fun c => c.cstate == 2)) 9 + b2n s.dbg.halted 8 + 16 * devCode s.sys.prev + devCode s.sys.st)

/-- Blocks with an error being handled (R485, R516). -/
def errBlocks (s : State) : Word :=
  s.err.faults.foldl (fun w f => w ||| w32 (2 ^ (f.code / 1024))) (s.err.stopBlk ||| s.err.fatalBlk)

/-- SYS_ATTN (R517). -/
def sysAttn (s : State) : Word :=
  w32 (b2n (attn s) 31 + b2n (s.sys.st == .faulted) 30 + b2n s.keep.coreWatch 29) ||| errBlocks s

/-- SYS_KNOT_STAT (R517). -/
def knotStat (s : State) : Word :=
  match s.sys.pendingKnot with
  | none => 0
  | some .immediate => w32 (2 ^ 31)
  | some (.milestone m) => w32 (2 ^ 31 + 2 ^ 29 + m)
  | some (.roadCount _) => w32 (2 ^ 31 + 2 ^ 30)

/-- The SYS block (R20, R516). -/
def readSys (o : Nat) (s : State) : Option Word :=
  if o = 0 then some sysId
  else if o = 4 then some (sysStateWord s)
  else if o = 8 then some (sysAttn s)
  else if o = 0x10C then some (knotStat s)
  else if o = 0x110 then some s.sys.epoch
  else if o = 0x114 then some (loWord s.sys.posSnap)
  else if o = 0x118 then some (hiWord s.sys.posSnap)
  else if o = 0x404 then some s.sys.paceStat
  else if inRow o 0x480 32 4 then
    let n := (o - 0x480) / 4
    some (w32 ((vget s.sys.paceMin n 0xFFFF).toNat * 65536 + (vget s.sys.paceNow n 0xFFFF).toNat))
  else readStored 0 o s

/-- The first calibration of the generators is complete (R444, R451): every one measured, or Verifying is past. -/
def calInit (s : State) : Bool :=
  let past := match s.sys.st, s.sys.prev with
    | .faulted, .verifying => false
    | .faulted, .loading => false
    | .faulted, _ => true
    | _, _ => operational s
  past || s.cal.fegs.toList.all (·.measured)

/-- The lowest port still training when LANEWAIT is considered (R474): enabled, neither ACTIVE nor Absent. -/
def trainingPort (s : State) : Option Nat :=
  (List.range 64).find? (fun p => bit (gulCtl s p) 31 && decide ((headPort s p).st ≠ .active) && !(headPort s p).absent)

/-- Ready criterion `k` of R474. -/
def readyCrit (s : State) (k : Nat) : Bool :=
  match k with
  | 1 => s.cfg.dramDone
  | 2 => s.fir.lock
  | 3 => calInit s && s.cal.cmps.toList.all (fun c => c.valid || c.failed)
  | 4 => (trainingPort s).isNone || s.cfg.laneWait
  | _ => (s.keep.feedA || s.keep.feedB) && !s.pos.keepReset

/-- CFG_STAT (R477): the criteria count while the device is Verifying. -/
def cfgStat (s : State) : Word :=
  let c := s.cfg
  let unmet := if s.sys.st = .verifying then sumN ((List.range 5).map (fun k => b2n (!readyCrit s (k + 1)) k)) else 0
  w32 ((match c.accepted with | some x => b2n (x == 1) 31 + 2 ^ 30 | none => 0)
    + c.bootSel.toNat * 2 ^ 28 + b2n c.roleStrap 27 + c.fmode % 8 * 2 ^ 24 + unmet)

/-- The CFG block (R477). -/
def readCfg (o : Nat) (s : State) : Option Word :=
  let slot := fun (i : Nat) => vget s.cfg.slots i ⟨0, 0, 0, false⟩
  let img := fun (r : SlotResult) => some (w32 (r.reason * 2 ^ 24 + r.detail % 65536))
  if o = 0 then some (cfgStat s)
  else if o = 4 then img (slot 0)
  else if o = 8 then img (slot 1)
  else if o = 0xC then some (slot 0).gen
  else if o = 0x10 then some (slot 1).gen
  else if o = 0x14 then some (s.keep.resetCause.setWidth 32)
  else if o = 0x1C then some (w32 (min s.cfg.tVerify 0xFFFFFFFF))
  else if o = 0x20 then some (w32 (min s.cfg.tReady 0xFFFFFFFF))
  else if inRow o 0x40 8 4 then some (if s.cfg.accepted.isSome then w32 (leAt s.cfg.digest (o - 0x40) 4) else 0)
  else if o = 0x80 then
    some (w32 (b2n s.cfg.otpPin 31 + b2n s.cfg.otpBusy 30 + s.cfg.otpRev.toNat * 256 + s.cfg.otpProg.toNat))
  else readStored 1 o s

/-- The NET block (R404). -/
def readNet (o : Nat) (s : State) : Option Word :=
  match instOf o 0x100 2 0x80 with
  | none => none
  | some (n, r) =>
    let p := netPort s n
    let i := vget s.netId.ports n ⟨0, 0, 0, 0, 0, 0, 0, 0, 0, 0, 0, 0, 0⟩
    let d := fun k => vget p.drop k 0
    match r with
    | 4 => some (w32 (b2n p.up 31 + b2n p.lock 30 + b2n p.anDone 29))
    | 0xC => some (w32 i.mac.toNat)
    | 0x10 => some (w32 (i.mac.toNat / 2 ^ 32))
    | 0x14 => some i.ipv4
    | 0x20 => some p.rxCnt
    | 0x24 => some p.txCnt
    | 0x28 => some (w32 (d 0 * 2 ^ 24 + d 1 * 65536 + d 2 * 256 + d 3))
    | 0x2C => some (w32 (p.fecCorr * 65536 + p.fecUnc))
    | 0x30 => some (w32 (p.unres * 65536 + p.echoOver))
    | _ => readStored 2 o s

/-- A time in 2^-32 ns as four words: seconds low and high, nanoseconds, fraction (R381, R382). -/
def timeWord (t k : Nat) : Word :=
  match k with
  | 0 => w32 (secOf t) | 1 => w32 (secOf t / 2 ^ 32) | 2 => w32 (nsOf t) | _ => w32 t

/-- The mean path delay that a domain uses (R388, R389): in P2P that of its master's port. -/
def pathDelay (s : State) (d : Nat) : Int :=
  let m := dom s d
  if ptpP2p s d then (match m.master with | some x => vget m.pd x.2 0 | none => 0) else m.d

/-- The PTP block (R405). Times in 2^-16 ns are shown in whole ns, rounded down (log 43). -/
def readPtp (o : Nat) (s : State) : Option Word :=
  if o = 4 then some (w32 (s.ptp.sel * 2 ^ 31))
  else if inRow o 0x10 4 4 then some (timeWord s.ptp.snap ((o - 0x10) / 4))
  else if o = 0x20 then some (satWord (s.ptp.k / 65536))
  else if o = 0x34 then
    let hold := bit (regVal s (base 3 + 0x30)) 0 && decide ((dom s s.ptp.sel).servo ≠ .track)
    some (w32 (b2n hold 31 + b2n s.ptp.fireLimit 30 + (s.ptp.fireCorr % 2 ^ 24).toNat))
  else match instOf o 0x100 2 0x80 with
    | none => readStored 3 o s
    | some (d, r) =>
      let m := dom s d
      let gm := match m.master with | some x => x | none => (0, 0)
      match r with
      | 0x20 => some (w32 (m.inc / 2 ^ 32 % 256))
      | 0x24 => some (w32 m.inc)
      | 0x28 => some (satWord (m.adj / 4096))
      | 0x2C => some (satWord (m.ofs / 65536))
      | 0x30 => some (w32 (min (pathDelay s d / 65536).toNat 0xFFFFFFFF))
      | 0x34 => some (w32 (servoCode m.servo * 2 ^ 29 + gm.2 % 256 * 65536 + gm.1 % 65536))
      | 0x38 => some (w32 (gm.1 / 65536))
      | 0x3C => some (w32 (gm.1 / 2 ^ 48))
      | 0x40 => some m.cntSync
      | 0x44 => some m.cntIgn
      | 0x48 => some m.cntStep
      | 0x50 => some (timeWord m.snap 0)
      | 0x54 => some (timeWord m.snap 1)
      | 0x58 => some (timeWord m.snap 2)
      | 0x5C => some (timeWord m.snap 3)
      | _ => readStored 3 o s

/-- The MGT block (R406). -/
def readMgt (o : Nat) (s : State) : Option Word :=
  let m := s.mgt
  if o = 4 then some (w32 (sumN (m.keys.map (fun k => k.role % 4 * 4 ^ k.id))))
  else if o = 8 then some (w32 (sumN ((List.range 4).map (fun i => b2n (vget m.subs i none).isSome i))))
  else if o = 0x10 then some (w32 (m.cntFormat * 2 ^ 24 + m.cntAuth * 65536 + m.cntReplay * 256 + m.cntStale))
  else if o = 0x14 then some m.cntReq
  else readStored 4 o s

/-- The TOW block (R111). -/
def readTow (o : Nat) (s : State) : Option Word :=
  if o = 4 then
    some (w32 ((s.tow.layers.filter (fun l => decide (l.st = .loading))).length % 256 * 256 + (s.tow.layers.filter resident).length % 128))
  else if o = 0x10 then some s.tow.cntRx
  else if o = 0x14 then some s.tow.cntDup
  else if o = 0x18 then some s.tow.cntNak
  else if o = 0x1C then some s.tow.cntDrop
  else readStored 5 o s

/-- The PLC block (R111). -/
def readPlc (o : Nat) (s : State) : Option Word :=
  let busy := fun (k : Nat) => w32 (sumN ((List.range 32).map (fun n => b2n (slotHolder s (32 * k + n)).isSome n)))
  if o = 4 then some (w32 (s.plc.mask.toNat * 65536 + (onlineChans s.plc.mask).length * 256 + s.plc.slots % 128))
  else if o = 8 then some (w32 (dirFree s))
  else if o = 0xC then some (busy 0)
  else if o = 0x10 then some (busy 1)
  else readStored 6 o s

/-- The MEM block (R329). -/
def readMem (o : Nat) (s : State) : Option Word :=
  let m := s.mem
  let mask := fun (p : MemChan → Bool) => sumN ((List.range 8).map (fun c => b2n (p (chan s c)) c))
  if o = 8 then
    some (if awake s then
      w32 (b2n m.frozen 31 + b2n (m.chans.toList.any (fun c => c.ver.isSome || c.cstate == 1)) 30
        + mask (fun c => decide (c.cstate < 2)) * 65536 + mask (fun c => c.cstate == 2) * 256)
    else 0)
  else if o = 0x20 then some m.err0
  else if o = 0x24 then some m.err1
  else if o = 0x30 then some m.cntCe
  else if o = 0x34 then some (w32 m.cntUe2)
  else if o = 0x38 then some m.cntHaz
  else if o = 0x3C then some m.cntPanic
  else match instOf o 0x100 8 0x20 with
    | none => readStored 7 o s
    | some (c, r) =>
      let k := chan s c
      match r with
      | 4 => some (w32 (k.cstate * 2 ^ 30 + k.lo % 8 * 2 ^ 27 + k.hi % 8 * 2 ^ 24 + (k.vofs1 % 16).toNat * 16 + (k.vofs0 % 16).toNat))
      | 8 => some (w32 (k.postponed / 16 * 2 ^ 28 + k.pulled / 16 * 2 ^ 24 + k.refCode % 8))
      | 0xC => some (w32 (k.temp % 65536).toNat)
      | 0x10 => some k.ce
      | _ => readStored 7 o s

/-- The BNK block (R330). -/
def readBnk (o : Nat) (s : State) : Option Word :=
  match instOf o 0x100 7 0x40 with
  | none => none
  | some (b, r) =>
    let k := bank s b
    match r with
    | 0x10 => some k.ce
    | 0x14 => some k.align
    | 0x18 => some (match k.ue with | some x => w32 (2 ^ 31 + x % 2 ^ 22) | none => 0)
    | _ => if inRow r 0 4 4 then some (vget k.conf (r / 4) 0) else none

/-- A requester of an instance waits with a request (R331): at the banks, from the rounds in which it requested (log 10). -/
def arbWaits (s : State) (inst m : Nat) : Bool :=
  if inst < 4 then (nextUnit s inst m).isSome
  else if inst = 11 then ctxWaits s m
  else (arb s inst).waiting.getLsbD m

/-- ARB_n_REQm_STAT (R331). -/
def arbStat (s : State) (inst m : Nat) : Word :=
  let q := arbReq (arb s inst) m
  let panic := decide (inst < 4 ∧ m = 0) && s.mem.pend.any (fun u => u.ch / 2 == inst && u.req == 0 && u.panic)
  w32 (b2n (arbWaits s inst m) 31 + b2n ((arb s inst).holder == some m) 30 + b2n q.urgent 29 + b2n panic 28 + q.age % 16)

/-- The ARB block (R331): a requester number that the instance does not have reads 0. -/
def readArb (o : Nat) (s : State) : Option Word :=
  match instOf o 0x1000 12 0x100 with
  | none => none
  | some (inst, r) =>
    let m := r / 16
    if 8 ≤ m ∨ r % 4 ≠ 0 then none
    else if arbReqs inst ≤ m then some 0
    else match r % 16 / 4 with
      | 0 => if inst = 11 then some (arbCfg s 11 m) else readStored 9 o s
      | 1 => some (arbStat s inst m)
      | 2 => some (arbReq (arb s inst) m).grants
      | _ => some (arbReq (arb s inst) m).urg

/-- STR_LEVEL (R159). -/
def strLevel (s : State) : Word :=
  let act := (List.range 512).filter (fun n => strandActive s n && decide ((strand s n).st ≠ .idle))
  let worst := act.foldl (fun (w : Option Nat) n => match w with
    | some k => if (strand s n).margin < (strand s k).margin then some n else w
    | none => some n) none
  let (n, m) := match worst with | some k => (k, (strand s k).margin) | none => (0, 0xFFFF)
  w32 (s.str.level * 2 ^ 30 + b2n s.par.slow 29 + b2n s.par.hold 28 + n * 65536 + m % 65536)

/-- STR_SPOOLn (R156, R158, R159): strands served now, and widths of the active table. -/
def strSpool (s : State) (p : Nat) : Word :=
  let segs := s.fir.geo.segs
  let served := segs.filter (fun x => (strand s x.seg).spool == p)
  let mine := segs.filter (fun x => (strand s x.seg).target == p)
  w32 (served.length % 32 * 65536 + sumN (mine.map (·.width)) % 65536)

/-- Word `w` of STR_CTXn (R159). -/
def strCtx (s : State) (n w : Nat) : Word :=
  let t := strand s n
  match w with
  | 0 => w32 (strandCode (stateOf s n) * 2 ^ 30 + b2n t.migrating 29 + b2n t.panic 28 + t.spool % 64 * 2 ^ 22 + t.target % 64 * 65536 + t.block % 65536)
  | 1 => w32 (t.nextLine % 2 ^ 24)
  | 2 => w32 (t.margin % 65536 * 65536 + t.level % 4 * 2 ^ 14 + t.ring.length % 2 ^ 14)
  | _ => w32 (match t.layer with | some id => id | none => 0)

/-- The STR block (R159). -/
def readStr (o : Nat) (s : State) : Option Word :=
  if o = 0x10 then some (strLevel s)
  else if o = 0x14 then some s.str.advWord
  else if o = 0x20 then some s.str.cntUnder
  else if o = 0x24 then some s.str.cntPanic
  else if o = 0x28 then some s.str.cntMigr
  else if o = 0x2C then some s.str.cntDisc
  else if inRow o 0x400 64 4 then some (strSpool s ((o - 0x400) / 4))
  else if inRow o 0x1000 2048 4 then some (strCtx s ((o - 0x1000) / 16) ((o - 0x1000) / 4 % 4))
  else readStored 10 o s

/-- The CMP block (R132, R133). -/
def readCmp (o : Nat) (s : State) : Option Word :=
  let c := s.cmp
  let last := fun (f : DecLast → Nat) => some (w32 (match c.last with | some d => f d | none => 0))
  let busy := fun (i : Nat) => (vget c.comps i idleComp).job.isSome
  if o = 4 then some (w32 (b2n (busy 0) 0 + b2n (busy 1) 1 + min c.wait.length 255 * 256))
  else if o = 0x10 then some c.cntBlk
  else if o = 0x14 then some c.cntRaw
  else if o = 0x18 then some (w32 (c.inBytes / 1024))
  else if o = 0x1C then some (w32 (c.outBytes / 1024))
  else if inRow o 0x44 7 4 then some (vget c.decCnt ((o - 0x40) / 4) 0)
  else if o = 0x60 then last (fun d => b2n c.lastValid 31 + d.code % 8 * 2 ^ 28 + d.stripe % 512 * 65536 + d.block % 65536)
  else if o = 0x64 then last (fun d => b2n d.policy 10 + d.line % 1024)
  else if o = 0x68 then last (·.off)
  else if o = 0x6C then last (·.layer)
  else readStored 11 o s

/-- The POS block (R185, R186). -/
def readPos (o : Nat) (s : State) : Option Word :=
  match instOf o 0x100 4 0x80 with
  | none => none
  | some (c, r) =>
    let e := enc s c
    let cnt := fun k => vget e.errCnt k 0
    match r with
    | 8 => some (regVal s (base 12 + o) ||| w32 (b2n e.armed 28))
    | 0x24 => some (e.stat.setWidth 32 ||| w32 (b2n e.rev 16))
    | 0x28 => some (i32 e.slip)
    | 0x2C => some (w32 (cnt 0 + cnt 1 * 256 + cnt 2 * 65536 + cnt 3 * 2 ^ 24))
    | 0x30 => some (loWord e.rc)
    | 0x34 => some (hiWord e.snapRc)
    | 0x38 => some (loWord e.snapHwm)
    | 0x3C => some (hiWord e.snapHwm)
    | 0x40 => some (i32 e.snapV)
    | 0x44 => some (i32 e.snapA)
    | _ => readStored 12 o s

/-- The MIL block (R187). -/
def readMil (o : Nat) (s : State) : Option Word :=
  if o = 0 then some s.mil.stat
  else if o = 4 then some (w32 (sumN ((List.range 32).map (fun i => b2n (milestone s i).stale i))))
  else if o = 0x48 ∨ o = 0x58 then some (loWord (vget s.mil.sync ((o - 0x48) / 16) ⟨0, 0, false⟩).cap)
  else if o = 0x4C ∨ o = 0x5C then some (vget s.mil.sync ((o - 0x4C) / 16) ⟨0, 0, false⟩).hiLatch
  else match instOf o 0x100 32 0x20 with
    | none => readStored 13 o s
    | some (i, r) =>
      let m := milestone s i
      match r with
      | 0 => some (regVal s (base 13 + o) ||| w32 (b2n m.armed 31 + b2n m.stale 30))
      | 4 => some (loWord m.cmp)
      | 8 => some m.cmpHiLatch
      | 0x10 => some (loWord m.hit)
      | 0x14 => some m.hitHiLatch
      | 0x18 => some (w32 (m.missed * 65536 + m.cnt.toNat))
      | _ => readStored 13 o s

/-- The FIR block (R63, R211, R212). DESIGN CHOICE (log 139): COARSE of FIR_SEG_DERIVn shows the low 16 bits of a coarse above 65 535,
which only a geometry that failed with REACH has. -/
def readFir (o : Nat) (s : State) : Option Word :=
  let f := s.fir
  if o = 0 then
    some (w32 (b2n f.lock 31 + b2n f.ovs 30 + (f.ports.toList.filter (fun p => p.lagging)).length))
  else if o = 0x10 then some f.cntSkip
  else if o = 0x14 then some f.cntNull
  else if o = 0x18 then some f.cntLate
  else if o = 0x1C then some f.cntLLate
  else if o = 0x10C then some (w32 (b2n f.chkBusy.isSome 31 + b2n (f.chkReason == 0) 30 + f.chkReason % 64 * 2 ^ 24 + f.chkSeg % 512))
  else if inRow o 0x2800 64 4 then some (w32 (geoFrac f.geo ((o - 0x2800) / 4)))
  else if inRow o 0x3000 512 4 then
    some (match segGeo f.geo ((o - 0x3000) / 4) with | some x => w32 (x.coarse * 65536 + x.phase) | none => 0)
  else match instOf o 0x1000 64 0x20 with
    | none => readStored 14 o s
    | some (p, r) =>
      let k := firPort s p
      match r with
      | 8 => some (w32 k.lastLc)
      | 0xC => some (w32 (k.snapLc / 2 ^ 32 % 256))
      | 0x10 => some (w32 (min k.lagMax 0xFFFF * 65536 + min k.lagNow 0xFFFF))
      | 0x14 => some (w32 k.snapTf)
      | _ => readStored 14 o s

/-- The STG block (R57, R65). -/
def readStg (o : Nat) (s : State) : Option Word := if o = 0x104 then some (resWord s) else readStored 15 o s

/-- The NZL block (R64, R237, R238). -/
def readNzl (o : Nat) (s : State) : Option Word :=
  let z := s.nzl
  let rec0 := match z.journal with | r :: _ => r.toNat | [] => 0
  if o = 0xC then some (w32 z.absent.toNat)
  else if o = 0x10 then some (w32 (z.absent.toNat / 2 ^ 32))
  else if o = 0x30 then some (w32 (b2n z.shufValid 31 + (z.shufActive % 65536).toNat))
  else if o = 0x58 then some (w32 z.queue.length)
  else if o = 0x60 then some z.cntDetour
  else if o = 0x64 then some z.cntLost
  else if o = 0x68 then some z.cntLate
  else if o = 0x6C then some (w32 z.lanes.length)
  else if o = 0x80 then some (w32 rec0)
  else if o = 0x84 then some (w32 (rec0 / 2 ^ 32))
  else if o = 0x88 then some (w32 (z.jrnOvf * 65536 + z.journal.length))
  else readStored 16 o s

/-- The GAT block (R239). -/
def readGat (o : Nat) (s : State) : Option Word :=
  match instOf o 0x100 2 0x40 with
  | none => none
  | some (g, r) =>
    let k := gate s g
    match r with
    | 0x2C => some (w32 (b2n k.busy 31 + b2n k.waitGrid 30 + k.queue.length))
    | 0x30 => some k.cnt
    | 0x34 => some k.drops
    | 0x38 => some (w32 (k.result * 2 ^ 29 + k.resNoz))
    | _ => readStored 17 o s

/-- The codes of R248. -/
def linkCode : LinkState → Nat
  | .disabled => 0 | .detect => 1 | .poll => 2 | .lock => 3 | .exchange => 4 | .active => 5

/-- The GUL block (R276). -/
def readGul (o : Nat) (s : State) : Option Word :=
  let g := s.gul
  let mask := fun (k : Nat) (p : GulPort → Bool) => some (w32 (sumN ((List.range 32).map (fun n => b2n (p (headPort s (32 * k + n))) n))))
  if o = 0x1C then some (w32 (b2n g.hcfgBusy 31 + g.hcfgAck % 256 * 256 + b2n g.hcfgOvr 3 + g.hcfgResult))
  else if o = 0x20 then mask 0 (·.absent)
  else if o = 0x24 then mask 1 (·.absent)
  else if o = 0x28 then mask 0 (fun h => decide (h.st = .active))
  else if o = 0x2C then mask 1 (fun h => decide (h.st = .active))
  else if o = 0x48 then some (w32 (b2n g.eyePort.isSome 31 + b2n g.eyeAborted 30))
  else if o = 0x4C then some (w32 g.eyeErrs)
  else if o = 0x50 then some (w32 g.eyeBits)
  else match instOf o 0x1000 64 0x40 with
    | none => readStored 18 o s
    | some (p, r) =>
      let h := headPort s p
      match r with
      | 4 => some (w32 (linkCode h.st * 2 ^ 29 + b2n h.absent 28 + b2n (s.nzl.absent.getLsbD p) 27 + b2n h.frozen 26 + h.reason * 65536 + h.fails))
      | 8 => some h.capGeom
      | 0xC => some h.capMinp
      | 0x10 => some h.serLo
      | 0x14 => some h.serHi
      | 0x18 => some h.codeErr
      | 0x1C => some (w32 (h.rxCrc * 65536 + h.rxOther))
      | 0x20 => some (w32 (h.headMiss * 65536 + h.headDisc))
      | 0x24 => some (w32 (h.losses * 65536 + h.slips))
      | 0x28 => some h.sense0
      | 0x2C => some h.sense1
      | 0x30 => some h.hstat
      | _ => readStored 18 o s

/-- The CAM block (R298). -/
def readCam (o : Nat) (s : State) : Option Word :=
  match instOf o 0x100 4 0x40 with
  | none => none
  | some (p, r) =>
    let k := camPort s p
    match r with
    | 4 => some (w32 (b2n k.hs 31 + b2n k.ulps 30 + b2n (openFrame s (2 * p + 1)).isSome 1 + b2n (openFrame s (2 * p)).isSome 0))
    | 8 => some (w32 (k.hdrCorr * 65536 + k.hdrUnc))
    | 0xC => some (w32 (k.crcErr * 65536 + k.lenErr))
    | 0x10 => some k.ign
    | 0x14 => some (w32 (k.bufMax * 65536 + cdiv (bufUse k) 64))
    | 0x18 => some k.lost
    | _ => readStored 19 o s

/-- The INS block (R298). -/
def readIns (o : Nat) (s : State) : Option Word :=
  match instOf o 0x1000 8 0x40 with
  | none => none
  | some (c, r) =>
    let k := camCtx s c
    match r with
    | 0xC => some (w32 (k.next * 65536 + (k.next + 8 - k.held) % 8 * 256 + k.held))
    | 0x14 => some (w32 k.fnum)
    | 0x18 => some (w32 (k.dropped * 65536 + k.reports.toNat))
    | 0x1C => some (w32 (k.last * 65536 + k.trigs.length))
    | _ => readStored 21 o s

/-- The AXS block (R335, R354). -/
def readAxs (o : Nat) (s : State) : Option Word :=
  if o = 4 then some (axTblWord s)
  else match instOf o 0x100 4 0x80 with
    | none => readStored 22 o s
    | some (a, r) =>
      let k := axis s a
      match r with
      | 0x58 => some (i32 k.pos)
      | 0x5C => some (i32 (k.v.tdiv 65536))
      | 0x60 => some (w32 (b2n k.posValid 31 + b2n k.standstill 30 + b2n (decide (k.v ≠ 0)) 29 + b2n k.holdCur 28 + b2n k.limLo 25 + b2n k.limHi 24)
          ||| (k.stat.setWidth 32 &&& 0xFE))
      | 0x64 => some (w32 ((k.phB.ofs % 128).toNat * 65536 + (k.phA.ofs % 128).toNat))
      | 0x68 => some (w32 (min k.ont 0xFFFF))
      | 0x6C => some (satWord k.lag)
      | _ => readStored 22 o s

/-- The LMP block (R372). -/
def readLmp (o : Nat) (s : State) : Option Word :=
  let l := s.lmp
  if o = 0xC then
    some (w32 (b2n l.frontB 31 + b2n l.swapPend 30 + b2n (lbChain s 0).busy 29 + b2n (lbChain s 1).busy 28 + l.swaps.toNat))
  else if o = 0x14 then some (zoneWord s)
  else if o = 0x18 then some (w32 (l.ovr * 65536 + l.skip))
  else if o = 0x104 then some (utblWord s)
  else if o = 0x204 ∨ o = 0x224 then some (w32 (b2n (lbChain s ((o - 0x204) / 0x20)).echo 0))
  else readStored 23 o s

/-- The PAR block (R438). -/
def readPar (o : Nat) (s : State) : Option Word :=
  let p := s.par
  let lane := fun i => linkCode (teth s i).st
  if o = 0x10 then
    some (w32 ((if paired s then p.role else 0) % 4 * 2 ^ 30 + b2n p.strapB 29 + b2n p.hitchOut 28 + b2n p.hitchIn 27 + b2n (parReady s) 26
      + b2n (!p.tMiss) 25 + b2n (!p.nMiss) 24 + b2n p.peerHalted 23))
  else if o = 0x14 then some p.splices
  else if o = 0x18 then some (w32 p.lastLc)
  else if o = 0x1C then some (w32 (p.lastCode % 256 * 256 + p.lastLc / 2 ^ 32 % 256))
  else if o = 0x20 then some (w32 (lane 0 * 2 ^ 29 + lane 1 * 2 ^ 26 + b2n p.tethUp 25 + (p.skew % 256).toNat))
  else if o = 0x24 then some p.cntResend
  else if o = 0x28 then some p.cntCrc
  else if o = 0x2C then some p.cntResync
  else if o = 0x30 then some (w32 (p.cntTMiss * 65536 + p.cntNMiss))
  else if o = 0x40 then
    some (w32 (b2n s.keep.feedA 31 + b2n s.keep.feedB 30 + b2n s.keep.feedLoss 2 + b2n s.keep.coreWatch 1))
  else readStored 24 o s

/-- The CAL block (R451). -/
def readCal (o : Nat) (s : State) : Option Word :=
  let c := s.cal
  let six := fun (x : Int) => (x % 64).toNat
  if o = 4 then some (w32 (b2n (calInit s) 31 + sumN ((List.range 4).map (fun g => b2n (fegGroup s g).stopped g))))
  else if o = 8 then some c.cntRot
  else if o = 0xC then some c.cntFail
  else if inRow o 0x20 4 4 then
    let g := fegGroup s ((o - 0x20) / 4)
    some (w32 (g.phase * 2 ^ 29 + g.port))
  else if inRow o 0x40 8 4 then
    let n := (o - 0x40) / 4
    some (w32 (b2n (c.tempValid.getLsbD n) 31 + (calTemp s n % 65536).toNat))
  else if inRow o 0x100 68 4 then
    let f := feg s ((o - 0x100) / 4)
    some (w32 (f.state * 2 ^ 30 + b2n f.ftrim.limit 29 + six f.ftrim.serv * 65536 + six f.ftrim.goal * 256 + (f.errPs % 256).toNat))
  else if inRow o 0x300 66 4 then
    let l := laneCal s ((o - 0x300) / 4)
    some (w32 (b2n (l.swing.limit || l.deemph.limit || l.sampler.limit) 31 + (l.swing.serv % 32).toNat * 2 ^ 24
      + (l.deemph.serv % 16).toNat * 65536 + six l.sampler.serv))
  else if inRow o 0x500 10 4 then
    let k := cmpCal s ((o - 0x500) / 4)
    some (w32 (b2n k.valid 31 + b2n k.failed 30 + k.stage * 2 ^ 28 + six k.ofs.goal * 256 + six k.ofs.serv))
  else readStored 25 o s

/-- Word `i` of a log entry as the log registers show it: word 0 live, the others from the entry's snapshot (R505). -/
def logWord (s : State) (key i : Nat) (live : Option LogEntry) : Word :=
  let e := if i = 0 then live else (s.err.snaps.find? (fun x => x.1 == key)).map (·.2)
  match e with | some x => entryWord x i | none => 0

/-- The ERR block (R504, R505). -/
def readErr (o : Nat) (s : State) : Option Word :=
  let e := s.err
  let latch := fun (c : Nat) => vget e.latches c none
  if o = 0 then
    some (w32 (b2n e.fatalHeld 31 + b2n e.stopHeld 30 + b2n e.fovf 29 + b2n (attn s) 28
      + sumN ((List.range 4).map (fun c => b2n (latch c).isSome (8 + c))) + e.faults.length))
  else if o = 4 then some (w32 e.head)
  else if o = 8 then some (w32 (e.nest * 65536 + e.sec))
  else if o = 0xC then some (regVal s (base 26 + 0xC) ||| 8)
  else if inRow o 0x100 29 4 then some (w32 (vget e.supp ((o - 0x100) / 4) 0))
  else if o % 4 ≠ 0 then none
  else match instOf o 0x1000 4 0x40 with
    | some (c, r) => if r < 0x30 then some (logWord s c (r / 4) (latch c)) else none
    | none => match instOf o 0x4000 256 0x30 with
      | some (n, r) => some (logWord s (4 + n) (r / 4) (ringSlot e n))
      | none => none

/-- The CAP block (R506). -/
def readCap (o : Nat) (s : State) : Option Word :=
  let c := s.cap
  if o = 4 then
    some (w32 (b2n c.busy 31 + b2n c.done 30 + b2n c.trunc 29 + b2n c.refused 28 + c.dlen % 2 ^ 21))
  else none

/-- The DBG block (R507). -/
def readDbg (o : Nat) (s : State) : Option Word :=
  let d := s.dbg
  if o = 0 then
    some (w32 (b2n d.halted 31 + d.stages.toNat * 2 ^ 23 + b2n d.irref 22 + b2n d.bpValid 21 + d.bp * 2 ^ 17))
  else match instOf o 0x100 16 0x20 with
    | some (n, 0x14) => some (vget d.hits n 0)
    | _ => readStored 28 o s

/-- What the register at byte address `a` shows (R7, R508, R510). -/
def regShow (a : Nat) (s : State) : Option Word :=
  let o := a % 0x10000
  match a / 0x10000 with
  | 0 => readSys o s | 1 => readCfg o s | 2 => readNet o s | 3 => readPtp o s | 4 => readMgt o s | 5 => readTow o s
  | 6 => readPlc o s | 7 => readMem o s | 8 => readBnk o s | 9 => readArb o s | 10 => readStr o s | 11 => readCmp o s
  | 12 => readPos o s | 13 => readMil o s | 14 => readFir o s | 15 => readStg o s | 16 => readNzl o s | 17 => readGat o s
  | 18 => readGul o s | 19 => readCam o s | 20 => readStored 20 o s | 21 => readIns o s | 22 => readAxs o s | 23 => readLmp o s
  | 24 => readPar o s | 25 => readCal o s | 26 => readErr o s | 27 => readCap o s | 28 => readDbg o s
  | _ => none

/-- A read of word 0 of a log entry captures it (R505): latches are entries 0 to 3, ring slot `n` is entry 4 + n. -/
def snapLog (key : Nat) (live : Option LogEntry) (s : State) : State :=
  mErr (fun e =>
    let r := e.snaps.filter (fun x => x.1 != key)
    { e with snaps := match live with | some x => (key, x) :: r | none => r }) s

/-- A read of SYS_KNOT_EPOCH captures epoch and position (R518). -/
def snapEpoch (s : State) : State := mSys (fun y => { y with posSnap := y.knotPos }) s

/-- A read of MIL_MSn_CMPLO latches CMPHI (R187). -/
def snapCmp (i : Nat) (s : State) : State := mMs i (fun m => { m with cmpHiLatch := hiWord m.cmp }) s

/-- A read of MIL_MSn_HITLO latches HITHI (R187). -/
def snapHit (i : Nat) (s : State) : State := mMs i (fun m => { m with hitHiLatch := hiWord m.hit }) s

/-- A read of MIL_SYNCn_CAPLO latches CAPHI and clears the overwrite condition (R187). -/
def snapSync (n : Nat) (s : State) : State :=
  mMil (fun m => { m with sync := vmod m.sync n (fun x => { x with hiLatch := hiWord x.cap, unread := false }) }) s

/-- A read of NZL_JRN_HI removes the oldest record (R237). -/
def jrnPop (s : State) : State := mNzl (fun z => { z with journal := z.journal.drop 1 }) s

/-- What a read of the register at byte address `a` changes (R514). -/
def readEffect (a : Nat) (s : State) : State :=
  let o := a % 0x10000
  match a / 0x10000 with
  | 0 => if o = 0x110 then snapEpoch s else s
  | 3 => if o = 0x10 then opPtpSnap .device s
    else if o = 0x150 then opPtpSnap (.dom 0) s
    else if o = 0x1D0 then opPtpSnap (.dom 1) s
    else s
  | 12 => match instOf o 0x100 4 0x80 with | some (c, 0x30) => opPosSnap c s | _ => s
  | 13 => if o = 0x48 ∨ o = 0x58 then snapSync ((o - 0x48) / 16) s
    else match instOf o 0x100 32 0x20 with
      | some (i, 4) => snapCmp i s
      | some (i, 0x10) => snapHit i s
      | _ => s
  | 14 => match instOf o 0x1000 64 0x20 with | some (p, 8) => opFirSnap p s | _ => s
  | 15 => if o = 0x104 then opResData .read s else s
  | 16 => if o = 0x84 then jrnPop s else s
  | 19 => match instOf o 0x100 4 0x40 with | some (_, 4) => tickFree s | _ => s
  | 22 => if o = 4 then opAxsTbl .read s else s
  | 23 => if o = 0x14 then opLampZone .read s else if o = 0x104 then opLampUtbl .read s else s
  | 26 => match instOf o 0x1000 4 0x40 with
    | some (c, 0) => snapLog c (vget s.err.latches c none) s
    | _ => match instOf o 0x4000 256 0x30 with
      | some (n, 0) => snapLog (4 + n) (ringSlot s.err n) s
      | _ => s
  | _ => s

/-- The value that a read of a register returns: a read of a low half returns what it captures (R7, R510). -/
def regRead (a : Nat) (s : State) : Word :=
  match regShow a s with
  | none => 0
  | some v => if a = base 3 + 0x10 ∨ a = base 3 + 0x150 ∨ a = base 3 + 0x1D0 then (match regShow a (readEffect a s) with | some w => w | none => 0) else v

end Sys2Proof.Machine
end

