-- ==== Sys2Proof/Machine/RegWrite.lean ====
section
/-! DEFINITION. Writes of registers (R7, R509 to R515): what refuses a write, what it stores, and what it does. -/

namespace Sys2Proof.Machine

/-- The owning block, or the instance that a chapter names, runs: its RWI fields are closed (R7; R111, R132, R185, R239, R276,
R298, R329, R354, R404 to R406, R438, R451, R477). -/
def regRunning (a : Nat) (s : State) : Bool :=
  let o := a % 0x10000
  match a / 0x10000 with
  | 1 => decide (s.sys.st ≠ .cold)
  | 2 => awake s
  | 3 => ptpEn s ((o - 0x100) / 0x80)
  | 4 => awake s
  | 5 => awake s
  | 6 => awake s
  | 7 => awake s
  | 11 => !s.cmp.wait.isEmpty || s.cmp.comps.toList.any (·.job.isSome)
  | 12 => encRunning s ((o - 0x100) / 0x80)
  | 17 => (gate s ((o - 0x100) / 0x40)).busy
  | 18 => inPrint s
  | 19 => (openFrame s (2 * ((o - 0x100) / 0x40))).isSome || (openFrame s (2 * ((o - 0x100) / 0x40) + 1)).isSome
  | 22 => !axIdle s ((o - 0x100) / 0x80)
  | 24 => awake s
  | 25 => awake s
  | _ => false

/-- Fields that a chapter refuses by the present state with the Notice of its range (R171, R178, R340, R347, R353, R354, R449). -/
def regStateBad (a : Nat) (v : Word) (s : State) : Bool :=
  let o := a % 0x10000
  match a / 0x10000 with
  | 12 => match instOf o 0x100 4 0x80 with
    | some (c, 8) => encSsi s c && decide (bits v 31 30 ≠ 0)
    | some (c, 0x1C) => encSsi s c && decide (bits v 31 30 = 1)
    | _ => false
  | 22 => match instOf o 0x100 4 0x80 with
    | some (i, 0) => bit v 31 && !(axis s i).en && ((cmpCal s (2 * i)).failed || (cmpCal s (2 * i + 1)).failed)
    | some (i, 0x1C) => decide (bits v 23 0 < bits (regVal s (axsAddr i 0x18)) 23 0)
    | some (i, 0x24) => targetBad s i v
    | some (_, 0x28) => decide (s.sys.st = .faulted)
    | some (_, 0x2C) => decide (s.sys.st = .faulted)
    | some (i, 0x30) => decide ((regVal s (axsAddr i 0x34)).toInt ≤ v.toInt)
    | some (i, 0x34) => decide (v.toInt ≤ (regVal s (axsAddr i 0x30)).toInt)
    | _ => false
  | _ => false

/-- The RWI rule of R7: the write would change an RWI field while its owner runs. AXS_AXn_SETPOS takes no write at all then
(R351; log 45). -/
def regIdleBad (img : Bool) (a : Nat) (d : RegDesc) (new : Word) (s : State) : Bool :=
  let setpos := match instOf (a % 0x10000) 0x100 4 0x80 with | some (_, 0x54) => a / 0x10000 == 22 | _ => false
  !img && regRunning a s && (setpos || decide ((new ^^^ regVal s a) &&& d.rwi ≠ 0))

/-- The value that a write leaves in a stored register (R6, R7, R512); SYS_PACE_LIMIT is stored as 0x0100 at least (R20). -/
def regNew (a : Nat) (d : RegDesc) (v : Word) (s : State) : Word :=
  let m := d.rw ||| d.rwl ||| d.rwk ||| d.rwi
  let x := regVal s a &&& ~~~ m ||| v &&& m
  if a = 0x400 ∧ x.toNat < 0x100 then 0x100 else x

/-- What an accepted write to a stored register does beyond storing it; `old` is the value before. -/
def regStored (a : Nat) (old v : Word) (s : State) : State :=
  let o := a % 0x10000
  match a / 0x10000 with
  | 3 =>
    if o = 0 then opPtpSel v s
    else match instOf o 0x100 2 0x80 with
      | some (d, 0) => opPtpDom d s
      | some (d, 0x18) => opPtpDom d s
      | some (d, 0x1C) => opPtpDom d s
      | _ => s
  | 12 => match instOf o 0x100 4 0x80 with
    | some (c, 0) => opPosCtl c old (regVal s a) s
    | some (c, 8) => (if bit v 29 then opIdxArm c else id) (postLive a (regVal s a).toNat s)
    | some (c, 0x1C) => opPosPt c old s
    | some (_, 0xC) => postLive a v.toNat s
    | some (_, 0x10) => postLive a v.toNat s
    | some (_, 0x18) => postLive a (regVal s a).toNat s
    | _ => s
  | 13 => match instOf o 0x100 32 0x20 with
    | some (_, 0) => postLive a v.toNat s
    | _ => postLive a (regVal s a).toNat s
  | 18 => match instOf o 0x1000 64 0x40 with
    | some (p, 0) => opGulCtl p old (regVal s a) s
    | _ => s
  | 22 => match instOf o 0x100 4 0x80 with
    | some (i, 0) => opAxsCtl i old (regVal s a) s
    | some (i, 0x24) => opAxsTarget i s
    | some (i, 0x28) => opAxsVtarget i v s
    | some (i, 0x44) => opAxsGat i v s
    | some (i, 0x54) => opAxsSetpos i v s
    | _ => s
  | _ => s

/-- Detect the Notice of a value out of range: those of the head links once per port and 1 ms (R270), those of the camera blocks once per
context and 1 ms (R297); a register that belongs to no port or context has a key of its own (log 134). -/
def rangeNote (a code : Nat) (s : State) : State :=
  let key := match instOf (a % 0x10000) 0x1000 64 0x40 with
    | some (n, _) => n
    | none => if code = Err.camRange then (a % 0x10000 - 0x100) / 0x40 else 64
  if code = Err.gulRange ∨ code = Err.camRange ∨ code = Err.ispRange ∨ code = Err.insRange then raiseLim .notice code key (ms 1) [] s
  else notice code [] s

/-- A write to a stored register (R7, R511, R512), with whether it is accepted. -/
def writeStored (img : Bool) (a : Nat) (d : RegDesc) (v : Word) (s : State) : State × Bool :=
  let new := regNew a d v s
  let idle := regIdleBad img a d new s
  let range := !d.ok new || regStateBad a new s
  if idle || range then
    let s := doIf idle (notice (a / 0x10000 * 1024 + 1) []) s
    (doIf (range && decide (d.err ≠ 0)) (rangeNote a d.err) s, false)
  else
    let old := regVal s a
    (regStored a old v (setReg a new s), true)

/-- A write to a WO, W1C or data register that its rule accepts. -/
def took (s : State) : Option (State × Bool) := some (s, true)

/-- A write that its rule refuses with a Notice (R511). -/
def denied (code : Nat) (s : State) : Option (State × Bool) := some (notice code [] s, false)

/-- SYS_PACE_CLR (R20). -/
def opPaceClr (v : Word) (s : State) : State :=
  if bit v 0 then mSys (fun y => { y with paceMin := Vector.replicate 32 0xFFFF }) s else s

/-- CFG_OTP_CMD (R478): the effect of an accepted command. -/
def otpDo (cmd slot : Nat) (s : State) : State :=
  let m := BitVec.ofNat 8 (2 ^ slot)
  let dig := (List.range 8).flatMap (fun i => leBytes 4 (regVal s (base 1 + 0xA0 + 4 * i)).toNat)
  mCfg (fun c =>
    let c := { c with otpBusy := decide (cmd ≠ 0) }
    match cmd with
    | 1 => { c with otpProg := c.otpProg ||| m, otpDigests := (slot, dig) :: c.otpDigests.filter (fun x => x.1 != slot) }
    | 2 => { c with otpRev := c.otpRev ||| m }
    | 3 => { c with otpPin := true }
    | _ => c) s

/-- A CFG_OTP_CMD is accepted (R478). -/
def otpOk (cmd slot : Nat) (s : State) : Bool :=
  let c := s.cfg
  decide (s.sys.st = .ready) && c.otpOpen && !c.otpBusy
    && (match cmd with
      | 1 => !c.otpProg.getLsbD slot
      | 2 => c.otpProg.getLsbD slot
      | 3 => decide (c.otpProg &&& ~~~ c.otpRev ≠ 0)
      | _ => true)

/-- A write to CFG_OTP_CMD (R478). -/
def opOtpCmd (v : Word) (s : State) : Option (State × Bool) :=
  if otpOk (bits v 31 30) (bits v 2 0) s then took (otpDo (bits v 31 30) (bits v 2 0) s) else denied Err.cfgRange s

/-- MEM_CNT_CLR (R329). -/
def opMemClr (v : Word) (s : State) : State :=
  if bit v 0 then
    mMem (fun m => { m with cntCe := 0, cntHaz := 0, cntPanic := 0, chans := m.chans.map (fun c => { c with ce := 0 }) }) s
  else s

/-- BNK_b_CLR (R330). -/
def opBnkClr (b : Nat) (v : Word) (s : State) : State :=
  if bit v 0 then mBank b (fun k => { k with conf := Vector.replicate 4 0, ce := 0, align := 0 }) s else s

/-- ARB_CLR (R331). -/
def opArbClr (v : Word) (s : State) : State :=
  if bit v 0 then
    let clear (a : Arb) : Arb := { a with reqs := a.reqs.map (fun q => { q with grants := 0, urg := 0 }) }
    mMem (fun m => { m with arbs := m.arbs.map clear }) s
  else s

/-- TOW_CNT_CLR (R111). -/
def opTowClr (v : Word) (s : State) : State :=
  if bit v 0 then mTow (fun t => { t with cntRx := 0, cntDup := 0, cntNak := 0, cntDrop := 0 }) s else s

/-- CMP_CNT_CLR (R132): the counters, and VALID of CMP_DEC_LAST0. -/
def opCmpClr (v : Word) (s : State) : State :=
  if bit v 0 then
    mCmp (fun c => { c with
      cntBlk := 0, cntRaw := 0, inBytes := 0, outBytes := 0, decCnt := Vector.replicate 8 0, lastValid := false }) s
  else s

/-- NZL_CNT_CLR (R238). -/
def opNzlClr (v : Word) (s : State) : State :=
  if bit v 0 then mNzl (fun z => { z with cntDetour := 0, cntLost := 0, cntLate := 0 }) s else s

/-- MGT_CNT_CLR (R406). -/
def opMgtClr (v : Word) (s : State) : State :=
  if bit v 0 then mMgt (fun m => { m with cntFormat := 0, cntAuth := 0, cntReplay := 0, cntStale := 0, cntReq := 0 }) s else s

/-- ERR_ACK (R485): the Fault with this SEQ is no longer being handled. -/
def opErrAck (v : Word) (s : State) : State :=
  mErr (fun e => { e with faults := e.faults.filter (fun f => f.seq != v.toNat) }) s

/-- ERR_ACK_ALL (R485, R504). -/
def opErrAckAll (v : Word) (s : State) : State := if bit v 0 then mErr (fun e => { e with faults := [] }) s else s

/-- An error of class `c` is being handled (R485). -/
def clsHandled (s : State) (c : Nat) : Bool :=
  match c with | 0 => false | 1 => !s.err.faults.isEmpty | 2 => s.err.stopHeld | _ => s.err.fatalHeld || decide (s.sys.st = .faulted)

/-- A write to ERR_LATCH_CLR is refused (R487). -/
def latchClrBad (v : Word) (s : State) : Bool := (List.range 4).any (fun c => bit v c && clsHandled s c)

/-- ERR_LATCH_CLR (R487). -/
def opLatchClr (v : Word) (s : State) : State :=
  mErr (fun e => { e with latches := each (fun c l => if bit v c then vmod l c (fun _ => none) else l) [0, 1, 2, 3] e.latches }) s

/-- ERR_CLR (R504). -/
def opErrClr (v : Word) (s : State) : State :=
  if bit v 0 then mErr (fun e => { e with nest := 0, sec := 0, supp := Vector.replicate 29 0 }) s else s

/-- A capture start or CLEAR is accepted (R490). -/
def capOk (s : State) : Bool := (decide (s.sys.st = .faulted) || s.dbg.halted) && !s.cap.busy

/-- A capture starts (R490, R492). -/
def capStart (mask : BitVec 16) (s : State) : State :=
  let t := devTime s
  mCap (fun c => { c with
    busy := true, done := false, refused := false, mask := mask
    origin := if s.sys.st = .faulted then 1 else 2
    dstate := devCode s.sys.st
    trigSeq := match vget s.err.latches 3 none with | some e => e.seq | none => 0
    dtSec := secOf t, dtNs := nsOf t }) s

/-- A capture start that is refused (R490). -/
def capRefuse (s : State) : State := notice Err.capRefused [] (mCap (fun c => { c with refused := true }) s)

/-- CLEAR writes the CAPTURE bank with zeros (R490, R491). -/
def capZero (s : State) : State := mBank 5 (fun b => { b with data := [] }) s

/-- A write to CAP_CMD (R490, R506); GO wins over CLEAR (log 46). -/
def opCapCmd (v : Word) (s : State) : Option (State × Bool) :=
  if bit v 31 then (if capOk s then took (capStart (v.setWidth 16) s) else some (capRefuse s, false))
  else if bit v 30 then (if capOk s then took (capZero s) else denied Err.capRefused s)
  else took s

/-- A bit of a W1C field clears where a 1 is written. -/
def w1c (cur v mask : Word) : Word := cur &&& ~~~ (v &&& mask)

/-- Writes to registers that store nothing themselves: commands, W1C flags, indexed data, staged values; `none` where the
address is no such register. -/
def writeCmd (img : Bool) (a : Nat) (v : Word) (s : State) : Option (State × Bool) :=
  let o := a % 0x10000
  match a / 0x10000 with
  | 0 =>
    if o = 0x100 then some (opKnot v s)
    else if o = 0x404 then took (mSys (fun y => { y with paceStat := w1c y.paceStat v 0xFFFFFFFF }) s)
    else if o = 0x408 then took (opPaceClr v s)
    else none
  | 1 =>
    if o = 0x14 then took (mKeep (fun k => { k with resetCause := k.resetCause &&& ~~~ (v.setWidth 3) }) s)
    else if o = 0x84 then took s
    else if o = 0x88 then opOtpCmd v s
    else none
  | 2 => match instOf o 0x100 2 0x80 with | some (n, 0x34) => took (opNetClr n v s) | _ => none
  | 3 => match instOf o 0x100 2 0x80 with | some (d, 0x4C) => took (opPtpClr d v s) | _ => none
  | 4 => if o = 0x18 then took (opMgtClr v s) else none
  | 5 => if o = 0x20 then took (opTowClr v s) else none
  | 7 => if o = 0xC then took (opMemVerify v s) else if o = 0x40 then took (opMemClr v s) else none
  | 8 => match instOf o 0x100 7 0x40 with | some (b, 0x1C) => took (opBnkClr b v s) | _ => none
  | 9 =>
    if o = 0 then took (opArbClr v s)
    else match instOf o 0x1B00 1 0x100 with
      | some (_, r) => if r % 16 = 0 ∧ r < 0x80 then denied Err.arbRange s else none
      | none => none
  | 10 => if o = 0x30 then took (opStrClr v s) else none
  | 11 => if o = 0x20 then took (opCmpClr v s) else none
  | 12 => match instOf o 0x100 4 0x80 with
    | some (c, 0x24) => took (mEnc c (fun e => { e with stat := e.stat &&& ~~~ (v.setWidth 10) }) s)
    | _ => none
  | 13 =>
    if o = 0 then took (mMil (fun m => { m with stat := w1c m.stat v 0xFFFFFFFF }) s)
    else match instOf o 0x100 32 0x20 with
      | some (i, 4) => took (mMs i (fun m => { m with cmpLo := v }) s)
      | some (i, 8) => took (postLive a (msStaged i v s) s)
      | _ => none
  | 14 => if o = 0x20 then took (opFirCntClr v s) else if o = 0x108 then took (opGeoCheck v s) else none
  | 15 => if o = 0x104 then took (opResData (.write v) s) else none
  | 16 =>
    if o = 0x54 then (match nzlReqBad v s with | some c => denied c s | none => took (opNzlReq v s))
    else if o = 0x70 then took (opNzlClr v s)
    else none
  | 17 => match instOf o 0x100 2 0x40 with
    | some (g, 0x28) => if gateCmdBad g v s then denied Err.gateSetup s else took (opGateCmd g v s)
    | _ => none
  | 18 =>
    if o = 0x18 then (if bit v 0 && s.gul.hcfgBusy then some (hcfgRefuse s, false) else took (opHcfgGo v s))
    else if o = 0x44 then (if bit v 0 && s.gul.eyePort.isSome then some (eyeRefuse s, false) else took (opEyeGo v s))
    else match instOf o 0x1000 64 0x40 with
      | some (p, 0x34) => took (opGulClr p v s)
      | _ => none
  | 19 => match instOf o 0x100 4 0x40 with | some (p, 0x1C) => took (opCamClr p v s) | _ => none
  | 21 => match instOf o 0x1000 8 0x40 with
    | some (c, 0x10) => took (opInsRel c v s)
    | some (c, 0x20) => took (opInsClr c v s)
    | _ => none
  | 22 =>
    if o = 4 then (if axTblBad v then some (axTblStep (notice Err.axsRange [] s), false) else took (opAxsTbl (.write v) s))
    else match instOf o 0x100 4 0x80 with
      | some (i, 0x60) => took (mAxs i (fun k => { k with stat := k.stat &&& ~~~ (v.setWidth 8) }) s)
      | _ => none
  | 23 =>
    if o = 8 then took (opLmpCmd v s)
    else if o = 0x14 then took (opLampZone (.write v) s)
    else if o = 0x104 then took (opLampUtbl (.write v) s)
    else match instOf o 0x200 2 0x20 with
      | some (n, 4) => took (mLmp (fun l => { l with chains := vmod l.chains n (fun c => { c with echo := c.echo && !bit v 0 }) }) s)
      | some (n, 0x10) => took (opLbusGo n v s)
      | _ => none
  | 24 =>
    if o = 0x34 then took (opParClr v s)
    else if o = 0x40 then
      took (mKeep (fun k => { k with feedLoss := k.feedLoss && !bit v 2, coreWatch := k.coreWatch && !bit v 1 }) s)
    else none
  | 25 => if o = 0x10 then took (opCalForce v s) else none
  | 26 =>
    if o = 0x10 then took (opErrAck v s)
    else if o = 0x14 then took (opErrAckAll v s)
    else if o = 0x18 then (if latchClrBad v s then denied Err.errRange s else took (opLatchClr v s))
    else if o = 0x1C then took (opErrClr v s)
    else none
  | 27 => if o = 0 && !img then opCapCmd v s else none
  | _ => none

/-- The next CFG_OTP_CMD is unlocked exactly by a write of 0x0000_A5C3 to CFG_OTP_UNLOCK immediately before it in the CFG window
(R478). -/
def otpGate (a : Nat) (v : Word) (s : State) : State :=
  if a / 0x10000 = 1 then mCfg (fun c => { c with otpOpen := decide (a = base 1 + 0x84 ∧ v = 0xA5C3) }) s else s

/-- A register of POS or MIL while KEEP_RESET_N holds the two blocks at reset (R162). -/
def heldAtReset (a : Nat) (s : State) : Bool := s.pos.keepReset && (a / 0x10000 == 12 || a / 0x10000 == 13)

/-- A register write at an aligned address of a window, with whether it is accepted (R7, R511): writes to RO registers and to
reserved offsets change nothing (R7, R510), nor do writes to POS and MIL while KEEP_RESET_N holds them at reset (R162). -/
def regWrite (img : Bool) (a : Nat) (v : Word) (s : State) : State × Bool :=
  if heldAtReset a s then (s, true) else
  let r := match writeCmd img a v s with
    | some r => r
    | none => match regDesc a with
      | some d => writeStored img a d v s
      | none => (s, true)
  (otpGate a v r.1, r.2)

/-- The address lies in no window (R510). -/
def regOutside (a : Nat) : Bool := decide (0x1D0000 ≤ a)

/-- Registers that take image writes and are not stored words: data windows and staged values. -/
def imageWindow (a : Nat) : Bool :=
  a == base 15 + 0x104 || a == base 22 + 4 || a == base 23 + 0x14 || a == base 23 + 0x104
    || (a / 0x10000 == 13 && (match instOf (a % 0x10000) 0x100 32 0x20 with | some (_, 4) => true | some (_, 8) => true | _ => false))
    || (a / 0x10000 == 9 && (match instOf (a % 0x10000) 0x1000 12 0x100 with | some (_, r) => r % 16 == 0 && decide (r < 0x80) | _ => false))

/-- An address at which R463 rejects a REG entry with REC_CONTENT. -/
def imageRegBad (a : Nat) : Bool :=
  let b := a / 0x10000
  decide (a % 4 ≠ 0) || regOutside a || b == 0 || b == 26 || b == 27 || b == 28
    || (decide (base 1 + 0x80 ≤ a) && decide (a < base 1 + 0xC0))
    || ((regDesc a).isNone && !imageWindow a)

/-- DBG_REFUSED, at most once per 1 ms (R503). -/
def dbgRefuse (s : State) : State := raiseLim .notice Err.dbgRefused 0 (ms 1) [] s

/-- A Waypost write is refused before it reaches its register (R503, R515). -/
def wpBarred (s : State) : Bool := decide (s.sys.st = .loading) || (inPrint s && !s.dbg.halted)

/-- A register write by a master, with its answer (R503, R509 to R515). -/
def masterWrite (m : Master) (a : Nat) (v : Word) (s : State) : State × AccRes :=
  let dbg := a / 0x10000 == 28
  match m with
  | .image => if imageRegBad a then (s, .error) else let r := regWrite true a v s; (r.1, if r.2 then .ok else .refused)
  | .rmp =>
    if a % 4 ≠ 0 ∨ regOutside a then (s, .badParam)
    else if dbg && (regShow a s).isSome then (notice (28 * 1024 + 1) [] s, .refused)
    else let r := regWrite false a v s; (r.1, if r.2 then .ok else .refused)
  | .waypost =>
    if a % 4 ≠ 0 ∨ regOutside a then (s, .error)
    else if s.sys.st = .cold ∧ dbg = false then (s, .error)
    else if wpBarred s && !dbg then (dbgRefuse s, .refused)
    else
      let r := regWrite false a v s
      if r.2 then (r.1, .ok) else (dbgRefuse (mErr (fun e => { e with found := e.found.filter (·.code != Err.dbgRefused) }) r.1), .refused)

/-- A register can be read in Cold (R515). -/
def coldReads (a : Nat) : Bool :=
  a / 0x10000 == 12 || a / 0x10000 == 13 || a == base 1 + 0x14 || a == base 24 + 0x40 || a == 4

/-- A register read by a master: value, effect and answer (R7, R509, R510, R514, R515). -/
def masterRead (m : Master) (a : Nat) (s : State) : Word × State × AccRes :=
  let bad := match m with | .rmp => AccRes.badParam | _ => AccRes.error
  if a % 4 ≠ 0 ∨ regOutside a then (0, s, bad)
  else if s.sys.st = .cold ∧ coldReads a = false then (0, s, bad)
  else if s.sys.st = .cold ∧ a = 4 then (0, s, .ok)
  else (regRead a s, readEffect a s, .ok)

end Sys2Proof.Machine
end

