-- ==== Sys2Proof/Machine/Reset.lean ====
section
/-! DEFINITION. Resets: RESET_N, the supply monitors and RMP COMMAND RESET (R453 to R457), the release (R455, R458), KEEP_RESET_N
(R161, R162, R456). -/

namespace Sys2Proof.Machine

/-- Registers that a core reset leaves: those of the KEEP island's blocks (R161) and of Waypost (R495). -/
def keptReg (a : Nat) : Bool := a / 0x10000 == 12 || a / 0x10000 == 13 || a / 0x10000 == 28

/-- Every block outside the KEEP island at its reset values (R454, R472); what lies outside the blocks stays: the levels of the limit
inputs and of the hitch input, the straps as sampled, the Waypost port (R495), the CAPTURE bank (R491). -/
def blocksReset (s : State) : State :=
  let r : State := { State.reset with
    pending := s.pending
    now := s.now
    free := s.free
    outbox := s.outbox
    regs := s.regs.filter (fun x => keptReg x.1)
    act := s.act.filter (fun x => keptReg x.1)
    dbg := { s.dbg with atBp := [], accTag := none, accStatus := if s.dbg.accTag.isSome then 2 else s.dbg.accStatus }
    keep := s.keep
    pos := s.pos
    mil := s.mil
    par := { ParState.init with strapB := s.par.strapB, hitchIn := s.par.hitchIn, hitchAt := s.par.hitchAt } }
  let r := mBank 5 (fun b => { b with data := (bank s 5).data }) r
  each (fun a t => mAxs a (fun k => { k with limLo := (axis s a).limLo, limHi := (axis s a).limHi }) t) [0, 1, 2, 3] r

/-- The pulse outputs of R183. -/
def allPulses : List PulseOut := [0, 1, 2, 3].map .msOut ++ [0, 1, 2, 3].map .camTrig

/-- The outputs that a reset takes to their inactive levels: hitch (R412), advice, lamps (R36), bridges (R333), pulses (R161). -/
def resetOutputs (s : State) : State :=
  let s := lanesIdle (hitchRelease s)
  let s := if s.par.slow then emit (.pin "SLOW_N" 0 false) s else s
  let s := if s.par.hold then emit (.pin "HOLD_N" 0 false) s else s
  let s := if operational s then emit (.scan [] 0 0 0) s else s
  let s := each (fun a s => each (fun b s => if (phaseOf (axis s a) b).drive = 0 then s else bridgeTo a b 0 s) [false, true] s) [0, 1, 2, 3] s
  let s := fireRests s.fir.geo Geo.init s
  each (fun o s => if pulseOn s o then pulseSet o false s else s) allPulses s

/-- A write to MIL_MSn_CTL that a reset overtakes arms nothing (R161; log 113). -/
def unarmed (w : Nat × Nat) : Nat × Nat :=
  match instOf (w.1 % 0x10000) 0x100 32 0x20 with
  | some (_, 0) => if w.1 / 0x10000 = 13 then (w.1, w.2 % 2 ^ 31) else w
  | _ => w

/-- Every milestone is disarmed and its STALE flag clears (R161). -/
def milestonesOff (s : State) : State :=
  mPos (fun p => { p with waiting := p.waiting.map unarmed })
    (mMil (fun m => { m with ms := m.ms.map (fun x => { x with armed := false, stale := false, due := none, later := [] }) }) s)

/-- The Fatal CORE_LOST that the KEEP island latched is logged when the core is reset (R436): the first entry of the fresh log. -/
def logCoreLost (s : State) : State :=
  if s.keep.coreLost then
    let x := mkEntry s ⟨.fatal, Err.coreLost, []⟩
    mKeep (fun k => { k with coreLost := false })
      (mErr (fun e => { e with head := x.seq, ring := [x], latches := vmod e.latches 3 (fun _ => some x) }) s)
  else s

/-- A reset of the core with the causes it records (R454, R457). The fuses stay (R478). -/
def coldReset (cause : BitVec 3) (s : State) : State :=
  let s := resetOutputs s
  let c := s.cfg
  let r := milestonesOff (blocksReset s)
  let r := mCfg (fun k => { k with
    supplyHold := c.supplyHold, otpProg := c.otpProg, otpRev := c.otpRev, otpPin := c.otpPin, otpDigests := c.otpDigests }) r
  logCoreLost (if r.pos.keepReset then r else mKeep (fun k => { k with resetCause := k.resetCause ||| cause }) r)

/-- A monitored rail falls below its range (R453). -/
def supplyLow (s : State) : State := mCfg (fun c => { c with supplyHold := true }) (coldReset 2 s)

/-- EXTEST, CLAMP and HIGHZ, which take effect only in Cold (R496). -/
def irDrives (ir : BitVec 6) : Bool := ir == 0 || ir == 3 || ir == 4

/-- RESET_N is released (R455, R458): straps sampled, T at 0 (R381), the CAPTURE bank zeroed after a supply hold (R491), no instruction of
the boundary scan in effect (R496), Cold to Loading (R34). -/
def resetReleased (bootSel : BitVec 2) (role : Bool) (s : State) : State :=
  let s := if s.cfg.supplyHold then capZero s else s
  let s := mDbg (fun d => if irDrives d.ir then { d with ir := 0x3F, irref := true } else d) s
  let s := mPar (fun p => { p with strapB := role }) s
  setDev .loading (mCfg (fun c => { c with bootSel := bootSel, roleStrap := role, supplyHold := false, relAt := s.now }) s)

/-- The outputs of the KEEP island's blocks go to their inactive levels, and the hitch releases (R161, R162, R412). -/
def keepOutputs (s : State) : State :=
  let s := hitchRelease s
  let s := each (fun o s =>
    let (name, i, r) := pulsePin o
    if bit (liveVal s r) 30 == pulseOn s o then s else emit (.pin name i true) s) allPulses s
  each (fun c s => if bits (posReg s c 0x1C) 31 30 = 0 then s else emit (.ptStep c false false false) s) [0, 1, 2, 3] s

/-- An encoder channel at its reset values; its inputs keep their levels (R162). -/
def keepChan (e : EncChan) : EncChan := { EncChan.init with lvA := e.lvA, lvB := e.lvB }

/-- The blocks of the KEEP island at their reset values (R162). -/
def keepBlocks (s : State) : State :=
  let kept := fun (x : Nat × Word) => !(x.1 / 0x10000 == 12 || x.1 / 0x10000 == 13)
  { s with
    pos := { PosState.init with ch := s.pos.ch.map keepChan }
    mil := MilState.init
    regs := s.regs.filter kept
    act := s.act.filter kept }

/-- KEEP_RESET_N is asserted (R162, R456, R457). -/
def keepReset (s : State) : State :=
  let s := keepBlocks (keepOutputs s)
  let s := mKeep (fun k => { KeepState.init with feedA := k.feedA, feedB := k.feedB }) s
  if awake s then raise .fatal Err.keepReset [] s else s

/-- SUPPLY_LOW (R453, R457). -/
def execSupplyLow (_ : Rail) (s : State) : Host.Outcome State Fault Refusal := always supplyLow s

/-- RESET_ASSERT (R34, R161, R454). -/
def execResetAssert (s : State) : Host.Outcome State Fault Refusal := always (coldReset 1) s

/-- RESET_RELEASE (R34, R455, R458). -/
def execResetRelease (bootSel : BitVec 2) (pairRole : Bool) (s : State) : Host.Outcome State Fault Refusal :=
  event (decide (s.sys.st = .cold)) "RESET_RELEASE" (resetReleased bootSel pairRole) s

/-- KEEP_RESET (R162, R456). -/
def execKeepReset (s : State) : Host.Outcome State Fault Refusal := always keepReset s

/-- KEEP_RESET_RELEASE (R161). -/
def execKeepResetRelease (s : State) : Host.Outcome State Fault Refusal :=
  event s.pos.keepReset "KEEP_RESET_RELEASE" (mPos (fun p => { p with keepReset := false })) s

/-- RESET_EXECUTE (R401, R457): the reset that COMMAND RESET asked for, 1 ms after its reply. -/
def execResetExecute (s : State) : Host.Outcome State Fault Refusal := event s.mgt.resetDue "RESET_EXECUTE" (coldReset 4) s

end Sys2Proof.Machine
end

