-- ==== Sys2Proof/Machine/Image.lean ====
section
/-! DEFINITION. The configuration image (R459 to R472, R539): its headers, its two passes, its records, and the choice of a candidate.
All fields are little-endian; a MAC or IP address is read as the little-endian number whose most significant byte goes first on the wire (log 48). -/

namespace Sys2Proof.Machine

/-- The FMODE fits the flash bus and FDIV fits the FMODE (R460). -/
def fmodeOk (quad : Bool) (mode div : Nat) : Bool :=
  match mode with
  | 0 => decide (3 ≤ div) && decide (div ≤ 15)
  | 1 => quad && decide (1 ≤ div) && decide (div ≤ 15)
  | 2 => !quad && decide (div ≤ 15)
  | _ => false

/-- The header checks of R471 in their order: 0 passed, else the reason code of R539. -/
def headerCheck (quad : Bool) (h : Bytes) : Nat :=
  let ilen := leAt h 16 4
  if leAt h 0 4 ≠ 0x474D4952 ∨ byteAt h 4 ≠ 1 ∨ leAt h 6 2 ≠ 64 then 1
  else if (crc32c (h.take 60)).toNat ≠ leAt h 60 4 then 2
  else if leAt h 8 4 = 0x2618 ∧ 128 ≤ ilen ∧ ilen ≤ 16777216 ∧ ilen % 4 = 0 ∧ 1 ≤ leAt h 20 4 ∧ leAt h 20 4 ≤ 65535
      ∧ fmodeOk quad (byteAt h 24) (byteAt h 25) = true ∧ byteAt h 26 ≤ 31 ∧ byteAt h 29 ≤ 4
      ∧ byteAt h 5 = 0 ∧ leAt h 30 2 = 0 ∧ leAt h 40 20 = 0 then 0
  else 3

/-- The header of a slot. -/
def slotHeader (s : State) (i : Nat) : Bytes := match s.cfg.hdrs.find? (fun x => x.1 == i) with | some x => x.2 | none => []

/-- Update a slot's result. -/
def mSlot (i : Nat) (f : SlotResult → SlotResult) (s : State) : State := mCfg (fun c => { c with slots := vmod c.slots i f }) s

/-- A slot's result. -/
def slotOfImage (s : State) (i : Nat) : SlotResult := vget s.cfg.slots i ⟨0, 0, 0, false⟩

/-- The candidate being read, or BOOT_NOIMAGE when none is left (R470). -/
def candidate (s : State) : State :=
  match s.cfg.cands with
  | [] => raise .fatal Err.bootNoimage [] (mCfg (fun c => { c with pass := 0 }) s)
  | i :: _ => mCfg (fun c => { c with pass := 1, recs := [], recIdx := 0, dramSeen := 0, digest := [], fmode := byteAt (slotHeader s i) 24 }) s

/-- The headers of slots A and B have been read (R470, R471): slot B is not read with BOOT_SEL[1] at 1. -/
def imageHeaders (a b : Bytes) (s : State) : State :=
  let one := s.cfg.bootSel.getLsbD 1
  let quad := s.cfg.bootSel.getLsbD 0
  let take := fun (i : Nat) (h : Bytes) (s : State) =>
    let r := headerCheck quad h
    mSlot i (fun _ => ⟨r, 0, if r = 0 then w32 (leAt h 12 4) else 0, true⟩) (mCfg (fun c => { c with hdrs := c.hdrs ++ [(i, h)] }) s)
  let s := take 0 a s
  let s := if one then s else take 1 b s
  let ok := fun (i : Nat) => (slotOfImage s i).read && decide ((slotOfImage s i).reason = 0)
  let order := if (slotOfImage s 0).gen.toNat < (slotOfImage s 1).gen.toNat then [1, 0] else [0, 1]
  candidate (mCfg (fun c => { c with cands := order.filter ok }) s)

/-- The candidate is rejected (R472, R539), and the next is tried. -/
def reject (reason detail : Nat) (s : State) : State :=
  match s.cfg.cands with
  | [] => s
  | i :: r => candidate (mCfg (fun c => { c with cands := r }) (mSlot i (fun x => { x with reason := reason, detail := detail }) s))

/-- A rejection in pass 2 returns every block to its reset values first (R472; log 47): the loading itself, the device state and the
time counters go on. -/
def rejectReset (reason detail : Nat) (s : State) : State :=
  let r := blocksReset s
  let r := mSys (fun y => { y with st := s.sys.st, prev := s.sys.prev }) (mCfg (fun _ => s.cfg) r)
  let r := mDom 1 (fun d => { d with t := (dom s 1).t }) (mDom 0 (fun d => { d with t := (dom s 0).t }) r)
  reject reason detail r

/-- The records of an image from record `i` on, `n` of them due and RTYPE at least `ty` (R471 check 4): the records, or the index at
which the sequence fails. -/
def recordWalk : Nat → Nat → Nat → Bytes → List Bytes × Option Nat
  | 0, i, _, b => ([], if b.isEmpty then none else some i)
  | n + 1, i, ty, b =>
    let len := 12 + leAt b 4 4
    let t := leAt b 0 2
    if b.length < 12 ∨ b.length < len ∨ leAt b 4 4 % 4 ≠ 0 ∨ t < ty then ([], some i)
    else
      let r := recordWalk n (i + 1) t (b.drop len)
      (b.take len :: r.1, r.2)

/-- RTYPE of a record. -/
def recType (r : Bytes) : Nat := leAt r 0 2

/-- The body of a record. -/
def recBody (r : Bytes) : Bytes := (r.drop 8).take (r.length - 12)

/-- RCRC of a record holds (R461). -/
def recCrcOk (r : Bytes) : Bool := (crc32c (r.take (r.length - 4))).toNat == leAt r (r.length - 4) 4

/-- The index of the first record that satisfies `p`. -/
def recIndex (p : Bytes → Bool) (l : List Bytes) : Option Nat := (l.zipIdx.find? (fun x => p x.1)).map (·.2)

/-- The index of a second record of type `t`. -/
def recSecond (t : Nat) (l : List Bytes) : Option Nat := ((l.zipIdx.filter (fun x => recType x.1 == t)).drop 1).head?.map (·.2)

/-- Check 5 of R471: the index of the first record whose type is reserved or comes once too often, `Config.noRecord` for a missing type. -/
def recTypesBad (l : List Bytes) : Option Nat :=
  let bad := [recIndex (fun r => recType r == 0 || decide (8 ≤ recType r)) l, recSecond 2 l, recSecond 3 l, recSecond 7 l].filterMap id
  match bad with
  | a :: r => some (r.foldl min a)
  | [] => if [2, 4, 7].all (fun t => l.any (fun r => recType r == t)) then none else some Config.noRecord.toNat

/-- The digest is one of a slot that is programmed and not revoked (R462). -/
def pinned (s : State) (d : Bytes) : Bool :=
  (List.range 8).any (fun k => s.cfg.otpProg.getLsbD k && !s.cfg.otpRev.getLsbD k && s.cfg.otpDigests.any (fun x => x.1 == k && x.2 == d))

/-- Pass 1 of the candidate (R471 checks 4 to 8). -/
def imagePass1 (img : Bytes) (s : State) : State :=
  let h := slotHeader s (nth s.cfg.cands 0 0)
  let n := img.length - 32
  let (recs, bad) := recordWalk (leAt h 20 4) 0 0 ((img.take n).drop 64)
  let d := sha256 (img.take n)
  match bad with
  | some i => reject 4 i s
  | none => match recTypesBad recs with
    | some i => reject 5 i s
    | none => match recIndex (fun r => !recCrcOk r) recs with
      | some i => reject 6 i s
      | none =>
        if d ≠ img.drop n then reject 7 0 s
        else if s.cfg.otpPin && !pinned s d then reject 8 0 s
        else mCfg (fun c => { c with pass := 2, recs := recs, recIdx := 0, digest := d }) s

/-- REG entries from the first (R463): 0 applied, 10 REC_CONTENT, 11 REG_REFUSED. -/
def applyRegs : Nat → Bytes → State → State × Nat
  | 0, _, s => (s, 0)
  | n + 1, b, s =>
    let r := masterWrite .image (leAt b 0 4) (w32 (leAt b 4 4)) s
    match r.2 with
    | .ok => applyRegs n (b.drop 8) r.1
    | .refused => (r.1, 11)
    | _ => (r.1, 10)

/-- Register writes of a record in order; false when one is refused. -/
def imageWrites : List (Nat × Word) → State → State × Bool
  | [], s => (s, true)
  | x :: l, s =>
    let r := regWrite true x.1 x.2 s
    if r.2 then imageWrites l r.1 else (r.1, false)

/-- The section of a port in the NETID body (R464). -/
def netIdOf (b : Bytes) (o : Nat) : NetIdPort where
  mac := BitVec.ofNat 48 (leAt b o 6)
  vid := leAt b (o + 6) 2
  dscp := byteAt b (o + 8)
  pfx4 := byteAt b (o + 9)
  pfxLl := byteAt b (o + 10)
  pfxG := byteAt b (o + 11)
  ipv4 := BitVec.ofNat 32 (leAt b (o + 12) 4)
  gw4 := BitVec.ofNat 32 (leAt b (o + 16) 4)
  ll6 := BitVec.ofNat 128 (leAt b (o + 20) 16)
  g6 := BitVec.ofNat 128 (leAt b (o + 36) 16)
  gw6 := BitVec.ofNat 128 (leAt b (o + 52) 16)
  peer4 := BitVec.ofNat 32 (leAt b (o + 68) 4)
  peer6 := BitVec.ofNat 128 (leAt b (o + 72) 16)

/-- A port's section is out of range (R464). -/
def netIdBad (q : NetIdPort) : Bool :=
  decide (q.mac = 0) || q.mac.getLsbD 40 || decide (4094 < q.vid) || decide (63 < q.dscp) || decide (32 < q.pfx4)
    || decide (128 < q.pfxLl) || decide (128 < q.pfxG) || decide (q.ll6.toNat / 2 ^ 118 ≠ 0x3FA)

/-- NETID (R464). -/
def applyNetId (b : Bytes) (s : State) : State × Nat :=
  if b.length < 224 then (s, 10)
  else
    let ports : Vector NetIdPort 2 := Vector.mk #[netIdOf b 32, netIdOf b 128] rfl
    let s : State := { s with netId := ⟨BitVec.ofNat 32 (leAt b 8 4), BitVec.ofNat 128 (leAt b 12 16), ports⟩ }
    let w := fun (o a : Nat) => if leAt b o 2 = 0 then [] else [(a, w32 (leAt b o 2))]
    let r := imageWrites (w 0 (base 5) ++ w 2 (base 4) ++ w 4 (base 24 + 0xC)) s
    let bad := [0, 1].any (fun i => decide (netMode s i ≠ 0) && netIdBad (netIdPort s i))
    (r.1, if r.2 && !bad then 0 else 10)

/-- KEYS (R465). -/
def applyKeys (b : Bytes) (s : State) : State × Nat :=
  let n := byteAt b 0
  let ks := (List.range n).map (fun i => (⟨byteAt b (4 + 36 * i), byteAt b (5 + 36 * i), (b.drop (8 + 36 * i)).take 32⟩ : Key))
  let ok := decide (1 ≤ n) && decide (n ≤ 8) && decide (4 + 36 * n ≤ b.length)
    && ks.all (fun k => decide (k.id ≤ 7) && decide (1 ≤ k.role) && decide (k.role ≤ 3)) && decide (ks.map (·.id)).Nodup
  if ok then (mMgt (fun m => { m with keys := ks }) s, 0) else (s, 10)

/-- Strictly rising. -/
def rising : List Int → Bool
  | a :: b :: r => decide (a < b) && rising (b :: r)
  | _ => true

/-- The populated channels (R299). -/
def chEnabled (s : State) : BitVec 8 := (regVal s (base 7)).setWidth 8

/-- The delay set at offset `o` of a DRAMSET body (R303, R466). -/
def delaySetAt (b : Bytes) (o : Nat) : DelaySet := ⟨sgn 16 (leAt b o 2), (List.range 10).map (fun i => byteAt b (o + 2 + i))⟩

/-- DRAMSET (R466). -/
def applyDram (b : Bytes) (s : State) : State × Nat :=
  let mask := BitVec.ofNat 8 (byteAt b 0) &&& chEnabled s
  let nset := byteAt b 1
  let nmr := byteAt b 2
  let timing := (List.range 16).map (fun i => leAt b (4 + 2 * i) 2)
  let sets := (List.range nset).map (fun i => delaySetAt b (36 + 2 * nmr + 12 * i))
  let mrs := (List.range nmr).map (fun i => (byteAt b (36 + 2 * i), byteAt b (37 + 2 * i)))
  let ok := decide (1 ≤ nset) && decide (nset ≤ 8) && decide (nmr ≤ 32) && decide (36 + 2 * nmr + 12 * nset ≤ b.length)
    && timing.all (fun t => decide (1 ≤ t)) && rising (sets.map (·.temp)) && decide (mask &&& s.cfg.dramSeen = 0)
  if ok then
    let chans := onlineChans mask
    (mCfg (fun c => { c with dramSeen := c.dramSeen ||| mask }) (mMem (fun m => { m with
      sets := m.sets ++ chans.map (fun c => (c, sets))
      timing := m.timing ++ chans.map (fun c => (c, timing))
      modeRegs := m.modeRegs ++ chans.map (fun c => (c, mrs)) }) s), 0)
  else (s, 10)

/-- A CALSET target id names a target of R439. -/
def calTargetOk (t : Nat) : Bool :=
  let i := t % 4096
  match t / 4096 with
  | 1 => decide (i ≤ 67)
  | 2 => decide (i ≤ 65)
  | 3 => decide (i ≤ 65)
  | 4 => decide (i ≤ 65)
  | 5 => decide (i ≤ 9)
  | _ => false

/-- CALSET entries from the first (R440, R467); none where one is not allowed. -/
def calEntries : Nat → Bytes → List CalSet → Option (List CalSet)
  | 0, _, l => some l
  | n + 1, b, l =>
    let t := leAt b 0 2
    let np := byteAt b 3
    let pts := (List.range np).map (fun i => (sgn 16 (leAt b (4 + 4 * i) 2), sgn 16 (leAt b (6 + 4 * i) 2)))
    if decide (b.length < 4 + 4 * np) || !calTargetOk t || l.any (fun x => x.target == t) || decide (np = 0) || decide (8 < np)
        || !rising (pts.map (·.1)) || decide (7 < byteAt b 2)
    then none
    else calEntries n (b.drop (4 + 4 * np)) (l ++ [⟨t, byteAt b 2, pts⟩])

/-- CALSET (R467). -/
def applyCal (b : Bytes) (s : State) : State × Nat :=
  let n := leAt b 0 2
  if n = 0 ∨ 256 < n then (s, 10)
  else match calEntries n (b.drop 4) s.cal.sets with
    | some l => (mCal (fun c => { c with sets := l }) s, 0)
    | none => (s, 10)

/-- A nozzle entry that the image may hold: as a host request (R220, R468). -/
def nozLoadOk (e : Nat) : Bool := decide (nzState e < 5) && decide (nzBits e 55 2 ≠ 3) && decide (e % 256 = 0)

/-- Words of a TABLE record as pairs of byte place and word. -/
def tableWords (o : Nat) (d : Bytes) : List (Nat × Word) := (List.range (d.length / 4)).map (fun i => (o + 4 * i, w32 (leAt d (4 * i) 4)))

/-- TABLE (R468). -/
def applyTable (b : Bytes) (s : State) : State × Nat :=
  let o := leAt b 4 4
  let d := b.drop 8
  let ws := tableWords o d
  if b.length < 8 then (s, 10)
  else match byteAt b 0 with
    | 1 =>
      if decide (o % 8 = 0) && decide (d.length % 8 = 0) && decide (o + d.length ≤ 2097152)
          && (List.range (d.length / 8)).all (fun i => nozLoadOk (leAt d (8 * i) 8))
      then (bankPut 2 o d s, 0) else (s, 10)
    | 2 => if o % 4 = 0 ∧ o + d.length ≤ 0x50000 then (bankPut 4 o d s, 0) else (s, 10)
    | 3 =>
      if decide (o % 4 = 0) && decide (o + d.length ≤ 16384) && ws.all (fun x => !axTblBad x.2) then
        (each (fun (x : Nat × Word) s =>
          let i := x.1 / 4 % 1024
          mAxs (x.1 / 4096) (fun k => { k with tblShadow := spSet (sineWord i) k.tblShadow i (x.2 &&& 0x03FF03FF) }) s) ws s, 0)
      else (s, 10)
    | 4 =>
      if decide (o % 4 = 0) && decide (o + d.length ≤ 4112) && ws.all (fun x => decide (bits x.2 31 16 = 0)) then
        (each (fun (x : Nat × Word) s =>
          let i := x.1 / 4
          mLmp (fun l => { l with utblShadow := spSet 0 l.utblShadow (512 * (i / 257) + i % 257) x.2 }) s) ws s, 0)
      else (s, 10)
    | _ => (s, 10)

/-- The registers of a segment entry of GEOM. -/
def geomSegment (b : Bytes) (i : Nat) : Nat × List (Nat × Word) :=
  let o := 16 + 16 * i
  let n := leAt b o 2
  (n, [(base 14 + 0x2000 + 4 * n, w32 (leAt b (o + 4) 4)), (base 16 + 0x1000 + 4 * n, w32 (leAt b (o + 8) 4)),
    (base 16 + 0x1800 + 4 * n, w32 (leAt b (o + 12) 4))])

/-- GEOM (R469): with the reason code of R61 when the check of R60 fails. -/
def applyGeom (b : Bytes) (s : State) : State × Nat × Option Nat :=
  let n := leAt b 12 4
  let flag := leAt b (16 + 16 * n) 4
  let segs := (List.range (min n 512)).map (geomSegment b)
  let ok := decide (1 ≤ n) && decide (n ≤ 512) && decide (20 + 16 * n ≤ b.length) && decide (flag ≤ 1)
    && (decide (flag = 0) || decide (131092 + 16 * n ≤ b.length)) && segs.all (fun x => decide (x.1 < 512)) && decide (segs.map (·.1)).Nodup
  if !ok then (s, 10, none)
  else
    let r := imageWrites ([(base 14 + 0x100, w32 (leAt b 0 4)), (base 14 + 0x104, w32 (leAt b 4 4)), (base 16 + 0x100, w32 (leAt b 8 4))]
      ++ segs.flatMap (·.2)) s
    let res := if flag = 0 then [] else (List.range 32768).map (fun i => (i, w32 (leAt b (20 + 16 * n + 4 * i) 4)))
    let s := mStg (fun t => { t with resShadow := res.filter (fun x => x.2 ≠ 0) }) r.1
    if !r.2 then (s, 10, none)
    else
      let c := (geoCheckVals (regVal s)).1
      if c = 0 then (s, 0, none) else (s, 10, some c)

/-- A record is applied by its type (R472). -/
def applyRecord (r : Bytes) (s : State) : State × Nat × Option Nat :=
  let b := recBody r
  let p := fun (x : State × Nat) => (x.1, x.2, (none : Option Nat))
  match recType r with
  | 1 => p (applyRegs (b.length / 8) b s)
  | 2 => p (applyNetId b s)
  | 3 => p (applyKeys b s)
  | 4 => p (applyDram b s)
  | 5 => p (applyCal b s)
  | 6 => p (applyTable b s)
  | _ => applyGeom b s

/-- A record as read in pass 2 still has the RCRC of pass 1, and it holds (R472). -/
def recUnchanged (old r : Bytes) : Bool := r.length == old.length && recCrcOk r && r.drop (r.length - 4) == old.drop (old.length - 4)

/-- Pass 2 applies the next record (R472). -/
def recordApply (r : Bytes) (s : State) : State :=
  match s.cfg.recs with
  | [] => s
  | old :: rest =>
    let i := s.cfg.recIdx
    if !recUnchanged old r then rejectReset 9 i s
    else
      let x := applyRecord r s
      if x.2.1 ≠ 0 then rejectReset x.2.1 (match x.2.2 with | some c => c | none => i) x.1
      else mCfg (fun c => { c with recs := rest, recIdx := i + 1 }) x.1

/-- The checks that span records fail (R466, R472). -/
def spanBad (s : State) : Bool :=
  let partner := [0, 1].any (fun i => decide ((netIdPort s i).peer4 ≠ 0) || decide ((netIdPort s i).peer6 ≠ 0))
  decide (chEnabled s &&& ~~~ s.cfg.dramSeen ≠ 0) || (paired s && ((hbKey s).isNone || !partner))
    || [0, 1].any (fun i => decide (netMode s i ≠ 0) && decide ((netIdPort s i).ipv4 = 0) && decide ((netIdPort s i).g6 = 0))

/-- The mode registers of a populated channel are written: those of its record, then its write references (R466). -/
def modeWrites (c : Nat) (s : State) : State :=
  let mrs := match s.mem.modeRegs.find? (fun x => x.1 == c) with | some x => x.2 | none => []
  let g := delayGoals (chanSets s c) (chan s c).temp 0 0
  let s := each (fun (x : Nat × Nat) s => emit (.dram c "MRW" (x.1 * 256 + x.2)) s) mrs s
  emit (.dram c "WVREF1" (nth g 9 0).toNat) (emit (.dram c "WVREF0" (nth g 8 0).toNat) s)

/-- Microseconds since the release of R455. -/
def sinceRelease (s : State) : Nat := (s.now - s.cfg.relAt) / 10000

/-- What starts the DRAM of a channel (R306): the JEDEC power-up sequence, the mode registers, ZQ calibration. -/
def dramInit (c : Nat) (s : State) : State := emit (.dram c "ZQCAL" 0) (modeWrites c (emit (.dram c "INIT" 0) s))

/-- An image is accepted (R472): BOOT, BOOT_IMAGE for the other slot, Verifying and what starts with it (R473). -/
def accept (boot : BitVec 64) (s : State) : State :=
  let i := nth s.cfg.cands 0 0
  let o := slotOfImage s (1 - i)
  let s := mMgt (fun m => { m with boot := boot }) (mCfg (fun c => { c with accepted := some i, pass := 0, tVerify := sinceRelease s }) s)
  let s := if o.read ∧ o.reason ≠ 0 then faultErr Err.bootImage [1 - i, o.reason, o.detail] s else s
  let en := chEnabled s
  let s := each (fun c s => if en.getLsbD c then dramInit c s else mChan c (fun k => { k with cstate := 3 }) s) (List.range 8) s
  tethStart (linksStart (setDev .verifying s))

/-- Pass 2 ends (R472). -/
def imagePass2 (boot : BitVec 64) (s : State) : State :=
  if spanBad s then rejectReset 10 Config.noRecord.toNat s else accept boot s

/-- IMAGE_HEADER_READ (R470, R471). -/
def execImageHeaderRead (a b : Bytes) (s : State) : Host.Outcome State Fault Refusal :=
  formed (decide (a.length = 64) && decide (b.length = 64)) "IMAGE_HEADER_READ"
    (event (decide (s.sys.st = .loading) && decide (s.cfg.pass = 0) && s.cfg.hdrs.isEmpty) "IMAGE_HEADER_READ" (imageHeaders a b) s)

/-- IMAGE_PASS1_DONE (R471). -/
def execImagePass1Done (img : Bytes) (s : State) : Host.Outcome State Fault Refusal :=
  event (decide (s.sys.st = .loading) && decide (s.cfg.pass = 1)
    && decide (img.length = leAt (slotHeader s (nth s.cfg.cands 0 0)) 16 4)) "IMAGE_PASS1_DONE" (imagePass1 img) s

/-- IMAGE_RECORD_APPLY (R463 to R469, R472). -/
def execImageRecordApply (rec : Bytes) (s : State) : Host.Outcome State Fault Refusal :=
  event (decide (s.sys.st = .loading) && decide (s.cfg.pass = 2) && !s.cfg.recs.isEmpty) "IMAGE_RECORD_APPLY" (recordApply rec) s

/-- IMAGE_PASS2_DONE (R397, R472, R473). -/
def execImagePass2Done (boot : BitVec 64) (s : State) : Host.Outcome State Fault Refusal :=
  formed (decide (boot ≠ 0)) "IMAGE_PASS2_DONE"
    (event (decide (s.sys.st = .loading) && decide (s.cfg.pass = 2) && s.cfg.recs.isEmpty) "IMAGE_PASS2_DONE" (imagePass2 boot) s)

end Sys2Proof.Machine
end

