-- ==== Sys2Proof/Machine/StartUp.lean ====
section
/-! DEFINITION. From Loading to Ready (R305, R306, R473 to R475), the end of an OTP command (R478), and the pace monitors (R19, R20). -/

namespace Sys2Proof.Machine

/-- The first offset at which lane `k` passes: in all 16 verify rows every byte of the lane is read as written (R305). -/
def laneOffset (ch : Nat) (r : VerifyReads) (k : Nat) : Option Int :=
  let want := verifyLane ch k
  ((r.take 9).findIdx? (fun t => decide (t.length = 16) && t.all (fun x => decide ((if k = 0 then x.1 else x.2) = want)))).map trialOffset

/-- Start-up verification of a channel (R305, R306): the offsets of its lanes when both pass. -/
def verifiedChan (ch : Nat) (r : VerifyReads) : Option (Int × Int) :=
  match laneOffset ch r 0, laneOffset ch r 1 with
  | some a, some b => some (a, b)
  | _, _ => none

/-- A channel's verification ends: Online with its offsets and its values in service, or Offline (R304 to R306; log 53). -/
def verifyEnd (ch : Nat) (r : VerifyReads) (s : State) : State :=
  if (chan s ch).cstate = 3 then s
  else match verifiedChan ch r with
    | some (a, b) =>
      let s := delayUpdate ch (mChan ch (fun c => { c with cstate := 0, vofs0 := a, vofs1 := b }) s)
      mChan ch (fun c => { c with serv := c.goal, verLo := c.lo, verHi := c.hi }) s
    | none => mChan ch (fun c => { c with cstate := 2 }) s

/-- A channel that has verified is filled with zeros (R306). -/
def dramFill (ch : Nat) (s : State) : State :=
  if (chan s ch).cstate = 0 then emit (.dram ch "FILL" 0) (mChan ch (fun c => { c with data := [] }) s) else s

/-- Initialisation, verification and fill have ended (R306). -/
def dramVerified (res : List VerifyReads) (s : State) : State :=
  let s := each (fun (x : VerifyReads × Nat) s => dramFill x.2 (verifyEnd x.2 x.1 s)) res.zipIdx s
  if capacityShort s then raise .fatal Err.memCapacity [] s
  else
    let s := each (fun c s => if (chan s c).cstate = 2 then faultErr Err.memOffline [c] s else s) (List.range 8) s
    mCfg (fun c => { c with dramDone := true }) (placeUpdate s)

/-- Some Ready criterion is unmet: the lowest (R474, R475). -/
def unmetCrit (s : State) : Option Nat := [1, 2, 3, 4, 5].find? (fun k => !readyCrit s k)

/-- Every criterion holds: the immediate knot, Ready, and a paired chip's first role (R31, R108, R409, R474). -/
def becomeReady (s : State) : State :=
  let s := placeUpdate s
  let s := takeKnot ((enc s (bits (regVal s (base 14 + 0x100)) 1 0)).rc * 65536) s
  let s := mCfg (fun c => { c with tReady := sinceRelease s }) (setDev .ready s)
  advicePins (parEnter (axesFollow s))

/-- CFG_LANEWAIT expires (R474). -/
def lanewaitOver (s : State) : State :=
  let s := mCfg (fun c => { c with laneWait := true }) s
  match trainingPort s with | some p => notice Err.bootLanewait [p] s | none => s

/-- A pace monitor on stages 5 to 8 (R19, R20). -/
def paceLate (n : Nat) : Bool := decide (16 ≤ n)

/-- Time allowed per line to the stage of monitor `n`, as a fraction in 125 ps (R19): for stages 5 to 8 the shortest minimum line
period of a port with an enabled segment, for stages 1 to 4 a line at STR_VMAX; none where the rule gives no time, because
no port is enabled. -/
def paceAllowed (s : State) (n : Nat) : Option (Nat × Nat) :=
  let g := s.fir.geo
  if paceLate n then
    match geoPorts g with
    | [] => none
    | p :: r => some (16 * (r.map (fun q => nth g.minp q 2000)).foldl min (nth g.minp p 2000), 1)
  else
    match bits (actVal s (base 10 + 8)) 23 0 with
    | 0 => none
    | v + 1 => some (g.cpl * 16 * 8000000, 65536 * (v + 1))

/-- The margin of monitor `n` whose replica took `m`: 256 × the allowed time ÷ the measured time (R19), rounded down and held at
the top of its 16 bits (log 122); where the rule allows no time the margin is free. -/
def paceMargin (s : State) (n m : Nat) : BitVec 16 :=
  match paceAllowed s n with
  | some (a, d) => BitVec.ofNat 16 (min 0xFFFF (256 * a / (d * m)))
  | none => Config.paceIdle n m

/-- One pace monitor reports its margin (R19, R20). -/
def paceOne (n : Nat) (m : BitVec 16) (s : State) : State :=
  let limit := bits (regVal s 0x400) 15 0
  let v := m.toNat
  let was := vget s.sys.paceNow n 0xFFFF
  let low := s.sys.paceLowLogged.getLsbD n
  let feed := s.sys.paceFeedLogged.getLsbD n
  let place := BitVec.ofNat 32 (2 ^ n)
  let upd := fun (on off : Bool) (w : BitVec 32) => if on then w ||| place else if off then w &&& ~~~ place else w
  let isLow := decide (v < limit)
  let isFeed := !paceLate n && decide (v < 256)
  let s := mSys (fun y => { y with
    paceNow := vmod y.paceNow n (fun _ => m)
    paceMin := vmod y.paceMin n (fun x => if m.toNat < x.toNat then m else x)
    paceStat := if isLow then y.paceStat ||| place else y.paceStat
    paceLowLogged := upd isLow (decide (limit + 32 ≤ v)) y.paceLowLogged
    paceFeedLogged := upd isFeed (decide (288 ≤ v)) y.paceFeedLogged }) s
  let s := doIf (isLow && !low) (notice Err.paceLow []) s
  let s := doIf (paceLate n && decide (v < 256) && decide (256 ≤ was.toNat)) (faultErr Err.paceShort []) s
  doIf (isFeed && !feed) (notice Err.paceFeed []) s

/-- Every pace monitor reports (R19, R20). -/
def paceAll (measured : List Nat) (s : State) : State :=
  let reports := measured.zipIdx.map (fun x => (paceMargin s x.2 x.1, x.2))
  advicePins (each (fun (x : BitVec 16 × Nat) s => paceOne x.2 x.1 s) reports s)

/-- Reads of start-up verification: of eight channels, at most nine trials each (R305). -/
def verifySpelled (res : List VerifyReads) : Bool := decide (res.length = 8) && res.all (fun r => decide (r.length ≤ 9))

/-- DRAM_VERIFY_DONE (R305, R306). -/
def execDramVerifyDone (res : List VerifyReads) (s : State) : Host.Outcome State Fault Refusal :=
  formed (verifySpelled res) "DRAM_VERIFY_DONE"
    (event (decide (s.sys.st = .verifying) && !s.cfg.dramDone) "DRAM_VERIFY_DONE" (dramVerified res) s)

/-- READY_CRITERIA_MET (R474). -/
def execReadyCriteriaMet (s : State) : Host.Outcome State Fault Refusal :=
  event (decide (s.sys.st = .verifying) && (unmetCrit s).isNone) "READY_CRITERIA_MET" becomeReady s

/-- LANEWAIT_EXPIRE (R474). -/
def execLanewaitExpire (s : State) : Host.Outcome State Fault Refusal :=
  event (decide (s.sys.st = .verifying) && !s.cfg.laneWait) "LANEWAIT_EXPIRE" lanewaitOver s

/-- BOOT_TIMEOUT (R475). -/
def execBootTimeout (s : State) : Host.Outcome State Fault Refusal :=
  event (decide (s.sys.st = .verifying) && (unmetCrit s).isSome) "BOOT_TIMEOUT"
    (fun s => match unmetCrit s with | some k => raise .fatal Err.bootTimeout [k] s | none => s) s

/-- OTP_DONE (R478). -/
def execOtpDone (s : State) : Host.Outcome State Fault Refusal :=
  event s.cfg.otpBusy "OTP_DONE" (mCfg (fun c => { c with otpBusy := false })) s

/-- PACE_MEASURE (R19, R20). -/
def execPaceMeasure (measured : List Nat) (s : State) : Host.Outcome State Fault Refusal :=
  formed (decide (measured.length = 32) && measured.all (fun m => decide (0 < m))) "PACE_MEASURE"
    (event (awake s) "PACE_MEASURE" (paceAll measured) s)

end Sys2Proof.Machine
end

