-- ==== Sys2Proof/Machine/Capture.lean ====
section
/-! DEFINITION. The dump of the capture engine (R490 to R494). Every record is read without side effects. -/

namespace Sys2Proof.Machine

/-- A record of the dump (R493). -/
def dumpRecord (ty : Nat) (body : Bytes) : Bytes :=
  let b := leBytes 2 ty ++ leBytes 2 0 ++ leBytes 4 body.length ++ body
  b ++ leBytes 4 (crc32c b).toNat

/-- A word as four bytes. -/
def wordLe (w : Word) : Bytes := leBytes 4 w.toNat

/-- The bytes of an entry, zeros for an empty slot. -/
def slotBytes (e : Option LogEntry) : Bytes := match e with | some x => entryBytes x | none => leBytes 48 0

/-- Record LOG (R494). -/
def dumpLog (s : State) : Bytes := leBytes 4 s.err.head ++ leBytes 4 0 ++ (List.range 256).flatMap (fun n => slotBytes (ringSlot s.err n))

/-- Record LATCH (R494). -/
def dumpLatch (s : State) : Bytes :=
  let l := fun c => vget s.err.latches c none
  leBytes 4 (sumN ((List.range 4).map (fun c => b2n (l c).isSome c))) ++ leBytes 4 (s.err.nest * 65536 + s.err.sec)
    ++ (List.range 4).flatMap (fun c => slotBytes (l c))

/-- Record REGS: every register that is not WO or reserved, in ascending address (R494). -/
def dumpRegs (s : State) : Bytes :=
  (List.range (0x1D0000 / 4)).flatMap (fun i => match regShow (4 * i) s with | some v => leBytes 4 (4 * i) ++ wordLe v | none => [])

/-- A token held in a stage (R494): stage, kind, output awaiting acknowledge, stripe or port, layer, stripe line, line count. -/
structure StageTok where
  stage : Nat
  kind : Nat
  out : Bool
  id : Nat
  layer : Nat
  sline : Nat
  lc : Nat
deriving DecidableEq, Repr

/-- The 24 bytes of a token. -/
def tokBytes (t : StageTok) : Bytes :=
  leBytes 1 t.stage ++ leBytes 1 t.kind ++ leBytes 1 (b2n t.out 0) ++ leBytes 1 0 ++ leBytes 2 t.id ++ leBytes 2 0 ++ leBytes 4 t.layer
    ++ leBytes 4 (t.sline % 2 ^ 24) ++ leBytes 8 (t.lc % 2 ^ 40)

/-- SLINE of a token that has none. -/
def noSline : Nat := Config.noLine.1.toNat

/-- LC of a token or change that has none. -/
def noLcount : Nat := Config.noLine.2.toNat

/-- Tokens of stages 1 to 3: fragments not yet taken or not yet written, and DRAM units queued or under way (log 54). -/
def tokensEarly (s : State) : List StageTok :=
  let frag (u : Unwritten) : StageTok :=
    ⟨if u.queued then 2 else 1, 0, true, (match layerOf s u.layer with | some l => (nth l.stripes u.sidx (0, 0)).1 | none => 0), u.layer, noSline, noLcount⟩
  let unit := fun (wr : Bool) (tag : Nat) =>
    let o := tagOwner s tag
    (⟨3, b2n (!wr) 0, false, o.2, o.1, noSline, noLcount⟩ : StageTok)
  s.tow.unwritten.map frag ++ (List.range 8).flatMap (fun c =>
    (chan s c).inflight.map (fun f => unit f.wr.isSome f.tag) ++ (chan s c).queue.map (fun u => unit u.wr.isSome u.tag))

/-- Tokens of stages 4 to 8: lines at the output of stage 4, released lines in stages 5 and 6, frames in stages 7 and 8 (log 54). -/
def tokensLate (s : State) : List StageTok :=
  let outs := (List.range 512).flatMap (fun n => (strand s n).out.map (fun o => (⟨4, 1, true, n, o.layer, o.line, noLcount⟩ : StageTok)))
  let trigs := fun (f : Nat → Trig → List StageTok) => (List.range 64).flatMap (fun p => (firPort s p).trigs.flatMap (f p))
  let lines := trigs (fun _ t => t.lines.filterMap (fun l =>
    if t.built then none
    else if l.staged.isSome then some ⟨6, 1, true, l.seg, l.layer, (l.sline % 2 ^ 24).toNat, t.lc⟩
    else if l.mapped.isSome then some ⟨5, 1, true, l.seg, l.layer, (l.sline % 2 ^ 24).toNat, t.lc⟩
    else some ⟨5, 1, false, l.seg, l.layer, (l.sline % 2 ^ 24).toNat, t.lc⟩))
  let frames := trigs (fun p t => if t.built && !t.struck then [⟨if t.sent then 8 else 7, 2, !t.sent, p, t.layer, noSline, t.lc⟩] else [])
  outs ++ sortBy (fun a b => decide (a.stage ≤ b.stage)) (lines ++ frames)

/-- Record STAGES (R494). -/
def dumpStages (s : State) : Bytes :=
  let l := sortBy (fun a b => decide (a.stage ≤ b.stage)) (tokensEarly s) ++ tokensLate s
  leBytes 4 l.length ++ leBytes 4 0 ++ l.flatMap tokBytes

/-- Record STRANDS (R494). -/
def dumpStrands (s : State) : Bytes := (List.range 512).flatMap (fun n => (List.range 4).flatMap (fun w => wordLe (strCtx s n w)))

/-- Record ARB (R494). -/
def dumpArb (s : State) : Bytes :=
  (List.range 12).flatMap (fun n => (List.range 8).flatMap (fun m => wordLe (if arbReqs n ≤ m then 0 else arbStat s n m)))

/-- The 16 bytes of an entry of a channel queue. -/
def memqEntry (u : Option MemUnit) : Bytes :=
  match u with
  | none => leBytes 16 0
  | some u => leBytes 1 (if u.wr.isSome then 2 else if u.panic then 3 else 1) ++ leBytes 1 u.req ++ leBytes 1 u.passed ++ leBytes 1 0
      ++ leBytes 4 u.ca ++ leBytes 8 0

/-- Record MEMQ (R494). -/
def dumpMemq (s : State) : Bytes :=
  wordLe s.mem.err0 ++ wordLe s.mem.err1
    ++ (List.range 8).flatMap (fun c => (List.range 32).flatMap (fun i => memqEntry (((chan s c).queue.map some).getD i none)))

/-- The origin codes of R494. -/
def originCode : NzlKind → Nat
  | .suspect => 0 | .gate _ => 1 | .host _ _ => 2 | .entry _ => 3

/-- The entry that change `i` of the queue makes, after those queued before it (log 15). -/
def updEntry (s : State) (i : Nat) (c : NzlChange) : Nat :=
  let step := fun e (c : NzlChange) => match nzNext s c.kind e with | some x => x | none => e
  step (((s.nzl.queue.take i).filter (fun x => x.noz == c.noz)).foldl step (nozEntry s c.noz)) c

/-- Record UPDQ (R494). -/
def dumpUpdq (s : State) : Bytes :=
  let q := s.nzl.queue.take 64
  leBytes 4 q.length ++ leBytes 4 0
    ++ q.zipIdx.flatMap (fun x => leBytes 4 x.1.noz ++ leBytes 8 (updEntry s x.2 x.1)
      ++ leBytes 8 ((match x.1.lcEff with | some l => l | none => noLcount) % 2 ^ 40) ++ leBytes 1 (originCode x.1.kind) ++ leBytes 3 0)
    ++ leBytes (24 * (64 - q.length)) 0

/-- The 32 bytes of a port (R494). -/
def portBytes (s : State) (p : Nat) : Bytes :=
  let h := headPort s p
  let f := firPort s p
  let lc := fun (k : Nat) => match s.fir.grid with | some g => if f.isOpen then lcOf g k else noLcount | none => noLcount
  leBytes 1 (linkCode h.st) ++ leBytes 1 (b2n h.absent 0 + b2n (s.nzl.absent.getLsbD p) 1 + b2n f.isOpen 2) ++ leBytes 2 h.struckSsn
    ++ leBytes 8 (lc f.kr) ++ leBytes 8 (lc f.ks) ++ leBytes 4 (f.tlast % 2 ^ 32) ++ leBytes 2 (min f.lagNow 0xFFFF) ++ leBytes 6 0

/-- Record PORTS (R494). -/
def dumpPorts (s : State) : Bytes := (List.range 64).flatMap (portBytes s)

/-- A signed 48-bit count as eight bytes, sign-extended. -/
def count64 (x : Int) : Bytes := leBytes 8 (sgn 48 x % 2 ^ 64).toNat

/-- Register `a` as the capture engine reads it. -/
def showLe (s : State) (a : Nat) : Bytes := wordLe (match regShow a s with | some v => v | none => 0)

/-- Record KEEP (R494). -/
def dumpKeep (s : State) : Bytes :=
  (List.range 4).flatMap (fun c =>
      let e := enc s c
      count64 e.rc ++ count64 (if c = printCh s then s.pos.hwm else 0) ++ wordLe (i32 (velOf e)) ++ wordLe (i32 (accOf e))
        ++ showLe s (base 12 + 0x100 + 0x80 * c + 0x24) ++ leBytes 4 0)
    ++ (List.range 32).flatMap (fun i => showLe s (base 13 + 0x100 + 0x20 * i) ++ count64 (milestone s i).cmp ++ showLe s (base 13 + 0x118 + 0x20 * i))

/-- The body of a record type (R494). -/
def dumpBody (s : State) (ty : Nat) : Bytes :=
  match ty with
  | 1 => dumpLog s
  | 2 => dumpLatch s
  | 3 => dumpRegs s
  | 4 => dumpStages s
  | 5 => dumpStrands s
  | 6 => dumpArb s
  | 7 => dumpMemq s
  | 8 => dumpUpdq s
  | 9 => dumpPorts s
  | _ => dumpKeep s

/-- Records in order as far as they fit: what is written after the header, how many, and whether one did not fit (R493). -/
def dumpAll (s : State) : List Nat → Bytes → Nat → Bytes × Nat × Bool
  | [], acc, n => (acc, n, false)
  | t :: r, acc, n =>
    let d := dumpRecord t (dumpBody s t)
    if 1048576 < 64 + acc.length + d.length then (acc, n, true) else dumpAll s r (acc ++ d) (n + 1)

/-- The dump header (R492). -/
def dumpHeader (s : State) (dlen nrec : Nat) (trunc : Bool) : Bytes :=
  let c := s.cap
  let h := leBytes 4 0x504D5544 ++ leBytes 1 1 ++ leBytes 1 c.origin ++ leBytes 2 64 ++ leBytes 4 0x2618 ++ wordLe sysId
    ++ leBytes 8 s.mgt.boot.toNat ++ leBytes 4 dlen ++ leBytes 2 nrec ++ leBytes 1 c.dstate ++ leBytes 1 (b2n trunc 0)
    ++ leBytes 4 c.mask.toNat ++ leBytes 4 c.trigSeq ++ leBytes 6 c.dtSec ++ leBytes 2 0 ++ leBytes 4 c.dtNs ++ leBytes 8 0
  h ++ leBytes 4 (crc32c h).toNat

/-- The capture ends (R490). -/
def captureDone (s : State) : State :=
  let (d, n, trunc) := dumpAll s ((List.range 11).filter (fun t => decide (1 ≤ t) && s.cap.mask.getLsbD t)) [] 0
  let len := 64 + d.length
  let s := bankPut 5 0 (dumpHeader s len n trunc) (bankPut 5 64 d s)
  mCap (fun c => { c with busy := false, done := true, trunc := trunc, dlen := len }) s

/-- CAPTURE_DONE (R490, R492 to R494). -/
def execCaptureDone (s : State) : Host.Outcome State Fault Refusal := event s.cap.busy "CAPTURE_DONE" captureDone s

end Sys2Proof.Machine
end

