-- ==== Sys2Proof/Machine/RegCmds.lean ====
section
/-! DEFINITION. The commands that are one register access by a master (R509 to R515): each at its register's address, through the rules of
every access. -/

namespace Sys2Proof.Machine

/-- A master can reach the registers: the image while pass 2 applies it, RMP from Verifying onwards, Waypost always (R515). -/
def masterHere (m : Master) (s : State) : Bool :=
  match m with
  | .image => decide (s.sys.st = .loading) && decide (s.cfg.pass = 2)
  | .rmp => awake s
  | .waypost => true

/-- A register write by a master, and its answer; one that the image may not make rejects it (R463, R511). -/
def accWrite (m : Master) (a : Nat) (v : Word) (s : State) : State :=
  let r := masterWrite m a v s
  let t := match m, r.2 with
    | .image, .ok => r.1
    | .image, .refused => rejectReset 11 s.cfg.recIdx r.1
    | .image, _ => rejectReset 10 s.cfg.recIdx r.1
    | _, _ => r.1
  emit (.access m r.2 v) t

/-- A register read by a master, and its answer (R514). -/
def accRead (m : Master) (a : Nat) (s : State) : State :=
  let r := masterRead m a s
  emit (.access m r.2.2 r.1) r.2.1

/-- The command of a register write. -/
def writeCmdAt (name : String) (m : Master) (a : Nat) (v : Word) (s : State) : Host.Outcome State Fault Refusal :=
  event (masterHere m s) name (accWrite m a v) s

/-- The command of a register read: the image reads nothing. -/
def readCmdAt (name : String) (m : Master) (a : Nat) (s : State) : Host.Outcome State Fault Refusal :=
  event (masterHere m s && decide (m ≠ .image)) name (accRead m a) s

/-- The command of an access to an indexed data register. -/
def dataCmdAt (name : String) (m : Master) (a : Nat) (acc : Access) (s : State) : Host.Outcome State Fault Refusal :=
  match acc with
  | .read => readCmdAt name m a s
  | .write v => writeCmdAt name m a v s

/-- Address of register `o` of milestone `n` (R187). -/
def msAddr (n o : Nat) : Nat := base 13 + 0x100 + 0x20 * n + o

/-- Address of register `o` of gate `g` (R239). -/
def gatAddr (g o : Nat) : Nat := base 17 + 0x100 + 0x40 * g + o

/-- Address of register `o` of head port `p` (R276). -/
def gulAddr (p o : Nat) : Nat := base 18 + 0x1000 + 0x40 * p + o

/-- REGISTER_WRITE (R7, R511). -/
def execRegisterWrite (m : Master) (addr v : Word) (s : State) : Host.Outcome State Fault Refusal :=
  writeCmdAt "REGISTER_WRITE" m addr.toNat v s

/-- OTP_UNLOCK (R478). -/
def execOtpUnlock (m : Master) (v : Word) (s : State) : Host.Outcome State Fault Refusal :=
  writeCmdAt "OTP_UNLOCK" m (base 1 + 0x84) v s

/-- OTP_PROGRAM (R478). -/
def execOtpProgram (m : Master) (slot : Fin 8) (s : State) : Host.Outcome State Fault Refusal :=
  writeCmdAt "OTP_PROGRAM" m (base 1 + 0x88) (w32 (2 ^ 30 + slot.val)) s

/-- OTP_REVOKE (R478). -/
def execOtpRevoke (m : Master) (slot : Fin 8) (s : State) : Host.Outcome State Fault Refusal :=
  writeCmdAt "OTP_REVOKE" m (base 1 + 0x88) (w32 (2 ^ 31 + slot.val)) s

/-- OTP_PIN (R478). -/
def execOtpPin (m : Master) (s : State) : Host.Outcome State Fault Refusal :=
  writeCmdAt "OTP_PIN" m (base 1 + 0x88) 0xC0000000 s

/-- PACE_CLR (R20). -/
def execPaceClr (m : Master) (v : Word) (s : State) : Host.Outcome State Fault Refusal :=
  writeCmdAt "PACE_CLR" m 0x408 v s

/-- KNOT_IMMEDIATE (R26, R31, R518). -/
def execKnotImmediate (m : Master) (s : State) : Host.Outcome State Fault Refusal :=
  writeCmdAt "KNOT_IMMEDIATE" m 0x100 0 s

/-- KNOT_MILESTONE (R26, R518). -/
def execKnotMilestone (m : Master) (ms : Ms) (s : State) : Host.Outcome State Fault Refusal :=
  writeCmdAt "KNOT_MILESTONE" m 0x100 (w32 (2 ^ 30 + ms.val)) s

/-- KNOT_ROAD_COUNT (R26, R518). -/
def execKnotRoadCount (m : Master) (s : State) : Host.Outcome State Fault Refusal :=
  writeCmdAt "KNOT_ROAD_COUNT" m 0x100 0x80000000 s

/-- KNOT_CANCEL (R29, R518). -/
def execKnotCancel (m : Master) (s : State) : Host.Outcome State Fault Refusal :=
  writeCmdAt "KNOT_CANCEL" m 0x100 0xC0000000 s

/-- GEO_CHECK (R60). -/
def execGeoCheck (m : Master) (v : Word) (s : State) : Host.Outcome State Fault Refusal :=
  writeCmdAt "GEO_CHECK" m (base 14 + 0x108) v s

/-- RES_DATA_ACCESS (R57, R65). -/
def execResDataAccess (m : Master) (acc : Access) (s : State) : Host.Outcome State Fault Refusal :=
  dataCmdAt "RES_DATA_ACCESS" m (base 15 + 0x104) acc s

/-- INDEX_ARM (R171). -/
def execIndexArm (m : Master) (ch : Enc) (v : Word) (s : State) : Host.Outcome State Fault Refusal :=
  formed (bit v 29) "INDEX_ARM" (writeCmdAt "INDEX_ARM" m (posAddr ch 8) v s)

/-- POS_CHANNEL_CONFIG (R185). -/
def execPosChannelConfig (m : Master) (ch : Enc) (v : Word) (s : State) : Host.Outcome State Fault Refusal :=
  writeCmdAt "POS_CHANNEL_CONFIG" m (posAddr ch 0) v s

/-- POS_SNAPSHOT (R186). -/
def execPosSnapshot (m : Master) (ch : Enc) (s : State) : Host.Outcome State Fault Refusal :=
  readCmdAt "POS_SNAPSHOT" m (posAddr ch 0x30) s

/-- MILESTONE_ARM (R180, R187). -/
def execMilestoneArm (m : Master) (ms : Ms) (v : Word) (s : State) : Host.Outcome State Fault Refusal :=
  formed (bit v 31) "MILESTONE_ARM" (writeCmdAt "MILESTONE_ARM" m (msAddr ms 0) v s)

/-- MILESTONE_DISARM (R187). -/
def execMilestoneDisarm (m : Master) (ms : Ms) (v : Word) (s : State) : Host.Outcome State Fault Refusal :=
  formed (!bit v 31) "MILESTONE_DISARM" (writeCmdAt "MILESTONE_DISARM" m (msAddr ms 0) v s)

/-- MILESTONE_CMP_COMMIT (R187). -/
def execMilestoneCmpCommit (m : Master) (ms : Ms) (v : Word) (s : State) : Host.Outcome State Fault Refusal :=
  writeCmdAt "MILESTONE_CMP_COMMIT" m (msAddr ms 8) v s

/-- MILESTONE_CMP_READ (R187). -/
def execMilestoneCmpRead (m : Master) (ms : Ms) (s : State) : Host.Outcome State Fault Refusal :=
  readCmdAt "MILESTONE_CMP_READ" m (msAddr ms 4) s

/-- MILESTONE_HIT_READ (R187). -/
def execMilestoneHitRead (m : Master) (ms : Ms) (s : State) : Host.Outcome State Fault Refusal :=
  readCmdAt "MILESTONE_HIT_READ" m (msAddr ms 0x10) s

/-- SYNC_CAPTURE_READ (R187). -/
def execSyncCaptureRead (m : Master) (n : Fin 2) (s : State) : Host.Outcome State Fault Refusal :=
  readCmdAt "SYNC_CAPTURE_READ" m (base 13 + 0x48 + 0x10 * n) s

/-- NOZZLE_REQUEST (R219 to R221). -/
def execNozzleRequest (m : Master) (v : Word) (s : State) : Host.Outcome State Fault Refusal :=
  writeCmdAt "NOZZLE_REQUEST" m (base 16 + 0x54) v s

/-- JOURNAL_READ_LO (R237). -/
def execJournalReadLo (m : Master) (s : State) : Host.Outcome State Fault Refusal :=
  readCmdAt "JOURNAL_READ_LO" m (base 16 + 0x80) s

/-- JOURNAL_READ_HI (R237). -/
def execJournalReadHi (m : Master) (s : State) : Host.Outcome State Fault Refusal :=
  readCmdAt "JOURNAL_READ_HI" m (base 16 + 0x84) s

/-- GATE_START (R225). -/
def execGateStart (m : Master) (g : Gate) (s : State) : Host.Outcome State Fault Refusal :=
  writeCmdAt "GATE_START" m (gatAddr g 0x28) 1 s

/-- GATE_ABORT_CMD (R226). -/
def execGateAbortCmd (m : Master) (g : Gate) (s : State) : Host.Outcome State Fault Refusal :=
  writeCmdAt "GATE_ABORT_CMD" m (gatAddr g 0x28) 2 s

/-- GUL_RETRAIN (R255, R276). -/
def execGulRetrain (m : Master) (p : Port) (v : Word) (s : State) : Host.Outcome State Fault Refusal :=
  formed (bit v 1) "GUL_RETRAIN" (writeCmdAt "GUL_RETRAIN" m (gulAddr p 0x34) v s)

/-- GUL_PORT_CLR (R276). -/
def execGulPortClr (m : Master) (p : Port) (v : Word) (s : State) : Host.Outcome State Fault Refusal :=
  formed (!bit v 1) "GUL_PORT_CLR" (writeCmdAt "GUL_PORT_CLR" m (gulAddr p 0x34) v s)

/-- HOST_CFG_ACCESS (R274). -/
def execHostCfgAccess (m : Master) (v : Word) (s : State) : Host.Outcome State Fault Refusal :=
  writeCmdAt "HOST_CFG_ACCESS" m (base 18 + 0x18) v s

/-- EYE_SCAN_START (R273). -/
def execEyeScanStart (m : Master) (v : Word) (s : State) : Host.Outcome State Fault Refusal :=
  writeCmdAt "EYE_SCAN_START" m (base 18 + 0x44) v s

/-- RECORD_RELEASE (R291). -/
def execRecordRelease (m : Master) (c : Ctx) (v : Word) (s : State) : Host.Outcome State Fault Refusal :=
  writeCmdAt "RECORD_RELEASE" m (base 21 + 0x1010 + 0x40 * c) v s

/-- MEM_VERIFY_CMD (R307). -/
def execMemVerifyCmd (m : Master) (v : Word) (s : State) : Host.Outcome State Fault Refusal :=
  writeCmdAt "MEM_VERIFY_CMD" m (base 7 + 0xC) v s

/-- AXIS_TARGET_WRITE (R340, R353). -/
def execAxisTargetWrite (m : Master) (a : Axis) (v : Word) (s : State) : Host.Outcome State Fault Refusal :=
  writeCmdAt "AXIS_TARGET_WRITE" m (axsAddr a 0x24) v s

/-- AXIS_VTARGET_WRITE (R340, R353). -/
def execAxisVtargetWrite (m : Master) (a : Axis) (v : Word) (s : State) : Host.Outcome State Fault Refusal :=
  writeCmdAt "AXIS_VTARGET_WRITE" m (axsAddr a 0x28) v s

/-- AXIS_MODE_WRITE (R344, R353). -/
def execAxisModeWrite (m : Master) (a : Axis) (v : Word) (s : State) : Host.Outcome State Fault Refusal :=
  writeCmdAt "AXIS_MODE_WRITE" m (axsAddr a 0x2C) v s

/-- AXIS_SETPOS (R351). -/
def execAxisSetpos (m : Master) (a : Axis) (v : Word) (s : State) : Host.Outcome State Fault Refusal :=
  writeCmdAt "AXIS_SETPOS" m (axsAddr a 0x54) v s

/-- AXIS_GEAR_SCHEDULE (R345). -/
def execAxisGearSchedule (m : Master) (a : Axis) (v : Word) (s : State) : Host.Outcome State Fault Refusal :=
  writeCmdAt "AXIS_GEAR_SCHEDULE" m (axsAddr a 0x44) v s

/-- AXIS_TABLE_ACCESS (R334, R335). -/
def execAxisTableAccess (m : Master) (acc : Access) (s : State) : Host.Outcome State Fault Refusal :=
  dataCmdAt "AXIS_TABLE_ACCESS" m (base 22 + 4) acc s

/-- LAMP_SWAP_REQUEST (R360). -/
def execLampSwapRequest (m : Master) (v : Word) (s : State) : Host.Outcome State Fault Refusal :=
  writeCmdAt "LAMP_SWAP_REQUEST" m (base 23 + 8) v s

/-- LBUS_CFG_WRITE (R370). -/
def execLbusCfgWrite (m : Master) (chain : Fin 2) (v : Word) (s : State) : Host.Outcome State Fault Refusal :=
  writeCmdAt "LBUS_CFG_WRITE" m (base 23 + 0x210 + 0x20 * chain) v s

/-- LAMP_ZONE_ACCESS (R355, R360). -/
def execLampZoneAccess (m : Master) (acc : Access) (s : State) : Host.Outcome State Fault Refusal :=
  dataCmdAt "LAMP_ZONE_ACCESS" m (base 23 + 0x14) acc s

/-- LAMP_UTBL_ACCESS (R362). -/
def execLampUtblAccess (m : Master) (acc : Access) (s : State) : Host.Outcome State Fault Refusal :=
  dataCmdAt "LAMP_UTBL_ACCESS" m (base 23 + 0x104) acc s

/-- DOMAIN_SELECT (R392). -/
def execDomainSelect (m : Master) (v : Word) (s : State) : Host.Outcome State Fault Refusal :=
  writeCmdAt "DOMAIN_SELECT" m (base 3) v s

/-- PTP_SNAPSHOT (R382). -/
def execPtpSnapshot (m : Master) (sel : TimeSel) (s : State) : Host.Outcome State Fault Refusal :=
  readCmdAt "PTP_SNAPSHOT" m (match sel with | .dom d => base 3 + 0x150 + 0x80 * d | .device => base 3 + 0x10) s

/-- CAL_FORCE (R445). -/
def execCalForce (m : Master) (v : Word) (s : State) : Host.Outcome State Fault Refusal :=
  writeCmdAt "CAL_FORCE" m (base 25 + 0x10) v s

/-- FAULT_ACK (R485). -/
def execFaultAck (m : Master) (v : Word) (s : State) : Host.Outcome State Fault Refusal :=
  writeCmdAt "FAULT_ACK" m (base 26 + 0x10) v s

/-- FAULT_ACK_ALL (R485). -/
def execFaultAckAll (m : Master) (v : Word) (s : State) : Host.Outcome State Fault Refusal :=
  writeCmdAt "FAULT_ACK_ALL" m (base 26 + 0x14) v s

/-- LATCH_CLEAR (R487). -/
def execLatchClear (m : Master) (v : Word) (s : State) : Host.Outcome State Fault Refusal :=
  writeCmdAt "LATCH_CLEAR" m (base 26 + 0x18) v s

/-- ERR_CLR (R504). -/
def execErrClr (m : Master) (v : Word) (s : State) : Host.Outcome State Fault Refusal :=
  writeCmdAt "ERR_CLR" m (base 26 + 0x1C) v s

/-- LOG_ENTRY_READ (R505). -/
def execLogEntryRead (m : Master) (sel : LogSel) (s : State) : Host.Outcome State Fault Refusal :=
  readCmdAt "LOG_ENTRY_READ" m (match sel with | .latch c => base 26 + 0x1000 + 0x40 * c | .slot n => base 26 + 0x4000 + 0x30 * n) s

/-- KNOT_EPOCH_READ (R518). -/
def execKnotEpochRead (m : Master) (s : State) : Host.Outcome State Fault Refusal :=
  readCmdAt "KNOT_EPOCH_READ" m 0x110 s

/-- FIRE_LC_SNAPSHOT (R212). -/
def execFireLcSnapshot (m : Master) (p : Port) (s : State) : Host.Outcome State Fault Refusal :=
  readCmdAt "FIRE_LC_SNAPSHOT" m (base 14 + 0x1008 + 0x20 * p) s

/-- CAPTURE_START (R490). -/
def execCaptureStart (m : Master) (mask : BitVec 16) (s : State) : Host.Outcome State Fault Refusal :=
  writeCmdAt "CAPTURE_START" m (base 27) (0x80000000 ||| mask.setWidth 32) s

/-- CAPTURE_CLEAR (R490). -/
def execCaptureClear (m : Master) (s : State) : Host.Outcome State Fault Refusal :=
  writeCmdAt "CAPTURE_CLEAR" m (base 27) 0x40000000 s

/-- TOW_CNT_CLR (R111). -/
def execTowCntClr (m : Master) (v : Word) (s : State) : Host.Outcome State Fault Refusal :=
  writeCmdAt "TOW_CNT_CLR" m (base 5 + 0x20) v s

/-- CMP_CNT_CLR (R132). -/
def execCmpCntClr (m : Master) (v : Word) (s : State) : Host.Outcome State Fault Refusal :=
  writeCmdAt "CMP_CNT_CLR" m (base 11 + 0x20) v s

/-- STR_CNT_CLR (R159). -/
def execStrCntClr (m : Master) (v : Word) (s : State) : Host.Outcome State Fault Refusal :=
  writeCmdAt "STR_CNT_CLR" m (base 10 + 0x30) v s

/-- FIR_CNT_CLR (R211). -/
def execFirCntClr (m : Master) (v : Word) (s : State) : Host.Outcome State Fault Refusal :=
  writeCmdAt "FIR_CNT_CLR" m (base 14 + 0x20) v s

/-- NZL_CNT_CLR (R238). -/
def execNzlCntClr (m : Master) (v : Word) (s : State) : Host.Outcome State Fault Refusal :=
  writeCmdAt "NZL_CNT_CLR" m (base 16 + 0x70) v s

/-- CAM_PORT_CLR (R298). -/
def execCamPortClr (m : Master) (port : Fin 4) (v : Word) (s : State) : Host.Outcome State Fault Refusal :=
  writeCmdAt "CAM_PORT_CLR" m (base 19 + 0x11C + 0x40 * port) v s

/-- INS_CTX_CLR (R298). -/
def execInsCtxClr (m : Master) (c : Ctx) (v : Word) (s : State) : Host.Outcome State Fault Refusal :=
  writeCmdAt "INS_CTX_CLR" m (base 21 + 0x1020 + 0x40 * c) v s

/-- MEM_CNT_CLR (R329). -/
def execMemCntClr (m : Master) (v : Word) (s : State) : Host.Outcome State Fault Refusal :=
  writeCmdAt "MEM_CNT_CLR" m (base 7 + 0x40) v s

/-- BNK_CLR (R330). -/
def execBnkClr (m : Master) (b : Bank) (v : Word) (s : State) : Host.Outcome State Fault Refusal :=
  writeCmdAt "BNK_CLR" m (base 8 + 0x11C + 0x40 * b) v s

/-- ARB_CLR (R331). -/
def execArbClr (m : Master) (v : Word) (s : State) : Host.Outcome State Fault Refusal :=
  writeCmdAt "ARB_CLR" m (base 9) v s

/-- NET_PORT_CLR (R404). -/
def execNetPortClr (m : Master) (np : NetPort) (v : Word) (s : State) : Host.Outcome State Fault Refusal :=
  writeCmdAt "NET_PORT_CLR" m (base 2 + 0x134 + 0x80 * np) v s

/-- PTP_DOM_CLR (R405). -/
def execPtpDomClr (m : Master) (dm : Dom) (v : Word) (s : State) : Host.Outcome State Fault Refusal :=
  writeCmdAt "PTP_DOM_CLR" m (base 3 + 0x14C + 0x80 * dm) v s

/-- MGT_CNT_CLR (R406). -/
def execMgtCntClr (m : Master) (v : Word) (s : State) : Host.Outcome State Fault Refusal :=
  writeCmdAt "MGT_CNT_CLR" m (base 4 + 0x18) v s

/-- PAR_CNT_CLR (R438). -/
def execParCntClr (m : Master) (v : Word) (s : State) : Host.Outcome State Fault Refusal :=
  writeCmdAt "PAR_CNT_CLR" m (base 24 + 0x34) v s

end Sys2Proof.Machine
end

