-- ==== Sys2Proof/Machine/Rmp.lean ====
section
/-! DEFINITION. RMP requests (R395 to R403, R216, R290, R419, R431): the checks of R397 in their order, the replay window, and what each
request does. -/

namespace Sys2Proof.Machine

/-- The role permits the request (R396). -/
def rmpPermit (role ty : Nat) (b : Bytes) : Bool :=
  if role = 3 then true
  else if ty = 1 ∨ ty = 2 ∨ ty = 6 ∨ ty = 7 then true
  else if role ≠ 2 then false
  else if ty = 3 ∨ b.isEmpty then true
  else if ty = 4 then byteAt b 0 == 3 || !([0, 2, 3, 4, 5].contains (byteAt b 0))
  else (decide (1 ≤ byteAt b 0) && decide (byteAt b 0 ≤ 4)) || decide (byteAt b 0 = 0) || decide (7 ≤ byteAt b 0)

/-- Body length and fields are valid (R399 to R401). -/
def rmpBodyOk (ty : Nat) (b : Bytes) : Bool :=
  let space := byteAt b 0
  let spaced := decide (space = 0) || (decide (2 ≤ space) && decide (space ≤ 5))
  let counted := decide (8 ≤ b.length) && decide (beAt b 2 2 = 0) && decide (1 ≤ byteAt b 1) && decide (byteAt b 1 ≤ 64) && spaced
  match ty with
  | 1 => b.isEmpty
  | 2 => counted && decide (b.length = 8)
  | 3 => counted && decide (b.length = 8 + 4 * byteAt b 1)
  | 4 => decide (b.length = 16) && decide (beAt b 1 3 = 0) && decide (2 ≤ space) && decide (space ≤ 5)
  | 5 => decide (b.length = 8) && decide (beAt b 1 3 = 0) && decide (1 ≤ space) && decide (space ≤ 6) && (decide (space = 6) || decide (beAt b 4 4 = 0))
  | 6 => b.isEmpty
  | _ => decide (b.length = 4) && decide (byteAt b 1 = 0) && decide (space < 16) && decide (beAt b 2 2 ≤ 3600)

/-- How a SEQ stands to a key's window (R398). -/
inductive SeqVerdict where
  | fresh
  | again (reply : Bytes)
  | replay
deriving DecidableEq, Repr

/-- The window of R398. -/
def seqVerdict (w : KeyWin) (seq : Nat) : SeqVerdict :=
  match w.replies.find? (fun x => x.1 == seq) with
  | some x => .again x.2
  | none => if w.h < seq ∨ (w.h ≤ seq + 63 ∧ w.map.contains seq = false) then .fresh else .replay

/-- An accepted SEQ enters the window (R398). -/
def seqTake (seq : Nat) (w : KeyWin) : KeyWin :=
  let h := max w.h seq
  { w with h := h, map := seq :: w.map.filter (fun x => decide (h ≤ x + 63)) }

/-- The bank of a SPACE (R400), numbered as R330 numbers banks. -/
def rmpBank (space : Nat) : Nat := space

/-- RMP's requester number at a bank (R318). -/
def rmpReq (b : Nat) : Nat := if b = 2 then 2 else 1

/-- A context's table set in use (R290): of its open frame, or of its next. -/
def setInUse (s : State) (c t : Nat) : Bool :=
  ctxEn s c && (bits (actVal s (base 20 + 0x1000 + 0x40 * c)) 28 28 == t
    || (match openFrame s c with | some f => frTset f == t | none => false))

/-- A write to the VIEW bank is refused (R290 and the layout of chapter 10). -/
def viewBad (s : State) (o n : Nat) : Bool :=
  (List.range n).any (fun i =>
    let x := o + i
    decide (0x1A0000 ≤ x) || (decide (x < 0x50000) && setInUse s (x / 0xA000) (x / 0x5000 % 2)))

/-- A write of RMP to a bank (R216, R290, R318 to R320, R400): its RESULT. -/
def rmpBankWrite (b o al : Nat) (d : Bytes) (s : State) : Nat × State :=
  let s := bankGrant b (rmpReq b) s
  if o % al ≠ 0 ∨ bankSize b < o + d.length then (2, bankRefuse b s)
  else if b = 2 ∧ inPrint s = true then (4, notice Err.nzlDirect [] s)
  else if b = 4 ∧ viewBad s o d.length = true then (4, raiseLim .notice Err.ispTbl (o / 0xA000) (ms 1) [] s)
  else if b = 2 then (0, nozWrite o d s)
  else (0, bankPut b o d s)

/-- The RESULT of an answer (R402). -/
def rmpResult : AccRes → Nat
  | .ok => 0 | .refused => 4 | _ => 2

/-- One word read (R400): RESULT, value, effect. -/
def rmpReadWord (space a : Nat) (s : State) : Nat × Word × State :=
  if space = 0 then let r := masterRead .rmp a s; (rmpResult r.2.2, r.1, r.2.1)
  else
    let b := rmpBank space
    let s := bankGrant b (rmpReq b) s
    if bankSize b < a + 4 then (2, 0, bankRefuse b s) else (0, w32 (bankWord s b a 4), s)

/-- READ: words in ascending address up to the first that fails (R400). -/
def rmpReads (space : Nat) : Nat → Nat → State → Nat × List Word × State
  | 0, _, s => (0, [], s)
  | n + 1, a, s =>
    let r := rmpReadWord space a s
    if r.1 ≠ 0 then (r.1, [], r.2.2)
    else let t := rmpReads space n (a + 4) r.2.2; (t.1, r.2.1 :: t.2.1, t.2.2)

/-- WRITE: words in ascending address up to the first that is refused (R400): RESULT, words written. -/
def rmpWrites (space : Nat) : Nat → Nat → Bytes → Nat → State → Nat × Nat × State
  | 0, _, _, n, s => (0, n, s)
  | k + 1, a, d, n, s =>
    let v := w32 (beAt d 0 4)
    let r := if space = 0 then let r := masterWrite .rmp a v s; (rmpResult r.2, r.1) else rmpBankWrite (rmpBank space) a 1 (leBytes 4 v.toNat) s
    if r.1 ≠ 0 then (r.1, n, r.2) else rmpWrites space k (a + 4) (d.drop 4) (n + 1) r.2

/-- COMMAND (R401, R419, R431, R457): RESULT and effect. -/
def rmpCommand (code arg : Nat) (s : State) : Nat × State :=
  if code = 5 then (if s.sys.st = .faulted then (0, mMgt (fun m => { m with resetDue := true }) s) else (5, s))
  else if code = 6 then opYield arg s
  else if isStandby s || !ctlLegal s code then (5, s)
  else (0, ctlCommand code s)

/-- A request is executed (R399 to R401, R403): RESULT, the reply body after it, effect. -/
def rmpExec (ss : Session) (k : Key) (ty : Nat) (b : Bytes) (s : State) : Nat × Bytes × State :=
  let space := byteAt b 0
  match ty with
  | 1 => (0, beBytes 4 sysId.toNat ++ beBytes 1 (devCode s.sys.st) ++ beBytes 1 k.role ++ beBytes 2 0, s)
  | 2 =>
    let n := byteAt b 1
    let r := rmpReads space n (beAt b 4 4) s
    (r.1, (r.2.1 ++ List.replicate (n - r.2.1.length) 0).flatMap (fun (w : Word) => beBytes 4 w.toNat), r.2.2)
  | 3 =>
    let r := rmpWrites space (byteAt b 1) (beAt b 4 4) (b.drop 8) 0 s
    (r.1, beBytes 1 r.2.1 ++ beBytes 3 0, r.2.2)
  | 4 =>
    let o := beAt b 4 4
    let old := bankWord s (rmpBank space) o 8
    let r := rmpBankWrite (rmpBank space) o 8 (leBytes 8 (beAt b 8 8)) s
    (r.1, if r.1 = 0 then beBytes 8 old else [], r.2)
  | 5 => let r := rmpCommand space (beAt b 4 4) s; (r.1, [], r.2)
  | 6 =>
    let t := devTime s
    (0, beBytes 1 (devCode s.sys.st) ++ beBytes 1 (if paired s then s.par.role else 0) ++ beBytes 1 (servoCode (dom s 0).servo)
      ++ beBytes 1 (servoCode (dom s 1).servo) ++ beBytes 1 s.ptp.sel ++ beBytes 3 0 ++ beBytes 6 (secOf t) ++ beBytes 4 (nsOf t) ++ beBytes 2 0, s)
  | _ =>
    let r := opSubscribe ss k.id space (beAt b 2 2) s
    (r.1, if r.1 = 0 then beBytes 1 r.2.1 ++ beBytes 3 0 else [], r.2.2)

/-- A reply leaves (R397, R399): one that R398 keeps is kept. -/
def rmpReply (v : Via) (ss : Session) (k : Key) (ty seq result : Nat) (body : Bytes) (keep : Bool) (s : State) : State :=
  let q := (keyWin s k.id).txSeq + 1
  let rt := if 1 ≤ ty ∧ ty ≤ 7 then ty + 0x80 else 0x80
  let d := rmpSeal s k rt q seq (beBytes 1 result ++ beBytes 3 0 ++ body)
  let upd (w : KeyWin) : KeyWin := { w with txSeq := q, replies := if keep then ((seq, d) :: w.replies).take 16 else w.replies }
  sendOn v 5 ss (rmpPort s) d (mWin k.id upd s)

/-- Orders 5 to 7 of R397, and the request's execution. -/
def rmpServe (v : Via) (ss : Session) (k : Key) (d : Bytes) (s : State) : State :=
  let ty := byteAt d 3
  let seq := beAt d 16 8
  let b := d.drop 48
  let answer := fun (result : Nat) (body : Bytes) (s : State) => rmpReply v ss k ty seq result body (decide (ty ≠ 1)) s
  if ty = 0 ∨ 7 < ty then answer 1 [] s
  else if !rmpPermit k.role ty b then answer 3 [] s
  else if byteAt d 7 ≠ 0 ∨ beAt d 24 8 ≠ 0 ∨ rmpBodyOk ty b = false then answer 2 [] s
  else
    let r := rmpExec ss k ty b (mMgt (fun m => { m with cntReq := m.cntReq + 1 }) s)
    answer r.1 r.2.1 r.2.2

/-- Checks 1 and 2 of R397 fail: 1 FORMAT, 2 AUTH; else the key. -/
def rmpAuth (s : State) (d : Bytes) : Sum Nat Key :=
  if d.length < 48 ∨ beAt d 4 2 ≠ d.length ∨ beAt d 0 2 ≠ 0x524D ∨ byteAt d 2 ≠ 1 then .inl 1
  else match rmpKey s (byteAt d 6) with
    | none => .inl 2
    | some k =>
      if (hmac k.key (d.take 32 ++ List.replicate 16 0 ++ d.drop 48)).take 16 = (d.drop 32).take 16 then .inr k else .inl 2

/-- A datagram at the RMP port (R395, R397, R398). -/
def rmpRx (v : Via) (ss : Session) (d : Bytes) (s : State) : State :=
  if s.mgt.keys.isEmpty then s
  else match rmpAuth s d with
    | .inl 1 => mMgt (fun m => { m with cntFormat := satAdd 8 m.cntFormat 1 }) s
    | .inl _ => raiseLim .notice Err.rmpAuth 0 (ms 1) [] (mMgt (fun m => { m with cntAuth := satAdd 8 m.cntAuth 1 }) s)
    | .inr k =>
      let seq := beAt d 16 8
      if byteAt d 3 = 1 then rmpServe v ss k d s
      else if beAt d 8 8 ≠ s.mgt.boot.toNat then
        rmpReply v ss k (byteAt d 3) seq 6 [] false (mMgt (fun m => { m with cntStale := satAdd 8 m.cntStale 1 }) s)
      else match seqVerdict (keyWin s k.id) seq with
        | .replay => mMgt (fun m => { m with cntReplay := satAdd 8 m.cntReplay 1 }) s
        | .again r => sendOn v 5 ss (rmpPort s) r s
        | .fresh => rmpServe v ss k d (mWin k.id (seqTake seq) s)

/-- The datagram is discarded (R395, R397 orders 1 and 2, R398). -/
def rmpDropped (s : State) (d : Bytes) : Bool :=
  s.mgt.keys.isEmpty || (match rmpAuth s d with
    | .inl _ => true
    | .inr k => decide (byteAt d 3 ≠ 1) && decide (beAt d 8 8 = s.mgt.boot.toNat)
        && decide (seqVerdict (keyWin s k.id) (beAt d 16 8) = .replay))

/-- A datagram arrives at the RMP port of a network port (R395). -/
def rmpRun (rx : Arrival) (ss : Session) (d : Bytes) (s : State) : State :=
  rxFrame rx (fun s => doIf (datagramFor s rx ss.v6 (rmpPort s)) (rmpRx (backTo rx) ss d) s) s

/-- The datagram spells a request of type `ty`. -/
def rmpIs (ty : Nat) (d : Bytes) : Bool := decide (48 ≤ d.length) && decide (byteAt d 3 = ty)

/-- The datagram spells a COMMAND with code `c`. -/
def rmpIsCmd (c : Nat) (d : Bytes) : Bool := rmpIs 5 d && decide (49 ≤ d.length) && decide (byteAt d 48 = c)

/-- RMP_DISCARD (R395, R397, R398). -/
def execRmpDiscard (rx : Arrival) (ss : Session) (d : Bytes) (s : State) : Host.Outcome State Fault Refusal :=
  formed (rxUdp rx ss.v6) "RMP_DISCARD" (event (!awake s || rmpDropped s d) "RMP_DISCARD" (rmpRun rx ss d) s)

/-- RMP_UNKNOWN_TYPE (R397, R399). -/
def execRmpUnknownType (rx : Arrival) (ss : Session) (d : Bytes) (s : State) : Host.Outcome State Fault Refusal :=
  spelled (rxUdp rx ss.v6 && decide (48 ≤ d.length) && (decide (byteAt d 3 = 0) || decide (8 ≤ byteAt d 3))) "RMP_UNKNOWN_TYPE" (rmpRun rx ss d) s

/-- RMP_HELLO (R399). -/
def execRmpHello (rx : Arrival) (ss : Session) (d : Bytes) (s : State) : Host.Outcome State Fault Refusal :=
  spelled (rxUdp rx ss.v6 && rmpIs 1 d) "RMP_HELLO" (rmpRun rx ss d) s

/-- RMP_READ (R400). -/
def execRmpRead (rx : Arrival) (ss : Session) (d : Bytes) (s : State) : Host.Outcome State Fault Refusal :=
  spelled (rxUdp rx ss.v6 && rmpIs 2 d) "RMP_READ" (rmpRun rx ss d) s

/-- RMP_WRITE (R400). -/
def execRmpWrite (rx : Arrival) (ss : Session) (d : Bytes) (s : State) : Host.Outcome State Fault Refusal :=
  spelled (rxUdp rx ss.v6 && rmpIs 3 d) "RMP_WRITE" (rmpRun rx ss d) s

/-- RMP_SWAP (R400). -/
def execRmpSwap (rx : Arrival) (ss : Session) (d : Bytes) (s : State) : Host.Outcome State Fault Refusal :=
  spelled (rxUdp rx ss.v6 && rmpIs 4 d) "RMP_SWAP" (rmpRun rx ss d) s

/-- RMP_STATUS (R399). -/
def execRmpStatus (rx : Arrival) (ss : Session) (d : Bytes) (s : State) : Host.Outcome State Fault Refusal :=
  spelled (rxUdp rx ss.v6 && rmpIs 6 d) "RMP_STATUS" (rmpRun rx ss d) s

/-- RMP_SUBSCRIBE (R403). -/
def execRmpSubscribe (rx : Arrival) (ss : Session) (d : Bytes) (s : State) : Host.Outcome State Fault Refusal :=
  spelled (rxUdp rx ss.v6 && rmpIs 7 d) "RMP_SUBSCRIBE" (rmpRun rx ss d) s

/-- RMP_HOLD (R401). -/
def execRmpHold (rx : Arrival) (ss : Session) (d : Bytes) (s : State) : Host.Outcome State Fault Refusal :=
  spelled (rxUdp rx ss.v6 && rmpIsCmd 1 d) "RMP_HOLD" (rmpRun rx ss d) s

/-- RMP_RESUME (R401). -/
def execRmpResume (rx : Arrival) (ss : Session) (d : Bytes) (s : State) : Host.Outcome State Fault Refusal :=
  spelled (rxUdp rx ss.v6 && rmpIsCmd 2 d) "RMP_RESUME" (rmpRun rx ss d) s

/-- RMP_STOP (R401). -/
def execRmpStop (rx : Arrival) (ss : Session) (d : Bytes) (s : State) : Host.Outcome State Fault Refusal :=
  spelled (rxUdp rx ss.v6 && rmpIsCmd 3 d) "RMP_STOP" (rmpRun rx ss d) s

/-- RMP_ACKNOWLEDGE (R401, R485). -/
def execRmpAcknowledge (rx : Arrival) (ss : Session) (d : Bytes) (s : State) : Host.Outcome State Fault Refusal :=
  spelled (rxUdp rx ss.v6 && rmpIsCmd 4 d) "RMP_ACKNOWLEDGE" (rmpRun rx ss d) s

/-- RMP_RESET (R401, R457). -/
def execRmpReset (rx : Arrival) (ss : Session) (d : Bytes) (s : State) : Host.Outcome State Fault Refusal :=
  spelled (rxUdp rx ss.v6 && rmpIsCmd 5 d) "RMP_RESET" (rmpRun rx ss d) s

/-- RMP_YIELD (R431). -/
def execRmpYield (rx : Arrival) (ss : Session) (d : Bytes) (s : State) : Host.Outcome State Fault Refusal :=
  spelled (rxUdp rx ss.v6 && rmpIsCmd 6 d) "RMP_YIELD" (rmpRun rx ss d) s

/-- RMP_COMMAND_INVALID (R401): a reserved code, or none. -/
def execRmpCommandInvalid (rx : Arrival) (ss : Session) (d : Bytes) (s : State) : Host.Outcome State Fault Refusal :=
  spelled (rxUdp rx ss.v6 && rmpIs 5 d && (decide (d.length = 48) || decide (byteAt d 48 = 0) || decide (7 ≤ byteAt d 48))) "RMP_COMMAND_INVALID" (rmpRun rx ss d) s

end Sys2Proof.Machine
end

