-- ==== Sys2Proof/Machine/Towline.lean ====
section
/-! DEFINITION. Towline (03_layers_and_towline): the header checks (R68, R69), announces (R73), fragments (R78 to R81),
acknowledgement (R86), closes (R91, R92), restarts and releases (R93, R94), STATUS (R96), and compression on arrival
(R101, R128 to R131). -/

namespace Sys2Proof.Machine

/-- The offset of the first byte of `l` that is not 0, counted from `o`. -/
def firstSet (l : Bytes) (o : Nat) : Option Nat := (l.findIdx? (· != 0)).map (· + o)

/-- Check 1 of R68: the offset of the first bad header byte. -/
def towHeaderBad (d : Bytes) : Option Nat :=
  if byteAt d 0 ≠ 0x54 then some 0 else if byteAt d 1 ≠ 0x57 then some 1 else if byteAt d 2 ≠ 1 then some 2
  else firstSet ((d.drop 6).take 2) 6

/-- Check 3 of R68: LENGTH fits the TYPE. -/
def towLengthOk (d : Bytes) : Bool :=
  let n := d.length
  match byteAt d 3 with
  | 1 => decide (44 ≤ n)
  | 2 => decide (33 ≤ n) && decide (n ≤ 8952)
  | 3 => n == 20
  | 4 => n == 24
  | _ => n == 16

/-- Check 4 of R68: the offset of the first reserved body field that is set, or of a START_MS above 31. -/
def towBodyBad (d : Bytes) : Option Nat :=
  match byteAt d 3 with
  | 2 => firstSet ((d.drop 26).take 2) 26
  | 4 => if byteAt d 16 ≠ 0 then some 16 else if 31 < byteAt d 20 then some 20 else firstSet ((d.drop 21).take 3) 21
  | _ => none

/-- The LAYER field of a message. -/
def towLayer (d : Bytes) : Nat := beAt d 8 4

/-- The layer of a message that is resident. -/
def liveLayer (s : State) (id : Nat) : Option Layer := s.tow.layers.find? (fun l => l.id == id && resident l)

/-- A datagram arrives; it is Towline's when it goes to the Towline port at an address of the device or of its pair group (R66). -/
def towRx (rx : Arrival) (ss : Session) (f : Via → State → State) (s : State) : State :=
  rxFrame rx (fun s => doIf (datagramFor s rx ss.v6 (towPort s)) (f (backTo rx)) s) s

/-- The common checks of R68 and R69; `f` is what the message does once it passes. -/
def towEntry (ss : Session) (d : Bytes) (f : Via → State → State) (np : Via) (s : State) : State :=
  let no := fun (a : NakArgs) => sendNak (some np) ss (towLayer d) a s
  match towHeaderBad d with
  | some o => no { reason := 2, detail := o }
  | none =>
    if !towLengthOk d then no { reason := 2, detail := 4 }
    else match towBodyBad d with
      | some o => no { reason := 6, fseq := if byteAt d 3 = 2 then beAt d 16 4 else 0xFFFFFFFF, detail := o }
      | none => if operational s then f np s else no { reason := 1, detail := devCode s.sys.st }

/-- The layer that a message addresses, owned by its session (R70, R78); a Released layer still has its owner (R94), and `gone` is
what its owner is answered. -/
def towOwned (np : Via) (ss : Session) (d : Bytes) (fseq : Nat) (gone : NakArgs) (f : Layer → State → State) (s : State) : State :=
  match layerOf s (towLayer d) with
  | none => sendNak (some np) ss (towLayer d) { reason := 4, fseq := fseq } s
  | some l =>
    if l.sess ≠ ss then sendNak (some np) ss (towLayer d) { reason := 11, fseq := fseq } s
    else if resident l then f l s
    else sendNak (some np) ss (towLayer d) { gone with fseq := fseq } s

/-- A Released layer accepts neither blocks nor a close: LAYER_UNKNOWN (R78; log 126). -/
def goneUnknown : NakArgs := { reason := 4 }

/-- A Released layer cannot be restarted: WRONG_STATE with its LSTATE (R93). -/
def goneState : NakArgs := { reason := 19, detail := 6 }

/-- Blocks that are missing: neither present, nor passed, nor waiting for or in compression; lowest stripe first (R91). -/
def missingBlocks (l : Layer) : List (Nat × Nat) :=
  (List.range l.stripes.length).flatMap (fun i => ((List.range (nBlocks l)).filter (fun b =>
    match blockOf l i b with | none => true | some k => decide (k.st = .partly))).map (fun b => (i, b)))

/-- Take a layer to Ready when it loads (R91, R92); the strands that it heads begin to serve it (R135). -/
def layerReady (id : Nat) (s : State) : State :=
  match layerOf s id with
  | some l => if l.st = .announced ∨ l.st = .loading then updateMargins (strandSync (setLayerSt id .ready 0 s)) else s
  | none => s

/-- The close of a layer is checked (R91): `np` is the port of the message that causes it, `answer` holds for a
LAYER_CLOSE itself. DESIGN CHOICE (log 142): a fragment that completes the FSEQs of a pending close while a block is missing draws one
NAK INCOMPLETE. -/
def closeCheck (np : Option Via) (id : Nat) (answer : Bool) (s : State) : State :=
  match layerOf s id with
  | none => s
  | some l =>
    match l.closeReq with
    | none => s
    | some fc =>
      if l.closeDone then (if answer then sendAck np l.sess id s else s)
      else if l.cum < fc then (if answer then sendAck np l.sess id s else s)
      else match missingBlocks l with
        | (i, b) :: r =>
          if answer || !l.incNaked then
            let s := mLayer id (fun l => { l with incNaked := true }) s
            sendNak np l.sess id { reason := 18, stripe := (nth l.stripes i (0, 0)).1, block := b, detail := r.length + 1 } s
          else s
        | [] =>
          if presentCount l < layerBlocks l then (if answer then sendAck np l.sess id s else s)
          else creditWatch (sendAck np l.sess id (layerReady id (mLayer id (fun l => { l with closeDone := true }) s)))

/-- A STREAM layer is Ready with its first two blocks of every stripe present (R92). -/
def streamCheck (id : Nat) (s : State) : State :=
  match layerOf s id with
  | none => s
  | some l =>
    if l.stream && decide (l.st = .loading) && (List.range l.stripes.length).all (fun i =>
        (List.range (min 2 (nBlocks l))).all (isPresent l i)) then layerReady id s
    else s

/-- Update the directory's record of a block. -/
def mBlock (id sidx b : Nat) (f : Block → Block) (s : State) : State :=
  mLayer id (fun l => { l with blocks := modFirst (fun k => k.sidx == sidx && k.b == b) f l.blocks }) s

/-- Lines of a stripe became present (R153). DESIGN CHOICE (log 146): the lines of every layer with that stripe count. -/
def notePresent (seg n : Nat) (s : State) : State :=
  mStr (fun t => { t with presentNow := (seg, n) :: t.presentNow }) s

/-- A block is marked present: the close, STREAM readiness, the strands' margins (R91, R92, R101, R150). -/
def markPresent (np : Option Via) (id sidx b : Nat) (s : State) : State :=
  match layerOf s id with
  | none => s
  | some l =>
    let seg := (nth l.stripes sidx (0, 0)).1
    let s := dirPut (dirEntry l sidx b) (some (id, seg, b, true)) s
    let s := notePresent seg (blockLines l b) (mBlock id sidx b (fun k => { k with st := .present }) s)
    updateMargins (streamCheck id (closeCheck np id false s))

/-- Stage 2 takes the fragments that wait for it: their DRAM writes are queued at INGRESS (R106, R323). -/
def placeFragments (s : State) : State :=
  each (fun (u : Unwritten) s =>
    if u.queued || !stageOpen s 2 then s
    else match layerOf s u.layer with
      | none => s
      | some l =>
        stageTake 2 [u.layer, u.lsa] u.layer (nth l.stripes u.sidx (0, 0)).1 none (fun s =>
          let t := s.mem.nextTag
          let upd (x : Unwritten) : Unwritten := { x with queued := true, tag := t, left := unitCount u.lsa u.data.length }
          memWrite 1 t u.lsa u.data (takeTag
            (mTow (fun w => { w with unwritten := modFirst (fun x => x.layer == u.layer && x.lsa == u.lsa && !x.queued) upd w.unwritten }) s))) s)
    s.tow.unwritten s

/-- A complete block is checked against the announce (R80, R113): HEADER_INVALID or CRC_MISMATCH with its DETAIL.
DESIGN CHOICE (log 141): where only TOTAL disagrees with the header, DETAIL is 20, the place of the payload length. -/
def blockBad (s : State) (l : Layer) (k : Block) : Option (Nat × Nat) :=
  let h := objBytes s l k.sidx k.b 0 (min 32 k.total)
  match headerFault h l k.sidx k.b none with
  | some o => some (15, o)
  | none =>
    if k.total ≠ 32 + leAt h 20 4 then some (15, 20)
    else if (byteAt h 3).testBit 7 then
      let c := (crc32c (objBytes s l k.sidx k.b 32 (k.total - 32))).toNat
      if c ≠ leAt h 24 4 then some (16, c) else none
    else none

/-- A block's header carries RAW. -/
def blockRaw (s : State) (l : Layer) (k : Block) : Bool := (byteAt (objBytes s l k.sidx k.b 3 1) 0).testBit 7

/-- Every fragment of a block is held: it passes, or it is refused and forgotten (R80, R81, R101). -/
def blockHeld (np : Via) (id sidx b fseq : Nat) (s : State) : State :=
  match layerOf s id with
  | none => s
  | some l => match blockOf l sidx b with
    | none => s
    | some k => match blockBad s l k with
      | some (reason, detail) =>
        let s := mLayer id (fun l => { l with blocks := l.blocks.filter (fun x => !(x.sidx == sidx && x.b == b)) }) s
        let s := mTow (fun t => { t with unwritten := t.unwritten.filter (fun u => !(u.layer == id && u.sidx == sidx && u.b == b)) }) s
        sendNak (some np) l.sess id { reason := reason, stripe := (nth l.stripes sidx (0, 0)).1, block := b, fseq := fseq, detail := detail } s
      | none =>
        if l.compress && blockRaw s l k then
          mCmp (fun c => { c with wait := c.wait ++ [(id, sidx, b)] }) (mBlock id sidx b (fun k => { k with st := .waiting }) s)
        else mBlock id sidx b (fun k => { k with st := .checked }) s

/-- Check 4 of R78: STRIPE, BLOCK, FRAG, n and TOTAL agree with R77 and with earlier fragments. -/
def fragFits (l : Layer) (sidx : Option Nat) (b frag total n : Nat) : Bool :=
  match sidx with
  | none => false
  | some i =>
    decide (b < nBlocks l) && decide (frag * l.fragSize < total)
      && decide (n = min l.fragSize (total - frag * l.fragSize))
      && (match blockOf l i b with | some k => k.total == total | none => true)

/-- ACKs that a newly received fragment draws (R86). -/
def ackDue (np : Via) (id fseq : Nat) (s : State) : State :=
  match layerOf s id with
  | none => s
  | some l =>
    if l.unacked = 0 ∨ resident l = false then s
    else if 32 ≤ l.unacked then sendAck (some np) l.sess id s
    else if l.cum < fseq ∧ (match l.gapAckAt with | some t => decide (t + us 50 ≤ s.now) | none => true) = true then
      sendAck (some np) l.sess id (mLayer id (fun l => { l with gapAckAt := some s.now }) s)
    else mLayer id (fun l => { l with ackArmed := true }) s

/-- A duplicate: counted, its FSEQ marked received (R79). -/
def fragDup (np : Via) (id fseq : Nat) (s : State) : State :=
  match layerOf s id with
  | none => s
  | some l =>
    let new := !gotFseq l fseq
    let s := mTow (fun t => { t with cntDup := t.cntDup + 1 }) (mLayer id (markFseq fseq) s)
    let s := if new then mLayer id (fun l => { l with unacked := l.unacked + 1 }) s else s
    let s := closeCheck (some np) id false s
    if new then ackDue np id fseq s else s

/-- A fragment enters its layer: its number is marked, its place noted under its block (R79 to R81). -/
def fragEnter (sidx b frag total fseq : Nat) (l : Layer) : Layer :=
  { markFseq fseq l with
    unacked := l.unacked + 1
    blocks := match blockOf l sidx b with
      | some _ => modFirst (fun k => k.sidx == sidx && k.b == b) (fun k => { k with frags := frag :: k.frags }) l.blocks
      | none => l.blocks ++ [⟨sidx, b, total, total, [frag], .partly⟩] }

/-- Every one of a block's `n` fragments is held (R80). -/
def blockFull (id sidx b n : Nat) (s : State) : Bool :=
  match layerOf s id with
  | some l => (match blockOf l sidx b with | some k => decide (k.frags.length = n) | none => false)
  | none => false

/-- A fragment that passes R78 is stored (R78 to R81, R97). -/
def fragStore (np : Via) (id sidx b frag total fseq : Nat) (data : Bytes) (s : State) : State :=
  match layerOf s id with
  | none => s
  | some l =>
    let s := mTow (fun t => { t with cntRx := t.cntRx + 1 }) s
    let s := mLayer id (fragEnter sidx b frag total fseq) s
    let u : Unwritten := ⟨id, sidx, b, lsaOf s l sidx b (frag * l.fragSize), data, false, 0, 0⟩
    let s := mTow (fun t => { t with unwritten := t.unwritten ++ [u] }) s
    let s := if l.st = .announced then updateMargins (strandSync (setLayerSt id .loading 0 s)) else s
    let s := if blockFull id sidx b (cdiv total l.fragSize) s then blockHeld np id sidx b fseq s else s
    placeFragments (ackDue np id fseq (closeCheck (some np) id false s))

/-- The checks of R78 on a fragment of the session's own layer. -/
def fragCheck (np : Via) (ss : Session) (d : Bytes) (l : Layer) (s : State) : State :=
  let fseq := beAt d 16 4
  let stripe := beAt d 20 2
  let b := beAt d 22 2
  let frag := beAt d 24 2
  let total := beAt d 28 4
  let data := d.drop 32
  let sidx := stripeIdx l stripe
  let no := fun (r det : Nat) => sendNak (some np) ss l.id { reason := r, stripe := stripe, block := b, fseq := fseq, detail := det } s
  let out := fun (r det : Nat) => sendNak (some np) ss l.id { reason := r, fseq := fseq, detail := det } s
  if gotFseq l fseq then fragDup np l.id fseq s
  else
    match (if l.closeDone then l.closeReq else none) with
    | some fc => if fseq < fc then fragDup np l.id fseq s else out 17 fc
    | none =>
      if l.ackCum + l.lastCredit ≤ fseq ∨ stageOpen s 1 = false then out 12 l.cum
      else if !fragFits l sidx b frag total data.length then no 13 frag
      else match sidx with
        | none => no 13 frag
        | some i =>
          if frameSize l i b < total then no 14 (frameSize l i b)
          else if (match blockOf l i b with | some k => k.frags.contains frag | none => false) then fragDup np l.id fseq s
          else stageTake 1 [l.id, fseq] l.id stripe none (fragStore np l.id i b frag total fseq data) s

/-- Stripe entries that a LAYER_ANNOUNCE carries. -/
def annStripes (d : Bytes) : List (Nat × Nat) :=
  (List.range (min (beAt d 28 2) ((d.length - 40) / 4))).map (fun i => (beAt d (40 + 4 * i) 2, beAt d (42 + 4 * i) 2))

/-- A field outside its range, or with a reserved bit set: the lowest offset (R71, R73). -/
def annRangeBad (d : Bytes) : Option Nat :=
  let pol := byteAt d 22
  if towLayer d = 0xFFFFFFFF then some 8
  else if byteAt d 16 ≠ 0 ∨ beAt d 16 4 % 2 ^ 24 = 0 then some 16
  else if byteAt d 20 < 1 ∨ 3 < byteAt d 20 then some 20
  else if byteAt d 21 < 6 ∨ 10 < byteAt d 21 then some 21
  else if 1 < pol % 4 ∨ 1 < pol / 4 % 4 ∨ 1 < pol / 16 then some 22
  else if 7 < byteAt d 23 then some 23
  else if 31 < byteAt d 24 then some 24
  else if byteAt d 25 ≠ 0 then some 25
  else if beAt d 26 2 < 1024 ∨ 8920 < beAt d 26 2 ∨ beAt d 26 2 % 8 ≠ 0 then some 26
  else if beAt d 28 2 < 1 ∨ 512 < beAt d 28 2 then some 28
  else if beAt d 30 2 ≠ 0 then some 30
  else firstSome (fun x => if 511 < x.1.1 ∨ x.1.2 < 1 ∨ 4096 < x.1.2 then some (40 + 4 * x.2) else none)
    (annStripes d).zipIdx

/-- The first stripe entry that breaks the order of R72 or its port's sum of widths. -/
def annOrderBad (l : List (Nat × Nat)) : Option Nat :=
  firstSome (fun i =>
    let x := nth l i (0, 0)
    let sum := sumN (((l.take (i + 1)).filter (fun y => y.1 / 8 == x.1 / 8)).map (·.2))
    if (0 < i ∧ x.1 ≤ (nth l (i - 1) (0, 0)).1) ∨ 4096 < sum then some (40 + 4 * i) else none) (List.range l.length)

/-- Check 1 of R73: DETAIL of the BAD_PARAM. -/
def annBad (d : Bytes) : Option Nat :=
  match annRangeBad d with
  | some o => some o
  | none => if d.length ≠ 40 + 4 * beAt d 28 2 then some 4 else annOrderBad (annStripes d)

/-- The layer that an announce describes (R71). -/
def annLayer (ss : Session) (d : Bytes) : Layer where
  id := towLayer d
  sess := ss
  dir := []
  params := d.drop 16
  lines := beAt d 16 4
  depth := byteAt d 20
  hlog2 := byteAt d 21
  undStop := (byteAt d 22).testBit 0
  ovsStop := (byteAt d 22).testBit 2
  codecStop := (byteAt d 22).testBit 4
  compress := (byteAt d 23).testBit 0
  stream := (byteAt d 23).testBit 1
  autoRel := (byteAt d 23).testBit 2
  startMs := byteAt d 24
  fragSize := beAt d 26 2
  optional := BitVec.ofNat 64 (beAt d 32 8)
  stripes := annStripes d
  st := .none
  cause := 0
  cum := 0
  beyond := []
  blocks := []
  closeReq := none
  closeDone := false
  unacked := 0
  ackArmed := false
  lastCredit := 0
  ackCum := 0
  incNaked := false
  gapAckAt := none
  k0 := 0
  restarted := false
  suspended := false
  joined := 0
  lastLine := none
  overlapLogged := false
  revLogged := false
  lateLogged := 0
  missLogged := 0
  shortLogged := []

/-- The lowest Absent port of a listed stripe whose OPTIONAL bit is clear (R73 check 3). -/
def annAbsent (s : State) (l : Layer) : Option Nat :=
  firstSome (fun x => let q := segPort x.1; if (headPort s q).absent && !l.optional.getLsbD q then some q else none) l.stripes

/-- The checks of R73, in order. DESIGN CHOICE (log 140): DETAIL of NO_CAPACITY is the footprint rounded up to whole KiB. -/
def announce (np : Via) (ss : Session) (d : Bytes) (s : State) : State :=
  let l := annLayer ss d
  let no := fun (r det : Nat) => sendNak (some np) ss l.id { reason := r, detail := det } s
  match annBad d with
  | some o => no 6 o
  | none =>
    let old := liveLayer s l.id
    if (match old with | some x => x.params != l.params | none => false) then no 5 0
    else if (match old with | some x => x.sess == ss | none => false) then sendAck (some np) ss l.id s
    else match annAbsent s l with
      | some q => no 10 q
      | none =>
        if s.plc.slots = 0 ∨ slotSize s < footprint l then no 7 (cdiv (footprint l) 1024)
        else match slotHolder s (slotFor s l.id) with
          | some x => no 8 x.id
          | none =>
            if dirFree s < layerBlocks l then no 9 (dirFree s)
            else
              let l := { l with dir := dirTake s (layerBlocks l) }
              let s := dirLayer l false s
              let s := mTow (fun t => { t with layers := t.layers.filter (fun x => x.id != l.id) ++ [l], queue := t.queue ++ [l.id] }) s
              sendAck (some np) ss l.id (setLayerSt l.id .announced 0 s)

/-- LAYER_CLOSE of the session's own layer (R91). -/
def closeMsg (np : Via) (d : Bytes) (l : Layer) (s : State) : State :=
  if l.closeDone then sendAck (some np) l.sess l.id s
  else closeCheck (some np) l.id true (mLayer l.id (fun l => { l with closeReq := some (beAt d 16 4) }) s)

/-- LAYER_RESTART of the session's own layer (R93). -/
def restartMsg (np : Via) (ss : Session) (d : Bytes) (l : Layer) (s : State) : State :=
  let first := beAt d 16 4
  let msn := byteAt d 20
  let heads := s.tow.queue.head? == some l.id
  let ack0 := fun (s : State) => match layerOf s l.id with
    | some l => mLayer l.id (fun l => { l with unacked := 0, ackArmed := false, lastCredit := 0, ackCum := l.cum })
        (sendTow (some np) ss (ackMsg s l 0) s)
    | none => s
  if l.restarted && heads && decide (l.st = .ready) && decide (l.k0 = first) && decide (l.startMs = msn) then ack0 s
  else if s.sys.st = .ready ∧ (l.st = .done ∨ (l.st = .printing ∧ l.suspended = true)) then
    let s := mTow (fun t => { t with queue := l.id :: t.queue.filter (· != l.id) }) s
    let s := mLayer l.id (fun l => { l with k0 := first, startMs := msn, restarted := true, suspended := false, lastLine := none, joined := 0 }) s
    let s := setLayerSt l.id .ready 0 s
    let s := each (fun n s => if strandActive s n then enterStrand n l.id s else s) (List.range 512) s
    ack0 (updateMargins (strandSync s))
  else sendNak (some np) ss l.id { reason := 19, detail := lsCode l.st } s

/-- LAYER_RELEASE (R94); of a layer already Released by the owning session it is a repetition. -/
def releaseMsg (np : Via) (ss : Session) (d : Bytes) (s : State) : State :=
  let id := towLayer d
  match layerOf s id with
  | none => sendNak (some np) ss id { reason := 4 } s
  | some l =>
    if l.sess ≠ ss then sendNak (some np) ss id { reason := 11 } s
    else if l.st = .released then sendAck (some np) ss id s
    else if l.st = .printing ∧ l.suspended = false ∧ (s.sys.st = .printing ∨ s.sys.st = .held) then
      sendNak (some np) ss id { reason := 19, detail := lsCode l.st } s
    else
      let s := sendAck (some np) ss id (releaseLayer id 1 s)
      creditWatch (updateMargins (strandSync s))

/-- STATUS_REQ (R86, R96). -/
def statusMsgReq (np : Via) (ss : Session) (d : Bytes) (s : State) : State :=
  let id := towLayer d
  let l := if id = 0xFFFFFFFF then none else layerOf s id
  let s := sendTow (some np) ss (statusMsg s id l) s
  match l with
  | some _ => sendAck (some np) ss id s
  | none => s

/-- A fragment's writes are complete: a block whose writes all are is marked present (R85, R86, R310). -/
def fragWritten (s : State) : State :=
  match s.tow.unwritten.find? (fun u => u.queued && decide (u.left = 0)) with
  | none => s
  | some u =>
    let s := mTow (fun t => { t with unwritten := t.unwritten.erase u }) s
    let open_ := s.tow.unwritten.any (fun x => x.layer == u.layer && x.sidx == u.sidx && x.b == u.b)
    let ok := match layerOf s u.layer with
      | some l => (match blockOf l u.sidx u.b with | some k => decide (k.st = .checked) | none => false)
      | none => false
    creditWatch (if ok && !open_ then markPresent none u.layer u.sidx u.b s else s)

/-- A block's fragments are all written to DRAM. -/
def blockWritten (s : State) (j : Nat × Nat × Nat) : Bool :=
  !(s.tow.unwritten.any (fun u => u.layer == j.1 && u.sidx == j.2.1 && u.b == j.2.2))

/-- A free compressor, the lowest. -/
def freeComp (s : State) : Option Nat := s.cmp.comps.toList.findIdx? (fun c => c.job.isNone)

/-- Compressor `c` takes the oldest waiting block and begins to read it (R103, R131). -/
def compStart (s : State) : State :=
  match s.cmp.wait, freeComp s with
  | j :: r, some c => match layerOf s j.1 with
    | none => mCmp (fun m => { m with wait := r }) s
    | some l =>
      let t := s.mem.nextTag
      let n := rawLen l j.2.1 j.2.2
      let a := lsaOf s l j.2.1 j.2.2 32
      let raw := objBytes s l j.2.1 j.2.2 32 n
      let s := mCmp (fun m => { m with wait := r }) (mBlock j.1 j.2.1 j.2.2 (fun k => { k with st := .compressing c }) s)
      memRead (2 + c) t false a n (takeTag (mComp c (fun _ => { idleComp with job := some j, raw := raw, tag := t, left := unitCount a n }) s))
  | _, _ => s

/-- The chain begins to drain into the frame from payload offset 0 (R128). -/
def chainDrain (c : Nat) (s : State) : State :=
  match (comp s c).job with
  | none => s
  | some j => match layerOf s j.1 with
    | none => s
    | some l =>
      let p := compOut s c
      let a := lsaOf s l j.2.1 j.2.2 32
      memWrite (2 + c) (comp s c).tag a p (mComp c (fun k => { k with draining := true, left := k.left + unitCount a p.length }) s)

/-- Compressor `c` is free; what it had not yet had granted is withdrawn. -/
def compFree (c : Nat) (s : State) : State :=
  let k := comp s c
  mComp c (fun _ => idleComp)
    (arbDropped (mMem (fun m => { m with pend := m.pend.filter (fun u => !(k.job.isSome && u.tag == k.tag && decide (0 < k.left))) }) s))

/-- The block of compressor `c` stays raw and is marked present (R102, R129). -/
def compRaw (c : Nat) (s : State) : State :=
  match (comp s c).job with
  | none => s
  | some j => markPresent none j.1 j.2.1 j.2.2 (compFree c (mCmp (fun m => { m with cntRaw := m.cntRaw + 1 }) s))

/-- Compression completes after the header write, and the block is marked present (R130). -/
def compDone (c : Nat) (s : State) : State :=
  match (comp s c).job with
  | none => s
  | some j =>
    if !(comp s c).draining then compRaw c s
    else
      let n := (compOut s c).length
      let s := mBlock j.1 j.2.1 j.2.2 (fun k => { k with len := 32 + n }) (mCmp (fun m => { m with cntBlk := m.cntBlk + 1 }) s)
      markPresent none j.1 j.2.1 j.2.2 (compFree c s)

/-- TOW_DROP (R68). -/
def execTowDrop (rx : Arrival) (ss : Session) (d : Bytes) (s : State) : Host.Outcome State Fault Refusal :=
  spelled (rxUdp rx ss.v6 && decide (towDropCase d ≠ 0)) "TOW_DROP" (towRx rx ss (fun _ s =>
    let c := towDropCase d
    raiseLim .notice Err.towDrop (sessKey ss) (ms 1) [c, if c = 3 then 0 else towLayer d]
      (mTow (fun t => { t with cntDrop := t.cntDrop + 1 }) s))) s

/-- TOWLINE_RESERVED_TYPE (R68). -/
def execTowlineReservedType (rx : Arrival) (ss : Session) (d : Bytes) (s : State) : Host.Outcome State Fault Refusal :=
  spelled (rxUdp rx ss.v6 && towReserved d) "TOWLINE_RESERVED_TYPE" (towRx rx ss (fun np s =>
    match towHeaderBad d with
    | some o => sendNak (some np) ss (towLayer d) { reason := 2, detail := o } s
    | none => sendNak (some np) ss (towLayer d) { reason := 3, detail := byteAt d 3 } s)) s

/-- LAYER_ANNOUNCE (R71 to R75). -/
def execLayerAnnounce (rx : Arrival) (ss : Session) (d : Bytes) (s : State) : Host.Outcome State Fault Refusal :=
  spelled (rxUdp rx ss.v6 && towIs 1 d) "LAYER_ANNOUNCE" (towRx rx ss (towEntry ss d (fun np => announce np ss d))) s

/-- BLOCK_DATA (R76 to R86). -/
def execBlockData (rx : Arrival) (ss : Session) (d : Bytes) (s : State) : Host.Outcome State Fault Refusal :=
  spelled (rxUdp rx ss.v6 && towIs 2 d) "BLOCK_DATA" (towRx rx ss (towEntry ss d (fun np => towOwned np ss d (beAt d 16 4) goneUnknown (fragCheck np ss d)))) s

/-- LAYER_CLOSE (R91). -/
def execLayerClose (rx : Arrival) (ss : Session) (d : Bytes) (s : State) : Host.Outcome State Fault Refusal :=
  spelled (rxUdp rx ss.v6 && towIs 3 d) "LAYER_CLOSE" (towRx rx ss (towEntry ss d (fun np => towOwned np ss d 0xFFFFFFFF goneUnknown (closeMsg np d)))) s

/-- LAYER_RESTART (R93). -/
def execLayerRestart (rx : Arrival) (ss : Session) (d : Bytes) (s : State) : Host.Outcome State Fault Refusal :=
  spelled (rxUdp rx ss.v6 && towIs 4 d) "LAYER_RESTART" (towRx rx ss (towEntry ss d (fun np => towOwned np ss d 0xFFFFFFFF goneState (restartMsg np ss d)))) s

/-- LAYER_RELEASE (R94). -/
def execLayerRelease (rx : Arrival) (ss : Session) (d : Bytes) (s : State) : Host.Outcome State Fault Refusal :=
  spelled (rxUdp rx ss.v6 && towIs 5 d) "LAYER_RELEASE" (towRx rx ss (towEntry ss d (fun np => releaseMsg np ss d))) s

/-- STATUS_REQ (R96). -/
def execStatusReq (rx : Arrival) (ss : Session) (d : Bytes) (s : State) : Host.Outcome State Fault Refusal :=
  spelled (rxUdp rx ss.v6 && towIs 6 d) "STATUS_REQ" (towRx rx ss (towEntry ss d (fun np => statusMsgReq np ss d))) s

/-- ACK_TIMER (R86): armed by the first fragment that no ACK covers. -/
def execAckTimer (layer : Word) (s : State) : Host.Outcome State Fault Refusal :=
  event (match layerOf s layer.toNat with | some l => l.ackArmed | none => false) "ACK_TIMER"
    (fun s => match layerOf s layer.toNat with | some l => sendAck none l.sess l.id s | none => s) s

/-- FRAGMENT_WRITTEN (R85, R86, R310). -/
def execFragmentWritten (s : State) : Host.Outcome State Fault Refusal :=
  event (dataRuns s && s.tow.unwritten.any (fun u => u.queued && decide (u.left = 0))) "FRAGMENT_WRITTEN" fragWritten s

/-- COMPRESSOR_START (R131). -/
def execCompressorStart (s : State) : Host.Outcome State Fault Refusal :=
  event (dataRuns s && (freeComp s).isSome && (match s.cmp.wait with | j :: _ => blockWritten s j | [] => false)) "COMPRESSOR_START" compStart s

/-- CHAIN_DRAIN (R128). -/
def execChainDrain (c : Fin 2) (s : State) : Host.Outcome State Fault Refusal :=
  event (dataRuns s && (comp s c).job.isSome && !(comp s c).draining && chainAt s c .drain) "CHAIN_DRAIN" (chainDrain c) s

/-- COMPRESS_ABANDON (R129). -/
def execCompressAbandon (c : Fin 2) (s : State) : Host.Outcome State Fault Refusal :=
  event (dataRuns s && (comp s c).job.isSome && chainAt s c .full) "COMPRESS_ABANDON" (compRaw c) s

/-- COMPRESSION_COMPLETE (R102, R130). -/
def execCompressionComplete (c : Fin 2) (s : State) : Host.Outcome State Fault Refusal :=
  event (dataRuns s && (comp s c).job.isSome && decide ((comp s c).left = 0) && ((comp s c).hdr || chainAt s c .raw))
    "COMPRESSION_COMPLETE" (compDone c) s

end Sys2Proof.Machine
end

