-- ==== Sys2Proof/Machine/Waypost.lean ====
section
/-! DEFINITION. The Waypost port (R495 to R503): the TAP, WP_ACC accesses, halt, step, resume. -/

namespace Sys2Proof.Machine

/-- The instruction that a code selects: reserved codes behave as BYPASS (R495). -/
def tapSelect (code : BitVec 6) : BitVec 6 :=
  if code = 0 ∨ code = 1 ∨ code = 2 ∨ code = 3 ∨ code = 4 ∨ code = 0x10 then code else 0x3F

/-- An instruction is loaded (R495, R496): those that drive pins take effect only in Cold. -/
def tapLoad (code : BitVec 6) (s : State) : State :=
  let ir := tapSelect code
  if irDrives ir && decide (s.sys.st ≠ .cold) then mDbg (fun d => { d with ir := 0x3F, irref := true }) s
  else mDbg (fun d => { d with ir := ir }) s

/-- A TAP reset resets the Waypost port with its registers (R495). -/
def tapReset (s : State) : State :=
  placeFragments { s with dbg := DbgState.init, regs := s.regs.filter (fun x => x.1 / 0x10000 ≠ 28) }

/-- An access begins: its address, and BUSY until it ends (R497). -/
def wpBegin (a : Word) (s : State) : State := mDbg (fun d => { d with accAddr := a }) s

/-- An access ends with a status and no data read (R497; log 6). -/
def wpDone (status : Nat) (s : State) : State := tickFree (wpEnd status (wpNoData s) s)

/-- An access is refused (R503). -/
def wpRefuse (s : State) : State := wpDone 3 (dbgRefuse s)

/-- WP_ACC is selected (R495). -/
def wpSelected (s : State) : Bool := s.dbg.ir == 0x10

/-- An access by WP_ACC: one shifted in while another is BUSY is ignored and reported BUSY (R497). -/
def wpAccess (name : String) (a : Word) (f : State → State) (s : State) : Host.Outcome State Fault Refusal :=
  event (wpSelected s) name
    (fun s => if s.dbg.accTag.isSome then emit (.waypost 1 s.dbg.accAddr s.dbg.accData) s else f (wpBegin a s)) s

/-- The status of an answer (R497, R510, R511). -/
def wpStatus : AccRes → Nat
  | .ok => 0 | .refused => 3 | _ => 2

/-- READ32 of a register (R498, R514, R515). -/
def wpReadReg (a : Word) (s : State) : State :=
  let r := masterRead .waypost a.toNat s
  wpEnd (wpStatus r.2.2) r.1 r.2.1

/-- The debug requester of a bank, its last (R318). -/
def debugReq (b : Nat) : Nat := bankReqs b - 1

/-- The half of an 8-byte word that holds the 4 bytes at `a`. -/
def halfAt (a : Nat) (w : BitVec 64) : Word := w32 (w.toNat / 2 ^ (8 * (a % 8)))

/-- READ32 of a bank (R318, R320, R321, R498): an uncorrectable word is delivered as it stands. -/
def wpReadBank (b o : Nat) (fl : List Flip) (s : State) : State :=
  let s := bankGrant b (debugReq b) s
  let e := eccOf (wordsOf o 4) fl
  let v := w32 (bankWord s b o 4)
  if bankSize b < o + 4 then wpDone 2 (bankRefuse b s)
  else wpEnd 0 (match e with | .uncorrectable _ _ => v ^^^ halfAt o (flipAt fl 0).data | _ => v) (bankEcc b o e (fun s => s) s)

/-- 4 raw bytes of a channel at `ca`: data, check bytes, the pattern of a verify row, or what a spare row holds (R300, R301, R305, R316). -/
def rawAt (s : State) (ch ca : Nat) : Word :=
  let rows := chanData s / 32768
  if ca < chanData s then halfAt ca (dataWord s ch ca)
  else if caRow ca < rows + rows / 8 then w32 (leNat ((List.range 4).map (fun i => checkAt s ch (ca + i))))
  else if caRow ca + 1 = chanBytes s / 32768 then w32 (leAt (verifyRow ch) (ca % 2048) 4)
  else Config.rawWord s.free

/-- A diagnostic read during a freeze: raw bits as the memory answers them; an uncorrectable word is counted (R316, R317). -/
def wpReadRaw (ch ca : Nat) (fl : List Flip) (s : State) : State :=
  let v := rawAt s ch ca ^^^ halfAt ca (flipAt fl 0).data
  let bad := decide (ca < chanData s) && (match eccOf 1 fl with | .uncorrectable _ _ => true | _ => false)
  let s := doIf bad (fun s => mErr (fun x => { x with nest := satAdd 16 x.nest 1 }) (mMem (fun m => { m with cntUe2 := satAdd 32 m.cntUe2 1 }) s)) s
  tickFree (wpEnd 0 v s)

/-- A DRAM access of Waypost is possible: not in Cold, the channel not Offline, the address among the rows served (R498; log 56). -/
def wpDramBad (ch ca : Nat) (s : State) : Bool :=
  decide (s.sys.st = .cold) || decide (2 ≤ (chan s ch).cstate) || decide ((if s.mem.frozen then chanBytes s else chanData s) ≤ ca)

/-- A DRAM unit of the DEBUG requester (R323, R498): the access stays BUSY until it is served. -/
def wpUnit (ch ca : Nat) (wr : Option (List (Nat × Byte))) (s : State) : State :=
  let t := s.mem.nextTag
  mDbg (fun d => { d with accStatus := 1, accTag := some t }) (memEnq ⟨5, ch, ca, wr, false, 0, t⟩ (takeTag s))

/-- READ32 (R498, R509). -/
def wpRead (space : Nat) (a : Word) (e : List Flip) (s : State) : State :=
  if a.toNat % 4 ≠ 0 then wpDone 2 s
  else if space = 0 then wpReadReg a s
  else if space < 8 then (if s.sys.st = .cold then wpDone 2 s else wpReadBank (space - 1) a.toNat e s)
  else if wpDramBad (space - 8) a.toNat s then wpDone 2 s
  else if s.mem.frozen then wpReadRaw (space - 8) a.toNat e s
  else wpUnit (space - 8) a.toNat none s

/-- WRITE32 of a register (R498, R503, R511, R515). -/
def wpWriteReg (a v : Word) (s : State) : State :=
  let r := masterWrite .waypost a.toNat v s
  wpDone (wpStatus r.2) r.1

/-- WRITE32 of a bank (R318, R320, R321, R498). -/
def wpWriteBank (b o : Nat) (v : Word) (fl : List Flip) (s : State) : State :=
  let s := bankGrant b (debugReq b) s
  let e := eccOf (wordsOf o 4) fl
  if bankSize b < o + 4 then wpDone 2 (bankRefuse b s)
  else match e with
    | .uncorrectable _ _ => wpDone 2 (bankEcc b o e (fun s => s) s)
    | _ => wpDone 0 (bankEcc b o e (bankPut b o (wordLe v)) s)

/-- WRITE32 (R498, R503, R509). -/
def wpWrite (space : Nat) (a v : Word) (e : List Flip) (s : State) : State :=
  if a.toNat % 4 ≠ 0 then wpDone 2 s
  else if space = 0 then wpWriteReg a v s
  else if space = 3 ∧ inPrint s = true then wpRefuse (notice Err.nzlDirect [] s)
  else if inPrint s && !s.dbg.halted then wpRefuse s
  else if space < 8 then (if s.sys.st = .cold then wpDone 2 s else wpWriteBank (space - 1) a.toNat v e s)
  else if wpDramBad (space - 8) a.toNat s then wpDone 2 s
  else if s.mem.frozen then wpRefuse s
  else wpUnit (space - 8) a.toNat (some ((List.range 4).map (fun i => (a.toNat % 64 + i, (wordLe v).getD i 0)))) s

/-- HALT (R499). -/
def wpHalt (s : State) : State := wpDone 0 (opHalt ((regVal s (base 28 + 4)).setWidth 8) s)

/-- RESUME (R34, R501). -/
def wpResume (s : State) : State :=
  let s := creditWatch (placeFragments (opUnhalt s))
  wpDone 0 (if s.sys.st = .held then opResume s else s)

/-- STEP (R500): refused on a stage that is not halted, and for a count of 0 (log 57). -/
def wpStep (d : Word) (s : State) : State :=
  let k := bits d 2 0
  if !s.dbg.stages.getLsbD k || decide (bits d 15 8 = 0) then wpRefuse s
  else wpDone 0 (placeFragments (mDbg (fun g => { g with steps := vmod g.steps k (· + bits d 15 8) }) s))

/-- CAPTURE (R490, R497). -/
def wpCapture (mask : Word) (s : State) : State :=
  if capOk s then wpDone 0 (capStart (mask.setWidth 16) s) else wpRefuse (capRefuse s)

/-- TAP_RESET (R495). -/
def execTapReset (s : State) : Host.Outcome State Fault Refusal := always tapReset s

/-- TAP_INSTRUCTION (R495, R496). -/
def execTapInstruction (code : BitVec 6) (s : State) : Host.Outcome State Fault Refusal := always (tapLoad code) s

/-- WP_NOP (R497). -/
def execWpNop (s : State) : Host.Outcome State Fault Refusal := wpAccess "WP_NOP" 0 (wpDone 0) s

/-- WP_READ32 (R498). -/
def execWpRead32 (space : Fin 16) (addr : Word) (e : List Flip) (s : State) : Host.Outcome State Fault Refusal :=
  wpAccess "WP_READ32" addr (wpRead space addr e) s

/-- WP_WRITE32 (R498, R503). -/
def execWpWrite32 (space : Fin 16) (addr data : Word) (e : List Flip) (s : State) : Host.Outcome State Fault Refusal :=
  wpAccess "WP_WRITE32" addr (wpWrite space addr data e) s

/-- WP_HALT (R499). -/
def execWpHalt (s : State) : Host.Outcome State Fault Refusal := wpAccess "WP_HALT" 0 wpHalt s

/-- WP_RESUME (R501). -/
def execWpResume (s : State) : Host.Outcome State Fault Refusal := wpAccess "WP_RESUME" 0 wpResume s

/-- WP_STEP (R500). -/
def execWpStep (data : Word) (s : State) : Host.Outcome State Fault Refusal := wpAccess "WP_STEP" 0 (wpStep data) s

/-- WP_CAPTURE (R490, R497). -/
def execWpCapture (mask : Word) (s : State) : Host.Outcome State Fault Refusal := wpAccess "WP_CAPTURE" 0 (wpCapture mask) s

/-- WP_RESERVED_OP (R497): operations 7 to 15 are refused. -/
def execWpReservedOp (op : BitVec 4) (s : State) : Host.Outcome State Fault Refusal :=
  formed (decide (7 ≤ op.toNat)) "WP_RESERVED_OP" (wpAccess "WP_RESERVED_OP" 0 wpRefuse s)

end Sys2Proof.Machine
end

