-- ==== Sys2Proof/Machine/Dispatch.lean ====
section
/-! DEFINITION. The dispatch: one arm per command, each a direct call of its meaning. -/

namespace Sys2Proof.Machine

/-- The effect of a command on everything but the queue of commands. -/
def exec (i : Instr) (s : State) : Host.Outcome State Fault Refusal :=
  match i with
  | .registerWrite m addr v => Sys2Proof.Machine.execRegisterWrite m addr v s
  | .supplyLow r => Sys2Proof.Machine.execSupplyLow r s
  | .resetAssert => Sys2Proof.Machine.execResetAssert s
  | .resetRelease bootSel pairRole => Sys2Proof.Machine.execResetRelease bootSel pairRole s
  | .keepReset => Sys2Proof.Machine.execKeepReset s
  | .keepResetRelease => Sys2Proof.Machine.execKeepResetRelease s
  | .imageHeaderRead a b => Sys2Proof.Machine.execImageHeaderRead a b s
  | .imagePass1Done img => Sys2Proof.Machine.execImagePass1Done img s
  | .imageRecordApply rec => Sys2Proof.Machine.execImageRecordApply rec s
  | .imagePass2Done boot => Sys2Proof.Machine.execImagePass2Done boot s
  | .readyCriteriaMet => Sys2Proof.Machine.execReadyCriteriaMet s
  | .lanewaitExpire => Sys2Proof.Machine.execLanewaitExpire s
  | .bootTimeout => Sys2Proof.Machine.execBootTimeout s
  | .dramVerifyDone res => Sys2Proof.Machine.execDramVerifyDone res s
  | .fireLock => Sys2Proof.Machine.execFireLock s
  | .fireUnlock => Sys2Proof.Machine.execFireUnlock s
  | .otpUnlock m v => Sys2Proof.Machine.execOtpUnlock m v s
  | .otpProgram m slot => Sys2Proof.Machine.execOtpProgram m slot s
  | .otpRevoke m slot => Sys2Proof.Machine.execOtpRevoke m slot s
  | .otpPin m => Sys2Proof.Machine.execOtpPin m s
  | .otpDone => Sys2Proof.Machine.execOtpDone s
  | .paceMeasure measured => Sys2Proof.Machine.execPaceMeasure measured s
  | .paceClr m v => Sys2Proof.Machine.execPaceClr m v s
  | .knotImmediate m => Sys2Proof.Machine.execKnotImmediate m s
  | .knotMilestone m ms => Sys2Proof.Machine.execKnotMilestone m ms s
  | .knotRoadCount m => Sys2Proof.Machine.execKnotRoadCount m s
  | .knotCancel m => Sys2Proof.Machine.execKnotCancel m s
  | .knotTake => Sys2Proof.Machine.execKnotTake s
  | .strandMigrate n => Sys2Proof.Machine.execStrandMigrate n s
  | .geoCheck m v => Sys2Proof.Machine.execGeoCheck m v s
  | .geoCheckDone => Sys2Proof.Machine.execGeoCheckDone s
  | .resDataAccess m acc => Sys2Proof.Machine.execResDataAccess m acc s
  | .encoderEdge ch a b fast more => Sys2Proof.Machine.execEncoderEdge ch a b fast more s
  | .wireDisagree ch pair => Sys2Proof.Machine.execWireDisagree ch pair s
  | .wireAgree ch pair => Sys2Proof.Machine.execWireAgree ch pair s
  | .encLost cause => Sys2Proof.Machine.execEncLost cause s
  | .index ch more => Sys2Proof.Machine.execIndex ch more s
  | .indexArm m ch v => Sys2Proof.Machine.execIndexArm m ch v s
  | .ssiFrameStart ch dataHigh => Sys2Proof.Machine.execSsiFrameStart ch dataHigh s
  | .ssiWord ch w parity => Sys2Proof.Machine.execSsiWord ch w parity s
  | .ssiReleaseTimeout ch => Sys2Proof.Machine.execSsiReleaseTimeout ch s
  | .observerUpdate ch => Sys2Proof.Machine.execObserverUpdate ch s
  | .ptSynthStep ch => Sys2Proof.Machine.execPtSynthStep ch s
  | .posChannelConfig m ch v => Sys2Proof.Machine.execPosChannelConfig m ch v s
  | .posSnapshot m ch => Sys2Proof.Machine.execPosSnapshot m ch s
  | .milestoneArm m ms v => Sys2Proof.Machine.execMilestoneArm m ms v s
  | .milestoneDisarm m ms v => Sys2Proof.Machine.execMilestoneDisarm m ms v s
  | .milestoneCmpCommit m ms v => Sys2Proof.Machine.execMilestoneCmpCommit m ms v s
  | .milestoneCmpRead m ms => Sys2Proof.Machine.execMilestoneCmpRead m ms s
  | .milestoneHitRead m ms => Sys2Proof.Machine.execMilestoneHitRead m ms s
  | .milestoneFire ms => Sys2Proof.Machine.execMilestoneFire ms s
  | .msOutPulseEnd out => Sys2Proof.Machine.execMsOutPulseEnd out s
  | .extSyncCapture n rising => Sys2Proof.Machine.execExtSyncCapture n rising s
  | .syncCaptureRead m n => Sys2Proof.Machine.execSyncCaptureRead m n s
  | .positionSample t => Sys2Proof.Machine.execPositionSample t s
  | .strike p cmpPs => Sys2Proof.Machine.execStrike p cmpPs s
  | .spoolDecodeLine spool => Sys2Proof.Machine.execSpoolDecodeLine spool s
  | .strandFetchIssue n => Sys2Proof.Machine.execStrandFetchIssue n s
  | .strandFetchDone n => Sys2Proof.Machine.execStrandFetchDone n s
  | .spdAdvFrame => Sys2Proof.Machine.execSpdAdvFrame s
  | .nozzleMapLine => Sys2Proof.Machine.execNozzleMapLine s
  | .detourLaneFree src tgt => Sys2Proof.Machine.execDetourLaneFree src tgt s
  | .staggerLine n => Sys2Proof.Machine.execStaggerLine n s
  | .frameBuild p => Sys2Proof.Machine.execFrameBuild p s
  | .lineFrameSend p late => Sys2Proof.Machine.execLineFrameSend p late s
  | .towDrop rx ss d => Sys2Proof.Machine.execTowDrop rx ss d s
  | .towlineReservedType rx ss d => Sys2Proof.Machine.execTowlineReservedType rx ss d s
  | .layerAnnounce rx ss d => Sys2Proof.Machine.execLayerAnnounce rx ss d s
  | .blockData rx ss d => Sys2Proof.Machine.execBlockData rx ss d s
  | .layerClose rx ss d => Sys2Proof.Machine.execLayerClose rx ss d s
  | .layerRestart rx ss d => Sys2Proof.Machine.execLayerRestart rx ss d s
  | .layerRelease rx ss d => Sys2Proof.Machine.execLayerRelease rx ss d s
  | .statusReq rx ss d => Sys2Proof.Machine.execStatusReq rx ss d s
  | .ackTimer layer => Sys2Proof.Machine.execAckTimer layer s
  | .fragmentWritten => Sys2Proof.Machine.execFragmentWritten s
  | .compressorStart => Sys2Proof.Machine.execCompressorStart s
  | .chainDrain c => Sys2Proof.Machine.execChainDrain c s
  | .compressAbandon c => Sys2Proof.Machine.execCompressAbandon c s
  | .compressionComplete c => Sys2Proof.Machine.execCompressionComplete c s
  | .nozzleRequest m v => Sys2Proof.Machine.execNozzleRequest m v s
  | .nozzleSwap => Sys2Proof.Machine.execNozzleSwap s
  | .journalReadLo m => Sys2Proof.Machine.execJournalReadLo m s
  | .journalReadHi m => Sys2Proof.Machine.execJournalReadHi m s
  | .gateStart m g => Sys2Proof.Machine.execGateStart m g s
  | .gateAbortCmd m g => Sys2Proof.Machine.execGateAbortCmd m g s
  | .gateSweepBegin g => Sys2Proof.Machine.execGateSweepBegin g s
  | .gateTestStrike g => Sys2Proof.Machine.execGateTestStrike g s
  | .gateEdge g t => Sys2Proof.Machine.execGateEdge g t s
  | .gateSlotResult g noise => Sys2Proof.Machine.execGateSlotResult g noise s
  | .linkAttempt lane => Sys2Proof.Machine.execLinkAttempt lane s
  | .linkSignalDetect lane => Sys2Proof.Machine.execLinkSignalDetect lane s
  | .linkPollDone lane seen => Sys2Proof.Machine.execLinkPollDone lane seen s
  | .linkLockDone lane seen => Sys2Proof.Machine.execLinkLockDone lane seen s
  | .linkTimeout lane => Sys2Proof.Machine.execLinkTimeout lane s
  | .linkIdleDetect lane => Sys2Proof.Machine.execLinkIdleDetect lane s
  | .gulistAck p f => Sys2Proof.Machine.execGulistAck p f s
  | .gulistStatusRx p f => Sys2Proof.Machine.execGulistStatusRx p f s
  | .statusTimeout p => Sys2Proof.Machine.execStatusTimeout p s
  | .gulistSense p f => Sys2Proof.Machine.execGulistSense p f s
  | .gulistFrameDiscard p flaws f => Sys2Proof.Machine.execGulistFrameDiscard p flaws f s
  | .cfgTimeout p => Sys2Proof.Machine.execCfgTimeout p s
  | .statusSend => Sys2Proof.Machine.execStatusSend s
  | .alignSend lane => Sys2Proof.Machine.execAlignSend lane s
  | .alignMissing p => Sys2Proof.Machine.execAlignMissing p s
  | .adaptFreeze lane => Sys2Proof.Machine.execAdaptFreeze lane s
  | .gulRetrain m p v => Sys2Proof.Machine.execGulRetrain m p v s
  | .gulPortClr m p v => Sys2Proof.Machine.execGulPortClr m p v s
  | .hostCfgAccess m v => Sys2Proof.Machine.execHostCfgAccess m v s
  | .eyeScanStart m v => Sys2Proof.Machine.execEyeScanStart m v s
  | .eyeScanDone mismatches => Sys2Proof.Machine.execEyeScanDone mismatches s
  | .camFrameStart c csifn => Sys2Proof.Machine.execCamFrameStart c csifn s
  | .camFrameEnd c => Sys2Proof.Machine.execCamFrameEnd c s
  | .camLineRx c pkt crc => Sys2Proof.Machine.execCamLineRx c pkt crc s
  | .camPacketIgnored port why => Sys2Proof.Machine.execCamPacketIgnored port why s
  | .stripeProcess => Sys2Proof.Machine.execStripeProcess s
  | .recordWrite c => Sys2Proof.Machine.execRecordWrite c s
  | .streakDetect c => Sys2Proof.Machine.execStreakDetect c s
  | .recordRelease m c v => Sys2Proof.Machine.execRecordRelease m c v s
  | .dramIssue ch cmdBad => Sys2Proof.Machine.execDramIssue ch cmdBad s
  | .dramReadReturn ch e => Sys2Proof.Machine.execDramReadReturn ch e s
  | .refreshDue ch => Sys2Proof.Machine.execRefreshDue ch s
  | .memVerifyCmd m v => Sys2Proof.Machine.execMemVerifyCmd m v s
  | .verifySlice ch got0 got1 => Sys2Proof.Machine.execVerifySlice ch got0 got1 s
  | .bankRead b r off len e => Sys2Proof.Machine.execBankRead b r off len e s
  | .bankWrite b r off data e => Sys2Proof.Machine.execBankWrite b r off data e s
  | .bankAdd b r off v e => Sys2Proof.Machine.execBankAdd b r off v e s
  | .bankAddSat b r off v e => Sys2Proof.Machine.execBankAddSat b r off v e s
  | .bankSwap b r off v e => Sys2Proof.Machine.execBankSwap b r off v e s
  | .arbRound inst reqs => Sys2Proof.Machine.execArbRound inst reqs s
  | .axisProfileUpdate a => Sys2Proof.Machine.execAxisProfileUpdate a s
  | .microstep a => Sys2Proof.Machine.execMicrostep a s
  | .chopperPhase a phB dur sense mid => Sys2Proof.Machine.execChopperPhase a phB dur sense mid s
  | .overcurrent a => Sys2Proof.Machine.execOvercurrent a s
  | .hardLimit a hi => Sys2Proof.Machine.execHardLimit a hi s
  | .axisHoldCurrent a => Sys2Proof.Machine.execAxisHoldCurrent a s
  | .axisStandstill a => Sys2Proof.Machine.execAxisStandstill a s
  | .axisTargetWrite m a v => Sys2Proof.Machine.execAxisTargetWrite m a v s
  | .axisVtargetWrite m a v => Sys2Proof.Machine.execAxisVtargetWrite m a v s
  | .axisModeWrite m a v => Sys2Proof.Machine.execAxisModeWrite m a v s
  | .axisSetpos m a v => Sys2Proof.Machine.execAxisSetpos m a v s
  | .axisGearSchedule m a v => Sys2Proof.Machine.execAxisGearSchedule m a v s
  | .axisTableAccess m acc => Sys2Proof.Machine.execAxisTableAccess m acc s
  | .scanFrameStart => Sys2Proof.Machine.execScanFrameStart s
  | .lampSwapRequest m v => Sys2Proof.Machine.execLampSwapRequest m v s
  | .lbusFrameEcho chain ret => Sys2Proof.Machine.execLbusFrameEcho chain ret s
  | .lbusCfgWrite m chain v => Sys2Proof.Machine.execLbusCfgWrite m chain v s
  | .lampZoneAccess m acc => Sys2Proof.Machine.execLampZoneAccess m acc s
  | .lampUtblAccess m acc => Sys2Proof.Machine.execLampUtblAccess m acc s
  | .netLinkUp np => Sys2Proof.Machine.execNetLinkUp np s
  | .netLinkDown np => Sys2Proof.Machine.execNetLinkDown np s
  | .netFrameDiscard np fr => Sys2Proof.Machine.execNetFrameDiscard np fr s
  | .arpRequest rx q => Sys2Proof.Machine.execArpRequest rx q s
  | .arpRetry np => Sys2Proof.Machine.execArpRetry np s
  | .arpExpire np ip => Sys2Proof.Machine.execArpExpire np ip s
  | .icmpEcho rx v6 srcIp srcMac body => Sys2Proof.Machine.execIcmpEcho rx v6 srcIp srcMac body s
  | .ptpAnnounce rx tr d => Sys2Proof.Machine.execPtpAnnounce rx tr d s
  | .ptpSync rx tr d => Sys2Proof.Machine.execPtpSync rx tr d s
  | .ptpFollowUp rx tr d => Sys2Proof.Machine.execPtpFollowUp rx tr d s
  | .ptpDelayResp rx tr d => Sys2Proof.Machine.execPtpDelayResp rx tr d s
  | .ptpPdelayReq rx tr d => Sys2Proof.Machine.execPtpPdelayReq rx tr d s
  | .ptpPdelayResp rx tr d => Sys2Proof.Machine.execPtpPdelayResp rx tr d s
  | .ptpPdelayRespFollowUp rx tr d => Sys2Proof.Machine.execPtpPdelayRespFollowUp rx tr d s
  | .ptpIgnored rx tr d => Sys2Proof.Machine.execPtpIgnored rx tr d s
  | .ptpDelayReqSend dm => Sys2Proof.Machine.execPtpDelayReqSend dm s
  | .ptpPdelayReqSend dm => Sys2Proof.Machine.execPtpPdelayReqSend dm s
  | .ptpMasterTimeout dm n => Sys2Proof.Machine.execPtpMasterTimeout dm n s
  | .ptpFollowupTimeout dm => Sys2Proof.Machine.execPtpFollowupTimeout dm s
  | .ptpSyncTimeout dm => Sys2Proof.Machine.execPtpSyncTimeout dm s
  | .ptpHoldmax dm => Sys2Proof.Machine.execPtpHoldmax dm s
  | .domainSelect m v => Sys2Proof.Machine.execDomainSelect m v s
  | .fireDiscipline cycles => Sys2Proof.Machine.execFireDiscipline cycles s
  | .ptpSnapshot m sel => Sys2Proof.Machine.execPtpSnapshot m sel s
  | .mgmtTick temps refCodes => Sys2Proof.Machine.execMgmtTick temps refCodes s
  | .rmpDiscard rx ss d => Sys2Proof.Machine.execRmpDiscard rx ss d s
  | .rmpUnknownType rx ss d => Sys2Proof.Machine.execRmpUnknownType rx ss d s
  | .rmpHello rx ss d => Sys2Proof.Machine.execRmpHello rx ss d s
  | .rmpRead rx ss d => Sys2Proof.Machine.execRmpRead rx ss d s
  | .rmpWrite rx ss d => Sys2Proof.Machine.execRmpWrite rx ss d s
  | .rmpSwap rx ss d => Sys2Proof.Machine.execRmpSwap rx ss d s
  | .rmpStatus rx ss d => Sys2Proof.Machine.execRmpStatus rx ss d s
  | .rmpSubscribe rx ss d => Sys2Proof.Machine.execRmpSubscribe rx ss d s
  | .subscriptionExpire slot => Sys2Proof.Machine.execSubscriptionExpire slot s
  | .rmpHold rx ss d => Sys2Proof.Machine.execRmpHold rx ss d s
  | .rmpResume rx ss d => Sys2Proof.Machine.execRmpResume rx ss d s
  | .rmpStop rx ss d => Sys2Proof.Machine.execRmpStop rx ss d s
  | .rmpAcknowledge rx ss d => Sys2Proof.Machine.execRmpAcknowledge rx ss d s
  | .rmpReset rx ss d => Sys2Proof.Machine.execRmpReset rx ss d s
  | .resetExecute => Sys2Proof.Machine.execResetExecute s
  | .rmpYield rx ss d => Sys2Proof.Machine.execRmpYield rx ss d s
  | .rmpCommandInvalid rx ss d => Sys2Proof.Machine.execRmpCommandInvalid rx ss d s
  | .tetherHeartbeatSend => Sys2Proof.Machine.execTetherHeartbeatSend s
  | .tetherHeartbeatRx f => Sys2Proof.Machine.execTetherHeartbeatRx f s
  | .netHeartbeatRx rx d => Sys2Proof.Machine.execNetHeartbeatRx rx d s
  | .tetherPathMiss => Sys2Proof.Machine.execTetherPathMiss s
  | .netPathMiss => Sys2Proof.Machine.execNetPathMiss s
  | .tetherNzlChange f => Sys2Proof.Machine.execTetherNzlChange f s
  | .tetherKnotReq f => Sys2Proof.Machine.execTetherKnotReq f s
  | .tetherKnotDone f => Sys2Proof.Machine.execTetherKnotDone f s
  | .tetherState f => Sys2Proof.Machine.execTetherState f s
  | .tetherYield f => Sys2Proof.Machine.execTetherYield f s
  | .tetherBulk f => Sys2Proof.Machine.execTetherBulk f s
  | .tetherResend => Sys2Proof.Machine.execTetherResend s
  | .tetherResync => Sys2Proof.Machine.execTetherResync s
  | .hitchInAssert => Sys2Proof.Machine.execHitchInAssert s
  | .hitchInRelease => Sys2Proof.Machine.execHitchInRelease s
  | .splice => Sys2Proof.Machine.execSplice s
  | .rejoinCopyStart => Sys2Proof.Machine.execRejoinCopyStart s
  | .coreWatchExpire => Sys2Proof.Machine.execCoreWatchExpire s
  | .keepFeedLoss feedB => Sys2Proof.Machine.execKeepFeedLoss feedB s
  | .keepBrownout => Sys2Proof.Machine.execKeepBrownout s
  | .fegRotationStart g => Sys2Proof.Machine.execFegRotationStart g s
  | .fegMeasureDone gen times => Sys2Proof.Machine.execFegMeasureDone gen times s
  | .calForce m v => Sys2Proof.Machine.execCalForce m v s
  | .cmpMeasure c => Sys2Proof.Machine.execCmpMeasure c s
  | .cmpMeasureDone c offs => Sys2Proof.Machine.execCmpMeasureDone c offs s
  | .calSlewStep t => Sys2Proof.Machine.execCalSlewStep t s
  | .faultAck m v => Sys2Proof.Machine.execFaultAck m v s
  | .faultAckAll m v => Sys2Proof.Machine.execFaultAckAll m v s
  | .latchClear m v => Sys2Proof.Machine.execLatchClear m v s
  | .errClr m v => Sys2Proof.Machine.execErrClr m v s
  | .logEntryRead m sel => Sys2Proof.Machine.execLogEntryRead m sel s
  | .knotEpochRead m => Sys2Proof.Machine.execKnotEpochRead m s
  | .fireLcSnapshot m p => Sys2Proof.Machine.execFireLcSnapshot m p s
  | .captureStart m mask => Sys2Proof.Machine.execCaptureStart m mask s
  | .captureClear m => Sys2Proof.Machine.execCaptureClear m s
  | .captureDone => Sys2Proof.Machine.execCaptureDone s
  | .tapReset => Sys2Proof.Machine.execTapReset s
  | .tapInstruction code => Sys2Proof.Machine.execTapInstruction code s
  | .wpNop => Sys2Proof.Machine.execWpNop s
  | .wpRead32 space addr e => Sys2Proof.Machine.execWpRead32 space addr e s
  | .wpWrite32 space addr data e => Sys2Proof.Machine.execWpWrite32 space addr data e s
  | .wpHalt => Sys2Proof.Machine.execWpHalt s
  | .wpResume => Sys2Proof.Machine.execWpResume s
  | .wpStep data => Sys2Proof.Machine.execWpStep data s
  | .wpCapture mask => Sys2Proof.Machine.execWpCapture mask s
  | .wpReservedOp op => Sys2Proof.Machine.execWpReservedOp op s
  | .towCntClr m v => Sys2Proof.Machine.execTowCntClr m v s
  | .cmpCntClr m v => Sys2Proof.Machine.execCmpCntClr m v s
  | .strCntClr m v => Sys2Proof.Machine.execStrCntClr m v s
  | .firCntClr m v => Sys2Proof.Machine.execFirCntClr m v s
  | .nzlCntClr m v => Sys2Proof.Machine.execNzlCntClr m v s
  | .camPortClr m port v => Sys2Proof.Machine.execCamPortClr m port v s
  | .insCtxClr m c v => Sys2Proof.Machine.execInsCtxClr m c v s
  | .memCntClr m v => Sys2Proof.Machine.execMemCntClr m v s
  | .bnkClr m b v => Sys2Proof.Machine.execBnkClr m b v s
  | .arbClr m v => Sys2Proof.Machine.execArbClr m v s
  | .netPortClr m np v => Sys2Proof.Machine.execNetPortClr m np v s
  | .ptpDomClr m dm v => Sys2Proof.Machine.execPtpDomClr m dm v s
  | .mgtCntClr m v => Sys2Proof.Machine.execMgtCntClr m v s
  | .parCntClr m v => Sys2Proof.Machine.execParCntClr m v s
  | .keepFeedReturn feedB => Sys2Proof.Machine.execKeepFeedReturn feedB s
  | .symbolRealign at_ => Sys2Proof.Machine.execSymbolRealign at_ s
  | .trainingSetInActive p => Sys2Proof.Machine.execTrainingSetInActive p s
  | .codeErrorBurst errs => Sys2Proof.Machine.execCodeErrorBurst errs s
  | .adaptationResume lane sym => Sys2Proof.Machine.execAdaptationResume lane sym s
  | .limitInputInactive a hi => Sys2Proof.Machine.execLimitInputInactive a hi s
  | .fegTestEdge g cmpPs => Sys2Proof.Machine.execFegTestEdge g cmpPs s

end Sys2Proof.Machine
end

