-- ==== Sys2Proof/Machine/Idle.lean ====
section
/-! DEFINITION. What a step does when no command waits: one cycle of the NET clock passes (log 5). -/

namespace Sys2Proof.Machine

/-- A NET cycle of 6.4 ns passes: `now`, and outside Cold each PTP counter by its increment (R381; log 5). -/
def idleTick (s : State) : State :=
  { s with
    now := s.now + 64
    ptp := { s.ptp with doms := s.ptp.doms.map (fun d => if s.sys.st = .cold then d else { d with t := (d.t + d.inc) % timeMod }) } }

end Sys2Proof.Machine
end

