-- ==== Sys2Proof/WellFormed.lean ====
section
/-! DEFINITION. Which commands are well formed: those whose operands spell their own row (log 1). Every other command of the type is
refused by its meaning as ill-formed. -/

namespace Sys2Proof

open Sys2Proof.Machine

/-- The operands spell the command's row (log 1). -/
def Instr.wf : Instr → Bool
  | .imageHeaderRead a b => decide (a.length = 64) && decide (b.length = 64)
  | .imagePass2Done boot => decide (boot ≠ 0)
  | .dramVerifyDone res => verifySpelled res
  | .paceMeasure measured => decide (measured.length = 32) && measured.all (fun m => decide (0 < m))
  | .indexArm _ _ v => bit v 29
  | .milestoneArm _ _ v => bit v 31
  | .milestoneDisarm _ _ v => !bit v 31
  | .towDrop rx ss d => rxUdp rx ss.v6 && decide (towDropCase d ≠ 0)
  | .towlineReservedType rx ss d => rxUdp rx ss.v6 && towReserved d
  | .layerAnnounce rx ss d => rxUdp rx ss.v6 && towIs 1 d
  | .blockData rx ss d => rxUdp rx ss.v6 && towIs 2 d
  | .layerClose rx ss d => rxUdp rx ss.v6 && towIs 3 d
  | .layerRestart rx ss d => rxUdp rx ss.v6 && towIs 4 d
  | .layerRelease rx ss d => rxUdp rx ss.v6 && towIs 5 d
  | .statusReq rx ss d => rxUdp rx ss.v6 && towIs 6 d
  | .camLineRx _ k _ => lineType k.1.toNat
  | .camPacketIgnored _ w => camIgnorable w
  | .gulistAck _ f => gulIs 6 f
  | .gulistStatusRx _ f => gulIs 4 f
  | .gulistSense _ f => gulIs 5 f
  | .gulistFrameDiscard _ w f => decide (discStatic w f ≠ 0) || byteAt f 0 == 6
  | .gulRetrain _ _ v => bit v 1
  | .gulPortClr _ _ v => !bit v 1
  | .bankRead b r _ len _ => decide (r.val < bankReqs b) && decide (1 ≤ len) && decide (len ≤ 32)
  | .bankWrite b r _ data _ => decide (r.val < bankReqs b) && decide (1 ≤ data.length) && decide (data.length ≤ 32)
  | .bankAdd b r _ _ _ => decide (r.val < bankReqs b)
  | .bankAddSat b r _ _ _ => decide (r.val < bankReqs b)
  | .bankSwap b r _ _ _ => decide (r.val < bankReqs b)
  | .ptpAnnounce rx tr d => ptpArrival rx tr 11 d
  | .ptpSync rx tr d => ptpArrival rx tr 0 d
  | .ptpFollowUp rx tr d => ptpArrival rx tr 8 d
  | .ptpDelayResp rx tr d => ptpArrival rx tr 9 d
  | .ptpPdelayReq rx tr d => ptpArrival rx tr 2 d
  | .ptpPdelayResp rx tr d => ptpArrival rx tr 3 d
  | .ptpPdelayRespFollowUp rx tr d => ptpArrival rx tr 10 d
  | .ptpIgnored rx tr d => rxPtp rx tr && ptpPortOk rx tr d
  | .arpRequest rx q => rxNeigh rx q.v6
  | .icmpEcho rx v6 _ mac _ => rxIcmp rx v6 mac
  | .netHeartbeatRx rx _ => rxUdp rx (decide (rx.frame.ether = .ipv6))
  | .rmpDiscard rx ss _ => rxUdp rx ss.v6
  | .mgmtTick temps refCodes => decide (temps.length = 8) && decide (refCodes.length = 8)
  | .rmpUnknownType rx ss d => rxUdp rx ss.v6 && decide (48 ≤ d.length) && (decide (byteAt d 3 = 0) || decide (8 ≤ byteAt d 3))
  | .rmpHello rx ss d => rxUdp rx ss.v6 && rmpIs 1 d
  | .rmpRead rx ss d => rxUdp rx ss.v6 && rmpIs 2 d
  | .rmpWrite rx ss d => rxUdp rx ss.v6 && rmpIs 3 d
  | .rmpSwap rx ss d => rxUdp rx ss.v6 && rmpIs 4 d
  | .rmpStatus rx ss d => rxUdp rx ss.v6 && rmpIs 6 d
  | .rmpSubscribe rx ss d => rxUdp rx ss.v6 && rmpIs 7 d
  | .rmpHold rx ss d => rxUdp rx ss.v6 && rmpIsCmd 1 d
  | .rmpResume rx ss d => rxUdp rx ss.v6 && rmpIsCmd 2 d
  | .rmpStop rx ss d => rxUdp rx ss.v6 && rmpIsCmd 3 d
  | .rmpAcknowledge rx ss d => rxUdp rx ss.v6 && rmpIsCmd 4 d
  | .rmpReset rx ss d => rxUdp rx ss.v6 && rmpIsCmd 5 d
  | .rmpYield rx ss d => rxUdp rx ss.v6 && rmpIsCmd 6 d
  | .rmpCommandInvalid rx ss d => rxUdp rx ss.v6 && rmpIs 5 d && (decide (d.length = 48) || decide (byteAt d 48 = 0) || decide (7 ≤ byteAt d 48))
  | .tetherHeartbeatRx f => tethIs 1 f
  | .tetherNzlChange f => tethIs 2 f
  | .tetherKnotReq f => tethIs 3 f
  | .tetherKnotDone f => tethIs 4 f
  | .tetherState f => tethIs 5 f
  | .tetherYield f => tethIs 6 f
  | .tetherBulk f => tethIs 7 f
  | .fegMeasureDone _ t => decide (t.elems.length = 20)
  | .cmpMeasureDone _ offs => decide (offs.length = 4)
  | .wpReservedOp op => decide (7 ≤ op.toNat)
  | .registerWrite .. | .supplyLow .. | .resetAssert | .resetRelease .. | .keepReset | .keepResetRelease | .imagePass1Done ..
  | .imageRecordApply .. | .readyCriteriaMet | .lanewaitExpire | .bootTimeout | .fireLock | .fireUnlock | .otpUnlock ..
  | .otpProgram .. | .otpRevoke .. | .otpPin .. | .otpDone | .paceClr .. | .knotImmediate .. | .knotMilestone ..
  | .knotRoadCount .. | .knotCancel .. | .knotTake | .strandMigrate .. | .geoCheck .. | .geoCheckDone | .resDataAccess ..
  | .encoderEdge .. | .wireDisagree .. | .wireAgree .. | .encLost .. | .index .. | .ssiFrameStart .. | .ssiWord ..
  | .ssiReleaseTimeout .. | .observerUpdate .. | .ptSynthStep .. | .posChannelConfig .. | .posSnapshot ..
  | .milestoneCmpCommit .. | .milestoneCmpRead .. | .milestoneHitRead .. | .milestoneFire .. | .msOutPulseEnd ..
  | .extSyncCapture .. | .syncCaptureRead .. | .positionSample .. | .strike .. | .spoolDecodeLine .. | .strandFetchIssue ..
  | .strandFetchDone .. | .spdAdvFrame | .nozzleMapLine | .detourLaneFree .. | .staggerLine .. | .frameBuild ..
  | .lineFrameSend .. | .ackTimer .. | .fragmentWritten | .compressorStart | .chainDrain .. | .compressAbandon ..
  | .compressionComplete .. | .nozzleRequest .. | .nozzleSwap | .journalReadLo .. | .journalReadHi .. | .gateStart ..
  | .gateAbortCmd .. | .gateSweepBegin .. | .gateTestStrike .. | .gateEdge .. | .gateSlotResult .. | .linkAttempt ..
  | .linkSignalDetect .. | .linkPollDone .. | .linkLockDone .. | .linkTimeout .. | .linkIdleDetect .. | .statusTimeout ..
  | .cfgTimeout .. | .statusSend | .alignSend .. | .alignMissing .. | .adaptFreeze .. | .hostCfgAccess .. | .eyeScanStart ..
  | .eyeScanDone .. | .camFrameStart .. | .camFrameEnd .. | .stripeProcess
  | .recordWrite .. | .streakDetect .. | .recordRelease .. | .dramIssue .. | .dramReadReturn .. | .refreshDue ..
  | .memVerifyCmd .. | .verifySlice .. | .arbRound .. | .axisProfileUpdate .. | .microstep .. | .chopperPhase ..
  | .overcurrent .. | .hardLimit .. | .axisHoldCurrent .. | .axisStandstill .. | .axisTargetWrite .. | .axisVtargetWrite ..
  | .axisModeWrite .. | .axisSetpos .. | .axisGearSchedule .. | .axisTableAccess .. | .scanFrameStart | .lampSwapRequest ..
  | .lbusFrameEcho .. | .lbusCfgWrite .. | .lampZoneAccess .. | .lampUtblAccess .. | .netLinkUp .. | .netLinkDown ..
  | .netFrameDiscard .. | .arpRetry .. | .arpExpire ..  | .ptpDelayReqSend ..
  | .ptpPdelayReqSend .. | .ptpMasterTimeout .. | .ptpFollowupTimeout .. | .ptpSyncTimeout .. | .ptpHoldmax .. | .domainSelect ..
  | .fireDiscipline .. | .ptpSnapshot .. | .subscriptionExpire .. | .resetExecute | .tetherHeartbeatSend
  | .tetherPathMiss | .netPathMiss | .tetherResend | .tetherResync | .hitchInAssert | .hitchInRelease
  | .splice | .rejoinCopyStart | .coreWatchExpire | .keepFeedLoss .. | .keepBrownout | .fegRotationStart .. | .calForce ..
  | .cmpMeasure .. | .calSlewStep .. | .faultAck .. | .faultAckAll .. | .latchClear .. | .errClr .. | .logEntryRead ..
  | .knotEpochRead .. | .fireLcSnapshot .. | .captureStart .. | .captureClear .. | .captureDone | .tapReset | .tapInstruction ..
  | .wpNop | .wpRead32 .. | .wpWrite32 .. | .wpHalt | .wpResume | .wpStep .. | .wpCapture .. | .towCntClr .. | .cmpCntClr ..
  | .strCntClr .. | .firCntClr .. | .nzlCntClr .. | .camPortClr .. | .insCtxClr .. | .memCntClr .. | .bnkClr .. | .arbClr ..
  | .netPortClr .. | .ptpDomClr .. | .mgtCntClr .. | .parCntClr .. | .keepFeedReturn .. | .symbolRealign ..
  | .trainingSetInActive .. | .codeErrorBurst .. | .adaptationResume .. | .limitInputInactive .. | .fegTestEdge .. => true

end Sys2Proof
end

