-- ==== Sys2Proof/Safety.lean ====
section
/-! DEFINITION. What counts as a safe run, in the terms the statements use: settled states, kept fuses, canonical maps and memories. -/

namespace Sys2Proof.Machine

/-- Keys strictly rising and no entry equal to what an unlisted key reads as: the canonical form of a sparse map (log 4). -/
def sparseOk {α : Type} [DecidableEq α] (d : Nat → α) : List (Nat × α) → Bool
  | [] => true
  | [(k, v)] => decide (v ≠ d k)
  | (k, v) :: (k', v') :: r => decide (v ≠ d k) && decide (k < k') && sparseOk d ((k', v') :: r)

/-- The canonical form of a byte memory: an unlisted byte of a bank or of DRAM reads 0 (log 4). -/
def Memory.wf (m : Memory) : Bool := sparseOk (fun _ => (0 : Byte)) m

/-- Every bank's bytes and every DRAM channel's data are canonical, and so are the register maps. -/
def State.canon (s : State) : Bool :=
  sparseOk regReset s.regs && sparseOk regReset s.act
    && s.mem.banks.toList.all (fun b => Memory.wf b.data) && s.mem.chans.toList.all (fun c => Memory.wf c.data)

/-- No detected error waits to be logged: the state between two CFG cycles (R483). -/
def State.settled (s : State) : Bool := s.err.found.isEmpty

/-- Every fuse blown in `s` is blown in `t` (R478). -/
def fusesKept (s t : State) : Prop :=
  s.cfg.otpProg &&& t.cfg.otpProg = s.cfg.otpProg ∧ s.cfg.otpRev &&& t.cfg.otpRev = s.cfg.otpRev ∧
    (s.cfg.otpPin = true → t.cfg.otpPin = true)

/-- The parts of the state, but for the queue of commands and the outbox, which every command treats alike. -/
inductive Part where
  /-- The time (log 5). -/
  | now
  /-- The counter of the free values (log 6). -/
  | free
  /-- The registers as last written. -/
  | regs
  /-- The active copies of the knotted registers (R26). -/
  | act
  /-- The SYS block. -/
  | sys
  /-- The error logger. -/
  | err
  /-- The capture engine. -/
  | cap
  /-- The Waypost port. -/
  | dbg
  /-- The CFG block. -/
  | cfg
  /-- The KEEP island. -/
  | keep
  /-- The network ports. -/
  | net
  /-- The addresses of NETID (R464). -/
  | netId
  /-- The PTP block. -/
  | ptp
  /-- The MGT block. -/
  | mgt
  /-- Ingress. -/
  | tow
  /-- Placement. -/
  | plc
  /-- The compressors. -/
  | cmp
  /-- Strands and spools. -/
  | str
  /-- The encoder channels. -/
  | pos
  /-- The milestones. -/
  | mil
  /-- Line timing and firing. -/
  | fir
  /-- The stagger stage. -/
  | stg
  /-- The nozzle table. -/
  | nzl
  /-- The drop gates. -/
  | gat
  /-- The head links. -/
  | gul
  /-- Inspection. -/
  | insp
  /-- DRAM, banks and arbiters. -/
  | mem
  /-- The stepper axes. -/
  | axs
  /-- The lamps. -/
  | lmp
  /-- The pair. -/
  | par
  /-- Calibration. -/
  | cal
deriving DecidableEq, Repr

/-- A part is the same in two states. -/
def Part.same (s t : State) : Part → Prop
  | .now => t.now = s.now
  | .free => t.free = s.free
  | .regs => t.regs = s.regs
  | .act => t.act = s.act
  | .sys => t.sys = s.sys
  | .err => t.err = s.err
  | .cap => t.cap = s.cap
  | .dbg => t.dbg = s.dbg
  | .cfg => t.cfg = s.cfg
  | .keep => t.keep = s.keep
  | .net => t.net = s.net
  | .netId => t.netId = s.netId
  | .ptp => t.ptp = s.ptp
  | .mgt => t.mgt = s.mgt
  | .tow => t.tow = s.tow
  | .plc => t.plc = s.plc
  | .cmp => t.cmp = s.cmp
  | .str => t.str = s.str
  | .pos => t.pos = s.pos
  | .mil => t.mil = s.mil
  | .fir => t.fir = s.fir
  | .stg => t.stg = s.stg
  | .nzl => t.nzl = s.nzl
  | .gat => t.gat = s.gat
  | .gul => t.gul = s.gul
  | .insp => t.insp = s.insp
  | .mem => t.mem = s.mem
  | .axs => t.axs = s.axs
  | .lmp => t.lmp = s.lmp
  | .par => t.par = s.par
  | .cal => t.cal = s.cal

/-- The two states agree on every part but the ones listed. -/
def keepsBut (ps : List Part) (s t : State) : Prop := ∀ p, p ∉ ps → p.same s t

/-- The command answers a next state, and that state satisfies `P`. -/
def gives (i : Instr) (s : State) (P : State → Prop) : Prop := ∃ t, exec i s = .next t ∧ P t

/-- Where the events of R34 other than the resets can take the device, in one or more passages. -/
def mayPass : DevState → DevState → Bool
  | .cold, b => decide (b = .cold)
  | .faulted, b => decide (b = .faulted)
  | .loading, b => decide (b ≠ .cold)
  | .verifying, b => decide (b ≠ .cold ∧ b ≠ .loading)
  | _, b => decide (b ≠ .cold ∧ b ≠ .loading ∧ b ≠ .verifying)

/-- A master's register accesses reach every block (R503, R515): RMP from Verifying onwards, Waypost as well, which may write in
Printing and Held only while a halt is in force. -/
def reaches (m : Master) (s : State) : Bool :=
  match m with
  | .image => false
  | .rmp => awake s
  | .waypost => awake s && (!inPrint s || s.dbg.halted)

/-- `n` steps, one after the other; none when one of them does not answer a next state. -/
def runs : Nat → State → Option State
  | 0, s => some s
  | n + 1, s => match step s with | .next t => runs n t | _ => none

/-- The outputs of a register access by a master, after those sent before (log 3). -/
def accessed (m : Master) (r : AccRes) (v : Word) (s : State) : List Output := s.outbox ++ [.access m r v]

/-- What an accepted write of `v` leaves in the stored register at `a`; none when the write is refused or no register there stores it
(R7, R511, R512). -/
def stores (a : Nat) (v : Word) (s : State) : Option Word :=
  match regDesc a with
  | some d => if d.ok (regNew a d v s) && !regStateBad a (regNew a d v s) s && !regIdleBad false a d (regNew a d v s) s then some (regNew a d v s) else none
  | none => none

/-- A new entry of this class and code is the latest of the log (R481, R483). -/
def logged (c : ErrClass) (code : Nat) (s t : State) : Prop :=
  t.err.head = nextSeq s.err.head ∧ ∃ e ∈ t.err.ring, e.seq = t.err.head ∧ e.cls = c ∧ e.code = code

/-- A command that is one access to a bank, with its length and the multiple that it must address (R319, R320). -/
def bankAccess (b : Bank) (r : Fin 4) (o : Nat) (e : List Flip) (c : Instr) (n al : Nat) : Prop :=
  (c = .bankRead b r o n e ∧ 1 ≤ n ∧ n ≤ 32 ∧ al = 1) ∨ (∃ d, c = .bankWrite b r o d e ∧ n = d.length ∧ 1 ≤ n ∧ n ≤ 32 ∧ al = 1) ∨
    (n = 4 ∧ al = 4 ∧ ∃ v, c = .bankAdd b r o v e ∨ c = .bankAddSat b r o v e) ∨ (n = 8 ∧ al = 8 ∧ ∃ v, c = .bankSwap b r o v e)

/-- The commands that an RMP datagram of its type, and a COMMAND by its code, spells, in a frame that carries it (R375, R399, R401). -/
def rmpSpells (rx : Arrival) (ss : Session) (d : Bytes) (c : Instr) : Prop :=
  rxUdp rx ss.v6 = true ∧
  ((c = .rmpUnknownType rx ss d ∧ 48 ≤ d.length ∧ (byteAt d 3 = 0 ∨ 8 ≤ byteAt d 3)) ∨ (c = .rmpHello rx ss d ∧ rmpIs 1 d = true) ∨
  (c = .rmpRead rx ss d ∧ rmpIs 2 d = true) ∨ (c = .rmpWrite rx ss d ∧ rmpIs 3 d = true) ∨ (c = .rmpSwap rx ss d ∧ rmpIs 4 d = true) ∨
  (c = .rmpStatus rx ss d ∧ rmpIs 6 d = true) ∨ (c = .rmpSubscribe rx ss d ∧ rmpIs 7 d = true) ∨ (c = .rmpHold rx ss d ∧ rmpIsCmd 1 d = true) ∨
  (c = .rmpResume rx ss d ∧ rmpIsCmd 2 d = true) ∨ (c = .rmpStop rx ss d ∧ rmpIsCmd 3 d = true) ∨ (c = .rmpAcknowledge rx ss d ∧ rmpIsCmd 4 d = true) ∨
  (c = .rmpReset rx ss d ∧ rmpIsCmd 5 d = true) ∨ (c = .rmpYield rx ss d ∧ rmpIsCmd 6 d = true) ∨
  (c = .rmpCommandInvalid rx ss d ∧ rmpIs 5 d = true ∧ (d.length = 48 ∨ byteAt d 48 = 0 ∨ 7 ≤ byteAt d 48)))

/-- What the image's REG entries can change: all but the time, since a rejection returns the blocks to their reset values (R472). -/
def imageParts : List Part := [.free, .regs, .act, .sys, .err, .cap, .dbg, .cfg, .keep, .net, .netId, .ptp, .mgt, .tow, .plc, .cmp, .str, .pos, .mil, .fir, .stg, .nzl, .gat, .gul, .insp, .mem, .axs, .lmp, .par, .cal]

/-- The parts that a register access may change, by its master. -/
def byMaster (m : Master) (ps : List Part) : List Part := if m = .image then imageParts else ps

/-- The parts that each command may change, the error logger and what logging does among them (R483). -/
def touches : Instr → List Part
  | .registerWrite m _ _ => byMaster m [.free, .regs, .sys, .err, .cap, .cfg, .keep, .net, .ptp, .mgt, .tow, .cmp, .str, .pos, .mil, .fir, .stg, .nzl, .gat, .gul, .insp, .mem, .axs, .lmp, .par, .cal]
  | .supplyLow _ => [.regs, .act, .sys, .err, .cap, .dbg, .cfg, .keep, .net, .netId, .ptp, .mgt, .tow, .plc, .cmp, .str, .pos, .mil, .fir, .stg, .nzl, .gat, .gul, .insp, .mem, .axs, .lmp, .par, .cal]
  | .resetAssert => [.regs, .act, .sys, .err, .cap, .dbg, .cfg, .keep, .net, .netId, .ptp, .mgt, .tow, .plc, .cmp, .str, .pos, .mil, .fir, .stg, .nzl, .gat, .gul, .insp, .mem, .axs, .lmp, .par, .cal]
  | .resetRelease _ _ => [.sys, .err, .dbg, .cfg, .mgt, .mem, .par]
  | .keepReset => [.regs, .act, .sys, .err, .keep, .mgt, .pos, .mil, .fir, .gat, .axs, .lmp, .par, .cal]
  | .keepResetRelease => [.sys, .err, .mgt, .pos, .fir, .gat, .axs, .lmp, .par, .cal]
  | .imageHeaderRead _ _ => [.sys, .err, .cfg, .mgt, .fir, .gat, .axs, .lmp, .par, .cal]
  | .imagePass1Done _ => [.sys, .err, .cfg, .mgt, .fir, .gat, .axs, .lmp, .par, .cal]
  | .imageRecordApply _ => [.free, .regs, .act, .sys, .err, .cap, .dbg, .cfg, .keep, .net, .netId, .ptp, .mgt, .tow, .plc, .cmp, .str, .pos, .mil, .fir, .stg, .nzl, .gat, .gul, .insp, .mem, .axs, .lmp, .par, .cal]
  | .imagePass2Done _ => [.regs, .act, .sys, .err, .cap, .dbg, .cfg, .net, .netId, .ptp, .mgt, .tow, .plc, .cmp, .str, .fir, .stg, .nzl, .gat, .gul, .insp, .mem, .axs, .lmp, .par, .cal]
  | .readyCriteriaMet => [.act, .sys, .err, .cfg, .mgt, .tow, .plc, .str, .pos, .fir, .stg, .nzl, .gat, .gul, .insp, .mem, .axs, .lmp, .par, .cal]
  | .lanewaitExpire => [.err, .cfg, .mgt]
  | .bootTimeout => [.sys, .err, .mgt, .fir, .gat, .axs, .lmp, .par, .cal]
  | .dramVerifyDone _ => [.sys, .err, .cfg, .mgt, .plc, .fir, .gat, .mem, .axs, .lmp, .par, .cal]
  | .fireLock => [.err, .fir]
  | .fireUnlock => [.sys, .err, .mgt, .fir, .gat, .axs, .lmp, .par, .cal]
  | .otpUnlock m _ => byMaster m [.err, .cfg, .mgt]
  | .otpProgram m _ => byMaster m [.err, .cfg, .mgt]
  | .otpRevoke m _ => byMaster m [.err, .cfg, .mgt]
  | .otpPin m => byMaster m [.err, .cfg, .mgt]
  | .otpDone => [.err, .cfg]
  | .paceMeasure _ => [.sys, .err, .mgt, .par]
  | .paceClr m _ => byMaster m [.sys, .err, .mgt]
  | .knotImmediate m => byMaster m [.sys, .err, .mgt, .par]
  | .knotMilestone m _ => byMaster m [.sys, .err, .mgt, .par]
  | .knotRoadCount m => byMaster m [.sys, .err, .mgt, .par]
  | .knotCancel m => byMaster m [.sys, .err, .mgt, .par]
  | .knotTake => [.act, .sys, .err, .mgt, .tow, .str, .pos, .fir, .stg, .nzl, .gat, .gul, .insp, .mem, .axs, .lmp, .par, .cal]
  | .strandMigrate _ => [.err, .str]
  | .geoCheck m _ => byMaster m [.err, .mgt, .fir]
  | .geoCheckDone => [.err, .fir]
  | .resDataAccess m _ => byMaster m [.regs, .err, .mgt, .stg]
  | .encoderEdge _ _ _ _ _ => [.sys, .err, .mgt, .tow, .pos, .mil]
  | .wireDisagree _ _ => [.err, .mgt, .pos]
  | .wireAgree _ _ => [.err, .mgt, .pos]
  | .encLost _ => [.sys, .err, .mgt, .pos, .fir, .gat, .axs, .lmp, .par, .cal]
  | .index _ _ => [.sys, .err, .mgt, .tow, .pos, .mil]
  | .indexArm m _ _ => byMaster m [.regs, .err, .mgt, .pos]
  | .ssiFrameStart _ _ => [.err, .mgt, .pos]
  | .ssiWord _ _ _ => [.sys, .err, .mgt, .tow, .pos, .mil]
  | .ssiReleaseTimeout _ => [.err, .mgt, .pos]
  | .observerUpdate _ => [.sys, .err, .mgt, .pos, .mil]
  | .ptSynthStep _ => [.err, .mgt, .pos]
  | .posChannelConfig m _ _ => byMaster m [.regs, .err, .mgt, .pos]
  | .posSnapshot _ _ => [.err, .pos]
  | .milestoneArm m _ _ => byMaster m [.regs, .err, .mgt, .pos]
  | .milestoneDisarm m _ _ => byMaster m [.regs, .err, .mgt, .pos]
  | .milestoneCmpCommit m _ _ => byMaster m [.err, .mgt, .pos]
  | .milestoneCmpRead _ _ => [.err, .mil]
  | .milestoneHitRead _ _ => [.err, .mil]
  | .milestoneFire _ => [.act, .sys, .err, .net, .mgt, .tow, .cmp, .str, .pos, .mil, .fir, .stg, .nzl, .gat, .gul, .insp, .mem, .axs, .lmp, .par, .cal]
  | .msOutPulseEnd _ => [.err, .mil]
  | .extSyncCapture _ _ => [.sys, .err, .mgt, .mil]
  | .syncCaptureRead _ _ => [.err, .mil]
  | .positionSample _ => [.free, .sys, .err, .net, .mgt, .tow, .cmp, .str, .pos, .mil, .fir, .nzl, .gat, .mem, .axs, .lmp, .par, .cal]
  | .strike _ _ => [.free, .sys, .err, .net, .mgt, .tow, .cmp, .str, .fir, .nzl, .gat, .gul, .mem, .axs, .lmp, .par, .cal]
  | .spoolDecodeLine _ => [.free, .sys, .err, .mgt, .cmp, .str, .fir, .gat, .mem, .axs, .lmp, .par, .cal]
  | .strandFetchIssue _ => [.err, .str, .mem]
  | .strandFetchDone _ => [.sys, .err, .dbg, .mgt, .str, .mem]
  | .spdAdvFrame => [.err, .str]
  | .nozzleMapLine => [.sys, .err, .dbg, .mgt, .tow, .fir, .nzl]
  | .detourLaneFree _ _ => [.err, .nzl]
  | .staggerLine _ => [.sys, .err, .dbg, .mgt, .fir, .mem]
  | .frameBuild _ => [.sys, .err, .dbg, .mgt, .tow, .fir, .gul, .mem, .lmp, .par]
  | .lineFrameSend _ _ => [.sys, .err, .dbg, .mgt, .tow, .fir, .gul]
  | .towDrop _ _ _ => [.err, .net, .mgt, .tow]
  | .towlineReservedType _ _ _ => [.err, .net, .mgt, .tow]
  | .layerAnnounce _ _ _ => [.err, .net, .mgt, .tow, .mem]
  | .blockData _ _ _ => [.sys, .err, .dbg, .net, .mgt, .tow, .cmp, .str, .mem, .par]
  | .layerClose _ _ _ => [.err, .net, .mgt, .tow, .str, .par]
  | .layerRestart _ _ _ => [.err, .net, .mgt, .tow, .str, .par]
  | .layerRelease _ _ _ => [.err, .net, .mgt, .tow, .cmp, .str, .fir, .mem, .par]
  | .statusReq _ _ _ => [.err, .net, .mgt, .tow]
  | .ackTimer _ => [.err, .net, .tow]
  | .fragmentWritten => [.err, .net, .mgt, .tow, .str, .mem, .par]
  | .compressorStart => [.err, .tow, .cmp, .mem]
  | .chainDrain _ => [.err, .cmp, .mem]
  | .compressAbandon _ => [.err, .net, .mgt, .tow, .cmp, .str, .mem, .par]
  | .compressionComplete _ => [.err, .net, .mgt, .tow, .cmp, .str, .mem, .par]
  | .nozzleRequest m _ => byMaster m [.free, .err, .mgt, .tow, .fir, .nzl, .gat, .mem, .par]
  | .nozzleSwap => [.free, .err, .mgt, .tow, .fir, .nzl, .gat, .mem]
  | .journalReadLo _ => [.err]
  | .journalReadHi _ => [.err, .nzl]
  | .gateStart m _ => byMaster m [.err, .mgt, .gat, .cal]
  | .gateAbortCmd m _ => byMaster m [.err, .mgt, .gat, .cal]
  | .gateSweepBegin _ => [.err, .gat]
  | .gateTestStrike _ => [.err, .gat, .gul]
  | .gateEdge _ _ => [.err, .gat]
  | .gateSlotResult _ _ => [.free, .err, .mgt, .tow, .fir, .nzl, .gat, .mem, .par]
  | .linkAttempt _ => [.err, .gul, .par]
  | .linkSignalDetect _ => [.err, .gul, .par]
  | .linkPollDone _ _ => [.err, .gul, .par]
  | .linkLockDone _ _ => [.err, .gul, .par]
  | .linkTimeout _ => [.err, .mgt, .fir, .gul, .mem, .par]
  | .linkIdleDetect _ => [.err, .mgt, .tow, .fir, .nzl, .gul, .mem, .par]
  | .gulistAck _ _ => [.regs, .err, .mgt, .fir, .gul, .mem]
  | .gulistStatusRx _ _ => [.err, .mgt, .tow, .fir, .nzl, .gul, .mem]
  | .statusTimeout _ => [.err, .mgt, .tow, .fir, .nzl, .gul, .mem]
  | .gulistSense _ _ => [.err, .mgt, .gul]
  | .gulistFrameDiscard _ _ _ => [.regs, .err, .mgt, .fir, .gul, .mem]
  | .cfgTimeout _ => [.err, .gul]
  | .statusSend => [.err, .gul]
  | .alignSend _ => [.err, .gul, .par]
  | .alignMissing _ => [.err, .mgt, .gul]
  | .adaptFreeze _ => [.err, .gul, .par]
  | .gulRetrain m _ _ => byMaster m [.err, .mgt, .tow, .fir, .nzl, .gul, .mem]
  | .gulPortClr m _ _ => byMaster m [.err, .mgt, .tow, .fir, .nzl, .gul, .mem]
  | .hostCfgAccess m _ => byMaster m [.err, .mgt, .gul]
  | .eyeScanStart m _ => byMaster m [.err, .mgt, .gul]
  | .eyeScanDone _ => [.err, .gul]
  | .camFrameStart _ _ => [.err, .mgt, .insp]
  | .camFrameEnd _ => [.err, .mgt, .insp]
  | .camLineRx _ _ _ => [.err, .mgt, .insp, .mem]
  | .camPacketIgnored _ _ => [.err, .mgt, .insp]
  | .stripeProcess => [.err, .insp, .mem]
  | .recordWrite _ => [.err, .mgt, .insp, .mem]
  | .streakDetect _ => [.free, .err, .mgt, .tow, .fir, .nzl, .gat, .insp, .mem, .par]
  | .recordRelease m _ _ => byMaster m [.err, .mgt, .insp]
  | .dramIssue _ _ => [.free, .sys, .err, .dbg, .mgt, .tow, .cmp, .str, .fir, .gat, .mem, .axs, .lmp, .par, .cal]
  | .dramReadReturn _ _ => [.free, .sys, .err, .dbg, .mgt, .tow, .cmp, .str, .fir, .gat, .mem, .axs, .lmp, .par, .cal]
  | .refreshDue _ => [.err, .mem]
  | .memVerifyCmd m _ => byMaster m [.err, .mgt, .mem]
  | .verifySlice _ _ _ => [.free, .sys, .err, .dbg, .net, .mgt, .tow, .plc, .cmp, .str, .fir, .gat, .mem, .axs, .lmp, .par, .cal]
  | .bankRead _ _ _ _ _ => [.sys, .err, .mgt, .fir, .gat, .mem, .axs, .lmp, .par, .cal]
  | .bankWrite _ _ _ _ _ => [.sys, .err, .mgt, .tow, .fir, .nzl, .gat, .mem, .axs, .lmp, .par, .cal]
  | .bankAdd _ _ _ _ _ => [.sys, .err, .mgt, .tow, .fir, .nzl, .gat, .mem, .axs, .lmp, .par, .cal]
  | .bankAddSat _ _ _ _ _ => [.sys, .err, .mgt, .tow, .fir, .nzl, .gat, .mem, .axs, .lmp, .par, .cal]
  | .bankSwap _ _ _ _ _ => [.sys, .err, .mgt, .tow, .fir, .nzl, .gat, .mem, .axs, .lmp, .par, .cal]
  | .arbRound _ _ => [.err, .mem]
  | .axisProfileUpdate _ => [.regs, .sys, .err, .mgt, .fir, .gat, .axs, .lmp, .par, .cal]
  | .microstep _ => [.sys, .err, .mgt, .fir, .gat, .axs, .lmp, .par, .cal]
  | .chopperPhase _ _ _ _ _ => [.err, .axs]
  | .overcurrent _ => [.regs, .err, .mgt, .axs]
  | .hardLimit _ _ => [.regs, .err, .mgt, .axs]
  | .axisHoldCurrent _ => [.err, .axs]
  | .axisStandstill _ => [.err, .axs]
  | .axisTargetWrite m _ _ => byMaster m [.regs, .err, .mgt, .axs]
  | .axisVtargetWrite m _ _ => byMaster m [.regs, .err, .mgt, .axs]
  | .axisModeWrite m _ _ => byMaster m [.regs, .err, .mgt]
  | .axisSetpos m _ _ => byMaster m [.regs, .err, .mgt, .axs]
  | .axisGearSchedule m _ _ => byMaster m [.regs, .err, .mgt, .axs]
  | .axisTableAccess m _ => byMaster m [.regs, .err, .mgt, .axs]
  | .scanFrameStart => [.err, .mgt, .lmp]
  | .lampSwapRequest m _ => byMaster m [.err, .mgt, .lmp]
  | .lbusFrameEcho _ _ => [.err, .mgt, .lmp]
  | .lbusCfgWrite m _ _ => byMaster m [.err, .mgt, .lmp]
  | .lampZoneAccess m _ => byMaster m [.regs, .err, .mgt, .lmp]
  | .lampUtblAccess m _ => byMaster m [.regs, .err, .mgt, .lmp]
  | .netLinkUp _ => [.err, .net, .mgt]
  | .netLinkDown _ => [.err, .net, .mgt]
  | .netFrameDiscard _ _ => [.err, .net]
  | .arpRequest _ _ => [.err, .net]
  | .arpRetry _ => [.err, .net]
  | .arpExpire _ _ => [.err, .net]
  | .icmpEcho _ _ _ _ _ => [.err, .net]
  | .ptpAnnounce _ _ _ => [.err, .net, .ptp, .mgt]
  | .ptpSync _ _ _ => [.err, .net, .ptp, .mgt]
  | .ptpFollowUp _ _ _ => [.err, .net, .ptp, .mgt]
  | .ptpDelayResp _ _ _ => [.err, .net, .ptp, .mgt]
  | .ptpPdelayReq _ _ _ => [.err, .net, .ptp, .mgt]
  | .ptpPdelayResp _ _ _ => [.err, .net, .ptp, .mgt]
  | .ptpPdelayRespFollowUp _ _ _ => [.err, .net, .ptp, .mgt]
  | .ptpIgnored _ _ _ => [.err, .net, .ptp, .mgt]
  | .ptpDelayReqSend _ => [.err, .net, .ptp]
  | .ptpPdelayReqSend _ => [.err, .net, .ptp]
  | .ptpMasterTimeout _ _ => [.err, .ptp, .mgt]
  | .ptpFollowupTimeout _ => [.err, .ptp]
  | .ptpSyncTimeout _ => [.err, .ptp, .mgt]
  | .ptpHoldmax _ => [.err, .ptp, .mgt]
  | .domainSelect m _ => byMaster m [.regs, .err, .ptp, .mgt]
  | .fireDiscipline _ => [.err, .ptp, .mgt]
  | .ptpSnapshot _ _ => [.err, .ptp]
  | .mgmtTick _ _ => [.err, .net, .ptp, .mgt, .str, .mem, .par, .cal]
  | .rmpDiscard _ _ _ => [.free, .regs, .sys, .err, .cap, .cfg, .keep, .net, .ptp, .mgt, .tow, .cmp, .str, .pos, .mil, .fir, .stg, .nzl, .gat, .gul, .insp, .mem, .axs, .lmp, .par, .cal]
  | .rmpUnknownType _ _ _ => [.free, .regs, .sys, .err, .cap, .cfg, .keep, .net, .ptp, .mgt, .tow, .cmp, .str, .pos, .mil, .fir, .stg, .nzl, .gat, .gul, .insp, .mem, .axs, .lmp, .par, .cal]
  | .rmpHello _ _ _ => [.free, .regs, .sys, .err, .cap, .cfg, .keep, .net, .ptp, .mgt, .tow, .cmp, .str, .pos, .mil, .fir, .stg, .nzl, .gat, .gul, .insp, .mem, .axs, .lmp, .par, .cal]
  | .rmpRead _ _ _ => [.free, .regs, .sys, .err, .cap, .cfg, .keep, .net, .ptp, .mgt, .tow, .cmp, .str, .pos, .mil, .fir, .stg, .nzl, .gat, .gul, .insp, .mem, .axs, .lmp, .par, .cal]
  | .rmpWrite _ _ _ => [.free, .regs, .sys, .err, .cap, .cfg, .keep, .net, .ptp, .mgt, .tow, .cmp, .str, .pos, .mil, .fir, .stg, .nzl, .gat, .gul, .insp, .mem, .axs, .lmp, .par, .cal]
  | .rmpSwap _ _ _ => [.free, .regs, .sys, .err, .cap, .cfg, .keep, .net, .ptp, .mgt, .tow, .cmp, .str, .pos, .mil, .fir, .stg, .nzl, .gat, .gul, .insp, .mem, .axs, .lmp, .par, .cal]
  | .rmpStatus _ _ _ => [.free, .regs, .sys, .err, .cap, .cfg, .keep, .net, .ptp, .mgt, .tow, .cmp, .str, .pos, .mil, .fir, .stg, .nzl, .gat, .gul, .insp, .mem, .axs, .lmp, .par, .cal]
  | .rmpSubscribe _ _ _ => [.free, .regs, .sys, .err, .cap, .cfg, .keep, .net, .ptp, .mgt, .tow, .cmp, .str, .pos, .mil, .fir, .stg, .nzl, .gat, .gul, .insp, .mem, .axs, .lmp, .par, .cal]
  | .subscriptionExpire _ => [.err, .mgt]
  | .rmpHold _ _ _ => [.free, .regs, .sys, .err, .cap, .cfg, .keep, .net, .ptp, .mgt, .tow, .cmp, .str, .pos, .mil, .fir, .stg, .nzl, .gat, .gul, .insp, .mem, .axs, .lmp, .par, .cal]
  | .rmpResume _ _ _ => [.free, .regs, .sys, .err, .cap, .cfg, .keep, .net, .ptp, .mgt, .tow, .cmp, .str, .pos, .mil, .fir, .stg, .nzl, .gat, .gul, .insp, .mem, .axs, .lmp, .par, .cal]
  | .rmpStop _ _ _ => [.free, .regs, .sys, .err, .cap, .cfg, .keep, .net, .ptp, .mgt, .tow, .cmp, .str, .pos, .mil, .fir, .stg, .nzl, .gat, .gul, .insp, .mem, .axs, .lmp, .par, .cal]
  | .rmpAcknowledge _ _ _ => [.free, .regs, .sys, .err, .cap, .cfg, .keep, .net, .ptp, .mgt, .tow, .cmp, .str, .pos, .mil, .fir, .stg, .nzl, .gat, .gul, .insp, .mem, .axs, .lmp, .par, .cal]
  | .rmpReset _ _ _ => [.free, .regs, .sys, .err, .cap, .cfg, .keep, .net, .ptp, .mgt, .tow, .cmp, .str, .pos, .mil, .fir, .stg, .nzl, .gat, .gul, .insp, .mem, .axs, .lmp, .par, .cal]
  | .resetExecute => [.regs, .act, .sys, .err, .cap, .dbg, .cfg, .keep, .net, .netId, .ptp, .mgt, .tow, .plc, .cmp, .str, .pos, .mil, .fir, .stg, .nzl, .gat, .gul, .insp, .mem, .axs, .lmp, .par, .cal]
  | .rmpYield _ _ _ => [.free, .regs, .sys, .err, .cap, .cfg, .keep, .net, .ptp, .mgt, .tow, .cmp, .str, .pos, .mil, .fir, .stg, .nzl, .gat, .gul, .insp, .mem, .axs, .lmp, .par, .cal]
  | .rmpCommandInvalid _ _ _ => [.free, .regs, .sys, .err, .cap, .cfg, .keep, .net, .ptp, .mgt, .tow, .cmp, .str, .pos, .mil, .fir, .stg, .nzl, .gat, .gul, .insp, .mem, .axs, .lmp, .par, .cal]
  | .tetherHeartbeatSend => [.err, .par]
  | .tetherHeartbeatRx _ => [.err, .mgt, .par]
  | .netHeartbeatRx _ _ => [.err, .net, .mgt, .par]
  | .tetherPathMiss => [.err, .mgt, .par]
  | .netPathMiss => [.err, .mgt, .par]
  | .tetherNzlChange _ => [.free, .err, .mgt, .tow, .fir, .nzl, .gat, .mem, .par]
  | .tetherKnotReq _ => [.sys, .err, .mgt, .par]
  | .tetherKnotDone _ => [.err, .mgt, .par]
  | .tetherState _ => [.free, .sys, .err, .mgt, .tow, .str, .fir, .nzl, .gat, .mem, .par]
  | .tetherYield _ => [.err, .mgt, .par]
  | .tetherBulk _ => [.free, .err, .mgt, .tow, .fir, .nzl, .gat, .mem, .par]
  | .tetherResend => [.err, .par]
  | .tetherResync => [.err, .mgt, .par]
  | .hitchInAssert => [.err, .mgt, .par]
  | .hitchInRelease => [.err, .mgt, .par]
  | .splice => [.err, .mgt, .par]
  | .rejoinCopyStart => [.err, .par]
  | .coreWatchExpire => [.err, .keep, .par]
  | .keepFeedLoss _ => [.err, .keep, .mgt]
  | .keepBrownout => [.err, .par]
  | .fegRotationStart _ => [.err, .cal]
  | .fegMeasureDone _ _ => [.sys, .err, .mgt, .fir, .gat, .axs, .lmp, .par, .cal]
  | .calForce m _ => byMaster m [.err, .mgt, .cal]
  | .cmpMeasure _ => [.err, .cal]
  | .cmpMeasureDone _ _ => [.err, .mgt, .cal]
  | .calSlewStep _ => [.err, .mem, .cal]
  | .faultAck m _ => byMaster m [.err, .mgt]
  | .faultAckAll m _ => byMaster m [.err, .mgt]
  | .latchClear m _ => byMaster m [.err, .mgt]
  | .errClr m _ => byMaster m [.err, .mgt]
  | .logEntryRead _ _ => [.err, .mgt]
  | .knotEpochRead _ => [.sys, .err]
  | .fireLcSnapshot _ _ => [.err, .fir]
  | .captureStart m _ => byMaster m [.err, .cap, .mgt, .mem]
  | .captureClear m => byMaster m [.err, .cap, .mgt, .mem]
  | .captureDone => [.err, .cap, .mem]
  | .tapReset => [.regs, .sys, .err, .dbg, .mgt, .tow, .mem]
  | .tapInstruction _ => [.err, .dbg]
  | .wpNop => [.free, .err, .dbg]
  | .wpRead32 _ _ _ => [.free, .regs, .sys, .err, .dbg, .ptp, .mgt, .pos, .mil, .fir, .stg, .nzl, .gat, .mem, .axs, .lmp, .par, .cal]
  | .wpWrite32 _ _ _ _ => [.free, .regs, .sys, .err, .cap, .dbg, .cfg, .keep, .net, .ptp, .mgt, .tow, .cmp, .str, .pos, .mil, .fir, .stg, .nzl, .gat, .gul, .insp, .mem, .axs, .lmp, .par, .cal]
  | .wpHalt => [.free, .sys, .err, .dbg, .mgt]
  | .wpResume => [.free, .sys, .err, .dbg, .net, .mgt, .tow, .nzl, .mem]
  | .wpStep _ => [.free, .sys, .err, .dbg, .mgt, .tow, .mem]
  | .wpCapture _ => [.free, .err, .cap, .dbg, .mgt]
  | .wpReservedOp _ => [.free, .err, .dbg, .mgt]
  | .towCntClr m _ => byMaster m [.err, .mgt, .tow]
  | .cmpCntClr m _ => byMaster m [.err, .mgt, .cmp]
  | .strCntClr m _ => byMaster m [.err, .mgt, .str]
  | .firCntClr m _ => byMaster m [.err, .mgt, .fir]
  | .nzlCntClr m _ => byMaster m [.err, .mgt, .nzl]
  | .camPortClr m _ _ => byMaster m [.err, .mgt, .insp]
  | .insCtxClr m _ _ => byMaster m [.err, .mgt, .insp]
  | .memCntClr m _ => byMaster m [.err, .mgt, .mem]
  | .bnkClr m _ _ => byMaster m [.err, .mgt, .mem]
  | .arbClr m _ => byMaster m [.err, .mgt, .mem]
  | .netPortClr m _ _ => byMaster m [.err, .net, .mgt]
  | .ptpDomClr m _ _ => byMaster m [.err, .ptp, .mgt]
  | .mgtCntClr m _ => byMaster m [.err, .mgt]
  | .parCntClr m _ => byMaster m [.err, .mgt, .par]
  | .keepFeedReturn _ => [.err, .keep, .mgt]
  | .symbolRealign _ => [.err, .gul, .par]
  | .trainingSetInActive _ => [.err, .mgt, .tow, .fir, .nzl, .gul, .mem]
  | .codeErrorBurst _ => [.err, .mgt, .tow, .fir, .nzl, .gul, .mem]
  | .adaptationResume _ _ => [.err, .gul, .par]
  | .limitInputInactive _ _ => [.err, .axs]
  | .fegTestEdge _ _ => [.err, .cal]

/-- A token meets neither a halt nor a breakpoint at the input handshake of stage `k` (R499, R502). -/
def unhalted (s : State) (k : Nat) (tok : List Nat) (layer id : Nat) (lc : Option Nat) : Prop :=
  stageHalted s k = false ∧ (k, tok) ∉ s.dbg.atBp ∧ ∀ n < 16, bpMatch s n k layer id lc = false

end Sys2Proof.Machine
end

