-- ==== Sys2Proof/Certificates/Slice0/Obligations.lean ====
section
/-! DEFINITION. The statements for the provers. -/

open Sys2Proof Sys2Proof.Machine

/-! The machine as a whole. -/

/-- A step with a command in front runs it with the queue's rest. -/
def Obligations.StepRunsFront : Prop :=
  ∀ (c : Instr) (s : State), step { s with pending := c :: s.pending } = exec c s

/-- The queue is served first in, first out: as many steps as there are commands in front leave exactly the rest behind them, and what
was sent before stays sent, in its order (log 3). A step on an empty queue is one cycle of the NET clock and nothing else: the time moves on by 6.4 ns and,
outside Cold, each PTP counter by its increment (R381). That an empty queue means a cycle is the model's choice (log 5). -/
def Obligations.QueueServedInOrder : Prop :=
  (∀ (cs rest : List Instr) (s t : State), s.pending = cs ++ rest → runs cs.length s = some t →
    t.pending = rest ∧ ∃ o, t.outbox = s.outbox ++ o) ∧
  (∀ s : State, s.pending = [] → ∃ t, step s = .next t ∧ t.now = s.now + 64 ∧
    (∀ d : Dom, dom t d = if s.sys.st = .cold then dom s d else { dom s d with t := ((dom s d).t + (dom s d).inc) % timeMod }) ∧
    (∃ ds, t.ptp = { s.ptp with doms := ds }) ∧ t.pending = [] ∧ t.outbox = s.outbox ∧ keepsBut [.now, .ptp] s t)

/-- What the spec says of the block right after reset: Cold (R33), no knot taken (R518), an empty log with no error handled (R483, R485),
no halt (R495), no layer, both fuses' maps empty (R478), drop gates idle (R239), outputs of the hitch released (R412), the KEEP island
in reset (R162), the knot epoch 0. No error waits to be logged, and the register maps and memories are canonical (log 4). -/
def Obligations.ResetState : Prop :=
  State.reset.sys.st = .cold ∧ State.reset.sys.epoch = 0 ∧ State.reset.sys.pendingKnot = none ∧
  State.reset.err.head = 0 ∧ State.reset.err.ring = [] ∧ State.reset.err.faults = [] ∧ State.reset.err.stopHeld = false ∧
  State.reset.err.fatalHeld = false ∧ State.reset.dbg.halted = false ∧ State.reset.tow.layers = [] ∧ State.reset.fir.grid = none ∧
  (∀ g : Gate, (gate State.reset g).busy = false) ∧ State.reset.par.hitchOut = false ∧ State.reset.pos.keepReset = true ∧
  (∀ a : Nat, regVal State.reset a = regReset a) ∧ State.reset.pending = [] ∧ State.reset.outbox = [] ∧
  State.reset.settled = true ∧ State.reset.canon = true

/-- Every step, of a command or of the clock, leaves no detected error unlogged and keeps the register maps, the banks and DRAM
canonical (R483, log 4). -/
def Obligations.StepKeepsInvariant : Prop :=
  ∀ s t : State, s.settled = true → s.canon = true → step s = .next t → t.settled = true ∧ t.canon = true

/-- Whatever the command, a next state has the queue as it was, all that was sent before, every error logged, and every fuse that was
blown (R478, R483; log 3). -/
def Obligations.ExecFrame : Prop :=
  ∀ (i : Instr) (s t : State), exec i s = .next t →
    t.pending = s.pending ∧ (∃ o, t.outbox = s.outbox ++ o) ∧ t.settled = true ∧ fusesKept s t

/-- A command whose operands spell its row is never refused, and one whose operands do not is always refused as ill-formed and changes
nothing. Which operands spell a row is the model's choice where the table gives no bits (log 1). -/
def Obligations.RefusedExactlyWhenIllFormed : Prop :=
  ∀ (i : Instr) (s : State), (i.wf = false → ∃ n, exec i s = .refused (.illFormed n)) ∧
    (i.wf = true → ∀ r, exec i s ≠ .refused r)

/-- No command but a reset takes the device to Cold or back through start-up, and no command but COMMAND RESET and the reset pins leaves
Faulted (R34). -/
def Obligations.DeviceMovesOnlyByR34 : Prop :=
  ∀ (i : Instr) (s t : State), (∀ r, i ≠ .supplyLow r) → i ≠ .resetAssert → i ≠ .resetExecute → (∀ b r, i ≠ .resetRelease b r) →
    exec i s = .next t → mayPass s.sys.st t.sys.st = true

/-- The resets take any device to Cold at once, with every register outside the KEEP island's blocks and Waypost at its reset value, those
kept as they were, the fuses and the position unchanged, and, but while the KEEP island is itself in reset, the cause recorded (R34, R161, R454,
R457, R478). Then RESET_N is released: Cold passes to Loading with the straps as sampled, PREV showing Cold; in any other state that event
cannot occur (R34, R455, R458). -/
def Obligations.ResetsAndRelease : Prop :=
  ∀ s : State,
    let cold := fun (cause : BitVec 3) (t : State) =>
      t.sys.st = .cold ∧ (∀ a, regVal t a = if keptReg a then regVal s a else regReset a) ∧
      t.cfg.otpProg = s.cfg.otpProg ∧ t.cfg.otpRev = s.cfg.otpRev ∧ t.cfg.otpPin = s.cfg.otpPin ∧
      (∀ c, enc t c = enc s c) ∧ t.tow.layers = [] ∧ t.fir.grid = none ∧ t.par.hitchOut = false ∧
      (∀ i : Ms, (milestone t i).armed = false ∧ (milestone t i).stale = false) ∧
      t.keep.resetCause = (if s.pos.keepReset then s.keep.resetCause else s.keep.resetCause ||| cause) ∧ t.now = s.now
    (s.canon = true → (∀ r, gives (.supplyLow r) s (cold 2)) ∧ gives .resetAssert s (cold 1) ∧
      (s.mgt.resetDue = true → gives .resetExecute s (cold 4))) ∧
    (s.mgt.resetDue = false → exec .resetExecute s = .fault (.cannotOccur "RESET_EXECUTE")) ∧
    (∀ (b : BitVec 2) (r : Bool), s.settled = true → s.sys.st = .cold → gives (.resetRelease b r) s (fun t =>
      t.sys.st = .loading ∧ t.sys.prev = .cold ∧ t.cfg.bootSel = b ∧ t.cfg.roleStrap = r ∧ t.par.strapB = r ∧
      t.cfg.supplyHold = false ∧ keepsBut [.sys, .dbg, .cfg, .mgt, .mem, .par] s t)) ∧
    (∀ (b : BitVec 2) (r : Bool), s.sys.st ≠ .cold → exec (.resetRelease b r) s = .fault (.cannotOccur "RESET_RELEASE"))

/-- The KEEP island and the hitch. KEEP_RESET_N: the encoder channels and the milestones go to their reset values, the inputs keeping their
levels, with the registers of their windows; from Verifying onwards that is the Fatal of R456, which takes the device to Faulted. Its release
only lets the island run again (R162, R456). A feed that leaves its range sets FEEDLOSS and is a Fault KEEP_FEED, which ends when the feed is
back; a brown-out releases HITCH_OUT_N, and so does a core that stops outside a halt, which sets COREWATCH (R436, R485). HITCH_IN_N asserted makes
a holder of a pair release and become standby, a Notice YIELDED after its YIELD or in a halt and a Fault HITCH_TAKEN else (R412); released,
it is trigger 1 of a standby, a Fault SPLICE_UNREADY beside it without READY (R430). -/
def Obligations.KeepIslandAndHitch : Prop :=
  ∀ s : State, s.settled = true → s.canon = true →
    let freed := fun (t : State) => t.par = { s.par with hitchOut := false } ∧
      t.outbox = s.outbox ++ (if s.par.hitchOut then [.pin "HITCH_OUT_N" 0 false] else [])
    let out := { s.par with hitchIn := false, hitchAt := some s.now }
    let splices := isStandby s = true ∧ operational s = true ∧ s.par.pendSplice = none
    let asked := s.par.yieldSent = true ∨ s.dbg.halted = true
    gives .keepReset s (fun t =>
      t.pos.keepReset = true ∧ (∀ a, a / 0x10000 = 12 ∨ a / 0x10000 = 13 → regVal t a = regReset a) ∧
      (∀ c : Enc, (enc t c).rc = 0 ∧ (enc t c).lvA = (enc s c).lvA ∧ (enc t c).lvB = (enc s c).lvB) ∧
      (∀ i : Ms, (milestone t i).armed = false) ∧
      (s.err.fatalHeld = false → running s = true → t.sys.st = .faulted) ∧ (awake s = false → t.sys = s.sys)) ∧
    (s.pos.keepReset = true → gives .keepResetRelease s (fun t =>
      t.pos = { s.pos with keepReset := false } ∧ keepsBut [.pos, .err] s t)) ∧
    (s.pos.keepReset = false → exec .keepResetRelease s = .fault (.cannotOccur "KEEP_RESET_RELEASE")) ∧
    (∀ b : Bool, gives (.keepFeedLoss b) s (fun t =>
      t.keep = { s.keep with feedA := s.keep.feedA && b, feedB := s.keep.feedB && !b, feedLoss := true } ∧ t.outbox = s.outbox ∧
      keepsBut [.keep, .err, .mgt] s t ∧ (s.sys.st ≠ .cold → s.err.fatalHeld = false → logged .fault Err.keepFeed s t))) ∧
    (∀ b : Bool, gives (.keepFeedReturn b) s (fun t =>
      t.keep = { s.keep with feedA := s.keep.feedA || !b, feedB := s.keep.feedB || b } ∧ t.outbox = s.outbox ∧ keepsBut [.keep, .err] s t ∧
      t.err.faults = s.err.faults.filter (fun f => !(f.code == Err.keepFeed && nth f.args 4 0 == b2n b 0)))) ∧
    gives .keepBrownout s (fun t => freed t ∧ keepsBut [.par, .err] s t) ∧
    (s.sys.st ≠ .cold → s.dbg.halted = false → gives .coreWatchExpire s (fun t =>
      freed t ∧ t.keep = { s.keep with coreWatch := true, coreLost := true } ∧ keepsBut [.keep, .par] s t)) ∧
    (s.sys.st = .cold ∨ s.dbg.halted = true → exec .coreWatchExpire s = .fault (.cannotOccur "CORE_WATCH_EXPIRE")) ∧
    (paired s = false ∨ s.par.hitchOut = false → gives .hitchInAssert s (fun t =>
      t.par = { s.par with hitchIn := true, hitchAt := some s.now } ∧ t.outbox = s.outbox ∧ keepsBut [.par, .err] s t)) ∧
    (paired s = true → s.par.hitchOut = true → s.sys.st ≠ .cold → gives .hitchInAssert s (fun t =>
      t.par = { s.par with
        hitchIn := true, hitchAt := some s.now, hitchOut := false, role := 2, joined := true, spliceWait := [], pendSplice := none
        slow := false, hold := false } ∧
      (∃ o, t.outbox = s.outbox ++ .pin "HITCH_OUT_N" 0 false :: o) ∧ keepsBut [.par, .err, .mgt] s t ∧
      (s.err.fatalHeld = false → (asked → logged .notice Err.yielded s t) ∧ (¬ asked → logged .fault Err.hitchTaken s t)))) ∧
    (¬ splices → gives .hitchInRelease s (fun t => t.par = out ∧ t.outbox = s.outbox ∧ keepsBut [.par, .err] s t)) ∧
    (splices → gives .hitchInRelease s (fun t => t.par = { out with pendSplice := some 1 } ∧ t.outbox = s.outbox ∧ keepsBut [.par, .err, .mgt] s t ∧
      (parReady s = true → t.err = s.err) ∧ (parReady s = false → s.err.fatalHeld = false → logged .fault Err.spliceUnready s t)))

/-- The frame of every command: a next state has every part of the block that `touches` does not list for the command as it was. -/
def Obligations.EveryCommandKeepsTheRest : Prop :=
  ∀ (i : Instr) (s t : State), s.settled = true → exec i s = .next t → keepsBut (touches i) s t

/-! Register accesses by the three masters. -/

/-- Every access is one aligned word: an access to an address that is no multiple of 4 changes nothing, RMP is answered BAD_PARAM and Waypost
ERROR, whether it reads or writes and whichever message or operation carries it (R509); and so is one to an address that lies in no window. -/
def Obligations.MisalignedAccess : Prop :=
  ∀ (a v : Word) (s : State), (a.toNat % 4 ≠ 0 ∨ 0x1D0000 ≤ a.toNat) →
    masterWrite .rmp a.toNat v s = (s, .badParam) ∧ masterRead .rmp a.toNat s = (0, s, .badParam) ∧
    masterWrite .waypost a.toNat v s = (s, .error) ∧ masterRead .waypost a.toNat s = (0, s, .error) ∧
    (s.settled = true → s.sys.st ≠ .cold →
      (awake s = true → exec (.registerWrite .rmp a v) s = .next { s with outbox := accessed .rmp .badParam v s }) ∧
      exec (.registerWrite .waypost a v) s = .next { s with outbox := accessed .waypost .error v s })

/-- A write that a stored register accepts: each writable bit takes the bit written, every other bit stays (R7, R512), no other register
changes, and nothing else does. The blocks whose registers act when written (PTP, POS, MIL, GUL, AXS) have statements of their own, and so has
SYS_PACE_LIMIT, whose least value is 0x0100 (R20). -/
def Obligations.StoredRegisterWrite : Prop :=
  ∀ (m : Master) (a v : Word) (d : RegDesc) (s : State), reaches m s = true → s.settled = true → s.canon = true → a.toNat % 4 = 0 →
    a.toNat / 0x10000 ∉ [1, 3, 12, 13, 18, 22] → a.toNat < 0x1C0000 → a.toNat ≠ 0x400 → regDesc a.toNat = some d →
    writeCmd false a.toNat v { s with outbox := [] } = none →
    d.ok (regVal s a.toNat &&& ~~~ (d.rw ||| d.rwl ||| d.rwk ||| d.rwi) ||| v &&& (d.rw ||| d.rwl ||| d.rwk ||| d.rwi)) = true →
    (regRunning a.toNat s = true → (regVal s a.toNat ^^^ v) &&& d.rwi = 0) →
    gives (.registerWrite m a v) s (fun t =>
      regVal t a.toNat = regVal s a.toNat &&& ~~~ (d.rw ||| d.rwl ||| d.rwk ||| d.rwi) ||| v &&& (d.rw ||| d.rwl ||| d.rwk ||| d.rwi) ∧
      (∀ b, b ≠ a.toNat → regVal t b = regVal s b) ∧ t.outbox = accessed m .ok v s ∧ keepsBut [.regs] s t)

/-- Writes that store nothing. A write to a reserved offset of a window or to a read-only register is answered OK and changes nothing, and no
error is logged (R7, R510); the CFG window is apart, since any write there closes the fuses' commands again (R478), and so are the DBG
registers, which RMP may not write (R503); and so is every write to a register of POS or MIL while KEEP_RESET_N holds the two at
reset (R162). A write that a stored register refuses, because it would change an idle-only field of a running block
or puts a field out of range, changes no register; RMP is answered REFUSED, and the block's Notices are found, IDLE_WRITE
among them (R7, R511). -/
def Obligations.WritesThatStoreNothing : Prop :=
  ∀ (a v : Word) (s : State), s.settled = true → a.toNat % 4 = 0 → a.toNat / 0x10000 ≠ 1 → a.toNat < 0x1C0000 →
    (heldAtReset a.toNat s = true → ∀ m : Master, reaches m s = true →
      exec (.registerWrite m a v) s = .next { s with outbox := accessed m .ok v s }) ∧
    (writeCmd false a.toNat v { s with outbox := [] } = none → regDesc a.toNat = none → ∀ m : Master, reaches m s = true →
      exec (.registerWrite m a v) s = .next { s with outbox := accessed m .ok v s }) ∧
    (∀ d : RegDesc, writeCmd false a.toNat v { s with outbox := [] } = none → heldAtReset a.toNat s = false → awake s = true →
      regDesc a.toNat = some d →
      ((regRunning a.toNat s = true ∧ (regNew a.toNat d v s ^^^ regVal s a.toNat) &&& d.rwi ≠ 0) ∨ d.ok (regNew a.toNat d v s) = false) →
      gives (.registerWrite .rmp a v) s (fun t =>
        (∀ b, regVal t b = regVal s b) ∧ t.outbox = accessed .rmp .refused v s ∧ keepsBut [.err, .mgt] s t))

/-- Where the masters are barred. While the device is Printing or Held and no halt is in force, and in Loading, Waypost is refused every write
outside the DBG window: nothing changes but the log, which takes a Notice DBG_REFUSED unless one was logged within the last millisecond
(R503, R515). In Cold no Waypost write outside the DBG window does anything: it ends with ERROR. RMP is not served in Cold and Loading
(R515). The DBG registers can be written only through Waypost: RMP is refused, and no register changes (R503). -/
def Obligations.BarredAccess : Prop :=
  ∀ (a v : Word) (s : State),
    (a.toNat < 0x1C0000 →
      (s.settled = true → a.toNat % 4 = 0 → (s.sys.st = .loading ∨ (inPrint s = true ∧ s.dbg.halted = false)) →
        gives (.registerWrite .waypost a v) s (fun t =>
          t.outbox = accessed .waypost .refused v s ∧ keepsBut [.err, .mgt] s t ∧
          (s.err.fatalHeld = false → mayLog s Err.dbgRefused 0 (ms 1) = true → logged .notice Err.dbgRefused s t) ∧
          (mayLog s Err.dbgRefused 0 (ms 1) = false → t.err.ring = s.err.ring ∧ t.err.head = s.err.head))) ∧
      (s.sys.st = .cold → gives (.registerWrite .waypost a v) s (fun t =>
        t.outbox = accessed .waypost .error v s ∧ keepsBut [.err] s t)) ∧
      (s.sys.st = .cold ∨ s.sys.st = .loading → exec (.registerWrite .rmp a v) s = .fault (.cannotOccur "REGISTER_WRITE"))) ∧
    (awake s = true → s.settled = true → a.toNat % 4 = 0 → a.toNat / 0x10000 = 28 → (regShow a.toNat s).isSome = true →
      gives (.registerWrite .rmp a v) s (fun t =>
        t.outbox = accessed .rmp .refused v s ∧ keepsBut [.err, .mgt] s t ∧ (∀ b, regVal t b = regVal s b) ∧
        (s.err.fatalHeld = false → logged .notice (28 * 1024 + 1) s t)))

/-- The REG entries of an image. One at an address that no image may write rejects the candidate with REC_CONTENT and the record's index:
every block is at its reset values again, the loading goes on, and the device stays in Loading while another candidate is left (R463, R472).
One that a stored register accepts is stored as any write is, and idle-only fields take it (R463, R511). -/
def Obligations.ImageEntries : Prop :=
  ∀ (a v : Word) (s : State), s.canon = true → s.sys.st = .loading → s.cfg.pass = 2 →
    (∀ (i : Fin 2) (j : Nat) (r : List Nat), s.cfg.cands = i.val :: j :: r → imageRegBad a.toNat = true →
      gives (.registerWrite .image a v) s (fun t =>
        (vget t.cfg.slots i ⟨0, 0, 0, false⟩).reason = 10 ∧ (vget t.cfg.slots i ⟨0, 0, 0, false⟩).detail = s.cfg.recIdx ∧
        t.cfg.cands = j :: r ∧ t.cfg.pass = 1 ∧ t.sys.st = .loading ∧
        (∀ b, keptReg b = false → regVal t b = regReset b) ∧ t.outbox = accessed .image .error v s)) ∧
    (∀ d : RegDesc, s.settled = true → imageRegBad a.toNat = false →
      a.toNat / 0x10000 ∉ [1, 3, 12, 13, 18, 22] → regDesc a.toNat = some d →
      writeCmd true a.toNat v { s with outbox := [] } = none → d.ok (regNew a.toNat d v s) = true →
      gives (.registerWrite .image a v) s (fun t =>
        regVal t a.toNat = regNew a.toNat d v s ∧ (∀ b, b ≠ a.toNat → regVal t b = regVal s b) ∧
        t.outbox = accessed .image .ok v s ∧ keepsBut [.regs] s t))

/-- Every command that is one register access is the write or the read of its register: with the master that may send it, it answers what
REGISTER_WRITE at that address answers (the table's rows name the register). -/
def Obligations.RegisterCommandsAreWrites : Prop :=
  ∀ (m : Master) (v : Word) (s : State), masterHere m s = true →
    let w := fun (a : Nat) (x : Word) => exec (.registerWrite m (w32 a) x) s
    exec (.otpUnlock m v) s = w 0x10084 v ∧
    (∀ k, exec (.otpProgram m k) s = w 0x10088 (w32 (2 ^ 30 + k.val))) ∧
    (∀ k, exec (.otpRevoke m k) s = w 0x10088 (w32 (2 ^ 31 + k.val))) ∧
    exec (.otpPin m) s = w 0x10088 0xC0000000 ∧
    exec (.paceClr m v) s = w 0x408 v ∧
    exec (.knotImmediate m) s = w 0x100 0 ∧
    (∀ k, exec (.knotMilestone m k) s = w 0x100 (w32 (2 ^ 30 + k.val))) ∧
    exec (.knotRoadCount m) s = w 0x100 0x80000000 ∧
    exec (.knotCancel m) s = w 0x100 0xC0000000 ∧
    exec (.geoCheck m v) s = w 0xE0108 v ∧
    exec (.resDataAccess m (.write v)) s = w 0xF0104 v ∧
    (∀ c, bit v 29 = true → exec (.indexArm m c v) s = w (0xC0108 + 0x80 * c.val) v) ∧
    (∀ c, exec (.posChannelConfig m c v) s = w (0xC0100 + 0x80 * c.val) v) ∧
    (∀ k, bit v 31 = true → exec (.milestoneArm m k v) s = w (0xD0100 + 0x20 * k.val) v) ∧
    (∀ k, bit v 31 = false → exec (.milestoneDisarm m k v) s = w (0xD0100 + 0x20 * k.val) v) ∧
    (∀ k, exec (.milestoneCmpCommit m k v) s = w (0xD0108 + 0x20 * k.val) v) ∧
    exec (.nozzleRequest m v) s = w 0x100054 v ∧
    (∀ g, exec (.gateStart m g) s = w (0x110128 + 0x40 * g.val) 1) ∧
    (∀ g, exec (.gateAbortCmd m g) s = w (0x110128 + 0x40 * g.val) 2) ∧
    (∀ p, bit v 1 = true → exec (.gulRetrain m p v) s = w (0x121034 + 0x40 * p.val) v) ∧
    (∀ p, bit v 1 = false → exec (.gulPortClr m p v) s = w (0x121034 + 0x40 * p.val) v) ∧
    exec (.hostCfgAccess m v) s = w 0x120018 v ∧
    exec (.eyeScanStart m v) s = w 0x120044 v ∧
    (∀ c, exec (.recordRelease m c v) s = w (0x151010 + 0x40 * c.val) v) ∧
    exec (.memVerifyCmd m v) s = w 0x7000C v ∧
    (∀ a, exec (.axisTargetWrite m a v) s = w (0x160124 + 0x80 * a.val) v) ∧
    (∀ a, exec (.axisVtargetWrite m a v) s = w (0x160128 + 0x80 * a.val) v) ∧
    (∀ a, exec (.axisModeWrite m a v) s = w (0x16012C + 0x80 * a.val) v) ∧
    (∀ a, exec (.axisSetpos m a v) s = w (0x160154 + 0x80 * a.val) v) ∧
    (∀ a, exec (.axisGearSchedule m a v) s = w (0x160144 + 0x80 * a.val) v) ∧
    exec (.axisTableAccess m (.write v)) s = w 0x160004 v ∧
    exec (.lampSwapRequest m v) s = w 0x170008 v ∧
    (∀ c, exec (.lbusCfgWrite m c v) s = w (0x170210 + 0x20 * c.val) v) ∧
    exec (.lampZoneAccess m (.write v)) s = w 0x170014 v ∧
    exec (.lampUtblAccess m (.write v)) s = w 0x170104 v ∧
    exec (.domainSelect m v) s = w 0x30000 v ∧
    exec (.calForce m v) s = w 0x190010 v ∧
    exec (.faultAck m v) s = w 0x1A0010 v ∧
    exec (.faultAckAll m v) s = w 0x1A0014 v ∧
    exec (.latchClear m v) s = w 0x1A0018 v ∧
    exec (.errClr m v) s = w 0x1A001C v ∧
    (∀ k : BitVec 16, exec (.captureStart m k) s = w 0x1B0000 (0x80000000 ||| k.setWidth 32)) ∧
    exec (.captureClear m) s = w 0x1B0000 0x40000000 ∧
    exec (.towCntClr m v) s = w 0x50020 v ∧ exec (.cmpCntClr m v) s = w 0xB0020 v ∧ exec (.strCntClr m v) s = w 0xA0030 v ∧
    exec (.firCntClr m v) s = w 0xE0020 v ∧ exec (.nzlCntClr m v) s = w 0x100070 v ∧
    (∀ p, exec (.camPortClr m p v) s = w (0x13011C + 0x40 * p.val) v) ∧
    (∀ c, exec (.insCtxClr m c v) s = w (0x151020 + 0x40 * c.val) v) ∧
    exec (.memCntClr m v) s = w 0x70040 v ∧ (∀ b, exec (.bnkClr m b v) s = w (0x8011C + 0x40 * b.val) v) ∧
    exec (.arbClr m v) s = w 0x90000 v ∧ (∀ p, exec (.netPortClr m p v) s = w (0x20134 + 0x80 * p.val) v) ∧
    (∀ d, exec (.ptpDomClr m d v) s = w (0x3014C + 0x80 * d.val) v) ∧ exec (.mgtCntClr m v) s = w 0x40018 v ∧
    exec (.parCntClr m v) s = w 0x180034 v

/-! Commands that are writes of registers: what each does. -/

/-- The clear commands set exactly the counters of their own block to 0 when bit 0 of the value is 1, and do nothing else; with bit 0 at 0
they do nothing (R111, R132, R159, R211, R238, R329 to R331, R404 to R406, R438). -/
def Obligations.CounterClears : Prop :=
  ∀ (m : Master) (v : Word) (s : State), reaches m s = true → s.settled = true →
    let o := accessed m .ok v s
    let on := bit v 0 = true
    (exec (.towCntClr m v) s = .next { s with outbox := o, tow := if on then { s.tow with cntRx := 0, cntDup := 0, cntNak := 0, cntDrop := 0 } else s.tow }) ∧
    (exec (.cmpCntClr m v) s = .next { s with
      outbox := o
      cmp := if on then { s.cmp with cntBlk := 0, cntRaw := 0, inBytes := 0, outBytes := 0, decCnt := Vector.replicate 8 0, lastValid := false } else s.cmp }) ∧
    (exec (.strCntClr m v) s = .next { s with
      outbox := o, str := if on then { s.str with cntUnder := 0, cntPanic := 0, cntMigr := 0, cntDisc := 0 } else s.str }) ∧
    (exec (.firCntClr m v) s = .next { s with
      outbox := o
      fir := if on then { s.fir with cntSkip := 0, cntNull := 0, cntLate := 0, cntLLate := 0, ports := s.fir.ports.map (fun p => { p with lagMax := 0 }) }
        else s.fir }) ∧
    (exec (.nzlCntClr m v) s = .next { s with outbox := o, nzl := if on then { s.nzl with cntDetour := 0, cntLost := 0, cntLate := 0 } else s.nzl }) ∧
    (exec (.memCntClr m v) s = .next { s with
      outbox := o
      mem := if on then { s.mem with cntCe := 0, cntHaz := 0, cntPanic := 0, chans := s.mem.chans.map (fun c => { c with ce := 0 }) } else s.mem }) ∧
    (∀ b : Bank, exec (.bnkClr m b v) s = .next { s with
      outbox := o
      mem := if on then { s.mem with banks := vmod s.mem.banks b (fun k => { k with conf := Vector.replicate 4 0, ce := 0, align := 0 }) } else s.mem }) ∧
    (exec (.arbClr m v) s = .next { s with
      outbox := o
      mem := if on then { s.mem with arbs := s.mem.arbs.map (fun a => { a with reqs := a.reqs.map (fun q => { q with grants := 0, urg := 0 }) }) } else s.mem }) ∧
    (exec (.mgtCntClr m v) s = .next { s with
      outbox := o
      mgt := if on then { s.mgt with cntFormat := 0, cntAuth := 0, cntReplay := 0, cntStale := 0, cntReq := 0 } else s.mgt }) ∧
    (exec (.parCntClr m v) s = .next { s with
      outbox := o
      par := if on then { s.par with cntResend := 0, cntCrc := 0, cntResync := 0, cntTMiss := 0, cntNMiss := 0 } else s.par }) ∧
    (∀ n : NetPort, exec (.netPortClr m n v) s = .next { s with
      outbox := o
      net := if on then vmod s.net n (fun p => { p with
          rxCnt := 0, txCnt := 0, drop := Vector.replicate 4 0, fecCorr := 0, fecUnc := 0, unres := 0, echoOver := 0 }) else s.net }) ∧
    (∀ d : Dom, exec (.ptpDomClr m d v) s = .next { s with
      outbox := o
      ptp := if on then { s.ptp with doms := vmod s.ptp.doms d (fun k => { k with cntSync := 0, cntIgn := 0, cntStep := 0 }) } else s.ptp }) ∧
    (∀ p : Fin 4, exec (.camPortClr m p v) s = .next { s with
      outbox := o
      insp := if on then { s.insp with ports := vmod s.insp.ports p (fun q => { q with
          hdrCorr := 0, hdrUnc := 0, crcErr := 0, lenErr := 0, ign := 0, bufMax := 0, lost := 0 }) } else s.insp }) ∧
    (∀ c : Ctx, exec (.insCtxClr m c v) s = .next { s with
      outbox := o, insp := if on then { s.insp with ctxs := vmod s.insp.ctxs c (fun k => { k with dropped := 0, reports := 0 }) } else s.insp }) ∧
    (exec (.errClr m v) s = .next { s with
      outbox := o, err := if on then { s.err with nest := 0, sec := 0, supp := Vector.replicate 29 0 } else s.err }) ∧
    (exec (.paceClr m v) s = .next { s with outbox := o, sys := if on then { s.sys with paceMin := Vector.replicate 32 0xFFFF } else s.sys }) ∧
    (∀ p : Port, bit v 1 = false → exec (.gulPortClr m p v) s = .next { s with
      outbox := o
      gul := if on then { s.gul with ports := vmod s.gul.ports p (fun h => { h with
          codeErr := 0, rxCrc := 0, rxOther := 0, headMiss := 0, headDisc := 0, losses := 0, slips := 0 }) } else s.gul })

/-- Acknowledging and clearing in the error logger: ERR_ACK ends the handling of the Fault with that SEQ, ERR_ACK_ALL with bit 0 of every
Fault; a latch clears only while no error of its class is being handled, and is refused else, with no latch changed but that of Notices,
which the refusal's own entry may take (R485, R487, R504, R511). -/
def Obligations.ErrorAcknowledgement : Prop :=
  ∀ (m : Master) (v : Word) (s : State), reaches m s = true → s.settled = true →
    (exec (.faultAck m v) s = .next { s with
      outbox := accessed m .ok v s, err := { s.err with faults := s.err.faults.filter (fun f => f.seq != v.toNat) } }) ∧
    (exec (.faultAckAll m v) s = .next { s with
      outbox := accessed m .ok v s, err := if bit v 0 = true then { s.err with faults := [] } else s.err }) ∧
    ((∀ c : Fin 4, bit v c = true → clsHandled s c = false) → gives (.latchClear m v) s (fun t =>
      (∀ c : Fin 4, vget t.err.latches c none = if bit v c = true then none else vget s.err.latches c none) ∧
      t.err.ring = s.err.ring ∧ t.err.faults = s.err.faults ∧ t.outbox = accessed m .ok v s ∧ keepsBut [.err] s t)) ∧
    ((∃ c : Fin 4, bit v c = true ∧ clsHandled s c = true) → gives (.latchClear m v) s (fun t =>
      t.outbox = accessed m .refused v s ∧ keepsBut [.err, .mgt] s t ∧
      t.err.faults = s.err.faults ∧ ∀ c : Fin 4, c.val ≠ 0 → vget t.err.latches c none = vget s.err.latches c none))

/-- OTP commands: a write of 0xA5C3 to CFG_OTP_UNLOCK opens the next CFG_OTP_CMD, any other value shuts it; in Ready and open, with no
command under way, OTP_PROGRAM blows an unprogrammed slot's bit with the digest staged, OTP_REVOKE revokes a programmed slot, OTP_PIN
pins when some programmed slot is not revoked; each makes BUSY and shuts the lock again. Refused, it blows nothing (R478). -/
def Obligations.OtpCommands : Prop :=
  ∀ (m : Master) (v : Word) (k : Fin 8) (s : State), reaches m s = true → s.settled = true →
    let ready := s.sys.st = .ready ∧ s.cfg.otpOpen = true ∧ s.cfg.otpBusy = false
    let digest := (List.range 8).flatMap (fun i => leBytes 4 (regVal s (base 1 + 0xA0 + 4 * i)).toNat)
    gives (.otpUnlock m v) s (fun t => t.cfg = { s.cfg with otpOpen := decide (v = 0xA5C3) } ∧ t.outbox = accessed m .ok v s ∧ keepsBut [.cfg] s t) ∧
    (ready → s.cfg.otpProg.getLsbD k = false → gives (.otpProgram m k) s (fun t =>
      t.cfg.otpProg = s.cfg.otpProg ||| BitVec.ofNat 8 (2 ^ k.val) ∧ t.cfg.otpRev = s.cfg.otpRev ∧ t.cfg.otpPin = s.cfg.otpPin ∧
      (k.val, digest) ∈ t.cfg.otpDigests ∧ t.cfg.otpBusy = true ∧ t.cfg.otpOpen = false ∧ keepsBut [.cfg] s t)) ∧
    (ready → s.cfg.otpProg.getLsbD k = true → gives (.otpRevoke m k) s (fun t =>
      t.cfg.otpRev = s.cfg.otpRev ||| BitVec.ofNat 8 (2 ^ k.val) ∧ t.cfg.otpProg = s.cfg.otpProg ∧ t.cfg.otpPin = s.cfg.otpPin ∧
      t.cfg.otpBusy = true ∧ t.cfg.otpOpen = false ∧ keepsBut [.cfg] s t)) ∧
    (ready → s.cfg.otpProg &&& ~~~ s.cfg.otpRev ≠ 0 → gives (.otpPin m) s (fun t =>
      t.cfg.otpPin = true ∧ t.cfg.otpProg = s.cfg.otpProg ∧ t.cfg.otpRev = s.cfg.otpRev ∧ t.cfg.otpBusy = true ∧ t.cfg.otpOpen = false ∧
      keepsBut [.cfg] s t)) ∧
    (¬ ready → ∀ c, c = .otpProgram m k ∨ c = .otpRevoke m k ∨ c = .otpPin m → gives c s (fun t =>
      t.cfg = { s.cfg with otpOpen := false } ∧ keepsBut [.cfg, .err, .mgt] s t)) ∧
    (s.cfg.otpBusy = true → gives .otpDone s (fun t => t.cfg = { s.cfg with otpBusy := false } ∧ keepsBut [.cfg, .err] s t))

/-- Knot requests. In start-up and on a standby every one is refused (R30, R417). Else a request is refused while one is pending, and taken
when none is: one for now waits for the lowest trigger beyond the high-water mark, or is due at once without a grid (on the active chip
of a pair it becomes a request for the road count of the line the lead ahead); one for a road count or for a milestone waits for it, and is withdrawn
when that is behind or the milestone STALE (R26, R30, R31, R518). Cancel withdraws what still waits; with nothing pending it is answered
OK, and an immediate request cannot be cancelled (R29). -/
def Obligations.KnotRequests : Prop :=
  ∀ (m : Master) (n : Ms) (s : State), reaches m s = true → s.settled = true →
    let req := fun (c : Instr) => c = .knotImmediate m ∨ c = .knotMilestone m n ∨ c = .knotRoadCount m
    let denied := fun (t : State) => keepsBut [.err, .mgt] s t ∧ ∃ v, t.outbox = accessed m .refused v s
    let rc := sgn 48 ((regVal s 0x104).toNat + 2 ^ 32 * bits (regVal s 0x108) 15 0)
    let behind := fun (x : Int) => 0 < geoDir s.fir.geo * rcDiff (road s) x
    let free := s.sys.st ≠ .verifying ∧ isStandby s = false
    let none_ := free ∧ s.sys.pendingKnot = none
    (¬ free → ∀ c, req c ∨ c = .knotCancel m → gives c s denied) ∧
    (free → s.sys.pendingKnot.isSome = true → ∀ c, req c → gives c s denied) ∧
    (none_ → s.fir.grid = none → gives (.knotImmediate m) s (fun t =>
      t.sys = { s.sys with pendingKnot := some .immediate, pendingPos := none } ∧ keepsBut [.sys, .par] s t)) ∧
    (none_ → ∀ g l, s.fir.grid = some g → nextLc s (refPort s) = some l → isActive s = false → gives (.knotImmediate m) s (fun t =>
      t.sys.pendingKnot = some .immediate ∧ t.sys.pendingPos = some (immediatePos s g) ∧ t.sys.epoch = s.sys.epoch ∧ keepsBut [.sys] s t)) ∧
    (none_ → ∀ g l, s.fir.grid = some g → nextLc s (refPort s) = some l → isActive s = true →
      let x := knotRoad (geoDir s.fir.geo) (trOf s.fir.geo g (refPort s) ((firPort s (refPort s)).kr + knotLead s))
      ¬ behind x → gives (.knotImmediate m) s (fun t =>
        t.sys.pendingKnot = some (.roadCount x) ∧ t.sys.pendingPos = some (x * 65536) ∧ keepsBut [.sys, .par] s t)) ∧
    (none_ → behind rc → gives (.knotRoadCount m) s (fun t => keepsBut [.err, .mgt] s t ∧ t.outbox = accessed m .ok 0x80000000 s)) ∧
    (none_ → ¬ behind rc → gives (.knotRoadCount m) s (fun t =>
      t.sys.pendingKnot = some (.roadCount rc) ∧ t.sys.pendingPos = some (rc * 65536) ∧ t.sys.epoch = s.sys.epoch ∧ keepsBut [.sys, .par] s t)) ∧
    (none_ → (milestone s n).stale = true → bit (msReg s n 0) 29 = false → gives (.knotMilestone m n) s (fun t => keepsBut [.err, .mgt] s t)) ∧
    (none_ → (milestone s n).stale = false → gives (.knotMilestone m n) s (fun t =>
      t.sys = { s.sys with pendingKnot := some (.milestone n), pendingPos := none } ∧ keepsBut [.sys, .par] s t)) ∧
    (none_ → (milestone s n).stale = true → bit (msReg s n 0) 29 = true → gives (.knotMilestone m n) s (fun t =>
      t.sys = { s.sys with pendingKnot := some (.milestone n), pendingPos := none, knotDue := some (road s * 65536) } ∧ keepsBut [.sys, .par] s t)) ∧
    (none_ → gives (.knotCancel m) s (fun t => t.outbox = accessed m .ok 0xC0000000 s ∧ keepsBut [.err, .mgt] s t)) ∧
    (free → s.sys.pendingKnot = some .immediate → gives (.knotCancel m) s denied) ∧
    (free → (∃ k, s.sys.pendingKnot = some (.milestone k)) ∨ (∃ x, s.sys.pendingKnot = some (.roadCount x)) → gives (.knotCancel m) s (fun t =>
      t.sys = { s.sys with pendingKnot := none, pendingPos := none, knotDue := none } ∧ keepsBut [.sys, .par] s t))

/-- Only one knot request can be pending at a time. A second request is refused with a Notice KNOT_BUSY and the pending one stays as it is;
Cancel withdraws a pending milestone or road-count request; with none pending it is a Notice and nothing else; a pending immediate
request cannot be cancelled (R29). -/
def Obligations.OneKnotRequest : Prop :=
  ∀ (m : Master) (n : Ms) (s : State), reaches m s = true → s.settled = true → s.sys.st ≠ .verifying → isStandby s = false → s.err.fatalHeld = false →
    let noted := fun (code : Nat) (t : State) => ∃ e ∈ t.err.ring, e.seq = nextSeq s.err.head ∧ e.cls = .notice ∧ e.code = code
    let busy := fun (t : State) => keepsBut [.err, .mgt] s t ∧ (∃ v, t.outbox = accessed m .refused v s) ∧ noted Err.knotBusy t
    (∀ c, c = .knotImmediate m ∨ c = .knotMilestone m n ∨ c = .knotRoadCount m → s.sys.pendingKnot.isSome = true → gives c s busy) ∧
    ((∃ k, s.sys.pendingKnot = some (.milestone k)) ∨ (∃ x, s.sys.pendingKnot = some (.roadCount x)) → gives (.knotCancel m) s (fun t =>
      t.sys = { s.sys with pendingKnot := none, pendingPos := none, knotDue := none } ∧ keepsBut [.sys, .par] s t)) ∧
    (s.sys.pendingKnot = none → gives (.knotCancel m) s (fun t => keepsBut [.err, .mgt] s t ∧ noted Err.knotNone t)) ∧
    (s.sys.pendingKnot = some .immediate → gives (.knotCancel m) s (fun t => t.sys.pendingKnot = some .immediate ∧ busy t))

/-! Registers whose read captures, and the registers of position and of the milestones. -/

/-- Reads that capture: each answers the low word of what it names and holds the rest for the reads that follow, and changes nothing else; a
read of NZL_JRN_HI takes the oldest record out of the journal, and one of NZL_JRN_LO nothing (R186, R187, R212, R237, R382, R505,
R514, R518). -/
def Obligations.CapturingReads : Prop :=
  ∀ (m : Master) (s : State), reaches m s = true → s.settled = true →
    let o := fun (v : Word) => accessed m .ok v s
    let oldest := match s.nzl.journal with | r :: _ => r.toNat | [] => 0
    let entry0 := fun (e : Option LogEntry) => match e with | some x => entryWord x 0 | none => (0 : Word)
    let held := fun (key : Nat) (e : Option LogEntry) =>
      { s.err with snaps := match e with | some x => (key, x) :: s.err.snaps.filter (fun y => y.1 != key) | none => s.err.snaps.filter (fun y => y.1 != key) }
    (∀ c : Enc, exec (.posSnapshot m c) s = .next { s with
      outbox := o (loWord (enc s c).rc)
      pos := { s.pos with ch := vmod s.pos.ch c (fun e => { e with
        snapRc := e.rc, snapHwm := if c.val = printCh s then s.pos.hwm else 0, snapV := velOf e, snapA := accOf e }) } }) ∧
    (∀ i : Ms, exec (.milestoneCmpRead m i) s = .next { s with
      outbox := o (loWord (milestone s i).cmp), mil := { s.mil with ms := vmod s.mil.ms i (fun x => { x with cmpHiLatch := hiWord x.cmp }) } }) ∧
    (∀ i : Ms, exec (.milestoneHitRead m i) s = .next { s with
      outbox := o (loWord (milestone s i).hit), mil := { s.mil with ms := vmod s.mil.ms i (fun x => { x with hitHiLatch := hiWord x.hit }) } }) ∧
    (∀ n : Fin 2, exec (.syncCaptureRead m n) s = .next { s with
      outbox := o (loWord (vget s.mil.sync n ⟨0, 0, false⟩).cap)
      mil := { s.mil with sync := vmod s.mil.sync n (fun x => { x with hiLatch := hiWord x.cap, unread := false }) } }) ∧
    (exec (.journalReadLo m) s = .next { s with outbox := o (w32 oldest) }) ∧
    (exec (.journalReadHi m) s = .next { s with
      outbox := o (w32 (oldest / 2 ^ 32)), nzl := { s.nzl with journal := s.nzl.journal.drop 1 } }) ∧
    (∀ d : Dom, exec (.ptpSnapshot m (.dom d)) s = .next { s with
      outbox := o (timeWord (dom s d).t 0), ptp := { s.ptp with doms := vmod s.ptp.doms d (fun x => { x with snap := x.t }) } }) ∧
    (exec (.ptpSnapshot m .device) s = .next { s with
      outbox := o (timeWord (devTime s) 0), ptp := { s.ptp with snap := devTime s } }) ∧
    (∀ c : Fin 4, exec (.logEntryRead m (.latch c)) s = .next { s with
      outbox := o (entry0 (vget s.err.latches c none)), err := held c (vget s.err.latches c none) }) ∧
    (∀ n : Fin 256, exec (.logEntryRead m (.slot n)) s = .next { s with
      outbox := o (entry0 (ringSlot s.err n)), err := held (4 + n) (ringSlot s.err n) }) ∧
    (exec (.knotEpochRead m) s = .next { s with outbox := o s.sys.epoch, sys := { s.sys with posSnap := s.sys.knotPos } }) ∧
    (∀ p : Port, exec (.fireLcSnapshot m p) s = .next { s with
      outbox := o (w32 (firPort s p).lastLc)
      fir := { s.fir with ports := vmod s.fir.ports p (fun f => { f with snapLc := f.lastLc, snapTf := f.lastTf }) } })

/-- Writes to the registers of position and of the milestones: an accepted one is stored; ARM of POS_CHn_IDX arms at once; a change of MODE, or
EN from 0 to 1, restarts the channel with its observer, its direction state and its turning point, in A/B mode at count 0, in SSI mode at the
count it holds and with the first word to come; what a write puts into effect at the next position sample waits for it, in
its order (R171, R173, R175, R180, R185, R187; log 113). A refused one changes no register (R511), and while KEEP_RESET_N holds the two blocks at
reset no write does (R162). -/
def Obligations.PositionRegisters : Prop :=
  ∀ (m : Master) (c : Enc) (i : Ms) (v n : Word) (s : State), reaches m s = true → s.settled = true → s.canon = true →
    let o := accessed m .ok v s
    let waits := fun (a x : Nat) => s.pos.waiting ++ [(a, x)]
    let old := regVal s (posAddr c 0)
    let begun := fun (n : Int) (b : Bool) (e : EncChan) => { e with
      ssiPrev := none, ssiBusy := false, ssiBad := 0, ssiMeas := none, rc := n, x := sgn 64 (n * 65536), v := 0, a := 0, rev := false, turn := n
      started := b }
    let denied := fun (t : State) => t.outbox = accessed m .refused v s ∧ keepsBut [.err, .mgt] s t
    let arms := fun (k : Instr) => k = .milestoneArm m i v ∧ bit v 31 = true ∨ k = .milestoneDisarm m i v ∧ bit v 31 = false
    (s.pos.keepReset = true → ∀ k, (k = .indexArm m c v ∧ bit v 29 = true) ∨ k = .posChannelConfig m c v ∨ arms k ∨ k = .milestoneCmpCommit m i v →
      exec k s = .next { s with outbox := o }) ∧
    (s.pos.keepReset = false →
    (bit v 29 = true → stores (posAddr c 8) v s = some n → exec (.indexArm m c v) s = .next { setReg (posAddr c 8) n s with
      outbox := o
      pos := { s.pos with ch := vmod s.pos.ch c (fun e => { e with armed := true }), waiting := waits (posAddr c 8) n.toNat } }) ∧
    (stores (posAddr c 0) v s = some n → exec (.posChannelConfig m c v) s = .next { setReg (posAddr c 0) n s with
      outbox := o
      pos := if bit old 30 ≠ bit n 30 ∨ (bit old 31 = false ∧ bit n 31 = true) then
          { s.pos with ch := vmod s.pos.ch c (if bit n 30 = true then begun (enc s c).rc false else begun 0 true) }
        else s.pos }) ∧
    (stores (msAddr i 0) v s = some n → ∀ k, arms k →
      exec k s = .next { setReg (msAddr i 0) n s with outbox := o, pos := { s.pos with waiting := waits (msAddr i 0) v.toNat } }) ∧
    (exec (.milestoneCmpCommit m i v) s = .next { s with
      outbox := o, pos := { s.pos with waiting := waits (msAddr i 8) (bits v 15 0 * 2 ^ 32 + (milestone s i).cmpLo.toNat) } }) ∧
    (bit v 29 = true → stores (posAddr c 8) v s = none → gives (.indexArm m c v) s denied) ∧
    (stores (posAddr c 0) v s = none → gives (.posChannelConfig m c v) s denied) ∧
    (stores (msAddr i 0) v s = none → ∀ k, arms k → gives k s denied))

/-! The head links and the tether's lanes. -/

/-- A lane trains: an attempt leaves DETECT's wait with the fast-exit burst, a burst detected takes it to POLL (a blind port goes there at its grid
point), eight training sets of its own RATE to LOCK with the polarity of the first valid comma, and LOCK, after eight TS2, sixteen TS2 sent
and the receiver settled, to EXCHANGE, where a head port begins with a read of the module's capabilities (R243 to R245, R248 to
R251, R254, R422). The symbols that the lane sends, with its RATE and TXINV, are an output (log 3). -/
def Obligations.LanesTrain : Prop :=
  ∀ (p : Port) (l : Fin 2) (seen : PollSeen) (k : LockSeen) (s : State), s.settled = true → awake s = true →
    let hd := fun (f : GulPort → GulPort) (o : List Sym) =>
      { s with outbox := s.outbox ++ [laneOut s p o], gul := { s.gul with ports := vmod s.gul.ports p f } }
    let ln := fun (f : TethLane → TethLane) (o : List Sym) =>
      { s with outbox := s.outbox ++ [laneOut s (64 + l) o], par := { s.par with lanes := vmod s.par.lanes l f } }
    let h := headPort s p
    let t := teth s l
    (h.st = .detect → h.waiting = true → exec (.linkAttempt (.head p)) s = .next (
      if bit (gulCtl s p) 30 = true then hd (fun h => { h with waiting := false, st := .poll }) (trainSet s p false)
      else hd (fun h => { h with waiting := false, st := .detect }) (fastExit s p))) ∧
    (t.st = .detect → t.waiting = true → exec (.linkAttempt (.tether l)) s = .next (
      ln (fun t => { t with waiting := false }) (fastExit s (64 + l)))) ∧
    (h.st = .detect → h.waiting = false → exec (.linkSignalDetect (.head p)) s = .next (hd (fun h => { h with st := .poll }) (trainSet s p false))) ∧
    (t.st = .detect → t.waiting = false → exec (.linkSignalDetect (.tether l)) s = .next (
      ln (fun t => { t with st := .poll }) (trainSet s (64 + l) false))) ∧
    (h.st = .poll → pollMet s (.head p) seen = true → exec (.linkPollDone (.head p) seen) s = .next (
      hd (fun h => { h with st := .lock, rxInv := seen.inverted, scr := 0xFFFF }) (trainSet s p true))) ∧
    (t.st = .poll → pollMet s (.tether l) seen = true → exec (.linkPollDone (.tether l) seen) s = .next (
      ln (fun t => { t with st := .lock, rxInv := seen.inverted, scr := 0xFFFF }) (trainSet s (64 + l) true))) ∧
    (∀ a, pollMet s a seen = false → exec (.linkPollDone a seen) s = .fault (.cannotOccur "LINK_POLL_DONE")) ∧
    (∀ a, lockMet k = false → exec (.linkLockDone a k) s = .fault (.cannotOccur "LINK_LOCK_DONE")) ∧
    (lockMet k = true →
    (h.st = .lock → exec (.linkLockDone (.head p) k) s = .next (
      hd (fun h => { h with
          st := .exchange, step := 1, txSeq := 1, rxSeq := 0, recheck := false, frozen := false
          cfg := some ⟨0, false, 0, 16, [], 0, false⟩, cfgDue := false })
        (frameSyms (gulFrame 3 0 0 [0, 0, 16, 0])))) ∧
    (t.st = .lock → (teth s (1 - l)).st ≠ .active → exec (.linkLockDone (.tether l) k) s = .next {
      s with par := { s.par with lanes := vmod s.par.lanes l (fun t => { t with st := .active, frozen := false }) } }) ∧
    (t.st = .lock → (teth s (1 - l)).st = .active → 32 < k.skew.natAbs → exec (.linkLockDone (.tether l) k) s = .next {
      s with par := { s.par with lanes := vmod s.par.lanes l (fun t => { t with st := .active, frozen := false }) } }) ∧
    (t.st = .lock → (teth s (1 - l)).st = .active → k.skew.natAbs ≤ 32 → exec (.linkLockDone (.tether l) k) s = .next { s with
      outbox := s.outbox ++ s.par.unacked.map (fun m => tethOut (tethFrame (byteAt m.2.2 0) m.1 (m.2.2.drop 1)))
      par := { s.par with
        lanes := vmod s.par.lanes l (fun t => { t with st := .active, frozen := false })
        tethUp := true, skew := k.skew, cntResend := s.par.cntResend + BitVec.ofNat 32 s.par.unacked.length } }))

/-- A lane falls back: a timeout or a burst of idle while it trains takes it to DETECT's wait, counts an attempt of a head port as failed with
its reason, and shows the port absent at the sixteenth failure in a row (R248, R249, R253, R422); an ACTIVE head port is lost, with the reason
7, or 8 for a retrain, by idle, a training set, 32 code errors within a window, a STATUS that fails to come, and a retrain (R255); fewer code errors
are only counted (R276, log 21). No other port or lane changes state. -/
def Obligations.LanesFallBack : Prop :=
  ∀ (p : Port) (l : Fin 2) (s : State), s.settled = true → awake s = true →
    let others := fun (t : State) => (∀ q : Port, q ≠ p → (headPort t q).st = (headPort s q).st) ∧ t.par = s.par ∧ t.sys = s.sys
    let failed := fun (r : Nat) (t : State) => (headPort t p).st = .detect ∧ (headPort t p).waiting = true ∧ (headPort t p).reason = r ∧
      (headPort t p).fails = satAdd 8 (headPort s p).fails 1 ∧
      (headPort t p).absent = ((headPort s p).absent || decide (16 ≤ satAdd 8 (headPort s p).fails 1)) ∧ others t
    let lost := fun (r n : Nat) (t : State) => (headPort t p).st = .detect ∧ (headPort t p).waiting = true ∧ (headPort t p).reason = r ∧
      (headPort t p).fails = (if r = 8 then (headPort s p).fails else 1) ∧ (headPort t p).losses = satAdd 16 n 1 ∧ others t
    let laneBack := fun (t : State) => (teth t l).st = .detect ∧ (teth t l).waiting = true ∧ teth t (1 - l) = teth s (1 - l) ∧ keepsBut [.par] s t
    let st := (headPort s p).st
    (st = .detect → (headPort s p).waiting = false → gives (.linkTimeout (.head p)) s (failed 1)) ∧
    (st = .poll → gives (.linkTimeout (.head p)) s (failed 2)) ∧
    (st = .lock → gives (.linkTimeout (.head p)) s (failed 3)) ∧
    (st = .exchange → gives (.linkTimeout (.head p)) s (failed 4)) ∧
    (st = .poll ∨ st = .lock ∨ st = .exchange → gives (.linkIdleDetect (.head p)) s (failed 6)) ∧
    ((teth s l).st = .detect → (teth s l).waiting = false → gives (.linkTimeout (.tether l)) s laneBack) ∧
    ((teth s l).st = .poll ∨ (teth s l).st = .lock → gives (.linkTimeout (.tether l)) s laneBack ∧ gives (.linkIdleDetect (.tether l)) s laneBack) ∧
    (st = .active → gives (.linkIdleDetect (.head p)) s (lost 7 (headPort s p).losses) ∧ gives (.statusTimeout p) s (lost 7 (headPort s p).losses) ∧
      gives (.trainingSetInActive p) s (lost 7 (headPort s p).losses) ∧ (∀ n, 32 ≤ n → gives (.codeErrorBurst (p, n)) s (fun t =>
        lost 7 (headPort s p).losses t ∧ (headPort t p).codeErr = (headPort s p).codeErr + BitVec.ofNat 32 n)) ∧
      ∀ m v, reaches m s = true → bit v 1 = true → gives (.gulRetrain m p v) s (lost 8 (if bit v 0 = true then 0 else (headPort s p).losses))) ∧
    (∀ n, st ≠ .active ∨ n < 32 → exec (.codeErrorBurst (p, n)) s = .next { s with gul := { s.gul with
      ports := vmod s.gul.ports p (fun h => { h with codeErr := h.codeErr + BitVec.ofNat 32 n }) } })

/-- Frames of a module on a link that takes frames: a frame that R268 discards is counted with its reason, its code errors with it, and does nothing
else, and so is an ACK that answers no outstanding frame; a good one moves the expected sequence number on, and a gap is counted. A good ACK ends the outstanding CFG frame: a host access ends with its result (R274), the
capability read stores them and goes on with the setup write, that write leaves the port waiting for a STATUS, and any other RESULT ends
the attempt (R251, R264). A STATUS with state 2 takes a port at the end of EXCHANGE to ACTIVE and keeps an ACTIVE one there; a SENSE
is stored, and one with code 3 is a Fault HEAD_EVENT (R266 to R269). -/
def Obligations.ModuleFrames : Prop :=
  ∀ (p : Port) (f : Bytes) (s : State), s.settled = true → awake s = true → linkUp s p = true →
    let hd := fun (g : GulPort → GulPort) => { s with gul := { s.gul with ports := vmod s.gul.ports p g } }
    let seq := fun (h : GulPort) => { h with
      rxSeq := (leAt f 2 2 + 1) % 65536, rxOther := if leAt f 2 2 = h.rxSeq then h.rxOther else satAdd 16 h.rxOther 1 }
    let disc := fun (r : Nat) (h : GulPort) => { h with
      disc := h.disc + 1, lastDisc := r, rxCrc := if r = 1 then satAdd 16 h.rxCrc 1 else h.rxCrc
      rxOther := if r = 1 then h.rxOther else satAdd 16 h.rxOther 1 }
    let h := headPort s p
    let mine := fun (c : CfgReq) => gulIs 6 f = true ∧ h.cfg = some c ∧ c.seq = leAt f 6 2 ∧ h.cfgDue = false
    (∀ w, discStatic w f ≠ 0 → exec (.gulistFrameDiscard p w f) s = .next (
      hd (fun h => disc (discStatic w f) { h with codeErr := h.codeErr + BitVec.ofNat 32 w.errs }))) ∧
    (gulIs 6 f = true → (∀ c, h.cfg = some c → h.cfgDue = true ∨ c.seq ≠ leAt f 6 2) →
      exec (.gulistAck p f) s = .next (hd (disc 6)) ∧ ∀ w, discStatic w f = 0 → exec (.gulistFrameDiscard p w f) s = .next (hd (disc 6))) ∧
    (∀ c, mine c → c.host = true → c.write = true → exec (.gulistAck p f) s = .next { s with gul := { s.gul with
      ports := vmod s.gul.ports p (fun h => { seq h with cfg := none }), hcfgBusy := false
      hcfgAck := if byteAt f 8 ≤ 3 then byteAt f 8 else 3, hcfgResult := if byteAt f 8 = 0 then 0 else 1 } }) ∧
    (∀ c, mine c → c.host = true → c.write = false → byteAt f 8 = 0 → exec (.gulistAck p f) s = .next {
      setReg (base 18 + 0x14) (w32 (leAt f 10 4)) s with gul := { s.gul with
        ports := vmod s.gul.ports p (fun h => { seq h with cfg := none }), hcfgBusy := false, hcfgAck := 0, hcfgResult := 0 } }) ∧
    (∀ c, mine c → c.host = false → byteAt f 8 = 0 → h.step = 2 → exec (.gulistAck p f) s = .next (hd (fun h => { seq h with cfg := none, step := 3 }))) ∧
    (∀ c, mine c → c.host = false → byteAt f 8 = 0 → h.step = 1 → gives (.gulistAck p f) s (fun t =>
      let u := hd (fun h => { h with
        caps := (List.range (byteAt f 9)).map (fun i => w32 (leAt f (10 + 4 * i) 4)) })
      (capFits u p = true → (headPort t p).st = h.st ∧ (headPort t p).step = 2 ∧ (headPort t p).caps = (headPort u p).caps ∧
        (headPort t p).cfg = some ⟨h.txSeq, true, 0x10, 4, [w32 p, w32 h.nextSsn, 1, regVal s (base 18)], 0, false⟩ ∧ keepsBut [.gul] s t) ∧
      (capFits u p = false → (headPort t p).st = .detect ∧ (headPort t p).reason = 5 ∧ keepsBut [.gul, .fir, .mem, .err, .mgt] s t))) ∧
    (∀ c, mine c → c.host = false → byteAt f 8 ≠ 0 → gives (.gulistAck p f) s (fun t =>
      (headPort t p).st = .detect ∧ (headPort t p).reason = 4 ∧ keepsBut [.gul, .fir, .mem, .err, .mgt] s t)) ∧
    (gulIs 5 f = true → gives (.gulistSense p f) s (fun t =>
      t.gul = (hd (fun h => { seq h with sense0 := w32 (byteAt f 6 * 256 + byteAt f 7), sense1 := w32 (leAt f 10 4) })).gul ∧ keepsBut [.gul, .err, .mgt] s t ∧
      (byteAt f 6 = 3 → s.err.fatalHeld = false → mayLog s Err.headEvent p (ms 1) = true → logged .fault Err.headEvent s t))) ∧
    (gulIs 4 f = true → h.st = .active → byteAt f 6 = 2 →
      (∀ x, h.recent.find? (fun x => x.1 == leAt f 8 2) = some x → leAt f 10 5 = 2 ^ 40 - 1 ∨ leAt f 10 5 = x.2) →
      gives (.gulistStatusRx p f) s (fun t =>
        (headPort t p).st = .active ∧ (headPort t p).lastMiss = some (leAt f 18 4) ∧ (headPort t p).lastDiscM = some (leAt f 22 4) ∧
        (headPort t p).hstat = w32 (byteAt f 6 * 2 ^ 24 + byteAt f 7 * 2 ^ 16 + leAt f 8 2) ∧ keepsBut [.gul, .tow, .err, .mgt] s t)) ∧
    (gulIs 4 f = true → h.st = .exchange → h.step = 3 → h.recheck = false → byteAt f 6 = 2 → gives (.gulistStatusRx p f) s (fun t =>
      (headPort t p).st = .active ∧ (headPort t p).fails = 0 ∧ (headPort t p).absent = false ∧ (headPort t p).struckSsn = h.nextSsn ∧
      keepsBut [.gul, .tow, .nzl, .err, .mgt] s t))

/-- What keeps a link going: ALIGN, six bytes of the lane's scrambler, and the freeze of a lane's adaptation, their end and a realigned symbol, counted in
ACTIVE as a slip, a frame in progress discarded with CODE, or counted among the tether's bad frames (R243, R244, R246, R247; log 20); STATUS
on every ACTIVE port and no other, each under its next control sequence number (R257, R266), but behind the LINE frames that wait and before a CFG
frame that waits (R271); a CFG frame that no ACK answers goes out again, in the same order, three times and is then given up, which ends a host access
with NO_ACK (R264, R274). -/
def Obligations.LinkUpkeep : Prop :=
  ∀ (p : Port) (l : Fin 2) (y : ResumeSym) (s : State), s.settled = true → awake s = true →
    let hd := fun (f : GulPort → GulPort) => { s with gul := { s.gul with ports := vmod s.gul.ports p f } }
    let ln := fun (f : TethLane → TethLane) => { s with par := { s.par with lanes := vmod s.par.lanes l f } }
    let h := headPort s p
    let disc := fun (h : GulPort) => { h with disc := h.disc + 1, lastDisc := 2, rxOther := satAdd 16 h.rxOther 1 }
    let slip := fun (h : GulPort) => { h with slips := satAdd 16 h.slips 1 }
    let next := fun (q : Nat) => (q + 1) % 65536
    let waits := lineWaits s p
    let align := fun (x : BitVec 16) => [Sym.k 0xBC, .k 0x3C] ++ (scrBytes 6 x).1.map .d
    let cfgOf := fun (c : CfgReq) (q : Nat) => frameSyms (gulFrame (if c.write = true then 2 else 3) 0 q
      (leBytes 2 c.addr ++ leBytes 1 c.count ++ [0] ++ (if c.write = true then c.data.flatMap (fun w => leBytes 4 w.toNat) else [])))
    (linkUp s p = true → exec (.alignSend (.head p)) s = .next { hd (fun h => { h with scr := (scrBytes 6 h.scr).2 }) with
      outbox := s.outbox ++ [laneOut s p (align h.scr)] }) ∧
    ((teth s l).st = .active → exec (.alignSend (.tether l)) s = .next { ln (fun t => { t with scr := (scrBytes 6 t.scr).2 }) with
      outbox := s.outbox ++ [laneOut s (64 + l) (align (teth s l).scr)] }) ∧
    (linkUp s p = true → exec (.adaptFreeze (.head p)) s = .next (hd (fun h => { h with frozen := true }))) ∧
    ((teth s l).st = .active → exec (.adaptFreeze (.tether l)) s = .next (ln (fun t => { t with frozen := true }))) ∧
    (exec (.adaptationResume (.head p) y) s = .next (hd (fun h => { h with frozen := false }))) ∧
    (exec (.adaptationResume (.tether l) y) s = .next (ln (fun t => { t with frozen := false }))) ∧
    (exec (.symbolRealign (.head p, false)) s = .next (if h.st = .active then hd slip else s)) ∧
    (exec (.symbolRealign (.head p, true)) s = .next (
      if h.st = .active then hd (fun h => disc (slip h)) else if linkUp s p = true then hd disc else s)) ∧
    (∀ cut, exec (.symbolRealign (.tether l, cut)) s = .next (
      if cut = true ∧ s.par.tethUp = true then { s with par := { s.par with cntCrc := s.par.cntCrc + 1 } } else s)) ∧
    (h.st = .active → h.alignLogged = true → exec (.alignMissing p) s = .next s) ∧
    (h.st = .active → h.alignLogged = false → gives (.alignMissing p) s (fun t =>
      t.gul = (hd (fun h => { h with alignLogged := true })).gul ∧ keepsBut [.gul, .err, .mgt] s t ∧
      (s.err.fatalHeld = false → mayLog s Err.alignMissing p (ms 1) = true → logged .notice Err.alignMissing s t))) ∧
    (gives .statusSend s (fun t =>
      (∀ q : Port, let g := headPort s q
        headPort t q =
          if g.st ≠ .active then g
          else if lineWaits s q = true then { g with statDue := true }
          else match g.cfg with
            | some c =>
              if g.cfgDue = true then { g with
                statDue := false, txSeq := next (next g.txSeq), cfg := some { c with seq := next g.txSeq }, cfgDue := false }
              else { g with statDue := false, txSeq := next g.txSeq }
            | none => { g with statDue := false, txSeq := next g.txSeq }) ∧
      (∃ o, t.outbox = s.outbox ++ o ∧
        o.length = ((List.range 64).filter (fun q => decide ((headPort s q).st = .active) && !lineWaits s q)).length +
          ((List.range 64).filter (fun q => decide ((headPort s q).st = .active) && !lineWaits s q && (headPort s q).cfg.isSome &&
            (headPort s q).cfgDue)).length) ∧
      keepsBut [.gul] s t)) ∧
    (h.cfg = none ∨ h.cfgDue = true → exec (.cfgTimeout p) s = .fault (.cannotOccur "CFG_TIMEOUT")) ∧
    (∀ c, h.cfg = some c → h.cfgDue = false → c.tries < 3 → waits = true → exec (.cfgTimeout p) s = .next (
      hd (fun h => { h with cfg := some { c with tries := c.tries + 1 }, cfgDue := true }))) ∧
    (∀ c, h.cfg = some c → h.cfgDue = false → c.tries < 3 → waits = false → h.statDue = false → exec (.cfgTimeout p) s = .next {
      hd (fun h => { h with cfg := some { c with tries := c.tries + 1, seq := h.txSeq }, txSeq := next h.txSeq }) with
      outbox := s.outbox ++ [laneOut s p (cfgOf c h.txSeq)] }) ∧
    (∀ c, h.cfg = some c → h.cfgDue = false → c.tries < 3 → waits = false → h.statDue = true → gives (.cfgTimeout p) s (fun t =>
      t.gul = (hd (fun h => { h with
        cfg := some { c with tries := c.tries + 1, seq := next h.txSeq }, txSeq := next (next h.txSeq), statDue := false })).gul ∧
      (∃ x, t.outbox = s.outbox ++ [laneOut s p (frameSyms (gulFrame 4 0 h.txSeq x)), laneOut s p (cfgOf c (next h.txSeq))]) ∧
      keepsBut [.gul] s t)) ∧
    (∀ c, h.cfg = some c → h.cfgDue = false → 3 ≤ c.tries → exec (.cfgTimeout p) s = .next { s with gul := { s.gul with
      ports := vmod s.gul.ports p (fun h => { h with cfg := none })
      hcfgBusy := if c.host = true then false else s.gul.hcfgBusy, hcfgResult := if c.host = true then 2 else s.gul.hcfgResult } })

/-- Host access to a module and the eye scan: GUL_HCFG_GO starts an access to the register named on an ACTIVE port, whose frame waits behind the LINE
frames and a STATUS that wait (R271), ends at once with PORT_DOWN or
ADDR_RESERVED, and is refused with OVR while one runs; GUL_EYE_GO starts a scan of an ACTIVE port, and its end shows the errors and the bits
it took (R273, R274). With bit 0 at 0 they do nothing. -/
def Obligations.HostLinkAccess : Prop :=
  ∀ (m : Master) (v : Word) (n : Nat) (s : State), reaches m s = true → s.settled = true →
    let a := regVal s (base 18 + 0x10)
    let p := bits a 29 24
    let e := regVal s (base 18 + 0x40)
    let g := fun (x : GulState) => { s with outbox := accessed m .ok v s, gul := x }
    let go := bit v 0 = true
    (¬ go → exec (.hostCfgAccess m v) s = .next (g s.gul) ∧ exec (.eyeScanStart m v) s = .next (g s.gul)) ∧
    (go → s.gul.hcfgBusy = true → gives (.hostCfgAccess m v) s (fun t =>
      t.gul = { s.gul with hcfgOvr := true } ∧ t.outbox = accessed m .refused v s ∧ keepsBut [.gul, .err, .mgt] s t)) ∧
    (go → s.gul.hcfgBusy = false → (headPort s p).st ≠ .active → exec (.hostCfgAccess m v) s = .next (g { s.gul with hcfgOvr := false, hcfgBusy := false, hcfgResult := 3 })) ∧
    (go → s.gul.hcfgBusy = false → (headPort s p).st = .active → bits a 13 0 ≤ 0x3F →
      exec (.hostCfgAccess m v) s = .next (g { s.gul with hcfgOvr := false, hcfgBusy := false, hcfgResult := 4 })) ∧
    (go → s.gul.hcfgBusy = false → (headPort s p).st = .active → 0x3F < bits a 13 0 → gives (.hostCfgAccess m v) s (fun t =>
      t.gul.hcfgBusy = true ∧ t.gul.hcfgOvr = false ∧
      (∃ q, (headPort t p).cfg = some ⟨q, bit a 23, bits a 13 0, 1, [regVal s (base 18 + 0x14)], 0, true⟩ ∧
        (lineWaits s p = true → (headPort t p).cfgDue = true ∧ t.outbox = accessed m .ok v s) ∧
        (lineWaits s p = false → (headPort t p).cfgDue = false ∧
          q = if (headPort s p).statDue = true then ((headPort s p).txSeq + 1) % 65536 else (headPort s p).txSeq)) ∧ keepsBut [.gul] s t)) ∧
    (go → s.gul.eyePort.isSome = true → gives (.eyeScanStart m v) s (fun t =>
      t.gul = s.gul ∧ t.outbox = accessed m .refused v s ∧ keepsBut [.err, .mgt] s t)) ∧
    (go → s.gul.eyePort = none → exec (.eyeScanStart m v) s = .next (g (
      if (headPort s (bits e 29 24)).st = .active then
        { s.gul with eyePort := some (bits e 29 24), eyeAborted := false, eyeDwell := bits e 4 0, eyeErrs := 0, eyeBits := 0 }
      else { s.gul with eyeAborted := true }))) ∧
    (s.gul.eyePort.isSome = true → exec (.eyeScanDone n) s = .next { s with
      gul := { s.gul with eyePort := none, eyeErrs := min n 0xFFFFFFFF, eyeBits := 2 ^ s.gul.eyeDwell / 1024 } })

/-! Position: encoders, SSI, observers, milestones. -/

/-- ENCODER_EDGE: an enabled A/B channel whose pairs agree counts the step of the quadrature sequence A, A and B, B, neither, its count modulo 2^48,
the other way with INV; both levels changed at once count nothing, and are flagged and counted as a quadrature error. Any other channel only follows
its levels, which COPY passes on to its outputs (R178, log 130), and in reset nothing happens (R161, R164 to R167). WIRE_DISAGREE and WIRE_AGREE: a
pair's disagree is held, flagged, counted and a Fault, which ends with the disagree (R163, R485). ENC_LOST in Printing or Held is a Stop, which takes a chip that is no standby
to Stopped (R34, R163, R170). -/
def Obligations.EncoderInputs : Prop :=
  (∀ (c : Enc) (a b fast more : Bool) (s : State), s.settled = true →
      let e := enc s c
      let counts := encEn s c = true ∧ encSsi s c = false ∧ disagrees s c 0 = false ∧ disagrees s c 1 = false
      let both := e.lvA ≠ a ∧ e.lvB ≠ b
      let d := quadStep e.lvA e.lvB a b
      (quadStep false false true false = 1 ∧ quadStep true false true true = 1 ∧ quadStep true true false true = 1 ∧ quadStep false true false false = 1) ∧
      (∀ w x y z, quadStep w x y z = - quadStep y z w x) ∧
      (keepRuns s = false → gives (.encoderEdge c a b fast more) s (fun t => t.pos = s.pos ∧ t.mil = s.mil)) ∧
      (keepRuns s = true → ¬ counts → gives (.encoderEdge c a b fast more) s (fun t =>
        t.pos = { s.pos with ch := vmod s.pos.ch c (fun e => { e with lvA := a, lvB := b }) } ∧ t.mil = s.mil ∧
        t.outbox = s.outbox ++ (if bits (posReg s c 0x1C) 31 30 = 1 ∧ encSsi s c = false then [.ptStep c a b false] else []))) ∧
      (keepRuns s = true → counts → both → gives (.encoderEdge c a b fast more) s (fun t =>
        t.pos = { s.pos with ch := vmod s.pos.ch c (fun e => { e with
          lvA := a, lvB := b, stat := e.stat ||| 8, errCnt := vmod e.errCnt 0 (fun n => satAdd 8 n 1) }) })) ∧
      (keepRuns s = true → counts → ¬ both → gives (.encoderEdge c a b fast more) s (fun t =>
        (enc t c).rc = sgn 48 (e.rc + (if encInv s c = true then -d else d)) ∧ (enc t c).lvA = a ∧ (enc t c).lvB = b ∧
        ∀ q : Enc, q ≠ c → enc t q = enc s q))) ∧
  (∀ (c : Enc) (p : EncPair) (k : LostCause) (s : State), s.settled = true → s.sys.st ≠ .cold →
      let i := pairNo p
      let bad := fun (e : EncChan) => { e with disagree := e.disagree ||| BitVec.ofNat 3 (2 ^ i) }
      (keepRuns s = false ∨ disagrees s c i = true → exec (.wireDisagree c p) s = .next s) ∧
      (keepRuns s = true → disagrees s c i = false → gives (.wireDisagree c p) s (fun t =>
        t.pos = { s.pos with ch := vmod s.pos.ch c (fun e => { bad e with
          stat := e.stat ||| BitVec.ofNat 10 (2 ^ i), errCnt := vmod e.errCnt 3 (fun n => satAdd 8 n 1) }) } ∧
        (s.err.fatalHeld = false → logged .fault Err.encWire s t) ∧ keepsBut [.pos, .err, .mgt] s t)) ∧
      (disagrees s c i = false → exec (.wireAgree c p) s = .next s) ∧
      (disagrees s c i = true → exec (.wireAgree c p) s = .next { s with
        pos := { s.pos with ch := vmod s.pos.ch c (fun e => { e with
          disagree := e.disagree &&& ~~~ BitVec.ofNat 3 (2 ^ i)
          lostLogged := if i < 2 then e.lostLogged &&& ~~~ BitVec.ofNat 3 (2 ^ i) else e.lostLogged }) }
        err := { s.err with faults := s.err.faults.filter (fun f => !(f.code == Err.encWire && f.args.take 2 == [c.val, i])) } }) ∧
      (lostCan s k = true → gives (.encLost k) s (fun t =>
        t.pos = { s.pos with ch := vmod s.pos.ch (printCh s) (fun e => { e with lostLogged := e.lostLogged ||| BitVec.ofNat 3 (2 ^ lostBit k) }) } ∧
        (s.err.fatalHeld = false → logged .stop Err.encLost s t ∧ (isStandby s = false → t.sys.st = .stopped)))))

/-- INDEX: a rising edge of Z that mode and qualifier take measures the slip from the nearest expected count; within the window, or with
the window off, the count is corrected by it, and beyond it nothing moves and it is flagged (R171, R172). An edge not taken does nothing but
what COPY passes on (R178, log 130). -/
def Obligations.IndexMarks : Prop :=
  ∀ (c : Enc) (more : Bool) (s : State), s.settled = true → s.sys.st ≠ .cold →
    let e := enc s c
    let r := posLive s c 8
    let takes := keepRuns s = true ∧ encEn s c = true ∧ encSsi s c = false ∧ disagrees s c 2 = false ∧ indexQual s c = true ∧
      (bits r 31 30 = 1 ∨ (bits r 31 30 = 2 ∧ e.armed = true))
    let slip := rcDiff e.rc (indexExpect s c e.rc)
    let near := bits r 15 0 = 65535 ∨ slip.natAbs ≤ bits r 15 0
    (¬ takes → exec (.index c more) s = .next { s with outbox := s.outbox ++
      (if keepRuns s = true ∧ bits (posReg s c 0x1C) 31 30 = 1 ∧ encSsi s c = false then [.ptStep c e.lvA e.lvB true] else []) }) ∧
    (takes → near → gives (.index c more) s (fun t =>
      (enc t c).rc = sgn 48 (e.rc - slip) ∧ (enc t c).x = sgn 64 (e.x - slip * 65536) ∧ (enc t c).turn = sgn 48 (e.turn - slip) ∧
      (enc t c).slip = slip ∧ (enc t c).armed = (e.armed && decide (bits r 31 30 ≠ 2)) ∧
      t.pos.hwm = (if c.val = printCh s then sgn 48 (s.pos.hwm - slip) else s.pos.hwm) ∧ ∀ q : Enc, q ≠ c → enc t q = enc s q)) ∧
    (takes → ¬ near → gives (.index c more) s (fun t =>
      t.pos = { s.pos with ch := vmod s.pos.ch c (fun e => { e with slip := slip, stat := e.stat ||| 128 }) }))

/-- SSI: a frame starts while the data line is high, which takes the position, and is discarded while it is low; a frame under way ends in its word or,
when the line stays low too long, is discarded. A word of WIDTH bits with wrong parity is discarded; the first good one starts the count and the
observer at the word, a later one moves it by the signed difference or, beyond a quarter of the range or 65 535, is a Fault that leaves the
count; three frames in a row count as discarded together (R168 to R170, R173; log 79). The island runs in Cold too, where nothing is
logged (R161). -/
def Obligations.SsiFrames : Prop :=
  ∀ (c : Enc) (w : Word) (par : Bool) (s : State), s.settled = true →
    let e := enc s c
    let r := posReg s c 4
    let width := bits r 31 26
    let x := w.toNat % 2 ^ width
    let odd := ((List.range 32).filter (fun i => x.testBit i)).length % 2 == 1
    let y := if bit r 25 = true then fromGray x else x
    let signed := fun (v : Int) => if encInv s c = true then -v else v
    let upd := fun (f : EncChan → EncChan) => { s.pos with ch := vmod s.pos.ch c f }
    let logs := fun (code : Nat) (t : State) => s.sys.st ≠ .cold → s.err.fatalHeld = false → logged .fault code s t
    let bad := fun (e : EncChan) => { e with
      ssiBusy := false, ssiBad := e.ssiBad + 1, stat := e.stat ||| 32, errCnt := vmod e.errCnt 2 (fun n => satAdd 8 n 1) }
    let discards := fun (i : Instr) => gives i s (fun t => t.pos = upd bad ∧ keepsBut [.pos, .err, .mgt] s t ∧ logs Err.ssiErr t)
    let on := keepRuns s = true ∧ encEn s c = true ∧ encSsi s c = true
    let idle := on ∧ e.ssiBusy = false
    let busy := on ∧ e.ssiBusy = true
    (idle → gives (.ssiFrameStart c true) s (fun t =>
      t.pos = upd (fun e => { e with ssiBusy := true, ssiX := e.x }) ∧ t.outbox = s.outbox ∧ keepsBut [.pos, .err] s t ∧
      (s.sys.st ≠ .cold → t.err = s.err))) ∧
    (idle → discards (.ssiFrameStart c false)) ∧
    (¬ idle → ∀ high, exec (.ssiFrameStart c high) s = .fault (.cannotOccur "SSI_FRAME_START")) ∧
    (busy → discards (.ssiReleaseTimeout c)) ∧
    (¬ busy → exec (.ssiReleaseTimeout c) s = .fault (.cannotOccur "SSI_RELEASE_TIMEOUT") ∧ exec (.ssiWord c w par) s = .fault (.cannotOccur "SSI_WORD")) ∧
    (busy → bit r 24 = true → par ≠ odd → discards (.ssiWord c w par)) ∧
    (busy → (bit r 24 = true → par = odd) → gives (.ssiWord c w par) s (fun t =>
      (enc t c).ssiBusy = false ∧ (∀ q : Enc, q ≠ c → enc t q = enc s q) ∧
      (e.ssiPrev = none → (enc t c).rc = signed y ∧ (enc t c).started = true ∧ (enc t c).x = sgn 64 (signed y * 65536) ∧ (enc t c).v = 0 ∧
        (enc t c).a = 0 ∧ (enc t c).ssiPrev = some y ∧ (enc t c).ssiBad = 0) ∧
      ∀ p, e.ssiPrev = some p →
        let d := sgn width ((y : Int) - p)
        (d.natAbs ≤ min (2 ^ (width - 2)) 65535 → (enc t c).rc = sgn 48 (e.rc + signed d) ∧ (enc t c).ssiPrev = some y ∧ (enc t c).ssiBad = 0) ∧
        (min (2 ^ (width - 2)) 65535 < d.natAbs → (enc t c).rc = e.rc ∧ (enc t c).ssiPrev = e.ssiPrev ∧ (enc t c).ssiBad = e.ssiBad + 1 ∧
          (enc t c).errCnt = vmod e.errCnt 2 (fun n => satAdd 8 n 1) ∧ logs Err.ssiJump t)))

/-- OBSERVER_UPDATE: the writes that wait take effect first; then, on an enabled channel that counts, position, velocity and acceleration are
predicted and corrected by the three gains times the innovation, which is 0 while a pair disagrees and, for SSI, without a new word; beyond
8 counts it is flagged (R173, R174, R185). PT_SYNTH_STEP moves the output one count towards its target and its phase one step of the quadrature,
Z showing each multiple of ZPER; a target more than 16 counts ahead is flagged (R178). Both run while the island is out of reset, in Cold
too (R161). -/
def Obligations.ObserverAndSynth : Prop :=
  ∀ (c : Enc) (s : State), s.settled = true →
    let u := takeLive { s with outbox := [] }
    let e := enc u c
    let xp := e.x + (e.v >>> 24) + (e.a >>> 41)
    let inn : Int := if disagrees u c 0 = true ∨ disagrees u c 1 = true then 0 else if encSsi u c = true then e.ssiMeas.getD 0 else sgn 64 (e.rc * 65536 - xp)
    let k := fun (i : Nat) => obsGain i (bits (obsReg u c) 14 0)
    let o := enc s c
    let up := decide (o.ptOut < ptTarget s c)
    let out := if up = true then o.ptOut + 1 else o.ptOut - 1
    let ph := if up = true then (o.ptPhase + 1) % 4 else (o.ptPhase + 3) % 4
    let zper := bits (posReg s c 0x1C) 23 0
    let z := decide (zper ≠ 0 ∧ out % (zper : Int) = 0)
    let synth := keepRuns s = true ∧ bits (posReg s c 0x1C) 31 30 = 2 ∧ ptTarget s c ≠ o.ptOut
    (keepRuns s = true → gives (.observerUpdate c) s (fun t =>
      (encEn u c = false ∨ e.started = false → t.pos = u.pos ∧ t.mil = u.mil) ∧
      (encEn u c = true → e.started = true →
        (enc t c).x = sgn 64 (xp + ((k 1 * inn) >>> 56)) ∧ (enc t c).v = sgn 64 (e.v + (e.a >>> 16) + ((k 2 * inn) >>> 32)) ∧
        (enc t c).a = sgn 64 (e.a + ((k 3 * inn) >>> 16)) ∧ (enc t c).rc = e.rc ∧ (∀ q : Enc, q ≠ c → enc t q = enc u q) ∧
        (enc t c).stat = (if 8 * 65536 < inn.natAbs then e.stat ||| 256 else e.stat)))) ∧
    (keepRuns s = false → exec (.observerUpdate c) s = .fault (.cannotOccur "OBSERVER_UPDATE")) ∧
    (synth → gives (.ptSynthStep c) s (fun t =>
      t.pos = { s.pos with ch := vmod s.pos.ch c (fun e => { e with
        ptOut := out, ptPhase := ph, ptZ := z, stat := if 16 < (ptTarget s c - o.ptOut).natAbs then e.stat ||| 512 else e.stat }) } ∧
      t.outbox = s.outbox ++ [.ptStep c (ph == 1 || ph == 2) (ph == 2 || ph == 3) z] ∧ keepsBut [.pos, .err, .mgt] s t)) ∧
    (¬ synth → exec (.ptSynthStep c) s = .fault (.cannotOccur "PT_SYNTH_STEP"))

/-- MILESTONE_FIRE: the lowest due milestone fires at its event road count, once no knot is due: hit, count and status bit follow, a periodic one is
armed again beyond the present road count, what was asked of it meanwhile comes after that, and no other milestone moves (R179 to R183, log 131).
EXT_SYNC_CAPTURE takes the road count on the edges chosen, and a linked milestone is set from it, or once its firing is over (R184, R181). MS_OUT_PULSE_END takes the output back to its inactive level (R183). -/
def Obligations.Milestones : Prop :=
  ∀ (i : Ms) (n : Fin 2) (rising : Bool) (o : PulseOut) (s : State), s.settled = true → s.sys.st ≠ .cold →
    let m := milestone s i
    let ctl := liveVal s (base 13 + 0x40 + 0x10 * n)
    let edge := bits ctl 31 30
    let taken := keepRuns s = true ∧ (edge = 3 ∨ (edge = 1 ∧ rising = true) ∨ (edge = 2 ∧ rising = false))
    let cap := (enc s (bits ctl 29 28)).rc
    let per := (msReg s i 0xC).toNat
    (∀ ev rev, s.sys.knotDue = none → msNext s = some (i.val, ev, rev) → gives (.milestoneFire i) s (fun t =>
      (milestone t i).hit = ev ∧ (milestone t i).cnt = m.cnt + 1 ∧ t.mil.stat = s.mil.stat ||| w32 (2 ^ i.val) ∧
      (milestone t i).later = [] ∧ (m.later = [] ∨ m.later = [.disarm] → (milestone t i).due = none) ∧
      (per = 0 → m.later = [] → (milestone t i).cmp = m.cmp ∧ (milestone t i).armed = m.armed) ∧
      (m.later = [.disarm] → (milestone t i).armed = false) ∧
      (per ≠ 0 → m.later = [] → (milestone t i).cmp = (cmpNext m.cmp per (enc s (msSrc s i)).rc rev).1 ∧ (milestone t i).armed = true ∧ (milestone t i).stale = false) ∧
      ∀ j : Ms, j ≠ i → milestone t j = milestone s j)) ∧
    (s.sys.knotDue.isSome = true ∨ (∀ ev rev, msNext s ≠ some (i.val, ev, rev)) → exec (.milestoneFire i) s = .fault (.cannotOccur "MILESTONE_FIRE")) ∧
    (¬ taken → exec (.extSyncCapture n rising) s = .next s) ∧
    (taken → gives (.extSyncCapture n rising) s (fun t =>
      (vget t.mil.sync n ⟨0, 0, false⟩).cap = cap ∧ (vget t.mil.sync n ⟨0, 0, false⟩).unread = true ∧
      ((vget s.mil.sync n ⟨0, 0, false⟩).unread = true → bit ctl 27 = false → s.err.fatalHeld = false → logged .notice Err.syncOvr s t) ∧
      (bit ctl 27 = false → t.mil.ms = s.mil.ms) ∧
      (bit ctl 27 = true →
        let j := bits ctl 26 22
        let ofs : Int := (liveVal s (base 13 + 0x44 + 0x10 * n)).toNat
        let at_ := sgn 48 (cap + (if msRev s j = true then -ofs else ofs))
        ((milestone s j).due = none → (milestone t j).cmp = at_) ∧
        ((milestone s j).due ≠ none → milestone t j = { milestone s j with later := (milestone s j).later ++ [.capture at_] }) ∧
        ∀ q : Ms, q.val ≠ j → milestone t q = milestone s q))) ∧
    (pulseOn s o = true → gives (.msOutPulseEnd o) s (fun t =>
      pulseOn t o = false ∧ keepsBut [.mil] s t ∧ t.mil.ms = s.mil.ms ∧
      t.outbox = s.outbox ++ [.pin (pulsePin o).1 (pulsePin o).2.1 (!bit (liveVal s (pulsePin o).2.2) 30)]))

/-! Start-up, knots and the geometry. -/

/-- Loading: the headers read give each slot its result and the candidates, highest generation first, slot A on a tie; with no candidate left
the device goes to Faulted with BOOT_NOIMAGE (R470, R471, R475). Pass 1 rejects with the first check that fails, in the order of R471, else
the candidate passes to pass 2. A record that changed since pass 1 is rejected, one that applies is done with, and one that fails rejects
the image with its reason; after the last the image is accepted into Verifying unless a check across records fails (R472, R473, R539). -/
def Obligations.ImageLoading : Prop :=
  ∀ (a b img rec : Bytes) (boot : BitVec 64) (i : Fin 2) (left : List Nat) (s : State), s.settled = true → s.sys.st = .loading →
    s.err.fatalHeld = false →
    let slot := fun (t : State) (i : Nat) => vget t.cfg.slots i ⟨0, 0, 0, false⟩
    let one := s.cfg.bootSel.getLsbD 1
    let quad := s.cfg.bootSel.getLsbD 0
    let goodSlot := fun (t : State) (i : Nat) => (slot t i).read && decide ((slot t i).reason = 0)
    let result := fun (h : Bytes) => (⟨headerCheck quad h, 0, if headerCheck quad h = 0 then w32 (leAt h 12 4) else 0, true⟩ : SlotResult)
    let tried := fun (l : List Nat) (t : State) => t.cfg.cands = l ∧
      (l = [] → t.sys.st = .faulted ∧ logged .fatal Err.bootNoimage s t) ∧ (l ≠ [] → t.sys.st = .loading ∧ t.cfg.pass = 1)
    let rejected := fun (r d : Nat) (t : State) => (slot t i).reason = r ∧ (slot t i).detail = d ∧ t.cfg.cands = left ∧
      (left = [] → t.sys.st = .faulted) ∧ (left ≠ [] → t.sys.st = .loading ∧ t.cfg.pass = 1)
    let n := img.length - 32
    let walk := recordWalk (leAt (slotHeader s i) 20 4) 0 0 ((img.take n).drop 64)
    let crcBad := recIndex (fun r => !recCrcOk r) walk.1
    let digest := sha256 (img.take n)
    let c1 := s.cfg.pass = 1 ∧ s.cfg.cands = i.val :: left ∧ img.length = leAt (slotHeader s i) 16 4
    let walked := walk.2 = none ∧ recTypesBad walk.1 = none ∧ crcBad = none
    let applied := applyRecord rec { s with outbox := [] }
    (s.cfg.pass = 0 → s.cfg.hdrs = [] → a.length = 64 → b.length = 64 → gives (.imageHeaderRead a b) s (fun t =>
      slot t 0 = result a ∧ slot t 1 = (if one = true then slot s 1 else result b) ∧
      tried ((if (slot t 0).gen.toNat < (slot t 1).gen.toNat then [1, 0] else [0, 1]).filter (goodSlot t)) t)) ∧
    (c1 → ∀ k, walk.2 = some k → gives (.imagePass1Done img) s (rejected 4 k)) ∧
    (c1 → walk.2 = none → ∀ k, recTypesBad walk.1 = some k → gives (.imagePass1Done img) s (rejected 5 k)) ∧
    (c1 → walk.2 = none → recTypesBad walk.1 = none → ∀ k, crcBad = some k → gives (.imagePass1Done img) s (rejected 6 k)) ∧
    (c1 → walked → digest ≠ img.drop n → gives (.imagePass1Done img) s (rejected 7 0)) ∧
    (c1 → walked → digest = img.drop n → s.cfg.otpPin = true → pinned s digest = false → gives (.imagePass1Done img) s (rejected 8 0)) ∧
    (c1 → walked → digest = img.drop n → (s.cfg.otpPin = true → pinned s digest = true) →
      exec (.imagePass1Done img) s = .next { s with cfg := { s.cfg with pass := 2, recs := walk.1, recIdx := 0, digest := digest } }) ∧
    (∀ old rest, s.cfg.pass = 2 → s.cfg.cands = i.val :: left → s.cfg.recs = old :: rest →
      (recUnchanged old rec = false → gives (.imageRecordApply rec) s (rejected 9 s.cfg.recIdx)) ∧
      (recUnchanged old rec = true → applied.2.1 = 0 → gives (.imageRecordApply rec) s (fun t =>
        t.cfg.recs = rest ∧ t.cfg.recIdx = s.cfg.recIdx + 1 ∧ t.regs = applied.1.regs ∧ t.netId = applied.1.netId ∧ t.mem = applied.1.mem ∧
        t.stg = applied.1.stg)) ∧
      (recUnchanged old rec = true → recType rec = 3 → (applyKeys (recBody rec) s).2 = 0 → exec (.imageRecordApply rec) s = .next { s with
        mgt := { s.mgt with keys := (List.range (byteAt (recBody rec) 0)).map (fun i =>
          ⟨byteAt (recBody rec) (4 + 36 * i), byteAt (recBody rec) (5 + 36 * i), ((recBody rec).drop (8 + 36 * i)).take 32⟩) }
        cfg := { s.cfg with recs := rest, recIdx := s.cfg.recIdx + 1 } })) ∧
    (s.cfg.pass = 2 → s.cfg.cands = i.val :: left → s.cfg.recs = [] → boot ≠ 0 →
      (spanBad s = true → gives (.imagePass2Done boot) s (rejected 10 Config.noRecord.toNat)) ∧
      (spanBad s = false → gives (.imagePass2Done boot) s (fun t =>
        t.sys.st = .verifying ∧ t.mgt.boot = boot ∧ t.cfg.accepted = some i.val ∧ t.cfg.pass = 0 ∧ t.regs = s.regs ∧ t.netId = s.netId)))

/-- Verifying to Ready: DRAM verification, judged on the bytes that each lane read back from the verify rows, brings each populated channel Online with
its offsets and filled with zeros, or Offline, and too little capacity is Fatal (R305, R306; log 132 fixes the pattern); the lane wait ends once (R474); a criterion unmet at the timeout is Fatal (R475); with every criterion met the device takes
the immediate knot and leaves Verifying (R31, R474). The FIRE timebase locks, and losing it from Ready on is Fatal (R195). The pace
monitors keep the margin, 256 × the time allowed ÷ the time measured, rounded down and held at 65 535 (R19; log 122), and its least value (R20);
stages 5 to 8 are allowed the shortest minimum line period of an enabled port, stages 1 to 4 the time of a line at STR_VMAX. -/
def Obligations.VerifyingToReady : Prop :=
  ∀ (res : List VerifyReads) (measured : List Nat) (s : State), s.settled = true → s.sys.st ≠ .cold → s.err.fatalHeld = false →
    let ver := s.sys.st = .verifying
    (ver → s.cfg.dramDone = false → verifySpelled res = true → gives (.dramVerifyDone res) s (fun t =>
      (∀ c : Fin 8, (chan s c).cstate = 3 → chan t c = chan s c) ∧
      (∀ c : Fin 8, (chan s c).cstate ≠ 3 → ∀ r, res[c.val]? = some r →
        let passes := fun (k i : Nat) => ∃ x, (r.take 9)[i]? = some x ∧ x.length = 16 ∧ ∀ y ∈ x, (if k = 0 then y.1 else y.2) = verifyLane c k
        let first := fun (k : Nat) (v : Int) => ∃ i, passes k i ∧ (∀ j < i, ¬ passes k j) ∧ trialOffset i = v
        (∀ a b, first 0 a → first 1 b →
          (chan t c).cstate = 0 ∧ (chan t c).vofs0 = a ∧ (chan t c).vofs1 = b ∧ (chan t c).data = []) ∧
        ((∀ i, ¬ passes 0 i) ∨ (∀ i, ¬ passes 1 i) → (chan t c).cstate = 2)) ∧
      (capacityShort t = true → t.sys.st = .faulted ∧ logged .fatal Err.memCapacity s t) ∧
      (capacityShort t = false → t.sys.st = .verifying ∧ t.cfg.dramDone = true))) ∧
    (ver → s.cfg.laneWait = false → gives .lanewaitExpire s (fun t =>
      t.cfg.laneWait = true ∧ t.sys = s.sys ∧ (∀ p, trainingPort s = some p → logged .notice Err.bootLanewait s t))) ∧
    (ver → ∀ k, unmetCrit s = some k → gives .bootTimeout s (fun t => t.sys.st = .faulted ∧ logged .fatal Err.bootTimeout s t)) ∧
    (ver → unmetCrit s = none → gives .readyCriteriaMet s (fun t =>
      t.sys.st ≠ .verifying ∧ t.sys.st ≠ .loading ∧ t.sys.epoch = s.sys.epoch + 1 ∧ t.act = s.regs.filter (fun x => isRwk x.1) ∧
      t.cfg.tReady = sinceRelease s)) ∧
    (ver → s.fir.lock = false → exec .fireLock s = .next { s with fir := { s.fir with lock := true } }) ∧
    (s.fir.lock = true → operational s = false → s.sys.st ≠ .faulted → exec .fireUnlock s = .next { s with fir := { s.fir with lock := false } }) ∧
    (s.fir.lock = true → operational s = true ∨ s.sys.st = .faulted → gives .fireUnlock s (fun t =>
      t.fir.lock = false ∧ t.sys.st = .faulted ∧ logged .fatal Err.fireUnlock s t)) ∧
    (awake s = true → measured.length = 32 → (∀ x ∈ measured, 0 < x) → gives (.paceMeasure measured) s (fun t =>
      (∀ n x, measured[n]? = some x →
        let m := vget t.sys.paceNow n 0xFFFF
        let vmax := bits (actVal s (base 10 + 8)) 23 0
        vget t.sys.paceMin n 0xFFFF = (if m.toNat < (vget s.sys.paceMin n 0xFFFF).toNat then m else vget s.sys.paceMin n 0xFFFF) ∧
        (∀ q, 16 ≤ n → q ∈ geoPorts s.fir.geo → (∀ z ∈ geoPorts s.fir.geo, nth s.fir.geo.minp q 2000 ≤ nth s.fir.geo.minp z 2000) →
          m = BitVec.ofNat 16 (min 0xFFFF (256 * (16 * nth s.fir.geo.minp q 2000) / x))) ∧
        (n < 16 → vmax ≠ 0 → m = BitVec.ofNat 16 (min 0xFFFF (256 * (s.fir.geo.cpl * 16 * 8000000) / (65536 * vmax * x))))) ∧
      keepsBut [.sys, .err, .mgt, .par] s t))

/-- A knot: every knotted register's active copy takes the value last written, the residual table with it, the epoch counts one on, and the knot
position is the road count that it lies on or past; no register changes (R26 to R32, R50, R518). The geometry check runs on the shadow
copies as they stand when it starts (R60, R61); the residual window reads and writes the entry that its index names, which then moves on
under AUTOINC (R57); a strand that migrates takes its new spool at a block start, once that serves fewer than 16 strands (R158). -/
def Obligations.KnotsTaken : Prop :=
  ∀ (m : Master) (v : Word) (n : Seg) (p : Int) (s : State), s.settled = true → s.sys.st ≠ .cold →
    let o := accessed m .ok v s
    let r := regVal s resIndexAddr
    let i := bits r 14 0
    let next := fun (s : State) => if bit r 31 = true then setReg resIndexAddr (w32 (2 ^ 31 + (i + 1) % 32768)) s else s
    (s.sys.st ≠ .loading → knotPlace s = some p → gives .knotTake s (fun t =>
      t.act = s.regs.filter (fun x => isRwk x.1) ∧ t.stg.resActive = s.stg.resShadow ∧ t.sys.epoch = s.sys.epoch + 1 ∧
      t.sys.knotPos = knotRoad (geoDir s.fir.geo) p ∧ t.sys.pendingKnot = none ∧ t.sys.knotDue = none ∧ t.regs = s.regs)) ∧
    (reaches m s = true → exec (.geoCheck m v) s = .next { s with
      outbox := o, fir := if bit v 0 = true then { s.fir with chkBusy := some (geoShadow s) } else s.fir }) ∧
    (∀ k, s.fir.chkBusy = some k → exec .geoCheckDone s = .next { s with fir := { s.fir with
      chkBusy := none, chkReason := (geoCheckVals (fun a => spGet (regReset a) k a)).1, chkSeg := (geoCheckVals (fun a => spGet (regReset a) k a)).2 } }) ∧
    (reaches m s = true → exec (.resDataAccess m (.write v)) s = .next { next s with
      outbox := o, stg := { s.stg with resShadow := spSet 0 s.stg.resShadow i v } }) ∧
    (reaches m s = true → exec (.resDataAccess m .read) s = .next { next s with outbox := accessed m .ok (resWord s) s }) ∧
    (s.sys.st = .faulted ∨ (strand s n).migrating = false ∨ atBlockStart (strand s n) = false →
      exec (.strandMigrate n) s = .fault (.cannotOccur "STRAND_MIGRATE")) ∧
    (s.sys.st ≠ .faulted → (strand s n).migrating = true → atBlockStart (strand s n) = true → (strand s n).st = .idle ∨
        ((List.range 512).filter (fun q => (strand s q).spool == (strand s n).target && decide ((strand s q).st ≠ .idle))).length < 16 →
      exec (.strandMigrate n) s = .next { s with str := { s.str with
      strands := vmod s.str.strands n (fun t => { t with spool := t.target, migrating := false }), cntMigr := s.str.cntMigr + 1 } })

/-! The print path: strands, spools, stages 5 to 8, and strikes. -/

/-- A strand issues its next request under a new tag as soon as the ring has room for it; the data of its oldest request enters its ring in bank 0
once every unit has come (R142 to R144, R499); in Faulted neither does (R36). SPD_ADV_FRAME sends the advice word, a start bit, its bits from bit 0
up, even parity and a stop bit, and counts its sequence (R154). -/
def Obligations.StrandsFed : Prop :=
  ∀ (n : Seg) (s : State), s.settled = true → s.sys.st ≠ .cold → s.canon = true →
    let x := strand s n
    let others := fun (t : State) => ∀ m : Nat, m ≠ n → strand t m = strand s m
    (s.sys.st = .faulted → exec (.strandFetchIssue n) s = .fault (.cannotOccur "STRAND_FETCH_ISSUE") ∧
      exec (.strandFetchDone n) s = .fault (.cannotOccur "STRAND_FETCH_DONE")) ∧
    (∀ l i b off len, s.sys.st ≠ .faulted → fetchReady s n = true → nextFetch s n = some (l, i, b, off, len) → gives (.strandFetchIssue n) s (fun t =>
      (∃ r, (strand t n).reqs.map (·.tag) = x.reqs.map (·.tag) ++ [s.mem.nextTag] ∧ (strand t n).reqs.getLast? = some r ∧ r.layer = l.id ∧ r.block = b ∧
        r.off = off ∧ r.len = len ∧ r.left = unitCount (lsaOf s l i b off) len ∧ r.got = []) ∧
      (strand t n).ring = x.ring ∧ t.mem.nextTag = s.mem.nextTag + 1 ∧ others t ∧ keepsBut [.str, .mem] s t)) ∧
    (∀ r rest, s.sys.st ≠ .faulted → x.reqs = r :: rest → r.left = 0 → (reqData r).length ≤ 8192 → unhalted s 4 [r.tag] r.layer n none → gives (.strandFetchDone n) s (fun t =>
      (strand t n).ring = x.ring ++ (reqData r).drop x.skip ∧ (strand t n).skip = x.skip - (reqData r).length ∧
      (strand t n).wpos = (x.wpos + (reqData r).length) % 8192 ∧ (strand t n).reqs.map (·.tag) = rest.map (·.tag) ∧
      (∀ k, k < (reqData r).length → bankByte t 0 (n * 8192 + (x.wpos + k) % 8192) = (reqData r).getD k 0) ∧
      others t ∧ keepsBut [.str, .mem] s t)) ∧
    (operational s = true → bit (regVal s (base 10 + 0xC)) 16 = true → drivesAdvice s = true → exec .spdAdvFrame s = .next { s with
      outbox := s.outbox ++ [.spdAdv ([false] ++ (List.range 32).map (bit (advWord s)) ++ [parity (advWord s), true])]
      str := { s.str with advWord := advWord s, advSeq := (s.str.advSeq + 1) % 4 } })

/-- A spool serves one strand at a time (R145), and leaves every other strand alone. On a block whose header has been taken it decodes the next
line into OUT, or stops for want of data; a decoder error is logged, recorded in CMP, unless a lower stripe's of the same instant stands there,
and makes the rest of the block affected; a header that fails a check, the width of a Printing layer's segment among them, is error 1 at its
offset (R45, R113, R119 to R123, R132, R133, R142). -/
def Obligations.LinesDecoded : Prop :=
  ∀ (p : Fin 64) (n : Nat) (l : Layer) (i : Nat) (s : State), s.settled = true → s.sys.st ≠ .cold → s.sys.st ≠ .faulted →
    spoolPick s p = some n → decAt s n = some (l, i) →
    let x := strand s n
    let nw := nth l.stripes i (0, 0)
    let lb := lineBytes l i
    let k := blockLine l x lb
    let ln := x.block * bHeight l + k
    let plain := x.fetchLayer.isSome = true ∧ x.decNext = false ∧ x.badFrom = none
    let run := fun (h : Bytes) =>
      let target := min (leAt h 16 4) ((k + 1) * lb)
      let fuel := target + x.ring.length + 8
      let d : DecRegs := ⟨x.hist, x.hist.length, x.inPos, x.token, x.crcAcc, x.ring⟩
      if (byteAt h 3).testBit 7 then rawRun (leAt h 16 4) (leAt h 24 4) target fuel d
      else decRun lb (leAt h 16 4) (leAt h 20 4) (leAt h 24 4) target fuel d
    let took := fun (d : DecRegs) (t : Strand) => t.hist = d.hist ∧ t.ring = d.ring ∧ t.inPos = d.q ∧ t.token = d.tok ∧ t.crcAcc = d.crc
    let bad := fun (code e off : Nat) (t : State) =>
      t.cmp.last = (match s.cmp.last with
        | some y => if s.cmp.lastValid = true ∧ y.time = s.now ∧ y.stripe < nw.1 then some y
          else some ⟨code, nw.1, x.block, l.codecStop, e, off, l.id, s.now⟩
        | none => some ⟨code, nw.1, x.block, l.codecStop, e, off, l.id, s.now⟩) ∧
      t.cmp.lastValid = true ∧ (s.err.fatalHeld = false → logged (codecCls l) (Err.decoder code) s t)
    gives (.spoolDecodeLine p) s (fun t => ∀ m : Nat, m ≠ n → strand t m = strand s m) ∧
    (∀ h d, plain → 0 < lb → x.hdr = some h → run h = (d, .line) → x.discard = 0 → x.nextLine ≤ ln → k + 1 < blockLines l x.block →
      gives (.spoolDecodeLine p) s (fun t =>
        (strand t n).out = x.out ++ [⟨l.id, ln, (lineCodes l.depth nw.2 (d.hist.take lb).reverse).take nw.2⟩] ∧ (strand t n).st = .run ∧
        took d (strand t n) ∧ keepsBut [.str, .mem] s t)) ∧
    (∀ h d, plain → 0 < lb → x.hdr = some h → run h = (d, .wait) → gives (.spoolDecodeLine p) s (fun t =>
      (strand t n).out = x.out ∧ (strand t n).st = x.st ∧ took d (strand t n) ∧ keepsBut [.str, .mem] s t)) ∧
    (∀ h d code off q, plain → 0 < lb → x.hdr = some h → run h = (d, .error code off q) → gives (.spoolDecodeLine p) s (fun t =>
      let e := min (q / lb) (blockLines l x.block - 1)
      bad code e off t ∧ (strand t n).badFrom = some e ∧ (strand t n).out = x.out)) ∧
    (∀ off, x.badFrom = none → x.hdr = none → 32 ≤ x.ring.length →
      headerFault (x.ring.take 32) l i x.block (if l.st = .printing then (segGeo s.fir.geo n).map (·.width) else none) = some off → gives (.spoolDecodeLine p) s (bad 1 0 off))

/-- Stages 5 to 8 take their tokens in order when nothing halts them: the map turns each nozzle's code into what its entry lets it fire (R214);
a lane of a detour is freed (R233); the stagger buffer takes a line's codes and gives each nozzle its code of GS triggers ago (R198 to R200);
the frame is built under the port's next strike number, and sent, before a STATUS or a CFG frame that wait for it (R201, R204, R257, R261, R271); in
Faulted only a NULL line's is, and during a sweep on the port none (R36, R225). -/
def Obligations.LineStages : Prop :=
  ∀ (n : Seg) (p : Port) (src tgt : BitVec 18) (late : Bool) (s : State), s.settled = true → s.sys.st ≠ .cold → s.canon = true →
    let rests := (headPort s p).statDue = false ∧ (headPort s p).cfgDue = false
    (∀ (q k seg : Nat) rest t l, s.sys.st ≠ .faulted → s.fir.s5 = (q, k, seg) :: rest → q < 64 → trigAt s q k = some t →
      t.lines.find? (fun y => y.seg == seg) = some l → unhalted s 5 [q, k, seg] l.layer seg (some t.lc) → s.nzl.lanes = [] →
      (∀ y ∈ t.lines, y.srcs = []) → gives .nozzleMapLine s (fun u =>
        u.fir.s5 = rest ∧ keepsBut [.fir] s u ∧ ∃ t' l', trigAt u q k = some t' ∧ t'.lines.find? (fun y => y.seg == seg) = some l' ∧
          l'.mapped = some ((List.range l.raw.length).map (fun j =>
            let m := 4096 * q + l.first + j
            mapCode t.conf (effState t.absent m (lineEntry s l m)) (lineEntry s l m) (lineRaw l (m % 4096)) l.depth)))) ∧
    (s.sys.st ≠ .faulted → laneFreeable s src.toNat tgt.toNat = true → exec (.detourLaneFree src tgt) s = .next { s with
      nzl := { s.nzl with lanes := s.nzl.lanes.filter (fun l => !(l.src == src.toNat && l.tgt == tgt.toNat && l.freeing.isSome)) } }) ∧
    (∀ t l codes, s.sys.st ≠ .faulted → staggerNext s n = some (t, l) → l.mapped = some codes → unhalted s 6 [t.k, n] l.layer n (some t.lc) →
      trigAt s (segPort n) t.k = some t → t.lines.find? (fun y => y.seg == n.val) = some l → t.struck = false → t.mark ≠ .skip →
      gives (.staggerLine n) s (fun u =>
        let noz := fun j => 4096 * segPort n + l.first + j
        let f0 := match (firPort s (segPort n)).first with | some k => k | none => t.k
        (∀ j, j < l.raw.length → slotGet u (noz j) (t.lc % 16) = nth codes j 0 % 8) ∧
        (∃ t' l', trigAt u (segPort n) t.k = some t' ∧ t'.lines.find? (fun y => y.seg == n.val) = some l' ∧
          l'.staged = some ((List.range l.raw.length).map (fun j =>
            if t.k < f0 + nth l.gs j 0 then 0 else slotGet u (noz j) ((t.lc + 2 ^ 40 - nth l.gs j 0) % 16)))) ∧ keepsBut [.fir, .mem] s u)) ∧
    (∀ t, buildNext s p = some t → trigAt s p t.k = some t →
      t.mark = .null ∨ (s.sys.st ≠ .faulted ∧ (∀ l ∈ t.lines, l.staged.isSome = true) ∧ unhalted s 7 [t.k, p] t.layer p (some t.lc)) →
      gives (.frameBuild p) s (fun u => ∃ t', trigAt u p t.k = some t' ∧ t'.built = true ∧
        ((headPort s p).st ≠ .active → t'.sent = true ∧ keepsBut [.fir] s u) ∧
        ((headPort s p).st = .active → t'.frame = some (mkFrame s p t (decide (t.mark = .null))) ∧
          (headPort u p).nextSsn = ((headPort s p).nextSsn + 1) % 65536 ∧ keepsBut [.err, .mgt, .tow, .fir, .gul, .mem, .lmp, .par] s u))) ∧
    (∀ t f, sendNext s p = some (t, f) → trigAt s p t.k = some t → t.struck = false → t.mark ≠ .skip → gateHolds s p = false →
      f.null = true ∨ (s.sys.st ≠ .faulted ∧ unhalted s 8 [t.k, p] t.layer p (some t.lc)) →
      gives (.lineFrameSend p late) s (fun u =>
        (∃ o, u.outbox = s.outbox ++ laneOut s p (frameSyms (lineBytesOf f)) :: o ∧ (rests → o = [])) ∧ (∃ t', trigAt u p t.k = some t' ∧ t'.sent = true) ∧
        u.fir.cntLLate = (if late = true then s.fir.cntLLate + 1 else s.fir.cntLLate) ∧
        (late = false → rests → keepsBut [.fir] s u) ∧ (rests → keepsBut [.tow, .fir, .err, .mgt] s u) ∧ keepsBut [.tow, .fir, .gul, .err, .mgt] s u)) ∧
    (∀ t f, sendNext s p = some (t, f) → gateHolds s p = true ∨ (f.null = false ∧ s.sys.st = .faulted) →
      exec (.lineFrameSend p late) s = .fault (.cannotOccur "LINE_FRAME_SEND"))

/-- A position sample freezes the strike of a port's next trigger when its predicted instant is less than 400 ns away, never earlier than 300 ns
from the sample, nor than MINP after the port's strike before (R192, R193, R208);
without a grid it only notes the sample, and how many went by unseen (R18, R189); while a knot is due none is taken (R28). A strike goes out at its
frozen instant with WIDTH and POL, and the port shows its line count, its instant and its lag (R194, R196, R205, R212); one whose frame was abandoned
leaves its outputs inactive and takes no strike number (R261). -/
def Obligations.Strikes : Prop :=
  ∀ (p : Port) (cmpPs : Int) (i : Nat) (s : State), s.settled = true → s.sys.st ≠ .cold → s.par.pendStates = [] →
    (∀ t tf lag, strikeNext s p = some (t, tf, lag) → trigAt s p t.k = some t → gives (.strike p cmpPs) s (fun u =>
      (firPort u p).lastLc = t.lc ∧ (firPort u p).lastTf = tf ∧ (firPort u p).lagNow = min lag 0xFFFF ∧
      (firPort u p).lagMax = max (firPort s p).lagMax (min lag 0xFFFF) ∧
      (let nulled := !t.sent && decide (t.mark ≠ .null) && (s.dbg.halted || decide (s.sys.st = .faulted))
        let act := decide ((headPort s p).st = .active) && (t.frame.isSome || !t.built || nulled)
        Output.strike p (tf / 16) (tf % 16) (bits t.stb 9 0) (bit t.stb 30) act ∈ u.outbox ∧
        (act = false → (headPort u p).struckSsn = (headPort s p).struckSsn)) ∧
      (∀ f, t.frame = some f → (headPort s p).st = .active → (headPort u p).struckSsn = (f.ssn + 1) % 65536))) ∧
    (s.sys.st ≠ .loading → (∀ x, s.fir.lastSample = some x → x < i) → s.sys.knotDue = none → s.pos.waiting = [] → s.fir.grid = none → s.fir.ovs = false →
      exec (.positionSample i) s = .next { s with fir := { s.fir with
        lastSample := some i, missed := match s.fir.lastSample with | some x => i / 800 - x / 800 - 1 | none => 0 } }) ∧
    (s.sys.knotDue.isSome = true → exec (.positionSample i) s = .fault (.cannotOccur "POSITION_SAMPLE")) ∧
    (∀ gr, s.sys.st ≠ .loading → (∀ x, s.fir.lastSample = some x → x < i) → s.sys.knotDue = none → s.pos.waiting = [] → s.fir.grid = some gr →
      dueAll s gr = [] → (∀ n, (strand s n).stopAt = none) → s.fir.stopDue = false → s.fir.oldGeos = [] →
      (∀ q : Nat, (firPort s q).isOpen = true → q ∈ geoPorts s.fir.geo) →
      ∀ x, (firPort s p).trigs.find? (fun x => x.frozen.isNone && decide (x.mark ≠ .skip)) = some x → trigAt s p x.k = some x → x.struck = false →
      ∀ tau, predict x.dir x.tr (enc s (printCh s)).x (enc s (printCh s)).v (enc s (printCh s)).a = some tau → tau < 3200 →
      gives (.positionSample i) s (fun u =>
        let last := (firPort s p).tlast
        let tf := max (i + tau) (max (i + 2400) (if last = 0 then 0 else last + x.minp))
        (firPort u p).tlast = tf ∧ (firPort u p).ks = x.k + 1 ∧
        ∃ lag, (x.k, some (tf, lag)) ∈ (firPort u p).trigs.map (fun t => (t.k, t.frozen))))

/-! The banks, the DRAM channels and the arbiters. -/

/-- The five bank operations (R319). Aligned and within the bank, with no word that the code finds uncorrectable: a read answers its
bytes and writes none; a write, an add, a saturating add and a swap write exactly their own bytes, a swap answering the old value, in the NOZZLE bank
as R216 lets that requester write it: in Printing and Held only the health updater, any other being refused with a Notice NZL_DIRECT, and RMP's as
swaps of the entries. On an uncorrectable word nothing is delivered and
nothing written, the word's address is kept from the first time on, and that is Fatal BNK_UE (R321). -/
def Obligations.BankOperations : Prop :=
  ∀ (b : Bank) (r : Fin 4) (o : Nat) (e : List Flip) (s : State), s.settled = true → s.sys.st ≠ .cold → s.canon = true → r.val < bankReqs b →
    let fits := fun (n al : Nat) => o % al = 0 ∧ o + n ≤ bankSize b
    let ecc := fun (n : Nat) => eccOf (wordsOf o n) e
    let held := fun (n : Nat) => ∀ w y, ecc n ≠ .uncorrectable w y
    let only := fun (n : Nat) (t : State) => (∀ k, k < o ∨ o + n ≤ k → bankByte t b k = bankByte s b k) ∧
      (∀ c : Bank, c ≠ b → ∀ k, bankByte t c k = bankByte s c k)
    let frame := fun (n : Nat) (t : State) => keepsBut (if ecc n = .clean then [.mem] else [.err, .mgt, .mem]) s t
    let answers := fun (n m : Nat) (x : Bytes) (t : State) => t.outbox = s.outbox ++ [.bank b r (some x)] ∧ only m t ∧
      (b.val ≠ 2 ∨ r.val ≠ 2 → frame n t)
    let barred := b.val = 2 ∧ r.val ≠ 1 ∧ inPrint s = true
    let writes := fun (c : Instr) => (∃ d : Bytes, 1 ≤ d.length ∧ d.length ≤ 32 ∧ fits d.length 1 ∧ held d.length ∧ c = .bankWrite b r o d e) ∨
      (fits 4 4 ∧ held 4 ∧ ∃ v, c = .bankAdd b r o v e ∨ c = .bankAddSat b r o v e) ∨ (fits 8 8 ∧ held 8 ∧ ∃ v, c = .bankSwap b r o v e)
    (∀ n, 1 ≤ n → n ≤ 32 → fits n 1 → held n → gives (.bankRead b r o n e) s (fun t =>
      t.outbox = s.outbox ++ [.bank b r (some (bankBytes s b o n))] ∧ only 0 t ∧ frame n t)) ∧
    (¬ barred → ∀ d : Bytes, 1 ≤ d.length → d.length ≤ 32 → fits d.length 1 → held d.length → gives (.bankWrite b r o d e) s (fun t =>
      bankBytes t b o d.length = d ∧ answers d.length d.length [] t)) ∧
    (¬ barred → held 4 → ∀ v, fits 4 4 → gives (.bankAdd b r o v e) s (fun t =>
      bankWord t b o 4 = (bankWord s b o 4 + v.toNat) % 2 ^ 32 ∧ answers 4 4 [] t)) ∧
    (¬ barred → held 4 → ∀ v, fits 4 4 → gives (.bankAddSat b r o v e) s (fun t =>
      bankWord t b o 4 = min (bankWord s b o 4 + v.toNat) 0xFFFFFFFF ∧ answers 4 4 [] t)) ∧
    (¬ barred → held 8 → ∀ v, fits 8 8 → gives (.bankSwap b r o v e) s (fun t =>
      bankWord t b o 8 = v.toNat ∧ answers 8 8 (bankBytes s b o 8) t)) ∧
    (barred → ∀ c, writes c → gives c s (fun t => t.outbox = s.outbox ++ [.bank b r none] ∧ only 0 t ∧ keepsBut [.err, .mgt, .mem] s t ∧
      (s.err.fatalHeld = false → ∃ x ∈ t.err.ring, x.cls = .notice ∧ x.code = Err.nzlDirect ∧ (x.seq = nextSeq s.err.head ∨
        x.seq = nextSeq (nextSeq s.err.head))))) ∧
    (∀ c n al, bankAccess b r o e c n al → fits n al → ∀ w y, ecc n = .uncorrectable w y → gives c s (fun t => only 0 t ∧ Output.bank b r none ∈ t.outbox ∧
      (bank t b).ue = (match (bank s b).ue with | some x => some x | none => some ((o / 8 + w) * 8)) ∧
      (s.err.fatalHeld = false → logged .fatal Err.bnkUe s t)))

/-- A 32-bit add must address a multiple of 4 and a swap a multiple of 8, and every access must lie wholly within its bank. One that breaks
either is refused and changes nothing: the requester gets an error response, BNK_b_ALIGN counts it, and a Notice BNK_ALIGN is logged, at most
once per bank per 1 ms (R320). -/
def Obligations.BankAlignment : Prop :=
  ∀ (b : Bank) (r : Fin 4) (o : Nat) (e : List Flip) (s : State), s.settled = true → s.sys.st ≠ .cold → r.val < bankReqs b →
    ∀ c n al, bankAccess b r o e c n al → (o % al ≠ 0 ∨ bankSize b < o + n) → gives c s (fun t =>
      (∀ d : Bank, ∀ k, bankByte t d k = bankByte s d k) ∧ t.outbox = s.outbox ++ [.bank b r none] ∧ keepsBut [.err, .mgt, .mem] s t ∧
      (bank t b).align = (bank s b).align + 1 ∧ (∀ d : Bank, d ≠ b → (bank t d).align = (bank s d).align) ∧
      (mayLog s Err.bnkAlign b (ms 1) = true → s.err.fatalHeld = false → logged .notice Err.bnkAlign s t) ∧
      (mayLog s Err.bnkAlign b (ms 1) = false → t.err.ring = s.err.ring ∧ t.err.head = s.err.head))

/-- What a DRAM channel does next (R308 to R312): a unit leaves the queue, each older one being passed over once more, a whole write reaching
the array and anything else being read first; a refresh goes to the next bank in turn. The checker's verdict freezes the controller
(R315). A read that returns is served to the strand that asked, each of its words corrected and noted for a write-back, or freezes the controller with
the word that failed (R302, R315, R316). A refresh that falls due
is issued, postponed behind a panic read, or skipped against one pulled in (R312). A re-verification goes bank by bank and
offset by offset, a lane passing a bank when it reads the pattern back (R305, R307; log 132). A round's winner starts anew at age 0, and each who asked
and lost ages; while a holder asks on, no round is held, and in a freeze none at the channels (R316, R323 to R326). -/
def Obligations.MemoryChannels : Prop :=
  ∀ (ch : Chan) (s : State), s.settled = true → s.sys.st ≠ .cold →
    let c := chan s ch
    let others := fun (t : State) => ∀ k : Nat, k ≠ ch.val → chan t k = chan s k
    let checks := fun (ca : Nat) => let k := checkCa s (ca / 64 * 64)
      if c.chk = some (k / 256) then [] else [Output.dram ch "RDC" k]
    let written := fun (ca : Nat) (w : List (Nat × Byte)) => each (fun x d => spSet 0 d (ca / 64 * 64 + x.1) x.2) w c.data
    let frozenBy := fun (cause ch req syn ca : Nat) (t : State) => t.mem.frozen = true ∧
      (s.mem.frozen = false → t.mem.err0 = w32 (2 ^ 31 + cause * 2 ^ 29 + ch * 2 ^ 26 + req * 2 ^ 23 + syn * 256) ∧ t.mem.err1 = w32 ca)
    (∀ u, chanNext s ch = .unit u → unhalted s 3 [ch.val, u.ca, u.tag] (tagOwner s u.tag).1 (tagOwner s u.tag).2 none →
      let left := (c.queue.takeWhile (· != u)).map (fun x => { x with passed := x.passed + 1 }) ++ (c.queue.dropWhile (· != u)).drop 1
      (∀ w, u.wr = some w → 64 ≤ w.length → gives (.dramIssue ch false) s (fun t => (chan t ch).queue = left ∧ (chan t ch).data = written u.ca w ∧
        (chan t ch).inflight = c.inflight ∧ Output.dram ch "WR" u.ca ∈ t.outbox ∧ others t)) ∧
      ((∀ w, u.wr = some w → w.length < 64) → gives (.dramIssue ch false) s (fun t => (chan t ch).queue = left ∧ (chan t ch).data = c.data ∧
        (chan t ch).inflight = c.inflight ++ [⟨u.req, u.ca, unitBytes c u.ca, u.tag, u.panic, u.wr⟩] ∧
        t.outbox = s.outbox ++ .dram ch "RD" u.ca :: checks u.ca ∧ others t ∧ keepsBut [.mem] s t)) ∧
      gives (.dramIssue ch true) s (fun t => frozenBy 2 ch u.req 0 u.ca t ∧ (s.err.fatalHeld = false → logged .fatal Err.memCmdchk s t))) ∧
    (∀ ahead, chanNext s ch = .refresh ahead → gives (.dramIssue ch false) s (fun t => t.outbox = s.outbox ++ [.dram ch "REFpb" c.refBank] ∧
      (chan t ch).refBank = (c.refBank + 1) % 16 ∧ (chan t ch).data = c.data ∧ (chan t ch).queue = c.queue ∧ others t ∧ keepsBut [.mem] s t)) ∧
    (∀ (f : Inflight) (rest : List Inflight) (fl : List Flip), c.inflight = f :: rest →
      let clean := eccOf 8 fl = .clean
      (clean → f.wr = none → f.req ≠ 7 → gives (.dramReadReturn ch fl) s (fun t => (chan t ch).inflight = rest ∧ (chan t ch).data = c.data ∧ others t ∧
        ∀ (n : Seg) (i : Nat) (r : FetchReq), (strand s n).reqs[i]? = some r → r.tag = f.tag → 0 < r.left →
          (strand t n).reqs[i]? = some { r with left := r.left - 1, got := r.got ++ [(f.ca, f.data.drop (f.ca % 64))] })) ∧
      (∀ k, eccOf 8 fl = .single k → f.wr = none → f.req = 7 → gives (.dramReadReturn ch fl) s (fun t => (chan t ch).inflight = rest ∧
        (∃ w, w.length = k ∧ (chan t ch).wback = c.wback ++ w ∧ ∀ x ∈ w, x / 64 = f.ca / 64 ∧ x % 8 = 0) ∧
        (chan t ch).ce = c.ce + w32 k ∧ t.mem.cntCe = s.mem.cntCe + w32 k ∧ others t ∧ keepsBut [.err, .mgt, .mem] s t)) ∧
      (∀ w, clean → f.wr = some w → s.mem.frozen = false → gives (.dramReadReturn ch fl) s (fun t => (chan t ch).inflight = rest ∧
        (chan t ch).data = written f.ca w ∧ Output.dram ch "WR" f.ca ∈ t.outbox ∧ others t)) ∧
      (∀ w y, eccOf 8 fl = .uncorrectable w y → gives (.dramReadReturn ch fl) s (fun t => (chan t ch).inflight = rest ∧ (chan t ch).data = c.data ∧
        frozenBy 1 ch f.req y.toNat (f.ca / 64 * 64 + 8 * w) t ∧ others t ∧
        (s.err.fatalHeld = false → logged .fatal Err.memUe s t)))) ∧
    (chanOnline s ch = true → gives (.refreshDue ch) s (fun t => others t ∧ keepsBut [.mem] s t ∧
      (let skip := s.mem.frozen = false ∧ 0 < c.pulled
       let wait := s.mem.frozen = false ∧ c.pulled = 0 ∧ panicQueued c = true ∧ c.forced = false ∧ c.postponed < 128
       (skip → chan t ch = { c with pulled := c.pulled - 1 } ∧ t.outbox = s.outbox) ∧
       (wait → chan t ch = { c with postponed := c.postponed + 1, forced := decide (127 ≤ c.postponed) } ∧ t.outbox = s.outbox) ∧
       (¬ skip → ¬ wait → ((s.mem.frozen = true ∨ (c.queue = [] ∧ c.refDue = 0)) → t.outbox = s.outbox ++ [.dram ch "REFpb" c.refBank]) ∧
        (s.mem.frozen = false → c.queue ≠ [] ∨ 0 < c.refDue → chan t ch = { c with refDue := c.refDue + 1 } ∧ t.outbox = s.outbox))))) ∧
    (∀ (m : Master) (v : Word), reaches m s = true → gives (.memVerifyCmd m v) s (fun t => t.outbox = accessed m .ok v s ∧ keepsBut [.mem] s t ∧
      ∀ k < 8, chan t k = { chan s k with verWant := (chan s k).verWant || (bit v k && chanOnline s k) })) ∧
    (∀ v (got0 got1 : Bytes), chanOnline s ch = true →
      let p0 := decide (got0 = verifyLane ch 0)
      let p1 := decide (got1 = verifyLane ch 1)
      s.mem.frozen = false → c.ver = some v →
      (v.bank < 15 → gives (.verifySlice ch got0 got1) s (fun t =>
        chan t ch = { c with ver := some { v with bank := v.bank + 1, ok0 := v.ok0 && p0, ok1 := v.ok1 && p1 } } ∧ others t ∧ keepsBut [.mem] s t)) ∧
      (15 ≤ v.bank → (v.found0.isSome = true ∨ (v.ok0 && p0) = true) → (v.found1.isSome = true ∨ (v.ok1 && p1) = true) →
        gives (.verifySlice ch got0 got1) s (fun t => (chan t ch).ver = none ∧ (chan t ch).verWant = false ∧ (chan t ch).cstate = c.cstate ∧
          (chan t ch).vofs0 = v.found0.getD (trialOffset v.trial) ∧ (chan t ch).vofs1 = v.found1.getD (trialOffset v.trial) ∧ others t ∧
          keepsBut [.err, .mgt, .mem] s t)) ∧
      (15 ≤ v.bank → v.found0 = none → (v.ok0 && p0) = false → 8 ≤ v.trial → gives (.verifySlice ch got0 got1) s (fun t =>
        (chan t ch).cstate = 2 ∧ (chan t ch).queue = [] ∧ (chan t ch).inflight = []))) ∧
    (∀ (inst : Fin 12) (reqs : BitVec 4) w,
      let req := roundReqs s inst reqs
      (inst.val < 4 → s.mem.frozen = false) → (4 ≤ inst.val → ∀ h, (arb s inst).holder = some h → inst.val < 11 ∧ req h = false) →
      let eff := fun m => if inst.val < 4 then dramEff s inst m else bits (arbCfg s inst m) 3 0
      let old := fun m => arbReq (arb s inst) m
      arbWinner (arb s inst) eff req = some w → gives (.arbRound inst reqs) s (fun t =>
        let new := fun m => arbReq (arb t inst) m
        (new w).age = 0 ∧ (new w).urgent = false ∧ (new w).grants = (old w).grants + 1 ∧
        (∀ m < 8, m ≠ w → req m = true → (old m).urgent = false → (old m).age < 14 → (new m).age = (old m).age + 1 ∧ (new m).urgent = false) ∧
        (4 ≤ inst.val → (arb t inst).holder = some w ∧ (arb t inst).left = arbBurst s inst w) ∧
        (∀ u, inst.val < 4 → nextUnit s inst w = some u → ∃ x ∈ (chan t u.ch).queue, x = u) ∧
        (∀ i : Fin 12, i ≠ inst → arb t i = arb s i) ∧ keepsBut [.mem] s t)) ∧
    (∀ (inst : Fin 12) (reqs : BitVec 4), (inst.val < 4 ∧ s.mem.frozen = true) ∨
        (4 ≤ inst.val ∧ ∃ h, (arb s inst).holder = some h ∧ roundReqs s inst reqs h = true) →
      exec (.arbRound inst reqs) s = .fault (.cannotOccur "ARB_ROUND"))

/-! Ingress: Towline, the layers and compression on arrival. -/

/-- What a Towline message is answered before its own effect (R66, R68, R69, R73): one in a frame that the MAC discards, or to another address or port
than Towline's, does nothing but count (R375, R376; log 125); a damaged one is dropped and counted; a bad header, length or
reserved field, a reserved type and a device that does not serve draw the NAK of the first check that fails; an announce that breaks a
limit of R71 is BAD_PARAM at that offset, one that changes a resident layer is CONFLICT; another session's layer is NOT_OWNER, and a layer
Released takes no block, no close (log 126) and no restart. A NAK changes no layer. -/
def Obligations.TowlineChecks : Prop :=
  ∀ (rx : Arrival) (ss : Session) (d : Bytes) (s : State), s.settled = true → awake s = true → netMode s rx.port ≠ 0 → rxUdp rx ss.v6 = true →
    let way := wireOf s ⟨rx.port, rx.frame.src⟩ 4 true
    let msg := fun (c : Instr) => (c = .towDrop rx ss d ∧ towDropCase d ≠ 0) ∨ (c = .towlineReservedType rx ss d ∧ towReserved d = true) ∨
      (c = .layerAnnounce rx ss d ∧ towIs 1 d = true) ∨ (c = .blockData rx ss d ∧ towIs 2 d = true) ∨ (c = .layerClose rx ss d ∧ towIs 3 d = true) ∨
      (c = .layerRestart rx ss d ∧ towIs 4 d = true) ∨ (c = .layerRelease rx ss d ∧ towIs 5 d = true) ∨ (c = .statusReq rx ss d ∧ towIs 6 d = true)
    let passed := fun (why : Option NetDrop) (t : State) => t.outbox = s.outbox ∧ keepsBut [.net] s t ∧
      (netPort t rx.port).rxCnt = (if why = none then (netPort s rx.port).rxCnt + 1 else (netPort s rx.port).rxCnt) ∧
      ∀ w i, why = some w → dropIndex w = some i →
        (netPort t rx.port).drop = vmod (netPort s rx.port).drop i (fun n => satAdd 8 n 1)
    let nak := fun (r fseq det : Nat) => Output.udp way ss (towPort s) (towMsg 0x82 (towLayer d) (beBytes 1 r ++ beBytes 1 (roleCode s) ++ beBytes 2 0xFFFF ++
      beBytes 2 0xFFFF ++ beBytes 2 0 ++ beBytes 4 fseq ++ beBytes 4 det))
    let no := 0xFFFFFFFF
    let refused := fun (o : Output) (t : State) => t.outbox = s.outbox ++ [o] ∧ t.tow = { s.tow with cntNak := s.tow.cntNak + 1 } ∧ keepsBut [.err, .net, .mgt, .tow] s t
    let serves := towHeaderBad d = none ∧ towLengthOk d = true ∧ towBodyBad d = none ∧ operational s = true
    (∀ c w, msg c → frameBad s rx.port rx.frame = some w → gives c s (passed (some w))) ∧
    (frameBad s rx.port rx.frame = none →
    (∀ c, msg c → datagramFor s rx ss.v6 (towPort s) = false → gives c s (passed none)) ∧
    (datagramFor s rx ss.v6 (towPort s) = true →
    (towDropCase d ≠ 0 → gives (.towDrop rx ss d) s (fun t =>
      t.outbox = s.outbox ∧ t.tow = { s.tow with cntDrop := s.tow.cntDrop + 1 } ∧ keepsBut [.err, .net, .mgt, .tow] s t)) ∧
    (towReserved d = true → towHeaderBad d = none → gives (.towlineReservedType rx ss d) s (refused (nak 3 no (byteAt d 3)))) ∧
    (∀ o, towReserved d = true → towHeaderBad d = some o → gives (.towlineReservedType rx ss d) s (refused (nak 2 no o))) ∧
    (∀ c, (c = .layerAnnounce rx ss d ∧ towIs 1 d = true) ∨ (c = .blockData rx ss d ∧ towIs 2 d = true) ∨ (c = .layerClose rx ss d ∧ towIs 3 d = true) ∨
        (c = .layerRestart rx ss d ∧ towIs 4 d = true) ∨ (c = .layerRelease rx ss d ∧ towIs 5 d = true) ∨ (c = .statusReq rx ss d ∧ towIs 6 d = true) →
      (∀ o, towHeaderBad d = some o → gives c s (refused (nak 2 no o))) ∧
      (towHeaderBad d = none → towLengthOk d = false → gives c s (refused (nak 2 no 4))) ∧
      (∀ o, towHeaderBad d = none → towLengthOk d = true → towBodyBad d = some o → gives c s (refused (nak 6 (if byteAt d 3 = 2 then beAt d 16 4 else no) o))) ∧
      (towHeaderBad d = none → towLengthOk d = true → towBodyBad d = none → operational s = false → gives c s (refused (nak 1 no (devCode s.sys.st))))) ∧
    (towIs 1 d = true → serves → (∀ o, annBad d = some o → gives (.layerAnnounce rx ss d) s (refused (nak 6 no o))) ∧
      (∀ x, annBad d = none → liveLayer s (towLayer d) = some x → x.params ≠ d.drop 16 → gives (.layerAnnounce rx ss d) s (refused (nak 5 no 0)))) ∧
    (∀ c k, (c = .blockData rx ss d ∧ k = 2) ∨ (c = .layerClose rx ss d ∧ k = 3) ∨ (c = .layerRestart rx ss d ∧ k = 4) → towIs k d = true → serves →
      let f := if k = 2 then beAt d 16 4 else no
      (layerOf s (towLayer d) = none → gives c s (refused (nak 4 f 0))) ∧
      (∀ l, layerOf s (towLayer d) = some l → l.sess ≠ ss → gives c s (refused (nak 11 f 0))) ∧
      (∀ l, layerOf s (towLayer d) = some l → l.sess = ss → resident l = false → gives c s (refused (if k = 4 then nak 19 f 6 else nak 4 f 0))))))

/-- What the layers' own messages do. An announce enters the layer in the directory and at the end of the print queue and is acknowledged (R71 to
R75); a fragment that passes is counted, kept under its block and its place in the frame, and its number is marked (R78 to R83); a close with
every block present makes the layer Ready (R91); a restart takes it to the head of the queue at its first line (R93); a release frees
it (R94); STATUS answers (R96); the acknowledgement timer acknowledges (R86). -/
def Obligations.TowlineServed : Prop :=
  ∀ (rx : Arrival) (ss : Session) (d : Bytes) (s : State), s.settled = true → awake s = true → netMode s rx.port ≠ 0 → rxUdp rx ss.v6 = true →
    frameBad s rx.port rx.frame = none → datagramFor s rx ss.v6 (towPort s) = true →
    let way := wireOf s ⟨rx.port, rx.frame.src⟩ 4 true
    let serves := towHeaderBad d = none ∧ towLengthOk d = true ∧ towBodyBad d = none ∧ operational s = true
    let id := towLayer d
    let ackTo := fun (x : Layer) (t : State) => Output.udp way ss (towPort s) (ackMsg s x x.lastCredit) ∈ t.outbox
    (towIs 1 d = true → serves → annBad d = none → annAbsent s (annLayer ss d) = none → s.plc.slots ≠ 0 → footprint (annLayer ss d) ≤ slotSize s →
      slotHolder s (slotFor s id) = none → layerBlocks (annLayer ss d) ≤ dirFree s → liveLayer s id = none → gives (.layerAnnounce rx ss d) s (fun t =>
        (∃ x, layerOf t id = some x ∧ x = { annLayer ss d with dir := dirTake s (layerBlocks (annLayer ss d)), st := .announced, lastCredit := x.lastCredit } ∧ ackTo x t) ∧
        t.tow.queue = s.tow.queue ++ [id] ∧ ∀ k, k ≠ id → layerOf t k = layerOf s k)) ∧
    (∀ l i, towIs 2 d = true → serves → liveLayer s id = some l → l.sess = ss → layerOf s id = some l →
      let fseq := beAt d 16 4
      let b := beAt d 22 2
      let frag := beAt d 24 2
      let total := beAt d 28 4
      let data := d.drop 32
      gotFseq l fseq = false → l.closeDone = false → fseq < l.ackCum + l.lastCredit → stageOpen s 1 = true → stripeIdx l (beAt d 20 2) = some i →
      fragFits l (some i) b frag total data.length = true → total ≤ frameSize l i b → (∀ k, blockOf l i b = some k → frag ∉ k.frags) →
      unhalted s 1 [l.id, fseq] l.id (beAt d 20 2) none → gives (.blockData rx ss d) s (fun t => t.tow.cntRx = s.tow.cntRx + 1 ∧
        (∃ x, layerOf t id = some x ∧ gotFseq x fseq = true) ∧
        ((match blockOf l i b with | some k => k.frags.length | none => 0) + 1 ≠ cdiv total l.fragSize →
          (id, i, b, lsaOf s l i b (frag * l.fragSize), data) ∈ t.tow.unwritten.map (fun u => (u.layer, u.sidx, u.b, u.lsa, u.data)) ∧
          ∃ x k, layerOf t id = some x ∧ blockOf x i b = some k ∧ frag ∈ k.frags))) ∧
    (∀ l, towIs 3 d = true → serves → liveLayer s id = some l → l.sess = ss → layerOf s id = some l → l.closeDone = false → beAt d 16 4 ≤ l.cum →
      missingBlocks l = [] → layerBlocks l ≤ presentCount l → (l.st = .announced ∨ l.st = .loading) → gives (.layerClose rx ss d) s (fun t =>
        ∃ x, layerOf t id = some x ∧ x.st = .ready ∧ x.closeDone = true ∧ x.blocks = l.blocks ∧ ackTo x t)) ∧
    (∀ l, towIs 4 d = true → serves → liveLayer s id = some l → l.sess = ss → layerOf s id = some l → s.sys.st = .ready →
      (l.st = .done ∨ (l.st = .printing ∧ l.suspended = true)) → gives (.layerRestart rx ss d) s (fun t =>
        t.tow.queue = id :: s.tow.queue.filter (· != id) ∧ t.sys = s.sys ∧
        ∃ x, layerOf t id = some x ∧ x.st = .ready ∧ x.k0 = beAt d 16 4 ∧ x.startMs = byteAt d 20 ∧ x.restarted = true ∧ x.blocks = l.blocks)) ∧
    (∀ l, towIs 5 d = true → serves → layerOf s id = some l → l.sess = ss → l.st ≠ .released →
      ¬ (l.st = .printing ∧ l.suspended = false ∧ (s.sys.st = .printing ∨ s.sys.st = .held)) → gives (.layerRelease rx ss d) s (fun t =>
        id ∉ t.tow.queue ∧ (∀ u ∈ t.tow.unwritten, u.layer ≠ id) ∧ ∃ x, layerOf t id = some x ∧ x.st = .released ∧ x.cause = 1 ∧ x.blocks = [])) ∧
    (towIs 6 d = true → serves → gives (.statusReq rx ss d) s (fun t =>
      Output.udp way ss (towPort s) (statusMsg s id (if id = 0xFFFFFFFF then none else layerOf s id)) ∈ t.outbox ∧ t.tow.queue = s.tow.queue ∧
      keepsBut [.err, .net, .tow] s t ∧ ∀ l, id ≠ 0xFFFFFFFF → layerOf s id = some l →
        Output.udp way ss (towPort s) (ackMsg s l (creditOf s l)) ∈ t.outbox ∧ (l.sess ≠ ss → t.tow = s.tow) ∧
        (l.sess = ss → layerOf t id = some { l with unacked := 0, ackArmed := false, lastCredit := creditOf s l, ackCum := l.cum }))) ∧
    (∀ (y : Word) l, layerOf s y.toNat = some l → l.ackArmed = true → gives (.ackTimer y) s (fun t => keepsBut [.net, .tow] s t ∧
      ∃ x, layerOf t y.toNat = some x ∧ x = { l with unacked := 0, ackArmed := false, lastCredit := x.lastCredit, ackCum := l.cum }))

/-- How a block becomes present. The last of a fragment's writes ends its wait, and the block is present once it has passed its checks and none of its
fragments waits (R81, R85, R310). A compressor takes the oldest waiting block that is written, and reads it (R103, R131); its chain drains into
the frame when a saving is certain (R128), is abandoned when it fills up first, and the block stays raw (R129; log 128), once the bytes that decide
it have been read; a drained block's length is what was put out (R130), and every way the block is then present and the compressor free. In Faulted
none of it goes on (R36). -/
def Obligations.BlocksBecomePresent : Prop :=
  ∀ (s : State), s.settled = true → s.sys.st ≠ .cold →
    let place := fun (u : Unwritten) => (u.layer, u.sidx, u.b, u.lsa, u.data)
    let now := fun (t : State) (id i b : Nat) (total : Option Nat) => ∃ x k, layerOf t id = some x ∧ blockOf x i b = some k ∧ k.st = .present ∧
      (∀ n, total = some n → k.len = n)
    (s.sys.st = .faulted → exec .fragmentWritten s = .fault (.cannotOccur "FRAGMENT_WRITTEN") ∧
      exec .compressorStart s = .fault (.cannotOccur "COMPRESSOR_START") ∧ ∀ c, exec (.chainDrain c) s = .fault (.cannotOccur "CHAIN_DRAIN") ∧
        exec (.compressAbandon c) s = .fault (.cannotOccur "COMPRESS_ABANDON") ∧
        exec (.compressionComplete c) s = .fault (.cannotOccur "COMPRESSION_COMPLETE")) ∧
    (s.sys.st ≠ .faulted →
    (∀ u, s.tow.unwritten.find? (fun u => u.queued && decide (u.left = 0)) = some u → gives .fragmentWritten s (fun t =>
      t.tow.unwritten.map place = (s.tow.unwritten.erase u).map place ∧
      (∀ l k, layerOf s u.layer = some l → blockOf l u.sidx u.b = some k → k.st = .checked →
        (s.tow.unwritten.erase u).any (fun x => x.layer == u.layer && x.sidx == u.sidx && x.b == u.b) = false → now t u.layer u.sidx u.b (some k.len)))) ∧
    (∀ j rest c l, s.cmp.wait = j :: rest → freeComp s = some c → blockWritten s j = true → layerOf s j.1 = some l → gives .compressorStart s (fun t =>
      let n := rawLen l j.2.1 j.2.2
      t.cmp.wait = rest ∧ comp t c = ⟨some j, false, objBytes s l j.2.1 j.2.2 32 n, s.mem.nextTag, unitCount (lsaOf s l j.2.1 j.2.2 32) n, 0, false⟩ ∧
      (∀ k, blockOf l j.2.1 j.2.2 = some k → ∃ x, layerOf t j.1 = some x ∧ blockOf x j.2.1 j.2.2 = some { k with st := .compressing c }) ∧
      keepsBut [.tow, .cmp, .mem] s t)) ∧
    (∀ (c : Fin 2) j l k, (comp s c).job = some j → layerOf s j.1 = some l → blockOf l j.2.1 j.2.2 = some k →
      let raw := fun (t : State) => (comp t c).job = none ∧ t.cmp.cntRaw = s.cmp.cntRaw + 1 ∧ t.cmp.inBytes = s.cmp.inBytes ∧
        t.cmp.cntBlk = s.cmp.cntBlk ∧ now t j.1 j.2.1 j.2.2 (some k.len)
      let at_ := fun (e : ChainEnd) => (chainEnd s c).1 = e ∧ (chainEnd s c).2 ≤ (comp s c).read
      ((comp s c).draining = false → at_ .drain → gives (.chainDrain c) s (fun t =>
        comp t c = { comp s c with draining := true, left := (comp s c).left + unitCount (lsaOf s l j.2.1 j.2.2 32) (compOut s c).length } ∧
        keepsBut [.cmp, .mem] s t)) ∧
      (at_ .full → gives (.compressAbandon c) s raw) ∧
      ((comp s c).left = 0 → (comp s c).draining = true → (comp s c).hdr = true → gives (.compressionComplete c) s (fun t =>
        (comp t c).job = none ∧ t.cmp.cntBlk = s.cmp.cntBlk + 1 ∧ t.cmp.inBytes = s.cmp.inBytes ∧
        t.cmp.outBytes = s.cmp.outBytes ∧ t.cmp.cntRaw = s.cmp.cntRaw ∧ now t j.1 j.2.1 j.2.2 (some (32 + (compOut s c).length)))) ∧
      ((comp s c).left = 0 → (comp s c).draining = false → at_ .raw → gives (.compressionComplete c) s raw)))

/-! Nozzle health and the drop gates. -/

/-- Changes of the nozzle table and sweeps of the gates. A host request whose result would be no entry is refused, one that comes while no grid is open
on its port changes its nozzle's entry at once under its mask and no other entry, and any other one waits for its line (R217 to R220); a due
change is one swap of one entry, and the results that a full queue held move up, each with its line counted from then (R217, R219, R223). START is accepted under R225 and R227 alone, ABORT ends a sweep after the slot in progress (R226);
a sweep that begins takes its first nozzle (R225); a test strike carries the test frame and counts a drop, not in the COUNT bank (R227,
R229); an edge is a drop's arrival, kept to 125 ps, in that drop's window alone (R227; log 19); a slot's result is counted, kept, and changes its nozzle's entry (R223, R228). -/
def Obligations.NozzlesAndGates : Prop :=
  ∀ (m : Master) (v : Word) (g : Gate) (s : State), s.settled = true → reaches m s = true → s.canon = true →
    let only := fun (n x : Nat) (t : State) => nozEntry t n = x ∧ ∀ k, k ≠ n → nozEntry t k = nozEntry s k
    let table := fun (t : State) => ∀ k, nozEntry t k = nozEntry s k
    let okd := fun (t : State) => Output.access m .ok v ∈ t.outbox
    let k := gate s g
    let others := fun (t : State) => ∀ i, i ≠ g.val → gate t i = gate s i
    ((∀ c, nzlReqBad v s = some c → gives (.nozzleRequest m v) s (fun t => t.outbox = accessed m .refused v s ∧ keepsBut [.err, .mgt] s t)) ∧
     (bit v 0 = false ∨ (isStandby s = true ∧ nzlReqBad v s = none) → gives (.nozzleRequest m v) s (fun t => t.outbox = accessed m .ok v s ∧ keepsBut [] s t)) ∧
     (bit v 0 = true → isStandby s = false → nzlReqBad v s = none →
       let n := (nzlReq s).1
       (nextLc s (nozPort n) = none → s.sys.st ≠ .faulted → gives (.nozzleRequest m v) s (fun t => okd t ∧
         only n (maskIn (nozEntry s n) (nzlReq s).2.1.toNat (nzlReq s).2.2.toNat) t ∧ t.nzl.queue = s.nzl.queue)) ∧
       (∀ l, nextLc s (nozPort n) = some l → gives (.nozzleRequest m v) s (fun t => okd t ∧ keepsBut [.nzl, .par] s t ∧
         ∃ x, t.nzl.queue = s.nzl.queue ++ [⟨n, .host (nzlReq s).2.1 (nzlReq s).2.2, some x, false⟩] ∧
           (bit v 1 = false → x = (l + updLead s) % 2 ^ 40) ∧ (∀ y, bit v 1 = true → s.nzl.hostPrev = some (nozPort n, y) → x = y))))) ∧
    (∀ c, nzDue s = some c →
      (∀ x, nzNext s c.kind (nozEntry s c.noz) = some x → gives .nozzleSwap s (fun t => only c.noz (x % 2 ^ 64) t ∧
        t.nzl.queue = s.nzl.queue.erase c ++ (s.nzl.held.take (64 - (s.nzl.queue.erase c).length)).map (nzQueued s))) ∧
      (nzNext s c.kind (nozEntry s c.noz) = none → gives .nozzleSwap s (fun t => table t ∧
        t.nzl.queue = s.nzl.queue.erase c ++ (s.nzl.held.take (64 - (s.nzl.queue.erase c).length)).map (nzQueued s)))) ∧
    ((gateAccepts s g = true → gives (.gateStart m g) s (fun t => t.outbox = accessed m .ok 1 s ∧ keepsBut [.gat, .cal] s t ∧ others t ∧
        gate t g = { k with busy := true, waitGrid := true, abort := false, todo := [], slotNo := 0, slot := none })) ∧
     (gateAccepts s g = false → gives (.gateStart m g) s (fun t => t.outbox = accessed m .refused 1 s ∧ keepsBut [.err, .mgt] s t))) ∧
    (gives (.gateAbortCmd m g) s (fun t => t.outbox = accessed m .ok 2 s ∧ keepsBut [.gat] s t ∧ others t ∧
      (k.busy = false → gate t g = k) ∧
      (∀ x, k.busy = true → k.slot = some x → gate t g = { k with abort := true }) ∧
      (k.busy = true → k.slot = none → (gate t g).busy = false ∧ (gate t g).queue = k.queue ∧ (gate t g).slot = none))) ∧
    (k.busy = true → k.waitGrid = true → gateGridOpen s g = false → k.abort = false → gives (.gateSweepBegin g) s (fun t =>
      keepsBut [.gat] s t ∧ others t ∧ t.outbox = s.outbox ∧
      (let first := fun n => some (⟨n, !(headPort s (nozPort n)).absent && (ownerOf s.fir.geo n).isSome, 0, List.replicate (gateDrops s g) none⟩ : GateSlot)
       (∀ n r, gateKind s g = 0 → k.queue = n :: r → (gate t g).slot = first n ∧ (gate t g).queue = r ∧ (gate t g).waitGrid = false) ∧
       (∀ n r, gateKind s g ≠ 0 → gateTodo s g = n :: r → (gate t g).slot = first n ∧ (gate t g).queue = k.queue ∧ (gate t g).waitGrid = false) ∧
       ((gateKind s g = 0 ∧ k.queue = []) ∨ (gateKind s g ≠ 0 ∧ gateTodo s g = []) → (gate t g).busy = false ∧ (gate t g).slot = none)))) ∧
    (∀ x, k.slot = some x →
      (x.tested = true → x.strikes < gateDrops s g → gives (.gateTestStrike g) s (fun t => keepsBut [.gat, .gul] s t ∧ others t ∧
        (gate t g).slot = some { x with strikes := x.strikes + 1 } ∧
        (let p := nozPort x.noz
         let strobe := bits (nth s.fir.geo.stb p 0) 9 0
         let pol := bit (nth s.fir.geo.stb p 0) 30
         ((headPort s p).st = .active → (gate t g).drops = k.drops + 1 ∧
           t.outbox = s.outbox ++ [laneOut s p (frameSyms (lineBytesOf (testFrame s g x.noz))), .testStrike p strobe pol true]) ∧
         ((headPort s p).st ≠ .active → (gate t g).drops = k.drops ∧ t.gul = s.gul ∧ t.outbox = s.outbox ++ [.testStrike p strobe pol false])))) ∧
      (∀ z, gives (.gateEdge g z) s (fun t => keepsBut [.gat] s t ∧ others t ∧ t.outbox = s.outbox ∧
        (let sp := 16 * gateSpacing s g (nozPort x.noz)
         ∃ y, (gate t g).slot = some y ∧ y.arrivals.length = x.arrivals.length ∧ y.strikes = x.strikes ∧ y.noz = x.noz ∧
          ∀ i < x.arrivals.length, y.arrivals[i]? = x.arrivals[i]?.map (fun a =>
            if a = none ∧ i < x.strikes ∧ i * sp + 800 * gateOpen s g ≤ z ∧ z < i * sp + 800 * gateClose s g then some (z - i * sp) else a)))) ∧
      (∀ noise, x.tested = false ∨ x.strikes = gateDrops s g → gives (.gateSlotResult g noise) s (fun t =>
        (gate t g).result = gateResult s g x noise ∧ (gate t g).resNoz = x.noz ∧ (gate t g).cnt = (if x.tested then k.cnt + 1 else k.cnt) ∧
        (isStandby s = true → table t) ∧
        (isStandby s = false → ∀ l, nextLc s (nozPort x.noz) = some l → table t) ∧
        (isStandby s = false → nextLc s (nozPort x.noz) = none → s.sys.st ≠ .faulted →
          only x.noz (gateNext (nzlConf s) (gateResult s g x noise) (nozEntry s x.noz) % 2 ^ 64) t))))

/-! In-line inspection. -/

/-- Camera packets, stripes and records. Packets of a disabled port do nothing, those of a context that takes none, of another data type than the
context's FMT, and of a channel or type that no context takes are ignored and counted; a header's error is counted, and the lanes' state is shown
(R277, R278, R289, R298); a frame start, which comes after a knot that is due (R289), closes the open frame and opens a frame with the context's registers, count, epoch and the oldest queued trigger's tag (R280
to R282); its end marks it short if lines are missing (R280); a good line goes into the port's buffer as stripes of 256 pixels, a bad one is
counted and gives none (R277, R279, R283; log 135); the stripe granted leaves the buffer and its pixels inside the region enter the statistics (R284,
R286, R287); a judged frame is marked, with at most SMAX reports (R293, R296); its record goes into the next slot of the VIEW bank, or is
dropped while eight are held (R291, R292); a release frees a slot (R291). -/
def Obligations.Inspection : Prop :=
  ∀ (c : Ctx) (s : State), s.settled = true → s.canon = true → operational s = true →
    let p := c.val / 2
    let k := camCtx s c
    let has := fun (t : State) (n : Nat) (f : CamFrame) => (camCtx t c).frames.find? (fun x => x.key == n) = some f
    let ignored := fun (t : State) => camPort t p = { camPort s p with ign := (camPort s p).ign + 1 } ∧ camCtx t c = k
    (∀ i, (i = Instr.camFrameEnd c ∨ (s.sys.knotDue = none ∧ ∃ n, i = .camFrameStart c n) ∨ ∃ dt d b, lineType dt.toNat = true ∧ i = .camLineRx c (dt, d) b) →
      (camPortEn s p = false → gives i s (fun t => keepsBut [] s t ∧ t.outbox = s.outbox)) ∧
      (camPortEn s p = true → ctxEn s c = false → openFrame s c = none → gives i s ignored)) ∧
    (s.sys.knotDue.isSome = true → ∀ n, exec (.camFrameStart c n) s = .fault (.cannotOccur "CAM_FRAME_START")) ∧
    (∀ dt d b, lineType dt.toNat = true → camPortEn s p = true → ctxEn s c = true →
      (∀ f, openFrame s c = some f → dt.toNat ≠ fmtType (frFmt f) → gives (.camLineRx c (dt, d) b) s ignored) ∧
      (openFrame s c = none → dt.toNat ≠ fmtType (bits (actVal s (base 20 + 0x1000 + 0x40 * c)) 27 24) → gives (.camLineRx c (dt, d) b) s ignored) ∧
      (openFrame s c = none → dt.toNat = fmtType (bits (actVal s (base 20 + 0x1000 + 0x40 * c)) 27 24) →
        gives (.camLineRx c (dt, d) b) s (fun t => t.insp = s.insp))) ∧
    (∀ (port : Fin 4) (vc : BitVec 4) (dt : BitVec 6), camIgnorable (.packet vc dt) = true ↔
      ¬ (vc.toNat ≤ 1 ∧ (dt.toNat ≤ 1 ∨ dt.toNat ∈ [0x24, 0x2A, 0x2B, 0x2C]))) ∧
    (∀ (port : Fin 4) (w : CamIgnored), camIgnorable w = true → camPortEn s port = true → gives (.camPacketIgnored port w) s (fun t => t.insp.ctxs = s.insp.ctxs ∧
      (let q := camPort s port
       camPort t port = (match w with
        | .packet _ _ => { q with ign := q.ign + 1 }
        | .escape => q
        | .lanes hs ulps => { q with hs := hs, ulps := ulps }
        | .badHeader => { q with hdrUnc := min (q.hdrUnc + 1) 0xFFFF }
        | .correctedHeader => { q with hdrCorr := min (q.hdrCorr + 1) 0xFFFF })))) ∧
    (∀ n : BitVec 16, s.sys.knotDue = none → camPortEn s p = true → ctxEn s c = true →
      let opened := fun (f : CamFrame) => f.key = k.opened ∧ f.fnum = k.fnum ∧ f.csifn = n.toNat ∧ f.isOpen = true ∧ f.regs = ctxRegs s c ∧ f.epoch = s.sys.epoch ∧
        f.shuf = s.nzl.shufActive ∧ f.pos = 0 ∧ f.used = [] ∧ f.tag = (match k.trigs with | x :: _ => x | [] => none)
      gives (.camFrameStart c n) s (fun t => (camCtx t c).fnum = (k.fnum + 1) % 2 ^ 32 ∧
        (camCtx t c).trigs = k.trigs.drop 1 ∧
        (∃ fs f, (camCtx t c).frames = fs ++ [f] ∧ opened f ∧ fs.length = k.frames.length ∧ (openFrame s c = none → fs = k.frames)) ∧
        ∀ f, openFrame s c = some f → has s f.key f → has t f.key { f with isOpen := false, short := decide (f.pos < frHeight f) })) ∧
    (camPortEn s p = true → ctxEn s c = true → openFrame s c = none → gives (.camFrameEnd c) s (fun t => t.insp = s.insp)) ∧
    (∀ f, camPortEn s p = true → openFrame s c = some f → has s f.key f →
      gives (.camFrameEnd c) s (fun t => has t f.key { f with isOpen := false, short := decide (f.pos < frHeight f) } ∧ t.insp.ports = s.insp.ports) ∧
      (∀ dt d, dt.toNat = fmtType (frFmt f) → f.pos < frHeight f → d.length = pixBytes (frFmt f) (frWidth f) →
        bufUse (camPort s p) + sumN ((lineStripes c f f.pos d).map (fun x => x.data.length)) ≤ 65536 →
        gives (.camLineRx c (dt, d) (crc16 d)) s (fun t => (camPort t p).buf = (camPort s p).buf ++ lineStripes c f f.pos d ∧ has t f.key { f with pos := f.pos + 1 })) ∧
      (∀ dt d b, dt.toNat = fmtType (frFmt f) → f.pos < frHeight f → b ≠ crc16 d ∨ d.length ≠ pixBytes (frFmt f) (frWidth f) →
        gives (.camLineRx c (dt, d) b) s (fun t => has t f.key { f with pos := f.pos + 1, badLine := true } ∧
          camPort t p = { camPort s p with
            crcErr := if b = crc16 d then (camPort s p).crcErr else min ((camPort s p).crcErr + 1) 0xFFFF
            lenErr := if d.length = pixBytes (frFmt f) (frWidth f) then (camPort s p).lenErr else min ((camPort s p).lenErr + 1) 0xFFFF })) ∧
      (∀ dt d, dt.toNat = fmtType (frFmt f) → frHeight f ≤ f.pos → d.length = pixBytes (frFmt f) (frWidth f) →
        gives (.camLineRx c (dt, d) (crc16 d)) s (fun t =>
        has t f.key { f with long := true } ∧ t.insp.ports = s.insp.ports))) ∧
    (∀ x, stripeNext s = some x → x.ctx = c.val →
      gives .stripeProcess s (fun t => (camPort t p).buf = (camPort s p).buf.erase x ∧
        ∀ f, has s x.key f → frBayer f = false → ∃ g, has t x.key g ∧ x.line ∈ g.used ∧
          g.pixels = f.pixels + (if (frY f).1 ≤ x.line ∧ x.line ≤ (frY f).2 then
            ((List.range x.npix).filter (fun i => decide ((frX f).1 ≤ x.x0 + i ∧ x.x0 + i ≤ (frX f).2))).length else 0))) ∧
    (∀ f, frameReady s c = some f →
      (streakRuns f = true → f.streakDone = false → gives (.streakDetect c) s (fun t => (camCtx t c).frames.map (·.key) = k.frames.map (·.key) ∧
        ∃ g, has t f.key g ∧ g.streakDone = true ∧ g.reports ≤ bits (frReg f 16) 7 0)) ∧
      (streakRuns f = false ∨ f.streakDone = true →
        let slot := 0x50000 + 0x28000 * c.val + 0x5000 * k.next
        let d := recordData f
        (k.held < 8 → gives (.recordWrite c) s (fun t => (camCtx t c).frames = k.frames.drop 1 ∧ (camCtx t c).held = k.held + 1 ∧
          (camCtx t c).next = (k.next + 1) % 8 ∧ bankBytes t 4 slot (64 + d.length) = recordHeader c f d ++ d ∧
          ∀ a, a < slot ∨ slot + 64 + d.length ≤ a → bankByte t 4 a = bankByte s 4 a)) ∧
        (8 ≤ k.held → gives (.recordWrite c) s (fun t => (camCtx t c).frames = k.frames.drop 1 ∧ (camCtx t c).held = k.held ∧
          (camCtx t c).dropped = min (k.dropped + 1) 0xFFFF ∧ t.mem = s.mem)))) ∧
    (∀ (m : Master) (v : Word), reaches m s = true → gives (.recordRelease m c v) s (fun t => t.outbox = accessed m .ok v s ∧ keepsBut [.insp] s t ∧
      camCtx t c = { k with held := if bit v 0 then k.held - 1 else k.held }))

/-! The stepper axes. -/

/-- The axes. A profile update with nothing else in force moves p, v and a as the axis's mode says, in POSITION to the target itself once within one
microstep and slow enough (R339 to R344); a microstep takes POS one towards it (R339); a phase ends ON after its blanking once
the sense is at or above hi, and OFF once it is below lo or TOFFMAX has passed; one that ends ON goes to its OFF drive with its length kept, and one
that ends OFF starts ON by the sign of e, or stays OFF where T is 0, each bridge turning gates off at once and on after DEAD (R333, R336, R337); eight short ON phases take the
drives OFF and clear EN, POS_VALID and standstill (R349); an active hard limit towards which the axis moves begins a stop, in GEAR in
POSITION mode (R347); the input's end, holding current and standstill change one flag each (R347, R352). -/
def Obligations.AxisEvents : Prop :=
  ∀ (a : Axis) (s : State), s.settled = true → s.sys.st ≠ .cold →
    let k := axis s a
    let others := fun (t : State) => ∀ i, i ≠ a.val → axis t i = axis s i
    let shuffles := bit (actVal s 0x100020) 31 = true ∧ bits (actVal s 0x100020) 30 29 = a.val
    let ctl := axReg s a 0
    let lo := (verges s a).1
    let hi := (verges s a).2
    let dmax := axDmax s a
    let amax : Int := (bits (axK s a 0x14) 23 0 : Nat)
    let vmax : Int := (bits (axK s a 0x10) 19 0 : Nat)
    let stop := k.p + (k.v * (k.v.natAbs : Int)).tdiv (65536 * 2 * dmax)
    let tgt := axTarget s a * 65536
    let steady := operational s = true ∧ ¬ shuffles ∧ k.rwl = axsSlice a s.regs ∧ bits (axL s a 0x2C) 1 0 = k.mode ∧ bits (axL s a 0x2C) 5 4 = k.src ∧
      k.stallPend = false ∧ k.knotPend = false ∧ k.gatArmed = false ∧ k.limStop = none ∧ k.hardStop = 0 ∧ k.fstop = false ∧ k.vHold = 0 ∧
      (0 < k.v → stop ≤ hi) ∧ (k.v < 0 → lo ≤ stop)
    let moves := fun (x : AxisState) (t : State) => (axis t a).p = x.p ∧ (axis t a).v = x.v ∧ (axis t a).a = x.a ∧ (axis t a).ramp = x.ramp ∧
      (axis t a).goal = x.p.tdiv 65536 ∧ (axis t a).pos = k.pos ∧ others t
    (steady → k.mode = 0 → ¬ (k.v = 0 ∧ limitOn s a (sg (tgt - k.p)) = true) →
      gives (.axisProfileUpdate a) s (moves (posStep amax dmax vmax (axK s a 0x20).toNat tgt lo hi k)) ∧
      ((tgt - k.p).natAbs ≤ 65536 → (k.v.natAbs : Int) ≤ (amax * 65536).tdiv 100000 →
        gives (.axisProfileUpdate a) s (moves { k with p := tgt, v := 0, a := 0, ramp := false }))) ∧
    (steady → k.mode = 1 → let vt := clampInt (-vmax) vmax (axL s a 0x28).toInt * 65536
      limitOn s a (sg vt) = false → gives (.axisProfileUpdate a) s (moves (velStep amax dmax vt lo hi k))) ∧
    (steady → k.mode = 2 → gives (.axisProfileUpdate a) s (fun t => moves (gearStep amax vmax (gearCmd s a) lo hi k) t ∧
      (axis t a).lag = (gearStep amax vmax (gearCmd s a) lo hi k).lag)) ∧
    (operational s = true → k.pos ≠ k.goal → ¬ shuffles → gives (.microstep a) s (fun t => others t ∧ (axis t a).p = k.p ∧ (axis t a).v = k.v ∧
      (axis t a).goal = k.goal ∧ (axis t a).pos = (if k.pos < k.goal then k.pos + 1 else k.pos - 1))) ∧
    (∀ b (dur sense mid : Nat), axDrives s a = true →
      let ph := phaseOf k b
      let hyst : Int := (bits (axL s a 8) 23 16 / 2 : Nat)
      let blank := bits ctl 15 8
      let toff := 200 * bits (axL s a 8) 15 8
      let on := ph.drive = 1 ∨ ph.drive = 2
      let off := ph.drive = 3 ∨ ph.drive = 4
      let onEnds := blank ≤ dur ∧ clampInt 0 1023 (phT s a b + ph.ofs + hyst) ≤ sense
      let offEnds := dur = toff ∨ (blank ≤ dur ∧ dur < toff ∧ sense < clampInt 0 1023 (phT s a b + ph.ofs - hyst))
      let goes := fun (d : Nat) (t : State) => others t ∧ (phaseOf (axis t a) b).drive = d ∧ phaseOf (axis t a) (!b) = phaseOf k (!b) ∧ keepsBut [.axs] s t ∧
        let old := gatesOn ph.drive ph.lastPos
        let new := gatesOn d (if d = 1 then true else if d = 2 then false else ph.lastPos)
        t.outbox = s.outbox ++ .bridge a (b2n b 0) (old &&& new) 0 ::
          (if new = old &&& new then [] else [.bridge a (b2n b 0) new (if old &&& gateMates new = 0 then 0 else bits ctl 23 16)])
      (on → onEnds → gives (.chopperPhase a b dur sense mid) s (fun t => goes (if bit ctl 30 then 3 else 4) t ∧
        (phaseOf (axis t a) b).lastOn = dur ∧ (phaseOf (axis t a) b).shorts = (if dur = blank then ph.shorts + 1 else 0))) ∧
      (off → offEnds → gives (.chopperPhase a b dur sense mid) s (goes (if axT s a b = 0 then 0 else if 0 < axE k b then 1 else 2))) ∧
      ((on ∧ ¬ onEnds) ∨ (off ∧ ¬ offEnds) → exec (.chopperPhase a b dur sense mid) s = .fault (.cannotOccur "CHOPPER_PHASE"))) ∧
    (8 ≤ k.phA.shorts ∨ 8 ≤ k.phB.shorts → s.canon = true → gives (.overcurrent a) s (fun t => others t ∧ axReg t a 0 = ctl &&& 0x7FFFFFFF ∧
      (axis t a).en = false ∧ (axis t a).posValid = false ∧ (axis t a).standstill = false ∧ (axis t a).phA.drive = 0 ∧ (axis t a).phB.drive = 0 ∧
      (axis t a).phA.shorts = 0 ∧ (axis t a).phB.shorts = 0 ∧ (axis t a).stat.getLsbD 7 = true ∧ (s.err.fatalHeld = false → logged .fault Err.axOvercurrent s t))) ∧
    (∀ h : Bool, let set := if h then { k with limHi := true } else { k with limLo := true }
      let towards := bit ctl 27 = true ∧ (if h then 0 < k.v else k.v < 0)
      (¬ towards → gives (.hardLimit a h) s (fun t => others t ∧ axis t a = set ∧ keepsBut [.axs] s t)) ∧
      (towards → k.mode ≠ 2 → gives (.hardLimit a h) s (fun t => others t ∧ axis t a = { set with stat := k.stat ||| 0x20, hardStop := 1, limStop := none } ∧
        (s.err.fatalHeld = false → logged .fault Err.axHardlim s t))) ∧
      (towards → k.mode = 2 → s.canon = true → gives (.hardLimit a h) s (fun t => others t ∧ (axis t a).mode = 0 ∧ (axis t a).hardStop = 2 ∧ (axis t a).limStop = none ∧
        axReg t a 0x2C = axReg s a 0x2C &&& 0x30 ∧ (s.err.fatalHeld = false → logged .fault Err.axGearStop s t)))) ∧
    (∀ h : Bool, gives (.limitInputInactive a h) s (fun t => others t ∧ axis t a = (if h then { k with limHi := false } else { k with limLo := false }) ∧
      keepsBut [.axs] s t)) ∧
    (k.v = 0 → k.holdCur = false → gives (.axisHoldCurrent a) s (fun t => others t ∧ axis t a = { k with holdCur := true } ∧ keepsBut [.axs] s t)) ∧
    (k.v = 0 → k.posValid = true → k.mode ≠ 2 → k.standstill = false → gives (.axisStandstill a) s (fun t => others t ∧
      axis t a = { k with standstill := true } ∧ keepsBut [.axs] s t))

/-- Writes to the registers of an axis. TARGET, VTARGET, MODE, SETPOS and GATHI are stored where they are accepted (R340, R344, R345, R351): a new target
ends the present ramp (R341), a velocity away from the verge ends the hold there (R346), SETPOS sets TARGET and every position without
moving the current (R351), GATHI arms the switch at its position, or makes it at once where the master stands there (R345). A refused one
changes no register. The table window reads and writes the shadow entry indexed, and its index moves on under AUTOINC (R334, R335). -/
def Obligations.AxisRegisters : Prop :=
  ∀ (m : Master) (a : Axis) (v n : Word) (s : State), reaches m s = true → s.settled = true → s.canon = true →
    let o := accessed m .ok v s
    let k := axis s a
    let upd := fun (f : AxisState → AxisState) => vmod s.axs a f
    let denied := fun (t : State) => t.outbox = accessed m .refused v s ∧ keepsBut [.err, .mgt] s t
    let g := sgn 48 ((regVal s (axsAddr a 0x40)).toNat + 2 ^ 32 * bits v 15 0)
    let sig := sg (rcDiff (enc s k.src).rc g)
    let armed := fun (k : AxisState) => { k with gat := g, gatArmed := true, sigma := sig }
    let i := bits (regVal s 0x160000) 9 0
    let ax := bits (regVal s 0x160000) 13 12
    let stepped := fun (r : WMap) => if bit (regVal s 0x160000) 31 then spSet (regReset 0x160000) r 0x160000 (regVal s 0x160000 &&& 0xFFFFFC00 ||| w32 ((i + 1) % 1024)) else r
    (stores (axsAddr a 0x24) v s = some n → exec (.axisTargetWrite m a v) s = .next { setReg (axsAddr a 0x24) n s with
      outbox := o, axs := upd (fun k => { k with ramp := false }) }) ∧
    (stores (axsAddr a 0x28) v s = some n → exec (.axisVtargetWrite m a v) s = .next { setReg (axsAddr a 0x28) n s with
      outbox := o, axs := upd (fun k => { k with vHold := if k.vHold * v.toInt < 0 then 0 else k.vHold }) }) ∧
    (stores (axsAddr a 0x2C) v s = some n → exec (.axisModeWrite m a v) s = .next { setReg (axsAddr a 0x2C) n s with outbox := o }) ∧
    (stores (axsAddr a 0x54) v s = some n → gives (.axisSetpos m a v) s (fun t => t.outbox = o ∧ keepsBut [.regs, .axs] s t ∧
      t.regs = spSet (regReset (axsAddr a 0x24)) (spSet (regReset (axsAddr a 0x54)) s.regs (axsAddr a 0x54) n) (axsAddr a 0x24) v ∧
      (axis t a).p = v.toInt * 65536 ∧ (axis t a).pos = v.toInt ∧ (axis t a).goal = v.toInt ∧ (axis t a).a = 0 ∧ (axis t a).posValid = true ∧
      ((axis t a).pos + (axis t a).iofs) % 1024 = (k.pos + k.iofs) % 1024)) ∧
    (stores (axsAddr a 0x44) v s = some n → sig ≠ 0 → exec (.axisGearSchedule m a v) s = .next { setReg (axsAddr a 0x44) n s with outbox := o, axs := upd armed }) ∧
    (stores (axsAddr a 0x44) v s = some n → sig = 0 → gives (.axisGearSchedule m a v) s (fun t => t.outbox = o ∧ keepsBut [.regs, .axs] s t ∧
      (axis t a).gatArmed = false ∧ (axis t a).mbase = g ∧ (axis t a).ratio = (regVal s (axsAddr a 0x3C)).toInt ∧
      (axis t a).gbase = k.gbase + ((rcDiff g k.mbase * k.ratio) >>> 16) * 65536)) ∧
    (stores (axsAddr a 0x24) v s = none → gives (.axisTargetWrite m a v) s denied) ∧
    (stores (axsAddr a 0x28) v s = none → gives (.axisVtargetWrite m a v) s denied) ∧
    (stores (axsAddr a 0x2C) v s = none → gives (.axisModeWrite m a v) s denied) ∧
    (stores (axsAddr a 0x54) v s = none → gives (.axisSetpos m a v) s denied) ∧
    (stores (axsAddr a 0x44) v s = none → gives (.axisGearSchedule m a v) s denied) ∧
    (bits v 25 16 ≠ 512 → bits v 9 0 ≠ 512 → exec (.axisTableAccess m (.write v)) s = .next { s with
      outbox := o, regs := stepped s.regs
      axs := vmod s.axs ax (fun k => { k with tblShadow := spSet (sineWord i) k.tblShadow i (v &&& 0x03FF03FF) }) }) ∧
    (bits v 25 16 = 512 ∨ bits v 9 0 = 512 → gives (.axisTableAccess m (.write v)) s (fun t => t.outbox = accessed m .refused v s ∧
      t.regs = stepped s.regs ∧ keepsBut [.regs, .err, .mgt] s t)) ∧
    exec (.axisTableAccess m .read) s = .next { s with
      outbox := accessed m .ok (tblEntry (axis s ax).tblShadow i) s, regs := stepped s.regs }

/-! The lamps. -/

/-- The lamps. A scan frame start takes the swap pending, unless Held: the buffers change roles, the knotted values become those in force, SWAPS
goes up and each enabled chain that is idle begins its update; every SYNCPER-th requests one where SYNC is 2; cure-follows-print zones are dark in
Stopped; what is shown is one row or the matrix in its slots, and nothing while EN is 0 (R358 to R360, R362, R368, R371). A request
while one is pending is counted and is a Notice (R360, R361). An echo that differs, begins more than NDRV + 2 clocks late or never begins is a
Fault, once per update (R369). GO sends a configuration
frame after what is under way (R370). The data registers reach the back buffer and the shadow points, and their index moves on under AUTOINC,
a point's within its set (R355, R360, R362; log 32). -/
def Obligations.LampsShowAndSwap : Prop :=
  ∀ (m : Master) (c : Fin 2) (v : Word) (s : State), s.settled = true →
    let o := accessed m .ok v s
    let held := decide (s.sys.st = .held)
    let swap := s.lmp.swapPend && !held
    let zi := regVal s 0x170010
    let ui := regVal s 0x170100
    let step := fun (a n : Nat) => if bit (regVal s a) 31 then spSet (regReset a) s.regs a (w32 (2 ^ 31 + n)) else s.regs
    let zs := step 0x170010 ((bits zi 9 0 + 1) % 1024)
    let us := step 0x170100 (512 * bits ui 10 9 + (bits ui 8 0 + 1) % 257)
    let other := fun (t : State) (n : Nat) => (lbChain t n).toSend = (lbChain s n).toSend ∧ (lbChain t n).busy = (lbChain s n).busy
    (operational s = true → gives .scanFrameStart s (fun t =>
      t.lmp.bufA = s.lmp.bufA ∧ t.lmp.bufB = s.lmp.bufB ∧ t.lmp.frontB = (if swap then !s.lmp.frontB else s.lmp.frontB) ∧
      t.lmp.swaps = (if swap then s.lmp.swaps + 1 else s.lmp.swaps) ∧ t.lmp.sinceSwap = (if swap then 1 else s.lmp.sinceSwap + 1) ∧
      t.lmp.inForce = (if swap then s.act.filter (fun x => decide (0x170000 ≤ x.1) && decide (x.1 < 0x180000)) else s.lmp.inForce) ∧
      t.lmp.utblForce = (if swap then s.lmp.utblActive else s.lmp.utblForce) ∧ t.lmp.dark = decide (s.sys.st = .stopped) ∧
      t.lmp.swapPend = ((s.lmp.swapPend && held) || (decide (bits (lampForce t 0) 29 28 = 2) && decide (t.lmp.sinceSwap % bits (lampForce t 4) 15 0 = 0))) ∧
      (held = true → t.lmp.cfp = s.lmp.cfp) ∧
      (swap = true → bit (lbCtl t c) 31 = true → (lbChain s c).busy = false → (lbChain t c).busy = true ∧ (lbChain t c).toSend = (lbChain s c).toSend ++ lbusUpdate t c) ∧
      let f := lampForce t 0
      let row := fun (r : Nat) => (List.range 64).map (fun c => zoneDuty t (64 * r + c))
      ∃ os, t.outbox = s.outbox ++ os ++ [.scan
        (if bit f 31 = false then [] else if bit f 30 then (List.range 16).map (fun r => (some r, row r)) else [(none, row 0)])
        (8 + bits f 19 16) (bits f 15 8) (bits f 7 0)])) ∧
    (operational s = true → (lbChain s c).sent = true → ∀ f r, (lbChain s c).toSend = f :: r → ∀ ret : Option (Nat × Bytes),
      let good := ∃ n : Nat, ret = some (n, f) ∧ n ≤ bits (lbCtl s c) 20 16 + 1 + 2
      gives (.lbusFrameEcho c ret) s (fun t =>
        (lbChain t c).toSend = r ∧ (lbChain t c).busy = ((lbChain s c).busy && !isLatch f) ∧ other t (1 - c.val) ∧
        (good → (lbChain t c).echo = (lbChain s c).echo ∧ t.err = s.err) ∧
        (¬ good → (lbChain t c).echo = true ∧ ((lbChain s c).echoed = false → s.err.fatalHeld = false → logged .fault Err.lbusEcho s t)))) ∧
    (reaches m s = true →
      (bit v 0 = false → exec (.lampSwapRequest m v) s = .next { s with outbox := o }) ∧
      (bit v 0 = true → s.lmp.swapPend = false → exec (.lampSwapRequest m v) s = .next { s with outbox := o, lmp := { s.lmp with swapPend := true } }) ∧
      (bit v 0 = true → s.lmp.swapPend = true → gives (.lampSwapRequest m v) s (fun t => t.outbox = o ∧ t.lmp = { s.lmp with ovr := satAdd 16 s.lmp.ovr 1 } ∧
        (s.err.fatalHeld = false → mayLog s Err.swapOvr 0 (ms 1) = true → logged .notice Err.swapOvr s t))) ∧
      (let go := bit v 0 && operational s && bit (lbCtl s c) 31
       let a := regVal s (0x170208 + 0x20 * c.val)
       let f := lbusFrame (bits a 21 16) 3 (beBytes 1 (bits a 7 0) ++ beBytes 2 (bits (regVal s (0x17020C + 0x20 * c.val)) 15 0))
       (go = false → exec (.lbusCfgWrite m c v) s = .next { s with outbox := o }) ∧
       (go = true → gives (.lbusCfgWrite m c v) s (fun t => (lbChain t c).toSend = (lbChain s c).toSend ++ [f] ∧ (lbChain t c).busy = (lbChain s c).busy ∧
        other t (1 - c.val) ∧ ((lbChain s c).toSend = [] → (lbChain s c).sent = false → .lbus c (bits (lbCtl s c) 7 0) f ∈ t.outbox)))) ∧
      exec (.lampZoneAccess m .read) s = .next { s with
        outbox := accessed m .ok (spGet 0 (if s.lmp.frontB then s.lmp.bufA else s.lmp.bufB) (bits zi 9 0)) s, regs := zs } ∧
      exec (.lampZoneAccess m (.write v)) s = .next { s with
        outbox := o, regs := zs
        lmp := if s.lmp.frontB then { s.lmp with bufA := spSet 0 s.lmp.bufA (bits zi 9 0) (w32 (bits v 15 0)) }
          else { s.lmp with bufB := spSet 0 s.lmp.bufB (bits zi 9 0) (w32 (bits v 15 0)) } } ∧
      exec (.lampUtblAccess m .read) s = .next { s with outbox := accessed m .ok (spGet 0 s.lmp.utblShadow (bits ui 10 0)) s, regs := us } ∧
      exec (.lampUtblAccess m (.write v)) s = .next { s with
        outbox := o, regs := us, lmp := { s.lmp with utblShadow := spSet 0 s.lmp.utblShadow (bits ui 10 0) (w32 (bits v 15 0)) } })

/-! Calibration. -/

/-- Calibration. A rotation begins with the generator queued, or the next in turn, and its spare is to be measured first; test edges walk the
spare's FTRIM one unit towards the working generator's edge, count the comparisons within 6 ps, and after the sixteenth in a row change
places: HANDOVER out of MATCH, and back at the end of RETURN (R442, R445). A measurement chooses the tap map closest to multiples of 125 ps and the FTRIM of the least mean edge error, at once, and
takes its group to MATCH or RETURN (R443, R445; what closest means is log 136); one that fails takes the generator out of service, the spare standing in for good, and a second one in its
group is Fatal (R445, R447). CAL_FORCE queues a generator. A comparator is measured while its owner is idle, takes the input stage of the smallest offset,
keeps it from the first time on, and fails with a Fault when no stage lies within 31 codes (R449, R450). A slew step moves one value by one unit
towards its goal, a generator's off the pin by the whole difference, and no other; a write reference goes by mode register write (R303, R442). -/
def Obligations.CalibrationRuns : Prop :=
  ∀ (m : Master) (g : Fin 4) (v : Word) (s : State), s.settled = true → s.sys.st ≠ .cold →
    let k := fegGroup s g
    let sp := 64 + g.val
    let put := fun (fs : Vector Feg 68) (f : FegGroup → FegGroup) => { s with cal := { s.cal with fegs := fs, groups := vmod s.cal.groups g f } }
    let fegs := s.cal.fegs
    (bit (regVal s 0x190000) 31 = true → operational s = true → k.phase = 0 → k.stopped = false → (feg s sp).measured = true →
      exec (.fegRotationStart g) s = .next (put (vmod fegs sp (fun f => { f with measured := false })) (fun _ =>
        match k.forced with | p :: r => { k with port := p, forced := r } | [] => { k with port := 16 * g + k.next, next := (k.next + 1) % 16 }))) ∧
    (∀ d : Int, operational s = true → nextLc s k.port = none → k.phase = 1 ∨ k.phase = 4 →
      let w := clampInt 0 63 ((feg s sp).ftrim.serv + (if 0 < d then -1 else 1))
      (6 < d.natAbs → exec (.fegTestEdge g d) s = .next (put
        (vmod fegs sp (fun f => { f with ftrim := ⟨w, w, false, calMeasured s (4096 + sp) w, 0⟩, stepped := true })) (fun k => { k with matches_ := 0 }))) ∧
      (d.natAbs ≤ 6 → k.matches_ < 15 → exec (.fegTestEdge g d) s = .next (put fegs (fun k => { k with matches_ := k.matches_ + 1 }))) ∧
      (d.natAbs ≤ 6 → 15 ≤ k.matches_ → k.phase = 1 → exec (.fegTestEdge g d) s = .next (put
        (vmod (vmod fegs k.port (fun f => { f with state := 1, measured := false })) sp (fun f => { f with state := 0 })) (fun k => { k with phase := 3, matches_ := 0 }))) ∧
      (d.natAbs ≤ 6 → 15 ≤ k.matches_ → k.phase = 4 → exec (.fegTestEdge g d) s = .next { s with cal := { s.cal with
        fegs := vmod (vmod fegs k.port (fun f => { f with state := 0 })) sp (fun f => { f with state := 2 })
        groups := vmod s.cal.groups g (fun k => { k with phase := 0, matches_ := 0 }), cntRot := s.cal.cntRot + 1 } })) ∧
    (∀ (n : Fin 68) (x : FegTimes) (r : FegResult), x.elems.length = 20 → fegResult x = some r → fegMeasuring s n = true → gives (.fegMeasureDone n x) s (fun t =>
      let f := feg t n
      let es := tapErrs x.elems 1 0 r.tapMap
      r.tapMap ∈ tapMaps ∧ (∀ m ∈ tapMaps, tapFar x.elems r.tapMap ≤ tapFar x.elems m) ∧
      r.ftrim < 64 ∧ (∀ y < 64, (sumI (edgeErrs x.base es r.ftrim)).natAbs ≤ (sumI (edgeErrs x.base es y)).natAbs) ∧
      keepsBut [.cal] s t ∧ (∀ i, i ≠ n.val → feg t i = feg s i) ∧ f.ftrim.serv = r.ftrim ∧ f.ftrim.goal = r.ftrim ∧ f.tapMap = r.tapMap ∧ f.errPs = clampInt (-128) 127 r.errPs ∧ f.measured = true ∧
      (s.sys.st = .verifying → t.cal.groups = s.cal.groups) ∧
      (s.sys.st ≠ .verifying → n.val = sp → fegGroup t g = { k with phase := 1, matches_ := 0 }) ∧
      (s.sys.st ≠ .verifying → n.val / 16 = g.val → fegGroup t g = { k with phase := 4, matches_ := 0 }))) ∧
    (∀ (n : Fin 68) (x : FegTimes), x.elems.length = 20 → (∀ m ∈ tapMaps, trimFits x.base (tapErrs x.elems 1 0 m) = false) →
      fegMeasuring s n = true → s.err.fatalHeld = false →
      let out := fun (t : State) => (feg t n).state = 3 ∧ t.cal.cntFail = s.cal.cntFail + 1 ∧ logged .fault Err.calFegFail s t
      (n.val / 16 = g.val → k.phase ≠ 5 → (feg s sp).state ≠ 3 → gives (.fegMeasureDone n x) s (fun t => out t ∧ (feg t sp).state = 0 ∧
        fegGroup t g = { k with phase := 5, port := n, stopped := true, matches_ := 0 })) ∧
      (n.val / 16 = g.val → k.phase = 5 ∨ (feg s sp).state = 3 → gives (.fegMeasureDone n x) s (fun t =>
        logged .fatal Err.calNoSpare s t ∧ t.sys.st = .faulted)) ∧
      (n.val = sp → k.phase ≠ 5 → gives (.fegMeasureDone n x) s (fun t => out t ∧ fegGroup t g = { k with stopped := true, phase := 0 }))) ∧
    (reaches m s = true → exec (.calForce m v) s = .next { s with
      outbox := accessed m .ok v s
      cal := if bit v 31 then { s.cal with groups := vmod s.cal.groups (bits v 5 0 / 16) (fun k => { k with forced := k.forced ++ [bits v 5 0] }) } else s.cal }) ∧
    (∀ c : Fin 10, running s = true →
      (cmpIdle s c = true → (cmpCal s c).measuring = false → exec (.cmpMeasure c) s = .next { s with cal := { s.cal with
        cmps := vmod s.cal.cmps c (fun q => { q with measuring := true }) } }) ∧
      ((cmpCal s c).measuring = true →
        ∀ offs : List Int, offs.length = 4 →
        (∀ i < 4, (i = (cmpCal s c).stage ∧ (cmpCal s c).valid = true) ∨ ((cmpCal s c).valid = false ∧ (nth offs i 0).natAbs ≤ 31 ∧
            ∀ j < 4, (nth offs i 0).natAbs ≤ (nth offs j 0).natAbs ∧ ((nth offs i 0).natAbs = (nth offs j 0).natAbs → i ≤ j)) →
          let w := clampInt (-31) 31 (nth offs i 0)
          exec (.cmpMeasureDone c offs) s = .next { s with cal := { s.cal with cmps := vmod s.cal.cmps c (fun q => { q with
            measuring := false, failed := false, valid := true, stage := i
            ofs := { q.ofs with goal := w, limit := false, measAt := calMeasured s (5 * 4096 + c) w } }) } }) ∧
        ((cmpCal s c).valid = false → (∀ i < 4, 31 < (nth offs i 0).natAbs) → gives (.cmpMeasureDone c offs) s (fun t =>
          cmpCal t c = { cmpCal s c with measuring := false, failed := true, valid := false } ∧
          (∀ i, i ≠ c.val → cmpCal t i = cmpCal s i) ∧ (s.err.fatalHeld = false → logged .fault Err.calCmpFail s t))))) ∧
    (∀ x : CalTarget, slewOpen s x = true → gives (.calSlewStep x) s (fun t =>
      (∀ y, y ≠ x → calPair t y = calPair s y) ∧ (calPair t x).2 = (calPair s x).2 ∧
      (let by1 := (calPair s x).1 + (if (calPair s x).1 < (calPair s x).2 then 1 else -1)
       (∀ n : Fin 68, x = .ftrim n → (calPair t x).1 = (if (feg s n).state = 0 then by1 else (calPair s x).2)) ∧
       ((∀ n, x ≠ .ftrim n) → (∀ c f, x = .dram c f → f.val < (chan s c).serv.length) → (calPair t x).1 = by1)) ∧
      (∀ c f, x = .dram c f → f.val = 8 ∨ f.val = 9 → (chan s c).serv.length = 10 →
        t.outbox = s.outbox ++ [.dram c (if f.val = 8 then "WVREF0" else "WVREF1") (calPair t x).1.toNat]) ∧
      keepsBut [.mem, .cal] s t))

/-! The capture engine and Waypost. -/

/-- Waypost and the capture engine. A TAP reset selects IDCODE and resets the port with its registers; instructions that drive pins take effect
in Cold alone, reserved codes are BYPASS (R495, R496). An access shifted in while one is BUSY is reported BUSY and ignored; a
misaligned one is ERROR, a reserved operation REFUSED (R497, R498). A READ32 answers the register's value, the bank's word or, in a freeze, the
word stored in DRAM with the bits the access finds wrong; outside a freeze a DRAM access stays BUSY on a unit of its own; a WRITE32 to a bank changes its four bytes alone and is
REFUSED in Printing and Held while no halt is in force, to the NOZZLE bank always (R316, R318, R498, R503). HALT halts the stages of the
mask and takes Printing to Held, in Faulted it sets HALTED alone, else it logs DBG_HALT (R499); RESUME clears every halt and ends Held (R501); STEP adds its
count to a halted stage's credits, else it is REFUSED (R500). A capture starts in Faulted or halted, and not while BUSY, records the state it
started in, and any other start is refused and sets REFUSED (R490, R492); CLEAR zeroes the bank; the dump that ends it is
the header and the records of its mask (R490 to R493). The data field of an access that reads nothing is a free value (log 6). -/
def Obligations.WaypostAndCapture : Prop :=
  ∀ (m : Master) (a v : Word) (e : List Flip) (s : State), s.settled = true → s.canon = true → s.sys.st ≠ .cold →
    let fresh := Config.wpNoData s.free
    let done := fun (st : Nat) (a x : Word) (n : Nat) => { s with
      outbox := s.outbox ++ [.waypost st a x], free := s.free + n, dbg := { s.dbg with accAddr := a, accStatus := st, accData := x, accTag := none } }
    let refused := fun (a : Word) (t : State) => t.outbox = s.outbox ++ [.waypost 3 a fresh] ∧ keepsBut [.free, .err, .dbg, .mgt] s t
    let held := ∀ n w y, eccOf n e ≠ .uncorrectable w y
    let busy := fun (t : State) => t.dbg.accStatus = 1 ∧ t.dbg.accTag = some s.mem.nextTag ∧ t.dbg.accAddr = a ∧ t.outbox = s.outbox
    let start := fun (mask : BitVec 16) => { s.cap with
      busy := true, done := false, refused := false, mask := mask, origin := if s.sys.st = .faulted then 1 else 2, dstate := devCode s.sys.st
      trigSeq := (match vget s.err.latches 3 none with | some e => e.seq | none => 0), dtSec := secOf (devTime s), dtNs := nsOf (devTime s) }
    gives .tapReset s (fun t => t.dbg.ir = 2 ∧ (∀ r, r / 0x10000 = 28 → regVal t r = regReset r) ∧ (∀ r, r / 0x10000 ≠ 28 → regVal t r = regVal s r) ∧
      (s.tow.unwritten = [] → t.dbg = DbgState.init)) ∧
    (∀ code : BitVec 6, exec (.tapInstruction code) s = .next { s with dbg :=
      if code = 0 ∨ code = 3 ∨ code = 4 then { s.dbg with ir := 0x3F, irref := true }
      else { s.dbg with ir := if code = 1 ∨ code = 2 ∨ code = 0x10 then code else 0x3F } }) ∧
    (s.dbg.ir = 0x10 →
      (s.dbg.accTag.isSome = true → ∀ i, i = .wpNop ∨ (∃ sp, i = .wpRead32 sp a e) ∨ (∃ sp, i = .wpWrite32 sp a v e) ∨ i = .wpHalt ∨ i = .wpResume ∨ i = .wpStep v ∨
          i = .wpCapture v ∨ (∃ op : BitVec 4, 7 ≤ op.toNat ∧ i = .wpReservedOp op) →
        exec i s = .next { s with outbox := s.outbox ++ [.waypost 1 s.dbg.accAddr s.dbg.accData] }) ∧
      (s.dbg.accTag = none →
        exec .wpNop s = .next (done 0 0 fresh 1) ∧
        (∀ op : BitVec 4, 7 ≤ op.toNat → gives (.wpReservedOp op) s (refused 0)) ∧
        (a.toNat % 4 ≠ 0 → ∀ sp, exec (.wpRead32 sp a e) s = .next (done 2 a fresh 1) ∧ exec (.wpWrite32 sp a v e) s = .next (done 2 a fresh 1)) ∧
        (a.toNat % 4 = 0 →
          (let b := { s with outbox := [], dbg := { s.dbg with accAddr := a } }
           (a.toNat < 0x1D0000 → gives (.wpRead32 0 a e) s (fun t => Output.waypost 0 a (regRead a.toNat b) ∈ t.outbox)) ∧
           gives (.wpWrite32 0 a v e) s (fun t => Output.waypost (wpStatus (masterWrite .waypost a.toNat v b).2) a (Config.wpNoData (masterWrite .waypost a.toNat v b).1.free) ∈ t.outbox)) ∧
          (∀ (k : Fin 7) (sp : Fin 16), sp.val = k.val + 1 → a.toNat + 4 ≤ bankSize k → held →
            gives (.wpRead32 sp a e) s (fun t => t.outbox = s.outbox ++ [.waypost 0 a (w32 (bankWord s k a.toNat 4))] ∧
              ∀ b : Bank, ∀ o, bankByte t b o = bankByte s b o) ∧
            ((inPrint s = true → s.dbg.halted = true ∧ k.val ≠ 2) → gives (.wpWrite32 sp a v e) s (fun t =>
              t.outbox = s.outbox ++ [.waypost 0 a fresh] ∧ bankWord t k a.toNat 4 = v.toNat ∧
              (∀ o, o < a.toNat ∨ a.toNat + 4 ≤ o → bankByte t k o = bankByte s k o) ∧ ∀ b : Bank, b ≠ k → ∀ o, bankByte t b o = bankByte s b o)) ∧
            (inPrint s = true → s.dbg.halted = false ∨ k.val = 2 → gives (.wpWrite32 sp a v e) s (refused a))) ∧
          (∀ (c : Chan) (sp : Fin 16), sp.val = c.val + 8 →
            (wpDramBad c a.toNat s = true → exec (.wpRead32 sp a e) s = .next (done 2 a fresh 1)) ∧
            (wpDramBad c a.toNat s = false → s.mem.frozen = false → gives (.wpRead32 sp a e) s busy ∧
              ((inPrint s = true → s.dbg.halted = true) → gives (.wpWrite32 sp a v e) s busy)) ∧
            (wpDramBad c a.toNat s = false → s.mem.frozen = true → held → a.toNat < chanData s →
              exec (.wpRead32 sp a e) s = .next
                (done 0 a (w32 (leNat ((List.range 4).map (fun i => spGet 0 (chan s c).data (a.toNat + i)))) ^^^ halfAt a.toNat (flipAt e 0).data) 1)))) ∧
        gives .wpHalt s (fun t => t.dbg.halted = true ∧ t.dbg.stages = (if s.sys.st = .faulted then s.dbg.stages else s.dbg.stages ||| (regVal s 0x1C0004).setWidth 8) ∧
          t.sys.st = (if s.sys.st = .printing then .held else s.sys.st) ∧ Output.waypost 0 0 fresh ∈ t.outbox ∧ keepsBut [.free, .sys, .err, .dbg, .mgt] s t ∧
          (s.sys.st ≠ .faulted → s.err.fatalHeld = false → logged .notice Err.dbgHalt s t)) ∧
        gives .wpResume s (fun t => (∃ x, Output.waypost 0 0 x ∈ t.outbox) ∧ (s.tow.unwritten = [] →
          t.dbg.halted = false ∧ t.dbg.stages = 0 ∧ t.dbg.bpValid = false ∧ (if s.sys.st = .held then t.sys.st = .printing ∨ t.sys.st = .ready else t.sys.st = s.sys.st))) ∧
        (s.dbg.stages.getLsbD (bits v 2 0) = true → bits v 15 8 ≠ 0 → gives (.wpStep v) s (fun t => (∃ x, Output.waypost 0 0 x ∈ t.outbox) ∧
          (s.tow.unwritten = [] → t.dbg.steps = vmod s.dbg.steps (bits v 2 0) (· + bits v 15 8) ∧ keepsBut [.free, .dbg] s t))) ∧
        (s.dbg.stages.getLsbD (bits v 2 0) = false ∨ bits v 15 8 = 0 → gives (.wpStep v) s (refused 0)) ∧
        (capOk s = true → exec (.wpCapture v) s = .next { done 0 0 fresh 1 with cap := start (v.setWidth 16) }) ∧
        (capOk s = false → gives (.wpCapture v) s (fun t => t.outbox = s.outbox ++ [.waypost 3 0 fresh] ∧ t.cap = { s.cap with refused := true } ∧
          keepsBut [.free, .err, .dbg, .mgt, .cap] s t)))) ∧
    (reaches m s = true →
      (∀ k : BitVec 16, capOk s = true → exec (.captureStart m k) s = .next { s with outbox := accessed m .ok (0x80000000 ||| k.setWidth 32) s, cap := start k }) ∧
      (∀ k : BitVec 16, capOk s = false → gives (.captureStart m k) s (fun t => t.outbox = accessed m .refused (0x80000000 ||| k.setWidth 32) s ∧
        t.cap = { s.cap with refused := true } ∧ keepsBut [.err, .mgt, .cap] s t)) ∧
      (capOk s = true → gives (.captureClear m) s (fun t => t.outbox = accessed m .ok 0x40000000 s ∧ (∀ o, bankByte t 5 o = 0) ∧
        (∀ b : Bank, b.val ≠ 5 → ∀ o, bankByte t b o = bankByte s b o) ∧ keepsBut [.mem] s t)) ∧
      (capOk s = false → gives (.captureClear m) s (fun t => t.outbox = accessed m .refused 0x40000000 s ∧ keepsBut [.err, .mgt] s t))) ∧
    (s.cap.busy = true → ∃ d n tr, dumpAll { s with outbox := [] } ((List.range 11).filter (fun x => decide (1 ≤ x) && s.cap.mask.getLsbD x)) [] 0 = (d, n, tr) ∧
      gives .captureDone s (fun t => t.cap = { s.cap with busy := false, done := true, trunc := tr, dlen := 64 + d.length } ∧
        bankBytes t 5 0 64 = dumpHeader { s with outbox := [] } (64 + d.length) n tr ∧ bankBytes t 5 64 d.length = d ∧ keepsBut [.cap, .mem] s t))

/-! RMP. -/

/-- What an RMP request is answered before its own effect (R395 to R398). A frame the MAC discards counts under its reason, one that is not for
the device's RMP port does nothing (R375, R376, R404; log 125). A datagram of a bad format, of a bad key or TAG, or whose SEQ was
taken before, is discarded and counted, and any is while there is no key; a wrong BOOT draws STALE_BOOT and does not enter the window; a SEQ whose reply is kept is answered by
that reply again; a reserved type is UNKNOWN_TYPE with reply TYPE 0x80, a request the role does not permit DENIED, a bad body, reserved byte or REF BAD_PARAM. Each
such reply takes the key's next transmit sequence, and none is executed. -/
def Obligations.RmpChecks : Prop :=
  ∀ (rx : Arrival) (ss : Session) (d : Bytes) (s : State), s.settled = true → awake s = true → netMode s rx.port ≠ 0 → rxUdp rx ss.v6 = true →
    let way := wireOf s ⟨rx.port, rx.frame.src⟩ 5 true
    let ty := byteAt d 3
    let seq := beAt d 16 8
    let msg := fun (c : Instr) => (c = .rmpDiscard rx ss d ∧ rmpDropped s d = true) ∨ rmpSpells rx ss d c
    let passed := fun (why : Option NetDrop) (t : State) => t.outbox = s.outbox ∧ keepsBut [.net] s t ∧
      (netPort t rx.port).rxCnt = (if why = none then (netPort s rx.port).rxCnt + 1 else (netPort s rx.port).rxCnt) ∧
      ∀ w i, why = some w → dropIndex w = some i →
        (netPort t rx.port).drop = vmod (netPort s rx.port).drop i (fun n => satAdd 8 n 1)
    let here := beAt d 8 8 = s.mgt.boot.toNat
    let answer := fun (k : Key) (r : Nat) =>
      rmpSeal s k (if 1 ≤ ty ∧ ty ≤ 7 then ty + 0x80 else 0x80) ((keyWin s k.id).txSeq + 1) seq (beBytes 1 r ++ beBytes 3 0)
    let win := fun (k : Key) (m : MgtState) (w : KeyWin) => { m with wins := vmod m.wins k.id (fun _ => w) }
    let refused := fun (k : Key) (r : Nat) (t : State) => t.outbox = s.outbox ++ [.udp way ss (rmpPort s) (answer k r)] ∧ keepsBut [.net, .mgt] s t ∧
      t.mgt = win k s.mgt (if ty = 1 then { keyWin s k.id with txSeq := (keyWin s k.id).txSeq + 1 }
        else { seqTake seq (keyWin s k.id) with txSeq := (keyWin s k.id).txSeq + 1, replies := ((seq, answer k r) :: (keyWin s k.id).replies).take 16 })
    (∀ c w, msg c → frameBad s rx.port rx.frame = some w → gives c s (passed (some w))) ∧
    (frameBad s rx.port rx.frame = none →
    (∀ c, msg c → datagramFor s rx ss.v6 (rmpPort s) = false → gives c s (passed none)) ∧
    (datagramFor s rx ss.v6 (rmpPort s) = true →
    (rmpDropped s d = true → gives (.rmpDiscard rx ss d) s (fun t => t.outbox = s.outbox ∧ keepsBut [.err, .net, .mgt] s t ∧ t.mgt.wins = s.mgt.wins ∧
      (s.mgt.keys = [] → keepsBut [.net] s t) ∧
      (s.mgt.keys ≠ [] → rmpAuth s d = .inl 1 → t.mgt = { s.mgt with cntFormat := satAdd 8 s.mgt.cntFormat 1 }) ∧
      (s.mgt.keys ≠ [] → rmpAuth s d = .inl 2 → t.mgt.cntAuth = satAdd 8 s.mgt.cntAuth 1 ∧
        (mayLog s Err.rmpAuth 0 (ms 1) = true → s.err.fatalHeld = false → logged .notice Err.rmpAuth s t)) ∧
      (∀ k, rmpAuth s d = .inr k → t.mgt = { s.mgt with cntReplay := satAdd 8 s.mgt.cntReplay 1 }))) ∧
    (∀ k c, rmpAuth s d = .inr k → rmpSpells rx ss d c →
      (ty ≠ 1 → ¬ here → gives c s (fun t => t.outbox = s.outbox ++ [.udp way ss (rmpPort s) (answer k 6)] ∧ keepsBut [.net, .mgt] s t ∧
        t.mgt = win k { s.mgt with cntStale := satAdd 8 s.mgt.cntStale 1 } { keyWin s k.id with txSeq := (keyWin s k.id).txSeq + 1 })) ∧
      (∀ r, ty ≠ 1 → here → seqVerdict (keyWin s k.id) seq = .again r → gives c s (fun t =>
        t.outbox = s.outbox ++ [.udp way ss (rmpPort s) r] ∧ keepsBut [.net] s t)) ∧
      (ty = 1 ∨ (here ∧ seqVerdict (keyWin s k.id) seq = .fresh) →
        (ty = 0 ∨ 7 < ty → gives c s (refused k 1)) ∧
        (1 ≤ ty → ty ≤ 7 → rmpPermit k.role ty (d.drop 48) = false → gives c s (refused k 3)) ∧
        (1 ≤ ty → ty ≤ 7 → rmpPermit k.role ty (d.drop 48) = true → byteAt d 7 ≠ 0 ∨ beAt d 24 8 ≠ 0 ∨ rmpBodyOk ty (d.drop 48) = false → gives c s (refused k 2)))) ∧
    (∀ k, rmpAuth s d = .inr k → 48 ≤ d.length → here → seqVerdict (keyWin s k.id) seq = .fresh →
      (ty = 0 ∨ 7 < ty → gives (.rmpUnknownType rx ss d) s (refused k 1)) ∧
      (ty = 5 → d.length = 48 ∨ byteAt d 48 = 0 ∨ 7 ≤ byteAt d 48 → rmpPermit k.role 5 (d.drop 48) = true → gives (.rmpCommandInvalid rx ss d) s (refused k 2)))))

/-- What the requests do. HELLO and STATUS report (R399). A READ answers its words up to the first that fails, with zeros after it; a WRITE writes
up to the first that is refused and answers how many (R400); in a bank that lies open the words are the bank's, and no other byte
changes. A SWAP exchanges eight bytes and answers the old ones; the NOZZLE bank refuses it in Printing and Held (R216, R319). SUBSCRIBE takes, renews or frees the
session's slot, and BUSY is its answer when none is free; a lease that ends frees its slot (R403). HOLD, RESUME, STOP, ACKNOWLEDGE and RESET do what R34 and R401 say in the states
listed there and are WRONG_STATE in every other, on a standby too; RESUME marks the nozzle changes that fell due as having waited (R218); the active of a pair gives a line count and defers them while a
grid is open (R419). YIELD goes to a ready standby (R431). A reserved code is BAD_PARAM (R401). -/
def Obligations.RmpServed : Prop :=
  ∀ (rx : Arrival) (ss : Session) (d : Bytes) (k : Key) (s : State), s.settled = true → s.canon = true → awake s = true → netMode s rx.port ≠ 0 →
    rxUdp rx ss.v6 = true → frameBad s rx.port rx.frame = none → datagramFor s rx ss.v6 (rmpPort s) = true → rmpAuth s d = .inr k →
    let ty := byteAt d 3
    let seq := beAt d 16 8
    let b := d.drop 48
    let sp := byteAt b 0
    let a := beAt b 4 4
    let n := byteAt b 1
    let got := mNet rx.port (fun p => { p with rxCnt := p.rxCnt + 1 }) { s with outbox := [] }
    let q := mMgt (fun m => { m with cntReq := m.cntReq + 1 }) (if ty = 1 then got else mWin k.id (seqTake seq) got)
    let reply := fun (u : State) (r : Nat) (body : Bytes) =>
      Output.udp (wireOf s ⟨rx.port, rx.frame.src⟩ 5 true) ss (rmpPort u) (rmpSeal u k (ty + 0x80) ((keyWin u k.id).txSeq + 1) seq (beBytes 1 r ++ beBytes 3 0 ++ body))
    let told := fun (r : Nat) (body : Bytes) (t : State) => reply q r body ∈ t.outbox
    let same := fun (t : State) => ∀ x : Bank, ∀ o, bankByte t x o = bankByte s x o
    let only := fun (lo len : Nat) (t : State) => (∀ x : Bank, x.val ≠ sp → ∀ o, bankByte t x o = bankByte s x o) ∧
      ∀ o, o < lo ∨ lo + len ≤ o → bankByte t sp o = bankByte s sp o
    let slots := fun (i : Nat) (o : Option Sub) (t : State) => t.mgt.subs = vmod s.mgt.subs i (fun _ => o)
    let open_ := fun (st : DevState) => s.sys.st = st ∧ isStandby s = false ∧ (isActive s = true → leadLc s = none)
    (ty = 1 ∨ (beAt d 8 8 = s.mgt.boot.toNat ∧ seqVerdict (keyWin s k.id) seq = .fresh)) →
      rmpPermit k.role ty b = true → byteAt d 7 = 0 → beAt d 24 8 = 0 → rmpBodyOk ty b = true → 48 ≤ d.length →
      (ty = 1 → gives (.rmpHello rx ss d) s (fun t => keepsBut [.net, .mgt] s t ∧
        told 0 (beBytes 4 sysId.toNat ++ beBytes 1 (devCode s.sys.st) ++ beBytes 1 k.role ++ beBytes 2 0) t)) ∧
      (ty = 6 → gives (.rmpStatus rx ss d) s (fun t => keepsBut [.net, .mgt] s t ∧
        told 0 (beBytes 1 (devCode s.sys.st) ++ beBytes 1 (if paired s then s.par.role else 0) ++ beBytes 1 (servoCode (dom s 0).servo)
          ++ beBytes 1 (servoCode (dom s 1).servo) ++ beBytes 1 s.ptp.sel ++ beBytes 3 0 ++ beBytes 6 (secOf (devTime s)) ++ beBytes 4 (nsOf (devTime s)) ++ beBytes 2 0) t)) ∧
      (ty = 2 → gives (.rmpRead rx ss d) s (fun t =>
        let r := rmpReads sp n a q
        r.2.1.length ≤ n ∧ reply r.2.2 r.1 ((r.2.1 ++ List.replicate (n - r.2.1.length) 0).flatMap (fun (w : Word) => beBytes 4 w.toNat)) ∈ t.outbox ∧
        (sp ≠ 0 → a + 4 * n ≤ bankSize sp → same t ∧
          told 0 ((List.range n).flatMap (fun i => beBytes 4 (bankWord s sp (a + 4 * i) 4))) t))) ∧
      (ty = 3 → gives (.rmpWrite rx ss d) s (fun t =>
        let r := rmpWrites sp n a (b.drop 8) 0 q
        reply r.2.2 r.1 (beBytes 1 r.2.1 ++ beBytes 3 0) ∈ t.outbox ∧
        (sp = 3 ∨ sp = 5 → a + 4 * n ≤ bankSize sp → told 0 (beBytes 1 n ++ beBytes 3 0) t ∧ only a (4 * n) t ∧
          ∀ i, i < n → bankWord t sp (a + 4 * i) 4 = beAt b (8 + 4 * i) 4))) ∧
      (ty = 4 →
        (sp = 3 ∨ sp = 5 → a % 8 = 0 → a + 8 ≤ bankSize sp → gives (.rmpSwap rx ss d) s (fun t => told 0 (beBytes 8 (bankWord s sp a 8)) t ∧
          bankWord t sp a 8 = beAt b 8 8 ∧ only a 8 t)) ∧
        (a % 8 ≠ 0 ∨ bankSize sp < a + 8 → gives (.rmpSwap rx ss d) s (fun t => told 2 [] t ∧ same t)) ∧
        (sp = 2 → inPrint s = true → a % 8 = 0 → a + 8 ≤ bankSize sp → gives (.rmpSwap rx ss d) s (fun t => told 4 [] t ∧ same t))) ∧
      (ty = 7 →
        (∀ i, beAt b 2 2 = 0 → subSlot s ss k.id = some i → gives (.rmpSubscribe rx ss d) s (fun t => told 0 (beBytes 1 i ++ beBytes 3 0) t ∧ slots i none t)) ∧
        (∀ i x, beAt b 2 2 ≠ 0 → subSlot s ss k.id = some i → vget s.mgt.subs i none = some x → gives (.rmpSubscribe rx ss d) s (fun t =>
          told 0 (beBytes 1 i ++ beBytes 3 0) t ∧ slots i (some { x with mask := sp, until_ := s.now + ms 1000 * beAt b 2 2 }) t)) ∧
        (∀ i : Fin 4, beAt b 2 2 ≠ 0 → subSlot s ss k.id = none → vget s.mgt.subs i none = none → (∀ j, j < i.val → vget s.mgt.subs j none ≠ none) →
          gives (.rmpSubscribe rx ss d) s (fun t => told 0 (beBytes 1 i ++ beBytes 3 0) t ∧
            slots i (some ⟨ss, k.id, sp, s.now + ms 1000 * beAt b 2 2, [], 0, 0⟩) t)) ∧
        (beAt b 2 2 ≠ 0 → subSlot s ss k.id = none → (∀ j, j < 4 → vget s.mgt.subs j none ≠ none) → gives (.rmpSubscribe rx ss d) s (fun t =>
          told 7 [] t ∧ t.mgt.subs = s.mgt.subs))) ∧
      (∀ i : Fin 4, (vget s.mgt.subs i none).isSome = true → exec (.subscriptionExpire i) s = .next { s with mgt := { s.mgt with subs := vmod s.mgt.subs i (fun _ => none) } }) ∧
      (ty = 5 →
        (sp = 1 → open_ .printing → gives (.rmpHold rx ss d) s (fun t => told 0 [] t ∧ t.sys.st = .held ∧ t.sys.prev = .printing ∧ keepsBut [.net, .sys, .mgt, .par] s t)) ∧
        (sp = 2 → open_ .held → s.dbg.halted = false → gives (.rmpResume rx ss d) s (fun t => told 0 [] t ∧ keepsBut [.net, .sys, .mgt, .nzl, .par] s t ∧
          t.sys.st = (if (printingLayers s).isEmpty then .ready else .printing) ∧
          t.nzl = { s.nzl with queue := s.nzl.queue.map (fun c => { c with waited := c.waited || (match c.lcEff, nextLc s (nozPort c.noz) with
            | some l, some lc => decide (lcDiff l lc ≤ 0) | _, _ => true) }) })) ∧
        (∀ st, sp = 3 → st = .ready ∨ st = .printing ∨ st = .held → open_ st → gives (.rmpStop rx ss d) s (fun t => told 0 [] t ∧ t.sys.st = .stopped ∧ t.sys.prev = st ∧
          keepsBut [.net, .sys, .mgt, .par] s t)) ∧
        (sp = 4 → open_ .stopped → gives (.rmpAcknowledge rx ss d) s (fun t => told 0 [] t ∧ t.sys.st = .ready ∧ (s.fir.grid = none →
          t.err.stopHeld = false ∧ t.err.stopBlk = 0 ∧ t.tow.layers = s.tow.layers.map (fun l => if l.st = .printing then { l with suspended := true } else l)))) ∧
        (sp = 5 → s.sys.st = .faulted → gives (.rmpReset rx ss d) s (fun t => told 0 [] t ∧ t.mgt.resetDue = true ∧ t.sys = s.sys ∧ keepsBut [.net, .mgt] s t)) ∧
        (sp = 6 → isActive s = true → s.par.peerReady = true → s.sys.st = .ready ∨ s.sys.st = .printing ∨ s.sys.st = .held → a = 0 → s.par.tethUp = true →
          gives (.rmpYield rx ss d) s (fun t => told 0 [] t ∧ tethOut (tethFrame 6 (nextTseq s.par.txSeq) (leBytes 8 0)) ∈ t.outbox ∧ t.par.yieldSent = true ∧
            keepsBut [.net, .mgt, .par] s t)) ∧
        (∀ c lc, (c = .rmpHold rx ss d ∧ sp = 1) ∨ (c = .rmpResume rx ss d ∧ sp = 2) ∨ (c = .rmpStop rx ss d ∧ sp = 3) ∨ (c = .rmpAcknowledge rx ss d ∧ sp = 4) →
          (isActive s = true → leadLc s = some lc → ctlLegal s sp = true → gives c s (fun t => told 0 [] t ∧ t.sys = s.sys ∧
            t.par.pendStates = s.par.pendStates ++ [⟨sp, lc⟩] ∧ keepsBut [.net, .mgt, .par] s t)) ∧
          (isStandby s = true ∨ ctlLegal s sp = false → gives c s (fun t => told 5 [] t ∧ keepsBut [.net, .mgt] s t))) ∧
        (sp = 5 → s.sys.st ≠ .faulted → gives (.rmpReset rx ss d) s (fun t => told 5 [] t ∧ t.mgt.resetDue = s.mgt.resetDue ∧ keepsBut [.net, .mgt] s t)) ∧
        (sp = 6 → isActive s = false ∨ s.par.peerReady = false → gives (.rmpYield rx ss d) s (fun t => told 5 [] t ∧ keepsBut [.net, .mgt] s t)))

/-! The network ports and PTP. -/

/-- The network ports. A port that comes up sends a gratuitous ARP and an unsolicited advertisement, logs NET_LINK and ends NET_DOWN; one that
goes down logs NET_LINK, and NET_DOWN when the device prints and no enabled port is left (R374). A discarded frame counts under its reason, ADDR under none (R375, R404): a bad check sequence or a runt, one too long, a control frame, one whose destination the filter does not take (R376), a VID of another network, an unknown
protocol (which stands when several hold is log 124). A neighbour message that names the
device is learnt, sends what waited for it, and a request is answered to its sender (R378, R379); an unanswered resolution is repeated twice, then given up and counted; an
entry that expires leaves the cache (R379). An echo is answered to the MAC address it came from, up to 100 a second and port, else counted (R378, R380). -/
def Obligations.NetworkPorts : Prop :=
  ∀ (np : NetPort) (s : State), s.settled = true → awake s = true →
    let p := netPort s np
    let port := fun (f : NetPortState → NetPortState) => { s with net := vmod s.net np f }
    let way := fun (n : NetPort) (mac : BitVec 48) (ip : Bool) => wireOf s ⟨n, mac⟩ Config.otherPcp.toNat ip
    (netMode s np ≠ 0 → p.up = false → gives (.netLinkUp np) s (fun t =>
      t.net = vmod s.net np (fun p => { p with up := true, lock := true, anDone := (regVal s (0x20100 + 0x80 * np)).getLsbD 31, txCnt := p.txCnt + 2 }) ∧
      t.outbox = s.outbox ++ [.neigh (way np 0xFFFFFFFFFFFF false) "gratuitous" false ((netIdPort s np).ipv4.setWidth 128),
        .neigh (way np 0x333300000001 true) "unsolicited" true (netIdPort s np).ll6] ∧
      (∀ f ∈ t.err.faults, f.code ≠ Err.netDown) ∧ keepsBut [.err, .net, .mgt] s t ∧ (s.err.fatalHeld = false → logged .notice Err.netLink s t))) ∧
    (p.up = true → gives (.netLinkDown np) s (fun t => t.net = vmod s.net np (fun p => { p with up := false, lock := false, anDone := false }) ∧
      t.outbox = s.outbox ∧ keepsBut [.err, .net, .mgt] s t ∧
      (let last := s.sys.st = .printing ∧ ∀ n : NetPort, n ≠ np → netMode s n ≠ 0 → (netPort s n).up = false
       s.err.fatalHeld = false → (∃ e ∈ t.err.ring, e.cls = .notice ∧ e.code = Err.netLink ∧ e.seq = t.err.head) ∧
         (last → s.err.faults.length < 255 → ∃ f ∈ t.err.faults, f.code = Err.netDown) ∧ (¬ last → t.err.faults = s.err.faults)))) ∧
    (netMode s np ≠ 0 →
      (∀ fr : Frame,
        let bad := fr.fcs = false ∨ fr.len < 64
        let long := (if fr.vids.length = 1 then 9022 else 9018) < fr.len
        let other := fr.control = false ∧ addrTaken s np fr = false
        let named := fr.control = false ∧ addrTaken s np fr = true
        let counts := fun (i : Fin 4) => exec (.netFrameDiscard np fr) s = .next (port (fun p => { p with drop := vmod p.drop i (fun n => min (n + 1) 255) }))
        let vid := (netIdPort s np).vid
        let fits := (vid = 0 ∧ fr.vids = []) ∨ (vid ≠ 0 ∧ ∃ v, fr.vids = [v] ∧ v.toNat = vid)
        let strange := fr.ether = .other ∨ ((fr.ether = .ipv4 ∨ fr.ether = .ipv6) ∧ (fr.fragment = true ∨ fr.sums = false ∨ ∃ u, fr.udp = some u ∧ udpServed s u = false))
        (bad → counts 0) ∧ (¬ bad → long → counts 1) ∧ (¬ bad → ¬ long →
          (fr.control = true → counts 2) ∧ (other → exec (.netFrameDiscard np fr) s = .next s) ∧ (named → ¬ fits → counts 2) ∧ (named → fits → strange → counts 3) ∧
          (named → fits → ¬ strange → exec (.netFrameDiscard np fr) s = .fault (.cannotOccur "NET_FRAME_DISCARD")))) ∧
      (∀ fr : Frame, frameBad s np fr = none →
      (∀ q : NeighMsg, rxNeigh ⟨np, fr⟩ q.v6 = true → ownAddr (netIdPort s np) q.v6 q.targetIp = false →
        exec (.arpRequest ⟨np, fr⟩ q) s = .next (port (fun p => { p with rxCnt := p.rxCnt + 1 }))) ∧
      (∀ q : NeighMsg, rxNeigh ⟨np, fr⟩ q.v6 = true → ownAddr (netIdPort s np) q.v6 q.targetIp = true → gives (.arpRequest ⟨np, fr⟩ q) s (fun t =>
        ⟨q.v6, q.senderIp, q.senderMac, s.now⟩ ∈ (netPort t np).cache ∧ (∀ n ∈ (netPort t np).cache, n.v6 = q.v6 → n.ip = q.senderIp → n.mac = q.senderMac) ∧
        (p.cache.length ≤ 32 → (netPort t np).cache.length ≤ 32) ∧
        (netPort t np).resolving = p.resolving.filter (fun r => !(r.v6 == q.v6 && r.ip == q.senderIp)) ∧
        t.outbox = s.outbox ++ (p.resolving.filter (fun r => r.v6 == q.v6 && r.ip == q.senderIp)).map
            (fun r => .udp (wireOf s ⟨np, q.senderMac⟩ r.pcp true) r.dst r.udp.toNat r.held) ++
          (if q.reply then [] else [.neigh (way np fr.src q.v6) "reply" q.v6 q.targetIp]) ∧ keepsBut [.net] s t)) ∧
      (∀ (v6 : Bool) (ip : BitVec 128) (body : Bytes), rxIcmp ⟨np, fr⟩ v6 fr.src = true → ownAddr (netIdPort s np) v6 fr.ip = true →
        let recent := p.echoTimes.filter (fun t => decide (s.now < t + ms 1000))
        (recent.length < 100 → exec (.icmpEcho ⟨np, fr⟩ v6 ip fr.src body) s = .next { port (fun p => { p with rxCnt := p.rxCnt + 1, txCnt := p.txCnt + 1, echoTimes := s.now :: recent }) with
          outbox := s.outbox ++ [.echo (way np fr.src true) v6 ip body] }) ∧
        (100 ≤ recent.length → exec (.icmpEcho ⟨np, fr⟩ v6 ip fr.src body) s = .next (port (fun p => { p with rxCnt := p.rxCnt + 1, echoTimes := recent, echoOver := min (p.echoOver + 1) 65535 })))) ∧
      (∀ (v6 : Bool) (ip : BitVec 128) (body : Bytes), rxIcmp ⟨np, fr⟩ v6 fr.src = true → ownAddr (netIdPort s np) v6 fr.ip = false →
        exec (.icmpEcho ⟨np, fr⟩ v6 ip fr.src body) s = .next (port (fun p => { p with rxCnt := p.rxCnt + 1 }))))) ∧
    (netMode s np = 0 → ∀ fr, frameBad s np fr ≠ none → exec (.netFrameDiscard np fr) s = .next s) ∧
    (∀ r l, p.resolving = r :: l →
      (r.sent < 3 → exec (.arpRetry np) s = .next { port (fun p => { p with resolving := l ++ [{ r with sent := r.sent + 1 }], txCnt := p.txCnt + 1 }) with
        outbox := s.outbox ++ [.neigh (way np (if r.v6 then solicitedMac r.ip else 0xFFFFFFFFFFFF) r.v6) "request" r.v6 r.ip] }) ∧
      (3 ≤ r.sent → exec (.arpRetry np) s = .next (port (fun p => { p with resolving := l, unres := min (p.unres + 1) 65535 })))) ∧
    (∀ ip, (∃ n ∈ p.cache, n.ip = ip) → exec (.arpExpire np ip) s = .next (port (fun p => { p with cache := p.cache.filter (fun n => n.ip != ip) })))

/-- PTP messages. One for no domain is counted as ignored in domain 0 (R385). An Announce enters the table of foreign masters in the place of its own
entry, else of a new one, and the best qualified master is selected: a change of it takes the servo to ACQUIRE (R386). A Sync, a Follow_Up and a Delay_Resp of any other source is ignored
and counted (R387). A usable Sync gives the offset o = t2 - t1 - d - c, and the servo steps T by it in ACQUIRE beyond STEP, else corrects i, adj and the increment by R391; eight within LOCKTHR lead to TRACK, one beyond
STEP leaves it, one in HOLDOVER returns (R389 to R391). A delay sample is filtered into d, the first one after ACQUIRE taken whole, and one below 0 is discarded and counted (R388). A Pdelay_Req is answered in one step (R384). -/
def Obligations.PtpMessages : Prop :=
  ∀ (dm : Dom) (rx : Arrival) (tr : PtpTransport) (d : Bytes) (s : State), s.settled = true → awake s = true → netMode s rx.port ≠ 0 →
    frameBad s rx.port rx.frame = none → rxPtp rx tr = true → (tr ≠ .l2 → rx.frame.udp = some (if ptpType d < 4 then 319 else 320)) →
    let np := rx.port
    let m := dom s dm
    let here := fun (t : State) => (∀ x : Dom, x ≠ dm → dom t x = dom s x) ∧ keepsBut [.err, .net, .ptp, .mgt] s t
    let counted := fun (t : State) => dom t dm = { m with cntIgn := m.cntIgn + 1 } ∧ here t
    let quiet := fun (t : State) => t.outbox = s.outbox
    let reg := fun (o : Nat) => regVal s (0x30100 + 0x80 * dm + o)
    let master := selectedMaster m = some (ptpSource d, np.val)
    let used := fun (t1 t2 c l : Int) (t : State) =>
      let o := t2 - t1 - (if bit (reg 0) 30 then vget m.pd np 0 else m.d) - c
      let most : Int := ((bits (reg 4) 19 0 * 65536 : Nat) : Int)
      let big := ((bits (reg 8) 29 0 * 65536 : Nat) : Int) < (o.natAbs : Int)
      let near := (o.natAbs : Int) ≤ ((bits (reg 0xC) 15 0 * 65536 : Nat) : Int)
      let r : Int := if l < 0 then o * 2 ^ (-l).toNat else o >>> l.toNat
      let i := clampInt (-most) most (m.i + r >>> bits (reg 4) 27 24)
      let adj := clampInt (-most) most (-(r >>> bits (reg 4) 31 28 + i))
      let nom : Nat := bits (reg 0x18) 7 0 * 2 ^ 32 + (reg 0x1C).toNat;
      o.natAbs < 2 ^ 63 → (dom t dm).ofs = o ∧ (dom t dm).cntSync = m.cntSync + 1 ∧ (dom t dm).pendSync = none ∧ here t ∧
        (m.servo = .acquire → big → (dom t dm).t = (((m.t : Int) - o * 65536) % (timeMod : Int)).toNat ∧ (dom t dm).i = m.i ∧ (dom t dm).locked = 0 ∧
          (dom t dm).cntStep = m.cntStep + 1 ∧ (dom t dm).servo = .acquire) ∧
        (¬ (m.servo = .acquire ∧ big) → (dom t dm).t = m.t ∧ (dom t dm).i = i ∧ (dom t dm).adj = adj ∧
          (dom t dm).inc = ((nom : Int) + Int.tdiv ((nom : Int) * adj) 65536000000000).toNat ∧
          (m.servo = .track ∨ m.servo = .holdover → (dom t dm).servo = if big then .acquire else .track) ∧
          (m.servo = .acquire → (dom t dm).servo = if near ∧ 7 ≤ m.locked then .track else .acquire) ∧
          (m.servo = .acquire → near → m.locked < 7 → (dom t dm).locked = m.locked + 1) ∧ (m.servo = .acquire → ¬ near → (dom t dm).locked = 0))
    let filtered := fun (first : Bool) (old p : Int) => if first then p else old + (p - old) >>> bits (reg 4) 23 20
    (∀ c, (c = .ptpAnnounce rx tr d ∧ ptpIs 11 d = true) ∨ (c = .ptpSync rx tr d ∧ ptpIs 0 d = true) ∨ (c = .ptpFollowUp rx tr d ∧ ptpIs 8 d = true) ∨
        (c = .ptpDelayResp rx tr d ∧ ptpIs 9 d = true) ∨ (c = .ptpPdelayReq rx tr d ∧ ptpIs 2 d = true) ∨ (c = .ptpPdelayResp rx tr d ∧ ptpIs 3 d = true) ∨
        (c = .ptpPdelayRespFollowUp rx tr d ∧ ptpIs 10 d = true) ∨ c = .ptpIgnored rx tr d →
      ptpDomains s np tr d = [] → gives c s (fun t => dom t 0 = { dom s 0 with cntIgn := (dom s 0).cntIgn + 1 } ∧ dom t 1 = dom s 1 ∧ quiet t ∧ keepsBut [.net, .ptp] s t)) ∧
    (ptpDomains s np tr d = [dm.val] →
      (ptpType d = 1 ∨ 12 ≤ ptpType d → gives (.ptpIgnored rx tr d) s (fun t => counted t ∧ quiet t)) ∧
      (ptpIs 11 d = true → gives (.ptpAnnounce rx tr d) s (fun t => quiet t ∧ here t ∧
        (∃ f ∈ (dom t dm).foreign, f.ident = ptpSource d ∧ f.port = np.val ∧ f.at_ = s.now ∧ f.logIntv = ptpLog d ∧ f.prio1 = byteAt d 47 ∧ f.gm = beAt d 53 8) ∧
        (m.foreign.length ≤ 4 → (dom t dm).foreign.length ≤ 4) ∧
        (match bestMaster (dom t dm).foreign with
          | none => (dom t dm).master = m.master ∧ (dom t dm).servo = m.servo
          | some b => (dom t dm).master = some (b.ident, b.port) ∧ (dom t dm).servo = if m.master = some (b.ident, b.port) then m.servo else .acquire))) ∧
      (∀ c, (c = .ptpSync rx tr d ∧ ptpIs 0 d = true) ∨ (c = .ptpFollowUp rx tr d ∧ ptpIs 8 d = true) ∨ (c = .ptpDelayResp rx tr d ∧ ptpIs 9 d = true) →
        ¬ master → gives c s (fun t => counted t ∧ quiet t)) ∧
      (ptpIs 0 d = true → master →
        (ptpTwoStep d = true → gives (.ptpSync rx tr d) s (fun t => quiet t ∧ here t ∧
          dom t dm = { m with pendSync := some ⟨ptpSeq d, rxStamp s dm np, ptpCorr d, ptpLog d, np⟩ })) ∧
        (ptpTwoStep d = false → gives (.ptpSync rx tr d) s (fun t => quiet t ∧ used (ptpTime d) (rxStamp s dm np) (ptpCorr d) (ptpLog d) t))) ∧
      (∀ p, ptpIs 8 d = true → master → m.pendSync = some p → p.seq = ptpSeq d → p.port = np.val →
        gives (.ptpFollowUp rx tr d) s (fun t => quiet t ∧ used (ptpTime d) p.t2 (p.corr + ptpCorr d) p.logIntv t)) ∧
      (ptpIs 9 d = true → master →
        (ptpRequester d ≠ portIdentity s np → gives (.ptpDelayResp rx tr d) s (fun t => quiet t ∧ t.ptp = s.ptp ∧ here t)) ∧
        (∀ q y, ptpRequester d = portIdentity s np → m.pendReq = some q → q.seq = ptpSeq d → m.sync = some y →
          let p := (y + (ptpTime d - q.t3) - ptpCorr d) / 2
          gives (.ptpDelayResp rx tr d) s (fun t => quiet t ∧ here t ∧ (dom t dm).pendReq = none ∧ (dom t dm).drqL = some (ptpLog d) ∧
            (0 ≤ p → (dom t dm).d = filtered m.dFirst m.d p ∧ (dom t dm).dFirst = false ∧ (dom t dm).cntIgn = m.cntIgn) ∧
            (p < 0 → (dom t dm).d = m.d ∧ (dom t dm).cntIgn = m.cntIgn + 1)))) ∧
      (ptpIs 2 d = true → (bit (reg 0) 30 = false → gives (.ptpPdelayReq rx tr d) s (fun t => counted t ∧ quiet t)) ∧
        (bit (reg 0) 30 = true → gives (.ptpPdelayReq rx tr d) s (fun t => t.ptp = s.ptp ∧ keepsBut [.net] s t ∧ 
          let resp := fun (stay : Int) => ptpFrame s dm np 3 54 (ptpSeq d) (ptpCorr d + stay) 5 (beBytes 10 0 ++ beBytes 10 (ptpSource d))
          let sent := resp (txStamp s dm np - rxStamp s dm np)
          t.outbox = s.outbox ++ [.ptp (wireOf s ⟨np, rx.frame.src⟩ 7 (decide (tr ≠ .l2))) tr dm (sent ++ ptpTail tr (resp 0) sent)]))) ∧
      (∀ q, vget m.pendPeer np none = some q → q.seq = ptpSeq d → ptpRequester d = portIdentity s np →
        (ptpIs 3 d = true → q.waitFup = false →
          (ptpTwoStep d = true → gives (.ptpPdelayResp rx tr d) s (fun t => quiet t ∧ here t ∧ dom t dm = { m with
            pendPeer := vmod m.pendPeer np (fun _ => some { q with t4 := rxStamp s dm np, rcpt := ptpTime d, corr := ptpCorr d, waitFup := true }) })) ∧
          (ptpTwoStep d = false → let p := (rxStamp s dm np - q.t3 - ptpCorr d) / 2
            gives (.ptpPdelayResp rx tr d) s (fun t => quiet t ∧ here t ∧ (dom t dm).pendPeer = vmod m.pendPeer np (fun _ => none) ∧
              (0 ≤ p → (dom t dm).pd = vmod m.pd np (fun x => filtered (vget m.pdFirst np true) x p) ∧ (dom t dm).cntIgn = m.cntIgn) ∧
              (p < 0 → (dom t dm).pd = m.pd ∧ (dom t dm).cntIgn = m.cntIgn + 1)))) ∧
        (ptpIs 10 d = true → q.waitFup = true → let p := (q.t4 - q.t3 - (ptpTime d - q.rcpt) - q.corr - ptpCorr d) / 2
          gives (.ptpPdelayRespFollowUp rx tr d) s (fun t => quiet t ∧ here t ∧ (dom t dm).pendPeer = vmod m.pendPeer np (fun _ => none) ∧
            (0 ≤ p → (dom t dm).pd = vmod m.pd np (fun x => filtered (vget m.pdFirst np true) x p) ∧ (dom t dm).cntIgn = m.cntIgn) ∧
            (p < 0 → (dom t dm).pd = m.pd ∧ (dom t dm).cntIgn = m.cntIgn + 1)))) ∧
      ((vget m.pendPeer np none = none ∨ ∃ q, vget m.pendPeer np none = some q ∧ (q.seq ≠ ptpSeq d ∨ ptpRequester d ≠ portIdentity s np)) →
        (ptpIs 3 d = true → gives (.ptpPdelayResp rx tr d) s (fun t => counted t ∧ quiet t)) ∧
        (ptpIs 10 d = true → gives (.ptpPdelayRespFollowUp rx tr d) s (fun t => counted t ∧ quiet t))))

/-- What PTP does on its own, and device time. Delay_Req goes to the selected master and Pdelay_Req out of each port of PORTS, each with its transmit stamp and the next sequence number, awaited
from then on, no sooner than the interval of R388 after the one before, by the domain's transport and, under IPv6, with the bytes that keep the checksum (R384, R385, R388; log 137); a Sync whose Follow_Up stays out is dropped (R387); a lost master leaves the table, and the selected one takes TRACK to HOLDOVER, as a lack of usable Syncs does: adj is then -i (R386, R390, R391), and the Fault
PTP_HOLDOVER is logged; HOLDMAX ends in LISTEN with no master (R390). A write of PTP_SEL selects that domain, and K keeps device time where it was (R392); a tick moves K
towards 0 by SLEW at most. FIRE follows device time by at most 10 ppb a second within 100 ppm, and holds while the domain is not in TRACK (R393). -/
def Obligations.PtpTimeouts : Prop :=
  ∀ (dm : Dom) (s : State), s.settled = true → s.sys.st ≠ .cold →
    let m := dom s dm
    let here := fun (t : State) => (∀ x : Dom, x ≠ dm → dom t x = dom s x) ∧ keepsBut [.err, .net, .ptp, .mgt] s t
    let en := (regVal s (0x30100 + 0x80 * dm)).getLsbD 31
    let p2p := (regVal s (0x30100 + 0x80 * dm)).getLsbD 30
    let hold := fun (t : State) => (dom t dm).servo = .holdover ∧ (dom t dm).adj = -m.i ∧ (dom t dm).i = m.i ∧ (dom t dm).t = m.t ∧
      (s.err.fatalHeld = false → s.err.faults.length < 255 → ∃ f ∈ t.err.faults, f.code = Err.ptpHoldover)
    let tr := transOf s dm
    let group := fun (peer : Bool) => match tr with
      | .l2 => ptpMac peer | .ipv4 => groupMac4 (ptpGroup4 peer) | .ipv6 => groupMac6 (ptpGroup6 peer)
    let sent := fun (np : Nat) (peer : Bool) (f : Int → Bytes) => Output.ptp (wireOf s ⟨np, group peer⟩ 7 (decide (tr ≠ .l2))) tr dm
      (f (txStamp s dm np) ++ ptpTail tr (f 0) (f (txStamp s dm np)))
    let due := ∀ x, m.reqAt = some x → x + intvTime (reqLog s dm) ≤ s.now
    (∀ x np, en = true → p2p = false → due → selectedMaster m = some (x, np) → np < 2 → gives (.ptpDelayReqSend dm) s (fun t => here t ∧
      t.outbox = s.outbox ++ [sent np false (fun z => ptpFrame s dm np 1 44 m.reqSeq 0 1 (ptpStampBytes z))] ∧
      dom t dm = { m with reqSeq := (m.reqSeq + 1) % 65536, reqAt := some s.now, pendReq := some ⟨m.reqSeq, txStamp s dm np, np, 0, 0, 0, false⟩ })) ∧
    (en = true → ¬ due → (p2p = false → exec (.ptpDelayReqSend dm) s = .fault (.cannotOccur "PTP_DELAY_REQ_SEND")) ∧
      (p2p = true → exec (.ptpPdelayReqSend dm) s = .fault (.cannotOccur "PTP_PDELAY_REQ_SEND"))) ∧
    (en = true → p2p = true → due → gives (.ptpPdelayReqSend dm) s (fun t => here t ∧ (dom t dm).peerSeq = (m.peerSeq + 1) % 65536 ∧ (dom t dm).reqAt = some s.now ∧
      t.outbox = s.outbox ++ ([0, 1].filter (fun np => ptpOnPort s dm np)).map (fun np =>
        sent np true (fun z => ptpFrame s dm np 2 54 m.peerSeq 0 5 (ptpStampBytes z ++ beBytes 10 0))) ∧
      ∀ np : NetPort, vget (dom t dm).pendPeer np none = if ptpOnPort s dm np then some ⟨m.peerSeq, txStamp s dm np, np, 0, 0, 0, false⟩ else vget m.pendPeer np none)) ∧
    (m.pendSync.isSome = true → gives (.ptpFollowupTimeout dm) s (fun t => here t ∧ dom t dm = { m with pendSync := none } ∧ t.outbox = s.outbox)) ∧
    (∀ (i : Fin 4) (f : Foreign), m.foreign[i.val]? = some f → gives (.ptpMasterTimeout dm i) s (fun t => here t ∧ t.outbox = s.outbox ∧
      (dom t dm).foreign = m.foreign.filter (fun x => !(x.ident == f.ident && x.port == f.port)) ∧
      (m.servo = .track → m.master = some (f.ident, f.port) → hold t) ∧
      (m.servo = .acquire → m.master = some (f.ident, f.port) → (dom t dm).servo = .listen ∧ (dom t dm).master = none) ∧
      (m.master ≠ some (f.ident, f.port) → (dom t dm).servo = m.servo ∧ (dom t dm).master = m.master ∧ (dom t dm).adj = m.adj))) ∧
    (m.servo = .track → gives (.ptpSyncTimeout dm) s (fun t => here t ∧ hold t ∧ t.outbox = s.outbox)) ∧
    (m.servo = .holdover → gives (.ptpHoldmax dm) s (fun t => here t ∧ (dom t dm).servo = .listen ∧ (dom t dm).master = none ∧ (dom t dm).adj = m.adj ∧ t.outbox = s.outbox ∧
      (s.err.fatalHeld = false → s.err.faults.length < 255 → ∃ f ∈ t.err.faults, f.code = Err.ptpHoldover))) ∧
    (∀ (w : Master) (v : Word), reaches w s = true → (stores 0x30000 v s).isSome = true → gives (.domainSelect w v) s (fun t => t.outbox = accessed w .ok v s ∧ keepsBut [.err, .regs, .ptp, .mgt] s t ∧
      (∀ x : Dom, dom t x = dom s x) ∧
      (v.getLsbD 0 = decide (s.ptp.sel = 1) → s.ptp.sel ≤ 1 → t.ptp.sel = s.ptp.sel ∧ t.ptp.k = s.ptp.k) ∧
      (∀ n : Dom, n.val = bits v 0 0 → n.val ≠ s.ptp.sel → ptpEn s 0 = true ∨ ptpEn s 1 = true → t.ptp.sel = n.val ∧ t.ptp.k = ((devTime s : Int) - ((dom s n).t : Int)) / 65536 ∧
        (s.err.fatalHeld = false → ∃ e ∈ t.err.ring, e.code = Err.ptpSwitch)))) ∧
    (∀ (temps : List Int) (codes : List (BitVec 3)), temps.length = 8 → codes.length = 8 → awake s = true → tickDue s = true → (regVal s 0x30000).getLsbD 1 = false → gives (.mgmtTick temps codes) s (fun t =>
      let acc := s.ptp.kAcc + bits (regVal s 0x30000) 31 16 * 65536
      let stp : Int := ((acc / 1000 : Nat) : Int)
      t.ptp = { s.ptp with swTicks := 0, kAcc := (if s.ptp.k = 0 then 0 else acc % 1000), k := (if 0 < s.ptp.k then max 0 (s.ptp.k - stp) else if s.ptp.k < 0 then min 0 (s.ptp.k + stp) else 0) })) ∧
    (∀ cycles : Nat, (regVal s 0x30030).getLsbD 0 = true →
      ((dom s s.ptp.sel).servo ≠ .track → exec (.fireDiscipline cycles) s = .next s) ∧
      ((dom s s.ptp.sel).servo = .track → gives (.fireDiscipline cycles) s (fun t =>
        let want := s.ptp.fireCorr + clampInt (-160) 160 (-32 * ((cycles : Int) - 500000000))
        t.ptp = { s.ptp with fireCorr := clampInt (-1600000) 1600000 want, fireLimit := decide (1600000 < want.natAbs) } ∧ keepsBut [.err, .mgt, .ptp] s t ∧
        (1600000 < want.natAbs → s.ptp.fireLimit = false → s.err.fatalHeld = false → logged .fault Err.firePull s t) ∧
        (want.natAbs ≤ 1600000 ∨ s.ptp.fireLimit = true → t.err = s.err))))

/-! The pair. -/

/-- What the tether's and the network's frames do to a paired chip. A frame while the tether is down does nothing; one that is damaged, of another length or out of
order is discarded and counted (R424, R426). A message in order is taken. NZL_CHANGE reaches the standby's table or the queue under its line, is held while its
word is still to be copied, and one that comes too late is a Fault PAR_UPD_LATE (R420, R435); KNOT_REQ sets or withdraws the pending knot, which is due at
once where its road count is behind, with PAR_KNOT_LATE if a line beyond it is released (R417); a KNOT_DONE that differs is PAR_DIVERGE and clears READY (R418);
STATE changes the device at its line, or at once without a grid (R419); YIELD is trigger 2 (R430); BULK fills the banks, and the last one makes the rejoiner
standby (R435). -/
def Obligations.TetherMessages : Prop :=
  ∀ (f : Bytes) (s : State), s.settled = true → s.sys.st ≠ .cold → s.canon = true →
    let p := s.par
    let par := fun (q : ParState) => { s with par := q }
    let up := paired s = true ∧ p.tethUp = true
    let took := { p with rxSeq := leAt f 2 2 }
    let dropped := { took with cntCrc := p.cntCrc + 1 }
    let b := fun (n : Nat) => (f.drop 6).take n
    let msg := fun (c : Instr) (ty len : Nat) => (c = .tetherNzlChange f ∧ ty = 2 ∧ len = 20) ∨ (c = .tetherKnotReq f ∧ ty = 3 ∧ len = 12) ∨
      (c = .tetherKnotDone f ∧ ty = 4 ∧ len = 16) ∨ (c = .tetherState f ∧ ty = 5 ∧ len = 12) ∨ (c = .tetherYield f ∧ ty = 6 ∧ len = 8) ∨ (c = .tetherBulk f ∧ ty = 7 ∧ len = 1032)
    let taken := fun (ty len : Nat) => up ∧ tethIs ty f = true ∧ tethGood len f = true ∧ leAt f 2 2 = nextTseq p.rxSeq
    let noted := fun (c : ErrClass) (code : Nat) (t : State) => s.err.fatalHeld = false → logged c code s t
    (∀ c ty len, msg c ty len → tethIs ty f = true →
      (¬ up → exec c s = .next s) ∧
      (up → tethGood len f = false ∨ leAt f 2 2 ≠ nextTseq p.rxSeq → exec c s = .next (par { p with cntCrc := p.cntCrc + 1 })) ∧
      (taken ty len → isStandby s = false → ty ≠ 7 → exec c s = .next (par took))) ∧
    (isStandby s = true →
      (taken 2 20 →
        let n := leAt (b 20) 0 4
        let e := BitVec.ofNat 64 (leAt (b 20) 4 8)
        let lc := leAt (b 20) 12 5
        let held := p.role = 3 ∧ p.copyPos ≤ 8 * n
        let queue := fun (l : Nat) => { s.nzl with queue := s.nzl.queue ++ [⟨n, .entry e, some l, false⟩] }
        (held → exec (.tetherNzlChange f) s = .next (par { took with heldNzl := p.heldNzl ++ [(n, e, lc)] })) ∧
        (¬ held → 262144 ≤ n → exec (.tetherNzlChange f) s = .next (par took)) ∧
        (¬ held → n < 262144 → nextLc s (nozPort n) = none → s.sys.st ≠ .faulted → gives (.tetherNzlChange f) s (fun t =>
          nozEntry t n = e.toNat ∧ ∀ k, k ≠ n → nozEntry t k = nozEntry s k)) ∧
        (∀ l, ¬ held → n < 262144 → nextLc s (nozPort n) = some l → s.nzl.queue.length < 64 →
          (0 ≤ lcDiff lc l → exec (.tetherNzlChange f) s = .next { s with par := took, nzl := queue lc }) ∧
          (lcDiff lc l < 0 → gives (.tetherNzlChange f) s (fun t => t.nzl = queue l ∧
            t.par = { took with updLate := (nozPort n, 256) :: p.updLate.filter (fun x => x.1 != nozPort n) } ∧ noted .fault Err.parUpdLate t ∧
            keepsBut [.par, .nzl, .err, .mgt] s t)))) ∧
      (taken 3 12 →
        let kind := byteAt (b 12) 0
        let i := byteAt (b 12) 1
        let x := sgn 48 (leAt (b 12) 4 8)
        let pend := fun (k : KnotReq) (pos due : Option Int) => { s.sys with pendingKnot := some k, pendingPos := pos, knotDue := due }
        let behind := 0 < geoDir s.fir.geo * rcDiff (road s) x
        (kind = 1 → i < 32 → (milestone s i).stale = false → exec (.tetherKnotReq f) s = .next { s with par := took, sys := pend (.milestone i) none s.sys.knotDue }) ∧
        (kind = 1 → i < 32 → (milestone s i).stale = true → bit (msReg s i 0) 29 = true →
          exec (.tetherKnotReq f) s = .next { s with par := took, sys := pend (.milestone i) none (some (road s * 65536)) }) ∧
        (kind = 1 → i < 32 → (milestone s i).stale = true → bit (msReg s i 0) 29 = false → gives (.tetherKnotReq f) s (fun t =>
          t.par = took ∧ noted .notice Err.knotStale t ∧ keepsBut [.par, .err, .mgt] s t)) ∧
        (kind = 2 → behind → releasedBeyond s (x * 65536) = true → gives (.tetherKnotReq f) s (fun t =>
          t.sys = pend (.roadCount x) (some (x * 65536)) (some (x * 65536)) ∧ t.par = { took with clear := true } ∧ noted .fault Err.parKnotLate t ∧
          keepsBut [.sys, .par, .err, .mgt] s t)) ∧
        (kind = 2 → behind → releasedBeyond s (x * 65536) = false → exec (.tetherKnotReq f) s = .next { s with
          par := took, sys := pend (.roadCount x) (some (x * 65536)) (some (x * 65536)) }) ∧
        (kind = 2 → ¬ behind → exec (.tetherKnotReq f) s = .next { s with
          par := took, sys := pend (.roadCount x) (some (x * 65536)) (if rcDiff (road s) x = 0 then some (x * 65536) else none) }) ∧
        (kind = 3 → exec (.tetherKnotReq f) s = .next { s with par := took, sys := { s.sys with pendingKnot := none, pendingPos := none, knotDue := none } }) ∧
        (kind = 0 ∨ 3 < kind ∨ (kind = 1 ∧ 32 ≤ i) → exec (.tetherKnotReq f) s = .next (par dropped))) ∧
      (taken 4 16 →
        let k := (w32 (leAt (b 16) 0 4), sgn 48 (leAt (b 16) 4 8), BitVec.ofNat 32 (leAt (b 16) 12 4))
        let same := k.1 = s.sys.epoch + 1 ∨ p.lastKnot = some k
        (same → exec (.tetherKnotDone f) s = .next (par { took with knotDone := some k })) ∧
        (¬ same → gives (.tetherKnotDone f) s (fun t => t.par = { took with knotDone := some k, clear := true } ∧ noted .fault Err.parDiverge t ∧
          keepsBut [.par, .err, .mgt] s t))) ∧
      (taken 5 12 →
        let c := byteAt (b 12) 0
        let closed := nextLc s (refPort s) = none
        let becomes := fun (d : DevState) => gives (.tetherState f) s (fun t => t.par = took ∧ t.sys.st = d ∧ t.sys.prev = s.sys.st ∧ keepsBut [.par, .sys, .mgt] s t)
        (c = 0 ∨ 4 < c → exec (.tetherState f) s = .next (par dropped)) ∧
        (1 ≤ c → c ≤ 4 → nextLc s (refPort s) ≠ none → exec (.tetherState f) s = .next (par { took with pendStates := p.pendStates ++ [⟨c, leAt (b 12) 4 5⟩] })) ∧
        (1 ≤ c → c ≤ 4 → closed → ctlLegal s c = false → exec (.tetherState f) s = .next (par took)) ∧
        (c = 1 → closed → s.sys.st = .printing → becomes .held) ∧
        (c = 3 → closed → s.sys.st = .ready ∨ s.sys.st = .printing ∨ s.sys.st = .held → becomes .stopped) ∧
        (c = 2 → closed → s.sys.st = .held → s.dbg.halted = false → gives (.tetherState f) s (fun t => t.par = took ∧
          t.sys.st = (if (printingLayers s).isEmpty then .ready else .printing) ∧ keepsBut [.par, .sys, .nzl, .mgt] s t)) ∧
        (c = 4 → closed → s.sys.st = .stopped → gives (.tetherState f) s (fun t => t.sys.st = .ready ∧ t.sys.prev = .stopped))) ∧
      (taken 6 8 →
        let lc := leAt (b 8) 0 5
        let can := operational s = true ∧ p.pendSplice = none
        (lc ≠ 0 → exec (.tetherYield f) s = .next (par { took with pendYield := some lc })) ∧
        (lc = 0 → ¬ can → exec (.tetherYield f) s = .next (par took)) ∧
        (lc = 0 → can → parReady s = true → exec (.tetherYield f) s = .next (par { took with pendSplice := some 2 })) ∧
        (lc = 0 → can → parReady s = false → gives (.tetherYield f) s (fun t => t.par = took ∧ noted .fault Err.spliceRefused t ∧ keepsBut [.par, .err, .mgt] s t)))) ∧
    (taken 7 1032 →
      let bk := byteAt (b 1032) 0
      let o := leAt (b 1032) 4 4
      let n := (if bk = 2 then o else 2097152 + o) + 1024
      let fits := (bk = 2 ∨ bk = 3) ∧ o + 1024 ≤ bankSize bk
      let copied := fun (t : State) => bankBytes t bk o 1024 = (b 1032).drop 8 ∧ (∀ a, a < o ∨ o + 1024 ≤ a → bankByte t bk a = bankByte s bk a) ∧
        ∀ c : Bank, c.val ≠ bk → ∀ a, bankByte t c a = bankByte s c a
      (p.role ≠ 3 ∨ s.fir.grid.isSome = true → exec (.tetherBulk f) s = .next (par { took with copyPos := 0, heldNzl := [] })) ∧
      (p.role = 3 → s.fir.grid = none → ¬ fits → exec (.tetherBulk f) s = .next (par dropped)) ∧
      (p.role = 3 → s.fir.grid = none → fits → p.heldNzl = [] →
        (n ≠ 3145728 → gives (.tetherBulk f) s (fun t => t.par = { took with copyPos := n } ∧ copied t ∧ keepsBut [.par, .mem] s t)) ∧
        (n = 3145728 → gives (.tetherBulk f) s (fun t => t.par = { took with copyPos := n, role := 2, joined := true, clear := true } ∧ copied t))))

/-- The pair's own events. A HEARTBEAT goes out with its body (R427), and twelve more blocks of a copy under way with it (R435; log 40); one that arrives is kept, adopts the higher
SPLICES, acknowledges, ends its path's miss, and is trigger 4 when it tells of a halted holder (R421, R426 to R430); one that is damaged or out of its check is
counted (R428, R429). A path that misses while the other is valid is a Fault PATH_MISS; with both missed and HITCH_IN_N asserted it is trigger 3 (R429, R430).
What has not been acknowledged for 30 µs goes out again in order, with all that followed it (R426); a resynchronisation takes both lanes to POLL (R423). The splice takes the hitch, counts SPLICES and makes the chip active, with
a Notice SPLICE and the affected lines of each port (R431, R433). A copy begins with the first block of the NOZZLE bank (R435). -/
def Obligations.PairEvents : Prop :=
  ∀ (f d : Bytes) (rx : Arrival) (s : State), s.settled = true → s.sys.st ≠ .cold →
    let p := s.par
    let par := fun (q : ParState) => { s with par := q }
    let up := paired s = true ∧ p.tethUp = true
    let noted := fun (c : ErrClass) (code : Nat) (t : State) => s.err.fatalHeld = false → logged c code s t
    let can := isStandby s = true ∧ operational s = true ∧ p.pendSplice = none
    let later := fun (n : Nat) => if 0 < sgn 32 ((n : Int) - p.splices.toNat) then w32 n else p.splices
    let told := fun (flags role st : Nat) (t : State) => t.par.hbAt = some s.now ∧ t.par.peerHold = flags.testBit 0 ∧ t.par.peerReady = flags.testBit 1 ∧
      t.par.peerHalted = flags.testBit 2 ∧ t.par.peerRole = role ∧ t.par.peerState = st ∧ t.par.role = p.role ∧ t.par.hitchOut = p.hitchOut ∧
      (let taken := can ∧ flags.testBit 2 = true ∧ flags.testBit 0 = true ∧ bit (regVal s 0x180004) 0 = true
       (taken → parReady s = true → t.par.pendSplice = some 4) ∧ (¬ taken ∨ parReady s = false → t.par.pendSplice = p.pendSplice))
    let ended := fun (k : Nat) (t : State) => ∀ x ∈ t.err.faults, x.code = Err.pathMiss → nth x.args 4 0 ≠ k
    let bulk := fun (q n : Nat) => tethFrame 7 q (leBytes 1 (copyAt n).1 ++ leBytes 3 0 ++ leBytes 4 (copyAt n).2 ++ bankBytes s (copyAt n).1 (copyAt n).2 1024)
    let missed := fun (c : Instr) (q : ParState) (other : Bool) =>
      (other = false → gives c s (fun t => t.par = q ∧ noted .fault Err.pathMiss t ∧ keepsBut [.par, .err, .mgt] s t)) ∧
      (other = true → p.hitchIn = false ∨ ¬ can → exec c s = .next (par q)) ∧
      (other = true → p.hitchIn = true → can → parReady s = true → exec c s = .next (par { q with pendSplice := some 3 })) ∧
      (other = true → p.hitchIn = true → can → parReady s = false → gives c s (fun t => t.par = q ∧ noted .fault Err.spliceRefused t ∧ keepsBut [.par, .err, .mgt] s t))
    (up → gives .tetherHeartbeatSend s (fun t => keepsBut [.par] s t ∧
      (p.copying = false → t.par = p ∧ t.outbox = s.outbox ++ [tethOut (tethFrame 1 0 (hbBody s))]) ∧
      (p.copying = true → (∃ o, t.outbox = s.outbox ++ tethOut (tethFrame 1 0 (hbBody s)) :: o) ∧
        (s.fir.grid.isSome = true ∨ p.peerRole ≠ 3 ∨ isActive s = false → t.par = { p with copying := false }) ∧
        (s.fir.grid = none → p.peerRole = 3 → isActive s = true → p.copyPos % 1024 = 0 → p.copyPos ≤ 3145728 → t.par.copyPos = min (p.copyPos + 12288) 3145728)))) ∧
    (tethIs 1 f = true →
      let b := (f.drop 6).take 28
      let good := tethGood 28 f = true ∧ leAt f 2 2 = 0 ∧ byteAt f 8 ≤ 7
      let lc := leAt b 16 5
      let differs := isStandby s = true ∧ ∃ x, lineDigest s lc = some x ∧ x ≠ w32 (leAt b 24 4)
      (¬ up → exec (.tetherHeartbeatRx f) s = .next s) ∧
      (up → ¬ good → exec (.tetherHeartbeatRx f) s = .next (par { p with cntCrc := p.cntCrc + 1 })) ∧
      (up → good → gives (.tetherHeartbeatRx f) s (fun t => told (byteAt b 0) (byteAt b 1) (byteAt b 2) t ∧ t.par.tMiss = false ∧ t.par.nMiss = p.nMiss ∧ ended 0 t ∧
        t.par.splices = later (leAt b 4 4) ∧ t.par.peerDlc = some lc ∧ t.outbox = s.outbox ∧ keepsBut [.par, .err, .mgt] s t ∧
        t.par.unacked = (if p.unacked.any (fun m => m.1 == leAt b 12 2) then (p.unacked.dropWhile (fun m => m.1 != leAt b 12 2)).drop 1 else p.unacked) ∧
        (differs → t.par.clear = true) ∧ (¬ differs → t.par.clear = p.clear)))) ∧
    (awake s = true → netMode s rx.port ≠ 0 → rxUdp rx (decide (rx.frame.ether = .ipv6)) = true → frameBad s rx.port rx.frame = none →
      let net := vmod s.net rx.port (fun q => { q with rxCnt := q.rxCnt + 1 })
      (datagramFor s rx (decide (rx.frame.ether = .ipv6)) (hbPort s) = false → exec (.netHeartbeatRx rx d) s = .next { s with net := net }) ∧
      (datagramFor s rx (decide (rx.frame.ether = .ipv6)) (hbPort s) = true →
      (paired s = false → exec (.netHeartbeatRx rx d) s = .next { s with net := net }) ∧
      (paired s = true → netHbValid s d = false → exec (.netHeartbeatRx rx d) s = .next { s with net := net, par := { p with cntNMiss := satAdd 16 p.cntNMiss 1 } }) ∧
      (paired s = true → netHbValid s d = true → gives (.netHeartbeatRx rx d) s (fun t => told (byteAt d 3) (byteAt d 4) (byteAt d 5) t ∧ t.par.nMiss = false ∧
        t.par.tMiss = p.tMiss ∧ ended 1 t ∧ t.par.splices = later (beAt d 8 4) ∧ t.par.hbBoot = some (BitVec.ofNat 64 (beAt d 24 8)) ∧ t.par.hbSeq = beAt d 32 8 ∧
        t.par.clear = p.clear ∧ t.net = net ∧ t.outbox = s.outbox ∧ keepsBut [.par, .net, .err, .mgt] s t)))) ∧
    (paired s = true → p.tMiss = false → missed .tetherPathMiss { p with tMiss := true, cntTMiss := satAdd 16 p.cntTMiss 1 } p.nMiss) ∧
    (paired s = true → p.nMiss = false → missed .netPathMiss { p with nMiss := true, cntNMiss := satAdd 16 p.cntNMiss 1 } p.tMiss) ∧
    (p.tethUp = true → (∀ m ∈ p.unacked, s.now < m.2.1 + us 30) → exec .tetherResend s = .fault (.cannotOccur "TETHER_RESEND")) ∧
    (p.tethUp = true → (∃ m ∈ p.unacked, m.2.1 + us 30 ≤ s.now) → exec .tetherResend s = .next { s with
      outbox := s.outbox ++ p.unacked.map (fun m => tethOut (tethFrame (byteAt m.2.2 0) m.1 (m.2.2.drop 1)))
      par := { p with cntResend := p.cntResend + BitVec.ofNat 32 p.unacked.length, unacked := p.unacked.map (fun m => (m.1, s.now, m.2.2)) } }) ∧
    (p.tethUp = true → gives .tetherResync s (fun t => 
      t.outbox = s.outbox ++ [.lane 64 (laneRate s 64) false (trainSet s 64 false), .lane 65 (laneRate s 65) false (trainSet s 65 false)] ∧ noted .notice Err.tetherResync t ∧
      t.par = { p with tethUp := false, skew := 0, cntResync := p.cntResync + 1, lanes := p.lanes.map (fun t => { t with st := .poll, waiting := false }) } ∧
      keepsBut [.par, .err, .mgt] s t)) ∧
    (∀ c, isStandby s = true → p.pendSplice = some c → gives .splice s (fun t =>
      let lc := (firPort s (refPort s)).lastLc
      t.par = { p with
        hitchOut := true, yieldSent := if p.hitchOut then p.yieldSent else false, splices := p.splices + 1, role := 1, pendSplice := none, pendYield := none
        lastCode := c, lastLc := lc, spliceWait := geoPorts s.fir.geo, slow := t.par.slow, hold := t.par.hold } ∧
      (p.hitchOut = false → ∃ o, t.outbox = s.outbox ++ .pin "HITCH_OUT_N" 0 true :: o) ∧ keepsBut [.par, .err, .mgt] s t ∧
      (s.err.fatalHeld = false → (∃ e ∈ t.err.ring, e.cls = .notice ∧ e.code = Err.splice ∧ e.args = [c, lc % 2 ^ 32, lc / 2 ^ 32]) ∧
        ∀ q ∈ geoPorts s.fir.geo, ∀ x y, spliceRange s q = some (x, y) →
          ∃ e ∈ t.err.ring, e.cls = (if c = 2 then .notice else .fault) ∧ e.code = Err.spliceLines ∧ e.args = q :: arg64 x ++ arg64 y))) ∧
    (isActive s = true → s.sys.st = .ready → s.fir.grid = none → p.tethUp = true → p.peerRole = 3 → p.copying = false → exec .rejoinCopyStart s = .next { s with
      outbox := s.outbox ++ [tethOut (bulk (nextTseq p.txSeq) 0)]
      par := { p with copying := true, copyPos := 1024, txSeq := nextTseq p.txSeq, unacked := p.unacked ++ [(nextTseq p.txSeq, s.now,
        leBytes 1 7 ++ (leBytes 1 2 ++ leBytes 3 0 ++ leBytes 4 0 ++ bankBytes s 2 0 1024))] } })
end

