-- ==== Sys2Proof/Laws/State.lean ====
section
/-! SUPPORT. One lemma per field of the state and per updater of Machine/Ops.lean: what the updater puts there, or that it leaves the
field alone. No later proof unfolds a record update of these. -/

namespace Sys2Proof.Machine

@[simp] theorem mErr_pending (f : ErrState → ErrState) (s : State) : (mErr f s).pending = s.pending := rfl
@[simp] theorem mErr_now (f : ErrState → ErrState) (s : State) : (mErr f s).now = s.now := rfl
@[simp] theorem mErr_free (f : ErrState → ErrState) (s : State) : (mErr f s).free = s.free := rfl
@[simp] theorem mErr_outbox (f : ErrState → ErrState) (s : State) : (mErr f s).outbox = s.outbox := rfl
@[simp] theorem mErr_regs (f : ErrState → ErrState) (s : State) : (mErr f s).regs = s.regs := rfl
@[simp] theorem mErr_act (f : ErrState → ErrState) (s : State) : (mErr f s).act = s.act := rfl
@[simp] theorem mErr_sys (f : ErrState → ErrState) (s : State) : (mErr f s).sys = s.sys := rfl
@[simp] theorem mErr_err (f : ErrState → ErrState) (s : State) : (mErr f s).err = f s.err := rfl
@[simp] theorem mErr_cap (f : ErrState → ErrState) (s : State) : (mErr f s).cap = s.cap := rfl
@[simp] theorem mErr_dbg (f : ErrState → ErrState) (s : State) : (mErr f s).dbg = s.dbg := rfl
@[simp] theorem mErr_cfg (f : ErrState → ErrState) (s : State) : (mErr f s).cfg = s.cfg := rfl
@[simp] theorem mErr_keep (f : ErrState → ErrState) (s : State) : (mErr f s).keep = s.keep := rfl
@[simp] theorem mErr_net (f : ErrState → ErrState) (s : State) : (mErr f s).net = s.net := rfl
@[simp] theorem mErr_netId (f : ErrState → ErrState) (s : State) : (mErr f s).netId = s.netId := rfl
@[simp] theorem mErr_ptp (f : ErrState → ErrState) (s : State) : (mErr f s).ptp = s.ptp := rfl
@[simp] theorem mErr_mgt (f : ErrState → ErrState) (s : State) : (mErr f s).mgt = s.mgt := rfl
@[simp] theorem mErr_tow (f : ErrState → ErrState) (s : State) : (mErr f s).tow = s.tow := rfl
@[simp] theorem mErr_plc (f : ErrState → ErrState) (s : State) : (mErr f s).plc = s.plc := rfl
@[simp] theorem mErr_cmp (f : ErrState → ErrState) (s : State) : (mErr f s).cmp = s.cmp := rfl
@[simp] theorem mErr_str (f : ErrState → ErrState) (s : State) : (mErr f s).str = s.str := rfl
@[simp] theorem mErr_pos (f : ErrState → ErrState) (s : State) : (mErr f s).pos = s.pos := rfl
@[simp] theorem mErr_mil (f : ErrState → ErrState) (s : State) : (mErr f s).mil = s.mil := rfl
@[simp] theorem mErr_fir (f : ErrState → ErrState) (s : State) : (mErr f s).fir = s.fir := rfl
@[simp] theorem mErr_stg (f : ErrState → ErrState) (s : State) : (mErr f s).stg = s.stg := rfl
@[simp] theorem mErr_nzl (f : ErrState → ErrState) (s : State) : (mErr f s).nzl = s.nzl := rfl
@[simp] theorem mErr_gat (f : ErrState → ErrState) (s : State) : (mErr f s).gat = s.gat := rfl
@[simp] theorem mErr_gul (f : ErrState → ErrState) (s : State) : (mErr f s).gul = s.gul := rfl
@[simp] theorem mErr_insp (f : ErrState → ErrState) (s : State) : (mErr f s).insp = s.insp := rfl
@[simp] theorem mErr_mem (f : ErrState → ErrState) (s : State) : (mErr f s).mem = s.mem := rfl
@[simp] theorem mErr_axs (f : ErrState → ErrState) (s : State) : (mErr f s).axs = s.axs := rfl
@[simp] theorem mErr_lmp (f : ErrState → ErrState) (s : State) : (mErr f s).lmp = s.lmp := rfl
@[simp] theorem mErr_par (f : ErrState → ErrState) (s : State) : (mErr f s).par = s.par := rfl
@[simp] theorem mErr_cal (f : ErrState → ErrState) (s : State) : (mErr f s).cal = s.cal := rfl

@[simp] theorem mSys_pending (f : SysState → SysState) (s : State) : (mSys f s).pending = s.pending := rfl
@[simp] theorem mSys_now (f : SysState → SysState) (s : State) : (mSys f s).now = s.now := rfl
@[simp] theorem mSys_free (f : SysState → SysState) (s : State) : (mSys f s).free = s.free := rfl
@[simp] theorem mSys_outbox (f : SysState → SysState) (s : State) : (mSys f s).outbox = s.outbox := rfl
@[simp] theorem mSys_regs (f : SysState → SysState) (s : State) : (mSys f s).regs = s.regs := rfl
@[simp] theorem mSys_act (f : SysState → SysState) (s : State) : (mSys f s).act = s.act := rfl
@[simp] theorem mSys_sys (f : SysState → SysState) (s : State) : (mSys f s).sys = f s.sys := rfl
@[simp] theorem mSys_err (f : SysState → SysState) (s : State) : (mSys f s).err = s.err := rfl
@[simp] theorem mSys_cap (f : SysState → SysState) (s : State) : (mSys f s).cap = s.cap := rfl
@[simp] theorem mSys_dbg (f : SysState → SysState) (s : State) : (mSys f s).dbg = s.dbg := rfl
@[simp] theorem mSys_cfg (f : SysState → SysState) (s : State) : (mSys f s).cfg = s.cfg := rfl
@[simp] theorem mSys_keep (f : SysState → SysState) (s : State) : (mSys f s).keep = s.keep := rfl
@[simp] theorem mSys_net (f : SysState → SysState) (s : State) : (mSys f s).net = s.net := rfl
@[simp] theorem mSys_netId (f : SysState → SysState) (s : State) : (mSys f s).netId = s.netId := rfl
@[simp] theorem mSys_ptp (f : SysState → SysState) (s : State) : (mSys f s).ptp = s.ptp := rfl
@[simp] theorem mSys_mgt (f : SysState → SysState) (s : State) : (mSys f s).mgt = s.mgt := rfl
@[simp] theorem mSys_tow (f : SysState → SysState) (s : State) : (mSys f s).tow = s.tow := rfl
@[simp] theorem mSys_plc (f : SysState → SysState) (s : State) : (mSys f s).plc = s.plc := rfl
@[simp] theorem mSys_cmp (f : SysState → SysState) (s : State) : (mSys f s).cmp = s.cmp := rfl
@[simp] theorem mSys_str (f : SysState → SysState) (s : State) : (mSys f s).str = s.str := rfl
@[simp] theorem mSys_pos (f : SysState → SysState) (s : State) : (mSys f s).pos = s.pos := rfl
@[simp] theorem mSys_mil (f : SysState → SysState) (s : State) : (mSys f s).mil = s.mil := rfl
@[simp] theorem mSys_fir (f : SysState → SysState) (s : State) : (mSys f s).fir = s.fir := rfl
@[simp] theorem mSys_stg (f : SysState → SysState) (s : State) : (mSys f s).stg = s.stg := rfl
@[simp] theorem mSys_nzl (f : SysState → SysState) (s : State) : (mSys f s).nzl = s.nzl := rfl
@[simp] theorem mSys_gat (f : SysState → SysState) (s : State) : (mSys f s).gat = s.gat := rfl
@[simp] theorem mSys_gul (f : SysState → SysState) (s : State) : (mSys f s).gul = s.gul := rfl
@[simp] theorem mSys_insp (f : SysState → SysState) (s : State) : (mSys f s).insp = s.insp := rfl
@[simp] theorem mSys_mem (f : SysState → SysState) (s : State) : (mSys f s).mem = s.mem := rfl
@[simp] theorem mSys_axs (f : SysState → SysState) (s : State) : (mSys f s).axs = s.axs := rfl
@[simp] theorem mSys_lmp (f : SysState → SysState) (s : State) : (mSys f s).lmp = s.lmp := rfl
@[simp] theorem mSys_par (f : SysState → SysState) (s : State) : (mSys f s).par = s.par := rfl
@[simp] theorem mSys_cal (f : SysState → SysState) (s : State) : (mSys f s).cal = s.cal := rfl

@[simp] theorem mDbg_pending (f : DbgState → DbgState) (s : State) : (mDbg f s).pending = s.pending := rfl
@[simp] theorem mDbg_now (f : DbgState → DbgState) (s : State) : (mDbg f s).now = s.now := rfl
@[simp] theorem mDbg_free (f : DbgState → DbgState) (s : State) : (mDbg f s).free = s.free := rfl
@[simp] theorem mDbg_outbox (f : DbgState → DbgState) (s : State) : (mDbg f s).outbox = s.outbox := rfl
@[simp] theorem mDbg_regs (f : DbgState → DbgState) (s : State) : (mDbg f s).regs = s.regs := rfl
@[simp] theorem mDbg_act (f : DbgState → DbgState) (s : State) : (mDbg f s).act = s.act := rfl
@[simp] theorem mDbg_sys (f : DbgState → DbgState) (s : State) : (mDbg f s).sys = s.sys := rfl
@[simp] theorem mDbg_err (f : DbgState → DbgState) (s : State) : (mDbg f s).err = s.err := rfl
@[simp] theorem mDbg_cap (f : DbgState → DbgState) (s : State) : (mDbg f s).cap = s.cap := rfl
@[simp] theorem mDbg_dbg (f : DbgState → DbgState) (s : State) : (mDbg f s).dbg = f s.dbg := rfl
@[simp] theorem mDbg_cfg (f : DbgState → DbgState) (s : State) : (mDbg f s).cfg = s.cfg := rfl
@[simp] theorem mDbg_keep (f : DbgState → DbgState) (s : State) : (mDbg f s).keep = s.keep := rfl
@[simp] theorem mDbg_net (f : DbgState → DbgState) (s : State) : (mDbg f s).net = s.net := rfl
@[simp] theorem mDbg_netId (f : DbgState → DbgState) (s : State) : (mDbg f s).netId = s.netId := rfl
@[simp] theorem mDbg_ptp (f : DbgState → DbgState) (s : State) : (mDbg f s).ptp = s.ptp := rfl
@[simp] theorem mDbg_mgt (f : DbgState → DbgState) (s : State) : (mDbg f s).mgt = s.mgt := rfl
@[simp] theorem mDbg_tow (f : DbgState → DbgState) (s : State) : (mDbg f s).tow = s.tow := rfl
@[simp] theorem mDbg_plc (f : DbgState → DbgState) (s : State) : (mDbg f s).plc = s.plc := rfl
@[simp] theorem mDbg_cmp (f : DbgState → DbgState) (s : State) : (mDbg f s).cmp = s.cmp := rfl
@[simp] theorem mDbg_str (f : DbgState → DbgState) (s : State) : (mDbg f s).str = s.str := rfl
@[simp] theorem mDbg_pos (f : DbgState → DbgState) (s : State) : (mDbg f s).pos = s.pos := rfl
@[simp] theorem mDbg_mil (f : DbgState → DbgState) (s : State) : (mDbg f s).mil = s.mil := rfl
@[simp] theorem mDbg_fir (f : DbgState → DbgState) (s : State) : (mDbg f s).fir = s.fir := rfl
@[simp] theorem mDbg_stg (f : DbgState → DbgState) (s : State) : (mDbg f s).stg = s.stg := rfl
@[simp] theorem mDbg_nzl (f : DbgState → DbgState) (s : State) : (mDbg f s).nzl = s.nzl := rfl
@[simp] theorem mDbg_gat (f : DbgState → DbgState) (s : State) : (mDbg f s).gat = s.gat := rfl
@[simp] theorem mDbg_gul (f : DbgState → DbgState) (s : State) : (mDbg f s).gul = s.gul := rfl
@[simp] theorem mDbg_insp (f : DbgState → DbgState) (s : State) : (mDbg f s).insp = s.insp := rfl
@[simp] theorem mDbg_mem (f : DbgState → DbgState) (s : State) : (mDbg f s).mem = s.mem := rfl
@[simp] theorem mDbg_axs (f : DbgState → DbgState) (s : State) : (mDbg f s).axs = s.axs := rfl
@[simp] theorem mDbg_lmp (f : DbgState → DbgState) (s : State) : (mDbg f s).lmp = s.lmp := rfl
@[simp] theorem mDbg_par (f : DbgState → DbgState) (s : State) : (mDbg f s).par = s.par := rfl
@[simp] theorem mDbg_cal (f : DbgState → DbgState) (s : State) : (mDbg f s).cal = s.cal := rfl

@[simp] theorem mCfg_pending (f : CfgState → CfgState) (s : State) : (mCfg f s).pending = s.pending := rfl
@[simp] theorem mCfg_now (f : CfgState → CfgState) (s : State) : (mCfg f s).now = s.now := rfl
@[simp] theorem mCfg_free (f : CfgState → CfgState) (s : State) : (mCfg f s).free = s.free := rfl
@[simp] theorem mCfg_outbox (f : CfgState → CfgState) (s : State) : (mCfg f s).outbox = s.outbox := rfl
@[simp] theorem mCfg_regs (f : CfgState → CfgState) (s : State) : (mCfg f s).regs = s.regs := rfl
@[simp] theorem mCfg_act (f : CfgState → CfgState) (s : State) : (mCfg f s).act = s.act := rfl
@[simp] theorem mCfg_sys (f : CfgState → CfgState) (s : State) : (mCfg f s).sys = s.sys := rfl
@[simp] theorem mCfg_err (f : CfgState → CfgState) (s : State) : (mCfg f s).err = s.err := rfl
@[simp] theorem mCfg_cap (f : CfgState → CfgState) (s : State) : (mCfg f s).cap = s.cap := rfl
@[simp] theorem mCfg_dbg (f : CfgState → CfgState) (s : State) : (mCfg f s).dbg = s.dbg := rfl
@[simp] theorem mCfg_cfg (f : CfgState → CfgState) (s : State) : (mCfg f s).cfg = f s.cfg := rfl
@[simp] theorem mCfg_keep (f : CfgState → CfgState) (s : State) : (mCfg f s).keep = s.keep := rfl
@[simp] theorem mCfg_net (f : CfgState → CfgState) (s : State) : (mCfg f s).net = s.net := rfl
@[simp] theorem mCfg_netId (f : CfgState → CfgState) (s : State) : (mCfg f s).netId = s.netId := rfl
@[simp] theorem mCfg_ptp (f : CfgState → CfgState) (s : State) : (mCfg f s).ptp = s.ptp := rfl
@[simp] theorem mCfg_mgt (f : CfgState → CfgState) (s : State) : (mCfg f s).mgt = s.mgt := rfl
@[simp] theorem mCfg_tow (f : CfgState → CfgState) (s : State) : (mCfg f s).tow = s.tow := rfl
@[simp] theorem mCfg_plc (f : CfgState → CfgState) (s : State) : (mCfg f s).plc = s.plc := rfl
@[simp] theorem mCfg_cmp (f : CfgState → CfgState) (s : State) : (mCfg f s).cmp = s.cmp := rfl
@[simp] theorem mCfg_str (f : CfgState → CfgState) (s : State) : (mCfg f s).str = s.str := rfl
@[simp] theorem mCfg_pos (f : CfgState → CfgState) (s : State) : (mCfg f s).pos = s.pos := rfl
@[simp] theorem mCfg_mil (f : CfgState → CfgState) (s : State) : (mCfg f s).mil = s.mil := rfl
@[simp] theorem mCfg_fir (f : CfgState → CfgState) (s : State) : (mCfg f s).fir = s.fir := rfl
@[simp] theorem mCfg_stg (f : CfgState → CfgState) (s : State) : (mCfg f s).stg = s.stg := rfl
@[simp] theorem mCfg_nzl (f : CfgState → CfgState) (s : State) : (mCfg f s).nzl = s.nzl := rfl
@[simp] theorem mCfg_gat (f : CfgState → CfgState) (s : State) : (mCfg f s).gat = s.gat := rfl
@[simp] theorem mCfg_gul (f : CfgState → CfgState) (s : State) : (mCfg f s).gul = s.gul := rfl
@[simp] theorem mCfg_insp (f : CfgState → CfgState) (s : State) : (mCfg f s).insp = s.insp := rfl
@[simp] theorem mCfg_mem (f : CfgState → CfgState) (s : State) : (mCfg f s).mem = s.mem := rfl
@[simp] theorem mCfg_axs (f : CfgState → CfgState) (s : State) : (mCfg f s).axs = s.axs := rfl
@[simp] theorem mCfg_lmp (f : CfgState → CfgState) (s : State) : (mCfg f s).lmp = s.lmp := rfl
@[simp] theorem mCfg_par (f : CfgState → CfgState) (s : State) : (mCfg f s).par = s.par := rfl
@[simp] theorem mCfg_cal (f : CfgState → CfgState) (s : State) : (mCfg f s).cal = s.cal := rfl

@[simp] theorem mKeep_pending (f : KeepState → KeepState) (s : State) : (mKeep f s).pending = s.pending := rfl
@[simp] theorem mKeep_now (f : KeepState → KeepState) (s : State) : (mKeep f s).now = s.now := rfl
@[simp] theorem mKeep_free (f : KeepState → KeepState) (s : State) : (mKeep f s).free = s.free := rfl
@[simp] theorem mKeep_outbox (f : KeepState → KeepState) (s : State) : (mKeep f s).outbox = s.outbox := rfl
@[simp] theorem mKeep_regs (f : KeepState → KeepState) (s : State) : (mKeep f s).regs = s.regs := rfl
@[simp] theorem mKeep_act (f : KeepState → KeepState) (s : State) : (mKeep f s).act = s.act := rfl
@[simp] theorem mKeep_sys (f : KeepState → KeepState) (s : State) : (mKeep f s).sys = s.sys := rfl
@[simp] theorem mKeep_err (f : KeepState → KeepState) (s : State) : (mKeep f s).err = s.err := rfl
@[simp] theorem mKeep_cap (f : KeepState → KeepState) (s : State) : (mKeep f s).cap = s.cap := rfl
@[simp] theorem mKeep_dbg (f : KeepState → KeepState) (s : State) : (mKeep f s).dbg = s.dbg := rfl
@[simp] theorem mKeep_cfg (f : KeepState → KeepState) (s : State) : (mKeep f s).cfg = s.cfg := rfl
@[simp] theorem mKeep_keep (f : KeepState → KeepState) (s : State) : (mKeep f s).keep = f s.keep := rfl
@[simp] theorem mKeep_net (f : KeepState → KeepState) (s : State) : (mKeep f s).net = s.net := rfl
@[simp] theorem mKeep_netId (f : KeepState → KeepState) (s : State) : (mKeep f s).netId = s.netId := rfl
@[simp] theorem mKeep_ptp (f : KeepState → KeepState) (s : State) : (mKeep f s).ptp = s.ptp := rfl
@[simp] theorem mKeep_mgt (f : KeepState → KeepState) (s : State) : (mKeep f s).mgt = s.mgt := rfl
@[simp] theorem mKeep_tow (f : KeepState → KeepState) (s : State) : (mKeep f s).tow = s.tow := rfl
@[simp] theorem mKeep_plc (f : KeepState → KeepState) (s : State) : (mKeep f s).plc = s.plc := rfl
@[simp] theorem mKeep_cmp (f : KeepState → KeepState) (s : State) : (mKeep f s).cmp = s.cmp := rfl
@[simp] theorem mKeep_str (f : KeepState → KeepState) (s : State) : (mKeep f s).str = s.str := rfl
@[simp] theorem mKeep_pos (f : KeepState → KeepState) (s : State) : (mKeep f s).pos = s.pos := rfl
@[simp] theorem mKeep_mil (f : KeepState → KeepState) (s : State) : (mKeep f s).mil = s.mil := rfl
@[simp] theorem mKeep_fir (f : KeepState → KeepState) (s : State) : (mKeep f s).fir = s.fir := rfl
@[simp] theorem mKeep_stg (f : KeepState → KeepState) (s : State) : (mKeep f s).stg = s.stg := rfl
@[simp] theorem mKeep_nzl (f : KeepState → KeepState) (s : State) : (mKeep f s).nzl = s.nzl := rfl
@[simp] theorem mKeep_gat (f : KeepState → KeepState) (s : State) : (mKeep f s).gat = s.gat := rfl
@[simp] theorem mKeep_gul (f : KeepState → KeepState) (s : State) : (mKeep f s).gul = s.gul := rfl
@[simp] theorem mKeep_insp (f : KeepState → KeepState) (s : State) : (mKeep f s).insp = s.insp := rfl
@[simp] theorem mKeep_mem (f : KeepState → KeepState) (s : State) : (mKeep f s).mem = s.mem := rfl
@[simp] theorem mKeep_axs (f : KeepState → KeepState) (s : State) : (mKeep f s).axs = s.axs := rfl
@[simp] theorem mKeep_lmp (f : KeepState → KeepState) (s : State) : (mKeep f s).lmp = s.lmp := rfl
@[simp] theorem mKeep_par (f : KeepState → KeepState) (s : State) : (mKeep f s).par = s.par := rfl
@[simp] theorem mKeep_cal (f : KeepState → KeepState) (s : State) : (mKeep f s).cal = s.cal := rfl

@[simp] theorem mNet_pending (i : Nat) (f : NetPortState → NetPortState) (s : State) : (mNet i f s).pending = s.pending := rfl
@[simp] theorem mNet_now (i : Nat) (f : NetPortState → NetPortState) (s : State) : (mNet i f s).now = s.now := rfl
@[simp] theorem mNet_free (i : Nat) (f : NetPortState → NetPortState) (s : State) : (mNet i f s).free = s.free := rfl
@[simp] theorem mNet_outbox (i : Nat) (f : NetPortState → NetPortState) (s : State) : (mNet i f s).outbox = s.outbox := rfl
@[simp] theorem mNet_regs (i : Nat) (f : NetPortState → NetPortState) (s : State) : (mNet i f s).regs = s.regs := rfl
@[simp] theorem mNet_act (i : Nat) (f : NetPortState → NetPortState) (s : State) : (mNet i f s).act = s.act := rfl
@[simp] theorem mNet_sys (i : Nat) (f : NetPortState → NetPortState) (s : State) : (mNet i f s).sys = s.sys := rfl
@[simp] theorem mNet_err (i : Nat) (f : NetPortState → NetPortState) (s : State) : (mNet i f s).err = s.err := rfl
@[simp] theorem mNet_cap (i : Nat) (f : NetPortState → NetPortState) (s : State) : (mNet i f s).cap = s.cap := rfl
@[simp] theorem mNet_dbg (i : Nat) (f : NetPortState → NetPortState) (s : State) : (mNet i f s).dbg = s.dbg := rfl
@[simp] theorem mNet_cfg (i : Nat) (f : NetPortState → NetPortState) (s : State) : (mNet i f s).cfg = s.cfg := rfl
@[simp] theorem mNet_keep (i : Nat) (f : NetPortState → NetPortState) (s : State) : (mNet i f s).keep = s.keep := rfl
@[simp] theorem mNet_net (i : Nat) (f : NetPortState → NetPortState) (s : State) : (mNet i f s).net = vmod s.net i f := rfl
@[simp] theorem mNet_netId (i : Nat) (f : NetPortState → NetPortState) (s : State) : (mNet i f s).netId = s.netId := rfl
@[simp] theorem mNet_ptp (i : Nat) (f : NetPortState → NetPortState) (s : State) : (mNet i f s).ptp = s.ptp := rfl
@[simp] theorem mNet_mgt (i : Nat) (f : NetPortState → NetPortState) (s : State) : (mNet i f s).mgt = s.mgt := rfl
@[simp] theorem mNet_tow (i : Nat) (f : NetPortState → NetPortState) (s : State) : (mNet i f s).tow = s.tow := rfl
@[simp] theorem mNet_plc (i : Nat) (f : NetPortState → NetPortState) (s : State) : (mNet i f s).plc = s.plc := rfl
@[simp] theorem mNet_cmp (i : Nat) (f : NetPortState → NetPortState) (s : State) : (mNet i f s).cmp = s.cmp := rfl
@[simp] theorem mNet_str (i : Nat) (f : NetPortState → NetPortState) (s : State) : (mNet i f s).str = s.str := rfl
@[simp] theorem mNet_pos (i : Nat) (f : NetPortState → NetPortState) (s : State) : (mNet i f s).pos = s.pos := rfl
@[simp] theorem mNet_mil (i : Nat) (f : NetPortState → NetPortState) (s : State) : (mNet i f s).mil = s.mil := rfl
@[simp] theorem mNet_fir (i : Nat) (f : NetPortState → NetPortState) (s : State) : (mNet i f s).fir = s.fir := rfl
@[simp] theorem mNet_stg (i : Nat) (f : NetPortState → NetPortState) (s : State) : (mNet i f s).stg = s.stg := rfl
@[simp] theorem mNet_nzl (i : Nat) (f : NetPortState → NetPortState) (s : State) : (mNet i f s).nzl = s.nzl := rfl
@[simp] theorem mNet_gat (i : Nat) (f : NetPortState → NetPortState) (s : State) : (mNet i f s).gat = s.gat := rfl
@[simp] theorem mNet_gul (i : Nat) (f : NetPortState → NetPortState) (s : State) : (mNet i f s).gul = s.gul := rfl
@[simp] theorem mNet_insp (i : Nat) (f : NetPortState → NetPortState) (s : State) : (mNet i f s).insp = s.insp := rfl
@[simp] theorem mNet_mem (i : Nat) (f : NetPortState → NetPortState) (s : State) : (mNet i f s).mem = s.mem := rfl
@[simp] theorem mNet_axs (i : Nat) (f : NetPortState → NetPortState) (s : State) : (mNet i f s).axs = s.axs := rfl
@[simp] theorem mNet_lmp (i : Nat) (f : NetPortState → NetPortState) (s : State) : (mNet i f s).lmp = s.lmp := rfl
@[simp] theorem mNet_par (i : Nat) (f : NetPortState → NetPortState) (s : State) : (mNet i f s).par = s.par := rfl
@[simp] theorem mNet_cal (i : Nat) (f : NetPortState → NetPortState) (s : State) : (mNet i f s).cal = s.cal := rfl

@[simp] theorem mPtp_pending (f : PtpState → PtpState) (s : State) : (mPtp f s).pending = s.pending := rfl
@[simp] theorem mPtp_now (f : PtpState → PtpState) (s : State) : (mPtp f s).now = s.now := rfl
@[simp] theorem mPtp_free (f : PtpState → PtpState) (s : State) : (mPtp f s).free = s.free := rfl
@[simp] theorem mPtp_outbox (f : PtpState → PtpState) (s : State) : (mPtp f s).outbox = s.outbox := rfl
@[simp] theorem mPtp_regs (f : PtpState → PtpState) (s : State) : (mPtp f s).regs = s.regs := rfl
@[simp] theorem mPtp_act (f : PtpState → PtpState) (s : State) : (mPtp f s).act = s.act := rfl
@[simp] theorem mPtp_sys (f : PtpState → PtpState) (s : State) : (mPtp f s).sys = s.sys := rfl
@[simp] theorem mPtp_err (f : PtpState → PtpState) (s : State) : (mPtp f s).err = s.err := rfl
@[simp] theorem mPtp_cap (f : PtpState → PtpState) (s : State) : (mPtp f s).cap = s.cap := rfl
@[simp] theorem mPtp_dbg (f : PtpState → PtpState) (s : State) : (mPtp f s).dbg = s.dbg := rfl
@[simp] theorem mPtp_cfg (f : PtpState → PtpState) (s : State) : (mPtp f s).cfg = s.cfg := rfl
@[simp] theorem mPtp_keep (f : PtpState → PtpState) (s : State) : (mPtp f s).keep = s.keep := rfl
@[simp] theorem mPtp_net (f : PtpState → PtpState) (s : State) : (mPtp f s).net = s.net := rfl
@[simp] theorem mPtp_netId (f : PtpState → PtpState) (s : State) : (mPtp f s).netId = s.netId := rfl
@[simp] theorem mPtp_ptp (f : PtpState → PtpState) (s : State) : (mPtp f s).ptp = f s.ptp := rfl
@[simp] theorem mPtp_mgt (f : PtpState → PtpState) (s : State) : (mPtp f s).mgt = s.mgt := rfl
@[simp] theorem mPtp_tow (f : PtpState → PtpState) (s : State) : (mPtp f s).tow = s.tow := rfl
@[simp] theorem mPtp_plc (f : PtpState → PtpState) (s : State) : (mPtp f s).plc = s.plc := rfl
@[simp] theorem mPtp_cmp (f : PtpState → PtpState) (s : State) : (mPtp f s).cmp = s.cmp := rfl
@[simp] theorem mPtp_str (f : PtpState → PtpState) (s : State) : (mPtp f s).str = s.str := rfl
@[simp] theorem mPtp_pos (f : PtpState → PtpState) (s : State) : (mPtp f s).pos = s.pos := rfl
@[simp] theorem mPtp_mil (f : PtpState → PtpState) (s : State) : (mPtp f s).mil = s.mil := rfl
@[simp] theorem mPtp_fir (f : PtpState → PtpState) (s : State) : (mPtp f s).fir = s.fir := rfl
@[simp] theorem mPtp_stg (f : PtpState → PtpState) (s : State) : (mPtp f s).stg = s.stg := rfl
@[simp] theorem mPtp_nzl (f : PtpState → PtpState) (s : State) : (mPtp f s).nzl = s.nzl := rfl
@[simp] theorem mPtp_gat (f : PtpState → PtpState) (s : State) : (mPtp f s).gat = s.gat := rfl
@[simp] theorem mPtp_gul (f : PtpState → PtpState) (s : State) : (mPtp f s).gul = s.gul := rfl
@[simp] theorem mPtp_insp (f : PtpState → PtpState) (s : State) : (mPtp f s).insp = s.insp := rfl
@[simp] theorem mPtp_mem (f : PtpState → PtpState) (s : State) : (mPtp f s).mem = s.mem := rfl
@[simp] theorem mPtp_axs (f : PtpState → PtpState) (s : State) : (mPtp f s).axs = s.axs := rfl
@[simp] theorem mPtp_lmp (f : PtpState → PtpState) (s : State) : (mPtp f s).lmp = s.lmp := rfl
@[simp] theorem mPtp_par (f : PtpState → PtpState) (s : State) : (mPtp f s).par = s.par := rfl
@[simp] theorem mPtp_cal (f : PtpState → PtpState) (s : State) : (mPtp f s).cal = s.cal := rfl

@[simp] theorem mDom_pending (d : Nat) (f : PtpDom → PtpDom) (s : State) : (mDom d f s).pending = s.pending := rfl
@[simp] theorem mDom_now (d : Nat) (f : PtpDom → PtpDom) (s : State) : (mDom d f s).now = s.now := rfl
@[simp] theorem mDom_free (d : Nat) (f : PtpDom → PtpDom) (s : State) : (mDom d f s).free = s.free := rfl
@[simp] theorem mDom_outbox (d : Nat) (f : PtpDom → PtpDom) (s : State) : (mDom d f s).outbox = s.outbox := rfl
@[simp] theorem mDom_regs (d : Nat) (f : PtpDom → PtpDom) (s : State) : (mDom d f s).regs = s.regs := rfl
@[simp] theorem mDom_act (d : Nat) (f : PtpDom → PtpDom) (s : State) : (mDom d f s).act = s.act := rfl
@[simp] theorem mDom_sys (d : Nat) (f : PtpDom → PtpDom) (s : State) : (mDom d f s).sys = s.sys := rfl
@[simp] theorem mDom_err (d : Nat) (f : PtpDom → PtpDom) (s : State) : (mDom d f s).err = s.err := rfl
@[simp] theorem mDom_cap (d : Nat) (f : PtpDom → PtpDom) (s : State) : (mDom d f s).cap = s.cap := rfl
@[simp] theorem mDom_dbg (d : Nat) (f : PtpDom → PtpDom) (s : State) : (mDom d f s).dbg = s.dbg := rfl
@[simp] theorem mDom_cfg (d : Nat) (f : PtpDom → PtpDom) (s : State) : (mDom d f s).cfg = s.cfg := rfl
@[simp] theorem mDom_keep (d : Nat) (f : PtpDom → PtpDom) (s : State) : (mDom d f s).keep = s.keep := rfl
@[simp] theorem mDom_net (d : Nat) (f : PtpDom → PtpDom) (s : State) : (mDom d f s).net = s.net := rfl
@[simp] theorem mDom_netId (d : Nat) (f : PtpDom → PtpDom) (s : State) : (mDom d f s).netId = s.netId := rfl
@[simp] theorem mDom_ptp (d : Nat) (f : PtpDom → PtpDom) (s : State) : (mDom d f s).ptp = { s.ptp with doms := vmod s.ptp.doms d f } := rfl
@[simp] theorem mDom_mgt (d : Nat) (f : PtpDom → PtpDom) (s : State) : (mDom d f s).mgt = s.mgt := rfl
@[simp] theorem mDom_tow (d : Nat) (f : PtpDom → PtpDom) (s : State) : (mDom d f s).tow = s.tow := rfl
@[simp] theorem mDom_plc (d : Nat) (f : PtpDom → PtpDom) (s : State) : (mDom d f s).plc = s.plc := rfl
@[simp] theorem mDom_cmp (d : Nat) (f : PtpDom → PtpDom) (s : State) : (mDom d f s).cmp = s.cmp := rfl
@[simp] theorem mDom_str (d : Nat) (f : PtpDom → PtpDom) (s : State) : (mDom d f s).str = s.str := rfl
@[simp] theorem mDom_pos (d : Nat) (f : PtpDom → PtpDom) (s : State) : (mDom d f s).pos = s.pos := rfl
@[simp] theorem mDom_mil (d : Nat) (f : PtpDom → PtpDom) (s : State) : (mDom d f s).mil = s.mil := rfl
@[simp] theorem mDom_fir (d : Nat) (f : PtpDom → PtpDom) (s : State) : (mDom d f s).fir = s.fir := rfl
@[simp] theorem mDom_stg (d : Nat) (f : PtpDom → PtpDom) (s : State) : (mDom d f s).stg = s.stg := rfl
@[simp] theorem mDom_nzl (d : Nat) (f : PtpDom → PtpDom) (s : State) : (mDom d f s).nzl = s.nzl := rfl
@[simp] theorem mDom_gat (d : Nat) (f : PtpDom → PtpDom) (s : State) : (mDom d f s).gat = s.gat := rfl
@[simp] theorem mDom_gul (d : Nat) (f : PtpDom → PtpDom) (s : State) : (mDom d f s).gul = s.gul := rfl
@[simp] theorem mDom_insp (d : Nat) (f : PtpDom → PtpDom) (s : State) : (mDom d f s).insp = s.insp := rfl
@[simp] theorem mDom_mem (d : Nat) (f : PtpDom → PtpDom) (s : State) : (mDom d f s).mem = s.mem := rfl
@[simp] theorem mDom_axs (d : Nat) (f : PtpDom → PtpDom) (s : State) : (mDom d f s).axs = s.axs := rfl
@[simp] theorem mDom_lmp (d : Nat) (f : PtpDom → PtpDom) (s : State) : (mDom d f s).lmp = s.lmp := rfl
@[simp] theorem mDom_par (d : Nat) (f : PtpDom → PtpDom) (s : State) : (mDom d f s).par = s.par := rfl
@[simp] theorem mDom_cal (d : Nat) (f : PtpDom → PtpDom) (s : State) : (mDom d f s).cal = s.cal := rfl

@[simp] theorem mMgt_pending (f : MgtState → MgtState) (s : State) : (mMgt f s).pending = s.pending := rfl
@[simp] theorem mMgt_now (f : MgtState → MgtState) (s : State) : (mMgt f s).now = s.now := rfl
@[simp] theorem mMgt_free (f : MgtState → MgtState) (s : State) : (mMgt f s).free = s.free := rfl
@[simp] theorem mMgt_outbox (f : MgtState → MgtState) (s : State) : (mMgt f s).outbox = s.outbox := rfl
@[simp] theorem mMgt_regs (f : MgtState → MgtState) (s : State) : (mMgt f s).regs = s.regs := rfl
@[simp] theorem mMgt_act (f : MgtState → MgtState) (s : State) : (mMgt f s).act = s.act := rfl
@[simp] theorem mMgt_sys (f : MgtState → MgtState) (s : State) : (mMgt f s).sys = s.sys := rfl
@[simp] theorem mMgt_err (f : MgtState → MgtState) (s : State) : (mMgt f s).err = s.err := rfl
@[simp] theorem mMgt_cap (f : MgtState → MgtState) (s : State) : (mMgt f s).cap = s.cap := rfl
@[simp] theorem mMgt_dbg (f : MgtState → MgtState) (s : State) : (mMgt f s).dbg = s.dbg := rfl
@[simp] theorem mMgt_cfg (f : MgtState → MgtState) (s : State) : (mMgt f s).cfg = s.cfg := rfl
@[simp] theorem mMgt_keep (f : MgtState → MgtState) (s : State) : (mMgt f s).keep = s.keep := rfl
@[simp] theorem mMgt_net (f : MgtState → MgtState) (s : State) : (mMgt f s).net = s.net := rfl
@[simp] theorem mMgt_netId (f : MgtState → MgtState) (s : State) : (mMgt f s).netId = s.netId := rfl
@[simp] theorem mMgt_ptp (f : MgtState → MgtState) (s : State) : (mMgt f s).ptp = s.ptp := rfl
@[simp] theorem mMgt_mgt (f : MgtState → MgtState) (s : State) : (mMgt f s).mgt = f s.mgt := rfl
@[simp] theorem mMgt_tow (f : MgtState → MgtState) (s : State) : (mMgt f s).tow = s.tow := rfl
@[simp] theorem mMgt_plc (f : MgtState → MgtState) (s : State) : (mMgt f s).plc = s.plc := rfl
@[simp] theorem mMgt_cmp (f : MgtState → MgtState) (s : State) : (mMgt f s).cmp = s.cmp := rfl
@[simp] theorem mMgt_str (f : MgtState → MgtState) (s : State) : (mMgt f s).str = s.str := rfl
@[simp] theorem mMgt_pos (f : MgtState → MgtState) (s : State) : (mMgt f s).pos = s.pos := rfl
@[simp] theorem mMgt_mil (f : MgtState → MgtState) (s : State) : (mMgt f s).mil = s.mil := rfl
@[simp] theorem mMgt_fir (f : MgtState → MgtState) (s : State) : (mMgt f s).fir = s.fir := rfl
@[simp] theorem mMgt_stg (f : MgtState → MgtState) (s : State) : (mMgt f s).stg = s.stg := rfl
@[simp] theorem mMgt_nzl (f : MgtState → MgtState) (s : State) : (mMgt f s).nzl = s.nzl := rfl
@[simp] theorem mMgt_gat (f : MgtState → MgtState) (s : State) : (mMgt f s).gat = s.gat := rfl
@[simp] theorem mMgt_gul (f : MgtState → MgtState) (s : State) : (mMgt f s).gul = s.gul := rfl
@[simp] theorem mMgt_insp (f : MgtState → MgtState) (s : State) : (mMgt f s).insp = s.insp := rfl
@[simp] theorem mMgt_mem (f : MgtState → MgtState) (s : State) : (mMgt f s).mem = s.mem := rfl
@[simp] theorem mMgt_axs (f : MgtState → MgtState) (s : State) : (mMgt f s).axs = s.axs := rfl
@[simp] theorem mMgt_lmp (f : MgtState → MgtState) (s : State) : (mMgt f s).lmp = s.lmp := rfl
@[simp] theorem mMgt_par (f : MgtState → MgtState) (s : State) : (mMgt f s).par = s.par := rfl
@[simp] theorem mMgt_cal (f : MgtState → MgtState) (s : State) : (mMgt f s).cal = s.cal := rfl

@[simp] theorem mTow_pending (f : TowState → TowState) (s : State) : (mTow f s).pending = s.pending := rfl
@[simp] theorem mTow_now (f : TowState → TowState) (s : State) : (mTow f s).now = s.now := rfl
@[simp] theorem mTow_free (f : TowState → TowState) (s : State) : (mTow f s).free = s.free := rfl
@[simp] theorem mTow_outbox (f : TowState → TowState) (s : State) : (mTow f s).outbox = s.outbox := rfl
@[simp] theorem mTow_regs (f : TowState → TowState) (s : State) : (mTow f s).regs = s.regs := rfl
@[simp] theorem mTow_act (f : TowState → TowState) (s : State) : (mTow f s).act = s.act := rfl
@[simp] theorem mTow_sys (f : TowState → TowState) (s : State) : (mTow f s).sys = s.sys := rfl
@[simp] theorem mTow_err (f : TowState → TowState) (s : State) : (mTow f s).err = s.err := rfl
@[simp] theorem mTow_cap (f : TowState → TowState) (s : State) : (mTow f s).cap = s.cap := rfl
@[simp] theorem mTow_dbg (f : TowState → TowState) (s : State) : (mTow f s).dbg = s.dbg := rfl
@[simp] theorem mTow_cfg (f : TowState → TowState) (s : State) : (mTow f s).cfg = s.cfg := rfl
@[simp] theorem mTow_keep (f : TowState → TowState) (s : State) : (mTow f s).keep = s.keep := rfl
@[simp] theorem mTow_net (f : TowState → TowState) (s : State) : (mTow f s).net = s.net := rfl
@[simp] theorem mTow_netId (f : TowState → TowState) (s : State) : (mTow f s).netId = s.netId := rfl
@[simp] theorem mTow_ptp (f : TowState → TowState) (s : State) : (mTow f s).ptp = s.ptp := rfl
@[simp] theorem mTow_mgt (f : TowState → TowState) (s : State) : (mTow f s).mgt = s.mgt := rfl
@[simp] theorem mTow_tow (f : TowState → TowState) (s : State) : (mTow f s).tow = f s.tow := rfl
@[simp] theorem mTow_plc (f : TowState → TowState) (s : State) : (mTow f s).plc = s.plc := rfl
@[simp] theorem mTow_cmp (f : TowState → TowState) (s : State) : (mTow f s).cmp = s.cmp := rfl
@[simp] theorem mTow_str (f : TowState → TowState) (s : State) : (mTow f s).str = s.str := rfl
@[simp] theorem mTow_pos (f : TowState → TowState) (s : State) : (mTow f s).pos = s.pos := rfl
@[simp] theorem mTow_mil (f : TowState → TowState) (s : State) : (mTow f s).mil = s.mil := rfl
@[simp] theorem mTow_fir (f : TowState → TowState) (s : State) : (mTow f s).fir = s.fir := rfl
@[simp] theorem mTow_stg (f : TowState → TowState) (s : State) : (mTow f s).stg = s.stg := rfl
@[simp] theorem mTow_nzl (f : TowState → TowState) (s : State) : (mTow f s).nzl = s.nzl := rfl
@[simp] theorem mTow_gat (f : TowState → TowState) (s : State) : (mTow f s).gat = s.gat := rfl
@[simp] theorem mTow_gul (f : TowState → TowState) (s : State) : (mTow f s).gul = s.gul := rfl
@[simp] theorem mTow_insp (f : TowState → TowState) (s : State) : (mTow f s).insp = s.insp := rfl
@[simp] theorem mTow_mem (f : TowState → TowState) (s : State) : (mTow f s).mem = s.mem := rfl
@[simp] theorem mTow_axs (f : TowState → TowState) (s : State) : (mTow f s).axs = s.axs := rfl
@[simp] theorem mTow_lmp (f : TowState → TowState) (s : State) : (mTow f s).lmp = s.lmp := rfl
@[simp] theorem mTow_par (f : TowState → TowState) (s : State) : (mTow f s).par = s.par := rfl
@[simp] theorem mTow_cal (f : TowState → TowState) (s : State) : (mTow f s).cal = s.cal := rfl

@[simp] theorem mCmp_pending (f : CmpState → CmpState) (s : State) : (mCmp f s).pending = s.pending := rfl
@[simp] theorem mCmp_now (f : CmpState → CmpState) (s : State) : (mCmp f s).now = s.now := rfl
@[simp] theorem mCmp_free (f : CmpState → CmpState) (s : State) : (mCmp f s).free = s.free := rfl
@[simp] theorem mCmp_outbox (f : CmpState → CmpState) (s : State) : (mCmp f s).outbox = s.outbox := rfl
@[simp] theorem mCmp_regs (f : CmpState → CmpState) (s : State) : (mCmp f s).regs = s.regs := rfl
@[simp] theorem mCmp_act (f : CmpState → CmpState) (s : State) : (mCmp f s).act = s.act := rfl
@[simp] theorem mCmp_sys (f : CmpState → CmpState) (s : State) : (mCmp f s).sys = s.sys := rfl
@[simp] theorem mCmp_err (f : CmpState → CmpState) (s : State) : (mCmp f s).err = s.err := rfl
@[simp] theorem mCmp_cap (f : CmpState → CmpState) (s : State) : (mCmp f s).cap = s.cap := rfl
@[simp] theorem mCmp_dbg (f : CmpState → CmpState) (s : State) : (mCmp f s).dbg = s.dbg := rfl
@[simp] theorem mCmp_cfg (f : CmpState → CmpState) (s : State) : (mCmp f s).cfg = s.cfg := rfl
@[simp] theorem mCmp_keep (f : CmpState → CmpState) (s : State) : (mCmp f s).keep = s.keep := rfl
@[simp] theorem mCmp_net (f : CmpState → CmpState) (s : State) : (mCmp f s).net = s.net := rfl
@[simp] theorem mCmp_netId (f : CmpState → CmpState) (s : State) : (mCmp f s).netId = s.netId := rfl
@[simp] theorem mCmp_ptp (f : CmpState → CmpState) (s : State) : (mCmp f s).ptp = s.ptp := rfl
@[simp] theorem mCmp_mgt (f : CmpState → CmpState) (s : State) : (mCmp f s).mgt = s.mgt := rfl
@[simp] theorem mCmp_tow (f : CmpState → CmpState) (s : State) : (mCmp f s).tow = s.tow := rfl
@[simp] theorem mCmp_plc (f : CmpState → CmpState) (s : State) : (mCmp f s).plc = s.plc := rfl
@[simp] theorem mCmp_cmp (f : CmpState → CmpState) (s : State) : (mCmp f s).cmp = f s.cmp := rfl
@[simp] theorem mCmp_str (f : CmpState → CmpState) (s : State) : (mCmp f s).str = s.str := rfl
@[simp] theorem mCmp_pos (f : CmpState → CmpState) (s : State) : (mCmp f s).pos = s.pos := rfl
@[simp] theorem mCmp_mil (f : CmpState → CmpState) (s : State) : (mCmp f s).mil = s.mil := rfl
@[simp] theorem mCmp_fir (f : CmpState → CmpState) (s : State) : (mCmp f s).fir = s.fir := rfl
@[simp] theorem mCmp_stg (f : CmpState → CmpState) (s : State) : (mCmp f s).stg = s.stg := rfl
@[simp] theorem mCmp_nzl (f : CmpState → CmpState) (s : State) : (mCmp f s).nzl = s.nzl := rfl
@[simp] theorem mCmp_gat (f : CmpState → CmpState) (s : State) : (mCmp f s).gat = s.gat := rfl
@[simp] theorem mCmp_gul (f : CmpState → CmpState) (s : State) : (mCmp f s).gul = s.gul := rfl
@[simp] theorem mCmp_insp (f : CmpState → CmpState) (s : State) : (mCmp f s).insp = s.insp := rfl
@[simp] theorem mCmp_mem (f : CmpState → CmpState) (s : State) : (mCmp f s).mem = s.mem := rfl
@[simp] theorem mCmp_axs (f : CmpState → CmpState) (s : State) : (mCmp f s).axs = s.axs := rfl
@[simp] theorem mCmp_lmp (f : CmpState → CmpState) (s : State) : (mCmp f s).lmp = s.lmp := rfl
@[simp] theorem mCmp_par (f : CmpState → CmpState) (s : State) : (mCmp f s).par = s.par := rfl
@[simp] theorem mCmp_cal (f : CmpState → CmpState) (s : State) : (mCmp f s).cal = s.cal := rfl

@[simp] theorem mStr_pending (f : StrState → StrState) (s : State) : (mStr f s).pending = s.pending := rfl
@[simp] theorem mStr_now (f : StrState → StrState) (s : State) : (mStr f s).now = s.now := rfl
@[simp] theorem mStr_free (f : StrState → StrState) (s : State) : (mStr f s).free = s.free := rfl
@[simp] theorem mStr_outbox (f : StrState → StrState) (s : State) : (mStr f s).outbox = s.outbox := rfl
@[simp] theorem mStr_regs (f : StrState → StrState) (s : State) : (mStr f s).regs = s.regs := rfl
@[simp] theorem mStr_act (f : StrState → StrState) (s : State) : (mStr f s).act = s.act := rfl
@[simp] theorem mStr_sys (f : StrState → StrState) (s : State) : (mStr f s).sys = s.sys := rfl
@[simp] theorem mStr_err (f : StrState → StrState) (s : State) : (mStr f s).err = s.err := rfl
@[simp] theorem mStr_cap (f : StrState → StrState) (s : State) : (mStr f s).cap = s.cap := rfl
@[simp] theorem mStr_dbg (f : StrState → StrState) (s : State) : (mStr f s).dbg = s.dbg := rfl
@[simp] theorem mStr_cfg (f : StrState → StrState) (s : State) : (mStr f s).cfg = s.cfg := rfl
@[simp] theorem mStr_keep (f : StrState → StrState) (s : State) : (mStr f s).keep = s.keep := rfl
@[simp] theorem mStr_net (f : StrState → StrState) (s : State) : (mStr f s).net = s.net := rfl
@[simp] theorem mStr_netId (f : StrState → StrState) (s : State) : (mStr f s).netId = s.netId := rfl
@[simp] theorem mStr_ptp (f : StrState → StrState) (s : State) : (mStr f s).ptp = s.ptp := rfl
@[simp] theorem mStr_mgt (f : StrState → StrState) (s : State) : (mStr f s).mgt = s.mgt := rfl
@[simp] theorem mStr_tow (f : StrState → StrState) (s : State) : (mStr f s).tow = s.tow := rfl
@[simp] theorem mStr_plc (f : StrState → StrState) (s : State) : (mStr f s).plc = s.plc := rfl
@[simp] theorem mStr_cmp (f : StrState → StrState) (s : State) : (mStr f s).cmp = s.cmp := rfl
@[simp] theorem mStr_str (f : StrState → StrState) (s : State) : (mStr f s).str = f s.str := rfl
@[simp] theorem mStr_pos (f : StrState → StrState) (s : State) : (mStr f s).pos = s.pos := rfl
@[simp] theorem mStr_mil (f : StrState → StrState) (s : State) : (mStr f s).mil = s.mil := rfl
@[simp] theorem mStr_fir (f : StrState → StrState) (s : State) : (mStr f s).fir = s.fir := rfl
@[simp] theorem mStr_stg (f : StrState → StrState) (s : State) : (mStr f s).stg = s.stg := rfl
@[simp] theorem mStr_nzl (f : StrState → StrState) (s : State) : (mStr f s).nzl = s.nzl := rfl
@[simp] theorem mStr_gat (f : StrState → StrState) (s : State) : (mStr f s).gat = s.gat := rfl
@[simp] theorem mStr_gul (f : StrState → StrState) (s : State) : (mStr f s).gul = s.gul := rfl
@[simp] theorem mStr_insp (f : StrState → StrState) (s : State) : (mStr f s).insp = s.insp := rfl
@[simp] theorem mStr_mem (f : StrState → StrState) (s : State) : (mStr f s).mem = s.mem := rfl
@[simp] theorem mStr_axs (f : StrState → StrState) (s : State) : (mStr f s).axs = s.axs := rfl
@[simp] theorem mStr_lmp (f : StrState → StrState) (s : State) : (mStr f s).lmp = s.lmp := rfl
@[simp] theorem mStr_par (f : StrState → StrState) (s : State) : (mStr f s).par = s.par := rfl
@[simp] theorem mStr_cal (f : StrState → StrState) (s : State) : (mStr f s).cal = s.cal := rfl

@[simp] theorem mStrand_pending (n : Nat) (f : Strand → Strand) (s : State) : (mStrand n f s).pending = s.pending := rfl
@[simp] theorem mStrand_now (n : Nat) (f : Strand → Strand) (s : State) : (mStrand n f s).now = s.now := rfl
@[simp] theorem mStrand_free (n : Nat) (f : Strand → Strand) (s : State) : (mStrand n f s).free = s.free := rfl
@[simp] theorem mStrand_outbox (n : Nat) (f : Strand → Strand) (s : State) : (mStrand n f s).outbox = s.outbox := rfl
@[simp] theorem mStrand_regs (n : Nat) (f : Strand → Strand) (s : State) : (mStrand n f s).regs = s.regs := rfl
@[simp] theorem mStrand_act (n : Nat) (f : Strand → Strand) (s : State) : (mStrand n f s).act = s.act := rfl
@[simp] theorem mStrand_sys (n : Nat) (f : Strand → Strand) (s : State) : (mStrand n f s).sys = s.sys := rfl
@[simp] theorem mStrand_err (n : Nat) (f : Strand → Strand) (s : State) : (mStrand n f s).err = s.err := rfl
@[simp] theorem mStrand_cap (n : Nat) (f : Strand → Strand) (s : State) : (mStrand n f s).cap = s.cap := rfl
@[simp] theorem mStrand_dbg (n : Nat) (f : Strand → Strand) (s : State) : (mStrand n f s).dbg = s.dbg := rfl
@[simp] theorem mStrand_cfg (n : Nat) (f : Strand → Strand) (s : State) : (mStrand n f s).cfg = s.cfg := rfl
@[simp] theorem mStrand_keep (n : Nat) (f : Strand → Strand) (s : State) : (mStrand n f s).keep = s.keep := rfl
@[simp] theorem mStrand_net (n : Nat) (f : Strand → Strand) (s : State) : (mStrand n f s).net = s.net := rfl
@[simp] theorem mStrand_netId (n : Nat) (f : Strand → Strand) (s : State) : (mStrand n f s).netId = s.netId := rfl
@[simp] theorem mStrand_ptp (n : Nat) (f : Strand → Strand) (s : State) : (mStrand n f s).ptp = s.ptp := rfl
@[simp] theorem mStrand_mgt (n : Nat) (f : Strand → Strand) (s : State) : (mStrand n f s).mgt = s.mgt := rfl
@[simp] theorem mStrand_tow (n : Nat) (f : Strand → Strand) (s : State) : (mStrand n f s).tow = s.tow := rfl
@[simp] theorem mStrand_plc (n : Nat) (f : Strand → Strand) (s : State) : (mStrand n f s).plc = s.plc := rfl
@[simp] theorem mStrand_cmp (n : Nat) (f : Strand → Strand) (s : State) : (mStrand n f s).cmp = s.cmp := rfl
@[simp] theorem mStrand_str (n : Nat) (f : Strand → Strand) (s : State) : (mStrand n f s).str = { s.str with strands := vmod s.str.strands n f } := rfl
@[simp] theorem mStrand_pos (n : Nat) (f : Strand → Strand) (s : State) : (mStrand n f s).pos = s.pos := rfl
@[simp] theorem mStrand_mil (n : Nat) (f : Strand → Strand) (s : State) : (mStrand n f s).mil = s.mil := rfl
@[simp] theorem mStrand_fir (n : Nat) (f : Strand → Strand) (s : State) : (mStrand n f s).fir = s.fir := rfl
@[simp] theorem mStrand_stg (n : Nat) (f : Strand → Strand) (s : State) : (mStrand n f s).stg = s.stg := rfl
@[simp] theorem mStrand_nzl (n : Nat) (f : Strand → Strand) (s : State) : (mStrand n f s).nzl = s.nzl := rfl
@[simp] theorem mStrand_gat (n : Nat) (f : Strand → Strand) (s : State) : (mStrand n f s).gat = s.gat := rfl
@[simp] theorem mStrand_gul (n : Nat) (f : Strand → Strand) (s : State) : (mStrand n f s).gul = s.gul := rfl
@[simp] theorem mStrand_insp (n : Nat) (f : Strand → Strand) (s : State) : (mStrand n f s).insp = s.insp := rfl
@[simp] theorem mStrand_mem (n : Nat) (f : Strand → Strand) (s : State) : (mStrand n f s).mem = s.mem := rfl
@[simp] theorem mStrand_axs (n : Nat) (f : Strand → Strand) (s : State) : (mStrand n f s).axs = s.axs := rfl
@[simp] theorem mStrand_lmp (n : Nat) (f : Strand → Strand) (s : State) : (mStrand n f s).lmp = s.lmp := rfl
@[simp] theorem mStrand_par (n : Nat) (f : Strand → Strand) (s : State) : (mStrand n f s).par = s.par := rfl
@[simp] theorem mStrand_cal (n : Nat) (f : Strand → Strand) (s : State) : (mStrand n f s).cal = s.cal := rfl

@[simp] theorem mPos_pending (f : PosState → PosState) (s : State) : (mPos f s).pending = s.pending := rfl
@[simp] theorem mPos_now (f : PosState → PosState) (s : State) : (mPos f s).now = s.now := rfl
@[simp] theorem mPos_free (f : PosState → PosState) (s : State) : (mPos f s).free = s.free := rfl
@[simp] theorem mPos_outbox (f : PosState → PosState) (s : State) : (mPos f s).outbox = s.outbox := rfl
@[simp] theorem mPos_regs (f : PosState → PosState) (s : State) : (mPos f s).regs = s.regs := rfl
@[simp] theorem mPos_act (f : PosState → PosState) (s : State) : (mPos f s).act = s.act := rfl
@[simp] theorem mPos_sys (f : PosState → PosState) (s : State) : (mPos f s).sys = s.sys := rfl
@[simp] theorem mPos_err (f : PosState → PosState) (s : State) : (mPos f s).err = s.err := rfl
@[simp] theorem mPos_cap (f : PosState → PosState) (s : State) : (mPos f s).cap = s.cap := rfl
@[simp] theorem mPos_dbg (f : PosState → PosState) (s : State) : (mPos f s).dbg = s.dbg := rfl
@[simp] theorem mPos_cfg (f : PosState → PosState) (s : State) : (mPos f s).cfg = s.cfg := rfl
@[simp] theorem mPos_keep (f : PosState → PosState) (s : State) : (mPos f s).keep = s.keep := rfl
@[simp] theorem mPos_net (f : PosState → PosState) (s : State) : (mPos f s).net = s.net := rfl
@[simp] theorem mPos_netId (f : PosState → PosState) (s : State) : (mPos f s).netId = s.netId := rfl
@[simp] theorem mPos_ptp (f : PosState → PosState) (s : State) : (mPos f s).ptp = s.ptp := rfl
@[simp] theorem mPos_mgt (f : PosState → PosState) (s : State) : (mPos f s).mgt = s.mgt := rfl
@[simp] theorem mPos_tow (f : PosState → PosState) (s : State) : (mPos f s).tow = s.tow := rfl
@[simp] theorem mPos_plc (f : PosState → PosState) (s : State) : (mPos f s).plc = s.plc := rfl
@[simp] theorem mPos_cmp (f : PosState → PosState) (s : State) : (mPos f s).cmp = s.cmp := rfl
@[simp] theorem mPos_str (f : PosState → PosState) (s : State) : (mPos f s).str = s.str := rfl
@[simp] theorem mPos_pos (f : PosState → PosState) (s : State) : (mPos f s).pos = f s.pos := rfl
@[simp] theorem mPos_mil (f : PosState → PosState) (s : State) : (mPos f s).mil = s.mil := rfl
@[simp] theorem mPos_fir (f : PosState → PosState) (s : State) : (mPos f s).fir = s.fir := rfl
@[simp] theorem mPos_stg (f : PosState → PosState) (s : State) : (mPos f s).stg = s.stg := rfl
@[simp] theorem mPos_nzl (f : PosState → PosState) (s : State) : (mPos f s).nzl = s.nzl := rfl
@[simp] theorem mPos_gat (f : PosState → PosState) (s : State) : (mPos f s).gat = s.gat := rfl
@[simp] theorem mPos_gul (f : PosState → PosState) (s : State) : (mPos f s).gul = s.gul := rfl
@[simp] theorem mPos_insp (f : PosState → PosState) (s : State) : (mPos f s).insp = s.insp := rfl
@[simp] theorem mPos_mem (f : PosState → PosState) (s : State) : (mPos f s).mem = s.mem := rfl
@[simp] theorem mPos_axs (f : PosState → PosState) (s : State) : (mPos f s).axs = s.axs := rfl
@[simp] theorem mPos_lmp (f : PosState → PosState) (s : State) : (mPos f s).lmp = s.lmp := rfl
@[simp] theorem mPos_par (f : PosState → PosState) (s : State) : (mPos f s).par = s.par := rfl
@[simp] theorem mPos_cal (f : PosState → PosState) (s : State) : (mPos f s).cal = s.cal := rfl

@[simp] theorem mEnc_pending (c : Nat) (f : EncChan → EncChan) (s : State) : (mEnc c f s).pending = s.pending := rfl
@[simp] theorem mEnc_now (c : Nat) (f : EncChan → EncChan) (s : State) : (mEnc c f s).now = s.now := rfl
@[simp] theorem mEnc_free (c : Nat) (f : EncChan → EncChan) (s : State) : (mEnc c f s).free = s.free := rfl
@[simp] theorem mEnc_outbox (c : Nat) (f : EncChan → EncChan) (s : State) : (mEnc c f s).outbox = s.outbox := rfl
@[simp] theorem mEnc_regs (c : Nat) (f : EncChan → EncChan) (s : State) : (mEnc c f s).regs = s.regs := rfl
@[simp] theorem mEnc_act (c : Nat) (f : EncChan → EncChan) (s : State) : (mEnc c f s).act = s.act := rfl
@[simp] theorem mEnc_sys (c : Nat) (f : EncChan → EncChan) (s : State) : (mEnc c f s).sys = s.sys := rfl
@[simp] theorem mEnc_err (c : Nat) (f : EncChan → EncChan) (s : State) : (mEnc c f s).err = s.err := rfl
@[simp] theorem mEnc_cap (c : Nat) (f : EncChan → EncChan) (s : State) : (mEnc c f s).cap = s.cap := rfl
@[simp] theorem mEnc_dbg (c : Nat) (f : EncChan → EncChan) (s : State) : (mEnc c f s).dbg = s.dbg := rfl
@[simp] theorem mEnc_cfg (c : Nat) (f : EncChan → EncChan) (s : State) : (mEnc c f s).cfg = s.cfg := rfl
@[simp] theorem mEnc_keep (c : Nat) (f : EncChan → EncChan) (s : State) : (mEnc c f s).keep = s.keep := rfl
@[simp] theorem mEnc_net (c : Nat) (f : EncChan → EncChan) (s : State) : (mEnc c f s).net = s.net := rfl
@[simp] theorem mEnc_netId (c : Nat) (f : EncChan → EncChan) (s : State) : (mEnc c f s).netId = s.netId := rfl
@[simp] theorem mEnc_ptp (c : Nat) (f : EncChan → EncChan) (s : State) : (mEnc c f s).ptp = s.ptp := rfl
@[simp] theorem mEnc_mgt (c : Nat) (f : EncChan → EncChan) (s : State) : (mEnc c f s).mgt = s.mgt := rfl
@[simp] theorem mEnc_tow (c : Nat) (f : EncChan → EncChan) (s : State) : (mEnc c f s).tow = s.tow := rfl
@[simp] theorem mEnc_plc (c : Nat) (f : EncChan → EncChan) (s : State) : (mEnc c f s).plc = s.plc := rfl
@[simp] theorem mEnc_cmp (c : Nat) (f : EncChan → EncChan) (s : State) : (mEnc c f s).cmp = s.cmp := rfl
@[simp] theorem mEnc_str (c : Nat) (f : EncChan → EncChan) (s : State) : (mEnc c f s).str = s.str := rfl
@[simp] theorem mEnc_pos (c : Nat) (f : EncChan → EncChan) (s : State) : (mEnc c f s).pos = { s.pos with ch := vmod s.pos.ch c f } := rfl
@[simp] theorem mEnc_mil (c : Nat) (f : EncChan → EncChan) (s : State) : (mEnc c f s).mil = s.mil := rfl
@[simp] theorem mEnc_fir (c : Nat) (f : EncChan → EncChan) (s : State) : (mEnc c f s).fir = s.fir := rfl
@[simp] theorem mEnc_stg (c : Nat) (f : EncChan → EncChan) (s : State) : (mEnc c f s).stg = s.stg := rfl
@[simp] theorem mEnc_nzl (c : Nat) (f : EncChan → EncChan) (s : State) : (mEnc c f s).nzl = s.nzl := rfl
@[simp] theorem mEnc_gat (c : Nat) (f : EncChan → EncChan) (s : State) : (mEnc c f s).gat = s.gat := rfl
@[simp] theorem mEnc_gul (c : Nat) (f : EncChan → EncChan) (s : State) : (mEnc c f s).gul = s.gul := rfl
@[simp] theorem mEnc_insp (c : Nat) (f : EncChan → EncChan) (s : State) : (mEnc c f s).insp = s.insp := rfl
@[simp] theorem mEnc_mem (c : Nat) (f : EncChan → EncChan) (s : State) : (mEnc c f s).mem = s.mem := rfl
@[simp] theorem mEnc_axs (c : Nat) (f : EncChan → EncChan) (s : State) : (mEnc c f s).axs = s.axs := rfl
@[simp] theorem mEnc_lmp (c : Nat) (f : EncChan → EncChan) (s : State) : (mEnc c f s).lmp = s.lmp := rfl
@[simp] theorem mEnc_par (c : Nat) (f : EncChan → EncChan) (s : State) : (mEnc c f s).par = s.par := rfl
@[simp] theorem mEnc_cal (c : Nat) (f : EncChan → EncChan) (s : State) : (mEnc c f s).cal = s.cal := rfl

@[simp] theorem mMil_pending (f : MilState → MilState) (s : State) : (mMil f s).pending = s.pending := rfl
@[simp] theorem mMil_now (f : MilState → MilState) (s : State) : (mMil f s).now = s.now := rfl
@[simp] theorem mMil_free (f : MilState → MilState) (s : State) : (mMil f s).free = s.free := rfl
@[simp] theorem mMil_outbox (f : MilState → MilState) (s : State) : (mMil f s).outbox = s.outbox := rfl
@[simp] theorem mMil_regs (f : MilState → MilState) (s : State) : (mMil f s).regs = s.regs := rfl
@[simp] theorem mMil_act (f : MilState → MilState) (s : State) : (mMil f s).act = s.act := rfl
@[simp] theorem mMil_sys (f : MilState → MilState) (s : State) : (mMil f s).sys = s.sys := rfl
@[simp] theorem mMil_err (f : MilState → MilState) (s : State) : (mMil f s).err = s.err := rfl
@[simp] theorem mMil_cap (f : MilState → MilState) (s : State) : (mMil f s).cap = s.cap := rfl
@[simp] theorem mMil_dbg (f : MilState → MilState) (s : State) : (mMil f s).dbg = s.dbg := rfl
@[simp] theorem mMil_cfg (f : MilState → MilState) (s : State) : (mMil f s).cfg = s.cfg := rfl
@[simp] theorem mMil_keep (f : MilState → MilState) (s : State) : (mMil f s).keep = s.keep := rfl
@[simp] theorem mMil_net (f : MilState → MilState) (s : State) : (mMil f s).net = s.net := rfl
@[simp] theorem mMil_netId (f : MilState → MilState) (s : State) : (mMil f s).netId = s.netId := rfl
@[simp] theorem mMil_ptp (f : MilState → MilState) (s : State) : (mMil f s).ptp = s.ptp := rfl
@[simp] theorem mMil_mgt (f : MilState → MilState) (s : State) : (mMil f s).mgt = s.mgt := rfl
@[simp] theorem mMil_tow (f : MilState → MilState) (s : State) : (mMil f s).tow = s.tow := rfl
@[simp] theorem mMil_plc (f : MilState → MilState) (s : State) : (mMil f s).plc = s.plc := rfl
@[simp] theorem mMil_cmp (f : MilState → MilState) (s : State) : (mMil f s).cmp = s.cmp := rfl
@[simp] theorem mMil_str (f : MilState → MilState) (s : State) : (mMil f s).str = s.str := rfl
@[simp] theorem mMil_pos (f : MilState → MilState) (s : State) : (mMil f s).pos = s.pos := rfl
@[simp] theorem mMil_mil (f : MilState → MilState) (s : State) : (mMil f s).mil = f s.mil := rfl
@[simp] theorem mMil_fir (f : MilState → MilState) (s : State) : (mMil f s).fir = s.fir := rfl
@[simp] theorem mMil_stg (f : MilState → MilState) (s : State) : (mMil f s).stg = s.stg := rfl
@[simp] theorem mMil_nzl (f : MilState → MilState) (s : State) : (mMil f s).nzl = s.nzl := rfl
@[simp] theorem mMil_gat (f : MilState → MilState) (s : State) : (mMil f s).gat = s.gat := rfl
@[simp] theorem mMil_gul (f : MilState → MilState) (s : State) : (mMil f s).gul = s.gul := rfl
@[simp] theorem mMil_insp (f : MilState → MilState) (s : State) : (mMil f s).insp = s.insp := rfl
@[simp] theorem mMil_mem (f : MilState → MilState) (s : State) : (mMil f s).mem = s.mem := rfl
@[simp] theorem mMil_axs (f : MilState → MilState) (s : State) : (mMil f s).axs = s.axs := rfl
@[simp] theorem mMil_lmp (f : MilState → MilState) (s : State) : (mMil f s).lmp = s.lmp := rfl
@[simp] theorem mMil_par (f : MilState → MilState) (s : State) : (mMil f s).par = s.par := rfl
@[simp] theorem mMil_cal (f : MilState → MilState) (s : State) : (mMil f s).cal = s.cal := rfl

@[simp] theorem mMs_pending (i : Nat) (f : Milestone → Milestone) (s : State) : (mMs i f s).pending = s.pending := rfl
@[simp] theorem mMs_now (i : Nat) (f : Milestone → Milestone) (s : State) : (mMs i f s).now = s.now := rfl
@[simp] theorem mMs_free (i : Nat) (f : Milestone → Milestone) (s : State) : (mMs i f s).free = s.free := rfl
@[simp] theorem mMs_outbox (i : Nat) (f : Milestone → Milestone) (s : State) : (mMs i f s).outbox = s.outbox := rfl
@[simp] theorem mMs_regs (i : Nat) (f : Milestone → Milestone) (s : State) : (mMs i f s).regs = s.regs := rfl
@[simp] theorem mMs_act (i : Nat) (f : Milestone → Milestone) (s : State) : (mMs i f s).act = s.act := rfl
@[simp] theorem mMs_sys (i : Nat) (f : Milestone → Milestone) (s : State) : (mMs i f s).sys = s.sys := rfl
@[simp] theorem mMs_err (i : Nat) (f : Milestone → Milestone) (s : State) : (mMs i f s).err = s.err := rfl
@[simp] theorem mMs_cap (i : Nat) (f : Milestone → Milestone) (s : State) : (mMs i f s).cap = s.cap := rfl
@[simp] theorem mMs_dbg (i : Nat) (f : Milestone → Milestone) (s : State) : (mMs i f s).dbg = s.dbg := rfl
@[simp] theorem mMs_cfg (i : Nat) (f : Milestone → Milestone) (s : State) : (mMs i f s).cfg = s.cfg := rfl
@[simp] theorem mMs_keep (i : Nat) (f : Milestone → Milestone) (s : State) : (mMs i f s).keep = s.keep := rfl
@[simp] theorem mMs_net (i : Nat) (f : Milestone → Milestone) (s : State) : (mMs i f s).net = s.net := rfl
@[simp] theorem mMs_netId (i : Nat) (f : Milestone → Milestone) (s : State) : (mMs i f s).netId = s.netId := rfl
@[simp] theorem mMs_ptp (i : Nat) (f : Milestone → Milestone) (s : State) : (mMs i f s).ptp = s.ptp := rfl
@[simp] theorem mMs_mgt (i : Nat) (f : Milestone → Milestone) (s : State) : (mMs i f s).mgt = s.mgt := rfl
@[simp] theorem mMs_tow (i : Nat) (f : Milestone → Milestone) (s : State) : (mMs i f s).tow = s.tow := rfl
@[simp] theorem mMs_plc (i : Nat) (f : Milestone → Milestone) (s : State) : (mMs i f s).plc = s.plc := rfl
@[simp] theorem mMs_cmp (i : Nat) (f : Milestone → Milestone) (s : State) : (mMs i f s).cmp = s.cmp := rfl
@[simp] theorem mMs_str (i : Nat) (f : Milestone → Milestone) (s : State) : (mMs i f s).str = s.str := rfl
@[simp] theorem mMs_pos (i : Nat) (f : Milestone → Milestone) (s : State) : (mMs i f s).pos = s.pos := rfl
@[simp] theorem mMs_mil (i : Nat) (f : Milestone → Milestone) (s : State) : (mMs i f s).mil = { s.mil with ms := vmod s.mil.ms i f } := rfl
@[simp] theorem mMs_fir (i : Nat) (f : Milestone → Milestone) (s : State) : (mMs i f s).fir = s.fir := rfl
@[simp] theorem mMs_stg (i : Nat) (f : Milestone → Milestone) (s : State) : (mMs i f s).stg = s.stg := rfl
@[simp] theorem mMs_nzl (i : Nat) (f : Milestone → Milestone) (s : State) : (mMs i f s).nzl = s.nzl := rfl
@[simp] theorem mMs_gat (i : Nat) (f : Milestone → Milestone) (s : State) : (mMs i f s).gat = s.gat := rfl
@[simp] theorem mMs_gul (i : Nat) (f : Milestone → Milestone) (s : State) : (mMs i f s).gul = s.gul := rfl
@[simp] theorem mMs_insp (i : Nat) (f : Milestone → Milestone) (s : State) : (mMs i f s).insp = s.insp := rfl
@[simp] theorem mMs_mem (i : Nat) (f : Milestone → Milestone) (s : State) : (mMs i f s).mem = s.mem := rfl
@[simp] theorem mMs_axs (i : Nat) (f : Milestone → Milestone) (s : State) : (mMs i f s).axs = s.axs := rfl
@[simp] theorem mMs_lmp (i : Nat) (f : Milestone → Milestone) (s : State) : (mMs i f s).lmp = s.lmp := rfl
@[simp] theorem mMs_par (i : Nat) (f : Milestone → Milestone) (s : State) : (mMs i f s).par = s.par := rfl
@[simp] theorem mMs_cal (i : Nat) (f : Milestone → Milestone) (s : State) : (mMs i f s).cal = s.cal := rfl

@[simp] theorem mFir_pending (f : FirState → FirState) (s : State) : (mFir f s).pending = s.pending := rfl
@[simp] theorem mFir_now (f : FirState → FirState) (s : State) : (mFir f s).now = s.now := rfl
@[simp] theorem mFir_free (f : FirState → FirState) (s : State) : (mFir f s).free = s.free := rfl
@[simp] theorem mFir_outbox (f : FirState → FirState) (s : State) : (mFir f s).outbox = s.outbox := rfl
@[simp] theorem mFir_regs (f : FirState → FirState) (s : State) : (mFir f s).regs = s.regs := rfl
@[simp] theorem mFir_act (f : FirState → FirState) (s : State) : (mFir f s).act = s.act := rfl
@[simp] theorem mFir_sys (f : FirState → FirState) (s : State) : (mFir f s).sys = s.sys := rfl
@[simp] theorem mFir_err (f : FirState → FirState) (s : State) : (mFir f s).err = s.err := rfl
@[simp] theorem mFir_cap (f : FirState → FirState) (s : State) : (mFir f s).cap = s.cap := rfl
@[simp] theorem mFir_dbg (f : FirState → FirState) (s : State) : (mFir f s).dbg = s.dbg := rfl
@[simp] theorem mFir_cfg (f : FirState → FirState) (s : State) : (mFir f s).cfg = s.cfg := rfl
@[simp] theorem mFir_keep (f : FirState → FirState) (s : State) : (mFir f s).keep = s.keep := rfl
@[simp] theorem mFir_net (f : FirState → FirState) (s : State) : (mFir f s).net = s.net := rfl
@[simp] theorem mFir_netId (f : FirState → FirState) (s : State) : (mFir f s).netId = s.netId := rfl
@[simp] theorem mFir_ptp (f : FirState → FirState) (s : State) : (mFir f s).ptp = s.ptp := rfl
@[simp] theorem mFir_mgt (f : FirState → FirState) (s : State) : (mFir f s).mgt = s.mgt := rfl
@[simp] theorem mFir_tow (f : FirState → FirState) (s : State) : (mFir f s).tow = s.tow := rfl
@[simp] theorem mFir_plc (f : FirState → FirState) (s : State) : (mFir f s).plc = s.plc := rfl
@[simp] theorem mFir_cmp (f : FirState → FirState) (s : State) : (mFir f s).cmp = s.cmp := rfl
@[simp] theorem mFir_str (f : FirState → FirState) (s : State) : (mFir f s).str = s.str := rfl
@[simp] theorem mFir_pos (f : FirState → FirState) (s : State) : (mFir f s).pos = s.pos := rfl
@[simp] theorem mFir_mil (f : FirState → FirState) (s : State) : (mFir f s).mil = s.mil := rfl
@[simp] theorem mFir_fir (f : FirState → FirState) (s : State) : (mFir f s).fir = f s.fir := rfl
@[simp] theorem mFir_stg (f : FirState → FirState) (s : State) : (mFir f s).stg = s.stg := rfl
@[simp] theorem mFir_nzl (f : FirState → FirState) (s : State) : (mFir f s).nzl = s.nzl := rfl
@[simp] theorem mFir_gat (f : FirState → FirState) (s : State) : (mFir f s).gat = s.gat := rfl
@[simp] theorem mFir_gul (f : FirState → FirState) (s : State) : (mFir f s).gul = s.gul := rfl
@[simp] theorem mFir_insp (f : FirState → FirState) (s : State) : (mFir f s).insp = s.insp := rfl
@[simp] theorem mFir_mem (f : FirState → FirState) (s : State) : (mFir f s).mem = s.mem := rfl
@[simp] theorem mFir_axs (f : FirState → FirState) (s : State) : (mFir f s).axs = s.axs := rfl
@[simp] theorem mFir_lmp (f : FirState → FirState) (s : State) : (mFir f s).lmp = s.lmp := rfl
@[simp] theorem mFir_par (f : FirState → FirState) (s : State) : (mFir f s).par = s.par := rfl
@[simp] theorem mFir_cal (f : FirState → FirState) (s : State) : (mFir f s).cal = s.cal := rfl

@[simp] theorem mPort_pending (p : Nat) (f : FirPort → FirPort) (s : State) : (mPort p f s).pending = s.pending := rfl
@[simp] theorem mPort_now (p : Nat) (f : FirPort → FirPort) (s : State) : (mPort p f s).now = s.now := rfl
@[simp] theorem mPort_free (p : Nat) (f : FirPort → FirPort) (s : State) : (mPort p f s).free = s.free := rfl
@[simp] theorem mPort_outbox (p : Nat) (f : FirPort → FirPort) (s : State) : (mPort p f s).outbox = s.outbox := rfl
@[simp] theorem mPort_regs (p : Nat) (f : FirPort → FirPort) (s : State) : (mPort p f s).regs = s.regs := rfl
@[simp] theorem mPort_act (p : Nat) (f : FirPort → FirPort) (s : State) : (mPort p f s).act = s.act := rfl
@[simp] theorem mPort_sys (p : Nat) (f : FirPort → FirPort) (s : State) : (mPort p f s).sys = s.sys := rfl
@[simp] theorem mPort_err (p : Nat) (f : FirPort → FirPort) (s : State) : (mPort p f s).err = s.err := rfl
@[simp] theorem mPort_cap (p : Nat) (f : FirPort → FirPort) (s : State) : (mPort p f s).cap = s.cap := rfl
@[simp] theorem mPort_dbg (p : Nat) (f : FirPort → FirPort) (s : State) : (mPort p f s).dbg = s.dbg := rfl
@[simp] theorem mPort_cfg (p : Nat) (f : FirPort → FirPort) (s : State) : (mPort p f s).cfg = s.cfg := rfl
@[simp] theorem mPort_keep (p : Nat) (f : FirPort → FirPort) (s : State) : (mPort p f s).keep = s.keep := rfl
@[simp] theorem mPort_net (p : Nat) (f : FirPort → FirPort) (s : State) : (mPort p f s).net = s.net := rfl
@[simp] theorem mPort_netId (p : Nat) (f : FirPort → FirPort) (s : State) : (mPort p f s).netId = s.netId := rfl
@[simp] theorem mPort_ptp (p : Nat) (f : FirPort → FirPort) (s : State) : (mPort p f s).ptp = s.ptp := rfl
@[simp] theorem mPort_mgt (p : Nat) (f : FirPort → FirPort) (s : State) : (mPort p f s).mgt = s.mgt := rfl
@[simp] theorem mPort_tow (p : Nat) (f : FirPort → FirPort) (s : State) : (mPort p f s).tow = s.tow := rfl
@[simp] theorem mPort_plc (p : Nat) (f : FirPort → FirPort) (s : State) : (mPort p f s).plc = s.plc := rfl
@[simp] theorem mPort_cmp (p : Nat) (f : FirPort → FirPort) (s : State) : (mPort p f s).cmp = s.cmp := rfl
@[simp] theorem mPort_str (p : Nat) (f : FirPort → FirPort) (s : State) : (mPort p f s).str = s.str := rfl
@[simp] theorem mPort_pos (p : Nat) (f : FirPort → FirPort) (s : State) : (mPort p f s).pos = s.pos := rfl
@[simp] theorem mPort_mil (p : Nat) (f : FirPort → FirPort) (s : State) : (mPort p f s).mil = s.mil := rfl
@[simp] theorem mPort_fir (p : Nat) (f : FirPort → FirPort) (s : State) : (mPort p f s).fir = { s.fir with ports := vmod s.fir.ports p f } := rfl
@[simp] theorem mPort_stg (p : Nat) (f : FirPort → FirPort) (s : State) : (mPort p f s).stg = s.stg := rfl
@[simp] theorem mPort_nzl (p : Nat) (f : FirPort → FirPort) (s : State) : (mPort p f s).nzl = s.nzl := rfl
@[simp] theorem mPort_gat (p : Nat) (f : FirPort → FirPort) (s : State) : (mPort p f s).gat = s.gat := rfl
@[simp] theorem mPort_gul (p : Nat) (f : FirPort → FirPort) (s : State) : (mPort p f s).gul = s.gul := rfl
@[simp] theorem mPort_insp (p : Nat) (f : FirPort → FirPort) (s : State) : (mPort p f s).insp = s.insp := rfl
@[simp] theorem mPort_mem (p : Nat) (f : FirPort → FirPort) (s : State) : (mPort p f s).mem = s.mem := rfl
@[simp] theorem mPort_axs (p : Nat) (f : FirPort → FirPort) (s : State) : (mPort p f s).axs = s.axs := rfl
@[simp] theorem mPort_lmp (p : Nat) (f : FirPort → FirPort) (s : State) : (mPort p f s).lmp = s.lmp := rfl
@[simp] theorem mPort_par (p : Nat) (f : FirPort → FirPort) (s : State) : (mPort p f s).par = s.par := rfl
@[simp] theorem mPort_cal (p : Nat) (f : FirPort → FirPort) (s : State) : (mPort p f s).cal = s.cal := rfl

@[simp] theorem mStg_pending (f : StgState → StgState) (s : State) : (mStg f s).pending = s.pending := rfl
@[simp] theorem mStg_now (f : StgState → StgState) (s : State) : (mStg f s).now = s.now := rfl
@[simp] theorem mStg_free (f : StgState → StgState) (s : State) : (mStg f s).free = s.free := rfl
@[simp] theorem mStg_outbox (f : StgState → StgState) (s : State) : (mStg f s).outbox = s.outbox := rfl
@[simp] theorem mStg_regs (f : StgState → StgState) (s : State) : (mStg f s).regs = s.regs := rfl
@[simp] theorem mStg_act (f : StgState → StgState) (s : State) : (mStg f s).act = s.act := rfl
@[simp] theorem mStg_sys (f : StgState → StgState) (s : State) : (mStg f s).sys = s.sys := rfl
@[simp] theorem mStg_err (f : StgState → StgState) (s : State) : (mStg f s).err = s.err := rfl
@[simp] theorem mStg_cap (f : StgState → StgState) (s : State) : (mStg f s).cap = s.cap := rfl
@[simp] theorem mStg_dbg (f : StgState → StgState) (s : State) : (mStg f s).dbg = s.dbg := rfl
@[simp] theorem mStg_cfg (f : StgState → StgState) (s : State) : (mStg f s).cfg = s.cfg := rfl
@[simp] theorem mStg_keep (f : StgState → StgState) (s : State) : (mStg f s).keep = s.keep := rfl
@[simp] theorem mStg_net (f : StgState → StgState) (s : State) : (mStg f s).net = s.net := rfl
@[simp] theorem mStg_netId (f : StgState → StgState) (s : State) : (mStg f s).netId = s.netId := rfl
@[simp] theorem mStg_ptp (f : StgState → StgState) (s : State) : (mStg f s).ptp = s.ptp := rfl
@[simp] theorem mStg_mgt (f : StgState → StgState) (s : State) : (mStg f s).mgt = s.mgt := rfl
@[simp] theorem mStg_tow (f : StgState → StgState) (s : State) : (mStg f s).tow = s.tow := rfl
@[simp] theorem mStg_plc (f : StgState → StgState) (s : State) : (mStg f s).plc = s.plc := rfl
@[simp] theorem mStg_cmp (f : StgState → StgState) (s : State) : (mStg f s).cmp = s.cmp := rfl
@[simp] theorem mStg_str (f : StgState → StgState) (s : State) : (mStg f s).str = s.str := rfl
@[simp] theorem mStg_pos (f : StgState → StgState) (s : State) : (mStg f s).pos = s.pos := rfl
@[simp] theorem mStg_mil (f : StgState → StgState) (s : State) : (mStg f s).mil = s.mil := rfl
@[simp] theorem mStg_fir (f : StgState → StgState) (s : State) : (mStg f s).fir = s.fir := rfl
@[simp] theorem mStg_stg (f : StgState → StgState) (s : State) : (mStg f s).stg = f s.stg := rfl
@[simp] theorem mStg_nzl (f : StgState → StgState) (s : State) : (mStg f s).nzl = s.nzl := rfl
@[simp] theorem mStg_gat (f : StgState → StgState) (s : State) : (mStg f s).gat = s.gat := rfl
@[simp] theorem mStg_gul (f : StgState → StgState) (s : State) : (mStg f s).gul = s.gul := rfl
@[simp] theorem mStg_insp (f : StgState → StgState) (s : State) : (mStg f s).insp = s.insp := rfl
@[simp] theorem mStg_mem (f : StgState → StgState) (s : State) : (mStg f s).mem = s.mem := rfl
@[simp] theorem mStg_axs (f : StgState → StgState) (s : State) : (mStg f s).axs = s.axs := rfl
@[simp] theorem mStg_lmp (f : StgState → StgState) (s : State) : (mStg f s).lmp = s.lmp := rfl
@[simp] theorem mStg_par (f : StgState → StgState) (s : State) : (mStg f s).par = s.par := rfl
@[simp] theorem mStg_cal (f : StgState → StgState) (s : State) : (mStg f s).cal = s.cal := rfl

@[simp] theorem mNzl_pending (f : NzlState → NzlState) (s : State) : (mNzl f s).pending = s.pending := rfl
@[simp] theorem mNzl_now (f : NzlState → NzlState) (s : State) : (mNzl f s).now = s.now := rfl
@[simp] theorem mNzl_free (f : NzlState → NzlState) (s : State) : (mNzl f s).free = s.free := rfl
@[simp] theorem mNzl_outbox (f : NzlState → NzlState) (s : State) : (mNzl f s).outbox = s.outbox := rfl
@[simp] theorem mNzl_regs (f : NzlState → NzlState) (s : State) : (mNzl f s).regs = s.regs := rfl
@[simp] theorem mNzl_act (f : NzlState → NzlState) (s : State) : (mNzl f s).act = s.act := rfl
@[simp] theorem mNzl_sys (f : NzlState → NzlState) (s : State) : (mNzl f s).sys = s.sys := rfl
@[simp] theorem mNzl_err (f : NzlState → NzlState) (s : State) : (mNzl f s).err = s.err := rfl
@[simp] theorem mNzl_cap (f : NzlState → NzlState) (s : State) : (mNzl f s).cap = s.cap := rfl
@[simp] theorem mNzl_dbg (f : NzlState → NzlState) (s : State) : (mNzl f s).dbg = s.dbg := rfl
@[simp] theorem mNzl_cfg (f : NzlState → NzlState) (s : State) : (mNzl f s).cfg = s.cfg := rfl
@[simp] theorem mNzl_keep (f : NzlState → NzlState) (s : State) : (mNzl f s).keep = s.keep := rfl
@[simp] theorem mNzl_net (f : NzlState → NzlState) (s : State) : (mNzl f s).net = s.net := rfl
@[simp] theorem mNzl_netId (f : NzlState → NzlState) (s : State) : (mNzl f s).netId = s.netId := rfl
@[simp] theorem mNzl_ptp (f : NzlState → NzlState) (s : State) : (mNzl f s).ptp = s.ptp := rfl
@[simp] theorem mNzl_mgt (f : NzlState → NzlState) (s : State) : (mNzl f s).mgt = s.mgt := rfl
@[simp] theorem mNzl_tow (f : NzlState → NzlState) (s : State) : (mNzl f s).tow = s.tow := rfl
@[simp] theorem mNzl_plc (f : NzlState → NzlState) (s : State) : (mNzl f s).plc = s.plc := rfl
@[simp] theorem mNzl_cmp (f : NzlState → NzlState) (s : State) : (mNzl f s).cmp = s.cmp := rfl
@[simp] theorem mNzl_str (f : NzlState → NzlState) (s : State) : (mNzl f s).str = s.str := rfl
@[simp] theorem mNzl_pos (f : NzlState → NzlState) (s : State) : (mNzl f s).pos = s.pos := rfl
@[simp] theorem mNzl_mil (f : NzlState → NzlState) (s : State) : (mNzl f s).mil = s.mil := rfl
@[simp] theorem mNzl_fir (f : NzlState → NzlState) (s : State) : (mNzl f s).fir = s.fir := rfl
@[simp] theorem mNzl_stg (f : NzlState → NzlState) (s : State) : (mNzl f s).stg = s.stg := rfl
@[simp] theorem mNzl_nzl (f : NzlState → NzlState) (s : State) : (mNzl f s).nzl = f s.nzl := rfl
@[simp] theorem mNzl_gat (f : NzlState → NzlState) (s : State) : (mNzl f s).gat = s.gat := rfl
@[simp] theorem mNzl_gul (f : NzlState → NzlState) (s : State) : (mNzl f s).gul = s.gul := rfl
@[simp] theorem mNzl_insp (f : NzlState → NzlState) (s : State) : (mNzl f s).insp = s.insp := rfl
@[simp] theorem mNzl_mem (f : NzlState → NzlState) (s : State) : (mNzl f s).mem = s.mem := rfl
@[simp] theorem mNzl_axs (f : NzlState → NzlState) (s : State) : (mNzl f s).axs = s.axs := rfl
@[simp] theorem mNzl_lmp (f : NzlState → NzlState) (s : State) : (mNzl f s).lmp = s.lmp := rfl
@[simp] theorem mNzl_par (f : NzlState → NzlState) (s : State) : (mNzl f s).par = s.par := rfl
@[simp] theorem mNzl_cal (f : NzlState → NzlState) (s : State) : (mNzl f s).cal = s.cal := rfl

@[simp] theorem mGat_pending (g : Nat) (f : GateState → GateState) (s : State) : (mGat g f s).pending = s.pending := rfl
@[simp] theorem mGat_now (g : Nat) (f : GateState → GateState) (s : State) : (mGat g f s).now = s.now := rfl
@[simp] theorem mGat_free (g : Nat) (f : GateState → GateState) (s : State) : (mGat g f s).free = s.free := rfl
@[simp] theorem mGat_outbox (g : Nat) (f : GateState → GateState) (s : State) : (mGat g f s).outbox = s.outbox := rfl
@[simp] theorem mGat_regs (g : Nat) (f : GateState → GateState) (s : State) : (mGat g f s).regs = s.regs := rfl
@[simp] theorem mGat_act (g : Nat) (f : GateState → GateState) (s : State) : (mGat g f s).act = s.act := rfl
@[simp] theorem mGat_sys (g : Nat) (f : GateState → GateState) (s : State) : (mGat g f s).sys = s.sys := rfl
@[simp] theorem mGat_err (g : Nat) (f : GateState → GateState) (s : State) : (mGat g f s).err = s.err := rfl
@[simp] theorem mGat_cap (g : Nat) (f : GateState → GateState) (s : State) : (mGat g f s).cap = s.cap := rfl
@[simp] theorem mGat_dbg (g : Nat) (f : GateState → GateState) (s : State) : (mGat g f s).dbg = s.dbg := rfl
@[simp] theorem mGat_cfg (g : Nat) (f : GateState → GateState) (s : State) : (mGat g f s).cfg = s.cfg := rfl
@[simp] theorem mGat_keep (g : Nat) (f : GateState → GateState) (s : State) : (mGat g f s).keep = s.keep := rfl
@[simp] theorem mGat_net (g : Nat) (f : GateState → GateState) (s : State) : (mGat g f s).net = s.net := rfl
@[simp] theorem mGat_netId (g : Nat) (f : GateState → GateState) (s : State) : (mGat g f s).netId = s.netId := rfl
@[simp] theorem mGat_ptp (g : Nat) (f : GateState → GateState) (s : State) : (mGat g f s).ptp = s.ptp := rfl
@[simp] theorem mGat_mgt (g : Nat) (f : GateState → GateState) (s : State) : (mGat g f s).mgt = s.mgt := rfl
@[simp] theorem mGat_tow (g : Nat) (f : GateState → GateState) (s : State) : (mGat g f s).tow = s.tow := rfl
@[simp] theorem mGat_plc (g : Nat) (f : GateState → GateState) (s : State) : (mGat g f s).plc = s.plc := rfl
@[simp] theorem mGat_cmp (g : Nat) (f : GateState → GateState) (s : State) : (mGat g f s).cmp = s.cmp := rfl
@[simp] theorem mGat_str (g : Nat) (f : GateState → GateState) (s : State) : (mGat g f s).str = s.str := rfl
@[simp] theorem mGat_pos (g : Nat) (f : GateState → GateState) (s : State) : (mGat g f s).pos = s.pos := rfl
@[simp] theorem mGat_mil (g : Nat) (f : GateState → GateState) (s : State) : (mGat g f s).mil = s.mil := rfl
@[simp] theorem mGat_fir (g : Nat) (f : GateState → GateState) (s : State) : (mGat g f s).fir = s.fir := rfl
@[simp] theorem mGat_stg (g : Nat) (f : GateState → GateState) (s : State) : (mGat g f s).stg = s.stg := rfl
@[simp] theorem mGat_nzl (g : Nat) (f : GateState → GateState) (s : State) : (mGat g f s).nzl = s.nzl := rfl
@[simp] theorem mGat_gat (g : Nat) (f : GateState → GateState) (s : State) : (mGat g f s).gat = vmod s.gat g f := rfl
@[simp] theorem mGat_gul (g : Nat) (f : GateState → GateState) (s : State) : (mGat g f s).gul = s.gul := rfl
@[simp] theorem mGat_insp (g : Nat) (f : GateState → GateState) (s : State) : (mGat g f s).insp = s.insp := rfl
@[simp] theorem mGat_mem (g : Nat) (f : GateState → GateState) (s : State) : (mGat g f s).mem = s.mem := rfl
@[simp] theorem mGat_axs (g : Nat) (f : GateState → GateState) (s : State) : (mGat g f s).axs = s.axs := rfl
@[simp] theorem mGat_lmp (g : Nat) (f : GateState → GateState) (s : State) : (mGat g f s).lmp = s.lmp := rfl
@[simp] theorem mGat_par (g : Nat) (f : GateState → GateState) (s : State) : (mGat g f s).par = s.par := rfl
@[simp] theorem mGat_cal (g : Nat) (f : GateState → GateState) (s : State) : (mGat g f s).cal = s.cal := rfl

@[simp] theorem mGul_pending (f : GulState → GulState) (s : State) : (mGul f s).pending = s.pending := rfl
@[simp] theorem mGul_now (f : GulState → GulState) (s : State) : (mGul f s).now = s.now := rfl
@[simp] theorem mGul_free (f : GulState → GulState) (s : State) : (mGul f s).free = s.free := rfl
@[simp] theorem mGul_outbox (f : GulState → GulState) (s : State) : (mGul f s).outbox = s.outbox := rfl
@[simp] theorem mGul_regs (f : GulState → GulState) (s : State) : (mGul f s).regs = s.regs := rfl
@[simp] theorem mGul_act (f : GulState → GulState) (s : State) : (mGul f s).act = s.act := rfl
@[simp] theorem mGul_sys (f : GulState → GulState) (s : State) : (mGul f s).sys = s.sys := rfl
@[simp] theorem mGul_err (f : GulState → GulState) (s : State) : (mGul f s).err = s.err := rfl
@[simp] theorem mGul_cap (f : GulState → GulState) (s : State) : (mGul f s).cap = s.cap := rfl
@[simp] theorem mGul_dbg (f : GulState → GulState) (s : State) : (mGul f s).dbg = s.dbg := rfl
@[simp] theorem mGul_cfg (f : GulState → GulState) (s : State) : (mGul f s).cfg = s.cfg := rfl
@[simp] theorem mGul_keep (f : GulState → GulState) (s : State) : (mGul f s).keep = s.keep := rfl
@[simp] theorem mGul_net (f : GulState → GulState) (s : State) : (mGul f s).net = s.net := rfl
@[simp] theorem mGul_netId (f : GulState → GulState) (s : State) : (mGul f s).netId = s.netId := rfl
@[simp] theorem mGul_ptp (f : GulState → GulState) (s : State) : (mGul f s).ptp = s.ptp := rfl
@[simp] theorem mGul_mgt (f : GulState → GulState) (s : State) : (mGul f s).mgt = s.mgt := rfl
@[simp] theorem mGul_tow (f : GulState → GulState) (s : State) : (mGul f s).tow = s.tow := rfl
@[simp] theorem mGul_plc (f : GulState → GulState) (s : State) : (mGul f s).plc = s.plc := rfl
@[simp] theorem mGul_cmp (f : GulState → GulState) (s : State) : (mGul f s).cmp = s.cmp := rfl
@[simp] theorem mGul_str (f : GulState → GulState) (s : State) : (mGul f s).str = s.str := rfl
@[simp] theorem mGul_pos (f : GulState → GulState) (s : State) : (mGul f s).pos = s.pos := rfl
@[simp] theorem mGul_mil (f : GulState → GulState) (s : State) : (mGul f s).mil = s.mil := rfl
@[simp] theorem mGul_fir (f : GulState → GulState) (s : State) : (mGul f s).fir = s.fir := rfl
@[simp] theorem mGul_stg (f : GulState → GulState) (s : State) : (mGul f s).stg = s.stg := rfl
@[simp] theorem mGul_nzl (f : GulState → GulState) (s : State) : (mGul f s).nzl = s.nzl := rfl
@[simp] theorem mGul_gat (f : GulState → GulState) (s : State) : (mGul f s).gat = s.gat := rfl
@[simp] theorem mGul_gul (f : GulState → GulState) (s : State) : (mGul f s).gul = f s.gul := rfl
@[simp] theorem mGul_insp (f : GulState → GulState) (s : State) : (mGul f s).insp = s.insp := rfl
@[simp] theorem mGul_mem (f : GulState → GulState) (s : State) : (mGul f s).mem = s.mem := rfl
@[simp] theorem mGul_axs (f : GulState → GulState) (s : State) : (mGul f s).axs = s.axs := rfl
@[simp] theorem mGul_lmp (f : GulState → GulState) (s : State) : (mGul f s).lmp = s.lmp := rfl
@[simp] theorem mGul_par (f : GulState → GulState) (s : State) : (mGul f s).par = s.par := rfl
@[simp] theorem mGul_cal (f : GulState → GulState) (s : State) : (mGul f s).cal = s.cal := rfl

@[simp] theorem mHead_pending (p : Nat) (f : GulPort → GulPort) (s : State) : (mHead p f s).pending = s.pending := rfl
@[simp] theorem mHead_now (p : Nat) (f : GulPort → GulPort) (s : State) : (mHead p f s).now = s.now := rfl
@[simp] theorem mHead_free (p : Nat) (f : GulPort → GulPort) (s : State) : (mHead p f s).free = s.free := rfl
@[simp] theorem mHead_outbox (p : Nat) (f : GulPort → GulPort) (s : State) : (mHead p f s).outbox = s.outbox := rfl
@[simp] theorem mHead_regs (p : Nat) (f : GulPort → GulPort) (s : State) : (mHead p f s).regs = s.regs := rfl
@[simp] theorem mHead_act (p : Nat) (f : GulPort → GulPort) (s : State) : (mHead p f s).act = s.act := rfl
@[simp] theorem mHead_sys (p : Nat) (f : GulPort → GulPort) (s : State) : (mHead p f s).sys = s.sys := rfl
@[simp] theorem mHead_err (p : Nat) (f : GulPort → GulPort) (s : State) : (mHead p f s).err = s.err := rfl
@[simp] theorem mHead_cap (p : Nat) (f : GulPort → GulPort) (s : State) : (mHead p f s).cap = s.cap := rfl
@[simp] theorem mHead_dbg (p : Nat) (f : GulPort → GulPort) (s : State) : (mHead p f s).dbg = s.dbg := rfl
@[simp] theorem mHead_cfg (p : Nat) (f : GulPort → GulPort) (s : State) : (mHead p f s).cfg = s.cfg := rfl
@[simp] theorem mHead_keep (p : Nat) (f : GulPort → GulPort) (s : State) : (mHead p f s).keep = s.keep := rfl
@[simp] theorem mHead_net (p : Nat) (f : GulPort → GulPort) (s : State) : (mHead p f s).net = s.net := rfl
@[simp] theorem mHead_netId (p : Nat) (f : GulPort → GulPort) (s : State) : (mHead p f s).netId = s.netId := rfl
@[simp] theorem mHead_ptp (p : Nat) (f : GulPort → GulPort) (s : State) : (mHead p f s).ptp = s.ptp := rfl
@[simp] theorem mHead_mgt (p : Nat) (f : GulPort → GulPort) (s : State) : (mHead p f s).mgt = s.mgt := rfl
@[simp] theorem mHead_tow (p : Nat) (f : GulPort → GulPort) (s : State) : (mHead p f s).tow = s.tow := rfl
@[simp] theorem mHead_plc (p : Nat) (f : GulPort → GulPort) (s : State) : (mHead p f s).plc = s.plc := rfl
@[simp] theorem mHead_cmp (p : Nat) (f : GulPort → GulPort) (s : State) : (mHead p f s).cmp = s.cmp := rfl
@[simp] theorem mHead_str (p : Nat) (f : GulPort → GulPort) (s : State) : (mHead p f s).str = s.str := rfl
@[simp] theorem mHead_pos (p : Nat) (f : GulPort → GulPort) (s : State) : (mHead p f s).pos = s.pos := rfl
@[simp] theorem mHead_mil (p : Nat) (f : GulPort → GulPort) (s : State) : (mHead p f s).mil = s.mil := rfl
@[simp] theorem mHead_fir (p : Nat) (f : GulPort → GulPort) (s : State) : (mHead p f s).fir = s.fir := rfl
@[simp] theorem mHead_stg (p : Nat) (f : GulPort → GulPort) (s : State) : (mHead p f s).stg = s.stg := rfl
@[simp] theorem mHead_nzl (p : Nat) (f : GulPort → GulPort) (s : State) : (mHead p f s).nzl = s.nzl := rfl
@[simp] theorem mHead_gat (p : Nat) (f : GulPort → GulPort) (s : State) : (mHead p f s).gat = s.gat := rfl
@[simp] theorem mHead_gul (p : Nat) (f : GulPort → GulPort) (s : State) : (mHead p f s).gul = { s.gul with ports := vmod s.gul.ports p f } := rfl
@[simp] theorem mHead_insp (p : Nat) (f : GulPort → GulPort) (s : State) : (mHead p f s).insp = s.insp := rfl
@[simp] theorem mHead_mem (p : Nat) (f : GulPort → GulPort) (s : State) : (mHead p f s).mem = s.mem := rfl
@[simp] theorem mHead_axs (p : Nat) (f : GulPort → GulPort) (s : State) : (mHead p f s).axs = s.axs := rfl
@[simp] theorem mHead_lmp (p : Nat) (f : GulPort → GulPort) (s : State) : (mHead p f s).lmp = s.lmp := rfl
@[simp] theorem mHead_par (p : Nat) (f : GulPort → GulPort) (s : State) : (mHead p f s).par = s.par := rfl
@[simp] theorem mHead_cal (p : Nat) (f : GulPort → GulPort) (s : State) : (mHead p f s).cal = s.cal := rfl

@[simp] theorem mCtx_pending (c : Nat) (f : CamCtx → CamCtx) (s : State) : (mCtx c f s).pending = s.pending := rfl
@[simp] theorem mCtx_now (c : Nat) (f : CamCtx → CamCtx) (s : State) : (mCtx c f s).now = s.now := rfl
@[simp] theorem mCtx_free (c : Nat) (f : CamCtx → CamCtx) (s : State) : (mCtx c f s).free = s.free := rfl
@[simp] theorem mCtx_outbox (c : Nat) (f : CamCtx → CamCtx) (s : State) : (mCtx c f s).outbox = s.outbox := rfl
@[simp] theorem mCtx_regs (c : Nat) (f : CamCtx → CamCtx) (s : State) : (mCtx c f s).regs = s.regs := rfl
@[simp] theorem mCtx_act (c : Nat) (f : CamCtx → CamCtx) (s : State) : (mCtx c f s).act = s.act := rfl
@[simp] theorem mCtx_sys (c : Nat) (f : CamCtx → CamCtx) (s : State) : (mCtx c f s).sys = s.sys := rfl
@[simp] theorem mCtx_err (c : Nat) (f : CamCtx → CamCtx) (s : State) : (mCtx c f s).err = s.err := rfl
@[simp] theorem mCtx_cap (c : Nat) (f : CamCtx → CamCtx) (s : State) : (mCtx c f s).cap = s.cap := rfl
@[simp] theorem mCtx_dbg (c : Nat) (f : CamCtx → CamCtx) (s : State) : (mCtx c f s).dbg = s.dbg := rfl
@[simp] theorem mCtx_cfg (c : Nat) (f : CamCtx → CamCtx) (s : State) : (mCtx c f s).cfg = s.cfg := rfl
@[simp] theorem mCtx_keep (c : Nat) (f : CamCtx → CamCtx) (s : State) : (mCtx c f s).keep = s.keep := rfl
@[simp] theorem mCtx_net (c : Nat) (f : CamCtx → CamCtx) (s : State) : (mCtx c f s).net = s.net := rfl
@[simp] theorem mCtx_netId (c : Nat) (f : CamCtx → CamCtx) (s : State) : (mCtx c f s).netId = s.netId := rfl
@[simp] theorem mCtx_ptp (c : Nat) (f : CamCtx → CamCtx) (s : State) : (mCtx c f s).ptp = s.ptp := rfl
@[simp] theorem mCtx_mgt (c : Nat) (f : CamCtx → CamCtx) (s : State) : (mCtx c f s).mgt = s.mgt := rfl
@[simp] theorem mCtx_tow (c : Nat) (f : CamCtx → CamCtx) (s : State) : (mCtx c f s).tow = s.tow := rfl
@[simp] theorem mCtx_plc (c : Nat) (f : CamCtx → CamCtx) (s : State) : (mCtx c f s).plc = s.plc := rfl
@[simp] theorem mCtx_cmp (c : Nat) (f : CamCtx → CamCtx) (s : State) : (mCtx c f s).cmp = s.cmp := rfl
@[simp] theorem mCtx_str (c : Nat) (f : CamCtx → CamCtx) (s : State) : (mCtx c f s).str = s.str := rfl
@[simp] theorem mCtx_pos (c : Nat) (f : CamCtx → CamCtx) (s : State) : (mCtx c f s).pos = s.pos := rfl
@[simp] theorem mCtx_mil (c : Nat) (f : CamCtx → CamCtx) (s : State) : (mCtx c f s).mil = s.mil := rfl
@[simp] theorem mCtx_fir (c : Nat) (f : CamCtx → CamCtx) (s : State) : (mCtx c f s).fir = s.fir := rfl
@[simp] theorem mCtx_stg (c : Nat) (f : CamCtx → CamCtx) (s : State) : (mCtx c f s).stg = s.stg := rfl
@[simp] theorem mCtx_nzl (c : Nat) (f : CamCtx → CamCtx) (s : State) : (mCtx c f s).nzl = s.nzl := rfl
@[simp] theorem mCtx_gat (c : Nat) (f : CamCtx → CamCtx) (s : State) : (mCtx c f s).gat = s.gat := rfl
@[simp] theorem mCtx_gul (c : Nat) (f : CamCtx → CamCtx) (s : State) : (mCtx c f s).gul = s.gul := rfl
@[simp] theorem mCtx_insp (c : Nat) (f : CamCtx → CamCtx) (s : State) : (mCtx c f s).insp = { s.insp with ctxs := vmod s.insp.ctxs c f } := rfl
@[simp] theorem mCtx_mem (c : Nat) (f : CamCtx → CamCtx) (s : State) : (mCtx c f s).mem = s.mem := rfl
@[simp] theorem mCtx_axs (c : Nat) (f : CamCtx → CamCtx) (s : State) : (mCtx c f s).axs = s.axs := rfl
@[simp] theorem mCtx_lmp (c : Nat) (f : CamCtx → CamCtx) (s : State) : (mCtx c f s).lmp = s.lmp := rfl
@[simp] theorem mCtx_par (c : Nat) (f : CamCtx → CamCtx) (s : State) : (mCtx c f s).par = s.par := rfl
@[simp] theorem mCtx_cal (c : Nat) (f : CamCtx → CamCtx) (s : State) : (mCtx c f s).cal = s.cal := rfl

@[simp] theorem mCam_pending (p : Nat) (f : CamPort → CamPort) (s : State) : (mCam p f s).pending = s.pending := rfl
@[simp] theorem mCam_now (p : Nat) (f : CamPort → CamPort) (s : State) : (mCam p f s).now = s.now := rfl
@[simp] theorem mCam_free (p : Nat) (f : CamPort → CamPort) (s : State) : (mCam p f s).free = s.free := rfl
@[simp] theorem mCam_outbox (p : Nat) (f : CamPort → CamPort) (s : State) : (mCam p f s).outbox = s.outbox := rfl
@[simp] theorem mCam_regs (p : Nat) (f : CamPort → CamPort) (s : State) : (mCam p f s).regs = s.regs := rfl
@[simp] theorem mCam_act (p : Nat) (f : CamPort → CamPort) (s : State) : (mCam p f s).act = s.act := rfl
@[simp] theorem mCam_sys (p : Nat) (f : CamPort → CamPort) (s : State) : (mCam p f s).sys = s.sys := rfl
@[simp] theorem mCam_err (p : Nat) (f : CamPort → CamPort) (s : State) : (mCam p f s).err = s.err := rfl
@[simp] theorem mCam_cap (p : Nat) (f : CamPort → CamPort) (s : State) : (mCam p f s).cap = s.cap := rfl
@[simp] theorem mCam_dbg (p : Nat) (f : CamPort → CamPort) (s : State) : (mCam p f s).dbg = s.dbg := rfl
@[simp] theorem mCam_cfg (p : Nat) (f : CamPort → CamPort) (s : State) : (mCam p f s).cfg = s.cfg := rfl
@[simp] theorem mCam_keep (p : Nat) (f : CamPort → CamPort) (s : State) : (mCam p f s).keep = s.keep := rfl
@[simp] theorem mCam_net (p : Nat) (f : CamPort → CamPort) (s : State) : (mCam p f s).net = s.net := rfl
@[simp] theorem mCam_netId (p : Nat) (f : CamPort → CamPort) (s : State) : (mCam p f s).netId = s.netId := rfl
@[simp] theorem mCam_ptp (p : Nat) (f : CamPort → CamPort) (s : State) : (mCam p f s).ptp = s.ptp := rfl
@[simp] theorem mCam_mgt (p : Nat) (f : CamPort → CamPort) (s : State) : (mCam p f s).mgt = s.mgt := rfl
@[simp] theorem mCam_tow (p : Nat) (f : CamPort → CamPort) (s : State) : (mCam p f s).tow = s.tow := rfl
@[simp] theorem mCam_plc (p : Nat) (f : CamPort → CamPort) (s : State) : (mCam p f s).plc = s.plc := rfl
@[simp] theorem mCam_cmp (p : Nat) (f : CamPort → CamPort) (s : State) : (mCam p f s).cmp = s.cmp := rfl
@[simp] theorem mCam_str (p : Nat) (f : CamPort → CamPort) (s : State) : (mCam p f s).str = s.str := rfl
@[simp] theorem mCam_pos (p : Nat) (f : CamPort → CamPort) (s : State) : (mCam p f s).pos = s.pos := rfl
@[simp] theorem mCam_mil (p : Nat) (f : CamPort → CamPort) (s : State) : (mCam p f s).mil = s.mil := rfl
@[simp] theorem mCam_fir (p : Nat) (f : CamPort → CamPort) (s : State) : (mCam p f s).fir = s.fir := rfl
@[simp] theorem mCam_stg (p : Nat) (f : CamPort → CamPort) (s : State) : (mCam p f s).stg = s.stg := rfl
@[simp] theorem mCam_nzl (p : Nat) (f : CamPort → CamPort) (s : State) : (mCam p f s).nzl = s.nzl := rfl
@[simp] theorem mCam_gat (p : Nat) (f : CamPort → CamPort) (s : State) : (mCam p f s).gat = s.gat := rfl
@[simp] theorem mCam_gul (p : Nat) (f : CamPort → CamPort) (s : State) : (mCam p f s).gul = s.gul := rfl
@[simp] theorem mCam_insp (p : Nat) (f : CamPort → CamPort) (s : State) : (mCam p f s).insp = { s.insp with ports := vmod s.insp.ports p f } := rfl
@[simp] theorem mCam_mem (p : Nat) (f : CamPort → CamPort) (s : State) : (mCam p f s).mem = s.mem := rfl
@[simp] theorem mCam_axs (p : Nat) (f : CamPort → CamPort) (s : State) : (mCam p f s).axs = s.axs := rfl
@[simp] theorem mCam_lmp (p : Nat) (f : CamPort → CamPort) (s : State) : (mCam p f s).lmp = s.lmp := rfl
@[simp] theorem mCam_par (p : Nat) (f : CamPort → CamPort) (s : State) : (mCam p f s).par = s.par := rfl
@[simp] theorem mCam_cal (p : Nat) (f : CamPort → CamPort) (s : State) : (mCam p f s).cal = s.cal := rfl

@[simp] theorem mMem_pending (f : MemState → MemState) (s : State) : (mMem f s).pending = s.pending := rfl
@[simp] theorem mMem_now (f : MemState → MemState) (s : State) : (mMem f s).now = s.now := rfl
@[simp] theorem mMem_free (f : MemState → MemState) (s : State) : (mMem f s).free = s.free := rfl
@[simp] theorem mMem_outbox (f : MemState → MemState) (s : State) : (mMem f s).outbox = s.outbox := rfl
@[simp] theorem mMem_regs (f : MemState → MemState) (s : State) : (mMem f s).regs = s.regs := rfl
@[simp] theorem mMem_act (f : MemState → MemState) (s : State) : (mMem f s).act = s.act := rfl
@[simp] theorem mMem_sys (f : MemState → MemState) (s : State) : (mMem f s).sys = s.sys := rfl
@[simp] theorem mMem_err (f : MemState → MemState) (s : State) : (mMem f s).err = s.err := rfl
@[simp] theorem mMem_cap (f : MemState → MemState) (s : State) : (mMem f s).cap = s.cap := rfl
@[simp] theorem mMem_dbg (f : MemState → MemState) (s : State) : (mMem f s).dbg = s.dbg := rfl
@[simp] theorem mMem_cfg (f : MemState → MemState) (s : State) : (mMem f s).cfg = s.cfg := rfl
@[simp] theorem mMem_keep (f : MemState → MemState) (s : State) : (mMem f s).keep = s.keep := rfl
@[simp] theorem mMem_net (f : MemState → MemState) (s : State) : (mMem f s).net = s.net := rfl
@[simp] theorem mMem_netId (f : MemState → MemState) (s : State) : (mMem f s).netId = s.netId := rfl
@[simp] theorem mMem_ptp (f : MemState → MemState) (s : State) : (mMem f s).ptp = s.ptp := rfl
@[simp] theorem mMem_mgt (f : MemState → MemState) (s : State) : (mMem f s).mgt = s.mgt := rfl
@[simp] theorem mMem_tow (f : MemState → MemState) (s : State) : (mMem f s).tow = s.tow := rfl
@[simp] theorem mMem_plc (f : MemState → MemState) (s : State) : (mMem f s).plc = s.plc := rfl
@[simp] theorem mMem_cmp (f : MemState → MemState) (s : State) : (mMem f s).cmp = s.cmp := rfl
@[simp] theorem mMem_str (f : MemState → MemState) (s : State) : (mMem f s).str = s.str := rfl
@[simp] theorem mMem_pos (f : MemState → MemState) (s : State) : (mMem f s).pos = s.pos := rfl
@[simp] theorem mMem_mil (f : MemState → MemState) (s : State) : (mMem f s).mil = s.mil := rfl
@[simp] theorem mMem_fir (f : MemState → MemState) (s : State) : (mMem f s).fir = s.fir := rfl
@[simp] theorem mMem_stg (f : MemState → MemState) (s : State) : (mMem f s).stg = s.stg := rfl
@[simp] theorem mMem_nzl (f : MemState → MemState) (s : State) : (mMem f s).nzl = s.nzl := rfl
@[simp] theorem mMem_gat (f : MemState → MemState) (s : State) : (mMem f s).gat = s.gat := rfl
@[simp] theorem mMem_gul (f : MemState → MemState) (s : State) : (mMem f s).gul = s.gul := rfl
@[simp] theorem mMem_insp (f : MemState → MemState) (s : State) : (mMem f s).insp = s.insp := rfl
@[simp] theorem mMem_mem (f : MemState → MemState) (s : State) : (mMem f s).mem = f s.mem := rfl
@[simp] theorem mMem_axs (f : MemState → MemState) (s : State) : (mMem f s).axs = s.axs := rfl
@[simp] theorem mMem_lmp (f : MemState → MemState) (s : State) : (mMem f s).lmp = s.lmp := rfl
@[simp] theorem mMem_par (f : MemState → MemState) (s : State) : (mMem f s).par = s.par := rfl
@[simp] theorem mMem_cal (f : MemState → MemState) (s : State) : (mMem f s).cal = s.cal := rfl

@[simp] theorem mChan_pending (c : Nat) (f : MemChan → MemChan) (s : State) : (mChan c f s).pending = s.pending := rfl
@[simp] theorem mChan_now (c : Nat) (f : MemChan → MemChan) (s : State) : (mChan c f s).now = s.now := rfl
@[simp] theorem mChan_free (c : Nat) (f : MemChan → MemChan) (s : State) : (mChan c f s).free = s.free := rfl
@[simp] theorem mChan_outbox (c : Nat) (f : MemChan → MemChan) (s : State) : (mChan c f s).outbox = s.outbox := rfl
@[simp] theorem mChan_regs (c : Nat) (f : MemChan → MemChan) (s : State) : (mChan c f s).regs = s.regs := rfl
@[simp] theorem mChan_act (c : Nat) (f : MemChan → MemChan) (s : State) : (mChan c f s).act = s.act := rfl
@[simp] theorem mChan_sys (c : Nat) (f : MemChan → MemChan) (s : State) : (mChan c f s).sys = s.sys := rfl
@[simp] theorem mChan_err (c : Nat) (f : MemChan → MemChan) (s : State) : (mChan c f s).err = s.err := rfl
@[simp] theorem mChan_cap (c : Nat) (f : MemChan → MemChan) (s : State) : (mChan c f s).cap = s.cap := rfl
@[simp] theorem mChan_dbg (c : Nat) (f : MemChan → MemChan) (s : State) : (mChan c f s).dbg = s.dbg := rfl
@[simp] theorem mChan_cfg (c : Nat) (f : MemChan → MemChan) (s : State) : (mChan c f s).cfg = s.cfg := rfl
@[simp] theorem mChan_keep (c : Nat) (f : MemChan → MemChan) (s : State) : (mChan c f s).keep = s.keep := rfl
@[simp] theorem mChan_net (c : Nat) (f : MemChan → MemChan) (s : State) : (mChan c f s).net = s.net := rfl
@[simp] theorem mChan_netId (c : Nat) (f : MemChan → MemChan) (s : State) : (mChan c f s).netId = s.netId := rfl
@[simp] theorem mChan_ptp (c : Nat) (f : MemChan → MemChan) (s : State) : (mChan c f s).ptp = s.ptp := rfl
@[simp] theorem mChan_mgt (c : Nat) (f : MemChan → MemChan) (s : State) : (mChan c f s).mgt = s.mgt := rfl
@[simp] theorem mChan_tow (c : Nat) (f : MemChan → MemChan) (s : State) : (mChan c f s).tow = s.tow := rfl
@[simp] theorem mChan_plc (c : Nat) (f : MemChan → MemChan) (s : State) : (mChan c f s).plc = s.plc := rfl
@[simp] theorem mChan_cmp (c : Nat) (f : MemChan → MemChan) (s : State) : (mChan c f s).cmp = s.cmp := rfl
@[simp] theorem mChan_str (c : Nat) (f : MemChan → MemChan) (s : State) : (mChan c f s).str = s.str := rfl
@[simp] theorem mChan_pos (c : Nat) (f : MemChan → MemChan) (s : State) : (mChan c f s).pos = s.pos := rfl
@[simp] theorem mChan_mil (c : Nat) (f : MemChan → MemChan) (s : State) : (mChan c f s).mil = s.mil := rfl
@[simp] theorem mChan_fir (c : Nat) (f : MemChan → MemChan) (s : State) : (mChan c f s).fir = s.fir := rfl
@[simp] theorem mChan_stg (c : Nat) (f : MemChan → MemChan) (s : State) : (mChan c f s).stg = s.stg := rfl
@[simp] theorem mChan_nzl (c : Nat) (f : MemChan → MemChan) (s : State) : (mChan c f s).nzl = s.nzl := rfl
@[simp] theorem mChan_gat (c : Nat) (f : MemChan → MemChan) (s : State) : (mChan c f s).gat = s.gat := rfl
@[simp] theorem mChan_gul (c : Nat) (f : MemChan → MemChan) (s : State) : (mChan c f s).gul = s.gul := rfl
@[simp] theorem mChan_insp (c : Nat) (f : MemChan → MemChan) (s : State) : (mChan c f s).insp = s.insp := rfl
@[simp] theorem mChan_mem (c : Nat) (f : MemChan → MemChan) (s : State) : (mChan c f s).mem = { s.mem with chans := vmod s.mem.chans c f } := rfl
@[simp] theorem mChan_axs (c : Nat) (f : MemChan → MemChan) (s : State) : (mChan c f s).axs = s.axs := rfl
@[simp] theorem mChan_lmp (c : Nat) (f : MemChan → MemChan) (s : State) : (mChan c f s).lmp = s.lmp := rfl
@[simp] theorem mChan_par (c : Nat) (f : MemChan → MemChan) (s : State) : (mChan c f s).par = s.par := rfl
@[simp] theorem mChan_cal (c : Nat) (f : MemChan → MemChan) (s : State) : (mChan c f s).cal = s.cal := rfl

@[simp] theorem mBank_pending (b : Nat) (f : BankSt → BankSt) (s : State) : (mBank b f s).pending = s.pending := rfl
@[simp] theorem mBank_now (b : Nat) (f : BankSt → BankSt) (s : State) : (mBank b f s).now = s.now := rfl
@[simp] theorem mBank_free (b : Nat) (f : BankSt → BankSt) (s : State) : (mBank b f s).free = s.free := rfl
@[simp] theorem mBank_outbox (b : Nat) (f : BankSt → BankSt) (s : State) : (mBank b f s).outbox = s.outbox := rfl
@[simp] theorem mBank_regs (b : Nat) (f : BankSt → BankSt) (s : State) : (mBank b f s).regs = s.regs := rfl
@[simp] theorem mBank_act (b : Nat) (f : BankSt → BankSt) (s : State) : (mBank b f s).act = s.act := rfl
@[simp] theorem mBank_sys (b : Nat) (f : BankSt → BankSt) (s : State) : (mBank b f s).sys = s.sys := rfl
@[simp] theorem mBank_err (b : Nat) (f : BankSt → BankSt) (s : State) : (mBank b f s).err = s.err := rfl
@[simp] theorem mBank_cap (b : Nat) (f : BankSt → BankSt) (s : State) : (mBank b f s).cap = s.cap := rfl
@[simp] theorem mBank_dbg (b : Nat) (f : BankSt → BankSt) (s : State) : (mBank b f s).dbg = s.dbg := rfl
@[simp] theorem mBank_cfg (b : Nat) (f : BankSt → BankSt) (s : State) : (mBank b f s).cfg = s.cfg := rfl
@[simp] theorem mBank_keep (b : Nat) (f : BankSt → BankSt) (s : State) : (mBank b f s).keep = s.keep := rfl
@[simp] theorem mBank_net (b : Nat) (f : BankSt → BankSt) (s : State) : (mBank b f s).net = s.net := rfl
@[simp] theorem mBank_netId (b : Nat) (f : BankSt → BankSt) (s : State) : (mBank b f s).netId = s.netId := rfl
@[simp] theorem mBank_ptp (b : Nat) (f : BankSt → BankSt) (s : State) : (mBank b f s).ptp = s.ptp := rfl
@[simp] theorem mBank_mgt (b : Nat) (f : BankSt → BankSt) (s : State) : (mBank b f s).mgt = s.mgt := rfl
@[simp] theorem mBank_tow (b : Nat) (f : BankSt → BankSt) (s : State) : (mBank b f s).tow = s.tow := rfl
@[simp] theorem mBank_plc (b : Nat) (f : BankSt → BankSt) (s : State) : (mBank b f s).plc = s.plc := rfl
@[simp] theorem mBank_cmp (b : Nat) (f : BankSt → BankSt) (s : State) : (mBank b f s).cmp = s.cmp := rfl
@[simp] theorem mBank_str (b : Nat) (f : BankSt → BankSt) (s : State) : (mBank b f s).str = s.str := rfl
@[simp] theorem mBank_pos (b : Nat) (f : BankSt → BankSt) (s : State) : (mBank b f s).pos = s.pos := rfl
@[simp] theorem mBank_mil (b : Nat) (f : BankSt → BankSt) (s : State) : (mBank b f s).mil = s.mil := rfl
@[simp] theorem mBank_fir (b : Nat) (f : BankSt → BankSt) (s : State) : (mBank b f s).fir = s.fir := rfl
@[simp] theorem mBank_stg (b : Nat) (f : BankSt → BankSt) (s : State) : (mBank b f s).stg = s.stg := rfl
@[simp] theorem mBank_nzl (b : Nat) (f : BankSt → BankSt) (s : State) : (mBank b f s).nzl = s.nzl := rfl
@[simp] theorem mBank_gat (b : Nat) (f : BankSt → BankSt) (s : State) : (mBank b f s).gat = s.gat := rfl
@[simp] theorem mBank_gul (b : Nat) (f : BankSt → BankSt) (s : State) : (mBank b f s).gul = s.gul := rfl
@[simp] theorem mBank_insp (b : Nat) (f : BankSt → BankSt) (s : State) : (mBank b f s).insp = s.insp := rfl
@[simp] theorem mBank_mem (b : Nat) (f : BankSt → BankSt) (s : State) : (mBank b f s).mem = { s.mem with banks := vmod s.mem.banks b f } := rfl
@[simp] theorem mBank_axs (b : Nat) (f : BankSt → BankSt) (s : State) : (mBank b f s).axs = s.axs := rfl
@[simp] theorem mBank_lmp (b : Nat) (f : BankSt → BankSt) (s : State) : (mBank b f s).lmp = s.lmp := rfl
@[simp] theorem mBank_par (b : Nat) (f : BankSt → BankSt) (s : State) : (mBank b f s).par = s.par := rfl
@[simp] theorem mBank_cal (b : Nat) (f : BankSt → BankSt) (s : State) : (mBank b f s).cal = s.cal := rfl

@[simp] theorem mArb_pending (i : Nat) (f : Arb → Arb) (s : State) : (mArb i f s).pending = s.pending := rfl
@[simp] theorem mArb_now (i : Nat) (f : Arb → Arb) (s : State) : (mArb i f s).now = s.now := rfl
@[simp] theorem mArb_free (i : Nat) (f : Arb → Arb) (s : State) : (mArb i f s).free = s.free := rfl
@[simp] theorem mArb_outbox (i : Nat) (f : Arb → Arb) (s : State) : (mArb i f s).outbox = s.outbox := rfl
@[simp] theorem mArb_regs (i : Nat) (f : Arb → Arb) (s : State) : (mArb i f s).regs = s.regs := rfl
@[simp] theorem mArb_act (i : Nat) (f : Arb → Arb) (s : State) : (mArb i f s).act = s.act := rfl
@[simp] theorem mArb_sys (i : Nat) (f : Arb → Arb) (s : State) : (mArb i f s).sys = s.sys := rfl
@[simp] theorem mArb_err (i : Nat) (f : Arb → Arb) (s : State) : (mArb i f s).err = s.err := rfl
@[simp] theorem mArb_cap (i : Nat) (f : Arb → Arb) (s : State) : (mArb i f s).cap = s.cap := rfl
@[simp] theorem mArb_dbg (i : Nat) (f : Arb → Arb) (s : State) : (mArb i f s).dbg = s.dbg := rfl
@[simp] theorem mArb_cfg (i : Nat) (f : Arb → Arb) (s : State) : (mArb i f s).cfg = s.cfg := rfl
@[simp] theorem mArb_keep (i : Nat) (f : Arb → Arb) (s : State) : (mArb i f s).keep = s.keep := rfl
@[simp] theorem mArb_net (i : Nat) (f : Arb → Arb) (s : State) : (mArb i f s).net = s.net := rfl
@[simp] theorem mArb_netId (i : Nat) (f : Arb → Arb) (s : State) : (mArb i f s).netId = s.netId := rfl
@[simp] theorem mArb_ptp (i : Nat) (f : Arb → Arb) (s : State) : (mArb i f s).ptp = s.ptp := rfl
@[simp] theorem mArb_mgt (i : Nat) (f : Arb → Arb) (s : State) : (mArb i f s).mgt = s.mgt := rfl
@[simp] theorem mArb_tow (i : Nat) (f : Arb → Arb) (s : State) : (mArb i f s).tow = s.tow := rfl
@[simp] theorem mArb_plc (i : Nat) (f : Arb → Arb) (s : State) : (mArb i f s).plc = s.plc := rfl
@[simp] theorem mArb_cmp (i : Nat) (f : Arb → Arb) (s : State) : (mArb i f s).cmp = s.cmp := rfl
@[simp] theorem mArb_str (i : Nat) (f : Arb → Arb) (s : State) : (mArb i f s).str = s.str := rfl
@[simp] theorem mArb_pos (i : Nat) (f : Arb → Arb) (s : State) : (mArb i f s).pos = s.pos := rfl
@[simp] theorem mArb_mil (i : Nat) (f : Arb → Arb) (s : State) : (mArb i f s).mil = s.mil := rfl
@[simp] theorem mArb_fir (i : Nat) (f : Arb → Arb) (s : State) : (mArb i f s).fir = s.fir := rfl
@[simp] theorem mArb_stg (i : Nat) (f : Arb → Arb) (s : State) : (mArb i f s).stg = s.stg := rfl
@[simp] theorem mArb_nzl (i : Nat) (f : Arb → Arb) (s : State) : (mArb i f s).nzl = s.nzl := rfl
@[simp] theorem mArb_gat (i : Nat) (f : Arb → Arb) (s : State) : (mArb i f s).gat = s.gat := rfl
@[simp] theorem mArb_gul (i : Nat) (f : Arb → Arb) (s : State) : (mArb i f s).gul = s.gul := rfl
@[simp] theorem mArb_insp (i : Nat) (f : Arb → Arb) (s : State) : (mArb i f s).insp = s.insp := rfl
@[simp] theorem mArb_mem (i : Nat) (f : Arb → Arb) (s : State) : (mArb i f s).mem = { s.mem with arbs := vmod s.mem.arbs i f } := rfl
@[simp] theorem mArb_axs (i : Nat) (f : Arb → Arb) (s : State) : (mArb i f s).axs = s.axs := rfl
@[simp] theorem mArb_lmp (i : Nat) (f : Arb → Arb) (s : State) : (mArb i f s).lmp = s.lmp := rfl
@[simp] theorem mArb_par (i : Nat) (f : Arb → Arb) (s : State) : (mArb i f s).par = s.par := rfl
@[simp] theorem mArb_cal (i : Nat) (f : Arb → Arb) (s : State) : (mArb i f s).cal = s.cal := rfl

@[simp] theorem mAxs_pending (a : Nat) (f : AxisState → AxisState) (s : State) : (mAxs a f s).pending = s.pending := rfl
@[simp] theorem mAxs_now (a : Nat) (f : AxisState → AxisState) (s : State) : (mAxs a f s).now = s.now := rfl
@[simp] theorem mAxs_free (a : Nat) (f : AxisState → AxisState) (s : State) : (mAxs a f s).free = s.free := rfl
@[simp] theorem mAxs_outbox (a : Nat) (f : AxisState → AxisState) (s : State) : (mAxs a f s).outbox = s.outbox := rfl
@[simp] theorem mAxs_regs (a : Nat) (f : AxisState → AxisState) (s : State) : (mAxs a f s).regs = s.regs := rfl
@[simp] theorem mAxs_act (a : Nat) (f : AxisState → AxisState) (s : State) : (mAxs a f s).act = s.act := rfl
@[simp] theorem mAxs_sys (a : Nat) (f : AxisState → AxisState) (s : State) : (mAxs a f s).sys = s.sys := rfl
@[simp] theorem mAxs_err (a : Nat) (f : AxisState → AxisState) (s : State) : (mAxs a f s).err = s.err := rfl
@[simp] theorem mAxs_cap (a : Nat) (f : AxisState → AxisState) (s : State) : (mAxs a f s).cap = s.cap := rfl
@[simp] theorem mAxs_dbg (a : Nat) (f : AxisState → AxisState) (s : State) : (mAxs a f s).dbg = s.dbg := rfl
@[simp] theorem mAxs_cfg (a : Nat) (f : AxisState → AxisState) (s : State) : (mAxs a f s).cfg = s.cfg := rfl
@[simp] theorem mAxs_keep (a : Nat) (f : AxisState → AxisState) (s : State) : (mAxs a f s).keep = s.keep := rfl
@[simp] theorem mAxs_net (a : Nat) (f : AxisState → AxisState) (s : State) : (mAxs a f s).net = s.net := rfl
@[simp] theorem mAxs_netId (a : Nat) (f : AxisState → AxisState) (s : State) : (mAxs a f s).netId = s.netId := rfl
@[simp] theorem mAxs_ptp (a : Nat) (f : AxisState → AxisState) (s : State) : (mAxs a f s).ptp = s.ptp := rfl
@[simp] theorem mAxs_mgt (a : Nat) (f : AxisState → AxisState) (s : State) : (mAxs a f s).mgt = s.mgt := rfl
@[simp] theorem mAxs_tow (a : Nat) (f : AxisState → AxisState) (s : State) : (mAxs a f s).tow = s.tow := rfl
@[simp] theorem mAxs_plc (a : Nat) (f : AxisState → AxisState) (s : State) : (mAxs a f s).plc = s.plc := rfl
@[simp] theorem mAxs_cmp (a : Nat) (f : AxisState → AxisState) (s : State) : (mAxs a f s).cmp = s.cmp := rfl
@[simp] theorem mAxs_str (a : Nat) (f : AxisState → AxisState) (s : State) : (mAxs a f s).str = s.str := rfl
@[simp] theorem mAxs_pos (a : Nat) (f : AxisState → AxisState) (s : State) : (mAxs a f s).pos = s.pos := rfl
@[simp] theorem mAxs_mil (a : Nat) (f : AxisState → AxisState) (s : State) : (mAxs a f s).mil = s.mil := rfl
@[simp] theorem mAxs_fir (a : Nat) (f : AxisState → AxisState) (s : State) : (mAxs a f s).fir = s.fir := rfl
@[simp] theorem mAxs_stg (a : Nat) (f : AxisState → AxisState) (s : State) : (mAxs a f s).stg = s.stg := rfl
@[simp] theorem mAxs_nzl (a : Nat) (f : AxisState → AxisState) (s : State) : (mAxs a f s).nzl = s.nzl := rfl
@[simp] theorem mAxs_gat (a : Nat) (f : AxisState → AxisState) (s : State) : (mAxs a f s).gat = s.gat := rfl
@[simp] theorem mAxs_gul (a : Nat) (f : AxisState → AxisState) (s : State) : (mAxs a f s).gul = s.gul := rfl
@[simp] theorem mAxs_insp (a : Nat) (f : AxisState → AxisState) (s : State) : (mAxs a f s).insp = s.insp := rfl
@[simp] theorem mAxs_mem (a : Nat) (f : AxisState → AxisState) (s : State) : (mAxs a f s).mem = s.mem := rfl
@[simp] theorem mAxs_axs (a : Nat) (f : AxisState → AxisState) (s : State) : (mAxs a f s).axs = vmod s.axs a f := rfl
@[simp] theorem mAxs_lmp (a : Nat) (f : AxisState → AxisState) (s : State) : (mAxs a f s).lmp = s.lmp := rfl
@[simp] theorem mAxs_par (a : Nat) (f : AxisState → AxisState) (s : State) : (mAxs a f s).par = s.par := rfl
@[simp] theorem mAxs_cal (a : Nat) (f : AxisState → AxisState) (s : State) : (mAxs a f s).cal = s.cal := rfl

@[simp] theorem mLmp_pending (f : LampState → LampState) (s : State) : (mLmp f s).pending = s.pending := rfl
@[simp] theorem mLmp_now (f : LampState → LampState) (s : State) : (mLmp f s).now = s.now := rfl
@[simp] theorem mLmp_free (f : LampState → LampState) (s : State) : (mLmp f s).free = s.free := rfl
@[simp] theorem mLmp_outbox (f : LampState → LampState) (s : State) : (mLmp f s).outbox = s.outbox := rfl
@[simp] theorem mLmp_regs (f : LampState → LampState) (s : State) : (mLmp f s).regs = s.regs := rfl
@[simp] theorem mLmp_act (f : LampState → LampState) (s : State) : (mLmp f s).act = s.act := rfl
@[simp] theorem mLmp_sys (f : LampState → LampState) (s : State) : (mLmp f s).sys = s.sys := rfl
@[simp] theorem mLmp_err (f : LampState → LampState) (s : State) : (mLmp f s).err = s.err := rfl
@[simp] theorem mLmp_cap (f : LampState → LampState) (s : State) : (mLmp f s).cap = s.cap := rfl
@[simp] theorem mLmp_dbg (f : LampState → LampState) (s : State) : (mLmp f s).dbg = s.dbg := rfl
@[simp] theorem mLmp_cfg (f : LampState → LampState) (s : State) : (mLmp f s).cfg = s.cfg := rfl
@[simp] theorem mLmp_keep (f : LampState → LampState) (s : State) : (mLmp f s).keep = s.keep := rfl
@[simp] theorem mLmp_net (f : LampState → LampState) (s : State) : (mLmp f s).net = s.net := rfl
@[simp] theorem mLmp_netId (f : LampState → LampState) (s : State) : (mLmp f s).netId = s.netId := rfl
@[simp] theorem mLmp_ptp (f : LampState → LampState) (s : State) : (mLmp f s).ptp = s.ptp := rfl
@[simp] theorem mLmp_mgt (f : LampState → LampState) (s : State) : (mLmp f s).mgt = s.mgt := rfl
@[simp] theorem mLmp_tow (f : LampState → LampState) (s : State) : (mLmp f s).tow = s.tow := rfl
@[simp] theorem mLmp_plc (f : LampState → LampState) (s : State) : (mLmp f s).plc = s.plc := rfl
@[simp] theorem mLmp_cmp (f : LampState → LampState) (s : State) : (mLmp f s).cmp = s.cmp := rfl
@[simp] theorem mLmp_str (f : LampState → LampState) (s : State) : (mLmp f s).str = s.str := rfl
@[simp] theorem mLmp_pos (f : LampState → LampState) (s : State) : (mLmp f s).pos = s.pos := rfl
@[simp] theorem mLmp_mil (f : LampState → LampState) (s : State) : (mLmp f s).mil = s.mil := rfl
@[simp] theorem mLmp_fir (f : LampState → LampState) (s : State) : (mLmp f s).fir = s.fir := rfl
@[simp] theorem mLmp_stg (f : LampState → LampState) (s : State) : (mLmp f s).stg = s.stg := rfl
@[simp] theorem mLmp_nzl (f : LampState → LampState) (s : State) : (mLmp f s).nzl = s.nzl := rfl
@[simp] theorem mLmp_gat (f : LampState → LampState) (s : State) : (mLmp f s).gat = s.gat := rfl
@[simp] theorem mLmp_gul (f : LampState → LampState) (s : State) : (mLmp f s).gul = s.gul := rfl
@[simp] theorem mLmp_insp (f : LampState → LampState) (s : State) : (mLmp f s).insp = s.insp := rfl
@[simp] theorem mLmp_mem (f : LampState → LampState) (s : State) : (mLmp f s).mem = s.mem := rfl
@[simp] theorem mLmp_axs (f : LampState → LampState) (s : State) : (mLmp f s).axs = s.axs := rfl
@[simp] theorem mLmp_lmp (f : LampState → LampState) (s : State) : (mLmp f s).lmp = f s.lmp := rfl
@[simp] theorem mLmp_par (f : LampState → LampState) (s : State) : (mLmp f s).par = s.par := rfl
@[simp] theorem mLmp_cal (f : LampState → LampState) (s : State) : (mLmp f s).cal = s.cal := rfl

@[simp] theorem mPar_pending (f : ParState → ParState) (s : State) : (mPar f s).pending = s.pending := rfl
@[simp] theorem mPar_now (f : ParState → ParState) (s : State) : (mPar f s).now = s.now := rfl
@[simp] theorem mPar_free (f : ParState → ParState) (s : State) : (mPar f s).free = s.free := rfl
@[simp] theorem mPar_outbox (f : ParState → ParState) (s : State) : (mPar f s).outbox = s.outbox := rfl
@[simp] theorem mPar_regs (f : ParState → ParState) (s : State) : (mPar f s).regs = s.regs := rfl
@[simp] theorem mPar_act (f : ParState → ParState) (s : State) : (mPar f s).act = s.act := rfl
@[simp] theorem mPar_sys (f : ParState → ParState) (s : State) : (mPar f s).sys = s.sys := rfl
@[simp] theorem mPar_err (f : ParState → ParState) (s : State) : (mPar f s).err = s.err := rfl
@[simp] theorem mPar_cap (f : ParState → ParState) (s : State) : (mPar f s).cap = s.cap := rfl
@[simp] theorem mPar_dbg (f : ParState → ParState) (s : State) : (mPar f s).dbg = s.dbg := rfl
@[simp] theorem mPar_cfg (f : ParState → ParState) (s : State) : (mPar f s).cfg = s.cfg := rfl
@[simp] theorem mPar_keep (f : ParState → ParState) (s : State) : (mPar f s).keep = s.keep := rfl
@[simp] theorem mPar_net (f : ParState → ParState) (s : State) : (mPar f s).net = s.net := rfl
@[simp] theorem mPar_netId (f : ParState → ParState) (s : State) : (mPar f s).netId = s.netId := rfl
@[simp] theorem mPar_ptp (f : ParState → ParState) (s : State) : (mPar f s).ptp = s.ptp := rfl
@[simp] theorem mPar_mgt (f : ParState → ParState) (s : State) : (mPar f s).mgt = s.mgt := rfl
@[simp] theorem mPar_tow (f : ParState → ParState) (s : State) : (mPar f s).tow = s.tow := rfl
@[simp] theorem mPar_plc (f : ParState → ParState) (s : State) : (mPar f s).plc = s.plc := rfl
@[simp] theorem mPar_cmp (f : ParState → ParState) (s : State) : (mPar f s).cmp = s.cmp := rfl
@[simp] theorem mPar_str (f : ParState → ParState) (s : State) : (mPar f s).str = s.str := rfl
@[simp] theorem mPar_pos (f : ParState → ParState) (s : State) : (mPar f s).pos = s.pos := rfl
@[simp] theorem mPar_mil (f : ParState → ParState) (s : State) : (mPar f s).mil = s.mil := rfl
@[simp] theorem mPar_fir (f : ParState → ParState) (s : State) : (mPar f s).fir = s.fir := rfl
@[simp] theorem mPar_stg (f : ParState → ParState) (s : State) : (mPar f s).stg = s.stg := rfl
@[simp] theorem mPar_nzl (f : ParState → ParState) (s : State) : (mPar f s).nzl = s.nzl := rfl
@[simp] theorem mPar_gat (f : ParState → ParState) (s : State) : (mPar f s).gat = s.gat := rfl
@[simp] theorem mPar_gul (f : ParState → ParState) (s : State) : (mPar f s).gul = s.gul := rfl
@[simp] theorem mPar_insp (f : ParState → ParState) (s : State) : (mPar f s).insp = s.insp := rfl
@[simp] theorem mPar_mem (f : ParState → ParState) (s : State) : (mPar f s).mem = s.mem := rfl
@[simp] theorem mPar_axs (f : ParState → ParState) (s : State) : (mPar f s).axs = s.axs := rfl
@[simp] theorem mPar_lmp (f : ParState → ParState) (s : State) : (mPar f s).lmp = s.lmp := rfl
@[simp] theorem mPar_par (f : ParState → ParState) (s : State) : (mPar f s).par = f s.par := rfl
@[simp] theorem mPar_cal (f : ParState → ParState) (s : State) : (mPar f s).cal = s.cal := rfl

@[simp] theorem mCal_pending (f : CalState → CalState) (s : State) : (mCal f s).pending = s.pending := rfl
@[simp] theorem mCal_now (f : CalState → CalState) (s : State) : (mCal f s).now = s.now := rfl
@[simp] theorem mCal_free (f : CalState → CalState) (s : State) : (mCal f s).free = s.free := rfl
@[simp] theorem mCal_outbox (f : CalState → CalState) (s : State) : (mCal f s).outbox = s.outbox := rfl
@[simp] theorem mCal_regs (f : CalState → CalState) (s : State) : (mCal f s).regs = s.regs := rfl
@[simp] theorem mCal_act (f : CalState → CalState) (s : State) : (mCal f s).act = s.act := rfl
@[simp] theorem mCal_sys (f : CalState → CalState) (s : State) : (mCal f s).sys = s.sys := rfl
@[simp] theorem mCal_err (f : CalState → CalState) (s : State) : (mCal f s).err = s.err := rfl
@[simp] theorem mCal_cap (f : CalState → CalState) (s : State) : (mCal f s).cap = s.cap := rfl
@[simp] theorem mCal_dbg (f : CalState → CalState) (s : State) : (mCal f s).dbg = s.dbg := rfl
@[simp] theorem mCal_cfg (f : CalState → CalState) (s : State) : (mCal f s).cfg = s.cfg := rfl
@[simp] theorem mCal_keep (f : CalState → CalState) (s : State) : (mCal f s).keep = s.keep := rfl
@[simp] theorem mCal_net (f : CalState → CalState) (s : State) : (mCal f s).net = s.net := rfl
@[simp] theorem mCal_netId (f : CalState → CalState) (s : State) : (mCal f s).netId = s.netId := rfl
@[simp] theorem mCal_ptp (f : CalState → CalState) (s : State) : (mCal f s).ptp = s.ptp := rfl
@[simp] theorem mCal_mgt (f : CalState → CalState) (s : State) : (mCal f s).mgt = s.mgt := rfl
@[simp] theorem mCal_tow (f : CalState → CalState) (s : State) : (mCal f s).tow = s.tow := rfl
@[simp] theorem mCal_plc (f : CalState → CalState) (s : State) : (mCal f s).plc = s.plc := rfl
@[simp] theorem mCal_cmp (f : CalState → CalState) (s : State) : (mCal f s).cmp = s.cmp := rfl
@[simp] theorem mCal_str (f : CalState → CalState) (s : State) : (mCal f s).str = s.str := rfl
@[simp] theorem mCal_pos (f : CalState → CalState) (s : State) : (mCal f s).pos = s.pos := rfl
@[simp] theorem mCal_mil (f : CalState → CalState) (s : State) : (mCal f s).mil = s.mil := rfl
@[simp] theorem mCal_fir (f : CalState → CalState) (s : State) : (mCal f s).fir = s.fir := rfl
@[simp] theorem mCal_stg (f : CalState → CalState) (s : State) : (mCal f s).stg = s.stg := rfl
@[simp] theorem mCal_nzl (f : CalState → CalState) (s : State) : (mCal f s).nzl = s.nzl := rfl
@[simp] theorem mCal_gat (f : CalState → CalState) (s : State) : (mCal f s).gat = s.gat := rfl
@[simp] theorem mCal_gul (f : CalState → CalState) (s : State) : (mCal f s).gul = s.gul := rfl
@[simp] theorem mCal_insp (f : CalState → CalState) (s : State) : (mCal f s).insp = s.insp := rfl
@[simp] theorem mCal_mem (f : CalState → CalState) (s : State) : (mCal f s).mem = s.mem := rfl
@[simp] theorem mCal_axs (f : CalState → CalState) (s : State) : (mCal f s).axs = s.axs := rfl
@[simp] theorem mCal_lmp (f : CalState → CalState) (s : State) : (mCal f s).lmp = s.lmp := rfl
@[simp] theorem mCal_par (f : CalState → CalState) (s : State) : (mCal f s).par = s.par := rfl
@[simp] theorem mCal_cal (f : CalState → CalState) (s : State) : (mCal f s).cal = f s.cal := rfl

@[simp] theorem mCap_pending (f : CapState → CapState) (s : State) : (mCap f s).pending = s.pending := rfl
@[simp] theorem mCap_now (f : CapState → CapState) (s : State) : (mCap f s).now = s.now := rfl
@[simp] theorem mCap_free (f : CapState → CapState) (s : State) : (mCap f s).free = s.free := rfl
@[simp] theorem mCap_outbox (f : CapState → CapState) (s : State) : (mCap f s).outbox = s.outbox := rfl
@[simp] theorem mCap_regs (f : CapState → CapState) (s : State) : (mCap f s).regs = s.regs := rfl
@[simp] theorem mCap_act (f : CapState → CapState) (s : State) : (mCap f s).act = s.act := rfl
@[simp] theorem mCap_sys (f : CapState → CapState) (s : State) : (mCap f s).sys = s.sys := rfl
@[simp] theorem mCap_err (f : CapState → CapState) (s : State) : (mCap f s).err = s.err := rfl
@[simp] theorem mCap_cap (f : CapState → CapState) (s : State) : (mCap f s).cap = f s.cap := rfl
@[simp] theorem mCap_dbg (f : CapState → CapState) (s : State) : (mCap f s).dbg = s.dbg := rfl
@[simp] theorem mCap_cfg (f : CapState → CapState) (s : State) : (mCap f s).cfg = s.cfg := rfl
@[simp] theorem mCap_keep (f : CapState → CapState) (s : State) : (mCap f s).keep = s.keep := rfl
@[simp] theorem mCap_net (f : CapState → CapState) (s : State) : (mCap f s).net = s.net := rfl
@[simp] theorem mCap_netId (f : CapState → CapState) (s : State) : (mCap f s).netId = s.netId := rfl
@[simp] theorem mCap_ptp (f : CapState → CapState) (s : State) : (mCap f s).ptp = s.ptp := rfl
@[simp] theorem mCap_mgt (f : CapState → CapState) (s : State) : (mCap f s).mgt = s.mgt := rfl
@[simp] theorem mCap_tow (f : CapState → CapState) (s : State) : (mCap f s).tow = s.tow := rfl
@[simp] theorem mCap_plc (f : CapState → CapState) (s : State) : (mCap f s).plc = s.plc := rfl
@[simp] theorem mCap_cmp (f : CapState → CapState) (s : State) : (mCap f s).cmp = s.cmp := rfl
@[simp] theorem mCap_str (f : CapState → CapState) (s : State) : (mCap f s).str = s.str := rfl
@[simp] theorem mCap_pos (f : CapState → CapState) (s : State) : (mCap f s).pos = s.pos := rfl
@[simp] theorem mCap_mil (f : CapState → CapState) (s : State) : (mCap f s).mil = s.mil := rfl
@[simp] theorem mCap_fir (f : CapState → CapState) (s : State) : (mCap f s).fir = s.fir := rfl
@[simp] theorem mCap_stg (f : CapState → CapState) (s : State) : (mCap f s).stg = s.stg := rfl
@[simp] theorem mCap_nzl (f : CapState → CapState) (s : State) : (mCap f s).nzl = s.nzl := rfl
@[simp] theorem mCap_gat (f : CapState → CapState) (s : State) : (mCap f s).gat = s.gat := rfl
@[simp] theorem mCap_gul (f : CapState → CapState) (s : State) : (mCap f s).gul = s.gul := rfl
@[simp] theorem mCap_insp (f : CapState → CapState) (s : State) : (mCap f s).insp = s.insp := rfl
@[simp] theorem mCap_mem (f : CapState → CapState) (s : State) : (mCap f s).mem = s.mem := rfl
@[simp] theorem mCap_axs (f : CapState → CapState) (s : State) : (mCap f s).axs = s.axs := rfl
@[simp] theorem mCap_lmp (f : CapState → CapState) (s : State) : (mCap f s).lmp = s.lmp := rfl
@[simp] theorem mCap_par (f : CapState → CapState) (s : State) : (mCap f s).par = s.par := rfl
@[simp] theorem mCap_cal (f : CapState → CapState) (s : State) : (mCap f s).cal = s.cal := rfl

@[simp] theorem emit_pending (o : Output) (s : State) : (emit o s).pending = s.pending := rfl
@[simp] theorem emit_now (o : Output) (s : State) : (emit o s).now = s.now := rfl
@[simp] theorem emit_free (o : Output) (s : State) : (emit o s).free = s.free := rfl
@[simp] theorem emit_outbox (o : Output) (s : State) : (emit o s).outbox = s.outbox ++ [o] := rfl
@[simp] theorem emit_regs (o : Output) (s : State) : (emit o s).regs = s.regs := rfl
@[simp] theorem emit_act (o : Output) (s : State) : (emit o s).act = s.act := rfl
@[simp] theorem emit_sys (o : Output) (s : State) : (emit o s).sys = s.sys := rfl
@[simp] theorem emit_err (o : Output) (s : State) : (emit o s).err = s.err := rfl
@[simp] theorem emit_cap (o : Output) (s : State) : (emit o s).cap = s.cap := rfl
@[simp] theorem emit_dbg (o : Output) (s : State) : (emit o s).dbg = s.dbg := rfl
@[simp] theorem emit_cfg (o : Output) (s : State) : (emit o s).cfg = s.cfg := rfl
@[simp] theorem emit_keep (o : Output) (s : State) : (emit o s).keep = s.keep := rfl
@[simp] theorem emit_net (o : Output) (s : State) : (emit o s).net = s.net := rfl
@[simp] theorem emit_netId (o : Output) (s : State) : (emit o s).netId = s.netId := rfl
@[simp] theorem emit_ptp (o : Output) (s : State) : (emit o s).ptp = s.ptp := rfl
@[simp] theorem emit_mgt (o : Output) (s : State) : (emit o s).mgt = s.mgt := rfl
@[simp] theorem emit_tow (o : Output) (s : State) : (emit o s).tow = s.tow := rfl
@[simp] theorem emit_plc (o : Output) (s : State) : (emit o s).plc = s.plc := rfl
@[simp] theorem emit_cmp (o : Output) (s : State) : (emit o s).cmp = s.cmp := rfl
@[simp] theorem emit_str (o : Output) (s : State) : (emit o s).str = s.str := rfl
@[simp] theorem emit_pos (o : Output) (s : State) : (emit o s).pos = s.pos := rfl
@[simp] theorem emit_mil (o : Output) (s : State) : (emit o s).mil = s.mil := rfl
@[simp] theorem emit_fir (o : Output) (s : State) : (emit o s).fir = s.fir := rfl
@[simp] theorem emit_stg (o : Output) (s : State) : (emit o s).stg = s.stg := rfl
@[simp] theorem emit_nzl (o : Output) (s : State) : (emit o s).nzl = s.nzl := rfl
@[simp] theorem emit_gat (o : Output) (s : State) : (emit o s).gat = s.gat := rfl
@[simp] theorem emit_gul (o : Output) (s : State) : (emit o s).gul = s.gul := rfl
@[simp] theorem emit_insp (o : Output) (s : State) : (emit o s).insp = s.insp := rfl
@[simp] theorem emit_mem (o : Output) (s : State) : (emit o s).mem = s.mem := rfl
@[simp] theorem emit_axs (o : Output) (s : State) : (emit o s).axs = s.axs := rfl
@[simp] theorem emit_lmp (o : Output) (s : State) : (emit o s).lmp = s.lmp := rfl
@[simp] theorem emit_par (o : Output) (s : State) : (emit o s).par = s.par := rfl
@[simp] theorem emit_cal (o : Output) (s : State) : (emit o s).cal = s.cal := rfl

@[simp] theorem setReg_pending (a : Nat) (v : Word) (s : State) : (setReg a v s).pending = s.pending := rfl
@[simp] theorem setReg_now (a : Nat) (v : Word) (s : State) : (setReg a v s).now = s.now := rfl
@[simp] theorem setReg_free (a : Nat) (v : Word) (s : State) : (setReg a v s).free = s.free := rfl
@[simp] theorem setReg_outbox (a : Nat) (v : Word) (s : State) : (setReg a v s).outbox = s.outbox := rfl
@[simp] theorem setReg_regs (a : Nat) (v : Word) (s : State) : (setReg a v s).regs = spSet (regReset a) s.regs a v := rfl
@[simp] theorem setReg_act (a : Nat) (v : Word) (s : State) : (setReg a v s).act = s.act := rfl
@[simp] theorem setReg_sys (a : Nat) (v : Word) (s : State) : (setReg a v s).sys = s.sys := rfl
@[simp] theorem setReg_err (a : Nat) (v : Word) (s : State) : (setReg a v s).err = s.err := rfl
@[simp] theorem setReg_cap (a : Nat) (v : Word) (s : State) : (setReg a v s).cap = s.cap := rfl
@[simp] theorem setReg_dbg (a : Nat) (v : Word) (s : State) : (setReg a v s).dbg = s.dbg := rfl
@[simp] theorem setReg_cfg (a : Nat) (v : Word) (s : State) : (setReg a v s).cfg = s.cfg := rfl
@[simp] theorem setReg_keep (a : Nat) (v : Word) (s : State) : (setReg a v s).keep = s.keep := rfl
@[simp] theorem setReg_net (a : Nat) (v : Word) (s : State) : (setReg a v s).net = s.net := rfl
@[simp] theorem setReg_netId (a : Nat) (v : Word) (s : State) : (setReg a v s).netId = s.netId := rfl
@[simp] theorem setReg_ptp (a : Nat) (v : Word) (s : State) : (setReg a v s).ptp = s.ptp := rfl
@[simp] theorem setReg_mgt (a : Nat) (v : Word) (s : State) : (setReg a v s).mgt = s.mgt := rfl
@[simp] theorem setReg_tow (a : Nat) (v : Word) (s : State) : (setReg a v s).tow = s.tow := rfl
@[simp] theorem setReg_plc (a : Nat) (v : Word) (s : State) : (setReg a v s).plc = s.plc := rfl
@[simp] theorem setReg_cmp (a : Nat) (v : Word) (s : State) : (setReg a v s).cmp = s.cmp := rfl
@[simp] theorem setReg_str (a : Nat) (v : Word) (s : State) : (setReg a v s).str = s.str := rfl
@[simp] theorem setReg_pos (a : Nat) (v : Word) (s : State) : (setReg a v s).pos = s.pos := rfl
@[simp] theorem setReg_mil (a : Nat) (v : Word) (s : State) : (setReg a v s).mil = s.mil := rfl
@[simp] theorem setReg_fir (a : Nat) (v : Word) (s : State) : (setReg a v s).fir = s.fir := rfl
@[simp] theorem setReg_stg (a : Nat) (v : Word) (s : State) : (setReg a v s).stg = s.stg := rfl
@[simp] theorem setReg_nzl (a : Nat) (v : Word) (s : State) : (setReg a v s).nzl = s.nzl := rfl
@[simp] theorem setReg_gat (a : Nat) (v : Word) (s : State) : (setReg a v s).gat = s.gat := rfl
@[simp] theorem setReg_gul (a : Nat) (v : Word) (s : State) : (setReg a v s).gul = s.gul := rfl
@[simp] theorem setReg_insp (a : Nat) (v : Word) (s : State) : (setReg a v s).insp = s.insp := rfl
@[simp] theorem setReg_mem (a : Nat) (v : Word) (s : State) : (setReg a v s).mem = s.mem := rfl
@[simp] theorem setReg_axs (a : Nat) (v : Word) (s : State) : (setReg a v s).axs = s.axs := rfl
@[simp] theorem setReg_lmp (a : Nat) (v : Word) (s : State) : (setReg a v s).lmp = s.lmp := rfl
@[simp] theorem setReg_par (a : Nat) (v : Word) (s : State) : (setReg a v s).par = s.par := rfl
@[simp] theorem setReg_cal (a : Nat) (v : Word) (s : State) : (setReg a v s).cal = s.cal := rfl

@[simp] theorem setAct_pending (a : Nat) (v : Word) (s : State) : (setAct a v s).pending = s.pending := rfl
@[simp] theorem setAct_now (a : Nat) (v : Word) (s : State) : (setAct a v s).now = s.now := rfl
@[simp] theorem setAct_free (a : Nat) (v : Word) (s : State) : (setAct a v s).free = s.free := rfl
@[simp] theorem setAct_outbox (a : Nat) (v : Word) (s : State) : (setAct a v s).outbox = s.outbox := rfl
@[simp] theorem setAct_regs (a : Nat) (v : Word) (s : State) : (setAct a v s).regs = s.regs := rfl
@[simp] theorem setAct_act (a : Nat) (v : Word) (s : State) : (setAct a v s).act = spSet (regReset a) s.act a v := rfl
@[simp] theorem setAct_sys (a : Nat) (v : Word) (s : State) : (setAct a v s).sys = s.sys := rfl
@[simp] theorem setAct_err (a : Nat) (v : Word) (s : State) : (setAct a v s).err = s.err := rfl
@[simp] theorem setAct_cap (a : Nat) (v : Word) (s : State) : (setAct a v s).cap = s.cap := rfl
@[simp] theorem setAct_dbg (a : Nat) (v : Word) (s : State) : (setAct a v s).dbg = s.dbg := rfl
@[simp] theorem setAct_cfg (a : Nat) (v : Word) (s : State) : (setAct a v s).cfg = s.cfg := rfl
@[simp] theorem setAct_keep (a : Nat) (v : Word) (s : State) : (setAct a v s).keep = s.keep := rfl
@[simp] theorem setAct_net (a : Nat) (v : Word) (s : State) : (setAct a v s).net = s.net := rfl
@[simp] theorem setAct_netId (a : Nat) (v : Word) (s : State) : (setAct a v s).netId = s.netId := rfl
@[simp] theorem setAct_ptp (a : Nat) (v : Word) (s : State) : (setAct a v s).ptp = s.ptp := rfl
@[simp] theorem setAct_mgt (a : Nat) (v : Word) (s : State) : (setAct a v s).mgt = s.mgt := rfl
@[simp] theorem setAct_tow (a : Nat) (v : Word) (s : State) : (setAct a v s).tow = s.tow := rfl
@[simp] theorem setAct_plc (a : Nat) (v : Word) (s : State) : (setAct a v s).plc = s.plc := rfl
@[simp] theorem setAct_cmp (a : Nat) (v : Word) (s : State) : (setAct a v s).cmp = s.cmp := rfl
@[simp] theorem setAct_str (a : Nat) (v : Word) (s : State) : (setAct a v s).str = s.str := rfl
@[simp] theorem setAct_pos (a : Nat) (v : Word) (s : State) : (setAct a v s).pos = s.pos := rfl
@[simp] theorem setAct_mil (a : Nat) (v : Word) (s : State) : (setAct a v s).mil = s.mil := rfl
@[simp] theorem setAct_fir (a : Nat) (v : Word) (s : State) : (setAct a v s).fir = s.fir := rfl
@[simp] theorem setAct_stg (a : Nat) (v : Word) (s : State) : (setAct a v s).stg = s.stg := rfl
@[simp] theorem setAct_nzl (a : Nat) (v : Word) (s : State) : (setAct a v s).nzl = s.nzl := rfl
@[simp] theorem setAct_gat (a : Nat) (v : Word) (s : State) : (setAct a v s).gat = s.gat := rfl
@[simp] theorem setAct_gul (a : Nat) (v : Word) (s : State) : (setAct a v s).gul = s.gul := rfl
@[simp] theorem setAct_insp (a : Nat) (v : Word) (s : State) : (setAct a v s).insp = s.insp := rfl
@[simp] theorem setAct_mem (a : Nat) (v : Word) (s : State) : (setAct a v s).mem = s.mem := rfl
@[simp] theorem setAct_axs (a : Nat) (v : Word) (s : State) : (setAct a v s).axs = s.axs := rfl
@[simp] theorem setAct_lmp (a : Nat) (v : Word) (s : State) : (setAct a v s).lmp = s.lmp := rfl
@[simp] theorem setAct_par (a : Nat) (v : Word) (s : State) : (setAct a v s).par = s.par := rfl
@[simp] theorem setAct_cal (a : Nat) (v : Word) (s : State) : (setAct a v s).cal = s.cal := rfl

@[simp] theorem tickFree_pending (s : State) : (tickFree s).pending = s.pending := rfl
@[simp] theorem tickFree_now (s : State) : (tickFree s).now = s.now := rfl
@[simp] theorem tickFree_free (s : State) : (tickFree s).free = s.free + 1 := rfl
@[simp] theorem tickFree_outbox (s : State) : (tickFree s).outbox = s.outbox := rfl
@[simp] theorem tickFree_regs (s : State) : (tickFree s).regs = s.regs := rfl
@[simp] theorem tickFree_act (s : State) : (tickFree s).act = s.act := rfl
@[simp] theorem tickFree_sys (s : State) : (tickFree s).sys = s.sys := rfl
@[simp] theorem tickFree_err (s : State) : (tickFree s).err = s.err := rfl
@[simp] theorem tickFree_cap (s : State) : (tickFree s).cap = s.cap := rfl
@[simp] theorem tickFree_dbg (s : State) : (tickFree s).dbg = s.dbg := rfl
@[simp] theorem tickFree_cfg (s : State) : (tickFree s).cfg = s.cfg := rfl
@[simp] theorem tickFree_keep (s : State) : (tickFree s).keep = s.keep := rfl
@[simp] theorem tickFree_net (s : State) : (tickFree s).net = s.net := rfl
@[simp] theorem tickFree_netId (s : State) : (tickFree s).netId = s.netId := rfl
@[simp] theorem tickFree_ptp (s : State) : (tickFree s).ptp = s.ptp := rfl
@[simp] theorem tickFree_mgt (s : State) : (tickFree s).mgt = s.mgt := rfl
@[simp] theorem tickFree_tow (s : State) : (tickFree s).tow = s.tow := rfl
@[simp] theorem tickFree_plc (s : State) : (tickFree s).plc = s.plc := rfl
@[simp] theorem tickFree_cmp (s : State) : (tickFree s).cmp = s.cmp := rfl
@[simp] theorem tickFree_str (s : State) : (tickFree s).str = s.str := rfl
@[simp] theorem tickFree_pos (s : State) : (tickFree s).pos = s.pos := rfl
@[simp] theorem tickFree_mil (s : State) : (tickFree s).mil = s.mil := rfl
@[simp] theorem tickFree_fir (s : State) : (tickFree s).fir = s.fir := rfl
@[simp] theorem tickFree_stg (s : State) : (tickFree s).stg = s.stg := rfl
@[simp] theorem tickFree_nzl (s : State) : (tickFree s).nzl = s.nzl := rfl
@[simp] theorem tickFree_gat (s : State) : (tickFree s).gat = s.gat := rfl
@[simp] theorem tickFree_gul (s : State) : (tickFree s).gul = s.gul := rfl
@[simp] theorem tickFree_insp (s : State) : (tickFree s).insp = s.insp := rfl
@[simp] theorem tickFree_mem (s : State) : (tickFree s).mem = s.mem := rfl
@[simp] theorem tickFree_axs (s : State) : (tickFree s).axs = s.axs := rfl
@[simp] theorem tickFree_lmp (s : State) : (tickFree s).lmp = s.lmp := rfl
@[simp] theorem tickFree_par (s : State) : (tickFree s).par = s.par := rfl
@[simp] theorem tickFree_cal (s : State) : (tickFree s).cal = s.cal := rfl

end Sys2Proof.Machine
end

