-- ==== Sys2Proof/Laws/Report.lean ====
section
/-! SUPPORT. The frame of every command (`closeCmd`, `always`, `event`, `formed`, `spelled`): what each can answer, said once. -/

namespace Sys2Proof.Machine

/-- Closing a command gives back the queue it started with. -/
@[simp] theorem closeCmd_pending (s t : State) : (closeCmd s t).pending = s.pending := rfl

/-- What a command sends follows what was sent before. -/
@[simp] theorem closeCmd_outbox (s t : State) : (closeCmd s t).outbox = s.outbox ++ (flush t).outbox := rfl

/-- Closing a command leaves the error logger as logging left it. -/
@[simp] theorem closeCmd_err (s t : State) : (closeCmd s t).err = (flush t).err := rfl

/-- Closing a command leaves the registers as logging left them. -/
@[simp] theorem closeCmd_regs (s t : State) : (closeCmd s t).regs = (flush t).regs := rfl

/-- A program fuse blown before a command is blown after it. -/
@[simp] theorem closeCmd_otpProg (s t : State) : (closeCmd s t).cfg.otpProg = (flush t).cfg.otpProg ||| s.cfg.otpProg := rfl

/-- A revoke fuse blown before a command is blown after it. -/
@[simp] theorem closeCmd_otpRev (s t : State) : (closeCmd s t).cfg.otpRev = (flush t).cfg.otpRev ||| s.cfg.otpRev := rfl

/-- The pin fuse blown before a command is blown after it. -/
@[simp] theorem closeCmd_otpPin (s t : State) : (closeCmd s t).cfg.otpPin = ((flush t).cfg.otpPin || s.cfg.otpPin) := rfl

/-- A command that is always possible answers a next state. -/
theorem always_next (f : State → State) (s : State) : always f s = .next (closeCmd s (f { s with outbox := [] })) := rfl

/-- An event that the state allows runs. -/
@[simp] theorem event_true (n : String) (f : State → State) (s : State) : event true n f s = always f s := rfl

/-- An event that the state does not allow faults. -/
@[simp] theorem event_false (n : String) (f : State → State) (s : State) : event false n f s = .fault (.cannotOccur n) := rfl

/-- A command that spells its row has its outcome. -/
@[simp] theorem formed_true (n : String) (o : Host.Outcome State Fault Refusal) : formed true n o = o := rfl

/-- A command that does not spell its row is refused as ill-formed. -/
@[simp] theorem formed_false (n : String) (o : Host.Outcome State Fault Refusal) : formed false n o = .refused (.illFormed n) := rfl

/-- The outcomes of a command at `s`: its effect closed, a fault of an event that cannot occur, or a refusal as ill-formed. -/
def Framed (s : State) (o : Host.Outcome State Fault Refusal) : Prop :=
  (∃ f, o = always f s) ∨ (∃ n, o = .fault (.cannotOccur n)) ∨ (∃ n, o = .refused (.illFormed n))

theorem always_framed (f : State → State) (s : State) : Framed s (always f s) := .inl ⟨f, rfl⟩

theorem event_framed (en : Bool) (n : String) (f : State → State) (s : State) : Framed s (event en n f s) := by
  cases en
  · exact .inr (.inl ⟨n, rfl⟩)
  · exact .inl ⟨f, rfl⟩

theorem formed_framed (ok : Bool) (n : String) (o : Host.Outcome State Fault Refusal) (s : State) (h : Framed s o) :
    Framed s (formed ok n o) := by
  cases ok
  · exact .inr (.inr ⟨n, rfl⟩)
  · exact h

theorem spelled_framed (ok : Bool) (n : String) (f : State → State) (s : State) : Framed s (spelled ok n f s) :=
  formed_framed ok n _ s (always_framed f s)

/-- If a framed outcome is a next state, that state closes an effect run on `s` with its outbox empty. -/
theorem framed_next {s t : State} (h : Framed s (.next t)) : ∃ f : State → State, t = closeCmd s (f { s with outbox := [] }) := by
  rcases h with ⟨f, hf⟩ | ⟨n, hn⟩ | ⟨n, hn⟩
  · exact ⟨f, by simpa [always] using hf⟩
  · cases hn
  · cases hn

end Sys2Proof.Machine
end

