-- ==== Sys2Proof/Laws/Flush.lean ====
section
/-! SUPPORT. What logging the errors of a command changes (R483), and the closed effect of a command that finds none. -/

namespace Sys2Proof.Machine

theorem each_keep {α β γ : Type} (g : β → γ) (f : α → β → β) (h : ∀ a b, g (f a b) = g b) :
    ∀ (l : List α) (b : β), g (each f l b) = g b
  | [], _ => rfl
  | a :: r, b => by rw [each, each_keep g f h r, h]

theorem each_inv {α β : Type} (P : β → Prop) (f : α → β → β) (h : ∀ a b, P b → P (f a b)) :
    ∀ (l : List α) (b : β), P b → P (each f l b)
  | [], _, hb => hb
  | a :: r, b, hb => by rw [each]; exact each_inv P f h r _ (h a b hb)

theorem sortBy_nil {α : Type} (le : α → α → Bool) : sortBy le [] = [] := rfl

/-- The parts that logging never changes, whatever was found (R483, R36, R11). -/
def logKeeps : List Part := [.now, .free, .regs, .act, .cap, .dbg, .cfg, .keep, .net, .netId, .ptp, .tow, .plc, .cmp, .str, .pos, .mil, .stg, .nzl, .gul, .insp, .mem]

/-- Two states agree on the parts that logging never changes. -/
def logSame (s t : State) : Prop := ∀ p ∈ logKeeps, p.same s t

theorem Part.same_refl (s : State) (p : Part) : p.same s s := by cases p <;> rfl

theorem Part.same_trans {s t u : State} {p : Part} (h : p.same s t) (k : p.same t u) : p.same s u := by
  cases p <;> exact Eq.trans k h

theorem keepsBut_refl (ps : List Part) (s : State) : keepsBut ps s s := fun p _ => p.same_refl s

theorem keepsBut_trans {ps qs : List Part} {s t u : State} (h : keepsBut ps s t) (k : keepsBut qs t u) :
    keepsBut (ps ++ qs) s u := fun p hp =>
  Part.same_trans (h p (fun m => hp (List.mem_append_left _ m))) (k p (fun m => hp (List.mem_append_right _ m)))

theorem keepsBut_mono {ps qs : List Part} {s t : State} (h : keepsBut ps s t) (hs : ∀ p ∈ ps, p ∈ qs) : keepsBut qs s t :=
  fun p hp => h p (fun m => hp (hs p m))

theorem logSame_refl (s : State) : logSame s s := fun p _ => p.same_refl s

theorem logSame_trans {s t u : State} (h : logSame s t) (k : logSame t u) : logSame s u :=
  fun p m => Part.same_trans (h p m) (k p m)

theorem each_logSame {α : Type} (f : α → State → State) (h : ∀ a t, logSame t (f a t)) (l : List α) (s : State) :
    logSame s (each f l s) := each_inv (logSame s) f (fun a t ht => logSame_trans ht (h a t)) l s (logSame_refl s)

/-- A single updater keeps what logging keeps. -/
theorem logSame_of (s t : State) (now : t.now = s.now) (free : t.free = s.free) (regs : t.regs = s.regs) (act : t.act = s.act) (cap : t.cap = s.cap) (dbg : t.dbg = s.dbg) (cfg : t.cfg = s.cfg) (keep : t.keep = s.keep) (net : t.net = s.net) (netId : t.netId = s.netId) (ptp : t.ptp = s.ptp) (tow : t.tow = s.tow) (plc : t.plc = s.plc) (cmp : t.cmp = s.cmp) (str : t.str = s.str) (pos : t.pos = s.pos) (mil : t.mil = s.mil) (stg : t.stg = s.stg) (nzl : t.nzl = s.nzl) (gul : t.gul = s.gul) (insp : t.insp = s.insp) (mem : t.mem = s.mem) : logSame s t := by
  intro p hp
  simp only [logKeeps, List.mem_cons, List.not_mem_nil, or_false] at hp
  rcases hp with rfl | rfl | rfl | rfl | rfl | rfl | rfl | rfl | rfl | rfl | rfl | rfl | rfl | rfl | rfl | rfl | rfl | rfl | rfl | rfl | rfl | rfl <;> assumption

theorem subRecord_logSame (k : Nat) (d : Bytes) (s : State) : logSame s (subRecord k d s) := by
  apply logSame_of <;> rfl

theorem setDev_logSame (n : DevState) (s : State) : logSame s (setDev n s) := by
  unfold setDev
  split
  · exact logSame_refl s
  · apply logSame_of <;> rfl

theorem lampsOff_logSame (s : State) : logSame s (lampsOff s) := by
  unfold lampsOff
  have h0 : logSame s (if s.sys.st = .ready ∨ s.sys.st = .printing ∨ s.sys.st = .held ∨ s.sys.st = .stopped then emit (.scan [] 0 0 0) s else s) := by
    split
    · apply logSame_of <;> rfl
    · exact logSame_refl s
  refine logSame_trans h0 (each_logSame _ (fun n t => ?_) _ _)
  split
  · exact logSame_trans (by apply logSame_of <;> rfl) (each_logSame _ (fun f u => by apply logSame_of <;> rfl) _ _)
  · exact logSame_refl t

theorem hitchRelease_logSame (s : State) : logSame s (hitchRelease s) := by
  unfold hitchRelease
  split
  · apply logSame_of <;> rfl
  · exact logSame_refl s

theorem adviceOff_logSame (s : State) : logSame s (adviceOff s) := by
  have h (b : Bool) (n : String) (u : State) : logSame u (doIf b (emit (.pin n 0 false)) u) := by
    cases b
    · exact logSame_refl u
    · apply logSame_of <;> rfl
  exact logSame_trans (logSame_trans (h s.par.slow "SLOW_N" s) (h _ "HOLD_N" _)) (by apply logSame_of <;> rfl)

theorem enterFaulted_logSame (s : State) : logSame s (enterFaulted s) := by
  unfold enterFaulted
  split
  · exact logSame_refl s
  · refine logSame_trans (logSame_trans (lampsOff_logSame s) (adviceOff_logSame _)) (logSame_trans (setDev_logSame .faulted _) (logSame_trans (hitchRelease_logSame _) ?_))
    apply logSame_of <;> rfl

theorem enterStopped_logSame (s : State) : logSame s (enterStopped s) := by
  unfold enterStopped
  split
  · apply logSame_of <;> rfl
  · split <;> first | exact setDev_logSame _ s | exact logSame_refl s

theorem logOne_logSame (x : ErrEv) (s : State) : logSame s (logOne x s) := by
  unfold logOne
  split
  · apply logSame_of <;> rfl
  · have h0 : logSame s (subRecord 2 (entryBytes (mkEntry s x)) (mErr (enterLog (mkEntry s x)) s)) := by
      apply logSame_of <;> rfl
    cases x.cls
    · exact h0
    · exact h0
    · dsimp only
      split
      · exact h0
      · exact logSame_trans h0 (enterStopped_logSame _)
    · exact logSame_trans h0 (enterFaulted_logSame _)

/-- Logging leaves every part of `logKeeps` alone. -/
theorem flush_logSame (s : State) : logSame s (flush s) := by
  unfold flush
  split
  · apply logSame_of <;> rfl
  · exact logSame_trans (by apply logSame_of <;> rfl) (each_logSame _ logOne_logSame _ _)

@[simp] theorem flush_now (s : State) : (flush s).now = s.now := flush_logSame s .now (by decide)
@[simp] theorem flush_free (s : State) : (flush s).free = s.free := flush_logSame s .free (by decide)
@[simp] theorem flush_regs (s : State) : (flush s).regs = s.regs := flush_logSame s .regs (by decide)
@[simp] theorem flush_act (s : State) : (flush s).act = s.act := flush_logSame s .act (by decide)
@[simp] theorem flush_cap (s : State) : (flush s).cap = s.cap := flush_logSame s .cap (by decide)
@[simp] theorem flush_dbg (s : State) : (flush s).dbg = s.dbg := flush_logSame s .dbg (by decide)
@[simp] theorem flush_cfg (s : State) : (flush s).cfg = s.cfg := flush_logSame s .cfg (by decide)
@[simp] theorem flush_keep (s : State) : (flush s).keep = s.keep := flush_logSame s .keep (by decide)
@[simp] theorem flush_net (s : State) : (flush s).net = s.net := flush_logSame s .net (by decide)
@[simp] theorem flush_netId (s : State) : (flush s).netId = s.netId := flush_logSame s .netId (by decide)
@[simp] theorem flush_ptp (s : State) : (flush s).ptp = s.ptp := flush_logSame s .ptp (by decide)
@[simp] theorem flush_tow (s : State) : (flush s).tow = s.tow := flush_logSame s .tow (by decide)
@[simp] theorem flush_plc (s : State) : (flush s).plc = s.plc := flush_logSame s .plc (by decide)
@[simp] theorem flush_cmp (s : State) : (flush s).cmp = s.cmp := flush_logSame s .cmp (by decide)
@[simp] theorem flush_str (s : State) : (flush s).str = s.str := flush_logSame s .str (by decide)
@[simp] theorem flush_pos (s : State) : (flush s).pos = s.pos := flush_logSame s .pos (by decide)
@[simp] theorem flush_mil (s : State) : (flush s).mil = s.mil := flush_logSame s .mil (by decide)
@[simp] theorem flush_stg (s : State) : (flush s).stg = s.stg := flush_logSame s .stg (by decide)
@[simp] theorem flush_nzl (s : State) : (flush s).nzl = s.nzl := flush_logSame s .nzl (by decide)
@[simp] theorem flush_gul (s : State) : (flush s).gul = s.gul := flush_logSame s .gul (by decide)
@[simp] theorem flush_insp (s : State) : (flush s).insp = s.insp := flush_logSame s .insp (by decide)
@[simp] theorem flush_mem (s : State) : (flush s).mem = s.mem := flush_logSame s .mem (by decide)

/-- The errors found are all logged, and none is found in logging (R483). -/
theorem logOne_found (x : ErrEv) (s : State) : (logOne x s).err.found = s.err.found := by
  have hf : ∀ e : ErrState, ∀ en : LogEntry, (enterLog en e).found = e.found := fun _ _ => rfl
  have hdev : ∀ (n : DevState) (u : State), (setDev n u).err = u.err := fun n u => by unfold setDev; split <;> rfl
  have hst : ∀ u : State, (enterStopped u).err = u.err := fun u => by
    unfold enterStopped
    split
    · rfl
    · split <;> first | exact hdev _ u | rfl
  have hl : ∀ u : State, (lampsOff u).err = u.err := fun u => by
    unfold lampsOff
    rw [each_keep (fun v : State => v.err)]
    · split <;> rfl
    · intro n t
      split
      · exact each_keep (fun v : State => v.err) (fun f u => emit (.lbus n (bits (lampForce u (0x200 + 0x20 * n)) 7 0) f) u) (fun f u => rfl) _ _
      · rfl
  have had : ∀ u : State, (adviceOff u).err = u.err := fun u => by
    have h (b : Bool) (n : String) (v : State) : (doIf b (emit (.pin n 0 false)) v).err = v.err := by cases b <;> rfl
    exact (h _ "HOLD_N" _).trans (h u.par.slow "SLOW_N" u)
  have hr : ∀ u : State, (hitchRelease u).err = u.err := fun u => by unfold hitchRelease; split <;> rfl
  have hft : ∀ u : State, (enterFaulted u).err = u.err := fun u => by
    unfold enterFaulted
    split
    · rfl
    · show (hitchRelease (setDev .faulted (adviceOff (lampsOff u)))).err = u.err
      rw [hr, hdev, had, hl]
  unfold logOne
  split
  · rfl
  · cases x.cls
    · rfl
    · rfl
    · dsimp only
      split
      · rfl
      · rw [hst]; rfl
    · dsimp only
      rw [hft]; rfl

/-- After logging, no detected error waits. -/
@[simp] theorem flush_found (s : State) : (flush s).err.found = [] := by
  unfold flush
  split
  · rfl
  · rw [each_keep (fun v : State => v.err.found) logOne logOne_found]; rfl

theorem mErr_found_nil (s : State) (h : s.err.found = []) : mErr (fun e => { e with found := [] }) s = s := by
  cases s with
  | mk p n f o r a sy err =>
    cases err
    simp only [mErr]
    simp only at h
    subst h
    rfl

/-- With nothing found and RESET_N released, logging changes nothing. -/
theorem flush_quiet (s : State) (h : s.err.found = []) (hc : s.sys.st ≠ .cold) : flush s = s := by
  unfold flush
  rw [if_neg hc, h, sortBy_nil, each, mErr_found_nil s h]

/-- With nothing found, logging changes at most the error logger (which RESET_N holds at reset in Cold). -/
theorem flush_nil (s : State) (h : s.err.found = []) : ∃ e, flush s = { s with err := e } := by
  by_cases hc : s.sys.st = .cold
  · unfold flush
    rw [if_pos hc]
    exact ⟨_, rfl⟩
  · exact ⟨s.err, by rw [flush_quiet s h hc]⟩

/-- Logging Notices and Faults changes the error logger and the subscribers' queues only. -/
theorem flush_calm (s : State) (h : ∀ x ∈ s.err.found, x.cls = .notice ∨ x.cls = .fault) :
    ∃ e m, flush s = { s with err := e, mgt := m } := by
  have key : ∀ (l : List ErrEv) (u : State), (∀ x ∈ l, x.cls = .notice ∨ x.cls = .fault) →
      ∃ e m, each logOne l u = { u with err := e, mgt := m } := by
    intro l
    induction l with
    | nil => intro u _; exact ⟨u.err, u.mgt, rfl⟩
    | cons x r ih =>
      intro u hx
      have h1 : ∃ e m, logOne x u = { u with err := e, mgt := m } := by
        unfold logOne
        split
        · exact ⟨_, _, rfl⟩
        · rcases hx x (by simp) with hc | hc <;> rw [hc] <;> exact ⟨_, _, rfl⟩
      obtain ⟨e, m, he⟩ := h1
      obtain ⟨e', m', hr⟩ := ih (logOne x u) (fun y hy => hx y (by simp [hy]))
      rw [each, hr, he]
      exact ⟨e', m', rfl⟩
  have hmem : ∀ (l : List ErrEv) (a x : ErrEv), x ∈ insertBy errLe a l → x = a ∨ x ∈ l := by
    intro l
    induction l with
    | nil => intro a x hx; simp [insertBy] at hx; exact .inl hx
    | cons b r ih =>
      intro a x hx
      unfold insertBy at hx
      split at hx
      · simpa using hx
      · rcases List.mem_cons.mp hx with rfl | hx
        · simp
        · rcases ih a x hx with rfl | hx <;> simp [*]
  have hsort : ∀ (l : List ErrEv) (x : ErrEv), x ∈ sortBy errLe l → x ∈ l := by
    intro l
    induction l with
    | nil => intro x hx; exact hx
    | cons a r ih =>
      intro x hx
      rcases hmem _ a x hx with rfl | hx
      · simp
      · simp [ih x hx]
  unfold flush
  split
  · exact ⟨_, s.mgt, rfl⟩
  · obtain ⟨e, m, hk⟩ := key (sortBy errLe s.err.found) (mErr (fun e => { e with found := [] }) s)
      (fun x hx => h x (hsort _ x hx))
    exact ⟨e, m, by rw [hk]; rfl⟩

theorem bv_or_self {n : Nat} (x : BitVec n) : x ||| x = x := by simp

/-- The closed effect of a command that finds no error and leaves CFG alone. -/
theorem closeCmd_quiet (s t : State) (h : t.err.found = []) (hc : t.sys.st ≠ .cold) (hg : t.cfg = s.cfg) :
    closeCmd s t = { t with pending := s.pending, outbox := s.outbox ++ t.outbox } := by
  unfold closeCmd
  rw [flush_quiet t h hc]
  cases t
  simp only at hg
  subst hg
  simp

end Sys2Proof.Machine
end

