-- ==== Sys2Proof/Laws/Keeps.lean ====
section
/-! SUPPORT. The frame of every operation, from the updaters of Machine/Ops.lean to those of stage 5: the parts that `f` may change, all others being kept. One lemma `f_keeps` per operation `f`, each from those of the operations it calls. -/

namespace Sys2Proof.Machine

theorem keepsBut_of {ps qs : List Part} {s t u : State} (h : keepsBut ps s t) (k : keepsBut qs t u) (hs : ∀ p ∈ qs, p ∈ ps) :
    keepsBut ps s u := fun p hp => Part.same_trans (h p hp) (k p (fun m => hp (hs p m)))
theorem keepsBut_ite {ps : List Part} {s t u : State} {c : Prop} [Decidable c] (h : keepsBut ps s t) (k : keepsBut ps s u) :
    keepsBut ps s (if c then t else u) := by split <;> assumption
theorem keepsBut_doIf {ps : List Part} {s t : State} {b : Bool} {f : State → State} (h : ∀ u, keepsBut ps u (f u)) (k : keepsBut ps s t) :
    keepsBut ps s (doIf b f t) := by
  unfold doIf
  split
  · exact keepsBut_of k (h t) (fun _ m => m)
  · exact k
theorem keepsBut_each {α : Type} {ps : List Part} {s t : State} {f : α → State → State} {l : List α}
    (h : ∀ a u, keepsBut ps u (f a u)) (k : keepsBut ps s t) : keepsBut ps s (each f l t) :=
  each_inv (fun u => keepsBut ps s u) f (fun a u hu => keepsBut_of hu (h a u) (fun _ m => m)) l t k
theorem keepsBut_foldl {α β : Type} {ps : List Part} {s : State} {f : State × β → α → State × β}
    (h : ∀ acc x, keepsBut ps acc.1 (f acc x).1) : ∀ (l : List α) {acc : State × β}, keepsBut ps s acc.1 → keepsBut ps s (l.foldl f acc).1
  | [], _, k => k
  | x :: r, acc, k => keepsBut_foldl h r (keepsBut_of k (h acc x) (fun _ m => m))
theorem keepsBut_foldl2 {α β : Type} {ps : List Part} {s : State} {f : β × State → α → β × State}
    (h : ∀ acc x, keepsBut ps acc.2 (f acc x).2) : ∀ (l : List α) {acc : β × State}, keepsBut ps s acc.2 → keepsBut ps s (l.foldl f acc).2
  | [], _, k => k
  | x :: r, acc, k => keepsBut_foldl2 h r (keepsBut_of k (h acc x) (fun _ m => m))

/-- An optional outcome, when there is one, keeps every part but the ones listed. -/
def optKeeps (ps : List Part) (s : State) (o : Option (State × Bool)) : Prop := ∀ r, o = some r → keepsBut ps s r.1
theorem optKeeps_none (ps : List Part) (s : State) : optKeeps ps s none := fun _ h => by cases h
theorem optKeeps_some {ps : List Part} {s : State} {r : State × Bool} (h : keepsBut ps s r.1) : optKeeps ps s (some r) :=
  fun _ e => by cases e; exact h
theorem optKeeps_ite {ps : List Part} {s : State} {c : Prop} [Decidable c] {o p : Option (State × Bool)} (h : optKeeps ps s o) (k : optKeeps ps s p) :
    optKeeps ps s (if c then o else p) := by split <;> assumption
theorem optKeeps_took {ps : List Part} {s t : State} (h : keepsBut ps s t) : optKeeps ps s (took t) := optKeeps_some h
theorem optKeeps_denied {ps : List Part} {s t : State} {c : Nat} (h : keepsBut ps s t) (hp : .err ∈ ps) : optKeeps ps s (denied c t) :=
  optKeeps_some (keepsBut_of h (qs := [.err]) (fun p m => by cases p <;> first | exact absurd (by decide) m | rfl) (fun p m => by
    rcases List.mem_singleton.mp m with rfl; exact hp))
theorem optKeeps_mono {ps qs : List Part} {s : State} {o : Option (State × Bool)} (h : optKeeps qs s o) (hs : ∀ p ∈ qs, p ∈ ps) : optKeeps ps s o :=
  fun r e => keepsBut_mono (h r e) hs

/-! Machine/Ops.lean -/

theorem mErr_keeps (f : ErrState → ErrState) (s : State) : keepsBut [.err] s (mErr f s) := by
  intro p hp; cases p <;> first | exact absurd (by decide) hp | rfl

theorem mSys_keeps (f : SysState → SysState) (s : State) : keepsBut [.sys] s (mSys f s) := by
  intro p hp; cases p <;> first | exact absurd (by decide) hp | rfl

theorem mDbg_keeps (f : DbgState → DbgState) (s : State) : keepsBut [.dbg] s (mDbg f s) := by
  intro p hp; cases p <;> first | exact absurd (by decide) hp | rfl

theorem mCfg_keeps (f : CfgState → CfgState) (s : State) : keepsBut [.cfg] s (mCfg f s) := by
  intro p hp; cases p <;> first | exact absurd (by decide) hp | rfl

theorem mKeep_keeps (f : KeepState → KeepState) (s : State) : keepsBut [.keep] s (mKeep f s) := by
  intro p hp; cases p <;> first | exact absurd (by decide) hp | rfl

theorem mNet_keeps (i : Nat) (f : NetPortState → NetPortState) (s : State) : keepsBut [.net] s (mNet i f s) := by
  intro p hp; cases p <;> first | exact absurd (by decide) hp | rfl

theorem mPtp_keeps (f : PtpState → PtpState) (s : State) : keepsBut [.ptp] s (mPtp f s) := by
  intro p hp; cases p <;> first | exact absurd (by decide) hp | rfl

theorem mDom_keeps (d : Nat) (f : PtpDom → PtpDom) (s : State) : keepsBut [.ptp] s (mDom d f s) := by
  unfold mDom
  try dsimp only
  repeat' (first
    | with_reducible exact keepsBut_refl _ _
    | (with_reducible show keepsBut _ _ (mPtp _ _); with_reducible refine keepsBut_of ?_ (mPtp_keeps _ _) (by decide))
    | with_reducible refine keepsBut_ite ?_ ?_
    | with_reducible refine keepsBut_doIf (fun _ => ?_) ?_
    | with_reducible refine keepsBut_each (fun _ _ => ?_) ?_
    | dsimp only [id]
    | split)

theorem mMgt_keeps (f : MgtState → MgtState) (s : State) : keepsBut [.mgt] s (mMgt f s) := by
  intro p hp; cases p <;> first | exact absurd (by decide) hp | rfl

theorem mTow_keeps (f : TowState → TowState) (s : State) : keepsBut [.tow] s (mTow f s) := by
  intro p hp; cases p <;> first | exact absurd (by decide) hp | rfl

theorem mCmp_keeps (f : CmpState → CmpState) (s : State) : keepsBut [.cmp] s (mCmp f s) := by
  intro p hp; cases p <;> first | exact absurd (by decide) hp | rfl

theorem mStr_keeps (f : StrState → StrState) (s : State) : keepsBut [.str] s (mStr f s) := by
  intro p hp; cases p <;> first | exact absurd (by decide) hp | rfl

theorem mStrand_keeps (n : Nat) (f : Strand → Strand) (s : State) : keepsBut [.str] s (mStrand n f s) := by
  unfold mStrand
  try dsimp only
  repeat' (first
    | with_reducible exact keepsBut_refl _ _
    | (with_reducible show keepsBut _ _ (mStr _ _); with_reducible refine keepsBut_of ?_ (mStr_keeps _ _) (by decide))
    | with_reducible refine keepsBut_ite ?_ ?_
    | with_reducible refine keepsBut_doIf (fun _ => ?_) ?_
    | with_reducible refine keepsBut_each (fun _ _ => ?_) ?_
    | dsimp only [id]
    | split)

theorem mPos_keeps (f : PosState → PosState) (s : State) : keepsBut [.pos] s (mPos f s) := by
  intro p hp; cases p <;> first | exact absurd (by decide) hp | rfl

theorem mEnc_keeps (c : Nat) (f : EncChan → EncChan) (s : State) : keepsBut [.pos] s (mEnc c f s) := by
  unfold mEnc
  try dsimp only
  repeat' (first
    | with_reducible exact keepsBut_refl _ _
    | (with_reducible show keepsBut _ _ (mPos _ _); with_reducible refine keepsBut_of ?_ (mPos_keeps _ _) (by decide))
    | with_reducible refine keepsBut_ite ?_ ?_
    | with_reducible refine keepsBut_doIf (fun _ => ?_) ?_
    | with_reducible refine keepsBut_each (fun _ _ => ?_) ?_
    | dsimp only [id]
    | split)

theorem mMil_keeps (f : MilState → MilState) (s : State) : keepsBut [.mil] s (mMil f s) := by
  intro p hp; cases p <;> first | exact absurd (by decide) hp | rfl

theorem mMs_keeps (i : Nat) (f : Milestone → Milestone) (s : State) : keepsBut [.mil] s (mMs i f s) := by
  unfold mMs
  try dsimp only
  repeat' (first
    | with_reducible exact keepsBut_refl _ _
    | (with_reducible show keepsBut _ _ (mMil _ _); with_reducible refine keepsBut_of ?_ (mMil_keeps _ _) (by decide))
    | with_reducible refine keepsBut_ite ?_ ?_
    | with_reducible refine keepsBut_doIf (fun _ => ?_) ?_
    | with_reducible refine keepsBut_each (fun _ _ => ?_) ?_
    | dsimp only [id]
    | split)

theorem mFir_keeps (f : FirState → FirState) (s : State) : keepsBut [.fir] s (mFir f s) := by
  intro p hp; cases p <;> first | exact absurd (by decide) hp | rfl

theorem mPort_keeps (p : Nat) (f : FirPort → FirPort) (s : State) : keepsBut [.fir] s (mPort p f s) := by
  unfold mPort
  try dsimp only
  repeat' (first
    | with_reducible exact keepsBut_refl _ _
    | (with_reducible show keepsBut _ _ (mFir _ _); with_reducible refine keepsBut_of ?_ (mFir_keeps _ _) (by decide))
    | with_reducible refine keepsBut_ite ?_ ?_
    | with_reducible refine keepsBut_doIf (fun _ => ?_) ?_
    | with_reducible refine keepsBut_each (fun _ _ => ?_) ?_
    | dsimp only [id]
    | split)

theorem mStg_keeps (f : StgState → StgState) (s : State) : keepsBut [.stg] s (mStg f s) := by
  intro p hp; cases p <;> first | exact absurd (by decide) hp | rfl

theorem mNzl_keeps (f : NzlState → NzlState) (s : State) : keepsBut [.nzl] s (mNzl f s) := by
  intro p hp; cases p <;> first | exact absurd (by decide) hp | rfl

theorem mGat_keeps (g : Nat) (f : GateState → GateState) (s : State) : keepsBut [.gat] s (mGat g f s) := by
  intro p hp; cases p <;> first | exact absurd (by decide) hp | rfl

theorem mGul_keeps (f : GulState → GulState) (s : State) : keepsBut [.gul] s (mGul f s) := by
  intro p hp; cases p <;> first | exact absurd (by decide) hp | rfl

theorem mHead_keeps (p : Nat) (f : GulPort → GulPort) (s : State) : keepsBut [.gul] s (mHead p f s) := by
  unfold mHead
  try dsimp only
  repeat' (first
    | with_reducible exact keepsBut_refl _ _
    | (with_reducible show keepsBut _ _ (mGul _ _); with_reducible refine keepsBut_of ?_ (mGul_keeps _ _) (by decide))
    | with_reducible refine keepsBut_ite ?_ ?_
    | with_reducible refine keepsBut_doIf (fun _ => ?_) ?_
    | with_reducible refine keepsBut_each (fun _ _ => ?_) ?_
    | dsimp only [id]
    | split)

theorem mCtx_keeps (c : Nat) (f : CamCtx → CamCtx) (s : State) : keepsBut [.insp] s (mCtx c f s) := by
  intro p hp; cases p <;> first | exact absurd (by decide) hp | rfl

theorem mCam_keeps (p : Nat) (f : CamPort → CamPort) (s : State) : keepsBut [.insp] s (mCam p f s) := by
  intro p hp; cases p <;> first | exact absurd (by decide) hp | rfl

theorem mMem_keeps (f : MemState → MemState) (s : State) : keepsBut [.mem] s (mMem f s) := by
  intro p hp; cases p <;> first | exact absurd (by decide) hp | rfl

theorem mChan_keeps (c : Nat) (f : MemChan → MemChan) (s : State) : keepsBut [.mem] s (mChan c f s) := by
  unfold mChan
  try dsimp only
  repeat' (first
    | with_reducible exact keepsBut_refl _ _
    | (with_reducible show keepsBut _ _ (mMem _ _); with_reducible refine keepsBut_of ?_ (mMem_keeps _ _) (by decide))
    | with_reducible refine keepsBut_ite ?_ ?_
    | with_reducible refine keepsBut_doIf (fun _ => ?_) ?_
    | with_reducible refine keepsBut_each (fun _ _ => ?_) ?_
    | dsimp only [id]
    | split)

theorem mBank_keeps (b : Nat) (f : BankSt → BankSt) (s : State) : keepsBut [.mem] s (mBank b f s) := by
  unfold mBank
  try dsimp only
  repeat' (first
    | with_reducible exact keepsBut_refl _ _
    | (with_reducible show keepsBut _ _ (mMem _ _); with_reducible refine keepsBut_of ?_ (mMem_keeps _ _) (by decide))
    | with_reducible refine keepsBut_ite ?_ ?_
    | with_reducible refine keepsBut_doIf (fun _ => ?_) ?_
    | with_reducible refine keepsBut_each (fun _ _ => ?_) ?_
    | dsimp only [id]
    | split)

theorem mArb_keeps (i : Nat) (f : Arb → Arb) (s : State) : keepsBut [.mem] s (mArb i f s) := by
  unfold mArb
  try dsimp only
  repeat' (first
    | with_reducible exact keepsBut_refl _ _
    | (with_reducible show keepsBut _ _ (mMem _ _); with_reducible refine keepsBut_of ?_ (mMem_keeps _ _) (by decide))
    | with_reducible refine keepsBut_ite ?_ ?_
    | with_reducible refine keepsBut_doIf (fun _ => ?_) ?_
    | with_reducible refine keepsBut_each (fun _ _ => ?_) ?_
    | dsimp only [id]
    | split)

theorem mAxs_keeps (a : Nat) (f : AxisState → AxisState) (s : State) : keepsBut [.axs] s (mAxs a f s) := by
  intro p hp; cases p <;> first | exact absurd (by decide) hp | rfl

theorem mLmp_keeps (f : LampState → LampState) (s : State) : keepsBut [.lmp] s (mLmp f s) := by
  intro p hp; cases p <;> first | exact absurd (by decide) hp | rfl

theorem mPar_keeps (f : ParState → ParState) (s : State) : keepsBut [.par] s (mPar f s) := by
  intro p hp; cases p <;> first | exact absurd (by decide) hp | rfl

theorem mCal_keeps (f : CalState → CalState) (s : State) : keepsBut [.cal] s (mCal f s) := by
  intro p hp; cases p <;> first | exact absurd (by decide) hp | rfl

theorem mCap_keeps (f : CapState → CapState) (s : State) : keepsBut [.cap] s (mCap f s) := by
  intro p hp; cases p <;> first | exact absurd (by decide) hp | rfl

theorem arbDropped_keeps (s : State) : keepsBut [.mem] s (arbDropped s) := by
  unfold arbDropped
  try dsimp only
  repeat' (first
    | with_reducible exact keepsBut_refl _ _
    | (with_reducible show keepsBut _ _ (mArb _ _ _); with_reducible refine keepsBut_of ?_ (mArb_keeps _ _ _) (by decide))
    | with_reducible refine keepsBut_ite ?_ ?_
    | with_reducible refine keepsBut_doIf (fun _ => ?_) ?_
    | with_reducible refine keepsBut_each (fun _ _ => ?_) ?_
    | dsimp only [id]
    | split)

theorem emit_keeps (o : Output) (s : State) : keepsBut [] s (emit o s) := by
  intro p hp; cases p <;> first | exact absurd (by decide) hp | rfl

theorem setReg_keeps (a : Nat) (v : Word) (s : State) : keepsBut [.regs] s (setReg a v s) := by
  intro p hp; cases p <;> first | exact absurd (by decide) hp | rfl

theorem setAct_keeps (a : Nat) (v : Word) (s : State) : keepsBut [.act] s (setAct a v s) := by
  intro p hp; cases p <;> first | exact absurd (by decide) hp | rfl

theorem raise_keeps (cls : ErrClass) (code : Nat) (args : List Nat) (s : State) : keepsBut [.err] s (raise cls code args s) := by
  unfold raise
  try dsimp only
  repeat' (first
    | with_reducible exact keepsBut_refl _ _
    | (with_reducible show keepsBut _ _ (mErr _ _); with_reducible refine keepsBut_of ?_ (mErr_keeps _ _) (by decide))
    | with_reducible refine keepsBut_ite ?_ ?_
    | with_reducible refine keepsBut_doIf (fun _ => ?_) ?_
    | with_reducible refine keepsBut_each (fun _ _ => ?_) ?_
    | dsimp only [id]
    | split)

theorem notice_keeps (code : Nat) (args : List Nat) (s : State) : keepsBut [.err] s (notice code args s) := by
  unfold notice
  try dsimp only
  repeat' (first
    | with_reducible exact keepsBut_refl _ _
    | (with_reducible show keepsBut _ _ (raise _ _ _ _); with_reducible refine keepsBut_of ?_ (raise_keeps _ _ _ _) (by decide))
    | with_reducible refine keepsBut_ite ?_ ?_
    | with_reducible refine keepsBut_doIf (fun _ => ?_) ?_
    | with_reducible refine keepsBut_each (fun _ _ => ?_) ?_
    | dsimp only [id]
    | split)

theorem faultErr_keeps (code : Nat) (args : List Nat) (s : State) : keepsBut [.err] s (faultErr code args s) := by
  unfold faultErr
  try dsimp only
  repeat' (first
    | with_reducible exact keepsBut_refl _ _
    | (with_reducible show keepsBut _ _ (raise _ _ _ _); with_reducible refine keepsBut_of ?_ (raise_keeps _ _ _ _) (by decide))
    | with_reducible refine keepsBut_ite ?_ ?_
    | with_reducible refine keepsBut_doIf (fun _ => ?_) ?_
    | with_reducible refine keepsBut_each (fun _ _ => ?_) ?_
    | dsimp only [id]
    | split)

theorem suppress_keeps (code : Nat) (s : State) : keepsBut [.err] s (suppress code s) := by
  unfold suppress
  try dsimp only
  repeat' (first
    | with_reducible exact keepsBut_refl _ _
    | (with_reducible show keepsBut _ _ (mErr _ _); with_reducible refine keepsBut_of ?_ (mErr_keeps _ _) (by decide))
    | with_reducible refine keepsBut_ite ?_ ?_
    | with_reducible refine keepsBut_doIf (fun _ => ?_) ?_
    | with_reducible refine keepsBut_each (fun _ _ => ?_) ?_
    | dsimp only [id]
    | split)

theorem markLogged_keeps (code key : Nat) (s : State) : keepsBut [.err] s (markLogged code key s) := by
  unfold markLogged
  try dsimp only
  repeat' (first
    | with_reducible exact keepsBut_refl _ _
    | (with_reducible show keepsBut _ _ (mErr _ _); with_reducible refine keepsBut_of ?_ (mErr_keeps _ _) (by decide))
    | with_reducible refine keepsBut_ite ?_ ?_
    | with_reducible refine keepsBut_doIf (fun _ => ?_) ?_
    | with_reducible refine keepsBut_each (fun _ _ => ?_) ?_
    | dsimp only [id]
    | split)

theorem raiseLim_keeps (cls : ErrClass) (code key per : Nat) (args : List Nat) (s : State) : keepsBut [.err] s (raiseLim cls code key per args s) := by
  unfold raiseLim
  try dsimp only
  repeat' (first
    | with_reducible exact keepsBut_refl _ _
    | (with_reducible show keepsBut _ _ (raise _ _ _ _); with_reducible refine keepsBut_of ?_ (raise_keeps _ _ _ _) (by decide))
    | (with_reducible show keepsBut _ _ (suppress _ _); with_reducible refine keepsBut_of ?_ (suppress_keeps _ _) (by decide))
    | (with_reducible show keepsBut _ _ (markLogged _ _ _); with_reducible refine keepsBut_of ?_ (markLogged_keeps _ _ _) (by decide))
    | with_reducible refine keepsBut_ite ?_ ?_
    | with_reducible refine keepsBut_doIf (fun _ => ?_) ?_
    | with_reducible refine keepsBut_each (fun _ _ => ?_) ?_
    | dsimp only [id]
    | split)

theorem tickFree_keeps (s : State) : keepsBut [.free] s (tickFree s) := by
  intro p hp; cases p <;> first | exact absurd (by decide) hp | rfl

theorem bankPut_keeps (b o : Nat) (d : Bytes) (s : State) : keepsBut [.mem] s (bankPut b o d s) := by
  unfold bankPut
  try dsimp only
  repeat' (first
    | with_reducible exact keepsBut_refl _ _
    | (with_reducible show keepsBut _ _ (mBank _ _ _); with_reducible refine keepsBut_of ?_ (mBank_keeps _ _ _) (by decide))
    | with_reducible refine keepsBut_ite ?_ ?_
    | with_reducible refine keepsBut_doIf (fun _ => ?_) ?_
    | with_reducible refine keepsBut_each (fun _ _ => ?_) ?_
    | dsimp only [id]
    | split)

/-! Machine/Report.lean -/

theorem subRecord_keeps (kind : Nat) (data : Bytes) (s : State) : keepsBut [.mgt] s (subRecord kind data s) := by
  unfold subRecord
  try dsimp only
  repeat' (first
    | with_reducible exact keepsBut_refl _ _
    | (with_reducible show keepsBut _ _ (mMgt _ _); with_reducible refine keepsBut_of ?_ (mMgt_keeps _ _) (by decide))
    | with_reducible refine keepsBut_ite ?_ ?_
    | with_reducible refine keepsBut_doIf (fun _ => ?_) ?_
    | with_reducible refine keepsBut_each (fun _ _ => ?_) ?_
    | dsimp only [id]
    | split)

theorem setDev_keeps (n : DevState) (s : State) : keepsBut [.sys, .mgt] s (setDev n s) := by
  unfold setDev
  try dsimp only
  repeat' (first
    | with_reducible exact keepsBut_refl _ _
    | (with_reducible show keepsBut _ _ (mSys _ _); with_reducible refine keepsBut_of ?_ (mSys_keeps _ _) (by decide))
    | (with_reducible show keepsBut _ _ (subRecord _ _ _); with_reducible refine keepsBut_of ?_ (subRecord_keeps _ _ _) (by decide))
    | with_reducible refine keepsBut_ite ?_ ?_
    | with_reducible refine keepsBut_doIf (fun _ => ?_) ?_
    | with_reducible refine keepsBut_each (fun _ _ => ?_) ?_
    | dsimp only [id]
    | split)

theorem hitchRelease_keeps (s : State) : keepsBut [.par] s (hitchRelease s) := by
  unfold hitchRelease
  try dsimp only
  repeat' (first
    | with_reducible exact keepsBut_refl _ _
    | (with_reducible show keepsBut _ _ (mPar _ _); with_reducible refine keepsBut_of ?_ (mPar_keeps _ _) (by decide))
    | (with_reducible show keepsBut _ _ (emit _ _); with_reducible refine keepsBut_of ?_ (emit_keeps _ _) (by decide))
    | with_reducible refine keepsBut_ite ?_ ?_
    | with_reducible refine keepsBut_doIf (fun _ => ?_) ?_
    | with_reducible refine keepsBut_each (fun _ _ => ?_) ?_
    | dsimp only [id]
    | split)

theorem hitchAssert_keeps (s : State) : keepsBut [.par] s (hitchAssert s) := by
  unfold hitchAssert
  try dsimp only
  repeat' (first
    | with_reducible exact keepsBut_refl _ _
    | (with_reducible show keepsBut _ _ (mPar _ _); with_reducible refine keepsBut_of ?_ (mPar_keeps _ _) (by decide))
    | (with_reducible show keepsBut _ _ (emit _ _); with_reducible refine keepsBut_of ?_ (emit_keeps _ _) (by decide))
    | with_reducible refine keepsBut_ite ?_ ?_
    | with_reducible refine keepsBut_doIf (fun _ => ?_) ?_
    | with_reducible refine keepsBut_each (fun _ _ => ?_) ?_
    | dsimp only [id]
    | split)

theorem lampsOff_keeps (s : State) : keepsBut [.lmp] s (lampsOff s) := by
  unfold lampsOff
  try dsimp only
  repeat' (first
    | with_reducible exact keepsBut_refl _ _
    | (with_reducible show keepsBut _ _ (mLmp _ _); with_reducible refine keepsBut_of ?_ (mLmp_keeps _ _) (by decide))
    | (with_reducible show keepsBut _ _ (emit _ _); with_reducible refine keepsBut_of ?_ (emit_keeps _ _) (by decide))
    | with_reducible refine keepsBut_ite ?_ ?_
    | with_reducible refine keepsBut_doIf (fun _ => ?_) ?_
    | with_reducible refine keepsBut_each (fun _ _ => ?_) ?_
    | dsimp only [id]
    | split)

theorem adviceOff_keeps (s : State) : keepsBut [.par] s (adviceOff s) := by
  unfold adviceOff
  try dsimp only
  repeat' (first
    | with_reducible exact keepsBut_refl _ _
    | (with_reducible show keepsBut _ _ (emit _ _); with_reducible refine keepsBut_of ?_ (emit_keeps _ _) (by decide))
    | (with_reducible show keepsBut _ _ (mPar _ _); with_reducible refine keepsBut_of ?_ (mPar_keeps _ _) (by decide))
    | with_reducible refine keepsBut_ite ?_ ?_
    | with_reducible refine keepsBut_doIf (fun _ => ?_) ?_
    | with_reducible refine keepsBut_each (fun _ _ => ?_) ?_
    | dsimp only [id]
    | split)

theorem enterFaulted_keeps (s : State) : keepsBut [.sys, .mgt, .gat, .axs, .lmp, .par, .cal] s (enterFaulted s) := by
  unfold enterFaulted
  split
  · exact keepsBut_refl _ _
  · have h : keepsBut [.sys, .mgt, .gat, .axs, .lmp, .par, .cal] s (hitchRelease (setDev .faulted (adviceOff (lampsOff s)))) := by
      refine keepsBut_of ?_ (hitchRelease_keeps _) (by decide)
      refine keepsBut_of ?_ (setDev_keeps _ _) (by decide)
      refine keepsBut_of ?_ (adviceOff_keeps _) (by decide)
      exact keepsBut_of (keepsBut_refl _ _) (lampsOff_keeps _) (by decide)
    exact keepsBut_of h (qs := [.gat, .axs, .cal, .par])
      (by intro p hp; cases p <;> first | exact absurd (by decide) hp | rfl) (by decide)

theorem enterStopped_keeps (s : State) : keepsBut [.sys, .mgt, .fir, .par] s (enterStopped s) := by
  unfold enterStopped
  try dsimp only
  repeat' (first
    | with_reducible exact keepsBut_refl _ _
    | (with_reducible show keepsBut _ _ (mFir _ _); with_reducible refine keepsBut_of ?_ (mFir_keeps _ _) (by decide))
    | (with_reducible show keepsBut _ _ (mPar _ _); with_reducible refine keepsBut_of ?_ (mPar_keeps _ _) (by decide))
    | (with_reducible show keepsBut _ _ (setDev _ _); with_reducible refine keepsBut_of ?_ (setDev_keeps _ _) (by decide))
    | with_reducible refine keepsBut_ite ?_ ?_
    | with_reducible refine keepsBut_doIf (fun _ => ?_) ?_
    | with_reducible refine keepsBut_each (fun _ _ => ?_) ?_
    | dsimp only [id]
    | split)

theorem logOne_keeps (x : ErrEv) (s : State) : keepsBut [.sys, .err, .mgt, .fir, .gat, .axs, .lmp, .par, .cal] s (logOne x s) := by
  unfold logOne
  try dsimp only
  repeat' (first
    | with_reducible exact keepsBut_refl _ _
    | (with_reducible show keepsBut _ _ (mErr _ _); with_reducible refine keepsBut_of ?_ (mErr_keeps _ _) (by decide))
    | (with_reducible show keepsBut _ _ (subRecord _ _ _); with_reducible refine keepsBut_of ?_ (subRecord_keeps _ _ _) (by decide))
    | (with_reducible show keepsBut _ _ (enterFaulted _); with_reducible refine keepsBut_of ?_ (enterFaulted_keeps _) (by decide))
    | (with_reducible show keepsBut _ _ (enterStopped _); with_reducible refine keepsBut_of ?_ (enterStopped_keeps _) (by decide))
    | with_reducible refine keepsBut_ite ?_ ?_
    | with_reducible refine keepsBut_doIf (fun _ => ?_) ?_
    | with_reducible refine keepsBut_each (fun _ _ => ?_) ?_
    | dsimp only [id]
    | split)

theorem flush_keeps (s : State) : keepsBut [.sys, .err, .mgt, .fir, .gat, .axs, .lmp, .par, .cal] s (flush s) := by
  unfold flush
  try dsimp only
  repeat' (first
    | with_reducible exact keepsBut_refl _ _
    | (with_reducible show keepsBut _ _ (mErr _ _); with_reducible refine keepsBut_of ?_ (mErr_keeps _ _) (by decide))
    | (with_reducible show keepsBut _ _ (logOne _ _); with_reducible refine keepsBut_of ?_ (logOne_keeps _ _) (by decide))
    | with_reducible refine keepsBut_ite ?_ ?_
    | with_reducible refine keepsBut_doIf (fun _ => ?_) ?_
    | with_reducible refine keepsBut_each (fun _ _ => ?_) ?_
    | dsimp only [id]
    | split)

theorem endFault_keeps (code : Nat) (p : List Nat → Bool) (s : State) : keepsBut [.err] s (endFault code p s) := by
  unfold endFault
  try dsimp only
  repeat' (first
    | with_reducible exact keepsBut_refl _ _
    | (with_reducible show keepsBut _ _ (mErr _ _); with_reducible refine keepsBut_of ?_ (mErr_keeps _ _) (by decide))
    | with_reducible refine keepsBut_ite ?_ ?_
    | with_reducible refine keepsBut_doIf (fun _ => ?_) ?_
    | with_reducible refine keepsBut_each (fun _ _ => ?_) ?_
    | dsimp only [id]
    | split)

theorem closeCmd_keeps (s t : State) : keepsBut [.sys, .err, .cfg, .mgt, .fir, .gat, .axs, .lmp, .par, .cal] t (closeCmd s t) := by
  have h : keepsBut [.cfg] (flush t) (closeCmd s t) := by
    intro p hp; cases p <;> first | exact absurd (by decide) hp | rfl
  exact keepsBut_of (keepsBut_of (keepsBut_refl _ _) (flush_keeps t) (by decide)) h (by decide)

/-! Machine/Send.lean -/

theorem countTx_keeps (np : Nat) (s : State) : keepsBut [.net] s (countTx np s) := by
  unfold countTx
  try dsimp only
  repeat' (first
    | with_reducible exact keepsBut_refl _ _
    | (with_reducible show keepsBut _ _ (mNet _ _ _); with_reducible refine keepsBut_of ?_ (mNet_keeps _ _ _) (by decide))
    | with_reducible refine keepsBut_ite ?_ ?_
    | with_reducible refine keepsBut_doIf (fun _ => ?_) ?_
    | with_reducible refine keepsBut_each (fun _ _ => ?_) ?_
    | dsimp only [id]
    | split)

theorem frameDrop_keeps (np : Nat) (why : NetDrop) (s : State) : keepsBut [.net] s (frameDrop np why s) := by
  unfold frameDrop
  try dsimp only
  repeat' (first
    | with_reducible exact keepsBut_refl _ _
    | (with_reducible show keepsBut _ _ (mNet _ _ _); with_reducible refine keepsBut_of ?_ (mNet_keeps _ _ _) (by decide))
    | with_reducible refine keepsBut_ite ?_ ?_
    | with_reducible refine keepsBut_doIf (fun _ => ?_) ?_
    | with_reducible refine keepsBut_each (fun _ _ => ?_) ?_
    | dsimp only [id]
    | split)

theorem rxFrame_keeps {qs : List Part} {f : State → State} (hq : ∀ p ∈ ([.net] : List Part), p ∈ qs) (h_f : ∀ u, keepsBut qs u (f u)) (rx : Arrival) (s : State) : keepsBut qs s (rxFrame rx f s) := by
  unfold rxFrame
  try dsimp only
  repeat' (first
    | with_reducible exact keepsBut_refl _ _
    | (with_reducible show keepsBut _ _ (frameDrop _ _ _); with_reducible refine keepsBut_of ?_ (frameDrop_keeps _ _ _) (fun p m => hq p ((by decide : ∀ p ∈ _, p ∈ ([.net] : List Part)) p m)))
    | (with_reducible show keepsBut _ _ (mNet _ _ _); with_reducible refine keepsBut_of ?_ (mNet_keeps _ _ _) (fun p m => hq p ((by decide : ∀ p ∈ _, p ∈ ([.net] : List Part)) p m)))
    | (with_reducible show keepsBut _ _ (f _); with_reducible refine keepsBut_of ?_ (h_f _) (fun _ m => m))
    | with_reducible refine keepsBut_ite ?_ ?_
    | with_reducible refine keepsBut_doIf (fun _ => ?_) ?_
    | with_reducible refine keepsBut_each (fun _ _ => ?_) ?_
    | dsimp only [id]
    | split)

theorem sendOn_keeps (v : Via) (pcp : Nat) (dst : Session) (src : Nat) (d : Bytes) (s : State) : keepsBut [.net] s (sendOn v pcp dst src d s) := by
  unfold sendOn
  try dsimp only
  repeat' (first
    | with_reducible exact keepsBut_refl _ _
    | (with_reducible show keepsBut _ _ (emit _ _); with_reducible refine keepsBut_of ?_ (emit_keeps _ _) (by decide))
    | (with_reducible show keepsBut _ _ (countTx _ _); with_reducible refine keepsBut_of ?_ (countTx_keeps _ _) (by decide))
    | with_reducible refine keepsBut_ite ?_ ?_
    | with_reducible refine keepsBut_doIf (fun _ => ?_) ?_
    | with_reducible refine keepsBut_each (fun _ _ => ?_) ?_
    | dsimp only [id]
    | split)

theorem sendSolicit_keeps (np : Nat) (v6 : Bool) (ip : BitVec 128) (s : State) : keepsBut [.net] s (sendSolicit np v6 ip s) := by
  unfold sendSolicit
  try dsimp only
  repeat' (first
    | with_reducible exact keepsBut_refl _ _
    | (with_reducible show keepsBut _ _ (emit _ _); with_reducible refine keepsBut_of ?_ (emit_keeps _ _) (by decide))
    | (with_reducible show keepsBut _ _ (countTx _ _); with_reducible refine keepsBut_of ?_ (countTx_keeps _ _) (by decide))
    | with_reducible refine keepsBut_ite ?_ ?_
    | with_reducible refine keepsBut_doIf (fun _ => ?_) ?_
    | with_reducible refine keepsBut_each (fun _ _ => ?_) ?_
    | dsimp only [id]
    | split)

theorem sendVia_keeps (np pcp : Nat) (dst : Session) (src : Nat) (d : Bytes) (s : State) : keepsBut [.net] s (sendVia np pcp dst src d s) := by
  unfold sendVia
  try dsimp only
  repeat' (first
    | with_reducible exact keepsBut_refl _ _
    | (with_reducible show keepsBut _ _ (sendOn _ _ _ _ _ _); with_reducible refine keepsBut_of ?_ (sendOn_keeps _ _ _ _ _ _) (by decide))
    | (with_reducible show keepsBut _ _ (mNet _ _ _); with_reducible refine keepsBut_of ?_ (mNet_keeps _ _ _) (by decide))
    | (with_reducible show keepsBut _ _ (sendSolicit _ _ _ _); with_reducible refine keepsBut_of ?_ (sendSolicit_keeps _ _ _ _) (by decide))
    | with_reducible refine keepsBut_ite ?_ ?_
    | with_reducible refine keepsBut_doIf (fun _ => ?_) ?_
    | with_reducible refine keepsBut_each (fun _ _ => ?_) ?_
    | dsimp only [id]
    | split)

theorem sendUnprompted_keeps (pcp : Nat) (dst : Session) (src : Nat) (d : Bytes) (s : State) : keepsBut [.net] s (sendUnprompted pcp dst src d s) := by
  unfold sendUnprompted
  try dsimp only
  repeat' (first
    | with_reducible exact keepsBut_refl _ _
    | (with_reducible show keepsBut _ _ (sendVia _ _ _ _ _ _); with_reducible refine keepsBut_of ?_ (sendVia_keeps _ _ _ _ _ _) (by decide))
    | with_reducible refine keepsBut_ite ?_ ?_
    | with_reducible refine keepsBut_doIf (fun _ => ?_) ?_
    | with_reducible refine keepsBut_each (fun _ _ => ?_) ?_
    | dsimp only [id]
    | split)

/-! Machine/LayerOps.lean -/

theorem mLayer_keeps (id : Nat) (f : Layer → Layer) (s : State) : keepsBut [.tow] s (mLayer id f s) := by
  unfold mLayer
  try dsimp only
  repeat' (first
    | with_reducible exact keepsBut_refl _ _
    | (with_reducible show keepsBut _ _ (mTow _ _); with_reducible refine keepsBut_of ?_ (mTow_keeps _ _) (by decide))
    | with_reducible refine keepsBut_ite ?_ ?_
    | with_reducible refine keepsBut_doIf (fun _ => ?_) ?_
    | with_reducible refine keepsBut_each (fun _ _ => ?_) ?_
    | dsimp only [id]
    | split)

theorem dirPut_keeps (e : Nat) (what : Option (Nat × Nat × Nat × Bool)) (s : State) : keepsBut [.mem] s (dirPut e what s) := by
  unfold dirPut
  try dsimp only
  repeat' (first
    | with_reducible exact keepsBut_refl _ _
    | (with_reducible show keepsBut _ _ (bankPut _ _ _ _); with_reducible refine keepsBut_of ?_ (bankPut_keeps _ _ _ _) (by decide))
    | with_reducible refine keepsBut_ite ?_ ?_
    | with_reducible refine keepsBut_doIf (fun _ => ?_) ?_
    | with_reducible refine keepsBut_each (fun _ _ => ?_) ?_
    | dsimp only [id]
    | split)

theorem dirLayer_keeps (l : Layer) (free : Bool) (s : State) : keepsBut [.mem] s (dirLayer l free s) := by
  unfold dirLayer
  try dsimp only
  repeat' (first
    | with_reducible exact keepsBut_refl _ _
    | (with_reducible show keepsBut _ _ (dirPut _ _ _); with_reducible refine keepsBut_of ?_ (dirPut_keeps _ _ _) (by decide))
    | with_reducible refine keepsBut_ite ?_ ?_
    | with_reducible refine keepsBut_doIf (fun _ => ?_) ?_
    | with_reducible refine keepsBut_each (fun _ _ => ?_) ?_
    | dsimp only [id]
    | split)

theorem dramPut_keeps (c ca : Nat) (b : Byte) (s : State) : keepsBut [.mem] s (dramPut c ca b s) := by
  unfold dramPut
  try dsimp only
  repeat' (first
    | with_reducible exact keepsBut_refl _ _
    | (with_reducible show keepsBut _ _ (mChan _ _ _); with_reducible refine keepsBut_of ?_ (mChan_keeps _ _ _) (by decide))
    | with_reducible refine keepsBut_ite ?_ ?_
    | with_reducible refine keepsBut_doIf (fun _ => ?_) ?_
    | with_reducible refine keepsBut_each (fun _ _ => ?_) ?_
    | dsimp only [id]
    | split)

theorem sendTow_keeps (np : Option Via) (ss : Session) (d : Bytes) (s : State) : keepsBut [.net] s (sendTow np ss d s) := by
  unfold sendTow
  try dsimp only
  repeat' (first
    | with_reducible exact keepsBut_refl _ _
    | (with_reducible show keepsBut _ _ (sendOn _ _ _ _ _ _); with_reducible refine keepsBut_of ?_ (sendOn_keeps _ _ _ _ _ _) (by decide))
    | (with_reducible show keepsBut _ _ (sendUnprompted _ _ _ _ _); with_reducible refine keepsBut_of ?_ (sendUnprompted_keeps _ _ _ _ _) (by decide))
    | with_reducible refine keepsBut_ite ?_ ?_
    | with_reducible refine keepsBut_doIf (fun _ => ?_) ?_
    | with_reducible refine keepsBut_each (fun _ _ => ?_) ?_
    | dsimp only [id]
    | split)

theorem sendAck_keeps (np : Option Via) (ss : Session) (id : Nat) (s : State) : keepsBut [.net, .tow] s (sendAck np ss id s) := by
  unfold sendAck
  try dsimp only
  repeat' (first
    | with_reducible exact keepsBut_refl _ _
    | (with_reducible show keepsBut _ _ (mLayer _ _ _); with_reducible refine keepsBut_of ?_ (mLayer_keeps _ _ _) (by decide))
    | (with_reducible show keepsBut _ _ (sendTow _ _ _ _); with_reducible refine keepsBut_of ?_ (sendTow_keeps _ _ _ _) (by decide))
    | with_reducible refine keepsBut_ite ?_ ?_
    | with_reducible refine keepsBut_doIf (fun _ => ?_) ?_
    | with_reducible refine keepsBut_each (fun _ _ => ?_) ?_
    | dsimp only [id]
    | split)

theorem creditWatch_keeps (s : State) : keepsBut [.net, .tow] s (creditWatch s) := by
  unfold creditWatch
  try dsimp only
  repeat' (first
    | with_reducible exact keepsBut_refl _ _
    | (with_reducible show keepsBut _ _ (sendAck _ _ _ _); with_reducible refine keepsBut_of ?_ (sendAck_keeps _ _ _ _) (by decide))
    | with_reducible refine keepsBut_ite ?_ ?_
    | with_reducible refine keepsBut_doIf (fun _ => ?_) ?_
    | with_reducible refine keepsBut_each (fun _ _ => ?_) ?_
    | dsimp only [id]
    | split)

theorem sendNak_keeps (np : Option Via) (ss : Session) (layer : Nat) (a : NakArgs) (s : State) : keepsBut [.err, .net, .tow] s (sendNak np ss layer a s) := by
  unfold sendNak
  try dsimp only
  repeat' (first
    | with_reducible exact keepsBut_refl _ _
    | (with_reducible show keepsBut _ _ (mTow _ _); with_reducible refine keepsBut_of ?_ (mTow_keeps _ _) (by decide))
    | (with_reducible show keepsBut _ _ (sendTow _ _ _ _); with_reducible refine keepsBut_of ?_ (sendTow_keeps _ _ _ _) (by decide))
    | (with_reducible show keepsBut _ _ (raiseLim _ _ _ _ _ _); with_reducible refine keepsBut_of ?_ (raiseLim_keeps _ _ _ _ _ _) (by decide))
    | with_reducible refine keepsBut_ite ?_ ?_
    | with_reducible refine keepsBut_doIf (fun _ => ?_) ?_
    | with_reducible refine keepsBut_each (fun _ _ => ?_) ?_
    | dsimp only [id]
    | split)

theorem setLayerSt_keeps (id : Nat) (n : LState) (cause : Nat) (s : State) : keepsBut [.net, .mgt, .tow] s (setLayerSt id n cause s) := by
  unfold setLayerSt
  try dsimp only
  repeat' (first
    | with_reducible exact keepsBut_refl _ _
    | (with_reducible show keepsBut _ _ (subRecord _ _ _); with_reducible refine keepsBut_of ?_ (subRecord_keeps _ _ _) (by decide))
    | (with_reducible show keepsBut _ _ (mLayer _ _ _); with_reducible refine keepsBut_of ?_ (mLayer_keeps _ _ _) (by decide))
    | (with_reducible show keepsBut _ _ (sendTow _ _ _ _); with_reducible refine keepsBut_of ?_ (sendTow_keeps _ _ _ _) (by decide))
    | with_reducible refine keepsBut_ite ?_ ?_
    | with_reducible refine keepsBut_doIf (fun _ => ?_) ?_
    | with_reducible refine keepsBut_each (fun _ _ => ?_) ?_
    | dsimp only [id]
    | split)

theorem releaseLayer_keeps (id cause : Nat) (s : State) : keepsBut [.net, .mgt, .tow, .cmp, .fir, .mem] s (releaseLayer id cause s) := by
  unfold releaseLayer
  try dsimp only
  repeat' (first
    | with_reducible exact keepsBut_refl _ _
    | (with_reducible show keepsBut _ _ (mLayer _ _ _); with_reducible refine keepsBut_of ?_ (mLayer_keeps _ _ _) (by decide))
    | (with_reducible show keepsBut _ _ (dirLayer _ _ _); with_reducible refine keepsBut_of ?_ (dirLayer_keeps _ _ _) (by decide))
    | (with_reducible show keepsBut _ _ (setLayerSt _ _ _ _); with_reducible refine keepsBut_of ?_ (setLayerSt_keeps _ _ _ _) (by decide))
    | (with_reducible show keepsBut _ _ (arbDropped _); with_reducible refine keepsBut_of ?_ (arbDropped_keeps _) (by decide))
    | (with_reducible show keepsBut _ _ (mMem _ _); with_reducible refine keepsBut_of ?_ (mMem_keeps _ _) (by decide))
    | (with_reducible show keepsBut _ _ (mTow _ _); with_reducible refine keepsBut_of ?_ (mTow_keeps _ _) (by decide))
    | (with_reducible show keepsBut _ _ (mFir _ _); with_reducible refine keepsBut_of ?_ (mFir_keeps _ _) (by decide))
    | (with_reducible show keepsBut _ _ (mCmp _ _); with_reducible refine keepsBut_of ?_ (mCmp_keeps _ _) (by decide))
    | with_reducible refine keepsBut_ite ?_ ?_
    | with_reducible refine keepsBut_doIf (fun _ => ?_) ?_
    | with_reducible refine keepsBut_each (fun _ _ => ?_) ?_
    | dsimp only [id]
    | split)

theorem checkReady_keeps (s : State) : keepsBut [.sys, .mgt] s (checkReady s) := by
  unfold checkReady
  try dsimp only
  repeat' (first
    | with_reducible exact keepsBut_refl _ _
    | (with_reducible show keepsBut _ _ (setDev _ _); with_reducible refine keepsBut_of ?_ (setDev_keeps _ _) (by decide))
    | with_reducible refine keepsBut_ite ?_ ?_
    | with_reducible refine keepsBut_doIf (fun _ => ?_) ?_
    | with_reducible refine keepsBut_each (fun _ _ => ?_) ?_
    | dsimp only [id]
    | split)

/-! Machine/StrandOps.lean -/

theorem seekStrand_keeps (n id lt : Nat) (s : State) : keepsBut [.str] s (seekStrand n id lt s) := by
  unfold seekStrand
  try dsimp only
  repeat' (first
    | with_reducible exact keepsBut_refl _ _
    | (with_reducible show keepsBut _ _ (mStrand _ _ _); with_reducible refine keepsBut_of ?_ (mStrand_keeps _ _ _) (by decide))
    | with_reducible refine keepsBut_ite ?_ ?_
    | with_reducible refine keepsBut_doIf (fun _ => ?_) ?_
    | with_reducible refine keepsBut_each (fun _ _ => ?_) ?_
    | dsimp only [id]
    | split)

theorem enterStrand_keeps (n id : Nat) (s : State) : keepsBut [.str] s (enterStrand n id s) := by
  unfold enterStrand
  try dsimp only
  repeat' (first
    | with_reducible exact keepsBut_refl _ _
    | (with_reducible show keepsBut _ _ (seekStrand _ _ _ _); with_reducible refine keepsBut_of ?_ (seekStrand_keeps _ _ _ _) (by decide))
    | with_reducible refine keepsBut_ite ?_ ?_
    | with_reducible refine keepsBut_doIf (fun _ => ?_) ?_
    | with_reducible refine keepsBut_each (fun _ _ => ?_) ?_
    | dsimp only [id]
    | split)

theorem panicUnits_keeps (reqs : List FetchReq) (on : Bool) (s : State) : keepsBut [.mem] s (panicUnits reqs on s) := by
  unfold panicUnits
  try dsimp only
  repeat' (first
    | with_reducible exact keepsBut_refl _ _
    | (with_reducible show keepsBut _ _ (mMem _ _); with_reducible refine keepsBut_of ?_ (mMem_keeps _ _) (by decide))
    | with_reducible refine keepsBut_ite ?_ ?_
    | with_reducible refine keepsBut_doIf (fun _ => ?_) ?_
    | with_reducible refine keepsBut_each (fun _ _ => ?_) ?_
    | dsimp only [id]
    | split)

theorem panicUpdate_keeps (n : Nat) (s : State) : keepsBut [.str, .mem] s (panicUpdate n s) := by
  unfold panicUpdate
  try dsimp only
  repeat' (first
    | with_reducible exact keepsBut_refl _ _
    | (with_reducible show keepsBut _ _ (mStr _ _); with_reducible refine keepsBut_of ?_ (mStr_keeps _ _) (by decide))
    | (with_reducible show keepsBut _ _ (panicUnits _ _ _); with_reducible refine keepsBut_of ?_ (panicUnits_keeps _ _ _) (by decide))
    | (with_reducible show keepsBut _ _ (mStrand _ _ _); with_reducible refine keepsBut_of ?_ (mStrand_keeps _ _ _) (by decide))
    | with_reducible refine keepsBut_ite ?_ ?_
    | with_reducible refine keepsBut_doIf (fun _ => ?_) ?_
    | with_reducible refine keepsBut_each (fun _ _ => ?_) ?_
    | dsimp only [id]
    | split)

theorem seekAhead_keeps (n : Nat) (x : Layer) (lt : Nat) (s : State) : keepsBut [.str] s (seekAhead n x lt s) := by
  unfold seekAhead
  try dsimp only
  repeat' (first
    | with_reducible exact keepsBut_refl _ _
    | (with_reducible show keepsBut _ _ (mStr _ _); with_reducible refine keepsBut_of ?_ (mStr_keeps _ _) (by decide))
    | (with_reducible show keepsBut _ _ (mStrand _ _ _); with_reducible refine keepsBut_of ?_ (mStrand_keeps _ _ _) (by decide))
    | with_reducible refine keepsBut_ite ?_ ?_
    | with_reducible refine keepsBut_doIf (fun _ => ?_) ?_
    | with_reducible refine keepsBut_each (fun _ _ => ?_) ?_
    | dsimp only [id]
    | split)

theorem strandAhead_keeps (n : Nat) (s : State) : keepsBut [.str] s (strandAhead n s) := by
  unfold strandAhead
  try dsimp only
  repeat' (first
    | with_reducible exact keepsBut_refl _ _
    | (with_reducible show keepsBut _ _ (mStrand _ _ _); with_reducible refine keepsBut_of ?_ (mStrand_keeps _ _ _) (by decide))
    | (with_reducible show keepsBut _ _ (seekAhead _ _ _ _); with_reducible refine keepsBut_of ?_ (seekAhead_keeps _ _ _ _) (by decide))
    | with_reducible refine keepsBut_ite ?_ ?_
    | with_reducible refine keepsBut_doIf (fun _ => ?_) ?_
    | with_reducible refine keepsBut_each (fun _ _ => ?_) ?_
    | dsimp only [id]
    | split)

theorem strandSync_keeps (s : State) : keepsBut [.str] s (strandSync s) := by
  unfold strandSync
  try dsimp only
  repeat' (first
    | with_reducible exact keepsBut_refl _ _
    | (with_reducible show keepsBut _ _ (mStrand _ _ _); with_reducible refine keepsBut_of ?_ (mStrand_keeps _ _ _) (by decide))
    | (with_reducible show keepsBut _ _ (enterStrand _ _ _); with_reducible refine keepsBut_of ?_ (enterStrand_keeps _ _ _) (by decide))
    | (with_reducible show keepsBut _ _ (strandAhead _ _); with_reducible refine keepsBut_of ?_ (strandAhead_keeps _ _) (by decide))
    | with_reducible refine keepsBut_ite ?_ ?_
    | with_reducible refine keepsBut_doIf (fun _ => ?_) ?_
    | with_reducible refine keepsBut_each (fun _ _ => ?_) ?_
    | dsimp only [id]
    | split)

theorem logDecode_keeps (l : Layer) (sidx b code e off : Nat) (s : State) : keepsBut [.err, .cmp] s (logDecode l sidx b code e off s) := by
  unfold logDecode
  try dsimp only
  repeat' (first
    | with_reducible exact keepsBut_refl _ _
    | (with_reducible show keepsBut _ _ (mCmp _ _); with_reducible refine keepsBut_of ?_ (mCmp_keeps _ _) (by decide))
    | (with_reducible show keepsBut _ _ (raise _ _ _ _); with_reducible refine keepsBut_of ?_ (raise_keeps _ _ _ _) (by decide))
    | with_reducible refine keepsBut_ite ?_ ?_
    | with_reducible refine keepsBut_doIf (fun _ => ?_) ?_
    | with_reducible refine keepsBut_each (fun _ _ => ?_) ?_
    | dsimp only [id]
    | split)

theorem putLine_keeps (n : Nat) (l : Layer) (width line : Nat) (codes : List Nat) (s : State) : keepsBut [.str] s (putLine n l width line codes s) := by
  unfold putLine
  try dsimp only
  repeat' (first
    | with_reducible exact keepsBut_refl _ _
    | (with_reducible show keepsBut _ _ (mStr _ _); with_reducible refine keepsBut_of ?_ (mStr_keeps _ _) (by decide))
    | (with_reducible show keepsBut _ _ (mStrand _ _ _); with_reducible refine keepsBut_of ?_ (mStrand_keeps _ _ _) (by decide))
    | with_reducible refine keepsBut_ite ?_ ?_
    | with_reducible refine keepsBut_doIf (fun _ => ?_) ?_
    | with_reducible refine keepsBut_each (fun _ _ => ?_) ?_
    | dsimp only [id]
    | split)

theorem decodeError_keeps (n : Nat) (l : Layer) (sidx code k e off : Nat) (s : State) : keepsBut [.err, .cmp, .str] s (decodeError n l sidx code k e off s) := by
  unfold decodeError
  try dsimp only
  repeat' (first
    | with_reducible exact keepsBut_refl _ _
    | (with_reducible show keepsBut _ _ (logDecode _ _ _ _ _ _ _); with_reducible refine keepsBut_of ?_ (logDecode_keeps _ _ _ _ _ _ _) (by decide))
    | (with_reducible show keepsBut _ _ (mStrand _ _ _); with_reducible refine keepsBut_of ?_ (mStrand_keeps _ _ _) (by decide))
    | with_reducible refine keepsBut_ite ?_ ?_
    | with_reducible refine keepsBut_doIf (fun _ => ?_) ?_
    | with_reducible refine keepsBut_each (fun _ _ => ?_) ?_
    | dsimp only [id]
    | split)

theorem decodeTurn_keeps (n : Nat) (s : State) : keepsBut [.free, .err, .cmp, .str] s (decodeTurn n s) := by
  unfold decodeTurn
  try dsimp only
  repeat' (first
    | with_reducible exact keepsBut_refl _ _
    | (with_reducible show keepsBut _ _ (tickFree _); with_reducible refine keepsBut_of ?_ (tickFree_keeps _) (by decide))
    | (with_reducible show keepsBut _ _ (putLine _ _ _ _ _ _); with_reducible refine keepsBut_of ?_ (putLine_keeps _ _ _ _ _ _) (by decide))
    | (with_reducible show keepsBut _ _ (mStrand _ _ _); with_reducible refine keepsBut_of ?_ (mStrand_keeps _ _ _) (by decide))
    | (with_reducible show keepsBut _ _ (decodeError _ _ _ _ _ _ _ _); with_reducible refine keepsBut_of ?_ (decodeError_keeps _ _ _ _ _ _ _ _) (by decide))
    | with_reducible refine keepsBut_ite ?_ ?_
    | with_reducible refine keepsBut_doIf (fun _ => ?_) ?_
    | with_reducible refine keepsBut_each (fun _ _ => ?_) ?_
    | dsimp only [id]
    | split)

theorem widthCheck_keeps (l : Layer) (n : Nat) (s : State) : keepsBut [.err, .cmp, .str] s (widthCheck l n s) := by
  unfold widthCheck
  try dsimp only
  repeat' (first
    | with_reducible exact keepsBut_refl _ _
    | (with_reducible show keepsBut _ _ (mStrand _ _ _); with_reducible refine keepsBut_of ?_ (mStrand_keeps _ _ _) (by decide))
    | (with_reducible show keepsBut _ _ (logDecode _ _ _ _ _ _ _); with_reducible refine keepsBut_of ?_ (logDecode_keeps _ _ _ _ _ _ _) (by decide))
    | (with_reducible show keepsBut _ _ (decodeError _ _ _ _ _ _ _ _); with_reducible refine keepsBut_of ?_ (decodeError_keeps _ _ _ _ _ _ _ _) (by decide))
    | with_reducible refine keepsBut_ite ?_ ?_
    | with_reducible refine keepsBut_doIf (fun _ => ?_) ?_
    | with_reducible refine keepsBut_each (fun _ _ => ?_) ?_
    | dsimp only [id]
    | split)

theorem spoolTurn_keeps (n : Nat) (s : State) : keepsBut [.free, .err, .cmp, .str] s (spoolTurn n s) := by
  unfold spoolTurn
  try dsimp only
  repeat' (first
    | with_reducible exact keepsBut_refl _ _
    | (with_reducible show keepsBut _ _ (decodeTurn _ _); with_reducible refine keepsBut_of ?_ (decodeTurn_keeps _ _) (by decide))
    | with_reducible refine keepsBut_ite ?_ ?_
    | with_reducible refine keepsBut_doIf (fun _ => ?_) ?_
    | with_reducible refine keepsBut_each (fun _ _ => ?_) ?_
    | dsimp only [id]
    | split)

theorem speedAdvise_keeps (s : State) : keepsBut [.str] s (speedAdvise s) := by
  unfold speedAdvise
  try dsimp only
  repeat' (first
    | with_reducible exact keepsBut_refl _ _
    | (with_reducible show keepsBut _ _ (mStr _ _); with_reducible refine keepsBut_of ?_ (mStr_keeps _ _) (by decide))
    | with_reducible refine keepsBut_ite ?_ ?_
    | with_reducible refine keepsBut_doIf (fun _ => ?_) ?_
    | with_reducible refine keepsBut_each (fun _ _ => ?_) ?_
    | dsimp only [id]
    | split)

theorem advicePins_keeps (s : State) : keepsBut [.par] s (advicePins s) := by
  unfold advicePins
  try dsimp only
  repeat' (first
    | with_reducible exact keepsBut_refl _ _
    | (with_reducible show keepsBut _ _ (emit _ _); with_reducible refine keepsBut_of ?_ (emit_keeps _ _) (by decide))
    | (with_reducible show keepsBut _ _ (mPar _ _); with_reducible refine keepsBut_of ?_ (mPar_keeps _ _) (by decide))
    | with_reducible refine keepsBut_ite ?_ ?_
    | with_reducible refine keepsBut_doIf (fun _ => ?_) ?_
    | with_reducible refine keepsBut_each (fun _ _ => ?_) ?_
    | dsimp only [id]
    | split)

theorem updateMargins_keeps (s : State) : keepsBut [.str, .par] s (updateMargins s) := by
  unfold updateMargins
  try dsimp only
  repeat' (first
    | with_reducible exact keepsBut_refl _ _
    | (with_reducible show keepsBut _ _ (mStrand _ _ _); with_reducible refine keepsBut_of ?_ (mStrand_keeps _ _ _) (by decide))
    | (with_reducible show keepsBut _ _ (mStr _ _); with_reducible refine keepsBut_of ?_ (mStr_keeps _ _) (by decide))
    | (with_reducible show keepsBut _ _ (advicePins _); with_reducible refine keepsBut_of ?_ (advicePins_keeps _) (by decide))
    | (with_reducible show keepsBut _ _ (speedAdvise _); with_reducible refine keepsBut_of ?_ (speedAdvise_keeps _) (by decide))
    | with_reducible refine keepsBut_ite ?_ ?_
    | with_reducible refine keepsBut_doIf (fun _ => ?_) ?_
    | with_reducible refine keepsBut_each (fun _ _ => ?_) ?_
    | dsimp only [id]
    | split)

/-! Machine/Position.lean -/

theorem postLive_keeps (a v : Nat) (s : State) : keepsBut [.pos] s (postLive a v s) := by
  unfold postLive
  try dsimp only
  repeat' (first
    | with_reducible exact keepsBut_refl _ _
    | (with_reducible show keepsBut _ _ (mPos _ _); with_reducible refine keepsBut_of ?_ (mPos_keeps _ _) (by decide))
    | with_reducible refine keepsBut_ite ?_ ?_
    | with_reducible refine keepsBut_doIf (fun _ => ?_) ?_
    | with_reducible refine keepsBut_each (fun _ _ => ?_) ?_
    | dsimp only [id]
    | split)

theorem posStat_keeps (c i : Nat) (s : State) : keepsBut [.pos] s (posStat c i s) := by
  unfold posStat
  try dsimp only
  repeat' (first
    | with_reducible exact keepsBut_refl _ _
    | (with_reducible show keepsBut _ _ (mEnc _ _ _); with_reducible refine keepsBut_of ?_ (mEnc_keeps _ _ _) (by decide))
    | with_reducible refine keepsBut_ite ?_ ?_
    | with_reducible refine keepsBut_doIf (fun _ => ?_) ?_
    | with_reducible refine keepsBut_each (fun _ _ => ?_) ?_
    | dsimp only [id]
    | split)

theorem posErr_keeps (c i : Nat) (s : State) : keepsBut [.pos] s (posErr c i s) := by
  unfold posErr
  try dsimp only
  repeat' (first
    | with_reducible exact keepsBut_refl _ _
    | (with_reducible show keepsBut _ _ (mEnc _ _ _); with_reducible refine keepsBut_of ?_ (mEnc_keeps _ _ _) (by decide))
    | with_reducible refine keepsBut_ite ?_ ?_
    | with_reducible refine keepsBut_doIf (fun _ => ?_) ?_
    | with_reducible refine keepsBut_each (fun _ _ => ?_) ?_
    | dsimp only [id]
    | split)

theorem hwmFollow_keeps (c : Nat) (s : State) : keepsBut [.pos] s (hwmFollow c s) := by
  unfold hwmFollow
  try dsimp only
  repeat' (first
    | with_reducible exact keepsBut_refl _ _
    | (with_reducible show keepsBut _ _ (mPos _ _); with_reducible refine keepsBut_of ?_ (mPos_keeps _ _) (by decide))
    | with_reducible refine keepsBut_ite ?_ ?_
    | with_reducible refine keepsBut_doIf (fun _ => ?_) ?_
    | with_reducible refine keepsBut_each (fun _ _ => ?_) ?_
    | dsimp only [id]
    | split)

theorem countBy_keeps (c : Nat) (d : Int) (s : State) : keepsBut [.err, .pos] s (countBy c d s) := by
  unfold countBy
  try dsimp only
  repeat' (first
    | with_reducible exact keepsBut_refl _ _
    | (with_reducible show keepsBut _ _ (mEnc _ _ _); with_reducible refine keepsBut_of ?_ (mEnc_keeps _ _ _) (by decide))
    | (with_reducible show keepsBut _ _ (notice _ _ _); with_reducible refine keepsBut_of ?_ (notice_keeps _ _ _) (by decide))
    | (with_reducible show keepsBut _ _ (hwmFollow _ _); with_reducible refine keepsBut_of ?_ (hwmFollow_keeps _ _) (by decide))
    | with_reducible refine keepsBut_ite ?_ ?_
    | with_reducible refine keepsBut_doIf (fun _ => ?_) ?_
    | with_reducible refine keepsBut_each (fun _ _ => ?_) ?_
    | dsimp only [id]
    | split)

theorem encStart_keeps (c : Nat) (rc : Int) (s : State) : keepsBut [.pos] s (encStart c rc s) := by
  unfold encStart
  try dsimp only
  repeat' (first
    | with_reducible exact keepsBut_refl _ _
    | (with_reducible show keepsBut _ _ (mEnc _ _ _); with_reducible refine keepsBut_of ?_ (mEnc_keeps _ _ _) (by decide))
    | with_reducible refine keepsBut_ite ?_ ?_
    | with_reducible refine keepsBut_doIf (fun _ => ?_) ?_
    | with_reducible refine keepsBut_each (fun _ _ => ?_) ?_
    | dsimp only [id]
    | split)

theorem knotWithdraw_keeps (s : State) : keepsBut [.sys] s (knotWithdraw s) := by
  unfold knotWithdraw
  try dsimp only
  repeat' (first
    | with_reducible exact keepsBut_refl _ _
    | (with_reducible show keepsBut _ _ (mSys _ _); with_reducible refine keepsBut_of ?_ (mSys_keeps _ _) (by decide))
    | with_reducible refine keepsBut_ite ?_ ?_
    | with_reducible refine keepsBut_doIf (fun _ => ?_) ?_
    | with_reducible refine keepsBut_each (fun _ _ => ?_) ?_
    | dsimp only [id]
    | split)

theorem msStale_keeps (i : Nat) (s : State) : keepsBut [.sys, .err, .mil] s (msStale i s) := by
  unfold msStale
  try dsimp only
  repeat' (first
    | with_reducible exact keepsBut_refl _ _
    | (with_reducible show keepsBut _ _ (mMs _ _ _); with_reducible refine keepsBut_of ?_ (mMs_keeps _ _ _) (by decide))
    | (with_reducible show keepsBut _ _ (notice _ _ _); with_reducible refine keepsBut_of ?_ (notice_keeps _ _ _) (by decide))
    | (with_reducible show keepsBut _ _ (knotWithdraw _); with_reducible refine keepsBut_of ?_ (knotWithdraw_keeps _) (by decide))
    | with_reducible refine keepsBut_ite ?_ ?_
    | with_reducible refine keepsBut_doIf (fun _ => ?_) ?_
    | with_reducible refine keepsBut_each (fun _ _ => ?_) ?_
    | dsimp only [id]
    | split)

theorem msArm_keeps (i : Nat) (s : State) : keepsBut [.sys, .err, .mil] s (msArm i s) := by
  unfold msArm
  try dsimp only
  repeat' (first
    | with_reducible exact keepsBut_refl _ _
    | (with_reducible show keepsBut _ _ (mMs _ _ _); with_reducible refine keepsBut_of ?_ (mMs_keeps _ _ _) (by decide))
    | (with_reducible show keepsBut _ _ (msStale _ _); with_reducible refine keepsBut_of ?_ (msStale_keeps _ _) (by decide))
    | with_reducible refine keepsBut_ite ?_ ?_
    | with_reducible refine keepsBut_doIf (fun _ => ?_) ?_
    | with_reducible refine keepsBut_each (fun _ _ => ?_) ?_
    | dsimp only [id]
    | split)

theorem msLoad_keeps (i : Nat) (v : Int) (s : State) : keepsBut [.sys, .err, .mil] s (msLoad i v s) := by
  unfold msLoad
  try dsimp only
  repeat' (first
    | with_reducible exact keepsBut_refl _ _
    | (with_reducible show keepsBut _ _ (mMs _ _ _); with_reducible refine keepsBut_of ?_ (mMs_keeps _ _ _) (by decide))
    | (with_reducible show keepsBut _ _ (msArm _ _); with_reducible refine keepsBut_of ?_ (msArm_keeps _ _) (by decide))
    | with_reducible refine keepsBut_ite ?_ ?_
    | with_reducible refine keepsBut_doIf (fun _ => ?_) ?_
    | with_reducible refine keepsBut_each (fun _ _ => ?_) ?_
    | dsimp only [id]
    | split)

theorem msDisarm_keeps (i : Nat) (s : State) : keepsBut [.mil] s (msDisarm i s) := by
  unfold msDisarm
  try dsimp only
  repeat' (first
    | with_reducible exact keepsBut_refl _ _
    | (with_reducible show keepsBut _ _ (mMs _ _ _); with_reducible refine keepsBut_of ?_ (mMs_keeps _ _ _) (by decide))
    | with_reducible refine keepsBut_ite ?_ ?_
    | with_reducible refine keepsBut_doIf (fun _ => ?_) ?_
    | with_reducible refine keepsBut_each (fun _ _ => ?_) ?_
    | dsimp only [id]
    | split)

theorem msOp_keeps (i : Nat) (o : MsOp) (s : State) : keepsBut [.sys, .err, .mil] s (msOp i o s) := by
  unfold msOp
  try dsimp only
  repeat' (first
    | with_reducible exact keepsBut_refl _ _
    | (with_reducible show keepsBut _ _ (msArm _ _); with_reducible refine keepsBut_of ?_ (msArm_keeps _ _) (by decide))
    | (with_reducible show keepsBut _ _ (msDisarm _ _); with_reducible refine keepsBut_of ?_ (msDisarm_keeps _ _) (by decide))
    | (with_reducible show keepsBut _ _ (msLoad _ _ _); with_reducible refine keepsBut_of ?_ (msLoad_keeps _ _ _) (by decide))
    | (with_reducible show keepsBut _ _ (mMs _ _ _); with_reducible refine keepsBut_of ?_ (mMs_keeps _ _ _) (by decide))
    | with_reducible refine keepsBut_ite ?_ ?_
    | with_reducible refine keepsBut_doIf (fun _ => ?_) ?_
    | with_reducible refine keepsBut_each (fun _ _ => ?_) ?_
    | dsimp only [id]
    | split)

theorem msDo_keeps (i : Nat) (o : MsOp) (s : State) : keepsBut [.sys, .err, .mil] s (msDo i o s) := by
  unfold msDo
  try dsimp only
  repeat' (first
    | with_reducible exact keepsBut_refl _ _
    | (with_reducible show keepsBut _ _ (mMs _ _ _); with_reducible refine keepsBut_of ?_ (mMs_keeps _ _ _) (by decide))
    | (with_reducible show keepsBut _ _ (msOp _ _ _); with_reducible refine keepsBut_of ?_ (msOp_keeps _ _ _) (by decide))
    | with_reducible refine keepsBut_ite ?_ ?_
    | with_reducible refine keepsBut_doIf (fun _ => ?_) ?_
    | with_reducible refine keepsBut_each (fun _ _ => ?_) ?_
    | dsimp only [id]
    | split)

theorem msLater_keeps (i : Nat) (s : State) : keepsBut [.sys, .err, .mil] s (msLater i s) := by
  unfold msLater
  try dsimp only
  repeat' (first
    | with_reducible exact keepsBut_refl _ _
    | (with_reducible show keepsBut _ _ (msDo _ _ _); with_reducible refine keepsBut_of ?_ (msDo_keeps _ _ _) (by decide))
    | (with_reducible show keepsBut _ _ (mMs _ _ _); with_reducible refine keepsBut_of ?_ (mMs_keeps _ _ _) (by decide))
    | with_reducible refine keepsBut_ite ?_ ?_
    | with_reducible refine keepsBut_doIf (fun _ => ?_) ?_
    | with_reducible refine keepsBut_each (fun _ _ => ?_) ?_
    | dsimp only [id]
    | split)

theorem msEval_keeps (i : Nat) (s : State) : keepsBut [.mil] s (msEval i s) := by
  unfold msEval
  try dsimp only
  repeat' (first
    | with_reducible exact keepsBut_refl _ _
    | (with_reducible show keepsBut _ _ (mMs _ _ _); with_reducible refine keepsBut_of ?_ (mMs_keeps _ _ _) (by decide))
    | with_reducible refine keepsBut_ite ?_ ?_
    | with_reducible refine keepsBut_doIf (fun _ => ?_) ?_
    | with_reducible refine keepsBut_each (fun _ _ => ?_) ?_
    | dsimp only [id]
    | split)

theorem knotReach_keeps (s : State) : keepsBut [.sys] s (knotReach s) := by
  unfold knotReach
  try dsimp only
  repeat' (first
    | with_reducible exact keepsBut_refl _ _
    | (with_reducible show keepsBut _ _ (mSys _ _); with_reducible refine keepsBut_of ?_ (mSys_keeps _ _) (by decide))
    | with_reducible refine keepsBut_ite ?_ ?_
    | with_reducible refine keepsBut_doIf (fun _ => ?_) ?_
    | with_reducible refine keepsBut_each (fun _ _ => ?_) ?_
    | dsimp only [id]
    | split)

theorem reverseCheck_keeps (s : State) : keepsBut [.err, .tow] s (reverseCheck s) := by
  unfold reverseCheck
  try dsimp only
  repeat' (first
    | with_reducible exact keepsBut_refl _ _
    | (with_reducible show keepsBut _ _ (notice _ _ _); with_reducible refine keepsBut_of ?_ (notice_keeps _ _ _) (by decide))
    | (with_reducible show keepsBut _ _ (mLayer _ _ _); with_reducible refine keepsBut_of ?_ (mLayer_keeps _ _ _) (by decide))
    | with_reducible refine keepsBut_ite ?_ ?_
    | with_reducible refine keepsBut_doIf (fun _ => ?_) ?_
    | with_reducible refine keepsBut_each (fun _ _ => ?_) ?_
    | dsimp only [id]
    | split)

theorem sampleEnd_keeps (c : Nat) (s : State) : keepsBut [.sys, .err, .tow, .mil] s (sampleEnd c s) := by
  unfold sampleEnd
  try dsimp only
  repeat' (first
    | with_reducible exact keepsBut_refl _ _
    | (with_reducible show keepsBut _ _ (msEval _ _); with_reducible refine keepsBut_of ?_ (msEval_keeps _ _) (by decide))
    | (with_reducible show keepsBut _ _ (knotReach _); with_reducible refine keepsBut_of ?_ (knotReach_keeps _) (by decide))
    | (with_reducible show keepsBut _ _ (reverseCheck _); with_reducible refine keepsBut_of ?_ (reverseCheck_keeps _) (by decide))
    | with_reducible refine keepsBut_ite ?_ ?_
    | with_reducible refine keepsBut_doIf (fun _ => ?_) ?_
    | with_reducible refine keepsBut_each (fun _ _ => ?_) ?_
    | dsimp only [id]
    | split)

theorem ptCopy_keeps (c : Nat) (z : Bool) (s : State) : keepsBut [] s (ptCopy c z s) := by
  unfold ptCopy
  try dsimp only
  repeat' (first
    | with_reducible exact keepsBut_refl _ _
    | (with_reducible show keepsBut _ _ (emit _ _); with_reducible refine keepsBut_of ?_ (emit_keeps _ _) (by decide))
    | with_reducible refine keepsBut_ite ?_ ?_
    | with_reducible refine keepsBut_doIf (fun _ => ?_) ?_
    | with_reducible refine keepsBut_each (fun _ _ => ?_) ?_
    | dsimp only [id]
    | split)

theorem encEdge_keeps (c : Nat) (a b fast more : Bool) (s : State) : keepsBut [.sys, .err, .tow, .pos, .mil] s (encEdge c a b fast more s) := by
  unfold encEdge
  try dsimp only
  repeat' (first
    | with_reducible exact keepsBut_refl _ _
    | (with_reducible show keepsBut _ _ (ptCopy _ _ _); with_reducible refine keepsBut_of ?_ (ptCopy_keeps _ _ _) (by decide))
    | (with_reducible show keepsBut _ _ (mEnc _ _ _); with_reducible refine keepsBut_of ?_ (mEnc_keeps _ _ _) (by decide))
    | (with_reducible show keepsBut _ _ (raiseLim _ _ _ _ _ _); with_reducible refine keepsBut_of ?_ (raiseLim_keeps _ _ _ _ _ _) (by decide))
    | (with_reducible show keepsBut _ _ (posErr _ _ _); with_reducible refine keepsBut_of ?_ (posErr_keeps _ _ _) (by decide))
    | (with_reducible show keepsBut _ _ (posStat _ _ _); with_reducible refine keepsBut_of ?_ (posStat_keeps _ _ _) (by decide))
    | (with_reducible show keepsBut _ _ (countBy _ _ _); with_reducible refine keepsBut_of ?_ (countBy_keeps _ _ _) (by decide))
    | (with_reducible show keepsBut _ _ (sampleEnd _ _); with_reducible refine keepsBut_of ?_ (sampleEnd_keeps _ _) (by decide))
    | with_reducible refine keepsBut_ite ?_ ?_
    | with_reducible refine keepsBut_doIf (fun _ => ?_) ?_
    | with_reducible refine keepsBut_each (fun _ _ => ?_) ?_
    | dsimp only [id]
    | split)

theorem wireBad_keeps (c : Nat) (p : EncPair) (s : State) : keepsBut [.err, .pos] s (wireBad c p s) := by
  unfold wireBad
  try dsimp only
  repeat' (first
    | with_reducible exact keepsBut_refl _ _
    | (with_reducible show keepsBut _ _ (mEnc _ _ _); with_reducible refine keepsBut_of ?_ (mEnc_keeps _ _ _) (by decide))
    | (with_reducible show keepsBut _ _ (faultErr _ _ _); with_reducible refine keepsBut_of ?_ (faultErr_keeps _ _ _) (by decide))
    | (with_reducible show keepsBut _ _ (posStat _ _ _); with_reducible refine keepsBut_of ?_ (posStat_keeps _ _ _) (by decide))
    | (with_reducible show keepsBut _ _ (posErr _ _ _); with_reducible refine keepsBut_of ?_ (posErr_keeps _ _ _) (by decide))
    | with_reducible refine keepsBut_ite ?_ ?_
    | with_reducible refine keepsBut_doIf (fun _ => ?_) ?_
    | with_reducible refine keepsBut_each (fun _ _ => ?_) ?_
    | dsimp only [id]
    | split)

theorem wireGood_keeps (c : Nat) (p : EncPair) (s : State) : keepsBut [.err, .pos] s (wireGood c p s) := by
  unfold wireGood
  try dsimp only
  repeat' (first
    | with_reducible exact keepsBut_refl _ _
    | (with_reducible show keepsBut _ _ (mEnc _ _ _); with_reducible refine keepsBut_of ?_ (mEnc_keeps _ _ _) (by decide))
    | (with_reducible show keepsBut _ _ (endFault _ _ _); with_reducible refine keepsBut_of ?_ (endFault_keeps _ _ _) (by decide))
    | with_reducible refine keepsBut_ite ?_ ?_
    | with_reducible refine keepsBut_doIf (fun _ => ?_) ?_
    | with_reducible refine keepsBut_each (fun _ _ => ?_) ?_
    | dsimp only [id]
    | split)

theorem indexTake_keeps (c : Nat) (s : State) : keepsBut [.err, .pos] s (indexTake c s) := by
  unfold indexTake
  try dsimp only
  repeat' (first
    | with_reducible exact keepsBut_refl _ _
    | (with_reducible show keepsBut _ _ (mPos _ _); with_reducible refine keepsBut_of ?_ (mPos_keeps _ _) (by decide))
    | (with_reducible show keepsBut _ _ (mEnc _ _ _); with_reducible refine keepsBut_of ?_ (mEnc_keeps _ _ _) (by decide))
    | (with_reducible show keepsBut _ _ (notice _ _ _); with_reducible refine keepsBut_of ?_ (notice_keeps _ _ _) (by decide))
    | (with_reducible show keepsBut _ _ (faultErr _ _ _); with_reducible refine keepsBut_of ?_ (faultErr_keeps _ _ _) (by decide))
    | (with_reducible show keepsBut _ _ (posStat _ _ _); with_reducible refine keepsBut_of ?_ (posStat_keeps _ _ _) (by decide))
    | with_reducible refine keepsBut_ite ?_ ?_
    | with_reducible refine keepsBut_doIf (fun _ => ?_) ?_
    | with_reducible refine keepsBut_each (fun _ _ => ?_) ?_
    | dsimp only [id]
    | split)

theorem zEdge_keeps (c : Nat) (more : Bool) (s : State) : keepsBut [.sys, .err, .tow, .pos, .mil] s (zEdge c more s) := by
  unfold zEdge
  try dsimp only
  repeat' (first
    | with_reducible exact keepsBut_refl _ _
    | (with_reducible show keepsBut _ _ (ptCopy _ _ _); with_reducible refine keepsBut_of ?_ (ptCopy_keeps _ _ _) (by decide))
    | (with_reducible show keepsBut _ _ (indexTake _ _); with_reducible refine keepsBut_of ?_ (indexTake_keeps _ _) (by decide))
    | (with_reducible show keepsBut _ _ (sampleEnd _ _); with_reducible refine keepsBut_of ?_ (sampleEnd_keeps _ _) (by decide))
    | with_reducible refine keepsBut_ite ?_ ?_
    | with_reducible refine keepsBut_doIf (fun _ => ?_) ?_
    | with_reducible refine keepsBut_each (fun _ _ => ?_) ?_
    | dsimp only [id]
    | split)

theorem ssiDiscard_keeps (c : Nat) (s : State) : keepsBut [.err, .pos] s (ssiDiscard c s) := by
  unfold ssiDiscard
  try dsimp only
  repeat' (first
    | with_reducible exact keepsBut_refl _ _
    | (with_reducible show keepsBut _ _ (mEnc _ _ _); with_reducible refine keepsBut_of ?_ (mEnc_keeps _ _ _) (by decide))
    | (with_reducible show keepsBut _ _ (faultErr _ _ _); with_reducible refine keepsBut_of ?_ (faultErr_keeps _ _ _) (by decide))
    | (with_reducible show keepsBut _ _ (posStat _ _ _); with_reducible refine keepsBut_of ?_ (posStat_keeps _ _ _) (by decide))
    | (with_reducible show keepsBut _ _ (posErr _ _ _); with_reducible refine keepsBut_of ?_ (posErr_keeps _ _ _) (by decide))
    | with_reducible refine keepsBut_ite ?_ ?_
    | with_reducible refine keepsBut_doIf (fun _ => ?_) ?_
    | with_reducible refine keepsBut_each (fun _ _ => ?_) ?_
    | dsimp only [id]
    | split)

theorem ssiValid_keeps (c w : Nat) (s : State) : keepsBut [.sys, .err, .tow, .pos, .mil] s (ssiValid c w s) := by
  unfold ssiValid
  try dsimp only
  repeat' (first
    | with_reducible exact keepsBut_refl _ _
    | (with_reducible show keepsBut _ _ (mEnc _ _ _); with_reducible refine keepsBut_of ?_ (mEnc_keeps _ _ _) (by decide))
    | (with_reducible show keepsBut _ _ (faultErr _ _ _); with_reducible refine keepsBut_of ?_ (faultErr_keeps _ _ _) (by decide))
    | (with_reducible show keepsBut _ _ (posErr _ _ _); with_reducible refine keepsBut_of ?_ (posErr_keeps _ _ _) (by decide))
    | (with_reducible show keepsBut _ _ (hwmFollow _ _); with_reducible refine keepsBut_of ?_ (hwmFollow_keeps _ _) (by decide))
    | (with_reducible show keepsBut _ _ (countBy _ _ _); with_reducible refine keepsBut_of ?_ (countBy_keeps _ _ _) (by decide))
    | (with_reducible show keepsBut _ _ (encStart _ _ _); with_reducible refine keepsBut_of ?_ (encStart_keeps _ _ _) (by decide))
    | (with_reducible show keepsBut _ _ (sampleEnd _ _); with_reducible refine keepsBut_of ?_ (sampleEnd_keeps _ _) (by decide))
    | with_reducible refine keepsBut_ite ?_ ?_
    | with_reducible refine keepsBut_doIf (fun _ => ?_) ?_
    | with_reducible refine keepsBut_each (fun _ _ => ?_) ?_
    | dsimp only [id]
    | split)

theorem ssiDone_keeps (c : Nat) (w : Word) (par : Bool) (s : State) : keepsBut [.sys, .err, .tow, .pos, .mil] s (ssiDone c w par s) := by
  unfold ssiDone
  try dsimp only
  repeat' (first
    | with_reducible exact keepsBut_refl _ _
    | (with_reducible show keepsBut _ _ (mEnc _ _ _); with_reducible refine keepsBut_of ?_ (mEnc_keeps _ _ _) (by decide))
    | (with_reducible show keepsBut _ _ (ssiDiscard _ _); with_reducible refine keepsBut_of ?_ (ssiDiscard_keeps _ _) (by decide))
    | (with_reducible show keepsBut _ _ (ssiValid _ _ _); with_reducible refine keepsBut_of ?_ (ssiValid_keeps _ _ _) (by decide))
    | with_reducible refine keepsBut_ite ?_ ?_
    | with_reducible refine keepsBut_doIf (fun _ => ?_) ?_
    | with_reducible refine keepsBut_each (fun _ _ => ?_) ?_
    | dsimp only [id]
    | split)

theorem obsUpdate_keeps (c : Nat) (s : State) : keepsBut [.err, .pos] s (obsUpdate c s) := by
  unfold obsUpdate
  try dsimp only
  repeat' (first
    | with_reducible exact keepsBut_refl _ _
    | (with_reducible show keepsBut _ _ (mEnc _ _ _); with_reducible refine keepsBut_of ?_ (mEnc_keeps _ _ _) (by decide))
    | (with_reducible show keepsBut _ _ (raiseLim _ _ _ _ _ _); with_reducible refine keepsBut_of ?_ (raiseLim_keeps _ _ _ _ _ _) (by decide))
    | (with_reducible show keepsBut _ _ (posStat _ _ _); with_reducible refine keepsBut_of ?_ (posStat_keeps _ _ _) (by decide))
    | with_reducible refine keepsBut_ite ?_ ?_
    | with_reducible refine keepsBut_doIf (fun _ => ?_) ?_
    | with_reducible refine keepsBut_each (fun _ _ => ?_) ?_
    | dsimp only [id]
    | split)

theorem ptStep_keeps (c : Nat) (s : State) : keepsBut [.err, .pos] s (ptStep c s) := by
  unfold ptStep
  try dsimp only
  repeat' (first
    | with_reducible exact keepsBut_refl _ _
    | (with_reducible show keepsBut _ _ (mEnc _ _ _); with_reducible refine keepsBut_of ?_ (mEnc_keeps _ _ _) (by decide))
    | (with_reducible show keepsBut _ _ (emit _ _); with_reducible refine keepsBut_of ?_ (emit_keeps _ _) (by decide))
    | (with_reducible show keepsBut _ _ (raiseLim _ _ _ _ _ _); with_reducible refine keepsBut_of ?_ (raiseLim_keeps _ _ _ _ _ _) (by decide))
    | (with_reducible show keepsBut _ _ (posStat _ _ _); with_reducible refine keepsBut_of ?_ (posStat_keeps _ _ _) (by decide))
    | with_reducible refine keepsBut_ite ?_ ?_
    | with_reducible refine keepsBut_doIf (fun _ => ?_) ?_
    | with_reducible refine keepsBut_each (fun _ _ => ?_) ?_
    | dsimp only [id]
    | split)

theorem opPosSnap_keeps (c : Nat) (s : State) : keepsBut [.pos] s (opPosSnap c s) := by
  unfold opPosSnap
  try dsimp only
  repeat' (first
    | with_reducible exact keepsBut_refl _ _
    | (with_reducible show keepsBut _ _ (mEnc _ _ _); with_reducible refine keepsBut_of ?_ (mEnc_keeps _ _ _) (by decide))
    | with_reducible refine keepsBut_ite ?_ ?_
    | with_reducible refine keepsBut_doIf (fun _ => ?_) ?_
    | with_reducible refine keepsBut_each (fun _ _ => ?_) ?_
    | dsimp only [id]
    | split)

theorem opPosCtl_keeps (c : Nat) (old new : Word) (s : State) : keepsBut [.pos] s (opPosCtl c old new s) := by
  unfold opPosCtl
  try dsimp only
  repeat' (first
    | with_reducible exact keepsBut_refl _ _
    | (with_reducible show keepsBut _ _ (mEnc _ _ _); with_reducible refine keepsBut_of ?_ (mEnc_keeps _ _ _) (by decide))
    | (with_reducible show keepsBut _ _ (encStart _ _ _); with_reducible refine keepsBut_of ?_ (encStart_keeps _ _ _) (by decide))
    | with_reducible refine keepsBut_ite ?_ ?_
    | with_reducible refine keepsBut_doIf (fun _ => ?_) ?_
    | with_reducible refine keepsBut_each (fun _ _ => ?_) ?_
    | dsimp only [id]
    | split)

theorem opPosPt_keeps (c : Nat) (old : Word) (s : State) : keepsBut [.pos] s (opPosPt c old s) := by
  unfold opPosPt
  try dsimp only
  repeat' (first
    | with_reducible exact keepsBut_refl _ _
    | (with_reducible show keepsBut _ _ (ptCopy _ _ _); with_reducible refine keepsBut_of ?_ (ptCopy_keeps _ _ _) (by decide))
    | (with_reducible show keepsBut _ _ (emit _ _); with_reducible refine keepsBut_of ?_ (emit_keeps _ _) (by decide))
    | (with_reducible show keepsBut _ _ (mEnc _ _ _); with_reducible refine keepsBut_of ?_ (mEnc_keeps _ _ _) (by decide))
    | with_reducible refine keepsBut_ite ?_ ?_
    | with_reducible refine keepsBut_doIf (fun _ => ?_) ?_
    | with_reducible refine keepsBut_each (fun _ _ => ?_) ?_
    | dsimp only [id]
    | split)

theorem opIdxArm_keeps (c : Nat) (s : State) : keepsBut [.pos] s (opIdxArm c s) := by
  unfold opIdxArm
  try dsimp only
  repeat' (first
    | with_reducible exact keepsBut_refl _ _
    | (with_reducible show keepsBut _ _ (mEnc _ _ _); with_reducible refine keepsBut_of ?_ (mEnc_keeps _ _ _) (by decide))
    | with_reducible refine keepsBut_ite ?_ ?_
    | with_reducible refine keepsBut_doIf (fun _ => ?_) ?_
    | with_reducible refine keepsBut_each (fun _ _ => ?_) ?_
    | dsimp only [id]
    | split)

theorem opMsCtl_keeps (i : Nat) (v : Word) (s : State) : keepsBut [.sys, .err, .mil] s (opMsCtl i v s) := by
  unfold opMsCtl
  try dsimp only
  repeat' (first
    | with_reducible exact keepsBut_refl _ _
    | (with_reducible show keepsBut _ _ (msDo _ _ _); with_reducible refine keepsBut_of ?_ (msDo_keeps _ _ _) (by decide))
    | with_reducible refine keepsBut_ite ?_ ?_
    | with_reducible refine keepsBut_doIf (fun _ => ?_) ?_
    | with_reducible refine keepsBut_each (fun _ _ => ?_) ?_
    | dsimp only [id]
    | split)

theorem opMsCommit_keeps (i v : Nat) (s : State) : keepsBut [.sys, .err, .mil] s (opMsCommit i v s) := by
  unfold opMsCommit
  try dsimp only
  repeat' (first
    | with_reducible exact keepsBut_refl _ _
    | (with_reducible show keepsBut _ _ (msDo _ _ _); with_reducible refine keepsBut_of ?_ (msDo_keeps _ _ _) (by decide))
    | with_reducible refine keepsBut_ite ?_ ?_
    | with_reducible refine keepsBut_doIf (fun _ => ?_) ?_
    | with_reducible refine keepsBut_each (fun _ _ => ?_) ?_
    | dsimp only [id]
    | split)

theorem syncEdge_keeps (n : Nat) (rising : Bool) (s : State) : keepsBut [.sys, .err, .mil] s (syncEdge n rising s) := by
  unfold syncEdge
  try dsimp only
  repeat' (first
    | with_reducible exact keepsBut_refl _ _
    | (with_reducible show keepsBut _ _ (mMil _ _); with_reducible refine keepsBut_of ?_ (mMil_keeps _ _) (by decide))
    | (with_reducible show keepsBut _ _ (notice _ _ _); with_reducible refine keepsBut_of ?_ (notice_keeps _ _ _) (by decide))
    | (with_reducible show keepsBut _ _ (msDo _ _ _); with_reducible refine keepsBut_of ?_ (msDo_keeps _ _ _) (by decide))
    | with_reducible refine keepsBut_ite ?_ ?_
    | with_reducible refine keepsBut_doIf (fun _ => ?_) ?_
    | with_reducible refine keepsBut_each (fun _ _ => ?_) ?_
    | dsimp only [id]
    | split)

theorem pulseSet_keeps (o : PulseOut) (on : Bool) (s : State) : keepsBut [.mil] s (pulseSet o on s) := by
  unfold pulseSet
  try dsimp only
  repeat' (first
    | with_reducible exact keepsBut_refl _ _
    | (with_reducible show keepsBut _ _ (mMil _ _); with_reducible refine keepsBut_of ?_ (mMil_keeps _ _) (by decide))
    | (with_reducible show keepsBut _ _ (emit _ _); with_reducible refine keepsBut_of ?_ (emit_keeps _ _) (by decide))
    | with_reducible refine keepsBut_ite ?_ ?_
    | with_reducible refine keepsBut_doIf (fun _ => ?_) ?_
    | with_reducible refine keepsBut_each (fun _ _ => ?_) ?_
    | dsimp only [id]
    | split)

theorem pulseRepol_keeps (o : PulseOut) (old : Word) (s : State) : keepsBut [] s (pulseRepol o old s) := by
  unfold pulseRepol
  try dsimp only
  repeat' (first
    | with_reducible exact keepsBut_refl _ _
    | (with_reducible show keepsBut _ _ (emit _ _); with_reducible refine keepsBut_of ?_ (emit_keeps _ _) (by decide))
    | with_reducible refine keepsBut_ite ?_ ?_
    | with_reducible refine keepsBut_doIf (fun _ => ?_) ?_
    | with_reducible refine keepsBut_each (fun _ _ => ?_) ?_
    | dsimp only [id]
    | split)

theorem liveOne_keeps (w : Nat × Nat) (s : State) : keepsBut [.sys, .err, .pos, .mil] s (liveOne w s) := by
  unfold liveOne
  try dsimp only
  repeat' (first
    | with_reducible exact keepsBut_refl _ _
    | (with_reducible show keepsBut _ _ (mPos _ _); with_reducible refine keepsBut_of ?_ (mPos_keeps _ _) (by decide))
    | (with_reducible show keepsBut _ _ (opMsCtl _ _ _); with_reducible refine keepsBut_of ?_ (opMsCtl_keeps _ _ _) (by decide))
    | (with_reducible show keepsBut _ _ (opMsCommit _ _ _); with_reducible refine keepsBut_of ?_ (opMsCommit_keeps _ _ _) (by decide))
    | (with_reducible show keepsBut _ _ (pulseRepol _ _ _); with_reducible refine keepsBut_of ?_ (pulseRepol_keeps _ _ _) (by decide))
    | with_reducible refine keepsBut_ite ?_ ?_
    | with_reducible refine keepsBut_doIf (fun _ => ?_) ?_
    | with_reducible refine keepsBut_each (fun _ _ => ?_) ?_
    | dsimp only [id]
    | split)

theorem takeLive_keeps (s : State) : keepsBut [.sys, .err, .pos, .mil] s (takeLive s) := by
  unfold takeLive
  try dsimp only
  repeat' (first
    | with_reducible exact keepsBut_refl _ _
    | (with_reducible show keepsBut _ _ (mPos _ _); with_reducible refine keepsBut_of ?_ (mPos_keeps _ _) (by decide))
    | (with_reducible show keepsBut _ _ (liveOne _ _); with_reducible refine keepsBut_of ?_ (liveOne_keeps _ _) (by decide))
    | with_reducible refine keepsBut_ite ?_ ?_
    | with_reducible refine keepsBut_doIf (fun _ => ?_) ?_
    | with_reducible refine keepsBut_each (fun _ _ => ?_) ?_
    | dsimp only [id]
    | split)

/-! Machine/Compress.lean -/

theorem mComp_keeps (c : Nat) (f : Compressor → Compressor) (s : State) : keepsBut [.cmp] s (mComp c f s) := by
  unfold mComp
  try dsimp only
  repeat' (first
    | with_reducible exact keepsBut_refl _ _
    | (with_reducible show keepsBut _ _ (mCmp _ _); with_reducible refine keepsBut_of ?_ (mCmp_keeps _ _) (by decide))
    | with_reducible refine keepsBut_ite ?_ ?_
    | with_reducible refine keepsBut_doIf (fun _ => ?_) ?_
    | with_reducible refine keepsBut_each (fun _ _ => ?_) ?_
    | dsimp only [id]
    | split)

/-! Machine/StageOps.lean -/

theorem opHalt_keeps (m : BitVec 8) (s : State) : keepsBut [.sys, .err, .dbg, .mgt] s (opHalt m s) := by
  unfold opHalt
  try dsimp only
  repeat' (first
    | with_reducible exact keepsBut_refl _ _
    | (with_reducible show keepsBut _ _ (mDbg _ _); with_reducible refine keepsBut_of ?_ (mDbg_keeps _ _) (by decide))
    | (with_reducible show keepsBut _ _ (notice _ _ _); with_reducible refine keepsBut_of ?_ (notice_keeps _ _ _) (by decide))
    | (with_reducible show keepsBut _ _ (setDev _ _); with_reducible refine keepsBut_of ?_ (setDev_keeps _ _) (by decide))
    | with_reducible refine keepsBut_ite ?_ ?_
    | with_reducible refine keepsBut_doIf (fun _ => ?_) ?_
    | with_reducible refine keepsBut_each (fun _ _ => ?_) ?_
    | dsimp only [id]
    | split)

theorem opUnhalt_keeps (s : State) : keepsBut [.dbg] s (opUnhalt s) := by
  unfold opUnhalt
  try dsimp only
  repeat' (first
    | with_reducible exact keepsBut_refl _ _
    | (with_reducible show keepsBut _ _ (mDbg _ _); with_reducible refine keepsBut_of ?_ (mDbg_keeps _ _) (by decide))
    | with_reducible refine keepsBut_ite ?_ ?_
    | with_reducible refine keepsBut_doIf (fun _ => ?_) ?_
    | with_reducible refine keepsBut_each (fun _ _ => ?_) ?_
    | dsimp only [id]
    | split)

theorem takeToken_keeps {qs : List Part} {f : State → State} (hq : ∀ p ∈ ([.dbg] : List Part), p ∈ qs) (h_f : ∀  u, keepsBut qs u (f  u)) (k : Nat) (s : State) : keepsBut qs s (takeToken k f s) := by
  unfold takeToken
  try dsimp only
  repeat' (first
    | with_reducible exact keepsBut_refl _ _
    | (with_reducible show keepsBut _ _ (mDbg _ _); with_reducible refine keepsBut_of ?_ (mDbg_keeps _ _) (fun p m => hq p ((by decide : ∀ p ∈ _, p ∈ ([.dbg] : List Part)) p m)))
    | (with_reducible show keepsBut _ _ (f _); with_reducible refine keepsBut_of ?_ (h_f _) (fun _ m => m))
    | with_reducible refine keepsBut_ite ?_ ?_
    | with_reducible refine keepsBut_doIf (fun _ => ?_) ?_
    | with_reducible refine keepsBut_each (fun _ _ => ?_) ?_
    | dsimp only [id]
    | split)

theorem stageTake_keeps {qs : List Part} {f : State → State} (hq : ∀ p ∈ ([.sys, .err, .dbg, .mgt] : List Part), p ∈ qs) (h_f : ∀ u, keepsBut qs u (f u)) (k : Nat) (tok : List Nat) (layer id : Nat) (lc : Option Nat) (s : State) : keepsBut qs s (stageTake k tok layer id lc f s) := by
  unfold stageTake
  try dsimp only
  repeat' (first
    | with_reducible exact keepsBut_refl _ _
    | (with_reducible show keepsBut _ _ (takeToken _ _ _); with_reducible refine keepsBut_of ?_ (takeToken_keeps (qs := qs) (fun p m => hq p ((by decide : ∀ p ∈ _, p ∈ ([.sys, .err, .dbg, .mgt] : List Part)) p m)) (fun _ => ?_) _ _) (fun _ m => m))
    | (with_reducible show keepsBut _ _ (mDbg _ _); with_reducible refine keepsBut_of ?_ (mDbg_keeps _ _) (fun p m => hq p ((by decide : ∀ p ∈ _, p ∈ ([.sys, .err, .dbg, .mgt] : List Part)) p m)))
    | (with_reducible show keepsBut _ _ (notice _ _ _); with_reducible refine keepsBut_of ?_ (notice_keeps _ _ _) (fun p m => hq p ((by decide : ∀ p ∈ _, p ∈ ([.sys, .err, .dbg, .mgt] : List Part)) p m)))
    | (with_reducible show keepsBut _ _ (opHalt _ _); with_reducible refine keepsBut_of ?_ (opHalt_keeps _ _) (fun p m => hq p ((by decide : ∀ p ∈ _, p ∈ ([.sys, .err, .dbg, .mgt] : List Part)) p m)))
    | (with_reducible show keepsBut _ _ (setDev _ _); with_reducible refine keepsBut_of ?_ (setDev_keeps _ _) (fun p m => hq p ((by decide : ∀ p ∈ _, p ∈ ([.sys, .err, .dbg, .mgt] : List Part)) p m)))
    | (with_reducible show keepsBut _ _ (f _); with_reducible refine keepsBut_of ?_ (h_f _) (fun _ m => m))
    | with_reducible refine keepsBut_ite ?_ ?_
    | with_reducible refine keepsBut_doIf (fun _ => ?_) ?_
    | with_reducible refine keepsBut_each (fun _ _ => ?_) ?_
    | dsimp only [id]
    | split)

/-! Machine/MemOps.lean -/

theorem memEnq_keeps (u : MemUnit) (s : State) : keepsBut [.mem] s (memEnq u s) := by
  unfold memEnq
  try dsimp only
  repeat' (first
    | with_reducible exact keepsBut_refl _ _
    | (with_reducible show keepsBut _ _ (mMem _ _); with_reducible refine keepsBut_of ?_ (mMem_keeps _ _) (by decide))
    | with_reducible refine keepsBut_ite ?_ ?_
    | with_reducible refine keepsBut_doIf (fun _ => ?_) ?_
    | with_reducible refine keepsBut_each (fun _ _ => ?_) ?_
    | dsimp only [id]
    | split)

theorem memRead_keeps (req tag : Nat) (panic : Bool) (a n : Nat) (s : State) : keepsBut [.mem] s (memRead req tag panic a n s) := by
  unfold memRead
  try dsimp only
  repeat' (first
    | with_reducible exact keepsBut_refl _ _
    | (with_reducible show keepsBut _ _ (memEnq _ _); with_reducible refine keepsBut_of ?_ (memEnq_keeps _ _) (by decide))
    | with_reducible refine keepsBut_ite ?_ ?_
    | with_reducible refine keepsBut_doIf (fun _ => ?_) ?_
    | with_reducible refine keepsBut_each (fun _ _ => ?_) ?_
    | dsimp only [id]
    | split)

theorem memWrite_keeps (req tag a : Nat) (d : Bytes) (s : State) : keepsBut [.mem] s (memWrite req tag a d s) := by
  unfold memWrite
  try dsimp only
  repeat' (first
    | with_reducible exact keepsBut_refl _ _
    | (with_reducible show keepsBut _ _ (memEnq _ _); with_reducible refine keepsBut_of ?_ (memEnq_keeps _ _) (by decide))
    | with_reducible refine keepsBut_ite ?_ ?_
    | with_reducible refine keepsBut_doIf (fun _ => ?_) ?_
    | with_reducible refine keepsBut_each (fun _ _ => ?_) ?_
    | dsimp only [id]
    | split)

theorem takeTag_keeps (s : State) : keepsBut [.mem] s (takeTag s) := by
  unfold takeTag
  try dsimp only
  repeat' (first
    | with_reducible exact keepsBut_refl _ _
    | (with_reducible show keepsBut _ _ (mMem _ _); with_reducible refine keepsBut_of ?_ (mMem_keeps _ _) (by decide))
    | with_reducible refine keepsBut_ite ?_ ?_
    | with_reducible refine keepsBut_doIf (fun _ => ?_) ?_
    | with_reducible refine keepsBut_each (fun _ _ => ?_) ?_
    | dsimp only [id]
    | split)

theorem wpEnd_keeps (status : Nat) (data : Word) (s : State) : keepsBut [.dbg] s (wpEnd status data s) := by
  unfold wpEnd
  try dsimp only
  repeat' (first
    | with_reducible exact keepsBut_refl _ _
    | (with_reducible show keepsBut _ _ (mDbg _ _); with_reducible refine keepsBut_of ?_ (mDbg_keeps _ _) (by decide))
    | (with_reducible show keepsBut _ _ (emit _ _); with_reducible refine keepsBut_of ?_ (emit_keeps _ _) (by decide))
    | with_reducible refine keepsBut_ite ?_ ?_
    | with_reducible refine keepsBut_doIf (fun _ => ?_) ?_
    | with_reducible refine keepsBut_each (fun _ _ => ?_) ?_
    | dsimp only [id]
    | split)

theorem wpLost_keeps (p : Nat → Bool) (s : State) : keepsBut [.free, .dbg] s (wpLost p s) := by
  unfold wpLost
  try dsimp only
  repeat' (first
    | with_reducible exact keepsBut_refl _ _
    | (with_reducible show keepsBut _ _ (tickFree _); with_reducible refine keepsBut_of ?_ (tickFree_keeps _) (by decide))
    | (with_reducible show keepsBut _ _ (wpEnd _ _ _); with_reducible refine keepsBut_of ?_ (wpEnd_keeps _ _ _) (by decide))
    | with_reducible refine keepsBut_ite ?_ ?_
    | with_reducible refine keepsBut_doIf (fun _ => ?_) ?_
    | with_reducible refine keepsBut_each (fun _ _ => ?_) ?_
    | dsimp only [id]
    | split)

theorem compMoved_keeps (c n : Nat) (rd : Bool) (s : State) : keepsBut [.cmp] s (compMoved c n rd s) := by
  unfold compMoved
  try dsimp only
  repeat' (first
    | with_reducible exact keepsBut_refl _ _
    | (with_reducible show keepsBut _ _ (mCmp _ _); with_reducible refine keepsBut_of ?_ (mCmp_keeps _ _) (by decide))
    | (with_reducible show keepsBut _ _ (mComp _ _ _); with_reducible refine keepsBut_of ?_ (mComp_keeps _ _ _) (by decide))
    | with_reducible refine keepsBut_ite ?_ ?_
    | with_reducible refine keepsBut_doIf (fun _ => ?_) ?_
    | with_reducible refine keepsBut_each (fun _ _ => ?_) ?_
    | dsimp only [id]
    | split)

theorem headerQueue_keeps (c : Nat) (s : State) : keepsBut [.cmp, .mem] s (headerQueue c s) := by
  unfold headerQueue
  try dsimp only
  repeat' (first
    | with_reducible exact keepsBut_refl _ _
    | (with_reducible show keepsBut _ _ (memWrite _ _ _ _ _); with_reducible refine keepsBut_of ?_ (memWrite_keeps _ _ _ _ _) (by decide))
    | (with_reducible show keepsBut _ _ (mComp _ _ _); with_reducible refine keepsBut_of ?_ (mComp_keeps _ _ _) (by decide))
    | with_reducible refine keepsBut_ite ?_ ?_
    | with_reducible refine keepsBut_doIf (fun _ => ?_) ?_
    | with_reducible refine keepsBut_each (fun _ _ => ?_) ?_
    | dsimp only [id]
    | split)

theorem compServed_keeps (tag n : Nat) (rd : Bool) (s : State) : keepsBut [.cmp, .mem] s (compServed tag n rd s) := by
  unfold compServed
  try dsimp only
  repeat' (first
    | with_reducible exact keepsBut_refl _ _
    | (with_reducible show keepsBut _ _ (headerQueue _ _); with_reducible refine keepsBut_of ?_ (headerQueue_keeps _ _) (by decide))
    | (with_reducible show keepsBut _ _ (compMoved _ _ _ _); with_reducible refine keepsBut_of ?_ (compMoved_keeps _ _ _ _) (by decide))
    | with_reducible refine keepsBut_ite ?_ ?_
    | with_reducible refine keepsBut_doIf (fun _ => ?_) ?_
    | with_reducible refine keepsBut_each (fun _ _ => ?_) ?_
    | dsimp only [id]
    | split)

theorem tagServed_keeps (tag n : Nat) (got : Option (Nat × Bytes)) (s : State) : keepsBut [.free, .dbg, .tow, .cmp, .str, .mem] s (tagServed tag n got s) := by
  unfold tagServed
  try dsimp only
  repeat' (first
    | with_reducible exact keepsBut_refl _ _
    | (with_reducible show keepsBut _ _ (mStr _ _); with_reducible refine keepsBut_of ?_ (mStr_keeps _ _) (by decide))
    | (with_reducible show keepsBut _ _ (mTow _ _); with_reducible refine keepsBut_of ?_ (mTow_keeps _ _) (by decide))
    | (with_reducible show keepsBut _ _ (compServed _ _ _ _); with_reducible refine keepsBut_of ?_ (compServed_keeps _ _ _ _) (by decide))
    | (with_reducible show keepsBut _ _ (wpEnd _ _ _); with_reducible refine keepsBut_of ?_ (wpEnd_keeps _ _ _) (by decide))
    | (with_reducible show keepsBut _ _ (tickFree _); with_reducible refine keepsBut_of ?_ (tickFree_keeps _) (by decide))
    | with_reducible refine keepsBut_ite ?_ ?_
    | with_reducible refine keepsBut_doIf (fun _ => ?_) ?_
    | with_reducible refine keepsBut_each (fun _ _ => ?_) ?_
    | dsimp only [id]
    | split)

theorem admitUnit_keeps (inst m : Nat) (s : State) : keepsBut [.mem] s (admitUnit inst m s) := by
  unfold admitUnit
  try dsimp only
  repeat' (first
    | with_reducible exact keepsBut_refl _ _
    | (with_reducible show keepsBut _ _ (mMem _ _); with_reducible refine keepsBut_of ?_ (mMem_keeps _ _) (by decide))
    | (with_reducible show keepsBut _ _ (mChan _ _ _); with_reducible refine keepsBut_of ?_ (mChan_keeps _ _ _) (by decide))
    | with_reducible refine keepsBut_ite ?_ ?_
    | with_reducible refine keepsBut_doIf (fun _ => ?_) ?_
    | with_reducible refine keepsBut_each (fun _ _ => ?_) ?_
    | dsimp only [id]
    | split)

theorem grantUnits_keeps (inst m : Nat) : ∀ (n : Nat) (s : State), keepsBut [.mem] s (grantUnits inst m n s)
  | 0, s => keepsBut_refl _ s
  | n + 1, s => by
    unfold grantUnits
    split
    · exact keepsBut_of (admitUnit_keeps inst m s) (grantUnits_keeps inst m n _) (by decide)
    · exact keepsBut_refl _ s

theorem dramRound_keeps (inst : Nat) (s : State) : keepsBut [.mem] s (dramRound inst s) := by
  unfold dramRound
  try dsimp only
  repeat' (first
    | with_reducible exact keepsBut_refl _ _
    | (with_reducible show keepsBut _ _ (mArb _ _ _); with_reducible refine keepsBut_of ?_ (mArb_keeps _ _ _) (by decide))
    | (with_reducible show keepsBut _ _ (grantUnits _ _ _ _); with_reducible refine keepsBut_of ?_ (grantUnits_keeps _ _ _ _) (by decide))
    | with_reducible refine keepsBut_ite ?_ ?_
    | with_reducible refine keepsBut_doIf (fun _ => ?_) ?_
    | with_reducible refine keepsBut_each (fun _ _ => ?_) ?_
    | dsimp only [id]
    | split)

theorem lineRound_keeps (inst : Nat) (req : Nat → Bool) (s : State) : keepsBut [.mem] s (lineRound inst req s) := by
  unfold lineRound
  try dsimp only
  repeat' (first
    | with_reducible exact keepsBut_refl _ _
    | (with_reducible show keepsBut _ _ (mBank _ _ _); with_reducible refine keepsBut_of ?_ (mBank_keeps _ _ _) (by decide))
    | (with_reducible show keepsBut _ _ (mArb _ _ _); with_reducible refine keepsBut_of ?_ (mArb_keeps _ _ _) (by decide))
    | with_reducible refine keepsBut_ite ?_ ?_
    | with_reducible refine keepsBut_doIf (fun _ => ?_) ?_
    | with_reducible refine keepsBut_each (fun _ _ => ?_) ?_
    | dsimp only [id]
    | split)

theorem issueRefresh_keeps (ch : Nat) (s : State) : keepsBut [.mem] s (issueRefresh ch s) := by
  unfold issueRefresh
  try dsimp only
  repeat' (first
    | with_reducible exact keepsBut_refl _ _
    | (with_reducible show keepsBut _ _ (mChan _ _ _); with_reducible refine keepsBut_of ?_ (mChan_keeps _ _ _) (by decide))
    | (with_reducible show keepsBut _ _ (emit _ _); with_reducible refine keepsBut_of ?_ (emit_keeps _ _) (by decide))
    | with_reducible refine keepsBut_ite ?_ ?_
    | with_reducible refine keepsBut_doIf (fun _ => ?_) ?_
    | with_reducible refine keepsBut_each (fun _ _ => ?_) ?_
    | dsimp only [id]
    | split)

theorem checkAccess_keeps (ch ca : Nat) (wr : Bool) (s : State) : keepsBut [.mem] s (checkAccess ch ca wr s) := by
  unfold checkAccess
  try dsimp only
  repeat' (first
    | with_reducible exact keepsBut_refl _ _
    | (with_reducible show keepsBut _ _ (emit _ _); with_reducible refine keepsBut_of ?_ (emit_keeps _ _) (by decide))
    | (with_reducible show keepsBut _ _ (mChan _ _ _); with_reducible refine keepsBut_of ?_ (mChan_keeps _ _ _) (by decide))
    | with_reducible refine keepsBut_ite ?_ ?_
    | with_reducible refine keepsBut_doIf (fun _ => ?_) ?_
    | with_reducible refine keepsBut_each (fun _ _ => ?_) ?_
    | dsimp only [id]
    | split)

theorem writeUnit_keeps (ch ca : Nat) (w : List (Nat × Byte)) (s : State) : keepsBut [.mem] s (writeUnit ch ca w s) := by
  unfold writeUnit
  try dsimp only
  repeat' (first
    | with_reducible exact keepsBut_refl _ _
    | (with_reducible show keepsBut _ _ (mChan _ _ _); with_reducible refine keepsBut_of ?_ (mChan_keeps _ _ _) (by decide))
    | with_reducible refine keepsBut_ite ?_ ?_
    | with_reducible refine keepsBut_doIf (fun _ => ?_) ?_
    | with_reducible refine keepsBut_each (fun _ _ => ?_) ?_
    | dsimp only [id]
    | split)

theorem issueUnit_keeps (ch : Nat) (u : MemUnit) (s : State) : keepsBut [.free, .dbg, .tow, .cmp, .str, .mem] s (issueUnit ch u s) := by
  unfold issueUnit
  try dsimp only
  repeat' (first
    | with_reducible exact keepsBut_refl _ _
    | (with_reducible show keepsBut _ _ (mChan _ _ _); with_reducible refine keepsBut_of ?_ (mChan_keeps _ _ _) (by decide))
    | (with_reducible show keepsBut _ _ (mMem _ _); with_reducible refine keepsBut_of ?_ (mMem_keeps _ _) (by decide))
    | (with_reducible show keepsBut _ _ (tagServed _ _ _ _); with_reducible refine keepsBut_of ?_ (tagServed_keeps _ _ _ _) (by decide))
    | (with_reducible show keepsBut _ _ (checkAccess _ _ _ _); with_reducible refine keepsBut_of ?_ (checkAccess_keeps _ _ _ _) (by decide))
    | (with_reducible show keepsBut _ _ (emit _ _); with_reducible refine keepsBut_of ?_ (emit_keeps _ _) (by decide))
    | (with_reducible show keepsBut _ _ (writeUnit _ _ _ _); with_reducible refine keepsBut_of ?_ (writeUnit_keeps _ _ _ _) (by decide))
    | with_reducible refine keepsBut_ite ?_ ?_
    | with_reducible refine keepsBut_doIf (fun _ => ?_) ?_
    | with_reducible refine keepsBut_each (fun _ _ => ?_) ?_
    | dsimp only [id]
    | split)

theorem memFreeze_keeps (cause ch req syn ca : Nat) (s : State) : keepsBut [.free, .dbg, .mem] s (memFreeze cause ch req syn ca s) := by
  unfold memFreeze
  try dsimp only
  repeat' (first
    | with_reducible exact keepsBut_refl _ _
    | (with_reducible show keepsBut _ _ (mMem _ _); with_reducible refine keepsBut_of ?_ (mMem_keeps _ _) (by decide))
    | (with_reducible show keepsBut _ _ (wpLost _ _); with_reducible refine keepsBut_of ?_ (wpLost_keeps _ _) (by decide))
    | with_reducible refine keepsBut_ite ?_ ?_
    | with_reducible refine keepsBut_doIf (fun _ => ?_) ?_
    | with_reducible refine keepsBut_each (fun _ _ => ?_) ?_
    | dsimp only [id]
    | split)

theorem dramIssue_keeps (ch : Nat) (cmdBad : Bool) (s : State) : keepsBut [.free, .err, .dbg, .tow, .cmp, .str, .mem] s (dramIssue ch cmdBad s) := by
  unfold dramIssue
  try dsimp only
  repeat' (first
    | with_reducible exact keepsBut_refl _ _
    | (with_reducible show keepsBut _ _ (issueRefresh _ _); with_reducible refine keepsBut_of ?_ (issueRefresh_keeps _ _) (by decide))
    | (with_reducible show keepsBut _ _ (mChan _ _ _); with_reducible refine keepsBut_of ?_ (mChan_keeps _ _ _) (by decide))
    | (with_reducible show keepsBut _ _ (issueUnit _ _ _); with_reducible refine keepsBut_of ?_ (issueUnit_keeps _ _ _) (by decide))
    | (with_reducible show keepsBut _ _ (checkAccess _ _ _ _); with_reducible refine keepsBut_of ?_ (checkAccess_keeps _ _ _ _) (by decide))
    | (with_reducible show keepsBut _ _ (emit _ _); with_reducible refine keepsBut_of ?_ (emit_keeps _ _) (by decide))
    | (with_reducible show keepsBut _ _ (raise _ _ _ _); with_reducible refine keepsBut_of ?_ (raise_keeps _ _ _ _) (by decide))
    | (with_reducible show keepsBut _ _ (memFreeze _ _ _ _ _ _); with_reducible refine keepsBut_of ?_ (memFreeze_keeps _ _ _ _ _ _) (by decide))
    | with_reducible refine keepsBut_ite ?_ ?_
    | with_reducible refine keepsBut_doIf (fun _ => ?_) ?_
    | with_reducible refine keepsBut_each (fun _ _ => ?_) ?_
    | dsimp only [id]
    | split)

theorem wordsFixed_keeps (ch ca : Nat) (fl : List Flip) (s : State) : keepsBut [.err, .mem] s (wordsFixed ch ca fl s) := by
  unfold wordsFixed
  try dsimp only
  repeat' (first
    | with_reducible exact keepsBut_refl _ _
    | (with_reducible show keepsBut _ _ (raiseLim _ _ _ _ _ _); with_reducible refine keepsBut_of ?_ (raiseLim_keeps _ _ _ _ _ _) (by decide))
    | (with_reducible show keepsBut _ _ (mMem _ _); with_reducible refine keepsBut_of ?_ (mMem_keeps _ _) (by decide))
    | (with_reducible show keepsBut _ _ (mChan _ _ _); with_reducible refine keepsBut_of ?_ (mChan_keeps _ _ _) (by decide))
    | with_reducible refine keepsBut_ite ?_ ?_
    | with_reducible refine keepsBut_doIf (fun _ => ?_) ?_
    | with_reducible refine keepsBut_each (fun _ _ => ?_) ?_
    | dsimp only [id]
    | split)

theorem dramReturn_keeps (ch : Nat) (fl : List Flip) (s : State) : keepsBut [.free, .err, .dbg, .tow, .cmp, .str, .mem] s (dramReturn ch fl s) := by
  unfold dramReturn
  try dsimp only
  repeat' (first
    | with_reducible exact keepsBut_refl _ _
    | (with_reducible show keepsBut _ _ (wordsFixed _ _ _ _); with_reducible refine keepsBut_of ?_ (wordsFixed_keeps _ _ _ _) (by decide))
    | (with_reducible show keepsBut _ _ (mChan _ _ _); with_reducible refine keepsBut_of ?_ (mChan_keeps _ _ _) (by decide))
    | (with_reducible show keepsBut _ _ (raise _ _ _ _); with_reducible refine keepsBut_of ?_ (raise_keeps _ _ _ _) (by decide))
    | (with_reducible show keepsBut _ _ (memFreeze _ _ _ _ _ _); with_reducible refine keepsBut_of ?_ (memFreeze_keeps _ _ _ _ _ _) (by decide))
    | (with_reducible show keepsBut _ _ (tagServed _ _ _ _); with_reducible refine keepsBut_of ?_ (tagServed_keeps _ _ _ _) (by decide))
    | (with_reducible show keepsBut _ _ (checkAccess _ _ _ _); with_reducible refine keepsBut_of ?_ (checkAccess_keeps _ _ _ _) (by decide))
    | (with_reducible show keepsBut _ _ (emit _ _); with_reducible refine keepsBut_of ?_ (emit_keeps _ _) (by decide))
    | (with_reducible show keepsBut _ _ (writeUnit _ _ _ _); with_reducible refine keepsBut_of ?_ (writeUnit_keeps _ _ _ _) (by decide))
    | with_reducible refine keepsBut_ite ?_ ?_
    | with_reducible refine keepsBut_doIf (fun _ => ?_) ?_
    | with_reducible refine keepsBut_each (fun _ _ => ?_) ?_
    | dsimp only [id]
    | split)

theorem refreshFalls_keeps (ch : Nat) (s : State) : keepsBut [.mem] s (refreshFalls ch s) := by
  unfold refreshFalls
  try dsimp only
  repeat' (first
    | with_reducible exact keepsBut_refl _ _
    | (with_reducible show keepsBut _ _ (mChan _ _ _); with_reducible refine keepsBut_of ?_ (mChan_keeps _ _ _) (by decide))
    | (with_reducible show keepsBut _ _ (issueRefresh _ _); with_reducible refine keepsBut_of ?_ (issueRefresh_keeps _ _) (by decide))
    | with_reducible refine keepsBut_ite ?_ ?_
    | with_reducible refine keepsBut_doIf (fun _ => ?_) ?_
    | with_reducible refine keepsBut_each (fun _ _ => ?_) ?_
    | dsimp only [id]
    | split)

theorem delayUpdate_keeps (ch : Nat) (s : State) : keepsBut [.mem] s (delayUpdate ch s) := by
  unfold delayUpdate
  try dsimp only
  repeat' (first
    | with_reducible exact keepsBut_refl _ _
    | (with_reducible show keepsBut _ _ (mChan _ _ _); with_reducible refine keepsBut_of ?_ (mChan_keeps _ _ _) (by decide))
    | with_reducible refine keepsBut_ite ?_ ?_
    | with_reducible refine keepsBut_doIf (fun _ => ?_) ?_
    | with_reducible refine keepsBut_each (fun _ _ => ?_) ?_
    | dsimp only [id]
    | split)

theorem placeUpdate_keeps (s : State) : keepsBut [.plc] s (placeUpdate s) := by
  unfold placeUpdate
  try dsimp only
  repeat' (first
    | with_reducible exact keepsBut_refl _ _
    | with_reducible refine keepsBut_ite ?_ ?_
    | with_reducible refine keepsBut_doIf (fun _ => ?_) ?_
    | with_reducible refine keepsBut_each (fun _ _ => ?_) ?_
    | dsimp only [id]
    | split
    | (intro p hp; cases p <;> first | exact absurd (by decide) hp | rfl))

theorem chanOffline_keeps (ch : Nat) (s : State) : keepsBut [.free, .dbg, .mem] s (chanOffline ch s) := by
  unfold chanOffline
  try dsimp only
  repeat' (first
    | with_reducible exact keepsBut_refl _ _
    | (with_reducible show keepsBut _ _ (wpLost _ _); with_reducible refine keepsBut_of ?_ (wpLost_keeps _ _) (by decide))
    | (with_reducible show keepsBut _ _ (arbDropped _); with_reducible refine keepsBut_of ?_ (arbDropped_keeps _) (by decide))
    | (with_reducible show keepsBut _ _ (mMem _ _); with_reducible refine keepsBut_of ?_ (mMem_keeps _ _) (by decide))
    | (with_reducible show keepsBut _ _ (mChan _ _ _); with_reducible refine keepsBut_of ?_ (mChan_keeps _ _ _) (by decide))
    | with_reducible refine keepsBut_ite ?_ ?_
    | with_reducible refine keepsBut_doIf (fun _ => ?_) ?_
    | with_reducible refine keepsBut_each (fun _ _ => ?_) ?_
    | dsimp only [id]
    | split)

theorem bankRefuse_keeps (b : Nat) (s : State) : keepsBut [.err, .mem] s (bankRefuse b s) := by
  unfold bankRefuse
  try dsimp only
  repeat' (first
    | with_reducible exact keepsBut_refl _ _
    | (with_reducible show keepsBut _ _ (mBank _ _ _); with_reducible refine keepsBut_of ?_ (mBank_keeps _ _ _) (by decide))
    | (with_reducible show keepsBut _ _ (raiseLim _ _ _ _ _ _); with_reducible refine keepsBut_of ?_ (raiseLim_keeps _ _ _ _ _ _) (by decide))
    | with_reducible refine keepsBut_ite ?_ ?_
    | with_reducible refine keepsBut_doIf (fun _ => ?_) ?_
    | with_reducible refine keepsBut_each (fun _ _ => ?_) ?_
    | dsimp only [id]
    | split)

theorem bankEcc_keeps {qs : List Part} {f : State → State} (hq : ∀ p ∈ ([.err, .mem] : List Part), p ∈ qs) (h_f : ∀ u, keepsBut qs u (f u)) (b o : Nat) (e : Ecc) (s : State) : keepsBut qs s (bankEcc b o e f s) := by
  unfold bankEcc
  try dsimp only
  repeat' (first
    | with_reducible exact keepsBut_refl _ _
    | (with_reducible show keepsBut _ _ (raiseLim _ _ _ _ _ _); with_reducible refine keepsBut_of ?_ (raiseLim_keeps _ _ _ _ _ _) (fun p m => hq p ((by decide : ∀ p ∈ _, p ∈ ([.err, .mem] : List Part)) p m)))
    | (with_reducible show keepsBut _ _ (mBank _ _ _); with_reducible refine keepsBut_of ?_ (mBank_keeps _ _ _) (fun p m => hq p ((by decide : ∀ p ∈ _, p ∈ ([.err, .mem] : List Part)) p m)))
    | (with_reducible show keepsBut _ _ (raise _ _ _ _); with_reducible refine keepsBut_of ?_ (raise_keeps _ _ _ _) (fun p m => hq p ((by decide : ∀ p ∈ _, p ∈ ([.err, .mem] : List Part)) p m)))
    | (with_reducible show keepsBut _ _ (f _); with_reducible refine keepsBut_of ?_ (h_f _) (fun _ m => m))
    | with_reducible refine keepsBut_ite ?_ ?_
    | with_reducible refine keepsBut_doIf (fun _ => ?_) ?_
    | with_reducible refine keepsBut_each (fun _ _ => ?_) ?_
    | dsimp only [id]
    | split)

theorem bankGrant_keeps (b r : Nat) (s : State) : keepsBut [.mem] s (bankGrant b r s) := by
  unfold bankGrant
  try dsimp only
  repeat' (first
    | with_reducible exact keepsBut_refl _ _
    | (with_reducible show keepsBut _ _ (mArb _ _ _); with_reducible refine keepsBut_of ?_ (mArb_keeps _ _ _) (by decide))
    | (with_reducible show keepsBut _ _ (lineRound _ _ _); with_reducible refine keepsBut_of ?_ (lineRound_keeps _ _ _) (by decide))
    | with_reducible refine keepsBut_ite ?_ ?_
    | with_reducible refine keepsBut_doIf (fun _ => ?_) ?_
    | with_reducible refine keepsBut_each (fun _ _ => ?_) ?_
    | dsimp only [id]
    | split)

theorem bankAnswer_keeps (b r : Nat) (d : Option Bytes) (s : State) : keepsBut [] s (bankAnswer b r d s) := by
  unfold bankAnswer
  try dsimp only
  repeat' (first
    | with_reducible exact keepsBut_refl _ _
    | (with_reducible show keepsBut _ _ (emit _ _); with_reducible refine keepsBut_of ?_ (emit_keeps _ _) (by decide))
    | with_reducible refine keepsBut_ite ?_ ?_
    | with_reducible refine keepsBut_doIf (fun _ => ?_) ?_
    | with_reducible refine keepsBut_each (fun _ _ => ?_) ?_
    | dsimp only [id]
    | split)

theorem bankOp_keeps {qs : List Part} {f : State → State} (hq : ∀ p ∈ ([.err, .mem] : List Part), p ∈ qs) (h_f : ∀ u, keepsBut qs u (f u)) (b r o n al : Nat) (fl : List Flip) (s : State) : keepsBut qs s (bankOp b r o n al fl f s) := by
  unfold bankOp
  try dsimp only
  repeat' (first
    | with_reducible exact keepsBut_refl _ _
    | (with_reducible show keepsBut _ _ (bankGrant _ _ _); with_reducible refine keepsBut_of ?_ (bankGrant_keeps _ _ _) (fun p m => hq p ((by decide : ∀ p ∈ _, p ∈ ([.err, .mem] : List Part)) p m)))
    | (with_reducible show keepsBut _ _ (bankAnswer _ _ _ _); with_reducible refine keepsBut_of ?_ (bankAnswer_keeps _ _ _ _) (fun p m => hq p ((by decide : ∀ p ∈ _, p ∈ ([.err, .mem] : List Part)) p m)))
    | (with_reducible show keepsBut _ _ (bankRefuse _ _); with_reducible refine keepsBut_of ?_ (bankRefuse_keeps _ _) (fun p m => hq p ((by decide : ∀ p ∈ _, p ∈ ([.err, .mem] : List Part)) p m)))
    | (with_reducible show keepsBut _ _ (bankEcc _ _ _ _ _); with_reducible refine keepsBut_of ?_ (bankEcc_keeps (qs := qs) (fun p m => hq p ((by decide : ∀ p ∈ _, p ∈ ([.err, .mem] : List Part)) p m)) (fun _ => ?_) _ _ _ _) (fun _ m => m))
    | (with_reducible show keepsBut _ _ (f _); with_reducible refine keepsBut_of ?_ (h_f _) (fun _ m => m))
    | with_reducible refine keepsBut_ite ?_ ?_
    | with_reducible refine keepsBut_doIf (fun _ => ?_) ?_
    | with_reducible refine keepsBut_each (fun _ _ => ?_) ?_
    | dsimp only [id]
    | split)

theorem bankAddAt_keeps (b o : Nat) (sat : Bool) (v : Nat) (s : State) : keepsBut [.mem] s (bankAddAt b o sat v s) := by
  unfold bankAddAt
  try dsimp only
  repeat' (first
    | with_reducible exact keepsBut_refl _ _
    | (with_reducible show keepsBut _ _ (bankPut _ _ _ _); with_reducible refine keepsBut_of ?_ (bankPut_keeps _ _ _ _) (by decide))
    | with_reducible refine keepsBut_ite ?_ ?_
    | with_reducible refine keepsBut_doIf (fun _ => ?_) ?_
    | with_reducible refine keepsBut_each (fun _ _ => ?_) ?_
    | dsimp only [id]
    | split)

/-! Machine/Lanes.lean -/

theorem laneSend_keeps (l : Nat) (syms : List Sym) (s : State) : keepsBut [] s (laneSend l syms s) := by
  unfold laneSend
  try dsimp only
  repeat' (first
    | with_reducible exact keepsBut_refl _ _
    | (with_reducible show keepsBut _ _ (emit _ _); with_reducible refine keepsBut_of ?_ (emit_keeps _ _) (by decide))
    | with_reducible refine keepsBut_ite ?_ ?_
    | with_reducible refine keepsBut_doIf (fun _ => ?_) ?_
    | with_reducible refine keepsBut_each (fun _ _ => ?_) ?_
    | dsimp only [id]
    | split)

theorem gulOut_keeps (p : Nat) (f : Bytes) (s : State) : keepsBut [] s (gulOut p f s) := by
  unfold gulOut
  try dsimp only
  repeat' (first
    | with_reducible exact keepsBut_refl _ _
    | (with_reducible show keepsBut _ _ (laneSend _ _ _); with_reducible refine keepsBut_of ?_ (laneSend_keeps _ _ _) (by decide))
    | with_reducible refine keepsBut_ite ?_ ?_
    | with_reducible refine keepsBut_doIf (fun _ => ?_) ?_
    | with_reducible refine keepsBut_each (fun _ _ => ?_) ?_
    | dsimp only [id]
    | split)

theorem lanesIdle_keeps (s : State) : keepsBut [] s (lanesIdle s) := by
  unfold lanesIdle
  try dsimp only
  repeat' (first
    | with_reducible exact keepsBut_refl _ _
    | (with_reducible show keepsBut _ _ (emit _ _); with_reducible refine keepsBut_of ?_ (emit_keeps _ _) (by decide))
    | with_reducible refine keepsBut_ite ?_ ?_
    | with_reducible refine keepsBut_doIf (fun _ => ?_) ?_
    | with_reducible refine keepsBut_each (fun _ _ => ?_) ?_
    | dsimp only [id]
    | split)

/-! Machine/PairOps.lean -/

theorem tetherSend_keeps (ty : Nat) (body : Bytes) (s : State) : keepsBut [.par] s (tetherSend ty body s) := by
  unfold tetherSend
  try dsimp only
  repeat' (first
    | with_reducible exact keepsBut_refl _ _
    | (with_reducible show keepsBut _ _ (mPar _ _); with_reducible refine keepsBut_of ?_ (mPar_keeps _ _) (by decide))
    | (with_reducible show keepsBut _ _ (emit _ _); with_reducible refine keepsBut_of ?_ (emit_keeps _ _) (by decide))
    | with_reducible refine keepsBut_ite ?_ ?_
    | with_reducible refine keepsBut_doIf (fun _ => ?_) ?_
    | with_reducible refine keepsBut_each (fun _ _ => ?_) ?_
    | dsimp only [id]
    | split)

theorem sendNzlChange_keeps (noz e : Nat) (lc : Option Nat) (s : State) : keepsBut [.par] s (sendNzlChange noz e lc s) := by
  unfold sendNzlChange
  try dsimp only
  repeat' (first
    | with_reducible exact keepsBut_refl _ _
    | (with_reducible show keepsBut _ _ (tetherSend _ _ _); with_reducible refine keepsBut_of ?_ (tetherSend_keeps _ _ _) (by decide))
    | with_reducible refine keepsBut_ite ?_ ?_
    | with_reducible refine keepsBut_doIf (fun _ => ?_) ?_
    | with_reducible refine keepsBut_each (fun _ _ => ?_) ?_
    | dsimp only [id]
    | split)

theorem sendKnotReq_keeps (kind msn : Nat) (rc : Int) (s : State) : keepsBut [.par] s (sendKnotReq kind msn rc s) := by
  unfold sendKnotReq
  try dsimp only
  repeat' (first
    | with_reducible exact keepsBut_refl _ _
    | (with_reducible show keepsBut _ _ (tetherSend _ _ _); with_reducible refine keepsBut_of ?_ (tetherSend_keeps _ _ _) (by decide))
    | with_reducible refine keepsBut_ite ?_ ?_
    | with_reducible refine keepsBut_doIf (fun _ => ?_) ?_
    | with_reducible refine keepsBut_each (fun _ _ => ?_) ?_
    | dsimp only [id]
    | split)

theorem sendState_keeps (code lc : Nat) (s : State) : keepsBut [.par] s (sendState code lc s) := by
  unfold sendState
  try dsimp only
  repeat' (first
    | with_reducible exact keepsBut_refl _ _
    | (with_reducible show keepsBut _ _ (tetherSend _ _ _); with_reducible refine keepsBut_of ?_ (tetherSend_keeps _ _ _) (by decide))
    | with_reducible refine keepsBut_ite ?_ ?_
    | with_reducible refine keepsBut_doIf (fun _ => ?_) ?_
    | with_reducible refine keepsBut_each (fun _ _ => ?_) ?_
    | dsimp only [id]
    | split)

theorem parLayerStart_keeps (s : State) : keepsBut [.par] s (parLayerStart s) := by
  unfold parLayerStart
  try dsimp only
  repeat' (first
    | with_reducible exact keepsBut_refl _ _
    | (with_reducible show keepsBut _ _ (mPar _ _); with_reducible refine keepsBut_of ?_ (mPar_keeps _ _) (by decide))
    | with_reducible refine keepsBut_ite ?_ ?_
    | with_reducible refine keepsBut_doIf (fun _ => ?_) ?_
    | with_reducible refine keepsBut_each (fun _ _ => ?_) ?_
    | dsimp only [id]
    | split)

/-! Machine/NozzleOps.lean -/

theorem journal_keeps (ty noz old new cause : Nat) (lc : Option Nat) (s : State) : keepsBut [.nzl] s (journal ty noz old new cause lc s) := by
  unfold journal
  try dsimp only
  repeat' (first
    | with_reducible exact keepsBut_refl _ _
    | (with_reducible show keepsBut _ _ (mNzl _ _); with_reducible refine keepsBut_of ?_ (mNzl_keeps _ _) (by decide))
    | with_reducible refine keepsBut_ite ?_ ?_
    | with_reducible refine keepsBut_doIf (fun _ => ?_) ?_
    | with_reducible refine keepsBut_each (fun _ _ => ?_) ?_
    | dsimp only [id]
    | split)

theorem gateQueue_keeps (n : Nat) (s : State) : keepsBut [.err, .gat] s (gateQueue n s) := by
  unfold gateQueue
  try dsimp only
  repeat' (first
    | with_reducible exact keepsBut_refl _ _
    | (with_reducible show keepsBut _ _ (mGat _ _ _); with_reducible refine keepsBut_of ?_ (mGat_keeps _ _ _) (by decide))
    | (with_reducible show keepsBut _ _ (notice _ _ _); with_reducible refine keepsBut_of ?_ (notice_keeps _ _ _) (by decide))
    | with_reducible refine keepsBut_ite ?_ ?_
    | with_reducible refine keepsBut_doIf (fun _ => ?_) ?_
    | with_reducible refine keepsBut_each (fun _ _ => ?_) ?_
    | dsimp only [id]
    | split)

theorem offerLost_keeps (src layer : Nat) (line : Int) (reason : Nat) (s : State) : keepsBut [.err, .tow, .nzl] s (offerLost src layer line reason s) := by
  unfold offerLost
  try dsimp only
  repeat' (first
    | with_reducible exact keepsBut_refl _ _
    | (with_reducible show keepsBut _ _ (mNzl _ _); with_reducible refine keepsBut_of ?_ (mNzl_keeps _ _) (by decide))
    | (with_reducible show keepsBut _ _ (faultErr _ _ _); with_reducible refine keepsBut_of ?_ (faultErr_keeps _ _ _) (by decide))
    | (with_reducible show keepsBut _ _ (mLayer _ _ _); with_reducible refine keepsBut_of ?_ (mLayer_keeps _ _ _) (by decide))
    | with_reducible refine keepsBut_ite ?_ ?_
    | with_reducible refine keepsBut_doIf (fun _ => ?_) ?_
    | with_reducible refine keepsBut_each (fun _ _ => ?_) ?_
    | dsimp only [id]
    | split)

theorem evalOne_keeps (log : Bool) (n : Nat) (s : State) : keepsBut [.err, .nzl] s (evalOne log n s) := by
  unfold evalOne
  try dsimp only
  repeat' (first
    | with_reducible exact keepsBut_refl _ _
    | (with_reducible show keepsBut _ _ (mNzl _ _); with_reducible refine keepsBut_of ?_ (mNzl_keeps _ _) (by decide))
    | (with_reducible show keepsBut _ _ (notice _ _ _); with_reducible refine keepsBut_of ?_ (notice_keeps _ _ _) (by decide))
    | with_reducible refine keepsBut_ite ?_ ?_
    | with_reducible refine keepsBut_doIf (fun _ => ?_) ?_
    | with_reducible refine keepsBut_each (fun _ _ => ?_) ?_
    | dsimp only [id]
    | split)

theorem laneNew_keeps (src tgt diff : Nat) (s : State) : keepsBut [.err, .tow, .nzl] s (laneNew src tgt diff s) := by
  unfold laneNew
  try dsimp only
  repeat' (first
    | with_reducible exact keepsBut_refl _ _
    | (with_reducible show keepsBut _ _ (mNzl _ _); with_reducible refine keepsBut_of ?_ (mNzl_keeps _ _) (by decide))
    | (with_reducible show keepsBut _ _ (offerLost _ _ _ _ _); with_reducible refine keepsBut_of ?_ (offerLost_keeps _ _ _ _ _) (by decide))
    | with_reducible refine keepsBut_ite ?_ ?_
    | with_reducible refine keepsBut_doIf (fun _ => ?_) ?_
    | with_reducible refine keepsBut_each (fun _ _ => ?_) ?_
    | dsimp only [id]
    | split)

theorem settleLanes_keeps (p : Nat → Bool) (s : State) : keepsBut [.err, .tow, .nzl] s (settleLanes p s) := by
  unfold settleLanes
  try dsimp only
  repeat' (first
    | with_reducible exact keepsBut_refl _ _
    | (with_reducible show keepsBut _ _ (offerLost _ _ _ _ _); with_reducible refine keepsBut_of ?_ (offerLost_keeps _ _ _ _ _) (by decide))
    | (with_reducible show keepsBut _ _ (mNzl _ _); with_reducible refine keepsBut_of ?_ (mNzl_keeps _ _) (by decide))
    | (with_reducible show keepsBut _ _ (laneNew _ _ _ _); with_reducible refine keepsBut_of ?_ (laneNew_keeps _ _ _ _) (by decide))
    | (with_reducible show keepsBut _ _ (faultErr _ _ _); with_reducible refine keepsBut_of ?_ (faultErr_keeps _ _ _) (by decide))
    | with_reducible refine keepsBut_ite ?_ ?_
    | with_reducible refine keepsBut_doIf (fun _ => ?_) ?_
    | with_reducible refine keepsBut_each (fun _ _ => ?_) ?_
    | dsimp only [id]
    | split)

theorem evalDetours_keeps (s : State) : keepsBut [.err, .tow, .nzl] s (evalDetours s) := by
  unfold evalDetours
  try dsimp only
  repeat' (first
    | with_reducible exact keepsBut_refl _ _
    | (with_reducible show keepsBut _ _ (mNzl _ _); with_reducible refine keepsBut_of ?_ (mNzl_keeps _ _) (by decide))
    | (with_reducible show keepsBut _ _ (evalOne _ _ _); with_reducible refine keepsBut_of ?_ (evalOne_keeps _ _ _) (by decide))
    | (with_reducible show keepsBut _ _ (settleLanes _ _); with_reducible refine keepsBut_of ?_ (settleLanes_keeps _ _) (by decide))
    | with_reducible refine keepsBut_ite ?_ ?_
    | with_reducible refine keepsBut_doIf (fun _ => ?_) ?_
    | with_reducible refine keepsBut_each (fun _ _ => ?_) ?_
    | dsimp only [id]
    | split)

theorem evalAfterSwap_keeps (n : Nat) (was : Bool) (s : State) : keepsBut [.err, .tow, .nzl] s (evalAfterSwap n was s) := by
  unfold evalAfterSwap
  try dsimp only
  repeat' (first
    | with_reducible exact keepsBut_refl _ _
    | (with_reducible show keepsBut _ _ (evalOne _ _ _); with_reducible refine keepsBut_of ?_ (evalOne_keeps _ _ _) (by decide))
    | (with_reducible show keepsBut _ _ (settleLanes _ _); with_reducible refine keepsBut_of ?_ (settleLanes_keeps _ _) (by decide))
    | with_reducible refine keepsBut_ite ?_ ?_
    | with_reducible refine keepsBut_doIf (fun _ => ?_) ?_
    | with_reducible refine keepsBut_each (fun _ _ => ?_) ?_
    | dsimp only [id]
    | split)

theorem keepOldEntry_keeps (n e : Nat) (s : State) : keepsBut [.fir] s (keepOldEntry n e s) := by
  unfold keepOldEntry
  try dsimp only
  repeat' (first
    | with_reducible exact keepsBut_refl _ _
    | (with_reducible show keepsBut _ _ (mPort _ _ _); with_reducible refine keepsBut_of ?_ (mPort_keeps _ _ _) (by decide))
    | with_reducible refine keepsBut_ite ?_ ?_
    | with_reducible refine keepsBut_doIf (fun _ => ?_) ?_
    | with_reducible refine keepsBut_each (fun _ _ => ?_) ?_
    | dsimp only [id]
    | split)

theorem nozSwap_keeps (n new cause : Nat) (lc : Option Nat) (s : State) : keepsBut [.err, .tow, .fir, .nzl, .gat, .mem] s (nozSwap n new cause lc s) := by
  unfold nozSwap
  try dsimp only
  repeat' (first
    | with_reducible exact keepsBut_refl _ _
    | (with_reducible show keepsBut _ _ (notice _ _ _); with_reducible refine keepsBut_of ?_ (notice_keeps _ _ _) (by decide))
    | (with_reducible show keepsBut _ _ (bankPut _ _ _ _); with_reducible refine keepsBut_of ?_ (bankPut_keeps _ _ _ _) (by decide))
    | (with_reducible show keepsBut _ _ (journal _ _ _ _ _ _ _); with_reducible refine keepsBut_of ?_ (journal_keeps _ _ _ _ _ _ _) (by decide))
    | (with_reducible show keepsBut _ _ (gateQueue _ _); with_reducible refine keepsBut_of ?_ (gateQueue_keeps _ _) (by decide))
    | (with_reducible show keepsBut _ _ (evalAfterSwap _ _ _); with_reducible refine keepsBut_of ?_ (evalAfterSwap_keeps _ _ _) (by decide))
    | (with_reducible show keepsBut _ _ (keepOldEntry _ _ _); with_reducible refine keepsBut_of ?_ (keepOldEntry_keeps _ _ _) (by decide))
    | with_reducible refine keepsBut_ite ?_ ?_
    | with_reducible refine keepsBut_doIf (fun _ => ?_) ?_
    | with_reducible refine keepsBut_each (fun _ _ => ?_) ?_
    | dsimp only [id]
    | split)

theorem nozWrite_keeps (o : Nat) (d : Bytes) (s : State) : keepsBut [.err, .tow, .fir, .nzl, .gat, .mem] s (nozWrite o d s) := by
  unfold nozWrite
  try dsimp only
  repeat' (first
    | with_reducible exact keepsBut_refl _ _
    | (with_reducible show keepsBut _ _ (nozSwap _ _ _ _ _); with_reducible refine keepsBut_of ?_ (nozSwap_keeps _ _ _ _ _) (by decide))
    | with_reducible refine keepsBut_ite ?_ ?_
    | with_reducible refine keepsBut_doIf (fun _ => ?_) ?_
    | with_reducible refine keepsBut_each (fun _ _ => ?_) ?_
    | dsimp only [id]
    | split)

theorem gateAgain_keeps (conf : Word) (r n old new : Nat) (s : State) : keepsBut [.err, .gat] s (gateAgain conf r n old new s) := by
  unfold gateAgain
  try dsimp only
  repeat' (first
    | with_reducible exact keepsBut_refl _ _
    | (with_reducible show keepsBut _ _ (notice _ _ _); with_reducible refine keepsBut_of ?_ (notice_keeps _ _ _) (by decide))
    | (with_reducible show keepsBut _ _ (gateQueue _ _); with_reducible refine keepsBut_of ?_ (gateQueue_keeps _ _) (by decide))
    | with_reducible refine keepsBut_ite ?_ ?_
    | with_reducible refine keepsBut_doIf (fun _ => ?_) ?_
    | with_reducible refine keepsBut_each (fun _ _ => ?_) ?_
    | dsimp only [id]
    | split)

theorem nzApply_keeps (c : NzlChange) (lc : Option Nat) (s : State) : keepsBut [.free, .err, .tow, .fir, .nzl, .gat, .mem] s (nzApply c lc s) := by
  unfold nzApply
  try dsimp only
  repeat' (first
    | with_reducible exact keepsBut_refl _ _
    | (with_reducible show keepsBut _ _ (notice _ _ _); with_reducible refine keepsBut_of ?_ (notice_keeps _ _ _) (by decide))
    | (with_reducible show keepsBut _ _ (nozSwap _ _ _ _ _); with_reducible refine keepsBut_of ?_ (nozSwap_keeps _ _ _ _ _) (by decide))
    | (with_reducible show keepsBut _ _ (bankGrant _ _ _); with_reducible refine keepsBut_of ?_ (bankGrant_keeps _ _ _) (by decide))
    | (with_reducible show keepsBut _ _ (gateAgain _ _ _ _ _ _); with_reducible refine keepsBut_of ?_ (gateAgain_keeps _ _ _ _ _ _) (by decide))
    | (with_reducible show keepsBut _ _ (tickFree _); with_reducible refine keepsBut_of ?_ (tickFree_keeps _) (by decide))
    | with_reducible refine keepsBut_ite ?_ ?_
    | with_reducible refine keepsBut_doIf (fun _ => ?_) ?_
    | with_reducible refine keepsBut_each (fun _ _ => ?_) ?_
    | dsimp only [id]
    | split)

theorem nzRefill_keeps (s : State) : keepsBut [.nzl] s (nzRefill s) := by
  unfold nzRefill
  try dsimp only
  repeat' (first
    | with_reducible exact keepsBut_refl _ _
    | (with_reducible show keepsBut _ _ (mNzl _ _); with_reducible refine keepsBut_of ?_ (mNzl_keeps _ _) (by decide))
    | with_reducible refine keepsBut_ite ?_ ?_
    | with_reducible refine keepsBut_doIf (fun _ => ?_) ?_
    | with_reducible refine keepsBut_each (fun _ _ => ?_) ?_
    | dsimp only [id]
    | split)

theorem nzTake_keeps (c : NzlChange) (lc : Option Nat) (s : State) : keepsBut [.free, .err, .tow, .fir, .nzl, .gat, .mem] s (nzTake c lc s) := by
  unfold nzTake
  try dsimp only
  repeat' (first
    | with_reducible exact keepsBut_refl _ _
    | (with_reducible show keepsBut _ _ (mNzl _ _); with_reducible refine keepsBut_of ?_ (mNzl_keeps _ _) (by decide))
    | (with_reducible show keepsBut _ _ (nzApply _ _ _); with_reducible refine keepsBut_of ?_ (nzApply_keeps _ _ _) (by decide))
    | (with_reducible show keepsBut _ _ (nzRefill _); with_reducible refine keepsBut_of ?_ (nzRefill_keeps _) (by decide))
    | with_reducible refine keepsBut_ite ?_ ?_
    | with_reducible refine keepsBut_doIf (fun _ => ?_) ?_
    | with_reducible refine keepsBut_each (fun _ _ => ?_) ?_
    | dsimp only [id]
    | split)

theorem nzLate_keeps (c : NzlChange) (lc : Nat) (s : State) : keepsBut [.err, .nzl] s (nzLate c lc s) := by
  unfold nzLate
  try dsimp only
  repeat' (first
    | with_reducible exact keepsBut_refl _ _
    | (with_reducible show keepsBut _ _ (mNzl _ _); with_reducible refine keepsBut_of ?_ (mNzl_keeps _ _) (by decide))
    | (with_reducible show keepsBut _ _ (notice _ _ _); with_reducible refine keepsBut_of ?_ (notice_keeps _ _ _) (by decide))
    | with_reducible refine keepsBut_ite ?_ ?_
    | with_reducible refine keepsBut_doIf (fun _ => ?_) ?_
    | with_reducible refine keepsBut_each (fun _ _ => ?_) ?_
    | dsimp only [id]
    | split)

theorem nzResume_keeps (s : State) : keepsBut [.nzl] s (nzResume s) := by
  unfold nzResume
  try dsimp only
  repeat' (first
    | with_reducible exact keepsBut_refl _ _
    | (with_reducible show keepsBut _ _ (mNzl _ _); with_reducible refine keepsBut_of ?_ (mNzl_keeps _ _) (by decide))
    | with_reducible refine keepsBut_ite ?_ ?_
    | with_reducible refine keepsBut_doIf (fun _ => ?_) ?_
    | with_reducible refine keepsBut_each (fun _ _ => ?_) ?_
    | dsimp only [id]
    | split)

theorem nzSwapDue_keeps (c : NzlChange) (s : State) : keepsBut [.free, .err, .tow, .fir, .nzl, .gat, .mem] s (nzSwapDue c s) := by
  unfold nzSwapDue
  try dsimp only
  repeat' (first
    | with_reducible exact keepsBut_refl _ _
    | (with_reducible show keepsBut _ _ (nzTake _ _ _); with_reducible refine keepsBut_of ?_ (nzTake_keeps _ _ _) (by decide))
    | (with_reducible show keepsBut _ _ (nzLate _ _ _); with_reducible refine keepsBut_of ?_ (nzLate_keeps _ _ _) (by decide))
    | with_reducible refine keepsBut_ite ?_ ?_
    | with_reducible refine keepsBut_doIf (fun _ => ?_) ?_
    | with_reducible refine keepsBut_each (fun _ _ => ?_) ?_
    | dsimp only [id]
    | split)

theorem nzBefore_keeps (p lc : Nat) (s : State) : keepsBut [.free, .err, .tow, .fir, .nzl, .gat, .mem] s (nzBefore p lc s) := by
  unfold nzBefore
  try dsimp only
  repeat' (first
    | with_reducible exact keepsBut_refl _ _
    | (with_reducible show keepsBut _ _ (mNzl _ _); with_reducible refine keepsBut_of ?_ (mNzl_keeps _ _) (by decide))
    | (with_reducible show keepsBut _ _ (nzTake _ _ _); with_reducible refine keepsBut_of ?_ (nzTake_keeps _ _ _) (by decide))
    | (with_reducible show keepsBut _ _ (nzLate _ _ _); with_reducible refine keepsBut_of ?_ (nzLate_keeps _ _ _) (by decide))
    | with_reducible refine keepsBut_ite ?_ ?_
    | with_reducible refine keepsBut_doIf (fun _ => ?_) ?_
    | with_reducible refine keepsBut_each (fun _ _ => ?_) ?_
    | dsimp only [id]
    | split)

theorem nzGridClosed_keeps (p : Nat → Bool) (s : State) : keepsBut [.free, .err, .tow, .fir, .nzl, .gat, .mem] s (nzGridClosed p s) := by
  unfold nzGridClosed
  try dsimp only
  repeat' (first
    | with_reducible exact keepsBut_refl _ _
    | (with_reducible show keepsBut _ _ (mNzl _ _); with_reducible refine keepsBut_of ?_ (mNzl_keeps _ _) (by decide))
    | (with_reducible show keepsBut _ _ (nzTake _ _ _); with_reducible refine keepsBut_of ?_ (nzTake_keeps _ _ _) (by decide))
    | with_reducible refine keepsBut_ite ?_ ?_
    | with_reducible refine keepsBut_doIf (fun _ => ?_) ?_
    | with_reducible refine keepsBut_each (fun _ _ => ?_) ?_
    | dsimp only [id]
    | split)

theorem nzSubmit_keeps (c : NzlChange) (s : State) : keepsBut [.free, .err, .tow, .fir, .nzl, .gat, .mem, .par] s (nzSubmit c s) := by
  unfold nzSubmit
  try dsimp only
  repeat' (first
    | with_reducible exact keepsBut_refl _ _
    | (with_reducible show keepsBut _ _ (mNzl _ _); with_reducible refine keepsBut_of ?_ (mNzl_keeps _ _) (by decide))
    | (with_reducible show keepsBut _ _ (sendNzlChange _ _ _ _); with_reducible refine keepsBut_of ?_ (sendNzlChange_keeps _ _ _ _) (by decide))
    | (with_reducible show keepsBut _ _ (nzApply _ _ _); with_reducible refine keepsBut_of ?_ (nzApply_keeps _ _ _) (by decide))
    | with_reducible refine keepsBut_ite ?_ ?_
    | with_reducible refine keepsBut_doIf (fun _ => ?_) ?_
    | with_reducible refine keepsBut_each (fun _ _ => ?_) ?_
    | dsimp only [id]
    | split)

theorem nzSuspect_keeps (n lc : Nat) (s : State) : keepsBut [.free, .err, .tow, .fir, .nzl, .gat, .mem, .par] s (nzSuspect n lc s) := by
  unfold nzSuspect
  try dsimp only
  repeat' (first
    | with_reducible exact keepsBut_refl _ _
    | (with_reducible show keepsBut _ _ (nzSubmit _ _); with_reducible refine keepsBut_of ?_ (nzSubmit_keeps _ _) (by decide))
    | with_reducible refine keepsBut_ite ?_ ?_
    | with_reducible refine keepsBut_doIf (fun _ => ?_) ?_
    | with_reducible refine keepsBut_each (fun _ _ => ?_) ?_
    | dsimp only [id]
    | split)

theorem nzGate_keeps (n r : Nat) (s : State) : keepsBut [.free, .err, .tow, .fir, .nzl, .gat, .mem, .par] s (nzGate n r s) := by
  unfold nzGate
  try dsimp only
  repeat' (first
    | with_reducible exact keepsBut_refl _ _
    | (with_reducible show keepsBut _ _ (nzSubmit _ _); with_reducible refine keepsBut_of ?_ (nzSubmit_keeps _ _) (by decide))
    | with_reducible refine keepsBut_ite ?_ ?_
    | with_reducible refine keepsBut_doIf (fun _ => ?_) ?_
    | with_reducible refine keepsBut_each (fun _ _ => ?_) ?_
    | dsimp only [id]
    | split)

theorem portMask_keeps (p : Nat) (on : Bool) (s : State) : keepsBut [.err, .tow, .nzl] s (portMask p on s) := by
  unfold portMask
  try dsimp only
  repeat' (first
    | with_reducible exact keepsBut_refl _ _
    | (with_reducible show keepsBut _ _ (mNzl _ _); with_reducible refine keepsBut_of ?_ (mNzl_keeps _ _) (by decide))
    | (with_reducible show keepsBut _ _ (journal _ _ _ _ _ _ _); with_reducible refine keepsBut_of ?_ (journal_keeps _ _ _ _ _ _ _) (by decide))
    | (with_reducible show keepsBut _ _ (evalDetours _); with_reducible refine keepsBut_of ?_ (evalDetours_keeps _) (by decide))
    | with_reducible refine keepsBut_ite ?_ ?_
    | with_reducible refine keepsBut_doIf (fun _ => ?_) ?_
    | with_reducible refine keepsBut_each (fun _ _ => ?_) ?_
    | dsimp only [id]
    | split)

/-! Machine/Grid.lean -/

theorem fireRests_keeps (old g : Geo) (s : State) : keepsBut [] s (fireRests old g s) := by
  unfold fireRests
  try dsimp only
  repeat' (first
    | with_reducible exact keepsBut_refl _ _
    | (with_reducible show keepsBut _ _ (emit _ _); with_reducible refine keepsBut_of ?_ (emit_keeps _ _) (by decide))
    | with_reducible refine keepsBut_ite ?_ ?_
    | with_reducible refine keepsBut_doIf (fun _ => ?_) ?_
    | with_reducible refine keepsBut_each (fun _ _ => ?_) ?_
    | dsimp only [id]
    | split)

theorem stopAt_keeps (rel : Int) (s : State) : keepsBut [.fir] s (stopAt rel s) := by
  unfold stopAt
  try dsimp only
  repeat' (first
    | with_reducible exact keepsBut_refl _ _
    | (with_reducible show keepsBut _ _ (mFir _ _); with_reducible refine keepsBut_of ?_ (mFir_keeps _ _) (by decide))
    | with_reducible refine keepsBut_ite ?_ ?_
    | with_reducible refine keepsBut_doIf (fun _ => ?_) ?_
    | with_reducible refine keepsBut_each (fun _ _ => ?_) ?_
    | dsimp only [id]
    | split)

theorem setOvs_keeps (on : Bool) (s : State) : keepsBut [.fir, .par] s (setOvs on s) := by
  unfold setOvs
  try dsimp only
  repeat' (first
    | with_reducible exact keepsBut_refl _ _
    | (with_reducible show keepsBut _ _ (advicePins _); with_reducible refine keepsBut_of ?_ (advicePins_keeps _) (by decide))
    | (with_reducible show keepsBut _ _ (mFir _ _); with_reducible refine keepsBut_of ?_ (mFir_keeps _ _) (by decide))
    | with_reducible refine keepsBut_ite ?_ ?_
    | with_reducible refine keepsBut_doIf (fun _ => ?_) ?_
    | with_reducible refine keepsBut_each (fun _ _ => ?_) ?_
    | dsimp only [id]
    | split)

theorem closeGrid_keeps (s : State) : keepsBut [.free, .err, .tow, .fir, .nzl, .gat, .mem, .par] s (closeGrid s) := by
  unfold closeGrid
  try dsimp only
  repeat' (first
    | with_reducible exact keepsBut_refl _ _
    | (with_reducible show keepsBut _ _ (mFir _ _); with_reducible refine keepsBut_of ?_ (mFir_keeps _ _) (by decide))
    | (with_reducible show keepsBut _ _ (nzGridClosed _ _); with_reducible refine keepsBut_of ?_ (nzGridClosed_keeps _ _) (by decide))
    | (with_reducible show keepsBut _ _ (mNzl _ _); with_reducible refine keepsBut_of ?_ (mNzl_keeps _ _) (by decide))
    | (with_reducible show keepsBut _ _ (setOvs _ _); with_reducible refine keepsBut_of ?_ (setOvs_keeps _ _) (by decide))
    | with_reducible refine keepsBut_ite ?_ ?_
    | with_reducible refine keepsBut_doIf (fun _ => ?_) ?_
    | with_reducible refine keepsBut_each (fun _ _ => ?_) ?_
    | dsimp only [id]
    | split)

theorem layerFinished_keeps (id : Nat) (s : State) : keepsBut [.net, .mgt, .tow, .cmp, .fir, .mem] s (layerFinished id s) := by
  unfold layerFinished
  try dsimp only
  repeat' (first
    | with_reducible exact keepsBut_refl _ _
    | (with_reducible show keepsBut _ _ (mFir _ _); with_reducible refine keepsBut_of ?_ (mFir_keeps _ _) (by decide))
    | (with_reducible show keepsBut _ _ (setLayerSt _ _ _ _); with_reducible refine keepsBut_of ?_ (setLayerSt_keeps _ _ _ _) (by decide))
    | (with_reducible show keepsBut _ _ (mLayer _ _ _); with_reducible refine keepsBut_of ?_ (mLayer_keeps _ _ _) (by decide))
    | (with_reducible show keepsBut _ _ (creditWatch _); with_reducible refine keepsBut_of ?_ (creditWatch_keeps _) (by decide))
    | (with_reducible show keepsBut _ _ (releaseLayer _ _ _); with_reducible refine keepsBut_of ?_ (releaseLayer_keeps _ _ _) (by decide))
    | with_reducible refine keepsBut_ite ?_ ?_
    | with_reducible refine keepsBut_doIf (fun _ => ?_) ?_
    | with_reducible refine keepsBut_each (fun _ _ => ?_) ?_
    | dsimp only [id]
    | split)

theorem finishLayers_keeps (s : State) : keepsBut [.free, .sys, .err, .net, .mgt, .tow, .cmp, .str, .fir, .nzl, .gat, .mem, .par] s (finishLayers s) := by
  unfold finishLayers
  try dsimp only
  repeat' (first
    | with_reducible exact keepsBut_refl _ _
    | (with_reducible show keepsBut _ _ (mLayer _ _ _); with_reducible refine keepsBut_of ?_ (mLayer_keeps _ _ _) (by decide))
    | (with_reducible show keepsBut _ _ (layerFinished _ _); with_reducible refine keepsBut_of ?_ (layerFinished_keeps _ _) (by decide))
    | (with_reducible show keepsBut _ _ (updateMargins _); with_reducible refine keepsBut_of ?_ (updateMargins_keeps _) (by decide))
    | (with_reducible show keepsBut _ _ (strandSync _); with_reducible refine keepsBut_of ?_ (strandSync_keeps _) (by decide))
    | (with_reducible show keepsBut _ _ (checkReady _); with_reducible refine keepsBut_of ?_ (checkReady_keeps _) (by decide))
    | (with_reducible show keepsBut _ _ (closeGrid _); with_reducible refine keepsBut_of ?_ (closeGrid_keeps _) (by decide))
    | with_reducible refine keepsBut_ite ?_ ?_
    | with_reducible refine keepsBut_doIf (fun _ => ?_) ?_
    | with_reducible refine keepsBut_each (fun _ _ => ?_) ?_
    | dsimp only [id]
    | split)

theorem gatesMeetGrid_keeps (ports : List Nat) (s : State) : keepsBut [.err, .gat] s (gatesMeetGrid ports s) := by
  unfold gatesMeetGrid
  try dsimp only
  repeat' (first
    | with_reducible exact keepsBut_refl _ _
    | (with_reducible show keepsBut _ _ (mGat _ _ _); with_reducible refine keepsBut_of ?_ (mGat_keeps _ _ _) (by decide))
    | (with_reducible show keepsBut _ _ (notice _ _ _); with_reducible refine keepsBut_of ?_ (notice_keeps _ _ _) (by decide))
    | with_reducible refine keepsBut_ite ?_ ?_
    | with_reducible refine keepsBut_doIf (fun _ => ?_) ?_
    | with_reducible refine keepsBut_each (fun _ _ => ?_) ?_
    | dsimp only [id]
    | split)

theorem openGrid_keeps (sx : Int) (id : Nat) (s : State) : keepsBut [.err, .fir, .gat] s (openGrid sx id s) := by
  unfold openGrid
  try dsimp only
  repeat' (first
    | with_reducible exact keepsBut_refl _ _
    | (with_reducible show keepsBut _ _ (mFir _ _); with_reducible refine keepsBut_of ?_ (mFir_keeps _ _) (by decide))
    | (with_reducible show keepsBut _ _ (mPort _ _ _); with_reducible refine keepsBut_of ?_ (mPort_keeps _ _ _) (by decide))
    | (with_reducible show keepsBut _ _ (gatesMeetGrid _ _); with_reducible refine keepsBut_of ?_ (gatesMeetGrid_keeps _ _) (by decide))
    | with_reducible refine keepsBut_ite ?_ ?_
    | with_reducible refine keepsBut_doIf (fun _ => ?_) ?_
    | with_reducible refine keepsBut_each (fun _ _ => ?_) ?_
    | dsimp only [id]
    | split)

theorem maskMissing_keeps (l : Layer) (joining : Bool) (s : State) : keepsBut [.err, .tow, .nzl] s (maskMissing l joining s) := by
  unfold maskMissing
  try dsimp only
  repeat' (first
    | with_reducible exact keepsBut_refl _ _
    | (with_reducible show keepsBut _ _ (mNzl _ _); with_reducible refine keepsBut_of ?_ (mNzl_keeps _ _) (by decide))
    | (with_reducible show keepsBut _ _ (raiseLim _ _ _ _ _ _); with_reducible refine keepsBut_of ?_ (raiseLim_keeps _ _ _ _ _ _) (by decide))
    | (with_reducible show keepsBut _ _ (portMask _ _ _); with_reducible refine keepsBut_of ?_ (portMask_keeps _ _ _) (by decide))
    | with_reducible refine keepsBut_ite ?_ ?_
    | with_reducible refine keepsBut_doIf (fun _ => ?_) ?_
    | with_reducible refine keepsBut_each (fun _ _ => ?_) ?_
    | dsimp only [id]
    | split)

theorem reverseAtStart_keeps (s : State) : keepsBut [.err, .tow] s (reverseAtStart s) := by
  unfold reverseAtStart
  try dsimp only
  repeat' (first
    | with_reducible exact keepsBut_refl _ _
    | (with_reducible show keepsBut _ _ (notice _ _ _); with_reducible refine keepsBut_of ?_ (notice_keeps _ _ _) (by decide))
    | (with_reducible show keepsBut _ _ (mLayer _ _ _); with_reducible refine keepsBut_of ?_ (mLayer_keeps _ _ _) (by decide))
    | with_reducible refine keepsBut_ite ?_ ?_
    | with_reducible refine keepsBut_doIf (fun _ => ?_) ?_
    | with_reducible refine keepsBut_each (fun _ _ => ?_) ?_
    | dsimp only [id]
    | split)

theorem layerStart_keeps (id : Nat) (event : Int) (s : State) : keepsBut [.sys, .err, .net, .mgt, .tow, .cmp, .str, .pos, .fir, .nzl, .gat, .par] s (layerStart id event s) := by
  unfold layerStart
  try dsimp only
  repeat' (first
    | with_reducible exact keepsBut_refl _ _
    | (with_reducible show keepsBut _ _ (mTow _ _); with_reducible refine keepsBut_of ?_ (mTow_keeps _ _) (by decide))
    | (with_reducible show keepsBut _ _ (mPos _ _); with_reducible refine keepsBut_of ?_ (mPos_keeps _ _) (by decide))
    | (with_reducible show keepsBut _ _ (mLayer _ _ _); with_reducible refine keepsBut_of ?_ (mLayer_keeps _ _ _) (by decide))
    | (with_reducible show keepsBut _ _ (setLayerSt _ _ _ _); with_reducible refine keepsBut_of ?_ (setLayerSt_keeps _ _ _ _) (by decide))
    | (with_reducible show keepsBut _ _ (mFir _ _); with_reducible refine keepsBut_of ?_ (mFir_keeps _ _) (by decide))
    | (with_reducible show keepsBut _ _ (openGrid _ _ _); with_reducible refine keepsBut_of ?_ (openGrid_keeps _ _ _) (by decide))
    | (with_reducible show keepsBut _ _ (setDev _ _); with_reducible refine keepsBut_of ?_ (setDev_keeps _ _) (by decide))
    | (with_reducible show keepsBut _ _ (maskMissing _ _ _); with_reducible refine keepsBut_of ?_ (maskMissing_keeps _ _ _) (by decide))
    | (with_reducible show keepsBut _ _ (strandSync _); with_reducible refine keepsBut_of ?_ (strandSync_keeps _) (by decide))
    | (with_reducible show keepsBut _ _ (reverseAtStart _); with_reducible refine keepsBut_of ?_ (reverseAtStart_keeps _) (by decide))
    | (with_reducible show keepsBut _ _ (parLayerStart _); with_reducible refine keepsBut_of ?_ (parLayerStart_keeps _) (by decide))
    | (with_reducible show keepsBut _ _ (updateMargins _); with_reducible refine keepsBut_of ?_ (updateMargins_keeps _) (by decide))
    | (with_reducible show keepsBut _ _ (widthCheck _ _ _); with_reducible refine keepsBut_of ?_ (widthCheck_keeps _ _ _) (by decide))
    | with_reducible refine keepsBut_ite ?_ ?_
    | with_reducible refine keepsBut_doIf (fun _ => ?_) ?_
    | with_reducible refine keepsBut_each (fun _ _ => ?_) ?_
    | dsimp only [id]
    | split)

theorem queueFire_keeps (i : Nat) (event : Int) (s : State) : keepsBut [.sys, .err, .net, .mgt, .tow, .cmp, .str, .pos, .fir, .nzl, .gat, .par] s (queueFire i event s) := by
  unfold queueFire
  try dsimp only
  repeat' (first
    | with_reducible exact keepsBut_refl _ _
    | (with_reducible show keepsBut _ _ (raise _ _ _ _); with_reducible refine keepsBut_of ?_ (raise_keeps _ _ _ _) (by decide))
    | (with_reducible show keepsBut _ _ (layerStart _ _ _); with_reducible refine keepsBut_of ?_ (layerStart_keeps _ _ _) (by decide))
    | with_reducible refine keepsBut_ite ?_ ?_
    | with_reducible refine keepsBut_doIf (fun _ => ?_) ?_
    | with_reducible refine keepsBut_each (fun _ _ => ?_) ?_
    | dsimp only [id]
    | split)

theorem strandSwitch_keeps (n id : Nat) (ln : Int) (s : State) : keepsBut [.str] s (strandSwitch n id ln s) := by
  unfold strandSwitch
  try dsimp only
  repeat' (first
    | with_reducible exact keepsBut_refl _ _
    | (with_reducible show keepsBut _ _ (mStrand _ _ _); with_reducible refine keepsBut_of ?_ (mStrand_keeps _ _ _) (by decide))
    | (with_reducible show keepsBut _ _ (seekStrand _ _ _ _); with_reducible refine keepsBut_of ?_ (seekStrand_keeps _ _ _ _) (by decide))
    | (with_reducible show keepsBut _ _ (strandAhead _ _); with_reducible refine keepsBut_of ?_ (strandAhead_keeps _ _) (by decide))
    | with_reducible refine keepsBut_ite ?_ ?_
    | with_reducible refine keepsBut_doIf (fun _ => ?_) ?_
    | with_reducible refine keepsBut_each (fun _ _ => ?_) ?_
    | dsimp only [id]
    | split)

theorem deliver_keeps (gr : Grid) (x : SegGeo) (k : Nat) (discard : Bool) (s : State) : keepsBut [.str] s (deliver gr x k discard s).1 := by
  unfold deliver
  try dsimp only
  repeat' (first
    | with_reducible exact keepsBut_refl _ _
    | (with_reducible show keepsBut _ _ (mStr _ _); with_reducible refine keepsBut_of ?_ (mStr_keeps _ _) (by decide))
    | (with_reducible show keepsBut _ _ (mStrand _ _ _); with_reducible refine keepsBut_of ?_ (mStrand_keeps _ _ _) (by decide))
    | (with_reducible show keepsBut _ _ (strandSwitch _ _ _ _); with_reducible refine keepsBut_of ?_ (strandSwitch_keeps _ _ _ _) (by decide))
    | with_reducible refine keepsBut_ite ?_ ?_
    | with_reducible refine keepsBut_doIf (fun _ => ?_) ?_
    | with_reducible refine keepsBut_each (fun _ _ => ?_) ?_
    | dsimp only [id]
    | split)

theorem geoSeek_keeps (o : Geo) (p k1 : Nat) (s : State) : keepsBut [.str] s (geoSeek o p k1 s) := by
  unfold geoSeek
  try dsimp only
  repeat' (first
    | with_reducible exact keepsBut_refl _ _
    | (with_reducible show keepsBut _ _ (seekStrand _ _ _ _); with_reducible refine keepsBut_of ?_ (seekStrand_keeps _ _ _ _) (by decide))
    | with_reducible refine keepsBut_ite ?_ ?_
    | with_reducible refine keepsBut_doIf (fun _ => ?_) ?_
    | with_reducible refine keepsBut_each (fun _ _ => ?_) ?_
    | dsimp only [id]
    | split)

/-! Machine/Control.lean -/

theorem stopEnds_keeps (s : State) : keepsBut [.free, .err, .tow, .fir, .nzl, .gat, .mem, .par] s (stopEnds s) := by
  unfold stopEnds
  try dsimp only
  repeat' (first
    | with_reducible exact keepsBut_refl _ _
    | (with_reducible show keepsBut _ _ (mTow _ _); with_reducible refine keepsBut_of ?_ (mTow_keeps _ _) (by decide))
    | (with_reducible show keepsBut _ _ (closeGrid _); with_reducible refine keepsBut_of ?_ (closeGrid_keeps _) (by decide))
    | (with_reducible show keepsBut _ _ (mFir _ _); with_reducible refine keepsBut_of ?_ (mFir_keeps _ _) (by decide))
    | with_reducible refine keepsBut_ite ?_ ?_
    | with_reducible refine keepsBut_doIf (fun _ => ?_) ?_
    | with_reducible refine keepsBut_each (fun _ _ => ?_) ?_
    | dsimp only [id]
    | split)

theorem opResume_keeps (s : State) : keepsBut [.sys, .mgt, .nzl] s (opResume s) := by
  unfold opResume
  try dsimp only
  repeat' (first
    | with_reducible exact keepsBut_refl _ _
    | (with_reducible show keepsBut _ _ (checkReady _); with_reducible refine keepsBut_of ?_ (checkReady_keeps _) (by decide))
    | (with_reducible show keepsBut _ _ (setDev _ _); with_reducible refine keepsBut_of ?_ (setDev_keeps _ _) (by decide))
    | (with_reducible show keepsBut _ _ (nzResume _); with_reducible refine keepsBut_of ?_ (nzResume_keeps _) (by decide))
    | with_reducible refine keepsBut_ite ?_ ?_
    | with_reducible refine keepsBut_doIf (fun _ => ?_) ?_
    | with_reducible refine keepsBut_each (fun _ _ => ?_) ?_
    | dsimp only [id]
    | split)

theorem opAck_keeps (s : State) : keepsBut [.free, .sys, .err, .mgt, .tow, .str, .fir, .nzl, .gat, .mem, .par] s (opAck s) := by
  unfold opAck
  try dsimp only
  repeat' (first
    | with_reducible exact keepsBut_refl _ _
    | (with_reducible show keepsBut _ _ (strandSync _); with_reducible refine keepsBut_of ?_ (strandSync_keeps _) (by decide))
    | (with_reducible show keepsBut _ _ (stopEnds _); with_reducible refine keepsBut_of ?_ (stopEnds_keeps _) (by decide))
    | (with_reducible show keepsBut _ _ (setDev _ _); with_reducible refine keepsBut_of ?_ (setDev_keeps _ _) (by decide))
    | (with_reducible show keepsBut _ _ (mErr _ _); with_reducible refine keepsBut_of ?_ (mErr_keeps _ _) (by decide))
    | with_reducible refine keepsBut_ite ?_ ?_
    | with_reducible refine keepsBut_doIf (fun _ => ?_) ?_
    | with_reducible refine keepsBut_each (fun _ _ => ?_) ?_
    | dsimp only [id]
    | split)

theorem ctlApply_keeps (c : Nat) (s : State) : keepsBut [.free, .sys, .err, .mgt, .tow, .str, .fir, .nzl, .gat, .mem, .par] s (ctlApply c s) := by
  unfold ctlApply
  try dsimp only
  repeat' (first
    | with_reducible exact keepsBut_refl _ _
    | (with_reducible show keepsBut _ _ (setDev _ _); with_reducible refine keepsBut_of ?_ (setDev_keeps _ _) (by decide))
    | (with_reducible show keepsBut _ _ (opResume _); with_reducible refine keepsBut_of ?_ (opResume_keeps _) (by decide))
    | (with_reducible show keepsBut _ _ (opAck _); with_reducible refine keepsBut_of ?_ (opAck_keeps _) (by decide))
    | with_reducible refine keepsBut_ite ?_ ?_
    | with_reducible refine keepsBut_doIf (fun _ => ?_) ?_
    | with_reducible refine keepsBut_each (fun _ _ => ?_) ?_
    | dsimp only [id]
    | split)

theorem ctlAt_keeps (c lc : Nat) (s : State) : keepsBut [.free, .sys, .err, .mgt, .tow, .str, .fir, .nzl, .gat, .mem, .par] s (ctlAt c lc s) := by
  unfold ctlAt
  try dsimp only
  repeat' (first
    | with_reducible exact keepsBut_refl _ _
    | (with_reducible show keepsBut _ _ (mPar _ _); with_reducible refine keepsBut_of ?_ (mPar_keeps _ _) (by decide))
    | (with_reducible show keepsBut _ _ (ctlApply _ _); with_reducible refine keepsBut_of ?_ (ctlApply_keeps _ _) (by decide))
    | with_reducible refine keepsBut_ite ?_ ?_
    | with_reducible refine keepsBut_doIf (fun _ => ?_) ?_
    | with_reducible refine keepsBut_each (fun _ _ => ?_) ?_
    | dsimp only [id]
    | split)

theorem ctlCommand_keeps (c : Nat) (s : State) : keepsBut [.free, .sys, .err, .mgt, .tow, .str, .fir, .nzl, .gat, .mem, .par] s (ctlCommand c s) := by
  unfold ctlCommand
  try dsimp only
  repeat' (first
    | with_reducible exact keepsBut_refl _ _
    | (with_reducible show keepsBut _ _ (sendState _ _ _); with_reducible refine keepsBut_of ?_ (sendState_keeps _ _ _) (by decide))
    | (with_reducible show keepsBut _ _ (ctlApply _ _); with_reducible refine keepsBut_of ?_ (ctlApply_keeps _ _) (by decide))
    | (with_reducible show keepsBut _ _ (ctlAt _ _ _); with_reducible refine keepsBut_of ?_ (ctlAt_keeps _ _ _) (by decide))
    | with_reducible refine keepsBut_ite ?_ ?_
    | with_reducible refine keepsBut_doIf (fun _ => ?_) ?_
    | with_reducible refine keepsBut_each (fun _ _ => ?_) ?_
    | dsimp only [id]
    | split)

theorem ctlDue_keeps (lc : Nat) (s : State) : keepsBut [.free, .sys, .err, .mgt, .tow, .str, .fir, .nzl, .gat, .mem, .par] s (ctlDue lc s) := by
  unfold ctlDue
  try dsimp only
  repeat' (first
    | with_reducible exact keepsBut_refl _ _
    | (with_reducible show keepsBut _ _ (mPar _ _); with_reducible refine keepsBut_of ?_ (mPar_keeps _ _) (by decide))
    | (with_reducible show keepsBut _ _ (ctlApply _ _); with_reducible refine keepsBut_of ?_ (ctlApply_keeps _ _) (by decide))
    | with_reducible refine keepsBut_ite ?_ ?_
    | with_reducible refine keepsBut_doIf (fun _ => ?_) ?_
    | with_reducible refine keepsBut_each (fun _ _ => ?_) ?_
    | dsimp only [id]
    | split)

theorem ctlLeft_keeps (s : State) : keepsBut [.free, .sys, .err, .mgt, .tow, .str, .fir, .nzl, .gat, .mem, .par] s (ctlLeft s) := by
  unfold ctlLeft
  try dsimp only
  repeat' (first
    | with_reducible exact keepsBut_refl _ _
    | (with_reducible show keepsBut _ _ (mPar _ _); with_reducible refine keepsBut_of ?_ (mPar_keeps _ _) (by decide))
    | (with_reducible show keepsBut _ _ (ctlApply _ _); with_reducible refine keepsBut_of ?_ (ctlApply_keeps _ _) (by decide))
    | with_reducible refine keepsBut_ite ?_ ?_
    | with_reducible refine keepsBut_doIf (fun _ => ?_) ?_
    | with_reducible refine keepsBut_each (fun _ _ => ?_) ?_
    | dsimp only [id]
    | split)

theorem spliceTry_keeps (code : Nat) (s : State) : keepsBut [.err, .par] s (spliceTry code s) := by
  unfold spliceTry
  try dsimp only
  repeat' (first
    | with_reducible exact keepsBut_refl _ _
    | (with_reducible show keepsBut _ _ (mPar _ _); with_reducible refine keepsBut_of ?_ (mPar_keeps _ _) (by decide))
    | (with_reducible show keepsBut _ _ (faultErr _ _ _); with_reducible refine keepsBut_of ?_ (faultErr_keeps _ _ _) (by decide))
    | with_reducible refine keepsBut_ite ?_ ?_
    | with_reducible refine keepsBut_doIf (fun _ => ?_) ?_
    | with_reducible refine keepsBut_each (fun _ _ => ?_) ?_
    | dsimp only [id]
    | split)

theorem yieldDue_keeps (lc : Nat) (s : State) : keepsBut [.err, .par] s (yieldDue lc s) := by
  unfold yieldDue
  try dsimp only
  repeat' (first
    | with_reducible exact keepsBut_refl _ _
    | (with_reducible show keepsBut _ _ (mPar _ _); with_reducible refine keepsBut_of ?_ (mPar_keeps _ _) (by decide))
    | (with_reducible show keepsBut _ _ (spliceTry _ _); with_reducible refine keepsBut_of ?_ (spliceTry_keeps _ _) (by decide))
    | with_reducible refine keepsBut_ite ?_ ?_
    | with_reducible refine keepsBut_doIf (fun _ => ?_) ?_
    | with_reducible refine keepsBut_each (fun _ _ => ?_) ?_
    | dsimp only [id]
    | split)

theorem updLateCount_keeps (p : Nat) (s : State) : keepsBut [.par] s (updLateCount p s) := by
  unfold updLateCount
  try dsimp only
  repeat' (first
    | with_reducible exact keepsBut_refl _ _
    | (with_reducible show keepsBut _ _ (mPar _ _); with_reducible refine keepsBut_of ?_ (mPar_keeps _ _) (by decide))
    | with_reducible refine keepsBut_ite ?_ ?_
    | with_reducible refine keepsBut_doIf (fun _ => ?_) ?_
    | with_reducible refine keepsBut_each (fun _ _ => ?_) ?_
    | dsimp only [id]
    | split)

/-! Machine/Strands.lean -/

theorem fetchIssue_keeps (n : Nat) (s : State) : keepsBut [.str, .mem] s (fetchIssue n s) := by
  unfold fetchIssue
  try dsimp only
  repeat' (first
    | with_reducible exact keepsBut_refl _ _
    | (with_reducible show keepsBut _ _ (mStrand _ _ _); with_reducible refine keepsBut_of ?_ (mStrand_keeps _ _ _) (by decide))
    | (with_reducible show keepsBut _ _ (panicUpdate _ _); with_reducible refine keepsBut_of ?_ (panicUpdate_keeps _ _) (by decide))
    | (with_reducible show keepsBut _ _ (memRead _ _ _ _ _ _); with_reducible refine keepsBut_of ?_ (memRead_keeps _ _ _ _ _ _) (by decide))
    | (with_reducible show keepsBut _ _ (takeTag _); with_reducible refine keepsBut_of ?_ (takeTag_keeps _) (by decide))
    | with_reducible refine keepsBut_ite ?_ ?_
    | with_reducible refine keepsBut_doIf (fun _ => ?_) ?_
    | with_reducible refine keepsBut_each (fun _ _ => ?_) ?_
    | dsimp only [id]
    | split)

theorem fetchDone_keeps (n : Nat) (s : State) : keepsBut [.str, .mem] s (fetchDone n s) := by
  unfold fetchDone
  try dsimp only
  repeat' (first
    | with_reducible exact keepsBut_refl _ _
    | (with_reducible show keepsBut _ _ (mStrand _ _ _); with_reducible refine keepsBut_of ?_ (mStrand_keeps _ _ _) (by decide))
    | (with_reducible show keepsBut _ _ (panicUpdate _ _); with_reducible refine keepsBut_of ?_ (panicUpdate_keeps _ _) (by decide))
    | (with_reducible show keepsBut _ _ (bankPut _ _ _ _); with_reducible refine keepsBut_of ?_ (bankPut_keeps _ _ _ _) (by decide))
    | with_reducible refine keepsBut_ite ?_ ?_
    | with_reducible refine keepsBut_doIf (fun _ => ?_) ?_
    | with_reducible refine keepsBut_each (fun _ _ => ?_) ?_
    | dsimp only [id]
    | split)

theorem spoolServe_keeps (p : Nat) (s : State) : keepsBut [.free, .err, .cmp, .str, .mem] s (spoolServe p s) := by
  unfold spoolServe
  try dsimp only
  repeat' (first
    | with_reducible exact keepsBut_refl _ _
    | (with_reducible show keepsBut _ _ (panicUpdate _ _); with_reducible refine keepsBut_of ?_ (panicUpdate_keeps _ _) (by decide))
    | (with_reducible show keepsBut _ _ (strandAhead _ _); with_reducible refine keepsBut_of ?_ (strandAhead_keeps _ _) (by decide))
    | (with_reducible show keepsBut _ _ (spoolTurn _ _); with_reducible refine keepsBut_of ?_ (spoolTurn_keeps _ _) (by decide))
    | with_reducible refine keepsBut_ite ?_ ?_
    | with_reducible refine keepsBut_doIf (fun _ => ?_) ?_
    | with_reducible refine keepsBut_each (fun _ _ => ?_) ?_
    | dsimp only [id]
    | split)

theorem migrate_keeps (n : Nat) (s : State) : keepsBut [.str] s (migrate n s) := by
  unfold migrate
  try dsimp only
  repeat' (first
    | with_reducible exact keepsBut_refl _ _
    | (with_reducible show keepsBut _ _ (mStr _ _); with_reducible refine keepsBut_of ?_ (mStr_keeps _ _) (by decide))
    | (with_reducible show keepsBut _ _ (mStrand _ _ _); with_reducible refine keepsBut_of ?_ (mStrand_keeps _ _ _) (by decide))
    | with_reducible refine keepsBut_ite ?_ ?_
    | with_reducible refine keepsBut_doIf (fun _ => ?_) ?_
    | with_reducible refine keepsBut_each (fun _ _ => ?_) ?_
    | dsimp only [id]
    | split)

theorem applySched_keeps (t : List Nat) (s : State) : keepsBut [.str] s (applySched t s) := by
  unfold applySched
  try dsimp only
  repeat' (first
    | with_reducible exact keepsBut_refl _ _
    | (with_reducible show keepsBut _ _ (mStrand _ _ _); with_reducible refine keepsBut_of ?_ (mStrand_keeps _ _ _) (by decide))
    | (with_reducible show keepsBut _ _ (migrate _ _); with_reducible refine keepsBut_of ?_ (migrate_keeps _ _) (by decide))
    | with_reducible refine keepsBut_ite ?_ ?_
    | with_reducible refine keepsBut_doIf (fun _ => ?_) ?_
    | with_reducible refine keepsBut_each (fun _ _ => ?_) ?_
    | dsimp only [id]
    | split)

theorem opStrClr_keeps (v : Word) (s : State) : keepsBut [.str] s (opStrClr v s) := by
  unfold opStrClr
  try dsimp only
  repeat' (first
    | with_reducible exact keepsBut_refl _ _
    | (with_reducible show keepsBut _ _ (mStr _ _); with_reducible refine keepsBut_of ?_ (mStr_keeps _ _) (by decide))
    | with_reducible refine keepsBut_ite ?_ ?_
    | with_reducible refine keepsBut_doIf (fun _ => ?_) ?_
    | with_reducible refine keepsBut_each (fun _ _ => ?_) ?_
    | dsimp only [id]
    | split)

/-! Machine/Memory.lean -/

theorem releaseAll_keeps (s : State) : keepsBut [.err, .net, .mgt, .tow, .cmp, .str, .fir, .mem] s (releaseAll s) := by
  unfold releaseAll
  try dsimp only
  repeat' (first
    | with_reducible exact keepsBut_refl _ _
    | (with_reducible show keepsBut _ _ (raise _ _ _ _); with_reducible refine keepsBut_of ?_ (raise_keeps _ _ _ _) (by decide))
    | (with_reducible show keepsBut _ _ (releaseLayer _ _ _); with_reducible refine keepsBut_of ?_ (releaseLayer_keeps _ _ _) (by decide))
    | (with_reducible show keepsBut _ _ (strandSync _); with_reducible refine keepsBut_of ?_ (strandSync_keeps _) (by decide))
    | with_reducible refine keepsBut_ite ?_ ?_
    | with_reducible refine keepsBut_doIf (fun _ => ?_) ?_
    | with_reducible refine keepsBut_each (fun _ _ => ?_) ?_
    | dsimp only [id]
    | split)

theorem verifyFailed_keeps (ch : Nat) (s : State) : keepsBut [.free, .err, .dbg, .net, .mgt, .tow, .plc, .cmp, .str, .fir, .mem] s (verifyFailed ch s) := by
  unfold verifyFailed
  try dsimp only
  repeat' (first
    | with_reducible exact keepsBut_refl _ _
    | (with_reducible show keepsBut _ _ (raise _ _ _ _); with_reducible refine keepsBut_of ?_ (raise_keeps _ _ _ _) (by decide))
    | (with_reducible show keepsBut _ _ (faultErr _ _ _); with_reducible refine keepsBut_of ?_ (faultErr_keeps _ _ _) (by decide))
    | (with_reducible show keepsBut _ _ (placeUpdate _); with_reducible refine keepsBut_of ?_ (placeUpdate_keeps _) (by decide))
    | (with_reducible show keepsBut _ _ (chanOffline _ _); with_reducible refine keepsBut_of ?_ (chanOffline_keeps _ _) (by decide))
    | (with_reducible show keepsBut _ _ (releaseAll _); with_reducible refine keepsBut_of ?_ (releaseAll_keeps _) (by decide))
    | with_reducible refine keepsBut_ite ?_ ?_
    | with_reducible refine keepsBut_doIf (fun _ => ?_) ?_
    | with_reducible refine keepsBut_each (fun _ _ => ?_) ?_
    | dsimp only [id]
    | split)

theorem verifyPassed_keeps (ch : Nat) (a b : Int) (s : State) : keepsBut [.err, .mem] s (verifyPassed ch a b s) := by
  unfold verifyPassed
  try dsimp only
  repeat' (first
    | with_reducible exact keepsBut_refl _ _
    | (with_reducible show keepsBut _ _ (mChan _ _ _); with_reducible refine keepsBut_of ?_ (mChan_keeps _ _ _) (by decide))
    | (with_reducible show keepsBut _ _ (notice _ _ _); with_reducible refine keepsBut_of ?_ (notice_keeps _ _ _) (by decide))
    | (with_reducible show keepsBut _ _ (delayUpdate _ _); with_reducible refine keepsBut_of ?_ (delayUpdate_keeps _ _) (by decide))
    | with_reducible refine keepsBut_ite ?_ ?_
    | with_reducible refine keepsBut_doIf (fun _ => ?_) ?_
    | with_reducible refine keepsBut_each (fun _ _ => ?_) ?_
    | dsimp only [id]
    | split)

theorem verifyStep_keeps (ch : Nat) (got0 got1 : Bytes) (s : State) : keepsBut [.free, .err, .dbg, .net, .mgt, .tow, .plc, .cmp, .str, .fir, .mem] s (verifyStep ch got0 got1 s) := by
  unfold verifyStep
  try dsimp only
  repeat' (first
    | with_reducible exact keepsBut_refl _ _
    | (with_reducible show keepsBut _ _ (mChan _ _ _); with_reducible refine keepsBut_of ?_ (mChan_keeps _ _ _) (by decide))
    | (with_reducible show keepsBut _ _ (verifyPassed _ _ _ _); with_reducible refine keepsBut_of ?_ (verifyPassed_keeps _ _ _ _) (by decide))
    | (with_reducible show keepsBut _ _ (verifyFailed _ _); with_reducible refine keepsBut_of ?_ (verifyFailed_keeps _ _) (by decide))
    | with_reducible refine keepsBut_ite ?_ ?_
    | with_reducible refine keepsBut_doIf (fun _ => ?_) ?_
    | with_reducible refine keepsBut_each (fun _ _ => ?_) ?_
    | dsimp only [id]
    | split)

theorem opMemVerify_keeps (v : Word) (s : State) : keepsBut [.mem] s (opMemVerify v s) := by
  unfold opMemVerify
  try dsimp only
  repeat' (first
    | with_reducible exact keepsBut_refl _ _
    | (with_reducible show keepsBut _ _ (mChan _ _ _); with_reducible refine keepsBut_of ?_ (mChan_keeps _ _ _) (by decide))
    | with_reducible refine keepsBut_ite ?_ ?_
    | with_reducible refine keepsBut_doIf (fun _ => ?_) ?_
    | with_reducible refine keepsBut_each (fun _ _ => ?_) ?_
    | dsimp only [id]
    | split)

theorem bankStore_keeps (b r o : Nat) (d : Bytes) (old : Bytes) (s : State) : keepsBut [.err, .tow, .fir, .nzl, .gat, .mem] s (bankStore b r o d old s) := by
  unfold bankStore
  try dsimp only
  repeat' (first
    | with_reducible exact keepsBut_refl _ _
    | (with_reducible show keepsBut _ _ (bankAnswer _ _ _ _); with_reducible refine keepsBut_of ?_ (bankAnswer_keeps _ _ _ _) (by decide))
    | (with_reducible show keepsBut _ _ (notice _ _ _); with_reducible refine keepsBut_of ?_ (notice_keeps _ _ _) (by decide))
    | (with_reducible show keepsBut _ _ (nozWrite _ _ _); with_reducible refine keepsBut_of ?_ (nozWrite_keeps _ _ _) (by decide))
    | (with_reducible show keepsBut _ _ (bankPut _ _ _ _); with_reducible refine keepsBut_of ?_ (bankPut_keeps _ _ _ _) (by decide))
    | with_reducible refine keepsBut_ite ?_ ?_
    | with_reducible refine keepsBut_doIf (fun _ => ?_) ?_
    | with_reducible refine keepsBut_each (fun _ _ => ?_) ?_
    | dsimp only [id]
    | split)

/-! Machine/Towline.lean -/

theorem towRx_keeps {qs : List Part} {f : Via → State → State} (hq : ∀ p ∈ ([.net] : List Part), p ∈ qs) (h_f : ∀ a0 u, keepsBut qs u (f a0 u)) (rx : Arrival) (ss : Session) (s : State) : keepsBut qs s (towRx rx ss f s) := by
  unfold towRx
  try dsimp only
  repeat' (first
    | with_reducible exact keepsBut_refl _ _
    | (with_reducible show keepsBut _ _ (rxFrame _ _ _); with_reducible refine keepsBut_of ?_ (rxFrame_keeps (qs := qs) (fun p m => hq p ((by decide : ∀ p ∈ _, p ∈ ([.net] : List Part)) p m)) (fun _ => ?_) _ _) (fun _ m => m))
    | (with_reducible show keepsBut _ _ (f _ _); with_reducible refine keepsBut_of ?_ (h_f _ _) (fun _ m => m))
    | with_reducible refine keepsBut_ite ?_ ?_
    | with_reducible refine keepsBut_doIf (fun _ => ?_) ?_
    | with_reducible refine keepsBut_each (fun _ _ => ?_) ?_
    | dsimp only [id]
    | split)

theorem towEntry_keeps {qs : List Part} {f : Via → State → State} (hq : ∀ p ∈ ([.err, .net, .tow] : List Part), p ∈ qs) (h_f : ∀ a0 u, keepsBut qs u (f a0 u)) (ss : Session) (d : Bytes) (np : Via) (s : State) : keepsBut qs s (towEntry ss d f np s) := by
  unfold towEntry
  try dsimp only
  repeat' (first
    | with_reducible exact keepsBut_refl _ _
    | (with_reducible show keepsBut _ _ (sendNak _ _ _ _ _); with_reducible refine keepsBut_of ?_ (sendNak_keeps _ _ _ _ _) (fun p m => hq p ((by decide : ∀ p ∈ _, p ∈ ([.err, .net, .tow] : List Part)) p m)))
    | (with_reducible show keepsBut _ _ (f _ _); with_reducible refine keepsBut_of ?_ (h_f _ _) (fun _ m => m))
    | with_reducible refine keepsBut_ite ?_ ?_
    | with_reducible refine keepsBut_doIf (fun _ => ?_) ?_
    | with_reducible refine keepsBut_each (fun _ _ => ?_) ?_
    | dsimp only [id]
    | split)

theorem towOwned_keeps {qs : List Part} {f : Layer → State → State} (hq : ∀ p ∈ ([.err, .net, .tow] : List Part), p ∈ qs) (h_f : ∀ a0 u, keepsBut qs u (f a0 u)) (np : Via) (ss : Session) (d : Bytes) (fseq : Nat) (gone : NakArgs) (s : State) : keepsBut qs s (towOwned np ss d fseq gone f s) := by
  unfold towOwned
  try dsimp only
  repeat' (first
    | with_reducible exact keepsBut_refl _ _
    | (with_reducible show keepsBut _ _ (sendNak _ _ _ _ _); with_reducible refine keepsBut_of ?_ (sendNak_keeps _ _ _ _ _) (fun p m => hq p ((by decide : ∀ p ∈ _, p ∈ ([.err, .net, .tow] : List Part)) p m)))
    | (with_reducible show keepsBut _ _ (f _ _); with_reducible refine keepsBut_of ?_ (h_f _ _) (fun _ m => m))
    | with_reducible refine keepsBut_ite ?_ ?_
    | with_reducible refine keepsBut_doIf (fun _ => ?_) ?_
    | with_reducible refine keepsBut_each (fun _ _ => ?_) ?_
    | dsimp only [id]
    | split)

theorem layerReady_keeps (id : Nat) (s : State) : keepsBut [.net, .mgt, .tow, .str, .par] s (layerReady id s) := by
  unfold layerReady
  try dsimp only
  repeat' (first
    | with_reducible exact keepsBut_refl _ _
    | (with_reducible show keepsBut _ _ (updateMargins _); with_reducible refine keepsBut_of ?_ (updateMargins_keeps _) (by decide))
    | (with_reducible show keepsBut _ _ (strandSync _); with_reducible refine keepsBut_of ?_ (strandSync_keeps _) (by decide))
    | (with_reducible show keepsBut _ _ (setLayerSt _ _ _ _); with_reducible refine keepsBut_of ?_ (setLayerSt_keeps _ _ _ _) (by decide))
    | with_reducible refine keepsBut_ite ?_ ?_
    | with_reducible refine keepsBut_doIf (fun _ => ?_) ?_
    | with_reducible refine keepsBut_each (fun _ _ => ?_) ?_
    | dsimp only [id]
    | split)

theorem closeCheck_keeps (np : Option Via) (id : Nat) (answer : Bool) (s : State) : keepsBut [.err, .net, .mgt, .tow, .str, .par] s (closeCheck np id answer s) := by
  unfold closeCheck
  try dsimp only
  repeat' (first
    | with_reducible exact keepsBut_refl _ _
    | (with_reducible show keepsBut _ _ (sendAck _ _ _ _); with_reducible refine keepsBut_of ?_ (sendAck_keeps _ _ _ _) (by decide))
    | (with_reducible show keepsBut _ _ (mLayer _ _ _); with_reducible refine keepsBut_of ?_ (mLayer_keeps _ _ _) (by decide))
    | (with_reducible show keepsBut _ _ (sendNak _ _ _ _ _); with_reducible refine keepsBut_of ?_ (sendNak_keeps _ _ _ _ _) (by decide))
    | (with_reducible show keepsBut _ _ (creditWatch _); with_reducible refine keepsBut_of ?_ (creditWatch_keeps _) (by decide))
    | (with_reducible show keepsBut _ _ (layerReady _ _); with_reducible refine keepsBut_of ?_ (layerReady_keeps _ _) (by decide))
    | with_reducible refine keepsBut_ite ?_ ?_
    | with_reducible refine keepsBut_doIf (fun _ => ?_) ?_
    | with_reducible refine keepsBut_each (fun _ _ => ?_) ?_
    | dsimp only [id]
    | split)

theorem streamCheck_keeps (id : Nat) (s : State) : keepsBut [.net, .mgt, .tow, .str, .par] s (streamCheck id s) := by
  unfold streamCheck
  try dsimp only
  repeat' (first
    | with_reducible exact keepsBut_refl _ _
    | (with_reducible show keepsBut _ _ (layerReady _ _); with_reducible refine keepsBut_of ?_ (layerReady_keeps _ _) (by decide))
    | with_reducible refine keepsBut_ite ?_ ?_
    | with_reducible refine keepsBut_doIf (fun _ => ?_) ?_
    | with_reducible refine keepsBut_each (fun _ _ => ?_) ?_
    | dsimp only [id]
    | split)

theorem mBlock_keeps (id sidx b : Nat) (f : Block → Block) (s : State) : keepsBut [.tow] s (mBlock id sidx b f s) := by
  unfold mBlock
  try dsimp only
  repeat' (first
    | with_reducible exact keepsBut_refl _ _
    | (with_reducible show keepsBut _ _ (mLayer _ _ _); with_reducible refine keepsBut_of ?_ (mLayer_keeps _ _ _) (by decide))
    | with_reducible refine keepsBut_ite ?_ ?_
    | with_reducible refine keepsBut_doIf (fun _ => ?_) ?_
    | with_reducible refine keepsBut_each (fun _ _ => ?_) ?_
    | dsimp only [id]
    | split)

theorem notePresent_keeps (seg n : Nat) (s : State) : keepsBut [.str] s (notePresent seg n s) := by
  unfold notePresent
  try dsimp only
  repeat' (first
    | with_reducible exact keepsBut_refl _ _
    | (with_reducible show keepsBut _ _ (mStr _ _); with_reducible refine keepsBut_of ?_ (mStr_keeps _ _) (by decide))
    | with_reducible refine keepsBut_ite ?_ ?_
    | with_reducible refine keepsBut_doIf (fun _ => ?_) ?_
    | with_reducible refine keepsBut_each (fun _ _ => ?_) ?_
    | dsimp only [id]
    | split)

theorem markPresent_keeps (np : Option Via) (id sidx b : Nat) (s : State) : keepsBut [.err, .net, .mgt, .tow, .str, .mem, .par] s (markPresent np id sidx b s) := by
  unfold markPresent
  try dsimp only
  repeat' (first
    | with_reducible exact keepsBut_refl _ _
    | (with_reducible show keepsBut _ _ (dirPut _ _ _); with_reducible refine keepsBut_of ?_ (dirPut_keeps _ _ _) (by decide))
    | (with_reducible show keepsBut _ _ (notePresent _ _ _); with_reducible refine keepsBut_of ?_ (notePresent_keeps _ _ _) (by decide))
    | (with_reducible show keepsBut _ _ (mBlock _ _ _ _ _); with_reducible refine keepsBut_of ?_ (mBlock_keeps _ _ _ _ _) (by decide))
    | (with_reducible show keepsBut _ _ (updateMargins _); with_reducible refine keepsBut_of ?_ (updateMargins_keeps _) (by decide))
    | (with_reducible show keepsBut _ _ (streamCheck _ _); with_reducible refine keepsBut_of ?_ (streamCheck_keeps _ _) (by decide))
    | (with_reducible show keepsBut _ _ (closeCheck _ _ _ _); with_reducible refine keepsBut_of ?_ (closeCheck_keeps _ _ _ _) (by decide))
    | with_reducible refine keepsBut_ite ?_ ?_
    | with_reducible refine keepsBut_doIf (fun _ => ?_) ?_
    | with_reducible refine keepsBut_each (fun _ _ => ?_) ?_
    | dsimp only [id]
    | split)

theorem placeFragments_keeps (s : State) : keepsBut [.sys, .err, .dbg, .mgt, .tow, .mem] s (placeFragments s) := by
  unfold placeFragments
  try dsimp only
  repeat' (first
    | with_reducible exact keepsBut_refl _ _
    | (with_reducible show keepsBut _ _ (mTow _ _); with_reducible refine keepsBut_of ?_ (mTow_keeps _ _) (by decide))
    | (with_reducible show keepsBut _ _ (stageTake _ _ _ _ _ _ _); with_reducible refine keepsBut_of ?_ (stageTake_keeps (qs := [.sys, .err, .dbg, .mgt, .tow, .mem]) (by decide) (fun _ => ?_) _ _ _ _ _ _) (fun _ m => m))
    | (with_reducible show keepsBut _ _ (memWrite _ _ _ _ _); with_reducible refine keepsBut_of ?_ (memWrite_keeps _ _ _ _ _) (by decide))
    | (with_reducible show keepsBut _ _ (takeTag _); with_reducible refine keepsBut_of ?_ (takeTag_keeps _) (by decide))
    | with_reducible refine keepsBut_ite ?_ ?_
    | with_reducible refine keepsBut_doIf (fun _ => ?_) ?_
    | with_reducible refine keepsBut_each (fun _ _ => ?_) ?_
    | dsimp only [id]
    | split)

theorem blockHeld_keeps (np : Via) (id sidx b fseq : Nat) (s : State) : keepsBut [.err, .net, .tow, .cmp] s (blockHeld np id sidx b fseq s) := by
  unfold blockHeld
  try dsimp only
  repeat' (first
    | with_reducible exact keepsBut_refl _ _
    | (with_reducible show keepsBut _ _ (mLayer _ _ _); with_reducible refine keepsBut_of ?_ (mLayer_keeps _ _ _) (by decide))
    | (with_reducible show keepsBut _ _ (mTow _ _); with_reducible refine keepsBut_of ?_ (mTow_keeps _ _) (by decide))
    | (with_reducible show keepsBut _ _ (sendNak _ _ _ _ _); with_reducible refine keepsBut_of ?_ (sendNak_keeps _ _ _ _ _) (by decide))
    | (with_reducible show keepsBut _ _ (mCmp _ _); with_reducible refine keepsBut_of ?_ (mCmp_keeps _ _) (by decide))
    | (with_reducible show keepsBut _ _ (mBlock _ _ _ _ _); with_reducible refine keepsBut_of ?_ (mBlock_keeps _ _ _ _ _) (by decide))
    | with_reducible refine keepsBut_ite ?_ ?_
    | with_reducible refine keepsBut_doIf (fun _ => ?_) ?_
    | with_reducible refine keepsBut_each (fun _ _ => ?_) ?_
    | dsimp only [id]
    | split)

theorem ackDue_keeps (np : Via) (id fseq : Nat) (s : State) : keepsBut [.net, .tow] s (ackDue np id fseq s) := by
  unfold ackDue
  try dsimp only
  repeat' (first
    | with_reducible exact keepsBut_refl _ _
    | (with_reducible show keepsBut _ _ (sendAck _ _ _ _); with_reducible refine keepsBut_of ?_ (sendAck_keeps _ _ _ _) (by decide))
    | (with_reducible show keepsBut _ _ (mLayer _ _ _); with_reducible refine keepsBut_of ?_ (mLayer_keeps _ _ _) (by decide))
    | with_reducible refine keepsBut_ite ?_ ?_
    | with_reducible refine keepsBut_doIf (fun _ => ?_) ?_
    | with_reducible refine keepsBut_each (fun _ _ => ?_) ?_
    | dsimp only [id]
    | split)

theorem fragDup_keeps (np : Via) (id fseq : Nat) (s : State) : keepsBut [.err, .net, .mgt, .tow, .str, .par] s (fragDup np id fseq s) := by
  unfold fragDup
  try dsimp only
  repeat' (first
    | with_reducible exact keepsBut_refl _ _
    | (with_reducible show keepsBut _ _ (mTow _ _); with_reducible refine keepsBut_of ?_ (mTow_keeps _ _) (by decide))
    | (with_reducible show keepsBut _ _ (mLayer _ _ _); with_reducible refine keepsBut_of ?_ (mLayer_keeps _ _ _) (by decide))
    | (with_reducible show keepsBut _ _ (closeCheck _ _ _ _); with_reducible refine keepsBut_of ?_ (closeCheck_keeps _ _ _ _) (by decide))
    | (with_reducible show keepsBut _ _ (ackDue _ _ _ _); with_reducible refine keepsBut_of ?_ (ackDue_keeps _ _ _ _) (by decide))
    | with_reducible refine keepsBut_ite ?_ ?_
    | with_reducible refine keepsBut_doIf (fun _ => ?_) ?_
    | with_reducible refine keepsBut_each (fun _ _ => ?_) ?_
    | dsimp only [id]
    | split)

theorem fragStore_keeps (np : Via) (id sidx b frag total fseq : Nat) (data : Bytes) (s : State) : keepsBut [.sys, .err, .dbg, .net, .mgt, .tow, .cmp, .str, .mem, .par] s (fragStore np id sidx b frag total fseq data s) := by
  unfold fragStore
  try dsimp only
  repeat' (first
    | with_reducible exact keepsBut_refl _ _
    | (with_reducible show keepsBut _ _ (mTow _ _); with_reducible refine keepsBut_of ?_ (mTow_keeps _ _) (by decide))
    | (with_reducible show keepsBut _ _ (mLayer _ _ _); with_reducible refine keepsBut_of ?_ (mLayer_keeps _ _ _) (by decide))
    | (with_reducible show keepsBut _ _ (updateMargins _); with_reducible refine keepsBut_of ?_ (updateMargins_keeps _) (by decide))
    | (with_reducible show keepsBut _ _ (strandSync _); with_reducible refine keepsBut_of ?_ (strandSync_keeps _) (by decide))
    | (with_reducible show keepsBut _ _ (setLayerSt _ _ _ _); with_reducible refine keepsBut_of ?_ (setLayerSt_keeps _ _ _ _) (by decide))
    | (with_reducible show keepsBut _ _ (blockHeld _ _ _ _ _ _); with_reducible refine keepsBut_of ?_ (blockHeld_keeps _ _ _ _ _ _) (by decide))
    | (with_reducible show keepsBut _ _ (placeFragments _); with_reducible refine keepsBut_of ?_ (placeFragments_keeps _) (by decide))
    | (with_reducible show keepsBut _ _ (ackDue _ _ _ _); with_reducible refine keepsBut_of ?_ (ackDue_keeps _ _ _ _) (by decide))
    | (with_reducible show keepsBut _ _ (closeCheck _ _ _ _); with_reducible refine keepsBut_of ?_ (closeCheck_keeps _ _ _ _) (by decide))
    | with_reducible refine keepsBut_ite ?_ ?_
    | with_reducible refine keepsBut_doIf (fun _ => ?_) ?_
    | with_reducible refine keepsBut_each (fun _ _ => ?_) ?_
    | dsimp only [id]
    | split)

theorem fragCheck_keeps (np : Via) (ss : Session) (d : Bytes) (l : Layer) (s : State) : keepsBut [.sys, .err, .dbg, .net, .mgt, .tow, .cmp, .str, .mem, .par] s (fragCheck np ss d l s) := by
  unfold fragCheck
  try dsimp only
  repeat' (first
    | with_reducible exact keepsBut_refl _ _
    | (with_reducible show keepsBut _ _ (sendNak _ _ _ _ _); with_reducible refine keepsBut_of ?_ (sendNak_keeps _ _ _ _ _) (by decide))
    | (with_reducible show keepsBut _ _ (fragDup _ _ _ _); with_reducible refine keepsBut_of ?_ (fragDup_keeps _ _ _ _) (by decide))
    | (with_reducible show keepsBut _ _ (stageTake _ _ _ _ _ _ _); with_reducible refine keepsBut_of ?_ (stageTake_keeps (qs := [.sys, .err, .dbg, .net, .mgt, .tow, .cmp, .str, .mem, .par]) (by decide) (fun _ => ?_) _ _ _ _ _ _) (fun _ m => m))
    | (with_reducible show keepsBut _ _ (fragStore _ _ _ _ _ _ _ _ _); with_reducible refine keepsBut_of ?_ (fragStore_keeps _ _ _ _ _ _ _ _ _) (by decide))
    | with_reducible refine keepsBut_ite ?_ ?_
    | with_reducible refine keepsBut_doIf (fun _ => ?_) ?_
    | with_reducible refine keepsBut_each (fun _ _ => ?_) ?_
    | dsimp only [id]
    | split)

theorem announce_keeps (np : Via) (ss : Session) (d : Bytes) (s : State) : keepsBut [.err, .net, .mgt, .tow, .mem] s (announce np ss d s) := by
  unfold announce
  try dsimp only
  repeat' (first
    | with_reducible exact keepsBut_refl _ _
    | (with_reducible show keepsBut _ _ (sendNak _ _ _ _ _); with_reducible refine keepsBut_of ?_ (sendNak_keeps _ _ _ _ _) (by decide))
    | (with_reducible show keepsBut _ _ (sendAck _ _ _ _); with_reducible refine keepsBut_of ?_ (sendAck_keeps _ _ _ _) (by decide))
    | (with_reducible show keepsBut _ _ (dirLayer _ _ _); with_reducible refine keepsBut_of ?_ (dirLayer_keeps _ _ _) (by decide))
    | (with_reducible show keepsBut _ _ (mTow _ _); with_reducible refine keepsBut_of ?_ (mTow_keeps _ _) (by decide))
    | (with_reducible show keepsBut _ _ (setLayerSt _ _ _ _); with_reducible refine keepsBut_of ?_ (setLayerSt_keeps _ _ _ _) (by decide))
    | with_reducible refine keepsBut_ite ?_ ?_
    | with_reducible refine keepsBut_doIf (fun _ => ?_) ?_
    | with_reducible refine keepsBut_each (fun _ _ => ?_) ?_
    | dsimp only [id]
    | split)

theorem closeMsg_keeps (np : Via) (d : Bytes) (l : Layer) (s : State) : keepsBut [.err, .net, .mgt, .tow, .str, .par] s (closeMsg np d l s) := by
  unfold closeMsg
  try dsimp only
  repeat' (first
    | with_reducible exact keepsBut_refl _ _
    | (with_reducible show keepsBut _ _ (sendAck _ _ _ _); with_reducible refine keepsBut_of ?_ (sendAck_keeps _ _ _ _) (by decide))
    | (with_reducible show keepsBut _ _ (closeCheck _ _ _ _); with_reducible refine keepsBut_of ?_ (closeCheck_keeps _ _ _ _) (by decide))
    | (with_reducible show keepsBut _ _ (mLayer _ _ _); with_reducible refine keepsBut_of ?_ (mLayer_keeps _ _ _) (by decide))
    | with_reducible refine keepsBut_ite ?_ ?_
    | with_reducible refine keepsBut_doIf (fun _ => ?_) ?_
    | with_reducible refine keepsBut_each (fun _ _ => ?_) ?_
    | dsimp only [id]
    | split)

theorem restartMsg_keeps (np : Via) (ss : Session) (d : Bytes) (l : Layer) (s : State) : keepsBut [.err, .net, .mgt, .tow, .str, .par] s (restartMsg np ss d l s) := by
  unfold restartMsg
  try dsimp only
  repeat' (first
    | with_reducible exact keepsBut_refl _ _
    | (with_reducible show keepsBut _ _ (mLayer _ _ _); with_reducible refine keepsBut_of ?_ (mLayer_keeps _ _ _) (by decide))
    | (with_reducible show keepsBut _ _ (sendTow _ _ _ _); with_reducible refine keepsBut_of ?_ (sendTow_keeps _ _ _ _) (by decide))
    | (with_reducible show keepsBut _ _ (mTow _ _); with_reducible refine keepsBut_of ?_ (mTow_keeps _ _) (by decide))
    | (with_reducible show keepsBut _ _ (setLayerSt _ _ _ _); with_reducible refine keepsBut_of ?_ (setLayerSt_keeps _ _ _ _) (by decide))
    | (with_reducible show keepsBut _ _ (enterStrand _ _ _); with_reducible refine keepsBut_of ?_ (enterStrand_keeps _ _ _) (by decide))
    | (with_reducible show keepsBut _ _ (updateMargins _); with_reducible refine keepsBut_of ?_ (updateMargins_keeps _) (by decide))
    | (with_reducible show keepsBut _ _ (strandSync _); with_reducible refine keepsBut_of ?_ (strandSync_keeps _) (by decide))
    | (with_reducible show keepsBut _ _ (sendNak _ _ _ _ _); with_reducible refine keepsBut_of ?_ (sendNak_keeps _ _ _ _ _) (by decide))
    | with_reducible refine keepsBut_ite ?_ ?_
    | with_reducible refine keepsBut_doIf (fun _ => ?_) ?_
    | with_reducible refine keepsBut_each (fun _ _ => ?_) ?_
    | dsimp only [id]
    | split)

theorem releaseMsg_keeps (np : Via) (ss : Session) (d : Bytes) (s : State) : keepsBut [.err, .net, .mgt, .tow, .cmp, .str, .fir, .mem, .par] s (releaseMsg np ss d s) := by
  unfold releaseMsg
  try dsimp only
  repeat' (first
    | with_reducible exact keepsBut_refl _ _
    | (with_reducible show keepsBut _ _ (sendNak _ _ _ _ _); with_reducible refine keepsBut_of ?_ (sendNak_keeps _ _ _ _ _) (by decide))
    | (with_reducible show keepsBut _ _ (sendAck _ _ _ _); with_reducible refine keepsBut_of ?_ (sendAck_keeps _ _ _ _) (by decide))
    | (with_reducible show keepsBut _ _ (releaseLayer _ _ _); with_reducible refine keepsBut_of ?_ (releaseLayer_keeps _ _ _) (by decide))
    | (with_reducible show keepsBut _ _ (creditWatch _); with_reducible refine keepsBut_of ?_ (creditWatch_keeps _) (by decide))
    | (with_reducible show keepsBut _ _ (updateMargins _); with_reducible refine keepsBut_of ?_ (updateMargins_keeps _) (by decide))
    | (with_reducible show keepsBut _ _ (strandSync _); with_reducible refine keepsBut_of ?_ (strandSync_keeps _) (by decide))
    | with_reducible refine keepsBut_ite ?_ ?_
    | with_reducible refine keepsBut_doIf (fun _ => ?_) ?_
    | with_reducible refine keepsBut_each (fun _ _ => ?_) ?_
    | dsimp only [id]
    | split)

theorem statusMsgReq_keeps (np : Via) (ss : Session) (d : Bytes) (s : State) : keepsBut [.net, .tow] s (statusMsgReq np ss d s) := by
  unfold statusMsgReq
  try dsimp only
  repeat' (first
    | with_reducible exact keepsBut_refl _ _
    | (with_reducible show keepsBut _ _ (sendTow _ _ _ _); with_reducible refine keepsBut_of ?_ (sendTow_keeps _ _ _ _) (by decide))
    | (with_reducible show keepsBut _ _ (sendAck _ _ _ _); with_reducible refine keepsBut_of ?_ (sendAck_keeps _ _ _ _) (by decide))
    | with_reducible refine keepsBut_ite ?_ ?_
    | with_reducible refine keepsBut_doIf (fun _ => ?_) ?_
    | with_reducible refine keepsBut_each (fun _ _ => ?_) ?_
    | dsimp only [id]
    | split)

theorem fragWritten_keeps (s : State) : keepsBut [.err, .net, .mgt, .tow, .str, .mem, .par] s (fragWritten s) := by
  unfold fragWritten
  try dsimp only
  repeat' (first
    | with_reducible exact keepsBut_refl _ _
    | (with_reducible show keepsBut _ _ (mTow _ _); with_reducible refine keepsBut_of ?_ (mTow_keeps _ _) (by decide))
    | (with_reducible show keepsBut _ _ (creditWatch _); with_reducible refine keepsBut_of ?_ (creditWatch_keeps _) (by decide))
    | (with_reducible show keepsBut _ _ (markPresent _ _ _ _ _); with_reducible refine keepsBut_of ?_ (markPresent_keeps _ _ _ _ _) (by decide))
    | with_reducible refine keepsBut_ite ?_ ?_
    | with_reducible refine keepsBut_doIf (fun _ => ?_) ?_
    | with_reducible refine keepsBut_each (fun _ _ => ?_) ?_
    | dsimp only [id]
    | split)

theorem compStart_keeps (s : State) : keepsBut [.tow, .cmp, .mem] s (compStart s) := by
  unfold compStart
  try dsimp only
  repeat' (first
    | with_reducible exact keepsBut_refl _ _
    | (with_reducible show keepsBut _ _ (mCmp _ _); with_reducible refine keepsBut_of ?_ (mCmp_keeps _ _) (by decide))
    | (with_reducible show keepsBut _ _ (memRead _ _ _ _ _ _); with_reducible refine keepsBut_of ?_ (memRead_keeps _ _ _ _ _ _) (by decide))
    | (with_reducible show keepsBut _ _ (takeTag _); with_reducible refine keepsBut_of ?_ (takeTag_keeps _) (by decide))
    | (with_reducible show keepsBut _ _ (mBlock _ _ _ _ _); with_reducible refine keepsBut_of ?_ (mBlock_keeps _ _ _ _ _) (by decide))
    | (with_reducible show keepsBut _ _ (mComp _ _ _); with_reducible refine keepsBut_of ?_ (mComp_keeps _ _ _) (by decide))
    | with_reducible refine keepsBut_ite ?_ ?_
    | with_reducible refine keepsBut_doIf (fun _ => ?_) ?_
    | with_reducible refine keepsBut_each (fun _ _ => ?_) ?_
    | dsimp only [id]
    | split)

theorem chainDrain_keeps (c : Nat) (s : State) : keepsBut [.cmp, .mem] s (chainDrain c s) := by
  unfold chainDrain
  try dsimp only
  repeat' (first
    | with_reducible exact keepsBut_refl _ _
    | (with_reducible show keepsBut _ _ (memWrite _ _ _ _ _); with_reducible refine keepsBut_of ?_ (memWrite_keeps _ _ _ _ _) (by decide))
    | (with_reducible show keepsBut _ _ (mComp _ _ _); with_reducible refine keepsBut_of ?_ (mComp_keeps _ _ _) (by decide))
    | with_reducible refine keepsBut_ite ?_ ?_
    | with_reducible refine keepsBut_doIf (fun _ => ?_) ?_
    | with_reducible refine keepsBut_each (fun _ _ => ?_) ?_
    | dsimp only [id]
    | split)

theorem compFree_keeps (c : Nat) (s : State) : keepsBut [.cmp, .mem] s (compFree c s) := by
  unfold compFree
  try dsimp only
  repeat' (first
    | with_reducible exact keepsBut_refl _ _
    | (with_reducible show keepsBut _ _ (mComp _ _ _); with_reducible refine keepsBut_of ?_ (mComp_keeps _ _ _) (by decide))
    | (with_reducible show keepsBut _ _ (arbDropped _); with_reducible refine keepsBut_of ?_ (arbDropped_keeps _) (by decide))
    | (with_reducible show keepsBut _ _ (mMem _ _); with_reducible refine keepsBut_of ?_ (mMem_keeps _ _) (by decide))
    | with_reducible refine keepsBut_ite ?_ ?_
    | with_reducible refine keepsBut_doIf (fun _ => ?_) ?_
    | with_reducible refine keepsBut_each (fun _ _ => ?_) ?_
    | dsimp only [id]
    | split)

theorem compRaw_keeps (c : Nat) (s : State) : keepsBut [.err, .net, .mgt, .tow, .cmp, .str, .mem, .par] s (compRaw c s) := by
  unfold compRaw
  try dsimp only
  repeat' (first
    | with_reducible exact keepsBut_refl _ _
    | (with_reducible show keepsBut _ _ (markPresent _ _ _ _ _); with_reducible refine keepsBut_of ?_ (markPresent_keeps _ _ _ _ _) (by decide))
    | (with_reducible show keepsBut _ _ (compFree _ _); with_reducible refine keepsBut_of ?_ (compFree_keeps _ _) (by decide))
    | (with_reducible show keepsBut _ _ (mCmp _ _); with_reducible refine keepsBut_of ?_ (mCmp_keeps _ _) (by decide))
    | with_reducible refine keepsBut_ite ?_ ?_
    | with_reducible refine keepsBut_doIf (fun _ => ?_) ?_
    | with_reducible refine keepsBut_each (fun _ _ => ?_) ?_
    | dsimp only [id]
    | split)

theorem compDone_keeps (c : Nat) (s : State) : keepsBut [.err, .net, .mgt, .tow, .cmp, .str, .mem, .par] s (compDone c s) := by
  unfold compDone
  try dsimp only
  repeat' (first
    | with_reducible exact keepsBut_refl _ _
    | (with_reducible show keepsBut _ _ (compRaw _ _); with_reducible refine keepsBut_of ?_ (compRaw_keeps _ _) (by decide))
    | (with_reducible show keepsBut _ _ (mBlock _ _ _ _ _); with_reducible refine keepsBut_of ?_ (mBlock_keeps _ _ _ _ _) (by decide))
    | (with_reducible show keepsBut _ _ (mCmp _ _); with_reducible refine keepsBut_of ?_ (mCmp_keeps _ _) (by decide))
    | (with_reducible show keepsBut _ _ (markPresent _ _ _ _ _); with_reducible refine keepsBut_of ?_ (markPresent_keeps _ _ _ _ _) (by decide))
    | (with_reducible show keepsBut _ _ (compFree _ _); with_reducible refine keepsBut_of ?_ (compFree_keeps _ _) (by decide))
    | with_reducible refine keepsBut_ite ?_ ?_
    | with_reducible refine keepsBut_doIf (fun _ => ?_) ?_
    | with_reducible refine keepsBut_each (fun _ _ => ?_) ?_
    | dsimp only [id]
    | split)

end Sys2Proof.Machine
end

