-- ==== Sys2Proof/Laws/KeepsMore.lean ====
section
/-! SUPPORT. The frames of the other operations, from the release of triggers on. -/

namespace Sys2Proof.Machine

/-! Machine/Release.lean -/

theorem ovsCheck_keeps (s : State) : keepsBut [.err, .fir, .par] s (ovsCheck s) := by
  unfold ovsCheck
  try dsimp only
  repeat' (first
    | with_reducible exact keepsBut_refl _ _
    | (with_reducible show keepsBut _ _ (setOvs _ _); with_reducible refine keepsBut_of ?_ (setOvs_keeps _ _) (by decide))
    | (with_reducible show keepsBut _ _ (notice _ _ _); with_reducible refine keepsBut_of ?_ (notice_keeps _ _ _) (by decide))
    | with_reducible refine keepsBut_ite ?_ ?_
    | with_reducible refine keepsBut_doIf (fun _ => ?_) ?_
    | with_reducible refine keepsBut_each (fun _ _ => ?_) ?_
    | dsimp only [id]
    | split)

theorem decoderStops_keeps (s : State) : keepsBut [.fir] s (decoderStops s) := by
  unfold decoderStops
  try dsimp only
  repeat' (first
    | with_reducible exact keepsBut_refl _ _
    | (with_reducible show keepsBut _ _ (mFir _ _); with_reducible refine keepsBut_of ?_ (mFir_keeps _ _) (by decide))
    | (with_reducible show keepsBut _ _ (stopAt _ _); with_reducible refine keepsBut_of ?_ (stopAt_keeps _ _) (by decide))
    | with_reducible refine keepsBut_ite ?_ ?_
    | with_reducible refine keepsBut_doIf (fun _ => ?_) ?_
    | with_reducible refine keepsBut_each (fun _ _ => ?_) ?_
    | dsimp only [id]
    | split)

theorem stopReached_keeps (rel : Int) (s : State) : keepsBut [.sys, .mgt, .fir, .par] s (stopReached rel s) := by
  unfold stopReached
  try dsimp only
  repeat' (first
    | with_reducible exact keepsBut_refl _ _
    | (with_reducible show keepsBut _ _ (mFir _ _); with_reducible refine keepsBut_of ?_ (mFir_keeps _ _) (by decide))
    | (with_reducible show keepsBut _ _ (enterStopped _); with_reducible refine keepsBut_of ?_ (enterStopped_keeps _) (by decide))
    | with_reducible refine keepsBut_ite ?_ ?_
    | with_reducible refine keepsBut_doIf (fun _ => ?_) ?_
    | with_reducible refine keepsBut_each (fun _ _ => ?_) ?_
    | dsimp only [id]
    | split)

theorem deliverAll_keeps (gr : Grid) (g : Geo) (p k : Nat) (discard : Bool) (s : State) :
    keepsBut [.str] s (deliverAll gr g p k discard s).1 := by
  unfold deliverAll
  refine keepsBut_foldl (acc := (s, _)) ?_ _ (keepsBut_refl _ s)
  exact fun acc x => deliver_keeps gr x k discard acc.1

theorem beforeRelease_keeps (p k lc : Nat) (s : State) : keepsBut [.free, .sys, .err, .mgt, .tow, .str, .fir, .nzl, .gat, .mem, .par] s (beforeRelease p k lc s) := by
  unfold beforeRelease
  try dsimp only
  repeat' (first
    | with_reducible exact keepsBut_refl _ _
    | (with_reducible show keepsBut _ _ (mNzl _ _); with_reducible refine keepsBut_of ?_ (mNzl_keeps _ _) (by decide))
    | (with_reducible show keepsBut _ _ (nzBefore _ _ _); with_reducible refine keepsBut_of ?_ (nzBefore_keeps _ _ _) (by decide))
    | (with_reducible show keepsBut _ _ (portMask _ _ _); with_reducible refine keepsBut_of ?_ (portMask_keeps _ _ _) (by decide))
    | (with_reducible show keepsBut _ _ (ctlDue _ _); with_reducible refine keepsBut_of ?_ (ctlDue_keeps _ _) (by decide))
    | (with_reducible show keepsBut _ _ (yieldDue _ _); with_reducible refine keepsBut_of ?_ (yieldDue_keeps _ _) (by decide))
    | (with_reducible show keepsBut _ _ (updLateCount _ _); with_reducible refine keepsBut_of ?_ (updLateCount_keeps _ _) (by decide))
    | with_reducible refine keepsBut_ite ?_ ?_
    | with_reducible refine keepsBut_doIf (fun _ => ?_) ?_
    | with_reducible refine keepsBut_each (fun _ _ => ?_) ?_
    | dsimp only [id]
    | split)

theorem pushTrig_keeps (p : Nat) (g : Geo) (t : Trig) (s : State) : keepsBut [.fir] s (pushTrig p g t s) := by
  unfold pushTrig
  try dsimp only
  repeat' (first
    | with_reducible exact keepsBut_refl _ _
    | (with_reducible show keepsBut _ _ (mFir _ _); with_reducible refine keepsBut_of ?_ (mFir_keeps _ _) (by decide))
    | (with_reducible show keepsBut _ _ (mPort _ _ _); with_reducible refine keepsBut_of ?_ (mPort_keeps _ _ _) (by decide))
    | with_reducible refine keepsBut_ite ?_ ?_
    | with_reducible refine keepsBut_doIf (fun _ => ?_) ?_
    | with_reducible refine keepsBut_each (fun _ _ => ?_) ?_
    | dsimp only [id]
    | split)

theorem underrun_keeps (p k layer strand : Nat) (rel : Int) (s : State) : keepsBut [.err, .str, .fir] s (underrun p k layer strand rel s) := by
  unfold underrun
  try dsimp only
  repeat' (first
    | with_reducible exact keepsBut_refl _ _
    | (with_reducible show keepsBut _ _ (mStr _ _); with_reducible refine keepsBut_of ?_ (mStr_keeps _ _) (by decide))
    | (with_reducible show keepsBut _ _ (raise _ _ _ _); with_reducible refine keepsBut_of ?_ (raise_keeps _ _ _ _) (by decide))
    | (with_reducible show keepsBut _ _ (faultErr _ _ _); with_reducible refine keepsBut_of ?_ (faultErr_keeps _ _ _) (by decide))
    | (with_reducible show keepsBut _ _ (stopAt _ _); with_reducible refine keepsBut_of ?_ (stopAt_keeps _ _) (by decide))
    | with_reducible refine keepsBut_ite ?_ ?_
    | with_reducible refine keepsBut_doIf (fun _ => ?_) ?_
    | with_reducible refine keepsBut_each (fun _ _ => ?_) ?_
    | dsimp only [id]
    | split)

theorem stopUnder_keeps (gr : Grid) (group : List (Nat × Nat × Int)) (s : State) : keepsBut [.err, .str, .fir] s (stopUnder gr group s) := by
  unfold stopUnder
  try dsimp only
  repeat' (first
    | with_reducible exact keepsBut_refl _ _
    | (with_reducible show keepsBut _ _ (deliverAll _ _ _ _ _ _).1; with_reducible refine keepsBut_of ?_ (deliverAll_keeps _ _ _ _ _ _) (by decide))
    | (with_reducible show keepsBut _ _ (underrun _ _ _ _ _ _); with_reducible refine keepsBut_of ?_ (underrun_keeps _ _ _ _ _ _) (by decide))
    | with_reducible refine keepsBut_ite ?_ ?_
    | with_reducible refine keepsBut_doIf (fun _ => ?_) ?_
    | with_reducible refine keepsBut_each (fun _ _ => ?_) ?_
    | dsimp only [id]
    | split)

theorem releaseTrig_keeps (p k : Nat) (rel : Int) (s : State) : keepsBut [.free, .sys, .err, .mgt, .tow, .str, .fir, .nzl, .gat, .mem, .par] s (releaseTrig p k rel s) := by
  unfold releaseTrig
  try dsimp only
  repeat' (first
    | with_reducible exact keepsBut_refl _ _
    | (with_reducible show keepsBut _ _ (mFir _ _); with_reducible refine keepsBut_of ?_ (mFir_keeps _ _) (by decide))
    | (with_reducible show keepsBut _ _ (faultErr _ _ _); with_reducible refine keepsBut_of ?_ (faultErr_keeps _ _ _) (by decide))
    | (with_reducible show keepsBut _ _ (stopReached _ _); with_reducible refine keepsBut_of ?_ (stopReached_keeps _ _) (by decide))
    | (with_reducible show keepsBut _ _ (deliverAll _ _ _ _ _ _).1; with_reducible refine keepsBut_of ?_ (deliverAll_keeps _ _ _ _ _ _) (by decide))
    | (with_reducible show keepsBut _ _ (beforeRelease _ _ _ _); with_reducible refine keepsBut_of ?_ (beforeRelease_keeps _ _ _ _) (by decide))
    | (with_reducible show keepsBut _ _ (pushTrig _ _ _ _); with_reducible refine keepsBut_of ?_ (pushTrig_keeps _ _ _ _) (by decide))
    | (with_reducible show keepsBut _ _ (underrun _ _ _ _ _ _); with_reducible refine keepsBut_of ?_ (underrun_keeps _ _ _ _ _ _) (by decide))
    | with_reducible refine keepsBut_ite ?_ ?_
    | with_reducible refine keepsBut_doIf (fun _ => ?_) ?_
    | with_reducible refine keepsBut_each (fun _ _ => ?_) ?_
    | dsimp only [id]
    | split)

theorem pruneTrigs_keeps (p : Nat) (s : State) : keepsBut [.fir] s (pruneTrigs p s) := by
  unfold pruneTrigs
  try dsimp only
  repeat' (first
    | with_reducible exact keepsBut_refl _ _
    | (with_reducible show keepsBut _ _ (mPort _ _ _); with_reducible refine keepsBut_of ?_ (mPort_keeps _ _ _) (by decide))
    | with_reducible refine keepsBut_ite ?_ ?_
    | with_reducible refine keepsBut_doIf (fun _ => ?_) ?_
    | with_reducible refine keepsBut_each (fun _ _ => ?_) ?_
    | dsimp only [id]
    | split)

theorem lagPolicy_keeps (p : Nat) (x : Trig) (s : State) : keepsBut [.err, .fir] s (lagPolicy p x s) := by
  unfold lagPolicy
  try dsimp only
  repeat' (first
    | with_reducible exact keepsBut_refl _ _
    | (with_reducible show keepsBut _ _ (mFir _ _); with_reducible refine keepsBut_of ?_ (mFir_keeps _ _) (by decide))
    | (with_reducible show keepsBut _ _ (mPort _ _ _); with_reducible refine keepsBut_of ?_ (mPort_keeps _ _ _) (by decide))
    | (with_reducible show keepsBut _ _ (raise _ _ _ _); with_reducible refine keepsBut_of ?_ (raise_keeps _ _ _ _) (by decide))
    | (with_reducible show keepsBut _ _ (stopAt _ _); with_reducible refine keepsBut_of ?_ (stopAt_keeps _ _) (by decide))
    | with_reducible refine keepsBut_ite ?_ ?_
    | with_reducible refine keepsBut_doIf (fun _ => ?_) ?_
    | with_reducible refine keepsBut_each (fun _ _ => ?_) ?_
    | dsimp only [id]
    | split)

theorem freezePort_keeps (t p : Nat) (s : State) : keepsBut [.err, .fir] s (freezePort t p s) := by
  unfold freezePort
  try dsimp only
  repeat' (first
    | with_reducible exact keepsBut_refl _ _
    | (with_reducible show keepsBut _ _ (mFir _ _); with_reducible refine keepsBut_of ?_ (mFir_keeps _ _) (by decide))
    | (with_reducible show keepsBut _ _ (mPort _ _ _); with_reducible refine keepsBut_of ?_ (mPort_keeps _ _ _) (by decide))
    | (with_reducible show keepsBut _ _ (faultErr _ _ _); with_reducible refine keepsBut_of ?_ (faultErr_keeps _ _ _) (by decide))
    | with_reducible refine keepsBut_ite ?_ ?_
    | with_reducible refine keepsBut_doIf (fun _ => ?_) ?_
    | with_reducible refine keepsBut_each (fun _ _ => ?_) ?_
    | dsimp only [id]
    | split)

theorem knotSeeks_keeps (before : List Nat) (s : State) : keepsBut [.str] s (knotSeeks before s) := by
  unfold knotSeeks
  try dsimp only
  repeat' (first
    | with_reducible exact keepsBut_refl _ _
    | (with_reducible show keepsBut _ _ (geoSeek _ _ _ _); with_reducible refine keepsBut_of ?_ (geoSeek_keeps _ _ _ _) (by decide))
    | with_reducible refine keepsBut_ite ?_ ?_
    | with_reducible refine keepsBut_doIf (fun _ => ?_) ?_
    | with_reducible refine keepsBut_each (fun _ _ => ?_) ?_
    | dsimp only [id]
    | split)

theorem portsGone_keeps (s : State) : keepsBut [.free, .err, .tow, .fir, .nzl, .gat, .mem] s (portsGone s) := by
  unfold portsGone
  try dsimp only
  repeat' (first
    | with_reducible exact keepsBut_refl _ _
    | (with_reducible show keepsBut _ _ (mPort _ _ _); with_reducible refine keepsBut_of ?_ (mPort_keeps _ _ _) (by decide))
    | (with_reducible show keepsBut _ _ (nzGridClosed _ _); with_reducible refine keepsBut_of ?_ (nzGridClosed_keeps _ _) (by decide))
    | with_reducible refine keepsBut_ite ?_ ?_
    | with_reducible refine keepsBut_doIf (fun _ => ?_) ?_
    | with_reducible refine keepsBut_each (fun _ _ => ?_) ?_
    | dsimp only [id]
    | split)

theorem sampleUsed_keeps (t : Nat) (s : State) : keepsBut [.fir] s (sampleUsed t s) := by
  unfold sampleUsed
  try dsimp only
  repeat' (first
    | with_reducible exact keepsBut_refl _ _
    | (with_reducible show keepsBut _ _ (mFir _ _); with_reducible refine keepsBut_of ?_ (mFir_keeps _ _) (by decide))
    | with_reducible refine keepsBut_ite ?_ ?_
    | with_reducible refine keepsBut_doIf (fun _ => ?_) ?_
    | with_reducible refine keepsBut_each (fun _ _ => ?_) ?_
    | dsimp only [id]
    | split)

theorem releaseDue_keeps : ∀ (l : List (Nat × Nat × Int)) (s : State), keepsBut [.free, .sys, .err, .mgt, .tow, .str, .fir, .nzl, .gat, .mem, .par] s (releaseDue l s)
  | [], s => keepsBut_refl _ s
  | x :: r, s => by
    unfold releaseDue
    refine keepsBut_of ?_ (releaseDue_keeps r _) (by decide)
    refine keepsBut_of ?_ (releaseTrig_keeps _ _ _ _) (by decide)
    split
    · exact keepsBut_of (keepsBut_refl _ s) (stopUnder_keeps _ _ s) (by decide)
    · exact keepsBut_refl _ s

theorem posSample_keeps (t : Nat) (s : State) : keepsBut [.free, .sys, .err, .net, .mgt, .tow, .cmp, .str, .fir, .nzl, .gat, .mem, .par] s (posSample t s) := by
  unfold posSample
  try dsimp only
  repeat' (first
    | with_reducible exact keepsBut_refl _ _
    | (with_reducible show keepsBut _ _ (sampleUsed _ _); with_reducible refine keepsBut_of ?_ (sampleUsed_keeps _ _) (by decide))
    | (with_reducible show keepsBut _ _ (ctlLeft _); with_reducible refine keepsBut_of ?_ (ctlLeft_keeps _) (by decide))
    | (with_reducible show keepsBut _ _ (setOvs _ _); with_reducible refine keepsBut_of ?_ (setOvs_keeps _ _) (by decide))
    | (with_reducible show keepsBut _ _ (decoderStops _); with_reducible refine keepsBut_of ?_ (decoderStops_keeps _) (by decide))
    | (with_reducible show keepsBut _ _ (releaseDue _ _); with_reducible refine keepsBut_of ?_ (releaseDue_keeps _ _) (by decide))
    | (with_reducible show keepsBut _ _ (stopReached _ _); with_reducible refine keepsBut_of ?_ (stopReached_keeps _ _) (by decide))
    | (with_reducible show keepsBut _ _ (knotSeeks _ _); with_reducible refine keepsBut_of ?_ (knotSeeks_keeps _ _) (by decide))
    | (with_reducible show keepsBut _ _ (mFir _ _); with_reducible refine keepsBut_of ?_ (mFir_keeps _ _) (by decide))
    | (with_reducible show keepsBut _ _ (strandSync _); with_reducible refine keepsBut_of ?_ (strandSync_keeps _) (by decide))
    | (with_reducible show keepsBut _ _ (portsGone _); with_reducible refine keepsBut_of ?_ (portsGone_keeps _) (by decide))
    | (with_reducible show keepsBut _ _ (pruneTrigs _ _); with_reducible refine keepsBut_of ?_ (pruneTrigs_keeps _ _) (by decide))
    | (with_reducible show keepsBut _ _ (freezePort _ _ _); with_reducible refine keepsBut_of ?_ (freezePort_keeps _ _ _) (by decide))
    | (with_reducible show keepsBut _ _ (updateMargins _); with_reducible refine keepsBut_of ?_ (updateMargins_keeps _) (by decide))
    | (with_reducible show keepsBut _ _ (finishLayers _); with_reducible refine keepsBut_of ?_ (finishLayers_keeps _) (by decide))
    | (with_reducible show keepsBut _ _ (ovsCheck _); with_reducible refine keepsBut_of ?_ (ovsCheck_keeps _) (by decide))
    | with_reducible refine keepsBut_ite ?_ ?_
    | with_reducible refine keepsBut_doIf (fun _ => ?_) ?_
    | with_reducible refine keepsBut_each (fun _ _ => ?_) ?_
    | dsimp only [id]
    | split)

/-! Machine/Frames.lean -/

theorem mTrig_keeps (p k : Nat) (f : Trig → Trig) (s : State) : keepsBut [.fir] s (mTrig p k f s) := by
  unfold mTrig
  try dsimp only
  repeat' (first
    | with_reducible exact keepsBut_refl _ _
    | (with_reducible show keepsBut _ _ (mPort _ _ _); with_reducible refine keepsBut_of ?_ (mPort_keeps _ _ _) (by decide))
    | with_reducible refine keepsBut_ite ?_ ?_
    | with_reducible refine keepsBut_doIf (fun _ => ?_) ?_
    | with_reducible refine keepsBut_each (fun _ _ => ?_) ?_
    | dsimp only [id]
    | split)

theorem mLine_keeps (p k seg : Nat) (f : SegLine → SegLine) (s : State) : keepsBut [.fir] s (mLine p k seg f s) := by
  unfold mLine
  try dsimp only
  repeat' (first
    | with_reducible exact keepsBut_refl _ _
    | (with_reducible show keepsBut _ _ (mTrig _ _ _ _); with_reducible refine keepsBut_of ?_ (mTrig_keeps _ _ _ _) (by decide))
    | with_reducible refine keepsBut_ite ?_ ?_
    | with_reducible refine keepsBut_doIf (fun _ => ?_) ?_
    | with_reducible refine keepsBut_each (fun _ _ => ?_) ?_
    | dsimp only [id]
    | split)

theorem laneOffer_keeps (src tgt lc : Nat) (o : Offer) (s : State) : keepsBut [.err, .tow, .nzl] s (laneOffer src tgt lc o s) := by
  unfold laneOffer
  try dsimp only
  repeat' (first
    | with_reducible exact keepsBut_refl _ _
    | (with_reducible show keepsBut _ _ (mNzl _ _); with_reducible refine keepsBut_of ?_ (mNzl_keeps _ _) (by decide))
    | (with_reducible show keepsBut _ _ (offerLost _ _ _ _ _); with_reducible refine keepsBut_of ?_ (offerLost_keeps _ _ _ _ _) (by decide))
    | with_reducible refine keepsBut_ite ?_ ?_
    | with_reducible refine keepsBut_doIf (fun _ => ?_) ?_
    | with_reducible refine keepsBut_each (fun _ _ => ?_) ?_
    | dsimp only [id]
    | split)

theorem orphanLine_keeps (t : Trig) (l : SegLine) (x : DetourSrc) (s : State) : keepsBut [.nzl] s (orphanLine t l x s) := by
  unfold orphanLine
  try dsimp only
  repeat' (first
    | with_reducible exact keepsBut_refl _ _
    | (with_reducible show keepsBut _ _ (mNzl _ _); with_reducible refine keepsBut_of ?_ (mNzl_keeps _ _) (by decide))
    | with_reducible refine keepsBut_ite ?_ ?_
    | with_reducible refine keepsBut_doIf (fun _ => ?_) ?_
    | with_reducible refine keepsBut_each (fun _ _ => ?_) ?_
    | dsimp only [id]
    | split)

theorem resolveOffers_keeps (ok merge : Bool) (own layer : Nat) (line : Int) : ∀ (l : List (Nat × Nat)) (acc : Bool) (cur : Nat) (s : State),
    keepsBut [.err, .tow, .nzl] s (resolveOffers ok merge own layer line l acc cur s).2
  | [], _, _, s => keepsBut_refl _ s
  | (src, c) :: r, acc, cur, s => by
    unfold resolveOffers
    split
    · exact keepsBut_of (keepsBut_of (keepsBut_refl _ s) (offerLost_keeps src layer line 1 s) (by decide)) (resolveOffers_keeps ok merge own layer line r acc cur _) (by decide)
    · split
      · exact keepsBut_of (keepsBut_of (keepsBut_refl _ s) (offerLost_keeps src layer line 2 s) (by decide)) (resolveOffers_keeps ok merge own layer line r acc cur _) (by decide)
      · split
        · exact keepsBut_of (keepsBut_of (keepsBut_refl _ s) (offerLost_keeps src layer line 3 s) (by decide)) (resolveOffers_keeps ok merge own layer line r true cur _) (by decide)
        · exact keepsBut_of (keepsBut_of (keepsBut_refl _ s) (mNzl_keeps _ s) (by decide)) (resolveOffers_keeps ok merge own layer line r true _ _) (by decide)

theorem mapNozzle_keeps (t : Trig) (l : SegLine) (n : Nat) (s : State) : keepsBut [.err, .tow, .nzl] s (mapNozzle t l n s).2 := by
  unfold mapNozzle
  dsimp only
  split
  · exact keepsBut_refl _ s
  · exact keepsBut_of (keepsBut_refl _ s) (resolveOffers_keeps _ _ _ _ _ _ _ _ s) (by decide)

theorem mapLine_keeps (p k seg : Nat) (s : State) : keepsBut [.err, .tow, .fir, .nzl] s (mapLine p k seg s) := by
  unfold mapLine
  split
  · exact keepsBut_refl _ s
  · split
    · exact keepsBut_refl _ s
    · refine keepsBut_of ?_ (mLine_keeps _ _ _ _ _) (by decide)
      refine keepsBut_of ?_ (mNzl_keeps _ _) (by decide)
      refine keepsBut_foldl2 (α := Nat) (β := List Nat) (acc := (([] : List Nat), _)) ?_ _ ?_
      · exact fun acc j => keepsBut_of (keepsBut_refl _ _) (mapNozzle_keeps _ _ _ acc.2) (by decide)
      refine keepsBut_each (fun x u => ?_) (keepsBut_refl _ s)
      split
      · exact keepsBut_of (keepsBut_refl _ u) (laneOffer_keeps _ _ _ _ u) (by decide)
      · exact keepsBut_refl _ u
      · exact keepsBut_of (keepsBut_refl _ u) (orphanLine_keeps _ _ _ u) (by decide)

theorem mapNext_keeps (s : State) : keepsBut [.sys, .err, .dbg, .mgt, .tow, .fir, .nzl] s (mapNext s) := by
  unfold mapNext
  try dsimp only
  repeat' (first
    | with_reducible exact keepsBut_refl _ _
    | (with_reducible show keepsBut _ _ (mFir _ _); with_reducible refine keepsBut_of ?_ (mFir_keeps _ _) (by decide))
    | (with_reducible show keepsBut _ _ (stageTake _ _ _ _ _ _ _); with_reducible refine keepsBut_of ?_ (stageTake_keeps (qs := [.sys, .err, .dbg, .mgt, .tow, .fir, .nzl]) (by decide) (fun _ => ?_) _ _ _ _ _ _) (fun _ m => m))
    | (with_reducible show keepsBut _ _ (mapLine _ _ _ _); with_reducible refine keepsBut_of ?_ (mapLine_keeps _ _ _ _) (by decide))
    | with_reducible refine keepsBut_ite ?_ ?_
    | with_reducible refine keepsBut_doIf (fun _ => ?_) ?_
    | with_reducible refine keepsBut_each (fun _ _ => ?_) ?_
    | dsimp only [id]
    | split)

theorem slotPut_keeps (n i c : Nat) (s : State) : keepsBut [.mem] s (slotPut n i c s) := by
  unfold slotPut
  try dsimp only
  repeat' (first
    | with_reducible exact keepsBut_refl _ _
    | (with_reducible show keepsBut _ _ (bankPut _ _ _ _); with_reducible refine keepsBut_of ?_ (bankPut_keeps _ _ _ _) (by decide))
    | with_reducible refine keepsBut_ite ?_ ?_
    | with_reducible refine keepsBut_doIf (fun _ => ?_) ?_
    | with_reducible refine keepsBut_each (fun _ _ => ?_) ?_
    | dsimp only [id]
    | split)

theorem staggerRest_keeps (p : Nat) (t : Trig) (s : State) : keepsBut [.mem] s (staggerRest p t s) := by
  unfold staggerRest
  try dsimp only
  repeat' (first
    | with_reducible exact keepsBut_refl _ _
    | (with_reducible show keepsBut _ _ (slotPut _ _ _ _); with_reducible refine keepsBut_of ?_ (slotPut_keeps _ _ _ _) (by decide))
    | with_reducible refine keepsBut_ite ?_ ?_
    | with_reducible refine keepsBut_doIf (fun _ => ?_) ?_
    | with_reducible refine keepsBut_each (fun _ _ => ?_) ?_
    | dsimp only [id]
    | split)

theorem staggerLine_keeps (n : Nat) (t : Trig) (l : SegLine) (s : State) : keepsBut [.fir, .mem] s (staggerLine n t l s) := by
  unfold staggerLine
  try dsimp only
  repeat' (first
    | with_reducible exact keepsBut_refl _ _
    | (with_reducible show keepsBut _ _ (pruneTrigs _ _); with_reducible refine keepsBut_of ?_ (pruneTrigs_keeps _ _) (by decide))
    | (with_reducible show keepsBut _ _ (mLine _ _ _ _ _); with_reducible refine keepsBut_of ?_ (mLine_keeps _ _ _ _ _) (by decide))
    | (with_reducible show keepsBut _ _ (slotPut _ _ _ _); with_reducible refine keepsBut_of ?_ (slotPut_keeps _ _ _ _) (by decide))
    | (with_reducible show keepsBut _ _ (staggerRest _ _ _); with_reducible refine keepsBut_of ?_ (staggerRest_keeps _ _ _) (by decide))
    | with_reducible refine keepsBut_ite ?_ ?_
    | with_reducible refine keepsBut_doIf (fun _ => ?_) ?_
    | with_reducible refine keepsBut_each (fun _ _ => ?_) ?_
    | dsimp only [id]
    | split)

theorem takeSsn_keeps (p : Nat) (s : State) : keepsBut [.gul] s (takeSsn p s) := by
  unfold takeSsn
  try dsimp only
  repeat' (first
    | with_reducible exact keepsBut_refl _ _
    | (with_reducible show keepsBut _ _ (mHead _ _ _); with_reducible refine keepsBut_of ?_ (mHead_keeps _ _ _) (by decide))
    | with_reducible refine keepsBut_ite ?_ ?_
    | with_reducible refine keepsBut_doIf (fun _ => ?_) ?_
    | with_reducible refine keepsBut_each (fun _ _ => ?_) ?_
    | dsimp only [id]
    | split)

theorem dropRing_keeps (p lc nw n : Nat) (s : State) : keepsBut [.lmp] s (dropRing p lc nw n s) := by
  unfold dropRing
  try dsimp only
  repeat' (first
    | with_reducible exact keepsBut_refl _ _
    | (with_reducible show keepsBut _ _ (mLmp _ _); with_reducible refine keepsBut_of ?_ (mLmp_keeps _ _) (by decide))
    | with_reducible refine keepsBut_ite ?_ ?_
    | with_reducible refine keepsBut_doIf (fun _ => ?_) ?_
    | with_reducible refine keepsBut_each (fun _ _ => ?_) ?_
    | dsimp only [id]
    | split)

theorem keepPayload_keeps (p : Nat) (f : LineFrame) (s : State) : keepsBut [.par] s (keepPayload p f s) := by
  unfold keepPayload
  try dsimp only
  repeat' (first
    | with_reducible exact keepsBut_refl _ _
    | (with_reducible show keepsBut _ _ (mPar _ _); with_reducible refine keepsBut_of ?_ (mPar_keeps _ _) (by decide))
    | with_reducible refine keepsBut_ite ?_ ?_
    | with_reducible refine keepsBut_doIf (fun _ => ?_) ?_
    | with_reducible refine keepsBut_each (fun _ _ => ?_) ?_
    | dsimp only [id]
    | split)

theorem countDrops_keeps {qs : List Part} {add : Nat → State → State} (hq : ∀ p ∈ ([] : List Part), p ∈ qs) (h_add : ∀ a0 u, keepsBut qs u (add a0 u)) (p : Nat) (codes : List Nat) (s : State) : keepsBut qs s (countDrops p codes add s) := by
  unfold countDrops
  try dsimp only
  repeat' (first
    | with_reducible exact keepsBut_refl _ _
    | (with_reducible show keepsBut _ _ (add _ _); with_reducible refine keepsBut_of ?_ (h_add _ _) (fun _ m => m))
    | with_reducible refine keepsBut_ite ?_ ?_
    | with_reducible refine keepsBut_doIf (fun _ => ?_) ?_
    | with_reducible refine keepsBut_each (fun _ _ => ?_) ?_
    | dsimp only [id]
    | split)

theorem overlapLog_keeps (a : List Nat) (s : State) : keepsBut [.err, .tow] s (overlapLog a s) := by
  unfold overlapLog
  try dsimp only
  repeat' (first
    | with_reducible exact keepsBut_refl _ _
    | (with_reducible show keepsBut _ _ (notice _ _ _); with_reducible refine keepsBut_of ?_ (notice_keeps _ _ _) (by decide))
    | (with_reducible show keepsBut _ _ (mLayer _ _ _); with_reducible refine keepsBut_of ?_ (mLayer_keeps _ _ _) (by decide))
    | with_reducible refine keepsBut_ite ?_ ?_
    | with_reducible refine keepsBut_doIf (fun _ => ?_) ?_
    | with_reducible refine keepsBut_each (fun _ _ => ?_) ?_
    | dsimp only [id]
    | split)

theorem frameBuild_keeps (p : Nat) (t : Trig) (s : State) : keepsBut [.err, .tow, .fir, .gul, .mem, .lmp, .par] s (frameBuild p t s) := by
  unfold frameBuild
  try dsimp only
  repeat' (first
    | with_reducible exact keepsBut_refl _ _
    | (with_reducible show keepsBut _ _ (bankAddAt _ _ _ _ _); with_reducible refine keepsBut_of ?_ (bankAddAt_keeps _ _ _ _ _) (by decide))
    | (with_reducible show keepsBut _ _ (mTrig _ _ _ _); with_reducible refine keepsBut_of ?_ (mTrig_keeps _ _ _ _) (by decide))
    | (with_reducible show keepsBut _ _ (takeSsn _ _); with_reducible refine keepsBut_of ?_ (takeSsn_keeps _ _) (by decide))
    | (with_reducible show keepsBut _ _ (dropRing _ _ _ _ _); with_reducible refine keepsBut_of ?_ (dropRing_keeps _ _ _ _ _) (by decide))
    | (with_reducible show keepsBut _ _ (keepPayload _ _ _); with_reducible refine keepsBut_of ?_ (keepPayload_keeps _ _ _) (by decide))
    | (with_reducible show keepsBut _ _ (countDrops _ _ _ _); with_reducible refine keepsBut_of ?_ (countDrops_keeps (qs := [.err, .tow, .fir, .gul, .mem, .lmp, .par]) (by decide) (fun _ _ => ?_) _ _ _) (fun _ m => m))
    | (with_reducible show keepsBut _ _ (overlapLog _ _); with_reducible refine keepsBut_of ?_ (overlapLog_keeps _ _) (by decide))
    | with_reducible refine keepsBut_ite ?_ ?_
    | with_reducible refine keepsBut_doIf (fun _ => ?_) ?_
    | with_reducible refine keepsBut_each (fun _ _ => ?_) ?_
    | dsimp only [id]
    | split)

theorem lineLate_keeps (p layer : Nat) (s : State) : keepsBut [.err, .tow, .fir] s (lineLate p layer s) := by
  unfold lineLate
  try dsimp only
  repeat' (first
    | with_reducible exact keepsBut_refl _ _
    | (with_reducible show keepsBut _ _ (mFir _ _); with_reducible refine keepsBut_of ?_ (mFir_keeps _ _) (by decide))
    | (with_reducible show keepsBut _ _ (faultErr _ _ _); with_reducible refine keepsBut_of ?_ (faultErr_keeps _ _ _) (by decide))
    | (with_reducible show keepsBut _ _ (mLayer _ _ _); with_reducible refine keepsBut_of ?_ (mLayer_keeps _ _ _) (by decide))
    | with_reducible refine keepsBut_ite ?_ ?_
    | with_reducible refine keepsBut_doIf (fun _ => ?_) ?_
    | with_reducible refine keepsBut_each (fun _ _ => ?_) ?_
    | dsimp only [id]
    | split)

theorem gulSend_keeps (p ty : Nat) (body : Bytes) (s : State) : keepsBut [.gul] s (gulSend p ty body s) := by
  unfold gulSend
  try dsimp only
  repeat' (first
    | with_reducible exact keepsBut_refl _ _
    | (with_reducible show keepsBut _ _ (gulOut _ _ _); with_reducible refine keepsBut_of ?_ (gulOut_keeps _ _ _) (by decide))
    | (with_reducible show keepsBut _ _ (mHead _ _ _); with_reducible refine keepsBut_of ?_ (mHead_keeps _ _ _) (by decide))
    | with_reducible refine keepsBut_ite ?_ ?_
    | with_reducible refine keepsBut_doIf (fun _ => ?_) ?_
    | with_reducible refine keepsBut_each (fun _ _ => ?_) ?_
    | dsimp only [id]
    | split)

theorem cfgSend_keeps (p : Nat) (c : CfgReq) (s : State) : keepsBut [.gul] s (cfgSend p c s) := by
  unfold cfgSend
  try dsimp only
  repeat' (first
    | with_reducible exact keepsBut_refl _ _
    | (with_reducible show keepsBut _ _ (mHead _ _ _); with_reducible refine keepsBut_of ?_ (mHead_keeps _ _ _) (by decide))
    | (with_reducible show keepsBut _ _ (gulSend _ _ _ _); with_reducible refine keepsBut_of ?_ (gulSend_keeps _ _ _ _) (by decide))
    | with_reducible refine keepsBut_ite ?_ ?_
    | with_reducible refine keepsBut_doIf (fun _ => ?_) ?_
    | with_reducible refine keepsBut_each (fun _ _ => ?_) ?_
    | dsimp only [id]
    | split)

theorem statusFrame_keeps (p : Nat) (s : State) : keepsBut [.gul] s (statusFrame p s) := by
  unfold statusFrame
  try dsimp only
  repeat' (first
    | with_reducible exact keepsBut_refl _ _
    | (with_reducible show keepsBut _ _ (gulSend _ _ _ _); with_reducible refine keepsBut_of ?_ (gulSend_keeps _ _ _ _) (by decide))
    | (with_reducible show keepsBut _ _ (mHead _ _ _); with_reducible refine keepsBut_of ?_ (mHead_keeps _ _ _) (by decide))
    | with_reducible refine keepsBut_ite ?_ ?_
    | with_reducible refine keepsBut_doIf (fun _ => ?_) ?_
    | with_reducible refine keepsBut_each (fun _ _ => ?_) ?_
    | dsimp only [id]
    | split)

theorem gulDrain_keeps (p : Nat) (s : State) : keepsBut [.gul] s (gulDrain p s) := by
  unfold gulDrain
  try dsimp only
  repeat' (first
    | with_reducible exact keepsBut_refl _ _
    | (with_reducible show keepsBut _ _ (statusFrame _ _); with_reducible refine keepsBut_of ?_ (statusFrame_keeps _ _) (by decide))
    | (with_reducible show keepsBut _ _ (cfgSend _ _ _); with_reducible refine keepsBut_of ?_ (cfgSend_keeps _ _ _) (by decide))
    | with_reducible refine keepsBut_ite ?_ ?_
    | with_reducible refine keepsBut_doIf (fun _ => ?_) ?_
    | with_reducible refine keepsBut_each (fun _ _ => ?_) ?_
    | dsimp only [id]
    | split)

theorem frameSend_keeps (p : Nat) (late : Bool) (t : Trig) (f : LineFrame) (s : State) : keepsBut [.err, .tow, .fir, .gul] s (frameSend p late t f s) := by
  unfold frameSend
  try dsimp only
  repeat' (first
    | with_reducible exact keepsBut_refl _ _
    | (with_reducible show keepsBut _ _ (gulOut _ _ _); with_reducible refine keepsBut_of ?_ (gulOut_keeps _ _ _) (by decide))
    | (with_reducible show keepsBut _ _ (mTrig _ _ _ _); with_reducible refine keepsBut_of ?_ (mTrig_keeps _ _ _ _) (by decide))
    | (with_reducible show keepsBut _ _ (pruneTrigs _ _); with_reducible refine keepsBut_of ?_ (pruneTrigs_keeps _ _) (by decide))
    | (with_reducible show keepsBut _ _ (gulDrain _ _); with_reducible refine keepsBut_of ?_ (gulDrain_keeps _ _) (by decide))
    | (with_reducible show keepsBut _ _ (lineLate _ _ _); with_reducible refine keepsBut_of ?_ (lineLate_keeps _ _ _) (by decide))
    | with_reducible refine keepsBut_ite ?_ ?_
    | with_reducible refine keepsBut_doIf (fun _ => ?_) ?_
    | with_reducible refine keepsBut_each (fun _ _ => ?_) ?_
    | dsimp only [id]
    | split)

theorem opNzlReq_keeps (v : Word) (s : State) : keepsBut [.free, .err, .tow, .fir, .nzl, .gat, .mem, .par] s (opNzlReq v s) := by
  unfold opNzlReq
  try dsimp only
  repeat' (first
    | with_reducible exact keepsBut_refl _ _
    | (with_reducible show keepsBut _ _ (mNzl _ _); with_reducible refine keepsBut_of ?_ (mNzl_keeps _ _) (by decide))
    | (with_reducible show keepsBut _ _ (nzSubmit _ _); with_reducible refine keepsBut_of ?_ (nzSubmit_keeps _ _) (by decide))
    | with_reducible refine keepsBut_ite ?_ ?_
    | with_reducible refine keepsBut_doIf (fun _ => ?_) ?_
    | with_reducible refine keepsBut_each (fun _ _ => ?_) ?_
    | dsimp only [id]
    | split)

/-! Machine/Gates.lean -/

theorem opGateStart_keeps (g : Nat) (s : State) : keepsBut [.err, .gat, .cal] s (opGateStart g s) := by
  unfold opGateStart
  try dsimp only
  repeat' (first
    | with_reducible exact keepsBut_refl _ _
    | (with_reducible show keepsBut _ _ (mGat _ _ _); with_reducible refine keepsBut_of ?_ (mGat_keeps _ _ _) (by decide))
    | (with_reducible show keepsBut _ _ (mCal _ _); with_reducible refine keepsBut_of ?_ (mCal_keeps _ _) (by decide))
    | (with_reducible show keepsBut _ _ (notice _ _ _); with_reducible refine keepsBut_of ?_ (notice_keeps _ _ _) (by decide))
    | with_reducible refine keepsBut_ite ?_ ?_
    | with_reducible refine keepsBut_doIf (fun _ => ?_) ?_
    | with_reducible refine keepsBut_each (fun _ _ => ?_) ?_
    | dsimp only [id]
    | split)

theorem opGateAbort_keeps (g : Nat) (s : State) : keepsBut [.gat] s (opGateAbort g s) := by
  unfold opGateAbort
  try dsimp only
  repeat' (first
    | with_reducible exact keepsBut_refl _ _
    | (with_reducible show keepsBut _ _ (mGat _ _ _); with_reducible refine keepsBut_of ?_ (mGat_keeps _ _ _) (by decide))
    | with_reducible refine keepsBut_ite ?_ ?_
    | with_reducible refine keepsBut_doIf (fun _ => ?_) ?_
    | with_reducible refine keepsBut_each (fun _ _ => ?_) ?_
    | dsimp only [id]
    | split)

theorem opGateCmd_keeps (g : Nat) (v : Word) (s : State) : keepsBut [.err, .gat, .cal] s (opGateCmd g v s) := by
  unfold opGateCmd
  try dsimp only
  repeat' (first
    | with_reducible exact keepsBut_refl _ _
    | (with_reducible show keepsBut _ _ (opGateStart _ _); with_reducible refine keepsBut_of ?_ (opGateStart_keeps _ _) (by decide))
    | (with_reducible show keepsBut _ _ (opGateAbort _ _); with_reducible refine keepsBut_of ?_ (opGateAbort_keeps _ _) (by decide))
    | with_reducible refine keepsBut_ite ?_ ?_
    | with_reducible refine keepsBut_doIf (fun _ => ?_) ?_
    | with_reducible refine keepsBut_each (fun _ _ => ?_) ?_
    | dsimp only [id]
    | split)

theorem gatesMilestone_keeps (i : Nat) (s : State) : keepsBut [.err, .gat, .cal] s (gatesMilestone i s) := by
  unfold gatesMilestone
  try dsimp only
  repeat' (first
    | with_reducible exact keepsBut_refl _ _
    | (with_reducible show keepsBut _ _ (opGateStart _ _); with_reducible refine keepsBut_of ?_ (opGateStart_keeps _ _) (by decide))
    | with_reducible refine keepsBut_ite ?_ ?_
    | with_reducible refine keepsBut_doIf (fun _ => ?_) ?_
    | with_reducible refine keepsBut_each (fun _ _ => ?_) ?_
    | dsimp only [id]
    | split)

theorem gateNextSlot_keeps (g : Nat) (s : State) : keepsBut [.gat] s (gateNextSlot g s) := by
  unfold gateNextSlot
  try dsimp only
  repeat' (first
    | with_reducible exact keepsBut_refl _ _
    | (with_reducible show keepsBut _ _ (mGat _ _ _); with_reducible refine keepsBut_of ?_ (mGat_keeps _ _ _) (by decide))
    | with_reducible refine keepsBut_ite ?_ ?_
    | with_reducible refine keepsBut_doIf (fun _ => ?_) ?_
    | with_reducible refine keepsBut_each (fun _ _ => ?_) ?_
    | dsimp only [id]
    | split)

theorem gateBegin_keeps (g : Nat) (s : State) : keepsBut [.gat] s (gateBegin g s) := by
  unfold gateBegin
  try dsimp only
  repeat' (first
    | with_reducible exact keepsBut_refl _ _
    | (with_reducible show keepsBut _ _ (mGat _ _ _); with_reducible refine keepsBut_of ?_ (mGat_keeps _ _ _) (by decide))
    | (with_reducible show keepsBut _ _ (gateNextSlot _ _); with_reducible refine keepsBut_of ?_ (gateNextSlot_keeps _ _) (by decide))
    | with_reducible refine keepsBut_ite ?_ ?_
    | with_reducible refine keepsBut_doIf (fun _ => ?_) ?_
    | with_reducible refine keepsBut_each (fun _ _ => ?_) ?_
    | dsimp only [id]
    | split)

theorem headStruck_keeps (p n lc : Nat) (s : State) : keepsBut [.gul] s (headStruck p n lc s) := by
  unfold headStruck
  try dsimp only
  repeat' (first
    | with_reducible exact keepsBut_refl _ _
    | (with_reducible show keepsBut _ _ (mHead _ _ _); with_reducible refine keepsBut_of ?_ (mHead_keeps _ _ _) (by decide))
    | with_reducible refine keepsBut_ite ?_ ?_
    | with_reducible refine keepsBut_doIf (fun _ => ?_) ?_
    | with_reducible refine keepsBut_each (fun _ _ => ?_) ?_
    | dsimp only [id]
    | split)

theorem gateStrike_keeps (g : Nat) (s : State) : keepsBut [.gat, .gul] s (gateStrike g s) := by
  unfold gateStrike
  try dsimp only
  repeat' (first
    | with_reducible exact keepsBut_refl _ _
    | (with_reducible show keepsBut _ _ (mGat _ _ _); with_reducible refine keepsBut_of ?_ (mGat_keeps _ _ _) (by decide))
    | (with_reducible show keepsBut _ _ (emit _ _); with_reducible refine keepsBut_of ?_ (emit_keeps _ _) (by decide))
    | (with_reducible show keepsBut _ _ (headStruck _ _ _ _); with_reducible refine keepsBut_of ?_ (headStruck_keeps _ _ _ _) (by decide))
    | (with_reducible show keepsBut _ _ (takeSsn _ _); with_reducible refine keepsBut_of ?_ (takeSsn_keeps _ _) (by decide))
    | (with_reducible show keepsBut _ _ (gulOut _ _ _); with_reducible refine keepsBut_of ?_ (gulOut_keeps _ _ _) (by decide))
    | with_reducible refine keepsBut_ite ?_ ?_
    | with_reducible refine keepsBut_doIf (fun _ => ?_) ?_
    | with_reducible refine keepsBut_each (fun _ _ => ?_) ?_
    | dsimp only [id]
    | split)

theorem gateSeen_keeps (s : State) (g at100 : Nat) : keepsBut [.gat] s (gateSeen s g at100) := by
  unfold gateSeen
  split
  · exact keepsBut_refl _ s
  · exact keepsBut_of (keepsBut_refl _ s) (mGat_keeps _ _ s) (by decide)

theorem gateSlotEnd_keeps (g : Nat) (noise : Bool) (s : State) : keepsBut [.free, .err, .tow, .fir, .nzl, .gat, .mem, .par] s (gateSlotEnd g noise s) := by
  unfold gateSlotEnd
  try dsimp only
  repeat' (first
    | with_reducible exact keepsBut_refl _ _
    | (with_reducible show keepsBut _ _ (mGat _ _ _); with_reducible refine keepsBut_of ?_ (mGat_keeps _ _ _) (by decide))
    | (with_reducible show keepsBut _ _ (journal _ _ _ _ _ _ _); with_reducible refine keepsBut_of ?_ (journal_keeps _ _ _ _ _ _ _) (by decide))
    | (with_reducible show keepsBut _ _ (nzGate _ _ _); with_reducible refine keepsBut_of ?_ (nzGate_keeps _ _ _) (by decide))
    | (with_reducible show keepsBut _ _ (gateNextSlot _ _); with_reducible refine keepsBut_of ?_ (gateNextSlot_keeps _ _) (by decide))
    | with_reducible refine keepsBut_ite ?_ ?_
    | with_reducible refine keepsBut_doIf (fun _ => ?_) ?_
    | with_reducible refine keepsBut_each (fun _ _ => ?_) ?_
    | dsimp only [id]
    | split)

/-! Machine/Gulist.lean -/

theorem hcfgEnd_keeps (result : Nat) (s : State) : keepsBut [.gul] s (hcfgEnd result s) := by
  unfold hcfgEnd
  try dsimp only
  repeat' (first
    | with_reducible exact keepsBut_refl _ _
    | (with_reducible show keepsBut _ _ (mGul _ _); with_reducible refine keepsBut_of ?_ (mGul_keeps _ _) (by decide))
    | with_reducible refine keepsBut_ite ?_ ?_
    | with_reducible refine keepsBut_doIf (fun _ => ?_) ?_
    | with_reducible refine keepsBut_each (fun _ _ => ?_) ?_
    | dsimp only [id]
    | split)

theorem abandonFrames_keeps (p : Nat) (s : State) : keepsBut [.fir, .mem] s (abandonFrames p s) := by
  unfold abandonFrames
  try dsimp only
  repeat' (first
    | with_reducible exact keepsBut_refl _ _
    | (with_reducible show keepsBut _ _ (mPort _ _ _); with_reducible refine keepsBut_of ?_ (mPort_keeps _ _ _) (by decide))
    | (with_reducible show keepsBut _ _ (bankAddAt _ _ _ _ _); with_reducible refine keepsBut_of ?_ (bankAddAt_keeps _ _ _ _ _) (by decide))
    | (with_reducible show keepsBut _ _ (countDrops _ _ _ _); with_reducible refine keepsBut_of ?_ (countDrops_keeps (qs := [.fir, .mem]) (by decide) (fun _ _ => ?_) _ _ _) (fun _ m => m))
    | with_reducible refine keepsBut_ite ?_ ?_
    | with_reducible refine keepsBut_doIf (fun _ => ?_) ?_
    | with_reducible refine keepsBut_each (fun _ _ => ?_) ?_
    | dsimp only [id]
    | split)

theorem portLeaves_keeps (p : Nat) (s : State) : keepsBut [.fir, .gul, .mem] s (portLeaves p s) := by
  unfold portLeaves
  try dsimp only
  repeat' (first
    | with_reducible exact keepsBut_refl _ _
    | (with_reducible show keepsBut _ _ (mGul _ _); with_reducible refine keepsBut_of ?_ (mGul_keeps _ _) (by decide))
    | (with_reducible show keepsBut _ _ (mHead _ _ _); with_reducible refine keepsBut_of ?_ (mHead_keeps _ _ _) (by decide))
    | (with_reducible show keepsBut _ _ (hcfgEnd _ _); with_reducible refine keepsBut_of ?_ (hcfgEnd_keeps _ _) (by decide))
    | (with_reducible show keepsBut _ _ (abandonFrames _ _); with_reducible refine keepsBut_of ?_ (abandonFrames_keeps _ _) (by decide))
    | with_reducible refine keepsBut_ite ?_ ?_
    | with_reducible refine keepsBut_doIf (fun _ => ?_) ?_
    | with_reducible refine keepsBut_each (fun _ _ => ?_) ?_
    | dsimp only [id]
    | split)

theorem portRests_keeps (p : Nat) (s : State) : keepsBut [] s (portRests p s) := by
  unfold portRests
  try dsimp only
  repeat' (first
    | with_reducible exact keepsBut_refl _ _
    | (with_reducible show keepsBut _ _ (laneSend _ _ _); with_reducible refine keepsBut_of ?_ (laneSend_keeps _ _ _) (by decide))
    | (with_reducible show keepsBut _ _ (emit _ _); with_reducible refine keepsBut_of ?_ (emit_keeps _ _) (by decide))
    | with_reducible refine keepsBut_ite ?_ ?_
    | with_reducible refine keepsBut_doIf (fun _ => ?_) ?_
    | with_reducible refine keepsBut_each (fun _ _ => ?_) ?_
    | dsimp only [id]
    | split)

theorem portWakes_keeps (p : Nat) (s : State) : keepsBut [] s (portWakes p s) := by
  unfold portWakes
  try dsimp only
  repeat' (first
    | with_reducible exact keepsBut_refl _ _
    | (with_reducible show keepsBut _ _ (laneSend _ _ _); with_reducible refine keepsBut_of ?_ (laneSend_keeps _ _ _) (by decide))
    | with_reducible refine keepsBut_ite ?_ ?_
    | with_reducible refine keepsBut_doIf (fun _ => ?_) ?_
    | with_reducible refine keepsBut_each (fun _ _ => ?_) ?_
    | dsimp only [id]
    | split)

theorem linkFail_keeps (p reason : Nat) (s : State) : keepsBut [.err, .fir, .gul, .mem] s (linkFail p reason s) := by
  unfold linkFail
  try dsimp only
  repeat' (first
    | with_reducible exact keepsBut_refl _ _
    | (with_reducible show keepsBut _ _ (portLeaves _ _); with_reducible refine keepsBut_of ?_ (portLeaves_keeps _ _) (by decide))
    | (with_reducible show keepsBut _ _ (mHead _ _ _); with_reducible refine keepsBut_of ?_ (mHead_keeps _ _ _) (by decide))
    | (with_reducible show keepsBut _ _ (portRests _ _); with_reducible refine keepsBut_of ?_ (portRests_keeps _ _) (by decide))
    | (with_reducible show keepsBut _ _ (raiseLim _ _ _ _ _ _); with_reducible refine keepsBut_of ?_ (raiseLim_keeps _ _ _ _ _ _) (by decide))
    | with_reducible refine keepsBut_ite ?_ ?_
    | with_reducible refine keepsBut_doIf (fun _ => ?_) ?_
    | with_reducible refine keepsBut_each (fun _ _ => ?_) ?_
    | dsimp only [id]
    | split)

theorem portLoss_keeps (p reason : Nat) (s : State) : keepsBut [.err, .tow, .fir, .nzl, .gul, .mem] s (portLoss p reason s) := by
  unfold portLoss
  try dsimp only
  repeat' (first
    | with_reducible exact keepsBut_refl _ _
    | (with_reducible show keepsBut _ _ (raiseLim _ _ _ _ _ _); with_reducible refine keepsBut_of ?_ (raiseLim_keeps _ _ _ _ _ _) (by decide))
    | (with_reducible show keepsBut _ _ (portLeaves _ _); with_reducible refine keepsBut_of ?_ (portLeaves_keeps _ _) (by decide))
    | (with_reducible show keepsBut _ _ (mHead _ _ _); with_reducible refine keepsBut_of ?_ (mHead_keeps _ _ _) (by decide))
    | (with_reducible show keepsBut _ _ (portRests _ _); with_reducible refine keepsBut_of ?_ (portRests_keeps _ _) (by decide))
    | (with_reducible show keepsBut _ _ (portMask _ _ _); with_reducible refine keepsBut_of ?_ (portMask_keeps _ _ _) (by decide))
    | with_reducible refine keepsBut_ite ?_ ?_
    | with_reducible refine keepsBut_doIf (fun _ => ?_) ?_
    | with_reducible refine keepsBut_each (fun _ _ => ?_) ?_
    | dsimp only [id]
    | split)

theorem portActive_keeps (p : Nat) (s : State) : keepsBut [.err, .tow, .nzl, .gul] s (portActive p s) := by
  unfold portActive
  try dsimp only
  repeat' (first
    | with_reducible exact keepsBut_refl _ _
    | (with_reducible show keepsBut _ _ (mNzl _ _); with_reducible refine keepsBut_of ?_ (mNzl_keeps _ _) (by decide))
    | (with_reducible show keepsBut _ _ (mHead _ _ _); with_reducible refine keepsBut_of ?_ (mHead_keeps _ _ _) (by decide))
    | (with_reducible show keepsBut _ _ (endFault _ _ _); with_reducible refine keepsBut_of ?_ (endFault_keeps _ _ _) (by decide))
    | (with_reducible show keepsBut _ _ (portMask _ _ _); with_reducible refine keepsBut_of ?_ (portMask_keeps _ _ _) (by decide))
    | with_reducible refine keepsBut_ite ?_ ?_
    | with_reducible refine keepsBut_doIf (fun _ => ?_) ?_
    | with_reducible refine keepsBut_each (fun _ _ => ?_) ?_
    | dsimp only [id]
    | split)

theorem linksStart_keeps (s : State) : keepsBut [.gul] s (linksStart s) := by
  unfold linksStart
  try dsimp only
  repeat' (first
    | with_reducible exact keepsBut_refl _ _
    | (with_reducible show keepsBut _ _ (portWakes _ _); with_reducible refine keepsBut_of ?_ (portWakes_keeps _ _) (by decide))
    | (with_reducible show keepsBut _ _ (mHead _ _ _); with_reducible refine keepsBut_of ?_ (mHead_keeps _ _ _) (by decide))
    | with_reducible refine keepsBut_ite ?_ ?_
    | with_reducible refine keepsBut_doIf (fun _ => ?_) ?_
    | with_reducible refine keepsBut_each (fun _ _ => ?_) ?_
    | dsimp only [id]
    | split)

theorem opGulCtl_keeps (p : Nat) (old new : Word) (s : State) : keepsBut [.err, .tow, .fir, .nzl, .gul, .mem] s (opGulCtl p old new s) := by
  unfold opGulCtl
  try dsimp only
  repeat' (first
    | with_reducible exact keepsBut_refl _ _
    | (with_reducible show keepsBut _ _ (portWakes _ _); with_reducible refine keepsBut_of ?_ (portWakes_keeps _ _) (by decide))
    | (with_reducible show keepsBut _ _ (emit _ _); with_reducible refine keepsBut_of ?_ (emit_keeps _ _) (by decide))
    | (with_reducible show keepsBut _ _ (mHead _ _ _); with_reducible refine keepsBut_of ?_ (mHead_keeps _ _ _) (by decide))
    | (with_reducible show keepsBut _ _ (portLeaves _ _); with_reducible refine keepsBut_of ?_ (portLeaves_keeps _ _) (by decide))
    | (with_reducible show keepsBut _ _ (portMask _ _ _); with_reducible refine keepsBut_of ?_ (portMask_keeps _ _ _) (by decide))
    | with_reducible refine keepsBut_ite ?_ ?_
    | with_reducible refine keepsBut_doIf (fun _ => ?_) ?_
    | with_reducible refine keepsBut_each (fun _ _ => ?_) ?_
    | dsimp only [id]
    | split)

theorem capKnot_keeps (s : State) : keepsBut [.err, .tow, .fir, .nzl, .gul, .mem] s (capKnot s) := by
  unfold capKnot
  try dsimp only
  repeat' (first
    | with_reducible exact keepsBut_refl _ _
    | (with_reducible show keepsBut _ _ (mHead _ _ _); with_reducible refine keepsBut_of ?_ (mHead_keeps _ _ _) (by decide))
    | (with_reducible show keepsBut _ _ (raiseLim _ _ _ _ _ _); with_reducible refine keepsBut_of ?_ (raiseLim_keeps _ _ _ _ _ _) (by decide))
    | (with_reducible show keepsBut _ _ (portLoss _ _ _); with_reducible refine keepsBut_of ?_ (portLoss_keeps _ _ _) (by decide))
    | with_reducible refine keepsBut_ite ?_ ?_
    | with_reducible refine keepsBut_doIf (fun _ => ?_) ?_
    | with_reducible refine keepsBut_each (fun _ _ => ?_) ?_
    | dsimp only [id]
    | split)

theorem gulDiscard_keeps (p reason : Nat) (s : State) : keepsBut [.gul] s (gulDiscard p reason s) := by
  unfold gulDiscard
  try dsimp only
  repeat' (first
    | with_reducible exact keepsBut_refl _ _
    | (with_reducible show keepsBut _ _ (mHead _ _ _); with_reducible refine keepsBut_of ?_ (mHead_keeps _ _ _) (by decide))
    | with_reducible refine keepsBut_ite ?_ ?_
    | with_reducible refine keepsBut_doIf (fun _ => ?_) ?_
    | with_reducible refine keepsBut_each (fun _ _ => ?_) ?_
    | dsimp only [id]
    | split)

theorem gulErrs_keeps (p n : Nat) (s : State) : keepsBut [.gul] s (gulErrs p n s) := by
  unfold gulErrs
  try dsimp only
  repeat' (first
    | with_reducible exact keepsBut_refl _ _
    | (with_reducible show keepsBut _ _ (mHead _ _ _); with_reducible refine keepsBut_of ?_ (mHead_keeps _ _ _) (by decide))
    | with_reducible refine keepsBut_ite ?_ ?_
    | with_reducible refine keepsBut_doIf (fun _ => ?_) ?_
    | with_reducible refine keepsBut_each (fun _ _ => ?_) ?_
    | dsimp only [id]
    | split)

theorem gulSeq_keeps (p : Nat) (f : Bytes) (s : State) : keepsBut [.gul] s (gulSeq p f s) := by
  unfold gulSeq
  try dsimp only
  repeat' (first
    | with_reducible exact keepsBut_refl _ _
    | (with_reducible show keepsBut _ _ (mHead _ _ _); with_reducible refine keepsBut_of ?_ (mHead_keeps _ _ _) (by decide))
    | with_reducible refine keepsBut_ite ?_ ?_
    | with_reducible refine keepsBut_doIf (fun _ => ?_) ?_
    | with_reducible refine keepsBut_each (fun _ _ => ?_) ?_
    | dsimp only [id]
    | split)

theorem exchangeAck_keeps (p : Nat) (f : Bytes) (s : State) : keepsBut [.err, .fir, .gul, .mem] s (exchangeAck p f s) := by
  unfold exchangeAck
  try dsimp only
  repeat' (first
    | with_reducible exact keepsBut_refl _ _
    | (with_reducible show keepsBut _ _ (mHead _ _ _); with_reducible refine keepsBut_of ?_ (mHead_keeps _ _ _) (by decide))
    | (with_reducible show keepsBut _ _ (cfgSend _ _ _); with_reducible refine keepsBut_of ?_ (cfgSend_keeps _ _ _) (by decide))
    | (with_reducible show keepsBut _ _ (linkFail _ _ _); with_reducible refine keepsBut_of ?_ (linkFail_keeps _ _ _) (by decide))
    | with_reducible refine keepsBut_ite ?_ ?_
    | with_reducible refine keepsBut_doIf (fun _ => ?_) ?_
    | with_reducible refine keepsBut_each (fun _ _ => ?_) ?_
    | dsimp only [id]
    | split)

theorem hostAck_keeps (p : Nat) (f : Bytes) (c : CfgReq) (s : State) : keepsBut [.regs, .gul] s (hostAck p f c s) := by
  unfold hostAck
  try dsimp only
  repeat' (first
    | with_reducible exact keepsBut_refl _ _
    | (with_reducible show keepsBut _ _ (mGul _ _); with_reducible refine keepsBut_of ?_ (mGul_keeps _ _) (by decide))
    | (with_reducible show keepsBut _ _ (mHead _ _ _); with_reducible refine keepsBut_of ?_ (mHead_keeps _ _ _) (by decide))
    | (with_reducible show keepsBut _ _ (setReg _ _ _); with_reducible refine keepsBut_of ?_ (setReg_keeps _ _ _) (by decide))
    | (with_reducible show keepsBut _ _ (hcfgEnd _ _); with_reducible refine keepsBut_of ?_ (hcfgEnd_keeps _ _) (by decide))
    | with_reducible refine keepsBut_ite ?_ ?_
    | with_reducible refine keepsBut_doIf (fun _ => ?_) ?_
    | with_reducible refine keepsBut_each (fun _ _ => ?_) ?_
    | dsimp only [id]
    | split)

theorem gulAck_keeps (p : Nat) (f : Bytes) (s : State) : keepsBut [.regs, .err, .fir, .gul, .mem] s (gulAck p f s) := by
  unfold gulAck
  try dsimp only
  repeat' (first
    | with_reducible exact keepsBut_refl _ _
    | (with_reducible show keepsBut _ _ (gulDiscard _ _ _); with_reducible refine keepsBut_of ?_ (gulDiscard_keeps _ _ _) (by decide))
    | (with_reducible show keepsBut _ _ (gulSeq _ _ _); with_reducible refine keepsBut_of ?_ (gulSeq_keeps _ _ _) (by decide))
    | (with_reducible show keepsBut _ _ (exchangeAck _ _ _); with_reducible refine keepsBut_of ?_ (exchangeAck_keeps _ _ _) (by decide))
    | (with_reducible show keepsBut _ _ (hostAck _ _ _ _); with_reducible refine keepsBut_of ?_ (hostAck_keeps _ _ _ _) (by decide))
    | with_reducible refine keepsBut_ite ?_ ?_
    | with_reducible refine keepsBut_doIf (fun _ => ?_) ?_
    | with_reducible refine keepsBut_each (fun _ _ => ?_) ?_
    | dsimp only [id]
    | split)

theorem missLog_keeps (p : Nat) (s : State) : keepsBut [.err, .tow] s (missLog p s) := by
  unfold missLog
  try dsimp only
  repeat' (first
    | with_reducible exact keepsBut_refl _ _
    | (with_reducible show keepsBut _ _ (raiseLim _ _ _ _ _ _); with_reducible refine keepsBut_of ?_ (raiseLim_keeps _ _ _ _ _ _) (by decide))
    | (with_reducible show keepsBut _ _ (mLayer _ _ _); with_reducible refine keepsBut_of ?_ (mLayer_keeps _ _ _) (by decide))
    | with_reducible refine keepsBut_ite ?_ ?_
    | with_reducible refine keepsBut_doIf (fun _ => ?_) ?_
    | with_reducible refine keepsBut_each (fun _ _ => ?_) ?_
    | dsimp only [id]
    | split)

theorem activeStatus_keeps (p : Nat) (f : Bytes) (s : State) : keepsBut [.err, .tow, .fir, .nzl, .gul, .mem] s (activeStatus p f s) := by
  unfold activeStatus
  try dsimp only
  repeat' (first
    | with_reducible exact keepsBut_refl _ _
    | (with_reducible show keepsBut _ _ (mHead _ _ _); with_reducible refine keepsBut_of ?_ (mHead_keeps _ _ _) (by decide))
    | (with_reducible show keepsBut _ _ (raiseLim _ _ _ _ _ _); with_reducible refine keepsBut_of ?_ (raiseLim_keeps _ _ _ _ _ _) (by decide))
    | (with_reducible show keepsBut _ _ (portLoss _ _ _); with_reducible refine keepsBut_of ?_ (portLoss_keeps _ _ _) (by decide))
    | (with_reducible show keepsBut _ _ (missLog _ _); with_reducible refine keepsBut_of ?_ (missLog_keeps _ _) (by decide))
    | with_reducible refine keepsBut_ite ?_ ?_
    | with_reducible refine keepsBut_doIf (fun _ => ?_) ?_
    | with_reducible refine keepsBut_each (fun _ _ => ?_) ?_
    | dsimp only [id]
    | split)

theorem gulStatus_keeps (p : Nat) (f : Bytes) (s : State) : keepsBut [.err, .tow, .fir, .nzl, .gul, .mem] s (gulStatus p f s) := by
  unfold gulStatus
  try dsimp only
  repeat' (first
    | with_reducible exact keepsBut_refl _ _
    | (with_reducible show keepsBut _ _ (mHead _ _ _); with_reducible refine keepsBut_of ?_ (mHead_keeps _ _ _) (by decide))
    | (with_reducible show keepsBut _ _ (linkFail _ _ _); with_reducible refine keepsBut_of ?_ (linkFail_keeps _ _ _) (by decide))
    | (with_reducible show keepsBut _ _ (portActive _ _); with_reducible refine keepsBut_of ?_ (portActive_keeps _ _) (by decide))
    | (with_reducible show keepsBut _ _ (gulSeq _ _ _); with_reducible refine keepsBut_of ?_ (gulSeq_keeps _ _ _) (by decide))
    | (with_reducible show keepsBut _ _ (activeStatus _ _ _); with_reducible refine keepsBut_of ?_ (activeStatus_keeps _ _ _) (by decide))
    | with_reducible refine keepsBut_ite ?_ ?_
    | with_reducible refine keepsBut_doIf (fun _ => ?_) ?_
    | with_reducible refine keepsBut_each (fun _ _ => ?_) ?_
    | dsimp only [id]
    | split)

theorem gulSense_keeps (p : Nat) (f : Bytes) (s : State) : keepsBut [.err, .gul] s (gulSense p f s) := by
  unfold gulSense
  try dsimp only
  repeat' (first
    | with_reducible exact keepsBut_refl _ _
    | (with_reducible show keepsBut _ _ (mHead _ _ _); with_reducible refine keepsBut_of ?_ (mHead_keeps _ _ _) (by decide))
    | (with_reducible show keepsBut _ _ (raiseLim _ _ _ _ _ _); with_reducible refine keepsBut_of ?_ (raiseLim_keeps _ _ _ _ _ _) (by decide))
    | (with_reducible show keepsBut _ _ (gulSeq _ _ _); with_reducible refine keepsBut_of ?_ (gulSeq_keeps _ _ _) (by decide))
    | with_reducible refine keepsBut_ite ?_ ?_
    | with_reducible refine keepsBut_doIf (fun _ => ?_) ?_
    | with_reducible refine keepsBut_each (fun _ _ => ?_) ?_
    | dsimp only [id]
    | split)

theorem cfgQueue_keeps (p : Nat) (c : CfgReq) (s : State) : keepsBut [.gul] s (cfgQueue p c s) := by
  unfold cfgQueue
  try dsimp only
  repeat' (first
    | with_reducible exact keepsBut_refl _ _
    | (with_reducible show keepsBut _ _ (gulDrain _ _); with_reducible refine keepsBut_of ?_ (gulDrain_keeps _ _) (by decide))
    | (with_reducible show keepsBut _ _ (mHead _ _ _); with_reducible refine keepsBut_of ?_ (mHead_keeps _ _ _) (by decide))
    | with_reducible refine keepsBut_ite ?_ ?_
    | with_reducible refine keepsBut_doIf (fun _ => ?_) ?_
    | with_reducible refine keepsBut_each (fun _ _ => ?_) ?_
    | dsimp only [id]
    | split)

theorem cfgExpire_keeps (p : Nat) (s : State) : keepsBut [.gul] s (cfgExpire p s) := by
  unfold cfgExpire
  try dsimp only
  repeat' (first
    | with_reducible exact keepsBut_refl _ _
    | (with_reducible show keepsBut _ _ (cfgQueue _ _ _); with_reducible refine keepsBut_of ?_ (cfgQueue_keeps _ _ _) (by decide))
    | (with_reducible show keepsBut _ _ (mHead _ _ _); with_reducible refine keepsBut_of ?_ (mHead_keeps _ _ _) (by decide))
    | (with_reducible show keepsBut _ _ (hcfgEnd _ _); with_reducible refine keepsBut_of ?_ (hcfgEnd_keeps _ _) (by decide))
    | with_reducible refine keepsBut_ite ?_ ?_
    | with_reducible refine keepsBut_doIf (fun _ => ?_) ?_
    | with_reducible refine keepsBut_each (fun _ _ => ?_) ?_
    | dsimp only [id]
    | split)

theorem hcfgRefuse_keeps (s : State) : keepsBut [.err, .gul] s (hcfgRefuse s) := by
  unfold hcfgRefuse
  try dsimp only
  repeat' (first
    | with_reducible exact keepsBut_refl _ _
    | (with_reducible show keepsBut _ _ (raiseLim _ _ _ _ _ _); with_reducible refine keepsBut_of ?_ (raiseLim_keeps _ _ _ _ _ _) (by decide))
    | (with_reducible show keepsBut _ _ (mGul _ _); with_reducible refine keepsBut_of ?_ (mGul_keeps _ _) (by decide))
    | with_reducible refine keepsBut_ite ?_ ?_
    | with_reducible refine keepsBut_doIf (fun _ => ?_) ?_
    | with_reducible refine keepsBut_each (fun _ _ => ?_) ?_
    | dsimp only [id]
    | split)

theorem opHcfgGo_keeps (v : Word) (s : State) : keepsBut [.gul] s (opHcfgGo v s) := by
  unfold opHcfgGo
  try dsimp only
  repeat' (first
    | with_reducible exact keepsBut_refl _ _
    | (with_reducible show keepsBut _ _ (mGul _ _); with_reducible refine keepsBut_of ?_ (mGul_keeps _ _) (by decide))
    | (with_reducible show keepsBut _ _ (hcfgEnd _ _); with_reducible refine keepsBut_of ?_ (hcfgEnd_keeps _ _) (by decide))
    | (with_reducible show keepsBut _ _ (cfgQueue _ _ _); with_reducible refine keepsBut_of ?_ (cfgQueue_keeps _ _ _) (by decide))
    | with_reducible refine keepsBut_ite ?_ ?_
    | with_reducible refine keepsBut_doIf (fun _ => ?_) ?_
    | with_reducible refine keepsBut_each (fun _ _ => ?_) ?_
    | dsimp only [id]
    | split)

theorem eyeRefuse_keeps (s : State) : keepsBut [.err] s (eyeRefuse s) := by
  unfold eyeRefuse
  try dsimp only
  repeat' (first
    | with_reducible exact keepsBut_refl _ _
    | (with_reducible show keepsBut _ _ (raiseLim _ _ _ _ _ _); with_reducible refine keepsBut_of ?_ (raiseLim_keeps _ _ _ _ _ _) (by decide))
    | with_reducible refine keepsBut_ite ?_ ?_
    | with_reducible refine keepsBut_doIf (fun _ => ?_) ?_
    | with_reducible refine keepsBut_each (fun _ _ => ?_) ?_
    | dsimp only [id]
    | split)

theorem opEyeGo_keeps (v : Word) (s : State) : keepsBut [.gul] s (opEyeGo v s) := by
  unfold opEyeGo
  try dsimp only
  repeat' (first
    | with_reducible exact keepsBut_refl _ _
    | (with_reducible show keepsBut _ _ (mGul _ _); with_reducible refine keepsBut_of ?_ (mGul_keeps _ _) (by decide))
    | with_reducible refine keepsBut_ite ?_ ?_
    | with_reducible refine keepsBut_doIf (fun _ => ?_) ?_
    | with_reducible refine keepsBut_each (fun _ _ => ?_) ?_
    | dsimp only [id]
    | split)

theorem opGulClr_keeps (p : Nat) (v : Word) (s : State) : keepsBut [.err, .tow, .fir, .nzl, .gul, .mem] s (opGulClr p v s) := by
  unfold opGulClr
  try dsimp only
  repeat' (first
    | with_reducible exact keepsBut_refl _ _
    | (with_reducible show keepsBut _ _ (mHead _ _ _); with_reducible refine keepsBut_of ?_ (mHead_keeps _ _ _) (by decide))
    | (with_reducible show keepsBut _ _ (portLoss _ _ _); with_reducible refine keepsBut_of ?_ (portLoss_keeps _ _ _) (by decide))
    | with_reducible refine keepsBut_ite ?_ ?_
    | with_reducible refine keepsBut_doIf (fun _ => ?_) ?_
    | with_reducible refine keepsBut_each (fun _ _ => ?_) ?_
    | dsimp only [id]
    | split)

theorem mTeth_keeps (l : Nat) (f : TethLane → TethLane) (s : State) : keepsBut [.par] s (mTeth l f s) := by
  unfold mTeth
  try dsimp only
  repeat' (first
    | with_reducible exact keepsBut_refl _ _
    | (with_reducible show keepsBut _ _ (mPar _ _); with_reducible refine keepsBut_of ?_ (mPar_keeps _ _) (by decide))
    | with_reducible refine keepsBut_ite ?_ ?_
    | with_reducible refine keepsBut_doIf (fun _ => ?_) ?_
    | with_reducible refine keepsBut_each (fun _ _ => ?_) ?_
    | dsimp only [id]
    | split)

theorem tethDrop_keeps (s : State) : keepsBut [.par] s (tethDrop s) := by
  unfold tethDrop
  try dsimp only
  repeat' (first
    | with_reducible exact keepsBut_refl _ _
    | (with_reducible show keepsBut _ _ (mPar _ _); with_reducible refine keepsBut_of ?_ (mPar_keeps _ _) (by decide))
    | with_reducible refine keepsBut_ite ?_ ?_
    | with_reducible refine keepsBut_doIf (fun _ => ?_) ?_
    | with_reducible refine keepsBut_each (fun _ _ => ?_) ?_
    | dsimp only [id]
    | split)

theorem tethTrain_keeps (l : Nat) (two : Bool) (s : State) : keepsBut [] s (tethTrain l two s) := by
  unfold tethTrain
  try dsimp only
  repeat' (first
    | with_reducible exact keepsBut_refl _ _
    | (with_reducible show keepsBut _ _ (laneSend _ _ _); with_reducible refine keepsBut_of ?_ (laneSend_keeps _ _ _) (by decide))
    | with_reducible refine keepsBut_ite ?_ ?_
    | with_reducible refine keepsBut_doIf (fun _ => ?_) ?_
    | with_reducible refine keepsBut_each (fun _ _ => ?_) ?_
    | dsimp only [id]
    | split)

theorem tethStart_keeps (s : State) : keepsBut [.par] s (tethStart s) := by
  unfold tethStart
  try dsimp only
  repeat' (first
    | with_reducible exact keepsBut_refl _ _
    | (with_reducible show keepsBut _ _ (mTeth _ _ _); with_reducible refine keepsBut_of ?_ (mTeth_keeps _ _ _) (by decide))
    | with_reducible refine keepsBut_ite ?_ ?_
    | with_reducible refine keepsBut_doIf (fun _ => ?_) ?_
    | with_reducible refine keepsBut_each (fun _ _ => ?_) ?_
    | dsimp only [id]
    | split)

theorem tethFail_keeps (l : Nat) (s : State) : keepsBut [.par] s (tethFail l s) := by
  unfold tethFail
  try dsimp only
  repeat' (first
    | with_reducible exact keepsBut_refl _ _
    | (with_reducible show keepsBut _ _ (emit _ _); with_reducible refine keepsBut_of ?_ (emit_keeps _ _) (by decide))
    | (with_reducible show keepsBut _ _ (mTeth _ _ _); with_reducible refine keepsBut_of ?_ (mTeth_keeps _ _ _) (by decide))
    | with_reducible refine keepsBut_ite ?_ ?_
    | with_reducible refine keepsBut_doIf (fun _ => ?_) ?_
    | with_reducible refine keepsBut_each (fun _ _ => ?_) ?_
    | dsimp only [id]
    | split)

theorem tethTrained_keeps (l : Nat) (skew : Int) (s : State) : keepsBut [.par] s (tethTrained l skew s) := by
  unfold tethTrained
  try dsimp only
  repeat' (first
    | with_reducible exact keepsBut_refl _ _
    | (with_reducible show keepsBut _ _ (mPar _ _); with_reducible refine keepsBut_of ?_ (mPar_keeps _ _) (by decide))
    | (with_reducible show keepsBut _ _ (emit _ _); with_reducible refine keepsBut_of ?_ (emit_keeps _ _) (by decide))
    | (with_reducible show keepsBut _ _ (mTeth _ _ _); with_reducible refine keepsBut_of ?_ (mTeth_keeps _ _ _) (by decide))
    | with_reducible refine keepsBut_ite ?_ ?_
    | with_reducible refine keepsBut_doIf (fun _ => ?_) ?_
    | with_reducible refine keepsBut_each (fun _ _ => ?_) ?_
    | dsimp only [id]
    | split)

/-! Machine/Calibration.lean -/

theorem mFeg_keeps (g : Nat) (f : Feg → Feg) (s : State) : keepsBut [.cal] s (mFeg g f s) := by
  unfold mFeg
  try dsimp only
  repeat' (first
    | with_reducible exact keepsBut_refl _ _
    | (with_reducible show keepsBut _ _ (mCal _ _); with_reducible refine keepsBut_of ?_ (mCal_keeps _ _) (by decide))
    | with_reducible refine keepsBut_ite ?_ ?_
    | with_reducible refine keepsBut_doIf (fun _ => ?_) ?_
    | with_reducible refine keepsBut_each (fun _ _ => ?_) ?_
    | dsimp only [id]
    | split)

theorem mGroup_keeps (g : Nat) (f : FegGroup → FegGroup) (s : State) : keepsBut [.cal] s (mGroup g f s) := by
  unfold mGroup
  try dsimp only
  repeat' (first
    | with_reducible exact keepsBut_refl _ _
    | (with_reducible show keepsBut _ _ (mCal _ _); with_reducible refine keepsBut_of ?_ (mCal_keeps _ _) (by decide))
    | with_reducible refine keepsBut_ite ?_ ?_
    | with_reducible refine keepsBut_doIf (fun _ => ?_) ?_
    | with_reducible refine keepsBut_each (fun _ _ => ?_) ?_
    | dsimp only [id]
    | split)

theorem mCmpCal_keeps (c : Nat) (f : CmpCal → CmpCal) (s : State) : keepsBut [.cal] s (mCmpCal c f s) := by
  unfold mCmpCal
  try dsimp only
  repeat' (first
    | with_reducible exact keepsBut_refl _ _
    | (with_reducible show keepsBut _ _ (mCal _ _); with_reducible refine keepsBut_of ?_ (mCal_keeps _ _) (by decide))
    | with_reducible refine keepsBut_ite ?_ ?_
    | with_reducible refine keepsBut_doIf (fun _ => ?_) ?_
    | with_reducible refine keepsBut_each (fun _ _ => ?_) ?_
    | dsimp only [id]
    | split)

theorem calLimitLog_keeps (was now_ : Bool) (s : State) : keepsBut [.err] s (calLimitLog was now_ s) := by
  unfold calLimitLog
  try dsimp only
  repeat' (first
    | with_reducible exact keepsBut_refl _ _
    | (with_reducible show keepsBut _ _ (notice _ _ _); with_reducible refine keepsBut_of ?_ (notice_keeps _ _ _) (by decide))
    | with_reducible refine keepsBut_ite ?_ ?_
    | with_reducible refine keepsBut_doIf (fun _ => ?_) ?_
    | with_reducible refine keepsBut_each (fun _ _ => ?_) ?_
    | dsimp only [id]
    | split)

theorem mLane_keeps (l : Nat) (f : LaneCal → LaneCal) (s : State) : keepsBut [.cal] s (mLane l f s) := by
  unfold mLane
  try dsimp only
  repeat' (first
    | with_reducible exact keepsBut_refl _ _
    | (with_reducible show keepsBut _ _ (mCal _ _); with_reducible refine keepsBut_of ?_ (mCal_keeps _ _) (by decide))
    | with_reducible refine keepsBut_ite ?_ ?_
    | with_reducible refine keepsBut_doIf (fun _ => ?_) ?_
    | with_reducible refine keepsBut_each (fun _ _ => ?_) ?_
    | dsimp only [id]
    | split)

theorem calEntry_keeps (e : CalSet) (s : State) : keepsBut [.err, .cal] s (calEntry e s) := by
  unfold calEntry
  try dsimp only
  repeat' (first
    | with_reducible exact keepsBut_refl _ _
    | (with_reducible show keepsBut _ _ (mFeg _ _ _); with_reducible refine keepsBut_of ?_ (mFeg_keeps _ _ _) (by decide))
    | (with_reducible show keepsBut _ _ (mCmpCal _ _ _); with_reducible refine keepsBut_of ?_ (mCmpCal_keeps _ _ _) (by decide))
    | (with_reducible show keepsBut _ _ (calLimitLog _ _ _); with_reducible refine keepsBut_of ?_ (calLimitLog_keeps _ _ _) (by decide))
    | (with_reducible show keepsBut _ _ (mLane _ _ _); with_reducible refine keepsBut_of ?_ (mLane_keeps _ _ _) (by decide))
    | with_reducible refine keepsBut_ite ?_ ?_
    | with_reducible refine keepsBut_doIf (fun _ => ?_) ?_
    | with_reducible refine keepsBut_each (fun _ _ => ?_) ?_
    | dsimp only [id]
    | split)

theorem sensorTick_keeps (temps : List Int) (s : State) : keepsBut [.err, .cal] s (sensorTick temps s) := by
  unfold sensorTick
  try dsimp only
  repeat' (first
    | with_reducible exact keepsBut_refl _ _
    | (with_reducible show keepsBut _ _ (mCal _ _); with_reducible refine keepsBut_of ?_ (mCal_keeps _ _) (by decide))
    | (with_reducible show keepsBut _ _ (raiseLim _ _ _ _ _ _); with_reducible refine keepsBut_of ?_ (raiseLim_keeps _ _ _ _ _ _) (by decide))
    | (with_reducible show keepsBut _ _ (endFault _ _ _); with_reducible refine keepsBut_of ?_ (endFault_keeps _ _ _) (by decide))
    | with_reducible refine keepsBut_ite ?_ ?_
    | with_reducible refine keepsBut_doIf (fun _ => ?_) ?_
    | with_reducible refine keepsBut_each (fun _ _ => ?_) ?_
    | dsimp only [id]
    | split)

theorem calTick_keeps (s : State) : keepsBut [.err, .cal] s (calTick s) := by
  unfold calTick
  try dsimp only
  repeat' (first
    | with_reducible exact keepsBut_refl _ _
    | (with_reducible show keepsBut _ _ (calEntry _ _); with_reducible refine keepsBut_of ?_ (calEntry_keeps _ _) (by decide))
    | with_reducible refine keepsBut_ite ?_ ?_
    | with_reducible refine keepsBut_doIf (fun _ => ?_) ?_
    | with_reducible refine keepsBut_each (fun _ _ => ?_) ?_
    | dsimp only [id]
    | split)

theorem fegFailed_keeps (g : Nat) (s : State) : keepsBut [.err, .cal] s (fegFailed g s) := by
  unfold fegFailed
  try dsimp only
  repeat' (first
    | with_reducible exact keepsBut_refl _ _
    | (with_reducible show keepsBut _ _ (mCal _ _); with_reducible refine keepsBut_of ?_ (mCal_keeps _ _) (by decide))
    | (with_reducible show keepsBut _ _ (raise _ _ _ _); with_reducible refine keepsBut_of ?_ (raise_keeps _ _ _ _) (by decide))
    | (with_reducible show keepsBut _ _ (faultErr _ _ _); with_reducible refine keepsBut_of ?_ (faultErr_keeps _ _ _) (by decide))
    | (with_reducible show keepsBut _ _ (mFeg _ _ _); with_reducible refine keepsBut_of ?_ (mFeg_keeps _ _ _) (by decide))
    | (with_reducible show keepsBut _ _ (mGroup _ _ _); with_reducible refine keepsBut_of ?_ (mGroup_keeps _ _ _) (by decide))
    | with_reducible refine keepsBut_ite ?_ ?_
    | with_reducible refine keepsBut_doIf (fun _ => ?_) ?_
    | with_reducible refine keepsBut_each (fun _ _ => ?_) ?_
    | dsimp only [id]
    | split)

theorem fegGood_keeps (g : Nat) (r : FegResult) (s : State) : keepsBut [.cal] s (fegGood g r s) := by
  unfold fegGood
  try dsimp only
  repeat' (first
    | with_reducible exact keepsBut_refl _ _
    | (with_reducible show keepsBut _ _ (mFeg _ _ _); with_reducible refine keepsBut_of ?_ (mFeg_keeps _ _ _) (by decide))
    | (with_reducible show keepsBut _ _ (mGroup _ _ _); with_reducible refine keepsBut_of ?_ (mGroup_keeps _ _ _) (by decide))
    | with_reducible refine keepsBut_ite ?_ ?_
    | with_reducible refine keepsBut_doIf (fun _ => ?_) ?_
    | with_reducible refine keepsBut_each (fun _ _ => ?_) ?_
    | dsimp only [id]
    | split)

theorem fegRotate_keeps (g : Nat) (s : State) : keepsBut [.cal] s (fegRotate g s) := by
  unfold fegRotate
  try dsimp only
  repeat' (first
    | with_reducible exact keepsBut_refl _ _
    | (with_reducible show keepsBut _ _ (mFeg _ _ _); with_reducible refine keepsBut_of ?_ (mFeg_keeps _ _ _) (by decide))
    | (with_reducible show keepsBut _ _ (mGroup _ _ _); with_reducible refine keepsBut_of ?_ (mGroup_keeps _ _ _) (by decide))
    | with_reducible refine keepsBut_ite ?_ ?_
    | with_reducible refine keepsBut_doIf (fun _ => ?_) ?_
    | with_reducible refine keepsBut_each (fun _ _ => ?_) ?_
    | dsimp only [id]
    | split)

theorem fegWalk_keeps (sp : Nat) (d : Int) (s : State) : keepsBut [.cal] s (fegWalk sp d s) := by
  unfold fegWalk
  try dsimp only
  repeat' (first
    | with_reducible exact keepsBut_refl _ _
    | (with_reducible show keepsBut _ _ (mFeg _ _ _); with_reducible refine keepsBut_of ?_ (mFeg_keeps _ _ _) (by decide))
    | with_reducible refine keepsBut_ite ?_ ?_
    | with_reducible refine keepsBut_doIf (fun _ => ?_) ?_
    | with_reducible refine keepsBut_each (fun _ _ => ?_) ?_
    | dsimp only [id]
    | split)

theorem fegCompare_keeps (g : Nat) (d : Int) (s : State) : keepsBut [.cal] s (fegCompare g d s) := by
  unfold fegCompare
  try dsimp only
  repeat' (first
    | with_reducible exact keepsBut_refl _ _
    | (with_reducible show keepsBut _ _ (mCal _ _); with_reducible refine keepsBut_of ?_ (mCal_keeps _ _) (by decide))
    | (with_reducible show keepsBut _ _ (mFeg _ _ _); with_reducible refine keepsBut_of ?_ (mFeg_keeps _ _ _) (by decide))
    | (with_reducible show keepsBut _ _ (mGroup _ _ _); with_reducible refine keepsBut_of ?_ (mGroup_keeps _ _ _) (by decide))
    | (with_reducible show keepsBut _ _ (fegWalk _ _ _); with_reducible refine keepsBut_of ?_ (fegWalk_keeps _ _ _) (by decide))
    | with_reducible refine keepsBut_ite ?_ ?_
    | with_reducible refine keepsBut_doIf (fun _ => ?_) ?_
    | with_reducible refine keepsBut_each (fun _ _ => ?_) ?_
    | dsimp only [id]
    | split)

theorem fegStrike_keeps (p : Nat) (d : Int) (s : State) : keepsBut [.cal] s (fegStrike p d s) := by
  unfold fegStrike
  try dsimp only
  repeat' (first
    | with_reducible exact keepsBut_refl _ _
    | (with_reducible show keepsBut _ _ (mFeg _ _ _); with_reducible refine keepsBut_of ?_ (mFeg_keeps _ _ _) (by decide))
    | (with_reducible show keepsBut _ _ (fegCompare _ _ _); with_reducible refine keepsBut_of ?_ (fegCompare_keeps _ _ _) (by decide))
    | with_reducible refine keepsBut_ite ?_ ?_
    | with_reducible refine keepsBut_doIf (fun _ => ?_) ?_
    | with_reducible refine keepsBut_each (fun _ _ => ?_) ?_
    | dsimp only [id]
    | split)

theorem opCalForce_keeps (v : Word) (s : State) : keepsBut [.cal] s (opCalForce v s) := by
  unfold opCalForce
  try dsimp only
  repeat' (first
    | with_reducible exact keepsBut_refl _ _
    | (with_reducible show keepsBut _ _ (mGroup _ _ _); with_reducible refine keepsBut_of ?_ (mGroup_keeps _ _ _) (by decide))
    | with_reducible refine keepsBut_ite ?_ ?_
    | with_reducible refine keepsBut_doIf (fun _ => ?_) ?_
    | with_reducible refine keepsBut_each (fun _ _ => ?_) ?_
    | dsimp only [id]
    | split)

theorem cmpAbandon_keeps (c : Nat) (s : State) : keepsBut [.cal] s (cmpAbandon c s) := by
  unfold cmpAbandon
  try dsimp only
  repeat' (first
    | with_reducible exact keepsBut_refl _ _
    | (with_reducible show keepsBut _ _ (mCmpCal _ _ _); with_reducible refine keepsBut_of ?_ (mCmpCal_keeps _ _ _) (by decide))
    | with_reducible refine keepsBut_ite ?_ ?_
    | with_reducible refine keepsBut_doIf (fun _ => ?_) ?_
    | with_reducible refine keepsBut_each (fun _ _ => ?_) ?_
    | dsimp only [id]
    | split)

theorem cmpAim_keeps (c stage : Nat) (v : Int) (s : State) : keepsBut [.cal] s (cmpAim c stage v s) := by
  unfold cmpAim
  try dsimp only
  repeat' (first
    | with_reducible exact keepsBut_refl _ _
    | (with_reducible show keepsBut _ _ (mCmpCal _ _ _); with_reducible refine keepsBut_of ?_ (mCmpCal_keeps _ _ _) (by decide))
    | with_reducible refine keepsBut_ite ?_ ?_
    | with_reducible refine keepsBut_doIf (fun _ => ?_) ?_
    | with_reducible refine keepsBut_each (fun _ _ => ?_) ?_
    | dsimp only [id]
    | split)

theorem cmpDone_keeps (c : Nat) (offs : List Int) (s : State) : keepsBut [.err, .cal] s (cmpDone c offs s) := by
  unfold cmpDone
  try dsimp only
  repeat' (first
    | with_reducible exact keepsBut_refl _ _
    | (with_reducible show keepsBut _ _ (cmpAim _ _ _ _); with_reducible refine keepsBut_of ?_ (cmpAim_keeps _ _ _ _) (by decide))
    | (with_reducible show keepsBut _ _ (faultErr _ _ _); with_reducible refine keepsBut_of ?_ (faultErr_keeps _ _ _) (by decide))
    | (with_reducible show keepsBut _ _ (mCmpCal _ _ _); with_reducible refine keepsBut_of ?_ (mCmpCal_keeps _ _ _) (by decide))
    | with_reducible refine keepsBut_ite ?_ ?_
    | with_reducible refine keepsBut_doIf (fun _ => ?_) ?_
    | with_reducible refine keepsBut_each (fun _ _ => ?_) ?_
    | dsimp only [id]
    | split)

theorem slewStep_keeps (t : CalTarget) (s : State) : keepsBut [.mem, .cal] s (slewStep t s) := by
  unfold slewStep
  try dsimp only
  repeat' (first
    | with_reducible exact keepsBut_refl _ _
    | (with_reducible show keepsBut _ _ (mFeg _ _ _); with_reducible refine keepsBut_of ?_ (mFeg_keeps _ _ _) (by decide))
    | (with_reducible show keepsBut _ _ (mLane _ _ _); with_reducible refine keepsBut_of ?_ (mLane_keeps _ _ _) (by decide))
    | (with_reducible show keepsBut _ _ (mCmpCal _ _ _); with_reducible refine keepsBut_of ?_ (mCmpCal_keeps _ _ _) (by decide))
    | (with_reducible show keepsBut _ _ (mChan _ _ _); with_reducible refine keepsBut_of ?_ (mChan_keeps _ _ _) (by decide))
    | (with_reducible show keepsBut _ _ (emit _ _); with_reducible refine keepsBut_of ?_ (emit_keeps _ _) (by decide))
    | with_reducible refine keepsBut_ite ?_ ?_
    | with_reducible refine keepsBut_doIf (fun _ => ?_) ?_
    | with_reducible refine keepsBut_each (fun _ _ => ?_) ?_
    | dsimp only [id]
    | split)

/-! Machine/Axes.lean -/

theorem axSet_keeps (a o : Nat) (v : Word) (s : State) : keepsBut [.regs, .axs] s (axSet a o v s) := by
  unfold axSet
  try dsimp only
  repeat' (first
    | with_reducible exact keepsBut_refl _ _
    | (with_reducible show keepsBut _ _ (mAxs _ _ _); with_reducible refine keepsBut_of ?_ (mAxs_keeps _ _ _) (by decide))
    | (with_reducible show keepsBut _ _ (setReg _ _ _); with_reducible refine keepsBut_of ?_ (setReg_keeps _ _ _) (by decide))
    | with_reducible refine keepsBut_ite ?_ ?_
    | with_reducible refine keepsBut_doIf (fun _ => ?_) ?_
    | with_reducible refine keepsBut_each (fun _ _ => ?_) ?_
    | dsimp only [id]
    | split)

theorem axStat_keeps (a i : Nat) (s : State) : keepsBut [.axs] s (axStat a i s) := by
  unfold axStat
  try dsimp only
  repeat' (first
    | with_reducible exact keepsBut_refl _ _
    | (with_reducible show keepsBut _ _ (mAxs _ _ _); with_reducible refine keepsBut_of ?_ (mAxs_keeps _ _ _) (by decide))
    | with_reducible refine keepsBut_ite ?_ ?_
    | with_reducible refine keepsBut_doIf (fun _ => ?_) ?_
    | with_reducible refine keepsBut_each (fun _ _ => ?_) ?_
    | dsimp only [id]
    | split)

theorem mPhase_keeps (a : Nat) (b : Bool) (f : ChopPhase → ChopPhase) (s : State) : keepsBut [.axs] s (mPhase a b f s) := by
  unfold mPhase
  try dsimp only
  repeat' (first
    | with_reducible exact keepsBut_refl _ _
    | (with_reducible show keepsBut _ _ (mAxs _ _ _); with_reducible refine keepsBut_of ?_ (mAxs_keeps _ _ _) (by decide))
    | with_reducible refine keepsBut_ite ?_ ?_
    | with_reducible refine keepsBut_doIf (fun _ => ?_) ?_
    | with_reducible refine keepsBut_each (fun _ _ => ?_) ?_
    | dsimp only [id]
    | split)

theorem bridgeTo_keeps (a : Nat) (b : Bool) (d : Nat) (s : State) : keepsBut [.axs] s (bridgeTo a b d s) := by
  unfold bridgeTo
  try dsimp only
  repeat' (first
    | with_reducible exact keepsBut_refl _ _
    | (with_reducible show keepsBut _ _ (emit _ _); with_reducible refine keepsBut_of ?_ (emit_keeps _ _) (by decide))
    | (with_reducible show keepsBut _ _ (mPhase _ _ _ _); with_reducible refine keepsBut_of ?_ (mPhase_keeps _ _ _ _) (by decide))
    | with_reducible refine keepsBut_ite ?_ ?_
    | with_reducible refine keepsBut_doIf (fun _ => ?_) ?_
    | with_reducible refine keepsBut_each (fun _ _ => ?_) ?_
    | dsimp only [id]
    | split)

theorem chopOn_keeps (a : Nat) (b : Bool) (s : State) : keepsBut [.axs] s (chopOn a b s) := by
  unfold chopOn
  try dsimp only
  repeat' (first
    | with_reducible exact keepsBut_refl _ _
    | (with_reducible show keepsBut _ _ (mPhase _ _ _ _); with_reducible refine keepsBut_of ?_ (mPhase_keeps _ _ _ _) (by decide))
    | (with_reducible show keepsBut _ _ (bridgeTo _ _ _ _); with_reducible refine keepsBut_of ?_ (bridgeTo_keeps _ _ _ _) (by decide))
    | with_reducible refine keepsBut_ite ?_ ?_
    | with_reducible refine keepsBut_doIf (fun _ => ?_) ?_
    | with_reducible refine keepsBut_each (fun _ _ => ?_) ?_
    | dsimp only [id]
    | split)

theorem chopFollow_keeps (a : Nat) (b : Bool) (s : State) : keepsBut [.axs] s (chopFollow a b s) := by
  unfold chopFollow
  try dsimp only
  repeat' (first
    | with_reducible exact keepsBut_refl _ _
    | (with_reducible show keepsBut _ _ (mPhase _ _ _ _); with_reducible refine keepsBut_of ?_ (mPhase_keeps _ _ _ _) (by decide))
    | (with_reducible show keepsBut _ _ (bridgeTo _ _ _ _); with_reducible refine keepsBut_of ?_ (bridgeTo_keeps _ _ _ _) (by decide))
    | (with_reducible show keepsBut _ _ (chopOn _ _ _); with_reducible refine keepsBut_of ?_ (chopOn_keeps _ _ _) (by decide))
    | with_reducible refine keepsBut_ite ?_ ?_
    | with_reducible refine keepsBut_doIf (fun _ => ?_) ?_
    | with_reducible refine keepsBut_each (fun _ _ => ?_) ?_
    | dsimp only [id]
    | split)

theorem axFollow_keeps (a : Nat) (s : State) : keepsBut [.axs] s (axFollow a s) := by
  unfold axFollow
  try dsimp only
  repeat' (first
    | with_reducible exact keepsBut_refl _ _
    | (with_reducible show keepsBut _ _ (chopFollow _ _ _); with_reducible refine keepsBut_of ?_ (chopFollow_keeps _ _ _) (by decide))
    | with_reducible refine keepsBut_ite ?_ ?_
    | with_reducible refine keepsBut_doIf (fun _ => ?_) ?_
    | with_reducible refine keepsBut_each (fun _ _ => ?_) ?_
    | dsimp only [id]
    | split)

theorem axesFollow_keeps (s : State) : keepsBut [.axs] s (axesFollow s) := by
  unfold axesFollow
  try dsimp only
  repeat' (first
    | with_reducible exact keepsBut_refl _ _
    | (with_reducible show keepsBut _ _ (axFollow _ _); with_reducible refine keepsBut_of ?_ (axFollow_keeps _ _) (by decide))
    | with_reducible refine keepsBut_ite ?_ ?_
    | with_reducible refine keepsBut_doIf (fun _ => ?_) ?_
    | with_reducible refine keepsBut_each (fun _ _ => ?_) ?_
    | dsimp only [id]
    | split)

theorem chopEnd_keeps (a : Nat) (b : Bool) (dur mid : Nat) (s : State) : keepsBut [.axs] s (chopEnd a b dur mid s) := by
  unfold chopEnd
  try dsimp only
  repeat' (first
    | with_reducible exact keepsBut_refl _ _
    | (with_reducible show keepsBut _ _ (mPhase _ _ _ _); with_reducible refine keepsBut_of ?_ (mPhase_keeps _ _ _ _) (by decide))
    | (with_reducible show keepsBut _ _ (bridgeTo _ _ _ _); with_reducible refine keepsBut_of ?_ (bridgeTo_keeps _ _ _ _) (by decide))
    | (with_reducible show keepsBut _ _ (chopOn _ _ _); with_reducible refine keepsBut_of ?_ (chopOn_keeps _ _ _) (by decide))
    | (with_reducible show keepsBut _ _ (mAxs _ _ _); with_reducible refine keepsBut_of ?_ (mAxs_keeps _ _ _) (by decide))
    | with_reducible refine keepsBut_ite ?_ ?_
    | with_reducible refine keepsBut_doIf (fun _ => ?_) ?_
    | with_reducible refine keepsBut_each (fun _ _ => ?_) ?_
    | dsimp only [id]
    | split)

theorem shuffleWatch_keeps (a : Nat) (s : State) : keepsBut [.err] s (shuffleWatch a s) := by
  unfold shuffleWatch
  try dsimp only
  repeat' (first
    | with_reducible exact keepsBut_refl _ _
    | (with_reducible show keepsBut _ _ (raise _ _ _ _); with_reducible refine keepsBut_of ?_ (raise_keeps _ _ _ _) (by decide))
    | with_reducible refine keepsBut_ite ?_ ?_
    | with_reducible refine keepsBut_doIf (fun _ => ?_) ?_
    | with_reducible refine keepsBut_each (fun _ _ => ?_) ?_
    | dsimp only [id]
    | split)

theorem fullStep_keeps (a : Nat) (s : State) : keepsBut [.axs] s (fullStep a s) := by
  unfold fullStep
  try dsimp only
  repeat' (first
    | with_reducible exact keepsBut_refl _ _
    | (with_reducible show keepsBut _ _ (mAxs _ _ _); with_reducible refine keepsBut_of ?_ (mAxs_keeps _ _ _) (by decide))
    | with_reducible refine keepsBut_ite ?_ ?_
    | with_reducible refine keepsBut_doIf (fun _ => ?_) ?_
    | with_reducible refine keepsBut_each (fun _ _ => ?_) ?_
    | dsimp only [id]
    | split)

theorem microStep_keeps (a : Nat) (s : State) : keepsBut [.err, .axs] s (microStep a s) := by
  unfold microStep
  try dsimp only
  repeat' (first
    | with_reducible exact keepsBut_refl _ _
    | (with_reducible show keepsBut _ _ (mAxs _ _ _); with_reducible refine keepsBut_of ?_ (mAxs_keeps _ _ _) (by decide))
    | (with_reducible show keepsBut _ _ (axFollow _ _); with_reducible refine keepsBut_of ?_ (axFollow_keeps _ _) (by decide))
    | (with_reducible show keepsBut _ _ (shuffleWatch _ _); with_reducible refine keepsBut_of ?_ (shuffleWatch_keeps _ _) (by decide))
    | (with_reducible show keepsBut _ _ (fullStep _ _); with_reducible refine keepsBut_of ?_ (fullStep_keeps _ _) (by decide))
    | with_reducible refine keepsBut_ite ?_ ?_
    | with_reducible refine keepsBut_doIf (fun _ => ?_) ?_
    | with_reducible refine keepsBut_each (fun _ _ => ?_) ?_
    | dsimp only [id]
    | split)

theorem limitCheck_keeps (a : Nat) (s : State) : keepsBut [.err, .axs] s (limitCheck a s) := by
  unfold limitCheck
  try dsimp only
  repeat' (first
    | with_reducible exact keepsBut_refl _ _
    | (with_reducible show keepsBut _ _ (mAxs _ _ _); with_reducible refine keepsBut_of ?_ (mAxs_keeps _ _ _) (by decide))
    | (with_reducible show keepsBut _ _ (notice _ _ _); with_reducible refine keepsBut_of ?_ (notice_keeps _ _ _) (by decide))
    | (with_reducible show keepsBut _ _ (faultErr _ _ _); with_reducible refine keepsBut_of ?_ (faultErr_keeps _ _ _) (by decide))
    | (with_reducible show keepsBut _ _ (axStat _ _ _); with_reducible refine keepsBut_of ?_ (axStat_keeps _ _ _) (by decide))
    | with_reducible refine keepsBut_ite ?_ ?_
    | with_reducible refine keepsBut_doIf (fun _ => ?_) ?_
    | with_reducible refine keepsBut_each (fun _ _ => ?_) ?_
    | dsimp only [id]
    | split)

theorem axKnot_keeps (a : Nat) (s : State) : keepsBut [.err, .axs] s (axKnot a s) := by
  unfold axKnot
  try dsimp only
  repeat' (first
    | with_reducible exact keepsBut_refl _ _
    | (with_reducible show keepsBut _ _ (mAxs _ _ _); with_reducible refine keepsBut_of ?_ (mAxs_keeps _ _ _) (by decide))
    | (with_reducible show keepsBut _ _ (notice _ _ _); with_reducible refine keepsBut_of ?_ (notice_keeps _ _ _) (by decide))
    | (with_reducible show keepsBut _ _ (axStat _ _ _); with_reducible refine keepsBut_of ?_ (axStat_keeps _ _ _) (by decide))
    | (with_reducible show keepsBut _ _ (axFollow _ _); with_reducible refine keepsBut_of ?_ (axFollow_keeps _ _) (by decide))
    | with_reducible refine keepsBut_ite ?_ ?_
    | with_reducible refine keepsBut_doIf (fun _ => ?_) ?_
    | with_reducible refine keepsBut_each (fun _ _ => ?_) ?_
    | dsimp only [id]
    | split)

theorem gearSwitch_keeps (a : Nat) (s : State) : keepsBut [.axs] s (gearSwitch a s) := by
  unfold gearSwitch
  try dsimp only
  repeat' (first
    | with_reducible exact keepsBut_refl _ _
    | (with_reducible show keepsBut _ _ (mAxs _ _ _); with_reducible refine keepsBut_of ?_ (mAxs_keeps _ _ _) (by decide))
    | (with_reducible show keepsBut _ _ (axStat _ _ _); with_reducible refine keepsBut_of ?_ (axStat_keeps _ _ _) (by decide))
    | with_reducible refine keepsBut_ite ?_ ?_
    | with_reducible refine keepsBut_doIf (fun _ => ?_) ?_
    | with_reducible refine keepsBut_each (fun _ _ => ?_) ?_
    | dsimp only [id]
    | split)

theorem gearDue_keeps (a : Nat) (s : State) : keepsBut [.axs] s (gearDue a s) := by
  unfold gearDue
  try dsimp only
  repeat' (first
    | with_reducible exact keepsBut_refl _ _
    | (with_reducible show keepsBut _ _ (gearSwitch _ _); with_reducible refine keepsBut_of ?_ (gearSwitch_keeps _ _) (by decide))
    | with_reducible refine keepsBut_ite ?_ ?_
    | with_reducible refine keepsBut_doIf (fun _ => ?_) ?_
    | with_reducible refine keepsBut_each (fun _ _ => ?_) ?_
    | dsimp only [id]
    | split)

theorem toPosition_keeps (a : Nat) (s : State) : keepsBut [.regs, .axs] s (toPosition a s) := by
  unfold toPosition
  try dsimp only
  repeat' (first
    | with_reducible exact keepsBut_refl _ _
    | (with_reducible show keepsBut _ _ (mAxs _ _ _); with_reducible refine keepsBut_of ?_ (mAxs_keeps _ _ _) (by decide))
    | (with_reducible show keepsBut _ _ (axSet _ _ _ _); with_reducible refine keepsBut_of ?_ (axSet_keeps _ _ _ _) (by decide))
    | with_reducible refine keepsBut_ite ?_ ?_
    | with_reducible refine keepsBut_doIf (fun _ => ?_) ?_
    | with_reducible refine keepsBut_each (fun _ _ => ?_) ?_
    | dsimp only [id]
    | split)

theorem toTarget_keeps (a : Nat) (x : Int) (s : State) : keepsBut [.regs, .axs] s (toTarget a x s) := by
  unfold toTarget
  try dsimp only
  repeat' (first
    | with_reducible exact keepsBut_refl _ _
    | (with_reducible show keepsBut _ _ (axSet _ _ _ _); with_reducible refine keepsBut_of ?_ (axSet_keeps _ _ _ _) (by decide))
    | with_reducible refine keepsBut_ite ?_ ?_
    | with_reducible refine keepsBut_doIf (fun _ => ?_) ?_
    | with_reducible refine keepsBut_each (fun _ _ => ?_) ?_
    | dsimp only [id]
    | split)

theorem stallTake_keeps (a : Nat) (s : State) : keepsBut [.regs, .err, .axs] s (stallTake a s) := by
  unfold stallTake
  try dsimp only
  repeat' (first
    | with_reducible exact keepsBut_refl _ _
    | (with_reducible show keepsBut _ _ (mAxs _ _ _); with_reducible refine keepsBut_of ?_ (mAxs_keeps _ _ _) (by decide))
    | (with_reducible show keepsBut _ _ (faultErr _ _ _); with_reducible refine keepsBut_of ?_ (faultErr_keeps _ _ _) (by decide))
    | (with_reducible show keepsBut _ _ (axStat _ _ _); with_reducible refine keepsBut_of ?_ (axStat_keeps _ _ _) (by decide))
    | (with_reducible show keepsBut _ _ (toPosition _ _); with_reducible refine keepsBut_of ?_ (toPosition_keeps _ _) (by decide))
    | (with_reducible show keepsBut _ _ (toTarget _ _ _); with_reducible refine keepsBut_of ?_ (toTarget_keeps _ _ _) (by decide))
    | with_reducible refine keepsBut_ite ?_ ?_
    | with_reducible refine keepsBut_doIf (fun _ => ?_) ?_
    | with_reducible refine keepsBut_each (fun _ _ => ?_) ?_
    | dsimp only [id]
    | split)

theorem axRwl_keeps (a : Nat) (s : State) : keepsBut [.axs] s (axRwl a s) := by
  unfold axRwl
  try dsimp only
  repeat' (first
    | with_reducible exact keepsBut_refl _ _
    | (with_reducible show keepsBut _ _ (mAxs _ _ _); with_reducible refine keepsBut_of ?_ (mAxs_keeps _ _ _) (by decide))
    | with_reducible refine keepsBut_ite ?_ ?_
    | with_reducible refine keepsBut_doIf (fun _ => ?_) ?_
    | with_reducible refine keepsBut_each (fun _ _ => ?_) ?_
    | dsimp only [id]
    | split)

theorem limitStep_keeps (a : Nat) (g d : Int) (s : State) : keepsBut [.regs, .err, .axs] s (limitStep a g d s) := by
  unfold limitStep
  try dsimp only
  repeat' (first
    | with_reducible exact keepsBut_refl _ _
    | (with_reducible show keepsBut _ _ (mAxs _ _ _); with_reducible refine keepsBut_of ?_ (mAxs_keeps _ _ _) (by decide))
    | (with_reducible show keepsBut _ _ (faultErr _ _ _); with_reducible refine keepsBut_of ?_ (faultErr_keeps _ _ _) (by decide))
    | (with_reducible show keepsBut _ _ (toPosition _ _); with_reducible refine keepsBut_of ?_ (toPosition_keeps _ _) (by decide))
    | (with_reducible show keepsBut _ _ (toTarget _ _ _); with_reducible refine keepsBut_of ?_ (toTarget_keeps _ _ _) (by decide))
    | with_reducible refine keepsBut_ite ?_ ?_
    | with_reducible refine keepsBut_doIf (fun _ => ?_) ?_
    | with_reducible refine keepsBut_each (fun _ _ => ?_) ?_
    | dsimp only [id]
    | split)

theorem hardStep_keeps (a : Nat) (lo hi : Int) (s : State) : keepsBut [.regs, .axs] s (hardStep a lo hi s) := by
  unfold hardStep
  try dsimp only
  repeat' (first
    | with_reducible exact keepsBut_refl _ _
    | (with_reducible show keepsBut _ _ (mAxs _ _ _); with_reducible refine keepsBut_of ?_ (mAxs_keeps _ _ _) (by decide))
    | (with_reducible show keepsBut _ _ (toTarget _ _ _); with_reducible refine keepsBut_of ?_ (toTarget_keeps _ _ _) (by decide))
    | with_reducible refine keepsBut_ite ?_ ?_
    | with_reducible refine keepsBut_doIf (fun _ => ?_) ?_
    | with_reducible refine keepsBut_each (fun _ _ => ?_) ?_
    | dsimp only [id]
    | split)

theorem faultStep_keeps (a : Nat) (lo hi : Int) (s : State) : keepsBut [.regs, .axs] s (faultStep a lo hi s) := by
  unfold faultStep
  try dsimp only
  repeat' (first
    | with_reducible exact keepsBut_refl _ _
    | (with_reducible show keepsBut _ _ (mAxs _ _ _); with_reducible refine keepsBut_of ?_ (mAxs_keeps _ _ _) (by decide))
    | (with_reducible show keepsBut _ _ (toPosition _ _); with_reducible refine keepsBut_of ?_ (toPosition_keeps _ _) (by decide))
    | with_reducible refine keepsBut_ite ?_ ?_
    | with_reducible refine keepsBut_doIf (fun _ => ?_) ?_
    | with_reducible refine keepsBut_each (fun _ _ => ?_) ?_
    | dsimp only [id]
    | split)

theorem profileStep_keeps (a : Nat) (lo hi : Int) (s : State) : keepsBut [.err, .axs] s (profileStep a lo hi s) := by
  unfold profileStep
  try dsimp only
  repeat' (first
    | with_reducible exact keepsBut_refl _ _
    | (with_reducible show keepsBut _ _ (mAxs _ _ _); with_reducible refine keepsBut_of ?_ (mAxs_keeps _ _ _) (by decide))
    | (with_reducible show keepsBut _ _ (raiseLim _ _ _ _ _ _); with_reducible refine keepsBut_of ?_ (raiseLim_keeps _ _ _ _ _ _) (by decide))
    | (with_reducible show keepsBut _ _ (axStat _ _ _); with_reducible refine keepsBut_of ?_ (axStat_keeps _ _ _) (by decide))
    | with_reducible refine keepsBut_ite ?_ ?_
    | with_reducible refine keepsBut_doIf (fun _ => ?_) ?_
    | with_reducible refine keepsBut_each (fun _ _ => ?_) ?_
    | dsimp only [id]
    | split)

theorem profileUpdate_keeps (a : Nat) (s : State) : keepsBut [.regs, .err, .axs] s (profileUpdate a s) := by
  unfold profileUpdate
  try dsimp only
  repeat' (first
    | with_reducible exact keepsBut_refl _ _
    | (with_reducible show keepsBut _ _ (mAxs _ _ _); with_reducible refine keepsBut_of ?_ (mAxs_keeps _ _ _) (by decide))
    | (with_reducible show keepsBut _ _ (axFollow _ _); with_reducible refine keepsBut_of ?_ (axFollow_keeps _ _) (by decide))
    | (with_reducible show keepsBut _ _ (shuffleWatch _ _); with_reducible refine keepsBut_of ?_ (shuffleWatch_keeps _ _) (by decide))
    | (with_reducible show keepsBut _ _ (limitCheck _ _); with_reducible refine keepsBut_of ?_ (limitCheck_keeps _ _) (by decide))
    | (with_reducible show keepsBut _ _ (axKnot _ _); with_reducible refine keepsBut_of ?_ (axKnot_keeps _ _) (by decide))
    | (with_reducible show keepsBut _ _ (gearDue _ _); with_reducible refine keepsBut_of ?_ (gearDue_keeps _ _) (by decide))
    | (with_reducible show keepsBut _ _ (stallTake _ _); with_reducible refine keepsBut_of ?_ (stallTake_keeps _ _) (by decide))
    | (with_reducible show keepsBut _ _ (axRwl _ _); with_reducible refine keepsBut_of ?_ (axRwl_keeps _ _) (by decide))
    | (with_reducible show keepsBut _ _ (limitStep _ _ _ _); with_reducible refine keepsBut_of ?_ (limitStep_keeps _ _ _ _) (by decide))
    | (with_reducible show keepsBut _ _ (hardStep _ _ _ _); with_reducible refine keepsBut_of ?_ (hardStep_keeps _ _ _ _) (by decide))
    | (with_reducible show keepsBut _ _ (faultStep _ _ _ _); with_reducible refine keepsBut_of ?_ (faultStep_keeps _ _ _ _) (by decide))
    | (with_reducible show keepsBut _ _ (profileStep _ _ _ _); with_reducible refine keepsBut_of ?_ (profileStep_keeps _ _ _ _) (by decide))
    | with_reducible refine keepsBut_ite ?_ ?_
    | with_reducible refine keepsBut_doIf (fun _ => ?_) ?_
    | with_reducible refine keepsBut_each (fun _ _ => ?_) ?_
    | dsimp only [id]
    | split)

theorem overcurrentTake_keeps (a : Nat) (s : State) : keepsBut [.regs, .err, .axs] s (overcurrentTake a s) := by
  unfold overcurrentTake
  try dsimp only
  repeat' (first
    | with_reducible exact keepsBut_refl _ _
    | (with_reducible show keepsBut _ _ (mAxs _ _ _); with_reducible refine keepsBut_of ?_ (mAxs_keeps _ _ _) (by decide))
    | (with_reducible show keepsBut _ _ (setReg _ _ _); with_reducible refine keepsBut_of ?_ (setReg_keeps _ _ _) (by decide))
    | (with_reducible show keepsBut _ _ (faultErr _ _ _); with_reducible refine keepsBut_of ?_ (faultErr_keeps _ _ _) (by decide))
    | (with_reducible show keepsBut _ _ (axStat _ _ _); with_reducible refine keepsBut_of ?_ (axStat_keeps _ _ _) (by decide))
    | (with_reducible show keepsBut _ _ (mPhase _ _ _ _); with_reducible refine keepsBut_of ?_ (mPhase_keeps _ _ _ _) (by decide))
    | (with_reducible show keepsBut _ _ (bridgeTo _ _ _ _); with_reducible refine keepsBut_of ?_ (bridgeTo_keeps _ _ _ _) (by decide))
    | with_reducible refine keepsBut_ite ?_ ?_
    | with_reducible refine keepsBut_doIf (fun _ => ?_) ?_
    | with_reducible refine keepsBut_each (fun _ _ => ?_) ?_
    | dsimp only [id]
    | split)

theorem hardLimitTake_keeps (a : Nat) (hi : Bool) (s : State) : keepsBut [.regs, .err, .axs] s (hardLimitTake a hi s) := by
  unfold hardLimitTake
  try dsimp only
  repeat' (first
    | with_reducible exact keepsBut_refl _ _
    | (with_reducible show keepsBut _ _ (mAxs _ _ _); with_reducible refine keepsBut_of ?_ (mAxs_keeps _ _ _) (by decide))
    | (with_reducible show keepsBut _ _ (faultErr _ _ _); with_reducible refine keepsBut_of ?_ (faultErr_keeps _ _ _) (by decide))
    | (with_reducible show keepsBut _ _ (axStat _ _ _); with_reducible refine keepsBut_of ?_ (axStat_keeps _ _ _) (by decide))
    | (with_reducible show keepsBut _ _ (toPosition _ _); with_reducible refine keepsBut_of ?_ (toPosition_keeps _ _) (by decide))
    | with_reducible refine keepsBut_ite ?_ ?_
    | with_reducible refine keepsBut_doIf (fun _ => ?_) ?_
    | with_reducible refine keepsBut_each (fun _ _ => ?_) ?_
    | dsimp only [id]
    | split)

theorem opAxsCtl_keeps (a : Nat) (old new : Word) (s : State) : keepsBut [.axs, .cal] s (opAxsCtl a old new s) := by
  unfold opAxsCtl
  try dsimp only
  repeat' (first
    | with_reducible exact keepsBut_refl _ _
    | (with_reducible show keepsBut _ _ (mAxs _ _ _); with_reducible refine keepsBut_of ?_ (mAxs_keeps _ _ _) (by decide))
    | (with_reducible show keepsBut _ _ (cmpAbandon _ _); with_reducible refine keepsBut_of ?_ (cmpAbandon_keeps _ _) (by decide))
    | (with_reducible show keepsBut _ _ (axFollow _ _); with_reducible refine keepsBut_of ?_ (axFollow_keeps _ _) (by decide))
    | with_reducible refine keepsBut_ite ?_ ?_
    | with_reducible refine keepsBut_doIf (fun _ => ?_) ?_
    | with_reducible refine keepsBut_each (fun _ _ => ?_) ?_
    | dsimp only [id]
    | split)

theorem opAxsTarget_keeps (a : Nat) (s : State) : keepsBut [.axs] s (opAxsTarget a s) := by
  unfold opAxsTarget
  try dsimp only
  repeat' (first
    | with_reducible exact keepsBut_refl _ _
    | (with_reducible show keepsBut _ _ (mAxs _ _ _); with_reducible refine keepsBut_of ?_ (mAxs_keeps _ _ _) (by decide))
    | with_reducible refine keepsBut_ite ?_ ?_
    | with_reducible refine keepsBut_doIf (fun _ => ?_) ?_
    | with_reducible refine keepsBut_each (fun _ _ => ?_) ?_
    | dsimp only [id]
    | split)

theorem opAxsVtarget_keeps (a : Nat) (v : Word) (s : State) : keepsBut [.axs] s (opAxsVtarget a v s) := by
  unfold opAxsVtarget
  try dsimp only
  repeat' (first
    | with_reducible exact keepsBut_refl _ _
    | (with_reducible show keepsBut _ _ (mAxs _ _ _); with_reducible refine keepsBut_of ?_ (mAxs_keeps _ _ _) (by decide))
    | with_reducible refine keepsBut_ite ?_ ?_
    | with_reducible refine keepsBut_doIf (fun _ => ?_) ?_
    | with_reducible refine keepsBut_each (fun _ _ => ?_) ?_
    | dsimp only [id]
    | split)

theorem opAxsSetpos_keeps (a : Nat) (v : Word) (s : State) : keepsBut [.regs, .axs] s (opAxsSetpos a v s) := by
  unfold opAxsSetpos
  try dsimp only
  repeat' (first
    | with_reducible exact keepsBut_refl _ _
    | (with_reducible show keepsBut _ _ (mAxs _ _ _); with_reducible refine keepsBut_of ?_ (mAxs_keeps _ _ _) (by decide))
    | (with_reducible show keepsBut _ _ (axSet _ _ _ _); with_reducible refine keepsBut_of ?_ (axSet_keeps _ _ _ _) (by decide))
    | with_reducible refine keepsBut_ite ?_ ?_
    | with_reducible refine keepsBut_doIf (fun _ => ?_) ?_
    | with_reducible refine keepsBut_each (fun _ _ => ?_) ?_
    | dsimp only [id]
    | split)

theorem opAxsGat_keeps (a : Nat) (v : Word) (s : State) : keepsBut [.axs] s (opAxsGat a v s) := by
  unfold opAxsGat
  try dsimp only
  repeat' (first
    | with_reducible exact keepsBut_refl _ _
    | (with_reducible show keepsBut _ _ (mAxs _ _ _); with_reducible refine keepsBut_of ?_ (mAxs_keeps _ _ _) (by decide))
    | (with_reducible show keepsBut _ _ (gearSwitch _ _); with_reducible refine keepsBut_of ?_ (gearSwitch_keeps _ _) (by decide))
    | with_reducible refine keepsBut_ite ?_ ?_
    | with_reducible refine keepsBut_doIf (fun _ => ?_) ?_
    | with_reducible refine keepsBut_each (fun _ _ => ?_) ?_
    | dsimp only [id]
    | split)

theorem axTblStep_keeps (s : State) : keepsBut [.regs] s (axTblStep s) := by
  unfold axTblStep
  try dsimp only
  repeat' (first
    | with_reducible exact keepsBut_refl _ _
    | (with_reducible show keepsBut _ _ (setReg _ _ _); with_reducible refine keepsBut_of ?_ (setReg_keeps _ _ _) (by decide))
    | with_reducible refine keepsBut_ite ?_ ?_
    | with_reducible refine keepsBut_doIf (fun _ => ?_) ?_
    | with_reducible refine keepsBut_each (fun _ _ => ?_) ?_
    | dsimp only [id]
    | split)

theorem opAxsTbl_keeps (acc : Access) (s : State) : keepsBut [.regs, .axs] s (opAxsTbl acc s) := by
  unfold opAxsTbl
  try dsimp only
  repeat' (first
    | with_reducible exact keepsBut_refl _ _
    | (with_reducible show keepsBut _ _ (mAxs _ _ _); with_reducible refine keepsBut_of ?_ (mAxs_keeps _ _ _) (by decide))
    | (with_reducible show keepsBut _ _ (axTblStep _); with_reducible refine keepsBut_of ?_ (axTblStep_keeps _) (by decide))
    | with_reducible refine keepsBut_ite ?_ ?_
    | with_reducible refine keepsBut_doIf (fun _ => ?_) ?_
    | with_reducible refine keepsBut_each (fun _ _ => ?_) ?_
    | dsimp only [id]
    | split)

/-! Machine/Inspection.lean -/

theorem mFrame_keeps (c n : Nat) (u : CamFrame → CamFrame) (s : State) : keepsBut [.insp] s (mFrame c n u s) := by
  unfold mFrame
  try dsimp only
  repeat' (first
    | with_reducible exact keepsBut_refl _ _
    | (with_reducible show keepsBut _ _ (mCtx _ _ _); with_reducible refine keepsBut_of ?_ (mCtx_keeps _ _ _) (by decide))
    | with_reducible refine keepsBut_ite ?_ ?_
    | with_reducible refine keepsBut_doIf (fun _ => ?_) ?_
    | with_reducible refine keepsBut_each (fun _ _ => ?_) ?_
    | dsimp only [id]
    | split)

theorem camNotice_keeps (code c : Nat) (s : State) : keepsBut [.err] s (camNotice code c s) := by
  unfold camNotice
  try dsimp only
  repeat' (first
    | with_reducible exact keepsBut_refl _ _
    | (with_reducible show keepsBut _ _ (raiseLim _ _ _ _ _ _); with_reducible refine keepsBut_of ?_ (raiseLim_keeps _ _ _ _ _ _) (by decide))
    | with_reducible refine keepsBut_ite ?_ ?_
    | with_reducible refine keepsBut_doIf (fun _ => ?_) ?_
    | with_reducible refine keepsBut_each (fun _ _ => ?_) ?_
    | dsimp only [id]
    | split)

theorem frameClose_keeps (c : Nat) (s : State) : keepsBut [.err, .insp] s (frameClose c s) := by
  unfold frameClose
  try dsimp only
  repeat' (first
    | with_reducible exact keepsBut_refl _ _
    | (with_reducible show keepsBut _ _ (mCtx _ _ _); with_reducible refine keepsBut_of ?_ (mCtx_keeps _ _ _) (by decide))
    | (with_reducible show keepsBut _ _ (mFrame _ _ _ _); with_reducible refine keepsBut_of ?_ (mFrame_keeps _ _ _ _) (by decide))
    | (with_reducible show keepsBut _ _ (camNotice _ _ _); with_reducible refine keepsBut_of ?_ (camNotice_keeps _ _ _) (by decide))
    | with_reducible refine keepsBut_ite ?_ ?_
    | with_reducible refine keepsBut_doIf (fun _ => ?_) ?_
    | with_reducible refine keepsBut_each (fun _ _ => ?_) ?_
    | dsimp only [id]
    | split)

theorem camTrigger_keeps (i : Nat) (ev : Int) (onPrint : Bool) (s : State) : keepsBut [.err, .insp] s (camTrigger i ev onPrint s) := by
  unfold camTrigger
  try dsimp only
  repeat' (first
    | with_reducible exact keepsBut_refl _ _
    | (with_reducible show keepsBut _ _ (mCtx _ _ _); with_reducible refine keepsBut_of ?_ (mCtx_keeps _ _ _) (by decide))
    | (with_reducible show keepsBut _ _ (camNotice _ _ _); with_reducible refine keepsBut_of ?_ (camNotice_keeps _ _ _) (by decide))
    | with_reducible refine keepsBut_ite ?_ ?_
    | with_reducible refine keepsBut_doIf (fun _ => ?_) ?_
    | with_reducible refine keepsBut_each (fun _ _ => ?_) ?_
    | dsimp only [id]
    | split)

theorem frameOpen_keeps (c : Nat) (csifn : Nat) (s : State) : keepsBut [.err, .insp] s (frameOpen c csifn s) := by
  unfold frameOpen
  try dsimp only
  repeat' (first
    | with_reducible exact keepsBut_refl _ _
    | (with_reducible show keepsBut _ _ (mCtx _ _ _); with_reducible refine keepsBut_of ?_ (mCtx_keeps _ _ _) (by decide))
    | (with_reducible show keepsBut _ _ (camNotice _ _ _); with_reducible refine keepsBut_of ?_ (camNotice_keeps _ _ _) (by decide))
    | (with_reducible show keepsBut _ _ (frameClose _ _); with_reducible refine keepsBut_of ?_ (frameClose_keeps _ _) (by decide))
    | with_reducible refine keepsBut_ite ?_ ?_
    | with_reducible refine keepsBut_doIf (fun _ => ?_) ?_
    | with_reducible refine keepsBut_each (fun _ _ => ?_) ?_
    | dsimp only [id]
    | split)

theorem ctxRest_keeps (c : Nat) (s : State) : keepsBut [.mem] s (ctxRest c s) := by
  unfold ctxRest
  try dsimp only
  repeat' (first
    | with_reducible exact keepsBut_refl _ _
    | (with_reducible show keepsBut _ _ (mArb _ _ _); with_reducible refine keepsBut_of ?_ (mArb_keeps _ _ _) (by decide))
    | with_reducible refine keepsBut_ite ?_ ?_
    | with_reducible refine keepsBut_doIf (fun _ => ?_) ?_
    | with_reducible refine keepsBut_each (fun _ _ => ?_) ?_
    | dsimp only [id]
    | split)

theorem stripeLost_keeps (p c key : Nat) (s : State) : keepsBut [.err, .insp] s (stripeLost p c key s) := by
  unfold stripeLost
  try dsimp only
  repeat' (first
    | with_reducible exact keepsBut_refl _ _
    | (with_reducible show keepsBut _ _ (mCam _ _ _); with_reducible refine keepsBut_of ?_ (mCam_keeps _ _ _) (by decide))
    | (with_reducible show keepsBut _ _ (raiseLim _ _ _ _ _ _); with_reducible refine keepsBut_of ?_ (raiseLim_keeps _ _ _ _ _ _) (by decide))
    | (with_reducible show keepsBut _ _ (mFrame _ _ _ _); with_reducible refine keepsBut_of ?_ (mFrame_keeps _ _ _ _) (by decide))
    | with_reducible refine keepsBut_ite ?_ ?_
    | with_reducible refine keepsBut_doIf (fun _ => ?_) ?_
    | with_reducible refine keepsBut_each (fun _ _ => ?_) ?_
    | dsimp only [id]
    | split)

theorem makeRoom_keeps (p v n : Nat) : ∀ (k : Nat) (s : State), keepsBut [.err, .insp, .mem] s (makeRoom p v n k s)
  | 0, s => keepsBut_refl _ s
  | k + 1, s => by
    unfold makeRoom
    split
    · exact keepsBut_refl _ s
    · split
      · exact keepsBut_refl _ s
      · refine keepsBut_of ?_ (makeRoom_keeps p v n k _) (by decide)
        refine keepsBut_of ?_ (ctxRest_keeps _ _) (by decide)
        refine keepsBut_of ?_ (stripeLost_keeps _ _ _ _) (by decide)
        exact keepsBut_of (keepsBut_refl _ s) (mCam_keeps _ _ s) (by decide)

theorem stripeAdmit_keeps (x : CamStripe) (s : State) : keepsBut [.err, .insp, .mem] s (stripeAdmit x s) := by
  unfold stripeAdmit
  try dsimp only
  repeat' (first
    | with_reducible exact keepsBut_refl _ _
    | (with_reducible show keepsBut _ _ (mCam _ _ _); with_reducible refine keepsBut_of ?_ (mCam_keeps _ _ _) (by decide))
    | (with_reducible show keepsBut _ _ (stripeLost _ _ _ _); with_reducible refine keepsBut_of ?_ (stripeLost_keeps _ _ _ _) (by decide))
    | (with_reducible show keepsBut _ _ (makeRoom _ _ _ _ _); with_reducible refine keepsBut_of ?_ (makeRoom_keeps _ _ _ _ _) (by decide))
    | with_reducible refine keepsBut_ite ?_ ?_
    | with_reducible refine keepsBut_doIf (fun _ => ?_) ?_
    | with_reducible refine keepsBut_each (fun _ _ => ?_) ?_
    | dsimp only [id]
    | split)

theorem camIgnore_keeps (p : Nat) (s : State) : keepsBut [.insp] s (camIgnore p s) := by
  unfold camIgnore
  try dsimp only
  repeat' (first
    | with_reducible exact keepsBut_refl _ _
    | (with_reducible show keepsBut _ _ (mCam _ _ _); with_reducible refine keepsBut_of ?_ (mCam_keeps _ _ _) (by decide))
    | with_reducible refine keepsBut_ite ?_ ?_
    | with_reducible refine keepsBut_doIf (fun _ => ?_) ?_
    | with_reducible refine keepsBut_each (fun _ _ => ?_) ?_
    | dsimp only [id]
    | split)

theorem camLine_keeps (c : Nat) (dt : Nat) (d : Bytes) (crcOk : Bool) (s : State) : keepsBut [.err, .insp, .mem] s (camLine c dt d crcOk s) := by
  unfold camLine
  try dsimp only
  repeat' (first
    | with_reducible exact keepsBut_refl _ _
    | (with_reducible show keepsBut _ _ (camIgnore _ _); with_reducible refine keepsBut_of ?_ (camIgnore_keeps _ _) (by decide))
    | (with_reducible show keepsBut _ _ (mCam _ _ _); with_reducible refine keepsBut_of ?_ (mCam_keeps _ _ _) (by decide))
    | (with_reducible show keepsBut _ _ (camNotice _ _ _); with_reducible refine keepsBut_of ?_ (camNotice_keeps _ _ _) (by decide))
    | (with_reducible show keepsBut _ _ (mFrame _ _ _ _); with_reducible refine keepsBut_of ?_ (mFrame_keeps _ _ _ _) (by decide))
    | (with_reducible show keepsBut _ _ (stripeAdmit _ _); with_reducible refine keepsBut_of ?_ (stripeAdmit_keeps _ _) (by decide))
    | with_reducible refine keepsBut_ite ?_ ?_
    | with_reducible refine keepsBut_doIf (fun _ => ?_) ?_
    | with_reducible refine keepsBut_each (fun _ _ => ?_) ?_
    | dsimp only [id]
    | split)

theorem statRow_keeps (c : Nat) (f : CamFrame) (x0 y : Nat) (px : List (Nat × Nat × Nat)) (s : State) : keepsBut [.insp] s (statRow c f x0 y px s) := by
  unfold statRow
  try dsimp only
  repeat' (first
    | with_reducible exact keepsBut_refl _ _
    | (with_reducible show keepsBut _ _ (mFrame _ _ _ _); with_reducible refine keepsBut_of ?_ (mFrame_keeps _ _ _ _) (by decide))
    | with_reducible refine keepsBut_ite ?_ ?_
    | with_reducible refine keepsBut_doIf (fun _ => ?_) ?_
    | with_reducible refine keepsBut_each (fun _ _ => ?_) ?_
    | dsimp only [id]
    | split)

theorem stripeRun_keeps (x : CamStripe) (s : State) : keepsBut [.insp] s (stripeRun x s) := by
  unfold stripeRun
  try dsimp only
  repeat' (first
    | with_reducible exact keepsBut_refl _ _
    | (with_reducible show keepsBut _ _ (mFrame _ _ _ _); with_reducible refine keepsBut_of ?_ (mFrame_keeps _ _ _ _) (by decide))
    | (with_reducible show keepsBut _ _ (statRow _ _ _ _ _ _); with_reducible refine keepsBut_of ?_ (statRow_keeps _ _ _ _ _ _) (by decide))
    | with_reducible refine keepsBut_ite ?_ ?_
    | with_reducible refine keepsBut_doIf (fun _ => ?_) ?_
    | with_reducible refine keepsBut_each (fun _ _ => ?_) ?_
    | dsimp only [id]
    | split)

theorem stripeTake_keeps (x : CamStripe) (s : State) : keepsBut [.insp, .mem] s (stripeTake x s) := by
  unfold stripeTake
  try dsimp only
  repeat' (first
    | with_reducible exact keepsBut_refl _ _
    | (with_reducible show keepsBut _ _ (mCam _ _ _); with_reducible refine keepsBut_of ?_ (mCam_keeps _ _ _) (by decide))
    | (with_reducible show keepsBut _ _ (mArb _ _ _); with_reducible refine keepsBut_of ?_ (mArb_keeps _ _ _) (by decide))
    | (with_reducible show keepsBut _ _ (ctxRest _ _); with_reducible refine keepsBut_of ?_ (ctxRest_keeps _ _) (by decide))
    | (with_reducible show keepsBut _ _ (stripeRun _ _); with_reducible refine keepsBut_of ?_ (stripeRun_keeps _ _) (by decide))
    | with_reducible refine keepsBut_ite ?_ ?_
    | with_reducible refine keepsBut_doIf (fun _ => ?_) ?_
    | with_reducible refine keepsBut_each (fun _ _ => ?_) ?_
    | dsimp only [id]
    | split)

theorem recordPut_keeps (c : Nat) (f : CamFrame) (s : State) : keepsBut [.err, .insp, .mem] s (recordPut c f s) := by
  unfold recordPut
  try dsimp only
  repeat' (first
    | with_reducible exact keepsBut_refl _ _
    | (with_reducible show keepsBut _ _ (mCtx _ _ _); with_reducible refine keepsBut_of ?_ (mCtx_keeps _ _ _) (by decide))
    | (with_reducible show keepsBut _ _ (bankPut _ _ _ _); with_reducible refine keepsBut_of ?_ (bankPut_keeps _ _ _ _) (by decide))
    | (with_reducible show keepsBut _ _ (camNotice _ _ _); with_reducible refine keepsBut_of ?_ (camNotice_keeps _ _ _) (by decide))
    | with_reducible refine keepsBut_ite ?_ ?_
    | with_reducible refine keepsBut_doIf (fun _ => ?_) ?_
    | with_reducible refine keepsBut_each (fun _ _ => ?_) ?_
    | dsimp only [id]
    | split)

theorem streakReport_keeps (c key smax lc n : Nat) (s : State) : keepsBut [.free, .err, .tow, .fir, .nzl, .gat, .insp, .mem, .par] s (streakReport c key smax lc n s) := by
  unfold streakReport
  try dsimp only
  repeat' (first
    | with_reducible exact keepsBut_refl _ _
    | (with_reducible show keepsBut _ _ (camNotice _ _ _); with_reducible refine keepsBut_of ?_ (camNotice_keeps _ _ _) (by decide))
    | (with_reducible show keepsBut _ _ (suppress _ _); with_reducible refine keepsBut_of ?_ (suppress_keeps _ _) (by decide))
    | (with_reducible show keepsBut _ _ (mCtx _ _ _); with_reducible refine keepsBut_of ?_ (mCtx_keeps _ _ _) (by decide))
    | (with_reducible show keepsBut _ _ (mFrame _ _ _ _); with_reducible refine keepsBut_of ?_ (mFrame_keeps _ _ _ _) (by decide))
    | (with_reducible show keepsBut _ _ (nzSuspect _ _ _); with_reducible refine keepsBut_of ?_ (nzSuspect_keeps _ _ _) (by decide))
    | with_reducible refine keepsBut_ite ?_ ?_
    | with_reducible refine keepsBut_doIf (fun _ => ?_) ?_
    | with_reducible refine keepsBut_each (fun _ _ => ?_) ?_
    | dsimp only [id]
    | split)

theorem streakColumn_keeps (c : Nat) (f : CamFrame) (x : Nat) (s : State) : keepsBut [.free, .err, .tow, .fir, .nzl, .gat, .insp, .mem, .par] s (streakColumn c f x s) := by
  unfold streakColumn
  try dsimp only
  repeat' (first
    | with_reducible exact keepsBut_refl _ _
    | (with_reducible show keepsBut _ _ (camNotice _ _ _); with_reducible refine keepsBut_of ?_ (camNotice_keeps _ _ _) (by decide))
    | (with_reducible show keepsBut _ _ (streakReport _ _ _ _ _ _); with_reducible refine keepsBut_of ?_ (streakReport_keeps _ _ _ _ _ _) (by decide))
    | with_reducible refine keepsBut_ite ?_ ?_
    | with_reducible refine keepsBut_doIf (fun _ => ?_) ?_
    | with_reducible refine keepsBut_each (fun _ _ => ?_) ?_
    | dsimp only [id]
    | split)

theorem streakJudge_keeps (c : Nat) (f : CamFrame) (x : Nat) (s : State) : keepsBut [.free, .err, .tow, .fir, .nzl, .gat, .insp, .mem, .par] s (streakJudge c f x s) := by
  unfold streakJudge
  try dsimp only
  repeat' (first
    | with_reducible exact keepsBut_refl _ _
    | (with_reducible show keepsBut _ _ (bankPut _ _ _ _); with_reducible refine keepsBut_of ?_ (bankPut_keeps _ _ _ _) (by decide))
    | (with_reducible show keepsBut _ _ (streakColumn _ _ _ _); with_reducible refine keepsBut_of ?_ (streakColumn_keeps _ _ _ _) (by decide))
    | with_reducible refine keepsBut_ite ?_ ?_
    | with_reducible refine keepsBut_doIf (fun _ => ?_) ?_
    | with_reducible refine keepsBut_each (fun _ _ => ?_) ?_
    | dsimp only [id]
    | split)

theorem streakRun_keeps (c : Nat) (f : CamFrame) (s : State) : keepsBut [.free, .err, .tow, .fir, .nzl, .gat, .insp, .mem, .par] s (streakRun c f s) := by
  unfold streakRun
  try dsimp only
  repeat' (first
    | with_reducible exact keepsBut_refl _ _
    | (with_reducible show keepsBut _ _ (mFrame _ _ _ _); with_reducible refine keepsBut_of ?_ (mFrame_keeps _ _ _ _) (by decide))
    | (with_reducible show keepsBut _ _ (streakJudge _ _ _ _); with_reducible refine keepsBut_of ?_ (streakJudge_keeps _ _ _ _) (by decide))
    | with_reducible refine keepsBut_ite ?_ ?_
    | with_reducible refine keepsBut_doIf (fun _ => ?_) ?_
    | with_reducible refine keepsBut_each (fun _ _ => ?_) ?_
    | dsimp only [id]
    | split)

theorem streakClear_keeps (c : Nat) (s : State) : keepsBut [.mem] s (streakClear c s) := by
  unfold streakClear
  try dsimp only
  repeat' (first
    | with_reducible exact keepsBut_refl _ _
    | (with_reducible show keepsBut _ _ (mBank _ _ _); with_reducible refine keepsBut_of ?_ (mBank_keeps _ _ _) (by decide))
    | with_reducible refine keepsBut_ite ?_ ?_
    | with_reducible refine keepsBut_doIf (fun _ => ?_) ?_
    | with_reducible refine keepsBut_each (fun _ _ => ?_) ?_
    | dsimp only [id]
    | split)

theorem camKnot_keeps (c : Nat) (old : List Word) (k : Int) (s : State) : keepsBut [.insp, .mem] s (camKnot c old k s) := by
  unfold camKnot
  try dsimp only
  repeat' (first
    | with_reducible exact keepsBut_refl _ _
    | (with_reducible show keepsBut _ _ (mCtx _ _ _); with_reducible refine keepsBut_of ?_ (mCtx_keeps _ _ _) (by decide))
    | (with_reducible show keepsBut _ _ (streakClear _ _); with_reducible refine keepsBut_of ?_ (streakClear_keeps _ _) (by decide))
    | with_reducible refine keepsBut_ite ?_ ?_
    | with_reducible refine keepsBut_doIf (fun _ => ?_) ?_
    | with_reducible refine keepsBut_each (fun _ _ => ?_) ?_
    | dsimp only [id]
    | split)

theorem opInsRel_keeps (c : Nat) (v : Word) (s : State) : keepsBut [.insp] s (opInsRel c v s) := by
  unfold opInsRel
  try dsimp only
  repeat' (first
    | with_reducible exact keepsBut_refl _ _
    | (with_reducible show keepsBut _ _ (mCtx _ _ _); with_reducible refine keepsBut_of ?_ (mCtx_keeps _ _ _) (by decide))
    | with_reducible refine keepsBut_ite ?_ ?_
    | with_reducible refine keepsBut_doIf (fun _ => ?_) ?_
    | with_reducible refine keepsBut_each (fun _ _ => ?_) ?_
    | dsimp only [id]
    | split)

theorem opInsClr_keeps (c : Nat) (v : Word) (s : State) : keepsBut [.insp] s (opInsClr c v s) := by
  unfold opInsClr
  try dsimp only
  repeat' (first
    | with_reducible exact keepsBut_refl _ _
    | (with_reducible show keepsBut _ _ (mCtx _ _ _); with_reducible refine keepsBut_of ?_ (mCtx_keeps _ _ _) (by decide))
    | with_reducible refine keepsBut_ite ?_ ?_
    | with_reducible refine keepsBut_doIf (fun _ => ?_) ?_
    | with_reducible refine keepsBut_each (fun _ _ => ?_) ?_
    | dsimp only [id]
    | split)

theorem opCamClr_keeps (p : Nat) (v : Word) (s : State) : keepsBut [.insp] s (opCamClr p v s) := by
  unfold opCamClr
  try dsimp only
  repeat' (first
    | with_reducible exact keepsBut_refl _ _
    | (with_reducible show keepsBut _ _ (mCam _ _ _); with_reducible refine keepsBut_of ?_ (mCam_keeps _ _ _) (by decide))
    | with_reducible refine keepsBut_ite ?_ ?_
    | with_reducible refine keepsBut_doIf (fun _ => ?_) ?_
    | with_reducible refine keepsBut_each (fun _ _ => ?_) ?_
    | dsimp only [id]
    | split)

theorem camPacket_keeps {qs : List Part} {f : State → State} (hq : ∀ p ∈ ([.insp] : List Part), p ∈ qs) (h_f : ∀  u, keepsBut qs u (f  u)) (c : Nat) (s : State) : keepsBut qs s (camPacket c f s) := by
  unfold camPacket
  try dsimp only
  repeat' (first
    | with_reducible exact keepsBut_refl _ _
    | (with_reducible show keepsBut _ _ (camIgnore _ _); with_reducible refine keepsBut_of ?_ (camIgnore_keeps _ _) (fun p m => hq p ((by decide : ∀ p ∈ _, p ∈ ([.insp] : List Part)) p m)))
    | (with_reducible show keepsBut _ _ (f _); with_reducible refine keepsBut_of ?_ (h_f _) (fun _ m => m))
    | with_reducible refine keepsBut_ite ?_ ?_
    | with_reducible refine keepsBut_doIf (fun _ => ?_) ?_
    | with_reducible refine keepsBut_each (fun _ _ => ?_) ?_
    | dsimp only [id]
    | split)

theorem camOther_keeps (p : Nat) (why : CamIgnored) (s : State) : keepsBut [.err, .insp] s (camOther p why s) := by
  unfold camOther
  try dsimp only
  repeat' (first
    | with_reducible exact keepsBut_refl _ _
    | (with_reducible show keepsBut _ _ (camIgnore _ _); with_reducible refine keepsBut_of ?_ (camIgnore_keeps _ _) (by decide))
    | (with_reducible show keepsBut _ _ (raiseLim _ _ _ _ _ _); with_reducible refine keepsBut_of ?_ (raiseLim_keeps _ _ _ _ _ _) (by decide))
    | (with_reducible show keepsBut _ _ (mCam _ _ _); with_reducible refine keepsBut_of ?_ (mCam_keeps _ _ _) (by decide))
    | with_reducible refine keepsBut_ite ?_ ?_
    | with_reducible refine keepsBut_doIf (fun _ => ?_) ?_
    | with_reducible refine keepsBut_each (fun _ _ => ?_) ?_
    | dsimp only [id]
    | split)

/-! Machine/Lamps.lean -/

theorem swapRequest_keeps (s : State) : keepsBut [.err, .lmp] s (swapRequest s) := by
  unfold swapRequest
  try dsimp only
  repeat' (first
    | with_reducible exact keepsBut_refl _ _
    | (with_reducible show keepsBut _ _ (mLmp _ _); with_reducible refine keepsBut_of ?_ (mLmp_keeps _ _) (by decide))
    | (with_reducible show keepsBut _ _ (raiseLim _ _ _ _ _ _); with_reducible refine keepsBut_of ?_ (raiseLim_keeps _ _ _ _ _ _) (by decide))
    | with_reducible refine keepsBut_ite ?_ ?_
    | with_reducible refine keepsBut_doIf (fun _ => ?_) ?_
    | with_reducible refine keepsBut_each (fun _ _ => ?_) ?_
    | dsimp only [id]
    | split)

theorem lampMilestone_keeps (i : Nat) (s : State) : keepsBut [.err, .lmp] s (lampMilestone i s) := by
  unfold lampMilestone
  try dsimp only
  repeat' (first
    | with_reducible exact keepsBut_refl _ _
    | (with_reducible show keepsBut _ _ (swapRequest _); with_reducible refine keepsBut_of ?_ (swapRequest_keeps _) (by decide))
    | with_reducible refine keepsBut_ite ?_ ?_
    | with_reducible refine keepsBut_doIf (fun _ => ?_) ?_
    | with_reducible refine keepsBut_each (fun _ _ => ?_) ?_
    | dsimp only [id]
    | split)

theorem lampKnot_keeps (s : State) : keepsBut [.lmp] s (lampKnot s) := by
  unfold lampKnot
  try dsimp only
  repeat' (first
    | with_reducible exact keepsBut_refl _ _
    | (with_reducible show keepsBut _ _ (mLmp _ _); with_reducible refine keepsBut_of ?_ (mLmp_keeps _ _) (by decide))
    | with_reducible refine keepsBut_ite ?_ ?_
    | with_reducible refine keepsBut_doIf (fun _ => ?_) ?_
    | with_reducible refine keepsBut_each (fun _ _ => ?_) ?_
    | dsimp only [id]
    | split)

theorem mChain_keeps (n : Nat) (f : LampChain → LampChain) (s : State) : keepsBut [.lmp] s (mChain n f s) := by
  unfold mChain
  try dsimp only
  repeat' (first
    | with_reducible exact keepsBut_refl _ _
    | (with_reducible show keepsBut _ _ (mLmp _ _); with_reducible refine keepsBut_of ?_ (mLmp_keeps _ _) (by decide))
    | with_reducible refine keepsBut_ite ?_ ?_
    | with_reducible refine keepsBut_doIf (fun _ => ?_) ?_
    | with_reducible refine keepsBut_each (fun _ _ => ?_) ?_
    | dsimp only [id]
    | split)

theorem lbusPump_keeps (n : Nat) (s : State) : keepsBut [.lmp] s (lbusPump n s) := by
  unfold lbusPump
  try dsimp only
  repeat' (first
    | with_reducible exact keepsBut_refl _ _
    | (with_reducible show keepsBut _ _ (emit _ _); with_reducible refine keepsBut_of ?_ (emit_keeps _ _) (by decide))
    | (with_reducible show keepsBut _ _ (mChain _ _ _); with_reducible refine keepsBut_of ?_ (mChain_keeps _ _ _) (by decide))
    | with_reducible refine keepsBut_ite ?_ ?_
    | with_reducible refine keepsBut_doIf (fun _ => ?_) ?_
    | with_reducible refine keepsBut_each (fun _ _ => ?_) ?_
    | dsimp only [id]
    | split)

theorem lbusGo_keeps (s : State) : keepsBut [.lmp] s (lbusGo s) := by
  unfold lbusGo
  try dsimp only
  repeat' (first
    | with_reducible exact keepsBut_refl _ _
    | (with_reducible show keepsBut _ _ (lbusPump _ _); with_reducible refine keepsBut_of ?_ (lbusPump_keeps _ _) (by decide))
    | with_reducible refine keepsBut_ite ?_ ?_
    | with_reducible refine keepsBut_doIf (fun _ => ?_) ?_
    | with_reducible refine keepsBut_each (fun _ _ => ?_) ?_
    | dsimp only [id]
    | split)

theorem lbusDue_keeps (n : Nat) (s : State) : keepsBut [.err, .lmp] s (lbusDue n s) := by
  unfold lbusDue
  try dsimp only
  repeat' (first
    | with_reducible exact keepsBut_refl _ _
    | (with_reducible show keepsBut _ _ (mLmp _ _); with_reducible refine keepsBut_of ?_ (mLmp_keeps _ _) (by decide))
    | (with_reducible show keepsBut _ _ (raiseLim _ _ _ _ _ _); with_reducible refine keepsBut_of ?_ (raiseLim_keeps _ _ _ _ _ _) (by decide))
    | (with_reducible show keepsBut _ _ (mChain _ _ _); with_reducible refine keepsBut_of ?_ (mChain_keeps _ _ _) (by decide))
    | with_reducible refine keepsBut_ite ?_ ?_
    | with_reducible refine keepsBut_doIf (fun _ => ?_) ?_
    | with_reducible refine keepsBut_each (fun _ _ => ?_) ?_
    | dsimp only [id]
    | split)

theorem cfpRecompute_keeps (s : State) : keepsBut [.lmp] s (cfpRecompute s) := by
  unfold cfpRecompute
  try dsimp only
  repeat' (first
    | with_reducible exact keepsBut_refl _ _
    | (with_reducible show keepsBut _ _ (mLmp _ _); with_reducible refine keepsBut_of ?_ (mLmp_keeps _ _) (by decide))
    | with_reducible refine keepsBut_ite ?_ ?_
    | with_reducible refine keepsBut_doIf (fun _ => ?_) ?_
    | with_reducible refine keepsBut_each (fun _ _ => ?_) ?_
    | dsimp only [id]
    | split)

theorem lampSwap_keeps (s : State) : keepsBut [.lmp] s (lampSwap s) := by
  unfold lampSwap
  try dsimp only
  repeat' (first
    | with_reducible exact keepsBut_refl _ _
    | (with_reducible show keepsBut _ _ (mLmp _ _); with_reducible refine keepsBut_of ?_ (mLmp_keeps _ _) (by decide))
    | with_reducible refine keepsBut_ite ?_ ?_
    | with_reducible refine keepsBut_doIf (fun _ => ?_) ?_
    | with_reducible refine keepsBut_each (fun _ _ => ?_) ?_
    | dsimp only [id]
    | split)

theorem scanStart_keeps (s : State) : keepsBut [.err, .lmp] s (scanStart s) := by
  unfold scanStart
  try dsimp only
  repeat' (first
    | with_reducible exact keepsBut_refl _ _
    | (with_reducible show keepsBut _ _ (mLmp _ _); with_reducible refine keepsBut_of ?_ (mLmp_keeps _ _) (by decide))
    | (with_reducible show keepsBut _ _ (emit _ _); with_reducible refine keepsBut_of ?_ (emit_keeps _ _) (by decide))
    | (with_reducible show keepsBut _ _ (swapRequest _); with_reducible refine keepsBut_of ?_ (swapRequest_keeps _) (by decide))
    | (with_reducible show keepsBut _ _ (lbusGo _); with_reducible refine keepsBut_of ?_ (lbusGo_keeps _) (by decide))
    | (with_reducible show keepsBut _ _ (lbusDue _ _); with_reducible refine keepsBut_of ?_ (lbusDue_keeps _ _) (by decide))
    | (with_reducible show keepsBut _ _ (cfpRecompute _); with_reducible refine keepsBut_of ?_ (cfpRecompute_keeps _) (by decide))
    | (with_reducible show keepsBut _ _ (lampSwap _); with_reducible refine keepsBut_of ?_ (lampSwap_keeps _) (by decide))
    | with_reducible refine keepsBut_ite ?_ ?_
    | with_reducible refine keepsBut_doIf (fun _ => ?_) ?_
    | with_reducible refine keepsBut_each (fun _ _ => ?_) ?_
    | dsimp only [id]
    | split)

theorem lbusEcho_keeps (n : Nat) (ret : Option (Nat × Bytes)) (s : State) : keepsBut [.err, .lmp] s (lbusEcho n ret s) := by
  unfold lbusEcho
  try dsimp only
  repeat' (first
    | with_reducible exact keepsBut_refl _ _
    | (with_reducible show keepsBut _ _ (mChain _ _ _); with_reducible refine keepsBut_of ?_ (mChain_keeps _ _ _) (by decide))
    | (with_reducible show keepsBut _ _ (lbusGo _); with_reducible refine keepsBut_of ?_ (lbusGo_keeps _) (by decide))
    | (with_reducible show keepsBut _ _ (faultErr _ _ _); with_reducible refine keepsBut_of ?_ (faultErr_keeps _ _ _) (by decide))
    | with_reducible refine keepsBut_ite ?_ ?_
    | with_reducible refine keepsBut_doIf (fun _ => ?_) ?_
    | with_reducible refine keepsBut_each (fun _ _ => ?_) ?_
    | dsimp only [id]
    | split)

theorem opLmpCmd_keeps (v : Word) (s : State) : keepsBut [.err, .lmp] s (opLmpCmd v s) := by
  unfold opLmpCmd
  try dsimp only
  repeat' (first
    | with_reducible exact keepsBut_refl _ _
    | (with_reducible show keepsBut _ _ (swapRequest _); with_reducible refine keepsBut_of ?_ (swapRequest_keeps _) (by decide))
    | with_reducible refine keepsBut_ite ?_ ?_
    | with_reducible refine keepsBut_doIf (fun _ => ?_) ?_
    | with_reducible refine keepsBut_each (fun _ _ => ?_) ?_
    | dsimp only [id]
    | split)

theorem opLbusGo_keeps (n : Nat) (v : Word) (s : State) : keepsBut [.lmp] s (opLbusGo n v s) := by
  unfold opLbusGo
  try dsimp only
  repeat' (first
    | with_reducible exact keepsBut_refl _ _
    | (with_reducible show keepsBut _ _ (mChain _ _ _); with_reducible refine keepsBut_of ?_ (mChain_keeps _ _ _) (by decide))
    | (with_reducible show keepsBut _ _ (lbusGo _); with_reducible refine keepsBut_of ?_ (lbusGo_keeps _) (by decide))
    | with_reducible refine keepsBut_ite ?_ ?_
    | with_reducible refine keepsBut_doIf (fun _ => ?_) ?_
    | with_reducible refine keepsBut_each (fun _ _ => ?_) ?_
    | dsimp only [id]
    | split)

theorem zoneStep_keeps (s : State) : keepsBut [.regs] s (zoneStep s) := by
  unfold zoneStep
  try dsimp only
  repeat' (first
    | with_reducible exact keepsBut_refl _ _
    | (with_reducible show keepsBut _ _ (setReg _ _ _); with_reducible refine keepsBut_of ?_ (setReg_keeps _ _ _) (by decide))
    | with_reducible refine keepsBut_ite ?_ ?_
    | with_reducible refine keepsBut_doIf (fun _ => ?_) ?_
    | with_reducible refine keepsBut_each (fun _ _ => ?_) ?_
    | dsimp only [id]
    | split)

theorem opLampZone_keeps (acc : Access) (s : State) : keepsBut [.regs, .lmp] s (opLampZone acc s) := by
  unfold opLampZone
  try dsimp only
  repeat' (first
    | with_reducible exact keepsBut_refl _ _
    | (with_reducible show keepsBut _ _ (mLmp _ _); with_reducible refine keepsBut_of ?_ (mLmp_keeps _ _) (by decide))
    | (with_reducible show keepsBut _ _ (zoneStep _); with_reducible refine keepsBut_of ?_ (zoneStep_keeps _) (by decide))
    | with_reducible refine keepsBut_ite ?_ ?_
    | with_reducible refine keepsBut_doIf (fun _ => ?_) ?_
    | with_reducible refine keepsBut_each (fun _ _ => ?_) ?_
    | dsimp only [id]
    | split)

theorem utblStep_keeps (s : State) : keepsBut [.regs] s (utblStep s) := by
  unfold utblStep
  try dsimp only
  repeat' (first
    | with_reducible exact keepsBut_refl _ _
    | (with_reducible show keepsBut _ _ (setReg _ _ _); with_reducible refine keepsBut_of ?_ (setReg_keeps _ _ _) (by decide))
    | with_reducible refine keepsBut_ite ?_ ?_
    | with_reducible refine keepsBut_doIf (fun _ => ?_) ?_
    | with_reducible refine keepsBut_each (fun _ _ => ?_) ?_
    | dsimp only [id]
    | split)

theorem opLampUtbl_keeps (acc : Access) (s : State) : keepsBut [.regs, .lmp] s (opLampUtbl acc s) := by
  unfold opLampUtbl
  try dsimp only
  repeat' (first
    | with_reducible exact keepsBut_refl _ _
    | (with_reducible show keepsBut _ _ (mLmp _ _); with_reducible refine keepsBut_of ?_ (mLmp_keeps _ _) (by decide))
    | (with_reducible show keepsBut _ _ (utblStep _); with_reducible refine keepsBut_of ?_ (utblStep_keeps _) (by decide))
    | with_reducible refine keepsBut_ite ?_ ?_
    | with_reducible refine keepsBut_doIf (fun _ => ?_) ?_
    | with_reducible refine keepsBut_each (fun _ _ => ?_) ?_
    | dsimp only [id]
    | split)

/-! Machine/Knot.lean -/

theorem knotStop_keeps (code : Nat) (args : List Nat) (pos : Int) (s : State) : keepsBut [.sys, .err, .mgt, .fir, .par] s (knotStop code args pos s) := by
  unfold knotStop
  try dsimp only
  repeat' (first
    | with_reducible exact keepsBut_refl _ _
    | (with_reducible show keepsBut _ _ (stopAt _ _); with_reducible refine keepsBut_of ?_ (stopAt_keeps _ _) (by decide))
    | (with_reducible show keepsBut _ _ (mFir _ _); with_reducible refine keepsBut_of ?_ (mFir_keeps _ _) (by decide))
    | (with_reducible show keepsBut _ _ (enterStopped _); with_reducible refine keepsBut_of ?_ (enterStopped_keeps _) (by decide))
    | (with_reducible show keepsBut _ _ (raise _ _ _ _); with_reducible refine keepsBut_of ?_ (raise_keeps _ _ _ _) (by decide))
    | with_reducible refine keepsBut_ite ?_ ?_
    | with_reducible refine keepsBut_doIf (fun _ => ?_) ?_
    | with_reducible refine keepsBut_each (fun _ _ => ?_) ?_
    | dsimp only [id]
    | split)

theorem knotGeo_keeps (pos : Int) (s : State) : keepsBut [.sys, .err, .mgt, .tow, .str, .pos, .fir, .gat, .par] s (knotGeo pos s) := by
  unfold knotGeo
  extract_lets old src g s1 s2 s3 chk s4 s5 s6
  have h1 : keepsBut [.sys, .err, .mgt, .tow, .str, .pos, .fir, .gat, .par] s s1 := keepsBut_of (keepsBut_refl _ s) (mFir_keeps _ s) (by decide)
  have h2 : keepsBut [.sys, .err, .mgt, .tow, .str, .pos, .fir, .gat, .par] s s2 := keepsBut_ite (keepsBut_of h1 (mPos_keeps _ _) (by decide)) h1
  have h3 : keepsBut [.sys, .err, .mgt, .tow, .str, .pos, .fir, .gat, .par] s s3 := by
    clear_value s2 g
    unfold s3
    split
    · exact keepsBut_ite h2 (keepsBut_of h2 (notice_keeps _ _ _) (by decide))
    · exact h2
  have h4 : keepsBut [.sys, .err, .mgt, .tow, .str, .pos, .fir, .gat, .par] s s4 := keepsBut_ite h3 (keepsBut_of h3 (knotStop_keeps _ _ _ _) (by decide))
  clear_value s4
  have h5 : keepsBut [.sys, .err, .mgt, .tow, .str, .pos, .fir, .gat, .par] s s5 := keepsBut_of h4 (fireRests_keeps _ _ _) (by decide)
  have h6 : keepsBut [.sys, .err, .mgt, .tow, .str, .pos, .fir, .gat, .par] s s6 := keepsBut_doIf (fun u => keepsBut_of (keepsBut_refl _ u) (reverseCheck_keeps u) (by decide)) h5
  clear_value s6
  split
  · exact h6
  · refine keepsBut_each (fun p u => keepsBut_ite (keepsBut_of (keepsBut_refl _ u) (geoSeek_keeps _ _ _ u) (by decide)) (keepsBut_refl _ u)) ?_
    refine keepsBut_of ?_ (gatesMeetGrid_keeps _ _) (by decide)
    exact keepsBut_each (fun p u => keepsBut_of (keepsBut_refl _ u) (mPort_keeps _ _ u) (by decide)) h6

theorem knotShuffle_keeps (pos : Int) (s : State) : keepsBut [.sys, .err, .mgt, .fir, .nzl, .par] s (knotShuffle pos s) := by
  unfold knotShuffle
  try dsimp only
  repeat' (first
    | with_reducible exact keepsBut_refl _ _
    | (with_reducible show keepsBut _ _ (mNzl _ _); with_reducible refine keepsBut_of ?_ (mNzl_keeps _ _) (by decide))
    | (with_reducible show keepsBut _ _ (knotStop _ _ _ _); with_reducible refine keepsBut_of ?_ (knotStop_keeps _ _ _ _) (by decide))
    | with_reducible refine keepsBut_ite ?_ ?_
    | with_reducible refine keepsBut_doIf (fun _ => ?_) ?_
    | with_reducible refine keepsBut_each (fun _ _ => ?_) ?_
    | dsimp only [id]
    | split)

theorem knotSpools_keeps (s : State) : keepsBut [.err, .str] s (knotSpools s) := by
  unfold knotSpools
  try dsimp only
  repeat' (first
    | with_reducible exact keepsBut_refl _ _
    | (with_reducible show keepsBut _ _ (notice _ _ _); with_reducible refine keepsBut_of ?_ (notice_keeps _ _ _) (by decide))
    | (with_reducible show keepsBut _ _ (applySched _ _); with_reducible refine keepsBut_of ?_ (applySched_keeps _ _) (by decide))
    | with_reducible refine keepsBut_ite ?_ ?_
    | with_reducible refine keepsBut_doIf (fun _ => ?_) ?_
    | with_reducible refine keepsBut_each (fun _ _ => ?_) ?_
    | dsimp only [id]
    | split)

theorem knotAxes_keeps (oldAct : WMap) (s : State) : keepsBut [.axs] s (knotAxes oldAct s) := by
  unfold knotAxes
  try dsimp only
  repeat' (first
    | with_reducible exact keepsBut_refl _ _
    | (with_reducible show keepsBut _ _ (mAxs _ _ _); with_reducible refine keepsBut_of ?_ (mAxs_keeps _ _ _) (by decide))
    | with_reducible refine keepsBut_ite ?_ ?_
    | with_reducible refine keepsBut_doIf (fun _ => ?_) ?_
    | with_reducible refine keepsBut_each (fun _ _ => ?_) ?_
    | dsimp only [id]
    | split)

theorem parDiverge_keeps (s : State) : keepsBut [.err, .par] s (parDiverge s) := by
  unfold parDiverge
  try dsimp only
  repeat' (first
    | with_reducible exact keepsBut_refl _ _
    | (with_reducible show keepsBut _ _ (mPar _ _); with_reducible refine keepsBut_of ?_ (mPar_keeps _ _) (by decide))
    | (with_reducible show keepsBut _ _ (faultErr _ _ _); with_reducible refine keepsBut_of ?_ (faultErr_keeps _ _ _) (by decide))
    | with_reducible refine keepsBut_ite ?_ ?_
    | with_reducible refine keepsBut_doIf (fun _ => ?_) ?_
    | with_reducible refine keepsBut_each (fun _ _ => ?_) ?_
    | dsimp only [id]
    | split)

theorem knotPair_keeps (s : State) : keepsBut [.err, .par] s (knotPair s) := by
  unfold knotPair
  try dsimp only
  repeat' (first
    | with_reducible exact keepsBut_refl _ _
    | (with_reducible show keepsBut _ _ (mPar _ _); with_reducible refine keepsBut_of ?_ (mPar_keeps _ _) (by decide))
    | (with_reducible show keepsBut _ _ (tetherSend _ _ _); with_reducible refine keepsBut_of ?_ (tetherSend_keeps _ _ _) (by decide))
    | (with_reducible show keepsBut _ _ (parDiverge _); with_reducible refine keepsBut_of ?_ (parDiverge_keeps _) (by decide))
    | with_reducible refine keepsBut_ite ?_ ?_
    | with_reducible refine keepsBut_doIf (fun _ => ?_) ?_
    | with_reducible refine keepsBut_each (fun _ _ => ?_) ?_
    | dsimp only [id]
    | split)

theorem takeKnot_keeps (pos : Int) (s : State) : keepsBut [.act, .sys, .err, .mgt, .tow, .str, .pos, .fir, .stg, .nzl, .gat, .gul, .insp, .mem, .axs, .lmp, .par] s (takeKnot pos s) := by
  unfold takeKnot
  try dsimp only
  repeat' (first
    | with_reducible exact keepsBut_refl _ _
    | (with_reducible show keepsBut _ _ (mSys _ _); with_reducible refine keepsBut_of ?_ (mSys_keeps _ _) (by decide))
    | (with_reducible show keepsBut _ _ (knotShuffle _ _); with_reducible refine keepsBut_of ?_ (knotShuffle_keeps _ _) (by decide))
    | (with_reducible show keepsBut _ _ (knotGeo _ _); with_reducible refine keepsBut_of ?_ (knotGeo_keeps _ _) (by decide))
    | (with_reducible show keepsBut _ _ (evalDetours _); with_reducible refine keepsBut_of ?_ (evalDetours_keeps _) (by decide))
    | (with_reducible show keepsBut _ _ (knotSpools _); with_reducible refine keepsBut_of ?_ (knotSpools_keeps _) (by decide))
    | (with_reducible show keepsBut _ _ (lampKnot _); with_reducible refine keepsBut_of ?_ (lampKnot_keeps _) (by decide))
    | (with_reducible show keepsBut _ _ (knotAxes _ _); with_reducible refine keepsBut_of ?_ (knotAxes_keeps _ _) (by decide))
    | (with_reducible show keepsBut _ _ (capKnot _); with_reducible refine keepsBut_of ?_ (capKnot_keeps _) (by decide))
    | (with_reducible show keepsBut _ _ (camKnot _ _ _ _); with_reducible refine keepsBut_of ?_ (camKnot_keeps _ _ _ _) (by decide))
    | (with_reducible show keepsBut _ _ (updateMargins _); with_reducible refine keepsBut_of ?_ (updateMargins_keeps _) (by decide))
    | (with_reducible show keepsBut _ _ (strandSync _); with_reducible refine keepsBut_of ?_ (strandSync_keeps _) (by decide))
    | (with_reducible show keepsBut _ _ (knotPair _); with_reducible refine keepsBut_of ?_ (knotPair_keeps _) (by decide))
    | with_reducible refine keepsBut_ite ?_ ?_
    | with_reducible refine keepsBut_doIf (fun _ => ?_) ?_
    | with_reducible refine keepsBut_each (fun _ _ => ?_) ?_
    | dsimp only [id]
    | split
    | (intro p hp; cases p <;> first | exact absurd (by decide) hp | rfl))

theorem knotAwait_keeps (rc : Int) (s : State) : keepsBut [.sys, .err] s (knotAwait rc s) := by
  unfold knotAwait
  try dsimp only
  repeat' (first
    | with_reducible exact keepsBut_refl _ _
    | (with_reducible show keepsBut _ _ (mSys _ _); with_reducible refine keepsBut_of ?_ (mSys_keeps _ _) (by decide))
    | (with_reducible show keepsBut _ _ (notice _ _ _); with_reducible refine keepsBut_of ?_ (notice_keeps _ _ _) (by decide))
    | (with_reducible show keepsBut _ _ (knotReach _); with_reducible refine keepsBut_of ?_ (knotReach_keeps _) (by decide))
    | with_reducible refine keepsBut_ite ?_ ?_
    | with_reducible refine keepsBut_doIf (fun _ => ?_) ?_
    | with_reducible refine keepsBut_each (fun _ _ => ?_) ?_
    | dsimp only [id]
    | split)

theorem knotNow_keeps (s : State) : keepsBut [.sys, .err, .par] s (knotNow s) := by
  unfold knotNow
  try dsimp only
  repeat' (first
    | with_reducible exact keepsBut_refl _ _
    | (with_reducible show keepsBut _ _ (mSys _ _); with_reducible refine keepsBut_of ?_ (mSys_keeps _ _) (by decide))
    | (with_reducible show keepsBut _ _ (sendKnotReq _ _ _ _); with_reducible refine keepsBut_of ?_ (sendKnotReq_keeps _ _ _ _) (by decide))
    | (with_reducible show keepsBut _ _ (knotReach _); with_reducible refine keepsBut_of ?_ (knotReach_keeps _) (by decide))
    | (with_reducible show keepsBut _ _ (knotAwait _ _); with_reducible refine keepsBut_of ?_ (knotAwait_keeps _ _) (by decide))
    | with_reducible refine keepsBut_ite ?_ ?_
    | with_reducible refine keepsBut_doIf (fun _ => ?_) ?_
    | with_reducible refine keepsBut_each (fun _ _ => ?_) ?_
    | dsimp only [id]
    | split)

theorem knotMs_keeps (i : Nat) (s : State) : keepsBut [.sys, .err, .par] s (knotMs i s) := by
  unfold knotMs
  try dsimp only
  repeat' (first
    | with_reducible exact keepsBut_refl _ _
    | (with_reducible show keepsBut _ _ (mSys _ _); with_reducible refine keepsBut_of ?_ (mSys_keeps _ _) (by decide))
    | (with_reducible show keepsBut _ _ (notice _ _ _); with_reducible refine keepsBut_of ?_ (notice_keeps _ _ _) (by decide))
    | (with_reducible show keepsBut _ _ (sendKnotReq _ _ _ _); with_reducible refine keepsBut_of ?_ (sendKnotReq_keeps _ _ _ _) (by decide))
    | with_reducible refine keepsBut_ite ?_ ?_
    | with_reducible refine keepsBut_doIf (fun _ => ?_) ?_
    | with_reducible refine keepsBut_each (fun _ _ => ?_) ?_
    | dsimp only [id]
    | split)

theorem opKnot_keeps (v : Word) (s : State) : keepsBut [.sys, .err, .par] s (opKnot v s).1 := by
  unfold opKnot
  try dsimp only
  repeat' (first
    | with_reducible exact keepsBut_refl _ _
    | (with_reducible show keepsBut _ _ (notice _ _ _); with_reducible refine keepsBut_of ?_ (notice_keeps _ _ _) (by decide))
    | (with_reducible show keepsBut _ _ (sendKnotReq _ _ _ _); with_reducible refine keepsBut_of ?_ (sendKnotReq_keeps _ _ _ _) (by decide))
    | (with_reducible show keepsBut _ _ (knotWithdraw _); with_reducible refine keepsBut_of ?_ (knotWithdraw_keeps _) (by decide))
    | (with_reducible show keepsBut _ _ (knotAwait _ _); with_reducible refine keepsBut_of ?_ (knotAwait_keeps _ _) (by decide))
    | (with_reducible show keepsBut _ _ (knotNow _); with_reducible refine keepsBut_of ?_ (knotNow_keeps _) (by decide))
    | (with_reducible show keepsBut _ _ (knotMs _ _); with_reducible refine keepsBut_of ?_ (knotMs_keeps _ _) (by decide))
    | with_reducible refine keepsBut_ite ?_ ?_
    | with_reducible refine keepsBut_doIf (fun _ => ?_) ?_
    | with_reducible refine keepsBut_each (fun _ _ => ?_) ?_
    | dsimp only [id]
    | split)

theorem msRearm_keeps (i : Nat) (rev : Bool) (s : State) : keepsBut [.err, .mil] s (msRearm i rev s) := by
  unfold msRearm
  try dsimp only
  repeat' (first
    | with_reducible exact keepsBut_refl _ _
    | (with_reducible show keepsBut _ _ (mMs _ _ _); with_reducible refine keepsBut_of ?_ (mMs_keeps _ _ _) (by decide))
    | (with_reducible show keepsBut _ _ (notice _ _ _); with_reducible refine keepsBut_of ?_ (notice_keeps _ _ _) (by decide))
    | with_reducible refine keepsBut_ite ?_ ?_
    | with_reducible refine keepsBut_doIf (fun _ => ?_) ?_
    | with_reducible refine keepsBut_each (fun _ _ => ?_) ?_
    | dsimp only [id]
    | split)

theorem msPulses_keeps (i : Nat) (s : State) : keepsBut [.mil] s (msPulses i s) := by
  unfold msPulses
  try dsimp only
  repeat' (first
    | with_reducible exact keepsBut_refl _ _
    | (with_reducible show keepsBut _ _ (pulseSet _ _ _); with_reducible refine keepsBut_of ?_ (pulseSet_keeps _ _ _) (by decide))
    | with_reducible refine keepsBut_ite ?_ ?_
    | with_reducible refine keepsBut_doIf (fun _ => ?_) ?_
    | with_reducible refine keepsBut_each (fun _ _ => ?_) ?_
    | dsimp only [id]
    | split)

theorem msForeign_keeps (i : Nat) (s : State) : keepsBut [.sys, .err] s (msForeign i s) := by
  unfold msForeign
  try dsimp only
  repeat' (first
    | with_reducible exact keepsBut_refl _ _
    | (with_reducible show keepsBut _ _ (notice _ _ _); with_reducible refine keepsBut_of ?_ (notice_keeps _ _ _) (by decide))
    | (with_reducible show keepsBut _ _ (knotWithdraw _); with_reducible refine keepsBut_of ?_ (knotWithdraw_keeps _) (by decide))
    | with_reducible refine keepsBut_ite ?_ ?_
    | with_reducible refine keepsBut_doIf (fun _ => ?_) ?_
    | with_reducible refine keepsBut_each (fun _ _ => ?_) ?_
    | dsimp only [id]
    | split)

theorem msFire_keeps (i : Nat) (ev : Int) (rev : Bool) (s : State) : keepsBut [.act, .sys, .err, .net, .mgt, .tow, .cmp, .str, .pos, .mil, .fir, .stg, .nzl, .gat, .gul, .insp, .mem, .axs, .lmp, .par, .cal] s (msFire i ev rev s) := by
  unfold msFire
  try dsimp only
  repeat' (first
    | with_reducible exact keepsBut_refl _ _
    | (with_reducible show keepsBut _ _ (mMil _ _); with_reducible refine keepsBut_of ?_ (mMil_keeps _ _) (by decide))
    | (with_reducible show keepsBut _ _ (mMs _ _ _); with_reducible refine keepsBut_of ?_ (mMs_keeps _ _ _) (by decide))
    | (with_reducible show keepsBut _ _ (msRearm _ _ _); with_reducible refine keepsBut_of ?_ (msRearm_keeps _ _ _) (by decide))
    | (with_reducible show keepsBut _ _ (takeKnot _ _); with_reducible refine keepsBut_of ?_ (takeKnot_keeps _ _) (by decide))
    | (with_reducible show keepsBut _ _ (msForeign _ _); with_reducible refine keepsBut_of ?_ (msForeign_keeps _ _) (by decide))
    | (with_reducible show keepsBut _ _ (camTrigger _ _ _ _); with_reducible refine keepsBut_of ?_ (camTrigger_keeps _ _ _ _) (by decide))
    | (with_reducible show keepsBut _ _ (queueFire _ _ _); with_reducible refine keepsBut_of ?_ (queueFire_keeps _ _ _) (by decide))
    | (with_reducible show keepsBut _ _ (msLater _ _); with_reducible refine keepsBut_of ?_ (msLater_keeps _ _) (by decide))
    | (with_reducible show keepsBut _ _ (msPulses _ _); with_reducible refine keepsBut_of ?_ (msPulses_keeps _ _) (by decide))
    | (with_reducible show keepsBut _ _ (gatesMilestone _ _); with_reducible refine keepsBut_of ?_ (gatesMilestone_keeps _ _) (by decide))
    | (with_reducible show keepsBut _ _ (lampMilestone _ _); with_reducible refine keepsBut_of ?_ (lampMilestone_keeps _ _) (by decide))
    | with_reducible refine keepsBut_ite ?_ ?_
    | with_reducible refine keepsBut_doIf (fun _ => ?_) ?_
    | with_reducible refine keepsBut_each (fun _ _ => ?_) ?_
    | dsimp only [id]
    | split)

/-! Machine/Pairing.lean -/

theorem copyNext_keeps (s : State) : keepsBut [.par] s (copyNext s) := by
  unfold copyNext
  try dsimp only
  repeat' (first
    | with_reducible exact keepsBut_refl _ _
    | (with_reducible show keepsBut _ _ (mPar _ _); with_reducible refine keepsBut_of ?_ (mPar_keeps _ _) (by decide))
    | (with_reducible show keepsBut _ _ (tetherSend _ _ _); with_reducible refine keepsBut_of ?_ (tetherSend_keeps _ _ _) (by decide))
    | with_reducible refine keepsBut_ite ?_ ?_
    | with_reducible refine keepsBut_doIf (fun _ => ?_) ?_
    | with_reducible refine keepsBut_each (fun _ _ => ?_) ?_
    | dsimp only [id]
    | split)

theorem copyPump_keeps (s : State) : keepsBut [.par] s (copyPump s) := by
  unfold copyPump
  try dsimp only
  repeat' (first
    | with_reducible exact keepsBut_refl _ _
    | (with_reducible show keepsBut _ _ (mPar _ _); with_reducible refine keepsBut_of ?_ (mPar_keeps _ _) (by decide))
    | (with_reducible show keepsBut _ _ (copyNext _); with_reducible refine keepsBut_of ?_ (copyNext_keeps _) (by decide))
    | with_reducible refine keepsBut_ite ?_ ?_
    | with_reducible refine keepsBut_doIf (fun _ => ?_) ?_
    | with_reducible refine keepsBut_each (fun _ _ => ?_) ?_
    | dsimp only [id]
    | split)

theorem hbSend_keeps (s : State) : keepsBut [.par] s (hbSend s) := by
  unfold hbSend
  try dsimp only
  repeat' (first
    | with_reducible exact keepsBut_refl _ _
    | (with_reducible show keepsBut _ _ (emit _ _); with_reducible refine keepsBut_of ?_ (emit_keeps _ _) (by decide))
    | (with_reducible show keepsBut _ _ (copyPump _); with_reducible refine keepsBut_of ?_ (copyPump_keeps _) (by decide))
    | with_reducible refine keepsBut_ite ?_ ?_
    | with_reducible refine keepsBut_doIf (fun _ => ?_) ?_
    | with_reducible refine keepsBut_each (fun _ _ => ?_) ?_
    | dsimp only [id]
    | split)

theorem netHbSend_keeps (s : State) : keepsBut [.net, .par] s (netHbSend s) := by
  unfold netHbSend
  try dsimp only
  repeat' (first
    | with_reducible exact keepsBut_refl _ _
    | (with_reducible show keepsBut _ _ (mPar _ _); with_reducible refine keepsBut_of ?_ (mPar_keeps _ _) (by decide))
    | (with_reducible show keepsBut _ _ (sendVia _ _ _ _ _ _); with_reducible refine keepsBut_of ?_ (sendVia_keeps _ _ _ _ _ _) (by decide))
    | with_reducible refine keepsBut_ite ?_ ?_
    | with_reducible refine keepsBut_doIf (fun _ => ?_) ?_
    | with_reducible refine keepsBut_each (fun _ _ => ?_) ?_
    | dsimp only [id]
    | split)

theorem hbTake_keeps (flags role st spl : Nat) (s : State) : keepsBut [.err, .par] s (hbTake flags role st spl s) := by
  unfold hbTake
  try dsimp only
  repeat' (first
    | with_reducible exact keepsBut_refl _ _
    | (with_reducible show keepsBut _ _ (mPar _ _); with_reducible refine keepsBut_of ?_ (mPar_keeps _ _) (by decide))
    | (with_reducible show keepsBut _ _ (spliceTry _ _); with_reducible refine keepsBut_of ?_ (spliceTry_keeps _ _) (by decide))
    | with_reducible refine keepsBut_ite ?_ ?_
    | with_reducible refine keepsBut_doIf (fun _ => ?_) ?_
    | with_reducible refine keepsBut_each (fun _ _ => ?_) ?_
    | dsimp only [id]
    | split)

theorem pathBack_keeps (k : Nat) (s : State) : keepsBut [.err] s (pathBack k s) := by
  unfold pathBack
  try dsimp only
  repeat' (first
    | with_reducible exact keepsBut_refl _ _
    | (with_reducible show keepsBut _ _ (endFault _ _ _); with_reducible refine keepsBut_of ?_ (endFault_keeps _ _ _) (by decide))
    | with_reducible refine keepsBut_ite ?_ ?_
    | with_reducible refine keepsBut_doIf (fun _ => ?_) ?_
    | with_reducible refine keepsBut_each (fun _ _ => ?_) ?_
    | dsimp only [id]
    | split)

theorem tethAcked_keeps (q : Nat) (s : State) : keepsBut [.par] s (tethAcked q s) := by
  unfold tethAcked
  try dsimp only
  repeat' (first
    | with_reducible exact keepsBut_refl _ _
    | (with_reducible show keepsBut _ _ (mPar _ _); with_reducible refine keepsBut_of ?_ (mPar_keeps _ _) (by decide))
    | with_reducible refine keepsBut_ite ?_ ?_
    | with_reducible refine keepsBut_doIf (fun _ => ?_) ?_
    | with_reducible refine keepsBut_each (fun _ _ => ?_) ?_
    | dsimp only [id]
    | split)

theorem lineCompare_keeps (lc : Nat) (dig : Word) (s : State) : keepsBut [.err, .par] s (lineCompare lc dig s) := by
  unfold lineCompare
  try dsimp only
  repeat' (first
    | with_reducible exact keepsBut_refl _ _
    | (with_reducible show keepsBut _ _ (parDiverge _); with_reducible refine keepsBut_of ?_ (parDiverge_keeps _) (by decide))
    | with_reducible refine keepsBut_ite ?_ ?_
    | with_reducible refine keepsBut_doIf (fun _ => ?_) ?_
    | with_reducible refine keepsBut_each (fun _ _ => ?_) ?_
    | dsimp only [id]
    | split)

theorem tethHb_keeps (b : Bytes) (s : State) : keepsBut [.err, .par] s (tethHb b s) := by
  unfold tethHb
  try dsimp only
  repeat' (first
    | with_reducible exact keepsBut_refl _ _
    | (with_reducible show keepsBut _ _ (mPar _ _); with_reducible refine keepsBut_of ?_ (mPar_keeps _ _) (by decide))
    | (with_reducible show keepsBut _ _ (hbTake _ _ _ _ _); with_reducible refine keepsBut_of ?_ (hbTake_keeps _ _ _ _ _) (by decide))
    | (with_reducible show keepsBut _ _ (pathBack _ _); with_reducible refine keepsBut_of ?_ (pathBack_keeps _ _) (by decide))
    | (with_reducible show keepsBut _ _ (tethAcked _ _); with_reducible refine keepsBut_of ?_ (tethAcked_keeps _ _) (by decide))
    | (with_reducible show keepsBut _ _ (lineCompare _ _ _); with_reducible refine keepsBut_of ?_ (lineCompare_keeps _ _ _) (by decide))
    | with_reducible refine keepsBut_ite ?_ ?_
    | with_reducible refine keepsBut_doIf (fun _ => ?_) ?_
    | with_reducible refine keepsBut_each (fun _ _ => ?_) ?_
    | dsimp only [id]
    | split)

theorem tethRx_keeps {qs : List Part} {eff : Bytes → State → State} (hq : ∀ p ∈ ([.par] : List Part), p ∈ qs) (h_eff : ∀ a0 u, keepsBut qs u (eff a0 u)) (len : Nat) (f : Bytes) (s : State) : keepsBut qs s (tethRx len f eff s) := by
  unfold tethRx
  try dsimp only
  repeat' (first
    | with_reducible exact keepsBut_refl _ _
    | (with_reducible show keepsBut _ _ (mPar _ _); with_reducible refine keepsBut_of ?_ (mPar_keeps _ _) (fun p m => hq p ((by decide : ∀ p ∈ _, p ∈ ([.par] : List Part)) p m)))
    | (with_reducible show keepsBut _ _ (tethDrop _); with_reducible refine keepsBut_of ?_ (tethDrop_keeps _) (fun p m => hq p ((by decide : ∀ p ∈ _, p ∈ ([.par] : List Part)) p m)))
    | (with_reducible show keepsBut _ _ (eff _ _); with_reducible refine keepsBut_of ?_ (h_eff _ _) (fun _ m => m))
    | with_reducible refine keepsBut_ite ?_ ?_
    | with_reducible refine keepsBut_doIf (fun _ => ?_) ?_
    | with_reducible refine keepsBut_each (fun _ _ => ?_) ?_
    | dsimp only [id]
    | split)

theorem tethHbRx_keeps (f : Bytes) (s : State) : keepsBut [.err, .par] s (tethHbRx f s) := by
  unfold tethHbRx
  try dsimp only
  repeat' (first
    | with_reducible exact keepsBut_refl _ _
    | (with_reducible show keepsBut _ _ (tethDrop _); with_reducible refine keepsBut_of ?_ (tethDrop_keeps _) (by decide))
    | (with_reducible show keepsBut _ _ (tethHb _ _); with_reducible refine keepsBut_of ?_ (tethHb_keeps _ _) (by decide))
    | with_reducible refine keepsBut_ite ?_ ?_
    | with_reducible refine keepsBut_doIf (fun _ => ?_) ?_
    | with_reducible refine keepsBut_each (fun _ _ => ?_) ?_
    | dsimp only [id]
    | split)

theorem netHbRx_keeps (d : Bytes) (s : State) : keepsBut [.err, .par] s (netHbRx d s) := by
  unfold netHbRx
  try dsimp only
  repeat' (first
    | with_reducible exact keepsBut_refl _ _
    | (with_reducible show keepsBut _ _ (mPar _ _); with_reducible refine keepsBut_of ?_ (mPar_keeps _ _) (by decide))
    | (with_reducible show keepsBut _ _ (hbTake _ _ _ _ _); with_reducible refine keepsBut_of ?_ (hbTake_keeps _ _ _ _ _) (by decide))
    | (with_reducible show keepsBut _ _ (pathBack _ _); with_reducible refine keepsBut_of ?_ (pathBack_keeps _ _) (by decide))
    | with_reducible refine keepsBut_ite ?_ ?_
    | with_reducible refine keepsBut_doIf (fun _ => ?_) ?_
    | with_reducible refine keepsBut_each (fun _ _ => ?_) ?_
    | dsimp only [id]
    | split)

theorem pathMissed_keeps (k : Nat) (otherMissed : Bool) (s : State) : keepsBut [.err, .par] s (pathMissed k otherMissed s) := by
  unfold pathMissed
  try dsimp only
  repeat' (first
    | with_reducible exact keepsBut_refl _ _
    | (with_reducible show keepsBut _ _ (faultErr _ _ _); with_reducible refine keepsBut_of ?_ (faultErr_keeps _ _ _) (by decide))
    | (with_reducible show keepsBut _ _ (spliceTry _ _); with_reducible refine keepsBut_of ?_ (spliceTry_keeps _ _) (by decide))
    | with_reducible refine keepsBut_ite ?_ ?_
    | with_reducible refine keepsBut_doIf (fun _ => ?_) ?_
    | with_reducible refine keepsBut_each (fun _ _ => ?_) ?_
    | dsimp only [id]
    | split)

theorem tethNozzle_keeps (noz : Nat) (e : BitVec 64) (lc : Nat) (s : State) : keepsBut [.free, .err, .tow, .fir, .nzl, .gat, .mem, .par] s (tethNozzle noz e lc s) := by
  unfold tethNozzle
  try dsimp only
  repeat' (first
    | with_reducible exact keepsBut_refl _ _
    | (with_reducible show keepsBut _ _ (mPar _ _); with_reducible refine keepsBut_of ?_ (mPar_keeps _ _) (by decide))
    | (with_reducible show keepsBut _ _ (faultErr _ _ _); with_reducible refine keepsBut_of ?_ (faultErr_keeps _ _ _) (by decide))
    | (with_reducible show keepsBut _ _ (nzSubmit _ _); with_reducible refine keepsBut_of ?_ (nzSubmit_keeps _ _) (by decide))
    | with_reducible refine keepsBut_ite ?_ ?_
    | with_reducible refine keepsBut_doIf (fun _ => ?_) ?_
    | with_reducible refine keepsBut_each (fun _ _ => ?_) ?_
    | dsimp only [id]
    | split)

theorem tethNzlBody_keeps (b : Bytes) (s : State) : keepsBut [.free, .err, .tow, .fir, .nzl, .gat, .mem, .par] s (tethNzlBody b s) := by
  unfold tethNzlBody
  try dsimp only
  repeat' (first
    | with_reducible exact keepsBut_refl _ _
    | (with_reducible show keepsBut _ _ (mPar _ _); with_reducible refine keepsBut_of ?_ (mPar_keeps _ _) (by decide))
    | (with_reducible show keepsBut _ _ (tethNozzle _ _ _ _); with_reducible refine keepsBut_of ?_ (tethNozzle_keeps _ _ _ _) (by decide))
    | with_reducible refine keepsBut_ite ?_ ?_
    | with_reducible refine keepsBut_doIf (fun _ => ?_) ?_
    | with_reducible refine keepsBut_each (fun _ _ => ?_) ?_
    | dsimp only [id]
    | split)

theorem tethRoad_keeps (rc : Int) (s : State) : keepsBut [.sys, .err, .par] s (tethRoad rc s) := by
  unfold tethRoad
  try dsimp only
  repeat' (first
    | with_reducible exact keepsBut_refl _ _
    | (with_reducible show keepsBut _ _ (mSys _ _); with_reducible refine keepsBut_of ?_ (mSys_keeps _ _) (by decide))
    | (with_reducible show keepsBut _ _ (mPar _ _); with_reducible refine keepsBut_of ?_ (mPar_keeps _ _) (by decide))
    | (with_reducible show keepsBut _ _ (faultErr _ _ _); with_reducible refine keepsBut_of ?_ (faultErr_keeps _ _ _) (by decide))
    | (with_reducible show keepsBut _ _ (knotReach _); with_reducible refine keepsBut_of ?_ (knotReach_keeps _) (by decide))
    | with_reducible refine keepsBut_ite ?_ ?_
    | with_reducible refine keepsBut_doIf (fun _ => ?_) ?_
    | with_reducible refine keepsBut_each (fun _ _ => ?_) ?_
    | dsimp only [id]
    | split)

theorem tethKnotBody_keeps (b : Bytes) (s : State) : keepsBut [.sys, .err, .par] s (tethKnotBody b s) := by
  unfold tethKnotBody
  try dsimp only
  repeat' (first
    | with_reducible exact keepsBut_refl _ _
    | (with_reducible show keepsBut _ _ (knotWithdraw _); with_reducible refine keepsBut_of ?_ (knotWithdraw_keeps _) (by decide))
    | (with_reducible show keepsBut _ _ (knotMs _ _); with_reducible refine keepsBut_of ?_ (knotMs_keeps _ _) (by decide))
    | (with_reducible show keepsBut _ _ (tethDrop _); with_reducible refine keepsBut_of ?_ (tethDrop_keeps _) (by decide))
    | (with_reducible show keepsBut _ _ (tethRoad _ _); with_reducible refine keepsBut_of ?_ (tethRoad_keeps _ _) (by decide))
    | with_reducible refine keepsBut_ite ?_ ?_
    | with_reducible refine keepsBut_doIf (fun _ => ?_) ?_
    | with_reducible refine keepsBut_each (fun _ _ => ?_) ?_
    | dsimp only [id]
    | split)

theorem tethDoneBody_keeps (b : Bytes) (s : State) : keepsBut [.err, .par] s (tethDoneBody b s) := by
  unfold tethDoneBody
  try dsimp only
  repeat' (first
    | with_reducible exact keepsBut_refl _ _
    | (with_reducible show keepsBut _ _ (mPar _ _); with_reducible refine keepsBut_of ?_ (mPar_keeps _ _) (by decide))
    | (with_reducible show keepsBut _ _ (parDiverge _); with_reducible refine keepsBut_of ?_ (parDiverge_keeps _) (by decide))
    | with_reducible refine keepsBut_ite ?_ ?_
    | with_reducible refine keepsBut_doIf (fun _ => ?_) ?_
    | with_reducible refine keepsBut_each (fun _ _ => ?_) ?_
    | dsimp only [id]
    | split)

theorem tethStateBody_keeps (b : Bytes) (s : State) : keepsBut [.free, .sys, .err, .mgt, .tow, .str, .fir, .nzl, .gat, .mem, .par] s (tethStateBody b s) := by
  unfold tethStateBody
  try dsimp only
  repeat' (first
    | with_reducible exact keepsBut_refl _ _
    | (with_reducible show keepsBut _ _ (ctlAt _ _ _); with_reducible refine keepsBut_of ?_ (ctlAt_keeps _ _ _) (by decide))
    | (with_reducible show keepsBut _ _ (tethDrop _); with_reducible refine keepsBut_of ?_ (tethDrop_keeps _) (by decide))
    | with_reducible refine keepsBut_ite ?_ ?_
    | with_reducible refine keepsBut_doIf (fun _ => ?_) ?_
    | with_reducible refine keepsBut_each (fun _ _ => ?_) ?_
    | dsimp only [id]
    | split)

theorem tethYieldBody_keeps (b : Bytes) (s : State) : keepsBut [.err, .par] s (tethYieldBody b s) := by
  unfold tethYieldBody
  try dsimp only
  repeat' (first
    | with_reducible exact keepsBut_refl _ _
    | (with_reducible show keepsBut _ _ (mPar _ _); with_reducible refine keepsBut_of ?_ (mPar_keeps _ _) (by decide))
    | (with_reducible show keepsBut _ _ (spliceTry _ _); with_reducible refine keepsBut_of ?_ (spliceTry_keeps _ _) (by decide))
    | with_reducible refine keepsBut_ite ?_ ?_
    | with_reducible refine keepsBut_doIf (fun _ => ?_) ?_
    | with_reducible refine keepsBut_each (fun _ _ => ?_) ?_
    | dsimp only [id]
    | split)

theorem tethBulkBody_keeps (b : Bytes) (s : State) : keepsBut [.free, .err, .tow, .fir, .nzl, .gat, .mem, .par] s (tethBulkBody b s) := by
  unfold tethBulkBody
  try dsimp only
  repeat' (first
    | with_reducible exact keepsBut_refl _ _
    | (with_reducible show keepsBut _ _ (mPar _ _); with_reducible refine keepsBut_of ?_ (mPar_keeps _ _) (by decide))
    | (with_reducible show keepsBut _ _ (bankPut _ _ _ _); with_reducible refine keepsBut_of ?_ (bankPut_keeps _ _ _ _) (by decide))
    | (with_reducible show keepsBut _ _ (evalDetours _); with_reducible refine keepsBut_of ?_ (evalDetours_keeps _) (by decide))
    | (with_reducible show keepsBut _ _ (tethDrop _); with_reducible refine keepsBut_of ?_ (tethDrop_keeps _) (by decide))
    | (with_reducible show keepsBut _ _ (tethNozzle _ _ _ _); with_reducible refine keepsBut_of ?_ (tethNozzle_keeps _ _ _ _) (by decide))
    | with_reducible refine keepsBut_ite ?_ ?_
    | with_reducible refine keepsBut_doIf (fun _ => ?_) ?_
    | with_reducible refine keepsBut_each (fun _ _ => ?_) ?_
    | dsimp only [id]
    | split)

theorem tethResend_keeps (s : State) : keepsBut [.par] s (tethResend s) := by
  unfold tethResend
  try dsimp only
  repeat' (first
    | with_reducible exact keepsBut_refl _ _
    | (with_reducible show keepsBut _ _ (mPar _ _); with_reducible refine keepsBut_of ?_ (mPar_keeps _ _) (by decide))
    | (with_reducible show keepsBut _ _ (emit _ _); with_reducible refine keepsBut_of ?_ (emit_keeps _ _) (by decide))
    | with_reducible refine keepsBut_ite ?_ ?_
    | with_reducible refine keepsBut_doIf (fun _ => ?_) ?_
    | with_reducible refine keepsBut_each (fun _ _ => ?_) ?_
    | dsimp only [id]
    | split)

theorem tethResync_keeps (s : State) : keepsBut [.err, .par] s (tethResync s) := by
  unfold tethResync
  try dsimp only
  repeat' (first
    | with_reducible exact keepsBut_refl _ _
    | (with_reducible show keepsBut _ _ (mPar _ _); with_reducible refine keepsBut_of ?_ (mPar_keeps _ _) (by decide))
    | (with_reducible show keepsBut _ _ (notice _ _ _); with_reducible refine keepsBut_of ?_ (notice_keeps _ _ _) (by decide))
    | (with_reducible show keepsBut _ _ (tethTrain _ _ _); with_reducible refine keepsBut_of ?_ (tethTrain_keeps _ _ _) (by decide))
    | with_reducible refine keepsBut_ite ?_ ?_
    | with_reducible refine keepsBut_doIf (fun _ => ?_) ?_
    | with_reducible refine keepsBut_each (fun _ _ => ?_) ?_
    | dsimp only [id]
    | split)

theorem hitchInOn_keeps (s : State) : keepsBut [.err, .par] s (hitchInOn s) := by
  unfold hitchInOn
  try dsimp only
  repeat' (first
    | with_reducible exact keepsBut_refl _ _
    | (with_reducible show keepsBut _ _ (mPar _ _); with_reducible refine keepsBut_of ?_ (mPar_keeps _ _) (by decide))
    | (with_reducible show keepsBut _ _ (hitchRelease _); with_reducible refine keepsBut_of ?_ (hitchRelease_keeps _) (by decide))
    | (with_reducible show keepsBut _ _ (advicePins _); with_reducible refine keepsBut_of ?_ (advicePins_keeps _) (by decide))
    | (with_reducible show keepsBut _ _ (notice _ _ _); with_reducible refine keepsBut_of ?_ (notice_keeps _ _ _) (by decide))
    | (with_reducible show keepsBut _ _ (faultErr _ _ _); with_reducible refine keepsBut_of ?_ (faultErr_keeps _ _ _) (by decide))
    | with_reducible refine keepsBut_ite ?_ ?_
    | with_reducible refine keepsBut_doIf (fun _ => ?_) ?_
    | with_reducible refine keepsBut_each (fun _ _ => ?_) ?_
    | dsimp only [id]
    | split)

theorem hitchInOff_keeps (s : State) : keepsBut [.err, .par] s (hitchInOff s) := by
  unfold hitchInOff
  try dsimp only
  repeat' (first
    | with_reducible exact keepsBut_refl _ _
    | (with_reducible show keepsBut _ _ (mPar _ _); with_reducible refine keepsBut_of ?_ (mPar_keeps _ _) (by decide))
    | (with_reducible show keepsBut _ _ (spliceTry _ _); with_reducible refine keepsBut_of ?_ (spliceTry_keeps _ _) (by decide))
    | with_reducible refine keepsBut_ite ?_ ?_
    | with_reducible refine keepsBut_doIf (fun _ => ?_) ?_
    | with_reducible refine keepsBut_each (fun _ _ => ?_) ?_
    | dsimp only [id]
    | split)

theorem spliceNow_keeps (code : Nat) (s : State) : keepsBut [.err, .par] s (spliceNow code s) := by
  unfold spliceNow
  try dsimp only
  repeat' (first
    | with_reducible exact keepsBut_refl _ _
    | (with_reducible show keepsBut _ _ (hitchAssert _); with_reducible refine keepsBut_of ?_ (hitchAssert_keeps _) (by decide))
    | (with_reducible show keepsBut _ _ (mPar _ _); with_reducible refine keepsBut_of ?_ (mPar_keeps _ _) (by decide))
    | (with_reducible show keepsBut _ _ (notice _ _ _); with_reducible refine keepsBut_of ?_ (notice_keeps _ _ _) (by decide))
    | (with_reducible show keepsBut _ _ (advicePins _); with_reducible refine keepsBut_of ?_ (advicePins_keeps _) (by decide))
    | (with_reducible show keepsBut _ _ (raise _ _ _ _); with_reducible refine keepsBut_of ?_ (raise_keeps _ _ _ _) (by decide))
    | with_reducible refine keepsBut_ite ?_ ?_
    | with_reducible refine keepsBut_doIf (fun _ => ?_) ?_
    | with_reducible refine keepsBut_each (fun _ _ => ?_) ?_
    | dsimp only [id]
    | split)

theorem parEnter_keeps (s : State) : keepsBut [.err, .par] s (parEnter s) := by
  unfold parEnter
  try dsimp only
  repeat' (first
    | with_reducible exact keepsBut_refl _ _
    | (with_reducible show keepsBut _ _ (advicePins _); with_reducible refine keepsBut_of ?_ (advicePins_keeps _) (by decide))
    | (with_reducible show keepsBut _ _ (hitchAssert _); with_reducible refine keepsBut_of ?_ (hitchAssert_keeps _) (by decide))
    | (with_reducible show keepsBut _ _ (mPar _ _); with_reducible refine keepsBut_of ?_ (mPar_keeps _ _) (by decide))
    | (with_reducible show keepsBut _ _ (notice _ _ _); with_reducible refine keepsBut_of ?_ (notice_keeps _ _ _) (by decide))
    | with_reducible refine keepsBut_ite ?_ ?_
    | with_reducible refine keepsBut_doIf (fun _ => ?_) ?_
    | with_reducible refine keepsBut_each (fun _ _ => ?_) ?_
    | dsimp only [id]
    | split)

theorem opYield_keeps (arg : Nat) (s : State) : keepsBut [.par] s (opYield arg s).2 := by
  unfold opYield
  try dsimp only
  repeat' (first
    | with_reducible exact keepsBut_refl _ _
    | (with_reducible show keepsBut _ _ (mPar _ _); with_reducible refine keepsBut_of ?_ (mPar_keeps _ _) (by decide))
    | (with_reducible show keepsBut _ _ (tetherSend _ _ _); with_reducible refine keepsBut_of ?_ (tetherSend_keeps _ _ _) (by decide))
    | with_reducible refine keepsBut_ite ?_ ?_
    | with_reducible refine keepsBut_doIf (fun _ => ?_) ?_
    | with_reducible refine keepsBut_each (fun _ _ => ?_) ?_
    | dsimp only [id]
    | split)

theorem opParClr_keeps (v : Word) (s : State) : keepsBut [.par] s (opParClr v s) := by
  unfold opParClr
  try dsimp only
  repeat' (first
    | with_reducible exact keepsBut_refl _ _
    | (with_reducible show keepsBut _ _ (mPar _ _); with_reducible refine keepsBut_of ?_ (mPar_keeps _ _) (by decide))
    | with_reducible refine keepsBut_ite ?_ ?_
    | with_reducible refine keepsBut_doIf (fun _ => ?_) ?_
    | with_reducible refine keepsBut_each (fun _ _ => ?_) ?_
    | dsimp only [id]
    | split)

theorem feedLost_keeps (b : Bool) (s : State) : keepsBut [.err, .keep] s (feedLost b s) := by
  unfold feedLost
  try dsimp only
  repeat' (first
    | with_reducible exact keepsBut_refl _ _
    | (with_reducible show keepsBut _ _ (mKeep _ _); with_reducible refine keepsBut_of ?_ (mKeep_keeps _ _) (by decide))
    | (with_reducible show keepsBut _ _ (faultErr _ _ _); with_reducible refine keepsBut_of ?_ (faultErr_keeps _ _ _) (by decide))
    | with_reducible refine keepsBut_ite ?_ ?_
    | with_reducible refine keepsBut_doIf (fun _ => ?_) ?_
    | with_reducible refine keepsBut_each (fun _ _ => ?_) ?_
    | dsimp only [id]
    | split)

theorem feedBack_keeps (b : Bool) (s : State) : keepsBut [.err, .keep] s (feedBack b s) := by
  unfold feedBack
  try dsimp only
  repeat' (first
    | with_reducible exact keepsBut_refl _ _
    | (with_reducible show keepsBut _ _ (mKeep _ _); with_reducible refine keepsBut_of ?_ (mKeep_keeps _ _) (by decide))
    | (with_reducible show keepsBut _ _ (endFault _ _ _); with_reducible refine keepsBut_of ?_ (endFault_keeps _ _ _) (by decide))
    | with_reducible refine keepsBut_ite ?_ ?_
    | with_reducible refine keepsBut_doIf (fun _ => ?_) ?_
    | with_reducible refine keepsBut_each (fun _ _ => ?_) ?_
    | dsimp only [id]
    | split)

/-! Machine/Ptp.lean -/

theorem ptpIgnore_keeps (d : Nat) (s : State) : keepsBut [.ptp] s (ptpIgnore d s) := by
  unfold ptpIgnore
  try dsimp only
  repeat' (first
    | with_reducible exact keepsBut_refl _ _
    | (with_reducible show keepsBut _ _ (mDom _ _ _); with_reducible refine keepsBut_of ?_ (mDom_keeps _ _ _) (by decide))
    | with_reducible refine keepsBut_ite ?_ ?_
    | with_reducible refine keepsBut_doIf (fun _ => ?_) ?_
    | with_reducible refine keepsBut_each (fun _ _ => ?_) ?_
    | dsimp only [id]
    | split)

theorem servoAdj_keeps (d : Nat) (adj : Int) (s : State) : keepsBut [.ptp] s (servoAdj d adj s) := by
  unfold servoAdj
  try dsimp only
  repeat' (first
    | with_reducible exact keepsBut_refl _ _
    | (with_reducible show keepsBut _ _ (mDom _ _ _); with_reducible refine keepsBut_of ?_ (mDom_keeps _ _ _) (by decide))
    | with_reducible refine keepsBut_ite ?_ ?_
    | with_reducible refine keepsBut_doIf (fun _ => ?_) ?_
    | with_reducible refine keepsBut_each (fun _ _ => ?_) ?_
    | dsimp only [id]
    | split)

theorem setServo_keeps (d : Nat) (v : Servo) (s : State) : keepsBut [.err, .ptp, .mgt] s (setServo d v s) := by
  unfold setServo
  try dsimp only
  repeat' (first
    | with_reducible exact keepsBut_refl _ _
    | (with_reducible show keepsBut _ _ (mDom _ _ _); with_reducible refine keepsBut_of ?_ (mDom_keeps _ _ _) (by decide))
    | (with_reducible show keepsBut _ _ (notice _ _ _); with_reducible refine keepsBut_of ?_ (notice_keeps _ _ _) (by decide))
    | (with_reducible show keepsBut _ _ (faultErr _ _ _); with_reducible refine keepsBut_of ?_ (faultErr_keeps _ _ _) (by decide))
    | (with_reducible show keepsBut _ _ (subRecord _ _ _); with_reducible refine keepsBut_of ?_ (subRecord_keeps _ _ _) (by decide))
    | (with_reducible show keepsBut _ _ (endFault _ _ _); with_reducible refine keepsBut_of ?_ (endFault_keeps _ _ _) (by decide))
    | (with_reducible show keepsBut _ _ (servoAdj _ _ _); with_reducible refine keepsBut_of ?_ (servoAdj_keeps _ _ _) (by decide))
    | with_reducible refine keepsBut_ite ?_ ?_
    | with_reducible refine keepsBut_doIf (fun _ => ?_) ?_
    | with_reducible refine keepsBut_each (fun _ _ => ?_) ?_
    | dsimp only [id]
    | split)

theorem selectMaster_keeps (d : Nat) (s : State) : keepsBut [.err, .ptp, .mgt] s (selectMaster d s) := by
  unfold selectMaster
  try dsimp only
  repeat' (first
    | with_reducible exact keepsBut_refl _ _
    | (with_reducible show keepsBut _ _ (mDom _ _ _); with_reducible refine keepsBut_of ?_ (mDom_keeps _ _ _) (by decide))
    | (with_reducible show keepsBut _ _ (notice _ _ _); with_reducible refine keepsBut_of ?_ (notice_keeps _ _ _) (by decide))
    | (with_reducible show keepsBut _ _ (setServo _ _ _); with_reducible refine keepsBut_of ?_ (setServo_keeps _ _ _) (by decide))
    | with_reducible refine keepsBut_ite ?_ ?_
    | with_reducible refine keepsBut_doIf (fun _ => ?_) ?_
    | with_reducible refine keepsBut_each (fun _ _ => ?_) ?_
    | dsimp only [id]
    | split)

theorem announceRx_keeps (dm np : Nat) (d : Bytes) (s : State) : keepsBut [.err, .ptp, .mgt] s (announceRx dm np d s) := by
  unfold announceRx
  try dsimp only
  repeat' (first
    | with_reducible exact keepsBut_refl _ _
    | (with_reducible show keepsBut _ _ (mDom _ _ _); with_reducible refine keepsBut_of ?_ (mDom_keeps _ _ _) (by decide))
    | (with_reducible show keepsBut _ _ (selectMaster _ _); with_reducible refine keepsBut_of ?_ (selectMaster_keeps _ _) (by decide))
    | with_reducible refine keepsBut_ite ?_ ?_
    | with_reducible refine keepsBut_doIf (fun _ => ?_) ?_
    | with_reducible refine keepsBut_each (fun _ _ => ?_) ?_
    | dsimp only [id]
    | split)

theorem delaySample_keeps (dm : Nat) (np : Option Nat) (p : Int) (s : State) : keepsBut [.ptp] s (delaySample dm np p s) := by
  unfold delaySample
  try dsimp only
  repeat' (first
    | with_reducible exact keepsBut_refl _ _
    | (with_reducible show keepsBut _ _ (mDom _ _ _); with_reducible refine keepsBut_of ?_ (mDom_keeps _ _ _) (by decide))
    | (with_reducible show keepsBut _ _ (ptpIgnore _ _); with_reducible refine keepsBut_of ?_ (ptpIgnore_keeps _ _) (by decide))
    | with_reducible refine keepsBut_ite ?_ ?_
    | with_reducible refine keepsBut_doIf (fun _ => ?_) ?_
    | with_reducible refine keepsBut_each (fun _ _ => ?_) ?_
    | dsimp only [id]
    | split)

theorem servoCorrect_keeps (dm : Nat) (o l : Int) (s : State) : keepsBut [.ptp] s (servoCorrect dm o l s) := by
  unfold servoCorrect
  try dsimp only
  repeat' (first
    | with_reducible exact keepsBut_refl _ _
    | (with_reducible show keepsBut _ _ (mDom _ _ _); with_reducible refine keepsBut_of ?_ (mDom_keeps _ _ _) (by decide))
    | (with_reducible show keepsBut _ _ (servoAdj _ _ _); with_reducible refine keepsBut_of ?_ (servoAdj_keeps _ _ _) (by decide))
    | with_reducible refine keepsBut_ite ?_ ?_
    | with_reducible refine keepsBut_doIf (fun _ => ?_) ?_
    | with_reducible refine keepsBut_each (fun _ _ => ?_) ?_
    | dsimp only [id]
    | split)

theorem lockCount_keeps (dm : Nat) (o : Int) (s : State) : keepsBut [.err, .ptp, .mgt] s (lockCount dm o s) := by
  unfold lockCount
  try dsimp only
  repeat' (first
    | with_reducible exact keepsBut_refl _ _
    | (with_reducible show keepsBut _ _ (mDom _ _ _); with_reducible refine keepsBut_of ?_ (mDom_keeps _ _ _) (by decide))
    | (with_reducible show keepsBut _ _ (setServo _ _ _); with_reducible refine keepsBut_of ?_ (setServo_keeps _ _ _) (by decide))
    | with_reducible refine keepsBut_ite ?_ ?_
    | with_reducible refine keepsBut_doIf (fun _ => ?_) ?_
    | with_reducible refine keepsBut_each (fun _ _ => ?_) ?_
    | dsimp only [id]
    | split)

theorem syncUse_keeps (dm np : Nat) (t1 t2 c l : Int) (s : State) : keepsBut [.err, .ptp, .mgt] s (syncUse dm np t1 t2 c l s) := by
  unfold syncUse
  try dsimp only
  repeat' (first
    | with_reducible exact keepsBut_refl _ _
    | (with_reducible show keepsBut _ _ (mDom _ _ _); with_reducible refine keepsBut_of ?_ (mDom_keeps _ _ _) (by decide))
    | (with_reducible show keepsBut _ _ (notice _ _ _); with_reducible refine keepsBut_of ?_ (notice_keeps _ _ _) (by decide))
    | (with_reducible show keepsBut _ _ (setServo _ _ _); with_reducible refine keepsBut_of ?_ (setServo_keeps _ _ _) (by decide))
    | (with_reducible show keepsBut _ _ (servoCorrect _ _ _ _); with_reducible refine keepsBut_of ?_ (servoCorrect_keeps _ _ _ _) (by decide))
    | (with_reducible show keepsBut _ _ (lockCount _ _ _); with_reducible refine keepsBut_of ?_ (lockCount_keeps _ _ _) (by decide))
    | with_reducible refine keepsBut_ite ?_ ?_
    | with_reducible refine keepsBut_doIf (fun _ => ?_) ?_
    | with_reducible refine keepsBut_each (fun _ _ => ?_) ?_
    | dsimp only [id]
    | split)

theorem syncRx_keeps (dm np : Nat) (d : Bytes) (s : State) : keepsBut [.err, .ptp, .mgt] s (syncRx dm np d s) := by
  unfold syncRx
  try dsimp only
  repeat' (first
    | with_reducible exact keepsBut_refl _ _
    | (with_reducible show keepsBut _ _ (mDom _ _ _); with_reducible refine keepsBut_of ?_ (mDom_keeps _ _ _) (by decide))
    | (with_reducible show keepsBut _ _ (ptpIgnore _ _); with_reducible refine keepsBut_of ?_ (ptpIgnore_keeps _ _) (by decide))
    | (with_reducible show keepsBut _ _ (syncUse _ _ _ _ _ _ _); with_reducible refine keepsBut_of ?_ (syncUse_keeps _ _ _ _ _ _ _) (by decide))
    | with_reducible refine keepsBut_ite ?_ ?_
    | with_reducible refine keepsBut_doIf (fun _ => ?_) ?_
    | with_reducible refine keepsBut_each (fun _ _ => ?_) ?_
    | dsimp only [id]
    | split)

theorem followUpRx_keeps (dm np : Nat) (d : Bytes) (s : State) : keepsBut [.err, .ptp, .mgt] s (followUpRx dm np d s) := by
  unfold followUpRx
  try dsimp only
  repeat' (first
    | with_reducible exact keepsBut_refl _ _
    | (with_reducible show keepsBut _ _ (ptpIgnore _ _); with_reducible refine keepsBut_of ?_ (ptpIgnore_keeps _ _) (by decide))
    | (with_reducible show keepsBut _ _ (syncUse _ _ _ _ _ _ _); with_reducible refine keepsBut_of ?_ (syncUse_keeps _ _ _ _ _ _ _) (by decide))
    | with_reducible refine keepsBut_ite ?_ ?_
    | with_reducible refine keepsBut_doIf (fun _ => ?_) ?_
    | with_reducible refine keepsBut_each (fun _ _ => ?_) ?_
    | dsimp only [id]
    | split)

theorem delayRespRx_keeps (dm np : Nat) (d : Bytes) (s : State) : keepsBut [.ptp] s (delayRespRx dm np d s) := by
  unfold delayRespRx
  try dsimp only
  repeat' (first
    | with_reducible exact keepsBut_refl _ _
    | (with_reducible show keepsBut _ _ (mDom _ _ _); with_reducible refine keepsBut_of ?_ (mDom_keeps _ _ _) (by decide))
    | (with_reducible show keepsBut _ _ (ptpIgnore _ _); with_reducible refine keepsBut_of ?_ (ptpIgnore_keeps _ _) (by decide))
    | (with_reducible show keepsBut _ _ (delaySample _ _ _ _); with_reducible refine keepsBut_of ?_ (delaySample_keeps _ _ _ _) (by decide))
    | with_reducible refine keepsBut_ite ?_ ?_
    | with_reducible refine keepsBut_doIf (fun _ => ?_) ?_
    | with_reducible refine keepsBut_each (fun _ _ => ?_) ?_
    | dsimp only [id]
    | split)

theorem ptpSend_keeps (np dm : Nat) (back : Option Via) (d0 d : Bytes) (s : State) : keepsBut [.net] s (ptpSend np dm back d0 d s) := by
  unfold ptpSend
  try dsimp only
  repeat' (first
    | with_reducible exact keepsBut_refl _ _
    | (with_reducible show keepsBut _ _ (emit _ _); with_reducible refine keepsBut_of ?_ (emit_keeps _ _) (by decide))
    | (with_reducible show keepsBut _ _ (countTx _ _); with_reducible refine keepsBut_of ?_ (countTx_keeps _ _) (by decide))
    | with_reducible refine keepsBut_ite ?_ ?_
    | with_reducible refine keepsBut_doIf (fun _ => ?_) ?_
    | with_reducible refine keepsBut_each (fun _ _ => ?_) ?_
    | dsimp only [id]
    | split)

theorem pdelayReqRx_keeps (dm : Nat) (v : Via) (d : Bytes) (s : State) : keepsBut [.net, .ptp] s (pdelayReqRx dm v d s) := by
  unfold pdelayReqRx
  try dsimp only
  repeat' (first
    | with_reducible exact keepsBut_refl _ _
    | (with_reducible show keepsBut _ _ (ptpIgnore _ _); with_reducible refine keepsBut_of ?_ (ptpIgnore_keeps _ _) (by decide))
    | (with_reducible show keepsBut _ _ (ptpSend _ _ _ _ _ _); with_reducible refine keepsBut_of ?_ (ptpSend_keeps _ _ _ _ _ _) (by decide))
    | with_reducible refine keepsBut_ite ?_ ?_
    | with_reducible refine keepsBut_doIf (fun _ => ?_) ?_
    | with_reducible refine keepsBut_each (fun _ _ => ?_) ?_
    | dsimp only [id]
    | split)

theorem pdelayRespRx_keeps (dm np : Nat) (d : Bytes) (s : State) : keepsBut [.ptp] s (pdelayRespRx dm np d s) := by
  unfold pdelayRespRx
  try dsimp only
  repeat' (first
    | with_reducible exact keepsBut_refl _ _
    | (with_reducible show keepsBut _ _ (mDom _ _ _); with_reducible refine keepsBut_of ?_ (mDom_keeps _ _ _) (by decide))
    | (with_reducible show keepsBut _ _ (ptpIgnore _ _); with_reducible refine keepsBut_of ?_ (ptpIgnore_keeps _ _) (by decide))
    | (with_reducible show keepsBut _ _ (delaySample _ _ _ _); with_reducible refine keepsBut_of ?_ (delaySample_keeps _ _ _ _) (by decide))
    | with_reducible refine keepsBut_ite ?_ ?_
    | with_reducible refine keepsBut_doIf (fun _ => ?_) ?_
    | with_reducible refine keepsBut_each (fun _ _ => ?_) ?_
    | dsimp only [id]
    | split)

theorem pdelayFupRx_keeps (dm np : Nat) (d : Bytes) (s : State) : keepsBut [.ptp] s (pdelayFupRx dm np d s) := by
  unfold pdelayFupRx
  try dsimp only
  repeat' (first
    | with_reducible exact keepsBut_refl _ _
    | (with_reducible show keepsBut _ _ (mDom _ _ _); with_reducible refine keepsBut_of ?_ (mDom_keeps _ _ _) (by decide))
    | (with_reducible show keepsBut _ _ (ptpIgnore _ _); with_reducible refine keepsBut_of ?_ (ptpIgnore_keeps _ _) (by decide))
    | (with_reducible show keepsBut _ _ (delaySample _ _ _ _); with_reducible refine keepsBut_of ?_ (delaySample_keeps _ _ _ _) (by decide))
    | with_reducible refine keepsBut_ite ?_ ?_
    | with_reducible refine keepsBut_doIf (fun _ => ?_) ?_
    | with_reducible refine keepsBut_each (fun _ _ => ?_) ?_
    | dsimp only [id]
    | split)

theorem ptpMsg_keeps (dm : Nat) (v : Via) (d : Bytes) (s : State) : keepsBut [.err, .net, .ptp, .mgt] s (ptpMsg dm v d s) := by
  unfold ptpMsg
  try dsimp only
  repeat' (first
    | with_reducible exact keepsBut_refl _ _
    | (with_reducible show keepsBut _ _ (syncRx _ _ _ _); with_reducible refine keepsBut_of ?_ (syncRx_keeps _ _ _ _) (by decide))
    | (with_reducible show keepsBut _ _ (pdelayReqRx _ _ _ _); with_reducible refine keepsBut_of ?_ (pdelayReqRx_keeps _ _ _ _) (by decide))
    | (with_reducible show keepsBut _ _ (pdelayRespRx _ _ _ _); with_reducible refine keepsBut_of ?_ (pdelayRespRx_keeps _ _ _ _) (by decide))
    | (with_reducible show keepsBut _ _ (followUpRx _ _ _ _); with_reducible refine keepsBut_of ?_ (followUpRx_keeps _ _ _ _) (by decide))
    | (with_reducible show keepsBut _ _ (delayRespRx _ _ _ _); with_reducible refine keepsBut_of ?_ (delayRespRx_keeps _ _ _ _) (by decide))
    | (with_reducible show keepsBut _ _ (pdelayFupRx _ _ _ _); with_reducible refine keepsBut_of ?_ (pdelayFupRx_keeps _ _ _ _) (by decide))
    | (with_reducible show keepsBut _ _ (announceRx _ _ _ _); with_reducible refine keepsBut_of ?_ (announceRx_keeps _ _ _ _) (by decide))
    | (with_reducible show keepsBut _ _ (ptpIgnore _ _); with_reducible refine keepsBut_of ?_ (ptpIgnore_keeps _ _) (by decide))
    | with_reducible refine keepsBut_ite ?_ ?_
    | with_reducible refine keepsBut_doIf (fun _ => ?_) ?_
    | with_reducible refine keepsBut_each (fun _ _ => ?_) ?_
    | dsimp only [id]
    | split)

theorem ptpRx_keeps (rx : Arrival) (tr : PtpTransport) (d : Bytes) (s : State) : keepsBut [.err, .net, .ptp, .mgt] s (ptpRx rx tr d s) := by
  unfold ptpRx
  try dsimp only
  repeat' (first
    | with_reducible exact keepsBut_refl _ _
    | (with_reducible show keepsBut _ _ (rxFrame _ _ _); with_reducible refine keepsBut_of ?_ (rxFrame_keeps (qs := [.err, .net, .ptp, .mgt]) (by decide) (fun _ => ?_) _ _) (fun _ m => m))
    | (with_reducible show keepsBut _ _ (ptpIgnore _ _); with_reducible refine keepsBut_of ?_ (ptpIgnore_keeps _ _) (by decide))
    | (with_reducible show keepsBut _ _ (ptpMsg _ _ _ _); with_reducible refine keepsBut_of ?_ (ptpMsg_keeps _ _ _ _) (by decide))
    | with_reducible refine keepsBut_ite ?_ ?_
    | with_reducible refine keepsBut_doIf (fun _ => ?_) ?_
    | with_reducible refine keepsBut_each (fun _ _ => ?_) ?_
    | dsimp only [id]
    | split)

theorem masterLost_keeps (dm : Nat) (f : Foreign) (s : State) : keepsBut [.err, .ptp, .mgt] s (masterLost dm f s) := by
  unfold masterLost
  try dsimp only
  repeat' (first
    | with_reducible exact keepsBut_refl _ _
    | (with_reducible show keepsBut _ _ (mDom _ _ _); with_reducible refine keepsBut_of ?_ (mDom_keeps _ _ _) (by decide))
    | (with_reducible show keepsBut _ _ (setServo _ _ _); with_reducible refine keepsBut_of ?_ (setServo_keeps _ _ _) (by decide))
    | with_reducible refine keepsBut_ite ?_ ?_
    | with_reducible refine keepsBut_doIf (fun _ => ?_) ?_
    | with_reducible refine keepsBut_each (fun _ _ => ?_) ?_
    | dsimp only [id]
    | split)

theorem domSwitch_keeps (n : Nat) (s : State) : keepsBut [.err, .ptp] s (domSwitch n s) := by
  unfold domSwitch
  try dsimp only
  repeat' (first
    | with_reducible exact keepsBut_refl _ _
    | (with_reducible show keepsBut _ _ (mPtp _ _); with_reducible refine keepsBut_of ?_ (mPtp_keeps _ _) (by decide))
    | (with_reducible show keepsBut _ _ (notice _ _ _); with_reducible refine keepsBut_of ?_ (notice_keeps _ _ _) (by decide))
    | with_reducible refine keepsBut_ite ?_ ?_
    | with_reducible refine keepsBut_doIf (fun _ => ?_) ?_
    | with_reducible refine keepsBut_each (fun _ _ => ?_) ?_
    | dsimp only [id]
    | split)

theorem opPtpDom_keeps (dm : Nat) (s : State) : keepsBut [.err, .ptp, .mgt] s (opPtpDom dm s) := by
  unfold opPtpDom
  try dsimp only
  repeat' (first
    | with_reducible exact keepsBut_refl _ _
    | (with_reducible show keepsBut _ _ (mDom _ _ _); with_reducible refine keepsBut_of ?_ (mDom_keeps _ _ _) (by decide))
    | (with_reducible show keepsBut _ _ (setServo _ _ _); with_reducible refine keepsBut_of ?_ (setServo_keeps _ _ _) (by decide))
    | (with_reducible show keepsBut _ _ (domSwitch _ _); with_reducible refine keepsBut_of ?_ (domSwitch_keeps _ _) (by decide))
    | with_reducible refine keepsBut_ite ?_ ?_
    | with_reducible refine keepsBut_doIf (fun _ => ?_) ?_
    | with_reducible refine keepsBut_each (fun _ _ => ?_) ?_
    | dsimp only [id]
    | split)

theorem opPtpSel_keeps (v : Word) (s : State) : keepsBut [.err, .ptp] s (opPtpSel v s) := by
  unfold opPtpSel
  try dsimp only
  repeat' (first
    | with_reducible exact keepsBut_refl _ _
    | (with_reducible show keepsBut _ _ (mPtp _ _); with_reducible refine keepsBut_of ?_ (mPtp_keeps _ _) (by decide))
    | (with_reducible show keepsBut _ _ (domSwitch _ _); with_reducible refine keepsBut_of ?_ (domSwitch_keeps _ _) (by decide))
    | with_reducible refine keepsBut_ite ?_ ?_
    | with_reducible refine keepsBut_doIf (fun _ => ?_) ?_
    | with_reducible refine keepsBut_each (fun _ _ => ?_) ?_
    | dsimp only [id]
    | split)

theorem autoSwitch_keeps (s : State) : keepsBut [.err, .ptp] s (autoSwitch s) := by
  unfold autoSwitch
  try dsimp only
  repeat' (first
    | with_reducible exact keepsBut_refl _ _
    | (with_reducible show keepsBut _ _ (mPtp _ _); with_reducible refine keepsBut_of ?_ (mPtp_keeps _ _) (by decide))
    | (with_reducible show keepsBut _ _ (domSwitch _ _); with_reducible refine keepsBut_of ?_ (domSwitch_keeps _ _) (by decide))
    | with_reducible refine keepsBut_ite ?_ ?_
    | with_reducible refine keepsBut_doIf (fun _ => ?_) ?_
    | with_reducible refine keepsBut_each (fun _ _ => ?_) ?_
    | dsimp only [id]
    | split)

theorem slewK_keeps (s : State) : keepsBut [.ptp] s (slewK s) := by
  unfold slewK
  try dsimp only
  repeat' (first
    | with_reducible exact keepsBut_refl _ _
    | (with_reducible show keepsBut _ _ (mPtp _ _); with_reducible refine keepsBut_of ?_ (mPtp_keeps _ _) (by decide))
    | with_reducible refine keepsBut_ite ?_ ?_
    | with_reducible refine keepsBut_doIf (fun _ => ?_) ?_
    | with_reducible refine keepsBut_each (fun _ _ => ?_) ?_
    | dsimp only [id]
    | split)

theorem fireAdjust_keeps (cycles : Nat) (s : State) : keepsBut [.err, .ptp] s (fireAdjust cycles s) := by
  unfold fireAdjust
  try dsimp only
  repeat' (first
    | with_reducible exact keepsBut_refl _ _
    | (with_reducible show keepsBut _ _ (mPtp _ _); with_reducible refine keepsBut_of ?_ (mPtp_keeps _ _) (by decide))
    | (with_reducible show keepsBut _ _ (faultErr _ _ _); with_reducible refine keepsBut_of ?_ (faultErr_keeps _ _ _) (by decide))
    | with_reducible refine keepsBut_ite ?_ ?_
    | with_reducible refine keepsBut_doIf (fun _ => ?_) ?_
    | with_reducible refine keepsBut_each (fun _ _ => ?_) ?_
    | dsimp only [id]
    | split)

theorem delayReqSend_keeps (dm : Nat) (s : State) : keepsBut [.net, .ptp] s (delayReqSend dm s) := by
  unfold delayReqSend
  try dsimp only
  repeat' (first
    | with_reducible exact keepsBut_refl _ _
    | (with_reducible show keepsBut _ _ (ptpSend _ _ _ _ _ _); with_reducible refine keepsBut_of ?_ (ptpSend_keeps _ _ _ _ _ _) (by decide))
    | (with_reducible show keepsBut _ _ (mDom _ _ _); with_reducible refine keepsBut_of ?_ (mDom_keeps _ _ _) (by decide))
    | with_reducible refine keepsBut_ite ?_ ?_
    | with_reducible refine keepsBut_doIf (fun _ => ?_) ?_
    | with_reducible refine keepsBut_each (fun _ _ => ?_) ?_
    | dsimp only [id]
    | split)

theorem pdelayReqSend_keeps (dm : Nat) (s : State) : keepsBut [.net, .ptp] s (pdelayReqSend dm s) := by
  unfold pdelayReqSend
  try dsimp only
  repeat' (first
    | with_reducible exact keepsBut_refl _ _
    | (with_reducible show keepsBut _ _ (ptpSend _ _ _ _ _ _); with_reducible refine keepsBut_of ?_ (ptpSend_keeps _ _ _ _ _ _) (by decide))
    | (with_reducible show keepsBut _ _ (mDom _ _ _); with_reducible refine keepsBut_of ?_ (mDom_keeps _ _ _) (by decide))
    | with_reducible refine keepsBut_ite ?_ ?_
    | with_reducible refine keepsBut_doIf (fun _ => ?_) ?_
    | with_reducible refine keepsBut_each (fun _ _ => ?_) ?_
    | dsimp only [id]
    | split)

theorem opPtpSnap_keeps (sel : TimeSel) (s : State) : keepsBut [.ptp] s (opPtpSnap sel s) := by
  unfold opPtpSnap
  try dsimp only
  repeat' (first
    | with_reducible exact keepsBut_refl _ _
    | (with_reducible show keepsBut _ _ (mPtp _ _); with_reducible refine keepsBut_of ?_ (mPtp_keeps _ _) (by decide))
    | (with_reducible show keepsBut _ _ (mDom _ _ _); with_reducible refine keepsBut_of ?_ (mDom_keeps _ _ _) (by decide))
    | with_reducible refine keepsBut_ite ?_ ?_
    | with_reducible refine keepsBut_doIf (fun _ => ?_) ?_
    | with_reducible refine keepsBut_each (fun _ _ => ?_) ?_
    | dsimp only [id]
    | split)

theorem opPtpClr_keeps (dm : Nat) (v : Word) (s : State) : keepsBut [.ptp] s (opPtpClr dm v s) := by
  unfold opPtpClr
  try dsimp only
  repeat' (first
    | with_reducible exact keepsBut_refl _ _
    | (with_reducible show keepsBut _ _ (mDom _ _ _); with_reducible refine keepsBut_of ?_ (mDom_keeps _ _ _) (by decide))
    | with_reducible refine keepsBut_ite ?_ ?_
    | with_reducible refine keepsBut_doIf (fun _ => ?_) ?_
    | with_reducible refine keepsBut_each (fun _ _ => ?_) ?_
    | dsimp only [id]
    | split)

/-! Machine/Manage.lean -/

theorem mWin_keeps (id : Nat) (f : KeyWin → KeyWin) (s : State) : keepsBut [.mgt] s (mWin id f s) := by
  unfold mWin
  try dsimp only
  repeat' (first
    | with_reducible exact keepsBut_refl _ _
    | (with_reducible show keepsBut _ _ (mMgt _ _); with_reducible refine keepsBut_of ?_ (mMgt_keeps _ _) (by decide))
    | with_reducible refine keepsBut_ite ?_ ?_
    | with_reducible refine keepsBut_doIf (fun _ => ?_) ?_
    | with_reducible refine keepsBut_each (fun _ _ => ?_) ?_
    | dsimp only [id]
    | split)

theorem eventSend_keeps (slot : Nat) (s : State) : keepsBut [.net, .mgt] s (eventSend slot s) := by
  unfold eventSend
  try dsimp only
  repeat' (first
    | with_reducible exact keepsBut_refl _ _
    | (with_reducible show keepsBut _ _ (mWin _ _ _); with_reducible refine keepsBut_of ?_ (mWin_keeps _ _ _) (by decide))
    | (with_reducible show keepsBut _ _ (mMgt _ _); with_reducible refine keepsBut_of ?_ (mMgt_keeps _ _) (by decide))
    | (with_reducible show keepsBut _ _ (sendUnprompted _ _ _ _ _); with_reducible refine keepsBut_of ?_ (sendUnprompted_keeps _ _ _ _ _) (by decide))
    | with_reducible refine keepsBut_ite ?_ ?_
    | with_reducible refine keepsBut_doIf (fun _ => ?_) ?_
    | with_reducible refine keepsBut_each (fun _ _ => ?_) ?_
    | dsimp only [id]
    | split)

theorem opSubscribe_keeps (ss : Session) (key mask lease : Nat) (s : State) : keepsBut [.mgt] s (opSubscribe ss key mask lease s).2.2 := by
  unfold opSubscribe
  try dsimp only
  repeat' (first
    | with_reducible exact keepsBut_refl _ _
    | (with_reducible show keepsBut _ _ (mMgt _ _); with_reducible refine keepsBut_of ?_ (mMgt_keeps _ _) (by decide))
    | with_reducible refine keepsBut_ite ?_ ?_
    | with_reducible refine keepsBut_doIf (fun _ => ?_) ?_
    | with_reducible refine keepsBut_each (fun _ _ => ?_) ?_
    | dsimp only [id]
    | split)

theorem refCodeRead_keeps (ch code : Nat) (s : State) : keepsBut [.err, .mem] s (refCodeRead ch code s) := by
  unfold refCodeRead
  try dsimp only
  repeat' (first
    | with_reducible exact keepsBut_refl _ _
    | (with_reducible show keepsBut _ _ (emit _ _); with_reducible refine keepsBut_of ?_ (emit_keeps _ _) (by decide))
    | (with_reducible show keepsBut _ _ (mChan _ _ _); with_reducible refine keepsBut_of ?_ (mChan_keeps _ _ _) (by decide))
    | (with_reducible show keepsBut _ _ (faultErr _ _ _); with_reducible refine keepsBut_of ?_ (faultErr_keeps _ _ _) (by decide))
    | (with_reducible show keepsBut _ _ (endFault _ _ _); with_reducible refine keepsBut_of ?_ (endFault_keeps _ _ _) (by decide))
    | with_reducible refine keepsBut_ite ?_ ?_
    | with_reducible refine keepsBut_doIf (fun _ => ?_) ?_
    | with_reducible refine keepsBut_each (fun _ _ => ?_) ?_
    | dsimp only [id]
    | split)

theorem chanTick_keeps (ch : Nat) (s : State) : keepsBut [.mem] s (chanTick ch s) := by
  unfold chanTick
  try dsimp only
  repeat' (first
    | with_reducible exact keepsBut_refl _ _
    | (with_reducible show keepsBut _ _ (mChan _ _ _); with_reducible refine keepsBut_of ?_ (mChan_keeps _ _ _) (by decide))
    | (with_reducible show keepsBut _ _ (delayUpdate _ _); with_reducible refine keepsBut_of ?_ (delayUpdate_keeps _ _) (by decide))
    | with_reducible refine keepsBut_ite ?_ ?_
    | with_reducible refine keepsBut_doIf (fun _ => ?_) ?_
    | with_reducible refine keepsBut_each (fun _ _ => ?_) ?_
    | dsimp only [id]
    | split)

theorem presentTick_keeps (s : State) : keepsBut [.str] s (presentTick s) := by
  unfold presentTick
  try dsimp only
  repeat' (first
    | with_reducible exact keepsBut_refl _ _
    | (with_reducible show keepsBut _ _ (mStr _ _); with_reducible refine keepsBut_of ?_ (mStr_keeps _ _) (by decide))
    | with_reducible refine keepsBut_ite ?_ ?_
    | with_reducible refine keepsBut_doIf (fun _ => ?_) ?_
    | with_reducible refine keepsBut_each (fun _ _ => ?_) ?_
    | dsimp only [id]
    | split)

theorem mgmtTick_keeps (temps : List Int) (codes : List (BitVec 3)) (s : State) : keepsBut [.err, .net, .ptp, .mgt, .str, .mem, .par, .cal] s (mgmtTick temps codes s) := by
  unfold mgmtTick
  try dsimp only
  repeat' (first
    | with_reducible exact keepsBut_refl _ _
    | (with_reducible show keepsBut _ _ (mMgt _ _); with_reducible refine keepsBut_of ?_ (mMgt_keeps _ _) (by decide))
    | (with_reducible show keepsBut _ _ (sensorTick _ _); with_reducible refine keepsBut_of ?_ (sensorTick_keeps _ _) (by decide))
    | (with_reducible show keepsBut _ _ (chanTick _ _); with_reducible refine keepsBut_of ?_ (chanTick_keeps _ _) (by decide))
    | (with_reducible show keepsBut _ _ (refCodeRead _ _ _); with_reducible refine keepsBut_of ?_ (refCodeRead_keeps _ _ _) (by decide))
    | (with_reducible show keepsBut _ _ (advicePins _); with_reducible refine keepsBut_of ?_ (advicePins_keeps _) (by decide))
    | (with_reducible show keepsBut _ _ (speedAdvise _); with_reducible refine keepsBut_of ?_ (speedAdvise_keeps _) (by decide))
    | (with_reducible show keepsBut _ _ (presentTick _); with_reducible refine keepsBut_of ?_ (presentTick_keeps _) (by decide))
    | (with_reducible show keepsBut _ _ (calTick _); with_reducible refine keepsBut_of ?_ (calTick_keeps _) (by decide))
    | (with_reducible show keepsBut _ _ (slewK _); with_reducible refine keepsBut_of ?_ (slewK_keeps _) (by decide))
    | (with_reducible show keepsBut _ _ (autoSwitch _); with_reducible refine keepsBut_of ?_ (autoSwitch_keeps _) (by decide))
    | (with_reducible show keepsBut _ _ (netHbSend _); with_reducible refine keepsBut_of ?_ (netHbSend_keeps _) (by decide))
    | (with_reducible show keepsBut _ _ (eventSend _ _); with_reducible refine keepsBut_of ?_ (eventSend_keeps _ _) (by decide))
    | with_reducible refine keepsBut_ite ?_ ?_
    | with_reducible refine keepsBut_doIf (fun _ => ?_) ?_
    | with_reducible refine keepsBut_each (fun _ _ => ?_) ?_
    | dsimp only [id]
    | split)

/-! Machine/Firing.lean -/

theorem dlcUpdate_keeps (s : State) : keepsBut [.par] s (dlcUpdate s) := by
  unfold dlcUpdate
  try dsimp only
  repeat' (first
    | with_reducible exact keepsBut_refl _ _
    | (with_reducible show keepsBut _ _ (mPar _ _); with_reducible refine keepsBut_of ?_ (mPar_keeps _ _) (by decide))
    | with_reducible refine keepsBut_ite ?_ ?_
    | with_reducible refine keepsBut_doIf (fun _ => ?_) ?_
    | with_reducible refine keepsBut_each (fun _ _ => ?_) ?_
    | dsimp only [id]
    | split)

theorem strikeNull_keeps (p : Nat) (t : Trig) (s : State) : keepsBut [.err, .fir, .gul] s (strikeNull p t s) := by
  unfold strikeNull
  try dsimp only
  repeat' (first
    | with_reducible exact keepsBut_refl _ _
    | (with_reducible show keepsBut _ _ (takeSsn _ _); with_reducible refine keepsBut_of ?_ (takeSsn_keeps _ _) (by decide))
    | (with_reducible show keepsBut _ _ (gulOut _ _ _); with_reducible refine keepsBut_of ?_ (gulOut_keeps _ _ _) (by decide))
    | (with_reducible show keepsBut _ _ (faultErr _ _ _); with_reducible refine keepsBut_of ?_ (faultErr_keeps _ _ _) (by decide))
    | (with_reducible show keepsBut _ _ (mTrig _ _ _ _); with_reducible refine keepsBut_of ?_ (mTrig_keeps _ _ _ _) (by decide))
    | with_reducible refine keepsBut_ite ?_ ?_
    | with_reducible refine keepsBut_doIf (fun _ => ?_) ?_
    | with_reducible refine keepsBut_each (fun _ _ => ?_) ?_
    | dsimp only [id]
    | split)

theorem strikeTrig_keeps (p k tf lag : Nat) (s : State) : keepsBut [.fir, .gul] s (strikeTrig p k tf lag s) := by
  unfold strikeTrig
  try dsimp only
  repeat' (first
    | with_reducible exact keepsBut_refl _ _
    | (with_reducible show keepsBut _ _ (mFir _ _); with_reducible refine keepsBut_of ?_ (mFir_keeps _ _) (by decide))
    | (with_reducible show keepsBut _ _ (mPort _ _ _); with_reducible refine keepsBut_of ?_ (mPort_keeps _ _ _) (by decide))
    | (with_reducible show keepsBut _ _ (emit _ _); with_reducible refine keepsBut_of ?_ (emit_keeps _ _) (by decide))
    | (with_reducible show keepsBut _ _ (mTrig _ _ _ _); with_reducible refine keepsBut_of ?_ (mTrig_keeps _ _ _ _) (by decide))
    | (with_reducible show keepsBut _ _ (headStruck _ _ _ _); with_reducible refine keepsBut_of ?_ (headStruck_keeps _ _ _ _) (by decide))
    | with_reducible refine keepsBut_ite ?_ ?_
    | with_reducible refine keepsBut_doIf (fun _ => ?_) ?_
    | with_reducible refine keepsBut_each (fun _ _ => ?_) ?_
    | dsimp only [id]
    | split)

theorem lagJudge_keeps (p k lag : Nat) (s : State) : keepsBut [.err, .fir] s (lagJudge p k lag s) := by
  unfold lagJudge
  try dsimp only
  repeat' (first
    | with_reducible exact keepsBut_refl _ _
    | (with_reducible show keepsBut _ _ (lagPolicy _ _ _); with_reducible refine keepsBut_of ?_ (lagPolicy_keeps _ _ _) (by decide))
    | with_reducible refine keepsBut_ite ?_ ?_
    | with_reducible refine keepsBut_doIf (fun _ => ?_) ?_
    | with_reducible refine keepsBut_each (fun _ _ => ?_) ?_
    | dsimp only [id]
    | split)

theorem strike_keeps (p : Nat) (cmpPs : Int) (s : State) : keepsBut [.free, .sys, .err, .net, .mgt, .tow, .cmp, .str, .fir, .nzl, .gat, .gul, .mem, .par, .cal] s (strike p cmpPs s) := by
  unfold strike
  try dsimp only
  repeat' (first
    | with_reducible exact keepsBut_refl _ _
    | (with_reducible show keepsBut _ _ (mPar _ _); with_reducible refine keepsBut_of ?_ (mPar_keeps _ _) (by decide))
    | (with_reducible show keepsBut _ _ (finishLayers _); with_reducible refine keepsBut_of ?_ (finishLayers_keeps _) (by decide))
    | (with_reducible show keepsBut _ _ (ctlLeft _); with_reducible refine keepsBut_of ?_ (ctlLeft_keeps _) (by decide))
    | (with_reducible show keepsBut _ _ (pruneTrigs _ _); with_reducible refine keepsBut_of ?_ (pruneTrigs_keeps _ _) (by decide))
    | (with_reducible show keepsBut _ _ (fegStrike _ _ _); with_reducible refine keepsBut_of ?_ (fegStrike_keeps _ _ _) (by decide))
    | (with_reducible show keepsBut _ _ (dlcUpdate _); with_reducible refine keepsBut_of ?_ (dlcUpdate_keeps _) (by decide))
    | (with_reducible show keepsBut _ _ (strikeNull _ _ _); with_reducible refine keepsBut_of ?_ (strikeNull_keeps _ _ _) (by decide))
    | (with_reducible show keepsBut _ _ (strikeTrig _ _ _ _ _); with_reducible refine keepsBut_of ?_ (strikeTrig_keeps _ _ _ _ _) (by decide))
    | (with_reducible show keepsBut _ _ (lagJudge _ _ _ _); with_reducible refine keepsBut_of ?_ (lagJudge_keeps _ _ _ _) (by decide))
    | with_reducible refine keepsBut_ite ?_ ?_
    | with_reducible refine keepsBut_doIf (fun _ => ?_) ?_
    | with_reducible refine keepsBut_each (fun _ _ => ?_) ?_
    | dsimp only [id]
    | split)

theorem opFirCntClr_keeps (v : Word) (s : State) : keepsBut [.fir] s (opFirCntClr v s) := by
  unfold opFirCntClr
  try dsimp only
  repeat' (first
    | with_reducible exact keepsBut_refl _ _
    | (with_reducible show keepsBut _ _ (mFir _ _); with_reducible refine keepsBut_of ?_ (mFir_keeps _ _) (by decide))
    | with_reducible refine keepsBut_ite ?_ ?_
    | with_reducible refine keepsBut_doIf (fun _ => ?_) ?_
    | with_reducible refine keepsBut_each (fun _ _ => ?_) ?_
    | dsimp only [id]
    | split)

theorem opFirSnap_keeps (p : Nat) (s : State) : keepsBut [.fir] s (opFirSnap p s) := by
  unfold opFirSnap
  try dsimp only
  repeat' (first
    | with_reducible exact keepsBut_refl _ _
    | (with_reducible show keepsBut _ _ (mPort _ _ _); with_reducible refine keepsBut_of ?_ (mPort_keeps _ _ _) (by decide))
    | with_reducible refine keepsBut_ite ?_ ?_
    | with_reducible refine keepsBut_doIf (fun _ => ?_) ?_
    | with_reducible refine keepsBut_each (fun _ _ => ?_) ?_
    | dsimp only [id]
    | split)

theorem opGeoCheck_keeps (v : Word) (s : State) : keepsBut [.fir] s (opGeoCheck v s) := by
  unfold opGeoCheck
  try dsimp only
  repeat' (first
    | with_reducible exact keepsBut_refl _ _
    | (with_reducible show keepsBut _ _ (mFir _ _); with_reducible refine keepsBut_of ?_ (mFir_keeps _ _) (by decide))
    | with_reducible refine keepsBut_ite ?_ ?_
    | with_reducible refine keepsBut_doIf (fun _ => ?_) ?_
    | with_reducible refine keepsBut_each (fun _ _ => ?_) ?_
    | dsimp only [id]
    | split)

theorem geoCheckEnd_keeps (s : State) : keepsBut [.fir] s (geoCheckEnd s) := by
  unfold geoCheckEnd
  try dsimp only
  repeat' (first
    | with_reducible exact keepsBut_refl _ _
    | (with_reducible show keepsBut _ _ (mFir _ _); with_reducible refine keepsBut_of ?_ (mFir_keeps _ _) (by decide))
    | with_reducible refine keepsBut_ite ?_ ?_
    | with_reducible refine keepsBut_doIf (fun _ => ?_) ?_
    | with_reducible refine keepsBut_each (fun _ _ => ?_) ?_
    | dsimp only [id]
    | split)

theorem resStep_keeps (s : State) : keepsBut [.regs] s (resStep s) := by
  unfold resStep
  try dsimp only
  repeat' (first
    | with_reducible exact keepsBut_refl _ _
    | (with_reducible show keepsBut _ _ (setReg _ _ _); with_reducible refine keepsBut_of ?_ (setReg_keeps _ _ _) (by decide))
    | with_reducible refine keepsBut_ite ?_ ?_
    | with_reducible refine keepsBut_doIf (fun _ => ?_) ?_
    | with_reducible refine keepsBut_each (fun _ _ => ?_) ?_
    | dsimp only [id]
    | split)

theorem opResData_keeps (acc : Access) (s : State) : keepsBut [.regs, .stg] s (opResData acc s) := by
  unfold opResData
  try dsimp only
  repeat' (first
    | with_reducible exact keepsBut_refl _ _
    | (with_reducible show keepsBut _ _ (mStg _ _); with_reducible refine keepsBut_of ?_ (mStg_keeps _ _) (by decide))
    | (with_reducible show keepsBut _ _ (resStep _); with_reducible refine keepsBut_of ?_ (resStep_keeps _) (by decide))
    | with_reducible refine keepsBut_ite ?_ ?_
    | with_reducible refine keepsBut_doIf (fun _ => ?_) ?_
    | with_reducible refine keepsBut_each (fun _ _ => ?_) ?_
    | dsimp only [id]
    | split)

/-! Machine/Network.lean -/

theorem sendNeigh_keeps (v : Via) (kind : String) (v6 : Bool) (ip : BitVec 128) (s : State) : keepsBut [.net] s (sendNeigh v kind v6 ip s) := by
  unfold sendNeigh
  try dsimp only
  repeat' (first
    | with_reducible exact keepsBut_refl _ _
    | (with_reducible show keepsBut _ _ (emit _ _); with_reducible refine keepsBut_of ?_ (emit_keeps _ _) (by decide))
    | (with_reducible show keepsBut _ _ (countTx _ _); with_reducible refine keepsBut_of ?_ (countTx_keeps _ _) (by decide))
    | with_reducible refine keepsBut_ite ?_ ?_
    | with_reducible refine keepsBut_doIf (fun _ => ?_) ?_
    | with_reducible refine keepsBut_each (fun _ _ => ?_) ?_
    | dsimp only [id]
    | split)

theorem portUp_keeps (np : Nat) (s : State) : keepsBut [.err, .net] s (portUp np s) := by
  unfold portUp
  try dsimp only
  repeat' (first
    | with_reducible exact keepsBut_refl _ _
    | (with_reducible show keepsBut _ _ (mNet _ _ _); with_reducible refine keepsBut_of ?_ (mNet_keeps _ _ _) (by decide))
    | (with_reducible show keepsBut _ _ (sendNeigh _ _ _ _ _); with_reducible refine keepsBut_of ?_ (sendNeigh_keeps _ _ _ _ _) (by decide))
    | (with_reducible show keepsBut _ _ (endFault _ _ _); with_reducible refine keepsBut_of ?_ (endFault_keeps _ _ _) (by decide))
    | (with_reducible show keepsBut _ _ (notice _ _ _); with_reducible refine keepsBut_of ?_ (notice_keeps _ _ _) (by decide))
    | with_reducible refine keepsBut_ite ?_ ?_
    | with_reducible refine keepsBut_doIf (fun _ => ?_) ?_
    | with_reducible refine keepsBut_each (fun _ _ => ?_) ?_
    | dsimp only [id]
    | split)

theorem portDown_keeps (np : Nat) (s : State) : keepsBut [.err, .net] s (portDown np s) := by
  unfold portDown
  try dsimp only
  repeat' (first
    | with_reducible exact keepsBut_refl _ _
    | (with_reducible show keepsBut _ _ (mNet _ _ _); with_reducible refine keepsBut_of ?_ (mNet_keeps _ _ _) (by decide))
    | (with_reducible show keepsBut _ _ (notice _ _ _); with_reducible refine keepsBut_of ?_ (notice_keeps _ _ _) (by decide))
    | (with_reducible show keepsBut _ _ (faultErr _ _ _); with_reducible refine keepsBut_of ?_ (faultErr_keeps _ _ _) (by decide))
    | with_reducible refine keepsBut_ite ?_ ?_
    | with_reducible refine keepsBut_doIf (fun _ => ?_) ?_
    | with_reducible refine keepsBut_each (fun _ _ => ?_) ?_
    | dsimp only [id]
    | split)

theorem learn_keeps (np : Nat) (v6 : Bool) (ip : BitVec 128) (mac : BitVec 48) (s : State) : keepsBut [.net] s (learn np v6 ip mac s) := by
  unfold learn
  try dsimp only
  repeat' (first
    | with_reducible exact keepsBut_refl _ _
    | (with_reducible show keepsBut _ _ (mNet _ _ _); with_reducible refine keepsBut_of ?_ (mNet_keeps _ _ _) (by decide))
    | (with_reducible show keepsBut _ _ (sendOn _ _ _ _ _ _); with_reducible refine keepsBut_of ?_ (sendOn_keeps _ _ _ _ _ _) (by decide))
    | with_reducible refine keepsBut_ite ?_ ?_
    | with_reducible refine keepsBut_doIf (fun _ => ?_) ?_
    | with_reducible refine keepsBut_each (fun _ _ => ?_) ?_
    | dsimp only [id]
    | split)

theorem neighMsg_keeps (v : Via) (q : NeighMsg) (s : State) : keepsBut [.net] s (neighMsg v q s) := by
  unfold neighMsg
  try dsimp only
  repeat' (first
    | with_reducible exact keepsBut_refl _ _
    | (with_reducible show keepsBut _ _ (learn _ _ _ _ _); with_reducible refine keepsBut_of ?_ (learn_keeps _ _ _ _ _) (by decide))
    | (with_reducible show keepsBut _ _ (sendNeigh _ _ _ _ _); with_reducible refine keepsBut_of ?_ (sendNeigh_keeps _ _ _ _ _) (by decide))
    | with_reducible refine keepsBut_ite ?_ ?_
    | with_reducible refine keepsBut_doIf (fun _ => ?_) ?_
    | with_reducible refine keepsBut_each (fun _ _ => ?_) ?_
    | dsimp only [id]
    | split)

theorem neighRetry_keeps (np : Nat) (s : State) : keepsBut [.net] s (neighRetry np s) := by
  unfold neighRetry
  try dsimp only
  repeat' (first
    | with_reducible exact keepsBut_refl _ _
    | (with_reducible show keepsBut _ _ (mNet _ _ _); with_reducible refine keepsBut_of ?_ (mNet_keeps _ _ _) (by decide))
    | (with_reducible show keepsBut _ _ (sendSolicit _ _ _ _); with_reducible refine keepsBut_of ?_ (sendSolicit_keeps _ _ _ _) (by decide))
    | with_reducible refine keepsBut_ite ?_ ?_
    | with_reducible refine keepsBut_doIf (fun _ => ?_) ?_
    | with_reducible refine keepsBut_each (fun _ _ => ?_) ?_
    | dsimp only [id]
    | split)

theorem echoReply_keeps (v : Via) (v6 : Bool) (ip : BitVec 128) (body : Bytes) (s : State) : keepsBut [.net] s (echoReply v v6 ip body s) := by
  unfold echoReply
  try dsimp only
  repeat' (first
    | with_reducible exact keepsBut_refl _ _
    | (with_reducible show keepsBut _ _ (emit _ _); with_reducible refine keepsBut_of ?_ (emit_keeps _ _) (by decide))
    | (with_reducible show keepsBut _ _ (countTx _ _); with_reducible refine keepsBut_of ?_ (countTx_keeps _ _) (by decide))
    | (with_reducible show keepsBut _ _ (mNet _ _ _); with_reducible refine keepsBut_of ?_ (mNet_keeps _ _ _) (by decide))
    | with_reducible refine keepsBut_ite ?_ ?_
    | with_reducible refine keepsBut_doIf (fun _ => ?_) ?_
    | with_reducible refine keepsBut_each (fun _ _ => ?_) ?_
    | dsimp only [id]
    | split)

theorem opNetClr_keeps (np : Nat) (v : Word) (s : State) : keepsBut [.net] s (opNetClr np v s) := by
  unfold opNetClr
  try dsimp only
  repeat' (first
    | with_reducible exact keepsBut_refl _ _
    | (with_reducible show keepsBut _ _ (mNet _ _ _); with_reducible refine keepsBut_of ?_ (mNet_keeps _ _ _) (by decide))
    | with_reducible refine keepsBut_ite ?_ ?_
    | with_reducible refine keepsBut_doIf (fun _ => ?_) ?_
    | with_reducible refine keepsBut_each (fun _ _ => ?_) ?_
    | dsimp only [id]
    | split)

/-! Machine/RegRead.lean -/

theorem snapLog_keeps (key : Nat) (live : Option LogEntry) (s : State) : keepsBut [.err] s (snapLog key live s) := by
  unfold snapLog
  try dsimp only
  repeat' (first
    | with_reducible exact keepsBut_refl _ _
    | (with_reducible show keepsBut _ _ (mErr _ _); with_reducible refine keepsBut_of ?_ (mErr_keeps _ _) (by decide))
    | with_reducible refine keepsBut_ite ?_ ?_
    | with_reducible refine keepsBut_doIf (fun _ => ?_) ?_
    | with_reducible refine keepsBut_each (fun _ _ => ?_) ?_
    | dsimp only [id]
    | split)

theorem snapEpoch_keeps (s : State) : keepsBut [.sys] s (snapEpoch s) := by
  unfold snapEpoch
  try dsimp only
  repeat' (first
    | with_reducible exact keepsBut_refl _ _
    | (with_reducible show keepsBut _ _ (mSys _ _); with_reducible refine keepsBut_of ?_ (mSys_keeps _ _) (by decide))
    | with_reducible refine keepsBut_ite ?_ ?_
    | with_reducible refine keepsBut_doIf (fun _ => ?_) ?_
    | with_reducible refine keepsBut_each (fun _ _ => ?_) ?_
    | dsimp only [id]
    | split)

theorem snapCmp_keeps (i : Nat) (s : State) : keepsBut [.mil] s (snapCmp i s) := by
  unfold snapCmp
  try dsimp only
  repeat' (first
    | with_reducible exact keepsBut_refl _ _
    | (with_reducible show keepsBut _ _ (mMs _ _ _); with_reducible refine keepsBut_of ?_ (mMs_keeps _ _ _) (by decide))
    | with_reducible refine keepsBut_ite ?_ ?_
    | with_reducible refine keepsBut_doIf (fun _ => ?_) ?_
    | with_reducible refine keepsBut_each (fun _ _ => ?_) ?_
    | dsimp only [id]
    | split)

theorem snapHit_keeps (i : Nat) (s : State) : keepsBut [.mil] s (snapHit i s) := by
  unfold snapHit
  try dsimp only
  repeat' (first
    | with_reducible exact keepsBut_refl _ _
    | (with_reducible show keepsBut _ _ (mMs _ _ _); with_reducible refine keepsBut_of ?_ (mMs_keeps _ _ _) (by decide))
    | with_reducible refine keepsBut_ite ?_ ?_
    | with_reducible refine keepsBut_doIf (fun _ => ?_) ?_
    | with_reducible refine keepsBut_each (fun _ _ => ?_) ?_
    | dsimp only [id]
    | split)

theorem snapSync_keeps (n : Nat) (s : State) : keepsBut [.mil] s (snapSync n s) := by
  unfold snapSync
  try dsimp only
  repeat' (first
    | with_reducible exact keepsBut_refl _ _
    | (with_reducible show keepsBut _ _ (mMil _ _); with_reducible refine keepsBut_of ?_ (mMil_keeps _ _) (by decide))
    | with_reducible refine keepsBut_ite ?_ ?_
    | with_reducible refine keepsBut_doIf (fun _ => ?_) ?_
    | with_reducible refine keepsBut_each (fun _ _ => ?_) ?_
    | dsimp only [id]
    | split)

theorem jrnPop_keeps (s : State) : keepsBut [.nzl] s (jrnPop s) := by
  unfold jrnPop
  try dsimp only
  repeat' (first
    | with_reducible exact keepsBut_refl _ _
    | (with_reducible show keepsBut _ _ (mNzl _ _); with_reducible refine keepsBut_of ?_ (mNzl_keeps _ _) (by decide))
    | with_reducible refine keepsBut_ite ?_ ?_
    | with_reducible refine keepsBut_doIf (fun _ => ?_) ?_
    | with_reducible refine keepsBut_each (fun _ _ => ?_) ?_
    | dsimp only [id]
    | split)

theorem readEffect_keeps (a : Nat) (s : State) : keepsBut [.free, .regs, .sys, .err, .ptp, .pos, .mil, .fir, .stg, .nzl, .axs, .lmp] s (readEffect a s) := by
  unfold readEffect
  try dsimp only
  repeat' (first
    | with_reducible exact keepsBut_refl _ _
    | (with_reducible show keepsBut _ _ (tickFree _); with_reducible refine keepsBut_of ?_ (tickFree_keeps _) (by decide))
    | (with_reducible show keepsBut _ _ (opPosSnap _ _); with_reducible refine keepsBut_of ?_ (opPosSnap_keeps _ _) (by decide))
    | (with_reducible show keepsBut _ _ (opFirSnap _ _); with_reducible refine keepsBut_of ?_ (opFirSnap_keeps _ _) (by decide))
    | (with_reducible show keepsBut _ _ (opResData _ _); with_reducible refine keepsBut_of ?_ (opResData_keeps _ _) (by decide))
    | (with_reducible show keepsBut _ _ (opAxsTbl _ _); with_reducible refine keepsBut_of ?_ (opAxsTbl_keeps _ _) (by decide))
    | (with_reducible show keepsBut _ _ (opLampZone _ _); with_reducible refine keepsBut_of ?_ (opLampZone_keeps _ _) (by decide))
    | (with_reducible show keepsBut _ _ (opLampUtbl _ _); with_reducible refine keepsBut_of ?_ (opLampUtbl_keeps _ _) (by decide))
    | (with_reducible show keepsBut _ _ (opPtpSnap _ _); with_reducible refine keepsBut_of ?_ (opPtpSnap_keeps _ _) (by decide))
    | (with_reducible show keepsBut _ _ (snapLog _ _ _); with_reducible refine keepsBut_of ?_ (snapLog_keeps _ _ _) (by decide))
    | (with_reducible show keepsBut _ _ (snapEpoch _); with_reducible refine keepsBut_of ?_ (snapEpoch_keeps _) (by decide))
    | (with_reducible show keepsBut _ _ (snapCmp _ _); with_reducible refine keepsBut_of ?_ (snapCmp_keeps _ _) (by decide))
    | (with_reducible show keepsBut _ _ (snapHit _ _); with_reducible refine keepsBut_of ?_ (snapHit_keeps _ _) (by decide))
    | (with_reducible show keepsBut _ _ (snapSync _ _); with_reducible refine keepsBut_of ?_ (snapSync_keeps _ _) (by decide))
    | (with_reducible show keepsBut _ _ (jrnPop _); with_reducible refine keepsBut_of ?_ (jrnPop_keeps _) (by decide))
    | with_reducible refine keepsBut_ite ?_ ?_
    | with_reducible refine keepsBut_doIf (fun _ => ?_) ?_
    | with_reducible refine keepsBut_each (fun _ _ => ?_) ?_
    | dsimp only [id]
    | split)

/-! Machine/RegWrite.lean -/

theorem regStored_keeps (a : Nat) (old v : Word) (s : State) : keepsBut [.regs, .err, .ptp, .mgt, .tow, .pos, .fir, .nzl, .gul, .mem, .axs, .cal] s (regStored a old v s) := by
  unfold regStored
  try dsimp only
  repeat' (first
    | with_reducible exact keepsBut_refl _ _
    | (with_reducible show keepsBut _ _ (opPtpSel _ _); with_reducible refine keepsBut_of ?_ (opPtpSel_keeps _ _) (by decide))
    | (with_reducible show keepsBut _ _ (opPtpDom _ _); with_reducible refine keepsBut_of ?_ (opPtpDom_keeps _ _) (by decide))
    | (with_reducible show keepsBut _ _ (opPosCtl _ _ _ _); with_reducible refine keepsBut_of ?_ (opPosCtl_keeps _ _ _ _) (by decide))
    | (with_reducible show keepsBut _ _ (opIdxArm _ _); with_reducible refine keepsBut_of ?_ (opIdxArm_keeps _ _) (by decide))
    | (with_reducible show keepsBut _ _ (postLive _ _ _); with_reducible refine keepsBut_of ?_ (postLive_keeps _ _ _) (by decide))
    | (with_reducible show keepsBut _ _ (opPosPt _ _ _); with_reducible refine keepsBut_of ?_ (opPosPt_keeps _ _ _) (by decide))
    | (with_reducible show keepsBut _ _ (opGulCtl _ _ _ _); with_reducible refine keepsBut_of ?_ (opGulCtl_keeps _ _ _ _) (by decide))
    | (with_reducible show keepsBut _ _ (opAxsCtl _ _ _ _); with_reducible refine keepsBut_of ?_ (opAxsCtl_keeps _ _ _ _) (by decide))
    | (with_reducible show keepsBut _ _ (opAxsTarget _ _); with_reducible refine keepsBut_of ?_ (opAxsTarget_keeps _ _) (by decide))
    | (with_reducible show keepsBut _ _ (opAxsVtarget _ _ _); with_reducible refine keepsBut_of ?_ (opAxsVtarget_keeps _ _ _) (by decide))
    | (with_reducible show keepsBut _ _ (opAxsGat _ _ _); with_reducible refine keepsBut_of ?_ (opAxsGat_keeps _ _ _) (by decide))
    | (with_reducible show keepsBut _ _ (opAxsSetpos _ _ _); with_reducible refine keepsBut_of ?_ (opAxsSetpos_keeps _ _ _) (by decide))
    | with_reducible refine keepsBut_ite ?_ ?_
    | with_reducible refine keepsBut_doIf (fun _ => ?_) ?_
    | with_reducible refine keepsBut_each (fun _ _ => ?_) ?_
    | dsimp only [id]
    | split)

theorem rangeNote_keeps (a code : Nat) (s : State) : keepsBut [.err] s (rangeNote a code s) := by
  unfold rangeNote
  try dsimp only
  repeat' (first
    | with_reducible exact keepsBut_refl _ _
    | (with_reducible show keepsBut _ _ (raiseLim _ _ _ _ _ _); with_reducible refine keepsBut_of ?_ (raiseLim_keeps _ _ _ _ _ _) (by decide))
    | (with_reducible show keepsBut _ _ (notice _ _ _); with_reducible refine keepsBut_of ?_ (notice_keeps _ _ _) (by decide))
    | with_reducible refine keepsBut_ite ?_ ?_
    | with_reducible refine keepsBut_doIf (fun _ => ?_) ?_
    | with_reducible refine keepsBut_each (fun _ _ => ?_) ?_
    | dsimp only [id]
    | split)

theorem writeStored_keeps (img : Bool) (a : Nat) (d : RegDesc) (v : Word) (s : State) : keepsBut [.regs, .err, .ptp, .mgt, .tow, .pos, .fir, .nzl, .gul, .mem, .axs, .cal] s (writeStored img a d v s).1 := by
  unfold writeStored
  try dsimp only
  repeat' (first
    | with_reducible exact keepsBut_refl _ _
    | (with_reducible show keepsBut _ _ (notice _ _ _); with_reducible refine keepsBut_of ?_ (notice_keeps _ _ _) (by decide))
    | (with_reducible show keepsBut _ _ (rangeNote _ _ _); with_reducible refine keepsBut_of ?_ (rangeNote_keeps _ _ _) (by decide))
    | (with_reducible show keepsBut _ _ (regStored _ _ _ _); with_reducible refine keepsBut_of ?_ (regStored_keeps _ _ _ _) (by decide))
    | (with_reducible show keepsBut _ _ (setReg _ _ _); with_reducible refine keepsBut_of ?_ (setReg_keeps _ _ _) (by decide))
    | with_reducible refine keepsBut_ite ?_ ?_
    | with_reducible refine keepsBut_doIf (fun _ => ?_) ?_
    | with_reducible refine keepsBut_each (fun _ _ => ?_) ?_
    | dsimp only [id]
    | split)

theorem opPaceClr_keeps (v : Word) (s : State) : keepsBut [.sys] s (opPaceClr v s) := by
  unfold opPaceClr
  try dsimp only
  repeat' (first
    | with_reducible exact keepsBut_refl _ _
    | (with_reducible show keepsBut _ _ (mSys _ _); with_reducible refine keepsBut_of ?_ (mSys_keeps _ _) (by decide))
    | with_reducible refine keepsBut_ite ?_ ?_
    | with_reducible refine keepsBut_doIf (fun _ => ?_) ?_
    | with_reducible refine keepsBut_each (fun _ _ => ?_) ?_
    | dsimp only [id]
    | split)

theorem otpDo_keeps (cmd slot : Nat) (s : State) : keepsBut [.cfg] s (otpDo cmd slot s) := by
  unfold otpDo
  try dsimp only
  repeat' (first
    | with_reducible exact keepsBut_refl _ _
    | (with_reducible show keepsBut _ _ (mCfg _ _); with_reducible refine keepsBut_of ?_ (mCfg_keeps _ _) (by decide))
    | with_reducible refine keepsBut_ite ?_ ?_
    | with_reducible refine keepsBut_doIf (fun _ => ?_) ?_
    | with_reducible refine keepsBut_each (fun _ _ => ?_) ?_
    | dsimp only [id]
    | split)

theorem opOtpCmd_keeps (v : Word) (s : State) : optKeeps [.err, .cfg] s (opOtpCmd v s) := by
  unfold opOtpCmd
  try dsimp only
  repeat' (first
    | with_reducible exact keepsBut_refl _ _
    | with_reducible exact optKeeps_none _ _
    | with_reducible refine optKeeps_some ?_
    | with_reducible refine optKeeps_ite ?_ ?_
    | with_reducible refine optKeeps_took ?_
    | with_reducible refine optKeeps_denied ?_ (by decide)
    | (with_reducible show keepsBut _ _ (otpDo _ _ _); with_reducible refine keepsBut_of ?_ (otpDo_keeps _ _ _) (by decide))
    | with_reducible refine keepsBut_ite ?_ ?_
    | with_reducible refine keepsBut_doIf (fun _ => ?_) ?_
    | with_reducible refine keepsBut_each (fun _ _ => ?_) ?_
    | dsimp only [id]
    | split)

theorem opMemClr_keeps (v : Word) (s : State) : keepsBut [.mem] s (opMemClr v s) := by
  unfold opMemClr
  try dsimp only
  repeat' (first
    | with_reducible exact keepsBut_refl _ _
    | (with_reducible show keepsBut _ _ (mMem _ _); with_reducible refine keepsBut_of ?_ (mMem_keeps _ _) (by decide))
    | with_reducible refine keepsBut_ite ?_ ?_
    | with_reducible refine keepsBut_doIf (fun _ => ?_) ?_
    | with_reducible refine keepsBut_each (fun _ _ => ?_) ?_
    | dsimp only [id]
    | split)

theorem opBnkClr_keeps (b : Nat) (v : Word) (s : State) : keepsBut [.mem] s (opBnkClr b v s) := by
  unfold opBnkClr
  try dsimp only
  repeat' (first
    | with_reducible exact keepsBut_refl _ _
    | (with_reducible show keepsBut _ _ (mBank _ _ _); with_reducible refine keepsBut_of ?_ (mBank_keeps _ _ _) (by decide))
    | with_reducible refine keepsBut_ite ?_ ?_
    | with_reducible refine keepsBut_doIf (fun _ => ?_) ?_
    | with_reducible refine keepsBut_each (fun _ _ => ?_) ?_
    | dsimp only [id]
    | split)

theorem opArbClr_keeps (v : Word) (s : State) : keepsBut [.mem] s (opArbClr v s) := by
  unfold opArbClr
  try dsimp only
  repeat' (first
    | with_reducible exact keepsBut_refl _ _
    | (with_reducible show keepsBut _ _ (mMem _ _); with_reducible refine keepsBut_of ?_ (mMem_keeps _ _) (by decide))
    | with_reducible refine keepsBut_ite ?_ ?_
    | with_reducible refine keepsBut_doIf (fun _ => ?_) ?_
    | with_reducible refine keepsBut_each (fun _ _ => ?_) ?_
    | dsimp only [id]
    | split)

theorem opTowClr_keeps (v : Word) (s : State) : keepsBut [.tow] s (opTowClr v s) := by
  unfold opTowClr
  try dsimp only
  repeat' (first
    | with_reducible exact keepsBut_refl _ _
    | (with_reducible show keepsBut _ _ (mTow _ _); with_reducible refine keepsBut_of ?_ (mTow_keeps _ _) (by decide))
    | with_reducible refine keepsBut_ite ?_ ?_
    | with_reducible refine keepsBut_doIf (fun _ => ?_) ?_
    | with_reducible refine keepsBut_each (fun _ _ => ?_) ?_
    | dsimp only [id]
    | split)

theorem opCmpClr_keeps (v : Word) (s : State) : keepsBut [.cmp] s (opCmpClr v s) := by
  unfold opCmpClr
  try dsimp only
  repeat' (first
    | with_reducible exact keepsBut_refl _ _
    | (with_reducible show keepsBut _ _ (mCmp _ _); with_reducible refine keepsBut_of ?_ (mCmp_keeps _ _) (by decide))
    | with_reducible refine keepsBut_ite ?_ ?_
    | with_reducible refine keepsBut_doIf (fun _ => ?_) ?_
    | with_reducible refine keepsBut_each (fun _ _ => ?_) ?_
    | dsimp only [id]
    | split)

theorem opNzlClr_keeps (v : Word) (s : State) : keepsBut [.nzl] s (opNzlClr v s) := by
  unfold opNzlClr
  try dsimp only
  repeat' (first
    | with_reducible exact keepsBut_refl _ _
    | (with_reducible show keepsBut _ _ (mNzl _ _); with_reducible refine keepsBut_of ?_ (mNzl_keeps _ _) (by decide))
    | with_reducible refine keepsBut_ite ?_ ?_
    | with_reducible refine keepsBut_doIf (fun _ => ?_) ?_
    | with_reducible refine keepsBut_each (fun _ _ => ?_) ?_
    | dsimp only [id]
    | split)

theorem opMgtClr_keeps (v : Word) (s : State) : keepsBut [.mgt] s (opMgtClr v s) := by
  unfold opMgtClr
  try dsimp only
  repeat' (first
    | with_reducible exact keepsBut_refl _ _
    | (with_reducible show keepsBut _ _ (mMgt _ _); with_reducible refine keepsBut_of ?_ (mMgt_keeps _ _) (by decide))
    | with_reducible refine keepsBut_ite ?_ ?_
    | with_reducible refine keepsBut_doIf (fun _ => ?_) ?_
    | with_reducible refine keepsBut_each (fun _ _ => ?_) ?_
    | dsimp only [id]
    | split)

theorem opErrAck_keeps (v : Word) (s : State) : keepsBut [.err] s (opErrAck v s) := by
  unfold opErrAck
  try dsimp only
  repeat' (first
    | with_reducible exact keepsBut_refl _ _
    | (with_reducible show keepsBut _ _ (mErr _ _); with_reducible refine keepsBut_of ?_ (mErr_keeps _ _) (by decide))
    | with_reducible refine keepsBut_ite ?_ ?_
    | with_reducible refine keepsBut_doIf (fun _ => ?_) ?_
    | with_reducible refine keepsBut_each (fun _ _ => ?_) ?_
    | dsimp only [id]
    | split)

theorem opErrAckAll_keeps (v : Word) (s : State) : keepsBut [.err] s (opErrAckAll v s) := by
  unfold opErrAckAll
  try dsimp only
  repeat' (first
    | with_reducible exact keepsBut_refl _ _
    | (with_reducible show keepsBut _ _ (mErr _ _); with_reducible refine keepsBut_of ?_ (mErr_keeps _ _) (by decide))
    | with_reducible refine keepsBut_ite ?_ ?_
    | with_reducible refine keepsBut_doIf (fun _ => ?_) ?_
    | with_reducible refine keepsBut_each (fun _ _ => ?_) ?_
    | dsimp only [id]
    | split)

theorem opLatchClr_keeps (v : Word) (s : State) : keepsBut [.err] s (opLatchClr v s) := by
  unfold opLatchClr
  try dsimp only
  repeat' (first
    | with_reducible exact keepsBut_refl _ _
    | (with_reducible show keepsBut _ _ (mErr _ _); with_reducible refine keepsBut_of ?_ (mErr_keeps _ _) (by decide))
    | with_reducible refine keepsBut_ite ?_ ?_
    | with_reducible refine keepsBut_doIf (fun _ => ?_) ?_
    | with_reducible refine keepsBut_each (fun _ _ => ?_) ?_
    | dsimp only [id]
    | split)

theorem opErrClr_keeps (v : Word) (s : State) : keepsBut [.err] s (opErrClr v s) := by
  unfold opErrClr
  try dsimp only
  repeat' (first
    | with_reducible exact keepsBut_refl _ _
    | (with_reducible show keepsBut _ _ (mErr _ _); with_reducible refine keepsBut_of ?_ (mErr_keeps _ _) (by decide))
    | with_reducible refine keepsBut_ite ?_ ?_
    | with_reducible refine keepsBut_doIf (fun _ => ?_) ?_
    | with_reducible refine keepsBut_each (fun _ _ => ?_) ?_
    | dsimp only [id]
    | split)

theorem capStart_keeps (mask : BitVec 16) (s : State) : keepsBut [.cap] s (capStart mask s) := by
  unfold capStart
  try dsimp only
  repeat' (first
    | with_reducible exact keepsBut_refl _ _
    | (with_reducible show keepsBut _ _ (mCap _ _); with_reducible refine keepsBut_of ?_ (mCap_keeps _ _) (by decide))
    | with_reducible refine keepsBut_ite ?_ ?_
    | with_reducible refine keepsBut_doIf (fun _ => ?_) ?_
    | with_reducible refine keepsBut_each (fun _ _ => ?_) ?_
    | dsimp only [id]
    | split)

theorem capRefuse_keeps (s : State) : keepsBut [.err, .cap] s (capRefuse s) := by
  unfold capRefuse
  try dsimp only
  repeat' (first
    | with_reducible exact keepsBut_refl _ _
    | (with_reducible show keepsBut _ _ (mCap _ _); with_reducible refine keepsBut_of ?_ (mCap_keeps _ _) (by decide))
    | (with_reducible show keepsBut _ _ (notice _ _ _); with_reducible refine keepsBut_of ?_ (notice_keeps _ _ _) (by decide))
    | with_reducible refine keepsBut_ite ?_ ?_
    | with_reducible refine keepsBut_doIf (fun _ => ?_) ?_
    | with_reducible refine keepsBut_each (fun _ _ => ?_) ?_
    | dsimp only [id]
    | split)

theorem capZero_keeps (s : State) : keepsBut [.mem] s (capZero s) := by
  unfold capZero
  try dsimp only
  repeat' (first
    | with_reducible exact keepsBut_refl _ _
    | (with_reducible show keepsBut _ _ (mBank _ _ _); with_reducible refine keepsBut_of ?_ (mBank_keeps _ _ _) (by decide))
    | with_reducible refine keepsBut_ite ?_ ?_
    | with_reducible refine keepsBut_doIf (fun _ => ?_) ?_
    | with_reducible refine keepsBut_each (fun _ _ => ?_) ?_
    | dsimp only [id]
    | split)

theorem opCapCmd_keeps (v : Word) (s : State) : optKeeps [.err, .cap, .mem] s (opCapCmd v s) := by
  unfold opCapCmd
  try dsimp only
  repeat' (first
    | with_reducible exact keepsBut_refl _ _
    | with_reducible exact optKeeps_none _ _
    | with_reducible refine optKeeps_some ?_
    | with_reducible refine optKeeps_ite ?_ ?_
    | with_reducible refine optKeeps_took ?_
    | with_reducible refine optKeeps_denied ?_ (by decide)
    | (with_reducible show keepsBut _ _ (capStart _ _); with_reducible refine keepsBut_of ?_ (capStart_keeps _ _) (by decide))
    | (with_reducible show keepsBut _ _ (capRefuse _); with_reducible refine keepsBut_of ?_ (capRefuse_keeps _) (by decide))
    | (with_reducible show keepsBut _ _ (capZero _); with_reducible refine keepsBut_of ?_ (capZero_keeps _) (by decide))
    | with_reducible refine keepsBut_ite ?_ ?_
    | with_reducible refine keepsBut_doIf (fun _ => ?_) ?_
    | with_reducible refine keepsBut_each (fun _ _ => ?_) ?_
    | dsimp only [id]
    | split)

theorem writeCmd_keeps (img : Bool) (a : Nat) (v : Word) (s : State) : optKeeps [.free, .regs, .sys, .err, .cap, .cfg, .keep, .net, .ptp, .mgt, .tow, .cmp, .str, .pos, .mil, .fir, .stg, .nzl, .gat, .gul, .insp, .mem, .axs, .lmp, .par, .cal] s (writeCmd img a v s) := by
  unfold writeCmd
  try dsimp only
  repeat' (first
    | with_reducible exact keepsBut_refl _ _
    | (with_reducible show keepsBut _ _ (opKnot _ _).1; with_reducible refine keepsBut_of ?_ (opKnot_keeps _ _) (by decide))
    | (with_reducible show keepsBut _ _ (mSys _ _); with_reducible refine keepsBut_of ?_ (mSys_keeps _ _) (by decide))
    | (with_reducible show keepsBut _ _ (opPaceClr _ _); with_reducible refine keepsBut_of ?_ (opPaceClr_keeps _ _) (by decide))
    | (with_reducible show keepsBut _ _ (mKeep _ _); with_reducible refine keepsBut_of ?_ (mKeep_keeps _ _) (by decide))
    | (with_reducible show optKeeps _ _ (opOtpCmd _ _); with_reducible refine optKeeps_mono (opOtpCmd_keeps _ _) (by decide))
    | (with_reducible show keepsBut _ _ (opNetClr _ _ _); with_reducible refine keepsBut_of ?_ (opNetClr_keeps _ _ _) (by decide))
    | (with_reducible show keepsBut _ _ (opPtpClr _ _ _); with_reducible refine keepsBut_of ?_ (opPtpClr_keeps _ _ _) (by decide))
    | (with_reducible show keepsBut _ _ (opMgtClr _ _); with_reducible refine keepsBut_of ?_ (opMgtClr_keeps _ _) (by decide))
    | (with_reducible show keepsBut _ _ (opTowClr _ _); with_reducible refine keepsBut_of ?_ (opTowClr_keeps _ _) (by decide))
    | (with_reducible show keepsBut _ _ (opMemVerify _ _); with_reducible refine keepsBut_of ?_ (opMemVerify_keeps _ _) (by decide))
    | (with_reducible show keepsBut _ _ (opMemClr _ _); with_reducible refine keepsBut_of ?_ (opMemClr_keeps _ _) (by decide))
    | (with_reducible show keepsBut _ _ (opBnkClr _ _ _); with_reducible refine keepsBut_of ?_ (opBnkClr_keeps _ _ _) (by decide))
    | (with_reducible show keepsBut _ _ (opArbClr _ _); with_reducible refine keepsBut_of ?_ (opArbClr_keeps _ _) (by decide))
    | (with_reducible show keepsBut _ _ (opStrClr _ _); with_reducible refine keepsBut_of ?_ (opStrClr_keeps _ _) (by decide))
    | (with_reducible show keepsBut _ _ (opCmpClr _ _); with_reducible refine keepsBut_of ?_ (opCmpClr_keeps _ _) (by decide))
    | (with_reducible show keepsBut _ _ (mEnc _ _ _); with_reducible refine keepsBut_of ?_ (mEnc_keeps _ _ _) (by decide))
    | (with_reducible show keepsBut _ _ (mMil _ _); with_reducible refine keepsBut_of ?_ (mMil_keeps _ _) (by decide))
    | (with_reducible show keepsBut _ _ (mMs _ _ _); with_reducible refine keepsBut_of ?_ (mMs_keeps _ _ _) (by decide))
    | (with_reducible show keepsBut _ _ (postLive _ _ _); with_reducible refine keepsBut_of ?_ (postLive_keeps _ _ _) (by decide))
    | (with_reducible show keepsBut _ _ (opFirCntClr _ _); with_reducible refine keepsBut_of ?_ (opFirCntClr_keeps _ _) (by decide))
    | (with_reducible show keepsBut _ _ (opGeoCheck _ _); with_reducible refine keepsBut_of ?_ (opGeoCheck_keeps _ _) (by decide))
    | (with_reducible show keepsBut _ _ (opResData _ _); with_reducible refine keepsBut_of ?_ (opResData_keeps _ _) (by decide))
    | (with_reducible show keepsBut _ _ (opNzlReq _ _); with_reducible refine keepsBut_of ?_ (opNzlReq_keeps _ _) (by decide))
    | (with_reducible show keepsBut _ _ (opNzlClr _ _); with_reducible refine keepsBut_of ?_ (opNzlClr_keeps _ _) (by decide))
    | (with_reducible show keepsBut _ _ (opGateCmd _ _ _); with_reducible refine keepsBut_of ?_ (opGateCmd_keeps _ _ _) (by decide))
    | (with_reducible show keepsBut _ _ (hcfgRefuse _); with_reducible refine keepsBut_of ?_ (hcfgRefuse_keeps _) (by decide))
    | (with_reducible show keepsBut _ _ (opHcfgGo _ _); with_reducible refine keepsBut_of ?_ (opHcfgGo_keeps _ _) (by decide))
    | (with_reducible show keepsBut _ _ (eyeRefuse _); with_reducible refine keepsBut_of ?_ (eyeRefuse_keeps _) (by decide))
    | (with_reducible show keepsBut _ _ (opEyeGo _ _); with_reducible refine keepsBut_of ?_ (opEyeGo_keeps _ _) (by decide))
    | (with_reducible show keepsBut _ _ (opGulClr _ _ _); with_reducible refine keepsBut_of ?_ (opGulClr_keeps _ _ _) (by decide))
    | (with_reducible show keepsBut _ _ (opCamClr _ _ _); with_reducible refine keepsBut_of ?_ (opCamClr_keeps _ _ _) (by decide))
    | (with_reducible show keepsBut _ _ (opInsRel _ _ _); with_reducible refine keepsBut_of ?_ (opInsRel_keeps _ _ _) (by decide))
    | (with_reducible show keepsBut _ _ (opInsClr _ _ _); with_reducible refine keepsBut_of ?_ (opInsClr_keeps _ _ _) (by decide))
    | (with_reducible show keepsBut _ _ (axTblStep _); with_reducible refine keepsBut_of ?_ (axTblStep_keeps _) (by decide))
    | (with_reducible show keepsBut _ _ (notice _ _ _); with_reducible refine keepsBut_of ?_ (notice_keeps _ _ _) (by decide))
    | (with_reducible show keepsBut _ _ (opAxsTbl _ _); with_reducible refine keepsBut_of ?_ (opAxsTbl_keeps _ _) (by decide))
    | (with_reducible show keepsBut _ _ (mAxs _ _ _); with_reducible refine keepsBut_of ?_ (mAxs_keeps _ _ _) (by decide))
    | (with_reducible show keepsBut _ _ (opLmpCmd _ _); with_reducible refine keepsBut_of ?_ (opLmpCmd_keeps _ _) (by decide))
    | (with_reducible show keepsBut _ _ (opLampZone _ _); with_reducible refine keepsBut_of ?_ (opLampZone_keeps _ _) (by decide))
    | (with_reducible show keepsBut _ _ (opLampUtbl _ _); with_reducible refine keepsBut_of ?_ (opLampUtbl_keeps _ _) (by decide))
    | (with_reducible show keepsBut _ _ (mLmp _ _); with_reducible refine keepsBut_of ?_ (mLmp_keeps _ _) (by decide))
    | (with_reducible show keepsBut _ _ (opLbusGo _ _ _); with_reducible refine keepsBut_of ?_ (opLbusGo_keeps _ _ _) (by decide))
    | (with_reducible show keepsBut _ _ (opParClr _ _); with_reducible refine keepsBut_of ?_ (opParClr_keeps _ _) (by decide))
    | (with_reducible show keepsBut _ _ (opCalForce _ _); with_reducible refine keepsBut_of ?_ (opCalForce_keeps _ _) (by decide))
    | (with_reducible show keepsBut _ _ (opErrAck _ _); with_reducible refine keepsBut_of ?_ (opErrAck_keeps _ _) (by decide))
    | (with_reducible show keepsBut _ _ (opErrAckAll _ _); with_reducible refine keepsBut_of ?_ (opErrAckAll_keeps _ _) (by decide))
    | (with_reducible show keepsBut _ _ (opLatchClr _ _); with_reducible refine keepsBut_of ?_ (opLatchClr_keeps _ _) (by decide))
    | (with_reducible show keepsBut _ _ (opErrClr _ _); with_reducible refine keepsBut_of ?_ (opErrClr_keeps _ _) (by decide))
    | (with_reducible show optKeeps _ _ (opCapCmd _ _); with_reducible refine optKeeps_mono (opCapCmd_keeps _ _) (by decide))
    | with_reducible exact optKeeps_none _ _
    | with_reducible refine optKeeps_some ?_
    | with_reducible refine optKeeps_ite ?_ ?_
    | with_reducible refine optKeeps_took ?_
    | with_reducible refine optKeeps_denied ?_ (by decide)
    | with_reducible refine keepsBut_ite ?_ ?_
    | with_reducible refine keepsBut_doIf (fun _ => ?_) ?_
    | with_reducible refine keepsBut_each (fun _ _ => ?_) ?_
    | dsimp only [id]
    | split)

theorem otpGate_keeps (a : Nat) (v : Word) (s : State) : keepsBut [.cfg] s (otpGate a v s) := by
  unfold otpGate
  try dsimp only
  repeat' (first
    | with_reducible exact keepsBut_refl _ _
    | (with_reducible show keepsBut _ _ (mCfg _ _); with_reducible refine keepsBut_of ?_ (mCfg_keeps _ _) (by decide))
    | with_reducible refine keepsBut_ite ?_ ?_
    | with_reducible refine keepsBut_doIf (fun _ => ?_) ?_
    | with_reducible refine keepsBut_each (fun _ _ => ?_) ?_
    | dsimp only [id]
    | split)

theorem regWrite_keeps (img : Bool) (a : Nat) (v : Word) (s : State) : keepsBut [.free, .regs, .sys, .err, .cap, .cfg, .keep, .net, .ptp, .mgt, .tow, .cmp, .str, .pos, .mil, .fir, .stg, .nzl, .gat, .gul, .insp, .mem, .axs, .lmp, .par, .cal] s (regWrite img a v s).1 := by
  unfold regWrite
  split
  · exact keepsBut_refl _ _
  dsimp only
  refine keepsBut_of ?_ (otpGate_keeps _ _ _) (by decide)
  cases h : writeCmd img a v s with
  | some r => exact keepsBut_mono (writeCmd_keeps img a v s r h) (by decide)
  | none =>
    dsimp only
    split
    · exact keepsBut_of (keepsBut_refl _ s) (writeStored_keeps _ _ _ _ s) (by decide)
    · exact keepsBut_refl _ s

theorem dbgRefuse_keeps (s : State) : keepsBut [.err] s (dbgRefuse s) := by
  unfold dbgRefuse
  try dsimp only
  repeat' (first
    | with_reducible exact keepsBut_refl _ _
    | (with_reducible show keepsBut _ _ (raiseLim _ _ _ _ _ _); with_reducible refine keepsBut_of ?_ (raiseLim_keeps _ _ _ _ _ _) (by decide))
    | with_reducible refine keepsBut_ite ?_ ?_
    | with_reducible refine keepsBut_doIf (fun _ => ?_) ?_
    | with_reducible refine keepsBut_each (fun _ _ => ?_) ?_
    | dsimp only [id]
    | split)

theorem masterWrite_keeps (m : Master) (a : Nat) (v : Word) (s : State) : keepsBut [.free, .regs, .sys, .err, .cap, .cfg, .keep, .net, .ptp, .mgt, .tow, .cmp, .str, .pos, .mil, .fir, .stg, .nzl, .gat, .gul, .insp, .mem, .axs, .lmp, .par, .cal] s (masterWrite m a v s).1 := by
  unfold masterWrite
  try dsimp only
  repeat' (first
    | with_reducible exact keepsBut_refl _ _
    | (with_reducible show keepsBut _ _ (mErr _ _); with_reducible refine keepsBut_of ?_ (mErr_keeps _ _) (by decide))
    | (with_reducible show keepsBut _ _ (notice _ _ _); with_reducible refine keepsBut_of ?_ (notice_keeps _ _ _) (by decide))
    | (with_reducible show keepsBut _ _ (regWrite _ _ _ _).1; with_reducible refine keepsBut_of ?_ (regWrite_keeps _ _ _ _) (by decide))
    | (with_reducible show keepsBut _ _ (dbgRefuse _); with_reducible refine keepsBut_of ?_ (dbgRefuse_keeps _) (by decide))
    | with_reducible refine keepsBut_ite ?_ ?_
    | with_reducible refine keepsBut_doIf (fun _ => ?_) ?_
    | with_reducible refine keepsBut_each (fun _ _ => ?_) ?_
    | dsimp only [id]
    | split)

theorem masterRead_keeps (m : Master) (a : Nat) (s : State) : keepsBut [.free, .regs, .sys, .err, .ptp, .pos, .mil, .fir, .stg, .nzl, .axs, .lmp] s (masterRead m a s).2.1 := by
  unfold masterRead
  try dsimp only
  repeat' (first
    | with_reducible exact keepsBut_refl _ _
    | (with_reducible show keepsBut _ _ (readEffect _ _); with_reducible refine keepsBut_of ?_ (readEffect_keeps _ _) (by decide))
    | with_reducible refine keepsBut_ite ?_ ?_
    | with_reducible refine keepsBut_doIf (fun _ => ?_) ?_
    | with_reducible refine keepsBut_each (fun _ _ => ?_) ?_
    | dsimp only [id]
    | split)

/-! Machine/Reset.lean -/

theorem blocksReset_keeps (s : State) : keepsBut [.regs, .act, .sys, .err, .cap, .dbg, .cfg, .net, .netId, .ptp, .mgt, .tow, .plc, .cmp, .str, .fir, .stg, .nzl, .gat, .gul, .insp, .mem, .axs, .lmp, .par, .cal] s (blocksReset s) := by
  unfold blocksReset
  extract_lets _ _ _ r r2
  have h : keepsBut [.regs, .act, .sys, .err, .cap, .dbg, .cfg, .net, .netId, .ptp, .mgt, .tow, .plc, .cmp, .str, .fir, .stg, .nzl, .gat, .gul, .insp, .mem, .axs, .lmp, .par, .cal] s r := by
    intro p hp; cases p <;> first | exact absurd (by decide) hp | rfl
  clear_value r
  exact keepsBut_each (fun a u => keepsBut_of (keepsBut_refl _ u) (mAxs_keeps _ _ u) (by decide))
    (keepsBut_of h (mBank_keeps _ _ _) (by decide))

theorem resetOutputs_keeps (s : State) : keepsBut [.mil, .axs, .par] s (resetOutputs s) := by
  unfold resetOutputs
  try dsimp only
  repeat' (first
    | with_reducible exact keepsBut_refl _ _
    | (with_reducible show keepsBut _ _ (lanesIdle _); with_reducible refine keepsBut_of ?_ (lanesIdle_keeps _) (by decide))
    | (with_reducible show keepsBut _ _ (hitchRelease _); with_reducible refine keepsBut_of ?_ (hitchRelease_keeps _) (by decide))
    | (with_reducible show keepsBut _ _ (emit _ _); with_reducible refine keepsBut_of ?_ (emit_keeps _ _) (by decide))
    | (with_reducible show keepsBut _ _ (bridgeTo _ _ _ _); with_reducible refine keepsBut_of ?_ (bridgeTo_keeps _ _ _ _) (by decide))
    | (with_reducible show keepsBut _ _ (fireRests _ _ _); with_reducible refine keepsBut_of ?_ (fireRests_keeps _ _ _) (by decide))
    | (with_reducible show keepsBut _ _ (pulseSet _ _ _); with_reducible refine keepsBut_of ?_ (pulseSet_keeps _ _ _) (by decide))
    | with_reducible refine keepsBut_ite ?_ ?_
    | with_reducible refine keepsBut_doIf (fun _ => ?_) ?_
    | with_reducible refine keepsBut_each (fun _ _ => ?_) ?_
    | dsimp only [id]
    | split)

theorem milestonesOff_keeps (s : State) : keepsBut [.pos, .mil] s (milestonesOff s) := by
  unfold milestonesOff
  try dsimp only
  repeat' (first
    | with_reducible exact keepsBut_refl _ _
    | (with_reducible show keepsBut _ _ (mPos _ _); with_reducible refine keepsBut_of ?_ (mPos_keeps _ _) (by decide))
    | (with_reducible show keepsBut _ _ (mMil _ _); with_reducible refine keepsBut_of ?_ (mMil_keeps _ _) (by decide))
    | with_reducible refine keepsBut_ite ?_ ?_
    | with_reducible refine keepsBut_doIf (fun _ => ?_) ?_
    | with_reducible refine keepsBut_each (fun _ _ => ?_) ?_
    | dsimp only [id]
    | split)

theorem logCoreLost_keeps (s : State) : keepsBut [.err, .keep] s (logCoreLost s) := by
  unfold logCoreLost
  try dsimp only
  repeat' (first
    | with_reducible exact keepsBut_refl _ _
    | (with_reducible show keepsBut _ _ (mErr _ _); with_reducible refine keepsBut_of ?_ (mErr_keeps _ _) (by decide))
    | (with_reducible show keepsBut _ _ (mKeep _ _); with_reducible refine keepsBut_of ?_ (mKeep_keeps _ _) (by decide))
    | with_reducible refine keepsBut_ite ?_ ?_
    | with_reducible refine keepsBut_doIf (fun _ => ?_) ?_
    | with_reducible refine keepsBut_each (fun _ _ => ?_) ?_
    | dsimp only [id]
    | split)

theorem coldReset_keeps (cause : BitVec 3) (s : State) : keepsBut [.regs, .act, .sys, .err, .cap, .dbg, .cfg, .keep, .net, .netId, .ptp, .mgt, .tow, .plc, .cmp, .str, .pos, .mil, .fir, .stg, .nzl, .gat, .gul, .insp, .mem, .axs, .lmp, .par, .cal] s (coldReset cause s) := by
  unfold coldReset
  try dsimp only
  repeat' (first
    | with_reducible exact keepsBut_refl _ _
    | (with_reducible show keepsBut _ _ (mCfg _ _); with_reducible refine keepsBut_of ?_ (mCfg_keeps _ _) (by decide))
    | (with_reducible show keepsBut _ _ (mKeep _ _); with_reducible refine keepsBut_of ?_ (mKeep_keeps _ _) (by decide))
    | (with_reducible show keepsBut _ _ (blocksReset _); with_reducible refine keepsBut_of ?_ (blocksReset_keeps _) (by decide))
    | (with_reducible show keepsBut _ _ (resetOutputs _); with_reducible refine keepsBut_of ?_ (resetOutputs_keeps _) (by decide))
    | (with_reducible show keepsBut _ _ (milestonesOff _); with_reducible refine keepsBut_of ?_ (milestonesOff_keeps _) (by decide))
    | (with_reducible show keepsBut _ _ (logCoreLost _); with_reducible refine keepsBut_of ?_ (logCoreLost_keeps _) (by decide))
    | with_reducible refine keepsBut_ite ?_ ?_
    | with_reducible refine keepsBut_doIf (fun _ => ?_) ?_
    | with_reducible refine keepsBut_each (fun _ _ => ?_) ?_
    | dsimp only [id]
    | split)

theorem supplyLow_keeps (s : State) : keepsBut [.regs, .act, .sys, .err, .cap, .dbg, .cfg, .keep, .net, .netId, .ptp, .mgt, .tow, .plc, .cmp, .str, .pos, .mil, .fir, .stg, .nzl, .gat, .gul, .insp, .mem, .axs, .lmp, .par, .cal] s (supplyLow s) := by
  unfold supplyLow
  try dsimp only
  repeat' (first
    | with_reducible exact keepsBut_refl _ _
    | (with_reducible show keepsBut _ _ (mCfg _ _); with_reducible refine keepsBut_of ?_ (mCfg_keeps _ _) (by decide))
    | (with_reducible show keepsBut _ _ (coldReset _ _); with_reducible refine keepsBut_of ?_ (coldReset_keeps _ _) (by decide))
    | with_reducible refine keepsBut_ite ?_ ?_
    | with_reducible refine keepsBut_doIf (fun _ => ?_) ?_
    | with_reducible refine keepsBut_each (fun _ _ => ?_) ?_
    | dsimp only [id]
    | split)

theorem resetReleased_keeps (bootSel : BitVec 2) (role : Bool) (s : State) : keepsBut [.sys, .dbg, .cfg, .mgt, .mem, .par] s (resetReleased bootSel role s) := by
  unfold resetReleased
  try dsimp only
  repeat' (first
    | with_reducible exact keepsBut_refl _ _
    | (with_reducible show keepsBut _ _ (mDbg _ _); with_reducible refine keepsBut_of ?_ (mDbg_keeps _ _) (by decide))
    | (with_reducible show keepsBut _ _ (mCfg _ _); with_reducible refine keepsBut_of ?_ (mCfg_keeps _ _) (by decide))
    | (with_reducible show keepsBut _ _ (mPar _ _); with_reducible refine keepsBut_of ?_ (mPar_keeps _ _) (by decide))
    | (with_reducible show keepsBut _ _ (setDev _ _); with_reducible refine keepsBut_of ?_ (setDev_keeps _ _) (by decide))
    | (with_reducible show keepsBut _ _ (capZero _); with_reducible refine keepsBut_of ?_ (capZero_keeps _) (by decide))
    | with_reducible refine keepsBut_ite ?_ ?_
    | with_reducible refine keepsBut_doIf (fun _ => ?_) ?_
    | with_reducible refine keepsBut_each (fun _ _ => ?_) ?_
    | dsimp only [id]
    | split)

theorem keepOutputs_keeps (s : State) : keepsBut [.par] s (keepOutputs s) := by
  unfold keepOutputs
  try dsimp only
  repeat' (first
    | with_reducible exact keepsBut_refl _ _
    | (with_reducible show keepsBut _ _ (emit _ _); with_reducible refine keepsBut_of ?_ (emit_keeps _ _) (by decide))
    | (with_reducible show keepsBut _ _ (hitchRelease _); with_reducible refine keepsBut_of ?_ (hitchRelease_keeps _) (by decide))
    | with_reducible refine keepsBut_ite ?_ ?_
    | with_reducible refine keepsBut_doIf (fun _ => ?_) ?_
    | with_reducible refine keepsBut_each (fun _ _ => ?_) ?_
    | dsimp only [id]
    | split)

theorem keepBlocks_keeps (s : State) : keepsBut [.regs, .act, .pos, .mil] s (keepBlocks s) := by
  unfold keepBlocks
  try dsimp only
  repeat' (first
    | with_reducible exact keepsBut_refl _ _
    | with_reducible refine keepsBut_ite ?_ ?_
    | with_reducible refine keepsBut_doIf (fun _ => ?_) ?_
    | with_reducible refine keepsBut_each (fun _ _ => ?_) ?_
    | dsimp only [id]
    | split
    | (intro p hp; cases p <;> first | exact absurd (by decide) hp | rfl))

theorem keepReset_keeps (s : State) : keepsBut [.regs, .act, .err, .keep, .pos, .mil, .par] s (keepReset s) := by
  unfold keepReset
  try dsimp only
  repeat' (first
    | with_reducible exact keepsBut_refl _ _
    | (with_reducible show keepsBut _ _ (mKeep _ _); with_reducible refine keepsBut_of ?_ (mKeep_keeps _ _) (by decide))
    | (with_reducible show keepsBut _ _ (raise _ _ _ _); with_reducible refine keepsBut_of ?_ (raise_keeps _ _ _ _) (by decide))
    | (with_reducible show keepsBut _ _ (keepOutputs _); with_reducible refine keepsBut_of ?_ (keepOutputs_keeps _) (by decide))
    | (with_reducible show keepsBut _ _ (keepBlocks _); with_reducible refine keepsBut_of ?_ (keepBlocks_keeps _) (by decide))
    | with_reducible refine keepsBut_ite ?_ ?_
    | with_reducible refine keepsBut_doIf (fun _ => ?_) ?_
    | with_reducible refine keepsBut_each (fun _ _ => ?_) ?_
    | dsimp only [id]
    | split)

/-! Machine/Image.lean -/

theorem mSlot_keeps (i : Nat) (f : SlotResult → SlotResult) (s : State) : keepsBut [.cfg] s (mSlot i f s) := by
  unfold mSlot
  try dsimp only
  repeat' (first
    | with_reducible exact keepsBut_refl _ _
    | (with_reducible show keepsBut _ _ (mCfg _ _); with_reducible refine keepsBut_of ?_ (mCfg_keeps _ _) (by decide))
    | with_reducible refine keepsBut_ite ?_ ?_
    | with_reducible refine keepsBut_doIf (fun _ => ?_) ?_
    | with_reducible refine keepsBut_each (fun _ _ => ?_) ?_
    | dsimp only [id]
    | split)

theorem candidate_keeps (s : State) : keepsBut [.err, .cfg] s (candidate s) := by
  unfold candidate
  try dsimp only
  repeat' (first
    | with_reducible exact keepsBut_refl _ _
    | (with_reducible show keepsBut _ _ (mCfg _ _); with_reducible refine keepsBut_of ?_ (mCfg_keeps _ _) (by decide))
    | (with_reducible show keepsBut _ _ (raise _ _ _ _); with_reducible refine keepsBut_of ?_ (raise_keeps _ _ _ _) (by decide))
    | with_reducible refine keepsBut_ite ?_ ?_
    | with_reducible refine keepsBut_doIf (fun _ => ?_) ?_
    | with_reducible refine keepsBut_each (fun _ _ => ?_) ?_
    | dsimp only [id]
    | split)

theorem imageHeaders_keeps (a b : Bytes) (s : State) : keepsBut [.err, .cfg] s (imageHeaders a b s) := by
  unfold imageHeaders
  try dsimp only
  repeat' (first
    | with_reducible exact keepsBut_refl _ _
    | (with_reducible show keepsBut _ _ (mCfg _ _); with_reducible refine keepsBut_of ?_ (mCfg_keeps _ _) (by decide))
    | (with_reducible show keepsBut _ _ (mSlot _ _ _); with_reducible refine keepsBut_of ?_ (mSlot_keeps _ _ _) (by decide))
    | (with_reducible show keepsBut _ _ (candidate _); with_reducible refine keepsBut_of ?_ (candidate_keeps _) (by decide))
    | with_reducible refine keepsBut_ite ?_ ?_
    | with_reducible refine keepsBut_doIf (fun _ => ?_) ?_
    | with_reducible refine keepsBut_each (fun _ _ => ?_) ?_
    | dsimp only [id]
    | split)

theorem reject_keeps (reason detail : Nat) (s : State) : keepsBut [.err, .cfg] s (reject reason detail s) := by
  unfold reject
  try dsimp only
  repeat' (first
    | with_reducible exact keepsBut_refl _ _
    | (with_reducible show keepsBut _ _ (mCfg _ _); with_reducible refine keepsBut_of ?_ (mCfg_keeps _ _) (by decide))
    | (with_reducible show keepsBut _ _ (mSlot _ _ _); with_reducible refine keepsBut_of ?_ (mSlot_keeps _ _ _) (by decide))
    | (with_reducible show keepsBut _ _ (candidate _); with_reducible refine keepsBut_of ?_ (candidate_keeps _) (by decide))
    | with_reducible refine keepsBut_ite ?_ ?_
    | with_reducible refine keepsBut_doIf (fun _ => ?_) ?_
    | with_reducible refine keepsBut_each (fun _ _ => ?_) ?_
    | dsimp only [id]
    | split)

theorem rejectReset_keeps (reason detail : Nat) (s : State) : keepsBut [.regs, .act, .sys, .err, .cap, .dbg, .cfg, .net, .netId, .ptp, .mgt, .tow, .plc, .cmp, .str, .fir, .stg, .nzl, .gat, .gul, .insp, .mem, .axs, .lmp, .par, .cal] s (rejectReset reason detail s) := by
  unfold rejectReset
  try dsimp only
  repeat' (first
    | with_reducible exact keepsBut_refl _ _
    | (with_reducible show keepsBut _ _ (mSys _ _); with_reducible refine keepsBut_of ?_ (mSys_keeps _ _) (by decide))
    | (with_reducible show keepsBut _ _ (mCfg _ _); with_reducible refine keepsBut_of ?_ (mCfg_keeps _ _) (by decide))
    | (with_reducible show keepsBut _ _ (mDom _ _ _); with_reducible refine keepsBut_of ?_ (mDom_keeps _ _ _) (by decide))
    | (with_reducible show keepsBut _ _ (blocksReset _); with_reducible refine keepsBut_of ?_ (blocksReset_keeps _) (by decide))
    | (with_reducible show keepsBut _ _ (reject _ _ _); with_reducible refine keepsBut_of ?_ (reject_keeps _ _ _) (by decide))
    | with_reducible refine keepsBut_ite ?_ ?_
    | with_reducible refine keepsBut_doIf (fun _ => ?_) ?_
    | with_reducible refine keepsBut_each (fun _ _ => ?_) ?_
    | dsimp only [id]
    | split)

theorem imagePass1_keeps (img : Bytes) (s : State) : keepsBut [.err, .cfg] s (imagePass1 img s) := by
  unfold imagePass1
  try dsimp only
  repeat' (first
    | with_reducible exact keepsBut_refl _ _
    | (with_reducible show keepsBut _ _ (mCfg _ _); with_reducible refine keepsBut_of ?_ (mCfg_keeps _ _) (by decide))
    | (with_reducible show keepsBut _ _ (reject _ _ _); with_reducible refine keepsBut_of ?_ (reject_keeps _ _ _) (by decide))
    | with_reducible refine keepsBut_ite ?_ ?_
    | with_reducible refine keepsBut_doIf (fun _ => ?_) ?_
    | with_reducible refine keepsBut_each (fun _ _ => ?_) ?_
    | dsimp only [id]
    | split)

theorem applyRegs_keeps : ∀ (n : Nat) (b : Bytes) (s : State), keepsBut [.free, .regs, .sys, .err, .cap, .cfg, .keep, .net, .ptp, .mgt, .tow, .cmp, .str, .pos, .mil, .fir, .stg, .nzl, .gat, .gul, .insp, .mem, .axs, .lmp, .par, .cal] s (applyRegs n b s).1
  | 0, _, s => keepsBut_refl _ s
  | n + 1, b, s => by
    unfold applyRegs
    dsimp only
    split
    · exact keepsBut_of (keepsBut_of (keepsBut_refl _ s) (masterWrite_keeps _ _ _ s) (by decide)) (applyRegs_keeps n _ _) (by decide)
    · exact keepsBut_of (keepsBut_refl _ s) (masterWrite_keeps _ _ _ s) (by decide)
    · exact keepsBut_of (keepsBut_refl _ s) (masterWrite_keeps _ _ _ s) (by decide)

theorem imageWrites_keeps : ∀ (l : List (Nat × Word)) (s : State), keepsBut [.free, .regs, .sys, .err, .cap, .cfg, .keep, .net, .ptp, .mgt, .tow, .cmp, .str, .pos, .mil, .fir, .stg, .nzl, .gat, .gul, .insp, .mem, .axs, .lmp, .par, .cal] s (imageWrites l s).1
  | [], s => keepsBut_refl _ s
  | x :: l, s => by
    unfold imageWrites
    dsimp only
    split
    · exact keepsBut_of (keepsBut_of (keepsBut_refl _ s) (regWrite_keeps _ _ _ s) (by decide)) (imageWrites_keeps l _) (by decide)
    · exact keepsBut_of (keepsBut_refl _ s) (regWrite_keeps _ _ _ s) (by decide)

theorem applyNetId_keeps (b : Bytes) (s : State) : keepsBut [.free, .regs, .sys, .err, .cap, .cfg, .keep, .net, .netId, .ptp, .mgt, .tow, .cmp, .str, .pos, .mil, .fir, .stg, .nzl, .gat, .gul, .insp, .mem, .axs, .lmp, .par, .cal] s (applyNetId b s).1 := by
  unfold applyNetId
  try dsimp only
  repeat' (first
    | with_reducible exact keepsBut_refl _ _
    | (with_reducible show keepsBut _ _ (imageWrites _ _).1; with_reducible refine keepsBut_of ?_ (imageWrites_keeps _ _) (by decide))
    | with_reducible refine keepsBut_ite ?_ ?_
    | with_reducible refine keepsBut_doIf (fun _ => ?_) ?_
    | with_reducible refine keepsBut_each (fun _ _ => ?_) ?_
    | dsimp only [id]
    | split
    | (intro p hp; cases p <;> first | exact absurd (by decide) hp | rfl))

theorem applyKeys_keeps (b : Bytes) (s : State) : keepsBut [.mgt] s (applyKeys b s).1 := by
  unfold applyKeys
  try dsimp only
  repeat' (first
    | with_reducible exact keepsBut_refl _ _
    | (with_reducible show keepsBut _ _ (mMgt _ _); with_reducible refine keepsBut_of ?_ (mMgt_keeps _ _) (by decide))
    | with_reducible refine keepsBut_ite ?_ ?_
    | with_reducible refine keepsBut_doIf (fun _ => ?_) ?_
    | with_reducible refine keepsBut_each (fun _ _ => ?_) ?_
    | dsimp only [id]
    | split)

theorem applyDram_keeps (b : Bytes) (s : State) : keepsBut [.cfg, .mem] s (applyDram b s).1 := by
  unfold applyDram
  try dsimp only
  repeat' (first
    | with_reducible exact keepsBut_refl _ _
    | (with_reducible show keepsBut _ _ (mCfg _ _); with_reducible refine keepsBut_of ?_ (mCfg_keeps _ _) (by decide))
    | (with_reducible show keepsBut _ _ (mMem _ _); with_reducible refine keepsBut_of ?_ (mMem_keeps _ _) (by decide))
    | with_reducible refine keepsBut_ite ?_ ?_
    | with_reducible refine keepsBut_doIf (fun _ => ?_) ?_
    | with_reducible refine keepsBut_each (fun _ _ => ?_) ?_
    | dsimp only [id]
    | split)

theorem applyCal_keeps (b : Bytes) (s : State) : keepsBut [.cal] s (applyCal b s).1 := by
  unfold applyCal
  try dsimp only
  repeat' (first
    | with_reducible exact keepsBut_refl _ _
    | (with_reducible show keepsBut _ _ (mCal _ _); with_reducible refine keepsBut_of ?_ (mCal_keeps _ _) (by decide))
    | with_reducible refine keepsBut_ite ?_ ?_
    | with_reducible refine keepsBut_doIf (fun _ => ?_) ?_
    | with_reducible refine keepsBut_each (fun _ _ => ?_) ?_
    | dsimp only [id]
    | split)

theorem applyTable_keeps (b : Bytes) (s : State) : keepsBut [.mem, .axs, .lmp] s (applyTable b s).1 := by
  unfold applyTable
  try dsimp only
  repeat' (first
    | with_reducible exact keepsBut_refl _ _
    | (with_reducible show keepsBut _ _ (mAxs _ _ _); with_reducible refine keepsBut_of ?_ (mAxs_keeps _ _ _) (by decide))
    | (with_reducible show keepsBut _ _ (mLmp _ _); with_reducible refine keepsBut_of ?_ (mLmp_keeps _ _) (by decide))
    | (with_reducible show keepsBut _ _ (bankPut _ _ _ _); with_reducible refine keepsBut_of ?_ (bankPut_keeps _ _ _ _) (by decide))
    | with_reducible refine keepsBut_ite ?_ ?_
    | with_reducible refine keepsBut_doIf (fun _ => ?_) ?_
    | with_reducible refine keepsBut_each (fun _ _ => ?_) ?_
    | dsimp only [id]
    | split)

theorem applyGeom_keeps (b : Bytes) (s : State) : keepsBut [.free, .regs, .sys, .err, .cap, .cfg, .keep, .net, .ptp, .mgt, .tow, .cmp, .str, .pos, .mil, .fir, .stg, .nzl, .gat, .gul, .insp, .mem, .axs, .lmp, .par, .cal] s (applyGeom b s).1 := by
  unfold applyGeom
  try dsimp only
  repeat' (first
    | with_reducible exact keepsBut_refl _ _
    | (with_reducible show keepsBut _ _ (mStg _ _); with_reducible refine keepsBut_of ?_ (mStg_keeps _ _) (by decide))
    | (with_reducible show keepsBut _ _ (imageWrites _ _).1; with_reducible refine keepsBut_of ?_ (imageWrites_keeps _ _) (by decide))
    | with_reducible refine keepsBut_ite ?_ ?_
    | with_reducible refine keepsBut_doIf (fun _ => ?_) ?_
    | with_reducible refine keepsBut_each (fun _ _ => ?_) ?_
    | dsimp only [id]
    | split)

theorem applyRecord_keeps (r : Bytes) (s : State) : keepsBut [.free, .regs, .sys, .err, .cap, .cfg, .keep, .net, .netId, .ptp, .mgt, .tow, .cmp, .str, .pos, .mil, .fir, .stg, .nzl, .gat, .gul, .insp, .mem, .axs, .lmp, .par, .cal] s (applyRecord r s).1 := by
  unfold applyRecord
  try dsimp only
  repeat' (first
    | with_reducible exact keepsBut_refl _ _
    | (with_reducible show keepsBut _ _ (applyRegs _ _ _).1; with_reducible refine keepsBut_of ?_ (applyRegs_keeps _ _ _) (by decide))
    | (with_reducible show keepsBut _ _ (applyNetId _ _).1; with_reducible refine keepsBut_of ?_ (applyNetId_keeps _ _) (by decide))
    | (with_reducible show keepsBut _ _ (applyKeys _ _).1; with_reducible refine keepsBut_of ?_ (applyKeys_keeps _ _) (by decide))
    | (with_reducible show keepsBut _ _ (applyDram _ _).1; with_reducible refine keepsBut_of ?_ (applyDram_keeps _ _) (by decide))
    | (with_reducible show keepsBut _ _ (applyCal _ _).1; with_reducible refine keepsBut_of ?_ (applyCal_keeps _ _) (by decide))
    | (with_reducible show keepsBut _ _ (applyTable _ _).1; with_reducible refine keepsBut_of ?_ (applyTable_keeps _ _) (by decide))
    | (with_reducible show keepsBut _ _ (applyGeom _ _).1; with_reducible refine keepsBut_of ?_ (applyGeom_keeps _ _) (by decide))
    | with_reducible refine keepsBut_ite ?_ ?_
    | with_reducible refine keepsBut_doIf (fun _ => ?_) ?_
    | with_reducible refine keepsBut_each (fun _ _ => ?_) ?_
    | dsimp only [id]
    | split)

theorem recordApply_keeps (r : Bytes) (s : State) : keepsBut [.free, .regs, .act, .sys, .err, .cap, .dbg, .cfg, .keep, .net, .netId, .ptp, .mgt, .tow, .plc, .cmp, .str, .pos, .mil, .fir, .stg, .nzl, .gat, .gul, .insp, .mem, .axs, .lmp, .par, .cal] s (recordApply r s) := by
  unfold recordApply
  try dsimp only
  repeat' (first
    | with_reducible exact keepsBut_refl _ _
    | (with_reducible show keepsBut _ _ (mCfg _ _); with_reducible refine keepsBut_of ?_ (mCfg_keeps _ _) (by decide))
    | (with_reducible show keepsBut _ _ (rejectReset _ _ _); with_reducible refine keepsBut_of ?_ (rejectReset_keeps _ _ _) (by decide))
    | (with_reducible show keepsBut _ _ (applyRecord _ _).1; with_reducible refine keepsBut_of ?_ (applyRecord_keeps _ _) (by decide))
    | with_reducible refine keepsBut_ite ?_ ?_
    | with_reducible refine keepsBut_doIf (fun _ => ?_) ?_
    | with_reducible refine keepsBut_each (fun _ _ => ?_) ?_
    | dsimp only [id]
    | split)

theorem modeWrites_keeps (c : Nat) (s : State) : keepsBut [] s (modeWrites c s) := by
  unfold modeWrites
  try dsimp only
  repeat' (first
    | with_reducible exact keepsBut_refl _ _
    | (with_reducible show keepsBut _ _ (emit _ _); with_reducible refine keepsBut_of ?_ (emit_keeps _ _) (by decide))
    | with_reducible refine keepsBut_ite ?_ ?_
    | with_reducible refine keepsBut_doIf (fun _ => ?_) ?_
    | with_reducible refine keepsBut_each (fun _ _ => ?_) ?_
    | dsimp only [id]
    | split)

theorem dramInit_keeps (c : Nat) (s : State) : keepsBut [] s (dramInit c s) := by
  unfold dramInit
  try dsimp only
  repeat' (first
    | with_reducible exact keepsBut_refl _ _
    | (with_reducible show keepsBut _ _ (emit _ _); with_reducible refine keepsBut_of ?_ (emit_keeps _ _) (by decide))
    | (with_reducible show keepsBut _ _ (modeWrites _ _); with_reducible refine keepsBut_of ?_ (modeWrites_keeps _ _) (by decide))
    | with_reducible refine keepsBut_ite ?_ ?_
    | with_reducible refine keepsBut_doIf (fun _ => ?_) ?_
    | with_reducible refine keepsBut_each (fun _ _ => ?_) ?_
    | dsimp only [id]
    | split)

theorem accept_keeps (boot : BitVec 64) (s : State) : keepsBut [.sys, .err, .cfg, .mgt, .gul, .mem, .par] s (accept boot s) := by
  unfold accept
  try dsimp only
  repeat' (first
    | with_reducible exact keepsBut_refl _ _
    | (with_reducible show keepsBut _ _ (mMgt _ _); with_reducible refine keepsBut_of ?_ (mMgt_keeps _ _) (by decide))
    | (with_reducible show keepsBut _ _ (mCfg _ _); with_reducible refine keepsBut_of ?_ (mCfg_keeps _ _) (by decide))
    | (with_reducible show keepsBut _ _ (faultErr _ _ _); with_reducible refine keepsBut_of ?_ (faultErr_keeps _ _ _) (by decide))
    | (with_reducible show keepsBut _ _ (dramInit _ _); with_reducible refine keepsBut_of ?_ (dramInit_keeps _ _) (by decide))
    | (with_reducible show keepsBut _ _ (mChan _ _ _); with_reducible refine keepsBut_of ?_ (mChan_keeps _ _ _) (by decide))
    | (with_reducible show keepsBut _ _ (tethStart _); with_reducible refine keepsBut_of ?_ (tethStart_keeps _) (by decide))
    | (with_reducible show keepsBut _ _ (linksStart _); with_reducible refine keepsBut_of ?_ (linksStart_keeps _) (by decide))
    | (with_reducible show keepsBut _ _ (setDev _ _); with_reducible refine keepsBut_of ?_ (setDev_keeps _ _) (by decide))
    | with_reducible refine keepsBut_ite ?_ ?_
    | with_reducible refine keepsBut_doIf (fun _ => ?_) ?_
    | with_reducible refine keepsBut_each (fun _ _ => ?_) ?_
    | dsimp only [id]
    | split)

theorem imagePass2_keeps (boot : BitVec 64) (s : State) : keepsBut [.regs, .act, .sys, .err, .cap, .dbg, .cfg, .net, .netId, .ptp, .mgt, .tow, .plc, .cmp, .str, .fir, .stg, .nzl, .gat, .gul, .insp, .mem, .axs, .lmp, .par, .cal] s (imagePass2 boot s) := by
  unfold imagePass2
  try dsimp only
  repeat' (first
    | with_reducible exact keepsBut_refl _ _
    | (with_reducible show keepsBut _ _ (rejectReset _ _ _); with_reducible refine keepsBut_of ?_ (rejectReset_keeps _ _ _) (by decide))
    | (with_reducible show keepsBut _ _ (accept _ _); with_reducible refine keepsBut_of ?_ (accept_keeps _ _) (by decide))
    | with_reducible refine keepsBut_ite ?_ ?_
    | with_reducible refine keepsBut_doIf (fun _ => ?_) ?_
    | with_reducible refine keepsBut_each (fun _ _ => ?_) ?_
    | dsimp only [id]
    | split)

/-! Machine/StartUp.lean -/

theorem verifyEnd_keeps (ch : Nat) (r : VerifyReads) (s : State) : keepsBut [.mem] s (verifyEnd ch r s) := by
  unfold verifyEnd
  try dsimp only
  repeat' (first
    | with_reducible exact keepsBut_refl _ _
    | (with_reducible show keepsBut _ _ (delayUpdate _ _); with_reducible refine keepsBut_of ?_ (delayUpdate_keeps _ _) (by decide))
    | (with_reducible show keepsBut _ _ (mChan _ _ _); with_reducible refine keepsBut_of ?_ (mChan_keeps _ _ _) (by decide))
    | with_reducible refine keepsBut_ite ?_ ?_
    | with_reducible refine keepsBut_doIf (fun _ => ?_) ?_
    | with_reducible refine keepsBut_each (fun _ _ => ?_) ?_
    | dsimp only [id]
    | split)

theorem dramFill_keeps (ch : Nat) (s : State) : keepsBut [.mem] s (dramFill ch s) := by
  unfold dramFill
  try dsimp only
  repeat' (first
    | with_reducible exact keepsBut_refl _ _
    | (with_reducible show keepsBut _ _ (emit _ _); with_reducible refine keepsBut_of ?_ (emit_keeps _ _) (by decide))
    | (with_reducible show keepsBut _ _ (mChan _ _ _); with_reducible refine keepsBut_of ?_ (mChan_keeps _ _ _) (by decide))
    | with_reducible refine keepsBut_ite ?_ ?_
    | with_reducible refine keepsBut_doIf (fun _ => ?_) ?_
    | with_reducible refine keepsBut_each (fun _ _ => ?_) ?_
    | dsimp only [id]
    | split)

theorem dramVerified_keeps (res : List VerifyReads) (s : State) : keepsBut [.err, .cfg, .plc, .mem] s (dramVerified res s) := by
  unfold dramVerified
  try dsimp only
  repeat' (first
    | with_reducible exact keepsBut_refl _ _
    | (with_reducible show keepsBut _ _ (dramFill _ _); with_reducible refine keepsBut_of ?_ (dramFill_keeps _ _) (by decide))
    | (with_reducible show keepsBut _ _ (verifyEnd _ _ _); with_reducible refine keepsBut_of ?_ (verifyEnd_keeps _ _ _) (by decide))
    | (with_reducible show keepsBut _ _ (raise _ _ _ _); with_reducible refine keepsBut_of ?_ (raise_keeps _ _ _ _) (by decide))
    | (with_reducible show keepsBut _ _ (faultErr _ _ _); with_reducible refine keepsBut_of ?_ (faultErr_keeps _ _ _) (by decide))
    | (with_reducible show keepsBut _ _ (mCfg _ _); with_reducible refine keepsBut_of ?_ (mCfg_keeps _ _) (by decide))
    | (with_reducible show keepsBut _ _ (placeUpdate _); with_reducible refine keepsBut_of ?_ (placeUpdate_keeps _) (by decide))
    | with_reducible refine keepsBut_ite ?_ ?_
    | with_reducible refine keepsBut_doIf (fun _ => ?_) ?_
    | with_reducible refine keepsBut_each (fun _ _ => ?_) ?_
    | dsimp only [id]
    | split)

theorem becomeReady_keeps (s : State) : keepsBut [.act, .sys, .err, .cfg, .mgt, .tow, .plc, .str, .pos, .fir, .stg, .nzl, .gat, .gul, .insp, .mem, .axs, .lmp, .par] s (becomeReady s) := by
  unfold becomeReady
  try dsimp only
  repeat' (first
    | with_reducible exact keepsBut_refl _ _
    | (with_reducible show keepsBut _ _ (mCfg _ _); with_reducible refine keepsBut_of ?_ (mCfg_keeps _ _) (by decide))
    | (with_reducible show keepsBut _ _ (setDev _ _); with_reducible refine keepsBut_of ?_ (setDev_keeps _ _) (by decide))
    | (with_reducible show keepsBut _ _ (advicePins _); with_reducible refine keepsBut_of ?_ (advicePins_keeps _) (by decide))
    | (with_reducible show keepsBut _ _ (placeUpdate _); with_reducible refine keepsBut_of ?_ (placeUpdate_keeps _) (by decide))
    | (with_reducible show keepsBut _ _ (axesFollow _); with_reducible refine keepsBut_of ?_ (axesFollow_keeps _) (by decide))
    | (with_reducible show keepsBut _ _ (takeKnot _ _); with_reducible refine keepsBut_of ?_ (takeKnot_keeps _ _) (by decide))
    | (with_reducible show keepsBut _ _ (parEnter _); with_reducible refine keepsBut_of ?_ (parEnter_keeps _) (by decide))
    | with_reducible refine keepsBut_ite ?_ ?_
    | with_reducible refine keepsBut_doIf (fun _ => ?_) ?_
    | with_reducible refine keepsBut_each (fun _ _ => ?_) ?_
    | dsimp only [id]
    | split)

theorem lanewaitOver_keeps (s : State) : keepsBut [.err, .cfg] s (lanewaitOver s) := by
  unfold lanewaitOver
  try dsimp only
  repeat' (first
    | with_reducible exact keepsBut_refl _ _
    | (with_reducible show keepsBut _ _ (mCfg _ _); with_reducible refine keepsBut_of ?_ (mCfg_keeps _ _) (by decide))
    | (with_reducible show keepsBut _ _ (notice _ _ _); with_reducible refine keepsBut_of ?_ (notice_keeps _ _ _) (by decide))
    | with_reducible refine keepsBut_ite ?_ ?_
    | with_reducible refine keepsBut_doIf (fun _ => ?_) ?_
    | with_reducible refine keepsBut_each (fun _ _ => ?_) ?_
    | dsimp only [id]
    | split)

theorem paceOne_keeps (n : Nat) (m : BitVec 16) (s : State) : keepsBut [.sys, .err] s (paceOne n m s) := by
  unfold paceOne
  try dsimp only
  repeat' (first
    | with_reducible exact keepsBut_refl _ _
    | (with_reducible show keepsBut _ _ (mSys _ _); with_reducible refine keepsBut_of ?_ (mSys_keeps _ _) (by decide))
    | (with_reducible show keepsBut _ _ (notice _ _ _); with_reducible refine keepsBut_of ?_ (notice_keeps _ _ _) (by decide))
    | (with_reducible show keepsBut _ _ (faultErr _ _ _); with_reducible refine keepsBut_of ?_ (faultErr_keeps _ _ _) (by decide))
    | with_reducible refine keepsBut_ite ?_ ?_
    | with_reducible refine keepsBut_doIf (fun _ => ?_) ?_
    | with_reducible refine keepsBut_each (fun _ _ => ?_) ?_
    | dsimp only [id]
    | split)

theorem paceAll_keeps (measured : List Nat) (s : State) : keepsBut [.sys, .err, .par] s (paceAll measured s) := by
  unfold paceAll
  try dsimp only
  repeat' (first
    | with_reducible exact keepsBut_refl _ _
    | (with_reducible show keepsBut _ _ (advicePins _); with_reducible refine keepsBut_of ?_ (advicePins_keeps _) (by decide))
    | (with_reducible show keepsBut _ _ (paceOne _ _ _); with_reducible refine keepsBut_of ?_ (paceOne_keeps _ _ _) (by decide))
    | with_reducible refine keepsBut_ite ?_ ?_
    | with_reducible refine keepsBut_doIf (fun _ => ?_) ?_
    | with_reducible refine keepsBut_each (fun _ _ => ?_) ?_
    | dsimp only [id]
    | split)

/-! Machine/Capture.lean -/

theorem captureDone_keeps (s : State) : keepsBut [.cap, .mem] s (captureDone s) := by
  unfold captureDone
  try dsimp only
  repeat' (first
    | with_reducible exact keepsBut_refl _ _
    | (with_reducible show keepsBut _ _ (mCap _ _); with_reducible refine keepsBut_of ?_ (mCap_keeps _ _) (by decide))
    | (with_reducible show keepsBut _ _ (bankPut _ _ _ _); with_reducible refine keepsBut_of ?_ (bankPut_keeps _ _ _ _) (by decide))
    | with_reducible refine keepsBut_ite ?_ ?_
    | with_reducible refine keepsBut_doIf (fun _ => ?_) ?_
    | with_reducible refine keepsBut_each (fun _ _ => ?_) ?_
    | dsimp only [id]
    | split)

/-! Machine/RegCmds.lean -/

theorem accWrite_keeps (m : Master) (a : Nat) (v : Word) (s : State) : keepsBut [.free, .regs, .act, .sys, .err, .cap, .dbg, .cfg, .keep, .net, .netId, .ptp, .mgt, .tow, .plc, .cmp, .str, .pos, .mil, .fir, .stg, .nzl, .gat, .gul, .insp, .mem, .axs, .lmp, .par, .cal] s (accWrite m a v s) := by
  unfold accWrite
  try dsimp only
  repeat' (first
    | with_reducible exact keepsBut_refl _ _
    | (with_reducible show keepsBut _ _ (emit _ _); with_reducible refine keepsBut_of ?_ (emit_keeps _ _) (by decide))
    | (with_reducible show keepsBut _ _ (masterWrite _ _ _ _).1; with_reducible refine keepsBut_of ?_ (masterWrite_keeps _ _ _ _) (by decide))
    | (with_reducible show keepsBut _ _ (rejectReset _ _ _); with_reducible refine keepsBut_of ?_ (rejectReset_keeps _ _ _) (by decide))
    | with_reducible refine keepsBut_ite ?_ ?_
    | with_reducible refine keepsBut_doIf (fun _ => ?_) ?_
    | with_reducible refine keepsBut_each (fun _ _ => ?_) ?_
    | dsimp only [id]
    | split)

theorem accRead_keeps (m : Master) (a : Nat) (s : State) : keepsBut [.free, .regs, .sys, .err, .ptp, .pos, .mil, .fir, .stg, .nzl, .axs, .lmp] s (accRead m a s) := by
  unfold accRead
  try dsimp only
  repeat' (first
    | with_reducible exact keepsBut_refl _ _
    | (with_reducible show keepsBut _ _ (emit _ _); with_reducible refine keepsBut_of ?_ (emit_keeps _ _) (by decide))
    | (with_reducible show keepsBut _ _ (masterRead _ _ _).2.1; with_reducible refine keepsBut_of ?_ (masterRead_keeps _ _ _) (by decide))
    | with_reducible refine keepsBut_ite ?_ ?_
    | with_reducible refine keepsBut_doIf (fun _ => ?_) ?_
    | with_reducible refine keepsBut_each (fun _ _ => ?_) ?_
    | dsimp only [id]
    | split)

/-! Machine/Rmp.lean -/

theorem rmpBankWrite_keeps (b o al : Nat) (d : Bytes) (s : State) : keepsBut [.err, .tow, .fir, .nzl, .gat, .mem] s (rmpBankWrite b o al d s).2 := by
  unfold rmpBankWrite
  try dsimp only
  repeat' (first
    | with_reducible exact keepsBut_refl _ _
    | (with_reducible show keepsBut _ _ (bankGrant _ _ _); with_reducible refine keepsBut_of ?_ (bankGrant_keeps _ _ _) (by decide))
    | (with_reducible show keepsBut _ _ (bankRefuse _ _); with_reducible refine keepsBut_of ?_ (bankRefuse_keeps _ _) (by decide))
    | (with_reducible show keepsBut _ _ (notice _ _ _); with_reducible refine keepsBut_of ?_ (notice_keeps _ _ _) (by decide))
    | (with_reducible show keepsBut _ _ (raiseLim _ _ _ _ _ _); with_reducible refine keepsBut_of ?_ (raiseLim_keeps _ _ _ _ _ _) (by decide))
    | (with_reducible show keepsBut _ _ (nozWrite _ _ _); with_reducible refine keepsBut_of ?_ (nozWrite_keeps _ _ _) (by decide))
    | (with_reducible show keepsBut _ _ (bankPut _ _ _ _); with_reducible refine keepsBut_of ?_ (bankPut_keeps _ _ _ _) (by decide))
    | with_reducible refine keepsBut_ite ?_ ?_
    | with_reducible refine keepsBut_doIf (fun _ => ?_) ?_
    | with_reducible refine keepsBut_each (fun _ _ => ?_) ?_
    | dsimp only [id]
    | split)

theorem rmpReadWord_keeps (space a : Nat) (s : State) : keepsBut [.free, .regs, .sys, .err, .ptp, .pos, .mil, .fir, .stg, .nzl, .mem, .axs, .lmp] s (rmpReadWord space a s).2.2 := by
  unfold rmpReadWord
  try dsimp only
  repeat' (first
    | with_reducible exact keepsBut_refl _ _
    | (with_reducible show keepsBut _ _ (bankRefuse _ _); with_reducible refine keepsBut_of ?_ (bankRefuse_keeps _ _) (by decide))
    | (with_reducible show keepsBut _ _ (bankGrant _ _ _); with_reducible refine keepsBut_of ?_ (bankGrant_keeps _ _ _) (by decide))
    | (with_reducible show keepsBut _ _ (masterRead _ _ _).2.1; with_reducible refine keepsBut_of ?_ (masterRead_keeps _ _ _) (by decide))
    | with_reducible refine keepsBut_ite ?_ ?_
    | with_reducible refine keepsBut_doIf (fun _ => ?_) ?_
    | with_reducible refine keepsBut_each (fun _ _ => ?_) ?_
    | dsimp only [id]
    | split)

theorem rmpReads_keeps (space : Nat) : ∀ (n a : Nat) (s : State), keepsBut [.free, .regs, .sys, .err, .ptp, .pos, .mil, .fir, .stg, .nzl, .mem, .axs, .lmp] s (rmpReads space n a s).2.2
  | 0, _, s => keepsBut_refl _ s
  | n + 1, a, s => by
    unfold rmpReads
    dsimp only
    split
    · exact rmpReadWord_keeps space a s
    · exact keepsBut_of (rmpReadWord_keeps space a s) (rmpReads_keeps space n _ _) (by decide)

theorem rmpWrites_keeps (space : Nat) : ∀ (k a : Nat) (d : Bytes) (n : Nat) (s : State), keepsBut [.free, .regs, .sys, .err, .cap, .cfg, .keep, .net, .ptp, .mgt, .tow, .cmp, .str, .pos, .mil, .fir, .stg, .nzl, .gat, .gul, .insp, .mem, .axs, .lmp, .par, .cal] s (rmpWrites space k a d n s).2.2
  | 0, _, _, _, s => keepsBut_refl _ s
  | k + 1, a, d, n, s => by
    unfold rmpWrites
    extract_lets v r0 r
    have h : keepsBut [.free, .regs, .sys, .err, .cap, .cfg, .keep, .net, .ptp, .mgt, .tow, .cmp, .str, .pos, .mil, .fir, .stg, .nzl, .gat, .gul, .insp, .mem, .axs, .lmp, .par, .cal] s r.2 := by
      unfold r
      split
      · exact keepsBut_of (keepsBut_refl _ s) (masterWrite_keeps .rmp a v s) (by decide)
      · exact keepsBut_of (keepsBut_refl _ s) (rmpBankWrite_keeps _ a 1 _ s) (by decide)
    clear_value r
    split
    · exact h
    · exact keepsBut_of h (rmpWrites_keeps space k _ _ _ _) (by decide)

theorem rmpCommand_keeps (code arg : Nat) (s : State) : keepsBut [.free, .sys, .err, .mgt, .tow, .str, .fir, .nzl, .gat, .mem, .par] s (rmpCommand code arg s).2 := by
  unfold rmpCommand
  try dsimp only
  repeat' (first
    | with_reducible exact keepsBut_refl _ _
    | (with_reducible show keepsBut _ _ (mMgt _ _); with_reducible refine keepsBut_of ?_ (mMgt_keeps _ _) (by decide))
    | (with_reducible show keepsBut _ _ (ctlCommand _ _); with_reducible refine keepsBut_of ?_ (ctlCommand_keeps _ _) (by decide))
    | (with_reducible show keepsBut _ _ (opYield _ _).2; with_reducible refine keepsBut_of ?_ (opYield_keeps _ _) (by decide))
    | with_reducible refine keepsBut_ite ?_ ?_
    | with_reducible refine keepsBut_doIf (fun _ => ?_) ?_
    | with_reducible refine keepsBut_each (fun _ _ => ?_) ?_
    | dsimp only [id]
    | split)

theorem rmpExec_keeps (ss : Session) (k : Key) (ty : Nat) (b : Bytes) (s : State) : keepsBut [.free, .regs, .sys, .err, .cap, .cfg, .keep, .net, .ptp, .mgt, .tow, .cmp, .str, .pos, .mil, .fir, .stg, .nzl, .gat, .gul, .insp, .mem, .axs, .lmp, .par, .cal] s (rmpExec ss k ty b s).2.2 := by
  unfold rmpExec
  try dsimp only
  repeat' (first
    | with_reducible exact keepsBut_refl _ _
    | (with_reducible show keepsBut _ _ (opSubscribe _ _ _ _ _).2.2; with_reducible refine keepsBut_of ?_ (opSubscribe_keeps _ _ _ _ _) (by decide))
    | (with_reducible show keepsBut _ _ (rmpBankWrite _ _ _ _ _).2; with_reducible refine keepsBut_of ?_ (rmpBankWrite_keeps _ _ _ _ _) (by decide))
    | (with_reducible show keepsBut _ _ (rmpReads _ _ _ _).2.2; with_reducible refine keepsBut_of ?_ (rmpReads_keeps _ _ _ _) (by decide))
    | (with_reducible show keepsBut _ _ (rmpWrites _ _ _ _ _ _).2.2; with_reducible refine keepsBut_of ?_ (rmpWrites_keeps _ _ _ _ _ _) (by decide))
    | (with_reducible show keepsBut _ _ (rmpCommand _ _ _).2; with_reducible refine keepsBut_of ?_ (rmpCommand_keeps _ _ _) (by decide))
    | with_reducible refine keepsBut_ite ?_ ?_
    | with_reducible refine keepsBut_doIf (fun _ => ?_) ?_
    | with_reducible refine keepsBut_each (fun _ _ => ?_) ?_
    | dsimp only [id]
    | split)

theorem rmpReply_keeps (v : Via) (ss : Session) (k : Key) (ty seq result : Nat) (body : Bytes) (keep : Bool) (s : State) : keepsBut [.net, .mgt] s (rmpReply v ss k ty seq result body keep s) := by
  unfold rmpReply
  try dsimp only
  repeat' (first
    | with_reducible exact keepsBut_refl _ _
    | (with_reducible show keepsBut _ _ (sendOn _ _ _ _ _ _); with_reducible refine keepsBut_of ?_ (sendOn_keeps _ _ _ _ _ _) (by decide))
    | (with_reducible show keepsBut _ _ (mWin _ _ _); with_reducible refine keepsBut_of ?_ (mWin_keeps _ _ _) (by decide))
    | with_reducible refine keepsBut_ite ?_ ?_
    | with_reducible refine keepsBut_doIf (fun _ => ?_) ?_
    | with_reducible refine keepsBut_each (fun _ _ => ?_) ?_
    | dsimp only [id]
    | split)

theorem rmpServe_keeps (v : Via) (ss : Session) (k : Key) (d : Bytes) (s : State) : keepsBut [.free, .regs, .sys, .err, .cap, .cfg, .keep, .net, .ptp, .mgt, .tow, .cmp, .str, .pos, .mil, .fir, .stg, .nzl, .gat, .gul, .insp, .mem, .axs, .lmp, .par, .cal] s (rmpServe v ss k d s) := by
  unfold rmpServe
  try dsimp only
  repeat' (first
    | with_reducible exact keepsBut_refl _ _
    | (with_reducible show keepsBut _ _ (rmpReply _ _ _ _ _ _ _ _ _); with_reducible refine keepsBut_of ?_ (rmpReply_keeps _ _ _ _ _ _ _ _ _) (by decide))
    | (with_reducible show keepsBut _ _ (rmpExec _ _ _ _ _).2.2; with_reducible refine keepsBut_of ?_ (rmpExec_keeps _ _ _ _ _) (by decide))
    | (with_reducible show keepsBut _ _ (mMgt _ _); with_reducible refine keepsBut_of ?_ (mMgt_keeps _ _) (by decide))
    | with_reducible refine keepsBut_ite ?_ ?_
    | with_reducible refine keepsBut_doIf (fun _ => ?_) ?_
    | with_reducible refine keepsBut_each (fun _ _ => ?_) ?_
    | dsimp only [id]
    | split)

theorem rmpRx_keeps (v : Via) (ss : Session) (d : Bytes) (s : State) : keepsBut [.free, .regs, .sys, .err, .cap, .cfg, .keep, .net, .ptp, .mgt, .tow, .cmp, .str, .pos, .mil, .fir, .stg, .nzl, .gat, .gul, .insp, .mem, .axs, .lmp, .par, .cal] s (rmpRx v ss d s) := by
  unfold rmpRx
  try dsimp only
  repeat' (first
    | with_reducible exact keepsBut_refl _ _
    | (with_reducible show keepsBut _ _ (mMgt _ _); with_reducible refine keepsBut_of ?_ (mMgt_keeps _ _) (by decide))
    | (with_reducible show keepsBut _ _ (raiseLim _ _ _ _ _ _); with_reducible refine keepsBut_of ?_ (raiseLim_keeps _ _ _ _ _ _) (by decide))
    | (with_reducible show keepsBut _ _ (rmpServe _ _ _ _ _); with_reducible refine keepsBut_of ?_ (rmpServe_keeps _ _ _ _ _) (by decide))
    | (with_reducible show keepsBut _ _ (rmpReply _ _ _ _ _ _ _ _ _); with_reducible refine keepsBut_of ?_ (rmpReply_keeps _ _ _ _ _ _ _ _ _) (by decide))
    | (with_reducible show keepsBut _ _ (sendOn _ _ _ _ _ _); with_reducible refine keepsBut_of ?_ (sendOn_keeps _ _ _ _ _ _) (by decide))
    | (with_reducible show keepsBut _ _ (mWin _ _ _); with_reducible refine keepsBut_of ?_ (mWin_keeps _ _ _) (by decide))
    | with_reducible refine keepsBut_ite ?_ ?_
    | with_reducible refine keepsBut_doIf (fun _ => ?_) ?_
    | with_reducible refine keepsBut_each (fun _ _ => ?_) ?_
    | dsimp only [id]
    | split)

theorem rmpRun_keeps (rx : Arrival) (ss : Session) (d : Bytes) (s : State) : keepsBut [.free, .regs, .sys, .err, .cap, .cfg, .keep, .net, .ptp, .mgt, .tow, .cmp, .str, .pos, .mil, .fir, .stg, .nzl, .gat, .gul, .insp, .mem, .axs, .lmp, .par, .cal] s (rmpRun rx ss d s) := by
  unfold rmpRun
  try dsimp only
  repeat' (first
    | with_reducible exact keepsBut_refl _ _
    | (with_reducible show keepsBut _ _ (rxFrame _ _ _); with_reducible refine keepsBut_of ?_ (rxFrame_keeps (qs := [.free, .regs, .sys, .err, .cap, .cfg, .keep, .net, .ptp, .mgt, .tow, .cmp, .str, .pos, .mil, .fir, .stg, .nzl, .gat, .gul, .insp, .mem, .axs, .lmp, .par, .cal]) (by decide) (fun _ => ?_) _ _) (fun _ m => m))
    | (with_reducible show keepsBut _ _ (rmpRx _ _ _ _); with_reducible refine keepsBut_of ?_ (rmpRx_keeps _ _ _ _) (by decide))
    | with_reducible refine keepsBut_ite ?_ ?_
    | with_reducible refine keepsBut_doIf (fun _ => ?_) ?_
    | with_reducible refine keepsBut_each (fun _ _ => ?_) ?_
    | dsimp only [id]
    | split)

/-! Machine/Waypost.lean -/

theorem tapLoad_keeps (code : BitVec 6) (s : State) : keepsBut [.dbg] s (tapLoad code s) := by
  unfold tapLoad
  try dsimp only
  repeat' (first
    | with_reducible exact keepsBut_refl _ _
    | (with_reducible show keepsBut _ _ (mDbg _ _); with_reducible refine keepsBut_of ?_ (mDbg_keeps _ _) (by decide))
    | with_reducible refine keepsBut_ite ?_ ?_
    | with_reducible refine keepsBut_doIf (fun _ => ?_) ?_
    | with_reducible refine keepsBut_each (fun _ _ => ?_) ?_
    | dsimp only [id]
    | split)

theorem tapReset_keeps (s : State) : keepsBut [.regs, .sys, .err, .dbg, .mgt, .tow, .mem] s (tapReset s) := by
  unfold tapReset
  try dsimp only
  repeat' (first
    | with_reducible exact keepsBut_refl _ _
    | (with_reducible show keepsBut _ _ (placeFragments _); with_reducible refine keepsBut_of ?_ (placeFragments_keeps _) (by decide))
    | with_reducible refine keepsBut_ite ?_ ?_
    | with_reducible refine keepsBut_doIf (fun _ => ?_) ?_
    | with_reducible refine keepsBut_each (fun _ _ => ?_) ?_
    | dsimp only [id]
    | split
    | (intro p hp; cases p <;> first | exact absurd (by decide) hp | rfl))

theorem wpBegin_keeps (a : Word) (s : State) : keepsBut [.dbg] s (wpBegin a s) := by
  unfold wpBegin
  try dsimp only
  repeat' (first
    | with_reducible exact keepsBut_refl _ _
    | (with_reducible show keepsBut _ _ (mDbg _ _); with_reducible refine keepsBut_of ?_ (mDbg_keeps _ _) (by decide))
    | with_reducible refine keepsBut_ite ?_ ?_
    | with_reducible refine keepsBut_doIf (fun _ => ?_) ?_
    | with_reducible refine keepsBut_each (fun _ _ => ?_) ?_
    | dsimp only [id]
    | split)

theorem wpDone_keeps (status : Nat) (s : State) : keepsBut [.free, .dbg] s (wpDone status s) := by
  unfold wpDone
  try dsimp only
  repeat' (first
    | with_reducible exact keepsBut_refl _ _
    | (with_reducible show keepsBut _ _ (tickFree _); with_reducible refine keepsBut_of ?_ (tickFree_keeps _) (by decide))
    | (with_reducible show keepsBut _ _ (wpEnd _ _ _); with_reducible refine keepsBut_of ?_ (wpEnd_keeps _ _ _) (by decide))
    | with_reducible refine keepsBut_ite ?_ ?_
    | with_reducible refine keepsBut_doIf (fun _ => ?_) ?_
    | with_reducible refine keepsBut_each (fun _ _ => ?_) ?_
    | dsimp only [id]
    | split)

theorem wpRefuse_keeps (s : State) : keepsBut [.free, .err, .dbg] s (wpRefuse s) := by
  unfold wpRefuse
  try dsimp only
  repeat' (first
    | with_reducible exact keepsBut_refl _ _
    | (with_reducible show keepsBut _ _ (dbgRefuse _); with_reducible refine keepsBut_of ?_ (dbgRefuse_keeps _) (by decide))
    | (with_reducible show keepsBut _ _ (wpDone _ _); with_reducible refine keepsBut_of ?_ (wpDone_keeps _ _) (by decide))
    | with_reducible refine keepsBut_ite ?_ ?_
    | with_reducible refine keepsBut_doIf (fun _ => ?_) ?_
    | with_reducible refine keepsBut_each (fun _ _ => ?_) ?_
    | dsimp only [id]
    | split)

theorem wpReadReg_keeps (a : Word) (s : State) : keepsBut [.free, .regs, .sys, .err, .dbg, .ptp, .pos, .mil, .fir, .stg, .nzl, .axs, .lmp] s (wpReadReg a s) := by
  unfold wpReadReg
  try dsimp only
  repeat' (first
    | with_reducible exact keepsBut_refl _ _
    | (with_reducible show keepsBut _ _ (wpEnd _ _ _); with_reducible refine keepsBut_of ?_ (wpEnd_keeps _ _ _) (by decide))
    | (with_reducible show keepsBut _ _ (masterRead _ _ _).2.1; with_reducible refine keepsBut_of ?_ (masterRead_keeps _ _ _) (by decide))
    | with_reducible refine keepsBut_ite ?_ ?_
    | with_reducible refine keepsBut_doIf (fun _ => ?_) ?_
    | with_reducible refine keepsBut_each (fun _ _ => ?_) ?_
    | dsimp only [id]
    | split)

theorem wpReadBank_keeps (b o : Nat) (fl : List Flip) (s : State) : keepsBut [.free, .err, .dbg, .mem] s (wpReadBank b o fl s) := by
  unfold wpReadBank
  try dsimp only
  repeat' (first
    | with_reducible exact keepsBut_refl _ _
    | (with_reducible show keepsBut _ _ (bankGrant _ _ _); with_reducible refine keepsBut_of ?_ (bankGrant_keeps _ _ _) (by decide))
    | (with_reducible show keepsBut _ _ (wpDone _ _); with_reducible refine keepsBut_of ?_ (wpDone_keeps _ _) (by decide))
    | (with_reducible show keepsBut _ _ (bankRefuse _ _); with_reducible refine keepsBut_of ?_ (bankRefuse_keeps _ _) (by decide))
    | (with_reducible show keepsBut _ _ (wpEnd _ _ _); with_reducible refine keepsBut_of ?_ (wpEnd_keeps _ _ _) (by decide))
    | (with_reducible show keepsBut _ _ (bankEcc _ _ _ _ _); with_reducible refine keepsBut_of ?_ (bankEcc_keeps (qs := [.free, .err, .dbg, .mem]) (by decide) (fun _ => ?_) _ _ _ _) (fun _ m => m))
    | with_reducible refine keepsBut_ite ?_ ?_
    | with_reducible refine keepsBut_doIf (fun _ => ?_) ?_
    | with_reducible refine keepsBut_each (fun _ _ => ?_) ?_
    | dsimp only [id]
    | split)

theorem wpReadRaw_keeps (ch ca : Nat) (fl : List Flip) (s : State) : keepsBut [.free, .err, .dbg, .mem] s (wpReadRaw ch ca fl s) := by
  unfold wpReadRaw
  try dsimp only
  repeat' (first
    | with_reducible exact keepsBut_refl _ _
    | (with_reducible show keepsBut _ _ (mErr _ _); with_reducible refine keepsBut_of ?_ (mErr_keeps _ _) (by decide))
    | (with_reducible show keepsBut _ _ (mMem _ _); with_reducible refine keepsBut_of ?_ (mMem_keeps _ _) (by decide))
    | (with_reducible show keepsBut _ _ (tickFree _); with_reducible refine keepsBut_of ?_ (tickFree_keeps _) (by decide))
    | (with_reducible show keepsBut _ _ (wpEnd _ _ _); with_reducible refine keepsBut_of ?_ (wpEnd_keeps _ _ _) (by decide))
    | with_reducible refine keepsBut_ite ?_ ?_
    | with_reducible refine keepsBut_doIf (fun _ => ?_) ?_
    | with_reducible refine keepsBut_each (fun _ _ => ?_) ?_
    | dsimp only [id]
    | split)

theorem wpUnit_keeps (ch ca : Nat) (wr : Option (List (Nat × Byte))) (s : State) : keepsBut [.dbg, .mem] s (wpUnit ch ca wr s) := by
  unfold wpUnit
  try dsimp only
  repeat' (first
    | with_reducible exact keepsBut_refl _ _
    | (with_reducible show keepsBut _ _ (mDbg _ _); with_reducible refine keepsBut_of ?_ (mDbg_keeps _ _) (by decide))
    | (with_reducible show keepsBut _ _ (memEnq _ _); with_reducible refine keepsBut_of ?_ (memEnq_keeps _ _) (by decide))
    | (with_reducible show keepsBut _ _ (takeTag _); with_reducible refine keepsBut_of ?_ (takeTag_keeps _) (by decide))
    | with_reducible refine keepsBut_ite ?_ ?_
    | with_reducible refine keepsBut_doIf (fun _ => ?_) ?_
    | with_reducible refine keepsBut_each (fun _ _ => ?_) ?_
    | dsimp only [id]
    | split)

theorem wpRead_keeps (space : Nat) (a : Word) (e : List Flip) (s : State) : keepsBut [.free, .regs, .sys, .err, .dbg, .ptp, .pos, .mil, .fir, .stg, .nzl, .mem, .axs, .lmp] s (wpRead space a e s) := by
  unfold wpRead
  try dsimp only
  repeat' (first
    | with_reducible exact keepsBut_refl _ _
    | (with_reducible show keepsBut _ _ (wpDone _ _); with_reducible refine keepsBut_of ?_ (wpDone_keeps _ _) (by decide))
    | (with_reducible show keepsBut _ _ (wpReadReg _ _); with_reducible refine keepsBut_of ?_ (wpReadReg_keeps _ _) (by decide))
    | (with_reducible show keepsBut _ _ (wpReadBank _ _ _ _); with_reducible refine keepsBut_of ?_ (wpReadBank_keeps _ _ _ _) (by decide))
    | (with_reducible show keepsBut _ _ (wpReadRaw _ _ _ _); with_reducible refine keepsBut_of ?_ (wpReadRaw_keeps _ _ _ _) (by decide))
    | (with_reducible show keepsBut _ _ (wpUnit _ _ _ _); with_reducible refine keepsBut_of ?_ (wpUnit_keeps _ _ _ _) (by decide))
    | with_reducible refine keepsBut_ite ?_ ?_
    | with_reducible refine keepsBut_doIf (fun _ => ?_) ?_
    | with_reducible refine keepsBut_each (fun _ _ => ?_) ?_
    | dsimp only [id]
    | split)

theorem wpWriteReg_keeps (a v : Word) (s : State) : keepsBut [.free, .regs, .sys, .err, .cap, .dbg, .cfg, .keep, .net, .ptp, .mgt, .tow, .cmp, .str, .pos, .mil, .fir, .stg, .nzl, .gat, .gul, .insp, .mem, .axs, .lmp, .par, .cal] s (wpWriteReg a v s) := by
  unfold wpWriteReg
  try dsimp only
  repeat' (first
    | with_reducible exact keepsBut_refl _ _
    | (with_reducible show keepsBut _ _ (masterWrite _ _ _ _).1; with_reducible refine keepsBut_of ?_ (masterWrite_keeps _ _ _ _) (by decide))
    | (with_reducible show keepsBut _ _ (wpDone _ _); with_reducible refine keepsBut_of ?_ (wpDone_keeps _ _) (by decide))
    | with_reducible refine keepsBut_ite ?_ ?_
    | with_reducible refine keepsBut_doIf (fun _ => ?_) ?_
    | with_reducible refine keepsBut_each (fun _ _ => ?_) ?_
    | dsimp only [id]
    | split)

theorem wpWriteBank_keeps (b o : Nat) (v : Word) (fl : List Flip) (s : State) : keepsBut [.free, .err, .dbg, .mem] s (wpWriteBank b o v fl s) := by
  unfold wpWriteBank
  try dsimp only
  repeat' (first
    | with_reducible exact keepsBut_refl _ _
    | (with_reducible show keepsBut _ _ (bankGrant _ _ _); with_reducible refine keepsBut_of ?_ (bankGrant_keeps _ _ _) (by decide))
    | (with_reducible show keepsBut _ _ (wpDone _ _); with_reducible refine keepsBut_of ?_ (wpDone_keeps _ _) (by decide))
    | (with_reducible show keepsBut _ _ (bankRefuse _ _); with_reducible refine keepsBut_of ?_ (bankRefuse_keeps _ _) (by decide))
    | (with_reducible show keepsBut _ _ (bankEcc _ _ _ _ _); with_reducible refine keepsBut_of ?_ (bankEcc_keeps (qs := [.free, .err, .dbg, .mem]) (by decide) (fun _ => ?_) _ _ _ _) (fun _ m => m))
    | (with_reducible show keepsBut _ _ (bankPut _ _ _ _); with_reducible refine keepsBut_of ?_ (bankPut_keeps _ _ _ _) (by decide))
    | with_reducible refine keepsBut_ite ?_ ?_
    | with_reducible refine keepsBut_doIf (fun _ => ?_) ?_
    | with_reducible refine keepsBut_each (fun _ _ => ?_) ?_
    | dsimp only [id]
    | split)

theorem wpWrite_keeps (space : Nat) (a v : Word) (e : List Flip) (s : State) : keepsBut [.free, .regs, .sys, .err, .cap, .dbg, .cfg, .keep, .net, .ptp, .mgt, .tow, .cmp, .str, .pos, .mil, .fir, .stg, .nzl, .gat, .gul, .insp, .mem, .axs, .lmp, .par, .cal] s (wpWrite space a v e s) := by
  unfold wpWrite
  try dsimp only
  repeat' (first
    | with_reducible exact keepsBut_refl _ _
    | (with_reducible show keepsBut _ _ (wpDone _ _); with_reducible refine keepsBut_of ?_ (wpDone_keeps _ _) (by decide))
    | (with_reducible show keepsBut _ _ (wpWriteReg _ _ _); with_reducible refine keepsBut_of ?_ (wpWriteReg_keeps _ _ _) (by decide))
    | (with_reducible show keepsBut _ _ (wpRefuse _); with_reducible refine keepsBut_of ?_ (wpRefuse_keeps _) (by decide))
    | (with_reducible show keepsBut _ _ (notice _ _ _); with_reducible refine keepsBut_of ?_ (notice_keeps _ _ _) (by decide))
    | (with_reducible show keepsBut _ _ (wpWriteBank _ _ _ _ _); with_reducible refine keepsBut_of ?_ (wpWriteBank_keeps _ _ _ _ _) (by decide))
    | (with_reducible show keepsBut _ _ (wpUnit _ _ _ _); with_reducible refine keepsBut_of ?_ (wpUnit_keeps _ _ _ _) (by decide))
    | with_reducible refine keepsBut_ite ?_ ?_
    | with_reducible refine keepsBut_doIf (fun _ => ?_) ?_
    | with_reducible refine keepsBut_each (fun _ _ => ?_) ?_
    | dsimp only [id]
    | split)

theorem wpHalt_keeps (s : State) : keepsBut [.free, .sys, .err, .dbg, .mgt] s (wpHalt s) := by
  unfold wpHalt
  try dsimp only
  repeat' (first
    | with_reducible exact keepsBut_refl _ _
    | (with_reducible show keepsBut _ _ (opHalt _ _); with_reducible refine keepsBut_of ?_ (opHalt_keeps _ _) (by decide))
    | (with_reducible show keepsBut _ _ (wpDone _ _); with_reducible refine keepsBut_of ?_ (wpDone_keeps _ _) (by decide))
    | with_reducible refine keepsBut_ite ?_ ?_
    | with_reducible refine keepsBut_doIf (fun _ => ?_) ?_
    | with_reducible refine keepsBut_each (fun _ _ => ?_) ?_
    | dsimp only [id]
    | split)

theorem wpResume_keeps (s : State) : keepsBut [.free, .sys, .err, .dbg, .net, .mgt, .tow, .nzl, .mem] s (wpResume s) := by
  unfold wpResume
  try dsimp only
  repeat' (first
    | with_reducible exact keepsBut_refl _ _
    | (with_reducible show keepsBut _ _ (creditWatch _); with_reducible refine keepsBut_of ?_ (creditWatch_keeps _) (by decide))
    | (with_reducible show keepsBut _ _ (placeFragments _); with_reducible refine keepsBut_of ?_ (placeFragments_keeps _) (by decide))
    | (with_reducible show keepsBut _ _ (opUnhalt _); with_reducible refine keepsBut_of ?_ (opUnhalt_keeps _) (by decide))
    | (with_reducible show keepsBut _ _ (wpDone _ _); with_reducible refine keepsBut_of ?_ (wpDone_keeps _ _) (by decide))
    | (with_reducible show keepsBut _ _ (opResume _); with_reducible refine keepsBut_of ?_ (opResume_keeps _) (by decide))
    | with_reducible refine keepsBut_ite ?_ ?_
    | with_reducible refine keepsBut_doIf (fun _ => ?_) ?_
    | with_reducible refine keepsBut_each (fun _ _ => ?_) ?_
    | dsimp only [id]
    | split)

theorem wpStep_keeps (d : Word) (s : State) : keepsBut [.free, .sys, .err, .dbg, .mgt, .tow, .mem] s (wpStep d s) := by
  unfold wpStep
  try dsimp only
  repeat' (first
    | with_reducible exact keepsBut_refl _ _
    | (with_reducible show keepsBut _ _ (mDbg _ _); with_reducible refine keepsBut_of ?_ (mDbg_keeps _ _) (by decide))
    | (with_reducible show keepsBut _ _ (placeFragments _); with_reducible refine keepsBut_of ?_ (placeFragments_keeps _) (by decide))
    | (with_reducible show keepsBut _ _ (wpDone _ _); with_reducible refine keepsBut_of ?_ (wpDone_keeps _ _) (by decide))
    | (with_reducible show keepsBut _ _ (wpRefuse _); with_reducible refine keepsBut_of ?_ (wpRefuse_keeps _) (by decide))
    | with_reducible refine keepsBut_ite ?_ ?_
    | with_reducible refine keepsBut_doIf (fun _ => ?_) ?_
    | with_reducible refine keepsBut_each (fun _ _ => ?_) ?_
    | dsimp only [id]
    | split)

theorem wpCapture_keeps (mask : Word) (s : State) : keepsBut [.free, .err, .cap, .dbg] s (wpCapture mask s) := by
  unfold wpCapture
  try dsimp only
  repeat' (first
    | with_reducible exact keepsBut_refl _ _
    | (with_reducible show keepsBut _ _ (capStart _ _); with_reducible refine keepsBut_of ?_ (capStart_keeps _ _) (by decide))
    | (with_reducible show keepsBut _ _ (capRefuse _); with_reducible refine keepsBut_of ?_ (capRefuse_keeps _) (by decide))
    | (with_reducible show keepsBut _ _ (wpDone _ _); with_reducible refine keepsBut_of ?_ (wpDone_keeps _ _) (by decide))
    | (with_reducible show keepsBut _ _ (wpRefuse _); with_reducible refine keepsBut_of ?_ (wpRefuse_keeps _) (by decide))
    | with_reducible refine keepsBut_ite ?_ ?_
    | with_reducible refine keepsBut_doIf (fun _ => ?_) ?_
    | with_reducible refine keepsBut_each (fun _ _ => ?_) ?_
    | dsimp only [id]
    | split)

/-! Machine/Idle.lean -/

theorem idleTick_keeps (s : State) : keepsBut [.now, .ptp] s (idleTick s) := by
  unfold idleTick
  try dsimp only
  repeat' (first
    | with_reducible exact keepsBut_refl _ _
    | with_reducible refine keepsBut_ite ?_ ?_
    | with_reducible refine keepsBut_doIf (fun _ => ?_) ?_
    | with_reducible refine keepsBut_each (fun _ _ => ?_) ?_
    | dsimp only [id]
    | split
    | (intro p hp; cases p <;> first | exact absurd (by decide) hp | rfl))

end Sys2Proof.Machine
end

