-- ==== Sys2Proof/Laws/Access.lean ====
section
/-! SUPPORT. What a write or a read of a command's register does: `writeCmd`, `regStored` and `readEffect` at its address. -/

namespace Sys2Proof.Machine

/-- The instance of an offset that lies in one. -/
theorem instOf_at (lo n step i r : Nat) (hi : i < n) (hr : r < step) : instOf (lo + step * i + r) lo n step = some (i, r) := by
  unfold instOf
  have h1 : lo + step * i + r - lo = step * i + r := by omega
  have h2 : (step * i + r) / step = i := by
    rw [Nat.mul_add_div (by omega)]; simp [Nat.div_eq_of_lt hr]
  have h3 : (step * i + r) % step = r := by
    rw [Nat.mul_add_mod]; exact Nat.mod_eq_of_lt hr
  rw [h1, h2, h3, if_pos ⟨by omega, hi⟩]

theorem otpUnlock_at (v : Word) (s : State) : writeCmd false (base 1 + 0x84) v s = took s := rfl

theorem otpProgram_at (v : Word) (s : State) : writeCmd false (base 1 + 0x88) v s = opOtpCmd v s := rfl

theorem paceClr_at (v : Word) (s : State) : writeCmd false (0x408) v s = took (opPaceClr v s) := rfl

theorem knotImmediate_at (v : Word) (s : State) : writeCmd false (0x100) v s = some (opKnot v s) := rfl

theorem geoCheck_at (v : Word) (s : State) : writeCmd false (base 14 + 0x108) v s = took (opGeoCheck v s) := rfl

theorem indexArm_none (ch : Enc) (v : Word) (s : State) : writeCmd false (posAddr ch 8) v s = none := by
  have h1 : (posAddr ch 8) / 0x10000 = 12 := by unfold posAddr base; omega
  have h2 : (posAddr ch 8) % 0x10000 = 0x100 + 0x80 * ch.val + 8 := by unfold posAddr base; omega
  have h3 := instOf_at 0x100 4 0x80 ch.val 8 ch.isLt (by decide)
  simp only [writeCmd, h1, h2, h3, if_false]

theorem indexArm_stored (ch : Enc) (old v : Word) (s : State) : regStored (posAddr ch 8) old v s = (if bit v 29 then opIdxArm ch else id) (postLive (posAddr ch 8) (regVal s (posAddr ch 8)).toNat s) := by
  have h1 : (posAddr ch 8) / 0x10000 = 12 := by unfold posAddr base; omega
  have h2 : (posAddr ch 8) % 0x10000 = 0x100 + 0x80 * ch.val + 8 := by unfold posAddr base; omega
  have h3 := instOf_at 0x100 4 0x80 ch.val 8 ch.isLt (by decide)
  simp only [regStored, h1, h2, h3]

theorem posChannelConfig_none (ch : Enc) (v : Word) (s : State) : writeCmd false (posAddr ch 0) v s = none := by
  have h1 : (posAddr ch 0) / 0x10000 = 12 := by unfold posAddr base; omega
  have h2 : (posAddr ch 0) % 0x10000 = 0x100 + 0x80 * ch.val + 0 := by unfold posAddr base; omega
  have h3 := instOf_at 0x100 4 0x80 ch.val 0 ch.isLt (by decide)
  simp only [writeCmd, h1, h2, h3, if_false]

theorem posChannelConfig_stored (ch : Enc) (old v : Word) (s : State) : regStored (posAddr ch 0) old v s = opPosCtl ch old (regVal s (posAddr ch 0)) s := by
  have h1 : (posAddr ch 0) / 0x10000 = 12 := by unfold posAddr base; omega
  have h2 : (posAddr ch 0) % 0x10000 = 0x100 + 0x80 * ch.val + 0 := by unfold posAddr base; omega
  have h3 := instOf_at 0x100 4 0x80 ch.val 0 ch.isLt (by decide)
  simp only [regStored, h1, h2, h3]

theorem milestoneArm_none (ms : Ms) (v : Word) (s : State) : writeCmd false (msAddr ms 0) v s = none := by
  have h1 : (msAddr ms 0) / 0x10000 = 13 := by unfold msAddr base; omega
  have h2 : (msAddr ms 0) % 0x10000 = 0x100 + 0x20 * ms.val + 0 := by unfold msAddr base; omega
  have h3 := instOf_at 0x100 32 0x20 ms.val 0 ms.isLt (by decide)
  have m0 : ¬ (0x100 + 0x20 * ms.val + 0 = 0) := by omega
  simp only [writeCmd, h1, h2, h3, m0, if_false]

theorem milestoneArm_stored (ms : Ms) (old v : Word) (s : State) : regStored (msAddr ms 0) old v s = postLive (msAddr ms 0) v.toNat s := by
  have h1 : (msAddr ms 0) / 0x10000 = 13 := by unfold msAddr base; omega
  have h2 : (msAddr ms 0) % 0x10000 = 0x100 + 0x20 * ms.val + 0 := by unfold msAddr base; omega
  have h3 := instOf_at 0x100 32 0x20 ms.val 0 ms.isLt (by decide)
  simp only [regStored, h1, h2, h3]

theorem milestoneCmpCommit_at (ms : Ms) (v : Word) (s : State) : writeCmd false (msAddr ms 8) v s = took (postLive (msAddr ms 8) (msStaged ms v s) s) := by
  have h1 : (msAddr ms 8) / 0x10000 = 13 := by unfold msAddr base; omega
  have h2 : (msAddr ms 8) % 0x10000 = 0x100 + 0x20 * ms.val + 8 := by unfold msAddr base; omega
  have h3 := instOf_at 0x100 32 0x20 ms.val 8 ms.isLt (by decide)
  have n0 : ¬ (0x100 + 0x20 * ms.val + 8 = 0) := by omega
  simp only [writeCmd, h1, h2, h3, n0, if_false, false_and]

theorem nozzleRequest_at (v : Word) (s : State) : writeCmd false (base 16 + 0x54) v s = (match nzlReqBad v s with | some c => denied c s | none => took (opNzlReq v s)) := rfl

theorem gateStart_at (g : Gate) (v : Word) (s : State) : writeCmd false (gatAddr g 0x28) v s = (if gateCmdBad g v s then denied Err.gateSetup s else took (opGateCmd g v s)) := by
  have h1 : (gatAddr g 0x28) / 0x10000 = 17 := by unfold gatAddr base; omega
  have h2 : (gatAddr g 0x28) % 0x10000 = 0x100 + 0x40 * g.val + 0x28 := by unfold gatAddr base; omega
  have h3 := instOf_at 0x100 2 0x40 g.val 0x28 g.isLt (by decide)
  simp only [writeCmd, h1, h2, h3, if_false, false_and]

theorem gulRetrain_at (p : Port) (v : Word) (s : State) : writeCmd false (gulAddr p 0x34) v s = took (opGulClr p v s) := by
  have h1 : (gulAddr p 0x34) / 0x10000 = 18 := by unfold gulAddr base; omega
  have h2 : (gulAddr p 0x34) % 0x10000 = 0x1000 + 0x40 * p.val + 0x34 := by unfold gulAddr base; omega
  have h3 := instOf_at 0x1000 64 0x40 p.val 0x34 p.isLt (by decide)
  have n0 : ¬ (0x1000 + 0x40 * p.val + 0x34 = 0x18) := by omega
  have n1 : ¬ (0x1000 + 0x40 * p.val + 0x34 = 0x44) := by omega
  simp only [writeCmd, h1, h2, h3, n0, n1, if_false, false_and]

theorem hostCfgAccess_at (v : Word) (s : State) : writeCmd false (base 18 + 0x18) v s = (if bit v 0 && s.gul.hcfgBusy then some (hcfgRefuse s, false) else took (opHcfgGo v s)) := rfl

theorem eyeScanStart_at (v : Word) (s : State) : writeCmd false (base 18 + 0x44) v s = (if bit v 0 && s.gul.eyePort.isSome then some (eyeRefuse s, false) else took (opEyeGo v s)) := rfl

theorem recordRelease_at (c : Ctx) (v : Word) (s : State) : writeCmd false (base 21 + 0x1010 + 0x40 * c) v s = took (opInsRel c v s) := by
  have h1 : (base 21 + 0x1010 + 0x40 * c) / 0x10000 = 21 := by unfold base; omega
  have h2 : (base 21 + 0x1010 + 0x40 * c) % 0x10000 = 0x1000 + 0x40 * c.val + 0x10 := by unfold base; omega
  have h3 := instOf_at 0x1000 8 0x40 c.val 0x10 c.isLt (by decide)
  simp only [writeCmd, h1, h2, h3, if_false, false_and]

theorem memVerifyCmd_at (v : Word) (s : State) : writeCmd false (base 7 + 0xC) v s = took (opMemVerify v s) := rfl

theorem axisTargetWrite_none (a : Axis) (v : Word) (s : State) : writeCmd false (axsAddr a 0x24) v s = none := by
  have h1 : (axsAddr a 0x24) / 0x10000 = 22 := by unfold axsAddr base; omega
  have h2 : (axsAddr a 0x24) % 0x10000 = 0x100 + 0x80 * a.val + 0x24 := by unfold axsAddr base; omega
  have h3 := instOf_at 0x100 4 0x80 a.val 0x24 a.isLt (by decide)
  have n0 : ¬ (0x100 + 0x80 * a.val + 0x24 = 4) := by omega
  simp only [writeCmd, h1, h2, h3, n0, if_false]

theorem axisTargetWrite_stored (a : Axis) (old v : Word) (s : State) : regStored (axsAddr a 0x24) old v s = opAxsTarget a s := by
  have h1 : (axsAddr a 0x24) / 0x10000 = 22 := by unfold axsAddr base; omega
  have h2 : (axsAddr a 0x24) % 0x10000 = 0x100 + 0x80 * a.val + 0x24 := by unfold axsAddr base; omega
  have h3 := instOf_at 0x100 4 0x80 a.val 0x24 a.isLt (by decide)
  simp only [regStored, h1, h2, h3]

theorem axisVtargetWrite_none (a : Axis) (v : Word) (s : State) : writeCmd false (axsAddr a 0x28) v s = none := by
  have h1 : (axsAddr a 0x28) / 0x10000 = 22 := by unfold axsAddr base; omega
  have h2 : (axsAddr a 0x28) % 0x10000 = 0x100 + 0x80 * a.val + 0x28 := by unfold axsAddr base; omega
  have h3 := instOf_at 0x100 4 0x80 a.val 0x28 a.isLt (by decide)
  have n0 : ¬ (0x100 + 0x80 * a.val + 0x28 = 4) := by omega
  simp only [writeCmd, h1, h2, h3, n0, if_false]

theorem axisVtargetWrite_stored (a : Axis) (old v : Word) (s : State) : regStored (axsAddr a 0x28) old v s = opAxsVtarget a v s := by
  have h1 : (axsAddr a 0x28) / 0x10000 = 22 := by unfold axsAddr base; omega
  have h2 : (axsAddr a 0x28) % 0x10000 = 0x100 + 0x80 * a.val + 0x28 := by unfold axsAddr base; omega
  have h3 := instOf_at 0x100 4 0x80 a.val 0x28 a.isLt (by decide)
  simp only [regStored, h1, h2, h3]

theorem axisModeWrite_none (a : Axis) (v : Word) (s : State) : writeCmd false (axsAddr a 0x2C) v s = none := by
  have h1 : (axsAddr a 0x2C) / 0x10000 = 22 := by unfold axsAddr base; omega
  have h2 : (axsAddr a 0x2C) % 0x10000 = 0x100 + 0x80 * a.val + 0x2C := by unfold axsAddr base; omega
  have h3 := instOf_at 0x100 4 0x80 a.val 0x2C a.isLt (by decide)
  have n0 : ¬ (0x100 + 0x80 * a.val + 0x2C = 4) := by omega
  simp only [writeCmd, h1, h2, h3, n0, if_false]

theorem axisModeWrite_stored (a : Axis) (old v : Word) (s : State) : regStored (axsAddr a 0x2C) old v s = s := by
  have h1 : (axsAddr a 0x2C) / 0x10000 = 22 := by unfold axsAddr base; omega
  have h2 : (axsAddr a 0x2C) % 0x10000 = 0x100 + 0x80 * a.val + 0x2C := by unfold axsAddr base; omega
  have h3 := instOf_at 0x100 4 0x80 a.val 0x2C a.isLt (by decide)
  simp only [regStored, h1, h2, h3]

theorem axisSetpos_none (a : Axis) (v : Word) (s : State) : writeCmd false (axsAddr a 0x54) v s = none := by
  have h1 : (axsAddr a 0x54) / 0x10000 = 22 := by unfold axsAddr base; omega
  have h2 : (axsAddr a 0x54) % 0x10000 = 0x100 + 0x80 * a.val + 0x54 := by unfold axsAddr base; omega
  have h3 := instOf_at 0x100 4 0x80 a.val 0x54 a.isLt (by decide)
  have n0 : ¬ (0x100 + 0x80 * a.val + 0x54 = 4) := by omega
  simp only [writeCmd, h1, h2, h3, n0, if_false]

theorem axisSetpos_stored (a : Axis) (old v : Word) (s : State) : regStored (axsAddr a 0x54) old v s = opAxsSetpos a v s := by
  have h1 : (axsAddr a 0x54) / 0x10000 = 22 := by unfold axsAddr base; omega
  have h2 : (axsAddr a 0x54) % 0x10000 = 0x100 + 0x80 * a.val + 0x54 := by unfold axsAddr base; omega
  have h3 := instOf_at 0x100 4 0x80 a.val 0x54 a.isLt (by decide)
  simp only [regStored, h1, h2, h3]

theorem axisGearSchedule_none (a : Axis) (v : Word) (s : State) : writeCmd false (axsAddr a 0x44) v s = none := by
  have h1 : (axsAddr a 0x44) / 0x10000 = 22 := by unfold axsAddr base; omega
  have h2 : (axsAddr a 0x44) % 0x10000 = 0x100 + 0x80 * a.val + 0x44 := by unfold axsAddr base; omega
  have h3 := instOf_at 0x100 4 0x80 a.val 0x44 a.isLt (by decide)
  have n0 : ¬ (0x100 + 0x80 * a.val + 0x44 = 4) := by omega
  simp only [writeCmd, h1, h2, h3, n0, if_false]

theorem axisGearSchedule_stored (a : Axis) (old v : Word) (s : State) : regStored (axsAddr a 0x44) old v s = opAxsGat a v s := by
  have h1 : (axsAddr a 0x44) / 0x10000 = 22 := by unfold axsAddr base; omega
  have h2 : (axsAddr a 0x44) % 0x10000 = 0x100 + 0x80 * a.val + 0x44 := by unfold axsAddr base; omega
  have h3 := instOf_at 0x100 4 0x80 a.val 0x44 a.isLt (by decide)
  simp only [regStored, h1, h2, h3]

theorem lampSwapRequest_at (v : Word) (s : State) : writeCmd false (base 23 + 8) v s = took (opLmpCmd v s) := rfl

theorem lbusCfgWrite_at (chain : Fin 2) (v : Word) (s : State) : writeCmd false (base 23 + 0x210 + 0x20 * chain) v s = took (opLbusGo chain v s) := by
  have h1 : (base 23 + 0x210 + 0x20 * chain) / 0x10000 = 23 := by unfold base; omega
  have h2 : (base 23 + 0x210 + 0x20 * chain) % 0x10000 = 0x200 + 0x20 * chain.val + 0x10 := by unfold base; omega
  have h3 := instOf_at 0x200 2 0x20 chain.val 0x10 chain.isLt (by decide)
  have n0 : ¬ (0x200 + 0x20 * chain.val + 0x10 = 8) := by omega
  have n1 : ¬ (0x200 + 0x20 * chain.val + 0x10 = 0x14) := by omega
  have n2 : ¬ (0x200 + 0x20 * chain.val + 0x10 = 0x104) := by omega
  simp only [writeCmd, h1, h2, h3, n0, n1, n2, if_false, false_and]

theorem domainSelect_none (v : Word) (s : State) : writeCmd false (base 3) v s = none := rfl

theorem domainSelect_stored (old v : Word) (s : State) : regStored (base 3) old v s = opPtpSel v s := rfl

theorem calForce_at (v : Word) (s : State) : writeCmd false (base 25 + 0x10) v s = took (opCalForce v s) := rfl

theorem faultAck_at (v : Word) (s : State) : writeCmd false (base 26 + 0x10) v s = took (opErrAck v s) := rfl

theorem faultAckAll_at (v : Word) (s : State) : writeCmd false (base 26 + 0x14) v s = took (opErrAckAll v s) := rfl

theorem latchClear_at (v : Word) (s : State) : writeCmd false (base 26 + 0x18) v s = (if latchClrBad v s then denied Err.errRange s else took (opLatchClr v s)) := rfl

theorem errClr_at (v : Word) (s : State) : writeCmd false (base 26 + 0x1C) v s = took (opErrClr v s) := rfl

theorem captureStart_at (v : Word) (s : State) : writeCmd false (base 27) v s = opCapCmd v s := rfl

theorem towCntClr_at (v : Word) (s : State) : writeCmd false (base 5 + 0x20) v s = took (opTowClr v s) := rfl

theorem cmpCntClr_at (v : Word) (s : State) : writeCmd false (base 11 + 0x20) v s = took (opCmpClr v s) := rfl

theorem strCntClr_at (v : Word) (s : State) : writeCmd false (base 10 + 0x30) v s = took (opStrClr v s) := rfl

theorem firCntClr_at (v : Word) (s : State) : writeCmd false (base 14 + 0x20) v s = took (opFirCntClr v s) := rfl

theorem nzlCntClr_at (v : Word) (s : State) : writeCmd false (base 16 + 0x70) v s = took (opNzlClr v s) := rfl

theorem memCntClr_at (v : Word) (s : State) : writeCmd false (base 7 + 0x40) v s = took (opMemClr v s) := rfl

theorem mgtCntClr_at (v : Word) (s : State) : writeCmd false (base 4 + 0x18) v s = took (opMgtClr v s) := rfl

theorem parCntClr_at (v : Word) (s : State) : writeCmd false (base 24 + 0x34) v s = took (opParClr v s) := rfl

theorem arbClr_at (v : Word) (s : State) : writeCmd false (base 9) v s = took (opArbClr v s) := rfl

theorem camPortClr_at (port : Fin 4) (v : Word) (s : State) : writeCmd false (base 19 + 0x11C + 0x40 * port) v s = took (opCamClr port v s) := by
  have h1 : (base 19 + 0x11C + 0x40 * port) / 0x10000 = 19 := by unfold base; omega
  have h2 : (base 19 + 0x11C + 0x40 * port) % 0x10000 = 0x100 + 0x40 * port.val + 0x1C := by unfold base; omega
  have h3 := instOf_at 0x100 4 0x40 port.val 0x1C port.isLt (by decide)
  simp only [writeCmd, h1, h2, h3, if_false, false_and]

theorem insCtxClr_at (c : Ctx) (v : Word) (s : State) : writeCmd false (base 21 + 0x1020 + 0x40 * c) v s = took (opInsClr c v s) := by
  have h1 : (base 21 + 0x1020 + 0x40 * c) / 0x10000 = 21 := by unfold base; omega
  have h2 : (base 21 + 0x1020 + 0x40 * c) % 0x10000 = 0x1000 + 0x40 * c.val + 0x20 := by unfold base; omega
  have h3 := instOf_at 0x1000 8 0x40 c.val 0x20 c.isLt (by decide)
  simp only [writeCmd, h1, h2, h3, if_false, false_and]

theorem bnkClr_at (b : Bank) (v : Word) (s : State) : writeCmd false (base 8 + 0x11C + 0x40 * b) v s = took (opBnkClr b v s) := by
  have h1 : (base 8 + 0x11C + 0x40 * b) / 0x10000 = 8 := by unfold base; omega
  have h2 : (base 8 + 0x11C + 0x40 * b) % 0x10000 = 0x100 + 0x40 * b.val + 0x1C := by unfold base; omega
  have h3 := instOf_at 0x100 7 0x40 b.val 0x1C b.isLt (by decide)
  simp only [writeCmd, h1, h2, h3, if_false, false_and]

theorem netPortClr_at (np : NetPort) (v : Word) (s : State) : writeCmd false (base 2 + 0x134 + 0x80 * np) v s = took (opNetClr np v s) := by
  have h1 : (base 2 + 0x134 + 0x80 * np) / 0x10000 = 2 := by unfold base; omega
  have h2 : (base 2 + 0x134 + 0x80 * np) % 0x10000 = 0x100 + 0x80 * np.val + 0x34 := by unfold base; omega
  have h3 := instOf_at 0x100 2 0x80 np.val 0x34 np.isLt (by decide)
  simp only [writeCmd, h1, h2, h3, if_false, false_and]

theorem ptpDomClr_at (dm : Dom) (v : Word) (s : State) : writeCmd false (base 3 + 0x14C + 0x80 * dm) v s = took (opPtpClr dm v s) := by
  have h1 : (base 3 + 0x14C + 0x80 * dm) / 0x10000 = 3 := by unfold base; omega
  have h2 : (base 3 + 0x14C + 0x80 * dm) % 0x10000 = 0x100 + 0x80 * dm.val + 0x4C := by unfold base; omega
  have h3 := instOf_at 0x100 2 0x80 dm.val 0x4C dm.isLt (by decide)
  simp only [writeCmd, h1, h2, h3, if_false, false_and]

theorem resDataAccess_at (v : Word) (s : State) : writeCmd false (base 15 + 0x104) v s = took (opResData (.write v) s) := rfl

theorem resDataAccess_read (s : State) : readEffect (base 15 + 0x104) s = opResData .read s := rfl

theorem axisTableAccess_at (v : Word) (s : State) : writeCmd false (base 22 + 4) v s = (if axTblBad v then some (axTblStep (notice Err.axsRange [] s), false) else took (opAxsTbl (.write v) s)) := rfl

theorem axisTableAccess_read (s : State) : readEffect (base 22 + 4) s = opAxsTbl .read s := rfl

theorem lampZoneAccess_at (v : Word) (s : State) : writeCmd false (base 23 + 0x14) v s = took (opLampZone (.write v) s) := rfl

theorem lampZoneAccess_read (s : State) : readEffect (base 23 + 0x14) s = opLampZone .read s := rfl

theorem lampUtblAccess_at (v : Word) (s : State) : writeCmd false (base 23 + 0x104) v s = took (opLampUtbl (.write v) s) := rfl

theorem lampUtblAccess_read (s : State) : readEffect (base 23 + 0x104) s = opLampUtbl .read s := rfl

theorem posSnapshot_read (ch : Enc) (s : State) : readEffect (posAddr ch 0x30) s = opPosSnap ch s := by
  have h1 : (posAddr ch 0x30) / 0x10000 = 12 := by unfold posAddr base; omega
  have h2 : (posAddr ch 0x30) % 0x10000 = 0x100 + 0x80 * ch.val + 0x30 := by unfold posAddr base; omega
  have h3 := instOf_at 0x100 4 0x80 ch.val 0x30 ch.isLt (by decide)
  simp only [readEffect, h1, h2, h3, if_false, false_or, or_false, or_self]

theorem milestoneCmpRead_read (ms : Ms) (s : State) : readEffect (msAddr ms 4) s = snapCmp ms s := by
  have h1 : (msAddr ms 4) / 0x10000 = 13 := by unfold msAddr base; omega
  have h2 : (msAddr ms 4) % 0x10000 = 0x100 + 0x20 * ms.val + 4 := by unfold msAddr base; omega
  have h3 := instOf_at 0x100 32 0x20 ms.val 4 ms.isLt (by decide)
  have n0 : ¬ (0x100 + 0x20 * ms.val + 4 = 0x48) := by omega
  have n1 : ¬ (0x100 + 0x20 * ms.val + 4 = 0x58) := by omega
  simp only [readEffect, h1, h2, h3, n0, n1, if_false, false_or, or_false, or_self]

theorem milestoneHitRead_read (ms : Ms) (s : State) : readEffect (msAddr ms 0x10) s = snapHit ms s := by
  have h1 : (msAddr ms 0x10) / 0x10000 = 13 := by unfold msAddr base; omega
  have h2 : (msAddr ms 0x10) % 0x10000 = 0x100 + 0x20 * ms.val + 0x10 := by unfold msAddr base; omega
  have h3 := instOf_at 0x100 32 0x20 ms.val 0x10 ms.isLt (by decide)
  have n0 : ¬ (0x100 + 0x20 * ms.val + 0x10 = 0x48) := by omega
  have n1 : ¬ (0x100 + 0x20 * ms.val + 0x10 = 0x58) := by omega
  simp only [readEffect, h1, h2, h3, n0, n1, if_false, false_or, or_false, or_self]

theorem journalReadLo_read (s : State) : readEffect (base 16 + 0x80) s = s := rfl

theorem journalReadHi_read (s : State) : readEffect (base 16 + 0x84) s = jrnPop s := rfl

theorem knotEpochRead_read (s : State) : readEffect (0x110) s = snapEpoch s := rfl

theorem fireLcSnapshot_read (p : Port) (s : State) : readEffect (base 14 + 0x1008 + 0x20 * p) s = opFirSnap p s := by
  have h1 : (base 14 + 0x1008 + 0x20 * p) / 0x10000 = 14 := by unfold base; omega
  have h2 : (base 14 + 0x1008 + 0x20 * p) % 0x10000 = 0x1000 + 0x20 * p.val + 8 := by unfold base; omega
  have h3 := instOf_at 0x1000 64 0x20 p.val 8 p.isLt (by decide)
  simp only [readEffect, h1, h2, h3, if_false, false_or, or_false, or_self]

theorem syncCaptureRead_read (n : Fin 2) (s : State) : readEffect (base 13 + 0x48 + 0x10 * n) s = snapSync n s := by
  match n with
  | 0 => rfl
  | 1 => rfl

theorem ptpSnapshot_dom_read (d : Dom) (s : State) : readEffect (base 3 + 0x150 + 0x80 * d) s = opPtpSnap (.dom d) s := by
  match d with
  | 0 => rfl
  | 1 => rfl

theorem ptpSnapshot_device_read (s : State) : readEffect (base 3 + 0x10) s = opPtpSnap .device s := rfl

theorem logEntryRead_latch_read (c : Fin 4) (s : State) : readEffect (base 26 + 0x1000 + 0x40 * c) s = snapLog c (vget s.err.latches c none) s := by
  have h1 : (base 26 + 0x1000 + 0x40 * c.val) / 0x10000 = 26 := by unfold base; omega
  have h2 : (base 26 + 0x1000 + 0x40 * c.val) % 0x10000 = 0x1000 + 0x40 * c.val + 0 := by unfold base; omega
  have h3 := instOf_at 0x1000 4 0x40 c.val 0 c.isLt (by decide)
  simp only [readEffect, h1, h2, h3]

theorem logEntryRead_slot_read (n : Fin 256) (s : State) : readEffect (base 26 + 0x4000 + 0x30 * n) s = snapLog (4 + n) (ringSlot s.err n) s := by
  have h1 : (base 26 + 0x4000 + 0x30 * n.val) / 0x10000 = 26 := by unfold base; omega
  have h2 : (base 26 + 0x4000 + 0x30 * n.val) % 0x10000 = 0x4000 + 0x30 * n.val + 0 := by unfold base; omega
  have h3 := instOf_at 0x4000 256 0x30 n.val 0 n.isLt (by decide)
  have h4 : instOf (0x4000 + 0x30 * n.val + 0) 0x1000 4 0x40 = none := by
    unfold instOf
    rw [if_neg]
    omega
  simp only [readEffect, h1, h2, h3, h4]

end Sys2Proof.Machine
end

