-- ==== Sys2Proof/Laws/AccessKeeps.lean ====
section
/-! SUPPORT. The frame of every command that is a register access, for a master other than the image: the parts it may change. -/

namespace Sys2Proof.Machine

/-- A write by a master other than the image changes what its register's rule changes, and the error logger. -/
theorem regWrite_keeps_at {ps : List Part} {a : Nat} {v : Word} {s : State} (he : .err ∈ ps) (hw : optKeeps ps s (writeCmd false a v s))
    (hs : writeCmd false a v s = none → .regs ∈ ps ∧ ∀ old u, keepsBut ps u (regStored a old v u))
    (hc : a / 0x10000 = 1 → .cfg ∈ ps) : keepsBut ps s (regWrite false a v s).1 := by
  have hn : ∀ code args u, keepsBut ps u (notice code args u) := fun code args u =>
    keepsBut_mono (notice_keeps code args u) (fun p m => by rcases List.mem_singleton.mp m with rfl; exact he)
  have hr : ∀ a code u, keepsBut ps u (rangeNote a code u) := fun a code u =>
    keepsBut_mono (rangeNote_keeps a code u) (fun p m => by rcases List.mem_singleton.mp m with rfl; exact he)
  have ho : ∀ u, keepsBut ps u (otpGate a v u) := by
    intro u
    unfold otpGate
    split
    · rename_i h
      exact keepsBut_mono (mCfg_keeps _ u) (fun p m => by rcases List.mem_singleton.mp m with rfl; exact hc h)
    · exact keepsBut_refl _ _
  have hst : ∀ d, writeCmd false a v s = none → keepsBut ps s (writeStored false a d v s).1 := by
    intro d hnone
    obtain ⟨hr', hst⟩ := hs hnone
    unfold writeStored
    dsimp only
    split
    · exact keepsBut_doIf (fun u => hr a d.err u) (keepsBut_doIf (fun u => hn _ _ u) (keepsBut_refl _ _))
    · refine keepsBut_of ?_ (hst _ _) (fun _ m => m)
      exact keepsBut_mono (setReg_keeps _ _ _) (fun p m => by rcases List.mem_singleton.mp m with rfl; exact hr')
  unfold regWrite
  split
  · exact keepsBut_refl _ _
  cases hc : writeCmd false a v s with
  | some r => exact keepsBut_of (hw r hc) (ho _) (fun _ m => m)
  | none =>
    cases hd : regDesc a with
    | some d => exact keepsBut_of (hst d hc) (ho _) (fun _ m => m)
    | none => exact ho s

/-- The command of a write by a master other than the image: the register's parts and the error logger. -/
theorem accWrite_keeps_at {ps : List Part} {m : Master} {a : Nat} {v : Word} {s : State} (hm : m ≠ .image) (he : .err ∈ ps)
    (hw : optKeeps ps s (writeCmd false a v s))
    (hs : writeCmd false a v s = none → .regs ∈ ps ∧ ∀ old u, keepsBut ps u (regStored a old v u))
    (hc : a / 0x10000 = 1 → .cfg ∈ ps) : keepsBut ps s (accWrite m a v s) := by
  have hr := regWrite_keeps_at he hw hs hc
  have h1 : ∀ {u t : State}, keepsBut ps s u → keepsBut [.err] u t → keepsBut ps s t := fun h k =>
    keepsBut_of h k (fun p m => by rcases List.mem_singleton.mp m with rfl; exact he)
  have h2 : ∀ {u : State} (o : Output), keepsBut ps s u → keepsBut ps s (emit o u) := fun o h =>
    keepsBut_of h (emit_keeps o _) (fun _ m => absurd m (by simp))
  have h0 := keepsBut_refl ps s
  unfold accWrite masterWrite
  cases m with
  | image => exact absurd rfl hm
  | rmp =>
    dsimp only
    split
    · exact h2 _ h0
    · split
      · exact h2 _ (h1 h0 (notice_keeps _ _ _))
      · exact h2 _ hr
  | waypost =>
    dsimp only
    split
    · exact h2 _ h0
    · split
      · exact h2 _ h0
      · split
        · exact h2 _ (h1 h0 (dbgRefuse_keeps _))
        · split
          · exact h2 _ hr
          · exact h2 _ (h1 (h1 hr (mErr_keeps _ _)) (dbgRefuse_keeps _))

/-- The command of a read changes what the read's effect changes. -/
theorem accRead_keeps_at {ps : List Part} {m : Master} {a : Nat} {s : State} (hr : keepsBut ps s (readEffect a s)) :
    keepsBut ps s (accRead m a s) := by
  unfold accRead masterRead
  refine keepsBut_of ?_ (emit_keeps _ _) (fun _ m => absurd m (by simp))
  dsimp only
  split
  · exact keepsBut_refl _ _
  · split
    · exact keepsBut_refl _ _
    · split
      · exact keepsBut_refl _ _
      · exact hr

theorem acc_otpUnlock_keeps {m : Master} (hm : m ≠ .image) (v : Word) (s : State) : keepsBut [.err, .cfg] s (accWrite m (base 1 + 0x84) (v) s) := by
  refine accWrite_keeps_at hm (by decide) ?_ (fun h => ?_) (fun _ => by decide)
  · rw [otpUnlock_at]
    repeat' (first
      | with_reducible exact keepsBut_refl _ _
      | with_reducible exact optKeeps_none _ _
      | with_reducible refine optKeeps_some ?_
      | with_reducible refine optKeeps_ite ?_ ?_
      | with_reducible refine optKeeps_took ?_
      | with_reducible refine optKeeps_denied ?_ (by decide)
      | with_reducible refine keepsBut_ite ?_ ?_
      | with_reducible refine keepsBut_doIf (fun _ => ?_) ?_
      | with_reducible refine keepsBut_each (fun _ _ => ?_) ?_
      | dsimp only [id]
      | split)
  · rw [otpUnlock_at] at h
    exact absurd h (by first | exact Option.some_ne_none _ | (split <;> exact Option.some_ne_none _) | (unfold opOtpCmd; split <;> exact Option.some_ne_none _) | (unfold opCapCmd; (repeat' split) <;> exact Option.some_ne_none _))

theorem acc_otpProgram_keeps {m : Master} (hm : m ≠ .image) (slot : Fin 8) (s : State) : keepsBut [.err, .cfg] s (accWrite m (base 1 + 0x88) (w32 (2 ^ 30 + slot.val)) s) := by
  refine accWrite_keeps_at hm (by decide) ?_ (fun h => ?_) (fun _ => by decide)
  · rw [otpProgram_at]
    repeat' (first
      | with_reducible exact keepsBut_refl _ _
      | with_reducible exact optKeeps_none _ _
      | with_reducible refine optKeeps_some ?_
      | with_reducible refine optKeeps_ite ?_ ?_
      | with_reducible refine optKeeps_took ?_
      | with_reducible refine optKeeps_denied ?_ (by decide)
      | (with_reducible show optKeeps _ _ (opOtpCmd _ _); with_reducible refine optKeeps_mono (opOtpCmd_keeps _ _) (by decide))
      | with_reducible refine keepsBut_ite ?_ ?_
      | with_reducible refine keepsBut_doIf (fun _ => ?_) ?_
      | with_reducible refine keepsBut_each (fun _ _ => ?_) ?_
      | dsimp only [id]
      | split)
  · rw [otpProgram_at] at h
    exact absurd h (by first | exact Option.some_ne_none _ | (split <;> exact Option.some_ne_none _) | (unfold opOtpCmd; split <;> exact Option.some_ne_none _) | (unfold opCapCmd; (repeat' split) <;> exact Option.some_ne_none _))

theorem acc_otpRevoke_keeps {m : Master} (hm : m ≠ .image) (slot : Fin 8) (s : State) : keepsBut [.err, .cfg] s (accWrite m (base 1 + 0x88) (w32 (2 ^ 31 + slot.val)) s) := by
  refine accWrite_keeps_at hm (by decide) ?_ (fun h => ?_) (fun _ => by decide)
  · rw [otpProgram_at]
    repeat' (first
      | with_reducible exact keepsBut_refl _ _
      | with_reducible exact optKeeps_none _ _
      | with_reducible refine optKeeps_some ?_
      | with_reducible refine optKeeps_ite ?_ ?_
      | with_reducible refine optKeeps_took ?_
      | with_reducible refine optKeeps_denied ?_ (by decide)
      | (with_reducible show optKeeps _ _ (opOtpCmd _ _); with_reducible refine optKeeps_mono (opOtpCmd_keeps _ _) (by decide))
      | with_reducible refine keepsBut_ite ?_ ?_
      | with_reducible refine keepsBut_doIf (fun _ => ?_) ?_
      | with_reducible refine keepsBut_each (fun _ _ => ?_) ?_
      | dsimp only [id]
      | split)
  · rw [otpProgram_at] at h
    exact absurd h (by first | exact Option.some_ne_none _ | (split <;> exact Option.some_ne_none _) | (unfold opOtpCmd; split <;> exact Option.some_ne_none _) | (unfold opCapCmd; (repeat' split) <;> exact Option.some_ne_none _))

theorem acc_otpPin_keeps {m : Master} (hm : m ≠ .image)  (s : State) : keepsBut [.err, .cfg] s (accWrite m (base 1 + 0x88) (0xC0000000) s) := by
  refine accWrite_keeps_at hm (by decide) ?_ (fun h => ?_) (fun _ => by decide)
  · rw [otpProgram_at]
    repeat' (first
      | with_reducible exact keepsBut_refl _ _
      | with_reducible exact optKeeps_none _ _
      | with_reducible refine optKeeps_some ?_
      | with_reducible refine optKeeps_ite ?_ ?_
      | with_reducible refine optKeeps_took ?_
      | with_reducible refine optKeeps_denied ?_ (by decide)
      | (with_reducible show optKeeps _ _ (opOtpCmd _ _); with_reducible refine optKeeps_mono (opOtpCmd_keeps _ _) (by decide))
      | with_reducible refine keepsBut_ite ?_ ?_
      | with_reducible refine keepsBut_doIf (fun _ => ?_) ?_
      | with_reducible refine keepsBut_each (fun _ _ => ?_) ?_
      | dsimp only [id]
      | split)
  · rw [otpProgram_at] at h
    exact absurd h (by first | exact Option.some_ne_none _ | (split <;> exact Option.some_ne_none _) | (unfold opOtpCmd; split <;> exact Option.some_ne_none _) | (unfold opCapCmd; (repeat' split) <;> exact Option.some_ne_none _))

theorem acc_paceClr_keeps {m : Master} (hm : m ≠ .image) (v : Word) (s : State) : keepsBut [.sys, .err] s (accWrite m (0x408) (v) s) := by
  refine accWrite_keeps_at hm (by decide) ?_ (fun h => ?_) (fun h => absurd h (by decide))
  · rw [paceClr_at]
    repeat' (first
      | with_reducible exact keepsBut_refl _ _
      | with_reducible exact optKeeps_none _ _
      | with_reducible refine optKeeps_some ?_
      | with_reducible refine optKeeps_ite ?_ ?_
      | with_reducible refine optKeeps_took ?_
      | with_reducible refine optKeeps_denied ?_ (by decide)
      | (with_reducible show keepsBut _ _ (opPaceClr _ _); with_reducible refine keepsBut_of ?_ (opPaceClr_keeps _ _) (by decide))
      | with_reducible refine keepsBut_ite ?_ ?_
      | with_reducible refine keepsBut_doIf (fun _ => ?_) ?_
      | with_reducible refine keepsBut_each (fun _ _ => ?_) ?_
      | dsimp only [id]
      | split)
  · rw [paceClr_at] at h
    exact absurd h (by first | exact Option.some_ne_none _ | (split <;> exact Option.some_ne_none _) | (unfold opOtpCmd; split <;> exact Option.some_ne_none _) | (unfold opCapCmd; (repeat' split) <;> exact Option.some_ne_none _))

theorem acc_knotImmediate_keeps {m : Master} (hm : m ≠ .image)  (s : State) : keepsBut [.sys, .err, .par] s (accWrite m (0x100) (0) s) := by
  refine accWrite_keeps_at hm (by decide) ?_ (fun h => ?_) (fun h => absurd h (by decide))
  · rw [knotImmediate_at]
    repeat' (first
      | with_reducible exact keepsBut_refl _ _
      | with_reducible exact optKeeps_none _ _
      | with_reducible refine optKeeps_some ?_
      | with_reducible refine optKeeps_ite ?_ ?_
      | with_reducible refine optKeeps_took ?_
      | with_reducible refine optKeeps_denied ?_ (by decide)
      | with_reducible exact keepsBut_mono (opKnot_keeps _ _) (by decide)
      | with_reducible refine keepsBut_ite ?_ ?_
      | with_reducible refine keepsBut_doIf (fun _ => ?_) ?_
      | with_reducible refine keepsBut_each (fun _ _ => ?_) ?_
      | dsimp only [id]
      | split)
  · rw [knotImmediate_at] at h
    exact absurd h (by first | exact Option.some_ne_none _ | (split <;> exact Option.some_ne_none _) | (unfold opOtpCmd; split <;> exact Option.some_ne_none _) | (unfold opCapCmd; (repeat' split) <;> exact Option.some_ne_none _))

theorem acc_knotMilestone_keeps {m : Master} (hm : m ≠ .image) (ms : Ms) (s : State) : keepsBut [.sys, .err, .par] s (accWrite m (0x100) (w32 (2 ^ 30 + ms.val)) s) := by
  refine accWrite_keeps_at hm (by decide) ?_ (fun h => ?_) (fun h => absurd h (by decide))
  · rw [knotImmediate_at]
    repeat' (first
      | with_reducible exact keepsBut_refl _ _
      | with_reducible exact optKeeps_none _ _
      | with_reducible refine optKeeps_some ?_
      | with_reducible refine optKeeps_ite ?_ ?_
      | with_reducible refine optKeeps_took ?_
      | with_reducible refine optKeeps_denied ?_ (by decide)
      | with_reducible exact keepsBut_mono (opKnot_keeps _ _) (by decide)
      | with_reducible refine keepsBut_ite ?_ ?_
      | with_reducible refine keepsBut_doIf (fun _ => ?_) ?_
      | with_reducible refine keepsBut_each (fun _ _ => ?_) ?_
      | dsimp only [id]
      | split)
  · rw [knotImmediate_at] at h
    exact absurd h (by first | exact Option.some_ne_none _ | (split <;> exact Option.some_ne_none _) | (unfold opOtpCmd; split <;> exact Option.some_ne_none _) | (unfold opCapCmd; (repeat' split) <;> exact Option.some_ne_none _))

theorem acc_knotRoadCount_keeps {m : Master} (hm : m ≠ .image)  (s : State) : keepsBut [.sys, .err, .par] s (accWrite m (0x100) (0x80000000) s) := by
  refine accWrite_keeps_at hm (by decide) ?_ (fun h => ?_) (fun h => absurd h (by decide))
  · rw [knotImmediate_at]
    repeat' (first
      | with_reducible exact keepsBut_refl _ _
      | with_reducible exact optKeeps_none _ _
      | with_reducible refine optKeeps_some ?_
      | with_reducible refine optKeeps_ite ?_ ?_
      | with_reducible refine optKeeps_took ?_
      | with_reducible refine optKeeps_denied ?_ (by decide)
      | with_reducible exact keepsBut_mono (opKnot_keeps _ _) (by decide)
      | with_reducible refine keepsBut_ite ?_ ?_
      | with_reducible refine keepsBut_doIf (fun _ => ?_) ?_
      | with_reducible refine keepsBut_each (fun _ _ => ?_) ?_
      | dsimp only [id]
      | split)
  · rw [knotImmediate_at] at h
    exact absurd h (by first | exact Option.some_ne_none _ | (split <;> exact Option.some_ne_none _) | (unfold opOtpCmd; split <;> exact Option.some_ne_none _) | (unfold opCapCmd; (repeat' split) <;> exact Option.some_ne_none _))

theorem acc_knotCancel_keeps {m : Master} (hm : m ≠ .image)  (s : State) : keepsBut [.sys, .err, .par] s (accWrite m (0x100) (0xC0000000) s) := by
  refine accWrite_keeps_at hm (by decide) ?_ (fun h => ?_) (fun h => absurd h (by decide))
  · rw [knotImmediate_at]
    repeat' (first
      | with_reducible exact keepsBut_refl _ _
      | with_reducible exact optKeeps_none _ _
      | with_reducible refine optKeeps_some ?_
      | with_reducible refine optKeeps_ite ?_ ?_
      | with_reducible refine optKeeps_took ?_
      | with_reducible refine optKeeps_denied ?_ (by decide)
      | with_reducible exact keepsBut_mono (opKnot_keeps _ _) (by decide)
      | with_reducible refine keepsBut_ite ?_ ?_
      | with_reducible refine keepsBut_doIf (fun _ => ?_) ?_
      | with_reducible refine keepsBut_each (fun _ _ => ?_) ?_
      | dsimp only [id]
      | split)
  · rw [knotImmediate_at] at h
    exact absurd h (by first | exact Option.some_ne_none _ | (split <;> exact Option.some_ne_none _) | (unfold opOtpCmd; split <;> exact Option.some_ne_none _) | (unfold opCapCmd; (repeat' split) <;> exact Option.some_ne_none _))

theorem acc_geoCheck_keeps {m : Master} (hm : m ≠ .image) (v : Word) (s : State) : keepsBut [.err, .fir] s (accWrite m (base 14 + 0x108) (v) s) := by
  refine accWrite_keeps_at hm (by decide) ?_ (fun h => ?_) (fun h => absurd h (by decide))
  · rw [geoCheck_at]
    repeat' (first
      | with_reducible exact keepsBut_refl _ _
      | with_reducible exact optKeeps_none _ _
      | with_reducible refine optKeeps_some ?_
      | with_reducible refine optKeeps_ite ?_ ?_
      | with_reducible refine optKeeps_took ?_
      | with_reducible refine optKeeps_denied ?_ (by decide)
      | (with_reducible show keepsBut _ _ (opGeoCheck _ _); with_reducible refine keepsBut_of ?_ (opGeoCheck_keeps _ _) (by decide))
      | with_reducible refine keepsBut_ite ?_ ?_
      | with_reducible refine keepsBut_doIf (fun _ => ?_) ?_
      | with_reducible refine keepsBut_each (fun _ _ => ?_) ?_
      | dsimp only [id]
      | split)
  · rw [geoCheck_at] at h
    exact absurd h (by first | exact Option.some_ne_none _ | (split <;> exact Option.some_ne_none _) | (unfold opOtpCmd; split <;> exact Option.some_ne_none _) | (unfold opCapCmd; (repeat' split) <;> exact Option.some_ne_none _))

theorem acc_indexArm_keeps {m : Master} (hm : m ≠ .image) (ch : Enc) (v : Word) (s : State) : keepsBut [.regs, .err, .pos] s (accWrite m (posAddr ch 8) (v) s) := by
  refine accWrite_keeps_at hm (by decide) ?_ (fun _ => ⟨by decide, fun old u => ?_⟩) (fun h => by unfold posAddr base at h; omega)
  · rw [indexArm_none]; exact optKeeps_none _ _
  · rw [indexArm_stored]
    repeat' (first
      | with_reducible exact keepsBut_refl _ _
      | with_reducible exact optKeeps_none _ _
      | with_reducible refine optKeeps_some ?_
      | with_reducible refine optKeeps_ite ?_ ?_
      | with_reducible refine optKeeps_took ?_
      | with_reducible refine optKeeps_denied ?_ (by decide)
      | (with_reducible show keepsBut _ _ (postLive _ _ _); with_reducible refine keepsBut_of ?_ (postLive_keeps _ _ _) (by decide))
      | (with_reducible show keepsBut _ _ (opIdxArm _ _); with_reducible refine keepsBut_of ?_ (opIdxArm_keeps _ _) (by decide))
      | with_reducible refine keepsBut_ite ?_ ?_
      | with_reducible refine keepsBut_doIf (fun _ => ?_) ?_
      | with_reducible refine keepsBut_each (fun _ _ => ?_) ?_
      | dsimp only [id]
      | split)

theorem acc_posChannelConfig_keeps {m : Master} (hm : m ≠ .image) (ch : Enc) (v : Word) (s : State) : keepsBut [.regs, .err, .pos] s (accWrite m (posAddr ch 0) (v) s) := by
  refine accWrite_keeps_at hm (by decide) ?_ (fun _ => ⟨by decide, fun old u => ?_⟩) (fun h => by unfold posAddr base at h; omega)
  · rw [posChannelConfig_none]; exact optKeeps_none _ _
  · rw [posChannelConfig_stored]
    repeat' (first
      | with_reducible exact keepsBut_refl _ _
      | with_reducible exact optKeeps_none _ _
      | with_reducible refine optKeeps_some ?_
      | with_reducible refine optKeeps_ite ?_ ?_
      | with_reducible refine optKeeps_took ?_
      | with_reducible refine optKeeps_denied ?_ (by decide)
      | (with_reducible show keepsBut _ _ (opPosCtl _ _ _ _); with_reducible refine keepsBut_of ?_ (opPosCtl_keeps _ _ _ _) (by decide))
      | with_reducible refine keepsBut_ite ?_ ?_
      | with_reducible refine keepsBut_doIf (fun _ => ?_) ?_
      | with_reducible refine keepsBut_each (fun _ _ => ?_) ?_
      | dsimp only [id]
      | split)

theorem acc_milestoneArm_keeps {m : Master} (hm : m ≠ .image) (ms : Ms) (v : Word) (s : State) : keepsBut [.regs, .err, .pos] s (accWrite m (msAddr ms 0) (v) s) := by
  refine accWrite_keeps_at hm (by decide) ?_ (fun _ => ⟨by decide, fun old u => ?_⟩) (fun h => by unfold msAddr base at h; omega)
  · rw [milestoneArm_none]; exact optKeeps_none _ _
  · rw [milestoneArm_stored]
    repeat' (first
      | with_reducible exact keepsBut_refl _ _
      | with_reducible exact optKeeps_none _ _
      | with_reducible refine optKeeps_some ?_
      | with_reducible refine optKeeps_ite ?_ ?_
      | with_reducible refine optKeeps_took ?_
      | with_reducible refine optKeeps_denied ?_ (by decide)
      | (with_reducible show keepsBut _ _ (postLive _ _ _); with_reducible refine keepsBut_of ?_ (postLive_keeps _ _ _) (by decide))
      | with_reducible refine keepsBut_ite ?_ ?_
      | with_reducible refine keepsBut_doIf (fun _ => ?_) ?_
      | with_reducible refine keepsBut_each (fun _ _ => ?_) ?_
      | dsimp only [id]
      | split)

theorem acc_milestoneDisarm_keeps {m : Master} (hm : m ≠ .image) (ms : Ms) (v : Word) (s : State) : keepsBut [.regs, .err, .pos] s (accWrite m (msAddr ms 0) (v) s) := by
  refine accWrite_keeps_at hm (by decide) ?_ (fun _ => ⟨by decide, fun old u => ?_⟩) (fun h => by unfold msAddr base at h; omega)
  · rw [milestoneArm_none]; exact optKeeps_none _ _
  · rw [milestoneArm_stored]
    repeat' (first
      | with_reducible exact keepsBut_refl _ _
      | with_reducible exact optKeeps_none _ _
      | with_reducible refine optKeeps_some ?_
      | with_reducible refine optKeeps_ite ?_ ?_
      | with_reducible refine optKeeps_took ?_
      | with_reducible refine optKeeps_denied ?_ (by decide)
      | (with_reducible show keepsBut _ _ (postLive _ _ _); with_reducible refine keepsBut_of ?_ (postLive_keeps _ _ _) (by decide))
      | with_reducible refine keepsBut_ite ?_ ?_
      | with_reducible refine keepsBut_doIf (fun _ => ?_) ?_
      | with_reducible refine keepsBut_each (fun _ _ => ?_) ?_
      | dsimp only [id]
      | split)

theorem acc_milestoneCmpCommit_keeps {m : Master} (hm : m ≠ .image) (ms : Ms) (v : Word) (s : State) : keepsBut [.err, .pos] s (accWrite m (msAddr ms 8) (v) s) := by
  refine accWrite_keeps_at hm (by decide) ?_ (fun h => ?_) (fun h => by unfold msAddr base at h; omega)
  · rw [milestoneCmpCommit_at]
    repeat' (first
      | with_reducible exact keepsBut_refl _ _
      | with_reducible exact optKeeps_none _ _
      | with_reducible refine optKeeps_some ?_
      | with_reducible refine optKeeps_ite ?_ ?_
      | with_reducible refine optKeeps_took ?_
      | with_reducible refine optKeeps_denied ?_ (by decide)
      | (with_reducible show keepsBut _ _ (postLive _ _ _); with_reducible refine keepsBut_of ?_ (postLive_keeps _ _ _) (by decide))
      | with_reducible refine keepsBut_ite ?_ ?_
      | with_reducible refine keepsBut_doIf (fun _ => ?_) ?_
      | with_reducible refine keepsBut_each (fun _ _ => ?_) ?_
      | dsimp only [id]
      | split)
  · rw [milestoneCmpCommit_at] at h
    exact absurd h (by first | exact Option.some_ne_none _ | (split <;> exact Option.some_ne_none _) | (unfold opOtpCmd; split <;> exact Option.some_ne_none _) | (unfold opCapCmd; (repeat' split) <;> exact Option.some_ne_none _))

theorem acc_nozzleRequest_keeps {m : Master} (hm : m ≠ .image) (v : Word) (s : State) : keepsBut [.free, .err, .tow, .fir, .nzl, .gat, .mem, .par] s (accWrite m (base 16 + 0x54) (v) s) := by
  refine accWrite_keeps_at hm (by decide) ?_ (fun h => ?_) (fun h => absurd h (by decide))
  · rw [nozzleRequest_at]
    repeat' (first
      | with_reducible exact keepsBut_refl _ _
      | with_reducible exact optKeeps_none _ _
      | with_reducible refine optKeeps_some ?_
      | with_reducible refine optKeeps_ite ?_ ?_
      | with_reducible refine optKeeps_took ?_
      | with_reducible refine optKeeps_denied ?_ (by decide)
      | (with_reducible show keepsBut _ _ (opNzlReq _ _); with_reducible refine keepsBut_of ?_ (opNzlReq_keeps _ _) (by decide))
      | with_reducible refine keepsBut_ite ?_ ?_
      | with_reducible refine keepsBut_doIf (fun _ => ?_) ?_
      | with_reducible refine keepsBut_each (fun _ _ => ?_) ?_
      | dsimp only [id]
      | split)
  · rw [nozzleRequest_at] at h
    exact absurd h (by first | exact Option.some_ne_none _ | (split <;> exact Option.some_ne_none _) | (unfold opOtpCmd; split <;> exact Option.some_ne_none _) | (unfold opCapCmd; (repeat' split) <;> exact Option.some_ne_none _))

theorem acc_gateStart_keeps {m : Master} (hm : m ≠ .image) (g : Gate) (s : State) : keepsBut [.err, .gat, .cal] s (accWrite m (gatAddr g 0x28) (1) s) := by
  refine accWrite_keeps_at hm (by decide) ?_ (fun h => ?_) (fun h => by unfold gatAddr base at h; omega)
  · rw [gateStart_at]
    repeat' (first
      | with_reducible exact keepsBut_refl _ _
      | with_reducible exact optKeeps_none _ _
      | with_reducible refine optKeeps_some ?_
      | with_reducible refine optKeeps_ite ?_ ?_
      | with_reducible refine optKeeps_took ?_
      | with_reducible refine optKeeps_denied ?_ (by decide)
      | (with_reducible show keepsBut _ _ (opGateCmd _ _ _); with_reducible refine keepsBut_of ?_ (opGateCmd_keeps _ _ _) (by decide))
      | with_reducible refine keepsBut_ite ?_ ?_
      | with_reducible refine keepsBut_doIf (fun _ => ?_) ?_
      | with_reducible refine keepsBut_each (fun _ _ => ?_) ?_
      | dsimp only [id]
      | split)
  · rw [gateStart_at] at h
    exact absurd h (by first | exact Option.some_ne_none _ | (split <;> exact Option.some_ne_none _) | (unfold opOtpCmd; split <;> exact Option.some_ne_none _) | (unfold opCapCmd; (repeat' split) <;> exact Option.some_ne_none _))

theorem acc_gateAbortCmd_keeps {m : Master} (hm : m ≠ .image) (g : Gate) (s : State) : keepsBut [.err, .gat, .cal] s (accWrite m (gatAddr g 0x28) (2) s) := by
  refine accWrite_keeps_at hm (by decide) ?_ (fun h => ?_) (fun h => by unfold gatAddr base at h; omega)
  · rw [gateStart_at]
    repeat' (first
      | with_reducible exact keepsBut_refl _ _
      | with_reducible exact optKeeps_none _ _
      | with_reducible refine optKeeps_some ?_
      | with_reducible refine optKeeps_ite ?_ ?_
      | with_reducible refine optKeeps_took ?_
      | with_reducible refine optKeeps_denied ?_ (by decide)
      | (with_reducible show keepsBut _ _ (opGateCmd _ _ _); with_reducible refine keepsBut_of ?_ (opGateCmd_keeps _ _ _) (by decide))
      | with_reducible refine keepsBut_ite ?_ ?_
      | with_reducible refine keepsBut_doIf (fun _ => ?_) ?_
      | with_reducible refine keepsBut_each (fun _ _ => ?_) ?_
      | dsimp only [id]
      | split)
  · rw [gateStart_at] at h
    exact absurd h (by first | exact Option.some_ne_none _ | (split <;> exact Option.some_ne_none _) | (unfold opOtpCmd; split <;> exact Option.some_ne_none _) | (unfold opCapCmd; (repeat' split) <;> exact Option.some_ne_none _))

theorem acc_gulRetrain_keeps {m : Master} (hm : m ≠ .image) (p : Port) (v : Word) (s : State) : keepsBut [.err, .tow, .fir, .nzl, .gul, .mem] s (accWrite m (gulAddr p 0x34) (v) s) := by
  refine accWrite_keeps_at hm (by decide) ?_ (fun h => ?_) (fun h => by unfold gulAddr base at h; omega)
  · rw [gulRetrain_at]
    repeat' (first
      | with_reducible exact keepsBut_refl _ _
      | with_reducible exact optKeeps_none _ _
      | with_reducible refine optKeeps_some ?_
      | with_reducible refine optKeeps_ite ?_ ?_
      | with_reducible refine optKeeps_took ?_
      | with_reducible refine optKeeps_denied ?_ (by decide)
      | (with_reducible show keepsBut _ _ (opGulClr _ _ _); with_reducible refine keepsBut_of ?_ (opGulClr_keeps _ _ _) (by decide))
      | with_reducible refine keepsBut_ite ?_ ?_
      | with_reducible refine keepsBut_doIf (fun _ => ?_) ?_
      | with_reducible refine keepsBut_each (fun _ _ => ?_) ?_
      | dsimp only [id]
      | split)
  · rw [gulRetrain_at] at h
    exact absurd h (by first | exact Option.some_ne_none _ | (split <;> exact Option.some_ne_none _) | (unfold opOtpCmd; split <;> exact Option.some_ne_none _) | (unfold opCapCmd; (repeat' split) <;> exact Option.some_ne_none _))

theorem acc_gulPortClr_keeps {m : Master} (hm : m ≠ .image) (p : Port) (v : Word) (s : State) : keepsBut [.err, .tow, .fir, .nzl, .gul, .mem] s (accWrite m (gulAddr p 0x34) (v) s) := by
  refine accWrite_keeps_at hm (by decide) ?_ (fun h => ?_) (fun h => by unfold gulAddr base at h; omega)
  · rw [gulRetrain_at]
    repeat' (first
      | with_reducible exact keepsBut_refl _ _
      | with_reducible exact optKeeps_none _ _
      | with_reducible refine optKeeps_some ?_
      | with_reducible refine optKeeps_ite ?_ ?_
      | with_reducible refine optKeeps_took ?_
      | with_reducible refine optKeeps_denied ?_ (by decide)
      | (with_reducible show keepsBut _ _ (opGulClr _ _ _); with_reducible refine keepsBut_of ?_ (opGulClr_keeps _ _ _) (by decide))
      | with_reducible refine keepsBut_ite ?_ ?_
      | with_reducible refine keepsBut_doIf (fun _ => ?_) ?_
      | with_reducible refine keepsBut_each (fun _ _ => ?_) ?_
      | dsimp only [id]
      | split)
  · rw [gulRetrain_at] at h
    exact absurd h (by first | exact Option.some_ne_none _ | (split <;> exact Option.some_ne_none _) | (unfold opOtpCmd; split <;> exact Option.some_ne_none _) | (unfold opCapCmd; (repeat' split) <;> exact Option.some_ne_none _))

theorem acc_hostCfgAccess_keeps {m : Master} (hm : m ≠ .image) (v : Word) (s : State) : keepsBut [.err, .gul] s (accWrite m (base 18 + 0x18) (v) s) := by
  refine accWrite_keeps_at hm (by decide) ?_ (fun h => ?_) (fun h => absurd h (by decide))
  · rw [hostCfgAccess_at]
    repeat' (first
      | with_reducible exact keepsBut_refl _ _
      | with_reducible exact optKeeps_none _ _
      | with_reducible refine optKeeps_some ?_
      | with_reducible refine optKeeps_ite ?_ ?_
      | with_reducible refine optKeeps_took ?_
      | with_reducible refine optKeeps_denied ?_ (by decide)
      | (with_reducible show keepsBut _ _ (hcfgRefuse _); with_reducible refine keepsBut_of ?_ (hcfgRefuse_keeps _) (by decide))
      | (with_reducible show keepsBut _ _ (opHcfgGo _ _); with_reducible refine keepsBut_of ?_ (opHcfgGo_keeps _ _) (by decide))
      | with_reducible refine keepsBut_ite ?_ ?_
      | with_reducible refine keepsBut_doIf (fun _ => ?_) ?_
      | with_reducible refine keepsBut_each (fun _ _ => ?_) ?_
      | dsimp only [id]
      | split)
  · rw [hostCfgAccess_at] at h
    exact absurd h (by first | exact Option.some_ne_none _ | (split <;> exact Option.some_ne_none _) | (unfold opOtpCmd; split <;> exact Option.some_ne_none _) | (unfold opCapCmd; (repeat' split) <;> exact Option.some_ne_none _))

theorem acc_eyeScanStart_keeps {m : Master} (hm : m ≠ .image) (v : Word) (s : State) : keepsBut [.err, .gul] s (accWrite m (base 18 + 0x44) (v) s) := by
  refine accWrite_keeps_at hm (by decide) ?_ (fun h => ?_) (fun h => absurd h (by decide))
  · rw [eyeScanStart_at]
    repeat' (first
      | with_reducible exact keepsBut_refl _ _
      | with_reducible exact optKeeps_none _ _
      | with_reducible refine optKeeps_some ?_
      | with_reducible refine optKeeps_ite ?_ ?_
      | with_reducible refine optKeeps_took ?_
      | with_reducible refine optKeeps_denied ?_ (by decide)
      | (with_reducible show keepsBut _ _ (eyeRefuse _); with_reducible refine keepsBut_of ?_ (eyeRefuse_keeps _) (by decide))
      | (with_reducible show keepsBut _ _ (opEyeGo _ _); with_reducible refine keepsBut_of ?_ (opEyeGo_keeps _ _) (by decide))
      | with_reducible refine keepsBut_ite ?_ ?_
      | with_reducible refine keepsBut_doIf (fun _ => ?_) ?_
      | with_reducible refine keepsBut_each (fun _ _ => ?_) ?_
      | dsimp only [id]
      | split)
  · rw [eyeScanStart_at] at h
    exact absurd h (by first | exact Option.some_ne_none _ | (split <;> exact Option.some_ne_none _) | (unfold opOtpCmd; split <;> exact Option.some_ne_none _) | (unfold opCapCmd; (repeat' split) <;> exact Option.some_ne_none _))

theorem acc_recordRelease_keeps {m : Master} (hm : m ≠ .image) (c : Ctx) (v : Word) (s : State) : keepsBut [.err, .insp] s (accWrite m (base 21 + 0x1010 + 0x40 * c) (v) s) := by
  refine accWrite_keeps_at hm (by decide) ?_ (fun h => ?_) (fun h => by unfold base at h; omega)
  · rw [recordRelease_at]
    repeat' (first
      | with_reducible exact keepsBut_refl _ _
      | with_reducible exact optKeeps_none _ _
      | with_reducible refine optKeeps_some ?_
      | with_reducible refine optKeeps_ite ?_ ?_
      | with_reducible refine optKeeps_took ?_
      | with_reducible refine optKeeps_denied ?_ (by decide)
      | (with_reducible show keepsBut _ _ (opInsRel _ _ _); with_reducible refine keepsBut_of ?_ (opInsRel_keeps _ _ _) (by decide))
      | with_reducible refine keepsBut_ite ?_ ?_
      | with_reducible refine keepsBut_doIf (fun _ => ?_) ?_
      | with_reducible refine keepsBut_each (fun _ _ => ?_) ?_
      | dsimp only [id]
      | split)
  · rw [recordRelease_at] at h
    exact absurd h (by first | exact Option.some_ne_none _ | (split <;> exact Option.some_ne_none _) | (unfold opOtpCmd; split <;> exact Option.some_ne_none _) | (unfold opCapCmd; (repeat' split) <;> exact Option.some_ne_none _))

theorem acc_memVerifyCmd_keeps {m : Master} (hm : m ≠ .image) (v : Word) (s : State) : keepsBut [.err, .mem] s (accWrite m (base 7 + 0xC) (v) s) := by
  refine accWrite_keeps_at hm (by decide) ?_ (fun h => ?_) (fun h => absurd h (by decide))
  · rw [memVerifyCmd_at]
    repeat' (first
      | with_reducible exact keepsBut_refl _ _
      | with_reducible exact optKeeps_none _ _
      | with_reducible refine optKeeps_some ?_
      | with_reducible refine optKeeps_ite ?_ ?_
      | with_reducible refine optKeeps_took ?_
      | with_reducible refine optKeeps_denied ?_ (by decide)
      | (with_reducible show keepsBut _ _ (opMemVerify _ _); with_reducible refine keepsBut_of ?_ (opMemVerify_keeps _ _) (by decide))
      | with_reducible refine keepsBut_ite ?_ ?_
      | with_reducible refine keepsBut_doIf (fun _ => ?_) ?_
      | with_reducible refine keepsBut_each (fun _ _ => ?_) ?_
      | dsimp only [id]
      | split)
  · rw [memVerifyCmd_at] at h
    exact absurd h (by first | exact Option.some_ne_none _ | (split <;> exact Option.some_ne_none _) | (unfold opOtpCmd; split <;> exact Option.some_ne_none _) | (unfold opCapCmd; (repeat' split) <;> exact Option.some_ne_none _))

theorem acc_axisTargetWrite_keeps {m : Master} (hm : m ≠ .image) (a : Axis) (v : Word) (s : State) : keepsBut [.regs, .err, .axs] s (accWrite m (axsAddr a 0x24) (v) s) := by
  refine accWrite_keeps_at hm (by decide) ?_ (fun _ => ⟨by decide, fun old u => ?_⟩) (fun h => by unfold axsAddr base at h; omega)
  · rw [axisTargetWrite_none]; exact optKeeps_none _ _
  · rw [axisTargetWrite_stored]
    repeat' (first
      | with_reducible exact keepsBut_refl _ _
      | with_reducible exact optKeeps_none _ _
      | with_reducible refine optKeeps_some ?_
      | with_reducible refine optKeeps_ite ?_ ?_
      | with_reducible refine optKeeps_took ?_
      | with_reducible refine optKeeps_denied ?_ (by decide)
      | (with_reducible show keepsBut _ _ (opAxsTarget _ _); with_reducible refine keepsBut_of ?_ (opAxsTarget_keeps _ _) (by decide))
      | with_reducible refine keepsBut_ite ?_ ?_
      | with_reducible refine keepsBut_doIf (fun _ => ?_) ?_
      | with_reducible refine keepsBut_each (fun _ _ => ?_) ?_
      | dsimp only [id]
      | split)

theorem acc_axisVtargetWrite_keeps {m : Master} (hm : m ≠ .image) (a : Axis) (v : Word) (s : State) : keepsBut [.regs, .err, .axs] s (accWrite m (axsAddr a 0x28) (v) s) := by
  refine accWrite_keeps_at hm (by decide) ?_ (fun _ => ⟨by decide, fun old u => ?_⟩) (fun h => by unfold axsAddr base at h; omega)
  · rw [axisVtargetWrite_none]; exact optKeeps_none _ _
  · rw [axisVtargetWrite_stored]
    repeat' (first
      | with_reducible exact keepsBut_refl _ _
      | with_reducible exact optKeeps_none _ _
      | with_reducible refine optKeeps_some ?_
      | with_reducible refine optKeeps_ite ?_ ?_
      | with_reducible refine optKeeps_took ?_
      | with_reducible refine optKeeps_denied ?_ (by decide)
      | (with_reducible show keepsBut _ _ (opAxsVtarget _ _ _); with_reducible refine keepsBut_of ?_ (opAxsVtarget_keeps _ _ _) (by decide))
      | with_reducible refine keepsBut_ite ?_ ?_
      | with_reducible refine keepsBut_doIf (fun _ => ?_) ?_
      | with_reducible refine keepsBut_each (fun _ _ => ?_) ?_
      | dsimp only [id]
      | split)

theorem acc_axisModeWrite_keeps {m : Master} (hm : m ≠ .image) (a : Axis) (v : Word) (s : State) : keepsBut [.regs, .err] s (accWrite m (axsAddr a 0x2C) (v) s) := by
  refine accWrite_keeps_at hm (by decide) ?_ (fun _ => ⟨by decide, fun old u => ?_⟩) (fun h => by unfold axsAddr base at h; omega)
  · rw [axisModeWrite_none]; exact optKeeps_none _ _
  · rw [axisModeWrite_stored]
    repeat' (first
      | with_reducible exact keepsBut_refl _ _
      | with_reducible exact optKeeps_none _ _
      | with_reducible refine optKeeps_some ?_
      | with_reducible refine optKeeps_ite ?_ ?_
      | with_reducible refine optKeeps_took ?_
      | with_reducible refine optKeeps_denied ?_ (by decide)
      | with_reducible refine keepsBut_ite ?_ ?_
      | with_reducible refine keepsBut_doIf (fun _ => ?_) ?_
      | with_reducible refine keepsBut_each (fun _ _ => ?_) ?_
      | dsimp only [id]
      | split)

theorem acc_axisSetpos_keeps {m : Master} (hm : m ≠ .image) (a : Axis) (v : Word) (s : State) : keepsBut [.regs, .err, .axs] s (accWrite m (axsAddr a 0x54) (v) s) := by
  refine accWrite_keeps_at hm (by decide) ?_ (fun _ => ⟨by decide, fun old u => ?_⟩) (fun h => by unfold axsAddr base at h; omega)
  · rw [axisSetpos_none]; exact optKeeps_none _ _
  · rw [axisSetpos_stored]
    repeat' (first
      | with_reducible exact keepsBut_refl _ _
      | with_reducible exact optKeeps_none _ _
      | with_reducible refine optKeeps_some ?_
      | with_reducible refine optKeeps_ite ?_ ?_
      | with_reducible refine optKeeps_took ?_
      | with_reducible refine optKeeps_denied ?_ (by decide)
      | (with_reducible show keepsBut _ _ (opAxsSetpos _ _ _); with_reducible refine keepsBut_of ?_ (opAxsSetpos_keeps _ _ _) (by decide))
      | with_reducible refine keepsBut_ite ?_ ?_
      | with_reducible refine keepsBut_doIf (fun _ => ?_) ?_
      | with_reducible refine keepsBut_each (fun _ _ => ?_) ?_
      | dsimp only [id]
      | split)

theorem acc_axisGearSchedule_keeps {m : Master} (hm : m ≠ .image) (a : Axis) (v : Word) (s : State) : keepsBut [.regs, .err, .axs] s (accWrite m (axsAddr a 0x44) (v) s) := by
  refine accWrite_keeps_at hm (by decide) ?_ (fun _ => ⟨by decide, fun old u => ?_⟩) (fun h => by unfold axsAddr base at h; omega)
  · rw [axisGearSchedule_none]; exact optKeeps_none _ _
  · rw [axisGearSchedule_stored]
    repeat' (first
      | with_reducible exact keepsBut_refl _ _
      | with_reducible exact optKeeps_none _ _
      | with_reducible refine optKeeps_some ?_
      | with_reducible refine optKeeps_ite ?_ ?_
      | with_reducible refine optKeeps_took ?_
      | with_reducible refine optKeeps_denied ?_ (by decide)
      | (with_reducible show keepsBut _ _ (opAxsGat _ _ _); with_reducible refine keepsBut_of ?_ (opAxsGat_keeps _ _ _) (by decide))
      | with_reducible refine keepsBut_ite ?_ ?_
      | with_reducible refine keepsBut_doIf (fun _ => ?_) ?_
      | with_reducible refine keepsBut_each (fun _ _ => ?_) ?_
      | dsimp only [id]
      | split)

theorem acc_lampSwapRequest_keeps {m : Master} (hm : m ≠ .image) (v : Word) (s : State) : keepsBut [.err, .lmp] s (accWrite m (base 23 + 8) (v) s) := by
  refine accWrite_keeps_at hm (by decide) ?_ (fun h => ?_) (fun h => absurd h (by decide))
  · rw [lampSwapRequest_at]
    repeat' (first
      | with_reducible exact keepsBut_refl _ _
      | with_reducible exact optKeeps_none _ _
      | with_reducible refine optKeeps_some ?_
      | with_reducible refine optKeeps_ite ?_ ?_
      | with_reducible refine optKeeps_took ?_
      | with_reducible refine optKeeps_denied ?_ (by decide)
      | (with_reducible show keepsBut _ _ (opLmpCmd _ _); with_reducible refine keepsBut_of ?_ (opLmpCmd_keeps _ _) (by decide))
      | with_reducible refine keepsBut_ite ?_ ?_
      | with_reducible refine keepsBut_doIf (fun _ => ?_) ?_
      | with_reducible refine keepsBut_each (fun _ _ => ?_) ?_
      | dsimp only [id]
      | split)
  · rw [lampSwapRequest_at] at h
    exact absurd h (by first | exact Option.some_ne_none _ | (split <;> exact Option.some_ne_none _) | (unfold opOtpCmd; split <;> exact Option.some_ne_none _) | (unfold opCapCmd; (repeat' split) <;> exact Option.some_ne_none _))

theorem acc_lbusCfgWrite_keeps {m : Master} (hm : m ≠ .image) (chain : Fin 2) (v : Word) (s : State) : keepsBut [.err, .lmp] s (accWrite m (base 23 + 0x210 + 0x20 * chain) (v) s) := by
  refine accWrite_keeps_at hm (by decide) ?_ (fun h => ?_) (fun h => by unfold base at h; omega)
  · rw [lbusCfgWrite_at]
    repeat' (first
      | with_reducible exact keepsBut_refl _ _
      | with_reducible exact optKeeps_none _ _
      | with_reducible refine optKeeps_some ?_
      | with_reducible refine optKeeps_ite ?_ ?_
      | with_reducible refine optKeeps_took ?_
      | with_reducible refine optKeeps_denied ?_ (by decide)
      | (with_reducible show keepsBut _ _ (opLbusGo _ _ _); with_reducible refine keepsBut_of ?_ (opLbusGo_keeps _ _ _) (by decide))
      | with_reducible refine keepsBut_ite ?_ ?_
      | with_reducible refine keepsBut_doIf (fun _ => ?_) ?_
      | with_reducible refine keepsBut_each (fun _ _ => ?_) ?_
      | dsimp only [id]
      | split)
  · rw [lbusCfgWrite_at] at h
    exact absurd h (by first | exact Option.some_ne_none _ | (split <;> exact Option.some_ne_none _) | (unfold opOtpCmd; split <;> exact Option.some_ne_none _) | (unfold opCapCmd; (repeat' split) <;> exact Option.some_ne_none _))

theorem acc_domainSelect_keeps {m : Master} (hm : m ≠ .image) (v : Word) (s : State) : keepsBut [.regs, .err, .ptp] s (accWrite m (base 3) (v) s) := by
  refine accWrite_keeps_at hm (by decide) ?_ (fun _ => ⟨by decide, fun old u => ?_⟩) (fun h => absurd h (by decide))
  · rw [domainSelect_none]; exact optKeeps_none _ _
  · rw [domainSelect_stored]
    repeat' (first
      | with_reducible exact keepsBut_refl _ _
      | with_reducible exact optKeeps_none _ _
      | with_reducible refine optKeeps_some ?_
      | with_reducible refine optKeeps_ite ?_ ?_
      | with_reducible refine optKeeps_took ?_
      | with_reducible refine optKeeps_denied ?_ (by decide)
      | (with_reducible show keepsBut _ _ (opPtpSel _ _); with_reducible refine keepsBut_of ?_ (opPtpSel_keeps _ _) (by decide))
      | with_reducible refine keepsBut_ite ?_ ?_
      | with_reducible refine keepsBut_doIf (fun _ => ?_) ?_
      | with_reducible refine keepsBut_each (fun _ _ => ?_) ?_
      | dsimp only [id]
      | split)

theorem acc_calForce_keeps {m : Master} (hm : m ≠ .image) (v : Word) (s : State) : keepsBut [.err, .cal] s (accWrite m (base 25 + 0x10) (v) s) := by
  refine accWrite_keeps_at hm (by decide) ?_ (fun h => ?_) (fun h => absurd h (by decide))
  · rw [calForce_at]
    repeat' (first
      | with_reducible exact keepsBut_refl _ _
      | with_reducible exact optKeeps_none _ _
      | with_reducible refine optKeeps_some ?_
      | with_reducible refine optKeeps_ite ?_ ?_
      | with_reducible refine optKeeps_took ?_
      | with_reducible refine optKeeps_denied ?_ (by decide)
      | (with_reducible show keepsBut _ _ (opCalForce _ _); with_reducible refine keepsBut_of ?_ (opCalForce_keeps _ _) (by decide))
      | with_reducible refine keepsBut_ite ?_ ?_
      | with_reducible refine keepsBut_doIf (fun _ => ?_) ?_
      | with_reducible refine keepsBut_each (fun _ _ => ?_) ?_
      | dsimp only [id]
      | split)
  · rw [calForce_at] at h
    exact absurd h (by first | exact Option.some_ne_none _ | (split <;> exact Option.some_ne_none _) | (unfold opOtpCmd; split <;> exact Option.some_ne_none _) | (unfold opCapCmd; (repeat' split) <;> exact Option.some_ne_none _))

theorem acc_faultAck_keeps {m : Master} (hm : m ≠ .image) (v : Word) (s : State) : keepsBut [.err] s (accWrite m (base 26 + 0x10) (v) s) := by
  refine accWrite_keeps_at hm (by decide) ?_ (fun h => ?_) (fun h => absurd h (by decide))
  · rw [faultAck_at]
    repeat' (first
      | with_reducible exact keepsBut_refl _ _
      | with_reducible exact optKeeps_none _ _
      | with_reducible refine optKeeps_some ?_
      | with_reducible refine optKeeps_ite ?_ ?_
      | with_reducible refine optKeeps_took ?_
      | with_reducible refine optKeeps_denied ?_ (by decide)
      | (with_reducible show keepsBut _ _ (opErrAck _ _); with_reducible refine keepsBut_of ?_ (opErrAck_keeps _ _) (by decide))
      | with_reducible refine keepsBut_ite ?_ ?_
      | with_reducible refine keepsBut_doIf (fun _ => ?_) ?_
      | with_reducible refine keepsBut_each (fun _ _ => ?_) ?_
      | dsimp only [id]
      | split)
  · rw [faultAck_at] at h
    exact absurd h (by first | exact Option.some_ne_none _ | (split <;> exact Option.some_ne_none _) | (unfold opOtpCmd; split <;> exact Option.some_ne_none _) | (unfold opCapCmd; (repeat' split) <;> exact Option.some_ne_none _))

theorem acc_faultAckAll_keeps {m : Master} (hm : m ≠ .image) (v : Word) (s : State) : keepsBut [.err] s (accWrite m (base 26 + 0x14) (v) s) := by
  refine accWrite_keeps_at hm (by decide) ?_ (fun h => ?_) (fun h => absurd h (by decide))
  · rw [faultAckAll_at]
    repeat' (first
      | with_reducible exact keepsBut_refl _ _
      | with_reducible exact optKeeps_none _ _
      | with_reducible refine optKeeps_some ?_
      | with_reducible refine optKeeps_ite ?_ ?_
      | with_reducible refine optKeeps_took ?_
      | with_reducible refine optKeeps_denied ?_ (by decide)
      | (with_reducible show keepsBut _ _ (opErrAckAll _ _); with_reducible refine keepsBut_of ?_ (opErrAckAll_keeps _ _) (by decide))
      | with_reducible refine keepsBut_ite ?_ ?_
      | with_reducible refine keepsBut_doIf (fun _ => ?_) ?_
      | with_reducible refine keepsBut_each (fun _ _ => ?_) ?_
      | dsimp only [id]
      | split)
  · rw [faultAckAll_at] at h
    exact absurd h (by first | exact Option.some_ne_none _ | (split <;> exact Option.some_ne_none _) | (unfold opOtpCmd; split <;> exact Option.some_ne_none _) | (unfold opCapCmd; (repeat' split) <;> exact Option.some_ne_none _))

theorem acc_latchClear_keeps {m : Master} (hm : m ≠ .image) (v : Word) (s : State) : keepsBut [.err] s (accWrite m (base 26 + 0x18) (v) s) := by
  refine accWrite_keeps_at hm (by decide) ?_ (fun h => ?_) (fun h => absurd h (by decide))
  · rw [latchClear_at]
    repeat' (first
      | with_reducible exact keepsBut_refl _ _
      | with_reducible exact optKeeps_none _ _
      | with_reducible refine optKeeps_some ?_
      | with_reducible refine optKeeps_ite ?_ ?_
      | with_reducible refine optKeeps_took ?_
      | with_reducible refine optKeeps_denied ?_ (by decide)
      | (with_reducible show keepsBut _ _ (opLatchClr _ _); with_reducible refine keepsBut_of ?_ (opLatchClr_keeps _ _) (by decide))
      | with_reducible refine keepsBut_ite ?_ ?_
      | with_reducible refine keepsBut_doIf (fun _ => ?_) ?_
      | with_reducible refine keepsBut_each (fun _ _ => ?_) ?_
      | dsimp only [id]
      | split)
  · rw [latchClear_at] at h
    exact absurd h (by first | exact Option.some_ne_none _ | (split <;> exact Option.some_ne_none _) | (unfold opOtpCmd; split <;> exact Option.some_ne_none _) | (unfold opCapCmd; (repeat' split) <;> exact Option.some_ne_none _))

theorem acc_errClr_keeps {m : Master} (hm : m ≠ .image) (v : Word) (s : State) : keepsBut [.err] s (accWrite m (base 26 + 0x1C) (v) s) := by
  refine accWrite_keeps_at hm (by decide) ?_ (fun h => ?_) (fun h => absurd h (by decide))
  · rw [errClr_at]
    repeat' (first
      | with_reducible exact keepsBut_refl _ _
      | with_reducible exact optKeeps_none _ _
      | with_reducible refine optKeeps_some ?_
      | with_reducible refine optKeeps_ite ?_ ?_
      | with_reducible refine optKeeps_took ?_
      | with_reducible refine optKeeps_denied ?_ (by decide)
      | (with_reducible show keepsBut _ _ (opErrClr _ _); with_reducible refine keepsBut_of ?_ (opErrClr_keeps _ _) (by decide))
      | with_reducible refine keepsBut_ite ?_ ?_
      | with_reducible refine keepsBut_doIf (fun _ => ?_) ?_
      | with_reducible refine keepsBut_each (fun _ _ => ?_) ?_
      | dsimp only [id]
      | split)
  · rw [errClr_at] at h
    exact absurd h (by first | exact Option.some_ne_none _ | (split <;> exact Option.some_ne_none _) | (unfold opOtpCmd; split <;> exact Option.some_ne_none _) | (unfold opCapCmd; (repeat' split) <;> exact Option.some_ne_none _))

theorem acc_captureStart_keeps {m : Master} (hm : m ≠ .image) (mask : BitVec 16) (s : State) : keepsBut [.err, .cap, .mem] s (accWrite m (base 27) (0x80000000 ||| mask.setWidth 32) s) := by
  refine accWrite_keeps_at hm (by decide) ?_ (fun h => ?_) (fun h => absurd h (by decide))
  · rw [captureStart_at]
    repeat' (first
      | with_reducible exact keepsBut_refl _ _
      | with_reducible exact optKeeps_none _ _
      | with_reducible refine optKeeps_some ?_
      | with_reducible refine optKeeps_ite ?_ ?_
      | with_reducible refine optKeeps_took ?_
      | with_reducible refine optKeeps_denied ?_ (by decide)
      | (with_reducible show optKeeps _ _ (opCapCmd _ _); with_reducible refine optKeeps_mono (opCapCmd_keeps _ _) (by decide))
      | with_reducible refine keepsBut_ite ?_ ?_
      | with_reducible refine keepsBut_doIf (fun _ => ?_) ?_
      | with_reducible refine keepsBut_each (fun _ _ => ?_) ?_
      | dsimp only [id]
      | split)
  · rw [captureStart_at] at h
    exact absurd h (by first | exact Option.some_ne_none _ | (split <;> exact Option.some_ne_none _) | (unfold opOtpCmd; split <;> exact Option.some_ne_none _) | (unfold opCapCmd; (repeat' split) <;> exact Option.some_ne_none _))

theorem acc_captureClear_keeps {m : Master} (hm : m ≠ .image)  (s : State) : keepsBut [.err, .cap, .mem] s (accWrite m (base 27) (0x40000000) s) := by
  refine accWrite_keeps_at hm (by decide) ?_ (fun h => ?_) (fun h => absurd h (by decide))
  · rw [captureStart_at]
    repeat' (first
      | with_reducible exact keepsBut_refl _ _
      | with_reducible exact optKeeps_none _ _
      | with_reducible refine optKeeps_some ?_
      | with_reducible refine optKeeps_ite ?_ ?_
      | with_reducible refine optKeeps_took ?_
      | with_reducible refine optKeeps_denied ?_ (by decide)
      | (with_reducible show optKeeps _ _ (opCapCmd _ _); with_reducible refine optKeeps_mono (opCapCmd_keeps _ _) (by decide))
      | with_reducible refine keepsBut_ite ?_ ?_
      | with_reducible refine keepsBut_doIf (fun _ => ?_) ?_
      | with_reducible refine keepsBut_each (fun _ _ => ?_) ?_
      | dsimp only [id]
      | split)
  · rw [captureStart_at] at h
    exact absurd h (by first | exact Option.some_ne_none _ | (split <;> exact Option.some_ne_none _) | (unfold opOtpCmd; split <;> exact Option.some_ne_none _) | (unfold opCapCmd; (repeat' split) <;> exact Option.some_ne_none _))

theorem acc_towCntClr_keeps {m : Master} (hm : m ≠ .image) (v : Word) (s : State) : keepsBut [.err, .tow] s (accWrite m (base 5 + 0x20) (v) s) := by
  refine accWrite_keeps_at hm (by decide) ?_ (fun h => ?_) (fun h => absurd h (by decide))
  · rw [towCntClr_at]
    repeat' (first
      | with_reducible exact keepsBut_refl _ _
      | with_reducible exact optKeeps_none _ _
      | with_reducible refine optKeeps_some ?_
      | with_reducible refine optKeeps_ite ?_ ?_
      | with_reducible refine optKeeps_took ?_
      | with_reducible refine optKeeps_denied ?_ (by decide)
      | (with_reducible show keepsBut _ _ (opTowClr _ _); with_reducible refine keepsBut_of ?_ (opTowClr_keeps _ _) (by decide))
      | with_reducible refine keepsBut_ite ?_ ?_
      | with_reducible refine keepsBut_doIf (fun _ => ?_) ?_
      | with_reducible refine keepsBut_each (fun _ _ => ?_) ?_
      | dsimp only [id]
      | split)
  · rw [towCntClr_at] at h
    exact absurd h (by first | exact Option.some_ne_none _ | (split <;> exact Option.some_ne_none _) | (unfold opOtpCmd; split <;> exact Option.some_ne_none _) | (unfold opCapCmd; (repeat' split) <;> exact Option.some_ne_none _))

theorem acc_cmpCntClr_keeps {m : Master} (hm : m ≠ .image) (v : Word) (s : State) : keepsBut [.err, .cmp] s (accWrite m (base 11 + 0x20) (v) s) := by
  refine accWrite_keeps_at hm (by decide) ?_ (fun h => ?_) (fun h => absurd h (by decide))
  · rw [cmpCntClr_at]
    repeat' (first
      | with_reducible exact keepsBut_refl _ _
      | with_reducible exact optKeeps_none _ _
      | with_reducible refine optKeeps_some ?_
      | with_reducible refine optKeeps_ite ?_ ?_
      | with_reducible refine optKeeps_took ?_
      | with_reducible refine optKeeps_denied ?_ (by decide)
      | (with_reducible show keepsBut _ _ (opCmpClr _ _); with_reducible refine keepsBut_of ?_ (opCmpClr_keeps _ _) (by decide))
      | with_reducible refine keepsBut_ite ?_ ?_
      | with_reducible refine keepsBut_doIf (fun _ => ?_) ?_
      | with_reducible refine keepsBut_each (fun _ _ => ?_) ?_
      | dsimp only [id]
      | split)
  · rw [cmpCntClr_at] at h
    exact absurd h (by first | exact Option.some_ne_none _ | (split <;> exact Option.some_ne_none _) | (unfold opOtpCmd; split <;> exact Option.some_ne_none _) | (unfold opCapCmd; (repeat' split) <;> exact Option.some_ne_none _))

theorem acc_strCntClr_keeps {m : Master} (hm : m ≠ .image) (v : Word) (s : State) : keepsBut [.err, .str] s (accWrite m (base 10 + 0x30) (v) s) := by
  refine accWrite_keeps_at hm (by decide) ?_ (fun h => ?_) (fun h => absurd h (by decide))
  · rw [strCntClr_at]
    repeat' (first
      | with_reducible exact keepsBut_refl _ _
      | with_reducible exact optKeeps_none _ _
      | with_reducible refine optKeeps_some ?_
      | with_reducible refine optKeeps_ite ?_ ?_
      | with_reducible refine optKeeps_took ?_
      | with_reducible refine optKeeps_denied ?_ (by decide)
      | (with_reducible show keepsBut _ _ (opStrClr _ _); with_reducible refine keepsBut_of ?_ (opStrClr_keeps _ _) (by decide))
      | with_reducible refine keepsBut_ite ?_ ?_
      | with_reducible refine keepsBut_doIf (fun _ => ?_) ?_
      | with_reducible refine keepsBut_each (fun _ _ => ?_) ?_
      | dsimp only [id]
      | split)
  · rw [strCntClr_at] at h
    exact absurd h (by first | exact Option.some_ne_none _ | (split <;> exact Option.some_ne_none _) | (unfold opOtpCmd; split <;> exact Option.some_ne_none _) | (unfold opCapCmd; (repeat' split) <;> exact Option.some_ne_none _))

theorem acc_firCntClr_keeps {m : Master} (hm : m ≠ .image) (v : Word) (s : State) : keepsBut [.err, .fir] s (accWrite m (base 14 + 0x20) (v) s) := by
  refine accWrite_keeps_at hm (by decide) ?_ (fun h => ?_) (fun h => absurd h (by decide))
  · rw [firCntClr_at]
    repeat' (first
      | with_reducible exact keepsBut_refl _ _
      | with_reducible exact optKeeps_none _ _
      | with_reducible refine optKeeps_some ?_
      | with_reducible refine optKeeps_ite ?_ ?_
      | with_reducible refine optKeeps_took ?_
      | with_reducible refine optKeeps_denied ?_ (by decide)
      | (with_reducible show keepsBut _ _ (opFirCntClr _ _); with_reducible refine keepsBut_of ?_ (opFirCntClr_keeps _ _) (by decide))
      | with_reducible refine keepsBut_ite ?_ ?_
      | with_reducible refine keepsBut_doIf (fun _ => ?_) ?_
      | with_reducible refine keepsBut_each (fun _ _ => ?_) ?_
      | dsimp only [id]
      | split)
  · rw [firCntClr_at] at h
    exact absurd h (by first | exact Option.some_ne_none _ | (split <;> exact Option.some_ne_none _) | (unfold opOtpCmd; split <;> exact Option.some_ne_none _) | (unfold opCapCmd; (repeat' split) <;> exact Option.some_ne_none _))

theorem acc_nzlCntClr_keeps {m : Master} (hm : m ≠ .image) (v : Word) (s : State) : keepsBut [.err, .nzl] s (accWrite m (base 16 + 0x70) (v) s) := by
  refine accWrite_keeps_at hm (by decide) ?_ (fun h => ?_) (fun h => absurd h (by decide))
  · rw [nzlCntClr_at]
    repeat' (first
      | with_reducible exact keepsBut_refl _ _
      | with_reducible exact optKeeps_none _ _
      | with_reducible refine optKeeps_some ?_
      | with_reducible refine optKeeps_ite ?_ ?_
      | with_reducible refine optKeeps_took ?_
      | with_reducible refine optKeeps_denied ?_ (by decide)
      | (with_reducible show keepsBut _ _ (opNzlClr _ _); with_reducible refine keepsBut_of ?_ (opNzlClr_keeps _ _) (by decide))
      | with_reducible refine keepsBut_ite ?_ ?_
      | with_reducible refine keepsBut_doIf (fun _ => ?_) ?_
      | with_reducible refine keepsBut_each (fun _ _ => ?_) ?_
      | dsimp only [id]
      | split)
  · rw [nzlCntClr_at] at h
    exact absurd h (by first | exact Option.some_ne_none _ | (split <;> exact Option.some_ne_none _) | (unfold opOtpCmd; split <;> exact Option.some_ne_none _) | (unfold opCapCmd; (repeat' split) <;> exact Option.some_ne_none _))

theorem acc_memCntClr_keeps {m : Master} (hm : m ≠ .image) (v : Word) (s : State) : keepsBut [.err, .mem] s (accWrite m (base 7 + 0x40) (v) s) := by
  refine accWrite_keeps_at hm (by decide) ?_ (fun h => ?_) (fun h => absurd h (by decide))
  · rw [memCntClr_at]
    repeat' (first
      | with_reducible exact keepsBut_refl _ _
      | with_reducible exact optKeeps_none _ _
      | with_reducible refine optKeeps_some ?_
      | with_reducible refine optKeeps_ite ?_ ?_
      | with_reducible refine optKeeps_took ?_
      | with_reducible refine optKeeps_denied ?_ (by decide)
      | (with_reducible show keepsBut _ _ (opMemClr _ _); with_reducible refine keepsBut_of ?_ (opMemClr_keeps _ _) (by decide))
      | with_reducible refine keepsBut_ite ?_ ?_
      | with_reducible refine keepsBut_doIf (fun _ => ?_) ?_
      | with_reducible refine keepsBut_each (fun _ _ => ?_) ?_
      | dsimp only [id]
      | split)
  · rw [memCntClr_at] at h
    exact absurd h (by first | exact Option.some_ne_none _ | (split <;> exact Option.some_ne_none _) | (unfold opOtpCmd; split <;> exact Option.some_ne_none _) | (unfold opCapCmd; (repeat' split) <;> exact Option.some_ne_none _))

theorem acc_mgtCntClr_keeps {m : Master} (hm : m ≠ .image) (v : Word) (s : State) : keepsBut [.err, .mgt] s (accWrite m (base 4 + 0x18) (v) s) := by
  refine accWrite_keeps_at hm (by decide) ?_ (fun h => ?_) (fun h => absurd h (by decide))
  · rw [mgtCntClr_at]
    repeat' (first
      | with_reducible exact keepsBut_refl _ _
      | with_reducible exact optKeeps_none _ _
      | with_reducible refine optKeeps_some ?_
      | with_reducible refine optKeeps_ite ?_ ?_
      | with_reducible refine optKeeps_took ?_
      | with_reducible refine optKeeps_denied ?_ (by decide)
      | (with_reducible show keepsBut _ _ (opMgtClr _ _); with_reducible refine keepsBut_of ?_ (opMgtClr_keeps _ _) (by decide))
      | with_reducible refine keepsBut_ite ?_ ?_
      | with_reducible refine keepsBut_doIf (fun _ => ?_) ?_
      | with_reducible refine keepsBut_each (fun _ _ => ?_) ?_
      | dsimp only [id]
      | split)
  · rw [mgtCntClr_at] at h
    exact absurd h (by first | exact Option.some_ne_none _ | (split <;> exact Option.some_ne_none _) | (unfold opOtpCmd; split <;> exact Option.some_ne_none _) | (unfold opCapCmd; (repeat' split) <;> exact Option.some_ne_none _))

theorem acc_parCntClr_keeps {m : Master} (hm : m ≠ .image) (v : Word) (s : State) : keepsBut [.err, .par] s (accWrite m (base 24 + 0x34) (v) s) := by
  refine accWrite_keeps_at hm (by decide) ?_ (fun h => ?_) (fun h => absurd h (by decide))
  · rw [parCntClr_at]
    repeat' (first
      | with_reducible exact keepsBut_refl _ _
      | with_reducible exact optKeeps_none _ _
      | with_reducible refine optKeeps_some ?_
      | with_reducible refine optKeeps_ite ?_ ?_
      | with_reducible refine optKeeps_took ?_
      | with_reducible refine optKeeps_denied ?_ (by decide)
      | (with_reducible show keepsBut _ _ (opParClr _ _); with_reducible refine keepsBut_of ?_ (opParClr_keeps _ _) (by decide))
      | with_reducible refine keepsBut_ite ?_ ?_
      | with_reducible refine keepsBut_doIf (fun _ => ?_) ?_
      | with_reducible refine keepsBut_each (fun _ _ => ?_) ?_
      | dsimp only [id]
      | split)
  · rw [parCntClr_at] at h
    exact absurd h (by first | exact Option.some_ne_none _ | (split <;> exact Option.some_ne_none _) | (unfold opOtpCmd; split <;> exact Option.some_ne_none _) | (unfold opCapCmd; (repeat' split) <;> exact Option.some_ne_none _))

theorem acc_arbClr_keeps {m : Master} (hm : m ≠ .image) (v : Word) (s : State) : keepsBut [.err, .mem] s (accWrite m (base 9) (v) s) := by
  refine accWrite_keeps_at hm (by decide) ?_ (fun h => ?_) (fun h => absurd h (by decide))
  · rw [arbClr_at]
    repeat' (first
      | with_reducible exact keepsBut_refl _ _
      | with_reducible exact optKeeps_none _ _
      | with_reducible refine optKeeps_some ?_
      | with_reducible refine optKeeps_ite ?_ ?_
      | with_reducible refine optKeeps_took ?_
      | with_reducible refine optKeeps_denied ?_ (by decide)
      | (with_reducible show keepsBut _ _ (opArbClr _ _); with_reducible refine keepsBut_of ?_ (opArbClr_keeps _ _) (by decide))
      | with_reducible refine keepsBut_ite ?_ ?_
      | with_reducible refine keepsBut_doIf (fun _ => ?_) ?_
      | with_reducible refine keepsBut_each (fun _ _ => ?_) ?_
      | dsimp only [id]
      | split)
  · rw [arbClr_at] at h
    exact absurd h (by first | exact Option.some_ne_none _ | (split <;> exact Option.some_ne_none _) | (unfold opOtpCmd; split <;> exact Option.some_ne_none _) | (unfold opCapCmd; (repeat' split) <;> exact Option.some_ne_none _))

theorem acc_camPortClr_keeps {m : Master} (hm : m ≠ .image) (port : Fin 4) (v : Word) (s : State) : keepsBut [.err, .insp] s (accWrite m (base 19 + 0x11C + 0x40 * port) (v) s) := by
  refine accWrite_keeps_at hm (by decide) ?_ (fun h => ?_) (fun h => by unfold base at h; omega)
  · rw [camPortClr_at]
    repeat' (first
      | with_reducible exact keepsBut_refl _ _
      | with_reducible exact optKeeps_none _ _
      | with_reducible refine optKeeps_some ?_
      | with_reducible refine optKeeps_ite ?_ ?_
      | with_reducible refine optKeeps_took ?_
      | with_reducible refine optKeeps_denied ?_ (by decide)
      | (with_reducible show keepsBut _ _ (opCamClr _ _ _); with_reducible refine keepsBut_of ?_ (opCamClr_keeps _ _ _) (by decide))
      | with_reducible refine keepsBut_ite ?_ ?_
      | with_reducible refine keepsBut_doIf (fun _ => ?_) ?_
      | with_reducible refine keepsBut_each (fun _ _ => ?_) ?_
      | dsimp only [id]
      | split)
  · rw [camPortClr_at] at h
    exact absurd h (by first | exact Option.some_ne_none _ | (split <;> exact Option.some_ne_none _) | (unfold opOtpCmd; split <;> exact Option.some_ne_none _) | (unfold opCapCmd; (repeat' split) <;> exact Option.some_ne_none _))

theorem acc_insCtxClr_keeps {m : Master} (hm : m ≠ .image) (c : Ctx) (v : Word) (s : State) : keepsBut [.err, .insp] s (accWrite m (base 21 + 0x1020 + 0x40 * c) (v) s) := by
  refine accWrite_keeps_at hm (by decide) ?_ (fun h => ?_) (fun h => by unfold base at h; omega)
  · rw [insCtxClr_at]
    repeat' (first
      | with_reducible exact keepsBut_refl _ _
      | with_reducible exact optKeeps_none _ _
      | with_reducible refine optKeeps_some ?_
      | with_reducible refine optKeeps_ite ?_ ?_
      | with_reducible refine optKeeps_took ?_
      | with_reducible refine optKeeps_denied ?_ (by decide)
      | (with_reducible show keepsBut _ _ (opInsClr _ _ _); with_reducible refine keepsBut_of ?_ (opInsClr_keeps _ _ _) (by decide))
      | with_reducible refine keepsBut_ite ?_ ?_
      | with_reducible refine keepsBut_doIf (fun _ => ?_) ?_
      | with_reducible refine keepsBut_each (fun _ _ => ?_) ?_
      | dsimp only [id]
      | split)
  · rw [insCtxClr_at] at h
    exact absurd h (by first | exact Option.some_ne_none _ | (split <;> exact Option.some_ne_none _) | (unfold opOtpCmd; split <;> exact Option.some_ne_none _) | (unfold opCapCmd; (repeat' split) <;> exact Option.some_ne_none _))

theorem acc_bnkClr_keeps {m : Master} (hm : m ≠ .image) (b : Bank) (v : Word) (s : State) : keepsBut [.err, .mem] s (accWrite m (base 8 + 0x11C + 0x40 * b) (v) s) := by
  refine accWrite_keeps_at hm (by decide) ?_ (fun h => ?_) (fun h => by unfold base at h; omega)
  · rw [bnkClr_at]
    repeat' (first
      | with_reducible exact keepsBut_refl _ _
      | with_reducible exact optKeeps_none _ _
      | with_reducible refine optKeeps_some ?_
      | with_reducible refine optKeeps_ite ?_ ?_
      | with_reducible refine optKeeps_took ?_
      | with_reducible refine optKeeps_denied ?_ (by decide)
      | (with_reducible show keepsBut _ _ (opBnkClr _ _ _); with_reducible refine keepsBut_of ?_ (opBnkClr_keeps _ _ _) (by decide))
      | with_reducible refine keepsBut_ite ?_ ?_
      | with_reducible refine keepsBut_doIf (fun _ => ?_) ?_
      | with_reducible refine keepsBut_each (fun _ _ => ?_) ?_
      | dsimp only [id]
      | split)
  · rw [bnkClr_at] at h
    exact absurd h (by first | exact Option.some_ne_none _ | (split <;> exact Option.some_ne_none _) | (unfold opOtpCmd; split <;> exact Option.some_ne_none _) | (unfold opCapCmd; (repeat' split) <;> exact Option.some_ne_none _))

theorem acc_netPortClr_keeps {m : Master} (hm : m ≠ .image) (np : NetPort) (v : Word) (s : State) : keepsBut [.err, .net] s (accWrite m (base 2 + 0x134 + 0x80 * np) (v) s) := by
  refine accWrite_keeps_at hm (by decide) ?_ (fun h => ?_) (fun h => by unfold base at h; omega)
  · rw [netPortClr_at]
    repeat' (first
      | with_reducible exact keepsBut_refl _ _
      | with_reducible exact optKeeps_none _ _
      | with_reducible refine optKeeps_some ?_
      | with_reducible refine optKeeps_ite ?_ ?_
      | with_reducible refine optKeeps_took ?_
      | with_reducible refine optKeeps_denied ?_ (by decide)
      | (with_reducible show keepsBut _ _ (opNetClr _ _ _); with_reducible refine keepsBut_of ?_ (opNetClr_keeps _ _ _) (by decide))
      | with_reducible refine keepsBut_ite ?_ ?_
      | with_reducible refine keepsBut_doIf (fun _ => ?_) ?_
      | with_reducible refine keepsBut_each (fun _ _ => ?_) ?_
      | dsimp only [id]
      | split)
  · rw [netPortClr_at] at h
    exact absurd h (by first | exact Option.some_ne_none _ | (split <;> exact Option.some_ne_none _) | (unfold opOtpCmd; split <;> exact Option.some_ne_none _) | (unfold opCapCmd; (repeat' split) <;> exact Option.some_ne_none _))

theorem acc_ptpDomClr_keeps {m : Master} (hm : m ≠ .image) (dm : Dom) (v : Word) (s : State) : keepsBut [.err, .ptp] s (accWrite m (base 3 + 0x14C + 0x80 * dm) (v) s) := by
  refine accWrite_keeps_at hm (by decide) ?_ (fun h => ?_) (fun h => by unfold base at h; omega)
  · rw [ptpDomClr_at]
    repeat' (first
      | with_reducible exact keepsBut_refl _ _
      | with_reducible exact optKeeps_none _ _
      | with_reducible refine optKeeps_some ?_
      | with_reducible refine optKeeps_ite ?_ ?_
      | with_reducible refine optKeeps_took ?_
      | with_reducible refine optKeeps_denied ?_ (by decide)
      | (with_reducible show keepsBut _ _ (opPtpClr _ _ _); with_reducible refine keepsBut_of ?_ (opPtpClr_keeps _ _ _) (by decide))
      | with_reducible refine keepsBut_ite ?_ ?_
      | with_reducible refine keepsBut_doIf (fun _ => ?_) ?_
      | with_reducible refine keepsBut_each (fun _ _ => ?_) ?_
      | dsimp only [id]
      | split)
  · rw [ptpDomClr_at] at h
    exact absurd h (by first | exact Option.some_ne_none _ | (split <;> exact Option.some_ne_none _) | (unfold opOtpCmd; split <;> exact Option.some_ne_none _) | (unfold opCapCmd; (repeat' split) <;> exact Option.some_ne_none _))

theorem acc_resDataAccess_keeps {m : Master} (hm : m ≠ .image) (v : Word) (s : State) : keepsBut [.regs, .err, .stg] s (accWrite m (base 15 + 0x104) v s) := by
  refine accWrite_keeps_at hm (by decide) ?_ (fun h => ?_) (fun h => absurd h (by decide))
  · rw [resDataAccess_at]
    repeat' (first
      | with_reducible exact keepsBut_refl _ _
      | with_reducible refine optKeeps_some ?_
      | with_reducible refine optKeeps_ite ?_ ?_
      | with_reducible refine optKeeps_took ?_
      | (with_reducible show keepsBut _ _ (opResData _ _); with_reducible refine keepsBut_of ?_ (opResData_keeps _ _) (by decide))
      | with_reducible refine keepsBut_ite ?_ ?_
      | with_reducible refine keepsBut_doIf (fun _ => ?_) ?_
      | with_reducible refine keepsBut_each (fun _ _ => ?_) ?_
      | dsimp only [id]
      | split)
  · rw [resDataAccess_at] at h
    exact absurd h (by first | exact Option.some_ne_none _ | (split <;> exact Option.some_ne_none _))

theorem acc_resDataAccess_read_keeps (m : Master) (s : State) : keepsBut [.regs, .err, .stg] s (accRead m (base 15 + 0x104) s) := by
  refine accRead_keeps_at ?_
  rw [resDataAccess_read]
  repeat' (first
    | with_reducible exact keepsBut_refl _ _
    | (with_reducible show keepsBut _ _ (opResData _ _); with_reducible refine keepsBut_of ?_ (opResData_keeps _ _) (by decide))
    | with_reducible refine keepsBut_ite ?_ ?_
    | with_reducible refine keepsBut_doIf (fun _ => ?_) ?_
    | with_reducible refine keepsBut_each (fun _ _ => ?_) ?_
    | dsimp only [id]
    | split)

theorem acc_axisTableAccess_keeps {m : Master} (hm : m ≠ .image) (v : Word) (s : State) : keepsBut [.regs, .err, .axs] s (accWrite m (base 22 + 4) v s) := by
  refine accWrite_keeps_at hm (by decide) ?_ (fun h => ?_) (fun h => absurd h (by decide))
  · rw [axisTableAccess_at]
    repeat' (first
      | with_reducible exact keepsBut_refl _ _
      | with_reducible refine optKeeps_some ?_
      | with_reducible refine optKeeps_ite ?_ ?_
      | with_reducible refine optKeeps_took ?_
      | (with_reducible show keepsBut _ _ (axTblStep _); with_reducible refine keepsBut_of ?_ (axTblStep_keeps _) (by decide))
      | (with_reducible show keepsBut _ _ (notice _ _ _); with_reducible refine keepsBut_of ?_ (notice_keeps _ _ _) (by decide))
      | (with_reducible show keepsBut _ _ (opAxsTbl _ _); with_reducible refine keepsBut_of ?_ (opAxsTbl_keeps _ _) (by decide))
      | with_reducible refine keepsBut_ite ?_ ?_
      | with_reducible refine keepsBut_doIf (fun _ => ?_) ?_
      | with_reducible refine keepsBut_each (fun _ _ => ?_) ?_
      | dsimp only [id]
      | split)
  · rw [axisTableAccess_at] at h
    exact absurd h (by first | exact Option.some_ne_none _ | (split <;> exact Option.some_ne_none _))

theorem acc_axisTableAccess_read_keeps (m : Master) (s : State) : keepsBut [.regs, .err, .axs] s (accRead m (base 22 + 4) s) := by
  refine accRead_keeps_at ?_
  rw [axisTableAccess_read]
  repeat' (first
    | with_reducible exact keepsBut_refl _ _
    | (with_reducible show keepsBut _ _ (opAxsTbl _ _); with_reducible refine keepsBut_of ?_ (opAxsTbl_keeps _ _) (by decide))
    | with_reducible refine keepsBut_ite ?_ ?_
    | with_reducible refine keepsBut_doIf (fun _ => ?_) ?_
    | with_reducible refine keepsBut_each (fun _ _ => ?_) ?_
    | dsimp only [id]
    | split)

theorem acc_lampZoneAccess_keeps {m : Master} (hm : m ≠ .image) (v : Word) (s : State) : keepsBut [.regs, .err, .lmp] s (accWrite m (base 23 + 0x14) v s) := by
  refine accWrite_keeps_at hm (by decide) ?_ (fun h => ?_) (fun h => absurd h (by decide))
  · rw [lampZoneAccess_at]
    repeat' (first
      | with_reducible exact keepsBut_refl _ _
      | with_reducible refine optKeeps_some ?_
      | with_reducible refine optKeeps_ite ?_ ?_
      | with_reducible refine optKeeps_took ?_
      | (with_reducible show keepsBut _ _ (opLampZone _ _); with_reducible refine keepsBut_of ?_ (opLampZone_keeps _ _) (by decide))
      | with_reducible refine keepsBut_ite ?_ ?_
      | with_reducible refine keepsBut_doIf (fun _ => ?_) ?_
      | with_reducible refine keepsBut_each (fun _ _ => ?_) ?_
      | dsimp only [id]
      | split)
  · rw [lampZoneAccess_at] at h
    exact absurd h (by first | exact Option.some_ne_none _ | (split <;> exact Option.some_ne_none _))

theorem acc_lampZoneAccess_read_keeps (m : Master) (s : State) : keepsBut [.regs, .err, .lmp] s (accRead m (base 23 + 0x14) s) := by
  refine accRead_keeps_at ?_
  rw [lampZoneAccess_read]
  repeat' (first
    | with_reducible exact keepsBut_refl _ _
    | (with_reducible show keepsBut _ _ (opLampZone _ _); with_reducible refine keepsBut_of ?_ (opLampZone_keeps _ _) (by decide))
    | with_reducible refine keepsBut_ite ?_ ?_
    | with_reducible refine keepsBut_doIf (fun _ => ?_) ?_
    | with_reducible refine keepsBut_each (fun _ _ => ?_) ?_
    | dsimp only [id]
    | split)

theorem acc_lampUtblAccess_keeps {m : Master} (hm : m ≠ .image) (v : Word) (s : State) : keepsBut [.regs, .err, .lmp] s (accWrite m (base 23 + 0x104) v s) := by
  refine accWrite_keeps_at hm (by decide) ?_ (fun h => ?_) (fun h => absurd h (by decide))
  · rw [lampUtblAccess_at]
    repeat' (first
      | with_reducible exact keepsBut_refl _ _
      | with_reducible refine optKeeps_some ?_
      | with_reducible refine optKeeps_ite ?_ ?_
      | with_reducible refine optKeeps_took ?_
      | (with_reducible show keepsBut _ _ (opLampUtbl _ _); with_reducible refine keepsBut_of ?_ (opLampUtbl_keeps _ _) (by decide))
      | with_reducible refine keepsBut_ite ?_ ?_
      | with_reducible refine keepsBut_doIf (fun _ => ?_) ?_
      | with_reducible refine keepsBut_each (fun _ _ => ?_) ?_
      | dsimp only [id]
      | split)
  · rw [lampUtblAccess_at] at h
    exact absurd h (by first | exact Option.some_ne_none _ | (split <;> exact Option.some_ne_none _))

theorem acc_lampUtblAccess_read_keeps (m : Master) (s : State) : keepsBut [.regs, .err, .lmp] s (accRead m (base 23 + 0x104) s) := by
  refine accRead_keeps_at ?_
  rw [lampUtblAccess_read]
  repeat' (first
    | with_reducible exact keepsBut_refl _ _
    | (with_reducible show keepsBut _ _ (opLampUtbl _ _); with_reducible refine keepsBut_of ?_ (opLampUtbl_keeps _ _) (by decide))
    | with_reducible refine keepsBut_ite ?_ ?_
    | with_reducible refine keepsBut_doIf (fun _ => ?_) ?_
    | with_reducible refine keepsBut_each (fun _ _ => ?_) ?_
    | dsimp only [id]
    | split)

theorem acc_posSnapshot_keeps (m : Master) (ch : Enc) (s : State) : keepsBut [.pos] s (accRead m (posAddr ch 0x30) s) := by
  refine accRead_keeps_at ?_
  rw [posSnapshot_read]
  repeat' (first
    | with_reducible exact keepsBut_refl _ _
    | (with_reducible show keepsBut _ _ (opPosSnap _ _); with_reducible refine keepsBut_of ?_ (opPosSnap_keeps _ _) (by decide))
    | with_reducible refine keepsBut_ite ?_ ?_
    | with_reducible refine keepsBut_doIf (fun _ => ?_) ?_
    | with_reducible refine keepsBut_each (fun _ _ => ?_) ?_
    | dsimp only [id]
    | split)

theorem acc_milestoneCmpRead_keeps (m : Master) (ms : Ms) (s : State) : keepsBut [.mil] s (accRead m (msAddr ms 4) s) := by
  refine accRead_keeps_at ?_
  rw [milestoneCmpRead_read]
  repeat' (first
    | with_reducible exact keepsBut_refl _ _
    | (with_reducible show keepsBut _ _ (snapCmp _ _); with_reducible refine keepsBut_of ?_ (snapCmp_keeps _ _) (by decide))
    | with_reducible refine keepsBut_ite ?_ ?_
    | with_reducible refine keepsBut_doIf (fun _ => ?_) ?_
    | with_reducible refine keepsBut_each (fun _ _ => ?_) ?_
    | dsimp only [id]
    | split)

theorem acc_milestoneHitRead_keeps (m : Master) (ms : Ms) (s : State) : keepsBut [.mil] s (accRead m (msAddr ms 0x10) s) := by
  refine accRead_keeps_at ?_
  rw [milestoneHitRead_read]
  repeat' (first
    | with_reducible exact keepsBut_refl _ _
    | (with_reducible show keepsBut _ _ (snapHit _ _); with_reducible refine keepsBut_of ?_ (snapHit_keeps _ _) (by decide))
    | with_reducible refine keepsBut_ite ?_ ?_
    | with_reducible refine keepsBut_doIf (fun _ => ?_) ?_
    | with_reducible refine keepsBut_each (fun _ _ => ?_) ?_
    | dsimp only [id]
    | split)

theorem acc_journalReadLo_keeps (m : Master)  (s : State) : keepsBut [] s (accRead m (base 16 + 0x80) s) := by
  refine accRead_keeps_at ?_
  rw [journalReadLo_read]
  repeat' (first
    | with_reducible exact keepsBut_refl _ _
    | with_reducible refine keepsBut_ite ?_ ?_
    | with_reducible refine keepsBut_doIf (fun _ => ?_) ?_
    | with_reducible refine keepsBut_each (fun _ _ => ?_) ?_
    | dsimp only [id]
    | split)

theorem acc_journalReadHi_keeps (m : Master)  (s : State) : keepsBut [.nzl] s (accRead m (base 16 + 0x84) s) := by
  refine accRead_keeps_at ?_
  rw [journalReadHi_read]
  repeat' (first
    | with_reducible exact keepsBut_refl _ _
    | (with_reducible show keepsBut _ _ (jrnPop _); with_reducible refine keepsBut_of ?_ (jrnPop_keeps _) (by decide))
    | with_reducible refine keepsBut_ite ?_ ?_
    | with_reducible refine keepsBut_doIf (fun _ => ?_) ?_
    | with_reducible refine keepsBut_each (fun _ _ => ?_) ?_
    | dsimp only [id]
    | split)

theorem acc_knotEpochRead_keeps (m : Master)  (s : State) : keepsBut [.sys] s (accRead m (0x110) s) := by
  refine accRead_keeps_at ?_
  rw [knotEpochRead_read]
  repeat' (first
    | with_reducible exact keepsBut_refl _ _
    | (with_reducible show keepsBut _ _ (snapEpoch _); with_reducible refine keepsBut_of ?_ (snapEpoch_keeps _) (by decide))
    | with_reducible refine keepsBut_ite ?_ ?_
    | with_reducible refine keepsBut_doIf (fun _ => ?_) ?_
    | with_reducible refine keepsBut_each (fun _ _ => ?_) ?_
    | dsimp only [id]
    | split)

theorem acc_fireLcSnapshot_keeps (m : Master) (p : Port) (s : State) : keepsBut [.fir] s (accRead m (base 14 + 0x1008 + 0x20 * p) s) := by
  refine accRead_keeps_at ?_
  rw [fireLcSnapshot_read]
  repeat' (first
    | with_reducible exact keepsBut_refl _ _
    | (with_reducible show keepsBut _ _ (opFirSnap _ _); with_reducible refine keepsBut_of ?_ (opFirSnap_keeps _ _) (by decide))
    | with_reducible refine keepsBut_ite ?_ ?_
    | with_reducible refine keepsBut_doIf (fun _ => ?_) ?_
    | with_reducible refine keepsBut_each (fun _ _ => ?_) ?_
    | dsimp only [id]
    | split)

theorem acc_syncCaptureRead_keeps (m : Master) (n : Fin 2) (s : State) : keepsBut [.mil] s (accRead m (base 13 + 0x48 + 0x10 * n) s) := by
  refine accRead_keeps_at ?_
  rw [syncCaptureRead_read]
  repeat' (first
    | with_reducible exact keepsBut_refl _ _
    | (with_reducible show keepsBut _ _ (snapSync _ _); with_reducible refine keepsBut_of ?_ (snapSync_keeps _ _) (by decide))
    | with_reducible refine keepsBut_ite ?_ ?_
    | with_reducible refine keepsBut_doIf (fun _ => ?_) ?_
    | with_reducible refine keepsBut_each (fun _ _ => ?_) ?_
    | dsimp only [id]
    | split)

theorem acc_ptpSnapshot_dom_keeps (m : Master) (d : Dom) (s : State) : keepsBut [.ptp] s (accRead m (base 3 + 0x150 + 0x80 * d) s) := by
  refine accRead_keeps_at ?_
  rw [ptpSnapshot_dom_read]
  repeat' (first
    | with_reducible exact keepsBut_refl _ _
    | (with_reducible show keepsBut _ _ (opPtpSnap _ _); with_reducible refine keepsBut_of ?_ (opPtpSnap_keeps _ _) (by decide))
    | with_reducible refine keepsBut_ite ?_ ?_
    | with_reducible refine keepsBut_doIf (fun _ => ?_) ?_
    | with_reducible refine keepsBut_each (fun _ _ => ?_) ?_
    | dsimp only [id]
    | split)

theorem acc_ptpSnapshot_device_keeps (m : Master)  (s : State) : keepsBut [.ptp] s (accRead m (base 3 + 0x10) s) := by
  refine accRead_keeps_at ?_
  rw [ptpSnapshot_device_read]
  repeat' (first
    | with_reducible exact keepsBut_refl _ _
    | (with_reducible show keepsBut _ _ (opPtpSnap _ _); with_reducible refine keepsBut_of ?_ (opPtpSnap_keeps _ _) (by decide))
    | with_reducible refine keepsBut_ite ?_ ?_
    | with_reducible refine keepsBut_doIf (fun _ => ?_) ?_
    | with_reducible refine keepsBut_each (fun _ _ => ?_) ?_
    | dsimp only [id]
    | split)

theorem acc_logEntryRead_latch_keeps (m : Master) (c : Fin 4) (s : State) : keepsBut [.err] s (accRead m (base 26 + 0x1000 + 0x40 * c) s) := by
  refine accRead_keeps_at ?_
  rw [logEntryRead_latch_read]
  repeat' (first
    | with_reducible exact keepsBut_refl _ _
    | (with_reducible show keepsBut _ _ (snapLog _ _ _); with_reducible refine keepsBut_of ?_ (snapLog_keeps _ _ _) (by decide))
    | with_reducible refine keepsBut_ite ?_ ?_
    | with_reducible refine keepsBut_doIf (fun _ => ?_) ?_
    | with_reducible refine keepsBut_each (fun _ _ => ?_) ?_
    | dsimp only [id]
    | split)

theorem acc_logEntryRead_slot_keeps (m : Master) (n : Fin 256) (s : State) : keepsBut [.err] s (accRead m (base 26 + 0x4000 + 0x30 * n) s) := by
  refine accRead_keeps_at ?_
  rw [logEntryRead_slot_read]
  repeat' (first
    | with_reducible exact keepsBut_refl _ _
    | (with_reducible show keepsBut _ _ (snapLog _ _ _); with_reducible refine keepsBut_of ?_ (snapLog_keeps _ _ _) (by decide))
    | with_reducible refine keepsBut_ite ?_ ?_
    | with_reducible refine keepsBut_doIf (fun _ => ?_) ?_
    | with_reducible refine keepsBut_each (fun _ _ => ?_) ?_
    | dsimp only [id]
    | split)

end Sys2Proof.Machine
end

