-- ==== Sys2Proof/Laws/Calm.lean ====
section
/-! SUPPORT. Operations that detect at most Notices and Faults: one lemma `f_calm` per such operation that touches the error logger (R481, R483). -/

namespace Sys2Proof.Machine

/-- Between two states at most Notices and Faults are found. -/
def calm (s t : State) : Prop := ∀ x ∈ t.err.found, x ∈ s.err.found ∨ x.cls = .notice ∨ x.cls = .fault
theorem calm_refl (s : State) : calm s s := fun _ h => .inl h
theorem calm_trans {s t u : State} (h : calm s t) (k : calm t u) : calm s u := fun x hx => by
  rcases k x hx with hx | hx
  · exact h x hx
  · exact .inr hx
theorem calm_of_keeps {ps : List Part} {s t : State} (h : keepsBut ps s t) (hp : .err ∉ ps) : calm s t := fun x hx => by
  have : t.err = s.err := h .err hp
  exact .inl (this ▸ hx)
theorem calm_eq {s t : State} (h : t.err.found = s.err.found) : calm s t := fun x hx => .inl (h ▸ hx)
theorem calm_ite {s t u : State} {c : Prop} [Decidable c] (h : calm s t) (k : calm s u) : calm s (if c then t else u) := by split <;> assumption
theorem calm_doIf {s t : State} {b : Bool} {f : State → State} (h : ∀ u, calm u (f u)) (k : calm s t) : calm s (doIf b f t) := by
  unfold doIf
  split
  · exact calm_trans k (h t)
  · exact k
theorem calm_each {α : Type} {s t : State} {f : α → State → State} {l : List α} (h : ∀ a u, calm u (f a u)) (k : calm s t) : calm s (each f l t) :=
  each_inv (fun u => calm s u) f (fun a u hu => calm_trans hu (h a u)) l t k
theorem calm_mErr (f : ErrState → ErrState) (s : State) (h : ∀ e, ∀ x ∈ (f e).found, x ∈ e.found) : calm s (mErr f s) := fun x hx => .inl (h s.err x hx)
theorem calm_raise (c : ErrClass) (code : Nat) (args : List Nat) (s : State) (h : c = .notice ∨ c = .fault) : calm s (raise c code args s) := fun x hx => by
  have : x ∈ s.err.found ++ [⟨c, code, args.take 5⟩] := hx
  rcases List.mem_append.mp this with hx | hx
  · exact .inl hx
  · rcases List.mem_singleton.mp hx with rfl; exact .inr h
theorem calm_raiseLim (c : ErrClass) (code key per : Nat) (args : List Nat) (s : State) (h : c = .notice ∨ c = .fault) : calm s (raiseLim c code key per args s) := by
  unfold raiseLim
  split
  · exact calm_trans (calm_mErr _ s (fun _ _ h => h)) (calm_raise _ _ _ _ h)
  · exact calm_mErr _ s (fun _ _ h => h)
theorem calm_foldl {α β : Type} {s : State} {f : State × β → α → State × β}
    (h : ∀ acc x, calm acc.1 (f acc x).1) : ∀ (l : List α) {acc : State × β}, calm s acc.1 → calm s (l.foldl f acc).1
  | [], _, k => k
  | x :: r, acc, k => calm_foldl h r (calm_trans k (h acc x))
theorem calm_foldl2 {α β : Type} {s : State} {f : β × State → α → β × State}
    (h : ∀ acc x, calm acc.2 (f acc x).2) : ∀ (l : List α) {acc : β × State}, calm s acc.2 → calm s (l.foldl f acc).2
  | [], _, k => k
  | x :: r, acc, k => calm_foldl2 h r (calm_trans k (h acc x))
/-- An optional outcome, when there is one, finds at most Notices and Faults. -/
def optCalm (s : State) (o : Option (State × Bool)) : Prop := ∀ r, o = some r → calm s r.1
theorem optCalm_of_keeps {ps : List Part} {s : State} {o : Option (State × Bool)} (h : optKeeps ps s o) (hp : .err ∉ ps) : optCalm s o :=
  fun r e => calm_of_keeps (h r e) hp
theorem optCalm_none (s : State) : optCalm s none := fun _ h => by cases h
theorem optCalm_some {s : State} {r : State × Bool} (h : calm s r.1) : optCalm s (some r) := fun _ e => by cases e; exact h
theorem optCalm_ite {s : State} {c : Prop} [Decidable c] {o p : Option (State × Bool)} (h : optCalm s o) (k : optCalm s p) :
    optCalm s (if c then o else p) := by split <;> assumption
theorem optCalm_took {s t : State} (h : calm s t) : optCalm s (took t) := optCalm_some h
theorem optCalm_denied {s t : State} {c : Nat} (h : calm s t) : optCalm s (denied c t) :=
  optCalm_some (calm_trans h (calm_raise _ _ _ _ (.inl rfl)))

/-! Machine/Ops.lean -/

theorem notice_calm (code : Nat) (args : List Nat) (s : State) : calm s (notice code args s) := by
  unfold notice
  try dsimp only
  repeat' (first
    | with_reducible exact calm_refl _
    | (with_reducible show calm _ (raise _ _ _ _); refine calm_trans ?_ (calm_raise _ _ _ _ (by first | exact .inl rfl | exact .inr rfl)))
    | with_reducible refine calm_ite ?_ ?_
    | with_reducible refine calm_doIf (fun _ => ?_) ?_
    | with_reducible refine calm_each (fun _ _ => ?_) ?_
    | dsimp only [id]
    | split
    | exact calm_eq (by with_reducible rfl))

theorem faultErr_calm (code : Nat) (args : List Nat) (s : State) : calm s (faultErr code args s) := by
  unfold faultErr
  try dsimp only
  repeat' (first
    | with_reducible exact calm_refl _
    | (with_reducible show calm _ (raise _ _ _ _); refine calm_trans ?_ (calm_raise _ _ _ _ (by first | exact .inl rfl | exact .inr rfl)))
    | with_reducible refine calm_ite ?_ ?_
    | with_reducible refine calm_doIf (fun _ => ?_) ?_
    | with_reducible refine calm_each (fun _ _ => ?_) ?_
    | dsimp only [id]
    | split
    | exact calm_eq (by with_reducible rfl))

theorem suppress_calm (code : Nat) (s : State) : calm s (suppress code s) := by
  unfold suppress
  try dsimp only
  repeat' (first
    | with_reducible exact calm_refl _
    | (with_reducible show calm _ (mErr _ _); refine calm_trans ?_ (calm_mErr _ _ (by first | exact fun _ _ h => h | exact fun _ _ h => (List.mem_filter.mp h).1)))
    | with_reducible refine calm_ite ?_ ?_
    | with_reducible refine calm_doIf (fun _ => ?_) ?_
    | with_reducible refine calm_each (fun _ _ => ?_) ?_
    | dsimp only [id]
    | split
    | exact calm_eq (by with_reducible rfl))

theorem markLogged_calm (code key : Nat) (s : State) : calm s (markLogged code key s) := by
  unfold markLogged
  try dsimp only
  repeat' (first
    | with_reducible exact calm_refl _
    | (with_reducible show calm _ (mErr _ _); refine calm_trans ?_ (calm_mErr _ _ (by first | exact fun _ _ h => h | exact fun _ _ h => (List.mem_filter.mp h).1)))
    | with_reducible refine calm_ite ?_ ?_
    | with_reducible refine calm_doIf (fun _ => ?_) ?_
    | with_reducible refine calm_each (fun _ _ => ?_) ?_
    | dsimp only [id]
    | split
    | exact calm_eq (by with_reducible rfl))

/-! Machine/Report.lean -/

theorem endFault_calm (code : Nat) (p : List Nat → Bool) (s : State) : calm s (endFault code p s) := by
  unfold endFault
  try dsimp only
  repeat' (first
    | with_reducible exact calm_refl _
    | (with_reducible show calm _ (mErr _ _); refine calm_trans ?_ (calm_mErr _ _ (by first | exact fun _ _ h => h | exact fun _ _ h => (List.mem_filter.mp h).1)))
    | with_reducible refine calm_ite ?_ ?_
    | with_reducible refine calm_doIf (fun _ => ?_) ?_
    | with_reducible refine calm_each (fun _ _ => ?_) ?_
    | dsimp only [id]
    | split
    | exact calm_eq (by with_reducible rfl))

/-! Machine/StageOps.lean -/

theorem opHalt_calm (m : BitVec 8) (s : State) : calm s (opHalt m s) := by
  unfold opHalt
  try dsimp only
  repeat' (first
    | with_reducible exact calm_refl _
    | (with_reducible show calm _ (mDbg _ _); with_reducible refine calm_trans ?_ (calm_of_keeps (mDbg_keeps _ _) (by decide)))
    | (with_reducible show calm _ (notice _ _ _); with_reducible refine calm_trans ?_ (notice_calm _ _ _))
    | (with_reducible show calm _ (setDev _ _); with_reducible refine calm_trans ?_ (calm_of_keeps (setDev_keeps _ _) (by decide)))
    | with_reducible refine calm_ite ?_ ?_
    | with_reducible refine calm_doIf (fun _ => ?_) ?_
    | with_reducible refine calm_each (fun _ _ => ?_) ?_
    | dsimp only [id]
    | split
    | exact calm_eq (by with_reducible rfl))

theorem takeToken_calm {f : State → State} (h_f : ∀  u, calm u (f  u)) (k : Nat) (s : State) : calm s (takeToken k f s) := by
  unfold takeToken
  try dsimp only
  repeat' (first
    | with_reducible exact calm_refl _
    | (with_reducible show calm _ (mDbg _ _); with_reducible refine calm_trans ?_ (calm_of_keeps (mDbg_keeps _ _) (by decide)))
    | (with_reducible show calm _ (f _); with_reducible refine calm_trans ?_ (h_f _))
    | with_reducible refine calm_ite ?_ ?_
    | with_reducible refine calm_doIf (fun _ => ?_) ?_
    | with_reducible refine calm_each (fun _ _ => ?_) ?_
    | dsimp only [id]
    | split
    | exact calm_eq (by with_reducible rfl))

theorem stageTake_calm {f : State → State} (h_f : ∀ u, calm u (f u)) (k : Nat) (tok : List Nat) (layer id : Nat) (lc : Option Nat) (s : State) : calm s (stageTake k tok layer id lc f s) := by
  unfold stageTake
  try dsimp only
  repeat' (first
    | with_reducible exact calm_refl _
    | (with_reducible show calm _ (takeToken _ _ _); with_reducible refine calm_trans ?_ (takeToken_calm (fun _ => ?_) _ _))
    | (with_reducible show calm _ (mDbg _ _); with_reducible refine calm_trans ?_ (calm_of_keeps (mDbg_keeps _ _) (by decide)))
    | (with_reducible show calm _ (notice _ _ _); with_reducible refine calm_trans ?_ (notice_calm _ _ _))
    | (with_reducible show calm _ (opHalt _ _); with_reducible refine calm_trans ?_ (opHalt_calm _ _))
    | (with_reducible show calm _ (setDev _ _); with_reducible refine calm_trans ?_ (calm_of_keeps (setDev_keeps _ _) (by decide)))
    | (with_reducible show calm _ (f _); with_reducible refine calm_trans ?_ (h_f _))
    | with_reducible refine calm_ite ?_ ?_
    | with_reducible refine calm_doIf (fun _ => ?_) ?_
    | with_reducible refine calm_each (fun _ _ => ?_) ?_
    | dsimp only [id]
    | split
    | exact calm_eq (by with_reducible rfl))

/-! Machine/Send.lean -/

theorem rxFrame_calm {f : State → State} (h_f : ∀ u, calm u (f u)) (rx : Arrival) (s : State) : calm s (rxFrame rx f s) := by
  unfold rxFrame
  try dsimp only
  repeat' (first
    | with_reducible exact calm_refl _
    | (with_reducible show calm _ (frameDrop _ _ _); with_reducible refine calm_trans ?_ (calm_of_keeps (frameDrop_keeps _ _ _) (by decide)))
    | (with_reducible show calm _ (mNet _ _ _); with_reducible refine calm_trans ?_ (calm_of_keeps (mNet_keeps _ _ _) (by decide)))
    | (with_reducible show calm _ (f _); with_reducible refine calm_trans ?_ (h_f _))
    | with_reducible refine calm_ite ?_ ?_
    | with_reducible refine calm_doIf (fun _ => ?_) ?_
    | with_reducible refine calm_each (fun _ _ => ?_) ?_
    | dsimp only [id]
    | split
    | exact calm_eq (by with_reducible rfl))

/-! Machine/LayerOps.lean -/

theorem sendNak_calm (np : Option Via) (ss : Session) (layer : Nat) (a : NakArgs) (s : State) : calm s (sendNak np ss layer a s) := by
  unfold sendNak
  try dsimp only
  repeat' (first
    | with_reducible exact calm_refl _
    | (with_reducible show calm _ (mTow _ _); with_reducible refine calm_trans ?_ (calm_of_keeps (mTow_keeps _ _) (by decide)))
    | (with_reducible show calm _ (sendTow _ _ _ _); with_reducible refine calm_trans ?_ (calm_of_keeps (sendTow_keeps _ _ _ _) (by decide)))
    | (with_reducible show calm _ (raiseLim _ _ _ _ _ _); refine calm_trans ?_ (calm_raiseLim _ _ _ _ _ _ (by first | exact .inl rfl | exact .inr rfl | (split <;> first | exact .inl rfl | exact .inr rfl))))
    | with_reducible refine calm_ite ?_ ?_
    | with_reducible refine calm_doIf (fun _ => ?_) ?_
    | with_reducible refine calm_each (fun _ _ => ?_) ?_
    | dsimp only [id]
    | split
    | exact calm_eq (by with_reducible rfl))

/-! Machine/MemOps.lean -/

theorem bankRefuse_calm (b : Nat) (s : State) : calm s (bankRefuse b s) := by
  unfold bankRefuse
  try dsimp only
  repeat' (first
    | with_reducible exact calm_refl _
    | (with_reducible show calm _ (mBank _ _ _); with_reducible refine calm_trans ?_ (calm_of_keeps (mBank_keeps _ _ _) (by decide)))
    | (with_reducible show calm _ (raiseLim _ _ _ _ _ _); refine calm_trans ?_ (calm_raiseLim _ _ _ _ _ _ (by first | exact .inl rfl | exact .inr rfl | (split <;> first | exact .inl rfl | exact .inr rfl))))
    | with_reducible refine calm_ite ?_ ?_
    | with_reducible refine calm_doIf (fun _ => ?_) ?_
    | with_reducible refine calm_each (fun _ _ => ?_) ?_
    | dsimp only [id]
    | split
    | exact calm_eq (by with_reducible rfl))

/-! Machine/NozzleOps.lean -/

theorem gateQueue_calm (n : Nat) (s : State) : calm s (gateQueue n s) := by
  unfold gateQueue
  try dsimp only
  repeat' (first
    | with_reducible exact calm_refl _
    | (with_reducible show calm _ (mGat _ _ _); with_reducible refine calm_trans ?_ (calm_of_keeps (mGat_keeps _ _ _) (by decide)))
    | (with_reducible show calm _ (notice _ _ _); with_reducible refine calm_trans ?_ (notice_calm _ _ _))
    | with_reducible refine calm_ite ?_ ?_
    | with_reducible refine calm_doIf (fun _ => ?_) ?_
    | with_reducible refine calm_each (fun _ _ => ?_) ?_
    | dsimp only [id]
    | split
    | exact calm_eq (by with_reducible rfl))

theorem offerLost_calm (src layer : Nat) (line : Int) (reason : Nat) (s : State) : calm s (offerLost src layer line reason s) := by
  unfold offerLost
  try dsimp only
  repeat' (first
    | with_reducible exact calm_refl _
    | (with_reducible show calm _ (mNzl _ _); with_reducible refine calm_trans ?_ (calm_of_keeps (mNzl_keeps _ _) (by decide)))
    | (with_reducible show calm _ (faultErr _ _ _); with_reducible refine calm_trans ?_ (faultErr_calm _ _ _))
    | (with_reducible show calm _ (mLayer _ _ _); with_reducible refine calm_trans ?_ (calm_of_keeps (mLayer_keeps _ _ _) (by decide)))
    | with_reducible refine calm_ite ?_ ?_
    | with_reducible refine calm_doIf (fun _ => ?_) ?_
    | with_reducible refine calm_each (fun _ _ => ?_) ?_
    | dsimp only [id]
    | split
    | exact calm_eq (by with_reducible rfl))

theorem evalOne_calm (log : Bool) (n : Nat) (s : State) : calm s (evalOne log n s) := by
  unfold evalOne
  try dsimp only
  repeat' (first
    | with_reducible exact calm_refl _
    | (with_reducible show calm _ (mNzl _ _); with_reducible refine calm_trans ?_ (calm_of_keeps (mNzl_keeps _ _) (by decide)))
    | (with_reducible show calm _ (notice _ _ _); with_reducible refine calm_trans ?_ (notice_calm _ _ _))
    | with_reducible refine calm_ite ?_ ?_
    | with_reducible refine calm_doIf (fun _ => ?_) ?_
    | with_reducible refine calm_each (fun _ _ => ?_) ?_
    | dsimp only [id]
    | split
    | exact calm_eq (by with_reducible rfl))

theorem laneNew_calm (src tgt diff : Nat) (s : State) : calm s (laneNew src tgt diff s) := by
  unfold laneNew
  try dsimp only
  repeat' (first
    | with_reducible exact calm_refl _
    | (with_reducible show calm _ (mNzl _ _); with_reducible refine calm_trans ?_ (calm_of_keeps (mNzl_keeps _ _) (by decide)))
    | (with_reducible show calm _ (offerLost _ _ _ _ _); with_reducible refine calm_trans ?_ (offerLost_calm _ _ _ _ _))
    | with_reducible refine calm_ite ?_ ?_
    | with_reducible refine calm_doIf (fun _ => ?_) ?_
    | with_reducible refine calm_each (fun _ _ => ?_) ?_
    | dsimp only [id]
    | split
    | exact calm_eq (by with_reducible rfl))

theorem settleLanes_calm (p : Nat → Bool) (s : State) : calm s (settleLanes p s) := by
  unfold settleLanes
  try dsimp only
  repeat' (first
    | with_reducible exact calm_refl _
    | (with_reducible show calm _ (offerLost _ _ _ _ _); with_reducible refine calm_trans ?_ (offerLost_calm _ _ _ _ _))
    | (with_reducible show calm _ (mNzl _ _); with_reducible refine calm_trans ?_ (calm_of_keeps (mNzl_keeps _ _) (by decide)))
    | (with_reducible show calm _ (laneNew _ _ _ _); with_reducible refine calm_trans ?_ (laneNew_calm _ _ _ _))
    | (with_reducible show calm _ (faultErr _ _ _); with_reducible refine calm_trans ?_ (faultErr_calm _ _ _))
    | with_reducible refine calm_ite ?_ ?_
    | with_reducible refine calm_doIf (fun _ => ?_) ?_
    | with_reducible refine calm_each (fun _ _ => ?_) ?_
    | dsimp only [id]
    | split
    | exact calm_eq (by with_reducible rfl))

theorem evalDetours_calm (s : State) : calm s (evalDetours s) := by
  unfold evalDetours
  try dsimp only
  repeat' (first
    | with_reducible exact calm_refl _
    | (with_reducible show calm _ (mNzl _ _); with_reducible refine calm_trans ?_ (calm_of_keeps (mNzl_keeps _ _) (by decide)))
    | (with_reducible show calm _ (evalOne _ _ _); with_reducible refine calm_trans ?_ (evalOne_calm _ _ _))
    | (with_reducible show calm _ (settleLanes _ _); with_reducible refine calm_trans ?_ (settleLanes_calm _ _))
    | with_reducible refine calm_ite ?_ ?_
    | with_reducible refine calm_doIf (fun _ => ?_) ?_
    | with_reducible refine calm_each (fun _ _ => ?_) ?_
    | dsimp only [id]
    | split
    | exact calm_eq (by with_reducible rfl))

theorem evalAfterSwap_calm (n : Nat) (was : Bool) (s : State) : calm s (evalAfterSwap n was s) := by
  unfold evalAfterSwap
  try dsimp only
  repeat' (first
    | with_reducible exact calm_refl _
    | (with_reducible show calm _ (evalOne _ _ _); with_reducible refine calm_trans ?_ (evalOne_calm _ _ _))
    | (with_reducible show calm _ (settleLanes _ _); with_reducible refine calm_trans ?_ (settleLanes_calm _ _))
    | with_reducible refine calm_ite ?_ ?_
    | with_reducible refine calm_doIf (fun _ => ?_) ?_
    | with_reducible refine calm_each (fun _ _ => ?_) ?_
    | dsimp only [id]
    | split
    | exact calm_eq (by with_reducible rfl))

theorem nozSwap_calm (n new cause : Nat) (lc : Option Nat) (s : State) : calm s (nozSwap n new cause lc s) := by
  unfold nozSwap
  try dsimp only
  repeat' (first
    | with_reducible exact calm_refl _
    | (with_reducible show calm _ (notice _ _ _); with_reducible refine calm_trans ?_ (notice_calm _ _ _))
    | (with_reducible show calm _ (bankPut _ _ _ _); with_reducible refine calm_trans ?_ (calm_of_keeps (bankPut_keeps _ _ _ _) (by decide)))
    | (with_reducible show calm _ (journal _ _ _ _ _ _ _); with_reducible refine calm_trans ?_ (calm_of_keeps (journal_keeps _ _ _ _ _ _ _) (by decide)))
    | (with_reducible show calm _ (gateQueue _ _); with_reducible refine calm_trans ?_ (gateQueue_calm _ _))
    | (with_reducible show calm _ (evalAfterSwap _ _ _); with_reducible refine calm_trans ?_ (evalAfterSwap_calm _ _ _))
    | (with_reducible show calm _ (keepOldEntry _ _ _); with_reducible refine calm_trans ?_ (calm_of_keeps (keepOldEntry_keeps _ _ _) (by decide)))
    | with_reducible refine calm_ite ?_ ?_
    | with_reducible refine calm_doIf (fun _ => ?_) ?_
    | with_reducible refine calm_each (fun _ _ => ?_) ?_
    | dsimp only [id]
    | split
    | exact calm_eq (by with_reducible rfl))

theorem gateAgain_calm (conf : Word) (r n old new : Nat) (s : State) : calm s (gateAgain conf r n old new s) := by
  unfold gateAgain
  try dsimp only
  repeat' (first
    | with_reducible exact calm_refl _
    | (with_reducible show calm _ (notice _ _ _); with_reducible refine calm_trans ?_ (notice_calm _ _ _))
    | (with_reducible show calm _ (gateQueue _ _); with_reducible refine calm_trans ?_ (gateQueue_calm _ _))
    | with_reducible refine calm_ite ?_ ?_
    | with_reducible refine calm_doIf (fun _ => ?_) ?_
    | with_reducible refine calm_each (fun _ _ => ?_) ?_
    | dsimp only [id]
    | split
    | exact calm_eq (by with_reducible rfl))

theorem nzApply_calm (c : NzlChange) (lc : Option Nat) (s : State) : calm s (nzApply c lc s) := by
  unfold nzApply
  try dsimp only
  repeat' (first
    | with_reducible exact calm_refl _
    | (with_reducible show calm _ (notice _ _ _); with_reducible refine calm_trans ?_ (notice_calm _ _ _))
    | (with_reducible show calm _ (nozSwap _ _ _ _ _); with_reducible refine calm_trans ?_ (nozSwap_calm _ _ _ _ _))
    | (with_reducible show calm _ (bankGrant _ _ _); with_reducible refine calm_trans ?_ (calm_of_keeps (bankGrant_keeps _ _ _) (by decide)))
    | (with_reducible show calm _ (gateAgain _ _ _ _ _ _); with_reducible refine calm_trans ?_ (gateAgain_calm _ _ _ _ _ _))
    | (with_reducible show calm _ (tickFree _); with_reducible refine calm_trans ?_ (calm_of_keeps (tickFree_keeps _) (by decide)))
    | with_reducible refine calm_ite ?_ ?_
    | with_reducible refine calm_doIf (fun _ => ?_) ?_
    | with_reducible refine calm_each (fun _ _ => ?_) ?_
    | dsimp only [id]
    | split
    | exact calm_eq (by with_reducible rfl))

theorem nzTake_calm (c : NzlChange) (lc : Option Nat) (s : State) : calm s (nzTake c lc s) := by
  unfold nzTake
  try dsimp only
  repeat' (first
    | with_reducible exact calm_refl _
    | (with_reducible show calm _ (mNzl _ _); with_reducible refine calm_trans ?_ (calm_of_keeps (mNzl_keeps _ _) (by decide)))
    | (with_reducible show calm _ (nzApply _ _ _); with_reducible refine calm_trans ?_ (nzApply_calm _ _ _))
    | (with_reducible show calm _ (nzRefill _); with_reducible refine calm_trans ?_ (calm_of_keeps (nzRefill_keeps _) (by decide)))
    | with_reducible refine calm_ite ?_ ?_
    | with_reducible refine calm_doIf (fun _ => ?_) ?_
    | with_reducible refine calm_each (fun _ _ => ?_) ?_
    | dsimp only [id]
    | split
    | exact calm_eq (by with_reducible rfl))

theorem nzLate_calm (c : NzlChange) (lc : Nat) (s : State) : calm s (nzLate c lc s) := by
  unfold nzLate
  try dsimp only
  repeat' (first
    | with_reducible exact calm_refl _
    | (with_reducible show calm _ (mNzl _ _); with_reducible refine calm_trans ?_ (calm_of_keeps (mNzl_keeps _ _) (by decide)))
    | (with_reducible show calm _ (notice _ _ _); with_reducible refine calm_trans ?_ (notice_calm _ _ _))
    | with_reducible refine calm_ite ?_ ?_
    | with_reducible refine calm_doIf (fun _ => ?_) ?_
    | with_reducible refine calm_each (fun _ _ => ?_) ?_
    | dsimp only [id]
    | split
    | exact calm_eq (by with_reducible rfl))

theorem nzSwapDue_calm (c : NzlChange) (s : State) : calm s (nzSwapDue c s) := by
  unfold nzSwapDue
  try dsimp only
  repeat' (first
    | with_reducible exact calm_refl _
    | (with_reducible show calm _ (nzTake _ _ _); with_reducible refine calm_trans ?_ (nzTake_calm _ _ _))
    | (with_reducible show calm _ (nzLate _ _ _); with_reducible refine calm_trans ?_ (nzLate_calm _ _ _))
    | with_reducible refine calm_ite ?_ ?_
    | with_reducible refine calm_doIf (fun _ => ?_) ?_
    | with_reducible refine calm_each (fun _ _ => ?_) ?_
    | dsimp only [id]
    | split
    | exact calm_eq (by with_reducible rfl))

theorem nzBefore_calm (p lc : Nat) (s : State) : calm s (nzBefore p lc s) := by
  unfold nzBefore
  try dsimp only
  repeat' (first
    | with_reducible exact calm_refl _
    | (with_reducible show calm _ (mNzl _ _); with_reducible refine calm_trans ?_ (calm_of_keeps (mNzl_keeps _ _) (by decide)))
    | (with_reducible show calm _ (nzTake _ _ _); with_reducible refine calm_trans ?_ (nzTake_calm _ _ _))
    | (with_reducible show calm _ (nzLate _ _ _); with_reducible refine calm_trans ?_ (nzLate_calm _ _ _))
    | with_reducible refine calm_ite ?_ ?_
    | with_reducible refine calm_doIf (fun _ => ?_) ?_
    | with_reducible refine calm_each (fun _ _ => ?_) ?_
    | dsimp only [id]
    | split
    | exact calm_eq (by with_reducible rfl))

theorem nzGridClosed_calm (p : Nat → Bool) (s : State) : calm s (nzGridClosed p s) := by
  unfold nzGridClosed
  try dsimp only
  repeat' (first
    | with_reducible exact calm_refl _
    | (with_reducible show calm _ (mNzl _ _); with_reducible refine calm_trans ?_ (calm_of_keeps (mNzl_keeps _ _) (by decide)))
    | (with_reducible show calm _ (nzTake _ _ _); with_reducible refine calm_trans ?_ (nzTake_calm _ _ _))
    | with_reducible refine calm_ite ?_ ?_
    | with_reducible refine calm_doIf (fun _ => ?_) ?_
    | with_reducible refine calm_each (fun _ _ => ?_) ?_
    | dsimp only [id]
    | split
    | exact calm_eq (by with_reducible rfl))

theorem nzSubmit_calm (c : NzlChange) (s : State) : calm s (nzSubmit c s) := by
  unfold nzSubmit
  try dsimp only
  repeat' (first
    | with_reducible exact calm_refl _
    | (with_reducible show calm _ (mNzl _ _); with_reducible refine calm_trans ?_ (calm_of_keeps (mNzl_keeps _ _) (by decide)))
    | (with_reducible show calm _ (sendNzlChange _ _ _ _); with_reducible refine calm_trans ?_ (calm_of_keeps (sendNzlChange_keeps _ _ _ _) (by decide)))
    | (with_reducible show calm _ (nzApply _ _ _); with_reducible refine calm_trans ?_ (nzApply_calm _ _ _))
    | with_reducible refine calm_ite ?_ ?_
    | with_reducible refine calm_doIf (fun _ => ?_) ?_
    | with_reducible refine calm_each (fun _ _ => ?_) ?_
    | dsimp only [id]
    | split
    | exact calm_eq (by with_reducible rfl))

theorem nzSuspect_calm (n lc : Nat) (s : State) : calm s (nzSuspect n lc s) := by
  unfold nzSuspect
  try dsimp only
  repeat' (first
    | with_reducible exact calm_refl _
    | (with_reducible show calm _ (nzSubmit _ _); with_reducible refine calm_trans ?_ (nzSubmit_calm _ _))
    | with_reducible refine calm_ite ?_ ?_
    | with_reducible refine calm_doIf (fun _ => ?_) ?_
    | with_reducible refine calm_each (fun _ _ => ?_) ?_
    | dsimp only [id]
    | split
    | exact calm_eq (by with_reducible rfl))

theorem nzGate_calm (n r : Nat) (s : State) : calm s (nzGate n r s) := by
  unfold nzGate
  try dsimp only
  repeat' (first
    | with_reducible exact calm_refl _
    | (with_reducible show calm _ (nzSubmit _ _); with_reducible refine calm_trans ?_ (nzSubmit_calm _ _))
    | with_reducible refine calm_ite ?_ ?_
    | with_reducible refine calm_doIf (fun _ => ?_) ?_
    | with_reducible refine calm_each (fun _ _ => ?_) ?_
    | dsimp only [id]
    | split
    | exact calm_eq (by with_reducible rfl))

theorem portMask_calm (p : Nat) (on : Bool) (s : State) : calm s (portMask p on s) := by
  unfold portMask
  try dsimp only
  repeat' (first
    | with_reducible exact calm_refl _
    | (with_reducible show calm _ (mNzl _ _); with_reducible refine calm_trans ?_ (calm_of_keeps (mNzl_keeps _ _) (by decide)))
    | (with_reducible show calm _ (journal _ _ _ _ _ _ _); with_reducible refine calm_trans ?_ (calm_of_keeps (journal_keeps _ _ _ _ _ _ _) (by decide)))
    | (with_reducible show calm _ (evalDetours _); with_reducible refine calm_trans ?_ (evalDetours_calm _))
    | with_reducible refine calm_ite ?_ ?_
    | with_reducible refine calm_doIf (fun _ => ?_) ?_
    | with_reducible refine calm_each (fun _ _ => ?_) ?_
    | dsimp only [id]
    | split
    | exact calm_eq (by with_reducible rfl))

/-! Machine/Memory.lean -/

theorem verifyPassed_calm (ch : Nat) (a b : Int) (s : State) : calm s (verifyPassed ch a b s) := by
  unfold verifyPassed
  try dsimp only
  repeat' (first
    | with_reducible exact calm_refl _
    | (with_reducible show calm _ (mChan _ _ _); with_reducible refine calm_trans ?_ (calm_of_keeps (mChan_keeps _ _ _) (by decide)))
    | (with_reducible show calm _ (notice _ _ _); with_reducible refine calm_trans ?_ (notice_calm _ _ _))
    | (with_reducible show calm _ (delayUpdate _ _); with_reducible refine calm_trans ?_ (calm_of_keeps (delayUpdate_keeps _ _) (by decide)))
    | with_reducible refine calm_ite ?_ ?_
    | with_reducible refine calm_doIf (fun _ => ?_) ?_
    | with_reducible refine calm_each (fun _ _ => ?_) ?_
    | dsimp only [id]
    | split
    | exact calm_eq (by with_reducible rfl))

/-! Machine/Towline.lean -/

theorem towEntry_calm {f : Via → State → State} (h_f : ∀ a0 u, calm u (f a0 u)) (ss : Session) (d : Bytes) (np : Via) (s : State) : calm s (towEntry ss d f np s) := by
  unfold towEntry
  try dsimp only
  repeat' (first
    | with_reducible exact calm_refl _
    | (with_reducible show calm _ (sendNak _ _ _ _ _); with_reducible refine calm_trans ?_ (sendNak_calm _ _ _ _ _))
    | (with_reducible show calm _ (f _ _); with_reducible refine calm_trans ?_ (h_f _ _))
    | with_reducible refine calm_ite ?_ ?_
    | with_reducible refine calm_doIf (fun _ => ?_) ?_
    | with_reducible refine calm_each (fun _ _ => ?_) ?_
    | dsimp only [id]
    | split
    | exact calm_eq (by with_reducible rfl))

theorem towOwned_calm {f : Layer → State → State} (h_f : ∀ a0 u, calm u (f a0 u)) (np : Via) (ss : Session) (d : Bytes) (fseq : Nat) (gone : NakArgs) (s : State) : calm s (towOwned np ss d fseq gone f s) := by
  unfold towOwned
  try dsimp only
  repeat' (first
    | with_reducible exact calm_refl _
    | (with_reducible show calm _ (sendNak _ _ _ _ _); with_reducible refine calm_trans ?_ (sendNak_calm _ _ _ _ _))
    | (with_reducible show calm _ (f _ _); with_reducible refine calm_trans ?_ (h_f _ _))
    | with_reducible refine calm_ite ?_ ?_
    | with_reducible refine calm_doIf (fun _ => ?_) ?_
    | with_reducible refine calm_each (fun _ _ => ?_) ?_
    | dsimp only [id]
    | split
    | exact calm_eq (by with_reducible rfl))

theorem closeCheck_calm (np : Option Via) (id : Nat) (answer : Bool) (s : State) : calm s (closeCheck np id answer s) := by
  unfold closeCheck
  try dsimp only
  repeat' (first
    | with_reducible exact calm_refl _
    | (with_reducible show calm _ (sendAck _ _ _ _); with_reducible refine calm_trans ?_ (calm_of_keeps (sendAck_keeps _ _ _ _) (by decide)))
    | (with_reducible show calm _ (mLayer _ _ _); with_reducible refine calm_trans ?_ (calm_of_keeps (mLayer_keeps _ _ _) (by decide)))
    | (with_reducible show calm _ (sendNak _ _ _ _ _); with_reducible refine calm_trans ?_ (sendNak_calm _ _ _ _ _))
    | (with_reducible show calm _ (creditWatch _); with_reducible refine calm_trans ?_ (calm_of_keeps (creditWatch_keeps _) (by decide)))
    | (with_reducible show calm _ (layerReady _ _); with_reducible refine calm_trans ?_ (calm_of_keeps (layerReady_keeps _ _) (by decide)))
    | with_reducible refine calm_ite ?_ ?_
    | with_reducible refine calm_doIf (fun _ => ?_) ?_
    | with_reducible refine calm_each (fun _ _ => ?_) ?_
    | dsimp only [id]
    | split
    | exact calm_eq (by with_reducible rfl))

theorem markPresent_calm (np : Option Via) (id sidx b : Nat) (s : State) : calm s (markPresent np id sidx b s) := by
  unfold markPresent
  try dsimp only
  repeat' (first
    | with_reducible exact calm_refl _
    | (with_reducible show calm _ (dirPut _ _ _); with_reducible refine calm_trans ?_ (calm_of_keeps (dirPut_keeps _ _ _) (by decide)))
    | (with_reducible show calm _ (notePresent _ _ _); with_reducible refine calm_trans ?_ (calm_of_keeps (notePresent_keeps _ _ _) (by decide)))
    | (with_reducible show calm _ (mBlock _ _ _ _ _); with_reducible refine calm_trans ?_ (calm_of_keeps (mBlock_keeps _ _ _ _ _) (by decide)))
    | (with_reducible show calm _ (updateMargins _); with_reducible refine calm_trans ?_ (calm_of_keeps (updateMargins_keeps _) (by decide)))
    | (with_reducible show calm _ (streamCheck _ _); with_reducible refine calm_trans ?_ (calm_of_keeps (streamCheck_keeps _ _) (by decide)))
    | (with_reducible show calm _ (closeCheck _ _ _ _); with_reducible refine calm_trans ?_ (closeCheck_calm _ _ _ _))
    | with_reducible refine calm_ite ?_ ?_
    | with_reducible refine calm_doIf (fun _ => ?_) ?_
    | with_reducible refine calm_each (fun _ _ => ?_) ?_
    | dsimp only [id]
    | split
    | exact calm_eq (by with_reducible rfl))

theorem placeFragments_calm (s : State) : calm s (placeFragments s) := by
  unfold placeFragments
  try dsimp only
  repeat' (first
    | with_reducible exact calm_refl _
    | (with_reducible show calm _ (mTow _ _); with_reducible refine calm_trans ?_ (calm_of_keeps (mTow_keeps _ _) (by decide)))
    | (with_reducible show calm _ (stageTake _ _ _ _ _ _ _); with_reducible refine calm_trans ?_ (stageTake_calm (fun _ => ?_) _ _ _ _ _ _))
    | (with_reducible show calm _ (memWrite _ _ _ _ _); with_reducible refine calm_trans ?_ (calm_of_keeps (memWrite_keeps _ _ _ _ _) (by decide)))
    | (with_reducible show calm _ (takeTag _); with_reducible refine calm_trans ?_ (calm_of_keeps (takeTag_keeps _) (by decide)))
    | with_reducible refine calm_ite ?_ ?_
    | with_reducible refine calm_doIf (fun _ => ?_) ?_
    | with_reducible refine calm_each (fun _ _ => ?_) ?_
    | dsimp only [id]
    | split
    | exact calm_eq (by with_reducible rfl))

theorem blockHeld_calm (np : Via) (id sidx b fseq : Nat) (s : State) : calm s (blockHeld np id sidx b fseq s) := by
  unfold blockHeld
  try dsimp only
  repeat' (first
    | with_reducible exact calm_refl _
    | (with_reducible show calm _ (mLayer _ _ _); with_reducible refine calm_trans ?_ (calm_of_keeps (mLayer_keeps _ _ _) (by decide)))
    | (with_reducible show calm _ (mTow _ _); with_reducible refine calm_trans ?_ (calm_of_keeps (mTow_keeps _ _) (by decide)))
    | (with_reducible show calm _ (sendNak _ _ _ _ _); with_reducible refine calm_trans ?_ (sendNak_calm _ _ _ _ _))
    | (with_reducible show calm _ (mCmp _ _); with_reducible refine calm_trans ?_ (calm_of_keeps (mCmp_keeps _ _) (by decide)))
    | (with_reducible show calm _ (mBlock _ _ _ _ _); with_reducible refine calm_trans ?_ (calm_of_keeps (mBlock_keeps _ _ _ _ _) (by decide)))
    | with_reducible refine calm_ite ?_ ?_
    | with_reducible refine calm_doIf (fun _ => ?_) ?_
    | with_reducible refine calm_each (fun _ _ => ?_) ?_
    | dsimp only [id]
    | split
    | exact calm_eq (by with_reducible rfl))

theorem fragDup_calm (np : Via) (id fseq : Nat) (s : State) : calm s (fragDup np id fseq s) := by
  unfold fragDup
  try dsimp only
  repeat' (first
    | with_reducible exact calm_refl _
    | (with_reducible show calm _ (mTow _ _); with_reducible refine calm_trans ?_ (calm_of_keeps (mTow_keeps _ _) (by decide)))
    | (with_reducible show calm _ (mLayer _ _ _); with_reducible refine calm_trans ?_ (calm_of_keeps (mLayer_keeps _ _ _) (by decide)))
    | (with_reducible show calm _ (closeCheck _ _ _ _); with_reducible refine calm_trans ?_ (closeCheck_calm _ _ _ _))
    | (with_reducible show calm _ (ackDue _ _ _ _); with_reducible refine calm_trans ?_ (calm_of_keeps (ackDue_keeps _ _ _ _) (by decide)))
    | with_reducible refine calm_ite ?_ ?_
    | with_reducible refine calm_doIf (fun _ => ?_) ?_
    | with_reducible refine calm_each (fun _ _ => ?_) ?_
    | dsimp only [id]
    | split
    | exact calm_eq (by with_reducible rfl))

theorem fragStore_calm (np : Via) (id sidx b frag total fseq : Nat) (data : Bytes) (s : State) : calm s (fragStore np id sidx b frag total fseq data s) := by
  unfold fragStore
  try dsimp only
  repeat' (first
    | with_reducible exact calm_refl _
    | (with_reducible show calm _ (mTow _ _); with_reducible refine calm_trans ?_ (calm_of_keeps (mTow_keeps _ _) (by decide)))
    | (with_reducible show calm _ (mLayer _ _ _); with_reducible refine calm_trans ?_ (calm_of_keeps (mLayer_keeps _ _ _) (by decide)))
    | (with_reducible show calm _ (updateMargins _); with_reducible refine calm_trans ?_ (calm_of_keeps (updateMargins_keeps _) (by decide)))
    | (with_reducible show calm _ (strandSync _); with_reducible refine calm_trans ?_ (calm_of_keeps (strandSync_keeps _) (by decide)))
    | (with_reducible show calm _ (setLayerSt _ _ _ _); with_reducible refine calm_trans ?_ (calm_of_keeps (setLayerSt_keeps _ _ _ _) (by decide)))
    | (with_reducible show calm _ (blockHeld _ _ _ _ _ _); with_reducible refine calm_trans ?_ (blockHeld_calm _ _ _ _ _ _))
    | (with_reducible show calm _ (placeFragments _); with_reducible refine calm_trans ?_ (placeFragments_calm _))
    | (with_reducible show calm _ (ackDue _ _ _ _); with_reducible refine calm_trans ?_ (calm_of_keeps (ackDue_keeps _ _ _ _) (by decide)))
    | (with_reducible show calm _ (closeCheck _ _ _ _); with_reducible refine calm_trans ?_ (closeCheck_calm _ _ _ _))
    | with_reducible refine calm_ite ?_ ?_
    | with_reducible refine calm_doIf (fun _ => ?_) ?_
    | with_reducible refine calm_each (fun _ _ => ?_) ?_
    | dsimp only [id]
    | split
    | exact calm_eq (by with_reducible rfl))

theorem fragCheck_calm (np : Via) (ss : Session) (d : Bytes) (l : Layer) (s : State) : calm s (fragCheck np ss d l s) := by
  unfold fragCheck
  try dsimp only
  repeat' (first
    | with_reducible exact calm_refl _
    | (with_reducible show calm _ (sendNak _ _ _ _ _); with_reducible refine calm_trans ?_ (sendNak_calm _ _ _ _ _))
    | (with_reducible show calm _ (fragDup _ _ _ _); with_reducible refine calm_trans ?_ (fragDup_calm _ _ _ _))
    | (with_reducible show calm _ (stageTake _ _ _ _ _ _ _); with_reducible refine calm_trans ?_ (stageTake_calm (fun _ => ?_) _ _ _ _ _ _))
    | (with_reducible show calm _ (fragStore _ _ _ _ _ _ _ _ _); with_reducible refine calm_trans ?_ (fragStore_calm _ _ _ _ _ _ _ _ _))
    | with_reducible refine calm_ite ?_ ?_
    | with_reducible refine calm_doIf (fun _ => ?_) ?_
    | with_reducible refine calm_each (fun _ _ => ?_) ?_
    | dsimp only [id]
    | split
    | exact calm_eq (by with_reducible rfl))

theorem announce_calm (np : Via) (ss : Session) (d : Bytes) (s : State) : calm s (announce np ss d s) := by
  unfold announce
  try dsimp only
  repeat' (first
    | with_reducible exact calm_refl _
    | (with_reducible show calm _ (sendNak _ _ _ _ _); with_reducible refine calm_trans ?_ (sendNak_calm _ _ _ _ _))
    | (with_reducible show calm _ (sendAck _ _ _ _); with_reducible refine calm_trans ?_ (calm_of_keeps (sendAck_keeps _ _ _ _) (by decide)))
    | (with_reducible show calm _ (dirLayer _ _ _); with_reducible refine calm_trans ?_ (calm_of_keeps (dirLayer_keeps _ _ _) (by decide)))
    | (with_reducible show calm _ (mTow _ _); with_reducible refine calm_trans ?_ (calm_of_keeps (mTow_keeps _ _) (by decide)))
    | (with_reducible show calm _ (setLayerSt _ _ _ _); with_reducible refine calm_trans ?_ (calm_of_keeps (setLayerSt_keeps _ _ _ _) (by decide)))
    | with_reducible refine calm_ite ?_ ?_
    | with_reducible refine calm_doIf (fun _ => ?_) ?_
    | with_reducible refine calm_each (fun _ _ => ?_) ?_
    | dsimp only [id]
    | split
    | exact calm_eq (by with_reducible rfl))

theorem closeMsg_calm (np : Via) (d : Bytes) (l : Layer) (s : State) : calm s (closeMsg np d l s) := by
  unfold closeMsg
  try dsimp only
  repeat' (first
    | with_reducible exact calm_refl _
    | (with_reducible show calm _ (sendAck _ _ _ _); with_reducible refine calm_trans ?_ (calm_of_keeps (sendAck_keeps _ _ _ _) (by decide)))
    | (with_reducible show calm _ (closeCheck _ _ _ _); with_reducible refine calm_trans ?_ (closeCheck_calm _ _ _ _))
    | (with_reducible show calm _ (mLayer _ _ _); with_reducible refine calm_trans ?_ (calm_of_keeps (mLayer_keeps _ _ _) (by decide)))
    | with_reducible refine calm_ite ?_ ?_
    | with_reducible refine calm_doIf (fun _ => ?_) ?_
    | with_reducible refine calm_each (fun _ _ => ?_) ?_
    | dsimp only [id]
    | split
    | exact calm_eq (by with_reducible rfl))

theorem restartMsg_calm (np : Via) (ss : Session) (d : Bytes) (l : Layer) (s : State) : calm s (restartMsg np ss d l s) := by
  unfold restartMsg
  try dsimp only
  repeat' (first
    | with_reducible exact calm_refl _
    | (with_reducible show calm _ (mLayer _ _ _); with_reducible refine calm_trans ?_ (calm_of_keeps (mLayer_keeps _ _ _) (by decide)))
    | (with_reducible show calm _ (sendTow _ _ _ _); with_reducible refine calm_trans ?_ (calm_of_keeps (sendTow_keeps _ _ _ _) (by decide)))
    | (with_reducible show calm _ (mTow _ _); with_reducible refine calm_trans ?_ (calm_of_keeps (mTow_keeps _ _) (by decide)))
    | (with_reducible show calm _ (setLayerSt _ _ _ _); with_reducible refine calm_trans ?_ (calm_of_keeps (setLayerSt_keeps _ _ _ _) (by decide)))
    | (with_reducible show calm _ (enterStrand _ _ _); with_reducible refine calm_trans ?_ (calm_of_keeps (enterStrand_keeps _ _ _) (by decide)))
    | (with_reducible show calm _ (updateMargins _); with_reducible refine calm_trans ?_ (calm_of_keeps (updateMargins_keeps _) (by decide)))
    | (with_reducible show calm _ (strandSync _); with_reducible refine calm_trans ?_ (calm_of_keeps (strandSync_keeps _) (by decide)))
    | (with_reducible show calm _ (sendNak _ _ _ _ _); with_reducible refine calm_trans ?_ (sendNak_calm _ _ _ _ _))
    | with_reducible refine calm_ite ?_ ?_
    | with_reducible refine calm_doIf (fun _ => ?_) ?_
    | with_reducible refine calm_each (fun _ _ => ?_) ?_
    | dsimp only [id]
    | split
    | exact calm_eq (by with_reducible rfl))

theorem releaseMsg_calm (np : Via) (ss : Session) (d : Bytes) (s : State) : calm s (releaseMsg np ss d s) := by
  unfold releaseMsg
  try dsimp only
  repeat' (first
    | with_reducible exact calm_refl _
    | (with_reducible show calm _ (sendNak _ _ _ _ _); with_reducible refine calm_trans ?_ (sendNak_calm _ _ _ _ _))
    | (with_reducible show calm _ (sendAck _ _ _ _); with_reducible refine calm_trans ?_ (calm_of_keeps (sendAck_keeps _ _ _ _) (by decide)))
    | (with_reducible show calm _ (releaseLayer _ _ _); with_reducible refine calm_trans ?_ (calm_of_keeps (releaseLayer_keeps _ _ _) (by decide)))
    | (with_reducible show calm _ (creditWatch _); with_reducible refine calm_trans ?_ (calm_of_keeps (creditWatch_keeps _) (by decide)))
    | (with_reducible show calm _ (updateMargins _); with_reducible refine calm_trans ?_ (calm_of_keeps (updateMargins_keeps _) (by decide)))
    | (with_reducible show calm _ (strandSync _); with_reducible refine calm_trans ?_ (calm_of_keeps (strandSync_keeps _) (by decide)))
    | with_reducible refine calm_ite ?_ ?_
    | with_reducible refine calm_doIf (fun _ => ?_) ?_
    | with_reducible refine calm_each (fun _ _ => ?_) ?_
    | dsimp only [id]
    | split
    | exact calm_eq (by with_reducible rfl))

theorem fragWritten_calm (s : State) : calm s (fragWritten s) := by
  unfold fragWritten
  try dsimp only
  repeat' (first
    | with_reducible exact calm_refl _
    | (with_reducible show calm _ (mTow _ _); with_reducible refine calm_trans ?_ (calm_of_keeps (mTow_keeps _ _) (by decide)))
    | (with_reducible show calm _ (creditWatch _); with_reducible refine calm_trans ?_ (calm_of_keeps (creditWatch_keeps _) (by decide)))
    | (with_reducible show calm _ (markPresent _ _ _ _ _); with_reducible refine calm_trans ?_ (markPresent_calm _ _ _ _ _))
    | with_reducible refine calm_ite ?_ ?_
    | with_reducible refine calm_doIf (fun _ => ?_) ?_
    | with_reducible refine calm_each (fun _ _ => ?_) ?_
    | dsimp only [id]
    | split
    | exact calm_eq (by with_reducible rfl))

theorem compRaw_calm (c : Nat) (s : State) : calm s (compRaw c s) := by
  unfold compRaw
  try dsimp only
  repeat' (first
    | with_reducible exact calm_refl _
    | (with_reducible show calm _ (mCmp _ _); with_reducible refine calm_trans ?_ (calm_of_keeps (mCmp_keeps _ _) (by decide)))
    | (with_reducible show calm _ (markPresent _ _ _ _ _); with_reducible refine calm_trans ?_ (markPresent_calm _ _ _ _ _))
    | (with_reducible show calm _ (compFree _ _); with_reducible refine calm_trans ?_ (calm_of_keeps (compFree_keeps _ _) (by decide)))
    | with_reducible refine calm_ite ?_ ?_
    | with_reducible refine calm_doIf (fun _ => ?_) ?_
    | with_reducible refine calm_each (fun _ _ => ?_) ?_
    | dsimp only [id]
    | split
    | exact calm_eq (by with_reducible rfl))

theorem compDone_calm (c : Nat) (s : State) : calm s (compDone c s) := by
  unfold compDone
  try dsimp only
  repeat' (first
    | with_reducible exact calm_refl _
    | (with_reducible show calm _ (compRaw _ _); with_reducible refine calm_trans ?_ (compRaw_calm _ _))
    | (with_reducible show calm _ (mBlock _ _ _ _ _); with_reducible refine calm_trans ?_ (calm_of_keeps (mBlock_keeps _ _ _ _ _) (by decide)))
    | (with_reducible show calm _ (mCmp _ _); with_reducible refine calm_trans ?_ (calm_of_keeps (mCmp_keeps _ _) (by decide)))
    | (with_reducible show calm _ (markPresent _ _ _ _ _); with_reducible refine calm_trans ?_ (markPresent_calm _ _ _ _ _))
    | (with_reducible show calm _ (compFree _ _); with_reducible refine calm_trans ?_ (calm_of_keeps (compFree_keeps _ _) (by decide)))
    | with_reducible refine calm_ite ?_ ?_
    | with_reducible refine calm_doIf (fun _ => ?_) ?_
    | with_reducible refine calm_each (fun _ _ => ?_) ?_
    | dsimp only [id]
    | split
    | exact calm_eq (by with_reducible rfl))

/-! Machine/Position.lean -/

theorem countBy_calm (c : Nat) (d : Int) (s : State) : calm s (countBy c d s) := by
  unfold countBy
  try dsimp only
  repeat' (first
    | with_reducible exact calm_refl _
    | (with_reducible show calm _ (mEnc _ _ _); with_reducible refine calm_trans ?_ (calm_of_keeps (mEnc_keeps _ _ _) (by decide)))
    | (with_reducible show calm _ (notice _ _ _); with_reducible refine calm_trans ?_ (notice_calm _ _ _))
    | (with_reducible show calm _ (hwmFollow _ _); with_reducible refine calm_trans ?_ (calm_of_keeps (hwmFollow_keeps _ _) (by decide)))
    | with_reducible refine calm_ite ?_ ?_
    | with_reducible refine calm_doIf (fun _ => ?_) ?_
    | with_reducible refine calm_each (fun _ _ => ?_) ?_
    | dsimp only [id]
    | split
    | exact calm_eq (by with_reducible rfl))

theorem msStale_calm (i : Nat) (s : State) : calm s (msStale i s) := by
  unfold msStale
  try dsimp only
  repeat' (first
    | with_reducible exact calm_refl _
    | (with_reducible show calm _ (mMs _ _ _); with_reducible refine calm_trans ?_ (calm_of_keeps (mMs_keeps _ _ _) (by decide)))
    | (with_reducible show calm _ (notice _ _ _); with_reducible refine calm_trans ?_ (notice_calm _ _ _))
    | (with_reducible show calm _ (knotWithdraw _); with_reducible refine calm_trans ?_ (calm_of_keeps (knotWithdraw_keeps _) (by decide)))
    | with_reducible refine calm_ite ?_ ?_
    | with_reducible refine calm_doIf (fun _ => ?_) ?_
    | with_reducible refine calm_each (fun _ _ => ?_) ?_
    | dsimp only [id]
    | split
    | exact calm_eq (by with_reducible rfl))

theorem msArm_calm (i : Nat) (s : State) : calm s (msArm i s) := by
  unfold msArm
  try dsimp only
  repeat' (first
    | with_reducible exact calm_refl _
    | (with_reducible show calm _ (mMs _ _ _); with_reducible refine calm_trans ?_ (calm_of_keeps (mMs_keeps _ _ _) (by decide)))
    | (with_reducible show calm _ (msStale _ _); with_reducible refine calm_trans ?_ (msStale_calm _ _))
    | with_reducible refine calm_ite ?_ ?_
    | with_reducible refine calm_doIf (fun _ => ?_) ?_
    | with_reducible refine calm_each (fun _ _ => ?_) ?_
    | dsimp only [id]
    | split
    | exact calm_eq (by with_reducible rfl))

theorem reverseCheck_calm (s : State) : calm s (reverseCheck s) := by
  unfold reverseCheck
  try dsimp only
  repeat' (first
    | with_reducible exact calm_refl _
    | (with_reducible show calm _ (notice _ _ _); with_reducible refine calm_trans ?_ (notice_calm _ _ _))
    | (with_reducible show calm _ (mLayer _ _ _); with_reducible refine calm_trans ?_ (calm_of_keeps (mLayer_keeps _ _ _) (by decide)))
    | with_reducible refine calm_ite ?_ ?_
    | with_reducible refine calm_doIf (fun _ => ?_) ?_
    | with_reducible refine calm_each (fun _ _ => ?_) ?_
    | dsimp only [id]
    | split
    | exact calm_eq (by with_reducible rfl))

theorem sampleEnd_calm (c : Nat) (s : State) : calm s (sampleEnd c s) := by
  unfold sampleEnd
  try dsimp only
  repeat' (first
    | with_reducible exact calm_refl _
    | (with_reducible show calm _ (msEval _ _); with_reducible refine calm_trans ?_ (calm_of_keeps (msEval_keeps _ _) (by decide)))
    | (with_reducible show calm _ (knotReach _); with_reducible refine calm_trans ?_ (calm_of_keeps (knotReach_keeps _) (by decide)))
    | (with_reducible show calm _ (reverseCheck _); with_reducible refine calm_trans ?_ (reverseCheck_calm _))
    | with_reducible refine calm_ite ?_ ?_
    | with_reducible refine calm_doIf (fun _ => ?_) ?_
    | with_reducible refine calm_each (fun _ _ => ?_) ?_
    | dsimp only [id]
    | split
    | exact calm_eq (by with_reducible rfl))

theorem encEdge_calm (c : Nat) (a b fast more : Bool) (s : State) : calm s (encEdge c a b fast more s) := by
  unfold encEdge
  try dsimp only
  repeat' (first
    | with_reducible exact calm_refl _
    | (with_reducible show calm _ (ptCopy _ _ _); with_reducible refine calm_trans ?_ (calm_of_keeps (ptCopy_keeps _ _ _) (by decide)))
    | (with_reducible show calm _ (mEnc _ _ _); with_reducible refine calm_trans ?_ (calm_of_keeps (mEnc_keeps _ _ _) (by decide)))
    | (with_reducible show calm _ (raiseLim _ _ _ _ _ _); refine calm_trans ?_ (calm_raiseLim _ _ _ _ _ _ (by first | exact .inl rfl | exact .inr rfl | (split <;> first | exact .inl rfl | exact .inr rfl))))
    | (with_reducible show calm _ (posErr _ _ _); with_reducible refine calm_trans ?_ (calm_of_keeps (posErr_keeps _ _ _) (by decide)))
    | (with_reducible show calm _ (posStat _ _ _); with_reducible refine calm_trans ?_ (calm_of_keeps (posStat_keeps _ _ _) (by decide)))
    | (with_reducible show calm _ (countBy _ _ _); with_reducible refine calm_trans ?_ (countBy_calm _ _ _))
    | (with_reducible show calm _ (sampleEnd _ _); with_reducible refine calm_trans ?_ (sampleEnd_calm _ _))
    | with_reducible refine calm_ite ?_ ?_
    | with_reducible refine calm_doIf (fun _ => ?_) ?_
    | with_reducible refine calm_each (fun _ _ => ?_) ?_
    | dsimp only [id]
    | split
    | exact calm_eq (by with_reducible rfl))

theorem wireBad_calm (c : Nat) (p : EncPair) (s : State) : calm s (wireBad c p s) := by
  unfold wireBad
  try dsimp only
  repeat' (first
    | with_reducible exact calm_refl _
    | (with_reducible show calm _ (mEnc _ _ _); with_reducible refine calm_trans ?_ (calm_of_keeps (mEnc_keeps _ _ _) (by decide)))
    | (with_reducible show calm _ (faultErr _ _ _); with_reducible refine calm_trans ?_ (faultErr_calm _ _ _))
    | (with_reducible show calm _ (posStat _ _ _); with_reducible refine calm_trans ?_ (calm_of_keeps (posStat_keeps _ _ _) (by decide)))
    | (with_reducible show calm _ (posErr _ _ _); with_reducible refine calm_trans ?_ (calm_of_keeps (posErr_keeps _ _ _) (by decide)))
    | with_reducible refine calm_ite ?_ ?_
    | with_reducible refine calm_doIf (fun _ => ?_) ?_
    | with_reducible refine calm_each (fun _ _ => ?_) ?_
    | dsimp only [id]
    | split
    | exact calm_eq (by with_reducible rfl))

theorem wireGood_calm (c : Nat) (p : EncPair) (s : State) : calm s (wireGood c p s) := by
  unfold wireGood
  try dsimp only
  repeat' (first
    | with_reducible exact calm_refl _
    | (with_reducible show calm _ (mEnc _ _ _); with_reducible refine calm_trans ?_ (calm_of_keeps (mEnc_keeps _ _ _) (by decide)))
    | (with_reducible show calm _ (endFault _ _ _); with_reducible refine calm_trans ?_ (endFault_calm _ _ _))
    | with_reducible refine calm_ite ?_ ?_
    | with_reducible refine calm_doIf (fun _ => ?_) ?_
    | with_reducible refine calm_each (fun _ _ => ?_) ?_
    | dsimp only [id]
    | split
    | exact calm_eq (by with_reducible rfl))

theorem indexTake_calm (c : Nat) (s : State) : calm s (indexTake c s) := by
  unfold indexTake
  try dsimp only
  repeat' (first
    | with_reducible exact calm_refl _
    | (with_reducible show calm _ (mPos _ _); with_reducible refine calm_trans ?_ (calm_of_keeps (mPos_keeps _ _) (by decide)))
    | (with_reducible show calm _ (mEnc _ _ _); with_reducible refine calm_trans ?_ (calm_of_keeps (mEnc_keeps _ _ _) (by decide)))
    | (with_reducible show calm _ (notice _ _ _); with_reducible refine calm_trans ?_ (notice_calm _ _ _))
    | (with_reducible show calm _ (faultErr _ _ _); with_reducible refine calm_trans ?_ (faultErr_calm _ _ _))
    | (with_reducible show calm _ (posStat _ _ _); with_reducible refine calm_trans ?_ (calm_of_keeps (posStat_keeps _ _ _) (by decide)))
    | with_reducible refine calm_ite ?_ ?_
    | with_reducible refine calm_doIf (fun _ => ?_) ?_
    | with_reducible refine calm_each (fun _ _ => ?_) ?_
    | dsimp only [id]
    | split
    | exact calm_eq (by with_reducible rfl))

theorem zEdge_calm (c : Nat) (more : Bool) (s : State) : calm s (zEdge c more s) := by
  unfold zEdge
  try dsimp only
  repeat' (first
    | with_reducible exact calm_refl _
    | (with_reducible show calm _ (ptCopy _ _ _); with_reducible refine calm_trans ?_ (calm_of_keeps (ptCopy_keeps _ _ _) (by decide)))
    | (with_reducible show calm _ (indexTake _ _); with_reducible refine calm_trans ?_ (indexTake_calm _ _))
    | (with_reducible show calm _ (sampleEnd _ _); with_reducible refine calm_trans ?_ (sampleEnd_calm _ _))
    | with_reducible refine calm_ite ?_ ?_
    | with_reducible refine calm_doIf (fun _ => ?_) ?_
    | with_reducible refine calm_each (fun _ _ => ?_) ?_
    | dsimp only [id]
    | split
    | exact calm_eq (by with_reducible rfl))

theorem ssiDiscard_calm (c : Nat) (s : State) : calm s (ssiDiscard c s) := by
  unfold ssiDiscard
  try dsimp only
  repeat' (first
    | with_reducible exact calm_refl _
    | (with_reducible show calm _ (mEnc _ _ _); with_reducible refine calm_trans ?_ (calm_of_keeps (mEnc_keeps _ _ _) (by decide)))
    | (with_reducible show calm _ (faultErr _ _ _); with_reducible refine calm_trans ?_ (faultErr_calm _ _ _))
    | (with_reducible show calm _ (posStat _ _ _); with_reducible refine calm_trans ?_ (calm_of_keeps (posStat_keeps _ _ _) (by decide)))
    | (with_reducible show calm _ (posErr _ _ _); with_reducible refine calm_trans ?_ (calm_of_keeps (posErr_keeps _ _ _) (by decide)))
    | with_reducible refine calm_ite ?_ ?_
    | with_reducible refine calm_doIf (fun _ => ?_) ?_
    | with_reducible refine calm_each (fun _ _ => ?_) ?_
    | dsimp only [id]
    | split
    | exact calm_eq (by with_reducible rfl))

theorem ssiValid_calm (c w : Nat) (s : State) : calm s (ssiValid c w s) := by
  unfold ssiValid
  try dsimp only
  repeat' (first
    | with_reducible exact calm_refl _
    | (with_reducible show calm _ (mEnc _ _ _); with_reducible refine calm_trans ?_ (calm_of_keeps (mEnc_keeps _ _ _) (by decide)))
    | (with_reducible show calm _ (faultErr _ _ _); with_reducible refine calm_trans ?_ (faultErr_calm _ _ _))
    | (with_reducible show calm _ (posErr _ _ _); with_reducible refine calm_trans ?_ (calm_of_keeps (posErr_keeps _ _ _) (by decide)))
    | (with_reducible show calm _ (hwmFollow _ _); with_reducible refine calm_trans ?_ (calm_of_keeps (hwmFollow_keeps _ _) (by decide)))
    | (with_reducible show calm _ (countBy _ _ _); with_reducible refine calm_trans ?_ (countBy_calm _ _ _))
    | (with_reducible show calm _ (encStart _ _ _); with_reducible refine calm_trans ?_ (calm_of_keeps (encStart_keeps _ _ _) (by decide)))
    | (with_reducible show calm _ (sampleEnd _ _); with_reducible refine calm_trans ?_ (sampleEnd_calm _ _))
    | with_reducible refine calm_ite ?_ ?_
    | with_reducible refine calm_doIf (fun _ => ?_) ?_
    | with_reducible refine calm_each (fun _ _ => ?_) ?_
    | dsimp only [id]
    | split
    | exact calm_eq (by with_reducible rfl))

theorem ssiDone_calm (c : Nat) (w : Word) (par : Bool) (s : State) : calm s (ssiDone c w par s) := by
  unfold ssiDone
  try dsimp only
  repeat' (first
    | with_reducible exact calm_refl _
    | (with_reducible show calm _ (mEnc _ _ _); with_reducible refine calm_trans ?_ (calm_of_keeps (mEnc_keeps _ _ _) (by decide)))
    | (with_reducible show calm _ (ssiDiscard _ _); with_reducible refine calm_trans ?_ (ssiDiscard_calm _ _))
    | (with_reducible show calm _ (ssiValid _ _ _); with_reducible refine calm_trans ?_ (ssiValid_calm _ _ _))
    | with_reducible refine calm_ite ?_ ?_
    | with_reducible refine calm_doIf (fun _ => ?_) ?_
    | with_reducible refine calm_each (fun _ _ => ?_) ?_
    | dsimp only [id]
    | split
    | exact calm_eq (by with_reducible rfl))

theorem obsUpdate_calm (c : Nat) (s : State) : calm s (obsUpdate c s) := by
  unfold obsUpdate
  try dsimp only
  repeat' (first
    | with_reducible exact calm_refl _
    | (with_reducible show calm _ (mEnc _ _ _); with_reducible refine calm_trans ?_ (calm_of_keeps (mEnc_keeps _ _ _) (by decide)))
    | (with_reducible show calm _ (raiseLim _ _ _ _ _ _); refine calm_trans ?_ (calm_raiseLim _ _ _ _ _ _ (by first | exact .inl rfl | exact .inr rfl | (split <;> first | exact .inl rfl | exact .inr rfl))))
    | (with_reducible show calm _ (posStat _ _ _); with_reducible refine calm_trans ?_ (calm_of_keeps (posStat_keeps _ _ _) (by decide)))
    | with_reducible refine calm_ite ?_ ?_
    | with_reducible refine calm_doIf (fun _ => ?_) ?_
    | with_reducible refine calm_each (fun _ _ => ?_) ?_
    | dsimp only [id]
    | split
    | exact calm_eq (by with_reducible rfl))

theorem ptStep_calm (c : Nat) (s : State) : calm s (ptStep c s) := by
  unfold ptStep
  try dsimp only
  repeat' (first
    | with_reducible exact calm_refl _
    | (with_reducible show calm _ (mEnc _ _ _); with_reducible refine calm_trans ?_ (calm_of_keeps (mEnc_keeps _ _ _) (by decide)))
    | (with_reducible show calm _ (emit _ _); with_reducible refine calm_trans ?_ (calm_of_keeps (emit_keeps _ _) (by decide)))
    | (with_reducible show calm _ (raiseLim _ _ _ _ _ _); refine calm_trans ?_ (calm_raiseLim _ _ _ _ _ _ (by first | exact .inl rfl | exact .inr rfl | (split <;> first | exact .inl rfl | exact .inr rfl))))
    | (with_reducible show calm _ (posStat _ _ _); with_reducible refine calm_trans ?_ (calm_of_keeps (posStat_keeps _ _ _) (by decide)))
    | with_reducible refine calm_ite ?_ ?_
    | with_reducible refine calm_doIf (fun _ => ?_) ?_
    | with_reducible refine calm_each (fun _ _ => ?_) ?_
    | dsimp only [id]
    | split
    | exact calm_eq (by with_reducible rfl))

theorem msLoad_calm (i : Nat) (v : Int) (s : State) : calm s (msLoad i v s) := by
  unfold msLoad
  try dsimp only
  repeat' (first
    | with_reducible exact calm_refl _
    | (with_reducible show calm _ (mMs _ _ _); with_reducible refine calm_trans ?_ (calm_of_keeps (mMs_keeps _ _ _) (by decide)))
    | (with_reducible show calm _ (msArm _ _); with_reducible refine calm_trans ?_ (msArm_calm _ _))
    | with_reducible refine calm_ite ?_ ?_
    | with_reducible refine calm_doIf (fun _ => ?_) ?_
    | with_reducible refine calm_each (fun _ _ => ?_) ?_
    | dsimp only [id]
    | split
    | exact calm_eq (by with_reducible rfl))

theorem msOp_calm (i : Nat) (o : MsOp) (s : State) : calm s (msOp i o s) := by
  unfold msOp
  try dsimp only
  repeat' (first
    | with_reducible exact calm_refl _
    | (with_reducible show calm _ (msArm _ _); with_reducible refine calm_trans ?_ (msArm_calm _ _))
    | (with_reducible show calm _ (msDisarm _ _); with_reducible refine calm_trans ?_ (calm_of_keeps (msDisarm_keeps _ _) (by decide)))
    | (with_reducible show calm _ (msLoad _ _ _); with_reducible refine calm_trans ?_ (msLoad_calm _ _ _))
    | (with_reducible show calm _ (mMs _ _ _); with_reducible refine calm_trans ?_ (calm_of_keeps (mMs_keeps _ _ _) (by decide)))
    | with_reducible refine calm_ite ?_ ?_
    | with_reducible refine calm_doIf (fun _ => ?_) ?_
    | with_reducible refine calm_each (fun _ _ => ?_) ?_
    | dsimp only [id]
    | split
    | exact calm_eq (by with_reducible rfl))

theorem msDo_calm (i : Nat) (o : MsOp) (s : State) : calm s (msDo i o s) := by
  unfold msDo
  try dsimp only
  repeat' (first
    | with_reducible exact calm_refl _
    | (with_reducible show calm _ (mMs _ _ _); with_reducible refine calm_trans ?_ (calm_of_keeps (mMs_keeps _ _ _) (by decide)))
    | (with_reducible show calm _ (msOp _ _ _); with_reducible refine calm_trans ?_ (msOp_calm _ _ _))
    | with_reducible refine calm_ite ?_ ?_
    | with_reducible refine calm_doIf (fun _ => ?_) ?_
    | with_reducible refine calm_each (fun _ _ => ?_) ?_
    | dsimp only [id]
    | split
    | exact calm_eq (by with_reducible rfl))

theorem opMsCtl_calm (i : Nat) (v : Word) (s : State) : calm s (opMsCtl i v s) := by
  unfold opMsCtl
  try dsimp only
  repeat' (first
    | with_reducible exact calm_refl _
    | (with_reducible show calm _ (msDo _ _ _); with_reducible refine calm_trans ?_ (msDo_calm _ _ _))
    | with_reducible refine calm_ite ?_ ?_
    | with_reducible refine calm_doIf (fun _ => ?_) ?_
    | with_reducible refine calm_each (fun _ _ => ?_) ?_
    | dsimp only [id]
    | split
    | exact calm_eq (by with_reducible rfl))

theorem opMsCommit_calm (i v : Nat) (s : State) : calm s (opMsCommit i v s) := by
  unfold opMsCommit
  try dsimp only
  repeat' (first
    | with_reducible exact calm_refl _
    | (with_reducible show calm _ (msDo _ _ _); with_reducible refine calm_trans ?_ (msDo_calm _ _ _))
    | with_reducible refine calm_ite ?_ ?_
    | with_reducible refine calm_doIf (fun _ => ?_) ?_
    | with_reducible refine calm_each (fun _ _ => ?_) ?_
    | dsimp only [id]
    | split
    | exact calm_eq (by with_reducible rfl))

theorem syncEdge_calm (n : Nat) (rising : Bool) (s : State) : calm s (syncEdge n rising s) := by
  unfold syncEdge
  try dsimp only
  repeat' (first
    | with_reducible exact calm_refl _
    | (with_reducible show calm _ (mMil _ _); with_reducible refine calm_trans ?_ (calm_of_keeps (mMil_keeps _ _) (by decide)))
    | (with_reducible show calm _ (notice _ _ _); with_reducible refine calm_trans ?_ (notice_calm _ _ _))
    | (with_reducible show calm _ (msDo _ _ _); with_reducible refine calm_trans ?_ (msDo_calm _ _ _))
    | with_reducible refine calm_ite ?_ ?_
    | with_reducible refine calm_doIf (fun _ => ?_) ?_
    | with_reducible refine calm_each (fun _ _ => ?_) ?_
    | dsimp only [id]
    | split
    | exact calm_eq (by with_reducible rfl))

theorem liveOne_calm (w : Nat × Nat) (s : State) : calm s (liveOne w s) := by
  unfold liveOne
  try dsimp only
  repeat' (first
    | with_reducible exact calm_refl _
    | (with_reducible show calm _ (mPos _ _); with_reducible refine calm_trans ?_ (calm_of_keeps (mPos_keeps _ _) (by decide)))
    | (with_reducible show calm _ (opMsCtl _ _ _); with_reducible refine calm_trans ?_ (opMsCtl_calm _ _ _))
    | (with_reducible show calm _ (opMsCommit _ _ _); with_reducible refine calm_trans ?_ (opMsCommit_calm _ _ _))
    | (with_reducible show calm _ (pulseRepol _ _ _); with_reducible refine calm_trans ?_ (calm_of_keeps (pulseRepol_keeps _ _ _) (by decide)))
    | with_reducible refine calm_ite ?_ ?_
    | with_reducible refine calm_doIf (fun _ => ?_) ?_
    | with_reducible refine calm_each (fun _ _ => ?_) ?_
    | dsimp only [id]
    | split
    | exact calm_eq (by with_reducible rfl))

theorem takeLive_calm (s : State) : calm s (takeLive s) := by
  unfold takeLive
  try dsimp only
  repeat' (first
    | with_reducible exact calm_refl _
    | (with_reducible show calm _ (mPos _ _); with_reducible refine calm_trans ?_ (calm_of_keeps (mPos_keeps _ _) (by decide)))
    | (with_reducible show calm _ (liveOne _ _); with_reducible refine calm_trans ?_ (liveOne_calm _ _))
    | with_reducible refine calm_ite ?_ ?_
    | with_reducible refine calm_doIf (fun _ => ?_) ?_
    | with_reducible refine calm_each (fun _ _ => ?_) ?_
    | dsimp only [id]
    | split
    | exact calm_eq (by with_reducible rfl))

/-! Machine/Grid.lean -/

theorem closeGrid_calm (s : State) : calm s (closeGrid s) := by
  unfold closeGrid
  try dsimp only
  repeat' (first
    | with_reducible exact calm_refl _
    | (with_reducible show calm _ (mFir _ _); with_reducible refine calm_trans ?_ (calm_of_keeps (mFir_keeps _ _) (by decide)))
    | (with_reducible show calm _ (mNzl _ _); with_reducible refine calm_trans ?_ (calm_of_keeps (mNzl_keeps _ _) (by decide)))
    | (with_reducible show calm _ (nzGridClosed _ _); with_reducible refine calm_trans ?_ (nzGridClosed_calm _ _))
    | (with_reducible show calm _ (setOvs _ _); with_reducible refine calm_trans ?_ (calm_of_keeps (setOvs_keeps _ _) (by decide)))
    | with_reducible refine calm_ite ?_ ?_
    | with_reducible refine calm_doIf (fun _ => ?_) ?_
    | with_reducible refine calm_each (fun _ _ => ?_) ?_
    | dsimp only [id]
    | split
    | exact calm_eq (by with_reducible rfl))

theorem finishLayers_calm (s : State) : calm s (finishLayers s) := by
  unfold finishLayers
  try dsimp only
  repeat' (first
    | with_reducible exact calm_refl _
    | (with_reducible show calm _ (mLayer _ _ _); with_reducible refine calm_trans ?_ (calm_of_keeps (mLayer_keeps _ _ _) (by decide)))
    | (with_reducible show calm _ (checkReady _); with_reducible refine calm_trans ?_ (calm_of_keeps (checkReady_keeps _) (by decide)))
    | (with_reducible show calm _ (strandSync _); with_reducible refine calm_trans ?_ (calm_of_keeps (strandSync_keeps _) (by decide)))
    | (with_reducible show calm _ (updateMargins _); with_reducible refine calm_trans ?_ (calm_of_keeps (updateMargins_keeps _) (by decide)))
    | (with_reducible show calm _ (closeGrid _); with_reducible refine calm_trans ?_ (closeGrid_calm _))
    | (with_reducible show calm _ (layerFinished _ _); with_reducible refine calm_trans ?_ (calm_of_keeps (layerFinished_keeps _ _) (by decide)))
    | with_reducible refine calm_ite ?_ ?_
    | with_reducible refine calm_doIf (fun _ => ?_) ?_
    | with_reducible refine calm_each (fun _ _ => ?_) ?_
    | dsimp only [id]
    | split
    | exact calm_eq (by with_reducible rfl))

theorem gatesMeetGrid_calm (ports : List Nat) (s : State) : calm s (gatesMeetGrid ports s) := by
  unfold gatesMeetGrid
  try dsimp only
  repeat' (first
    | with_reducible exact calm_refl _
    | (with_reducible show calm _ (mGat _ _ _); with_reducible refine calm_trans ?_ (calm_of_keeps (mGat_keeps _ _ _) (by decide)))
    | (with_reducible show calm _ (notice _ _ _); with_reducible refine calm_trans ?_ (notice_calm _ _ _))
    | with_reducible refine calm_ite ?_ ?_
    | with_reducible refine calm_doIf (fun _ => ?_) ?_
    | with_reducible refine calm_each (fun _ _ => ?_) ?_
    | dsimp only [id]
    | split
    | exact calm_eq (by with_reducible rfl))

theorem openGrid_calm (sx : Int) (id : Nat) (s : State) : calm s (openGrid sx id s) := by
  unfold openGrid
  try dsimp only
  repeat' (first
    | with_reducible exact calm_refl _
    | (with_reducible show calm _ (mFir _ _); with_reducible refine calm_trans ?_ (calm_of_keeps (mFir_keeps _ _) (by decide)))
    | (with_reducible show calm _ (mPort _ _ _); with_reducible refine calm_trans ?_ (calm_of_keeps (mPort_keeps _ _ _) (by decide)))
    | (with_reducible show calm _ (gatesMeetGrid _ _); with_reducible refine calm_trans ?_ (gatesMeetGrid_calm _ _))
    | with_reducible refine calm_ite ?_ ?_
    | with_reducible refine calm_doIf (fun _ => ?_) ?_
    | with_reducible refine calm_each (fun _ _ => ?_) ?_
    | dsimp only [id]
    | split
    | exact calm_eq (by with_reducible rfl))

theorem maskMissing_calm (l : Layer) (joining : Bool) (s : State) : calm s (maskMissing l joining s) := by
  unfold maskMissing
  try dsimp only
  repeat' (first
    | with_reducible exact calm_refl _
    | (with_reducible show calm _ (mNzl _ _); with_reducible refine calm_trans ?_ (calm_of_keeps (mNzl_keeps _ _) (by decide)))
    | (with_reducible show calm _ (raiseLim _ _ _ _ _ _); refine calm_trans ?_ (calm_raiseLim _ _ _ _ _ _ (by first | exact .inl rfl | exact .inr rfl | (split <;> first | exact .inl rfl | exact .inr rfl))))
    | (with_reducible show calm _ (portMask _ _ _); with_reducible refine calm_trans ?_ (portMask_calm _ _ _))
    | with_reducible refine calm_ite ?_ ?_
    | with_reducible refine calm_doIf (fun _ => ?_) ?_
    | with_reducible refine calm_each (fun _ _ => ?_) ?_
    | dsimp only [id]
    | split
    | exact calm_eq (by with_reducible rfl))

theorem reverseAtStart_calm (s : State) : calm s (reverseAtStart s) := by
  unfold reverseAtStart
  try dsimp only
  repeat' (first
    | with_reducible exact calm_refl _
    | (with_reducible show calm _ (notice _ _ _); with_reducible refine calm_trans ?_ (notice_calm _ _ _))
    | (with_reducible show calm _ (mLayer _ _ _); with_reducible refine calm_trans ?_ (calm_of_keeps (mLayer_keeps _ _ _) (by decide)))
    | with_reducible refine calm_ite ?_ ?_
    | with_reducible refine calm_doIf (fun _ => ?_) ?_
    | with_reducible refine calm_each (fun _ _ => ?_) ?_
    | dsimp only [id]
    | split
    | exact calm_eq (by with_reducible rfl))

theorem stopEnds_calm (s : State) : calm s (stopEnds s) := by
  unfold stopEnds
  try dsimp only
  repeat' (first
    | with_reducible exact calm_refl _
    | (with_reducible show calm _ (mTow _ _); with_reducible refine calm_trans ?_ (calm_of_keeps (mTow_keeps _ _) (by decide)))
    | (with_reducible show calm _ (mFir _ _); with_reducible refine calm_trans ?_ (calm_of_keeps (mFir_keeps _ _) (by decide)))
    | (with_reducible show calm _ (closeGrid _); with_reducible refine calm_trans ?_ (closeGrid_calm _))
    | with_reducible refine calm_ite ?_ ?_
    | with_reducible refine calm_doIf (fun _ => ?_) ?_
    | with_reducible refine calm_each (fun _ _ => ?_) ?_
    | dsimp only [id]
    | split
    | exact calm_eq (by with_reducible rfl))

theorem opAck_calm (s : State) : calm s (opAck s) := by
  unfold opAck
  try dsimp only
  repeat' (first
    | with_reducible exact calm_refl _
    | (with_reducible show calm _ (mErr _ _); refine calm_trans ?_ (calm_mErr _ _ (by first | exact fun _ _ h => h | exact fun _ _ h => (List.mem_filter.mp h).1)))
    | (with_reducible show calm _ (setDev _ _); with_reducible refine calm_trans ?_ (calm_of_keeps (setDev_keeps _ _) (by decide)))
    | (with_reducible show calm _ (strandSync _); with_reducible refine calm_trans ?_ (calm_of_keeps (strandSync_keeps _) (by decide)))
    | (with_reducible show calm _ (stopEnds _); with_reducible refine calm_trans ?_ (stopEnds_calm _))
    | with_reducible refine calm_ite ?_ ?_
    | with_reducible refine calm_doIf (fun _ => ?_) ?_
    | with_reducible refine calm_each (fun _ _ => ?_) ?_
    | dsimp only [id]
    | split
    | exact calm_eq (by with_reducible rfl))

theorem ctlApply_calm (c : Nat) (s : State) : calm s (ctlApply c s) := by
  unfold ctlApply
  try dsimp only
  repeat' (first
    | with_reducible exact calm_refl _
    | (with_reducible show calm _ (setDev _ _); with_reducible refine calm_trans ?_ (calm_of_keeps (setDev_keeps _ _) (by decide)))
    | (with_reducible show calm _ (opResume _); with_reducible refine calm_trans ?_ (calm_of_keeps (opResume_keeps _) (by decide)))
    | (with_reducible show calm _ (opAck _); with_reducible refine calm_trans ?_ (opAck_calm _))
    | with_reducible refine calm_ite ?_ ?_
    | with_reducible refine calm_doIf (fun _ => ?_) ?_
    | with_reducible refine calm_each (fun _ _ => ?_) ?_
    | dsimp only [id]
    | split
    | exact calm_eq (by with_reducible rfl))

theorem ctlAt_calm (c lc : Nat) (s : State) : calm s (ctlAt c lc s) := by
  unfold ctlAt
  try dsimp only
  repeat' (first
    | with_reducible exact calm_refl _
    | (with_reducible show calm _ (mPar _ _); with_reducible refine calm_trans ?_ (calm_of_keeps (mPar_keeps _ _) (by decide)))
    | (with_reducible show calm _ (ctlApply _ _); with_reducible refine calm_trans ?_ (ctlApply_calm _ _))
    | with_reducible refine calm_ite ?_ ?_
    | with_reducible refine calm_doIf (fun _ => ?_) ?_
    | with_reducible refine calm_each (fun _ _ => ?_) ?_
    | dsimp only [id]
    | split
    | exact calm_eq (by with_reducible rfl))

theorem ctlCommand_calm (c : Nat) (s : State) : calm s (ctlCommand c s) := by
  unfold ctlCommand
  try dsimp only
  repeat' (first
    | with_reducible exact calm_refl _
    | (with_reducible show calm _ (sendState _ _ _); with_reducible refine calm_trans ?_ (calm_of_keeps (sendState_keeps _ _ _) (by decide)))
    | (with_reducible show calm _ (ctlApply _ _); with_reducible refine calm_trans ?_ (ctlApply_calm _ _))
    | (with_reducible show calm _ (ctlAt _ _ _); with_reducible refine calm_trans ?_ (ctlAt_calm _ _ _))
    | with_reducible refine calm_ite ?_ ?_
    | with_reducible refine calm_doIf (fun _ => ?_) ?_
    | with_reducible refine calm_each (fun _ _ => ?_) ?_
    | dsimp only [id]
    | split
    | exact calm_eq (by with_reducible rfl))

theorem ctlDue_calm (lc : Nat) (s : State) : calm s (ctlDue lc s) := by
  unfold ctlDue
  try dsimp only
  repeat' (first
    | with_reducible exact calm_refl _
    | (with_reducible show calm _ (mPar _ _); with_reducible refine calm_trans ?_ (calm_of_keeps (mPar_keeps _ _) (by decide)))
    | (with_reducible show calm _ (ctlApply _ _); with_reducible refine calm_trans ?_ (ctlApply_calm _ _))
    | with_reducible refine calm_ite ?_ ?_
    | with_reducible refine calm_doIf (fun _ => ?_) ?_
    | with_reducible refine calm_each (fun _ _ => ?_) ?_
    | dsimp only [id]
    | split
    | exact calm_eq (by with_reducible rfl))

theorem ctlLeft_calm (s : State) : calm s (ctlLeft s) := by
  unfold ctlLeft
  try dsimp only
  repeat' (first
    | with_reducible exact calm_refl _
    | (with_reducible show calm _ (mPar _ _); with_reducible refine calm_trans ?_ (calm_of_keeps (mPar_keeps _ _) (by decide)))
    | (with_reducible show calm _ (ctlApply _ _); with_reducible refine calm_trans ?_ (ctlApply_calm _ _))
    | with_reducible refine calm_ite ?_ ?_
    | with_reducible refine calm_doIf (fun _ => ?_) ?_
    | with_reducible refine calm_each (fun _ _ => ?_) ?_
    | dsimp only [id]
    | split
    | exact calm_eq (by with_reducible rfl))

theorem spliceTry_calm (code : Nat) (s : State) : calm s (spliceTry code s) := by
  unfold spliceTry
  try dsimp only
  repeat' (first
    | with_reducible exact calm_refl _
    | (with_reducible show calm _ (mPar _ _); with_reducible refine calm_trans ?_ (calm_of_keeps (mPar_keeps _ _) (by decide)))
    | (with_reducible show calm _ (faultErr _ _ _); with_reducible refine calm_trans ?_ (faultErr_calm _ _ _))
    | with_reducible refine calm_ite ?_ ?_
    | with_reducible refine calm_doIf (fun _ => ?_) ?_
    | with_reducible refine calm_each (fun _ _ => ?_) ?_
    | dsimp only [id]
    | split
    | exact calm_eq (by with_reducible rfl))

theorem yieldDue_calm (lc : Nat) (s : State) : calm s (yieldDue lc s) := by
  unfold yieldDue
  try dsimp only
  repeat' (first
    | with_reducible exact calm_refl _
    | (with_reducible show calm _ (mPar _ _); with_reducible refine calm_trans ?_ (calm_of_keeps (mPar_keeps _ _) (by decide)))
    | (with_reducible show calm _ (spliceTry _ _); with_reducible refine calm_trans ?_ (spliceTry_calm _ _))
    | with_reducible refine calm_ite ?_ ?_
    | with_reducible refine calm_doIf (fun _ => ?_) ?_
    | with_reducible refine calm_each (fun _ _ => ?_) ?_
    | dsimp only [id]
    | split
    | exact calm_eq (by with_reducible rfl))

/-! Machine/Release.lean -/

theorem ovsCheck_calm (s : State) : calm s (ovsCheck s) := by
  unfold ovsCheck
  try dsimp only
  repeat' (first
    | with_reducible exact calm_refl _
    | (with_reducible show calm _ (notice _ _ _); with_reducible refine calm_trans ?_ (notice_calm _ _ _))
    | (with_reducible show calm _ (setOvs _ _); with_reducible refine calm_trans ?_ (calm_of_keeps (setOvs_keeps _ _) (by decide)))
    | with_reducible refine calm_ite ?_ ?_
    | with_reducible refine calm_doIf (fun _ => ?_) ?_
    | with_reducible refine calm_each (fun _ _ => ?_) ?_
    | dsimp only [id]
    | split
    | exact calm_eq (by with_reducible rfl))

theorem beforeRelease_calm (p k lc : Nat) (s : State) : calm s (beforeRelease p k lc s) := by
  unfold beforeRelease
  try dsimp only
  repeat' (first
    | with_reducible exact calm_refl _
    | (with_reducible show calm _ (mNzl _ _); with_reducible refine calm_trans ?_ (calm_of_keeps (mNzl_keeps _ _) (by decide)))
    | (with_reducible show calm _ (nzBefore _ _ _); with_reducible refine calm_trans ?_ (nzBefore_calm _ _ _))
    | (with_reducible show calm _ (portMask _ _ _); with_reducible refine calm_trans ?_ (portMask_calm _ _ _))
    | (with_reducible show calm _ (ctlDue _ _); with_reducible refine calm_trans ?_ (ctlDue_calm _ _))
    | (with_reducible show calm _ (yieldDue _ _); with_reducible refine calm_trans ?_ (yieldDue_calm _ _))
    | (with_reducible show calm _ (updLateCount _ _); with_reducible refine calm_trans ?_ (calm_of_keeps (updLateCount_keeps _ _) (by decide)))
    | with_reducible refine calm_ite ?_ ?_
    | with_reducible refine calm_doIf (fun _ => ?_) ?_
    | with_reducible refine calm_each (fun _ _ => ?_) ?_
    | dsimp only [id]
    | split
    | exact calm_eq (by with_reducible rfl))

theorem freezePort_calm (t p : Nat) (s : State) : calm s (freezePort t p s) := by
  unfold freezePort
  try dsimp only
  repeat' (first
    | with_reducible exact calm_refl _
    | (with_reducible show calm _ (mFir _ _); with_reducible refine calm_trans ?_ (calm_of_keeps (mFir_keeps _ _) (by decide)))
    | (with_reducible show calm _ (mPort _ _ _); with_reducible refine calm_trans ?_ (calm_of_keeps (mPort_keeps _ _ _) (by decide)))
    | (with_reducible show calm _ (faultErr _ _ _); with_reducible refine calm_trans ?_ (faultErr_calm _ _ _))
    | with_reducible refine calm_ite ?_ ?_
    | with_reducible refine calm_doIf (fun _ => ?_) ?_
    | with_reducible refine calm_each (fun _ _ => ?_) ?_
    | dsimp only [id]
    | split
    | exact calm_eq (by with_reducible rfl))

theorem portsGone_calm (s : State) : calm s (portsGone s) := by
  unfold portsGone
  try dsimp only
  repeat' (first
    | with_reducible exact calm_refl _
    | (with_reducible show calm _ (mPort _ _ _); with_reducible refine calm_trans ?_ (calm_of_keeps (mPort_keeps _ _ _) (by decide)))
    | (with_reducible show calm _ (nzGridClosed _ _); with_reducible refine calm_trans ?_ (nzGridClosed_calm _ _))
    | with_reducible refine calm_ite ?_ ?_
    | with_reducible refine calm_doIf (fun _ => ?_) ?_
    | with_reducible refine calm_each (fun _ _ => ?_) ?_
    | dsimp only [id]
    | split
    | exact calm_eq (by with_reducible rfl))

/-! Machine/Frames.lean -/

theorem laneOffer_calm (src tgt lc : Nat) (o : Offer) (s : State) : calm s (laneOffer src tgt lc o s) := by
  unfold laneOffer
  try dsimp only
  repeat' (first
    | with_reducible exact calm_refl _
    | (with_reducible show calm _ (mNzl _ _); with_reducible refine calm_trans ?_ (calm_of_keeps (mNzl_keeps _ _) (by decide)))
    | (with_reducible show calm _ (offerLost _ _ _ _ _); with_reducible refine calm_trans ?_ (offerLost_calm _ _ _ _ _))
    | with_reducible refine calm_ite ?_ ?_
    | with_reducible refine calm_doIf (fun _ => ?_) ?_
    | with_reducible refine calm_each (fun _ _ => ?_) ?_
    | dsimp only [id]
    | split
    | exact calm_eq (by with_reducible rfl))

theorem resolveOffers_calm (ok merge : Bool) (own layer : Nat) (line : Int) : ∀ (l : List (Nat × Nat)) (acc : Bool) (cur : Nat) (s : State),
    calm s (resolveOffers ok merge own layer line l acc cur s).2
  | [], _, _, s => calm_refl s
  | (src, c) :: r, acc, cur, s => by
    unfold resolveOffers
    split
    · exact calm_trans (offerLost_calm src layer line 1 s) (resolveOffers_calm ok merge own layer line r acc cur _)
    · split
      · exact calm_trans (offerLost_calm src layer line 2 s) (resolveOffers_calm ok merge own layer line r acc cur _)
      · split
        · exact calm_trans (offerLost_calm src layer line 3 s) (resolveOffers_calm ok merge own layer line r true cur _)
        · exact calm_trans (calm_of_keeps (mNzl_keeps _ s) (by decide)) (resolveOffers_calm ok merge own layer line r true _ _)

theorem mapNozzle_calm (t : Trig) (l : SegLine) (n : Nat) (s : State) : calm s (mapNozzle t l n s).2 := by
  unfold mapNozzle
  dsimp only
  split
  · exact calm_refl s
  · exact resolveOffers_calm _ _ _ _ _ _ _ _ s

theorem mapLine_calm (p k seg : Nat) (s : State) : calm s (mapLine p k seg s) := by
  unfold mapLine
  split
  · exact calm_refl s
  · split
    · exact calm_refl s
    · refine calm_trans ?_ (calm_of_keeps (mLine_keeps _ _ _ _ _) (by decide))
      refine calm_trans ?_ (calm_of_keeps (mNzl_keeps _ _) (by decide))
      refine calm_foldl2 (α := Nat) (β := List Nat) (acc := (([] : List Nat), _)) ?_ _ ?_
      · exact fun acc j => mapNozzle_calm _ _ _ acc.2
      refine calm_each (fun x u => ?_) (calm_refl s)
      split
      · exact laneOffer_calm _ _ _ _ u
      · exact calm_refl u
      · exact calm_of_keeps (orphanLine_keeps _ _ _ u) (by decide)

theorem mapNext_calm (s : State) : calm s (mapNext s) := by
  unfold mapNext
  try dsimp only
  repeat' (first
    | with_reducible exact calm_refl _
    | (with_reducible show calm _ (mFir _ _); with_reducible refine calm_trans ?_ (calm_of_keeps (mFir_keeps _ _) (by decide)))
    | (with_reducible show calm _ (stageTake _ _ _ _ _ _ _); with_reducible refine calm_trans ?_ (stageTake_calm (fun _ => ?_) _ _ _ _ _ _))
    | (with_reducible show calm _ (mapLine _ _ _ _); with_reducible refine calm_trans ?_ (mapLine_calm _ _ _ _))
    | with_reducible refine calm_ite ?_ ?_
    | with_reducible refine calm_doIf (fun _ => ?_) ?_
    | with_reducible refine calm_each (fun _ _ => ?_) ?_
    | dsimp only [id]
    | split
    | exact calm_eq (by with_reducible rfl))

theorem countDrops_calm {add : Nat → State → State} (h_add : ∀ a0 u, calm u (add a0 u)) (p : Nat) (codes : List Nat) (s : State) : calm s (countDrops p codes add s) := by
  unfold countDrops
  try dsimp only
  repeat' (first
    | with_reducible exact calm_refl _
    | (with_reducible show calm _ (add _ _); with_reducible refine calm_trans ?_ (h_add _ _))
    | with_reducible refine calm_ite ?_ ?_
    | with_reducible refine calm_doIf (fun _ => ?_) ?_
    | with_reducible refine calm_each (fun _ _ => ?_) ?_
    | dsimp only [id]
    | split
    | exact calm_eq (by with_reducible rfl))

theorem overlapLog_calm (a : List Nat) (s : State) : calm s (overlapLog a s) := by
  unfold overlapLog
  try dsimp only
  repeat' (first
    | with_reducible exact calm_refl _
    | (with_reducible show calm _ (notice _ _ _); with_reducible refine calm_trans ?_ (notice_calm _ _ _))
    | (with_reducible show calm _ (mLayer _ _ _); with_reducible refine calm_trans ?_ (calm_of_keeps (mLayer_keeps _ _ _) (by decide)))
    | with_reducible refine calm_ite ?_ ?_
    | with_reducible refine calm_doIf (fun _ => ?_) ?_
    | with_reducible refine calm_each (fun _ _ => ?_) ?_
    | dsimp only [id]
    | split
    | exact calm_eq (by with_reducible rfl))

theorem frameBuild_calm (p : Nat) (t : Trig) (s : State) : calm s (frameBuild p t s) := by
  unfold frameBuild
  try dsimp only
  repeat' (first
    | with_reducible exact calm_refl _
    | (with_reducible show calm _ (bankAddAt _ _ _ _ _); with_reducible refine calm_trans ?_ (calm_of_keeps (bankAddAt_keeps _ _ _ _ _) (by decide)))
    | (with_reducible show calm _ (mTrig _ _ _ _); with_reducible refine calm_trans ?_ (calm_of_keeps (mTrig_keeps _ _ _ _) (by decide)))
    | (with_reducible show calm _ (takeSsn _ _); with_reducible refine calm_trans ?_ (calm_of_keeps (takeSsn_keeps _ _) (by decide)))
    | (with_reducible show calm _ (dropRing _ _ _ _ _); with_reducible refine calm_trans ?_ (calm_of_keeps (dropRing_keeps _ _ _ _ _) (by decide)))
    | (with_reducible show calm _ (keepPayload _ _ _); with_reducible refine calm_trans ?_ (calm_of_keeps (keepPayload_keeps _ _ _) (by decide)))
    | (with_reducible show calm _ (countDrops _ _ _ _); with_reducible refine calm_trans ?_ (countDrops_calm (fun _ _ => ?_) _ _ _))
    | (with_reducible show calm _ (overlapLog _ _); with_reducible refine calm_trans ?_ (overlapLog_calm _ _))
    | with_reducible refine calm_ite ?_ ?_
    | with_reducible refine calm_doIf (fun _ => ?_) ?_
    | with_reducible refine calm_each (fun _ _ => ?_) ?_
    | dsimp only [id]
    | split
    | exact calm_eq (by with_reducible rfl))

theorem lineLate_calm (p layer : Nat) (s : State) : calm s (lineLate p layer s) := by
  unfold lineLate
  try dsimp only
  repeat' (first
    | with_reducible exact calm_refl _
    | (with_reducible show calm _ (mFir _ _); with_reducible refine calm_trans ?_ (calm_of_keeps (mFir_keeps _ _) (by decide)))
    | (with_reducible show calm _ (faultErr _ _ _); with_reducible refine calm_trans ?_ (faultErr_calm _ _ _))
    | (with_reducible show calm _ (mLayer _ _ _); with_reducible refine calm_trans ?_ (calm_of_keeps (mLayer_keeps _ _ _) (by decide)))
    | with_reducible refine calm_ite ?_ ?_
    | with_reducible refine calm_doIf (fun _ => ?_) ?_
    | with_reducible refine calm_each (fun _ _ => ?_) ?_
    | dsimp only [id]
    | split
    | exact calm_eq (by with_reducible rfl))

theorem frameSend_calm (p : Nat) (late : Bool) (t : Trig) (f : LineFrame) (s : State) : calm s (frameSend p late t f s) := by
  unfold frameSend
  try dsimp only
  repeat' (first
    | with_reducible exact calm_refl _
    | (with_reducible show calm _ (gulOut _ _ _); with_reducible refine calm_trans ?_ (calm_of_keeps (gulOut_keeps _ _ _) (by decide)))
    | (with_reducible show calm _ (mTrig _ _ _ _); with_reducible refine calm_trans ?_ (calm_of_keeps (mTrig_keeps _ _ _ _) (by decide)))
    | (with_reducible show calm _ (pruneTrigs _ _); with_reducible refine calm_trans ?_ (calm_of_keeps (pruneTrigs_keeps _ _) (by decide)))
    | (with_reducible show calm _ (gulDrain _ _); with_reducible refine calm_trans ?_ (calm_of_keeps (gulDrain_keeps _ _) (by decide)))
    | (with_reducible show calm _ (lineLate _ _ _); with_reducible refine calm_trans ?_ (lineLate_calm _ _ _))
    | with_reducible refine calm_ite ?_ ?_
    | with_reducible refine calm_doIf (fun _ => ?_) ?_
    | with_reducible refine calm_each (fun _ _ => ?_) ?_
    | dsimp only [id]
    | split
    | exact calm_eq (by with_reducible rfl))

theorem opNzlReq_calm (v : Word) (s : State) : calm s (opNzlReq v s) := by
  unfold opNzlReq
  try dsimp only
  repeat' (first
    | with_reducible exact calm_refl _
    | (with_reducible show calm _ (mNzl _ _); with_reducible refine calm_trans ?_ (calm_of_keeps (mNzl_keeps _ _) (by decide)))
    | (with_reducible show calm _ (nzSubmit _ _); with_reducible refine calm_trans ?_ (nzSubmit_calm _ _))
    | with_reducible refine calm_ite ?_ ?_
    | with_reducible refine calm_doIf (fun _ => ?_) ?_
    | with_reducible refine calm_each (fun _ _ => ?_) ?_
    | dsimp only [id]
    | split
    | exact calm_eq (by with_reducible rfl))

/-! Machine/Gates.lean -/

theorem opGateStart_calm (g : Nat) (s : State) : calm s (opGateStart g s) := by
  unfold opGateStart
  try dsimp only
  repeat' (first
    | with_reducible exact calm_refl _
    | (with_reducible show calm _ (mGat _ _ _); with_reducible refine calm_trans ?_ (calm_of_keeps (mGat_keeps _ _ _) (by decide)))
    | (with_reducible show calm _ (mCal _ _); with_reducible refine calm_trans ?_ (calm_of_keeps (mCal_keeps _ _) (by decide)))
    | (with_reducible show calm _ (notice _ _ _); with_reducible refine calm_trans ?_ (notice_calm _ _ _))
    | with_reducible refine calm_ite ?_ ?_
    | with_reducible refine calm_doIf (fun _ => ?_) ?_
    | with_reducible refine calm_each (fun _ _ => ?_) ?_
    | dsimp only [id]
    | split
    | exact calm_eq (by with_reducible rfl))

theorem opGateCmd_calm (g : Nat) (v : Word) (s : State) : calm s (opGateCmd g v s) := by
  unfold opGateCmd
  try dsimp only
  repeat' (first
    | with_reducible exact calm_refl _
    | (with_reducible show calm _ (opGateStart _ _); with_reducible refine calm_trans ?_ (opGateStart_calm _ _))
    | (with_reducible show calm _ (opGateAbort _ _); with_reducible refine calm_trans ?_ (calm_of_keeps (opGateAbort_keeps _ _) (by decide)))
    | with_reducible refine calm_ite ?_ ?_
    | with_reducible refine calm_doIf (fun _ => ?_) ?_
    | with_reducible refine calm_each (fun _ _ => ?_) ?_
    | dsimp only [id]
    | split
    | exact calm_eq (by with_reducible rfl))

theorem gatesMilestone_calm (i : Nat) (s : State) : calm s (gatesMilestone i s) := by
  unfold gatesMilestone
  try dsimp only
  repeat' (first
    | with_reducible exact calm_refl _
    | (with_reducible show calm _ (opGateStart _ _); with_reducible refine calm_trans ?_ (opGateStart_calm _ _))
    | with_reducible refine calm_ite ?_ ?_
    | with_reducible refine calm_doIf (fun _ => ?_) ?_
    | with_reducible refine calm_each (fun _ _ => ?_) ?_
    | dsimp only [id]
    | split
    | exact calm_eq (by with_reducible rfl))

theorem gateSlotEnd_calm (g : Nat) (noise : Bool) (s : State) : calm s (gateSlotEnd g noise s) := by
  unfold gateSlotEnd
  try dsimp only
  repeat' (first
    | with_reducible exact calm_refl _
    | (with_reducible show calm _ (mGat _ _ _); with_reducible refine calm_trans ?_ (calm_of_keeps (mGat_keeps _ _ _) (by decide)))
    | (with_reducible show calm _ (journal _ _ _ _ _ _ _); with_reducible refine calm_trans ?_ (calm_of_keeps (journal_keeps _ _ _ _ _ _ _) (by decide)))
    | (with_reducible show calm _ (nzGate _ _ _); with_reducible refine calm_trans ?_ (nzGate_calm _ _ _))
    | (with_reducible show calm _ (gateNextSlot _ _); with_reducible refine calm_trans ?_ (calm_of_keeps (gateNextSlot_keeps _ _) (by decide)))
    | with_reducible refine calm_ite ?_ ?_
    | with_reducible refine calm_doIf (fun _ => ?_) ?_
    | with_reducible refine calm_each (fun _ _ => ?_) ?_
    | dsimp only [id]
    | split
    | exact calm_eq (by with_reducible rfl))

/-! Machine/Gulist.lean -/

theorem linkFail_calm (p reason : Nat) (s : State) : calm s (linkFail p reason s) := by
  unfold linkFail
  try dsimp only
  repeat' (first
    | with_reducible exact calm_refl _
    | (with_reducible show calm _ (portLeaves _ _); with_reducible refine calm_trans ?_ (calm_of_keeps (portLeaves_keeps _ _) (by decide)))
    | (with_reducible show calm _ (mHead _ _ _); with_reducible refine calm_trans ?_ (calm_of_keeps (mHead_keeps _ _ _) (by decide)))
    | (with_reducible show calm _ (portRests _ _); with_reducible refine calm_trans ?_ (calm_of_keeps (portRests_keeps _ _) (by decide)))
    | (with_reducible show calm _ (raiseLim _ _ _ _ _ _); refine calm_trans ?_ (calm_raiseLim _ _ _ _ _ _ (by first | exact .inl rfl | exact .inr rfl | (split <;> first | exact .inl rfl | exact .inr rfl))))
    | with_reducible refine calm_ite ?_ ?_
    | with_reducible refine calm_doIf (fun _ => ?_) ?_
    | with_reducible refine calm_each (fun _ _ => ?_) ?_
    | dsimp only [id]
    | split
    | exact calm_eq (by with_reducible rfl))

theorem portLoss_calm (p reason : Nat) (s : State) : calm s (portLoss p reason s) := by
  unfold portLoss
  try dsimp only
  repeat' (first
    | with_reducible exact calm_refl _
    | (with_reducible show calm _ (raiseLim _ _ _ _ _ _); refine calm_trans ?_ (calm_raiseLim _ _ _ _ _ _ (by first | exact .inl rfl | exact .inr rfl | (split <;> first | exact .inl rfl | exact .inr rfl))))
    | (with_reducible show calm _ (portLeaves _ _); with_reducible refine calm_trans ?_ (calm_of_keeps (portLeaves_keeps _ _) (by decide)))
    | (with_reducible show calm _ (mHead _ _ _); with_reducible refine calm_trans ?_ (calm_of_keeps (mHead_keeps _ _ _) (by decide)))
    | (with_reducible show calm _ (portRests _ _); with_reducible refine calm_trans ?_ (calm_of_keeps (portRests_keeps _ _) (by decide)))
    | (with_reducible show calm _ (portMask _ _ _); with_reducible refine calm_trans ?_ (portMask_calm _ _ _))
    | with_reducible refine calm_ite ?_ ?_
    | with_reducible refine calm_doIf (fun _ => ?_) ?_
    | with_reducible refine calm_each (fun _ _ => ?_) ?_
    | dsimp only [id]
    | split
    | exact calm_eq (by with_reducible rfl))

theorem portActive_calm (p : Nat) (s : State) : calm s (portActive p s) := by
  unfold portActive
  try dsimp only
  repeat' (first
    | with_reducible exact calm_refl _
    | (with_reducible show calm _ (mNzl _ _); with_reducible refine calm_trans ?_ (calm_of_keeps (mNzl_keeps _ _) (by decide)))
    | (with_reducible show calm _ (mHead _ _ _); with_reducible refine calm_trans ?_ (calm_of_keeps (mHead_keeps _ _ _) (by decide)))
    | (with_reducible show calm _ (endFault _ _ _); with_reducible refine calm_trans ?_ (endFault_calm _ _ _))
    | (with_reducible show calm _ (portMask _ _ _); with_reducible refine calm_trans ?_ (portMask_calm _ _ _))
    | with_reducible refine calm_ite ?_ ?_
    | with_reducible refine calm_doIf (fun _ => ?_) ?_
    | with_reducible refine calm_each (fun _ _ => ?_) ?_
    | dsimp only [id]
    | split
    | exact calm_eq (by with_reducible rfl))

theorem capKnot_calm (s : State) : calm s (capKnot s) := by
  unfold capKnot
  try dsimp only
  repeat' (first
    | with_reducible exact calm_refl _
    | (with_reducible show calm _ (mHead _ _ _); with_reducible refine calm_trans ?_ (calm_of_keeps (mHead_keeps _ _ _) (by decide)))
    | (with_reducible show calm _ (raiseLim _ _ _ _ _ _); refine calm_trans ?_ (calm_raiseLim _ _ _ _ _ _ (by first | exact .inl rfl | exact .inr rfl | (split <;> first | exact .inl rfl | exact .inr rfl))))
    | (with_reducible show calm _ (portLoss _ _ _); with_reducible refine calm_trans ?_ (portLoss_calm _ _ _))
    | with_reducible refine calm_ite ?_ ?_
    | with_reducible refine calm_doIf (fun _ => ?_) ?_
    | with_reducible refine calm_each (fun _ _ => ?_) ?_
    | dsimp only [id]
    | split
    | exact calm_eq (by with_reducible rfl))

theorem exchangeAck_calm (p : Nat) (f : Bytes) (s : State) : calm s (exchangeAck p f s) := by
  unfold exchangeAck
  try dsimp only
  repeat' (first
    | with_reducible exact calm_refl _
    | (with_reducible show calm _ (mHead _ _ _); with_reducible refine calm_trans ?_ (calm_of_keeps (mHead_keeps _ _ _) (by decide)))
    | (with_reducible show calm _ (cfgSend _ _ _); with_reducible refine calm_trans ?_ (calm_of_keeps (cfgSend_keeps _ _ _) (by decide)))
    | (with_reducible show calm _ (linkFail _ _ _); with_reducible refine calm_trans ?_ (linkFail_calm _ _ _))
    | with_reducible refine calm_ite ?_ ?_
    | with_reducible refine calm_doIf (fun _ => ?_) ?_
    | with_reducible refine calm_each (fun _ _ => ?_) ?_
    | dsimp only [id]
    | split
    | exact calm_eq (by with_reducible rfl))

theorem gulAck_calm (p : Nat) (f : Bytes) (s : State) : calm s (gulAck p f s) := by
  unfold gulAck
  try dsimp only
  repeat' (first
    | with_reducible exact calm_refl _
    | (with_reducible show calm _ (gulDiscard _ _ _); with_reducible refine calm_trans ?_ (calm_of_keeps (gulDiscard_keeps _ _ _) (by decide)))
    | (with_reducible show calm _ (gulSeq _ _ _); with_reducible refine calm_trans ?_ (calm_of_keeps (gulSeq_keeps _ _ _) (by decide)))
    | (with_reducible show calm _ (exchangeAck _ _ _); with_reducible refine calm_trans ?_ (exchangeAck_calm _ _ _))
    | (with_reducible show calm _ (hostAck _ _ _ _); with_reducible refine calm_trans ?_ (calm_of_keeps (hostAck_keeps _ _ _ _) (by decide)))
    | with_reducible refine calm_ite ?_ ?_
    | with_reducible refine calm_doIf (fun _ => ?_) ?_
    | with_reducible refine calm_each (fun _ _ => ?_) ?_
    | dsimp only [id]
    | split
    | exact calm_eq (by with_reducible rfl))

theorem missLog_calm (p : Nat) (s : State) : calm s (missLog p s) := by
  unfold missLog
  try dsimp only
  repeat' (first
    | with_reducible exact calm_refl _
    | (with_reducible show calm _ (raiseLim _ _ _ _ _ _); refine calm_trans ?_ (calm_raiseLim _ _ _ _ _ _ (by first | exact .inl rfl | exact .inr rfl | (split <;> first | exact .inl rfl | exact .inr rfl))))
    | (with_reducible show calm _ (mLayer _ _ _); with_reducible refine calm_trans ?_ (calm_of_keeps (mLayer_keeps _ _ _) (by decide)))
    | with_reducible refine calm_ite ?_ ?_
    | with_reducible refine calm_doIf (fun _ => ?_) ?_
    | with_reducible refine calm_each (fun _ _ => ?_) ?_
    | dsimp only [id]
    | split
    | exact calm_eq (by with_reducible rfl))

theorem activeStatus_calm (p : Nat) (f : Bytes) (s : State) : calm s (activeStatus p f s) := by
  unfold activeStatus
  try dsimp only
  repeat' (first
    | with_reducible exact calm_refl _
    | (with_reducible show calm _ (mHead _ _ _); with_reducible refine calm_trans ?_ (calm_of_keeps (mHead_keeps _ _ _) (by decide)))
    | (with_reducible show calm _ (raiseLim _ _ _ _ _ _); refine calm_trans ?_ (calm_raiseLim _ _ _ _ _ _ (by first | exact .inl rfl | exact .inr rfl | (split <;> first | exact .inl rfl | exact .inr rfl))))
    | (with_reducible show calm _ (portLoss _ _ _); with_reducible refine calm_trans ?_ (portLoss_calm _ _ _))
    | (with_reducible show calm _ (missLog _ _); with_reducible refine calm_trans ?_ (missLog_calm _ _))
    | with_reducible refine calm_ite ?_ ?_
    | with_reducible refine calm_doIf (fun _ => ?_) ?_
    | with_reducible refine calm_each (fun _ _ => ?_) ?_
    | dsimp only [id]
    | split
    | exact calm_eq (by with_reducible rfl))

theorem gulStatus_calm (p : Nat) (f : Bytes) (s : State) : calm s (gulStatus p f s) := by
  unfold gulStatus
  try dsimp only
  repeat' (first
    | with_reducible exact calm_refl _
    | (with_reducible show calm _ (mHead _ _ _); with_reducible refine calm_trans ?_ (calm_of_keeps (mHead_keeps _ _ _) (by decide)))
    | (with_reducible show calm _ (linkFail _ _ _); with_reducible refine calm_trans ?_ (linkFail_calm _ _ _))
    | (with_reducible show calm _ (portActive _ _); with_reducible refine calm_trans ?_ (portActive_calm _ _))
    | (with_reducible show calm _ (gulSeq _ _ _); with_reducible refine calm_trans ?_ (calm_of_keeps (gulSeq_keeps _ _ _) (by decide)))
    | (with_reducible show calm _ (activeStatus _ _ _); with_reducible refine calm_trans ?_ (activeStatus_calm _ _ _))
    | with_reducible refine calm_ite ?_ ?_
    | with_reducible refine calm_doIf (fun _ => ?_) ?_
    | with_reducible refine calm_each (fun _ _ => ?_) ?_
    | dsimp only [id]
    | split
    | exact calm_eq (by with_reducible rfl))

theorem gulSense_calm (p : Nat) (f : Bytes) (s : State) : calm s (gulSense p f s) := by
  unfold gulSense
  try dsimp only
  repeat' (first
    | with_reducible exact calm_refl _
    | (with_reducible show calm _ (mHead _ _ _); with_reducible refine calm_trans ?_ (calm_of_keeps (mHead_keeps _ _ _) (by decide)))
    | (with_reducible show calm _ (raiseLim _ _ _ _ _ _); refine calm_trans ?_ (calm_raiseLim _ _ _ _ _ _ (by first | exact .inl rfl | exact .inr rfl | (split <;> first | exact .inl rfl | exact .inr rfl))))
    | (with_reducible show calm _ (gulSeq _ _ _); with_reducible refine calm_trans ?_ (calm_of_keeps (gulSeq_keeps _ _ _) (by decide)))
    | with_reducible refine calm_ite ?_ ?_
    | with_reducible refine calm_doIf (fun _ => ?_) ?_
    | with_reducible refine calm_each (fun _ _ => ?_) ?_
    | dsimp only [id]
    | split
    | exact calm_eq (by with_reducible rfl))

theorem hcfgRefuse_calm (s : State) : calm s (hcfgRefuse s) := by
  unfold hcfgRefuse
  try dsimp only
  repeat' (first
    | with_reducible exact calm_refl _
    | (with_reducible show calm _ (raiseLim _ _ _ _ _ _); refine calm_trans ?_ (calm_raiseLim _ _ _ _ _ _ (by first | exact .inl rfl | exact .inr rfl | (split <;> first | exact .inl rfl | exact .inr rfl))))
    | (with_reducible show calm _ (mGul _ _); with_reducible refine calm_trans ?_ (calm_of_keeps (mGul_keeps _ _) (by decide)))
    | with_reducible refine calm_ite ?_ ?_
    | with_reducible refine calm_doIf (fun _ => ?_) ?_
    | with_reducible refine calm_each (fun _ _ => ?_) ?_
    | dsimp only [id]
    | split
    | exact calm_eq (by with_reducible rfl))

theorem opGulClr_calm (p : Nat) (v : Word) (s : State) : calm s (opGulClr p v s) := by
  unfold opGulClr
  try dsimp only
  repeat' (first
    | with_reducible exact calm_refl _
    | (with_reducible show calm _ (mHead _ _ _); with_reducible refine calm_trans ?_ (calm_of_keeps (mHead_keeps _ _ _) (by decide)))
    | (with_reducible show calm _ (portLoss _ _ _); with_reducible refine calm_trans ?_ (portLoss_calm _ _ _))
    | with_reducible refine calm_ite ?_ ?_
    | with_reducible refine calm_doIf (fun _ => ?_) ?_
    | with_reducible refine calm_each (fun _ _ => ?_) ?_
    | dsimp only [id]
    | split
    | exact calm_eq (by with_reducible rfl))

/-! Machine/Calibration.lean -/

theorem calLimitLog_calm (was now_ : Bool) (s : State) : calm s (calLimitLog was now_ s) := by
  unfold calLimitLog
  try dsimp only
  repeat' (first
    | with_reducible exact calm_refl _
    | (with_reducible show calm _ (notice _ _ _); with_reducible refine calm_trans ?_ (notice_calm _ _ _))
    | with_reducible refine calm_ite ?_ ?_
    | with_reducible refine calm_doIf (fun _ => ?_) ?_
    | with_reducible refine calm_each (fun _ _ => ?_) ?_
    | dsimp only [id]
    | split
    | exact calm_eq (by with_reducible rfl))

theorem calEntry_calm (e : CalSet) (s : State) : calm s (calEntry e s) := by
  unfold calEntry
  try dsimp only
  repeat' (first
    | with_reducible exact calm_refl _
    | (with_reducible show calm _ (mFeg _ _ _); with_reducible refine calm_trans ?_ (calm_of_keeps (mFeg_keeps _ _ _) (by decide)))
    | (with_reducible show calm _ (mCmpCal _ _ _); with_reducible refine calm_trans ?_ (calm_of_keeps (mCmpCal_keeps _ _ _) (by decide)))
    | (with_reducible show calm _ (calLimitLog _ _ _); with_reducible refine calm_trans ?_ (calLimitLog_calm _ _ _))
    | (with_reducible show calm _ (mLane _ _ _); with_reducible refine calm_trans ?_ (calm_of_keeps (mLane_keeps _ _ _) (by decide)))
    | with_reducible refine calm_ite ?_ ?_
    | with_reducible refine calm_doIf (fun _ => ?_) ?_
    | with_reducible refine calm_each (fun _ _ => ?_) ?_
    | dsimp only [id]
    | split
    | exact calm_eq (by with_reducible rfl))

theorem sensorTick_calm (temps : List Int) (s : State) : calm s (sensorTick temps s) := by
  unfold sensorTick
  try dsimp only
  repeat' (first
    | with_reducible exact calm_refl _
    | (with_reducible show calm _ (mCal _ _); with_reducible refine calm_trans ?_ (calm_of_keeps (mCal_keeps _ _) (by decide)))
    | (with_reducible show calm _ (raiseLim _ _ _ _ _ _); refine calm_trans ?_ (calm_raiseLim _ _ _ _ _ _ (by first | exact .inl rfl | exact .inr rfl | (split <;> first | exact .inl rfl | exact .inr rfl))))
    | (with_reducible show calm _ (endFault _ _ _); with_reducible refine calm_trans ?_ (endFault_calm _ _ _))
    | with_reducible refine calm_ite ?_ ?_
    | with_reducible refine calm_doIf (fun _ => ?_) ?_
    | with_reducible refine calm_each (fun _ _ => ?_) ?_
    | dsimp only [id]
    | split
    | exact calm_eq (by with_reducible rfl))

theorem calTick_calm (s : State) : calm s (calTick s) := by
  unfold calTick
  try dsimp only
  repeat' (first
    | with_reducible exact calm_refl _
    | (with_reducible show calm _ (calEntry _ _); with_reducible refine calm_trans ?_ (calEntry_calm _ _))
    | with_reducible refine calm_ite ?_ ?_
    | with_reducible refine calm_doIf (fun _ => ?_) ?_
    | with_reducible refine calm_each (fun _ _ => ?_) ?_
    | dsimp only [id]
    | split
    | exact calm_eq (by with_reducible rfl))

theorem cmpDone_calm (c : Nat) (offs : List Int) (s : State) : calm s (cmpDone c offs s) := by
  unfold cmpDone
  try dsimp only
  repeat' (first
    | with_reducible exact calm_refl _
    | (with_reducible show calm _ (cmpAim _ _ _ _); with_reducible refine calm_trans ?_ (calm_of_keeps (cmpAim_keeps _ _ _ _) (by decide)))
    | (with_reducible show calm _ (faultErr _ _ _); with_reducible refine calm_trans ?_ (faultErr_calm _ _ _))
    | (with_reducible show calm _ (mCmpCal _ _ _); with_reducible refine calm_trans ?_ (calm_of_keeps (mCmpCal_keeps _ _ _) (by decide)))
    | with_reducible refine calm_ite ?_ ?_
    | with_reducible refine calm_doIf (fun _ => ?_) ?_
    | with_reducible refine calm_each (fun _ _ => ?_) ?_
    | dsimp only [id]
    | split
    | exact calm_eq (by with_reducible rfl))

/-! Machine/Firing.lean -/

theorem strikeNull_calm (p : Nat) (t : Trig) (s : State) : calm s (strikeNull p t s) := by
  unfold strikeNull
  try dsimp only
  repeat' (first
    | with_reducible exact calm_refl _
    | (with_reducible show calm _ (takeSsn _ _); with_reducible refine calm_trans ?_ (calm_of_keeps (takeSsn_keeps _ _) (by decide)))
    | (with_reducible show calm _ (gulOut _ _ _); with_reducible refine calm_trans ?_ (calm_of_keeps (gulOut_keeps _ _ _) (by decide)))
    | (with_reducible show calm _ (faultErr _ _ _); with_reducible refine calm_trans ?_ (faultErr_calm _ _ _))
    | (with_reducible show calm _ (mTrig _ _ _ _); with_reducible refine calm_trans ?_ (calm_of_keeps (mTrig_keeps _ _ _ _) (by decide)))
    | with_reducible refine calm_ite ?_ ?_
    | with_reducible refine calm_doIf (fun _ => ?_) ?_
    | with_reducible refine calm_each (fun _ _ => ?_) ?_
    | dsimp only [id]
    | split
    | exact calm_eq (by with_reducible rfl))

/-! Machine/Inspection.lean -/

theorem camNotice_calm (code c : Nat) (s : State) : calm s (camNotice code c s) := by
  unfold camNotice
  try dsimp only
  repeat' (first
    | with_reducible exact calm_refl _
    | (with_reducible show calm _ (raiseLim _ _ _ _ _ _); refine calm_trans ?_ (calm_raiseLim _ _ _ _ _ _ (by first | exact .inl rfl | exact .inr rfl | (split <;> first | exact .inl rfl | exact .inr rfl))))
    | with_reducible refine calm_ite ?_ ?_
    | with_reducible refine calm_doIf (fun _ => ?_) ?_
    | with_reducible refine calm_each (fun _ _ => ?_) ?_
    | dsimp only [id]
    | split
    | exact calm_eq (by with_reducible rfl))

theorem frameClose_calm (c : Nat) (s : State) : calm s (frameClose c s) := by
  unfold frameClose
  try dsimp only
  repeat' (first
    | with_reducible exact calm_refl _
    | (with_reducible show calm _ (mCtx _ _ _); with_reducible refine calm_trans ?_ (calm_of_keeps (mCtx_keeps _ _ _) (by decide)))
    | (with_reducible show calm _ (mFrame _ _ _ _); with_reducible refine calm_trans ?_ (calm_of_keeps (mFrame_keeps _ _ _ _) (by decide)))
    | (with_reducible show calm _ (camNotice _ _ _); with_reducible refine calm_trans ?_ (camNotice_calm _ _ _))
    | with_reducible refine calm_ite ?_ ?_
    | with_reducible refine calm_doIf (fun _ => ?_) ?_
    | with_reducible refine calm_each (fun _ _ => ?_) ?_
    | dsimp only [id]
    | split
    | exact calm_eq (by with_reducible rfl))

theorem camTrigger_calm (i : Nat) (ev : Int) (onPrint : Bool) (s : State) : calm s (camTrigger i ev onPrint s) := by
  unfold camTrigger
  try dsimp only
  repeat' (first
    | with_reducible exact calm_refl _
    | (with_reducible show calm _ (mCtx _ _ _); with_reducible refine calm_trans ?_ (calm_of_keeps (mCtx_keeps _ _ _) (by decide)))
    | (with_reducible show calm _ (camNotice _ _ _); with_reducible refine calm_trans ?_ (camNotice_calm _ _ _))
    | with_reducible refine calm_ite ?_ ?_
    | with_reducible refine calm_doIf (fun _ => ?_) ?_
    | with_reducible refine calm_each (fun _ _ => ?_) ?_
    | dsimp only [id]
    | split
    | exact calm_eq (by with_reducible rfl))

theorem frameOpen_calm (c : Nat) (csifn : Nat) (s : State) : calm s (frameOpen c csifn s) := by
  unfold frameOpen
  try dsimp only
  repeat' (first
    | with_reducible exact calm_refl _
    | (with_reducible show calm _ (mCtx _ _ _); with_reducible refine calm_trans ?_ (calm_of_keeps (mCtx_keeps _ _ _) (by decide)))
    | (with_reducible show calm _ (camNotice _ _ _); with_reducible refine calm_trans ?_ (camNotice_calm _ _ _))
    | (with_reducible show calm _ (frameClose _ _); with_reducible refine calm_trans ?_ (frameClose_calm _ _))
    | with_reducible refine calm_ite ?_ ?_
    | with_reducible refine calm_doIf (fun _ => ?_) ?_
    | with_reducible refine calm_each (fun _ _ => ?_) ?_
    | dsimp only [id]
    | split
    | exact calm_eq (by with_reducible rfl))

theorem stripeLost_calm (p c key : Nat) (s : State) : calm s (stripeLost p c key s) := by
  unfold stripeLost
  try dsimp only
  repeat' (first
    | with_reducible exact calm_refl _
    | (with_reducible show calm _ (mCam _ _ _); with_reducible refine calm_trans ?_ (calm_of_keeps (mCam_keeps _ _ _) (by decide)))
    | (with_reducible show calm _ (raiseLim _ _ _ _ _ _); refine calm_trans ?_ (calm_raiseLim _ _ _ _ _ _ (by first | exact .inl rfl | exact .inr rfl | (split <;> first | exact .inl rfl | exact .inr rfl))))
    | (with_reducible show calm _ (mFrame _ _ _ _); with_reducible refine calm_trans ?_ (calm_of_keeps (mFrame_keeps _ _ _ _) (by decide)))
    | with_reducible refine calm_ite ?_ ?_
    | with_reducible refine calm_doIf (fun _ => ?_) ?_
    | with_reducible refine calm_each (fun _ _ => ?_) ?_
    | dsimp only [id]
    | split
    | exact calm_eq (by with_reducible rfl))

theorem makeRoom_calm (p v n : Nat) : ∀ (k : Nat) (s : State), calm s (makeRoom p v n k s)
  | 0, s => calm_refl s
  | k + 1, s => by
    unfold makeRoom
    split
    · exact calm_refl s
    · split
      · exact calm_refl s
      · refine calm_trans ?_ (makeRoom_calm p v n k _)
        refine calm_trans ?_ (calm_of_keeps (ctxRest_keeps _ _) (by decide))
        refine calm_trans ?_ (stripeLost_calm _ _ _ _)
        exact calm_of_keeps (mCam_keeps _ _ s) (by decide)

theorem stripeAdmit_calm (x : CamStripe) (s : State) : calm s (stripeAdmit x s) := by
  unfold stripeAdmit
  try dsimp only
  repeat' (first
    | with_reducible exact calm_refl _
    | (with_reducible show calm _ (mCam _ _ _); with_reducible refine calm_trans ?_ (calm_of_keeps (mCam_keeps _ _ _) (by decide)))
    | (with_reducible show calm _ (stripeLost _ _ _ _); with_reducible refine calm_trans ?_ (stripeLost_calm _ _ _ _))
    | (with_reducible show calm _ (makeRoom _ _ _ _ _); with_reducible refine calm_trans ?_ (makeRoom_calm _ _ _ _ _))
    | with_reducible refine calm_ite ?_ ?_
    | with_reducible refine calm_doIf (fun _ => ?_) ?_
    | with_reducible refine calm_each (fun _ _ => ?_) ?_
    | dsimp only [id]
    | split
    | exact calm_eq (by with_reducible rfl))

theorem camLine_calm (c : Nat) (dt : Nat) (d : Bytes) (crcOk : Bool) (s : State) : calm s (camLine c dt d crcOk s) := by
  unfold camLine
  try dsimp only
  repeat' (first
    | with_reducible exact calm_refl _
    | (with_reducible show calm _ (camIgnore _ _); with_reducible refine calm_trans ?_ (calm_of_keeps (camIgnore_keeps _ _) (by decide)))
    | (with_reducible show calm _ (mCam _ _ _); with_reducible refine calm_trans ?_ (calm_of_keeps (mCam_keeps _ _ _) (by decide)))
    | (with_reducible show calm _ (camNotice _ _ _); with_reducible refine calm_trans ?_ (camNotice_calm _ _ _))
    | (with_reducible show calm _ (mFrame _ _ _ _); with_reducible refine calm_trans ?_ (calm_of_keeps (mFrame_keeps _ _ _ _) (by decide)))
    | (with_reducible show calm _ (stripeAdmit _ _); with_reducible refine calm_trans ?_ (stripeAdmit_calm _ _))
    | with_reducible refine calm_ite ?_ ?_
    | with_reducible refine calm_doIf (fun _ => ?_) ?_
    | with_reducible refine calm_each (fun _ _ => ?_) ?_
    | dsimp only [id]
    | split
    | exact calm_eq (by with_reducible rfl))

theorem recordPut_calm (c : Nat) (f : CamFrame) (s : State) : calm s (recordPut c f s) := by
  unfold recordPut
  try dsimp only
  repeat' (first
    | with_reducible exact calm_refl _
    | (with_reducible show calm _ (mCtx _ _ _); with_reducible refine calm_trans ?_ (calm_of_keeps (mCtx_keeps _ _ _) (by decide)))
    | (with_reducible show calm _ (bankPut _ _ _ _); with_reducible refine calm_trans ?_ (calm_of_keeps (bankPut_keeps _ _ _ _) (by decide)))
    | (with_reducible show calm _ (camNotice _ _ _); with_reducible refine calm_trans ?_ (camNotice_calm _ _ _))
    | with_reducible refine calm_ite ?_ ?_
    | with_reducible refine calm_doIf (fun _ => ?_) ?_
    | with_reducible refine calm_each (fun _ _ => ?_) ?_
    | dsimp only [id]
    | split
    | exact calm_eq (by with_reducible rfl))

theorem streakReport_calm (c key smax lc n : Nat) (s : State) : calm s (streakReport c key smax lc n s) := by
  unfold streakReport
  try dsimp only
  repeat' (first
    | with_reducible exact calm_refl _
    | (with_reducible show calm _ (camNotice _ _ _); with_reducible refine calm_trans ?_ (camNotice_calm _ _ _))
    | (with_reducible show calm _ (suppress _ _); with_reducible refine calm_trans ?_ (suppress_calm _ _))
    | (with_reducible show calm _ (mCtx _ _ _); with_reducible refine calm_trans ?_ (calm_of_keeps (mCtx_keeps _ _ _) (by decide)))
    | (with_reducible show calm _ (mFrame _ _ _ _); with_reducible refine calm_trans ?_ (calm_of_keeps (mFrame_keeps _ _ _ _) (by decide)))
    | (with_reducible show calm _ (nzSuspect _ _ _); with_reducible refine calm_trans ?_ (nzSuspect_calm _ _ _))
    | with_reducible refine calm_ite ?_ ?_
    | with_reducible refine calm_doIf (fun _ => ?_) ?_
    | with_reducible refine calm_each (fun _ _ => ?_) ?_
    | dsimp only [id]
    | split
    | exact calm_eq (by with_reducible rfl))

theorem streakColumn_calm (c : Nat) (f : CamFrame) (x : Nat) (s : State) : calm s (streakColumn c f x s) := by
  unfold streakColumn
  try dsimp only
  repeat' (first
    | with_reducible exact calm_refl _
    | (with_reducible show calm _ (camNotice _ _ _); with_reducible refine calm_trans ?_ (camNotice_calm _ _ _))
    | (with_reducible show calm _ (streakReport _ _ _ _ _ _); with_reducible refine calm_trans ?_ (streakReport_calm _ _ _ _ _ _))
    | with_reducible refine calm_ite ?_ ?_
    | with_reducible refine calm_doIf (fun _ => ?_) ?_
    | with_reducible refine calm_each (fun _ _ => ?_) ?_
    | dsimp only [id]
    | split
    | exact calm_eq (by with_reducible rfl))

theorem streakJudge_calm (c : Nat) (f : CamFrame) (x : Nat) (s : State) : calm s (streakJudge c f x s) := by
  unfold streakJudge
  try dsimp only
  repeat' (first
    | with_reducible exact calm_refl _
    | (with_reducible show calm _ (bankPut _ _ _ _); with_reducible refine calm_trans ?_ (calm_of_keeps (bankPut_keeps _ _ _ _) (by decide)))
    | (with_reducible show calm _ (streakColumn _ _ _ _); with_reducible refine calm_trans ?_ (streakColumn_calm _ _ _ _))
    | with_reducible refine calm_ite ?_ ?_
    | with_reducible refine calm_doIf (fun _ => ?_) ?_
    | with_reducible refine calm_each (fun _ _ => ?_) ?_
    | dsimp only [id]
    | split
    | exact calm_eq (by with_reducible rfl))

theorem streakRun_calm (c : Nat) (f : CamFrame) (s : State) : calm s (streakRun c f s) := by
  unfold streakRun
  try dsimp only
  repeat' (first
    | with_reducible exact calm_refl _
    | (with_reducible show calm _ (mFrame _ _ _ _); with_reducible refine calm_trans ?_ (calm_of_keeps (mFrame_keeps _ _ _ _) (by decide)))
    | (with_reducible show calm _ (streakJudge _ _ _ _); with_reducible refine calm_trans ?_ (streakJudge_calm _ _ _ _))
    | with_reducible refine calm_ite ?_ ?_
    | with_reducible refine calm_doIf (fun _ => ?_) ?_
    | with_reducible refine calm_each (fun _ _ => ?_) ?_
    | dsimp only [id]
    | split
    | exact calm_eq (by with_reducible rfl))

theorem camPacket_calm {f : State → State} (h_f : ∀  u, calm u (f  u)) (c : Nat) (s : State) : calm s (camPacket c f s) := by
  unfold camPacket
  try dsimp only
  repeat' (first
    | with_reducible exact calm_refl _
    | (with_reducible show calm _ (camIgnore _ _); with_reducible refine calm_trans ?_ (calm_of_keeps (camIgnore_keeps _ _) (by decide)))
    | (with_reducible show calm _ (f _); with_reducible refine calm_trans ?_ (h_f _))
    | with_reducible refine calm_ite ?_ ?_
    | with_reducible refine calm_doIf (fun _ => ?_) ?_
    | with_reducible refine calm_each (fun _ _ => ?_) ?_
    | dsimp only [id]
    | split
    | exact calm_eq (by with_reducible rfl))

/-! Machine/Axes.lean -/

theorem limitCheck_calm (a : Nat) (s : State) : calm s (limitCheck a s) := by
  unfold limitCheck
  try dsimp only
  repeat' (first
    | with_reducible exact calm_refl _
    | (with_reducible show calm _ (mAxs _ _ _); with_reducible refine calm_trans ?_ (calm_of_keeps (mAxs_keeps _ _ _) (by decide)))
    | (with_reducible show calm _ (notice _ _ _); with_reducible refine calm_trans ?_ (notice_calm _ _ _))
    | (with_reducible show calm _ (faultErr _ _ _); with_reducible refine calm_trans ?_ (faultErr_calm _ _ _))
    | (with_reducible show calm _ (axStat _ _ _); with_reducible refine calm_trans ?_ (calm_of_keeps (axStat_keeps _ _ _) (by decide)))
    | with_reducible refine calm_ite ?_ ?_
    | with_reducible refine calm_doIf (fun _ => ?_) ?_
    | with_reducible refine calm_each (fun _ _ => ?_) ?_
    | dsimp only [id]
    | split
    | exact calm_eq (by with_reducible rfl))

theorem axKnot_calm (a : Nat) (s : State) : calm s (axKnot a s) := by
  unfold axKnot
  try dsimp only
  repeat' (first
    | with_reducible exact calm_refl _
    | (with_reducible show calm _ (mAxs _ _ _); with_reducible refine calm_trans ?_ (calm_of_keeps (mAxs_keeps _ _ _) (by decide)))
    | (with_reducible show calm _ (notice _ _ _); with_reducible refine calm_trans ?_ (notice_calm _ _ _))
    | (with_reducible show calm _ (axStat _ _ _); with_reducible refine calm_trans ?_ (calm_of_keeps (axStat_keeps _ _ _) (by decide)))
    | (with_reducible show calm _ (axFollow _ _); with_reducible refine calm_trans ?_ (calm_of_keeps (axFollow_keeps _ _) (by decide)))
    | with_reducible refine calm_ite ?_ ?_
    | with_reducible refine calm_doIf (fun _ => ?_) ?_
    | with_reducible refine calm_each (fun _ _ => ?_) ?_
    | dsimp only [id]
    | split
    | exact calm_eq (by with_reducible rfl))

theorem stallTake_calm (a : Nat) (s : State) : calm s (stallTake a s) := by
  unfold stallTake
  try dsimp only
  repeat' (first
    | with_reducible exact calm_refl _
    | (with_reducible show calm _ (mAxs _ _ _); with_reducible refine calm_trans ?_ (calm_of_keeps (mAxs_keeps _ _ _) (by decide)))
    | (with_reducible show calm _ (faultErr _ _ _); with_reducible refine calm_trans ?_ (faultErr_calm _ _ _))
    | (with_reducible show calm _ (axStat _ _ _); with_reducible refine calm_trans ?_ (calm_of_keeps (axStat_keeps _ _ _) (by decide)))
    | (with_reducible show calm _ (toPosition _ _); with_reducible refine calm_trans ?_ (calm_of_keeps (toPosition_keeps _ _) (by decide)))
    | (with_reducible show calm _ (toTarget _ _ _); with_reducible refine calm_trans ?_ (calm_of_keeps (toTarget_keeps _ _ _) (by decide)))
    | with_reducible refine calm_ite ?_ ?_
    | with_reducible refine calm_doIf (fun _ => ?_) ?_
    | with_reducible refine calm_each (fun _ _ => ?_) ?_
    | dsimp only [id]
    | split
    | exact calm_eq (by with_reducible rfl))

theorem limitStep_calm (a : Nat) (g d : Int) (s : State) : calm s (limitStep a g d s) := by
  unfold limitStep
  try dsimp only
  repeat' (first
    | with_reducible exact calm_refl _
    | (with_reducible show calm _ (mAxs _ _ _); with_reducible refine calm_trans ?_ (calm_of_keeps (mAxs_keeps _ _ _) (by decide)))
    | (with_reducible show calm _ (faultErr _ _ _); with_reducible refine calm_trans ?_ (faultErr_calm _ _ _))
    | (with_reducible show calm _ (toPosition _ _); with_reducible refine calm_trans ?_ (calm_of_keeps (toPosition_keeps _ _) (by decide)))
    | (with_reducible show calm _ (toTarget _ _ _); with_reducible refine calm_trans ?_ (calm_of_keeps (toTarget_keeps _ _ _) (by decide)))
    | with_reducible refine calm_ite ?_ ?_
    | with_reducible refine calm_doIf (fun _ => ?_) ?_
    | with_reducible refine calm_each (fun _ _ => ?_) ?_
    | dsimp only [id]
    | split
    | exact calm_eq (by with_reducible rfl))

theorem profileStep_calm (a : Nat) (lo hi : Int) (s : State) : calm s (profileStep a lo hi s) := by
  unfold profileStep
  try dsimp only
  repeat' (first
    | with_reducible exact calm_refl _
    | (with_reducible show calm _ (mAxs _ _ _); with_reducible refine calm_trans ?_ (calm_of_keeps (mAxs_keeps _ _ _) (by decide)))
    | (with_reducible show calm _ (raiseLim _ _ _ _ _ _); refine calm_trans ?_ (calm_raiseLim _ _ _ _ _ _ (by first | exact .inl rfl | exact .inr rfl | (split <;> first | exact .inl rfl | exact .inr rfl))))
    | (with_reducible show calm _ (axStat _ _ _); with_reducible refine calm_trans ?_ (calm_of_keeps (axStat_keeps _ _ _) (by decide)))
    | with_reducible refine calm_ite ?_ ?_
    | with_reducible refine calm_doIf (fun _ => ?_) ?_
    | with_reducible refine calm_each (fun _ _ => ?_) ?_
    | dsimp only [id]
    | split
    | exact calm_eq (by with_reducible rfl))

theorem overcurrentTake_calm (a : Nat) (s : State) : calm s (overcurrentTake a s) := by
  unfold overcurrentTake
  try dsimp only
  repeat' (first
    | with_reducible exact calm_refl _
    | (with_reducible show calm _ (mAxs _ _ _); with_reducible refine calm_trans ?_ (calm_of_keeps (mAxs_keeps _ _ _) (by decide)))
    | (with_reducible show calm _ (setReg _ _ _); with_reducible refine calm_trans ?_ (calm_of_keeps (setReg_keeps _ _ _) (by decide)))
    | (with_reducible show calm _ (faultErr _ _ _); with_reducible refine calm_trans ?_ (faultErr_calm _ _ _))
    | (with_reducible show calm _ (axStat _ _ _); with_reducible refine calm_trans ?_ (calm_of_keeps (axStat_keeps _ _ _) (by decide)))
    | (with_reducible show calm _ (mPhase _ _ _ _); with_reducible refine calm_trans ?_ (calm_of_keeps (mPhase_keeps _ _ _ _) (by decide)))
    | (with_reducible show calm _ (bridgeTo _ _ _ _); with_reducible refine calm_trans ?_ (calm_of_keeps (bridgeTo_keeps _ _ _ _) (by decide)))
    | with_reducible refine calm_ite ?_ ?_
    | with_reducible refine calm_doIf (fun _ => ?_) ?_
    | with_reducible refine calm_each (fun _ _ => ?_) ?_
    | dsimp only [id]
    | split
    | exact calm_eq (by with_reducible rfl))

theorem hardLimitTake_calm (a : Nat) (hi : Bool) (s : State) : calm s (hardLimitTake a hi s) := by
  unfold hardLimitTake
  try dsimp only
  repeat' (first
    | with_reducible exact calm_refl _
    | (with_reducible show calm _ (mAxs _ _ _); with_reducible refine calm_trans ?_ (calm_of_keeps (mAxs_keeps _ _ _) (by decide)))
    | (with_reducible show calm _ (faultErr _ _ _); with_reducible refine calm_trans ?_ (faultErr_calm _ _ _))
    | (with_reducible show calm _ (axStat _ _ _); with_reducible refine calm_trans ?_ (calm_of_keeps (axStat_keeps _ _ _) (by decide)))
    | (with_reducible show calm _ (toPosition _ _); with_reducible refine calm_trans ?_ (calm_of_keeps (toPosition_keeps _ _) (by decide)))
    | with_reducible refine calm_ite ?_ ?_
    | with_reducible refine calm_doIf (fun _ => ?_) ?_
    | with_reducible refine calm_each (fun _ _ => ?_) ?_
    | dsimp only [id]
    | split
    | exact calm_eq (by with_reducible rfl))

/-! Machine/Lamps.lean -/

theorem swapRequest_calm (s : State) : calm s (swapRequest s) := by
  unfold swapRequest
  try dsimp only
  repeat' (first
    | with_reducible exact calm_refl _
    | (with_reducible show calm _ (mLmp _ _); with_reducible refine calm_trans ?_ (calm_of_keeps (mLmp_keeps _ _) (by decide)))
    | (with_reducible show calm _ (raiseLim _ _ _ _ _ _); refine calm_trans ?_ (calm_raiseLim _ _ _ _ _ _ (by first | exact .inl rfl | exact .inr rfl | (split <;> first | exact .inl rfl | exact .inr rfl))))
    | with_reducible refine calm_ite ?_ ?_
    | with_reducible refine calm_doIf (fun _ => ?_) ?_
    | with_reducible refine calm_each (fun _ _ => ?_) ?_
    | dsimp only [id]
    | split
    | exact calm_eq (by with_reducible rfl))

theorem lampMilestone_calm (i : Nat) (s : State) : calm s (lampMilestone i s) := by
  unfold lampMilestone
  try dsimp only
  repeat' (first
    | with_reducible exact calm_refl _
    | (with_reducible show calm _ (swapRequest _); with_reducible refine calm_trans ?_ (swapRequest_calm _))
    | with_reducible refine calm_ite ?_ ?_
    | with_reducible refine calm_doIf (fun _ => ?_) ?_
    | with_reducible refine calm_each (fun _ _ => ?_) ?_
    | dsimp only [id]
    | split
    | exact calm_eq (by with_reducible rfl))

theorem lbusDue_calm (n : Nat) (s : State) : calm s (lbusDue n s) := by
  unfold lbusDue
  try dsimp only
  repeat' (first
    | with_reducible exact calm_refl _
    | (with_reducible show calm _ (mLmp _ _); with_reducible refine calm_trans ?_ (calm_of_keeps (mLmp_keeps _ _) (by decide)))
    | (with_reducible show calm _ (raiseLim _ _ _ _ _ _); refine calm_trans ?_ (calm_raiseLim _ _ _ _ _ _ (by first | exact .inl rfl | exact .inr rfl | (split <;> first | exact .inl rfl | exact .inr rfl))))
    | (with_reducible show calm _ (mChain _ _ _); with_reducible refine calm_trans ?_ (calm_of_keeps (mChain_keeps _ _ _) (by decide)))
    | with_reducible refine calm_ite ?_ ?_
    | with_reducible refine calm_doIf (fun _ => ?_) ?_
    | with_reducible refine calm_each (fun _ _ => ?_) ?_
    | dsimp only [id]
    | split
    | exact calm_eq (by with_reducible rfl))

theorem scanStart_calm (s : State) : calm s (scanStart s) := by
  unfold scanStart
  try dsimp only
  repeat' (first
    | with_reducible exact calm_refl _
    | (with_reducible show calm _ (mLmp _ _); with_reducible refine calm_trans ?_ (calm_of_keeps (mLmp_keeps _ _) (by decide)))
    | (with_reducible show calm _ (emit _ _); with_reducible refine calm_trans ?_ (calm_of_keeps (emit_keeps _ _) (by decide)))
    | (with_reducible show calm _ (swapRequest _); with_reducible refine calm_trans ?_ (swapRequest_calm _))
    | (with_reducible show calm _ (lbusGo _); with_reducible refine calm_trans ?_ (calm_of_keeps (lbusGo_keeps _) (by decide)))
    | (with_reducible show calm _ (lbusDue _ _); with_reducible refine calm_trans ?_ (lbusDue_calm _ _))
    | (with_reducible show calm _ (cfpRecompute _); with_reducible refine calm_trans ?_ (calm_of_keeps (cfpRecompute_keeps _) (by decide)))
    | (with_reducible show calm _ (lampSwap _); with_reducible refine calm_trans ?_ (calm_of_keeps (lampSwap_keeps _) (by decide)))
    | with_reducible refine calm_ite ?_ ?_
    | with_reducible refine calm_doIf (fun _ => ?_) ?_
    | with_reducible refine calm_each (fun _ _ => ?_) ?_
    | dsimp only [id]
    | split
    | exact calm_eq (by with_reducible rfl))

theorem lbusEcho_calm (n : Nat) (ret : Option (Nat × Bytes)) (s : State) : calm s (lbusEcho n ret s) := by
  unfold lbusEcho
  try dsimp only
  repeat' (first
    | with_reducible exact calm_refl _
    | (with_reducible show calm _ (mChain _ _ _); with_reducible refine calm_trans ?_ (calm_of_keeps (mChain_keeps _ _ _) (by decide)))
    | (with_reducible show calm _ (lbusGo _); with_reducible refine calm_trans ?_ (calm_of_keeps (lbusGo_keeps _) (by decide)))
    | (with_reducible show calm _ (faultErr _ _ _); with_reducible refine calm_trans ?_ (faultErr_calm _ _ _))
    | with_reducible refine calm_ite ?_ ?_
    | with_reducible refine calm_doIf (fun _ => ?_) ?_
    | with_reducible refine calm_each (fun _ _ => ?_) ?_
    | dsimp only [id]
    | split
    | exact calm_eq (by with_reducible rfl))

theorem opLmpCmd_calm (v : Word) (s : State) : calm s (opLmpCmd v s) := by
  unfold opLmpCmd
  try dsimp only
  repeat' (first
    | with_reducible exact calm_refl _
    | (with_reducible show calm _ (swapRequest _); with_reducible refine calm_trans ?_ (swapRequest_calm _))
    | with_reducible refine calm_ite ?_ ?_
    | with_reducible refine calm_doIf (fun _ => ?_) ?_
    | with_reducible refine calm_each (fun _ _ => ?_) ?_
    | dsimp only [id]
    | split
    | exact calm_eq (by with_reducible rfl))

/-! Machine/Knot.lean -/

theorem knotSpools_calm (s : State) : calm s (knotSpools s) := by
  unfold knotSpools
  try dsimp only
  repeat' (first
    | with_reducible exact calm_refl _
    | (with_reducible show calm _ (notice _ _ _); with_reducible refine calm_trans ?_ (notice_calm _ _ _))
    | (with_reducible show calm _ (applySched _ _); with_reducible refine calm_trans ?_ (calm_of_keeps (applySched_keeps _ _) (by decide)))
    | with_reducible refine calm_ite ?_ ?_
    | with_reducible refine calm_doIf (fun _ => ?_) ?_
    | with_reducible refine calm_each (fun _ _ => ?_) ?_
    | dsimp only [id]
    | split
    | exact calm_eq (by with_reducible rfl))

theorem parDiverge_calm (s : State) : calm s (parDiverge s) := by
  unfold parDiverge
  try dsimp only
  repeat' (first
    | with_reducible exact calm_refl _
    | (with_reducible show calm _ (mPar _ _); with_reducible refine calm_trans ?_ (calm_of_keeps (mPar_keeps _ _) (by decide)))
    | (with_reducible show calm _ (faultErr _ _ _); with_reducible refine calm_trans ?_ (faultErr_calm _ _ _))
    | with_reducible refine calm_ite ?_ ?_
    | with_reducible refine calm_doIf (fun _ => ?_) ?_
    | with_reducible refine calm_each (fun _ _ => ?_) ?_
    | dsimp only [id]
    | split
    | exact calm_eq (by with_reducible rfl))

theorem knotPair_calm (s : State) : calm s (knotPair s) := by
  unfold knotPair
  try dsimp only
  repeat' (first
    | with_reducible exact calm_refl _
    | (with_reducible show calm _ (mPar _ _); with_reducible refine calm_trans ?_ (calm_of_keeps (mPar_keeps _ _) (by decide)))
    | (with_reducible show calm _ (tetherSend _ _ _); with_reducible refine calm_trans ?_ (calm_of_keeps (tetherSend_keeps _ _ _) (by decide)))
    | (with_reducible show calm _ (parDiverge _); with_reducible refine calm_trans ?_ (parDiverge_calm _))
    | with_reducible refine calm_ite ?_ ?_
    | with_reducible refine calm_doIf (fun _ => ?_) ?_
    | with_reducible refine calm_each (fun _ _ => ?_) ?_
    | dsimp only [id]
    | split
    | exact calm_eq (by with_reducible rfl))

theorem knotAwait_calm (rc : Int) (s : State) : calm s (knotAwait rc s) := by
  unfold knotAwait
  try dsimp only
  repeat' (first
    | with_reducible exact calm_refl _
    | (with_reducible show calm _ (mSys _ _); with_reducible refine calm_trans ?_ (calm_of_keeps (mSys_keeps _ _) (by decide)))
    | (with_reducible show calm _ (notice _ _ _); with_reducible refine calm_trans ?_ (notice_calm _ _ _))
    | (with_reducible show calm _ (knotReach _); with_reducible refine calm_trans ?_ (calm_of_keeps (knotReach_keeps _) (by decide)))
    | with_reducible refine calm_ite ?_ ?_
    | with_reducible refine calm_doIf (fun _ => ?_) ?_
    | with_reducible refine calm_each (fun _ _ => ?_) ?_
    | dsimp only [id]
    | split
    | exact calm_eq (by with_reducible rfl))

theorem knotNow_calm (s : State) : calm s (knotNow s) := by
  unfold knotNow
  try dsimp only
  repeat' (first
    | with_reducible exact calm_refl _
    | (with_reducible show calm _ (mSys _ _); with_reducible refine calm_trans ?_ (calm_of_keeps (mSys_keeps _ _) (by decide)))
    | (with_reducible show calm _ (sendKnotReq _ _ _ _); with_reducible refine calm_trans ?_ (calm_of_keeps (sendKnotReq_keeps _ _ _ _) (by decide)))
    | (with_reducible show calm _ (knotReach _); with_reducible refine calm_trans ?_ (calm_of_keeps (knotReach_keeps _) (by decide)))
    | (with_reducible show calm _ (knotAwait _ _); with_reducible refine calm_trans ?_ (knotAwait_calm _ _))
    | with_reducible refine calm_ite ?_ ?_
    | with_reducible refine calm_doIf (fun _ => ?_) ?_
    | with_reducible refine calm_each (fun _ _ => ?_) ?_
    | dsimp only [id]
    | split
    | exact calm_eq (by with_reducible rfl))

theorem knotMs_calm (i : Nat) (s : State) : calm s (knotMs i s) := by
  unfold knotMs
  try dsimp only
  repeat' (first
    | with_reducible exact calm_refl _
    | (with_reducible show calm _ (mSys _ _); with_reducible refine calm_trans ?_ (calm_of_keeps (mSys_keeps _ _) (by decide)))
    | (with_reducible show calm _ (notice _ _ _); with_reducible refine calm_trans ?_ (notice_calm _ _ _))
    | (with_reducible show calm _ (sendKnotReq _ _ _ _); with_reducible refine calm_trans ?_ (calm_of_keeps (sendKnotReq_keeps _ _ _ _) (by decide)))
    | with_reducible refine calm_ite ?_ ?_
    | with_reducible refine calm_doIf (fun _ => ?_) ?_
    | with_reducible refine calm_each (fun _ _ => ?_) ?_
    | dsimp only [id]
    | split
    | exact calm_eq (by with_reducible rfl))

theorem opKnot_calm (v : Word) (s : State) : calm s (opKnot v s).1 := by
  unfold opKnot
  try dsimp only
  repeat' (first
    | with_reducible exact calm_refl _
    | (with_reducible show calm _ (notice _ _ _); with_reducible refine calm_trans ?_ (notice_calm _ _ _))
    | (with_reducible show calm _ (sendKnotReq _ _ _ _); with_reducible refine calm_trans ?_ (calm_of_keeps (sendKnotReq_keeps _ _ _ _) (by decide)))
    | (with_reducible show calm _ (knotWithdraw _); with_reducible refine calm_trans ?_ (calm_of_keeps (knotWithdraw_keeps _) (by decide)))
    | (with_reducible show calm _ (knotAwait _ _); with_reducible refine calm_trans ?_ (knotAwait_calm _ _))
    | (with_reducible show calm _ (knotNow _); with_reducible refine calm_trans ?_ (knotNow_calm _))
    | (with_reducible show calm _ (knotMs _ _); with_reducible refine calm_trans ?_ (knotMs_calm _ _))
    | with_reducible refine calm_ite ?_ ?_
    | with_reducible refine calm_doIf (fun _ => ?_) ?_
    | with_reducible refine calm_each (fun _ _ => ?_) ?_
    | dsimp only [id]
    | split
    | exact calm_eq (by with_reducible rfl))

theorem msRearm_calm (i : Nat) (rev : Bool) (s : State) : calm s (msRearm i rev s) := by
  unfold msRearm
  try dsimp only
  repeat' (first
    | with_reducible exact calm_refl _
    | (with_reducible show calm _ (mMs _ _ _); with_reducible refine calm_trans ?_ (calm_of_keeps (mMs_keeps _ _ _) (by decide)))
    | (with_reducible show calm _ (notice _ _ _); with_reducible refine calm_trans ?_ (notice_calm _ _ _))
    | with_reducible refine calm_ite ?_ ?_
    | with_reducible refine calm_doIf (fun _ => ?_) ?_
    | with_reducible refine calm_each (fun _ _ => ?_) ?_
    | dsimp only [id]
    | split
    | exact calm_eq (by with_reducible rfl))

theorem msForeign_calm (i : Nat) (s : State) : calm s (msForeign i s) := by
  unfold msForeign
  try dsimp only
  repeat' (first
    | with_reducible exact calm_refl _
    | (with_reducible show calm _ (notice _ _ _); with_reducible refine calm_trans ?_ (notice_calm _ _ _))
    | (with_reducible show calm _ (knotWithdraw _); with_reducible refine calm_trans ?_ (calm_of_keeps (knotWithdraw_keeps _) (by decide)))
    | with_reducible refine calm_ite ?_ ?_
    | with_reducible refine calm_doIf (fun _ => ?_) ?_
    | with_reducible refine calm_each (fun _ _ => ?_) ?_
    | dsimp only [id]
    | split
    | exact calm_eq (by with_reducible rfl))

/-! Machine/Network.lean -/

theorem portUp_calm (np : Nat) (s : State) : calm s (portUp np s) := by
  unfold portUp
  try dsimp only
  repeat' (first
    | with_reducible exact calm_refl _
    | (with_reducible show calm _ (mNet _ _ _); with_reducible refine calm_trans ?_ (calm_of_keeps (mNet_keeps _ _ _) (by decide)))
    | (with_reducible show calm _ (sendNeigh _ _ _ _ _); with_reducible refine calm_trans ?_ (calm_of_keeps (sendNeigh_keeps _ _ _ _ _) (by decide)))
    | (with_reducible show calm _ (endFault _ _ _); with_reducible refine calm_trans ?_ (endFault_calm _ _ _))
    | (with_reducible show calm _ (notice _ _ _); with_reducible refine calm_trans ?_ (notice_calm _ _ _))
    | with_reducible refine calm_ite ?_ ?_
    | with_reducible refine calm_doIf (fun _ => ?_) ?_
    | with_reducible refine calm_each (fun _ _ => ?_) ?_
    | dsimp only [id]
    | split
    | exact calm_eq (by with_reducible rfl))

theorem portDown_calm (np : Nat) (s : State) : calm s (portDown np s) := by
  unfold portDown
  try dsimp only
  repeat' (first
    | with_reducible exact calm_refl _
    | (with_reducible show calm _ (mNet _ _ _); with_reducible refine calm_trans ?_ (calm_of_keeps (mNet_keeps _ _ _) (by decide)))
    | (with_reducible show calm _ (notice _ _ _); with_reducible refine calm_trans ?_ (notice_calm _ _ _))
    | (with_reducible show calm _ (faultErr _ _ _); with_reducible refine calm_trans ?_ (faultErr_calm _ _ _))
    | with_reducible refine calm_ite ?_ ?_
    | with_reducible refine calm_doIf (fun _ => ?_) ?_
    | with_reducible refine calm_each (fun _ _ => ?_) ?_
    | dsimp only [id]
    | split
    | exact calm_eq (by with_reducible rfl))

/-! Machine/Ptp.lean -/

theorem setServo_calm (d : Nat) (v : Servo) (s : State) : calm s (setServo d v s) := by
  unfold setServo
  try dsimp only
  repeat' (first
    | with_reducible exact calm_refl _
    | (with_reducible show calm _ (mDom _ _ _); with_reducible refine calm_trans ?_ (calm_of_keeps (mDom_keeps _ _ _) (by decide)))
    | (with_reducible show calm _ (notice _ _ _); with_reducible refine calm_trans ?_ (notice_calm _ _ _))
    | (with_reducible show calm _ (faultErr _ _ _); with_reducible refine calm_trans ?_ (faultErr_calm _ _ _))
    | (with_reducible show calm _ (subRecord _ _ _); with_reducible refine calm_trans ?_ (calm_of_keeps (subRecord_keeps _ _ _) (by decide)))
    | (with_reducible show calm _ (endFault _ _ _); with_reducible refine calm_trans ?_ (endFault_calm _ _ _))
    | (with_reducible show calm _ (servoAdj _ _ _); with_reducible refine calm_trans ?_ (calm_of_keeps (servoAdj_keeps _ _ _) (by decide)))
    | with_reducible refine calm_ite ?_ ?_
    | with_reducible refine calm_doIf (fun _ => ?_) ?_
    | with_reducible refine calm_each (fun _ _ => ?_) ?_
    | dsimp only [id]
    | split
    | exact calm_eq (by with_reducible rfl))

theorem selectMaster_calm (d : Nat) (s : State) : calm s (selectMaster d s) := by
  unfold selectMaster
  try dsimp only
  repeat' (first
    | with_reducible exact calm_refl _
    | (with_reducible show calm _ (mDom _ _ _); with_reducible refine calm_trans ?_ (calm_of_keeps (mDom_keeps _ _ _) (by decide)))
    | (with_reducible show calm _ (notice _ _ _); with_reducible refine calm_trans ?_ (notice_calm _ _ _))
    | (with_reducible show calm _ (setServo _ _ _); with_reducible refine calm_trans ?_ (setServo_calm _ _ _))
    | with_reducible refine calm_ite ?_ ?_
    | with_reducible refine calm_doIf (fun _ => ?_) ?_
    | with_reducible refine calm_each (fun _ _ => ?_) ?_
    | dsimp only [id]
    | split
    | exact calm_eq (by with_reducible rfl))

theorem announceRx_calm (dm np : Nat) (d : Bytes) (s : State) : calm s (announceRx dm np d s) := by
  unfold announceRx
  try dsimp only
  repeat' (first
    | with_reducible exact calm_refl _
    | (with_reducible show calm _ (mDom _ _ _); with_reducible refine calm_trans ?_ (calm_of_keeps (mDom_keeps _ _ _) (by decide)))
    | (with_reducible show calm _ (selectMaster _ _); with_reducible refine calm_trans ?_ (selectMaster_calm _ _))
    | with_reducible refine calm_ite ?_ ?_
    | with_reducible refine calm_doIf (fun _ => ?_) ?_
    | with_reducible refine calm_each (fun _ _ => ?_) ?_
    | dsimp only [id]
    | split
    | exact calm_eq (by with_reducible rfl))

theorem lockCount_calm (dm : Nat) (o : Int) (s : State) : calm s (lockCount dm o s) := by
  unfold lockCount
  try dsimp only
  repeat' (first
    | with_reducible exact calm_refl _
    | (with_reducible show calm _ (mDom _ _ _); with_reducible refine calm_trans ?_ (calm_of_keeps (mDom_keeps _ _ _) (by decide)))
    | (with_reducible show calm _ (setServo _ _ _); with_reducible refine calm_trans ?_ (setServo_calm _ _ _))
    | with_reducible refine calm_ite ?_ ?_
    | with_reducible refine calm_doIf (fun _ => ?_) ?_
    | with_reducible refine calm_each (fun _ _ => ?_) ?_
    | dsimp only [id]
    | split
    | exact calm_eq (by with_reducible rfl))

theorem syncUse_calm (dm np : Nat) (t1 t2 c l : Int) (s : State) : calm s (syncUse dm np t1 t2 c l s) := by
  unfold syncUse
  try dsimp only
  repeat' (first
    | with_reducible exact calm_refl _
    | (with_reducible show calm _ (mDom _ _ _); with_reducible refine calm_trans ?_ (calm_of_keeps (mDom_keeps _ _ _) (by decide)))
    | (with_reducible show calm _ (notice _ _ _); with_reducible refine calm_trans ?_ (notice_calm _ _ _))
    | (with_reducible show calm _ (setServo _ _ _); with_reducible refine calm_trans ?_ (setServo_calm _ _ _))
    | (with_reducible show calm _ (servoCorrect _ _ _ _); with_reducible refine calm_trans ?_ (calm_of_keeps (servoCorrect_keeps _ _ _ _) (by decide)))
    | (with_reducible show calm _ (lockCount _ _ _); with_reducible refine calm_trans ?_ (lockCount_calm _ _ _))
    | with_reducible refine calm_ite ?_ ?_
    | with_reducible refine calm_doIf (fun _ => ?_) ?_
    | with_reducible refine calm_each (fun _ _ => ?_) ?_
    | dsimp only [id]
    | split
    | exact calm_eq (by with_reducible rfl))

theorem syncRx_calm (dm np : Nat) (d : Bytes) (s : State) : calm s (syncRx dm np d s) := by
  unfold syncRx
  try dsimp only
  repeat' (first
    | with_reducible exact calm_refl _
    | (with_reducible show calm _ (mDom _ _ _); with_reducible refine calm_trans ?_ (calm_of_keeps (mDom_keeps _ _ _) (by decide)))
    | (with_reducible show calm _ (ptpIgnore _ _); with_reducible refine calm_trans ?_ (calm_of_keeps (ptpIgnore_keeps _ _) (by decide)))
    | (with_reducible show calm _ (syncUse _ _ _ _ _ _ _); with_reducible refine calm_trans ?_ (syncUse_calm _ _ _ _ _ _ _))
    | with_reducible refine calm_ite ?_ ?_
    | with_reducible refine calm_doIf (fun _ => ?_) ?_
    | with_reducible refine calm_each (fun _ _ => ?_) ?_
    | dsimp only [id]
    | split
    | exact calm_eq (by with_reducible rfl))

theorem followUpRx_calm (dm np : Nat) (d : Bytes) (s : State) : calm s (followUpRx dm np d s) := by
  unfold followUpRx
  try dsimp only
  repeat' (first
    | with_reducible exact calm_refl _
    | (with_reducible show calm _ (ptpIgnore _ _); with_reducible refine calm_trans ?_ (calm_of_keeps (ptpIgnore_keeps _ _) (by decide)))
    | (with_reducible show calm _ (syncUse _ _ _ _ _ _ _); with_reducible refine calm_trans ?_ (syncUse_calm _ _ _ _ _ _ _))
    | with_reducible refine calm_ite ?_ ?_
    | with_reducible refine calm_doIf (fun _ => ?_) ?_
    | with_reducible refine calm_each (fun _ _ => ?_) ?_
    | dsimp only [id]
    | split
    | exact calm_eq (by with_reducible rfl))

theorem ptpMsg_calm (dm : Nat) (v : Via) (d : Bytes) (s : State) : calm s (ptpMsg dm v d s) := by
  unfold ptpMsg
  try dsimp only
  repeat' (first
    | with_reducible exact calm_refl _
    | (with_reducible show calm _ (syncRx _ _ _ _); with_reducible refine calm_trans ?_ (syncRx_calm _ _ _ _))
    | (with_reducible show calm _ (pdelayReqRx _ _ _ _); with_reducible refine calm_trans ?_ (calm_of_keeps (pdelayReqRx_keeps _ _ _ _) (by decide)))
    | (with_reducible show calm _ (pdelayRespRx _ _ _ _); with_reducible refine calm_trans ?_ (calm_of_keeps (pdelayRespRx_keeps _ _ _ _) (by decide)))
    | (with_reducible show calm _ (followUpRx _ _ _ _); with_reducible refine calm_trans ?_ (followUpRx_calm _ _ _ _))
    | (with_reducible show calm _ (delayRespRx _ _ _ _); with_reducible refine calm_trans ?_ (calm_of_keeps (delayRespRx_keeps _ _ _ _) (by decide)))
    | (with_reducible show calm _ (pdelayFupRx _ _ _ _); with_reducible refine calm_trans ?_ (calm_of_keeps (pdelayFupRx_keeps _ _ _ _) (by decide)))
    | (with_reducible show calm _ (announceRx _ _ _ _); with_reducible refine calm_trans ?_ (announceRx_calm _ _ _ _))
    | (with_reducible show calm _ (ptpIgnore _ _); with_reducible refine calm_trans ?_ (calm_of_keeps (ptpIgnore_keeps _ _) (by decide)))
    | with_reducible refine calm_ite ?_ ?_
    | with_reducible refine calm_doIf (fun _ => ?_) ?_
    | with_reducible refine calm_each (fun _ _ => ?_) ?_
    | dsimp only [id]
    | split
    | exact calm_eq (by with_reducible rfl))

theorem ptpRx_calm (rx : Arrival) (tr : PtpTransport) (d : Bytes) (s : State) : calm s (ptpRx rx tr d s) := by
  unfold ptpRx
  try dsimp only
  repeat' (first
    | with_reducible exact calm_refl _
    | (with_reducible show calm _ (rxFrame _ _ _); with_reducible refine calm_trans ?_ (rxFrame_calm (fun _ => ?_) _ _))
    | (with_reducible show calm _ (ptpIgnore _ _); with_reducible refine calm_trans ?_ (calm_of_keeps (ptpIgnore_keeps _ _) (by decide)))
    | (with_reducible show calm _ (ptpMsg _ _ _ _); with_reducible refine calm_trans ?_ (ptpMsg_calm _ _ _ _))
    | with_reducible refine calm_ite ?_ ?_
    | with_reducible refine calm_doIf (fun _ => ?_) ?_
    | with_reducible refine calm_each (fun _ _ => ?_) ?_
    | dsimp only [id]
    | split
    | exact calm_eq (by with_reducible rfl))

theorem masterLost_calm (dm : Nat) (f : Foreign) (s : State) : calm s (masterLost dm f s) := by
  unfold masterLost
  try dsimp only
  repeat' (first
    | with_reducible exact calm_refl _
    | (with_reducible show calm _ (mDom _ _ _); with_reducible refine calm_trans ?_ (calm_of_keeps (mDom_keeps _ _ _) (by decide)))
    | (with_reducible show calm _ (setServo _ _ _); with_reducible refine calm_trans ?_ (setServo_calm _ _ _))
    | with_reducible refine calm_ite ?_ ?_
    | with_reducible refine calm_doIf (fun _ => ?_) ?_
    | with_reducible refine calm_each (fun _ _ => ?_) ?_
    | dsimp only [id]
    | split
    | exact calm_eq (by with_reducible rfl))

theorem domSwitch_calm (n : Nat) (s : State) : calm s (domSwitch n s) := by
  unfold domSwitch
  try dsimp only
  repeat' (first
    | with_reducible exact calm_refl _
    | (with_reducible show calm _ (mPtp _ _); with_reducible refine calm_trans ?_ (calm_of_keeps (mPtp_keeps _ _) (by decide)))
    | (with_reducible show calm _ (notice _ _ _); with_reducible refine calm_trans ?_ (notice_calm _ _ _))
    | with_reducible refine calm_ite ?_ ?_
    | with_reducible refine calm_doIf (fun _ => ?_) ?_
    | with_reducible refine calm_each (fun _ _ => ?_) ?_
    | dsimp only [id]
    | split
    | exact calm_eq (by with_reducible rfl))

theorem opPtpDom_calm (dm : Nat) (s : State) : calm s (opPtpDom dm s) := by
  unfold opPtpDom
  try dsimp only
  repeat' (first
    | with_reducible exact calm_refl _
    | (with_reducible show calm _ (mDom _ _ _); with_reducible refine calm_trans ?_ (calm_of_keeps (mDom_keeps _ _ _) (by decide)))
    | (with_reducible show calm _ (setServo _ _ _); with_reducible refine calm_trans ?_ (setServo_calm _ _ _))
    | (with_reducible show calm _ (domSwitch _ _); with_reducible refine calm_trans ?_ (domSwitch_calm _ _))
    | with_reducible refine calm_ite ?_ ?_
    | with_reducible refine calm_doIf (fun _ => ?_) ?_
    | with_reducible refine calm_each (fun _ _ => ?_) ?_
    | dsimp only [id]
    | split
    | exact calm_eq (by with_reducible rfl))

theorem opPtpSel_calm (v : Word) (s : State) : calm s (opPtpSel v s) := by
  unfold opPtpSel
  try dsimp only
  repeat' (first
    | with_reducible exact calm_refl _
    | (with_reducible show calm _ (mPtp _ _); with_reducible refine calm_trans ?_ (calm_of_keeps (mPtp_keeps _ _) (by decide)))
    | (with_reducible show calm _ (domSwitch _ _); with_reducible refine calm_trans ?_ (domSwitch_calm _ _))
    | with_reducible refine calm_ite ?_ ?_
    | with_reducible refine calm_doIf (fun _ => ?_) ?_
    | with_reducible refine calm_each (fun _ _ => ?_) ?_
    | dsimp only [id]
    | split
    | exact calm_eq (by with_reducible rfl))

theorem autoSwitch_calm (s : State) : calm s (autoSwitch s) := by
  unfold autoSwitch
  try dsimp only
  repeat' (first
    | with_reducible exact calm_refl _
    | (with_reducible show calm _ (mPtp _ _); with_reducible refine calm_trans ?_ (calm_of_keeps (mPtp_keeps _ _) (by decide)))
    | (with_reducible show calm _ (domSwitch _ _); with_reducible refine calm_trans ?_ (domSwitch_calm _ _))
    | with_reducible refine calm_ite ?_ ?_
    | with_reducible refine calm_doIf (fun _ => ?_) ?_
    | with_reducible refine calm_each (fun _ _ => ?_) ?_
    | dsimp only [id]
    | split
    | exact calm_eq (by with_reducible rfl))

theorem fireAdjust_calm (cycles : Nat) (s : State) : calm s (fireAdjust cycles s) := by
  unfold fireAdjust
  try dsimp only
  repeat' (first
    | with_reducible exact calm_refl _
    | (with_reducible show calm _ (mPtp _ _); with_reducible refine calm_trans ?_ (calm_of_keeps (mPtp_keeps _ _) (by decide)))
    | (with_reducible show calm _ (faultErr _ _ _); with_reducible refine calm_trans ?_ (faultErr_calm _ _ _))
    | with_reducible refine calm_ite ?_ ?_
    | with_reducible refine calm_doIf (fun _ => ?_) ?_
    | with_reducible refine calm_each (fun _ _ => ?_) ?_
    | dsimp only [id]
    | split
    | exact calm_eq (by with_reducible rfl))

/-! Machine/Pairing.lean -/

theorem hbTake_calm (flags role st spl : Nat) (s : State) : calm s (hbTake flags role st spl s) := by
  unfold hbTake
  try dsimp only
  repeat' (first
    | with_reducible exact calm_refl _
    | (with_reducible show calm _ (mPar _ _); with_reducible refine calm_trans ?_ (calm_of_keeps (mPar_keeps _ _) (by decide)))
    | (with_reducible show calm _ (spliceTry _ _); with_reducible refine calm_trans ?_ (spliceTry_calm _ _))
    | with_reducible refine calm_ite ?_ ?_
    | with_reducible refine calm_doIf (fun _ => ?_) ?_
    | with_reducible refine calm_each (fun _ _ => ?_) ?_
    | dsimp only [id]
    | split
    | exact calm_eq (by with_reducible rfl))

theorem pathBack_calm (k : Nat) (s : State) : calm s (pathBack k s) := by
  unfold pathBack
  try dsimp only
  repeat' (first
    | with_reducible exact calm_refl _
    | (with_reducible show calm _ (endFault _ _ _); with_reducible refine calm_trans ?_ (endFault_calm _ _ _))
    | with_reducible refine calm_ite ?_ ?_
    | with_reducible refine calm_doIf (fun _ => ?_) ?_
    | with_reducible refine calm_each (fun _ _ => ?_) ?_
    | dsimp only [id]
    | split
    | exact calm_eq (by with_reducible rfl))

theorem lineCompare_calm (lc : Nat) (dig : Word) (s : State) : calm s (lineCompare lc dig s) := by
  unfold lineCompare
  try dsimp only
  repeat' (first
    | with_reducible exact calm_refl _
    | (with_reducible show calm _ (parDiverge _); with_reducible refine calm_trans ?_ (parDiverge_calm _))
    | with_reducible refine calm_ite ?_ ?_
    | with_reducible refine calm_doIf (fun _ => ?_) ?_
    | with_reducible refine calm_each (fun _ _ => ?_) ?_
    | dsimp only [id]
    | split
    | exact calm_eq (by with_reducible rfl))

theorem tethHb_calm (b : Bytes) (s : State) : calm s (tethHb b s) := by
  unfold tethHb
  try dsimp only
  repeat' (first
    | with_reducible exact calm_refl _
    | (with_reducible show calm _ (mPar _ _); with_reducible refine calm_trans ?_ (calm_of_keeps (mPar_keeps _ _) (by decide)))
    | (with_reducible show calm _ (hbTake _ _ _ _ _); with_reducible refine calm_trans ?_ (hbTake_calm _ _ _ _ _))
    | (with_reducible show calm _ (pathBack _ _); with_reducible refine calm_trans ?_ (pathBack_calm _ _))
    | (with_reducible show calm _ (tethAcked _ _); with_reducible refine calm_trans ?_ (calm_of_keeps (tethAcked_keeps _ _) (by decide)))
    | (with_reducible show calm _ (lineCompare _ _ _); with_reducible refine calm_trans ?_ (lineCompare_calm _ _ _))
    | with_reducible refine calm_ite ?_ ?_
    | with_reducible refine calm_doIf (fun _ => ?_) ?_
    | with_reducible refine calm_each (fun _ _ => ?_) ?_
    | dsimp only [id]
    | split
    | exact calm_eq (by with_reducible rfl))

theorem tethRx_calm {eff : Bytes → State → State} (h_eff : ∀ a0 u, calm u (eff a0 u)) (len : Nat) (f : Bytes) (s : State) : calm s (tethRx len f eff s) := by
  unfold tethRx
  try dsimp only
  repeat' (first
    | with_reducible exact calm_refl _
    | (with_reducible show calm _ (mPar _ _); with_reducible refine calm_trans ?_ (calm_of_keeps (mPar_keeps _ _) (by decide)))
    | (with_reducible show calm _ (tethDrop _); with_reducible refine calm_trans ?_ (calm_of_keeps (tethDrop_keeps _) (by decide)))
    | (with_reducible show calm _ (eff _ _); with_reducible refine calm_trans ?_ (h_eff _ _))
    | with_reducible refine calm_ite ?_ ?_
    | with_reducible refine calm_doIf (fun _ => ?_) ?_
    | with_reducible refine calm_each (fun _ _ => ?_) ?_
    | dsimp only [id]
    | split
    | exact calm_eq (by with_reducible rfl))

theorem tethHbRx_calm (f : Bytes) (s : State) : calm s (tethHbRx f s) := by
  unfold tethHbRx
  try dsimp only
  repeat' (first
    | with_reducible exact calm_refl _
    | (with_reducible show calm _ (tethDrop _); with_reducible refine calm_trans ?_ (calm_of_keeps (tethDrop_keeps _) (by decide)))
    | (with_reducible show calm _ (tethHb _ _); with_reducible refine calm_trans ?_ (tethHb_calm _ _))
    | with_reducible refine calm_ite ?_ ?_
    | with_reducible refine calm_doIf (fun _ => ?_) ?_
    | with_reducible refine calm_each (fun _ _ => ?_) ?_
    | dsimp only [id]
    | split
    | exact calm_eq (by with_reducible rfl))

theorem netHbRx_calm (d : Bytes) (s : State) : calm s (netHbRx d s) := by
  unfold netHbRx
  try dsimp only
  repeat' (first
    | with_reducible exact calm_refl _
    | (with_reducible show calm _ (mPar _ _); with_reducible refine calm_trans ?_ (calm_of_keeps (mPar_keeps _ _) (by decide)))
    | (with_reducible show calm _ (hbTake _ _ _ _ _); with_reducible refine calm_trans ?_ (hbTake_calm _ _ _ _ _))
    | (with_reducible show calm _ (pathBack _ _); with_reducible refine calm_trans ?_ (pathBack_calm _ _))
    | with_reducible refine calm_ite ?_ ?_
    | with_reducible refine calm_doIf (fun _ => ?_) ?_
    | with_reducible refine calm_each (fun _ _ => ?_) ?_
    | dsimp only [id]
    | split
    | exact calm_eq (by with_reducible rfl))

theorem pathMissed_calm (k : Nat) (otherMissed : Bool) (s : State) : calm s (pathMissed k otherMissed s) := by
  unfold pathMissed
  try dsimp only
  repeat' (first
    | with_reducible exact calm_refl _
    | (with_reducible show calm _ (faultErr _ _ _); with_reducible refine calm_trans ?_ (faultErr_calm _ _ _))
    | (with_reducible show calm _ (spliceTry _ _); with_reducible refine calm_trans ?_ (spliceTry_calm _ _))
    | with_reducible refine calm_ite ?_ ?_
    | with_reducible refine calm_doIf (fun _ => ?_) ?_
    | with_reducible refine calm_each (fun _ _ => ?_) ?_
    | dsimp only [id]
    | split
    | exact calm_eq (by with_reducible rfl))

theorem tethNozzle_calm (noz : Nat) (e : BitVec 64) (lc : Nat) (s : State) : calm s (tethNozzle noz e lc s) := by
  unfold tethNozzle
  try dsimp only
  repeat' (first
    | with_reducible exact calm_refl _
    | (with_reducible show calm _ (mPar _ _); with_reducible refine calm_trans ?_ (calm_of_keeps (mPar_keeps _ _) (by decide)))
    | (with_reducible show calm _ (faultErr _ _ _); with_reducible refine calm_trans ?_ (faultErr_calm _ _ _))
    | (with_reducible show calm _ (nzSubmit _ _); with_reducible refine calm_trans ?_ (nzSubmit_calm _ _))
    | with_reducible refine calm_ite ?_ ?_
    | with_reducible refine calm_doIf (fun _ => ?_) ?_
    | with_reducible refine calm_each (fun _ _ => ?_) ?_
    | dsimp only [id]
    | split
    | exact calm_eq (by with_reducible rfl))

theorem tethNzlBody_calm (b : Bytes) (s : State) : calm s (tethNzlBody b s) := by
  unfold tethNzlBody
  try dsimp only
  repeat' (first
    | with_reducible exact calm_refl _
    | (with_reducible show calm _ (mPar _ _); with_reducible refine calm_trans ?_ (calm_of_keeps (mPar_keeps _ _) (by decide)))
    | (with_reducible show calm _ (tethNozzle _ _ _ _); with_reducible refine calm_trans ?_ (tethNozzle_calm _ _ _ _))
    | with_reducible refine calm_ite ?_ ?_
    | with_reducible refine calm_doIf (fun _ => ?_) ?_
    | with_reducible refine calm_each (fun _ _ => ?_) ?_
    | dsimp only [id]
    | split
    | exact calm_eq (by with_reducible rfl))

theorem tethRoad_calm (rc : Int) (s : State) : calm s (tethRoad rc s) := by
  unfold tethRoad
  try dsimp only
  repeat' (first
    | with_reducible exact calm_refl _
    | (with_reducible show calm _ (mSys _ _); with_reducible refine calm_trans ?_ (calm_of_keeps (mSys_keeps _ _) (by decide)))
    | (with_reducible show calm _ (mPar _ _); with_reducible refine calm_trans ?_ (calm_of_keeps (mPar_keeps _ _) (by decide)))
    | (with_reducible show calm _ (faultErr _ _ _); with_reducible refine calm_trans ?_ (faultErr_calm _ _ _))
    | (with_reducible show calm _ (knotReach _); with_reducible refine calm_trans ?_ (calm_of_keeps (knotReach_keeps _) (by decide)))
    | with_reducible refine calm_ite ?_ ?_
    | with_reducible refine calm_doIf (fun _ => ?_) ?_
    | with_reducible refine calm_each (fun _ _ => ?_) ?_
    | dsimp only [id]
    | split
    | exact calm_eq (by with_reducible rfl))

theorem tethKnotBody_calm (b : Bytes) (s : State) : calm s (tethKnotBody b s) := by
  unfold tethKnotBody
  try dsimp only
  repeat' (first
    | with_reducible exact calm_refl _
    | (with_reducible show calm _ (knotWithdraw _); with_reducible refine calm_trans ?_ (calm_of_keeps (knotWithdraw_keeps _) (by decide)))
    | (with_reducible show calm _ (knotMs _ _); with_reducible refine calm_trans ?_ (knotMs_calm _ _))
    | (with_reducible show calm _ (tethDrop _); with_reducible refine calm_trans ?_ (calm_of_keeps (tethDrop_keeps _) (by decide)))
    | (with_reducible show calm _ (tethRoad _ _); with_reducible refine calm_trans ?_ (tethRoad_calm _ _))
    | with_reducible refine calm_ite ?_ ?_
    | with_reducible refine calm_doIf (fun _ => ?_) ?_
    | with_reducible refine calm_each (fun _ _ => ?_) ?_
    | dsimp only [id]
    | split
    | exact calm_eq (by with_reducible rfl))

theorem tethDoneBody_calm (b : Bytes) (s : State) : calm s (tethDoneBody b s) := by
  unfold tethDoneBody
  try dsimp only
  repeat' (first
    | with_reducible exact calm_refl _
    | (with_reducible show calm _ (mPar _ _); with_reducible refine calm_trans ?_ (calm_of_keeps (mPar_keeps _ _) (by decide)))
    | (with_reducible show calm _ (parDiverge _); with_reducible refine calm_trans ?_ (parDiverge_calm _))
    | with_reducible refine calm_ite ?_ ?_
    | with_reducible refine calm_doIf (fun _ => ?_) ?_
    | with_reducible refine calm_each (fun _ _ => ?_) ?_
    | dsimp only [id]
    | split
    | exact calm_eq (by with_reducible rfl))

theorem tethStateBody_calm (b : Bytes) (s : State) : calm s (tethStateBody b s) := by
  unfold tethStateBody
  try dsimp only
  repeat' (first
    | with_reducible exact calm_refl _
    | (with_reducible show calm _ (ctlAt _ _ _); with_reducible refine calm_trans ?_ (ctlAt_calm _ _ _))
    | (with_reducible show calm _ (tethDrop _); with_reducible refine calm_trans ?_ (calm_of_keeps (tethDrop_keeps _) (by decide)))
    | with_reducible refine calm_ite ?_ ?_
    | with_reducible refine calm_doIf (fun _ => ?_) ?_
    | with_reducible refine calm_each (fun _ _ => ?_) ?_
    | dsimp only [id]
    | split
    | exact calm_eq (by with_reducible rfl))

theorem tethYieldBody_calm (b : Bytes) (s : State) : calm s (tethYieldBody b s) := by
  unfold tethYieldBody
  try dsimp only
  repeat' (first
    | with_reducible exact calm_refl _
    | (with_reducible show calm _ (mPar _ _); with_reducible refine calm_trans ?_ (calm_of_keeps (mPar_keeps _ _) (by decide)))
    | (with_reducible show calm _ (spliceTry _ _); with_reducible refine calm_trans ?_ (spliceTry_calm _ _))
    | with_reducible refine calm_ite ?_ ?_
    | with_reducible refine calm_doIf (fun _ => ?_) ?_
    | with_reducible refine calm_each (fun _ _ => ?_) ?_
    | dsimp only [id]
    | split
    | exact calm_eq (by with_reducible rfl))

theorem tethBulkBody_calm (b : Bytes) (s : State) : calm s (tethBulkBody b s) := by
  unfold tethBulkBody
  try dsimp only
  repeat' (first
    | with_reducible exact calm_refl _
    | (with_reducible show calm _ (mPar _ _); with_reducible refine calm_trans ?_ (calm_of_keeps (mPar_keeps _ _) (by decide)))
    | (with_reducible show calm _ (bankPut _ _ _ _); with_reducible refine calm_trans ?_ (calm_of_keeps (bankPut_keeps _ _ _ _) (by decide)))
    | (with_reducible show calm _ (evalDetours _); with_reducible refine calm_trans ?_ (evalDetours_calm _))
    | (with_reducible show calm _ (tethDrop _); with_reducible refine calm_trans ?_ (calm_of_keeps (tethDrop_keeps _) (by decide)))
    | (with_reducible show calm _ (tethNozzle _ _ _ _); with_reducible refine calm_trans ?_ (tethNozzle_calm _ _ _ _))
    | with_reducible refine calm_ite ?_ ?_
    | with_reducible refine calm_doIf (fun _ => ?_) ?_
    | with_reducible refine calm_each (fun _ _ => ?_) ?_
    | dsimp only [id]
    | split
    | exact calm_eq (by with_reducible rfl))

theorem tethResync_calm (s : State) : calm s (tethResync s) := by
  unfold tethResync
  try dsimp only
  repeat' (first
    | with_reducible exact calm_refl _
    | (with_reducible show calm _ (mPar _ _); with_reducible refine calm_trans ?_ (calm_of_keeps (mPar_keeps _ _) (by decide)))
    | (with_reducible show calm _ (notice _ _ _); with_reducible refine calm_trans ?_ (notice_calm _ _ _))
    | (with_reducible show calm _ (tethTrain _ _ _); with_reducible refine calm_trans ?_ (calm_of_keeps (tethTrain_keeps _ _ _) (by decide)))
    | with_reducible refine calm_ite ?_ ?_
    | with_reducible refine calm_doIf (fun _ => ?_) ?_
    | with_reducible refine calm_each (fun _ _ => ?_) ?_
    | dsimp only [id]
    | split
    | exact calm_eq (by with_reducible rfl))

theorem hitchInOn_calm (s : State) : calm s (hitchInOn s) := by
  unfold hitchInOn
  try dsimp only
  repeat' (first
    | with_reducible exact calm_refl _
    | (with_reducible show calm _ (mPar _ _); with_reducible refine calm_trans ?_ (calm_of_keeps (mPar_keeps _ _) (by decide)))
    | (with_reducible show calm _ (notice _ _ _); with_reducible refine calm_trans ?_ (notice_calm _ _ _))
    | (with_reducible show calm _ (faultErr _ _ _); with_reducible refine calm_trans ?_ (faultErr_calm _ _ _))
    | (with_reducible show calm _ (hitchRelease _); with_reducible refine calm_trans ?_ (calm_of_keeps (hitchRelease_keeps _) (by decide)))
    | (with_reducible show calm _ (advicePins _); with_reducible refine calm_trans ?_ (calm_of_keeps (advicePins_keeps _) (by decide)))
    | with_reducible refine calm_ite ?_ ?_
    | with_reducible refine calm_doIf (fun _ => ?_) ?_
    | with_reducible refine calm_each (fun _ _ => ?_) ?_
    | dsimp only [id]
    | split
    | exact calm_eq (by with_reducible rfl))

theorem hitchInOff_calm (s : State) : calm s (hitchInOff s) := by
  unfold hitchInOff
  try dsimp only
  repeat' (first
    | with_reducible exact calm_refl _
    | (with_reducible show calm _ (mPar _ _); with_reducible refine calm_trans ?_ (calm_of_keeps (mPar_keeps _ _) (by decide)))
    | (with_reducible show calm _ (spliceTry _ _); with_reducible refine calm_trans ?_ (spliceTry_calm _ _))
    | with_reducible refine calm_ite ?_ ?_
    | with_reducible refine calm_doIf (fun _ => ?_) ?_
    | with_reducible refine calm_each (fun _ _ => ?_) ?_
    | dsimp only [id]
    | split
    | exact calm_eq (by with_reducible rfl))

theorem spliceNow_calm (code : Nat) (s : State) : calm s (spliceNow code s) := by
  unfold spliceNow
  try dsimp only
  repeat' (first
    | with_reducible exact calm_refl _
    | (with_reducible show calm _ (mPar _ _); with_reducible refine calm_trans ?_ (calm_of_keeps (mPar_keeps _ _) (by decide)))
    | (with_reducible show calm _ (raise _ _ _ _); refine calm_trans ?_ (calm_raise _ _ _ _ (by first | exact .inl rfl | exact .inr rfl)))
    | (with_reducible show calm _ (notice _ _ _); with_reducible refine calm_trans ?_ (notice_calm _ _ _))
    | (with_reducible show calm _ (hitchAssert _); with_reducible refine calm_trans ?_ (calm_of_keeps (hitchAssert_keeps _) (by decide)))
    | (with_reducible show calm _ (advicePins _); with_reducible refine calm_trans ?_ (calm_of_keeps (advicePins_keeps _) (by decide)))
    | with_reducible refine calm_ite ?_ ?_
    | with_reducible refine calm_doIf (fun _ => ?_) ?_
    | with_reducible refine calm_each (fun _ _ => ?_) ?_
    | dsimp only [id]
    | split
    | exact calm_eq (by with_reducible rfl))

theorem parEnter_calm (s : State) : calm s (parEnter s) := by
  unfold parEnter
  try dsimp only
  repeat' (first
    | with_reducible exact calm_refl _
    | (with_reducible show calm _ (mPar _ _); with_reducible refine calm_trans ?_ (calm_of_keeps (mPar_keeps _ _) (by decide)))
    | (with_reducible show calm _ (notice _ _ _); with_reducible refine calm_trans ?_ (notice_calm _ _ _))
    | (with_reducible show calm _ (hitchAssert _); with_reducible refine calm_trans ?_ (calm_of_keeps (hitchAssert_keeps _) (by decide)))
    | (with_reducible show calm _ (advicePins _); with_reducible refine calm_trans ?_ (calm_of_keeps (advicePins_keeps _) (by decide)))
    | with_reducible refine calm_ite ?_ ?_
    | with_reducible refine calm_doIf (fun _ => ?_) ?_
    | with_reducible refine calm_each (fun _ _ => ?_) ?_
    | dsimp only [id]
    | split
    | exact calm_eq (by with_reducible rfl))

theorem feedLost_calm (b : Bool) (s : State) : calm s (feedLost b s) := by
  unfold feedLost
  try dsimp only
  repeat' (first
    | with_reducible exact calm_refl _
    | (with_reducible show calm _ (mKeep _ _); with_reducible refine calm_trans ?_ (calm_of_keeps (mKeep_keeps _ _) (by decide)))
    | (with_reducible show calm _ (faultErr _ _ _); with_reducible refine calm_trans ?_ (faultErr_calm _ _ _))
    | with_reducible refine calm_ite ?_ ?_
    | with_reducible refine calm_doIf (fun _ => ?_) ?_
    | with_reducible refine calm_each (fun _ _ => ?_) ?_
    | dsimp only [id]
    | split
    | exact calm_eq (by with_reducible rfl))

theorem feedBack_calm (b : Bool) (s : State) : calm s (feedBack b s) := by
  unfold feedBack
  try dsimp only
  repeat' (first
    | with_reducible exact calm_refl _
    | (with_reducible show calm _ (mKeep _ _); with_reducible refine calm_trans ?_ (calm_of_keeps (mKeep_keeps _ _) (by decide)))
    | (with_reducible show calm _ (endFault _ _ _); with_reducible refine calm_trans ?_ (endFault_calm _ _ _))
    | with_reducible refine calm_ite ?_ ?_
    | with_reducible refine calm_doIf (fun _ => ?_) ?_
    | with_reducible refine calm_each (fun _ _ => ?_) ?_
    | dsimp only [id]
    | split
    | exact calm_eq (by with_reducible rfl))

/-! Machine/Manage.lean -/

theorem refCodeRead_calm (ch code : Nat) (s : State) : calm s (refCodeRead ch code s) := by
  unfold refCodeRead
  try dsimp only
  repeat' (first
    | with_reducible exact calm_refl _
    | (with_reducible show calm _ (emit _ _); with_reducible refine calm_trans ?_ (calm_of_keeps (emit_keeps _ _) (by decide)))
    | (with_reducible show calm _ (mChan _ _ _); with_reducible refine calm_trans ?_ (calm_of_keeps (mChan_keeps _ _ _) (by decide)))
    | (with_reducible show calm _ (faultErr _ _ _); with_reducible refine calm_trans ?_ (faultErr_calm _ _ _))
    | (with_reducible show calm _ (endFault _ _ _); with_reducible refine calm_trans ?_ (endFault_calm _ _ _))
    | with_reducible refine calm_ite ?_ ?_
    | with_reducible refine calm_doIf (fun _ => ?_) ?_
    | with_reducible refine calm_each (fun _ _ => ?_) ?_
    | dsimp only [id]
    | split
    | exact calm_eq (by with_reducible rfl))

theorem mgmtTick_calm (temps : List Int) (codes : List (BitVec 3)) (s : State) : calm s (mgmtTick temps codes s) := by
  unfold mgmtTick
  try dsimp only
  repeat' (first
    | with_reducible exact calm_refl _
    | (with_reducible show calm _ (mMgt _ _); with_reducible refine calm_trans ?_ (calm_of_keeps (mMgt_keeps _ _) (by decide)))
    | (with_reducible show calm _ (sensorTick _ _); with_reducible refine calm_trans ?_ (sensorTick_calm _ _))
    | (with_reducible show calm _ (chanTick _ _); with_reducible refine calm_trans ?_ (calm_of_keeps (chanTick_keeps _ _) (by decide)))
    | (with_reducible show calm _ (refCodeRead _ _ _); with_reducible refine calm_trans ?_ (refCodeRead_calm _ _ _))
    | (with_reducible show calm _ (advicePins _); with_reducible refine calm_trans ?_ (calm_of_keeps (advicePins_keeps _) (by decide)))
    | (with_reducible show calm _ (speedAdvise _); with_reducible refine calm_trans ?_ (calm_of_keeps (speedAdvise_keeps _) (by decide)))
    | (with_reducible show calm _ (presentTick _); with_reducible refine calm_trans ?_ (calm_of_keeps (presentTick_keeps _) (by decide)))
    | (with_reducible show calm _ (calTick _); with_reducible refine calm_trans ?_ (calTick_calm _))
    | (with_reducible show calm _ (slewK _); with_reducible refine calm_trans ?_ (calm_of_keeps (slewK_keeps _) (by decide)))
    | (with_reducible show calm _ (autoSwitch _); with_reducible refine calm_trans ?_ (autoSwitch_calm _))
    | (with_reducible show calm _ (netHbSend _); with_reducible refine calm_trans ?_ (calm_of_keeps (netHbSend_keeps _) (by decide)))
    | (with_reducible show calm _ (eventSend _ _); with_reducible refine calm_trans ?_ (calm_of_keeps (eventSend_keeps _ _) (by decide)))
    | with_reducible refine calm_ite ?_ ?_
    | with_reducible refine calm_doIf (fun _ => ?_) ?_
    | with_reducible refine calm_each (fun _ _ => ?_) ?_
    | dsimp only [id]
    | split
    | exact calm_eq (by with_reducible rfl))

/-! Machine/RegRead.lean -/

theorem snapLog_calm (key : Nat) (live : Option LogEntry) (s : State) : calm s (snapLog key live s) := by
  unfold snapLog
  try dsimp only
  repeat' (first
    | with_reducible exact calm_refl _
    | (with_reducible show calm _ (mErr _ _); refine calm_trans ?_ (calm_mErr _ _ (by first | exact fun _ _ h => h | exact fun _ _ h => (List.mem_filter.mp h).1)))
    | with_reducible refine calm_ite ?_ ?_
    | with_reducible refine calm_doIf (fun _ => ?_) ?_
    | with_reducible refine calm_each (fun _ _ => ?_) ?_
    | dsimp only [id]
    | split
    | exact calm_eq (by with_reducible rfl))

theorem readEffect_calm (a : Nat) (s : State) : calm s (readEffect a s) := by
  unfold readEffect
  try dsimp only
  repeat' (first
    | with_reducible exact calm_refl _
    | (with_reducible show calm _ (tickFree _); with_reducible refine calm_trans ?_ (calm_of_keeps (tickFree_keeps _) (by decide)))
    | (with_reducible show calm _ (opPosSnap _ _); with_reducible refine calm_trans ?_ (calm_of_keeps (opPosSnap_keeps _ _) (by decide)))
    | (with_reducible show calm _ (opFirSnap _ _); with_reducible refine calm_trans ?_ (calm_of_keeps (opFirSnap_keeps _ _) (by decide)))
    | (with_reducible show calm _ (opResData _ _); with_reducible refine calm_trans ?_ (calm_of_keeps (opResData_keeps _ _) (by decide)))
    | (with_reducible show calm _ (opAxsTbl _ _); with_reducible refine calm_trans ?_ (calm_of_keeps (opAxsTbl_keeps _ _) (by decide)))
    | (with_reducible show calm _ (opLampZone _ _); with_reducible refine calm_trans ?_ (calm_of_keeps (opLampZone_keeps _ _) (by decide)))
    | (with_reducible show calm _ (opLampUtbl _ _); with_reducible refine calm_trans ?_ (calm_of_keeps (opLampUtbl_keeps _ _) (by decide)))
    | (with_reducible show calm _ (opPtpSnap _ _); with_reducible refine calm_trans ?_ (calm_of_keeps (opPtpSnap_keeps _ _) (by decide)))
    | (with_reducible show calm _ (snapLog _ _ _); with_reducible refine calm_trans ?_ (snapLog_calm _ _ _))
    | (with_reducible show calm _ (snapEpoch _); with_reducible refine calm_trans ?_ (calm_of_keeps (snapEpoch_keeps _) (by decide)))
    | (with_reducible show calm _ (snapCmp _ _); with_reducible refine calm_trans ?_ (calm_of_keeps (snapCmp_keeps _ _) (by decide)))
    | (with_reducible show calm _ (snapHit _ _); with_reducible refine calm_trans ?_ (calm_of_keeps (snapHit_keeps _ _) (by decide)))
    | (with_reducible show calm _ (snapSync _ _); with_reducible refine calm_trans ?_ (calm_of_keeps (snapSync_keeps _ _) (by decide)))
    | (with_reducible show calm _ (jrnPop _); with_reducible refine calm_trans ?_ (calm_of_keeps (jrnPop_keeps _) (by decide)))
    | with_reducible refine calm_ite ?_ ?_
    | with_reducible refine calm_doIf (fun _ => ?_) ?_
    | with_reducible refine calm_each (fun _ _ => ?_) ?_
    | dsimp only [id]
    | split
    | exact calm_eq (by with_reducible rfl))

/-! Machine/RegWrite.lean -/

theorem opGulCtl_calm (p : Nat) (old new : Word) (s : State) : calm s (opGulCtl p old new s) := by
  unfold opGulCtl
  try dsimp only
  repeat' (first
    | with_reducible exact calm_refl _
    | (with_reducible show calm _ (portWakes _ _); with_reducible refine calm_trans ?_ (calm_of_keeps (portWakes_keeps _ _) (by decide)))
    | (with_reducible show calm _ (emit _ _); with_reducible refine calm_trans ?_ (calm_of_keeps (emit_keeps _ _) (by decide)))
    | (with_reducible show calm _ (mHead _ _ _); with_reducible refine calm_trans ?_ (calm_of_keeps (mHead_keeps _ _ _) (by decide)))
    | (with_reducible show calm _ (portLeaves _ _); with_reducible refine calm_trans ?_ (calm_of_keeps (portLeaves_keeps _ _) (by decide)))
    | (with_reducible show calm _ (portMask _ _ _); with_reducible refine calm_trans ?_ (portMask_calm _ _ _))
    | with_reducible refine calm_ite ?_ ?_
    | with_reducible refine calm_doIf (fun _ => ?_) ?_
    | with_reducible refine calm_each (fun _ _ => ?_) ?_
    | dsimp only [id]
    | split
    | exact calm_eq (by with_reducible rfl))

theorem regStored_calm (a : Nat) (old v : Word) (s : State) : calm s (regStored a old v s) := by
  unfold regStored
  try dsimp only
  repeat' (first
    | with_reducible exact calm_refl _
    | (with_reducible show calm _ (opPtpSel _ _); with_reducible refine calm_trans ?_ (opPtpSel_calm _ _))
    | (with_reducible show calm _ (opPtpDom _ _); with_reducible refine calm_trans ?_ (opPtpDom_calm _ _))
    | (with_reducible show calm _ (opPosCtl _ _ _ _); with_reducible refine calm_trans ?_ (calm_of_keeps (opPosCtl_keeps _ _ _ _) (by decide)))
    | (with_reducible show calm _ (opIdxArm _ _); with_reducible refine calm_trans ?_ (calm_of_keeps (opIdxArm_keeps _ _) (by decide)))
    | (with_reducible show calm _ (postLive _ _ _); with_reducible refine calm_trans ?_ (calm_of_keeps (postLive_keeps _ _ _) (by decide)))
    | (with_reducible show calm _ (opPosPt _ _ _); with_reducible refine calm_trans ?_ (calm_of_keeps (opPosPt_keeps _ _ _) (by decide)))
    | (with_reducible show calm _ (opGulCtl _ _ _ _); with_reducible refine calm_trans ?_ (opGulCtl_calm _ _ _ _))
    | (with_reducible show calm _ (opAxsCtl _ _ _ _); with_reducible refine calm_trans ?_ (calm_of_keeps (opAxsCtl_keeps _ _ _ _) (by decide)))
    | (with_reducible show calm _ (opAxsTarget _ _); with_reducible refine calm_trans ?_ (calm_of_keeps (opAxsTarget_keeps _ _) (by decide)))
    | (with_reducible show calm _ (opAxsVtarget _ _ _); with_reducible refine calm_trans ?_ (calm_of_keeps (opAxsVtarget_keeps _ _ _) (by decide)))
    | (with_reducible show calm _ (opAxsGat _ _ _); with_reducible refine calm_trans ?_ (calm_of_keeps (opAxsGat_keeps _ _ _) (by decide)))
    | (with_reducible show calm _ (opAxsSetpos _ _ _); with_reducible refine calm_trans ?_ (calm_of_keeps (opAxsSetpos_keeps _ _ _) (by decide)))
    | with_reducible refine calm_ite ?_ ?_
    | with_reducible refine calm_doIf (fun _ => ?_) ?_
    | with_reducible refine calm_each (fun _ _ => ?_) ?_
    | dsimp only [id]
    | split
    | exact calm_eq (by with_reducible rfl))

theorem rangeNote_calm (a code : Nat) (s : State) : calm s (rangeNote a code s) := by
  unfold rangeNote
  try dsimp only
  repeat' (first
    | with_reducible exact calm_refl _
    | (with_reducible show calm _ (raiseLim _ _ _ _ _ _); refine calm_trans ?_ (calm_raiseLim _ _ _ _ _ _ (by first | exact .inl rfl | exact .inr rfl | (split <;> first | exact .inl rfl | exact .inr rfl))))
    | (with_reducible show calm _ (notice _ _ _); with_reducible refine calm_trans ?_ (notice_calm _ _ _))
    | with_reducible refine calm_ite ?_ ?_
    | with_reducible refine calm_doIf (fun _ => ?_) ?_
    | with_reducible refine calm_each (fun _ _ => ?_) ?_
    | dsimp only [id]
    | split
    | exact calm_eq (by with_reducible rfl))

theorem writeStored_calm (img : Bool) (a : Nat) (d : RegDesc) (v : Word) (s : State) : calm s (writeStored img a d v s).1 := by
  unfold writeStored
  try dsimp only
  repeat' (first
    | with_reducible exact calm_refl _
    | (with_reducible show calm _ (notice _ _ _); with_reducible refine calm_trans ?_ (notice_calm _ _ _))
    | (with_reducible show calm _ (rangeNote _ _ _); with_reducible refine calm_trans ?_ (rangeNote_calm _ _ _))
    | (with_reducible show calm _ (regStored _ _ _ _); with_reducible refine calm_trans ?_ (regStored_calm _ _ _ _))
    | (with_reducible show calm _ (setReg _ _ _); with_reducible refine calm_trans ?_ (calm_of_keeps (setReg_keeps _ _ _) (by decide)))
    | with_reducible refine calm_ite ?_ ?_
    | with_reducible refine calm_doIf (fun _ => ?_) ?_
    | with_reducible refine calm_each (fun _ _ => ?_) ?_
    | dsimp only [id]
    | split
    | exact calm_eq (by with_reducible rfl))

theorem opOtpCmd_calm (v : Word) (s : State) : optCalm s (opOtpCmd v s) := by
  unfold opOtpCmd
  try dsimp only
  repeat' (first
    | with_reducible exact calm_refl _
    | with_reducible exact optCalm_none _
    | with_reducible refine optCalm_some ?_
    | with_reducible refine optCalm_ite ?_ ?_
    | with_reducible refine optCalm_took ?_
    | with_reducible refine optCalm_denied ?_
    | (with_reducible show calm _ (otpDo _ _ _); with_reducible refine calm_trans ?_ (calm_of_keeps (otpDo_keeps _ _ _) (by decide)))
    | with_reducible refine calm_ite ?_ ?_
    | with_reducible refine calm_doIf (fun _ => ?_) ?_
    | with_reducible refine calm_each (fun _ _ => ?_) ?_
    | dsimp only [id]
    | split
    | exact calm_eq (by with_reducible rfl))

theorem opErrAck_calm (v : Word) (s : State) : calm s (opErrAck v s) := by
  unfold opErrAck
  try dsimp only
  repeat' (first
    | with_reducible exact calm_refl _
    | (with_reducible show calm _ (mErr _ _); refine calm_trans ?_ (calm_mErr _ _ (by first | exact fun _ _ h => h | exact fun _ _ h => (List.mem_filter.mp h).1)))
    | with_reducible refine calm_ite ?_ ?_
    | with_reducible refine calm_doIf (fun _ => ?_) ?_
    | with_reducible refine calm_each (fun _ _ => ?_) ?_
    | dsimp only [id]
    | split
    | exact calm_eq (by with_reducible rfl))

theorem opErrAckAll_calm (v : Word) (s : State) : calm s (opErrAckAll v s) := by
  unfold opErrAckAll
  try dsimp only
  repeat' (first
    | with_reducible exact calm_refl _
    | (with_reducible show calm _ (mErr _ _); refine calm_trans ?_ (calm_mErr _ _ (by first | exact fun _ _ h => h | exact fun _ _ h => (List.mem_filter.mp h).1)))
    | with_reducible refine calm_ite ?_ ?_
    | with_reducible refine calm_doIf (fun _ => ?_) ?_
    | with_reducible refine calm_each (fun _ _ => ?_) ?_
    | dsimp only [id]
    | split
    | exact calm_eq (by with_reducible rfl))

theorem opLatchClr_calm (v : Word) (s : State) : calm s (opLatchClr v s) := by
  unfold opLatchClr
  try dsimp only
  repeat' (first
    | with_reducible exact calm_refl _
    | (with_reducible show calm _ (mErr _ _); refine calm_trans ?_ (calm_mErr _ _ (by first | exact fun _ _ h => h | exact fun _ _ h => (List.mem_filter.mp h).1)))
    | with_reducible refine calm_ite ?_ ?_
    | with_reducible refine calm_doIf (fun _ => ?_) ?_
    | with_reducible refine calm_each (fun _ _ => ?_) ?_
    | dsimp only [id]
    | split
    | exact calm_eq (by with_reducible rfl))

theorem opErrClr_calm (v : Word) (s : State) : calm s (opErrClr v s) := by
  unfold opErrClr
  try dsimp only
  repeat' (first
    | with_reducible exact calm_refl _
    | (with_reducible show calm _ (mErr _ _); refine calm_trans ?_ (calm_mErr _ _ (by first | exact fun _ _ h => h | exact fun _ _ h => (List.mem_filter.mp h).1)))
    | with_reducible refine calm_ite ?_ ?_
    | with_reducible refine calm_doIf (fun _ => ?_) ?_
    | with_reducible refine calm_each (fun _ _ => ?_) ?_
    | dsimp only [id]
    | split
    | exact calm_eq (by with_reducible rfl))

theorem capRefuse_calm (s : State) : calm s (capRefuse s) := by
  unfold capRefuse
  try dsimp only
  repeat' (first
    | with_reducible exact calm_refl _
    | (with_reducible show calm _ (mCap _ _); with_reducible refine calm_trans ?_ (calm_of_keeps (mCap_keeps _ _) (by decide)))
    | (with_reducible show calm _ (notice _ _ _); with_reducible refine calm_trans ?_ (notice_calm _ _ _))
    | with_reducible refine calm_ite ?_ ?_
    | with_reducible refine calm_doIf (fun _ => ?_) ?_
    | with_reducible refine calm_each (fun _ _ => ?_) ?_
    | dsimp only [id]
    | split
    | exact calm_eq (by with_reducible rfl))

theorem opCapCmd_calm (v : Word) (s : State) : optCalm s (opCapCmd v s) := by
  unfold opCapCmd
  try dsimp only
  repeat' (first
    | with_reducible exact calm_refl _
    | with_reducible exact optCalm_none _
    | with_reducible refine optCalm_some ?_
    | with_reducible refine optCalm_ite ?_ ?_
    | with_reducible refine optCalm_took ?_
    | with_reducible refine optCalm_denied ?_
    | (with_reducible show calm _ (capStart _ _); with_reducible refine calm_trans ?_ (calm_of_keeps (capStart_keeps _ _) (by decide)))
    | (with_reducible show calm _ (capRefuse _); with_reducible refine calm_trans ?_ (capRefuse_calm _))
    | (with_reducible show calm _ (capZero _); with_reducible refine calm_trans ?_ (calm_of_keeps (capZero_keeps _) (by decide)))
    | with_reducible refine calm_ite ?_ ?_
    | with_reducible refine calm_doIf (fun _ => ?_) ?_
    | with_reducible refine calm_each (fun _ _ => ?_) ?_
    | dsimp only [id]
    | split
    | exact calm_eq (by with_reducible rfl))

theorem eyeRefuse_calm (s : State) : calm s (eyeRefuse s) := by
  unfold eyeRefuse
  try dsimp only
  repeat' (first
    | with_reducible exact calm_refl _
    | (with_reducible show calm _ (raiseLim _ _ _ _ _ _); refine calm_trans ?_ (calm_raiseLim _ _ _ _ _ _ (by first | exact .inl rfl | exact .inr rfl | (split <;> first | exact .inl rfl | exact .inr rfl))))
    | with_reducible refine calm_ite ?_ ?_
    | with_reducible refine calm_doIf (fun _ => ?_) ?_
    | with_reducible refine calm_each (fun _ _ => ?_) ?_
    | dsimp only [id]
    | split
    | exact calm_eq (by with_reducible rfl))

theorem writeCmd_calm (img : Bool) (a : Nat) (v : Word) (s : State) : optCalm s (writeCmd img a v s) := by
  unfold writeCmd
  try dsimp only
  repeat' (first
    | with_reducible exact calm_refl _
    | (with_reducible show calm _ (opKnot _ _).1; with_reducible refine calm_trans ?_ (opKnot_calm _ _))
    | (with_reducible show calm _ (mSys _ _); with_reducible refine calm_trans ?_ (calm_of_keeps (mSys_keeps _ _) (by decide)))
    | (with_reducible show calm _ (opPaceClr _ _); with_reducible refine calm_trans ?_ (calm_of_keeps (opPaceClr_keeps _ _) (by decide)))
    | (with_reducible show calm _ (mKeep _ _); with_reducible refine calm_trans ?_ (calm_of_keeps (mKeep_keeps _ _) (by decide)))
    | (with_reducible show optCalm _ (opOtpCmd _ _); with_reducible exact opOtpCmd_calm _ _)
    | (with_reducible show calm _ (opNetClr _ _ _); with_reducible refine calm_trans ?_ (calm_of_keeps (opNetClr_keeps _ _ _) (by decide)))
    | (with_reducible show calm _ (opPtpClr _ _ _); with_reducible refine calm_trans ?_ (calm_of_keeps (opPtpClr_keeps _ _ _) (by decide)))
    | (with_reducible show calm _ (opMgtClr _ _); with_reducible refine calm_trans ?_ (calm_of_keeps (opMgtClr_keeps _ _) (by decide)))
    | (with_reducible show calm _ (opTowClr _ _); with_reducible refine calm_trans ?_ (calm_of_keeps (opTowClr_keeps _ _) (by decide)))
    | (with_reducible show calm _ (opMemVerify _ _); with_reducible refine calm_trans ?_ (calm_of_keeps (opMemVerify_keeps _ _) (by decide)))
    | (with_reducible show calm _ (opMemClr _ _); with_reducible refine calm_trans ?_ (calm_of_keeps (opMemClr_keeps _ _) (by decide)))
    | (with_reducible show calm _ (opBnkClr _ _ _); with_reducible refine calm_trans ?_ (calm_of_keeps (opBnkClr_keeps _ _ _) (by decide)))
    | (with_reducible show calm _ (opArbClr _ _); with_reducible refine calm_trans ?_ (calm_of_keeps (opArbClr_keeps _ _) (by decide)))
    | (with_reducible show calm _ (opStrClr _ _); with_reducible refine calm_trans ?_ (calm_of_keeps (opStrClr_keeps _ _) (by decide)))
    | (with_reducible show calm _ (opCmpClr _ _); with_reducible refine calm_trans ?_ (calm_of_keeps (opCmpClr_keeps _ _) (by decide)))
    | (with_reducible show calm _ (mEnc _ _ _); with_reducible refine calm_trans ?_ (calm_of_keeps (mEnc_keeps _ _ _) (by decide)))
    | (with_reducible show calm _ (mMil _ _); with_reducible refine calm_trans ?_ (calm_of_keeps (mMil_keeps _ _) (by decide)))
    | (with_reducible show calm _ (mMs _ _ _); with_reducible refine calm_trans ?_ (calm_of_keeps (mMs_keeps _ _ _) (by decide)))
    | (with_reducible show calm _ (postLive _ _ _); with_reducible refine calm_trans ?_ (calm_of_keeps (postLive_keeps _ _ _) (by decide)))
    | (with_reducible show calm _ (opFirCntClr _ _); with_reducible refine calm_trans ?_ (calm_of_keeps (opFirCntClr_keeps _ _) (by decide)))
    | (with_reducible show calm _ (opGeoCheck _ _); with_reducible refine calm_trans ?_ (calm_of_keeps (opGeoCheck_keeps _ _) (by decide)))
    | (with_reducible show calm _ (opResData _ _); with_reducible refine calm_trans ?_ (calm_of_keeps (opResData_keeps _ _) (by decide)))
    | (with_reducible show calm _ (opNzlReq _ _); with_reducible refine calm_trans ?_ (opNzlReq_calm _ _))
    | (with_reducible show calm _ (opNzlClr _ _); with_reducible refine calm_trans ?_ (calm_of_keeps (opNzlClr_keeps _ _) (by decide)))
    | (with_reducible show calm _ (opGateCmd _ _ _); with_reducible refine calm_trans ?_ (opGateCmd_calm _ _ _))
    | (with_reducible show calm _ (hcfgRefuse _); with_reducible refine calm_trans ?_ (hcfgRefuse_calm _))
    | (with_reducible show calm _ (opHcfgGo _ _); with_reducible refine calm_trans ?_ (calm_of_keeps (opHcfgGo_keeps _ _) (by decide)))
    | (with_reducible show calm _ (eyeRefuse _); with_reducible refine calm_trans ?_ (eyeRefuse_calm _))
    | (with_reducible show calm _ (opEyeGo _ _); with_reducible refine calm_trans ?_ (calm_of_keeps (opEyeGo_keeps _ _) (by decide)))
    | (with_reducible show calm _ (opGulClr _ _ _); with_reducible refine calm_trans ?_ (opGulClr_calm _ _ _))
    | (with_reducible show calm _ (opCamClr _ _ _); with_reducible refine calm_trans ?_ (calm_of_keeps (opCamClr_keeps _ _ _) (by decide)))
    | (with_reducible show calm _ (opInsRel _ _ _); with_reducible refine calm_trans ?_ (calm_of_keeps (opInsRel_keeps _ _ _) (by decide)))
    | (with_reducible show calm _ (opInsClr _ _ _); with_reducible refine calm_trans ?_ (calm_of_keeps (opInsClr_keeps _ _ _) (by decide)))
    | (with_reducible show calm _ (axTblStep _); with_reducible refine calm_trans ?_ (calm_of_keeps (axTblStep_keeps _) (by decide)))
    | (with_reducible show calm _ (notice _ _ _); with_reducible refine calm_trans ?_ (notice_calm _ _ _))
    | (with_reducible show calm _ (opAxsTbl _ _); with_reducible refine calm_trans ?_ (calm_of_keeps (opAxsTbl_keeps _ _) (by decide)))
    | (with_reducible show calm _ (mAxs _ _ _); with_reducible refine calm_trans ?_ (calm_of_keeps (mAxs_keeps _ _ _) (by decide)))
    | (with_reducible show calm _ (opLmpCmd _ _); with_reducible refine calm_trans ?_ (opLmpCmd_calm _ _))
    | (with_reducible show calm _ (opLampZone _ _); with_reducible refine calm_trans ?_ (calm_of_keeps (opLampZone_keeps _ _) (by decide)))
    | (with_reducible show calm _ (opLampUtbl _ _); with_reducible refine calm_trans ?_ (calm_of_keeps (opLampUtbl_keeps _ _) (by decide)))
    | (with_reducible show calm _ (mLmp _ _); with_reducible refine calm_trans ?_ (calm_of_keeps (mLmp_keeps _ _) (by decide)))
    | (with_reducible show calm _ (opLbusGo _ _ _); with_reducible refine calm_trans ?_ (calm_of_keeps (opLbusGo_keeps _ _ _) (by decide)))
    | (with_reducible show calm _ (opParClr _ _); with_reducible refine calm_trans ?_ (calm_of_keeps (opParClr_keeps _ _) (by decide)))
    | (with_reducible show calm _ (opCalForce _ _); with_reducible refine calm_trans ?_ (calm_of_keeps (opCalForce_keeps _ _) (by decide)))
    | (with_reducible show calm _ (opErrAck _ _); with_reducible refine calm_trans ?_ (opErrAck_calm _ _))
    | (with_reducible show calm _ (opErrAckAll _ _); with_reducible refine calm_trans ?_ (opErrAckAll_calm _ _))
    | (with_reducible show calm _ (opLatchClr _ _); with_reducible refine calm_trans ?_ (opLatchClr_calm _ _))
    | (with_reducible show calm _ (opErrClr _ _); with_reducible refine calm_trans ?_ (opErrClr_calm _ _))
    | (with_reducible show optCalm _ (opCapCmd _ _); with_reducible exact opCapCmd_calm _ _)
    | with_reducible exact optCalm_none _
    | with_reducible refine optCalm_ite ?_ ?_
    | with_reducible refine optCalm_took ?_
    | with_reducible refine optCalm_denied ?_
    | with_reducible refine optCalm_some ?_
    | with_reducible refine calm_ite ?_ ?_
    | with_reducible refine calm_doIf (fun _ => ?_) ?_
    | with_reducible refine calm_each (fun _ _ => ?_) ?_
    | dsimp only [id]
    | split
    | exact calm_eq (by with_reducible rfl))

theorem regWrite_calm (img : Bool) (a : Nat) (v : Word) (s : State) : calm s (regWrite img a v s).1 := by
  unfold regWrite
  split
  · exact calm_refl s
  dsimp only
  refine calm_trans ?_ (calm_of_keeps (otpGate_keeps _ _ _) (by decide))
  cases h : writeCmd img a v s with
  | some r => exact writeCmd_calm img a v s r h
  | none =>
    dsimp only
    split
    · exact writeStored_calm _ _ _ _ s
    · exact calm_refl s

theorem dbgRefuse_calm (s : State) : calm s (dbgRefuse s) := by
  unfold dbgRefuse
  try dsimp only
  repeat' (first
    | with_reducible exact calm_refl _
    | (with_reducible show calm _ (raiseLim _ _ _ _ _ _); refine calm_trans ?_ (calm_raiseLim _ _ _ _ _ _ (by first | exact .inl rfl | exact .inr rfl | (split <;> first | exact .inl rfl | exact .inr rfl))))
    | with_reducible refine calm_ite ?_ ?_
    | with_reducible refine calm_doIf (fun _ => ?_) ?_
    | with_reducible refine calm_each (fun _ _ => ?_) ?_
    | dsimp only [id]
    | split
    | exact calm_eq (by with_reducible rfl))

theorem masterWrite_calm (m : Master) (a : Nat) (v : Word) (s : State) : calm s (masterWrite m a v s).1 := by
  unfold masterWrite
  try dsimp only
  repeat' (first
    | with_reducible exact calm_refl _
    | (with_reducible show calm _ (mErr _ _); refine calm_trans ?_ (calm_mErr _ _ (by first | exact fun _ _ h => h | exact fun _ _ h => (List.mem_filter.mp h).1)))
    | (with_reducible show calm _ (notice _ _ _); with_reducible refine calm_trans ?_ (notice_calm _ _ _))
    | (with_reducible show calm _ (regWrite _ _ _ _).1; with_reducible refine calm_trans ?_ (regWrite_calm _ _ _ _))
    | (with_reducible show calm _ (dbgRefuse _); with_reducible refine calm_trans ?_ (dbgRefuse_calm _))
    | with_reducible refine calm_ite ?_ ?_
    | with_reducible refine calm_doIf (fun _ => ?_) ?_
    | with_reducible refine calm_each (fun _ _ => ?_) ?_
    | dsimp only [id]
    | split
    | exact calm_eq (by with_reducible rfl))

theorem masterRead_calm (m : Master) (a : Nat) (s : State) : calm s (masterRead m a s).2.1 := by
  unfold masterRead
  try dsimp only
  repeat' (first
    | with_reducible exact calm_refl _
    | (with_reducible show calm _ (readEffect _ _); with_reducible refine calm_trans ?_ (readEffect_calm _ _))
    | with_reducible refine calm_ite ?_ ?_
    | with_reducible refine calm_doIf (fun _ => ?_) ?_
    | with_reducible refine calm_each (fun _ _ => ?_) ?_
    | dsimp only [id]
    | split
    | exact calm_eq (by with_reducible rfl))

/-! Machine/Reset.lean -/

theorem blocksReset_calm (s : State) : calm s (blocksReset s) := by
  unfold blocksReset
  extract_lets _ _ _ r r2
  have h : calm s r := fun x hx => absurd (show x ∈ ([] : List ErrEv) from hx) List.not_mem_nil
  clear_value r
  exact calm_each (fun a u => calm_of_keeps (mAxs_keeps _ _ u) (by decide)) (calm_trans h (calm_of_keeps (mBank_keeps _ _ _) (by decide)))

theorem logCoreLost_calm (s : State) : calm s (logCoreLost s) := by
  unfold logCoreLost
  try dsimp only
  repeat' (first
    | with_reducible exact calm_refl _
    | (with_reducible show calm _ (mErr _ _); refine calm_trans ?_ (calm_mErr _ _ (by first | exact fun _ _ h => h | exact fun _ _ h => (List.mem_filter.mp h).1)))
    | (with_reducible show calm _ (mKeep _ _); with_reducible refine calm_trans ?_ (calm_of_keeps (mKeep_keeps _ _) (by decide)))
    | with_reducible refine calm_ite ?_ ?_
    | with_reducible refine calm_doIf (fun _ => ?_) ?_
    | with_reducible refine calm_each (fun _ _ => ?_) ?_
    | dsimp only [id]
    | split
    | exact calm_eq (by with_reducible rfl))

theorem coldReset_calm (cause : BitVec 3) (s : State) : calm s (coldReset cause s) := by
  unfold coldReset
  try dsimp only
  repeat' (first
    | with_reducible exact calm_refl _
    | (with_reducible show calm _ (mCfg _ _); with_reducible refine calm_trans ?_ (calm_of_keeps (mCfg_keeps _ _) (by decide)))
    | (with_reducible show calm _ (mKeep _ _); with_reducible refine calm_trans ?_ (calm_of_keeps (mKeep_keeps _ _) (by decide)))
    | (with_reducible show calm _ (blocksReset _); with_reducible refine calm_trans ?_ (blocksReset_calm _))
    | (with_reducible show calm _ (resetOutputs _); with_reducible refine calm_trans ?_ (calm_of_keeps (resetOutputs_keeps _) (by decide)))
    | (with_reducible show calm _ (milestonesOff _); with_reducible refine calm_trans ?_ (calm_of_keeps (milestonesOff_keeps _) (by decide)))
    | (with_reducible show calm _ (logCoreLost _); with_reducible refine calm_trans ?_ (logCoreLost_calm _))
    | with_reducible refine calm_ite ?_ ?_
    | with_reducible refine calm_doIf (fun _ => ?_) ?_
    | with_reducible refine calm_each (fun _ _ => ?_) ?_
    | dsimp only [id]
    | split
    | exact calm_eq (by with_reducible rfl))

theorem supplyLow_calm (s : State) : calm s (supplyLow s) := by
  unfold supplyLow
  try dsimp only
  repeat' (first
    | with_reducible exact calm_refl _
    | (with_reducible show calm _ (mCfg _ _); with_reducible refine calm_trans ?_ (calm_of_keeps (mCfg_keeps _ _) (by decide)))
    | (with_reducible show calm _ (coldReset _ _); with_reducible refine calm_trans ?_ (coldReset_calm _ _))
    | with_reducible refine calm_ite ?_ ?_
    | with_reducible refine calm_doIf (fun _ => ?_) ?_
    | with_reducible refine calm_each (fun _ _ => ?_) ?_
    | dsimp only [id]
    | split
    | exact calm_eq (by with_reducible rfl))

/-! Machine/Image.lean -/

theorem applyRegs_calm : ∀ (n : Nat) (b : Bytes) (s : State), calm s (applyRegs n b s).1
  | 0, _, s => calm_refl s
  | n + 1, b, s => by
    unfold applyRegs
    dsimp only
    split
    · exact calm_trans (masterWrite_calm _ _ _ s) (applyRegs_calm n _ _)
    · exact masterWrite_calm _ _ _ s
    · exact masterWrite_calm _ _ _ s

theorem imageWrites_calm : ∀ (l : List (Nat × Word)) (s : State), calm s (imageWrites l s).1
  | [], s => calm_refl s
  | x :: l, s => by
    unfold imageWrites
    dsimp only
    split
    · exact calm_trans (regWrite_calm _ _ _ s) (imageWrites_calm l _)
    · exact regWrite_calm _ _ _ s

theorem applyNetId_calm (b : Bytes) (s : State) : calm s (applyNetId b s).1 := by
  unfold applyNetId
  try dsimp only
  repeat' (first
    | with_reducible exact calm_refl _
    | (with_reducible show calm _ (imageWrites _ _).1; with_reducible refine calm_trans ?_ (imageWrites_calm _ _))
    | with_reducible refine calm_ite ?_ ?_
    | with_reducible refine calm_doIf (fun _ => ?_) ?_
    | with_reducible refine calm_each (fun _ _ => ?_) ?_
    | dsimp only [id]
    | split
    | exact calm_eq (by with_reducible rfl))

theorem applyGeom_calm (b : Bytes) (s : State) : calm s (applyGeom b s).1 := by
  unfold applyGeom
  try dsimp only
  repeat' (first
    | with_reducible exact calm_refl _
    | (with_reducible show calm _ (mStg _ _); with_reducible refine calm_trans ?_ (calm_of_keeps (mStg_keeps _ _) (by decide)))
    | (with_reducible show calm _ (imageWrites _ _).1; with_reducible refine calm_trans ?_ (imageWrites_calm _ _))
    | with_reducible refine calm_ite ?_ ?_
    | with_reducible refine calm_doIf (fun _ => ?_) ?_
    | with_reducible refine calm_each (fun _ _ => ?_) ?_
    | dsimp only [id]
    | split
    | exact calm_eq (by with_reducible rfl))

theorem applyRecord_calm (r : Bytes) (s : State) : calm s (applyRecord r s).1 := by
  unfold applyRecord
  try dsimp only
  repeat' (first
    | with_reducible exact calm_refl _
    | (with_reducible show calm _ (applyRegs _ _ _).1; with_reducible refine calm_trans ?_ (applyRegs_calm _ _ _))
    | (with_reducible show calm _ (applyNetId _ _).1; with_reducible refine calm_trans ?_ (applyNetId_calm _ _))
    | (with_reducible show calm _ (applyKeys _ _).1; with_reducible refine calm_trans ?_ (calm_of_keeps (applyKeys_keeps _ _) (by decide)))
    | (with_reducible show calm _ (applyDram _ _).1; with_reducible refine calm_trans ?_ (calm_of_keeps (applyDram_keeps _ _) (by decide)))
    | (with_reducible show calm _ (applyCal _ _).1; with_reducible refine calm_trans ?_ (calm_of_keeps (applyCal_keeps _ _) (by decide)))
    | (with_reducible show calm _ (applyTable _ _).1; with_reducible refine calm_trans ?_ (calm_of_keeps (applyTable_keeps _ _) (by decide)))
    | (with_reducible show calm _ (applyGeom _ _).1; with_reducible refine calm_trans ?_ (applyGeom_calm _ _))
    | with_reducible refine calm_ite ?_ ?_
    | with_reducible refine calm_doIf (fun _ => ?_) ?_
    | with_reducible refine calm_each (fun _ _ => ?_) ?_
    | dsimp only [id]
    | split
    | exact calm_eq (by with_reducible rfl))

theorem accept_calm (boot : BitVec 64) (s : State) : calm s (accept boot s) := by
  unfold accept
  try dsimp only
  repeat' (first
    | with_reducible exact calm_refl _
    | (with_reducible show calm _ (mMgt _ _); with_reducible refine calm_trans ?_ (calm_of_keeps (mMgt_keeps _ _) (by decide)))
    | (with_reducible show calm _ (mCfg _ _); with_reducible refine calm_trans ?_ (calm_of_keeps (mCfg_keeps _ _) (by decide)))
    | (with_reducible show calm _ (faultErr _ _ _); with_reducible refine calm_trans ?_ (faultErr_calm _ _ _))
    | (with_reducible show calm _ (dramInit _ _); with_reducible refine calm_trans ?_ (calm_of_keeps (dramInit_keeps _ _) (by decide)))
    | (with_reducible show calm _ (mChan _ _ _); with_reducible refine calm_trans ?_ (calm_of_keeps (mChan_keeps _ _ _) (by decide)))
    | (with_reducible show calm _ (tethStart _); with_reducible refine calm_trans ?_ (calm_of_keeps (tethStart_keeps _) (by decide)))
    | (with_reducible show calm _ (linksStart _); with_reducible refine calm_trans ?_ (calm_of_keeps (linksStart_keeps _) (by decide)))
    | (with_reducible show calm _ (setDev _ _); with_reducible refine calm_trans ?_ (calm_of_keeps (setDev_keeps _ _) (by decide)))
    | with_reducible refine calm_ite ?_ ?_
    | with_reducible refine calm_doIf (fun _ => ?_) ?_
    | with_reducible refine calm_each (fun _ _ => ?_) ?_
    | dsimp only [id]
    | split
    | exact calm_eq (by with_reducible rfl))

/-! Machine/StartUp.lean -/

theorem lanewaitOver_calm (s : State) : calm s (lanewaitOver s) := by
  unfold lanewaitOver
  try dsimp only
  repeat' (first
    | with_reducible exact calm_refl _
    | (with_reducible show calm _ (mCfg _ _); with_reducible refine calm_trans ?_ (calm_of_keeps (mCfg_keeps _ _) (by decide)))
    | (with_reducible show calm _ (notice _ _ _); with_reducible refine calm_trans ?_ (notice_calm _ _ _))
    | with_reducible refine calm_ite ?_ ?_
    | with_reducible refine calm_doIf (fun _ => ?_) ?_
    | with_reducible refine calm_each (fun _ _ => ?_) ?_
    | dsimp only [id]
    | split
    | exact calm_eq (by with_reducible rfl))

theorem paceOne_calm (n : Nat) (m : BitVec 16) (s : State) : calm s (paceOne n m s) := by
  unfold paceOne
  try dsimp only
  repeat' (first
    | with_reducible exact calm_refl _
    | (with_reducible show calm _ (mSys _ _); with_reducible refine calm_trans ?_ (calm_of_keeps (mSys_keeps _ _) (by decide)))
    | (with_reducible show calm _ (notice _ _ _); with_reducible refine calm_trans ?_ (notice_calm _ _ _))
    | (with_reducible show calm _ (faultErr _ _ _); with_reducible refine calm_trans ?_ (faultErr_calm _ _ _))
    | with_reducible refine calm_ite ?_ ?_
    | with_reducible refine calm_doIf (fun _ => ?_) ?_
    | with_reducible refine calm_each (fun _ _ => ?_) ?_
    | dsimp only [id]
    | split
    | exact calm_eq (by with_reducible rfl))

theorem paceAll_calm (measured : List Nat) (s : State) : calm s (paceAll measured s) := by
  unfold paceAll
  try dsimp only
  repeat' (first
    | with_reducible exact calm_refl _
    | (with_reducible show calm _ (advicePins _); with_reducible refine calm_trans ?_ (calm_of_keeps (advicePins_keeps _) (by decide)))
    | (with_reducible show calm _ (paceOne _ _ _); with_reducible refine calm_trans ?_ (paceOne_calm _ _ _))
    | with_reducible refine calm_ite ?_ ?_
    | with_reducible refine calm_doIf (fun _ => ?_) ?_
    | with_reducible refine calm_each (fun _ _ => ?_) ?_
    | dsimp only [id]
    | split
    | exact calm_eq (by with_reducible rfl))

/-! Machine/Waypost.lean -/

theorem tapReset_calm (s : State) : calm s (tapReset s) := by
  unfold tapReset
  try dsimp only
  repeat' (first
    | with_reducible exact calm_refl _
    | (with_reducible show calm _ (placeFragments _); with_reducible refine calm_trans ?_ (placeFragments_calm _))
    | with_reducible refine calm_ite ?_ ?_
    | with_reducible refine calm_doIf (fun _ => ?_) ?_
    | with_reducible refine calm_each (fun _ _ => ?_) ?_
    | dsimp only [id]
    | split
    | exact calm_eq (by with_reducible rfl))

theorem wpRefuse_calm (s : State) : calm s (wpRefuse s) := by
  unfold wpRefuse
  try dsimp only
  repeat' (first
    | with_reducible exact calm_refl _
    | (with_reducible show calm _ (dbgRefuse _); with_reducible refine calm_trans ?_ (dbgRefuse_calm _))
    | (with_reducible show calm _ (wpDone _ _); with_reducible refine calm_trans ?_ (calm_of_keeps (wpDone_keeps _ _) (by decide)))
    | with_reducible refine calm_ite ?_ ?_
    | with_reducible refine calm_doIf (fun _ => ?_) ?_
    | with_reducible refine calm_each (fun _ _ => ?_) ?_
    | dsimp only [id]
    | split
    | exact calm_eq (by with_reducible rfl))

theorem wpReadReg_calm (a : Word) (s : State) : calm s (wpReadReg a s) := by
  unfold wpReadReg
  try dsimp only
  repeat' (first
    | with_reducible exact calm_refl _
    | (with_reducible show calm _ (wpEnd _ _ _); with_reducible refine calm_trans ?_ (calm_of_keeps (wpEnd_keeps _ _ _) (by decide)))
    | (with_reducible show calm _ (masterRead _ _ _).2.1; with_reducible refine calm_trans ?_ (masterRead_calm _ _ _))
    | with_reducible refine calm_ite ?_ ?_
    | with_reducible refine calm_doIf (fun _ => ?_) ?_
    | with_reducible refine calm_each (fun _ _ => ?_) ?_
    | dsimp only [id]
    | split
    | exact calm_eq (by with_reducible rfl))

theorem wpReadRaw_calm (ch ca : Nat) (fl : List Flip) (s : State) : calm s (wpReadRaw ch ca fl s) := by
  unfold wpReadRaw
  try dsimp only
  repeat' (first
    | with_reducible exact calm_refl _
    | (with_reducible show calm _ (mErr _ _); refine calm_trans ?_ (calm_mErr _ _ (by first | exact fun _ _ h => h | exact fun _ _ h => (List.mem_filter.mp h).1)))
    | (with_reducible show calm _ (mMem _ _); with_reducible refine calm_trans ?_ (calm_of_keeps (mMem_keeps _ _) (by decide)))
    | (with_reducible show calm _ (tickFree _); with_reducible refine calm_trans ?_ (calm_of_keeps (tickFree_keeps _) (by decide)))
    | (with_reducible show calm _ (wpEnd _ _ _); with_reducible refine calm_trans ?_ (calm_of_keeps (wpEnd_keeps _ _ _) (by decide)))
    | with_reducible refine calm_ite ?_ ?_
    | with_reducible refine calm_doIf (fun _ => ?_) ?_
    | with_reducible refine calm_each (fun _ _ => ?_) ?_
    | dsimp only [id]
    | split
    | exact calm_eq (by with_reducible rfl))

theorem wpWriteReg_calm (a v : Word) (s : State) : calm s (wpWriteReg a v s) := by
  unfold wpWriteReg
  try dsimp only
  repeat' (first
    | with_reducible exact calm_refl _
    | (with_reducible show calm _ (masterWrite _ _ _ _).1; with_reducible refine calm_trans ?_ (masterWrite_calm _ _ _ _))
    | (with_reducible show calm _ (wpDone _ _); with_reducible refine calm_trans ?_ (calm_of_keeps (wpDone_keeps _ _) (by decide)))
    | with_reducible refine calm_ite ?_ ?_
    | with_reducible refine calm_doIf (fun _ => ?_) ?_
    | with_reducible refine calm_each (fun _ _ => ?_) ?_
    | dsimp only [id]
    | split
    | exact calm_eq (by with_reducible rfl))

theorem wpHalt_calm (s : State) : calm s (wpHalt s) := by
  unfold wpHalt
  try dsimp only
  repeat' (first
    | with_reducible exact calm_refl _
    | (with_reducible show calm _ (opHalt _ _); with_reducible refine calm_trans ?_ (opHalt_calm _ _))
    | (with_reducible show calm _ (wpDone _ _); with_reducible refine calm_trans ?_ (calm_of_keeps (wpDone_keeps _ _) (by decide)))
    | with_reducible refine calm_ite ?_ ?_
    | with_reducible refine calm_doIf (fun _ => ?_) ?_
    | with_reducible refine calm_each (fun _ _ => ?_) ?_
    | dsimp only [id]
    | split
    | exact calm_eq (by with_reducible rfl))

theorem wpResume_calm (s : State) : calm s (wpResume s) := by
  unfold wpResume
  try dsimp only
  repeat' (first
    | with_reducible exact calm_refl _
    | (with_reducible show calm _ (creditWatch _); with_reducible refine calm_trans ?_ (calm_of_keeps (creditWatch_keeps _) (by decide)))
    | (with_reducible show calm _ (placeFragments _); with_reducible refine calm_trans ?_ (placeFragments_calm _))
    | (with_reducible show calm _ (opUnhalt _); with_reducible refine calm_trans ?_ (calm_of_keeps (opUnhalt_keeps _) (by decide)))
    | (with_reducible show calm _ (wpDone _ _); with_reducible refine calm_trans ?_ (calm_of_keeps (wpDone_keeps _ _) (by decide)))
    | (with_reducible show calm _ (opResume _); with_reducible refine calm_trans ?_ (calm_of_keeps (opResume_keeps _) (by decide)))
    | with_reducible refine calm_ite ?_ ?_
    | with_reducible refine calm_doIf (fun _ => ?_) ?_
    | with_reducible refine calm_each (fun _ _ => ?_) ?_
    | dsimp only [id]
    | split
    | exact calm_eq (by with_reducible rfl))

theorem wpStep_calm (d : Word) (s : State) : calm s (wpStep d s) := by
  unfold wpStep
  try dsimp only
  repeat' (first
    | with_reducible exact calm_refl _
    | (with_reducible show calm _ (mDbg _ _); with_reducible refine calm_trans ?_ (calm_of_keeps (mDbg_keeps _ _) (by decide)))
    | (with_reducible show calm _ (placeFragments _); with_reducible refine calm_trans ?_ (placeFragments_calm _))
    | (with_reducible show calm _ (wpDone _ _); with_reducible refine calm_trans ?_ (calm_of_keeps (wpDone_keeps _ _) (by decide)))
    | (with_reducible show calm _ (wpRefuse _); with_reducible refine calm_trans ?_ (wpRefuse_calm _))
    | with_reducible refine calm_ite ?_ ?_
    | with_reducible refine calm_doIf (fun _ => ?_) ?_
    | with_reducible refine calm_each (fun _ _ => ?_) ?_
    | dsimp only [id]
    | split
    | exact calm_eq (by with_reducible rfl))

theorem wpCapture_calm (mask : Word) (s : State) : calm s (wpCapture mask s) := by
  unfold wpCapture
  try dsimp only
  repeat' (first
    | with_reducible exact calm_refl _
    | (with_reducible show calm _ (capStart _ _); with_reducible refine calm_trans ?_ (calm_of_keeps (capStart_keeps _ _) (by decide)))
    | (with_reducible show calm _ (capRefuse _); with_reducible refine calm_trans ?_ (capRefuse_calm _))
    | (with_reducible show calm _ (wpDone _ _); with_reducible refine calm_trans ?_ (calm_of_keeps (wpDone_keeps _ _) (by decide)))
    | (with_reducible show calm _ (wpRefuse _); with_reducible refine calm_trans ?_ (wpRefuse_calm _))
    | with_reducible refine calm_ite ?_ ?_
    | with_reducible refine calm_doIf (fun _ => ?_) ?_
    | with_reducible refine calm_each (fun _ _ => ?_) ?_
    | dsimp only [id]
    | split
    | exact calm_eq (by with_reducible rfl))

/-! Machine/Rmp.lean -/

theorem nozWrite_calm (o : Nat) (d : Bytes) (s : State) : calm s (nozWrite o d s) := by
  unfold nozWrite
  try dsimp only
  repeat' (first
    | with_reducible exact calm_refl _
    | (with_reducible show calm _ (nozSwap _ _ _ _ _); with_reducible refine calm_trans ?_ (nozSwap_calm _ _ _ _ _))
    | with_reducible refine calm_ite ?_ ?_
    | with_reducible refine calm_doIf (fun _ => ?_) ?_
    | with_reducible refine calm_each (fun _ _ => ?_) ?_
    | dsimp only [id]
    | split
    | exact calm_eq (by with_reducible rfl))

theorem rmpBankWrite_calm (b o al : Nat) (d : Bytes) (s : State) : calm s (rmpBankWrite b o al d s).2 := by
  unfold rmpBankWrite
  try dsimp only
  repeat' (first
    | with_reducible exact calm_refl _
    | (with_reducible show calm _ (bankGrant _ _ _); with_reducible refine calm_trans ?_ (calm_of_keeps (bankGrant_keeps _ _ _) (by decide)))
    | (with_reducible show calm _ (bankRefuse _ _); with_reducible refine calm_trans ?_ (bankRefuse_calm _ _))
    | (with_reducible show calm _ (notice _ _ _); with_reducible refine calm_trans ?_ (notice_calm _ _ _))
    | (with_reducible show calm _ (raiseLim _ _ _ _ _ _); refine calm_trans ?_ (calm_raiseLim _ _ _ _ _ _ (by first | exact .inl rfl | exact .inr rfl | (split <;> first | exact .inl rfl | exact .inr rfl))))
    | (with_reducible show calm _ (nozWrite _ _ _); with_reducible refine calm_trans ?_ (nozWrite_calm _ _ _))
    | (with_reducible show calm _ (bankPut _ _ _ _); with_reducible refine calm_trans ?_ (calm_of_keeps (bankPut_keeps _ _ _ _) (by decide)))
    | with_reducible refine calm_ite ?_ ?_
    | with_reducible refine calm_doIf (fun _ => ?_) ?_
    | with_reducible refine calm_each (fun _ _ => ?_) ?_
    | dsimp only [id]
    | split
    | exact calm_eq (by with_reducible rfl))

theorem rmpReadWord_calm (space a : Nat) (s : State) : calm s (rmpReadWord space a s).2.2 := by
  unfold rmpReadWord
  try dsimp only
  repeat' (first
    | with_reducible exact calm_refl _
    | (with_reducible show calm _ (bankRefuse _ _); with_reducible refine calm_trans ?_ (bankRefuse_calm _ _))
    | (with_reducible show calm _ (bankGrant _ _ _); with_reducible refine calm_trans ?_ (calm_of_keeps (bankGrant_keeps _ _ _) (by decide)))
    | (with_reducible show calm _ (masterRead _ _ _).2.1; with_reducible refine calm_trans ?_ (masterRead_calm _ _ _))
    | with_reducible refine calm_ite ?_ ?_
    | with_reducible refine calm_doIf (fun _ => ?_) ?_
    | with_reducible refine calm_each (fun _ _ => ?_) ?_
    | dsimp only [id]
    | split
    | exact calm_eq (by with_reducible rfl))

theorem rmpReads_calm (space : Nat) : ∀ (n a : Nat) (s : State), calm s (rmpReads space n a s).2.2
  | 0, _, s => calm_refl s
  | n + 1, a, s => by
    unfold rmpReads
    dsimp only
    split
    · exact rmpReadWord_calm space a s
    · exact calm_trans (rmpReadWord_calm space a s) (rmpReads_calm space n _ _)

theorem rmpWrites_calm (space : Nat) : ∀ (k a : Nat) (d : Bytes) (n : Nat) (s : State), calm s (rmpWrites space k a d n s).2.2
  | 0, _, _, _, s => calm_refl s
  | k + 1, a, d, n, s => by
    unfold rmpWrites
    extract_lets v r0 r
    have h : calm s r.2 := by
      unfold r
      split
      · exact masterWrite_calm .rmp a v s
      · exact rmpBankWrite_calm _ a 1 _ s
    clear_value r
    split
    · exact h
    · exact calm_trans h (rmpWrites_calm space k _ _ _ _)

theorem rmpCommand_calm (code arg : Nat) (s : State) : calm s (rmpCommand code arg s).2 := by
  unfold rmpCommand
  try dsimp only
  repeat' (first
    | with_reducible exact calm_refl _
    | (with_reducible show calm _ (mMgt _ _); with_reducible refine calm_trans ?_ (calm_of_keeps (mMgt_keeps _ _) (by decide)))
    | (with_reducible show calm _ (ctlCommand _ _); with_reducible refine calm_trans ?_ (ctlCommand_calm _ _))
    | (with_reducible show calm _ (opYield _ _).2; with_reducible refine calm_trans ?_ (calm_of_keeps (opYield_keeps _ _) (by decide)))
    | with_reducible refine calm_ite ?_ ?_
    | with_reducible refine calm_doIf (fun _ => ?_) ?_
    | with_reducible refine calm_each (fun _ _ => ?_) ?_
    | dsimp only [id]
    | split
    | exact calm_eq (by with_reducible rfl))

theorem rmpExec_calm (ss : Session) (k : Key) (ty : Nat) (b : Bytes) (s : State) : calm s (rmpExec ss k ty b s).2.2 := by
  unfold rmpExec
  try dsimp only
  repeat' (first
    | with_reducible exact calm_refl _
    | (with_reducible show calm _ (opSubscribe _ _ _ _ _).2.2; with_reducible refine calm_trans ?_ (calm_of_keeps (opSubscribe_keeps _ _ _ _ _) (by decide)))
    | (with_reducible show calm _ (rmpBankWrite _ _ _ _ _).2; with_reducible refine calm_trans ?_ (rmpBankWrite_calm _ _ _ _ _))
    | (with_reducible show calm _ (rmpReads _ _ _ _).2.2; with_reducible refine calm_trans ?_ (rmpReads_calm _ _ _ _))
    | (with_reducible show calm _ (rmpWrites _ _ _ _ _ _).2.2; with_reducible refine calm_trans ?_ (rmpWrites_calm _ _ _ _ _ _))
    | (with_reducible show calm _ (rmpCommand _ _ _).2; with_reducible refine calm_trans ?_ (rmpCommand_calm _ _ _))
    | with_reducible refine calm_ite ?_ ?_
    | with_reducible refine calm_doIf (fun _ => ?_) ?_
    | with_reducible refine calm_each (fun _ _ => ?_) ?_
    | dsimp only [id]
    | split
    | exact calm_eq (by with_reducible rfl))

theorem rmpServe_calm (v : Via) (ss : Session) (k : Key) (d : Bytes) (s : State) : calm s (rmpServe v ss k d s) := by
  unfold rmpServe
  try dsimp only
  repeat' (first
    | with_reducible exact calm_refl _
    | (with_reducible show calm _ (rmpReply _ _ _ _ _ _ _ _ _); with_reducible refine calm_trans ?_ (calm_of_keeps (rmpReply_keeps _ _ _ _ _ _ _ _ _) (by decide)))
    | (with_reducible show calm _ (rmpExec _ _ _ _ _).2.2; with_reducible refine calm_trans ?_ (rmpExec_calm _ _ _ _ _))
    | (with_reducible show calm _ (mMgt _ _); with_reducible refine calm_trans ?_ (calm_of_keeps (mMgt_keeps _ _) (by decide)))
    | with_reducible refine calm_ite ?_ ?_
    | with_reducible refine calm_doIf (fun _ => ?_) ?_
    | with_reducible refine calm_each (fun _ _ => ?_) ?_
    | dsimp only [id]
    | split
    | exact calm_eq (by with_reducible rfl))

theorem rmpRx_calm (v : Via) (ss : Session) (d : Bytes) (s : State) : calm s (rmpRx v ss d s) := by
  unfold rmpRx
  try dsimp only
  repeat' (first
    | with_reducible exact calm_refl _
    | (with_reducible show calm _ (mMgt _ _); with_reducible refine calm_trans ?_ (calm_of_keeps (mMgt_keeps _ _) (by decide)))
    | (with_reducible show calm _ (raiseLim _ _ _ _ _ _); refine calm_trans ?_ (calm_raiseLim _ _ _ _ _ _ (by first | exact .inl rfl | exact .inr rfl | (split <;> first | exact .inl rfl | exact .inr rfl))))
    | (with_reducible show calm _ (rmpServe _ _ _ _ _); with_reducible refine calm_trans ?_ (rmpServe_calm _ _ _ _ _))
    | (with_reducible show calm _ (rmpReply _ _ _ _ _ _ _ _ _); with_reducible refine calm_trans ?_ (calm_of_keeps (rmpReply_keeps _ _ _ _ _ _ _ _ _) (by decide)))
    | (with_reducible show calm _ (sendOn _ _ _ _ _ _); with_reducible refine calm_trans ?_ (calm_of_keeps (sendOn_keeps _ _ _ _ _ _) (by decide)))
    | (with_reducible show calm _ (mWin _ _ _); with_reducible refine calm_trans ?_ (calm_of_keeps (mWin_keeps _ _ _) (by decide)))
    | with_reducible refine calm_ite ?_ ?_
    | with_reducible refine calm_doIf (fun _ => ?_) ?_
    | with_reducible refine calm_each (fun _ _ => ?_) ?_
    | dsimp only [id]
    | split
    | exact calm_eq (by with_reducible rfl))

theorem rmpRun_calm (rx : Arrival) (ss : Session) (d : Bytes) (s : State) : calm s (rmpRun rx ss d s) := by
  unfold rmpRun
  try dsimp only
  repeat' (first
    | with_reducible exact calm_refl _
    | (with_reducible show calm _ (rxFrame _ _ _); with_reducible refine calm_trans ?_ (rxFrame_calm (fun _ => ?_) _ _))
    | (with_reducible show calm _ (rmpRx _ _ _ _); with_reducible refine calm_trans ?_ (rmpRx_calm _ _ _ _))
    | with_reducible refine calm_ite ?_ ?_
    | with_reducible refine calm_doIf (fun _ => ?_) ?_
    | with_reducible refine calm_each (fun _ _ => ?_) ?_
    | dsimp only [id]
    | split
    | exact calm_eq (by with_reducible rfl))

/-! Machine/RegCmds.lean -/

theorem accRead_calm (m : Master) (a : Nat) (s : State) : calm s (accRead m a s) := by
  unfold accRead
  try dsimp only
  repeat' (first
    | with_reducible exact calm_refl _
    | (with_reducible show calm _ (emit _ _); with_reducible refine calm_trans ?_ (calm_of_keeps (emit_keeps _ _) (by decide)))
    | (with_reducible show calm _ (masterRead _ _ _).2.1; with_reducible refine calm_trans ?_ (masterRead_calm _ _ _))
    | with_reducible refine calm_ite ?_ ?_
    | with_reducible refine calm_doIf (fun _ => ?_) ?_
    | with_reducible refine calm_each (fun _ _ => ?_) ?_
    | dsimp only [id]
    | split
    | exact calm_eq (by with_reducible rfl))

theorem camOther_calm (p : Nat) (why : CamIgnored) (s : State) : calm s (camOther p why s) := by
  unfold camOther
  try dsimp only
  repeat' (first
    | with_reducible exact calm_refl _
    | (with_reducible show calm _ (camIgnore _ _); with_reducible refine calm_trans ?_ (calm_of_keeps (camIgnore_keeps _ _) (by decide)))
    | (with_reducible show calm _ (raiseLim _ _ _ _ _ _); refine calm_trans ?_ (calm_raiseLim _ _ _ _ _ _ (by first | exact .inl rfl | exact .inr rfl | (split <;> first | exact .inl rfl | exact .inr rfl))))
    | (with_reducible show calm _ (mCam _ _ _); with_reducible refine calm_trans ?_ (calm_of_keeps (mCam_keeps _ _ _) (by decide)))
    | with_reducible refine calm_ite ?_ ?_
    | with_reducible refine calm_doIf (fun _ => ?_) ?_
    | with_reducible refine calm_each (fun _ _ => ?_) ?_
    | dsimp only [id]
    | split
    | exact calm_eq (by with_reducible rfl))

theorem towRx_calm {f : Via → State → State} (h_f : ∀ a0 u, calm u (f a0 u)) (rx : Arrival) (ss : Session) (s : State) : calm s (towRx rx ss f s) := by
  unfold towRx
  try dsimp only
  repeat' (first
    | with_reducible exact calm_refl _
    | (with_reducible show calm _ (rxFrame _ _ _); with_reducible refine calm_trans ?_ (rxFrame_calm (fun _ => ?_) _ _))
    | (with_reducible show calm _ (f _ _); with_reducible refine calm_trans ?_ (h_f _ _))
    | with_reducible refine calm_ite ?_ ?_
    | with_reducible refine calm_doIf (fun _ => ?_) ?_
    | with_reducible refine calm_each (fun _ _ => ?_) ?_
    | dsimp only [id]
    | split
    | exact calm_eq (by with_reducible rfl))

end Sys2Proof.Machine
end

