-- ==== Sys2Proof/Laws/Bits.lean ====
section
/-! SUPPORT. The sparse maps: a read after a write, and the canonical form that every write keeps. -/

namespace Sys2Proof.Machine

/-- A key below every listed one reads the default. -/
theorem spGet_of_lt_head {α : Type} (d : α) (k : Nat) :
    ∀ m : List (Nat × α), (∀ p ∈ m.head?, k < p.1) → spGet d m k = d
  | [], _ => rfl
  | (a, v) :: r, h => by
    have ha : k < a := h (a, v) (by simp)
    simp [spGet, Nat.ne_of_gt ha, ha]

/-- The tail of a canonical map is canonical. -/
theorem sparseOk_tail {α : Type} [DecidableEq α] (d : Nat → α) (x : Nat × α) :
    ∀ r : List (Nat × α), sparseOk d (x :: r) = true → sparseOk d r = true
  | [], _ => rfl
  | y :: r, h => by
    obtain ⟨a, v⟩ := x; obtain ⟨b, w⟩ := y
    simp only [sparseOk, Bool.and_eq_true] at h
    exact h.2

/-- Every key of a canonical map's tail lies above its head. -/
theorem sparseOk_head_lt {α : Type} [DecidableEq α] (d : Nat → α) (a : Nat) (v : α) (r : List (Nat × α))
    (h : sparseOk d ((a, v) :: r) = true) : ∀ p ∈ r.head?, a < p.1 := by
  cases r with
  | nil => simp
  | cons y r =>
    obtain ⟨b, w⟩ := y
    simp only [sparseOk, Bool.and_eq_true, decide_eq_true_eq] at h
    simpa using h.1.2

/-- An entry of a canonical map is not the default of its key. -/
theorem sparseOk_head_ne {α : Type} [DecidableEq α] (d : Nat → α) (a : Nat) (v : α) (r : List (Nat × α))
    (h : sparseOk d ((a, v) :: r) = true) : v ≠ d a := by
  cases r with
  | nil => simpa [sparseOk] using h
  | cons y r =>
    obtain ⟨b, w⟩ := y
    simp only [sparseOk, Bool.and_eq_true, decide_eq_true_eq] at h
    exact h.1.1

/-- A canonical map in front of which a fresh lower entry is put stays canonical. -/
theorem sparseOk_cons {α : Type} [DecidableEq α] (d : Nat → α) (a : Nat) (v : α) (r : List (Nat × α)) (hv : v ≠ d a)
    (hl : ∀ p ∈ r.head?, a < p.1) (hr : sparseOk d r = true) : sparseOk d ((a, v) :: r) = true := by
  cases r with
  | nil => simp [sparseOk, hv]
  | cons y r =>
    obtain ⟨b, w⟩ := y
    have : a < b := hl (b, w) (by simp)
    simp [sparseOk, hv, this, hr]

/-- Where a write puts the head of a map. -/
theorem spSet_head_lt {α : Type} [DecidableEq α] (d : Nat → α) (k : Nat) (v : α) (a : Nat) (hk : a < k) :
    ∀ m : List (Nat × α), sparseOk d m = true → (∀ p ∈ m.head?, a < p.1) → ∀ p ∈ (spSet (d k) m k v).head?, a < p.1
  | [], _, _ => by by_cases hv : v = d k <;> simp [spSet, hv, hk]
  | (b, x) :: r, ho, hm => by
    have hb : a < b := hm (b, x) (by simp)
    unfold spSet
    split
    · split <;> simp [hk, hb]
    · split
      · rename_i _ h2
        split
        · intro p hp
          exact Nat.lt_trans hb (sparseOk_head_lt d b x r ho p hp)
        · simp [hk]
      · simp [hb]

/-- Every write keeps the canonical form. -/
theorem spSet_sparseOk {α : Type} [DecidableEq α] (d : Nat → α) (k : Nat) (v : α) :
    ∀ m : List (Nat × α), sparseOk d m = true → sparseOk d (spSet (d k) m k v) = true
  | [], _ => by by_cases hv : v = d k <;> simp [spSet, sparseOk, hv]
  | (a, x) :: r, h => by
    have ht := sparseOk_tail d (a, x) r h
    have hl := sparseOk_head_lt d a x r h
    have hx := sparseOk_head_ne d a x r h
    unfold spSet
    split
    · rename_i hka
      split
      · exact h
      · rename_i hv
        exact sparseOk_cons d k v _ hv (by simp [hka]) h
    · split
      · rename_i _ he
        subst he
        split
        · exact ht
        · rename_i hv
          exact sparseOk_cons d k v r hv hl ht
      · rename_i h1 h2
        have hak : a < k := by omega
        exact sparseOk_cons d a x _ hx (spSet_head_lt d k v a hak r ht hl) (spSet_sparseOk d k v r ht)

/-- A read after a write to the same key. -/
theorem spGet_spSet_same {α : Type} [DecidableEq α] (d : Nat → α) (k : Nat) (v : α) :
    ∀ m : List (Nat × α), sparseOk d m = true → spGet (d k) (spSet (d k) m k v) k = v
  | [], _ => by by_cases hv : v = d k <;> simp [spSet, spGet, hv]
  | (a, x) :: r, h => by
    have ht := sparseOk_tail d (a, x) r h
    have hl := sparseOk_head_lt d a x r h
    unfold spSet
    split
    · rename_i hka
      split
      · rename_i hv
        simp [spGet, Nat.ne_of_gt hka, hka, hv]
      · simp [spGet]
    · split
      · rename_i _ he
        subst he
        split
        · rename_i hv
          rw [hv]; exact spGet_of_lt_head _ _ r hl
        · simp [spGet]
      · rename_i h1 h2
        have hne : a ≠ k := fun e => h2 e.symm
        simp [spGet, h1, hne, spGet_spSet_same d k v r ht]

/-- A read of another key after a write. -/
theorem spGet_spSet_other {α : Type} [DecidableEq α] (d : Nat → α) (k j : Nat) (v : α) (hne : j ≠ k) :
    ∀ m : List (Nat × α), sparseOk d m = true → spGet (d j) (spSet (d k) m k v) j = spGet (d j) m j
  | [], _ => by
    by_cases hv : v = d k
    · simp [spSet, hv]
    · simp [spSet, spGet, hv, hne.symm]
  | (a, x) :: r, h => by
    have ht := sparseOk_tail d (a, x) r h
    have hl := sparseOk_head_lt d a x r h
    unfold spSet
    split
    · rename_i hka
      split
      · rfl
      · by_cases hj : j < k
        · have : j < a := by omega
          simp [spGet, hne.symm, hj, this, show a ≠ j by omega]
        · simp [spGet, hne.symm, hj]
    · split
      · rename_i _ he
        subst he
        by_cases hj : j < k
        · have h0 : spGet (d j) r j = d j := spGet_of_lt_head _ _ r (fun p hp => Nat.lt_trans hj (hl p hp))
          split
          · simp [spGet, hne.symm, hj, h0]
          · simp [spGet, hne.symm, hj]
        · split
          · simp [spGet, hne.symm, hj]
          · simp [spGet, hne.symm, hj]
      · simp [spGet, spGet_spSet_other d k j v hne r ht]

/-- A canonical map stays canonical when entries are taken out. -/
theorem sparseOk_filter {α : Type} [DecidableEq α] (d : Nat → α) (p : Nat × α → Bool) :
    ∀ l : List (Nat × α), sparseOk d l = true → sparseOk d (l.filter p) = true ∧ ∀ a, (∀ x ∈ l.head?, a < x.1) → ∀ x ∈ (l.filter p).head?, a < x.1
  | [], _ => ⟨rfl, fun _ _ _ h => by simp at h⟩
  | (k, v) :: r, h => by
    have ih := sparseOk_filter d p r (sparseOk_tail d _ r h)
    by_cases hp : p (k, v) = true
    · refine ⟨?_, fun a ha x hx => ?_⟩
      · rw [List.filter_cons_of_pos hp]
        exact sparseOk_cons d k v _ (sparseOk_head_ne d k v r h) (ih.2 k (sparseOk_head_lt d k v r h)) ih.1
      · rw [List.filter_cons_of_pos hp] at hx
        simp at hx; subst hx
        exact ha _ (by simp)
    · rw [List.filter_cons_of_neg hp]
      refine ⟨ih.1, fun a ha x hx => ih.2 a (fun y hy => ?_) x hx⟩
      exact Nat.lt_trans (ha (k, v) (by simp)) (sparseOk_head_lt d k v r h y hy)

/-- What holds of every element still does after one is replaced by an image that has it. -/
theorem vmod_all {α : Type} {n : Nat} (P : α → Bool) (f : α → α) (h : ∀ x, P x = true → P (f x) = true) (v : Vector α n) (i : Nat)
    (k : v.toList.all P = true) : (vmod v i f).toList.all P = true := by
  unfold vmod
  split
  · rename_i hi
    rw [List.all_eq_true] at k ⊢
    intro x hx
    have hx' : x ∈ v.set i (f v[i]) := by simpa using hx
    rcases Vector.mem_or_eq_of_mem_set hx' with hx' | rfl
    · exact k x (by simpa using hx')
    · exact h _ (k _ (by simp))
  · exact k

end Sys2Proof.Machine
end

