-- ==== Sys2Proof/Laws/Canon.lean ====
section
/-! SUPPORT. Operations keep the register maps, the banks and DRAM canonical (log 4): one lemma `f_canonK` per operation that touches one of them. -/

namespace Sys2Proof.Machine

/-- The banks and channels are canonical. -/
def memOk (m : MemState) : Prop :=
  m.banks.toList.all (fun b => Memory.wf b.data) = true ∧ m.chans.toList.all (fun c => Memory.wf c.data) = true
/-- The register maps and memories stay canonical. -/
def canonK (s t : State) : Prop :=
  (sparseOk regReset s.regs = true → sparseOk regReset t.regs = true) ∧ (sparseOk regReset s.regs = true → sparseOk regReset s.act = true → sparseOk regReset t.act = true)
    ∧ (memOk s.mem → memOk t.mem)
theorem canonK_refl (s : State) : canonK s s := ⟨id, fun _ h => h, id⟩
theorem canonK_trans {s t u : State} (h : canonK s t) (k : canonK t u) : canonK s u :=
  ⟨fun x => k.1 (h.1 x), fun r x => k.2.1 (h.1 r) (h.2.1 r x), fun x => k.2.2 (h.2.2 x)⟩
theorem canonK_eq {s t : State} (h1 : t.regs = s.regs) (h2 : t.act = s.act) (h3 : t.mem = s.mem) : canonK s t :=
  ⟨fun x => h1 ▸ x, fun _ x => h2 ▸ x, fun x => h3 ▸ x⟩
theorem canonK_of_keeps {ps : List Part} {s t : State} (h : keepsBut ps s t) (hp : .regs ∉ ps ∧ .act ∉ ps ∧ .mem ∉ ps) : canonK s t :=
  canonK_eq (h .regs hp.1) (h .act hp.2.1) (h .mem hp.2.2)
theorem canonK_ite {s t u : State} {c : Prop} [Decidable c] (h : canonK s t) (k : canonK s u) : canonK s (if c then t else u) := by split <;> assumption
theorem canonK_doIf {s t : State} {b : Bool} {f : State → State} (h : ∀ u, canonK u (f u)) (k : canonK s t) : canonK s (doIf b f t) := by
  unfold doIf
  split
  · exact canonK_trans k (h t)
  · exact k
theorem canonK_each {α : Type} {s t : State} {f : α → State → State} {l : List α} (h : ∀ a u, canonK u (f a u)) (k : canonK s t) : canonK s (each f l t) :=
  each_inv (fun u => canonK s u) f (fun a u hu => canonK_trans hu (h a u)) l t k
theorem canonK_setReg (a : Nat) (v : Word) (s : State) : canonK s (setReg a v s) :=
  ⟨fun x => spSet_sparseOk regReset a v _ x, fun _ x => x, id⟩
theorem canonK_setAct (a : Nat) (v : Word) (s : State) : canonK s (setAct a v s) :=
  ⟨id, fun _ x => spSet_sparseOk regReset a v _ x, id⟩
theorem canonK_mMem (f : MemState → MemState) (s : State) (h : ∀ m, memOk m → memOk (f m)) : canonK s (mMem f s) := ⟨id, fun _ x => x, h s.mem⟩
theorem canonK_mMem_eq (f : MemState → MemState) (s : State) (hb : ∀ m, (f m).banks = m.banks) (hc : ∀ m, (f m).chans = m.chans) : canonK s (mMem f s) :=
  canonK_mMem f s (fun m h => ⟨(hb m).symm ▸ h.1, (hc m).symm ▸ h.2⟩)
theorem canonK_mBank (b : Nat) (f : BankSt → BankSt) (s : State) (h : ∀ k, Memory.wf k.data = true → Memory.wf (f k).data = true) : canonK s (mBank b f s) :=
  canonK_mMem _ s (fun m x => ⟨vmod_all _ f h m.banks b x.1, x.2⟩)
theorem canonK_mChan (c : Nat) (f : MemChan → MemChan) (s : State) (h : ∀ k, Memory.wf k.data = true → Memory.wf (f k).data = true) : canonK s (mChan c f s) :=
  canonK_mMem _ s (fun m x => ⟨x.1, vmod_all _ f h m.chans c x.2⟩)
theorem canonK_mChan_eq (c : Nat) (f : MemChan → MemChan) (s : State) (h : ∀ k, (f k).data = k.data) : canonK s (mChan c f s) :=
  canonK_mChan c f s (fun k x => (h k).symm ▸ x)
theorem touchRow_data (now b r : Nat) (c : MemChan) : (touchRow now b r c).data = c.data := rfl
theorem canonK_mArb (i : Nat) (f : Arb → Arb) (s : State) : canonK s (mArb i f s) := canonK_mMem _ s (fun _ x => x)
/-- An optional outcome, when there is one, stays canonical. -/
def optCanonK (s : State) (o : Option (State × Bool)) : Prop := ∀ r, o = some r → canonK s r.1
theorem optCanonK_of_keeps {ps : List Part} {s : State} {o : Option (State × Bool)} (h : optKeeps ps s o) (hp : .regs ∉ ps ∧ .act ∉ ps ∧ .mem ∉ ps) : optCanonK s o :=
  fun r e => canonK_of_keeps (h r e) hp
theorem optCanonK_none (s : State) : optCanonK s none := fun _ h => by cases h
theorem optCanonK_some {s : State} {r : State × Bool} (h : canonK s r.1) : optCanonK s (some r) := fun _ e => by cases e; exact h
theorem optCanonK_ite {s : State} {c : Prop} [Decidable c] {o p : Option (State × Bool)} (h : optCanonK s o) (k : optCanonK s p) :
    optCanonK s (if c then o else p) := by split <;> assumption
theorem optCanonK_took {s t : State} (h : canonK s t) : optCanonK s (took t) := optCanonK_some h
theorem optCanonK_denied {s t : State} {c : Nat} (h : canonK s t) : optCanonK s (denied c t) := optCanonK_some h
theorem canonK_foldl {α β : Type} {s : State} {f : State × β → α → State × β}
    (h : ∀ acc x, canonK acc.1 (f acc x).1) : ∀ (l : List α) {acc : State × β}, canonK s acc.1 → canonK s (l.foldl f acc).1
  | [], _, k => k
  | x :: r, acc, k => canonK_foldl h r (canonK_trans k (h acc x))
/-- Bytes put one after another keep a memory canonical. -/
theorem wf_each {α : Type} (key : α → Nat) (val : α → Byte) (l : List α) (m : Memory) (h : Memory.wf m = true) :
    Memory.wf (each (fun x d => spSet 0 d (key x) (val x)) l m) = true :=
  each_inv (fun d => Memory.wf d = true) _ (fun x d hd => spSet_sparseOk (fun _ => (0 : Byte)) (key x) (val x) d hd) l m h

/-! Machine/StageOps.lean -/

theorem takeToken_canonK {f : State → State} (h_f : ∀  u, canonK u (f  u)) (k : Nat) (s : State) : canonK s (takeToken k f s) := by
  unfold takeToken
  try dsimp only
  repeat' (first
    | with_reducible exact canonK_refl _
    | (with_reducible show canonK _ (mDbg _ _); with_reducible refine canonK_trans ?_ (canonK_of_keeps (mDbg_keeps _ _) (by decide)))
    | (with_reducible show canonK _ (f _); with_reducible refine canonK_trans ?_ (h_f _))
    | with_reducible refine canonK_ite ?_ ?_
    | with_reducible refine canonK_doIf (fun _ => ?_) ?_
    | with_reducible refine canonK_each (fun _ _ => ?_) ?_
    | dsimp only [id]
    | split
    | exact canonK_eq rfl rfl rfl)

theorem stageTake_canonK {f : State → State} (h_f : ∀ u, canonK u (f u)) (k : Nat) (tok : List Nat) (layer id : Nat) (lc : Option Nat) (s : State) : canonK s (stageTake k tok layer id lc f s) := by
  unfold stageTake
  try dsimp only
  repeat' (first
    | with_reducible exact canonK_refl _
    | (with_reducible show canonK _ (takeToken _ _ _); with_reducible refine canonK_trans ?_ (takeToken_canonK (fun _ => ?_) _ _))
    | (with_reducible show canonK _ (mDbg _ _); with_reducible refine canonK_trans ?_ (canonK_of_keeps (mDbg_keeps _ _) (by decide)))
    | (with_reducible show canonK _ (notice _ _ _); with_reducible refine canonK_trans ?_ (canonK_of_keeps (notice_keeps _ _ _) (by decide)))
    | (with_reducible show canonK _ (opHalt _ _); with_reducible refine canonK_trans ?_ (canonK_of_keeps (opHalt_keeps _ _) (by decide)))
    | (with_reducible show canonK _ (setDev _ _); with_reducible refine canonK_trans ?_ (canonK_of_keeps (setDev_keeps _ _) (by decide)))
    | (with_reducible show canonK _ (f _); with_reducible refine canonK_trans ?_ (h_f _))
    | with_reducible refine canonK_ite ?_ ?_
    | with_reducible refine canonK_doIf (fun _ => ?_) ?_
    | with_reducible refine canonK_each (fun _ _ => ?_) ?_
    | dsimp only [id]
    | split
    | exact canonK_eq rfl rfl rfl)

/-! Machine/Send.lean -/

theorem rxFrame_canonK {f : State → State} (h_f : ∀ u, canonK u (f u)) (rx : Arrival) (s : State) : canonK s (rxFrame rx f s) := by
  unfold rxFrame
  try dsimp only
  repeat' (first
    | with_reducible exact canonK_refl _
    | (with_reducible show canonK _ (frameDrop _ _ _); with_reducible refine canonK_trans ?_ (canonK_of_keeps (frameDrop_keeps _ _ _) (by decide)))
    | (with_reducible show canonK _ (mNet _ _ _); with_reducible refine canonK_trans ?_ (canonK_of_keeps (mNet_keeps _ _ _) (by decide)))
    | (with_reducible show canonK _ (f _); with_reducible refine canonK_trans ?_ (h_f _))
    | with_reducible refine canonK_ite ?_ ?_
    | with_reducible refine canonK_doIf (fun _ => ?_) ?_
    | with_reducible refine canonK_each (fun _ _ => ?_) ?_
    | dsimp only [id]
    | split
    | exact canonK_eq rfl rfl rfl)

/-! Machine/LayerOps.lean -/

theorem dramPut_canonK (c ca : Nat) (b : Byte) (s : State) : canonK s (dramPut c ca b s) :=
  canonK_mChan c _ s (fun k h => spSet_sparseOk (fun _ => (0 : Byte)) ca b k.data h)

theorem arbDropped_canonK (s : State) : canonK s (arbDropped s) := by
  unfold arbDropped
  try dsimp only
  repeat' (first
    | with_reducible exact canonK_refl _
    | (with_reducible show canonK _ (mArb _ _ _); with_reducible refine canonK_trans ?_ (canonK_mArb _ _ _))
    | with_reducible refine canonK_ite ?_ ?_
    | with_reducible refine canonK_doIf (fun _ => ?_) ?_
    | with_reducible refine canonK_each (fun _ _ => ?_) ?_
    | dsimp only [id]
    | split
    | exact canonK_eq rfl rfl rfl)

theorem bankPut_canonK (b o : Nat) (d : Bytes) (s : State) : canonK s (bankPut b o d s) :=
  canonK_mBank b _ s (fun k h => wf_each (fun i => o + i) (fun i => d.getD i 0) _ k.data h)

theorem dirPut_canonK (e : Nat) (what : Option (Nat × Nat × Nat × Bool)) (s : State) : canonK s (dirPut e what s) :=
  bankPut_canonK _ _ _ _

theorem dirLayer_canonK (l : Layer) (free : Bool) (s : State) : canonK s (dirLayer l free s) := by
  unfold dirLayer
  try dsimp only
  repeat' (first
    | with_reducible exact canonK_refl _
    | (with_reducible show canonK _ (dirPut _ _ _); with_reducible refine canonK_trans ?_ (dirPut_canonK _ _ _))
    | with_reducible refine canonK_ite ?_ ?_
    | with_reducible refine canonK_doIf (fun _ => ?_) ?_
    | with_reducible refine canonK_each (fun _ _ => ?_) ?_
    | dsimp only [id]
    | split
    | exact canonK_eq rfl rfl rfl)

theorem releaseLayer_canonK (id cause : Nat) (s : State) : canonK s (releaseLayer id cause s) := by
  unfold releaseLayer
  try dsimp only
  repeat' (first
    | with_reducible exact canonK_refl _
    | (with_reducible show canonK _ (mLayer _ _ _); with_reducible refine canonK_trans ?_ (canonK_of_keeps (mLayer_keeps _ _ _) (by decide)))
    | (with_reducible show canonK _ (dirLayer _ _ _); with_reducible refine canonK_trans ?_ (dirLayer_canonK _ _ _))
    | (with_reducible show canonK _ (setLayerSt _ _ _ _); with_reducible refine canonK_trans ?_ (canonK_of_keeps (setLayerSt_keeps _ _ _ _) (by decide)))
    | (with_reducible show canonK _ (arbDropped _); with_reducible refine canonK_trans ?_ (arbDropped_canonK _))
    | (with_reducible show canonK _ (mMem _ _); refine canonK_trans ?_ (canonK_mMem_eq _ _ (by intro m; with_reducible rfl) (by intro m; with_reducible rfl)))
    | (with_reducible show canonK _ (mTow _ _); with_reducible refine canonK_trans ?_ (canonK_of_keeps (mTow_keeps _ _) (by decide)))
    | (with_reducible show canonK _ (mFir _ _); with_reducible refine canonK_trans ?_ (canonK_of_keeps (mFir_keeps _ _) (by decide)))
    | (with_reducible show canonK _ (mCmp _ _); with_reducible refine canonK_trans ?_ (canonK_of_keeps (mCmp_keeps _ _) (by decide)))
    | with_reducible refine canonK_ite ?_ ?_
    | with_reducible refine canonK_doIf (fun _ => ?_) ?_
    | with_reducible refine canonK_each (fun _ _ => ?_) ?_
    | dsimp only [id]
    | split
    | exact canonK_eq rfl rfl rfl)

/-! Machine/StrandOps.lean -/

theorem panicUnits_canonK (reqs : List FetchReq) (on : Bool) (s : State) : canonK s (panicUnits reqs on s) :=
  canonK_mMem _ s (fun m h => ⟨h.1, by
    have k := h.2
    rw [List.all_eq_true] at k ⊢
    intro x hx
    rw [Vector.toList_map, List.mem_map] at hx
    obtain ⟨c, hc, rfl⟩ := hx
    exact k c hc⟩)

theorem panicUpdate_canonK (n : Nat) (s : State) : canonK s (panicUpdate n s) := by
  unfold panicUpdate
  try dsimp only
  repeat' (first
    | with_reducible exact canonK_refl _
    | (with_reducible show canonK _ (mStr _ _); with_reducible refine canonK_trans ?_ (canonK_of_keeps (mStr_keeps _ _) (by decide)))
    | (with_reducible show canonK _ (panicUnits _ _ _); with_reducible refine canonK_trans ?_ (panicUnits_canonK _ _ _))
    | (with_reducible show canonK _ (mStrand _ _ _); with_reducible refine canonK_trans ?_ (canonK_of_keeps (mStrand_keeps _ _ _) (by decide)))
    | with_reducible refine canonK_ite ?_ ?_
    | with_reducible refine canonK_doIf (fun _ => ?_) ?_
    | with_reducible refine canonK_each (fun _ _ => ?_) ?_
    | dsimp only [id]
    | split
    | exact canonK_eq rfl rfl rfl)

/-! Machine/MemOps.lean -/

theorem memEnq_canonK (u : MemUnit) (s : State) : canonK s (memEnq u s) := by
  unfold memEnq
  try dsimp only
  repeat' (first
    | with_reducible exact canonK_refl _
    | (with_reducible show canonK _ (mMem _ _); refine canonK_trans ?_ (canonK_mMem_eq _ _ (by intro m; with_reducible rfl) (by intro m; with_reducible rfl)))
    | with_reducible refine canonK_ite ?_ ?_
    | with_reducible refine canonK_doIf (fun _ => ?_) ?_
    | with_reducible refine canonK_each (fun _ _ => ?_) ?_
    | dsimp only [id]
    | split
    | exact canonK_eq rfl rfl rfl)

theorem memRead_canonK (req tag : Nat) (panic : Bool) (a n : Nat) (s : State) : canonK s (memRead req tag panic a n s) := by
  unfold memRead
  try dsimp only
  repeat' (first
    | with_reducible exact canonK_refl _
    | (with_reducible show canonK _ (memEnq _ _); with_reducible refine canonK_trans ?_ (memEnq_canonK _ _))
    | with_reducible refine canonK_ite ?_ ?_
    | with_reducible refine canonK_doIf (fun _ => ?_) ?_
    | with_reducible refine canonK_each (fun _ _ => ?_) ?_
    | dsimp only [id]
    | split
    | exact canonK_eq rfl rfl rfl)

theorem memWrite_canonK (req tag a : Nat) (d : Bytes) (s : State) : canonK s (memWrite req tag a d s) := by
  unfold memWrite
  try dsimp only
  repeat' (first
    | with_reducible exact canonK_refl _
    | (with_reducible show canonK _ (memEnq _ _); with_reducible refine canonK_trans ?_ (memEnq_canonK _ _))
    | with_reducible refine canonK_ite ?_ ?_
    | with_reducible refine canonK_doIf (fun _ => ?_) ?_
    | with_reducible refine canonK_each (fun _ _ => ?_) ?_
    | dsimp only [id]
    | split
    | exact canonK_eq rfl rfl rfl)

theorem takeTag_canonK (s : State) : canonK s (takeTag s) := by
  unfold takeTag
  try dsimp only
  repeat' (first
    | with_reducible exact canonK_refl _
    | (with_reducible show canonK _ (mMem _ _); refine canonK_trans ?_ (canonK_mMem_eq _ _ (by intro m; with_reducible rfl) (by intro m; with_reducible rfl)))
    | with_reducible refine canonK_ite ?_ ?_
    | with_reducible refine canonK_doIf (fun _ => ?_) ?_
    | with_reducible refine canonK_each (fun _ _ => ?_) ?_
    | dsimp only [id]
    | split
    | exact canonK_eq rfl rfl rfl)

theorem admitUnit_canonK (inst m : Nat) (s : State) : canonK s (admitUnit inst m s) := by
  unfold admitUnit
  try dsimp only
  repeat' (first
    | with_reducible exact canonK_refl _
    | (with_reducible show canonK _ (mMem _ _); refine canonK_trans ?_ (canonK_mMem_eq _ _ (by intro m; with_reducible rfl) (by intro m; with_reducible rfl)))
    | (with_reducible show canonK _ (mChan _ _ _); refine canonK_trans ?_ (canonK_mChan_eq _ _ _ ?_); rotate_left; focus (intro k; first | with_reducible rfl | (rw [touchRow_data]) | ((repeat' split) <;> rfl) | fail))
    | (with_reducible show canonK _ (mChan _ _ _); refine canonK_trans ?_ (canonK_mChan _ _ _ (by exact fun _ h => wf_each _ _ _ _ h)))
    | with_reducible refine canonK_ite ?_ ?_
    | with_reducible refine canonK_doIf (fun _ => ?_) ?_
    | with_reducible refine canonK_each (fun _ _ => ?_) ?_
    | dsimp only [id]
    | split
    | exact canonK_eq rfl rfl rfl)

theorem grantUnits_canonK (inst m : Nat) : ∀ (n : Nat) (s : State), canonK s (grantUnits inst m n s)
  | 0, s => canonK_refl s
  | n + 1, s => by
    unfold grantUnits
    split
    · exact canonK_trans (admitUnit_canonK inst m s) (grantUnits_canonK inst m n _)
    · exact canonK_refl s

theorem dramRound_canonK (inst : Nat) (s : State) : canonK s (dramRound inst s) := by
  unfold dramRound
  try dsimp only
  repeat' (first
    | with_reducible exact canonK_refl _
    | (with_reducible show canonK _ (mArb _ _ _); with_reducible refine canonK_trans ?_ (canonK_mArb _ _ _))
    | (with_reducible show canonK _ (grantUnits _ _ _ _); with_reducible refine canonK_trans ?_ (grantUnits_canonK _ _ _ _))
    | with_reducible refine canonK_ite ?_ ?_
    | with_reducible refine canonK_doIf (fun _ => ?_) ?_
    | with_reducible refine canonK_each (fun _ _ => ?_) ?_
    | dsimp only [id]
    | split
    | exact canonK_eq rfl rfl rfl)

theorem lineRound_canonK (inst : Nat) (req : Nat → Bool) (s : State) : canonK s (lineRound inst req s) := by
  unfold lineRound
  try dsimp only
  repeat' (first
    | with_reducible exact canonK_refl _
    | (with_reducible show canonK _ (mBank _ _ _); refine canonK_trans ?_ (canonK_mBank _ _ _ (by first | exact fun k h => (sparseOk_filter (fun _ => (0 : Byte)) _ k.data h).1 | exact fun _ h => h | exact fun _ h => wf_each _ _ _ _ h)))
    | (with_reducible show canonK _ (mArb _ _ _); with_reducible refine canonK_trans ?_ (canonK_mArb _ _ _))
    | with_reducible refine canonK_ite ?_ ?_
    | with_reducible refine canonK_doIf (fun _ => ?_) ?_
    | with_reducible refine canonK_each (fun _ _ => ?_) ?_
    | dsimp only [id]
    | split
    | exact canonK_eq rfl rfl rfl)

theorem issueRefresh_canonK (ch : Nat) (s : State) : canonK s (issueRefresh ch s) := by
  unfold issueRefresh
  try dsimp only
  repeat' (first
    | with_reducible exact canonK_refl _
    | (with_reducible show canonK _ (mChan _ _ _); refine canonK_trans ?_ (canonK_mChan_eq _ _ _ ?_); rotate_left; focus (intro k; first | with_reducible rfl | (rw [touchRow_data]) | ((repeat' split) <;> rfl) | fail))
    | (with_reducible show canonK _ (mChan _ _ _); refine canonK_trans ?_ (canonK_mChan _ _ _ (by exact fun _ h => wf_each _ _ _ _ h)))
    | (with_reducible show canonK _ (emit _ _); with_reducible refine canonK_trans ?_ (canonK_of_keeps (emit_keeps _ _) (by decide)))
    | with_reducible refine canonK_ite ?_ ?_
    | with_reducible refine canonK_doIf (fun _ => ?_) ?_
    | with_reducible refine canonK_each (fun _ _ => ?_) ?_
    | dsimp only [id]
    | split
    | exact canonK_eq rfl rfl rfl)

theorem writeUnit_canonK (ch ca : Nat) (w : List (Nat × Byte)) (s : State) : canonK s (writeUnit ch ca w s) := by
  unfold writeUnit
  try dsimp only
  repeat' (first
    | with_reducible exact canonK_refl _
    | (with_reducible show canonK _ (mChan _ _ _); refine canonK_trans ?_ (canonK_mChan_eq _ _ _ ?_); rotate_left; focus (intro k; first | with_reducible rfl | (rw [touchRow_data]) | ((repeat' split) <;> rfl) | fail))
    | (with_reducible show canonK _ (mChan _ _ _); refine canonK_trans ?_ (canonK_mChan _ _ _ (by exact fun _ h => wf_each _ _ _ _ h)))
    | with_reducible refine canonK_ite ?_ ?_
    | with_reducible refine canonK_doIf (fun _ => ?_) ?_
    | with_reducible refine canonK_each (fun _ _ => ?_) ?_
    | dsimp only [id]
    | split
    | exact canonK_eq rfl rfl rfl)

theorem headerQueue_canonK (c : Nat) (s : State) : canonK s (headerQueue c s) := by
  unfold headerQueue
  try dsimp only
  repeat' (first
    | with_reducible exact canonK_refl _
    | (with_reducible show canonK _ (memWrite _ _ _ _ _); with_reducible refine canonK_trans ?_ (memWrite_canonK _ _ _ _ _))
    | (with_reducible show canonK _ (mComp _ _ _); with_reducible refine canonK_trans ?_ (canonK_of_keeps (mComp_keeps _ _ _) (by decide)))
    | with_reducible refine canonK_ite ?_ ?_
    | with_reducible refine canonK_doIf (fun _ => ?_) ?_
    | with_reducible refine canonK_each (fun _ _ => ?_) ?_
    | dsimp only [id]
    | split
    | exact canonK_eq rfl rfl rfl)

theorem compServed_canonK (tag n : Nat) (rd : Bool) (s : State) : canonK s (compServed tag n rd s) := by
  unfold compServed
  try dsimp only
  repeat' (first
    | with_reducible exact canonK_refl _
    | (with_reducible show canonK _ (headerQueue _ _); with_reducible refine canonK_trans ?_ (headerQueue_canonK _ _))
    | (with_reducible show canonK _ (compMoved _ _ _ _); with_reducible refine canonK_trans ?_ (canonK_of_keeps (compMoved_keeps _ _ _ _) (by decide)))
    | with_reducible refine canonK_ite ?_ ?_
    | with_reducible refine canonK_doIf (fun _ => ?_) ?_
    | with_reducible refine canonK_each (fun _ _ => ?_) ?_
    | dsimp only [id]
    | split
    | exact canonK_eq rfl rfl rfl)

theorem tagServed_canonK (tag n : Nat) (got : Option (Nat × Bytes)) (s : State) : canonK s (tagServed tag n got s) := by
  unfold tagServed
  try dsimp only
  repeat' (first
    | with_reducible exact canonK_refl _
    | (with_reducible show canonK _ (mStr _ _); with_reducible refine canonK_trans ?_ (canonK_of_keeps (mStr_keeps _ _) (by decide)))
    | (with_reducible show canonK _ (mTow _ _); with_reducible refine canonK_trans ?_ (canonK_of_keeps (mTow_keeps _ _) (by decide)))
    | (with_reducible show canonK _ (compServed _ _ _ _); with_reducible refine canonK_trans ?_ (compServed_canonK _ _ _ _))
    | (with_reducible show canonK _ (wpEnd _ _ _); with_reducible refine canonK_trans ?_ (canonK_of_keeps (wpEnd_keeps _ _ _) (by decide)))
    | (with_reducible show canonK _ (tickFree _); with_reducible refine canonK_trans ?_ (canonK_of_keeps (tickFree_keeps _) (by decide)))
    | with_reducible refine canonK_ite ?_ ?_
    | with_reducible refine canonK_doIf (fun _ => ?_) ?_
    | with_reducible refine canonK_each (fun _ _ => ?_) ?_
    | dsimp only [id]
    | split
    | exact canonK_eq rfl rfl rfl)

theorem checkAccess_canonK (ch ca : Nat) (wr : Bool) (s : State) : canonK s (checkAccess ch ca wr s) := by
  unfold checkAccess
  try dsimp only
  repeat' (first
    | with_reducible exact canonK_refl _
    | (with_reducible show canonK _ (emit _ _); with_reducible refine canonK_trans ?_ (canonK_of_keeps (emit_keeps _ _) (by decide)))
    | (with_reducible show canonK _ (mChan _ _ _); refine canonK_trans ?_ (canonK_mChan_eq _ _ _ ?_); rotate_left; focus (intro k; first | with_reducible rfl | (rw [touchRow_data]) | ((repeat' split) <;> rfl) | fail))
    | with_reducible refine canonK_ite ?_ ?_
    | with_reducible refine canonK_doIf (fun _ => ?_) ?_
    | with_reducible refine canonK_each (fun _ _ => ?_) ?_
    | dsimp only [id]
    | split
    | exact canonK_eq rfl rfl rfl)

theorem issueUnit_canonK (ch : Nat) (u : MemUnit) (s : State) : canonK s (issueUnit ch u s) := by
  unfold issueUnit
  try dsimp only
  repeat' (first
    | with_reducible exact canonK_refl _
    | (with_reducible show canonK _ (mChan _ _ _); refine canonK_trans ?_ (canonK_mChan_eq _ _ _ ?_); rotate_left; focus (intro k; first | with_reducible rfl | (rw [touchRow_data]) | ((repeat' split) <;> rfl) | fail))
    | (with_reducible show canonK _ (mChan _ _ _); refine canonK_trans ?_ (canonK_mChan _ _ _ (by exact fun _ h => wf_each _ _ _ _ h)))
    | (with_reducible show canonK _ (mMem _ _); refine canonK_trans ?_ (canonK_mMem_eq _ _ (by intro m; with_reducible rfl) (by intro m; with_reducible rfl)))
    | (with_reducible show canonK _ (tagServed _ _ _ _); with_reducible refine canonK_trans ?_ (tagServed_canonK _ _ _ _))
    | (with_reducible show canonK _ (checkAccess _ _ _ _); with_reducible refine canonK_trans ?_ (checkAccess_canonK _ _ _ _))
    | (with_reducible show canonK _ (emit _ _); with_reducible refine canonK_trans ?_ (canonK_of_keeps (emit_keeps _ _) (by decide)))
    | (with_reducible show canonK _ (writeUnit _ _ _ _); with_reducible refine canonK_trans ?_ (writeUnit_canonK _ _ _ _))
    | with_reducible refine canonK_ite ?_ ?_
    | with_reducible refine canonK_doIf (fun _ => ?_) ?_
    | with_reducible refine canonK_each (fun _ _ => ?_) ?_
    | dsimp only [id]
    | split
    | exact canonK_eq rfl rfl rfl)

theorem memFreeze_canonK (cause ch req syn ca : Nat) (s : State) : canonK s (memFreeze cause ch req syn ca s) := by
  unfold memFreeze
  try dsimp only
  repeat' (first
    | with_reducible exact canonK_refl _
    | (with_reducible show canonK _ (mMem _ _); refine canonK_trans ?_ (canonK_mMem_eq _ _ (by intro m; with_reducible rfl) (by intro m; with_reducible rfl)))
    | (with_reducible show canonK _ (wpLost _ _); with_reducible refine canonK_trans ?_ (canonK_of_keeps (wpLost_keeps _ _) (by decide)))
    | with_reducible refine canonK_ite ?_ ?_
    | with_reducible refine canonK_doIf (fun _ => ?_) ?_
    | with_reducible refine canonK_each (fun _ _ => ?_) ?_
    | dsimp only [id]
    | split
    | exact canonK_eq rfl rfl rfl)

theorem dramIssue_canonK (ch : Nat) (cmdBad : Bool) (s : State) : canonK s (dramIssue ch cmdBad s) := by
  unfold dramIssue
  try dsimp only
  repeat' (first
    | with_reducible exact canonK_refl _
    | (with_reducible show canonK _ (issueRefresh _ _); with_reducible refine canonK_trans ?_ (issueRefresh_canonK _ _))
    | (with_reducible show canonK _ (mChan _ _ _); refine canonK_trans ?_ (canonK_mChan_eq _ _ _ ?_); rotate_left; focus (intro k; first | with_reducible rfl | (rw [touchRow_data]) | ((repeat' split) <;> rfl) | fail))
    | (with_reducible show canonK _ (mChan _ _ _); refine canonK_trans ?_ (canonK_mChan _ _ _ (by exact fun _ h => wf_each _ _ _ _ h)))
    | (with_reducible show canonK _ (issueUnit _ _ _); with_reducible refine canonK_trans ?_ (issueUnit_canonK _ _ _))
    | (with_reducible show canonK _ (checkAccess _ _ _ _); with_reducible refine canonK_trans ?_ (checkAccess_canonK _ _ _ _))
    | (with_reducible show canonK _ (emit _ _); with_reducible refine canonK_trans ?_ (canonK_of_keeps (emit_keeps _ _) (by decide)))
    | (with_reducible show canonK _ (raise _ _ _ _); with_reducible refine canonK_trans ?_ (canonK_of_keeps (raise_keeps _ _ _ _) (by decide)))
    | (with_reducible show canonK _ (memFreeze _ _ _ _ _ _); with_reducible refine canonK_trans ?_ (memFreeze_canonK _ _ _ _ _ _))
    | with_reducible refine canonK_ite ?_ ?_
    | with_reducible refine canonK_doIf (fun _ => ?_) ?_
    | with_reducible refine canonK_each (fun _ _ => ?_) ?_
    | dsimp only [id]
    | split
    | exact canonK_eq rfl rfl rfl)

theorem wordsFixed_canonK (ch ca : Nat) (fl : List Flip) (s : State) : canonK s (wordsFixed ch ca fl s) := by
  unfold wordsFixed
  try dsimp only
  repeat' (first
    | with_reducible exact canonK_refl _
    | (with_reducible show canonK _ (raiseLim _ _ _ _ _ _); with_reducible refine canonK_trans ?_ (canonK_of_keeps (raiseLim_keeps _ _ _ _ _ _) (by decide)))
    | (with_reducible show canonK _ (mMem _ _); refine canonK_trans ?_ (canonK_mMem_eq _ _ (by intro m; with_reducible rfl) (by intro m; with_reducible rfl)))
    | (with_reducible show canonK _ (mChan _ _ _); refine canonK_trans ?_ (canonK_mChan_eq _ _ _ ?_); rotate_left; focus (intro k; first | with_reducible rfl | (rw [touchRow_data]) | ((repeat' split) <;> rfl) | fail))
    | with_reducible refine canonK_ite ?_ ?_
    | with_reducible refine canonK_doIf (fun _ => ?_) ?_
    | with_reducible refine canonK_each (fun _ _ => ?_) ?_
    | dsimp only [id]
    | split
    | exact canonK_eq rfl rfl rfl)

theorem dramReturn_canonK (ch : Nat) (fl : List Flip) (s : State) : canonK s (dramReturn ch fl s) := by
  unfold dramReturn
  try dsimp only
  repeat' (first
    | with_reducible exact canonK_refl _
    | (with_reducible show canonK _ (wordsFixed _ _ _ _); with_reducible refine canonK_trans ?_ (wordsFixed_canonK _ _ _ _))
    | (with_reducible show canonK _ (mChan _ _ _); refine canonK_trans ?_ (canonK_mChan_eq _ _ _ ?_); rotate_left; focus (intro k; first | with_reducible rfl | (rw [touchRow_data]) | ((repeat' split) <;> rfl) | fail))
    | (with_reducible show canonK _ (mChan _ _ _); refine canonK_trans ?_ (canonK_mChan _ _ _ (by exact fun _ h => wf_each _ _ _ _ h)))
    | (with_reducible show canonK _ (raise _ _ _ _); with_reducible refine canonK_trans ?_ (canonK_of_keeps (raise_keeps _ _ _ _) (by decide)))
    | (with_reducible show canonK _ (memFreeze _ _ _ _ _ _); with_reducible refine canonK_trans ?_ (memFreeze_canonK _ _ _ _ _ _))
    | (with_reducible show canonK _ (tagServed _ _ _ _); with_reducible refine canonK_trans ?_ (tagServed_canonK _ _ _ _))
    | (with_reducible show canonK _ (checkAccess _ _ _ _); with_reducible refine canonK_trans ?_ (checkAccess_canonK _ _ _ _))
    | (with_reducible show canonK _ (emit _ _); with_reducible refine canonK_trans ?_ (canonK_of_keeps (emit_keeps _ _) (by decide)))
    | (with_reducible show canonK _ (writeUnit _ _ _ _); with_reducible refine canonK_trans ?_ (writeUnit_canonK _ _ _ _))
    | with_reducible refine canonK_ite ?_ ?_
    | with_reducible refine canonK_doIf (fun _ => ?_) ?_
    | with_reducible refine canonK_each (fun _ _ => ?_) ?_
    | dsimp only [id]
    | split
    | exact canonK_eq rfl rfl rfl)

theorem refreshFalls_canonK (ch : Nat) (s : State) : canonK s (refreshFalls ch s) := by
  unfold refreshFalls
  try dsimp only
  repeat' (first
    | with_reducible exact canonK_refl _
    | (with_reducible show canonK _ (mChan _ _ _); refine canonK_trans ?_ (canonK_mChan_eq _ _ _ ?_); rotate_left; focus (intro k; first | with_reducible rfl | (rw [touchRow_data]) | ((repeat' split) <;> rfl) | fail))
    | (with_reducible show canonK _ (mChan _ _ _); refine canonK_trans ?_ (canonK_mChan _ _ _ (by exact fun _ h => wf_each _ _ _ _ h)))
    | (with_reducible show canonK _ (issueRefresh _ _); with_reducible refine canonK_trans ?_ (issueRefresh_canonK _ _))
    | with_reducible refine canonK_ite ?_ ?_
    | with_reducible refine canonK_doIf (fun _ => ?_) ?_
    | with_reducible refine canonK_each (fun _ _ => ?_) ?_
    | dsimp only [id]
    | split
    | exact canonK_eq rfl rfl rfl)

theorem delayUpdate_canonK (ch : Nat) (s : State) : canonK s (delayUpdate ch s) := by
  unfold delayUpdate
  try dsimp only
  repeat' (first
    | with_reducible exact canonK_refl _
    | (with_reducible show canonK _ (mChan _ _ _); refine canonK_trans ?_ (canonK_mChan_eq _ _ _ ?_); rotate_left; focus (intro k; first | with_reducible rfl | (rw [touchRow_data]) | ((repeat' split) <;> rfl) | fail))
    | (with_reducible show canonK _ (mChan _ _ _); refine canonK_trans ?_ (canonK_mChan _ _ _ (by exact fun _ h => wf_each _ _ _ _ h)))
    | with_reducible refine canonK_ite ?_ ?_
    | with_reducible refine canonK_doIf (fun _ => ?_) ?_
    | with_reducible refine canonK_each (fun _ _ => ?_) ?_
    | dsimp only [id]
    | split
    | exact canonK_eq rfl rfl rfl)

theorem chanOffline_canonK (ch : Nat) (s : State) : canonK s (chanOffline ch s) := by
  unfold chanOffline
  try dsimp only
  repeat' (first
    | with_reducible exact canonK_refl _
    | (with_reducible show canonK _ (wpLost _ _); with_reducible refine canonK_trans ?_ (canonK_of_keeps (wpLost_keeps _ _) (by decide)))
    | (with_reducible show canonK _ (arbDropped _); with_reducible refine canonK_trans ?_ (arbDropped_canonK _))
    | (with_reducible show canonK _ (mMem _ _); refine canonK_trans ?_ (canonK_mMem_eq _ _ (by intro m; with_reducible rfl) (by intro m; with_reducible rfl)))
    | (with_reducible show canonK _ (mChan _ _ _); refine canonK_trans ?_ (canonK_mChan_eq _ _ _ ?_); rotate_left; focus (intro k; first | with_reducible rfl | (rw [touchRow_data]) | ((repeat' split) <;> rfl) | fail))
    | (with_reducible show canonK _ (mChan _ _ _); refine canonK_trans ?_ (canonK_mChan _ _ _ (by exact fun _ h => wf_each _ _ _ _ h)))
    | with_reducible refine canonK_ite ?_ ?_
    | with_reducible refine canonK_doIf (fun _ => ?_) ?_
    | with_reducible refine canonK_each (fun _ _ => ?_) ?_
    | dsimp only [id]
    | split
    | exact canonK_eq rfl rfl rfl)

theorem bankRefuse_canonK (b : Nat) (s : State) : canonK s (bankRefuse b s) := by
  unfold bankRefuse
  try dsimp only
  repeat' (first
    | with_reducible exact canonK_refl _
    | (with_reducible show canonK _ (mBank _ _ _); refine canonK_trans ?_ (canonK_mBank _ _ _ (by first | exact fun k h => (sparseOk_filter (fun _ => (0 : Byte)) _ k.data h).1 | exact fun _ h => h | exact fun _ h => wf_each _ _ _ _ h)))
    | (with_reducible show canonK _ (raiseLim _ _ _ _ _ _); with_reducible refine canonK_trans ?_ (canonK_of_keeps (raiseLim_keeps _ _ _ _ _ _) (by decide)))
    | with_reducible refine canonK_ite ?_ ?_
    | with_reducible refine canonK_doIf (fun _ => ?_) ?_
    | with_reducible refine canonK_each (fun _ _ => ?_) ?_
    | dsimp only [id]
    | split
    | exact canonK_eq rfl rfl rfl)

theorem bankEcc_canonK {f : State → State} (h_f : ∀ u, canonK u (f u)) (b o : Nat) (e : Ecc) (s : State) : canonK s (bankEcc b o e f s) := by
  unfold bankEcc
  try dsimp only
  repeat' (first
    | with_reducible exact canonK_refl _
    | (with_reducible show canonK _ (raiseLim _ _ _ _ _ _); with_reducible refine canonK_trans ?_ (canonK_of_keeps (raiseLim_keeps _ _ _ _ _ _) (by decide)))
    | (with_reducible show canonK _ (mBank _ _ _); refine canonK_trans ?_ (canonK_mBank _ _ _ (by first | exact fun k h => (sparseOk_filter (fun _ => (0 : Byte)) _ k.data h).1 | exact fun _ h => h | exact fun _ h => wf_each _ _ _ _ h)))
    | (with_reducible show canonK _ (raise _ _ _ _); with_reducible refine canonK_trans ?_ (canonK_of_keeps (raise_keeps _ _ _ _) (by decide)))
    | (with_reducible show canonK _ (f _); with_reducible refine canonK_trans ?_ (h_f _))
    | with_reducible refine canonK_ite ?_ ?_
    | with_reducible refine canonK_doIf (fun _ => ?_) ?_
    | with_reducible refine canonK_each (fun _ _ => ?_) ?_
    | dsimp only [id]
    | split
    | exact canonK_eq rfl rfl rfl)

theorem bankGrant_canonK (b r : Nat) (s : State) : canonK s (bankGrant b r s) := by
  unfold bankGrant
  try dsimp only
  repeat' (first
    | with_reducible exact canonK_refl _
    | (with_reducible show canonK _ (mArb _ _ _); with_reducible refine canonK_trans ?_ (canonK_mArb _ _ _))
    | (with_reducible show canonK _ (lineRound _ _ _); with_reducible refine canonK_trans ?_ (lineRound_canonK _ _ _))
    | with_reducible refine canonK_ite ?_ ?_
    | with_reducible refine canonK_doIf (fun _ => ?_) ?_
    | with_reducible refine canonK_each (fun _ _ => ?_) ?_
    | dsimp only [id]
    | split
    | exact canonK_eq rfl rfl rfl)

theorem bankOp_canonK {f : State → State} (h_f : ∀ u, canonK u (f u)) (b r o n al : Nat) (fl : List Flip) (s : State) : canonK s (bankOp b r o n al fl f s) := by
  unfold bankOp
  try dsimp only
  repeat' (first
    | with_reducible exact canonK_refl _
    | (with_reducible show canonK _ (bankGrant _ _ _); with_reducible refine canonK_trans ?_ (bankGrant_canonK _ _ _))
    | (with_reducible show canonK _ (bankAnswer _ _ _ _); with_reducible refine canonK_trans ?_ (canonK_of_keeps (bankAnswer_keeps _ _ _ _) (by decide)))
    | (with_reducible show canonK _ (bankRefuse _ _); with_reducible refine canonK_trans ?_ (bankRefuse_canonK _ _))
    | (with_reducible show canonK _ (bankEcc _ _ _ _ _); with_reducible refine canonK_trans ?_ (bankEcc_canonK (fun _ => ?_) _ _ _ _))
    | (with_reducible show canonK _ (f _); with_reducible refine canonK_trans ?_ (h_f _))
    | with_reducible refine canonK_ite ?_ ?_
    | with_reducible refine canonK_doIf (fun _ => ?_) ?_
    | with_reducible refine canonK_each (fun _ _ => ?_) ?_
    | dsimp only [id]
    | split
    | exact canonK_eq rfl rfl rfl)

theorem bankAddAt_canonK (b o : Nat) (sat : Bool) (v : Nat) (s : State) : canonK s (bankAddAt b o sat v s) := by
  unfold bankAddAt
  try dsimp only
  repeat' (first
    | with_reducible exact canonK_refl _
    | (with_reducible show canonK _ (bankPut _ _ _ _); with_reducible refine canonK_trans ?_ (bankPut_canonK _ _ _ _))
    | with_reducible refine canonK_ite ?_ ?_
    | with_reducible refine canonK_doIf (fun _ => ?_) ?_
    | with_reducible refine canonK_each (fun _ _ => ?_) ?_
    | dsimp only [id]
    | split
    | exact canonK_eq rfl rfl rfl)

/-! Machine/NozzleOps.lean -/

theorem nozSwap_canonK (n new cause : Nat) (lc : Option Nat) (s : State) : canonK s (nozSwap n new cause lc s) := by
  unfold nozSwap
  try dsimp only
  repeat' (first
    | with_reducible exact canonK_refl _
    | (with_reducible show canonK _ (notice _ _ _); with_reducible refine canonK_trans ?_ (canonK_of_keeps (notice_keeps _ _ _) (by decide)))
    | (with_reducible show canonK _ (bankPut _ _ _ _); with_reducible refine canonK_trans ?_ (bankPut_canonK _ _ _ _))
    | (with_reducible show canonK _ (journal _ _ _ _ _ _ _); with_reducible refine canonK_trans ?_ (canonK_of_keeps (journal_keeps _ _ _ _ _ _ _) (by decide)))
    | (with_reducible show canonK _ (gateQueue _ _); with_reducible refine canonK_trans ?_ (canonK_of_keeps (gateQueue_keeps _ _) (by decide)))
    | (with_reducible show canonK _ (evalAfterSwap _ _ _); with_reducible refine canonK_trans ?_ (canonK_of_keeps (evalAfterSwap_keeps _ _ _) (by decide)))
    | (with_reducible show canonK _ (keepOldEntry _ _ _); with_reducible refine canonK_trans ?_ (canonK_of_keeps (keepOldEntry_keeps _ _ _) (by decide)))
    | with_reducible refine canonK_ite ?_ ?_
    | with_reducible refine canonK_doIf (fun _ => ?_) ?_
    | with_reducible refine canonK_each (fun _ _ => ?_) ?_
    | dsimp only [id]
    | split
    | exact canonK_eq rfl rfl rfl)

theorem nzApply_canonK (c : NzlChange) (lc : Option Nat) (s : State) : canonK s (nzApply c lc s) := by
  unfold nzApply
  try dsimp only
  repeat' (first
    | with_reducible exact canonK_refl _
    | (with_reducible show canonK _ (notice _ _ _); with_reducible refine canonK_trans ?_ (canonK_of_keeps (notice_keeps _ _ _) (by decide)))
    | (with_reducible show canonK _ (nozSwap _ _ _ _ _); with_reducible refine canonK_trans ?_ (nozSwap_canonK _ _ _ _ _))
    | (with_reducible show canonK _ (bankGrant _ _ _); with_reducible refine canonK_trans ?_ (bankGrant_canonK _ _ _))
    | (with_reducible show canonK _ (gateAgain _ _ _ _ _ _); with_reducible refine canonK_trans ?_ (canonK_of_keeps (gateAgain_keeps _ _ _ _ _ _) (by decide)))
    | (with_reducible show canonK _ (tickFree _); with_reducible refine canonK_trans ?_ (canonK_of_keeps (tickFree_keeps _) (by decide)))
    | with_reducible refine canonK_ite ?_ ?_
    | with_reducible refine canonK_doIf (fun _ => ?_) ?_
    | with_reducible refine canonK_each (fun _ _ => ?_) ?_
    | dsimp only [id]
    | split
    | exact canonK_eq rfl rfl rfl)

theorem nzTake_canonK (c : NzlChange) (lc : Option Nat) (s : State) : canonK s (nzTake c lc s) := by
  unfold nzTake
  try dsimp only
  repeat' (first
    | with_reducible exact canonK_refl _
    | (with_reducible show canonK _ (mNzl _ _); with_reducible refine canonK_trans ?_ (canonK_of_keeps (mNzl_keeps _ _) (by decide)))
    | (with_reducible show canonK _ (nzApply _ _ _); with_reducible refine canonK_trans ?_ (nzApply_canonK _ _ _))
    | (with_reducible show canonK _ (nzRefill _); with_reducible refine canonK_trans ?_ (canonK_of_keeps (nzRefill_keeps _) (by decide)))
    | with_reducible refine canonK_ite ?_ ?_
    | with_reducible refine canonK_doIf (fun _ => ?_) ?_
    | with_reducible refine canonK_each (fun _ _ => ?_) ?_
    | dsimp only [id]
    | split
    | exact canonK_eq rfl rfl rfl)

theorem nzSwapDue_canonK (c : NzlChange) (s : State) : canonK s (nzSwapDue c s) := by
  unfold nzSwapDue
  try dsimp only
  repeat' (first
    | with_reducible exact canonK_refl _
    | (with_reducible show canonK _ (nzTake _ _ _); with_reducible refine canonK_trans ?_ (nzTake_canonK _ _ _))
    | (with_reducible show canonK _ (nzLate _ _ _); with_reducible refine canonK_trans ?_ (canonK_of_keeps (nzLate_keeps _ _ _) (by decide)))
    | with_reducible refine canonK_ite ?_ ?_
    | with_reducible refine canonK_doIf (fun _ => ?_) ?_
    | with_reducible refine canonK_each (fun _ _ => ?_) ?_
    | dsimp only [id]
    | split
    | exact canonK_eq rfl rfl rfl)

theorem nzBefore_canonK (p lc : Nat) (s : State) : canonK s (nzBefore p lc s) := by
  unfold nzBefore
  try dsimp only
  repeat' (first
    | with_reducible exact canonK_refl _
    | (with_reducible show canonK _ (mNzl _ _); with_reducible refine canonK_trans ?_ (canonK_of_keeps (mNzl_keeps _ _) (by decide)))
    | (with_reducible show canonK _ (nzTake _ _ _); with_reducible refine canonK_trans ?_ (nzTake_canonK _ _ _))
    | (with_reducible show canonK _ (nzLate _ _ _); with_reducible refine canonK_trans ?_ (canonK_of_keeps (nzLate_keeps _ _ _) (by decide)))
    | with_reducible refine canonK_ite ?_ ?_
    | with_reducible refine canonK_doIf (fun _ => ?_) ?_
    | with_reducible refine canonK_each (fun _ _ => ?_) ?_
    | dsimp only [id]
    | split
    | exact canonK_eq rfl rfl rfl)

theorem nzGridClosed_canonK (p : Nat → Bool) (s : State) : canonK s (nzGridClosed p s) := by
  unfold nzGridClosed
  try dsimp only
  repeat' (first
    | with_reducible exact canonK_refl _
    | (with_reducible show canonK _ (mNzl _ _); with_reducible refine canonK_trans ?_ (canonK_of_keeps (mNzl_keeps _ _) (by decide)))
    | (with_reducible show canonK _ (nzTake _ _ _); with_reducible refine canonK_trans ?_ (nzTake_canonK _ _ _))
    | with_reducible refine canonK_ite ?_ ?_
    | with_reducible refine canonK_doIf (fun _ => ?_) ?_
    | with_reducible refine canonK_each (fun _ _ => ?_) ?_
    | dsimp only [id]
    | split
    | exact canonK_eq rfl rfl rfl)

theorem nzSubmit_canonK (c : NzlChange) (s : State) : canonK s (nzSubmit c s) := by
  unfold nzSubmit
  try dsimp only
  repeat' (first
    | with_reducible exact canonK_refl _
    | (with_reducible show canonK _ (mNzl _ _); with_reducible refine canonK_trans ?_ (canonK_of_keeps (mNzl_keeps _ _) (by decide)))
    | (with_reducible show canonK _ (sendNzlChange _ _ _ _); with_reducible refine canonK_trans ?_ (canonK_of_keeps (sendNzlChange_keeps _ _ _ _) (by decide)))
    | (with_reducible show canonK _ (nzApply _ _ _); with_reducible refine canonK_trans ?_ (nzApply_canonK _ _ _))
    | with_reducible refine canonK_ite ?_ ?_
    | with_reducible refine canonK_doIf (fun _ => ?_) ?_
    | with_reducible refine canonK_each (fun _ _ => ?_) ?_
    | dsimp only [id]
    | split
    | exact canonK_eq rfl rfl rfl)

theorem nzSuspect_canonK (n lc : Nat) (s : State) : canonK s (nzSuspect n lc s) := by
  unfold nzSuspect
  try dsimp only
  repeat' (first
    | with_reducible exact canonK_refl _
    | (with_reducible show canonK _ (nzSubmit _ _); with_reducible refine canonK_trans ?_ (nzSubmit_canonK _ _))
    | with_reducible refine canonK_ite ?_ ?_
    | with_reducible refine canonK_doIf (fun _ => ?_) ?_
    | with_reducible refine canonK_each (fun _ _ => ?_) ?_
    | dsimp only [id]
    | split
    | exact canonK_eq rfl rfl rfl)

theorem nzGate_canonK (n r : Nat) (s : State) : canonK s (nzGate n r s) := by
  unfold nzGate
  try dsimp only
  repeat' (first
    | with_reducible exact canonK_refl _
    | (with_reducible show canonK _ (nzSubmit _ _); with_reducible refine canonK_trans ?_ (nzSubmit_canonK _ _))
    | with_reducible refine canonK_ite ?_ ?_
    | with_reducible refine canonK_doIf (fun _ => ?_) ?_
    | with_reducible refine canonK_each (fun _ _ => ?_) ?_
    | dsimp only [id]
    | split
    | exact canonK_eq rfl rfl rfl)

/-! Machine/Memory.lean -/

theorem releaseAll_canonK (s : State) : canonK s (releaseAll s) := by
  unfold releaseAll
  try dsimp only
  repeat' (first
    | with_reducible exact canonK_refl _
    | (with_reducible show canonK _ (raise _ _ _ _); with_reducible refine canonK_trans ?_ (canonK_of_keeps (raise_keeps _ _ _ _) (by decide)))
    | (with_reducible show canonK _ (releaseLayer _ _ _); with_reducible refine canonK_trans ?_ (releaseLayer_canonK _ _ _))
    | (with_reducible show canonK _ (strandSync _); with_reducible refine canonK_trans ?_ (canonK_of_keeps (strandSync_keeps _) (by decide)))
    | with_reducible refine canonK_ite ?_ ?_
    | with_reducible refine canonK_doIf (fun _ => ?_) ?_
    | with_reducible refine canonK_each (fun _ _ => ?_) ?_
    | dsimp only [id]
    | split
    | exact canonK_eq rfl rfl rfl)

theorem verifyFailed_canonK (ch : Nat) (s : State) : canonK s (verifyFailed ch s) := by
  unfold verifyFailed
  try dsimp only
  repeat' (first
    | with_reducible exact canonK_refl _
    | (with_reducible show canonK _ (raise _ _ _ _); with_reducible refine canonK_trans ?_ (canonK_of_keeps (raise_keeps _ _ _ _) (by decide)))
    | (with_reducible show canonK _ (faultErr _ _ _); with_reducible refine canonK_trans ?_ (canonK_of_keeps (faultErr_keeps _ _ _) (by decide)))
    | (with_reducible show canonK _ (placeUpdate _); with_reducible refine canonK_trans ?_ (canonK_of_keeps (placeUpdate_keeps _) (by decide)))
    | (with_reducible show canonK _ (chanOffline _ _); with_reducible refine canonK_trans ?_ (chanOffline_canonK _ _))
    | (with_reducible show canonK _ (releaseAll _); with_reducible refine canonK_trans ?_ (releaseAll_canonK _))
    | with_reducible refine canonK_ite ?_ ?_
    | with_reducible refine canonK_doIf (fun _ => ?_) ?_
    | with_reducible refine canonK_each (fun _ _ => ?_) ?_
    | dsimp only [id]
    | split
    | exact canonK_eq rfl rfl rfl)

theorem verifyPassed_canonK (ch : Nat) (a b : Int) (s : State) : canonK s (verifyPassed ch a b s) := by
  unfold verifyPassed
  try dsimp only
  repeat' (first
    | with_reducible exact canonK_refl _
    | (with_reducible show canonK _ (mChan _ _ _); refine canonK_trans ?_ (canonK_mChan_eq _ _ _ ?_); rotate_left; focus (intro k; first | with_reducible rfl | (rw [touchRow_data]) | ((repeat' split) <;> rfl) | fail))
    | (with_reducible show canonK _ (mChan _ _ _); refine canonK_trans ?_ (canonK_mChan _ _ _ (by exact fun _ h => wf_each _ _ _ _ h)))
    | (with_reducible show canonK _ (notice _ _ _); with_reducible refine canonK_trans ?_ (canonK_of_keeps (notice_keeps _ _ _) (by decide)))
    | (with_reducible show canonK _ (delayUpdate _ _); with_reducible refine canonK_trans ?_ (delayUpdate_canonK _ _))
    | with_reducible refine canonK_ite ?_ ?_
    | with_reducible refine canonK_doIf (fun _ => ?_) ?_
    | with_reducible refine canonK_each (fun _ _ => ?_) ?_
    | dsimp only [id]
    | split
    | exact canonK_eq rfl rfl rfl)

theorem verifyStep_canonK (ch : Nat) (got0 got1 : Bytes) (s : State) : canonK s (verifyStep ch got0 got1 s) := by
  unfold verifyStep
  try dsimp only
  repeat' (first
    | with_reducible exact canonK_refl _
    | (with_reducible show canonK _ (mChan _ _ _); refine canonK_trans ?_ (canonK_mChan_eq _ _ _ ?_); rotate_left; focus (intro k; first | with_reducible rfl | (rw [touchRow_data]) | ((repeat' split) <;> rfl) | fail))
    | (with_reducible show canonK _ (mChan _ _ _); refine canonK_trans ?_ (canonK_mChan _ _ _ (by exact fun _ h => wf_each _ _ _ _ h)))
    | (with_reducible show canonK _ (verifyPassed _ _ _ _); with_reducible refine canonK_trans ?_ (verifyPassed_canonK _ _ _ _))
    | (with_reducible show canonK _ (verifyFailed _ _); with_reducible refine canonK_trans ?_ (verifyFailed_canonK _ _))
    | with_reducible refine canonK_ite ?_ ?_
    | with_reducible refine canonK_doIf (fun _ => ?_) ?_
    | with_reducible refine canonK_each (fun _ _ => ?_) ?_
    | dsimp only [id]
    | split
    | exact canonK_eq rfl rfl rfl)

theorem opMemVerify_canonK (v : Word) (s : State) : canonK s (opMemVerify v s) := by
  unfold opMemVerify
  try dsimp only
  repeat' (first
    | with_reducible exact canonK_refl _
    | (with_reducible show canonK _ (mChan _ _ _); refine canonK_trans ?_ (canonK_mChan_eq _ _ _ ?_); rotate_left; focus (intro k; first | with_reducible rfl | (rw [touchRow_data]) | ((repeat' split) <;> rfl) | fail))
    | (with_reducible show canonK _ (mChan _ _ _); refine canonK_trans ?_ (canonK_mChan _ _ _ (by exact fun _ h => wf_each _ _ _ _ h)))
    | with_reducible refine canonK_ite ?_ ?_
    | with_reducible refine canonK_doIf (fun _ => ?_) ?_
    | with_reducible refine canonK_each (fun _ _ => ?_) ?_
    | dsimp only [id]
    | split
    | exact canonK_eq rfl rfl rfl)

/-! Machine/Towline.lean -/

theorem towEntry_canonK {f : Via → State → State} (h_f : ∀ a0 u, canonK u (f a0 u)) (ss : Session) (d : Bytes) (np : Via) (s : State) : canonK s (towEntry ss d f np s) := by
  unfold towEntry
  try dsimp only
  repeat' (first
    | with_reducible exact canonK_refl _
    | (with_reducible show canonK _ (sendNak _ _ _ _ _); with_reducible refine canonK_trans ?_ (canonK_of_keeps (sendNak_keeps _ _ _ _ _) (by decide)))
    | (with_reducible show canonK _ (f _ _); with_reducible refine canonK_trans ?_ (h_f _ _))
    | with_reducible refine canonK_ite ?_ ?_
    | with_reducible refine canonK_doIf (fun _ => ?_) ?_
    | with_reducible refine canonK_each (fun _ _ => ?_) ?_
    | dsimp only [id]
    | split
    | exact canonK_eq rfl rfl rfl)

theorem towOwned_canonK {f : Layer → State → State} (h_f : ∀ a0 u, canonK u (f a0 u)) (np : Via) (ss : Session) (d : Bytes) (fseq : Nat) (gone : NakArgs) (s : State) : canonK s (towOwned np ss d fseq gone f s) := by
  unfold towOwned
  try dsimp only
  repeat' (first
    | with_reducible exact canonK_refl _
    | (with_reducible show canonK _ (sendNak _ _ _ _ _); with_reducible refine canonK_trans ?_ (canonK_of_keeps (sendNak_keeps _ _ _ _ _) (by decide)))
    | (with_reducible show canonK _ (f _ _); with_reducible refine canonK_trans ?_ (h_f _ _))
    | with_reducible refine canonK_ite ?_ ?_
    | with_reducible refine canonK_doIf (fun _ => ?_) ?_
    | with_reducible refine canonK_each (fun _ _ => ?_) ?_
    | dsimp only [id]
    | split
    | exact canonK_eq rfl rfl rfl)

theorem placeFragments_canonK (s : State) : canonK s (placeFragments s) := by
  unfold placeFragments
  try dsimp only
  repeat' (first
    | with_reducible exact canonK_refl _
    | (with_reducible show canonK _ (mTow _ _); with_reducible refine canonK_trans ?_ (canonK_of_keeps (mTow_keeps _ _) (by decide)))
    | (with_reducible show canonK _ (stageTake _ _ _ _ _ _ _); with_reducible refine canonK_trans ?_ (stageTake_canonK (fun _ => ?_) _ _ _ _ _ _))
    | (with_reducible show canonK _ (memWrite _ _ _ _ _); with_reducible refine canonK_trans ?_ (memWrite_canonK _ _ _ _ _))
    | (with_reducible show canonK _ (takeTag _); with_reducible refine canonK_trans ?_ (takeTag_canonK _))
    | with_reducible refine canonK_ite ?_ ?_
    | with_reducible refine canonK_doIf (fun _ => ?_) ?_
    | with_reducible refine canonK_each (fun _ _ => ?_) ?_
    | dsimp only [id]
    | split
    | exact canonK_eq rfl rfl rfl)

theorem fragStore_canonK (np : Via) (id sidx b frag total fseq : Nat) (data : Bytes) (s : State) : canonK s (fragStore np id sidx b frag total fseq data s) := by
  unfold fragStore
  try dsimp only
  repeat' (first
    | with_reducible exact canonK_refl _
    | (with_reducible show canonK _ (mTow _ _); with_reducible refine canonK_trans ?_ (canonK_of_keeps (mTow_keeps _ _) (by decide)))
    | (with_reducible show canonK _ (mLayer _ _ _); with_reducible refine canonK_trans ?_ (canonK_of_keeps (mLayer_keeps _ _ _) (by decide)))
    | (with_reducible show canonK _ (updateMargins _); with_reducible refine canonK_trans ?_ (canonK_of_keeps (updateMargins_keeps _) (by decide)))
    | (with_reducible show canonK _ (strandSync _); with_reducible refine canonK_trans ?_ (canonK_of_keeps (strandSync_keeps _) (by decide)))
    | (with_reducible show canonK _ (setLayerSt _ _ _ _); with_reducible refine canonK_trans ?_ (canonK_of_keeps (setLayerSt_keeps _ _ _ _) (by decide)))
    | (with_reducible show canonK _ (blockHeld _ _ _ _ _ _); with_reducible refine canonK_trans ?_ (canonK_of_keeps (blockHeld_keeps _ _ _ _ _ _) (by decide)))
    | (with_reducible show canonK _ (placeFragments _); with_reducible refine canonK_trans ?_ (placeFragments_canonK _))
    | (with_reducible show canonK _ (ackDue _ _ _ _); with_reducible refine canonK_trans ?_ (canonK_of_keeps (ackDue_keeps _ _ _ _) (by decide)))
    | (with_reducible show canonK _ (closeCheck _ _ _ _); with_reducible refine canonK_trans ?_ (canonK_of_keeps (closeCheck_keeps _ _ _ _) (by decide)))
    | with_reducible refine canonK_ite ?_ ?_
    | with_reducible refine canonK_doIf (fun _ => ?_) ?_
    | with_reducible refine canonK_each (fun _ _ => ?_) ?_
    | dsimp only [id]
    | split
    | exact canonK_eq rfl rfl rfl)

theorem fragCheck_canonK (np : Via) (ss : Session) (d : Bytes) (l : Layer) (s : State) : canonK s (fragCheck np ss d l s) := by
  unfold fragCheck
  try dsimp only
  repeat' (first
    | with_reducible exact canonK_refl _
    | (with_reducible show canonK _ (sendNak _ _ _ _ _); with_reducible refine canonK_trans ?_ (canonK_of_keeps (sendNak_keeps _ _ _ _ _) (by decide)))
    | (with_reducible show canonK _ (fragDup _ _ _ _); with_reducible refine canonK_trans ?_ (canonK_of_keeps (fragDup_keeps _ _ _ _) (by decide)))
    | (with_reducible show canonK _ (stageTake _ _ _ _ _ _ _); with_reducible refine canonK_trans ?_ (stageTake_canonK (fun _ => ?_) _ _ _ _ _ _))
    | (with_reducible show canonK _ (fragStore _ _ _ _ _ _ _ _ _); with_reducible refine canonK_trans ?_ (fragStore_canonK _ _ _ _ _ _ _ _ _))
    | with_reducible refine canonK_ite ?_ ?_
    | with_reducible refine canonK_doIf (fun _ => ?_) ?_
    | with_reducible refine canonK_each (fun _ _ => ?_) ?_
    | dsimp only [id]
    | split
    | exact canonK_eq rfl rfl rfl)

theorem releaseMsg_canonK (np : Via) (ss : Session) (d : Bytes) (s : State) : canonK s (releaseMsg np ss d s) := by
  unfold releaseMsg
  try dsimp only
  repeat' (first
    | with_reducible exact canonK_refl _
    | (with_reducible show canonK _ (sendNak _ _ _ _ _); with_reducible refine canonK_trans ?_ (canonK_of_keeps (sendNak_keeps _ _ _ _ _) (by decide)))
    | (with_reducible show canonK _ (sendAck _ _ _ _); with_reducible refine canonK_trans ?_ (canonK_of_keeps (sendAck_keeps _ _ _ _) (by decide)))
    | (with_reducible show canonK _ (releaseLayer _ _ _); with_reducible refine canonK_trans ?_ (releaseLayer_canonK _ _ _))
    | (with_reducible show canonK _ (creditWatch _); with_reducible refine canonK_trans ?_ (canonK_of_keeps (creditWatch_keeps _) (by decide)))
    | (with_reducible show canonK _ (updateMargins _); with_reducible refine canonK_trans ?_ (canonK_of_keeps (updateMargins_keeps _) (by decide)))
    | (with_reducible show canonK _ (strandSync _); with_reducible refine canonK_trans ?_ (canonK_of_keeps (strandSync_keeps _) (by decide)))
    | with_reducible refine canonK_ite ?_ ?_
    | with_reducible refine canonK_doIf (fun _ => ?_) ?_
    | with_reducible refine canonK_each (fun _ _ => ?_) ?_
    | dsimp only [id]
    | split
    | exact canonK_eq rfl rfl rfl)

theorem compStart_canonK (s : State) : canonK s (compStart s) := by
  unfold compStart
  try dsimp only
  repeat' (first
    | with_reducible exact canonK_refl _
    | (with_reducible show canonK _ (mCmp _ _); with_reducible refine canonK_trans ?_ (canonK_of_keeps (mCmp_keeps _ _) (by decide)))
    | (with_reducible show canonK _ (memRead _ _ _ _ _ _); with_reducible refine canonK_trans ?_ (memRead_canonK _ _ _ _ _ _))
    | (with_reducible show canonK _ (takeTag _); with_reducible refine canonK_trans ?_ (takeTag_canonK _))
    | (with_reducible show canonK _ (mBlock _ _ _ _ _); with_reducible refine canonK_trans ?_ (canonK_of_keeps (mBlock_keeps _ _ _ _ _) (by decide)))
    | (with_reducible show canonK _ (mComp _ _ _); with_reducible refine canonK_trans ?_ (canonK_of_keeps (mComp_keeps _ _ _) (by decide)))
    | with_reducible refine canonK_ite ?_ ?_
    | with_reducible refine canonK_doIf (fun _ => ?_) ?_
    | with_reducible refine canonK_each (fun _ _ => ?_) ?_
    | dsimp only [id]
    | split
    | exact canonK_eq rfl rfl rfl)

theorem chainDrain_canonK (c : Nat) (s : State) : canonK s (chainDrain c s) := by
  unfold chainDrain
  try dsimp only
  repeat' (first
    | with_reducible exact canonK_refl _
    | (with_reducible show canonK _ (memWrite _ _ _ _ _); with_reducible refine canonK_trans ?_ (memWrite_canonK _ _ _ _ _))
    | (with_reducible show canonK _ (mComp _ _ _); with_reducible refine canonK_trans ?_ (canonK_of_keeps (mComp_keeps _ _ _) (by decide)))
    | with_reducible refine canonK_ite ?_ ?_
    | with_reducible refine canonK_doIf (fun _ => ?_) ?_
    | with_reducible refine canonK_each (fun _ _ => ?_) ?_
    | dsimp only [id]
    | split
    | exact canonK_eq rfl rfl rfl)

theorem markPresent_canonK (np : Option Via) (id sidx b : Nat) (s : State) : canonK s (markPresent np id sidx b s) := by
  unfold markPresent
  try dsimp only
  repeat' (first
    | with_reducible exact canonK_refl _
    | (with_reducible show canonK _ (dirPut _ _ _); with_reducible refine canonK_trans ?_ (dirPut_canonK _ _ _))
    | (with_reducible show canonK _ (notePresent _ _ _); with_reducible refine canonK_trans ?_ (canonK_of_keeps (notePresent_keeps _ _ _) (by decide)))
    | (with_reducible show canonK _ (mBlock _ _ _ _ _); with_reducible refine canonK_trans ?_ (canonK_of_keeps (mBlock_keeps _ _ _ _ _) (by decide)))
    | (with_reducible show canonK _ (updateMargins _); with_reducible refine canonK_trans ?_ (canonK_of_keeps (updateMargins_keeps _) (by decide)))
    | (with_reducible show canonK _ (streamCheck _ _); with_reducible refine canonK_trans ?_ (canonK_of_keeps (streamCheck_keeps _ _) (by decide)))
    | (with_reducible show canonK _ (closeCheck _ _ _ _); with_reducible refine canonK_trans ?_ (canonK_of_keeps (closeCheck_keeps _ _ _ _) (by decide)))
    | with_reducible refine canonK_ite ?_ ?_
    | with_reducible refine canonK_doIf (fun _ => ?_) ?_
    | with_reducible refine canonK_each (fun _ _ => ?_) ?_
    | dsimp only [id]
    | split
    | exact canonK_eq rfl rfl rfl)

theorem compFree_canonK (c : Nat) (s : State) : canonK s (compFree c s) := by
  unfold compFree
  try dsimp only
  repeat' (first
    | with_reducible exact canonK_refl _
    | (with_reducible show canonK _ (mComp _ _ _); with_reducible refine canonK_trans ?_ (canonK_of_keeps (mComp_keeps _ _ _) (by decide)))
    | (with_reducible show canonK _ (arbDropped _); with_reducible refine canonK_trans ?_ (arbDropped_canonK _))
    | (with_reducible show canonK _ (mMem _ _); refine canonK_trans ?_ (canonK_mMem_eq _ _ (by intro m; with_reducible rfl) (by intro m; with_reducible rfl)))
    | with_reducible refine canonK_ite ?_ ?_
    | with_reducible refine canonK_doIf (fun _ => ?_) ?_
    | with_reducible refine canonK_each (fun _ _ => ?_) ?_
    | dsimp only [id]
    | split
    | exact canonK_eq rfl rfl rfl)

theorem compRaw_canonK (c : Nat) (s : State) : canonK s (compRaw c s) := by
  unfold compRaw
  try dsimp only
  repeat' (first
    | with_reducible exact canonK_refl _
    | (with_reducible show canonK _ (markPresent _ _ _ _ _); with_reducible refine canonK_trans ?_ (markPresent_canonK _ _ _ _ _))
    | (with_reducible show canonK _ (compFree _ _); with_reducible refine canonK_trans ?_ (compFree_canonK _ _))
    | (with_reducible show canonK _ (mCmp _ _); with_reducible refine canonK_trans ?_ (canonK_of_keeps (mCmp_keeps _ _) (by decide)))
    | with_reducible refine canonK_ite ?_ ?_
    | with_reducible refine canonK_doIf (fun _ => ?_) ?_
    | with_reducible refine canonK_each (fun _ _ => ?_) ?_
    | dsimp only [id]
    | split
    | exact canonK_eq rfl rfl rfl)

theorem compDone_canonK (c : Nat) (s : State) : canonK s (compDone c s) := by
  unfold compDone
  try dsimp only
  repeat' (first
    | with_reducible exact canonK_refl _
    | (with_reducible show canonK _ (compRaw _ _); with_reducible refine canonK_trans ?_ (compRaw_canonK _ _))
    | (with_reducible show canonK _ (mBlock _ _ _ _ _); with_reducible refine canonK_trans ?_ (canonK_of_keeps (mBlock_keeps _ _ _ _ _) (by decide)))
    | (with_reducible show canonK _ (mCmp _ _); with_reducible refine canonK_trans ?_ (canonK_of_keeps (mCmp_keeps _ _) (by decide)))
    | (with_reducible show canonK _ (markPresent _ _ _ _ _); with_reducible refine canonK_trans ?_ (markPresent_canonK _ _ _ _ _))
    | (with_reducible show canonK _ (compFree _ _); with_reducible refine canonK_trans ?_ (compFree_canonK _ _))
    | with_reducible refine canonK_ite ?_ ?_
    | with_reducible refine canonK_doIf (fun _ => ?_) ?_
    | with_reducible refine canonK_each (fun _ _ => ?_) ?_
    | dsimp only [id]
    | split
    | exact canonK_eq rfl rfl rfl)

/-! Machine/Strands.lean -/

theorem fetchIssue_canonK (n : Nat) (s : State) : canonK s (fetchIssue n s) := by
  unfold fetchIssue
  try dsimp only
  repeat' (first
    | with_reducible exact canonK_refl _
    | (with_reducible show canonK _ (mStrand _ _ _); with_reducible refine canonK_trans ?_ (canonK_of_keeps (mStrand_keeps _ _ _) (by decide)))
    | (with_reducible show canonK _ (panicUpdate _ _); with_reducible refine canonK_trans ?_ (panicUpdate_canonK _ _))
    | (with_reducible show canonK _ (memRead _ _ _ _ _ _); with_reducible refine canonK_trans ?_ (memRead_canonK _ _ _ _ _ _))
    | (with_reducible show canonK _ (takeTag _); with_reducible refine canonK_trans ?_ (takeTag_canonK _))
    | with_reducible refine canonK_ite ?_ ?_
    | with_reducible refine canonK_doIf (fun _ => ?_) ?_
    | with_reducible refine canonK_each (fun _ _ => ?_) ?_
    | dsimp only [id]
    | split
    | exact canonK_eq rfl rfl rfl)

theorem fetchDone_canonK (n : Nat) (s : State) : canonK s (fetchDone n s) := by
  unfold fetchDone
  try dsimp only
  repeat' (first
    | with_reducible exact canonK_refl _
    | (with_reducible show canonK _ (mStrand _ _ _); with_reducible refine canonK_trans ?_ (canonK_of_keeps (mStrand_keeps _ _ _) (by decide)))
    | (with_reducible show canonK _ (panicUpdate _ _); with_reducible refine canonK_trans ?_ (panicUpdate_canonK _ _))
    | (with_reducible show canonK _ (bankPut _ _ _ _); with_reducible refine canonK_trans ?_ (bankPut_canonK _ _ _ _))
    | with_reducible refine canonK_ite ?_ ?_
    | with_reducible refine canonK_doIf (fun _ => ?_) ?_
    | with_reducible refine canonK_each (fun _ _ => ?_) ?_
    | dsimp only [id]
    | split
    | exact canonK_eq rfl rfl rfl)

theorem spoolServe_canonK (p : Nat) (s : State) : canonK s (spoolServe p s) := by
  unfold spoolServe
  try dsimp only
  repeat' (first
    | with_reducible exact canonK_refl _
    | (with_reducible show canonK _ (panicUpdate _ _); with_reducible refine canonK_trans ?_ (panicUpdate_canonK _ _))
    | (with_reducible show canonK _ (strandAhead _ _); with_reducible refine canonK_trans ?_ (canonK_of_keeps (strandAhead_keeps _ _) (by decide)))
    | (with_reducible show canonK _ (spoolTurn _ _); with_reducible refine canonK_trans ?_ (canonK_of_keeps (spoolTurn_keeps _ _) (by decide)))
    | with_reducible refine canonK_ite ?_ ?_
    | with_reducible refine canonK_doIf (fun _ => ?_) ?_
    | with_reducible refine canonK_each (fun _ _ => ?_) ?_
    | dsimp only [id]
    | split
    | exact canonK_eq rfl rfl rfl)

/-! Machine/Grid.lean -/

theorem closeGrid_canonK (s : State) : canonK s (closeGrid s) := by
  unfold closeGrid
  try dsimp only
  repeat' (first
    | with_reducible exact canonK_refl _
    | (with_reducible show canonK _ (mFir _ _); with_reducible refine canonK_trans ?_ (canonK_of_keeps (mFir_keeps _ _) (by decide)))
    | (with_reducible show canonK _ (mNzl _ _); with_reducible refine canonK_trans ?_ (canonK_of_keeps (mNzl_keeps _ _) (by decide)))
    | (with_reducible show canonK _ (nzGridClosed _ _); with_reducible refine canonK_trans ?_ (nzGridClosed_canonK _ _))
    | (with_reducible show canonK _ (setOvs _ _); with_reducible refine canonK_trans ?_ (canonK_of_keeps (setOvs_keeps _ _) (by decide)))
    | with_reducible refine canonK_ite ?_ ?_
    | with_reducible refine canonK_doIf (fun _ => ?_) ?_
    | with_reducible refine canonK_each (fun _ _ => ?_) ?_
    | dsimp only [id]
    | split
    | exact canonK_eq rfl rfl rfl)

theorem layerFinished_canonK (id : Nat) (s : State) : canonK s (layerFinished id s) := by
  unfold layerFinished
  try dsimp only
  repeat' (first
    | with_reducible exact canonK_refl _
    | (with_reducible show canonK _ (mFir _ _); with_reducible refine canonK_trans ?_ (canonK_of_keeps (mFir_keeps _ _) (by decide)))
    | (with_reducible show canonK _ (setLayerSt _ _ _ _); with_reducible refine canonK_trans ?_ (canonK_of_keeps (setLayerSt_keeps _ _ _ _) (by decide)))
    | (with_reducible show canonK _ (mLayer _ _ _); with_reducible refine canonK_trans ?_ (canonK_of_keeps (mLayer_keeps _ _ _) (by decide)))
    | (with_reducible show canonK _ (creditWatch _); with_reducible refine canonK_trans ?_ (canonK_of_keeps (creditWatch_keeps _) (by decide)))
    | (with_reducible show canonK _ (releaseLayer _ _ _); with_reducible refine canonK_trans ?_ (releaseLayer_canonK _ _ _))
    | with_reducible refine canonK_ite ?_ ?_
    | with_reducible refine canonK_doIf (fun _ => ?_) ?_
    | with_reducible refine canonK_each (fun _ _ => ?_) ?_
    | dsimp only [id]
    | split
    | exact canonK_eq rfl rfl rfl)

theorem finishLayers_canonK (s : State) : canonK s (finishLayers s) := by
  unfold finishLayers
  try dsimp only
  repeat' (first
    | with_reducible exact canonK_refl _
    | (with_reducible show canonK _ (mLayer _ _ _); with_reducible refine canonK_trans ?_ (canonK_of_keeps (mLayer_keeps _ _ _) (by decide)))
    | (with_reducible show canonK _ (checkReady _); with_reducible refine canonK_trans ?_ (canonK_of_keeps (checkReady_keeps _) (by decide)))
    | (with_reducible show canonK _ (strandSync _); with_reducible refine canonK_trans ?_ (canonK_of_keeps (strandSync_keeps _) (by decide)))
    | (with_reducible show canonK _ (updateMargins _); with_reducible refine canonK_trans ?_ (canonK_of_keeps (updateMargins_keeps _) (by decide)))
    | (with_reducible show canonK _ (closeGrid _); with_reducible refine canonK_trans ?_ (closeGrid_canonK _))
    | (with_reducible show canonK _ (layerFinished _ _); with_reducible refine canonK_trans ?_ (layerFinished_canonK _ _))
    | with_reducible refine canonK_ite ?_ ?_
    | with_reducible refine canonK_doIf (fun _ => ?_) ?_
    | with_reducible refine canonK_each (fun _ _ => ?_) ?_
    | dsimp only [id]
    | split
    | exact canonK_eq rfl rfl rfl)

/-! Machine/Control.lean -/

theorem stopEnds_canonK (s : State) : canonK s (stopEnds s) := by
  unfold stopEnds
  try dsimp only
  repeat' (first
    | with_reducible exact canonK_refl _
    | (with_reducible show canonK _ (mTow _ _); with_reducible refine canonK_trans ?_ (canonK_of_keeps (mTow_keeps _ _) (by decide)))
    | (with_reducible show canonK _ (mFir _ _); with_reducible refine canonK_trans ?_ (canonK_of_keeps (mFir_keeps _ _) (by decide)))
    | (with_reducible show canonK _ (closeGrid _); with_reducible refine canonK_trans ?_ (closeGrid_canonK _))
    | with_reducible refine canonK_ite ?_ ?_
    | with_reducible refine canonK_doIf (fun _ => ?_) ?_
    | with_reducible refine canonK_each (fun _ _ => ?_) ?_
    | dsimp only [id]
    | split
    | exact canonK_eq rfl rfl rfl)

theorem opAck_canonK (s : State) : canonK s (opAck s) := by
  unfold opAck
  try dsimp only
  repeat' (first
    | with_reducible exact canonK_refl _
    | (with_reducible show canonK _ (mErr _ _); with_reducible refine canonK_trans ?_ (canonK_of_keeps (mErr_keeps _ _) (by decide)))
    | (with_reducible show canonK _ (setDev _ _); with_reducible refine canonK_trans ?_ (canonK_of_keeps (setDev_keeps _ _) (by decide)))
    | (with_reducible show canonK _ (strandSync _); with_reducible refine canonK_trans ?_ (canonK_of_keeps (strandSync_keeps _) (by decide)))
    | (with_reducible show canonK _ (stopEnds _); with_reducible refine canonK_trans ?_ (stopEnds_canonK _))
    | with_reducible refine canonK_ite ?_ ?_
    | with_reducible refine canonK_doIf (fun _ => ?_) ?_
    | with_reducible refine canonK_each (fun _ _ => ?_) ?_
    | dsimp only [id]
    | split
    | exact canonK_eq rfl rfl rfl)

theorem ctlApply_canonK (c : Nat) (s : State) : canonK s (ctlApply c s) := by
  unfold ctlApply
  try dsimp only
  repeat' (first
    | with_reducible exact canonK_refl _
    | (with_reducible show canonK _ (setDev _ _); with_reducible refine canonK_trans ?_ (canonK_of_keeps (setDev_keeps _ _) (by decide)))
    | (with_reducible show canonK _ (opResume _); with_reducible refine canonK_trans ?_ (canonK_of_keeps (opResume_keeps _) (by decide)))
    | (with_reducible show canonK _ (opAck _); with_reducible refine canonK_trans ?_ (opAck_canonK _))
    | with_reducible refine canonK_ite ?_ ?_
    | with_reducible refine canonK_doIf (fun _ => ?_) ?_
    | with_reducible refine canonK_each (fun _ _ => ?_) ?_
    | dsimp only [id]
    | split
    | exact canonK_eq rfl rfl rfl)

theorem ctlAt_canonK (c lc : Nat) (s : State) : canonK s (ctlAt c lc s) := by
  unfold ctlAt
  try dsimp only
  repeat' (first
    | with_reducible exact canonK_refl _
    | (with_reducible show canonK _ (mPar _ _); with_reducible refine canonK_trans ?_ (canonK_of_keeps (mPar_keeps _ _) (by decide)))
    | (with_reducible show canonK _ (ctlApply _ _); with_reducible refine canonK_trans ?_ (ctlApply_canonK _ _))
    | with_reducible refine canonK_ite ?_ ?_
    | with_reducible refine canonK_doIf (fun _ => ?_) ?_
    | with_reducible refine canonK_each (fun _ _ => ?_) ?_
    | dsimp only [id]
    | split
    | exact canonK_eq rfl rfl rfl)

theorem ctlCommand_canonK (c : Nat) (s : State) : canonK s (ctlCommand c s) := by
  unfold ctlCommand
  try dsimp only
  repeat' (first
    | with_reducible exact canonK_refl _
    | (with_reducible show canonK _ (sendState _ _ _); with_reducible refine canonK_trans ?_ (canonK_of_keeps (sendState_keeps _ _ _) (by decide)))
    | (with_reducible show canonK _ (ctlApply _ _); with_reducible refine canonK_trans ?_ (ctlApply_canonK _ _))
    | (with_reducible show canonK _ (ctlAt _ _ _); with_reducible refine canonK_trans ?_ (ctlAt_canonK _ _ _))
    | with_reducible refine canonK_ite ?_ ?_
    | with_reducible refine canonK_doIf (fun _ => ?_) ?_
    | with_reducible refine canonK_each (fun _ _ => ?_) ?_
    | dsimp only [id]
    | split
    | exact canonK_eq rfl rfl rfl)

theorem ctlDue_canonK (lc : Nat) (s : State) : canonK s (ctlDue lc s) := by
  unfold ctlDue
  try dsimp only
  repeat' (first
    | with_reducible exact canonK_refl _
    | (with_reducible show canonK _ (mPar _ _); with_reducible refine canonK_trans ?_ (canonK_of_keeps (mPar_keeps _ _) (by decide)))
    | (with_reducible show canonK _ (ctlApply _ _); with_reducible refine canonK_trans ?_ (ctlApply_canonK _ _))
    | with_reducible refine canonK_ite ?_ ?_
    | with_reducible refine canonK_doIf (fun _ => ?_) ?_
    | with_reducible refine canonK_each (fun _ _ => ?_) ?_
    | dsimp only [id]
    | split
    | exact canonK_eq rfl rfl rfl)

theorem ctlLeft_canonK (s : State) : canonK s (ctlLeft s) := by
  unfold ctlLeft
  try dsimp only
  repeat' (first
    | with_reducible exact canonK_refl _
    | (with_reducible show canonK _ (mPar _ _); with_reducible refine canonK_trans ?_ (canonK_of_keeps (mPar_keeps _ _) (by decide)))
    | (with_reducible show canonK _ (ctlApply _ _); with_reducible refine canonK_trans ?_ (ctlApply_canonK _ _))
    | with_reducible refine canonK_ite ?_ ?_
    | with_reducible refine canonK_doIf (fun _ => ?_) ?_
    | with_reducible refine canonK_each (fun _ _ => ?_) ?_
    | dsimp only [id]
    | split
    | exact canonK_eq rfl rfl rfl)

/-! Machine/Release.lean -/

theorem beforeRelease_canonK (p k lc : Nat) (s : State) : canonK s (beforeRelease p k lc s) := by
  unfold beforeRelease
  try dsimp only
  repeat' (first
    | with_reducible exact canonK_refl _
    | (with_reducible show canonK _ (mNzl _ _); with_reducible refine canonK_trans ?_ (canonK_of_keeps (mNzl_keeps _ _) (by decide)))
    | (with_reducible show canonK _ (nzBefore _ _ _); with_reducible refine canonK_trans ?_ (nzBefore_canonK _ _ _))
    | (with_reducible show canonK _ (portMask _ _ _); with_reducible refine canonK_trans ?_ (canonK_of_keeps (portMask_keeps _ _ _) (by decide)))
    | (with_reducible show canonK _ (ctlDue _ _); with_reducible refine canonK_trans ?_ (ctlDue_canonK _ _))
    | (with_reducible show canonK _ (yieldDue _ _); with_reducible refine canonK_trans ?_ (canonK_of_keeps (yieldDue_keeps _ _) (by decide)))
    | (with_reducible show canonK _ (updLateCount _ _); with_reducible refine canonK_trans ?_ (canonK_of_keeps (updLateCount_keeps _ _) (by decide)))
    | with_reducible refine canonK_ite ?_ ?_
    | with_reducible refine canonK_doIf (fun _ => ?_) ?_
    | with_reducible refine canonK_each (fun _ _ => ?_) ?_
    | dsimp only [id]
    | split
    | exact canonK_eq rfl rfl rfl)

theorem releaseTrig_canonK (p k : Nat) (rel : Int) (s : State) : canonK s (releaseTrig p k rel s) := by
  unfold releaseTrig
  try dsimp only
  repeat' (first
    | with_reducible exact canonK_refl _
    | (with_reducible show canonK _ (mFir _ _); with_reducible refine canonK_trans ?_ (canonK_of_keeps (mFir_keeps _ _) (by decide)))
    | (with_reducible show canonK _ (faultErr _ _ _); with_reducible refine canonK_trans ?_ (canonK_of_keeps (faultErr_keeps _ _ _) (by decide)))
    | (with_reducible show canonK _ (stopReached _ _); with_reducible refine canonK_trans ?_ (canonK_of_keeps (stopReached_keeps _ _) (by decide)))
    | (with_reducible show canonK _ (deliverAll _ _ _ _ _ _).1; with_reducible refine canonK_trans ?_ (canonK_of_keeps (deliverAll_keeps _ _ _ _ _ _) (by decide)))
    | (with_reducible show canonK _ (beforeRelease _ _ _ _); with_reducible refine canonK_trans ?_ (beforeRelease_canonK _ _ _ _))
    | (with_reducible show canonK _ (pushTrig _ _ _ _); with_reducible refine canonK_trans ?_ (canonK_of_keeps (pushTrig_keeps _ _ _ _) (by decide)))
    | (with_reducible show canonK _ (underrun _ _ _ _ _ _); with_reducible refine canonK_trans ?_ (canonK_of_keeps (underrun_keeps _ _ _ _ _ _) (by decide)))
    | with_reducible refine canonK_ite ?_ ?_
    | with_reducible refine canonK_doIf (fun _ => ?_) ?_
    | with_reducible refine canonK_each (fun _ _ => ?_) ?_
    | dsimp only [id]
    | split
    | exact canonK_eq rfl rfl rfl)

theorem portsGone_canonK (s : State) : canonK s (portsGone s) := by
  unfold portsGone
  try dsimp only
  repeat' (first
    | with_reducible exact canonK_refl _
    | (with_reducible show canonK _ (mPort _ _ _); with_reducible refine canonK_trans ?_ (canonK_of_keeps (mPort_keeps _ _ _) (by decide)))
    | (with_reducible show canonK _ (nzGridClosed _ _); with_reducible refine canonK_trans ?_ (nzGridClosed_canonK _ _))
    | with_reducible refine canonK_ite ?_ ?_
    | with_reducible refine canonK_doIf (fun _ => ?_) ?_
    | with_reducible refine canonK_each (fun _ _ => ?_) ?_
    | dsimp only [id]
    | split
    | exact canonK_eq rfl rfl rfl)

theorem releaseDue_canonK : ∀ (l : List (Nat × Nat × Int)) (s : State), canonK s (releaseDue l s)
  | [], s => canonK_refl s
  | x :: r, s => by
    unfold releaseDue
    refine canonK_trans ?_ (releaseDue_canonK r _)
    refine canonK_trans ?_ (releaseTrig_canonK _ _ _ _)
    split
    · exact canonK_of_keeps (stopUnder_keeps _ _ s) (by decide)
    · exact canonK_refl s

theorem posSample_canonK (t : Nat) (s : State) : canonK s (posSample t s) := by
  unfold posSample
  try dsimp only
  repeat' (first
    | with_reducible exact canonK_refl _
    | (with_reducible show canonK _ (sampleUsed _ _); with_reducible refine canonK_trans ?_ (canonK_of_keeps (sampleUsed_keeps _ _) (by decide)))
    | (with_reducible show canonK _ (ctlLeft _); with_reducible refine canonK_trans ?_ (ctlLeft_canonK _))
    | (with_reducible show canonK _ (setOvs _ _); with_reducible refine canonK_trans ?_ (canonK_of_keeps (setOvs_keeps _ _) (by decide)))
    | (with_reducible show canonK _ (decoderStops _); with_reducible refine canonK_trans ?_ (canonK_of_keeps (decoderStops_keeps _) (by decide)))
    | (with_reducible show canonK _ (releaseDue _ _); with_reducible refine canonK_trans ?_ (releaseDue_canonK _ _))
    | (with_reducible show canonK _ (stopReached _ _); with_reducible refine canonK_trans ?_ (canonK_of_keeps (stopReached_keeps _ _) (by decide)))
    | (with_reducible show canonK _ (knotSeeks _ _); with_reducible refine canonK_trans ?_ (canonK_of_keeps (knotSeeks_keeps _ _) (by decide)))
    | (with_reducible show canonK _ (mFir _ _); with_reducible refine canonK_trans ?_ (canonK_of_keeps (mFir_keeps _ _) (by decide)))
    | (with_reducible show canonK _ (strandSync _); with_reducible refine canonK_trans ?_ (canonK_of_keeps (strandSync_keeps _) (by decide)))
    | (with_reducible show canonK _ (portsGone _); with_reducible refine canonK_trans ?_ (portsGone_canonK _))
    | (with_reducible show canonK _ (pruneTrigs _ _); with_reducible refine canonK_trans ?_ (canonK_of_keeps (pruneTrigs_keeps _ _) (by decide)))
    | (with_reducible show canonK _ (freezePort _ _ _); with_reducible refine canonK_trans ?_ (canonK_of_keeps (freezePort_keeps _ _ _) (by decide)))
    | (with_reducible show canonK _ (updateMargins _); with_reducible refine canonK_trans ?_ (canonK_of_keeps (updateMargins_keeps _) (by decide)))
    | (with_reducible show canonK _ (finishLayers _); with_reducible refine canonK_trans ?_ (finishLayers_canonK _))
    | (with_reducible show canonK _ (ovsCheck _); with_reducible refine canonK_trans ?_ (canonK_of_keeps (ovsCheck_keeps _) (by decide)))
    | with_reducible refine canonK_ite ?_ ?_
    | with_reducible refine canonK_doIf (fun _ => ?_) ?_
    | with_reducible refine canonK_each (fun _ _ => ?_) ?_
    | dsimp only [id]
    | split
    | exact canonK_eq rfl rfl rfl)

/-! Machine/Frames.lean -/

theorem slotPut_canonK (n i c : Nat) (s : State) : canonK s (slotPut n i c s) := by
  unfold slotPut
  try dsimp only
  repeat' (first
    | with_reducible exact canonK_refl _
    | (with_reducible show canonK _ (bankPut _ _ _ _); with_reducible refine canonK_trans ?_ (bankPut_canonK _ _ _ _))
    | with_reducible refine canonK_ite ?_ ?_
    | with_reducible refine canonK_doIf (fun _ => ?_) ?_
    | with_reducible refine canonK_each (fun _ _ => ?_) ?_
    | dsimp only [id]
    | split
    | exact canonK_eq rfl rfl rfl)

theorem staggerRest_canonK (p : Nat) (t : Trig) (s : State) : canonK s (staggerRest p t s) := by
  unfold staggerRest
  try dsimp only
  repeat' (first
    | with_reducible exact canonK_refl _
    | (with_reducible show canonK _ (slotPut _ _ _ _); with_reducible refine canonK_trans ?_ (slotPut_canonK _ _ _ _))
    | with_reducible refine canonK_ite ?_ ?_
    | with_reducible refine canonK_doIf (fun _ => ?_) ?_
    | with_reducible refine canonK_each (fun _ _ => ?_) ?_
    | dsimp only [id]
    | split
    | exact canonK_eq rfl rfl rfl)

theorem staggerLine_canonK (n : Nat) (t : Trig) (l : SegLine) (s : State) : canonK s (staggerLine n t l s) := by
  unfold staggerLine
  try dsimp only
  repeat' (first
    | with_reducible exact canonK_refl _
    | (with_reducible show canonK _ (pruneTrigs _ _); with_reducible refine canonK_trans ?_ (canonK_of_keeps (pruneTrigs_keeps _ _) (by decide)))
    | (with_reducible show canonK _ (mLine _ _ _ _ _); with_reducible refine canonK_trans ?_ (canonK_of_keeps (mLine_keeps _ _ _ _ _) (by decide)))
    | (with_reducible show canonK _ (slotPut _ _ _ _); with_reducible refine canonK_trans ?_ (slotPut_canonK _ _ _ _))
    | (with_reducible show canonK _ (staggerRest _ _ _); with_reducible refine canonK_trans ?_ (staggerRest_canonK _ _ _))
    | with_reducible refine canonK_ite ?_ ?_
    | with_reducible refine canonK_doIf (fun _ => ?_) ?_
    | with_reducible refine canonK_each (fun _ _ => ?_) ?_
    | dsimp only [id]
    | split
    | exact canonK_eq rfl rfl rfl)

theorem countDrops_canonK {add : Nat → State → State} (h_add : ∀ a0 u, canonK u (add a0 u)) (p : Nat) (codes : List Nat) (s : State) : canonK s (countDrops p codes add s) := by
  unfold countDrops
  try dsimp only
  repeat' (first
    | with_reducible exact canonK_refl _
    | (with_reducible show canonK _ (add _ _); with_reducible refine canonK_trans ?_ (h_add _ _))
    | with_reducible refine canonK_ite ?_ ?_
    | with_reducible refine canonK_doIf (fun _ => ?_) ?_
    | with_reducible refine canonK_each (fun _ _ => ?_) ?_
    | dsimp only [id]
    | split
    | exact canonK_eq rfl rfl rfl)

theorem frameBuild_canonK (p : Nat) (t : Trig) (s : State) : canonK s (frameBuild p t s) := by
  unfold frameBuild
  try dsimp only
  repeat' (first
    | with_reducible exact canonK_refl _
    | (with_reducible show canonK _ (bankAddAt _ _ _ _ _); with_reducible refine canonK_trans ?_ (bankAddAt_canonK _ _ _ _ _))
    | (with_reducible show canonK _ (mTrig _ _ _ _); with_reducible refine canonK_trans ?_ (canonK_of_keeps (mTrig_keeps _ _ _ _) (by decide)))
    | (with_reducible show canonK _ (takeSsn _ _); with_reducible refine canonK_trans ?_ (canonK_of_keeps (takeSsn_keeps _ _) (by decide)))
    | (with_reducible show canonK _ (dropRing _ _ _ _ _); with_reducible refine canonK_trans ?_ (canonK_of_keeps (dropRing_keeps _ _ _ _ _) (by decide)))
    | (with_reducible show canonK _ (keepPayload _ _ _); with_reducible refine canonK_trans ?_ (canonK_of_keeps (keepPayload_keeps _ _ _) (by decide)))
    | (with_reducible show canonK _ (countDrops _ _ _ _); with_reducible refine canonK_trans ?_ (countDrops_canonK (fun _ _ => ?_) _ _ _))
    | (with_reducible show canonK _ (overlapLog _ _); with_reducible refine canonK_trans ?_ (canonK_of_keeps (overlapLog_keeps _ _) (by decide)))
    | with_reducible refine canonK_ite ?_ ?_
    | with_reducible refine canonK_doIf (fun _ => ?_) ?_
    | with_reducible refine canonK_each (fun _ _ => ?_) ?_
    | dsimp only [id]
    | split
    | exact canonK_eq rfl rfl rfl)

theorem opNzlReq_canonK (v : Word) (s : State) : canonK s (opNzlReq v s) := by
  unfold opNzlReq
  try dsimp only
  repeat' (first
    | with_reducible exact canonK_refl _
    | (with_reducible show canonK _ (mNzl _ _); with_reducible refine canonK_trans ?_ (canonK_of_keeps (mNzl_keeps _ _) (by decide)))
    | (with_reducible show canonK _ (nzSubmit _ _); with_reducible refine canonK_trans ?_ (nzSubmit_canonK _ _))
    | with_reducible refine canonK_ite ?_ ?_
    | with_reducible refine canonK_doIf (fun _ => ?_) ?_
    | with_reducible refine canonK_each (fun _ _ => ?_) ?_
    | dsimp only [id]
    | split
    | exact canonK_eq rfl rfl rfl)

/-! Machine/Gates.lean -/

theorem gateSlotEnd_canonK (g : Nat) (noise : Bool) (s : State) : canonK s (gateSlotEnd g noise s) := by
  unfold gateSlotEnd
  try dsimp only
  repeat' (first
    | with_reducible exact canonK_refl _
    | (with_reducible show canonK _ (mGat _ _ _); with_reducible refine canonK_trans ?_ (canonK_of_keeps (mGat_keeps _ _ _) (by decide)))
    | (with_reducible show canonK _ (journal _ _ _ _ _ _ _); with_reducible refine canonK_trans ?_ (canonK_of_keeps (journal_keeps _ _ _ _ _ _ _) (by decide)))
    | (with_reducible show canonK _ (nzGate _ _ _); with_reducible refine canonK_trans ?_ (nzGate_canonK _ _ _))
    | (with_reducible show canonK _ (gateNextSlot _ _); with_reducible refine canonK_trans ?_ (canonK_of_keeps (gateNextSlot_keeps _ _) (by decide)))
    | with_reducible refine canonK_ite ?_ ?_
    | with_reducible refine canonK_doIf (fun _ => ?_) ?_
    | with_reducible refine canonK_each (fun _ _ => ?_) ?_
    | dsimp only [id]
    | split
    | exact canonK_eq rfl rfl rfl)

/-! Machine/Gulist.lean -/

theorem abandonFrames_canonK (p : Nat) (s : State) : canonK s (abandonFrames p s) := by
  unfold abandonFrames
  try dsimp only
  repeat' (first
    | with_reducible exact canonK_refl _
    | (with_reducible show canonK _ (mPort _ _ _); with_reducible refine canonK_trans ?_ (canonK_of_keeps (mPort_keeps _ _ _) (by decide)))
    | (with_reducible show canonK _ (bankAddAt _ _ _ _ _); with_reducible refine canonK_trans ?_ (bankAddAt_canonK _ _ _ _ _))
    | (with_reducible show canonK _ (countDrops _ _ _ _); with_reducible refine canonK_trans ?_ (countDrops_canonK (fun _ _ => ?_) _ _ _))
    | with_reducible refine canonK_ite ?_ ?_
    | with_reducible refine canonK_doIf (fun _ => ?_) ?_
    | with_reducible refine canonK_each (fun _ _ => ?_) ?_
    | dsimp only [id]
    | split
    | exact canonK_eq rfl rfl rfl)

theorem portLeaves_canonK (p : Nat) (s : State) : canonK s (portLeaves p s) := by
  unfold portLeaves
  try dsimp only
  repeat' (first
    | with_reducible exact canonK_refl _
    | (with_reducible show canonK _ (mGul _ _); with_reducible refine canonK_trans ?_ (canonK_of_keeps (mGul_keeps _ _) (by decide)))
    | (with_reducible show canonK _ (mHead _ _ _); with_reducible refine canonK_trans ?_ (canonK_of_keeps (mHead_keeps _ _ _) (by decide)))
    | (with_reducible show canonK _ (hcfgEnd _ _); with_reducible refine canonK_trans ?_ (canonK_of_keeps (hcfgEnd_keeps _ _) (by decide)))
    | (with_reducible show canonK _ (abandonFrames _ _); with_reducible refine canonK_trans ?_ (abandonFrames_canonK _ _))
    | with_reducible refine canonK_ite ?_ ?_
    | with_reducible refine canonK_doIf (fun _ => ?_) ?_
    | with_reducible refine canonK_each (fun _ _ => ?_) ?_
    | dsimp only [id]
    | split
    | exact canonK_eq rfl rfl rfl)

theorem linkFail_canonK (p reason : Nat) (s : State) : canonK s (linkFail p reason s) := by
  unfold linkFail
  try dsimp only
  repeat' (first
    | with_reducible exact canonK_refl _
    | (with_reducible show canonK _ (portLeaves _ _); with_reducible refine canonK_trans ?_ (portLeaves_canonK _ _))
    | (with_reducible show canonK _ (mHead _ _ _); with_reducible refine canonK_trans ?_ (canonK_of_keeps (mHead_keeps _ _ _) (by decide)))
    | (with_reducible show canonK _ (portRests _ _); with_reducible refine canonK_trans ?_ (canonK_of_keeps (portRests_keeps _ _) (by decide)))
    | (with_reducible show canonK _ (raiseLim _ _ _ _ _ _); with_reducible refine canonK_trans ?_ (canonK_of_keeps (raiseLim_keeps _ _ _ _ _ _) (by decide)))
    | with_reducible refine canonK_ite ?_ ?_
    | with_reducible refine canonK_doIf (fun _ => ?_) ?_
    | with_reducible refine canonK_each (fun _ _ => ?_) ?_
    | dsimp only [id]
    | split
    | exact canonK_eq rfl rfl rfl)

theorem portLoss_canonK (p reason : Nat) (s : State) : canonK s (portLoss p reason s) := by
  unfold portLoss
  try dsimp only
  repeat' (first
    | with_reducible exact canonK_refl _
    | (with_reducible show canonK _ (raiseLim _ _ _ _ _ _); with_reducible refine canonK_trans ?_ (canonK_of_keeps (raiseLim_keeps _ _ _ _ _ _) (by decide)))
    | (with_reducible show canonK _ (portLeaves _ _); with_reducible refine canonK_trans ?_ (portLeaves_canonK _ _))
    | (with_reducible show canonK _ (mHead _ _ _); with_reducible refine canonK_trans ?_ (canonK_of_keeps (mHead_keeps _ _ _) (by decide)))
    | (with_reducible show canonK _ (portRests _ _); with_reducible refine canonK_trans ?_ (canonK_of_keeps (portRests_keeps _ _) (by decide)))
    | (with_reducible show canonK _ (portMask _ _ _); with_reducible refine canonK_trans ?_ (canonK_of_keeps (portMask_keeps _ _ _) (by decide)))
    | with_reducible refine canonK_ite ?_ ?_
    | with_reducible refine canonK_doIf (fun _ => ?_) ?_
    | with_reducible refine canonK_each (fun _ _ => ?_) ?_
    | dsimp only [id]
    | split
    | exact canonK_eq rfl rfl rfl)

theorem opGulCtl_canonK (p : Nat) (old new : Word) (s : State) : canonK s (opGulCtl p old new s) := by
  unfold opGulCtl
  try dsimp only
  repeat' (first
    | with_reducible exact canonK_refl _
    | (with_reducible show canonK _ (portWakes _ _); with_reducible refine canonK_trans ?_ (canonK_of_keeps (portWakes_keeps _ _) (by decide)))
    | (with_reducible show canonK _ (emit _ _); with_reducible refine canonK_trans ?_ (canonK_of_keeps (emit_keeps _ _) (by decide)))
    | (with_reducible show canonK _ (mHead _ _ _); with_reducible refine canonK_trans ?_ (canonK_of_keeps (mHead_keeps _ _ _) (by decide)))
    | (with_reducible show canonK _ (portLeaves _ _); with_reducible refine canonK_trans ?_ (portLeaves_canonK _ _))
    | (with_reducible show canonK _ (portMask _ _ _); with_reducible refine canonK_trans ?_ (canonK_of_keeps (portMask_keeps _ _ _) (by decide)))
    | with_reducible refine canonK_ite ?_ ?_
    | with_reducible refine canonK_doIf (fun _ => ?_) ?_
    | with_reducible refine canonK_each (fun _ _ => ?_) ?_
    | dsimp only [id]
    | split
    | exact canonK_eq rfl rfl rfl)

theorem capKnot_canonK (s : State) : canonK s (capKnot s) := by
  unfold capKnot
  try dsimp only
  repeat' (first
    | with_reducible exact canonK_refl _
    | (with_reducible show canonK _ (mHead _ _ _); with_reducible refine canonK_trans ?_ (canonK_of_keeps (mHead_keeps _ _ _) (by decide)))
    | (with_reducible show canonK _ (raiseLim _ _ _ _ _ _); with_reducible refine canonK_trans ?_ (canonK_of_keeps (raiseLim_keeps _ _ _ _ _ _) (by decide)))
    | (with_reducible show canonK _ (portLoss _ _ _); with_reducible refine canonK_trans ?_ (portLoss_canonK _ _ _))
    | with_reducible refine canonK_ite ?_ ?_
    | with_reducible refine canonK_doIf (fun _ => ?_) ?_
    | with_reducible refine canonK_each (fun _ _ => ?_) ?_
    | dsimp only [id]
    | split
    | exact canonK_eq rfl rfl rfl)

theorem exchangeAck_canonK (p : Nat) (f : Bytes) (s : State) : canonK s (exchangeAck p f s) := by
  unfold exchangeAck
  try dsimp only
  repeat' (first
    | with_reducible exact canonK_refl _
    | (with_reducible show canonK _ (mHead _ _ _); with_reducible refine canonK_trans ?_ (canonK_of_keeps (mHead_keeps _ _ _) (by decide)))
    | (with_reducible show canonK _ (cfgSend _ _ _); with_reducible refine canonK_trans ?_ (canonK_of_keeps (cfgSend_keeps _ _ _) (by decide)))
    | (with_reducible show canonK _ (linkFail _ _ _); with_reducible refine canonK_trans ?_ (linkFail_canonK _ _ _))
    | with_reducible refine canonK_ite ?_ ?_
    | with_reducible refine canonK_doIf (fun _ => ?_) ?_
    | with_reducible refine canonK_each (fun _ _ => ?_) ?_
    | dsimp only [id]
    | split
    | exact canonK_eq rfl rfl rfl)

theorem hostAck_canonK (p : Nat) (f : Bytes) (c : CfgReq) (s : State) : canonK s (hostAck p f c s) := by
  unfold hostAck
  try dsimp only
  repeat' (first
    | with_reducible exact canonK_refl _
    | (with_reducible show canonK _ (mGul _ _); with_reducible refine canonK_trans ?_ (canonK_of_keeps (mGul_keeps _ _) (by decide)))
    | (with_reducible show canonK _ (mHead _ _ _); with_reducible refine canonK_trans ?_ (canonK_of_keeps (mHead_keeps _ _ _) (by decide)))
    | (with_reducible show canonK _ (setReg _ _ _); with_reducible refine canonK_trans ?_ (canonK_setReg _ _ _))
    | (with_reducible show canonK _ (hcfgEnd _ _); with_reducible refine canonK_trans ?_ (canonK_of_keeps (hcfgEnd_keeps _ _) (by decide)))
    | with_reducible refine canonK_ite ?_ ?_
    | with_reducible refine canonK_doIf (fun _ => ?_) ?_
    | with_reducible refine canonK_each (fun _ _ => ?_) ?_
    | dsimp only [id]
    | split
    | exact canonK_eq rfl rfl rfl)

theorem gulAck_canonK (p : Nat) (f : Bytes) (s : State) : canonK s (gulAck p f s) := by
  unfold gulAck
  try dsimp only
  repeat' (first
    | with_reducible exact canonK_refl _
    | (with_reducible show canonK _ (gulDiscard _ _ _); with_reducible refine canonK_trans ?_ (canonK_of_keeps (gulDiscard_keeps _ _ _) (by decide)))
    | (with_reducible show canonK _ (gulSeq _ _ _); with_reducible refine canonK_trans ?_ (canonK_of_keeps (gulSeq_keeps _ _ _) (by decide)))
    | (with_reducible show canonK _ (exchangeAck _ _ _); with_reducible refine canonK_trans ?_ (exchangeAck_canonK _ _ _))
    | (with_reducible show canonK _ (hostAck _ _ _ _); with_reducible refine canonK_trans ?_ (hostAck_canonK _ _ _ _))
    | with_reducible refine canonK_ite ?_ ?_
    | with_reducible refine canonK_doIf (fun _ => ?_) ?_
    | with_reducible refine canonK_each (fun _ _ => ?_) ?_
    | dsimp only [id]
    | split
    | exact canonK_eq rfl rfl rfl)

theorem activeStatus_canonK (p : Nat) (f : Bytes) (s : State) : canonK s (activeStatus p f s) := by
  unfold activeStatus
  try dsimp only
  repeat' (first
    | with_reducible exact canonK_refl _
    | (with_reducible show canonK _ (mHead _ _ _); with_reducible refine canonK_trans ?_ (canonK_of_keeps (mHead_keeps _ _ _) (by decide)))
    | (with_reducible show canonK _ (raiseLim _ _ _ _ _ _); with_reducible refine canonK_trans ?_ (canonK_of_keeps (raiseLim_keeps _ _ _ _ _ _) (by decide)))
    | (with_reducible show canonK _ (portLoss _ _ _); with_reducible refine canonK_trans ?_ (portLoss_canonK _ _ _))
    | (with_reducible show canonK _ (missLog _ _); with_reducible refine canonK_trans ?_ (canonK_of_keeps (missLog_keeps _ _) (by decide)))
    | with_reducible refine canonK_ite ?_ ?_
    | with_reducible refine canonK_doIf (fun _ => ?_) ?_
    | with_reducible refine canonK_each (fun _ _ => ?_) ?_
    | dsimp only [id]
    | split
    | exact canonK_eq rfl rfl rfl)

theorem gulStatus_canonK (p : Nat) (f : Bytes) (s : State) : canonK s (gulStatus p f s) := by
  unfold gulStatus
  try dsimp only
  repeat' (first
    | with_reducible exact canonK_refl _
    | (with_reducible show canonK _ (mHead _ _ _); with_reducible refine canonK_trans ?_ (canonK_of_keeps (mHead_keeps _ _ _) (by decide)))
    | (with_reducible show canonK _ (linkFail _ _ _); with_reducible refine canonK_trans ?_ (linkFail_canonK _ _ _))
    | (with_reducible show canonK _ (portActive _ _); with_reducible refine canonK_trans ?_ (canonK_of_keeps (portActive_keeps _ _) (by decide)))
    | (with_reducible show canonK _ (gulSeq _ _ _); with_reducible refine canonK_trans ?_ (canonK_of_keeps (gulSeq_keeps _ _ _) (by decide)))
    | (with_reducible show canonK _ (activeStatus _ _ _); with_reducible refine canonK_trans ?_ (activeStatus_canonK _ _ _))
    | with_reducible refine canonK_ite ?_ ?_
    | with_reducible refine canonK_doIf (fun _ => ?_) ?_
    | with_reducible refine canonK_each (fun _ _ => ?_) ?_
    | dsimp only [id]
    | split
    | exact canonK_eq rfl rfl rfl)

theorem opGulClr_canonK (p : Nat) (v : Word) (s : State) : canonK s (opGulClr p v s) := by
  unfold opGulClr
  try dsimp only
  repeat' (first
    | with_reducible exact canonK_refl _
    | (with_reducible show canonK _ (mHead _ _ _); with_reducible refine canonK_trans ?_ (canonK_of_keeps (mHead_keeps _ _ _) (by decide)))
    | (with_reducible show canonK _ (portLoss _ _ _); with_reducible refine canonK_trans ?_ (portLoss_canonK _ _ _))
    | with_reducible refine canonK_ite ?_ ?_
    | with_reducible refine canonK_doIf (fun _ => ?_) ?_
    | with_reducible refine canonK_each (fun _ _ => ?_) ?_
    | dsimp only [id]
    | split
    | exact canonK_eq rfl rfl rfl)

/-! Machine/Calibration.lean -/

theorem slewStep_canonK (t : CalTarget) (s : State) : canonK s (slewStep t s) := by
  unfold slewStep
  try dsimp only
  repeat' (first
    | with_reducible exact canonK_refl _
    | (with_reducible show canonK _ (mFeg _ _ _); with_reducible refine canonK_trans ?_ (canonK_of_keeps (mFeg_keeps _ _ _) (by decide)))
    | (with_reducible show canonK _ (mLane _ _ _); with_reducible refine canonK_trans ?_ (canonK_of_keeps (mLane_keeps _ _ _) (by decide)))
    | (with_reducible show canonK _ (mCmpCal _ _ _); with_reducible refine canonK_trans ?_ (canonK_of_keeps (mCmpCal_keeps _ _ _) (by decide)))
    | (with_reducible show canonK _ (mChan _ _ _); refine canonK_trans ?_ (canonK_mChan_eq _ _ _ ?_); rotate_left; focus (intro k; first | with_reducible rfl | (rw [touchRow_data]) | ((repeat' split) <;> rfl) | fail))
    | (with_reducible show canonK _ (mChan _ _ _); refine canonK_trans ?_ (canonK_mChan _ _ _ (by exact fun _ h => wf_each _ _ _ _ h)))
    | (with_reducible show canonK _ (emit _ _); with_reducible refine canonK_trans ?_ (canonK_of_keeps (emit_keeps _ _) (by decide)))
    | with_reducible refine canonK_ite ?_ ?_
    | with_reducible refine canonK_doIf (fun _ => ?_) ?_
    | with_reducible refine canonK_each (fun _ _ => ?_) ?_
    | dsimp only [id]
    | split
    | exact canonK_eq rfl rfl rfl)

/-! Machine/Firing.lean -/

theorem strike_canonK (p : Nat) (cmpPs : Int) (s : State) : canonK s (strike p cmpPs s) := by
  unfold strike
  try dsimp only
  repeat' (first
    | with_reducible exact canonK_refl _
    | (with_reducible show canonK _ (mPar _ _); with_reducible refine canonK_trans ?_ (canonK_of_keeps (mPar_keeps _ _) (by decide)))
    | (with_reducible show canonK _ (finishLayers _); with_reducible refine canonK_trans ?_ (finishLayers_canonK _))
    | (with_reducible show canonK _ (ctlLeft _); with_reducible refine canonK_trans ?_ (ctlLeft_canonK _))
    | (with_reducible show canonK _ (pruneTrigs _ _); with_reducible refine canonK_trans ?_ (canonK_of_keeps (pruneTrigs_keeps _ _) (by decide)))
    | (with_reducible show canonK _ (fegStrike _ _ _); with_reducible refine canonK_trans ?_ (canonK_of_keeps (fegStrike_keeps _ _ _) (by decide)))
    | (with_reducible show canonK _ (dlcUpdate _); with_reducible refine canonK_trans ?_ (canonK_of_keeps (dlcUpdate_keeps _) (by decide)))
    | (with_reducible show canonK _ (strikeNull _ _ _); with_reducible refine canonK_trans ?_ (canonK_of_keeps (strikeNull_keeps _ _ _) (by decide)))
    | (with_reducible show canonK _ (strikeTrig _ _ _ _ _); with_reducible refine canonK_trans ?_ (canonK_of_keeps (strikeTrig_keeps _ _ _ _ _) (by decide)))
    | (with_reducible show canonK _ (lagJudge _ _ _ _); with_reducible refine canonK_trans ?_ (canonK_of_keeps (lagJudge_keeps _ _ _ _) (by decide)))
    | with_reducible refine canonK_ite ?_ ?_
    | with_reducible refine canonK_doIf (fun _ => ?_) ?_
    | with_reducible refine canonK_each (fun _ _ => ?_) ?_
    | dsimp only [id]
    | split
    | exact canonK_eq rfl rfl rfl)

theorem resStep_canonK (s : State) : canonK s (resStep s) := by
  unfold resStep
  try dsimp only
  repeat' (first
    | with_reducible exact canonK_refl _
    | (with_reducible show canonK _ (setReg _ _ _); with_reducible refine canonK_trans ?_ (canonK_setReg _ _ _))
    | with_reducible refine canonK_ite ?_ ?_
    | with_reducible refine canonK_doIf (fun _ => ?_) ?_
    | with_reducible refine canonK_each (fun _ _ => ?_) ?_
    | dsimp only [id]
    | split
    | exact canonK_eq rfl rfl rfl)

theorem opResData_canonK (acc : Access) (s : State) : canonK s (opResData acc s) := by
  unfold opResData
  try dsimp only
  repeat' (first
    | with_reducible exact canonK_refl _
    | (with_reducible show canonK _ (mStg _ _); with_reducible refine canonK_trans ?_ (canonK_of_keeps (mStg_keeps _ _) (by decide)))
    | (with_reducible show canonK _ (resStep _); with_reducible refine canonK_trans ?_ (resStep_canonK _))
    | with_reducible refine canonK_ite ?_ ?_
    | with_reducible refine canonK_doIf (fun _ => ?_) ?_
    | with_reducible refine canonK_each (fun _ _ => ?_) ?_
    | dsimp only [id]
    | split
    | exact canonK_eq rfl rfl rfl)

/-! Machine/Inspection.lean -/

theorem ctxRest_canonK (c : Nat) (s : State) : canonK s (ctxRest c s) := by
  unfold ctxRest
  try dsimp only
  repeat' (first
    | with_reducible exact canonK_refl _
    | (with_reducible show canonK _ (mArb _ _ _); with_reducible refine canonK_trans ?_ (canonK_mArb _ _ _))
    | with_reducible refine canonK_ite ?_ ?_
    | with_reducible refine canonK_doIf (fun _ => ?_) ?_
    | with_reducible refine canonK_each (fun _ _ => ?_) ?_
    | dsimp only [id]
    | split
    | exact canonK_eq rfl rfl rfl)

theorem makeRoom_canonK (p v n : Nat) : ∀ (k : Nat) (s : State), canonK s (makeRoom p v n k s)
  | 0, s => canonK_refl s
  | k + 1, s => by
    unfold makeRoom
    split
    · exact canonK_refl s
    · split
      · exact canonK_refl s
      · refine canonK_trans ?_ (makeRoom_canonK p v n k _)
        refine canonK_trans ?_ (ctxRest_canonK _ _)
        refine canonK_trans ?_ (canonK_of_keeps (stripeLost_keeps _ _ _ _) (by decide))
        exact canonK_of_keeps (mCam_keeps _ _ s) (by decide)

theorem stripeAdmit_canonK (x : CamStripe) (s : State) : canonK s (stripeAdmit x s) := by
  unfold stripeAdmit
  try dsimp only
  repeat' (first
    | with_reducible exact canonK_refl _
    | (with_reducible show canonK _ (mCam _ _ _); with_reducible refine canonK_trans ?_ (canonK_of_keeps (mCam_keeps _ _ _) (by decide)))
    | (with_reducible show canonK _ (stripeLost _ _ _ _); with_reducible refine canonK_trans ?_ (canonK_of_keeps (stripeLost_keeps _ _ _ _) (by decide)))
    | (with_reducible show canonK _ (makeRoom _ _ _ _ _); with_reducible refine canonK_trans ?_ (makeRoom_canonK _ _ _ _ _))
    | with_reducible refine canonK_ite ?_ ?_
    | with_reducible refine canonK_doIf (fun _ => ?_) ?_
    | with_reducible refine canonK_each (fun _ _ => ?_) ?_
    | dsimp only [id]
    | split
    | exact canonK_eq rfl rfl rfl)

theorem camLine_canonK (c : Nat) (dt : Nat) (d : Bytes) (crcOk : Bool) (s : State) : canonK s (camLine c dt d crcOk s) := by
  unfold camLine
  try dsimp only
  repeat' (first
    | with_reducible exact canonK_refl _
    | (with_reducible show canonK _ (camIgnore _ _); with_reducible refine canonK_trans ?_ (canonK_of_keeps (camIgnore_keeps _ _) (by decide)))
    | (with_reducible show canonK _ (mCam _ _ _); with_reducible refine canonK_trans ?_ (canonK_of_keeps (mCam_keeps _ _ _) (by decide)))
    | (with_reducible show canonK _ (camNotice _ _ _); with_reducible refine canonK_trans ?_ (canonK_of_keeps (camNotice_keeps _ _ _) (by decide)))
    | (with_reducible show canonK _ (mFrame _ _ _ _); with_reducible refine canonK_trans ?_ (canonK_of_keeps (mFrame_keeps _ _ _ _) (by decide)))
    | (with_reducible show canonK _ (stripeAdmit _ _); with_reducible refine canonK_trans ?_ (stripeAdmit_canonK _ _))
    | with_reducible refine canonK_ite ?_ ?_
    | with_reducible refine canonK_doIf (fun _ => ?_) ?_
    | with_reducible refine canonK_each (fun _ _ => ?_) ?_
    | dsimp only [id]
    | split
    | exact canonK_eq rfl rfl rfl)

theorem stripeTake_canonK (x : CamStripe) (s : State) : canonK s (stripeTake x s) := by
  unfold stripeTake
  try dsimp only
  repeat' (first
    | with_reducible exact canonK_refl _
    | (with_reducible show canonK _ (mCam _ _ _); with_reducible refine canonK_trans ?_ (canonK_of_keeps (mCam_keeps _ _ _) (by decide)))
    | (with_reducible show canonK _ (mArb _ _ _); with_reducible refine canonK_trans ?_ (canonK_mArb _ _ _))
    | (with_reducible show canonK _ (ctxRest _ _); with_reducible refine canonK_trans ?_ (ctxRest_canonK _ _))
    | (with_reducible show canonK _ (stripeRun _ _); with_reducible refine canonK_trans ?_ (canonK_of_keeps (stripeRun_keeps _ _) (by decide)))
    | with_reducible refine canonK_ite ?_ ?_
    | with_reducible refine canonK_doIf (fun _ => ?_) ?_
    | with_reducible refine canonK_each (fun _ _ => ?_) ?_
    | dsimp only [id]
    | split
    | exact canonK_eq rfl rfl rfl)

theorem recordPut_canonK (c : Nat) (f : CamFrame) (s : State) : canonK s (recordPut c f s) := by
  unfold recordPut
  try dsimp only
  repeat' (first
    | with_reducible exact canonK_refl _
    | (with_reducible show canonK _ (mCtx _ _ _); with_reducible refine canonK_trans ?_ (canonK_of_keeps (mCtx_keeps _ _ _) (by decide)))
    | (with_reducible show canonK _ (bankPut _ _ _ _); with_reducible refine canonK_trans ?_ (bankPut_canonK _ _ _ _))
    | (with_reducible show canonK _ (camNotice _ _ _); with_reducible refine canonK_trans ?_ (canonK_of_keeps (camNotice_keeps _ _ _) (by decide)))
    | with_reducible refine canonK_ite ?_ ?_
    | with_reducible refine canonK_doIf (fun _ => ?_) ?_
    | with_reducible refine canonK_each (fun _ _ => ?_) ?_
    | dsimp only [id]
    | split
    | exact canonK_eq rfl rfl rfl)

theorem streakReport_canonK (c key smax lc n : Nat) (s : State) : canonK s (streakReport c key smax lc n s) := by
  unfold streakReport
  try dsimp only
  repeat' (first
    | with_reducible exact canonK_refl _
    | (with_reducible show canonK _ (camNotice _ _ _); with_reducible refine canonK_trans ?_ (canonK_of_keeps (camNotice_keeps _ _ _) (by decide)))
    | (with_reducible show canonK _ (suppress _ _); with_reducible refine canonK_trans ?_ (canonK_of_keeps (suppress_keeps _ _) (by decide)))
    | (with_reducible show canonK _ (mCtx _ _ _); with_reducible refine canonK_trans ?_ (canonK_of_keeps (mCtx_keeps _ _ _) (by decide)))
    | (with_reducible show canonK _ (mFrame _ _ _ _); with_reducible refine canonK_trans ?_ (canonK_of_keeps (mFrame_keeps _ _ _ _) (by decide)))
    | (with_reducible show canonK _ (nzSuspect _ _ _); with_reducible refine canonK_trans ?_ (nzSuspect_canonK _ _ _))
    | with_reducible refine canonK_ite ?_ ?_
    | with_reducible refine canonK_doIf (fun _ => ?_) ?_
    | with_reducible refine canonK_each (fun _ _ => ?_) ?_
    | dsimp only [id]
    | split
    | exact canonK_eq rfl rfl rfl)

theorem streakColumn_canonK (c : Nat) (f : CamFrame) (x : Nat) (s : State) : canonK s (streakColumn c f x s) := by
  unfold streakColumn
  try dsimp only
  repeat' (first
    | with_reducible exact canonK_refl _
    | (with_reducible show canonK _ (camNotice _ _ _); with_reducible refine canonK_trans ?_ (canonK_of_keeps (camNotice_keeps _ _ _) (by decide)))
    | (with_reducible show canonK _ (streakReport _ _ _ _ _ _); with_reducible refine canonK_trans ?_ (streakReport_canonK _ _ _ _ _ _))
    | with_reducible refine canonK_ite ?_ ?_
    | with_reducible refine canonK_doIf (fun _ => ?_) ?_
    | with_reducible refine canonK_each (fun _ _ => ?_) ?_
    | dsimp only [id]
    | split
    | exact canonK_eq rfl rfl rfl)

theorem streakJudge_canonK (c : Nat) (f : CamFrame) (x : Nat) (s : State) : canonK s (streakJudge c f x s) := by
  unfold streakJudge
  try dsimp only
  repeat' (first
    | with_reducible exact canonK_refl _
    | (with_reducible show canonK _ (bankPut _ _ _ _); with_reducible refine canonK_trans ?_ (bankPut_canonK _ _ _ _))
    | (with_reducible show canonK _ (streakColumn _ _ _ _); with_reducible refine canonK_trans ?_ (streakColumn_canonK _ _ _ _))
    | with_reducible refine canonK_ite ?_ ?_
    | with_reducible refine canonK_doIf (fun _ => ?_) ?_
    | with_reducible refine canonK_each (fun _ _ => ?_) ?_
    | dsimp only [id]
    | split
    | exact canonK_eq rfl rfl rfl)

theorem streakRun_canonK (c : Nat) (f : CamFrame) (s : State) : canonK s (streakRun c f s) := by
  unfold streakRun
  try dsimp only
  repeat' (first
    | with_reducible exact canonK_refl _
    | (with_reducible show canonK _ (mFrame _ _ _ _); with_reducible refine canonK_trans ?_ (canonK_of_keeps (mFrame_keeps _ _ _ _) (by decide)))
    | (with_reducible show canonK _ (streakJudge _ _ _ _); with_reducible refine canonK_trans ?_ (streakJudge_canonK _ _ _ _))
    | with_reducible refine canonK_ite ?_ ?_
    | with_reducible refine canonK_doIf (fun _ => ?_) ?_
    | with_reducible refine canonK_each (fun _ _ => ?_) ?_
    | dsimp only [id]
    | split
    | exact canonK_eq rfl rfl rfl)

theorem streakClear_canonK (c : Nat) (s : State) : canonK s (streakClear c s) :=
  canonK_mBank 4 _ s (fun k h => (sparseOk_filter (fun _ => (0 : Byte)) _ k.data h).1)

theorem camKnot_canonK (c : Nat) (old : List Word) (k : Int) (s : State) : canonK s (camKnot c old k s) := by
  unfold camKnot
  try dsimp only
  repeat' (first
    | with_reducible exact canonK_refl _
    | (with_reducible show canonK _ (mCtx _ _ _); with_reducible refine canonK_trans ?_ (canonK_of_keeps (mCtx_keeps _ _ _) (by decide)))
    | (with_reducible show canonK _ (streakClear _ _); with_reducible refine canonK_trans ?_ (streakClear_canonK _ _))
    | with_reducible refine canonK_ite ?_ ?_
    | with_reducible refine canonK_doIf (fun _ => ?_) ?_
    | with_reducible refine canonK_each (fun _ _ => ?_) ?_
    | dsimp only [id]
    | split
    | exact canonK_eq rfl rfl rfl)

theorem camPacket_canonK {f : State → State} (h_f : ∀  u, canonK u (f  u)) (c : Nat) (s : State) : canonK s (camPacket c f s) := by
  unfold camPacket
  try dsimp only
  repeat' (first
    | with_reducible exact canonK_refl _
    | (with_reducible show canonK _ (camIgnore _ _); with_reducible refine canonK_trans ?_ (canonK_of_keeps (camIgnore_keeps _ _) (by decide)))
    | (with_reducible show canonK _ (f _); with_reducible refine canonK_trans ?_ (h_f _))
    | with_reducible refine canonK_ite ?_ ?_
    | with_reducible refine canonK_doIf (fun _ => ?_) ?_
    | with_reducible refine canonK_each (fun _ _ => ?_) ?_
    | dsimp only [id]
    | split
    | exact canonK_eq rfl rfl rfl)

/-! Machine/Axes.lean -/

theorem axSet_canonK (a o : Nat) (v : Word) (s : State) : canonK s (axSet a o v s) := by
  unfold axSet
  try dsimp only
  repeat' (first
    | with_reducible exact canonK_refl _
    | (with_reducible show canonK _ (mAxs _ _ _); with_reducible refine canonK_trans ?_ (canonK_of_keeps (mAxs_keeps _ _ _) (by decide)))
    | (with_reducible show canonK _ (setReg _ _ _); with_reducible refine canonK_trans ?_ (canonK_setReg _ _ _))
    | with_reducible refine canonK_ite ?_ ?_
    | with_reducible refine canonK_doIf (fun _ => ?_) ?_
    | with_reducible refine canonK_each (fun _ _ => ?_) ?_
    | dsimp only [id]
    | split
    | exact canonK_eq rfl rfl rfl)

theorem toPosition_canonK (a : Nat) (s : State) : canonK s (toPosition a s) := by
  unfold toPosition
  try dsimp only
  repeat' (first
    | with_reducible exact canonK_refl _
    | (with_reducible show canonK _ (mAxs _ _ _); with_reducible refine canonK_trans ?_ (canonK_of_keeps (mAxs_keeps _ _ _) (by decide)))
    | (with_reducible show canonK _ (axSet _ _ _ _); with_reducible refine canonK_trans ?_ (axSet_canonK _ _ _ _))
    | with_reducible refine canonK_ite ?_ ?_
    | with_reducible refine canonK_doIf (fun _ => ?_) ?_
    | with_reducible refine canonK_each (fun _ _ => ?_) ?_
    | dsimp only [id]
    | split
    | exact canonK_eq rfl rfl rfl)

theorem toTarget_canonK (a : Nat) (x : Int) (s : State) : canonK s (toTarget a x s) := by
  unfold toTarget
  try dsimp only
  repeat' (first
    | with_reducible exact canonK_refl _
    | (with_reducible show canonK _ (axSet _ _ _ _); with_reducible refine canonK_trans ?_ (axSet_canonK _ _ _ _))
    | with_reducible refine canonK_ite ?_ ?_
    | with_reducible refine canonK_doIf (fun _ => ?_) ?_
    | with_reducible refine canonK_each (fun _ _ => ?_) ?_
    | dsimp only [id]
    | split
    | exact canonK_eq rfl rfl rfl)

theorem stallTake_canonK (a : Nat) (s : State) : canonK s (stallTake a s) := by
  unfold stallTake
  try dsimp only
  repeat' (first
    | with_reducible exact canonK_refl _
    | (with_reducible show canonK _ (mAxs _ _ _); with_reducible refine canonK_trans ?_ (canonK_of_keeps (mAxs_keeps _ _ _) (by decide)))
    | (with_reducible show canonK _ (faultErr _ _ _); with_reducible refine canonK_trans ?_ (canonK_of_keeps (faultErr_keeps _ _ _) (by decide)))
    | (with_reducible show canonK _ (axStat _ _ _); with_reducible refine canonK_trans ?_ (canonK_of_keeps (axStat_keeps _ _ _) (by decide)))
    | (with_reducible show canonK _ (toPosition _ _); with_reducible refine canonK_trans ?_ (toPosition_canonK _ _))
    | (with_reducible show canonK _ (toTarget _ _ _); with_reducible refine canonK_trans ?_ (toTarget_canonK _ _ _))
    | with_reducible refine canonK_ite ?_ ?_
    | with_reducible refine canonK_doIf (fun _ => ?_) ?_
    | with_reducible refine canonK_each (fun _ _ => ?_) ?_
    | dsimp only [id]
    | split
    | exact canonK_eq rfl rfl rfl)

theorem limitStep_canonK (a : Nat) (g d : Int) (s : State) : canonK s (limitStep a g d s) := by
  unfold limitStep
  try dsimp only
  repeat' (first
    | with_reducible exact canonK_refl _
    | (with_reducible show canonK _ (mAxs _ _ _); with_reducible refine canonK_trans ?_ (canonK_of_keeps (mAxs_keeps _ _ _) (by decide)))
    | (with_reducible show canonK _ (faultErr _ _ _); with_reducible refine canonK_trans ?_ (canonK_of_keeps (faultErr_keeps _ _ _) (by decide)))
    | (with_reducible show canonK _ (toPosition _ _); with_reducible refine canonK_trans ?_ (toPosition_canonK _ _))
    | (with_reducible show canonK _ (toTarget _ _ _); with_reducible refine canonK_trans ?_ (toTarget_canonK _ _ _))
    | with_reducible refine canonK_ite ?_ ?_
    | with_reducible refine canonK_doIf (fun _ => ?_) ?_
    | with_reducible refine canonK_each (fun _ _ => ?_) ?_
    | dsimp only [id]
    | split
    | exact canonK_eq rfl rfl rfl)

theorem hardStep_canonK (a : Nat) (lo hi : Int) (s : State) : canonK s (hardStep a lo hi s) := by
  unfold hardStep
  try dsimp only
  repeat' (first
    | with_reducible exact canonK_refl _
    | (with_reducible show canonK _ (mAxs _ _ _); with_reducible refine canonK_trans ?_ (canonK_of_keeps (mAxs_keeps _ _ _) (by decide)))
    | (with_reducible show canonK _ (toTarget _ _ _); with_reducible refine canonK_trans ?_ (toTarget_canonK _ _ _))
    | with_reducible refine canonK_ite ?_ ?_
    | with_reducible refine canonK_doIf (fun _ => ?_) ?_
    | with_reducible refine canonK_each (fun _ _ => ?_) ?_
    | dsimp only [id]
    | split
    | exact canonK_eq rfl rfl rfl)

theorem faultStep_canonK (a : Nat) (lo hi : Int) (s : State) : canonK s (faultStep a lo hi s) := by
  unfold faultStep
  try dsimp only
  repeat' (first
    | with_reducible exact canonK_refl _
    | (with_reducible show canonK _ (mAxs _ _ _); with_reducible refine canonK_trans ?_ (canonK_of_keeps (mAxs_keeps _ _ _) (by decide)))
    | (with_reducible show canonK _ (toPosition _ _); with_reducible refine canonK_trans ?_ (toPosition_canonK _ _))
    | with_reducible refine canonK_ite ?_ ?_
    | with_reducible refine canonK_doIf (fun _ => ?_) ?_
    | with_reducible refine canonK_each (fun _ _ => ?_) ?_
    | dsimp only [id]
    | split
    | exact canonK_eq rfl rfl rfl)

theorem profileUpdate_canonK (a : Nat) (s : State) : canonK s (profileUpdate a s) := by
  unfold profileUpdate
  try dsimp only
  repeat' (first
    | with_reducible exact canonK_refl _
    | (with_reducible show canonK _ (mAxs _ _ _); with_reducible refine canonK_trans ?_ (canonK_of_keeps (mAxs_keeps _ _ _) (by decide)))
    | (with_reducible show canonK _ (axFollow _ _); with_reducible refine canonK_trans ?_ (canonK_of_keeps (axFollow_keeps _ _) (by decide)))
    | (with_reducible show canonK _ (shuffleWatch _ _); with_reducible refine canonK_trans ?_ (canonK_of_keeps (shuffleWatch_keeps _ _) (by decide)))
    | (with_reducible show canonK _ (limitCheck _ _); with_reducible refine canonK_trans ?_ (canonK_of_keeps (limitCheck_keeps _ _) (by decide)))
    | (with_reducible show canonK _ (axKnot _ _); with_reducible refine canonK_trans ?_ (canonK_of_keeps (axKnot_keeps _ _) (by decide)))
    | (with_reducible show canonK _ (gearDue _ _); with_reducible refine canonK_trans ?_ (canonK_of_keeps (gearDue_keeps _ _) (by decide)))
    | (with_reducible show canonK _ (stallTake _ _); with_reducible refine canonK_trans ?_ (stallTake_canonK _ _))
    | (with_reducible show canonK _ (axRwl _ _); with_reducible refine canonK_trans ?_ (canonK_of_keeps (axRwl_keeps _ _) (by decide)))
    | (with_reducible show canonK _ (limitStep _ _ _ _); with_reducible refine canonK_trans ?_ (limitStep_canonK _ _ _ _))
    | (with_reducible show canonK _ (hardStep _ _ _ _); with_reducible refine canonK_trans ?_ (hardStep_canonK _ _ _ _))
    | (with_reducible show canonK _ (faultStep _ _ _ _); with_reducible refine canonK_trans ?_ (faultStep_canonK _ _ _ _))
    | (with_reducible show canonK _ (profileStep _ _ _ _); with_reducible refine canonK_trans ?_ (canonK_of_keeps (profileStep_keeps _ _ _ _) (by decide)))
    | with_reducible refine canonK_ite ?_ ?_
    | with_reducible refine canonK_doIf (fun _ => ?_) ?_
    | with_reducible refine canonK_each (fun _ _ => ?_) ?_
    | dsimp only [id]
    | split
    | exact canonK_eq rfl rfl rfl)

theorem overcurrentTake_canonK (a : Nat) (s : State) : canonK s (overcurrentTake a s) := by
  unfold overcurrentTake
  try dsimp only
  repeat' (first
    | with_reducible exact canonK_refl _
    | (with_reducible show canonK _ (mAxs _ _ _); with_reducible refine canonK_trans ?_ (canonK_of_keeps (mAxs_keeps _ _ _) (by decide)))
    | (with_reducible show canonK _ (setReg _ _ _); with_reducible refine canonK_trans ?_ (canonK_setReg _ _ _))
    | (with_reducible show canonK _ (faultErr _ _ _); with_reducible refine canonK_trans ?_ (canonK_of_keeps (faultErr_keeps _ _ _) (by decide)))
    | (with_reducible show canonK _ (axStat _ _ _); with_reducible refine canonK_trans ?_ (canonK_of_keeps (axStat_keeps _ _ _) (by decide)))
    | (with_reducible show canonK _ (mPhase _ _ _ _); with_reducible refine canonK_trans ?_ (canonK_of_keeps (mPhase_keeps _ _ _ _) (by decide)))
    | (with_reducible show canonK _ (bridgeTo _ _ _ _); with_reducible refine canonK_trans ?_ (canonK_of_keeps (bridgeTo_keeps _ _ _ _) (by decide)))
    | with_reducible refine canonK_ite ?_ ?_
    | with_reducible refine canonK_doIf (fun _ => ?_) ?_
    | with_reducible refine canonK_each (fun _ _ => ?_) ?_
    | dsimp only [id]
    | split
    | exact canonK_eq rfl rfl rfl)

theorem hardLimitTake_canonK (a : Nat) (hi : Bool) (s : State) : canonK s (hardLimitTake a hi s) := by
  unfold hardLimitTake
  try dsimp only
  repeat' (first
    | with_reducible exact canonK_refl _
    | (with_reducible show canonK _ (mAxs _ _ _); with_reducible refine canonK_trans ?_ (canonK_of_keeps (mAxs_keeps _ _ _) (by decide)))
    | (with_reducible show canonK _ (faultErr _ _ _); with_reducible refine canonK_trans ?_ (canonK_of_keeps (faultErr_keeps _ _ _) (by decide)))
    | (with_reducible show canonK _ (axStat _ _ _); with_reducible refine canonK_trans ?_ (canonK_of_keeps (axStat_keeps _ _ _) (by decide)))
    | (with_reducible show canonK _ (toPosition _ _); with_reducible refine canonK_trans ?_ (toPosition_canonK _ _))
    | with_reducible refine canonK_ite ?_ ?_
    | with_reducible refine canonK_doIf (fun _ => ?_) ?_
    | with_reducible refine canonK_each (fun _ _ => ?_) ?_
    | dsimp only [id]
    | split
    | exact canonK_eq rfl rfl rfl)

theorem opAxsSetpos_canonK (a : Nat) (v : Word) (s : State) : canonK s (opAxsSetpos a v s) := by
  unfold opAxsSetpos
  try dsimp only
  repeat' (first
    | with_reducible exact canonK_refl _
    | (with_reducible show canonK _ (mAxs _ _ _); with_reducible refine canonK_trans ?_ (canonK_of_keeps (mAxs_keeps _ _ _) (by decide)))
    | (with_reducible show canonK _ (axSet _ _ _ _); with_reducible refine canonK_trans ?_ (axSet_canonK _ _ _ _))
    | with_reducible refine canonK_ite ?_ ?_
    | with_reducible refine canonK_doIf (fun _ => ?_) ?_
    | with_reducible refine canonK_each (fun _ _ => ?_) ?_
    | dsimp only [id]
    | split
    | exact canonK_eq rfl rfl rfl)

theorem axTblStep_canonK (s : State) : canonK s (axTblStep s) := by
  unfold axTblStep
  try dsimp only
  repeat' (first
    | with_reducible exact canonK_refl _
    | (with_reducible show canonK _ (setReg _ _ _); with_reducible refine canonK_trans ?_ (canonK_setReg _ _ _))
    | with_reducible refine canonK_ite ?_ ?_
    | with_reducible refine canonK_doIf (fun _ => ?_) ?_
    | with_reducible refine canonK_each (fun _ _ => ?_) ?_
    | dsimp only [id]
    | split
    | exact canonK_eq rfl rfl rfl)

theorem opAxsTbl_canonK (acc : Access) (s : State) : canonK s (opAxsTbl acc s) := by
  unfold opAxsTbl
  try dsimp only
  repeat' (first
    | with_reducible exact canonK_refl _
    | (with_reducible show canonK _ (mAxs _ _ _); with_reducible refine canonK_trans ?_ (canonK_of_keeps (mAxs_keeps _ _ _) (by decide)))
    | (with_reducible show canonK _ (axTblStep _); with_reducible refine canonK_trans ?_ (axTblStep_canonK _))
    | with_reducible refine canonK_ite ?_ ?_
    | with_reducible refine canonK_doIf (fun _ => ?_) ?_
    | with_reducible refine canonK_each (fun _ _ => ?_) ?_
    | dsimp only [id]
    | split
    | exact canonK_eq rfl rfl rfl)

/-! Machine/Lamps.lean -/

theorem zoneStep_canonK (s : State) : canonK s (zoneStep s) := by
  unfold zoneStep
  try dsimp only
  repeat' (first
    | with_reducible exact canonK_refl _
    | (with_reducible show canonK _ (setReg _ _ _); with_reducible refine canonK_trans ?_ (canonK_setReg _ _ _))
    | with_reducible refine canonK_ite ?_ ?_
    | with_reducible refine canonK_doIf (fun _ => ?_) ?_
    | with_reducible refine canonK_each (fun _ _ => ?_) ?_
    | dsimp only [id]
    | split
    | exact canonK_eq rfl rfl rfl)

theorem opLampZone_canonK (acc : Access) (s : State) : canonK s (opLampZone acc s) := by
  unfold opLampZone
  try dsimp only
  repeat' (first
    | with_reducible exact canonK_refl _
    | (with_reducible show canonK _ (mLmp _ _); with_reducible refine canonK_trans ?_ (canonK_of_keeps (mLmp_keeps _ _) (by decide)))
    | (with_reducible show canonK _ (zoneStep _); with_reducible refine canonK_trans ?_ (zoneStep_canonK _))
    | with_reducible refine canonK_ite ?_ ?_
    | with_reducible refine canonK_doIf (fun _ => ?_) ?_
    | with_reducible refine canonK_each (fun _ _ => ?_) ?_
    | dsimp only [id]
    | split
    | exact canonK_eq rfl rfl rfl)

theorem utblStep_canonK (s : State) : canonK s (utblStep s) := by
  unfold utblStep
  try dsimp only
  repeat' (first
    | with_reducible exact canonK_refl _
    | (with_reducible show canonK _ (setReg _ _ _); with_reducible refine canonK_trans ?_ (canonK_setReg _ _ _))
    | with_reducible refine canonK_ite ?_ ?_
    | with_reducible refine canonK_doIf (fun _ => ?_) ?_
    | with_reducible refine canonK_each (fun _ _ => ?_) ?_
    | dsimp only [id]
    | split
    | exact canonK_eq rfl rfl rfl)

theorem opLampUtbl_canonK (acc : Access) (s : State) : canonK s (opLampUtbl acc s) := by
  unfold opLampUtbl
  try dsimp only
  repeat' (first
    | with_reducible exact canonK_refl _
    | (with_reducible show canonK _ (mLmp _ _); with_reducible refine canonK_trans ?_ (canonK_of_keeps (mLmp_keeps _ _) (by decide)))
    | (with_reducible show canonK _ (utblStep _); with_reducible refine canonK_trans ?_ (utblStep_canonK _))
    | with_reducible refine canonK_ite ?_ ?_
    | with_reducible refine canonK_doIf (fun _ => ?_) ?_
    | with_reducible refine canonK_each (fun _ _ => ?_) ?_
    | dsimp only [id]
    | split
    | exact canonK_eq rfl rfl rfl)

/-! Machine/Knot.lean -/

theorem takeKnot_canonK (pos : Int) (s : State) : canonK s (takeKnot pos s) := by
  unfold takeKnot
  try dsimp only
  repeat' (first
    | with_reducible exact canonK_refl _
    | (with_reducible show canonK _ (mSys _ _); with_reducible refine canonK_trans ?_ (canonK_of_keeps (mSys_keeps _ _) (by decide)))
    | (with_reducible show canonK _ (strandSync _); with_reducible refine canonK_trans ?_ (canonK_of_keeps (strandSync_keeps _) (by decide)))
    | (with_reducible show canonK _ (updateMargins _); with_reducible refine canonK_trans ?_ (canonK_of_keeps (updateMargins_keeps _) (by decide)))
    | (with_reducible show canonK _ (evalDetours _); with_reducible refine canonK_trans ?_ (canonK_of_keeps (evalDetours_keeps _) (by decide)))
    | (with_reducible show canonK _ (capKnot _); with_reducible refine canonK_trans ?_ (capKnot_canonK _))
    | (with_reducible show canonK _ (camKnot _ _ _ _); with_reducible refine canonK_trans ?_ (camKnot_canonK _ _ _ _))
    | (with_reducible show canonK _ (lampKnot _); with_reducible refine canonK_trans ?_ (canonK_of_keeps (lampKnot_keeps _) (by decide)))
    | (with_reducible show canonK _ (knotGeo _ _); with_reducible refine canonK_trans ?_ (canonK_of_keeps (knotGeo_keeps _ _) (by decide)))
    | (with_reducible show canonK _ (knotShuffle _ _); with_reducible refine canonK_trans ?_ (canonK_of_keeps (knotShuffle_keeps _ _) (by decide)))
    | (with_reducible show canonK _ (knotSpools _); with_reducible refine canonK_trans ?_ (canonK_of_keeps (knotSpools_keeps _) (by decide)))
    | (with_reducible show canonK _ (knotAxes _ _); with_reducible refine canonK_trans ?_ (canonK_of_keeps (knotAxes_keeps _ _) (by decide)))
    | (with_reducible show canonK _ (knotPair _); with_reducible refine canonK_trans ?_ (canonK_of_keeps (knotPair_keeps _) (by decide)))
    | with_reducible refine canonK_ite ?_ ?_
    | with_reducible refine canonK_doIf (fun _ => ?_) ?_
    | with_reducible refine canonK_each (fun _ _ => ?_) ?_
    | dsimp only [id]
    | split
    | exact ⟨id, fun h _ => (sparseOk_filter regReset _ _ h).1, id⟩
    | exact canonK_eq rfl rfl rfl)

theorem msFire_canonK (i : Nat) (ev : Int) (rev : Bool) (s : State) : canonK s (msFire i ev rev s) := by
  unfold msFire
  try dsimp only
  repeat' (first
    | with_reducible exact canonK_refl _
    | (with_reducible show canonK _ (mMil _ _); with_reducible refine canonK_trans ?_ (canonK_of_keeps (mMil_keeps _ _) (by decide)))
    | (with_reducible show canonK _ (mMs _ _ _); with_reducible refine canonK_trans ?_ (canonK_of_keeps (mMs_keeps _ _ _) (by decide)))
    | (with_reducible show canonK _ (msRearm _ _ _); with_reducible refine canonK_trans ?_ (canonK_of_keeps (msRearm_keeps _ _ _) (by decide)))
    | (with_reducible show canonK _ (takeKnot _ _); with_reducible refine canonK_trans ?_ (takeKnot_canonK _ _))
    | (with_reducible show canonK _ (msForeign _ _); with_reducible refine canonK_trans ?_ (canonK_of_keeps (msForeign_keeps _ _) (by decide)))
    | (with_reducible show canonK _ (camTrigger _ _ _ _); with_reducible refine canonK_trans ?_ (canonK_of_keeps (camTrigger_keeps _ _ _ _) (by decide)))
    | (with_reducible show canonK _ (queueFire _ _ _); with_reducible refine canonK_trans ?_ (canonK_of_keeps (queueFire_keeps _ _ _) (by decide)))
    | (with_reducible show canonK _ (msLater _ _); with_reducible refine canonK_trans ?_ (canonK_of_keeps (msLater_keeps _ _) (by decide)))
    | (with_reducible show canonK _ (msPulses _ _); with_reducible refine canonK_trans ?_ (canonK_of_keeps (msPulses_keeps _ _) (by decide)))
    | (with_reducible show canonK _ (gatesMilestone _ _); with_reducible refine canonK_trans ?_ (canonK_of_keeps (gatesMilestone_keeps _ _) (by decide)))
    | (with_reducible show canonK _ (lampMilestone _ _); with_reducible refine canonK_trans ?_ (canonK_of_keeps (lampMilestone_keeps _ _) (by decide)))
    | with_reducible refine canonK_ite ?_ ?_
    | with_reducible refine canonK_doIf (fun _ => ?_) ?_
    | with_reducible refine canonK_each (fun _ _ => ?_) ?_
    | dsimp only [id]
    | split
    | exact canonK_eq rfl rfl rfl)

/-! Machine/Pairing.lean -/

theorem tethRx_canonK {eff : Bytes → State → State} (h_eff : ∀ a0 u, canonK u (eff a0 u)) (len : Nat) (f : Bytes) (s : State) : canonK s (tethRx len f eff s) := by
  unfold tethRx
  try dsimp only
  repeat' (first
    | with_reducible exact canonK_refl _
    | (with_reducible show canonK _ (mPar _ _); with_reducible refine canonK_trans ?_ (canonK_of_keeps (mPar_keeps _ _) (by decide)))
    | (with_reducible show canonK _ (tethDrop _); with_reducible refine canonK_trans ?_ (canonK_of_keeps (tethDrop_keeps _) (by decide)))
    | (with_reducible show canonK _ (eff _ _); with_reducible refine canonK_trans ?_ (h_eff _ _))
    | with_reducible refine canonK_ite ?_ ?_
    | with_reducible refine canonK_doIf (fun _ => ?_) ?_
    | with_reducible refine canonK_each (fun _ _ => ?_) ?_
    | dsimp only [id]
    | split
    | exact canonK_eq rfl rfl rfl)

theorem tethNozzle_canonK (noz : Nat) (e : BitVec 64) (lc : Nat) (s : State) : canonK s (tethNozzle noz e lc s) := by
  unfold tethNozzle
  try dsimp only
  repeat' (first
    | with_reducible exact canonK_refl _
    | (with_reducible show canonK _ (mPar _ _); with_reducible refine canonK_trans ?_ (canonK_of_keeps (mPar_keeps _ _) (by decide)))
    | (with_reducible show canonK _ (faultErr _ _ _); with_reducible refine canonK_trans ?_ (canonK_of_keeps (faultErr_keeps _ _ _) (by decide)))
    | (with_reducible show canonK _ (nzSubmit _ _); with_reducible refine canonK_trans ?_ (nzSubmit_canonK _ _))
    | with_reducible refine canonK_ite ?_ ?_
    | with_reducible refine canonK_doIf (fun _ => ?_) ?_
    | with_reducible refine canonK_each (fun _ _ => ?_) ?_
    | dsimp only [id]
    | split
    | exact canonK_eq rfl rfl rfl)

theorem tethNzlBody_canonK (b : Bytes) (s : State) : canonK s (tethNzlBody b s) := by
  unfold tethNzlBody
  try dsimp only
  repeat' (first
    | with_reducible exact canonK_refl _
    | (with_reducible show canonK _ (mPar _ _); with_reducible refine canonK_trans ?_ (canonK_of_keeps (mPar_keeps _ _) (by decide)))
    | (with_reducible show canonK _ (tethNozzle _ _ _ _); with_reducible refine canonK_trans ?_ (tethNozzle_canonK _ _ _ _))
    | with_reducible refine canonK_ite ?_ ?_
    | with_reducible refine canonK_doIf (fun _ => ?_) ?_
    | with_reducible refine canonK_each (fun _ _ => ?_) ?_
    | dsimp only [id]
    | split
    | exact canonK_eq rfl rfl rfl)

theorem tethStateBody_canonK (b : Bytes) (s : State) : canonK s (tethStateBody b s) := by
  unfold tethStateBody
  try dsimp only
  repeat' (first
    | with_reducible exact canonK_refl _
    | (with_reducible show canonK _ (ctlAt _ _ _); with_reducible refine canonK_trans ?_ (ctlAt_canonK _ _ _))
    | (with_reducible show canonK _ (tethDrop _); with_reducible refine canonK_trans ?_ (canonK_of_keeps (tethDrop_keeps _) (by decide)))
    | with_reducible refine canonK_ite ?_ ?_
    | with_reducible refine canonK_doIf (fun _ => ?_) ?_
    | with_reducible refine canonK_each (fun _ _ => ?_) ?_
    | dsimp only [id]
    | split
    | exact canonK_eq rfl rfl rfl)

theorem tethBulkBody_canonK (b : Bytes) (s : State) : canonK s (tethBulkBody b s) := by
  unfold tethBulkBody
  try dsimp only
  repeat' (first
    | with_reducible exact canonK_refl _
    | (with_reducible show canonK _ (mPar _ _); with_reducible refine canonK_trans ?_ (canonK_of_keeps (mPar_keeps _ _) (by decide)))
    | (with_reducible show canonK _ (bankPut _ _ _ _); with_reducible refine canonK_trans ?_ (bankPut_canonK _ _ _ _))
    | (with_reducible show canonK _ (evalDetours _); with_reducible refine canonK_trans ?_ (canonK_of_keeps (evalDetours_keeps _) (by decide)))
    | (with_reducible show canonK _ (tethDrop _); with_reducible refine canonK_trans ?_ (canonK_of_keeps (tethDrop_keeps _) (by decide)))
    | (with_reducible show canonK _ (tethNozzle _ _ _ _); with_reducible refine canonK_trans ?_ (tethNozzle_canonK _ _ _ _))
    | with_reducible refine canonK_ite ?_ ?_
    | with_reducible refine canonK_doIf (fun _ => ?_) ?_
    | with_reducible refine canonK_each (fun _ _ => ?_) ?_
    | dsimp only [id]
    | split
    | exact canonK_eq rfl rfl rfl)

/-! Machine/Manage.lean -/

theorem refCodeRead_canonK (ch code : Nat) (s : State) : canonK s (refCodeRead ch code s) := by
  unfold refCodeRead
  try dsimp only
  repeat' (first
    | with_reducible exact canonK_refl _
    | (with_reducible show canonK _ (emit _ _); with_reducible refine canonK_trans ?_ (canonK_of_keeps (emit_keeps _ _) (by decide)))
    | (with_reducible show canonK _ (mChan _ _ _); refine canonK_trans ?_ (canonK_mChan_eq _ _ _ ?_); rotate_left; focus (intro k; first | with_reducible rfl | (rw [touchRow_data]) | ((repeat' split) <;> rfl) | fail))
    | (with_reducible show canonK _ (mChan _ _ _); refine canonK_trans ?_ (canonK_mChan _ _ _ (by exact fun _ h => wf_each _ _ _ _ h)))
    | (with_reducible show canonK _ (faultErr _ _ _); with_reducible refine canonK_trans ?_ (canonK_of_keeps (faultErr_keeps _ _ _) (by decide)))
    | (with_reducible show canonK _ (endFault _ _ _); with_reducible refine canonK_trans ?_ (canonK_of_keeps (endFault_keeps _ _ _) (by decide)))
    | with_reducible refine canonK_ite ?_ ?_
    | with_reducible refine canonK_doIf (fun _ => ?_) ?_
    | with_reducible refine canonK_each (fun _ _ => ?_) ?_
    | dsimp only [id]
    | split
    | exact canonK_eq rfl rfl rfl)

theorem chanTick_canonK (ch : Nat) (s : State) : canonK s (chanTick ch s) := by
  unfold chanTick
  try dsimp only
  repeat' (first
    | with_reducible exact canonK_refl _
    | (with_reducible show canonK _ (mChan _ _ _); refine canonK_trans ?_ (canonK_mChan_eq _ _ _ ?_); rotate_left; focus (intro k; first | with_reducible rfl | (rw [touchRow_data]) | ((repeat' split) <;> rfl) | fail))
    | (with_reducible show canonK _ (mChan _ _ _); refine canonK_trans ?_ (canonK_mChan _ _ _ (by exact fun _ h => wf_each _ _ _ _ h)))
    | (with_reducible show canonK _ (delayUpdate _ _); with_reducible refine canonK_trans ?_ (delayUpdate_canonK _ _))
    | with_reducible refine canonK_ite ?_ ?_
    | with_reducible refine canonK_doIf (fun _ => ?_) ?_
    | with_reducible refine canonK_each (fun _ _ => ?_) ?_
    | dsimp only [id]
    | split
    | exact canonK_eq rfl rfl rfl)

theorem mgmtTick_canonK (temps : List Int) (codes : List (BitVec 3)) (s : State) : canonK s (mgmtTick temps codes s) := by
  unfold mgmtTick
  try dsimp only
  repeat' (first
    | with_reducible exact canonK_refl _
    | (with_reducible show canonK _ (mMgt _ _); with_reducible refine canonK_trans ?_ (canonK_of_keeps (mMgt_keeps _ _) (by decide)))
    | (with_reducible show canonK _ (sensorTick _ _); with_reducible refine canonK_trans ?_ (canonK_of_keeps (sensorTick_keeps _ _) (by decide)))
    | (with_reducible show canonK _ (chanTick _ _); with_reducible refine canonK_trans ?_ (chanTick_canonK _ _))
    | (with_reducible show canonK _ (refCodeRead _ _ _); with_reducible refine canonK_trans ?_ (refCodeRead_canonK _ _ _))
    | (with_reducible show canonK _ (advicePins _); with_reducible refine canonK_trans ?_ (canonK_of_keeps (advicePins_keeps _) (by decide)))
    | (with_reducible show canonK _ (speedAdvise _); with_reducible refine canonK_trans ?_ (canonK_of_keeps (speedAdvise_keeps _) (by decide)))
    | (with_reducible show canonK _ (presentTick _); with_reducible refine canonK_trans ?_ (canonK_of_keeps (presentTick_keeps _) (by decide)))
    | (with_reducible show canonK _ (calTick _); with_reducible refine canonK_trans ?_ (canonK_of_keeps (calTick_keeps _) (by decide)))
    | (with_reducible show canonK _ (slewK _); with_reducible refine canonK_trans ?_ (canonK_of_keeps (slewK_keeps _) (by decide)))
    | (with_reducible show canonK _ (autoSwitch _); with_reducible refine canonK_trans ?_ (canonK_of_keeps (autoSwitch_keeps _) (by decide)))
    | (with_reducible show canonK _ (netHbSend _); with_reducible refine canonK_trans ?_ (canonK_of_keeps (netHbSend_keeps _) (by decide)))
    | (with_reducible show canonK _ (eventSend _ _); with_reducible refine canonK_trans ?_ (canonK_of_keeps (eventSend_keeps _ _) (by decide)))
    | with_reducible refine canonK_ite ?_ ?_
    | with_reducible refine canonK_doIf (fun _ => ?_) ?_
    | with_reducible refine canonK_each (fun _ _ => ?_) ?_
    | dsimp only [id]
    | split
    | exact canonK_eq rfl rfl rfl)

/-! Machine/RegRead.lean -/

theorem readEffect_canonK (a : Nat) (s : State) : canonK s (readEffect a s) := by
  unfold readEffect
  try dsimp only
  repeat' (first
    | with_reducible exact canonK_refl _
    | (with_reducible show canonK _ (tickFree _); with_reducible refine canonK_trans ?_ (canonK_of_keeps (tickFree_keeps _) (by decide)))
    | (with_reducible show canonK _ (opPosSnap _ _); with_reducible refine canonK_trans ?_ (canonK_of_keeps (opPosSnap_keeps _ _) (by decide)))
    | (with_reducible show canonK _ (opFirSnap _ _); with_reducible refine canonK_trans ?_ (canonK_of_keeps (opFirSnap_keeps _ _) (by decide)))
    | (with_reducible show canonK _ (opResData _ _); with_reducible refine canonK_trans ?_ (opResData_canonK _ _))
    | (with_reducible show canonK _ (opAxsTbl _ _); with_reducible refine canonK_trans ?_ (opAxsTbl_canonK _ _))
    | (with_reducible show canonK _ (opLampZone _ _); with_reducible refine canonK_trans ?_ (opLampZone_canonK _ _))
    | (with_reducible show canonK _ (opLampUtbl _ _); with_reducible refine canonK_trans ?_ (opLampUtbl_canonK _ _))
    | (with_reducible show canonK _ (opPtpSnap _ _); with_reducible refine canonK_trans ?_ (canonK_of_keeps (opPtpSnap_keeps _ _) (by decide)))
    | (with_reducible show canonK _ (snapLog _ _ _); with_reducible refine canonK_trans ?_ (canonK_of_keeps (snapLog_keeps _ _ _) (by decide)))
    | (with_reducible show canonK _ (snapEpoch _); with_reducible refine canonK_trans ?_ (canonK_of_keeps (snapEpoch_keeps _) (by decide)))
    | (with_reducible show canonK _ (snapCmp _ _); with_reducible refine canonK_trans ?_ (canonK_of_keeps (snapCmp_keeps _ _) (by decide)))
    | (with_reducible show canonK _ (snapHit _ _); with_reducible refine canonK_trans ?_ (canonK_of_keeps (snapHit_keeps _ _) (by decide)))
    | (with_reducible show canonK _ (snapSync _ _); with_reducible refine canonK_trans ?_ (canonK_of_keeps (snapSync_keeps _ _) (by decide)))
    | (with_reducible show canonK _ (jrnPop _); with_reducible refine canonK_trans ?_ (canonK_of_keeps (jrnPop_keeps _) (by decide)))
    | with_reducible refine canonK_ite ?_ ?_
    | with_reducible refine canonK_doIf (fun _ => ?_) ?_
    | with_reducible refine canonK_each (fun _ _ => ?_) ?_
    | dsimp only [id]
    | split
    | exact canonK_eq rfl rfl rfl)

/-! Machine/RegWrite.lean -/

theorem regStored_canonK (a : Nat) (old v : Word) (s : State) : canonK s (regStored a old v s) := by
  unfold regStored
  try dsimp only
  repeat' (first
    | with_reducible exact canonK_refl _
    | (with_reducible show canonK _ (opPtpSel _ _); with_reducible refine canonK_trans ?_ (canonK_of_keeps (opPtpSel_keeps _ _) (by decide)))
    | (with_reducible show canonK _ (opPtpDom _ _); with_reducible refine canonK_trans ?_ (canonK_of_keeps (opPtpDom_keeps _ _) (by decide)))
    | (with_reducible show canonK _ (opPosCtl _ _ _ _); with_reducible refine canonK_trans ?_ (canonK_of_keeps (opPosCtl_keeps _ _ _ _) (by decide)))
    | (with_reducible show canonK _ (opIdxArm _ _); with_reducible refine canonK_trans ?_ (canonK_of_keeps (opIdxArm_keeps _ _) (by decide)))
    | (with_reducible show canonK _ (postLive _ _ _); with_reducible refine canonK_trans ?_ (canonK_of_keeps (postLive_keeps _ _ _) (by decide)))
    | (with_reducible show canonK _ (opPosPt _ _ _); with_reducible refine canonK_trans ?_ (canonK_of_keeps (opPosPt_keeps _ _ _) (by decide)))
    | (with_reducible show canonK _ (opGulCtl _ _ _ _); with_reducible refine canonK_trans ?_ (opGulCtl_canonK _ _ _ _))
    | (with_reducible show canonK _ (opAxsCtl _ _ _ _); with_reducible refine canonK_trans ?_ (canonK_of_keeps (opAxsCtl_keeps _ _ _ _) (by decide)))
    | (with_reducible show canonK _ (opAxsTarget _ _); with_reducible refine canonK_trans ?_ (canonK_of_keeps (opAxsTarget_keeps _ _) (by decide)))
    | (with_reducible show canonK _ (opAxsVtarget _ _ _); with_reducible refine canonK_trans ?_ (canonK_of_keeps (opAxsVtarget_keeps _ _ _) (by decide)))
    | (with_reducible show canonK _ (opAxsGat _ _ _); with_reducible refine canonK_trans ?_ (canonK_of_keeps (opAxsGat_keeps _ _ _) (by decide)))
    | (with_reducible show canonK _ (opAxsSetpos _ _ _); with_reducible refine canonK_trans ?_ (opAxsSetpos_canonK _ _ _))
    | with_reducible refine canonK_ite ?_ ?_
    | with_reducible refine canonK_doIf (fun _ => ?_) ?_
    | with_reducible refine canonK_each (fun _ _ => ?_) ?_
    | dsimp only [id]
    | split
    | exact canonK_eq rfl rfl rfl)

theorem writeStored_canonK (img : Bool) (a : Nat) (d : RegDesc) (v : Word) (s : State) : canonK s (writeStored img a d v s).1 := by
  unfold writeStored
  try dsimp only
  repeat' (first
    | with_reducible exact canonK_refl _
    | (with_reducible show canonK _ (notice _ _ _); with_reducible refine canonK_trans ?_ (canonK_of_keeps (notice_keeps _ _ _) (by decide)))
    | (with_reducible show canonK _ (rangeNote _ _ _); with_reducible refine canonK_trans ?_ (canonK_of_keeps (rangeNote_keeps _ _ _) (by decide)))
    | (with_reducible show canonK _ (regStored _ _ _ _); with_reducible refine canonK_trans ?_ (regStored_canonK _ _ _ _))
    | (with_reducible show canonK _ (setReg _ _ _); with_reducible refine canonK_trans ?_ (canonK_setReg _ _ _))
    | with_reducible refine canonK_ite ?_ ?_
    | with_reducible refine canonK_doIf (fun _ => ?_) ?_
    | with_reducible refine canonK_each (fun _ _ => ?_) ?_
    | dsimp only [id]
    | split
    | exact canonK_eq rfl rfl rfl)

theorem opMemClr_canonK (v : Word) (s : State) : canonK s (opMemClr v s) := by
  unfold opMemClr
  split
  · refine canonK_mMem _ s (fun m x => ⟨x.1, ?_⟩)
    have h := x.2
    rw [List.all_eq_true] at h ⊢
    intro c hc
    have hc' : c ∈ m.chans.map (fun c => { c with ce := 0 }) := by simpa using hc
    rw [Vector.mem_map] at hc'
    obtain ⟨d, hd, rfl⟩ := hc'
    exact h d (by simpa using hd)
  · exact canonK_refl s

theorem opBnkClr_canonK (b : Nat) (v : Word) (s : State) : canonK s (opBnkClr b v s) := by
  unfold opBnkClr
  try dsimp only
  repeat' (first
    | with_reducible exact canonK_refl _
    | (with_reducible show canonK _ (mBank _ _ _); refine canonK_trans ?_ (canonK_mBank _ _ _ (by first | exact fun k h => (sparseOk_filter (fun _ => (0 : Byte)) _ k.data h).1 | exact fun _ h => h | exact fun _ h => wf_each _ _ _ _ h)))
    | with_reducible refine canonK_ite ?_ ?_
    | with_reducible refine canonK_doIf (fun _ => ?_) ?_
    | with_reducible refine canonK_each (fun _ _ => ?_) ?_
    | dsimp only [id]
    | split
    | exact canonK_eq rfl rfl rfl)

theorem opArbClr_canonK (v : Word) (s : State) : canonK s (opArbClr v s) := by
  unfold opArbClr
  try dsimp only
  repeat' (first
    | with_reducible exact canonK_refl _
    | (with_reducible show canonK _ (mMem _ _); refine canonK_trans ?_ (canonK_mMem_eq _ _ (by intro m; with_reducible rfl) (by intro m; with_reducible rfl)))
    | with_reducible refine canonK_ite ?_ ?_
    | with_reducible refine canonK_doIf (fun _ => ?_) ?_
    | with_reducible refine canonK_each (fun _ _ => ?_) ?_
    | dsimp only [id]
    | split
    | exact canonK_eq rfl rfl rfl)

theorem capZero_canonK (s : State) : canonK s (capZero s) := canonK_mBank 5 _ s (fun _ _ => rfl)

theorem opCapCmd_canonK (v : Word) (s : State) : optCanonK s (opCapCmd v s) := by
  unfold opCapCmd
  try dsimp only
  repeat' (first
    | with_reducible exact canonK_refl _
    | with_reducible exact optCanonK_none _
    | with_reducible refine optCanonK_some ?_
    | with_reducible refine optCanonK_ite ?_ ?_
    | with_reducible refine optCanonK_took ?_
    | with_reducible refine optCanonK_denied ?_
    | (with_reducible show canonK _ (capStart _ _); with_reducible refine canonK_trans ?_ (canonK_of_keeps (capStart_keeps _ _) (by decide)))
    | (with_reducible show canonK _ (capRefuse _); with_reducible refine canonK_trans ?_ (canonK_of_keeps (capRefuse_keeps _) (by decide)))
    | (with_reducible show canonK _ (capZero _); with_reducible refine canonK_trans ?_ (capZero_canonK _))
    | with_reducible refine canonK_ite ?_ ?_
    | with_reducible refine canonK_doIf (fun _ => ?_) ?_
    | with_reducible refine canonK_each (fun _ _ => ?_) ?_
    | dsimp only [id]
    | split
    | exact canonK_eq rfl rfl rfl)

theorem writeCmd_canonK (img : Bool) (a : Nat) (v : Word) (s : State) : optCanonK s (writeCmd img a v s) := by
  unfold writeCmd
  try dsimp only
  repeat' (first
    | with_reducible exact canonK_refl _
    | (with_reducible show canonK _ (opKnot _ _).1; with_reducible refine canonK_trans ?_ (canonK_of_keeps (opKnot_keeps _ _) (by decide)))
    | (with_reducible show canonK _ (mSys _ _); with_reducible refine canonK_trans ?_ (canonK_of_keeps (mSys_keeps _ _) (by decide)))
    | (with_reducible show canonK _ (opPaceClr _ _); with_reducible refine canonK_trans ?_ (canonK_of_keeps (opPaceClr_keeps _ _) (by decide)))
    | (with_reducible show canonK _ (mKeep _ _); with_reducible refine canonK_trans ?_ (canonK_of_keeps (mKeep_keeps _ _) (by decide)))
    | (with_reducible show optCanonK _ (opOtpCmd _ _); exact optCanonK_of_keeps (opOtpCmd_keeps _ _) (by decide))
    | (with_reducible show canonK _ (opNetClr _ _ _); with_reducible refine canonK_trans ?_ (canonK_of_keeps (opNetClr_keeps _ _ _) (by decide)))
    | (with_reducible show canonK _ (opPtpClr _ _ _); with_reducible refine canonK_trans ?_ (canonK_of_keeps (opPtpClr_keeps _ _ _) (by decide)))
    | (with_reducible show canonK _ (opMgtClr _ _); with_reducible refine canonK_trans ?_ (canonK_of_keeps (opMgtClr_keeps _ _) (by decide)))
    | (with_reducible show canonK _ (opTowClr _ _); with_reducible refine canonK_trans ?_ (canonK_of_keeps (opTowClr_keeps _ _) (by decide)))
    | (with_reducible show canonK _ (opMemVerify _ _); with_reducible refine canonK_trans ?_ (opMemVerify_canonK _ _))
    | (with_reducible show canonK _ (opMemClr _ _); with_reducible refine canonK_trans ?_ (opMemClr_canonK _ _))
    | (with_reducible show canonK _ (opBnkClr _ _ _); with_reducible refine canonK_trans ?_ (opBnkClr_canonK _ _ _))
    | (with_reducible show canonK _ (opArbClr _ _); with_reducible refine canonK_trans ?_ (opArbClr_canonK _ _))
    | (with_reducible show canonK _ (opStrClr _ _); with_reducible refine canonK_trans ?_ (canonK_of_keeps (opStrClr_keeps _ _) (by decide)))
    | (with_reducible show canonK _ (opCmpClr _ _); with_reducible refine canonK_trans ?_ (canonK_of_keeps (opCmpClr_keeps _ _) (by decide)))
    | (with_reducible show canonK _ (mEnc _ _ _); with_reducible refine canonK_trans ?_ (canonK_of_keeps (mEnc_keeps _ _ _) (by decide)))
    | (with_reducible show canonK _ (mMil _ _); with_reducible refine canonK_trans ?_ (canonK_of_keeps (mMil_keeps _ _) (by decide)))
    | (with_reducible show canonK _ (mMs _ _ _); with_reducible refine canonK_trans ?_ (canonK_of_keeps (mMs_keeps _ _ _) (by decide)))
    | (with_reducible show canonK _ (postLive _ _ _); with_reducible refine canonK_trans ?_ (canonK_of_keeps (postLive_keeps _ _ _) (by decide)))
    | (with_reducible show canonK _ (opFirCntClr _ _); with_reducible refine canonK_trans ?_ (canonK_of_keeps (opFirCntClr_keeps _ _) (by decide)))
    | (with_reducible show canonK _ (opGeoCheck _ _); with_reducible refine canonK_trans ?_ (canonK_of_keeps (opGeoCheck_keeps _ _) (by decide)))
    | (with_reducible show canonK _ (opResData _ _); with_reducible refine canonK_trans ?_ (opResData_canonK _ _))
    | (with_reducible show canonK _ (opNzlReq _ _); with_reducible refine canonK_trans ?_ (opNzlReq_canonK _ _))
    | (with_reducible show canonK _ (opNzlClr _ _); with_reducible refine canonK_trans ?_ (canonK_of_keeps (opNzlClr_keeps _ _) (by decide)))
    | (with_reducible show canonK _ (opGateCmd _ _ _); with_reducible refine canonK_trans ?_ (canonK_of_keeps (opGateCmd_keeps _ _ _) (by decide)))
    | (with_reducible show canonK _ (hcfgRefuse _); with_reducible refine canonK_trans ?_ (canonK_of_keeps (hcfgRefuse_keeps _) (by decide)))
    | (with_reducible show canonK _ (opHcfgGo _ _); with_reducible refine canonK_trans ?_ (canonK_of_keeps (opHcfgGo_keeps _ _) (by decide)))
    | (with_reducible show canonK _ (eyeRefuse _); with_reducible refine canonK_trans ?_ (canonK_of_keeps (eyeRefuse_keeps _) (by decide)))
    | (with_reducible show canonK _ (opEyeGo _ _); with_reducible refine canonK_trans ?_ (canonK_of_keeps (opEyeGo_keeps _ _) (by decide)))
    | (with_reducible show canonK _ (opGulClr _ _ _); with_reducible refine canonK_trans ?_ (opGulClr_canonK _ _ _))
    | (with_reducible show canonK _ (opCamClr _ _ _); with_reducible refine canonK_trans ?_ (canonK_of_keeps (opCamClr_keeps _ _ _) (by decide)))
    | (with_reducible show canonK _ (opInsRel _ _ _); with_reducible refine canonK_trans ?_ (canonK_of_keeps (opInsRel_keeps _ _ _) (by decide)))
    | (with_reducible show canonK _ (opInsClr _ _ _); with_reducible refine canonK_trans ?_ (canonK_of_keeps (opInsClr_keeps _ _ _) (by decide)))
    | (with_reducible show canonK _ (axTblStep _); with_reducible refine canonK_trans ?_ (axTblStep_canonK _))
    | (with_reducible show canonK _ (notice _ _ _); with_reducible refine canonK_trans ?_ (canonK_of_keeps (notice_keeps _ _ _) (by decide)))
    | (with_reducible show canonK _ (opAxsTbl _ _); with_reducible refine canonK_trans ?_ (opAxsTbl_canonK _ _))
    | (with_reducible show canonK _ (mAxs _ _ _); with_reducible refine canonK_trans ?_ (canonK_of_keeps (mAxs_keeps _ _ _) (by decide)))
    | (with_reducible show canonK _ (opLmpCmd _ _); with_reducible refine canonK_trans ?_ (canonK_of_keeps (opLmpCmd_keeps _ _) (by decide)))
    | (with_reducible show canonK _ (opLampZone _ _); with_reducible refine canonK_trans ?_ (opLampZone_canonK _ _))
    | (with_reducible show canonK _ (opLampUtbl _ _); with_reducible refine canonK_trans ?_ (opLampUtbl_canonK _ _))
    | (with_reducible show canonK _ (mLmp _ _); with_reducible refine canonK_trans ?_ (canonK_of_keeps (mLmp_keeps _ _) (by decide)))
    | (with_reducible show canonK _ (opLbusGo _ _ _); with_reducible refine canonK_trans ?_ (canonK_of_keeps (opLbusGo_keeps _ _ _) (by decide)))
    | (with_reducible show canonK _ (opParClr _ _); with_reducible refine canonK_trans ?_ (canonK_of_keeps (opParClr_keeps _ _) (by decide)))
    | (with_reducible show canonK _ (opCalForce _ _); with_reducible refine canonK_trans ?_ (canonK_of_keeps (opCalForce_keeps _ _) (by decide)))
    | (with_reducible show canonK _ (opErrAck _ _); with_reducible refine canonK_trans ?_ (canonK_of_keeps (opErrAck_keeps _ _) (by decide)))
    | (with_reducible show canonK _ (opErrAckAll _ _); with_reducible refine canonK_trans ?_ (canonK_of_keeps (opErrAckAll_keeps _ _) (by decide)))
    | (with_reducible show canonK _ (opLatchClr _ _); with_reducible refine canonK_trans ?_ (canonK_of_keeps (opLatchClr_keeps _ _) (by decide)))
    | (with_reducible show canonK _ (opErrClr _ _); with_reducible refine canonK_trans ?_ (canonK_of_keeps (opErrClr_keeps _ _) (by decide)))
    | (with_reducible show optCanonK _ (opCapCmd _ _); with_reducible exact opCapCmd_canonK _ _)
    | with_reducible exact optCanonK_none _
    | with_reducible refine optCanonK_ite ?_ ?_
    | with_reducible refine optCanonK_took ?_
    | with_reducible refine optCanonK_denied ?_
    | with_reducible refine optCanonK_some ?_
    | with_reducible refine canonK_ite ?_ ?_
    | with_reducible refine canonK_doIf (fun _ => ?_) ?_
    | with_reducible refine canonK_each (fun _ _ => ?_) ?_
    | dsimp only [id]
    | split
    | exact canonK_eq rfl rfl rfl)

theorem regWrite_canonK (img : Bool) (a : Nat) (v : Word) (s : State) : canonK s (regWrite img a v s).1 := by
  unfold regWrite
  split
  · exact canonK_refl s
  dsimp only
  refine canonK_trans ?_ (canonK_of_keeps (otpGate_keeps _ _ _) (by decide))
  cases h : writeCmd img a v s with
  | some r => exact writeCmd_canonK img a v s r h
  | none =>
    dsimp only
    split
    · exact writeStored_canonK _ _ _ _ s
    · exact canonK_refl s

theorem masterWrite_canonK (m : Master) (a : Nat) (v : Word) (s : State) : canonK s (masterWrite m a v s).1 := by
  unfold masterWrite
  try dsimp only
  repeat' (first
    | with_reducible exact canonK_refl _
    | (with_reducible show canonK _ (mErr _ _); with_reducible refine canonK_trans ?_ (canonK_of_keeps (mErr_keeps _ _) (by decide)))
    | (with_reducible show canonK _ (notice _ _ _); with_reducible refine canonK_trans ?_ (canonK_of_keeps (notice_keeps _ _ _) (by decide)))
    | (with_reducible show canonK _ (regWrite _ _ _ _).1; with_reducible refine canonK_trans ?_ (regWrite_canonK _ _ _ _))
    | (with_reducible show canonK _ (dbgRefuse _); with_reducible refine canonK_trans ?_ (canonK_of_keeps (dbgRefuse_keeps _) (by decide)))
    | with_reducible refine canonK_ite ?_ ?_
    | with_reducible refine canonK_doIf (fun _ => ?_) ?_
    | with_reducible refine canonK_each (fun _ _ => ?_) ?_
    | dsimp only [id]
    | split
    | exact canonK_eq rfl rfl rfl)

theorem masterRead_canonK (m : Master) (a : Nat) (s : State) : canonK s (masterRead m a s).2.1 := by
  unfold masterRead
  try dsimp only
  repeat' (first
    | with_reducible exact canonK_refl _
    | (with_reducible show canonK _ (readEffect _ _); with_reducible refine canonK_trans ?_ (readEffect_canonK _ _))
    | with_reducible refine canonK_ite ?_ ?_
    | with_reducible refine canonK_doIf (fun _ => ?_) ?_
    | with_reducible refine canonK_each (fun _ _ => ?_) ?_
    | dsimp only [id]
    | split
    | exact canonK_eq rfl rfl rfl)

/-! Machine/Reset.lean -/

theorem blocksReset_canonK (s : State) : canonK s (blocksReset s) := by
  unfold blocksReset
  extract_lets _ _ _ r r2
  have h : (sparseOk regReset s.regs = true → sparseOk regReset r.regs = true) ∧ (sparseOk regReset s.act = true → sparseOk regReset r.act = true)
      ∧ memOk r.mem := by
    refine ⟨fun h => (sparseOk_filter regReset _ _ h).1, fun h => (sparseOk_filter regReset _ _ h).1, ?_⟩
    exact (by decide : MemState.init.banks.toList.all (fun b => Memory.wf b.data) = true ∧ MemState.init.chans.toList.all (fun c => Memory.wf c.data) = true)
  clear_value r
  have h2 : canonK s r2 := by
    refine ⟨h.1, fun _ => h.2.1, fun m => ?_⟩
    refine ⟨vmod_all _ _ (fun k _ => ?_) _ 5 h.2.2.1, h.2.2.2⟩
    show Memory.wf (bank s 5).data = true
    have hb := m.1
    unfold bank vget
    rw [List.all_eq_true] at hb
    have : s.mem.banks.toArray.getD 5 bankInit = s.mem.banks[5] := by simp
    rw [this]
    exact hb _ (by simp)
  clear_value r2
  exact canonK_each (fun a u => canonK_of_keeps (mAxs_keeps _ _ u) (by decide)) h2

theorem coldReset_canonK (cause : BitVec 3) (s : State) : canonK s (coldReset cause s) := by
  unfold coldReset
  try dsimp only
  repeat' (first
    | with_reducible exact canonK_refl _
    | (with_reducible show canonK _ (mCfg _ _); with_reducible refine canonK_trans ?_ (canonK_of_keeps (mCfg_keeps _ _) (by decide)))
    | (with_reducible show canonK _ (mKeep _ _); with_reducible refine canonK_trans ?_ (canonK_of_keeps (mKeep_keeps _ _) (by decide)))
    | (with_reducible show canonK _ (blocksReset _); with_reducible refine canonK_trans ?_ (blocksReset_canonK _))
    | (with_reducible show canonK _ (resetOutputs _); with_reducible refine canonK_trans ?_ (canonK_of_keeps (resetOutputs_keeps _) (by decide)))
    | (with_reducible show canonK _ (milestonesOff _); with_reducible refine canonK_trans ?_ (canonK_of_keeps (milestonesOff_keeps _) (by decide)))
    | (with_reducible show canonK _ (logCoreLost _); with_reducible refine canonK_trans ?_ (canonK_of_keeps (logCoreLost_keeps _) (by decide)))
    | with_reducible refine canonK_ite ?_ ?_
    | with_reducible refine canonK_doIf (fun _ => ?_) ?_
    | with_reducible refine canonK_each (fun _ _ => ?_) ?_
    | dsimp only [id]
    | split
    | exact canonK_eq rfl rfl rfl)

theorem supplyLow_canonK (s : State) : canonK s (supplyLow s) := by
  unfold supplyLow
  try dsimp only
  repeat' (first
    | with_reducible exact canonK_refl _
    | (with_reducible show canonK _ (mCfg _ _); with_reducible refine canonK_trans ?_ (canonK_of_keeps (mCfg_keeps _ _) (by decide)))
    | (with_reducible show canonK _ (coldReset _ _); with_reducible refine canonK_trans ?_ (coldReset_canonK _ _))
    | with_reducible refine canonK_ite ?_ ?_
    | with_reducible refine canonK_doIf (fun _ => ?_) ?_
    | with_reducible refine canonK_each (fun _ _ => ?_) ?_
    | dsimp only [id]
    | split
    | exact canonK_eq rfl rfl rfl)

theorem resetReleased_canonK (bootSel : BitVec 2) (role : Bool) (s : State) : canonK s (resetReleased bootSel role s) := by
  unfold resetReleased
  try dsimp only
  repeat' (first
    | with_reducible exact canonK_refl _
    | (with_reducible show canonK _ (mDbg _ _); with_reducible refine canonK_trans ?_ (canonK_of_keeps (mDbg_keeps _ _) (by decide)))
    | (with_reducible show canonK _ (mCfg _ _); with_reducible refine canonK_trans ?_ (canonK_of_keeps (mCfg_keeps _ _) (by decide)))
    | (with_reducible show canonK _ (mPar _ _); with_reducible refine canonK_trans ?_ (canonK_of_keeps (mPar_keeps _ _) (by decide)))
    | (with_reducible show canonK _ (setDev _ _); with_reducible refine canonK_trans ?_ (canonK_of_keeps (setDev_keeps _ _) (by decide)))
    | (with_reducible show canonK _ (capZero _); with_reducible refine canonK_trans ?_ (capZero_canonK _))
    | with_reducible refine canonK_ite ?_ ?_
    | with_reducible refine canonK_doIf (fun _ => ?_) ?_
    | with_reducible refine canonK_each (fun _ _ => ?_) ?_
    | dsimp only [id]
    | split
    | exact canonK_eq rfl rfl rfl)

theorem keepBlocks_canonK (s : State) : canonK s (keepBlocks s) :=
  ⟨fun h => (sparseOk_filter regReset _ _ h).1, fun _ h => (sparseOk_filter regReset _ _ h).1, id⟩

theorem keepReset_canonK (s : State) : canonK s (keepReset s) := by
  unfold keepReset
  try dsimp only
  repeat' (first
    | with_reducible exact canonK_refl _
    | (with_reducible show canonK _ (mKeep _ _); with_reducible refine canonK_trans ?_ (canonK_of_keeps (mKeep_keeps _ _) (by decide)))
    | (with_reducible show canonK _ (raise _ _ _ _); with_reducible refine canonK_trans ?_ (canonK_of_keeps (raise_keeps _ _ _ _) (by decide)))
    | (with_reducible show canonK _ (keepOutputs _); with_reducible refine canonK_trans ?_ (canonK_of_keeps (keepOutputs_keeps _) (by decide)))
    | (with_reducible show canonK _ (keepBlocks _); with_reducible refine canonK_trans ?_ (keepBlocks_canonK _))
    | with_reducible refine canonK_ite ?_ ?_
    | with_reducible refine canonK_doIf (fun _ => ?_) ?_
    | with_reducible refine canonK_each (fun _ _ => ?_) ?_
    | dsimp only [id]
    | split
    | exact canonK_eq rfl rfl rfl)

/-! Machine/Image.lean -/

theorem rejectReset_canonK (reason detail : Nat) (s : State) : canonK s (rejectReset reason detail s) := by
  unfold rejectReset
  try dsimp only
  repeat' (first
    | with_reducible exact canonK_refl _
    | (with_reducible show canonK _ (mSys _ _); with_reducible refine canonK_trans ?_ (canonK_of_keeps (mSys_keeps _ _) (by decide)))
    | (with_reducible show canonK _ (mCfg _ _); with_reducible refine canonK_trans ?_ (canonK_of_keeps (mCfg_keeps _ _) (by decide)))
    | (with_reducible show canonK _ (mDom _ _ _); with_reducible refine canonK_trans ?_ (canonK_of_keeps (mDom_keeps _ _ _) (by decide)))
    | (with_reducible show canonK _ (blocksReset _); with_reducible refine canonK_trans ?_ (blocksReset_canonK _))
    | (with_reducible show canonK _ (reject _ _ _); with_reducible refine canonK_trans ?_ (canonK_of_keeps (reject_keeps _ _ _) (by decide)))
    | with_reducible refine canonK_ite ?_ ?_
    | with_reducible refine canonK_doIf (fun _ => ?_) ?_
    | with_reducible refine canonK_each (fun _ _ => ?_) ?_
    | dsimp only [id]
    | split
    | exact canonK_eq rfl rfl rfl)

theorem applyRegs_canonK : ∀ (n : Nat) (b : Bytes) (s : State), canonK s (applyRegs n b s).1
  | 0, _, s => canonK_refl s
  | n + 1, b, s => by
    unfold applyRegs
    dsimp only
    split
    · exact canonK_trans (masterWrite_canonK _ _ _ s) (applyRegs_canonK n _ _)
    · exact masterWrite_canonK _ _ _ s
    · exact masterWrite_canonK _ _ _ s

theorem imageWrites_canonK : ∀ (l : List (Nat × Word)) (s : State), canonK s (imageWrites l s).1
  | [], s => canonK_refl s
  | x :: l, s => by
    unfold imageWrites
    dsimp only
    split
    · exact canonK_trans (regWrite_canonK _ _ _ s) (imageWrites_canonK l _)
    · exact regWrite_canonK _ _ _ s

theorem applyNetId_canonK (b : Bytes) (s : State) : canonK s (applyNetId b s).1 := by
  unfold applyNetId
  try dsimp only
  repeat' (first
    | with_reducible exact canonK_refl _
    | (with_reducible show canonK _ (imageWrites _ _).1; with_reducible refine canonK_trans ?_ (imageWrites_canonK _ _))
    | with_reducible refine canonK_ite ?_ ?_
    | with_reducible refine canonK_doIf (fun _ => ?_) ?_
    | with_reducible refine canonK_each (fun _ _ => ?_) ?_
    | dsimp only [id]
    | split
    | exact canonK_eq rfl rfl rfl)

theorem applyDram_canonK (b : Bytes) (s : State) : canonK s (applyDram b s).1 := by
  unfold applyDram
  try dsimp only
  repeat' (first
    | with_reducible exact canonK_refl _
    | (with_reducible show canonK _ (mCfg _ _); with_reducible refine canonK_trans ?_ (canonK_of_keeps (mCfg_keeps _ _) (by decide)))
    | (with_reducible show canonK _ (mMem _ _); refine canonK_trans ?_ (canonK_mMem_eq _ _ (by intro m; with_reducible rfl) (by intro m; with_reducible rfl)))
    | with_reducible refine canonK_ite ?_ ?_
    | with_reducible refine canonK_doIf (fun _ => ?_) ?_
    | with_reducible refine canonK_each (fun _ _ => ?_) ?_
    | dsimp only [id]
    | split
    | exact canonK_eq rfl rfl rfl)

theorem applyTable_canonK (b : Bytes) (s : State) : canonK s (applyTable b s).1 := by
  unfold applyTable
  try dsimp only
  repeat' (first
    | with_reducible exact canonK_refl _
    | (with_reducible show canonK _ (mAxs _ _ _); with_reducible refine canonK_trans ?_ (canonK_of_keeps (mAxs_keeps _ _ _) (by decide)))
    | (with_reducible show canonK _ (mLmp _ _); with_reducible refine canonK_trans ?_ (canonK_of_keeps (mLmp_keeps _ _) (by decide)))
    | (with_reducible show canonK _ (bankPut _ _ _ _); with_reducible refine canonK_trans ?_ (bankPut_canonK _ _ _ _))
    | with_reducible refine canonK_ite ?_ ?_
    | with_reducible refine canonK_doIf (fun _ => ?_) ?_
    | with_reducible refine canonK_each (fun _ _ => ?_) ?_
    | dsimp only [id]
    | split
    | exact canonK_eq rfl rfl rfl)

theorem applyGeom_canonK (b : Bytes) (s : State) : canonK s (applyGeom b s).1 := by
  unfold applyGeom
  try dsimp only
  repeat' (first
    | with_reducible exact canonK_refl _
    | (with_reducible show canonK _ (mStg _ _); with_reducible refine canonK_trans ?_ (canonK_of_keeps (mStg_keeps _ _) (by decide)))
    | (with_reducible show canonK _ (imageWrites _ _).1; with_reducible refine canonK_trans ?_ (imageWrites_canonK _ _))
    | with_reducible refine canonK_ite ?_ ?_
    | with_reducible refine canonK_doIf (fun _ => ?_) ?_
    | with_reducible refine canonK_each (fun _ _ => ?_) ?_
    | dsimp only [id]
    | split
    | exact canonK_eq rfl rfl rfl)

theorem applyRecord_canonK (r : Bytes) (s : State) : canonK s (applyRecord r s).1 := by
  unfold applyRecord
  try dsimp only
  repeat' (first
    | with_reducible exact canonK_refl _
    | (with_reducible show canonK _ (applyRegs _ _ _).1; with_reducible refine canonK_trans ?_ (applyRegs_canonK _ _ _))
    | (with_reducible show canonK _ (applyNetId _ _).1; with_reducible refine canonK_trans ?_ (applyNetId_canonK _ _))
    | (with_reducible show canonK _ (applyKeys _ _).1; with_reducible refine canonK_trans ?_ (canonK_of_keeps (applyKeys_keeps _ _) (by decide)))
    | (with_reducible show canonK _ (applyDram _ _).1; with_reducible refine canonK_trans ?_ (applyDram_canonK _ _))
    | (with_reducible show canonK _ (applyCal _ _).1; with_reducible refine canonK_trans ?_ (canonK_of_keeps (applyCal_keeps _ _) (by decide)))
    | (with_reducible show canonK _ (applyTable _ _).1; with_reducible refine canonK_trans ?_ (applyTable_canonK _ _))
    | (with_reducible show canonK _ (applyGeom _ _).1; with_reducible refine canonK_trans ?_ (applyGeom_canonK _ _))
    | with_reducible refine canonK_ite ?_ ?_
    | with_reducible refine canonK_doIf (fun _ => ?_) ?_
    | with_reducible refine canonK_each (fun _ _ => ?_) ?_
    | dsimp only [id]
    | split
    | exact canonK_eq rfl rfl rfl)

theorem recordApply_canonK (r : Bytes) (s : State) : canonK s (recordApply r s) := by
  unfold recordApply
  try dsimp only
  repeat' (first
    | with_reducible exact canonK_refl _
    | (with_reducible show canonK _ (mCfg _ _); with_reducible refine canonK_trans ?_ (canonK_of_keeps (mCfg_keeps _ _) (by decide)))
    | (with_reducible show canonK _ (rejectReset _ _ _); with_reducible refine canonK_trans ?_ (rejectReset_canonK _ _ _))
    | (with_reducible show canonK _ (applyRecord _ _).1; with_reducible refine canonK_trans ?_ (applyRecord_canonK _ _))
    | with_reducible refine canonK_ite ?_ ?_
    | with_reducible refine canonK_doIf (fun _ => ?_) ?_
    | with_reducible refine canonK_each (fun _ _ => ?_) ?_
    | dsimp only [id]
    | split
    | exact canonK_eq rfl rfl rfl)

theorem accept_canonK (boot : BitVec 64) (s : State) : canonK s (accept boot s) := by
  unfold accept
  try dsimp only
  repeat' (first
    | with_reducible exact canonK_refl _
    | (with_reducible show canonK _ (mMgt _ _); with_reducible refine canonK_trans ?_ (canonK_of_keeps (mMgt_keeps _ _) (by decide)))
    | (with_reducible show canonK _ (mCfg _ _); with_reducible refine canonK_trans ?_ (canonK_of_keeps (mCfg_keeps _ _) (by decide)))
    | (with_reducible show canonK _ (faultErr _ _ _); with_reducible refine canonK_trans ?_ (canonK_of_keeps (faultErr_keeps _ _ _) (by decide)))
    | (with_reducible show canonK _ (dramInit _ _); with_reducible refine canonK_trans ?_ (canonK_of_keeps (dramInit_keeps _ _) (by decide)))
    | (with_reducible show canonK _ (mChan _ _ _); refine canonK_trans ?_ (canonK_mChan_eq _ _ _ ?_); rotate_left; focus (intro k; first | with_reducible rfl | (rw [touchRow_data]) | ((repeat' split) <;> rfl) | fail))
    | (with_reducible show canonK _ (mChan _ _ _); refine canonK_trans ?_ (canonK_mChan _ _ _ (by exact fun _ h => wf_each _ _ _ _ h)))
    | (with_reducible show canonK _ (tethStart _); with_reducible refine canonK_trans ?_ (canonK_of_keeps (tethStart_keeps _) (by decide)))
    | (with_reducible show canonK _ (linksStart _); with_reducible refine canonK_trans ?_ (canonK_of_keeps (linksStart_keeps _) (by decide)))
    | (with_reducible show canonK _ (setDev _ _); with_reducible refine canonK_trans ?_ (canonK_of_keeps (setDev_keeps _ _) (by decide)))
    | with_reducible refine canonK_ite ?_ ?_
    | with_reducible refine canonK_doIf (fun _ => ?_) ?_
    | with_reducible refine canonK_each (fun _ _ => ?_) ?_
    | dsimp only [id]
    | split
    | exact canonK_eq rfl rfl rfl)

theorem imagePass2_canonK (boot : BitVec 64) (s : State) : canonK s (imagePass2 boot s) := by
  unfold imagePass2
  try dsimp only
  repeat' (first
    | with_reducible exact canonK_refl _
    | (with_reducible show canonK _ (rejectReset _ _ _); with_reducible refine canonK_trans ?_ (rejectReset_canonK _ _ _))
    | (with_reducible show canonK _ (accept _ _); with_reducible refine canonK_trans ?_ (accept_canonK _ _))
    | with_reducible refine canonK_ite ?_ ?_
    | with_reducible refine canonK_doIf (fun _ => ?_) ?_
    | with_reducible refine canonK_each (fun _ _ => ?_) ?_
    | dsimp only [id]
    | split
    | exact canonK_eq rfl rfl rfl)

/-! Machine/StartUp.lean -/

theorem verifyEnd_canonK (ch : Nat) (r : VerifyReads) (s : State) : canonK s (verifyEnd ch r s) := by
  unfold verifyEnd
  try dsimp only
  repeat' (first
    | with_reducible exact canonK_refl _
    | (with_reducible show canonK _ (delayUpdate _ _); with_reducible refine canonK_trans ?_ (delayUpdate_canonK _ _))
    | (with_reducible show canonK _ (mChan _ _ _); refine canonK_trans ?_ (canonK_mChan_eq _ _ _ ?_); rotate_left; focus (intro k; first | with_reducible rfl | (rw [touchRow_data]) | ((repeat' split) <;> rfl) | fail))
    | (with_reducible show canonK _ (mChan _ _ _); refine canonK_trans ?_ (canonK_mChan _ _ _ (by exact fun _ h => wf_each _ _ _ _ h)))
    | with_reducible refine canonK_ite ?_ ?_
    | with_reducible refine canonK_doIf (fun _ => ?_) ?_
    | with_reducible refine canonK_each (fun _ _ => ?_) ?_
    | dsimp only [id]
    | split
    | exact canonK_eq rfl rfl rfl)

theorem dramFill_canonK (ch : Nat) (s : State) : canonK s (dramFill ch s) := by
  unfold dramFill
  try dsimp only
  repeat' (first
    | with_reducible exact canonK_refl _
    | (with_reducible show canonK _ (emit _ _); with_reducible refine canonK_trans ?_ (canonK_of_keeps (emit_keeps _ _) (by decide)))
    | (with_reducible show canonK _ (mChan _ _ _); refine canonK_trans ?_ (canonK_mChan _ _ _ (fun _ _ => rfl)))
    | with_reducible refine canonK_ite ?_ ?_
    | with_reducible refine canonK_doIf (fun _ => ?_) ?_
    | with_reducible refine canonK_each (fun _ _ => ?_) ?_
    | dsimp only [id]
    | split
    | exact canonK_eq rfl rfl rfl)

theorem dramVerified_canonK (res : List VerifyReads) (s : State) : canonK s (dramVerified res s) := by
  unfold dramVerified
  try dsimp only
  repeat' (first
    | with_reducible exact canonK_refl _
    | (with_reducible show canonK _ (dramFill _ _); with_reducible refine canonK_trans ?_ (dramFill_canonK _ _))
    | (with_reducible show canonK _ (verifyEnd _ _ _); with_reducible refine canonK_trans ?_ (verifyEnd_canonK _ _ _))
    | (with_reducible show canonK _ (raise _ _ _ _); with_reducible refine canonK_trans ?_ (canonK_of_keeps (raise_keeps _ _ _ _) (by decide)))
    | (with_reducible show canonK _ (faultErr _ _ _); with_reducible refine canonK_trans ?_ (canonK_of_keeps (faultErr_keeps _ _ _) (by decide)))
    | (with_reducible show canonK _ (mCfg _ _); with_reducible refine canonK_trans ?_ (canonK_of_keeps (mCfg_keeps _ _) (by decide)))
    | (with_reducible show canonK _ (placeUpdate _); with_reducible refine canonK_trans ?_ (canonK_of_keeps (placeUpdate_keeps _) (by decide)))
    | with_reducible refine canonK_ite ?_ ?_
    | with_reducible refine canonK_doIf (fun _ => ?_) ?_
    | with_reducible refine canonK_each (fun _ _ => ?_) ?_
    | dsimp only [id]
    | split
    | exact canonK_eq rfl rfl rfl)

theorem becomeReady_canonK (s : State) : canonK s (becomeReady s) := by
  unfold becomeReady
  try dsimp only
  repeat' (first
    | with_reducible exact canonK_refl _
    | (with_reducible show canonK _ (mCfg _ _); with_reducible refine canonK_trans ?_ (canonK_of_keeps (mCfg_keeps _ _) (by decide)))
    | (with_reducible show canonK _ (setDev _ _); with_reducible refine canonK_trans ?_ (canonK_of_keeps (setDev_keeps _ _) (by decide)))
    | (with_reducible show canonK _ (advicePins _); with_reducible refine canonK_trans ?_ (canonK_of_keeps (advicePins_keeps _) (by decide)))
    | (with_reducible show canonK _ (placeUpdate _); with_reducible refine canonK_trans ?_ (canonK_of_keeps (placeUpdate_keeps _) (by decide)))
    | (with_reducible show canonK _ (axesFollow _); with_reducible refine canonK_trans ?_ (canonK_of_keeps (axesFollow_keeps _) (by decide)))
    | (with_reducible show canonK _ (takeKnot _ _); with_reducible refine canonK_trans ?_ (takeKnot_canonK _ _))
    | (with_reducible show canonK _ (parEnter _); with_reducible refine canonK_trans ?_ (canonK_of_keeps (parEnter_keeps _) (by decide)))
    | with_reducible refine canonK_ite ?_ ?_
    | with_reducible refine canonK_doIf (fun _ => ?_) ?_
    | with_reducible refine canonK_each (fun _ _ => ?_) ?_
    | dsimp only [id]
    | split
    | exact canonK_eq rfl rfl rfl)

/-! Machine/Capture.lean -/

theorem captureDone_canonK (s : State) : canonK s (captureDone s) := by
  unfold captureDone
  try dsimp only
  repeat' (first
    | with_reducible exact canonK_refl _
    | (with_reducible show canonK _ (mCap _ _); with_reducible refine canonK_trans ?_ (canonK_of_keeps (mCap_keeps _ _) (by decide)))
    | (with_reducible show canonK _ (bankPut _ _ _ _); with_reducible refine canonK_trans ?_ (bankPut_canonK _ _ _ _))
    | with_reducible refine canonK_ite ?_ ?_
    | with_reducible refine canonK_doIf (fun _ => ?_) ?_
    | with_reducible refine canonK_each (fun _ _ => ?_) ?_
    | dsimp only [id]
    | split
    | exact canonK_eq rfl rfl rfl)

/-! Machine/Waypost.lean -/

theorem tapReset_canonK (s : State) : canonK s (tapReset s) := by
  unfold tapReset
  refine canonK_trans ?_ (placeFragments_canonK _)
  exact ⟨fun h => (sparseOk_filter regReset _ _ h).1, fun _ h => h, id⟩

theorem wpReadReg_canonK (a : Word) (s : State) : canonK s (wpReadReg a s) := by
  unfold wpReadReg
  try dsimp only
  repeat' (first
    | with_reducible exact canonK_refl _
    | (with_reducible show canonK _ (wpEnd _ _ _); with_reducible refine canonK_trans ?_ (canonK_of_keeps (wpEnd_keeps _ _ _) (by decide)))
    | (with_reducible show canonK _ (masterRead _ _ _).2.1; with_reducible refine canonK_trans ?_ (masterRead_canonK _ _ _))
    | with_reducible refine canonK_ite ?_ ?_
    | with_reducible refine canonK_doIf (fun _ => ?_) ?_
    | with_reducible refine canonK_each (fun _ _ => ?_) ?_
    | dsimp only [id]
    | split
    | exact canonK_eq rfl rfl rfl)

theorem wpReadBank_canonK (b o : Nat) (fl : List Flip) (s : State) : canonK s (wpReadBank b o fl s) := by
  unfold wpReadBank
  try dsimp only
  repeat' (first
    | with_reducible exact canonK_refl _
    | (with_reducible show canonK _ (bankGrant _ _ _); with_reducible refine canonK_trans ?_ (bankGrant_canonK _ _ _))
    | (with_reducible show canonK _ (wpDone _ _); with_reducible refine canonK_trans ?_ (canonK_of_keeps (wpDone_keeps _ _) (by decide)))
    | (with_reducible show canonK _ (bankRefuse _ _); with_reducible refine canonK_trans ?_ (bankRefuse_canonK _ _))
    | (with_reducible show canonK _ (wpEnd _ _ _); with_reducible refine canonK_trans ?_ (canonK_of_keeps (wpEnd_keeps _ _ _) (by decide)))
    | (with_reducible show canonK _ (bankEcc _ _ _ _ _); with_reducible refine canonK_trans ?_ (bankEcc_canonK (fun _ => ?_) _ _ _ _))
    | with_reducible refine canonK_ite ?_ ?_
    | with_reducible refine canonK_doIf (fun _ => ?_) ?_
    | with_reducible refine canonK_each (fun _ _ => ?_) ?_
    | dsimp only [id]
    | split
    | exact canonK_eq rfl rfl rfl)

theorem wpReadRaw_canonK (ch ca : Nat) (fl : List Flip) (s : State) : canonK s (wpReadRaw ch ca fl s) := by
  unfold wpReadRaw
  try dsimp only
  repeat' (first
    | with_reducible exact canonK_refl _
    | (with_reducible show canonK _ (mErr _ _); with_reducible refine canonK_trans ?_ (canonK_of_keeps (mErr_keeps _ _) (by decide)))
    | (with_reducible show canonK _ (mMem _ _); refine canonK_trans ?_ (canonK_mMem_eq _ _ (by intro m; with_reducible rfl) (by intro m; with_reducible rfl)))
    | (with_reducible show canonK _ (tickFree _); with_reducible refine canonK_trans ?_ (canonK_of_keeps (tickFree_keeps _) (by decide)))
    | (with_reducible show canonK _ (wpEnd _ _ _); with_reducible refine canonK_trans ?_ (canonK_of_keeps (wpEnd_keeps _ _ _) (by decide)))
    | with_reducible refine canonK_ite ?_ ?_
    | with_reducible refine canonK_doIf (fun _ => ?_) ?_
    | with_reducible refine canonK_each (fun _ _ => ?_) ?_
    | dsimp only [id]
    | split
    | exact canonK_eq rfl rfl rfl)

theorem wpUnit_canonK (ch ca : Nat) (wr : Option (List (Nat × Byte))) (s : State) : canonK s (wpUnit ch ca wr s) := by
  unfold wpUnit
  try dsimp only
  repeat' (first
    | with_reducible exact canonK_refl _
    | (with_reducible show canonK _ (mDbg _ _); with_reducible refine canonK_trans ?_ (canonK_of_keeps (mDbg_keeps _ _) (by decide)))
    | (with_reducible show canonK _ (memEnq _ _); with_reducible refine canonK_trans ?_ (memEnq_canonK _ _))
    | (with_reducible show canonK _ (takeTag _); with_reducible refine canonK_trans ?_ (takeTag_canonK _))
    | with_reducible refine canonK_ite ?_ ?_
    | with_reducible refine canonK_doIf (fun _ => ?_) ?_
    | with_reducible refine canonK_each (fun _ _ => ?_) ?_
    | dsimp only [id]
    | split
    | exact canonK_eq rfl rfl rfl)

theorem wpRead_canonK (space : Nat) (a : Word) (e : List Flip) (s : State) : canonK s (wpRead space a e s) := by
  unfold wpRead
  try dsimp only
  repeat' (first
    | with_reducible exact canonK_refl _
    | (with_reducible show canonK _ (wpDone _ _); with_reducible refine canonK_trans ?_ (canonK_of_keeps (wpDone_keeps _ _) (by decide)))
    | (with_reducible show canonK _ (wpReadReg _ _); with_reducible refine canonK_trans ?_ (wpReadReg_canonK _ _))
    | (with_reducible show canonK _ (wpReadBank _ _ _ _); with_reducible refine canonK_trans ?_ (wpReadBank_canonK _ _ _ _))
    | (with_reducible show canonK _ (wpReadRaw _ _ _ _); with_reducible refine canonK_trans ?_ (wpReadRaw_canonK _ _ _ _))
    | (with_reducible show canonK _ (wpUnit _ _ _ _); with_reducible refine canonK_trans ?_ (wpUnit_canonK _ _ _ _))
    | with_reducible refine canonK_ite ?_ ?_
    | with_reducible refine canonK_doIf (fun _ => ?_) ?_
    | with_reducible refine canonK_each (fun _ _ => ?_) ?_
    | dsimp only [id]
    | split
    | exact canonK_eq rfl rfl rfl)

theorem wpWriteReg_canonK (a v : Word) (s : State) : canonK s (wpWriteReg a v s) := by
  unfold wpWriteReg
  try dsimp only
  repeat' (first
    | with_reducible exact canonK_refl _
    | (with_reducible show canonK _ (masterWrite _ _ _ _).1; with_reducible refine canonK_trans ?_ (masterWrite_canonK _ _ _ _))
    | (with_reducible show canonK _ (wpDone _ _); with_reducible refine canonK_trans ?_ (canonK_of_keeps (wpDone_keeps _ _) (by decide)))
    | with_reducible refine canonK_ite ?_ ?_
    | with_reducible refine canonK_doIf (fun _ => ?_) ?_
    | with_reducible refine canonK_each (fun _ _ => ?_) ?_
    | dsimp only [id]
    | split
    | exact canonK_eq rfl rfl rfl)

theorem wpWriteBank_canonK (b o : Nat) (v : Word) (fl : List Flip) (s : State) : canonK s (wpWriteBank b o v fl s) := by
  unfold wpWriteBank
  try dsimp only
  repeat' (first
    | with_reducible exact canonK_refl _
    | (with_reducible show canonK _ (bankGrant _ _ _); with_reducible refine canonK_trans ?_ (bankGrant_canonK _ _ _))
    | (with_reducible show canonK _ (wpDone _ _); with_reducible refine canonK_trans ?_ (canonK_of_keeps (wpDone_keeps _ _) (by decide)))
    | (with_reducible show canonK _ (bankRefuse _ _); with_reducible refine canonK_trans ?_ (bankRefuse_canonK _ _))
    | (with_reducible show canonK _ (bankEcc _ _ _ _ _); with_reducible refine canonK_trans ?_ (bankEcc_canonK (fun _ => ?_) _ _ _ _))
    | (with_reducible show canonK _ (bankPut _ _ _ _); with_reducible refine canonK_trans ?_ (bankPut_canonK _ _ _ _))
    | with_reducible refine canonK_ite ?_ ?_
    | with_reducible refine canonK_doIf (fun _ => ?_) ?_
    | with_reducible refine canonK_each (fun _ _ => ?_) ?_
    | dsimp only [id]
    | split
    | exact canonK_eq rfl rfl rfl)

theorem wpWrite_canonK (space : Nat) (a v : Word) (e : List Flip) (s : State) : canonK s (wpWrite space a v e s) := by
  unfold wpWrite
  try dsimp only
  repeat' (first
    | with_reducible exact canonK_refl _
    | (with_reducible show canonK _ (wpDone _ _); with_reducible refine canonK_trans ?_ (canonK_of_keeps (wpDone_keeps _ _) (by decide)))
    | (with_reducible show canonK _ (wpWriteReg _ _ _); with_reducible refine canonK_trans ?_ (wpWriteReg_canonK _ _ _))
    | (with_reducible show canonK _ (wpRefuse _); with_reducible refine canonK_trans ?_ (canonK_of_keeps (wpRefuse_keeps _) (by decide)))
    | (with_reducible show canonK _ (notice _ _ _); with_reducible refine canonK_trans ?_ (canonK_of_keeps (notice_keeps _ _ _) (by decide)))
    | (with_reducible show canonK _ (wpWriteBank _ _ _ _ _); with_reducible refine canonK_trans ?_ (wpWriteBank_canonK _ _ _ _ _))
    | (with_reducible show canonK _ (wpUnit _ _ _ _); with_reducible refine canonK_trans ?_ (wpUnit_canonK _ _ _ _))
    | with_reducible refine canonK_ite ?_ ?_
    | with_reducible refine canonK_doIf (fun _ => ?_) ?_
    | with_reducible refine canonK_each (fun _ _ => ?_) ?_
    | dsimp only [id]
    | split
    | exact canonK_eq rfl rfl rfl)

theorem wpResume_canonK (s : State) : canonK s (wpResume s) := by
  unfold wpResume
  try dsimp only
  repeat' (first
    | with_reducible exact canonK_refl _
    | (with_reducible show canonK _ (creditWatch _); with_reducible refine canonK_trans ?_ (canonK_of_keeps (creditWatch_keeps _) (by decide)))
    | (with_reducible show canonK _ (placeFragments _); with_reducible refine canonK_trans ?_ (placeFragments_canonK _))
    | (with_reducible show canonK _ (opUnhalt _); with_reducible refine canonK_trans ?_ (canonK_of_keeps (opUnhalt_keeps _) (by decide)))
    | (with_reducible show canonK _ (wpDone _ _); with_reducible refine canonK_trans ?_ (canonK_of_keeps (wpDone_keeps _ _) (by decide)))
    | (with_reducible show canonK _ (opResume _); with_reducible refine canonK_trans ?_ (canonK_of_keeps (opResume_keeps _) (by decide)))
    | with_reducible refine canonK_ite ?_ ?_
    | with_reducible refine canonK_doIf (fun _ => ?_) ?_
    | with_reducible refine canonK_each (fun _ _ => ?_) ?_
    | dsimp only [id]
    | split
    | exact canonK_eq rfl rfl rfl)

theorem wpStep_canonK (d : Word) (s : State) : canonK s (wpStep d s) := by
  unfold wpStep
  try dsimp only
  repeat' (first
    | with_reducible exact canonK_refl _
    | (with_reducible show canonK _ (mDbg _ _); with_reducible refine canonK_trans ?_ (canonK_of_keeps (mDbg_keeps _ _) (by decide)))
    | (with_reducible show canonK _ (placeFragments _); with_reducible refine canonK_trans ?_ (placeFragments_canonK _))
    | (with_reducible show canonK _ (wpDone _ _); with_reducible refine canonK_trans ?_ (canonK_of_keeps (wpDone_keeps _ _) (by decide)))
    | (with_reducible show canonK _ (wpRefuse _); with_reducible refine canonK_trans ?_ (canonK_of_keeps (wpRefuse_keeps _) (by decide)))
    | with_reducible refine canonK_ite ?_ ?_
    | with_reducible refine canonK_doIf (fun _ => ?_) ?_
    | with_reducible refine canonK_each (fun _ _ => ?_) ?_
    | dsimp only [id]
    | split
    | exact canonK_eq rfl rfl rfl)

/-! Machine/Rmp.lean -/

theorem nozWrite_canonK (o : Nat) (d : Bytes) (s : State) : canonK s (nozWrite o d s) := by
  unfold nozWrite
  try dsimp only
  repeat' (first
    | with_reducible exact canonK_refl _
    | (with_reducible show canonK _ (nozSwap _ _ _ _ _); with_reducible refine canonK_trans ?_ (nozSwap_canonK _ _ _ _ _))
    | with_reducible refine canonK_ite ?_ ?_
    | with_reducible refine canonK_doIf (fun _ => ?_) ?_
    | with_reducible refine canonK_each (fun _ _ => ?_) ?_
    | dsimp only [id]
    | split
    | exact canonK_eq rfl rfl rfl)

theorem rmpBankWrite_canonK (b o al : Nat) (d : Bytes) (s : State) : canonK s (rmpBankWrite b o al d s).2 := by
  unfold rmpBankWrite
  try dsimp only
  repeat' (first
    | with_reducible exact canonK_refl _
    | (with_reducible show canonK _ (bankGrant _ _ _); with_reducible refine canonK_trans ?_ (bankGrant_canonK _ _ _))
    | (with_reducible show canonK _ (bankRefuse _ _); with_reducible refine canonK_trans ?_ (bankRefuse_canonK _ _))
    | (with_reducible show canonK _ (notice _ _ _); with_reducible refine canonK_trans ?_ (canonK_of_keeps (notice_keeps _ _ _) (by decide)))
    | (with_reducible show canonK _ (raiseLim _ _ _ _ _ _); with_reducible refine canonK_trans ?_ (canonK_of_keeps (raiseLim_keeps _ _ _ _ _ _) (by decide)))
    | (with_reducible show canonK _ (nozWrite _ _ _); with_reducible refine canonK_trans ?_ (nozWrite_canonK _ _ _))
    | (with_reducible show canonK _ (bankPut _ _ _ _); with_reducible refine canonK_trans ?_ (bankPut_canonK _ _ _ _))
    | with_reducible refine canonK_ite ?_ ?_
    | with_reducible refine canonK_doIf (fun _ => ?_) ?_
    | with_reducible refine canonK_each (fun _ _ => ?_) ?_
    | dsimp only [id]
    | split
    | exact canonK_eq rfl rfl rfl)

theorem rmpReadWord_canonK (space a : Nat) (s : State) : canonK s (rmpReadWord space a s).2.2 := by
  unfold rmpReadWord
  try dsimp only
  repeat' (first
    | with_reducible exact canonK_refl _
    | (with_reducible show canonK _ (bankRefuse _ _); with_reducible refine canonK_trans ?_ (bankRefuse_canonK _ _))
    | (with_reducible show canonK _ (bankGrant _ _ _); with_reducible refine canonK_trans ?_ (bankGrant_canonK _ _ _))
    | (with_reducible show canonK _ (masterRead _ _ _).2.1; with_reducible refine canonK_trans ?_ (masterRead_canonK _ _ _))
    | with_reducible refine canonK_ite ?_ ?_
    | with_reducible refine canonK_doIf (fun _ => ?_) ?_
    | with_reducible refine canonK_each (fun _ _ => ?_) ?_
    | dsimp only [id]
    | split
    | exact canonK_eq rfl rfl rfl)

theorem rmpReads_canonK (space : Nat) : ∀ (n a : Nat) (s : State), canonK s (rmpReads space n a s).2.2
  | 0, _, s => canonK_refl s
  | n + 1, a, s => by
    unfold rmpReads
    dsimp only
    split
    · exact rmpReadWord_canonK space a s
    · exact canonK_trans (rmpReadWord_canonK space a s) (rmpReads_canonK space n _ _)

theorem rmpWrites_canonK (space : Nat) : ∀ (k a : Nat) (d : Bytes) (n : Nat) (s : State), canonK s (rmpWrites space k a d n s).2.2
  | 0, _, _, _, s => canonK_refl s
  | k + 1, a, d, n, s => by
    unfold rmpWrites
    extract_lets v r0 r
    have h : canonK s r.2 := by
      unfold r
      split
      · exact masterWrite_canonK .rmp a v s
      · exact rmpBankWrite_canonK _ a 1 _ s
    clear_value r
    split
    · exact h
    · exact canonK_trans h (rmpWrites_canonK space k _ _ _ _)

theorem rmpCommand_canonK (code arg : Nat) (s : State) : canonK s (rmpCommand code arg s).2 := by
  unfold rmpCommand
  try dsimp only
  repeat' (first
    | with_reducible exact canonK_refl _
    | (with_reducible show canonK _ (mMgt _ _); with_reducible refine canonK_trans ?_ (canonK_of_keeps (mMgt_keeps _ _) (by decide)))
    | (with_reducible show canonK _ (ctlCommand _ _); with_reducible refine canonK_trans ?_ (ctlCommand_canonK _ _))
    | (with_reducible show canonK _ (opYield _ _).2; with_reducible refine canonK_trans ?_ (canonK_of_keeps (opYield_keeps _ _) (by decide)))
    | with_reducible refine canonK_ite ?_ ?_
    | with_reducible refine canonK_doIf (fun _ => ?_) ?_
    | with_reducible refine canonK_each (fun _ _ => ?_) ?_
    | dsimp only [id]
    | split
    | exact canonK_eq rfl rfl rfl)

theorem rmpExec_canonK (ss : Session) (k : Key) (ty : Nat) (b : Bytes) (s : State) : canonK s (rmpExec ss k ty b s).2.2 := by
  unfold rmpExec
  try dsimp only
  repeat' (first
    | with_reducible exact canonK_refl _
    | (with_reducible show canonK _ (opSubscribe _ _ _ _ _).2.2; with_reducible refine canonK_trans ?_ (canonK_of_keeps (opSubscribe_keeps _ _ _ _ _) (by decide)))
    | (with_reducible show canonK _ (rmpBankWrite _ _ _ _ _).2; with_reducible refine canonK_trans ?_ (rmpBankWrite_canonK _ _ _ _ _))
    | (with_reducible show canonK _ (rmpReads _ _ _ _).2.2; with_reducible refine canonK_trans ?_ (rmpReads_canonK _ _ _ _))
    | (with_reducible show canonK _ (rmpWrites _ _ _ _ _ _).2.2; with_reducible refine canonK_trans ?_ (rmpWrites_canonK _ _ _ _ _ _))
    | (with_reducible show canonK _ (rmpCommand _ _ _).2; with_reducible refine canonK_trans ?_ (rmpCommand_canonK _ _ _))
    | with_reducible refine canonK_ite ?_ ?_
    | with_reducible refine canonK_doIf (fun _ => ?_) ?_
    | with_reducible refine canonK_each (fun _ _ => ?_) ?_
    | dsimp only [id]
    | split
    | exact canonK_eq rfl rfl rfl)

theorem rmpServe_canonK (v : Via) (ss : Session) (k : Key) (d : Bytes) (s : State) : canonK s (rmpServe v ss k d s) := by
  unfold rmpServe
  try dsimp only
  repeat' (first
    | with_reducible exact canonK_refl _
    | (with_reducible show canonK _ (rmpReply _ _ _ _ _ _ _ _ _); with_reducible refine canonK_trans ?_ (canonK_of_keeps (rmpReply_keeps _ _ _ _ _ _ _ _ _) (by decide)))
    | (with_reducible show canonK _ (rmpExec _ _ _ _ _).2.2; with_reducible refine canonK_trans ?_ (rmpExec_canonK _ _ _ _ _))
    | (with_reducible show canonK _ (mMgt _ _); with_reducible refine canonK_trans ?_ (canonK_of_keeps (mMgt_keeps _ _) (by decide)))
    | with_reducible refine canonK_ite ?_ ?_
    | with_reducible refine canonK_doIf (fun _ => ?_) ?_
    | with_reducible refine canonK_each (fun _ _ => ?_) ?_
    | dsimp only [id]
    | split
    | exact canonK_eq rfl rfl rfl)

theorem rmpRx_canonK (v : Via) (ss : Session) (d : Bytes) (s : State) : canonK s (rmpRx v ss d s) := by
  unfold rmpRx
  try dsimp only
  repeat' (first
    | with_reducible exact canonK_refl _
    | (with_reducible show canonK _ (mMgt _ _); with_reducible refine canonK_trans ?_ (canonK_of_keeps (mMgt_keeps _ _) (by decide)))
    | (with_reducible show canonK _ (raiseLim _ _ _ _ _ _); with_reducible refine canonK_trans ?_ (canonK_of_keeps (raiseLim_keeps _ _ _ _ _ _) (by decide)))
    | (with_reducible show canonK _ (rmpServe _ _ _ _ _); with_reducible refine canonK_trans ?_ (rmpServe_canonK _ _ _ _ _))
    | (with_reducible show canonK _ (rmpReply _ _ _ _ _ _ _ _ _); with_reducible refine canonK_trans ?_ (canonK_of_keeps (rmpReply_keeps _ _ _ _ _ _ _ _ _) (by decide)))
    | (with_reducible show canonK _ (sendOn _ _ _ _ _ _); with_reducible refine canonK_trans ?_ (canonK_of_keeps (sendOn_keeps _ _ _ _ _ _) (by decide)))
    | (with_reducible show canonK _ (mWin _ _ _); with_reducible refine canonK_trans ?_ (canonK_of_keeps (mWin_keeps _ _ _) (by decide)))
    | with_reducible refine canonK_ite ?_ ?_
    | with_reducible refine canonK_doIf (fun _ => ?_) ?_
    | with_reducible refine canonK_each (fun _ _ => ?_) ?_
    | dsimp only [id]
    | split
    | exact canonK_eq rfl rfl rfl)

theorem rmpRun_canonK (rx : Arrival) (ss : Session) (d : Bytes) (s : State) : canonK s (rmpRun rx ss d s) := by
  unfold rmpRun
  try dsimp only
  repeat' (first
    | with_reducible exact canonK_refl _
    | (with_reducible show canonK _ (rxFrame _ _ _); with_reducible refine canonK_trans ?_ (rxFrame_canonK (fun _ => ?_) _ _))
    | (with_reducible show canonK _ (rmpRx _ _ _ _); with_reducible refine canonK_trans ?_ (rmpRx_canonK _ _ _ _))
    | with_reducible refine canonK_ite ?_ ?_
    | with_reducible refine canonK_doIf (fun _ => ?_) ?_
    | with_reducible refine canonK_each (fun _ _ => ?_) ?_
    | dsimp only [id]
    | split
    | exact canonK_eq rfl rfl rfl)

/-! Machine/RegCmds.lean -/

theorem accWrite_canonK (m : Master) (a : Nat) (v : Word) (s : State) : canonK s (accWrite m a v s) := by
  unfold accWrite
  try dsimp only
  repeat' (first
    | with_reducible exact canonK_refl _
    | (with_reducible show canonK _ (emit _ _); with_reducible refine canonK_trans ?_ (canonK_of_keeps (emit_keeps _ _) (by decide)))
    | (with_reducible show canonK _ (masterWrite _ _ _ _).1; with_reducible refine canonK_trans ?_ (masterWrite_canonK _ _ _ _))
    | (with_reducible show canonK _ (rejectReset _ _ _); with_reducible refine canonK_trans ?_ (rejectReset_canonK _ _ _))
    | with_reducible refine canonK_ite ?_ ?_
    | with_reducible refine canonK_doIf (fun _ => ?_) ?_
    | with_reducible refine canonK_each (fun _ _ => ?_) ?_
    | dsimp only [id]
    | split
    | exact canonK_eq rfl rfl rfl)

theorem accRead_canonK (m : Master) (a : Nat) (s : State) : canonK s (accRead m a s) := by
  unfold accRead
  try dsimp only
  repeat' (first
    | with_reducible exact canonK_refl _
    | (with_reducible show canonK _ (emit _ _); with_reducible refine canonK_trans ?_ (canonK_of_keeps (emit_keeps _ _) (by decide)))
    | (with_reducible show canonK _ (masterRead _ _ _).2.1; with_reducible refine canonK_trans ?_ (masterRead_canonK _ _ _))
    | with_reducible refine canonK_ite ?_ ?_
    | with_reducible refine canonK_doIf (fun _ => ?_) ?_
    | with_reducible refine canonK_each (fun _ _ => ?_) ?_
    | dsimp only [id]
    | split
    | exact canonK_eq rfl rfl rfl)

theorem bankStore_canonK (b r o : Nat) (d : Bytes) (old : Bytes) (s : State) : canonK s (bankStore b r o d old s) := by
  unfold bankStore
  try dsimp only
  repeat' (first
    | with_reducible exact canonK_refl _
    | (with_reducible show canonK _ (bankAnswer _ _ _ _); with_reducible refine canonK_trans ?_ (canonK_of_keeps (bankAnswer_keeps _ _ _ _) (by decide)))
    | (with_reducible show canonK _ (notice _ _ _); with_reducible refine canonK_trans ?_ (canonK_of_keeps (notice_keeps _ _ _) (by decide)))
    | (with_reducible show canonK _ (nozWrite _ _ _); with_reducible refine canonK_trans ?_ (nozWrite_canonK _ _ _))
    | (with_reducible show canonK _ (bankPut _ _ _ _); with_reducible refine canonK_trans ?_ (bankPut_canonK _ _ _ _))
    | with_reducible refine canonK_ite ?_ ?_
    | with_reducible refine canonK_doIf (fun _ => ?_) ?_
    | with_reducible refine canonK_each (fun _ _ => ?_) ?_
    | dsimp only [id]
    | split
    | exact canonK_eq rfl rfl rfl)

theorem towRx_canonK {f : Via → State → State} (h_f : ∀ a0 u, canonK u (f a0 u)) (rx : Arrival) (ss : Session) (s : State) : canonK s (towRx rx ss f s) := by
  unfold towRx
  try dsimp only
  repeat' (first
    | with_reducible exact canonK_refl _
    | (with_reducible show canonK _ (rxFrame _ _ _); with_reducible refine canonK_trans ?_ (rxFrame_canonK (fun _ => ?_) _ _))
    | (with_reducible show canonK _ (f _ _); with_reducible refine canonK_trans ?_ (h_f _ _))
    | with_reducible refine canonK_ite ?_ ?_
    | with_reducible refine canonK_doIf (fun _ => ?_) ?_
    | with_reducible refine canonK_each (fun _ _ => ?_) ?_
    | dsimp only [id]
    | split
    | exact canonK_eq rfl rfl rfl)

end Sys2Proof.Machine
end

