-- ==== Sys2Proof/Laws/Moves.lean ====
section
/-! SUPPORT. Operations move the device only as R34 allows without a reset: one lemma `f_moves` per operation that touches the SYS block. -/

namespace Sys2Proof.Machine

/-- The device state passes as R34 allows without a reset. -/
def moves (s t : State) : Prop := mayPass s.sys.st t.sys.st = true
theorem mayPass_refl (a : DevState) : mayPass a a = true := by cases a <;> rfl
theorem mayPass_trans {a b c : DevState} (h : mayPass a b = true) (k : mayPass b c = true) : mayPass a c = true := by
  revert h k; cases a <;> cases b <;> cases c <;> decide
theorem moves_refl (s : State) : moves s s := mayPass_refl _
theorem moves_trans {s t u : State} (h : moves s t) (k : moves t u) : moves s u := mayPass_trans h k
theorem moves_eq {s t : State} (h : t.sys.st = s.sys.st) : moves s t := by unfold moves; rw [h]; exact mayPass_refl _
theorem moves_of_keeps {ps : List Part} {s t : State} (h : keepsBut ps s t) (hp : .sys ∉ ps) : moves s t :=
  moves_eq (by rw [show t.sys = s.sys from h .sys hp])
theorem moves_ite {s t u : State} {c : Prop} [Decidable c] (h : moves s t) (k : moves s u) : moves s (if c then t else u) := by split <;> assumption
theorem moves_doIf {s t : State} {b : Bool} {f : State → State} (h : ∀ u, moves u (f u)) (k : moves s t) : moves s (doIf b f t) := by
  unfold doIf
  split
  · exact moves_trans k (h t)
  · exact k
theorem moves_each {α : Type} {s t : State} {f : α → State → State} {l : List α} (h : ∀ a u, moves u (f a u)) (k : moves s t) : moves s (each f l t) :=
  each_inv (fun u => moves s u) f (fun a u hu => moves_trans hu (h a u)) l t k
theorem moves_mSys (f : SysState → SysState) (s : State) (h : ∀ y, (f y).st = y.st) : moves s (mSys f s) := moves_eq (h _)
theorem setDev_st (n : DevState) (s : State) : (setDev n s).sys.st = n := by
  unfold setDev
  split
  · assumption
  · rfl
theorem moves_setDev {s : State} {n : DevState} (h : mayPass s.sys.st n = true) : moves s (setDev n s) := by
  unfold moves; rw [setDev_st]; exact h
theorem moves_guard {s t : State} {a b : DevState} (h : moves s t) (k : mayPass a b = true) : moves s (if t.sys.st = a then setDev b t else t) := by
  split
  · rename_i e; exact moves_trans h (moves_setDev (e ▸ k))
  · exact h
/-- An optional outcome, when there is one, moves as R34 allows. -/
def optMoves (s : State) (o : Option (State × Bool)) : Prop := ∀ r, o = some r → moves s r.1
theorem optMoves_of_keeps {ps : List Part} {s : State} {o : Option (State × Bool)} (h : optKeeps ps s o) (hp : .sys ∉ ps) : optMoves s o :=
  fun r e => moves_of_keeps (h r e) hp
theorem optMoves_none (s : State) : optMoves s none := fun _ h => by cases h
theorem optMoves_some {s : State} {r : State × Bool} (h : moves s r.1) : optMoves s (some r) := fun _ e => by cases e; exact h
theorem optMoves_ite {s : State} {c : Prop} [Decidable c] {o p : Option (State × Bool)} (h : optMoves s o) (k : optMoves s p) :
    optMoves s (if c then o else p) := by split <;> assumption
theorem optMoves_took {s t : State} (h : moves s t) : optMoves s (took t) := optMoves_some h
theorem optMoves_denied {s t : State} {c : Nat} (h : moves s t) : optMoves s (denied c t) := optMoves_some h
theorem moves_foldl {α β : Type} {s : State} {f : State × β → α → State × β}
    (h : ∀ acc x, moves acc.1 (f acc x).1) : ∀ (l : List α) {acc : State × β}, moves s acc.1 → moves s (l.foldl f acc).1
  | [], _, k => k
  | x :: r, acc, k => moves_foldl h r (moves_trans k (h acc x))

/-! Machine/Report.lean -/

theorem enterFaulted_moves (s : State) : moves s (enterFaulted s) := by
  unfold enterFaulted
  split
  · exact moves_refl s
  · rename_i h
    refine moves_trans (t := hitchRelease (setDev .faulted (adviceOff (lampsOff s)))) ?_ (moves_eq rfl)
    refine moves_trans ?_ (moves_of_keeps (hitchRelease_keeps _) (by decide))
    refine moves_trans (moves_of_keeps (lampsOff_keeps s) (by decide)) ?_
    refine moves_trans (moves_of_keeps (adviceOff_keeps _) (by decide)) (moves_setDev ?_)
    have e : (adviceOff (lampsOff s)).sys = s.sys := (adviceOff_keeps _ .sys (by decide)).trans (lampsOff_keeps s .sys (by decide))
    rw [e]
    revert h
    cases s.sys.st <;> simp [mayPass]

theorem enterStopped_moves (s : State) : moves s (enterStopped s) := by
  unfold enterStopped
  split
  · exact moves_eq rfl
  · split
    · rename_i h; exact moves_setDev (by rw [h]; rfl)
    · rename_i h; exact moves_setDev (by rw [h]; rfl)
    · rename_i h; exact moves_setDev (by rw [h]; rfl)
    · exact moves_refl s

theorem logOne_moves (x : ErrEv) (s : State) : moves s (logOne x s) := by
  unfold logOne
  try dsimp only
  repeat' (first
    | with_reducible exact moves_refl _
    | (with_reducible show moves _ (mErr _ _); with_reducible refine moves_trans ?_ (moves_of_keeps (mErr_keeps _ _) (by decide)))
    | (with_reducible show moves _ (subRecord _ _ _); with_reducible refine moves_trans ?_ (moves_of_keeps (subRecord_keeps _ _ _) (by decide)))
    | (with_reducible show moves _ (enterFaulted _); with_reducible refine moves_trans ?_ (enterFaulted_moves _))
    | (with_reducible show moves _ (enterStopped _); with_reducible refine moves_trans ?_ (enterStopped_moves _))
    | with_reducible refine moves_ite ?_ ?_
    | with_reducible refine moves_doIf (fun _ => ?_) ?_
    | with_reducible refine moves_each (fun _ _ => ?_) ?_
    | dsimp only [id]
    | split
    | exact moves_eq (by with_reducible rfl))

theorem flush_moves (s : State) : moves s (flush s) := by
  unfold flush
  try dsimp only
  repeat' (first
    | with_reducible exact moves_refl _
    | (with_reducible show moves _ (mErr _ _); with_reducible refine moves_trans ?_ (moves_of_keeps (mErr_keeps _ _) (by decide)))
    | (with_reducible show moves _ (logOne _ _); with_reducible refine moves_trans ?_ (logOne_moves _ _))
    | with_reducible refine moves_ite ?_ ?_
    | with_reducible refine moves_doIf (fun _ => ?_) ?_
    | with_reducible refine moves_each (fun _ _ => ?_) ?_
    | dsimp only [id]
    | split
    | exact moves_eq (by with_reducible rfl))

theorem closeCmd_moves (s t : State) : moves t (closeCmd s t) := flush_moves t

/-! Machine/StageOps.lean -/

theorem opHalt_moves (m : BitVec 8) (s : State) : moves s (opHalt m s) := by
  unfold opHalt
  try dsimp only
  repeat' (first
    | with_reducible exact moves_refl _
    | with_reducible refine moves_guard ?_ rfl
    | (with_reducible show moves _ (mDbg _ _); with_reducible refine moves_trans ?_ (moves_of_keeps (mDbg_keeps _ _) (by decide)))
    | (with_reducible show moves _ (notice _ _ _); with_reducible refine moves_trans ?_ (moves_of_keeps (notice_keeps _ _ _) (by decide)))
    | with_reducible refine moves_ite ?_ ?_
    | with_reducible refine moves_doIf (fun _ => ?_) ?_
    | with_reducible refine moves_each (fun _ _ => ?_) ?_
    | dsimp only [id]
    | split
    | exact moves_eq (by with_reducible rfl))

theorem takeToken_moves {f : State → State} (h_f : ∀  u, moves u (f  u)) (k : Nat) (s : State) : moves s (takeToken k f s) := by
  unfold takeToken
  try dsimp only
  repeat' (first
    | with_reducible exact moves_refl _
    | (with_reducible show moves _ (mDbg _ _); with_reducible refine moves_trans ?_ (moves_of_keeps (mDbg_keeps _ _) (by decide)))
    | (with_reducible show moves _ (f _); with_reducible refine moves_trans ?_ (h_f _))
    | with_reducible refine moves_ite ?_ ?_
    | with_reducible refine moves_doIf (fun _ => ?_) ?_
    | with_reducible refine moves_each (fun _ _ => ?_) ?_
    | dsimp only [id]
    | split
    | exact moves_eq (by with_reducible rfl))

theorem stageTake_moves {f : State → State} (h_f : ∀ u, moves u (f u)) (k : Nat) (tok : List Nat) (layer id : Nat) (lc : Option Nat) (s : State) : moves s (stageTake k tok layer id lc f s) := by
  unfold stageTake
  try dsimp only
  repeat' (first
    | with_reducible exact moves_refl _
    | with_reducible refine moves_guard ?_ rfl
    | (with_reducible show moves _ (takeToken _ _ _); with_reducible refine moves_trans ?_ (takeToken_moves (fun _ => ?_) _ _))
    | (with_reducible show moves _ (mDbg _ _); with_reducible refine moves_trans ?_ (moves_of_keeps (mDbg_keeps _ _) (by decide)))
    | (with_reducible show moves _ (notice _ _ _); with_reducible refine moves_trans ?_ (moves_of_keeps (notice_keeps _ _ _) (by decide)))
    | (with_reducible show moves _ (opHalt _ _); with_reducible refine moves_trans ?_ (opHalt_moves _ _))
    | (with_reducible show moves _ (f _); with_reducible refine moves_trans ?_ (h_f _))
    | with_reducible refine moves_ite ?_ ?_
    | with_reducible refine moves_doIf (fun _ => ?_) ?_
    | with_reducible refine moves_each (fun _ _ => ?_) ?_
    | dsimp only [id]
    | split
    | exact moves_eq (by with_reducible rfl))

/-! Machine/Send.lean -/

theorem rxFrame_moves {f : State → State} (h_f : ∀ u, moves u (f u)) (rx : Arrival) (s : State) : moves s (rxFrame rx f s) := by
  unfold rxFrame
  try dsimp only
  repeat' (first
    | with_reducible exact moves_refl _
    | (with_reducible show moves _ (frameDrop _ _ _); with_reducible refine moves_trans ?_ (moves_of_keeps (frameDrop_keeps _ _ _) (by decide)))
    | (with_reducible show moves _ (mNet _ _ _); with_reducible refine moves_trans ?_ (moves_of_keeps (mNet_keeps _ _ _) (by decide)))
    | (with_reducible show moves _ (f _); with_reducible refine moves_trans ?_ (h_f _))
    | with_reducible refine moves_ite ?_ ?_
    | with_reducible refine moves_doIf (fun _ => ?_) ?_
    | with_reducible refine moves_each (fun _ _ => ?_) ?_
    | dsimp only [id]
    | split
    | exact moves_eq (by with_reducible rfl))

/-! Machine/LayerOps.lean -/

theorem checkReady_moves (s : State) : moves s (checkReady s) := by
  unfold checkReady
  split
  · rename_i h; exact moves_setDev (by rw [h.1]; rfl)
  · exact moves_refl s

/-! Machine/MemOps.lean -/

theorem bankEcc_moves {f : State → State} (h_f : ∀ u, moves u (f u)) (b o : Nat) (e : Ecc) (s : State) : moves s (bankEcc b o e f s) := by
  unfold bankEcc
  try dsimp only
  repeat' (first
    | with_reducible exact moves_refl _
    | (with_reducible show moves _ (raiseLim _ _ _ _ _ _); with_reducible refine moves_trans ?_ (moves_of_keeps (raiseLim_keeps _ _ _ _ _ _) (by decide)))
    | (with_reducible show moves _ (mBank _ _ _); with_reducible refine moves_trans ?_ (moves_of_keeps (mBank_keeps _ _ _) (by decide)))
    | (with_reducible show moves _ (raise _ _ _ _); with_reducible refine moves_trans ?_ (moves_of_keeps (raise_keeps _ _ _ _) (by decide)))
    | (with_reducible show moves _ (f _); with_reducible refine moves_trans ?_ (h_f _))
    | with_reducible refine moves_ite ?_ ?_
    | with_reducible refine moves_doIf (fun _ => ?_) ?_
    | with_reducible refine moves_each (fun _ _ => ?_) ?_
    | dsimp only [id]
    | split
    | exact moves_eq (by with_reducible rfl))

theorem bankOp_moves {f : State → State} (h_f : ∀ u, moves u (f u)) (b r o n al : Nat) (fl : List Flip) (s : State) : moves s (bankOp b r o n al fl f s) := by
  unfold bankOp
  try dsimp only
  repeat' (first
    | with_reducible exact moves_refl _
    | (with_reducible show moves _ (bankGrant _ _ _); with_reducible refine moves_trans ?_ (moves_of_keeps (bankGrant_keeps _ _ _) (by decide)))
    | (with_reducible show moves _ (bankAnswer _ _ _ _); with_reducible refine moves_trans ?_ (moves_of_keeps (bankAnswer_keeps _ _ _ _) (by decide)))
    | (with_reducible show moves _ (bankRefuse _ _); with_reducible refine moves_trans ?_ (moves_of_keeps (bankRefuse_keeps _ _) (by decide)))
    | (with_reducible show moves _ (bankEcc _ _ _ _ _); with_reducible refine moves_trans ?_ (bankEcc_moves (fun _ => ?_) _ _ _ _))
    | (with_reducible show moves _ (f _); with_reducible refine moves_trans ?_ (h_f _))
    | with_reducible refine moves_ite ?_ ?_
    | with_reducible refine moves_doIf (fun _ => ?_) ?_
    | with_reducible refine moves_each (fun _ _ => ?_) ?_
    | dsimp only [id]
    | split
    | exact moves_eq (by with_reducible rfl))

/-! Machine/Towline.lean -/

theorem towEntry_moves {f : Via → State → State} (h_f : ∀ a0 u, moves u (f a0 u)) (ss : Session) (d : Bytes) (np : Via) (s : State) : moves s (towEntry ss d f np s) := by
  unfold towEntry
  try dsimp only
  repeat' (first
    | with_reducible exact moves_refl _
    | (with_reducible show moves _ (sendNak _ _ _ _ _); with_reducible refine moves_trans ?_ (moves_of_keeps (sendNak_keeps _ _ _ _ _) (by decide)))
    | (with_reducible show moves _ (f _ _); with_reducible refine moves_trans ?_ (h_f _ _))
    | with_reducible refine moves_ite ?_ ?_
    | with_reducible refine moves_doIf (fun _ => ?_) ?_
    | with_reducible refine moves_each (fun _ _ => ?_) ?_
    | dsimp only [id]
    | split
    | exact moves_eq (by with_reducible rfl))

theorem towOwned_moves {f : Layer → State → State} (h_f : ∀ a0 u, moves u (f a0 u)) (np : Via) (ss : Session) (d : Bytes) (fseq : Nat) (gone : NakArgs) (s : State) : moves s (towOwned np ss d fseq gone f s) := by
  unfold towOwned
  try dsimp only
  repeat' (first
    | with_reducible exact moves_refl _
    | (with_reducible show moves _ (sendNak _ _ _ _ _); with_reducible refine moves_trans ?_ (moves_of_keeps (sendNak_keeps _ _ _ _ _) (by decide)))
    | (with_reducible show moves _ (f _ _); with_reducible refine moves_trans ?_ (h_f _ _))
    | with_reducible refine moves_ite ?_ ?_
    | with_reducible refine moves_doIf (fun _ => ?_) ?_
    | with_reducible refine moves_each (fun _ _ => ?_) ?_
    | dsimp only [id]
    | split
    | exact moves_eq (by with_reducible rfl))

theorem placeFragments_moves (s : State) : moves s (placeFragments s) := by
  unfold placeFragments
  try dsimp only
  repeat' (first
    | with_reducible exact moves_refl _
    | (with_reducible show moves _ (mTow _ _); with_reducible refine moves_trans ?_ (moves_of_keeps (mTow_keeps _ _) (by decide)))
    | (with_reducible show moves _ (stageTake _ _ _ _ _ _ _); with_reducible refine moves_trans ?_ (stageTake_moves (fun _ => ?_) _ _ _ _ _ _))
    | (with_reducible show moves _ (memWrite _ _ _ _ _); with_reducible refine moves_trans ?_ (moves_of_keeps (memWrite_keeps _ _ _ _ _) (by decide)))
    | (with_reducible show moves _ (takeTag _); with_reducible refine moves_trans ?_ (moves_of_keeps (takeTag_keeps _) (by decide)))
    | with_reducible refine moves_ite ?_ ?_
    | with_reducible refine moves_doIf (fun _ => ?_) ?_
    | with_reducible refine moves_each (fun _ _ => ?_) ?_
    | dsimp only [id]
    | split
    | exact moves_eq (by with_reducible rfl))

theorem fragStore_moves (np : Via) (id sidx b frag total fseq : Nat) (data : Bytes) (s : State) : moves s (fragStore np id sidx b frag total fseq data s) := by
  unfold fragStore
  try dsimp only
  repeat' (first
    | with_reducible exact moves_refl _
    | (with_reducible show moves _ (mTow _ _); with_reducible refine moves_trans ?_ (moves_of_keeps (mTow_keeps _ _) (by decide)))
    | (with_reducible show moves _ (mLayer _ _ _); with_reducible refine moves_trans ?_ (moves_of_keeps (mLayer_keeps _ _ _) (by decide)))
    | (with_reducible show moves _ (updateMargins _); with_reducible refine moves_trans ?_ (moves_of_keeps (updateMargins_keeps _) (by decide)))
    | (with_reducible show moves _ (strandSync _); with_reducible refine moves_trans ?_ (moves_of_keeps (strandSync_keeps _) (by decide)))
    | (with_reducible show moves _ (setLayerSt _ _ _ _); with_reducible refine moves_trans ?_ (moves_of_keeps (setLayerSt_keeps _ _ _ _) (by decide)))
    | (with_reducible show moves _ (blockHeld _ _ _ _ _ _); with_reducible refine moves_trans ?_ (moves_of_keeps (blockHeld_keeps _ _ _ _ _ _) (by decide)))
    | (with_reducible show moves _ (placeFragments _); with_reducible refine moves_trans ?_ (placeFragments_moves _))
    | (with_reducible show moves _ (ackDue _ _ _ _); with_reducible refine moves_trans ?_ (moves_of_keeps (ackDue_keeps _ _ _ _) (by decide)))
    | (with_reducible show moves _ (closeCheck _ _ _ _); with_reducible refine moves_trans ?_ (moves_of_keeps (closeCheck_keeps _ _ _ _) (by decide)))
    | with_reducible refine moves_ite ?_ ?_
    | with_reducible refine moves_doIf (fun _ => ?_) ?_
    | with_reducible refine moves_each (fun _ _ => ?_) ?_
    | dsimp only [id]
    | split
    | exact moves_eq (by with_reducible rfl))

theorem fragCheck_moves (np : Via) (ss : Session) (d : Bytes) (l : Layer) (s : State) : moves s (fragCheck np ss d l s) := by
  unfold fragCheck
  try dsimp only
  repeat' (first
    | with_reducible exact moves_refl _
    | (with_reducible show moves _ (sendNak _ _ _ _ _); with_reducible refine moves_trans ?_ (moves_of_keeps (sendNak_keeps _ _ _ _ _) (by decide)))
    | (with_reducible show moves _ (fragDup _ _ _ _); with_reducible refine moves_trans ?_ (moves_of_keeps (fragDup_keeps _ _ _ _) (by decide)))
    | (with_reducible show moves _ (stageTake _ _ _ _ _ _ _); with_reducible refine moves_trans ?_ (stageTake_moves (fun _ => ?_) _ _ _ _ _ _))
    | (with_reducible show moves _ (fragStore _ _ _ _ _ _ _ _ _); with_reducible refine moves_trans ?_ (fragStore_moves _ _ _ _ _ _ _ _ _))
    | with_reducible refine moves_ite ?_ ?_
    | with_reducible refine moves_doIf (fun _ => ?_) ?_
    | with_reducible refine moves_each (fun _ _ => ?_) ?_
    | dsimp only [id]
    | split
    | exact moves_eq (by with_reducible rfl))

/-! Machine/Position.lean -/

theorem knotWithdraw_moves (s : State) : moves s (knotWithdraw s) := by
  unfold knotWithdraw
  try dsimp only
  repeat' (first
    | with_reducible exact moves_refl _
    | (with_reducible show moves _ (mSys _ _); refine moves_trans ?_ (moves_mSys _ _ (fun _ => rfl)))
    | with_reducible refine moves_ite ?_ ?_
    | with_reducible refine moves_doIf (fun _ => ?_) ?_
    | with_reducible refine moves_each (fun _ _ => ?_) ?_
    | dsimp only [id]
    | split
    | exact moves_eq (by with_reducible rfl))

theorem msStale_moves (i : Nat) (s : State) : moves s (msStale i s) := by
  unfold msStale
  try dsimp only
  repeat' (first
    | with_reducible exact moves_refl _
    | (with_reducible show moves _ (mMs _ _ _); with_reducible refine moves_trans ?_ (moves_of_keeps (mMs_keeps _ _ _) (by decide)))
    | (with_reducible show moves _ (notice _ _ _); with_reducible refine moves_trans ?_ (moves_of_keeps (notice_keeps _ _ _) (by decide)))
    | (with_reducible show moves _ (knotWithdraw _); with_reducible refine moves_trans ?_ (knotWithdraw_moves _))
    | with_reducible refine moves_ite ?_ ?_
    | with_reducible refine moves_doIf (fun _ => ?_) ?_
    | with_reducible refine moves_each (fun _ _ => ?_) ?_
    | dsimp only [id]
    | split
    | exact moves_eq (by with_reducible rfl))

theorem msArm_moves (i : Nat) (s : State) : moves s (msArm i s) := by
  unfold msArm
  try dsimp only
  repeat' (first
    | with_reducible exact moves_refl _
    | (with_reducible show moves _ (mMs _ _ _); with_reducible refine moves_trans ?_ (moves_of_keeps (mMs_keeps _ _ _) (by decide)))
    | (with_reducible show moves _ (msStale _ _); with_reducible refine moves_trans ?_ (msStale_moves _ _))
    | with_reducible refine moves_ite ?_ ?_
    | with_reducible refine moves_doIf (fun _ => ?_) ?_
    | with_reducible refine moves_each (fun _ _ => ?_) ?_
    | dsimp only [id]
    | split
    | exact moves_eq (by with_reducible rfl))

theorem knotReach_moves (s : State) : moves s (knotReach s) := by
  unfold knotReach
  try dsimp only
  repeat' (first
    | with_reducible exact moves_refl _
    | (with_reducible show moves _ (mSys _ _); refine moves_trans ?_ (moves_mSys _ _ (fun _ => rfl)))
    | with_reducible refine moves_ite ?_ ?_
    | with_reducible refine moves_doIf (fun _ => ?_) ?_
    | with_reducible refine moves_each (fun _ _ => ?_) ?_
    | dsimp only [id]
    | split
    | exact moves_eq (by with_reducible rfl))

theorem sampleEnd_moves (c : Nat) (s : State) : moves s (sampleEnd c s) := by
  unfold sampleEnd
  try dsimp only
  repeat' (first
    | with_reducible exact moves_refl _
    | (with_reducible show moves _ (msEval _ _); with_reducible refine moves_trans ?_ (moves_of_keeps (msEval_keeps _ _) (by decide)))
    | (with_reducible show moves _ (knotReach _); with_reducible refine moves_trans ?_ (knotReach_moves _))
    | (with_reducible show moves _ (reverseCheck _); with_reducible refine moves_trans ?_ (moves_of_keeps (reverseCheck_keeps _) (by decide)))
    | with_reducible refine moves_ite ?_ ?_
    | with_reducible refine moves_doIf (fun _ => ?_) ?_
    | with_reducible refine moves_each (fun _ _ => ?_) ?_
    | dsimp only [id]
    | split
    | exact moves_eq (by with_reducible rfl))

theorem encEdge_moves (c : Nat) (a b fast more : Bool) (s : State) : moves s (encEdge c a b fast more s) := by
  unfold encEdge
  try dsimp only
  repeat' (first
    | with_reducible exact moves_refl _
    | (with_reducible show moves _ (ptCopy _ _ _); with_reducible refine moves_trans ?_ (moves_of_keeps (ptCopy_keeps _ _ _) (by decide)))
    | (with_reducible show moves _ (mEnc _ _ _); with_reducible refine moves_trans ?_ (moves_of_keeps (mEnc_keeps _ _ _) (by decide)))
    | (with_reducible show moves _ (raiseLim _ _ _ _ _ _); with_reducible refine moves_trans ?_ (moves_of_keeps (raiseLim_keeps _ _ _ _ _ _) (by decide)))
    | (with_reducible show moves _ (posErr _ _ _); with_reducible refine moves_trans ?_ (moves_of_keeps (posErr_keeps _ _ _) (by decide)))
    | (with_reducible show moves _ (posStat _ _ _); with_reducible refine moves_trans ?_ (moves_of_keeps (posStat_keeps _ _ _) (by decide)))
    | (with_reducible show moves _ (countBy _ _ _); with_reducible refine moves_trans ?_ (moves_of_keeps (countBy_keeps _ _ _) (by decide)))
    | (with_reducible show moves _ (sampleEnd _ _); with_reducible refine moves_trans ?_ (sampleEnd_moves _ _))
    | with_reducible refine moves_ite ?_ ?_
    | with_reducible refine moves_doIf (fun _ => ?_) ?_
    | with_reducible refine moves_each (fun _ _ => ?_) ?_
    | dsimp only [id]
    | split
    | exact moves_eq (by with_reducible rfl))

theorem zEdge_moves (c : Nat) (more : Bool) (s : State) : moves s (zEdge c more s) := by
  unfold zEdge
  try dsimp only
  repeat' (first
    | with_reducible exact moves_refl _
    | (with_reducible show moves _ (ptCopy _ _ _); with_reducible refine moves_trans ?_ (moves_of_keeps (ptCopy_keeps _ _ _) (by decide)))
    | (with_reducible show moves _ (indexTake _ _); with_reducible refine moves_trans ?_ (moves_of_keeps (indexTake_keeps _ _) (by decide)))
    | (with_reducible show moves _ (sampleEnd _ _); with_reducible refine moves_trans ?_ (sampleEnd_moves _ _))
    | with_reducible refine moves_ite ?_ ?_
    | with_reducible refine moves_doIf (fun _ => ?_) ?_
    | with_reducible refine moves_each (fun _ _ => ?_) ?_
    | dsimp only [id]
    | split
    | exact moves_eq (by with_reducible rfl))

theorem ssiValid_moves (c w : Nat) (s : State) : moves s (ssiValid c w s) := by
  unfold ssiValid
  try dsimp only
  repeat' (first
    | with_reducible exact moves_refl _
    | (with_reducible show moves _ (mEnc _ _ _); with_reducible refine moves_trans ?_ (moves_of_keeps (mEnc_keeps _ _ _) (by decide)))
    | (with_reducible show moves _ (faultErr _ _ _); with_reducible refine moves_trans ?_ (moves_of_keeps (faultErr_keeps _ _ _) (by decide)))
    | (with_reducible show moves _ (posErr _ _ _); with_reducible refine moves_trans ?_ (moves_of_keeps (posErr_keeps _ _ _) (by decide)))
    | (with_reducible show moves _ (hwmFollow _ _); with_reducible refine moves_trans ?_ (moves_of_keeps (hwmFollow_keeps _ _) (by decide)))
    | (with_reducible show moves _ (countBy _ _ _); with_reducible refine moves_trans ?_ (moves_of_keeps (countBy_keeps _ _ _) (by decide)))
    | (with_reducible show moves _ (encStart _ _ _); with_reducible refine moves_trans ?_ (moves_of_keeps (encStart_keeps _ _ _) (by decide)))
    | (with_reducible show moves _ (sampleEnd _ _); with_reducible refine moves_trans ?_ (sampleEnd_moves _ _))
    | with_reducible refine moves_ite ?_ ?_
    | with_reducible refine moves_doIf (fun _ => ?_) ?_
    | with_reducible refine moves_each (fun _ _ => ?_) ?_
    | dsimp only [id]
    | split
    | exact moves_eq (by with_reducible rfl))

theorem ssiDone_moves (c : Nat) (w : Word) (par : Bool) (s : State) : moves s (ssiDone c w par s) := by
  unfold ssiDone
  try dsimp only
  repeat' (first
    | with_reducible exact moves_refl _
    | (with_reducible show moves _ (mEnc _ _ _); with_reducible refine moves_trans ?_ (moves_of_keeps (mEnc_keeps _ _ _) (by decide)))
    | (with_reducible show moves _ (ssiDiscard _ _); with_reducible refine moves_trans ?_ (moves_of_keeps (ssiDiscard_keeps _ _) (by decide)))
    | (with_reducible show moves _ (ssiValid _ _ _); with_reducible refine moves_trans ?_ (ssiValid_moves _ _ _))
    | with_reducible refine moves_ite ?_ ?_
    | with_reducible refine moves_doIf (fun _ => ?_) ?_
    | with_reducible refine moves_each (fun _ _ => ?_) ?_
    | dsimp only [id]
    | split
    | exact moves_eq (by with_reducible rfl))

theorem msLoad_moves (i : Nat) (v : Int) (s : State) : moves s (msLoad i v s) := by
  unfold msLoad
  try dsimp only
  repeat' (first
    | with_reducible exact moves_refl _
    | (with_reducible show moves _ (mMs _ _ _); with_reducible refine moves_trans ?_ (moves_of_keeps (mMs_keeps _ _ _) (by decide)))
    | (with_reducible show moves _ (msArm _ _); with_reducible refine moves_trans ?_ (msArm_moves _ _))
    | with_reducible refine moves_ite ?_ ?_
    | with_reducible refine moves_doIf (fun _ => ?_) ?_
    | with_reducible refine moves_each (fun _ _ => ?_) ?_
    | dsimp only [id]
    | split
    | exact moves_eq (by with_reducible rfl))

theorem msOp_moves (i : Nat) (o : MsOp) (s : State) : moves s (msOp i o s) := by
  unfold msOp
  try dsimp only
  repeat' (first
    | with_reducible exact moves_refl _
    | (with_reducible show moves _ (msArm _ _); with_reducible refine moves_trans ?_ (msArm_moves _ _))
    | (with_reducible show moves _ (msDisarm _ _); with_reducible refine moves_trans ?_ (moves_of_keeps (msDisarm_keeps _ _) (by decide)))
    | (with_reducible show moves _ (msLoad _ _ _); with_reducible refine moves_trans ?_ (msLoad_moves _ _ _))
    | (with_reducible show moves _ (mMs _ _ _); with_reducible refine moves_trans ?_ (moves_of_keeps (mMs_keeps _ _ _) (by decide)))
    | with_reducible refine moves_ite ?_ ?_
    | with_reducible refine moves_doIf (fun _ => ?_) ?_
    | with_reducible refine moves_each (fun _ _ => ?_) ?_
    | dsimp only [id]
    | split
    | exact moves_eq (by with_reducible rfl))

theorem msDo_moves (i : Nat) (o : MsOp) (s : State) : moves s (msDo i o s) := by
  unfold msDo
  try dsimp only
  repeat' (first
    | with_reducible exact moves_refl _
    | (with_reducible show moves _ (mMs _ _ _); with_reducible refine moves_trans ?_ (moves_of_keeps (mMs_keeps _ _ _) (by decide)))
    | (with_reducible show moves _ (msOp _ _ _); with_reducible refine moves_trans ?_ (msOp_moves _ _ _))
    | with_reducible refine moves_ite ?_ ?_
    | with_reducible refine moves_doIf (fun _ => ?_) ?_
    | with_reducible refine moves_each (fun _ _ => ?_) ?_
    | dsimp only [id]
    | split
    | exact moves_eq (by with_reducible rfl))

theorem opMsCtl_moves (i : Nat) (v : Word) (s : State) : moves s (opMsCtl i v s) := by
  unfold opMsCtl
  try dsimp only
  repeat' (first
    | with_reducible exact moves_refl _
    | (with_reducible show moves _ (msDo _ _ _); with_reducible refine moves_trans ?_ (msDo_moves _ _ _))
    | with_reducible refine moves_ite ?_ ?_
    | with_reducible refine moves_doIf (fun _ => ?_) ?_
    | with_reducible refine moves_each (fun _ _ => ?_) ?_
    | dsimp only [id]
    | split
    | exact moves_eq (by with_reducible rfl))

theorem opMsCommit_moves (i v : Nat) (s : State) : moves s (opMsCommit i v s) := by
  unfold opMsCommit
  try dsimp only
  repeat' (first
    | with_reducible exact moves_refl _
    | (with_reducible show moves _ (msDo _ _ _); with_reducible refine moves_trans ?_ (msDo_moves _ _ _))
    | with_reducible refine moves_ite ?_ ?_
    | with_reducible refine moves_doIf (fun _ => ?_) ?_
    | with_reducible refine moves_each (fun _ _ => ?_) ?_
    | dsimp only [id]
    | split
    | exact moves_eq (by with_reducible rfl))

theorem syncEdge_moves (n : Nat) (rising : Bool) (s : State) : moves s (syncEdge n rising s) := by
  unfold syncEdge
  try dsimp only
  repeat' (first
    | with_reducible exact moves_refl _
    | (with_reducible show moves _ (mMil _ _); with_reducible refine moves_trans ?_ (moves_of_keeps (mMil_keeps _ _) (by decide)))
    | (with_reducible show moves _ (notice _ _ _); with_reducible refine moves_trans ?_ (moves_of_keeps (notice_keeps _ _ _) (by decide)))
    | (with_reducible show moves _ (msDo _ _ _); with_reducible refine moves_trans ?_ (msDo_moves _ _ _))
    | with_reducible refine moves_ite ?_ ?_
    | with_reducible refine moves_doIf (fun _ => ?_) ?_
    | with_reducible refine moves_each (fun _ _ => ?_) ?_
    | dsimp only [id]
    | split
    | exact moves_eq (by with_reducible rfl))

theorem liveOne_moves (w : Nat × Nat) (s : State) : moves s (liveOne w s) := by
  unfold liveOne
  try dsimp only
  repeat' (first
    | with_reducible exact moves_refl _
    | (with_reducible show moves _ (mPos _ _); with_reducible refine moves_trans ?_ (moves_of_keeps (mPos_keeps _ _) (by decide)))
    | (with_reducible show moves _ (opMsCtl _ _ _); with_reducible refine moves_trans ?_ (opMsCtl_moves _ _ _))
    | (with_reducible show moves _ (opMsCommit _ _ _); with_reducible refine moves_trans ?_ (opMsCommit_moves _ _ _))
    | (with_reducible show moves _ (pulseRepol _ _ _); with_reducible refine moves_trans ?_ (moves_of_keeps (pulseRepol_keeps _ _ _) (by decide)))
    | with_reducible refine moves_ite ?_ ?_
    | with_reducible refine moves_doIf (fun _ => ?_) ?_
    | with_reducible refine moves_each (fun _ _ => ?_) ?_
    | dsimp only [id]
    | split
    | exact moves_eq (by with_reducible rfl))

theorem takeLive_moves (s : State) : moves s (takeLive s) := by
  unfold takeLive
  try dsimp only
  repeat' (first
    | with_reducible exact moves_refl _
    | (with_reducible show moves _ (mPos _ _); with_reducible refine moves_trans ?_ (moves_of_keeps (mPos_keeps _ _) (by decide)))
    | (with_reducible show moves _ (liveOne _ _); with_reducible refine moves_trans ?_ (liveOne_moves _ _))
    | with_reducible refine moves_ite ?_ ?_
    | with_reducible refine moves_doIf (fun _ => ?_) ?_
    | with_reducible refine moves_each (fun _ _ => ?_) ?_
    | dsimp only [id]
    | split
    | exact moves_eq (by with_reducible rfl))

/-! Machine/Grid.lean -/

theorem finishLayers_moves (s : State) : moves s (finishLayers s) := by
  unfold finishLayers
  try dsimp only
  repeat' (first
    | with_reducible exact moves_refl _
    | (with_reducible show moves _ (mLayer _ _ _); with_reducible refine moves_trans ?_ (moves_of_keeps (mLayer_keeps _ _ _) (by decide)))
    | (with_reducible show moves _ (checkReady _); with_reducible refine moves_trans ?_ (checkReady_moves _))
    | (with_reducible show moves _ (strandSync _); with_reducible refine moves_trans ?_ (moves_of_keeps (strandSync_keeps _) (by decide)))
    | (with_reducible show moves _ (updateMargins _); with_reducible refine moves_trans ?_ (moves_of_keeps (updateMargins_keeps _) (by decide)))
    | (with_reducible show moves _ (closeGrid _); with_reducible refine moves_trans ?_ (moves_of_keeps (closeGrid_keeps _) (by decide)))
    | (with_reducible show moves _ (layerFinished _ _); with_reducible refine moves_trans ?_ (moves_of_keeps (layerFinished_keeps _ _) (by decide)))
    | with_reducible refine moves_ite ?_ ?_
    | with_reducible refine moves_doIf (fun _ => ?_) ?_
    | with_reducible refine moves_each (fun _ _ => ?_) ?_
    | dsimp only [id]
    | split
    | exact moves_eq (by with_reducible rfl))

theorem layerStart_moves (id : Nat) (event : Int) (s : State) : moves s (layerStart id event s) := by
  unfold layerStart
  try dsimp only
  repeat' (first
    | with_reducible exact moves_refl _
    | with_reducible refine moves_guard ?_ rfl
    | (with_reducible show moves _ (mTow _ _); with_reducible refine moves_trans ?_ (moves_of_keeps (mTow_keeps _ _) (by decide)))
    | (with_reducible show moves _ (mPos _ _); with_reducible refine moves_trans ?_ (moves_of_keeps (mPos_keeps _ _) (by decide)))
    | (with_reducible show moves _ (mLayer _ _ _); with_reducible refine moves_trans ?_ (moves_of_keeps (mLayer_keeps _ _ _) (by decide)))
    | (with_reducible show moves _ (setLayerSt _ _ _ _); with_reducible refine moves_trans ?_ (moves_of_keeps (setLayerSt_keeps _ _ _ _) (by decide)))
    | (with_reducible show moves _ (mFir _ _); with_reducible refine moves_trans ?_ (moves_of_keeps (mFir_keeps _ _) (by decide)))
    | (with_reducible show moves _ (openGrid _ _ _); with_reducible refine moves_trans ?_ (moves_of_keeps (openGrid_keeps _ _ _) (by decide)))
    | (with_reducible show moves _ (maskMissing _ _ _); with_reducible refine moves_trans ?_ (moves_of_keeps (maskMissing_keeps _ _ _) (by decide)))
    | (with_reducible show moves _ (strandSync _); with_reducible refine moves_trans ?_ (moves_of_keeps (strandSync_keeps _) (by decide)))
    | (with_reducible show moves _ (reverseAtStart _); with_reducible refine moves_trans ?_ (moves_of_keeps (reverseAtStart_keeps _) (by decide)))
    | (with_reducible show moves _ (parLayerStart _); with_reducible refine moves_trans ?_ (moves_of_keeps (parLayerStart_keeps _) (by decide)))
    | (with_reducible show moves _ (updateMargins _); with_reducible refine moves_trans ?_ (moves_of_keeps (updateMargins_keeps _) (by decide)))
    | (with_reducible show moves _ (widthCheck _ _ _); with_reducible refine moves_trans ?_ (moves_of_keeps (widthCheck_keeps _ _ _) (by decide)))
    | with_reducible refine moves_ite ?_ ?_
    | with_reducible refine moves_doIf (fun _ => ?_) ?_
    | with_reducible refine moves_each (fun _ _ => ?_) ?_
    | dsimp only [id]
    | split
    | exact moves_eq (by with_reducible rfl))

theorem queueFire_moves (i : Nat) (event : Int) (s : State) : moves s (queueFire i event s) := by
  unfold queueFire
  try dsimp only
  repeat' (first
    | with_reducible exact moves_refl _
    | (with_reducible show moves _ (raise _ _ _ _); with_reducible refine moves_trans ?_ (moves_of_keeps (raise_keeps _ _ _ _) (by decide)))
    | (with_reducible show moves _ (layerStart _ _ _); with_reducible refine moves_trans ?_ (layerStart_moves _ _ _))
    | with_reducible refine moves_ite ?_ ?_
    | with_reducible refine moves_doIf (fun _ => ?_) ?_
    | with_reducible refine moves_each (fun _ _ => ?_) ?_
    | dsimp only [id]
    | split
    | exact moves_eq (by with_reducible rfl))

/-! Machine/Control.lean -/

theorem opResume_moves (s : State) (h : s.sys.st = .held) : moves s (opResume s) :=
  moves_trans (moves_of_keeps (nzResume_keeps s) (by decide))
    (moves_trans (moves_setDev (by rw [show (nzResume s).sys = s.sys from nzResume_keeps s .sys (by decide), h]; rfl)) (checkReady_moves _))

theorem opAck_moves (s : State) (h : s.sys.st = .stopped) : moves s (opAck s) := by
  unfold opAck
  refine moves_trans ?_ (moves_of_keeps (strandSync_keeps _) (by decide))
  refine moves_trans ?_ (moves_of_keeps (stopEnds_keeps _) (by decide))
  exact moves_trans (t := mErr (fun e => { e with stopHeld := false, stopBlk := 0 }) s) (moves_eq rfl)
    (moves_setDev (by show mayPass s.sys.st .ready = true; rw [h]; rfl))

theorem ctlApply_moves (c : Nat) (s : State) : moves s (ctlApply c s) := by
  unfold ctlApply
  split
  · exact moves_refl s
  · rename_i h
    have hl : ctlLegal s c = true := by simpa using h
    unfold ctlLegal at hl
    split
    · have hp : s.sys.st = .printing := by revert hl; cases s.sys.st <;> simp
      exact moves_setDev (by rw [hp]; rfl)
    · have hp : s.sys.st = .held := by revert hl; cases s.sys.st <;> simp
      exact opResume_moves s hp
    · have hp : s.sys.st = .ready ∨ s.sys.st = .printing ∨ s.sys.st = .held := by revert hl; cases s.sys.st <;> simp
      exact moves_setDev (by rcases hp with hp | hp | hp <;> rw [hp] <;> rfl)
    · have hp : s.sys.st = .stopped := by
        revert hl
        split <;> simp_all
      exact opAck_moves s hp

theorem ctlAt_moves (c lc : Nat) (s : State) : moves s (ctlAt c lc s) := by
  unfold ctlAt
  try dsimp only
  repeat' (first
    | with_reducible exact moves_refl _
    | (with_reducible show moves _ (mPar _ _); with_reducible refine moves_trans ?_ (moves_of_keeps (mPar_keeps _ _) (by decide)))
    | (with_reducible show moves _ (ctlApply _ _); with_reducible refine moves_trans ?_ (ctlApply_moves _ _))
    | with_reducible refine moves_ite ?_ ?_
    | with_reducible refine moves_doIf (fun _ => ?_) ?_
    | with_reducible refine moves_each (fun _ _ => ?_) ?_
    | dsimp only [id]
    | split
    | exact moves_eq (by with_reducible rfl))

theorem ctlCommand_moves (c : Nat) (s : State) : moves s (ctlCommand c s) := by
  unfold ctlCommand
  try dsimp only
  repeat' (first
    | with_reducible exact moves_refl _
    | (with_reducible show moves _ (sendState _ _ _); with_reducible refine moves_trans ?_ (moves_of_keeps (sendState_keeps _ _ _) (by decide)))
    | (with_reducible show moves _ (ctlApply _ _); with_reducible refine moves_trans ?_ (ctlApply_moves _ _))
    | (with_reducible show moves _ (ctlAt _ _ _); with_reducible refine moves_trans ?_ (ctlAt_moves _ _ _))
    | with_reducible refine moves_ite ?_ ?_
    | with_reducible refine moves_doIf (fun _ => ?_) ?_
    | with_reducible refine moves_each (fun _ _ => ?_) ?_
    | dsimp only [id]
    | split
    | exact moves_eq (by with_reducible rfl))

theorem ctlDue_moves (lc : Nat) (s : State) : moves s (ctlDue lc s) := by
  unfold ctlDue
  try dsimp only
  repeat' (first
    | with_reducible exact moves_refl _
    | (with_reducible show moves _ (mPar _ _); with_reducible refine moves_trans ?_ (moves_of_keeps (mPar_keeps _ _) (by decide)))
    | (with_reducible show moves _ (ctlApply _ _); with_reducible refine moves_trans ?_ (ctlApply_moves _ _))
    | with_reducible refine moves_ite ?_ ?_
    | with_reducible refine moves_doIf (fun _ => ?_) ?_
    | with_reducible refine moves_each (fun _ _ => ?_) ?_
    | dsimp only [id]
    | split
    | exact moves_eq (by with_reducible rfl))

theorem ctlLeft_moves (s : State) : moves s (ctlLeft s) := by
  unfold ctlLeft
  try dsimp only
  repeat' (first
    | with_reducible exact moves_refl _
    | (with_reducible show moves _ (mPar _ _); with_reducible refine moves_trans ?_ (moves_of_keeps (mPar_keeps _ _) (by decide)))
    | (with_reducible show moves _ (ctlApply _ _); with_reducible refine moves_trans ?_ (ctlApply_moves _ _))
    | with_reducible refine moves_ite ?_ ?_
    | with_reducible refine moves_doIf (fun _ => ?_) ?_
    | with_reducible refine moves_each (fun _ _ => ?_) ?_
    | dsimp only [id]
    | split
    | exact moves_eq (by with_reducible rfl))

/-! Machine/Release.lean -/

theorem stopReached_moves (rel : Int) (s : State) : moves s (stopReached rel s) := by
  unfold stopReached
  try dsimp only
  repeat' (first
    | with_reducible exact moves_refl _
    | (with_reducible show moves _ (mFir _ _); with_reducible refine moves_trans ?_ (moves_of_keeps (mFir_keeps _ _) (by decide)))
    | (with_reducible show moves _ (enterStopped _); with_reducible refine moves_trans ?_ (enterStopped_moves _))
    | with_reducible refine moves_ite ?_ ?_
    | with_reducible refine moves_doIf (fun _ => ?_) ?_
    | with_reducible refine moves_each (fun _ _ => ?_) ?_
    | dsimp only [id]
    | split
    | exact moves_eq (by with_reducible rfl))

theorem beforeRelease_moves (p k lc : Nat) (s : State) : moves s (beforeRelease p k lc s) := by
  unfold beforeRelease
  try dsimp only
  repeat' (first
    | with_reducible exact moves_refl _
    | (with_reducible show moves _ (mNzl _ _); with_reducible refine moves_trans ?_ (moves_of_keeps (mNzl_keeps _ _) (by decide)))
    | (with_reducible show moves _ (nzBefore _ _ _); with_reducible refine moves_trans ?_ (moves_of_keeps (nzBefore_keeps _ _ _) (by decide)))
    | (with_reducible show moves _ (portMask _ _ _); with_reducible refine moves_trans ?_ (moves_of_keeps (portMask_keeps _ _ _) (by decide)))
    | (with_reducible show moves _ (ctlDue _ _); with_reducible refine moves_trans ?_ (ctlDue_moves _ _))
    | (with_reducible show moves _ (yieldDue _ _); with_reducible refine moves_trans ?_ (moves_of_keeps (yieldDue_keeps _ _) (by decide)))
    | (with_reducible show moves _ (updLateCount _ _); with_reducible refine moves_trans ?_ (moves_of_keeps (updLateCount_keeps _ _) (by decide)))
    | with_reducible refine moves_ite ?_ ?_
    | with_reducible refine moves_doIf (fun _ => ?_) ?_
    | with_reducible refine moves_each (fun _ _ => ?_) ?_
    | dsimp only [id]
    | split
    | exact moves_eq (by with_reducible rfl))

theorem releaseTrig_moves (p k : Nat) (rel : Int) (s : State) : moves s (releaseTrig p k rel s) := by
  unfold releaseTrig
  try dsimp only
  repeat' (first
    | with_reducible exact moves_refl _
    | (with_reducible show moves _ (mFir _ _); with_reducible refine moves_trans ?_ (moves_of_keeps (mFir_keeps _ _) (by decide)))
    | (with_reducible show moves _ (faultErr _ _ _); with_reducible refine moves_trans ?_ (moves_of_keeps (faultErr_keeps _ _ _) (by decide)))
    | (with_reducible show moves _ (stopReached _ _); with_reducible refine moves_trans ?_ (stopReached_moves _ _))
    | (with_reducible show moves _ (deliverAll _ _ _ _ _ _).1; with_reducible refine moves_trans ?_ (moves_of_keeps (deliverAll_keeps _ _ _ _ _ _) (by decide)))
    | (with_reducible show moves _ (beforeRelease _ _ _ _); with_reducible refine moves_trans ?_ (beforeRelease_moves _ _ _ _))
    | (with_reducible show moves _ (pushTrig _ _ _ _); with_reducible refine moves_trans ?_ (moves_of_keeps (pushTrig_keeps _ _ _ _) (by decide)))
    | (with_reducible show moves _ (underrun _ _ _ _ _ _); with_reducible refine moves_trans ?_ (moves_of_keeps (underrun_keeps _ _ _ _ _ _) (by decide)))
    | with_reducible refine moves_ite ?_ ?_
    | with_reducible refine moves_doIf (fun _ => ?_) ?_
    | with_reducible refine moves_each (fun _ _ => ?_) ?_
    | dsimp only [id]
    | split
    | exact moves_eq (by with_reducible rfl))

theorem releaseDue_moves : ∀ (l : List (Nat × Nat × Int)) (s : State), moves s (releaseDue l s)
  | [], s => moves_refl s
  | x :: r, s => by
    unfold releaseDue
    refine moves_trans ?_ (releaseDue_moves r _)
    refine moves_trans ?_ (releaseTrig_moves _ _ _ _)
    split
    · exact moves_of_keeps (stopUnder_keeps _ _ s) (by decide)
    · exact moves_refl s

theorem posSample_moves (t : Nat) (s : State) : moves s (posSample t s) := by
  unfold posSample
  try dsimp only
  repeat' (first
    | with_reducible exact moves_refl _
    | (with_reducible show moves _ (sampleUsed _ _); with_reducible refine moves_trans ?_ (moves_of_keeps (sampleUsed_keeps _ _) (by decide)))
    | (with_reducible show moves _ (ctlLeft _); with_reducible refine moves_trans ?_ (ctlLeft_moves _))
    | (with_reducible show moves _ (setOvs _ _); with_reducible refine moves_trans ?_ (moves_of_keeps (setOvs_keeps _ _) (by decide)))
    | (with_reducible show moves _ (decoderStops _); with_reducible refine moves_trans ?_ (moves_of_keeps (decoderStops_keeps _) (by decide)))
    | (with_reducible show moves _ (releaseDue _ _); with_reducible refine moves_trans ?_ (releaseDue_moves _ _))
    | (with_reducible show moves _ (stopReached _ _); with_reducible refine moves_trans ?_ (stopReached_moves _ _))
    | (with_reducible show moves _ (knotSeeks _ _); with_reducible refine moves_trans ?_ (moves_of_keeps (knotSeeks_keeps _ _) (by decide)))
    | (with_reducible show moves _ (mFir _ _); with_reducible refine moves_trans ?_ (moves_of_keeps (mFir_keeps _ _) (by decide)))
    | (with_reducible show moves _ (strandSync _); with_reducible refine moves_trans ?_ (moves_of_keeps (strandSync_keeps _) (by decide)))
    | (with_reducible show moves _ (portsGone _); with_reducible refine moves_trans ?_ (moves_of_keeps (portsGone_keeps _) (by decide)))
    | (with_reducible show moves _ (pruneTrigs _ _); with_reducible refine moves_trans ?_ (moves_of_keeps (pruneTrigs_keeps _ _) (by decide)))
    | (with_reducible show moves _ (freezePort _ _ _); with_reducible refine moves_trans ?_ (moves_of_keeps (freezePort_keeps _ _ _) (by decide)))
    | (with_reducible show moves _ (updateMargins _); with_reducible refine moves_trans ?_ (moves_of_keeps (updateMargins_keeps _) (by decide)))
    | (with_reducible show moves _ (finishLayers _); with_reducible refine moves_trans ?_ (finishLayers_moves _))
    | (with_reducible show moves _ (ovsCheck _); with_reducible refine moves_trans ?_ (moves_of_keeps (ovsCheck_keeps _) (by decide)))
    | with_reducible refine moves_ite ?_ ?_
    | with_reducible refine moves_doIf (fun _ => ?_) ?_
    | with_reducible refine moves_each (fun _ _ => ?_) ?_
    | dsimp only [id]
    | split
    | exact moves_eq (by with_reducible rfl))

/-! Machine/Frames.lean -/

theorem mapNext_moves (s : State) : moves s (mapNext s) := by
  unfold mapNext
  try dsimp only
  repeat' (first
    | with_reducible exact moves_refl _
    | (with_reducible show moves _ (mFir _ _); with_reducible refine moves_trans ?_ (moves_of_keeps (mFir_keeps _ _) (by decide)))
    | (with_reducible show moves _ (stageTake _ _ _ _ _ _ _); with_reducible refine moves_trans ?_ (stageTake_moves (fun _ => ?_) _ _ _ _ _ _))
    | (with_reducible show moves _ (mapLine _ _ _ _); with_reducible refine moves_trans ?_ (moves_of_keeps (mapLine_keeps _ _ _ _) (by decide)))
    | with_reducible refine moves_ite ?_ ?_
    | with_reducible refine moves_doIf (fun _ => ?_) ?_
    | with_reducible refine moves_each (fun _ _ => ?_) ?_
    | dsimp only [id]
    | split
    | exact moves_eq (by with_reducible rfl))

theorem countDrops_moves {add : Nat → State → State} (h_add : ∀ a0 u, moves u (add a0 u)) (p : Nat) (codes : List Nat) (s : State) : moves s (countDrops p codes add s) := by
  unfold countDrops
  try dsimp only
  repeat' (first
    | with_reducible exact moves_refl _
    | (with_reducible show moves _ (add _ _); with_reducible refine moves_trans ?_ (h_add _ _))
    | with_reducible refine moves_ite ?_ ?_
    | with_reducible refine moves_doIf (fun _ => ?_) ?_
    | with_reducible refine moves_each (fun _ _ => ?_) ?_
    | dsimp only [id]
    | split
    | exact moves_eq (by with_reducible rfl))

/-! Machine/Firing.lean -/

theorem strike_moves (p : Nat) (cmpPs : Int) (s : State) : moves s (strike p cmpPs s) := by
  unfold strike
  try dsimp only
  repeat' (first
    | with_reducible exact moves_refl _
    | (with_reducible show moves _ (mPar _ _); with_reducible refine moves_trans ?_ (moves_of_keeps (mPar_keeps _ _) (by decide)))
    | (with_reducible show moves _ (finishLayers _); with_reducible refine moves_trans ?_ (finishLayers_moves _))
    | (with_reducible show moves _ (ctlLeft _); with_reducible refine moves_trans ?_ (ctlLeft_moves _))
    | (with_reducible show moves _ (pruneTrigs _ _); with_reducible refine moves_trans ?_ (moves_of_keeps (pruneTrigs_keeps _ _) (by decide)))
    | (with_reducible show moves _ (fegStrike _ _ _); with_reducible refine moves_trans ?_ (moves_of_keeps (fegStrike_keeps _ _ _) (by decide)))
    | (with_reducible show moves _ (dlcUpdate _); with_reducible refine moves_trans ?_ (moves_of_keeps (dlcUpdate_keeps _) (by decide)))
    | (with_reducible show moves _ (strikeNull _ _ _); with_reducible refine moves_trans ?_ (moves_of_keeps (strikeNull_keeps _ _ _) (by decide)))
    | (with_reducible show moves _ (strikeTrig _ _ _ _ _); with_reducible refine moves_trans ?_ (moves_of_keeps (strikeTrig_keeps _ _ _ _ _) (by decide)))
    | (with_reducible show moves _ (lagJudge _ _ _ _); with_reducible refine moves_trans ?_ (moves_of_keeps (lagJudge_keeps _ _ _ _) (by decide)))
    | with_reducible refine moves_ite ?_ ?_
    | with_reducible refine moves_doIf (fun _ => ?_) ?_
    | with_reducible refine moves_each (fun _ _ => ?_) ?_
    | dsimp only [id]
    | split
    | exact moves_eq (by with_reducible rfl))

/-! Machine/Inspection.lean -/

theorem camPacket_moves {f : State → State} (h_f : ∀  u, moves u (f  u)) (c : Nat) (s : State) : moves s (camPacket c f s) := by
  unfold camPacket
  try dsimp only
  repeat' (first
    | with_reducible exact moves_refl _
    | (with_reducible show moves _ (camIgnore _ _); with_reducible refine moves_trans ?_ (moves_of_keeps (camIgnore_keeps _ _) (by decide)))
    | (with_reducible show moves _ (f _); with_reducible refine moves_trans ?_ (h_f _))
    | with_reducible refine moves_ite ?_ ?_
    | with_reducible refine moves_doIf (fun _ => ?_) ?_
    | with_reducible refine moves_each (fun _ _ => ?_) ?_
    | dsimp only [id]
    | split
    | exact moves_eq (by with_reducible rfl))

/-! Machine/Knot.lean -/

theorem knotStop_moves (code : Nat) (args : List Nat) (pos : Int) (s : State) : moves s (knotStop code args pos s) := by
  unfold knotStop
  try dsimp only
  repeat' (first
    | with_reducible exact moves_refl _
    | (with_reducible show moves _ (stopAt _ _); with_reducible refine moves_trans ?_ (moves_of_keeps (stopAt_keeps _ _) (by decide)))
    | (with_reducible show moves _ (mFir _ _); with_reducible refine moves_trans ?_ (moves_of_keeps (mFir_keeps _ _) (by decide)))
    | (with_reducible show moves _ (enterStopped _); with_reducible refine moves_trans ?_ (enterStopped_moves _))
    | (with_reducible show moves _ (raise _ _ _ _); with_reducible refine moves_trans ?_ (moves_of_keeps (raise_keeps _ _ _ _) (by decide)))
    | with_reducible refine moves_ite ?_ ?_
    | with_reducible refine moves_doIf (fun _ => ?_) ?_
    | with_reducible refine moves_each (fun _ _ => ?_) ?_
    | dsimp only [id]
    | split
    | exact moves_eq (by with_reducible rfl))

theorem knotGeo_moves (pos : Int) (s : State) : moves s (knotGeo pos s) := by
  unfold knotGeo
  extract_lets old src g s1 s2 s3 chk s4 s5 s6
  have h1 : moves s s1 := moves_of_keeps (mFir_keeps _ s) (by decide)
  have h2 : moves s s2 := moves_ite (moves_trans h1 (moves_of_keeps (mPos_keeps _ _) (by decide))) h1
  have h3 : moves s s3 := by
    clear_value s2 g
    unfold s3
    split
    · exact moves_ite h2 (moves_trans h2 (moves_of_keeps (notice_keeps _ _ _) (by decide)))
    · exact h2
  have h4 : moves s s4 := moves_ite h3 (moves_trans h3 (knotStop_moves _ _ _ _))
  clear_value s4
  have h5 : moves s s5 := moves_trans h4 (moves_of_keeps (fireRests_keeps _ _ _) (by decide))
  have h6 : moves s s6 := moves_doIf (fun u => moves_of_keeps (reverseCheck_keeps u) (by decide)) h5
  clear_value s6
  split
  · exact h6
  · refine moves_each (fun p u => moves_ite (moves_of_keeps (geoSeek_keeps _ _ _ u) (by decide)) (moves_refl u)) ?_
    refine moves_trans ?_ (moves_of_keeps (gatesMeetGrid_keeps _ _) (by decide))
    exact moves_each (fun p u => moves_of_keeps (mPort_keeps _ _ u) (by decide)) h6

theorem knotShuffle_moves (pos : Int) (s : State) : moves s (knotShuffle pos s) := by
  unfold knotShuffle
  try dsimp only
  repeat' (first
    | with_reducible exact moves_refl _
    | (with_reducible show moves _ (mNzl _ _); with_reducible refine moves_trans ?_ (moves_of_keeps (mNzl_keeps _ _) (by decide)))
    | (with_reducible show moves _ (knotStop _ _ _ _); with_reducible refine moves_trans ?_ (knotStop_moves _ _ _ _))
    | with_reducible refine moves_ite ?_ ?_
    | with_reducible refine moves_doIf (fun _ => ?_) ?_
    | with_reducible refine moves_each (fun _ _ => ?_) ?_
    | dsimp only [id]
    | split
    | exact moves_eq (by with_reducible rfl))

theorem takeKnot_moves (pos : Int) (s : State) : moves s (takeKnot pos s) := by
  unfold takeKnot
  extract_lets oldAct oldCtx oldShuf dir x s0
  have h0 : moves s s0 := moves_eq rfl
  clear_value s0
  refine moves_trans h0 ?_
  clear h0
  try dsimp only
  repeat' (first
    | with_reducible exact moves_refl _
    | (with_reducible show moves _ (mSys _ _); refine moves_trans ?_ (moves_mSys _ _ (fun _ => rfl)))
    | (with_reducible show moves _ (knotShuffle _ _); with_reducible refine moves_trans ?_ (knotShuffle_moves _ _))
    | (with_reducible show moves _ (knotGeo _ _); with_reducible refine moves_trans ?_ (knotGeo_moves _ _))
    | (with_reducible show moves _ (evalDetours _); with_reducible refine moves_trans ?_ (moves_of_keeps (evalDetours_keeps _) (by decide)))
    | (with_reducible show moves _ (knotSpools _); with_reducible refine moves_trans ?_ (moves_of_keeps (knotSpools_keeps _) (by decide)))
    | (with_reducible show moves _ (lampKnot _); with_reducible refine moves_trans ?_ (moves_of_keeps (lampKnot_keeps _) (by decide)))
    | (with_reducible show moves _ (knotAxes _ _); with_reducible refine moves_trans ?_ (moves_of_keeps (knotAxes_keeps _ _) (by decide)))
    | (with_reducible show moves _ (capKnot _); with_reducible refine moves_trans ?_ (moves_of_keeps (capKnot_keeps _) (by decide)))
    | (with_reducible show moves _ (camKnot _ _ _ _); with_reducible refine moves_trans ?_ (moves_of_keeps (camKnot_keeps _ _ _ _) (by decide)))
    | (with_reducible show moves _ (updateMargins _); with_reducible refine moves_trans ?_ (moves_of_keeps (updateMargins_keeps _) (by decide)))
    | (with_reducible show moves _ (strandSync _); with_reducible refine moves_trans ?_ (moves_of_keeps (strandSync_keeps _) (by decide)))
    | (with_reducible show moves _ (knotPair _); with_reducible refine moves_trans ?_ (moves_of_keeps (knotPair_keeps _) (by decide)))
    | with_reducible refine moves_ite ?_ ?_
    | with_reducible refine moves_doIf (fun _ => ?_) ?_
    | with_reducible refine moves_each (fun _ _ => ?_) ?_
    | dsimp only [id]
    | split
    | exact moves_eq (by with_reducible rfl))

theorem knotAwait_moves (rc : Int) (s : State) : moves s (knotAwait rc s) := by
  unfold knotAwait
  try dsimp only
  repeat' (first
    | with_reducible exact moves_refl _
    | (with_reducible show moves _ (mSys _ _); refine moves_trans ?_ (moves_mSys _ _ (fun _ => rfl)))
    | (with_reducible show moves _ (notice _ _ _); with_reducible refine moves_trans ?_ (moves_of_keeps (notice_keeps _ _ _) (by decide)))
    | (with_reducible show moves _ (knotReach _); with_reducible refine moves_trans ?_ (knotReach_moves _))
    | with_reducible refine moves_ite ?_ ?_
    | with_reducible refine moves_doIf (fun _ => ?_) ?_
    | with_reducible refine moves_each (fun _ _ => ?_) ?_
    | dsimp only [id]
    | split
    | exact moves_eq (by with_reducible rfl))

theorem knotNow_moves (s : State) : moves s (knotNow s) := by
  unfold knotNow
  try dsimp only
  repeat' (first
    | with_reducible exact moves_refl _
    | (with_reducible show moves _ (mSys _ _); refine moves_trans ?_ (moves_mSys _ _ (fun _ => rfl)))
    | (with_reducible show moves _ (sendKnotReq _ _ _ _); with_reducible refine moves_trans ?_ (moves_of_keeps (sendKnotReq_keeps _ _ _ _) (by decide)))
    | (with_reducible show moves _ (knotReach _); with_reducible refine moves_trans ?_ (knotReach_moves _))
    | (with_reducible show moves _ (knotAwait _ _); with_reducible refine moves_trans ?_ (knotAwait_moves _ _))
    | with_reducible refine moves_ite ?_ ?_
    | with_reducible refine moves_doIf (fun _ => ?_) ?_
    | with_reducible refine moves_each (fun _ _ => ?_) ?_
    | dsimp only [id]
    | split
    | exact moves_eq (by with_reducible rfl))

theorem knotMs_moves (i : Nat) (s : State) : moves s (knotMs i s) := by
  unfold knotMs
  try dsimp only
  repeat' (first
    | with_reducible exact moves_refl _
    | (with_reducible show moves _ (mSys _ _); refine moves_trans ?_ (moves_mSys _ _ (fun _ => rfl)))
    | (with_reducible show moves _ (notice _ _ _); with_reducible refine moves_trans ?_ (moves_of_keeps (notice_keeps _ _ _) (by decide)))
    | (with_reducible show moves _ (sendKnotReq _ _ _ _); with_reducible refine moves_trans ?_ (moves_of_keeps (sendKnotReq_keeps _ _ _ _) (by decide)))
    | with_reducible refine moves_ite ?_ ?_
    | with_reducible refine moves_doIf (fun _ => ?_) ?_
    | with_reducible refine moves_each (fun _ _ => ?_) ?_
    | dsimp only [id]
    | split
    | exact moves_eq (by with_reducible rfl))

theorem opKnot_moves (v : Word) (s : State) : moves s (opKnot v s).1 := by
  unfold opKnot
  try dsimp only
  repeat' (first
    | with_reducible exact moves_refl _
    | (with_reducible show moves _ (notice _ _ _); with_reducible refine moves_trans ?_ (moves_of_keeps (notice_keeps _ _ _) (by decide)))
    | (with_reducible show moves _ (sendKnotReq _ _ _ _); with_reducible refine moves_trans ?_ (moves_of_keeps (sendKnotReq_keeps _ _ _ _) (by decide)))
    | (with_reducible show moves _ (knotWithdraw _); with_reducible refine moves_trans ?_ (knotWithdraw_moves _))
    | (with_reducible show moves _ (knotAwait _ _); with_reducible refine moves_trans ?_ (knotAwait_moves _ _))
    | (with_reducible show moves _ (knotNow _); with_reducible refine moves_trans ?_ (knotNow_moves _))
    | (with_reducible show moves _ (knotMs _ _); with_reducible refine moves_trans ?_ (knotMs_moves _ _))
    | with_reducible refine moves_ite ?_ ?_
    | with_reducible refine moves_doIf (fun _ => ?_) ?_
    | with_reducible refine moves_each (fun _ _ => ?_) ?_
    | dsimp only [id]
    | split
    | exact moves_eq (by with_reducible rfl))

theorem msForeign_moves (i : Nat) (s : State) : moves s (msForeign i s) := by
  unfold msForeign
  try dsimp only
  repeat' (first
    | with_reducible exact moves_refl _
    | (with_reducible show moves _ (notice _ _ _); with_reducible refine moves_trans ?_ (moves_of_keeps (notice_keeps _ _ _) (by decide)))
    | (with_reducible show moves _ (knotWithdraw _); with_reducible refine moves_trans ?_ (knotWithdraw_moves _))
    | with_reducible refine moves_ite ?_ ?_
    | with_reducible refine moves_doIf (fun _ => ?_) ?_
    | with_reducible refine moves_each (fun _ _ => ?_) ?_
    | dsimp only [id]
    | split
    | exact moves_eq (by with_reducible rfl))

theorem msLater_moves (i : Nat) (s : State) : moves s (msLater i s) := by
  unfold msLater
  try dsimp only
  repeat' (first
    | with_reducible exact moves_refl _
    | (with_reducible show moves _ (msDo _ _ _); with_reducible refine moves_trans ?_ (msDo_moves _ _ _))
    | (with_reducible show moves _ (mMs _ _ _); with_reducible refine moves_trans ?_ (moves_of_keeps (mMs_keeps _ _ _) (by decide)))
    | with_reducible refine moves_ite ?_ ?_
    | with_reducible refine moves_doIf (fun _ => ?_) ?_
    | with_reducible refine moves_each (fun _ _ => ?_) ?_
    | dsimp only [id]
    | split
    | exact moves_eq (by with_reducible rfl))

theorem msFire_moves (i : Nat) (ev : Int) (rev : Bool) (s : State) : moves s (msFire i ev rev s) := by
  unfold msFire
  try dsimp only
  repeat' (first
    | with_reducible exact moves_refl _
    | (with_reducible show moves _ (mMil _ _); with_reducible refine moves_trans ?_ (moves_of_keeps (mMil_keeps _ _) (by decide)))
    | (with_reducible show moves _ (mMs _ _ _); with_reducible refine moves_trans ?_ (moves_of_keeps (mMs_keeps _ _ _) (by decide)))
    | (with_reducible show moves _ (msRearm _ _ _); with_reducible refine moves_trans ?_ (moves_of_keeps (msRearm_keeps _ _ _) (by decide)))
    | (with_reducible show moves _ (takeKnot _ _); with_reducible refine moves_trans ?_ (takeKnot_moves _ _))
    | (with_reducible show moves _ (msForeign _ _); with_reducible refine moves_trans ?_ (msForeign_moves _ _))
    | (with_reducible show moves _ (camTrigger _ _ _ _); with_reducible refine moves_trans ?_ (moves_of_keeps (camTrigger_keeps _ _ _ _) (by decide)))
    | (with_reducible show moves _ (queueFire _ _ _); with_reducible refine moves_trans ?_ (queueFire_moves _ _ _))
    | (with_reducible show moves _ (msLater _ _); with_reducible refine moves_trans ?_ (msLater_moves _ _))
    | (with_reducible show moves _ (msPulses _ _); with_reducible refine moves_trans ?_ (moves_of_keeps (msPulses_keeps _ _) (by decide)))
    | (with_reducible show moves _ (gatesMilestone _ _); with_reducible refine moves_trans ?_ (moves_of_keeps (gatesMilestone_keeps _ _) (by decide)))
    | (with_reducible show moves _ (lampMilestone _ _); with_reducible refine moves_trans ?_ (moves_of_keeps (lampMilestone_keeps _ _) (by decide)))
    | with_reducible refine moves_ite ?_ ?_
    | with_reducible refine moves_doIf (fun _ => ?_) ?_
    | with_reducible refine moves_each (fun _ _ => ?_) ?_
    | dsimp only [id]
    | split
    | exact moves_eq (by with_reducible rfl))

/-! Machine/Pairing.lean -/

theorem tethRx_moves {eff : Bytes → State → State} (h_eff : ∀ a0 u, moves u (eff a0 u)) (len : Nat) (f : Bytes) (s : State) : moves s (tethRx len f eff s) := by
  unfold tethRx
  try dsimp only
  repeat' (first
    | with_reducible exact moves_refl _
    | (with_reducible show moves _ (mPar _ _); with_reducible refine moves_trans ?_ (moves_of_keeps (mPar_keeps _ _) (by decide)))
    | (with_reducible show moves _ (tethDrop _); with_reducible refine moves_trans ?_ (moves_of_keeps (tethDrop_keeps _) (by decide)))
    | (with_reducible show moves _ (eff _ _); with_reducible refine moves_trans ?_ (h_eff _ _))
    | with_reducible refine moves_ite ?_ ?_
    | with_reducible refine moves_doIf (fun _ => ?_) ?_
    | with_reducible refine moves_each (fun _ _ => ?_) ?_
    | dsimp only [id]
    | split
    | exact moves_eq (by with_reducible rfl))

theorem tethRoad_moves (rc : Int) (s : State) : moves s (tethRoad rc s) := by
  unfold tethRoad
  try dsimp only
  repeat' (first
    | with_reducible exact moves_refl _
    | (with_reducible show moves _ (mSys _ _); refine moves_trans ?_ (moves_mSys _ _ (fun _ => rfl)))
    | (with_reducible show moves _ (mPar _ _); with_reducible refine moves_trans ?_ (moves_of_keeps (mPar_keeps _ _) (by decide)))
    | (with_reducible show moves _ (faultErr _ _ _); with_reducible refine moves_trans ?_ (moves_of_keeps (faultErr_keeps _ _ _) (by decide)))
    | (with_reducible show moves _ (knotReach _); with_reducible refine moves_trans ?_ (knotReach_moves _))
    | with_reducible refine moves_ite ?_ ?_
    | with_reducible refine moves_doIf (fun _ => ?_) ?_
    | with_reducible refine moves_each (fun _ _ => ?_) ?_
    | dsimp only [id]
    | split
    | exact moves_eq (by with_reducible rfl))

theorem tethKnotBody_moves (b : Bytes) (s : State) : moves s (tethKnotBody b s) := by
  unfold tethKnotBody
  try dsimp only
  repeat' (first
    | with_reducible exact moves_refl _
    | (with_reducible show moves _ (knotWithdraw _); with_reducible refine moves_trans ?_ (knotWithdraw_moves _))
    | (with_reducible show moves _ (knotMs _ _); with_reducible refine moves_trans ?_ (knotMs_moves _ _))
    | (with_reducible show moves _ (tethDrop _); with_reducible refine moves_trans ?_ (moves_of_keeps (tethDrop_keeps _) (by decide)))
    | (with_reducible show moves _ (tethRoad _ _); with_reducible refine moves_trans ?_ (tethRoad_moves _ _))
    | with_reducible refine moves_ite ?_ ?_
    | with_reducible refine moves_doIf (fun _ => ?_) ?_
    | with_reducible refine moves_each (fun _ _ => ?_) ?_
    | dsimp only [id]
    | split
    | exact moves_eq (by with_reducible rfl))

theorem tethStateBody_moves (b : Bytes) (s : State) : moves s (tethStateBody b s) := by
  unfold tethStateBody
  try dsimp only
  repeat' (first
    | with_reducible exact moves_refl _
    | (with_reducible show moves _ (ctlAt _ _ _); with_reducible refine moves_trans ?_ (ctlAt_moves _ _ _))
    | (with_reducible show moves _ (tethDrop _); with_reducible refine moves_trans ?_ (moves_of_keeps (tethDrop_keeps _) (by decide)))
    | with_reducible refine moves_ite ?_ ?_
    | with_reducible refine moves_doIf (fun _ => ?_) ?_
    | with_reducible refine moves_each (fun _ _ => ?_) ?_
    | dsimp only [id]
    | split
    | exact moves_eq (by with_reducible rfl))

/-! Machine/RegRead.lean -/

theorem snapEpoch_moves (s : State) : moves s (snapEpoch s) := by
  unfold snapEpoch
  try dsimp only
  repeat' (first
    | with_reducible exact moves_refl _
    | (with_reducible show moves _ (mSys _ _); refine moves_trans ?_ (moves_mSys _ _ (fun _ => rfl)))
    | with_reducible refine moves_ite ?_ ?_
    | with_reducible refine moves_doIf (fun _ => ?_) ?_
    | with_reducible refine moves_each (fun _ _ => ?_) ?_
    | dsimp only [id]
    | split
    | exact moves_eq (by with_reducible rfl))

theorem readEffect_moves (a : Nat) (s : State) : moves s (readEffect a s) := by
  unfold readEffect
  try dsimp only
  repeat' (first
    | with_reducible exact moves_refl _
    | (with_reducible show moves _ (tickFree _); with_reducible refine moves_trans ?_ (moves_of_keeps (tickFree_keeps _) (by decide)))
    | (with_reducible show moves _ (opPosSnap _ _); with_reducible refine moves_trans ?_ (moves_of_keeps (opPosSnap_keeps _ _) (by decide)))
    | (with_reducible show moves _ (opFirSnap _ _); with_reducible refine moves_trans ?_ (moves_of_keeps (opFirSnap_keeps _ _) (by decide)))
    | (with_reducible show moves _ (opResData _ _); with_reducible refine moves_trans ?_ (moves_of_keeps (opResData_keeps _ _) (by decide)))
    | (with_reducible show moves _ (opAxsTbl _ _); with_reducible refine moves_trans ?_ (moves_of_keeps (opAxsTbl_keeps _ _) (by decide)))
    | (with_reducible show moves _ (opLampZone _ _); with_reducible refine moves_trans ?_ (moves_of_keeps (opLampZone_keeps _ _) (by decide)))
    | (with_reducible show moves _ (opLampUtbl _ _); with_reducible refine moves_trans ?_ (moves_of_keeps (opLampUtbl_keeps _ _) (by decide)))
    | (with_reducible show moves _ (opPtpSnap _ _); with_reducible refine moves_trans ?_ (moves_of_keeps (opPtpSnap_keeps _ _) (by decide)))
    | (with_reducible show moves _ (snapLog _ _ _); with_reducible refine moves_trans ?_ (moves_of_keeps (snapLog_keeps _ _ _) (by decide)))
    | (with_reducible show moves _ (snapEpoch _); with_reducible refine moves_trans ?_ (snapEpoch_moves _))
    | (with_reducible show moves _ (snapCmp _ _); with_reducible refine moves_trans ?_ (moves_of_keeps (snapCmp_keeps _ _) (by decide)))
    | (with_reducible show moves _ (snapHit _ _); with_reducible refine moves_trans ?_ (moves_of_keeps (snapHit_keeps _ _) (by decide)))
    | (with_reducible show moves _ (snapSync _ _); with_reducible refine moves_trans ?_ (moves_of_keeps (snapSync_keeps _ _) (by decide)))
    | (with_reducible show moves _ (jrnPop _); with_reducible refine moves_trans ?_ (moves_of_keeps (jrnPop_keeps _) (by decide)))
    | with_reducible refine moves_ite ?_ ?_
    | with_reducible refine moves_doIf (fun _ => ?_) ?_
    | with_reducible refine moves_each (fun _ _ => ?_) ?_
    | dsimp only [id]
    | split
    | exact moves_eq (by with_reducible rfl))

/-! Machine/RegWrite.lean -/

theorem opPaceClr_moves (v : Word) (s : State) : moves s (opPaceClr v s) := by
  unfold opPaceClr
  try dsimp only
  repeat' (first
    | with_reducible exact moves_refl _
    | (with_reducible show moves _ (mSys _ _); refine moves_trans ?_ (moves_mSys _ _ (fun _ => rfl)))
    | with_reducible refine moves_ite ?_ ?_
    | with_reducible refine moves_doIf (fun _ => ?_) ?_
    | with_reducible refine moves_each (fun _ _ => ?_) ?_
    | dsimp only [id]
    | split
    | exact moves_eq (by with_reducible rfl))

theorem writeCmd_moves (img : Bool) (a : Nat) (v : Word) (s : State) : optMoves s (writeCmd img a v s) := by
  unfold writeCmd
  try dsimp only
  repeat' (first
    | with_reducible exact moves_refl _
    | (with_reducible show moves _ (opKnot _ _).1; with_reducible refine moves_trans ?_ (opKnot_moves _ _))
    | (with_reducible show moves _ (mSys _ _); refine moves_trans ?_ (moves_mSys _ _ (fun _ => rfl)))
    | (with_reducible show moves _ (opPaceClr _ _); with_reducible refine moves_trans ?_ (opPaceClr_moves _ _))
    | (with_reducible show moves _ (mKeep _ _); with_reducible refine moves_trans ?_ (moves_of_keeps (mKeep_keeps _ _) (by decide)))
    | (with_reducible show optMoves _ (opOtpCmd _ _); exact optMoves_of_keeps (opOtpCmd_keeps _ _) (by decide))
    | (with_reducible show moves _ (opNetClr _ _ _); with_reducible refine moves_trans ?_ (moves_of_keeps (opNetClr_keeps _ _ _) (by decide)))
    | (with_reducible show moves _ (opPtpClr _ _ _); with_reducible refine moves_trans ?_ (moves_of_keeps (opPtpClr_keeps _ _ _) (by decide)))
    | (with_reducible show moves _ (opMgtClr _ _); with_reducible refine moves_trans ?_ (moves_of_keeps (opMgtClr_keeps _ _) (by decide)))
    | (with_reducible show moves _ (opTowClr _ _); with_reducible refine moves_trans ?_ (moves_of_keeps (opTowClr_keeps _ _) (by decide)))
    | (with_reducible show moves _ (opMemVerify _ _); with_reducible refine moves_trans ?_ (moves_of_keeps (opMemVerify_keeps _ _) (by decide)))
    | (with_reducible show moves _ (opMemClr _ _); with_reducible refine moves_trans ?_ (moves_of_keeps (opMemClr_keeps _ _) (by decide)))
    | (with_reducible show moves _ (opBnkClr _ _ _); with_reducible refine moves_trans ?_ (moves_of_keeps (opBnkClr_keeps _ _ _) (by decide)))
    | (with_reducible show moves _ (opArbClr _ _); with_reducible refine moves_trans ?_ (moves_of_keeps (opArbClr_keeps _ _) (by decide)))
    | (with_reducible show moves _ (opStrClr _ _); with_reducible refine moves_trans ?_ (moves_of_keeps (opStrClr_keeps _ _) (by decide)))
    | (with_reducible show moves _ (opCmpClr _ _); with_reducible refine moves_trans ?_ (moves_of_keeps (opCmpClr_keeps _ _) (by decide)))
    | (with_reducible show moves _ (mEnc _ _ _); with_reducible refine moves_trans ?_ (moves_of_keeps (mEnc_keeps _ _ _) (by decide)))
    | (with_reducible show moves _ (mMil _ _); with_reducible refine moves_trans ?_ (moves_of_keeps (mMil_keeps _ _) (by decide)))
    | (with_reducible show moves _ (mMs _ _ _); with_reducible refine moves_trans ?_ (moves_of_keeps (mMs_keeps _ _ _) (by decide)))
    | (with_reducible show moves _ (postLive _ _ _); with_reducible refine moves_trans ?_ (moves_of_keeps (postLive_keeps _ _ _) (by decide)))
    | (with_reducible show moves _ (opFirCntClr _ _); with_reducible refine moves_trans ?_ (moves_of_keeps (opFirCntClr_keeps _ _) (by decide)))
    | (with_reducible show moves _ (opGeoCheck _ _); with_reducible refine moves_trans ?_ (moves_of_keeps (opGeoCheck_keeps _ _) (by decide)))
    | (with_reducible show moves _ (opResData _ _); with_reducible refine moves_trans ?_ (moves_of_keeps (opResData_keeps _ _) (by decide)))
    | (with_reducible show moves _ (opNzlReq _ _); with_reducible refine moves_trans ?_ (moves_of_keeps (opNzlReq_keeps _ _) (by decide)))
    | (with_reducible show moves _ (opNzlClr _ _); with_reducible refine moves_trans ?_ (moves_of_keeps (opNzlClr_keeps _ _) (by decide)))
    | (with_reducible show moves _ (opGateCmd _ _ _); with_reducible refine moves_trans ?_ (moves_of_keeps (opGateCmd_keeps _ _ _) (by decide)))
    | (with_reducible show moves _ (hcfgRefuse _); with_reducible refine moves_trans ?_ (moves_of_keeps (hcfgRefuse_keeps _) (by decide)))
    | (with_reducible show moves _ (opHcfgGo _ _); with_reducible refine moves_trans ?_ (moves_of_keeps (opHcfgGo_keeps _ _) (by decide)))
    | (with_reducible show moves _ (eyeRefuse _); with_reducible refine moves_trans ?_ (moves_of_keeps (eyeRefuse_keeps _) (by decide)))
    | (with_reducible show moves _ (opEyeGo _ _); with_reducible refine moves_trans ?_ (moves_of_keeps (opEyeGo_keeps _ _) (by decide)))
    | (with_reducible show moves _ (opGulClr _ _ _); with_reducible refine moves_trans ?_ (moves_of_keeps (opGulClr_keeps _ _ _) (by decide)))
    | (with_reducible show moves _ (opCamClr _ _ _); with_reducible refine moves_trans ?_ (moves_of_keeps (opCamClr_keeps _ _ _) (by decide)))
    | (with_reducible show moves _ (opInsRel _ _ _); with_reducible refine moves_trans ?_ (moves_of_keeps (opInsRel_keeps _ _ _) (by decide)))
    | (with_reducible show moves _ (opInsClr _ _ _); with_reducible refine moves_trans ?_ (moves_of_keeps (opInsClr_keeps _ _ _) (by decide)))
    | (with_reducible show moves _ (axTblStep _); with_reducible refine moves_trans ?_ (moves_of_keeps (axTblStep_keeps _) (by decide)))
    | (with_reducible show moves _ (notice _ _ _); with_reducible refine moves_trans ?_ (moves_of_keeps (notice_keeps _ _ _) (by decide)))
    | (with_reducible show moves _ (opAxsTbl _ _); with_reducible refine moves_trans ?_ (moves_of_keeps (opAxsTbl_keeps _ _) (by decide)))
    | (with_reducible show moves _ (mAxs _ _ _); with_reducible refine moves_trans ?_ (moves_of_keeps (mAxs_keeps _ _ _) (by decide)))
    | (with_reducible show moves _ (opLmpCmd _ _); with_reducible refine moves_trans ?_ (moves_of_keeps (opLmpCmd_keeps _ _) (by decide)))
    | (with_reducible show moves _ (opLampZone _ _); with_reducible refine moves_trans ?_ (moves_of_keeps (opLampZone_keeps _ _) (by decide)))
    | (with_reducible show moves _ (opLampUtbl _ _); with_reducible refine moves_trans ?_ (moves_of_keeps (opLampUtbl_keeps _ _) (by decide)))
    | (with_reducible show moves _ (mLmp _ _); with_reducible refine moves_trans ?_ (moves_of_keeps (mLmp_keeps _ _) (by decide)))
    | (with_reducible show moves _ (opLbusGo _ _ _); with_reducible refine moves_trans ?_ (moves_of_keeps (opLbusGo_keeps _ _ _) (by decide)))
    | (with_reducible show moves _ (opParClr _ _); with_reducible refine moves_trans ?_ (moves_of_keeps (opParClr_keeps _ _) (by decide)))
    | (with_reducible show moves _ (opCalForce _ _); with_reducible refine moves_trans ?_ (moves_of_keeps (opCalForce_keeps _ _) (by decide)))
    | (with_reducible show moves _ (opErrAck _ _); with_reducible refine moves_trans ?_ (moves_of_keeps (opErrAck_keeps _ _) (by decide)))
    | (with_reducible show moves _ (opErrAckAll _ _); with_reducible refine moves_trans ?_ (moves_of_keeps (opErrAckAll_keeps _ _) (by decide)))
    | (with_reducible show moves _ (opLatchClr _ _); with_reducible refine moves_trans ?_ (moves_of_keeps (opLatchClr_keeps _ _) (by decide)))
    | (with_reducible show moves _ (opErrClr _ _); with_reducible refine moves_trans ?_ (moves_of_keeps (opErrClr_keeps _ _) (by decide)))
    | (with_reducible show optMoves _ (opCapCmd _ _); exact optMoves_of_keeps (opCapCmd_keeps _ _) (by decide))
    | with_reducible exact optMoves_none _
    | with_reducible refine optMoves_ite ?_ ?_
    | with_reducible refine optMoves_took ?_
    | with_reducible refine optMoves_denied ?_
    | with_reducible refine optMoves_some ?_
    | with_reducible refine moves_ite ?_ ?_
    | with_reducible refine moves_doIf (fun _ => ?_) ?_
    | with_reducible refine moves_each (fun _ _ => ?_) ?_
    | dsimp only [id]
    | split
    | exact moves_eq (by with_reducible rfl))

theorem regWrite_moves (img : Bool) (a : Nat) (v : Word) (s : State) : moves s (regWrite img a v s).1 := by
  unfold regWrite
  split
  · exact moves_refl s
  dsimp only
  refine moves_trans ?_ (moves_of_keeps (otpGate_keeps _ _ _) (by decide))
  cases h : writeCmd img a v s with
  | some r => exact writeCmd_moves img a v s r h
  | none =>
    dsimp only
    split
    · exact moves_of_keeps (writeStored_keeps _ _ _ _ s) (by decide)
    · exact moves_refl s

theorem masterWrite_moves (m : Master) (a : Nat) (v : Word) (s : State) : moves s (masterWrite m a v s).1 := by
  unfold masterWrite
  try dsimp only
  repeat' (first
    | with_reducible exact moves_refl _
    | (with_reducible show moves _ (mErr _ _); with_reducible refine moves_trans ?_ (moves_of_keeps (mErr_keeps _ _) (by decide)))
    | (with_reducible show moves _ (notice _ _ _); with_reducible refine moves_trans ?_ (moves_of_keeps (notice_keeps _ _ _) (by decide)))
    | (with_reducible show moves _ (regWrite _ _ _ _).1; with_reducible refine moves_trans ?_ (regWrite_moves _ _ _ _))
    | (with_reducible show moves _ (dbgRefuse _); with_reducible refine moves_trans ?_ (moves_of_keeps (dbgRefuse_keeps _) (by decide)))
    | with_reducible refine moves_ite ?_ ?_
    | with_reducible refine moves_doIf (fun _ => ?_) ?_
    | with_reducible refine moves_each (fun _ _ => ?_) ?_
    | dsimp only [id]
    | split
    | exact moves_eq (by with_reducible rfl))

theorem masterRead_moves (m : Master) (a : Nat) (s : State) : moves s (masterRead m a s).2.1 := by
  unfold masterRead
  try dsimp only
  repeat' (first
    | with_reducible exact moves_refl _
    | (with_reducible show moves _ (readEffect _ _); with_reducible refine moves_trans ?_ (readEffect_moves _ _))
    | with_reducible refine moves_ite ?_ ?_
    | with_reducible refine moves_doIf (fun _ => ?_) ?_
    | with_reducible refine moves_each (fun _ _ => ?_) ?_
    | dsimp only [id]
    | split
    | exact moves_eq (by with_reducible rfl))

/-! Machine/Image.lean -/

theorem rejectReset_moves (reason detail : Nat) (s : State) : moves s (rejectReset reason detail s) := by
  unfold rejectReset
  refine moves_trans ?_ (moves_of_keeps (reject_keeps _ _ _) (by decide))
  exact moves_eq rfl

theorem applyRegs_moves : ∀ (n : Nat) (b : Bytes) (s : State), moves s (applyRegs n b s).1
  | 0, _, s => moves_refl s
  | n + 1, b, s => by
    unfold applyRegs
    dsimp only
    split
    · exact moves_trans (masterWrite_moves _ _ _ s) (applyRegs_moves n _ _)
    · exact masterWrite_moves _ _ _ s
    · exact masterWrite_moves _ _ _ s

theorem imageWrites_moves : ∀ (l : List (Nat × Word)) (s : State), moves s (imageWrites l s).1
  | [], s => moves_refl s
  | x :: l, s => by
    unfold imageWrites
    dsimp only
    split
    · exact moves_trans (regWrite_moves _ _ _ s) (imageWrites_moves l _)
    · exact regWrite_moves _ _ _ s

theorem applyNetId_moves (b : Bytes) (s : State) : moves s (applyNetId b s).1 := by
  unfold applyNetId
  try dsimp only
  repeat' (first
    | with_reducible exact moves_refl _
    | (with_reducible show moves _ (imageWrites _ _).1; with_reducible refine moves_trans ?_ (imageWrites_moves _ _))
    | with_reducible refine moves_ite ?_ ?_
    | with_reducible refine moves_doIf (fun _ => ?_) ?_
    | with_reducible refine moves_each (fun _ _ => ?_) ?_
    | dsimp only [id]
    | split
    | exact moves_eq (by with_reducible rfl))

theorem applyGeom_moves (b : Bytes) (s : State) : moves s (applyGeom b s).1 := by
  unfold applyGeom
  try dsimp only
  repeat' (first
    | with_reducible exact moves_refl _
    | (with_reducible show moves _ (mStg _ _); with_reducible refine moves_trans ?_ (moves_of_keeps (mStg_keeps _ _) (by decide)))
    | (with_reducible show moves _ (imageWrites _ _).1; with_reducible refine moves_trans ?_ (imageWrites_moves _ _))
    | with_reducible refine moves_ite ?_ ?_
    | with_reducible refine moves_doIf (fun _ => ?_) ?_
    | with_reducible refine moves_each (fun _ _ => ?_) ?_
    | dsimp only [id]
    | split
    | exact moves_eq (by with_reducible rfl))

theorem applyRecord_moves (r : Bytes) (s : State) : moves s (applyRecord r s).1 := by
  unfold applyRecord
  try dsimp only
  repeat' (first
    | with_reducible exact moves_refl _
    | (with_reducible show moves _ (applyRegs _ _ _).1; with_reducible refine moves_trans ?_ (applyRegs_moves _ _ _))
    | (with_reducible show moves _ (applyNetId _ _).1; with_reducible refine moves_trans ?_ (applyNetId_moves _ _))
    | (with_reducible show moves _ (applyKeys _ _).1; with_reducible refine moves_trans ?_ (moves_of_keeps (applyKeys_keeps _ _) (by decide)))
    | (with_reducible show moves _ (applyDram _ _).1; with_reducible refine moves_trans ?_ (moves_of_keeps (applyDram_keeps _ _) (by decide)))
    | (with_reducible show moves _ (applyCal _ _).1; with_reducible refine moves_trans ?_ (moves_of_keeps (applyCal_keeps _ _) (by decide)))
    | (with_reducible show moves _ (applyTable _ _).1; with_reducible refine moves_trans ?_ (moves_of_keeps (applyTable_keeps _ _) (by decide)))
    | (with_reducible show moves _ (applyGeom _ _).1; with_reducible refine moves_trans ?_ (applyGeom_moves _ _))
    | with_reducible refine moves_ite ?_ ?_
    | with_reducible refine moves_doIf (fun _ => ?_) ?_
    | with_reducible refine moves_each (fun _ _ => ?_) ?_
    | dsimp only [id]
    | split
    | exact moves_eq (by with_reducible rfl))

theorem recordApply_moves (r : Bytes) (s : State) : moves s (recordApply r s) := by
  unfold recordApply
  try dsimp only
  repeat' (first
    | with_reducible exact moves_refl _
    | (with_reducible show moves _ (mCfg _ _); with_reducible refine moves_trans ?_ (moves_of_keeps (mCfg_keeps _ _) (by decide)))
    | (with_reducible show moves _ (rejectReset _ _ _); with_reducible refine moves_trans ?_ (rejectReset_moves _ _ _))
    | (with_reducible show moves _ (applyRecord _ _).1; with_reducible refine moves_trans ?_ (applyRecord_moves _ _))
    | with_reducible refine moves_ite ?_ ?_
    | with_reducible refine moves_doIf (fun _ => ?_) ?_
    | with_reducible refine moves_each (fun _ _ => ?_) ?_
    | dsimp only [id]
    | split
    | exact moves_eq (by with_reducible rfl))

theorem accept_moves (boot : BitVec 64) (s : State) (h : s.sys.st = .loading) : moves s (accept boot s) := by
  unfold accept
  extract_lets i o s1 s2 en s3
  have h1 : keepsBut [.err, .cfg, .mgt, .mem] s s1 :=
    keepsBut_of (keepsBut_of (keepsBut_refl _ s) (mCfg_keeps _ _) (by decide)) (mMgt_keeps _ _) (by decide)
  have h2 : keepsBut [.err, .cfg, .mgt, .mem] s s2 :=
    keepsBut_ite (keepsBut_of h1 (faultErr_keeps _ _ _) (by decide)) h1
  have h3 : keepsBut [.err, .cfg, .mgt, .mem] s s3 := keepsBut_each (fun c u => by
    refine keepsBut_ite (keepsBut_of (keepsBut_refl _ u) (dramInit_keeps _ u) (by decide)) (keepsBut_of (keepsBut_refl _ u) (mChan_keeps _ _ u) (by decide))) h2
  clear_value s3
  have e : s3.sys = s.sys := h3 .sys (by decide)
  refine moves_trans ?_ (moves_of_keeps (tethStart_keeps _) (by decide))
  refine moves_trans ?_ (moves_of_keeps (linksStart_keeps _) (by decide))
  exact moves_trans (moves_eq (by rw [e])) (moves_setDev (by rw [e, h]; rfl))

theorem imagePass2_moves (boot : BitVec 64) (s : State) (h : s.sys.st = .loading) : moves s (imagePass2 boot s) := by
  unfold imagePass2
  split
  · exact rejectReset_moves _ _ s
  · exact accept_moves boot s h

/-! Machine/StartUp.lean -/

theorem becomeReady_moves (s : State) (h : s.sys.st = .verifying) : moves s (becomeReady s) := by
  unfold becomeReady
  extract_lets s1 s2 s3
  refine moves_trans ?_ (moves_of_keeps (advicePins_keeps _) (by decide))
  refine moves_trans ?_ (moves_of_keeps (parEnter_keeps _) (by decide))
  refine moves_trans ?_ (moves_of_keeps (axesFollow_keeps _) (by decide))
  refine moves_trans ?_ (moves_of_keeps (mCfg_keeps _ _) (by decide))
  unfold moves
  rw [setDev_st, h]
  rfl

theorem paceOne_moves (n : Nat) (m : BitVec 16) (s : State) : moves s (paceOne n m s) := by
  unfold paceOne
  try dsimp only
  repeat' (first
    | with_reducible exact moves_refl _
    | (with_reducible show moves _ (mSys _ _); refine moves_trans ?_ (moves_mSys _ _ (fun _ => rfl)))
    | (with_reducible show moves _ (notice _ _ _); with_reducible refine moves_trans ?_ (moves_of_keeps (notice_keeps _ _ _) (by decide)))
    | (with_reducible show moves _ (faultErr _ _ _); with_reducible refine moves_trans ?_ (moves_of_keeps (faultErr_keeps _ _ _) (by decide)))
    | with_reducible refine moves_ite ?_ ?_
    | with_reducible refine moves_doIf (fun _ => ?_) ?_
    | with_reducible refine moves_each (fun _ _ => ?_) ?_
    | dsimp only [id]
    | split
    | exact moves_eq (by with_reducible rfl))

theorem paceAll_moves (measured : List Nat) (s : State) : moves s (paceAll measured s) := by
  unfold paceAll
  try dsimp only
  repeat' (first
    | with_reducible exact moves_refl _
    | (with_reducible show moves _ (advicePins _); with_reducible refine moves_trans ?_ (moves_of_keeps (advicePins_keeps _) (by decide)))
    | (with_reducible show moves _ (paceOne _ _ _); with_reducible refine moves_trans ?_ (paceOne_moves _ _ _))
    | with_reducible refine moves_ite ?_ ?_
    | with_reducible refine moves_doIf (fun _ => ?_) ?_
    | with_reducible refine moves_each (fun _ _ => ?_) ?_
    | dsimp only [id]
    | split
    | exact moves_eq (by with_reducible rfl))

/-! Machine/Waypost.lean -/

theorem tapReset_moves (s : State) : moves s (tapReset s) := by
  unfold tapReset
  try dsimp only
  repeat' (first
    | with_reducible exact moves_refl _
    | (with_reducible show moves _ (placeFragments _); with_reducible refine moves_trans ?_ (placeFragments_moves _))
    | with_reducible refine moves_ite ?_ ?_
    | with_reducible refine moves_doIf (fun _ => ?_) ?_
    | with_reducible refine moves_each (fun _ _ => ?_) ?_
    | dsimp only [id]
    | split
    | exact moves_eq (by with_reducible rfl))

theorem wpReadReg_moves (a : Word) (s : State) : moves s (wpReadReg a s) := by
  unfold wpReadReg
  try dsimp only
  repeat' (first
    | with_reducible exact moves_refl _
    | (with_reducible show moves _ (wpEnd _ _ _); with_reducible refine moves_trans ?_ (moves_of_keeps (wpEnd_keeps _ _ _) (by decide)))
    | (with_reducible show moves _ (masterRead _ _ _).2.1; with_reducible refine moves_trans ?_ (masterRead_moves _ _ _))
    | with_reducible refine moves_ite ?_ ?_
    | with_reducible refine moves_doIf (fun _ => ?_) ?_
    | with_reducible refine moves_each (fun _ _ => ?_) ?_
    | dsimp only [id]
    | split
    | exact moves_eq (by with_reducible rfl))

theorem wpRead_moves (space : Nat) (a : Word) (e : List Flip) (s : State) : moves s (wpRead space a e s) := by
  unfold wpRead
  try dsimp only
  repeat' (first
    | with_reducible exact moves_refl _
    | (with_reducible show moves _ (wpDone _ _); with_reducible refine moves_trans ?_ (moves_of_keeps (wpDone_keeps _ _) (by decide)))
    | (with_reducible show moves _ (wpReadReg _ _); with_reducible refine moves_trans ?_ (wpReadReg_moves _ _))
    | (with_reducible show moves _ (wpReadBank _ _ _ _); with_reducible refine moves_trans ?_ (moves_of_keeps (wpReadBank_keeps _ _ _ _) (by decide)))
    | (with_reducible show moves _ (wpReadRaw _ _ _ _); with_reducible refine moves_trans ?_ (moves_of_keeps (wpReadRaw_keeps _ _ _ _) (by decide)))
    | (with_reducible show moves _ (wpUnit _ _ _ _); with_reducible refine moves_trans ?_ (moves_of_keeps (wpUnit_keeps _ _ _ _) (by decide)))
    | with_reducible refine moves_ite ?_ ?_
    | with_reducible refine moves_doIf (fun _ => ?_) ?_
    | with_reducible refine moves_each (fun _ _ => ?_) ?_
    | dsimp only [id]
    | split
    | exact moves_eq (by with_reducible rfl))

theorem wpWriteReg_moves (a v : Word) (s : State) : moves s (wpWriteReg a v s) := by
  unfold wpWriteReg
  try dsimp only
  repeat' (first
    | with_reducible exact moves_refl _
    | (with_reducible show moves _ (masterWrite _ _ _ _).1; with_reducible refine moves_trans ?_ (masterWrite_moves _ _ _ _))
    | (with_reducible show moves _ (wpDone _ _); with_reducible refine moves_trans ?_ (moves_of_keeps (wpDone_keeps _ _) (by decide)))
    | with_reducible refine moves_ite ?_ ?_
    | with_reducible refine moves_doIf (fun _ => ?_) ?_
    | with_reducible refine moves_each (fun _ _ => ?_) ?_
    | dsimp only [id]
    | split
    | exact moves_eq (by with_reducible rfl))

theorem wpWrite_moves (space : Nat) (a v : Word) (e : List Flip) (s : State) : moves s (wpWrite space a v e s) := by
  unfold wpWrite
  try dsimp only
  repeat' (first
    | with_reducible exact moves_refl _
    | (with_reducible show moves _ (wpDone _ _); with_reducible refine moves_trans ?_ (moves_of_keeps (wpDone_keeps _ _) (by decide)))
    | (with_reducible show moves _ (wpWriteReg _ _ _); with_reducible refine moves_trans ?_ (wpWriteReg_moves _ _ _))
    | (with_reducible show moves _ (wpRefuse _); with_reducible refine moves_trans ?_ (moves_of_keeps (wpRefuse_keeps _) (by decide)))
    | (with_reducible show moves _ (notice _ _ _); with_reducible refine moves_trans ?_ (moves_of_keeps (notice_keeps _ _ _) (by decide)))
    | (with_reducible show moves _ (wpWriteBank _ _ _ _ _); with_reducible refine moves_trans ?_ (moves_of_keeps (wpWriteBank_keeps _ _ _ _ _) (by decide)))
    | (with_reducible show moves _ (wpUnit _ _ _ _); with_reducible refine moves_trans ?_ (moves_of_keeps (wpUnit_keeps _ _ _ _) (by decide)))
    | with_reducible refine moves_ite ?_ ?_
    | with_reducible refine moves_doIf (fun _ => ?_) ?_
    | with_reducible refine moves_each (fun _ _ => ?_) ?_
    | dsimp only [id]
    | split
    | exact moves_eq (by with_reducible rfl))

theorem wpHalt_moves (s : State) : moves s (wpHalt s) := by
  unfold wpHalt
  try dsimp only
  repeat' (first
    | with_reducible exact moves_refl _
    | (with_reducible show moves _ (opHalt _ _); with_reducible refine moves_trans ?_ (opHalt_moves _ _))
    | (with_reducible show moves _ (wpDone _ _); with_reducible refine moves_trans ?_ (moves_of_keeps (wpDone_keeps _ _) (by decide)))
    | with_reducible refine moves_ite ?_ ?_
    | with_reducible refine moves_doIf (fun _ => ?_) ?_
    | with_reducible refine moves_each (fun _ _ => ?_) ?_
    | dsimp only [id]
    | split
    | exact moves_eq (by with_reducible rfl))

theorem wpResume_moves (s : State) : moves s (wpResume s) := by
  unfold wpResume
  extract_lets t
  have h : moves s t := moves_trans (moves_trans (moves_of_keeps (opUnhalt_keeps s) (by decide)) (placeFragments_moves _))
    (moves_of_keeps (creditWatch_keeps _) (by decide))
  clear_value t
  refine moves_trans ?_ (moves_of_keeps (wpDone_keeps _ _) (by decide))
  split
  · rename_i e; exact moves_trans h (opResume_moves t e)
  · exact h

theorem wpStep_moves (d : Word) (s : State) : moves s (wpStep d s) := by
  unfold wpStep
  try dsimp only
  repeat' (first
    | with_reducible exact moves_refl _
    | (with_reducible show moves _ (mDbg _ _); with_reducible refine moves_trans ?_ (moves_of_keeps (mDbg_keeps _ _) (by decide)))
    | (with_reducible show moves _ (placeFragments _); with_reducible refine moves_trans ?_ (placeFragments_moves _))
    | (with_reducible show moves _ (wpDone _ _); with_reducible refine moves_trans ?_ (moves_of_keeps (wpDone_keeps _ _) (by decide)))
    | (with_reducible show moves _ (wpRefuse _); with_reducible refine moves_trans ?_ (moves_of_keeps (wpRefuse_keeps _) (by decide)))
    | with_reducible refine moves_ite ?_ ?_
    | with_reducible refine moves_doIf (fun _ => ?_) ?_
    | with_reducible refine moves_each (fun _ _ => ?_) ?_
    | dsimp only [id]
    | split
    | exact moves_eq (by with_reducible rfl))

/-! Machine/Rmp.lean -/

theorem rmpReadWord_moves (space a : Nat) (s : State) : moves s (rmpReadWord space a s).2.2 := by
  unfold rmpReadWord
  try dsimp only
  repeat' (first
    | with_reducible exact moves_refl _
    | (with_reducible show moves _ (bankRefuse _ _); with_reducible refine moves_trans ?_ (moves_of_keeps (bankRefuse_keeps _ _) (by decide)))
    | (with_reducible show moves _ (bankGrant _ _ _); with_reducible refine moves_trans ?_ (moves_of_keeps (bankGrant_keeps _ _ _) (by decide)))
    | (with_reducible show moves _ (masterRead _ _ _).2.1; with_reducible refine moves_trans ?_ (masterRead_moves _ _ _))
    | with_reducible refine moves_ite ?_ ?_
    | with_reducible refine moves_doIf (fun _ => ?_) ?_
    | with_reducible refine moves_each (fun _ _ => ?_) ?_
    | dsimp only [id]
    | split
    | exact moves_eq (by with_reducible rfl))

theorem rmpReads_moves (space : Nat) : ∀ (n a : Nat) (s : State), moves s (rmpReads space n a s).2.2
  | 0, _, s => moves_refl s
  | n + 1, a, s => by
    unfold rmpReads
    dsimp only
    split
    · exact rmpReadWord_moves space a s
    · exact moves_trans (rmpReadWord_moves space a s) (rmpReads_moves space n _ _)

theorem rmpWrites_moves (space : Nat) : ∀ (k a : Nat) (d : Bytes) (n : Nat) (s : State), moves s (rmpWrites space k a d n s).2.2
  | 0, _, _, _, s => moves_refl s
  | k + 1, a, d, n, s => by
    unfold rmpWrites
    extract_lets v r0 r
    have h : moves s r.2 := by
      unfold r
      split
      · exact masterWrite_moves .rmp a v s
      · exact moves_of_keeps (rmpBankWrite_keeps _ a 1 _ s) (by decide)
    clear_value r
    split
    · exact h
    · exact moves_trans h (rmpWrites_moves space k _ _ _ _)

theorem rmpCommand_moves (code arg : Nat) (s : State) : moves s (rmpCommand code arg s).2 := by
  unfold rmpCommand
  try dsimp only
  repeat' (first
    | with_reducible exact moves_refl _
    | (with_reducible show moves _ (mMgt _ _); with_reducible refine moves_trans ?_ (moves_of_keeps (mMgt_keeps _ _) (by decide)))
    | (with_reducible show moves _ (ctlCommand _ _); with_reducible refine moves_trans ?_ (ctlCommand_moves _ _))
    | (with_reducible show moves _ (opYield _ _).2; with_reducible refine moves_trans ?_ (moves_of_keeps (opYield_keeps _ _) (by decide)))
    | with_reducible refine moves_ite ?_ ?_
    | with_reducible refine moves_doIf (fun _ => ?_) ?_
    | with_reducible refine moves_each (fun _ _ => ?_) ?_
    | dsimp only [id]
    | split
    | exact moves_eq (by with_reducible rfl))

theorem rmpExec_moves (ss : Session) (k : Key) (ty : Nat) (b : Bytes) (s : State) : moves s (rmpExec ss k ty b s).2.2 := by
  unfold rmpExec
  try dsimp only
  repeat' (first
    | with_reducible exact moves_refl _
    | (with_reducible show moves _ (opSubscribe _ _ _ _ _).2.2; with_reducible refine moves_trans ?_ (moves_of_keeps (opSubscribe_keeps _ _ _ _ _) (by decide)))
    | (with_reducible show moves _ (rmpBankWrite _ _ _ _ _).2; with_reducible refine moves_trans ?_ (moves_of_keeps (rmpBankWrite_keeps _ _ _ _ _) (by decide)))
    | (with_reducible show moves _ (rmpReads _ _ _ _).2.2; with_reducible refine moves_trans ?_ (rmpReads_moves _ _ _ _))
    | (with_reducible show moves _ (rmpWrites _ _ _ _ _ _).2.2; with_reducible refine moves_trans ?_ (rmpWrites_moves _ _ _ _ _ _))
    | (with_reducible show moves _ (rmpCommand _ _ _).2; with_reducible refine moves_trans ?_ (rmpCommand_moves _ _ _))
    | with_reducible refine moves_ite ?_ ?_
    | with_reducible refine moves_doIf (fun _ => ?_) ?_
    | with_reducible refine moves_each (fun _ _ => ?_) ?_
    | dsimp only [id]
    | split
    | exact moves_eq (by with_reducible rfl))

theorem rmpServe_moves (v : Via) (ss : Session) (k : Key) (d : Bytes) (s : State) : moves s (rmpServe v ss k d s) := by
  unfold rmpServe
  try dsimp only
  repeat' (first
    | with_reducible exact moves_refl _
    | (with_reducible show moves _ (rmpReply _ _ _ _ _ _ _ _ _); with_reducible refine moves_trans ?_ (moves_of_keeps (rmpReply_keeps _ _ _ _ _ _ _ _ _) (by decide)))
    | (with_reducible show moves _ (rmpExec _ _ _ _ _).2.2; with_reducible refine moves_trans ?_ (rmpExec_moves _ _ _ _ _))
    | (with_reducible show moves _ (mMgt _ _); with_reducible refine moves_trans ?_ (moves_of_keeps (mMgt_keeps _ _) (by decide)))
    | with_reducible refine moves_ite ?_ ?_
    | with_reducible refine moves_doIf (fun _ => ?_) ?_
    | with_reducible refine moves_each (fun _ _ => ?_) ?_
    | dsimp only [id]
    | split
    | exact moves_eq (by with_reducible rfl))

theorem rmpRx_moves (v : Via) (ss : Session) (d : Bytes) (s : State) : moves s (rmpRx v ss d s) := by
  unfold rmpRx
  try dsimp only
  repeat' (first
    | with_reducible exact moves_refl _
    | (with_reducible show moves _ (mMgt _ _); with_reducible refine moves_trans ?_ (moves_of_keeps (mMgt_keeps _ _) (by decide)))
    | (with_reducible show moves _ (raiseLim _ _ _ _ _ _); with_reducible refine moves_trans ?_ (moves_of_keeps (raiseLim_keeps _ _ _ _ _ _) (by decide)))
    | (with_reducible show moves _ (rmpServe _ _ _ _ _); with_reducible refine moves_trans ?_ (rmpServe_moves _ _ _ _ _))
    | (with_reducible show moves _ (rmpReply _ _ _ _ _ _ _ _ _); with_reducible refine moves_trans ?_ (moves_of_keeps (rmpReply_keeps _ _ _ _ _ _ _ _ _) (by decide)))
    | (with_reducible show moves _ (sendOn _ _ _ _ _ _); with_reducible refine moves_trans ?_ (moves_of_keeps (sendOn_keeps _ _ _ _ _ _) (by decide)))
    | (with_reducible show moves _ (mWin _ _ _); with_reducible refine moves_trans ?_ (moves_of_keeps (mWin_keeps _ _ _) (by decide)))
    | with_reducible refine moves_ite ?_ ?_
    | with_reducible refine moves_doIf (fun _ => ?_) ?_
    | with_reducible refine moves_each (fun _ _ => ?_) ?_
    | dsimp only [id]
    | split
    | exact moves_eq (by with_reducible rfl))

theorem rmpRun_moves (rx : Arrival) (ss : Session) (d : Bytes) (s : State) : moves s (rmpRun rx ss d s) := by
  unfold rmpRun
  try dsimp only
  repeat' (first
    | with_reducible exact moves_refl _
    | (with_reducible show moves _ (rxFrame _ _ _); with_reducible refine moves_trans ?_ (rxFrame_moves (fun _ => ?_) _ _))
    | (with_reducible show moves _ (rmpRx _ _ _ _); with_reducible refine moves_trans ?_ (rmpRx_moves _ _ _ _))
    | with_reducible refine moves_ite ?_ ?_
    | with_reducible refine moves_doIf (fun _ => ?_) ?_
    | with_reducible refine moves_each (fun _ _ => ?_) ?_
    | dsimp only [id]
    | split
    | exact moves_eq (by with_reducible rfl))

/-! Machine/RegCmds.lean -/

theorem accWrite_moves (m : Master) (a : Nat) (v : Word) (s : State) : moves s (accWrite m a v s) := by
  unfold accWrite
  try dsimp only
  repeat' (first
    | with_reducible exact moves_refl _
    | (with_reducible show moves _ (emit _ _); with_reducible refine moves_trans ?_ (moves_of_keeps (emit_keeps _ _) (by decide)))
    | (with_reducible show moves _ (masterWrite _ _ _ _).1; with_reducible refine moves_trans ?_ (masterWrite_moves _ _ _ _))
    | (with_reducible show moves _ (rejectReset _ _ _); with_reducible refine moves_trans ?_ (rejectReset_moves _ _ _))
    | with_reducible refine moves_ite ?_ ?_
    | with_reducible refine moves_doIf (fun _ => ?_) ?_
    | with_reducible refine moves_each (fun _ _ => ?_) ?_
    | dsimp only [id]
    | split
    | exact moves_eq (by with_reducible rfl))

theorem accRead_moves (m : Master) (a : Nat) (s : State) : moves s (accRead m a s) := by
  unfold accRead
  try dsimp only
  repeat' (first
    | with_reducible exact moves_refl _
    | (with_reducible show moves _ (emit _ _); with_reducible refine moves_trans ?_ (moves_of_keeps (emit_keeps _ _) (by decide)))
    | (with_reducible show moves _ (masterRead _ _ _).2.1; with_reducible refine moves_trans ?_ (masterRead_moves _ _ _))
    | with_reducible refine moves_ite ?_ ?_
    | with_reducible refine moves_doIf (fun _ => ?_) ?_
    | with_reducible refine moves_each (fun _ _ => ?_) ?_
    | dsimp only [id]
    | split
    | exact moves_eq (by with_reducible rfl))

theorem towRx_moves {f : Via → State → State} (h_f : ∀ a0 u, moves u (f a0 u)) (rx : Arrival) (ss : Session) (s : State) : moves s (towRx rx ss f s) := by
  unfold towRx
  try dsimp only
  repeat' (first
    | with_reducible exact moves_refl _
    | (with_reducible show moves _ (rxFrame _ _ _); with_reducible refine moves_trans ?_ (rxFrame_moves (fun _ => ?_) _ _))
    | (with_reducible show moves _ (f _ _); with_reducible refine moves_trans ?_ (h_f _ _))
    | with_reducible refine moves_ite ?_ ?_
    | with_reducible refine moves_doIf (fun _ => ?_) ?_
    | with_reducible refine moves_each (fun _ _ => ?_) ?_
    | dsimp only [id]
    | split
    | exact moves_eq (by with_reducible rfl))

end Sys2Proof.Machine
end

