-- ==== Sys2Proof/Laws/Shape.lean ====
section
/-! SUPPORT. One equation per command: `exec` at each constructor is its meaning's body, an event, an operation always possible, or one
that its operands must spell. -/

namespace Sys2Proof.Machine

theorem exec_registerWrite (m : Master) (addr : Word) (v : Word) (s : State) : exec (.registerWrite m addr v) s =
    writeCmdAt "REGISTER_WRITE" m addr.toNat v s := rfl

theorem exec_supplyLow (x0 : Rail) (s : State) : exec (.supplyLow x0) s =
    always supplyLow s := rfl

theorem exec_resetAssert (s : State) : exec .resetAssert s =
    always (coldReset 1) s := rfl

theorem exec_resetRelease (bootSel : BitVec 2) (pairRole : Bool) (s : State) : exec (.resetRelease bootSel pairRole) s =
    event (decide (s.sys.st = .cold)) "RESET_RELEASE" (resetReleased bootSel pairRole) s := rfl

theorem exec_keepReset (s : State) : exec .keepReset s =
    always keepReset s := rfl

theorem exec_keepResetRelease (s : State) : exec .keepResetRelease s =
    event s.pos.keepReset "KEEP_RESET_RELEASE" (mPos (fun p => { p with keepReset := false })) s := rfl

theorem exec_imageHeaderRead (a : Bytes) (b : Bytes) (s : State) : exec (.imageHeaderRead a b) s =
    formed (decide (a.length = 64) && decide (b.length = 64)) "IMAGE_HEADER_READ"
    (event (decide (s.sys.st = .loading) && decide (s.cfg.pass = 0) && s.cfg.hdrs.isEmpty) "IMAGE_HEADER_READ" (imageHeaders a b) s) := rfl

theorem exec_imagePass1Done (img : Bytes) (s : State) : exec (.imagePass1Done img) s =
    event (decide (s.sys.st = .loading) && decide (s.cfg.pass = 1)
    && decide (img.length = leAt (slotHeader s (nth s.cfg.cands 0 0)) 16 4)) "IMAGE_PASS1_DONE" (imagePass1 img) s := rfl

theorem exec_imageRecordApply (rec : Bytes) (s : State) : exec (.imageRecordApply rec) s =
    event (decide (s.sys.st = .loading) && decide (s.cfg.pass = 2) && !s.cfg.recs.isEmpty) "IMAGE_RECORD_APPLY" (recordApply rec) s := rfl

theorem exec_imagePass2Done (boot : BitVec 64) (s : State) : exec (.imagePass2Done boot) s =
    formed (decide (boot ≠ 0)) "IMAGE_PASS2_DONE"
    (event (decide (s.sys.st = .loading) && decide (s.cfg.pass = 2) && s.cfg.recs.isEmpty) "IMAGE_PASS2_DONE" (imagePass2 boot) s) := rfl

theorem exec_readyCriteriaMet (s : State) : exec .readyCriteriaMet s =
    event (decide (s.sys.st = .verifying) && (unmetCrit s).isNone) "READY_CRITERIA_MET" becomeReady s := rfl

theorem exec_lanewaitExpire (s : State) : exec .lanewaitExpire s =
    event (decide (s.sys.st = .verifying) && !s.cfg.laneWait) "LANEWAIT_EXPIRE" lanewaitOver s := rfl

theorem exec_bootTimeout (s : State) : exec .bootTimeout s =
    event (decide (s.sys.st = .verifying) && (unmetCrit s).isSome) "BOOT_TIMEOUT"
    (fun s => match unmetCrit s with | some k => raise .fatal Err.bootTimeout [k] s | none => s) s := rfl

theorem exec_dramVerifyDone (res : List VerifyReads) (s : State) : exec (.dramVerifyDone res) s =
    formed (verifySpelled res) "DRAM_VERIFY_DONE"
      (event (decide (s.sys.st = .verifying) && !s.cfg.dramDone) "DRAM_VERIFY_DONE" (dramVerified res) s) := rfl

theorem exec_fireLock (s : State) : exec .fireLock s =
    event (decide (s.sys.st = .verifying) && !s.fir.lock) "FIRE_LOCK" (mFir (fun f => { f with lock := true })) s := rfl

theorem exec_fireUnlock (s : State) : exec .fireUnlock s =
    event s.fir.lock "FIRE_UNLOCK" (fun s =>
    doIf (operational s || decide (s.sys.st = .faulted)) (raise .fatal Err.fireUnlock []) (mFir (fun f => { f with lock := false }) s)) s := rfl

theorem exec_otpUnlock (m : Master) (v : Word) (s : State) : exec (.otpUnlock m v) s =
    writeCmdAt "OTP_UNLOCK" m (base 1 + 0x84) v s := rfl

theorem exec_otpProgram (m : Master) (slot : Fin 8) (s : State) : exec (.otpProgram m slot) s =
    writeCmdAt "OTP_PROGRAM" m (base 1 + 0x88) (w32 (2 ^ 30 + slot.val)) s := rfl

theorem exec_otpRevoke (m : Master) (slot : Fin 8) (s : State) : exec (.otpRevoke m slot) s =
    writeCmdAt "OTP_REVOKE" m (base 1 + 0x88) (w32 (2 ^ 31 + slot.val)) s := rfl

theorem exec_otpPin (m : Master) (s : State) : exec (.otpPin m) s =
    writeCmdAt "OTP_PIN" m (base 1 + 0x88) 0xC0000000 s := rfl

theorem exec_otpDone (s : State) : exec .otpDone s =
    event s.cfg.otpBusy "OTP_DONE" (mCfg (fun c => { c with otpBusy := false })) s := rfl

theorem exec_paceMeasure (measured : List Nat) (s : State) : exec (.paceMeasure measured) s =
    formed (decide (measured.length = 32) && measured.all (fun m => decide (0 < m))) "PACE_MEASURE"
      (event (awake s) "PACE_MEASURE" (paceAll measured) s) := rfl

theorem exec_paceClr (m : Master) (v : Word) (s : State) : exec (.paceClr m v) s =
    writeCmdAt "PACE_CLR" m 0x408 v s := rfl

theorem exec_knotImmediate (m : Master) (s : State) : exec (.knotImmediate m) s =
    writeCmdAt "KNOT_IMMEDIATE" m 0x100 0 s := rfl

theorem exec_knotMilestone (m : Master) (ms : Ms) (s : State) : exec (.knotMilestone m ms) s =
    writeCmdAt "KNOT_MILESTONE" m 0x100 (w32 (2 ^ 30 + ms.val)) s := rfl

theorem exec_knotRoadCount (m : Master) (s : State) : exec (.knotRoadCount m) s =
    writeCmdAt "KNOT_ROAD_COUNT" m 0x100 0x80000000 s := rfl

theorem exec_knotCancel (m : Master) (s : State) : exec (.knotCancel m) s =
    writeCmdAt "KNOT_CANCEL" m 0x100 0xC0000000 s := rfl

theorem exec_knotTake (s : State) : exec .knotTake s =
    event (decide (s.sys.st ≠ .cold) && decide (s.sys.st ≠ .loading) && (knotPlace s).isSome) "KNOT_TAKE"
    (fun s => match knotPlace s with | some p => takeKnot p s | none => s) s := rfl

theorem exec_strandMigrate (n : Seg) (s : State) : exec (.strandMigrate n) s =
    event (dataRuns s && (strand s n).migrating && mayMove n s) "STRAND_MIGRATE" (migrate n) s := rfl

theorem exec_geoCheck (m : Master) (v : Word) (s : State) : exec (.geoCheck m v) s =
    writeCmdAt "GEO_CHECK" m (base 14 + 0x108) v s := rfl

theorem exec_geoCheckDone (s : State) : exec .geoCheckDone s =
    event s.fir.chkBusy.isSome "GEO_CHECK_DONE" geoCheckEnd s := rfl

theorem exec_resDataAccess (m : Master) (acc : Access) (s : State) : exec (.resDataAccess m acc) s =
    dataCmdAt "RES_DATA_ACCESS" m (base 15 + 0x104) acc s := rfl

theorem exec_encoderEdge (ch : Enc) (a : Bool) (b : Bool) (fast : Bool) (more : Bool) (s : State) : exec (.encoderEdge ch a b fast more) s =
    always (encEdge ch a b fast more) s := rfl

theorem exec_wireDisagree (ch : Enc) (pair : EncPair) (s : State) : exec (.wireDisagree ch pair) s =
    always (fun s => if keepRuns s && !disagrees s ch (pairNo pair) then wireBad ch pair s else s) s := rfl

theorem exec_wireAgree (ch : Enc) (pair : EncPair) (s : State) : exec (.wireAgree ch pair) s =
    always (fun s => if disagrees s ch (pairNo pair) then wireGood ch pair s else s) s := rfl

theorem exec_encLost (cause : LostCause) (s : State) : exec (.encLost cause) s =
    event (lostCan s cause) "ENC_LOST" (fun s => raise .stop Err.encLost []
    (mEnc (printCh s) (fun e => { e with lostLogged := e.lostLogged ||| BitVec.ofNat 3 (2 ^ lostBit cause) }) s)) s := rfl

theorem exec_index (ch : Enc) (more : Bool) (s : State) : exec (.index ch more) s =
    always (zEdge ch more) s := rfl

theorem exec_indexArm (m : Master) (ch : Enc) (v : Word) (s : State) : exec (.indexArm m ch v) s =
    formed (bit v 29) "INDEX_ARM" (writeCmdAt "INDEX_ARM" m (posAddr ch 8) v s) := rfl

theorem exec_ssiFrameStart (ch : Enc) (dataHigh : Bool) (s : State) : exec (.ssiFrameStart ch dataHigh) s =
    event (keepRuns s && encEn s ch && encSsi s ch && !(enc s ch).ssiBusy) "SSI_FRAME_START" (fun s =>
      if dataHigh then mEnc ch (fun e => { e with ssiBusy := true, ssiX := e.x }) s else ssiDiscard ch s) s := rfl

theorem exec_ssiWord (ch : Enc) (w : Word) (parity : Bool) (s : State) : exec (.ssiWord ch w parity) s =
    event (keepRuns s && encEn s ch && encSsi s ch && (enc s ch).ssiBusy) "SSI_WORD" (ssiDone ch w parity) s := rfl

theorem exec_ssiReleaseTimeout (ch : Enc) (s : State) : exec (.ssiReleaseTimeout ch) s =
    event (keepRuns s && encEn s ch && encSsi s ch && (enc s ch).ssiBusy) "SSI_RELEASE_TIMEOUT"
      (fun s => ssiDiscard ch (mEnc ch (fun e => { e with ssiBusy := false }) s)) s := rfl

theorem exec_observerUpdate (ch : Enc) (s : State) : exec (.observerUpdate ch) s =
    event (keepRuns s) "OBSERVER_UPDATE"
    (fun s => let s := takeLive s; if encEn s ch && (enc s ch).started then obsUpdate ch s else s) s := rfl

theorem exec_ptSynthStep (ch : Enc) (s : State) : exec (.ptSynthStep ch) s =
    event (keepRuns s && decide (bits (posReg s ch 0x1C) 31 30 = 2) && decide (ptTarget s ch ≠ (enc s ch).ptOut)) "PT_SYNTH_STEP" (ptStep ch) s := rfl

theorem exec_posChannelConfig (m : Master) (ch : Enc) (v : Word) (s : State) : exec (.posChannelConfig m ch v) s =
    writeCmdAt "POS_CHANNEL_CONFIG" m (posAddr ch 0) v s := rfl

theorem exec_posSnapshot (m : Master) (ch : Enc) (s : State) : exec (.posSnapshot m ch) s =
    readCmdAt "POS_SNAPSHOT" m (posAddr ch 0x30) s := rfl

theorem exec_milestoneArm (m : Master) (ms : Ms) (v : Word) (s : State) : exec (.milestoneArm m ms v) s =
    formed (bit v 31) "MILESTONE_ARM" (writeCmdAt "MILESTONE_ARM" m (msAddr ms 0) v s) := rfl

theorem exec_milestoneDisarm (m : Master) (ms : Ms) (v : Word) (s : State) : exec (.milestoneDisarm m ms v) s =
    formed (!bit v 31) "MILESTONE_DISARM" (writeCmdAt "MILESTONE_DISARM" m (msAddr ms 0) v s) := rfl

theorem exec_milestoneCmpCommit (m : Master) (ms : Ms) (v : Word) (s : State) : exec (.milestoneCmpCommit m ms v) s =
    writeCmdAt "MILESTONE_CMP_COMMIT" m (msAddr ms 8) v s := rfl

theorem exec_milestoneCmpRead (m : Master) (ms : Ms) (s : State) : exec (.milestoneCmpRead m ms) s =
    readCmdAt "MILESTONE_CMP_READ" m (msAddr ms 4) s := rfl

theorem exec_milestoneHitRead (m : Master) (ms : Ms) (s : State) : exec (.milestoneHitRead m ms) s =
    readCmdAt "MILESTONE_HIT_READ" m (msAddr ms 0x10) s := rfl

theorem exec_milestoneFire (ms : Ms) (s : State) : exec (.milestoneFire ms) s =
    event (s.sys.knotDue.isNone && (match msNext s with | some x => x.1 == ms.val | none => false)) "MILESTONE_FIRE"
    (fun s => match msNext s with | some x => msFire x.1 x.2.1 x.2.2 s | none => s) s := rfl

theorem exec_msOutPulseEnd (out : PulseOut) (s : State) : exec (.msOutPulseEnd out) s =
    event (pulseOn s out) "MS_OUT_PULSE_END" (pulseSet out false) s := rfl

theorem exec_extSyncCapture (n : Fin 2) (rising : Bool) (s : State) : exec (.extSyncCapture n rising) s =
    always (syncEdge n rising) s := rfl

theorem exec_syncCaptureRead (m : Master) (n : Fin 2) (s : State) : exec (.syncCaptureRead m n) s =
    readCmdAt "SYNC_CAPTURE_READ" m (base 13 + 0x48 + 0x10 * n) s := rfl

theorem exec_positionSample (t : Nat) (s : State) : exec (.positionSample t) s =
    event (decide (s.sys.st ≠ .cold) && decide (s.sys.st ≠ .loading) && s.sys.knotDue.isNone
      && (match s.fir.lastSample with | some x => decide (x < t) | none => true)) "POSITION_SAMPLE"
      (fun s => posSample t (if keepRuns s then takeLive s else s)) s := rfl

theorem exec_strike (p : Port) (cmpPs : Int) (s : State) : exec (.strike p cmpPs) s =
    event (strikeNext s p).isSome "STRIKE" (strike p cmpPs) s := rfl

theorem exec_spoolDecodeLine (spool : Fin 64) (s : State) : exec (.spoolDecodeLine spool) s =
    event (decide (s.sys.st ≠ .faulted) && (spoolPick s spool).isSome) "SPOOL_DECODE_LINE" (spoolServe spool) s := rfl

theorem exec_strandFetchIssue (n : Seg) (s : State) : exec (.strandFetchIssue n) s =
    event (dataRuns s && fetchReady s n) "STRAND_FETCH_ISSUE" (fetchIssue n) s := rfl

theorem exec_strandFetchDone (n : Seg) (s : State) : exec (.strandFetchDone n) s =
    event (dataRuns s && stageOpen s 4 && (match (strand s n).reqs with | r :: _ => decide (r.left = 0) | [] => false)) "STRAND_FETCH_DONE"
      (fun s => match (strand s n).reqs with
        | r :: _ => stageTake 4 [r.tag] r.layer n none (fetchDone n) s
        | [] => s) s := rfl

theorem exec_spdAdvFrame (s : State) : exec .spdAdvFrame s =
    event (operational s && bit (regVal s (base 10 + 0xC)) 16 && drivesAdvice s) "SPD_ADV_FRAME" (fun s =>
      let w := advWord s
      emit (.spdAdv (advBits w)) (mStr (fun t => { t with advWord := w, advSeq := (t.advSeq + 1) % 4 }) s)) s := rfl

theorem exec_nozzleMapLine (s : State) : exec .nozzleMapLine s =
    event (stageOpen s 5 && decide (s.sys.st ≠ .faulted) && !s.fir.s5.isEmpty) "NOZZLE_MAP_LINE" mapNext s := rfl

theorem exec_detourLaneFree (src : BitVec 18) (tgt : BitVec 18) (s : State) : exec (.detourLaneFree src tgt) s =
    event (dataRuns s && laneFreeable s src.toNat tgt.toNat) "DETOUR_LANE_FREE"
      (mNzl (fun z => { z with lanes := z.lanes.filter (fun l => !(l.src == src.toNat && l.tgt == tgt.toNat && l.freeing.isSome)) })) s := rfl

theorem exec_staggerLine (n : Seg) (s : State) : exec (.staggerLine n) s =
    event (stageOpen s 6 && decide (s.sys.st ≠ .faulted)
    && (match staggerNext s n with | some (_, l) => l.mapped.isSome | none => false)) "STAGGER_LINE" (fun s =>
      match staggerNext s n with
      | some (t, l) => stageTake 6 [t.k, n] l.layer n (some t.lc) (staggerLine n t l) s
      | none => s) s := rfl

theorem exec_frameBuild (p : Port) (s : State) : exec (.frameBuild p) s =
    event (match buildNext s p with
      | some t => decide (t.mark = .null) || (decide (s.sys.st ≠ .faulted) && t.lines.all (fun l => l.staged.isSome) && stageOpen s 7)
      | none => false) "FRAME_BUILD" (fun s =>
    match buildNext s p with
    | some t => if t.mark = .null then frameBuild p t s else stageTake 7 [t.k, p] t.layer p (some t.lc) (frameBuild p t) s
    | none => s) s := rfl

theorem exec_lineFrameSend (p : Port) (late : Bool) (s : State) : exec (.lineFrameSend p late) s =
    event (!gateHolds s p && (match sendNext s p with | some (_, f) => f.null || (dataRuns s && stageOpen s 8) | none => false)) "LINE_FRAME_SEND" (fun s =>
      match sendNext s p with
      | some (t, f) => if f.null then frameSend p late t f s else stageTake 8 [t.k, p] t.layer p (some t.lc) (frameSend p late t f) s
      | none => s) s := rfl

theorem exec_towDrop (rx : Arrival) (ss : Session) (d : Bytes) (s : State) : exec (.towDrop rx ss d) s =
    spelled (rxUdp rx ss.v6 && decide (towDropCase d ≠ 0)) "TOW_DROP" (towRx rx ss (fun _ s =>
      let c := towDropCase d
      raiseLim .notice Err.towDrop (sessKey ss) (ms 1) [c, if c = 3 then 0 else towLayer d]
        (mTow (fun t => { t with cntDrop := t.cntDrop + 1 }) s))) s := rfl

theorem exec_towlineReservedType (rx : Arrival) (ss : Session) (d : Bytes) (s : State) : exec (.towlineReservedType rx ss d) s =
    spelled (rxUdp rx ss.v6 && towReserved d) "TOWLINE_RESERVED_TYPE" (towRx rx ss (fun np s =>
      match towHeaderBad d with
      | some o => sendNak (some np) ss (towLayer d) { reason := 2, detail := o } s
      | none => sendNak (some np) ss (towLayer d) { reason := 3, detail := byteAt d 3 } s)) s := rfl

theorem exec_layerAnnounce (rx : Arrival) (ss : Session) (d : Bytes) (s : State) : exec (.layerAnnounce rx ss d) s =
    spelled (rxUdp rx ss.v6 && towIs 1 d) "LAYER_ANNOUNCE" (towRx rx ss (towEntry ss d (fun np => announce np ss d))) s := rfl

theorem exec_blockData (rx : Arrival) (ss : Session) (d : Bytes) (s : State) : exec (.blockData rx ss d) s =
    spelled (rxUdp rx ss.v6 && towIs 2 d) "BLOCK_DATA" (towRx rx ss (towEntry ss d (fun np => towOwned np ss d (beAt d 16 4) goneUnknown (fragCheck np ss d)))) s := rfl

theorem exec_layerClose (rx : Arrival) (ss : Session) (d : Bytes) (s : State) : exec (.layerClose rx ss d) s =
    spelled (rxUdp rx ss.v6 && towIs 3 d) "LAYER_CLOSE" (towRx rx ss (towEntry ss d (fun np => towOwned np ss d 0xFFFFFFFF goneUnknown (closeMsg np d)))) s := rfl

theorem exec_layerRestart (rx : Arrival) (ss : Session) (d : Bytes) (s : State) : exec (.layerRestart rx ss d) s =
    spelled (rxUdp rx ss.v6 && towIs 4 d) "LAYER_RESTART" (towRx rx ss (towEntry ss d (fun np => towOwned np ss d 0xFFFFFFFF goneState (restartMsg np ss d)))) s := rfl

theorem exec_layerRelease (rx : Arrival) (ss : Session) (d : Bytes) (s : State) : exec (.layerRelease rx ss d) s =
    spelled (rxUdp rx ss.v6 && towIs 5 d) "LAYER_RELEASE" (towRx rx ss (towEntry ss d (fun np => releaseMsg np ss d))) s := rfl

theorem exec_statusReq (rx : Arrival) (ss : Session) (d : Bytes) (s : State) : exec (.statusReq rx ss d) s =
    spelled (rxUdp rx ss.v6 && towIs 6 d) "STATUS_REQ" (towRx rx ss (towEntry ss d (fun np => statusMsgReq np ss d))) s := rfl

theorem exec_ackTimer (layer : Word) (s : State) : exec (.ackTimer layer) s =
    event (match layerOf s layer.toNat with | some l => l.ackArmed | none => false) "ACK_TIMER"
    (fun s => match layerOf s layer.toNat with | some l => sendAck none l.sess l.id s | none => s) s := rfl

theorem exec_fragmentWritten (s : State) : exec .fragmentWritten s =
    event (dataRuns s && s.tow.unwritten.any (fun u => u.queued && decide (u.left = 0))) "FRAGMENT_WRITTEN" fragWritten s := rfl

theorem exec_compressorStart (s : State) : exec .compressorStart s =
    event (dataRuns s && (freeComp s).isSome && (match s.cmp.wait with | j :: _ => blockWritten s j | [] => false)) "COMPRESSOR_START" compStart s := rfl

theorem exec_chainDrain (c : Fin 2) (s : State) : exec (.chainDrain c) s =
    event (dataRuns s && (comp s c).job.isSome && !(comp s c).draining && chainAt s c .drain) "CHAIN_DRAIN" (chainDrain c) s := rfl

theorem exec_compressAbandon (c : Fin 2) (s : State) : exec (.compressAbandon c) s =
    event (dataRuns s && (comp s c).job.isSome && chainAt s c .full) "COMPRESS_ABANDON" (compRaw c) s := rfl

theorem exec_compressionComplete (c : Fin 2) (s : State) : exec (.compressionComplete c) s =
    event (dataRuns s && (comp s c).job.isSome && decide ((comp s c).left = 0) && ((comp s c).hdr || chainAt s c .raw))
      "COMPRESSION_COMPLETE" (compDone c) s := rfl

theorem exec_nozzleRequest (m : Master) (v : Word) (s : State) : exec (.nozzleRequest m v) s =
    writeCmdAt "NOZZLE_REQUEST" m (base 16 + 0x54) v s := rfl

theorem exec_nozzleSwap (s : State) : exec .nozzleSwap s =
    event (dataRuns s && (nzDue s).isSome) "NOZZLE_SWAP" (fun s => match nzDue s with | some c => nzSwapDue c s | none => s) s := rfl

theorem exec_journalReadLo (m : Master) (s : State) : exec (.journalReadLo m) s =
    readCmdAt "JOURNAL_READ_LO" m (base 16 + 0x80) s := rfl

theorem exec_journalReadHi (m : Master) (s : State) : exec (.journalReadHi m) s =
    readCmdAt "JOURNAL_READ_HI" m (base 16 + 0x84) s := rfl

theorem exec_gateStart (m : Master) (g : Gate) (s : State) : exec (.gateStart m g) s =
    writeCmdAt "GATE_START" m (gatAddr g 0x28) 1 s := rfl

theorem exec_gateAbortCmd (m : Master) (g : Gate) (s : State) : exec (.gateAbortCmd m g) s =
    writeCmdAt "GATE_ABORT_CMD" m (gatAddr g 0x28) 2 s := rfl

theorem exec_gateSweepBegin (g : Gate) (s : State) : exec (.gateSweepBegin g) s =
    event ((gate s g).busy && (gate s g).waitGrid && !gateGridOpen s g) "GATE_SWEEP_BEGIN" (gateBegin g) s := rfl

theorem exec_gateTestStrike (g : Gate) (s : State) : exec (.gateTestStrike g) s =
    event (match (gate s g).slot with | some k => k.tested && decide (k.strikes < gateDrops s g) | none => false) "GATE_TEST_STRIKE"
    (gateStrike g) s := rfl

theorem exec_gateEdge (g : Gate) (t : Nat) (s : State) : exec (.gateEdge g t) s =
    always (fun s => gateSeen s g t) s := rfl

theorem exec_gateSlotResult (g : Gate) (noise : Bool) (s : State) : exec (.gateSlotResult g noise) s =
    event (match (gate s g).slot with | some k => !k.tested || decide (k.strikes = gateDrops s g) | none => false) "GATE_SLOT_RESULT"
    (gateSlotEnd g noise) s := rfl

theorem exec_linkAttempt (lane : RxLane) (s : State) : exec (.linkAttempt lane) s =
    event (awake s && laneWaits s lane) "LINK_ATTEMPT" (fun s => match lane with
      | .head p =>
        let blind := bit (gulCtl s p) 30
        laneSend p (if blind then trainSet s p false else fastExit s p)
          (mHead p (fun h => { h with waiting := false, st := if blind then .poll else .detect }) s)
      | .tether l => laneSend (64 + l) (fastExit s (64 + l)) (mTeth l (fun t => { t with waiting := false }) s)) s := rfl

theorem exec_linkSignalDetect (lane : RxLane) (s : State) : exec (.linkSignalDetect lane) s =
    event (laneListens s lane) "LINK_SIGNAL_DETECT" (fun s => match lane with
      | .head p => laneSend p (trainSet s p false) (mHead p (fun h => { h with st := .poll }) s)
      | .tether l => tethTrain l false (mTeth l (fun t => { t with st := .poll }) s)) s := rfl

theorem exec_linkPollDone (lane : RxLane) (seen : PollSeen) (s : State) : exec (.linkPollDone lane seen) s =
    event (decide (laneState s lane = .poll) && pollMet s lane seen) "LINK_POLL_DONE" (fun s => match lane with
      | .head p => laneSend p (trainSet s p true) (mHead p (fun h => { h with st := .lock, rxInv := seen.inverted, scr := 0xFFFF }) s)
      | .tether l => tethTrain l true (mTeth l (fun t => { t with st := .lock, rxInv := seen.inverted, scr := 0xFFFF }) s)) s := rfl

theorem exec_linkLockDone (lane : RxLane) (seen : LockSeen) (s : State) : exec (.linkLockDone lane seen) s =
    event (decide (laneState s lane = .lock) && lockMet seen) "LINK_LOCK_DONE" (fun s => match lane with
      | .head p => cfgSend p ⟨0, false, 0, 16, [], 0, false⟩
          (mHead p (fun h => { h with st := .exchange, step := 1, txSeq := 0, rxSeq := 0, recheck := false, frozen := false }) s)
      | .tether l => tethTrained l seen.skew s) s := rfl

theorem exec_linkTimeout (lane : RxLane) (s : State) : exec (.linkTimeout lane) s =
    event (match laneState s lane with
    | .detect => !laneWaits s lane
    | .poll => true
    | .lock => true
    | .exchange => true
    | _ => false) "LINK_TIMEOUT" (fun s => match lane with
    | .head p => linkFail p (timeoutReason (headPort s p).st) s
    | .tether l => tethFail l s) s := rfl

theorem exec_linkIdleDetect (lane : RxLane) (s : State) : exec (.linkIdleDetect lane) s =
    always (fun s => match lane, laneState s lane with
    | .head p, .active => portLoss p 7 s
    | .head p, .poll => linkFail p 6 s
    | .head p, .lock => linkFail p 6 s
    | .head p, .exchange => linkFail p 6 s
    | .tether l, .poll => tethFail l s
    | .tether l, .lock => tethFail l s
    | _, _ => s) s := rfl

theorem exec_gulistAck (p : Port) (f : Bytes) (s : State) : exec (.gulistAck p f) s =
    spelled (gulIs 6 f) "GULIST_ACK" (gulAck p f) s := rfl

theorem exec_gulistStatusRx (p : Port) (f : Bytes) (s : State) : exec (.gulistStatusRx p f) s =
    spelled (gulIs 4 f) "GULIST_STATUS_RX" (gulStatus p f) s := rfl

theorem exec_statusTimeout (p : Port) (s : State) : exec (.statusTimeout p) s =
    event (decide ((headPort s p).st = .active)) "STATUS_TIMEOUT" (portLoss p 7) s := rfl

theorem exec_gulistSense (p : Port) (f : Bytes) (s : State) : exec (.gulistSense p f) s =
    spelled (gulIs 5 f) "GULIST_SENSE" (gulSense p f) s := rfl

theorem exec_gulistFrameDiscard (p : Port) (flaws : RxFlaws) (f : Bytes) (s : State) : exec (.gulistFrameDiscard p flaws f) s =
    spelled (decide (discStatic flaws f ≠ 0) || byteAt f 0 == 6) "GULIST_FRAME_DISCARD" (fun s =>
      let r := discStatic flaws f
      let s := gulErrs p flaws.errs s
      if !linkUp s p then s else if r ≠ 0 then gulDiscard p r s else gulAck p f s) s := rfl

theorem exec_cfgTimeout (p : Port) (s : State) : exec (.cfgTimeout p) s =
    event ((headPort s p).cfg.isSome && !(headPort s p).cfgDue) "CFG_TIMEOUT" (cfgExpire p) s := rfl

theorem exec_statusSend (s : State) : exec .statusSend s =
    always (fun s => each (fun p s =>
      if (headPort s p).st = .active then gulDrain p (mHead p (fun h => { h with statDue := true }) s) else s) (List.range 64) s) s := rfl

theorem exec_alignSend (lane : RxLane) (s : State) : exec (.alignSend lane) s =
    event (laneUp s lane) "ALIGN_SEND" (fun s => match lane with
      | .head p => laneSend p (alignSet (headPort s p).scr) (mHead p (fun h => { h with scr := (scrBytes 6 h.scr).2 }) s)
      | .tether l => laneSend (64 + l) (alignSet (teth s l).scr) (mTeth l (fun t => { t with scr := (scrBytes 6 t.scr).2 }) s)) s := rfl

theorem exec_alignMissing (p : Port) (s : State) : exec (.alignMissing p) s =
    event (decide ((headPort s p).st = .active)) "ALIGN_MISSING" (fun s =>
    if (headPort s p).alignLogged then s
    else raiseLim .notice Err.alignMissing p (ms 1) [] (mHead p (fun h => { h with alignLogged := true }) s)) s := rfl

theorem exec_adaptFreeze (lane : RxLane) (s : State) : exec (.adaptFreeze lane) s =
    event (laneUp s lane) "ADAPT_FREEZE" (fun s => match lane with
    | .head p => mHead p (fun h => { h with frozen := true }) s
    | .tether l => mTeth l (fun t => { t with frozen := true }) s) s := rfl

theorem exec_gulRetrain (m : Master) (p : Port) (v : Word) (s : State) : exec (.gulRetrain m p v) s =
    formed (bit v 1) "GUL_RETRAIN" (writeCmdAt "GUL_RETRAIN" m (gulAddr p 0x34) v s) := rfl

theorem exec_gulPortClr (m : Master) (p : Port) (v : Word) (s : State) : exec (.gulPortClr m p v) s =
    formed (!bit v 1) "GUL_PORT_CLR" (writeCmdAt "GUL_PORT_CLR" m (gulAddr p 0x34) v s) := rfl

theorem exec_hostCfgAccess (m : Master) (v : Word) (s : State) : exec (.hostCfgAccess m v) s =
    writeCmdAt "HOST_CFG_ACCESS" m (base 18 + 0x18) v s := rfl

theorem exec_eyeScanStart (m : Master) (v : Word) (s : State) : exec (.eyeScanStart m v) s =
    writeCmdAt "EYE_SCAN_START" m (base 18 + 0x44) v s := rfl

theorem exec_eyeScanDone (mismatches : Nat) (s : State) : exec (.eyeScanDone mismatches) s =
    event s.gul.eyePort.isSome "EYE_SCAN_DONE"
    (mGul (fun g => { g with eyePort := none, eyeErrs := min mismatches 0xFFFFFFFF, eyeBits := 2 ^ g.eyeDwell / 1024 })) s := rfl

theorem exec_camFrameStart (c : Ctx) (csifn : BitVec 16) (s : State) : exec (.camFrameStart c csifn) s =
    event s.sys.knotDue.isNone "CAM_FRAME_START" (camPacket c (fun s => if ctxEn s c then frameOpen c csifn.toNat s else camIgnore (c.val / 2) s)) s := rfl

theorem exec_camFrameEnd (c : Ctx) (s : State) : exec (.camFrameEnd c) s =
    always (camPacket c (fun s => if (openFrame s c).isSome then frameClose c s else camNotice Err.camSync c s)) s := rfl

theorem exec_camLineRx (c : Ctx) (pkt : BitVec 6 × Bytes) (crc : BitVec 16) (s : State) : exec (.camLineRx c pkt crc) s =
    spelled (lineType pkt.1.toNat) "CAM_LINE_RX" (camPacket c (camLine c pkt.1.toNat pkt.2 (crc16 pkt.2 == crc))) s := rfl

theorem exec_camPacketIgnored (port : Fin 4) (why : CamIgnored) (s : State) : exec (.camPacketIgnored port why) s =
    spelled (camIgnorable why) "CAM_PACKET_IGNORED" (fun s => if !camRuns s || !camPortEn s port then s else camOther port why s) s := rfl

theorem exec_stripeProcess (s : State) : exec .stripeProcess s =
    event (camRuns s && (stripeNext s).isSome) "STRIPE_PROCESS" (fun s => match stripeNext s with | some x => stripeTake x s | none => s) s := rfl

theorem exec_recordWrite (c : Ctx) (s : State) : exec (.recordWrite c) s =
    event (camRuns s && (match frameReady s c with | some f => !streakRuns f || f.streakDone | none => false)) "RECORD_WRITE"
    (fun s => match frameReady s c with | some f => recordPut c f s | none => s) s := rfl

theorem exec_streakDetect (c : Ctx) (s : State) : exec (.streakDetect c) s =
    event (camRuns s && (match frameReady s c with | some f => streakRuns f && !f.streakDone | none => false)) "STREAK_DETECT"
    (fun s => match frameReady s c with | some f => streakRun c f s | none => s) s := rfl

theorem exec_recordRelease (m : Master) (c : Ctx) (v : Word) (s : State) : exec (.recordRelease m c v) s =
    writeCmdAt "RECORD_RELEASE" m (base 21 + 0x1010 + 0x40 * c) v s := rfl

theorem exec_dramIssue (ch : Chan) (cmdBad : Bool) (s : State) : exec (.dramIssue ch cmdBad) s =
    event (dramCan s ch) "DRAM_ISSUE" (fun s => match chanNext s ch with
    | .unit u =>
      let o := tagOwner s u.tag
      stageTake 3 [ch.val, u.ca, u.tag] o.1 o.2 none (dramIssue ch cmdBad) s
    | _ => dramIssue ch cmdBad s) s := rfl

theorem exec_dramReadReturn (ch : Chan) (e : List Flip) (s : State) : exec (.dramReadReturn ch e) s =
    event (!(chan s ch).inflight.isEmpty) "DRAM_READ_RETURN" (dramReturn ch e) s := rfl

theorem exec_refreshDue (ch : Chan) (s : State) : exec (.refreshDue ch) s =
    event (chanOnline s ch) "REFRESH_DUE" (refreshFalls ch) s := rfl

theorem exec_memVerifyCmd (m : Master) (v : Word) (s : State) : exec (.memVerifyCmd m v) s =
    writeCmdAt "MEM_VERIFY_CMD" m (base 7 + 0xC) v s := rfl

theorem exec_verifySlice (ch : Chan) (got0 : Bytes) (got1 : Bytes) (s : State) : exec (.verifySlice ch got0 got1) s =
    event (chanOnline s ch && !s.mem.frozen && ((chan s ch).ver.isSome ||
        ((chan s ch).verWant && s.mem.chans.toList.all (fun c => c.ver.isNone)))) "VERIFY_SLICE" (verifyStep ch got0 got1) s := rfl

theorem exec_bankRead (b : Bank) (r : Fin 4) (off : Nat) (len : Nat) (e : List Flip) (s : State) : exec (.bankRead b r off len e) s =
    spelled (decide (r.val < bankReqs b) && decide (1 ≤ len) && decide (len ≤ 32)) "BANK_READ"
      (bankOp b r off len 1 e (fun s => bankAnswer b r (some (bankBytes s b off len)) s)) s := rfl

theorem exec_bankWrite (b : Bank) (r : Fin 4) (off : Nat) (data : Bytes) (e : List Flip) (s : State) : exec (.bankWrite b r off data e) s =
    spelled (decide (r.val < bankReqs b) && decide (1 ≤ data.length) && decide (data.length ≤ 32)) "BANK_WRITE"
      (bankOp b r off data.length 1 e (bankStore b r off data [])) s := rfl

theorem exec_bankAdd (b : Bank) (r : Fin 4) (off : Nat) (v : Word) (e : List Flip) (s : State) : exec (.bankAdd b r off v e) s =
    spelled (decide (r.val < bankReqs b)) "BANK_ADD"
      (bankOp b r off 4 4 e (fun s => bankStore b r off (bankSum s b off false v.toNat) [] s)) s := rfl

theorem exec_bankAddSat (b : Bank) (r : Fin 4) (off : Nat) (v : Word) (e : List Flip) (s : State) : exec (.bankAddSat b r off v e) s =
    spelled (decide (r.val < bankReqs b)) "BANK_ADD_SAT"
      (bankOp b r off 4 4 e (fun s => bankStore b r off (bankSum s b off true v.toNat) [] s)) s := rfl

theorem exec_bankSwap (b : Bank) (r : Fin 4) (off : Nat) (v : BitVec 64) (e : List Flip) (s : State) : exec (.bankSwap b r off v e) s =
    spelled (decide (r.val < bankReqs b)) "BANK_SWAP"
      (bankOp b r off 8 8 e (fun s => bankStore b r off (leBytes 8 v.toNat) (bankBytes s b off 8) s)) s := rfl

theorem exec_arbRound (inst : Fin 12) (reqs : BitVec 4) (s : State) : exec (.arbRound inst reqs) s =
    event ((List.range 8).any (roundReqs s inst reqs) && roundOpen s inst reqs) "ARB_ROUND"
      (fun s => if inst.val < 4 then dramRound inst s else lineRound inst (roundReqs s inst reqs) s) s := rfl

theorem exec_axisProfileUpdate (a : Axis) (s : State) : exec (.axisProfileUpdate a) s =
    event (axesRun s) "AXIS_PROFILE_UPDATE" (profileUpdate a) s := rfl

theorem exec_microstep (a : Axis) (s : State) : exec (.microstep a) s =
    event (axesRun s && decide ((axis s a).pos ≠ (axis s a).goal)) "MICROSTEP" (microStep a) s := rfl

theorem exec_chopperPhase (a : Axis) (phB : Bool) (dur : Nat) (sense : Nat) (mid : Nat) (s : State) : exec (.chopperPhase a phB dur sense mid) s =
    event (axDrives s a && decide ((phaseOf (axis s a) phB).drive ≠ 0) && chopCan s a phB dur sense) "CHOPPER_PHASE" (chopEnd a phB dur mid) s := rfl

theorem exec_overcurrent (a : Axis) (s : State) : exec (.overcurrent a) s =
    event (decide (8 ≤ (axis s a).phA.shorts) || decide (8 ≤ (axis s a).phB.shorts)) "OVERCURRENT" (overcurrentTake a) s := rfl

theorem exec_hardLimit (a : Axis) (hi : Bool) (s : State) : exec (.hardLimit a hi) s =
    always (hardLimitTake a hi) s := rfl

theorem exec_axisHoldCurrent (a : Axis) (s : State) : exec (.axisHoldCurrent a) s =
    event (decide ((axis s a).v = 0) && !(axis s a).holdCur) "AXIS_HOLD_CURRENT" (mAxs a (fun k => { k with holdCur := true })) s := rfl

theorem exec_axisStandstill (a : Axis) (s : State) : exec (.axisStandstill a) s =
    event (decide ((axis s a).v = 0) && (axis s a).posValid && decide ((axis s a).mode ≠ 2) && !(axis s a).standstill) "AXIS_STANDSTILL"
    (mAxs a (fun k => { k with standstill := true })) s := rfl

theorem exec_axisTargetWrite (m : Master) (a : Axis) (v : Word) (s : State) : exec (.axisTargetWrite m a v) s =
    writeCmdAt "AXIS_TARGET_WRITE" m (axsAddr a 0x24) v s := rfl

theorem exec_axisVtargetWrite (m : Master) (a : Axis) (v : Word) (s : State) : exec (.axisVtargetWrite m a v) s =
    writeCmdAt "AXIS_VTARGET_WRITE" m (axsAddr a 0x28) v s := rfl

theorem exec_axisModeWrite (m : Master) (a : Axis) (v : Word) (s : State) : exec (.axisModeWrite m a v) s =
    writeCmdAt "AXIS_MODE_WRITE" m (axsAddr a 0x2C) v s := rfl

theorem exec_axisSetpos (m : Master) (a : Axis) (v : Word) (s : State) : exec (.axisSetpos m a v) s =
    writeCmdAt "AXIS_SETPOS" m (axsAddr a 0x54) v s := rfl

theorem exec_axisGearSchedule (m : Master) (a : Axis) (v : Word) (s : State) : exec (.axisGearSchedule m a v) s =
    writeCmdAt "AXIS_GEAR_SCHEDULE" m (axsAddr a 0x44) v s := rfl

theorem exec_axisTableAccess (m : Master) (acc : Access) (s : State) : exec (.axisTableAccess m acc) s =
    dataCmdAt "AXIS_TABLE_ACCESS" m (base 22 + 4) acc s := rfl

theorem exec_scanFrameStart (s : State) : exec .scanFrameStart s =
    event (operational s) "SCAN_FRAME_START" scanStart s := rfl

theorem exec_lampSwapRequest (m : Master) (v : Word) (s : State) : exec (.lampSwapRequest m v) s =
    writeCmdAt "LAMP_SWAP_REQUEST" m (base 23 + 8) v s := rfl

theorem exec_lbusFrameEcho (chain : Fin 2) (ret : Option (Nat × Bytes)) (s : State) : exec (.lbusFrameEcho chain ret) s =
    event ((lbChain s chain).sent && operational s) "LBUS_FRAME_ECHO" (lbusEcho chain ret) s := rfl

theorem exec_lbusCfgWrite (m : Master) (chain : Fin 2) (v : Word) (s : State) : exec (.lbusCfgWrite m chain v) s =
    writeCmdAt "LBUS_CFG_WRITE" m (base 23 + 0x210 + 0x20 * chain) v s := rfl

theorem exec_lampZoneAccess (m : Master) (acc : Access) (s : State) : exec (.lampZoneAccess m acc) s =
    dataCmdAt "LAMP_ZONE_ACCESS" m (base 23 + 0x14) acc s := rfl

theorem exec_lampUtblAccess (m : Master) (acc : Access) (s : State) : exec (.lampUtblAccess m acc) s =
    dataCmdAt "LAMP_UTBL_ACCESS" m (base 23 + 0x104) acc s := rfl

theorem exec_netLinkUp (np : NetPort) (s : State) : exec (.netLinkUp np) s =
    event (awake s && netEnabled s np && !(netPort s np).up) "NET_LINK_UP" (portUp np) s := rfl

theorem exec_netLinkDown (np : NetPort) (s : State) : exec (.netLinkDown np) s =
    event (netPort s np).up "NET_LINK_DOWN" (portDown np) s := rfl

theorem exec_netFrameDiscard (np : NetPort) (fr : Frame) (s : State) : exec (.netFrameDiscard np fr) s =
    event (frameBad s np fr).isSome "NET_FRAME_DISCARD" (rxFrame ⟨np, fr⟩ id) s := rfl

theorem exec_arpRequest (rx : Arrival) (q : NeighMsg) (s : State) : exec (.arpRequest rx q) s =
    spelled (rxNeigh rx q.v6) "ARP_REQUEST" (rxFrame rx (neighMsg (backTo rx) q)) s := rfl

theorem exec_arpRetry (np : NetPort) (s : State) : exec (.arpRetry np) s =
    event (!(netPort s np).resolving.isEmpty) "ARP_RETRY" (neighRetry np) s := rfl

theorem exec_arpExpire (np : NetPort) (ip : BitVec 128) (s : State) : exec (.arpExpire np ip) s =
    event ((netPort s np).cache.any (fun n => n.ip == ip)) "ARP_EXPIRE"
    (mNet np (fun p => { p with cache := p.cache.filter (fun n => n.ip != ip) })) s := rfl

theorem exec_icmpEcho (rx : Arrival) (v6 : Bool) (srcIp : BitVec 128) (srcMac : BitVec 48) (body : Bytes) (s : State) : exec (.icmpEcho rx v6 srcIp srcMac body) s =
    spelled (rxIcmp rx v6 srcMac) "ICMP_ECHO" (rxFrame rx (fun s =>
      doIf (ownAddr (netIdPort s rx.port) v6 rx.frame.ip) (echoReply (backTo rx) v6 srcIp body) s)) s := rfl

theorem exec_ptpAnnounce (rx : Arrival) (tr : PtpTransport) (d : Bytes) (s : State) : exec (.ptpAnnounce rx tr d) s =
    spelled (ptpArrival rx tr 11 d) "PTP_ANNOUNCE" (ptpRx rx tr d) s := rfl

theorem exec_ptpSync (rx : Arrival) (tr : PtpTransport) (d : Bytes) (s : State) : exec (.ptpSync rx tr d) s =
    spelled (ptpArrival rx tr 0 d) "PTP_SYNC" (ptpRx rx tr d) s := rfl

theorem exec_ptpFollowUp (rx : Arrival) (tr : PtpTransport) (d : Bytes) (s : State) : exec (.ptpFollowUp rx tr d) s =
    spelled (ptpArrival rx tr 8 d) "PTP_FOLLOW_UP" (ptpRx rx tr d) s := rfl

theorem exec_ptpDelayResp (rx : Arrival) (tr : PtpTransport) (d : Bytes) (s : State) : exec (.ptpDelayResp rx tr d) s =
    spelled (ptpArrival rx tr 9 d) "PTP_DELAY_RESP" (ptpRx rx tr d) s := rfl

theorem exec_ptpPdelayReq (rx : Arrival) (tr : PtpTransport) (d : Bytes) (s : State) : exec (.ptpPdelayReq rx tr d) s =
    spelled (ptpArrival rx tr 2 d) "PTP_PDELAY_REQ" (ptpRx rx tr d) s := rfl

theorem exec_ptpPdelayResp (rx : Arrival) (tr : PtpTransport) (d : Bytes) (s : State) : exec (.ptpPdelayResp rx tr d) s =
    spelled (ptpArrival rx tr 3 d) "PTP_PDELAY_RESP" (ptpRx rx tr d) s := rfl

theorem exec_ptpPdelayRespFollowUp (rx : Arrival) (tr : PtpTransport) (d : Bytes) (s : State) : exec (.ptpPdelayRespFollowUp rx tr d) s =
    spelled (ptpArrival rx tr 10 d) "PTP_PDELAY_RESP_FOLLOW_UP" (ptpRx rx tr d) s := rfl

theorem exec_ptpIgnored (rx : Arrival) (tr : PtpTransport) (d : Bytes) (s : State) : exec (.ptpIgnored rx tr d) s =
    formed (rxPtp rx tr && ptpPortOk rx tr d) "PTP_IGNORED" (event (ptpIgnored rx tr d s) "PTP_IGNORED" (ptpRx rx tr d) s) := rfl

theorem exec_ptpDelayReqSend (dm : Dom) (s : State) : exec (.ptpDelayReqSend dm) s =
    event (ptpEn s dm && !ptpP2p s dm && (selectedMaster (dom s dm)).isSome && reqDue s dm) "PTP_DELAY_REQ_SEND" (delayReqSend dm) s := rfl

theorem exec_ptpPdelayReqSend (dm : Dom) (s : State) : exec (.ptpPdelayReqSend dm) s =
    event (ptpEn s dm && ptpP2p s dm && reqDue s dm) "PTP_PDELAY_REQ_SEND" (pdelayReqSend dm) s := rfl

theorem exec_ptpMasterTimeout (dm : Dom) (i : Fin 4) (s : State) : exec (.ptpMasterTimeout dm i) s =
    event (decide (i.val < (dom s dm).foreign.length)) "PTP_MASTER_TIMEOUT"
    (fun s => match (dom s dm).foreign[i.val]? with | some f => masterLost dm f s | none => s) s := rfl

theorem exec_ptpFollowupTimeout (dm : Dom) (s : State) : exec (.ptpFollowupTimeout dm) s =
    event (dom s dm).pendSync.isSome "PTP_FOLLOWUP_TIMEOUT" (mDom dm (fun m => { m with pendSync := none })) s := rfl

theorem exec_ptpSyncTimeout (dm : Dom) (s : State) : exec (.ptpSyncTimeout dm) s =
    event (decide ((dom s dm).servo = .track)) "PTP_SYNC_TIMEOUT" (setServo dm .holdover) s := rfl

theorem exec_ptpHoldmax (dm : Dom) (s : State) : exec (.ptpHoldmax dm) s =
    event (decide ((dom s dm).servo = .holdover)) "PTP_HOLDMAX"
    (fun s => faultErr Err.ptpHoldover [0, 0, 0, 0, dm.val] (setServo dm .listen (mDom dm (fun m => { m with master := none }) s))) s := rfl

theorem exec_domainSelect (m : Master) (v : Word) (s : State) : exec (.domainSelect m v) s =
    writeCmdAt "DOMAIN_SELECT" m (base 3) v s := rfl

theorem exec_fireDiscipline (cycles : Nat) (s : State) : exec (.fireDiscipline cycles) s =
    event (bit (regVal s (base 3 + 0x30)) 0) "FIRE_DISCIPLINE" (fireAdjust cycles) s := rfl

theorem exec_ptpSnapshot (m : Master) (sel : TimeSel) (s : State) : exec (.ptpSnapshot m sel) s =
    readCmdAt "PTP_SNAPSHOT" m (match sel with | .dom d => base 3 + 0x150 + 0x80 * d | .device => base 3 + 0x10) s := rfl

theorem exec_mgmtTick (temps : List Int) (refCodes : List (BitVec 3)) (s : State) : exec (.mgmtTick temps refCodes) s =
    formed (decide (temps.length = 8) && decide (refCodes.length = 8)) "MGMT_TICK" (event (awake s && tickDue s) "MGMT_TICK" (mgmtTick temps refCodes) s) := rfl

theorem exec_rmpDiscard (rx : Arrival) (ss : Session) (d : Bytes) (s : State) : exec (.rmpDiscard rx ss d) s =
    formed (rxUdp rx ss.v6) "RMP_DISCARD" (event (!awake s || rmpDropped s d) "RMP_DISCARD" (rmpRun rx ss d) s) := rfl

theorem exec_rmpUnknownType (rx : Arrival) (ss : Session) (d : Bytes) (s : State) : exec (.rmpUnknownType rx ss d) s =
    spelled (rxUdp rx ss.v6 && decide (48 ≤ d.length) && (decide (byteAt d 3 = 0) || decide (8 ≤ byteAt d 3))) "RMP_UNKNOWN_TYPE" (rmpRun rx ss d) s := rfl

theorem exec_rmpHello (rx : Arrival) (ss : Session) (d : Bytes) (s : State) : exec (.rmpHello rx ss d) s =
    spelled (rxUdp rx ss.v6 && rmpIs 1 d) "RMP_HELLO" (rmpRun rx ss d) s := rfl

theorem exec_rmpRead (rx : Arrival) (ss : Session) (d : Bytes) (s : State) : exec (.rmpRead rx ss d) s =
    spelled (rxUdp rx ss.v6 && rmpIs 2 d) "RMP_READ" (rmpRun rx ss d) s := rfl

theorem exec_rmpWrite (rx : Arrival) (ss : Session) (d : Bytes) (s : State) : exec (.rmpWrite rx ss d) s =
    spelled (rxUdp rx ss.v6 && rmpIs 3 d) "RMP_WRITE" (rmpRun rx ss d) s := rfl

theorem exec_rmpSwap (rx : Arrival) (ss : Session) (d : Bytes) (s : State) : exec (.rmpSwap rx ss d) s =
    spelled (rxUdp rx ss.v6 && rmpIs 4 d) "RMP_SWAP" (rmpRun rx ss d) s := rfl

theorem exec_rmpStatus (rx : Arrival) (ss : Session) (d : Bytes) (s : State) : exec (.rmpStatus rx ss d) s =
    spelled (rxUdp rx ss.v6 && rmpIs 6 d) "RMP_STATUS" (rmpRun rx ss d) s := rfl

theorem exec_rmpSubscribe (rx : Arrival) (ss : Session) (d : Bytes) (s : State) : exec (.rmpSubscribe rx ss d) s =
    spelled (rxUdp rx ss.v6 && rmpIs 7 d) "RMP_SUBSCRIBE" (rmpRun rx ss d) s := rfl

theorem exec_subscriptionExpire (slot : Fin 4) (s : State) : exec (.subscriptionExpire slot) s =
    event (vget s.mgt.subs slot none).isSome "SUBSCRIPTION_EXPIRE" (mMgt (fun m => { m with subs := vmod m.subs slot (fun _ => none) })) s := rfl

theorem exec_rmpHold (rx : Arrival) (ss : Session) (d : Bytes) (s : State) : exec (.rmpHold rx ss d) s =
    spelled (rxUdp rx ss.v6 && rmpIsCmd 1 d) "RMP_HOLD" (rmpRun rx ss d) s := rfl

theorem exec_rmpResume (rx : Arrival) (ss : Session) (d : Bytes) (s : State) : exec (.rmpResume rx ss d) s =
    spelled (rxUdp rx ss.v6 && rmpIsCmd 2 d) "RMP_RESUME" (rmpRun rx ss d) s := rfl

theorem exec_rmpStop (rx : Arrival) (ss : Session) (d : Bytes) (s : State) : exec (.rmpStop rx ss d) s =
    spelled (rxUdp rx ss.v6 && rmpIsCmd 3 d) "RMP_STOP" (rmpRun rx ss d) s := rfl

theorem exec_rmpAcknowledge (rx : Arrival) (ss : Session) (d : Bytes) (s : State) : exec (.rmpAcknowledge rx ss d) s =
    spelled (rxUdp rx ss.v6 && rmpIsCmd 4 d) "RMP_ACKNOWLEDGE" (rmpRun rx ss d) s := rfl

theorem exec_rmpReset (rx : Arrival) (ss : Session) (d : Bytes) (s : State) : exec (.rmpReset rx ss d) s =
    spelled (rxUdp rx ss.v6 && rmpIsCmd 5 d) "RMP_RESET" (rmpRun rx ss d) s := rfl

theorem exec_resetExecute (s : State) : exec .resetExecute s =
    event s.mgt.resetDue "RESET_EXECUTE" (coldReset 4) s := rfl

theorem exec_rmpYield (rx : Arrival) (ss : Session) (d : Bytes) (s : State) : exec (.rmpYield rx ss d) s =
    spelled (rxUdp rx ss.v6 && rmpIsCmd 6 d) "RMP_YIELD" (rmpRun rx ss d) s := rfl

theorem exec_rmpCommandInvalid (rx : Arrival) (ss : Session) (d : Bytes) (s : State) : exec (.rmpCommandInvalid rx ss d) s =
    spelled (rxUdp rx ss.v6 && rmpIs 5 d && (decide (d.length = 48) || decide (byteAt d 48 = 0) || decide (7 ≤ byteAt d 48))) "RMP_COMMAND_INVALID" (rmpRun rx ss d) s := rfl

theorem exec_tetherHeartbeatSend (s : State) : exec .tetherHeartbeatSend s =
    event (paired s && s.par.tethUp) "TETHER_HEARTBEAT_SEND" hbSend s := rfl

theorem exec_tetherHeartbeatRx (f : Bytes) (s : State) : exec (.tetherHeartbeatRx f) s =
    spelled (tethIs 1 f) "TETHER_HEARTBEAT_RX" (tethHbRx f) s := rfl

theorem exec_netHeartbeatRx (rx : Arrival) (d : Bytes) (s : State) : exec (.netHeartbeatRx rx d) s =
    spelled (rxUdp rx (decide (rx.frame.ether = .ipv6))) "NET_HEARTBEAT_RX"
      (rxFrame rx (fun s => doIf (datagramFor s rx (decide (rx.frame.ether = .ipv6)) (hbPort s)) (netHbRx d) s)) s := rfl

theorem exec_tetherPathMiss (s : State) : exec .tetherPathMiss s =
    event (paired s && !s.par.tMiss) "TETHER_PATH_MISS"
    (fun s => pathMissed 0 s.par.nMiss (mPar (fun p => { p with tMiss := true, cntTMiss := satAdd 16 p.cntTMiss 1 }) s)) s := rfl

theorem exec_netPathMiss (s : State) : exec .netPathMiss s =
    event (paired s && !s.par.nMiss) "NET_PATH_MISS"
    (fun s => pathMissed 1 s.par.tMiss (mPar (fun p => { p with nMiss := true, cntNMiss := satAdd 16 p.cntNMiss 1 }) s)) s := rfl

theorem exec_tetherNzlChange (f : Bytes) (s : State) : exec (.tetherNzlChange f) s =
    spelled (tethIs 2 f) "TETHER_NZL_CHANGE" (tethRx 20 f tethNzlBody) s := rfl

theorem exec_tetherKnotReq (f : Bytes) (s : State) : exec (.tetherKnotReq f) s =
    spelled (tethIs 3 f) "TETHER_KNOT_REQ" (tethRx 12 f tethKnotBody) s := rfl

theorem exec_tetherKnotDone (f : Bytes) (s : State) : exec (.tetherKnotDone f) s =
    spelled (tethIs 4 f) "TETHER_KNOT_DONE" (tethRx 16 f tethDoneBody) s := rfl

theorem exec_tetherState (f : Bytes) (s : State) : exec (.tetherState f) s =
    spelled (tethIs 5 f) "TETHER_STATE" (tethRx 12 f tethStateBody) s := rfl

theorem exec_tetherYield (f : Bytes) (s : State) : exec (.tetherYield f) s =
    spelled (tethIs 6 f) "TETHER_YIELD" (tethRx 8 f tethYieldBody) s := rfl

theorem exec_tetherBulk (f : Bytes) (s : State) : exec (.tetherBulk f) s =
    spelled (tethIs 7 f) "TETHER_BULK" (tethRx 1032 f tethBulkBody) s := rfl

theorem exec_tetherResend (s : State) : exec .tetherResend s =
    event (s.par.tethUp && tethOverdue s) "TETHER_RESEND" tethResend s := rfl

theorem exec_tetherResync (s : State) : exec .tetherResync s =
    event s.par.tethUp "TETHER_RESYNC" tethResync s := rfl

theorem exec_hitchInAssert (s : State) : exec .hitchInAssert s =
    always hitchInOn s := rfl

theorem exec_hitchInRelease (s : State) : exec .hitchInRelease s =
    always hitchInOff s := rfl

theorem exec_splice (s : State) : exec .splice s =
    event (isStandby s && s.par.pendSplice.isSome) "SPLICE"
    (fun s => match s.par.pendSplice with | some c => spliceNow c s | none => s) s := rfl

theorem exec_rejoinCopyStart (s : State) : exec .rejoinCopyStart s =
    event (isActive s && decide (s.sys.st = .ready) && s.fir.grid.isNone && s.par.tethUp && decide (s.par.peerRole = 3) && !s.par.copying)
    "REJOIN_COPY_START" (fun s => copyNext (mPar (fun p => { p with copying := true, copyPos := 0 }) s)) s := rfl

theorem exec_coreWatchExpire (s : State) : exec .coreWatchExpire s =
    event (decide (s.sys.st ≠ .cold) && !s.dbg.halted) "CORE_WATCH_EXPIRE"
    (fun s => hitchRelease (mKeep (fun k => { k with coreWatch := true, coreLost := true }) s)) s := rfl

theorem exec_keepFeedLoss (feedB : Bool) (s : State) : exec (.keepFeedLoss feedB) s =
    always (feedLost feedB) s := rfl

theorem exec_keepBrownout (s : State) : exec .keepBrownout s =
    always hitchRelease s := rfl

theorem exec_fegRotationStart (g : Fin 4) (s : State) : exec (.fegRotationStart g) s =
    event (bit (regVal s (base 25)) 31 && operational s && decide ((fegGroup s g).phase = 0) && !(fegGroup s g).stopped
    && (feg s (64 + g)).measured) "FEG_ROTATION_START" (fegRotate g) s := rfl

theorem exec_fegMeasureDone (gen : Fin 68) (times : FegTimes) (s : State) : exec (.fegMeasureDone gen times) s =
    formed (decide (times.elems.length = 20)) "FEG_MEASURE_DONE" (event (fegMeasuring s gen) "FEG_MEASURE_DONE"
      (fun s => match fegResult times with | some r => fegGood gen r s | none => fegFailed gen s) s) := rfl

theorem exec_calForce (m : Master) (v : Word) (s : State) : exec (.calForce m v) s =
    writeCmdAt "CAL_FORCE" m (base 25 + 0x10) v s := rfl

theorem exec_cmpMeasure (c : Fin 10) (s : State) : exec (.cmpMeasure c) s =
    event (running s && cmpIdle s c && !(cmpCal s c).measuring) "CMP_MEASURE" (mCmpCal c (fun k => { k with measuring := true })) s := rfl

theorem exec_cmpMeasureDone (c : Fin 10) (offs : List Int) (s : State) : exec (.cmpMeasureDone c offs) s =
    formed (decide (offs.length = 4)) "CMP_MEASURE_DONE" (event ((cmpCal s c).measuring && running s) "CMP_MEASURE_DONE" (cmpDone c offs) s) := rfl

theorem exec_calSlewStep (t : CalTarget) (s : State) : exec (.calSlewStep t) s =
    event (slewOpen s t) "CAL_SLEW_STEP" (slewStep t) s := rfl

theorem exec_faultAck (m : Master) (v : Word) (s : State) : exec (.faultAck m v) s =
    writeCmdAt "FAULT_ACK" m (base 26 + 0x10) v s := rfl

theorem exec_faultAckAll (m : Master) (v : Word) (s : State) : exec (.faultAckAll m v) s =
    writeCmdAt "FAULT_ACK_ALL" m (base 26 + 0x14) v s := rfl

theorem exec_latchClear (m : Master) (v : Word) (s : State) : exec (.latchClear m v) s =
    writeCmdAt "LATCH_CLEAR" m (base 26 + 0x18) v s := rfl

theorem exec_errClr (m : Master) (v : Word) (s : State) : exec (.errClr m v) s =
    writeCmdAt "ERR_CLR" m (base 26 + 0x1C) v s := rfl

theorem exec_logEntryRead (m : Master) (sel : LogSel) (s : State) : exec (.logEntryRead m sel) s =
    readCmdAt "LOG_ENTRY_READ" m (match sel with | .latch c => base 26 + 0x1000 + 0x40 * c | .slot n => base 26 + 0x4000 + 0x30 * n) s := rfl

theorem exec_knotEpochRead (m : Master) (s : State) : exec (.knotEpochRead m) s =
    readCmdAt "KNOT_EPOCH_READ" m 0x110 s := rfl

theorem exec_fireLcSnapshot (m : Master) (p : Port) (s : State) : exec (.fireLcSnapshot m p) s =
    readCmdAt "FIRE_LC_SNAPSHOT" m (base 14 + 0x1008 + 0x20 * p) s := rfl

theorem exec_captureStart (m : Master) (mask : BitVec 16) (s : State) : exec (.captureStart m mask) s =
    writeCmdAt "CAPTURE_START" m (base 27) (0x80000000 ||| mask.setWidth 32) s := rfl

theorem exec_captureClear (m : Master) (s : State) : exec (.captureClear m) s =
    writeCmdAt "CAPTURE_CLEAR" m (base 27) 0x40000000 s := rfl

theorem exec_captureDone (s : State) : exec .captureDone s =
    event s.cap.busy "CAPTURE_DONE" captureDone s := rfl

theorem exec_tapReset (s : State) : exec .tapReset s =
    always tapReset s := rfl

theorem exec_tapInstruction (code : BitVec 6) (s : State) : exec (.tapInstruction code) s =
    always (tapLoad code) s := rfl

theorem exec_wpNop (s : State) : exec .wpNop s =
    wpAccess "WP_NOP" 0 (wpDone 0) s := rfl

theorem exec_wpRead32 (space : Fin 16) (addr : Word) (e : List Flip) (s : State) : exec (.wpRead32 space addr e) s =
    wpAccess "WP_READ32" addr (wpRead space addr e) s := rfl

theorem exec_wpWrite32 (space : Fin 16) (addr : Word) (data : Word) (e : List Flip) (s : State) : exec (.wpWrite32 space addr data e) s =
    wpAccess "WP_WRITE32" addr (wpWrite space addr data e) s := rfl

theorem exec_wpHalt (s : State) : exec .wpHalt s =
    wpAccess "WP_HALT" 0 wpHalt s := rfl

theorem exec_wpResume (s : State) : exec .wpResume s =
    wpAccess "WP_RESUME" 0 wpResume s := rfl

theorem exec_wpStep (data : Word) (s : State) : exec (.wpStep data) s =
    wpAccess "WP_STEP" 0 (wpStep data) s := rfl

theorem exec_wpCapture (mask : Word) (s : State) : exec (.wpCapture mask) s =
    wpAccess "WP_CAPTURE" 0 (wpCapture mask) s := rfl

theorem exec_wpReservedOp (op : BitVec 4) (s : State) : exec (.wpReservedOp op) s =
    formed (decide (7 ≤ op.toNat)) "WP_RESERVED_OP" (wpAccess "WP_RESERVED_OP" 0 wpRefuse s) := rfl

theorem exec_towCntClr (m : Master) (v : Word) (s : State) : exec (.towCntClr m v) s =
    writeCmdAt "TOW_CNT_CLR" m (base 5 + 0x20) v s := rfl

theorem exec_cmpCntClr (m : Master) (v : Word) (s : State) : exec (.cmpCntClr m v) s =
    writeCmdAt "CMP_CNT_CLR" m (base 11 + 0x20) v s := rfl

theorem exec_strCntClr (m : Master) (v : Word) (s : State) : exec (.strCntClr m v) s =
    writeCmdAt "STR_CNT_CLR" m (base 10 + 0x30) v s := rfl

theorem exec_firCntClr (m : Master) (v : Word) (s : State) : exec (.firCntClr m v) s =
    writeCmdAt "FIR_CNT_CLR" m (base 14 + 0x20) v s := rfl

theorem exec_nzlCntClr (m : Master) (v : Word) (s : State) : exec (.nzlCntClr m v) s =
    writeCmdAt "NZL_CNT_CLR" m (base 16 + 0x70) v s := rfl

theorem exec_camPortClr (m : Master) (port : Fin 4) (v : Word) (s : State) : exec (.camPortClr m port v) s =
    writeCmdAt "CAM_PORT_CLR" m (base 19 + 0x11C + 0x40 * port) v s := rfl

theorem exec_insCtxClr (m : Master) (c : Ctx) (v : Word) (s : State) : exec (.insCtxClr m c v) s =
    writeCmdAt "INS_CTX_CLR" m (base 21 + 0x1020 + 0x40 * c) v s := rfl

theorem exec_memCntClr (m : Master) (v : Word) (s : State) : exec (.memCntClr m v) s =
    writeCmdAt "MEM_CNT_CLR" m (base 7 + 0x40) v s := rfl

theorem exec_bnkClr (m : Master) (b : Bank) (v : Word) (s : State) : exec (.bnkClr m b v) s =
    writeCmdAt "BNK_CLR" m (base 8 + 0x11C + 0x40 * b) v s := rfl

theorem exec_arbClr (m : Master) (v : Word) (s : State) : exec (.arbClr m v) s =
    writeCmdAt "ARB_CLR" m (base 9) v s := rfl

theorem exec_netPortClr (m : Master) (np : NetPort) (v : Word) (s : State) : exec (.netPortClr m np v) s =
    writeCmdAt "NET_PORT_CLR" m (base 2 + 0x134 + 0x80 * np) v s := rfl

theorem exec_ptpDomClr (m : Master) (dm : Dom) (v : Word) (s : State) : exec (.ptpDomClr m dm v) s =
    writeCmdAt "PTP_DOM_CLR" m (base 3 + 0x14C + 0x80 * dm) v s := rfl

theorem exec_mgtCntClr (m : Master) (v : Word) (s : State) : exec (.mgtCntClr m v) s =
    writeCmdAt "MGT_CNT_CLR" m (base 4 + 0x18) v s := rfl

theorem exec_parCntClr (m : Master) (v : Word) (s : State) : exec (.parCntClr m v) s =
    writeCmdAt "PAR_CNT_CLR" m (base 24 + 0x34) v s := rfl

theorem exec_keepFeedReturn (feedB : Bool) (s : State) : exec (.keepFeedReturn feedB) s =
    always (feedBack feedB) s := rfl

theorem exec_symbolRealign (at_ : RxLane × Bool) (s : State) : exec (.symbolRealign at_) s =
    always (fun s => match at_.1 with
      | .head p =>
        let s' := if (headPort s p).st = .active then mHead p (fun h => { h with slips := satAdd 16 h.slips 1 }) s else s
        if at_.2 && linkUp s p then gulDiscard p 2 s' else s'
      | .tether _ => if at_.2 && s.par.tethUp then tethDrop s else s) s := rfl

theorem exec_trainingSetInActive (p : Port) (s : State) : exec (.trainingSetInActive p) s =
    always (portLoss p 7) s := rfl

theorem exec_codeErrorBurst (errs : Port × Nat) (s : State) : exec (.codeErrorBurst errs) s =
    always (fun s => doIf (decide (32 ≤ errs.2)) (portLoss errs.1 7) (gulErrs errs.1 errs.2 s)) s := rfl

theorem exec_adaptationResume (lane : RxLane) (_sym : ResumeSym) (s : State) : exec (.adaptationResume lane _sym) s =
    always (fun s => match lane with
    | .head p => mHead p (fun h => { h with frozen := false }) s
    | .tether l => mTeth l (fun t => { t with frozen := false }) s) s := rfl

theorem exec_limitInputInactive (a : Axis) (hi : Bool) (s : State) : exec (.limitInputInactive a hi) s =
    always (mAxs a (fun k => if hi then { k with limHi := false } else { k with limLo := false })) s := rfl

theorem exec_fegTestEdge (g : Fin 4) (cmpPs : Int) (s : State) : exec (.fegTestEdge g cmpPs) s =
    event (operational s && (nextLc s (fegGroup s g).port).isNone && (decide ((fegGroup s g).phase = 1) || decide ((fegGroup s g).phase = 4)))
    "FEG_TEST_EDGE" (fegCompare g cmpPs) s := rfl

end Sys2Proof.Machine
end

