-- ==== Sys2Proof/Laws/Effects.lean ====
section
/-! SUPPORT. The effect of every command that is no register access: the parts it may change (`_keeps`), that it detects at most Notices and
Faults (`_calm`), how it moves the device (`_moves`), that it keeps the maps canonical (`_canonK`). -/

namespace Sys2Proof.Machine

/-! `eff_…_keeps` -/

theorem eff_supplyLow_keeps (x0 : Rail) (s : State) : keepsBut [.regs, .act, .sys, .err, .cap, .dbg, .cfg, .keep, .net, .netId, .ptp, .mgt, .tow, .plc, .cmp, .str, .pos, .mil, .fir, .stg, .nzl, .gat, .gul, .insp, .mem, .axs, .lmp, .par, .cal] s (supplyLow s) := by
  try dsimp only
  repeat' (first
    | with_reducible exact keepsBut_refl _ _
    | (with_reducible show keepsBut _ _ (supplyLow _); with_reducible refine keepsBut_of ?_ (supplyLow_keeps _) (by decide))
    | with_reducible refine keepsBut_ite ?_ ?_
    | with_reducible refine keepsBut_doIf (fun _ => ?_) ?_
    | with_reducible refine keepsBut_each (fun _ _ => ?_) ?_
    | dsimp only [id]
    | split)

theorem eff_resetAssert_keeps (s : State) : keepsBut [.regs, .act, .sys, .err, .cap, .dbg, .cfg, .keep, .net, .netId, .ptp, .mgt, .tow, .plc, .cmp, .str, .pos, .mil, .fir, .stg, .nzl, .gat, .gul, .insp, .mem, .axs, .lmp, .par, .cal] s ((coldReset 1) s) := by
  try dsimp only
  repeat' (first
    | with_reducible exact keepsBut_refl _ _
    | (with_reducible show keepsBut _ _ (coldReset _ _); with_reducible refine keepsBut_of ?_ (coldReset_keeps _ _) (by decide))
    | with_reducible refine keepsBut_ite ?_ ?_
    | with_reducible refine keepsBut_doIf (fun _ => ?_) ?_
    | with_reducible refine keepsBut_each (fun _ _ => ?_) ?_
    | dsimp only [id]
    | split)

theorem eff_resetRelease_keeps (bootSel : BitVec 2) (pairRole : Bool) (s : State) : keepsBut [.sys, .dbg, .cfg, .mgt, .mem, .par] s ((resetReleased bootSel pairRole) s) := by
  try dsimp only
  repeat' (first
    | with_reducible exact keepsBut_refl _ _
    | (with_reducible show keepsBut _ _ (resetReleased _ _ _); with_reducible refine keepsBut_of ?_ (resetReleased_keeps _ _ _) (by decide))
    | with_reducible refine keepsBut_ite ?_ ?_
    | with_reducible refine keepsBut_doIf (fun _ => ?_) ?_
    | with_reducible refine keepsBut_each (fun _ _ => ?_) ?_
    | dsimp only [id]
    | split)

theorem eff_keepReset_keeps (s : State) : keepsBut [.regs, .act, .err, .keep, .pos, .mil, .par] s (keepReset s) := by
  try dsimp only
  repeat' (first
    | with_reducible exact keepsBut_refl _ _
    | (with_reducible show keepsBut _ _ (keepReset _); with_reducible refine keepsBut_of ?_ (keepReset_keeps _) (by decide))
    | with_reducible refine keepsBut_ite ?_ ?_
    | with_reducible refine keepsBut_doIf (fun _ => ?_) ?_
    | with_reducible refine keepsBut_each (fun _ _ => ?_) ?_
    | dsimp only [id]
    | split)

theorem eff_keepResetRelease_keeps (s : State) : keepsBut [.pos] s ((mPos (fun p => { p with keepReset := false })) s) := by
  try dsimp only
  repeat' (first
    | with_reducible exact keepsBut_refl _ _
    | (with_reducible show keepsBut _ _ (mPos _ _); with_reducible refine keepsBut_of ?_ (mPos_keeps _ _) (by decide))
    | with_reducible refine keepsBut_ite ?_ ?_
    | with_reducible refine keepsBut_doIf (fun _ => ?_) ?_
    | with_reducible refine keepsBut_each (fun _ _ => ?_) ?_
    | dsimp only [id]
    | split)

theorem eff_imageHeaderRead_keeps (a : Bytes) (b : Bytes) (s : State) : keepsBut [.err, .cfg] s ((imageHeaders a b) s) := by
  try dsimp only
  repeat' (first
    | with_reducible exact keepsBut_refl _ _
    | (with_reducible show keepsBut _ _ (imageHeaders _ _ _); with_reducible refine keepsBut_of ?_ (imageHeaders_keeps _ _ _) (by decide))
    | with_reducible refine keepsBut_ite ?_ ?_
    | with_reducible refine keepsBut_doIf (fun _ => ?_) ?_
    | with_reducible refine keepsBut_each (fun _ _ => ?_) ?_
    | dsimp only [id]
    | split)

theorem eff_imagePass1Done_keeps (img : Bytes) (s : State) : keepsBut [.err, .cfg] s ((imagePass1 img) s) := by
  try dsimp only
  repeat' (first
    | with_reducible exact keepsBut_refl _ _
    | (with_reducible show keepsBut _ _ (imagePass1 _ _); with_reducible refine keepsBut_of ?_ (imagePass1_keeps _ _) (by decide))
    | with_reducible refine keepsBut_ite ?_ ?_
    | with_reducible refine keepsBut_doIf (fun _ => ?_) ?_
    | with_reducible refine keepsBut_each (fun _ _ => ?_) ?_
    | dsimp only [id]
    | split)

theorem eff_imageRecordApply_keeps (rec : Bytes) (s : State) : keepsBut [.free, .regs, .act, .sys, .err, .cap, .dbg, .cfg, .keep, .net, .netId, .ptp, .mgt, .tow, .plc, .cmp, .str, .pos, .mil, .fir, .stg, .nzl, .gat, .gul, .insp, .mem, .axs, .lmp, .par, .cal] s ((recordApply rec) s) := by
  try dsimp only
  repeat' (first
    | with_reducible exact keepsBut_refl _ _
    | (with_reducible show keepsBut _ _ (recordApply _ _); with_reducible refine keepsBut_of ?_ (recordApply_keeps _ _) (by decide))
    | with_reducible refine keepsBut_ite ?_ ?_
    | with_reducible refine keepsBut_doIf (fun _ => ?_) ?_
    | with_reducible refine keepsBut_each (fun _ _ => ?_) ?_
    | dsimp only [id]
    | split)

theorem eff_imagePass2Done_keeps (boot : BitVec 64) (s : State) : keepsBut [.regs, .act, .sys, .err, .cap, .dbg, .cfg, .net, .netId, .ptp, .mgt, .tow, .plc, .cmp, .str, .fir, .stg, .nzl, .gat, .gul, .insp, .mem, .axs, .lmp, .par, .cal] s ((imagePass2 boot) s) := by
  try dsimp only
  repeat' (first
    | with_reducible exact keepsBut_refl _ _
    | (with_reducible show keepsBut _ _ (imagePass2 _ _); with_reducible refine keepsBut_of ?_ (imagePass2_keeps _ _) (by decide))
    | with_reducible refine keepsBut_ite ?_ ?_
    | with_reducible refine keepsBut_doIf (fun _ => ?_) ?_
    | with_reducible refine keepsBut_each (fun _ _ => ?_) ?_
    | dsimp only [id]
    | split)

theorem eff_readyCriteriaMet_keeps (s : State) : keepsBut [.act, .sys, .err, .cfg, .mgt, .tow, .plc, .str, .pos, .fir, .stg, .nzl, .gat, .gul, .insp, .mem, .axs, .lmp, .par] s (becomeReady s) := by
  try dsimp only
  repeat' (first
    | with_reducible exact keepsBut_refl _ _
    | (with_reducible show keepsBut _ _ (becomeReady _); with_reducible refine keepsBut_of ?_ (becomeReady_keeps _) (by decide))
    | with_reducible refine keepsBut_ite ?_ ?_
    | with_reducible refine keepsBut_doIf (fun _ => ?_) ?_
    | with_reducible refine keepsBut_each (fun _ _ => ?_) ?_
    | dsimp only [id]
    | split)

theorem eff_lanewaitExpire_keeps (s : State) : keepsBut [.err, .cfg] s (lanewaitOver s) := by
  try dsimp only
  repeat' (first
    | with_reducible exact keepsBut_refl _ _
    | (with_reducible show keepsBut _ _ (lanewaitOver _); with_reducible refine keepsBut_of ?_ (lanewaitOver_keeps _) (by decide))
    | with_reducible refine keepsBut_ite ?_ ?_
    | with_reducible refine keepsBut_doIf (fun _ => ?_) ?_
    | with_reducible refine keepsBut_each (fun _ _ => ?_) ?_
    | dsimp only [id]
    | split)

theorem eff_bootTimeout_keeps (s : State) : keepsBut [.err] s ((fun s => match unmetCrit s with | some k => raise .fatal Err.bootTimeout [k] s | none => s) s) := by
  try dsimp only
  repeat' (first
    | with_reducible exact keepsBut_refl _ _
    | (with_reducible show keepsBut _ _ (raise _ _ _ _); with_reducible refine keepsBut_of ?_ (raise_keeps _ _ _ _) (by decide))
    | with_reducible refine keepsBut_ite ?_ ?_
    | with_reducible refine keepsBut_doIf (fun _ => ?_) ?_
    | with_reducible refine keepsBut_each (fun _ _ => ?_) ?_
    | dsimp only [id]
    | split)

theorem eff_dramVerifyDone_keeps (res : List VerifyReads) (s : State) : keepsBut [.err, .cfg, .plc, .mem] s ((dramVerified res) s) := by
  try dsimp only
  repeat' (first
    | with_reducible exact keepsBut_refl _ _
    | (with_reducible show keepsBut _ _ (dramVerified _ _); with_reducible refine keepsBut_of ?_ (dramVerified_keeps _ _) (by decide))
    | with_reducible refine keepsBut_ite ?_ ?_
    | with_reducible refine keepsBut_doIf (fun _ => ?_) ?_
    | with_reducible refine keepsBut_each (fun _ _ => ?_) ?_
    | dsimp only [id]
    | split)

theorem eff_fireLock_keeps (s : State) : keepsBut [.fir] s ((mFir (fun f => { f with lock := true })) s) := by
  try dsimp only
  repeat' (first
    | with_reducible exact keepsBut_refl _ _
    | (with_reducible show keepsBut _ _ (mFir _ _); with_reducible refine keepsBut_of ?_ (mFir_keeps _ _) (by decide))
    | with_reducible refine keepsBut_ite ?_ ?_
    | with_reducible refine keepsBut_doIf (fun _ => ?_) ?_
    | with_reducible refine keepsBut_each (fun _ _ => ?_) ?_
    | dsimp only [id]
    | split)

theorem eff_fireUnlock_keeps (s : State) : keepsBut [.err, .fir] s ((fun s =>
    doIf (operational s || decide (s.sys.st = .faulted)) (raise .fatal Err.fireUnlock []) (mFir (fun f => { f with lock := false }) s)) s) := by
  try dsimp only
  repeat' (first
    | with_reducible exact keepsBut_refl _ _
    | (with_reducible show keepsBut _ _ (mFir _ _); with_reducible refine keepsBut_of ?_ (mFir_keeps _ _) (by decide))
    | (with_reducible show keepsBut _ _ (raise _ _ _ _); with_reducible refine keepsBut_of ?_ (raise_keeps _ _ _ _) (by decide))
    | with_reducible refine keepsBut_ite ?_ ?_
    | with_reducible refine keepsBut_doIf (fun _ => ?_) ?_
    | with_reducible refine keepsBut_each (fun _ _ => ?_) ?_
    | dsimp only [id]
    | split)

theorem eff_otpDone_keeps (s : State) : keepsBut [.cfg] s ((mCfg (fun c => { c with otpBusy := false })) s) := by
  try dsimp only
  repeat' (first
    | with_reducible exact keepsBut_refl _ _
    | (with_reducible show keepsBut _ _ (mCfg _ _); with_reducible refine keepsBut_of ?_ (mCfg_keeps _ _) (by decide))
    | with_reducible refine keepsBut_ite ?_ ?_
    | with_reducible refine keepsBut_doIf (fun _ => ?_) ?_
    | with_reducible refine keepsBut_each (fun _ _ => ?_) ?_
    | dsimp only [id]
    | split)

theorem eff_paceMeasure_keeps (measured : List Nat) (s : State) : keepsBut [.sys, .err, .par] s ((paceAll measured) s) := by
  try dsimp only
  repeat' (first
    | with_reducible exact keepsBut_refl _ _
    | (with_reducible show keepsBut _ _ (paceAll _ _); with_reducible refine keepsBut_of ?_ (paceAll_keeps _ _) (by decide))
    | with_reducible refine keepsBut_ite ?_ ?_
    | with_reducible refine keepsBut_doIf (fun _ => ?_) ?_
    | with_reducible refine keepsBut_each (fun _ _ => ?_) ?_
    | dsimp only [id]
    | split)

theorem eff_knotTake_keeps (s : State) : keepsBut [.act, .sys, .err, .mgt, .tow, .str, .pos, .fir, .stg, .nzl, .gat, .gul, .insp, .mem, .axs, .lmp, .par] s ((fun s => match knotPlace s with | some p => takeKnot p s | none => s) s) := by
  try dsimp only
  repeat' (first
    | with_reducible exact keepsBut_refl _ _
    | (with_reducible show keepsBut _ _ (takeKnot _ _); with_reducible refine keepsBut_of ?_ (takeKnot_keeps _ _) (by decide))
    | with_reducible refine keepsBut_ite ?_ ?_
    | with_reducible refine keepsBut_doIf (fun _ => ?_) ?_
    | with_reducible refine keepsBut_each (fun _ _ => ?_) ?_
    | dsimp only [id]
    | split)

theorem eff_strandMigrate_keeps (n : Seg) (s : State) : keepsBut [.str] s ((migrate n) s) := by
  try dsimp only
  repeat' (first
    | with_reducible exact keepsBut_refl _ _
    | (with_reducible show keepsBut _ _ (migrate _ _); with_reducible refine keepsBut_of ?_ (migrate_keeps _ _) (by decide))
    | with_reducible refine keepsBut_ite ?_ ?_
    | with_reducible refine keepsBut_doIf (fun _ => ?_) ?_
    | with_reducible refine keepsBut_each (fun _ _ => ?_) ?_
    | dsimp only [id]
    | split)

theorem eff_geoCheckDone_keeps (s : State) : keepsBut [.fir] s (geoCheckEnd s) := by
  try dsimp only
  repeat' (first
    | with_reducible exact keepsBut_refl _ _
    | (with_reducible show keepsBut _ _ (geoCheckEnd _); with_reducible refine keepsBut_of ?_ (geoCheckEnd_keeps _) (by decide))
    | with_reducible refine keepsBut_ite ?_ ?_
    | with_reducible refine keepsBut_doIf (fun _ => ?_) ?_
    | with_reducible refine keepsBut_each (fun _ _ => ?_) ?_
    | dsimp only [id]
    | split)

theorem eff_encoderEdge_keeps (ch : Enc) (a : Bool) (b : Bool) (fast : Bool) (more : Bool) (s : State) : keepsBut [.sys, .err, .tow, .pos, .mil] s ((encEdge ch a b fast more) s) := by
  try dsimp only
  repeat' (first
    | with_reducible exact keepsBut_refl _ _
    | (with_reducible show keepsBut _ _ (encEdge _ _ _ _ _ _); with_reducible refine keepsBut_of ?_ (encEdge_keeps _ _ _ _ _ _) (by decide))
    | with_reducible refine keepsBut_ite ?_ ?_
    | with_reducible refine keepsBut_doIf (fun _ => ?_) ?_
    | with_reducible refine keepsBut_each (fun _ _ => ?_) ?_
    | dsimp only [id]
    | split)

theorem eff_wireDisagree_keeps (ch : Enc) (pair : EncPair) (s : State) : keepsBut [.err, .pos] s ((fun s => if keepRuns s && !disagrees s ch (pairNo pair) then wireBad ch pair s else s) s) := by
  try dsimp only
  repeat' (first
    | with_reducible exact keepsBut_refl _ _
    | (with_reducible show keepsBut _ _ (wireBad _ _ _); with_reducible refine keepsBut_of ?_ (wireBad_keeps _ _ _) (by decide))
    | with_reducible refine keepsBut_ite ?_ ?_
    | with_reducible refine keepsBut_doIf (fun _ => ?_) ?_
    | with_reducible refine keepsBut_each (fun _ _ => ?_) ?_
    | dsimp only [id]
    | split)

theorem eff_wireAgree_keeps (ch : Enc) (pair : EncPair) (s : State) : keepsBut [.err, .pos] s ((fun s => if disagrees s ch (pairNo pair) then wireGood ch pair s else s) s) := by
  try dsimp only
  repeat' (first
    | with_reducible exact keepsBut_refl _ _
    | (with_reducible show keepsBut _ _ (wireGood _ _ _); with_reducible refine keepsBut_of ?_ (wireGood_keeps _ _ _) (by decide))
    | with_reducible refine keepsBut_ite ?_ ?_
    | with_reducible refine keepsBut_doIf (fun _ => ?_) ?_
    | with_reducible refine keepsBut_each (fun _ _ => ?_) ?_
    | dsimp only [id]
    | split)

theorem eff_encLost_keeps (cause : LostCause) (s : State) : keepsBut [.err, .pos] s ((fun s => raise .stop Err.encLost []
    (mEnc (printCh s) (fun e => { e with lostLogged := e.lostLogged ||| BitVec.ofNat 3 (2 ^ lostBit cause) }) s)) s) := by
  try dsimp only
  repeat' (first
    | with_reducible exact keepsBut_refl _ _
    | (with_reducible show keepsBut _ _ (mEnc _ _ _); with_reducible refine keepsBut_of ?_ (mEnc_keeps _ _ _) (by decide))
    | (with_reducible show keepsBut _ _ (raise _ _ _ _); with_reducible refine keepsBut_of ?_ (raise_keeps _ _ _ _) (by decide))
    | with_reducible refine keepsBut_ite ?_ ?_
    | with_reducible refine keepsBut_doIf (fun _ => ?_) ?_
    | with_reducible refine keepsBut_each (fun _ _ => ?_) ?_
    | dsimp only [id]
    | split)

theorem eff_index_keeps (ch : Enc) (more : Bool) (s : State) : keepsBut [.sys, .err, .tow, .pos, .mil] s ((zEdge ch more) s) := by
  try dsimp only
  repeat' (first
    | with_reducible exact keepsBut_refl _ _
    | (with_reducible show keepsBut _ _ (zEdge _ _ _); with_reducible refine keepsBut_of ?_ (zEdge_keeps _ _ _) (by decide))
    | with_reducible refine keepsBut_ite ?_ ?_
    | with_reducible refine keepsBut_doIf (fun _ => ?_) ?_
    | with_reducible refine keepsBut_each (fun _ _ => ?_) ?_
    | dsimp only [id]
    | split)

theorem eff_ssiFrameStart_keeps (ch : Enc) (dataHigh : Bool) (s : State) : keepsBut [.err, .pos] s ((fun s =>
    if dataHigh then mEnc ch (fun e => { e with ssiBusy := true, ssiX := e.x }) s else ssiDiscard ch s) s) := by
  try dsimp only
  repeat' (first
    | with_reducible exact keepsBut_refl _ _
    | (with_reducible show keepsBut _ _ (mEnc _ _ _); with_reducible refine keepsBut_of ?_ (mEnc_keeps _ _ _) (by decide))
    | (with_reducible show keepsBut _ _ (ssiDiscard _ _); with_reducible refine keepsBut_of ?_ (ssiDiscard_keeps _ _) (by decide))
    | with_reducible refine keepsBut_ite ?_ ?_
    | with_reducible refine keepsBut_doIf (fun _ => ?_) ?_
    | with_reducible refine keepsBut_each (fun _ _ => ?_) ?_
    | dsimp only [id]
    | split)

theorem eff_ssiWord_keeps (ch : Enc) (w : Word) (parity : Bool) (s : State) : keepsBut [.sys, .err, .tow, .pos, .mil] s ((ssiDone ch w parity) s) := by
  try dsimp only
  repeat' (first
    | with_reducible exact keepsBut_refl _ _
    | (with_reducible show keepsBut _ _ (ssiDone _ _ _ _); with_reducible refine keepsBut_of ?_ (ssiDone_keeps _ _ _ _) (by decide))
    | with_reducible refine keepsBut_ite ?_ ?_
    | with_reducible refine keepsBut_doIf (fun _ => ?_) ?_
    | with_reducible refine keepsBut_each (fun _ _ => ?_) ?_
    | dsimp only [id]
    | split)

theorem eff_ssiReleaseTimeout_keeps (ch : Enc) (s : State) : keepsBut [.err, .pos] s ((fun s => ssiDiscard ch (mEnc ch (fun e => { e with ssiBusy := false }) s)) s) := by
  try dsimp only
  repeat' (first
    | with_reducible exact keepsBut_refl _ _
    | (with_reducible show keepsBut _ _ (ssiDiscard _ _); with_reducible refine keepsBut_of ?_ (ssiDiscard_keeps _ _) (by decide))
    | (with_reducible show keepsBut _ _ (mEnc _ _ _); with_reducible refine keepsBut_of ?_ (mEnc_keeps _ _ _) (by decide))
    | with_reducible refine keepsBut_ite ?_ ?_
    | with_reducible refine keepsBut_doIf (fun _ => ?_) ?_
    | with_reducible refine keepsBut_each (fun _ _ => ?_) ?_
    | dsimp only [id]
    | split)

theorem eff_observerUpdate_keeps (ch : Enc) (s : State) : keepsBut [.sys, .err, .pos, .mil] s ((fun s => let s := takeLive s; if encEn s ch && (enc s ch).started then obsUpdate ch s else s) s) := by
  try dsimp only
  repeat' (first
    | with_reducible exact keepsBut_refl _ _
    | (with_reducible show keepsBut _ _ (obsUpdate _ _); with_reducible refine keepsBut_of ?_ (obsUpdate_keeps _ _) (by decide))
    | (with_reducible show keepsBut _ _ (takeLive _); with_reducible refine keepsBut_of ?_ (takeLive_keeps _) (by decide))
    | with_reducible refine keepsBut_ite ?_ ?_
    | with_reducible refine keepsBut_doIf (fun _ => ?_) ?_
    | with_reducible refine keepsBut_each (fun _ _ => ?_) ?_
    | dsimp only [id]
    | split)

theorem eff_ptSynthStep_keeps (ch : Enc) (s : State) : keepsBut [.err, .pos] s ((ptStep ch) s) := by
  try dsimp only
  repeat' (first
    | with_reducible exact keepsBut_refl _ _
    | (with_reducible show keepsBut _ _ (ptStep _ _); with_reducible refine keepsBut_of ?_ (ptStep_keeps _ _) (by decide))
    | with_reducible refine keepsBut_ite ?_ ?_
    | with_reducible refine keepsBut_doIf (fun _ => ?_) ?_
    | with_reducible refine keepsBut_each (fun _ _ => ?_) ?_
    | dsimp only [id]
    | split)

theorem eff_milestoneFire_keeps (ms : Ms) (s : State) : keepsBut [.act, .sys, .err, .net, .mgt, .tow, .cmp, .str, .pos, .mil, .fir, .stg, .nzl, .gat, .gul, .insp, .mem, .axs, .lmp, .par, .cal] s ((fun s => match msNext s with | some x => msFire x.1 x.2.1 x.2.2 s | none => s) s) := by
  try dsimp only
  repeat' (first
    | with_reducible exact keepsBut_refl _ _
    | (with_reducible show keepsBut _ _ (msFire _ _ _ _); with_reducible refine keepsBut_of ?_ (msFire_keeps _ _ _ _) (by decide))
    | with_reducible refine keepsBut_ite ?_ ?_
    | with_reducible refine keepsBut_doIf (fun _ => ?_) ?_
    | with_reducible refine keepsBut_each (fun _ _ => ?_) ?_
    | dsimp only [id]
    | split)

theorem eff_msOutPulseEnd_keeps (out : PulseOut) (s : State) : keepsBut [.mil] s ((pulseSet out false) s) := by
  try dsimp only
  repeat' (first
    | with_reducible exact keepsBut_refl _ _
    | (with_reducible show keepsBut _ _ (pulseSet _ _ _); with_reducible refine keepsBut_of ?_ (pulseSet_keeps _ _ _) (by decide))
    | with_reducible refine keepsBut_ite ?_ ?_
    | with_reducible refine keepsBut_doIf (fun _ => ?_) ?_
    | with_reducible refine keepsBut_each (fun _ _ => ?_) ?_
    | dsimp only [id]
    | split)

theorem eff_extSyncCapture_keeps (n : Fin 2) (rising : Bool) (s : State) : keepsBut [.sys, .err, .mil] s ((syncEdge n rising) s) := by
  try dsimp only
  repeat' (first
    | with_reducible exact keepsBut_refl _ _
    | (with_reducible show keepsBut _ _ (syncEdge _ _ _); with_reducible refine keepsBut_of ?_ (syncEdge_keeps _ _ _) (by decide))
    | with_reducible refine keepsBut_ite ?_ ?_
    | with_reducible refine keepsBut_doIf (fun _ => ?_) ?_
    | with_reducible refine keepsBut_each (fun _ _ => ?_) ?_
    | dsimp only [id]
    | split)

theorem eff_positionSample_keeps (t : Nat) (s : State) : keepsBut [.free, .sys, .err, .net, .mgt, .tow, .cmp, .str, .pos, .mil, .fir, .nzl, .gat, .mem, .par] s ((fun s => posSample t (if keepRuns s then takeLive s else s)) s) := by
  try dsimp only
  repeat' (first
    | with_reducible exact keepsBut_refl _ _
    | (with_reducible show keepsBut _ _ (takeLive _); with_reducible refine keepsBut_of ?_ (takeLive_keeps _) (by decide))
    | (with_reducible show keepsBut _ _ (posSample _ _); with_reducible refine keepsBut_of ?_ (posSample_keeps _ _) (by decide))
    | with_reducible refine keepsBut_ite ?_ ?_
    | with_reducible refine keepsBut_doIf (fun _ => ?_) ?_
    | with_reducible refine keepsBut_each (fun _ _ => ?_) ?_
    | dsimp only [id]
    | split)

theorem eff_strike_keeps (p : Port) (cmpPs : Int) (s : State) : keepsBut [.free, .sys, .err, .net, .mgt, .tow, .cmp, .str, .fir, .nzl, .gat, .gul, .mem, .par, .cal] s ((strike p cmpPs) s) := by
  try dsimp only
  repeat' (first
    | with_reducible exact keepsBut_refl _ _
    | (with_reducible show keepsBut _ _ (strike _ _ _); with_reducible refine keepsBut_of ?_ (strike_keeps _ _ _) (by decide))
    | with_reducible refine keepsBut_ite ?_ ?_
    | with_reducible refine keepsBut_doIf (fun _ => ?_) ?_
    | with_reducible refine keepsBut_each (fun _ _ => ?_) ?_
    | dsimp only [id]
    | split)

theorem eff_spoolDecodeLine_keeps (spool : Fin 64) (s : State) : keepsBut [.free, .err, .cmp, .str, .mem] s ((spoolServe spool) s) := by
  try dsimp only
  repeat' (first
    | with_reducible exact keepsBut_refl _ _
    | (with_reducible show keepsBut _ _ (spoolServe _ _); with_reducible refine keepsBut_of ?_ (spoolServe_keeps _ _) (by decide))
    | with_reducible refine keepsBut_ite ?_ ?_
    | with_reducible refine keepsBut_doIf (fun _ => ?_) ?_
    | with_reducible refine keepsBut_each (fun _ _ => ?_) ?_
    | dsimp only [id]
    | split)

theorem eff_strandFetchIssue_keeps (n : Seg) (s : State) : keepsBut [.str, .mem] s ((fetchIssue n) s) := by
  try dsimp only
  repeat' (first
    | with_reducible exact keepsBut_refl _ _
    | (with_reducible show keepsBut _ _ (fetchIssue _ _); with_reducible refine keepsBut_of ?_ (fetchIssue_keeps _ _) (by decide))
    | with_reducible refine keepsBut_ite ?_ ?_
    | with_reducible refine keepsBut_doIf (fun _ => ?_) ?_
    | with_reducible refine keepsBut_each (fun _ _ => ?_) ?_
    | dsimp only [id]
    | split)

theorem eff_strandFetchDone_keeps (n : Seg) (s : State) : keepsBut [.sys, .err, .dbg, .mgt, .str, .mem] s ((fun s => match (strand s n).reqs with
      | r :: _ => stageTake 4 [r.tag] r.layer n none (fetchDone n) s
      | [] => s) s) := by
  try dsimp only
  repeat' (first
    | with_reducible exact keepsBut_refl _ _
    | (with_reducible show keepsBut _ _ (stageTake _ _ _ _ _ _ _); with_reducible refine keepsBut_of ?_ (stageTake_keeps (qs := [.sys, .err, .dbg, .mgt, .str, .mem]) (by decide) (fun _ => ?_) _ _ _ _ _ _) (fun _ m => m))
    | (with_reducible show keepsBut _ _ (fetchDone _ _); with_reducible refine keepsBut_of ?_ (fetchDone_keeps _ _) (by decide))
    | with_reducible refine keepsBut_ite ?_ ?_
    | with_reducible refine keepsBut_doIf (fun _ => ?_) ?_
    | with_reducible refine keepsBut_each (fun _ _ => ?_) ?_
    | dsimp only [id]
    | split)

theorem eff_spdAdvFrame_keeps (s : State) : keepsBut [.str] s ((fun s =>
    let w := advWord s
    emit (.spdAdv (advBits w)) (mStr (fun t => { t with advWord := w, advSeq := (t.advSeq + 1) % 4 }) s)) s) := by
  try dsimp only
  repeat' (first
    | with_reducible exact keepsBut_refl _ _
    | (with_reducible show keepsBut _ _ (emit _ _); with_reducible refine keepsBut_of ?_ (emit_keeps _ _) (by decide))
    | (with_reducible show keepsBut _ _ (mStr _ _); with_reducible refine keepsBut_of ?_ (mStr_keeps _ _) (by decide))
    | with_reducible refine keepsBut_ite ?_ ?_
    | with_reducible refine keepsBut_doIf (fun _ => ?_) ?_
    | with_reducible refine keepsBut_each (fun _ _ => ?_) ?_
    | dsimp only [id]
    | split)

theorem eff_nozzleMapLine_keeps (s : State) : keepsBut [.sys, .err, .dbg, .mgt, .tow, .fir, .nzl] s (mapNext s) := by
  try dsimp only
  repeat' (first
    | with_reducible exact keepsBut_refl _ _
    | (with_reducible show keepsBut _ _ (mapNext _); with_reducible refine keepsBut_of ?_ (mapNext_keeps _) (by decide))
    | with_reducible refine keepsBut_ite ?_ ?_
    | with_reducible refine keepsBut_doIf (fun _ => ?_) ?_
    | with_reducible refine keepsBut_each (fun _ _ => ?_) ?_
    | dsimp only [id]
    | split)

theorem eff_detourLaneFree_keeps (src : BitVec 18) (tgt : BitVec 18) (s : State) : keepsBut [.nzl] s ((mNzl (fun z => { z with lanes := z.lanes.filter (fun l => !(l.src == src.toNat && l.tgt == tgt.toNat && l.freeing.isSome)) })) s) := by
  try dsimp only
  repeat' (first
    | with_reducible exact keepsBut_refl _ _
    | (with_reducible show keepsBut _ _ (mNzl _ _); with_reducible refine keepsBut_of ?_ (mNzl_keeps _ _) (by decide))
    | with_reducible refine keepsBut_ite ?_ ?_
    | with_reducible refine keepsBut_doIf (fun _ => ?_) ?_
    | with_reducible refine keepsBut_each (fun _ _ => ?_) ?_
    | dsimp only [id]
    | split)

theorem eff_staggerLine_keeps (n : Seg) (s : State) : keepsBut [.sys, .err, .dbg, .mgt, .fir, .mem] s ((fun s =>
      match staggerNext s n with
      | some (t, l) => stageTake 6 [t.k, n] l.layer n (some t.lc) (staggerLine n t l) s
      | none => s) s) := by
  try dsimp only
  repeat' (first
    | with_reducible exact keepsBut_refl _ _
    | (with_reducible show keepsBut _ _ (stageTake _ _ _ _ _ _ _); with_reducible refine keepsBut_of ?_ (stageTake_keeps (qs := [.sys, .err, .dbg, .mgt, .fir, .mem]) (by decide) (fun _ => ?_) _ _ _ _ _ _) (fun _ m => m))
    | (with_reducible show keepsBut _ _ (staggerLine _ _ _ _); with_reducible refine keepsBut_of ?_ (staggerLine_keeps _ _ _ _) (by decide))
    | with_reducible refine keepsBut_ite ?_ ?_
    | with_reducible refine keepsBut_doIf (fun _ => ?_) ?_
    | with_reducible refine keepsBut_each (fun _ _ => ?_) ?_
    | dsimp only [id]
    | split)

theorem eff_frameBuild_keeps (p : Port) (s : State) : keepsBut [.sys, .err, .dbg, .mgt, .tow, .fir, .gul, .mem, .lmp, .par] s ((fun s =>
    match buildNext s p with
    | some t => if t.mark = .null then frameBuild p t s else stageTake 7 [t.k, p] t.layer p (some t.lc) (frameBuild p t) s
    | none => s) s) := by
  try dsimp only
  repeat' (first
    | with_reducible exact keepsBut_refl _ _
    | (with_reducible show keepsBut _ _ (stageTake _ _ _ _ _ _ _); with_reducible refine keepsBut_of ?_ (stageTake_keeps (qs := [.sys, .err, .dbg, .mgt, .tow, .fir, .gul, .mem, .lmp, .par]) (by decide) (fun _ => ?_) _ _ _ _ _ _) (fun _ m => m))
    | (with_reducible show keepsBut _ _ (frameBuild _ _ _); with_reducible refine keepsBut_of ?_ (frameBuild_keeps _ _ _) (by decide))
    | with_reducible refine keepsBut_ite ?_ ?_
    | with_reducible refine keepsBut_doIf (fun _ => ?_) ?_
    | with_reducible refine keepsBut_each (fun _ _ => ?_) ?_
    | dsimp only [id]
    | split)

theorem eff_lineFrameSend_keeps (p : Port) (late : Bool) (s : State) : keepsBut [.sys, .err, .dbg, .mgt, .tow, .fir, .gul] s ((fun s =>
    match sendNext s p with
    | some (t, f) => if f.null then frameSend p late t f s else stageTake 8 [t.k, p] t.layer p (some t.lc) (frameSend p late t f) s
    | none => s) s) := by
  try dsimp only
  repeat' (first
    | with_reducible exact keepsBut_refl _ _
    | (with_reducible show keepsBut _ _ (frameSend _ _ _ _ _); with_reducible refine keepsBut_of ?_ (frameSend_keeps _ _ _ _ _) (by decide))
    | (with_reducible show keepsBut _ _ (stageTake _ _ _ _ _ _ _); with_reducible refine keepsBut_of ?_ (stageTake_keeps (qs := [.sys, .err, .dbg, .mgt, .tow, .fir, .gul]) (by decide) (fun _ => ?_) _ _ _ _ _ _) (fun _ m => m))
    | with_reducible refine keepsBut_ite ?_ ?_
    | with_reducible refine keepsBut_doIf (fun _ => ?_) ?_
    | with_reducible refine keepsBut_each (fun _ _ => ?_) ?_
    | dsimp only [id]
    | split)

theorem eff_towDrop_keeps (rx : Arrival) (ss : Session) (d : Bytes) (s : State) : keepsBut [.err, .net, .tow] s ((towRx rx ss (fun _ s =>
    let c := towDropCase d
    raiseLim .notice Err.towDrop (sessKey ss) (ms 1) [c, if c = 3 then 0 else towLayer d]
      (mTow (fun t => { t with cntDrop := t.cntDrop + 1 }) s))) s) := by
  try dsimp only
  repeat' (first
    | with_reducible exact keepsBut_refl _ _
    | (with_reducible show keepsBut _ _ (towRx _ _ _ _); with_reducible refine keepsBut_of ?_ (towRx_keeps (qs := [.err, .net, .tow]) (by decide) (fun _ _ => ?_) _ _ _) (fun _ m => m))
    | (with_reducible show keepsBut _ _ (raiseLim _ _ _ _ _ _); with_reducible refine keepsBut_of ?_ (raiseLim_keeps _ _ _ _ _ _) (by decide))
    | (with_reducible show keepsBut _ _ (mTow _ _); with_reducible refine keepsBut_of ?_ (mTow_keeps _ _) (by decide))
    | with_reducible refine keepsBut_ite ?_ ?_
    | with_reducible refine keepsBut_doIf (fun _ => ?_) ?_
    | with_reducible refine keepsBut_each (fun _ _ => ?_) ?_
    | dsimp only [id]
    | split)

theorem eff_towlineReservedType_keeps (rx : Arrival) (ss : Session) (d : Bytes) (s : State) : keepsBut [.err, .net, .tow] s ((towRx rx ss (fun np s =>
    match towHeaderBad d with
    | some o => sendNak (some np) ss (towLayer d) { reason := 2, detail := o } s
    | none => sendNak (some np) ss (towLayer d) { reason := 3, detail := byteAt d 3 } s)) s) := by
  try dsimp only
  repeat' (first
    | with_reducible exact keepsBut_refl _ _
    | (with_reducible show keepsBut _ _ (towRx _ _ _ _); with_reducible refine keepsBut_of ?_ (towRx_keeps (qs := [.err, .net, .tow]) (by decide) (fun _ _ => ?_) _ _ _) (fun _ m => m))
    | (with_reducible show keepsBut _ _ (sendNak _ _ _ _ _); with_reducible refine keepsBut_of ?_ (sendNak_keeps _ _ _ _ _) (by decide))
    | with_reducible refine keepsBut_ite ?_ ?_
    | with_reducible refine keepsBut_doIf (fun _ => ?_) ?_
    | with_reducible refine keepsBut_each (fun _ _ => ?_) ?_
    | dsimp only [id]
    | split)

theorem eff_layerAnnounce_keeps (rx : Arrival) (ss : Session) (d : Bytes) (s : State) : keepsBut [.err, .net, .mgt, .tow, .mem] s ((towRx rx ss (towEntry ss d (fun np => announce np ss d))) s) := by
  try dsimp only
  repeat' (first
    | with_reducible exact keepsBut_refl _ _
    | (with_reducible show keepsBut _ _ (towRx _ _ _ _); with_reducible refine keepsBut_of ?_ (towRx_keeps (qs := [.err, .net, .mgt, .tow, .mem]) (by decide) (fun _ _ => ?_) _ _ _) (fun _ m => m))
    | (with_reducible show keepsBut _ _ (towEntry _ _ _ _ _); with_reducible refine keepsBut_of ?_ (towEntry_keeps (qs := [.err, .net, .mgt, .tow, .mem]) (by decide) (fun _ _ => ?_) _ _ _ _) (fun _ m => m))
    | (with_reducible show keepsBut _ _ (announce _ _ _ _); with_reducible refine keepsBut_of ?_ (announce_keeps _ _ _ _) (by decide))
    | with_reducible refine keepsBut_ite ?_ ?_
    | with_reducible refine keepsBut_doIf (fun _ => ?_) ?_
    | with_reducible refine keepsBut_each (fun _ _ => ?_) ?_
    | dsimp only [id]
    | split)

theorem eff_blockData_keeps (rx : Arrival) (ss : Session) (d : Bytes) (s : State) : keepsBut [.sys, .err, .dbg, .net, .mgt, .tow, .cmp, .str, .mem, .par] s ((towRx rx ss (towEntry ss d (fun np => towOwned np ss d (beAt d 16 4) goneUnknown (fragCheck np ss d)))) s) := by
  try dsimp only
  repeat' (first
    | with_reducible exact keepsBut_refl _ _
    | (with_reducible show keepsBut _ _ (towRx _ _ _ _); with_reducible refine keepsBut_of ?_ (towRx_keeps (qs := [.sys, .err, .dbg, .net, .mgt, .tow, .cmp, .str, .mem, .par]) (by decide) (fun _ _ => ?_) _ _ _) (fun _ m => m))
    | (with_reducible show keepsBut _ _ (towEntry _ _ _ _ _); with_reducible refine keepsBut_of ?_ (towEntry_keeps (qs := [.sys, .err, .dbg, .net, .mgt, .tow, .cmp, .str, .mem, .par]) (by decide) (fun _ _ => ?_) _ _ _ _) (fun _ m => m))
    | (with_reducible show keepsBut _ _ (towOwned _ _ _ _ _ _ _); with_reducible refine keepsBut_of ?_ (towOwned_keeps (qs := [.sys, .err, .dbg, .net, .mgt, .tow, .cmp, .str, .mem, .par]) (by decide) (fun _ _ => ?_) _ _ _ _ _ _) (fun _ m => m))
    | (with_reducible show keepsBut _ _ (fragCheck _ _ _ _ _); with_reducible refine keepsBut_of ?_ (fragCheck_keeps _ _ _ _ _) (by decide))
    | with_reducible refine keepsBut_ite ?_ ?_
    | with_reducible refine keepsBut_doIf (fun _ => ?_) ?_
    | with_reducible refine keepsBut_each (fun _ _ => ?_) ?_
    | dsimp only [id]
    | split)

theorem eff_layerClose_keeps (rx : Arrival) (ss : Session) (d : Bytes) (s : State) : keepsBut [.err, .net, .mgt, .tow, .str, .par] s ((towRx rx ss (towEntry ss d (fun np => towOwned np ss d 0xFFFFFFFF goneUnknown (closeMsg np d)))) s) := by
  try dsimp only
  repeat' (first
    | with_reducible exact keepsBut_refl _ _
    | (with_reducible show keepsBut _ _ (towRx _ _ _ _); with_reducible refine keepsBut_of ?_ (towRx_keeps (qs := [.err, .net, .mgt, .tow, .str, .par]) (by decide) (fun _ _ => ?_) _ _ _) (fun _ m => m))
    | (with_reducible show keepsBut _ _ (towEntry _ _ _ _ _); with_reducible refine keepsBut_of ?_ (towEntry_keeps (qs := [.err, .net, .mgt, .tow, .str, .par]) (by decide) (fun _ _ => ?_) _ _ _ _) (fun _ m => m))
    | (with_reducible show keepsBut _ _ (towOwned _ _ _ _ _ _ _); with_reducible refine keepsBut_of ?_ (towOwned_keeps (qs := [.err, .net, .mgt, .tow, .str, .par]) (by decide) (fun _ _ => ?_) _ _ _ _ _ _) (fun _ m => m))
    | (with_reducible show keepsBut _ _ (closeMsg _ _ _ _); with_reducible refine keepsBut_of ?_ (closeMsg_keeps _ _ _ _) (by decide))
    | with_reducible refine keepsBut_ite ?_ ?_
    | with_reducible refine keepsBut_doIf (fun _ => ?_) ?_
    | with_reducible refine keepsBut_each (fun _ _ => ?_) ?_
    | dsimp only [id]
    | split)

theorem eff_layerRestart_keeps (rx : Arrival) (ss : Session) (d : Bytes) (s : State) : keepsBut [.err, .net, .mgt, .tow, .str, .par] s ((towRx rx ss (towEntry ss d (fun np => towOwned np ss d 0xFFFFFFFF goneState (restartMsg np ss d)))) s) := by
  try dsimp only
  repeat' (first
    | with_reducible exact keepsBut_refl _ _
    | (with_reducible show keepsBut _ _ (towRx _ _ _ _); with_reducible refine keepsBut_of ?_ (towRx_keeps (qs := [.err, .net, .mgt, .tow, .str, .par]) (by decide) (fun _ _ => ?_) _ _ _) (fun _ m => m))
    | (with_reducible show keepsBut _ _ (towEntry _ _ _ _ _); with_reducible refine keepsBut_of ?_ (towEntry_keeps (qs := [.err, .net, .mgt, .tow, .str, .par]) (by decide) (fun _ _ => ?_) _ _ _ _) (fun _ m => m))
    | (with_reducible show keepsBut _ _ (towOwned _ _ _ _ _ _ _); with_reducible refine keepsBut_of ?_ (towOwned_keeps (qs := [.err, .net, .mgt, .tow, .str, .par]) (by decide) (fun _ _ => ?_) _ _ _ _ _ _) (fun _ m => m))
    | (with_reducible show keepsBut _ _ (restartMsg _ _ _ _ _); with_reducible refine keepsBut_of ?_ (restartMsg_keeps _ _ _ _ _) (by decide))
    | with_reducible refine keepsBut_ite ?_ ?_
    | with_reducible refine keepsBut_doIf (fun _ => ?_) ?_
    | with_reducible refine keepsBut_each (fun _ _ => ?_) ?_
    | dsimp only [id]
    | split)

theorem eff_layerRelease_keeps (rx : Arrival) (ss : Session) (d : Bytes) (s : State) : keepsBut [.err, .net, .mgt, .tow, .cmp, .str, .fir, .mem, .par] s ((towRx rx ss (towEntry ss d (fun np => releaseMsg np ss d))) s) := by
  try dsimp only
  repeat' (first
    | with_reducible exact keepsBut_refl _ _
    | (with_reducible show keepsBut _ _ (towRx _ _ _ _); with_reducible refine keepsBut_of ?_ (towRx_keeps (qs := [.err, .net, .mgt, .tow, .cmp, .str, .fir, .mem, .par]) (by decide) (fun _ _ => ?_) _ _ _) (fun _ m => m))
    | (with_reducible show keepsBut _ _ (towEntry _ _ _ _ _); with_reducible refine keepsBut_of ?_ (towEntry_keeps (qs := [.err, .net, .mgt, .tow, .cmp, .str, .fir, .mem, .par]) (by decide) (fun _ _ => ?_) _ _ _ _) (fun _ m => m))
    | (with_reducible show keepsBut _ _ (releaseMsg _ _ _ _); with_reducible refine keepsBut_of ?_ (releaseMsg_keeps _ _ _ _) (by decide))
    | with_reducible refine keepsBut_ite ?_ ?_
    | with_reducible refine keepsBut_doIf (fun _ => ?_) ?_
    | with_reducible refine keepsBut_each (fun _ _ => ?_) ?_
    | dsimp only [id]
    | split)

theorem eff_statusReq_keeps (rx : Arrival) (ss : Session) (d : Bytes) (s : State) : keepsBut [.err, .net, .tow] s ((towRx rx ss (towEntry ss d (fun np => statusMsgReq np ss d))) s) := by
  try dsimp only
  repeat' (first
    | with_reducible exact keepsBut_refl _ _
    | (with_reducible show keepsBut _ _ (towRx _ _ _ _); with_reducible refine keepsBut_of ?_ (towRx_keeps (qs := [.err, .net, .tow]) (by decide) (fun _ _ => ?_) _ _ _) (fun _ m => m))
    | (with_reducible show keepsBut _ _ (towEntry _ _ _ _ _); with_reducible refine keepsBut_of ?_ (towEntry_keeps (qs := [.err, .net, .tow]) (by decide) (fun _ _ => ?_) _ _ _ _) (fun _ m => m))
    | (with_reducible show keepsBut _ _ (statusMsgReq _ _ _ _); with_reducible refine keepsBut_of ?_ (statusMsgReq_keeps _ _ _ _) (by decide))
    | with_reducible refine keepsBut_ite ?_ ?_
    | with_reducible refine keepsBut_doIf (fun _ => ?_) ?_
    | with_reducible refine keepsBut_each (fun _ _ => ?_) ?_
    | dsimp only [id]
    | split)

theorem eff_ackTimer_keeps (layer : Word) (s : State) : keepsBut [.net, .tow] s ((fun s => match layerOf s layer.toNat with | some l => sendAck none l.sess l.id s | none => s) s) := by
  try dsimp only
  repeat' (first
    | with_reducible exact keepsBut_refl _ _
    | (with_reducible show keepsBut _ _ (sendAck _ _ _ _); with_reducible refine keepsBut_of ?_ (sendAck_keeps _ _ _ _) (by decide))
    | with_reducible refine keepsBut_ite ?_ ?_
    | with_reducible refine keepsBut_doIf (fun _ => ?_) ?_
    | with_reducible refine keepsBut_each (fun _ _ => ?_) ?_
    | dsimp only [id]
    | split)

theorem eff_fragmentWritten_keeps (s : State) : keepsBut [.err, .net, .mgt, .tow, .str, .mem, .par] s (fragWritten s) := by
  try dsimp only
  repeat' (first
    | with_reducible exact keepsBut_refl _ _
    | (with_reducible show keepsBut _ _ (fragWritten _); with_reducible refine keepsBut_of ?_ (fragWritten_keeps _) (by decide))
    | with_reducible refine keepsBut_ite ?_ ?_
    | with_reducible refine keepsBut_doIf (fun _ => ?_) ?_
    | with_reducible refine keepsBut_each (fun _ _ => ?_) ?_
    | dsimp only [id]
    | split)

theorem eff_compressorStart_keeps (s : State) : keepsBut [.tow, .cmp, .mem] s (compStart s) := by
  try dsimp only
  repeat' (first
    | with_reducible exact keepsBut_refl _ _
    | (with_reducible show keepsBut _ _ (compStart _); with_reducible refine keepsBut_of ?_ (compStart_keeps _) (by decide))
    | with_reducible refine keepsBut_ite ?_ ?_
    | with_reducible refine keepsBut_doIf (fun _ => ?_) ?_
    | with_reducible refine keepsBut_each (fun _ _ => ?_) ?_
    | dsimp only [id]
    | split)

theorem eff_chainDrain_keeps (c : Fin 2) (s : State) : keepsBut [.cmp, .mem] s ((chainDrain c) s) := by
  try dsimp only
  repeat' (first
    | with_reducible exact keepsBut_refl _ _
    | (with_reducible show keepsBut _ _ (chainDrain _ _); with_reducible refine keepsBut_of ?_ (chainDrain_keeps _ _) (by decide))
    | with_reducible refine keepsBut_ite ?_ ?_
    | with_reducible refine keepsBut_doIf (fun _ => ?_) ?_
    | with_reducible refine keepsBut_each (fun _ _ => ?_) ?_
    | dsimp only [id]
    | split)

theorem eff_compressAbandon_keeps (c : Fin 2) (s : State) : keepsBut [.err, .net, .mgt, .tow, .cmp, .str, .mem, .par] s ((compRaw c) s) := by
  try dsimp only
  repeat' (first
    | with_reducible exact keepsBut_refl _ _
    | (with_reducible show keepsBut _ _ (compRaw _ _); with_reducible refine keepsBut_of ?_ (compRaw_keeps _ _) (by decide))
    | with_reducible refine keepsBut_ite ?_ ?_
    | with_reducible refine keepsBut_doIf (fun _ => ?_) ?_
    | with_reducible refine keepsBut_each (fun _ _ => ?_) ?_
    | dsimp only [id]
    | split)

theorem eff_compressionComplete_keeps (c : Fin 2) (s : State) : keepsBut [.err, .net, .mgt, .tow, .cmp, .str, .mem, .par] s ((compDone c) s) := by
  try dsimp only
  repeat' (first
    | with_reducible exact keepsBut_refl _ _
    | (with_reducible show keepsBut _ _ (compDone _ _); with_reducible refine keepsBut_of ?_ (compDone_keeps _ _) (by decide))
    | with_reducible refine keepsBut_ite ?_ ?_
    | with_reducible refine keepsBut_doIf (fun _ => ?_) ?_
    | with_reducible refine keepsBut_each (fun _ _ => ?_) ?_
    | dsimp only [id]
    | split)

theorem eff_nozzleSwap_keeps (s : State) : keepsBut [.free, .err, .tow, .fir, .nzl, .gat, .mem] s ((fun s => match nzDue s with | some c => nzSwapDue c s | none => s) s) := by
  try dsimp only
  repeat' (first
    | with_reducible exact keepsBut_refl _ _
    | (with_reducible show keepsBut _ _ (nzSwapDue _ _); with_reducible refine keepsBut_of ?_ (nzSwapDue_keeps _ _) (by decide))
    | with_reducible refine keepsBut_ite ?_ ?_
    | with_reducible refine keepsBut_doIf (fun _ => ?_) ?_
    | with_reducible refine keepsBut_each (fun _ _ => ?_) ?_
    | dsimp only [id]
    | split)

theorem eff_gateSweepBegin_keeps (g : Gate) (s : State) : keepsBut [.gat] s ((gateBegin g) s) := by
  try dsimp only
  repeat' (first
    | with_reducible exact keepsBut_refl _ _
    | (with_reducible show keepsBut _ _ (gateBegin _ _); with_reducible refine keepsBut_of ?_ (gateBegin_keeps _ _) (by decide))
    | with_reducible refine keepsBut_ite ?_ ?_
    | with_reducible refine keepsBut_doIf (fun _ => ?_) ?_
    | with_reducible refine keepsBut_each (fun _ _ => ?_) ?_
    | dsimp only [id]
    | split)

theorem eff_gateTestStrike_keeps (g : Gate) (s : State) : keepsBut [.gat, .gul] s ((gateStrike g) s) := by
  try dsimp only
  repeat' (first
    | with_reducible exact keepsBut_refl _ _
    | (with_reducible show keepsBut _ _ (gateStrike _ _); with_reducible refine keepsBut_of ?_ (gateStrike_keeps _ _) (by decide))
    | with_reducible refine keepsBut_ite ?_ ?_
    | with_reducible refine keepsBut_doIf (fun _ => ?_) ?_
    | with_reducible refine keepsBut_each (fun _ _ => ?_) ?_
    | dsimp only [id]
    | split)

theorem eff_gateEdge_keeps (g : Gate) (t : Nat) (s : State) : keepsBut [.gat] s ((fun s => gateSeen s g t) s) := by
  try dsimp only
  repeat' (first
    | with_reducible exact keepsBut_refl _ _
    | (with_reducible show keepsBut _ _ (gateSeen _ _ _); with_reducible refine keepsBut_of ?_ (gateSeen_keeps _ _ _) (by decide))
    | with_reducible refine keepsBut_ite ?_ ?_
    | with_reducible refine keepsBut_doIf (fun _ => ?_) ?_
    | with_reducible refine keepsBut_each (fun _ _ => ?_) ?_
    | dsimp only [id]
    | split)

theorem eff_gateSlotResult_keeps (g : Gate) (noise : Bool) (s : State) : keepsBut [.free, .err, .tow, .fir, .nzl, .gat, .mem, .par] s ((gateSlotEnd g noise) s) := by
  try dsimp only
  repeat' (first
    | with_reducible exact keepsBut_refl _ _
    | (with_reducible show keepsBut _ _ (gateSlotEnd _ _ _); with_reducible refine keepsBut_of ?_ (gateSlotEnd_keeps _ _ _) (by decide))
    | with_reducible refine keepsBut_ite ?_ ?_
    | with_reducible refine keepsBut_doIf (fun _ => ?_) ?_
    | with_reducible refine keepsBut_each (fun _ _ => ?_) ?_
    | dsimp only [id]
    | split)

theorem eff_linkAttempt_keeps (lane : RxLane) (s : State) : keepsBut [.gul, .par] s ((fun s => match lane with
    | .head p =>
      let blind := bit (gulCtl s p) 30
      laneSend p (if blind then trainSet s p false else fastExit s p)
        (mHead p (fun h => { h with waiting := false, st := if blind then .poll else .detect }) s)
    | .tether l => laneSend (64 + l) (fastExit s (64 + l)) (mTeth l (fun t => { t with waiting := false }) s)) s) := by
  try dsimp only
  repeat' (first
    | with_reducible exact keepsBut_refl _ _
    | (with_reducible show keepsBut _ _ (laneSend _ _ _); with_reducible refine keepsBut_of ?_ (laneSend_keeps _ _ _) (by decide))
    | (with_reducible show keepsBut _ _ (mHead _ _ _); with_reducible refine keepsBut_of ?_ (mHead_keeps _ _ _) (by decide))
    | (with_reducible show keepsBut _ _ (mTeth _ _ _); with_reducible refine keepsBut_of ?_ (mTeth_keeps _ _ _) (by decide))
    | with_reducible refine keepsBut_ite ?_ ?_
    | with_reducible refine keepsBut_doIf (fun _ => ?_) ?_
    | with_reducible refine keepsBut_each (fun _ _ => ?_) ?_
    | dsimp only [id]
    | split)

theorem eff_linkSignalDetect_keeps (lane : RxLane) (s : State) : keepsBut [.gul, .par] s ((fun s => match lane with
    | .head p => laneSend p (trainSet s p false) (mHead p (fun h => { h with st := .poll }) s)
    | .tether l => tethTrain l false (mTeth l (fun t => { t with st := .poll }) s)) s) := by
  try dsimp only
  repeat' (first
    | with_reducible exact keepsBut_refl _ _
    | (with_reducible show keepsBut _ _ (laneSend _ _ _); with_reducible refine keepsBut_of ?_ (laneSend_keeps _ _ _) (by decide))
    | (with_reducible show keepsBut _ _ (mHead _ _ _); with_reducible refine keepsBut_of ?_ (mHead_keeps _ _ _) (by decide))
    | (with_reducible show keepsBut _ _ (tethTrain _ _ _); with_reducible refine keepsBut_of ?_ (tethTrain_keeps _ _ _) (by decide))
    | (with_reducible show keepsBut _ _ (mTeth _ _ _); with_reducible refine keepsBut_of ?_ (mTeth_keeps _ _ _) (by decide))
    | with_reducible refine keepsBut_ite ?_ ?_
    | with_reducible refine keepsBut_doIf (fun _ => ?_) ?_
    | with_reducible refine keepsBut_each (fun _ _ => ?_) ?_
    | dsimp only [id]
    | split)

theorem eff_linkPollDone_keeps (lane : RxLane) (seen : PollSeen) (s : State) : keepsBut [.gul, .par] s ((fun s => match lane with
    | .head p => laneSend p (trainSet s p true) (mHead p (fun h => { h with st := .lock, rxInv := seen.inverted, scr := 0xFFFF }) s)
    | .tether l => tethTrain l true (mTeth l (fun t => { t with st := .lock, rxInv := seen.inverted, scr := 0xFFFF }) s)) s) := by
  try dsimp only
  repeat' (first
    | with_reducible exact keepsBut_refl _ _
    | (with_reducible show keepsBut _ _ (laneSend _ _ _); with_reducible refine keepsBut_of ?_ (laneSend_keeps _ _ _) (by decide))
    | (with_reducible show keepsBut _ _ (mHead _ _ _); with_reducible refine keepsBut_of ?_ (mHead_keeps _ _ _) (by decide))
    | (with_reducible show keepsBut _ _ (tethTrain _ _ _); with_reducible refine keepsBut_of ?_ (tethTrain_keeps _ _ _) (by decide))
    | (with_reducible show keepsBut _ _ (mTeth _ _ _); with_reducible refine keepsBut_of ?_ (mTeth_keeps _ _ _) (by decide))
    | with_reducible refine keepsBut_ite ?_ ?_
    | with_reducible refine keepsBut_doIf (fun _ => ?_) ?_
    | with_reducible refine keepsBut_each (fun _ _ => ?_) ?_
    | dsimp only [id]
    | split)

theorem eff_linkLockDone_keeps (lane : RxLane) (seen : LockSeen) (s : State) : keepsBut [.gul, .par] s ((fun s => match lane with
    | .head p => cfgSend p ⟨0, false, 0, 16, [], 0, false⟩
        (mHead p (fun h => { h with st := .exchange, step := 1, txSeq := 0, rxSeq := 0, recheck := false, frozen := false }) s)
    | .tether l => tethTrained l seen.skew s) s) := by
  try dsimp only
  repeat' (first
    | with_reducible exact keepsBut_refl _ _
    | (with_reducible show keepsBut _ _ (cfgSend _ _ _); with_reducible refine keepsBut_of ?_ (cfgSend_keeps _ _ _) (by decide))
    | (with_reducible show keepsBut _ _ (mHead _ _ _); with_reducible refine keepsBut_of ?_ (mHead_keeps _ _ _) (by decide))
    | (with_reducible show keepsBut _ _ (tethTrained _ _ _); with_reducible refine keepsBut_of ?_ (tethTrained_keeps _ _ _) (by decide))
    | with_reducible refine keepsBut_ite ?_ ?_
    | with_reducible refine keepsBut_doIf (fun _ => ?_) ?_
    | with_reducible refine keepsBut_each (fun _ _ => ?_) ?_
    | dsimp only [id]
    | split)

theorem eff_linkTimeout_keeps (lane : RxLane) (s : State) : keepsBut [.err, .fir, .gul, .mem, .par] s ((fun s => match lane with
    | .head p => linkFail p (timeoutReason (headPort s p).st) s
    | .tether l => tethFail l s) s) := by
  try dsimp only
  repeat' (first
    | with_reducible exact keepsBut_refl _ _
    | (with_reducible show keepsBut _ _ (linkFail _ _ _); with_reducible refine keepsBut_of ?_ (linkFail_keeps _ _ _) (by decide))
    | (with_reducible show keepsBut _ _ (tethFail _ _); with_reducible refine keepsBut_of ?_ (tethFail_keeps _ _) (by decide))
    | with_reducible refine keepsBut_ite ?_ ?_
    | with_reducible refine keepsBut_doIf (fun _ => ?_) ?_
    | with_reducible refine keepsBut_each (fun _ _ => ?_) ?_
    | dsimp only [id]
    | split)

theorem eff_linkIdleDetect_keeps (lane : RxLane) (s : State) : keepsBut [.err, .tow, .fir, .nzl, .gul, .mem, .par] s ((fun s => match lane, laneState s lane with
    | .head p, .active => portLoss p 7 s
    | .head p, .poll => linkFail p 6 s
    | .head p, .lock => linkFail p 6 s
    | .head p, .exchange => linkFail p 6 s
    | .tether l, .poll => tethFail l s
    | .tether l, .lock => tethFail l s
    | _, _ => s) s) := by
  try dsimp only
  repeat' (first
    | with_reducible exact keepsBut_refl _ _
    | (with_reducible show keepsBut _ _ (linkFail _ _ _); with_reducible refine keepsBut_of ?_ (linkFail_keeps _ _ _) (by decide))
    | (with_reducible show keepsBut _ _ (portLoss _ _ _); with_reducible refine keepsBut_of ?_ (portLoss_keeps _ _ _) (by decide))
    | (with_reducible show keepsBut _ _ (tethFail _ _); with_reducible refine keepsBut_of ?_ (tethFail_keeps _ _) (by decide))
    | with_reducible refine keepsBut_ite ?_ ?_
    | with_reducible refine keepsBut_doIf (fun _ => ?_) ?_
    | with_reducible refine keepsBut_each (fun _ _ => ?_) ?_
    | dsimp only [id]
    | split)

theorem eff_gulistAck_keeps (p : Port) (f : Bytes) (s : State) : keepsBut [.regs, .err, .fir, .gul, .mem] s ((gulAck p f) s) := by
  try dsimp only
  repeat' (first
    | with_reducible exact keepsBut_refl _ _
    | (with_reducible show keepsBut _ _ (gulAck _ _ _); with_reducible refine keepsBut_of ?_ (gulAck_keeps _ _ _) (by decide))
    | with_reducible refine keepsBut_ite ?_ ?_
    | with_reducible refine keepsBut_doIf (fun _ => ?_) ?_
    | with_reducible refine keepsBut_each (fun _ _ => ?_) ?_
    | dsimp only [id]
    | split)

theorem eff_gulistStatusRx_keeps (p : Port) (f : Bytes) (s : State) : keepsBut [.err, .tow, .fir, .nzl, .gul, .mem] s ((gulStatus p f) s) := by
  try dsimp only
  repeat' (first
    | with_reducible exact keepsBut_refl _ _
    | (with_reducible show keepsBut _ _ (gulStatus _ _ _); with_reducible refine keepsBut_of ?_ (gulStatus_keeps _ _ _) (by decide))
    | with_reducible refine keepsBut_ite ?_ ?_
    | with_reducible refine keepsBut_doIf (fun _ => ?_) ?_
    | with_reducible refine keepsBut_each (fun _ _ => ?_) ?_
    | dsimp only [id]
    | split)

theorem eff_statusTimeout_keeps (p : Port) (s : State) : keepsBut [.err, .tow, .fir, .nzl, .gul, .mem] s ((portLoss p 7) s) := by
  try dsimp only
  repeat' (first
    | with_reducible exact keepsBut_refl _ _
    | (with_reducible show keepsBut _ _ (portLoss _ _ _); with_reducible refine keepsBut_of ?_ (portLoss_keeps _ _ _) (by decide))
    | with_reducible refine keepsBut_ite ?_ ?_
    | with_reducible refine keepsBut_doIf (fun _ => ?_) ?_
    | with_reducible refine keepsBut_each (fun _ _ => ?_) ?_
    | dsimp only [id]
    | split)

theorem eff_gulistSense_keeps (p : Port) (f : Bytes) (s : State) : keepsBut [.err, .gul] s ((gulSense p f) s) := by
  try dsimp only
  repeat' (first
    | with_reducible exact keepsBut_refl _ _
    | (with_reducible show keepsBut _ _ (gulSense _ _ _); with_reducible refine keepsBut_of ?_ (gulSense_keeps _ _ _) (by decide))
    | with_reducible refine keepsBut_ite ?_ ?_
    | with_reducible refine keepsBut_doIf (fun _ => ?_) ?_
    | with_reducible refine keepsBut_each (fun _ _ => ?_) ?_
    | dsimp only [id]
    | split)

theorem eff_gulistFrameDiscard_keeps (p : Port) (flaws : RxFlaws) (f : Bytes) (s : State) : keepsBut [.regs, .err, .fir, .gul, .mem] s ((fun s =>
    let r := discStatic flaws f
    let s := gulErrs p flaws.errs s
    if !linkUp s p then s else if r ≠ 0 then gulDiscard p r s else gulAck p f s) s) := by
  try dsimp only
  repeat' (first
    | with_reducible exact keepsBut_refl _ _
    | (with_reducible show keepsBut _ _ (gulErrs _ _ _); with_reducible refine keepsBut_of ?_ (gulErrs_keeps _ _ _) (by decide))
    | (with_reducible show keepsBut _ _ (gulDiscard _ _ _); with_reducible refine keepsBut_of ?_ (gulDiscard_keeps _ _ _) (by decide))
    | (with_reducible show keepsBut _ _ (gulAck _ _ _); with_reducible refine keepsBut_of ?_ (gulAck_keeps _ _ _) (by decide))
    | with_reducible refine keepsBut_ite ?_ ?_
    | with_reducible refine keepsBut_doIf (fun _ => ?_) ?_
    | with_reducible refine keepsBut_each (fun _ _ => ?_) ?_
    | dsimp only [id]
    | split)

theorem eff_cfgTimeout_keeps (p : Port) (s : State) : keepsBut [.gul] s ((cfgExpire p) s) := by
  try dsimp only
  repeat' (first
    | with_reducible exact keepsBut_refl _ _
    | (with_reducible show keepsBut _ _ (cfgExpire _ _); with_reducible refine keepsBut_of ?_ (cfgExpire_keeps _ _) (by decide))
    | with_reducible refine keepsBut_ite ?_ ?_
    | with_reducible refine keepsBut_doIf (fun _ => ?_) ?_
    | with_reducible refine keepsBut_each (fun _ _ => ?_) ?_
    | dsimp only [id]
    | split)

theorem eff_statusSend_keeps (s : State) : keepsBut [.gul] s ((fun s => each (fun p s =>
    if (headPort s p).st = .active then gulDrain p (mHead p (fun h => { h with statDue := true }) s) else s) (List.range 64) s) s) := by
  try dsimp only
  repeat' (first
    | with_reducible exact keepsBut_refl _ _
    | (with_reducible show keepsBut _ _ (gulDrain _ _); with_reducible refine keepsBut_of ?_ (gulDrain_keeps _ _) (by decide))
    | (with_reducible show keepsBut _ _ (mHead _ _ _); with_reducible refine keepsBut_of ?_ (mHead_keeps _ _ _) (by decide))
    | with_reducible refine keepsBut_ite ?_ ?_
    | with_reducible refine keepsBut_doIf (fun _ => ?_) ?_
    | with_reducible refine keepsBut_each (fun _ _ => ?_) ?_
    | dsimp only [id]
    | split)

theorem eff_alignSend_keeps (lane : RxLane) (s : State) : keepsBut [.gul, .par] s ((fun s => match lane with
    | .head p => laneSend p (alignSet (headPort s p).scr) (mHead p (fun h => { h with scr := (scrBytes 6 h.scr).2 }) s)
    | .tether l => laneSend (64 + l) (alignSet (teth s l).scr) (mTeth l (fun t => { t with scr := (scrBytes 6 t.scr).2 }) s)) s) := by
  try dsimp only
  repeat' (first
    | with_reducible exact keepsBut_refl _ _
    | (with_reducible show keepsBut _ _ (laneSend _ _ _); with_reducible refine keepsBut_of ?_ (laneSend_keeps _ _ _) (by decide))
    | (with_reducible show keepsBut _ _ (mHead _ _ _); with_reducible refine keepsBut_of ?_ (mHead_keeps _ _ _) (by decide))
    | (with_reducible show keepsBut _ _ (mTeth _ _ _); with_reducible refine keepsBut_of ?_ (mTeth_keeps _ _ _) (by decide))
    | with_reducible refine keepsBut_ite ?_ ?_
    | with_reducible refine keepsBut_doIf (fun _ => ?_) ?_
    | with_reducible refine keepsBut_each (fun _ _ => ?_) ?_
    | dsimp only [id]
    | split)

theorem eff_alignMissing_keeps (p : Port) (s : State) : keepsBut [.err, .gul] s ((fun s =>
    if (headPort s p).alignLogged then s
    else raiseLim .notice Err.alignMissing p (ms 1) [] (mHead p (fun h => { h with alignLogged := true }) s)) s) := by
  try dsimp only
  repeat' (first
    | with_reducible exact keepsBut_refl _ _
    | (with_reducible show keepsBut _ _ (mHead _ _ _); with_reducible refine keepsBut_of ?_ (mHead_keeps _ _ _) (by decide))
    | (with_reducible show keepsBut _ _ (raiseLim _ _ _ _ _ _); with_reducible refine keepsBut_of ?_ (raiseLim_keeps _ _ _ _ _ _) (by decide))
    | with_reducible refine keepsBut_ite ?_ ?_
    | with_reducible refine keepsBut_doIf (fun _ => ?_) ?_
    | with_reducible refine keepsBut_each (fun _ _ => ?_) ?_
    | dsimp only [id]
    | split)

theorem eff_adaptFreeze_keeps (lane : RxLane) (s : State) : keepsBut [.gul, .par] s ((fun s => match lane with
    | .head p => mHead p (fun h => { h with frozen := true }) s
    | .tether l => mTeth l (fun t => { t with frozen := true }) s) s) := by
  try dsimp only
  repeat' (first
    | with_reducible exact keepsBut_refl _ _
    | (with_reducible show keepsBut _ _ (mHead _ _ _); with_reducible refine keepsBut_of ?_ (mHead_keeps _ _ _) (by decide))
    | (with_reducible show keepsBut _ _ (mTeth _ _ _); with_reducible refine keepsBut_of ?_ (mTeth_keeps _ _ _) (by decide))
    | with_reducible refine keepsBut_ite ?_ ?_
    | with_reducible refine keepsBut_doIf (fun _ => ?_) ?_
    | with_reducible refine keepsBut_each (fun _ _ => ?_) ?_
    | dsimp only [id]
    | split)

theorem eff_eyeScanDone_keeps (mismatches : Nat) (s : State) : keepsBut [.gul] s ((mGul (fun g => { g with eyePort := none, eyeErrs := min mismatches 0xFFFFFFFF, eyeBits := 2 ^ g.eyeDwell / 1024 })) s) := by
  try dsimp only
  repeat' (first
    | with_reducible exact keepsBut_refl _ _
    | (with_reducible show keepsBut _ _ (mGul _ _); with_reducible refine keepsBut_of ?_ (mGul_keeps _ _) (by decide))
    | with_reducible refine keepsBut_ite ?_ ?_
    | with_reducible refine keepsBut_doIf (fun _ => ?_) ?_
    | with_reducible refine keepsBut_each (fun _ _ => ?_) ?_
    | dsimp only [id]
    | split)

theorem eff_camFrameStart_keeps (c : Ctx) (csifn : BitVec 16) (s : State) : keepsBut [.err, .insp] s ((camPacket c (fun s => if ctxEn s c then frameOpen c csifn.toNat s else camIgnore (c.val / 2) s)) s) := by
  try dsimp only
  repeat' (first
    | with_reducible exact keepsBut_refl _ _
    | (with_reducible show keepsBut _ _ (frameOpen _ _ _); with_reducible refine keepsBut_of ?_ (frameOpen_keeps _ _ _) (by decide))
    | (with_reducible show keepsBut _ _ (camIgnore _ _); with_reducible refine keepsBut_of ?_ (camIgnore_keeps _ _) (by decide))
    | (with_reducible show keepsBut _ _ (camPacket _ _ _); with_reducible refine keepsBut_of ?_ (camPacket_keeps (qs := [.err, .insp]) (by decide) (fun _ => ?_) _ _) (fun _ m => m))
    | with_reducible refine keepsBut_ite ?_ ?_
    | with_reducible refine keepsBut_doIf (fun _ => ?_) ?_
    | with_reducible refine keepsBut_each (fun _ _ => ?_) ?_
    | dsimp only [id]
    | split)

theorem eff_camFrameEnd_keeps (c : Ctx) (s : State) : keepsBut [.err, .insp] s ((camPacket c (fun s => if (openFrame s c).isSome then frameClose c s else camNotice Err.camSync c s)) s) := by
  try dsimp only
  repeat' (first
    | with_reducible exact keepsBut_refl _ _
    | (with_reducible show keepsBut _ _ (camNotice _ _ _); with_reducible refine keepsBut_of ?_ (camNotice_keeps _ _ _) (by decide))
    | (with_reducible show keepsBut _ _ (frameClose _ _); with_reducible refine keepsBut_of ?_ (frameClose_keeps _ _) (by decide))
    | (with_reducible show keepsBut _ _ (camPacket _ _ _); with_reducible refine keepsBut_of ?_ (camPacket_keeps (qs := [.err, .insp]) (by decide) (fun _ => ?_) _ _) (fun _ m => m))
    | with_reducible refine keepsBut_ite ?_ ?_
    | with_reducible refine keepsBut_doIf (fun _ => ?_) ?_
    | with_reducible refine keepsBut_each (fun _ _ => ?_) ?_
    | dsimp only [id]
    | split)

theorem eff_camLineRx_keeps (c : Ctx) (pkt : BitVec 6 × Bytes) (crc : BitVec 16) (s : State) : keepsBut [.err, .insp, .mem] s ((camPacket c (camLine c pkt.1.toNat pkt.2 (crc16 pkt.2 == crc))) s) := by
  try dsimp only
  repeat' (first
    | with_reducible exact keepsBut_refl _ _
    | (with_reducible show keepsBut _ _ (camPacket _ _ _); with_reducible refine keepsBut_of ?_ (camPacket_keeps (qs := [.err, .insp, .mem]) (by decide) (fun _ => ?_) _ _) (fun _ m => m))
    | (with_reducible show keepsBut _ _ (camLine _ _ _ _ _); with_reducible refine keepsBut_of ?_ (camLine_keeps _ _ _ _ _) (by decide))
    | with_reducible refine keepsBut_ite ?_ ?_
    | with_reducible refine keepsBut_doIf (fun _ => ?_) ?_
    | with_reducible refine keepsBut_each (fun _ _ => ?_) ?_
    | dsimp only [id]
    | split)

theorem eff_camPacketIgnored_keeps (port : Fin 4) (why : CamIgnored) (s : State) : keepsBut [.err, .insp] s ((fun s => if !camRuns s || !camPortEn s port then s else camOther port why s) s) := by
  try dsimp only
  repeat' (first
    | with_reducible exact keepsBut_refl _ _
    | (with_reducible show keepsBut _ _ (camOther _ _ _); with_reducible refine keepsBut_of ?_ (camOther_keeps _ _ _) (by decide))
    | with_reducible refine keepsBut_ite ?_ ?_
    | with_reducible refine keepsBut_doIf (fun _ => ?_) ?_
    | with_reducible refine keepsBut_each (fun _ _ => ?_) ?_
    | dsimp only [id]
    | split)

theorem eff_stripeProcess_keeps (s : State) : keepsBut [.insp, .mem] s ((fun s => match stripeNext s with | some x => stripeTake x s | none => s) s) := by
  try dsimp only
  repeat' (first
    | with_reducible exact keepsBut_refl _ _
    | (with_reducible show keepsBut _ _ (stripeTake _ _); with_reducible refine keepsBut_of ?_ (stripeTake_keeps _ _) (by decide))
    | with_reducible refine keepsBut_ite ?_ ?_
    | with_reducible refine keepsBut_doIf (fun _ => ?_) ?_
    | with_reducible refine keepsBut_each (fun _ _ => ?_) ?_
    | dsimp only [id]
    | split)

theorem eff_recordWrite_keeps (c : Ctx) (s : State) : keepsBut [.err, .insp, .mem] s ((fun s => match frameReady s c with | some f => recordPut c f s | none => s) s) := by
  try dsimp only
  repeat' (first
    | with_reducible exact keepsBut_refl _ _
    | (with_reducible show keepsBut _ _ (recordPut _ _ _); with_reducible refine keepsBut_of ?_ (recordPut_keeps _ _ _) (by decide))
    | with_reducible refine keepsBut_ite ?_ ?_
    | with_reducible refine keepsBut_doIf (fun _ => ?_) ?_
    | with_reducible refine keepsBut_each (fun _ _ => ?_) ?_
    | dsimp only [id]
    | split)

theorem eff_streakDetect_keeps (c : Ctx) (s : State) : keepsBut [.free, .err, .tow, .fir, .nzl, .gat, .insp, .mem, .par] s ((fun s => match frameReady s c with | some f => streakRun c f s | none => s) s) := by
  try dsimp only
  repeat' (first
    | with_reducible exact keepsBut_refl _ _
    | (with_reducible show keepsBut _ _ (streakRun _ _ _); with_reducible refine keepsBut_of ?_ (streakRun_keeps _ _ _) (by decide))
    | with_reducible refine keepsBut_ite ?_ ?_
    | with_reducible refine keepsBut_doIf (fun _ => ?_) ?_
    | with_reducible refine keepsBut_each (fun _ _ => ?_) ?_
    | dsimp only [id]
    | split)

theorem eff_dramIssue_keeps (ch : Chan) (cmdBad : Bool) (s : State) : keepsBut [.free, .sys, .err, .dbg, .mgt, .tow, .cmp, .str, .mem] s ((fun s => match chanNext s ch with
    | .unit u =>
      let o := tagOwner s u.tag
      stageTake 3 [ch.val, u.ca, u.tag] o.1 o.2 none (dramIssue ch cmdBad) s
    | _ => dramIssue ch cmdBad s) s) := by
  try dsimp only
  repeat' (first
    | with_reducible exact keepsBut_refl _ _
    | (with_reducible show keepsBut _ _ (stageTake _ _ _ _ _ _ _); with_reducible refine keepsBut_of ?_ (stageTake_keeps (qs := [.free, .sys, .err, .dbg, .mgt, .tow, .cmp, .str, .mem]) (by decide) (fun _ => ?_) _ _ _ _ _ _) (fun _ m => m))
    | (with_reducible show keepsBut _ _ (dramIssue _ _ _); with_reducible refine keepsBut_of ?_ (dramIssue_keeps _ _ _) (by decide))
    | with_reducible refine keepsBut_ite ?_ ?_
    | with_reducible refine keepsBut_doIf (fun _ => ?_) ?_
    | with_reducible refine keepsBut_each (fun _ _ => ?_) ?_
    | dsimp only [id]
    | split)

theorem eff_dramReadReturn_keeps (ch : Chan) (e : List Flip) (s : State) : keepsBut [.free, .err, .dbg, .tow, .cmp, .str, .mem] s ((dramReturn ch e) s) := by
  try dsimp only
  repeat' (first
    | with_reducible exact keepsBut_refl _ _
    | (with_reducible show keepsBut _ _ (dramReturn _ _ _); with_reducible refine keepsBut_of ?_ (dramReturn_keeps _ _ _) (by decide))
    | with_reducible refine keepsBut_ite ?_ ?_
    | with_reducible refine keepsBut_doIf (fun _ => ?_) ?_
    | with_reducible refine keepsBut_each (fun _ _ => ?_) ?_
    | dsimp only [id]
    | split)

theorem eff_refreshDue_keeps (ch : Chan) (s : State) : keepsBut [.mem] s ((refreshFalls ch) s) := by
  try dsimp only
  repeat' (first
    | with_reducible exact keepsBut_refl _ _
    | (with_reducible show keepsBut _ _ (refreshFalls _ _); with_reducible refine keepsBut_of ?_ (refreshFalls_keeps _ _) (by decide))
    | with_reducible refine keepsBut_ite ?_ ?_
    | with_reducible refine keepsBut_doIf (fun _ => ?_) ?_
    | with_reducible refine keepsBut_each (fun _ _ => ?_) ?_
    | dsimp only [id]
    | split)

theorem eff_verifySlice_keeps (ch : Chan) (got0 : Bytes) (got1 : Bytes) (s : State) : keepsBut [.free, .err, .dbg, .net, .mgt, .tow, .plc, .cmp, .str, .fir, .mem] s ((verifyStep ch got0 got1) s) := by
  try dsimp only
  repeat' (first
    | with_reducible exact keepsBut_refl _ _
    | (with_reducible show keepsBut _ _ (verifyStep _ _ _ _); with_reducible refine keepsBut_of ?_ (verifyStep_keeps _ _ _ _) (by decide))
    | with_reducible refine keepsBut_ite ?_ ?_
    | with_reducible refine keepsBut_doIf (fun _ => ?_) ?_
    | with_reducible refine keepsBut_each (fun _ _ => ?_) ?_
    | dsimp only [id]
    | split)

theorem eff_bankRead_keeps (b : Bank) (r : Fin 4) (off : Nat) (len : Nat) (e : List Flip) (s : State) : keepsBut [.err, .mem] s ((bankOp b r off len 1 e (fun s => bankAnswer b r (some (bankBytes s b off len)) s)) s) := by
  try dsimp only
  repeat' (first
    | with_reducible exact keepsBut_refl _ _
    | (with_reducible show keepsBut _ _ (bankOp _ _ _ _ _ _ _ _); with_reducible refine keepsBut_of ?_ (bankOp_keeps (qs := [.err, .mem]) (by decide) (fun _ => ?_) _ _ _ _ _ _ _) (fun _ m => m))
    | (with_reducible show keepsBut _ _ (bankAnswer _ _ _ _); with_reducible refine keepsBut_of ?_ (bankAnswer_keeps _ _ _ _) (by decide))
    | with_reducible refine keepsBut_ite ?_ ?_
    | with_reducible refine keepsBut_doIf (fun _ => ?_) ?_
    | with_reducible refine keepsBut_each (fun _ _ => ?_) ?_
    | dsimp only [id]
    | split)

theorem eff_bankWrite_keeps (b : Bank) (r : Fin 4) (off : Nat) (data : Bytes) (e : List Flip) (s : State) : keepsBut [.err, .tow, .fir, .nzl, .gat, .mem] s ((bankOp b r off data.length 1 e (bankStore b r off data [])) s) := by
  try dsimp only
  repeat' (first
    | with_reducible exact keepsBut_refl _ _
    | (with_reducible show keepsBut _ _ (bankOp _ _ _ _ _ _ _ _); with_reducible refine keepsBut_of ?_ (bankOp_keeps (qs := [.err, .tow, .fir, .nzl, .gat, .mem]) (by decide) (fun _ => ?_) _ _ _ _ _ _ _) (fun _ m => m))
    | (with_reducible show keepsBut _ _ (bankStore _ _ _ _ _ _); with_reducible refine keepsBut_of ?_ (bankStore_keeps _ _ _ _ _ _) (by decide))
    | with_reducible refine keepsBut_ite ?_ ?_
    | with_reducible refine keepsBut_doIf (fun _ => ?_) ?_
    | with_reducible refine keepsBut_each (fun _ _ => ?_) ?_
    | dsimp only [id]
    | split)

theorem eff_bankAdd_keeps (b : Bank) (r : Fin 4) (off : Nat) (v : Word) (e : List Flip) (s : State) : keepsBut [.err, .tow, .fir, .nzl, .gat, .mem] s ((bankOp b r off 4 4 e (fun s => bankStore b r off (bankSum s b off false v.toNat) [] s)) s) := by
  try dsimp only
  repeat' (first
    | with_reducible exact keepsBut_refl _ _
    | (with_reducible show keepsBut _ _ (bankOp _ _ _ _ _ _ _ _); with_reducible refine keepsBut_of ?_ (bankOp_keeps (qs := [.err, .tow, .fir, .nzl, .gat, .mem]) (by decide) (fun _ => ?_) _ _ _ _ _ _ _) (fun _ m => m))
    | (with_reducible show keepsBut _ _ (bankStore _ _ _ _ _ _); with_reducible refine keepsBut_of ?_ (bankStore_keeps _ _ _ _ _ _) (by decide))
    | with_reducible refine keepsBut_ite ?_ ?_
    | with_reducible refine keepsBut_doIf (fun _ => ?_) ?_
    | with_reducible refine keepsBut_each (fun _ _ => ?_) ?_
    | dsimp only [id]
    | split)

theorem eff_bankAddSat_keeps (b : Bank) (r : Fin 4) (off : Nat) (v : Word) (e : List Flip) (s : State) : keepsBut [.err, .tow, .fir, .nzl, .gat, .mem] s ((bankOp b r off 4 4 e (fun s => bankStore b r off (bankSum s b off true v.toNat) [] s)) s) := by
  try dsimp only
  repeat' (first
    | with_reducible exact keepsBut_refl _ _
    | (with_reducible show keepsBut _ _ (bankOp _ _ _ _ _ _ _ _); with_reducible refine keepsBut_of ?_ (bankOp_keeps (qs := [.err, .tow, .fir, .nzl, .gat, .mem]) (by decide) (fun _ => ?_) _ _ _ _ _ _ _) (fun _ m => m))
    | (with_reducible show keepsBut _ _ (bankStore _ _ _ _ _ _); with_reducible refine keepsBut_of ?_ (bankStore_keeps _ _ _ _ _ _) (by decide))
    | with_reducible refine keepsBut_ite ?_ ?_
    | with_reducible refine keepsBut_doIf (fun _ => ?_) ?_
    | with_reducible refine keepsBut_each (fun _ _ => ?_) ?_
    | dsimp only [id]
    | split)

theorem eff_bankSwap_keeps (b : Bank) (r : Fin 4) (off : Nat) (v : BitVec 64) (e : List Flip) (s : State) : keepsBut [.err, .tow, .fir, .nzl, .gat, .mem] s ((bankOp b r off 8 8 e (fun s => bankStore b r off (leBytes 8 v.toNat) (bankBytes s b off 8) s)) s) := by
  try dsimp only
  repeat' (first
    | with_reducible exact keepsBut_refl _ _
    | (with_reducible show keepsBut _ _ (bankOp _ _ _ _ _ _ _ _); with_reducible refine keepsBut_of ?_ (bankOp_keeps (qs := [.err, .tow, .fir, .nzl, .gat, .mem]) (by decide) (fun _ => ?_) _ _ _ _ _ _ _) (fun _ m => m))
    | (with_reducible show keepsBut _ _ (bankStore _ _ _ _ _ _); with_reducible refine keepsBut_of ?_ (bankStore_keeps _ _ _ _ _ _) (by decide))
    | with_reducible refine keepsBut_ite ?_ ?_
    | with_reducible refine keepsBut_doIf (fun _ => ?_) ?_
    | with_reducible refine keepsBut_each (fun _ _ => ?_) ?_
    | dsimp only [id]
    | split)

theorem eff_arbRound_keeps (inst : Fin 12) (reqs : BitVec 4) (s : State) : keepsBut [.mem] s ((fun s => if inst.val < 4 then dramRound inst s else lineRound inst (roundReqs s inst reqs) s) s) := by
  try dsimp only
  repeat' (first
    | with_reducible exact keepsBut_refl _ _
    | (with_reducible show keepsBut _ _ (dramRound _ _); with_reducible refine keepsBut_of ?_ (dramRound_keeps _ _) (by decide))
    | (with_reducible show keepsBut _ _ (lineRound _ _ _); with_reducible refine keepsBut_of ?_ (lineRound_keeps _ _ _) (by decide))
    | with_reducible refine keepsBut_ite ?_ ?_
    | with_reducible refine keepsBut_doIf (fun _ => ?_) ?_
    | with_reducible refine keepsBut_each (fun _ _ => ?_) ?_
    | dsimp only [id]
    | split)

theorem eff_axisProfileUpdate_keeps (a : Axis) (s : State) : keepsBut [.regs, .err, .axs] s ((profileUpdate a) s) := by
  try dsimp only
  repeat' (first
    | with_reducible exact keepsBut_refl _ _
    | (with_reducible show keepsBut _ _ (profileUpdate _ _); with_reducible refine keepsBut_of ?_ (profileUpdate_keeps _ _) (by decide))
    | with_reducible refine keepsBut_ite ?_ ?_
    | with_reducible refine keepsBut_doIf (fun _ => ?_) ?_
    | with_reducible refine keepsBut_each (fun _ _ => ?_) ?_
    | dsimp only [id]
    | split)

theorem eff_microstep_keeps (a : Axis) (s : State) : keepsBut [.err, .axs] s ((microStep a) s) := by
  try dsimp only
  repeat' (first
    | with_reducible exact keepsBut_refl _ _
    | (with_reducible show keepsBut _ _ (microStep _ _); with_reducible refine keepsBut_of ?_ (microStep_keeps _ _) (by decide))
    | with_reducible refine keepsBut_ite ?_ ?_
    | with_reducible refine keepsBut_doIf (fun _ => ?_) ?_
    | with_reducible refine keepsBut_each (fun _ _ => ?_) ?_
    | dsimp only [id]
    | split)

theorem eff_chopperPhase_keeps (a : Axis) (phB : Bool) (dur : Nat) (sense : Nat) (mid : Nat) (s : State) : keepsBut [.axs] s ((chopEnd a phB dur mid) s) := by
  try dsimp only
  repeat' (first
    | with_reducible exact keepsBut_refl _ _
    | (with_reducible show keepsBut _ _ (chopEnd _ _ _ _ _); with_reducible refine keepsBut_of ?_ (chopEnd_keeps _ _ _ _ _) (by decide))
    | with_reducible refine keepsBut_ite ?_ ?_
    | with_reducible refine keepsBut_doIf (fun _ => ?_) ?_
    | with_reducible refine keepsBut_each (fun _ _ => ?_) ?_
    | dsimp only [id]
    | split)

theorem eff_overcurrent_keeps (a : Axis) (s : State) : keepsBut [.regs, .err, .axs] s ((overcurrentTake a) s) := by
  try dsimp only
  repeat' (first
    | with_reducible exact keepsBut_refl _ _
    | (with_reducible show keepsBut _ _ (overcurrentTake _ _); with_reducible refine keepsBut_of ?_ (overcurrentTake_keeps _ _) (by decide))
    | with_reducible refine keepsBut_ite ?_ ?_
    | with_reducible refine keepsBut_doIf (fun _ => ?_) ?_
    | with_reducible refine keepsBut_each (fun _ _ => ?_) ?_
    | dsimp only [id]
    | split)

theorem eff_hardLimit_keeps (a : Axis) (hi : Bool) (s : State) : keepsBut [.regs, .err, .axs] s ((hardLimitTake a hi) s) := by
  try dsimp only
  repeat' (first
    | with_reducible exact keepsBut_refl _ _
    | (with_reducible show keepsBut _ _ (hardLimitTake _ _ _); with_reducible refine keepsBut_of ?_ (hardLimitTake_keeps _ _ _) (by decide))
    | with_reducible refine keepsBut_ite ?_ ?_
    | with_reducible refine keepsBut_doIf (fun _ => ?_) ?_
    | with_reducible refine keepsBut_each (fun _ _ => ?_) ?_
    | dsimp only [id]
    | split)

theorem eff_axisHoldCurrent_keeps (a : Axis) (s : State) : keepsBut [.axs] s ((mAxs a (fun k => { k with holdCur := true })) s) := by
  try dsimp only
  repeat' (first
    | with_reducible exact keepsBut_refl _ _
    | (with_reducible show keepsBut _ _ (mAxs _ _ _); with_reducible refine keepsBut_of ?_ (mAxs_keeps _ _ _) (by decide))
    | with_reducible refine keepsBut_ite ?_ ?_
    | with_reducible refine keepsBut_doIf (fun _ => ?_) ?_
    | with_reducible refine keepsBut_each (fun _ _ => ?_) ?_
    | dsimp only [id]
    | split)

theorem eff_axisStandstill_keeps (a : Axis) (s : State) : keepsBut [.axs] s ((mAxs a (fun k => { k with standstill := true })) s) := by
  try dsimp only
  repeat' (first
    | with_reducible exact keepsBut_refl _ _
    | (with_reducible show keepsBut _ _ (mAxs _ _ _); with_reducible refine keepsBut_of ?_ (mAxs_keeps _ _ _) (by decide))
    | with_reducible refine keepsBut_ite ?_ ?_
    | with_reducible refine keepsBut_doIf (fun _ => ?_) ?_
    | with_reducible refine keepsBut_each (fun _ _ => ?_) ?_
    | dsimp only [id]
    | split)

theorem eff_scanFrameStart_keeps (s : State) : keepsBut [.err, .lmp] s (scanStart s) := by
  try dsimp only
  repeat' (first
    | with_reducible exact keepsBut_refl _ _
    | (with_reducible show keepsBut _ _ (scanStart _); with_reducible refine keepsBut_of ?_ (scanStart_keeps _) (by decide))
    | with_reducible refine keepsBut_ite ?_ ?_
    | with_reducible refine keepsBut_doIf (fun _ => ?_) ?_
    | with_reducible refine keepsBut_each (fun _ _ => ?_) ?_
    | dsimp only [id]
    | split)

theorem eff_lbusFrameEcho_keeps (chain : Fin 2) (ret : Option (Nat × Bytes)) (s : State) : keepsBut [.err, .lmp] s ((lbusEcho chain ret) s) := by
  try dsimp only
  repeat' (first
    | with_reducible exact keepsBut_refl _ _
    | (with_reducible show keepsBut _ _ (lbusEcho _ _ _); with_reducible refine keepsBut_of ?_ (lbusEcho_keeps _ _ _) (by decide))
    | with_reducible refine keepsBut_ite ?_ ?_
    | with_reducible refine keepsBut_doIf (fun _ => ?_) ?_
    | with_reducible refine keepsBut_each (fun _ _ => ?_) ?_
    | dsimp only [id]
    | split)

theorem eff_netLinkUp_keeps (np : NetPort) (s : State) : keepsBut [.err, .net] s ((portUp np) s) := by
  try dsimp only
  repeat' (first
    | with_reducible exact keepsBut_refl _ _
    | (with_reducible show keepsBut _ _ (portUp _ _); with_reducible refine keepsBut_of ?_ (portUp_keeps _ _) (by decide))
    | with_reducible refine keepsBut_ite ?_ ?_
    | with_reducible refine keepsBut_doIf (fun _ => ?_) ?_
    | with_reducible refine keepsBut_each (fun _ _ => ?_) ?_
    | dsimp only [id]
    | split)

theorem eff_netLinkDown_keeps (np : NetPort) (s : State) : keepsBut [.err, .net] s ((portDown np) s) := by
  try dsimp only
  repeat' (first
    | with_reducible exact keepsBut_refl _ _
    | (with_reducible show keepsBut _ _ (portDown _ _); with_reducible refine keepsBut_of ?_ (portDown_keeps _ _) (by decide))
    | with_reducible refine keepsBut_ite ?_ ?_
    | with_reducible refine keepsBut_doIf (fun _ => ?_) ?_
    | with_reducible refine keepsBut_each (fun _ _ => ?_) ?_
    | dsimp only [id]
    | split)

theorem eff_netFrameDiscard_keeps (np : NetPort) (fr : Frame) (s : State) : keepsBut [.net] s ((rxFrame ⟨np, fr⟩ id) s) := by
  try dsimp only
  repeat' (first
    | with_reducible exact keepsBut_refl _ _
    | (with_reducible show keepsBut _ _ (rxFrame _ _ _); with_reducible refine keepsBut_of ?_ (rxFrame_keeps (qs := [.net]) (by decide) (fun _ => ?_) _ _) (fun _ m => m))
    | with_reducible refine keepsBut_ite ?_ ?_
    | with_reducible refine keepsBut_doIf (fun _ => ?_) ?_
    | with_reducible refine keepsBut_each (fun _ _ => ?_) ?_
    | dsimp only [id]
    | split)

theorem eff_arpRequest_keeps (rx : Arrival) (q : NeighMsg) (s : State) : keepsBut [.net] s ((rxFrame rx (neighMsg (backTo rx) q)) s) := by
  try dsimp only
  repeat' (first
    | with_reducible exact keepsBut_refl _ _
    | (with_reducible show keepsBut _ _ (rxFrame _ _ _); with_reducible refine keepsBut_of ?_ (rxFrame_keeps (qs := [.net]) (by decide) (fun _ => ?_) _ _) (fun _ m => m))
    | (with_reducible show keepsBut _ _ (neighMsg _ _ _); with_reducible refine keepsBut_of ?_ (neighMsg_keeps _ _ _) (by decide))
    | with_reducible refine keepsBut_ite ?_ ?_
    | with_reducible refine keepsBut_doIf (fun _ => ?_) ?_
    | with_reducible refine keepsBut_each (fun _ _ => ?_) ?_
    | dsimp only [id]
    | split)

theorem eff_arpRetry_keeps (np : NetPort) (s : State) : keepsBut [.net] s ((neighRetry np) s) := by
  try dsimp only
  repeat' (first
    | with_reducible exact keepsBut_refl _ _
    | (with_reducible show keepsBut _ _ (neighRetry _ _); with_reducible refine keepsBut_of ?_ (neighRetry_keeps _ _) (by decide))
    | with_reducible refine keepsBut_ite ?_ ?_
    | with_reducible refine keepsBut_doIf (fun _ => ?_) ?_
    | with_reducible refine keepsBut_each (fun _ _ => ?_) ?_
    | dsimp only [id]
    | split)

theorem eff_arpExpire_keeps (np : NetPort) (ip : BitVec 128) (s : State) : keepsBut [.net] s ((mNet np (fun p => { p with cache := p.cache.filter (fun n => n.ip != ip) })) s) := by
  try dsimp only
  repeat' (first
    | with_reducible exact keepsBut_refl _ _
    | (with_reducible show keepsBut _ _ (mNet _ _ _); with_reducible refine keepsBut_of ?_ (mNet_keeps _ _ _) (by decide))
    | with_reducible refine keepsBut_ite ?_ ?_
    | with_reducible refine keepsBut_doIf (fun _ => ?_) ?_
    | with_reducible refine keepsBut_each (fun _ _ => ?_) ?_
    | dsimp only [id]
    | split)

theorem eff_icmpEcho_keeps (rx : Arrival) (v6 : Bool) (srcIp : BitVec 128) (srcMac : BitVec 48) (body : Bytes) (s : State) : keepsBut [.net] s ((rxFrame rx (fun s =>
    doIf (ownAddr (netIdPort s rx.port) v6 rx.frame.ip) (echoReply (backTo rx) v6 srcIp body) s)) s) := by
  try dsimp only
  repeat' (first
    | with_reducible exact keepsBut_refl _ _
    | (with_reducible show keepsBut _ _ (rxFrame _ _ _); with_reducible refine keepsBut_of ?_ (rxFrame_keeps (qs := [.net]) (by decide) (fun _ => ?_) _ _) (fun _ m => m))
    | (with_reducible show keepsBut _ _ (echoReply _ _ _ _ _); with_reducible refine keepsBut_of ?_ (echoReply_keeps _ _ _ _ _) (by decide))
    | with_reducible refine keepsBut_ite ?_ ?_
    | with_reducible refine keepsBut_doIf (fun _ => ?_) ?_
    | with_reducible refine keepsBut_each (fun _ _ => ?_) ?_
    | dsimp only [id]
    | split)

theorem eff_ptpAnnounce_keeps (rx : Arrival) (tr : PtpTransport) (d : Bytes) (s : State) : keepsBut [.err, .net, .ptp, .mgt] s ((ptpRx rx tr d) s) := by
  try dsimp only
  repeat' (first
    | with_reducible exact keepsBut_refl _ _
    | (with_reducible show keepsBut _ _ (ptpRx _ _ _ _); with_reducible refine keepsBut_of ?_ (ptpRx_keeps _ _ _ _) (by decide))
    | with_reducible refine keepsBut_ite ?_ ?_
    | with_reducible refine keepsBut_doIf (fun _ => ?_) ?_
    | with_reducible refine keepsBut_each (fun _ _ => ?_) ?_
    | dsimp only [id]
    | split)

theorem eff_ptpSync_keeps (rx : Arrival) (tr : PtpTransport) (d : Bytes) (s : State) : keepsBut [.err, .net, .ptp, .mgt] s ((ptpRx rx tr d) s) := by
  try dsimp only
  repeat' (first
    | with_reducible exact keepsBut_refl _ _
    | (with_reducible show keepsBut _ _ (ptpRx _ _ _ _); with_reducible refine keepsBut_of ?_ (ptpRx_keeps _ _ _ _) (by decide))
    | with_reducible refine keepsBut_ite ?_ ?_
    | with_reducible refine keepsBut_doIf (fun _ => ?_) ?_
    | with_reducible refine keepsBut_each (fun _ _ => ?_) ?_
    | dsimp only [id]
    | split)

theorem eff_ptpFollowUp_keeps (rx : Arrival) (tr : PtpTransport) (d : Bytes) (s : State) : keepsBut [.err, .net, .ptp, .mgt] s ((ptpRx rx tr d) s) := by
  try dsimp only
  repeat' (first
    | with_reducible exact keepsBut_refl _ _
    | (with_reducible show keepsBut _ _ (ptpRx _ _ _ _); with_reducible refine keepsBut_of ?_ (ptpRx_keeps _ _ _ _) (by decide))
    | with_reducible refine keepsBut_ite ?_ ?_
    | with_reducible refine keepsBut_doIf (fun _ => ?_) ?_
    | with_reducible refine keepsBut_each (fun _ _ => ?_) ?_
    | dsimp only [id]
    | split)

theorem eff_ptpDelayResp_keeps (rx : Arrival) (tr : PtpTransport) (d : Bytes) (s : State) : keepsBut [.err, .net, .ptp, .mgt] s ((ptpRx rx tr d) s) := by
  try dsimp only
  repeat' (first
    | with_reducible exact keepsBut_refl _ _
    | (with_reducible show keepsBut _ _ (ptpRx _ _ _ _); with_reducible refine keepsBut_of ?_ (ptpRx_keeps _ _ _ _) (by decide))
    | with_reducible refine keepsBut_ite ?_ ?_
    | with_reducible refine keepsBut_doIf (fun _ => ?_) ?_
    | with_reducible refine keepsBut_each (fun _ _ => ?_) ?_
    | dsimp only [id]
    | split)

theorem eff_ptpPdelayReq_keeps (rx : Arrival) (tr : PtpTransport) (d : Bytes) (s : State) : keepsBut [.err, .net, .ptp, .mgt] s ((ptpRx rx tr d) s) := by
  try dsimp only
  repeat' (first
    | with_reducible exact keepsBut_refl _ _
    | (with_reducible show keepsBut _ _ (ptpRx _ _ _ _); with_reducible refine keepsBut_of ?_ (ptpRx_keeps _ _ _ _) (by decide))
    | with_reducible refine keepsBut_ite ?_ ?_
    | with_reducible refine keepsBut_doIf (fun _ => ?_) ?_
    | with_reducible refine keepsBut_each (fun _ _ => ?_) ?_
    | dsimp only [id]
    | split)

theorem eff_ptpPdelayResp_keeps (rx : Arrival) (tr : PtpTransport) (d : Bytes) (s : State) : keepsBut [.err, .net, .ptp, .mgt] s ((ptpRx rx tr d) s) := by
  try dsimp only
  repeat' (first
    | with_reducible exact keepsBut_refl _ _
    | (with_reducible show keepsBut _ _ (ptpRx _ _ _ _); with_reducible refine keepsBut_of ?_ (ptpRx_keeps _ _ _ _) (by decide))
    | with_reducible refine keepsBut_ite ?_ ?_
    | with_reducible refine keepsBut_doIf (fun _ => ?_) ?_
    | with_reducible refine keepsBut_each (fun _ _ => ?_) ?_
    | dsimp only [id]
    | split)

theorem eff_ptpPdelayRespFollowUp_keeps (rx : Arrival) (tr : PtpTransport) (d : Bytes) (s : State) : keepsBut [.err, .net, .ptp, .mgt] s ((ptpRx rx tr d) s) := by
  try dsimp only
  repeat' (first
    | with_reducible exact keepsBut_refl _ _
    | (with_reducible show keepsBut _ _ (ptpRx _ _ _ _); with_reducible refine keepsBut_of ?_ (ptpRx_keeps _ _ _ _) (by decide))
    | with_reducible refine keepsBut_ite ?_ ?_
    | with_reducible refine keepsBut_doIf (fun _ => ?_) ?_
    | with_reducible refine keepsBut_each (fun _ _ => ?_) ?_
    | dsimp only [id]
    | split)

theorem eff_ptpIgnored_keeps (rx : Arrival) (tr : PtpTransport) (d : Bytes) (s : State) : keepsBut [.err, .net, .ptp, .mgt] s ((ptpRx rx tr d) s) := by
  try dsimp only
  repeat' (first
    | with_reducible exact keepsBut_refl _ _
    | (with_reducible show keepsBut _ _ (ptpRx _ _ _ _); with_reducible refine keepsBut_of ?_ (ptpRx_keeps _ _ _ _) (by decide))
    | with_reducible refine keepsBut_ite ?_ ?_
    | with_reducible refine keepsBut_doIf (fun _ => ?_) ?_
    | with_reducible refine keepsBut_each (fun _ _ => ?_) ?_
    | dsimp only [id]
    | split)

theorem eff_ptpDelayReqSend_keeps (dm : Dom) (s : State) : keepsBut [.net, .ptp] s ((delayReqSend dm) s) := by
  try dsimp only
  repeat' (first
    | with_reducible exact keepsBut_refl _ _
    | (with_reducible show keepsBut _ _ (delayReqSend _ _); with_reducible refine keepsBut_of ?_ (delayReqSend_keeps _ _) (by decide))
    | with_reducible refine keepsBut_ite ?_ ?_
    | with_reducible refine keepsBut_doIf (fun _ => ?_) ?_
    | with_reducible refine keepsBut_each (fun _ _ => ?_) ?_
    | dsimp only [id]
    | split)

theorem eff_ptpPdelayReqSend_keeps (dm : Dom) (s : State) : keepsBut [.net, .ptp] s ((pdelayReqSend dm) s) := by
  try dsimp only
  repeat' (first
    | with_reducible exact keepsBut_refl _ _
    | (with_reducible show keepsBut _ _ (pdelayReqSend _ _); with_reducible refine keepsBut_of ?_ (pdelayReqSend_keeps _ _) (by decide))
    | with_reducible refine keepsBut_ite ?_ ?_
    | with_reducible refine keepsBut_doIf (fun _ => ?_) ?_
    | with_reducible refine keepsBut_each (fun _ _ => ?_) ?_
    | dsimp only [id]
    | split)

theorem eff_ptpMasterTimeout_keeps (dm : Dom) (i : Fin 4) (s : State) : keepsBut [.err, .ptp, .mgt] s ((fun s => match (dom s dm).foreign[i.val]? with | some f => masterLost dm f s | none => s) s) := by
  try dsimp only
  repeat' (first
    | with_reducible exact keepsBut_refl _ _
    | (with_reducible show keepsBut _ _ (masterLost _ _ _); with_reducible refine keepsBut_of ?_ (masterLost_keeps _ _ _) (by decide))
    | with_reducible refine keepsBut_ite ?_ ?_
    | with_reducible refine keepsBut_doIf (fun _ => ?_) ?_
    | with_reducible refine keepsBut_each (fun _ _ => ?_) ?_
    | dsimp only [id]
    | split)

theorem eff_ptpFollowupTimeout_keeps (dm : Dom) (s : State) : keepsBut [.ptp] s ((mDom dm (fun m => { m with pendSync := none })) s) := by
  try dsimp only
  repeat' (first
    | with_reducible exact keepsBut_refl _ _
    | (with_reducible show keepsBut _ _ (mDom _ _ _); with_reducible refine keepsBut_of ?_ (mDom_keeps _ _ _) (by decide))
    | with_reducible refine keepsBut_ite ?_ ?_
    | with_reducible refine keepsBut_doIf (fun _ => ?_) ?_
    | with_reducible refine keepsBut_each (fun _ _ => ?_) ?_
    | dsimp only [id]
    | split)

theorem eff_ptpSyncTimeout_keeps (dm : Dom) (s : State) : keepsBut [.err, .ptp, .mgt] s ((setServo dm .holdover) s) := by
  try dsimp only
  repeat' (first
    | with_reducible exact keepsBut_refl _ _
    | (with_reducible show keepsBut _ _ (setServo _ _ _); with_reducible refine keepsBut_of ?_ (setServo_keeps _ _ _) (by decide))
    | with_reducible refine keepsBut_ite ?_ ?_
    | with_reducible refine keepsBut_doIf (fun _ => ?_) ?_
    | with_reducible refine keepsBut_each (fun _ _ => ?_) ?_
    | dsimp only [id]
    | split)

theorem eff_ptpHoldmax_keeps (dm : Dom) (s : State) : keepsBut [.err, .ptp, .mgt] s ((fun s => faultErr Err.ptpHoldover [0, 0, 0, 0, dm.val] (setServo dm .listen (mDom dm (fun m => { m with master := none }) s))) s) := by
  try dsimp only
  repeat' (first
    | with_reducible exact keepsBut_refl _ _
    | (with_reducible show keepsBut _ _ (mDom _ _ _); with_reducible refine keepsBut_of ?_ (mDom_keeps _ _ _) (by decide))
    | (with_reducible show keepsBut _ _ (faultErr _ _ _); with_reducible refine keepsBut_of ?_ (faultErr_keeps _ _ _) (by decide))
    | (with_reducible show keepsBut _ _ (setServo _ _ _); with_reducible refine keepsBut_of ?_ (setServo_keeps _ _ _) (by decide))
    | with_reducible refine keepsBut_ite ?_ ?_
    | with_reducible refine keepsBut_doIf (fun _ => ?_) ?_
    | with_reducible refine keepsBut_each (fun _ _ => ?_) ?_
    | dsimp only [id]
    | split)

theorem eff_fireDiscipline_keeps (cycles : Nat) (s : State) : keepsBut [.err, .ptp] s ((fireAdjust cycles) s) := by
  try dsimp only
  repeat' (first
    | with_reducible exact keepsBut_refl _ _
    | (with_reducible show keepsBut _ _ (fireAdjust _ _); with_reducible refine keepsBut_of ?_ (fireAdjust_keeps _ _) (by decide))
    | with_reducible refine keepsBut_ite ?_ ?_
    | with_reducible refine keepsBut_doIf (fun _ => ?_) ?_
    | with_reducible refine keepsBut_each (fun _ _ => ?_) ?_
    | dsimp only [id]
    | split)

theorem eff_mgmtTick_keeps (temps : List Int) (refCodes : List (BitVec 3)) (s : State) : keepsBut [.err, .net, .ptp, .mgt, .str, .mem, .par, .cal] s ((mgmtTick temps refCodes) s) := by
  try dsimp only
  repeat' (first
    | with_reducible exact keepsBut_refl _ _
    | (with_reducible show keepsBut _ _ (mgmtTick _ _ _); with_reducible refine keepsBut_of ?_ (mgmtTick_keeps _ _ _) (by decide))
    | with_reducible refine keepsBut_ite ?_ ?_
    | with_reducible refine keepsBut_doIf (fun _ => ?_) ?_
    | with_reducible refine keepsBut_each (fun _ _ => ?_) ?_
    | dsimp only [id]
    | split)

theorem eff_rmpDiscard_keeps (rx : Arrival) (ss : Session) (d : Bytes) (s : State) : keepsBut [.free, .regs, .sys, .err, .cap, .cfg, .keep, .net, .ptp, .mgt, .tow, .cmp, .str, .pos, .mil, .fir, .stg, .nzl, .gat, .gul, .insp, .mem, .axs, .lmp, .par, .cal] s ((rmpRun rx ss d) s) := by
  try dsimp only
  repeat' (first
    | with_reducible exact keepsBut_refl _ _
    | (with_reducible show keepsBut _ _ (rmpRun _ _ _ _); with_reducible refine keepsBut_of ?_ (rmpRun_keeps _ _ _ _) (by decide))
    | with_reducible refine keepsBut_ite ?_ ?_
    | with_reducible refine keepsBut_doIf (fun _ => ?_) ?_
    | with_reducible refine keepsBut_each (fun _ _ => ?_) ?_
    | dsimp only [id]
    | split)

theorem eff_rmpUnknownType_keeps (rx : Arrival) (ss : Session) (d : Bytes) (s : State) : keepsBut [.free, .regs, .sys, .err, .cap, .cfg, .keep, .net, .ptp, .mgt, .tow, .cmp, .str, .pos, .mil, .fir, .stg, .nzl, .gat, .gul, .insp, .mem, .axs, .lmp, .par, .cal] s ((rmpRun rx ss d) s) := by
  try dsimp only
  repeat' (first
    | with_reducible exact keepsBut_refl _ _
    | (with_reducible show keepsBut _ _ (rmpRun _ _ _ _); with_reducible refine keepsBut_of ?_ (rmpRun_keeps _ _ _ _) (by decide))
    | with_reducible refine keepsBut_ite ?_ ?_
    | with_reducible refine keepsBut_doIf (fun _ => ?_) ?_
    | with_reducible refine keepsBut_each (fun _ _ => ?_) ?_
    | dsimp only [id]
    | split)

theorem eff_rmpHello_keeps (rx : Arrival) (ss : Session) (d : Bytes) (s : State) : keepsBut [.free, .regs, .sys, .err, .cap, .cfg, .keep, .net, .ptp, .mgt, .tow, .cmp, .str, .pos, .mil, .fir, .stg, .nzl, .gat, .gul, .insp, .mem, .axs, .lmp, .par, .cal] s ((rmpRun rx ss d) s) := by
  try dsimp only
  repeat' (first
    | with_reducible exact keepsBut_refl _ _
    | (with_reducible show keepsBut _ _ (rmpRun _ _ _ _); with_reducible refine keepsBut_of ?_ (rmpRun_keeps _ _ _ _) (by decide))
    | with_reducible refine keepsBut_ite ?_ ?_
    | with_reducible refine keepsBut_doIf (fun _ => ?_) ?_
    | with_reducible refine keepsBut_each (fun _ _ => ?_) ?_
    | dsimp only [id]
    | split)

theorem eff_rmpRead_keeps (rx : Arrival) (ss : Session) (d : Bytes) (s : State) : keepsBut [.free, .regs, .sys, .err, .cap, .cfg, .keep, .net, .ptp, .mgt, .tow, .cmp, .str, .pos, .mil, .fir, .stg, .nzl, .gat, .gul, .insp, .mem, .axs, .lmp, .par, .cal] s ((rmpRun rx ss d) s) := by
  try dsimp only
  repeat' (first
    | with_reducible exact keepsBut_refl _ _
    | (with_reducible show keepsBut _ _ (rmpRun _ _ _ _); with_reducible refine keepsBut_of ?_ (rmpRun_keeps _ _ _ _) (by decide))
    | with_reducible refine keepsBut_ite ?_ ?_
    | with_reducible refine keepsBut_doIf (fun _ => ?_) ?_
    | with_reducible refine keepsBut_each (fun _ _ => ?_) ?_
    | dsimp only [id]
    | split)

theorem eff_rmpWrite_keeps (rx : Arrival) (ss : Session) (d : Bytes) (s : State) : keepsBut [.free, .regs, .sys, .err, .cap, .cfg, .keep, .net, .ptp, .mgt, .tow, .cmp, .str, .pos, .mil, .fir, .stg, .nzl, .gat, .gul, .insp, .mem, .axs, .lmp, .par, .cal] s ((rmpRun rx ss d) s) := by
  try dsimp only
  repeat' (first
    | with_reducible exact keepsBut_refl _ _
    | (with_reducible show keepsBut _ _ (rmpRun _ _ _ _); with_reducible refine keepsBut_of ?_ (rmpRun_keeps _ _ _ _) (by decide))
    | with_reducible refine keepsBut_ite ?_ ?_
    | with_reducible refine keepsBut_doIf (fun _ => ?_) ?_
    | with_reducible refine keepsBut_each (fun _ _ => ?_) ?_
    | dsimp only [id]
    | split)

theorem eff_rmpSwap_keeps (rx : Arrival) (ss : Session) (d : Bytes) (s : State) : keepsBut [.free, .regs, .sys, .err, .cap, .cfg, .keep, .net, .ptp, .mgt, .tow, .cmp, .str, .pos, .mil, .fir, .stg, .nzl, .gat, .gul, .insp, .mem, .axs, .lmp, .par, .cal] s ((rmpRun rx ss d) s) := by
  try dsimp only
  repeat' (first
    | with_reducible exact keepsBut_refl _ _
    | (with_reducible show keepsBut _ _ (rmpRun _ _ _ _); with_reducible refine keepsBut_of ?_ (rmpRun_keeps _ _ _ _) (by decide))
    | with_reducible refine keepsBut_ite ?_ ?_
    | with_reducible refine keepsBut_doIf (fun _ => ?_) ?_
    | with_reducible refine keepsBut_each (fun _ _ => ?_) ?_
    | dsimp only [id]
    | split)

theorem eff_rmpStatus_keeps (rx : Arrival) (ss : Session) (d : Bytes) (s : State) : keepsBut [.free, .regs, .sys, .err, .cap, .cfg, .keep, .net, .ptp, .mgt, .tow, .cmp, .str, .pos, .mil, .fir, .stg, .nzl, .gat, .gul, .insp, .mem, .axs, .lmp, .par, .cal] s ((rmpRun rx ss d) s) := by
  try dsimp only
  repeat' (first
    | with_reducible exact keepsBut_refl _ _
    | (with_reducible show keepsBut _ _ (rmpRun _ _ _ _); with_reducible refine keepsBut_of ?_ (rmpRun_keeps _ _ _ _) (by decide))
    | with_reducible refine keepsBut_ite ?_ ?_
    | with_reducible refine keepsBut_doIf (fun _ => ?_) ?_
    | with_reducible refine keepsBut_each (fun _ _ => ?_) ?_
    | dsimp only [id]
    | split)

theorem eff_rmpSubscribe_keeps (rx : Arrival) (ss : Session) (d : Bytes) (s : State) : keepsBut [.free, .regs, .sys, .err, .cap, .cfg, .keep, .net, .ptp, .mgt, .tow, .cmp, .str, .pos, .mil, .fir, .stg, .nzl, .gat, .gul, .insp, .mem, .axs, .lmp, .par, .cal] s ((rmpRun rx ss d) s) := by
  try dsimp only
  repeat' (first
    | with_reducible exact keepsBut_refl _ _
    | (with_reducible show keepsBut _ _ (rmpRun _ _ _ _); with_reducible refine keepsBut_of ?_ (rmpRun_keeps _ _ _ _) (by decide))
    | with_reducible refine keepsBut_ite ?_ ?_
    | with_reducible refine keepsBut_doIf (fun _ => ?_) ?_
    | with_reducible refine keepsBut_each (fun _ _ => ?_) ?_
    | dsimp only [id]
    | split)

theorem eff_subscriptionExpire_keeps (slot : Fin 4) (s : State) : keepsBut [.mgt] s ((mMgt (fun m => { m with subs := vmod m.subs slot (fun _ => none) })) s) := by
  try dsimp only
  repeat' (first
    | with_reducible exact keepsBut_refl _ _
    | (with_reducible show keepsBut _ _ (mMgt _ _); with_reducible refine keepsBut_of ?_ (mMgt_keeps _ _) (by decide))
    | with_reducible refine keepsBut_ite ?_ ?_
    | with_reducible refine keepsBut_doIf (fun _ => ?_) ?_
    | with_reducible refine keepsBut_each (fun _ _ => ?_) ?_
    | dsimp only [id]
    | split)

theorem eff_rmpHold_keeps (rx : Arrival) (ss : Session) (d : Bytes) (s : State) : keepsBut [.free, .regs, .sys, .err, .cap, .cfg, .keep, .net, .ptp, .mgt, .tow, .cmp, .str, .pos, .mil, .fir, .stg, .nzl, .gat, .gul, .insp, .mem, .axs, .lmp, .par, .cal] s ((rmpRun rx ss d) s) := by
  try dsimp only
  repeat' (first
    | with_reducible exact keepsBut_refl _ _
    | (with_reducible show keepsBut _ _ (rmpRun _ _ _ _); with_reducible refine keepsBut_of ?_ (rmpRun_keeps _ _ _ _) (by decide))
    | with_reducible refine keepsBut_ite ?_ ?_
    | with_reducible refine keepsBut_doIf (fun _ => ?_) ?_
    | with_reducible refine keepsBut_each (fun _ _ => ?_) ?_
    | dsimp only [id]
    | split)

theorem eff_rmpResume_keeps (rx : Arrival) (ss : Session) (d : Bytes) (s : State) : keepsBut [.free, .regs, .sys, .err, .cap, .cfg, .keep, .net, .ptp, .mgt, .tow, .cmp, .str, .pos, .mil, .fir, .stg, .nzl, .gat, .gul, .insp, .mem, .axs, .lmp, .par, .cal] s ((rmpRun rx ss d) s) := by
  try dsimp only
  repeat' (first
    | with_reducible exact keepsBut_refl _ _
    | (with_reducible show keepsBut _ _ (rmpRun _ _ _ _); with_reducible refine keepsBut_of ?_ (rmpRun_keeps _ _ _ _) (by decide))
    | with_reducible refine keepsBut_ite ?_ ?_
    | with_reducible refine keepsBut_doIf (fun _ => ?_) ?_
    | with_reducible refine keepsBut_each (fun _ _ => ?_) ?_
    | dsimp only [id]
    | split)

theorem eff_rmpStop_keeps (rx : Arrival) (ss : Session) (d : Bytes) (s : State) : keepsBut [.free, .regs, .sys, .err, .cap, .cfg, .keep, .net, .ptp, .mgt, .tow, .cmp, .str, .pos, .mil, .fir, .stg, .nzl, .gat, .gul, .insp, .mem, .axs, .lmp, .par, .cal] s ((rmpRun rx ss d) s) := by
  try dsimp only
  repeat' (first
    | with_reducible exact keepsBut_refl _ _
    | (with_reducible show keepsBut _ _ (rmpRun _ _ _ _); with_reducible refine keepsBut_of ?_ (rmpRun_keeps _ _ _ _) (by decide))
    | with_reducible refine keepsBut_ite ?_ ?_
    | with_reducible refine keepsBut_doIf (fun _ => ?_) ?_
    | with_reducible refine keepsBut_each (fun _ _ => ?_) ?_
    | dsimp only [id]
    | split)

theorem eff_rmpAcknowledge_keeps (rx : Arrival) (ss : Session) (d : Bytes) (s : State) : keepsBut [.free, .regs, .sys, .err, .cap, .cfg, .keep, .net, .ptp, .mgt, .tow, .cmp, .str, .pos, .mil, .fir, .stg, .nzl, .gat, .gul, .insp, .mem, .axs, .lmp, .par, .cal] s ((rmpRun rx ss d) s) := by
  try dsimp only
  repeat' (first
    | with_reducible exact keepsBut_refl _ _
    | (with_reducible show keepsBut _ _ (rmpRun _ _ _ _); with_reducible refine keepsBut_of ?_ (rmpRun_keeps _ _ _ _) (by decide))
    | with_reducible refine keepsBut_ite ?_ ?_
    | with_reducible refine keepsBut_doIf (fun _ => ?_) ?_
    | with_reducible refine keepsBut_each (fun _ _ => ?_) ?_
    | dsimp only [id]
    | split)

theorem eff_rmpReset_keeps (rx : Arrival) (ss : Session) (d : Bytes) (s : State) : keepsBut [.free, .regs, .sys, .err, .cap, .cfg, .keep, .net, .ptp, .mgt, .tow, .cmp, .str, .pos, .mil, .fir, .stg, .nzl, .gat, .gul, .insp, .mem, .axs, .lmp, .par, .cal] s ((rmpRun rx ss d) s) := by
  try dsimp only
  repeat' (first
    | with_reducible exact keepsBut_refl _ _
    | (with_reducible show keepsBut _ _ (rmpRun _ _ _ _); with_reducible refine keepsBut_of ?_ (rmpRun_keeps _ _ _ _) (by decide))
    | with_reducible refine keepsBut_ite ?_ ?_
    | with_reducible refine keepsBut_doIf (fun _ => ?_) ?_
    | with_reducible refine keepsBut_each (fun _ _ => ?_) ?_
    | dsimp only [id]
    | split)

theorem eff_resetExecute_keeps (s : State) : keepsBut [.regs, .act, .sys, .err, .cap, .dbg, .cfg, .keep, .net, .netId, .ptp, .mgt, .tow, .plc, .cmp, .str, .pos, .mil, .fir, .stg, .nzl, .gat, .gul, .insp, .mem, .axs, .lmp, .par, .cal] s ((coldReset 4) s) := by
  try dsimp only
  repeat' (first
    | with_reducible exact keepsBut_refl _ _
    | (with_reducible show keepsBut _ _ (coldReset _ _); with_reducible refine keepsBut_of ?_ (coldReset_keeps _ _) (by decide))
    | with_reducible refine keepsBut_ite ?_ ?_
    | with_reducible refine keepsBut_doIf (fun _ => ?_) ?_
    | with_reducible refine keepsBut_each (fun _ _ => ?_) ?_
    | dsimp only [id]
    | split)

theorem eff_rmpYield_keeps (rx : Arrival) (ss : Session) (d : Bytes) (s : State) : keepsBut [.free, .regs, .sys, .err, .cap, .cfg, .keep, .net, .ptp, .mgt, .tow, .cmp, .str, .pos, .mil, .fir, .stg, .nzl, .gat, .gul, .insp, .mem, .axs, .lmp, .par, .cal] s ((rmpRun rx ss d) s) := by
  try dsimp only
  repeat' (first
    | with_reducible exact keepsBut_refl _ _
    | (with_reducible show keepsBut _ _ (rmpRun _ _ _ _); with_reducible refine keepsBut_of ?_ (rmpRun_keeps _ _ _ _) (by decide))
    | with_reducible refine keepsBut_ite ?_ ?_
    | with_reducible refine keepsBut_doIf (fun _ => ?_) ?_
    | with_reducible refine keepsBut_each (fun _ _ => ?_) ?_
    | dsimp only [id]
    | split)

theorem eff_rmpCommandInvalid_keeps (rx : Arrival) (ss : Session) (d : Bytes) (s : State) : keepsBut [.free, .regs, .sys, .err, .cap, .cfg, .keep, .net, .ptp, .mgt, .tow, .cmp, .str, .pos, .mil, .fir, .stg, .nzl, .gat, .gul, .insp, .mem, .axs, .lmp, .par, .cal] s ((rmpRun rx ss d) s) := by
  try dsimp only
  repeat' (first
    | with_reducible exact keepsBut_refl _ _
    | (with_reducible show keepsBut _ _ (rmpRun _ _ _ _); with_reducible refine keepsBut_of ?_ (rmpRun_keeps _ _ _ _) (by decide))
    | with_reducible refine keepsBut_ite ?_ ?_
    | with_reducible refine keepsBut_doIf (fun _ => ?_) ?_
    | with_reducible refine keepsBut_each (fun _ _ => ?_) ?_
    | dsimp only [id]
    | split)

theorem eff_tetherHeartbeatSend_keeps (s : State) : keepsBut [.par] s (hbSend s) := by
  try dsimp only
  repeat' (first
    | with_reducible exact keepsBut_refl _ _
    | (with_reducible show keepsBut _ _ (hbSend _); with_reducible refine keepsBut_of ?_ (hbSend_keeps _) (by decide))
    | with_reducible refine keepsBut_ite ?_ ?_
    | with_reducible refine keepsBut_doIf (fun _ => ?_) ?_
    | with_reducible refine keepsBut_each (fun _ _ => ?_) ?_
    | dsimp only [id]
    | split)

theorem eff_tetherHeartbeatRx_keeps (f : Bytes) (s : State) : keepsBut [.err, .par] s ((tethHbRx f) s) := by
  try dsimp only
  repeat' (first
    | with_reducible exact keepsBut_refl _ _
    | (with_reducible show keepsBut _ _ (tethHbRx _ _); with_reducible refine keepsBut_of ?_ (tethHbRx_keeps _ _) (by decide))
    | with_reducible refine keepsBut_ite ?_ ?_
    | with_reducible refine keepsBut_doIf (fun _ => ?_) ?_
    | with_reducible refine keepsBut_each (fun _ _ => ?_) ?_
    | dsimp only [id]
    | split)

theorem eff_netHeartbeatRx_keeps (rx : Arrival) (d : Bytes) (s : State) : keepsBut [.err, .net, .par] s ((rxFrame rx (fun s => doIf (datagramFor s rx (decide (rx.frame.ether = .ipv6)) (hbPort s)) (netHbRx d) s)) s) := by
  try dsimp only
  repeat' (first
    | with_reducible exact keepsBut_refl _ _
    | (with_reducible show keepsBut _ _ (rxFrame _ _ _); with_reducible refine keepsBut_of ?_ (rxFrame_keeps (qs := [.err, .net, .par]) (by decide) (fun _ => ?_) _ _) (fun _ m => m))
    | (with_reducible show keepsBut _ _ (netHbRx _ _); with_reducible refine keepsBut_of ?_ (netHbRx_keeps _ _) (by decide))
    | with_reducible refine keepsBut_ite ?_ ?_
    | with_reducible refine keepsBut_doIf (fun _ => ?_) ?_
    | with_reducible refine keepsBut_each (fun _ _ => ?_) ?_
    | dsimp only [id]
    | split)

theorem eff_tetherPathMiss_keeps (s : State) : keepsBut [.err, .par] s ((fun s => pathMissed 0 s.par.nMiss (mPar (fun p => { p with tMiss := true, cntTMiss := satAdd 16 p.cntTMiss 1 }) s)) s) := by
  try dsimp only
  repeat' (first
    | with_reducible exact keepsBut_refl _ _
    | (with_reducible show keepsBut _ _ (mPar _ _); with_reducible refine keepsBut_of ?_ (mPar_keeps _ _) (by decide))
    | (with_reducible show keepsBut _ _ (pathMissed _ _ _); with_reducible refine keepsBut_of ?_ (pathMissed_keeps _ _ _) (by decide))
    | with_reducible refine keepsBut_ite ?_ ?_
    | with_reducible refine keepsBut_doIf (fun _ => ?_) ?_
    | with_reducible refine keepsBut_each (fun _ _ => ?_) ?_
    | dsimp only [id]
    | split)

theorem eff_netPathMiss_keeps (s : State) : keepsBut [.err, .par] s ((fun s => pathMissed 1 s.par.tMiss (mPar (fun p => { p with nMiss := true, cntNMiss := satAdd 16 p.cntNMiss 1 }) s)) s) := by
  try dsimp only
  repeat' (first
    | with_reducible exact keepsBut_refl _ _
    | (with_reducible show keepsBut _ _ (mPar _ _); with_reducible refine keepsBut_of ?_ (mPar_keeps _ _) (by decide))
    | (with_reducible show keepsBut _ _ (pathMissed _ _ _); with_reducible refine keepsBut_of ?_ (pathMissed_keeps _ _ _) (by decide))
    | with_reducible refine keepsBut_ite ?_ ?_
    | with_reducible refine keepsBut_doIf (fun _ => ?_) ?_
    | with_reducible refine keepsBut_each (fun _ _ => ?_) ?_
    | dsimp only [id]
    | split)

theorem eff_tetherNzlChange_keeps (f : Bytes) (s : State) : keepsBut [.free, .err, .tow, .fir, .nzl, .gat, .mem, .par] s ((tethRx 20 f tethNzlBody) s) := by
  try dsimp only
  repeat' (first
    | with_reducible exact keepsBut_refl _ _
    | (with_reducible show keepsBut _ _ (tethRx _ _ _ _); with_reducible refine keepsBut_of ?_ (tethRx_keeps (qs := [.free, .err, .tow, .fir, .nzl, .gat, .mem, .par]) (by decide) (fun _ _ => ?_) _ _ _) (fun _ m => m))
    | (with_reducible show keepsBut _ _ (tethNzlBody _ _); with_reducible refine keepsBut_of ?_ (tethNzlBody_keeps _ _) (by decide))
    | with_reducible refine keepsBut_ite ?_ ?_
    | with_reducible refine keepsBut_doIf (fun _ => ?_) ?_
    | with_reducible refine keepsBut_each (fun _ _ => ?_) ?_
    | dsimp only [id]
    | split)

theorem eff_tetherKnotReq_keeps (f : Bytes) (s : State) : keepsBut [.sys, .err, .par] s ((tethRx 12 f tethKnotBody) s) := by
  try dsimp only
  repeat' (first
    | with_reducible exact keepsBut_refl _ _
    | (with_reducible show keepsBut _ _ (tethRx _ _ _ _); with_reducible refine keepsBut_of ?_ (tethRx_keeps (qs := [.sys, .err, .par]) (by decide) (fun _ _ => ?_) _ _ _) (fun _ m => m))
    | (with_reducible show keepsBut _ _ (tethKnotBody _ _); with_reducible refine keepsBut_of ?_ (tethKnotBody_keeps _ _) (by decide))
    | with_reducible refine keepsBut_ite ?_ ?_
    | with_reducible refine keepsBut_doIf (fun _ => ?_) ?_
    | with_reducible refine keepsBut_each (fun _ _ => ?_) ?_
    | dsimp only [id]
    | split)

theorem eff_tetherKnotDone_keeps (f : Bytes) (s : State) : keepsBut [.err, .par] s ((tethRx 16 f tethDoneBody) s) := by
  try dsimp only
  repeat' (first
    | with_reducible exact keepsBut_refl _ _
    | (with_reducible show keepsBut _ _ (tethRx _ _ _ _); with_reducible refine keepsBut_of ?_ (tethRx_keeps (qs := [.err, .par]) (by decide) (fun _ _ => ?_) _ _ _) (fun _ m => m))
    | (with_reducible show keepsBut _ _ (tethDoneBody _ _); with_reducible refine keepsBut_of ?_ (tethDoneBody_keeps _ _) (by decide))
    | with_reducible refine keepsBut_ite ?_ ?_
    | with_reducible refine keepsBut_doIf (fun _ => ?_) ?_
    | with_reducible refine keepsBut_each (fun _ _ => ?_) ?_
    | dsimp only [id]
    | split)

theorem eff_tetherState_keeps (f : Bytes) (s : State) : keepsBut [.free, .sys, .err, .mgt, .tow, .str, .fir, .nzl, .gat, .mem, .par] s ((tethRx 12 f tethStateBody) s) := by
  try dsimp only
  repeat' (first
    | with_reducible exact keepsBut_refl _ _
    | (with_reducible show keepsBut _ _ (tethRx _ _ _ _); with_reducible refine keepsBut_of ?_ (tethRx_keeps (qs := [.free, .sys, .err, .mgt, .tow, .str, .fir, .nzl, .gat, .mem, .par]) (by decide) (fun _ _ => ?_) _ _ _) (fun _ m => m))
    | (with_reducible show keepsBut _ _ (tethStateBody _ _); with_reducible refine keepsBut_of ?_ (tethStateBody_keeps _ _) (by decide))
    | with_reducible refine keepsBut_ite ?_ ?_
    | with_reducible refine keepsBut_doIf (fun _ => ?_) ?_
    | with_reducible refine keepsBut_each (fun _ _ => ?_) ?_
    | dsimp only [id]
    | split)

theorem eff_tetherYield_keeps (f : Bytes) (s : State) : keepsBut [.err, .par] s ((tethRx 8 f tethYieldBody) s) := by
  try dsimp only
  repeat' (first
    | with_reducible exact keepsBut_refl _ _
    | (with_reducible show keepsBut _ _ (tethRx _ _ _ _); with_reducible refine keepsBut_of ?_ (tethRx_keeps (qs := [.err, .par]) (by decide) (fun _ _ => ?_) _ _ _) (fun _ m => m))
    | (with_reducible show keepsBut _ _ (tethYieldBody _ _); with_reducible refine keepsBut_of ?_ (tethYieldBody_keeps _ _) (by decide))
    | with_reducible refine keepsBut_ite ?_ ?_
    | with_reducible refine keepsBut_doIf (fun _ => ?_) ?_
    | with_reducible refine keepsBut_each (fun _ _ => ?_) ?_
    | dsimp only [id]
    | split)

theorem eff_tetherBulk_keeps (f : Bytes) (s : State) : keepsBut [.free, .err, .tow, .fir, .nzl, .gat, .mem, .par] s ((tethRx 1032 f tethBulkBody) s) := by
  try dsimp only
  repeat' (first
    | with_reducible exact keepsBut_refl _ _
    | (with_reducible show keepsBut _ _ (tethRx _ _ _ _); with_reducible refine keepsBut_of ?_ (tethRx_keeps (qs := [.free, .err, .tow, .fir, .nzl, .gat, .mem, .par]) (by decide) (fun _ _ => ?_) _ _ _) (fun _ m => m))
    | (with_reducible show keepsBut _ _ (tethBulkBody _ _); with_reducible refine keepsBut_of ?_ (tethBulkBody_keeps _ _) (by decide))
    | with_reducible refine keepsBut_ite ?_ ?_
    | with_reducible refine keepsBut_doIf (fun _ => ?_) ?_
    | with_reducible refine keepsBut_each (fun _ _ => ?_) ?_
    | dsimp only [id]
    | split)

theorem eff_tetherResend_keeps (s : State) : keepsBut [.par] s (tethResend s) := by
  try dsimp only
  repeat' (first
    | with_reducible exact keepsBut_refl _ _
    | (with_reducible show keepsBut _ _ (tethResend _); with_reducible refine keepsBut_of ?_ (tethResend_keeps _) (by decide))
    | with_reducible refine keepsBut_ite ?_ ?_
    | with_reducible refine keepsBut_doIf (fun _ => ?_) ?_
    | with_reducible refine keepsBut_each (fun _ _ => ?_) ?_
    | dsimp only [id]
    | split)

theorem eff_tetherResync_keeps (s : State) : keepsBut [.err, .par] s (tethResync s) := by
  try dsimp only
  repeat' (first
    | with_reducible exact keepsBut_refl _ _
    | (with_reducible show keepsBut _ _ (tethResync _); with_reducible refine keepsBut_of ?_ (tethResync_keeps _) (by decide))
    | with_reducible refine keepsBut_ite ?_ ?_
    | with_reducible refine keepsBut_doIf (fun _ => ?_) ?_
    | with_reducible refine keepsBut_each (fun _ _ => ?_) ?_
    | dsimp only [id]
    | split)

theorem eff_hitchInAssert_keeps (s : State) : keepsBut [.err, .par] s (hitchInOn s) := by
  try dsimp only
  repeat' (first
    | with_reducible exact keepsBut_refl _ _
    | (with_reducible show keepsBut _ _ (hitchInOn _); with_reducible refine keepsBut_of ?_ (hitchInOn_keeps _) (by decide))
    | with_reducible refine keepsBut_ite ?_ ?_
    | with_reducible refine keepsBut_doIf (fun _ => ?_) ?_
    | with_reducible refine keepsBut_each (fun _ _ => ?_) ?_
    | dsimp only [id]
    | split)

theorem eff_hitchInRelease_keeps (s : State) : keepsBut [.err, .par] s (hitchInOff s) := by
  try dsimp only
  repeat' (first
    | with_reducible exact keepsBut_refl _ _
    | (with_reducible show keepsBut _ _ (hitchInOff _); with_reducible refine keepsBut_of ?_ (hitchInOff_keeps _) (by decide))
    | with_reducible refine keepsBut_ite ?_ ?_
    | with_reducible refine keepsBut_doIf (fun _ => ?_) ?_
    | with_reducible refine keepsBut_each (fun _ _ => ?_) ?_
    | dsimp only [id]
    | split)

theorem eff_splice_keeps (s : State) : keepsBut [.err, .par] s ((fun s => match s.par.pendSplice with | some c => spliceNow c s | none => s) s) := by
  try dsimp only
  repeat' (first
    | with_reducible exact keepsBut_refl _ _
    | (with_reducible show keepsBut _ _ (spliceNow _ _); with_reducible refine keepsBut_of ?_ (spliceNow_keeps _ _) (by decide))
    | with_reducible refine keepsBut_ite ?_ ?_
    | with_reducible refine keepsBut_doIf (fun _ => ?_) ?_
    | with_reducible refine keepsBut_each (fun _ _ => ?_) ?_
    | dsimp only [id]
    | split)

theorem eff_rejoinCopyStart_keeps (s : State) : keepsBut [.par] s ((fun s => copyNext (mPar (fun p => { p with copying := true, copyPos := 0 }) s)) s) := by
  try dsimp only
  repeat' (first
    | with_reducible exact keepsBut_refl _ _
    | (with_reducible show keepsBut _ _ (mPar _ _); with_reducible refine keepsBut_of ?_ (mPar_keeps _ _) (by decide))
    | (with_reducible show keepsBut _ _ (copyNext _); with_reducible refine keepsBut_of ?_ (copyNext_keeps _) (by decide))
    | with_reducible refine keepsBut_ite ?_ ?_
    | with_reducible refine keepsBut_doIf (fun _ => ?_) ?_
    | with_reducible refine keepsBut_each (fun _ _ => ?_) ?_
    | dsimp only [id]
    | split)

theorem eff_coreWatchExpire_keeps (s : State) : keepsBut [.keep, .par] s ((fun s => hitchRelease (mKeep (fun k => { k with coreWatch := true, coreLost := true }) s)) s) := by
  try dsimp only
  repeat' (first
    | with_reducible exact keepsBut_refl _ _
    | (with_reducible show keepsBut _ _ (mKeep _ _); with_reducible refine keepsBut_of ?_ (mKeep_keeps _ _) (by decide))
    | (with_reducible show keepsBut _ _ (hitchRelease _); with_reducible refine keepsBut_of ?_ (hitchRelease_keeps _) (by decide))
    | with_reducible refine keepsBut_ite ?_ ?_
    | with_reducible refine keepsBut_doIf (fun _ => ?_) ?_
    | with_reducible refine keepsBut_each (fun _ _ => ?_) ?_
    | dsimp only [id]
    | split)

theorem eff_keepFeedLoss_keeps (feedB : Bool) (s : State) : keepsBut [.err, .keep] s ((feedLost feedB) s) := by
  try dsimp only
  repeat' (first
    | with_reducible exact keepsBut_refl _ _
    | (with_reducible show keepsBut _ _ (feedLost _ _); with_reducible refine keepsBut_of ?_ (feedLost_keeps _ _) (by decide))
    | with_reducible refine keepsBut_ite ?_ ?_
    | with_reducible refine keepsBut_doIf (fun _ => ?_) ?_
    | with_reducible refine keepsBut_each (fun _ _ => ?_) ?_
    | dsimp only [id]
    | split)

theorem eff_keepBrownout_keeps (s : State) : keepsBut [.par] s (hitchRelease s) := by
  try dsimp only
  repeat' (first
    | with_reducible exact keepsBut_refl _ _
    | (with_reducible show keepsBut _ _ (hitchRelease _); with_reducible refine keepsBut_of ?_ (hitchRelease_keeps _) (by decide))
    | with_reducible refine keepsBut_ite ?_ ?_
    | with_reducible refine keepsBut_doIf (fun _ => ?_) ?_
    | with_reducible refine keepsBut_each (fun _ _ => ?_) ?_
    | dsimp only [id]
    | split)

theorem eff_fegRotationStart_keeps (g : Fin 4) (s : State) : keepsBut [.cal] s ((fegRotate g) s) := by
  try dsimp only
  repeat' (first
    | with_reducible exact keepsBut_refl _ _
    | (with_reducible show keepsBut _ _ (fegRotate _ _); with_reducible refine keepsBut_of ?_ (fegRotate_keeps _ _) (by decide))
    | with_reducible refine keepsBut_ite ?_ ?_
    | with_reducible refine keepsBut_doIf (fun _ => ?_) ?_
    | with_reducible refine keepsBut_each (fun _ _ => ?_) ?_
    | dsimp only [id]
    | split)

theorem eff_fegMeasureDone_keeps (gen : Fin 68) (times : FegTimes) (s : State) : keepsBut [.err, .cal] s ((fun s => match fegResult times with | some r => fegGood gen r s | none => fegFailed gen s) s) := by
  try dsimp only
  repeat' (first
    | with_reducible exact keepsBut_refl _ _
    | (with_reducible show keepsBut _ _ (fegGood _ _ _); with_reducible refine keepsBut_of ?_ (fegGood_keeps _ _ _) (by decide))
    | (with_reducible show keepsBut _ _ (fegFailed _ _); with_reducible refine keepsBut_of ?_ (fegFailed_keeps _ _) (by decide))
    | with_reducible refine keepsBut_ite ?_ ?_
    | with_reducible refine keepsBut_doIf (fun _ => ?_) ?_
    | with_reducible refine keepsBut_each (fun _ _ => ?_) ?_
    | dsimp only [id]
    | split)

theorem eff_cmpMeasure_keeps (c : Fin 10) (s : State) : keepsBut [.cal] s ((mCmpCal c (fun k => { k with measuring := true })) s) := by
  try dsimp only
  repeat' (first
    | with_reducible exact keepsBut_refl _ _
    | (with_reducible show keepsBut _ _ (mCmpCal _ _ _); with_reducible refine keepsBut_of ?_ (mCmpCal_keeps _ _ _) (by decide))
    | with_reducible refine keepsBut_ite ?_ ?_
    | with_reducible refine keepsBut_doIf (fun _ => ?_) ?_
    | with_reducible refine keepsBut_each (fun _ _ => ?_) ?_
    | dsimp only [id]
    | split)

theorem eff_cmpMeasureDone_keeps (c : Fin 10) (offs : List Int) (s : State) : keepsBut [.err, .cal] s ((cmpDone c offs) s) := by
  try dsimp only
  repeat' (first
    | with_reducible exact keepsBut_refl _ _
    | (with_reducible show keepsBut _ _ (cmpDone _ _ _); with_reducible refine keepsBut_of ?_ (cmpDone_keeps _ _ _) (by decide))
    | with_reducible refine keepsBut_ite ?_ ?_
    | with_reducible refine keepsBut_doIf (fun _ => ?_) ?_
    | with_reducible refine keepsBut_each (fun _ _ => ?_) ?_
    | dsimp only [id]
    | split)

theorem eff_calSlewStep_keeps (t : CalTarget) (s : State) : keepsBut [.mem, .cal] s ((slewStep t) s) := by
  try dsimp only
  repeat' (first
    | with_reducible exact keepsBut_refl _ _
    | (with_reducible show keepsBut _ _ (slewStep _ _); with_reducible refine keepsBut_of ?_ (slewStep_keeps _ _) (by decide))
    | with_reducible refine keepsBut_ite ?_ ?_
    | with_reducible refine keepsBut_doIf (fun _ => ?_) ?_
    | with_reducible refine keepsBut_each (fun _ _ => ?_) ?_
    | dsimp only [id]
    | split)

theorem eff_captureDone_keeps (s : State) : keepsBut [.cap, .mem] s (captureDone s) := by
  try dsimp only
  repeat' (first
    | with_reducible exact keepsBut_refl _ _
    | (with_reducible show keepsBut _ _ (captureDone _); with_reducible refine keepsBut_of ?_ (captureDone_keeps _) (by decide))
    | with_reducible refine keepsBut_ite ?_ ?_
    | with_reducible refine keepsBut_doIf (fun _ => ?_) ?_
    | with_reducible refine keepsBut_each (fun _ _ => ?_) ?_
    | dsimp only [id]
    | split)

theorem eff_tapReset_keeps (s : State) : keepsBut [.regs, .sys, .err, .dbg, .mgt, .tow, .mem] s (tapReset s) := by
  try dsimp only
  repeat' (first
    | with_reducible exact keepsBut_refl _ _
    | (with_reducible show keepsBut _ _ (tapReset _); with_reducible refine keepsBut_of ?_ (tapReset_keeps _) (by decide))
    | with_reducible refine keepsBut_ite ?_ ?_
    | with_reducible refine keepsBut_doIf (fun _ => ?_) ?_
    | with_reducible refine keepsBut_each (fun _ _ => ?_) ?_
    | dsimp only [id]
    | split)

theorem eff_tapInstruction_keeps (code : BitVec 6) (s : State) : keepsBut [.dbg] s ((tapLoad code) s) := by
  try dsimp only
  repeat' (first
    | with_reducible exact keepsBut_refl _ _
    | (with_reducible show keepsBut _ _ (tapLoad _ _); with_reducible refine keepsBut_of ?_ (tapLoad_keeps _ _) (by decide))
    | with_reducible refine keepsBut_ite ?_ ?_
    | with_reducible refine keepsBut_doIf (fun _ => ?_) ?_
    | with_reducible refine keepsBut_each (fun _ _ => ?_) ?_
    | dsimp only [id]
    | split)

theorem eff_wpNop_keeps (s : State) : keepsBut [.free, .dbg] s ((wpDone 0) s) := by
  try dsimp only
  repeat' (first
    | with_reducible exact keepsBut_refl _ _
    | (with_reducible show keepsBut _ _ (wpDone _ _); with_reducible refine keepsBut_of ?_ (wpDone_keeps _ _) (by decide))
    | with_reducible refine keepsBut_ite ?_ ?_
    | with_reducible refine keepsBut_doIf (fun _ => ?_) ?_
    | with_reducible refine keepsBut_each (fun _ _ => ?_) ?_
    | dsimp only [id]
    | split)

theorem eff_wpRead32_keeps (space : Fin 16) (addr : Word) (e : List Flip) (s : State) : keepsBut [.free, .regs, .sys, .err, .dbg, .ptp, .pos, .mil, .fir, .stg, .nzl, .mem, .axs, .lmp] s ((wpRead space addr e) s) := by
  try dsimp only
  repeat' (first
    | with_reducible exact keepsBut_refl _ _
    | (with_reducible show keepsBut _ _ (wpRead _ _ _ _); with_reducible refine keepsBut_of ?_ (wpRead_keeps _ _ _ _) (by decide))
    | with_reducible refine keepsBut_ite ?_ ?_
    | with_reducible refine keepsBut_doIf (fun _ => ?_) ?_
    | with_reducible refine keepsBut_each (fun _ _ => ?_) ?_
    | dsimp only [id]
    | split)

theorem eff_wpWrite32_keeps (space : Fin 16) (addr : Word) (data : Word) (e : List Flip) (s : State) : keepsBut [.free, .regs, .sys, .err, .cap, .dbg, .cfg, .keep, .net, .ptp, .mgt, .tow, .cmp, .str, .pos, .mil, .fir, .stg, .nzl, .gat, .gul, .insp, .mem, .axs, .lmp, .par, .cal] s ((wpWrite space addr data e) s) := by
  try dsimp only
  repeat' (first
    | with_reducible exact keepsBut_refl _ _
    | (with_reducible show keepsBut _ _ (wpWrite _ _ _ _ _); with_reducible refine keepsBut_of ?_ (wpWrite_keeps _ _ _ _ _) (by decide))
    | with_reducible refine keepsBut_ite ?_ ?_
    | with_reducible refine keepsBut_doIf (fun _ => ?_) ?_
    | with_reducible refine keepsBut_each (fun _ _ => ?_) ?_
    | dsimp only [id]
    | split)

theorem eff_wpHalt_keeps (s : State) : keepsBut [.free, .sys, .err, .dbg, .mgt] s (wpHalt s) := by
  try dsimp only
  repeat' (first
    | with_reducible exact keepsBut_refl _ _
    | (with_reducible show keepsBut _ _ (wpHalt _); with_reducible refine keepsBut_of ?_ (wpHalt_keeps _) (by decide))
    | with_reducible refine keepsBut_ite ?_ ?_
    | with_reducible refine keepsBut_doIf (fun _ => ?_) ?_
    | with_reducible refine keepsBut_each (fun _ _ => ?_) ?_
    | dsimp only [id]
    | split)

theorem eff_wpResume_keeps (s : State) : keepsBut [.free, .sys, .err, .dbg, .net, .mgt, .tow, .nzl, .mem] s (wpResume s) := by
  try dsimp only
  repeat' (first
    | with_reducible exact keepsBut_refl _ _
    | (with_reducible show keepsBut _ _ (wpResume _); with_reducible refine keepsBut_of ?_ (wpResume_keeps _) (by decide))
    | with_reducible refine keepsBut_ite ?_ ?_
    | with_reducible refine keepsBut_doIf (fun _ => ?_) ?_
    | with_reducible refine keepsBut_each (fun _ _ => ?_) ?_
    | dsimp only [id]
    | split)

theorem eff_wpStep_keeps (data : Word) (s : State) : keepsBut [.free, .sys, .err, .dbg, .mgt, .tow, .mem] s ((wpStep data) s) := by
  try dsimp only
  repeat' (first
    | with_reducible exact keepsBut_refl _ _
    | (with_reducible show keepsBut _ _ (wpStep _ _); with_reducible refine keepsBut_of ?_ (wpStep_keeps _ _) (by decide))
    | with_reducible refine keepsBut_ite ?_ ?_
    | with_reducible refine keepsBut_doIf (fun _ => ?_) ?_
    | with_reducible refine keepsBut_each (fun _ _ => ?_) ?_
    | dsimp only [id]
    | split)

theorem eff_wpCapture_keeps (mask : Word) (s : State) : keepsBut [.free, .err, .cap, .dbg] s ((wpCapture mask) s) := by
  try dsimp only
  repeat' (first
    | with_reducible exact keepsBut_refl _ _
    | (with_reducible show keepsBut _ _ (wpCapture _ _); with_reducible refine keepsBut_of ?_ (wpCapture_keeps _ _) (by decide))
    | with_reducible refine keepsBut_ite ?_ ?_
    | with_reducible refine keepsBut_doIf (fun _ => ?_) ?_
    | with_reducible refine keepsBut_each (fun _ _ => ?_) ?_
    | dsimp only [id]
    | split)

theorem eff_wpReservedOp_keeps (op : BitVec 4) (s : State) : keepsBut [.free, .err, .dbg] s (wpRefuse s) := by
  try dsimp only
  repeat' (first
    | with_reducible exact keepsBut_refl _ _
    | (with_reducible show keepsBut _ _ (wpRefuse _); with_reducible refine keepsBut_of ?_ (wpRefuse_keeps _) (by decide))
    | with_reducible refine keepsBut_ite ?_ ?_
    | with_reducible refine keepsBut_doIf (fun _ => ?_) ?_
    | with_reducible refine keepsBut_each (fun _ _ => ?_) ?_
    | dsimp only [id]
    | split)

theorem eff_keepFeedReturn_keeps (feedB : Bool) (s : State) : keepsBut [.err, .keep] s ((feedBack feedB) s) := by
  try dsimp only
  repeat' (first
    | with_reducible exact keepsBut_refl _ _
    | (with_reducible show keepsBut _ _ (feedBack _ _); with_reducible refine keepsBut_of ?_ (feedBack_keeps _ _) (by decide))
    | with_reducible refine keepsBut_ite ?_ ?_
    | with_reducible refine keepsBut_doIf (fun _ => ?_) ?_
    | with_reducible refine keepsBut_each (fun _ _ => ?_) ?_
    | dsimp only [id]
    | split)

theorem eff_symbolRealign_keeps (at_ : RxLane × Bool) (s : State) : keepsBut [.gul, .par] s ((fun s => match at_.1 with
    | .head p =>
      let s' := if (headPort s p).st = .active then mHead p (fun h => { h with slips := satAdd 16 h.slips 1 }) s else s
      if at_.2 && linkUp s p then gulDiscard p 2 s' else s'
    | .tether _ => if at_.2 && s.par.tethUp then tethDrop s else s) s) := by
  try dsimp only
  repeat' (first
    | with_reducible exact keepsBut_refl _ _
    | (with_reducible show keepsBut _ _ (mHead _ _ _); with_reducible refine keepsBut_of ?_ (mHead_keeps _ _ _) (by decide))
    | (with_reducible show keepsBut _ _ (gulDiscard _ _ _); with_reducible refine keepsBut_of ?_ (gulDiscard_keeps _ _ _) (by decide))
    | (with_reducible show keepsBut _ _ (tethDrop _); with_reducible refine keepsBut_of ?_ (tethDrop_keeps _) (by decide))
    | with_reducible refine keepsBut_ite ?_ ?_
    | with_reducible refine keepsBut_doIf (fun _ => ?_) ?_
    | with_reducible refine keepsBut_each (fun _ _ => ?_) ?_
    | dsimp only [id]
    | split)

theorem eff_trainingSetInActive_keeps (p : Port) (s : State) : keepsBut [.err, .tow, .fir, .nzl, .gul, .mem] s ((portLoss p 7) s) := by
  try dsimp only
  repeat' (first
    | with_reducible exact keepsBut_refl _ _
    | (with_reducible show keepsBut _ _ (portLoss _ _ _); with_reducible refine keepsBut_of ?_ (portLoss_keeps _ _ _) (by decide))
    | with_reducible refine keepsBut_ite ?_ ?_
    | with_reducible refine keepsBut_doIf (fun _ => ?_) ?_
    | with_reducible refine keepsBut_each (fun _ _ => ?_) ?_
    | dsimp only [id]
    | split)

theorem eff_codeErrorBurst_keeps (errs : Port × Nat) (s : State) : keepsBut [.err, .tow, .fir, .nzl, .gul, .mem] s ((fun s => doIf (decide (32 ≤ errs.2)) (portLoss errs.1 7) (gulErrs errs.1 errs.2 s)) s) := by
  try dsimp only
  repeat' (first
    | with_reducible exact keepsBut_refl _ _
    | (with_reducible show keepsBut _ _ (portLoss _ _ _); with_reducible refine keepsBut_of ?_ (portLoss_keeps _ _ _) (by decide))
    | (with_reducible show keepsBut _ _ (gulErrs _ _ _); with_reducible refine keepsBut_of ?_ (gulErrs_keeps _ _ _) (by decide))
    | with_reducible refine keepsBut_ite ?_ ?_
    | with_reducible refine keepsBut_doIf (fun _ => ?_) ?_
    | with_reducible refine keepsBut_each (fun _ _ => ?_) ?_
    | dsimp only [id]
    | split)

theorem eff_adaptationResume_keeps (lane : RxLane) (_sym : ResumeSym) (s : State) : keepsBut [.gul, .par] s ((fun s => match lane with
    | .head p => mHead p (fun h => { h with frozen := false }) s
    | .tether l => mTeth l (fun t => { t with frozen := false }) s) s) := by
  try dsimp only
  repeat' (first
    | with_reducible exact keepsBut_refl _ _
    | (with_reducible show keepsBut _ _ (mHead _ _ _); with_reducible refine keepsBut_of ?_ (mHead_keeps _ _ _) (by decide))
    | (with_reducible show keepsBut _ _ (mTeth _ _ _); with_reducible refine keepsBut_of ?_ (mTeth_keeps _ _ _) (by decide))
    | with_reducible refine keepsBut_ite ?_ ?_
    | with_reducible refine keepsBut_doIf (fun _ => ?_) ?_
    | with_reducible refine keepsBut_each (fun _ _ => ?_) ?_
    | dsimp only [id]
    | split)

theorem eff_limitInputInactive_keeps (a : Axis) (hi : Bool) (s : State) : keepsBut [.axs] s ((mAxs a (fun k => if hi then { k with limHi := false } else { k with limLo := false })) s) := by
  try dsimp only
  repeat' (first
    | with_reducible exact keepsBut_refl _ _
    | (with_reducible show keepsBut _ _ (mAxs _ _ _); with_reducible refine keepsBut_of ?_ (mAxs_keeps _ _ _) (by decide))
    | with_reducible refine keepsBut_ite ?_ ?_
    | with_reducible refine keepsBut_doIf (fun _ => ?_) ?_
    | with_reducible refine keepsBut_each (fun _ _ => ?_) ?_
    | dsimp only [id]
    | split)

theorem eff_fegTestEdge_keeps (g : Fin 4) (cmpPs : Int) (s : State) : keepsBut [.cal] s ((fegCompare g cmpPs) s) := by
  try dsimp only
  repeat' (first
    | with_reducible exact keepsBut_refl _ _
    | (with_reducible show keepsBut _ _ (fegCompare _ _ _); with_reducible refine keepsBut_of ?_ (fegCompare_keeps _ _ _) (by decide))
    | with_reducible refine keepsBut_ite ?_ ?_
    | with_reducible refine keepsBut_doIf (fun _ => ?_) ?_
    | with_reducible refine keepsBut_each (fun _ _ => ?_) ?_
    | dsimp only [id]
    | split)

/-! `eff_…_calm` -/

theorem eff_supplyLow_calm (x0 : Rail) (s : State) : calm s (supplyLow s) := by
  try dsimp only
  repeat' (first
    | with_reducible exact calm_refl _
    | (with_reducible show calm _ (supplyLow _); with_reducible refine calm_trans ?_ (supplyLow_calm _))
    | with_reducible refine calm_ite ?_ ?_
    | with_reducible refine calm_doIf (fun _ => ?_) ?_
    | with_reducible refine calm_each (fun _ _ => ?_) ?_
    | dsimp only [id]
    | split
    | exact calm_eq (by with_reducible rfl))

theorem eff_resetAssert_calm (s : State) : calm s ((coldReset 1) s) := by
  try dsimp only
  repeat' (first
    | with_reducible exact calm_refl _
    | (with_reducible show calm _ (coldReset _ _); with_reducible refine calm_trans ?_ (coldReset_calm _ _))
    | with_reducible refine calm_ite ?_ ?_
    | with_reducible refine calm_doIf (fun _ => ?_) ?_
    | with_reducible refine calm_each (fun _ _ => ?_) ?_
    | dsimp only [id]
    | split
    | exact calm_eq (by with_reducible rfl))

theorem eff_lanewaitExpire_calm (s : State) : calm s (lanewaitOver s) := by
  try dsimp only
  repeat' (first
    | with_reducible exact calm_refl _
    | (with_reducible show calm _ (lanewaitOver _); with_reducible refine calm_trans ?_ (lanewaitOver_calm _))
    | with_reducible refine calm_ite ?_ ?_
    | with_reducible refine calm_doIf (fun _ => ?_) ?_
    | with_reducible refine calm_each (fun _ _ => ?_) ?_
    | dsimp only [id]
    | split
    | exact calm_eq (by with_reducible rfl))

theorem eff_paceMeasure_calm (measured : List Nat) (s : State) : calm s ((paceAll measured) s) := by
  try dsimp only
  repeat' (first
    | with_reducible exact calm_refl _
    | (with_reducible show calm _ (paceAll _ _); with_reducible refine calm_trans ?_ (paceAll_calm _ _))
    | with_reducible refine calm_ite ?_ ?_
    | with_reducible refine calm_doIf (fun _ => ?_) ?_
    | with_reducible refine calm_each (fun _ _ => ?_) ?_
    | dsimp only [id]
    | split
    | exact calm_eq (by with_reducible rfl))

theorem eff_encoderEdge_calm (ch : Enc) (a : Bool) (b : Bool) (fast : Bool) (more : Bool) (s : State) : calm s ((encEdge ch a b fast more) s) := by
  try dsimp only
  repeat' (first
    | with_reducible exact calm_refl _
    | (with_reducible show calm _ (encEdge _ _ _ _ _ _); with_reducible refine calm_trans ?_ (encEdge_calm _ _ _ _ _ _))
    | with_reducible refine calm_ite ?_ ?_
    | with_reducible refine calm_doIf (fun _ => ?_) ?_
    | with_reducible refine calm_each (fun _ _ => ?_) ?_
    | dsimp only [id]
    | split
    | exact calm_eq (by with_reducible rfl))

theorem eff_wireDisagree_calm (ch : Enc) (pair : EncPair) (s : State) : calm s ((fun s => if keepRuns s && !disagrees s ch (pairNo pair) then wireBad ch pair s else s) s) := by
  try dsimp only
  repeat' (first
    | with_reducible exact calm_refl _
    | (with_reducible show calm _ (wireBad _ _ _); with_reducible refine calm_trans ?_ (wireBad_calm _ _ _))
    | with_reducible refine calm_ite ?_ ?_
    | with_reducible refine calm_doIf (fun _ => ?_) ?_
    | with_reducible refine calm_each (fun _ _ => ?_) ?_
    | dsimp only [id]
    | split
    | exact calm_eq (by with_reducible rfl))

theorem eff_wireAgree_calm (ch : Enc) (pair : EncPair) (s : State) : calm s ((fun s => if disagrees s ch (pairNo pair) then wireGood ch pair s else s) s) := by
  try dsimp only
  repeat' (first
    | with_reducible exact calm_refl _
    | (with_reducible show calm _ (wireGood _ _ _); with_reducible refine calm_trans ?_ (wireGood_calm _ _ _))
    | with_reducible refine calm_ite ?_ ?_
    | with_reducible refine calm_doIf (fun _ => ?_) ?_
    | with_reducible refine calm_each (fun _ _ => ?_) ?_
    | dsimp only [id]
    | split
    | exact calm_eq (by with_reducible rfl))

theorem eff_index_calm (ch : Enc) (more : Bool) (s : State) : calm s ((zEdge ch more) s) := by
  try dsimp only
  repeat' (first
    | with_reducible exact calm_refl _
    | (with_reducible show calm _ (zEdge _ _ _); with_reducible refine calm_trans ?_ (zEdge_calm _ _ _))
    | with_reducible refine calm_ite ?_ ?_
    | with_reducible refine calm_doIf (fun _ => ?_) ?_
    | with_reducible refine calm_each (fun _ _ => ?_) ?_
    | dsimp only [id]
    | split
    | exact calm_eq (by with_reducible rfl))

theorem eff_ssiFrameStart_calm (ch : Enc) (dataHigh : Bool) (s : State) : calm s ((fun s =>
    if dataHigh then mEnc ch (fun e => { e with ssiBusy := true, ssiX := e.x }) s else ssiDiscard ch s) s) := by
  try dsimp only
  repeat' (first
    | with_reducible exact calm_refl _
    | (with_reducible show calm _ (ssiDiscard _ _); with_reducible refine calm_trans ?_ (ssiDiscard_calm _ _))
    | (with_reducible show calm _ (mEnc _ _ _); with_reducible refine calm_trans ?_ (calm_of_keeps (mEnc_keeps _ _ _) (by decide)))
    | with_reducible refine calm_ite ?_ ?_
    | with_reducible refine calm_doIf (fun _ => ?_) ?_
    | with_reducible refine calm_each (fun _ _ => ?_) ?_
    | dsimp only [id]
    | split
    | exact calm_eq (by with_reducible rfl))

theorem eff_ssiWord_calm (ch : Enc) (w : Word) (parity : Bool) (s : State) : calm s ((ssiDone ch w parity) s) := by
  try dsimp only
  repeat' (first
    | with_reducible exact calm_refl _
    | (with_reducible show calm _ (ssiDone _ _ _ _); with_reducible refine calm_trans ?_ (ssiDone_calm _ _ _ _))
    | with_reducible refine calm_ite ?_ ?_
    | with_reducible refine calm_doIf (fun _ => ?_) ?_
    | with_reducible refine calm_each (fun _ _ => ?_) ?_
    | dsimp only [id]
    | split
    | exact calm_eq (by with_reducible rfl))

theorem eff_ssiReleaseTimeout_calm (ch : Enc) (s : State) : calm s ((fun s => ssiDiscard ch (mEnc ch (fun e => { e with ssiBusy := false }) s)) s) := by
  try dsimp only
  repeat' (first
    | with_reducible exact calm_refl _
    | (with_reducible show calm _ (ssiDiscard _ _); with_reducible refine calm_trans ?_ (ssiDiscard_calm _ _))
    | (with_reducible show calm _ (mEnc _ _ _); with_reducible refine calm_trans ?_ (calm_of_keeps (mEnc_keeps _ _ _) (by decide)))
    | with_reducible refine calm_ite ?_ ?_
    | with_reducible refine calm_doIf (fun _ => ?_) ?_
    | with_reducible refine calm_each (fun _ _ => ?_) ?_
    | dsimp only [id]
    | split
    | exact calm_eq (by with_reducible rfl))

theorem eff_observerUpdate_calm (ch : Enc) (s : State) : calm s ((fun s => let s := takeLive s; if encEn s ch && (enc s ch).started then obsUpdate ch s else s) s) := by
  try dsimp only
  repeat' (first
    | with_reducible exact calm_refl _
    | (with_reducible show calm _ (obsUpdate _ _); with_reducible refine calm_trans ?_ (obsUpdate_calm _ _))
    | (with_reducible show calm _ (takeLive _); with_reducible refine calm_trans ?_ (takeLive_calm _))
    | with_reducible refine calm_ite ?_ ?_
    | with_reducible refine calm_doIf (fun _ => ?_) ?_
    | with_reducible refine calm_each (fun _ _ => ?_) ?_
    | dsimp only [id]
    | split
    | exact calm_eq (by with_reducible rfl))

theorem eff_ptSynthStep_calm (ch : Enc) (s : State) : calm s ((ptStep ch) s) := by
  try dsimp only
  repeat' (first
    | with_reducible exact calm_refl _
    | (with_reducible show calm _ (ptStep _ _); with_reducible refine calm_trans ?_ (ptStep_calm _ _))
    | with_reducible refine calm_ite ?_ ?_
    | with_reducible refine calm_doIf (fun _ => ?_) ?_
    | with_reducible refine calm_each (fun _ _ => ?_) ?_
    | dsimp only [id]
    | split
    | exact calm_eq (by with_reducible rfl))

theorem eff_extSyncCapture_calm (n : Fin 2) (rising : Bool) (s : State) : calm s ((syncEdge n rising) s) := by
  try dsimp only
  repeat' (first
    | with_reducible exact calm_refl _
    | (with_reducible show calm _ (syncEdge _ _ _); with_reducible refine calm_trans ?_ (syncEdge_calm _ _ _))
    | with_reducible refine calm_ite ?_ ?_
    | with_reducible refine calm_doIf (fun _ => ?_) ?_
    | with_reducible refine calm_each (fun _ _ => ?_) ?_
    | dsimp only [id]
    | split
    | exact calm_eq (by with_reducible rfl))

theorem eff_strandFetchDone_calm (n : Seg) (s : State) : calm s ((fun s => match (strand s n).reqs with
      | r :: _ => stageTake 4 [r.tag] r.layer n none (fetchDone n) s
      | [] => s) s) := by
  try dsimp only
  repeat' (first
    | with_reducible exact calm_refl _
    | (with_reducible show calm _ (stageTake _ _ _ _ _ _ _); with_reducible refine calm_trans ?_ (stageTake_calm (fun _ => ?_) _ _ _ _ _ _))
    | (with_reducible show calm _ (fetchDone _ _); with_reducible refine calm_trans ?_ (calm_of_keeps (fetchDone_keeps _ _) (by decide)))
    | with_reducible refine calm_ite ?_ ?_
    | with_reducible refine calm_doIf (fun _ => ?_) ?_
    | with_reducible refine calm_each (fun _ _ => ?_) ?_
    | dsimp only [id]
    | split
    | exact calm_eq (by with_reducible rfl))

theorem eff_nozzleMapLine_calm (s : State) : calm s (mapNext s) := by
  try dsimp only
  repeat' (first
    | with_reducible exact calm_refl _
    | (with_reducible show calm _ (mapNext _); with_reducible refine calm_trans ?_ (mapNext_calm _))
    | with_reducible refine calm_ite ?_ ?_
    | with_reducible refine calm_doIf (fun _ => ?_) ?_
    | with_reducible refine calm_each (fun _ _ => ?_) ?_
    | dsimp only [id]
    | split
    | exact calm_eq (by with_reducible rfl))

theorem eff_staggerLine_calm (n : Seg) (s : State) : calm s ((fun s =>
      match staggerNext s n with
      | some (t, l) => stageTake 6 [t.k, n] l.layer n (some t.lc) (staggerLine n t l) s
      | none => s) s) := by
  try dsimp only
  repeat' (first
    | with_reducible exact calm_refl _
    | (with_reducible show calm _ (stageTake _ _ _ _ _ _ _); with_reducible refine calm_trans ?_ (stageTake_calm (fun _ => ?_) _ _ _ _ _ _))
    | (with_reducible show calm _ (staggerLine _ _ _ _); with_reducible refine calm_trans ?_ (calm_of_keeps (staggerLine_keeps _ _ _ _) (by decide)))
    | with_reducible refine calm_ite ?_ ?_
    | with_reducible refine calm_doIf (fun _ => ?_) ?_
    | with_reducible refine calm_each (fun _ _ => ?_) ?_
    | dsimp only [id]
    | split
    | exact calm_eq (by with_reducible rfl))

theorem eff_frameBuild_calm (p : Port) (s : State) : calm s ((fun s =>
    match buildNext s p with
    | some t => if t.mark = .null then frameBuild p t s else stageTake 7 [t.k, p] t.layer p (some t.lc) (frameBuild p t) s
    | none => s) s) := by
  try dsimp only
  repeat' (first
    | with_reducible exact calm_refl _
    | (with_reducible show calm _ (stageTake _ _ _ _ _ _ _); with_reducible refine calm_trans ?_ (stageTake_calm (fun _ => ?_) _ _ _ _ _ _))
    | (with_reducible show calm _ (frameBuild _ _ _); with_reducible refine calm_trans ?_ (frameBuild_calm _ _ _))
    | with_reducible refine calm_ite ?_ ?_
    | with_reducible refine calm_doIf (fun _ => ?_) ?_
    | with_reducible refine calm_each (fun _ _ => ?_) ?_
    | dsimp only [id]
    | split
    | exact calm_eq (by with_reducible rfl))

theorem eff_lineFrameSend_calm (p : Port) (late : Bool) (s : State) : calm s ((fun s =>
    match sendNext s p with
    | some (t, f) => if f.null then frameSend p late t f s else stageTake 8 [t.k, p] t.layer p (some t.lc) (frameSend p late t f) s
    | none => s) s) := by
  try dsimp only
  repeat' (first
    | with_reducible exact calm_refl _
    | (with_reducible show calm _ (stageTake _ _ _ _ _ _ _); with_reducible refine calm_trans ?_ (stageTake_calm (fun _ => ?_) _ _ _ _ _ _))
    | (with_reducible show calm _ (frameSend _ _ _ _ _); with_reducible refine calm_trans ?_ (frameSend_calm _ _ _ _ _))
    | with_reducible refine calm_ite ?_ ?_
    | with_reducible refine calm_doIf (fun _ => ?_) ?_
    | with_reducible refine calm_each (fun _ _ => ?_) ?_
    | dsimp only [id]
    | split
    | exact calm_eq (by with_reducible rfl))

theorem eff_towDrop_calm (rx : Arrival) (ss : Session) (d : Bytes) (s : State) : calm s ((towRx rx ss (fun _ s =>
    let c := towDropCase d
    raiseLim .notice Err.towDrop (sessKey ss) (ms 1) [c, if c = 3 then 0 else towLayer d]
      (mTow (fun t => { t with cntDrop := t.cntDrop + 1 }) s))) s) := by
  try dsimp only
  repeat' (first
    | with_reducible exact calm_refl _
    | (with_reducible show calm _ (raiseLim _ _ _ _ _ _); refine calm_trans ?_ (calm_raiseLim _ _ _ _ _ _ (by first | exact .inl rfl | exact .inr rfl | (split <;> first | exact .inl rfl | exact .inr rfl))))
    | (with_reducible show calm _ (towRx _ _ _ _); with_reducible refine calm_trans ?_ (towRx_calm (fun _ _ => ?_) _ _ _))
    | (with_reducible show calm _ (mTow _ _); with_reducible refine calm_trans ?_ (calm_of_keeps (mTow_keeps _ _) (by decide)))
    | with_reducible refine calm_ite ?_ ?_
    | with_reducible refine calm_doIf (fun _ => ?_) ?_
    | with_reducible refine calm_each (fun _ _ => ?_) ?_
    | dsimp only [id]
    | split
    | exact calm_eq (by with_reducible rfl))

theorem eff_towlineReservedType_calm (rx : Arrival) (ss : Session) (d : Bytes) (s : State) : calm s ((towRx rx ss (fun np s =>
    match towHeaderBad d with
    | some o => sendNak (some np) ss (towLayer d) { reason := 2, detail := o } s
    | none => sendNak (some np) ss (towLayer d) { reason := 3, detail := byteAt d 3 } s)) s) := by
  try dsimp only
  repeat' (first
    | with_reducible exact calm_refl _
    | (with_reducible show calm _ (sendNak _ _ _ _ _); with_reducible refine calm_trans ?_ (sendNak_calm _ _ _ _ _))
    | (with_reducible show calm _ (towRx _ _ _ _); with_reducible refine calm_trans ?_ (towRx_calm (fun _ _ => ?_) _ _ _))
    | with_reducible refine calm_ite ?_ ?_
    | with_reducible refine calm_doIf (fun _ => ?_) ?_
    | with_reducible refine calm_each (fun _ _ => ?_) ?_
    | dsimp only [id]
    | split
    | exact calm_eq (by with_reducible rfl))

theorem eff_layerAnnounce_calm (rx : Arrival) (ss : Session) (d : Bytes) (s : State) : calm s ((towRx rx ss (towEntry ss d (fun np => announce np ss d))) s) := by
  try dsimp only
  repeat' (first
    | with_reducible exact calm_refl _
    | (with_reducible show calm _ (towEntry _ _ _ _ _); with_reducible refine calm_trans ?_ (towEntry_calm (fun _ _ => ?_) _ _ _ _))
    | (with_reducible show calm _ (announce _ _ _ _); with_reducible refine calm_trans ?_ (announce_calm _ _ _ _))
    | (with_reducible show calm _ (towRx _ _ _ _); with_reducible refine calm_trans ?_ (towRx_calm (fun _ _ => ?_) _ _ _))
    | (with_reducible show calm _ (towEntry _ _ _ _ _); with_reducible refine calm_trans ?_ (towEntry_calm (fun _ _ => ?_) _ _ _ _))
    | with_reducible refine calm_ite ?_ ?_
    | with_reducible refine calm_doIf (fun _ => ?_) ?_
    | with_reducible refine calm_each (fun _ _ => ?_) ?_
    | dsimp only [id]
    | split
    | exact calm_eq (by with_reducible rfl))

theorem eff_blockData_calm (rx : Arrival) (ss : Session) (d : Bytes) (s : State) : calm s ((towRx rx ss (towEntry ss d (fun np => towOwned np ss d (beAt d 16 4) goneUnknown (fragCheck np ss d)))) s) := by
  try dsimp only
  repeat' (first
    | with_reducible exact calm_refl _
    | (with_reducible show calm _ (towEntry _ _ _ _ _); with_reducible refine calm_trans ?_ (towEntry_calm (fun _ _ => ?_) _ _ _ _))
    | (with_reducible show calm _ (towOwned _ _ _ _ _ _); with_reducible refine calm_trans ?_ (towOwned_calm (fun _ _ => ?_) _ _ _ _ _))
    | (with_reducible show calm _ (fragCheck _ _ _ _ _); with_reducible refine calm_trans ?_ (fragCheck_calm _ _ _ _ _))
    | (with_reducible show calm _ (towRx _ _ _ _); with_reducible refine calm_trans ?_ (towRx_calm (fun _ _ => ?_) _ _ _))
    | (with_reducible show calm _ (towEntry _ _ _ _ _); with_reducible refine calm_trans ?_ (towEntry_calm (fun _ _ => ?_) _ _ _ _))
    | (with_reducible show calm _ (towOwned _ _ _ _ _ _ _); with_reducible refine calm_trans ?_ (towOwned_calm (fun _ _ => ?_) _ _ _ _ _ _))
    | with_reducible refine calm_ite ?_ ?_
    | with_reducible refine calm_doIf (fun _ => ?_) ?_
    | with_reducible refine calm_each (fun _ _ => ?_) ?_
    | dsimp only [id]
    | split
    | exact calm_eq (by with_reducible rfl))

theorem eff_layerClose_calm (rx : Arrival) (ss : Session) (d : Bytes) (s : State) : calm s ((towRx rx ss (towEntry ss d (fun np => towOwned np ss d 0xFFFFFFFF goneUnknown (closeMsg np d)))) s) := by
  try dsimp only
  repeat' (first
    | with_reducible exact calm_refl _
    | (with_reducible show calm _ (towEntry _ _ _ _ _); with_reducible refine calm_trans ?_ (towEntry_calm (fun _ _ => ?_) _ _ _ _))
    | (with_reducible show calm _ (towOwned _ _ _ _ _ _); with_reducible refine calm_trans ?_ (towOwned_calm (fun _ _ => ?_) _ _ _ _ _))
    | (with_reducible show calm _ (closeMsg _ _ _ _); with_reducible refine calm_trans ?_ (closeMsg_calm _ _ _ _))
    | (with_reducible show calm _ (towRx _ _ _ _); with_reducible refine calm_trans ?_ (towRx_calm (fun _ _ => ?_) _ _ _))
    | (with_reducible show calm _ (towEntry _ _ _ _ _); with_reducible refine calm_trans ?_ (towEntry_calm (fun _ _ => ?_) _ _ _ _))
    | (with_reducible show calm _ (towOwned _ _ _ _ _ _ _); with_reducible refine calm_trans ?_ (towOwned_calm (fun _ _ => ?_) _ _ _ _ _ _))
    | with_reducible refine calm_ite ?_ ?_
    | with_reducible refine calm_doIf (fun _ => ?_) ?_
    | with_reducible refine calm_each (fun _ _ => ?_) ?_
    | dsimp only [id]
    | split
    | exact calm_eq (by with_reducible rfl))

theorem eff_layerRestart_calm (rx : Arrival) (ss : Session) (d : Bytes) (s : State) : calm s ((towRx rx ss (towEntry ss d (fun np => towOwned np ss d 0xFFFFFFFF goneState (restartMsg np ss d)))) s) := by
  try dsimp only
  repeat' (first
    | with_reducible exact calm_refl _
    | (with_reducible show calm _ (towEntry _ _ _ _ _); with_reducible refine calm_trans ?_ (towEntry_calm (fun _ _ => ?_) _ _ _ _))
    | (with_reducible show calm _ (towOwned _ _ _ _ _ _); with_reducible refine calm_trans ?_ (towOwned_calm (fun _ _ => ?_) _ _ _ _ _))
    | (with_reducible show calm _ (restartMsg _ _ _ _ _); with_reducible refine calm_trans ?_ (restartMsg_calm _ _ _ _ _))
    | (with_reducible show calm _ (towRx _ _ _ _); with_reducible refine calm_trans ?_ (towRx_calm (fun _ _ => ?_) _ _ _))
    | (with_reducible show calm _ (towEntry _ _ _ _ _); with_reducible refine calm_trans ?_ (towEntry_calm (fun _ _ => ?_) _ _ _ _))
    | (with_reducible show calm _ (towOwned _ _ _ _ _ _ _); with_reducible refine calm_trans ?_ (towOwned_calm (fun _ _ => ?_) _ _ _ _ _ _))
    | with_reducible refine calm_ite ?_ ?_
    | with_reducible refine calm_doIf (fun _ => ?_) ?_
    | with_reducible refine calm_each (fun _ _ => ?_) ?_
    | dsimp only [id]
    | split
    | exact calm_eq (by with_reducible rfl))

theorem eff_layerRelease_calm (rx : Arrival) (ss : Session) (d : Bytes) (s : State) : calm s ((towRx rx ss (towEntry ss d (fun np => releaseMsg np ss d))) s) := by
  try dsimp only
  repeat' (first
    | with_reducible exact calm_refl _
    | (with_reducible show calm _ (towEntry _ _ _ _ _); with_reducible refine calm_trans ?_ (towEntry_calm (fun _ _ => ?_) _ _ _ _))
    | (with_reducible show calm _ (releaseMsg _ _ _ _); with_reducible refine calm_trans ?_ (releaseMsg_calm _ _ _ _))
    | (with_reducible show calm _ (towRx _ _ _ _); with_reducible refine calm_trans ?_ (towRx_calm (fun _ _ => ?_) _ _ _))
    | (with_reducible show calm _ (towEntry _ _ _ _ _); with_reducible refine calm_trans ?_ (towEntry_calm (fun _ _ => ?_) _ _ _ _))
    | with_reducible refine calm_ite ?_ ?_
    | with_reducible refine calm_doIf (fun _ => ?_) ?_
    | with_reducible refine calm_each (fun _ _ => ?_) ?_
    | dsimp only [id]
    | split
    | exact calm_eq (by with_reducible rfl))

theorem eff_statusReq_calm (rx : Arrival) (ss : Session) (d : Bytes) (s : State) : calm s ((towRx rx ss (towEntry ss d (fun np => statusMsgReq np ss d))) s) := by
  try dsimp only
  repeat' (first
    | with_reducible exact calm_refl _
    | (with_reducible show calm _ (towEntry _ _ _ _ _); with_reducible refine calm_trans ?_ (towEntry_calm (fun _ _ => ?_) _ _ _ _))
    | (with_reducible show calm _ (towRx _ _ _ _); with_reducible refine calm_trans ?_ (towRx_calm (fun _ _ => ?_) _ _ _))
    | (with_reducible show calm _ (towEntry _ _ _ _ _); with_reducible refine calm_trans ?_ (towEntry_calm (fun _ _ => ?_) _ _ _ _))
    | (with_reducible show calm _ (statusMsgReq _ _ _ _); with_reducible refine calm_trans ?_ (calm_of_keeps (statusMsgReq_keeps _ _ _ _) (by decide)))
    | with_reducible refine calm_ite ?_ ?_
    | with_reducible refine calm_doIf (fun _ => ?_) ?_
    | with_reducible refine calm_each (fun _ _ => ?_) ?_
    | dsimp only [id]
    | split
    | exact calm_eq (by with_reducible rfl))

theorem eff_fragmentWritten_calm (s : State) : calm s (fragWritten s) := by
  try dsimp only
  repeat' (first
    | with_reducible exact calm_refl _
    | (with_reducible show calm _ (fragWritten _); with_reducible refine calm_trans ?_ (fragWritten_calm _))
    | with_reducible refine calm_ite ?_ ?_
    | with_reducible refine calm_doIf (fun _ => ?_) ?_
    | with_reducible refine calm_each (fun _ _ => ?_) ?_
    | dsimp only [id]
    | split
    | exact calm_eq (by with_reducible rfl))

theorem eff_compressAbandon_calm (c : Fin 2) (s : State) : calm s ((compRaw c) s) := by
  try dsimp only
  repeat' (first
    | with_reducible exact calm_refl _
    | (with_reducible show calm _ (compRaw _ _); with_reducible refine calm_trans ?_ (compRaw_calm _ _))
    | with_reducible refine calm_ite ?_ ?_
    | with_reducible refine calm_doIf (fun _ => ?_) ?_
    | with_reducible refine calm_each (fun _ _ => ?_) ?_
    | dsimp only [id]
    | split
    | exact calm_eq (by with_reducible rfl))

theorem eff_compressionComplete_calm (c : Fin 2) (s : State) : calm s ((compDone c) s) := by
  try dsimp only
  repeat' (first
    | with_reducible exact calm_refl _
    | (with_reducible show calm _ (compDone _ _); with_reducible refine calm_trans ?_ (compDone_calm _ _))
    | with_reducible refine calm_ite ?_ ?_
    | with_reducible refine calm_doIf (fun _ => ?_) ?_
    | with_reducible refine calm_each (fun _ _ => ?_) ?_
    | dsimp only [id]
    | split
    | exact calm_eq (by with_reducible rfl))

theorem eff_nozzleSwap_calm (s : State) : calm s ((fun s => match nzDue s with | some c => nzSwapDue c s | none => s) s) := by
  try dsimp only
  repeat' (first
    | with_reducible exact calm_refl _
    | (with_reducible show calm _ (nzSwapDue _ _); with_reducible refine calm_trans ?_ (nzSwapDue_calm _ _))
    | with_reducible refine calm_ite ?_ ?_
    | with_reducible refine calm_doIf (fun _ => ?_) ?_
    | with_reducible refine calm_each (fun _ _ => ?_) ?_
    | dsimp only [id]
    | split
    | exact calm_eq (by with_reducible rfl))

theorem eff_gateSlotResult_calm (g : Gate) (noise : Bool) (s : State) : calm s ((gateSlotEnd g noise) s) := by
  try dsimp only
  repeat' (first
    | with_reducible exact calm_refl _
    | (with_reducible show calm _ (gateSlotEnd _ _ _); with_reducible refine calm_trans ?_ (gateSlotEnd_calm _ _ _))
    | with_reducible refine calm_ite ?_ ?_
    | with_reducible refine calm_doIf (fun _ => ?_) ?_
    | with_reducible refine calm_each (fun _ _ => ?_) ?_
    | dsimp only [id]
    | split
    | exact calm_eq (by with_reducible rfl))

theorem eff_linkTimeout_calm (lane : RxLane) (s : State) : calm s ((fun s => match lane with
    | .head p => linkFail p (timeoutReason (headPort s p).st) s
    | .tether l => tethFail l s) s) := by
  try dsimp only
  repeat' (first
    | with_reducible exact calm_refl _
    | (with_reducible show calm _ (linkFail _ _ _); with_reducible refine calm_trans ?_ (linkFail_calm _ _ _))
    | (with_reducible show calm _ (tethFail _ _); with_reducible refine calm_trans ?_ (calm_of_keeps (tethFail_keeps _ _) (by decide)))
    | with_reducible refine calm_ite ?_ ?_
    | with_reducible refine calm_doIf (fun _ => ?_) ?_
    | with_reducible refine calm_each (fun _ _ => ?_) ?_
    | dsimp only [id]
    | split
    | exact calm_eq (by with_reducible rfl))

theorem eff_linkIdleDetect_calm (lane : RxLane) (s : State) : calm s ((fun s => match lane, laneState s lane with
    | .head p, .active => portLoss p 7 s
    | .head p, .poll => linkFail p 6 s
    | .head p, .lock => linkFail p 6 s
    | .head p, .exchange => linkFail p 6 s
    | .tether l, .poll => tethFail l s
    | .tether l, .lock => tethFail l s
    | _, _ => s) s) := by
  try dsimp only
  repeat' (first
    | with_reducible exact calm_refl _
    | (with_reducible show calm _ (linkFail _ _ _); with_reducible refine calm_trans ?_ (linkFail_calm _ _ _))
    | (with_reducible show calm _ (portLoss _ _ _); with_reducible refine calm_trans ?_ (portLoss_calm _ _ _))
    | (with_reducible show calm _ (tethFail _ _); with_reducible refine calm_trans ?_ (calm_of_keeps (tethFail_keeps _ _) (by decide)))
    | with_reducible refine calm_ite ?_ ?_
    | with_reducible refine calm_doIf (fun _ => ?_) ?_
    | with_reducible refine calm_each (fun _ _ => ?_) ?_
    | dsimp only [id]
    | split
    | exact calm_eq (by with_reducible rfl))

theorem eff_gulistAck_calm (p : Port) (f : Bytes) (s : State) : calm s ((gulAck p f) s) := by
  try dsimp only
  repeat' (first
    | with_reducible exact calm_refl _
    | (with_reducible show calm _ (gulAck _ _ _); with_reducible refine calm_trans ?_ (gulAck_calm _ _ _))
    | with_reducible refine calm_ite ?_ ?_
    | with_reducible refine calm_doIf (fun _ => ?_) ?_
    | with_reducible refine calm_each (fun _ _ => ?_) ?_
    | dsimp only [id]
    | split
    | exact calm_eq (by with_reducible rfl))

theorem eff_gulistStatusRx_calm (p : Port) (f : Bytes) (s : State) : calm s ((gulStatus p f) s) := by
  try dsimp only
  repeat' (first
    | with_reducible exact calm_refl _
    | (with_reducible show calm _ (gulStatus _ _ _); with_reducible refine calm_trans ?_ (gulStatus_calm _ _ _))
    | with_reducible refine calm_ite ?_ ?_
    | with_reducible refine calm_doIf (fun _ => ?_) ?_
    | with_reducible refine calm_each (fun _ _ => ?_) ?_
    | dsimp only [id]
    | split
    | exact calm_eq (by with_reducible rfl))

theorem eff_statusTimeout_calm (p : Port) (s : State) : calm s ((portLoss p 7) s) := by
  try dsimp only
  repeat' (first
    | with_reducible exact calm_refl _
    | (with_reducible show calm _ (portLoss _ _ _); with_reducible refine calm_trans ?_ (portLoss_calm _ _ _))
    | with_reducible refine calm_ite ?_ ?_
    | with_reducible refine calm_doIf (fun _ => ?_) ?_
    | with_reducible refine calm_each (fun _ _ => ?_) ?_
    | dsimp only [id]
    | split
    | exact calm_eq (by with_reducible rfl))

theorem eff_gulistSense_calm (p : Port) (f : Bytes) (s : State) : calm s ((gulSense p f) s) := by
  try dsimp only
  repeat' (first
    | with_reducible exact calm_refl _
    | (with_reducible show calm _ (gulSense _ _ _); with_reducible refine calm_trans ?_ (gulSense_calm _ _ _))
    | with_reducible refine calm_ite ?_ ?_
    | with_reducible refine calm_doIf (fun _ => ?_) ?_
    | with_reducible refine calm_each (fun _ _ => ?_) ?_
    | dsimp only [id]
    | split
    | exact calm_eq (by with_reducible rfl))

theorem eff_gulistFrameDiscard_calm (p : Port) (flaws : RxFlaws) (f : Bytes) (s : State) : calm s ((fun s =>
    let r := discStatic flaws f
    let s := gulErrs p flaws.errs s
    if !linkUp s p then s else if r ≠ 0 then gulDiscard p r s else gulAck p f s) s) := by
  try dsimp only
  repeat' (first
    | with_reducible exact calm_refl _
    | (with_reducible show calm _ (gulAck _ _ _); with_reducible refine calm_trans ?_ (gulAck_calm _ _ _))
    | (with_reducible show calm _ (gulErrs _ _ _); with_reducible refine calm_trans ?_ (calm_of_keeps (gulErrs_keeps _ _ _) (by decide)))
    | (with_reducible show calm _ (gulDiscard _ _ _); with_reducible refine calm_trans ?_ (calm_of_keeps (gulDiscard_keeps _ _ _) (by decide)))
    | with_reducible refine calm_ite ?_ ?_
    | with_reducible refine calm_doIf (fun _ => ?_) ?_
    | with_reducible refine calm_each (fun _ _ => ?_) ?_
    | dsimp only [id]
    | split
    | exact calm_eq (by with_reducible rfl))

theorem eff_alignMissing_calm (p : Port) (s : State) : calm s ((fun s =>
    if (headPort s p).alignLogged then s
    else raiseLim .notice Err.alignMissing p (ms 1) [] (mHead p (fun h => { h with alignLogged := true }) s)) s) := by
  try dsimp only
  repeat' (first
    | with_reducible exact calm_refl _
    | (with_reducible show calm _ (mHead _ _ _); with_reducible refine calm_trans ?_ (calm_of_keeps (mHead_keeps _ _ _) (by decide)))
    | (with_reducible show calm _ (raiseLim _ _ _ _ _ _); refine calm_trans ?_ (calm_raiseLim _ _ _ _ _ _ (by first | exact .inl rfl | exact .inr rfl | (split <;> first | exact .inl rfl | exact .inr rfl))))
    | with_reducible refine calm_ite ?_ ?_
    | with_reducible refine calm_doIf (fun _ => ?_) ?_
    | with_reducible refine calm_each (fun _ _ => ?_) ?_
    | dsimp only [id]
    | split
    | exact calm_eq (by with_reducible rfl))

theorem eff_camFrameStart_calm (c : Ctx) (csifn : BitVec 16) (s : State) : calm s ((camPacket c (fun s => if ctxEn s c then frameOpen c csifn.toNat s else camIgnore (c.val / 2) s)) s) := by
  try dsimp only
  repeat' (first
    | with_reducible exact calm_refl _
    | (with_reducible show calm _ (frameOpen _ _ _); with_reducible refine calm_trans ?_ (frameOpen_calm _ _ _))
    | (with_reducible show calm _ (camIgnore _ _); with_reducible refine calm_trans ?_ (calm_of_keeps (camIgnore_keeps _ _) (by decide)))
    | (with_reducible show calm _ (camPacket _ _ _); with_reducible refine calm_trans ?_ (camPacket_calm (fun _ => ?_) _ _))
    | with_reducible refine calm_ite ?_ ?_
    | with_reducible refine calm_doIf (fun _ => ?_) ?_
    | with_reducible refine calm_each (fun _ _ => ?_) ?_
    | dsimp only [id]
    | split
    | exact calm_eq (by with_reducible rfl))

theorem eff_camFrameEnd_calm (c : Ctx) (s : State) : calm s ((camPacket c (fun s => if (openFrame s c).isSome then frameClose c s else camNotice Err.camSync c s)) s) := by
  try dsimp only
  repeat' (first
    | with_reducible exact calm_refl _
    | (with_reducible show calm _ (camNotice _ _ _); with_reducible refine calm_trans ?_ (camNotice_calm _ _ _))
    | (with_reducible show calm _ (frameClose _ _); with_reducible refine calm_trans ?_ (frameClose_calm _ _))
    | (with_reducible show calm _ (camPacket _ _ _); with_reducible refine calm_trans ?_ (camPacket_calm (fun _ => ?_) _ _))
    | with_reducible refine calm_ite ?_ ?_
    | with_reducible refine calm_doIf (fun _ => ?_) ?_
    | with_reducible refine calm_each (fun _ _ => ?_) ?_
    | dsimp only [id]
    | split
    | exact calm_eq (by with_reducible rfl))

theorem eff_camLineRx_calm (c : Ctx) (pkt : BitVec 6 × Bytes) (crc : BitVec 16) (s : State) : calm s ((camPacket c (camLine c pkt.1.toNat pkt.2 (crc16 pkt.2 == crc))) s) := by
  try dsimp only
  repeat' (first
    | with_reducible exact calm_refl _
    | (with_reducible show calm _ (camLine _ _ _ _); with_reducible refine calm_trans ?_ (camLine_calm _ _ _ _))
    | (with_reducible show calm _ (camPacket _ _ _); with_reducible refine calm_trans ?_ (camPacket_calm (fun _ => ?_) _ _))
    | (with_reducible show calm _ (camLine _ _ _ _ _); with_reducible refine calm_trans ?_ (camLine_calm _ _ _ _ _))
    | with_reducible refine calm_ite ?_ ?_
    | with_reducible refine calm_doIf (fun _ => ?_) ?_
    | with_reducible refine calm_each (fun _ _ => ?_) ?_
    | dsimp only [id]
    | split
    | exact calm_eq (by with_reducible rfl))

theorem eff_camPacketIgnored_calm (port : Fin 4) (why : CamIgnored) (s : State) : calm s ((fun s => if !camRuns s || !camPortEn s port then s else camOther port why s) s) := by
  try dsimp only
  repeat' (first
    | with_reducible exact calm_refl _
    | (with_reducible show calm _ (camOther _ _ _); with_reducible refine calm_trans ?_ (camOther_calm _ _ _))
    | with_reducible refine calm_ite ?_ ?_
    | with_reducible refine calm_doIf (fun _ => ?_) ?_
    | with_reducible refine calm_each (fun _ _ => ?_) ?_
    | dsimp only [id]
    | split
    | exact calm_eq (by with_reducible rfl))

theorem eff_recordWrite_calm (c : Ctx) (s : State) : calm s ((fun s => match frameReady s c with | some f => recordPut c f s | none => s) s) := by
  try dsimp only
  repeat' (first
    | with_reducible exact calm_refl _
    | (with_reducible show calm _ (recordPut _ _ _); with_reducible refine calm_trans ?_ (recordPut_calm _ _ _))
    | with_reducible refine calm_ite ?_ ?_
    | with_reducible refine calm_doIf (fun _ => ?_) ?_
    | with_reducible refine calm_each (fun _ _ => ?_) ?_
    | dsimp only [id]
    | split
    | exact calm_eq (by with_reducible rfl))

theorem eff_streakDetect_calm (c : Ctx) (s : State) : calm s ((fun s => match frameReady s c with | some f => streakRun c f s | none => s) s) := by
  try dsimp only
  repeat' (first
    | with_reducible exact calm_refl _
    | (with_reducible show calm _ (streakRun _ _ _); with_reducible refine calm_trans ?_ (streakRun_calm _ _ _))
    | with_reducible refine calm_ite ?_ ?_
    | with_reducible refine calm_doIf (fun _ => ?_) ?_
    | with_reducible refine calm_each (fun _ _ => ?_) ?_
    | dsimp only [id]
    | split
    | exact calm_eq (by with_reducible rfl))

theorem eff_overcurrent_calm (a : Axis) (s : State) : calm s ((overcurrentTake a) s) := by
  try dsimp only
  repeat' (first
    | with_reducible exact calm_refl _
    | (with_reducible show calm _ (overcurrentTake _ _); with_reducible refine calm_trans ?_ (overcurrentTake_calm _ _))
    | with_reducible refine calm_ite ?_ ?_
    | with_reducible refine calm_doIf (fun _ => ?_) ?_
    | with_reducible refine calm_each (fun _ _ => ?_) ?_
    | dsimp only [id]
    | split
    | exact calm_eq (by with_reducible rfl))

theorem eff_hardLimit_calm (a : Axis) (hi : Bool) (s : State) : calm s ((hardLimitTake a hi) s) := by
  try dsimp only
  repeat' (first
    | with_reducible exact calm_refl _
    | (with_reducible show calm _ (hardLimitTake _ _ _); with_reducible refine calm_trans ?_ (hardLimitTake_calm _ _ _))
    | with_reducible refine calm_ite ?_ ?_
    | with_reducible refine calm_doIf (fun _ => ?_) ?_
    | with_reducible refine calm_each (fun _ _ => ?_) ?_
    | dsimp only [id]
    | split
    | exact calm_eq (by with_reducible rfl))

theorem eff_scanFrameStart_calm (s : State) : calm s (scanStart s) := by
  try dsimp only
  repeat' (first
    | with_reducible exact calm_refl _
    | (with_reducible show calm _ (scanStart _); with_reducible refine calm_trans ?_ (scanStart_calm _))
    | with_reducible refine calm_ite ?_ ?_
    | with_reducible refine calm_doIf (fun _ => ?_) ?_
    | with_reducible refine calm_each (fun _ _ => ?_) ?_
    | dsimp only [id]
    | split
    | exact calm_eq (by with_reducible rfl))

theorem eff_lbusFrameEcho_calm (chain : Fin 2) (ret : Option (Nat × Bytes)) (s : State) : calm s ((lbusEcho chain ret) s) := by
  try dsimp only
  repeat' (first
    | with_reducible exact calm_refl _
    | (with_reducible show calm _ (lbusEcho _ _ _); with_reducible refine calm_trans ?_ (lbusEcho_calm _ _ _))
    | with_reducible refine calm_ite ?_ ?_
    | with_reducible refine calm_doIf (fun _ => ?_) ?_
    | with_reducible refine calm_each (fun _ _ => ?_) ?_
    | dsimp only [id]
    | split
    | exact calm_eq (by with_reducible rfl))

theorem eff_netLinkUp_calm (np : NetPort) (s : State) : calm s ((portUp np) s) := by
  try dsimp only
  repeat' (first
    | with_reducible exact calm_refl _
    | (with_reducible show calm _ (portUp _ _); with_reducible refine calm_trans ?_ (portUp_calm _ _))
    | with_reducible refine calm_ite ?_ ?_
    | with_reducible refine calm_doIf (fun _ => ?_) ?_
    | with_reducible refine calm_each (fun _ _ => ?_) ?_
    | dsimp only [id]
    | split
    | exact calm_eq (by with_reducible rfl))

theorem eff_netLinkDown_calm (np : NetPort) (s : State) : calm s ((portDown np) s) := by
  try dsimp only
  repeat' (first
    | with_reducible exact calm_refl _
    | (with_reducible show calm _ (portDown _ _); with_reducible refine calm_trans ?_ (portDown_calm _ _))
    | with_reducible refine calm_ite ?_ ?_
    | with_reducible refine calm_doIf (fun _ => ?_) ?_
    | with_reducible refine calm_each (fun _ _ => ?_) ?_
    | dsimp only [id]
    | split
    | exact calm_eq (by with_reducible rfl))

theorem eff_ptpAnnounce_calm (rx : Arrival) (tr : PtpTransport) (d : Bytes) (s : State) : calm s ((ptpRx rx tr d) s) := by
  try dsimp only
  repeat' (first
    | with_reducible exact calm_refl _
    | (with_reducible show calm _ (ptpRx _ _ _ _); with_reducible refine calm_trans ?_ (ptpRx_calm _ _ _ _))
    | with_reducible refine calm_ite ?_ ?_
    | with_reducible refine calm_doIf (fun _ => ?_) ?_
    | with_reducible refine calm_each (fun _ _ => ?_) ?_
    | dsimp only [id]
    | split
    | exact calm_eq (by with_reducible rfl))

theorem eff_ptpSync_calm (rx : Arrival) (tr : PtpTransport) (d : Bytes) (s : State) : calm s ((ptpRx rx tr d) s) := by
  try dsimp only
  repeat' (first
    | with_reducible exact calm_refl _
    | (with_reducible show calm _ (ptpRx _ _ _ _); with_reducible refine calm_trans ?_ (ptpRx_calm _ _ _ _))
    | with_reducible refine calm_ite ?_ ?_
    | with_reducible refine calm_doIf (fun _ => ?_) ?_
    | with_reducible refine calm_each (fun _ _ => ?_) ?_
    | dsimp only [id]
    | split
    | exact calm_eq (by with_reducible rfl))

theorem eff_ptpFollowUp_calm (rx : Arrival) (tr : PtpTransport) (d : Bytes) (s : State) : calm s ((ptpRx rx tr d) s) := by
  try dsimp only
  repeat' (first
    | with_reducible exact calm_refl _
    | (with_reducible show calm _ (ptpRx _ _ _ _); with_reducible refine calm_trans ?_ (ptpRx_calm _ _ _ _))
    | with_reducible refine calm_ite ?_ ?_
    | with_reducible refine calm_doIf (fun _ => ?_) ?_
    | with_reducible refine calm_each (fun _ _ => ?_) ?_
    | dsimp only [id]
    | split
    | exact calm_eq (by with_reducible rfl))

theorem eff_ptpDelayResp_calm (rx : Arrival) (tr : PtpTransport) (d : Bytes) (s : State) : calm s ((ptpRx rx tr d) s) := by
  try dsimp only
  repeat' (first
    | with_reducible exact calm_refl _
    | (with_reducible show calm _ (ptpRx _ _ _ _); with_reducible refine calm_trans ?_ (ptpRx_calm _ _ _ _))
    | with_reducible refine calm_ite ?_ ?_
    | with_reducible refine calm_doIf (fun _ => ?_) ?_
    | with_reducible refine calm_each (fun _ _ => ?_) ?_
    | dsimp only [id]
    | split
    | exact calm_eq (by with_reducible rfl))

theorem eff_ptpPdelayReq_calm (rx : Arrival) (tr : PtpTransport) (d : Bytes) (s : State) : calm s ((ptpRx rx tr d) s) := by
  try dsimp only
  repeat' (first
    | with_reducible exact calm_refl _
    | (with_reducible show calm _ (ptpRx _ _ _ _); with_reducible refine calm_trans ?_ (ptpRx_calm _ _ _ _))
    | with_reducible refine calm_ite ?_ ?_
    | with_reducible refine calm_doIf (fun _ => ?_) ?_
    | with_reducible refine calm_each (fun _ _ => ?_) ?_
    | dsimp only [id]
    | split
    | exact calm_eq (by with_reducible rfl))

theorem eff_ptpPdelayResp_calm (rx : Arrival) (tr : PtpTransport) (d : Bytes) (s : State) : calm s ((ptpRx rx tr d) s) := by
  try dsimp only
  repeat' (first
    | with_reducible exact calm_refl _
    | (with_reducible show calm _ (ptpRx _ _ _ _); with_reducible refine calm_trans ?_ (ptpRx_calm _ _ _ _))
    | with_reducible refine calm_ite ?_ ?_
    | with_reducible refine calm_doIf (fun _ => ?_) ?_
    | with_reducible refine calm_each (fun _ _ => ?_) ?_
    | dsimp only [id]
    | split
    | exact calm_eq (by with_reducible rfl))

theorem eff_ptpPdelayRespFollowUp_calm (rx : Arrival) (tr : PtpTransport) (d : Bytes) (s : State) : calm s ((ptpRx rx tr d) s) := by
  try dsimp only
  repeat' (first
    | with_reducible exact calm_refl _
    | (with_reducible show calm _ (ptpRx _ _ _ _); with_reducible refine calm_trans ?_ (ptpRx_calm _ _ _ _))
    | with_reducible refine calm_ite ?_ ?_
    | with_reducible refine calm_doIf (fun _ => ?_) ?_
    | with_reducible refine calm_each (fun _ _ => ?_) ?_
    | dsimp only [id]
    | split
    | exact calm_eq (by with_reducible rfl))

theorem eff_ptpIgnored_calm (rx : Arrival) (tr : PtpTransport) (d : Bytes) (s : State) : calm s ((ptpRx rx tr d) s) := by
  try dsimp only
  repeat' (first
    | with_reducible exact calm_refl _
    | (with_reducible show calm _ (ptpRx _ _ _ _); with_reducible refine calm_trans ?_ (ptpRx_calm _ _ _ _))
    | with_reducible refine calm_ite ?_ ?_
    | with_reducible refine calm_doIf (fun _ => ?_) ?_
    | with_reducible refine calm_each (fun _ _ => ?_) ?_
    | dsimp only [id]
    | split
    | exact calm_eq (by with_reducible rfl))

theorem eff_ptpMasterTimeout_calm (dm : Dom) (i : Fin 4) (s : State) : calm s ((fun s => match (dom s dm).foreign[i.val]? with | some f => masterLost dm f s | none => s) s) := by
  try dsimp only
  repeat' (first
    | with_reducible exact calm_refl _
    | (with_reducible show calm _ (masterLost _ _ _); with_reducible refine calm_trans ?_ (masterLost_calm _ _ _))
    | with_reducible refine calm_ite ?_ ?_
    | with_reducible refine calm_doIf (fun _ => ?_) ?_
    | with_reducible refine calm_each (fun _ _ => ?_) ?_
    | dsimp only [id]
    | split
    | exact calm_eq (by with_reducible rfl))

theorem eff_ptpSyncTimeout_calm (dm : Dom) (s : State) : calm s ((setServo dm .holdover) s) := by
  try dsimp only
  repeat' (first
    | with_reducible exact calm_refl _
    | (with_reducible show calm _ (setServo _ _ _); with_reducible refine calm_trans ?_ (setServo_calm _ _ _))
    | with_reducible refine calm_ite ?_ ?_
    | with_reducible refine calm_doIf (fun _ => ?_) ?_
    | with_reducible refine calm_each (fun _ _ => ?_) ?_
    | dsimp only [id]
    | split
    | exact calm_eq (by with_reducible rfl))

theorem eff_ptpHoldmax_calm (dm : Dom) (s : State) : calm s ((fun s => faultErr Err.ptpHoldover [0, 0, 0, 0, dm.val] (setServo dm .listen (mDom dm (fun m => { m with master := none }) s))) s) := by
  try dsimp only
  repeat' (first
    | with_reducible exact calm_refl _
    | (with_reducible show calm _ (mDom _ _ _); with_reducible refine calm_trans ?_ (calm_of_keeps (mDom_keeps _ _ _) (by decide)))
    | (with_reducible show calm _ (faultErr _ _ _); with_reducible refine calm_trans ?_ (faultErr_calm _ _ _))
    | (with_reducible show calm _ (setServo _ _ _); with_reducible refine calm_trans ?_ (setServo_calm _ _ _))
    | with_reducible refine calm_ite ?_ ?_
    | with_reducible refine calm_doIf (fun _ => ?_) ?_
    | with_reducible refine calm_each (fun _ _ => ?_) ?_
    | dsimp only [id]
    | split
    | exact calm_eq (by with_reducible rfl))

theorem eff_fireDiscipline_calm (cycles : Nat) (s : State) : calm s ((fireAdjust cycles) s) := by
  try dsimp only
  repeat' (first
    | with_reducible exact calm_refl _
    | (with_reducible show calm _ (fireAdjust _ _); with_reducible refine calm_trans ?_ (fireAdjust_calm _ _))
    | with_reducible refine calm_ite ?_ ?_
    | with_reducible refine calm_doIf (fun _ => ?_) ?_
    | with_reducible refine calm_each (fun _ _ => ?_) ?_
    | dsimp only [id]
    | split
    | exact calm_eq (by with_reducible rfl))

theorem eff_mgmtTick_calm (temps : List Int) (refCodes : List (BitVec 3)) (s : State) : calm s ((mgmtTick temps refCodes) s) := by
  try dsimp only
  repeat' (first
    | with_reducible exact calm_refl _
    | (with_reducible show calm _ (mgmtTick _ _ _); with_reducible refine calm_trans ?_ (mgmtTick_calm _ _ _))
    | with_reducible refine calm_ite ?_ ?_
    | with_reducible refine calm_doIf (fun _ => ?_) ?_
    | with_reducible refine calm_each (fun _ _ => ?_) ?_
    | dsimp only [id]
    | split
    | exact calm_eq (by with_reducible rfl))

theorem eff_rmpDiscard_calm (rx : Arrival) (ss : Session) (d : Bytes) (s : State) : calm s ((rmpRun rx ss d) s) := by
  try dsimp only
  repeat' (first
    | with_reducible exact calm_refl _
    | (with_reducible show calm _ (rmpRun _ _ _ _); with_reducible refine calm_trans ?_ (rmpRun_calm _ _ _ _))
    | with_reducible refine calm_ite ?_ ?_
    | with_reducible refine calm_doIf (fun _ => ?_) ?_
    | with_reducible refine calm_each (fun _ _ => ?_) ?_
    | dsimp only [id]
    | split
    | exact calm_eq (by with_reducible rfl))

theorem eff_rmpUnknownType_calm (rx : Arrival) (ss : Session) (d : Bytes) (s : State) : calm s ((rmpRun rx ss d) s) := by
  try dsimp only
  repeat' (first
    | with_reducible exact calm_refl _
    | (with_reducible show calm _ (rmpRun _ _ _ _); with_reducible refine calm_trans ?_ (rmpRun_calm _ _ _ _))
    | with_reducible refine calm_ite ?_ ?_
    | with_reducible refine calm_doIf (fun _ => ?_) ?_
    | with_reducible refine calm_each (fun _ _ => ?_) ?_
    | dsimp only [id]
    | split
    | exact calm_eq (by with_reducible rfl))

theorem eff_rmpHello_calm (rx : Arrival) (ss : Session) (d : Bytes) (s : State) : calm s ((rmpRun rx ss d) s) := by
  try dsimp only
  repeat' (first
    | with_reducible exact calm_refl _
    | (with_reducible show calm _ (rmpRun _ _ _ _); with_reducible refine calm_trans ?_ (rmpRun_calm _ _ _ _))
    | with_reducible refine calm_ite ?_ ?_
    | with_reducible refine calm_doIf (fun _ => ?_) ?_
    | with_reducible refine calm_each (fun _ _ => ?_) ?_
    | dsimp only [id]
    | split
    | exact calm_eq (by with_reducible rfl))

theorem eff_rmpRead_calm (rx : Arrival) (ss : Session) (d : Bytes) (s : State) : calm s ((rmpRun rx ss d) s) := by
  try dsimp only
  repeat' (first
    | with_reducible exact calm_refl _
    | (with_reducible show calm _ (rmpRun _ _ _ _); with_reducible refine calm_trans ?_ (rmpRun_calm _ _ _ _))
    | with_reducible refine calm_ite ?_ ?_
    | with_reducible refine calm_doIf (fun _ => ?_) ?_
    | with_reducible refine calm_each (fun _ _ => ?_) ?_
    | dsimp only [id]
    | split
    | exact calm_eq (by with_reducible rfl))

theorem eff_rmpWrite_calm (rx : Arrival) (ss : Session) (d : Bytes) (s : State) : calm s ((rmpRun rx ss d) s) := by
  try dsimp only
  repeat' (first
    | with_reducible exact calm_refl _
    | (with_reducible show calm _ (rmpRun _ _ _ _); with_reducible refine calm_trans ?_ (rmpRun_calm _ _ _ _))
    | with_reducible refine calm_ite ?_ ?_
    | with_reducible refine calm_doIf (fun _ => ?_) ?_
    | with_reducible refine calm_each (fun _ _ => ?_) ?_
    | dsimp only [id]
    | split
    | exact calm_eq (by with_reducible rfl))

theorem eff_rmpSwap_calm (rx : Arrival) (ss : Session) (d : Bytes) (s : State) : calm s ((rmpRun rx ss d) s) := by
  try dsimp only
  repeat' (first
    | with_reducible exact calm_refl _
    | (with_reducible show calm _ (rmpRun _ _ _ _); with_reducible refine calm_trans ?_ (rmpRun_calm _ _ _ _))
    | with_reducible refine calm_ite ?_ ?_
    | with_reducible refine calm_doIf (fun _ => ?_) ?_
    | with_reducible refine calm_each (fun _ _ => ?_) ?_
    | dsimp only [id]
    | split
    | exact calm_eq (by with_reducible rfl))

theorem eff_rmpStatus_calm (rx : Arrival) (ss : Session) (d : Bytes) (s : State) : calm s ((rmpRun rx ss d) s) := by
  try dsimp only
  repeat' (first
    | with_reducible exact calm_refl _
    | (with_reducible show calm _ (rmpRun _ _ _ _); with_reducible refine calm_trans ?_ (rmpRun_calm _ _ _ _))
    | with_reducible refine calm_ite ?_ ?_
    | with_reducible refine calm_doIf (fun _ => ?_) ?_
    | with_reducible refine calm_each (fun _ _ => ?_) ?_
    | dsimp only [id]
    | split
    | exact calm_eq (by with_reducible rfl))

theorem eff_rmpSubscribe_calm (rx : Arrival) (ss : Session) (d : Bytes) (s : State) : calm s ((rmpRun rx ss d) s) := by
  try dsimp only
  repeat' (first
    | with_reducible exact calm_refl _
    | (with_reducible show calm _ (rmpRun _ _ _ _); with_reducible refine calm_trans ?_ (rmpRun_calm _ _ _ _))
    | with_reducible refine calm_ite ?_ ?_
    | with_reducible refine calm_doIf (fun _ => ?_) ?_
    | with_reducible refine calm_each (fun _ _ => ?_) ?_
    | dsimp only [id]
    | split
    | exact calm_eq (by with_reducible rfl))

theorem eff_rmpHold_calm (rx : Arrival) (ss : Session) (d : Bytes) (s : State) : calm s ((rmpRun rx ss d) s) := by
  try dsimp only
  repeat' (first
    | with_reducible exact calm_refl _
    | (with_reducible show calm _ (rmpRun _ _ _ _); with_reducible refine calm_trans ?_ (rmpRun_calm _ _ _ _))
    | with_reducible refine calm_ite ?_ ?_
    | with_reducible refine calm_doIf (fun _ => ?_) ?_
    | with_reducible refine calm_each (fun _ _ => ?_) ?_
    | dsimp only [id]
    | split
    | exact calm_eq (by with_reducible rfl))

theorem eff_rmpResume_calm (rx : Arrival) (ss : Session) (d : Bytes) (s : State) : calm s ((rmpRun rx ss d) s) := by
  try dsimp only
  repeat' (first
    | with_reducible exact calm_refl _
    | (with_reducible show calm _ (rmpRun _ _ _ _); with_reducible refine calm_trans ?_ (rmpRun_calm _ _ _ _))
    | with_reducible refine calm_ite ?_ ?_
    | with_reducible refine calm_doIf (fun _ => ?_) ?_
    | with_reducible refine calm_each (fun _ _ => ?_) ?_
    | dsimp only [id]
    | split
    | exact calm_eq (by with_reducible rfl))

theorem eff_rmpStop_calm (rx : Arrival) (ss : Session) (d : Bytes) (s : State) : calm s ((rmpRun rx ss d) s) := by
  try dsimp only
  repeat' (first
    | with_reducible exact calm_refl _
    | (with_reducible show calm _ (rmpRun _ _ _ _); with_reducible refine calm_trans ?_ (rmpRun_calm _ _ _ _))
    | with_reducible refine calm_ite ?_ ?_
    | with_reducible refine calm_doIf (fun _ => ?_) ?_
    | with_reducible refine calm_each (fun _ _ => ?_) ?_
    | dsimp only [id]
    | split
    | exact calm_eq (by with_reducible rfl))

theorem eff_rmpAcknowledge_calm (rx : Arrival) (ss : Session) (d : Bytes) (s : State) : calm s ((rmpRun rx ss d) s) := by
  try dsimp only
  repeat' (first
    | with_reducible exact calm_refl _
    | (with_reducible show calm _ (rmpRun _ _ _ _); with_reducible refine calm_trans ?_ (rmpRun_calm _ _ _ _))
    | with_reducible refine calm_ite ?_ ?_
    | with_reducible refine calm_doIf (fun _ => ?_) ?_
    | with_reducible refine calm_each (fun _ _ => ?_) ?_
    | dsimp only [id]
    | split
    | exact calm_eq (by with_reducible rfl))

theorem eff_rmpReset_calm (rx : Arrival) (ss : Session) (d : Bytes) (s : State) : calm s ((rmpRun rx ss d) s) := by
  try dsimp only
  repeat' (first
    | with_reducible exact calm_refl _
    | (with_reducible show calm _ (rmpRun _ _ _ _); with_reducible refine calm_trans ?_ (rmpRun_calm _ _ _ _))
    | with_reducible refine calm_ite ?_ ?_
    | with_reducible refine calm_doIf (fun _ => ?_) ?_
    | with_reducible refine calm_each (fun _ _ => ?_) ?_
    | dsimp only [id]
    | split
    | exact calm_eq (by with_reducible rfl))

theorem eff_resetExecute_calm (s : State) : calm s ((coldReset 4) s) := by
  try dsimp only
  repeat' (first
    | with_reducible exact calm_refl _
    | (with_reducible show calm _ (coldReset _ _); with_reducible refine calm_trans ?_ (coldReset_calm _ _))
    | with_reducible refine calm_ite ?_ ?_
    | with_reducible refine calm_doIf (fun _ => ?_) ?_
    | with_reducible refine calm_each (fun _ _ => ?_) ?_
    | dsimp only [id]
    | split
    | exact calm_eq (by with_reducible rfl))

theorem eff_rmpYield_calm (rx : Arrival) (ss : Session) (d : Bytes) (s : State) : calm s ((rmpRun rx ss d) s) := by
  try dsimp only
  repeat' (first
    | with_reducible exact calm_refl _
    | (with_reducible show calm _ (rmpRun _ _ _ _); with_reducible refine calm_trans ?_ (rmpRun_calm _ _ _ _))
    | with_reducible refine calm_ite ?_ ?_
    | with_reducible refine calm_doIf (fun _ => ?_) ?_
    | with_reducible refine calm_each (fun _ _ => ?_) ?_
    | dsimp only [id]
    | split
    | exact calm_eq (by with_reducible rfl))

theorem eff_rmpCommandInvalid_calm (rx : Arrival) (ss : Session) (d : Bytes) (s : State) : calm s ((rmpRun rx ss d) s) := by
  try dsimp only
  repeat' (first
    | with_reducible exact calm_refl _
    | (with_reducible show calm _ (rmpRun _ _ _ _); with_reducible refine calm_trans ?_ (rmpRun_calm _ _ _ _))
    | with_reducible refine calm_ite ?_ ?_
    | with_reducible refine calm_doIf (fun _ => ?_) ?_
    | with_reducible refine calm_each (fun _ _ => ?_) ?_
    | dsimp only [id]
    | split
    | exact calm_eq (by with_reducible rfl))

theorem eff_tetherHeartbeatRx_calm (f : Bytes) (s : State) : calm s ((tethHbRx f) s) := by
  try dsimp only
  repeat' (first
    | with_reducible exact calm_refl _
    | (with_reducible show calm _ (tethHbRx _ _); with_reducible refine calm_trans ?_ (tethHbRx_calm _ _))
    | with_reducible refine calm_ite ?_ ?_
    | with_reducible refine calm_doIf (fun _ => ?_) ?_
    | with_reducible refine calm_each (fun _ _ => ?_) ?_
    | dsimp only [id]
    | split
    | exact calm_eq (by with_reducible rfl))

theorem eff_netHeartbeatRx_calm (rx : Arrival) (d : Bytes) (s : State) : calm s ((rxFrame rx (fun s => doIf (datagramFor s rx (decide (rx.frame.ether = .ipv6)) (hbPort s)) (netHbRx d) s)) s) := by
  try dsimp only
  repeat' (first
    | with_reducible exact calm_refl _
    | (with_reducible show calm _ (rxFrame _ _ _); with_reducible refine calm_trans ?_ (rxFrame_calm (fun _ => ?_) _ _))
    | (with_reducible show calm _ (netHbRx _ _); with_reducible refine calm_trans ?_ (netHbRx_calm _ _))
    | with_reducible refine calm_ite ?_ ?_
    | with_reducible refine calm_doIf (fun _ => ?_) ?_
    | with_reducible refine calm_each (fun _ _ => ?_) ?_
    | dsimp only [id]
    | split
    | exact calm_eq (by with_reducible rfl))

theorem eff_tetherPathMiss_calm (s : State) : calm s ((fun s => pathMissed 0 s.par.nMiss (mPar (fun p => { p with tMiss := true, cntTMiss := satAdd 16 p.cntTMiss 1 }) s)) s) := by
  try dsimp only
  repeat' (first
    | with_reducible exact calm_refl _
    | (with_reducible show calm _ (mPar _ _); with_reducible refine calm_trans ?_ (calm_of_keeps (mPar_keeps _ _) (by decide)))
    | (with_reducible show calm _ (pathMissed _ _ _); with_reducible refine calm_trans ?_ (pathMissed_calm _ _ _))
    | with_reducible refine calm_ite ?_ ?_
    | with_reducible refine calm_doIf (fun _ => ?_) ?_
    | with_reducible refine calm_each (fun _ _ => ?_) ?_
    | dsimp only [id]
    | split
    | exact calm_eq (by with_reducible rfl))

theorem eff_netPathMiss_calm (s : State) : calm s ((fun s => pathMissed 1 s.par.tMiss (mPar (fun p => { p with nMiss := true, cntNMiss := satAdd 16 p.cntNMiss 1 }) s)) s) := by
  try dsimp only
  repeat' (first
    | with_reducible exact calm_refl _
    | (with_reducible show calm _ (mPar _ _); with_reducible refine calm_trans ?_ (calm_of_keeps (mPar_keeps _ _) (by decide)))
    | (with_reducible show calm _ (pathMissed _ _ _); with_reducible refine calm_trans ?_ (pathMissed_calm _ _ _))
    | with_reducible refine calm_ite ?_ ?_
    | with_reducible refine calm_doIf (fun _ => ?_) ?_
    | with_reducible refine calm_each (fun _ _ => ?_) ?_
    | dsimp only [id]
    | split
    | exact calm_eq (by with_reducible rfl))

theorem eff_tetherNzlChange_calm (f : Bytes) (s : State) : calm s ((tethRx 20 f tethNzlBody) s) := by
  try dsimp only
  repeat' (first
    | with_reducible exact calm_refl _
    | (with_reducible show calm _ (tethRx _ _ _ _); with_reducible refine calm_trans ?_ (tethRx_calm (fun _ _ => ?_) _ _ _))
    | (with_reducible show calm _ (tethNzlBody _ _); with_reducible refine calm_trans ?_ (tethNzlBody_calm _ _))
    | with_reducible refine calm_ite ?_ ?_
    | with_reducible refine calm_doIf (fun _ => ?_) ?_
    | with_reducible refine calm_each (fun _ _ => ?_) ?_
    | dsimp only [id]
    | split
    | exact calm_eq (by with_reducible rfl))

theorem eff_tetherKnotReq_calm (f : Bytes) (s : State) : calm s ((tethRx 12 f tethKnotBody) s) := by
  try dsimp only
  repeat' (first
    | with_reducible exact calm_refl _
    | (with_reducible show calm _ (tethRx _ _ _ _); with_reducible refine calm_trans ?_ (tethRx_calm (fun _ _ => ?_) _ _ _))
    | (with_reducible show calm _ (tethKnotBody _ _); with_reducible refine calm_trans ?_ (tethKnotBody_calm _ _))
    | with_reducible refine calm_ite ?_ ?_
    | with_reducible refine calm_doIf (fun _ => ?_) ?_
    | with_reducible refine calm_each (fun _ _ => ?_) ?_
    | dsimp only [id]
    | split
    | exact calm_eq (by with_reducible rfl))

theorem eff_tetherKnotDone_calm (f : Bytes) (s : State) : calm s ((tethRx 16 f tethDoneBody) s) := by
  try dsimp only
  repeat' (first
    | with_reducible exact calm_refl _
    | (with_reducible show calm _ (tethRx _ _ _ _); with_reducible refine calm_trans ?_ (tethRx_calm (fun _ _ => ?_) _ _ _))
    | (with_reducible show calm _ (tethDoneBody _ _); with_reducible refine calm_trans ?_ (tethDoneBody_calm _ _))
    | with_reducible refine calm_ite ?_ ?_
    | with_reducible refine calm_doIf (fun _ => ?_) ?_
    | with_reducible refine calm_each (fun _ _ => ?_) ?_
    | dsimp only [id]
    | split
    | exact calm_eq (by with_reducible rfl))

theorem eff_tetherState_calm (f : Bytes) (s : State) : calm s ((tethRx 12 f tethStateBody) s) := by
  try dsimp only
  repeat' (first
    | with_reducible exact calm_refl _
    | (with_reducible show calm _ (tethRx _ _ _ _); with_reducible refine calm_trans ?_ (tethRx_calm (fun _ _ => ?_) _ _ _))
    | (with_reducible show calm _ (tethStateBody _ _); with_reducible refine calm_trans ?_ (tethStateBody_calm _ _))
    | with_reducible refine calm_ite ?_ ?_
    | with_reducible refine calm_doIf (fun _ => ?_) ?_
    | with_reducible refine calm_each (fun _ _ => ?_) ?_
    | dsimp only [id]
    | split
    | exact calm_eq (by with_reducible rfl))

theorem eff_tetherYield_calm (f : Bytes) (s : State) : calm s ((tethRx 8 f tethYieldBody) s) := by
  try dsimp only
  repeat' (first
    | with_reducible exact calm_refl _
    | (with_reducible show calm _ (tethRx _ _ _ _); with_reducible refine calm_trans ?_ (tethRx_calm (fun _ _ => ?_) _ _ _))
    | (with_reducible show calm _ (tethYieldBody _ _); with_reducible refine calm_trans ?_ (tethYieldBody_calm _ _))
    | with_reducible refine calm_ite ?_ ?_
    | with_reducible refine calm_doIf (fun _ => ?_) ?_
    | with_reducible refine calm_each (fun _ _ => ?_) ?_
    | dsimp only [id]
    | split
    | exact calm_eq (by with_reducible rfl))

theorem eff_tetherBulk_calm (f : Bytes) (s : State) : calm s ((tethRx 1032 f tethBulkBody) s) := by
  try dsimp only
  repeat' (first
    | with_reducible exact calm_refl _
    | (with_reducible show calm _ (tethRx _ _ _ _); with_reducible refine calm_trans ?_ (tethRx_calm (fun _ _ => ?_) _ _ _))
    | (with_reducible show calm _ (tethBulkBody _ _); with_reducible refine calm_trans ?_ (tethBulkBody_calm _ _))
    | with_reducible refine calm_ite ?_ ?_
    | with_reducible refine calm_doIf (fun _ => ?_) ?_
    | with_reducible refine calm_each (fun _ _ => ?_) ?_
    | dsimp only [id]
    | split
    | exact calm_eq (by with_reducible rfl))

theorem eff_tetherResync_calm (s : State) : calm s (tethResync s) := by
  try dsimp only
  repeat' (first
    | with_reducible exact calm_refl _
    | (with_reducible show calm _ (tethResync _); with_reducible refine calm_trans ?_ (tethResync_calm _))
    | with_reducible refine calm_ite ?_ ?_
    | with_reducible refine calm_doIf (fun _ => ?_) ?_
    | with_reducible refine calm_each (fun _ _ => ?_) ?_
    | dsimp only [id]
    | split
    | exact calm_eq (by with_reducible rfl))

theorem eff_hitchInAssert_calm (s : State) : calm s (hitchInOn s) := by
  try dsimp only
  repeat' (first
    | with_reducible exact calm_refl _
    | (with_reducible show calm _ (hitchInOn _); with_reducible refine calm_trans ?_ (hitchInOn_calm _))
    | with_reducible refine calm_ite ?_ ?_
    | with_reducible refine calm_doIf (fun _ => ?_) ?_
    | with_reducible refine calm_each (fun _ _ => ?_) ?_
    | dsimp only [id]
    | split
    | exact calm_eq (by with_reducible rfl))

theorem eff_hitchInRelease_calm (s : State) : calm s (hitchInOff s) := by
  try dsimp only
  repeat' (first
    | with_reducible exact calm_refl _
    | (with_reducible show calm _ (hitchInOff _); with_reducible refine calm_trans ?_ (hitchInOff_calm _))
    | with_reducible refine calm_ite ?_ ?_
    | with_reducible refine calm_doIf (fun _ => ?_) ?_
    | with_reducible refine calm_each (fun _ _ => ?_) ?_
    | dsimp only [id]
    | split
    | exact calm_eq (by with_reducible rfl))

theorem eff_splice_calm (s : State) : calm s ((fun s => match s.par.pendSplice with | some c => spliceNow c s | none => s) s) := by
  try dsimp only
  repeat' (first
    | with_reducible exact calm_refl _
    | (with_reducible show calm _ (spliceNow _ _); with_reducible refine calm_trans ?_ (spliceNow_calm _ _))
    | with_reducible refine calm_ite ?_ ?_
    | with_reducible refine calm_doIf (fun _ => ?_) ?_
    | with_reducible refine calm_each (fun _ _ => ?_) ?_
    | dsimp only [id]
    | split
    | exact calm_eq (by with_reducible rfl))

theorem eff_keepFeedLoss_calm (feedB : Bool) (s : State) : calm s ((feedLost feedB) s) := by
  try dsimp only
  repeat' (first
    | with_reducible exact calm_refl _
    | (with_reducible show calm _ (feedLost _ _); with_reducible refine calm_trans ?_ (feedLost_calm _ _))
    | with_reducible refine calm_ite ?_ ?_
    | with_reducible refine calm_doIf (fun _ => ?_) ?_
    | with_reducible refine calm_each (fun _ _ => ?_) ?_
    | dsimp only [id]
    | split
    | exact calm_eq (by with_reducible rfl))

theorem eff_cmpMeasureDone_calm (c : Fin 10) (offs : List Int) (s : State) : calm s ((cmpDone c offs) s) := by
  try dsimp only
  repeat' (first
    | with_reducible exact calm_refl _
    | (with_reducible show calm _ (cmpDone _ _ _); with_reducible refine calm_trans ?_ (cmpDone_calm _ _ _))
    | with_reducible refine calm_ite ?_ ?_
    | with_reducible refine calm_doIf (fun _ => ?_) ?_
    | with_reducible refine calm_each (fun _ _ => ?_) ?_
    | dsimp only [id]
    | split
    | exact calm_eq (by with_reducible rfl))

theorem eff_tapReset_calm (s : State) : calm s (tapReset s) := by
  try dsimp only
  repeat' (first
    | with_reducible exact calm_refl _
    | (with_reducible show calm _ (tapReset _); with_reducible refine calm_trans ?_ (tapReset_calm _))
    | with_reducible refine calm_ite ?_ ?_
    | with_reducible refine calm_doIf (fun _ => ?_) ?_
    | with_reducible refine calm_each (fun _ _ => ?_) ?_
    | dsimp only [id]
    | split
    | exact calm_eq (by with_reducible rfl))

theorem eff_wpHalt_calm (s : State) : calm s (wpHalt s) := by
  try dsimp only
  repeat' (first
    | with_reducible exact calm_refl _
    | (with_reducible show calm _ (wpHalt _); with_reducible refine calm_trans ?_ (wpHalt_calm _))
    | with_reducible refine calm_ite ?_ ?_
    | with_reducible refine calm_doIf (fun _ => ?_) ?_
    | with_reducible refine calm_each (fun _ _ => ?_) ?_
    | dsimp only [id]
    | split
    | exact calm_eq (by with_reducible rfl))

theorem eff_wpResume_calm (s : State) : calm s (wpResume s) := by
  try dsimp only
  repeat' (first
    | with_reducible exact calm_refl _
    | (with_reducible show calm _ (wpResume _); with_reducible refine calm_trans ?_ (wpResume_calm _))
    | with_reducible refine calm_ite ?_ ?_
    | with_reducible refine calm_doIf (fun _ => ?_) ?_
    | with_reducible refine calm_each (fun _ _ => ?_) ?_
    | dsimp only [id]
    | split
    | exact calm_eq (by with_reducible rfl))

theorem eff_wpStep_calm (data : Word) (s : State) : calm s ((wpStep data) s) := by
  try dsimp only
  repeat' (first
    | with_reducible exact calm_refl _
    | (with_reducible show calm _ (wpStep _ _); with_reducible refine calm_trans ?_ (wpStep_calm _ _))
    | with_reducible refine calm_ite ?_ ?_
    | with_reducible refine calm_doIf (fun _ => ?_) ?_
    | with_reducible refine calm_each (fun _ _ => ?_) ?_
    | dsimp only [id]
    | split
    | exact calm_eq (by with_reducible rfl))

theorem eff_wpCapture_calm (mask : Word) (s : State) : calm s ((wpCapture mask) s) := by
  try dsimp only
  repeat' (first
    | with_reducible exact calm_refl _
    | (with_reducible show calm _ (wpCapture _ _); with_reducible refine calm_trans ?_ (wpCapture_calm _ _))
    | with_reducible refine calm_ite ?_ ?_
    | with_reducible refine calm_doIf (fun _ => ?_) ?_
    | with_reducible refine calm_each (fun _ _ => ?_) ?_
    | dsimp only [id]
    | split
    | exact calm_eq (by with_reducible rfl))

theorem eff_wpReservedOp_calm (op : BitVec 4) (s : State) : calm s (wpRefuse s) := by
  try dsimp only
  repeat' (first
    | with_reducible exact calm_refl _
    | (with_reducible show calm _ (wpRefuse _); with_reducible refine calm_trans ?_ (wpRefuse_calm _))
    | with_reducible refine calm_ite ?_ ?_
    | with_reducible refine calm_doIf (fun _ => ?_) ?_
    | with_reducible refine calm_each (fun _ _ => ?_) ?_
    | dsimp only [id]
    | split
    | exact calm_eq (by with_reducible rfl))

theorem eff_keepFeedReturn_calm (feedB : Bool) (s : State) : calm s ((feedBack feedB) s) := by
  try dsimp only
  repeat' (first
    | with_reducible exact calm_refl _
    | (with_reducible show calm _ (feedBack _ _); with_reducible refine calm_trans ?_ (feedBack_calm _ _))
    | with_reducible refine calm_ite ?_ ?_
    | with_reducible refine calm_doIf (fun _ => ?_) ?_
    | with_reducible refine calm_each (fun _ _ => ?_) ?_
    | dsimp only [id]
    | split
    | exact calm_eq (by with_reducible rfl))

theorem eff_trainingSetInActive_calm (p : Port) (s : State) : calm s ((portLoss p 7) s) := by
  try dsimp only
  repeat' (first
    | with_reducible exact calm_refl _
    | (with_reducible show calm _ (portLoss _ _ _); with_reducible refine calm_trans ?_ (portLoss_calm _ _ _))
    | with_reducible refine calm_ite ?_ ?_
    | with_reducible refine calm_doIf (fun _ => ?_) ?_
    | with_reducible refine calm_each (fun _ _ => ?_) ?_
    | dsimp only [id]
    | split
    | exact calm_eq (by with_reducible rfl))

theorem eff_codeErrorBurst_calm (errs : Port × Nat) (s : State) : calm s ((fun s => doIf (decide (32 ≤ errs.2)) (portLoss errs.1 7) (gulErrs errs.1 errs.2 s)) s) := by
  try dsimp only
  repeat' (first
    | with_reducible exact calm_refl _
    | (with_reducible show calm _ (portLoss _ _ _); with_reducible refine calm_trans ?_ (portLoss_calm _ _ _))
    | (with_reducible show calm _ (gulErrs _ _ _); with_reducible refine calm_trans ?_ (calm_of_keeps (gulErrs_keeps _ _ _) (by decide)))
    | with_reducible refine calm_ite ?_ ?_
    | with_reducible refine calm_doIf (fun _ => ?_) ?_
    | with_reducible refine calm_each (fun _ _ => ?_) ?_
    | dsimp only [id]
    | split
    | exact calm_eq (by with_reducible rfl))

/-! `eff_…_moves` -/

theorem eff_imageRecordApply_moves (rec : Bytes) (s : State) : moves s ((recordApply rec) s) := by
  try dsimp only
  repeat' (first
    | with_reducible exact moves_refl _
    | (with_reducible show moves _ (recordApply _ _); with_reducible refine moves_trans ?_ (recordApply_moves _ _))
    | with_reducible refine moves_ite ?_ ?_
    | with_reducible refine moves_doIf (fun _ => ?_) ?_
    | with_reducible refine moves_each (fun _ _ => ?_) ?_
    | dsimp only [id]
    | split
    | exact moves_eq (by with_reducible rfl))

theorem eff_paceMeasure_moves (measured : List Nat) (s : State) : moves s ((paceAll measured) s) := by
  try dsimp only
  repeat' (first
    | with_reducible exact moves_refl _
    | (with_reducible show moves _ (paceAll _ _); with_reducible refine moves_trans ?_ (paceAll_moves _ _))
    | with_reducible refine moves_ite ?_ ?_
    | with_reducible refine moves_doIf (fun _ => ?_) ?_
    | with_reducible refine moves_each (fun _ _ => ?_) ?_
    | dsimp only [id]
    | split
    | exact moves_eq (by with_reducible rfl))

theorem eff_knotTake_moves (s : State) : moves s ((fun s => match knotPlace s with | some p => takeKnot p s | none => s) s) := by
  try dsimp only
  repeat' (first
    | with_reducible exact moves_refl _
    | (with_reducible show moves _ (takeKnot _ _); with_reducible refine moves_trans ?_ (takeKnot_moves _ _))
    | with_reducible refine moves_ite ?_ ?_
    | with_reducible refine moves_doIf (fun _ => ?_) ?_
    | with_reducible refine moves_each (fun _ _ => ?_) ?_
    | dsimp only [id]
    | split
    | exact moves_eq (by with_reducible rfl))

theorem eff_encoderEdge_moves (ch : Enc) (a : Bool) (b : Bool) (fast : Bool) (more : Bool) (s : State) : moves s ((encEdge ch a b fast more) s) := by
  try dsimp only
  repeat' (first
    | with_reducible exact moves_refl _
    | (with_reducible show moves _ (encEdge _ _ _ _ _ _); with_reducible refine moves_trans ?_ (encEdge_moves _ _ _ _ _ _))
    | with_reducible refine moves_ite ?_ ?_
    | with_reducible refine moves_doIf (fun _ => ?_) ?_
    | with_reducible refine moves_each (fun _ _ => ?_) ?_
    | dsimp only [id]
    | split
    | exact moves_eq (by with_reducible rfl))

theorem eff_index_moves (ch : Enc) (more : Bool) (s : State) : moves s ((zEdge ch more) s) := by
  try dsimp only
  repeat' (first
    | with_reducible exact moves_refl _
    | (with_reducible show moves _ (zEdge _ _ _); with_reducible refine moves_trans ?_ (zEdge_moves _ _ _))
    | with_reducible refine moves_ite ?_ ?_
    | with_reducible refine moves_doIf (fun _ => ?_) ?_
    | with_reducible refine moves_each (fun _ _ => ?_) ?_
    | dsimp only [id]
    | split
    | exact moves_eq (by with_reducible rfl))

theorem eff_ssiWord_moves (ch : Enc) (w : Word) (parity : Bool) (s : State) : moves s ((ssiDone ch w parity) s) := by
  try dsimp only
  repeat' (first
    | with_reducible exact moves_refl _
    | (with_reducible show moves _ (ssiDone _ _ _ _); with_reducible refine moves_trans ?_ (ssiDone_moves _ _ _ _))
    | with_reducible refine moves_ite ?_ ?_
    | with_reducible refine moves_doIf (fun _ => ?_) ?_
    | with_reducible refine moves_each (fun _ _ => ?_) ?_
    | dsimp only [id]
    | split
    | exact moves_eq (by with_reducible rfl))

theorem eff_observerUpdate_moves (ch : Enc) (s : State) : moves s ((fun s => let s := takeLive s; if encEn s ch && (enc s ch).started then obsUpdate ch s else s) s) := by
  try dsimp only
  repeat' (first
    | with_reducible exact moves_refl _
    | (with_reducible show moves _ (obsUpdate _ _); with_reducible refine moves_trans ?_ (moves_of_keeps (obsUpdate_keeps _ _) (by decide)))
    | (with_reducible show moves _ (takeLive _); with_reducible refine moves_trans ?_ (takeLive_moves _))
    | with_reducible refine moves_ite ?_ ?_
    | with_reducible refine moves_doIf (fun _ => ?_) ?_
    | with_reducible refine moves_each (fun _ _ => ?_) ?_
    | dsimp only [id]
    | split
    | exact moves_eq (by with_reducible rfl))

theorem eff_milestoneFire_moves (ms : Ms) (s : State) : moves s ((fun s => match msNext s with | some x => msFire x.1 x.2.1 x.2.2 s | none => s) s) := by
  try dsimp only
  repeat' (first
    | with_reducible exact moves_refl _
    | (with_reducible show moves _ (msFire _ _ _ _); with_reducible refine moves_trans ?_ (msFire_moves _ _ _ _))
    | with_reducible refine moves_ite ?_ ?_
    | with_reducible refine moves_doIf (fun _ => ?_) ?_
    | with_reducible refine moves_each (fun _ _ => ?_) ?_
    | dsimp only [id]
    | split
    | exact moves_eq (by with_reducible rfl))

theorem eff_extSyncCapture_moves (n : Fin 2) (rising : Bool) (s : State) : moves s ((syncEdge n rising) s) := by
  try dsimp only
  repeat' (first
    | with_reducible exact moves_refl _
    | (with_reducible show moves _ (syncEdge _ _ _); with_reducible refine moves_trans ?_ (syncEdge_moves _ _ _))
    | with_reducible refine moves_ite ?_ ?_
    | with_reducible refine moves_doIf (fun _ => ?_) ?_
    | with_reducible refine moves_each (fun _ _ => ?_) ?_
    | dsimp only [id]
    | split
    | exact moves_eq (by with_reducible rfl))

theorem eff_positionSample_moves (t : Nat) (s : State) : moves s ((fun s => posSample t (if keepRuns s then takeLive s else s)) s) := by
  try dsimp only
  repeat' (first
    | with_reducible exact moves_refl _
    | (with_reducible show moves _ (takeLive _); with_reducible refine moves_trans ?_ (takeLive_moves _))
    | (with_reducible show moves _ (posSample _ _); with_reducible refine moves_trans ?_ (posSample_moves _ _))
    | with_reducible refine moves_ite ?_ ?_
    | with_reducible refine moves_doIf (fun _ => ?_) ?_
    | with_reducible refine moves_each (fun _ _ => ?_) ?_
    | dsimp only [id]
    | split
    | exact moves_eq (by with_reducible rfl))

theorem eff_strike_moves (p : Port) (cmpPs : Int) (s : State) : moves s ((strike p cmpPs) s) := by
  try dsimp only
  repeat' (first
    | with_reducible exact moves_refl _
    | (with_reducible show moves _ (strike _ _ _); with_reducible refine moves_trans ?_ (strike_moves _ _ _))
    | with_reducible refine moves_ite ?_ ?_
    | with_reducible refine moves_doIf (fun _ => ?_) ?_
    | with_reducible refine moves_each (fun _ _ => ?_) ?_
    | dsimp only [id]
    | split
    | exact moves_eq (by with_reducible rfl))

theorem eff_strandFetchDone_moves (n : Seg) (s : State) : moves s ((fun s => match (strand s n).reqs with
      | r :: _ => stageTake 4 [r.tag] r.layer n none (fetchDone n) s
      | [] => s) s) := by
  try dsimp only
  repeat' (first
    | with_reducible exact moves_refl _
    | (with_reducible show moves _ (stageTake _ _ _ _ _ _ _); with_reducible refine moves_trans ?_ (stageTake_moves (fun _ => ?_) _ _ _ _ _ _))
    | (with_reducible show moves _ (fetchDone _ _); with_reducible refine moves_trans ?_ (moves_of_keeps (fetchDone_keeps _ _) (by decide)))
    | with_reducible refine moves_ite ?_ ?_
    | with_reducible refine moves_doIf (fun _ => ?_) ?_
    | with_reducible refine moves_each (fun _ _ => ?_) ?_
    | dsimp only [id]
    | split
    | exact moves_eq (by with_reducible rfl))

theorem eff_nozzleMapLine_moves (s : State) : moves s (mapNext s) := by
  try dsimp only
  repeat' (first
    | with_reducible exact moves_refl _
    | (with_reducible show moves _ (mapNext _); with_reducible refine moves_trans ?_ (mapNext_moves _))
    | with_reducible refine moves_ite ?_ ?_
    | with_reducible refine moves_doIf (fun _ => ?_) ?_
    | with_reducible refine moves_each (fun _ _ => ?_) ?_
    | dsimp only [id]
    | split
    | exact moves_eq (by with_reducible rfl))

theorem eff_staggerLine_moves (n : Seg) (s : State) : moves s ((fun s =>
      match staggerNext s n with
      | some (t, l) => stageTake 6 [t.k, n] l.layer n (some t.lc) (staggerLine n t l) s
      | none => s) s) := by
  try dsimp only
  repeat' (first
    | with_reducible exact moves_refl _
    | (with_reducible show moves _ (stageTake _ _ _ _ _ _ _); with_reducible refine moves_trans ?_ (stageTake_moves (fun _ => ?_) _ _ _ _ _ _))
    | (with_reducible show moves _ (staggerLine _ _ _ _); with_reducible refine moves_trans ?_ (moves_of_keeps (staggerLine_keeps _ _ _ _) (by decide)))
    | with_reducible refine moves_ite ?_ ?_
    | with_reducible refine moves_doIf (fun _ => ?_) ?_
    | with_reducible refine moves_each (fun _ _ => ?_) ?_
    | dsimp only [id]
    | split
    | exact moves_eq (by with_reducible rfl))

theorem eff_frameBuild_moves (p : Port) (s : State) : moves s ((fun s =>
    match buildNext s p with
    | some t => if t.mark = .null then frameBuild p t s else stageTake 7 [t.k, p] t.layer p (some t.lc) (frameBuild p t) s
    | none => s) s) := by
  try dsimp only
  repeat' (first
    | with_reducible exact moves_refl _
    | (with_reducible show moves _ (stageTake _ _ _ _ _ _ _); with_reducible refine moves_trans ?_ (stageTake_moves (fun _ => ?_) _ _ _ _ _ _))
    | (with_reducible show moves _ (frameBuild _ _ _); with_reducible refine moves_trans ?_ (moves_of_keeps (frameBuild_keeps _ _ _) (by decide)))
    | with_reducible refine moves_ite ?_ ?_
    | with_reducible refine moves_doIf (fun _ => ?_) ?_
    | with_reducible refine moves_each (fun _ _ => ?_) ?_
    | dsimp only [id]
    | split
    | exact moves_eq (by with_reducible rfl))

theorem eff_lineFrameSend_moves (p : Port) (late : Bool) (s : State) : moves s ((fun s =>
    match sendNext s p with
    | some (t, f) => if f.null then frameSend p late t f s else stageTake 8 [t.k, p] t.layer p (some t.lc) (frameSend p late t f) s
    | none => s) s) := by
  try dsimp only
  repeat' (first
    | with_reducible exact moves_refl _
    | (with_reducible show moves _ (stageTake _ _ _ _ _ _ _); with_reducible refine moves_trans ?_ (stageTake_moves (fun _ => ?_) _ _ _ _ _ _))
    | (with_reducible show moves _ (frameSend _ _ _ _ _); with_reducible refine moves_trans ?_ (moves_of_keeps (frameSend_keeps _ _ _ _ _) (by decide)))
    | with_reducible refine moves_ite ?_ ?_
    | with_reducible refine moves_doIf (fun _ => ?_) ?_
    | with_reducible refine moves_each (fun _ _ => ?_) ?_
    | dsimp only [id]
    | split
    | exact moves_eq (by with_reducible rfl))

theorem eff_blockData_moves (rx : Arrival) (ss : Session) (d : Bytes) (s : State) : moves s ((towRx rx ss (towEntry ss d (fun np => towOwned np ss d (beAt d 16 4) goneUnknown (fragCheck np ss d)))) s) := by
  try dsimp only
  repeat' (first
    | with_reducible exact moves_refl _
    | (with_reducible show moves _ (towEntry _ _ _ _ _); with_reducible refine moves_trans ?_ (towEntry_moves (fun _ _ => ?_) _ _ _ _))
    | (with_reducible show moves _ (towOwned _ _ _ _ _ _); with_reducible refine moves_trans ?_ (towOwned_moves (fun _ _ => ?_) _ _ _ _ _))
    | (with_reducible show moves _ (fragCheck _ _ _ _ _); with_reducible refine moves_trans ?_ (fragCheck_moves _ _ _ _ _))
    | (with_reducible show moves _ (towRx _ _ _ _); with_reducible refine moves_trans ?_ (towRx_moves (fun _ _ => ?_) _ _ _))
    | (with_reducible show moves _ (towEntry _ _ _ _ _); with_reducible refine moves_trans ?_ (towEntry_moves (fun _ _ => ?_) _ _ _ _))
    | (with_reducible show moves _ (towOwned _ _ _ _ _ _ _); with_reducible refine moves_trans ?_ (towOwned_moves (fun _ _ => ?_) _ _ _ _ _ _))
    | with_reducible refine moves_ite ?_ ?_
    | with_reducible refine moves_doIf (fun _ => ?_) ?_
    | with_reducible refine moves_each (fun _ _ => ?_) ?_
    | dsimp only [id]
    | split
    | exact moves_eq (by with_reducible rfl))

theorem eff_dramIssue_moves (ch : Chan) (cmdBad : Bool) (s : State) : moves s ((fun s => match chanNext s ch with
    | .unit u =>
      let o := tagOwner s u.tag
      stageTake 3 [ch.val, u.ca, u.tag] o.1 o.2 none (dramIssue ch cmdBad) s
    | _ => dramIssue ch cmdBad s) s) := by
  try dsimp only
  repeat' (first
    | with_reducible exact moves_refl _
    | (with_reducible show moves _ (stageTake _ _ _ _ _ _ _); with_reducible refine moves_trans ?_ (stageTake_moves (fun _ => ?_) _ _ _ _ _ _))
    | (with_reducible show moves _ (dramIssue _ _ _); with_reducible refine moves_trans ?_ (moves_of_keeps (dramIssue_keeps _ _ _) (by decide)))
    | with_reducible refine moves_ite ?_ ?_
    | with_reducible refine moves_doIf (fun _ => ?_) ?_
    | with_reducible refine moves_each (fun _ _ => ?_) ?_
    | dsimp only [id]
    | split
    | exact moves_eq (by with_reducible rfl))

theorem eff_rmpDiscard_moves (rx : Arrival) (ss : Session) (d : Bytes) (s : State) : moves s ((rmpRun rx ss d) s) := by
  try dsimp only
  repeat' (first
    | with_reducible exact moves_refl _
    | (with_reducible show moves _ (rmpRun _ _ _ _); with_reducible refine moves_trans ?_ (rmpRun_moves _ _ _ _))
    | with_reducible refine moves_ite ?_ ?_
    | with_reducible refine moves_doIf (fun _ => ?_) ?_
    | with_reducible refine moves_each (fun _ _ => ?_) ?_
    | dsimp only [id]
    | split
    | exact moves_eq (by with_reducible rfl))

theorem eff_rmpUnknownType_moves (rx : Arrival) (ss : Session) (d : Bytes) (s : State) : moves s ((rmpRun rx ss d) s) := by
  try dsimp only
  repeat' (first
    | with_reducible exact moves_refl _
    | (with_reducible show moves _ (rmpRun _ _ _ _); with_reducible refine moves_trans ?_ (rmpRun_moves _ _ _ _))
    | with_reducible refine moves_ite ?_ ?_
    | with_reducible refine moves_doIf (fun _ => ?_) ?_
    | with_reducible refine moves_each (fun _ _ => ?_) ?_
    | dsimp only [id]
    | split
    | exact moves_eq (by with_reducible rfl))

theorem eff_rmpHello_moves (rx : Arrival) (ss : Session) (d : Bytes) (s : State) : moves s ((rmpRun rx ss d) s) := by
  try dsimp only
  repeat' (first
    | with_reducible exact moves_refl _
    | (with_reducible show moves _ (rmpRun _ _ _ _); with_reducible refine moves_trans ?_ (rmpRun_moves _ _ _ _))
    | with_reducible refine moves_ite ?_ ?_
    | with_reducible refine moves_doIf (fun _ => ?_) ?_
    | with_reducible refine moves_each (fun _ _ => ?_) ?_
    | dsimp only [id]
    | split
    | exact moves_eq (by with_reducible rfl))

theorem eff_rmpRead_moves (rx : Arrival) (ss : Session) (d : Bytes) (s : State) : moves s ((rmpRun rx ss d) s) := by
  try dsimp only
  repeat' (first
    | with_reducible exact moves_refl _
    | (with_reducible show moves _ (rmpRun _ _ _ _); with_reducible refine moves_trans ?_ (rmpRun_moves _ _ _ _))
    | with_reducible refine moves_ite ?_ ?_
    | with_reducible refine moves_doIf (fun _ => ?_) ?_
    | with_reducible refine moves_each (fun _ _ => ?_) ?_
    | dsimp only [id]
    | split
    | exact moves_eq (by with_reducible rfl))

theorem eff_rmpWrite_moves (rx : Arrival) (ss : Session) (d : Bytes) (s : State) : moves s ((rmpRun rx ss d) s) := by
  try dsimp only
  repeat' (first
    | with_reducible exact moves_refl _
    | (with_reducible show moves _ (rmpRun _ _ _ _); with_reducible refine moves_trans ?_ (rmpRun_moves _ _ _ _))
    | with_reducible refine moves_ite ?_ ?_
    | with_reducible refine moves_doIf (fun _ => ?_) ?_
    | with_reducible refine moves_each (fun _ _ => ?_) ?_
    | dsimp only [id]
    | split
    | exact moves_eq (by with_reducible rfl))

theorem eff_rmpSwap_moves (rx : Arrival) (ss : Session) (d : Bytes) (s : State) : moves s ((rmpRun rx ss d) s) := by
  try dsimp only
  repeat' (first
    | with_reducible exact moves_refl _
    | (with_reducible show moves _ (rmpRun _ _ _ _); with_reducible refine moves_trans ?_ (rmpRun_moves _ _ _ _))
    | with_reducible refine moves_ite ?_ ?_
    | with_reducible refine moves_doIf (fun _ => ?_) ?_
    | with_reducible refine moves_each (fun _ _ => ?_) ?_
    | dsimp only [id]
    | split
    | exact moves_eq (by with_reducible rfl))

theorem eff_rmpStatus_moves (rx : Arrival) (ss : Session) (d : Bytes) (s : State) : moves s ((rmpRun rx ss d) s) := by
  try dsimp only
  repeat' (first
    | with_reducible exact moves_refl _
    | (with_reducible show moves _ (rmpRun _ _ _ _); with_reducible refine moves_trans ?_ (rmpRun_moves _ _ _ _))
    | with_reducible refine moves_ite ?_ ?_
    | with_reducible refine moves_doIf (fun _ => ?_) ?_
    | with_reducible refine moves_each (fun _ _ => ?_) ?_
    | dsimp only [id]
    | split
    | exact moves_eq (by with_reducible rfl))

theorem eff_rmpSubscribe_moves (rx : Arrival) (ss : Session) (d : Bytes) (s : State) : moves s ((rmpRun rx ss d) s) := by
  try dsimp only
  repeat' (first
    | with_reducible exact moves_refl _
    | (with_reducible show moves _ (rmpRun _ _ _ _); with_reducible refine moves_trans ?_ (rmpRun_moves _ _ _ _))
    | with_reducible refine moves_ite ?_ ?_
    | with_reducible refine moves_doIf (fun _ => ?_) ?_
    | with_reducible refine moves_each (fun _ _ => ?_) ?_
    | dsimp only [id]
    | split
    | exact moves_eq (by with_reducible rfl))

theorem eff_rmpHold_moves (rx : Arrival) (ss : Session) (d : Bytes) (s : State) : moves s ((rmpRun rx ss d) s) := by
  try dsimp only
  repeat' (first
    | with_reducible exact moves_refl _
    | (with_reducible show moves _ (rmpRun _ _ _ _); with_reducible refine moves_trans ?_ (rmpRun_moves _ _ _ _))
    | with_reducible refine moves_ite ?_ ?_
    | with_reducible refine moves_doIf (fun _ => ?_) ?_
    | with_reducible refine moves_each (fun _ _ => ?_) ?_
    | dsimp only [id]
    | split
    | exact moves_eq (by with_reducible rfl))

theorem eff_rmpResume_moves (rx : Arrival) (ss : Session) (d : Bytes) (s : State) : moves s ((rmpRun rx ss d) s) := by
  try dsimp only
  repeat' (first
    | with_reducible exact moves_refl _
    | (with_reducible show moves _ (rmpRun _ _ _ _); with_reducible refine moves_trans ?_ (rmpRun_moves _ _ _ _))
    | with_reducible refine moves_ite ?_ ?_
    | with_reducible refine moves_doIf (fun _ => ?_) ?_
    | with_reducible refine moves_each (fun _ _ => ?_) ?_
    | dsimp only [id]
    | split
    | exact moves_eq (by with_reducible rfl))

theorem eff_rmpStop_moves (rx : Arrival) (ss : Session) (d : Bytes) (s : State) : moves s ((rmpRun rx ss d) s) := by
  try dsimp only
  repeat' (first
    | with_reducible exact moves_refl _
    | (with_reducible show moves _ (rmpRun _ _ _ _); with_reducible refine moves_trans ?_ (rmpRun_moves _ _ _ _))
    | with_reducible refine moves_ite ?_ ?_
    | with_reducible refine moves_doIf (fun _ => ?_) ?_
    | with_reducible refine moves_each (fun _ _ => ?_) ?_
    | dsimp only [id]
    | split
    | exact moves_eq (by with_reducible rfl))

theorem eff_rmpAcknowledge_moves (rx : Arrival) (ss : Session) (d : Bytes) (s : State) : moves s ((rmpRun rx ss d) s) := by
  try dsimp only
  repeat' (first
    | with_reducible exact moves_refl _
    | (with_reducible show moves _ (rmpRun _ _ _ _); with_reducible refine moves_trans ?_ (rmpRun_moves _ _ _ _))
    | with_reducible refine moves_ite ?_ ?_
    | with_reducible refine moves_doIf (fun _ => ?_) ?_
    | with_reducible refine moves_each (fun _ _ => ?_) ?_
    | dsimp only [id]
    | split
    | exact moves_eq (by with_reducible rfl))

theorem eff_rmpReset_moves (rx : Arrival) (ss : Session) (d : Bytes) (s : State) : moves s ((rmpRun rx ss d) s) := by
  try dsimp only
  repeat' (first
    | with_reducible exact moves_refl _
    | (with_reducible show moves _ (rmpRun _ _ _ _); with_reducible refine moves_trans ?_ (rmpRun_moves _ _ _ _))
    | with_reducible refine moves_ite ?_ ?_
    | with_reducible refine moves_doIf (fun _ => ?_) ?_
    | with_reducible refine moves_each (fun _ _ => ?_) ?_
    | dsimp only [id]
    | split
    | exact moves_eq (by with_reducible rfl))

theorem eff_rmpYield_moves (rx : Arrival) (ss : Session) (d : Bytes) (s : State) : moves s ((rmpRun rx ss d) s) := by
  try dsimp only
  repeat' (first
    | with_reducible exact moves_refl _
    | (with_reducible show moves _ (rmpRun _ _ _ _); with_reducible refine moves_trans ?_ (rmpRun_moves _ _ _ _))
    | with_reducible refine moves_ite ?_ ?_
    | with_reducible refine moves_doIf (fun _ => ?_) ?_
    | with_reducible refine moves_each (fun _ _ => ?_) ?_
    | dsimp only [id]
    | split
    | exact moves_eq (by with_reducible rfl))

theorem eff_rmpCommandInvalid_moves (rx : Arrival) (ss : Session) (d : Bytes) (s : State) : moves s ((rmpRun rx ss d) s) := by
  try dsimp only
  repeat' (first
    | with_reducible exact moves_refl _
    | (with_reducible show moves _ (rmpRun _ _ _ _); with_reducible refine moves_trans ?_ (rmpRun_moves _ _ _ _))
    | with_reducible refine moves_ite ?_ ?_
    | with_reducible refine moves_doIf (fun _ => ?_) ?_
    | with_reducible refine moves_each (fun _ _ => ?_) ?_
    | dsimp only [id]
    | split
    | exact moves_eq (by with_reducible rfl))

theorem eff_tetherKnotReq_moves (f : Bytes) (s : State) : moves s ((tethRx 12 f tethKnotBody) s) := by
  try dsimp only
  repeat' (first
    | with_reducible exact moves_refl _
    | (with_reducible show moves _ (tethRx _ _ _ _); with_reducible refine moves_trans ?_ (tethRx_moves (fun _ _ => ?_) _ _ _))
    | (with_reducible show moves _ (tethKnotBody _ _); with_reducible refine moves_trans ?_ (tethKnotBody_moves _ _))
    | with_reducible refine moves_ite ?_ ?_
    | with_reducible refine moves_doIf (fun _ => ?_) ?_
    | with_reducible refine moves_each (fun _ _ => ?_) ?_
    | dsimp only [id]
    | split
    | exact moves_eq (by with_reducible rfl))

theorem eff_tetherState_moves (f : Bytes) (s : State) : moves s ((tethRx 12 f tethStateBody) s) := by
  try dsimp only
  repeat' (first
    | with_reducible exact moves_refl _
    | (with_reducible show moves _ (tethRx _ _ _ _); with_reducible refine moves_trans ?_ (tethRx_moves (fun _ _ => ?_) _ _ _))
    | (with_reducible show moves _ (tethStateBody _ _); with_reducible refine moves_trans ?_ (tethStateBody_moves _ _))
    | with_reducible refine moves_ite ?_ ?_
    | with_reducible refine moves_doIf (fun _ => ?_) ?_
    | with_reducible refine moves_each (fun _ _ => ?_) ?_
    | dsimp only [id]
    | split
    | exact moves_eq (by with_reducible rfl))

theorem eff_tapReset_moves (s : State) : moves s (tapReset s) := by
  try dsimp only
  repeat' (first
    | with_reducible exact moves_refl _
    | (with_reducible show moves _ (tapReset _); with_reducible refine moves_trans ?_ (tapReset_moves _))
    | with_reducible refine moves_ite ?_ ?_
    | with_reducible refine moves_doIf (fun _ => ?_) ?_
    | with_reducible refine moves_each (fun _ _ => ?_) ?_
    | dsimp only [id]
    | split
    | exact moves_eq (by with_reducible rfl))

theorem eff_wpRead32_moves (space : Fin 16) (addr : Word) (e : List Flip) (s : State) : moves s ((wpRead space addr e) s) := by
  try dsimp only
  repeat' (first
    | with_reducible exact moves_refl _
    | (with_reducible show moves _ (wpRead _ _ _ _); with_reducible refine moves_trans ?_ (wpRead_moves _ _ _ _))
    | with_reducible refine moves_ite ?_ ?_
    | with_reducible refine moves_doIf (fun _ => ?_) ?_
    | with_reducible refine moves_each (fun _ _ => ?_) ?_
    | dsimp only [id]
    | split
    | exact moves_eq (by with_reducible rfl))

theorem eff_wpWrite32_moves (space : Fin 16) (addr : Word) (data : Word) (e : List Flip) (s : State) : moves s ((wpWrite space addr data e) s) := by
  try dsimp only
  repeat' (first
    | with_reducible exact moves_refl _
    | (with_reducible show moves _ (wpWrite _ _ _ _ _); with_reducible refine moves_trans ?_ (wpWrite_moves _ _ _ _ _))
    | with_reducible refine moves_ite ?_ ?_
    | with_reducible refine moves_doIf (fun _ => ?_) ?_
    | with_reducible refine moves_each (fun _ _ => ?_) ?_
    | dsimp only [id]
    | split
    | exact moves_eq (by with_reducible rfl))

theorem eff_wpHalt_moves (s : State) : moves s (wpHalt s) := by
  try dsimp only
  repeat' (first
    | with_reducible exact moves_refl _
    | (with_reducible show moves _ (wpHalt _); with_reducible refine moves_trans ?_ (wpHalt_moves _))
    | with_reducible refine moves_ite ?_ ?_
    | with_reducible refine moves_doIf (fun _ => ?_) ?_
    | with_reducible refine moves_each (fun _ _ => ?_) ?_
    | dsimp only [id]
    | split
    | exact moves_eq (by with_reducible rfl))

theorem eff_wpResume_moves (s : State) : moves s (wpResume s) := by
  try dsimp only
  repeat' (first
    | with_reducible exact moves_refl _
    | (with_reducible show moves _ (wpResume _); with_reducible refine moves_trans ?_ (wpResume_moves _))
    | with_reducible refine moves_ite ?_ ?_
    | with_reducible refine moves_doIf (fun _ => ?_) ?_
    | with_reducible refine moves_each (fun _ _ => ?_) ?_
    | dsimp only [id]
    | split
    | exact moves_eq (by with_reducible rfl))

theorem eff_wpStep_moves (data : Word) (s : State) : moves s ((wpStep data) s) := by
  try dsimp only
  repeat' (first
    | with_reducible exact moves_refl _
    | (with_reducible show moves _ (wpStep _ _); with_reducible refine moves_trans ?_ (wpStep_moves _ _))
    | with_reducible refine moves_ite ?_ ?_
    | with_reducible refine moves_doIf (fun _ => ?_) ?_
    | with_reducible refine moves_each (fun _ _ => ?_) ?_
    | dsimp only [id]
    | split
    | exact moves_eq (by with_reducible rfl))

/-! `eff_…_canonK` -/

theorem eff_supplyLow_canonK (x0 : Rail) (s : State) : canonK s (supplyLow s) := by
  try dsimp only
  repeat' (first
    | with_reducible exact canonK_refl _
    | (with_reducible show canonK _ (supplyLow _); with_reducible refine canonK_trans ?_ (supplyLow_canonK _))
    | with_reducible refine canonK_ite ?_ ?_
    | with_reducible refine canonK_doIf (fun _ => ?_) ?_
    | with_reducible refine canonK_each (fun _ _ => ?_) ?_
    | dsimp only [id]
    | split
    | exact canonK_eq rfl rfl rfl)

theorem eff_resetAssert_canonK (s : State) : canonK s ((coldReset 1) s) := by
  try dsimp only
  repeat' (first
    | with_reducible exact canonK_refl _
    | (with_reducible show canonK _ (coldReset _ _); with_reducible refine canonK_trans ?_ (coldReset_canonK _ _))
    | with_reducible refine canonK_ite ?_ ?_
    | with_reducible refine canonK_doIf (fun _ => ?_) ?_
    | with_reducible refine canonK_each (fun _ _ => ?_) ?_
    | dsimp only [id]
    | split
    | exact canonK_eq rfl rfl rfl)

theorem eff_resetRelease_canonK (bootSel : BitVec 2) (pairRole : Bool) (s : State) : canonK s ((resetReleased bootSel pairRole) s) := by
  try dsimp only
  repeat' (first
    | with_reducible exact canonK_refl _
    | (with_reducible show canonK _ (resetReleased _ _ _); with_reducible refine canonK_trans ?_ (resetReleased_canonK _ _ _))
    | with_reducible refine canonK_ite ?_ ?_
    | with_reducible refine canonK_doIf (fun _ => ?_) ?_
    | with_reducible refine canonK_each (fun _ _ => ?_) ?_
    | dsimp only [id]
    | split
    | exact canonK_eq rfl rfl rfl)

theorem eff_keepReset_canonK (s : State) : canonK s (keepReset s) := by
  try dsimp only
  repeat' (first
    | with_reducible exact canonK_refl _
    | (with_reducible show canonK _ (keepReset _); with_reducible refine canonK_trans ?_ (keepReset_canonK _))
    | with_reducible refine canonK_ite ?_ ?_
    | with_reducible refine canonK_doIf (fun _ => ?_) ?_
    | with_reducible refine canonK_each (fun _ _ => ?_) ?_
    | dsimp only [id]
    | split
    | exact canonK_eq rfl rfl rfl)

theorem eff_keepResetRelease_canonK (s : State) : canonK s ((mPos (fun p => { p with keepReset := false })) s) := by
  try dsimp only
  repeat' (first
    | with_reducible exact canonK_refl _
    | (with_reducible show canonK _ (mPos _ _); with_reducible refine canonK_trans ?_ (canonK_of_keeps (mPos_keeps _ _) (by decide)))
    | with_reducible refine canonK_ite ?_ ?_
    | with_reducible refine canonK_doIf (fun _ => ?_) ?_
    | with_reducible refine canonK_each (fun _ _ => ?_) ?_
    | dsimp only [id]
    | split
    | exact canonK_eq rfl rfl rfl)

theorem eff_imageRecordApply_canonK (rec : Bytes) (s : State) : canonK s ((recordApply rec) s) := by
  try dsimp only
  repeat' (first
    | with_reducible exact canonK_refl _
    | (with_reducible show canonK _ (recordApply _ _); with_reducible refine canonK_trans ?_ (recordApply_canonK _ _))
    | with_reducible refine canonK_ite ?_ ?_
    | with_reducible refine canonK_doIf (fun _ => ?_) ?_
    | with_reducible refine canonK_each (fun _ _ => ?_) ?_
    | dsimp only [id]
    | split
    | exact canonK_eq rfl rfl rfl)

theorem eff_imagePass2Done_canonK (boot : BitVec 64) (s : State) : canonK s ((imagePass2 boot) s) := by
  try dsimp only
  repeat' (first
    | with_reducible exact canonK_refl _
    | (with_reducible show canonK _ (imagePass2 _ _); with_reducible refine canonK_trans ?_ (imagePass2_canonK _ _))
    | with_reducible refine canonK_ite ?_ ?_
    | with_reducible refine canonK_doIf (fun _ => ?_) ?_
    | with_reducible refine canonK_each (fun _ _ => ?_) ?_
    | dsimp only [id]
    | split
    | exact canonK_eq rfl rfl rfl)

theorem eff_readyCriteriaMet_canonK (s : State) : canonK s (becomeReady s) := by
  try dsimp only
  repeat' (first
    | with_reducible exact canonK_refl _
    | (with_reducible show canonK _ (becomeReady _); with_reducible refine canonK_trans ?_ (becomeReady_canonK _))
    | with_reducible refine canonK_ite ?_ ?_
    | with_reducible refine canonK_doIf (fun _ => ?_) ?_
    | with_reducible refine canonK_each (fun _ _ => ?_) ?_
    | dsimp only [id]
    | split
    | exact canonK_eq rfl rfl rfl)

theorem eff_dramVerifyDone_canonK (res : List VerifyReads) (s : State) : canonK s ((dramVerified res) s) := by
  try dsimp only
  repeat' (first
    | with_reducible exact canonK_refl _
    | (with_reducible show canonK _ (dramVerified _ _); with_reducible refine canonK_trans ?_ (dramVerified_canonK _ _))
    | with_reducible refine canonK_ite ?_ ?_
    | with_reducible refine canonK_doIf (fun _ => ?_) ?_
    | with_reducible refine canonK_each (fun _ _ => ?_) ?_
    | dsimp only [id]
    | split
    | exact canonK_eq rfl rfl rfl)

theorem eff_knotTake_canonK (s : State) : canonK s ((fun s => match knotPlace s with | some p => takeKnot p s | none => s) s) := by
  try dsimp only
  repeat' (first
    | with_reducible exact canonK_refl _
    | (with_reducible show canonK _ (takeKnot _ _); with_reducible refine canonK_trans ?_ (takeKnot_canonK _ _))
    | with_reducible refine canonK_ite ?_ ?_
    | with_reducible refine canonK_doIf (fun _ => ?_) ?_
    | with_reducible refine canonK_each (fun _ _ => ?_) ?_
    | dsimp only [id]
    | split
    | exact canonK_eq rfl rfl rfl)

theorem eff_milestoneFire_canonK (ms : Ms) (s : State) : canonK s ((fun s => match msNext s with | some x => msFire x.1 x.2.1 x.2.2 s | none => s) s) := by
  try dsimp only
  repeat' (first
    | with_reducible exact canonK_refl _
    | (with_reducible show canonK _ (msFire _ _ _ _); with_reducible refine canonK_trans ?_ (msFire_canonK _ _ _ _))
    | with_reducible refine canonK_ite ?_ ?_
    | with_reducible refine canonK_doIf (fun _ => ?_) ?_
    | with_reducible refine canonK_each (fun _ _ => ?_) ?_
    | dsimp only [id]
    | split
    | exact canonK_eq rfl rfl rfl)

theorem eff_positionSample_canonK (t : Nat) (s : State) : canonK s ((fun s => posSample t (if keepRuns s then takeLive s else s)) s) := by
  try dsimp only
  repeat' (first
    | with_reducible exact canonK_refl _
    | (with_reducible show canonK _ (takeLive _); with_reducible refine canonK_trans ?_ (canonK_of_keeps (takeLive_keeps _) (by decide)))
    | (with_reducible show canonK _ (posSample _ _); with_reducible refine canonK_trans ?_ (posSample_canonK _ _))
    | with_reducible refine canonK_ite ?_ ?_
    | with_reducible refine canonK_doIf (fun _ => ?_) ?_
    | with_reducible refine canonK_each (fun _ _ => ?_) ?_
    | dsimp only [id]
    | split
    | exact canonK_eq rfl rfl rfl)

theorem eff_strike_canonK (p : Port) (cmpPs : Int) (s : State) : canonK s ((strike p cmpPs) s) := by
  try dsimp only
  repeat' (first
    | with_reducible exact canonK_refl _
    | (with_reducible show canonK _ (strike _ _ _); with_reducible refine canonK_trans ?_ (strike_canonK _ _ _))
    | with_reducible refine canonK_ite ?_ ?_
    | with_reducible refine canonK_doIf (fun _ => ?_) ?_
    | with_reducible refine canonK_each (fun _ _ => ?_) ?_
    | dsimp only [id]
    | split
    | exact canonK_eq rfl rfl rfl)

theorem eff_spoolDecodeLine_canonK (spool : Fin 64) (s : State) : canonK s ((spoolServe spool) s) := by
  try dsimp only
  repeat' (first
    | with_reducible exact canonK_refl _
    | (with_reducible show canonK _ (spoolServe _ _); with_reducible refine canonK_trans ?_ (spoolServe_canonK _ _))
    | with_reducible refine canonK_ite ?_ ?_
    | with_reducible refine canonK_doIf (fun _ => ?_) ?_
    | with_reducible refine canonK_each (fun _ _ => ?_) ?_
    | dsimp only [id]
    | split
    | exact canonK_eq rfl rfl rfl)

theorem eff_strandFetchIssue_canonK (n : Seg) (s : State) : canonK s ((fetchIssue n) s) := by
  try dsimp only
  repeat' (first
    | with_reducible exact canonK_refl _
    | (with_reducible show canonK _ (fetchIssue _ _); with_reducible refine canonK_trans ?_ (fetchIssue_canonK _ _))
    | with_reducible refine canonK_ite ?_ ?_
    | with_reducible refine canonK_doIf (fun _ => ?_) ?_
    | with_reducible refine canonK_each (fun _ _ => ?_) ?_
    | dsimp only [id]
    | split
    | exact canonK_eq rfl rfl rfl)

theorem eff_strandFetchDone_canonK (n : Seg) (s : State) : canonK s ((fun s => match (strand s n).reqs with
      | r :: _ => stageTake 4 [r.tag] r.layer n none (fetchDone n) s
      | [] => s) s) := by
  try dsimp only
  repeat' (first
    | with_reducible exact canonK_refl _
    | (with_reducible show canonK _ (stageTake _ _ _ _ _ _ _); with_reducible refine canonK_trans ?_ (stageTake_canonK (fun _ => ?_) _ _ _ _ _ _))
    | (with_reducible show canonK _ (fetchDone _ _); with_reducible refine canonK_trans ?_ (fetchDone_canonK _ _))
    | with_reducible refine canonK_ite ?_ ?_
    | with_reducible refine canonK_doIf (fun _ => ?_) ?_
    | with_reducible refine canonK_each (fun _ _ => ?_) ?_
    | dsimp only [id]
    | split
    | exact canonK_eq rfl rfl rfl)

theorem eff_staggerLine_canonK (n : Seg) (s : State) : canonK s ((fun s =>
      match staggerNext s n with
      | some (t, l) => stageTake 6 [t.k, n] l.layer n (some t.lc) (staggerLine n t l) s
      | none => s) s) := by
  try dsimp only
  repeat' (first
    | with_reducible exact canonK_refl _
    | (with_reducible show canonK _ (stageTake _ _ _ _ _ _ _); with_reducible refine canonK_trans ?_ (stageTake_canonK (fun _ => ?_) _ _ _ _ _ _))
    | (with_reducible show canonK _ (staggerLine _ _ _ _); with_reducible refine canonK_trans ?_ (staggerLine_canonK _ _ _ _))
    | with_reducible refine canonK_ite ?_ ?_
    | with_reducible refine canonK_doIf (fun _ => ?_) ?_
    | with_reducible refine canonK_each (fun _ _ => ?_) ?_
    | dsimp only [id]
    | split
    | exact canonK_eq rfl rfl rfl)

theorem eff_frameBuild_canonK (p : Port) (s : State) : canonK s ((fun s =>
    match buildNext s p with
    | some t => if t.mark = .null then frameBuild p t s else stageTake 7 [t.k, p] t.layer p (some t.lc) (frameBuild p t) s
    | none => s) s) := by
  try dsimp only
  repeat' (first
    | with_reducible exact canonK_refl _
    | (with_reducible show canonK _ (stageTake _ _ _ _ _ _ _); with_reducible refine canonK_trans ?_ (stageTake_canonK (fun _ => ?_) _ _ _ _ _ _))
    | (with_reducible show canonK _ (frameBuild _ _ _); with_reducible refine canonK_trans ?_ (frameBuild_canonK _ _ _))
    | with_reducible refine canonK_ite ?_ ?_
    | with_reducible refine canonK_doIf (fun _ => ?_) ?_
    | with_reducible refine canonK_each (fun _ _ => ?_) ?_
    | dsimp only [id]
    | split
    | exact canonK_eq rfl rfl rfl)

theorem eff_blockData_canonK (rx : Arrival) (ss : Session) (d : Bytes) (s : State) : canonK s ((towRx rx ss (towEntry ss d (fun np => towOwned np ss d (beAt d 16 4) goneUnknown (fragCheck np ss d)))) s) := by
  try dsimp only
  repeat' (first
    | with_reducible exact canonK_refl _
    | (with_reducible show canonK _ (towEntry _ _ _ _ _); with_reducible refine canonK_trans ?_ (towEntry_canonK (fun _ _ => ?_) _ _ _ _))
    | (with_reducible show canonK _ (towOwned _ _ _ _ _ _); with_reducible refine canonK_trans ?_ (towOwned_canonK (fun _ _ => ?_) _ _ _ _ _))
    | (with_reducible show canonK _ (fragCheck _ _ _ _ _); with_reducible refine canonK_trans ?_ (fragCheck_canonK _ _ _ _ _))
    | (with_reducible show canonK _ (towRx _ _ _ _); with_reducible refine canonK_trans ?_ (towRx_canonK (fun _ _ => ?_) _ _ _))
    | (with_reducible show canonK _ (towEntry _ _ _ _ _); with_reducible refine canonK_trans ?_ (towEntry_canonK (fun _ _ => ?_) _ _ _ _))
    | (with_reducible show canonK _ (towOwned _ _ _ _ _ _ _); with_reducible refine canonK_trans ?_ (towOwned_canonK (fun _ _ => ?_) _ _ _ _ _ _))
    | with_reducible refine canonK_ite ?_ ?_
    | with_reducible refine canonK_doIf (fun _ => ?_) ?_
    | with_reducible refine canonK_each (fun _ _ => ?_) ?_
    | dsimp only [id]
    | split
    | exact canonK_eq rfl rfl rfl)

theorem eff_layerRelease_canonK (rx : Arrival) (ss : Session) (d : Bytes) (s : State) : canonK s ((towRx rx ss (towEntry ss d (fun np => releaseMsg np ss d))) s) := by
  try dsimp only
  repeat' (first
    | with_reducible exact canonK_refl _
    | (with_reducible show canonK _ (towEntry _ _ _ _ _); with_reducible refine canonK_trans ?_ (towEntry_canonK (fun _ _ => ?_) _ _ _ _))
    | (with_reducible show canonK _ (releaseMsg _ _ _ _); with_reducible refine canonK_trans ?_ (releaseMsg_canonK _ _ _ _))
    | (with_reducible show canonK _ (towRx _ _ _ _); with_reducible refine canonK_trans ?_ (towRx_canonK (fun _ _ => ?_) _ _ _))
    | (with_reducible show canonK _ (towEntry _ _ _ _ _); with_reducible refine canonK_trans ?_ (towEntry_canonK (fun _ _ => ?_) _ _ _ _))
    | with_reducible refine canonK_ite ?_ ?_
    | with_reducible refine canonK_doIf (fun _ => ?_) ?_
    | with_reducible refine canonK_each (fun _ _ => ?_) ?_
    | dsimp only [id]
    | split
    | exact canonK_eq rfl rfl rfl)

theorem eff_compressorStart_canonK (s : State) : canonK s (compStart s) := by
  try dsimp only
  repeat' (first
    | with_reducible exact canonK_refl _
    | (with_reducible show canonK _ (compStart _); with_reducible refine canonK_trans ?_ (compStart_canonK _))
    | with_reducible refine canonK_ite ?_ ?_
    | with_reducible refine canonK_doIf (fun _ => ?_) ?_
    | with_reducible refine canonK_each (fun _ _ => ?_) ?_
    | dsimp only [id]
    | split
    | exact canonK_eq rfl rfl rfl)

theorem eff_chainDrain_canonK (c : Fin 2) (s : State) : canonK s ((chainDrain c) s) := by
  try dsimp only
  repeat' (first
    | with_reducible exact canonK_refl _
    | (with_reducible show canonK _ (chainDrain _ _); with_reducible refine canonK_trans ?_ (chainDrain_canonK _ _))
    | with_reducible refine canonK_ite ?_ ?_
    | with_reducible refine canonK_doIf (fun _ => ?_) ?_
    | with_reducible refine canonK_each (fun _ _ => ?_) ?_
    | dsimp only [id]
    | split
    | exact canonK_eq rfl rfl rfl)

theorem eff_compressionComplete_canonK (c : Fin 2) (s : State) : canonK s ((compDone c) s) := by
  try dsimp only
  repeat' (first
    | with_reducible exact canonK_refl _
    | (with_reducible show canonK _ (compDone _ _); with_reducible refine canonK_trans ?_ (compDone_canonK _ _))
    | with_reducible refine canonK_ite ?_ ?_
    | with_reducible refine canonK_doIf (fun _ => ?_) ?_
    | with_reducible refine canonK_each (fun _ _ => ?_) ?_
    | dsimp only [id]
    | split
    | exact canonK_eq rfl rfl rfl)

theorem eff_nozzleSwap_canonK (s : State) : canonK s ((fun s => match nzDue s with | some c => nzSwapDue c s | none => s) s) := by
  try dsimp only
  repeat' (first
    | with_reducible exact canonK_refl _
    | (with_reducible show canonK _ (nzSwapDue _ _); with_reducible refine canonK_trans ?_ (nzSwapDue_canonK _ _))
    | with_reducible refine canonK_ite ?_ ?_
    | with_reducible refine canonK_doIf (fun _ => ?_) ?_
    | with_reducible refine canonK_each (fun _ _ => ?_) ?_
    | dsimp only [id]
    | split
    | exact canonK_eq rfl rfl rfl)

theorem eff_gateSlotResult_canonK (g : Gate) (noise : Bool) (s : State) : canonK s ((gateSlotEnd g noise) s) := by
  try dsimp only
  repeat' (first
    | with_reducible exact canonK_refl _
    | (with_reducible show canonK _ (gateSlotEnd _ _ _); with_reducible refine canonK_trans ?_ (gateSlotEnd_canonK _ _ _))
    | with_reducible refine canonK_ite ?_ ?_
    | with_reducible refine canonK_doIf (fun _ => ?_) ?_
    | with_reducible refine canonK_each (fun _ _ => ?_) ?_
    | dsimp only [id]
    | split
    | exact canonK_eq rfl rfl rfl)

theorem eff_linkTimeout_canonK (lane : RxLane) (s : State) : canonK s ((fun s => match lane with
    | .head p => linkFail p (timeoutReason (headPort s p).st) s
    | .tether l => tethFail l s) s) := by
  try dsimp only
  repeat' (first
    | with_reducible exact canonK_refl _
    | (with_reducible show canonK _ (linkFail _ _ _); with_reducible refine canonK_trans ?_ (linkFail_canonK _ _ _))
    | (with_reducible show canonK _ (tethFail _ _); with_reducible refine canonK_trans ?_ (canonK_of_keeps (tethFail_keeps _ _) (by decide)))
    | with_reducible refine canonK_ite ?_ ?_
    | with_reducible refine canonK_doIf (fun _ => ?_) ?_
    | with_reducible refine canonK_each (fun _ _ => ?_) ?_
    | dsimp only [id]
    | split
    | exact canonK_eq rfl rfl rfl)

theorem eff_linkIdleDetect_canonK (lane : RxLane) (s : State) : canonK s ((fun s => match lane, laneState s lane with
    | .head p, .active => portLoss p 7 s
    | .head p, .poll => linkFail p 6 s
    | .head p, .lock => linkFail p 6 s
    | .head p, .exchange => linkFail p 6 s
    | .tether l, .poll => tethFail l s
    | .tether l, .lock => tethFail l s
    | _, _ => s) s) := by
  try dsimp only
  repeat' (first
    | with_reducible exact canonK_refl _
    | (with_reducible show canonK _ (linkFail _ _ _); with_reducible refine canonK_trans ?_ (linkFail_canonK _ _ _))
    | (with_reducible show canonK _ (portLoss _ _ _); with_reducible refine canonK_trans ?_ (portLoss_canonK _ _ _))
    | (with_reducible show canonK _ (tethFail _ _); with_reducible refine canonK_trans ?_ (canonK_of_keeps (tethFail_keeps _ _) (by decide)))
    | with_reducible refine canonK_ite ?_ ?_
    | with_reducible refine canonK_doIf (fun _ => ?_) ?_
    | with_reducible refine canonK_each (fun _ _ => ?_) ?_
    | dsimp only [id]
    | split
    | exact canonK_eq rfl rfl rfl)

theorem eff_gulistAck_canonK (p : Port) (f : Bytes) (s : State) : canonK s ((gulAck p f) s) := by
  try dsimp only
  repeat' (first
    | with_reducible exact canonK_refl _
    | (with_reducible show canonK _ (gulAck _ _ _); with_reducible refine canonK_trans ?_ (gulAck_canonK _ _ _))
    | with_reducible refine canonK_ite ?_ ?_
    | with_reducible refine canonK_doIf (fun _ => ?_) ?_
    | with_reducible refine canonK_each (fun _ _ => ?_) ?_
    | dsimp only [id]
    | split
    | exact canonK_eq rfl rfl rfl)

theorem eff_gulistStatusRx_canonK (p : Port) (f : Bytes) (s : State) : canonK s ((gulStatus p f) s) := by
  try dsimp only
  repeat' (first
    | with_reducible exact canonK_refl _
    | (with_reducible show canonK _ (gulStatus _ _ _); with_reducible refine canonK_trans ?_ (gulStatus_canonK _ _ _))
    | with_reducible refine canonK_ite ?_ ?_
    | with_reducible refine canonK_doIf (fun _ => ?_) ?_
    | with_reducible refine canonK_each (fun _ _ => ?_) ?_
    | dsimp only [id]
    | split
    | exact canonK_eq rfl rfl rfl)

theorem eff_statusTimeout_canonK (p : Port) (s : State) : canonK s ((portLoss p 7) s) := by
  try dsimp only
  repeat' (first
    | with_reducible exact canonK_refl _
    | (with_reducible show canonK _ (portLoss _ _ _); with_reducible refine canonK_trans ?_ (portLoss_canonK _ _ _))
    | with_reducible refine canonK_ite ?_ ?_
    | with_reducible refine canonK_doIf (fun _ => ?_) ?_
    | with_reducible refine canonK_each (fun _ _ => ?_) ?_
    | dsimp only [id]
    | split
    | exact canonK_eq rfl rfl rfl)

theorem eff_gulistFrameDiscard_canonK (p : Port) (flaws : RxFlaws) (f : Bytes) (s : State) : canonK s ((fun s =>
    let r := discStatic flaws f
    let s := gulErrs p flaws.errs s
    if !linkUp s p then s else if r ≠ 0 then gulDiscard p r s else gulAck p f s) s) := by
  try dsimp only
  repeat' (first
    | with_reducible exact canonK_refl _
    | (with_reducible show canonK _ (gulAck _ _ _); with_reducible refine canonK_trans ?_ (gulAck_canonK _ _ _))
    | (with_reducible show canonK _ (gulErrs _ _ _); with_reducible refine canonK_trans ?_ (canonK_of_keeps (gulErrs_keeps _ _ _) (by decide)))
    | (with_reducible show canonK _ (gulDiscard _ _ _); with_reducible refine canonK_trans ?_ (canonK_of_keeps (gulDiscard_keeps _ _ _) (by decide)))
    | with_reducible refine canonK_ite ?_ ?_
    | with_reducible refine canonK_doIf (fun _ => ?_) ?_
    | with_reducible refine canonK_each (fun _ _ => ?_) ?_
    | dsimp only [id]
    | split
    | exact canonK_eq rfl rfl rfl)

theorem eff_camLineRx_canonK (c : Ctx) (pkt : BitVec 6 × Bytes) (crc : BitVec 16) (s : State) : canonK s ((camPacket c (camLine c pkt.1.toNat pkt.2 (crc16 pkt.2 == crc))) s) := by
  try dsimp only
  repeat' (first
    | with_reducible exact canonK_refl _
    | (with_reducible show canonK _ (camLine _ _ _ _); with_reducible refine canonK_trans ?_ (camLine_canonK _ _ _ _))
    | (with_reducible show canonK _ (camPacket _ _ _); with_reducible refine canonK_trans ?_ (camPacket_canonK (fun _ => ?_) _ _))
    | (with_reducible show canonK _ (camLine _ _ _ _ _); with_reducible refine canonK_trans ?_ (camLine_canonK _ _ _ _ _))
    | with_reducible refine canonK_ite ?_ ?_
    | with_reducible refine canonK_doIf (fun _ => ?_) ?_
    | with_reducible refine canonK_each (fun _ _ => ?_) ?_
    | dsimp only [id]
    | split
    | exact canonK_eq rfl rfl rfl)

theorem eff_stripeProcess_canonK (s : State) : canonK s ((fun s => match stripeNext s with | some x => stripeTake x s | none => s) s) := by
  try dsimp only
  repeat' (first
    | with_reducible exact canonK_refl _
    | (with_reducible show canonK _ (stripeTake _ _); with_reducible refine canonK_trans ?_ (stripeTake_canonK _ _))
    | with_reducible refine canonK_ite ?_ ?_
    | with_reducible refine canonK_doIf (fun _ => ?_) ?_
    | with_reducible refine canonK_each (fun _ _ => ?_) ?_
    | dsimp only [id]
    | split
    | exact canonK_eq rfl rfl rfl)

theorem eff_recordWrite_canonK (c : Ctx) (s : State) : canonK s ((fun s => match frameReady s c with | some f => recordPut c f s | none => s) s) := by
  try dsimp only
  repeat' (first
    | with_reducible exact canonK_refl _
    | (with_reducible show canonK _ (recordPut _ _ _); with_reducible refine canonK_trans ?_ (recordPut_canonK _ _ _))
    | with_reducible refine canonK_ite ?_ ?_
    | with_reducible refine canonK_doIf (fun _ => ?_) ?_
    | with_reducible refine canonK_each (fun _ _ => ?_) ?_
    | dsimp only [id]
    | split
    | exact canonK_eq rfl rfl rfl)

theorem eff_streakDetect_canonK (c : Ctx) (s : State) : canonK s ((fun s => match frameReady s c with | some f => streakRun c f s | none => s) s) := by
  try dsimp only
  repeat' (first
    | with_reducible exact canonK_refl _
    | (with_reducible show canonK _ (streakRun _ _ _); with_reducible refine canonK_trans ?_ (streakRun_canonK _ _ _))
    | with_reducible refine canonK_ite ?_ ?_
    | with_reducible refine canonK_doIf (fun _ => ?_) ?_
    | with_reducible refine canonK_each (fun _ _ => ?_) ?_
    | dsimp only [id]
    | split
    | exact canonK_eq rfl rfl rfl)

theorem eff_dramIssue_canonK (ch : Chan) (cmdBad : Bool) (s : State) : canonK s ((fun s => match chanNext s ch with
    | .unit u =>
      let o := tagOwner s u.tag
      stageTake 3 [ch.val, u.ca, u.tag] o.1 o.2 none (dramIssue ch cmdBad) s
    | _ => dramIssue ch cmdBad s) s) := by
  try dsimp only
  repeat' (first
    | with_reducible exact canonK_refl _
    | (with_reducible show canonK _ (stageTake _ _ _ _ _ _ _); with_reducible refine canonK_trans ?_ (stageTake_canonK (fun _ => ?_) _ _ _ _ _ _))
    | (with_reducible show canonK _ (dramIssue _ _ _); with_reducible refine canonK_trans ?_ (dramIssue_canonK _ _ _))
    | with_reducible refine canonK_ite ?_ ?_
    | with_reducible refine canonK_doIf (fun _ => ?_) ?_
    | with_reducible refine canonK_each (fun _ _ => ?_) ?_
    | dsimp only [id]
    | split
    | exact canonK_eq rfl rfl rfl)

theorem eff_dramReadReturn_canonK (ch : Chan) (e : List Flip) (s : State) : canonK s ((dramReturn ch e) s) := by
  try dsimp only
  repeat' (first
    | with_reducible exact canonK_refl _
    | (with_reducible show canonK _ (dramReturn _ _ _); with_reducible refine canonK_trans ?_ (dramReturn_canonK _ _ _))
    | with_reducible refine canonK_ite ?_ ?_
    | with_reducible refine canonK_doIf (fun _ => ?_) ?_
    | with_reducible refine canonK_each (fun _ _ => ?_) ?_
    | dsimp only [id]
    | split
    | exact canonK_eq rfl rfl rfl)

theorem eff_refreshDue_canonK (ch : Chan) (s : State) : canonK s ((refreshFalls ch) s) := by
  try dsimp only
  repeat' (first
    | with_reducible exact canonK_refl _
    | (with_reducible show canonK _ (refreshFalls _ _); with_reducible refine canonK_trans ?_ (refreshFalls_canonK _ _))
    | with_reducible refine canonK_ite ?_ ?_
    | with_reducible refine canonK_doIf (fun _ => ?_) ?_
    | with_reducible refine canonK_each (fun _ _ => ?_) ?_
    | dsimp only [id]
    | split
    | exact canonK_eq rfl rfl rfl)

theorem eff_verifySlice_canonK (ch : Chan) (got0 : Bytes) (got1 : Bytes) (s : State) : canonK s ((verifyStep ch got0 got1) s) := by
  try dsimp only
  repeat' (first
    | with_reducible exact canonK_refl _
    | (with_reducible show canonK _ (verifyStep _ _ _ _); with_reducible refine canonK_trans ?_ (verifyStep_canonK _ _ _ _))
    | with_reducible refine canonK_ite ?_ ?_
    | with_reducible refine canonK_doIf (fun _ => ?_) ?_
    | with_reducible refine canonK_each (fun _ _ => ?_) ?_
    | dsimp only [id]
    | split
    | exact canonK_eq rfl rfl rfl)

theorem eff_bankRead_canonK (b : Bank) (r : Fin 4) (off : Nat) (len : Nat) (e : List Flip) (s : State) : canonK s ((bankOp b r off len 1 e (fun s => bankAnswer b r (some (bankBytes s b off len)) s)) s) := by
  try dsimp only
  repeat' (first
    | with_reducible exact canonK_refl _
    | (with_reducible show canonK _ (bankOp _ _ _ _ _ _ _ _); with_reducible refine canonK_trans ?_ (bankOp_canonK (fun _ => ?_) _ _ _ _ _ _ _))
    | (with_reducible show canonK _ (bankAnswer _ _ _ _); with_reducible refine canonK_trans ?_ (canonK_of_keeps (bankAnswer_keeps _ _ _ _) (by decide)))
    | with_reducible refine canonK_ite ?_ ?_
    | with_reducible refine canonK_doIf (fun _ => ?_) ?_
    | with_reducible refine canonK_each (fun _ _ => ?_) ?_
    | dsimp only [id]
    | split
    | exact canonK_eq rfl rfl rfl)

theorem eff_bankWrite_canonK (b : Bank) (r : Fin 4) (off : Nat) (data : Bytes) (e : List Flip) (s : State) : canonK s ((bankOp b r off data.length 1 e (bankStore b r off data [])) s) := by
  try dsimp only
  repeat' (first
    | with_reducible exact canonK_refl _
    | (with_reducible show canonK _ (bankOp _ _ _ _ _ _ _ _); with_reducible refine canonK_trans ?_ (bankOp_canonK (fun _ => ?_) _ _ _ _ _ _ _))
    | (with_reducible show canonK _ (bankStore _ _ _ _ _ _); with_reducible refine canonK_trans ?_ (bankStore_canonK _ _ _ _ _ _))
    | with_reducible refine canonK_ite ?_ ?_
    | with_reducible refine canonK_doIf (fun _ => ?_) ?_
    | with_reducible refine canonK_each (fun _ _ => ?_) ?_
    | dsimp only [id]
    | split
    | exact canonK_eq rfl rfl rfl)

theorem eff_bankAdd_canonK (b : Bank) (r : Fin 4) (off : Nat) (v : Word) (e : List Flip) (s : State) : canonK s ((bankOp b r off 4 4 e (fun s => bankStore b r off (bankSum s b off false v.toNat) [] s)) s) := by
  try dsimp only
  repeat' (first
    | with_reducible exact canonK_refl _
    | (with_reducible show canonK _ (bankOp _ _ _ _ _ _ _ _); with_reducible refine canonK_trans ?_ (bankOp_canonK (fun _ => ?_) _ _ _ _ _ _ _))
    | (with_reducible show canonK _ (bankStore _ _ _ _ _ _); with_reducible refine canonK_trans ?_ (bankStore_canonK _ _ _ _ _ _))
    | with_reducible refine canonK_ite ?_ ?_
    | with_reducible refine canonK_doIf (fun _ => ?_) ?_
    | with_reducible refine canonK_each (fun _ _ => ?_) ?_
    | dsimp only [id]
    | split
    | exact canonK_eq rfl rfl rfl)

theorem eff_bankAddSat_canonK (b : Bank) (r : Fin 4) (off : Nat) (v : Word) (e : List Flip) (s : State) : canonK s ((bankOp b r off 4 4 e (fun s => bankStore b r off (bankSum s b off true v.toNat) [] s)) s) := by
  try dsimp only
  repeat' (first
    | with_reducible exact canonK_refl _
    | (with_reducible show canonK _ (bankOp _ _ _ _ _ _ _ _); with_reducible refine canonK_trans ?_ (bankOp_canonK (fun _ => ?_) _ _ _ _ _ _ _))
    | (with_reducible show canonK _ (bankStore _ _ _ _ _ _); with_reducible refine canonK_trans ?_ (bankStore_canonK _ _ _ _ _ _))
    | with_reducible refine canonK_ite ?_ ?_
    | with_reducible refine canonK_doIf (fun _ => ?_) ?_
    | with_reducible refine canonK_each (fun _ _ => ?_) ?_
    | dsimp only [id]
    | split
    | exact canonK_eq rfl rfl rfl)

theorem eff_bankSwap_canonK (b : Bank) (r : Fin 4) (off : Nat) (v : BitVec 64) (e : List Flip) (s : State) : canonK s ((bankOp b r off 8 8 e (fun s => bankStore b r off (leBytes 8 v.toNat) (bankBytes s b off 8) s)) s) := by
  try dsimp only
  repeat' (first
    | with_reducible exact canonK_refl _
    | (with_reducible show canonK _ (bankOp _ _ _ _ _ _ _ _); with_reducible refine canonK_trans ?_ (bankOp_canonK (fun _ => ?_) _ _ _ _ _ _ _))
    | (with_reducible show canonK _ (bankStore _ _ _ _ _ _); with_reducible refine canonK_trans ?_ (bankStore_canonK _ _ _ _ _ _))
    | with_reducible refine canonK_ite ?_ ?_
    | with_reducible refine canonK_doIf (fun _ => ?_) ?_
    | with_reducible refine canonK_each (fun _ _ => ?_) ?_
    | dsimp only [id]
    | split
    | exact canonK_eq rfl rfl rfl)

theorem eff_arbRound_canonK (inst : Fin 12) (reqs : BitVec 4) (s : State) : canonK s ((fun s => if inst.val < 4 then dramRound inst s else lineRound inst (roundReqs s inst reqs) s) s) := by
  try dsimp only
  repeat' (first
    | with_reducible exact canonK_refl _
    | (with_reducible show canonK _ (dramRound _ _); with_reducible refine canonK_trans ?_ (dramRound_canonK _ _))
    | (with_reducible show canonK _ (lineRound _ _ _); with_reducible refine canonK_trans ?_ (lineRound_canonK _ _ _))
    | with_reducible refine canonK_ite ?_ ?_
    | with_reducible refine canonK_doIf (fun _ => ?_) ?_
    | with_reducible refine canonK_each (fun _ _ => ?_) ?_
    | dsimp only [id]
    | split
    | exact canonK_eq rfl rfl rfl)

theorem eff_axisProfileUpdate_canonK (a : Axis) (s : State) : canonK s ((profileUpdate a) s) := by
  try dsimp only
  repeat' (first
    | with_reducible exact canonK_refl _
    | (with_reducible show canonK _ (profileUpdate _ _); with_reducible refine canonK_trans ?_ (profileUpdate_canonK _ _))
    | with_reducible refine canonK_ite ?_ ?_
    | with_reducible refine canonK_doIf (fun _ => ?_) ?_
    | with_reducible refine canonK_each (fun _ _ => ?_) ?_
    | dsimp only [id]
    | split
    | exact canonK_eq rfl rfl rfl)

theorem eff_overcurrent_canonK (a : Axis) (s : State) : canonK s ((overcurrentTake a) s) := by
  try dsimp only
  repeat' (first
    | with_reducible exact canonK_refl _
    | (with_reducible show canonK _ (overcurrentTake _ _); with_reducible refine canonK_trans ?_ (overcurrentTake_canonK _ _))
    | with_reducible refine canonK_ite ?_ ?_
    | with_reducible refine canonK_doIf (fun _ => ?_) ?_
    | with_reducible refine canonK_each (fun _ _ => ?_) ?_
    | dsimp only [id]
    | split
    | exact canonK_eq rfl rfl rfl)

theorem eff_hardLimit_canonK (a : Axis) (hi : Bool) (s : State) : canonK s ((hardLimitTake a hi) s) := by
  try dsimp only
  repeat' (first
    | with_reducible exact canonK_refl _
    | (with_reducible show canonK _ (hardLimitTake _ _ _); with_reducible refine canonK_trans ?_ (hardLimitTake_canonK _ _ _))
    | with_reducible refine canonK_ite ?_ ?_
    | with_reducible refine canonK_doIf (fun _ => ?_) ?_
    | with_reducible refine canonK_each (fun _ _ => ?_) ?_
    | dsimp only [id]
    | split
    | exact canonK_eq rfl rfl rfl)

theorem eff_mgmtTick_canonK (temps : List Int) (refCodes : List (BitVec 3)) (s : State) : canonK s ((mgmtTick temps refCodes) s) := by
  try dsimp only
  repeat' (first
    | with_reducible exact canonK_refl _
    | (with_reducible show canonK _ (mgmtTick _ _ _); with_reducible refine canonK_trans ?_ (mgmtTick_canonK _ _ _))
    | with_reducible refine canonK_ite ?_ ?_
    | with_reducible refine canonK_doIf (fun _ => ?_) ?_
    | with_reducible refine canonK_each (fun _ _ => ?_) ?_
    | dsimp only [id]
    | split
    | exact canonK_eq rfl rfl rfl)

theorem eff_rmpDiscard_canonK (rx : Arrival) (ss : Session) (d : Bytes) (s : State) : canonK s ((rmpRun rx ss d) s) := by
  try dsimp only
  repeat' (first
    | with_reducible exact canonK_refl _
    | (with_reducible show canonK _ (rmpRun _ _ _ _); with_reducible refine canonK_trans ?_ (rmpRun_canonK _ _ _ _))
    | with_reducible refine canonK_ite ?_ ?_
    | with_reducible refine canonK_doIf (fun _ => ?_) ?_
    | with_reducible refine canonK_each (fun _ _ => ?_) ?_
    | dsimp only [id]
    | split
    | exact canonK_eq rfl rfl rfl)

theorem eff_rmpUnknownType_canonK (rx : Arrival) (ss : Session) (d : Bytes) (s : State) : canonK s ((rmpRun rx ss d) s) := by
  try dsimp only
  repeat' (first
    | with_reducible exact canonK_refl _
    | (with_reducible show canonK _ (rmpRun _ _ _ _); with_reducible refine canonK_trans ?_ (rmpRun_canonK _ _ _ _))
    | with_reducible refine canonK_ite ?_ ?_
    | with_reducible refine canonK_doIf (fun _ => ?_) ?_
    | with_reducible refine canonK_each (fun _ _ => ?_) ?_
    | dsimp only [id]
    | split
    | exact canonK_eq rfl rfl rfl)

theorem eff_rmpHello_canonK (rx : Arrival) (ss : Session) (d : Bytes) (s : State) : canonK s ((rmpRun rx ss d) s) := by
  try dsimp only
  repeat' (first
    | with_reducible exact canonK_refl _
    | (with_reducible show canonK _ (rmpRun _ _ _ _); with_reducible refine canonK_trans ?_ (rmpRun_canonK _ _ _ _))
    | with_reducible refine canonK_ite ?_ ?_
    | with_reducible refine canonK_doIf (fun _ => ?_) ?_
    | with_reducible refine canonK_each (fun _ _ => ?_) ?_
    | dsimp only [id]
    | split
    | exact canonK_eq rfl rfl rfl)

theorem eff_rmpRead_canonK (rx : Arrival) (ss : Session) (d : Bytes) (s : State) : canonK s ((rmpRun rx ss d) s) := by
  try dsimp only
  repeat' (first
    | with_reducible exact canonK_refl _
    | (with_reducible show canonK _ (rmpRun _ _ _ _); with_reducible refine canonK_trans ?_ (rmpRun_canonK _ _ _ _))
    | with_reducible refine canonK_ite ?_ ?_
    | with_reducible refine canonK_doIf (fun _ => ?_) ?_
    | with_reducible refine canonK_each (fun _ _ => ?_) ?_
    | dsimp only [id]
    | split
    | exact canonK_eq rfl rfl rfl)

theorem eff_rmpWrite_canonK (rx : Arrival) (ss : Session) (d : Bytes) (s : State) : canonK s ((rmpRun rx ss d) s) := by
  try dsimp only
  repeat' (first
    | with_reducible exact canonK_refl _
    | (with_reducible show canonK _ (rmpRun _ _ _ _); with_reducible refine canonK_trans ?_ (rmpRun_canonK _ _ _ _))
    | with_reducible refine canonK_ite ?_ ?_
    | with_reducible refine canonK_doIf (fun _ => ?_) ?_
    | with_reducible refine canonK_each (fun _ _ => ?_) ?_
    | dsimp only [id]
    | split
    | exact canonK_eq rfl rfl rfl)

theorem eff_rmpSwap_canonK (rx : Arrival) (ss : Session) (d : Bytes) (s : State) : canonK s ((rmpRun rx ss d) s) := by
  try dsimp only
  repeat' (first
    | with_reducible exact canonK_refl _
    | (with_reducible show canonK _ (rmpRun _ _ _ _); with_reducible refine canonK_trans ?_ (rmpRun_canonK _ _ _ _))
    | with_reducible refine canonK_ite ?_ ?_
    | with_reducible refine canonK_doIf (fun _ => ?_) ?_
    | with_reducible refine canonK_each (fun _ _ => ?_) ?_
    | dsimp only [id]
    | split
    | exact canonK_eq rfl rfl rfl)

theorem eff_rmpStatus_canonK (rx : Arrival) (ss : Session) (d : Bytes) (s : State) : canonK s ((rmpRun rx ss d) s) := by
  try dsimp only
  repeat' (first
    | with_reducible exact canonK_refl _
    | (with_reducible show canonK _ (rmpRun _ _ _ _); with_reducible refine canonK_trans ?_ (rmpRun_canonK _ _ _ _))
    | with_reducible refine canonK_ite ?_ ?_
    | with_reducible refine canonK_doIf (fun _ => ?_) ?_
    | with_reducible refine canonK_each (fun _ _ => ?_) ?_
    | dsimp only [id]
    | split
    | exact canonK_eq rfl rfl rfl)

theorem eff_rmpSubscribe_canonK (rx : Arrival) (ss : Session) (d : Bytes) (s : State) : canonK s ((rmpRun rx ss d) s) := by
  try dsimp only
  repeat' (first
    | with_reducible exact canonK_refl _
    | (with_reducible show canonK _ (rmpRun _ _ _ _); with_reducible refine canonK_trans ?_ (rmpRun_canonK _ _ _ _))
    | with_reducible refine canonK_ite ?_ ?_
    | with_reducible refine canonK_doIf (fun _ => ?_) ?_
    | with_reducible refine canonK_each (fun _ _ => ?_) ?_
    | dsimp only [id]
    | split
    | exact canonK_eq rfl rfl rfl)

theorem eff_rmpHold_canonK (rx : Arrival) (ss : Session) (d : Bytes) (s : State) : canonK s ((rmpRun rx ss d) s) := by
  try dsimp only
  repeat' (first
    | with_reducible exact canonK_refl _
    | (with_reducible show canonK _ (rmpRun _ _ _ _); with_reducible refine canonK_trans ?_ (rmpRun_canonK _ _ _ _))
    | with_reducible refine canonK_ite ?_ ?_
    | with_reducible refine canonK_doIf (fun _ => ?_) ?_
    | with_reducible refine canonK_each (fun _ _ => ?_) ?_
    | dsimp only [id]
    | split
    | exact canonK_eq rfl rfl rfl)

theorem eff_rmpResume_canonK (rx : Arrival) (ss : Session) (d : Bytes) (s : State) : canonK s ((rmpRun rx ss d) s) := by
  try dsimp only
  repeat' (first
    | with_reducible exact canonK_refl _
    | (with_reducible show canonK _ (rmpRun _ _ _ _); with_reducible refine canonK_trans ?_ (rmpRun_canonK _ _ _ _))
    | with_reducible refine canonK_ite ?_ ?_
    | with_reducible refine canonK_doIf (fun _ => ?_) ?_
    | with_reducible refine canonK_each (fun _ _ => ?_) ?_
    | dsimp only [id]
    | split
    | exact canonK_eq rfl rfl rfl)

theorem eff_rmpStop_canonK (rx : Arrival) (ss : Session) (d : Bytes) (s : State) : canonK s ((rmpRun rx ss d) s) := by
  try dsimp only
  repeat' (first
    | with_reducible exact canonK_refl _
    | (with_reducible show canonK _ (rmpRun _ _ _ _); with_reducible refine canonK_trans ?_ (rmpRun_canonK _ _ _ _))
    | with_reducible refine canonK_ite ?_ ?_
    | with_reducible refine canonK_doIf (fun _ => ?_) ?_
    | with_reducible refine canonK_each (fun _ _ => ?_) ?_
    | dsimp only [id]
    | split
    | exact canonK_eq rfl rfl rfl)

theorem eff_rmpAcknowledge_canonK (rx : Arrival) (ss : Session) (d : Bytes) (s : State) : canonK s ((rmpRun rx ss d) s) := by
  try dsimp only
  repeat' (first
    | with_reducible exact canonK_refl _
    | (with_reducible show canonK _ (rmpRun _ _ _ _); with_reducible refine canonK_trans ?_ (rmpRun_canonK _ _ _ _))
    | with_reducible refine canonK_ite ?_ ?_
    | with_reducible refine canonK_doIf (fun _ => ?_) ?_
    | with_reducible refine canonK_each (fun _ _ => ?_) ?_
    | dsimp only [id]
    | split
    | exact canonK_eq rfl rfl rfl)

theorem eff_rmpReset_canonK (rx : Arrival) (ss : Session) (d : Bytes) (s : State) : canonK s ((rmpRun rx ss d) s) := by
  try dsimp only
  repeat' (first
    | with_reducible exact canonK_refl _
    | (with_reducible show canonK _ (rmpRun _ _ _ _); with_reducible refine canonK_trans ?_ (rmpRun_canonK _ _ _ _))
    | with_reducible refine canonK_ite ?_ ?_
    | with_reducible refine canonK_doIf (fun _ => ?_) ?_
    | with_reducible refine canonK_each (fun _ _ => ?_) ?_
    | dsimp only [id]
    | split
    | exact canonK_eq rfl rfl rfl)

theorem eff_resetExecute_canonK (s : State) : canonK s ((coldReset 4) s) := by
  try dsimp only
  repeat' (first
    | with_reducible exact canonK_refl _
    | (with_reducible show canonK _ (coldReset _ _); with_reducible refine canonK_trans ?_ (coldReset_canonK _ _))
    | with_reducible refine canonK_ite ?_ ?_
    | with_reducible refine canonK_doIf (fun _ => ?_) ?_
    | with_reducible refine canonK_each (fun _ _ => ?_) ?_
    | dsimp only [id]
    | split
    | exact canonK_eq rfl rfl rfl)

theorem eff_rmpYield_canonK (rx : Arrival) (ss : Session) (d : Bytes) (s : State) : canonK s ((rmpRun rx ss d) s) := by
  try dsimp only
  repeat' (first
    | with_reducible exact canonK_refl _
    | (with_reducible show canonK _ (rmpRun _ _ _ _); with_reducible refine canonK_trans ?_ (rmpRun_canonK _ _ _ _))
    | with_reducible refine canonK_ite ?_ ?_
    | with_reducible refine canonK_doIf (fun _ => ?_) ?_
    | with_reducible refine canonK_each (fun _ _ => ?_) ?_
    | dsimp only [id]
    | split
    | exact canonK_eq rfl rfl rfl)

theorem eff_rmpCommandInvalid_canonK (rx : Arrival) (ss : Session) (d : Bytes) (s : State) : canonK s ((rmpRun rx ss d) s) := by
  try dsimp only
  repeat' (first
    | with_reducible exact canonK_refl _
    | (with_reducible show canonK _ (rmpRun _ _ _ _); with_reducible refine canonK_trans ?_ (rmpRun_canonK _ _ _ _))
    | with_reducible refine canonK_ite ?_ ?_
    | with_reducible refine canonK_doIf (fun _ => ?_) ?_
    | with_reducible refine canonK_each (fun _ _ => ?_) ?_
    | dsimp only [id]
    | split
    | exact canonK_eq rfl rfl rfl)

theorem eff_tetherNzlChange_canonK (f : Bytes) (s : State) : canonK s ((tethRx 20 f tethNzlBody) s) := by
  try dsimp only
  repeat' (first
    | with_reducible exact canonK_refl _
    | (with_reducible show canonK _ (tethRx _ _ _ _); with_reducible refine canonK_trans ?_ (tethRx_canonK (fun _ _ => ?_) _ _ _))
    | (with_reducible show canonK _ (tethNzlBody _ _); with_reducible refine canonK_trans ?_ (tethNzlBody_canonK _ _))
    | with_reducible refine canonK_ite ?_ ?_
    | with_reducible refine canonK_doIf (fun _ => ?_) ?_
    | with_reducible refine canonK_each (fun _ _ => ?_) ?_
    | dsimp only [id]
    | split
    | exact canonK_eq rfl rfl rfl)

theorem eff_tetherState_canonK (f : Bytes) (s : State) : canonK s ((tethRx 12 f tethStateBody) s) := by
  try dsimp only
  repeat' (first
    | with_reducible exact canonK_refl _
    | (with_reducible show canonK _ (tethRx _ _ _ _); with_reducible refine canonK_trans ?_ (tethRx_canonK (fun _ _ => ?_) _ _ _))
    | (with_reducible show canonK _ (tethStateBody _ _); with_reducible refine canonK_trans ?_ (tethStateBody_canonK _ _))
    | with_reducible refine canonK_ite ?_ ?_
    | with_reducible refine canonK_doIf (fun _ => ?_) ?_
    | with_reducible refine canonK_each (fun _ _ => ?_) ?_
    | dsimp only [id]
    | split
    | exact canonK_eq rfl rfl rfl)

theorem eff_tetherBulk_canonK (f : Bytes) (s : State) : canonK s ((tethRx 1032 f tethBulkBody) s) := by
  try dsimp only
  repeat' (first
    | with_reducible exact canonK_refl _
    | (with_reducible show canonK _ (tethRx _ _ _ _); with_reducible refine canonK_trans ?_ (tethRx_canonK (fun _ _ => ?_) _ _ _))
    | (with_reducible show canonK _ (tethBulkBody _ _); with_reducible refine canonK_trans ?_ (tethBulkBody_canonK _ _))
    | with_reducible refine canonK_ite ?_ ?_
    | with_reducible refine canonK_doIf (fun _ => ?_) ?_
    | with_reducible refine canonK_each (fun _ _ => ?_) ?_
    | dsimp only [id]
    | split
    | exact canonK_eq rfl rfl rfl)

theorem eff_calSlewStep_canonK (t : CalTarget) (s : State) : canonK s ((slewStep t) s) := by
  try dsimp only
  repeat' (first
    | with_reducible exact canonK_refl _
    | (with_reducible show canonK _ (slewStep _ _); with_reducible refine canonK_trans ?_ (slewStep_canonK _ _))
    | with_reducible refine canonK_ite ?_ ?_
    | with_reducible refine canonK_doIf (fun _ => ?_) ?_
    | with_reducible refine canonK_each (fun _ _ => ?_) ?_
    | dsimp only [id]
    | split
    | exact canonK_eq rfl rfl rfl)

theorem eff_captureDone_canonK (s : State) : canonK s (captureDone s) := by
  try dsimp only
  repeat' (first
    | with_reducible exact canonK_refl _
    | (with_reducible show canonK _ (captureDone _); with_reducible refine canonK_trans ?_ (captureDone_canonK _))
    | with_reducible refine canonK_ite ?_ ?_
    | with_reducible refine canonK_doIf (fun _ => ?_) ?_
    | with_reducible refine canonK_each (fun _ _ => ?_) ?_
    | dsimp only [id]
    | split
    | exact canonK_eq rfl rfl rfl)

theorem eff_tapReset_canonK (s : State) : canonK s (tapReset s) := by
  try dsimp only
  repeat' (first
    | with_reducible exact canonK_refl _
    | (with_reducible show canonK _ (tapReset _); with_reducible refine canonK_trans ?_ (tapReset_canonK _))
    | with_reducible refine canonK_ite ?_ ?_
    | with_reducible refine canonK_doIf (fun _ => ?_) ?_
    | with_reducible refine canonK_each (fun _ _ => ?_) ?_
    | dsimp only [id]
    | split
    | exact canonK_eq rfl rfl rfl)

theorem eff_wpRead32_canonK (space : Fin 16) (addr : Word) (e : List Flip) (s : State) : canonK s ((wpRead space addr e) s) := by
  try dsimp only
  repeat' (first
    | with_reducible exact canonK_refl _
    | (with_reducible show canonK _ (wpRead _ _ _ _); with_reducible refine canonK_trans ?_ (wpRead_canonK _ _ _ _))
    | with_reducible refine canonK_ite ?_ ?_
    | with_reducible refine canonK_doIf (fun _ => ?_) ?_
    | with_reducible refine canonK_each (fun _ _ => ?_) ?_
    | dsimp only [id]
    | split
    | exact canonK_eq rfl rfl rfl)

theorem eff_wpWrite32_canonK (space : Fin 16) (addr : Word) (data : Word) (e : List Flip) (s : State) : canonK s ((wpWrite space addr data e) s) := by
  try dsimp only
  repeat' (first
    | with_reducible exact canonK_refl _
    | (with_reducible show canonK _ (wpWrite _ _ _ _ _); with_reducible refine canonK_trans ?_ (wpWrite_canonK _ _ _ _ _))
    | with_reducible refine canonK_ite ?_ ?_
    | with_reducible refine canonK_doIf (fun _ => ?_) ?_
    | with_reducible refine canonK_each (fun _ _ => ?_) ?_
    | dsimp only [id]
    | split
    | exact canonK_eq rfl rfl rfl)

theorem eff_wpResume_canonK (s : State) : canonK s (wpResume s) := by
  try dsimp only
  repeat' (first
    | with_reducible exact canonK_refl _
    | (with_reducible show canonK _ (wpResume _); with_reducible refine canonK_trans ?_ (wpResume_canonK _))
    | with_reducible refine canonK_ite ?_ ?_
    | with_reducible refine canonK_doIf (fun _ => ?_) ?_
    | with_reducible refine canonK_each (fun _ _ => ?_) ?_
    | dsimp only [id]
    | split
    | exact canonK_eq rfl rfl rfl)

theorem eff_wpStep_canonK (data : Word) (s : State) : canonK s ((wpStep data) s) := by
  try dsimp only
  repeat' (first
    | with_reducible exact canonK_refl _
    | (with_reducible show canonK _ (wpStep _ _); with_reducible refine canonK_trans ?_ (wpStep_canonK _ _))
    | with_reducible refine canonK_ite ?_ ?_
    | with_reducible refine canonK_doIf (fun _ => ?_) ?_
    | with_reducible refine canonK_each (fun _ _ => ?_) ?_
    | dsimp only [id]
    | split
    | exact canonK_eq rfl rfl rfl)

theorem eff_trainingSetInActive_canonK (p : Port) (s : State) : canonK s ((portLoss p 7) s) := by
  try dsimp only
  repeat' (first
    | with_reducible exact canonK_refl _
    | (with_reducible show canonK _ (portLoss _ _ _); with_reducible refine canonK_trans ?_ (portLoss_canonK _ _ _))
    | with_reducible refine canonK_ite ?_ ?_
    | with_reducible refine canonK_doIf (fun _ => ?_) ?_
    | with_reducible refine canonK_each (fun _ _ => ?_) ?_
    | dsimp only [id]
    | split
    | exact canonK_eq rfl rfl rfl)

theorem eff_codeErrorBurst_canonK (errs : Port × Nat) (s : State) : canonK s ((fun s => doIf (decide (32 ≤ errs.2)) (portLoss errs.1 7) (gulErrs errs.1 errs.2 s)) s) := by
  try dsimp only
  repeat' (first
    | with_reducible exact canonK_refl _
    | (with_reducible show canonK _ (portLoss _ _ _); with_reducible refine canonK_trans ?_ (portLoss_canonK _ _ _))
    | (with_reducible show canonK _ (gulErrs _ _ _); with_reducible refine canonK_trans ?_ (canonK_of_keeps (gulErrs_keeps _ _ _) (by decide)))
    | with_reducible refine canonK_ite ?_ ?_
    | with_reducible refine canonK_doIf (fun _ => ?_) ?_
    | with_reducible refine canonK_each (fun _ _ => ?_) ?_
    | dsimp only [id]
    | split
    | exact canonK_eq rfl rfl rfl)

end Sys2Proof.Machine
end

