-- ==== Sys2Proof/Laws/PerInstr.lean ====
section
/-! SUPPORT. The family `Outcome`: what each command can answer (its effect closed, the fault of an event that cannot occur, a refusal as
ill-formed), one lemma per constructor of `Instr`. -/

namespace Sys2Proof.Laws.Outcome

open Sys2Proof.Machine

/-- The statement of the family. -/
def Statement (i : Instr) : Prop := ∀ s, Framed s (exec i s)

theorem registerWrite (m : Master) (addr v : Word) : Statement (.registerWrite m addr v) :=
  fun _ => event_framed ..
theorem supplyLow (r : Rail) : Statement (.supplyLow r) :=
  fun _ => by
    show Framed _ (execSupplyLow r _)
    unfold execSupplyLow
    exact always_framed _ _
theorem resetAssert : Statement .resetAssert :=
  fun _ => by
    show Framed _ (execResetAssert _)
    unfold execResetAssert
    exact always_framed _ _
theorem resetRelease (bootSel : BitVec 2) (pairRole : Bool) : Statement (.resetRelease bootSel pairRole) :=
  fun _ => event_framed ..
theorem keepReset : Statement .keepReset :=
  fun _ => by
    show Framed _ (execKeepReset _)
    unfold execKeepReset
    exact always_framed _ _
theorem keepResetRelease : Statement .keepResetRelease :=
  fun _ => event_framed ..
theorem imageHeaderRead (a b : Bytes) : Statement (.imageHeaderRead a b) :=
  fun _ => formed_framed _ _ _ _ (event_framed ..)
theorem imagePass1Done (img : Bytes) : Statement (.imagePass1Done img) :=
  fun _ => event_framed ..
theorem imageRecordApply (rec : Bytes) : Statement (.imageRecordApply rec) :=
  fun _ => event_framed ..
theorem imagePass2Done (boot : BitVec 64) : Statement (.imagePass2Done boot) :=
  fun _ => formed_framed _ _ _ _ (event_framed ..)
theorem readyCriteriaMet : Statement .readyCriteriaMet :=
  fun _ => event_framed ..
theorem lanewaitExpire : Statement .lanewaitExpire :=
  fun _ => event_framed ..
theorem bootTimeout : Statement .bootTimeout :=
  fun _ => event_framed ..
theorem dramVerifyDone (res : List VerifyReads) : Statement (.dramVerifyDone res) :=
  fun _ => formed_framed _ _ _ _ (event_framed ..)
theorem fireLock : Statement .fireLock :=
  fun _ => event_framed ..
theorem fireUnlock : Statement .fireUnlock :=
  fun _ => event_framed ..
theorem otpUnlock (m : Master) (v : Word) : Statement (.otpUnlock m v) :=
  fun _ => event_framed ..
theorem otpProgram (m : Master) (slot : Fin 8) : Statement (.otpProgram m slot) :=
  fun _ => event_framed ..
theorem otpRevoke (m : Master) (slot : Fin 8) : Statement (.otpRevoke m slot) :=
  fun _ => event_framed ..
theorem otpPin (m : Master) : Statement (.otpPin m) :=
  fun _ => event_framed ..
theorem otpDone : Statement .otpDone :=
  fun _ => event_framed ..
theorem paceMeasure (measured : List Nat) : Statement (.paceMeasure measured) :=
  fun _ => formed_framed _ _ _ _ (event_framed ..)
theorem paceClr (m : Master) (v : Word) : Statement (.paceClr m v) :=
  fun _ => event_framed ..
theorem knotImmediate (m : Master) : Statement (.knotImmediate m) :=
  fun _ => event_framed ..
theorem knotMilestone (m : Master) (ms : Ms) : Statement (.knotMilestone m ms) :=
  fun _ => event_framed ..
theorem knotRoadCount (m : Master) : Statement (.knotRoadCount m) :=
  fun _ => event_framed ..
theorem knotCancel (m : Master) : Statement (.knotCancel m) :=
  fun _ => event_framed ..
theorem knotTake : Statement .knotTake :=
  fun _ => event_framed ..
theorem strandMigrate (n : Seg) : Statement (.strandMigrate n) :=
  fun _ => event_framed ..
theorem geoCheck (m : Master) (v : Word) : Statement (.geoCheck m v) :=
  fun _ => event_framed ..
theorem geoCheckDone : Statement .geoCheckDone :=
  fun _ => event_framed ..
theorem resDataAccess (m : Master) (acc : Access) : Statement (.resDataAccess m acc) :=
  fun _ => by cases acc <;> exact event_framed ..
theorem encoderEdge (ch : Enc) (a b fast more : Bool) : Statement (.encoderEdge ch a b fast more) :=
  fun _ => by
    show Framed _ (execEncoderEdge ch a b fast more _)
    unfold execEncoderEdge
    exact always_framed _ _
theorem wireDisagree (ch : Enc) (pair : EncPair) : Statement (.wireDisagree ch pair) :=
  fun _ => by
    show Framed _ (execWireDisagree ch pair _)
    unfold execWireDisagree
    exact always_framed _ _
theorem wireAgree (ch : Enc) (pair : EncPair) : Statement (.wireAgree ch pair) :=
  fun _ => by
    show Framed _ (execWireAgree ch pair _)
    unfold execWireAgree
    exact always_framed _ _
theorem encLost (cause : LostCause) : Statement (.encLost cause) :=
  fun _ => event_framed ..
theorem index (ch : Enc) (more : Bool) : Statement (.index ch more) :=
  fun _ => by
    show Framed _ (execIndex ch more _)
    unfold execIndex
    exact always_framed _ _
theorem indexArm (m : Master) (ch : Enc) (v : Word) : Statement (.indexArm m ch v) :=
  fun _ => formed_framed _ _ _ _ (event_framed ..)
theorem ssiFrameStart (ch : Enc) (dataHigh : Bool) : Statement (.ssiFrameStart ch dataHigh) :=
  fun _ => event_framed ..
theorem ssiWord (ch : Enc) (w : Word) (parity : Bool) : Statement (.ssiWord ch w parity) :=
  fun _ => event_framed ..
theorem ssiReleaseTimeout (ch : Enc) : Statement (.ssiReleaseTimeout ch) :=
  fun _ => event_framed ..
theorem observerUpdate (ch : Enc) : Statement (.observerUpdate ch) :=
  fun _ => event_framed ..
theorem ptSynthStep (ch : Enc) : Statement (.ptSynthStep ch) :=
  fun _ => event_framed ..
theorem posChannelConfig (m : Master) (ch : Enc) (v : Word) : Statement (.posChannelConfig m ch v) :=
  fun _ => event_framed ..
theorem posSnapshot (m : Master) (ch : Enc) : Statement (.posSnapshot m ch) :=
  fun _ => event_framed ..
theorem milestoneArm (m : Master) (ms : Ms) (v : Word) : Statement (.milestoneArm m ms v) :=
  fun _ => formed_framed _ _ _ _ (event_framed ..)
theorem milestoneDisarm (m : Master) (ms : Ms) (v : Word) : Statement (.milestoneDisarm m ms v) :=
  fun _ => formed_framed _ _ _ _ (event_framed ..)
theorem milestoneCmpCommit (m : Master) (ms : Ms) (v : Word) : Statement (.milestoneCmpCommit m ms v) :=
  fun _ => event_framed ..
theorem milestoneCmpRead (m : Master) (ms : Ms) : Statement (.milestoneCmpRead m ms) :=
  fun _ => event_framed ..
theorem milestoneHitRead (m : Master) (ms : Ms) : Statement (.milestoneHitRead m ms) :=
  fun _ => event_framed ..
theorem milestoneFire (ms : Ms) : Statement (.milestoneFire ms) :=
  fun _ => event_framed ..
theorem msOutPulseEnd (out : PulseOut) : Statement (.msOutPulseEnd out) :=
  fun _ => event_framed ..
theorem extSyncCapture (n : Fin 2) (rising : Bool) : Statement (.extSyncCapture n rising) :=
  fun _ => by
    show Framed _ (execExtSyncCapture n rising _)
    unfold execExtSyncCapture
    exact always_framed _ _
theorem syncCaptureRead (m : Master) (n : Fin 2) : Statement (.syncCaptureRead m n) :=
  fun _ => event_framed ..
theorem positionSample (t : Nat) : Statement (.positionSample t) :=
  fun _ => event_framed ..
theorem strike (p : Port) (cmpPs : Int) : Statement (.strike p cmpPs) :=
  fun _ => event_framed ..
theorem spoolDecodeLine (spool : Fin 64) : Statement (.spoolDecodeLine spool) :=
  fun _ => event_framed ..
theorem strandFetchIssue (n : Seg) : Statement (.strandFetchIssue n) :=
  fun _ => event_framed ..
theorem strandFetchDone (n : Seg) : Statement (.strandFetchDone n) :=
  fun _ => event_framed ..
theorem spdAdvFrame : Statement .spdAdvFrame :=
  fun _ => event_framed ..
theorem nozzleMapLine : Statement .nozzleMapLine :=
  fun _ => event_framed ..
theorem detourLaneFree (src tgt : BitVec 18) : Statement (.detourLaneFree src tgt) :=
  fun _ => event_framed ..
theorem staggerLine (n : Seg) : Statement (.staggerLine n) :=
  fun _ => event_framed ..
theorem frameBuild (p : Port) : Statement (.frameBuild p) :=
  fun _ => event_framed ..
theorem lineFrameSend (p : Port) (late : Bool) : Statement (.lineFrameSend p late) :=
  fun _ => event_framed ..
theorem towDrop (rx : Arrival) (ss : Session) (d : Bytes) : Statement (.towDrop rx ss d) :=
  fun _ => spelled_framed ..
theorem towlineReservedType (rx : Arrival) (ss : Session) (d : Bytes) : Statement (.towlineReservedType rx ss d) :=
  fun _ => spelled_framed ..
theorem layerAnnounce (rx : Arrival) (ss : Session) (d : Bytes) : Statement (.layerAnnounce rx ss d) :=
  fun _ => spelled_framed ..
theorem blockData (rx : Arrival) (ss : Session) (d : Bytes) : Statement (.blockData rx ss d) :=
  fun _ => spelled_framed ..
theorem layerClose (rx : Arrival) (ss : Session) (d : Bytes) : Statement (.layerClose rx ss d) :=
  fun _ => spelled_framed ..
theorem layerRestart (rx : Arrival) (ss : Session) (d : Bytes) : Statement (.layerRestart rx ss d) :=
  fun _ => spelled_framed ..
theorem layerRelease (rx : Arrival) (ss : Session) (d : Bytes) : Statement (.layerRelease rx ss d) :=
  fun _ => spelled_framed ..
theorem statusReq (rx : Arrival) (ss : Session) (d : Bytes) : Statement (.statusReq rx ss d) :=
  fun _ => spelled_framed ..
theorem ackTimer (layer : Word) : Statement (.ackTimer layer) :=
  fun _ => event_framed ..
theorem fragmentWritten : Statement .fragmentWritten :=
  fun _ => event_framed ..
theorem compressorStart : Statement .compressorStart :=
  fun _ => event_framed ..
theorem chainDrain (c : Fin 2) : Statement (.chainDrain c) :=
  fun _ => event_framed ..
theorem compressAbandon (c : Fin 2) : Statement (.compressAbandon c) :=
  fun _ => event_framed ..
theorem compressionComplete (c : Fin 2) : Statement (.compressionComplete c) :=
  fun _ => event_framed ..
theorem nozzleRequest (m : Master) (v : Word) : Statement (.nozzleRequest m v) :=
  fun _ => event_framed ..
theorem nozzleSwap : Statement .nozzleSwap :=
  fun _ => event_framed ..
theorem journalReadLo (m : Master) : Statement (.journalReadLo m) :=
  fun _ => event_framed ..
theorem journalReadHi (m : Master) : Statement (.journalReadHi m) :=
  fun _ => event_framed ..
theorem gateStart (m : Master) (g : Gate) : Statement (.gateStart m g) :=
  fun _ => event_framed ..
theorem gateAbortCmd (m : Master) (g : Gate) : Statement (.gateAbortCmd m g) :=
  fun _ => event_framed ..
theorem gateSweepBegin (g : Gate) : Statement (.gateSweepBegin g) :=
  fun _ => event_framed ..
theorem gateTestStrike (g : Gate) : Statement (.gateTestStrike g) :=
  fun _ => event_framed ..
theorem gateEdge (g : Gate) (at100 : Nat) : Statement (.gateEdge g at100) :=
  fun _ => by
    show Framed _ (execGateEdge g at100 _)
    unfold execGateEdge
    exact always_framed _ _
theorem gateSlotResult (g : Gate) (noise : Bool) : Statement (.gateSlotResult g noise) :=
  fun _ => event_framed ..
theorem linkAttempt (lane : RxLane) : Statement (.linkAttempt lane) :=
  fun _ => event_framed ..
theorem linkSignalDetect (lane : RxLane) : Statement (.linkSignalDetect lane) :=
  fun _ => event_framed ..
theorem linkPollDone (lane : RxLane) (seen : PollSeen) : Statement (.linkPollDone lane seen) :=
  fun _ => event_framed ..
theorem linkLockDone (lane : RxLane) (seen : LockSeen) : Statement (.linkLockDone lane seen) :=
  fun _ => event_framed ..
theorem linkTimeout (lane : RxLane) : Statement (.linkTimeout lane) :=
  fun _ => event_framed ..
theorem linkIdleDetect (lane : RxLane) : Statement (.linkIdleDetect lane) :=
  fun _ => by
    show Framed _ (execLinkIdleDetect lane _)
    unfold execLinkIdleDetect
    exact always_framed _ _
theorem gulistAck (p : Port) (f : Bytes) : Statement (.gulistAck p f) :=
  fun _ => spelled_framed ..
theorem gulistStatusRx (p : Port) (f : Bytes) : Statement (.gulistStatusRx p f) :=
  fun _ => spelled_framed ..
theorem statusTimeout (p : Port) : Statement (.statusTimeout p) :=
  fun _ => event_framed ..
theorem gulistSense (p : Port) (f : Bytes) : Statement (.gulistSense p f) :=
  fun _ => spelled_framed ..
theorem gulistFrameDiscard (p : Port) (flaws : RxFlaws) (f : Bytes) : Statement (.gulistFrameDiscard p flaws f) :=
  fun _ => spelled_framed ..
theorem cfgTimeout (p : Port) : Statement (.cfgTimeout p) :=
  fun _ => event_framed ..
theorem statusSend : Statement .statusSend :=
  fun _ => by
    show Framed _ (execStatusSend _)
    unfold execStatusSend
    exact always_framed _ _
theorem alignSend (lane : RxLane) : Statement (.alignSend lane) :=
  fun _ => event_framed ..
theorem alignMissing (p : Port) : Statement (.alignMissing p) :=
  fun _ => event_framed ..
theorem adaptFreeze (lane : RxLane) : Statement (.adaptFreeze lane) :=
  fun _ => event_framed ..
theorem gulRetrain (m : Master) (p : Port) (v : Word) : Statement (.gulRetrain m p v) :=
  fun _ => formed_framed _ _ _ _ (event_framed ..)
theorem gulPortClr (m : Master) (p : Port) (v : Word) : Statement (.gulPortClr m p v) :=
  fun _ => formed_framed _ _ _ _ (event_framed ..)
theorem hostCfgAccess (m : Master) (v : Word) : Statement (.hostCfgAccess m v) :=
  fun _ => event_framed ..
theorem eyeScanStart (m : Master) (v : Word) : Statement (.eyeScanStart m v) :=
  fun _ => event_framed ..
theorem eyeScanDone (mismatches : Nat) : Statement (.eyeScanDone mismatches) :=
  fun _ => event_framed ..
theorem camFrameStart (c : Ctx) (csifn : BitVec 16) : Statement (.camFrameStart c csifn) :=
  fun _ => event_framed ..
theorem camFrameEnd (c : Ctx) : Statement (.camFrameEnd c) :=
  fun _ => by
    show Framed _ (execCamFrameEnd c _)
    unfold execCamFrameEnd
    exact always_framed _ _
theorem camLineRx (c : Ctx) (pkt : BitVec 6 × Bytes) (crc : BitVec 16) : Statement (.camLineRx c pkt crc) :=
  fun _ => spelled_framed ..
theorem camPacketIgnored (port : Fin 4) (why : CamIgnored) : Statement (.camPacketIgnored port why) :=
  fun _ => spelled_framed ..
theorem stripeProcess : Statement .stripeProcess :=
  fun _ => event_framed ..
theorem recordWrite (c : Ctx) : Statement (.recordWrite c) :=
  fun _ => event_framed ..
theorem streakDetect (c : Ctx) : Statement (.streakDetect c) :=
  fun _ => event_framed ..
theorem recordRelease (m : Master) (c : Ctx) (v : Word) : Statement (.recordRelease m c v) :=
  fun _ => event_framed ..
theorem dramIssue (ch : Chan) (cmdBad : Bool) : Statement (.dramIssue ch cmdBad) :=
  fun _ => event_framed ..
theorem dramReadReturn (ch : Chan) (e : List Flip) : Statement (.dramReadReturn ch e) :=
  fun _ => event_framed ..
theorem refreshDue (ch : Chan) : Statement (.refreshDue ch) :=
  fun _ => event_framed ..
theorem memVerifyCmd (m : Master) (v : Word) : Statement (.memVerifyCmd m v) :=
  fun _ => event_framed ..
theorem verifySlice (ch : Chan) (got0 got1 : Bytes) : Statement (.verifySlice ch got0 got1) :=
  fun _ => event_framed ..
theorem bankRead (b : Bank) (r : Fin 4) (off len : Nat) (e : List Flip) : Statement (.bankRead b r off len e) :=
  fun _ => spelled_framed ..
theorem bankWrite (b : Bank) (r : Fin 4) (off : Nat) (data : Bytes) (e : List Flip) : Statement (.bankWrite b r off data e) :=
  fun _ => spelled_framed ..
theorem bankAdd (b : Bank) (r : Fin 4) (off : Nat) (v : Word) (e : List Flip) : Statement (.bankAdd b r off v e) :=
  fun _ => spelled_framed ..
theorem bankAddSat (b : Bank) (r : Fin 4) (off : Nat) (v : Word) (e : List Flip) : Statement (.bankAddSat b r off v e) :=
  fun _ => spelled_framed ..
theorem bankSwap (b : Bank) (r : Fin 4) (off : Nat) (v : BitVec 64) (e : List Flip) : Statement (.bankSwap b r off v e) :=
  fun _ => spelled_framed ..
theorem arbRound (inst : Fin 12) (reqs : BitVec 4) : Statement (.arbRound inst reqs) :=
  fun _ => event_framed ..
theorem axisProfileUpdate (a : Axis) : Statement (.axisProfileUpdate a) :=
  fun _ => event_framed ..
theorem microstep (a : Axis) : Statement (.microstep a) :=
  fun _ => event_framed ..
theorem chopperPhase (a : Axis) (phB : Bool) (dur sense mid : Nat) : Statement (.chopperPhase a phB dur sense mid) :=
  fun _ => event_framed ..
theorem overcurrent (a : Axis) : Statement (.overcurrent a) :=
  fun _ => event_framed ..
theorem hardLimit (a : Axis) (hi : Bool) : Statement (.hardLimit a hi) :=
  fun _ => by
    show Framed _ (execHardLimit a hi _)
    unfold execHardLimit
    exact always_framed _ _
theorem axisHoldCurrent (a : Axis) : Statement (.axisHoldCurrent a) :=
  fun _ => event_framed ..
theorem axisStandstill (a : Axis) : Statement (.axisStandstill a) :=
  fun _ => event_framed ..
theorem axisTargetWrite (m : Master) (a : Axis) (v : Word) : Statement (.axisTargetWrite m a v) :=
  fun _ => event_framed ..
theorem axisVtargetWrite (m : Master) (a : Axis) (v : Word) : Statement (.axisVtargetWrite m a v) :=
  fun _ => event_framed ..
theorem axisModeWrite (m : Master) (a : Axis) (v : Word) : Statement (.axisModeWrite m a v) :=
  fun _ => event_framed ..
theorem axisSetpos (m : Master) (a : Axis) (v : Word) : Statement (.axisSetpos m a v) :=
  fun _ => event_framed ..
theorem axisGearSchedule (m : Master) (a : Axis) (v : Word) : Statement (.axisGearSchedule m a v) :=
  fun _ => event_framed ..
theorem axisTableAccess (m : Master) (acc : Access) : Statement (.axisTableAccess m acc) :=
  fun _ => by cases acc <;> exact event_framed ..
theorem scanFrameStart : Statement .scanFrameStart :=
  fun _ => event_framed ..
theorem lampSwapRequest (m : Master) (v : Word) : Statement (.lampSwapRequest m v) :=
  fun _ => event_framed ..
theorem lbusFrameEcho (chain : Fin 2) (ret : Option (Nat × Bytes)) : Statement (.lbusFrameEcho chain ret) :=
  fun _ => event_framed ..
theorem lbusCfgWrite (m : Master) (chain : Fin 2) (v : Word) : Statement (.lbusCfgWrite m chain v) :=
  fun _ => event_framed ..
theorem lampZoneAccess (m : Master) (acc : Access) : Statement (.lampZoneAccess m acc) :=
  fun _ => by cases acc <;> exact event_framed ..
theorem lampUtblAccess (m : Master) (acc : Access) : Statement (.lampUtblAccess m acc) :=
  fun _ => by cases acc <;> exact event_framed ..
theorem netLinkUp (np : NetPort) : Statement (.netLinkUp np) :=
  fun _ => event_framed ..
theorem netLinkDown (np : NetPort) : Statement (.netLinkDown np) :=
  fun _ => event_framed ..
theorem netFrameDiscard (np : NetPort) (fr : Frame) : Statement (.netFrameDiscard np fr) :=
  fun _ => event_framed ..
theorem arpRequest (rx : Arrival) (q : NeighMsg) : Statement (.arpRequest rx q) :=
  fun _ => spelled_framed ..
theorem arpRetry (np : NetPort) : Statement (.arpRetry np) :=
  fun _ => event_framed ..
theorem arpExpire (np : NetPort) (ip : BitVec 128) : Statement (.arpExpire np ip) :=
  fun _ => event_framed ..
theorem icmpEcho (rx : Arrival) (v6 : Bool) (srcIp : BitVec 128) (srcMac : BitVec 48) (body : Bytes) : Statement (.icmpEcho rx v6 srcIp srcMac body) :=
  fun _ => spelled_framed ..
theorem ptpAnnounce (rx : Arrival) (tr : PtpTransport) (d : Bytes) : Statement (.ptpAnnounce rx tr d) :=
  fun _ => spelled_framed ..
theorem ptpSync (rx : Arrival) (tr : PtpTransport) (d : Bytes) : Statement (.ptpSync rx tr d) :=
  fun _ => spelled_framed ..
theorem ptpFollowUp (rx : Arrival) (tr : PtpTransport) (d : Bytes) : Statement (.ptpFollowUp rx tr d) :=
  fun _ => spelled_framed ..
theorem ptpDelayResp (rx : Arrival) (tr : PtpTransport) (d : Bytes) : Statement (.ptpDelayResp rx tr d) :=
  fun _ => spelled_framed ..
theorem ptpPdelayReq (rx : Arrival) (tr : PtpTransport) (d : Bytes) : Statement (.ptpPdelayReq rx tr d) :=
  fun _ => spelled_framed ..
theorem ptpPdelayResp (rx : Arrival) (tr : PtpTransport) (d : Bytes) : Statement (.ptpPdelayResp rx tr d) :=
  fun _ => spelled_framed ..
theorem ptpPdelayRespFollowUp (rx : Arrival) (tr : PtpTransport) (d : Bytes) : Statement (.ptpPdelayRespFollowUp rx tr d) :=
  fun _ => spelled_framed ..
theorem ptpIgnored (rx : Arrival) (tr : PtpTransport) (d : Bytes) : Statement (.ptpIgnored rx tr d) :=
  fun _ => formed_framed _ _ _ _ (event_framed ..)
theorem ptpDelayReqSend (dm : Dom) : Statement (.ptpDelayReqSend dm) :=
  fun _ => event_framed ..
theorem ptpPdelayReqSend (dm : Dom) : Statement (.ptpPdelayReqSend dm) :=
  fun _ => event_framed ..
theorem ptpMasterTimeout (dm : Dom) (n : Fin 4) : Statement (.ptpMasterTimeout dm n) :=
  fun _ => event_framed ..
theorem ptpFollowupTimeout (dm : Dom) : Statement (.ptpFollowupTimeout dm) :=
  fun _ => event_framed ..
theorem ptpSyncTimeout (dm : Dom) : Statement (.ptpSyncTimeout dm) :=
  fun _ => event_framed ..
theorem ptpHoldmax (dm : Dom) : Statement (.ptpHoldmax dm) :=
  fun _ => event_framed ..
theorem domainSelect (m : Master) (v : Word) : Statement (.domainSelect m v) :=
  fun _ => event_framed ..
theorem fireDiscipline (cycles : Nat) : Statement (.fireDiscipline cycles) :=
  fun _ => event_framed ..
theorem ptpSnapshot (m : Master) (sel : TimeSel) : Statement (.ptpSnapshot m sel) :=
  fun _ => event_framed ..
theorem mgmtTick (temps : List Int) (refCodes : List (BitVec 3)) : Statement (.mgmtTick temps refCodes) :=
  fun _ => formed_framed _ _ _ _ (event_framed ..)
theorem rmpDiscard (rx : Arrival) (ss : Session) (d : Bytes) : Statement (.rmpDiscard rx ss d) :=
  fun _ => formed_framed _ _ _ _ (event_framed ..)
theorem rmpUnknownType (rx : Arrival) (ss : Session) (d : Bytes) : Statement (.rmpUnknownType rx ss d) :=
  fun _ => spelled_framed ..
theorem rmpHello (rx : Arrival) (ss : Session) (d : Bytes) : Statement (.rmpHello rx ss d) :=
  fun _ => spelled_framed ..
theorem rmpRead (rx : Arrival) (ss : Session) (d : Bytes) : Statement (.rmpRead rx ss d) :=
  fun _ => spelled_framed ..
theorem rmpWrite (rx : Arrival) (ss : Session) (d : Bytes) : Statement (.rmpWrite rx ss d) :=
  fun _ => spelled_framed ..
theorem rmpSwap (rx : Arrival) (ss : Session) (d : Bytes) : Statement (.rmpSwap rx ss d) :=
  fun _ => spelled_framed ..
theorem rmpStatus (rx : Arrival) (ss : Session) (d : Bytes) : Statement (.rmpStatus rx ss d) :=
  fun _ => spelled_framed ..
theorem rmpSubscribe (rx : Arrival) (ss : Session) (d : Bytes) : Statement (.rmpSubscribe rx ss d) :=
  fun _ => spelled_framed ..
theorem subscriptionExpire (slot : Fin 4) : Statement (.subscriptionExpire slot) :=
  fun _ => event_framed ..
theorem rmpHold (rx : Arrival) (ss : Session) (d : Bytes) : Statement (.rmpHold rx ss d) :=
  fun _ => spelled_framed ..
theorem rmpResume (rx : Arrival) (ss : Session) (d : Bytes) : Statement (.rmpResume rx ss d) :=
  fun _ => spelled_framed ..
theorem rmpStop (rx : Arrival) (ss : Session) (d : Bytes) : Statement (.rmpStop rx ss d) :=
  fun _ => spelled_framed ..
theorem rmpAcknowledge (rx : Arrival) (ss : Session) (d : Bytes) : Statement (.rmpAcknowledge rx ss d) :=
  fun _ => spelled_framed ..
theorem rmpReset (rx : Arrival) (ss : Session) (d : Bytes) : Statement (.rmpReset rx ss d) :=
  fun _ => spelled_framed ..
theorem resetExecute : Statement .resetExecute :=
  fun _ => event_framed ..
theorem rmpYield (rx : Arrival) (ss : Session) (d : Bytes) : Statement (.rmpYield rx ss d) :=
  fun _ => spelled_framed ..
theorem rmpCommandInvalid (rx : Arrival) (ss : Session) (d : Bytes) : Statement (.rmpCommandInvalid rx ss d) :=
  fun _ => spelled_framed ..
theorem tetherHeartbeatSend : Statement .tetherHeartbeatSend :=
  fun _ => event_framed ..
theorem tetherHeartbeatRx (f : Bytes) : Statement (.tetherHeartbeatRx f) :=
  fun _ => spelled_framed ..
theorem netHeartbeatRx (rx : Arrival) (d : Bytes) : Statement (.netHeartbeatRx rx d) :=
  fun _ => spelled_framed ..
theorem tetherPathMiss : Statement .tetherPathMiss :=
  fun _ => event_framed ..
theorem netPathMiss : Statement .netPathMiss :=
  fun _ => event_framed ..
theorem tetherNzlChange (f : Bytes) : Statement (.tetherNzlChange f) :=
  fun _ => spelled_framed ..
theorem tetherKnotReq (f : Bytes) : Statement (.tetherKnotReq f) :=
  fun _ => spelled_framed ..
theorem tetherKnotDone (f : Bytes) : Statement (.tetherKnotDone f) :=
  fun _ => spelled_framed ..
theorem tetherState (f : Bytes) : Statement (.tetherState f) :=
  fun _ => spelled_framed ..
theorem tetherYield (f : Bytes) : Statement (.tetherYield f) :=
  fun _ => spelled_framed ..
theorem tetherBulk (f : Bytes) : Statement (.tetherBulk f) :=
  fun _ => spelled_framed ..
theorem tetherResend : Statement .tetherResend :=
  fun _ => event_framed ..
theorem tetherResync : Statement .tetherResync :=
  fun _ => event_framed ..
theorem hitchInAssert : Statement .hitchInAssert :=
  fun _ => by
    show Framed _ (execHitchInAssert _)
    unfold execHitchInAssert
    exact always_framed _ _
theorem hitchInRelease : Statement .hitchInRelease :=
  fun _ => by
    show Framed _ (execHitchInRelease _)
    unfold execHitchInRelease
    exact always_framed _ _
theorem splice : Statement .splice :=
  fun _ => event_framed ..
theorem rejoinCopyStart : Statement .rejoinCopyStart :=
  fun _ => event_framed ..
theorem coreWatchExpire : Statement .coreWatchExpire :=
  fun _ => event_framed ..
theorem keepFeedLoss (feedB : Bool) : Statement (.keepFeedLoss feedB) :=
  fun _ => by
    show Framed _ (execKeepFeedLoss feedB _)
    unfold execKeepFeedLoss
    exact always_framed _ _
theorem keepBrownout : Statement .keepBrownout :=
  fun _ => by
    show Framed _ (execKeepBrownout _)
    unfold execKeepBrownout
    exact always_framed _ _
theorem fegRotationStart (g : Fin 4) : Statement (.fegRotationStart g) :=
  fun _ => event_framed ..
theorem fegMeasureDone (gen : Fin 68) (times : FegTimes) : Statement (.fegMeasureDone gen times) :=
  fun _ => formed_framed _ _ _ _ (event_framed ..)
theorem calForce (m : Master) (v : Word) : Statement (.calForce m v) :=
  fun _ => event_framed ..
theorem cmpMeasure (c : Fin 10) : Statement (.cmpMeasure c) :=
  fun _ => event_framed ..
theorem cmpMeasureDone (c : Fin 10) (offs : List Int) : Statement (.cmpMeasureDone c offs) :=
  fun _ => formed_framed _ _ _ _ (event_framed ..)
theorem calSlewStep (t : CalTarget) : Statement (.calSlewStep t) :=
  fun _ => event_framed ..
theorem faultAck (m : Master) (v : Word) : Statement (.faultAck m v) :=
  fun _ => event_framed ..
theorem faultAckAll (m : Master) (v : Word) : Statement (.faultAckAll m v) :=
  fun _ => event_framed ..
theorem latchClear (m : Master) (v : Word) : Statement (.latchClear m v) :=
  fun _ => event_framed ..
theorem errClr (m : Master) (v : Word) : Statement (.errClr m v) :=
  fun _ => event_framed ..
theorem logEntryRead (m : Master) (sel : LogSel) : Statement (.logEntryRead m sel) :=
  fun _ => event_framed ..
theorem knotEpochRead (m : Master) : Statement (.knotEpochRead m) :=
  fun _ => event_framed ..
theorem fireLcSnapshot (m : Master) (p : Port) : Statement (.fireLcSnapshot m p) :=
  fun _ => event_framed ..
theorem captureStart (m : Master) (mask : BitVec 16) : Statement (.captureStart m mask) :=
  fun _ => event_framed ..
theorem captureClear (m : Master) : Statement (.captureClear m) :=
  fun _ => event_framed ..
theorem captureDone : Statement .captureDone :=
  fun _ => event_framed ..
theorem tapReset : Statement .tapReset :=
  fun _ => by
    show Framed _ (execTapReset _)
    unfold execTapReset
    exact always_framed _ _
theorem tapInstruction (code : BitVec 6) : Statement (.tapInstruction code) :=
  fun _ => by
    show Framed _ (execTapInstruction code _)
    unfold execTapInstruction
    exact always_framed _ _
theorem wpNop : Statement .wpNop :=
  fun _ => event_framed ..
theorem wpRead32 (space : Fin 16) (addr : Word) (e : List Flip) : Statement (.wpRead32 space addr e) :=
  fun _ => event_framed ..
theorem wpWrite32 (space : Fin 16) (addr data : Word) (e : List Flip) : Statement (.wpWrite32 space addr data e) :=
  fun _ => event_framed ..
theorem wpHalt : Statement .wpHalt :=
  fun _ => event_framed ..
theorem wpResume : Statement .wpResume :=
  fun _ => event_framed ..
theorem wpStep (data : Word) : Statement (.wpStep data) :=
  fun _ => event_framed ..
theorem wpCapture (mask : Word) : Statement (.wpCapture mask) :=
  fun _ => event_framed ..
theorem wpReservedOp (op : BitVec 4) : Statement (.wpReservedOp op) :=
  fun _ => formed_framed _ _ _ _ (event_framed ..)
theorem towCntClr (m : Master) (v : Word) : Statement (.towCntClr m v) :=
  fun _ => event_framed ..
theorem cmpCntClr (m : Master) (v : Word) : Statement (.cmpCntClr m v) :=
  fun _ => event_framed ..
theorem strCntClr (m : Master) (v : Word) : Statement (.strCntClr m v) :=
  fun _ => event_framed ..
theorem firCntClr (m : Master) (v : Word) : Statement (.firCntClr m v) :=
  fun _ => event_framed ..
theorem nzlCntClr (m : Master) (v : Word) : Statement (.nzlCntClr m v) :=
  fun _ => event_framed ..
theorem camPortClr (m : Master) (port : Fin 4) (v : Word) : Statement (.camPortClr m port v) :=
  fun _ => event_framed ..
theorem insCtxClr (m : Master) (c : Ctx) (v : Word) : Statement (.insCtxClr m c v) :=
  fun _ => event_framed ..
theorem memCntClr (m : Master) (v : Word) : Statement (.memCntClr m v) :=
  fun _ => event_framed ..
theorem bnkClr (m : Master) (b : Bank) (v : Word) : Statement (.bnkClr m b v) :=
  fun _ => event_framed ..
theorem arbClr (m : Master) (v : Word) : Statement (.arbClr m v) :=
  fun _ => event_framed ..
theorem netPortClr (m : Master) (np : NetPort) (v : Word) : Statement (.netPortClr m np v) :=
  fun _ => event_framed ..
theorem ptpDomClr (m : Master) (dm : Dom) (v : Word) : Statement (.ptpDomClr m dm v) :=
  fun _ => event_framed ..
theorem mgtCntClr (m : Master) (v : Word) : Statement (.mgtCntClr m v) :=
  fun _ => event_framed ..
theorem parCntClr (m : Master) (v : Word) : Statement (.parCntClr m v) :=
  fun _ => event_framed ..
theorem keepFeedReturn (feedB : Bool) : Statement (.keepFeedReturn feedB) :=
  fun _ => by
    show Framed _ (execKeepFeedReturn feedB _)
    unfold execKeepFeedReturn
    exact always_framed _ _
theorem symbolRealign (at_ : RxLane × Bool) : Statement (.symbolRealign at_) :=
  fun _ => by
    show Framed _ (execSymbolRealign at_ _)
    unfold execSymbolRealign
    exact always_framed _ _
theorem trainingSetInActive (p : Port) : Statement (.trainingSetInActive p) :=
  fun _ => by
    show Framed _ (execTrainingSetInActive p _)
    unfold execTrainingSetInActive
    exact always_framed _ _
theorem codeErrorBurst (errs : Port × Nat) : Statement (.codeErrorBurst errs) :=
  fun _ => by
    show Framed _ (execCodeErrorBurst errs _)
    unfold execCodeErrorBurst
    exact always_framed _ _
theorem adaptationResume (lane : RxLane) (sym : ResumeSym) : Statement (.adaptationResume lane sym) :=
  fun _ => by
    show Framed _ (execAdaptationResume lane sym _)
    unfold execAdaptationResume
    exact always_framed _ _
theorem limitInputInactive (a : Axis) (hi : Bool) : Statement (.limitInputInactive a hi) :=
  fun _ => by
    show Framed _ (execLimitInputInactive a hi _)
    unfold execLimitInputInactive
    exact always_framed _ _
theorem fegTestEdge (g : Fin 4) (cmpPs : Int) : Statement (.fegTestEdge g cmpPs) :=
  fun _ => event_framed ..

end Sys2Proof.Laws.Outcome
end

