-- ==== Sys2Proof/Laws/Exec.lean ====
section
/-! SUPPORT. What `exec` can answer for every command: the one inversion lemma over all meanings. -/

namespace Sys2Proof.Machine

/-- Every command's outcome is its effect closed, the fault of an event that cannot occur, or a refusal as ill-formed. -/
theorem exec_framed (i : Instr) (s : State) : Framed s (exec i s) := by
  cases i with
  | registerWrite m addr v => exact Sys2Proof.Laws.Outcome.registerWrite m addr v s
  | supplyLow r => exact Sys2Proof.Laws.Outcome.supplyLow r s
  | resetAssert => exact Sys2Proof.Laws.Outcome.resetAssert s
  | resetRelease bootSel pairRole => exact Sys2Proof.Laws.Outcome.resetRelease bootSel pairRole s
  | keepReset => exact Sys2Proof.Laws.Outcome.keepReset s
  | keepResetRelease => exact Sys2Proof.Laws.Outcome.keepResetRelease s
  | imageHeaderRead a b => exact Sys2Proof.Laws.Outcome.imageHeaderRead a b s
  | imagePass1Done img => exact Sys2Proof.Laws.Outcome.imagePass1Done img s
  | imageRecordApply rec => exact Sys2Proof.Laws.Outcome.imageRecordApply rec s
  | imagePass2Done boot => exact Sys2Proof.Laws.Outcome.imagePass2Done boot s
  | readyCriteriaMet => exact Sys2Proof.Laws.Outcome.readyCriteriaMet s
  | lanewaitExpire => exact Sys2Proof.Laws.Outcome.lanewaitExpire s
  | bootTimeout => exact Sys2Proof.Laws.Outcome.bootTimeout s
  | dramVerifyDone res => exact Sys2Proof.Laws.Outcome.dramVerifyDone res s
  | fireLock => exact Sys2Proof.Laws.Outcome.fireLock s
  | fireUnlock => exact Sys2Proof.Laws.Outcome.fireUnlock s
  | otpUnlock m v => exact Sys2Proof.Laws.Outcome.otpUnlock m v s
  | otpProgram m slot => exact Sys2Proof.Laws.Outcome.otpProgram m slot s
  | otpRevoke m slot => exact Sys2Proof.Laws.Outcome.otpRevoke m slot s
  | otpPin m => exact Sys2Proof.Laws.Outcome.otpPin m s
  | otpDone => exact Sys2Proof.Laws.Outcome.otpDone s
  | paceMeasure margins => exact Sys2Proof.Laws.Outcome.paceMeasure margins s
  | paceClr m v => exact Sys2Proof.Laws.Outcome.paceClr m v s
  | knotImmediate m => exact Sys2Proof.Laws.Outcome.knotImmediate m s
  | knotMilestone m ms => exact Sys2Proof.Laws.Outcome.knotMilestone m ms s
  | knotRoadCount m => exact Sys2Proof.Laws.Outcome.knotRoadCount m s
  | knotCancel m => exact Sys2Proof.Laws.Outcome.knotCancel m s
  | knotTake => exact Sys2Proof.Laws.Outcome.knotTake s
  | strandMigrate n => exact Sys2Proof.Laws.Outcome.strandMigrate n s
  | geoCheck m v => exact Sys2Proof.Laws.Outcome.geoCheck m v s
  | geoCheckDone => exact Sys2Proof.Laws.Outcome.geoCheckDone s
  | resDataAccess m acc => exact Sys2Proof.Laws.Outcome.resDataAccess m acc s
  | encoderEdge ch a b fast more => exact Sys2Proof.Laws.Outcome.encoderEdge ch a b fast more s
  | wireDisagree ch pair => exact Sys2Proof.Laws.Outcome.wireDisagree ch pair s
  | wireAgree ch pair => exact Sys2Proof.Laws.Outcome.wireAgree ch pair s
  | encLost cause => exact Sys2Proof.Laws.Outcome.encLost cause s
  | index ch more => exact Sys2Proof.Laws.Outcome.index ch more s
  | indexArm m ch v => exact Sys2Proof.Laws.Outcome.indexArm m ch v s
  | ssiFrameStart ch dataHigh => exact Sys2Proof.Laws.Outcome.ssiFrameStart ch dataHigh s
  | ssiWord ch w parity => exact Sys2Proof.Laws.Outcome.ssiWord ch w parity s
  | ssiReleaseTimeout ch => exact Sys2Proof.Laws.Outcome.ssiReleaseTimeout ch s
  | observerUpdate ch => exact Sys2Proof.Laws.Outcome.observerUpdate ch s
  | ptSynthStep ch => exact Sys2Proof.Laws.Outcome.ptSynthStep ch s
  | posChannelConfig m ch v => exact Sys2Proof.Laws.Outcome.posChannelConfig m ch v s
  | posSnapshot m ch => exact Sys2Proof.Laws.Outcome.posSnapshot m ch s
  | milestoneArm m ms v => exact Sys2Proof.Laws.Outcome.milestoneArm m ms v s
  | milestoneDisarm m ms v => exact Sys2Proof.Laws.Outcome.milestoneDisarm m ms v s
  | milestoneCmpCommit m ms v => exact Sys2Proof.Laws.Outcome.milestoneCmpCommit m ms v s
  | milestoneCmpRead m ms => exact Sys2Proof.Laws.Outcome.milestoneCmpRead m ms s
  | milestoneHitRead m ms => exact Sys2Proof.Laws.Outcome.milestoneHitRead m ms s
  | milestoneFire ms => exact Sys2Proof.Laws.Outcome.milestoneFire ms s
  | msOutPulseEnd out => exact Sys2Proof.Laws.Outcome.msOutPulseEnd out s
  | extSyncCapture n rising => exact Sys2Proof.Laws.Outcome.extSyncCapture n rising s
  | syncCaptureRead m n => exact Sys2Proof.Laws.Outcome.syncCaptureRead m n s
  | positionSample t => exact Sys2Proof.Laws.Outcome.positionSample t s
  | strike p cmpPs => exact Sys2Proof.Laws.Outcome.strike p cmpPs s
  | spoolDecodeLine spool => exact Sys2Proof.Laws.Outcome.spoolDecodeLine spool s
  | strandFetchIssue n => exact Sys2Proof.Laws.Outcome.strandFetchIssue n s
  | strandFetchDone n => exact Sys2Proof.Laws.Outcome.strandFetchDone n s
  | spdAdvFrame => exact Sys2Proof.Laws.Outcome.spdAdvFrame s
  | nozzleMapLine => exact Sys2Proof.Laws.Outcome.nozzleMapLine s
  | detourLaneFree src tgt => exact Sys2Proof.Laws.Outcome.detourLaneFree src tgt s
  | staggerLine n => exact Sys2Proof.Laws.Outcome.staggerLine n s
  | frameBuild p => exact Sys2Proof.Laws.Outcome.frameBuild p s
  | lineFrameSend p late => exact Sys2Proof.Laws.Outcome.lineFrameSend p late s
  | towDrop np ss d => exact Sys2Proof.Laws.Outcome.towDrop np ss d s
  | towlineReservedType np ss d => exact Sys2Proof.Laws.Outcome.towlineReservedType np ss d s
  | layerAnnounce np ss d => exact Sys2Proof.Laws.Outcome.layerAnnounce np ss d s
  | blockData np ss d => exact Sys2Proof.Laws.Outcome.blockData np ss d s
  | layerClose np ss d => exact Sys2Proof.Laws.Outcome.layerClose np ss d s
  | layerRestart np ss d => exact Sys2Proof.Laws.Outcome.layerRestart np ss d s
  | layerRelease np ss d => exact Sys2Proof.Laws.Outcome.layerRelease np ss d s
  | statusReq np ss d => exact Sys2Proof.Laws.Outcome.statusReq np ss d s
  | ackTimer layer => exact Sys2Proof.Laws.Outcome.ackTimer layer s
  | fragmentWritten => exact Sys2Proof.Laws.Outcome.fragmentWritten s
  | compressorStart => exact Sys2Proof.Laws.Outcome.compressorStart s
  | chainDrain c => exact Sys2Proof.Laws.Outcome.chainDrain c s
  | compressAbandon c => exact Sys2Proof.Laws.Outcome.compressAbandon c s
  | compressionComplete c => exact Sys2Proof.Laws.Outcome.compressionComplete c s
  | nozzleRequest m v => exact Sys2Proof.Laws.Outcome.nozzleRequest m v s
  | nozzleSwap => exact Sys2Proof.Laws.Outcome.nozzleSwap s
  | journalReadLo m => exact Sys2Proof.Laws.Outcome.journalReadLo m s
  | journalReadHi m => exact Sys2Proof.Laws.Outcome.journalReadHi m s
  | gateStart m g => exact Sys2Proof.Laws.Outcome.gateStart m g s
  | gateAbortCmd m g => exact Sys2Proof.Laws.Outcome.gateAbortCmd m g s
  | gateSweepBegin g => exact Sys2Proof.Laws.Outcome.gateSweepBegin g s
  | gateTestStrike g => exact Sys2Proof.Laws.Outcome.gateTestStrike g s
  | gateEdge g at100 => exact Sys2Proof.Laws.Outcome.gateEdge g at100 s
  | gateSlotResult g noise => exact Sys2Proof.Laws.Outcome.gateSlotResult g noise s
  | linkAttempt lane => exact Sys2Proof.Laws.Outcome.linkAttempt lane s
  | linkSignalDetect lane => exact Sys2Proof.Laws.Outcome.linkSignalDetect lane s
  | linkPollDone lane inverted => exact Sys2Proof.Laws.Outcome.linkPollDone lane inverted s
  | linkLockDone lane skew => exact Sys2Proof.Laws.Outcome.linkLockDone lane skew s
  | linkTimeout lane => exact Sys2Proof.Laws.Outcome.linkTimeout lane s
  | linkIdleDetect lane => exact Sys2Proof.Laws.Outcome.linkIdleDetect lane s
  | gulistAck p f => exact Sys2Proof.Laws.Outcome.gulistAck p f s
  | gulistStatusRx p f => exact Sys2Proof.Laws.Outcome.gulistStatusRx p f s
  | statusTimeout p => exact Sys2Proof.Laws.Outcome.statusTimeout p s
  | gulistSense p f => exact Sys2Proof.Laws.Outcome.gulistSense p f s
  | gulistFrameDiscard p codeErr f => exact Sys2Proof.Laws.Outcome.gulistFrameDiscard p codeErr f s
  | cfgTimeout p => exact Sys2Proof.Laws.Outcome.cfgTimeout p s
  | statusSend => exact Sys2Proof.Laws.Outcome.statusSend s
  | alignSend lane => exact Sys2Proof.Laws.Outcome.alignSend lane s
  | alignMissing p => exact Sys2Proof.Laws.Outcome.alignMissing p s
  | adaptFreeze lane => exact Sys2Proof.Laws.Outcome.adaptFreeze lane s
  | gulRetrain m p v => exact Sys2Proof.Laws.Outcome.gulRetrain m p v s
  | gulPortClr m p v => exact Sys2Proof.Laws.Outcome.gulPortClr m p v s
  | hostCfgAccess m v => exact Sys2Proof.Laws.Outcome.hostCfgAccess m v s
  | eyeScanStart m v => exact Sys2Proof.Laws.Outcome.eyeScanStart m v s
  | eyeScanDone mismatches => exact Sys2Proof.Laws.Outcome.eyeScanDone mismatches s
  | camFrameStart c csifn => exact Sys2Proof.Laws.Outcome.camFrameStart c csifn s
  | camFrameEnd c => exact Sys2Proof.Laws.Outcome.camFrameEnd c s
  | camLineRx c payload crcOk => exact Sys2Proof.Laws.Outcome.camLineRx c payload crcOk s
  | camPacketIgnored port why => exact Sys2Proof.Laws.Outcome.camPacketIgnored port why s
  | stripeProcess => exact Sys2Proof.Laws.Outcome.stripeProcess s
  | recordWrite c => exact Sys2Proof.Laws.Outcome.recordWrite c s
  | streakDetect c => exact Sys2Proof.Laws.Outcome.streakDetect c s
  | recordRelease m c v => exact Sys2Proof.Laws.Outcome.recordRelease m c v s
  | dramIssue ch cmdBad => exact Sys2Proof.Laws.Outcome.dramIssue ch cmdBad s
  | dramReadReturn ch e => exact Sys2Proof.Laws.Outcome.dramReadReturn ch e s
  | refreshDue ch => exact Sys2Proof.Laws.Outcome.refreshDue ch s
  | memVerifyCmd m v => exact Sys2Proof.Laws.Outcome.memVerifyCmd m v s
  | verifySlice ch pass0 pass1 => exact Sys2Proof.Laws.Outcome.verifySlice ch pass0 pass1 s
  | bankRead b r off len e => exact Sys2Proof.Laws.Outcome.bankRead b r off len e s
  | bankWrite b r off data e => exact Sys2Proof.Laws.Outcome.bankWrite b r off data e s
  | bankAdd b r off v e => exact Sys2Proof.Laws.Outcome.bankAdd b r off v e s
  | bankAddSat b r off v e => exact Sys2Proof.Laws.Outcome.bankAddSat b r off v e s
  | bankSwap b r off v e => exact Sys2Proof.Laws.Outcome.bankSwap b r off v e s
  | arbRound inst reqs => exact Sys2Proof.Laws.Outcome.arbRound inst reqs s
  | axisProfileUpdate a => exact Sys2Proof.Laws.Outcome.axisProfileUpdate a s
  | microstep a => exact Sys2Proof.Laws.Outcome.microstep a s
  | chopperPhase a phB dur short probe => exact Sys2Proof.Laws.Outcome.chopperPhase a phB dur short probe s
  | overcurrent a => exact Sys2Proof.Laws.Outcome.overcurrent a s
  | hardLimit a hi => exact Sys2Proof.Laws.Outcome.hardLimit a hi s
  | axisHoldCurrent a => exact Sys2Proof.Laws.Outcome.axisHoldCurrent a s
  | axisStandstill a => exact Sys2Proof.Laws.Outcome.axisStandstill a s
  | axisTargetWrite m a v => exact Sys2Proof.Laws.Outcome.axisTargetWrite m a v s
  | axisVtargetWrite m a v => exact Sys2Proof.Laws.Outcome.axisVtargetWrite m a v s
  | axisModeWrite m a v => exact Sys2Proof.Laws.Outcome.axisModeWrite m a v s
  | axisSetpos m a v => exact Sys2Proof.Laws.Outcome.axisSetpos m a v s
  | axisGearSchedule m a v => exact Sys2Proof.Laws.Outcome.axisGearSchedule m a v s
  | axisTableAccess m acc => exact Sys2Proof.Laws.Outcome.axisTableAccess m acc s
  | scanFrameStart => exact Sys2Proof.Laws.Outcome.scanFrameStart s
  | lampSwapRequest m v => exact Sys2Proof.Laws.Outcome.lampSwapRequest m v s
  | lbusFrameEcho chain ret => exact Sys2Proof.Laws.Outcome.lbusFrameEcho chain ret s
  | lbusCfgWrite m chain v => exact Sys2Proof.Laws.Outcome.lbusCfgWrite m chain v s
  | lampZoneAccess m acc => exact Sys2Proof.Laws.Outcome.lampZoneAccess m acc s
  | lampUtblAccess m acc => exact Sys2Proof.Laws.Outcome.lampUtblAccess m acc s
  | netLinkUp np => exact Sys2Proof.Laws.Outcome.netLinkUp np s
  | netLinkDown np => exact Sys2Proof.Laws.Outcome.netLinkDown np s
  | netFrameDiscard np why => exact Sys2Proof.Laws.Outcome.netFrameDiscard np why s
  | arpRequest np q => exact Sys2Proof.Laws.Outcome.arpRequest np q s
  | arpRetry np => exact Sys2Proof.Laws.Outcome.arpRetry np s
  | arpExpire np ip => exact Sys2Proof.Laws.Outcome.arpExpire np ip s
  | icmpEcho np v6 srcIp srcMac body => exact Sys2Proof.Laws.Outcome.icmpEcho np v6 srcIp srcMac body s
  | ptpAnnounce np tr d => exact Sys2Proof.Laws.Outcome.ptpAnnounce np tr d s
  | ptpSync np tr d => exact Sys2Proof.Laws.Outcome.ptpSync np tr d s
  | ptpFollowUp np tr d => exact Sys2Proof.Laws.Outcome.ptpFollowUp np tr d s
  | ptpDelayResp np tr d => exact Sys2Proof.Laws.Outcome.ptpDelayResp np tr d s
  | ptpPdelayReq np tr d => exact Sys2Proof.Laws.Outcome.ptpPdelayReq np tr d s
  | ptpPdelayResp np tr d => exact Sys2Proof.Laws.Outcome.ptpPdelayResp np tr d s
  | ptpPdelayRespFollowUp np tr d => exact Sys2Proof.Laws.Outcome.ptpPdelayRespFollowUp np tr d s
  | ptpIgnored np tr d => exact Sys2Proof.Laws.Outcome.ptpIgnored np tr d s
  | ptpDelayReqSend dm => exact Sys2Proof.Laws.Outcome.ptpDelayReqSend dm s
  | ptpPdelayReqSend dm => exact Sys2Proof.Laws.Outcome.ptpPdelayReqSend dm s
  | ptpMasterTimeout dm n => exact Sys2Proof.Laws.Outcome.ptpMasterTimeout dm n s
  | ptpFollowupTimeout dm => exact Sys2Proof.Laws.Outcome.ptpFollowupTimeout dm s
  | ptpSyncTimeout dm => exact Sys2Proof.Laws.Outcome.ptpSyncTimeout dm s
  | ptpHoldmax dm => exact Sys2Proof.Laws.Outcome.ptpHoldmax dm s
  | domainSelect m v => exact Sys2Proof.Laws.Outcome.domainSelect m v s
  | fireDiscipline cycles => exact Sys2Proof.Laws.Outcome.fireDiscipline cycles s
  | ptpSnapshot m sel => exact Sys2Proof.Laws.Outcome.ptpSnapshot m sel s
  | mgmtTick temps refCodes => exact Sys2Proof.Laws.Outcome.mgmtTick temps refCodes s
  | rmpDiscard np ss d => exact Sys2Proof.Laws.Outcome.rmpDiscard np ss d s
  | rmpUnknownType np ss d => exact Sys2Proof.Laws.Outcome.rmpUnknownType np ss d s
  | rmpHello np ss d => exact Sys2Proof.Laws.Outcome.rmpHello np ss d s
  | rmpRead np ss d => exact Sys2Proof.Laws.Outcome.rmpRead np ss d s
  | rmpWrite np ss d => exact Sys2Proof.Laws.Outcome.rmpWrite np ss d s
  | rmpSwap np ss d => exact Sys2Proof.Laws.Outcome.rmpSwap np ss d s
  | rmpStatus np ss d => exact Sys2Proof.Laws.Outcome.rmpStatus np ss d s
  | rmpSubscribe np ss d => exact Sys2Proof.Laws.Outcome.rmpSubscribe np ss d s
  | subscriptionExpire slot => exact Sys2Proof.Laws.Outcome.subscriptionExpire slot s
  | rmpHold np ss d => exact Sys2Proof.Laws.Outcome.rmpHold np ss d s
  | rmpResume np ss d => exact Sys2Proof.Laws.Outcome.rmpResume np ss d s
  | rmpStop np ss d => exact Sys2Proof.Laws.Outcome.rmpStop np ss d s
  | rmpAcknowledge np ss d => exact Sys2Proof.Laws.Outcome.rmpAcknowledge np ss d s
  | rmpReset np ss d => exact Sys2Proof.Laws.Outcome.rmpReset np ss d s
  | resetExecute => exact Sys2Proof.Laws.Outcome.resetExecute s
  | rmpYield np ss d => exact Sys2Proof.Laws.Outcome.rmpYield np ss d s
  | rmpCommandInvalid np ss d => exact Sys2Proof.Laws.Outcome.rmpCommandInvalid np ss d s
  | tetherHeartbeatSend => exact Sys2Proof.Laws.Outcome.tetherHeartbeatSend s
  | tetherHeartbeatRx f => exact Sys2Proof.Laws.Outcome.tetherHeartbeatRx f s
  | netHeartbeatRx np d => exact Sys2Proof.Laws.Outcome.netHeartbeatRx np d s
  | tetherPathMiss => exact Sys2Proof.Laws.Outcome.tetherPathMiss s
  | netPathMiss => exact Sys2Proof.Laws.Outcome.netPathMiss s
  | tetherNzlChange f => exact Sys2Proof.Laws.Outcome.tetherNzlChange f s
  | tetherKnotReq f => exact Sys2Proof.Laws.Outcome.tetherKnotReq f s
  | tetherKnotDone f => exact Sys2Proof.Laws.Outcome.tetherKnotDone f s
  | tetherState f => exact Sys2Proof.Laws.Outcome.tetherState f s
  | tetherYield f => exact Sys2Proof.Laws.Outcome.tetherYield f s
  | tetherBulk f => exact Sys2Proof.Laws.Outcome.tetherBulk f s
  | tetherResend => exact Sys2Proof.Laws.Outcome.tetherResend s
  | tetherResync => exact Sys2Proof.Laws.Outcome.tetherResync s
  | hitchInAssert => exact Sys2Proof.Laws.Outcome.hitchInAssert s
  | hitchInRelease => exact Sys2Proof.Laws.Outcome.hitchInRelease s
  | splice => exact Sys2Proof.Laws.Outcome.splice s
  | rejoinCopyStart => exact Sys2Proof.Laws.Outcome.rejoinCopyStart s
  | coreWatchExpire => exact Sys2Proof.Laws.Outcome.coreWatchExpire s
  | keepFeedLoss feedB => exact Sys2Proof.Laws.Outcome.keepFeedLoss feedB s
  | keepBrownout => exact Sys2Proof.Laws.Outcome.keepBrownout s
  | fegRotationStart g => exact Sys2Proof.Laws.Outcome.fegRotationStart g s
  | fegMeasureDone gen res => exact Sys2Proof.Laws.Outcome.fegMeasureDone gen res s
  | calForce m v => exact Sys2Proof.Laws.Outcome.calForce m v s
  | cmpMeasure c => exact Sys2Proof.Laws.Outcome.cmpMeasure c s
  | cmpMeasureDone c res => exact Sys2Proof.Laws.Outcome.cmpMeasureDone c res s
  | calSlewStep t => exact Sys2Proof.Laws.Outcome.calSlewStep t s
  | faultAck m v => exact Sys2Proof.Laws.Outcome.faultAck m v s
  | faultAckAll m v => exact Sys2Proof.Laws.Outcome.faultAckAll m v s
  | latchClear m v => exact Sys2Proof.Laws.Outcome.latchClear m v s
  | errClr m v => exact Sys2Proof.Laws.Outcome.errClr m v s
  | logEntryRead m sel => exact Sys2Proof.Laws.Outcome.logEntryRead m sel s
  | knotEpochRead m => exact Sys2Proof.Laws.Outcome.knotEpochRead m s
  | fireLcSnapshot m p => exact Sys2Proof.Laws.Outcome.fireLcSnapshot m p s
  | captureStart m mask => exact Sys2Proof.Laws.Outcome.captureStart m mask s
  | captureClear m => exact Sys2Proof.Laws.Outcome.captureClear m s
  | captureDone => exact Sys2Proof.Laws.Outcome.captureDone s
  | tapReset => exact Sys2Proof.Laws.Outcome.tapReset s
  | tapInstruction code => exact Sys2Proof.Laws.Outcome.tapInstruction code s
  | wpNop => exact Sys2Proof.Laws.Outcome.wpNop s
  | wpRead32 space addr e => exact Sys2Proof.Laws.Outcome.wpRead32 space addr e s
  | wpWrite32 space addr data e => exact Sys2Proof.Laws.Outcome.wpWrite32 space addr data e s
  | wpHalt => exact Sys2Proof.Laws.Outcome.wpHalt s
  | wpResume => exact Sys2Proof.Laws.Outcome.wpResume s
  | wpStep data => exact Sys2Proof.Laws.Outcome.wpStep data s
  | wpCapture mask => exact Sys2Proof.Laws.Outcome.wpCapture mask s
  | wpReservedOp op => exact Sys2Proof.Laws.Outcome.wpReservedOp op s
  | towCntClr m v => exact Sys2Proof.Laws.Outcome.towCntClr m v s
  | cmpCntClr m v => exact Sys2Proof.Laws.Outcome.cmpCntClr m v s
  | strCntClr m v => exact Sys2Proof.Laws.Outcome.strCntClr m v s
  | firCntClr m v => exact Sys2Proof.Laws.Outcome.firCntClr m v s
  | nzlCntClr m v => exact Sys2Proof.Laws.Outcome.nzlCntClr m v s
  | camPortClr m port v => exact Sys2Proof.Laws.Outcome.camPortClr m port v s
  | insCtxClr m c v => exact Sys2Proof.Laws.Outcome.insCtxClr m c v s
  | memCntClr m v => exact Sys2Proof.Laws.Outcome.memCntClr m v s
  | bnkClr m b v => exact Sys2Proof.Laws.Outcome.bnkClr m b v s
  | arbClr m v => exact Sys2Proof.Laws.Outcome.arbClr m v s
  | netPortClr m np v => exact Sys2Proof.Laws.Outcome.netPortClr m np v s
  | ptpDomClr m dm v => exact Sys2Proof.Laws.Outcome.ptpDomClr m dm v s
  | mgtCntClr m v => exact Sys2Proof.Laws.Outcome.mgtCntClr m v s
  | parCntClr m v => exact Sys2Proof.Laws.Outcome.parCntClr m v s
  | keepFeedReturn feedB => exact Sys2Proof.Laws.Outcome.keepFeedReturn feedB s
  | symbolRealign lane => exact Sys2Proof.Laws.Outcome.symbolRealign lane s
  | trainingSetInActive p => exact Sys2Proof.Laws.Outcome.trainingSetInActive p s
  | codeErrorBurst p => exact Sys2Proof.Laws.Outcome.codeErrorBurst p s
  | adaptationResume lane sym => exact Sys2Proof.Laws.Outcome.adaptationResume lane sym s
  | limitInputInactive a hi => exact Sys2Proof.Laws.Outcome.limitInputInactive a hi s
  | fegTestEdge g cmpPs => exact Sys2Proof.Laws.Outcome.fegTestEdge g cmpPs s

/-- What a command that answers a next state did: some effect, closed. -/
theorem exec_next {i : Instr} {s t : State} (h : exec i s = .next t) :
    ∃ f : State → State, t = closeCmd s (f { s with outbox := [] }) :=
  framed_next (h ▸ exec_framed i s)

end Sys2Proof.Machine
end

