-- ==== Sys2Proof/Laws/Frame.lean ====
section
/-! SUPPORT. From a command's effect to its next state: what closing a command keeps (R483), by how grave the errors are that it
finds, and register accesses that are accepted. -/

namespace Sys2Proof.Machine

@[simp] theorem closeCmd_now (s t : State) : (closeCmd s t).now = t.now := flush_now t
@[simp] theorem closeCmd_free (s t : State) : (closeCmd s t).free = t.free := flush_free t
@[simp] theorem closeCmd_act (s t : State) : (closeCmd s t).act = t.act := flush_act t
@[simp] theorem closeCmd_cap (s t : State) : (closeCmd s t).cap = t.cap := flush_cap t
@[simp] theorem closeCmd_dbg (s t : State) : (closeCmd s t).dbg = t.dbg := flush_dbg t
@[simp] theorem closeCmd_keep (s t : State) : (closeCmd s t).keep = t.keep := flush_keep t
@[simp] theorem closeCmd_net (s t : State) : (closeCmd s t).net = t.net := flush_net t
@[simp] theorem closeCmd_netId (s t : State) : (closeCmd s t).netId = t.netId := flush_netId t
@[simp] theorem closeCmd_ptp (s t : State) : (closeCmd s t).ptp = t.ptp := flush_ptp t
@[simp] theorem closeCmd_tow (s t : State) : (closeCmd s t).tow = t.tow := flush_tow t
@[simp] theorem closeCmd_plc (s t : State) : (closeCmd s t).plc = t.plc := flush_plc t
@[simp] theorem closeCmd_cmp (s t : State) : (closeCmd s t).cmp = t.cmp := flush_cmp t
@[simp] theorem closeCmd_str (s t : State) : (closeCmd s t).str = t.str := flush_str t
@[simp] theorem closeCmd_pos (s t : State) : (closeCmd s t).pos = t.pos := flush_pos t
@[simp] theorem closeCmd_mil (s t : State) : (closeCmd s t).mil = t.mil := flush_mil t
@[simp] theorem closeCmd_stg (s t : State) : (closeCmd s t).stg = t.stg := flush_stg t
@[simp] theorem closeCmd_nzl (s t : State) : (closeCmd s t).nzl = t.nzl := flush_nzl t
@[simp] theorem closeCmd_gul (s t : State) : (closeCmd s t).gul = t.gul := flush_gul t
@[simp] theorem closeCmd_insp (s t : State) : (closeCmd s t).insp = t.insp := flush_insp t
@[simp] theorem closeCmd_mem (s t : State) : (closeCmd s t).mem = t.mem := flush_mem t

/-- Fuses that the effect itself keeps stay as they were; the rest of the CFG block is the effect's. -/
theorem closeCmd_cfg (s t : State) (h : t.cfg = s.cfg) : (closeCmd s t).cfg = s.cfg := by
  simp [closeCmd, h]

/-- What logging may change, whatever was found (R483, R36, R11). -/
def logParts : List Part := [.sys, .err, .mgt, .fir, .gat, .axs, .lmp, .par, .cal]

/-- Closing a command adds nothing to the parts it changes but what logging may change. -/
theorem closeCmd_keeps_log {ps : List Part} {s t : State} (h : keepsBut ps s t) : keepsBut (ps ++ logParts) s (closeCmd s t) := by
  intro p hp
  have h1 : p ∉ ps := fun m => hp (List.mem_append_left _ m)
  have h2 : p ∉ logParts := fun m => hp (List.mem_append_right _ m)
  have h3 := h p h1
  by_cases hc : p = .cfg
  · subst hc; exact closeCmd_cfg s t h3
  · have h4 : p ∈ logKeeps := by revert h2; cases p <;> decide
    have h5 := flush_logSame t p h4
    have h6 : p.same (flush t) (closeCmd s t) := by cases p <;> first | rfl | exact absurd rfl hc
    exact Part.same_trans h3 (Part.same_trans h5 h6)

/-- A command that finds at most Notices and Faults adds the error logger and the subscribers' queues. -/
theorem closeCmd_keeps_calm {ps : List Part} {s t : State} (h : keepsBut ps s t)
    (hf : ∀ x ∈ t.err.found, x.cls = .notice ∨ x.cls = .fault) : keepsBut (.err :: .mgt :: ps) s (closeCmd s t) := by
  intro p hp
  have h1 : p ∉ ps := fun m => hp (by simp [m])
  have h3 := h p h1
  obtain ⟨e, m, he⟩ := flush_calm t hf
  by_cases hc : p = .cfg
  · subst hc; exact closeCmd_cfg s t h3
  · have h5 : p.same t (flush t) := by
      rw [he]; cases p <;> first | rfl | exact absurd (by simp) hp
    have h6 : p.same (flush t) (closeCmd s t) := by cases p <;> first | rfl | exact absurd rfl hc
    exact Part.same_trans h3 (Part.same_trans h5 h6)

/-- A command that finds nothing, in a device that is not Cold, adds nothing. -/
theorem closeCmd_keeps_quiet {ps : List Part} {s t : State} (h : keepsBut ps s t) (hf : t.err.found = []) (hc : t.sys.st ≠ .cold) :
    keepsBut ps s (closeCmd s t) := by
  intro p hp
  have h3 := h p hp
  by_cases hg : p = .cfg
  · subst hg; exact closeCmd_cfg s t h3
  · have h6 : p.same t (closeCmd s t) := by
      unfold closeCmd; rw [flush_quiet t hf hc]
      cases p <;> first | rfl | exact absurd rfl hg
    exact Part.same_trans h3 h6

/-- A command that finds nothing adds the error logger. -/
theorem closeCmd_keeps_nil {ps : List Part} {s t : State} (h : keepsBut ps s t) (hf : t.err.found = []) :
    keepsBut (.err :: ps) s (closeCmd s t) := by
  intro p hp
  have h1 : p ∉ ps := fun m => hp (by simp [m])
  have h3 := h p h1
  obtain ⟨e, he⟩ := flush_nil t hf
  by_cases hg : p = .cfg
  · subst hg; exact closeCmd_cfg s t h3
  · have h5 : p.same t (flush t) := by
      rw [he]; cases p <;> first | rfl | exact absurd (by simp) hp
    have h6 : p.same (flush t) (closeCmd s t) := by cases p <;> first | rfl | exact absurd rfl hg
    exact Part.same_trans h3 (Part.same_trans h5 h6)

/-- The effect starts from the state with an empty outbox, which is the same but for it. -/
theorem keepsBut_outbox {ps : List Part} {s t : State} (h : keepsBut ps { s with outbox := [] } t) : keepsBut ps s t :=
  fun p hp => by have := h p hp; cases p <;> exact this

/-- Nothing is found by an effect that leaves the error logger of a settled state alone. -/
theorem found_nil {ps : List Part} {s t : State} (hs : s.settled = true) (h : keepsBut ps s t) (hp : .err ∉ ps) : t.err.found = [] := by
  have h1 : t.err = s.err := h .err hp
  rw [h1]; simpa [State.settled] using hs

/-- What a settled state finds is what the effect finds. -/
theorem found_calm {s t : State} (hs : s.settled = true) (h : calm { s with outbox := [] } t) :
    ∀ x ∈ t.err.found, x.cls = .notice ∨ x.cls = .fault := by
  intro x hx
  rcases h x hx with h1 | h1
  · have : s.err.found = [] := by simpa [State.settled] using hs
    exact absurd (this ▸ h1 : x ∈ ([] : List ErrEv)) (by simp)
  · exact h1

/-- An effect that leaves the device state alone keeps the device out of Cold. -/
theorem not_cold {ps : List Part} {s t : State} (hc : s.sys.st ≠ .cold) (h : keepsBut ps s t) (hp : .sys ∉ ps) : t.sys.st ≠ .cold := by
  have h1 : t.sys = s.sys := h .sys hp
  rw [h1]; exact hc

/-- A device that a master reaches is not Cold. -/
theorem reaches_not_cold {m : Master} {s : State} (h : reaches m s = true) : s.sys.st ≠ .cold := by
  intro hc
  cases m <;> simp [reaches, awake, hc] at h

theorem reaches_here {m : Master} {s : State} (h : reaches m s = true) : masterHere m s = true := by
  cases m <;> simp_all [reaches, masterHere]

/-- An accepted write of a register that is a command, by a master that reaches it (R511). -/
theorem writeCmdAt_took (name : String) {m : Master} {a : Nat} {v : Word} {s u : State} (hm : reaches m s = true) (ha : a % 4 = 0)
    (hb : a < 0x1C0000) (h1 : a / 0x10000 ≠ 1) (hk : heldAtReset a s = false)
    (hw : writeCmd false a v { s with outbox := [] } = some (u, true)) :
    writeCmdAt name m a v s = .next (closeCmd s (emit (.access m .ok v) u)) := by
  have hr : regWrite false a v { s with outbox := [] } = (u, true) := by
    unfold regWrite
    rw [if_neg (by show ¬(heldAtReset a s = true); simp [hk])]
    simp only [otpGate, hw, h1, if_false]
  have h28 : (a / 0x10000 == 28) = false := by simp; omega
  have ho : ¬(a % 4 ≠ 0 ∨ regOutside a = true) := by simp [ha, regOutside]; omega
  unfold writeCmdAt event
  rw [if_pos (reaches_here hm)]
  unfold always accWrite masterWrite
  cases m with
  | image => simp [reaches] at hm
  | rmp => simp only [h28, ho, hr, if_false, Bool.false_and, Bool.false_eq_true, if_true]
  | waypost =>
    have hc : s.sys.st ≠ .cold := reaches_not_cold hm
    have hwb : wpBarred { s with outbox := [] } = false := by
      simp only [reaches, awake, Bool.and_eq_true] at hm
      unfold wpBarred
      simp only [inPrint] at hm ⊢
      cases hst : s.sys.st <;> simp_all
    simp only [h28, ho, hr, hc, hwb, if_false, Bool.false_and, Bool.false_eq_true, if_true, false_and]

/-- A write that the register's rule refuses, by RMP: the Notices it finds, and the answer (R511). -/
theorem writeCmdAt_denied (name : String) {a : Nat} {v : Word} {s u : State} (hm : awake s = true) (ha : a % 4 = 0)
    (hb : a < 0x1C0000) (h1 : a / 0x10000 ≠ 1) (hk : heldAtReset a s = false)
    (hw : writeCmd false a v { s with outbox := [] } = some (u, false)) :
    writeCmdAt name .rmp a v s = .next (closeCmd s (emit (.access .rmp .refused v) u)) := by
  have hr : regWrite false a v { s with outbox := [] } = (u, false) := by
    unfold regWrite
    rw [if_neg (by show ¬(heldAtReset a s = true); simp [hk])]
    simp only [otpGate, hw, h1, if_false]
  have h28 : (a / 0x10000 == 28) = false := by simp; omega
  have ho : ¬(a % 4 ≠ 0 ∨ regOutside a = true) := by simp [ha, regOutside]; omega
  unfold writeCmdAt event
  rw [if_pos (show masterHere .rmp s = true from hm)]
  unfold always accWrite masterWrite
  simp only [h28, ho, hr, if_false, Bool.false_and, Bool.false_eq_true]

/-- A read by a master that reaches the register (R514). -/
theorem readCmdAt_ok (name : String) {m : Master} {a : Nat} {s : State} (hm : reaches m s = true) (ha : a % 4 = 0) (hb : a < 0x1D0000) :
    readCmdAt name m a s
      = .next (closeCmd s (emit (.access m .ok (regRead a { s with outbox := [] })) (readEffect a { s with outbox := [] }))) := by
  have hc : s.sys.st ≠ .cold := reaches_not_cold hm
  have ho : ¬(a % 4 ≠ 0 ∨ regOutside a = true) := by simp [ha, regOutside]; omega
  have hi : m ≠ .image := by intro h; subst h; simp [reaches] at hm
  unfold readCmdAt event
  rw [if_pos (by simp [reaches_here hm, hi])]
  unfold always accRead masterRead
  simp only [ho, hc, if_false, false_and]

/-- One error found is one error logged (R483). -/
theorem flush_one {s : State} {x : ErrEv} (hf : s.err.found = [x]) (hc : s.sys.st ≠ .cold) :
    flush s = logOne x (mErr (fun e => { e with found := [] }) s) := by
  unfold flush
  rw [if_neg hc, hf]
  rfl

theorem setDev_err (n : DevState) (s : State) : (setDev n s).err = s.err := by unfold setDev; split <;> rfl

/-- Entry to Faulted leaves the error logger alone. -/
theorem enterFaulted_err (s : State) : (enterFaulted s).err = s.err := by
  have h := enterFaulted_keeps s
  exact h .err (by decide)

/-- Entry to Faulted is one, from any state but Cold (R34). -/
theorem enterFaulted_st (s : State) (h : s.sys.st ≠ .cold) : (enterFaulted s).sys.st = .faulted := by
  unfold enterFaulted
  split
  · rename_i h1
    rcases h1 with h1 | h1
    · exact absurd h1 h
    · exact h1
  · have h2 : (hitchRelease (setDev .faulted (adviceOff (lampsOff s)))).sys = (setDev .faulted (adviceOff (lampsOff s))).sys :=
      hitchRelease_keeps _ .sys (by decide)
    show (hitchRelease (setDev .faulted (adviceOff (lampsOff s)))).sys.st = _
    rw [h2]
    unfold setDev
    split
    · assumption
    · rfl

theorem enterStopped_err (s : State) : (enterStopped s).err = s.err := by
  have h := enterStopped_keeps s
  exact h .err (by decide)

/-- The log after one error, when no Fatal is being handled (R481, R483, R485). -/
theorem logOne_err (x : ErrEv) (s : State) (h : s.err.fatalHeld = false) : (logOne x s).err = enterLog (mkEntry s x) s.err := by
  unfold logOne
  rw [if_neg (by simp [h])]
  dsimp only
  split
  · split
    · rfl
    · rw [enterStopped_err]; rfl
  · rw [enterFaulted_err]; rfl
  · rfl

/-- During Fatal handling only NEST rises (R486). -/
theorem logOne_nest (x : ErrEv) (s : State) (h : s.err.fatalHeld = true) : logOne x s = mErr (fun e => { e with nest := satAdd 16 e.nest 1 }) s := by
  unfold logOne
  rw [if_pos h]

/-- A Notice or a Fault changes the log and the subscribers' queues alone. -/
theorem logOne_sys (x : ErrEv) (s : State) (h : x.cls = .notice ∨ x.cls = .fault) : (logOne x s).sys = s.sys := by
  unfold logOne
  split
  · rfl
  · rcases h with h | h <;> rw [h] <;> rfl

/-- A Fatal takes any device but a Cold one to Faulted (R11, R34). -/
theorem logOne_fatal (x : ErrEv) (s : State) (h : s.err.fatalHeld = false) (hx : x.cls = .fatal) (hc : s.sys.st ≠ .cold) :
    (logOne x s).sys.st = .faulted := by
  unfold logOne
  rw [if_neg (by simp [h]), hx]
  exact enterFaulted_st _ hc

/-- A new entry of the log is its latest (R483). -/
theorem enterLog_logged (x : ErrEv) (s : State) : (enterLog (mkEntry s x) s.err).head = nextSeq s.err.head ∧
    ∃ e ∈ (enterLog (mkEntry s x) s.err).ring, e.seq = (enterLog (mkEntry s x) s.err).head ∧ e.cls = x.cls ∧ e.code = x.code :=
  ⟨rfl, mkEntry s x, List.mem_cons_self .., rfl, rfl, rfl⟩

/-- A single Notice or Fault found by a command: the log takes it, and the device state stays. -/
theorem closeCmd_one {s t : State} {x : ErrEv} (hf : t.err.found = [x]) (hc : t.sys.st ≠ .cold) (hh : t.err.fatalHeld = false) :
    (closeCmd s t).err = enterLog (mkEntry (mErr (fun e => { e with found := [] }) t) x) { t.err with found := [] } := by
  show (flush t).err = _
  rw [flush_one hf hc]
  exact logOne_err x _ hh

/-- A single error found by a command is the log's latest entry. -/
theorem closeCmd_logged {s t : State} {x : ErrEv} (hf : t.err.found = [x]) (hc : t.sys.st ≠ .cold) (hh : t.err.fatalHeld = false)
    (hd : t.err.head = s.err.head) : logged x.cls x.code s (closeCmd s t) := by
  unfold logged
  rw [closeCmd_one hf hc hh]
  have h := enterLog_logged x (mErr (fun e => { e with found := [] }) t)
  exact ⟨by rw [← hd]; exact h.1, h.2⟩

/-- A single Fatal found takes any device but a Cold one to Faulted. -/
theorem closeCmd_fatal {s t : State} {x : ErrEv} (hf : t.err.found = [x]) (hc : t.sys.st ≠ .cold) (hh : t.err.fatalHeld = false)
    (hx : x.cls = .fatal) : (closeCmd s t).sys.st = .faulted := by
  show (flush t).sys.st = _
  rw [flush_one hf hc]
  exact logOne_fatal x _ hh hx hc

/-- A single Notice or Fault found leaves the device state. -/
theorem closeCmd_one_sys {s t : State} {x : ErrEv} (hf : t.err.found = [x]) (hc : t.sys.st ≠ .cold) (hx : x.cls = .notice ∨ x.cls = .fault) :
    (closeCmd s t).sys = t.sys := by
  show (flush t).sys = _
  rw [flush_one hf hc]
  exact logOne_sys x _ hx

/-- What closing leaves of the parts that logging may change, when nothing was found. -/
theorem closeCmd_quiet_parts (s : State) {t : State} (hf : t.err.found = []) (hc : t.sys.st ≠ .cold) :
    (closeCmd s t).sys = t.sys ∧ (closeCmd s t).err = t.err ∧ (closeCmd s t).mgt = t.mgt ∧ (closeCmd s t).fir = t.fir ∧
      (closeCmd s t).gat = t.gat ∧ (closeCmd s t).axs = t.axs ∧ (closeCmd s t).lmp = t.lmp ∧ (closeCmd s t).par = t.par ∧
      (closeCmd s t).cal = t.cal ∧ (closeCmd s t).outbox = s.outbox ++ t.outbox := by
  unfold closeCmd
  rw [flush_quiet t hf hc]
  exact ⟨rfl, rfl, rfl, rfl, rfl, rfl, rfl, rfl, rfl, rfl⟩

/-- What closing leaves of those parts when at most Notices and Faults were found. -/
theorem closeCmd_calm_parts (s : State) {t : State} (hf : ∀ x ∈ t.err.found, x.cls = .notice ∨ x.cls = .fault) :
    (closeCmd s t).sys = t.sys ∧ (closeCmd s t).fir = t.fir ∧ (closeCmd s t).gat = t.gat ∧ (closeCmd s t).axs = t.axs ∧
      (closeCmd s t).lmp = t.lmp ∧ (closeCmd s t).par = t.par ∧ (closeCmd s t).cal = t.cal ∧
      (closeCmd s t).outbox = s.outbox ++ t.outbox := by
  obtain ⟨e, m, h⟩ := flush_calm t hf
  unfold closeCmd
  rw [h]
  exact ⟨rfl, rfl, rfl, rfl, rfl, rfl, rfl, rfl⟩

/-- The next state of a command that finds nothing and leaves CFG alone, in a device that is not Cold. -/
theorem next_quiet {s t r : State} (h : t.err.found = []) (hc : t.sys.st ≠ .cold) (hg : t.cfg = s.cfg)
    (hr : { t with pending := s.pending, outbox := s.outbox ++ t.outbox } = r) :
    (.next (closeCmd s t) : Host.Outcome State Fault Refusal) = .next r := by
  rw [closeCmd_quiet s t h hc hg, hr]

theorem settled_found {s : State} (h : s.settled = true) : s.err.found = [] := by simpa [State.settled] using h

/-- What a canonical map reads after entries are taken out. -/
theorem spGet_filter {α : Type} [DecidableEq α] (d : Nat → α) (q : Nat × α → Bool) (a : Nat) (b : Bool) (hq : ∀ v, q (a, v) = b) :
    ∀ l : List (Nat × α), sparseOk d l = true → spGet (d a) (l.filter q) a = if b then spGet (d a) l a else d a
  | [], _ => by simp [spGet]
  | (k, v) :: r, h => by
    have ih := spGet_filter d q a b hq r (sparseOk_tail d _ r h)
    have hl := sparseOk_head_lt d k v r h
    by_cases hk : k = a
    · subst hk
      cases b with
      | true => rw [List.filter_cons_of_pos (hq v)]; simp [spGet]
      | false => rw [List.filter_cons_of_neg (by simp [hq v])]; simpa using ih
    · by_cases hp : q (k, v) = true
      · rw [List.filter_cons_of_pos hp]
        simp only [spGet, hk, if_false]
        split
        · split <;> rfl
        · exact ih
      · rw [List.filter_cons_of_neg hp, ih]
        simp only [spGet, hk, if_false]
        split
        · split
          · rename_i hak
            exact spGet_of_lt_head _ _ r (fun p hp => Nat.lt_trans hak (hl p hp))
          · rfl
        · rfl

theorem canon_regs {s : State} (h : s.canon = true) : sparseOk regReset s.regs = true := by
  simp only [State.canon, Bool.and_eq_true] at h; exact h.1.1.1

/-- A register reads as last written. -/
theorem regVal_setReg_same (a : Nat) (v : Word) {s : State} (h : s.canon = true) : regVal (setReg a v s) a = v :=
  spGet_spSet_same regReset a v _ (canon_regs h)

/-- Every other register reads as before. -/
theorem regVal_setReg_other (a b : Nat) (v : Word) {s : State} (h : s.canon = true) (hne : b ≠ a) : regVal (setReg a v s) b = regVal s b :=
  spGet_spSet_other regReset a b v hne _ (canon_regs h)

end Sys2Proof.Machine
end

