-- ==== Sys2Proof/Laws/Frames.lean ====
section
/-! SUPPORT. What each command leaves as it was: one lemma `frame_…` per constructor of `Instr`, from its effect's. -/

namespace Sys2Proof.Machine

theorem event_effect {en n f s t} (h : event en n f s = .next t) : t = closeCmd s (f { s with outbox := [] }) := by
  cases en <;> simp [event, always] at h; exact h.symm

theorem effect_next {f s t} (h : always f s = .next t) : t = closeCmd s (f { s with outbox := [] }) := by simp [always] at h; exact h.symm

theorem formed_effect {ok n o} {t : State} (h : formed ok n o = .next t) : o = .next t := by cases ok <;> simp [formed] at h; exact h

theorem fr_log {ps qs : List Part} {f : State → State} {s t : State} (h : t = closeCmd s (f { s with outbox := [] })) (hk : ∀ u, keepsBut ps u (f u)) (hs : ∀ p ∈ ps ++ logParts, p ∈ qs) : keepsBut qs s t := by
  subst h; exact keepsBut_mono (closeCmd_keeps_log (keepsBut_outbox (hk _))) hs

theorem fr_calm {ps qs : List Part} {f : State → State} {s t : State} (hq : s.settled = true) (h : t = closeCmd s (f { s with outbox := [] })) (hk : ∀ u, keepsBut ps u (f u)) (hc : ∀ u, calm u (f u)) (hs : ∀ p ∈ Part.err :: .mgt :: ps, p ∈ qs) : keepsBut qs s t := by
  subst h; exact keepsBut_mono (closeCmd_keeps_calm (keepsBut_outbox (hk _)) (found_calm hq (hc _))) hs

theorem fr_nil {ps qs : List Part} {f : State → State} {s t : State} (hq : s.settled = true) (h : t = closeCmd s (f { s with outbox := [] })) (hk : ∀ u, keepsBut ps u (f u)) (he : .err ∉ ps) (hs : ∀ p ∈ Part.err :: ps, p ∈ qs) : keepsBut qs s t := by
  subst h; exact keepsBut_mono (closeCmd_keeps_nil (keepsBut_outbox (hk _)) (found_nil (s := { s with outbox := [] }) hq (hk _) he)) hs

theorem accWrite_calm' {m : Master} (hm : m ≠ .image) (a v s) : calm s (accWrite m a v s) := by
  unfold accWrite
  refine calm_trans ?_ (calm_of_keeps (emit_keeps _ _) (by decide))
  cases m with
  | image => exact absurd rfl hm
  | rmp => exact masterWrite_calm .rmp a v s
  | waypost => exact masterWrite_calm .waypost a v s

theorem fr_acc {ps qs : List Part} {m a v n s t} (hq : s.settled = true) (hk : m ≠ .image → ∀ u, keepsBut ps u (accWrite m a v u)) (h : writeCmdAt n m a v s = .next t) (hs : ∀ p ∈ Part.err :: .mgt :: ps, p ∈ qs) : keepsBut (byMaster m qs) s t := by
  unfold byMaster
  split
  · exact fr_log (event_effect h) (accWrite_keeps m a v) (by decide)
  · exact fr_calm hq (event_effect h) (hk ‹_›) (accWrite_calm' ‹_› a v) hs

theorem accRead_calm' (m a s) : calm s (accRead m a s) := by
  unfold accRead
  refine calm_trans ?_ (calm_of_keeps (emit_keeps _ _) (by decide))
  exact masterRead_calm m a s

theorem fr_rd {ps qs : List Part} {m a n s t} (hq : s.settled = true) (hk : ∀ u, keepsBut ps u (accRead m a u)) (he : .err ∉ ps) (h : readCmdAt n m a s = .next t) (hs : ∀ p ∈ Part.err :: ps, p ∈ qs) : keepsBut qs s t := fr_nil hq (event_effect h) hk he hs

theorem fr_rd' {ps qs : List Part} {m a n s t} (hq : s.settled = true) (hk : ∀ u, keepsBut ps u (accRead m a u)) (h : readCmdAt n m a s = .next t) (hs : ∀ p ∈ Part.err :: .mgt :: ps, p ∈ qs) : keepsBut qs s t := fr_calm hq (event_effect h) hk (accRead_calm' m a) hs

theorem frame_registerWrite (m : Master) (addr : Word) (v : Word) {s s' : State} (hq : s.settled = true) (h : exec (.registerWrite m addr v) s = .next s') : keepsBut (touches (.registerWrite m addr v)) s s' := by
  rw [exec_registerWrite] at h
  show keepsBut (byMaster m [.free, .regs, .sys, .err, .cap, .cfg, .keep, .net, .ptp, .mgt, .tow, .cmp, .str, .pos, .mil, .fir, .stg, .nzl, .gat, .gul, .insp, .mem, .axs, .lmp, .par, .cal]) s s'
  exact fr_acc (ps := [.free, .regs, .sys, .err, .cap, .cfg, .keep, .net, .ptp, .mgt, .tow, .cmp, .str, .pos, .mil, .fir, .stg, .nzl, .gat, .gul, .insp, .mem, .axs, .lmp, .par, .cal]) hq (fun hm u => by
    unfold accWrite; cases m <;> first | exact absurd rfl hm | exact keepsBut_of (masterWrite_keeps _ _ _ _) (emit_keeps _ _) (by decide)) h (by decide)

theorem frame_supplyLow (x0 : Rail) {s s' : State} (_ : s.settled = true) (h : exec (.supplyLow x0) s = .next s') : keepsBut (touches (.supplyLow x0)) s s' := by
  rw [exec_supplyLow] at h
  show keepsBut [.regs, .act, .sys, .err, .cap, .dbg, .cfg, .keep, .net, .netId, .ptp, .mgt, .tow, .plc, .cmp, .str, .pos, .mil, .fir, .stg, .nzl, .gat, .gul, .insp, .mem, .axs, .lmp, .par, .cal] s s'
  exact fr_log (effect_next h) (eff_supplyLow_keeps x0) (by decide)

theorem frame_resetAssert {s s' : State} (_ : s.settled = true) (h : exec .resetAssert s = .next s') : keepsBut (touches .resetAssert) s s' := by
  rw [exec_resetAssert] at h
  show keepsBut [.regs, .act, .sys, .err, .cap, .dbg, .cfg, .keep, .net, .netId, .ptp, .mgt, .tow, .plc, .cmp, .str, .pos, .mil, .fir, .stg, .nzl, .gat, .gul, .insp, .mem, .axs, .lmp, .par, .cal] s s'
  exact fr_log (effect_next h) (eff_resetAssert_keeps) (by decide)

theorem frame_resetRelease (bootSel : BitVec 2) (pairRole : Bool) {s s' : State} (hq : s.settled = true) (h : exec (.resetRelease bootSel pairRole) s = .next s') : keepsBut (touches (.resetRelease bootSel pairRole)) s s' := by
  rw [exec_resetRelease] at h
  show keepsBut [.sys, .err, .dbg, .cfg, .mgt, .mem, .par] s s'
  exact fr_nil hq (event_effect h) (eff_resetRelease_keeps bootSel pairRole) (by decide) (by decide)

theorem frame_keepReset {s s' : State} (_ : s.settled = true) (h : exec .keepReset s = .next s') : keepsBut (touches .keepReset) s s' := by
  rw [exec_keepReset] at h
  show keepsBut [.regs, .act, .sys, .err, .keep, .mgt, .pos, .mil, .fir, .gat, .axs, .lmp, .par, .cal] s s'
  exact fr_log (effect_next h) (eff_keepReset_keeps) (by decide)

theorem frame_keepResetRelease {s s' : State} (_ : s.settled = true) (h : exec .keepResetRelease s = .next s') : keepsBut (touches .keepResetRelease) s s' := by
  rw [exec_keepResetRelease] at h
  show keepsBut [.sys, .err, .mgt, .pos, .fir, .gat, .axs, .lmp, .par, .cal] s s'
  exact fr_log (event_effect h) (eff_keepResetRelease_keeps) (by decide)

theorem frame_imageHeaderRead (a : Bytes) (b : Bytes) {s s' : State} (_ : s.settled = true) (h : exec (.imageHeaderRead a b) s = .next s') : keepsBut (touches (.imageHeaderRead a b)) s s' := by
  rw [exec_imageHeaderRead] at h
  show keepsBut [.sys, .err, .cfg, .mgt, .fir, .gat, .axs, .lmp, .par, .cal] s s'
  exact fr_log (event_effect (formed_effect h)) (eff_imageHeaderRead_keeps a b) (by decide)

theorem frame_imagePass1Done (img : Bytes) {s s' : State} (_ : s.settled = true) (h : exec (.imagePass1Done img) s = .next s') : keepsBut (touches (.imagePass1Done img)) s s' := by
  rw [exec_imagePass1Done] at h
  show keepsBut [.sys, .err, .cfg, .mgt, .fir, .gat, .axs, .lmp, .par, .cal] s s'
  exact fr_log (event_effect h) (eff_imagePass1Done_keeps img) (by decide)

theorem frame_imageRecordApply (rec : Bytes) {s s' : State} (_ : s.settled = true) (h : exec (.imageRecordApply rec) s = .next s') : keepsBut (touches (.imageRecordApply rec)) s s' := by
  rw [exec_imageRecordApply] at h
  show keepsBut [.free, .regs, .act, .sys, .err, .cap, .dbg, .cfg, .keep, .net, .netId, .ptp, .mgt, .tow, .plc, .cmp, .str, .pos, .mil, .fir, .stg, .nzl, .gat, .gul, .insp, .mem, .axs, .lmp, .par, .cal] s s'
  exact fr_log (event_effect h) (eff_imageRecordApply_keeps rec) (by decide)

theorem frame_imagePass2Done (boot : BitVec 64) {s s' : State} (_ : s.settled = true) (h : exec (.imagePass2Done boot) s = .next s') : keepsBut (touches (.imagePass2Done boot)) s s' := by
  rw [exec_imagePass2Done] at h
  show keepsBut [.regs, .act, .sys, .err, .cap, .dbg, .cfg, .net, .netId, .ptp, .mgt, .tow, .plc, .cmp, .str, .fir, .stg, .nzl, .gat, .gul, .insp, .mem, .axs, .lmp, .par, .cal] s s'
  exact fr_log (event_effect (formed_effect h)) (eff_imagePass2Done_keeps boot) (by decide)

theorem frame_readyCriteriaMet {s s' : State} (_ : s.settled = true) (h : exec .readyCriteriaMet s = .next s') : keepsBut (touches .readyCriteriaMet) s s' := by
  rw [exec_readyCriteriaMet] at h
  show keepsBut [.act, .sys, .err, .cfg, .mgt, .tow, .plc, .str, .pos, .fir, .stg, .nzl, .gat, .gul, .insp, .mem, .axs, .lmp, .par, .cal] s s'
  exact fr_log (event_effect h) (eff_readyCriteriaMet_keeps) (by decide)

theorem frame_lanewaitExpire {s s' : State} (hq : s.settled = true) (h : exec .lanewaitExpire s = .next s') : keepsBut (touches .lanewaitExpire) s s' := by
  rw [exec_lanewaitExpire] at h
  show keepsBut [.err, .cfg, .mgt] s s'
  exact fr_calm hq (event_effect h) (eff_lanewaitExpire_keeps) (eff_lanewaitExpire_calm) (by decide)

theorem frame_bootTimeout {s s' : State} (_ : s.settled = true) (h : exec .bootTimeout s = .next s') : keepsBut (touches .bootTimeout) s s' := by
  rw [exec_bootTimeout] at h
  show keepsBut [.sys, .err, .mgt, .fir, .gat, .axs, .lmp, .par, .cal] s s'
  exact fr_log (event_effect h) (eff_bootTimeout_keeps) (by decide)

theorem frame_dramVerifyDone (res : List VerifyReads) {s s' : State} (_ : s.settled = true) (h : exec (.dramVerifyDone res) s = .next s') : keepsBut (touches (.dramVerifyDone res)) s s' := by
  rw [exec_dramVerifyDone] at h
  show keepsBut [.sys, .err, .cfg, .mgt, .plc, .fir, .gat, .mem, .axs, .lmp, .par, .cal] s s'
  exact fr_log (event_effect (formed_effect h)) (eff_dramVerifyDone_keeps res) (by decide)

theorem frame_fireLock {s s' : State} (hq : s.settled = true) (h : exec .fireLock s = .next s') : keepsBut (touches .fireLock) s s' := by
  rw [exec_fireLock] at h
  show keepsBut [.err, .fir] s s'
  exact fr_nil hq (event_effect h) (eff_fireLock_keeps) (by decide) (by decide)

theorem frame_fireUnlock {s s' : State} (_ : s.settled = true) (h : exec .fireUnlock s = .next s') : keepsBut (touches .fireUnlock) s s' := by
  rw [exec_fireUnlock] at h
  show keepsBut [.sys, .err, .mgt, .fir, .gat, .axs, .lmp, .par, .cal] s s'
  exact fr_log (event_effect h) (eff_fireUnlock_keeps) (by decide)

theorem frame_otpUnlock (m : Master) (v : Word) {s s' : State} (hq : s.settled = true) (h : exec (.otpUnlock m v) s = .next s') : keepsBut (touches (.otpUnlock m v)) s s' := by
  rw [exec_otpUnlock] at h
  show keepsBut (byMaster m [.err, .cfg, .mgt]) s s'
  exact fr_acc hq (fun hm u => acc_otpUnlock_keeps hm _ u) h (by decide)

theorem frame_otpProgram (m : Master) (slot : Fin 8) {s s' : State} (hq : s.settled = true) (h : exec (.otpProgram m slot) s = .next s') : keepsBut (touches (.otpProgram m slot)) s s' := by
  rw [exec_otpProgram] at h
  show keepsBut (byMaster m [.err, .cfg, .mgt]) s s'
  exact fr_acc hq (fun hm u => acc_otpProgram_keeps hm _ u) h (by decide)

theorem frame_otpRevoke (m : Master) (slot : Fin 8) {s s' : State} (hq : s.settled = true) (h : exec (.otpRevoke m slot) s = .next s') : keepsBut (touches (.otpRevoke m slot)) s s' := by
  rw [exec_otpRevoke] at h
  show keepsBut (byMaster m [.err, .cfg, .mgt]) s s'
  exact fr_acc hq (fun hm u => acc_otpRevoke_keeps hm _ u) h (by decide)

theorem frame_otpPin (m : Master) {s s' : State} (hq : s.settled = true) (h : exec (.otpPin m) s = .next s') : keepsBut (touches (.otpPin m)) s s' := by
  rw [exec_otpPin] at h
  show keepsBut (byMaster m [.err, .cfg, .mgt]) s s'
  exact fr_acc hq (fun hm u => acc_otpPin_keeps hm u) h (by decide)

theorem frame_otpDone {s s' : State} (hq : s.settled = true) (h : exec .otpDone s = .next s') : keepsBut (touches .otpDone) s s' := by
  rw [exec_otpDone] at h
  show keepsBut [.err, .cfg] s s'
  exact fr_nil hq (event_effect h) (eff_otpDone_keeps) (by decide) (by decide)

theorem frame_paceMeasure (measured : List Nat) {s s' : State} (hq : s.settled = true) (h : exec (.paceMeasure measured) s = .next s') : keepsBut (touches (.paceMeasure measured)) s s' := by
  rw [exec_paceMeasure] at h
  show keepsBut [.sys, .err, .mgt, .par] s s'
  exact fr_calm hq (event_effect (formed_effect h)) (eff_paceMeasure_keeps measured) (eff_paceMeasure_calm measured) (by decide)

theorem frame_paceClr (m : Master) (v : Word) {s s' : State} (hq : s.settled = true) (h : exec (.paceClr m v) s = .next s') : keepsBut (touches (.paceClr m v)) s s' := by
  rw [exec_paceClr] at h
  show keepsBut (byMaster m [.sys, .err, .mgt]) s s'
  exact fr_acc hq (fun hm u => acc_paceClr_keeps hm _ u) h (by decide)

theorem frame_knotImmediate (m : Master) {s s' : State} (hq : s.settled = true) (h : exec (.knotImmediate m) s = .next s') : keepsBut (touches (.knotImmediate m)) s s' := by
  rw [exec_knotImmediate] at h
  show keepsBut (byMaster m [.sys, .err, .mgt, .par]) s s'
  exact fr_acc hq (fun hm u => acc_knotImmediate_keeps hm u) h (by decide)

theorem frame_knotMilestone (m : Master) (ms : Ms) {s s' : State} (hq : s.settled = true) (h : exec (.knotMilestone m ms) s = .next s') : keepsBut (touches (.knotMilestone m ms)) s s' := by
  rw [exec_knotMilestone] at h
  show keepsBut (byMaster m [.sys, .err, .mgt, .par]) s s'
  exact fr_acc hq (fun hm u => acc_knotMilestone_keeps hm _ u) h (by decide)

theorem frame_knotRoadCount (m : Master) {s s' : State} (hq : s.settled = true) (h : exec (.knotRoadCount m) s = .next s') : keepsBut (touches (.knotRoadCount m)) s s' := by
  rw [exec_knotRoadCount] at h
  show keepsBut (byMaster m [.sys, .err, .mgt, .par]) s s'
  exact fr_acc hq (fun hm u => acc_knotRoadCount_keeps hm u) h (by decide)

theorem frame_knotCancel (m : Master) {s s' : State} (hq : s.settled = true) (h : exec (.knotCancel m) s = .next s') : keepsBut (touches (.knotCancel m)) s s' := by
  rw [exec_knotCancel] at h
  show keepsBut (byMaster m [.sys, .err, .mgt, .par]) s s'
  exact fr_acc hq (fun hm u => acc_knotCancel_keeps hm u) h (by decide)

theorem frame_knotTake {s s' : State} (_ : s.settled = true) (h : exec .knotTake s = .next s') : keepsBut (touches .knotTake) s s' := by
  rw [exec_knotTake] at h
  show keepsBut [.act, .sys, .err, .mgt, .tow, .str, .pos, .fir, .stg, .nzl, .gat, .gul, .insp, .mem, .axs, .lmp, .par, .cal] s s'
  exact fr_log (event_effect h) (eff_knotTake_keeps) (by decide)

theorem frame_strandMigrate (n : Seg) {s s' : State} (hq : s.settled = true) (h : exec (.strandMigrate n) s = .next s') : keepsBut (touches (.strandMigrate n)) s s' := by
  rw [exec_strandMigrate] at h
  show keepsBut [.err, .str] s s'
  exact fr_nil hq (event_effect h) (eff_strandMigrate_keeps n) (by decide) (by decide)

theorem frame_geoCheck (m : Master) (v : Word) {s s' : State} (hq : s.settled = true) (h : exec (.geoCheck m v) s = .next s') : keepsBut (touches (.geoCheck m v)) s s' := by
  rw [exec_geoCheck] at h
  show keepsBut (byMaster m [.err, .mgt, .fir]) s s'
  exact fr_acc hq (fun hm u => acc_geoCheck_keeps hm _ u) h (by decide)

theorem frame_geoCheckDone {s s' : State} (hq : s.settled = true) (h : exec .geoCheckDone s = .next s') : keepsBut (touches .geoCheckDone) s s' := by
  rw [exec_geoCheckDone] at h
  show keepsBut [.err, .fir] s s'
  exact fr_nil hq (event_effect h) (eff_geoCheckDone_keeps) (by decide) (by decide)

theorem frame_resDataAccess (m : Master) (acc : Access) {s s' : State} (hq : s.settled = true) (h : exec (.resDataAccess m acc) s = .next s') : keepsBut (touches (.resDataAccess m acc)) s s' := by
  rw [exec_resDataAccess] at h
  show keepsBut (byMaster m [.regs, .err, .mgt, .stg]) s s'
  cases acc with
  | write v => exact fr_acc hq (fun hm u => acc_resDataAccess_keeps hm _ u) h (by decide)
  | read =>
    have h' := fr_rd' (qs := [.regs, .err, .mgt, .stg]) hq (acc_resDataAccess_read_keeps m) h (by decide)
    exact keepsBut_mono h' (by show ∀ p ∈ _, p ∈ byMaster m _; unfold byMaster; split <;> decide)

theorem frame_encoderEdge (ch : Enc) (a : Bool) (b : Bool) (fast : Bool) (more : Bool) {s s' : State} (hq : s.settled = true) (h : exec (.encoderEdge ch a b fast more) s = .next s') : keepsBut (touches (.encoderEdge ch a b fast more)) s s' := by
  rw [exec_encoderEdge] at h
  show keepsBut [.sys, .err, .mgt, .tow, .pos, .mil] s s'
  exact fr_calm hq (effect_next h) (eff_encoderEdge_keeps ch a b fast more) (eff_encoderEdge_calm ch a b fast more) (by decide)

theorem frame_wireDisagree (ch : Enc) (pair : EncPair) {s s' : State} (hq : s.settled = true) (h : exec (.wireDisagree ch pair) s = .next s') : keepsBut (touches (.wireDisagree ch pair)) s s' := by
  rw [exec_wireDisagree] at h
  show keepsBut [.err, .mgt, .pos] s s'
  exact fr_calm hq (effect_next h) (eff_wireDisagree_keeps ch pair) (eff_wireDisagree_calm ch pair) (by decide)

theorem frame_wireAgree (ch : Enc) (pair : EncPair) {s s' : State} (hq : s.settled = true) (h : exec (.wireAgree ch pair) s = .next s') : keepsBut (touches (.wireAgree ch pair)) s s' := by
  rw [exec_wireAgree] at h
  show keepsBut [.err, .mgt, .pos] s s'
  exact fr_calm hq (effect_next h) (eff_wireAgree_keeps ch pair) (eff_wireAgree_calm ch pair) (by decide)

theorem frame_encLost (cause : LostCause) {s s' : State} (_ : s.settled = true) (h : exec (.encLost cause) s = .next s') : keepsBut (touches (.encLost cause)) s s' := by
  rw [exec_encLost] at h
  show keepsBut [.sys, .err, .mgt, .pos, .fir, .gat, .axs, .lmp, .par, .cal] s s'
  exact fr_log (event_effect h) (eff_encLost_keeps cause) (by decide)

theorem frame_index (ch : Enc) (more : Bool) {s s' : State} (hq : s.settled = true) (h : exec (.index ch more) s = .next s') : keepsBut (touches (.index ch more)) s s' := by
  rw [exec_index] at h
  show keepsBut [.sys, .err, .mgt, .tow, .pos, .mil] s s'
  exact fr_calm hq (effect_next h) (eff_index_keeps ch more) (eff_index_calm ch more) (by decide)

theorem frame_indexArm (m : Master) (ch : Enc) (v : Word) {s s' : State} (hq : s.settled = true) (h : exec (.indexArm m ch v) s = .next s') : keepsBut (touches (.indexArm m ch v)) s s' := by
  rw [exec_indexArm] at h
  show keepsBut (byMaster m [.regs, .err, .mgt, .pos]) s s'
  exact fr_acc hq (fun hm u => acc_indexArm_keeps hm _ _ u) (formed_effect h) (by decide)

theorem frame_ssiFrameStart (ch : Enc) (dataHigh : Bool) {s s' : State} (hq : s.settled = true) (h : exec (.ssiFrameStart ch dataHigh) s = .next s') : keepsBut (touches (.ssiFrameStart ch dataHigh)) s s' := by
  rw [exec_ssiFrameStart] at h
  show keepsBut [.err, .mgt, .pos] s s'
  exact fr_calm hq (event_effect h) (eff_ssiFrameStart_keeps ch dataHigh) (eff_ssiFrameStart_calm ch dataHigh) (by decide)

theorem frame_ssiWord (ch : Enc) (w : Word) (parity : Bool) {s s' : State} (hq : s.settled = true) (h : exec (.ssiWord ch w parity) s = .next s') : keepsBut (touches (.ssiWord ch w parity)) s s' := by
  rw [exec_ssiWord] at h
  show keepsBut [.sys, .err, .mgt, .tow, .pos, .mil] s s'
  exact fr_calm hq (event_effect h) (eff_ssiWord_keeps ch w parity) (eff_ssiWord_calm ch w parity) (by decide)

theorem frame_ssiReleaseTimeout (ch : Enc) {s s' : State} (hq : s.settled = true) (h : exec (.ssiReleaseTimeout ch) s = .next s') : keepsBut (touches (.ssiReleaseTimeout ch)) s s' := by
  rw [exec_ssiReleaseTimeout] at h
  show keepsBut [.err, .mgt, .pos] s s'
  exact fr_calm hq (event_effect h) (eff_ssiReleaseTimeout_keeps ch) (eff_ssiReleaseTimeout_calm ch) (by decide)

theorem frame_observerUpdate (ch : Enc) {s s' : State} (hq : s.settled = true) (h : exec (.observerUpdate ch) s = .next s') : keepsBut (touches (.observerUpdate ch)) s s' := by
  rw [exec_observerUpdate] at h
  show keepsBut [.sys, .err, .mgt, .pos, .mil] s s'
  exact fr_calm hq (event_effect h) (eff_observerUpdate_keeps ch) (eff_observerUpdate_calm ch) (by decide)

theorem frame_ptSynthStep (ch : Enc) {s s' : State} (hq : s.settled = true) (h : exec (.ptSynthStep ch) s = .next s') : keepsBut (touches (.ptSynthStep ch)) s s' := by
  rw [exec_ptSynthStep] at h
  show keepsBut [.err, .mgt, .pos] s s'
  exact fr_calm hq (event_effect h) (eff_ptSynthStep_keeps ch) (eff_ptSynthStep_calm ch) (by decide)

theorem frame_posChannelConfig (m : Master) (ch : Enc) (v : Word) {s s' : State} (hq : s.settled = true) (h : exec (.posChannelConfig m ch v) s = .next s') : keepsBut (touches (.posChannelConfig m ch v)) s s' := by
  rw [exec_posChannelConfig] at h
  show keepsBut (byMaster m [.regs, .err, .mgt, .pos]) s s'
  exact fr_acc hq (fun hm u => acc_posChannelConfig_keeps hm _ _ u) h (by decide)

theorem frame_posSnapshot (m : Master) (ch : Enc) {s s' : State} (hq : s.settled = true) (h : exec (.posSnapshot m ch) s = .next s') : keepsBut (touches (.posSnapshot m ch)) s s' := by
  rw [exec_posSnapshot] at h
  show keepsBut [.err, .pos] s s'
  exact fr_rd hq (acc_posSnapshot_keeps m _) (by decide) h (by decide)

theorem frame_milestoneArm (m : Master) (ms : Ms) (v : Word) {s s' : State} (hq : s.settled = true) (h : exec (.milestoneArm m ms v) s = .next s') : keepsBut (touches (.milestoneArm m ms v)) s s' := by
  rw [exec_milestoneArm] at h
  show keepsBut (byMaster m [.regs, .err, .mgt, .pos]) s s'
  exact fr_acc hq (fun hm u => acc_milestoneArm_keeps hm _ _ u) (formed_effect h) (by decide)

theorem frame_milestoneDisarm (m : Master) (ms : Ms) (v : Word) {s s' : State} (hq : s.settled = true) (h : exec (.milestoneDisarm m ms v) s = .next s') : keepsBut (touches (.milestoneDisarm m ms v)) s s' := by
  rw [exec_milestoneDisarm] at h
  show keepsBut (byMaster m [.regs, .err, .mgt, .pos]) s s'
  exact fr_acc hq (fun hm u => acc_milestoneDisarm_keeps hm _ _ u) (formed_effect h) (by decide)

theorem frame_milestoneCmpCommit (m : Master) (ms : Ms) (v : Word) {s s' : State} (hq : s.settled = true) (h : exec (.milestoneCmpCommit m ms v) s = .next s') : keepsBut (touches (.milestoneCmpCommit m ms v)) s s' := by
  rw [exec_milestoneCmpCommit] at h
  show keepsBut (byMaster m [.err, .mgt, .pos]) s s'
  exact fr_acc hq (fun hm u => acc_milestoneCmpCommit_keeps hm _ _ u) h (by decide)

theorem frame_milestoneCmpRead (m : Master) (ms : Ms) {s s' : State} (hq : s.settled = true) (h : exec (.milestoneCmpRead m ms) s = .next s') : keepsBut (touches (.milestoneCmpRead m ms)) s s' := by
  rw [exec_milestoneCmpRead] at h
  show keepsBut [.err, .mil] s s'
  exact fr_rd hq (acc_milestoneCmpRead_keeps m _) (by decide) h (by decide)

theorem frame_milestoneHitRead (m : Master) (ms : Ms) {s s' : State} (hq : s.settled = true) (h : exec (.milestoneHitRead m ms) s = .next s') : keepsBut (touches (.milestoneHitRead m ms)) s s' := by
  rw [exec_milestoneHitRead] at h
  show keepsBut [.err, .mil] s s'
  exact fr_rd hq (acc_milestoneHitRead_keeps m _) (by decide) h (by decide)

theorem frame_milestoneFire (ms : Ms) {s s' : State} (_ : s.settled = true) (h : exec (.milestoneFire ms) s = .next s') : keepsBut (touches (.milestoneFire ms)) s s' := by
  rw [exec_milestoneFire] at h
  show keepsBut [.act, .sys, .err, .net, .mgt, .tow, .cmp, .str, .pos, .mil, .fir, .stg, .nzl, .gat, .gul, .insp, .mem, .axs, .lmp, .par, .cal] s s'
  exact fr_log (event_effect h) (eff_milestoneFire_keeps ms) (by decide)

theorem frame_msOutPulseEnd (out : PulseOut) {s s' : State} (hq : s.settled = true) (h : exec (.msOutPulseEnd out) s = .next s') : keepsBut (touches (.msOutPulseEnd out)) s s' := by
  rw [exec_msOutPulseEnd] at h
  show keepsBut [.err, .mil] s s'
  exact fr_nil hq (event_effect h) (eff_msOutPulseEnd_keeps out) (by decide) (by decide)

theorem frame_extSyncCapture (n : Fin 2) (rising : Bool) {s s' : State} (hq : s.settled = true) (h : exec (.extSyncCapture n rising) s = .next s') : keepsBut (touches (.extSyncCapture n rising)) s s' := by
  rw [exec_extSyncCapture] at h
  show keepsBut [.sys, .err, .mgt, .mil] s s'
  exact fr_calm hq (effect_next h) (eff_extSyncCapture_keeps n rising) (eff_extSyncCapture_calm n rising) (by decide)

theorem frame_syncCaptureRead (m : Master) (n : Fin 2) {s s' : State} (hq : s.settled = true) (h : exec (.syncCaptureRead m n) s = .next s') : keepsBut (touches (.syncCaptureRead m n)) s s' := by
  rw [exec_syncCaptureRead] at h
  show keepsBut [.err, .mil] s s'
  exact fr_rd hq (acc_syncCaptureRead_keeps m _) (by decide) h (by decide)

theorem frame_positionSample (t : Nat) {s s' : State} (_ : s.settled = true) (h : exec (.positionSample t) s = .next s') : keepsBut (touches (.positionSample t)) s s' := by
  rw [exec_positionSample] at h
  show keepsBut [.free, .sys, .err, .net, .mgt, .tow, .cmp, .str, .pos, .mil, .fir, .nzl, .gat, .mem, .axs, .lmp, .par, .cal] s s'
  exact fr_log (event_effect h) (eff_positionSample_keeps t) (by decide)

theorem frame_strike (p : Port) (cmpPs : Int) {s s' : State} (_ : s.settled = true) (h : exec (.strike p cmpPs) s = .next s') : keepsBut (touches (.strike p cmpPs)) s s' := by
  rw [exec_strike] at h
  show keepsBut [.free, .sys, .err, .net, .mgt, .tow, .cmp, .str, .fir, .nzl, .gat, .gul, .mem, .axs, .lmp, .par, .cal] s s'
  exact fr_log (event_effect h) (eff_strike_keeps p cmpPs) (by decide)

theorem frame_spoolDecodeLine (spool : Fin 64) {s s' : State} (_ : s.settled = true) (h : exec (.spoolDecodeLine spool) s = .next s') : keepsBut (touches (.spoolDecodeLine spool)) s s' := by
  rw [exec_spoolDecodeLine] at h
  show keepsBut [.free, .sys, .err, .mgt, .cmp, .str, .fir, .gat, .mem, .axs, .lmp, .par, .cal] s s'
  exact fr_log (event_effect h) (eff_spoolDecodeLine_keeps spool) (by decide)

theorem frame_strandFetchIssue (n : Seg) {s s' : State} (hq : s.settled = true) (h : exec (.strandFetchIssue n) s = .next s') : keepsBut (touches (.strandFetchIssue n)) s s' := by
  rw [exec_strandFetchIssue] at h
  show keepsBut [.err, .str, .mem] s s'
  exact fr_nil hq (event_effect h) (eff_strandFetchIssue_keeps n) (by decide) (by decide)

theorem frame_strandFetchDone (n : Seg) {s s' : State} (hq : s.settled = true) (h : exec (.strandFetchDone n) s = .next s') : keepsBut (touches (.strandFetchDone n)) s s' := by
  rw [exec_strandFetchDone] at h
  show keepsBut [.sys, .err, .dbg, .mgt, .str, .mem] s s'
  exact fr_calm hq (event_effect h) (eff_strandFetchDone_keeps n) (eff_strandFetchDone_calm n) (by decide)

theorem frame_spdAdvFrame {s s' : State} (hq : s.settled = true) (h : exec .spdAdvFrame s = .next s') : keepsBut (touches .spdAdvFrame) s s' := by
  rw [exec_spdAdvFrame] at h
  show keepsBut [.err, .str] s s'
  exact fr_nil hq (event_effect h) (eff_spdAdvFrame_keeps) (by decide) (by decide)

theorem frame_nozzleMapLine {s s' : State} (hq : s.settled = true) (h : exec .nozzleMapLine s = .next s') : keepsBut (touches .nozzleMapLine) s s' := by
  rw [exec_nozzleMapLine] at h
  show keepsBut [.sys, .err, .dbg, .mgt, .tow, .fir, .nzl] s s'
  exact fr_calm hq (event_effect h) (eff_nozzleMapLine_keeps) (eff_nozzleMapLine_calm) (by decide)

theorem frame_detourLaneFree (src : BitVec 18) (tgt : BitVec 18) {s s' : State} (hq : s.settled = true) (h : exec (.detourLaneFree src tgt) s = .next s') : keepsBut (touches (.detourLaneFree src tgt)) s s' := by
  rw [exec_detourLaneFree] at h
  show keepsBut [.err, .nzl] s s'
  exact fr_nil hq (event_effect h) (eff_detourLaneFree_keeps src tgt) (by decide) (by decide)

theorem frame_staggerLine (n : Seg) {s s' : State} (hq : s.settled = true) (h : exec (.staggerLine n) s = .next s') : keepsBut (touches (.staggerLine n)) s s' := by
  rw [exec_staggerLine] at h
  show keepsBut [.sys, .err, .dbg, .mgt, .fir, .mem] s s'
  exact fr_calm hq (event_effect h) (eff_staggerLine_keeps n) (eff_staggerLine_calm n) (by decide)

theorem frame_frameBuild (p : Port) {s s' : State} (hq : s.settled = true) (h : exec (.frameBuild p) s = .next s') : keepsBut (touches (.frameBuild p)) s s' := by
  rw [exec_frameBuild] at h
  show keepsBut [.sys, .err, .dbg, .mgt, .tow, .fir, .gul, .mem, .lmp, .par] s s'
  exact fr_calm hq (event_effect h) (eff_frameBuild_keeps p) (eff_frameBuild_calm p) (by decide)

theorem frame_lineFrameSend (p : Port) (late : Bool) {s s' : State} (hq : s.settled = true) (h : exec (.lineFrameSend p late) s = .next s') : keepsBut (touches (.lineFrameSend p late)) s s' := by
  rw [exec_lineFrameSend] at h
  show keepsBut [.sys, .err, .dbg, .mgt, .tow, .fir, .gul] s s'
  exact fr_calm hq (event_effect h) (eff_lineFrameSend_keeps p late) (eff_lineFrameSend_calm p late) (by decide)

theorem frame_towDrop (rx : Arrival) (ss : Session) (d : Bytes) {s s' : State} (hq : s.settled = true) (h : exec (.towDrop rx ss d) s = .next s') : keepsBut (touches (.towDrop rx ss d)) s s' := by
  rw [exec_towDrop] at h
  show keepsBut [.err, .net, .mgt, .tow] s s'
  exact fr_calm hq (effect_next (formed_effect h)) (eff_towDrop_keeps rx ss d) (eff_towDrop_calm rx ss d) (by decide)

theorem frame_towlineReservedType (rx : Arrival) (ss : Session) (d : Bytes) {s s' : State} (hq : s.settled = true) (h : exec (.towlineReservedType rx ss d) s = .next s') : keepsBut (touches (.towlineReservedType rx ss d)) s s' := by
  rw [exec_towlineReservedType] at h
  show keepsBut [.err, .net, .mgt, .tow] s s'
  exact fr_calm hq (effect_next (formed_effect h)) (eff_towlineReservedType_keeps rx ss d) (eff_towlineReservedType_calm rx ss d) (by decide)

theorem frame_layerAnnounce (rx : Arrival) (ss : Session) (d : Bytes) {s s' : State} (hq : s.settled = true) (h : exec (.layerAnnounce rx ss d) s = .next s') : keepsBut (touches (.layerAnnounce rx ss d)) s s' := by
  rw [exec_layerAnnounce] at h
  show keepsBut [.err, .net, .mgt, .tow, .mem] s s'
  exact fr_calm hq (effect_next (formed_effect h)) (eff_layerAnnounce_keeps rx ss d) (eff_layerAnnounce_calm rx ss d) (by decide)

theorem frame_blockData (rx : Arrival) (ss : Session) (d : Bytes) {s s' : State} (hq : s.settled = true) (h : exec (.blockData rx ss d) s = .next s') : keepsBut (touches (.blockData rx ss d)) s s' := by
  rw [exec_blockData] at h
  show keepsBut [.sys, .err, .dbg, .net, .mgt, .tow, .cmp, .str, .mem, .par] s s'
  exact fr_calm hq (effect_next (formed_effect h)) (eff_blockData_keeps rx ss d) (eff_blockData_calm rx ss d) (by decide)

theorem frame_layerClose (rx : Arrival) (ss : Session) (d : Bytes) {s s' : State} (hq : s.settled = true) (h : exec (.layerClose rx ss d) s = .next s') : keepsBut (touches (.layerClose rx ss d)) s s' := by
  rw [exec_layerClose] at h
  show keepsBut [.err, .net, .mgt, .tow, .str, .par] s s'
  exact fr_calm hq (effect_next (formed_effect h)) (eff_layerClose_keeps rx ss d) (eff_layerClose_calm rx ss d) (by decide)

theorem frame_layerRestart (rx : Arrival) (ss : Session) (d : Bytes) {s s' : State} (hq : s.settled = true) (h : exec (.layerRestart rx ss d) s = .next s') : keepsBut (touches (.layerRestart rx ss d)) s s' := by
  rw [exec_layerRestart] at h
  show keepsBut [.err, .net, .mgt, .tow, .str, .par] s s'
  exact fr_calm hq (effect_next (formed_effect h)) (eff_layerRestart_keeps rx ss d) (eff_layerRestart_calm rx ss d) (by decide)

theorem frame_layerRelease (rx : Arrival) (ss : Session) (d : Bytes) {s s' : State} (hq : s.settled = true) (h : exec (.layerRelease rx ss d) s = .next s') : keepsBut (touches (.layerRelease rx ss d)) s s' := by
  rw [exec_layerRelease] at h
  show keepsBut [.err, .net, .mgt, .tow, .cmp, .str, .fir, .mem, .par] s s'
  exact fr_calm hq (effect_next (formed_effect h)) (eff_layerRelease_keeps rx ss d) (eff_layerRelease_calm rx ss d) (by decide)

theorem frame_statusReq (rx : Arrival) (ss : Session) (d : Bytes) {s s' : State} (hq : s.settled = true) (h : exec (.statusReq rx ss d) s = .next s') : keepsBut (touches (.statusReq rx ss d)) s s' := by
  rw [exec_statusReq] at h
  show keepsBut [.err, .net, .mgt, .tow] s s'
  exact fr_calm hq (effect_next (formed_effect h)) (eff_statusReq_keeps rx ss d) (eff_statusReq_calm rx ss d) (by decide)

theorem frame_ackTimer (layer : Word) {s s' : State} (hq : s.settled = true) (h : exec (.ackTimer layer) s = .next s') : keepsBut (touches (.ackTimer layer)) s s' := by
  rw [exec_ackTimer] at h
  show keepsBut [.err, .net, .tow] s s'
  exact fr_nil hq (event_effect h) (eff_ackTimer_keeps layer) (by decide) (by decide)

theorem frame_fragmentWritten {s s' : State} (hq : s.settled = true) (h : exec .fragmentWritten s = .next s') : keepsBut (touches .fragmentWritten) s s' := by
  rw [exec_fragmentWritten] at h
  show keepsBut [.err, .net, .mgt, .tow, .str, .mem, .par] s s'
  exact fr_calm hq (event_effect h) (eff_fragmentWritten_keeps) (eff_fragmentWritten_calm) (by decide)

theorem frame_compressorStart {s s' : State} (hq : s.settled = true) (h : exec .compressorStart s = .next s') : keepsBut (touches .compressorStart) s s' := by
  rw [exec_compressorStart] at h
  show keepsBut [.err, .tow, .cmp, .mem] s s'
  exact fr_nil hq (event_effect h) (eff_compressorStart_keeps) (by decide) (by decide)

theorem frame_chainDrain (c : Fin 2) {s s' : State} (hq : s.settled = true) (h : exec (.chainDrain c) s = .next s') : keepsBut (touches (.chainDrain c)) s s' := by
  rw [exec_chainDrain] at h
  show keepsBut [.err, .cmp, .mem] s s'
  exact fr_nil hq (event_effect h) (eff_chainDrain_keeps c) (by decide) (by decide)

theorem frame_compressAbandon (c : Fin 2) {s s' : State} (hq : s.settled = true) (h : exec (.compressAbandon c) s = .next s') : keepsBut (touches (.compressAbandon c)) s s' := by
  rw [exec_compressAbandon] at h
  show keepsBut [.err, .net, .mgt, .tow, .cmp, .str, .mem, .par] s s'
  exact fr_calm hq (event_effect h) (eff_compressAbandon_keeps c) (eff_compressAbandon_calm c) (by decide)

theorem frame_compressionComplete (c : Fin 2) {s s' : State} (hq : s.settled = true) (h : exec (.compressionComplete c) s = .next s') : keepsBut (touches (.compressionComplete c)) s s' := by
  rw [exec_compressionComplete] at h
  show keepsBut [.err, .net, .mgt, .tow, .cmp, .str, .mem, .par] s s'
  exact fr_calm hq (event_effect h) (eff_compressionComplete_keeps c) (eff_compressionComplete_calm c) (by decide)

theorem frame_nozzleRequest (m : Master) (v : Word) {s s' : State} (hq : s.settled = true) (h : exec (.nozzleRequest m v) s = .next s') : keepsBut (touches (.nozzleRequest m v)) s s' := by
  rw [exec_nozzleRequest] at h
  show keepsBut (byMaster m [.free, .err, .mgt, .tow, .fir, .nzl, .gat, .mem, .par]) s s'
  exact fr_acc hq (fun hm u => acc_nozzleRequest_keeps hm _ u) h (by decide)

theorem frame_nozzleSwap {s s' : State} (hq : s.settled = true) (h : exec .nozzleSwap s = .next s') : keepsBut (touches .nozzleSwap) s s' := by
  rw [exec_nozzleSwap] at h
  show keepsBut [.free, .err, .mgt, .tow, .fir, .nzl, .gat, .mem] s s'
  exact fr_calm hq (event_effect h) (eff_nozzleSwap_keeps) (eff_nozzleSwap_calm) (by decide)

theorem frame_journalReadLo (m : Master) {s s' : State} (hq : s.settled = true) (h : exec (.journalReadLo m) s = .next s') : keepsBut (touches (.journalReadLo m)) s s' := by
  rw [exec_journalReadLo] at h
  show keepsBut [.err] s s'
  exact fr_rd hq (acc_journalReadLo_keeps m) (by decide) h (by decide)

theorem frame_journalReadHi (m : Master) {s s' : State} (hq : s.settled = true) (h : exec (.journalReadHi m) s = .next s') : keepsBut (touches (.journalReadHi m)) s s' := by
  rw [exec_journalReadHi] at h
  show keepsBut [.err, .nzl] s s'
  exact fr_rd hq (acc_journalReadHi_keeps m) (by decide) h (by decide)

theorem frame_gateStart (m : Master) (g : Gate) {s s' : State} (hq : s.settled = true) (h : exec (.gateStart m g) s = .next s') : keepsBut (touches (.gateStart m g)) s s' := by
  rw [exec_gateStart] at h
  show keepsBut (byMaster m [.err, .mgt, .gat, .cal]) s s'
  exact fr_acc hq (fun hm u => acc_gateStart_keeps hm _ u) h (by decide)

theorem frame_gateAbortCmd (m : Master) (g : Gate) {s s' : State} (hq : s.settled = true) (h : exec (.gateAbortCmd m g) s = .next s') : keepsBut (touches (.gateAbortCmd m g)) s s' := by
  rw [exec_gateAbortCmd] at h
  show keepsBut (byMaster m [.err, .mgt, .gat, .cal]) s s'
  exact fr_acc hq (fun hm u => acc_gateAbortCmd_keeps hm _ u) h (by decide)

theorem frame_gateSweepBegin (g : Gate) {s s' : State} (hq : s.settled = true) (h : exec (.gateSweepBegin g) s = .next s') : keepsBut (touches (.gateSweepBegin g)) s s' := by
  rw [exec_gateSweepBegin] at h
  show keepsBut [.err, .gat] s s'
  exact fr_nil hq (event_effect h) (eff_gateSweepBegin_keeps g) (by decide) (by decide)

theorem frame_gateTestStrike (g : Gate) {s s' : State} (hq : s.settled = true) (h : exec (.gateTestStrike g) s = .next s') : keepsBut (touches (.gateTestStrike g)) s s' := by
  rw [exec_gateTestStrike] at h
  show keepsBut [.err, .gat, .gul] s s'
  exact fr_nil hq (event_effect h) (eff_gateTestStrike_keeps g) (by decide) (by decide)

theorem frame_gateEdge (g : Gate) (t : Nat) {s s' : State} (hq : s.settled = true) (h : exec (.gateEdge g t) s = .next s') : keepsBut (touches (.gateEdge g t)) s s' := by
  rw [exec_gateEdge] at h
  show keepsBut [.err, .gat] s s'
  exact fr_nil hq (effect_next h) (eff_gateEdge_keeps g t) (by decide) (by decide)

theorem frame_gateSlotResult (g : Gate) (noise : Bool) {s s' : State} (hq : s.settled = true) (h : exec (.gateSlotResult g noise) s = .next s') : keepsBut (touches (.gateSlotResult g noise)) s s' := by
  rw [exec_gateSlotResult] at h
  show keepsBut [.free, .err, .mgt, .tow, .fir, .nzl, .gat, .mem, .par] s s'
  exact fr_calm hq (event_effect h) (eff_gateSlotResult_keeps g noise) (eff_gateSlotResult_calm g noise) (by decide)

theorem frame_linkAttempt (lane : RxLane) {s s' : State} (hq : s.settled = true) (h : exec (.linkAttempt lane) s = .next s') : keepsBut (touches (.linkAttempt lane)) s s' := by
  rw [exec_linkAttempt] at h
  show keepsBut [.err, .gul, .par] s s'
  exact fr_nil hq (event_effect h) (eff_linkAttempt_keeps lane) (by decide) (by decide)

theorem frame_linkSignalDetect (lane : RxLane) {s s' : State} (hq : s.settled = true) (h : exec (.linkSignalDetect lane) s = .next s') : keepsBut (touches (.linkSignalDetect lane)) s s' := by
  rw [exec_linkSignalDetect] at h
  show keepsBut [.err, .gul, .par] s s'
  exact fr_nil hq (event_effect h) (eff_linkSignalDetect_keeps lane) (by decide) (by decide)

theorem frame_linkPollDone (lane : RxLane) (seen : PollSeen) {s s' : State} (hq : s.settled = true) (h : exec (.linkPollDone lane seen) s = .next s') : keepsBut (touches (.linkPollDone lane seen)) s s' := by
  rw [exec_linkPollDone] at h
  show keepsBut [.err, .gul, .par] s s'
  exact fr_nil hq (event_effect h) (eff_linkPollDone_keeps lane seen) (by decide) (by decide)

theorem frame_linkLockDone (lane : RxLane) (seen : LockSeen) {s s' : State} (hq : s.settled = true) (h : exec (.linkLockDone lane seen) s = .next s') : keepsBut (touches (.linkLockDone lane seen)) s s' := by
  rw [exec_linkLockDone] at h
  show keepsBut [.err, .gul, .par] s s'
  exact fr_nil hq (event_effect h) (eff_linkLockDone_keeps lane seen) (by decide) (by decide)

theorem frame_linkTimeout (lane : RxLane) {s s' : State} (hq : s.settled = true) (h : exec (.linkTimeout lane) s = .next s') : keepsBut (touches (.linkTimeout lane)) s s' := by
  rw [exec_linkTimeout] at h
  show keepsBut [.err, .mgt, .fir, .gul, .mem, .par] s s'
  exact fr_calm hq (event_effect h) (eff_linkTimeout_keeps lane) (eff_linkTimeout_calm lane) (by decide)

theorem frame_linkIdleDetect (lane : RxLane) {s s' : State} (hq : s.settled = true) (h : exec (.linkIdleDetect lane) s = .next s') : keepsBut (touches (.linkIdleDetect lane)) s s' := by
  rw [exec_linkIdleDetect] at h
  show keepsBut [.err, .mgt, .tow, .fir, .nzl, .gul, .mem, .par] s s'
  exact fr_calm hq (effect_next h) (eff_linkIdleDetect_keeps lane) (eff_linkIdleDetect_calm lane) (by decide)

theorem frame_gulistAck (p : Port) (f : Bytes) {s s' : State} (hq : s.settled = true) (h : exec (.gulistAck p f) s = .next s') : keepsBut (touches (.gulistAck p f)) s s' := by
  rw [exec_gulistAck] at h
  show keepsBut [.regs, .err, .mgt, .fir, .gul, .mem] s s'
  exact fr_calm hq (effect_next (formed_effect h)) (eff_gulistAck_keeps p f) (eff_gulistAck_calm p f) (by decide)

theorem frame_gulistStatusRx (p : Port) (f : Bytes) {s s' : State} (hq : s.settled = true) (h : exec (.gulistStatusRx p f) s = .next s') : keepsBut (touches (.gulistStatusRx p f)) s s' := by
  rw [exec_gulistStatusRx] at h
  show keepsBut [.err, .mgt, .tow, .fir, .nzl, .gul, .mem] s s'
  exact fr_calm hq (effect_next (formed_effect h)) (eff_gulistStatusRx_keeps p f) (eff_gulistStatusRx_calm p f) (by decide)

theorem frame_statusTimeout (p : Port) {s s' : State} (hq : s.settled = true) (h : exec (.statusTimeout p) s = .next s') : keepsBut (touches (.statusTimeout p)) s s' := by
  rw [exec_statusTimeout] at h
  show keepsBut [.err, .mgt, .tow, .fir, .nzl, .gul, .mem] s s'
  exact fr_calm hq (event_effect h) (eff_statusTimeout_keeps p) (eff_statusTimeout_calm p) (by decide)

theorem frame_gulistSense (p : Port) (f : Bytes) {s s' : State} (hq : s.settled = true) (h : exec (.gulistSense p f) s = .next s') : keepsBut (touches (.gulistSense p f)) s s' := by
  rw [exec_gulistSense] at h
  show keepsBut [.err, .mgt, .gul] s s'
  exact fr_calm hq (effect_next (formed_effect h)) (eff_gulistSense_keeps p f) (eff_gulistSense_calm p f) (by decide)

theorem frame_gulistFrameDiscard (p : Port) (flaws : RxFlaws) (f : Bytes) {s s' : State} (hq : s.settled = true) (h : exec (.gulistFrameDiscard p flaws f) s = .next s') : keepsBut (touches (.gulistFrameDiscard p flaws f)) s s' := by
  rw [exec_gulistFrameDiscard] at h
  show keepsBut [.regs, .err, .mgt, .fir, .gul, .mem] s s'
  exact fr_calm hq (effect_next (formed_effect h)) (eff_gulistFrameDiscard_keeps p flaws f) (eff_gulistFrameDiscard_calm p flaws f) (by decide)

theorem frame_cfgTimeout (p : Port) {s s' : State} (hq : s.settled = true) (h : exec (.cfgTimeout p) s = .next s') : keepsBut (touches (.cfgTimeout p)) s s' := by
  rw [exec_cfgTimeout] at h
  show keepsBut [.err, .gul] s s'
  exact fr_nil hq (event_effect h) (eff_cfgTimeout_keeps p) (by decide) (by decide)

theorem frame_statusSend {s s' : State} (hq : s.settled = true) (h : exec .statusSend s = .next s') : keepsBut (touches .statusSend) s s' := by
  rw [exec_statusSend] at h
  show keepsBut [.err, .gul] s s'
  exact fr_nil hq (effect_next h) (eff_statusSend_keeps) (by decide) (by decide)

theorem frame_alignSend (lane : RxLane) {s s' : State} (hq : s.settled = true) (h : exec (.alignSend lane) s = .next s') : keepsBut (touches (.alignSend lane)) s s' := by
  rw [exec_alignSend] at h
  show keepsBut [.err, .gul, .par] s s'
  exact fr_nil hq (event_effect h) (eff_alignSend_keeps lane) (by decide) (by decide)

theorem frame_alignMissing (p : Port) {s s' : State} (hq : s.settled = true) (h : exec (.alignMissing p) s = .next s') : keepsBut (touches (.alignMissing p)) s s' := by
  rw [exec_alignMissing] at h
  show keepsBut [.err, .mgt, .gul] s s'
  exact fr_calm hq (event_effect h) (eff_alignMissing_keeps p) (eff_alignMissing_calm p) (by decide)

theorem frame_adaptFreeze (lane : RxLane) {s s' : State} (hq : s.settled = true) (h : exec (.adaptFreeze lane) s = .next s') : keepsBut (touches (.adaptFreeze lane)) s s' := by
  rw [exec_adaptFreeze] at h
  show keepsBut [.err, .gul, .par] s s'
  exact fr_nil hq (event_effect h) (eff_adaptFreeze_keeps lane) (by decide) (by decide)

theorem frame_gulRetrain (m : Master) (p : Port) (v : Word) {s s' : State} (hq : s.settled = true) (h : exec (.gulRetrain m p v) s = .next s') : keepsBut (touches (.gulRetrain m p v)) s s' := by
  rw [exec_gulRetrain] at h
  show keepsBut (byMaster m [.err, .mgt, .tow, .fir, .nzl, .gul, .mem]) s s'
  exact fr_acc hq (fun hm u => acc_gulRetrain_keeps hm _ _ u) (formed_effect h) (by decide)

theorem frame_gulPortClr (m : Master) (p : Port) (v : Word) {s s' : State} (hq : s.settled = true) (h : exec (.gulPortClr m p v) s = .next s') : keepsBut (touches (.gulPortClr m p v)) s s' := by
  rw [exec_gulPortClr] at h
  show keepsBut (byMaster m [.err, .mgt, .tow, .fir, .nzl, .gul, .mem]) s s'
  exact fr_acc hq (fun hm u => acc_gulPortClr_keeps hm _ _ u) (formed_effect h) (by decide)

theorem frame_hostCfgAccess (m : Master) (v : Word) {s s' : State} (hq : s.settled = true) (h : exec (.hostCfgAccess m v) s = .next s') : keepsBut (touches (.hostCfgAccess m v)) s s' := by
  rw [exec_hostCfgAccess] at h
  show keepsBut (byMaster m [.err, .mgt, .gul]) s s'
  exact fr_acc hq (fun hm u => acc_hostCfgAccess_keeps hm _ u) h (by decide)

theorem frame_eyeScanStart (m : Master) (v : Word) {s s' : State} (hq : s.settled = true) (h : exec (.eyeScanStart m v) s = .next s') : keepsBut (touches (.eyeScanStart m v)) s s' := by
  rw [exec_eyeScanStart] at h
  show keepsBut (byMaster m [.err, .mgt, .gul]) s s'
  exact fr_acc hq (fun hm u => acc_eyeScanStart_keeps hm _ u) h (by decide)

theorem frame_eyeScanDone (mismatches : Nat) {s s' : State} (hq : s.settled = true) (h : exec (.eyeScanDone mismatches) s = .next s') : keepsBut (touches (.eyeScanDone mismatches)) s s' := by
  rw [exec_eyeScanDone] at h
  show keepsBut [.err, .gul] s s'
  exact fr_nil hq (event_effect h) (eff_eyeScanDone_keeps mismatches) (by decide) (by decide)

theorem frame_camFrameStart (c : Ctx) (csifn : BitVec 16) {s s' : State} (hq : s.settled = true) (h : exec (.camFrameStart c csifn) s = .next s') : keepsBut (touches (.camFrameStart c csifn)) s s' := by
  rw [exec_camFrameStart] at h
  show keepsBut [.err, .mgt, .insp] s s'
  exact fr_calm hq (event_effect h) (eff_camFrameStart_keeps c csifn) (eff_camFrameStart_calm c csifn) (by decide)

theorem frame_camFrameEnd (c : Ctx) {s s' : State} (hq : s.settled = true) (h : exec (.camFrameEnd c) s = .next s') : keepsBut (touches (.camFrameEnd c)) s s' := by
  rw [exec_camFrameEnd] at h
  show keepsBut [.err, .mgt, .insp] s s'
  exact fr_calm hq (effect_next h) (eff_camFrameEnd_keeps c) (eff_camFrameEnd_calm c) (by decide)

theorem frame_camLineRx (c : Ctx) (pkt : BitVec 6 × Bytes) (crc : BitVec 16) {s s' : State} (hq : s.settled = true) (h : exec (.camLineRx c pkt crc) s = .next s') : keepsBut (touches (.camLineRx c pkt crc)) s s' := by
  rw [exec_camLineRx] at h
  show keepsBut [.err, .mgt, .insp, .mem] s s'
  exact fr_calm hq (effect_next (formed_effect h)) (eff_camLineRx_keeps c pkt crc) (eff_camLineRx_calm c pkt crc) (by decide)

theorem frame_camPacketIgnored (port : Fin 4) (why : CamIgnored) {s s' : State} (hq : s.settled = true) (h : exec (.camPacketIgnored port why) s = .next s') : keepsBut (touches (.camPacketIgnored port why)) s s' := by
  rw [exec_camPacketIgnored] at h
  show keepsBut [.err, .mgt, .insp] s s'
  exact fr_calm hq (effect_next (formed_effect h)) (eff_camPacketIgnored_keeps port why) (eff_camPacketIgnored_calm port why) (by decide)

theorem frame_stripeProcess {s s' : State} (hq : s.settled = true) (h : exec .stripeProcess s = .next s') : keepsBut (touches .stripeProcess) s s' := by
  rw [exec_stripeProcess] at h
  show keepsBut [.err, .insp, .mem] s s'
  exact fr_nil hq (event_effect h) (eff_stripeProcess_keeps) (by decide) (by decide)

theorem frame_recordWrite (c : Ctx) {s s' : State} (hq : s.settled = true) (h : exec (.recordWrite c) s = .next s') : keepsBut (touches (.recordWrite c)) s s' := by
  rw [exec_recordWrite] at h
  show keepsBut [.err, .mgt, .insp, .mem] s s'
  exact fr_calm hq (event_effect h) (eff_recordWrite_keeps c) (eff_recordWrite_calm c) (by decide)

theorem frame_streakDetect (c : Ctx) {s s' : State} (hq : s.settled = true) (h : exec (.streakDetect c) s = .next s') : keepsBut (touches (.streakDetect c)) s s' := by
  rw [exec_streakDetect] at h
  show keepsBut [.free, .err, .mgt, .tow, .fir, .nzl, .gat, .insp, .mem, .par] s s'
  exact fr_calm hq (event_effect h) (eff_streakDetect_keeps c) (eff_streakDetect_calm c) (by decide)

theorem frame_recordRelease (m : Master) (c : Ctx) (v : Word) {s s' : State} (hq : s.settled = true) (h : exec (.recordRelease m c v) s = .next s') : keepsBut (touches (.recordRelease m c v)) s s' := by
  rw [exec_recordRelease] at h
  show keepsBut (byMaster m [.err, .mgt, .insp]) s s'
  exact fr_acc hq (fun hm u => acc_recordRelease_keeps hm _ _ u) h (by decide)

theorem frame_dramIssue (ch : Chan) (cmdBad : Bool) {s s' : State} (_ : s.settled = true) (h : exec (.dramIssue ch cmdBad) s = .next s') : keepsBut (touches (.dramIssue ch cmdBad)) s s' := by
  rw [exec_dramIssue] at h
  show keepsBut [.free, .sys, .err, .dbg, .mgt, .tow, .cmp, .str, .fir, .gat, .mem, .axs, .lmp, .par, .cal] s s'
  exact fr_log (event_effect h) (eff_dramIssue_keeps ch cmdBad) (by decide)

theorem frame_dramReadReturn (ch : Chan) (e : List Flip) {s s' : State} (_ : s.settled = true) (h : exec (.dramReadReturn ch e) s = .next s') : keepsBut (touches (.dramReadReturn ch e)) s s' := by
  rw [exec_dramReadReturn] at h
  show keepsBut [.free, .sys, .err, .dbg, .mgt, .tow, .cmp, .str, .fir, .gat, .mem, .axs, .lmp, .par, .cal] s s'
  exact fr_log (event_effect h) (eff_dramReadReturn_keeps ch e) (by decide)

theorem frame_refreshDue (ch : Chan) {s s' : State} (hq : s.settled = true) (h : exec (.refreshDue ch) s = .next s') : keepsBut (touches (.refreshDue ch)) s s' := by
  rw [exec_refreshDue] at h
  show keepsBut [.err, .mem] s s'
  exact fr_nil hq (event_effect h) (eff_refreshDue_keeps ch) (by decide) (by decide)

theorem frame_memVerifyCmd (m : Master) (v : Word) {s s' : State} (hq : s.settled = true) (h : exec (.memVerifyCmd m v) s = .next s') : keepsBut (touches (.memVerifyCmd m v)) s s' := by
  rw [exec_memVerifyCmd] at h
  show keepsBut (byMaster m [.err, .mgt, .mem]) s s'
  exact fr_acc hq (fun hm u => acc_memVerifyCmd_keeps hm _ u) h (by decide)

theorem frame_verifySlice (ch : Chan) (got0 : Bytes) (got1 : Bytes) {s s' : State} (_ : s.settled = true) (h : exec (.verifySlice ch got0 got1) s = .next s') : keepsBut (touches (.verifySlice ch got0 got1)) s s' := by
  rw [exec_verifySlice] at h
  show keepsBut [.free, .sys, .err, .dbg, .net, .mgt, .tow, .plc, .cmp, .str, .fir, .gat, .mem, .axs, .lmp, .par, .cal] s s'
  exact fr_log (event_effect h) (eff_verifySlice_keeps ch got0 got1) (by decide)

theorem frame_bankRead (b : Bank) (r : Fin 4) (off : Nat) (len : Nat) (e : List Flip) {s s' : State} (_ : s.settled = true) (h : exec (.bankRead b r off len e) s = .next s') : keepsBut (touches (.bankRead b r off len e)) s s' := by
  rw [exec_bankRead] at h
  show keepsBut [.sys, .err, .mgt, .fir, .gat, .mem, .axs, .lmp, .par, .cal] s s'
  exact fr_log (effect_next (formed_effect h)) (eff_bankRead_keeps b r off len e) (by decide)

theorem frame_bankWrite (b : Bank) (r : Fin 4) (off : Nat) (data : Bytes) (e : List Flip) {s s' : State} (_ : s.settled = true) (h : exec (.bankWrite b r off data e) s = .next s') : keepsBut (touches (.bankWrite b r off data e)) s s' := by
  rw [exec_bankWrite] at h
  show keepsBut [.sys, .err, .mgt, .tow, .fir, .nzl, .gat, .mem, .axs, .lmp, .par, .cal] s s'
  exact fr_log (effect_next (formed_effect h)) (eff_bankWrite_keeps b r off data e) (by decide)

theorem frame_bankAdd (b : Bank) (r : Fin 4) (off : Nat) (v : Word) (e : List Flip) {s s' : State} (_ : s.settled = true) (h : exec (.bankAdd b r off v e) s = .next s') : keepsBut (touches (.bankAdd b r off v e)) s s' := by
  rw [exec_bankAdd] at h
  show keepsBut [.sys, .err, .mgt, .tow, .fir, .nzl, .gat, .mem, .axs, .lmp, .par, .cal] s s'
  exact fr_log (effect_next (formed_effect h)) (eff_bankAdd_keeps b r off v e) (by decide)

theorem frame_bankAddSat (b : Bank) (r : Fin 4) (off : Nat) (v : Word) (e : List Flip) {s s' : State} (_ : s.settled = true) (h : exec (.bankAddSat b r off v e) s = .next s') : keepsBut (touches (.bankAddSat b r off v e)) s s' := by
  rw [exec_bankAddSat] at h
  show keepsBut [.sys, .err, .mgt, .tow, .fir, .nzl, .gat, .mem, .axs, .lmp, .par, .cal] s s'
  exact fr_log (effect_next (formed_effect h)) (eff_bankAddSat_keeps b r off v e) (by decide)

theorem frame_bankSwap (b : Bank) (r : Fin 4) (off : Nat) (v : BitVec 64) (e : List Flip) {s s' : State} (_ : s.settled = true) (h : exec (.bankSwap b r off v e) s = .next s') : keepsBut (touches (.bankSwap b r off v e)) s s' := by
  rw [exec_bankSwap] at h
  show keepsBut [.sys, .err, .mgt, .tow, .fir, .nzl, .gat, .mem, .axs, .lmp, .par, .cal] s s'
  exact fr_log (effect_next (formed_effect h)) (eff_bankSwap_keeps b r off v e) (by decide)

theorem frame_arbRound (inst : Fin 12) (reqs : BitVec 4) {s s' : State} (hq : s.settled = true) (h : exec (.arbRound inst reqs) s = .next s') : keepsBut (touches (.arbRound inst reqs)) s s' := by
  rw [exec_arbRound] at h
  show keepsBut [.err, .mem] s s'
  exact fr_nil hq (event_effect h) (eff_arbRound_keeps inst reqs) (by decide) (by decide)

theorem frame_axisProfileUpdate (a : Axis) {s s' : State} (_ : s.settled = true) (h : exec (.axisProfileUpdate a) s = .next s') : keepsBut (touches (.axisProfileUpdate a)) s s' := by
  rw [exec_axisProfileUpdate] at h
  show keepsBut [.regs, .sys, .err, .mgt, .fir, .gat, .axs, .lmp, .par, .cal] s s'
  exact fr_log (event_effect h) (eff_axisProfileUpdate_keeps a) (by decide)

theorem frame_microstep (a : Axis) {s s' : State} (_ : s.settled = true) (h : exec (.microstep a) s = .next s') : keepsBut (touches (.microstep a)) s s' := by
  rw [exec_microstep] at h
  show keepsBut [.sys, .err, .mgt, .fir, .gat, .axs, .lmp, .par, .cal] s s'
  exact fr_log (event_effect h) (eff_microstep_keeps a) (by decide)

theorem frame_chopperPhase (a : Axis) (phB : Bool) (dur : Nat) (sense : Nat) (mid : Nat) {s s' : State} (hq : s.settled = true) (h : exec (.chopperPhase a phB dur sense mid) s = .next s') : keepsBut (touches (.chopperPhase a phB dur sense mid)) s s' := by
  rw [exec_chopperPhase] at h
  show keepsBut [.err, .axs] s s'
  exact fr_nil hq (event_effect h) (eff_chopperPhase_keeps a phB dur sense mid) (by decide) (by decide)

theorem frame_overcurrent (a : Axis) {s s' : State} (hq : s.settled = true) (h : exec (.overcurrent a) s = .next s') : keepsBut (touches (.overcurrent a)) s s' := by
  rw [exec_overcurrent] at h
  show keepsBut [.regs, .err, .mgt, .axs] s s'
  exact fr_calm hq (event_effect h) (eff_overcurrent_keeps a) (eff_overcurrent_calm a) (by decide)

theorem frame_hardLimit (a : Axis) (hi : Bool) {s s' : State} (hq : s.settled = true) (h : exec (.hardLimit a hi) s = .next s') : keepsBut (touches (.hardLimit a hi)) s s' := by
  rw [exec_hardLimit] at h
  show keepsBut [.regs, .err, .mgt, .axs] s s'
  exact fr_calm hq (effect_next h) (eff_hardLimit_keeps a hi) (eff_hardLimit_calm a hi) (by decide)

theorem frame_axisHoldCurrent (a : Axis) {s s' : State} (hq : s.settled = true) (h : exec (.axisHoldCurrent a) s = .next s') : keepsBut (touches (.axisHoldCurrent a)) s s' := by
  rw [exec_axisHoldCurrent] at h
  show keepsBut [.err, .axs] s s'
  exact fr_nil hq (event_effect h) (eff_axisHoldCurrent_keeps a) (by decide) (by decide)

theorem frame_axisStandstill (a : Axis) {s s' : State} (hq : s.settled = true) (h : exec (.axisStandstill a) s = .next s') : keepsBut (touches (.axisStandstill a)) s s' := by
  rw [exec_axisStandstill] at h
  show keepsBut [.err, .axs] s s'
  exact fr_nil hq (event_effect h) (eff_axisStandstill_keeps a) (by decide) (by decide)

theorem frame_axisTargetWrite (m : Master) (a : Axis) (v : Word) {s s' : State} (hq : s.settled = true) (h : exec (.axisTargetWrite m a v) s = .next s') : keepsBut (touches (.axisTargetWrite m a v)) s s' := by
  rw [exec_axisTargetWrite] at h
  show keepsBut (byMaster m [.regs, .err, .mgt, .axs]) s s'
  exact fr_acc hq (fun hm u => acc_axisTargetWrite_keeps hm _ _ u) h (by decide)

theorem frame_axisVtargetWrite (m : Master) (a : Axis) (v : Word) {s s' : State} (hq : s.settled = true) (h : exec (.axisVtargetWrite m a v) s = .next s') : keepsBut (touches (.axisVtargetWrite m a v)) s s' := by
  rw [exec_axisVtargetWrite] at h
  show keepsBut (byMaster m [.regs, .err, .mgt, .axs]) s s'
  exact fr_acc hq (fun hm u => acc_axisVtargetWrite_keeps hm _ _ u) h (by decide)

theorem frame_axisModeWrite (m : Master) (a : Axis) (v : Word) {s s' : State} (hq : s.settled = true) (h : exec (.axisModeWrite m a v) s = .next s') : keepsBut (touches (.axisModeWrite m a v)) s s' := by
  rw [exec_axisModeWrite] at h
  show keepsBut (byMaster m [.regs, .err, .mgt]) s s'
  exact fr_acc hq (fun hm u => acc_axisModeWrite_keeps hm _ _ u) h (by decide)

theorem frame_axisSetpos (m : Master) (a : Axis) (v : Word) {s s' : State} (hq : s.settled = true) (h : exec (.axisSetpos m a v) s = .next s') : keepsBut (touches (.axisSetpos m a v)) s s' := by
  rw [exec_axisSetpos] at h
  show keepsBut (byMaster m [.regs, .err, .mgt, .axs]) s s'
  exact fr_acc hq (fun hm u => acc_axisSetpos_keeps hm _ _ u) h (by decide)

theorem frame_axisGearSchedule (m : Master) (a : Axis) (v : Word) {s s' : State} (hq : s.settled = true) (h : exec (.axisGearSchedule m a v) s = .next s') : keepsBut (touches (.axisGearSchedule m a v)) s s' := by
  rw [exec_axisGearSchedule] at h
  show keepsBut (byMaster m [.regs, .err, .mgt, .axs]) s s'
  exact fr_acc hq (fun hm u => acc_axisGearSchedule_keeps hm _ _ u) h (by decide)

theorem frame_axisTableAccess (m : Master) (acc : Access) {s s' : State} (hq : s.settled = true) (h : exec (.axisTableAccess m acc) s = .next s') : keepsBut (touches (.axisTableAccess m acc)) s s' := by
  rw [exec_axisTableAccess] at h
  show keepsBut (byMaster m [.regs, .err, .mgt, .axs]) s s'
  cases acc with
  | write v => exact fr_acc hq (fun hm u => acc_axisTableAccess_keeps hm _ u) h (by decide)
  | read =>
    have h' := fr_rd' (qs := [.regs, .err, .mgt, .axs]) hq (acc_axisTableAccess_read_keeps m) h (by decide)
    exact keepsBut_mono h' (by show ∀ p ∈ _, p ∈ byMaster m _; unfold byMaster; split <;> decide)

theorem frame_scanFrameStart {s s' : State} (hq : s.settled = true) (h : exec .scanFrameStart s = .next s') : keepsBut (touches .scanFrameStart) s s' := by
  rw [exec_scanFrameStart] at h
  show keepsBut [.err, .mgt, .lmp] s s'
  exact fr_calm hq (event_effect h) (eff_scanFrameStart_keeps) (eff_scanFrameStart_calm) (by decide)

theorem frame_lampSwapRequest (m : Master) (v : Word) {s s' : State} (hq : s.settled = true) (h : exec (.lampSwapRequest m v) s = .next s') : keepsBut (touches (.lampSwapRequest m v)) s s' := by
  rw [exec_lampSwapRequest] at h
  show keepsBut (byMaster m [.err, .mgt, .lmp]) s s'
  exact fr_acc hq (fun hm u => acc_lampSwapRequest_keeps hm _ u) h (by decide)

theorem frame_lbusFrameEcho (chain : Fin 2) (ret : Option (Nat × Bytes)) {s s' : State} (hq : s.settled = true) (h : exec (.lbusFrameEcho chain ret) s = .next s') : keepsBut (touches (.lbusFrameEcho chain ret)) s s' := by
  rw [exec_lbusFrameEcho] at h
  show keepsBut [.err, .mgt, .lmp] s s'
  exact fr_calm hq (event_effect h) (eff_lbusFrameEcho_keeps chain ret) (eff_lbusFrameEcho_calm chain ret) (by decide)

theorem frame_lbusCfgWrite (m : Master) (chain : Fin 2) (v : Word) {s s' : State} (hq : s.settled = true) (h : exec (.lbusCfgWrite m chain v) s = .next s') : keepsBut (touches (.lbusCfgWrite m chain v)) s s' := by
  rw [exec_lbusCfgWrite] at h
  show keepsBut (byMaster m [.err, .mgt, .lmp]) s s'
  exact fr_acc hq (fun hm u => acc_lbusCfgWrite_keeps hm _ _ u) h (by decide)

theorem frame_lampZoneAccess (m : Master) (acc : Access) {s s' : State} (hq : s.settled = true) (h : exec (.lampZoneAccess m acc) s = .next s') : keepsBut (touches (.lampZoneAccess m acc)) s s' := by
  rw [exec_lampZoneAccess] at h
  show keepsBut (byMaster m [.regs, .err, .mgt, .lmp]) s s'
  cases acc with
  | write v => exact fr_acc hq (fun hm u => acc_lampZoneAccess_keeps hm _ u) h (by decide)
  | read =>
    have h' := fr_rd' (qs := [.regs, .err, .mgt, .lmp]) hq (acc_lampZoneAccess_read_keeps m) h (by decide)
    exact keepsBut_mono h' (by show ∀ p ∈ _, p ∈ byMaster m _; unfold byMaster; split <;> decide)

theorem frame_lampUtblAccess (m : Master) (acc : Access) {s s' : State} (hq : s.settled = true) (h : exec (.lampUtblAccess m acc) s = .next s') : keepsBut (touches (.lampUtblAccess m acc)) s s' := by
  rw [exec_lampUtblAccess] at h
  show keepsBut (byMaster m [.regs, .err, .mgt, .lmp]) s s'
  cases acc with
  | write v => exact fr_acc hq (fun hm u => acc_lampUtblAccess_keeps hm _ u) h (by decide)
  | read =>
    have h' := fr_rd' (qs := [.regs, .err, .mgt, .lmp]) hq (acc_lampUtblAccess_read_keeps m) h (by decide)
    exact keepsBut_mono h' (by show ∀ p ∈ _, p ∈ byMaster m _; unfold byMaster; split <;> decide)

theorem frame_netLinkUp (np : NetPort) {s s' : State} (hq : s.settled = true) (h : exec (.netLinkUp np) s = .next s') : keepsBut (touches (.netLinkUp np)) s s' := by
  rw [exec_netLinkUp] at h
  show keepsBut [.err, .net, .mgt] s s'
  exact fr_calm hq (event_effect h) (eff_netLinkUp_keeps np) (eff_netLinkUp_calm np) (by decide)

theorem frame_netLinkDown (np : NetPort) {s s' : State} (hq : s.settled = true) (h : exec (.netLinkDown np) s = .next s') : keepsBut (touches (.netLinkDown np)) s s' := by
  rw [exec_netLinkDown] at h
  show keepsBut [.err, .net, .mgt] s s'
  exact fr_calm hq (event_effect h) (eff_netLinkDown_keeps np) (eff_netLinkDown_calm np) (by decide)

theorem frame_netFrameDiscard (np : NetPort) (fr : Frame) {s s' : State} (hq : s.settled = true) (h : exec (.netFrameDiscard np fr) s = .next s') : keepsBut (touches (.netFrameDiscard np fr)) s s' := by
  rw [exec_netFrameDiscard] at h
  show keepsBut [.err, .net] s s'
  exact fr_nil hq (event_effect h) (eff_netFrameDiscard_keeps np fr) (by decide) (by decide)

theorem frame_arpRequest (rx : Arrival) (q : NeighMsg) {s s' : State} (hq : s.settled = true) (h : exec (.arpRequest rx q) s = .next s') : keepsBut (touches (.arpRequest rx q)) s s' := by
  rw [exec_arpRequest] at h
  show keepsBut [.err, .net] s s'
  exact fr_nil hq (effect_next (formed_effect h)) (eff_arpRequest_keeps rx q) (by decide) (by decide)

theorem frame_arpRetry (np : NetPort) {s s' : State} (hq : s.settled = true) (h : exec (.arpRetry np) s = .next s') : keepsBut (touches (.arpRetry np)) s s' := by
  rw [exec_arpRetry] at h
  show keepsBut [.err, .net] s s'
  exact fr_nil hq (event_effect h) (eff_arpRetry_keeps np) (by decide) (by decide)

theorem frame_arpExpire (np : NetPort) (ip : BitVec 128) {s s' : State} (hq : s.settled = true) (h : exec (.arpExpire np ip) s = .next s') : keepsBut (touches (.arpExpire np ip)) s s' := by
  rw [exec_arpExpire] at h
  show keepsBut [.err, .net] s s'
  exact fr_nil hq (event_effect h) (eff_arpExpire_keeps np ip) (by decide) (by decide)

theorem frame_icmpEcho (rx : Arrival) (v6 : Bool) (srcIp : BitVec 128) (srcMac : BitVec 48) (body : Bytes) {s s' : State} (hq : s.settled = true) (h : exec (.icmpEcho rx v6 srcIp srcMac body) s = .next s') : keepsBut (touches (.icmpEcho rx v6 srcIp srcMac body)) s s' := by
  rw [exec_icmpEcho] at h
  show keepsBut [.err, .net] s s'
  exact fr_nil hq (effect_next (formed_effect h)) (eff_icmpEcho_keeps rx v6 srcIp srcMac body) (by decide) (by decide)

theorem frame_ptpAnnounce (rx : Arrival) (tr : PtpTransport) (d : Bytes) {s s' : State} (hq : s.settled = true) (h : exec (.ptpAnnounce rx tr d) s = .next s') : keepsBut (touches (.ptpAnnounce rx tr d)) s s' := by
  rw [exec_ptpAnnounce] at h
  show keepsBut [.err, .net, .ptp, .mgt] s s'
  exact fr_calm hq (effect_next (formed_effect h)) (eff_ptpAnnounce_keeps rx tr d) (eff_ptpAnnounce_calm rx tr d) (by decide)

theorem frame_ptpSync (rx : Arrival) (tr : PtpTransport) (d : Bytes) {s s' : State} (hq : s.settled = true) (h : exec (.ptpSync rx tr d) s = .next s') : keepsBut (touches (.ptpSync rx tr d)) s s' := by
  rw [exec_ptpSync] at h
  show keepsBut [.err, .net, .ptp, .mgt] s s'
  exact fr_calm hq (effect_next (formed_effect h)) (eff_ptpSync_keeps rx tr d) (eff_ptpSync_calm rx tr d) (by decide)

theorem frame_ptpFollowUp (rx : Arrival) (tr : PtpTransport) (d : Bytes) {s s' : State} (hq : s.settled = true) (h : exec (.ptpFollowUp rx tr d) s = .next s') : keepsBut (touches (.ptpFollowUp rx tr d)) s s' := by
  rw [exec_ptpFollowUp] at h
  show keepsBut [.err, .net, .ptp, .mgt] s s'
  exact fr_calm hq (effect_next (formed_effect h)) (eff_ptpFollowUp_keeps rx tr d) (eff_ptpFollowUp_calm rx tr d) (by decide)

theorem frame_ptpDelayResp (rx : Arrival) (tr : PtpTransport) (d : Bytes) {s s' : State} (hq : s.settled = true) (h : exec (.ptpDelayResp rx tr d) s = .next s') : keepsBut (touches (.ptpDelayResp rx tr d)) s s' := by
  rw [exec_ptpDelayResp] at h
  show keepsBut [.err, .net, .ptp, .mgt] s s'
  exact fr_calm hq (effect_next (formed_effect h)) (eff_ptpDelayResp_keeps rx tr d) (eff_ptpDelayResp_calm rx tr d) (by decide)

theorem frame_ptpPdelayReq (rx : Arrival) (tr : PtpTransport) (d : Bytes) {s s' : State} (hq : s.settled = true) (h : exec (.ptpPdelayReq rx tr d) s = .next s') : keepsBut (touches (.ptpPdelayReq rx tr d)) s s' := by
  rw [exec_ptpPdelayReq] at h
  show keepsBut [.err, .net, .ptp, .mgt] s s'
  exact fr_calm hq (effect_next (formed_effect h)) (eff_ptpPdelayReq_keeps rx tr d) (eff_ptpPdelayReq_calm rx tr d) (by decide)

theorem frame_ptpPdelayResp (rx : Arrival) (tr : PtpTransport) (d : Bytes) {s s' : State} (hq : s.settled = true) (h : exec (.ptpPdelayResp rx tr d) s = .next s') : keepsBut (touches (.ptpPdelayResp rx tr d)) s s' := by
  rw [exec_ptpPdelayResp] at h
  show keepsBut [.err, .net, .ptp, .mgt] s s'
  exact fr_calm hq (effect_next (formed_effect h)) (eff_ptpPdelayResp_keeps rx tr d) (eff_ptpPdelayResp_calm rx tr d) (by decide)

theorem frame_ptpPdelayRespFollowUp (rx : Arrival) (tr : PtpTransport) (d : Bytes) {s s' : State} (hq : s.settled = true) (h : exec (.ptpPdelayRespFollowUp rx tr d) s = .next s') : keepsBut (touches (.ptpPdelayRespFollowUp rx tr d)) s s' := by
  rw [exec_ptpPdelayRespFollowUp] at h
  show keepsBut [.err, .net, .ptp, .mgt] s s'
  exact fr_calm hq (effect_next (formed_effect h)) (eff_ptpPdelayRespFollowUp_keeps rx tr d) (eff_ptpPdelayRespFollowUp_calm rx tr d) (by decide)

theorem frame_ptpIgnored (rx : Arrival) (tr : PtpTransport) (d : Bytes) {s s' : State} (hq : s.settled = true) (h : exec (.ptpIgnored rx tr d) s = .next s') : keepsBut (touches (.ptpIgnored rx tr d)) s s' := by
  rw [exec_ptpIgnored] at h
  show keepsBut [.err, .net, .ptp, .mgt] s s'
  exact fr_calm hq (event_effect (formed_effect h)) (eff_ptpIgnored_keeps rx tr d) (eff_ptpIgnored_calm rx tr d) (by decide)

theorem frame_ptpDelayReqSend (dm : Dom) {s s' : State} (hq : s.settled = true) (h : exec (.ptpDelayReqSend dm) s = .next s') : keepsBut (touches (.ptpDelayReqSend dm)) s s' := by
  rw [exec_ptpDelayReqSend] at h
  show keepsBut [.err, .net, .ptp] s s'
  exact fr_nil hq (event_effect h) (eff_ptpDelayReqSend_keeps dm) (by decide) (by decide)

theorem frame_ptpPdelayReqSend (dm : Dom) {s s' : State} (hq : s.settled = true) (h : exec (.ptpPdelayReqSend dm) s = .next s') : keepsBut (touches (.ptpPdelayReqSend dm)) s s' := by
  rw [exec_ptpPdelayReqSend] at h
  show keepsBut [.err, .net, .ptp] s s'
  exact fr_nil hq (event_effect h) (eff_ptpPdelayReqSend_keeps dm) (by decide) (by decide)

theorem frame_ptpMasterTimeout (dm : Dom) (i : Fin 4) {s s' : State} (hq : s.settled = true) (h : exec (.ptpMasterTimeout dm i) s = .next s') : keepsBut (touches (.ptpMasterTimeout dm i)) s s' := by
  rw [exec_ptpMasterTimeout] at h
  show keepsBut [.err, .ptp, .mgt] s s'
  exact fr_calm hq (event_effect h) (eff_ptpMasterTimeout_keeps dm i) (eff_ptpMasterTimeout_calm dm i) (by decide)

theorem frame_ptpFollowupTimeout (dm : Dom) {s s' : State} (hq : s.settled = true) (h : exec (.ptpFollowupTimeout dm) s = .next s') : keepsBut (touches (.ptpFollowupTimeout dm)) s s' := by
  rw [exec_ptpFollowupTimeout] at h
  show keepsBut [.err, .ptp] s s'
  exact fr_nil hq (event_effect h) (eff_ptpFollowupTimeout_keeps dm) (by decide) (by decide)

theorem frame_ptpSyncTimeout (dm : Dom) {s s' : State} (hq : s.settled = true) (h : exec (.ptpSyncTimeout dm) s = .next s') : keepsBut (touches (.ptpSyncTimeout dm)) s s' := by
  rw [exec_ptpSyncTimeout] at h
  show keepsBut [.err, .ptp, .mgt] s s'
  exact fr_calm hq (event_effect h) (eff_ptpSyncTimeout_keeps dm) (eff_ptpSyncTimeout_calm dm) (by decide)

theorem frame_ptpHoldmax (dm : Dom) {s s' : State} (hq : s.settled = true) (h : exec (.ptpHoldmax dm) s = .next s') : keepsBut (touches (.ptpHoldmax dm)) s s' := by
  rw [exec_ptpHoldmax] at h
  show keepsBut [.err, .ptp, .mgt] s s'
  exact fr_calm hq (event_effect h) (eff_ptpHoldmax_keeps dm) (eff_ptpHoldmax_calm dm) (by decide)

theorem frame_domainSelect (m : Master) (v : Word) {s s' : State} (hq : s.settled = true) (h : exec (.domainSelect m v) s = .next s') : keepsBut (touches (.domainSelect m v)) s s' := by
  rw [exec_domainSelect] at h
  show keepsBut (byMaster m [.regs, .err, .ptp, .mgt]) s s'
  exact fr_acc hq (fun hm u => acc_domainSelect_keeps hm _ u) h (by decide)

theorem frame_fireDiscipline (cycles : Nat) {s s' : State} (hq : s.settled = true) (h : exec (.fireDiscipline cycles) s = .next s') : keepsBut (touches (.fireDiscipline cycles)) s s' := by
  rw [exec_fireDiscipline] at h
  show keepsBut [.err, .ptp, .mgt] s s'
  exact fr_calm hq (event_effect h) (eff_fireDiscipline_keeps cycles) (eff_fireDiscipline_calm cycles) (by decide)

theorem frame_ptpSnapshot (m : Master) (sel : TimeSel) {s s' : State} (hq : s.settled = true) (h : exec (.ptpSnapshot m sel) s = .next s') : keepsBut (touches (.ptpSnapshot m sel)) s s' := by
  rw [exec_ptpSnapshot] at h
  show keepsBut [.err, .ptp] s s'
  cases sel with
  | dom d => exact fr_rd hq (acc_ptpSnapshot_dom_keeps m d) (by decide) h (by decide)
  | device => exact fr_rd hq (acc_ptpSnapshot_device_keeps m) (by decide) h (by decide)

theorem frame_mgmtTick (temps : List Int) (refCodes : List (BitVec 3)) {s s' : State} (hq : s.settled = true) (h : exec (.mgmtTick temps refCodes) s = .next s') : keepsBut (touches (.mgmtTick temps refCodes)) s s' := by
  rw [exec_mgmtTick] at h
  show keepsBut [.err, .net, .ptp, .mgt, .str, .mem, .par, .cal] s s'
  exact fr_calm hq (event_effect (formed_effect h)) (eff_mgmtTick_keeps temps refCodes) (eff_mgmtTick_calm temps refCodes) (by decide)

theorem frame_rmpDiscard (rx : Arrival) (ss : Session) (d : Bytes) {s s' : State} (hq : s.settled = true) (h : exec (.rmpDiscard rx ss d) s = .next s') : keepsBut (touches (.rmpDiscard rx ss d)) s s' := by
  rw [exec_rmpDiscard] at h
  show keepsBut [.free, .regs, .sys, .err, .cap, .cfg, .keep, .net, .ptp, .mgt, .tow, .cmp, .str, .pos, .mil, .fir, .stg, .nzl, .gat, .gul, .insp, .mem, .axs, .lmp, .par, .cal] s s'
  exact fr_calm hq (event_effect (formed_effect h)) (eff_rmpDiscard_keeps rx ss d) (eff_rmpDiscard_calm rx ss d) (by decide)

theorem frame_rmpUnknownType (rx : Arrival) (ss : Session) (d : Bytes) {s s' : State} (hq : s.settled = true) (h : exec (.rmpUnknownType rx ss d) s = .next s') : keepsBut (touches (.rmpUnknownType rx ss d)) s s' := by
  rw [exec_rmpUnknownType] at h
  show keepsBut [.free, .regs, .sys, .err, .cap, .cfg, .keep, .net, .ptp, .mgt, .tow, .cmp, .str, .pos, .mil, .fir, .stg, .nzl, .gat, .gul, .insp, .mem, .axs, .lmp, .par, .cal] s s'
  exact fr_calm hq (effect_next (formed_effect h)) (eff_rmpUnknownType_keeps rx ss d) (eff_rmpUnknownType_calm rx ss d) (by decide)

theorem frame_rmpHello (rx : Arrival) (ss : Session) (d : Bytes) {s s' : State} (hq : s.settled = true) (h : exec (.rmpHello rx ss d) s = .next s') : keepsBut (touches (.rmpHello rx ss d)) s s' := by
  rw [exec_rmpHello] at h
  show keepsBut [.free, .regs, .sys, .err, .cap, .cfg, .keep, .net, .ptp, .mgt, .tow, .cmp, .str, .pos, .mil, .fir, .stg, .nzl, .gat, .gul, .insp, .mem, .axs, .lmp, .par, .cal] s s'
  exact fr_calm hq (effect_next (formed_effect h)) (eff_rmpHello_keeps rx ss d) (eff_rmpHello_calm rx ss d) (by decide)

theorem frame_rmpRead (rx : Arrival) (ss : Session) (d : Bytes) {s s' : State} (hq : s.settled = true) (h : exec (.rmpRead rx ss d) s = .next s') : keepsBut (touches (.rmpRead rx ss d)) s s' := by
  rw [exec_rmpRead] at h
  show keepsBut [.free, .regs, .sys, .err, .cap, .cfg, .keep, .net, .ptp, .mgt, .tow, .cmp, .str, .pos, .mil, .fir, .stg, .nzl, .gat, .gul, .insp, .mem, .axs, .lmp, .par, .cal] s s'
  exact fr_calm hq (effect_next (formed_effect h)) (eff_rmpRead_keeps rx ss d) (eff_rmpRead_calm rx ss d) (by decide)

theorem frame_rmpWrite (rx : Arrival) (ss : Session) (d : Bytes) {s s' : State} (hq : s.settled = true) (h : exec (.rmpWrite rx ss d) s = .next s') : keepsBut (touches (.rmpWrite rx ss d)) s s' := by
  rw [exec_rmpWrite] at h
  show keepsBut [.free, .regs, .sys, .err, .cap, .cfg, .keep, .net, .ptp, .mgt, .tow, .cmp, .str, .pos, .mil, .fir, .stg, .nzl, .gat, .gul, .insp, .mem, .axs, .lmp, .par, .cal] s s'
  exact fr_calm hq (effect_next (formed_effect h)) (eff_rmpWrite_keeps rx ss d) (eff_rmpWrite_calm rx ss d) (by decide)

theorem frame_rmpSwap (rx : Arrival) (ss : Session) (d : Bytes) {s s' : State} (hq : s.settled = true) (h : exec (.rmpSwap rx ss d) s = .next s') : keepsBut (touches (.rmpSwap rx ss d)) s s' := by
  rw [exec_rmpSwap] at h
  show keepsBut [.free, .regs, .sys, .err, .cap, .cfg, .keep, .net, .ptp, .mgt, .tow, .cmp, .str, .pos, .mil, .fir, .stg, .nzl, .gat, .gul, .insp, .mem, .axs, .lmp, .par, .cal] s s'
  exact fr_calm hq (effect_next (formed_effect h)) (eff_rmpSwap_keeps rx ss d) (eff_rmpSwap_calm rx ss d) (by decide)

theorem frame_rmpStatus (rx : Arrival) (ss : Session) (d : Bytes) {s s' : State} (hq : s.settled = true) (h : exec (.rmpStatus rx ss d) s = .next s') : keepsBut (touches (.rmpStatus rx ss d)) s s' := by
  rw [exec_rmpStatus] at h
  show keepsBut [.free, .regs, .sys, .err, .cap, .cfg, .keep, .net, .ptp, .mgt, .tow, .cmp, .str, .pos, .mil, .fir, .stg, .nzl, .gat, .gul, .insp, .mem, .axs, .lmp, .par, .cal] s s'
  exact fr_calm hq (effect_next (formed_effect h)) (eff_rmpStatus_keeps rx ss d) (eff_rmpStatus_calm rx ss d) (by decide)

theorem frame_rmpSubscribe (rx : Arrival) (ss : Session) (d : Bytes) {s s' : State} (hq : s.settled = true) (h : exec (.rmpSubscribe rx ss d) s = .next s') : keepsBut (touches (.rmpSubscribe rx ss d)) s s' := by
  rw [exec_rmpSubscribe] at h
  show keepsBut [.free, .regs, .sys, .err, .cap, .cfg, .keep, .net, .ptp, .mgt, .tow, .cmp, .str, .pos, .mil, .fir, .stg, .nzl, .gat, .gul, .insp, .mem, .axs, .lmp, .par, .cal] s s'
  exact fr_calm hq (effect_next (formed_effect h)) (eff_rmpSubscribe_keeps rx ss d) (eff_rmpSubscribe_calm rx ss d) (by decide)

theorem frame_subscriptionExpire (slot : Fin 4) {s s' : State} (hq : s.settled = true) (h : exec (.subscriptionExpire slot) s = .next s') : keepsBut (touches (.subscriptionExpire slot)) s s' := by
  rw [exec_subscriptionExpire] at h
  show keepsBut [.err, .mgt] s s'
  exact fr_nil hq (event_effect h) (eff_subscriptionExpire_keeps slot) (by decide) (by decide)

theorem frame_rmpHold (rx : Arrival) (ss : Session) (d : Bytes) {s s' : State} (hq : s.settled = true) (h : exec (.rmpHold rx ss d) s = .next s') : keepsBut (touches (.rmpHold rx ss d)) s s' := by
  rw [exec_rmpHold] at h
  show keepsBut [.free, .regs, .sys, .err, .cap, .cfg, .keep, .net, .ptp, .mgt, .tow, .cmp, .str, .pos, .mil, .fir, .stg, .nzl, .gat, .gul, .insp, .mem, .axs, .lmp, .par, .cal] s s'
  exact fr_calm hq (effect_next (formed_effect h)) (eff_rmpHold_keeps rx ss d) (eff_rmpHold_calm rx ss d) (by decide)

theorem frame_rmpResume (rx : Arrival) (ss : Session) (d : Bytes) {s s' : State} (hq : s.settled = true) (h : exec (.rmpResume rx ss d) s = .next s') : keepsBut (touches (.rmpResume rx ss d)) s s' := by
  rw [exec_rmpResume] at h
  show keepsBut [.free, .regs, .sys, .err, .cap, .cfg, .keep, .net, .ptp, .mgt, .tow, .cmp, .str, .pos, .mil, .fir, .stg, .nzl, .gat, .gul, .insp, .mem, .axs, .lmp, .par, .cal] s s'
  exact fr_calm hq (effect_next (formed_effect h)) (eff_rmpResume_keeps rx ss d) (eff_rmpResume_calm rx ss d) (by decide)

theorem frame_rmpStop (rx : Arrival) (ss : Session) (d : Bytes) {s s' : State} (hq : s.settled = true) (h : exec (.rmpStop rx ss d) s = .next s') : keepsBut (touches (.rmpStop rx ss d)) s s' := by
  rw [exec_rmpStop] at h
  show keepsBut [.free, .regs, .sys, .err, .cap, .cfg, .keep, .net, .ptp, .mgt, .tow, .cmp, .str, .pos, .mil, .fir, .stg, .nzl, .gat, .gul, .insp, .mem, .axs, .lmp, .par, .cal] s s'
  exact fr_calm hq (effect_next (formed_effect h)) (eff_rmpStop_keeps rx ss d) (eff_rmpStop_calm rx ss d) (by decide)

theorem frame_rmpAcknowledge (rx : Arrival) (ss : Session) (d : Bytes) {s s' : State} (hq : s.settled = true) (h : exec (.rmpAcknowledge rx ss d) s = .next s') : keepsBut (touches (.rmpAcknowledge rx ss d)) s s' := by
  rw [exec_rmpAcknowledge] at h
  show keepsBut [.free, .regs, .sys, .err, .cap, .cfg, .keep, .net, .ptp, .mgt, .tow, .cmp, .str, .pos, .mil, .fir, .stg, .nzl, .gat, .gul, .insp, .mem, .axs, .lmp, .par, .cal] s s'
  exact fr_calm hq (effect_next (formed_effect h)) (eff_rmpAcknowledge_keeps rx ss d) (eff_rmpAcknowledge_calm rx ss d) (by decide)

theorem frame_rmpReset (rx : Arrival) (ss : Session) (d : Bytes) {s s' : State} (hq : s.settled = true) (h : exec (.rmpReset rx ss d) s = .next s') : keepsBut (touches (.rmpReset rx ss d)) s s' := by
  rw [exec_rmpReset] at h
  show keepsBut [.free, .regs, .sys, .err, .cap, .cfg, .keep, .net, .ptp, .mgt, .tow, .cmp, .str, .pos, .mil, .fir, .stg, .nzl, .gat, .gul, .insp, .mem, .axs, .lmp, .par, .cal] s s'
  exact fr_calm hq (effect_next (formed_effect h)) (eff_rmpReset_keeps rx ss d) (eff_rmpReset_calm rx ss d) (by decide)

theorem frame_resetExecute {s s' : State} (_ : s.settled = true) (h : exec .resetExecute s = .next s') : keepsBut (touches .resetExecute) s s' := by
  rw [exec_resetExecute] at h
  show keepsBut [.regs, .act, .sys, .err, .cap, .dbg, .cfg, .keep, .net, .netId, .ptp, .mgt, .tow, .plc, .cmp, .str, .pos, .mil, .fir, .stg, .nzl, .gat, .gul, .insp, .mem, .axs, .lmp, .par, .cal] s s'
  exact fr_log (event_effect h) (eff_resetExecute_keeps) (by decide)

theorem frame_rmpYield (rx : Arrival) (ss : Session) (d : Bytes) {s s' : State} (hq : s.settled = true) (h : exec (.rmpYield rx ss d) s = .next s') : keepsBut (touches (.rmpYield rx ss d)) s s' := by
  rw [exec_rmpYield] at h
  show keepsBut [.free, .regs, .sys, .err, .cap, .cfg, .keep, .net, .ptp, .mgt, .tow, .cmp, .str, .pos, .mil, .fir, .stg, .nzl, .gat, .gul, .insp, .mem, .axs, .lmp, .par, .cal] s s'
  exact fr_calm hq (effect_next (formed_effect h)) (eff_rmpYield_keeps rx ss d) (eff_rmpYield_calm rx ss d) (by decide)

theorem frame_rmpCommandInvalid (rx : Arrival) (ss : Session) (d : Bytes) {s s' : State} (hq : s.settled = true) (h : exec (.rmpCommandInvalid rx ss d) s = .next s') : keepsBut (touches (.rmpCommandInvalid rx ss d)) s s' := by
  rw [exec_rmpCommandInvalid] at h
  show keepsBut [.free, .regs, .sys, .err, .cap, .cfg, .keep, .net, .ptp, .mgt, .tow, .cmp, .str, .pos, .mil, .fir, .stg, .nzl, .gat, .gul, .insp, .mem, .axs, .lmp, .par, .cal] s s'
  exact fr_calm hq (effect_next (formed_effect h)) (eff_rmpCommandInvalid_keeps rx ss d) (eff_rmpCommandInvalid_calm rx ss d) (by decide)

theorem frame_tetherHeartbeatSend {s s' : State} (hq : s.settled = true) (h : exec .tetherHeartbeatSend s = .next s') : keepsBut (touches .tetherHeartbeatSend) s s' := by
  rw [exec_tetherHeartbeatSend] at h
  show keepsBut [.err, .par] s s'
  exact fr_nil hq (event_effect h) (eff_tetherHeartbeatSend_keeps) (by decide) (by decide)

theorem frame_tetherHeartbeatRx (f : Bytes) {s s' : State} (hq : s.settled = true) (h : exec (.tetherHeartbeatRx f) s = .next s') : keepsBut (touches (.tetherHeartbeatRx f)) s s' := by
  rw [exec_tetherHeartbeatRx] at h
  show keepsBut [.err, .mgt, .par] s s'
  exact fr_calm hq (effect_next (formed_effect h)) (eff_tetherHeartbeatRx_keeps f) (eff_tetherHeartbeatRx_calm f) (by decide)

theorem frame_netHeartbeatRx (rx : Arrival) (d : Bytes) {s s' : State} (hq : s.settled = true) (h : exec (.netHeartbeatRx rx d) s = .next s') : keepsBut (touches (.netHeartbeatRx rx d)) s s' := by
  rw [exec_netHeartbeatRx] at h
  show keepsBut [.err, .net, .mgt, .par] s s'
  exact fr_calm hq (effect_next (formed_effect h)) (eff_netHeartbeatRx_keeps rx d) (eff_netHeartbeatRx_calm rx d) (by decide)

theorem frame_tetherPathMiss {s s' : State} (hq : s.settled = true) (h : exec .tetherPathMiss s = .next s') : keepsBut (touches .tetherPathMiss) s s' := by
  rw [exec_tetherPathMiss] at h
  show keepsBut [.err, .mgt, .par] s s'
  exact fr_calm hq (event_effect h) (eff_tetherPathMiss_keeps) (eff_tetherPathMiss_calm) (by decide)

theorem frame_netPathMiss {s s' : State} (hq : s.settled = true) (h : exec .netPathMiss s = .next s') : keepsBut (touches .netPathMiss) s s' := by
  rw [exec_netPathMiss] at h
  show keepsBut [.err, .mgt, .par] s s'
  exact fr_calm hq (event_effect h) (eff_netPathMiss_keeps) (eff_netPathMiss_calm) (by decide)

theorem frame_tetherNzlChange (f : Bytes) {s s' : State} (hq : s.settled = true) (h : exec (.tetherNzlChange f) s = .next s') : keepsBut (touches (.tetherNzlChange f)) s s' := by
  rw [exec_tetherNzlChange] at h
  show keepsBut [.free, .err, .mgt, .tow, .fir, .nzl, .gat, .mem, .par] s s'
  exact fr_calm hq (effect_next (formed_effect h)) (eff_tetherNzlChange_keeps f) (eff_tetherNzlChange_calm f) (by decide)

theorem frame_tetherKnotReq (f : Bytes) {s s' : State} (hq : s.settled = true) (h : exec (.tetherKnotReq f) s = .next s') : keepsBut (touches (.tetherKnotReq f)) s s' := by
  rw [exec_tetherKnotReq] at h
  show keepsBut [.sys, .err, .mgt, .par] s s'
  exact fr_calm hq (effect_next (formed_effect h)) (eff_tetherKnotReq_keeps f) (eff_tetherKnotReq_calm f) (by decide)

theorem frame_tetherKnotDone (f : Bytes) {s s' : State} (hq : s.settled = true) (h : exec (.tetherKnotDone f) s = .next s') : keepsBut (touches (.tetherKnotDone f)) s s' := by
  rw [exec_tetherKnotDone] at h
  show keepsBut [.err, .mgt, .par] s s'
  exact fr_calm hq (effect_next (formed_effect h)) (eff_tetherKnotDone_keeps f) (eff_tetherKnotDone_calm f) (by decide)

theorem frame_tetherState (f : Bytes) {s s' : State} (hq : s.settled = true) (h : exec (.tetherState f) s = .next s') : keepsBut (touches (.tetherState f)) s s' := by
  rw [exec_tetherState] at h
  show keepsBut [.free, .sys, .err, .mgt, .tow, .str, .fir, .nzl, .gat, .mem, .par] s s'
  exact fr_calm hq (effect_next (formed_effect h)) (eff_tetherState_keeps f) (eff_tetherState_calm f) (by decide)

theorem frame_tetherYield (f : Bytes) {s s' : State} (hq : s.settled = true) (h : exec (.tetherYield f) s = .next s') : keepsBut (touches (.tetherYield f)) s s' := by
  rw [exec_tetherYield] at h
  show keepsBut [.err, .mgt, .par] s s'
  exact fr_calm hq (effect_next (formed_effect h)) (eff_tetherYield_keeps f) (eff_tetherYield_calm f) (by decide)

theorem frame_tetherBulk (f : Bytes) {s s' : State} (hq : s.settled = true) (h : exec (.tetherBulk f) s = .next s') : keepsBut (touches (.tetherBulk f)) s s' := by
  rw [exec_tetherBulk] at h
  show keepsBut [.free, .err, .mgt, .tow, .fir, .nzl, .gat, .mem, .par] s s'
  exact fr_calm hq (effect_next (formed_effect h)) (eff_tetherBulk_keeps f) (eff_tetherBulk_calm f) (by decide)

theorem frame_tetherResend {s s' : State} (hq : s.settled = true) (h : exec .tetherResend s = .next s') : keepsBut (touches .tetherResend) s s' := by
  rw [exec_tetherResend] at h
  show keepsBut [.err, .par] s s'
  exact fr_nil hq (event_effect h) (eff_tetherResend_keeps) (by decide) (by decide)

theorem frame_tetherResync {s s' : State} (hq : s.settled = true) (h : exec .tetherResync s = .next s') : keepsBut (touches .tetherResync) s s' := by
  rw [exec_tetherResync] at h
  show keepsBut [.err, .mgt, .par] s s'
  exact fr_calm hq (event_effect h) (eff_tetherResync_keeps) (eff_tetherResync_calm) (by decide)

theorem frame_hitchInAssert {s s' : State} (hq : s.settled = true) (h : exec .hitchInAssert s = .next s') : keepsBut (touches .hitchInAssert) s s' := by
  rw [exec_hitchInAssert] at h
  show keepsBut [.err, .mgt, .par] s s'
  exact fr_calm hq (effect_next h) (eff_hitchInAssert_keeps) (eff_hitchInAssert_calm) (by decide)

theorem frame_hitchInRelease {s s' : State} (hq : s.settled = true) (h : exec .hitchInRelease s = .next s') : keepsBut (touches .hitchInRelease) s s' := by
  rw [exec_hitchInRelease] at h
  show keepsBut [.err, .mgt, .par] s s'
  exact fr_calm hq (effect_next h) (eff_hitchInRelease_keeps) (eff_hitchInRelease_calm) (by decide)

theorem frame_splice {s s' : State} (hq : s.settled = true) (h : exec .splice s = .next s') : keepsBut (touches .splice) s s' := by
  rw [exec_splice] at h
  show keepsBut [.err, .mgt, .par] s s'
  exact fr_calm hq (event_effect h) (eff_splice_keeps) (eff_splice_calm) (by decide)

theorem frame_rejoinCopyStart {s s' : State} (hq : s.settled = true) (h : exec .rejoinCopyStart s = .next s') : keepsBut (touches .rejoinCopyStart) s s' := by
  rw [exec_rejoinCopyStart] at h
  show keepsBut [.err, .par] s s'
  exact fr_nil hq (event_effect h) (eff_rejoinCopyStart_keeps) (by decide) (by decide)

theorem frame_coreWatchExpire {s s' : State} (hq : s.settled = true) (h : exec .coreWatchExpire s = .next s') : keepsBut (touches .coreWatchExpire) s s' := by
  rw [exec_coreWatchExpire] at h
  show keepsBut [.err, .keep, .par] s s'
  exact fr_nil hq (event_effect h) (eff_coreWatchExpire_keeps) (by decide) (by decide)

theorem frame_keepFeedLoss (feedB : Bool) {s s' : State} (hq : s.settled = true) (h : exec (.keepFeedLoss feedB) s = .next s') : keepsBut (touches (.keepFeedLoss feedB)) s s' := by
  rw [exec_keepFeedLoss] at h
  show keepsBut [.err, .keep, .mgt] s s'
  exact fr_calm hq (effect_next h) (eff_keepFeedLoss_keeps feedB) (eff_keepFeedLoss_calm feedB) (by decide)

theorem frame_keepBrownout {s s' : State} (hq : s.settled = true) (h : exec .keepBrownout s = .next s') : keepsBut (touches .keepBrownout) s s' := by
  rw [exec_keepBrownout] at h
  show keepsBut [.err, .par] s s'
  exact fr_nil hq (effect_next h) (eff_keepBrownout_keeps) (by decide) (by decide)

theorem frame_fegRotationStart (g : Fin 4) {s s' : State} (hq : s.settled = true) (h : exec (.fegRotationStart g) s = .next s') : keepsBut (touches (.fegRotationStart g)) s s' := by
  rw [exec_fegRotationStart] at h
  show keepsBut [.err, .cal] s s'
  exact fr_nil hq (event_effect h) (eff_fegRotationStart_keeps g) (by decide) (by decide)

theorem frame_fegMeasureDone (gen : Fin 68) (times : FegTimes) {s s' : State} (_ : s.settled = true) (h : exec (.fegMeasureDone gen times) s = .next s') : keepsBut (touches (.fegMeasureDone gen times)) s s' := by
  rw [exec_fegMeasureDone] at h
  show keepsBut [.sys, .err, .mgt, .fir, .gat, .axs, .lmp, .par, .cal] s s'
  exact fr_log (event_effect (formed_effect h)) (eff_fegMeasureDone_keeps gen times) (by decide)

theorem frame_calForce (m : Master) (v : Word) {s s' : State} (hq : s.settled = true) (h : exec (.calForce m v) s = .next s') : keepsBut (touches (.calForce m v)) s s' := by
  rw [exec_calForce] at h
  show keepsBut (byMaster m [.err, .mgt, .cal]) s s'
  exact fr_acc hq (fun hm u => acc_calForce_keeps hm _ u) h (by decide)

theorem frame_cmpMeasure (c : Fin 10) {s s' : State} (hq : s.settled = true) (h : exec (.cmpMeasure c) s = .next s') : keepsBut (touches (.cmpMeasure c)) s s' := by
  rw [exec_cmpMeasure] at h
  show keepsBut [.err, .cal] s s'
  exact fr_nil hq (event_effect h) (eff_cmpMeasure_keeps c) (by decide) (by decide)

theorem frame_cmpMeasureDone (c : Fin 10) (offs : List Int) {s s' : State} (hq : s.settled = true) (h : exec (.cmpMeasureDone c offs) s = .next s') : keepsBut (touches (.cmpMeasureDone c offs)) s s' := by
  rw [exec_cmpMeasureDone] at h
  show keepsBut [.err, .mgt, .cal] s s'
  exact fr_calm hq (event_effect (formed_effect h)) (eff_cmpMeasureDone_keeps c offs) (eff_cmpMeasureDone_calm c offs) (by decide)

theorem frame_calSlewStep (t : CalTarget) {s s' : State} (hq : s.settled = true) (h : exec (.calSlewStep t) s = .next s') : keepsBut (touches (.calSlewStep t)) s s' := by
  rw [exec_calSlewStep] at h
  show keepsBut [.err, .mem, .cal] s s'
  exact fr_nil hq (event_effect h) (eff_calSlewStep_keeps t) (by decide) (by decide)

theorem frame_faultAck (m : Master) (v : Word) {s s' : State} (hq : s.settled = true) (h : exec (.faultAck m v) s = .next s') : keepsBut (touches (.faultAck m v)) s s' := by
  rw [exec_faultAck] at h
  show keepsBut (byMaster m [.err, .mgt]) s s'
  exact fr_acc hq (fun hm u => acc_faultAck_keeps hm _ u) h (by decide)

theorem frame_faultAckAll (m : Master) (v : Word) {s s' : State} (hq : s.settled = true) (h : exec (.faultAckAll m v) s = .next s') : keepsBut (touches (.faultAckAll m v)) s s' := by
  rw [exec_faultAckAll] at h
  show keepsBut (byMaster m [.err, .mgt]) s s'
  exact fr_acc hq (fun hm u => acc_faultAckAll_keeps hm _ u) h (by decide)

theorem frame_latchClear (m : Master) (v : Word) {s s' : State} (hq : s.settled = true) (h : exec (.latchClear m v) s = .next s') : keepsBut (touches (.latchClear m v)) s s' := by
  rw [exec_latchClear] at h
  show keepsBut (byMaster m [.err, .mgt]) s s'
  exact fr_acc hq (fun hm u => acc_latchClear_keeps hm _ u) h (by decide)

theorem frame_errClr (m : Master) (v : Word) {s s' : State} (hq : s.settled = true) (h : exec (.errClr m v) s = .next s') : keepsBut (touches (.errClr m v)) s s' := by
  rw [exec_errClr] at h
  show keepsBut (byMaster m [.err, .mgt]) s s'
  exact fr_acc hq (fun hm u => acc_errClr_keeps hm _ u) h (by decide)

theorem frame_logEntryRead (m : Master) (sel : LogSel) {s s' : State} (hq : s.settled = true) (h : exec (.logEntryRead m sel) s = .next s') : keepsBut (touches (.logEntryRead m sel)) s s' := by
  rw [exec_logEntryRead] at h
  show keepsBut [.err, .mgt] s s'
  cases sel with
  | latch d => exact fr_rd' hq (acc_logEntryRead_latch_keeps m d) h (by decide)
  | slot d => exact fr_rd' hq (acc_logEntryRead_slot_keeps m d) h (by decide)

theorem frame_knotEpochRead (m : Master) {s s' : State} (hq : s.settled = true) (h : exec (.knotEpochRead m) s = .next s') : keepsBut (touches (.knotEpochRead m)) s s' := by
  rw [exec_knotEpochRead] at h
  show keepsBut [.sys, .err] s s'
  exact fr_rd hq (acc_knotEpochRead_keeps m) (by decide) h (by decide)

theorem frame_fireLcSnapshot (m : Master) (p : Port) {s s' : State} (hq : s.settled = true) (h : exec (.fireLcSnapshot m p) s = .next s') : keepsBut (touches (.fireLcSnapshot m p)) s s' := by
  rw [exec_fireLcSnapshot] at h
  show keepsBut [.err, .fir] s s'
  exact fr_rd hq (acc_fireLcSnapshot_keeps m _) (by decide) h (by decide)

theorem frame_captureStart (m : Master) (mask : BitVec 16) {s s' : State} (hq : s.settled = true) (h : exec (.captureStart m mask) s = .next s') : keepsBut (touches (.captureStart m mask)) s s' := by
  rw [exec_captureStart] at h
  show keepsBut (byMaster m [.err, .cap, .mgt, .mem]) s s'
  exact fr_acc hq (fun hm u => acc_captureStart_keeps hm _ u) h (by decide)

theorem frame_captureClear (m : Master) {s s' : State} (hq : s.settled = true) (h : exec (.captureClear m) s = .next s') : keepsBut (touches (.captureClear m)) s s' := by
  rw [exec_captureClear] at h
  show keepsBut (byMaster m [.err, .cap, .mgt, .mem]) s s'
  exact fr_acc hq (fun hm u => acc_captureClear_keeps hm u) h (by decide)

theorem frame_captureDone {s s' : State} (hq : s.settled = true) (h : exec .captureDone s = .next s') : keepsBut (touches .captureDone) s s' := by
  rw [exec_captureDone] at h
  show keepsBut [.err, .cap, .mem] s s'
  exact fr_nil hq (event_effect h) (eff_captureDone_keeps) (by decide) (by decide)

theorem frame_tapReset {s s' : State} (hq : s.settled = true) (h : exec .tapReset s = .next s') : keepsBut (touches .tapReset) s s' := by
  rw [exec_tapReset] at h
  show keepsBut [.regs, .sys, .err, .dbg, .mgt, .tow, .mem] s s'
  exact fr_calm hq (effect_next h) (eff_tapReset_keeps) (eff_tapReset_calm) (by decide)

theorem frame_tapInstruction (code : BitVec 6) {s s' : State} (hq : s.settled = true) (h : exec (.tapInstruction code) s = .next s') : keepsBut (touches (.tapInstruction code)) s s' := by
  rw [exec_tapInstruction] at h
  show keepsBut [.err, .dbg] s s'
  exact fr_nil hq (effect_next h) (eff_tapInstruction_keeps code) (by decide) (by decide)

theorem frame_wpNop {s s' : State} (hq : s.settled = true) (h : exec .wpNop s = .next s') : keepsBut (touches .wpNop) s s' := by
  rw [exec_wpNop] at h
  show keepsBut [.free, .err, .dbg] s s'
  have hk : ∀ u : State, keepsBut [.free, .dbg] u ((fun s => if s.dbg.accTag.isSome then emit (.waypost 1 s.dbg.accAddr s.dbg.accData) s else (wpDone 0) (wpBegin 0 s)) u) := by
    intro u; dsimp only; split
    · exact keepsBut_mono (emit_keeps _ _) (by decide)
    · exact keepsBut_of (keepsBut_mono (wpBegin_keeps _ _) (by decide)) (eff_wpNop_keeps _) (by decide)
  exact fr_nil hq (event_effect h) hk (by decide) (by decide)

theorem frame_wpRead32 (space : Fin 16) (addr : Word) (e : List Flip) {s s' : State} (_ : s.settled = true) (h : exec (.wpRead32 space addr e) s = .next s') : keepsBut (touches (.wpRead32 space addr e)) s s' := by
  rw [exec_wpRead32] at h
  show keepsBut [.free, .regs, .sys, .err, .dbg, .ptp, .mgt, .pos, .mil, .fir, .stg, .nzl, .gat, .mem, .axs, .lmp, .par, .cal] s s'
  have hk : ∀ u : State, keepsBut [.free, .regs, .sys, .err, .dbg, .ptp, .pos, .mil, .fir, .stg, .nzl, .mem, .axs, .lmp] u ((fun s => if s.dbg.accTag.isSome then emit (.waypost 1 s.dbg.accAddr s.dbg.accData) s else (wpRead space addr e) (wpBegin addr s)) u) := by
    intro u; dsimp only; split
    · exact keepsBut_mono (emit_keeps _ _) (by decide)
    · exact keepsBut_of (keepsBut_mono (wpBegin_keeps _ _) (by decide)) (eff_wpRead32_keeps space addr e _) (by decide)
  exact fr_log (event_effect h) hk (by decide)

theorem frame_wpWrite32 (space : Fin 16) (addr : Word) (data : Word) (e : List Flip) {s s' : State} (_ : s.settled = true) (h : exec (.wpWrite32 space addr data e) s = .next s') : keepsBut (touches (.wpWrite32 space addr data e)) s s' := by
  rw [exec_wpWrite32] at h
  show keepsBut [.free, .regs, .sys, .err, .cap, .dbg, .cfg, .keep, .net, .ptp, .mgt, .tow, .cmp, .str, .pos, .mil, .fir, .stg, .nzl, .gat, .gul, .insp, .mem, .axs, .lmp, .par, .cal] s s'
  have hk : ∀ u : State, keepsBut [.free, .regs, .sys, .err, .cap, .dbg, .cfg, .keep, .net, .ptp, .mgt, .tow, .cmp, .str, .pos, .mil, .fir, .stg, .nzl, .gat, .gul, .insp, .mem, .axs, .lmp, .par, .cal] u ((fun s => if s.dbg.accTag.isSome then emit (.waypost 1 s.dbg.accAddr s.dbg.accData) s else (wpWrite space addr data e) (wpBegin addr s)) u) := by
    intro u; dsimp only; split
    · exact keepsBut_mono (emit_keeps _ _) (by decide)
    · exact keepsBut_of (keepsBut_mono (wpBegin_keeps _ _) (by decide)) (eff_wpWrite32_keeps space addr data e _) (by decide)
  exact fr_log (event_effect h) hk (by decide)

theorem frame_wpHalt {s s' : State} (hq : s.settled = true) (h : exec .wpHalt s = .next s') : keepsBut (touches .wpHalt) s s' := by
  rw [exec_wpHalt] at h
  show keepsBut [.free, .sys, .err, .dbg, .mgt] s s'
  have hk : ∀ u : State, keepsBut [.free, .sys, .err, .dbg, .mgt] u ((fun s => if s.dbg.accTag.isSome then emit (.waypost 1 s.dbg.accAddr s.dbg.accData) s else wpHalt (wpBegin 0 s)) u) := by
    intro u; dsimp only; split
    · exact keepsBut_mono (emit_keeps _ _) (by decide)
    · exact keepsBut_of (keepsBut_mono (wpBegin_keeps _ _) (by decide)) (eff_wpHalt_keeps _) (by decide)
  exact fr_calm hq (event_effect h) hk (by intro u; split; exact calm_of_keeps (emit_keeps _ _) (by decide); exact calm_trans (calm_of_keeps (wpBegin_keeps _ _) (by decide)) (eff_wpHalt_calm _)) (by decide)

theorem frame_wpResume {s s' : State} (hq : s.settled = true) (h : exec .wpResume s = .next s') : keepsBut (touches .wpResume) s s' := by
  rw [exec_wpResume] at h
  show keepsBut [.free, .sys, .err, .dbg, .net, .mgt, .tow, .nzl, .mem] s s'
  have hk : ∀ u : State, keepsBut [.free, .sys, .err, .dbg, .net, .mgt, .tow, .nzl, .mem] u ((fun s => if s.dbg.accTag.isSome then emit (.waypost 1 s.dbg.accAddr s.dbg.accData) s else wpResume (wpBegin 0 s)) u) := by
    intro u; dsimp only; split
    · exact keepsBut_mono (emit_keeps _ _) (by decide)
    · exact keepsBut_of (keepsBut_mono (wpBegin_keeps _ _) (by decide)) (eff_wpResume_keeps _) (by decide)
  exact fr_calm hq (event_effect h) hk (by intro u; split; exact calm_of_keeps (emit_keeps _ _) (by decide); exact calm_trans (calm_of_keeps (wpBegin_keeps _ _) (by decide)) (eff_wpResume_calm _)) (by decide)

theorem frame_wpStep (data : Word) {s s' : State} (hq : s.settled = true) (h : exec (.wpStep data) s = .next s') : keepsBut (touches (.wpStep data)) s s' := by
  rw [exec_wpStep] at h
  show keepsBut [.free, .sys, .err, .dbg, .mgt, .tow, .mem] s s'
  have hk : ∀ u : State, keepsBut [.free, .sys, .err, .dbg, .mgt, .tow, .mem] u ((fun s => if s.dbg.accTag.isSome then emit (.waypost 1 s.dbg.accAddr s.dbg.accData) s else (wpStep data) (wpBegin 0 s)) u) := by
    intro u; dsimp only; split
    · exact keepsBut_mono (emit_keeps _ _) (by decide)
    · exact keepsBut_of (keepsBut_mono (wpBegin_keeps _ _) (by decide)) (eff_wpStep_keeps data _) (by decide)
  exact fr_calm hq (event_effect h) hk (by intro u; split; exact calm_of_keeps (emit_keeps _ _) (by decide); exact calm_trans (calm_of_keeps (wpBegin_keeps _ _) (by decide)) (eff_wpStep_calm data _)) (by decide)

theorem frame_wpCapture (mask : Word) {s s' : State} (hq : s.settled = true) (h : exec (.wpCapture mask) s = .next s') : keepsBut (touches (.wpCapture mask)) s s' := by
  rw [exec_wpCapture] at h
  show keepsBut [.free, .err, .cap, .dbg, .mgt] s s'
  have hk : ∀ u : State, keepsBut [.free, .err, .cap, .dbg] u ((fun s => if s.dbg.accTag.isSome then emit (.waypost 1 s.dbg.accAddr s.dbg.accData) s else (wpCapture mask) (wpBegin 0 s)) u) := by
    intro u; dsimp only; split
    · exact keepsBut_mono (emit_keeps _ _) (by decide)
    · exact keepsBut_of (keepsBut_mono (wpBegin_keeps _ _) (by decide)) (eff_wpCapture_keeps mask _) (by decide)
  exact fr_calm hq (event_effect h) hk (by intro u; split; exact calm_of_keeps (emit_keeps _ _) (by decide); exact calm_trans (calm_of_keeps (wpBegin_keeps _ _) (by decide)) (eff_wpCapture_calm mask _)) (by decide)

theorem frame_wpReservedOp (op : BitVec 4) {s s' : State} (hq : s.settled = true) (h : exec (.wpReservedOp op) s = .next s') : keepsBut (touches (.wpReservedOp op)) s s' := by
  rw [exec_wpReservedOp] at h
  show keepsBut [.free, .err, .dbg, .mgt] s s'
  have hk : ∀ u : State, keepsBut [.free, .err, .dbg] u ((fun s => if s.dbg.accTag.isSome then emit (.waypost 1 s.dbg.accAddr s.dbg.accData) s else wpRefuse (wpBegin 0 s)) u) := by
    intro u; dsimp only; split
    · exact keepsBut_mono (emit_keeps _ _) (by decide)
    · exact keepsBut_of (keepsBut_mono (wpBegin_keeps _ _) (by decide)) (eff_wpReservedOp_keeps op _) (by decide)
  exact fr_calm hq (event_effect (formed_effect h)) hk (by intro u; split; exact calm_of_keeps (emit_keeps _ _) (by decide); exact calm_trans (calm_of_keeps (wpBegin_keeps _ _) (by decide)) (eff_wpReservedOp_calm op _)) (by decide)

theorem frame_towCntClr (m : Master) (v : Word) {s s' : State} (hq : s.settled = true) (h : exec (.towCntClr m v) s = .next s') : keepsBut (touches (.towCntClr m v)) s s' := by
  rw [exec_towCntClr] at h
  show keepsBut (byMaster m [.err, .mgt, .tow]) s s'
  exact fr_acc hq (fun hm u => acc_towCntClr_keeps hm _ u) h (by decide)

theorem frame_cmpCntClr (m : Master) (v : Word) {s s' : State} (hq : s.settled = true) (h : exec (.cmpCntClr m v) s = .next s') : keepsBut (touches (.cmpCntClr m v)) s s' := by
  rw [exec_cmpCntClr] at h
  show keepsBut (byMaster m [.err, .mgt, .cmp]) s s'
  exact fr_acc hq (fun hm u => acc_cmpCntClr_keeps hm _ u) h (by decide)

theorem frame_strCntClr (m : Master) (v : Word) {s s' : State} (hq : s.settled = true) (h : exec (.strCntClr m v) s = .next s') : keepsBut (touches (.strCntClr m v)) s s' := by
  rw [exec_strCntClr] at h
  show keepsBut (byMaster m [.err, .mgt, .str]) s s'
  exact fr_acc hq (fun hm u => acc_strCntClr_keeps hm _ u) h (by decide)

theorem frame_firCntClr (m : Master) (v : Word) {s s' : State} (hq : s.settled = true) (h : exec (.firCntClr m v) s = .next s') : keepsBut (touches (.firCntClr m v)) s s' := by
  rw [exec_firCntClr] at h
  show keepsBut (byMaster m [.err, .mgt, .fir]) s s'
  exact fr_acc hq (fun hm u => acc_firCntClr_keeps hm _ u) h (by decide)

theorem frame_nzlCntClr (m : Master) (v : Word) {s s' : State} (hq : s.settled = true) (h : exec (.nzlCntClr m v) s = .next s') : keepsBut (touches (.nzlCntClr m v)) s s' := by
  rw [exec_nzlCntClr] at h
  show keepsBut (byMaster m [.err, .mgt, .nzl]) s s'
  exact fr_acc hq (fun hm u => acc_nzlCntClr_keeps hm _ u) h (by decide)

theorem frame_camPortClr (m : Master) (port : Fin 4) (v : Word) {s s' : State} (hq : s.settled = true) (h : exec (.camPortClr m port v) s = .next s') : keepsBut (touches (.camPortClr m port v)) s s' := by
  rw [exec_camPortClr] at h
  show keepsBut (byMaster m [.err, .mgt, .insp]) s s'
  exact fr_acc hq (fun hm u => acc_camPortClr_keeps hm _ _ u) h (by decide)

theorem frame_insCtxClr (m : Master) (c : Ctx) (v : Word) {s s' : State} (hq : s.settled = true) (h : exec (.insCtxClr m c v) s = .next s') : keepsBut (touches (.insCtxClr m c v)) s s' := by
  rw [exec_insCtxClr] at h
  show keepsBut (byMaster m [.err, .mgt, .insp]) s s'
  exact fr_acc hq (fun hm u => acc_insCtxClr_keeps hm _ _ u) h (by decide)

theorem frame_memCntClr (m : Master) (v : Word) {s s' : State} (hq : s.settled = true) (h : exec (.memCntClr m v) s = .next s') : keepsBut (touches (.memCntClr m v)) s s' := by
  rw [exec_memCntClr] at h
  show keepsBut (byMaster m [.err, .mgt, .mem]) s s'
  exact fr_acc hq (fun hm u => acc_memCntClr_keeps hm _ u) h (by decide)

theorem frame_bnkClr (m : Master) (b : Bank) (v : Word) {s s' : State} (hq : s.settled = true) (h : exec (.bnkClr m b v) s = .next s') : keepsBut (touches (.bnkClr m b v)) s s' := by
  rw [exec_bnkClr] at h
  show keepsBut (byMaster m [.err, .mgt, .mem]) s s'
  exact fr_acc hq (fun hm u => acc_bnkClr_keeps hm _ _ u) h (by decide)

theorem frame_arbClr (m : Master) (v : Word) {s s' : State} (hq : s.settled = true) (h : exec (.arbClr m v) s = .next s') : keepsBut (touches (.arbClr m v)) s s' := by
  rw [exec_arbClr] at h
  show keepsBut (byMaster m [.err, .mgt, .mem]) s s'
  exact fr_acc hq (fun hm u => acc_arbClr_keeps hm _ u) h (by decide)

theorem frame_netPortClr (m : Master) (np : NetPort) (v : Word) {s s' : State} (hq : s.settled = true) (h : exec (.netPortClr m np v) s = .next s') : keepsBut (touches (.netPortClr m np v)) s s' := by
  rw [exec_netPortClr] at h
  show keepsBut (byMaster m [.err, .net, .mgt]) s s'
  exact fr_acc hq (fun hm u => acc_netPortClr_keeps hm _ _ u) h (by decide)

theorem frame_ptpDomClr (m : Master) (dm : Dom) (v : Word) {s s' : State} (hq : s.settled = true) (h : exec (.ptpDomClr m dm v) s = .next s') : keepsBut (touches (.ptpDomClr m dm v)) s s' := by
  rw [exec_ptpDomClr] at h
  show keepsBut (byMaster m [.err, .ptp, .mgt]) s s'
  exact fr_acc hq (fun hm u => acc_ptpDomClr_keeps hm _ _ u) h (by decide)

theorem frame_mgtCntClr (m : Master) (v : Word) {s s' : State} (hq : s.settled = true) (h : exec (.mgtCntClr m v) s = .next s') : keepsBut (touches (.mgtCntClr m v)) s s' := by
  rw [exec_mgtCntClr] at h
  show keepsBut (byMaster m [.err, .mgt]) s s'
  exact fr_acc hq (fun hm u => acc_mgtCntClr_keeps hm _ u) h (by decide)

theorem frame_parCntClr (m : Master) (v : Word) {s s' : State} (hq : s.settled = true) (h : exec (.parCntClr m v) s = .next s') : keepsBut (touches (.parCntClr m v)) s s' := by
  rw [exec_parCntClr] at h
  show keepsBut (byMaster m [.err, .mgt, .par]) s s'
  exact fr_acc hq (fun hm u => acc_parCntClr_keeps hm _ u) h (by decide)

theorem frame_keepFeedReturn (feedB : Bool) {s s' : State} (hq : s.settled = true) (h : exec (.keepFeedReturn feedB) s = .next s') : keepsBut (touches (.keepFeedReturn feedB)) s s' := by
  rw [exec_keepFeedReturn] at h
  show keepsBut [.err, .keep, .mgt] s s'
  exact fr_calm hq (effect_next h) (eff_keepFeedReturn_keeps feedB) (eff_keepFeedReturn_calm feedB) (by decide)

theorem frame_symbolRealign (at_ : RxLane × Bool) {s s' : State} (hq : s.settled = true) (h : exec (.symbolRealign at_) s = .next s') : keepsBut (touches (.symbolRealign at_)) s s' := by
  rw [exec_symbolRealign] at h
  show keepsBut [.err, .gul, .par] s s'
  exact fr_nil hq (effect_next h) (eff_symbolRealign_keeps at_) (by decide) (by decide)

theorem frame_trainingSetInActive (p : Port) {s s' : State} (hq : s.settled = true) (h : exec (.trainingSetInActive p) s = .next s') : keepsBut (touches (.trainingSetInActive p)) s s' := by
  rw [exec_trainingSetInActive] at h
  show keepsBut [.err, .mgt, .tow, .fir, .nzl, .gul, .mem] s s'
  exact fr_calm hq (effect_next h) (eff_trainingSetInActive_keeps p) (eff_trainingSetInActive_calm p) (by decide)

theorem frame_codeErrorBurst (errs : Port × Nat) {s s' : State} (hq : s.settled = true) (h : exec (.codeErrorBurst errs) s = .next s') : keepsBut (touches (.codeErrorBurst errs)) s s' := by
  rw [exec_codeErrorBurst] at h
  show keepsBut [.err, .mgt, .tow, .fir, .nzl, .gul, .mem] s s'
  exact fr_calm hq (effect_next h) (eff_codeErrorBurst_keeps errs) (eff_codeErrorBurst_calm errs) (by decide)

theorem frame_adaptationResume (lane : RxLane) (_sym : ResumeSym) {s s' : State} (hq : s.settled = true) (h : exec (.adaptationResume lane _sym) s = .next s') : keepsBut (touches (.adaptationResume lane _sym)) s s' := by
  rw [exec_adaptationResume] at h
  show keepsBut [.err, .gul, .par] s s'
  exact fr_nil hq (effect_next h) (eff_adaptationResume_keeps lane _sym) (by decide) (by decide)

theorem frame_limitInputInactive (a : Axis) (hi : Bool) {s s' : State} (hq : s.settled = true) (h : exec (.limitInputInactive a hi) s = .next s') : keepsBut (touches (.limitInputInactive a hi)) s s' := by
  rw [exec_limitInputInactive] at h
  show keepsBut [.err, .axs] s s'
  exact fr_nil hq (effect_next h) (eff_limitInputInactive_keeps a hi) (by decide) (by decide)

theorem frame_fegTestEdge (g : Fin 4) (cmpPs : Int) {s s' : State} (hq : s.settled = true) (h : exec (.fegTestEdge g cmpPs) s = .next s') : keepsBut (touches (.fegTestEdge g cmpPs)) s s' := by
  rw [exec_fegTestEdge] at h
  show keepsBut [.err, .cal] s s'
  exact fr_nil hq (event_effect h) (eff_fegTestEdge_keeps g cmpPs) (by decide) (by decide)

end Sys2Proof.Machine
end

