-- ==== Sys2Proof/Laws/Answers.lean ====
section
/-! SUPPORT. From a command's effect to the next state it answers: register accesses and events that find nothing, or only Notices and
Faults. -/

namespace Sys2Proof.Machine

/-- The next state that `closeCmd` makes of an effect that finds nothing. -/
def after (s u : State) : State := { u with pending := s.pending, outbox := s.outbox ++ u.outbox }

/-- An effect that leaves what was found, the device state and CFG alone closes to exactly its result. -/
theorem close_after {s u : State} (hs : s.settled = true) (hc : s.sys.st ≠ .cold) (hf : u.err.found = s.err.found) (hst : u.sys.st = s.sys.st)
    (hg : u.cfg = s.cfg) : closeCmd s u = after s u :=
  closeCmd_quiet s u (by rw [hf]; exact settled_found hs) (by rw [hst]; exact hc) hg

/-- An effect that unblows no fuse keeps its CFG block when it closes (R478). -/
theorem closeCmd_cfg_of {s u : State} (h1 : s.cfg.otpProg &&& u.cfg.otpProg = s.cfg.otpProg) (h2 : s.cfg.otpRev &&& u.cfg.otpRev = s.cfg.otpRev)
    (h3 : s.cfg.otpPin = true → u.cfg.otpPin = true) : (closeCmd s u).cfg = u.cfg := by
  have : (closeCmd s u).cfg = { (flush u).cfg with otpProg := (flush u).cfg.otpProg ||| s.cfg.otpProg, otpRev := (flush u).cfg.otpRev ||| s.cfg.otpRev, otpPin := (flush u).cfg.otpPin || s.cfg.otpPin } := rfl
  rw [this, flush_cfg]
  have g1 : u.cfg.otpProg ||| s.cfg.otpProg = u.cfg.otpProg := by
    rw [← h1]; ext i hi; simp
  have g2 : u.cfg.otpRev ||| s.cfg.otpRev = u.cfg.otpRev := by
    rw [← h2]; ext i hi; simp
  have g3 : (u.cfg.otpPin || s.cfg.otpPin) = u.cfg.otpPin := by
    cases hp : s.cfg.otpPin with
    | false => simp
    | true => simp [h3 hp]
  rw [g1, g2, g3]

/-- An accepted register command that finds nothing: its exact next state. -/
theorem took_next (name : String) {m : Master} {a : Nat} {v : Word} {s u r : State} (hm : reaches m s = true) (hs : s.settled = true) (ha : a % 4 = 0)
    (hb : a < 0x1C0000) (h1 : a / 0x10000 ≠ 1) (hk : heldAtReset a s = false)
    (hw : writeCmd false a v { s with outbox := [] } = some (u, true)) (hf : u.err.found = s.err.found) (hst : u.sys.st = s.sys.st) (hg : u.cfg = s.cfg)
    (hr : { u with pending := s.pending, outbox := s.outbox ++ (u.outbox ++ [.access m .ok v]) } = r) :
    writeCmdAt name m a v s = .next r := by
  rw [writeCmdAt_took name hm ha hb h1 hk hw]
  exact next_quiet (by show u.err.found = _; rw [hf]; exact settled_found hs) (by show u.sys.st ≠ _; rw [hst]; exact reaches_not_cold hm) hg hr

/-- A register read that finds nothing: its exact next state. -/
theorem read_next (name : String) {m : Master} {a : Nat} {s u r : State} (hm : reaches m s = true) (hs : s.settled = true) (ha : a % 4 = 0)
    (hb : a < 0x1D0000) (hw : readEffect a { s with outbox := [] } = u)
    (hf : u.err.found = s.err.found) (hst : u.sys.st = s.sys.st) (hg : u.cfg = s.cfg)
    (hr : { u with pending := s.pending, outbox := s.outbox ++ (u.outbox ++ [.access m .ok (regRead a { s with outbox := [] })]) } = r) :
    readCmdAt name m a s = .next r := by
  rw [readCmdAt_ok name hm ha hb, hw]
  exact next_quiet (by show u.err.found = _; rw [hf]; exact settled_found hs) (by show u.sys.st ≠ _; rw [hst]; exact reaches_not_cold hm) hg hr

/-- An event that finds nothing: its exact next state. -/
theorem event_next {name : String} {en : Bool} {f : State → State} {s u r : State} (he : en = true) (hs : s.settled = true) (hc : s.sys.st ≠ .cold)
    (hw : f { s with outbox := [] } = u) (hf : u.err.found = s.err.found) (hst : u.sys.st = s.sys.st) (hg : u.cfg = s.cfg)
    (hr : { u with pending := s.pending, outbox := s.outbox ++ u.outbox } = r) : event en name f s = .next r := by
  unfold event; rw [if_pos he]; unfold always; rw [hw]
  exact next_quiet (by rw [hf]; exact settled_found hs) (by rw [hst]; exact hc) hg hr

/-- An event's next state, whatever it found. -/
theorem event_gives {name : String} {en : Bool} {f : State → State} {s u : State} (he : en = true) (hw : f { s with outbox := [] } = u) :
    event en name f s = .next (closeCmd s u) := by
  unfold event; rw [if_pos he]; unfold always; rw [hw]

/-- A command that finds and sends nothing: its exact next state. -/
theorem always_silent {f : State → State} {s r : State} (hs : s.settled = true) (hc : s.sys.st ≠ .cold)
    (hw : f { s with outbox := [] } = { r with outbox := [] }) (hf : r.err.found = s.err.found) (hst : r.sys.st = s.sys.st)
    (hg : r.cfg = s.cfg) (hp : r.pending = s.pending) (ho : r.outbox = s.outbox) : always f s = .next r := by
  unfold always; rw [hw]
  refine next_quiet (s := s) (by show r.err.found = _; rw [hf]; exact settled_found hs) (by show r.sys.st ≠ _; rw [hst]; exact hc) hg ?_
  rw [← hp, ← ho]
  simp only [List.append_nil]

/-- An event that finds and sends nothing: its exact next state. -/
theorem event_silent {name : String} {en : Bool} {f : State → State} {s r : State} (he : en = true) (hs : s.settled = true) (hc : s.sys.st ≠ .cold)
    (hw : f { s with outbox := [] } = { r with outbox := [] }) (hf : r.err.found = s.err.found) (hst : r.sys.st = s.sys.st)
    (hg : r.cfg = s.cfg) (hp : r.pending = s.pending) (ho : r.outbox = s.outbox) : event en name f s = .next r := by
  unfold event; rw [if_pos he]; exact always_silent hs hc hw hf hst hg hp ho

/-- Element `i` of a vector whose element `i` was replaced. -/
theorem vget_vmod_same {α : Type} {n : Nat} (v : Vector α n) (i : Nat) (f : α → α) (d : α) (h : i < n) : vget (vmod v i f) i d = f (vget v i d) := by
  simp [vget, vmod, h]

/-- Every other element stays. -/
theorem vget_vmod_other {α : Type} {n : Nat} (v : Vector α n) (i j : Nat) (f : α → α) (d : α) (h : j ≠ i) : vget (vmod v i f) j d = vget v j d := by
  unfold vget vmod
  split
  · simp [Ne.symm h]
  · rfl

/-- Two replacements of one element are one. -/
theorem vmod_vmod {α : Type} {n : Nat} (v : Vector α n) (i : Nat) (f g : α → α) : vmod (vmod v i f) i g = vmod v i (fun x => g (f x)) := by
  unfold vmod
  split
  · ext j hj
    simp only [Vector.getElem_set]
    split <;> simp_all
  · rfl

/-- Replacements by functions that agree on the element are the same. -/
theorem vmod_congr {α : Type} {n : Nat} (v : Vector α n) (i : Nat) (f g : α → α) (d : α) (h : f (vget v i d) = g (vget v i d)) : vmod v i f = vmod v i g := by
  unfold vmod
  split
  · rename_i hi
    have : vget v i d = v[i] := by simp [vget, hi]
    rw [this] at h; rw [h]
  · rfl

/-- An element of a vector whose elements are all mapped. -/
theorem vget_map {α β : Type} {n : Nat} (v : Vector α n) (i : Nat) (f : α → β) (d : α) : vget (v.map f) i (f d) = f (vget v i d) := by
  unfold vget
  simp only [Vector.toArray_map, Array.getD_eq_getD_getElem?, Array.getElem?_map]
  cases v.toArray[i]? <;> rfl

theorem mem_insertBy {α : Type} {le : α → α → Bool} {a x : α} : ∀ {l : List α}, x ∈ insertBy le a l → x = a ∨ x ∈ l
  | [], h => by simp [insertBy] at h; exact .inl h
  | b :: r, h => by
    unfold insertBy at h
    split at h
    · simpa using h
    · rcases List.mem_cons.mp h with rfl | h
      · simp
      · rcases mem_insertBy h with rfl | h <;> simp [*]

/-- Sorting adds no element. -/
theorem mem_sortBy {α : Type} {le : α → α → Bool} {x : α} : ∀ {l : List α}, x ∈ sortBy le l → x ∈ l
  | [], h => h
  | a :: r, h => by
    rcases mem_insertBy h with rfl | h
    · simp
    · simp [mem_sortBy h]

/-- Logging Notices leaves the errors being handled and the latches of the other classes. -/
theorem closeCmd_notices (s : State) {t : State} (h : ∀ x ∈ t.err.found, x.cls = .notice) (hc : t.sys.st ≠ .cold) :
    (closeCmd s t).err.faults = t.err.faults ∧ (closeCmd s t).err.stopHeld = t.err.stopHeld ∧ (closeCmd s t).err.fatalHeld = t.err.fatalHeld ∧
      ∀ c, c ≠ 0 → vget (closeCmd s t).err.latches c none = vget t.err.latches c none := by
  show (flush t).err.faults = _ ∧ (flush t).err.stopHeld = _ ∧ (flush t).err.fatalHeld = _ ∧ ∀ c, c ≠ 0 → vget (flush t).err.latches c none = _
  have one : ∀ (x : ErrEv) (u : State), x.cls = .notice → (logOne x u).err.faults = u.err.faults ∧ (logOne x u).err.stopHeld = u.err.stopHeld ∧
      (logOne x u).err.fatalHeld = u.err.fatalHeld ∧ ∀ c, c ≠ 0 → vget (logOne x u).err.latches c none = vget u.err.latches c none := by
    intro x u hx
    cases hh : u.err.fatalHeld with
    | true => rw [logOne_nest x u hh]; exact ⟨rfl, rfl, hh, fun _ _ => rfl⟩
    | false =>
      rw [logOne_err x u hh]
      refine ⟨?_, ?_, ?_, fun c hc => ?_⟩
      · simp [enterLog, mkEntry, hx]
      · simp [enterLog, mkEntry, hx]
      · simp [enterLog, mkEntry, hx, hh]
      · show vget (vmod _ (clsCode (mkEntry u x).cls) _) c none = _
        rw [show clsCode (mkEntry u x).cls = 0 from by simp [mkEntry, hx, clsCode]]
        exact vget_vmod_other _ _ _ _ _ hc
  have all : ∀ (l : List ErrEv) (u : State), (∀ x ∈ l, x.cls = .notice) → (each logOne l u).err.faults = u.err.faults ∧ (each logOne l u).err.stopHeld = u.err.stopHeld ∧
      (each logOne l u).err.fatalHeld = u.err.fatalHeld ∧ ∀ c, c ≠ 0 → vget (each logOne l u).err.latches c none = vget u.err.latches c none := by
    intro l
    induction l with
    | nil => intro u _; exact ⟨rfl, rfl, rfl, fun _ _ => rfl⟩
    | cons x r ih =>
      intro u hx
      obtain ⟨a1, a2, a3, a4⟩ := ih (logOne x u) (fun y hy => hx y (by simp [hy]))
      obtain ⟨b1, b2, b3, b4⟩ := one x u (hx x (by simp))
      exact ⟨a1.trans b1, a2.trans b2, a3.trans b3, fun c hc => (a4 c hc).trans (b4 c hc)⟩
  unfold flush
  rw [if_neg hc]
  exact all _ _ (fun x hx => h x (mem_sortBy hx))

/-- A register that is a command, outside the CFG window, does what its rule says. -/
theorem regWrite_cmd {a : Nat} {v : Word} {s : State} {r : State × Bool} (h1 : a / 0x10000 ≠ 1) (hk : heldAtReset a s = false)
    (hw : writeCmd false a v s = some r) : regWrite false a v s = r := by
  simp only [regWrite, otpGate, hk, hw, h1, if_false, Bool.false_eq_true]

/-- A stored register that takes the write, outside the CFG window. -/
theorem regWrite_stored {a : Nat} {v : Word} {s : State} {d : RegDesc} (h1 : a / 0x10000 ≠ 1) (hk : heldAtReset a s = false)
    (hw : writeCmd false a v s = none) (hd : regDesc a = some d) : regWrite false a v s = writeStored false a d v s := by
  simp only [regWrite, otpGate, hk, hw, hd, h1, if_false, Bool.false_eq_true]

/-- A write that finds POS or MIL held at reset changes nothing (R162). -/
theorem regWrite_held {a : Nat} (v : Word) {s : State} (hk : heldAtReset a s = true) : regWrite false a v s = (s, true) := by
  simp only [regWrite, hk, if_true]

/-- An accepted write by a master that reaches the register. -/
theorem access_took (name : String) {m : Master} {a : Nat} {v : Word} {s u : State} (hm : reaches m s = true) (ha : a % 4 = 0)
    (hb : a < 0x1C0000) (hr : regWrite false a v { s with outbox := [] } = (u, true)) :
    writeCmdAt name m a v s = .next (closeCmd s (emit (.access m .ok v) u)) := by
  have h28 : (a / 0x10000 == 28) = false := by simp; omega
  have ho : ¬(a % 4 ≠ 0 ∨ regOutside a = true) := by simp [ha, regOutside]; omega
  unfold writeCmdAt event
  rw [if_pos (reaches_here hm)]
  unfold always accWrite masterWrite
  cases m with
  | image => simp [reaches] at hm
  | rmp => simp only [h28, ho, hr, if_false, Bool.false_and, Bool.false_eq_true, if_true]
  | waypost =>
    have hc : s.sys.st ≠ .cold := reaches_not_cold hm
    have hwb : wpBarred { s with outbox := [] } = false := by
      simp only [reaches, awake, Bool.and_eq_true] at hm
      unfold wpBarred
      simp only [inPrint] at hm ⊢
      cases hst : s.sys.st <;> simp_all
    simp only [h28, ho, hr, hc, hwb, if_false, Bool.false_and, Bool.false_eq_true, if_true, false_and]

/-- An accepted write that finds nothing: its exact next state. -/
theorem access_next (name : String) {m : Master} {a : Nat} {v : Word} {s u r : State} (hm : reaches m s = true) (hs : s.settled = true) (ha : a % 4 = 0)
    (hb : a < 0x1C0000) (hw : regWrite false a v { s with outbox := [] } = (u, true))
    (hf : u.err.found = s.err.found) (hst : u.sys.st = s.sys.st) (hg : u.cfg = s.cfg)
    (hr : { u with pending := s.pending, outbox := s.outbox ++ (u.outbox ++ [.access m .ok v]) } = r) :
    writeCmdAt name m a v s = .next r := by
  rw [access_took name hm ha hb hw]
  exact next_quiet (by show u.err.found = _; rw [hf]; exact settled_found hs) (by show u.sys.st ≠ _; rw [hst]; exact reaches_not_cold hm) hg hr

theorem dbgRefuse_notices {s : State} (h : ∀ x ∈ s.err.found, x.cls = .notice) : ∀ x ∈ (dbgRefuse s).err.found, x.cls = .notice := by
  unfold dbgRefuse raiseLim
  split
  · intro x hx
    rcases List.mem_append.mp hx with h1 | h1
    · exact h x h1
    · rw [List.mem_singleton.mp h1]
  · exact h

/-- What DBG_REFUSED leaves of the logger. -/
theorem dbgRefuse_err (s : State) : (dbgRefuse s).err.faults = s.err.faults ∧ (dbgRefuse s).err.latches = s.err.latches ∧
    (dbgRefuse s).err.stopHeld = s.err.stopHeld ∧ (dbgRefuse s).err.fatalHeld = s.err.fatalHeld := by
  unfold dbgRefuse raiseLim
  split <;> exact ⟨rfl, rfl, rfl, rfl⟩

/-- A register command that its rule refuses with Notices: answered REFUSED, and nothing but the log and what the rule itself changes
(`ps`) is touched (R511). -/
theorem refused_gives (name : String) {m : Master} {a : Nat} {v : Word} {s u : State} {ps : List Part} (hm : reaches m s = true)
    (ha : a % 4 = 0) (hb : a < 0x1C0000) (hr : regWrite false a v { s with outbox := [] } = (u, false))
    (hk : keepsBut (.err :: ps) s u) (hps : .sys ∉ ps) (ho : u.outbox = []) (hn : ∀ x ∈ u.err.found, x.cls = .notice) :
    ∃ t, writeCmdAt name m a v s = .next t ∧ t.outbox = accessed m .refused v s ∧ keepsBut (.err :: .mgt :: ps) s t ∧
      t.err.faults = u.err.faults ∧ (∀ c, c ≠ 0 → vget t.err.latches c none = vget u.err.latches c none) ∧ keepsBut [.err, .mgt, .cfg] u t ∧
      (s.cfg.otpProg &&& u.cfg.otpProg = s.cfg.otpProg → s.cfg.otpRev &&& u.cfg.otpRev = s.cfg.otpRev → (s.cfg.otpPin = true → u.cfg.otpPin = true) →
        t.cfg = u.cfg) := by
  have hc : s.sys.st ≠ .cold := reaches_not_cold hm
  have h28 : (a / 0x10000 == 28) = false := by simp; omega
  have hoo : ¬(a % 4 ≠ 0 ∨ regOutside a = true) := by simp [ha, regOutside]; omega
  have key : ∃ w, writeCmdAt name m a v s = .next (closeCmd s (emit (.access m .refused v) w)) ∧ keepsBut (.err :: ps) s w ∧ w.outbox = [] ∧
      (∀ x ∈ w.err.found, x.cls = .notice) ∧ w.err.faults = u.err.faults ∧ w.err.latches = u.err.latches ∧ keepsBut [.err] u w := by
    unfold writeCmdAt event
    rw [if_pos (reaches_here hm)]
    unfold always accWrite masterWrite
    cases m with
    | image => simp [reaches] at hm
    | rmp =>
      refine ⟨u, ?_, hk, ho, hn, rfl, rfl, keepsBut_refl _ _⟩
      simp only [h28, hoo, hr, if_false, Bool.false_and, Bool.false_eq_true]
    | waypost =>
      have hwb : wpBarred { s with outbox := [] } = false := by
        simp only [reaches, awake, Bool.and_eq_true] at hm
        unfold wpBarred
        simp only [inPrint] at hm ⊢
        cases hst : s.sys.st <;> simp_all
      obtain ⟨x, hx⟩ : ∃ x, mErr (fun e => { e with found := e.found.filter (·.code != Err.dbgRefused) }) u = x := ⟨_, rfl⟩
      have kx : keepsBut [.err] u x := by rw [← hx]; exact mErr_keeps _ _
      have kd : keepsBut [.err] x (dbgRefuse x) := dbgRefuse_keeps x
      have ox : x.outbox = u.outbox := by rw [← hx]; rfl
      have od : (dbgRefuse x).outbox = x.outbox := by unfold dbgRefuse raiseLim; split <;> rfl
      have fx : ∀ y ∈ x.err.found, y.cls = .notice := by
        rw [← hx]; intro y hy; exact hn y (List.mem_filter.mp hy).1
      have ex := dbgRefuse_err x
      refine ⟨dbgRefuse x, ?_, keepsBut_of (keepsBut_of hk kx (by simp)) kd (by simp), od.trans (ox.trans ho), dbgRefuse_notices fx, ?_, ?_, keepsBut_of kx kd (by simp)⟩
      · simp only [h28, hoo, hr, hc, hwb, hx, if_false, Bool.false_and, Bool.false_eq_true, false_and]
      · rw [ex.1, ← hx]; rfl
      · rw [ex.2.1, ← hx]; rfl
  obtain ⟨w, h2, h3, h4, h5, h6, h7, h8⟩ := key
  obtain ⟨z, hz⟩ : ∃ z, emit (.access m .refused v) w = z := ⟨_, rfl⟩
  have zf : z.err = w.err := by rw [← hz]; rfl
  have zo : z.outbox = w.outbox ++ [.access m .refused v] := by rw [← hz]; rfl
  have zk : keepsBut (.err :: ps) s z := by rw [← hz]; exact keepsBut_of h3 (emit_keeps _ _) (by simp)
  have zn : ∀ x ∈ z.err.found, x.cls = .notice := by rw [zf]; exact h5
  have zc : z.sys.st ≠ .cold := not_cold hc zk (by simp [hps])
  obtain ⟨n1, n2, n3, n4⟩ := closeCmd_notices s zn zc
  rw [hz] at h2
  have zu : keepsBut [.err] u z := by rw [← hz]; exact keepsBut_of h8 (emit_keeps _ _) (by simp)
  have zg : z.cfg = u.cfg := zu .cfg (by decide)
  refine ⟨_, h2, ?_, ?_, ?_, fun c hc => ?_, ?_, fun e1 e2 e3 => ?_⟩
  · rw [(closeCmd_calm_parts s (fun x hx => .inl (zn x hx))).2.2.2.2.2.2.2, zo, h4]; rfl
  · exact keepsBut_mono (closeCmd_keeps_calm zk (fun x hx => .inl (zn x hx)))
      (by intro p hp; simp at hp; rcases hp with h | h | h | h <;> simp [h])
  · rw [n1, zf, h6]
  · rw [n4 c hc, zf, h7]
  · intro p hp
    have hp' : p ≠ .err ∧ p ≠ .mgt ∧ p ≠ .cfg := by simpa using hp
    have q1 : p.same u z := zu p (by simp [hp'.1])
    obtain ⟨e, mg, he⟩ := flush_calm z (fun x hx => .inl (zn x hx))
    have q2 : p.same z (flush z) := by rw [he]; cases p <;> first | rfl | simp at hp'
    have q3 : p.same (flush z) (closeCmd s z) := by cases p <;> first | rfl | simp at hp'
    exact Part.same_trans q1 (Part.same_trans q2 q3)
  · rw [← zg] at e1 e2 e3
    rw [closeCmd_cfg_of e1 e2 e3, zg]

/-- What a Notice or Fault effect leaves, closed: everything but the logger and what logging reports. -/
theorem close_calm {s u : State} {ps : List Part} (hs : s.settled = true) (hk : keepsBut ps { s with outbox := [] } u)
    (hc : calm { s with outbox := [] } u) (hg : .cfg ∉ ps) :
    keepsBut [.err, .mgt] u (closeCmd s u) ∧ keepsBut (.err :: .mgt :: ps) s (closeCmd s u) ∧ (closeCmd s u).outbox = s.outbox ++ u.outbox := by
  have f := found_calm hs hc
  refine ⟨fun p hp => ?_, closeCmd_keeps_calm (keepsBut_outbox hk) f, (closeCmd_calm_parts s f).2.2.2.2.2.2.2⟩
  obtain ⟨e, m, he⟩ := flush_calm u f
  have h5 : p.same u (flush u) := by rw [he]; cases p <;> first | rfl | exact absurd (by simp) hp
  by_cases hq : p = .cfg
  · subst hq
    have h3 : u.cfg = s.cfg := hk .cfg hg
    exact (closeCmd_cfg s u h3).trans h3.symm
  · have h6 : p.same (flush u) (closeCmd s u) := by cases p <;> first | rfl | exact absurd rfl hq
    exact Part.same_trans h5 h6

/-- What an effect that finds nothing leaves, closed: everything. -/
theorem close_quiet {s u : State} {ps : List Part} (hs : s.settled = true) (hc : s.sys.st ≠ .cold)
    (hk : keepsBut ps { s with outbox := [] } u) (he : .err ∉ ps) (hy : .sys ∉ ps) (hg : .cfg ∉ ps) :
    keepsBut [] u (closeCmd s u) ∧ keepsBut ps s (closeCmd s u) ∧ (closeCmd s u).outbox = s.outbox ++ u.outbox := by
  have f := found_nil (s := { s with outbox := [] }) hs hk he
  have c := not_cold (s := { s with outbox := [] }) hc hk hy
  refine ⟨fun p _ => ?_, closeCmd_keeps_quiet (keepsBut_outbox hk) f c, (closeCmd_quiet_parts s f c).2.2.2.2.2.2.2.2.2⟩
  by_cases hq : p = .cfg
  · subst hq
    have h3 : u.cfg = s.cfg := hk .cfg hg
    exact (closeCmd_cfg s u h3).trans h3.symm
  · unfold closeCmd; rw [flush_quiet u f c]
    cases p <;> first | rfl | exact absurd rfl hq

/-- What any effect leaves, closed: everything that logging cannot change. -/
theorem close_any {s u : State} {ps : List Part} (hk : keepsBut ps { s with outbox := [] } u) (hg : .cfg ∉ ps) :
    keepsBut [.sys, .err, .mgt, .fir, .gat, .axs, .lmp, .par, .cal] u (closeCmd s u) ∧ keepsBut (ps ++ logParts) s (closeCmd s u) := by
  refine ⟨fun p hp => ?_, closeCmd_keeps_log (keepsBut_outbox hk)⟩
  by_cases hq : p = .cfg
  · subst hq
    have h3 : u.cfg = s.cfg := hk .cfg hg
    exact (closeCmd_cfg s u h3).trans h3.symm
  · exact closeCmd_keeps s u p (by revert hp; cases p <;> simp_all)

/-- A single error raised last is the log's latest entry. -/
theorem logged_raise {s w u : State} {ps : List Part} {c : ErrClass} {code : Nat} {args : List Nat} (hs : s.settled = true)
    (hc : s.sys.st ≠ .cold) (hk : keepsBut ps { s with outbox := [] } w) (he : .err ∉ ps) (hu : u.err = (raise c code args w).err)
    (hst : u.sys.st = s.sys.st) (hf : s.err.fatalHeld = false) : logged c code s (closeCmd s u) := by
  have we : w.err = s.err := hk .err he
  have e : u.err = { s.err with found := s.err.found ++ [⟨c, code, args.take 5⟩] } := by
    rw [hu, ← we]; rfl
  refine closeCmd_logged (x := ⟨c, code, args.take 5⟩) (by rw [e]; show s.err.found ++ _ = _; rw [settled_found hs]; rfl) (by rw [hst]; exact hc)
    (by rw [e]; exact hf) (by rw [e])

/-- A rate-limited error that may be logged, raised last, is the log's latest entry (R484). -/
theorem logged_raiseLim {s w u : State} {ps : List Part} {c : ErrClass} {code key per : Nat} {args : List Nat} (hs : s.settled = true)
    (hc : s.sys.st ≠ .cold) (hk : keepsBut ps { s with outbox := [] } w) (he : .err ∉ ps) (hn : .now ∉ ps)
    (hu : u.err = (raiseLim c code key per args w).err) (hst : u.sys.st = s.sys.st) (hf : s.err.fatalHeld = false)
    (hm : mayLog s code key per = true) : logged c code s (closeCmd s u) := by
  have we : w.err = s.err := hk .err he
  have wn : w.now = s.now := hk .now hn
  have e : u.err = { s.err with
      found := s.err.found ++ [⟨c, code, args.take 5⟩]
      limits := ((code, key), s.now) :: s.err.limits.filter (fun x => x.1 != (code, key)) } := by
    have hm' : mayLog w code key per = true := by
      rw [← hm]; unfold mayLog lastLogged; rw [we, wn]
    rw [hu]; unfold raiseLim; rw [if_pos hm', ← we, ← wn]; rfl
  refine closeCmd_logged (x := ⟨c, code, args.take 5⟩) (by rw [e]; show s.err.found ++ _ = _; rw [settled_found hs]; rfl) (by rw [hst]; exact hc)
    (by rw [e]; exact hf) (by rw [e])

/-- An accepted write to a stored register, outside the CFG window. -/
theorem stored_took {a : Nat} {v n : Word} {s : State} (h1 : a / 0x10000 ≠ 1) (hk : heldAtReset a s = false) (hw : writeCmd false a v s = none) (hn : stores a v s = some n) :
    regWrite false a v s = (regStored a (regVal s a) v (setReg a n s), true) := by
  unfold stores at hn
  split at hn
  · rename_i d hd
    split at hn
    · rename_i hc
      simp only [Bool.and_eq_true, Bool.not_eq_true'] at hc
      cases hn
      rw [regWrite_stored h1 hk hw hd]
      unfold writeStored
      simp only [hc.1.1, hc.1.2, hc.2, Bool.not_true, Bool.or_self, Bool.false_eq_true, if_false]
    · cases hn
  · cases hn

/-- What was sent does not decide a write. -/
theorem stores_box (a : Nat) (v : Word) (s : State) : stores a v { s with outbox := [] } = stores a v s := rfl

/-- A Notice that is logged at most once per period sends nothing and finds at most itself (R484). -/
theorem raiseLim_finds (code key per : Nat) (args : List Nat) (s : State) : (raiseLim .notice code key per args s).outbox = s.outbox ∧
    ∀ x ∈ (raiseLim .notice code key per args s).err.found, x ∈ s.err.found ∨ x.cls = .notice := by
  unfold raiseLim
  split
  · refine ⟨rfl, fun x hx => ?_⟩
    rcases List.mem_append.mp hx with h | h
    · exact .inl h
    · rw [List.mem_singleton.mp h]; exact .inr rfl
  · exact ⟨rfl, fun x hx => .inl hx⟩

/-- A value out of range sends nothing and finds at most a Notice. -/
theorem rangeNote_finds (a code : Nat) (s : State) :
    (rangeNote a code s).outbox = s.outbox ∧ ∀ x ∈ (rangeNote a code s).err.found, x ∈ s.err.found ∨ x.cls = .notice := by
  unfold rangeNote
  dsimp only
  by_cases hg : code = Err.gulRange ∨ code = Err.camRange ∨ code = Err.ispRange ∨ code = Err.insRange
  · rw [if_pos hg]; exact raiseLim_finds _ _ _ _ _
  · rw [if_neg hg]
    refine ⟨rfl, fun x hx => ?_⟩
    rcases List.mem_append.mp hx with h | h
    · exact .inl h
    · rw [List.mem_singleton.mp h]; exact .inr rfl

/-- A refused write to a stored register, outside the CFG window, finds Notices and changes nothing else. -/
theorem stored_denied {a : Nat} {v : Word} {s : State} (h1 : a / 0x10000 ≠ 1) (hk : heldAtReset a s = false) (hw : writeCmd false a v s = none) (hd : (regDesc a).isSome = true)
    (hn : stores a v s = none) : ∃ u, regWrite false a v s = (u, false) ∧ keepsBut [.err] s u ∧ u.outbox = s.outbox ∧ (∀ x ∈ u.err.found, x ∈ s.err.found ∨ x.cls = .notice) := by
  obtain ⟨d, hd⟩ := Option.isSome_iff_exists.mp hd
  rw [regWrite_stored h1 hk hw hd]
  unfold stores at hn
  rw [hd] at hn
  dsimp only at hn
  have hc : (regIdleBad false a d (regNew a d v s) s || (!d.ok (regNew a d v s) || regStateBad a (regNew a d v s) s)) = true := by
    split at hn
    · cases hn
    · rename_i h; revert h
      cases d.ok (regNew a d v s) <;> cases regStateBad a (regNew a d v s) s <;> cases regIdleBad false a d (regNew a d v s) s <;> decide
  unfold writeStored
  dsimp only
  rw [if_pos hc]
  have two : ∀ (b1 b2 : Bool) (c1 c2 : Nat), keepsBut [.err] s (doIf b2 (rangeNote a c2) (doIf b1 (notice c1 []) s)) ∧
     (doIf b2 (rangeNote a c2) (doIf b1 (notice c1 []) s)).outbox = s.outbox ∧
       (∀ x ∈ (doIf b2 (rangeNote a c2) (doIf b1 (notice c1 []) s)).err.found, x ∈ s.err.found ∨ x.cls = .notice) := by
    intro b1 b2 c1 c2
    have one : ∀ u : State, u = doIf b1 (notice c1 []) s → keepsBut [.err] s u ∧ u.outbox = s.outbox ∧ (∀ x ∈ u.err.found, x ∈ s.err.found ∨ x.cls = .notice) := by
      rintro u rfl
      cases b1
      · exact ⟨keepsBut_refl _ _, rfl, fun x hx => .inl hx⟩
      · refine ⟨notice_keeps _ _ _, rfl, fun x hx => ?_⟩
        rcases List.mem_append.mp hx with h | h
        · exact .inl h
        · rw [List.mem_singleton.mp h]; exact .inr rfl
    obtain ⟨u, hu⟩ : ∃ u, doIf b1 (notice c1 []) s = u := ⟨_, rfl⟩
    obtain ⟨o1, o2, o3⟩ := one u hu.symm
    rw [hu]
    cases b2
    · exact ⟨o1, o2, o3⟩
    · obtain ⟨r1, r2⟩ := rangeNote_finds a c2 u
      refine ⟨keepsBut_of o1 (rangeNote_keeps _ _ _) (by simp), r1.trans o2, fun x hx => ?_⟩
      rcases r2 x hx with h | h
      · exact o3 x h
      · exact .inr h
  exact ⟨_, rfl, two _ _ _ _⟩

/-- The command of a write that a stored register refuses. -/
theorem stored_denied_gives (name : String) {m : Master} {a : Nat} {v : Word} {s : State} (hm : reaches m s = true) (hs : s.settled = true)
    (ha : a % 4 = 0) (hb : a < 0x1C0000) (h1 : a / 0x10000 ≠ 1) (hk : heldAtReset a s = false)
    (hw : writeCmd false a v { s with outbox := [] } = none) (hd : (regDesc a).isSome = true)
    (hn : stores a v s = none) : ∃ t, writeCmdAt name m a v s = .next t ∧ t.outbox = accessed m .refused v s ∧ keepsBut [.err, .mgt] s t := by
  obtain ⟨u, u1, u2, u3, u4⟩ := stored_denied h1 (show heldAtReset a { s with outbox := [] } = false from hk) hw hd ((stores_box a v s).trans hn)
  obtain ⟨t, t1, t2, t3, -⟩ := refused_gives name (ps := []) hm ha hb u1 (keepsBut_outbox u2) (by simp) u3 (fun x hx => by
    rcases u4 x hx with h | h
    · have : s.err.found = [] := settled_found hs
      exact absurd (this ▸ h : x ∈ ([] : List ErrEv)) (by simp)
    · exact h)
  exact ⟨t, t1, t2, t3⟩

/-- A single Stop found by a chip that is no standby, with nothing to wait for, takes Ready, Printing and Held to Stopped (R11, R34). -/
theorem closeCmd_stop {s t : State} {x : ErrEv} (hf : t.err.found = [x]) (hc : t.sys.st ≠ .cold) (hh : t.err.fatalHeld = false) (hx : x.cls = .stop)
    (hw : stopWaits x.code = false) (hb : isStandby t = false) (hst : t.sys.st = .ready ∨ t.sys.st = .printing ∨ t.sys.st = .held) :
    (closeCmd s t).sys.st = .stopped := by
  show (flush t).sys.st = _
  rw [flush_one hf hc]
  obtain ⟨y, hy⟩ : ∃ y, mErr (fun e => { e with found := [] }) t = y := ⟨_, rfl⟩
  have yk : keepsBut [.err] t y := by rw [← hy]; exact mErr_keeps _ _
  have yf : y.err.fatalHeld = false := by rw [← hy]; exact hh
  rw [hy]
  unfold logOne
  rw [if_neg (by rw [yf]; decide), hx]
  obtain ⟨z, hz⟩ : ∃ z, subRecord 2 (entryBytes (mkEntry y x)) (mErr (enterLog (mkEntry y x)) y) = z := ⟨_, rfl⟩
  have zk : keepsBut [.err, .mgt] t z := by
    have k1 : keepsBut [.err, .mgt] y (mErr (enterLog (mkEntry y x)) y) := keepsBut_mono (mErr_keeps _ _) (by decide)
    have k2 : keepsBut [.err, .mgt] y z := by rw [← hz]; exact keepsBut_of k1 (subRecord_keeps _ _ _) (by decide)
    exact fun p hp => Part.same_trans (yk p (fun h => hp (by simp at h; simp [h]))) (k2 p hp)
  dsimp only
  rw [hz]
  have z1 : z.par = t.par := zk .par (by decide)
  have z2 : z.regs = t.regs := zk .regs (by decide)
  have z3 : z.sys = t.sys := zk .sys (by decide)
  have b : isStandby z = false := by rw [← hb]; unfold isStandby paired regVal; rw [z1, z2]
  rw [hw, if_neg (by decide)]
  unfold enterStopped
  rw [b, if_neg (by decide), z3]
  rcases hst with h | h | h <;> rw [h] <;> exact setDev_st _ _

/-- An event that finds and sends nothing and keeps the fuses: its exact next state, CFG's other fields included. -/
theorem event_cfg {name : String} {en : Bool} {f : State → State} {s r : State} (he : en = true) (hs : s.settled = true) (hc : s.sys.st ≠ .cold)
    (hw : f { s with outbox := [] } = { r with outbox := [] }) (hf : r.err.found = s.err.found) (hst : r.sys.st = s.sys.st)
    (h1 : r.cfg.otpProg = s.cfg.otpProg) (h2 : r.cfg.otpRev = s.cfg.otpRev) (h3 : r.cfg.otpPin = s.cfg.otpPin) (hp : r.pending = s.pending)
    (ho : r.outbox = s.outbox) : event en name f s = .next r := by
  rw [event_gives he hw]
  have hq : flush { r with outbox := [] } = { r with outbox := [] } :=
    flush_quiet _ (by show r.err.found = _; rw [hf]; exact settled_found hs) (by show r.sys.st ≠ _; rw [hst]; exact hc)
  have e : closeCmd s { r with outbox := [] } = r := by
    unfold closeCmd
    rw [hq]
    dsimp only
    rw [← hp, ← ho, List.append_nil, ← h1, ← h2, ← h3]
    simp only [BitVec.or_self, Bool.or_self]
  rw [e]

/-- What logging may change of the parts it touches: the subscribers' queues, the device state, the stop point, READY, HITCH and
the advice pins of the pair, the lamp chains, and what entry to Faulted ends of the axes, the gates and the calibration. -/
def mild (s t : State) : Prop :=
  t.mgt = { s.mgt with subs := t.mgt.subs } ∧ t.sys = { s.sys with st := t.sys.st, prev := t.sys.prev } ∧ t.fir = { s.fir with stop := t.fir.stop } ∧
  t.par = { s.par with clear := t.par.clear, hitchOut := t.par.hitchOut, pendSplice := t.par.pendSplice, pendYield := t.par.pendYield, slow := t.par.slow, hold := t.par.hold } ∧
  t.lmp = { s.lmp with chains := t.lmp.chains } ∧ (∃ f, t.axs = s.axs.map f ∧ ∀ a, f a = a ∨ f a = { a with fstop := true }) ∧
  t.cal = { s.cal with groups := t.cal.groups }

theorem map_id_axs {n : Nat} (v : Vector AxisState n) : v = v.map (fun a => a) := by ext i hi; simp

theorem mild_refl (s : State) : mild s s := ⟨rfl, rfl, rfl, rfl, rfl, ⟨fun a => a, map_id_axs _, fun _ => .inl rfl⟩, rfl⟩

theorem mild_trans {s t u : State} (h : mild s t) (k : mild t u) : mild s u := by
  obtain ⟨h1, h2, h3, h4, h5, ⟨f, h6, h6'⟩, h7⟩ := h
  obtain ⟨k1, k2, k3, k4, k5, ⟨g, k6, k6'⟩, k7⟩ := k
  refine ⟨?_, ?_, ?_, ?_, ?_, ⟨fun a => g (f a), ?_, fun a => ?_⟩, ?_⟩
  · rw [k1, h1]
  · rw [k2, h2]
  · rw [k3, h3]
  · rw [k4, h4]
  · rw [k5, h5]
  · rw [k6, h6]; ext i hi; simp
  · show g (f a) = a ∨ g (f a) = _
    rcases h6' a with e | e <;> rcases k6' (f a) with e' | e' <;> rw [e', e]
    · exact .inl rfl
    · exact .inr rfl
    · exact .inr rfl
    · exact .inr rfl
  · rw [k7, h7]

/-- A change of other parts is mild. -/
theorem mild_of {s t : State} (h1 : t.mgt = { s.mgt with subs := t.mgt.subs }) (h2 : t.sys = { s.sys with st := t.sys.st, prev := t.sys.prev })
    (h3 : t.fir = { s.fir with stop := t.fir.stop })
    (h4 : t.par = { s.par with clear := t.par.clear, hitchOut := t.par.hitchOut, pendSplice := t.par.pendSplice, pendYield := t.par.pendYield, slow := t.par.slow, hold := t.par.hold })
    (h5 : t.lmp = { s.lmp with chains := t.lmp.chains }) (h6 : t.axs = s.axs) (h7 : t.cal = s.cal) : mild s t :=
  ⟨h1, h2, h3, h4, h5, ⟨fun a => a, by rw [h6]; exact map_id_axs _, fun _ => .inl rfl⟩, by rw [h7]⟩

theorem setDev_mild (n : DevState) (s : State) : mild s (setDev n s) := by
  unfold setDev
  split
  · exact mild_refl s
  · exact mild_of rfl rfl rfl rfl rfl rfl rfl

theorem lampsOff_mild (s : State) : mild s (lampsOff s) := by
  have k : keepsBut [.lmp] s (lampsOff s) := lampsOff_keeps s
  have h : (lampsOff s).lmp = { s.lmp with chains := (lampsOff s).lmp.chains } := by
    unfold lampsOff
    have step : ∀ (l : List Nat) (u : State), (each (fun n t => if bit (lampForce t (0x200 + 0x20 * n)) 31
        then each (fun f u => emit (.lbus n (bits (lampForce u (0x200 + 0x20 * n)) 7 0) f) u) lbusDark
          (mLmp (fun l => { l with chains := vmod l.chains n (fun c => ⟨false, [], false, false, c.echo⟩) }) t)
        else t) l u).lmp = { u.lmp with chains := (each (fun n t => if bit (lampForce t (0x200 + 0x20 * n)) 31
        then each (fun f u => emit (.lbus n (bits (lampForce u (0x200 + 0x20 * n)) 7 0) f) u) lbusDark
          (mLmp (fun l => { l with chains := vmod l.chains n (fun c => ⟨false, [], false, false, c.echo⟩) }) t)
        else t) l u).lmp.chains } := by
      intro l
      induction l with
      | nil => intro u; rfl
      | cons n r ih =>
        intro u
        rw [each, ih]
        have one : ∀ v : State, (if bit (lampForce v (0x200 + 0x20 * n)) 31
          then each (fun f u => emit (.lbus n (bits (lampForce u (0x200 + 0x20 * n)) 7 0) f) u) lbusDark
            (mLmp (fun l => { l with chains := vmod l.chains n (fun c => ⟨false, [], false, false, c.echo⟩) }) v)
          else v).lmp = { v.lmp with chains := (if bit (lampForce v (0x200 + 0x20 * n)) 31
          then each (fun f u => emit (.lbus n (bits (lampForce u (0x200 + 0x20 * n)) 7 0) f) u) lbusDark
            (mLmp (fun l => { l with chains := vmod l.chains n (fun c => ⟨false, [], false, false, c.echo⟩) }) v)
          else v).lmp.chains } := by
          intro v
          split
          · have t' := each_keep (fun v : State => v.lmp) (fun f u => emit (.lbus n (bits (lampForce u (0x200 + 0x20 * n)) 7 0) f) u) (fun f u => rfl) lbusDark (mLmp (fun l => { l with chains := vmod l.chains n (fun c => ⟨false, [], false, false, c.echo⟩) }) v)
            rw [t']; rfl
          · rfl
        rw [one]
    have s0 := step [0, 1] (if s.sys.st = .ready ∨ s.sys.st = .printing ∨ s.sys.st = .held ∨ s.sys.st = .stopped then emit (.scan [] 0 0 0) s else s)
    rw [s0]
    split <;> rfl
  refine mild_of ?_ ?_ ?_ ?_ h (k .axs (by decide)) (k .cal (by decide))
  · rw [show (lampsOff s).mgt = s.mgt from k .mgt (by decide)]
  · rw [show (lampsOff s).sys = s.sys from k .sys (by decide)]
  · rw [show (lampsOff s).fir = s.fir from k .fir (by decide)]
  · rw [show (lampsOff s).par = s.par from k .par (by decide)]

theorem adviceOff_mild (s : State) : mild s (adviceOff s) := by
  unfold adviceOff doIf
  dsimp only
  repeat' split
  all_goals exact mild_of rfl rfl rfl rfl rfl rfl rfl

theorem enterFaulted_mild (s : State) : mild s (enterFaulted s) := by
  unfold enterFaulted
  split
  · exact mild_refl s
  · obtain ⟨x, hx⟩ : ∃ x, hitchRelease (setDev .faulted (adviceOff (lampsOff s))) = x := ⟨_, rfl⟩
    have m : mild s x := by
      rw [← hx]
      refine mild_trans (mild_trans (mild_trans (lampsOff_mild s) (adviceOff_mild _)) (setDev_mild .faulted _)) ?_
      unfold hitchRelease
      split
      · exact mild_of rfl rfl rfl rfl rfl rfl rfl
      · exact mild_refl _
    subst hx
    exact mild_trans m ⟨rfl, rfl, rfl, rfl, rfl, ⟨fun a => { a with fstop := true }, rfl, fun _ => .inr rfl⟩, rfl⟩

theorem enterStopped_mild (s : State) : mild s (enterStopped s) := by
  unfold enterStopped
  split
  · exact mild_of rfl rfl rfl rfl rfl rfl rfl
  · split <;> first | exact setDev_mild _ s | exact mild_refl s

theorem logOne_mild (x : ErrEv) (s : State) : mild s (logOne x s) := by
  unfold logOne
  split
  · exact mild_of rfl rfl rfl rfl rfl rfl rfl
  · have h0 : mild s (subRecord 2 (entryBytes (mkEntry s x)) (mErr (enterLog (mkEntry s x)) s)) := mild_of rfl rfl rfl rfl rfl rfl rfl
    cases x.cls
    · exact h0
    · exact h0
    · dsimp only
      split
      · exact h0
      · exact mild_trans h0 (enterStopped_mild _)
    · exact mild_trans h0 (enterFaulted_mild _)

theorem flush_mild (s : State) : mild s (flush s) := by
  unfold flush
  split
  · exact mild_of rfl rfl rfl rfl rfl rfl rfl
  · have all : ∀ (l : List ErrEv) (u : State), mild u (each logOne l u) := by
      intro l
      induction l with
      | nil => exact mild_refl
      | cons x r ih => intro u; exact mild_trans (logOne_mild x u) (ih _)
    exact mild_trans (mild_of rfl rfl rfl rfl rfl rfl rfl) (all _ _)

/-- Closing a command changes the parts that logging touches in these fields only. -/
theorem closeCmd_mild (s u : State) : mild u (closeCmd s u) := flush_mild u

/-- CFG of a closed command: its fuses are those blown before and by it (R478). -/
theorem closeCmd_cfg_eq (s u : State) : (closeCmd s u).cfg = { u.cfg with
    otpProg := u.cfg.otpProg ||| s.cfg.otpProg, otpRev := u.cfg.otpRev ||| s.cfg.otpRev, otpPin := u.cfg.otpPin || s.cfg.otpPin } := by
  have : (closeCmd s u).cfg = { (flush u).cfg with
    otpProg := (flush u).cfg.otpProg ||| s.cfg.otpProg, otpRev := (flush u).cfg.otpRev ||| s.cfg.otpRev, otpPin := (flush u).cfg.otpPin || s.cfg.otpPin } := rfl
  rw [this, flush_cfg]

end Sys2Proof.Machine
end

