-- ==== Sys2Proof/Laws/Ports.lean ====
section
/-! SUPPORT. What finishing layers, closing the grid and swapping nozzle entries leave of the FIR ports, and the input handshakes of the stages. -/

namespace Sys2Proof.Machine

/-- What a port's strikes have left: positions, lags, and its triggers with their strikes. -/
def portMark (f : FirPort) : Nat × Nat × Nat × Nat × Nat × Nat × Nat × List (Nat × Option (Nat × Nat) × Bool × Mark) :=
  (f.lastLc, f.lastTf, f.lagNow, f.lagMax, f.tlast, f.ks, f.kr, f.trigs.map (fun t => (t.k, t.frozen, t.struck, t.mark)))

/-- Every port's strikes stay. -/
def strikesKept (s t : State) : Prop := ∀ p, portMark (firPort t p) = portMark (firPort s p)

theorem strikesKept_refl (s : State) : strikesKept s s := fun _ => rfl

theorem strikesKept_trans {s t u : State} (h : strikesKept s t) (k : strikesKept t u) : strikesKept s u := fun p => (k p).trans (h p)

theorem strikesKept_of_ports {s t : State} (h : t.fir.ports = s.fir.ports) : strikesKept s t := fun p => by unfold firPort; rw [h]

theorem strikesKept_of_keeps {s t : State} {ps : List Part} (h : keepsBut ps s t) (hp : .fir ∉ ps) : strikesKept s t :=
  strikesKept_of_ports (by rw [show t.fir = s.fir from h .fir hp])

theorem mFir_strikesKept (f : FirState → FirState) (s : State) (h : ∀ x, (f x).ports = x.ports) : strikesKept s (mFir f s) :=
  strikesKept_of_ports (h s.fir)

theorem strikesKept_each {α : Type} {f : α → State → State} {s t : State} {l : List α} (h : ∀ a u, strikesKept u (f a u)) (k : strikesKept s t) :
    strikesKept s (each f l t) := each_inv (fun u => strikesKept s u) f (fun a u hu => strikesKept_trans hu (h a u)) l t k

theorem keepOldEntry_strikesKept (n e : Nat) (s : State) : strikesKept s (keepOldEntry n e s) := by
  intro p
  unfold keepOldEntry
  show portMark (vget (vmod s.fir.ports (nozPort n) _) p FirPort.init) = portMark (vget s.fir.ports p FirPort.init)
  by_cases h : p = nozPort n
  · subst h
    unfold vmod vget
    split
    · rename_i hi
      simp only [portMark, Vector.toArray_set, Array.getD_eq_getD_getElem?, Array.getElem?_set_self (show nozPort n < s.fir.ports.toArray.size from by simpa using hi)]
      simp [List.map_map, Function.comp_def, hi]
    · rfl
  · rw [vget_vmod_other _ _ _ _ _ h]

theorem nozSwap_strikesKept (n new cause : Nat) (lc : Option Nat) (s : State) : strikesKept s (nozSwap n new cause lc s) := by
  unfold nozSwap
  dsimp only
  have h0 := keepOldEntry_strikesKept n (nozEntry s n) s
  have h1 : strikesKept s (bankPut 2 (8 * n) (leBytes 8 new) (keepOldEntry n (nozEntry s n) s)) :=
    strikesKept_trans h0 (strikesKept_of_ports rfl)
  refine strikesKept_trans ?_ (strikesKept_of_keeps (evalAfterSwap_keeps _ _ _) (by decide))
  have h2 : ∀ (b : Prop) [Decidable b] (u v : State), strikesKept s u → strikesKept u v → strikesKept s (if b then v else u) := by
    intro b _ u v hu hv; split
    · exact strikesKept_trans hu hv
    · exact hu
  refine h2 _ _ _ (h2 _ _ _ (h2 _ _ _ h1 ?_) ?_) ?_
  · exact strikesKept_of_keeps (journal_keeps _ _ _ _ _ _ _) (by decide)
  · exact strikesKept_of_ports rfl
  · exact strikesKept_of_keeps (gateQueue_keeps _ _) (by decide)

theorem nzTake_strikesKept (c : NzlChange) (lc : Option Nat) (s : State) : strikesKept s (nzTake c lc s) := by
  unfold nzTake
  obtain ⟨u, hu⟩ : ∃ u, nzRefill (mNzl (fun z => { z with queue := z.queue.erase c }) s) = u := ⟨_, rfl⟩
  have h : strikesKept s u := by
    rw [← hu]
    exact strikesKept_of_ports rfl
  rw [hu]
  refine strikesKept_trans h ?_
  unfold nzApply
  dsimp only
  split
  · exact strikesKept_of_ports rfl
  · rename_i new _
    have k := strikesKept_trans (strikesKept_of_keeps (bankGrant_keeps 2 1 u) (by decide)) (nozSwap_strikesKept c.noz new (nzCause u c.kind) lc (bankGrant 2 1 u))
    split
    · exact strikesKept_trans k (strikesKept_of_keeps (gateAgain_keeps _ _ _ _ _ _) (by decide))
    · exact strikesKept_trans k (strikesKept_of_ports rfl)
    · exact k

theorem nzGridClosed_strikesKept (p : Nat → Bool) (s : State) : strikesKept s (nzGridClosed p s) := by
  unfold nzGridClosed
  dsimp only
  refine strikesKept_trans ?_ (strikesKept_of_ports rfl)
  split
  · exact strikesKept_refl s
  · exact strikesKept_each (fun c u => nzTake_strikesKept c none u) (strikesKept_refl s)

theorem setOvs_strikesKept (on : Bool) (s : State) : strikesKept s (setOvs on s) := by
  unfold setOvs
  split
  · exact strikesKept_refl s
  · exact strikesKept_trans (t := mFir (fun f => { f with ovs := on }) s) (strikesKept_of_ports rfl) (strikesKept_of_keeps (advicePins_keeps _) (by decide))

theorem ovsCheck_strikesKept (s : State) : strikesKept s (ovsCheck s) := by
  unfold ovsCheck
  dsimp only
  (repeat' split) <;> first
    | exact setOvs_strikesKept _ _
    | exact strikesKept_refl _
    | exact strikesKept_trans (strikesKept_of_ports rfl) (setOvs_strikesKept _ _)

theorem closeGrid_strikesKept (s : State) : strikesKept s (closeGrid s) := by
  unfold closeGrid
  extract_lets upd s0
  have h0 : strikesKept s s0 := fun p => by
    show portMark (vget (s.fir.ports.map upd) p FirPort.init) = _
    rw [show vget (s.fir.ports.map upd) p FirPort.init = upd (vget s.fir.ports p FirPort.init) from vget_map s.fir.ports p upd FirPort.init]; rfl
  clear_value s0
  refine strikesKept_trans h0 (strikesKept_trans ?_ (nzGridClosed_strikesKept _ _))
  exact strikesKept_trans (setOvs_strikesKept _ _) (strikesKept_of_keeps (mNzl_keeps _ _) (by decide))

theorem releaseLayer_strikesKept (id cause : Nat) (s : State) : strikesKept s (releaseLayer id cause s) := by
  unfold releaseLayer
  try dsimp only
  repeat' (first
    | with_reducible exact strikesKept_refl _
    | (with_reducible show strikesKept _ (mLayer _ _ _); with_reducible refine strikesKept_trans ?_ (strikesKept_of_keeps (mLayer_keeps _ _ _) (by decide)))
    | (with_reducible show strikesKept _ (dirLayer _ _ _); with_reducible refine strikesKept_trans ?_ (strikesKept_of_keeps (dirLayer_keeps _ _ _) (by decide)))
    | (with_reducible show strikesKept _ (setLayerSt _ _ _ _); with_reducible refine strikesKept_trans ?_ (strikesKept_of_keeps (setLayerSt_keeps _ _ _ _) (by decide)))
    | (with_reducible show strikesKept _ (arbDropped _); with_reducible refine strikesKept_trans ?_ (strikesKept_of_keeps (arbDropped_keeps _) (by decide)))
    | (with_reducible show strikesKept _ (mMem _ _); with_reducible refine strikesKept_trans ?_ (strikesKept_of_keeps (mMem_keeps _ _) (by decide)))
    | (with_reducible show strikesKept _ (mTow _ _); with_reducible refine strikesKept_trans ?_ (strikesKept_of_keeps (mTow_keeps _ _) (by decide)))
    | (with_reducible show strikesKept _ (mCmp _ _); with_reducible refine strikesKept_trans ?_ (strikesKept_of_keeps (mCmp_keeps _ _) (by decide)))
    | (with_reducible show strikesKept _ (mFir _ _); refine strikesKept_trans ?_ (mFir_strikesKept _ _ (fun _ => rfl)))
    | split)

theorem layerFinished_strikesKept (id : Nat) (s : State) : strikesKept s (layerFinished id s) := by
  unfold layerFinished
  try dsimp only
  repeat' (first
    | with_reducible exact strikesKept_refl _
    | (with_reducible show strikesKept _ (creditWatch _); with_reducible refine strikesKept_trans ?_ (strikesKept_of_keeps (creditWatch_keeps _) (by decide)))
    | (with_reducible show strikesKept _ (releaseLayer _ _ _); with_reducible refine strikesKept_trans ?_ (releaseLayer_strikesKept _ _ _))
    | (with_reducible show strikesKept _ (setLayerSt _ _ _ _); with_reducible refine strikesKept_trans ?_ (strikesKept_of_keeps (setLayerSt_keeps _ _ _ _) (by decide)))
    | (with_reducible show strikesKept _ (mLayer _ _ _); with_reducible refine strikesKept_trans ?_ (strikesKept_of_keeps (mLayer_keeps _ _ _) (by decide)))
    | (with_reducible show strikesKept _ (mFir _ _); refine strikesKept_trans ?_ (mFir_strikesKept _ _ (fun _ => rfl)))
    | split)

/-- What finishing one layer does on the way (R96). -/
def finishOne (g : Geo) (l : Layer) (s : State) : State :=
  let done := (geoPorts g).all (fun q => decide (layerLast g q l < portFin (firPort s q)))
  let s := mLayer l.id (fun x => { x with lastLine := match lastLineOf s l with | some k => some k | none => x.lastLine }) s
  if done then layerFinished l.id s else s

theorem finishOne_strikesKept (g : Geo) (l : Layer) (s : State) : strikesKept s (finishOne g l s) := by
  unfold finishOne
  dsimp only
  obtain ⟨v, hv⟩ : ∃ v, mLayer l.id (fun x => { x with lastLine := match lastLineOf s l with | some k => some k | none => x.lastLine }) s = v := ⟨_, rfl⟩
  have kv : strikesKept s v := by rw [← hv]; exact strikesKept_of_keeps (mLayer_keeps _ _ _) (by decide)
  rw [hv]
  split
  · exact strikesKept_trans kv (layerFinished_strikesKept _ _)
  · exact kv

theorem finishLayers_strikesKept (s : State) : strikesKept s (finishLayers s) := by
  unfold finishLayers
  split
  · exact strikesKept_refl s
  · rename_i gr _
    obtain ⟨u, hu⟩ : ∃ u, each (finishOne s.fir.geo) (gridLayers s gr) s = u := ⟨_, rfl⟩
    have h : strikesKept s u := by
      rw [← hu]; exact strikesKept_each (fun l v => finishOne_strikesKept _ l v) (strikesKept_refl s)
    have m : ∀ v, strikesKept s v → strikesKept s (updateMargins (strandSync v)) := fun v hv =>
      strikesKept_trans hv (strikesKept_trans (strikesKept_of_keeps (strandSync_keeps v) (by decide)) (strikesKept_of_keeps (updateMargins_keeps (strandSync v)) (by decide)))
    have c : strikesKept s (checkReady (closeGrid u)) :=
      strikesKept_trans h (strikesKept_trans (closeGrid_strikesKept u) (strikesKept_of_keeps (checkReady_keeps (closeGrid u)) (by decide)))
    change strikesKept s (if (match (each (finishOne s.fir.geo) (gridLayers s gr) s).fir.grid with | some g => g.layers.isEmpty | none => false) = true then
        updateMargins (strandSync (checkReady (closeGrid (each (finishOne s.fir.geo) (gridLayers s gr) s))))
      else if (match (each (finishOne s.fir.geo) (gridLayers s gr) s).fir.grid with | some g => decide (g.layers.length < gr.layers.length) | none => false) = true then
        updateMargins (strandSync (each (finishOne s.fir.geo) (gridLayers s gr) s)) else each (finishOne s.fir.geo) (gridLayers s gr) s)
    rw [hu]
    by_cases h1 : (match u.fir.grid with | some g => g.layers.isEmpty | none => false) = true
    · rw [if_pos h1]; exact m _ c
    · rw [if_neg h1]
      by_cases h2 : (match u.fir.grid with | some g => decide (g.layers.length < gr.layers.length) | none => false) = true
      · rw [if_pos h2]; exact m _ h
      · rw [if_neg h2]; exact h

theorem closeCmd_strikesKept (s u : State) : strikesKept u (closeCmd s u) :=
  strikesKept_of_ports (by rw [(closeCmd_mild s u).2.2.1])

theorem ctlLeft_none {s : State} (h : s.par.pendStates = []) : ctlLeft s = s := by
  unfold ctlLeft; rw [if_pos (.inr (by simp [h]))]

end Sys2Proof.Machine
end

