-- ==== Sys2Proof/Laws/Banks.lean ====
section
/-! SUPPORT. The banks' bytes (R318, R319): a read after a write gives what was written, and every other byte stays; the input
handshakes of the stages when nothing halts them (R499, R502). -/

namespace Sys2Proof.Machine

/-- Bytes written one by one into a canonical memory. -/
theorem spGet_puts (o : Nat) (d : Bytes) (k : Nat) : ∀ (l : List Nat) (m : List (Nat × Byte)), Memory.wf m = true →
    Memory.wf (each (fun i m => spSet 0 m (o + i) (d.getD i 0)) l m) = true ∧
    spGet 0 (each (fun i m => spSet 0 m (o + i) (d.getD i 0)) l m) k = if o ≤ k ∧ k - o ∈ l then d.getD (k - o) 0 else spGet 0 m k
  | [], m, h => ⟨h, by simp [each]⟩
  | i :: r, m, h => by
    have hw : Memory.wf (spSet 0 m (o + i) (d.getD i 0)) = true := spSet_sparseOk (fun _ => (0 : Byte)) (o + i) _ m h
    obtain ⟨a, b⟩ := spGet_puts o d k r _ hw
    refine ⟨a, ?_⟩
    show spGet 0 (each _ r (spSet 0 m (o + i) (d.getD i 0))) k = _
    rw [b]
    by_cases hk : o ≤ k ∧ k - o ∈ r
    · rw [if_pos hk, if_pos ⟨hk.1, List.mem_cons_of_mem _ hk.2⟩]
    · rw [if_neg hk]
      by_cases he : k = o + i
      · subst he
        rw [if_pos ⟨by omega, by simp⟩]
        have := spGet_spSet_same (fun _ => (0 : Byte)) (o + i) (d.getD i 0) m h
        rw [this]; congr 1; omega
      · have h2 : ¬ (o ≤ k ∧ k - o ∈ i :: r) := by
          rintro ⟨h1, h2⟩
          rcases List.mem_cons.mp h2 with h3 | h3
          · omega
          · exact hk ⟨h1, h3⟩
        rw [if_neg h2]
        exact spGet_spSet_other (fun _ => (0 : Byte)) (o + i) k _ he m h

/-- A canonical state's banks are canonical. -/
theorem bank_wf {s : State} (h : s.canon = true) (b : Nat) : Memory.wf (bank s b).data = true := by
  unfold State.canon at h
  simp only [Bool.and_eq_true, List.all_eq_true] at h
  unfold bank vget
  by_cases hb : b < 7
  · have : s.mem.banks.toArray.getD b bankInit = s.mem.banks[b] := by
      simp [Array.getD, hb]
    rw [this]
    exact h.1.2 _ (by simp)
  · have : s.mem.banks.toArray.getD b bankInit = bankInit := by simp [Array.getD, hb]
    rw [this]; rfl

/-- A byte of a bank after a write to it. -/
theorem bankByte_put {s : State} {b : Nat} (o : Nat) (d : Bytes) (hb : b < 7) (hw : Memory.wf (bank s b).data = true) (k : Nat) :
    bankByte (bankPut b o d s) b k = if o ≤ k ∧ k < o + d.length then d.getD (k - o) 0 else bankByte s b k := by
  have e : (bank (bankPut b o d s) b).data = each (fun i m => spSet 0 m (o + i) (d.getD i 0)) (List.range d.length) (bank s b).data := by
    show (vget (vmod s.mem.banks b _) b bankInit).data = _
    rw [vget_vmod_same _ _ _ _ hb]; rfl
  unfold bankByte
  rw [e, (spGet_puts o d k _ _ hw).2]
  simp only [List.mem_range]
  by_cases h : o ≤ k ∧ k < o + d.length
  · rw [if_pos h, if_pos ⟨h.1, by omega⟩]
  · rw [if_neg h, if_neg (by omega)]

theorem bank_put_wf {s : State} {b : Nat} (o : Nat) (d : Bytes) (hb : b < 7) (hw : Memory.wf (bank s b).data = true) :
    Memory.wf (bank (bankPut b o d s) b).data = true := by
  have e : (bank (bankPut b o d s) b).data = each (fun i m => spSet 0 m (o + i) (d.getD i 0)) (List.range d.length) (bank s b).data := by
    show (vget (vmod s.mem.banks b _) b bankInit).data = _
    rw [vget_vmod_same _ _ _ _ hb]; rfl
  rw [e]; exact (spGet_puts o d 0 _ _ hw).1

/-- A write to one bank leaves the others. -/
theorem bank_put_other (s : State) {b c : Nat} (o : Nat) (d : Bytes) (h : c ≠ b) : bank (bankPut b o d s) c = bank s c :=
  vget_vmod_other _ _ _ _ _ h

/-- The bytes just written read back. -/
theorem bankBytes_put {s : State} {b : Nat} (o : Nat) (d : Bytes) (hb : b < 7) (hw : Memory.wf (bank s b).data = true) :
    bankBytes (bankPut b o d s) b o d.length = d := by
  unfold bankBytes
  apply List.ext_getElem
  · simp
  · intro i h1 h2
    simp only [List.getElem_map, List.getElem_range]
    rw [bankByte_put o d hb hw, if_pos ⟨by omega, by omega⟩]
    simp [List.getD, h2]

/-- Bytes outside those written read as before. -/
theorem bankBytes_put_other {s : State} {b : Nat} (o : Nat) (d : Bytes) (hb : b < 7) (hw : Memory.wf (bank s b).data = true) (p n : Nat)
    (h : p + n ≤ o ∨ o + d.length ≤ p) : bankBytes (bankPut b o d s) b p n = bankBytes s b p n := by
  unfold bankBytes
  refine List.map_congr_left (fun i hi => ?_)
  rw [List.mem_range] at hi
  rw [bankByte_put o d hb hw, if_neg (by omega)]

/-- The little-endian number of `n` little-endian bytes. -/
theorem leNat_leBytes : ∀ (n x : Nat), leNat (leBytes n x) = x % 256 ^ n
  | 0, x => by simp [leNat, leBytes, Nat.mod_one]
  | n + 1, x => by
    simp only [leBytes, leNat, leNat_leBytes n, BitVec.toNat_ofNat]
    rw [show (256 : Nat) ^ (n + 1) = 256 * 256 ^ n from by rw [Nat.pow_succ, Nat.mul_comm], show (2 : Nat) ^ 8 = 256 from rfl, Nat.mod_mul]

theorem leBytes_length : ∀ (n x : Nat), (leBytes n x).length = n
  | 0, _ => rfl
  | n + 1, x => by simp [leBytes, leBytes_length n]

/-- A word just written reads back. -/
theorem bankWord_put {s : State} {b : Nat} (o n x : Nat) (hb : b < 7) (hw : Memory.wf (bank s b).data = true) :
    bankWord (bankPut b o (leBytes n x) s) b o n = x % 256 ^ n := by
  unfold bankWord
  have := bankBytes_put o (leBytes n x) hb hw
  rw [leBytes_length] at this
  rw [this, leNat_leBytes]

/-- A token that meets no halt and no breakpoint is taken as it comes (R499, R502). -/
theorem stageTake_unhalted {s : State} {k layer id : Nat} {tok : List Nat} {lc : Option Nat} (h : unhalted s k tok layer id lc) (f : State → State) :
    stageTake k tok layer id lc f s = f s := by
  obtain ⟨h1, h2, h3⟩ := h
  have e : (List.range 16).filter (fun n => bpMatch s n k layer id lc) = [] := by
    rw [List.filter_eq_nil_iff]; intro n hn; rw [h3 n (List.mem_range.mp hn)]; decide
  have ht : ∀ u : State, u.dbg = s.dbg → takeToken k f u = f u := by
    intro u hu
    unfold takeToken
    have : s.dbg.stages.getLsbD (k - 1) = false := h1
    congr 1
    show { u with dbg := { u.dbg with steps := if u.dbg.stages.getLsbD (k - 1) = true then _ else u.dbg.steps } } = u
    rw [hu, this]
    cases u; simp only at hu; subst hu; rfl
  unfold stageTake
  rw [if_neg (by simpa using h2)]
  simp only [e, List.filter_nil]
  exact ht s rfl

/-- The first element that `modFirst` has changed. -/
theorem find_modFirst {α : Type} (p : α → Bool) (f : α → α) (hf : ∀ x, p x = true → p (f x) = true) : ∀ l : List α,
    (modFirst p f l).find? p = (l.find? p).map f
  | [] => rfl
  | a :: r => by
    unfold modFirst
    by_cases h : p a = true
    · simp [h, hf a h]
    · have h' : p a = false := by simpa using h
      simp [h', find_modFirst p f hf r]

/-- Another element, when `modFirst` changes an element that is not selected. -/
theorem find_modFirst_other {α : Type} (p q : α → Bool) (f : α → α) (hq : ∀ x, p x = true → q x = false ∧ q (f x) = false) : ∀ l : List α,
    (modFirst p f l).find? q = l.find? q
  | [] => rfl
  | a :: r => by
    unfold modFirst
    by_cases h : p a = true
    · simp [h, (hq a h).1, (hq a h).2]
    · have h' : p a = false := by simpa using h
      simp only [h', Bool.false_eq_true, if_false, List.find?_cons, find_modFirst_other p q f hq r]

end Sys2Proof.Machine
end

