-- ==== Sys2Proof/Laws/Grows.lean ====
section
/-! SUPPORT. What finishing layers and what it calls send is appended to the outbox: one lemma `f_grows` per operation. -/

namespace Sys2Proof.Machine

/-- The outbox only grows. -/
def grows (s t : State) : Prop := ∃ o, t.outbox = s.outbox ++ o
theorem grows_refl (s : State) : grows s s := ⟨[], by simp⟩
theorem grows_eq {s t : State} (h : t.outbox = s.outbox) : grows s t := ⟨[], by simp [h]⟩
theorem grows_trans {s t u : State} (h : grows s t) (k : grows t u) : grows s u := by
  obtain ⟨a, ha⟩ := h
  obtain ⟨b, hb⟩ := k
  exact ⟨a ++ b, by rw [hb, ha, List.append_assoc]⟩
theorem grows_emit (o : Output) (s : State) : grows s (emit o s) := ⟨[o], rfl⟩
theorem grows_ite {s t u : State} {c : Prop} [Decidable c] (h : grows s t) (k : grows s u) : grows s (if c then t else u) := by split <;> assumption
theorem grows_doIf {s t : State} {b : Bool} {f : State → State} (h : ∀ u, grows u (f u)) (k : grows s t) : grows s (doIf b f t) := by
  unfold doIf
  split
  · exact grows_trans k (h t)
  · exact k
theorem grows_each {α : Type} {s t : State} {f : α → State → State} {l : List α} (h : ∀ a u, grows u (f a u)) (k : grows s t) : grows s (each f l t) :=
  each_inv (fun u => grows s u) f (fun a u hu => grows_trans hu (h a u)) l t k
theorem raiseLim_grows (c : ErrClass) (code key per : Nat) (args : List Nat) (s : State) : grows s (raiseLim c code key per args s) := by
  unfold raiseLim
  split <;> exact grows_eq rfl
theorem grows_mem {s t : State} (h : grows s t) {o : Output} (ho : o ∈ s.outbox) : o ∈ t.outbox := by
  obtain ⟨a, ha⟩ := h
  rw [ha]; exact List.mem_append_left _ ho

theorem mErr_grows (f : ErrState → ErrState) (s : State) : grows s (mErr f s) := grows_eq rfl
theorem mSys_grows (f : SysState → SysState) (s : State) : grows s (mSys f s) := grows_eq rfl
theorem mNet_grows (i : Nat) (f : NetPortState → NetPortState) (s : State) : grows s (mNet i f s) := grows_eq rfl
theorem mMgt_grows (f : MgtState → MgtState) (s : State) : grows s (mMgt f s) := grows_eq rfl
theorem mTow_grows (f : TowState → TowState) (s : State) : grows s (mTow f s) := grows_eq rfl
theorem mCmp_grows (f : CmpState → CmpState) (s : State) : grows s (mCmp f s) := grows_eq rfl
theorem mStr_grows (f : StrState → StrState) (s : State) : grows s (mStr f s) := grows_eq rfl
theorem mStrand_grows (n : Nat) (f : Strand → Strand) (s : State) : grows s (mStrand n f s) := grows_eq rfl
theorem mFir_grows (f : FirState → FirState) (s : State) : grows s (mFir f s) := grows_eq rfl
theorem mPort_grows (p : Nat) (f : FirPort → FirPort) (s : State) : grows s (mPort p f s) := grows_eq rfl
theorem mNzl_grows (f : NzlState → NzlState) (s : State) : grows s (mNzl f s) := grows_eq rfl
theorem mGat_grows (g : Nat) (f : GateState → GateState) (s : State) : grows s (mGat g f s) := grows_eq rfl
theorem mMem_grows (f : MemState → MemState) (s : State) : grows s (mMem f s) := grows_eq rfl
theorem mBank_grows (b : Nat) (f : BankSt → BankSt) (s : State) : grows s (mBank b f s) := grows_eq rfl
theorem mLmp_grows (f : LampState → LampState) (s : State) : grows s (mLmp f s) := grows_eq rfl
theorem mPar_grows (f : ParState → ParState) (s : State) : grows s (mPar f s) := grows_eq rfl
theorem mCal_grows (f : CalState → CalState) (s : State) : grows s (mCal f s) := grows_eq rfl
theorem raise_grows (cls : ErrClass) (code : Nat) (args : List Nat) (s : State) : grows s (raise cls code args s) := grows_eq rfl
theorem tickFree_grows (s : State) : grows s (tickFree s) := grows_eq rfl
theorem notice_grows (code : Nat) (args : List Nat) (s : State) : grows s (notice code args s) := by
  unfold notice
  try dsimp only
  repeat' (first
    | with_reducible exact grows_refl _
    | (with_reducible show grows _ (raise _ _ _ _); with_reducible refine grows_trans ?_ (raise_grows _ _ _ _))
    | with_reducible refine grows_ite ?_ ?_
    | with_reducible refine grows_doIf (fun _ => ?_) ?_
    | with_reducible refine grows_each (fun _ _ => ?_) ?_
    | dsimp only [id]
    | split
    | exact grows_eq (by with_reducible rfl))

theorem faultErr_grows (code : Nat) (args : List Nat) (s : State) : grows s (faultErr code args s) := by
  unfold faultErr
  try dsimp only
  repeat' (first
    | with_reducible exact grows_refl _
    | (with_reducible show grows _ (raise _ _ _ _); with_reducible refine grows_trans ?_ (raise_grows _ _ _ _))
    | with_reducible refine grows_ite ?_ ?_
    | with_reducible refine grows_doIf (fun _ => ?_) ?_
    | with_reducible refine grows_each (fun _ _ => ?_) ?_
    | dsimp only [id]
    | split
    | exact grows_eq (by with_reducible rfl))

theorem subRecord_grows (kind : Nat) (data : Bytes) (s : State) : grows s (subRecord kind data s) := by
  unfold subRecord
  try dsimp only
  repeat' (first
    | with_reducible exact grows_refl _
    | (with_reducible show grows _ (mMgt _ _); with_reducible refine grows_trans ?_ (mMgt_grows _ _))
    | with_reducible refine grows_ite ?_ ?_
    | with_reducible refine grows_doIf (fun _ => ?_) ?_
    | with_reducible refine grows_each (fun _ _ => ?_) ?_
    | dsimp only [id]
    | split
    | exact grows_eq (by with_reducible rfl))

theorem setDev_grows (n : DevState) (s : State) : grows s (setDev n s) := by
  unfold setDev
  try dsimp only
  repeat' (first
    | with_reducible exact grows_refl _
    | (with_reducible show grows _ (mSys _ _); with_reducible refine grows_trans ?_ (mSys_grows _ _))
    | (with_reducible show grows _ (subRecord _ _ _); with_reducible refine grows_trans ?_ (subRecord_grows _ _ _))
    | with_reducible refine grows_ite ?_ ?_
    | with_reducible refine grows_doIf (fun _ => ?_) ?_
    | with_reducible refine grows_each (fun _ _ => ?_) ?_
    | dsimp only [id]
    | split
    | exact grows_eq (by with_reducible rfl))

theorem hitchRelease_grows (s : State) : grows s (hitchRelease s) := by
  unfold hitchRelease
  try dsimp only
  repeat' (first
    | with_reducible exact grows_refl _
    | (with_reducible show grows _ (mPar _ _); with_reducible refine grows_trans ?_ (mPar_grows _ _))
    | (with_reducible show grows _ (emit _ _); with_reducible refine grows_trans ?_ (grows_emit _ _))
    | with_reducible refine grows_ite ?_ ?_
    | with_reducible refine grows_doIf (fun _ => ?_) ?_
    | with_reducible refine grows_each (fun _ _ => ?_) ?_
    | dsimp only [id]
    | split
    | exact grows_eq (by with_reducible rfl))

theorem lampsOff_grows (s : State) : grows s (lampsOff s) := by
  unfold lampsOff
  try dsimp only
  repeat' (first
    | with_reducible exact grows_refl _
    | (with_reducible show grows _ (mLmp _ _); with_reducible refine grows_trans ?_ (mLmp_grows _ _))
    | (with_reducible show grows _ (emit _ _); with_reducible refine grows_trans ?_ (grows_emit _ _))
    | with_reducible refine grows_ite ?_ ?_
    | with_reducible refine grows_doIf (fun _ => ?_) ?_
    | with_reducible refine grows_each (fun _ _ => ?_) ?_
    | dsimp only [id]
    | split
    | exact grows_eq (by with_reducible rfl))

theorem adviceOff_grows (s : State) : grows s (adviceOff s) := by
  unfold adviceOff
  try dsimp only
  repeat' (first
    | with_reducible exact grows_refl _
    | (with_reducible show grows _ (mPar _ _); with_reducible refine grows_trans ?_ (mPar_grows _ _))
    | (with_reducible show grows _ (emit _ _); with_reducible refine grows_trans ?_ (grows_emit _ _))
    | with_reducible refine grows_doIf (fun _ => ?_) ?_)

theorem enterFaulted_grows (s : State) : grows s (enterFaulted s) := by
  unfold enterFaulted
  split
  · exact grows_refl s
  · exact grows_trans (grows_trans (grows_trans (lampsOff_grows s) (adviceOff_grows _)) (grows_trans (setDev_grows _ _) (hitchRelease_grows _))) (grows_eq rfl)

theorem enterStopped_grows (s : State) : grows s (enterStopped s) := by
  unfold enterStopped
  try dsimp only
  repeat' (first
    | with_reducible exact grows_refl _
    | (with_reducible show grows _ (mFir _ _); with_reducible refine grows_trans ?_ (mFir_grows _ _))
    | (with_reducible show grows _ (mPar _ _); with_reducible refine grows_trans ?_ (mPar_grows _ _))
    | (with_reducible show grows _ (setDev _ _); with_reducible refine grows_trans ?_ (setDev_grows _ _))
    | with_reducible refine grows_ite ?_ ?_
    | with_reducible refine grows_doIf (fun _ => ?_) ?_
    | with_reducible refine grows_each (fun _ _ => ?_) ?_
    | dsimp only [id]
    | split
    | exact grows_eq (by with_reducible rfl))

theorem logOne_grows (x : ErrEv) (s : State) : grows s (logOne x s) := by
  unfold logOne
  try dsimp only
  repeat' (first
    | with_reducible exact grows_refl _
    | (with_reducible show grows _ (mErr _ _); with_reducible refine grows_trans ?_ (mErr_grows _ _))
    | (with_reducible show grows _ (subRecord _ _ _); with_reducible refine grows_trans ?_ (subRecord_grows _ _ _))
    | (with_reducible show grows _ (enterFaulted _); with_reducible refine grows_trans ?_ (enterFaulted_grows _))
    | (with_reducible show grows _ (enterStopped _); with_reducible refine grows_trans ?_ (enterStopped_grows _))
    | with_reducible refine grows_ite ?_ ?_
    | with_reducible refine grows_doIf (fun _ => ?_) ?_
    | with_reducible refine grows_each (fun _ _ => ?_) ?_
    | dsimp only [id]
    | split
    | exact grows_eq (by with_reducible rfl))

theorem flush_grows (s : State) : grows s (flush s) := by
  unfold flush
  try dsimp only
  repeat' (first
    | with_reducible exact grows_refl _
    | (with_reducible show grows _ (mErr _ _); with_reducible refine grows_trans ?_ (mErr_grows _ _))
    | (with_reducible show grows _ (logOne _ _); with_reducible refine grows_trans ?_ (logOne_grows _ _))
    | with_reducible refine grows_ite ?_ ?_
    | with_reducible refine grows_doIf (fun _ => ?_) ?_
    | with_reducible refine grows_each (fun _ _ => ?_) ?_
    | dsimp only [id]
    | split
    | exact grows_eq (by with_reducible rfl))

theorem countTx_grows (np : Nat) (s : State) : grows s (countTx np s) := by
  unfold countTx
  try dsimp only
  repeat' (first
    | with_reducible exact grows_refl _
    | (with_reducible show grows _ (mNet _ _ _); with_reducible refine grows_trans ?_ (mNet_grows _ _ _))
    | with_reducible refine grows_ite ?_ ?_
    | with_reducible refine grows_doIf (fun _ => ?_) ?_
    | with_reducible refine grows_each (fun _ _ => ?_) ?_
    | dsimp only [id]
    | split
    | exact grows_eq (by with_reducible rfl))

theorem sendOn_grows (v : Via) (pcp : Nat) (dst : Session) (src : Nat) (d : Bytes) (s : State) : grows s (sendOn v pcp dst src d s) := by
  unfold sendOn
  try dsimp only
  repeat' (first
    | with_reducible exact grows_refl _
    | (with_reducible show grows _ (emit _ _); with_reducible refine grows_trans ?_ (grows_emit _ _))
    | (with_reducible show grows _ (countTx _ _); with_reducible refine grows_trans ?_ (countTx_grows _ _))
    | with_reducible refine grows_ite ?_ ?_
    | with_reducible refine grows_doIf (fun _ => ?_) ?_
    | with_reducible refine grows_each (fun _ _ => ?_) ?_
    | dsimp only [id]
    | split
    | exact grows_eq (by with_reducible rfl))

theorem sendSolicit_grows (np : Nat) (v6 : Bool) (ip : BitVec 128) (s : State) : grows s (sendSolicit np v6 ip s) := by
  unfold sendSolicit
  try dsimp only
  repeat' (first
    | with_reducible exact grows_refl _
    | (with_reducible show grows _ (emit _ _); with_reducible refine grows_trans ?_ (grows_emit _ _))
    | (with_reducible show grows _ (countTx _ _); with_reducible refine grows_trans ?_ (countTx_grows _ _))
    | with_reducible refine grows_ite ?_ ?_
    | with_reducible refine grows_doIf (fun _ => ?_) ?_
    | with_reducible refine grows_each (fun _ _ => ?_) ?_
    | dsimp only [id]
    | split
    | exact grows_eq (by with_reducible rfl))

theorem sendVia_grows (np pcp : Nat) (dst : Session) (src : Nat) (d : Bytes) (s : State) : grows s (sendVia np pcp dst src d s) := by
  unfold sendVia
  try dsimp only
  repeat' (first
    | with_reducible exact grows_refl _
    | (with_reducible show grows _ (sendOn _ _ _ _ _ _); with_reducible refine grows_trans ?_ (sendOn_grows _ _ _ _ _ _))
    | (with_reducible show grows _ (mNet _ _ _); with_reducible refine grows_trans ?_ (mNet_grows _ _ _))
    | (with_reducible show grows _ (sendSolicit _ _ _ _); with_reducible refine grows_trans ?_ (sendSolicit_grows _ _ _ _))
    | with_reducible refine grows_ite ?_ ?_
    | with_reducible refine grows_doIf (fun _ => ?_) ?_
    | with_reducible refine grows_each (fun _ _ => ?_) ?_
    | dsimp only [id]
    | split
    | exact grows_eq (by with_reducible rfl))

theorem sendUnprompted_grows (pcp : Nat) (dst : Session) (src : Nat) (d : Bytes) (s : State) : grows s (sendUnprompted pcp dst src d s) := by
  unfold sendUnprompted
  try dsimp only
  repeat' (first
    | with_reducible exact grows_refl _
    | (with_reducible show grows _ (sendVia _ _ _ _ _ _); with_reducible refine grows_trans ?_ (sendVia_grows _ _ _ _ _ _))
    | with_reducible refine grows_ite ?_ ?_
    | with_reducible refine grows_doIf (fun _ => ?_) ?_
    | with_reducible refine grows_each (fun _ _ => ?_) ?_
    | dsimp only [id]
    | split
    | exact grows_eq (by with_reducible rfl))

theorem mLayer_grows (id : Nat) (f : Layer → Layer) (s : State) : grows s (mLayer id f s) := by
  unfold mLayer
  try dsimp only
  repeat' (first
    | with_reducible exact grows_refl _
    | (with_reducible show grows _ (mTow _ _); with_reducible refine grows_trans ?_ (mTow_grows _ _))
    | with_reducible refine grows_ite ?_ ?_
    | with_reducible refine grows_doIf (fun _ => ?_) ?_
    | with_reducible refine grows_each (fun _ _ => ?_) ?_
    | dsimp only [id]
    | split
    | exact grows_eq (by with_reducible rfl))

theorem sendTow_grows (np : Option Via) (ss : Session) (d : Bytes) (s : State) : grows s (sendTow np ss d s) := by
  unfold sendTow
  try dsimp only
  repeat' (first
    | with_reducible exact grows_refl _
    | (with_reducible show grows _ (sendOn _ _ _ _ _ _); with_reducible refine grows_trans ?_ (sendOn_grows _ _ _ _ _ _))
    | (with_reducible show grows _ (sendUnprompted _ _ _ _ _); with_reducible refine grows_trans ?_ (sendUnprompted_grows _ _ _ _ _))
    | with_reducible refine grows_ite ?_ ?_
    | with_reducible refine grows_doIf (fun _ => ?_) ?_
    | with_reducible refine grows_each (fun _ _ => ?_) ?_
    | dsimp only [id]
    | split
    | exact grows_eq (by with_reducible rfl))

theorem setLayerSt_grows (id : Nat) (n : LState) (cause : Nat) (s : State) : grows s (setLayerSt id n cause s) := by
  unfold setLayerSt
  try dsimp only
  repeat' (first
    | with_reducible exact grows_refl _
    | (with_reducible show grows _ (subRecord _ _ _); with_reducible refine grows_trans ?_ (subRecord_grows _ _ _))
    | (with_reducible show grows _ (mLayer _ _ _); with_reducible refine grows_trans ?_ (mLayer_grows _ _ _))
    | (with_reducible show grows _ (sendTow _ _ _ _); with_reducible refine grows_trans ?_ (sendTow_grows _ _ _ _))
    | with_reducible refine grows_ite ?_ ?_
    | with_reducible refine grows_doIf (fun _ => ?_) ?_
    | with_reducible refine grows_each (fun _ _ => ?_) ?_
    | dsimp only [id]
    | split
    | exact grows_eq (by with_reducible rfl))

theorem mArb_grows (i : Nat) (f : Arb → Arb) (s : State) : grows s (mArb i f s) := by
  unfold mArb
  try dsimp only
  repeat' (first
    | with_reducible exact grows_refl _
    | (with_reducible show grows _ (mMem _ _); with_reducible refine grows_trans ?_ (mMem_grows _ _))
    | with_reducible refine grows_ite ?_ ?_
    | with_reducible refine grows_doIf (fun _ => ?_) ?_
    | with_reducible refine grows_each (fun _ _ => ?_) ?_
    | dsimp only [id]
    | split
    | exact grows_eq (by with_reducible rfl))

theorem arbDropped_grows (s : State) : grows s (arbDropped s) := by
  unfold arbDropped
  try dsimp only
  repeat' (first
    | with_reducible exact grows_refl _
    | (with_reducible show grows _ (mArb _ _ _); with_reducible refine grows_trans ?_ (mArb_grows _ _ _))
    | with_reducible refine grows_ite ?_ ?_
    | with_reducible refine grows_doIf (fun _ => ?_) ?_
    | with_reducible refine grows_each (fun _ _ => ?_) ?_
    | dsimp only [id]
    | split
    | exact grows_eq (by with_reducible rfl))

theorem bankPut_grows (b o : Nat) (d : Bytes) (s : State) : grows s (bankPut b o d s) := by
  unfold bankPut
  try dsimp only
  repeat' (first
    | with_reducible exact grows_refl _
    | (with_reducible show grows _ (mBank _ _ _); with_reducible refine grows_trans ?_ (mBank_grows _ _ _))
    | with_reducible refine grows_ite ?_ ?_
    | with_reducible refine grows_doIf (fun _ => ?_) ?_
    | with_reducible refine grows_each (fun _ _ => ?_) ?_
    | dsimp only [id]
    | split
    | exact grows_eq (by with_reducible rfl))

theorem dirPut_grows (e : Nat) (what : Option (Nat × Nat × Nat × Bool)) (s : State) : grows s (dirPut e what s) :=
  bankPut_grows _ _ _ _

theorem dirLayer_grows (l : Layer) (free : Bool) (s : State) : grows s (dirLayer l free s) := by
  unfold dirLayer
  try dsimp only
  repeat' (first
    | with_reducible exact grows_refl _
    | (with_reducible show grows _ (dirPut _ _ _); with_reducible refine grows_trans ?_ (dirPut_grows _ _ _))
    | with_reducible refine grows_ite ?_ ?_
    | with_reducible refine grows_doIf (fun _ => ?_) ?_
    | with_reducible refine grows_each (fun _ _ => ?_) ?_
    | dsimp only [id]
    | split
    | exact grows_eq (by with_reducible rfl))

theorem releaseLayer_grows (id cause : Nat) (s : State) : grows s (releaseLayer id cause s) := by
  unfold releaseLayer
  try dsimp only
  repeat' (first
    | with_reducible exact grows_refl _
    | (with_reducible show grows _ (mLayer _ _ _); with_reducible refine grows_trans ?_ (mLayer_grows _ _ _))
    | (with_reducible show grows _ (dirLayer _ _ _); with_reducible refine grows_trans ?_ (dirLayer_grows _ _ _))
    | (with_reducible show grows _ (setLayerSt _ _ _ _); with_reducible refine grows_trans ?_ (setLayerSt_grows _ _ _ _))
    | (with_reducible show grows _ (arbDropped _); with_reducible refine grows_trans ?_ (arbDropped_grows _))
    | (with_reducible show grows _ (mMem _ _); with_reducible refine grows_trans ?_ (mMem_grows _ _))
    | (with_reducible show grows _ (mTow _ _); with_reducible refine grows_trans ?_ (mTow_grows _ _))
    | (with_reducible show grows _ (mFir _ _); with_reducible refine grows_trans ?_ (mFir_grows _ _))
    | (with_reducible show grows _ (mCmp _ _); with_reducible refine grows_trans ?_ (mCmp_grows _ _))
    | with_reducible refine grows_ite ?_ ?_
    | with_reducible refine grows_doIf (fun _ => ?_) ?_
    | with_reducible refine grows_each (fun _ _ => ?_) ?_
    | dsimp only [id]
    | split
    | exact grows_eq (by with_reducible rfl))

theorem checkReady_grows (s : State) : grows s (checkReady s) := by
  unfold checkReady
  try dsimp only
  repeat' (first
    | with_reducible exact grows_refl _
    | (with_reducible show grows _ (setDev _ _); with_reducible refine grows_trans ?_ (setDev_grows _ _))
    | with_reducible refine grows_ite ?_ ?_
    | with_reducible refine grows_doIf (fun _ => ?_) ?_
    | with_reducible refine grows_each (fun _ _ => ?_) ?_
    | dsimp only [id]
    | split
    | exact grows_eq (by with_reducible rfl))

theorem seekStrand_grows (n id lt : Nat) (s : State) : grows s (seekStrand n id lt s) := by
  unfold seekStrand
  try dsimp only
  repeat' (first
    | with_reducible exact grows_refl _
    | (with_reducible show grows _ (mStrand _ _ _); with_reducible refine grows_trans ?_ (mStrand_grows _ _ _))
    | with_reducible refine grows_ite ?_ ?_
    | with_reducible refine grows_doIf (fun _ => ?_) ?_
    | with_reducible refine grows_each (fun _ _ => ?_) ?_
    | dsimp only [id]
    | split
    | exact grows_eq (by with_reducible rfl))

theorem enterStrand_grows (n id : Nat) (s : State) : grows s (enterStrand n id s) := by
  unfold enterStrand
  try dsimp only
  repeat' (first
    | with_reducible exact grows_refl _
    | (with_reducible show grows _ (seekStrand _ _ _ _); with_reducible refine grows_trans ?_ (seekStrand_grows _ _ _ _))
    | with_reducible refine grows_ite ?_ ?_
    | with_reducible refine grows_doIf (fun _ => ?_) ?_
    | with_reducible refine grows_each (fun _ _ => ?_) ?_
    | dsimp only [id]
    | split
    | exact grows_eq (by with_reducible rfl))

theorem seekAhead_grows (n : Nat) (x : Layer) (lt : Nat) (s : State) : grows s (seekAhead n x lt s) := by
  unfold seekAhead
  try dsimp only
  repeat' (first
    | with_reducible exact grows_refl _
    | (with_reducible show grows _ (mStr _ _); with_reducible refine grows_trans ?_ (mStr_grows _ _))
    | (with_reducible show grows _ (mStrand _ _ _); with_reducible refine grows_trans ?_ (mStrand_grows _ _ _))
    | with_reducible refine grows_ite ?_ ?_
    | with_reducible refine grows_doIf (fun _ => ?_) ?_
    | with_reducible refine grows_each (fun _ _ => ?_) ?_
    | dsimp only [id]
    | split
    | exact grows_eq (by with_reducible rfl))

theorem strandAhead_grows (n : Nat) (s : State) : grows s (strandAhead n s) := by
  unfold strandAhead
  try dsimp only
  repeat' (first
    | with_reducible exact grows_refl _
    | (with_reducible show grows _ (mStrand _ _ _); with_reducible refine grows_trans ?_ (mStrand_grows _ _ _))
    | (with_reducible show grows _ (seekAhead _ _ _ _); with_reducible refine grows_trans ?_ (seekAhead_grows _ _ _ _))
    | with_reducible refine grows_ite ?_ ?_
    | with_reducible refine grows_doIf (fun _ => ?_) ?_
    | with_reducible refine grows_each (fun _ _ => ?_) ?_
    | dsimp only [id]
    | split
    | exact grows_eq (by with_reducible rfl))

theorem strandSync_grows (s : State) : grows s (strandSync s) := by
  unfold strandSync
  try dsimp only
  repeat' (first
    | with_reducible exact grows_refl _
    | (with_reducible show grows _ (mStrand _ _ _); with_reducible refine grows_trans ?_ (mStrand_grows _ _ _))
    | (with_reducible show grows _ (enterStrand _ _ _); with_reducible refine grows_trans ?_ (enterStrand_grows _ _ _))
    | (with_reducible show grows _ (strandAhead _ _); with_reducible refine grows_trans ?_ (strandAhead_grows _ _))
    | with_reducible refine grows_ite ?_ ?_
    | with_reducible refine grows_doIf (fun _ => ?_) ?_
    | with_reducible refine grows_each (fun _ _ => ?_) ?_
    | dsimp only [id]
    | split
    | exact grows_eq (by with_reducible rfl))

theorem speedAdvise_grows (s : State) : grows s (speedAdvise s) := by
  unfold speedAdvise
  try dsimp only
  repeat' (first
    | with_reducible exact grows_refl _
    | (with_reducible show grows _ (mStr _ _); with_reducible refine grows_trans ?_ (mStr_grows _ _))
    | with_reducible refine grows_ite ?_ ?_
    | with_reducible refine grows_doIf (fun _ => ?_) ?_
    | with_reducible refine grows_each (fun _ _ => ?_) ?_
    | dsimp only [id]
    | split
    | exact grows_eq (by with_reducible rfl))

theorem advicePins_grows (s : State) : grows s (advicePins s) := by
  unfold advicePins
  try dsimp only
  repeat' (first
    | with_reducible exact grows_refl _
    | (with_reducible show grows _ (emit _ _); with_reducible refine grows_trans ?_ (grows_emit _ _))
    | (with_reducible show grows _ (mPar _ _); with_reducible refine grows_trans ?_ (mPar_grows _ _))
    | with_reducible refine grows_ite ?_ ?_
    | with_reducible refine grows_doIf (fun _ => ?_) ?_
    | with_reducible refine grows_each (fun _ _ => ?_) ?_
    | dsimp only [id]
    | split
    | exact grows_eq (by with_reducible rfl))

theorem updateMargins_grows (s : State) : grows s (updateMargins s) := by
  unfold updateMargins
  try dsimp only
  repeat' (first
    | with_reducible exact grows_refl _
    | (with_reducible show grows _ (mStr _ _); with_reducible refine grows_trans ?_ (mStr_grows _ _))
    | (with_reducible show grows _ (mStrand _ _ _); with_reducible refine grows_trans ?_ (mStrand_grows _ _ _))
    | (with_reducible show grows _ (speedAdvise _); with_reducible refine grows_trans ?_ (speedAdvise_grows _))
    | (with_reducible show grows _ (advicePins _); with_reducible refine grows_trans ?_ (advicePins_grows _))
    | with_reducible refine grows_ite ?_ ?_
    | with_reducible refine grows_doIf (fun _ => ?_) ?_
    | with_reducible refine grows_each (fun _ _ => ?_) ?_
    | dsimp only [id]
    | split
    | exact grows_eq (by with_reducible rfl))

theorem journal_grows (ty noz old new cause : Nat) (lc : Option Nat) (s : State) : grows s (journal ty noz old new cause lc s) := by
  unfold journal
  try dsimp only
  repeat' (first
    | with_reducible exact grows_refl _
    | (with_reducible show grows _ (mNzl _ _); with_reducible refine grows_trans ?_ (mNzl_grows _ _))
    | with_reducible refine grows_ite ?_ ?_
    | with_reducible refine grows_doIf (fun _ => ?_) ?_
    | with_reducible refine grows_each (fun _ _ => ?_) ?_
    | dsimp only [id]
    | split
    | exact grows_eq (by with_reducible rfl))

theorem gateQueue_grows (n : Nat) (s : State) : grows s (gateQueue n s) := by
  unfold gateQueue
  try dsimp only
  repeat' (first
    | with_reducible exact grows_refl _
    | (with_reducible show grows _ (mGat _ _ _); with_reducible refine grows_trans ?_ (mGat_grows _ _ _))
    | (with_reducible show grows _ (notice _ _ _); with_reducible refine grows_trans ?_ (notice_grows _ _ _))
    | with_reducible refine grows_ite ?_ ?_
    | with_reducible refine grows_doIf (fun _ => ?_) ?_
    | with_reducible refine grows_each (fun _ _ => ?_) ?_
    | dsimp only [id]
    | split
    | exact grows_eq (by with_reducible rfl))

theorem offerLost_grows (src layer : Nat) (line : Int) (reason : Nat) (s : State) : grows s (offerLost src layer line reason s) := by
  unfold offerLost
  try dsimp only
  repeat' (first
    | with_reducible exact grows_refl _
    | (with_reducible show grows _ (mNzl _ _); with_reducible refine grows_trans ?_ (mNzl_grows _ _))
    | (with_reducible show grows _ (faultErr _ _ _); with_reducible refine grows_trans ?_ (faultErr_grows _ _ _))
    | (with_reducible show grows _ (mLayer _ _ _); with_reducible refine grows_trans ?_ (mLayer_grows _ _ _))
    | with_reducible refine grows_ite ?_ ?_
    | with_reducible refine grows_doIf (fun _ => ?_) ?_
    | with_reducible refine grows_each (fun _ _ => ?_) ?_
    | dsimp only [id]
    | split
    | exact grows_eq (by with_reducible rfl))

theorem evalOne_grows (log : Bool) (n : Nat) (s : State) : grows s (evalOne log n s) := by
  unfold evalOne
  try dsimp only
  repeat' (first
    | with_reducible exact grows_refl _
    | (with_reducible show grows _ (mNzl _ _); with_reducible refine grows_trans ?_ (mNzl_grows _ _))
    | (with_reducible show grows _ (notice _ _ _); with_reducible refine grows_trans ?_ (notice_grows _ _ _))
    | with_reducible refine grows_ite ?_ ?_
    | with_reducible refine grows_doIf (fun _ => ?_) ?_
    | with_reducible refine grows_each (fun _ _ => ?_) ?_
    | dsimp only [id]
    | split
    | exact grows_eq (by with_reducible rfl))

theorem laneNew_grows (src tgt diff : Nat) (s : State) : grows s (laneNew src tgt diff s) := by
  unfold laneNew
  try dsimp only
  repeat' (first
    | with_reducible exact grows_refl _
    | (with_reducible show grows _ (mNzl _ _); with_reducible refine grows_trans ?_ (mNzl_grows _ _))
    | (with_reducible show grows _ (offerLost _ _ _ _ _); with_reducible refine grows_trans ?_ (offerLost_grows _ _ _ _ _))
    | with_reducible refine grows_ite ?_ ?_
    | with_reducible refine grows_doIf (fun _ => ?_) ?_
    | with_reducible refine grows_each (fun _ _ => ?_) ?_
    | dsimp only [id]
    | split
    | exact grows_eq (by with_reducible rfl))

theorem settleLanes_grows (p : Nat → Bool) (s : State) : grows s (settleLanes p s) := by
  unfold settleLanes
  try dsimp only
  repeat' (first
    | with_reducible exact grows_refl _
    | (with_reducible show grows _ (offerLost _ _ _ _ _); with_reducible refine grows_trans ?_ (offerLost_grows _ _ _ _ _))
    | (with_reducible show grows _ (mNzl _ _); with_reducible refine grows_trans ?_ (mNzl_grows _ _))
    | (with_reducible show grows _ (laneNew _ _ _ _); with_reducible refine grows_trans ?_ (laneNew_grows _ _ _ _))
    | (with_reducible show grows _ (faultErr _ _ _); with_reducible refine grows_trans ?_ (faultErr_grows _ _ _))
    | with_reducible refine grows_ite ?_ ?_
    | with_reducible refine grows_doIf (fun _ => ?_) ?_
    | with_reducible refine grows_each (fun _ _ => ?_) ?_
    | dsimp only [id]
    | split
    | exact grows_eq (by with_reducible rfl))

theorem evalAfterSwap_grows (n : Nat) (was : Bool) (s : State) : grows s (evalAfterSwap n was s) := by
  unfold evalAfterSwap
  try dsimp only
  repeat' (first
    | with_reducible exact grows_refl _
    | (with_reducible show grows _ (evalOne _ _ _); with_reducible refine grows_trans ?_ (evalOne_grows _ _ _))
    | (with_reducible show grows _ (settleLanes _ _); with_reducible refine grows_trans ?_ (settleLanes_grows _ _))
    | with_reducible refine grows_ite ?_ ?_
    | with_reducible refine grows_doIf (fun _ => ?_) ?_
    | with_reducible refine grows_each (fun _ _ => ?_) ?_
    | dsimp only [id]
    | split
    | exact grows_eq (by with_reducible rfl))

theorem keepOldEntry_grows (n e : Nat) (s : State) : grows s (keepOldEntry n e s) := by
  unfold keepOldEntry
  try dsimp only
  repeat' (first
    | with_reducible exact grows_refl _
    | (with_reducible show grows _ (mPort _ _ _); with_reducible refine grows_trans ?_ (mPort_grows _ _ _))
    | with_reducible refine grows_ite ?_ ?_
    | with_reducible refine grows_doIf (fun _ => ?_) ?_
    | with_reducible refine grows_each (fun _ _ => ?_) ?_
    | dsimp only [id]
    | split
    | exact grows_eq (by with_reducible rfl))

theorem nozSwap_grows (n new cause : Nat) (lc : Option Nat) (s : State) : grows s (nozSwap n new cause lc s) := by
  unfold nozSwap
  try dsimp only
  repeat' (first
    | with_reducible exact grows_refl _
    | (with_reducible show grows _ (notice _ _ _); with_reducible refine grows_trans ?_ (notice_grows _ _ _))
    | (with_reducible show grows _ (bankPut _ _ _ _); with_reducible refine grows_trans ?_ (bankPut_grows _ _ _ _))
    | (with_reducible show grows _ (journal _ _ _ _ _ _ _); with_reducible refine grows_trans ?_ (journal_grows _ _ _ _ _ _ _))
    | (with_reducible show grows _ (gateQueue _ _); with_reducible refine grows_trans ?_ (gateQueue_grows _ _))
    | (with_reducible show grows _ (evalAfterSwap _ _ _); with_reducible refine grows_trans ?_ (evalAfterSwap_grows _ _ _))
    | (with_reducible show grows _ (keepOldEntry _ _ _); with_reducible refine grows_trans ?_ (keepOldEntry_grows _ _ _))
    | with_reducible refine grows_ite ?_ ?_
    | with_reducible refine grows_doIf (fun _ => ?_) ?_
    | with_reducible refine grows_each (fun _ _ => ?_) ?_
    | dsimp only [id]
    | split
    | exact grows_eq (by with_reducible rfl))

theorem gateAgain_grows (conf : Word) (r n old new : Nat) (s : State) : grows s (gateAgain conf r n old new s) := by
  unfold gateAgain
  try dsimp only
  repeat' (first
    | with_reducible exact grows_refl _
    | (with_reducible show grows _ (notice _ _ _); with_reducible refine grows_trans ?_ (notice_grows _ _ _))
    | (with_reducible show grows _ (gateQueue _ _); with_reducible refine grows_trans ?_ (gateQueue_grows _ _))
    | with_reducible refine grows_ite ?_ ?_
    | with_reducible refine grows_doIf (fun _ => ?_) ?_
    | with_reducible refine grows_each (fun _ _ => ?_) ?_
    | dsimp only [id]
    | split
    | exact grows_eq (by with_reducible rfl))

theorem lineRound_grows (inst : Nat) (req : Nat → Bool) (s : State) : grows s (lineRound inst req s) := by
  unfold lineRound
  try dsimp only
  repeat' (first
    | with_reducible exact grows_refl _
    | (with_reducible show grows _ (mArb _ _ _); with_reducible refine grows_trans ?_ (mArb_grows _ _ _))
    | (with_reducible show grows _ (mBank _ _ _); with_reducible refine grows_trans ?_ (mBank_grows _ _ _))
    | with_reducible refine grows_ite ?_ ?_
    | with_reducible refine grows_doIf (fun _ => ?_) ?_
    | with_reducible refine grows_each (fun _ _ => ?_) ?_
    | dsimp only [id]
    | split
    | exact grows_eq (by with_reducible rfl))

theorem bankGrant_grows (b r : Nat) (s : State) : grows s (bankGrant b r s) := by
  unfold bankGrant
  try dsimp only
  repeat' (first
    | with_reducible exact grows_refl _
    | (with_reducible show grows _ (mArb _ _ _); with_reducible refine grows_trans ?_ (mArb_grows _ _ _))
    | (with_reducible show grows _ (lineRound _ _ _); with_reducible refine grows_trans ?_ (lineRound_grows _ _ _))
    | with_reducible refine grows_ite ?_ ?_
    | with_reducible refine grows_doIf (fun _ => ?_) ?_
    | with_reducible refine grows_each (fun _ _ => ?_) ?_
    | dsimp only [id]
    | split
    | exact grows_eq (by with_reducible rfl))

theorem nzApply_grows (c : NzlChange) (lc : Option Nat) (s : State) : grows s (nzApply c lc s) := by
  unfold nzApply
  try dsimp only
  repeat' (first
    | with_reducible exact grows_refl _
    | (with_reducible show grows _ (notice _ _ _); with_reducible refine grows_trans ?_ (notice_grows _ _ _))
    | (with_reducible show grows _ (nozSwap _ _ _ _ _); with_reducible refine grows_trans ?_ (nozSwap_grows _ _ _ _ _))
    | (with_reducible show grows _ (bankGrant _ _ _); with_reducible refine grows_trans ?_ (bankGrant_grows _ _ _))
    | (with_reducible show grows _ (gateAgain _ _ _ _ _ _); with_reducible refine grows_trans ?_ (gateAgain_grows _ _ _ _ _ _))
    | (with_reducible show grows _ (tickFree _); with_reducible refine grows_trans ?_ (tickFree_grows _))
    | with_reducible refine grows_ite ?_ ?_
    | with_reducible refine grows_doIf (fun _ => ?_) ?_
    | with_reducible refine grows_each (fun _ _ => ?_) ?_
    | dsimp only [id]
    | split
    | exact grows_eq (by with_reducible rfl))

theorem nzRefill_grows (s : State) : grows s (nzRefill s) := by
  unfold nzRefill
  try dsimp only
  repeat' (first
    | with_reducible exact grows_refl _
    | (with_reducible show grows _ (mNzl _ _); with_reducible refine grows_trans ?_ (mNzl_grows _ _))
    | with_reducible refine grows_ite ?_ ?_
    | with_reducible refine grows_doIf (fun _ => ?_) ?_
    | with_reducible refine grows_each (fun _ _ => ?_) ?_
    | dsimp only [id]
    | split
    | exact grows_eq (by with_reducible rfl))

theorem nzTake_grows (c : NzlChange) (lc : Option Nat) (s : State) : grows s (nzTake c lc s) := by
  unfold nzTake
  try dsimp only
  repeat' (first
    | with_reducible exact grows_refl _
    | (with_reducible show grows _ (mNzl _ _); with_reducible refine grows_trans ?_ (mNzl_grows _ _))
    | (with_reducible show grows _ (nzApply _ _ _); with_reducible refine grows_trans ?_ (nzApply_grows _ _ _))
    | (with_reducible show grows _ (nzRefill _); with_reducible refine grows_trans ?_ (nzRefill_grows _))
    | with_reducible refine grows_ite ?_ ?_
    | with_reducible refine grows_doIf (fun _ => ?_) ?_
    | with_reducible refine grows_each (fun _ _ => ?_) ?_
    | dsimp only [id]
    | split
    | exact grows_eq (by with_reducible rfl))

theorem nzGridClosed_grows (p : Nat → Bool) (s : State) : grows s (nzGridClosed p s) := by
  unfold nzGridClosed
  try dsimp only
  repeat' (first
    | with_reducible exact grows_refl _
    | (with_reducible show grows _ (mNzl _ _); with_reducible refine grows_trans ?_ (mNzl_grows _ _))
    | (with_reducible show grows _ (nzTake _ _ _); with_reducible refine grows_trans ?_ (nzTake_grows _ _ _))
    | with_reducible refine grows_ite ?_ ?_
    | with_reducible refine grows_doIf (fun _ => ?_) ?_
    | with_reducible refine grows_each (fun _ _ => ?_) ?_
    | dsimp only [id]
    | split
    | exact grows_eq (by with_reducible rfl))

theorem stopAt_grows (rel : Int) (s : State) : grows s (stopAt rel s) := by
  unfold stopAt
  try dsimp only
  repeat' (first
    | with_reducible exact grows_refl _
    | (with_reducible show grows _ (mFir _ _); with_reducible refine grows_trans ?_ (mFir_grows _ _))
    | with_reducible refine grows_ite ?_ ?_
    | with_reducible refine grows_doIf (fun _ => ?_) ?_
    | with_reducible refine grows_each (fun _ _ => ?_) ?_
    | dsimp only [id]
    | split
    | exact grows_eq (by with_reducible rfl))

theorem setOvs_grows (on : Bool) (s : State) : grows s (setOvs on s) := by
  unfold setOvs
  try dsimp only
  repeat' (first
    | with_reducible exact grows_refl _
    | (with_reducible show grows _ (mFir _ _); with_reducible refine grows_trans ?_ (mFir_grows _ _))
    | (with_reducible show grows _ (advicePins _); with_reducible refine grows_trans ?_ (advicePins_grows _))
    | with_reducible refine grows_ite ?_ ?_
    | with_reducible refine grows_doIf (fun _ => ?_) ?_
    | with_reducible refine grows_each (fun _ _ => ?_) ?_
    | dsimp only [id]
    | split
    | exact grows_eq (by with_reducible rfl))

theorem closeGrid_grows (s : State) : grows s (closeGrid s) := by
  unfold closeGrid
  try dsimp only
  repeat' (first
    | with_reducible exact grows_refl _
    | (with_reducible show grows _ (mFir _ _); with_reducible refine grows_trans ?_ (mFir_grows _ _))
    | (with_reducible show grows _ (mNzl _ _); with_reducible refine grows_trans ?_ (mNzl_grows _ _))
    | (with_reducible show grows _ (nzGridClosed _ _); with_reducible refine grows_trans ?_ (nzGridClosed_grows _ _))
    | (with_reducible show grows _ (setOvs _ _); with_reducible refine grows_trans ?_ (setOvs_grows _ _))
    | with_reducible refine grows_ite ?_ ?_
    | with_reducible refine grows_doIf (fun _ => ?_) ?_
    | with_reducible refine grows_each (fun _ _ => ?_) ?_
    | dsimp only [id]
    | split
    | exact grows_eq (by with_reducible rfl))

theorem sendAck_grows (np : Option Via) (ss : Session) (id : Nat) (s : State) : grows s (sendAck np ss id s) := by
  unfold sendAck
  try dsimp only
  repeat' (first
    | with_reducible exact grows_refl _
    | (with_reducible show grows _ (mLayer _ _ _); with_reducible refine grows_trans ?_ (mLayer_grows _ _ _))
    | (with_reducible show grows _ (sendTow _ _ _ _); with_reducible refine grows_trans ?_ (sendTow_grows _ _ _ _))
    | with_reducible refine grows_ite ?_ ?_
    | with_reducible refine grows_doIf (fun _ => ?_) ?_
    | with_reducible refine grows_each (fun _ _ => ?_) ?_
    | dsimp only [id]
    | split
    | exact grows_eq (by with_reducible rfl))

theorem creditWatch_grows (s : State) : grows s (creditWatch s) := by
  unfold creditWatch
  try dsimp only
  repeat' (first
    | with_reducible exact grows_refl _
    | (with_reducible show grows _ (sendAck _ _ _ _); with_reducible refine grows_trans ?_ (sendAck_grows _ _ _ _))
    | with_reducible refine grows_ite ?_ ?_
    | with_reducible refine grows_doIf (fun _ => ?_) ?_
    | with_reducible refine grows_each (fun _ _ => ?_) ?_
    | dsimp only [id]
    | split
    | exact grows_eq (by with_reducible rfl))

theorem layerFinished_grows (id : Nat) (s : State) : grows s (layerFinished id s) := by
  unfold layerFinished
  try dsimp only
  repeat' (first
    | with_reducible exact grows_refl _
    | (with_reducible show grows _ (mFir _ _); with_reducible refine grows_trans ?_ (mFir_grows _ _))
    | (with_reducible show grows _ (setLayerSt _ _ _ _); with_reducible refine grows_trans ?_ (setLayerSt_grows _ _ _ _))
    | (with_reducible show grows _ (mLayer _ _ _); with_reducible refine grows_trans ?_ (mLayer_grows _ _ _))
    | (with_reducible show grows _ (creditWatch _); with_reducible refine grows_trans ?_ (creditWatch_grows _))
    | (with_reducible show grows _ (releaseLayer _ _ _); with_reducible refine grows_trans ?_ (releaseLayer_grows _ _ _))
    | with_reducible refine grows_ite ?_ ?_
    | with_reducible refine grows_doIf (fun _ => ?_) ?_
    | with_reducible refine grows_each (fun _ _ => ?_) ?_
    | dsimp only [id]
    | split
    | exact grows_eq (by with_reducible rfl))

theorem finishLayers_grows (s : State) : grows s (finishLayers s) := by
  unfold finishLayers
  try dsimp only
  repeat' (first
    | with_reducible exact grows_refl _
    | (with_reducible show grows _ (mLayer _ _ _); with_reducible refine grows_trans ?_ (mLayer_grows _ _ _))
    | (with_reducible show grows _ (checkReady _); with_reducible refine grows_trans ?_ (checkReady_grows _))
    | (with_reducible show grows _ (strandSync _); with_reducible refine grows_trans ?_ (strandSync_grows _))
    | (with_reducible show grows _ (updateMargins _); with_reducible refine grows_trans ?_ (updateMargins_grows _))
    | (with_reducible show grows _ (closeGrid _); with_reducible refine grows_trans ?_ (closeGrid_grows _))
    | (with_reducible show grows _ (layerFinished _ _); with_reducible refine grows_trans ?_ (layerFinished_grows _ _))
    | with_reducible refine grows_ite ?_ ?_
    | with_reducible refine grows_doIf (fun _ => ?_) ?_
    | with_reducible refine grows_each (fun _ _ => ?_) ?_
    | dsimp only [id]
    | split
    | exact grows_eq (by with_reducible rfl))

theorem stopEnds_grows (s : State) : grows s (stopEnds s) := by
  unfold stopEnds
  try dsimp only
  repeat' (first
    | with_reducible exact grows_refl _
    | (with_reducible show grows _ (mTow _ _); with_reducible refine grows_trans ?_ (mTow_grows _ _))
    | (with_reducible show grows _ (mFir _ _); with_reducible refine grows_trans ?_ (mFir_grows _ _))
    | (with_reducible show grows _ (closeGrid _); with_reducible refine grows_trans ?_ (closeGrid_grows _))
    | with_reducible refine grows_ite ?_ ?_
    | with_reducible refine grows_doIf (fun _ => ?_) ?_
    | with_reducible refine grows_each (fun _ _ => ?_) ?_
    | dsimp only [id]
    | split
    | exact grows_eq (by with_reducible rfl))

theorem nzResume_grows (s : State) : grows s (nzResume s) := by
  unfold nzResume
  try dsimp only
  repeat' (first
    | with_reducible exact grows_refl _
    | (with_reducible show grows _ (mNzl _ _); with_reducible refine grows_trans ?_ (mNzl_grows _ _))
    | with_reducible refine grows_ite ?_ ?_
    | with_reducible refine grows_doIf (fun _ => ?_) ?_
    | with_reducible refine grows_each (fun _ _ => ?_) ?_
    | dsimp only [id]
    | split
    | exact grows_eq (by with_reducible rfl))

theorem opResume_grows (s : State) : grows s (opResume s) := by
  unfold opResume
  try dsimp only
  repeat' (first
    | with_reducible exact grows_refl _
    | (with_reducible show grows _ (checkReady _); with_reducible refine grows_trans ?_ (checkReady_grows _))
    | (with_reducible show grows _ (setDev _ _); with_reducible refine grows_trans ?_ (setDev_grows _ _))
    | (with_reducible show grows _ (nzResume _); with_reducible refine grows_trans ?_ (nzResume_grows _))
    | with_reducible refine grows_ite ?_ ?_
    | with_reducible refine grows_doIf (fun _ => ?_) ?_
    | with_reducible refine grows_each (fun _ _ => ?_) ?_
    | dsimp only [id]
    | split
    | exact grows_eq (by with_reducible rfl))

theorem opAck_grows (s : State) : grows s (opAck s) := by
  unfold opAck
  try dsimp only
  repeat' (first
    | with_reducible exact grows_refl _
    | (with_reducible show grows _ (mErr _ _); with_reducible refine grows_trans ?_ (mErr_grows _ _))
    | (with_reducible show grows _ (setDev _ _); with_reducible refine grows_trans ?_ (setDev_grows _ _))
    | (with_reducible show grows _ (strandSync _); with_reducible refine grows_trans ?_ (strandSync_grows _))
    | (with_reducible show grows _ (stopEnds _); with_reducible refine grows_trans ?_ (stopEnds_grows _))
    | with_reducible refine grows_ite ?_ ?_
    | with_reducible refine grows_doIf (fun _ => ?_) ?_
    | with_reducible refine grows_each (fun _ _ => ?_) ?_
    | dsimp only [id]
    | split
    | exact grows_eq (by with_reducible rfl))

theorem ctlApply_grows (c : Nat) (s : State) : grows s (ctlApply c s) := by
  unfold ctlApply
  try dsimp only
  repeat' (first
    | with_reducible exact grows_refl _
    | (with_reducible show grows _ (setDev _ _); with_reducible refine grows_trans ?_ (setDev_grows _ _))
    | (with_reducible show grows _ (opResume _); with_reducible refine grows_trans ?_ (opResume_grows _))
    | (with_reducible show grows _ (opAck _); with_reducible refine grows_trans ?_ (opAck_grows _))
    | with_reducible refine grows_ite ?_ ?_
    | with_reducible refine grows_doIf (fun _ => ?_) ?_
    | with_reducible refine grows_each (fun _ _ => ?_) ?_
    | dsimp only [id]
    | split
    | exact grows_eq (by with_reducible rfl))

theorem ctlLeft_grows (s : State) : grows s (ctlLeft s) := by
  unfold ctlLeft
  try dsimp only
  repeat' (first
    | with_reducible exact grows_refl _
    | (with_reducible show grows _ (mPar _ _); with_reducible refine grows_trans ?_ (mPar_grows _ _))
    | (with_reducible show grows _ (ctlApply _ _); with_reducible refine grows_trans ?_ (ctlApply_grows _ _))
    | with_reducible refine grows_ite ?_ ?_
    | with_reducible refine grows_doIf (fun _ => ?_) ?_
    | with_reducible refine grows_each (fun _ _ => ?_) ?_
    | dsimp only [id]
    | split
    | exact grows_eq (by with_reducible rfl))

theorem pruneTrigs_grows (p : Nat) (s : State) : grows s (pruneTrigs p s) := by
  unfold pruneTrigs
  try dsimp only
  repeat' (first
    | with_reducible exact grows_refl _
    | (with_reducible show grows _ (mPort _ _ _); with_reducible refine grows_trans ?_ (mPort_grows _ _ _))
    | with_reducible refine grows_ite ?_ ?_
    | with_reducible refine grows_doIf (fun _ => ?_) ?_
    | with_reducible refine grows_each (fun _ _ => ?_) ?_
    | dsimp only [id]
    | split
    | exact grows_eq (by with_reducible rfl))

theorem lagPolicy_grows (p : Nat) (x : Trig) (s : State) : grows s (lagPolicy p x s) := by
  unfold lagPolicy
  try dsimp only
  repeat' (first
    | with_reducible exact grows_refl _
    | (with_reducible show grows _ (mFir _ _); with_reducible refine grows_trans ?_ (mFir_grows _ _))
    | (with_reducible show grows _ (mPort _ _ _); with_reducible refine grows_trans ?_ (mPort_grows _ _ _))
    | (with_reducible show grows _ (raise _ _ _ _); with_reducible refine grows_trans ?_ (raise_grows _ _ _ _))
    | (with_reducible show grows _ (stopAt _ _); with_reducible refine grows_trans ?_ (stopAt_grows _ _))
    | with_reducible refine grows_ite ?_ ?_
    | with_reducible refine grows_doIf (fun _ => ?_) ?_
    | with_reducible refine grows_each (fun _ _ => ?_) ?_
    | dsimp only [id]
    | split
    | exact grows_eq (by with_reducible rfl))

theorem mFeg_grows (g : Nat) (f : Feg → Feg) (s : State) : grows s (mFeg g f s) := by
  unfold mFeg
  try dsimp only
  repeat' (first
    | with_reducible exact grows_refl _
    | (with_reducible show grows _ (mCal _ _); with_reducible refine grows_trans ?_ (mCal_grows _ _))
    | with_reducible refine grows_ite ?_ ?_
    | with_reducible refine grows_doIf (fun _ => ?_) ?_
    | with_reducible refine grows_each (fun _ _ => ?_) ?_
    | dsimp only [id]
    | split
    | exact grows_eq (by with_reducible rfl))

theorem mGroup_grows (g : Nat) (f : FegGroup → FegGroup) (s : State) : grows s (mGroup g f s) := by
  unfold mGroup
  try dsimp only
  repeat' (first
    | with_reducible exact grows_refl _
    | (with_reducible show grows _ (mCal _ _); with_reducible refine grows_trans ?_ (mCal_grows _ _))
    | with_reducible refine grows_ite ?_ ?_
    | with_reducible refine grows_doIf (fun _ => ?_) ?_
    | with_reducible refine grows_each (fun _ _ => ?_) ?_
    | dsimp only [id]
    | split
    | exact grows_eq (by with_reducible rfl))

theorem fegWalk_grows (sp : Nat) (d : Int) (s : State) : grows s (fegWalk sp d s) := by
  unfold fegWalk
  try dsimp only
  repeat' (first
    | with_reducible exact grows_refl _
    | (with_reducible show grows _ (mFeg _ _ _); with_reducible refine grows_trans ?_ (mFeg_grows _ _ _))
    | with_reducible refine grows_ite ?_ ?_
    | with_reducible refine grows_doIf (fun _ => ?_) ?_
    | with_reducible refine grows_each (fun _ _ => ?_) ?_
    | dsimp only [id]
    | split
    | exact grows_eq (by with_reducible rfl))

theorem fegCompare_grows (g : Nat) (d : Int) (s : State) : grows s (fegCompare g d s) := by
  unfold fegCompare
  try dsimp only
  repeat' (first
    | with_reducible exact grows_refl _
    | (with_reducible show grows _ (mCal _ _); with_reducible refine grows_trans ?_ (mCal_grows _ _))
    | (with_reducible show grows _ (mFeg _ _ _); with_reducible refine grows_trans ?_ (mFeg_grows _ _ _))
    | (with_reducible show grows _ (mGroup _ _ _); with_reducible refine grows_trans ?_ (mGroup_grows _ _ _))
    | (with_reducible show grows _ (fegWalk _ _ _); with_reducible refine grows_trans ?_ (fegWalk_grows _ _ _))
    | with_reducible refine grows_ite ?_ ?_
    | with_reducible refine grows_doIf (fun _ => ?_) ?_
    | with_reducible refine grows_each (fun _ _ => ?_) ?_
    | dsimp only [id]
    | split
    | exact grows_eq (by with_reducible rfl))

theorem fegStrike_grows (p : Nat) (d : Int) (s : State) : grows s (fegStrike p d s) := by
  unfold fegStrike
  try dsimp only
  repeat' (first
    | with_reducible exact grows_refl _
    | (with_reducible show grows _ (mFeg _ _ _); with_reducible refine grows_trans ?_ (mFeg_grows _ _ _))
    | (with_reducible show grows _ (fegCompare _ _ _); with_reducible refine grows_trans ?_ (fegCompare_grows _ _ _))
    | with_reducible refine grows_ite ?_ ?_
    | with_reducible refine grows_doIf (fun _ => ?_) ?_
    | with_reducible refine grows_each (fun _ _ => ?_) ?_
    | dsimp only [id]
    | split
    | exact grows_eq (by with_reducible rfl))

theorem dlcUpdate_grows (s : State) : grows s (dlcUpdate s) := by
  unfold dlcUpdate
  try dsimp only
  repeat' (first
    | with_reducible exact grows_refl _
    | (with_reducible show grows _ (mPar _ _); with_reducible refine grows_trans ?_ (mPar_grows _ _))
    | with_reducible refine grows_ite ?_ ?_
    | with_reducible refine grows_doIf (fun _ => ?_) ?_
    | with_reducible refine grows_each (fun _ _ => ?_) ?_
    | dsimp only [id]
    | split
    | exact grows_eq (by with_reducible rfl))

theorem lagJudge_grows (p k lag : Nat) (s : State) : grows s (lagJudge p k lag s) := by
  unfold lagJudge
  try dsimp only
  repeat' (first
    | with_reducible exact grows_refl _
    | (with_reducible show grows _ (lagPolicy _ _ _); with_reducible refine grows_trans ?_ (lagPolicy_grows _ _ _))
    | with_reducible refine grows_ite ?_ ?_
    | with_reducible refine grows_doIf (fun _ => ?_) ?_
    | with_reducible refine grows_each (fun _ _ => ?_) ?_
    | dsimp only [id]
    | split
    | exact grows_eq (by with_reducible rfl))


end Sys2Proof.Machine
end

