-- ==== Sys2Proof/Laws/Layers.lean ====
section
/-! SUPPORT. The layers, their fragments and the print queue (R71 to R107): what the answers, the checks and the bookkeeping of ingress leave of
them, said once for any part `g` of a layer that they do not touch. -/

namespace Sys2Proof.Machine

/-- What of ingress `s` and `t` agree on: the part `g` of every layer, the received count, the queue, and each waiting fragment's place and data. -/
def towKept {α : Type} (g : Layer → α) (s t : State) : Prop :=
  (∀ id, (layerOf t id).map g = (layerOf s id).map g) ∧ t.tow.cntRx = s.tow.cntRx ∧ t.tow.queue = s.tow.queue ∧
  t.tow.unwritten.map (fun u => (u.layer, u.sidx, u.b, u.lsa, u.data)) = s.tow.unwritten.map (fun u => (u.layer, u.sidx, u.b, u.lsa, u.data))

variable {α : Type} {g : Layer → α}

theorem towKept_refl (s : State) : towKept g s s := ⟨fun _ => rfl, rfl, rfl, rfl⟩
theorem towKept_trans {s t u : State} (h : towKept g s t) (k : towKept g t u) : towKept g s u :=
  ⟨fun id => (k.1 id).trans (h.1 id), k.2.1.trans h.2.1, k.2.2.1.trans h.2.2.1, k.2.2.2.trans h.2.2.2⟩
theorem towKept_tow {s t : State} (h : t.tow = s.tow) : towKept g s t := by
  refine ⟨fun id => ?_, ?_, ?_, ?_⟩
  · unfold layerOf; rw [h]
  all_goals rw [h]
theorem towKept_of_keeps {s t : State} {ps : List Part} (h : keepsBut ps s t) (hp : .tow ∉ ps) : towKept g s t := towKept_tow (h .tow hp)
theorem towKept_ite {s t u : State} {c : Prop} [Decidable c] (h : towKept g s t) (k : towKept g s u) : towKept g s (if c then t else u) := by split <;> assumption
theorem towKept_each {β : Type} {s t : State} {f : β → State → State} {l : List β} (h : ∀ a u, towKept g u (f a u)) (k : towKept g s t) : towKept g s (each f l t) :=
  each_inv (fun u => towKept g s u) f (fun a u hu => towKept_trans hu (h a u)) l t k

/-- A layer after an update that keeps its id. -/
theorem layerOf_mLayer {id : Nat} (f : Layer → Layer) (hf : ∀ l, (f l).id = l.id) (s : State) : layerOf (mLayer id f s) id = (layerOf s id).map f := by
  show (modFirst _ f s.tow.layers).find? _ = _
  exact find_modFirst (fun l : Layer => l.id == id) f (fun x hx => by rw [hf]; exact hx) _

theorem layerOf_mLayer_other {id k : Nat} (h : k ≠ id) (f : Layer → Layer) (hf : ∀ l, (f l).id = l.id) (s : State) : layerOf (mLayer id f s) k = layerOf s k := by
  show (modFirst _ f s.tow.layers).find? _ = _
  refine find_modFirst_other (fun l : Layer => l.id == id) (fun l : Layer => l.id == k) f (fun x hx => ?_) _
  rw [beq_iff_eq] at hx
  simp only [hf, beq_eq_false_iff_ne, ne_eq]
  omega

theorem layerOf_id {s : State} {id : Nat} {l : Layer} (h : layerOf s id = some l) : l.id = id := by
  have := List.find?_some h
  simpa using this

theorem mLayer_towKept (id : Nat) (f : Layer → Layer) (hf : ∀ l, (f l).id = l.id) (hg : ∀ l, g (f l) = g l) (s : State) : towKept g s (mLayer id f s) := by
  refine ⟨fun k => ?_, rfl, rfl, rfl⟩
  by_cases h : k = id
  · subst h
    rw [layerOf_mLayer f hf]
    cases layerOf s k with
    | none => rfl
    | some l => exact congrArg some (hg l)
  · rw [layerOf_mLayer_other h f hf]

/-- The part `g` does not read what an ACK writes. -/
def ackFree (g : Layer → α) : Prop := ∀ (l : Layer) u a c k, g { l with unacked := u, ackArmed := a, lastCredit := c, ackCum := k } = g l

/-- The part `g` does not read a layer's state and cause. -/
def stFree (g : Layer → α) : Prop := ∀ (l : Layer) n c, g { l with st := n, cause := c } = g l

theorem sendTow_tow (np : Option Via) (ss : Session) (d : Bytes) (s : State) : (sendTow np ss d s).tow = s.tow := sendTow_keeps np ss d s .tow (by decide)

theorem sendAck_towKept (hg : ackFree g) (np : Option Via) (ss : Session) (id : Nat) (s : State) : towKept g s (sendAck np ss id s) := by
  unfold sendAck
  split
  · exact towKept_refl s
  · exact towKept_trans (towKept_tow (sendTow_tow _ _ _ _)) (mLayer_towKept id _ (fun l => by dsimp only; split <;> rfl)
      (fun l => by dsimp only; split; exact hg l _ _ _ _; rfl) _)

theorem sendNak_towKept (np : Option Via) (ss : Session) (layer : Nat) (a : NakArgs) (s : State) : towKept g s (sendNak np ss layer a s) := by
  unfold sendNak
  dsimp only
  obtain ⟨w, hw⟩ : ∃ w, sendTow np ss (towMsg 0x82 layer (beBytes 1 a.reason ++ beBytes 1 (roleCode s) ++ beBytes 2 a.stripe ++ beBytes 2 a.block
    ++ beBytes 2 0 ++ beBytes 4 a.fseq ++ beBytes 4 a.detail)) s = w := ⟨_, rfl⟩
  rw [hw]
  have k1 : towKept g s w := hw ▸ towKept_tow (sendTow_tow _ _ _ _)
  have k2 : towKept g w (mTow (fun t => { t with cntNak := t.cntNak + 1 }) w) := ⟨fun _ => rfl, rfl, rfl, rfl⟩
  exact towKept_trans (towKept_trans k1 k2) (towKept_of_keeps (raiseLim_keeps _ _ _ _ _ _) (by decide))

theorem creditWatch_towKept (hg : ackFree g) (s : State) : towKept g s (creditWatch s) := by
  unfold creditWatch
  refine towKept_each (fun l u => ?_) (towKept_refl s)
  split
  · exact sendAck_towKept hg _ _ _ _
  · exact towKept_refl u

theorem setLayerSt_towKept (hg : stFree g) (id : Nat) (n : LState) (cause : Nat) (s : State) : towKept g s (setLayerSt id n cause s) := by
  unfold setLayerSt
  split
  · exact towKept_refl s
  · split
    · exact towKept_refl s
    · rename_i l _ _
      dsimp only
      obtain ⟨w, hw⟩ : ∃ w, subRecord 3 (beBytes 4 id ++ beBytes 1 (lsCode l.st) ++ beBytes 1 (lsCode n) ++ beBytes 1 cause ++ beBytes 1 0) (mLayer id (fun l => { l with st := n, cause := cause }) s) = w := ⟨_, rfl⟩
      rw [hw]
      have kw : towKept g s w := towKept_trans (mLayer_towKept id (fun l => { l with st := n, cause := cause }) (fun _ => rfl) (fun l => hg l n cause) s)
        (hw ▸ towKept_of_keeps (subRecord_keeps _ _ _) (by decide))
      cases n with
      | none => exact kw
      | announced => exact kw
      | loading => exact kw
      | ready => exact towKept_trans kw (towKept_tow (sendTow_tow _ _ _ _))
      | printing => exact towKept_trans kw (towKept_tow (sendTow_tow _ _ _ _))
      | done => exact towKept_trans kw (towKept_tow (sendTow_tow _ _ _ _))
      | released => exact towKept_trans kw (towKept_tow (sendTow_tow _ _ _ _))

/-- The state and cause of a layer after it changes state. -/
theorem setLayerSt_st {id : Nat} {n : LState} {cause : Nat} {s : State} {l : Layer} (h : layerOf s id = some l) (hn : l.st ≠ n) :
    layerOf (setLayerSt id n cause s) id = some { l with st := n, cause := cause } := by
  unfold setLayerSt
  rw [h]
  dsimp only
  rw [if_neg hn]
  obtain ⟨w, hw⟩ : ∃ w, subRecord 3 (beBytes 4 id ++ beBytes 1 (lsCode l.st) ++ beBytes 1 (lsCode n) ++ beBytes 1 cause ++ beBytes 1 0) (mLayer id (fun l => { l with st := n, cause := cause }) s) = w := ⟨_, rfl⟩
  rw [hw]
  have wt : w.tow = (mLayer id (fun l => { l with st := n, cause := cause }) s).tow := hw ▸ subRecord_keeps _ _ _ .tow (by decide)
  have lw : layerOf w id = some { l with st := n, cause := cause } := by
    unfold layerOf; rw [wt]
    show layerOf (mLayer id (fun l => { l with st := n, cause := cause }) s) id = _
    rw [layerOf_mLayer (fun l => { l with st := n, cause := cause }) (fun _ => rfl), h]; rfl
  have sent : ∀ d, layerOf (sendTow none l.sess d w) id = some { l with st := n, cause := cause } := fun d => by
    unfold layerOf; rw [sendTow_tow]; exact lw
  cases n with
  | none => exact lw
  | announced => exact lw
  | loading => exact lw
  | ready => exact sent _
  | printing => exact sent _
  | done => exact sent _
  | released => exact sent _

theorem layerReady_towKept (hg : stFree g) (id : Nat) (s : State) : towKept g s (layerReady id s) := by
  unfold layerReady
  split
  · split
    · exact towKept_trans (setLayerSt_towKept hg _ _ _ _) (towKept_trans (towKept_of_keeps (strandSync_keeps _) (by decide)) (towKept_of_keeps (updateMargins_keeps _) (by decide)))
    · exact towKept_refl s
  · exact towKept_refl s

/-- A layer's blocks and the fragments' sequence numbers received. -/
def heldPart (l : Layer) : List Block × Nat × List Nat := (l.blocks, l.cum, l.beyond)

theorem held_ackFree : ackFree heldPart := fun _ _ _ _ _ => rfl
theorem held_stFree : stFree heldPart := fun _ _ _ => rfl

theorem closeCheck_towKept (np : Option Via) (id : Nat) (a : Bool) (s : State) : towKept heldPart s (closeCheck np id a s) := by
  have ack : ∀ (v : State) (p : Option Via) (ss : Session), towKept heldPart v (sendAck p ss id v) := fun v p ss => sendAck_towKept held_ackFree p ss id v
  have acki : ∀ (p : Option Via) (ss : Session), towKept heldPart s (if a = true then sendAck p ss id s else s) := fun p ss => by split; exact ack _ _ _; exact towKept_refl s
  unfold closeCheck
  split
  · exact towKept_refl s
  · split
    · exact towKept_refl s
    · split
      · exact acki _ _
      · split
        · exact acki _ _
        · split
          · split
            · dsimp only
              exact towKept_trans (mLayer_towKept id (fun l => { l with incNaked := true }) (fun _ => rfl) (fun _ => rfl) s) (sendNak_towKept _ _ _ _ _)
            · exact towKept_refl s
          · split
            · exact acki _ _
            · exact towKept_trans (towKept_trans (towKept_trans (mLayer_towKept id (fun l => { l with closeDone := true }) (fun _ => rfl) (fun _ => rfl) s) (layerReady_towKept held_stFree _ _)) (ack _ _ _))
                (creditWatch_towKept held_ackFree _)

theorem streamCheck_towKept (id : Nat) (s : State) : towKept heldPart s (streamCheck id s) := by
  unfold streamCheck
  split
  · exact towKept_refl s
  · split
    · exact layerReady_towKept held_stFree _ _
    · exact towKept_refl s

theorem ackDue_towKept (np : Via) (id fseq : Nat) (s : State) : towKept heldPart s (ackDue np id fseq s) := by
  unfold ackDue
  split
  · exact towKept_refl s
  · refine towKept_ite (towKept_refl s) (towKept_ite (sendAck_towKept held_ackFree _ _ _ _) (towKept_ite ?_ ?_))
    · exact towKept_trans (mLayer_towKept id (fun l => { l with gapAckAt := some s.now }) (fun _ => rfl) (fun _ => rfl) s) (sendAck_towKept held_ackFree _ _ _ _)
    · exact mLayer_towKept id (fun l => { l with ackArmed := true }) (fun _ => rfl) (fun _ => rfl) s

/-- The blocks of a layer are updated; nothing else that is held is. -/
theorem layerOf_mBlock (id i b : Nat) (f : Block → Block) (s : State) {l : Layer} (h : layerOf s id = some l) :
    layerOf (mBlock id i b f s) id = some { l with blocks := modFirst (fun k => k.sidx == i && k.b == b) f l.blocks } := by
  unfold mBlock
  rw [layerOf_mLayer (fun l => { l with blocks := modFirst (fun k => k.sidx == i && k.b == b) f l.blocks }) (fun _ => rfl), h]; rfl

/-- A block after an update that keeps its place. -/
theorem blockOf_mod {l : Layer} {i b : Nat} (f : Block → Block) (hf : ∀ k, (f k).sidx = k.sidx ∧ (f k).b = k.b) :
    blockOf { l with blocks := modFirst (fun k => k.sidx == i && k.b == b) f l.blocks } i b = (blockOf l i b).map f := by
  show (modFirst _ f l.blocks).find? _ = _
  exact find_modFirst (fun k : Block => k.sidx == i && k.b == b) f (fun x hx => by rw [(hf x).1, (hf x).2]; exact hx) _

/-- What follows a block's marking keeps what is held. -/
theorem markPresent_held {np : Option Via} {id i b : Nat} {s : State} {l : Layer} (h : layerOf s id = some l) :
    towKept heldPart (mBlock id i b (fun k => { k with st := .present }) s) (markPresent np id i b s) := by
  unfold markPresent
  rw [h]
  dsimp only
  generalize hv : dirPut (dirEntry l i b) (some (id, (nth l.stripes i (0, 0)).1, b, true)) s = v
  have hk : (mBlock id i b (fun k => { k with st := .present }) v).tow = (mBlock id i b (fun k => { k with st := .present }) s).tow := by
    have h0 : v.tow = s.tow := hv ▸ dirPut_keeps _ _ s .tow (by decide)
    show (mTow _ _).tow = (mTow _ _).tow
    unfold mTow; rw [h0]
  exact towKept_trans (towKept_tow hk) (towKept_trans (towKept_of_keeps (notePresent_keeps _ _ _) (by decide))
    (towKept_trans (closeCheck_towKept np id false _) (towKept_trans (streamCheck_towKept id _) (towKept_of_keeps (updateMargins_keeps _) (by decide)))))

end Sys2Proof.Machine
end

