-- ==== Sys2Proof/Tests/Slice0.lean ====
section
/-! SUPPORT. The model's own tests: ill-formed commands refused (smoke_…), concrete states and operands that meet the hypotheses of each
statement (witness_…), and the spec's worked examples (test_…). -/

namespace Sys2Proof.Tests

open Sys2Proof Sys2Proof.Machine

-- The theorems are checked one after another: side by side their kernel evaluations take too many threads.
set_option Elab.async false

/-! The state after reset. -/

theorem test_reset_canon : State.reset.canon = true := by decide

/-! Small states and datagrams. -/

/-- The state after reset with the device in a state, the KEEP island fed and out of reset, and an IPv4 address on network port 0. -/
def onDev (d : DevState) : State :=
  mKeep (fun k => { k with feedA := true, feedB := true }) (mPos (fun p => { p with keepReset := false }) (mSys (fun y => { y with st := d })
    { State.reset with netId := { NetId.init with ports := vmod NetId.init.ports 0 (fun p => { p with ipv4 := 0xC0000210 }) } }))

/-- A chip of a pair in a role, its tether up and its messages exchanged so far numbered. -/
def onPair (role : Nat) (d : DevState) : State :=
  setReg 0x180000 0x80000000 (mPar (fun p => { p with role := role, tethUp := true, joined := true, txSeq := 1 }) (onDev d))

/-- A device whose grid runs from road count 0, port 0 open at trigger `k`. -/
def onGrid (k : Nat) (s : State) : State :=
  mPort 0 (fun f => { f with isOpen := true, kr := k, ks := k }) (mFir (fun f => { f with grid := some ⟨0, 0, []⟩ }) s)

/-- An error of a class is being handled. -/
def faultSix : FaultHeld := ⟨6, 5, [0, 0, 0, 0]⟩

/-- The command answers a next state that passes a check. -/
def ends (i : Instr) (s : State) (p : State → Bool) : Bool := match exec i s with | .next t => p t | _ => false

/-- The name under which a command that stops stops. -/
def named (i : Instr) (s : State) : String := match exec i s with | .fault (.cannotOccur e) => e | .refused (.illFormed e) => e | _ => ""

/-- What most statements ask of a state: no error waits, memories and maps are canonical, a master reaches every block. -/
def fit (s : State) : Bool := s.settled && s.canon && reaches .rmp s && awake s && decide (s.sys.st ≠ .cold) && !s.err.fatalHeld

/-- A session. -/
def peer : Session := ⟨false, 0xC0000201, 4000⟩

/-- A frame of 64 bytes for network port 0, of an EtherType and with a UDP destination port if it carries a datagram, to the device's address. -/
def frameOf (e : Ether) (u : Option (BitVec 16)) : Frame := ⟨64, true, false, 0, 0x020000000001, [], e, 0xC0000210, false, true, u⟩

/-- An IPv4 datagram to a UDP port. -/
def toUdp (u : Nat) : Arrival := ⟨0, frameOf .ipv4 (some (BitVec.ofNat 16 u))⟩

/-- Datagrams to the Towline and the RMP port, to the heartbeats' port, and a PTP frame over layer 2. -/
def rxTow : Arrival := toUdp (towPort State.reset)
def rxRmp : Arrival := toUdp (rmpPort State.reset)
def rxBeat : Arrival := toUdp (hbPort State.reset)
def rxL2 : Arrival := ⟨0, frameOf .ptp none⟩

/-- One bit of the data of the first word is wrong, and two are. -/
def flip1 : List Flip := [⟨0, 1, 0, 0⟩]
def flip2 : List Flip := [⟨0, 3, 0, 0⟩]

/-- The first word that the code finds uncorrectable. -/
def badWord : Ecc → Option Nat
  | .uncorrectable w _ => some w
  | _ => none

/-- `n` bytes whose byte `i` is `v` and whose others are 0. -/
def oneByte (n i : Nat) (v : Byte) : Bytes := (List.replicate n (0 : Byte)).set i v

/-! Checks. -/

/-- The check value of CRC-32C over the digits 1 to 9 (R67 names the polynomial; the value is the one published with it). -/
theorem test_crc32c_check : crc32c [0x31, 0x32, 0x33, 0x34, 0x35, 0x36, 0x37, 0x38, 0x39] = 0xE3069283 := by decide +kernel

/-! Ill-formed commands: for each check of WellFormed, a command just outside it, and one just inside. -/

theorem smoke_image : Instr.wf (.imageHeaderRead (List.replicate 63 0) (List.replicate 64 0)) = false ∧
    Instr.wf (.imageHeaderRead (List.replicate 64 0) (List.replicate 65 0)) = false ∧ Instr.wf (.imagePass2Done 0) = false ∧
    Instr.wf (.dramVerifyDone (List.replicate 7 [])) = false ∧ Instr.wf (.dramVerifyDone (List.replicate 8 (List.replicate 10 []))) = false ∧
    Instr.wf (.paceMeasure (List.replicate 31 1)) = false ∧ Instr.wf (.paceMeasure (List.replicate 32 0)) = false ∧ Instr.wf (.imageHeaderRead (List.replicate 64 0) (List.replicate 64 0)) = true ∧
    Instr.wf (.imagePass2Done 1) = true ∧ Instr.wf (.dramVerifyDone (List.replicate 8 (List.replicate 9 []))) = true ∧
    Instr.wf (.paceMeasure (List.replicate 32 1)) = true := by decide +kernel

theorem smoke_bits : Instr.wf (.indexArm .rmp 0 0xDFFFFFFF) = false ∧ Instr.wf (.milestoneArm .rmp 0 0x7FFFFFFF) = false ∧
    Instr.wf (.milestoneDisarm .rmp 0 0x80000000) = false ∧ Instr.wf (.gulRetrain .rmp 0 1) = false ∧ Instr.wf (.gulPortClr .rmp 0 2) = false ∧
    Instr.wf (.indexArm .rmp 0 0x20000000) = true ∧ Instr.wf (.milestoneArm .rmp 0 0x80000000) = true ∧ Instr.wf (.milestoneDisarm .rmp 0 0) = true ∧
    Instr.wf (.gulRetrain .rmp 0 2) = true ∧ Instr.wf (.gulPortClr .rmp 0 1) = true ∧ Instr.wf (.wpReservedOp 6) = false ∧
    Instr.wf (.wpReservedOp 7) = true := by decide +kernel

theorem smoke_towline : Instr.wf (.towDrop rxTow peer (towMsg 1 0 [])) = false ∧ Instr.wf (.towDrop rxTow peer (List.replicate 15 0)) = true ∧
    Instr.wf (.towDrop rxTow peer (towMsg 0x81 0 [])) = true ∧ Instr.wf (.towDrop rxTow peer (towMsg 0x84 0 [])) = false ∧
    Instr.wf (.towDrop rxL2 peer (List.replicate 15 0)) = false ∧ Instr.wf (.statusReq rxTow { peer with v6 := true } (towMsg 6 0 [])) = false ∧
    Instr.wf (.towlineReservedType rxTow peer (towMsg 6 0 [])) = false ∧ Instr.wf (.towlineReservedType rxTow peer (towMsg 7 0 [])) = true ∧
    Instr.wf (.towlineReservedType rxTow peer (towMsg 0 0 [])) = true ∧
    Instr.wf (.layerAnnounce rxTow peer (towMsg 2 0 [])) = false ∧ Instr.wf (.layerAnnounce rxTow peer (towMsg 1 0 [])) = true ∧
    Instr.wf (.blockData rxTow peer (towMsg 1 0 [])) = false ∧ Instr.wf (.blockData rxTow peer (towMsg 2 0 [])) = true ∧
    Instr.wf (.layerClose rxTow peer (towMsg 4 0 [])) = false ∧ Instr.wf (.layerClose rxTow peer (towMsg 3 0 [])) = true ∧
    Instr.wf (.layerRestart rxTow peer (towMsg 5 0 [])) = false ∧ Instr.wf (.layerRestart rxTow peer (towMsg 4 0 [])) = true ∧
    Instr.wf (.layerRelease rxTow peer (towMsg 4 0 [])) = false ∧ Instr.wf (.layerRelease rxTow peer (towMsg 5 0 [])) = true ∧
    Instr.wf (.statusReq rxTow peer (towMsg 7 0 [])) = false ∧ Instr.wf (.statusReq rxTow peer (towMsg 6 0 [])) = true := by decide +kernel

/-- A frame received without a flaw beside its bytes. -/
def sound : RxFlaws := ⟨0, false, false, false⟩

theorem smoke_gulist : Instr.wf (.gulistAck 0 (gulFrame 5 0 0 (oneByte 12 0 1))) = false ∧ Instr.wf (.gulistAck 0 (gulFrame 6 0 0 [0, 0, 0, 0])) = true ∧
    Instr.wf (.gulistStatusRx 0 (gulFrame 4 0 0 (List.replicate 23 0))) = false ∧ Instr.wf (.gulistStatusRx 0 (gulFrame 4 0 0 (List.replicate 24 0))) = true ∧
    Instr.wf (.gulistSense 0 (gulFrame 5 0 0 (oneByte 12 0 4))) = false ∧ Instr.wf (.gulistSense 0 (gulFrame 5 0 0 (oneByte 12 0 3))) = true ∧
    Instr.wf (.gulistFrameDiscard 0 sound (gulFrame 5 0 0 (oneByte 12 0 3))) = false ∧
    Instr.wf (.gulistFrameDiscard 0 { sound with errs := 1 } (gulFrame 5 0 0 (oneByte 12 0 3))) = true ∧
    Instr.wf (.gulistFrameDiscard 0 { sound with realigned := true } (gulFrame 5 0 0 (oneByte 12 0 3))) = true ∧
    Instr.wf (.gulistFrameDiscard 0 { sound with noEof := true } (gulFrame 5 0 0 (oneByte 12 0 3))) = true ∧
    Instr.wf (.gulistFrameDiscard 0 sound (gulFrame 6 0 0 [0, 0, 0, 0])) = true := by decide +kernel

theorem smoke_banks : Instr.wf (.bankRead 0 2 0 4 []) = false ∧ Instr.wf (.bankRead 2 3 0 4 []) = true ∧
    Instr.wf (.bankRead 0 0 0 0 []) = false ∧ Instr.wf (.bankRead 0 0 0 33 []) = false ∧ Instr.wf (.bankRead 0 0 0 32 []) = true ∧
    Instr.wf (.bankWrite 0 0 0 [] []) = false ∧ Instr.wf (.bankWrite 0 0 0 (List.replicate 33 0) []) = false ∧
    Instr.wf (.bankWrite 6 2 0 [1] []) = false ∧ Instr.wf (.bankWrite 0 0 0 [1] []) = true ∧
    Instr.wf (.bankAdd 3 3 0 1 []) = false ∧ Instr.wf (.bankAdd 3 2 0 1 []) = true ∧
    Instr.wf (.bankAddSat 4 3 0 1 []) = false ∧ Instr.wf (.bankAddSat 4 2 0 1 []) = true ∧
    Instr.wf (.bankSwap 1 2 0 1 []) = false ∧ Instr.wf (.bankSwap 1 1 0 1 []) = true := by decide +kernel

/-- A PTP message of a type in domain 0, `n` bytes long. -/
def ptpDatagram (ty n : Nat) : Bytes := [BitVec.ofNat 8 ty, 2] ++ List.replicate (n - 2) 0

theorem smoke_ptp : Instr.wf (.ptpAnnounce rxL2 .l2 (ptpDatagram 11 63)) = false ∧ Instr.wf (.ptpAnnounce rxL2 .l2 (ptpDatagram 11 64)) = true ∧
    Instr.wf (.ptpSync rxL2 .l2 (ptpDatagram 0 43)) = false ∧ Instr.wf (.ptpSync rxL2 .l2 (ptpDatagram 0 44)) = true ∧
    Instr.wf (.ptpFollowUp rxL2 .l2 (ptpDatagram 0 44)) = false ∧ Instr.wf (.ptpFollowUp rxL2 .l2 (ptpDatagram 8 44)) = true ∧
    Instr.wf (.ptpDelayResp rxL2 .l2 (ptpDatagram 9 53)) = false ∧ Instr.wf (.ptpDelayResp rxL2 .l2 (ptpDatagram 9 54)) = true ∧
    Instr.wf (.ptpPdelayReq rxL2 .l2 (ptpDatagram 3 54)) = false ∧ Instr.wf (.ptpPdelayReq rxL2 .l2 (ptpDatagram 2 54)) = true ∧
    Instr.wf (.ptpPdelayResp rxL2 .l2 (ptpDatagram 2 54)) = false ∧ Instr.wf (.ptpPdelayResp rxL2 .l2 (ptpDatagram 3 54)) = true ∧
    Instr.wf (.ptpPdelayRespFollowUp rxL2 .l2 (ptpDatagram 3 54)) = false ∧ Instr.wf (.ptpPdelayRespFollowUp rxL2 .l2 (ptpDatagram 10 54)) = true ∧
    Instr.wf (.mgmtTick (List.replicate 7 0) (List.replicate 8 0)) = false ∧ Instr.wf (.mgmtTick (List.replicate 8 0) (List.replicate 9 0)) = false ∧
    Instr.wf (.mgmtTick (List.replicate 8 0) (List.replicate 8 0)) = true ∧
    Instr.wf (.ptpSync rxTow .l2 (ptpDatagram 0 44)) = false ∧ Instr.wf (.ptpSync (toUdp 320) .ipv4 (ptpDatagram 0 44)) = false ∧
    Instr.wf (.ptpSync (toUdp 319) .ipv4 (ptpDatagram 0 44)) = true ∧ Instr.wf (.ptpIgnored (toUdp 319) .ipv4 (ptpDatagram 11 64)) = false ∧
    Instr.wf (.ptpIgnored (toUdp 320) .ipv4 (ptpDatagram 11 64)) = true := by decide +kernel

theorem smoke_network : Instr.wf (.arpRequest ⟨0, frameOf .arp none⟩ ⟨false, false, 0, 0, 0⟩) = true ∧ Instr.wf (.arpRequest ⟨0, frameOf .arp none⟩ ⟨true, false, 0, 0, 0⟩) = false ∧
    Instr.wf (.icmpEcho ⟨0, frameOf .ipv4 none⟩ false 0 0x020000000001 []) = true ∧ Instr.wf (.icmpEcho ⟨0, frameOf .ipv4 none⟩ false 0 0 []) = false ∧
    Instr.wf (.icmpEcho (toUdp 7) false 0 0x020000000001 []) = false ∧ Instr.wf (.netHeartbeatRx rxBeat []) = true ∧
    Instr.wf (.netHeartbeatRx rxL2 []) = false ∧ Instr.wf (.rmpDiscard rxL2 peer []) = false ∧ Instr.wf (.rmpDiscard rxRmp peer []) = true := by decide +kernel

theorem smoke_camera : Instr.wf (.camLineRx 0 (0x2A, []) 0) = true ∧ Instr.wf (.camLineRx 0 (0x12, []) 0) = false ∧
    Instr.wf (.camPacketIgnored 0 (.packet 0 0x2A)) = false ∧ Instr.wf (.camPacketIgnored 0 (.packet 0 0x12)) = true ∧
    Instr.wf (.camPacketIgnored 0 (.packet 4 0x2A)) = true ∧ Instr.wf (.camPacketIgnored 0 .escape) = true := by decide +kernel

/-- An RMP datagram with key 0, a SEQ, a type and a body, and no MAC (R395). -/
def rmpBare (ty : Nat) (body : Bytes) : Bytes := [0x52, 0x4D, 1, BitVec.ofNat 8 ty] ++ List.replicate 44 0 ++ body

theorem smoke_rmp : Instr.wf (.rmpUnknownType rxRmp peer (rmpBare 7 [])) = false ∧ Instr.wf (.rmpUnknownType rxRmp peer (rmpBare 8 [])) = true ∧
    Instr.wf (.rmpUnknownType rxRmp peer (rmpBare 0 [])) = true ∧ Instr.wf (.rmpHello rxRmp peer ((rmpBare 1 []).take 47)) = false ∧
    Instr.wf (.rmpHello rxRmp peer (rmpBare 2 [])) = false ∧ Instr.wf (.rmpHello rxRmp peer (rmpBare 1 [])) = true ∧
    Instr.wf (.rmpRead rxRmp peer (rmpBare 1 [])) = false ∧ Instr.wf (.rmpRead rxRmp peer (rmpBare 2 [])) = true ∧
    Instr.wf (.rmpWrite rxRmp peer (rmpBare 4 [])) = false ∧ Instr.wf (.rmpWrite rxRmp peer (rmpBare 3 [])) = true ∧
    Instr.wf (.rmpSwap rxRmp peer (rmpBare 3 [])) = false ∧ Instr.wf (.rmpSwap rxRmp peer (rmpBare 4 [])) = true ∧
    Instr.wf (.rmpStatus rxRmp peer (rmpBare 7 [])) = false ∧ Instr.wf (.rmpStatus rxRmp peer (rmpBare 6 [])) = true ∧
    Instr.wf (.rmpSubscribe rxRmp peer (rmpBare 6 [])) = false ∧ Instr.wf (.rmpSubscribe rxRmp peer (rmpBare 7 [])) = true ∧
    (∀ c : Fin 8, Instr.wf (.rmpHold rxRmp peer (rmpBare 5 [BitVec.ofNat 8 c])) = decide (c = 1) ∧ Instr.wf (.rmpResume rxRmp peer (rmpBare 5 [BitVec.ofNat 8 c])) = decide (c = 2) ∧
      Instr.wf (.rmpStop rxRmp peer (rmpBare 5 [BitVec.ofNat 8 c])) = decide (c = 3) ∧ Instr.wf (.rmpAcknowledge rxRmp peer (rmpBare 5 [BitVec.ofNat 8 c])) = decide (c = 4) ∧
      Instr.wf (.rmpReset rxRmp peer (rmpBare 5 [BitVec.ofNat 8 c])) = decide (c = 5) ∧ Instr.wf (.rmpYield rxRmp peer (rmpBare 5 [BitVec.ofNat 8 c])) = decide (c = 6) ∧
      Instr.wf (.rmpCommandInvalid rxRmp peer (rmpBare 5 [BitVec.ofNat 8 c])) = decide (c = 0 ∨ c = 7)) ∧
    Instr.wf (.rmpHold rxRmp peer (rmpBare 5 [])) = false ∧ Instr.wf (.rmpCommandInvalid rxRmp peer (rmpBare 5 [])) = true := by decide +kernel

theorem smoke_tether : (∀ k : Fin 8, Instr.wf (.tetherHeartbeatRx (tethFrame k 0 [])) = decide (k = 1) ∧ Instr.wf (.tetherNzlChange (tethFrame k 0 [])) = decide (k = 2) ∧
      Instr.wf (.tetherKnotReq (tethFrame k 0 [])) = decide (k = 3) ∧ Instr.wf (.tetherKnotDone (tethFrame k 0 [])) = decide (k = 4) ∧
      Instr.wf (.tetherState (tethFrame k 0 [])) = decide (k = 5) ∧ Instr.wf (.tetherYield (tethFrame k 0 [])) = decide (k = 6) ∧
      Instr.wf (.tetherBulk (tethFrame k 0 [])) = decide (k = 7)) ∧ Instr.wf (.tetherYield [6, 0, 0, 0, 0, 0, 0, 0, 0]) = false := by decide +kernel

theorem smoke_calibration : Instr.wf (.fegMeasureDone 0 ⟨List.replicate 19 125, 0⟩) = false ∧ Instr.wf (.fegMeasureDone 0 ⟨List.replicate 20 125, 0⟩) = true ∧
    Instr.wf (.cmpMeasureDone 0 [1, 2, 3]) = false ∧ Instr.wf (.cmpMeasureDone 0 [1, 2, 3, 32]) = true := by decide +kernel

/-- An ill-formed command is refused under its row's name (log 1). -/
theorem test_refused : named (.imagePass2Done 0) State.reset = "IMAGE_PASS2_DONE" := by decide +kernel

/-! Witnesses: for every statement with hypotheses, states and operands that meet them, clause by clause. The states are chosen, not reached. -/

theorem witness_QueueServedInOrder : { State.reset with pending := [.tapReset, .tapReset, .wpNop] }.pending = [.tapReset, .tapReset] ++ [.wpNop] ∧
    (runs [Instr.tapReset, .tapReset].length { State.reset with pending := [.tapReset, .tapReset, .wpNop] }).isSome = true ∧
    State.reset.pending = [] := by decide +kernel

theorem witness_StepKeepsInvariant : State.reset.settled = true ∧ State.reset.canon = true ∧
    (match step State.reset with | .next _ => true | _ => false) = true ∧
    (match step { onDev .ready with pending := [.statusSend] } with | .next _ => true | _ => false) = true := by decide +kernel

theorem witness_ExecFrame : ends (.registerWrite .rmp 0xA0000 1) (onDev .ready) (fun _ => true) = true := by decide +kernel

theorem witness_RefusedExactlyWhenIllFormed : Instr.wf (.imagePass2Done 0) = false ∧ Instr.wf (.imagePass2Done 1) = true := by decide +kernel

theorem witness_DeviceMovesOnlyByR34 : ends .keepReset (onDev .printing) (fun t => t.sys.st == .faulted) = true := by decide +kernel

theorem witness_ResetsAndRelease : State.reset.canon = true ∧ (mMgt (fun m => { m with resetDue := true }) (onDev .ready)).mgt.resetDue = true ∧
    (mMgt (fun m => { m with resetDue := true }) (onDev .ready)).canon = true ∧ State.reset.mgt.resetDue = false ∧
    State.reset.settled = true ∧ State.reset.sys.st = .cold ∧ (onDev .ready).sys.st ≠ .cold := by decide +kernel

/-- A holder of a pair. -/
def holder (d : DevState) : State := mPar (fun p => { p with hitchOut := true }) (onPair 1 d)

theorem witness_KeepIslandAndHitch : fit (onDev .ready) = true ∧ running (onDev .ready) = true ∧ awake (onDev .loading) = false ∧
    (onDev .loading).settled = true ∧ (onDev .loading).canon = true ∧ State.reset.pos.keepReset = true ∧ (onDev .ready).pos.keepReset = false ∧
    (onDev .ready).dbg.halted = false ∧ (mDbg (fun d => { d with halted := true }) (onDev .ready)).dbg.halted = true ∧
    paired (onDev .ready) = false ∧ fit (holder .ready) = true ∧ paired (holder .ready) = true ∧ (holder .ready).par.hitchOut = true ∧
    (holder .ready).par.yieldSent = false ∧ fit (mPar (fun p => { p with yieldSent := true }) (holder .ready)) = true ∧
    fit (onPair 2 .ready) = true ∧ isStandby (onPair 2 .ready) = true ∧ operational (onPair 2 .ready) = true ∧ (onPair 2 .ready).par.pendSplice = none ∧
    parReady (onPair 2 .ready) = true ∧ parReady (mPar (fun p => { p with clear := true }) (onPair 2 .ready)) = false ∧
    isStandby (onDev .ready) = false := by decide +kernel

theorem witness_EveryCommandKeepsTheRest : (onDev .ready).settled = true ∧ ends .statusSend (onDev .ready) (fun _ => true) = true := by decide +kernel

theorem witness_MisalignedAccess : (1 : Word).toNat % 4 ≠ 0 ∧ (3 : Word).toNat % 4 ≠ 0 ∧ 0x1D0000 ≤ (0x1D0000 : Word).toNat ∧
    (onDev .verifying).settled = true ∧ (onDev .verifying).sys.st ≠ .cold ∧ awake (onDev .verifying) = true := by decide +kernel

/-- POS and MIL held at reset (R162). -/
def inReset (d : DevState) : State := mPos (fun p => { p with keepReset := true }) (onDev d)

/-- The register at an address takes a value that the conditions of StoredRegisterWrite allow. -/
def storedAt (a : Nat) (v : Word) (s : State) : Bool :=
  match regDesc a with
  | none => false
  | some d => decide (a % 4 = 0) && decide (a / 0x10000 ∉ [1, 3, 12, 13, 18, 22]) && decide (a < 0x1C0000) && decide (a ≠ 0x400)
    && (writeCmd false a v { s with outbox := [] }).isNone
    && d.ok (regVal s a &&& ~~~ (d.rw ||| d.rwl ||| d.rwk ||| d.rwi) ||| v &&& (d.rw ||| d.rwl ||| d.rwk ||| d.rwi))
    && (!regRunning a s || decide ((regVal s a ^^^ v) &&& d.rwi = 0))

theorem witness_StoredRegisterWrite : fit (onDev .ready) = true ∧ storedAt 0xA0000 1 (onDev .ready) = true ∧ storedAt 0xA0000 0 (onDev .ready) = true ∧
    reaches .waypost (onDev .ready) = true := by decide +kernel

/-- The register at an address refuses a value for a field of a running block or for its range. -/
def refusedAt (a : Nat) (v : Word) (s : State) : Bool × Bool :=
  match regDesc a with
  | none => (false, false)
  | some d => (regRunning a s && decide ((regNew a d v s ^^^ regVal s a) &&& d.rwi ≠ 0), !d.ok (regNew a d v s))

theorem witness_WritesThatStoreNothing : fit (onDev .ready) = true ∧ (∀ a ∈ [0xA0FFC, 0x70000, 0x180000], a % 4 = 0 ∧ a / 0x10000 ≠ 1 ∧ a < 0x1C0000 ∧
      (writeCmd false a 0xFFFFFFFF { onDev .ready with outbox := [] }).isNone = true) ∧ regDesc 0xA0FFC = none ∧
    (refusedAt 0x70000 0xFFFFFFFF (onDev .ready)).1 = true ∧ heldAtReset 0x70000 (inReset .ready) = false ∧ heldAtReset 0xC0000 (inReset .faulted) = true ∧
    heldAtReset 0xDFFFC (inReset .faulted) = true ∧ fit (inReset .faulted) = true := by decide +kernel

theorem witness_BarredAccess : (0x1BFFFC : Nat) < 0x1C0000 ∧ (onDev .loading).settled = true ∧ (onDev .printing).settled = true ∧ inPrint (onDev .printing) = true ∧
    (onDev .printing).dbg.halted = false ∧ (onDev .printing).err.fatalHeld = false ∧ mayLog (onDev .printing) Err.dbgRefused 0 (ms 1) = true ∧
    mayLog (markLogged Err.dbgRefused 0 (onDev .printing)) Err.dbgRefused 0 (ms 1) = false ∧ State.reset.sys.st = .cold ∧
    awake (onDev .ready) = true ∧ (0x1C0000 : Nat) / 0x10000 = 28 ∧ (regShow 0x1C0000 (onDev .ready)).isSome = true := by decide +kernel

/-- The device while pass 2 applies the records of candidates. -/
def onPass2 (cands : List Nat) : State := mCfg (fun c => { c with pass := 2, cands := cands }) (onDev .loading)

theorem witness_ImageEntries : (onPass2 [0, 1]).canon = true ∧ (onPass2 [0, 1]).sys.st = .loading ∧ (onPass2 [0, 1]).cfg.pass = 2 ∧
    (onPass2 [0, 1]).cfg.cands = (0 : Fin 2).val :: 1 :: [] ∧ imageRegBad 0x100 = true ∧ imageRegBad 0xA0000 = false ∧ (onPass2 [0]).settled = true ∧
    0xA0000 / 0x10000 ∉ [1, 3, 12, 13, 18, 22] ∧ (regDesc 0xA0000).isSome = true ∧ (writeCmd true 0xA0000 1 { onPass2 [0] with outbox := [] }).isNone = true ∧
    (match regDesc 0xA0000 with | some d => d.ok (regNew 0xA0000 d 1 (onPass2 [0])) | none => false) = true := by decide +kernel

theorem witness_RegisterCommandsAreWrites : masterHere .rmp (onDev .ready) = true ∧ masterHere .waypost State.reset = true ∧ masterHere .image (onPass2 [0]) = true ∧
    bit 0x20000000 29 = true ∧ bit 0x80000000 31 = true ∧ bit 0 31 = false ∧ bit 2 1 = true ∧ bit 0 1 = false := by decide +kernel

theorem witness_CounterClears : fit (onDev .ready) = true ∧ fit (onDev .verifying) = true ∧ bit 1 1 = false := by decide +kernel

theorem witness_ErrorAcknowledgement : fit (onDev .ready) = true ∧ (∀ c : Fin 4, bit 15 c = true → clsHandled (onDev .ready) c = false) ∧
    clsHandled (mErr (fun e => { e with faults := [faultSix] }) (onDev .ready)) 1 = true ∧
    fit (mErr (fun e => { e with faults := [faultSix] }) (onDev .ready)) = true := by decide +kernel

/-- Ready, with the fuses' commands unlocked. -/
def otpReady : State := mCfg (fun c => { c with otpOpen := true }) (onDev .ready)

theorem witness_OtpCommands : fit otpReady = true ∧ otpReady.sys.st = .ready ∧ otpReady.cfg.otpOpen = true ∧ otpReady.cfg.otpBusy = false ∧
    otpReady.cfg.otpProg.getLsbD 7 = false ∧ (mCfg (fun c => { c with otpProg := 0x80 }) otpReady).cfg.otpProg.getLsbD 7 = true ∧
    (mCfg (fun c => { c with otpProg := 0x80 }) otpReady).cfg.otpProg &&& ~~~ (mCfg (fun c => { c with otpProg := 0x80 }) otpReady).cfg.otpRev ≠ 0 ∧
    fit (onDev .ready) = true ∧ (onDev .ready).cfg.otpOpen = false ∧ (mCfg (fun c => { c with otpBusy := true }) otpReady).cfg.otpBusy = true := by decide +kernel

/-- A knot request is pending. -/
def asking (k : KnotReq) (s : State) : State := mSys (fun y => { y with pendingKnot := some k }) s

/-- A setting of POS or MIL is in effect. -/
def live (a : Nat) (v : Word) (s : State) : State := mPos (fun p => { p with live := [(a, v)] }) s

/-- Milestone 0 is STALE. -/
def stale0 (s : State) : State := mMs 0 (fun m => { m with stale := true }) s

/-- The road count requested in the registers is `n`. -/
def roadAsked (n : Word) (s : State) : State := setReg 0x104 n s

theorem witness_KnotRequests : fit (onDev .verifying) = true ∧ fit (onPair 2 .ready) = true ∧ isStandby (onPair 2 .ready) = true ∧
    (onDev .ready).sys.st ≠ .verifying ∧ isStandby (onDev .ready) = false ∧ (onDev .ready).sys.pendingKnot = none ∧ fit (onDev .ready) = true ∧
    fit (asking .immediate (onDev .ready)) = true ∧ (asking .immediate (onDev .ready)).sys.pendingKnot.isSome = true ∧ (onDev .ready).fir.grid = none ∧
    (onGrid 5 (onDev .printing)).fir.grid = some ⟨0, 0, []⟩ ∧ (nextLc (onGrid 5 (onDev .printing)) (refPort (onGrid 5 (onDev .printing)))).isSome = true ∧
    isActive (onGrid 5 (onDev .printing)) = false ∧ fit (onGrid 5 (onDev .printing)) = true ∧ (onGrid 5 (onDev .printing)).sys.pendingKnot = none ∧
    isActive (onGrid 5 (onPair 1 .printing)) = true ∧ (nextLc (onGrid 5 (onPair 1 .printing)) 0).isSome = true ∧ refPort (onGrid 5 (onPair 1 .printing)) = 0 ∧
    ¬ 0 < geoDir (onGrid 5 (onPair 1 .printing)).fir.geo * rcDiff (road (onGrid 5 (onPair 1 .printing)))
      (knotRoad 1 (trOf (onGrid 5 (onPair 1 .printing)).fir.geo ⟨0, 0, []⟩ 0 (5 + knotLead (onGrid 5 (onPair 1 .printing))))) ∧
    0 < geoDir (mEnc 0 (fun e => { e with rc := 1 }) (onDev .ready)).fir.geo * rcDiff (road (mEnc 0 (fun e => { e with rc := 1 }) (onDev .ready))) 0 ∧
    fit (roadAsked 1 (onDev .ready)) = true ∧ ¬ 0 < geoDir (roadAsked 1 (onDev .ready)).fir.geo * rcDiff (road (roadAsked 1 (onDev .ready))) 1 ∧
    (milestone (stale0 (onDev .ready)) 0).stale = true ∧ bit (msReg (onDev .ready) 0 0) 29 = false ∧ (milestone (onDev .ready) 0).stale = false ∧
    bit (msReg (live (msAddr 0 0) 0x20000000 (stale0 (onDev .ready))) 0 0) 29 = true ∧
    fit (asking (.milestone 0) (onDev .ready)) = true ∧ fit (asking (.roadCount 7) (onDev .ready)) = true := by decide +kernel

theorem witness_OneKnotRequest : fit (asking .immediate (onDev .ready)) = true ∧ isStandby (onDev .ready) = false ∧ (onDev .ready).sys.st ≠ .verifying ∧
    (onDev .ready).sys.pendingKnot = none ∧ fit (asking (.milestone 0) (onDev .ready)) = true ∧ fit (asking (.roadCount 7) (onDev .ready)) = true := by decide +kernel

theorem witness_CapturingReads : fit (onDev .ready) = true := by decide +kernel

theorem witness_PositionRegisters : fit (onDev .ready) = true ∧ bit 0x20000000 29 = true ∧ (stores (posAddr 0 8) 0x20000000 (onDev .ready)).isSome = true ∧
    (stores (posAddr 0 0) 0x80000000 (onDev .ready)).isSome = true ∧ (stores (msAddr 31 0) 0x80000000 (onDev .ready)).isSome = true ∧
    (stores (msAddr 31 0) 0 (onDev .ready)).isSome = true ∧ fit (inReset .faulted) = true ∧ (inReset .faulted).pos.keepReset = true ∧ (onDev .ready).pos.keepReset = false ∧
    (stores (posAddr 0 0) 0xC0000000 (onDev .ready)).isSome = true ∧ stores (posAddr 0 8) 0xE0000000 (onDev .ready) = none ∧ bit 0xE0000000 29 = true ∧
    stores (posAddr 0 0) 0x80000000 (onDev .printing) = none ∧ fit (onDev .printing) = true ∧ stores (msAddr 0 0) 0x9F000000 (onDev .ready) = none ∧ bit 0x9F000000 31 = true ∧
    stores (msAddr 0 0) 0x1F000000 (onDev .ready) = none ∧ bit 0x1F000000 31 = false := by decide +kernel

/-- Head port 0 in a link state, waiting or not. -/
def headIn (st : LinkState) (w : Bool) : State := mHead 0 (fun h => { h with st := st, waiting := w }) (onDev .ready)

/-- Lane 0 of the tether in a link state, waiting or not. -/
def laneIn (st : LinkState) (w : Bool) : State := mTeth 0 (fun h => { h with st := st, waiting := w }) (onDev .ready)

/-- Eight training sets of a rate, and what a receiver has in LOCK. -/
def eightSets (r : Nat) (inv : Bool) : PollSeen := ⟨inv, List.replicate 8 ⟨false, 0, BitVec.ofNat 8 r, 0, 1⟩⟩
def settledRx (skew : Int) : LockSeen := ⟨8, 16, true, true, skew⟩

theorem witness_LanesTrain : fit (headIn .detect true) = true ∧ (headPort (headIn .detect true) 0).st = .detect ∧ (headPort (headIn .detect true) 0).waiting = true ∧
    (teth (laneIn .detect true) 0).st = .detect ∧ (teth (laneIn .detect true) 0).waiting = true ∧ fit (laneIn .detect true) = true ∧
    (headPort (headIn .detect false) 0).waiting = false ∧ (teth (laneIn .detect false) 0).waiting = false ∧ (headPort (headIn .poll false) 0).st = .poll ∧
    (teth (laneIn .poll false) 0).st = .poll ∧ (headPort (headIn .lock false) 0).st = .lock ∧ (teth (laneIn .lock false) 0).st = .lock ∧
    (teth (laneIn .lock false) (1 - 0)).st ≠ .active ∧ (teth (mTeth 1 (fun h => { h with st := .active }) (laneIn .lock false)) (1 - 0)).st = .active ∧
    bit (gulCtl (headIn .detect true) 0) 30 = false ∧ bit (gulCtl (setReg 0x121000 0x40000000 (headIn .detect true)) 0) 30 = true ∧
    fit (setReg 0x121000 0x40000000 (headIn .detect true)) = true ∧ pollMet (headIn .poll false) (.head 0) (eightSets (laneRate (headIn .poll false) 0) true) = true ∧
    pollMet (laneIn .poll false) (.tether 0) (eightSets (laneRate (laneIn .poll false) 64) false) = true ∧
    pollMet (headIn .poll false) (.head 0) (eightSets (laneRate (headIn .poll false) 0 + 1) true) = false ∧ pollMet (headIn .poll false) (.head 0) ⟨false, []⟩ = false ∧
    lockMet (settledRx 33) = true ∧ lockMet { settledRx 0 with sent := 15 } = false ∧ lockMet { settledRx 0 with ts2 := 7 } = false ∧
    lockMet { settledRx 0 with cdr := false } = false ∧ lockMet { settledRx 0 with adapted := false } = false ∧
    fit (mTeth 1 (fun h => { h with st := .active }) (laneIn .lock false)) = true ∧ 32 < (33 : Int).natAbs ∧ 32 < (-33 : Int).natAbs ∧ (-32 : Int).natAbs ≤ 32 := by decide +kernel

theorem witness_LanesFallBack : fit (headIn .detect false) = true ∧ (headPort (headIn .detect false) 0).st = .detect ∧ (headPort (headIn .detect false) 0).waiting = false ∧
    fit (headIn .poll false) = true ∧ fit (headIn .lock false) = true ∧ fit (headIn .exchange false) = true ∧ (headPort (headIn .exchange false) 0).st = .exchange ∧
    (headPort (headIn .poll false) 0).st = .poll ∧ (headPort (headIn .lock false) 0).st = .lock ∧
    fit (laneIn .detect false) = true ∧ (teth (laneIn .detect false) 0).waiting = false ∧ fit (laneIn .poll false) = true ∧ (teth (laneIn .poll false) 0).st = .poll ∧
    (teth (laneIn .lock false) 0).st = .lock ∧ fit (headIn .active false) = true ∧ (headPort (headIn .active false) 0).st = .active ∧ bit 2 1 = true ∧ bit 3 1 = true ∧
    bit 3 0 = true ∧ bit 2 0 = false ∧ (headPort (headIn .poll false) 0).st ≠ .active ∧ 32 ≤ 32 ∧ 31 < 32 ∧ fit (onDev .ready) = true ∧ reaches .rmp (headIn .active false) = true := by decide +kernel

/-- An outstanding CFG frame on head port 0 of an EXCHANGE or ACTIVE link. -/
def cfgOut (st : LinkState) (c : CfgReq) (step : Nat) : State := mHead 0 (fun h => { h with st := st, step := step, cfg := some c }) (onDev .ready)

/-- A STATUS frame with a state. -/
def statFrame (st : Byte) : Bytes := gulFrame 4 0 0 (oneByte 24 0 st)

/-- An ACK with capabilities that fit an empty port (R252), and the port that waits for it, after a first knot. -/
def capAck : Bytes := [6, 0, 0, 0, 28, 0, 0, 0, 0, 6, 1, 1, 0, 0, 255, 31, 15, 0, 0, 0, 0, 0, 0, 0, 0, 0, 3, 0, 0, 0, 15, 0, 0, 0, 64, 68, 143, 249]
def capWaits : State := mSys (fun y => { y with epoch := 1 }) (cfgOut .exchange ⟨0, false, 0, 16, [], 0, false⟩ 1)

theorem witness_ModuleFrames_capabilities : fit capWaits = true ∧ gulIs 6 capAck = true ∧ byteAt capAck 9 = 6 ∧ byteAt capAck 8 = 0 ∧ leAt capAck 6 2 = 0 ∧
    linkUp capWaits 0 = true ∧ (headPort capWaits 0).cfg = some ⟨0, false, 0, 16, [], 0, false⟩ ∧ (headPort capWaits 0).step = 1 ∧
    capFits (mHead 0 (fun h => { h with caps := (List.range (byteAt capAck 9)).map (fun i => w32 (leAt capAck (10 + 4 * i) 4)) }) capWaits) 0 = true := by decide +kernel

theorem witness_ModuleFrames : fit (headIn .active false) = true ∧ linkUp (headIn .active false) 0 = true ∧ linkUp (headIn .exchange false) 0 = true ∧
    discStatic sound [] ≠ 0 ∧ discStatic { sound with errs := 1 } (statFrame 2) = 2 ∧ discStatic { sound with realigned := true } [] = 2 ∧
    discStatic { sound with noEof := true } (statFrame 2) = 3 ∧ discStatic sound (statFrame 2) = 0 ∧ discStatic sound (gulFrame 6 0 0 [0, 0, 0, 0]) = 0 ∧
    (headPort (cfgOut .active ⟨0, true, 0x40, 1, [0], 0, true⟩ 0) 0).cfgDue = false ∧
    (headPort (mHead 0 (fun h => { h with cfgDue := true }) (cfgOut .active ⟨0, true, 0x40, 1, [0], 0, true⟩ 0)) 0).cfgDue = true ∧
    leAt (gulFrame 6 0 0 [1, 0, 0, 0]) 6 2 ≠ 0 ∧
    gulIs 6 (gulFrame 6 0 0 [0, 0, 0, 0]) = true ∧ (headPort (headIn .active false) 0).cfg = none ∧
    (headPort (cfgOut .active ⟨0, true, 0x40, 1, [0], 0, true⟩ 0) 0).cfg = some ⟨0, true, 0x40, 1, [0], 0, true⟩ ∧
    fit (cfgOut .active ⟨0, true, 0x40, 1, [0], 0, true⟩ 0) = true ∧ leAt (gulFrame 6 0 0 [0, 0, 0, 0]) 6 2 = 0 ∧
    fit (cfgOut .active ⟨0, false, 0x40, 1, [0], 0, true⟩ 0) = true ∧ byteAt (gulFrame 6 0 0 [0, 0, 0, 0]) 8 = 0 ∧
    fit (cfgOut .exchange ⟨0, true, 16, 4, [], 0, false⟩ 2) = true ∧ (headPort (cfgOut .exchange ⟨0, true, 16, 4, [], 0, false⟩ 2) 0).step = 2 ∧
    fit (cfgOut .exchange ⟨0, false, 0, 16, [], 0, false⟩ 1) = true ∧ (headPort (cfgOut .exchange ⟨0, false, 0, 16, [], 0, false⟩ 1) 0).step = 1 ∧
    capFits (cfgOut .exchange ⟨0, false, 0, 16, [], 0, false⟩ 1) 0 = false ∧ gulIs 6 (gulFrame 6 0 0 [0, 0, 1, 0]) = true ∧
    byteAt (gulFrame 6 0 0 [0, 0, 1, 0]) 8 ≠ 0 ∧ gulIs 5 (gulFrame 5 0 0 (oneByte 12 0 3)) = true ∧ byteAt (gulFrame 5 0 0 (oneByte 12 0 3)) 6 = 3 ∧
    mayLog (headIn .active false) Err.headEvent 0 (ms 1) = true ∧ gulIs 4 (statFrame 2) = true ∧ byteAt (statFrame 2) 6 = 2 ∧
    (headPort (headIn .active false) 0).recent.find? (fun x => x.1 == leAt (statFrame 2) 8 2) = none ∧
    (headPort (mHead 0 (fun h => { h with step := 3 }) (headIn .exchange false)) 0).step = 3 ∧
    (headPort (mHead 0 (fun h => { h with step := 3 }) (headIn .exchange false)) 0).recheck = false ∧
    fit (mHead 0 (fun h => { h with step := 3 }) (headIn .exchange false)) = true := by decide +kernel

theorem witness_LinkUpkeep : fit (headIn .active false) = true ∧ linkUp (headIn .active false) 0 = true ∧ (teth (laneIn .active false) 0).st = .active ∧
    fit (laneIn .active false) = true ∧ (headPort (headIn .active false) 0).alignLogged = false ∧
    (headPort (mHead 0 (fun h => { h with alignLogged := true }) (headIn .active false)) 0).alignLogged = true ∧
    mayLog (headIn .active false) Err.alignMissing 0 (ms 1) = true ∧ fit (cfgOut .active ⟨0, true, 0x40, 1, [0], 2, true⟩ 0) = true ∧
    (headPort (cfgOut .active ⟨0, true, 0x40, 1, [0], 2, true⟩ 0) 0).cfg = some ⟨0, true, 0x40, 1, [0], 2, true⟩ ∧
    (headPort (cfgOut .active ⟨0, true, 0x40, 1, [0], 3, true⟩ 0) 0).cfg = some ⟨0, true, 0x40, 1, [0], 3, true⟩ ∧
    (headPort (headIn .active false) 0).cfg = none ∧ (headPort (cfgOut .active ⟨0, true, 0x40, 1, [0], 2, true⟩ 0) 0).cfgDue = false ∧
    lineWaits (cfgOut .active ⟨0, true, 0x40, 1, [0], 2, true⟩ 0) 0 = false ∧ (headPort (cfgOut .active ⟨0, true, 0x40, 1, [0], 2, true⟩ 0) 0).statDue = false ∧
    (headPort (mHead 0 (fun h => { h with statDue := true }) (cfgOut .active ⟨0, true, 0x40, 1, [0], 2, true⟩ 0)) 0).statDue = true ∧
    (headPort (mHead 0 (fun h => { h with cfgDue := true }) (cfgOut .active ⟨0, true, 0x40, 1, [0], 2, true⟩ 0)) 0).cfgDue = true := by decide +kernel

/-- The host names register `a` of head port 0. -/
def hostNames (a : Word) (s : State) : State := setReg 0x120010 a s

theorem witness_HostLinkAccess : fit (onDev .ready) = true ∧ bit 0 0 = false ∧ bit 1 0 = true ∧ (mGul (fun g => { g with hcfgBusy := true }) (onDev .ready)).gul.hcfgBusy = true ∧
    fit (mGul (fun g => { g with hcfgBusy := true }) (onDev .ready)) = true ∧ (onDev .ready).gul.hcfgBusy = false ∧ (headPort (onDev .ready) 0).st ≠ .active ∧
    fit (hostNames 0x3F (headIn .active false)) = true ∧ bits (regVal (hostNames 0x3F (headIn .active false)) (base 18 + 0x10)) 13 0 ≤ 0x3F ∧
    bits (regVal (hostNames 0x40 (headIn .active false)) (base 18 + 0x10)) 29 24 = 0 ∧
    0x3F < bits (regVal (hostNames 0x40 (headIn .active false)) (base 18 + 0x10)) 13 0 ∧ fit (hostNames 0x40 (headIn .active false)) = true ∧
    lineWaits (hostNames 0x40 (headIn .active false)) 0 = false ∧ (headPort (hostNames 0x40 (headIn .active false)) 0).statDue = false ∧
    (mGul (fun g => { g with eyePort := some 0 }) (onDev .ready)).gul.eyePort.isSome = true ∧ (onDev .ready).gul.eyePort = none := by decide +kernel

/-- Channel 0 with a value of its control register. -/
def encOn (ctl : Word) (s : State) : State := setReg (posAddr 0 0) ctl s

/-- Channel 0's pass-through copies it. -/
def copied (ctl : Word) (s : State) : State := setReg (posAddr 0 0x1C) 0x40000000 (encOn ctl s)

theorem witness_EncoderInputs : (encOn 0x80000000 (onDev .ready)).settled = true ∧ keepRuns (encOn 0x80000000 (onDev .ready)) = true ∧
    encEn (encOn 0x80000000 (onDev .ready)) 0 = true ∧ encSsi (encOn 0x80000000 (onDev .ready)) 0 = false ∧
    disagrees (encOn 0x80000000 (onDev .ready)) 0 0 = false ∧ disagrees (encOn 0x80000000 (onDev .ready)) 0 1 = false ∧ keepRuns State.reset = false ∧
    encEn (onDev .ready) 0 = false ∧ keepRuns (onDev .ready) = true ∧ (enc (onDev .ready) 0).lvA ≠ true ∧ (enc (onDev .ready) 0).lvB ≠ true ∧ (onDev .ready).sys.st ≠ .cold ∧
    disagrees (mEnc 0 (fun e => { e with disagree := 4 }) (onDev .ready)) 0 2 = true ∧ disagrees (onDev .ready) 0 2 = false ∧ (onDev .ready).err.fatalHeld = false ∧
    lostCan (mEnc 0 (fun e => { e with disagree := 1 }) (onDev .printing)) .pairA = true ∧
    lostCan (mEnc 0 (fun e => { e with disagree := 2 }) (onDev .held)) .pairB = true ∧
    lostCan (mEnc 0 (fun e => { e with ssiBad := 3 }) (encOn 0xC0000000 (onDev .printing))) .ssi = true ∧
    lostCan (mEnc 0 (fun e => { e with ssiBad := 2 }) (encOn 0xC0000000 (onDev .printing))) .ssi = false ∧ isStandby (onDev .printing) = false ∧
    bits (posReg (copied 0 (onDev .ready)) 0 0x1C) 31 30 = 1 ∧ encSsi (copied 0 (onDev .ready)) 0 = false ∧ encEn (copied 0 (onDev .ready)) 0 = false ∧
    (copied 0 (onDev .ready)).settled = true ∧ bits (posReg (onDev .ready) 0 0x1C) 31 30 ≠ 1 := by decide +kernel

/-- Channel 0 counts to 3 with its index in a mode and a window. -/
def indexed (r : Word) : State := mEnc 0 (fun e => { e with rc := 3, armed := true }) (live (posAddr 0 8) r (encOn 0x80000000 (onDev .ready)))

theorem witness_IndexMarks : keepRuns (indexed 0x40000003) = true ∧ encEn (indexed 0x40000003) 0 = true ∧ encSsi (indexed 0x40000003) 0 = false ∧
    disagrees (indexed 0x40000003) 0 2 = false ∧ indexQual (indexed 0x40000003) 0 = true ∧ bits (posLive (indexed 0x40000003) 0 8) 31 30 = 1 ∧
    bits (posLive (indexed 0x80000003) 0 8) 31 30 = 2 ∧ (enc (indexed 0x80000003) 0).armed = true ∧ (indexed 0x40000003).settled = true ∧
    (rcDiff 3 (indexExpect (indexed 0x40000003) 0 3)).natAbs ≤ bits (posLive (indexed 0x40000003) 0 8) 15 0 ∧
    ¬ (bits (posLive (indexed 0x40000000) 0 8) 15 0 = 65535 ∨ (rcDiff 3 (indexExpect (indexed 0x40000000) 0 3)).natAbs ≤ bits (posLive (indexed 0x40000000) 0 8) 15 0) ∧
    bits (posLive (indexed 0x4000FFFF) 0 8) 15 0 = 65535 ∧ (bits (posLive (indexed 0) 0 8) 31 30 ≠ 1 ∧ bits (posLive (indexed 0) 0 8) 31 30 ≠ 2) ∧
    bits (posReg (indexed 0) 0 0x1C) 31 30 ≠ 1 ∧ bits (posReg (setReg (posAddr 0 0x1C) 0x40000000 (indexed 0)) 0 0x1C) 31 30 = 1 := by decide +kernel

/-- The same state in Cold. -/
def inCold (s : State) : State := mSys (fun y => { y with st := .cold }) s

/-- Channel 0 reads SSI words of 16 bits with parity. -/
def ssiOn (busy : Bool) (prev : Option Nat) : State :=
  mEnc 0 (fun e => { e with ssiBusy := busy, ssiPrev := prev }) (setReg (posAddr 0 4) 0x41000000 (encOn 0xC0000000 (onDev .ready)))

theorem witness_SsiFrames : (ssiOn false none).settled = true ∧ keepRuns (ssiOn false none) = true ∧ encSsi (ssiOn false none) 0 = true ∧ encEn (ssiOn false none) 0 = true ∧
    (enc (ssiOn false none) 0).ssiBusy = false ∧ (enc (ssiOn true none) 0).ssiBusy = true ∧ bits (posReg (ssiOn true none) 0 4) 31 26 = 16 ∧
    bit (posReg (ssiOn true none) 0 4) 24 = true ∧ (enc (ssiOn true none) 0).ssiPrev = none ∧ (enc (ssiOn true (some 0)) 0).ssiPrev = some 0 ∧
    (sgn 16 ((16384 : Nat) - (0 : Nat) : Int)).natAbs ≤ min (2 ^ (16 - 2)) 65535 ∧ min (2 ^ (16 - 2)) 65535 < (sgn 16 ((16385 : Nat) - (0 : Nat) : Int)).natAbs ∧
    (inCold (ssiOn false none)).sys.st = .cold ∧ keepRuns (inCold (ssiOn false none)) = true ∧ (inCold (ssiOn false none)).settled = true ∧
    (ssiOn true none).sys.st ≠ .cold ∧ (ssiOn true none).err.fatalHeld = false ∧ keepRuns (onDev .ready) = true ∧ encSsi (onDev .ready) 0 = false ∧
    (List.range 32).filter (fun i => (3 % 2 ^ 16).testBit i) = [0, 1] ∧ (List.range 32).filter (fun i => (1 % 2 ^ 16).testBit i) = [0] := by decide +kernel

/-- Channel 0 enabled, started, at a road count. -/
def started (rc : Int) : State := mEnc 0 (fun e => { e with started := true, rc := rc }) (encOn 0x80000000 (onDev .ready))

/-- Channel 0's pass-through follows it, one count behind. -/
def synthOn : State := setReg (posAddr 0 0x20) 0x10000 (setReg (posAddr 0 0x1C) 0x80000000 (started 1))

theorem witness_ObserverAndSynth : (started 9).settled = true ∧ (started 9).sys.st ≠ .cold ∧ keepRuns (started 9) = true ∧ encEn (takeLive (started 9)) 0 = true ∧
    (enc (takeLive (started 9)) 0).started = true ∧ encEn (onDev .ready) 0 = false ∧ 8 * 65536 < (sgn 64 (9 * 65536)).natAbs ∧
    bits (posReg synthOn 0 0x1C) 31 30 = 2 ∧ ptTarget synthOn 0 ≠ (enc synthOn 0).ptOut ∧ keepRuns synthOn = true ∧ synthOn.settled = true ∧
    keepRuns (inCold synthOn) = true ∧ keepRuns (inReset .ready) = false ∧ (inReset .ready).settled = true ∧ bits (posReg (onDev .ready) 0 0x1C) 31 30 ≠ 2 ∧
    16 < (ptTarget (setReg (posAddr 0 0x20) 0x10000 (setReg (posAddr 0 0x1C) 0x80000000 (started 17))) 0 - 0).natAbs := by decide +kernel

/-- Milestone 31 is due at 7. -/
def due31 : State := mMs 31 (fun m => { m with armed := true, due := some (7, false) }) (onDev .ready)

/-- The same with something asked of it meanwhile. -/
def asked31 (x : MsOp) : State := mMs 31 (fun m => { m with later := [x] }) due31

theorem witness_Milestones : (onDev .ready).settled = true ∧ due31.sys.knotDue = none ∧ msNext due31 = some ((31 : Ms).val, 7, false) ∧
    (msReg due31 31 0xC).toNat = 0 ∧ (msReg (live (msAddr 31 0xC) 5 due31) 31 0xC).toNat ≠ 0 ∧
    bits (liveVal (live 0xD0040 0x40000000 (onDev .ready)) (base 13 + 0x40 + 0x10 * (0 : Fin 2))) 31 30 = 1 ∧ keepRuns (onDev .ready) = true ∧
    bits (liveVal (live 0xD0040 0x80000000 (onDev .ready)) (base 13 + 0x40)) 31 30 = 2 ∧ bits (liveVal (live 0xD0040 0xC0000000 (onDev .ready)) (base 13 + 0x40)) 31 30 = 3 ∧
    bits (liveVal (onDev .ready) (base 13 + 0x40)) 31 30 = 0 ∧ bit (liveVal (live 0xD0040 0xC8000000 (onDev .ready)) (base 13 + 0x40)) 27 = true ∧
    (milestone due31 31).later = [] ∧ (milestone (asked31 .disarm) 31).later = [.disarm] ∧ msNext (asked31 .disarm) = some ((31 : Ms).val, 7, false) ∧
    (asked31 .disarm).settled = true ∧ (mSys (fun y => { y with knotDue := some 0 }) due31).sys.knotDue.isSome = true ∧ msNext (onDev .ready) = none ∧
    (milestone (onDev .ready) 0).due = none ∧ (milestone (mMs 0 (fun m => { m with due := some (7, false) }) (onDev .ready)) 0).due ≠ none ∧
    bits (liveVal (live 0xD0040 0xC8000000 (onDev .ready)) (base 13 + 0x40)) 26 22 = 0 ∧ (vget (onDev .ready).mil.sync 0 ⟨0, 0, false⟩).unread = false ∧
    (vget (mMil (fun m => { m with sync := vmod m.sync 0 (fun x => { x with unread := true }) }) (onDev .ready)).mil.sync 0 ⟨0, 0, false⟩).unread = true ∧
    pulseOn (mMil (fun m => { m with outOn := 8 }) (onDev .ready)) (.msOut 3) = true ∧ pulseOn (mMil (fun m => { m with camOn := 1 }) (onDev .ready)) (.camTrig 0) = true := by decide +kernel

/-- Records of an image without a body, of types 2, 4, 7, 8 and 3, and one of a key, number 0, of role 1 (R461). -/
def record2 : Bytes := [2, 0, 0, 0, 0, 0, 0, 0, 196, 72, 80, 30]
def record4 : Bytes := [4, 0, 0, 0, 0, 0, 0, 0, 231, 48, 53, 173]
def record7 : Bytes := [7, 0, 0, 0, 0, 0, 0, 0, 142, 183, 113, 118]
def record8 : Bytes := [8, 0, 0, 0, 0, 0, 0, 0, 80, 182, 19, 206]
def record3 : Bytes := [3, 0, 0, 0, 0, 0, 0, 0, 227, 53, 108, 87]
def keyRecord : Bytes := [3, 0, 0, 0, 40, 0, 0, 0, 1, 0, 0, 0, 0, 1, 0, 0] ++ List.replicate 32 7 ++ [97, 175, 78, 146]

/-- An image of records and a digest (R460, R462). -/
def image (rs : List Bytes) (digest : Bytes) : Bytes := List.replicate 64 0 ++ rs.flatMap id ++ digest

/-- The SHA-256 of an image of the first three records. -/
def digest3 : Bytes := [31, 189, 22, 217, 79, 39, 217, 6, 187, 28, 220, 66, 221, 39, 134, 125, 64, 91, 201, 158, 19, 52, 97, 62, 121, 71, 200, 104, 225, 38, 12, 243]

/-- Pass 1 of slot 0, whose header names a length and a count of records. -/
def onPass1 (img : Bytes) (n : Nat) : State :=
  mCfg (fun c => { c with pass := 1, cands := [0], hdrs := [(0, List.replicate 16 0 ++ leBytes 4 img.length ++ leBytes 4 n ++ List.replicate 40 0)] }) (onDev .loading)

/-- The record walk of pass 1 over an image of `n` records. -/
def walked (img : Bytes) (n : Nat) : List Bytes × Option Nat := recordWalk n 0 0 ((img.take (img.length - 32)).drop 64)

/-- What each clause of pass 1 asks of the image and the state. -/
def passOne (img : Bytes) (n : Nat) : Bool :=
  let s := onPass1 img n
  s.settled && decide (s.sys.st = .loading) && !s.err.fatalHeld && decide (s.cfg.pass = 1) && decide (s.cfg.cands = [(0 : Fin 2).val])
    && decide (img.length = leAt (slotHeader s 0) 16 4) && decide (n = leAt (slotHeader s 0) 20 4)

/-- An image whose digest is wrong, one whose digest is right, and one whose third record has a wrong CRC. -/
def badDigest : Bytes := image [record2, record4, record7] (List.replicate 32 0)
def goodImage : Bytes := image [record2, record4, record7] digest3
def badCrc : Bytes := image [record2, record4, record7.take 8 ++ [0, 0, 0, 0]] (List.replicate 32 0)

/-- Pass 2 with one record left to apply. -/
def applying (r : Bytes) : State := mCfg (fun c => { c with recs := [r] }) (onPass2 [0])

theorem witness_ImageLoading : (onDev .loading).settled = true ∧ (onDev .loading).sys.st = .loading ∧ (onDev .loading).err.fatalHeld = false ∧ (onDev .loading).cfg.pass = 0 ∧
    (onDev .loading).cfg.hdrs = [] ∧ passOne badDigest 3 = true ∧ passOne badDigest 4 = true ∧ (walked badDigest 4).2 = some 3 ∧ (walked badDigest 3).2 = none ∧
    passOne (image [record8] (List.replicate 32 0)) 1 = true ∧ recTypesBad (walked (image [record8] (List.replicate 32 0)) 1).1 = some 0 ∧
    recTypesBad (walked badDigest 3).1 = none ∧ recIndex (fun r => !recCrcOk r) (walked badDigest 3).1 = none ∧
    passOne badCrc 3 = true ∧ (walked badCrc 3).2 = none ∧ recTypesBad (walked badCrc 3).1 = none ∧ recIndex (fun r => !recCrcOk r) (walked badCrc 3).1 = some 2 ∧
    sha256 (badDigest.take (badDigest.length - 32)) ≠ badDigest.drop (badDigest.length - 32) ∧
    passOne goodImage 3 = true ∧ sha256 (goodImage.take (goodImage.length - 32)) = goodImage.drop (goodImage.length - 32) ∧
    (mCfg (fun c => { c with otpPin := true }) (onPass1 goodImage 3)).cfg.otpPin = true ∧ pinned (mCfg (fun c => { c with otpPin := true }) (onPass1 goodImage 3)) [] = false ∧
    (applying keyRecord).settled = true ∧ (applying keyRecord).cfg.pass = 2 ∧ (applying keyRecord).cfg.cands = [(0 : Fin 2).val] ∧ (applying keyRecord).cfg.recs = [keyRecord] ∧
    recUnchanged keyRecord record3 = false ∧ recUnchanged keyRecord keyRecord = true ∧ (applyRecord keyRecord { applying keyRecord with outbox := [] }).2.1 = 0 ∧
    recType keyRecord = 3 ∧ (applyKeys (recBody keyRecord) (applying keyRecord)).2 = 0 ∧ (onPass2 [0]).cfg.recs = [] ∧ spanBad (onPass2 [0]) = true ∧
    spanBad (setReg 0x70000 0 (setReg 0x20180 0 (setReg 0x20100 0 (onPass2 [0])))) = false := by decide +kernel

/-- Verifying with every criterion of Ready but the first two, which are chosen. -/
def verified (done lock : Bool) : State :=
  mFir (fun f => { f with lock := lock }) (mCfg (fun c => { c with dramDone := done, laneWait := true }) (mCal (fun c => { c with
    cmps := c.cmps.map (fun k => { k with valid := true }), fegs := c.fegs.map (fun g => { g with measured := true }) }) (onDev .verifying)))

/-- A device with a geometry of one port and a speed in force. -/
def paced (v : Word) : State := mFir (fun f => { f with geo := { f.geo with segs := [⟨0, 0, 16, false, 1, 0, 0, 0, 0⟩] } }) { onDev .ready with act := [(0xA0008, v)] }

/-- What channel `c` reads back right from its verify rows. -/
def goodReads (c : Nat) : List (Bytes × Bytes) := List.replicate 16 (verifyLane c 0, verifyLane c 1)

theorem witness_VerifyingToReady : fit (onDev .verifying) = true ∧ (onDev .verifying).cfg.dramDone = false ∧
    verifySpelled (List.replicate 8 [goodReads 0]) = true ∧ verifySpelled (List.replicate 8 [List.replicate 16 ([], [])]) = true ∧
    (chan (onDev .verifying) 0).cstate ≠ 3 ∧ (onDev .verifying).cfg.laneWait = false ∧
    unmetCrit (onDev .verifying) = some 1 ∧ unmetCrit (verified true false) = some 2 ∧ fit (verified true true) = true ∧
    unmetCrit (verified true true) = none ∧ (onDev .verifying).fir.lock = false ∧ (verified true true).fir.lock = true ∧
    operational (verified true true) = false ∧ (verified true true).sys.st ≠ .faulted ∧ operational (mFir (fun f => { f with lock := true }) (onDev .ready)) = true ∧
    (mFir (fun f => { f with lock := true }) (onDev .faulted)).sys.st = .faulted ∧ (List.replicate 32 1).length = 32 ∧ (∀ x ∈ List.replicate 32 1, 0 < x) ∧ awake (onDev .ready) = true ∧
    trialOffset 0 = 0 ∧ geoPorts (paced 0).fir.geo = [0] ∧ bits (actVal (paced 0x10000) (base 10 + 8)) 23 0 ≠ 0 ∧ (paced 0x10000).settled = true ∧ (paced 0).err.fatalHeld = false := by decide +kernel

theorem witness_KnotsTaken : fit (onDev .ready) = true ∧ (onDev .ready).sys.st ≠ .loading ∧ knotPlace (asking .immediate (onDev .ready)) = some 0 ∧
    fit (asking .immediate (onDev .ready)) = true ∧ knotPlace (mSys (fun y => { y with knotDue := some (-65536) }) (onDev .printing)) = some (-65536) ∧
    (mFir (fun f => { f with chkBusy := some (geoShadow (onDev .ready)) }) (onDev .ready)).fir.chkBusy = some (geoShadow (onDev .ready)) ∧
    (strand (mStrand 511 (fun t => { t with migrating := true }) (onDev .printing)) 511).migrating = true ∧
    atBlockStart (strand (mStrand 511 (fun t => { t with migrating := true }) (onDev .printing)) 511) = true ∧
    (strand (mStrand 511 (fun t => { t with migrating := true }) (onDev .printing)) 511).st = .idle ∧ (onDev .printing).sys.st ≠ .faulted ∧
    (strand (onDev .printing) 511).migrating = false ∧ atBlockStart (strand (mStrand 511 (fun t => { t with migrating := true, st := .run, inPos := 1 }) (onDev .printing)) 511) = false := by decide +kernel

theorem verifyLane_length (c k : Nat) : (verifyLane c k).length = 1024 := by simp [verifyLane]

theorem pair_of_replicate {n : Nat} (a b : Bytes) (y : Bytes × Bytes) (h : y ∈ List.replicate n (a, b)) : y.1 = a ∧ y.2 = b := by
  rw [List.eq_of_mem_replicate h]; exact ⟨rfl, rfl⟩

/-- Reads that pass in every row of the first trial, and reads that pass in none. -/
theorem witness_VerifyingToReady_reads (c : Nat) : (goodReads c).length = 16 ∧ (∀ y ∈ goodReads c, y.1 = verifyLane c 0 ∧ y.2 = verifyLane c 1) ∧
    (∀ y ∈ List.replicate 16 (([] : Bytes), ([] : Bytes)), y.1 ≠ verifyLane c 0 ∧ y.2 ≠ verifyLane c 1) := by
  refine ⟨by simp [goodReads], fun y h => ?_, fun y h => ?_⟩
  · exact pair_of_replicate (verifyLane c 0) (verifyLane c 1) y h
  · have no : ∀ k, ([] : Bytes) ≠ verifyLane c k := fun k e => by
      have l := verifyLane_length c k
      rw [← e] at l
      exact absurd l (by decide)
    rw [List.eq_of_mem_replicate h]
    exact ⟨no 0, no 1⟩

/-! A device that prints layer 7: 64 lines of one segment of 16 nozzles, one bit each. -/

/-- The layer. -/
def layer7 : Layer := { annLayer peer ([0x54, 0x57, 1, 1, 0, 44, 0, 0, 0, 0, 0, 7, 0, 0, 0, 0, 0, 0, 0, 64, 1, 6, 0, 0, 0, 0, 4, 0, 0, 1] ++ List.replicate 10 0 ++ [0, 0, 0, 16]) with
  st := .printing, blocks := [⟨0, 0, 160, 160, [0], .present⟩] }

/-- Segment 0 of the geometry. -/
def segment0 : SegGeo := ⟨0, 0, 16, false, 1, 0, 0, 0, 0⟩

/-- Port 0 is on the grid, with the layer and a strand that fetches its first block. -/
def onPrint : State :=
  mFir (fun f => { f with geo := { f.geo with segs := [segment0] }, grid := some ⟨0, 0, [7]⟩ })
    (mStrand 0 (fun t => { t with st := .run, layer := some 7, fetchLayer := some 7 })
      (mTow (fun t => { t with layers := [layer7], queue := [7] }) (onGrid 0 { onDev .printing with plc := ⟨0xFF, 4⟩ })))

/-- Nothing halts a token at a stage. -/
def flows (s : State) (k : Nat) (tok : List Nat) (layer id : Nat) (lc : Option Nat) : Bool :=
  !stageHalted s k && decide ((k, tok) ∉ s.dbg.atBp) && (List.range 16).all (fun n => !bpMatch s n k layer id lc)

/-- A request of strand 0 whose four bytes have come. -/
def answered : FetchReq := ⟨7, 0, 0, 4, 0, false, 9, 0, [(0, [1, 2, 3, 4])]⟩

theorem witness_StrandsFed : fit onPrint = true ∧ fetchReady onPrint 0 = true ∧ (nextFetch onPrint 0).isSome = true ∧
    (strand (mStrand 0 (fun t => { t with reqs := [answered] }) onPrint) 0).reqs = [answered] ∧ answered.left = 0 ∧ (reqData answered).length ≤ 8192 ∧
    flows onPrint 4 [9] 7 0 none = true ∧ operational (onDev .ready) = true ∧ bit (regVal (setReg 0xA000C 0x10000 (onDev .ready)) (base 10 + 0xC)) 16 = true ∧
    drivesAdvice (setReg 0xA000C 0x10000 (onDev .ready)) = true ∧ onPrint.sys.st ≠ .faulted ∧ (onDev .faulted).sys.st = .faulted ∧ (onDev .faulted).settled = true ∧
    (onDev .faulted).canon = true := by decide +kernel

/-- The header of the layer's first block, raw, and one that is coded in a byte (R112). -/
def rawHeader : Bytes := [78, 75, 1, 129, 7, 0, 0, 0, 0, 0, 0, 0, 64, 0, 16, 0, 128, 0, 0, 0, 128, 0, 0, 0, 0, 0, 0, 0, 3, 11, 238, 112]
def codedHeader : Bytes := [78, 75, 1, 1, 7, 0, 0, 0, 0, 0, 0, 0, 64, 0, 16, 0, 128, 0, 0, 0, 1, 0, 0, 0, 0, 0, 0, 0, 7, 1, 244, 80]

/-- Strand 0 with a header taken and bytes in its ring. -/
def decoding (hdr : Option Bytes) (ring : Bytes) : State := mStrand 0 (fun t => { t with hdr := hdr, ring := ring, spool := 63 }) onPrint

/-- Spool 63 serves strand 0, the only one it has. -/
theorem picks0 (hdr : Option Bytes) (ring : Bytes) (h : decodable (decoding hdr ring) 0 = true) : spoolPick (decoding hdr ring) 63 = some 0 := by
  have hs : ∀ n, n ≠ 0 → (strand (decoding hdr ring) n).spool = 0 := by
    intro n hn
    have : strand (decoding hdr ring) n = strand State.reset n := by
      unfold decoding strand mStrand mStr
      rw [vget_vmod_other _ _ _ _ _ hn]
      exact vget_vmod_other _ _ _ _ _ hn
    rw [this]
    unfold strand vget State.reset StrState.init
    by_cases hb : n < 512
    · simp [Array.getD, hb]; rfl
    · simp [Array.getD, hb]; rfl
  have h0 : (strand (decoding hdr ring) 0).spool = 63 := by
    unfold decoding strand mStrand mStr
    rw [vget_vmod_same _ _ _ _ (by decide)]
  have hf : (List.range 512).filter (fun n => (strand (decoding hdr ring) n).spool == 63 && decodable (decoding hdr ring) n) = [0] := by
    rw [show (512 : Nat) = 511 + 1 from rfl, List.range_succ_eq_map, List.filter_cons_of_pos (by rw [h0, h]; rfl), List.filter_eq_nil_iff.2]
    intro a ha
    obtain ⟨b, -, rfl⟩ := List.mem_map.1 ha
    rw [hs _ (Nat.succ_ne_zero b)]
    simp
  unfold spoolPick
  rw [hf]
  rfl

/-- How the first line of a raw block ends. -/
def rawEnd (ring : Bytes) : DecEnd := (rawRun 128 0 2 (2 + ring.length + 8) ⟨[], 0, 0, ⟨0, 0, 0⟩, 0, ring⟩).2

/-- How the first line of a coded block ends. -/
def codedEnd (ring : Bytes) : DecEnd := (decRun 2 128 1 0 2 (2 + ring.length + 8) ⟨[], 0, 0, ⟨0, 0, 0⟩, 0, ring⟩).2

/-- The strand that each of these states serves is 0, by picks0. -/
theorem witness_LinesDecoded : (decoding (some rawHeader) [5, 6, 7]).settled = true ∧ decodable (decoding (some rawHeader) [5, 6, 7]) 0 = true ∧
    decAt (decoding (some rawHeader) [5, 6, 7]) 0 = some (layer7, 0) ∧ 0 < lineBytes layer7 0 ∧
    (strand (decoding none []) 0).fetchLayer.isSome = true ∧ (strand (decoding none []) 0).decNext = false ∧ (strand (decoding none []) 0).badFrom = none ∧
    (byteAt rawHeader 3).testBit 7 = true ∧ (match rawEnd [5, 6, 7] with | .line => true | _ => false) = true ∧ (match rawEnd [5] with | .wait => true | _ => false) = true ∧
    (match codedEnd [0xFF, 0xFF, 0xFF, 0xFF] with | .error _ _ _ => true | _ => false) = true ∧ decodable (decoding (some codedHeader) [0xFF, 0xFF, 0xFF, 0xFF]) 0 = true ∧
    (strand (decoding none []) 0).discard = 0 ∧ (strand (decoding none []) 0).nextLine ≤ 0 ∧ 1 < blockLines layer7 0 ∧
    decodable (decoding none (List.replicate 32 0)) 0 = true ∧ headerFault (List.replicate 32 0) layer7 0 0 (some 16) = some 0 ∧
    headerFault rawHeader layer7 0 0 (some 16) = none ∧ layer7.st = .printing ∧ (segGeo onPrint.fir.geo 0).map (·.width) = some 16 ∧
    headerFault (List.replicate 32 0) layer7 0 0 none = some 0 ∧ onPrint.cmp.last = none ∧
    ((mCmp (fun c => { c with lastValid := true, last := some ⟨1, 0, 0, false, 0, 0, 7, 0⟩ }) onPrint).cmp.last.map (fun y => (y.time, y.stripe))) = some (onPrint.now, 0) := by decide +kernel

/-- The line of segment 0 in a trigger. -/
def line0 (mapped staged : Option (List Nat)) : SegLine := ⟨0, 0, 7, 0, 1, List.replicate 16 1, List.replicate 16 0, [], [], mapped, staged⟩

/-- Trigger 0 of port 0, at road count 1. -/
def trig0 (mark : Mark) (lines : List SegLine) (built : Bool) (frozen : Option (Nat × Nat)) : Trig where
  k := 0
  lc := 0
  tr := 65536
  dir := 1
  cpl := 0x10000
  mark := mark
  layer := 7
  minp := 2000
  stb := 0x40000014
  sat := false
  conf := 0x33280000
  dremap := 0x00FAC688
  rowen := 1
  phase := []
  depth := 1
  nw := 16
  tper := 0
  absent := 0
  lines := lines
  overlap := []
  built := built
  frame := none
  sent := false
  frozen := frozen
  lagging := false
  struck := false

/-- Port 0 with one trigger. -/
def withTrig (t : Trig) (s : State) : State := mPort 0 (fun f => { f with trigs := [t], first := some 0 }) s

/-- A state in which stage 5, 6, 7 or 8 has its token. -/
def toMap : State := mFir (fun f => { f with s5 := [(0, 0, 0)] }) (withTrig (trig0 .line [line0 none none] false none) onPrint)
def toStagger : State := withTrig (trig0 .line [line0 (some (List.replicate 16 1)) none] false none) onPrint
def toBuild (mark : Mark) : State := withTrig (trig0 mark [line0 (some []) (some [])] false none) onPrint
def toSend : State := withTrig { trig0 .line [] true none with frame := some (mkFrame onPrint 0 (trig0 .line [] true none) true) } onPrint

/-- A frame that is no NULL line, built before the device came to Faulted. -/
def toFault : State := mSys (fun y => { y with st := .faulted })
  (withTrig { trig0 .line [] true none with frame := some (mkFrame onPrint 0 (trig0 .line [] true none) false) } onPrint)

/-- A lane of a detour that can be freed. -/
def laneLeft : State := mNzl (fun z => { z with lanes := [⟨3, 4, 0, [], some 0, none⟩] }) onPrint

theorem witness_LineStages : fit onPrint = true ∧ toMap.sys.st ≠ .faulted ∧ toMap.fir.s5 = [(0, 0, 0)] ∧ (trigAt toMap 0 0).isSome = true ∧
    (line0 none none).seg = 0 ∧ flows toMap 5 [0, 0, 0] 7 0 (some 0) = true ∧ toMap.nzl.lanes = [] ∧ (line0 none none).srcs = [] ∧
    laneFreeable laneLeft 3 4 = true ∧ laneLeft.sys.st ≠ .faulted ∧ gateHolds toSend 0 = false ∧ (headPort toSend 0).statDue = false ∧ (headPort toSend 0).cfgDue = false ∧
    ((sendNext toSend 0).map (fun x => (x.1.struck, decide (x.1.mark = .skip)))) = some (false, false) ∧
    ((sendNext toFault 0).map (fun x => x.2.null)) = some false ∧ toFault.sys.st = .faulted ∧ lineWaits toSend 0 = true ∧
    linkUp (mHead 0 (fun h => { h with st := .active, cfg := some ⟨0, true, 0x40, 1, [0], 2, true⟩ }) toSend) 0 = true ∧
    lineWaits (mHead 0 (fun h => { h with st := .active, cfg := some ⟨0, true, 0x40, 1, [0], 2, true⟩ }) toSend) 0 = true ∧
    lineWaits (hostNames 0x40 (mHead 0 (fun h => { h with st := .active }) toSend)) 0 = true ∧ reaches .rmp (hostNames 0x40 (mHead 0 (fun h => { h with st := .active }) toSend)) = true ∧ (staggerNext toStagger 0).isSome = true ∧ flows toStagger 6 [0, 0] 7 0 (some 0) = true ∧ (trigAt toStagger 0 0).isSome = true ∧
    (trig0 .line [line0 none none] false none).struck = false ∧ (buildNext (toBuild .null) 0).isSome = true ∧ (trigAt (toBuild .null) 0 0).isSome = true ∧
    (buildNext (toBuild .line) 0).isSome = true ∧ (line0 (some []) (some [])).staged.isSome = true ∧ flows (toBuild .line) 7 [0, 0] 7 0 (some 0) = true ∧
    (headPort (toBuild .line) 0).st ≠ .active ∧ (headPort (mHead 0 (fun h => { h with st := .active }) (toBuild .line)) 0).st = .active ∧
    (sendNext toSend 0).isSome = true ∧ (mkFrame onPrint 0 (trig0 .line [] true none) true).null = true ∧ flows toSend 8 [0, 0] 7 0 (some 0) = true ∧
    fit toMap = true := by decide +kernel

/-- A printing device one count short of trigger 0, moving at 2^24 in the observer's unit, with no layer on the grid. -/
def approaching : State :=
  mFir (fun f => { f with geo := { f.geo with segs := [segment0] }, grid := some ⟨0, 0, []⟩ })
    (mEnc 0 (fun e => { e with v := 2 ^ 60 }) (withTrig (trig0 .line [] true none) (onGrid 1 (onDev .printing))))

/-- The outputs of a strike: active for a trigger that has its frame on an ACTIVE port, not for one whose frame was abandoned. -/
def struckBy (t : Trig) : State := withTrig { t with frozen := some (4000, 0) } (mHead 0 (fun h => { h with st := .active }) onPrint)

theorem witness_Strikes : (withTrig (trig0 .line [] true (some (4000, 0))) onPrint).settled = true ∧ (withTrig (trig0 .line [] true (some (4000, 0))) onPrint).par.pendStates = [] ∧
    ((strikeNext (withTrig (trig0 .line [] true (some (4000, 0))) onPrint) 0).map (fun x => (x.1.k, x.2))) = some (0, 4000, 0) ∧ (onDev .ready).sys.st ≠ .loading ∧
    ((strikeNext (struckBy (trig0 .line [] true none)) 0).map (fun x => (x.1.frame.isSome, x.1.built, x.1.sent, x.1.k))) = some (false, true, false, 0) ∧
    ((strikeNext (struckBy { trig0 .line [] true none with frame := some (mkFrame onPrint 0 (trig0 .line [] true none) false), sent := true }) 0).map (fun x => x.1.frame.isSome)) = some true ∧
    (struckBy (trig0 .line [] true none)).settled = true ∧ (struckBy (trig0 .line [] true none)).dbg.halted = false ∧ (onDev .ready).sys.knotDue = none ∧
    approaching.sys.knotDue = none ∧ (mSys (fun y => { y with knotDue := some 0 }) (onDev .ready)).sys.knotDue.isSome = true ∧
    (onDev .ready).fir.lastSample = none ∧ (onDev .ready).pos.waiting = [] ∧ (onDev .ready).fir.grid = none ∧ (onDev .ready).fir.ovs = false ∧ (onDev .ready).par.pendStates = [] ∧
    approaching.settled = true ∧ approaching.fir.grid = some ⟨0, 0, []⟩ ∧ dueAll approaching ⟨0, 0, []⟩ = [] ∧ approaching.fir.stopDue = false ∧ approaching.fir.oldGeos = [] ∧
    geoPorts approaching.fir.geo = [0] ∧ (∀ q : Fin 64, q ≠ 0 → (firPort approaching q).isOpen = false) ∧ approaching.fir.lastSample = none ∧ approaching.pos.waiting = [] ∧
    ((trigAt approaching 0 0).map (fun x => (x.frozen, x.struck))) = some (none, false) ∧
    (match predict 1 65536 (enc approaching 0).x (enc approaching 0).v (enc approaching 0).a with | some tau => decide (tau < 3200) | none => false) = true := by decide +kernel

theorem witness_BankOperations : fit (onDev .ready) = true ∧ (3 : Fin 4).val < bankReqs 2 ∧ (1 : Fin 4).val < bankReqs 6 ∧ badWord (eccOf (wordsOf 0 32) []) = none ∧
    eccOf (wordsOf 0 32) [] = .clean ∧ eccOf (wordsOf 0 32) flip1 = .single 1 ∧ badWord (eccOf (wordsOf 0 32) flip2) = some 0 ∧ badWord (eccOf (wordsOf 4 8) [⟨1, 3, 0, 0⟩]) = some 1 ∧
    inPrint (onDev .ready) = false ∧ inPrint (onDev .printing) = true ∧ fit (onDev .printing) = true ∧ (0 : Fin 4).val < bankReqs 2 ∧
    (∀ k : Fin 32, eccOf (wordsOf (bankSize 2 - 32) (k + 1)) [] = .clean) ∧
    (bankSize 2 - 32) % 1 = 0 ∧ (bankSize 2 - 32) + 32 ≤ bankSize 2 ∧ (bankSize 2 - 4) % 4 = 0 ∧ (bankSize 2 - 4) + 4 ≤ bankSize 2 ∧ (bankSize 2 - 8) % 8 = 0 ∧
    (bankSize 2 - 8) + 8 ≤ bankSize 2 ∧ (List.replicate 32 (0 : Byte)).length ≤ 32 ∧ 1 ≤ [(1 : Byte)].length := by decide +kernel

theorem witness_BankAlignment : fit (onDev .ready) = true ∧ 0 < bankReqs 0 ∧ 2 % 4 ≠ 0 ∧ 4 % 8 ≠ 0 ∧ bankSize 0 < (bankSize 0 - 31) + 32 ∧ bankSize 0 < bankSize 0 + 1 ∧
    mayLog (onDev .ready) Err.bnkAlign 0 (ms 1) = true ∧ mayLog (markLogged Err.bnkAlign 0 (onDev .ready)) Err.bnkAlign 0 (ms 1) = false := by decide +kernel

/-- Channel 0 Online with changes. -/
def onChan (f : MemChan → MemChan) : State := mChan 0 (fun c => f { c with cstate := 0 }) (onDev .ready)

/-- A unit of a write of a whole access, of a part of one, and of a read. -/
def wholeWrite : MemUnit := ⟨0, 0, 64, some ((List.range 64).map (fun i => (i, 1))), false, 0, 1⟩
def partWrite : MemUnit := ⟨0, 0, 64, some [(63, 1)], false, 0, 1⟩
def aRead : MemUnit := ⟨0, 0, 64, none, true, 0, 1⟩

/-- A verification of channel 0 at a bank and trial. -/
def verifying (bank trial : Nat) (f0 f1 : Option Int) : State := onChan (fun c => { c with ver := some ⟨trial, bank, true, true, f0, f1⟩ })

/-- The unit that channel 0 issues next. -/
def issues (s : State) : Option MemUnit := match chanNext s 0 with | .unit u => some u | _ => none

/-- Whether channel 0 refreshes next. -/
def refreshes (s : State) : Bool := match chanNext s 0 with | .refresh _ => true | _ => false

theorem witness_MemoryChannels : fit (onChan id) = true ∧ issues (onChan (fun c => { c with queue := [wholeWrite] })) = some wholeWrite ∧
    issues (onChan (fun c => { c with queue := [partWrite] })) = some partWrite ∧ issues (onChan (fun c => { c with queue := [aRead] })) = some aRead ∧
    flows (onChan (fun c => { c with queue := [aRead] })) 3 [0, 64, 1] 0 0 none = true ∧ 64 ≤ ((List.range 64).map (fun i => (i, (1 : Byte)))).length ∧ refreshes (onChan (fun c => { c with scrubAt := 1 })) = true ∧
    refreshes (onChan (fun c => { c with forced := true, postponed := 1 })) = true ∧
    (chan (onChan (fun c => { c with inflight := [⟨0, 64, [], 1, false, none⟩] })) 0).inflight = [⟨0, 64, [], 1, false, none⟩] ∧
    (chan (onChan (fun c => { c with inflight := [⟨7, 64, [], 1, false, none⟩] })) 0).inflight = [⟨7, 64, [], 1, false, none⟩] ∧
    (chan (onChan (fun c => { c with inflight := [⟨0, 64, [], 1, false, some [(0, 1)]⟩] })) 0).inflight = [⟨0, 64, [], 1, false, some [(0, 1)]⟩] ∧
    (onChan id).mem.frozen = false ∧ chanOnline (onChan id) 0 = true ∧ (chan (onChan (fun c => { c with pulled := 1 })) 0).pulled = 1 ∧
    panicQueued (chan (onChan (fun c => { c with queue := [aRead] })) 0) = true ∧ (chan (onChan (fun c => { c with queue := [aRead], postponed := 127 })) 0).postponed < 128 ∧
    (chan (verifying 14 0 none none) 0).ver.isSome = true ∧ (chan (verifying 15 0 none none) 0).ver = some ⟨0, 15, true, true, none, none⟩ ∧
    (chan (verifying 15 8 none none) 0).ver = some ⟨8, 15, true, true, none, none⟩ ∧ arbWinner (arb (onDev .ready) 4) (fun m => bits (arbCfg (onDev .ready) 4 m) 3 0) (roundReqs (onDev .ready) 4 3) = some 0 ∧
    eccOf 8 [] = .clean ∧ eccOf 8 [⟨7, 1, 0, 0⟩] = .single 1 ∧ badWord (eccOf 8 [⟨7, 0, 3, 0⟩]) = some 7 ∧ badWord (eccOf 8 [⟨0, 0, 0, 1⟩]) = some 0 ∧
    (mMem (fun m => { m with frozen := true }) (onChan id)).mem.frozen = true ∧ (chan (onChan (fun c => { c with queue := [aRead] })) 0).queue ≠ [] ∧ (chan (onChan id) 0).queue = [] ∧
    (chan (onChan id) 0).refDue = 0 ∧ (chan (onChan id) 0).pulled = 0 ∧ panicQueued (chan (onChan id) 0) = false ∧ 
    (arb (mArb 4 (fun a => { a with holder := some 1 }) (onDev .ready)) 4).holder = some 1 ∧ roundReqs (mArb 4 (fun a => { a with holder := some 1 }) (onDev .ready)) 4 1 1 = false ∧
    arbWinner (arb (onDev .ready) 4) (fun m => bits (arbCfg (onDev .ready) 4 m) 3 0) (roundReqs (mArb 4 (fun a => { a with holder := some 1 }) (onDev .ready)) 4 1) = some 0 ∧
    roundReqs (mArb 4 (fun a => { a with holder := some 1 }) (onDev .ready)) 4 3 1 = true ∧
    roundReqs (mMem (fun m => { m with pend := [aRead] }) (onChan id)) 0 0 0 = true ∧
    (mMem (fun m => { m with pend := [aRead], frozen := true }) (onChan id)).mem.frozen = true ∧ (arb (onDev .ready) 11).holder = none ∧ roundReqs (onDev .ready) 4 3 1 = true := by decide +kernel

/-- The device takes a frame and its datagram to a UDP port (R66, R375, R376). -/
def takes (s : State) (rx : Arrival) (port : Nat) : Bool := decide (netMode s rx.port ≠ 0) && rxUdp rx false && (frameBad s rx.port rx.frame).isNone && datagramFor s rx false port

/-- A device that holds one layer, with four slots of the default size. -/
def holding (l : Layer) (d : DevState) : State := mTow (fun t => { t with layers := [l], queue := [7] }) (setReg 0x20100 1 { onDev d with plc := ⟨0xFF, 4⟩ })

/-- The same device without a layer. -/
def serving (d : DevState) : State := setReg 0x20100 1 { onDev d with plc := ⟨0xFF, 4⟩ }

/-- Bodies of an announce of `n` lines, of a fragment of one byte, and messages of the six types for layer 7. -/
def annBody (n depth : Nat) : Bytes := beBytes 4 n ++ beBytes 1 depth ++ [6, 0, 0, 0, 0] ++ beBytes 2 1024 ++ beBytes 2 1 ++ List.replicate 10 0 ++ beBytes 2 0 ++ beBytes 2 16
def announceD : Bytes := towMsg 1 7 (annBody 64 1)
def fragmentD : Bytes := towMsg 2 7 (List.replicate 12 0 ++ beBytes 4 1 ++ [9])
def closeD : Bytes := towMsg 3 7 (beBytes 4 0)
def restartD : Bytes := towMsg 4 7 (List.replicate 8 0)
def releaseD : Bytes := towMsg 5 7 []
def statusD : Bytes := towMsg 6 7 []

/-- A message passes the header, length and body checks. -/
def passes (d : Bytes) : Bool := (towHeaderBad d).isNone && towLengthOk d && (towBodyBad d).isNone

/-- A message of type `ty` with byte `i` of its header changed, checked anew. -/
def altered (ty i : Nat) (v : Byte) : Bytes :=
  let h := ([0x54, 0x57, 1, BitVec.ofNat 8 ty, 0, 16, 0, 0, 0, 0, 0, 7] : Bytes).set i v
  h ++ beBytes 4 (crc32c (h ++ [0, 0, 0, 0])).toNat

theorem witness_TowlineChecks : (serving .ready).settled = true ∧ awake (serving .ready) = true ∧ netMode (serving .ready) 0 ≠ 0 ∧ operational (serving .ready) = true ∧
    towDropCase (List.replicate 15 0) ≠ 0 ∧ towDropCase (towMsg 0x83 0 []) ≠ 0 ∧ towReserved (altered 7 6 0) = true ∧ towHeaderBad (altered 7 6 0) = none ∧
    towReserved (altered 7 2 2) = true ∧ towHeaderBad (altered 7 2 2) = some 2 ∧ towIs 6 (altered 6 7 1) = true ∧ towHeaderBad (altered 6 7 1) = some 7 ∧
    towIs 1 releaseD = false ∧ towIs 1 (altered 1 6 0) = true ∧ towHeaderBad (altered 1 6 0) = none ∧ towLengthOk (altered 1 6 0) = false ∧
    towIs 4 (towMsg 4 7 [0, 0, 0, 0, 32, 0, 0, 0]) = true ∧ towBodyBad (towMsg 4 7 [0, 0, 0, 0, 32, 0, 0, 0]) = some 20 ∧ towBodyBad (towMsg 4 7 [0, 0, 0, 0, 31, 0, 0, 0]) = none ∧
    operational (serving .verifying) = false ∧ awake (serving .verifying) = true ∧ passes statusD = true ∧
    towIs 1 (towMsg 1 7 (annBody 64 4)) = true ∧ passes (towMsg 1 7 (annBody 64 4)) = true ∧ annBad (towMsg 1 7 (annBody 64 4)) = some 20 ∧
    towIs 1 (towMsg 1 7 (annBody 65 1)) = true ∧ passes (towMsg 1 7 (annBody 65 1)) = true ∧ annBad (towMsg 1 7 (annBody 65 1)) = none ∧
    liveLayer (holding layer7 .ready) 7 = some layer7 ∧ layer7.params ≠ (annBody 65 1) ∧ liveLayer (serving .ready) 7 = none ∧
    towIs 2 fragmentD = true ∧ towIs 3 closeD = true ∧ towIs 4 restartD = true ∧ passes fragmentD = true ∧ passes closeD = true ∧ passes restartD = true ∧
    layer7.sess ≠ ⟨false, 0xC0000202, 4000⟩ ∧ layerOf (serving .ready) 7 = none ∧ layerOf (holding layer7 .ready) 7 = some layer7 ∧
    resident { layer7 with st := .released } = false ∧ layerOf (holding { layer7 with st := .released } .ready) 7 = some { layer7 with st := .released } ∧ layer7.sess = peer ∧
    takes (serving .ready) rxTow (towPort (serving .ready)) = true ∧ takes (holding layer7 .ready) rxTow (towPort (holding layer7 .ready)) = true ∧
    takes (serving .verifying) rxTow (towPort (serving .verifying)) = true ∧ rxUdp rxTow false = true ∧
    frameBad (serving .ready) 0 { rxTow.frame with fcs := false } = some .fcs ∧ frameBad (serving .ready) 0 { rxTow.frame with len := 63 } = some .fcs ∧
    frameBad (serving .ready) 0 { rxTow.frame with dst := 5 } = some .addr ∧ frameBad (serving .ready) 0 { rxTow.frame with fragment := true } = some .proto ∧
    dropIndex .proto = some 3 ∧ frameBad (serving .ready) 0 { rxTow.frame with ip := 5 } = none ∧
    datagramFor (serving .ready) { rxTow with frame := { rxTow.frame with ip := 5 } } false (towPort (serving .ready)) = false ∧
    datagramFor (serving .ready) rxRmp false (towPort (serving .ready)) = false := by decide +kernel

/-- Layer 7 while it loads, no block yet, and once it is done. -/
def loading7 : Layer := { layer7 with st := .loading, blocks := [], lastCredit := 8 }
def done7 : Layer := { layer7 with st := .done }

theorem witness_TowlineServed : (serving .ready).settled = true ∧ awake (serving .ready) = true ∧ netMode (serving .ready) 0 ≠ 0 ∧ operational (serving .ready) = true ∧
    towIs 1 announceD = true ∧ passes announceD = true ∧ annBad announceD = none ∧
    annAbsent (mHead 0 (fun h => { h with absent := false }) (serving .ready)) layer7 = none ∧ (serving .ready).plc.slots ≠ 0 ∧ footprint layer7 ≤ slotSize (serving .ready) ∧
    slotHolder (serving .ready) (slotFor (serving .ready) 7) = none ∧ layerBlocks layer7 ≤ dirFree (serving .ready) ∧ liveLayer (serving .ready) 7 = none ∧
    towIs 2 fragmentD = true ∧ passes fragmentD = true ∧ liveLayer (holding loading7 .ready) 7 = some loading7 ∧ layerOf (holding loading7 .ready) 7 = some loading7 ∧
    loading7.sess = peer ∧ gotFseq loading7 0 = false ∧ loading7.closeDone = false ∧ 0 < loading7.ackCum + loading7.lastCredit ∧ stageOpen (holding loading7 .ready) 1 = true ∧
    stripeIdx loading7 0 = some 0 ∧ fragFits loading7 (some 0) 0 0 1 1 = true ∧ 1 ≤ frameSize loading7 0 0 ∧ blockOf loading7 0 0 = none ∧
    flows (holding loading7 .ready) 1 [7, 0] 7 0 none = true ∧ (beAt fragmentD 16 4, beAt fragmentD 20 2, beAt fragmentD 22 2, beAt fragmentD 24 2, beAt fragmentD 28 4) = (0, 0, 0, 0, 1) ∧
    towIs 3 closeD = true ∧ passes closeD = true ∧ missingBlocks { layer7 with st := .loading } = [] ∧ layerBlocks layer7 ≤ presentCount layer7 ∧
    liveLayer (holding { layer7 with st := .loading } .ready) 7 = some { layer7 with st := .loading } ∧ beAt closeD 16 4 ≤ layer7.cum ∧
    towIs 4 restartD = true ∧ passes restartD = true ∧ liveLayer (holding done7 .ready) 7 = some done7 ∧ (holding done7 .ready).sys.st = .ready ∧ done7.st = .done ∧
    towIs 5 releaseD = true ∧ passes releaseD = true ∧ done7.st ≠ .released ∧ towIs 6 statusD = true ∧ passes statusD = true ∧ resident done7 = true ∧
    layerOf (holding { layer7 with ackArmed := true } .ready) (7 : Word).toNat = some { layer7 with ackArmed := true } ∧ towLayer statusD = 7 := by decide +kernel

/-- Its states take the frame; a layer stopped, and one of another session. -/
theorem witness_TowlineServed_frames : takes (serving .ready) rxTow (towPort (serving .ready)) = true ∧ takes (holding layer7 .ready) rxTow (towPort (holding layer7 .ready)) = true ∧
    ({ layer7 with suspended := true } : Layer).suspended = true ∧ layerOf (holding layer7 .ready) 7 = some layer7 ∧ layer7.sess = peer ∧ layer7.sess ≠ ⟨false, 0xC0000202, 4000⟩ := by decide +kernel

/-- A fragment whose writes are done. -/
def fragDone : Unwritten := ⟨7, 0, 0, 160, [9], true, 1, 0⟩

/-- A device with layer 7 whose block is checked, a written fragment, a job waiting, and compressor 0 at work with the rest. -/
def blockIn (b : BState) : State := holding { layer7 with st := .loading, blocks := [⟨0, 0, 160, 160, [0], b⟩] } .ready
def fragWaits : State := mTow (fun t => { t with unwritten := [fragDone] }) (blockIn .checked)
def jobWaits : State := mCmp (fun c => { c with wait := [(7, 0, 0)] }) (blockIn .waiting)
def compressing (drain : Bool) : State :=
  mComp 0 (fun c => { c with job := some (7, 0, 0), draining := drain, hdr := drain, read := 128, raw := List.replicate 128 0 }) (blockIn (.compressing 0))

/-- How compressor 0's work ends hangs on the compressor's output, which the spec leaves free (log 6): one of the three ends always comes. -/
theorem witness_BlocksBecomePresent : fragWaits.settled = true ∧ fragWaits.sys.st ≠ .cold ∧ fragWaits.tow.unwritten.find? (fun u => u.queued && decide (u.left = 0)) = some fragDone ∧
    (layerOf fragWaits 7).isSome = true ∧ (fragWaits.tow.unwritten.erase fragDone).any (fun x => x.layer == 7) = false ∧
    jobWaits.cmp.wait = [(7, 0, 0)] ∧ freeComp jobWaits = some 0 ∧ blockWritten jobWaits (7, 0, 0) = true ∧ (layerOf jobWaits 7).isSome = true ∧ jobWaits.settled = true ∧
    (comp (compressing false) 0).job = some (7, 0, 0) ∧ (compressing false).settled = true ∧ (comp (compressing false) 0).draining = false ∧ (comp (compressing true) 0).draining = true ∧
    (comp (compressing true) 0).left = 0 ∧ (comp (compressing false) 0).left = 0 ∧ (comp (compressing true) 0).hdr = true ∧ (compressing true).sys.st ≠ .faulted ∧
    (onDev .faulted).sys.st = .faulted ∧ (onDev .faulted).settled = true ∧ (chainRun 128 9 [0xFF] 0 0).1 = .drain ∧ (chainRun 0 9 [0xFF] 0 0).1 = .raw ∧
    ((layerOf (compressing false) 7).map (fun l => (blockOf l 0 0).isSome)) = some true := by decide +kernel

/-- A nozzle request of a value under a mask, both in the high words. -/
def asksNozzle (req mask : Word) (s : State) : State := setReg 0x100050 mask (setReg 0x100048 req s)

/-- One change is queued. -/
def changeDue (k : NzlKind) (s : State) : State := mNzl (fun z => { z with queue := [⟨0, k, none, false⟩] }) s

/-- Gate 0 with settings that hold: two drops, a window from 1 to 2, spacing 2, and a slot of its own. -/
def gateSet : State := setReg 0x110114 1 (setReg 0x110110 0x10002 (setReg 0x11010C 0x20000002 (setReg 0x110104 1 (setReg 0x110100 0x80000000 (onDev .ready)))))

/-- Gate 0 at work on a slot. -/
def inSlot (x : GateSlot) : State := mGat 0 (fun g => { g with busy := true, slot := some x }) gateSet

theorem witness_NozzlesAndGates : fit (onDev .ready) = true ∧ nzlReqBad 1 (asksNozzle 0xA0000000 0xE0000000 (onDev .ready)) = some Err.nzlRange ∧
    fit (asksNozzle 0xA0000000 0xE0000000 (onDev .ready)) = true ∧ bit 0 0 = false ∧ isStandby (onPair 2 .ready) = true ∧ nzlReqBad 1 (onPair 2 .ready) = none ∧ fit (onPair 2 .ready) = true ∧
    bit 1 0 = true ∧ isStandby (onDev .ready) = false ∧ nzlReqBad 1 (onDev .ready) = none ∧ nextLc (onDev .ready) (nozPort 0) = none ∧ (onDev .ready).sys.st ≠ .faulted ∧
    fit (onGrid 5 (onDev .printing)) = true ∧ nextLc (onGrid 5 (onDev .printing)) (nozPort 0) = some 5 ∧ nzlReqBad 1 (onGrid 5 (onDev .printing)) = none ∧ bit 3 1 = true ∧ bit 3 0 = true ∧
    (mNzl (fun z => { z with hostPrev := some (0, 9) }) (onGrid 5 (onDev .printing))).nzl.hostPrev = some (nozPort 0, 9) ∧
    nzDue (changeDue .suspect (onDev .ready)) = some ⟨0, .suspect, none, false⟩ ∧ (nzNext (onDev .ready) .suspect 0).isSome = true ∧
    nzDue (changeDue (.host (5#64 <<< 61) (7#64 <<< 61)) (onDev .ready)) = some ⟨0, .host (5#64 <<< 61) (7#64 <<< 61), none, false⟩ ∧
    nzNext (onDev .ready) (.host (5#64 <<< 61) (7#64 <<< 61)) 0 = none ∧ fit gateSet = true ∧ gateAccepts gateSet 0 = true ∧ gateAccepts (onDev .ready) 0 = false ∧
    (gate (onDev .ready) 0).busy = false ∧ (gate (inSlot ⟨0, true, 0, [none, none]⟩) 0).busy = true ∧ (gate (inSlot ⟨0, true, 0, [none, none]⟩) 0).slot = some ⟨0, true, 0, [none, none]⟩ ∧
    fit (inSlot ⟨0, true, 0, [none, none]⟩) = true ∧ gateDrops (inSlot ⟨0, true, 0, [none, none]⟩) 0 = 2 ∧
    (headPort (inSlot ⟨0, true, 0, [none, none]⟩) (nozPort 0)).st ≠ .active ∧ (headPort (mHead 0 (fun h => { h with st := .active }) (inSlot ⟨0, true, 0, [none, none]⟩)) (nozPort 0)).st = .active ∧
    (gate (mGat 0 (fun g => { g with busy := true, waitGrid := true }) gateSet) 0).waitGrid = true ∧ gateGridOpen (mGat 0 (fun g => { g with busy := true, waitGrid := true }) gateSet) 0 = false ∧
    gateKind gateSet 0 = 0 ∧ (gate gateSet 0).queue = [] ∧ (gate (mGat 0 (fun g => { g with queue := [3] }) gateSet) 0).queue = [3] ∧
    gateKind (setReg 0x11011C 0x40000000 gateSet) 0 = 1 ∧ gateTodo (setReg 0x11011C 0x40000000 gateSet) 0 = [] ∧
    gateTodo (mFir (fun f => { f with geo := { f.geo with segs := [segment0] } }) (setReg 0x110124 3 (setReg 0x110120 3 (setReg 0x11011C 0x40000000 gateSet)))) 0 = [3] := by decide +kernel

/-! Inspection. -/

/-- A device with camera port 0 and context 0 enabled, frames of a trigger tag when it is asked for. -/
def camOn (tags : Bool) : State := { setReg 0x130100 0x80000000 (onDev .ready) with act := if tags then [(0x141000, 0x80000000), (0x141034, 0x80000000)] else [(0x141000, 0x80000000)] }

/-- A frame of two lines of four pixels of eight bits. -/
def frame0 (isOpen : Bool) (pos : Nat) : CamFrame where
  key := 0
  fnum := 0
  csifn := 0
  isOpen := isOpen
  regs := [0x80000000, 0x20004] ++ List.replicate 16 0
  epoch := 0
  shuf := 0
  tag := some 0
  mapInv := false
  badLine := false
  short := false
  long := false
  incomplete := false
  pos := pos
  used := []
  pixels := 0
  lost := 0
  hist := []
  zones := []
  zoneCnt := []
  prof := []
  profCnt := []
  half := []
  streakDone := false
  reports := 0

/-- Context 0 with a frame, and with the stripe of its first line granted. -/
def inFrame (f : CamFrame) : State := mCtx 0 (fun k => { k with frames := [f] }) (camOn false)
def stripe0 : CamStripe := ⟨0, 0, 0, 0, 4, [1, 2, 3, 4]⟩
def granted : State := mArb 11 (fun a => { a with holder := some 0 }) (mCam 0 (fun p => { p with buf := [stripe0] }) (inFrame (frame0 true 1)))

theorem witness_Inspection : fit (camOn false) = true ∧ operational (camOn false) = true ∧ fit (onDev .ready) = true ∧ camPortEn (onDev .ready) 0 = false ∧ camPortEn (camOn false) 0 = true ∧
    ctxEn (camOn false) 0 = true ∧ camPortEn (setReg 0x130100 0x80000000 (onDev .ready)) 0 = true ∧ ctxEn (setReg 0x130100 0x80000000 (onDev .ready)) 0 = false ∧
    openFrame (setReg 0x130100 0x80000000 (onDev .ready)) 0 = none ∧ openFrame (camOn true) 0 = none ∧ bit (nth (ctxRegs (camOn true) 0) 13 0) 31 = true ∧
    openFrame (inFrame (frame0 true 0)) 0 = some (frame0 true 0) ∧ (camCtx (inFrame (frame0 true 0)) 0).frames.find? (fun x => x.key == 0) = some (frame0 true 0) ∧
    fit (inFrame (frame0 true 0)) = true ∧ (frame0 true 1).pos < frHeight (frame0 true 1) ∧ ¬ (frame0 true 2).pos < frHeight (frame0 true 2) ∧
    pixBytes (frFmt (frame0 true 0)) (frWidth (frame0 true 0)) = 4 ∧
    bufUse (camPort (inFrame (frame0 true 0)) 0) + sumN ((lineStripes 0 (frame0 true 0) 0 [1, 2, 3, 4]).map (fun x => x.data.length)) ≤ 65536 ∧
    stripeNext granted = some stripe0 ∧ stripe0.ctx = (0 : Ctx).val ∧ fit granted = true ∧ frBayer (frame0 true 1) = false ∧
    frameReady (inFrame (frame0 false 2)) 0 = some (frame0 false 2) ∧ streakRuns (frame0 false 2) = true ∧ (frame0 false 2).streakDone = false ∧
    streakRuns { frame0 false 2 with short := true } = false ∧ frameReady (inFrame { frame0 false 2 with short := true }) 0 = some { frame0 false 2 with short := true } ∧
    (onDev .ready).sys.knotDue = none ∧ (mSys (fun y => { y with knotDue := some 0 }) (camOn false)).sys.knotDue.isSome = true ∧ lineType 0x2A = true ∧ lineType 0x24 = true ∧
    fmtType (frFmt (frame0 true 0)) = 0x2A ∧ fmtType (bits (actVal (camOn false) (base 20 + 0x1000)) 27 24) = 0x2A ∧ fmtType (frFmt (frame0 true 0)) ≠ 0x24 ∧
    openFrame (camOn false) 0 = none ∧ camIgnorable (.packet 0 0x12) = true ∧ camIgnorable (.packet 2 0x2A) = true ∧ camIgnorable (.packet 1 0x2B) = false ∧
    camIgnorable (.lanes true false) = true ∧ crc16 [1, 2, 3, 4] ≠ crc16 [1, 2, 3, 5] ∧ (camCtx (inFrame (frame0 true 0)) 0).trigs = [] ∧
    (camCtx (inFrame (frame0 false 2)) 0).held < 8 ∧ 8 ≤ (camCtx (mCtx 0 (fun k => { k with held := 8 }) (inFrame (frame0 false 2))) 0).held := by decide +kernel

/-! Axes. -/

/-- Axis 0 with changes. -/
def onAxis (f : AxisState → AxisState) : State := mAxs 0 f (onDev .ready)

/-- Axis 0 of a mode in which nothing else is in force, its registers as written and as taken. -/
def steadyIn (mode : Word) (f : AxisState → AxisState) : State :=
  mAxs 0 (fun k => f { k with mode := mode.toNat, rwl := if mode = 0 then [] else [(0x16012C, mode)] }) (setReg 0x16012C mode (onDev .ready))

/-- What a profile update with nothing else in force asks. -/
def steadyAt (s : State) (mode : Nat) : Bool :=
  let k := axis s 0
  operational s && !(bit (actVal s 0x100020) 31 && decide (bits (actVal s 0x100020) 30 29 = 0)) && decide (k.rwl = axsSlice 0 s.regs) && decide (bits (axL s 0 0x2C) 1 0 = k.mode)
    && decide (bits (axL s 0 0x2C) 5 4 = k.src) && !k.stallPend && !k.knotPend && !k.gatArmed && k.limStop.isNone && decide (k.hardStop = 0) && !k.fstop && decide (k.vHold = 0)
    && decide (k.v = 0) && decide (k.mode = mode) && s.settled

/-- Axis 0 in a drive state of its phase A, with BLANK 10, HYST 4 and TOFFMAX 1. -/
def driving (d : Nat) (f : ChopPhase → ChopPhase) : State :=
  setReg 0x160100 0x80000A00 (mAxs 0 (fun k => { k with en := true, rwl := [(0x160108, 0x40100)], phA := f { k.phA with drive := d } }) (setReg 0x160108 0x40100 (onDev .ready)))

theorem witness_AxisEvents : steadyAt (steadyIn 0 id) 0 = true ∧ steadyAt (steadyIn 1 id) 1 = true ∧ steadyAt (steadyIn 2 id) 2 = true ∧
    limitOn (steadyIn 0 id) 0 0 = false ∧ (axTarget (steadyIn 0 (fun k => { k with p := 65536 })) 0 * 65536 - 65536).natAbs ≤ 65536 ∧
    steadyAt (steadyIn 0 (fun k => { k with p := 65536 })) 0 = true ∧ limitOn (steadyIn 1 id) 0 1 = false ∧
    (axis (onAxis (fun k => { k with goal := 1 })) 0).pos ≠ (axis (onAxis (fun k => { k with goal := 1 })) 0).goal ∧ operational (onAxis id) = true ∧
    bit (actVal (onAxis id) 0x100020) 31 = false ∧ axDrives (onAxis (fun k => { k with en := true })) 0 = true ∧
    (phaseOf (axis (onAxis (fun k => { k with en := true, phA := { k.phA with drive := 2 } })) 0) false).drive = 2 ∧
    (phaseOf (axis (onAxis (fun k => { k with en := true, phB := { k.phB with drive := 4 } })) 0) true).drive = 4 ∧
    8 ≤ (axis (onAxis (fun k => { k with phA := { k.phA with shorts := 8 } })) 0).phA.shorts ∧ fit (onAxis (fun k => { k with phA := { k.phA with shorts := 8 } })) = true ∧
    bit (axReg (setReg 0x160100 0x08000000 (onAxis (fun k => { k with v := 1 }))) 0 0) 27 = true ∧ 0 < (axis (setReg 0x160100 0x08000000 (onAxis (fun k => { k with v := 1 }))) 0).v ∧
    (axis (onAxis (fun k => { k with mode := 2, v := 1 })) 0).mode = 2 ∧ (axis (onAxis id) 0).mode ≠ 2 ∧ ¬ bit (axReg (onAxis id) 0 0) 27 = true ∧
    (axis (onAxis id) 0).v = 0 ∧ (axis (onAxis id) 0).holdCur = false ∧ (axis (onAxis (fun k => { k with posValid := true })) 0).posValid = true ∧
    (axis (onAxis (fun k => { k with posValid := true })) 0).standstill = false ∧
    axDrives (driving 2 id) 0 = true ∧ (driving 2 id).settled = true ∧ bits (axReg (driving 2 id) 0 0) 15 8 = 10 ∧ bits (axL (driving 2 id) 0 8) 23 16 = 4 ∧
    bits (axL (driving 2 id) 0 8) 15 8 = 1 ∧ clampInt 0 1023 ((phT (driving 2 id) 0 false : Int) + 0 + 2) = 2 ∧ ¬ (clampInt 0 1023 ((phT (driving 2 id) 0 false : Int) + 0 + 2) ≤ 1) ∧
    5 < clampInt 0 1023 ((phT (driving 4 (fun x => { x with cur := 1023 })) 0 false : Int) + 0 - 2) ∧ (phaseOf (axis (driving 4 id) 0) false).drive = 4 ∧ axT (driving 4 id) 0 false = 0 := by decide +kernel

theorem witness_AxisRegisters : fit (onDev .ready) = true ∧ (stores (axsAddr 3 0x24) 5 (onDev .ready)).isSome = true ∧ (stores (axsAddr 3 0x28) 5 (onDev .ready)).isSome = true ∧
    (stores (axsAddr 3 0x2C) 0 (onDev .ready)).isSome = true ∧ (stores (axsAddr 3 0x54) 5 (onDev .ready)).isSome = true ∧ (stores (axsAddr 3 0x44) 0 (onDev .ready)).isSome = true ∧
    sg (rcDiff 0 (sgn 48 ((0 : Nat) + 2 ^ 32 * (0 : Nat)))) = 0 ∧ (stores (axsAddr 3 0x44) 1 (onDev .ready)).isSome = true ∧
    sg (rcDiff 0 (sgn 48 ((0 : Nat) + 2 ^ 32 * bits 1 15 0))) ≠ 0 ∧ stores (axsAddr 0 0x2C) 3 (onDev .ready) = none ∧
    bits 0x01FF0000 25 16 ≠ 512 ∧ bits 0x02000000 25 16 = 512 ∧ bits 0x00000200 9 0 = 512 := by decide +kernel

/-- Chain 0 with a frame under way, with an update of it asked for, and its enable in force. -/
def chainBusy : State := mChain 0 (fun l => { l with busy := true, sent := true, toSend := [[1, 2]] }) (onDev .ready)
def swapAsked (d : DevState) : State := mLmp (fun l => { l with swapPend := true, inForce := [(0x170200, 0x80000000)] }) (onDev d)

theorem witness_LampsShowAndSwap : fit (onDev .ready) = true ∧ operational (onDev .ready) = true ∧ (onDev .held).sys.st = .held ∧ (swapAsked .ready).lmp.swapPend = true ∧
    (swapAsked .ready).settled = true ∧ bit (lbCtl (swapAsked .ready) 0) 31 = true ∧ (lbChain (swapAsked .ready) 0).busy = false ∧ (swapAsked .ready).sys.st ≠ .held ∧
    (lbChain chainBusy 0).sent = true ∧ (lbChain chainBusy 0).toSend = [[1, 2]] ∧ some (0, [1, 2]) ≠ some (0, ([1, 3] : Bytes)) ∧ bits (lbCtl chainBusy 0) 20 16 + 1 + 2 < 99 ∧ operational chainBusy = true ∧ (lbChain chainBusy 0).echoed = false ∧ chainBusy.settled = true ∧
    bit 0 0 = false ∧ bit 1 0 = true ∧ (onDev .ready).lmp.swapPend = false ∧ mayLog (swapAsked .ready) Err.swapOvr 0 (ms 1) = true ∧ fit (swapAsked .ready) = true ∧
    bit (lbCtl (onDev .ready) 0) 31 = false ∧ (lbChain (swapAsked .ready) 0).toSend = [] ∧ (lbChain (swapAsked .ready) 0).sent = false := by decide +kernel

/-- Group 0 of the fire-edge generators with changes, and a rotation that is allowed. -/
def group0 (f : FegGroup → FegGroup) : State := mGroup 0 f (setReg 0x190000 0x80000000 (mFeg 64 (fun g => { g with measured := true }) (onDev .ready)))

theorem witness_CalibrationRuns : (group0 id).settled = true ∧ (group0 id).sys.st ≠ .cold ∧ bit (regVal (group0 id) 0x190000) 31 = true ∧ operational (group0 id) = true ∧
    (fegGroup (group0 id) 0).phase = 0 ∧ (fegGroup (group0 id) 0).stopped = false ∧ (feg (group0 id) 64).measured = true ∧
    nextLc (group0 id) (fegGroup (group0 id) 0).port = none ∧ (fegGroup (group0 (fun k => { k with phase := 1 })) 0).phase = 1 ∧ (fegGroup (group0 (fun k => { k with phase := 4 })) 0).phase = 4 ∧
    6 < (7 : Int).natAbs ∧ (-6 : Int).natAbs ≤ 6 ∧ (fegGroup (group0 (fun k => { k with phase := 1, matches_ := 14 })) 0).matches_ < 15 ∧
    15 ≤ (fegGroup (group0 (fun k => { k with phase := 1, matches_ := 15 })) 0).matches_ ∧ (List.replicate 20 125).length = 20 ∧
    nextLc (group0 id) (fegGroup (group0 (fun k => { k with phase := 4 })) 0).port = none ∧ (feg (onDev .ready) 64).state ≠ 3 ∧ (onDev .verifying).err.fatalHeld = false ∧
    fegMeasuring (onDev .verifying) 67 = true ∧ fegMeasuring (onDev .ready) 64 = true ∧ fegMeasuring (group0 (fun k => { k with phase := 3, port := 5 })) 5 = true ∧
    (group0 (fun k => { k with phase := 3, port := 5 })).err.fatalHeld = false ∧ (feg (group0 (fun k => { k with phase := 3, port := 5 })) 64).state ≠ 3 ∧
    (fegGroup (group0 (fun k => { k with phase := 3, port := 5 })) 0).phase ≠ 5 ∧ (feg (mFeg 64 (fun g => { g with state := 3 }) (group0 (fun k => { k with phase := 3, port := 5 }))) 64).state = 3 ∧
    fegMeasuring (mFeg 64 (fun g => { g with state := 3 }) (group0 (fun k => { k with phase := 3, port := 5 }))) 5 = true ∧
    fit (onDev .ready) = true ∧ running (onDev .ready) = true ∧ cmpIdle (onDev .ready) 0 = true ∧ cmpIdle (onDev .ready) 9 = true ∧ (cmpCal (onDev .ready) 9).measuring = false ∧
    (cmpCal (mCmpCal 9 (fun q => { q with measuring := true }) (onDev .ready)) 9).measuring = true ∧ (-31 : Int).natAbs ≤ 31 ∧
    ([7, -3, 3, 20] : List Int).length = 4 ∧ (∀ j : Fin 4, (nth [7, -3, 3, 20] 1 0 : Int).natAbs ≤ (nth [7, -3, 3, 20] j 0 : Int).natAbs) ∧ (cmpCal (onDev .ready) 9).valid = false ∧
    (∀ j : Fin 4, 31 < (nth [32, -32, 40, 99] j 0 : Int).natAbs) ∧ (cmpCal (mCmpCal 9 (fun q => { q with valid := true, stage := 2 }) (onDev .ready)) 9).stage = 2 ∧
    slewOpen (mCmpCal 9 (fun q => { q with ofs := { q.ofs with goal := 3 } }) (onDev .ready)) (.comparator 9) = true ∧
    slewOpen (mChan 0 (fun c => { c with goal := [3] }) (onDev .ready)) (.dram 0 0) = true ∧ 0 < (chan (mChan 0 (fun c => { c with goal := [3] }) (onDev .ready)) 0).serv.length := by decide +kernel

theorem choices_ne_nil (k : Nat) (l m : List Nat) (h : m ∈ choices (k + 1) l) : m ≠ [] := by
  induction l with
  | nil => simp [choices] at h
  | cons x r ih =>
    simp only [choices, List.mem_append, List.mem_map] at h
    rcases h with ⟨y, -, rfl⟩ | h
    · simp
    · exact ih h

/-- A generator whose elements are all of 125 ps has a tap map that fits. -/
theorem witness_CalibrationRuns_fits : (fegResult ⟨List.replicate 20 125, 0⟩).isSome = true := by
  have e : List.range 16 ∈ tapMaps := by
    unfold tapMaps
    have c : ∀ (n : Nat) (l r : List Nat), l.length = n → l ∈ choices n (l ++ r) := by
      intro n
      induction n with
      | zero => intro l r h; simp [List.length_eq_zero_iff.1 h, choices]
      | succ n ih =>
        intro l r h
        cases l with
        | nil => simp at h
        | cons a l => simp [choices, ih l r (by simpa using h)]
    exact c 16 (List.range 16) [16, 17, 18, 19] rfl
  have h : tapMaps.any (fun m => trimFits 0 (tapErrs (List.replicate 20 125) 1 0 m)) = true :=
    List.any_eq_true.2 ⟨_, e, by decide +kernel⟩
  unfold fegResult
  rw [if_pos h]
  rfl

/-- A generator whose edges all come far too late has no tap map that fits: its measurement fails (R443). -/
theorem witness_CalibrationRuns_fails (m : List Nat) (h : m ∈ tapMaps) : trimFits 10000 (tapErrs (List.replicate 20 125) 1 0 m) = false := by
  obtain ⟨x, r, rfl⟩ := List.exists_cons_of_ne_nil (choices_ne_nil 15 _ m h)
  simp only [trimFits, edgeErrs, tapErrs, List.any_eq_false, List.map_cons, List.all_cons, Bool.and_eq_true, decide_eq_true_eq, not_and]
  intro f _ k
  omega

/-- The Waypost port with its register selected. -/
def onPort (d : DevState) (f : DbgState → DbgState) : State := mDbg (fun g => f { g with ir := 0x10 }) (onDev d)

/-- A freeze of the memories, with channel 0 Online. -/
def frozen : State := mMem (fun m => { m with frozen := true }) (mChan 0 (fun c => { c with cstate := 0 }) (onPort .faulted id))

theorem witness_WaypostAndCapture : (onPort .ready id).settled = true ∧ (onPort .ready id).canon = true ∧ (onPort .ready id).sys.st ≠ .cold ∧ (onPort .ready id).dbg.ir = 0x10 ∧
    (onPort .ready id).tow.unwritten = [] ∧ (onPort .ready (fun g => { g with accTag := some 5 })).dbg.accTag.isSome = true ∧ (onPort .ready id).dbg.accTag = none ∧
    7 ≤ (15 : BitVec 4).toNat ∧ (2 : Word).toNat % 4 ≠ 0 ∧ (0x1CFFFC : Word).toNat < 0x1D0000 ∧ (0x1CFFFC : Word).toNat % 4 = 0 ∧
    (7 : Fin 16).val = (6 : Fin 7).val + 1 ∧ (0x7FFFC : Word).toNat + 4 ≤ bankSize 6 ∧ (∀ n : Fin 16, eccOf n [] = .clean) ∧ inPrint (onPort .ready id) = false ∧
    inPrint (onPort .held (fun g => { g with halted := true })) = true ∧ (onPort .held (fun g => { g with halted := true })).dbg.halted = true ∧
    (onPort .held id).dbg.halted = false ∧ (15 : Fin 16).val = (7 : Chan).val + 8 ∧ wpDramBad 0 0xFFFFFFFC (onPort .ready id) = true ∧
    wpDramBad 0 0 (onPort .ready id) = false ∧ (onPort .ready id).mem.frozen = false ∧ wpDramBad 0 0 frozen = false ∧ frozen.mem.frozen = true ∧ (0 : Word).toNat < chanData frozen ∧
    (onPort .ready (fun g => { g with stages := 0x80 })).dbg.stages.getLsbD (bits 0x107 2 0) = true ∧ bits 0x107 15 8 ≠ 0 ∧ bits 0x07 15 8 = 0 ∧
    (onPort .ready id).dbg.stages.getLsbD (bits 0x107 2 0) = false ∧ capOk (onPort .faulted id) = true ∧ capOk (onPort .ready (fun g => { g with halted := true })) = true ∧
    capOk (onPort .ready id) = false ∧ fit (onPort .ready id) = true ∧ reaches .waypost (onPort .faulted id) = true ∧
    (mCap (fun c => { c with busy := true }) (onPort .faulted id)).cap.busy = true := by decide +kernel

/-- A port with changes, enabled. -/
def onNet (f : NetPortState → NetPortState) (d : DevState) : State := mNet 0 f (setReg 0x20100 1 (onDev d))

/-- A resolution under way. -/
def asking4 (sent : Nat) : Resolving := ⟨false, 0xC0000201, sent, peer, 45211, 0, [1]⟩

theorem witness_NetworkPorts : (onNet id .ready).settled = true ∧ awake (onNet id .ready) = true ∧ netMode (onNet id .ready) 0 ≠ 0 ∧ (netPort (onNet id .ready) 0).up = false ∧
    (netPort (onNet (fun p => { p with up := true }) .printing) 0).up = true ∧ (onNet (fun p => { p with up := true }) .printing).settled = true ∧
    (∀ n : NetPort, n ≠ 0 → (netPort (onNet (fun p => { p with up := true }) .printing) n).up = false) ∧ (onNet (fun p => { p with up := true }) .printing).err.fatalHeld = false ∧
    (onNet (fun p => { p with up := true }) .printing).err.faults.length < 255 ∧ ownAddr (netIdPort (onNet id .ready) 0) false 0xC0000210 = true ∧ ownAddr (netIdPort (onNet id .ready) 0) false 0xC0000211 = false ∧
    (netPort (onNet id .ready) 0).cache.length ≤ 32 ∧ ((netPort (onNet id .ready) 0).echoTimes.filter (fun t => decide (0 < t + ms 1000))).length < 100 ∧
    100 ≤ ((netPort (onNet (fun p => { p with echoTimes := List.replicate 100 0 }) .ready) 0).echoTimes.filter (fun t => decide (0 < t + ms 1000))).length ∧
    netMode (setReg 0x20100 0 (onDev .ready)) 0 = 0 ∧ (netPort (onNet (fun p => { p with resolving := [asking4 2] }) .ready) 0).resolving = [asking4 2] ∧ (asking4 2).sent < 3 ∧ 3 ≤ (asking4 3).sent ∧
    (netPort (onNet (fun p => { p with cache := [⟨false, 0xC0000201, 1, 0⟩] }) .ready) 0).cache = [⟨false, 0xC0000201, 1, 0⟩] := by decide +kernel

/-- Why the MAC discards a frame, and a good frame with an IPv4 packet. -/
def whyNot (f : Frame) : Option NetDrop := frameBad (onNet id .ready) 0 f
def ip4 : Frame := frameOf .ipv4 none

/-- Its clauses about frames: one of each kind, with the reason for which the MAC discards it, if any (R375, R376). -/
theorem witness_NetworkPorts_frames :
    whyNot { ip4 with fcs := false } = some .fcs ∧ whyNot { ip4 with len := 63 } = some .fcs ∧ whyNot { ip4 with len := 9019 } = some .long ∧ whyNot { ip4 with len := 9018 } = none ∧
    whyNot { ip4 with len := 9022, vids := [7] } = some .vlan ∧ whyNot { ip4 with len := 9023, vids := [7] } = some .long ∧ whyNot { ip4 with control := true } = some .pause ∧
    whyNot { ip4 with dst := 5 } = some .addr ∧ addrTaken (onNet id .ready) 0 { ip4 with dst := 5 } = false ∧ addrTaken (onNet id .ready) 0 ip4 = true ∧
    whyNot { ip4 with vids := [7] } = some .vlan ∧ whyNot { ip4 with ether := .other } = some .proto ∧ whyNot { ip4 with fragment := true } = some .proto ∧
    whyNot { ip4 with sums := false } = some .proto ∧ whyNot { ip4 with udp := some 7 } = some .proto ∧ whyNot ip4 = none ∧ whyNot (frameOf .arp none) = none ∧ whyNot (frameOf .ptp none) = none ∧
    (netIdPort (onNet id .ready) 0).vid = 0 ∧ rxNeigh ⟨0, frameOf .arp none⟩ false = true ∧ rxIcmp ⟨0, ip4⟩ false ip4.src = true ∧
    ownAddr (netIdPort (onNet id .ready) 0) false ip4.ip = true ∧ ownAddr (netIdPort (onNet id .ready) 0) false { ip4 with ip := 5 }.ip = false ∧ whyNot { ip4 with ip := 5 } = none ∧
    frameBad (setReg 0x20100 0 (onDev .ready)) 0 { ip4 with fcs := false } ≠ none := by decide +kernel

/-- Domain 0 enabled on port 0 over layer 2, end to end or, with `peer`, peer to peer, with changes. -/
def onPtp (p2p : Bool) (f : PtpDom → PtpDom) : State := mDom 0 f (setReg 0x30100 (if p2p then 0xC4000000 else 0x84000000) (setReg 0x20100 1 (onDev .ready)))

/-- A foreign master 0 on port 0. -/
def master0 : Foreign := ⟨0, 0, 2, [], 128, 6, 0, 0, 128, 0, 0, 0, 0⟩

/-- A message whose requester is the device's port 0. -/
def asked (ty : Nat) (flags : Byte) : Bytes := ((ptpDatagram ty 54).take 44 ++ beBytes 10 (0xFFFE * 2 ^ 40 + 1)).set 6 flags

/-- An exchange that waits for its answer. -/
def waiting0 (fup : Bool) : PendDelay := ⟨0, 0, 0, 0, 0, 0, fup⟩

/-- Domain 0 follows the master with changes. -/
def following (f : PtpDom → PtpDom) : State := onPtp false (fun m => f { m with master := some (0, 0), foreign := [master0] })

/-- The offset that a Sync of time 0 gives. -/
def offset0 (s : State) : Int := rxStamp s 0 0 - 0 - (dom s 0).d - 0

theorem witness_PtpMessages : (following id).settled = true ∧ awake (following id) = true ∧ netMode (following id) 0 ≠ 0 ∧ ptpIs 11 (ptpDatagram 11 64) = true ∧
    ptpDomains (onDev .ready) 0 .l2 (ptpDatagram 11 64) = [] ∧ netMode (setReg 0x20100 1 (onDev .ready)) 0 ≠ 0 ∧ ptpDomains (setReg 0x20100 1 (onDev .ready)) 0 .l2 (ptpDatagram 0 44) = [] ∧
    ptpDomains (following id) 0 .l2 (ptpDatagram 11 64) = [(0 : Dom).val] ∧ ptpDomains (following id) 0 .l2 (ptpDatagram 1 44) = [0] ∧ ptpType (ptpDatagram 1 44) = 1 ∧
    ptpType (ptpDatagram 12 44) = 12 ∧ ptpDomains (following id) 0 .l2 (ptpDatagram 12 44) = [0] ∧ selectedMaster (dom (onPtp false id) 0) ≠ some (ptpSource (ptpDatagram 0 44), 0) ∧
    ptpIs 0 (ptpDatagram 0 44) = true ∧ selectedMaster (dom (following id) 0) = some (ptpSource (ptpDatagram 0 44), (0 : NetPort).val) ∧ ptpTwoStep (ptpDatagram 0 44) = false ∧
    ptpTwoStep ((ptpDatagram 0 44).set 6 2) = true ∧ ptpIs 0 ((ptpDatagram 0 44).set 6 2) = true ∧ ptpDomains (following id) 0 .l2 ((ptpDatagram 0 44).set 6 2) = [0] ∧
    (offset0 (following id)).natAbs < 2 ^ 63 ∧ ptpIs 8 (ptpDatagram 8 44) = true ∧ ptpDomains (following id) 0 .l2 (ptpDatagram 8 44) = [0] ∧
    (dom (following (fun m => { m with pendSync := some ⟨0, 0, 0, 0, 0⟩ })) 0).pendSync = some ⟨ptpSeq (ptpDatagram 8 44), 0, 0, 0, (0 : NetPort).val⟩ ∧
    ptpIs 9 (asked 9 0) = true ∧ ptpDomains (following id) 0 .l2 (asked 9 0) = [0] ∧ ptpRequester (asked 9 0) = portIdentity (following id) 0 ∧ ptpRequester (ptpDatagram 9 54) ≠ portIdentity (following id) 0 ∧
    (dom (following (fun m => { m with pendReq := some (waiting0 false), sync := some 4 })) 0).pendReq = some (waiting0 false) ∧ (dom (following (fun m => { m with pendReq := some (waiting0 false), sync := some 4 })) 0).sync = some 4 ∧
    0 ≤ ((4 : Int) + (ptpTime (asked 9 0) - 0) - ptpCorr (asked 9 0)) / 2 ∧ ((-4 : Int) + (ptpTime (asked 9 0) - 0) - ptpCorr (asked 9 0)) / 2 < 0 ∧
    ptpIs 2 (ptpDatagram 2 54) = true ∧ bit (regVal (onPtp false id) 0x30100) 30 = false ∧ bit (regVal (onPtp true id) 0x30100) 30 = true ∧ ptpDomains (onPtp true id) 0 .l2 (ptpDatagram 2 54) = [0] ∧
    vget (dom (onPtp true (fun m => { m with pendPeer := Vector.replicate 2 (some (waiting0 false)) })) 0).pendPeer 0 none = some (waiting0 false) ∧ ptpIs 3 (asked 3 0) = true ∧ ptpIs 3 (asked 3 2) = true ∧
    ptpTwoStep (asked 3 2) = true ∧ ptpTwoStep (asked 3 0) = false ∧ ptpRequester (asked 3 0) = portIdentity (onPtp true id) 0 ∧ ptpDomains (onPtp true id) 0 .l2 (asked 3 0) = [0] ∧
    ptpIs 10 (asked 10 0) = true ∧ (waiting0 true).waitFup = true ∧ ptpDomains (onPtp true id) 0 .l2 (asked 10 0) = [0] ∧ vget (dom (onPtp true id) 0).pendPeer 0 none = none := by decide +kernel

/-- The frames that carry its messages. -/
theorem witness_PtpMessages_frames : frameBad (following id) 0 rxL2.frame = none ∧ rxPtp rxL2 .l2 = true ∧ netMode (following id) rxL2.port ≠ 0 ∧ frameBad (onPtp true id) 0 rxL2.frame = none ∧
    frameBad (onDev .ready) 0 (toUdp 319).frame = none ∧ rxPtp (toUdp 319) .ipv4 = true ∧ (toUdp 319).frame.udp = some (if ptpType (ptpDatagram 0 44) < 4 then 319 else 320) := by decide +kernel

theorem witness_PtpTimeouts : (following id).settled = true ∧ (following id).sys.st ≠ .cold ∧ (regVal (following id) 0x30100).getLsbD 31 = true ∧ (regVal (following id) 0x30100).getLsbD 30 = false ∧
    selectedMaster (dom (following id) 0) = some (0, 0) ∧ (regVal (onPtp true id) 0x30100).getLsbD 30 = true ∧ (regVal (onPtp true id) 0x30100).getLsbD 31 = true ∧
    (dom (following (fun m => { m with pendSync := some ⟨0, 0, 0, 0, 0⟩ })) 0).pendSync.isSome = true ∧ (dom (following id) 0).foreign[(0 : Fin 4).val]? = some master0 ∧
    (dom (following (fun m => { m with servo := .track })) 0).servo = .track ∧ (dom (following (fun m => { m with servo := .acquire })) 0).servo = .acquire ∧
    (dom (following (fun m => { m with servo := .holdover })) 0).servo = .holdover ∧ (dom (following (fun m => { m with servo := .track })) 0).master = some (master0.ident, master0.port) ∧
    (dom (onPtp false (fun m => { m with foreign := [master0] })) 0).master ≠ some (master0.ident, master0.port) ∧ (following id).err.faults.length < 255 ∧ (following id).err.fatalHeld = false ∧
    reaches .rmp (following id) = true ∧ (stores 0x30000 0 (following id)).isSome = true ∧ (stores 0x30000 1 (following id)).isSome = true ∧ (1 : Dom).val = bits 1 0 0 ∧ (1 : Dom).val ≠ (following id).ptp.sel ∧
    (dom (following id) 0).reqAt = none ∧ (dom (following (fun m => { m with reqAt := some 0 })) 0).reqAt = some 0 ∧
    ¬ 0 + intvTime (reqLog (following id) 0) ≤ (following (fun m => { m with reqAt := some 0 })).now ∧ tickDue (setReg 0x30000 0x10000 (following id)) = true ∧
    ptpEn (following id) 0 = true ∧ (setReg 0x30000 0x10000 (following id)).settled = true ∧ awake (setReg 0x30000 0x10000 (following id)) = true ∧
    (setReg 0x30000 0x10000 (following id)).sys.st ≠ .cold ∧ (regVal (setReg 0x30000 0x10000 (following id)) 0x30000).getLsbD 1 = false ∧ (regVal (setReg 0x30030 1 (following id)) 0x30030).getLsbD 0 = true ∧
    (dom (following (fun m => { m with servo := .listen })) (following id).ptp.sel).servo ≠ .track ∧ 1600000 < ((1600000 : Int) + clampInt (-160) 160 (-32 * ((499999990 : Nat) - 500000000))).natAbs ∧
    (mPtp (fun p => { p with fireCorr := 1600000 }) (following id)).ptp.fireLimit = false := by decide +kernel

/-! RMP datagrams with a right TAG, made without computing it: what they say stands in the header and the body. -/

theorem beBytes_length (n x : Nat) : (beBytes n x).length = n := by simp [beBytes, leBytes_length]

theorem shaRound_length (kw : Word) : ∀ v : List Word, v.length = 8 → (shaRound v kw).length = 8
  | [_, _, _, _, _, _, _, _], _ => rfl

theorem shaFold_length (l : List Word) : ∀ v : List Word, v.length = 8 → (l.foldl shaRound v).length = 8 := by
  induction l with
  | nil => exact fun _ e => e
  | cons a r ih => exact fun v e => ih _ (shaRound_length a v e)

theorem shaBlock_length (h : List Word) (b : Bytes) (e : h.length = 8) : (shaBlock h b).length = 8 := by
  simp [shaBlock, e, shaFold_length _ h e]

theorem shaBlocks_length : ∀ (n : Nat) (h : List Word) (b : Bytes), h.length = 8 → (shaBlocks n h b).length = 8
  | 0, _, _, e => e
  | n + 1, h, b, e => shaBlocks_length n _ _ (shaBlock_length h _ e)

theorem flat4_length : ∀ l : List Word, (l.flatMap (fun w => beBytes 4 w.toNat)).length = 4 * l.length
  | [] => rfl
  | w :: r => by rw [List.flatMap_cons, List.length_append, flat4_length r, beBytes_length, List.length_cons]; omega

/-- A TAG has 16 bytes (R395). -/
theorem tag_length (k m : Bytes) : ((hmac k m).take 16).length = 16 := by
  rw [List.length_take]
  have h : (hmac k m).length = 32 := by
    unfold hmac sha256
    rw [flat4_length, shaBlocks_length _ _ _ rfl]
  rw [h]; rfl

/-- A header and a body under a key. -/
def sealed (k : Key) (h b : Bytes) : Bytes := h ++ ((hmac k.key (h ++ List.replicate 16 0 ++ b)).take 16 ++ b)

/-- The header of a request of type `ty` with a SEQ, for a device that booted as 0. -/
def head (ty seq n : Nat) : Bytes := beBytes 2 0x524D ++ [1, BitVec.ofNat 8 ty] ++ beBytes 2 (48 + n) ++ [0, 0] ++ beBytes 8 0 ++ beBytes 8 seq ++ beBytes 8 0

/-- A request that key `k` made. -/
def asks (k : Key) (ty : Nat) (b : Bytes) : Bytes := sealed k (head ty 5 b.length) b

theorem sealed_parts (k : Key) (h b : Bytes) (e : h.length = 32) : (sealed k h b).take 32 = h ∧
    ((sealed k h b).drop 32).take 16 = (hmac k.key (h ++ List.replicate 16 0 ++ b)).take 16 ∧ (sealed k h b).drop 48 = b ∧ (sealed k h b).length = 48 + b.length := by
  have t := tag_length k.key (h ++ List.replicate 16 0 ++ b)
  have d : (sealed k h b).drop 32 = (hmac k.key (h ++ List.replicate 16 0 ++ b)).take 16 ++ b := by rw [← e]; exact List.drop_left
  refine ⟨by rw [← e]; exact List.take_left, ?_, ?_, ?_⟩
  · rw [d]; exact (congrArg (fun n => List.take n _) t).symm.trans List.take_left
  · rw [show 48 = 32 + 16 from rfl, ← List.drop_drop, d]; exact (congrArg (fun n => List.drop n _) t).symm.trans List.drop_left
  · simp only [sealed, List.length_append, t, e]; omega

theorem sealed_byte (k : Key) (h b : Bytes) (i : Nat) (l : i < h.length) : byteAt (sealed k h b) i = byteAt h i := by
  simp [byteAt, sealed, List.getElem?_append_left l]

theorem sealed_field (k : Key) (h b : Bytes) (o n : Nat) (l : o + n ≤ h.length) : beAt (sealed k h b) o n = beAt h o n := by
  unfold beAt sealed
  rw [List.drop_append_of_le_length (by omega), List.take_append_of_le_length (by simp; omega)]

/-- What R397 and R399 ask of a request that is served: its TAG is right, its BOOT is the device's, its SEQ is fresh, its role permits it, its reserved
bits are 0 and its body is well-formed. -/
def served (s : State) (k : Key) (ty : Nat) (b : Bytes) : Prop :=
  let d := asks k ty b
  s.settled = true ∧ s.canon = true ∧ awake s = true ∧ takes s rxRmp (rmpPort s) = true ∧ rmpAuth s d = .inr k ∧ byteAt d 3 = ty ∧ d.drop 48 = b ∧
    beAt d 8 8 = s.mgt.boot.toNat ∧ seqVerdict (keyWin s k.id) (beAt d 16 8) = .fresh ∧ rmpPermit k.role ty b = true ∧ byteAt d 7 = 0 ∧ beAt d 24 8 = 0 ∧
    rmpBodyOk ty b = true ∧ 48 ≤ d.length

/-- The same, said of the header and the body. -/
def serves (s : State) (k : Key) (ty : Nat) (b : Bytes) : Bool :=
  let h := head ty 5 b.length
  s.settled && s.canon && awake s && takes s rxRmp (rmpPort s) && decide (rmpKey s (byteAt h 6) = some k) && decide (beAt h 4 2 = 48 + b.length) &&
    decide (beAt h 0 2 = 0x524D) && decide (byteAt h 2 = 1) && decide (byteAt h 3 = ty) && decide (beAt h 8 8 = s.mgt.boot.toNat) &&
    decide (seqVerdict (keyWin s k.id) (beAt h 16 8) = .fresh) && rmpPermit k.role ty b && decide (byteAt h 7 = 0) && decide (beAt h 24 8 = 0) && rmpBodyOk ty b

theorem sealed_auth (s : State) (k : Key) (h b : Bytes) (e : h.length = 32) (l : beAt h 4 2 = 48 + b.length) (m : beAt h 0 2 = 0x524D) (v : byteAt h 2 = 1)
    (f : rmpKey s (byteAt h 6) = some k) : rmpAuth s (sealed k h b) = .inr k := by
  obtain ⟨p, q, r, n⟩ := sealed_parts k h b e
  unfold rmpAuth
  rw [n, sealed_field k h b 4 2 (by omega), sealed_field k h b 0 2 (by omega), sealed_byte k h b 2 (by omega), sealed_byte k h b 6 (by omega), f, p, q, r]
  simp [l, m, v]

theorem head_length (ty seq n : Nat) : (head ty seq n).length = 32 := by simp [head, beBytes_length]

theorem served_of (s : State) (k : Key) (ty : Nat) (b : Bytes) (c : serves s k ty b = true) : served s k ty b := by
  simp only [serves, Bool.and_eq_true, decide_eq_true_eq] at c
  obtain ⟨⟨⟨⟨⟨⟨⟨⟨⟨⟨⟨⟨⟨⟨c0, c1⟩, c2⟩, c3⟩, f⟩, l⟩, m⟩, v⟩, ht⟩, hb⟩, hs⟩, hp⟩, h7⟩, h24⟩, ho⟩ := c
  have e := head_length ty 5 b.length
  obtain ⟨-, -, r, n⟩ := sealed_parts k (head ty 5 b.length) b e
  refine ⟨c0, c1, c2, c3, sealed_auth s k _ b e l m v f, ?_, r, ?_, ?_, hp, ?_, ?_, ho, ?_⟩
  · exact (sealed_byte k _ b 3 (by omega)).trans ht
  · exact (sealed_field k _ b 8 8 (by omega)).trans hb
  · exact (congrArg _ (sealed_field k _ b 16 8 (by omega))).trans hs
  · exact (sealed_byte k _ b 7 (by omega)).trans h7
  · exact (sealed_field k _ b 24 8 (by omega)).trans h24
  · exact Nat.le.intro n.symm

/-- A device whose KEYS record holds one key with a role. -/
def key0 (role : Nat) : Key := ⟨0, role, [1, 2, 3]⟩
def keyed (role : Nat) (s : State) : State := mMgt (fun m => { m with keys := [key0 role] }) s

/-- Slot `i` holds a subscription of a session. -/
def subbed (i : Nat) (ss : Session) (s : State) : State := mMgt (fun m => { m with subs := vmod m.subs i (fun _ => some ⟨ss, 0, 1, 9, [], 0, 0⟩) }) s

def other : Session := ⟨false, 0xC0000209, 4000⟩
def full : State := subbed 0 other (subbed 1 other (subbed 2 other (subbed 3 other (keyed 3 (onDev .ready)))))

/-- Bodies: of a READ, a WRITE of one word, a SWAP, a SUBSCRIBE and a COMMAND. -/
def readB (sp n a : Nat) : Bytes := beBytes 1 sp ++ beBytes 1 n ++ [0, 0] ++ beBytes 4 a
def writeB (sp a v : Nat) : Bytes := readB sp 1 a ++ beBytes 4 v
def swapB (sp a v : Nat) : Bytes := beBytes 1 sp ++ [0, 0, 0] ++ beBytes 4 a ++ beBytes 8 v
def subB (lease : Nat) : Bytes := [1, 0] ++ beBytes 2 lease
def cmdB (c : Nat) : Bytes := beBytes 1 c ++ List.replicate 7 0

/-- Requests that are served: a HELLO, a STATUS, READs and WRITEs of each kind of space, SWAPs, SUBSCRIBEs, and the six COMMANDs, each in the states of R401. -/
theorem witness_RmpServed :
    served (keyed 1 (onDev .ready)) (key0 1) 1 [] ∧ served (keyed 1 (onDev .ready)) (key0 1) 6 [] ∧
    served (keyed 1 (onDev .ready)) (key0 1) 2 (readB 5 64 1048320) ∧ served (keyed 1 (onDev .ready)) (key0 1) 2 (readB 0 1 0) ∧
    served (keyed 2 (onDev .ready)) (key0 2) 3 (writeB 3 1048572 7) ∧ served (keyed 2 (onDev .ready)) (key0 2) 3 (writeB 0 0x20 7) ∧
    served (keyed 2 (onDev .ready)) (key0 2) 4 (swapB 3 1048568 7) ∧ served (keyed 3 (onDev .ready)) (key0 3) 4 (swapB 5 4 7) ∧
    served (keyed 3 (onDev .printing)) (key0 3) 4 (swapB 2 8 7) ∧ served (keyed 3 (onDev .ready)) (key0 3) 4 (swapB 3 1048576 7) ∧
    served (keyed 1 (onDev .ready)) (key0 1) 7 (subB 3600) ∧ served (subbed 0 peer (keyed 1 (onDev .ready))) (key0 1) 7 (subB 9) ∧
    served (subbed 0 peer (keyed 1 (onDev .ready))) (key0 1) 7 (subB 0) ∧ served full (key0 3) 7 (subB 1) ∧
    served (keyed 2 (onDev .printing)) (key0 2) 5 (cmdB 1) ∧ served (keyed 2 (onDev .held)) (key0 2) 5 (cmdB 2) ∧ served (keyed 2 (onDev .held)) (key0 2) 5 (cmdB 3) ∧
    served (keyed 2 (onDev .stopped)) (key0 2) 5 (cmdB 4) ∧ served (keyed 3 (onDev .faulted)) (key0 3) 5 (cmdB 5) ∧ served (keyed 3 (onDev .ready)) (key0 3) 5 (cmdB 5) ∧
    served (keyed 3 (onDev .ready)) (key0 3) 5 (cmdB 6) ∧ served (keyed 3 (mPar (fun p => { p with peerReady := true }) (onPair 1 .ready))) (key0 3) 5 (cmdB 6) ∧
    served (keyed 3 (onGrid 9 (onPair 1 .printing))) (key0 3) 5 (cmdB 1) ∧ served (keyed 3 (onPair 2 .printing)) (key0 3) 5 (cmdB 1) := by
  refine ⟨?_, ?_, ?_, ?_, ?_, ?_, ?_, ?_, ?_, ?_, ?_, ?_, ?_, ?_, ?_, ?_, ?_, ?_, ?_, ?_, ?_, ?_, ?_, ?_⟩ <;> exact served_of _ _ _ _ (by decide +kernel)

/-- What the clauses of the same statement ask of those states. -/
theorem witness_RmpServed_states : 1048320 + 4 * 64 ≤ bankSize 5 ∧ 1048572 + 4 * 1 ≤ bankSize 3 ∧ 1048568 + 8 ≤ bankSize 3 ∧ 1048568 % 8 = 0 ∧ 4 % 8 ≠ 0 ∧ bankSize 3 < 1048576 + 8 ∧
    inPrint (keyed 3 (onDev .printing)) = true ∧ subSlot (keyed 1 (onDev .ready)) peer 0 = none ∧ vget (keyed 1 (onDev .ready)).mgt.subs 0 none = none ∧
    subSlot (subbed 0 peer (keyed 1 (onDev .ready))) peer 0 = some 0 ∧ vget (subbed 0 peer (keyed 1 (onDev .ready))).mgt.subs 0 none = some ⟨peer, 0, 1, 9, [], 0, 0⟩ ∧
    subSlot full peer 0 = none ∧ (∀ j : Fin 4, vget full.mgt.subs j none ≠ none) ∧ beAt (subB 0) 2 2 = 0 ∧ beAt (subB 3600) 2 2 ≠ 0 ∧
    isStandby (keyed 2 (onDev .printing)) = false ∧ isActive (keyed 2 (onDev .printing)) = false ∧ (keyed 2 (onDev .held)).dbg.halted = false ∧
    isActive (onPair 1 .ready) = true ∧ (onPair 1 .ready).par.tethUp = true ∧ beAt (cmdB 6) 4 4 = 0 ∧
    leadLc (onGrid 9 (onPair 1 .printing)) ≠ none ∧ isActive (onGrid 9 (onPair 1 .printing)) = true ∧ ctlLegal (onGrid 9 (onPair 1 .printing)) 1 = true ∧
    isStandby (onPair 2 .printing) = true ∧ ctlLegal (onDev .ready) 1 = false := by decide +kernel

/-- An authentic datagram with header `h` and body `b`, and what it says. -/
def sent (s : State) (k : Key) (h b : Bytes) : Prop :=
  let d := sealed k h b
  s.settled = true ∧ awake s = true ∧ takes s rxRmp (rmpPort s) = true ∧ rmpAuth s d = .inr k ∧ byteAt d 3 = byteAt h 3 ∧ byteAt d 7 = byteAt h 7 ∧ beAt d 8 8 = beAt h 8 8 ∧
    beAt d 16 8 = beAt h 16 8 ∧ beAt d 24 8 = beAt h 24 8 ∧ d.drop 48 = b ∧ d.length = 48 + b.length

def sends (s : State) (k : Key) (h b : Bytes) : Bool :=
  s.settled && awake s && takes s rxRmp (rmpPort s) && decide (h.length = 32) && decide (rmpKey s (byteAt h 6) = some k) && decide (beAt h 4 2 = 48 + b.length) &&
    decide (beAt h 0 2 = 0x524D) && decide (byteAt h 2 = 1)

theorem sent_of (s : State) (k : Key) (h b : Bytes) (c : sends s k h b = true) : sent s k h b := by
  simp only [sends, Bool.and_eq_true, decide_eq_true_eq] at c
  obtain ⟨⟨⟨⟨⟨⟨⟨c0, c1⟩, c2⟩, e⟩, f⟩, l⟩, m⟩, v⟩ := c
  obtain ⟨-, -, r, n⟩ := sealed_parts k h b e
  exact ⟨c0, c1, c2, sealed_auth s k h b e l m v f, sealed_byte k h b 3 (by omega), sealed_byte k h b 7 (by omega), sealed_field k h b 8 8 (by omega),
    sealed_field k h b 16 8 (by omega), sealed_field k h b 24 8 (by omega), r, n⟩

/-- The device has seen SEQ 5: once with its answer kept, once long ago. -/
def replied : State := mMgt (fun m => { m with wins := vmod m.wins 0 (fun w => { w with h := 5, map := [5], replies := [(5, [7])] }) }) (keyed 3 (onDev .ready))
def longAgo : State := mMgt (fun m => { m with wins := vmod m.wins 0 (fun w => { w with h := 69 }) }) (keyed 3 (onDev .ready))
def booted1 : State := mMgt (fun m => { m with boot := 1 }) (keyed 3 (onDev .ready))
def held7 : Bytes := (head 6 5 0).set 7 1

/-- A SEQ that lies 64 behind the highest is a replay, and its request is discarded (R398). -/
theorem replayed : rmpDropped longAgo (asks (key0 3) 6 []) = true := by
  obtain ⟨-, -, -, a, t, -, b, q, -⟩ := sent_of longAgo (key0 3) (head 6 5 0) [] (by decide +kernel)
  show rmpDropped longAgo (sealed (key0 3) (head 6 5 0) []) = true
  unfold rmpDropped
  rw [a]
  simp only [t, b, q]
  decide +kernel

theorem witness_RmpChecks : (onDev .ready).settled = true ∧ awake (onDev .ready) = true ∧ netMode (onDev .ready) 0 ≠ 0 ∧
    rmpDropped (onDev .ready) [] = true ∧ (onDev .ready).mgt.keys = [] ∧ rmpDropped (keyed 3 (onDev .ready)) [] = true ∧ (keyed 3 (onDev .ready)).mgt.keys ≠ [] ∧
    rmpAuth (keyed 3 (onDev .ready)) [] = .inl 1 ∧ rmpAuth (keyed 0 (onDev .ready)) (head 6 5 0 ++ List.replicate 16 0) = .inl 2 ∧
    rmpDropped (keyed 0 (onDev .ready)) (head 6 5 0 ++ List.replicate 16 0) = true ∧ mayLog (keyed 0 (onDev .ready)) Err.rmpAuth 0 (ms 1) = true ∧
    (keyed 0 (onDev .ready)).err.fatalHeld = false ∧ takes (onDev .ready) rxRmp (rmpPort (onDev .ready)) = true ∧ takes (keyed 3 (onDev .ready)) rxRmp (rmpPort (onDev .ready)) = true ∧
    takes (keyed 0 (onDev .ready)) rxRmp (rmpPort (onDev .ready)) = true ∧ frameBad (onDev .ready) 0 { rxRmp.frame with fcs := false } = some .fcs ∧
    frameBad (onDev .ready) 0 { rxRmp.frame with ip := 5 } = none ∧ datagramFor (onDev .ready) { rxRmp with frame := { rxRmp.frame with ip := 5 } } false (rmpPort (onDev .ready)) = false ∧
    beAt (head 6 5 0) 8 8 ≠ booted1.mgt.boot.toNat ∧ byteAt (head 6 5 0) 3 = 6 ∧ seqVerdict (keyWin replied 0) (beAt (head 6 5 0) 16 8) = .again [7] ∧
    beAt (head 6 5 0) 8 8 = replied.mgt.boot.toNat ∧ byteAt (head 0 5 0) 3 = 0 ∧ byteAt (head 8 5 0) 3 = 8 ∧
    seqVerdict (keyWin (keyed 3 (onDev .ready)) 0) (beAt (head 8 5 0) 16 8) = .fresh ∧ rmpPermit 1 5 (cmdB 1) = false ∧ rmpPermit 2 4 (swapB 5 0 0) = false ∧
    byteAt held7 7 ≠ 0 ∧ rmpPermit 3 6 [] = true ∧ rmpBodyOk 7 (subB 3601) = false ∧ rmpPermit 3 7 (subB 3601) = true ∧
    rmpPermit 3 5 [] = true ∧ rmpPermit 3 5 (cmdB 0) = true ∧ byteAt (cmdB 7) 0 = 7 := by decide +kernel

/-- The authentic datagrams of the same statement. -/
theorem witness_RmpChecks_sent : rmpDropped longAgo (asks (key0 3) 6 []) = true ∧ sent booted1 (key0 3) (head 6 5 0) [] ∧ sent replied (key0 3) (head 6 5 0) [] ∧
    sent (keyed 3 (onDev .ready)) (key0 3) (head 0 5 0) [] ∧ sent (keyed 3 (onDev .ready)) (key0 3) (head 8 5 0) [] ∧
    sent (keyed 1 (onDev .ready)) (key0 1) (head 5 5 8) (cmdB 1) ∧ sent (keyed 2 (onDev .ready)) (key0 2) (head 4 5 16) (swapB 5 0 0) ∧
    sent (keyed 3 (onDev .ready)) (key0 3) held7 [] ∧ sent (keyed 3 (onDev .ready)) (key0 3) (head 7 5 4) (subB 3601) ∧
    sent (keyed 3 (onDev .ready)) (key0 3) (head 5 5 0) [] ∧ sent (keyed 3 (onDev .ready)) (key0 3) (head 5 5 8) (cmdB 0) ∧
    sent (keyed 3 (onDev .ready)) (key0 3) (head 5 5 8) (cmdB 7) := by
  refine ⟨replayed, ?_, ?_, ?_, ?_, ?_, ?_, ?_, ?_, ?_, ?_, ?_⟩ <;> exact sent_of _ _ _ _ (by decide +kernel)

/-- A tether frame is a good message of its type, number and body (R424, R426). -/
theorem tethFrame_says (ty q : Nat) (b : Bytes) (t : ty < 256) (r : q < 65536) (l : b.length < 65536) : tethIs ty (tethFrame ty q b) = true ∧
    tethGood b.length (tethFrame ty q b) = true ∧ leAt (tethFrame ty q b) 2 2 = q ∧ ((tethFrame ty q b).drop 6).take b.length = b := by
  have a : tethFrame ty q b = BitVec.ofNat 8 ty :: BitVec.ofNat 8 0 :: (leBytes 2 q ++ (leBytes 2 b.length ++ (b ++ leBytes 4 (crc32c (BitVec.ofNat 8 ty :: BitVec.ofNat 8 0 ::
      (leBytes 2 q ++ (leBytes 2 b.length ++ b)))).toNat))) := by simp [tethFrame, leBytes]
  generalize hc : crc32c (BitVec.ofNat 8 ty :: BitVec.ofNat 8 0 :: (leBytes 2 q ++ (leBytes 2 b.length ++ b))) = c at a
  rw [a]
  refine ⟨by simp [tethIs, byteAt, leBytes_length]; omega, ?_, ?_, ?_⟩
  · simp only [tethGood, Bool.and_eq_true, decide_eq_true_eq]
    refine ⟨⟨by simp [leBytes_length]; omega, ?_⟩, ?_⟩
    · simp [leAt, leBytes, leNat]; omega
    · have e : b.length + 6 = 6 + b.length := by omega
      have k : ∀ (x y : Byte) (g : Bytes), (x :: y :: (leBytes 2 q ++ (leBytes 2 b.length ++ g))).drop (b.length + 6) = g.drop b.length := by
        intro x y g; rw [e, ← List.drop_drop]; rfl
      have w : ∀ (x y : Byte) (g : Bytes), (x :: y :: (leBytes 2 q ++ (leBytes 2 b.length ++ g))).take (b.length + 6)
          = x :: y :: (leBytes 2 q ++ (leBytes 2 b.length ++ g.take b.length)) := by
        intro x y g; simp [leBytes]
      unfold leAt
      rw [k, w, List.drop_left, List.take_left, hc, List.take_of_length_le (by simp [leBytes_length]), leNat_leBytes]
      exact Nat.mod_eq_of_lt c.isLt
  · simp [leAt, leBytes, leNat]; omega
  · simp [leBytes]

/-- A message in order for a paired chip, and what it says. -/
def tells (s : State) (ty : Nat) (b : Bytes) : Prop :=
  let f := tethFrame ty (nextTseq s.par.rxSeq) b
  s.settled = true ∧ s.sys.st ≠ .cold ∧ s.canon = true ∧ paired s = true ∧ s.par.tethUp = true ∧ tethIs ty f = true ∧ tethGood b.length f = true ∧
    leAt f 2 2 = nextTseq s.par.rxSeq ∧ (f.drop 6).take b.length = b

def telling (s : State) (ty : Nat) (b : Bytes) : Bool :=
  s.settled && decide (s.sys.st ≠ .cold) && s.canon && paired s && s.par.tethUp && decide (ty < 256) && decide (nextTseq s.par.rxSeq < 65536) && decide (b.length < 65536)

theorem tells_of (s : State) (ty : Nat) (b : Bytes) (c : telling s ty b = true) : tells s ty b := by
  simp only [telling, Bool.and_eq_true, decide_eq_true_eq] at c
  obtain ⟨⟨⟨⟨⟨⟨⟨c0, c1⟩, c2⟩, c3⟩, c4⟩, t⟩, q⟩, l⟩ := c
  obtain ⟨i, g, n, d⟩ := tethFrame_says ty _ b t q l
  exact ⟨c0, c1, c2, c3, c4, i, g, n, d⟩

/-- Bodies of the messages (R420, R417, R418, R419, R431, R435). -/
def nzlB (n e lc : Nat) : Bytes := leBytes 4 n ++ leBytes 8 e ++ leBytes 5 lc ++ leBytes 3 0
def knotB (kind i x : Nat) : Bytes := leBytes 1 kind ++ leBytes 1 i ++ leBytes 2 0 ++ leBytes 8 x
def doneB (epoch x ctx : Nat) : Bytes := leBytes 4 epoch ++ leBytes 8 x ++ leBytes 4 ctx
def stateB (c lc : Nat) : Bytes := leBytes 1 c ++ leBytes 3 0 ++ leBytes 5 lc ++ leBytes 3 0
def bulkB (bk o : Nat) : Bytes := leBytes 1 bk ++ leBytes 3 0 ++ leBytes 4 o ++ List.replicate 1024 7

/-- A standby, and one that has a road behind it, a grid of one port and a released line. -/
def standby (d : DevState) : State := onPair 2 d
def stood : State := mMs 31 (fun m => { m with stale := true }) (standby .ready)
def late : State := mPort 0 (fun f => { f with first := some 0 }) (mEnc 0 (fun e => { e with rc := 9 }) (mFir (fun f => { f with geo := { f.geo with segs := [segment0] } }) (onGrid 9 (standby .printing))))

theorem witness_TetherMessages : tethIs 2 (tethFrame 2 9 []) = true ∧ paired (onDev .ready) = false ∧ tethGood 20 (tethFrame 2 9 []) = false ∧
    paired (standby .ready) = true ∧ (standby .ready).par.tethUp = true ∧ leAt (tethFrame 2 9 []) 2 2 ≠ nextTseq (standby .ready).par.rxSeq ∧ isStandby (onPair 1 .ready) = false ∧
    isStandby (standby .ready) = true ∧ isStandby (onPair 3 .ready) = true ∧ (onPair 3 .ready).par.copyPos ≤ 8 * leAt (nzlB 0 5 0) 0 4 ∧
    leAt (nzlB 262144 0 0) 0 4 = 262144 ∧ leAt (nzlB 262143 0 0) 0 4 < 262144 ∧ nextLc (standby .ready) (nozPort 262143) = none ∧
    nextLc late (nozPort 4095) = some 9 ∧ late.nzl.queue.length < 64 ∧ 0 ≤ lcDiff (leAt (nzlB 4095 0 9) 12 5) 9 ∧ lcDiff (leAt (nzlB 4095 0 8) 12 5) 9 < 0 := by decide +kernel

/-- Its clauses about the other messages. -/
theorem witness_TetherMessages_clauses : byteAt (knotB 1 31 0) 0 = 1 ∧ byteAt (knotB 1 31 0) 1 = 31 ∧ (milestone (standby .ready) 31).stale = false ∧ (milestone stood 31).stale = true ∧
    bit (msReg stood 31 0) 29 = false ∧ bit (msReg (live (msAddr 31 0) 0x20000000 stood) 31 0) 29 = true ∧
    0 < geoDir late.fir.geo * rcDiff (road late) (sgn 48 (leAt (knotB 2 0 8) 4 8)) ∧ releasedBeyond late (8 * 65536) = true ∧ sgn 48 (leAt (knotB 2 0 8) 4 8) = 8 ∧
    releasedBeyond (mPort 0 (fun f => { f with isOpen := false }) late) (8 * 65536) = false ∧ ¬ 0 < geoDir late.fir.geo * rcDiff (road late) 9 ∧
    byteAt (knotB 1 32 0) 1 = 32 ∧ w32 (leAt (doneB 1 5 6) 0 4) = (standby .ready).sys.epoch + 1 ∧ w32 (leAt (doneB 2 5 6) 0 4) ≠ (standby .ready).sys.epoch + 1 ∧
    (standby .ready).par.lastKnot ≠ some (2, 5, 6) ∧ (w32 (leAt (doneB 2 5 6) 0 4), sgn 48 (leAt (doneB 2 5 6) 4 8), BitVec.ofNat 32 (leAt (doneB 2 5 6) 12 4)) = (2, 5, 6) ∧
    byteAt (stateB 4 0) 0 = 4 ∧ byteAt (stateB 5 0) 0 = 5 ∧ nextLc late (refPort late) ≠ none ∧ nextLc (standby .held) (refPort (standby .held)) = none ∧
    ctlLegal (standby .held) 1 = false ∧ (standby .held).dbg.halted = false ∧ operational (standby .ready) = true ∧ (standby .ready).par.pendSplice = none ∧
    parReady (standby .ready) = true ∧ parReady (mPar (fun p => { p with clear := true }) (standby .ready)) = false ∧ leAt (leBytes 8 7) 0 5 ≠ 0 ∧ leAt (leBytes 8 0) 0 5 = 0 ∧
    (onPair 3 .ready).par.role = 3 ∧ (onPair 3 .ready).fir.grid = none ∧ (onPair 3 .ready).par.heldNzl = [] ∧ byteAt (bulkB 4 0) 0 = 4 ∧ leAt (bulkB 2 2096128) 4 4 = 2096128 ∧
    2096128 + 1024 ≤ bankSize 2 ∧ bankSize 2 < 2096129 + 1024 ∧ leAt (bulkB 3 1047552) 4 4 = 1047552 ∧ 1047552 + 1024 ≤ bankSize 3 ∧ 2097152 + 1047552 + 1024 = 3145728 := by decide +kernel

/-- The messages in order of the same statement. -/
theorem witness_TetherMessages_told : tells (onPair 1 .ready) 2 (nzlB 0 5 0) ∧ tells (onPair 3 .ready) 2 (nzlB 0 5 0) ∧ tells (standby .ready) 2 (nzlB 262144 0 0) ∧
    tells (standby .ready) 2 (nzlB 262143 0 0) ∧ tells late 2 (nzlB 4095 0 9) ∧ tells late 2 (nzlB 4095 0 8) ∧ tells (standby .ready) 3 (knotB 1 31 0) ∧ tells stood 3 (knotB 1 31 0) ∧
    tells (live (msAddr 31 0) 0x20000000 stood) 3 (knotB 1 31 0) ∧ tells late 3 (knotB 2 0 8) ∧ tells (mPort 0 (fun f => { f with isOpen := false }) late) 3 (knotB 2 0 8) ∧
    tells late 3 (knotB 2 0 9) ∧ tells (standby .ready) 3 (knotB 3 0 0) ∧ tells (standby .ready) 3 (knotB 4 0 0) ∧ tells (standby .ready) 3 (knotB 1 32 0) ∧
    tells (standby .ready) 4 (doneB 1 5 6) ∧ tells (standby .ready) 4 (doneB 2 5 6) ∧ tells (standby .ready) 5 (stateB 0 0) ∧ tells (standby .ready) 5 (stateB 5 0) ∧
    tells late 5 (stateB 4 0) ∧ tells (standby .held) 5 (stateB 1 0) ∧ tells (standby .printing) 5 (stateB 1 0) ∧ tells (standby .ready) 5 (stateB 3 0) ∧
    tells (standby .held) 5 (stateB 2 0) ∧ tells (standby .stopped) 5 (stateB 4 0) ∧ tells (standby .ready) 6 (leBytes 8 7) ∧ tells (standby .ready) 6 (leBytes 8 0) ∧
    tells (mPar (fun p => { p with clear := true }) (standby .ready)) 6 (leBytes 8 0) ∧ tells (standby .faulted) 6 (leBytes 8 0) ∧ tells (standby .ready) 7 (bulkB 2 0) ∧
    tells (onPair 3 .ready) 7 (bulkB 4 0) ∧ tells (onPair 3 .ready) 7 (bulkB 2 2096128) ∧ tells (onPair 3 .ready) 7 (bulkB 2 2096129) ∧ tells (onPair 3 .ready) 7 (bulkB 3 1047552) := by
  refine ⟨?_, ?_, ?_, ?_, ?_, ?_, ?_, ?_, ?_, ?_, ?_, ?_, ?_, ?_, ?_, ?_, ?_, ?_, ?_, ?_, ?_, ?_, ?_, ?_, ?_, ?_, ?_, ?_, ?_, ?_, ?_, ?_, ?_, ?_⟩ <;> exact tells_of _ _ _ (by decide +kernel)

/-- A heartbeat's forty bytes with their TAG (R428). -/
def beat (k : Key) (b : Bytes) : Bytes := b ++ (hmac k.key b).take 16

theorem beat_valid (s : State) (k : Key) (b : Bytes) (e : b.length = 40) (h : hbKey s = some k) (m : beAt b 0 2 = 0x5048) (v : byteAt b 2 = 1) (d : byteAt b 5 ≤ 7)
    (f : s.par.hbBoot ≠ some (BitVec.ofNat 64 (beAt b 24 8)) ∨ s.par.hbSeq < beAt b 32 8) : netHbValid s (beat k b) = true := by
  have t := tag_length k.key b
  have x : ∀ i, i < 40 → byteAt (beat k b) i = byteAt b i := fun i l => by simp [byteAt, beat, List.getElem?_append_left (e ▸ l)]
  have y : ∀ o n, o + n ≤ 40 → beAt (beat k b) o n = beAt b o n := fun o n l => by
    unfold beAt beat; rw [List.drop_append_of_le_length (by omega), List.take_append_of_le_length (by simp; omega)]
  have z : (beat k b).drop 40 = (hmac k.key b).take 16 := by rw [← e]; exact List.drop_left
  have w : (beat k b).take 40 = b := by rw [← e]; exact List.take_left
  have n : (beat k b).length = 56 := by unfold beat; rw [List.length_append, t, e]
  unfold netHbValid
  rw [h]
  simp only [n, x 2 (by omega), x 5 (by omega), y 0 2 (by omega), y 24 8 (by omega), y 32 8 (by omega), z, w, m, v]
  simpa [d] using f

/-- A network heartbeat of a pair: flags, role and state, SPLICES 1 and HB_SEQ 1 (R428). -/
def netBeat : Bytes := beBytes 2 0x5048 ++ [1, 7, 1, 4, 0, 0] ++ beBytes 4 1 ++ beBytes 4 0 ++ beBytes 8 0 ++ beBytes 8 3 ++ beBytes 8 1

/-- A tether heartbeat that tells flags `fl`, acknowledges 7 and whose line 5 has a digest (R427). -/
def tethBeat (fl dig : Nat) : Bytes := tethFrame 1 0 (leBytes 1 fl ++ leBytes 1 1 ++ leBytes 1 4 ++ leBytes 1 0 ++ leBytes 4 1 ++ leBytes 4 0 ++ leBytes 2 7 ++ leBytes 2 0 ++ leBytes 5 5 ++ leBytes 3 0 ++ leBytes 4 dig)

/-- A standby with line 5 in its record, and one that sent messages 7 and 8. -/
def kept5 : State := mPar (fun p => { p with portLcs := [(5, [])], unacked := [(7, 0, [2]), (8, 0, [2])] }) (setReg 0x180004 1 (standby .ready))

theorem witness_PairEvents : (standby .ready).settled = true ∧ (standby .ready).sys.st ≠ .cold ∧ paired (standby .ready) = true ∧ (standby .ready).par.tethUp = true ∧
    (standby .ready).par.copying = false ∧ isActive (mPar (fun p => { p with copying := true, peerRole := 3, copyPos := 3145728 }) (onPair 1 .ready)) = true ∧
    3145728 % 1024 = 0 ∧ tethIs 1 (tethBeat 5 1) = true ∧ paired (onDev .ready) = false ∧ tethGood 28 (tethBeat 5 1) = true ∧ leAt (tethBeat 5 1) 2 2 = 0 ∧ byteAt (tethBeat 5 1) 8 ≤ 7 ∧
    tethIs 1 (tethFrame 1 1 []) = true ∧ tethGood 28 (tethFrame 1 1 []) = false ∧ isStandby kept5 = true ∧ operational kept5 = true ∧ kept5.par.pendSplice = none ∧
    bit (regVal kept5 0x180004) 0 = true ∧ parReady kept5 = true ∧ (5 : Nat).testBit 0 = true ∧ (5 : Nat).testBit 2 = true ∧ kept5.par.unacked.any (fun m => m.1 == 7) = true ∧
    lineDigest kept5 5 = some 0 ∧ (0 : Word) ≠ w32 1 ∧ kept5.settled = true ∧ paired kept5 = true ∧ kept5.par.tethUp = true ∧ kept5.sys.st ≠ .cold ∧
    awake (standby .ready) = true ∧ takes (standby .ready) rxBeat (hbPort (standby .ready)) = true ∧ takes (keyed 1 (standby .ready)) rxBeat (hbPort (standby .ready)) = true ∧
    takes (onDev .ready) rxBeat (hbPort (onDev .ready)) = true ∧ datagramFor (standby .ready) rxRmp false (hbPort (standby .ready)) = false ∧
    frameBad (standby .ready) 0 rxRmp.frame = none ∧ netHbValid (keyed 1 (standby .ready)) [] = false := by decide +kernel

/-- A network heartbeat that is valid (R428). -/
theorem witness_PairEvents_net : netHbValid (keyed 1 (standby .ready)) (beat (key0 1) netBeat) = true ∧ (keyed 1 (standby .ready)).settled = true ∧
    paired (keyed 1 (standby .ready)) = true ∧ awake (keyed 1 (standby .ready)) = true ∧ netMode (keyed 1 (standby .ready)) 0 ≠ 0 :=
  ⟨beat_valid _ _ _ (by decide) (by decide +kernel) (by decide) (by decide) (by decide) (.inl (by decide)), by decide +kernel⟩

/-- A standby that is about to take the hitch after a grid whose line 5 its partner told, and an active chip that begins a copy. -/
def taking : State := mPar (fun p => { p with pendSplice := some 3, peerDlc := some 5 }) (mPort 0 (fun f => { f with lastLc := 9 }) (mFir (fun f => { f with everGrid := true }) late))
def copier : State := mPar (fun p => { p with peerRole := 3, unacked := [(1, 0, [2])] }) (onPair 1 .ready)

/-- A standby both of whose paths are valid. -/
def heard : State := mPar (fun p => { p with tMiss := false, nMiss := false }) (standby .ready)

theorem witness_PairEvents_own : heard.par.tMiss = false ∧ heard.par.nMiss = false ∧ heard.settled = true ∧ paired heard = true ∧
    (standby .ready).par.nMiss = true ∧
    (mPar (fun p => { p with nMiss := true, tMiss := false, hitchIn := true }) (standby .ready)).par.hitchIn = true ∧ isStandby (mPar (fun p => { p with nMiss := true, tMiss := false, hitchIn := true }) (standby .ready)) = true ∧
    parReady (mPar (fun p => { p with nMiss := true, tMiss := false, hitchIn := true }) (standby .ready)) = true ∧ parReady (mPar (fun p => { p with clear := true, tMiss := false, hitchIn := true }) (standby .ready)) = false ∧
    copier.par.tethUp = true ∧ (copier.par.unacked.all (fun m => decide (copier.now < m.2.1 + us 30))) = true ∧ ({ copier with now := us 30 }.par.unacked.any (fun m => decide (m.2.1 + us 30 ≤ us 30))) = true ∧
    { copier with now := us 30 }.settled = true ∧ { copier with now := us 30 }.par.tethUp = true ∧ copier.settled = true ∧ copier.err.fatalHeld = false ∧ isActive copier = true ∧ copier.sys.st = .ready ∧ copier.fir.grid = none ∧
    copier.par.peerRole = 3 ∧ copier.par.copying = false ∧ taking.settled = true ∧ isStandby taking = true ∧ taking.par.pendSplice = some 3 ∧ taking.par.hitchOut = false ∧
    0 ∈ geoPorts taking.fir.geo ∧ spliceRange taking 0 = some (6, 9) ∧ taking.err.fatalHeld = false := by decide +kernel

/-! The worked examples of the spec, with its numbers. -/

/-- The layer of 03's example, and a device with its memory. -/
def layer412 : Layer := { layer7 with id := 412, lines := 18944, depth := 2, hlog2 := 10, stripes := (List.range 256).map (fun n => (n, 1024)) }
def am16 : State := { setReg 0x60000 1280 State.reset with plc := ⟨0xFF, 11⟩ }

/-- Where one block lands (03, its example; R104 to R106). -/
theorem test_place : nBlocks layer412 = 19 ∧ rawLen layer412 0 0 = 262144 ∧ frameSize layer412 0 0 = 266496 ∧ frameSize layer412 0 18 = 133376 ∧
    footprint layer412 = 1262157824 ∧ slotFor am16 412 = 5 ∧ slotSize am16 = 1342177280 ∧ frameOff layer412 38 3 = 214795776 ∧
    lsaOf am16 layer412 38 3 0 = 6925682176 ∧ locate am16 6925682176 = (0, 865709568) ∧ (locate am16 (6925682176 + 512)).1 = 1 ∧
    caRow 865709568 = 26419 ∧ caBank 865709568 = 5 := by decide +kernel

/-- The decoder over 04's block of two lines of six bytes: after line 0, after line 1, and at the end (R119). -/
def twoLines (target : Nat) : DecRegs × DecEnd :=
  decRun 6 12 10 (crc32c [0, 0, 0x55, 0xC2, 0x39, 0, 0, 0, 0x55, 0xC2, 0x39, 0xFF]).toNat target 40
    ⟨[], 0, 0, ⟨0, 0, 0⟩, 0xFFFFFFFF, [0x41, 0x02, 0x55, 0xC2, 0x39, 0x42, 0x82, 0x00, 0xFF, 0xFF]⟩

/-- Two lines (04, its example; R114, R117, R119). -/
theorem test_twoLines : (twoLines 6).1.hist.reverse = [0, 0, 0x55, 0xC2, 0x39, 0] ∧ (twoLines 12).1.hist.reverse = [0, 0, 0x55, 0xC2, 0x39, 0, 0, 0, 0x55, 0xC2, 0x39, 0xFF] ∧
    (twoLines 12).1.q = 10 ∧ (match (twoLines 12).2 with | .line => true | _ => false) = true ∧
    lineCodes 2 24 [0, 0, 0x55, 0xC2, 0x39, 0] = [0, 0, 0, 0, 0, 0, 0, 0, 1, 1, 1, 1, 2, 0, 0, 3, 1, 2, 3, 0, 0, 0, 0, 0] ∧
    lineCodes 2 24 [0, 0, 0x55, 0xC2, 0x39, 0xFF] = [0, 0, 0, 0, 0, 0, 0, 0, 1, 1, 1, 1, 2, 0, 0, 3, 1, 2, 3, 0, 3, 3, 3, 3] := by decide +kernel

/-- The registers of 02's rotated head: row 2 of port 9, its row 0 on the datum. -/
def rotated (a : Nat) : Word :=
  if a = base 14 + 0x104 then 0x2A5555 else if a = base 16 + 0x1000 + 4 * 72 then 0x803FF000 else if a = base 16 + 0x1000 + 4 * 74 then 0x803FF800
  else if a = base 16 + 0x1800 + 4 * 74 then 0x04008702 else if a = base 14 + 0x2000 + 4 * 74 then 0x0013E500 else 0

/-- A rotated head (02, its example; R42, R46, R50). -/
theorem test_rotated : segRaw rotated 74 = some ⟨74, 2048, 1024, false, 4, 0, 34562, 0, 0⟩ ∧
    (deriveSeg 2774357 (segE rotated (segsRaw rotated)) ⟨74, 2048, 1024, false, 4, 0, 34562, 0, 0⟩).coarse = 120 ∧
    (deriveSeg 2774357 (segE rotated (segsRaw rotated)) ⟨74, 2048, 1024, false, 4, 0, 34562, 0, 0⟩).phase = 20 := by decide +kernel

/-- The fastest advised speed of a bar whose heads need 10 µs (05, the example after R153). -/
theorem test_speed : (3, 67733) ∈ speedSources (mFir (fun f => { f with geo := { f.geo with segs := [segment0], cpl := 0x2A5555, minp := [5000] } }) (onDev .ready)) := by decide +kernel

/-- The sine table's entries 128, 0 and 256 (12, R334 and the example in it). -/
theorem test_sine : sineWord 128 = 0x01690169 ∧ sineWord 0 = 0x000001FF ∧ sineWord 256 = 0x01FF0000 := by decide +kernel

/-- The servo of 14's example before its Sync. -/
def servo0 : State :=
  mDom 0 (fun m => { m with servo := .track, i := -3276800, d := 1100 * 65536 })
    (setReg 0x30104 0x26030D40 (setReg 0x30118 6 (setReg 0x3011C 0x66666666 (onDev .ready))))

/-- One Sync on domain 0 (14, its example; R389, R391). -/
theorem test_sync : heldOffset ((1250 - 0 - 1100 - 120) * 65536) = 1966080 ∧ (dom (servoCorrect 0 1966080 (-3) servo0) 0).i = -3031040 ∧
    (dom (servoCorrect 0 1966080 (-3) servo0) 0).adj = -901120 ∧ (dom (servoCorrect 0 1966080 (-3) servo0) 0).inc = 6 * 2 ^ 32 + 0x666664ED := by decide +kernel

/-! HMAC against the standard that R395 names (RFC 4231, test case 2: key "Jefe"). -/
theorem test_hmac : hmac [0x4A, 0x65, 0x66, 0x65] [0x77, 0x68, 0x61, 0x74, 0x20, 0x64, 0x6F, 0x20, 0x79, 0x61, 0x20, 0x77, 0x61, 0x6E, 0x74, 0x20, 0x66, 0x6F, 0x72, 0x20,
    0x6E, 0x6F, 0x74, 0x68, 0x69, 0x6E, 0x67, 0x3F] = [0x5B, 0xDC, 0xC1, 0x46, 0xBF, 0x60, 0x75, 0x4E, 0x6A, 0x04, 0x24, 0x26, 0x08, 0x95, 0x75, 0xC7,
    0x5A, 0x00, 0x3F, 0x08, 0x9D, 0x27, 0x39, 0x83, 0x9D, 0xEC, 0x58, 0xB9, 0x64, 0xEC, 0x38, 0x43] := by decide +kernel

/-! One command at a time. -/

/-- A bank word written at the highest place reads back, and one beyond it is not written (R319, R320). -/
theorem test_bank : ends (.bankWrite 3 0 1048572 [1, 2, 3, 4] []) (onDev .ready) (fun t => decide (bankWord t 3 1048572 4 = 0x04030201) && decide (bankByte t 3 0 = 0)) = true ∧
    ends (.bankWrite 3 0 1048573 [1, 2, 3, 4] []) (onDev .ready) (fun t => decide (bankBytes t 3 1048572 4 = [0, 0, 0, 0])) = true := by decide +kernel

/-- A tether message out of order is counted, one in order taken (R424, R426). -/
theorem test_tether : ends (.tetherYield (tethFrame 6 9 (leBytes 8 0))) (standby .ready) (fun t => decide (t.par.cntCrc = 1) && decide (t.par.pendSplice = none)) = true ∧
    ends (.tetherYield (tethFrame 6 1 (leBytes 8 0))) (standby .ready) (fun t => decide (t.par.cntCrc = 0) && decide (t.par.pendSplice = some 2)) = true := by decide +kernel

/-- A forwarded STOP stops a standby at once where no grid is open (R419). -/
theorem test_state : ends (.tetherState (tethFrame 5 1 (stateB 3 0))) (standby .ready) (fun t => decide (t.sys.st = .stopped) && decide (t.sys.prev = .ready)) = true := by decide +kernel

/-- RESET_N asserted takes the device to Cold; its release reads the straps and loads (R34). -/
theorem test_reset : ends .resetAssert (onDev .ready) (fun t => decide (t.sys.st = .cold)) = true ∧
    ends (.resetRelease 1 false) State.reset (fun t => decide (t.sys.st = .loading)) = true := by decide +kernel

end Sys2Proof.Tests
end

section
/-! PROOFS. One knot request at a time (R29): what a write of SYS_KNOT does while a request is pending and what Cancel does, and the
Notice in the log of a refused register write by either master. -/

namespace Sys2Proof.Proofs

open Sys2Proof Sys2Proof.Machine

/-! The log: an entry stays when the error after it is logged (R483). -/

/-- A Notice of this code holds the first sequence number after those of `s` in the log of `t`. -/
def Noted (code : Nat) (s t : State) : Prop := ∃ e ∈ t.err.ring, e.seq = nextSeq s.err.head ∧ e.cls = .notice ∧ e.code = code

/-- Consecutive sequence numbers have different slots of the ring. -/
theorem slotOf_nextSeq_ne (n : Nat) : slotOf n ≠ slotOf (nextSeq n) := by
  unfold slotOf nextSeq
  split <;> omega

/-- Logging one error drops no entry of another slot than its own. -/
theorem mem_ring_logOne {e : LogEntry} {s : State} (x : ErrEv) (he : e ∈ s.err.ring) (hs : slotOf e.seq ≠ slotOf (nextSeq s.err.head)) :
    e ∈ (logOne x s).err.ring := by
  cases hh : s.err.fatalHeld with
  | true => rw [logOne_nest x s hh]; exact he
  | false =>
    rw [logOne_err x s hh]
    exact List.mem_cons_of_mem _ (List.mem_filter.mpr ⟨he, by simpa [mkEntry] using hs⟩)

/-- A Notice that is logged first keeps its entry over one more error. -/
theorem noted_logOne_logOne {s : State} {x : ErrEv} (y : ErrEv) (hh : s.err.fatalHeld = false) (hx : x.cls = .notice) :
    Noted x.code s (logOne y (logOne x s)) := by
  have h1 : (logOne x s).err = enterLog (mkEntry s x) s.err := logOne_err x s hh
  have hm : mkEntry s x ∈ (logOne x s).err.ring := by rw [h1]; exact List.mem_cons_self ..
  have hd : (logOne x s).err.head = (mkEntry s x).seq := by rw [h1]; rfl
  exact ⟨mkEntry s x, mem_ring_logOne y hm (by rw [hd]; exact slotOf_nextSeq_ne _), rfl, hx, rfl⟩

/-- Two errors found in the order of the log are logged one after the other (R483). -/
theorem flush_two {s : State} {x y : ErrEv} (hf : s.err.found = [x, y]) (ho : errLe x y = true) (hc : s.sys.st ≠ .cold) :
    flush s = logOne y (logOne x (mErr (fun e => { e with found := [] }) s)) := by
  have hsort : sortBy errLe [x, y] = [x, y] := by simp [sortBy, insertBy, ho]
  unfold flush
  rw [if_neg hc, hf, hsort]
  rfl

/-- A command that finds a Notice, and at most one more error that the log takes after it, logs the Notice next. -/
theorem noted_closeCmd {s t : State} {x : ErrEv} (hf : t.err.found = [x] ∨ ∃ y, t.err.found = [x, y] ∧ errLe x y = true)
    (hc : t.sys.st ≠ .cold) (hh : t.err.fatalHeld = false) (hd : t.err.head = s.err.head) (hx : x.cls = .notice) :
    Noted x.code s (closeCmd s t) := by
  rcases hf with hf | ⟨y, hf, ho⟩
  · obtain ⟨hhead, e, he, hseq, hcls, hcode⟩ := closeCmd_logged (s := s) hf hc hh hd
    exact ⟨e, he, hseq.trans hhead, hcls.trans hx, hcode⟩
  · unfold Noted
    rw [closeCmd_err, flush_two hf ho hc, ← hd]
    exact noted_logOne_logOne y hh hx

/-! A register write that its rule refuses with a Notice, by RMP or Waypost (R503, R511). -/

/-- Nothing bars a Waypost write of a device that Waypost reaches. -/
theorem waypost_not_barred {s : State} (hm : reaches .waypost s = true) : wpBarred s = false := by
  simp only [reaches, awake, inPrint, Bool.and_eq_true] at hm
  simp only [wpBarred, inPrint]
  cases hst : s.sys.st <;> simp_all

/-- What a refused write closes: the rule's effect, and for Waypost DBG_REFUSED on top of it. -/
theorem refused_next (name : String) {m : Master} {a : Nat} {v : Word} {s u : State} (hm : reaches m s = true) (ha : a % 4 = 0)
    (hb : a < 0x1C0000) (hr : regWrite false a v { s with outbox := [] } = (u, false)) :
    ∃ w, writeCmdAt name m a v s = .next (closeCmd s (emit (.access m .refused v) w)) ∧
      (w = u ∨ w = dbgRefuse (mErr (fun e => { e with found := e.found.filter (·.code != Err.dbgRefused) }) u)) := by
  have hdbg : (a / 0x10000 == 28) = false := by simp; omega
  have hin : ¬(a % 4 ≠ 0 ∨ regOutside a = true) := by simp [ha, regOutside]; omega
  have hc : s.sys.st ≠ .cold := reaches_not_cold hm
  unfold writeCmdAt
  rw [reaches_here hm, event_true, always_next]
  cases m with
  | image => simp [reaches] at hm
  | rmp =>
    refine ⟨u, ?_, .inl rfl⟩
    simp only [accWrite, masterWrite, hdbg, hin, hr, if_false, Bool.false_and, Bool.false_eq_true]
  | waypost =>
    have hwb : wpBarred { s with outbox := [] } = false := waypost_not_barred hm
    refine ⟨_, ?_, .inr rfl⟩
    simp only [accWrite, masterWrite, hdbg, hin, hr, hc, hwb, if_false, Bool.false_and, Bool.false_eq_true, false_and]

/-- DBG_REFUSED is found last, if at all (R484), and leaves the log itself. -/
theorem dbgRefuse_found (s : State) : ((dbgRefuse s).err.found = s.err.found ∨ (dbgRefuse s).err.found = s.err.found ++ [⟨.notice, Err.dbgRefused, []⟩]) ∧
    (dbgRefuse s).err.head = s.err.head := by
  unfold dbgRefuse raiseLim
  split
  · exact ⟨.inr rfl, rfl⟩
  · exact ⟨.inl rfl, rfl⟩

/-- A Notice detected by the effect of a command is all that the command finds. -/
theorem notice_found (code : Nat) {s : State} (hs : s.settled = true) :
    (notice code [] { s with outbox := [] }).err.found = [⟨.notice, code, []⟩] := by
  show s.err.found ++ _ = _
  rw [settled_found hs]; rfl

/-- A write refused with a Notice whose code is below DBG_REFUSED: answered REFUSED, the Notice logged next, and nothing else touched
but the subscribers' queues. -/
theorem notice_refused (name : String) {m : Master} {a : Nat} {v : Word} {code : Nat} {s : State} (hm : reaches m s = true)
    (hs : s.settled = true) (hh : s.err.fatalHeld = false) (ha : a % 4 = 0) (hb : a < 0x1C0000) (hcode : code < Err.dbgRefused)
    (hr : regWrite false a v { s with outbox := [] } = (notice code [] { s with outbox := [] }, false)) :
    ∃ t, writeCmdAt name m a v s = .next t ∧ keepsBut [.err, .mgt] s t ∧ t.outbox = accessed m .refused v s ∧ Noted code s t := by
  have hfound := notice_found code hs
  have hkeep : keepsBut [.err] { s with outbox := [] } (notice code [] { s with outbox := [] }) := notice_keeps _ _ _
  obtain ⟨t, ht, hout, hkt, -⟩ := refused_gives name (ps := []) hm ha hb hr (keepsBut_outbox hkeep) (by simp) rfl (by simp [hfound])
  refine ⟨t, ht, hkt, hout, ?_⟩
  obtain ⟨w, hw, hcase⟩ := refused_next name hm ha hb hr
  obtain rfl : closeCmd s (emit (.access m .refused v) w) = t := Host.Outcome.next.inj (hw.symm.trans ht)
  have hc : s.sys.st ≠ .cold := reaches_not_cold hm
  rcases hcase with rfl | rfl
  · exact noted_closeCmd (t := emit _ (notice code [] { s with outbox := [] })) (x := ⟨.notice, code, []⟩) (.inl hfound) hc hh rfl rfl
  · set u := mErr (fun e => { e with found := e.found.filter (·.code != Err.dbgRefused) }) (notice code [] { s with outbox := [] }) with hu
    have hfu : u.err.found = [⟨.notice, code, []⟩] := by
      rw [hu, mErr_err, hfound]
      simp [Nat.ne_of_lt hcode]
    have hsys : (dbgRefuse u).sys = s.sys := dbgRefuse_keeps u .sys (by decide)
    have hfatal : (dbgRefuse u).err.fatalHeld = false := (dbgRefuse_err u).2.2.2.trans hh
    obtain ⟨hlast, hhead⟩ := dbgRefuse_found u
    rw [hfu] at hlast
    have hle : errLe ⟨.notice, code, []⟩ ⟨.notice, Err.dbgRefused, []⟩ = true := by simp [errLe, Nat.ne_of_lt hcode, hcode]
    exact noted_closeCmd (x := ⟨.notice, code, []⟩) (hlast.imp_right fun h => ⟨_, h, hle⟩) (by rw [emit_sys, hsys]; exact hc) hfatal hhead rfl

/-! A write of SYS_KNOT: its rule (R29), and the command by its outcome. -/

/-- SYS_KNOT is a command of its own rule. -/
theorem regWrite_knot (v : Word) (s : State) : regWrite false 0x100 v s = opKnot v s :=
  regWrite_cmd (by decide) (by simp [heldAtReset]) (knotImmediate_at v s)

section
variable {v : Word} {s : State} (hst : ¬(s.sys.st = .loading ∨ s.sys.st = .verifying)) (hb : isStandby s = false)
include hst hb

/-- A second request is refused with KNOT_BUSY. -/
theorem opKnot_second (hk : bits v 31 30 ≠ 3) (hp : s.sys.pendingKnot.isSome = true) : opKnot v s = (notice Err.knotBusy [] s, false) := by
  simp [opKnot, hst, hb, hk, hp]

/-- Cancel with no request pending finds KNOT_NONE and is answered OK. -/
theorem opKnot_cancel_none (hk : bits v 31 30 = 3) (hp : s.sys.pendingKnot = none) : opKnot v s = (notice Err.knotNone [] s, true) := by
  simp [opKnot, hst, hb, hk, hp]

/-- Cancel of an immediate request is refused with KNOT_BUSY. -/
theorem opKnot_cancel_immediate (hk : bits v 31 30 = 3) (hp : s.sys.pendingKnot = some .immediate) :
    opKnot v s = (notice Err.knotBusy [] s, false) := by
  simp [opKnot, hst, hb, hk, hp]

/-- Cancel withdraws a request that waits for a milestone or a road count. -/
theorem opKnot_cancel_waiting (hk : bits v 31 30 = 3)
    (hp : (∃ k, s.sys.pendingKnot = some (.milestone k)) ∨ (∃ x, s.sys.pendingKnot = some (.roadCount x))) :
    opKnot v s = (knotWithdraw (sendKnotReq 3 0 0 s), true) := by
  rcases hp with ⟨k, hp⟩ | ⟨x, hp⟩ <;> simp [opKnot, hst, hb, hk, hp]

end

/-- A device that a master reaches is past Loading. -/
theorem reaches_not_loading {m : Master} {s : State} (h : reaches m s = true) : s.sys.st ≠ .loading := by
  intro hl
  cases m <;> simp [reaches, awake, hl] at h

section
variable {m : Master} {v : Word} {s : State} (name : String) (hm : reaches m s = true) (hs : s.settled = true)
include hm hs

/-- A write of SYS_KNOT refused with KNOT_BUSY leaves the pending request and all else but the log and the subscribers' queues. -/
theorem knot_busy (hh : s.err.fatalHeld = false)
    (ho : opKnot v { s with outbox := [] } = (notice Err.knotBusy [] { s with outbox := [] }, false)) :
    ∃ t, writeCmdAt name m 0x100 v s = .next t ∧ keepsBut [.err, .mgt] s t ∧ t.outbox = accessed m .refused v s ∧ Noted Err.knotBusy s t :=
  notice_refused name hm hs hh (by decide) (by decide) (by decide) ((regWrite_knot v _).trans ho)

/-- A Cancel that finds KNOT_NONE logs it and changes nothing else but the subscribers' queues. -/
theorem knot_none (hh : s.err.fatalHeld = false)
    (ho : opKnot v { s with outbox := [] } = (notice Err.knotNone [] { s with outbox := [] }, true)) :
    ∃ t, writeCmdAt name m 0x100 v s = .next t ∧ keepsBut [.err, .mgt] s t ∧ Noted Err.knotNone s t := by
  have hfound := notice_found Err.knotNone hs
  refine ⟨_, access_took name hm (by decide) (by decide) ((regWrite_knot v _).trans ho), ?_,
    noted_closeCmd (t := emit _ (notice Err.knotNone [] { s with outbox := [] })) (x := ⟨.notice, Err.knotNone, []⟩)
      (.inl hfound) (reaches_not_cold hm) hh rfl rfl⟩
  have hkeep : keepsBut [.err] s (notice Err.knotNone [] { s with outbox := [] }) := keepsBut_outbox (notice_keeps _ _ _)
  exact keepsBut_mono (closeCmd_keeps_calm (keepsBut_of hkeep (emit_keeps _ _) (by simp)) (by rw [emit_err, hfound]; simp)) (by simp)

/-- A Cancel that withdraws the pending request clears it and its position, and changes nothing else but the pair's messages (R417). -/
theorem knot_withdrawn (ho : opKnot v { s with outbox := [] } = (knotWithdraw (sendKnotReq 3 0 0 { s with outbox := [] }), true)) :
    ∃ t, writeCmdAt name m 0x100 v s = .next t ∧ t.sys = { s.sys with pendingKnot := none, pendingPos := none, knotDue := none } ∧
      keepsBut [.sys, .par] s t := by
  have hc : s.sys.st ≠ .cold := reaches_not_cold hm
  have hsend : keepsBut [.par] { s with outbox := [] } (sendKnotReq 3 0 0 { s with outbox := [] }) := sendKnotReq_keeps _ _ _ _
  have hsys : (knotWithdraw (sendKnotReq 3 0 0 { s with outbox := [] })).sys = { s.sys with pendingKnot := none, pendingPos := none, knotDue := none } := by
    show SysState.mk _ _ _ _ _ _ _ _ _ _ _ _ _ = _
    rw [hsend .sys (by decide)]
  have hkeep : keepsBut [.sys, .par] s (emit (.access m .ok v) (knotWithdraw (sendKnotReq 3 0 0 { s with outbox := [] }))) :=
    keepsBut_of (keepsBut_of (keepsBut_mono (keepsBut_outbox hsend) (by simp)) (mSys_keeps _ _) (by simp)) (emit_keeps _ _) (by simp)
  have hfound := found_nil hs hkeep (by decide)
  have hcold : (emit (.access m .ok v) (knotWithdraw (sendKnotReq 3 0 0 { s with outbox := [] }))).sys.st ≠ .cold := by
    rw [emit_sys, hsys]; exact hc
  exact ⟨_, access_took name hm (by decide) (by decide) ((regWrite_knot v _).trans ho),
    (closeCmd_quiet_parts s hfound hcold).1.trans hsys, closeCmd_keeps_quiet hkeep hfound hcold⟩

end

/-- No milestone's number reaches the kind field of SYS_KNOT. -/
theorem kind_milestone : ∀ n : Ms, bits (w32 (2 ^ 30 + n.val)) 31 30 ≠ 3 := by decide

/-- Cancel's kind. -/
theorem kind_cancel : bits (0xC0000000 : Word) 31 30 = 3 := by decide

/-- Settles O21: the rule of SYS_KNOT for each kind of write, then the command by its outcome. -/
theorem oneKnotRequest : Obligations.OneKnotRequest := by
  unfold Obligations.OneKnotRequest
  intro m n s hm hs hver hb hh
  have hst : ¬(s.sys.st = .loading ∨ s.sys.st = .verifying) := not_or.mpr ⟨reaches_not_loading hm, hver⟩
  refine ⟨fun c hreq hp => ?_, fun hp => ?_, fun hp => ?_, fun hp => ?_⟩
  · have busy (name : String) (v : Word) (hk : bits v 31 30 ≠ 3) :
        ∃ t, writeCmdAt name m 0x100 v s = .next t ∧ keepsBut [.err, .mgt] s t ∧ (∃ v, t.outbox = accessed m .refused v s) ∧ Noted Err.knotBusy s t := by
      obtain ⟨t, ht, hkeep, hout, hnote⟩ := knot_busy name hm hs hh (opKnot_second (s := { s with outbox := [] }) hst hb hk hp)
      exact ⟨t, ht, hkeep, ⟨v, hout⟩, hnote⟩
    rcases hreq with rfl | rfl | rfl
    · exact busy "KNOT_IMMEDIATE" 0 (by decide)
    · exact busy "KNOT_MILESTONE" _ (kind_milestone n)
    · exact busy "KNOT_ROAD_COUNT" 0x80000000 (by decide)
  · exact knot_withdrawn "KNOT_CANCEL" hm hs (opKnot_cancel_waiting (s := { s with outbox := [] }) hst hb kind_cancel hp)
  · exact knot_none "KNOT_CANCEL" hm hs hh (opKnot_cancel_none (s := { s with outbox := [] }) hst hb kind_cancel hp)
  · obtain ⟨t, ht, hkeep, hout, hnote⟩ :=
      knot_busy "KNOT_CANCEL" hm hs hh (opKnot_cancel_immediate (s := { s with outbox := [] }) hst hb kind_cancel hp)
    have hsys : t.sys = s.sys := hkeep .sys (by decide)
    exact ⟨t, ht, by rw [hsys]; exact hp, hkeep, ⟨_, hout⟩, hnote⟩

end Sys2Proof.Proofs
end

section
/-! PROOFS. Bank accesses that break R320: what a grant and a refusal leave of the banks, and the refused command with the Notice in the
log, or without it. -/

namespace Sys2Proof.Proofs

open Sys2Proof Sys2Proof.Machine

/-! The banks under a change of one of them (R318). -/

/-- A field of every bank stays when the change of one bank leaves that field. -/
theorem bank_mBank_field {α : Type} (π : BankSt → α) {f : BankSt → BankSt} (hf : ∀ k, π (f k) = π k) (b d : Nat) (s : State) :
    π (bank (mBank b f s) d) = π (bank s d) := by
  unfold bank
  rw [mBank_mem]
  by_cases hd : d = b
  · subst hd
    by_cases h7 : d < 7
    · rw [vget_vmod_same _ _ _ _ h7, hf]
    · rw [vmod, dif_neg h7]
  · rw [vget_vmod_other _ _ _ _ _ hd]

/-- A line arbiter's round sends nothing. -/
theorem lineRound_outbox (inst : Nat) (req : Nat → Bool) (s : State) : (lineRound inst req s).outbox = s.outbox := by
  unfold lineRound
  split
  · rfl
  · dsimp only
    split <;> rfl

/-- A grant of a bank sends nothing. -/
theorem bankGrant_outbox (b r : Nat) (s : State) : (bankGrant b r s).outbox = s.outbox := by
  unfold bankGrant
  dsimp only
  split
  · rfl
  · exact lineRound_outbox _ _ s

section
variable {α : Type} (π : BankSt → α) (hπ : ∀ (k : BankSt) (v : Vector Word 4), π { k with conf := v } = π k)
include hπ

/-- A line arbiter's round changes only the counts of conflicts of a bank. -/
theorem lineRound_bank (inst : Nat) (req : Nat → Bool) (s : State) (d : Nat) : π (bank (lineRound inst req s) d) = π (bank s d) := by
  unfold lineRound
  split
  · rfl
  · dsimp only
    split
    · rfl
    · exact bank_mBank_field π (fun k => hπ k _) _ d _

/-- So does a grant of a bank (R323 to R326). -/
theorem bankGrant_bank (b r : Nat) (s : State) (d : Nat) : π (bank (bankGrant b r s) d) = π (bank s d) := by
  unfold bankGrant
  dsimp only
  split
  · rfl
  · exact lineRound_bank π hπ _ _ s d

end

/-! The refusal (R320). -/

/-- A grant leaves the error logger. -/
theorem bankGrant_err (b r : Nat) (s : State) : (bankGrant b r s).err = s.err := bankGrant_keeps b r s .err (by decide)

/-- A grant does not decide whether a limited error may be logged (R484). -/
theorem mayLog_bankGrant (b r : Nat) (s : State) (code key per : Nat) : mayLog (bankGrant b r s) code key per = mayLog s code key per := by
  have hnow : (bankGrant b r s).now = s.now := bankGrant_keeps b r s .now (by decide)
  unfold mayLog lastLogged
  rw [bankGrant_err, hnow]

/-- A refusal sends nothing. -/
theorem bankRefuse_outbox (b : Nat) (s : State) : (bankRefuse b s).outbox = s.outbox :=
  (raiseLim_finds Err.bnkAlign b (ms 1) [] _).1

/-- A refusal counts in ALIGN of its bank and changes nothing else of the banks. -/
theorem bankRefuse_mem (b : Nat) (s : State) : (bankRefuse b s).mem = (mBank b (fun k => { k with align := k.align + 1 }) s).mem :=
  raiseLim_keeps .notice Err.bnkAlign b (ms 1) [] _ .mem (by decide)

/-- A refusal that its limit allows finds BNK_ALIGN; the log itself waits for the end of the command (R483). -/
theorem bankRefuse_found {b : Nat} {s : State} (h : mayLog s Err.bnkAlign b (ms 1) = true) :
    (bankRefuse b s).err.found = s.err.found ++ [⟨.notice, Err.bnkAlign, []⟩] ∧ (bankRefuse b s).err.head = s.err.head ∧
      (bankRefuse b s).err.fatalHeld = s.err.fatalHeld := by
  unfold bankRefuse raiseLim
  rw [if_pos (show mayLog (mBank b _ s) Err.bnkAlign b (ms 1) = true from h)]
  exact ⟨rfl, rfl, rfl⟩

/-- Within the limit a refusal finds nothing and leaves the log. -/
theorem bankRefuse_suppressed {b : Nat} {s : State} (h : mayLog s Err.bnkAlign b (ms 1) = false) :
    (bankRefuse b s).err.found = s.err.found ∧ (bankRefuse b s).err.ring = s.err.ring ∧ (bankRefuse b s).err.head = s.err.head := by
  unfold bankRefuse raiseLim
  rw [if_neg (show ¬mayLog (mBank b _ s) Err.bnkAlign b (ms 1) = true from Bool.eq_false_iff.mp h)]
  exact ⟨rfl, rfl, rfl⟩

/-! The refused command. -/

/-- The effect of a bank access that breaks R320: granted, counted and answered with an error. -/
def bankRefused (b r : Nat) (s : State) : State := bankAnswer b r none (bankRefuse b (bankGrant b r s))

/-- A bank operation that breaks alignment or leaves its bank is refused, whatever it would do. -/
theorem bankOp_refused {b o n al : Nat} (h : o % al ≠ 0 ∨ bankSize b < o + n) (r : Nat) (fl : List Flip) (f : State → State) (s : State) :
    bankOp b r o n al fl f s = bankRefused b r s := if_pos h

/-- A command whose operands spell its row runs its effect and closes (log 1). -/
theorem spelled_next {ok : Bool} (h : ok = true) (name : String) (f : State → State) (s : State) :
    spelled ok name f s = .next (closeCmd s (f { s with outbox := [] })) := by
  rw [spelled, h, formed_true, always_next]

/-- Every command that is a bank access runs a bank operation of its length and alignment (R319). -/
theorem bankAccess_next {b : Bank} {r : Fin 4} {o : Nat} {e : List Flip} {c : Instr} {n al : Nat} (ha : bankAccess b r o e c n al)
    (hr : r.val < bankReqs b) (s : State) : ∃ f, exec c s = .next (closeCmd s (bankOp b r o n al e f { s with outbox := [] })) := by
  rcases ha with ⟨rfl, h1, h32, rfl⟩ | ⟨d, rfl, rfl, h1, h32, rfl⟩ | ⟨rfl, rfl, v, rfl | rfl⟩ | ⟨rfl, rfl, v, rfl⟩
  · exact ⟨_, (exec_bankRead ..).trans (spelled_next (by simp [hr, h1, h32]) ..)⟩
  · exact ⟨_, (exec_bankWrite ..).trans (spelled_next (by simp [hr, h1, h32]) ..)⟩
  · exact ⟨_, (exec_bankAdd ..).trans (spelled_next (by simp [hr]) ..)⟩
  · exact ⟨_, (exec_bankAddSat ..).trans (spelled_next (by simp [hr]) ..)⟩
  · exact ⟨_, (exec_bankSwap ..).trans (spelled_next (by simp [hr]) ..)⟩

/-- A refused access changes only the memory block and the logger. -/
theorem bankRefused_keeps (b r : Nat) (s : State) : keepsBut [.err, .mem] s (bankRefused b r s) :=
  keepsBut_of (keepsBut_of (keepsBut_mono (bankGrant_keeps b r s) (by decide)) (bankRefuse_keeps b _) (by decide))
    (bankAnswer_keeps b r none _) (by decide)

/-- A refused access finds at most a Notice. -/
theorem bankRefused_calm (b r : Nat) (s : State) : calm s (bankRefused b r s) :=
  calm_trans (calm_trans (calm_of_keeps (bankGrant_keeps b r s) (by decide)) (bankRefuse_calm b _))
    (calm_of_keeps (bankAnswer_keeps b r none _) (by decide))

/-- A refused access sends the error response alone. -/
theorem bankRefused_outbox (b r : Nat) (s : State) : (bankRefused b r s).outbox = s.outbox ++ [.bank b r none] := by
  show (bankRefuse b (bankGrant b r s)).outbox ++ _ = _
  rw [bankRefuse_outbox, bankGrant_outbox]

/-- The banks after a refused access: those after the grant, with the count of the refused bank. -/
theorem bankRefused_bank (b r : Nat) (s : State) (d : Nat) :
    bank (bankRefused b r s) d = bank (mBank b (fun k => { k with align := k.align + 1 }) (bankGrant b r s)) d := by
  show vget (bankRefuse b (bankGrant b r s)).mem.banks d bankInit = _
  rw [bankRefuse_mem]
  rfl

/-- A refused access leaves the bytes of every bank. -/
theorem bankByte_bankRefused (b r : Nat) (s : State) (d k : Nat) : bankByte (bankRefused b r s) d k = bankByte s d k := by
  have hdata : (bank (bankRefused b r s) d).data = (bank s d).data := by
    rw [bankRefused_bank]
    refine (bank_mBank_field BankSt.data (fun _ => ?_) b d _).trans (bankGrant_bank BankSt.data (fun _ _ => rfl) b r s d)
    rfl
  rw [bankByte, hdata, bankByte]

/-- A refused access counts in ALIGN of its bank. -/
theorem align_bankRefused_same {b : Nat} (hb : b < 7) (r : Nat) (s : State) :
    (bank (bankRefused b r s) b).align = (bank s b).align + 1 := by
  rw [bankRefused_bank, bank, mBank_mem, vget_vmod_same _ _ _ _ hb]
  exact congrArg (· + 1) (bankGrant_bank BankSt.align (fun _ _ => rfl) b r s b)

/-- A refused access leaves ALIGN of the other banks. -/
theorem align_bankRefused_other {b d : Nat} (hd : d ≠ b) (r : Nat) (s : State) :
    (bank (bankRefused b r s) d).align = (bank s d).align := by
  rw [bankRefused_bank, bank, mBank_mem, vget_vmod_other _ _ _ _ _ hd]
  exact bankGrant_bank BankSt.align (fun _ _ => rfl) b r s d

section
variable {b r : Nat} {s : State} (hs : s.settled = true) (hc : s.sys.st ≠ .cold)
include hs hc

/-- A refused access that its limit allows is logged as BNK_ALIGN. -/
theorem logged_bankRefused (hm : mayLog s Err.bnkAlign b (ms 1) = true) (hh : s.err.fatalHeld = false) :
    logged .notice Err.bnkAlign s (closeCmd s (bankRefused b r { s with outbox := [] })) := by
  obtain ⟨hfound, hhead, hfatal⟩ := bankRefuse_found ((mayLog_bankGrant b r { s with outbox := [] } _ _ _).trans hm)
  rw [bankGrant_err] at hfound hhead hfatal
  rw [settled_found hs] at hfound
  exact closeCmd_logged (t := bankRefused b r { s with outbox := [] }) hfound (not_cold hc (bankRefused_keeps b r _) (by decide))
    (hfatal.trans hh) hhead

/-- A refused access within the limit leaves the log. -/
theorem log_bankRefused_suppressed (hm : mayLog s Err.bnkAlign b (ms 1) = false) :
    (closeCmd s (bankRefused b r { s with outbox := [] })).err.ring = s.err.ring ∧
      (closeCmd s (bankRefused b r { s with outbox := [] })).err.head = s.err.head := by
  obtain ⟨hfound, hring, hhead⟩ := bankRefuse_suppressed ((mayLog_bankGrant b r { s with outbox := [] } _ _ _).trans hm)
  rw [bankGrant_err] at hfound hring hhead
  obtain ⟨-, hclose, -⟩ := closeCmd_quiet_parts s (t := bankRefused b r { s with outbox := [] }) (hfound.trans (settled_found hs))
    (not_cold hc (bankRefused_keeps b r _) (by decide))
  rw [hclose]
  exact ⟨hring, hhead⟩

end

/-- Settles O42: every access runs the same bank operation, which refuses it, and closing the command touches no bank. -/
theorem bankAlignment : Obligations.BankAlignment := by
  unfold Obligations.BankAlignment
  intro b r o e s hs hc hr c n al ha hbad
  obtain ⟨f, hexec⟩ := bankAccess_next ha hr s
  rw [bankOp_refused hbad] at hexec
  obtain ⟨-, hkeep, hout⟩ := close_calm hs (bankRefused_keeps b r _) (bankRefused_calm b r _) (by decide)
  have hbank (d : Nat) : bank (closeCmd s (bankRefused b r { s with outbox := [] })) d = bank (bankRefused b r { s with outbox := [] }) d := by
    unfold bank
    rw [closeCmd_mem]
  refine ⟨_, hexec, fun d k => ?_, ?_, keepsBut_mono hkeep (by decide), ?_, fun d hd => ?_, logged_bankRefused hs hc,
    log_bankRefused_suppressed hs hc⟩
  · rw [bankByte, hbank]
    exact bankByte_bankRefused b r { s with outbox := [] } d k
  · rw [hout, bankRefused_outbox]
    rfl
  · rw [hbank]
    exact align_bankRefused_same b.isLt r { s with outbox := [] }
  · rw [hbank]
    exact align_bankRefused_other (Fin.val_ne_of_ne hd) r { s with outbox := [] }

end Sys2Proof.Proofs
end

section
/-! PROOFS. Accesses at an address that names no word of a window, misaligned or beyond the windows (R509, R510): what each master is
answered, and that the state stays. -/

namespace Sys2Proof.Proofs

open Sys2Proof Sys2Proof.Machine

/-- The answer of a master's access at an address that names no word of a window (R509, R510). -/
def noWordAnswer : Master → AccRes
  | .rmp => .badParam
  | .image | .waypost => .error

section
variable {a : Nat} (ha : a % 4 ≠ 0 ∨ regOutside a = true) (m : Master) (v : Word) (s : State)
include ha

/-- Such an address is one at which R463 rejects a REG entry. -/
theorem imageRegBad_noWord : imageRegBad a = true := by
  unfold imageRegBad
  rcases ha with h | h <;> simp [h]

/-- The alignment and the window are tested before the device state and before any register's rule. -/
theorem masterWrite_noWord : masterWrite m a v s = (s, noWordAnswer m) := by
  unfold masterWrite
  cases m with
  | image => exact if_pos (imageRegBad_noWord ha)
  | rmp => exact if_pos ha
  | waypost => exact if_pos ha

/-- A read has no effect either, and reads 0. -/
theorem masterRead_noWord : masterRead m a s = (0, s, noWordAnswer m) := by
  unfold masterRead
  cases m with
  | image => exact if_pos ha
  | rmp => exact if_pos ha
  | waypost => exact if_pos ha

/-- The command of such a write by a master other than the image only answers. -/
theorem accWrite_noWord {m : Master} (hm : m ≠ .image) : accWrite m a v s = emit (.access m (noWordAnswer m) v) s := by
  unfold accWrite
  rw [masterWrite_noWord ha]
  cases m with
  | image => exact absurd rfl hm
  | rmp => rfl
  | waypost => rfl

end

/-- REGISTER_WRITE at such an address: the answer is sent and the state stays. -/
theorem registerWrite_noWord {m : Master} {a : Word} {s : State} (ha : a.toNat % 4 ≠ 0 ∨ regOutside a.toNat = true) (v : Word)
    (hm : m ≠ .image) (hhere : masterHere m s = true) (hs : s.settled = true) (hc : s.sys.st ≠ .cold) :
    exec (.registerWrite m a v) s = .next { s with outbox := accessed m (noWordAnswer m) v s } := by
  rw [exec_registerWrite]
  exact event_next hhere hs hc (accWrite_noWord ha v _ hm) rfl rfl rfl rfl

/-- Settles O11: the test of the address comes first in every master's read and write, and a write that only answers closes to that answer. -/
theorem misalignedAccess : Obligations.MisalignedAccess := by
  unfold Obligations.MisalignedAccess
  intro a v s hbad
  have ha : a.toNat % 4 ≠ 0 ∨ regOutside a.toNat = true := hbad.imp_right decide_eq_true
  refine ⟨masterWrite_noWord ha .rmp v s, masterRead_noWord ha .rmp s, masterWrite_noWord ha .waypost v s,
    masterRead_noWord ha .waypost s, fun hs hc => ⟨fun hawake => ?_, ?_⟩⟩
  · exact registerWrite_noWord ha v (m := .rmp) (by decide) hawake hs hc
  · exact registerWrite_noWord ha v (m := .waypost) (by decide) rfl hs hc

end Sys2Proof.Proofs
end
